-- ==== Sys2Proof/Word.lean ====
section
/-! DEFINITION. The words of the device: bytes, 32-bit words (registers, instructions, control
registers) and 64-bit words (floating-point registers). -/

namespace Sys2Proof

/-- A byte of memory or of a packet. -/
abbrev Byte := BitVec 8

/-- A 32-bit word: an integer register, a special register or a control register (R9, R274). -/
abbrev Word := BitVec 32

/-- A 64-bit word: a floating-point register (R275). -/
abbrev DWord := BitVec 64

end Sys2Proof
end

