-- ==== Sys2Proof/Syntax.lean ====
section
/-! DEFINITION. The commands of the block: one constructor of `Instr` for each row of
spec/opcode_table.json, with the operands that the rules give the command.

A command is what the outside of the block does to it (a write or read of a register, a frame on a
port, a message of another device), what one of its own agents does next (a slice takes a request, an
engine ends a job, a unit executes an instruction), or a time that passes (an operand `t`, in ns on the
time base).  Every command is a step of its own; R1 to R21 say which agent does it. -/

namespace Sys2Proof

/-- Who makes an access to control space or submits a job there (R9, R10, R12, R272, R565). -/
inductive Master where
  | firmware | headland | executive | debugger | mechanism
  deriving DecidableEq, Repr

/-- The two balls with two functions each (R631). -/
inductive SharedPin where
  | tickIn | tickOut
  deriving DecidableEq, Repr

/-- The peer of a Swath session: its address (16 bytes, an IPv4 address in its mapped form) and UDP
port (R202). -/
structure Peer where
  addr : List Byte
  port : Nat
  deriving DecidableEq, Repr

/-- A session by its kind, plot and number (R202). -/
structure SessRef where
  event  : Bool
  plot   : Nat
  number : Nat
  deriving DecidableEq, Repr

/-- A transaction as the stake slices know it: device, slot and age (R95, R104), and the attempt, for which alone a wound
or an answer is meant (R107, R116). -/
structure Party where
  dev   : Nat
  slot  : Nat
  stamp : Nat
  seq   : Nat
  attempt : Nat
  deriving DecidableEq, Repr

/-- A message about a stake of a transaction, and the device that sent it (R105, R106, R116). -/
structure StakeMsg where
  dev : Nat
  who : Party
  deriving DecidableEq, Repr

/-- The header of a transfer on the Evral port, after SYNC (R566). -/
structure EvralHead where
  oper : Nat
  addr : Nat
  hcrc : Nat
  deriving DecidableEq, Repr

/-- Register format (R290). -/
structure RegF where
  rd : BitVec 5
  ra : BitVec 5
  rb : BitVec 5
  fc : BitVec 5
  deriving DecidableEq, Repr

/-- Immediate format (R290). -/
structure ImmF where
  rd  : BitVec 5
  ra  : BitVec 5
  imm : BitVec 16
  deriving DecidableEq, Repr

/-- Shift format (R290). -/
structure ShiF where
  rd    : BitVec 5
  ra    : BitVec 5
  shamt : BitVec 5
  rsv   : BitVec 9
  deriving DecidableEq, Repr

/-- Memory format (R290). -/
structure MemF where
  rd   : BitVec 5
  ra   : BitVec 5
  sp   : BitVec 2
  disp : BitVec 14
  deriving DecidableEq, Repr

/-- Branch format (R290). -/
structure BrcF where
  ra   : BitVec 5
  rb   : BitVec 5
  disp : BitVec 16
  deriving DecidableEq, Repr

/-- Jump format (R290). -/
structure JmpF where
  disp : BitVec 26
  deriving DecidableEq, Repr

/-- System format (R290). -/
structure SysF where
  rd  : BitVec 5
  ra  : BitVec 5
  sr  : BitVec 8
  rsv : BitVec 2
  deriving DecidableEq, Repr

/-- Cache line format (R290, R416). -/
structure CacF where
  ra   : BitVec 5
  sp   : BitVec 2
  disp : BitVec 14
  deriving DecidableEq, Repr

/-- Cache range format (R290, R417). -/
structure CrgF where
  ra  : BitVec 5
  sp  : BitVec 2
  rb  : BitVec 5
  rsv : BitVec 9
  deriving DecidableEq, Repr

/-- Storage-operand format (R290): RD and SP name the target operand, RA and SP2 the source. -/
structure OpsF where
  rd  : BitVec 5
  ra  : BitVec 5
  rb  : BitVec 5
  sp  : BitVec 2
  sp2 : BitVec 2
  rsv : BitVec 1
  deriving DecidableEq, Repr

/-- The errors on which a pair retries (R364, R367): a comparison mismatch with its group, parity in
the delay unit, parity in a core, a self-check of a comparator. -/
inductive PairError where
  | mismatch (group : Nat) | delayParity | coreParity (core : Nat) | selfCheck | storeBuffer
  deriving DecidableEq, Repr

/-- How far a store has come (R386): in the buffer of its unit, visible to its pair, or to its cluster. -/
inductive Scope where
  | unit | pair | cluster
  deriving DecidableEq, Repr

/-- Statuses of a Warp response (R436). -/
inductive WarpStatus where
  | ok | poison | timeout | domainOff | unroutable | decode
  deriving DecidableEq, Repr

/-- An access of a unit: the unit, the SP field and the effective address. -/
structure UnitAccess where
  unit : Nat
  sp   : Nat
  ea   : Nat
  deriving DecidableEq, Repr

/-- What a cache fill is for (R414, R419). -/
inductive FillFor where
  | load | fetch | store | preload | prefetch
  deriving DecidableEq, Repr

/-- How a home answers a remote access (R531, R532): performed, POISON, or refused by the limit of line entries. -/
inductive RecAnswer where
  | ok | poison | refused
  deriving DecidableEq, Repr

/-- How a read of memory ends: good, corrected, or poisoned (R423). -/
inductive ReadResult where
  | ok | corrected | poison
  deriving DecidableEq, Repr

/-- Errors found in a line of a cluster cache (R421): flipped data bits, tag parity, flipped bits of the
state array. -/
inductive L2Error where
  | data (flipped : Nat) | tag | state (flipped : Nat)
  deriving DecidableEq, Repr

/-- Errors found in a scratchpad word (R426). -/
inductive SpError where
  | corrected | uncorrectable
  deriving DecidableEq, Repr

/-- Errors that stop a cipher job from outside its own data (R476). -/
inductive CphFail where
  | none | memory | engine
  deriving DecidableEq, Repr

/-- The MACsec protection of a received frame (R192): none, or a SecTAG with its receive channel, AN and packet
number, and whether its ICV is that of the key of the SA. The bytes of the frame are those under it. -/
inductive SecTag where
  | plain | tagged (chan an pn : Nat) (ok : Bool)
  deriving DecidableEq, Repr

/-- A remote stake message that needs no answer (R106, R116): the wound of one holder, or by key, with the age of the
requester (R105). -/
inductive FwdKind where
  | release | withdraw | wound | woundByKey | grant (code : Nat)
  deriving DecidableEq, Repr

/-- What a Weft receiver finds wrong with a flit (R520, R521, R540): an error that FEC corrects, a CRC that fails
after it, a gap in SEQ. -/
inductive FlitError where
  | corrected | crc | gap
  deriving DecidableEq, Repr

/-- What a boot stage finds outside the state (R382, R384, R544, R548): the images of the boot flash (the key is twice
the kind of R544 plus the copy), the pairs whose comparator fails its test with the first failing group (96 is the
Steward), the pairs whose control store fails its checks twice, the DRAM channels as MEM_CHSTATn will show them, and
whether MRAM takes a boot record. -/
structure StageInput where
  images   : List (Nat × List Byte)
  badCmp   : List (Nat × Nat)
  badLoads : List Nat
  channels : List (Nat × Word)
  mramOk   : Bool
  deriving DecidableEq, Repr

/-- The commands (one per row of spec/opcode_table.json). `u` numbers a unit: 2 times its pair, plus
1 for core 1 of a split pair. -/
inductive Instr where
  /-- A write of a control register (R12 to R14). -/
  | registerWrite (m : Master) (off : Nat) (v : Word)
  /-- A read of the _LO word of a pair (R11). -/
  | regPairLoRead (m : Master) (off : Nat)
  /-- A read of the _HI word of a pair (R11). -/
  | regPairHiRead (m : Master) (off : Nat)
  /-- A write of the _LO word of a pair (R11). -/
  | regPairLoWrite (m : Master) (off : Nat) (v : Word)
  /-- A write of the _HI word of a pair (R11). -/
  | regPairHiWrite (m : Master) (off : Nat) (v : Word)
  /-- The losing function of a shared ball takes it once the winner is off (R21, R631). -/
  | resourceTake (pin : SharedPin)
  /-- A rising edge accepted by the filter of TICK_IN at time t (R46, R47). -/
  | tickInEdge (t : Nat)
  /-- A tick symbol arrives on a Weft link with the root's time for the tick (R82). -/
  | tickSymbol (t link carried : Nat)
  /-- A tick due at or before t occurs (R44, R54). -/
  | tick (t : Nat)
  /-- The acceptance window closes at t (R48). -/
  | tickWindowClose (t : Nat)
  /-- The high time of TICK_OUT ends (R50). -/
  | tickOutEnd (t : Nat)
  /-- The write of a new epoch reservation to MRAM completes (R53). -/
  | reservationWritten
  /-- A pair's close marker reaches the journal engine (R58). -/
  | closeMarker (pair : Nat)
  /-- A cluster's seal write-back completes (R60). -/
  | sealWritebackDone (cluster : Nat)
  /-- The hash of the sheaf completes, or the engine fails (R139, R76). -/
  | sealHashDone (err : Bool)
  /-- The MAC of the sheaf completes; or the engine fails, or the trailer's write does (R139, R143). -/
  | sealMacDone (err ue : Bool)
  /-- A partner's acknowledgement of a sheaf arrives (R61). -/
  | sheafAck (t link epoch : Nat)
  /-- The limit of TCK_SEALFAIL passes (R76). -/
  | sealFailLimit (t : Nat)
  /-- The restore of a rollback is complete (R79). -/
  | rollbackRestoreDone
  /-- A transaction's core time reaches its budget (R69). -/
  | budgetExpire (t unit : Nat)
  /-- The round trip of the uplink is measured (R83). -/
  | linkDelayMeasure (roundTrip : Nat)
  /-- The inputs pending at a unit's boundary act (R298). -/
  | asyncInputAtBoundary (unit : Nat)
  /-- A slice takes the oldest STAKE request sent to it; ue: the bucket of its probe window, counted from the home bucket, in which the read finds an uncorrectable error (R94, R103, R119). -/
  | sliceRequest (slice : Nat) (ue : Option Nat)
  /-- A slice takes the oldest release or withdrawal sent to it (R111, R115). -/
  | sliceRelease (slice : Nat) (ue : Option Nat)
  /-- A slice's answer reaches the stake cache of a transaction (R103). -/
  | stakeGrant (slot : Nat)
  /-- A wound reaches a transaction slot (R106, R107). -/
  | woundPresent (slot : Nat)
  /-- STK_REMOTE.TIMEOUT passes for a unit's remote STAKE (R116). -/
  | remoteStakeTimeout (t unit : Nat)
  /-- A write of STK_CTRL with CLEAR set (R120). -/
  | stkClear (m : Master) (v : Word)
  /-- The clear of the stake table completes (R120). -/
  | stakeTableCleared
  /-- The journal engine takes the oldest waiting capture buffer; ue: an uncorrectable ring error (R130, R143). -/
  | captureAccept (ue : Bool)
  /-- The space of sheaves whose conditions hold at t is freed (R141). -/
  | sheafRetainExpire (t : Nat)
  /-- A write of JNL_CTRL with INIT set (R144). -/
  | jnlInit (m : Master) (v : Word)
  /-- The initialisation of the journal completes (R144). -/
  | jnlReady
  /-- The Sower looks a submission up in the request index (R147). -/
  | requestIndexLookup (plot queue slotNo : Nat)
  /-- The sheaf key of a generation is derived (R140). -/
  | sheafKeyDerive (gen : Nat)
  /-- A copy of a partner's sheaf arrives (R149). -/
  | sheaf (link : Nat) (bytes : List Byte) (ue : Bool)
  /-- The partner's seal-complete notice arrives with its cursors (R150, R180). -/
  | sealCompleteNotice (epoch cursor1 cursor2 : Nat)
  /-- The applier finishes writing the next sheaf it may apply (R150). -/
  | sheafApplyDone
  /-- The partner's rollback notice arrives (R150, R174). -/
  | rollbackNotice (first second : Nat)
  /-- The survivor's hand-back notice arrives (R182). -/
  | handbackNotice (epoch : Nat)
  /-- A heartbeat arrives (R165, R166). -/
  | heartbeat (t link : Nat) (bytes : List Byte)
  /-- The junior's added delay passes (R171). -/
  | juniorDelayExpire (t : Nat)
  /-- Step A of a takeover completes (R172). -/
  | takeoverStepADone (t : Nat) (ok : Bool)
  /-- Step B of a takeover completes (R172). -/
  | takeoverStepBDone (t : Nat) (ok : Bool)
  /-- LEASEWAIT ends (R172). -/
  | leasewaitExpire (t : Nat)
  /-- Adoption is complete (R172). -/
  | adoptComplete
  /-- The next announcement of a plot's addresses is due (R175). -/
  | addressAnnounce (t plot : Nat)
  /-- The time base reaches TWN_LEASEEND (R169). -/
  | leaseEnd (t : Nat)
  /-- A Reservation Report issued at a time completes, naming the holder's device ID (R167, R169). -/
  | reservationReportDone (t issued : Nat) (holder : Option Nat)
  /-- The partner confirms a mirrored copy (R161). -/
  | descMirrorConfirm (tag : Nat)
  /-- 1 ms has passed since a copy was sent (R161). -/
  | descMirrorTimeout (t tag : Nat)
  /-- The read of the next chunk of a copy completes (R180). -/
  | rebuildChunkRead
  /-- A chunk arrives from the copying device (R180). -/
  | rebuild (phase chunk : Nat) (bytes : List Byte)
  /-- The return hold-off runs out (R181). -/
  | holdoffExpire (t : Nat)
  /-- A write of 1 to TWN_CTRL.RETURN_NOW (R181). -/
  | returnNow (m : Master)
  /-- An Ethernet frame arrives, without its FCS; room: the free bytes of the receive buffer of its priority (R189 to R195). -/
  | frameReceive (t port : Nat) (fcsOk : Bool) (sec : SecTag) (room : Nat) (bytes : List Byte)
  /-- A PFC frame arrives: priorities and pause times in ns (R195). -/
  | macControlFrame (t port : Nat) (quanta : List (Nat × Nat))
  /-- A read of ETH_TSINFOn (R198, R221). -/
  | tsinfoRead (m : Master) (port : Nat)
  /-- A read of ETH_TSn_HI (R198, R221). -/
  | tsHiRead (m : Master) (port : Nat)
  /-- A Swath OPEN arrives (R202). -/
  | swathOpen (t port pcp : Nat) (peer : Peer) (bytes : List Byte)
  /-- A Swath CMD arrives (R208). -/
  | swathCmd (t port pcp : Nat) (peer : Peer) (bytes : List Byte)
  /-- A Swath ACK arrives (R208). -/
  | swathAck (t port pcp : Nat) (peer : Peer) (bytes : List Byte)
  /-- A Swath CLOSE arrives (R204). -/
  | swathClose (t port pcp : Nat) (peer : Peer) (bytes : List Byte)
  /-- ETH_ACK.DELAY passes on a session (R209). -/
  | ackDelayExpire (t : Nat) (ref : SessRef)
  /-- The ACK of a window that rose from 0 is repeated (R209). -/
  | windowAckRepeat (t : Nat) (ref : SessRef)
  /-- ETH_RTO.RTO passes without an advance (R210). -/
  | retransmitTimeout (t : Nat) (ref : SessRef)
  /-- COAL_USEC passes on an event session (R217). -/
  | coalesceTimeout (t : Nat) (ref : SessRef)
  /-- RETAIN seconds pass for the packets of an ended session (R205). -/
  | heldPacketExpire (t : Nat) (ref : SessRef)
  /-- RETAIN seconds pass for completions held for a channel (R219). -/
  | heldCompletionExpire (t plot channel : Nat)
  /-- An enabled port loses its link (R221). -/
  | portLinkDown (port : Nat)
  /-- A free unit asks the Sower for its next request (R239, R242). -/
  | dispatch (t unit : Nat)
  /-- The next firmware-interpreted command of a queue is handed to the Steward (R268). -/
  | commandHandoff (plot queue : Nat)
  /-- Steps 2 to 4 of a plot reset are done (R244). -/
  | plotResetDrainDone (plot : Nat)
  /-- A write of PLT_CTRL with INIT set (R249). -/
  | pltInit (m : Master) (v : Word)
  /-- The tables are cleared (R249). -/
  | pltReady
  /-- A write of SOW_PAIRn (R241). -/
  | sowPairWrite (m : Master) (pair : Nat) (v : Word)
  /-- The Sower checks a submission on its ring (R260). -/
  | txnSubmit (plot queue slotNo : Nat)
  /-- The Steward runs the NOP handed to it from a queue (R266, R267). -/
  | nop (plot queue : Nat)
  /-- The Steward runs the CONTINUE handed to it from a queue (R266, R267). -/
  | contCmd (plot queue : Nat)
  /-- The Steward runs the GET_INFO handed to it from a queue (R266, R267). -/
  | getInfo (plot queue : Nat)
  /-- The Steward runs the PLOT_CREATE handed to it from a queue (R266, R267). -/
  | plotCreate (plot queue : Nat)
  /-- The Steward runs the PLOT_DESTROY handed to it from a queue (R266, R267). -/
  | plotDestroy (plot queue : Nat)
  /-- The Steward runs the PLOT_RESET handed to it from a queue (R266, R267). -/
  | plotReset (plot queue : Nat)
  /-- The Steward runs the PLOT_SET_SHARE handed to it from a queue (R266, R267). -/
  | plotSetShare (plot queue : Nat)
  /-- The Steward runs the PLOT_SET_ADDR handed to it from a queue (R266, R267). -/
  | plotSetAddr (plot queue : Nat)
  /-- The Steward runs the PLOT_GET handed to it from a queue (R266, R267). -/
  | plotGet (plot queue : Nat)
  /-- The Steward runs the SPACE_SET handed to it from a queue (R266, R267). -/
  | spaceSet (plot queue : Nat)
  /-- The Steward runs the QUEUE_CREATE handed to it from a queue (R266, R267). -/
  | queueCreate (plot queue : Nat)
  /-- The Steward runs the QUEUE_DESTROY handed to it from a queue (R266, R267). -/
  | queueDestroy (plot queue : Nat)
  /-- The Steward runs the QUEUE_GET handed to it from a queue (R266, R267). -/
  | queueGet (plot queue : Nat)
  /-- The Steward runs the LIB_LOAD handed to it from a queue (R266, R267). -/
  | libLoad (plot queue : Nat)
  /-- The Steward runs the LIB_SET_ENTRY handed to it from a queue (R266, R267). -/
  | libSetEntry (plot queue : Nat)
  /-- The Steward runs the EXEC_LOAD handed to it from a queue (R266, R267). -/
  | execLoad (plot queue : Nat)
  /-- The Steward runs the REG_READ handed to it from a queue (R266, R267). -/
  | regRead (plot queue : Nat)
  /-- The Steward runs the REG_WRITE handed to it from a queue (R266, R267). -/
  | regWrite (plot queue : Nat)
  /-- The Steward runs the GET_BOOT_RECORD handed to it from a queue (R266, R267). -/
  | getBootRecord (plot queue : Nat)
  /-- The Steward runs the ATTEST handed to it from a queue (R266, R267). -/
  | attest (plot queue : Nat)
  /-- The Steward runs the ALMANAC_READ handed to it from a queue (R266, R267). -/
  | almanacRead (plot queue : Nat)
  /-- The Steward runs the GLEANER_READ handed to it from a queue (R266, R267). -/
  | gleanerRead (plot queue : Nat)
  /-- The Steward runs the GLEANER_CLEAR handed to it from a queue (R266, R267). -/
  | gleanerClear (plot queue : Nat)
  /-- The Steward runs the TWIN_PAIR handed to it from a queue (R266, R267); `common` says whether the other device uses a plot number or allots a key group of this one (R159, R479). -/
  | twinPair (plot queue : Nat) (common : Bool)
  /-- The Steward runs the TWIN_UNPAIR handed to it from a queue (R266, R267). -/
  | twinUnpair (plot queue : Nat)
  /-- The Steward runs the TWIN_RETURN handed to it from a queue (R266, R267). -/
  | twinReturn (plot queue : Nat)
  /-- The Steward runs the TWIN_STATUS handed to it from a queue (R266, R267). -/
  | twinStatus (plot queue : Nat)
  /-- The Steward runs the PAIR_SPLIT handed to it from a queue (R266, R267). -/
  | pairSplit (plot queue : Nat)
  /-- The Steward runs the PAIR_REJOIN handed to it from a queue (R266, R267). -/
  | pairRejoin (plot queue : Nat)
  /-- The Steward runs the PAIR_RESERVE handed to it from a queue (R266, R267). -/
  | pairReserve (plot queue : Nat)
  /-- The Steward runs the SPARE_SET handed to it from a queue (R266, R267). -/
  | spareSet (plot queue : Nat)
  /-- The Steward runs the KEY_UNWRAP handed to it from a queue (R266, R267). -/
  | keyUnwrap (plot queue : Nat)
  /-- The Steward runs the KEY_ERASE handed to it from a queue (R266, R267). -/
  | keyErase (plot queue : Nat)
  /-- The Steward runs the MACSEC_SA_SET handed to it from a queue (R266, R267). -/
  | macsecSaSet (plot queue : Nat)
  /-- The Steward runs the MACSEC_SA_CLEAR handed to it from a queue (R266, R267). -/
  | macsecSaClear (plot queue : Nat)
  /-- The Steward runs the PATH_SET handed to it from a queue (R266, R267). -/
  | pathSet (plot queue : Nat)
  /-- The Steward runs the PATH_GET handed to it from a queue (R266, R267). -/
  | pathGet (plot queue : Nat)
  /-- The Steward runs the LIFECYCLE_REQ handed to it from a queue (R266, R267). -/
  | lifecycleReq (plot queue : Nat)
  /-- The device reset that follows a lifecycle change (R562, R618). -/
  | lifecycleReset
  /-- The Steward runs the DEBUG_AUTH handed to it from a queue (R266, R267). -/
  | debugAuth (plot queue : Nat)
  /-- The Steward runs the TICK_SET handed to it from a queue (R266, R267). -/
  | tickSet (plot queue : Nat)
  /-- ADD (R291, chapter 10). -/
  | add (u : Nat) (f : RegF)
  /-- SUB (R291, chapter 10). -/
  | sub (u : Nat) (f : RegF)
  /-- AND (R291, chapter 10). -/
  | andd (u : Nat) (f : RegF)
  /-- OR (R291, chapter 10). -/
  | orr (u : Nat) (f : RegF)
  /-- XOR (R291, chapter 10). -/
  | xorr (u : Nat) (f : RegF)
  /-- ANDN (R291, chapter 10). -/
  | andn (u : Nat) (f : RegF)
  /-- NOR (R291, chapter 10). -/
  | nor (u : Nat) (f : RegF)
  /-- SLL (R291, chapter 10). -/
  | sll (u : Nat) (f : RegF)
  /-- SRL (R291, chapter 10). -/
  | srl (u : Nat) (f : RegF)
  /-- SRA (R291, chapter 10). -/
  | sra (u : Nat) (f : RegF)
  /-- SLT (R291, chapter 10). -/
  | slt (u : Nat) (f : RegF)
  /-- SLTU (R291, chapter 10). -/
  | sltu (u : Nat) (f : RegF)
  /-- MUL (R291, chapter 10). -/
  | mul (u : Nat) (f : RegF)
  /-- MULH (R291, chapter 10). -/
  | mulh (u : Nat) (f : RegF)
  /-- MULHU (R291, chapter 10). -/
  | mulhu (u : Nat) (f : RegF)
  /-- DIV (R291, chapter 10). -/
  | div (u : Nat) (f : RegF)
  /-- DIVU (R291, chapter 10). -/
  | divu (u : Nat) (f : RegF)
  /-- REM (R291, chapter 10). -/
  | rem (u : Nat) (f : RegF)
  /-- REMU (R291, chapter 10). -/
  | remu (u : Nat) (f : RegF)
  /-- CLZ (R291, chapter 10). -/
  | clz (u : Nat) (f : RegF)
  /-- CTZ (R291, chapter 10). -/
  | ctz (u : Nat) (f : RegF)
  /-- POPC (R291, chapter 10). -/
  | popc (u : Nat) (f : RegF)
  /-- BSWAP (R291, chapter 10). -/
  | bswap (u : Nat) (f : RegF)
  /-- ADDI (R290). -/
  | addi (u : Nat) (f : ImmF)
  /-- ANDI (R290). -/
  | andi (u : Nat) (f : ImmF)
  /-- ORI (R290). -/
  | ori (u : Nat) (f : ImmF)
  /-- XORI (R290). -/
  | xori (u : Nat) (f : ImmF)
  /-- SLTI (R290). -/
  | slti (u : Nat) (f : ImmF)
  /-- SLTIU (R290). -/
  | sltiu (u : Nat) (f : ImmF)
  /-- LUI (R290). -/
  | lui (u : Nat) (f : ImmF)
  /-- SLLI (R290). -/
  | slli (u : Nat) (f : ShiF)
  /-- SRLI (R290). -/
  | srli (u : Nat) (f : ShiF)
  /-- SRAI (R290). -/
  | srai (u : Nat) (f : ShiF)
  /-- LDB (R290). -/
  | ldb (u : Nat) (f : MemF) (pe : Bool)
  /-- LDBS (R290). -/
  | ldbs (u : Nat) (f : MemF) (pe : Bool)
  /-- LDH (R290). -/
  | ldh (u : Nat) (f : MemF) (pe : Bool)
  /-- LDHS (R290). -/
  | ldhs (u : Nat) (f : MemF) (pe : Bool)
  /-- LDW (R290). -/
  | ldw (u : Nat) (f : MemF) (pe : Bool)
  /-- STB (R290). -/
  | stb (u : Nat) (f : MemF)
  /-- STH (R290). -/
  | sth (u : Nat) (f : MemF)
  /-- STW (R290). -/
  | stw (u : Nat) (f : MemF)
  /-- LDP (R290). -/
  | ldp (u : Nat) (f : MemF) (pe : Bool)
  /-- STP (R290). -/
  | stp (u : Nat) (f : MemF)
  /-- LDL (R290). -/
  | ldl (u : Nat) (f : MemF) (pe : Bool)
  /-- STC (R290). -/
  | stc (u : Nat) (f : MemF)
  /-- FLDS (R290). -/
  | flds (u : Nat) (f : MemF) (pe : Bool)
  /-- FLDD (R290). -/
  | fldd (u : Nat) (f : MemF) (pe : Bool)
  /-- FSTS (R290). -/
  | fsts (u : Nat) (f : MemF)
  /-- FSTD (R290). -/
  | fstd (u : Nat) (f : MemF)
  /-- BEQ (R290). -/
  | beq (u : Nat) (f : BrcF)
  /-- BNE (R290). -/
  | bne (u : Nat) (f : BrcF)
  /-- BLT (R290). -/
  | blt (u : Nat) (f : BrcF)
  /-- BGE (R290). -/
  | bge (u : Nat) (f : BrcF)
  /-- BLTU (R290). -/
  | bltu (u : Nat) (f : BrcF)
  /-- BGEU (R290). -/
  | bgeu (u : Nat) (f : BrcF)
  /-- BR (R290). -/
  | br (u : Nat) (f : JmpF)
  /-- CALL (R290). -/
  | call (u : Nat) (f : JmpF)
  /-- JMPR (R290). -/
  | jmpr (u : Nat) (f : ImmF)
  /-- CALLR (R290). -/
  | callr (u : Nat) (f : ImmF)
  /-- RET (R290). -/
  | ret (u : Nat) (f : ImmF)
  /-- RDSR (R291). -/
  | rdsr (u : Nat) (f : SysF)
  /-- WRSR (R291). -/
  | wrsr (u : Nat) (f : SysF)
  /-- RDFEAT (R291). -/
  | rdfeat (u : Nat) (f : SysF)
  /-- ECALL (R291). -/
  | ecall (u : Nat) (f : SysF)
  /-- DCALL (R291). -/
  | dcall (u : Nat) (f : SysF)
  /-- ERET (R291). -/
  | eret (u : Nat) (f : SysF)
  /-- BREAK (R291). -/
  | brk (u : Nat) (f : SysF)
  /-- FENCE_CORE (R291). -/
  | fenceCore (u : Nat) (f : SysF)
  /-- FENCE_CLUSTER (R291). -/
  | fenceCluster (u : Nat) (f : SysF)
  /-- FENCE_DEVICE (R291). -/
  | fenceDevice (u : Nat) (f : SysF)
  /-- The fence a unit waits at completes; warpError: a synthesised error stood for its acknowledgement (R391, R392). -/
  | fenceComplete (u : Nat) (warpError : Bool)
  /-- IFENCE (R291). -/
  | ifence (u : Nat) (f : SysF)
  /-- WAITI (R291). -/
  | waiti (u : Nat) (f : SysF)
  /-- ZLINE (R291, R416). -/
  | zline (u : Nat) (f : CacF)
  /-- PRELOAD (R291, R416). -/
  | preload (u : Nat) (f : CacF)
  /-- CLEAN (R291, R416). -/
  | clean (u : Nat) (f : CacF)
  /-- INVAL (R291, R416). -/
  | inval (u : Nat) (f : CacF)
  /-- FLUSH (R291, R416). -/
  | flush (u : Nat) (f : CacF)
  /-- IINVAL (R291, R416). -/
  | iinval (u : Nat) (f : CacF)
  /-- PREFETCH (R291, R416). -/
  | prefetch (u : Nat) (f : CacF)
  /-- RCLEAN (R291, R417). -/
  | rclean (u : Nat) (f : CrgF)
  /-- RINVAL (R291, R417). -/
  | rinval (u : Nat) (f : CrgF)
  /-- RFLUSH (R291, R417). -/
  | rflush (u : Nat) (f : CrgF)
  /-- STAKE_S (R300). -/
  | stakeS (u : Nat) (f : RegF)
  /-- STAKE_X (R300). -/
  | stakeX (u : Nat) (f : RegF)
  /-- UNSTAKE (R300). -/
  | unstake (u : Nat) (f : RegF)
  /-- COMMIT (R300). -/
  | commit (u : Nat) (f : RegF)
  /-- ABORT (R300). -/
  | abort (u : Nat) (f : RegF)
  /-- ABORT_F (R300). -/
  | abortF (u : Nat) (f : RegF)
  /-- FADD; dbl selects binary64 (R291). -/
  | fadd (u : Nat) (dbl : Bool) (f : RegF)
  /-- FSUB; dbl selects binary64 (R291). -/
  | fsub (u : Nat) (dbl : Bool) (f : RegF)
  /-- FMUL; dbl selects binary64 (R291). -/
  | fmul (u : Nat) (dbl : Bool) (f : RegF)
  /-- FDIV; dbl selects binary64 (R291). -/
  | fdiv (u : Nat) (dbl : Bool) (f : RegF)
  /-- FSQRT; dbl selects binary64 (R291). -/
  | fsqrt (u : Nat) (dbl : Bool) (f : RegF)
  /-- FMA; dbl selects binary64 (R291). -/
  | fma (u : Nat) (dbl : Bool) (f : RegF)
  /-- FMIN; dbl selects binary64 (R291). -/
  | fmin (u : Nat) (dbl : Bool) (f : RegF)
  /-- FMAX; dbl selects binary64 (R291). -/
  | fmax (u : Nat) (dbl : Bool) (f : RegF)
  /-- FNEG; dbl selects binary64 (R291). -/
  | fneg (u : Nat) (dbl : Bool) (f : RegF)
  /-- FABS; dbl selects binary64 (R291). -/
  | fabs (u : Nat) (dbl : Bool) (f : RegF)
  /-- FEQ; dbl selects binary64 (R291). -/
  | feq (u : Nat) (dbl : Bool) (f : RegF)
  /-- FLT; dbl selects binary64 (R291). -/
  | flt (u : Nat) (dbl : Bool) (f : RegF)
  /-- FLE; dbl selects binary64 (R291). -/
  | fle (u : Nat) (dbl : Bool) (f : RegF)
  /-- FCLASS; dbl selects binary64 (R291). -/
  | fclass (u : Nat) (dbl : Bool) (f : RegF)
  /-- FCVT_S_D (R291). -/
  | fcvtSD (u : Nat) (f : RegF)
  /-- FCVT_D_S (R291). -/
  | fcvtDS (u : Nat) (f : RegF)
  /-- FCVT_W (R291). -/
  | fcvtW (u : Nat) (dbl : Bool) (f : RegF)
  /-- FCVT_WU (R291). -/
  | fcvtWU (u : Nat) (dbl : Bool) (f : RegF)
  /-- FCVT_F_W (R291). -/
  | fcvtFW (u : Nat) (dbl : Bool) (f : RegF)
  /-- FCVT_F_WU (R291). -/
  | fcvtFWU (u : Nat) (dbl : Bool) (f : RegF)
  /-- FMVFI (R291). -/
  | fmvfi (u : Nat) (f : RegF)
  /-- FMVFIH (R291). -/
  | fmvfih (u : Nat) (f : RegF)
  /-- FMVIF (R291). -/
  | fmvif (u : Nat) (f : RegF)
  /-- ADDP (R291). -/
  | addp (u : Nat) (f : OpsF)
  /-- SUBP (R291). -/
  | subp (u : Nat) (f : OpsF)
  /-- MULP (R291). -/
  | mulp (u : Nat) (f : OpsF)
  /-- DIVP (R291). -/
  | divp (u : Nat) (f : OpsF)
  /-- CMPP (R291). -/
  | cmpp (u : Nat) (f : OpsF)
  /-- CVTBP (R291). -/
  | cvtbp (u : Nat) (f : OpsF)
  /-- CVTPB (R291). -/
  | cvtpb (u : Nat) (f : OpsF)
  /-- CVTPZ (R291). -/
  | cvtpz (u : Nat) (f : OpsF)
  /-- CVTZP (R291). -/
  | cvtzp (u : Nat) (f : OpsF)
  /-- BMOV (R291). -/
  | bmov (u : Nat) (f : OpsF)
  /-- BFILL (R291). -/
  | bfill (u : Nat) (f : OpsF)
  /-- CBLK (R291). -/
  | cblk (u : Nat) (f : OpsF)
  /-- START (R290, R499). -/
  | start (u : Nat) (f : ImmF)
  /-- A write of 1 to CLS_UCCTRLn.CLEAR (R339). -/
  | ucClear (m : Master) (pair : Nat)
  /-- A write of CLS_UCWDn (R340). -/
  | ucWordCommit (m : Master) (pair : Nat) (v : Word)
  /-- A write of 1 to CLS_UCCTRLn.LOCK (R341). -/
  | ucLock (m : Master) (pair : Nat)
  /-- A write of 1 to CLS_UCCTRLn.UNLOCK (R341). -/
  | ucUnlock (m : Master) (pair : Nat)
  /-- The control-store scrubber or a fetch finds `bad` bits in error in a microword (R342). -/
  | ucScrub (pair addr : Nat) (bad : Nat)
  /-- An error of R364 or R367 is detected in a pair. -/
  | instructionRetry (pair : Nat) (e : PairError)
  /-- The spare of a takeover resumes the work (R372). -/
  | spareResume (t pair : Nat)
  /-- 2 us have passed and the compared stores have not drained (R373). -/
  | leaderDrainTimeout (t pair : Nat)
  /-- A parity error in a split core (R369). -/
  | splitCoreParity (u : Nat)
  /-- The oldest store of a unit at a scope moves one scope on; r: the status that its write is answered with (R390, R406). -/
  | storeDrain (u : Nat) (at_ : Scope) (r : WarpStatus)
  /-- A fill arrives at a cluster cache (R414). -/
  | cacheFill (cluster pa : Nat) (f : FillFor) (r : ReadResult)
  /-- An error is found in a line of a cluster cache (R421). -/
  | l2Scrub (cluster pa : Nat) (e : L2Error)
  /-- An error is found in a scratchpad word (R426). -/
  | scratchpadScrub (cluster off : Nat) (e : SpError)
  /-- A write of CLS_SPRET; busy lists the banks with an access in flight (R430). -/
  | scratchpadRetention (m : Master) (cluster : Nat) (v : Word) (busy : List Nat)
  /-- A waking bank accepts requests again (R430). -/
  | bankWakeDone (cluster bank : Nat)
  /-- The wipe of a strongroom completes (R429). -/
  | strongroomWipeDone (cluster : Nat)
  /-- A flit CRC error on a Warp link; again: of the flit already being replayed (R440). -/
  | warpLinkReplay (link : Nat) (again : Bool)
  /-- The initiator timeout of a request from stop ini to stop target passes with no response; acc: the access of a unit that it was (R442). -/
  | warpTimeout (t ini target addr : Nat) (acc : Option UnitAccess)
  /-- A response arrives after its timeout (R444). -/
  | warpLateResponse (id : Nat)
  /-- A stop is isolated (R447). -/
  | warpIsolate (stop : Nat)
  /-- A write of 1 to WRP_RTCTRL.FLIP (R449). -/
  | routeFlip (m : Master)
  /-- A write of 1 to WRP_RTCTRL.COPY (R452). -/
  | routeCopy (m : Master)
  /-- The last old-generation packet has left (R449). -/
  | routeDrainDone
  /-- A write of THR_SUBMIT (R456). -/
  | thrSubmit (m : Master) (addr : Nat)
  /-- A write of THR_CTRL (R466, R467). -/
  | thrEnable (m : Master) (v : Word)
  /-- A free Thresher engine takes its next job (R459). -/
  | thresherJobStart (t engine : Nat)
  /-- The COMPRESS job of an engine runs to its end; bad: blocks whose inflated copy differs; mem: a memory error (R460). -/
  | compress (t engine : Nat) (bad : List Nat) (mem : Bool)
  /-- The DECOMPRESS job of an engine runs to its end (R464). -/
  | decompress (t engine : Nat) (mem : Bool)
  /-- A parity error in a Thresher engine (R461). -/
  | thresherParity (t engine : Nat)
  /-- A write of CPH_SUBMIT (R473, R474). -/
  | cphSubmit (m : Master) (addr : Nat)
  /-- A write of ACQUIRE to CPH_LOCKn (R471). -/
  | lockAcquire (m : Master) (engine : Nat)
  /-- A write of RELEASE to CPH_LOCKn (R472). -/
  | lockRelease (m : Master) (engine : Nat)
  /-- The GCM_ENC job runs to its end, or is stopped by an error (R468). -/
  | gcmEnc (job : Nat) (fail : CphFail)
  /-- The GCM_DEC job runs to its end, or is stopped by an error (R468). -/
  | gcmDec (job : Nat) (fail : CphFail)
  /-- The XTS_ENC job runs to its end, or is stopped by an error (R468). -/
  | xtsEnc (job : Nat) (fail : CphFail)
  /-- The XTS_DEC job runs to its end, or is stopped by an error (R468). -/
  | xtsDec (job : Nat) (fail : CphFail)
  /-- The CMAC_GEN job runs to its end, or is stopped by an error (R468). -/
  | cmacGen (job : Nat) (fail : CphFail)
  /-- The CMAC_VER job runs to its end, or is stopped by an error (R468). -/
  | cmacVer (job : Nat) (fail : CphFail)
  /-- The SHA384 job runs to its end, or is stopped by an error (R468). -/
  | sha384 (job : Nat) (fail : CphFail)
  /-- The SHA512 job runs to its end, or is stopped by an error (R468). -/
  | sha512 (job : Nat) (fail : CphFail)
  /-- The HMAC384 job runs to its end, or is stopped by an error (R468). -/
  | hmac384 (job : Nat) (fail : CphFail)
  /-- The HMAC512 job runs to its end, or is stopped by an error (R468). -/
  | hmac512 (job : Nat) (fail : CphFail)
  /-- The DERIVE job runs to its end, or is stopped by an error (R468). -/
  | derive (job : Nat) (fail : CphFail)
  /-- The UNWRAP job runs to its end, or is stopped by an error (R468). -/
  | unwrap (job : Nat) (fail : CphFail)
  /-- The SIGN job runs to its end, or is stopped by an error (R468). -/
  | sign (job : Nat) (fail : CphFail)
  /-- The VERIFY job runs to its end, or is stopped by an error (R468). -/
  | verify (job : Nat) (fail : CphFail)
  /-- The PUBKEY job runs to its end, or is stopped by an error (R468). -/
  | pubkey (job : Nat) (fail : CphFail)
  /-- A write of FRW_SUBMIT (R499). -/
  | frwSubmit (m : Master) (addr : Nat)
  /-- The partner acknowledges the copy of an operation record (R497). -/
  | channelRecordAck (op : Nat)
  /-- The current command of an operation, a CHANNEL_READ, is run (R501 to R503). -/
  | channelRead (op : Nat)
  /-- The current command of an operation, a CHANNEL_WRITE, is run (R501 to R503). -/
  | channelWrite (op : Nat)
  /-- The current command of an operation, a CHANNEL_FLUSH, is run (R501 to R503). -/
  | channelFlush (op : Nat)
  /-- The current command of an operation, a PEER_READ, is run (R501 to R503). -/
  | peerRead (op : Nat)
  /-- The current command of an operation, a PEER_WRITE, is run (R501 to R503). -/
  | peerWrite (op : Nat)
  /-- The current command of an operation, a HOST_SEND, is run (R501 to R503). -/
  | hostSend (op : Nat)
  /-- The current command of an operation, a THRESH, is run (R501 to R503). -/
  | thresh (op : Nat)
  /-- The current command of an operation, a CIPHER, is run (R501 to R503). -/
  | cipher (op : Nat)
  /-- The current command of an operation, a ENG_ACQUIRE, is run (R501 to R503). -/
  | engAcquire (op : Nat)
  /-- The current command of an operation, a ENG_RELEASE, is run (R501 to R503). -/
  | engRelease (op : Nat)
  /-- A storage command completes; bytes: what it read (R504). -/
  | nvmeCompletion (t tag : Nat) (status : Nat) (bytes : List Byte)
  /-- Furrow builds and writes the next destage extent (R510). -/
  | destageExtent (t : Nat)
  /-- Furrow reads the next chunk of a sweep (R512). -/
  | ploughChunk (t : Nat)
  /-- A path fails (R506). -/
  | pathFail (t path : Nat)
  /-- The keep-alive of a path is due (R494). -/
  | keepAlive (t path : Nat)
  /-- Reconnection of a failed path is due (R492). -/
  | pathReconnect (t path : Nat)
  /-- A path is connected (R492). -/
  | pathReady (t path : Nat)
  /-- The completion of a command already re-driven arrives (R507). -/
  | furrowLateCompletion (tag : Nat)
  /-- FRW_CFG.PATHWAIT passes for an operation (R508). -/
  | pathwaitExpire (t op : Nat)
  /-- A congestion notification arrives for a path (R495). -/
  | cnpReceive (t path : Nat)
  /-- A Weft link is aligned (R523). -/
  | weftLinkAligned (link : Nat)
  /-- A LINK flit with the peer's device, link number and Weft revision arrives (R523). -/
  | linkFlit (link peer peerLink rev : Nat)
  /-- A Weft link fails (R523). -/
  | weftLinkFail (t link : Nat)
  /-- Retraining of a failed link is due (R523). -/
  | weftRetrain (t link : Nat)
  /-- The peer asks for replay from a flit (R521). -/
  | weftReplay (link seq : Nat)
  /-- A Weft frame for another device arrives (R527). -/
  | weftFrameForward (link : Nat) (bytes : List Byte)
  /-- A STATE frame arrives from the partner (R497, R481). -/
  | stateFrame (bytes : List Byte)
  /-- A remote STAKE request arrives (R116). -/
  | stakeReq (dev : Nat) (who : Party) (ns key : Nat) (excl : Bool) (inTree : Bool)
  /-- The home device answers a remote STAKE: a code of R100, or 255 for queued (R116). -/
  | stakeRsp (t : Nat) (m : StakeMsg) (ns key code : Nat)
  /-- A remote release, withdrawal, wound or later grant arrives from a device (R105, R106, R116). -/
  | stakeFwd (m : StakeMsg) (ns key : Nat) (kind : FwdKind)
  /-- A remote record read arrives at the home: the requester's plot and, in a transaction, its slot, the offset in the live region, the length (R530, R531). -/
  | recRead (dev tag plot : Nat) (slot : Option Nat) (off len : Nat)
  /-- A remote record write arrives at the home (R530 to R532). -/
  | recWrite (dev tag plot : Nat) (slot : Option Nat) (off : Nat) (bytes : List Byte)
  /-- The home answers a remote access; epoch: the newest unsealed epoch of the home that a read of a journaled segment met, or 0 (R531, R532). -/
  | recRsp (tag : Nat) (a : RecAnswer) (bytes : List Byte) (epoch : Nat)
  /-- The notice of a spanning transaction arrives at a home (R533). -/
  | spanNotice (dev slot : Nat) (bytes : List Byte)
  /-- A home accepts or refuses its part (R533). -/
  | spanAccept (dev slot epoch : Nat) (ok : Bool)
  /-- WFT_CFG.ACCEPT passes (R533). -/
  | spanAcceptTimeout (t slot : Nat)
  /-- A seal vote arrives: the sender, its epoch, the value, and the own epochs covered with the number of records of each (R535). -/
  | vote (t dev epoch : Nat) (sealed : Bool) (covers : List (Nat × Nat))
  /-- A probe of a silent device is due (R538). -/
  | probeSend (t dev : Nat)
  /-- A probe arrives (R538). -/
  | probe (t dev : Nat)
  /-- The answer to a probe arrives (R538). -/
  | probeRsp (t dev : Nat)
  /-- WFT_CFG.LOST passes without a frame from a device (R538). -/
  | deviceLost (t dev : Nat)
  /-- A Furrow peer request arrives (R502). -/
  | peerReq (dev tag : Nat) (write : Bool) (bytes : List Byte)
  /-- The answer to a Furrow peer request arrives (R504). -/
  | peerRsp (t tag status : Nat) (bytes : List Byte)
  /-- Power comes up and PORST_N is released (R610). -/
  | powerOnReset
  /-- RESET_N is driven low (R619). -/
  | resetNAssert (t : Nat)
  /-- RESET_N is released (R619). -/
  | resetNRelease (t : Nat)
  /-- A write of PCK_RSTCTRL (R621). -/
  | softwareReset (m : Master) (v : Word)
  /-- The Steward runs the next boot stage (R548). -/
  | bootStage (i : StageInput)
  /-- A tamper sensor trips (R564). -/
  | tamperEvent (sensor : Nat)
  /-- A transfer on the Evral port: SYNC, OP, ADDR, HCRC, and what a write carries, DATA and DCRC (R565, R566). -/
  | evralTransfer (sync : Nat) (head : EvralHead) (v : Word) (dcrc : Nat)
  /-- A write of 1 to DBG_AUTHCTRL.COMMIT (R568). -/
  | authCommit (m : Master)
  /-- A write of 1 to DBG_AUTHCTRL.CLEAR (R577). -/
  | authClear (m : Master)
  /-- The check of an authorisation ends (R568). -/
  | authCheckDone
  /-- A write of DBG_PCTRL with CMD HALT (R569, R570). -/
  | debugHalt (m : Master) (v : Word)
  /-- A write of DBG_PCTRL with CMD RESUME (R569, R570). -/
  | resume (m : Master) (v : Word)
  /-- A write of DBG_PCTRL with CMD STEP (R569, R570). -/
  | step (m : Master) (v : Word)
  /-- An access of DBG_RDATA (R573). -/
  | dbgRdataAccess (m : Master) (write : Bool) (v : Word)
  /-- A read of DBG_MDATA (R574). -/
  | dbgMdataRead (m : Master)
  /-- A write of DBG_MDATA (R574). -/
  | dbgMdataWrite (m : Master) (v : Word)
  /-- A fault event reaches the Gleaner (R580). -/
  | gleanerEvent (source cls detail : Nat)
  /-- A parity error in the Gleaner (R591). -/
  | gleanerSelfParity (storeIntact : Bool)
  /-- A write of GLN_CLEAR (R586). -/
  | glnClear (m : Master) (v : Word)
  /-- A read of GLN_REC0 (R604). -/
  | glnRec0Read (m : Master)
  /-- Samples are gathered before the first tick (R593). -/
  | almanacEarlyGather
  /-- The snapshot interval passes (R597). -/
  | almanacInterval (t : Nat)
  /-- A write of 1 to ALM_CTRL.SNAP (R597). -/
  | almanacSnap (m : Master)
  /-- The write of a snapshot ends; how often its verification failed in each area (R601). -/
  | snapshotWriteDone (permFails circFails : Nat)
  /-- A read of ALM_WINDOW0 (R602). -/
  | almWindow0Read (m : Master)
  /-- A read of ALM_WINDOW63 (R602). -/
  | almWindow63Read (m : Master)
  /-- The reading of a rail (R609). -/
  | railSample (rail mv : Nat)
  /-- A rail comparator trips; fail: beyond 10 % (R609). -/
  | railExcursion (rail : Nat) (fail : Bool)
  /-- The reading of a temperature sensor (R623, R624). -/
  | tempSample (t sensor value : Nat)
  /-- A clock monitor trips (R617). -/
  | clockMonitorTrip (domain : Nat)
  /-- A write of PCK_CLSPWR that sets bits (R612). -/
  | clusterPowerDown (m : Master) (v : Word)
  /-- A cluster is powered down (R613). -/
  | clusterPowerDownDone (cluster : Nat)
  /-- A write of PCK_CLSPWR that clears bits (R614). -/
  | clusterPowerUp (m : Master) (v : Word)
  /-- A cluster is powered up (R614). -/
  | clusterPowerUpDone (cluster : Nat)
  /-- A write of PCK_CLKCFGn (R616). -/
  | cclkChange (m : Master) (cluster : Nat) (v : Word)
  /-- CCLK of a cluster moves one step (R616). -/
  | cclkStep (cluster : Nat)
  /-- A write of PCK_WDOG with EN set (R622). -/
  | wdogEnable (m : Master) (v : Word)
  /-- A write of PCK_WDOG with KICK set (R622). -/
  | wdogKick (m : Master) (v : Word)
  /-- The watchdog expires (R622). -/
  | wdogExpire (t : Nat)
  /-- The pulse-per-second output changes (R631). -/
  | ppsOut (t : Nat) (rise : Bool)
  /-- The tick symbol of the next tick is sent (R82). -/
  | tickSymbolSend (t : Nat)
  /-- The link of an enabled port comes up (R188). -/
  | portLinkUp (port : Nat)
  /-- A received pause runs out (R195). -/
  | pfcPauseExpire (t port pcp : Nat)
  /-- The clock monitor of a pair leader reports loss (R373). -/
  | coreClockBranchLoss (pair : Nat)
  /-- The hold of writes of a failed path ends (R507). -/
  | failedPathWriteHoldExpire (t path : Nat)
  /-- A flit in error arrives on a Weft link (R521). -/
  | weftFlitError (link : Nat) (e : FlitError)
  /-- PORST_N is driven low (R611). -/
  | porstNAssert
  deriving DecidableEq, Repr

end Sys2Proof
end

