-- ==== Sys2Proof/Decode.lean ====
section
/-! DEFINITION. The command that a word of the table spells.  spec/opcode_table.json gives no row any bits:
the commands are names of events, and no word spells one. -/

namespace Sys2Proof

/-- No row of the table has bits, so no word spells a command. -/
def decodeTableWord (_ _ : Nat) : Option Instr := none

end Sys2Proof
end

