-- ==== Sys2Proof/Machine/Bytes.lean ====
section
/-! DEFINITION. Byte strings and numbers: both byte orders of R6, fields of packets, and the CRC-32C of
R93. -/

namespace Sys2Proof.Machine

/-- A number as n bytes, least significant first (R6: memory). -/
def leBytes : Nat → Nat → List Byte
  | 0, _ => []
  | n + 1, v => BitVec.ofNat 8 v :: leBytes n (v / 256)

/-- A number as n bytes, most significant first (R6: packets). -/
def beBytes (n v : Nat) : List Byte := (leBytes n v).reverse

/-- The number that bytes spell, least significant first. -/
def leNat : List Byte → Nat
  | [] => 0
  | b :: l => b.toNat + 256 * leNat l

/-- The number that bytes spell, most significant first. -/
def beNat (l : List Byte) : Nat := leNat l.reverse

/-- n zero bytes. -/
def zeros (n : Nat) : List Byte := List.replicate n 0

/-- Bytes [off, off + n) of a string, short where the string ends. -/
def slice (l : List Byte) (off n : Nat) : List Byte := (l.drop off).take n

/-- The little-endian field of n bytes at an offset. -/
def leAt (l : List Byte) (off n : Nat) : Nat := leNat (slice l off n)

/-- The network-order field of n bytes at an offset. -/
def beAt (l : List Byte) (off n : Nat) : Nat := beNat (slice l off n)

/-- A string cut or padded with zeros to n bytes. -/
def fitTo (n : Nat) (l : List Byte) : List Byte := (l ++ zeros (n - l.length)).take n

/-- Zero bytes that bring a length to a multiple of k. -/
def padTo (k len : Nat) : List Byte := zeros ((k - len % k) % k)

/-- A string with the bytes from an offset replaced. -/
def overlay (l : List Byte) (off : Nat) (b : List Byte) : List Byte :=
  l.take off ++ b ++ l.drop (off + b.length)

/-- One bit of the reflected CRC-32C register (polynomial 0x1EDC6F41). -/
def crcBit (c : BitVec 32) : BitVec 32 :=
  if c.getLsbD 0 then (c >>> 1) ^^^ 0x82F63B78#32 else c >>> 1

/-- One byte into the CRC-32C register. -/
def crcByte (c : BitVec 32) (b : Byte) : BitVec 32 :=
  let c := c ^^^ b.zeroExtend 32
  crcBit (crcBit (crcBit (crcBit (crcBit (crcBit (crcBit (crcBit c)))))))

/-- CRC-32C of bytes with an initial value and no final exclusive-OR (R93). -/
def crc32c (init : BitVec 32) (l : List Byte) : BitVec 32 := l.foldl crcByte init

end Sys2Proof.Machine
end

