-- ==== Sys2Proof/Machine/Aes.lean ====
section
/-! DEFINITION. AES and its modes: the block cipher (FIPS 197), GCM (SP 800-38D), XTS (IEEE 1619), CMAC
(SP 800-38B) and key wrap with padding (RFC 5649), which R468, R480, R481 and R484 name. -/

namespace Sys2Proof.Machine

open Sys2Proof

/-! ## The field of bytes -/

/-- A byte times x. -/
def xtime (b : Byte) : Byte := if b.getLsbD 7 then (b <<< 1) ^^^ 0x1B else b <<< 1

/-- The product of two bytes in the field; fuel is the number of bits. -/
def gmulFrom : Nat → Byte → Byte → Byte
  | 0, _, _ => 0
  | n + 1, a, b => (if b.getLsbD 0 then a else 0) ^^^ gmulFrom n (xtime a) (b >>> 1)

def gmul (a b : Byte) : Byte := gmulFrom 8 a b

/-- The inverse of a byte, 0 for 0: its 254th power. -/
def ginv (a : Byte) : Byte :=
  let a2 := gmul a a
  let a4 := gmul a2 a2
  let a8 := gmul a4 a4
  let a16 := gmul a8 a8
  let a32 := gmul a16 a16
  let a64 := gmul a32 a32
  let a128 := gmul a64 a64
  gmul (gmul (gmul a128 a64) (gmul a32 a16)) (gmul (gmul a8 a4) a2)

/-- The substitution of a byte. -/
def subByte (b : Byte) : Byte :=
  let x := ginv b
  x ^^^ x.rotateLeft 1 ^^^ x.rotateLeft 2 ^^^ x.rotateLeft 3 ^^^ x.rotateLeft 4 ^^^ 0x63

/-- The substitution undone. -/
def unsubByte (b : Byte) : Byte :=
  ginv (b.rotateLeft 1 ^^^ b.rotateLeft 3 ^^^ b.rotateLeft 6 ^^^ 0x05)

/-! ## The block cipher -/

/-- The exclusive-OR of two strings, as long as the shorter. -/
def xorBytes (a b : List Byte) : List Byte := List.zipWith (· ^^^ ·) a b

/-- The key schedule: words of four bytes, the newest last. -/
def aesExpand (nk : Nat) : Nat → Nat → Byte → List (List Byte) → List (List Byte)
  | 0, _, _, l => l
  | fuel + 1, i, rcon, l =>
    let prev := l.getD (i - 1) []
    let back := l.getD (i - nk) []
    if i % nk = 0 then
      let t := ((prev.drop 1) ++ (prev.take 1)).map subByte
      aesExpand nk fuel (i + 1) (xtime rcon) (l ++ [xorBytes back (xorBytes t [rcon, 0, 0, 0])])
    else if 6 < nk ∧ i % nk = 4 then
      aesExpand nk fuel (i + 1) rcon (l ++ [xorBytes back (prev.map subByte)])
    else aesExpand nk fuel (i + 1) rcon (l ++ [xorBytes back prev])

/-- The round keys, 16 bytes each, of a key of 16 or 32 bytes. -/
def aesKeys (key : List Byte) : List (List Byte) :=
  let nk := key.length / 4
  let words := aesExpand nk (4 * (nk + 7) - nk) nk 1 ((List.range nk).map fun i => slice key (4 * i) 4)
  (List.range (nk + 7)).map fun r => ((words.drop (4 * r)).take 4).flatten

/-- The rows of a block shifted by k columns per row. -/
def shiftRows (k : Nat) (b : List Byte) : List Byte :=
  (List.range 16).map fun i => b.getD ((i + k * 4 * (i % 4)) % 16) 0

/-- The columns of a block multiplied by a row of four coefficients. -/
def mixColumns (m : List Byte) (b : List Byte) : List Byte :=
  (List.range 16).map fun i =>
    let col := i / 4 * 4
    (List.range 4).foldl (fun x j => x ^^^ gmul (m.getD ((j + 4 - i % 4) % 4) 0) (b.getD (col + j) 0)) 0

/-- The rounds of the cipher over the round keys that remain. -/
def aesRounds : List (List Byte) → List Byte → List Byte
  | [], b => b
  | [k], b => xorBytes (shiftRows 1 (b.map subByte)) k
  | k :: ks, b => aesRounds ks (xorBytes (mixColumns [2, 3, 1, 1] (shiftRows 1 (b.map subByte))) k)

/-- One block enciphered. -/
def aesEnc (keys : List (List Byte)) (b : List Byte) : List Byte :=
  match keys with
  | k :: ks => aesRounds ks (xorBytes b k)
  | [] => b

/-- The rounds undone over the round keys that remain, last first. -/
def aesUnrounds : List (List Byte) → List Byte → List Byte
  | [], b => b
  | [k], b => xorBytes ((shiftRows 3 b).map unsubByte) k
  | k :: ks, b => aesUnrounds ks (mixColumns [14, 11, 13, 9] (xorBytes ((shiftRows 3 b).map unsubByte) k))

/-- One block deciphered. -/
def aesDec (keys : List (List Byte)) (b : List Byte) : List Byte :=
  match keys.reverse with
  | k :: ks => aesUnrounds ks (xorBytes b k)
  | [] => b

/-- Blocks of 16 bytes; the last may be short. -/
def blocks16 : Nat → List Byte → List (List Byte)
  | 0, _ => []
  | n + 1, l => if l.isEmpty then [] else l.take 16 :: blocks16 n (l.drop 16)

def blocksOf (l : List Byte) : List (List Byte) := blocks16 (l.length / 16 + 1) l

/-! ## GCM -/

/-- The product of two blocks in the field of GCM; bit 0 of the standard is the most significant. -/
def ghashMulFrom : Nat → Nat → Nat → Nat → Nat
  | 0, _, _, z => z
  | n + 1, x, v, z =>
    let z := if x.testBit n then z ^^^ v else z
    let v := if v.testBit 0 then (v / 2) ^^^ (0xE1 * 2 ^ 120) else v / 2
    ghashMulFrom n x v z

def ghashMul (x h : Nat) : Nat := ghashMulFrom 128 x h 0

/-- GHASH over a string of whole blocks. -/
def ghash (h : Nat) (l : List Byte) : Nat :=
  (blocksOf l).foldl (fun y b => ghashMul (y ^^^ beNat b) h) 0

/-- Counter mode from a counter of 32 bits after a 12-byte IV. -/
def gctr (keys : List (List Byte)) (iv : List Byte) (c0 : Nat) (l : List Byte) : List Byte :=
  ((blocksOf l).zipIdx.map fun p =>
    xorBytes p.1 (aesEnc keys (iv ++ beBytes 4 ((c0 + p.2) % 2 ^ 32)))).flatten

/-- The tag of GCM over additional data and ciphertext. -/
def gcmTag (keys : List (List Byte)) (iv aad ct : List Byte) : List Byte :=
  let h := beNat (aesEnc keys (zeros 16))
  let s := ghash h (aad ++ padTo 16 aad.length ++ ct ++ padTo 16 ct.length ++
    beBytes 8 (8 * aad.length) ++ beBytes 8 (8 * ct.length))
  xorBytes (beBytes 16 s) (aesEnc keys (iv ++ beBytes 4 1))

/-- GCM encryption: ciphertext and tag. -/
def gcmEnc (key iv aad pt : List Byte) : List Byte × List Byte :=
  let keys := aesKeys key
  let ct := gctr keys iv 2 pt
  (ct, gcmTag keys iv aad ct)

/-- GCM decryption: the plaintext, when the tag matches. -/
def gcmDec (key iv aad ct tag : List Byte) : Option (List Byte) :=
  let keys := aesKeys key
  if gcmTag keys iv aad ct = tag then some (gctr keys iv 2 ct) else none

/-! ## XTS -/

/-- A tweak times x: a number of 128 bits whose least significant byte comes first. -/
def xtsDouble (t : Nat) : Nat := if t.testBit 127 then (2 * t) % 2 ^ 128 ^^^ 0x87 else 2 * t

/-- The blocks of a data unit under a block function. -/
def xtsBlocks (f : List Byte → List Byte) : Nat → List (List Byte) → List Byte
  | _, [] => []
  | t, b :: l =>
    let m := leBytes 16 t
    xorBytes (f (xorBytes b m)) m ++ xtsBlocks f (xtsDouble t) l

/-- Consecutive data units of a size from a first tweak; keys 1 and 2 are the halves of the key. -/
def xts (enc : Bool) (key : List Byte) (tweak du : Nat) (l : List Byte) : List Byte :=
  let half := key.length / 2
  let k1 := aesKeys (key.take half)
  let k2 := aesKeys (key.drop half)
  ((List.range (l.length / max 1 du)).map fun i =>
    let t := leNat (aesEnc k2 (leBytes 16 ((tweak + i) % 2 ^ 128)))
    xtsBlocks (if enc then aesEnc k1 else aesDec k1) t (blocksOf (slice l (i * du) du))).flatten

/-! ## CMAC -/

/-- A block times x, most significant bit first. -/
def cmacDouble (x : Nat) : Nat := if x.testBit 127 then (2 * x) % 2 ^ 128 ^^^ 0x87 else 2 * x

/-- CMAC of a message. -/
def cmac (key m : List Byte) : List Byte :=
  let keys := aesKeys key
  let k1 := cmacDouble (beNat (aesEnc keys (zeros 16)))
  let k2 := cmacDouble k1
  let bs := if m.isEmpty then [[]] else blocksOf m
  let last := bs.getLastD []
  let fin := if last.length = 16 then xorBytes last (beBytes 16 k1)
    else xorBytes (fitTo 16 (last ++ [0x80])) (beBytes 16 k2)
  (bs.dropLast ++ [fin]).foldl (fun c b => aesEnc keys (xorBytes c b)) (zeros 16)

/-! ## Key wrap with padding (RFC 5649) -/

/-- One pass of the wrap over the semiblocks, with the step count. -/
def wrapPass (keys : List (List Byte)) : Nat → List Byte → List (List Byte) → List Byte × List (List Byte)
  | _, a, [] => (a, [])
  | t, a, r :: rs =>
    let b := aesEnc keys (a ++ r)
    let a' := xorBytes (b.take 8) (beBytes 8 t)
    let q := wrapPass keys (t + 1) a' rs
    (q.1, b.drop 8 :: q.2)

/-- One pass undone; the semiblocks come last first. -/
def unwrapPass (keys : List (List Byte)) : Nat → List Byte → List (List Byte) → List Byte × List (List Byte)
  | _, a, [] => (a, [])
  | t, a, r :: rs =>
    let b := aesDec keys (xorBytes a (beBytes 8 t) ++ r)
    let q := unwrapPass keys (t - 1) (b.take 8) rs
    (q.1, b.drop 8 :: q.2)

/-- Semiblocks of 8 bytes. -/
def semiblocks (l : List Byte) : List (List Byte) := (List.range (l.length / 8)).map fun i => slice l (8 * i) 8

/-- The wrap of a string of 1 to 2^32 − 1 bytes. -/
def keyWrap (kek p : List Byte) : List Byte :=
  let keys := aesKeys kek
  let a := [0xA6, 0x59, 0x59, 0xA6] ++ beBytes 4 p.length
  let p := p ++ padTo 8 p.length
  if p.length = 8 then aesEnc keys (a ++ p)
  else
    let n := p.length / 8
    let q := (List.range 6).foldl (fun s j => wrapPass keys (n * j + 1) s.1 s.2) (a, semiblocks p)
    q.1 ++ q.2.flatten

/-- The string of a wrap, when its integrity check holds. -/
def keyUnwrap (kek c : List Byte) : Option (List Byte) :=
  let keys := aesKeys kek
  if c.length < 16 ∨ c.length % 8 ≠ 0 then none
  else
    let n := c.length / 8 - 1
    let q : List Byte × List (List Byte) :=
      if n = 1 then (let b := aesDec keys c; (b.take 8, [b.drop 8]))
      else (List.range 6).foldl (fun s j =>
        let u := unwrapPass keys (n * (6 - j)) s.1 s.2.reverse
        (u.1, u.2.reverse)) (c.take 8, semiblocks (c.drop 8))
    let len := beAt q.1 4 4
    let p := q.2.flatten
    if q.1.take 4 = [0xA6, 0x59, 0x59, 0xA6] ∧ 8 * (n - 1) < len ∧ len ≤ 8 * n ∧ (p.drop len).all (· == 0) then
      some (p.take len)
    else none

end Sys2Proof.Machine
end

