-- ==== Sys2Proof/Config.lean ====
section
/-! DEFINITION. Free values and what one device fixes: constants without a body, of which no proof can
see a value.  Each use is named in a log entry. -/

namespace Sys2Proof

/-- The n-th free value: whatever the spec leaves open where it is drawn (log entry 3). -/
opaque Config.freeValue : Nat → Nat

/-- The window that the device advertises on an event session, which R211 does not state. -/
opaque Config.eventWindow : Nat

/-- What a link has received when its n-th thing to be sent leaves: ACKSEQ and the credits of a flit (R520), which depend on
flits that no row of the command table reports. -/
opaque Config.flitReceived : Nat → Nat

/-- The station address that neighbour resolution finds for an IP address on a port (R190): no rule says what the device
keeps of it. -/
opaque Config.station : Nat → List Byte → Nat

/-- TAG of a frame: the sender's correlation value, to which R524 gives no rule. -/
opaque Config.frameTag : Nat → Nat

/-- The DRAM channel that holds an address, two to a memory controller: R37 and R636 do not state the
interleaving. -/
opaque Config.channelOf : Nat → Nat

/-- The route that the reset tables of Warp give a router for a destination stop, as R448 encodes it and
WRP_RTDATA shows it; R435 says what the tables meet and not what they hold. -/
opaque Config.resetRoute : Nat → Nat → Nat

/-- The bits with which an engine encodes a block under MODE, from a bit position, after the output before it:
R453 to R460 give the format and not the choice of matches and codes. -/
opaque Config.deflateBlock (mode pos : Nat) (final : Bool) (before block : List Byte) : List Bool

/-- The size in blocks of a namespace of a path group, which Identify tells Furrow (R494, R510). -/
opaque Config.namespaceBlocks (group nsid : Nat) : Nat

/-- The Seed key, which the factory fuses (chapter 20, the fuse table) and only the vault uses (R483). -/
opaque Config.seedKey : BitVec 256

/-- The two firmware public keys of Misivo in the boot ROM (R546), x then y. -/
opaque Config.firmwareKey : Bool → BitVec 768

/-- The lifecycle public key of Misivo in the boot ROM (R561). -/
opaque Config.lifecycleKey : BitVec 768

/-- The debug public key of Misivo in the boot ROM (R568). -/
opaque Config.debugKey : BitVec 768

/-- The microwords of the Steward's own control store, which its boot ROM fills at reset and no software changes (R334): the
spec does not list them. -/
opaque Config.stewardMicroword : Fin 2048 → BitVec 112

/-- The version of the boot ROM (R551). -/
opaque Config.romVersion : BitVec 32

end Sys2Proof
end

