-- ==== Sys2Proof/Machine/RegTable.lean ====
section
/-! DEFINITION. The control registers of the device: one offset and one row of fields for each
register of the spec's field tables (R88, R122, R156, R186, R221, R249, R250, R353, R385, R432,
R452, R467, R490, R518, R540, R576, R577, R604, R605, R632, R633, R636; bases from R635).
A row says where the register lies and how it is replicated, its reset value, and for each field
its bits, its access code (R12) and the values that are not reserved (R14); an empty list of
ranges means that every value is allowed.  The checks that join several fields are in
Registers.lean. -/

namespace Sys2Proof.Machine

/-- The access codes of R12; `lock` is the RW lock bit whose write of 0 is ignored. -/
inductive Acc where
  | rw | ro | wo | w1c | rwl | rs | lock
  deriving DecidableEq, Repr

/-- A field of a control register: bits [hi:lo], access code, ranges of values that are not
reserved encodings. -/
structure FieldDef where
  hi : Nat
  lo : Nat
  acc : Acc
  legal : List (Nat × Nat)
  deriving DecidableEq, Repr

/-- Whether a word is a register of its own or half of a 64-bit quantity (R11). -/
inductive PairRole where
  | single | lo | hi
  deriving DecidableEq, Repr

/-- A register row: offset in control space, `count` copies at `stride`, and inside each copy
`pairs` copies at 0x40 (the pair registers of a cluster block, R635). `zeroMask` holds the bits
of a 64-bit quantity that must be zero. -/
structure RegDef where
  off : Nat
  stride : Nat
  count : Nat
  pairs : Nat
  reset : Nat
  role : PairRole
  zeroMask : Nat
  fields : List FieldDef
  deriving DecidableEq, Repr

namespace Reg

def TCK_CTRL : Nat := 0x040000
def TCK_PERIOD : Nat := 0x040004
def TCK_SRC : Nat := 0x040008
def TCK_TXBUDGET : Nat := 0x04000C
def TCK_THROTTLE : Nat := 0x040010
def TCK_SEALFAIL : Nat := 0x040014
def TCK_TOUT : Nat := 0x040018
def TCK_STATUS : Nat := 0x04001C
def TCK_ERR : Nat := 0x040020
def TCK_EPOCH_LO : Nat := 0x040028
def TCK_EPOCH_HI : Nat := 0x04002C
def TCK_SEALED_LO : Nat := 0x040030
def TCK_SEALED_HI : Nat := 0x040034
def TCK_TICKCNT_LO : Nat := 0x040038
def TCK_TICKCNT_HI : Nat := 0x04003C
def TCK_TIME_LO : Nat := 0x040040
def TCK_TIME_HI : Nat := 0x040044
def TCK_RBEPOCH_LO : Nat := 0x040048
def TCK_RBEPOCH_HI : Nat := 0x04004C
def TCK_SEALTIME : Nat := 0x040050
def TCK_SEALMAX : Nat := 0x040054
def TCK_LINKDLY : Nat := 0x040058
def TCK_CNT_LATE : Nat := 0x04005C
def TCK_CNT_SKIP : Nat := 0x040060
def TCK_CNT_RB : Nat := 0x040064
def TCK_CNT_OVR : Nat := 0x040068
def STK_CTRL : Nat := 0x180000
def STK_BASE_LO : Nat := 0x180008
def STK_BASE_HI : Nat := 0x18000C
def STK_HASHSEED : Nat := 0x180010
def STK_CFG : Nat := 0x180014
def STK_REMOTE : Nat := 0x180018
def STK_STATUS : Nat := 0x18001C
def STK_ERR : Nat := 0x180020
def STK_HOMED : Nat := 0x180100
def STK_OCC : Nat := 0x180400
def STK_WAITOCC : Nat := 0x180404
def STK_REMOCC : Nat := 0x180408
def STK_CNT_WOUND : Nat := 0x18040C
def STK_CNT_OVF : Nat := 0x180410
def STK_OPS_LO : Nat := 0x180418
def STK_OPS_HI : Nat := 0x18041C
def JNL_CTRL : Nat := 0x100000
def JNL_RING_BASE_LO : Nat := 0x100008
def JNL_RING_BASE_HI : Nat := 0x10000C
def JNL_LIVE_BASE_LO : Nat := 0x100018
def JNL_LIVE_BASE_HI : Nat := 0x10001C
def JNL_REPL_BASE_LO : Nat := 0x100020
def JNL_REPL_BASE_HI : Nat := 0x100024
def JNL_RIDX_BASE_LO : Nat := 0x100030
def JNL_RIDX_BASE_HI : Nat := 0x100034
def JNL_RINGCFG : Nat := 0x100010
def JNL_RINGSTOP : Nat := 0x100014
def JNL_REGION : Nat := 0x100028
def JNL_SHEAFMAX : Nat := 0x10002C
def JNL_RIDX : Nat := 0x100038
def JNL_STATUS : Nat := 0x100040
def JNL_ERR : Nat := 0x100044
def JNL_HEAD_LO : Nat := 0x100048
def JNL_HEAD_HI : Nat := 0x10004C
def JNL_TAIL_LO : Nat := 0x100050
def JNL_TAIL_HI : Nat := 0x100054
def JNL_DESTAGED_LO : Nat := 0x100058
def JNL_DESTAGED_HI : Nat := 0x10005C
def JNL_APPLIED_LO : Nat := 0x100060
def JNL_APPLIED_HI : Nat := 0x100064
def JNL_RINGFREE : Nat := 0x100068
def JNL_KEYGEN : Nat := 0x10006C
def JNL_CHAIN : Nat := 0x100070
def JNL_CNT_SHEAF : Nat := 0x1000A0
def JNL_CNT_REJ : Nat := 0x1000A4
def TWN_CTRL : Nat := 0x140000
def TWN_CFG : Nat := 0x140004
def TWN_PAIRGEN : Nat := 0x140008
def TWN_HB : Nat := 0x14000C
def TWN_LEASE : Nat := 0x140010
def TWN_JUNIOR : Nat := 0x140014
def TWN_RETURN : Nat := 0x140018
def TWN_MOVE : Nat := 0x14001C
def TWN_STATUS : Nat := 0x140020
def TWN_ERR : Nat := 0x140024
def TWN_LEASEEND_LO : Nat := 0x140028
def TWN_LEASEEND_HI : Nat := 0x14002C
def TWN_HANDEPOCH_LO : Nat := 0x140030
def TWN_HANDEPOCH_HI : Nat := 0x140034
def TWN_REBUILD : Nat := 0x140038
def TWN_HOLDLEFT : Nat := 0x14003C
def TWN_CNT_MISS : Nat := 0x140040
def TWN_CNT_TAKEOVER : Nat := 0x140044
def TWN_CNT_RETURN : Nat := 0x140048
def ETH_CTRL : Nat := 0x200000
def ETH_SWATH : Nat := 0x200004
def ETH_RTO : Nat := 0x200008
def ETH_ACK : Nat := 0x20000C
def ETH_QOS : Nat := 0x200010
def ETH_ERR : Nat := 0x200014
def ETH_SESSIONS : Nat := 0x200018
def ETH_PTPOFF_LO : Nat := 0x200020
def ETH_PTPOFF_HI : Nat := 0x200024
def ETH_CNT_DUP : Nat := 0x200030
def ETH_CNT_RETX : Nat := 0x200034
def ETH_CNT_DISC : Nat := 0x200038
def ETH_CNT_RESET : Nat := 0x20003C
def ETH_CNT_FCS : Nat := 0x20101C
def ETH_PCFG : Nat := 0x201000
def ETH_PSTAT : Nat := 0x201004
def ETH_MAC_LO : Nat := 0x201008
def ETH_MAC_HI : Nat := 0x20100C
def ETH_TSINFO : Nat := 0x201010
def ETH_TS_LO : Nat := 0x201014
def ETH_TS_HI : Nat := 0x201018
def PLT_CTRL : Nat := 0x280000
def PLT_DESC_BASE_LO : Nat := 0x280008
def PLT_DESC_BASE_HI : Nat := 0x28000C
def PLT_QP_BASE_LO : Nat := 0x280010
def PLT_QP_BASE_HI : Nat := 0x280014
def PLT_QREG_BASE_LO : Nat := 0x280018
def PLT_QREG_BASE_HI : Nat := 0x28001C
def PLT_QREG : Nat := 0x280020
def PLT_STATUS : Nat := 0x280024
def PLT_QPFREE : Nat := 0x280028
def PLT_ERR : Nat := 0x28002C
def PLT_CNT_RESET : Nat := 0x280030
def SOW_CTRL : Nat := 0x080000
def SOW_CFG : Nat := 0x080004
def SOW_STATUS : Nat := 0x080008
def SOW_ERR : Nat := 0x08000C
def SOW_CRIDX : Nat := 0x080010
def SOW_CREDIT : Nat := 0x080014
def SOW_CNT_DISP_LO : Nat := 0x080018
def SOW_CNT_DISP_HI : Nat := 0x08001C
def SOW_PAIR : Nat := 0x080100
def CLS_UCCTRL : Nat := 0x408000
def CLS_UCADDR : Nat := 0x408004
def CLS_UCWA : Nat := 0x408008
def CLS_UCWB : Nat := 0x40800C
def CLS_UCWC : Nat := 0x408010
def CLS_UCWD : Nat := 0x408014
def CLS_UCSTAT : Nat := 0x408018
def CLS_UCCRC : Nat := 0x40801C
def CLS_UCCNT : Nat := 0x408020
def CLS_CTRL : Nat := 0x400000
def CLS_ERR : Nat := 0x400004
def CLS_PAIRSTAT : Nat := 0x409000
def CLS_PAIRCFG : Nat := 0x409004
def CLS_PAIRERR : Nat := 0x409008
def CLS_MISGRP : Nat := 0x40900C
def CLS_CNT_RETRY : Nat := 0x409010
def CLS_CNT_MIS : Nat := 0x409014
def CLS_MOVE : Nat := 0x409018
def CLS_L2CFG : Nat := 0x400100
def CLS_L2LOCK : Nat := 0x400104
def CLS_L2LFSR : Nat := 0x400108
def CLS_L2STAT : Nat := 0x40010C
def CLS_L2ERR : Nat := 0x400110
def CLS_CNT_L2CORR : Nat := 0x400114
def CLS_CNT_DOOM : Nat := 0x400118
def CLS_SPRET : Nat := 0x400120
def CLS_SPSTAT : Nat := 0x400124
def CLS_SPERR : Nat := 0x400128
def CLS_CNT_SPCORR : Nat := 0x40012C
def WRP_CTRL : Nat := 0x700000
def WRP_TIMEOUT : Nat := 0x700004
def WRP_LINKCFG : Nat := 0x700008
def WRP_DEADCFG : Nat := 0x70000C
def WRP_RTIDX : Nat := 0x700010
def WRP_RTDATA : Nat := 0x700014
def WRP_RTCTRL : Nat := 0x700018
def WRP_RTSTAT : Nat := 0x70001C
def WRP_ERR : Nat := 0x700020
def WRP_ISO : Nat := 0x700024
def WRP_LINKDOWN : Nat := 0x700028
def WRP_ELOG : Nat := 0x70002C
def WRP_ELOGADDR_LO : Nat := 0x700030
def WRP_ELOGADDR_HI : Nat := 0x700034
def WRP_CNT_TIMEOUT : Nat := 0x700040
def WRP_CNT_LATE : Nat := 0x700044
def WRP_CNT_REPLAY : Nat := 0x700048
def WRP_CNT_DOMOFF : Nat := 0x70004C
def THR_CTRL : Nat := 0x740000
def THR_CFG : Nat := 0x740004
def THR_SUBMIT_LO : Nat := 0x740008
def THR_SUBMIT_HI : Nat := 0x74000C
def THR_STATUS : Nat := 0x740010
def THR_ERR : Nat := 0x740014
def THR_CRIDX : Nat := 0x740018
def THR_CREDIT : Nat := 0x74001C
def THR_CNT_VERIFY : Nat := 0x740020
def THR_CNT_CANCEL : Nat := 0x740024
def THR_CNT_JOBS_LO : Nat := 0x740028
def THR_CNT_JOBS_HI : Nat := 0x74002C
def CPH_CTRL : Nat := 0x780000
def CPH_STATUS : Nat := 0x780004
def CPH_ERR : Nat := 0x780008
def CPH_SUBMIT_LO : Nat := 0x780010
def CPH_SUBMIT_HI : Nat := 0x780014
def CPH_SLOTIDX : Nat := 0x780018
def CPH_SLOTINFO : Nat := 0x78001C
def CPH_SLOTUSE_LO : Nat := 0x780020
def CPH_SLOTUSE_HI : Nat := 0x780024
def CPH_SLOTLIM_LO : Nat := 0x780028
def CPH_SLOTLIM_HI : Nat := 0x78002C
def CPH_CNT_JOBS : Nat := 0x780030
def CPH_CNT_AUTHFAIL : Nat := 0x780034
def CPH_CNT_WIPE : Nat := 0x780038
def CPH_LOCK : Nat := 0x780100
def CPH_ALLOT : Nat := 0x780400
def FRW_CTRL : Nat := 0x7C0000
def FRW_CFG : Nat := 0x7C0004
def FRW_STATUS : Nat := 0x7C0008
def FRW_ERR : Nat := 0x7C000C
def FRW_SUBMIT_LO : Nat := 0x7C0010
def FRW_SUBMIT_HI : Nat := 0x7C0014
def FRW_KEYSLOT : Nat := 0x7C0018
def FRW_PLOUGH : Nat := 0x7C001C
def FRW_NSDST : Nat := 0x7C0020
def FRW_NSPLG : Nat := 0x7C0024
def FRW_NSARBO : Nat := 0x7C0028
def FRW_NSARBP : Nat := 0x7C002C
def FRW_NSPDST : Nat := 0x7C0030
def FRW_NSPPLG : Nat := 0x7C0034
def FRW_PATHIDX : Nat := 0x7C0038
def FRW_PATHSTAT : Nat := 0x7C003C
def FRW_CNT_REDRIVE : Nat := 0x7C0040
def FRW_CNT_PATHFAIL : Nat := 0x7C0044
def FRW_CNT_LATE : Nat := 0x7C0048
def FRW_GROUP : Nat := 0x7C0100
def WFT_CTRL : Nat := 0x800000
def WFT_DEVID : Nat := 0x800004
def WFT_CFG : Nat := 0x800008
def WFT_TICKCFG : Nat := 0x80000C
def WFT_RTIDX : Nat := 0x800010
def WFT_RTDATA : Nat := 0x800014
def WFT_ERR : Nat := 0x800018
def WFT_CNT_LOST : Nat := 0x80001C
def WFT_CNT_VOTEFAIL : Nat := 0x800020
def WFT_LSTAT : Nat := 0x800100
def WFT_CNT_REPLAY : Nat := 0x800104
def WFT_CNT_FEC : Nat := 0x800108
def WFT_CNT_FECUE : Nat := 0x80010C
def WFT_RWIN : Nat := 0x800400
def SWD_DEVID : Nat := 0x000000
def SWD_BOOTSTAT : Nat := 0x000004
def SWD_ERR : Nat := 0x000008
def SWD_SEQ_LO : Nat := 0x000010
def SWD_SEQ_HI : Nat := 0x000014
def SWD_UID : Nat := 0x000020
def SWD_MEASW : Nat := 0x000100
def LCT_STATE : Nat := 0x8C0000
def LCT_ERR : Nat := 0x8C0004
def LCT_TMASK : Nat := 0x8C0008
def LCT_CNT_TAMPER : Nat := 0x8C000C
def LCT_OWNER : Nat := 0x8C0020
def DBG_ID : Nat := 0x8E0000
def DBG_AUTHCTRL : Nat := 0x8E0004
def DBG_AUTHSTAT : Nat := 0x8E0008
def DBG_AUTHWIN : Nat := 0x8E0040
def DBG_PCTRL : Nat := 0x8E0100
def DBG_PSTAT : Nat := 0x8E0104
def DBG_BPADDR : Nat := 0x8E0110
def DBG_BPCTL : Nat := 0x8E0114
def DBG_RSEL : Nat := 0x8E0180
def DBG_RDATA : Nat := 0x8E0184
def DBG_MADDR_LO : Nat := 0x8E0190
def DBG_MADDR_HI : Nat := 0x8E0194
def DBG_MDATA : Nat := 0x8E0198
def DBG_ERR : Nat := 0x8E019C
def GLN_CTRL : Nat := 0x010000
def GLN_STATUS : Nat := 0x010004
def GLN_ERR : Nat := 0x010008
def GLN_CLEAR : Nat := 0x01000C
def GLN_NEXTSEQ : Nat := 0x010010
def GLN_SAFECAUSE : Nat := 0x010014
def GLN_SRCIDX : Nat := 0x010018
def GLN_SRCCNT : Nat := 0x01001C
def GLN_CNT_LOST : Nat := 0x010020
def GLN_RECSEL : Nat := 0x010040
def GLN_REC : Nat := 0x010080
def GLN_SRCCFG : Nat := 0x010800
def ALM_CTRL : Nat := 0x020000
def ALM_INTERVAL : Nat := 0x020004
def ALM_STATUS : Nat := 0x020008
def ALM_ERR : Nat := 0x02000C
def ALM_CURSOR : Nat := 0x020010
def ALM_CFGGEN : Nat := 0x020014
def ALM_HEAD_LO : Nat := 0x020018
def ALM_HEAD_HI : Nat := 0x02001C
def ALM_CNT_WATCH : Nat := 0x020020
def ALM_HCFG : Nat := 0x020100
def ALM_XCFG : Nat := 0x020200
def ALM_XLIM : Nat := 0x020300
def ALM_WINDOW : Nat := 0x020400
def PCK_CTRL : Nat := 0x880000
def PCK_ERR : Nat := 0x880004
def PCK_RSTCTRL : Nat := 0x880008
def PCK_RSTCAUSE : Nat := 0x88000C
def PCK_WDOG : Nat := 0x880010
def PCK_THERM : Nat := 0x880014
def PCK_CLSPWR : Nat := 0x880018
def PCK_CLSPWRSTAT : Nat := 0x88001C
def PCK_DOMOFF_LO : Nat := 0x880020
def PCK_DOMOFF_HI : Nat := 0x880024
def PCK_MONSTAT_LO : Nat := 0x880028
def PCK_MONSTAT_HI : Nat := 0x88002C
def PCK_CLKCFG : Nat := 0x880040
def PCK_TEMP : Nat := 0x880080
def PCK_RAIL : Nat := 0x8800C0
def PAD_CTRL : Nat := 0x900000
def PAD_FUNC : Nat := 0x900004
def PAD_STATUS : Nat := 0x900008
def PAD_ERR : Nat := 0x90000C
def MEM_ERR : Nat := 0x600000
def MEM_CHSTAT : Nat := 0x600100
def MEM_CNT_CE : Nat := 0x600200
def MEM_CNT_UE : Nat := 0x600300

end Reg

/-- The SWD registers. -/
def regsSwd : List RegDef :=
  [⟨Reg.SWD_DEVID, 0, 1, 1, 0x961200B1, .single, 0, [⟨31, 16, .ro, []⟩, ⟨7, 0, .ro, []⟩]⟩,
    ⟨Reg.SWD_BOOTSTAT, 0, 1, 1, 0x0, .single, 0, [⟨31, 28, .ro, []⟩, ⟨27, 24, .ro, []⟩, ⟨15, 8, .ro, []⟩, ⟨3, 0, .ro, []⟩]⟩,
    ⟨Reg.SWD_ERR, 0, 1, 1, 0x0, .single, 0, [⟨3, 3, .w1c, []⟩, ⟨2, 2, .w1c, []⟩, ⟨1, 1, .w1c, []⟩, ⟨0, 0, .w1c, []⟩]⟩,
    ⟨Reg.SWD_SEQ_LO, 0, 1, 1, 0, .lo, 0x0, [⟨31, 0, .ro, []⟩]⟩,
    ⟨Reg.SWD_SEQ_HI, 0, 1, 1, 0, .hi, 0x0, [⟨31, 0, .ro, []⟩]⟩,
    ⟨Reg.SWD_UID, 4, 4, 1, 0x0, .single, 0, [⟨31, 0, .ro, []⟩]⟩,
    ⟨Reg.SWD_MEASW, 4, 96, 1, 0x0, .single, 0, [⟨31, 0, .ro, []⟩]⟩]

/-- The GLN registers. -/
def regsGln : List RegDef :=
  [⟨Reg.GLN_CTRL, 0, 1, 1, 0x0, .single, 0, [⟨31, 31, .lock, []⟩]⟩,
    ⟨Reg.GLN_STATUS, 0, 1, 1, 0x0, .single, 0, [⟨31, 31, .ro, []⟩, ⟨30, 30, .ro, []⟩, ⟨29, 29, .ro, []⟩, ⟨26, 16, .ro, []⟩, ⟨10, 0, .ro, []⟩]⟩,
    ⟨Reg.GLN_ERR, 0, 1, 1, 0x0, .single, 0, [⟨3, 3, .w1c, []⟩, ⟨2, 2, .w1c, []⟩, ⟨1, 1, .w1c, []⟩, ⟨0, 0, .w1c, []⟩]⟩,
    ⟨Reg.GLN_CLEAR, 0, 1, 1, 0x0, .single, 0, [⟨31, 0, .wo, []⟩]⟩,
    ⟨Reg.GLN_NEXTSEQ, 0, 1, 1, 0x1, .single, 0, [⟨31, 0, .ro, []⟩]⟩,
    ⟨Reg.GLN_SAFECAUSE, 0, 1, 1, 0x0, .single, 0, [⟨31, 31, .ro, []⟩, ⟨8, 0, .ro, []⟩]⟩,
    ⟨Reg.GLN_SRCIDX, 0, 1, 1, 0x0, .single, 0, [⟨8, 0, .rw, []⟩]⟩,
    ⟨Reg.GLN_SRCCNT, 0, 1, 1, 0x0, .single, 0, [⟨31, 0, .ro, []⟩]⟩]
  ++ [⟨Reg.GLN_CNT_LOST, 0, 1, 1, 0x0, .single, 0, [⟨31, 0, .ro, []⟩]⟩,
    ⟨Reg.GLN_RECSEL, 0, 1, 1, 0x0, .single, 0, [⟨31, 0, .rw, []⟩]⟩,
    ⟨Reg.GLN_REC, 4, 8, 1, 0x0, .single, 0, [⟨31, 0, .rs, []⟩]⟩,
    ⟨Reg.GLN_SRCCFG, 4, 512, 1, 0x5, .single, 0, [⟨2, 2, .rwl, []⟩, ⟨1, 1, .rwl, []⟩, ⟨0, 0, .rwl, []⟩]⟩]

/-- The ALM registers. -/
def regsAlm : List RegDef :=
  [⟨Reg.ALM_CTRL, 0, 1, 1, 0x0, .single, 0, [⟨0, 0, .wo, []⟩]⟩,
    ⟨Reg.ALM_INTERVAL, 0, 1, 1, 0x258, .single, 0, [⟨16, 0, .rw, [(1, 86400)]⟩]⟩,
    ⟨Reg.ALM_STATUS, 0, 1, 1, 0x0, .single, 0, [⟨31, 31, .ro, []⟩, ⟨30, 30, .ro, []⟩, ⟨29, 29, .ro, []⟩]⟩,
    ⟨Reg.ALM_ERR, 0, 1, 1, 0x0, .single, 0, [⟨1, 1, .w1c, []⟩, ⟨0, 0, .w1c, []⟩]⟩,
    ⟨Reg.ALM_CURSOR, 0, 1, 1, 0x0, .single, 0, [⟨31, 31, .rw, []⟩, ⟨27, 16, .rw, []⟩, ⟨2, 0, .rw, []⟩]⟩,
    ⟨Reg.ALM_CFGGEN, 0, 1, 1, 0x0, .single, 0, [⟨31, 0, .ro, []⟩]⟩,
    ⟨Reg.ALM_HEAD_LO, 0, 1, 1, 0, .lo, 0x0, [⟨31, 0, .ro, []⟩]⟩,
    ⟨Reg.ALM_HEAD_HI, 0, 1, 1, 0, .hi, 0x0, [⟨31, 0, .ro, []⟩]⟩]
  ++ [⟨Reg.ALM_CNT_WATCH, 0, 1, 1, 0x0, .single, 0, [⟨31, 0, .ro, []⟩]⟩,
    ⟨Reg.ALM_HCFG, 4, 64, 1, 0x0, .single, 0, [⟨31, 24, .rw, [(0, 15)]⟩, ⟨23, 12, .rw, []⟩, ⟨10, 10, .rw, []⟩, ⟨9, 5, .rw, []⟩]⟩,
    ⟨Reg.ALM_XCFG, 4, 64, 1, 0x0, .single, 0, [⟨31, 24, .rw, [(0, 15)]⟩, ⟨23, 12, .rw, []⟩, ⟨1, 1, .rw, []⟩, ⟨0, 0, .rw, []⟩]⟩,
    ⟨Reg.ALM_XLIM, 4, 64, 1, 0xFFFFFFFF, .single, 0, [⟨31, 0, .rw, []⟩]⟩,
    ⟨Reg.ALM_WINDOW, 4, 64, 1, 0x0, .single, 0, [⟨31, 0, .rs, []⟩]⟩]

/-- The TCK registers. -/
def regsTck : List RegDef :=
  [⟨Reg.TCK_CTRL, 0, 1, 1, 0x0, .single, 0, [⟨31, 31, .lock, []⟩]⟩,
    ⟨Reg.TCK_PERIOD, 0, 1, 1, 0x14, .single, 0, [⟨7, 0, .rw, [(10, 250)]⟩]⟩,
    ⟨Reg.TCK_SRC, 0, 1, 1, 0x6400, .single, 0, [⟨15, 8, .rwl, [(1, 255)]⟩, ⟨6, 4, .rwl, [(0, 5)]⟩, ⟨1, 0, .rwl, [(0, 2)]⟩]⟩,
    ⟨Reg.TCK_TXBUDGET, 0, 1, 1, 0x8, .single, 0, [⟨6, 0, .rw, [(1, 125)]⟩]⟩,
    ⟨Reg.TCK_THROTTLE, 0, 1, 1, 0x101, .single, 0, [⟨8, 8, .rw, []⟩, ⟨2, 0, .rw, [(0, 4)]⟩]⟩,
    ⟨Reg.TCK_SEALFAIL, 0, 1, 1, 0x4, .single, 0, [⟨3, 0, .rw, [(2, 15)]⟩]⟩,
    ⟨Reg.TCK_TOUT, 0, 1, 1, 0xA00, .single, 0, [⟨15, 8, .rw, [(1, 255)]⟩, ⟨0, 0, .rw, []⟩]⟩,
    ⟨Reg.TCK_STATUS, 0, 1, 1, 0x0, .single, 0, [⟨31, 28, .ro, []⟩, ⟨5, 5, .ro, []⟩, ⟨4, 4, .ro, []⟩, ⟨3, 3, .ro, []⟩, ⟨2, 2, .ro, []⟩, ⟨1, 0, .ro, []⟩]⟩]
  ++ [⟨Reg.TCK_ERR, 0, 1, 1, 0x0, .single, 0, [⟨5, 5, .w1c, []⟩, ⟨4, 4, .w1c, []⟩, ⟨3, 3, .w1c, []⟩, ⟨2, 2, .w1c, []⟩, ⟨1, 1, .w1c, []⟩, ⟨0, 0, .w1c, []⟩]⟩,
    ⟨Reg.TCK_EPOCH_LO, 0, 1, 1, 0, .lo, 0x0, [⟨31, 0, .ro, []⟩]⟩,
    ⟨Reg.TCK_EPOCH_HI, 0, 1, 1, 0, .hi, 0x0, [⟨31, 0, .ro, []⟩]⟩,
    ⟨Reg.TCK_SEALED_LO, 0, 1, 1, 0, .lo, 0x0, [⟨31, 0, .ro, []⟩]⟩,
    ⟨Reg.TCK_SEALED_HI, 0, 1, 1, 0, .hi, 0x0, [⟨31, 0, .ro, []⟩]⟩,
    ⟨Reg.TCK_TICKCNT_LO, 0, 1, 1, 0, .lo, 0x0, [⟨31, 0, .ro, []⟩]⟩,
    ⟨Reg.TCK_TICKCNT_HI, 0, 1, 1, 0, .hi, 0x0, [⟨31, 0, .ro, []⟩]⟩,
    ⟨Reg.TCK_TIME_LO, 0, 1, 1, 0, .lo, 0x0, [⟨31, 0, .ro, []⟩]⟩]
  ++ [⟨Reg.TCK_TIME_HI, 0, 1, 1, 0, .hi, 0x0, [⟨31, 0, .ro, []⟩]⟩,
    ⟨Reg.TCK_RBEPOCH_LO, 0, 1, 1, 0, .lo, 0x0, [⟨31, 0, .ro, []⟩]⟩,
    ⟨Reg.TCK_RBEPOCH_HI, 0, 1, 1, 0, .hi, 0x0, [⟨31, 0, .ro, []⟩]⟩,
    ⟨Reg.TCK_SEALTIME, 0, 1, 1, 0x0, .single, 0, [⟨31, 0, .ro, []⟩]⟩,
    ⟨Reg.TCK_SEALMAX, 0, 1, 1, 0x0, .single, 0, [⟨31, 0, .rs, []⟩]⟩,
    ⟨Reg.TCK_LINKDLY, 0, 1, 1, 0x0, .single, 0, [⟨15, 0, .ro, []⟩]⟩,
    ⟨Reg.TCK_CNT_LATE, 0, 1, 1, 0x0, .single, 0, [⟨31, 0, .ro, []⟩]⟩,
    ⟨Reg.TCK_CNT_SKIP, 0, 1, 1, 0x0, .single, 0, [⟨31, 0, .ro, []⟩]⟩]
  ++ [⟨Reg.TCK_CNT_RB, 0, 1, 1, 0x0, .single, 0, [⟨31, 0, .ro, []⟩]⟩,
    ⟨Reg.TCK_CNT_OVR, 0, 1, 1, 0x0, .single, 0, [⟨31, 0, .ro, []⟩]⟩]

/-- The SOW registers. -/
def regsSow : List RegDef :=
  [⟨Reg.SOW_CTRL, 0, 1, 1, 0x0, .single, 0, [⟨0, 0, .rw, []⟩]⟩,
    ⟨Reg.SOW_CFG, 0, 1, 1, 0x102, .single, 0, [⟨8, 8, .rw, []⟩, ⟨3, 0, .rw, [(1, 8)]⟩]⟩,
    ⟨Reg.SOW_STATUS, 0, 1, 1, 0x0, .single, 0, [⟨31, 24, .ro, []⟩, ⟨14, 0, .ro, []⟩]⟩,
    ⟨Reg.SOW_ERR, 0, 1, 1, 0x0, .single, 0, [⟨4, 4, .w1c, []⟩, ⟨3, 3, .w1c, []⟩, ⟨2, 2, .w1c, []⟩, ⟨1, 1, .w1c, []⟩, ⟨0, 0, .w1c, []⟩]⟩,
    ⟨Reg.SOW_CRIDX, 0, 1, 1, 0x0, .single, 0, [⟨14, 12, .rw, [(0, 4)]⟩, ⟨11, 0, .rw, []⟩]⟩,
    ⟨Reg.SOW_CREDIT, 0, 1, 1, 0x0, .single, 0, [⟨31, 0, .ro, []⟩]⟩,
    ⟨Reg.SOW_CNT_DISP_LO, 0, 1, 1, 0, .lo, 0x0, [⟨31, 0, .ro, []⟩]⟩,
    ⟨Reg.SOW_CNT_DISP_HI, 0, 1, 1, 0, .hi, 0x0, [⟨31, 0, .ro, []⟩]⟩]
  ++ [⟨Reg.SOW_PAIR, 4, 96, 1, 0x0, .single, 0, [⟨4, 4, .ro, []⟩, ⟨2, 2, .rw, []⟩, ⟨1, 0, .rw, []⟩]⟩]

/-- The JNL registers. -/
def regsJnl : List RegDef :=
  [⟨Reg.JNL_CTRL, 0, 1, 1, 0x0, .single, 0, [⟨31, 31, .lock, []⟩, ⟨2, 2, .rw, []⟩, ⟨1, 1, .rw, []⟩, ⟨0, 0, .wo, []⟩]⟩,
    ⟨Reg.JNL_RING_BASE_LO, 0, 1, 1, 0, .lo, 0xFFFFC0003FFFFFFF, [⟨31, 0, .rwl, []⟩]⟩,
    ⟨Reg.JNL_RING_BASE_HI, 0, 1, 1, 0, .hi, 0xFFFFC0003FFFFFFF, [⟨31, 0, .rwl, []⟩]⟩,
    ⟨Reg.JNL_LIVE_BASE_LO, 0, 1, 1, 0, .lo, 0xFFFFC0003FFFFFFF, [⟨31, 0, .rwl, []⟩]⟩,
    ⟨Reg.JNL_LIVE_BASE_HI, 0, 1, 1, 0, .hi, 0xFFFFC0003FFFFFFF, [⟨31, 0, .rwl, []⟩]⟩,
    ⟨Reg.JNL_REPL_BASE_LO, 0, 1, 1, 0, .lo, 0xFFFFC0003FFFFFFF, [⟨31, 0, .rwl, []⟩]⟩,
    ⟨Reg.JNL_REPL_BASE_HI, 0, 1, 1, 0, .hi, 0xFFFFC0003FFFFFFF, [⟨31, 0, .rwl, []⟩]⟩,
    ⟨Reg.JNL_RIDX_BASE_LO, 0, 1, 1, 0, .lo, 0xFFFFC000FFFFFFFF, [⟨31, 0, .rwl, []⟩]⟩]
  ++ [⟨Reg.JNL_RIDX_BASE_HI, 0, 1, 1, 0, .hi, 0xFFFFC000FFFFFFFF, [⟨31, 0, .rwl, []⟩]⟩,
    ⟨Reg.JNL_RINGCFG, 0, 1, 1, 0x10040, .single, 0, [⟨19, 16, .rwl, [(1, 15)]⟩, ⟨9, 0, .rwl, [(8, 512)]⟩]⟩,
    ⟨Reg.JNL_RINGSTOP, 0, 1, 1, 0x1, .single, 0, [⟨5, 0, .rw, [(1, 63)]⟩]⟩,
    ⟨Reg.JNL_REGION, 0, 1, 1, 0x0, .single, 0, [⟨28, 16, .rwl, [(0, 4096)]⟩, ⟨12, 0, .rwl, [(0, 4096)]⟩]⟩,
    ⟨Reg.JNL_SHEAFMAX, 0, 1, 1, 0x100, .single, 0, [⟨10, 0, .rw, [(16, 1024)]⟩]⟩,
    ⟨Reg.JNL_RIDX, 0, 1, 1, 0x4, .single, 0, [⟨5, 0, .rw, [(1, 60)]⟩]⟩,
    ⟨Reg.JNL_STATUS, 0, 1, 1, 0x0, .single, 0, [⟨3, 3, .ro, []⟩, ⟨2, 2, .ro, []⟩, ⟨1, 1, .ro, []⟩, ⟨0, 0, .ro, []⟩]⟩,
    ⟨Reg.JNL_ERR, 0, 1, 1, 0x0, .single, 0, [⟨10, 10, .w1c, []⟩, ⟨9, 9, .w1c, []⟩, ⟨8, 8, .w1c, []⟩, ⟨7, 7, .w1c, []⟩, ⟨6, 6, .w1c, []⟩, ⟨5, 5, .w1c, []⟩, ⟨4, 4, .w1c, []⟩, ⟨3, 3, .w1c, []⟩, ⟨2, 2, .w1c, []⟩, ⟨1, 1, .w1c, []⟩, ⟨0, 0, .w1c, []⟩]⟩]
  ++ [⟨Reg.JNL_HEAD_LO, 0, 1, 1, 0, .lo, 0x0, [⟨31, 0, .ro, []⟩]⟩,
    ⟨Reg.JNL_HEAD_HI, 0, 1, 1, 0, .hi, 0x0, [⟨31, 0, .ro, []⟩]⟩,
    ⟨Reg.JNL_TAIL_LO, 0, 1, 1, 0, .lo, 0x0, [⟨31, 0, .ro, []⟩]⟩,
    ⟨Reg.JNL_TAIL_HI, 0, 1, 1, 0, .hi, 0x0, [⟨31, 0, .ro, []⟩]⟩,
    ⟨Reg.JNL_DESTAGED_LO, 0, 1, 1, 0, .lo, 0x0, [⟨31, 0, .ro, []⟩]⟩,
    ⟨Reg.JNL_DESTAGED_HI, 0, 1, 1, 0, .hi, 0x0, [⟨31, 0, .ro, []⟩]⟩,
    ⟨Reg.JNL_APPLIED_LO, 0, 1, 1, 0, .lo, 0x0, [⟨31, 0, .ro, []⟩]⟩,
    ⟨Reg.JNL_APPLIED_HI, 0, 1, 1, 0, .hi, 0x0, [⟨31, 0, .ro, []⟩]⟩]
  ++ [⟨Reg.JNL_RINGFREE, 0, 1, 1, 0x0, .single, 0, [⟨19, 0, .ro, []⟩]⟩,
    ⟨Reg.JNL_KEYGEN, 0, 1, 1, 0x0, .single, 0, [⟨31, 0, .ro, []⟩]⟩,
    ⟨Reg.JNL_CHAIN, 4, 12, 1, 0x0, .single, 0, [⟨31, 0, .ro, []⟩]⟩,
    ⟨Reg.JNL_CNT_SHEAF, 0, 1, 1, 0x0, .single, 0, [⟨31, 0, .ro, []⟩]⟩,
    ⟨Reg.JNL_CNT_REJ, 0, 1, 1, 0x0, .single, 0, [⟨31, 0, .ro, []⟩]⟩]

/-- The TWN registers. -/
def regsTwn : List RegDef :=
  [⟨Reg.TWN_CTRL, 0, 1, 1, 0x0, .single, 0, [⟨1, 1, .rw, []⟩, ⟨0, 0, .wo, []⟩]⟩,
    ⟨Reg.TWN_CFG, 0, 1, 1, 0x0, .single, 0, [⟨31, 31, .rw, []⟩, ⟨25, 16, .rw, []⟩, ⟨10, 8, .rw, [(0, 5)]⟩, ⟨6, 4, .rw, [(0, 5)]⟩, ⟨0, 0, .rw, []⟩]⟩,
    ⟨Reg.TWN_PAIRGEN, 0, 1, 1, 0x0, .single, 0, [⟨31, 0, .rw, []⟩]⟩,
    ⟨Reg.TWN_HB, 0, 1, 1, 0x20A, .single, 0, [⟨15, 8, .rw, [(1, 254)]⟩, ⟨7, 0, .rw, [(3, 255)]⟩]⟩,
    ⟨Reg.TWN_LEASE, 0, 1, 1, 0x1F4, .single, 0, [⟨12, 0, .rw, [(200, 5000)]⟩]⟩,
    ⟨Reg.TWN_JUNIOR, 0, 1, 1, 0x7D0, .single, 0, [⟨15, 0, .rw, [(1000, 65535)]⟩]⟩,
    ⟨Reg.TWN_RETURN, 0, 1, 1, 0x8000003C, .single, 0, [⟨31, 31, .rw, []⟩, ⟨11, 0, .rw, [(1, 3600)]⟩]⟩,
    ⟨Reg.TWN_MOVE, 0, 1, 1, 0xA03, .single, 0, [⟨15, 8, .rw, [(1, 255)]⟩, ⟨3, 0, .rw, [(1, 8)]⟩]⟩]
  ++ [⟨Reg.TWN_STATUS, 0, 1, 1, 0x0, .single, 0, [⟨31, 28, .ro, []⟩, ⟨27, 24, .ro, []⟩, ⟨23, 16, .ro, []⟩, ⟨6, 6, .ro, []⟩, ⟨5, 5, .ro, []⟩, ⟨4, 4, .ro, []⟩, ⟨3, 3, .ro, []⟩, ⟨2, 2, .ro, []⟩, ⟨1, 1, .ro, []⟩]⟩,
    ⟨Reg.TWN_ERR, 0, 1, 1, 0x0, .single, 0, [⟨9, 9, .w1c, []⟩, ⟨8, 8, .w1c, []⟩, ⟨7, 7, .w1c, []⟩, ⟨6, 6, .w1c, []⟩, ⟨5, 5, .w1c, []⟩, ⟨4, 4, .w1c, []⟩, ⟨3, 3, .w1c, []⟩, ⟨2, 2, .w1c, []⟩, ⟨1, 1, .w1c, []⟩, ⟨0, 0, .w1c, []⟩]⟩,
    ⟨Reg.TWN_LEASEEND_LO, 0, 1, 1, 0, .lo, 0x0, [⟨31, 0, .ro, []⟩]⟩,
    ⟨Reg.TWN_LEASEEND_HI, 0, 1, 1, 0, .hi, 0x0, [⟨31, 0, .ro, []⟩]⟩,
    ⟨Reg.TWN_HANDEPOCH_LO, 0, 1, 1, 0, .lo, 0x0, [⟨31, 0, .ro, []⟩]⟩,
    ⟨Reg.TWN_HANDEPOCH_HI, 0, 1, 1, 0, .hi, 0x0, [⟨31, 0, .ro, []⟩]⟩,
    ⟨Reg.TWN_REBUILD, 0, 1, 1, 0x0, .single, 0, [⟨31, 30, .ro, []⟩, ⟨12, 0, .ro, []⟩]⟩,
    ⟨Reg.TWN_HOLDLEFT, 0, 1, 1, 0x0, .single, 0, [⟨11, 0, .ro, []⟩]⟩]
  ++ [⟨Reg.TWN_CNT_MISS, 0, 1, 1, 0x0, .single, 0, [⟨31, 0, .ro, []⟩]⟩,
    ⟨Reg.TWN_CNT_TAKEOVER, 0, 1, 1, 0x0, .single, 0, [⟨31, 0, .ro, []⟩]⟩,
    ⟨Reg.TWN_CNT_RETURN, 0, 1, 1, 0x0, .single, 0, [⟨31, 0, .ro, []⟩]⟩]

/-- The STK registers. -/
def regsStk : List RegDef :=
  [⟨Reg.STK_CTRL, 0, 1, 1, 0x0, .single, 0, [⟨31, 31, .lock, []⟩, ⟨0, 0, .wo, []⟩]⟩,
    ⟨Reg.STK_BASE_LO, 0, 1, 1, 0, .lo, 0xFFFFC0001FFFFFFF, [⟨31, 0, .rwl, []⟩]⟩,
    ⟨Reg.STK_BASE_HI, 0, 1, 1, 0, .hi, 0xFFFFC0001FFFFFFF, [⟨31, 0, .rwl, []⟩]⟩,
    ⟨Reg.STK_HASHSEED, 0, 1, 1, 0xFFFFFFFF, .single, 0, [⟨31, 0, .rwl, []⟩]⟩,
    ⟨Reg.STK_CFG, 0, 1, 1, 0x704, .single, 0, [⟨10, 8, .rw, [(0, 7)]⟩, ⟨3, 0, .rw, [(1, 8)]⟩]⟩,
    ⟨Reg.STK_REMOTE, 0, 1, 1, 0x14, .single, 0, [⟨7, 0, .rw, [(1, 255)]⟩]⟩,
    ⟨Reg.STK_STATUS, 0, 1, 1, 0x0, .single, 0, [⟨1, 1, .ro, []⟩, ⟨0, 0, .ro, []⟩]⟩,
    ⟨Reg.STK_ERR, 0, 1, 1, 0x0, .single, 0, [⟨5, 5, .w1c, []⟩, ⟨4, 4, .w1c, []⟩, ⟨3, 3, .w1c, []⟩, ⟨2, 2, .w1c, []⟩, ⟨1, 1, .w1c, []⟩, ⟨0, 0, .w1c, []⟩]⟩]
  ++ [⟨Reg.STK_HOMED, 4, 128, 1, 0x0, .single, 0, [⟨31, 0, .rw, []⟩]⟩,
    ⟨Reg.STK_OCC, 32, 16, 1, 0x0, .single, 0, [⟨21, 0, .ro, []⟩]⟩,
    ⟨Reg.STK_WAITOCC, 32, 16, 1, 0x0, .single, 0, [⟨21, 0, .ro, []⟩]⟩,
    ⟨Reg.STK_REMOCC, 32, 16, 1, 0x0, .single, 0, [⟨21, 0, .ro, []⟩]⟩,
    ⟨Reg.STK_CNT_WOUND, 32, 16, 1, 0x0, .single, 0, [⟨31, 0, .ro, []⟩]⟩,
    ⟨Reg.STK_CNT_OVF, 32, 16, 1, 0x0, .single, 0, [⟨31, 0, .ro, []⟩]⟩,
    ⟨Reg.STK_OPS_LO, 32, 16, 1, 0, .lo, 0x0, [⟨31, 0, .ro, []⟩]⟩,
    ⟨Reg.STK_OPS_HI, 32, 16, 1, 0, .hi, 0x0, [⟨31, 0, .ro, []⟩]⟩]

/-- The ETH registers. -/
def regsEth : List RegDef :=
  [⟨Reg.ETH_CTRL, 0, 1, 1, 0x0, .single, 0, [⟨31, 31, .lock, []⟩, ⟨1, 1, .rw, []⟩, ⟨0, 0, .rw, []⟩]⟩,
    ⟨Reg.ETH_SWATH, 0, 1, 1, 0x5A7A, .single, 0, [⟨15, 0, .rwl, [(1, 318), (321, 4790), (4792, 65535)]⟩]⟩,
    ⟨Reg.ETH_RTO, 0, 1, 1, 0x80064, .single, 0, [⟨19, 16, .rw, [(1, 15)]⟩, ⟨13, 0, .rw, [(10, 10000)]⟩]⟩,
    ⟨Reg.ETH_ACK, 0, 1, 1, 0x1014, .single, 0, [⟨15, 8, .rw, [(1, 64)]⟩, ⟨7, 0, .rw, [(1, 255)]⟩]⟩,
    ⟨Reg.ETH_QOS, 0, 1, 1, 0x36, .single, 0, [⟨6, 4, .rw, []⟩, ⟨2, 0, .rw, []⟩]⟩,
    ⟨Reg.ETH_ERR, 0, 1, 1, 0x0, .single, 0, [⟨7, 7, .w1c, []⟩, ⟨6, 6, .w1c, []⟩, ⟨5, 5, .w1c, []⟩, ⟨4, 4, .w1c, []⟩, ⟨3, 3, .w1c, []⟩, ⟨2, 2, .w1c, []⟩, ⟨1, 1, .w1c, []⟩, ⟨0, 0, .w1c, []⟩]⟩,
    ⟨Reg.ETH_SESSIONS, 0, 1, 1, 0x0, .single, 0, [⟨18, 0, .ro, []⟩]⟩,
    ⟨Reg.ETH_PTPOFF_LO, 0, 1, 1, 0, .lo, 0x0, [⟨31, 0, .rw, []⟩]⟩]
  ++ [⟨Reg.ETH_PTPOFF_HI, 0, 1, 1, 0, .hi, 0x0, [⟨31, 0, .rw, []⟩]⟩,
    ⟨Reg.ETH_CNT_DUP, 0, 1, 1, 0x0, .single, 0, [⟨31, 0, .ro, []⟩]⟩,
    ⟨Reg.ETH_CNT_RETX, 0, 1, 1, 0x0, .single, 0, [⟨31, 0, .ro, []⟩]⟩,
    ⟨Reg.ETH_CNT_DISC, 0, 1, 1, 0x0, .single, 0, [⟨31, 0, .ro, []⟩]⟩,
    ⟨Reg.ETH_CNT_RESET, 0, 1, 1, 0x0, .single, 0, [⟨31, 0, .ro, []⟩]⟩,
    ⟨Reg.ETH_CNT_FCS, 1024, 2, 1, 0x0, .single, 0, [⟨31, 0, .ro, []⟩]⟩,
    ⟨Reg.ETH_PCFG, 1024, 2, 1, 0x480010, .single, 0, [⟨24, 24, .rw, []⟩, ⟨23, 16, .rw, []⟩, ⟨9, 9, .rw, []⟩, ⟨8, 8, .rw, []⟩, ⟨4, 4, .rwl, []⟩, ⟨2, 0, .rwl, []⟩]⟩,
    ⟨Reg.ETH_PSTAT, 1024, 2, 1, 0x0, .single, 0, [⟨23, 16, .ro, []⟩, ⟨15, 8, .ro, []⟩, ⟨4, 4, .ro, []⟩, ⟨3, 3, .ro, []⟩, ⟨1, 1, .ro, []⟩, ⟨0, 0, .ro, []⟩]⟩]
  ++ [⟨Reg.ETH_MAC_LO, 1024, 2, 1, 0, .lo, 0x0, [⟨31, 0, .ro, []⟩]⟩,
    ⟨Reg.ETH_MAC_HI, 1024, 2, 1, 0, .hi, 0x0, [⟨31, 0, .ro, []⟩]⟩,
    ⟨Reg.ETH_TSINFO, 1024, 2, 1, 0x0, .single, 0, [⟨31, 31, .rs, []⟩, ⟨30, 30, .rs, []⟩, ⟨27, 24, .rs, []⟩, ⟨20, 16, .rs, []⟩, ⟨15, 0, .rs, []⟩]⟩,
    ⟨Reg.ETH_TS_LO, 1024, 2, 1, 0, .lo, 0x0, [⟨31, 0, .ro, []⟩]⟩,
    ⟨Reg.ETH_TS_HI, 1024, 2, 1, 0, .hi, 0x0, [⟨31, 0, .ro, []⟩]⟩]

/-- The PLT registers. -/
def regsPlt : List RegDef :=
  [⟨Reg.PLT_CTRL, 0, 1, 1, 0x0, .single, 0, [⟨31, 31, .lock, []⟩, ⟨0, 0, .wo, []⟩]⟩,
    ⟨Reg.PLT_DESC_BASE_LO, 0, 1, 1, 0, .lo, 0xFFFFC000003FFFFF, [⟨31, 0, .rwl, []⟩]⟩,
    ⟨Reg.PLT_DESC_BASE_HI, 0, 1, 1, 0, .hi, 0xFFFFC000003FFFFF, [⟨31, 0, .rwl, []⟩]⟩,
    ⟨Reg.PLT_QP_BASE_LO, 0, 1, 1, 0, .lo, 0xFFFFC000003FFFFF, [⟨31, 0, .rwl, []⟩]⟩,
    ⟨Reg.PLT_QP_BASE_HI, 0, 1, 1, 0, .hi, 0xFFFFC000003FFFFF, [⟨31, 0, .rwl, []⟩]⟩,
    ⟨Reg.PLT_QREG_BASE_LO, 0, 1, 1, 0, .lo, 0xFFFFC0003FFFFFFF, [⟨31, 0, .rwl, []⟩]⟩,
    ⟨Reg.PLT_QREG_BASE_HI, 0, 1, 1, 0, .hi, 0xFFFFC0003FFFFFFF, [⟨31, 0, .rwl, []⟩]⟩,
    ⟨Reg.PLT_QREG, 0, 1, 1, 0x10, .single, 0, [⟨8, 0, .rwl, [(1, 256)]⟩]⟩]
  ++ [⟨Reg.PLT_STATUS, 0, 1, 1, 0x0, .single, 0, [⟨28, 16, .ro, []⟩, ⟨0, 0, .ro, []⟩]⟩,
    ⟨Reg.PLT_QPFREE, 0, 1, 1, 0x0, .single, 0, [⟨16, 0, .ro, []⟩]⟩,
    ⟨Reg.PLT_ERR, 0, 1, 1, 0x0, .single, 0, [⟨2, 2, .w1c, []⟩, ⟨1, 1, .w1c, []⟩, ⟨0, 0, .w1c, []⟩]⟩,
    ⟨Reg.PLT_CNT_RESET, 0, 1, 1, 0x0, .single, 0, [⟨31, 0, .ro, []⟩]⟩]

/-- The CLS registers. -/
def regsCls : List RegDef :=
  [⟨Reg.CLS_UCCTRL, 65536, 12, 8, 0x0, .single, 0, [⟨31, 31, .lock, []⟩, ⟨1, 1, .wo, []⟩, ⟨0, 0, .wo, []⟩]⟩,
    ⟨Reg.CLS_UCADDR, 65536, 12, 8, 0x0, .single, 0, [⟨13, 0, .rw, []⟩]⟩,
    ⟨Reg.CLS_UCWA, 65536, 12, 8, 0x0, .single, 0, [⟨31, 0, .wo, []⟩]⟩,
    ⟨Reg.CLS_UCWB, 65536, 12, 8, 0x0, .single, 0, [⟨31, 0, .wo, []⟩]⟩,
    ⟨Reg.CLS_UCWC, 65536, 12, 8, 0x0, .single, 0, [⟨31, 0, .wo, []⟩]⟩,
    ⟨Reg.CLS_UCWD, 65536, 12, 8, 0x0, .single, 0, [⟨31, 0, .wo, []⟩]⟩,
    ⟨Reg.CLS_UCSTAT, 65536, 12, 8, 0x0, .single, 0, [⟨31, 31, .ro, []⟩, ⟨30, 30, .ro, []⟩, ⟨17, 17, .w1c, []⟩, ⟨16, 16, .w1c, []⟩, ⟨13, 0, .ro, []⟩]⟩,
    ⟨Reg.CLS_UCCRC, 65536, 12, 8, 0xFFFFFFFF, .single, 0, [⟨31, 0, .ro, []⟩]⟩]
  ++ [⟨Reg.CLS_UCCNT, 65536, 12, 8, 0x0, .single, 0, [⟨31, 0, .ro, []⟩]⟩,
    ⟨Reg.CLS_CTRL, 65536, 12, 1, 0x0, .single, 0, [⟨31, 31, .lock, []⟩]⟩,
    ⟨Reg.CLS_ERR, 65536, 12, 1, 0x0, .single, 0, [⟨0, 0, .w1c, []⟩]⟩,
    ⟨Reg.CLS_PAIRSTAT, 65536, 12, 8, 0x0, .single, 0, [⟨29, 24, .ro, []⟩, ⟨23, 23, .ro, []⟩, ⟨22, 22, .ro, []⟩, ⟨17, 16, .ro, []⟩, ⟨11, 8, .ro, []⟩, ⟨3, 0, .ro, []⟩]⟩,
    ⟨Reg.CLS_PAIRCFG, 65536, 12, 8, 0x0, .single, 0, [⟨29, 24, .rwl, []⟩, ⟨22, 16, .rwl, []⟩, ⟨14, 8, .rwl, []⟩]⟩,
    ⟨Reg.CLS_PAIRERR, 65536, 12, 8, 0x0, .single, 0, [⟨6, 6, .w1c, []⟩, ⟨5, 5, .w1c, []⟩, ⟨4, 4, .w1c, []⟩, ⟨3, 3, .w1c, []⟩, ⟨2, 2, .w1c, []⟩, ⟨1, 1, .w1c, []⟩, ⟨0, 0, .w1c, []⟩]⟩,
    ⟨Reg.CLS_MISGRP, 65536, 12, 8, 0x0, .single, 0, [⟨7, 7, .ro, []⟩, ⟨6, 6, .ro, []⟩, ⟨5, 0, .ro, []⟩]⟩,
    ⟨Reg.CLS_CNT_RETRY, 65536, 12, 8, 0x0, .single, 0, [⟨31, 0, .ro, []⟩]⟩]
  ++ [⟨Reg.CLS_CNT_MIS, 65536, 12, 8, 0x0, .single, 0, [⟨31, 0, .ro, []⟩]⟩,
    ⟨Reg.CLS_MOVE, 65536, 12, 8, 0x0, .single, 0, [⟨31, 31, .ro, []⟩, ⟨30, 30, .ro, []⟩, ⟨6, 0, .ro, []⟩]⟩,
    ⟨Reg.CLS_L2CFG, 65536, 12, 1, 0x0, .single, 0, [⟨0, 0, .rwl, []⟩]⟩,
    ⟨Reg.CLS_L2LOCK, 65536, 12, 1, 0x0, .single, 0, [⟨11, 0, .rw, []⟩]⟩,
    ⟨Reg.CLS_L2LFSR, 65536, 12, 1, 0xACE1, .single, 0, [⟨15, 0, .rw, [(1, 65535)]⟩]⟩,
    ⟨Reg.CLS_L2STAT, 65536, 12, 1, 0x0, .single, 0, [⟨18, 0, .ro, []⟩]⟩,
    ⟨Reg.CLS_L2ERR, 65536, 12, 1, 0x0, .single, 0, [⟨6, 6, .w1c, []⟩, ⟨5, 5, .w1c, []⟩, ⟨4, 4, .w1c, []⟩, ⟨3, 3, .w1c, []⟩, ⟨2, 2, .w1c, []⟩, ⟨1, 1, .w1c, []⟩, ⟨0, 0, .w1c, []⟩]⟩,
    ⟨Reg.CLS_CNT_L2CORR, 65536, 12, 1, 0x0, .single, 0, [⟨31, 0, .ro, []⟩]⟩]
  ++ [⟨Reg.CLS_CNT_DOOM, 65536, 12, 1, 0x0, .single, 0, [⟨31, 0, .ro, []⟩]⟩,
    ⟨Reg.CLS_SPRET, 65536, 12, 1, 0x0, .single, 0, [⟨7, 0, .rw, []⟩]⟩,
    ⟨Reg.CLS_SPSTAT, 65536, 12, 1, 0x0, .single, 0, [⟨16, 16, .ro, []⟩, ⟨15, 8, .ro, []⟩, ⟨7, 0, .ro, []⟩]⟩,
    ⟨Reg.CLS_SPERR, 65536, 12, 1, 0x0, .single, 0, [⟨4, 4, .w1c, []⟩, ⟨3, 3, .w1c, []⟩, ⟨2, 2, .w1c, []⟩, ⟨1, 1, .w1c, []⟩, ⟨0, 0, .w1c, []⟩]⟩,
    ⟨Reg.CLS_CNT_SPCORR, 65536, 12, 1, 0x0, .single, 0, [⟨31, 0, .ro, []⟩]⟩]

/-- The MEM registers. -/
def regsMem : List RegDef :=
  [⟨Reg.MEM_ERR, 0, 1, 1, 0x0, .single, 0, [⟨3, 3, .w1c, []⟩, ⟨2, 2, .w1c, []⟩, ⟨1, 1, .w1c, []⟩, ⟨0, 0, .w1c, []⟩]⟩,
    ⟨Reg.MEM_CHSTAT, 4, 16, 1, 0x0, .single, 0, [⟨31, 31, .ro, []⟩, ⟨30, 29, .ro, []⟩, ⟨25, 16, .ro, []⟩, ⟨15, 0, .ro, []⟩]⟩,
    ⟨Reg.MEM_CNT_CE, 4, 16, 1, 0x0, .single, 0, [⟨31, 0, .ro, []⟩]⟩,
    ⟨Reg.MEM_CNT_UE, 4, 16, 1, 0x0, .single, 0, [⟨31, 0, .ro, []⟩]⟩]

/-- The WRP registers. -/
def regsWrp : List RegDef :=
  [⟨Reg.WRP_CTRL, 0, 1, 1, 0x0, .single, 0, [⟨31, 31, .lock, []⟩]⟩,
    ⟨Reg.WRP_TIMEOUT, 0, 1, 1, 0x40, .single, 0, [⟨7, 0, .rw, [(1, 255)]⟩]⟩,
    ⟨Reg.WRP_LINKCFG, 0, 1, 1, 0x10, .single, 0, [⟨4, 0, .rw, [(1, 16)]⟩]⟩,
    ⟨Reg.WRP_DEADCFG, 0, 1, 1, 0x4, .single, 0, [⟨3, 0, .rwl, [(1, 15)]⟩]⟩,
    ⟨Reg.WRP_RTIDX, 0, 1, 1, 0x0, .single, 0, [⟨12, 8, .rw, [(0, 25)]⟩, ⟨4, 0, .rw, []⟩]⟩,
    ⟨Reg.WRP_RTDATA, 0, 1, 1, 0x0, .single, 0, [⟨5, 3, .rw, []⟩, ⟨2, 0, .rw, []⟩]⟩,
    ⟨Reg.WRP_RTCTRL, 0, 1, 1, 0x0, .single, 0, [⟨1, 1, .wo, []⟩, ⟨0, 0, .wo, []⟩]⟩,
    ⟨Reg.WRP_RTSTAT, 0, 1, 1, 0x0, .single, 0, [⟨8, 8, .ro, []⟩, ⟨0, 0, .ro, []⟩]⟩]
  ++ [⟨Reg.WRP_ERR, 0, 1, 1, 0x0, .single, 0, [⟨7, 7, .w1c, []⟩, ⟨6, 6, .w1c, []⟩, ⟨5, 5, .w1c, []⟩, ⟨4, 4, .w1c, []⟩, ⟨3, 3, .w1c, []⟩, ⟨2, 2, .w1c, []⟩, ⟨1, 1, .w1c, []⟩, ⟨0, 0, .w1c, []⟩]⟩,
    ⟨Reg.WRP_ISO, 0, 1, 1, 0x0, .single, 0, [⟨31, 0, .ro, []⟩]⟩,
    ⟨Reg.WRP_LINKDOWN, 0, 1, 1, 0x0, .single, 0, [⟨31, 0, .ro, []⟩]⟩,
    ⟨Reg.WRP_ELOG, 0, 1, 1, 0x0, .single, 0, [⟨31, 31, .ro, []⟩, ⟨27, 24, .ro, []⟩, ⟨21, 16, .ro, []⟩, ⟨12, 8, .ro, []⟩, ⟨4, 0, .ro, []⟩]⟩,
    ⟨Reg.WRP_ELOGADDR_LO, 0, 1, 1, 0, .lo, 0x0, [⟨31, 0, .ro, []⟩]⟩,
    ⟨Reg.WRP_ELOGADDR_HI, 0, 1, 1, 0, .hi, 0x0, [⟨31, 0, .ro, []⟩]⟩,
    ⟨Reg.WRP_CNT_TIMEOUT, 0, 1, 1, 0x0, .single, 0, [⟨31, 0, .ro, []⟩]⟩,
    ⟨Reg.WRP_CNT_LATE, 0, 1, 1, 0x0, .single, 0, [⟨31, 0, .ro, []⟩]⟩]
  ++ [⟨Reg.WRP_CNT_REPLAY, 0, 1, 1, 0x0, .single, 0, [⟨31, 0, .ro, []⟩]⟩,
    ⟨Reg.WRP_CNT_DOMOFF, 0, 1, 1, 0x0, .single, 0, [⟨31, 0, .ro, []⟩]⟩]

/-- The THR registers. -/
def regsThr : List RegDef :=
  [⟨Reg.THR_CTRL, 0, 1, 1, 0x0, .single, 0, [⟨31, 31, .lock, []⟩, ⟨0, 0, .rw, []⟩]⟩,
    ⟨Reg.THR_CFG, 0, 1, 1, 0x204, .single, 0, [⟨11, 8, .rwl, [(1, 8)]⟩, ⟨3, 0, .rwl, [(1, 15)]⟩]⟩,
    ⟨Reg.THR_SUBMIT_LO, 0, 1, 1, 0, .lo, 0xFFFFC0000000003F, [⟨31, 0, .wo, []⟩]⟩,
    ⟨Reg.THR_SUBMIT_HI, 0, 1, 1, 0, .hi, 0xFFFFC0000000003F, [⟨31, 0, .wo, []⟩]⟩,
    ⟨Reg.THR_STATUS, 0, 1, 1, 0x0, .single, 0, [⟨26, 16, .ro, []⟩, ⟨15, 8, .ro, []⟩, ⟨1, 1, .ro, []⟩, ⟨0, 0, .ro, []⟩]⟩,
    ⟨Reg.THR_ERR, 0, 1, 1, 0x0, .single, 0, [⟨5, 5, .w1c, []⟩, ⟨4, 4, .w1c, []⟩, ⟨3, 3, .w1c, []⟩, ⟨2, 2, .w1c, []⟩, ⟨1, 1, .w1c, []⟩, ⟨0, 0, .w1c, []⟩]⟩,
    ⟨Reg.THR_CRIDX, 0, 1, 1, 0x0, .single, 0, [⟨11, 0, .rw, []⟩]⟩,
    ⟨Reg.THR_CREDIT, 0, 1, 1, 0x0, .single, 0, [⟨31, 0, .ro, []⟩]⟩]
  ++ [⟨Reg.THR_CNT_VERIFY, 0, 1, 1, 0x0, .single, 0, [⟨31, 0, .ro, []⟩]⟩,
    ⟨Reg.THR_CNT_CANCEL, 0, 1, 1, 0x0, .single, 0, [⟨31, 0, .ro, []⟩]⟩,
    ⟨Reg.THR_CNT_JOBS_LO, 0, 1, 1, 0, .lo, 0x0, [⟨31, 0, .ro, []⟩]⟩,
    ⟨Reg.THR_CNT_JOBS_HI, 0, 1, 1, 0, .hi, 0x0, [⟨31, 0, .ro, []⟩]⟩]

/-- The CPH registers. -/
def regsCph : List RegDef :=
  [⟨Reg.CPH_CTRL, 0, 1, 1, 0x0, .single, 0, [⟨31, 31, .lock, []⟩, ⟨0, 0, .rw, []⟩]⟩,
    ⟨Reg.CPH_STATUS, 0, 1, 1, 0x0, .single, 0, [⟨16, 16, .ro, []⟩, ⟨15, 0, .ro, []⟩]⟩,
    ⟨Reg.CPH_ERR, 0, 1, 1, 0x0, .single, 0, [⟨5, 5, .w1c, []⟩, ⟨4, 4, .w1c, []⟩, ⟨3, 3, .w1c, []⟩, ⟨2, 2, .w1c, []⟩, ⟨1, 1, .w1c, []⟩, ⟨0, 0, .w1c, []⟩]⟩,
    ⟨Reg.CPH_SUBMIT_LO, 0, 1, 1, 0, .lo, 0xFFFFC0000000007F, [⟨31, 0, .wo, []⟩]⟩,
    ⟨Reg.CPH_SUBMIT_HI, 0, 1, 1, 0, .hi, 0xFFFFC0000000007F, [⟨31, 0, .wo, []⟩]⟩,
    ⟨Reg.CPH_SLOTIDX, 0, 1, 1, 0x0, .single, 0, [⟨11, 0, .rw, []⟩]⟩,
    ⟨Reg.CPH_SLOTINFO, 0, 1, 1, 0x0, .single, 0, [⟨31, 28, .ro, []⟩, ⟨27, 22, .ro, []⟩, ⟨21, 21, .ro, []⟩, ⟨20, 20, .ro, []⟩, ⟨19, 19, .ro, []⟩, ⟨18, 18, .ro, []⟩, ⟨15, 0, .ro, []⟩]⟩,
    ⟨Reg.CPH_SLOTUSE_LO, 0, 1, 1, 0, .lo, 0x0, [⟨31, 0, .ro, []⟩]⟩]
  ++ [⟨Reg.CPH_SLOTUSE_HI, 0, 1, 1, 0, .hi, 0x0, [⟨31, 0, .ro, []⟩]⟩,
    ⟨Reg.CPH_SLOTLIM_LO, 0, 1, 1, 0, .lo, 0x0, [⟨31, 0, .ro, []⟩]⟩,
    ⟨Reg.CPH_SLOTLIM_HI, 0, 1, 1, 0, .hi, 0x0, [⟨31, 0, .ro, []⟩]⟩,
    ⟨Reg.CPH_CNT_JOBS, 0, 1, 1, 0x0, .single, 0, [⟨31, 0, .ro, []⟩]⟩,
    ⟨Reg.CPH_CNT_AUTHFAIL, 0, 1, 1, 0x0, .single, 0, [⟨31, 0, .ro, []⟩]⟩,
    ⟨Reg.CPH_CNT_WIPE, 0, 1, 1, 0x0, .single, 0, [⟨31, 0, .ro, []⟩]⟩,
    ⟨Reg.CPH_LOCK, 4, 16, 1, 0x0, .single, 0, [⟨31, 30, .wo, [(0, 2)]⟩, ⟨29, 28, .ro, []⟩, ⟨23, 16, .ro, []⟩, ⟨11, 0, .ro, []⟩]⟩,
    ⟨Reg.CPH_ALLOT, 4, 256, 1, 0x0, .single, 0, [⟨31, 31, .rw, []⟩, ⟨11, 0, .rw, []⟩]⟩]

/-- The FRW registers. -/
def regsFrw : List RegDef :=
  [⟨Reg.FRW_CTRL, 0, 1, 1, 0x0, .single, 0, [⟨31, 31, .lock, []⟩, ⟨0, 0, .rw, []⟩]⟩,
    ⟨Reg.FRW_CFG, 0, 1, 1, 0x30406408, .single, 0, [⟨29, 29, .rw, []⟩, ⟨28, 28, .rw, []⟩, ⟨24, 16, .rw, [(1, 256)]⟩, ⟨15, 8, .rw, [(1, 255)]⟩, ⟨7, 0, .rw, [(2, 255)]⟩]⟩,
    ⟨Reg.FRW_STATUS, 0, 1, 1, 0x0, .single, 0, [⟨28, 16, .ro, []⟩, ⟨7, 4, .ro, []⟩, ⟨3, 3, .ro, []⟩, ⟨2, 2, .ro, []⟩, ⟨0, 0, .ro, []⟩]⟩,
    ⟨Reg.FRW_ERR, 0, 1, 1, 0x0, .single, 0, [⟨6, 6, .w1c, []⟩, ⟨5, 5, .w1c, []⟩, ⟨4, 4, .w1c, []⟩, ⟨3, 3, .w1c, []⟩, ⟨2, 2, .w1c, []⟩, ⟨1, 1, .w1c, []⟩, ⟨0, 0, .w1c, []⟩]⟩,
    ⟨Reg.FRW_SUBMIT_LO, 0, 1, 1, 0, .lo, 0xFFFFC0000000003F, [⟨31, 0, .wo, []⟩]⟩,
    ⟨Reg.FRW_SUBMIT_HI, 0, 1, 1, 0, .hi, 0xFFFFC0000000003F, [⟨31, 0, .wo, []⟩]⟩,
    ⟨Reg.FRW_KEYSLOT, 0, 1, 1, 0x0, .single, 0, [⟨11, 0, .rwl, [(256, 4095)]⟩]⟩,
    ⟨Reg.FRW_PLOUGH, 0, 1, 1, 0x14, .single, 0, [⟨31, 31, .rw, []⟩, ⟨6, 0, .rw, [(1, 100)]⟩]⟩]
  ++ [⟨Reg.FRW_NSDST, 0, 1, 1, 0x0, .single, 0, [⟨31, 26, .rwl, []⟩, ⟨25, 0, .rwl, []⟩]⟩,
    ⟨Reg.FRW_NSPLG, 0, 1, 1, 0x0, .single, 0, [⟨31, 26, .rwl, []⟩, ⟨25, 0, .rwl, []⟩]⟩,
    ⟨Reg.FRW_NSARBO, 0, 1, 1, 0x0, .single, 0, [⟨31, 26, .rwl, []⟩, ⟨25, 0, .rwl, []⟩]⟩,
    ⟨Reg.FRW_NSARBP, 0, 1, 1, 0x0, .single, 0, [⟨31, 26, .rwl, []⟩, ⟨25, 0, .rwl, []⟩]⟩,
    ⟨Reg.FRW_NSPDST, 0, 1, 1, 0x0, .single, 0, [⟨31, 26, .rwl, []⟩, ⟨25, 0, .rwl, []⟩]⟩,
    ⟨Reg.FRW_NSPPLG, 0, 1, 1, 0x0, .single, 0, [⟨31, 26, .rwl, []⟩, ⟨25, 0, .rwl, []⟩]⟩,
    ⟨Reg.FRW_PATHIDX, 0, 1, 1, 0x0, .single, 0, [⟨9, 0, .rw, []⟩]⟩,
    ⟨Reg.FRW_PATHSTAT, 0, 1, 1, 0x0, .single, 0, [⟨31, 24, .ro, []⟩, ⟨17, 16, .ro, []⟩, ⟨13, 8, .ro, []⟩, ⟨3, 0, .ro, []⟩]⟩]
  ++ [⟨Reg.FRW_CNT_REDRIVE, 0, 1, 1, 0x0, .single, 0, [⟨31, 0, .ro, []⟩]⟩,
    ⟨Reg.FRW_CNT_PATHFAIL, 0, 1, 1, 0x0, .single, 0, [⟨31, 0, .ro, []⟩]⟩,
    ⟨Reg.FRW_CNT_LATE, 0, 1, 1, 0x0, .single, 0, [⟨31, 0, .ro, []⟩]⟩,
    ⟨Reg.FRW_GROUP, 4, 64, 1, 0x0, .single, 0, [⟨31, 31, .rw, []⟩, ⟨11, 0, .rw, []⟩]⟩]

/-- The WFT registers. -/
def regsWft : List RegDef :=
  [⟨Reg.WFT_CTRL, 0, 1, 1, 0x0, .single, 0, [⟨31, 31, .lock, []⟩, ⟨5, 0, .rw, []⟩]⟩,
    ⟨Reg.WFT_DEVID, 0, 1, 1, 0x0, .single, 0, [⟨9, 0, .rwl, []⟩]⟩,
    ⟨Reg.WFT_CFG, 0, 1, 1, 0x140814, .single, 0, [⟨23, 16, .rw, [(4, 255)]⟩, ⟨11, 8, .rw, [(1, 15)]⟩, ⟨7, 0, .rw, [(1, 255)]⟩]⟩,
    ⟨Reg.WFT_TICKCFG, 0, 1, 1, 0x0, .single, 0, [⟨5, 0, .rw, []⟩]⟩,
    ⟨Reg.WFT_RTIDX, 0, 1, 1, 0x0, .single, 0, [⟨9, 0, .rw, []⟩]⟩,
    ⟨Reg.WFT_RTDATA, 0, 1, 1, 0x0, .single, 0, [⟨31, 31, .rw, []⟩, ⟨10, 8, .rw, []⟩, ⟨6, 4, .rw, [(0, 5), (7, 7)]⟩, ⟨2, 0, .rw, [(0, 5)]⟩]⟩,
    ⟨Reg.WFT_ERR, 0, 1, 1, 0x0, .single, 0, [⟨7, 7, .w1c, []⟩, ⟨6, 6, .w1c, []⟩, ⟨5, 5, .w1c, []⟩, ⟨4, 4, .w1c, []⟩, ⟨3, 3, .w1c, []⟩, ⟨2, 2, .w1c, []⟩, ⟨1, 1, .w1c, []⟩, ⟨0, 0, .w1c, []⟩]⟩,
    ⟨Reg.WFT_CNT_LOST, 0, 1, 1, 0x0, .single, 0, [⟨31, 0, .ro, []⟩]⟩]
  ++ [⟨Reg.WFT_CNT_VOTEFAIL, 0, 1, 1, 0x0, .single, 0, [⟨31, 0, .ro, []⟩]⟩,
    ⟨Reg.WFT_LSTAT, 64, 6, 1, 0x0, .single, 0, [⟨25, 16, .ro, []⟩, ⟨6, 4, .ro, []⟩, ⟨3, 0, .ro, []⟩]⟩,
    ⟨Reg.WFT_CNT_REPLAY, 64, 6, 1, 0x0, .single, 0, [⟨31, 0, .ro, []⟩]⟩,
    ⟨Reg.WFT_CNT_FEC, 64, 6, 1, 0x0, .single, 0, [⟨31, 0, .ro, []⟩]⟩,
    ⟨Reg.WFT_CNT_FECUE, 64, 6, 1, 0x0, .single, 0, [⟨31, 0, .ro, []⟩]⟩,
    ⟨Reg.WFT_RWIN, 4, 256, 1, 0x0, .single, 0, [⟨31, 31, .rw, []⟩, ⟨25, 16, .rw, []⟩, ⟨5, 0, .rw, []⟩]⟩]

/-- The PCK registers. -/
def regsPck : List RegDef :=
  [⟨Reg.PCK_CTRL, 0, 1, 1, 0x0, .single, 0, [⟨31, 31, .lock, []⟩]⟩,
    ⟨Reg.PCK_ERR, 0, 1, 1, 0x0, .single, 0, [⟨7, 7, .w1c, []⟩, ⟨6, 6, .w1c, []⟩, ⟨5, 5, .w1c, []⟩, ⟨4, 4, .w1c, []⟩, ⟨3, 3, .w1c, []⟩, ⟨2, 2, .w1c, []⟩, ⟨1, 1, .w1c, []⟩, ⟨0, 0, .w1c, []⟩]⟩,
    ⟨Reg.PCK_RSTCTRL, 0, 1, 1, 0x0, .single, 0, [⟨31, 16, .wo, []⟩, ⟨0, 0, .wo, []⟩]⟩,
    ⟨Reg.PCK_RSTCAUSE, 0, 1, 1, 0x1, .single, 0, [⟨7, 0, .ro, []⟩]⟩,
    ⟨Reg.PCK_WDOG, 0, 1, 1, 0x64, .single, 0, [⟨31, 31, .rw, []⟩, ⟨30, 30, .wo, []⟩, ⟨7, 0, .rw, [(1, 255)]⟩]⟩,
    ⟨Reg.PCK_THERM, 0, 1, 1, 0x7364, .single, 0, [⟨15, 8, .rwl, [(100, 125)]⟩, ⟨7, 0, .rwl, []⟩]⟩,
    ⟨Reg.PCK_CLSPWR, 0, 1, 1, 0x0, .single, 0, [⟨11, 0, .rw, []⟩]⟩,
    ⟨Reg.PCK_CLSPWRSTAT, 0, 1, 1, 0x0, .single, 0, [⟨31, 28, .ro, []⟩, ⟨27, 24, .ro, []⟩, ⟨23, 12, .ro, []⟩, ⟨11, 0, .ro, []⟩]⟩]
  ++ [⟨Reg.PCK_DOMOFF_LO, 0, 1, 1, 0, .lo, 0x0, [⟨31, 0, .ro, []⟩]⟩,
    ⟨Reg.PCK_DOMOFF_HI, 0, 1, 1, 0, .hi, 0x0, [⟨31, 0, .ro, []⟩]⟩,
    ⟨Reg.PCK_MONSTAT_LO, 0, 1, 1, 0, .lo, 0x0, [⟨31, 0, .ro, []⟩]⟩,
    ⟨Reg.PCK_MONSTAT_HI, 0, 1, 1, 0, .hi, 0x0, [⟨31, 0, .ro, []⟩]⟩,
    ⟨Reg.PCK_CLKCFG, 4, 12, 1, 0x1818, .single, 0, [⟨12, 8, .ro, []⟩, ⟨4, 0, .rw, [(12, 24)]⟩]⟩,
    ⟨Reg.PCK_TEMP, 4, 16, 1, 0x0, .single, 0, [⟨31, 31, .ro, []⟩, ⟨9, 0, .ro, []⟩]⟩,
    ⟨Reg.PCK_RAIL, 4, 8, 1, 0x0, .single, 0, [⟨11, 0, .ro, []⟩]⟩]

/-- The LCT registers. -/
def regsLct : List RegDef :=
  [⟨Reg.LCT_STATE, 0, 1, 1, 0x0, .single, 0, [⟨18, 16, .ro, []⟩, ⟨3, 0, .ro, []⟩]⟩,
    ⟨Reg.LCT_ERR, 0, 1, 1, 0x0, .single, 0, [⟨5, 5, .w1c, []⟩, ⟨4, 4, .w1c, []⟩, ⟨3, 3, .w1c, []⟩, ⟨2, 2, .w1c, []⟩, ⟨1, 1, .w1c, []⟩, ⟨0, 0, .w1c, []⟩]⟩,
    ⟨Reg.LCT_TMASK, 0, 1, 1, 0x0, .single, 0, [⟨3, 0, .rw, []⟩]⟩,
    ⟨Reg.LCT_CNT_TAMPER, 0, 1, 1, 0x0, .single, 0, [⟨31, 0, .ro, []⟩]⟩,
    ⟨Reg.LCT_OWNER, 4, 12, 1, 0x0, .single, 0, [⟨31, 0, .ro, []⟩]⟩]

/-- The DBG registers. -/
def regsDbg : List RegDef :=
  [⟨Reg.DBG_ID, 0, 1, 1, 0x96120100, .single, 0, [⟨31, 16, .ro, []⟩, ⟨15, 8, .ro, []⟩, ⟨1, 0, .ro, []⟩]⟩,
    ⟨Reg.DBG_AUTHCTRL, 0, 1, 1, 0x0, .single, 0, [⟨1, 1, .wo, []⟩, ⟨0, 0, .wo, []⟩]⟩,
    ⟨Reg.DBG_AUTHSTAT, 0, 1, 1, 0x0, .single, 0, [⟨31, 31, .ro, []⟩, ⟨10, 8, .ro, []⟩, ⟨2, 0, .ro, []⟩]⟩,
    ⟨Reg.DBG_AUTHWIN, 4, 40, 1, 0x0, .single, 0, [⟨31, 0, .wo, []⟩]⟩,
    ⟨Reg.DBG_PCTRL, 0, 1, 1, 0x0, .single, 0, [⟨31, 29, .wo, [(0, 3)]⟩, ⟨8, 8, .rw, []⟩, ⟨6, 0, .rw, [(0, 96)]⟩]⟩,
    ⟨Reg.DBG_PSTAT, 0, 1, 1, 0x0, .single, 0, [⟨31, 31, .ro, []⟩, ⟨30, 30, .ro, []⟩, ⟨11, 8, .ro, []⟩, ⟨7, 0, .ro, []⟩]⟩,
    ⟨Reg.DBG_BPADDR, 8, 8, 1, 0x0, .single, 0, [⟨31, 0, .rw, []⟩]⟩,
    ⟨Reg.DBG_BPCTL, 8, 8, 1, 0x0, .single, 0, [⟨31, 31, .rw, []⟩, ⟨30, 29, .rw, []⟩, ⟨19, 0, .rw, []⟩]⟩]
  ++ [⟨Reg.DBG_RSEL, 0, 1, 1, 0x0, .single, 0, [⟨8, 0, .rw, []⟩]⟩,
    ⟨Reg.DBG_RDATA, 0, 1, 1, 0x0, .single, 0, [⟨31, 0, .rw, []⟩]⟩,
    ⟨Reg.DBG_MADDR_LO, 0, 1, 1, 0, .lo, 0xFFFFC00000000003, [⟨31, 0, .rw, []⟩]⟩,
    ⟨Reg.DBG_MADDR_HI, 0, 1, 1, 0, .hi, 0xFFFFC00000000003, [⟨31, 0, .rw, []⟩]⟩,
    ⟨Reg.DBG_MDATA, 0, 1, 1, 0x0, .single, 0, [⟨31, 0, .rw, []⟩]⟩,
    ⟨Reg.DBG_ERR, 0, 1, 1, 0x0, .single, 0, [⟨5, 5, .w1c, []⟩, ⟨4, 4, .w1c, []⟩, ⟨3, 3, .w1c, []⟩, ⟨2, 2, .w1c, []⟩, ⟨1, 1, .w1c, []⟩, ⟨0, 0, .w1c, []⟩]⟩]

/-- The PAD registers. -/
def regsPad : List RegDef :=
  [⟨Reg.PAD_CTRL, 0, 1, 1, 0x0, .single, 0, [⟨31, 31, .lock, []⟩]⟩,
    ⟨Reg.PAD_FUNC, 0, 1, 1, 0x0, .single, 0, [⟨7, 5, .rwl, []⟩, ⟨4, 4, .rwl, []⟩, ⟨1, 1, .rw, []⟩, ⟨0, 0, .rw, []⟩]⟩,
    ⟨Reg.PAD_STATUS, 0, 1, 1, 0x0, .single, 0, [⟨1, 1, .ro, []⟩, ⟨0, 0, .ro, []⟩]⟩,
    ⟨Reg.PAD_ERR, 0, 1, 1, 0x0, .single, 0, [⟨0, 0, .w1c, []⟩]⟩]

/-- The block of an offset: its registers, the offset of its BADW register (none where the
spec gives the range no error register) and of its lock register (R635). -/
structure Block where
  lo : Nat
  hi : Nat
  err : Option Nat
  lock : Option Nat
  regs : List RegDef
  deriving Repr

/-- The blocks of R635 outside the cluster range. -/
def blocks : List Block :=
  [⟨0x000000, 0x00FFFF, some Reg.SWD_ERR, none, regsSwd⟩,
   ⟨0x010000, 0x01FFFF, some Reg.GLN_ERR, some Reg.GLN_CTRL, regsGln⟩,
   ⟨0x020000, 0x03FFFF, some Reg.ALM_ERR, none, regsAlm⟩,
   ⟨0x040000, 0x07FFFF, some Reg.TCK_ERR, some Reg.TCK_CTRL, regsTck⟩,
   ⟨0x080000, 0x0FFFFF, some Reg.SOW_ERR, none, regsSow⟩,
   ⟨0x100000, 0x13FFFF, some Reg.JNL_ERR, some Reg.JNL_CTRL, regsJnl⟩,
   ⟨0x140000, 0x17FFFF, some Reg.TWN_ERR, none, regsTwn⟩,
   ⟨0x180000, 0x1FFFFF, some Reg.STK_ERR, some Reg.STK_CTRL, regsStk⟩,
   ⟨0x200000, 0x27FFFF, some Reg.ETH_ERR, some Reg.ETH_CTRL, regsEth⟩,
   ⟨0x280000, 0x3FFFFF, some Reg.PLT_ERR, some Reg.PLT_CTRL, regsPlt⟩]
  ++ [⟨0x400000, 0x4BFFFF, some Reg.CLS_ERR, some Reg.CLS_CTRL, regsCls⟩,
   ⟨0x600000, 0x6FFFFF, some Reg.MEM_ERR, none, regsMem⟩,
   ⟨0x700000, 0x73FFFF, some Reg.WRP_ERR, some Reg.WRP_CTRL, regsWrp⟩,
   ⟨0x740000, 0x77FFFF, some Reg.THR_ERR, some Reg.THR_CTRL, regsThr⟩,
   ⟨0x780000, 0x7BFFFF, some Reg.CPH_ERR, some Reg.CPH_CTRL, regsCph⟩,
   ⟨0x7C0000, 0x7FFFFF, some Reg.FRW_ERR, some Reg.FRW_CTRL, regsFrw⟩,
   ⟨0x800000, 0x87FFFF, some Reg.WFT_ERR, some Reg.WFT_CTRL, regsWft⟩,
   ⟨0x880000, 0x8BFFFF, some Reg.PCK_ERR, some Reg.PCK_CTRL, regsPck⟩,
   ⟨0x8C0000, 0x8DFFFF, some Reg.LCT_ERR, none, regsLct⟩,
   ⟨0x8E0000, 0x8FFFFF, some Reg.DBG_ERR, none, regsDbg⟩,
   ⟨0x900000, 0x90FFFF, some Reg.PAD_ERR, some Reg.PAD_CTRL, regsPad⟩,
   ⟨0x4C0000, 0x5FFFFF, none, none, []⟩]

/-- Bits [hi:lo] of a word, as a number. -/
def bits (w : BitVec 32) (hi lo : Nat) : Nat := (w.toNat >>> lo) % 2 ^ (hi + 1 - lo)

/-- A word with bits [hi:lo] replaced by a value's low bits. -/
def setBits (w : BitVec 32) (hi lo v : Nat) : BitVec 32 :=
  BitVec.ofNat 32
    (w.toNat - (bits w hi lo) <<< lo + (v % 2 ^ (hi + 1 - lo)) <<< lo)

/-- Whether a row holds an offset: the copy of the register that lies there. -/
def RegDef.copy? (r : RegDef) (off : Nat) : Option Nat :=
  if off < r.off then none
  else
    let d := off - r.off
    let c := if r.stride = 0 then 0 else d / r.stride
    let e := if r.stride = 0 then d else d % r.stride
    if r.pairs = 1 then (if e = 0 ∧ c < r.count then some c else none)
    else if e % 0x40 = 0 ∧ e / 0x40 < r.pairs ∧ c < r.count then some (c * r.pairs + e / 0x40)
    else none

/-- The block whose range holds an offset (R635). -/
def block? (off : Nat) : Option Block := blocks.find? (fun b => b.lo ≤ off ∧ off ≤ b.hi)

/-- The register row at an offset, if a register lies there. -/
def regDef? (off : Nat) : Option RegDef :=
  (block? off).bind fun b => b.regs.find? (fun r => (r.copy? off).isSome)

/-- The reset value of the word at an offset (R88 and the other register rules): that of its row,
with the rows whose copies differ (CPH_LOCKn of engines 0 to 3, R490) named here. -/
def regReset (off : Nat) : BitVec 32 :=
  if Reg.CPH_LOCK ≤ off ∧ off < Reg.CPH_LOCK + 16 then 0x30000000#32
  else match regDef? off with
    | some r => BitVec.ofNat 32 r.reset
    | none => 0

end Sys2Proof.Machine
end

