-- ==== Sys2Proof/Machine/Sparse.lean ====
section
/-! DEFINITION. Sparse maps: lists of (key, value) pairs in one canonical form.  Keys rise strictly, and
no entry equals the value that an unlisted key reads as, so that equal maps are equal lists. -/

namespace Sys2Proof.Machine

/-- The value at a key; an unlisted key reads as the default there. -/
def sget {α : Type} (d : Nat → α) : List (Nat × α) → Nat → α
  | [], k => d k
  | (j, v) :: l, k => if k = j then v else sget d l k

/-- A map without a key. -/
def sdel {α : Type} : List (Nat × α) → Nat → List (Nat × α)
  | [], _ => []
  | (j, v) :: l, k => if k = j then sdel l k else (j, v) :: sdel l k

/-- A map with an entry at a key, whatever its value. -/
def sput {α : Type} : List (Nat × α) → Nat → α → List (Nat × α)
  | [], k, v => [(k, v)]
  | (j, w) :: l, k, v =>
    if k = j then (k, v) :: l else if k < j then (k, v) :: (j, w) :: l else (j, w) :: sput l k v

/-- Writing a value at a key; writing the default removes the entry. -/
def sset {α : Type} [DecidableEq α] (d : Nat → α) (l : List (Nat × α)) (k : Nat) (v : α) :
    List (Nat × α) :=
  if v = d k then sdel l k else sput l k v

/-- Every key of a map lies above a bound, and keys rise. -/
def srising {α : Type} : Nat → List (Nat × α) → Bool
  | _, [] => true
  | b, (j, _) :: l => decide (b ≤ j) && srising (j + 1) l

/-- No entry equals the default. -/
def slean {α : Type} [DecidableEq α] (d : Nat → α) : List (Nat × α) → Bool
  | [] => true
  | (j, v) :: l => decide (v ≠ d j) && slean d l

/-- The canonical form of a sparse map. -/
def swf {α : Type} [DecidableEq α] (d : Nat → α) (l : List (Nat × α)) : Bool :=
  srising 0 l && slean d l

end Sys2Proof.Machine
end

