-- ==== Sys2Proof/Machine/State.lean ====
section
/-! DEFINITION. The state of the block, as plain data: control space, every store of every block, the
units and pairs, memory, and the queue of waiting commands; the faults and refusals; the state right
after power-on.  A list of pairs is a sparse map whose unlisted keys have the default value that its
accessor names. -/

namespace Sys2Proof.Machine

open Sys2Proof

/-! ## What leaves the package -/

/-- What leaves the package, in order: a frame on an Ethernet port (R191, R192), a PFC frame (R195), a frame on a Weft link (R527: link, destination device,
type, payload), a frame of another device forwarded whole, a flit (R520: LINK, TICK, a NAK, or a DATA flit sent again), a storage command of Furrow (R504), a word on the Evral port
(R565), the value that a control access returned to the host of the debug port. Frames are made and wait as what they carry: a Swath
datagram to a peer (header of R200 and payload), an answer of port hardware (R190) with the Ethertype or ICMP kind, the bound
address, the asker and its station, an address announcement (R175), a PTP message of a transport (R199). -/
inductive Out where
  | ethernet (port : Nat) (bytes : List Byte)
  | swath (port pcp : Nat) (peer : Peer) (bytes : List Byte)
  | answer (port pcp kind : Nat) (addr : List Byte) (asker : List Byte) (station : Nat) (bytes : List Byte)
  | ptp (port transport : Nat) (bytes : List Byte)
  | pfc (port pcp : Nat) (pause : Bool)
  | announce (port plot : Nat) (addr : List Byte)
  | weft (link dest kind : Nat) (bytes : List Byte)
  | frame (link : Nat) (bytes : List Byte)
  | flit (link : Nat) (bytes : List Byte)
  | storage (path tag what : Nat) (args : List Nat) (bytes : List Byte)
  | evral (value : Nat)
  deriving DecidableEq, Repr

/-! ## Control space (chapter 23, R9 to R14) -/

/-- Control space: the words that differ from their reset values (`regs`), the words latched by a
read of the first word of a group (R11: `latch`, by offset of the latched word), the _LO words held
until their _HI is written (R11: `held`, by offset of the _LO word), and the value that the latest read
of a register returned. Lists rise by offset. -/
structure Ctl where
  regs  : List (Nat × BitVec 32)
  latch : List (Nat × BitVec 32)
  held  : List (Nat × BitVec 32)
  rdata : BitVec 32
  deriving DecidableEq, Repr

/-! ## The Gleaner and the Almanac (chapter 21) -/

/-- A record of the Gleaner's record store (R582), oldest first in the store. -/
structure GleanRec where
  seq        : Nat
  source     : Nat
  cls        : Nat
  cleared    : Bool
  pin        : Bool
  lostBefore : Bool
  preReset   : Bool
  time       : Nat
  epoch      : Nat
  detail     : Nat
  rep        : Nat
  deriving DecidableEq, Repr

/-- The Gleaner: its record store (R582), the event counts by source (R604), whether the next
record carries LOSTBEFORE (R584), whether the record store has been initialised since power-on
(R585), and the DOORBELL interrupts presented to the Steward and not yet taken (R580). -/
structure Gleaner where
  recs       : List GleanRec
  counts     : List (Nat × Nat)
  lostBefore : Bool
  ready      : Bool
  doorbells  : Nat
  deriving DecidableEq, Repr

/-- A sample waiting to be gathered (R593): metric number (R592), instance, value, epoch. -/
structure Sample where
  metric : Nat
  inst   : Nat
  value  : Nat
  epoch  : Nat
  deriving DecidableEq, Repr

/-- A histogram channel (R594). -/
structure Channel where
  total : Nat
  bins  : List Nat
  deriving DecidableEq, Repr

/-- An extreme tracker (R595); `any` is false while the interval has had no sample. -/
structure Tracker where
  any   : Bool
  value : Nat
  epoch : Nat
  deriving DecidableEq, Repr

/-- The causes of a snapshot (R597), in falling precedence SAFE, WATCH, MANUAL, INTERVAL. -/
inductive Trigger where
  | safe | watch | manual | interval
  deriving DecidableEq, Repr

/-- A snapshot being written: its number and its 2,048 bytes (R598). -/
structure SnapWrite where
  seq     : Nat
  image   : List Byte
  deriving DecidableEq, Repr

/-- The Almanac: live channels and trackers, the configuration of the interval in progress
(R596: the 192 words as they stood at its start), the class 1 events and the Weft replays by link counted since the last tick (R592), the samples
not yet gathered, the pending triggers, the write in progress, the two MRAM areas by slot (R600), the window (R602), the start
of the interval on the always-on clock and whether a device reset fell in the interval (R598). -/
structure Almanac where
  chans     : List (Nat × Channel)
  tracks    : List (Nat × Tracker)
  watchMap  : Nat
  cfg       : List (Nat × BitVec 32)
  corr      : Nat
  replays   : List (Nat × Nat)
  samples   : List Sample
  triggers  : List Trigger
  writing   : Option SnapWrite
  perm      : List (Nat × List Byte)
  circ      : List (Nat × List Byte)
  window    : List Byte
  start     : Nat
  resetSeen : Bool
  deriving DecidableEq, Repr

/-! ## The tick and the epoch (chapter 2) -/

/-- A seal in progress (R60): the epoch, the times of the ticks that opened and closed it, the
period in force from the closing tick (R70), the pairs that still owe a close marker (R58), the
clusters that still owe a write-back (R60), the steps done, whether its vote SEALED has been sent (R536),
and whether a tick has found it late (R73). -/
structure Seal where
  epoch     : Nat
  openTime  : Nat
  closeTime : Nat
  period    : Nat
  owed      : List Nat
  cutoff    : Bool
  wbOwed    : List Nat
  hashDone  : Bool
  macDone   : Bool
  acked     : Bool
  solo      : Bool
  span      : Bool
  voted     : Bool
  late      : Bool
  deriving DecidableEq, Repr

/-- Why admission is closed after a rollback, and so what clears it (R79). -/
inductive RbCause where
  | mirror | lease | other
  deriving DecidableEq, Repr

/-- A rollback (R77 to R79): first epoch rolled back, next epoch number, whether the restore is
complete, the cause, and the heartbeat SEQ below which an ECHO does not clear a mirror cause. -/
structure Rollback where
  first    : Nat
  next     : Nat
  restored : Bool
  cause    : RbCause
  cleared  : Bool
  hbSeq    : Nat
  deriving DecidableEq, Repr

/-- The tick and time base block (times in the time base of R39, but for ppsEnd and base): time of the last tick, period in
force in µs (R42), the time at which an accepted external edge or symbol makes a tick (R44), external ticks accepted in a
row during holdover and whether the last tick was made at the close of its window (R48), TICK_OUT and the end of its pulse
(R50), whether the time base has been aligned to the root's (R83, R85), whether admission has opened since
reset (R54), whether an epoch is open, the time-base value of the tick that opened it (R104), the epoch
reservation in force and the one being written to MRAM (R53), the seal in progress, the run of
epochs sealed in budget since a late seal (R75), the rollback in progress and whether the open
epoch is the first after one (R80), and the root's time for the next tick from a symbol (R82), and the time
at which the time base read 0 (R39, R83). -/
structure Tick where
  lastTick     : Nat
  period       : Nat
  sched        : Option Nat
  extRun       : Nat
  closed       : Bool
  aligned      : Bool
  tickOut      : Bool
  tickOutEnd   : Nat
  ppsEnd       : Nat
  admitted     : Bool
  epochOpen    : Bool
  openTime     : Nat
  resv         : Nat
  resvWrite    : Option Nat
  sealing      : Option Seal
  goodSeals    : Nat
  rollback     : Option Rollback
  afterRb      : Bool
  symbol       : Option Nat
  base         : Int
  deriving DecidableEq, Repr

/-! ## The stake table (chapter 3) -/

/-- A waiting request in a slice's wait store (R96, R105). -/
structure Waiter where
  who  : Party
  excl : Bool
  deriving DecidableEq, Repr

/-- An occupied entry of the stake table (R95), with the identities of its holders and the waiting
requests that the slice keeps beside it (R96); `hdev`, `hslot` are the entry's HDEV and HSLOT. -/
structure StakeEntry where
  slice   : Nat
  bucket  : Nat
  way     : Nat
  ns      : Nat
  key     : Nat
  excl    : Bool
  holders : List Party
  waiters : List Waiter
  hdev    : Nat
  hslot   : Nat
  deriving DecidableEq, Repr

/-- What the stake caches send to a slice: a STAKE request, the release of a held stake, the
withdrawal of a waiting request (R111), or an UNSTAKE that does both (R109). -/
inductive SliceOp where
  | request (excl : Bool) | release | withdraw
  deriving DecidableEq, Repr

/-- A message on its way to a slice. -/
structure SliceMsg where
  slice : Nat
  who   : Party
  ns    : Nat
  key   : Nat
  op    : SliceOp
  deriving DecidableEq, Repr

/-- An answer on its way to the stake cache of a transaction of this device: result code of
R100. -/
structure GrantMsg where
  slot : Nat
  ns   : Nat
  key  : Nat
  code : Nat
  deriving DecidableEq, Repr

/-- A wound on its way to a transaction slot of this device (R106): the attempt it was sent for
and the slice that sent it. -/
structure Wound where
  slot    : Nat
  attempt : Nat
  slice   : Nat
  deriving DecidableEq, Repr

/-- A record of a cluster stake cache (R98): the transaction's slot, the record, the home device,
the mode held and the mode awaited (true exclusive), the issue time of the request awaited, and whether its
home has answered that it is queued (R116). -/
structure StakeRec where
  slot    : Nat
  ns      : Nat
  key     : Nat
  home    : Nat
  held    : Option Bool
  waits   : Option Bool
  issued  : Nat
  queued  : Bool
  deriving DecidableEq, Repr

/-- The stake slices and the cluster stake caches: entries, and the messages on their way. -/
structure Stakes where
  entries : List StakeEntry
  msgs    : List SliceMsg
  grants  : List GrantMsg
  wounds  : List Wound
  recs    : List StakeRec
  deriving DecidableEq, Repr

/-! ## Journal, sheaves and the replica (chapter 4) -/

/-- A line entry of a capture area (R126): offset in the live region, before-image, after-image. -/
structure LineEntry where
  off    : Nat
  before : List Byte
  after  : List Byte
  deriving DecidableEq, Repr

/-- A record of the open sheaf (R136), in order of acceptance; the undo area keeps its
before-images (R130). `slot` names the transaction so that a rollback can return its request. -/
structure JRecord where
  reqid : Nat
  plot  : Nat
  queue : Nat
  slot  : Nat
  span  : Bool
  result : List Byte
  lines : List LineEntry
  deriving DecidableEq, Repr

/-- Whose sheaf lies in the sheaf area. -/
inductive SheafKind where
  | own | partner
  deriving DecidableEq, Repr

/-- A sheaf in the sheaf area of the journal ring (R141): kind, epoch, offset and total length in
the area, header (128 bytes), body, CHAIN and MAC (empty until written), and the facts that free
it. `zeroed` says that its MAGIC has been overwritten. -/
structure Sheaf where
  kind     : SheafKind
  epoch    : Nat
  offset   : Nat
  len      : Nat
  header   : List Byte
  body     : List Byte
  chain    : List Byte
  mac      : List Byte
  sealed   : Bool
  acked    : Bool
  destaged : Bool
  applied  : Bool
  zeroed   : Bool
  doneTime : Nat
  coverOk  : Bool
  deriving DecidableEq, Repr

/-- An entry of a request index table (R145). -/
structure RIdxEntry where
  bucket : Nat
  way    : Nat
  reqid  : Nat
  plot   : Nat
  queue  : Nat
  epoch  : Nat
  offset : Nat
  deriving DecidableEq, Repr

/-- A COMMIT that has handed its capture buffer to the journal engine and waits for acceptance
(R130, R134): the unit. -/
structure CommitWait where
  unit : Nat
  slot : Nat
  rlen : Nat
  deriving DecidableEq, Repr

/-- The records of an epoch not yet sealed, in order of acceptance (R130, R133). -/
structure Undo where
  epoch : Nat
  recs  : List JRecord
  deriving DecidableEq, Repr

/-- The journal engine and the sheaf applier: the gap flags and the previous epoch and chain of the next
header (R135, R138), the records of each unsealed epoch (`undo`: the undo area keeps their before-images, the
body of the sheaf their after-images), the sheaf area, the own
and partner request index tables (R145), the reference of check 3 of R149 (`some (epoch, chain)`),
partner epochs named by rollback notices, partner epochs whose seal-complete notice has arrived,
the sheaf keys derived by generation (R140), the COMMITs waiting, the initialisation in
progress (R144), where in the sheaf area the next sheaf begins, and where in the undo area the next entry goes (R130). -/
structure Journal where
  gapRb     : Bool
  gapBoot   : Bool
  prevEpoch : Nat
  prevChain : List Byte
  undo      : List Undo
  sheaves   : List Sheaf
  ownIdx    : List RIdxEntry
  partIdx   : List RIdxEntry
  partRef   : Option (Nat × List Byte)
  named     : List Nat
  notices   : List Nat
  keyGens   : List Nat
  waits     : List CommitWait
  initBusy  : Bool
  stopWas   : Bool
  start     : Nat
  undoHead  : Nat
  deriving DecidableEq, Repr

/-! ## Twins, takeover and return (chapter 5) -/

/-- A heartbeat this device has sent and that an ECHO may still renew the lease by (R167). -/
structure SentHb where
  seq  : Nat
  time : Nat
  deriving DecidableEq, Repr

/-- Address announcements still to be sent for a plot (R175). -/
structure Announce where
  plot : Nat
  left : Nat
  next : Nat
  deriving DecidableEq, Repr

/-- A command that waits for the partner to confirm its mirrored copy (R161): the command slot of
the Steward, the plot, and the time it was sent. -/
structure MirrorWait where
  tag  : Nat
  plot : Nat
  sent : Nat
  deriving DecidableEq, Repr

/-- The hand-back in progress (R182): its epoch M and the step reached. -/
structure HandBack where
  epoch : Nat
  step  : Nat
  deriving DecidableEq, Repr

/-- Twin control: own and received heartbeat SEQ (R165), heartbeats awaiting an ECHO, whether one
has ever arrived (R166) and whether the last one had HOLDS_YOURS (R178), the time the junior began to wait (R171), the end of LEASEWAIT (R172),
storage reports outstanding by issue time (R167), the step of the takeover under way (0 none, 1
step A issued, 2 step B issued), the issue time of step A, the rebuild cursors of the two phases
in MiB as this device sends them and as the partner's last notice told them, the chunk epochs (R180), the hold-off start (R181), the RETURN flag, the hand-back,
announcements, mirrored descriptors awaiting confirmation, mirrored partner descriptors by plot,
partner plots adopted with the time of adoption (R177), and whether the next closed epoch ends
NOPARTNER (R164). -/
structure Twin where
  hbSeq      : Nat
  partSeq    : Option Nat
  sent       : List SentHb
  hbSeen     : Bool
  partHolds  : Bool
  juniorFrom : Option Nat
  waitEnd    : Nat
  reports    : List Nat
  step       : Nat
  stepTime   : Nat
  cursor1    : Nat
  cursor2    : Nat
  recv1      : Nat
  recv2      : Nat
  chunks     : List (Nat × Nat)
  holdStart  : Option Nat
  returning  : Bool
  handBack   : Option HandBack
  announces  : List Announce
  mirrors    : List MirrorWait
  copies     : List (Nat × List Byte)
  partPlots  : List Nat
  adopted    : List (Nat × Nat)
  mirrorNext : Bool
  unpairNext : Bool
  ticksUp    : Nat
  deriving DecidableEq, Repr

/-! ## Ethernet ports and Swath (chapter 6) -/

/-- A completion of a transaction submission on its way to a host (R216): the submission it
answers (plot, queue, slot count), request ID, status, commit epoch, result, class, ARRIVAL, and
the time it was handed to Swath. -/
structure Completion where
  plot    : Nat
  queue   : Nat
  slotNo  : Nat
  reqid   : Nat
  status  : Nat
  epoch   : Nat
  result  : List Byte
  cls     : Nat
  arrival : Nat
  handed  : Nat
  deriving DecidableEq, Repr

/-- A sequenced packet of a session, sent and not acknowledged or still to be sent (R208): PSN,
TYPE, payload, the submissions it answers (queue, slot count), and whether it holds an
urgent-class completion. -/
structure OutPkt where
  psn     : Nat
  type    : Nat
  payload : List Byte
  answers : List (Nat × Nat)
  urgent  : Bool
  deriving DecidableEq, Repr

/-- A Swath session (R202 to R212): kind, plot and queue or channel number, token, event channel
named by OPEN, peer, port and priority of the last valid packet, the host's first PSN, PSN
expected next, whether a sequenced packet has arrived, the device's first and next PSN, unacknowledged and
unsent packets, the window and the newest APSN that the host has told, coalescing settings and held completions, start of the
retransmission timer and expiries in a row, in-order packets not yet acknowledged and the arrival
of the oldest, the last advertised limit, and whether the ACK of a window that rose from 0 is
being repeated (R209). -/
structure Session where
  event    : Bool
  plot     : Nat
  number   : Nat
  token    : Nat
  channel  : Nat
  peer     : Peer
  port     : Nat
  pcp      : Nat
  ipsn     : Nat
  expPsn   : Nat
  started  : Bool
  dpsn     : Nat
  nextPsn  : Nat
  unacked  : List OutPkt
  unsent   : List OutPkt
  hostWin  : Nat
  hostApsn : Nat
  coalN    : Nat
  coalUs   : Nat
  held     : List Completion
  rtoFrom  : Nat
  expiries : Nat
  rxUnack  : Nat
  rxOldest : Nat
  limit    : Nat
  window   : Nat
  repeatAck : Bool
  repeatFrom : Nat
  deriving DecidableEq, Repr

/-- Packets and completions of an ended session, or of a channel with no session, kept for the
next one (R205, R219). -/
structure Kept where
  event  : Bool
  plot   : Nat
  number : Nat
  since  : Nat
  pkts   : List OutPkt
  deriving DecidableEq, Repr

/-- A completion held for a channel with no session (R219). -/
structure HeldComp where
  channel : Nat
  since   : Nat
  comp    : Completion
  deriving DecidableEq, Repr

/-- A PTP timestamp entry (R198). -/
structure TsEntry where
  sent    : Bool
  msgType : Nat
  seqId   : Nat
  stamp   : Nat
  deriving DecidableEq, Repr

/-- A MACsec secure association of a port (R192): direction (true receive), channel, AN, SSCI,
SCI, salt, key slot, and the next packet number (transmit) or lowest acceptable number
(receive). -/
structure Sa where
  port : Nat
  rx   : Bool
  chan : Nat
  an   : Nat
  ssci : Nat
  sci  : Nat
  salt : List Byte
  slot : Nat
  pn   : Nat
  deriving DecidableEq, Repr

/-- What a port holds beside its registers: the received pauses in force by priority with their end
(R195), the frames that wait for one of them with their priority, and the timestamp queue with the
entry latched by a read of ETH_TSINFOn (R198) and whether it stands in the queue still (R221), and the free receive
buffer of a priority as its last frame met it, all 4 MiB where no priority is listed (R195). -/
structure Port where
  pauses    : List (Nat × Nat)
  txq       : List (Nat × Out)
  stamps    : List TsEntry
  latched   : Option TsEntry
  inQueue   : Bool
  free      : List (Nat × Nat)
  deriving DecidableEq, Repr

/-- The record of a RESET sent, for the limit of R203: session kind, plot, number, or source
address, and time. -/
structure ResetSent where
  key  : List Nat
  time : Nat
  deriving DecidableEq, Repr

/-- The ports and Swath, and sequenceId of the next Delay_Req of the PTP clock (R199). -/
structure Eth where
  ports    : List (Nat × Port)
  sessions : List Session
  kept     : List Kept
  heldc    : List HeldComp
  sas      : List Sa
  resets   : List ResetSent
  down     : Bool
  ptpSeq   : Nat
  deriving DecidableEq, Repr

/-! ## Plots, queues and the Headland (chapter 7), command packets (chapter 8) -/

/-- A segment of a space table (R227). -/
structure Space where
  base  : Nat
  pages : Nat
  attr  : Nat
  deriving DecidableEq, Repr

/-- A source prefix of a descriptor (R225). -/
structure SrcPfx where
  addr   : List Byte
  len    : Nat
  family : Nat
  deriving DecidableEq, Repr

/-- STATE of a descriptor (R225). -/
inductive PlotState where
  | free | active | resetting | destroying
  deriving DecidableEq, Repr

/-- The fields of a plot descriptor that a command may change (R225). -/
structure Desc where
  state    : PlotState
  adopted  : Bool
  splitOk  : Bool
  srcAny   : Bool
  share    : Nat
  urgMax   : Nat
  classes  : Nat
  qmax     : Nat
  addr6    : List (List Byte)
  addr4    : List (List Byte)
  srcFilt  : List SrcPfx
  deriving DecidableEq, Repr

/-- An entry of a reset report (R246). -/
structure ReportEntry where
  queue   : Nat
  outcome : Nat
  status  : Nat
  reqid   : Nat
  epoch   : Nat
  deriving DecidableEq, Repr

/-- A plot reset or queue destruction in progress (R244, R247): the queue it is restricted to,
whether the plot is destroyed at its end, T0's epoch, counts, and the report so far. -/
structure ResetRun where
  plot      : Nat
  onlyQueue : Option Nat
  destroy   : Bool
  byPlot    : Nat
  byQueue   : Nat
  epoch0    : Nat
  queues    : Nat
  aborted   : Nat
  cancelled : Nat
  entries   : List ReportEntry
  deriving DecidableEq, Repr

/-- A plot: its descriptor in force and the change that takes effect at the next tick (R224), the
placement words of the descriptor (R225), its space table (R227), its library (R229), its
executive image and the staging image (R267), its five credit balances (R237), and whether it is
this device's own (R159). -/
structure Plot where
  desc     : Desc
  next     : Option Desc
  sptBase  : Nat
  libBase  : Nat
  execBase : Nat
  execMeas : List Byte
  spaces   : List (Nat × Space)
  libCount : Nat
  exec     : List Byte
  staging  : List (Nat × Byte)
  credit   : List Int
  own      : Bool
  created  : Bool
  deriving DecidableEq, Repr

/-- SSTATE of a submission slot (R232). -/
inductive SState where
  | waiting | handed | dispatched | done
  deriving DecidableEq, Repr

/-- A filled slot of a submission ring (R232): its count (SQ_HEAD when it was filled), state,
class in the header, port, ARRIVAL, request ID, session, transaction slot, packet; whether the
Sower has checked it (R260), whether the request index is still to be looked up (R147), whether its ORDERED bit
is set, and what its answer was. -/
structure QSlot where
  no      : Nat
  sstate  : SState
  cls     : Nat
  port    : Nat
  arrival : Nat
  reqid   : Nat
  session : Nat
  tslot   : Option Nat
  packet  : List Byte
  checked : Bool
  look    : Bool
  ordered : Bool
  txn     : Bool
  status  : Nat
  epoch   : Nat
  handed  : Bool
  deriving DecidableEq, Repr

/-- An entry of a completion ring, occupied until freed under R234: the slot count it answers,
KIND, CQ_HEAD when it was written, and the record or the reference. -/
structure CqEnt where
  slotNo : Nat
  kind   : Nat
  pos    : Nat
  bytes  : List Byte
  deriving DecidableEq, Repr

/-- An entry of a dedup window (R213): `done` is none while PENDING, else status, epoch, whether it
holds a committed transaction submission, the OPCODE of its command, and the order in which it became DONE. -/
structure Dedup where
  reqid     : Nat
  done      : Option (Nat × Nat)
  committed : Bool
  opcode    : Nat
  order     : Nat
  deriving DecidableEq, Repr

/-- A queue pair in use (R231). -/
structure QPair where
  pool     : Nat
  plot     : Nat
  queue    : Nat
  draining : Bool
  slotsz   : Nat
  depth    : Nat
  channel  : Nat
  sqBase   : Nat
  cqBase   : Nat
  dedupBase : Nat
  sqHead   : Nat
  sqTail   : Nat
  cqHead   : Nat
  cqTail   : Nat
  slots    : List QSlot
  cq       : List CqEnt
  dedup    : List Dedup
  doneNo   : Nat
  deriving DecidableEq, Repr

/-- A transaction slot of the Sower in use (R242): the submission, its class, account charged and
attempt, age (R104), the program resolved at first dispatch (R262), the argument, the unit that
runs it, and, once it has ended with work to wait for, its completion (R63 to R66). -/
structure TSlot where
  slot    : Nat
  plot    : Nat
  queue   : Nat
  slotNo  : Nat
  reqid   : Nat
  cls     : Nat
  account : Nat
  attempt : Nat
  stamp   : Nat
  seq     : Nat
  space   : Nat
  off     : Nat
  arg     : List Byte
  unit    : Option Nat
  redo    : Bool
  waitOn  : Option Nat
  result  : Option Completion
  span    : Bool
  deriving DecidableEq, Repr

/-- How far a command has come in the Steward: not begun, its copy sent to the partner (R161), the copy confirmed,
begun and waiting for an event before its reply (R267, R271). -/
inductive CmdStage where
  | fresh | mirroring | confirmed | begun
  deriving DecidableEq, Repr

/-- A firmware-interpreted command handed to the Steward (R242, R270): queue, slot, OPCODE,
request ID, the plot it acts on, its parameters (TYPE, value), how far it has come, its ARRIVAL and when it was handed
(R271). -/
structure FwCmd where
  plot   : Nat
  queue  : Nat
  slotNo : Nat
  opcode : Nat
  reqid  : Nat
  target : Nat
  params : List (Nat × List Byte)
  stage  : CmdStage
  arrival : Nat
  since  : Nat
  deriving DecidableEq, Repr

/-- A continuation handle (R258). -/
structure Handle where
  id     : Nat
  plot   : Nat
  queue  : Nat
  expiry : Nat
  opcode : Nat
  body   : List (List Byte)
  deriving DecidableEq, Repr

/-- Plots and queue pairs. -/
structure Plots where
  plots  : List (Nat × Plot)
  qpairs : List QPair
  resets : List ResetRun
  initBusy : Bool
  deriving DecidableEq, Repr

/-- The Sower: transaction slots, the sequence number of the next dispatch (R104), the round-robin
pointer of step 4 of R239, the reservations in force by pair (R241), and the configuration in force
(R250). -/
structure Sower where
  slots   : List TSlot
  nextSeq : Nat
  rr      : Nat
  resv    : List (Nat × Nat)
  cfg     : Nat
  deriving DecidableEq, Repr

/-- The Steward: commands in hand, handles issued, and the retries of its pair since the last command it
completed (R366, R384). -/
structure Steward where
  cmds    : List FwCmd
  handles : List Handle
  retries : Nat
  deriving DecidableEq, Repr

/-! ## Units (chapters 9 to 13) -/

/-- A resident register window beside its incoming registers (R274, R276): V0 to V7, N0 to N7.
The C registers of a window are the N registers of the frame below it. -/
structure Frame where
  v : List Word
  n : List Word
  deriving DecidableEq, Repr

/-- The windowed registers of a unit: the resident windows, newest first (their number is
RESIDENT), the C registers of the oldest resident window, CWP and DEPTH (R276). -/
structure Windows where
  frames : List Frame
  baseC  : List Word
  cwp    : Nat
  depth  : Nat
  deriving DecidableEq, Repr

/-- The special registers of R279 that hold a value of their own. -/
structure SpecRegs where
  psw    : Word
  fpstat : Word
  fpctl  : Word
  wsp    : Word
  spc    : List Word
  ispc   : Word
  declen : Word
  epc    : Word
  epsw   : Word
  eispc  : Word
  ecause : Word
  eaddr  : Word
  evba   : Word
  depc   : Word
  depsw  : Word
  deispc : Word
  decause : Word
  deaddr : Word
  dvba   : Word
  timeHi : Word
  deriving DecidableEq, Repr

/-- The architected state of a unit (R273), with the load link (R399), the physical address of its
granule while it is valid. K1 to K7, windows, F0 to F31, PC, special registers. -/
structure Arch where
  k    : List Word
  win  : Windows
  f    : List DWord
  pc   : Word
  sr   : SpecRegs
  link : Option Nat
  deriving DecidableEq, Repr

/-- What a unit waits for at the boundary before its instruction, or after WAITI (R110, R134, R392,
R530, R533, R637). -/
inductive Wait where
  | none | stake (rd : BitVec 5) (key : Nat) (excl : Bool) | commit (rlen : Nat) | span (rlen : Nat)
  | fence (scope : Scope) | waiti | remote (tag : Nat)
  deriving DecidableEq, Repr

/-- How an input ends a transaction (R298, item 3), in the order in which the first decides; last, a store that its
home has refused (R532). -/
inductive EndInput where
  | reset | rollback | budget | wound (slice attempt : Nat) | capture
  deriving DecidableEq, Repr

/-- How a debug halt came about (STOPCAUSE). -/
inductive HaltCause where
  | request | breakpoint | brk | step
  deriving DecidableEq, Repr

/-- The inputs pending in the agreement latch (R361, R363). -/
structure Latch where
  tick   : Option Nat
  mcheck : Option Nat
  ends   : List EndInput
  engine : Bool
  doorbell : Bool
  halt   : Bool
  deriving DecidableEq, Repr

/-- What a store goes to: cacheable DRAM, with or without journaling, the scratchpad, an uncached
address, control space, a remote window (R391, R393, R409, R530). -/
inductive StoreKind where
  | plain | journal | scratch | uncached | control | remote
  deriving DecidableEq, Repr

/-- A store of a retired instruction on its way out (R386, R390): its number, unit and bytes at one
physical address, what it goes to, the transaction slot it belongs to, the epoch open at its pair when it
left the buffer (R410), and whether level D made it with physical translation (R428). -/
structure BufStore where
  id   : Nat
  unit : Nat
  pa   : Nat
  data : List Byte
  kind : StoreKind
  slot : Option Nat
  mark : Option Nat
  strong : Bool
  deriving DecidableEq, Repr

/-- A unit: core 0 of a pair while the pair is not split, or a core of a split pair (R236, R273).
`txn` is the transaction slot it runs; `run` says that it executes instructions (a transaction, or
firmware at D); `stores` is the store buffer and `reads` the stores of others whose values it loaded
before they were visible to the device (R391); core time starts at the retirement of the first instruction (R68), with the time
halted for debug taken off; `budget` is the budget of the attempt in ns; `lines` is the capture
area (R126); `stored` says that the transaction captured a store (R109); `readEpoch` is the newest
unsealed epoch read (R64); `spanned` lists the devices the transaction acted on (R532);
`kept` holds answers to requests by retirement count (R360). -/
structure CoreUnit where
  arch      : Arch
  txn       : Option Nat
  run       : Bool
  wait      : Wait
  latch     : Latch
  retired   : Nat
  coreFrom  : Option Nat
  haltedNs  : Nat
  budget    : Nat
  stores    : List BufStore
  reads     : List Nat
  lines     : List LineEntry
  readEpoch : Option Nat
  spanned   : List Nat
  spanStored : Bool
  halted    : Bool
  haltFrom  : Nat
  stepping  : Bool
  execPlot  : Nat
  deriving DecidableEq, Repr

/-- A spare takeover under way (R372): the spare and the step reached. -/
structure Takeover where
  spare  : Nat
  step   : Nat
  cause  : Nat
  began  : Nat
  deriving DecidableEq, Repr

/-- What a pair holds beside its units and registers: its control store (valid words and their
data, R334), the reference CRC (R341), whether it is stopped for
a reload (R341), the loads that failed their checks in a row (R339), the stores visible to both cores of the pair and not yet to the cluster, oldest
first (R386), the run of compared retirements without an error (R366), a takeover in progress,
whether a spare becomes ACTIVE at the next tick (R377), whether a self-check failed while the pair was split
(R380),
and its debug breakpoints and stop facts (R571). -/
structure Pair where
  stores   : List BufStore
  words    : List (Nat × BitVec 112)
  refCrc   : Option Word
  reload   : Bool
  loads    : Nat
  cleanRun : Nat
  takeover : Option Takeover
  toActive : Bool
  selfFail : Bool
  bps      : List (Nat × Word × Word)
  stop     : Option HaltCause
  bpHit    : Nat
  brkHalt  : Bool
  deriving DecidableEq, Repr

/-! ## Caches and scratchpads (chapter 14) -/

/-- A valid line of a cluster cache (R407, R410): line address, way, epoch mark, and, while it is dirty,
the 64 bytes that DRAM holds under it. -/
structure CLine where
  pa    : Nat
  way   : Nat
  mark  : Option Nat
  dirty : Option (List Byte)
  deriving DecidableEq, Repr

/-- A fill in flight (R414, R419), or one that arrived doomed and still serves its load or fetch: the
line, the way, the request, the unit that made it. -/
structure Fill where
  pa     : Nat
  way    : Nat
  cause  : FillFor
  unit   : Nat
  doomed : Bool
  served : Bool
  deriving DecidableEq, Repr

/-- A cluster: the lines of its cache, the fills in flight, and the stores that are visible to the whole
cluster and not yet to the device, oldest first (R386, R390). -/
structure Cluster where
  lines  : List CLine
  fills  : List Fill
  stores : List BufStore
  deriving DecidableEq, Repr

/-- Memory: DRAM and scratchpad bytes at their physical addresses, in canonical form, and the
8-byte granules that are poisoned (R423, R426), rising, and the number of the next store (the model's
own). -/
structure Mem where
  cells  : List Host.Cell
  poison : List Nat
  nextStore : Nat
  deriving DecidableEq, Repr

/-! ## Warp (chapter 15) -/

/-- A reservation that stays held after a timeout (R443): number of the request, initiator and target
stops. -/
structure WarpHeld where
  id     : Nat
  init   : Nat
  target : Nat
  deriving DecidableEq, Repr

/-- Warp: reservations held after timeouts, the number of the next, recent timeouts as (target stop,
time) (R446), replays of the flit in hand by link (R441), the two route tables as words by generation,
router and destination where they differ from the tables of reset (R448), and whether old-generation
packets remain is in WRP_RTSTAT. -/
structure Warp where
  held     : List WarpHeld
  nextId   : Nat
  timeouts : List (Nat × Nat)
  replays  : List (Nat × Nat)
  routes   : List (Nat × Nat)
  deriving DecidableEq, Repr

/-! ## The Thresher (chapter 16) -/

/-- A job of the Thresher (R455 to R459): descriptor, submitting plot, the descriptor's bytes as
read at acceptance, the engines that a parity error stopped it on (R461), the Furrow operation that submitted it,
arrival, the engine that runs it and its start, whether it is cancelled. -/
structure ThrJob where
  id      : Nat
  desc    : Nat
  plot    : Nat
  bytes   : List Byte
  stops   : List Nat
  furrow  : Option Nat
  arrival : Nat
  engine  : Option Nat
  started : Nat
  cancel  : Bool
  deriving DecidableEq, Repr

/-- The Thresher: jobs in order of acceptance, engines taken offline, mismatch and parity-error
times by engine (R461), engine accounts by plot (R459), round-robin pointer. -/
structure Thresher where
  jobs     : List ThrJob
  nextId   : Nat
  offline  : List Nat
  verify   : List (Nat × Nat)
  parity   : List (Nat × Nat)
  credit   : List (Nat × Int)
  rr       : Nat
  deriving DecidableEq, Repr

/-! ## Cipher engines and keys (chapter 17) -/

/-- A key slot of the vault (R477). -/
structure KeySlot where
  kind   : Nat
  usage  : Nat
  origin : Bool
  gen    : Nat
  limit  : Nat
  count  : Nat
  key    : List Byte
  near   : Bool
  deriving DecidableEq, Repr

/-- A job of a cipher engine, the vault or the public-key helper (R468, R473): number, unit of R468 (255 the
vault, 254 the helper), descriptor, plot, whether level D submitted it, the Furrow operation that did, the
descriptor's bytes, whether it is cancelled, whether it has started. The oldest job of a unit is the one it runs. -/
structure CphJob where
  id      : Nat
  engine  : Nat
  desc    : Nat
  plot    : Nat
  atD     : Bool
  furrow  : Option Nat
  bytes   : List Byte
  cancel  : Bool
  started : Bool
  deriving DecidableEq, Repr

/-- Who holds an engine 4 to 15 (R471): level D, or a plot, whose Furrow operation of a queue (0xFFFF: of none)
acquired it (R472). -/
inductive EngLock where
  | firmware | plot (n queue : Nat)
  deriving DecidableEq, Repr

/-- The cipher engines and the vault: locks, engines whose release waits for their jobs (R472), jobs, occupied
slots, and the partner's wrapped keys by slot (R481). -/
structure Cipher where
  locks   : List (Nat × EngLock)
  jobs    : List CphJob
  nextId  : Nat
  slots   : List (Nat × KeySlot)
  leaving : List Nat
  blobs   : List (Nat × List Byte)
  deriving DecidableEq, Repr

/-! ## Furrow (chapter 18) -/

/-- States of a path (R492). -/
inductive PathState where
  | unset | connecting | ready | failed
  deriving DecidableEq, Repr

/-- A channel path (R491): number, record, state, the time it failed or was last tried, the time of its last Keep
Alive, its sending rate in 1,024ths and the time of the last congestion notification (R495). -/
structure Path where
  num    : Nat
  record : List Byte
  state  : PathState
  failed : Nat
  lastKa : Nat
  rate   : Nat
  rateAt : Nat
  deriving DecidableEq, Repr

/-- A storage command or request of an operation (R504, R515): number, operation, path group (64 and above: the
WEFT paths to a device), the path it is on (none while it waits for one that is READY), the time it was issued or
began to wait, whether it writes, what it asks (NVMe opcode), its arguments and data, and how often it has been
re-driven. -/
structure FrwCmd where
  tag    : Nat
  op     : Nat
  group  : Nat
  path   : Option Nat
  issued : Nat
  write  : Bool
  what   : Nat
  args   : List Nat
  bytes  : List Byte
  redrive : Nat
  deriving DecidableEq, Repr

/-- Blocks that a write outstanding on a failed path may still change (R507): path, group, namespace, first block,
data, end of the hold. -/
structure Hold where
  path  : Nat
  group : Nat
  nsid  : Nat
  lba   : Nat
  bytes : List Byte
  until_ : Nat
  deriving DecidableEq, Repr

/-- Why an operation exists: a channel program; the destage of the sheaf of an epoch, of this device or of the
partner; a block of a sweep, the header (none) or a chunk, of the own region or of the replica; a reservation; a
restore. -/
inductive FrwKind where
  | program | destage (part : Bool) | plough (part : Bool) (chunk : Option Nat) | arb (what : Nat) | restore
  deriving DecidableEq, Repr

/-- A Furrow operation record (R497, R498): number, plot, OPTAG, the unit that executed START, the queue of its
transaction, kind, the physical address of the operation block, the block and the channel program as read at the
start (or the blocks that an internal operation writes), the first command not yet complete and whether it is
under way, the Thresher and cipher entries still reserved (R500: 16 for the Thresher, else the engine), the parts
of a HOST_SEND not yet acknowledged, whether the partner has acknowledged the record as it stands, whether the
commands of an internal operation have been issued, the status it ended with, its epoch, LBA and blocks, and the
status, NVMESC and RESID it will end with once nothing of it is outstanding. -/
structure FrwOp where
  id      : Nat
  plot    : Nat
  optag   : Nat
  unit    : Option Nat
  queue   : Option Nat
  kind    : FrwKind
  block   : Nat
  bytes   : List Byte
  next    : Nat
  busy    : Bool
  engines : List Nat
  parts   : Nat
  acked   : Bool
  issued  : Bool
  done    : Option Nat
  epoch   : Nat
  lba     : Nat
  blocks  : Nat
  ending  : Option (Nat × Nat × Nat)
  deriving DecidableEq, Repr

/-- A sweep of ploughing (R512, R513): of the live region or, for the partner, of the replica; sweep number, first
LBA of its area, epoch and chain sealed when it began, the LBA of the first extent after them once known, the
next chunk to read, the time of the last read, and how far its header is: written with COMPLETE 0, image, written
with COMPLETE 1. -/
structure Sweep where
  part      : Bool
  seq       : Nat
  area      : Nat
  baseEpoch : Nat
  baseChain : List Byte
  extLba    : Option Nat
  next      : Nat
  last      : Nat
  stage     : Nat
  deriving DecidableEq, Repr

/-- A restore from storage (R514): its operation, step (0 and 1 the headers of areas A and B, 2 the image, 3 an
extent), the header of area A, the chosen SEQ and area, the device whose extents follow, the piece of the image or
the LBA of the extent, its bytes so far, the last epoch applied with its chain, EXT_LBA. -/
structure Restore where
  op     : Nat
  step   : Nat
  headA  : List Byte
  seq    : Nat
  area   : Nat
  dev    : Nat
  live   : Nat
  pos    : Nat
  buf    : List Byte
  epoch  : Nat
  chain  : List Byte
  extLba : Nat
  deriving DecidableEq, Repr

/-- Furrow: paths, operations, commands outside, the partner's operation records; the LBA of the next own extent,
the extents placed and not reported (epoch, LBA), the LBA from which extents must be kept, whether destage waits
for room; for the partner's namespace the next LBA, the extents its records name (epoch, LBA, OPTAG), and whether
this device destages there (R516); the sweeps, the last own sweep number and its area; write holds, the path last
taken by group, the restore under way. -/
structure Furrow where
  paths    : List Path
  ops      : List FrwOp
  cmds     : List FrwCmd
  nextOp   : Nat
  nextTag  : Nat
  partOps  : List (Nat × List Byte)
  nextLba  : Nat
  placed   : List (Nat × Nat)
  keepLba  : Nat
  full     : Bool
  partLba  : Nat
  partPlaced : List (Nat × Nat × Nat)
  partDest : Bool
  sweeps   : List Sweep
  ploughSeq : Option Nat
  areaB    : Bool
  holds    : List Hold
  rr       : List (Nat × Nat)
  restore  : Option Restore
  deriving DecidableEq, Repr

/-! ## Weft (chapter 19) -/

/-- States of a Weft link (R523). -/
inductive WState where
  | off | train | align | ident | up | failed
  deriving DecidableEq, Repr

/-- A Weft link: state, time of failure, the flit last replayed and how often in a row (R521, R523), and how many things had
left the package when it came UP, after which its DATA flits are counted (R521). -/
structure WLink where
  state   : WState
  failAt  : Nat
  flit    : Nat
  replays : Nat
  upAt    : Nat
  deriving DecidableEq, Repr

/-- A remote access that awaits its response, or whose response awaits its load (R530, R531): tag, device,
unit, transaction slot, kind, address and length, issue time, and the answer to a load: status code and
bytes. -/
structure RemReq where
  tag    : Nat
  dev    : Nat
  unit   : Nat
  slot   : Option Nat
  write  : Bool
  addr   : Nat
  len    : Nat
  issued : Nat
  answer : Option (Nat × List Byte)
  deriving DecidableEq, Repr

/-- A spanning transaction that awaits acceptances (R533): slot, unit, RLEN, homes still to accept, the
homes that have accepted with the epoch each named, the homes whose wait ended, and the issue time. -/
structure SpanWait where
  slot     : Nat
  unit     : Nat
  rlen     : Nat
  homes    : List Nat
  accepted : List (Nat × Nat)
  refused  : List Nat
  issued   : Nat
  deriving DecidableEq, Repr

/-- A remote line entry captured at this device, the home (R532): requesting device and slot. -/
structure RemLine where
  dev    : Nat
  slot   : Nat
  line   : LineEntry
  deriving DecidableEq, Repr

/-- The newest unsealed epoch of this device, a home, that a remote transaction read (R533). -/
structure RemRead where
  dev   : Nat
  slot  : Nat
  epoch : Nat
  deriving DecidableEq, Repr

/-- Votes owed to an epoch of this device by another (R534): the own epoch, the device, its epoch where this
device knows it (0 where not), the records counted, those that SEALED votes have covered, the records that the
own vote covers there, and whether the vote is FAILED. -/
structure VoteDue where
  mine   : Nat
  dev    : Nat
  theirs : Nat
  count  : Nat
  got    : Nat
  covers : Nat
  failed : Bool
  deriving DecidableEq, Repr

/-- Weft: links, route table, remote requests, spanning transactions, remote line entries and reads, the
votes owed, last frame by device, devices lost, the tick of the last delay measurement since the uplink came up (R83). -/
structure Weft where
  links    : List (Nat × WLink)
  routes   : List (Nat × Word)
  reqs     : List RemReq
  nextTag  : Nat
  spans    : List SpanWait
  remLines : List RemLine
  remReads : List RemRead
  votes    : List VoteDue
  lastSeen : List (Nat × Nat)
  lost     : List Nat
  delayTick : Option Nat
  deriving DecidableEq, Repr

/-! ## Boot, lifecycle, debug (chapter 20), power, clocks, reset (chapter 22) -/

/-- The fuses (R541, R543): UID, port addresses, the lifecycle state and LCCOUNT that the groups give (R542),
OWNERHASH, MINVER by image kind. -/
structure Fuses where
  uid       : List Byte
  mac       : List (Nat × Nat)
  lifecycle : Nat
  lcCount   : Nat
  ownerHash : List Byte
  minVer    : List (Nat × Nat)
  deriving DecidableEq, Repr

/-- The areas of MRAM outside the Almanac's (R28): the boot ledger's records by SEQ with the header's newest SEQ
and HEADHASH and the device certificate (R555, R556), the copies of the epoch reservation, none where the CRC
fails, and whether the area has been written (R53), the twin settings and blob (R480), retired pairs with their
cause (R375), the count of tamper events and what it was at the last boot record (R552, R576). -/
structure Mram where
  ledger    : List (Nat × List Byte)
  headSeq   : Nat
  headHash  : List Byte
  cert      : List Byte
  resvA     : Option Nat
  resvB     : Option Nat
  resvUsed  : Bool
  twinCfg   : Word
  twinGen   : Word
  twinBlob  : List Byte
  retired   : List (Nat × Nat)
  tampers   : Nat
  tampSeen  : Nat
  deriving DecidableEq, Repr

/-- The Evral port (R565 to R572): the scope that an accepted token grants, whether a check is in progress, the
result of the last, whether the next transfer reports a data CRC failure, and whether the Steward is halted. -/
structure Evral where
  scope    : Option Nat
  checking : Bool
  result   : Nat
  badData  : Bool
  stewHalt : Bool
  deriving DecidableEq, Repr

/-- The boot (R548): the step to run next (none where the boot has ended or failed), SEQ of the boot, the
measurement slots (R551), whether the boot record is written, whether step 8 restores from storage, whether the
ledger disagreed (R557), the accepted configuration's body, the microcode image that firmware keeps for reloads
(R341), IMGVER by kind, RHASH of the record of this boot. -/
structure Boot where
  stage     : Option Nat
  seq       : Nat
  meas      : List (Nat × List Byte)
  running   : Bool
  restoring : Bool
  ledgerBad : Bool
  config    : List Byte
  ucode     : List Byte
  imgVer    : List (Nat × Nat)
  rhash     : List Byte
  deriving DecidableEq, Repr

/-- Pins, power, clocks and resets: power is up and PORST_N high, RESET_N is high, a reset holds the device, the
time of the last KICK of the watchdog while it runs (R622), the clock limits that temperature set, by cluster in
100 MHz with the time of the last change, the sensors whose last reading was at or above TRIP (R624), clusters
under way down or up (R613, R614), THERM_N is low, DRAM is in self-refresh (R588, R619), and when the reset
after a lifecycle change is due (R562). -/
structure Power where
  on       : Bool
  resetN   : Bool
  inReset  : Bool
  wdog     : Option Nat
  throttle : List (Nat × Nat × Nat)
  trips    : List Nat
  powering : List (Nat × Bool)
  thermLow : Bool
  refresh  : Bool
  lcReset  : Option Nat
  deriving DecidableEq, Repr

/-! ## The block -/

/-- The whole state of the block.  `time` is the always-on clock in ns, `fresh` counts the free values
drawn (the model's own field, log entry 3), `pending` is the queue of commands that wait, first in,
first out.  Units are keyed by 2 times the pair plus the core, pairs by R25, clusters by number. -/
structure State where
  ctl      : Ctl
  gleaner  : Gleaner
  almanac  : Almanac
  tick     : Tick
  stakes   : Stakes
  journal  : Journal
  twin     : Twin
  eth      : Eth
  plots    : Plots
  sower    : Sower
  steward  : Steward
  units    : List (Nat × CoreUnit)
  pairs    : List (Nat × Pair)
  clusters : List (Nat × Cluster)
  mem      : Mem
  warp     : Warp
  thresher : Thresher
  cipher   : Cipher
  furrow   : Furrow
  weft     : Weft
  fuses    : Fuses
  mram     : Mram
  evral    : Evral
  boot     : Boot
  power    : Power
  out      : List Out
  time     : Nat
  fresh    : Nat
  pending  : List Instr
  deriving DecidableEq, Repr

/-- Why the block stops for good. No command of this block raises one: every effect that the spec
describes ends in a state of the block.  The one constructor is there for an address that the model
itself could not hold (safe: it can only stop a run). -/
inductive Fault where
  /-- Raised by no command at present; safe. -/
  | unreachable
  deriving DecidableEq, Repr

/-- Why a command has no meaning. -/
inductive Refusal where
  /-- A command not modelled yet, by its mnemonic; safe, since no step follows. -/
  | notModelled (mnemonic : String)
  deriving DecidableEq, Repr

/-! ## Reset values -/

/-- A list of zero words. -/
def zeroWords (n : Nat) : List Word := List.replicate n 0

/-- The special registers after reset (R279; log entry 5 where the spec states no value). -/
def SpecRegs.reset : SpecRegs :=
  { psw := 2, fpstat := 0, fpctl := 0, wsp := 0, spc := zeroWords 8, ispc := 0, declen := 0,
    epc := 0, epsw := 0, eispc := 0, ecause := 0, eaddr := 0, evba := 0, depc := 0, depsw := 0,
    deispc := 0, decause := 0, deaddr := 0, dvba := 0, timeHi := 0 }

/-- The architected state of a unit after reset. -/
def Arch.reset : Arch :=
  { k := zeroWords 8
    win := { frames := [{ v := zeroWords 8, n := zeroWords 8 }], baseC := zeroWords 8, cwp := 0, depth := 0 }
    f := List.replicate 32 0
    pc := 0, sr := SpecRegs.reset, link := none }

/-- A unit after reset: idle. -/
def CoreUnit.reset : CoreUnit :=
  { arch := Arch.reset, txn := none, run := false, wait := .none
    latch := { tick := none, mcheck := none, ends := [], engine := false, doorbell := false, halt := false }
    retired := 0, coreFrom := none, haltedNs := 0, budget := 0, stores := [], reads := [], lines := []
    readEpoch := none, spanned := [], spanStored := false, halted := false, haltFrom := 0
    stepping := false, execPlot := 0 }

/-- A pair after reset. -/
def Pair.reset : Pair :=
  { stores := [], words := [], refCrc := none, reload := false, loads := 0, cleanRun := 0, takeover := none
    toActive := false, selfFail := false, bps := [], stop := none, bpHit := 0, brkHalt := false }

/-- A cluster after reset. -/
def Cluster.reset : Cluster :=
  { lines := [], fills := [], stores := [] }

/-- A histogram channel with nothing counted (R597). -/
def Channel.empty : Channel := { total := 0, bins := List.replicate 32 0 }

/-- A tracker with no sample (R595). -/
def Tracker.empty : Tracker := { any := false, value := 0, epoch := 0xFFFFFFFFFFFF }

/-- A port after reset. -/
def Port.reset : Port := { pauses := [], txq := [], stamps := [], latched := none, inQueue := false, free := [] }

/-- A link of Weft after reset (R523). -/
def WLink.reset : WLink :=
  { state := .off, failAt := 0, flit := 0, replays := 0, upAt := 0 }

def Gleaner.reset : Gleaner := { recs := [], counts := [], lostBefore := false, ready := false, doorbells := 0 }

def Almanac.reset : Almanac :=
  { chans := [], tracks := [], watchMap := 0, cfg := [], corr := 0, replays := [], samples := []
    triggers := [], writing := none, perm := [], circ := [], window := [], start := 0, resetSeen := false }

def Tick.reset : Tick :=
  { lastTick := 0, period := 20, sched := none, extRun := 0, closed := false, aligned := false, tickOut := false, tickOutEnd := 0
    ppsEnd := 0, admitted := false, epochOpen := false, openTime := 0, resv := 0, resvWrite := none
    sealing := none, goodSeals := 0, rollback := none, afterRb := false, symbol := none, base := 0 }

def Stakes.reset : Stakes := { entries := [], msgs := [], grants := [], wounds := [], recs := [] }

def Journal.reset : Journal :=
  { gapRb := false, gapBoot := false, prevEpoch := 0, prevChain := List.replicate 48 0, undo := []
    sheaves := [], ownIdx := [], partIdx := [], partRef := none, named := [], notices := []
    keyGens := [], waits := [], initBusy := false, stopWas := false, start := 0, undoHead := 0 }

def Twin.reset : Twin :=
  { hbSeq := 0, partSeq := none, sent := [], hbSeen := false, partHolds := false, juniorFrom := none, waitEnd := 0
    reports := [], step := 0, stepTime := 0, cursor1 := 0, cursor2 := 0, recv1 := 0, recv2 := 0, chunks := []
    holdStart := none, returning := false, handBack := none, announces := [], mirrors := []
    copies := [], partPlots := [], adopted := [], mirrorNext := false, unpairNext := false, ticksUp := 0 }

def Eth.reset : Eth := { ports := [], sessions := [], kept := [], heldc := [], sas := [], resets := [], down := false, ptpSeq := 0 }

def Plots.reset : Plots := { plots := [], qpairs := [], resets := [], initBusy := false }

def Sower.reset : Sower := { slots := [], nextSeq := 0, rr := 0, resv := [], cfg := 0x102 }

def Steward.reset : Steward := { cmds := [], handles := [], retries := 0 }

def Mem.reset : Mem := { cells := [], poison := [], nextStore := 0 }

def Warp.reset : Warp := { held := [], nextId := 0, timeouts := [], replays := [], routes := [] }

def Thresher.reset : Thresher :=
  { jobs := [], nextId := 0, offline := [], verify := [], parity := [], credit := [], rr := 0 }

def Cipher.reset : Cipher := { locks := [], jobs := [], nextId := 0, slots := [], leaving := [], blobs := [] }

def Furrow.reset : Furrow :=
  { paths := [], ops := [], cmds := [], nextOp := 0, nextTag := 0, partOps := [], nextLba := 16, placed := []
    keepLba := 16, full := false, partLba := 16, partPlaced := [], partDest := false, sweeps := [], ploughSeq := none
    areaB := true, holds := [], rr := [], restore := none }

def Weft.reset : Weft :=
  { links := [], routes := [], reqs := [], nextTag := 0, spans := [], remLines := [], remReads := []
    votes := [], lastSeen := [], lost := [], delayTick := none }

def Fuses.reset : Fuses :=
  { uid := List.replicate 16 0, mac := [], lifecycle := 0, lcCount := 0, ownerHash := List.replicate 48 0, minVer := [] }

def Mram.reset : Mram :=
  { ledger := [], headSeq := 0, headHash := List.replicate 48 0, cert := List.replicate 256 0, resvA := none, resvB := none
    resvUsed := false, twinCfg := 0, twinGen := 0, twinBlob := [], retired := [], tampers := 0, tampSeen := 0 }

def Evral.reset : Evral := { scope := none, checking := false, result := 0, badData := false, stewHalt := false }

def Boot.reset : Boot :=
  { stage := some 1, seq := 0, meas := [], running := false, restoring := false, ledgerBad := false, config := []
    ucode := [], imgVer := [], rhash := List.replicate 48 0 }

def Power.reset : Power :=
  { on := true, resetN := true, inReset := false, wdog := none, throttle := [], trips := [], powering := []
    thermLow := false, refresh := false, lcReset := none }

/-- The block right after its first power-on reset (R610, R620), with nothing commanded. Every register reads its reset
value but SWD_BOOTSTAT (offset 4), whose CAUSE is POWER_ON (R618). -/
def State.reset : State :=
  { ctl := { regs := [(0x000004, 0x100)], latch := [], held := [], rdata := 0 }
    gleaner := Gleaner.reset, almanac := Almanac.reset, tick := Tick.reset, stakes := Stakes.reset
    journal := Journal.reset, twin := Twin.reset, eth := Eth.reset, plots := Plots.reset
    sower := Sower.reset, steward := Steward.reset, units := [], pairs := [], clusters := []
    mem := Mem.reset, warp := Warp.reset, thresher := Thresher.reset, cipher := Cipher.reset
    furrow := Furrow.reset, weft := Weft.reset, fuses := Fuses.reset, mram := Mram.reset
    evral := Evral.reset, boot := Boot.reset, power := Power.reset
    out := [], time := 0, fresh := 0, pending := [] }

end Sys2Proof.Machine
end

