-- ==== Sys2Proof/Machine/Ops.lean ====
section
/-! DEFINITION. The named operations over the state: one part of the state updated, the words of
control space, units, pairs and clusters by number, memory by address, the clock, and free values. -/

namespace Sys2Proof.Machine

open Sys2Proof

/-! ## One part of the state updated -/

def State.mapCtl (s : State) (f : Ctl → Ctl) : State := { s with ctl := f s.ctl }
def State.mapGleaner (s : State) (f : Gleaner → Gleaner) : State := { s with gleaner := f s.gleaner }
def State.mapAlmanac (s : State) (f : Almanac → Almanac) : State := { s with almanac := f s.almanac }
def State.mapTick (s : State) (f : Tick → Tick) : State := { s with tick := f s.tick }
def State.mapStakes (s : State) (f : Stakes → Stakes) : State := { s with stakes := f s.stakes }
def State.mapJournal (s : State) (f : Journal → Journal) : State := { s with journal := f s.journal }
def State.mapTwin (s : State) (f : Twin → Twin) : State := { s with twin := f s.twin }
def State.mapEth (s : State) (f : Eth → Eth) : State := { s with eth := f s.eth }
def State.mapPlots (s : State) (f : Plots → Plots) : State := { s with plots := f s.plots }
def State.mapSower (s : State) (f : Sower → Sower) : State := { s with sower := f s.sower }
def State.mapSteward (s : State) (f : Steward → Steward) : State := { s with steward := f s.steward }
def State.mapMem (s : State) (f : Mem → Mem) : State := { s with mem := f s.mem }
def State.mapWarp (s : State) (f : Warp → Warp) : State := { s with warp := f s.warp }
def State.mapThresher (s : State) (f : Thresher → Thresher) : State := { s with thresher := f s.thresher }
def State.mapCipher (s : State) (f : Cipher → Cipher) : State := { s with cipher := f s.cipher }
def State.mapFurrow (s : State) (f : Furrow → Furrow) : State := { s with furrow := f s.furrow }
def State.mapWeft (s : State) (f : Weft → Weft) : State := { s with weft := f s.weft }
def State.mapFuses (s : State) (f : Fuses → Fuses) : State := { s with fuses := f s.fuses }
def State.mapMram (s : State) (f : Mram → Mram) : State := { s with mram := f s.mram }
def State.mapEvral (s : State) (f : Evral → Evral) : State := { s with evral := f s.evral }
def State.mapBoot (s : State) (f : Boot → Boot) : State := { s with boot := f s.boot }
def State.mapPower (s : State) (f : Power → Power) : State := { s with power := f s.power }

/-- Something leaves the package. -/
def State.emit (s : State) (o : Out) : State := { s with out := s.out ++ [o] }

/-- The always-on clock moves on to a time, never back. -/
def State.advance (s : State) (t : Nat) : State := { s with time := max s.time t }

/-- The microsecond in which a time falls is over, or the millisecond (R18: an event of that cycle comes before). -/
def State.usPassed (s : State) (t : Nat) : Bool := decide (t / 1000 < s.time / 1000)
def State.msPassed (s : State) (t : Nat) : Bool := decide (t / 1000000 < s.time / 1000000)

/-- What a step does on an empty queue: one nanosecond of the always-on clock passes (log entry 1). -/
def State.idle (s : State) : State := s.advance (s.time + 1)

/-- A free value: what the spec leaves open at this point (log entry 3). -/
def State.free (s : State) : Nat := Config.freeValue s.fresh

/-- The free value in hand has been used. -/
def State.drawn (s : State) : State := { s with fresh := s.fresh + 1 }

/-- The time base: ns since it last read zero (R39). -/
def State.timeBase (s : State) : Nat := ((s.time : Int) - s.tick.base).toNat

/-- A reset holds the device, or it has no power (R619, R620). -/
def State.held (s : State) : Bool := s.power.inReset || !s.power.on

/-! ## Words of control space -/

/-- The word at an offset, as stored. -/
def State.reg (s : State) (off : Nat) : Word := sget regReset s.ctl.regs off

/-- The word at an offset replaced. -/
def State.setReg (s : State) (off : Nat) (v : Word) : State :=
  s.mapCtl fun c => { c with regs := sset regReset c.regs off v }

/-- Field [hi:lo] of the word at an offset. -/
def State.fld (s : State) (off hi lo : Nat) : Nat := bits (s.reg off) hi lo

/-- Field [hi:lo] of the word at an offset replaced. -/
def State.setFld (s : State) (off hi lo v : Nat) : State :=
  s.setReg off (setBits (s.reg off) hi lo v)

/-- Bit b of the word at an offset. -/
def State.bit (s : State) (off b : Nat) : Bool := (s.reg off).getLsbD b

/-- Bit b of the word at an offset written. -/
def State.setBit (s : State) (off b : Nat) (v : Bool) : State :=
  s.setFld off b b (if v then 1 else 0)

/-- The 64-bit quantity of a pair of words (R11). -/
def State.reg64 (s : State) (lo : Nat) : Nat := (s.reg lo).toNat + 2 ^ 32 * (s.reg (lo + 4)).toNat

/-- The 64-bit quantity of a pair replaced. -/
def State.setReg64 (s : State) (lo v : Nat) : State :=
  (s.setReg lo (BitVec.ofNat 32 v)).setReg (lo + 4) (BitVec.ofNat 32 (v / 2 ^ 32))

/-- A counter moved up by n, saturating at 0xFFFF_FFFF. -/
def State.count (s : State) (off n : Nat) : State :=
  s.setReg off (BitVec.ofNat 32 (min 0xFFFFFFFF ((s.reg off).toNat + n)))

/-- A field moved up by n, saturating at its largest value. -/
def State.countFld (s : State) (off hi lo n : Nat) : State :=
  s.setFld off hi lo (min (2 ^ (hi + 1 - lo) - 1) (s.fld off hi lo + n))

/-! ## Units, pairs, clusters, ports, links by number -/

def State.unit (s : State) (u : Nat) : CoreUnit := sget (fun _ => CoreUnit.reset) s.units u

def State.setUnit (s : State) (u : Nat) (x : CoreUnit) : State :=
  { s with units := sset (fun _ => CoreUnit.reset) s.units u x }

def State.mapUnit (s : State) (u : Nat) (f : CoreUnit → CoreUnit) : State := s.setUnit u (f (s.unit u))

def State.pair (s : State) (p : Nat) : Pair := sget (fun _ => Pair.reset) s.pairs p

def State.setPair (s : State) (p : Nat) (x : Pair) : State :=
  { s with pairs := sset (fun _ => Pair.reset) s.pairs p x }

def State.mapPair (s : State) (p : Nat) (f : Pair → Pair) : State := s.setPair p (f (s.pair p))

def State.cluster (s : State) (c : Nat) : Cluster := sget (fun _ => Cluster.reset) s.clusters c

def State.setCluster (s : State) (c : Nat) (x : Cluster) : State :=
  { s with clusters := sset (fun _ => Cluster.reset) s.clusters c x }

def State.mapCluster (s : State) (c : Nat) (f : Cluster → Cluster) : State :=
  s.setCluster c (f (s.cluster c))

def State.port (s : State) (p : Nat) : Port := sget (fun _ => Port.reset) s.eth.ports p

def State.mapPort (s : State) (p : Nat) (f : Port → Port) : State :=
  s.mapEth fun e => { e with ports := sset (fun _ => Port.reset) e.ports p (f (s.port p)) }

def State.link (s : State) (l : Nat) : WLink := sget (fun _ => WLink.reset) s.weft.links l

def State.mapLink (s : State) (l : Nat) (f : WLink → WLink) : State :=
  s.mapWeft fun w => { w with links := sset (fun _ => WLink.reset) w.links l (f (s.link l)) }

/-- A plot of the device; none while its descriptor is FREE (R222). -/
def State.plot (s : State) (p : Nat) : Option Plot := s.plots.plots.lookup p

def State.setPlot (s : State) (p : Nat) (x : Plot) : State :=
  s.mapPlots fun q => { q with plots := sput q.plots p x }

def State.dropPlot (s : State) (p : Nat) : State :=
  s.mapPlots fun q => { q with plots := sdel q.plots p }

def State.mapPlot (s : State) (p : Nat) (f : Plot → Plot) : State :=
  match s.plot p with
  | some x => s.setPlot p (f x)
  | none => s

/-- The queue pair of a plot's queue (R230). -/
def State.qpair (s : State) (p q : Nat) : Option QPair :=
  s.plots.qpairs.find? fun x => x.plot = p ∧ x.queue = q

/-- A change of the queue pair of a plot's queue. -/
def State.mapQpair (s : State) (p q : Nat) (f : QPair → QPair) : State :=
  s.mapPlots fun x =>
    { x with qpairs := x.qpairs.map fun y => if y.plot = p ∧ y.queue = q then f y else y }

/-! ## Memory -/

/-- What a byte of memory that nothing has written reads as (log entry 4). -/
def blankByte (_ : Nat) : Byte := 0

/-- The byte at a physical address. -/
def State.byte (s : State) (a : Nat) : Byte := sget blankByte s.mem.cells a

/-- The byte at a physical address replaced. -/
def State.setByte (s : State) (a : Nat) (b : Byte) : State :=
  s.mapMem fun m => { m with cells := sset blankByte m.cells a b }

/-- n bytes from a physical address upward. -/
def State.bytes (s : State) (a : Nat) : Nat → List Byte
  | 0 => []
  | n + 1 => s.byte a :: s.bytes (a + 1) n

/-- Bytes stored from a physical address upward. -/
def State.setBytes (s : State) (a : Nat) : List Byte → State
  | [] => s
  | b :: l => (s.setByte a b).setBytes (a + 1) l

/-- n bytes of memory from an address upward become what nothing has written. -/
def State.wipe (s : State) (a n : Nat) : State :=
  s.mapMem fun m => { m with cells := m.cells.filter fun c => !(decide (a ≤ c.1 ∧ c.1 < a + n)) }

/-- The canonical form of memory: addresses rise strictly, and no entry is what an unlisted address
reads as. -/
def Mem.wf (m : Mem) : Bool := swf blankByte m.cells

/-- The 8-byte granule at an address is poisoned (R423, R426). -/
def State.poisoned (s : State) (a : Nat) : Bool := decide (a / 8 ∈ s.mem.poison)

/-! ## Numbers of the hierarchy (R24, R25) -/

/-- The pair of a unit. -/
def pairOf (u : Nat) : Nat := u / 2
/-- The core of a unit within its pair. -/
def coreOf (u : Nat) : Nat := u % 2
/-- The cluster of a pair. -/
def clusterOf (p : Nat) : Nat := p / 8

/-- The offset of a pair register of a pair (R635). -/
def pairReg (base p : Nat) : Nat := base + 0x10000 * (p / 8) + 0x40 * (p % 8)
/-- The offset of a cluster register of a cluster. -/
def clsReg (base c : Nat) : Nat := base + 0x10000 * c

/-! ## Sources of the Gleaner (R578) -/

namespace Src
def cluster (c : Nat) : Nat := 0x060 + c
def steward : Nat := 0x06C
def slice (n : Nat) : Nat := 0x070 + n
def mc (m : Nat) : Nat := 0x080 + m
def tick : Nat := 0x088
def sower : Nat := 0x089
def journal : Nat := 0x08A
def applier : Nat := 0x08B
def twin : Nat := 0x08C
def port (p : Nat) : Nat := 0x08D + p
def swath : Nat := 0x08F
def link (l : Nat) : Nat := 0x090 + l
def weft : Nat := 0x096
def warp : Nat := 0x097
def thresher (n : Nat) : Nat := 0x098 + n
def cipher (n : Nat) : Nat := 0x0A0 + n
def vault : Nat := 0x0B0
def furrow : Nat := 0x0B1
def boot : Nat := 0x0B2
def lifecycle : Nat := 0x0B3
def rails : Nat := 0x0B4
def mram : Nat := 0x0B5
def almanac : Nat := 0x0B6
def gleaner : Nat := 0x0B7
def evral : Nat := 0x0B8
def shared : Nat := 0x0B9
def monitor (d : Nat) : Nat := 0x0C0 + d
end Src

/-- DETAIL of an event: KIND, PLOT and INSTANCE (R579). -/
def detail (kind plot inst : Nat) : Nat :=
  (kind % 256) * 2 ^ 24 + (plot % 4096) * 2 ^ 12 + inst % 4096

/-- PLOT of an event that concerns no plot (R579). -/
def noPlot : Nat := 0xFFF
/-- KIND of an event that sets no bit (R579). -/
def noKind : Nat := 0xFF

end Sys2Proof.Machine
end

