-- ==== Sys2Proof/Machine/Gleaner.lean ====
section
/-! DEFINITION. The Gleaner's record store (R578 to R587) and the Almanac's channels, trackers and
snapshots (R592 to R603). -/

namespace Sys2Proof.Machine

open Sys2Proof

/-! ## Records -/

/-- The flags byte of a record (R582). -/
def GleanRec.flags (r : GleanRec) : Nat :=
  r.cleared.toNat + 2 * r.pin.toNat + 4 * r.lostBefore.toNat + 8 * r.preReset.toNat

/-- The 32 bytes of a record (R582). -/
def GleanRec.bytes (r : GleanRec) : List Byte :=
  leBytes 4 r.seq ++ leBytes 2 r.source ++ leBytes 1 r.cls ++ leBytes 1 r.flags ++
  leBytes 8 r.time ++ leBytes 8 r.epoch ++ leBytes 4 r.detail ++ leBytes 4 r.rep

/-- The place of the record that a new one replaces in a full store (R584): the oldest CLEARED one,
else the oldest of class 0, 1 or 2. -/
def victim? (l : List GleanRec) : Option Nat :=
  match l.findIdx? (fun r => r.cleared) with
  | some i => some i
  | none => l.findIdx? (fun r => r.cls ≤ 2)

/-- A record of this source, class and detail is the newest and not CLEARED (R583). -/
def coalesces (l : List GleanRec) (source cls det : Nat) : Bool :=
  match l.getLast? with
  | some r => !r.cleared && r.source == source && r.cls == cls && r.detail == det
  | none => false

/-- A counter of 32 bits that saturates, one up. -/
def sat32 (n : Nat) : Nat := min 0xFFFFFFFF (n + 1)

/-- The actions of an event (R580): LOG, PIN, INT. -/
def State.actions (s : State) (source cls : Nat) : Bool × Bool × Bool :=
  let off := Reg.GLN_SRCCFG + 4 * source
  (decide (3 ≤ cls) || s.bit off 0,
   decide (3 ≤ cls) || (decide (1 ≤ cls) && s.bit off 1),
   decide (cls ≤ 5) && s.bit off 2)

/-- The Gleaner takes an event and does all that it does short of safe state (R580 to R585): the
source's count, the record or the repeat of one, its loss in a full store, the doorbell. -/
def State.glean (s : State) (source cls det : Nat) : State :=
  let acts := s.actions source cls
  let s := s.mapGleaner fun g => { g with counts := sset (fun _ => 0) g.counts source (sat32 (sget (fun _ => 0) g.counts source)) }
  let s := if cls = 1 then s.mapAlmanac fun a => { a with corr := a.corr + 1 } else s
  if !acts.1 then s
  else if coalesces s.gleaner.recs source cls det then
    s.mapGleaner fun g =>
      { g with recs := g.recs.modifyLast (fun r => { r with rep := sat32 r.rep })
               doorbells := g.doorbells + acts.2.2.toNat }
  else
    let r : GleanRec :=
      { seq := (s.reg Reg.GLN_NEXTSEQ).toNat, source := source, cls := cls, cleared := false
        pin := acts.2.1, lostBefore := s.gleaner.lostBefore, preReset := false
        time := s.timeBase, epoch := s.reg64 Reg.TCK_EPOCH_LO, detail := det, rep := 0 }
    let kept : Option (List GleanRec) :=
      if s.gleaner.recs.length < 1024 then some s.gleaner.recs
      else (victim? s.gleaner.recs).map s.gleaner.recs.eraseIdx
    match kept with
    | some l =>
      (s.mapGleaner fun g =>
        { g with recs := l ++ [r], lostBefore := false, doorbells := g.doorbells + acts.2.2.toNat })
      |>.setReg Reg.GLN_NEXTSEQ (s.reg Reg.GLN_NEXTSEQ + 1)
    | none =>
      ((s.mapGleaner fun g => { g with lostBefore := true }).count Reg.GLN_CNT_LOST 1).setBit Reg.GLN_ERR 1 true

/-- The device is in safe state (R588). -/
def State.safe (s : State) : Bool := s.bit Reg.GLN_STATUS 31

/-- FAULT_N is driven low (R585, R591). -/
def State.faultLow (s : State) : Bool :=
  s.gleaner.recs.any (fun r => r.pin && !r.cleared) || s.safe || !s.gleaner.ready ||
  s.bit Reg.GLN_STATUS 30

/-- A record may be cleared (R586). -/
def State.mayClear (s : State) (r : GleanRec) : Bool := decide (r.cls ≠ 6) || !s.safe

/-- How a clear ended (R586). -/
inductive ClearEnd where
  | done | denied | notFound
  deriving DecidableEq, Repr

/-- A clear by GLEANER_CLEAR or GLN_CLEAR (R586); 0 clears every record that may be cleared. -/
def State.gleanClear (s : State) (seq : Nat) : State × ClearEnd :=
  let clr (p : GleanRec → Bool) : State :=
    s.mapGleaner fun g => { g with recs := g.recs.map fun r => if p r then { r with cleared := true } else r }
  if seq = 0 then (clr s.mayClear, .done)
  else match s.gleaner.recs.find? (fun r => r.seq = seq) with
    | none => (s, .notFound)
    | some r =>
      if s.mayClear r then (clr (fun x => x.seq = seq), .done)
      else (s.setBit Reg.GLN_ERR 3 true, .denied)

/-- The bytes of the record that GLN_RECSEL names, or zeros (R604). -/
def State.selectedRecord (s : State) : List Byte :=
  match s.gleaner.recs.find? (fun r => r.seq = (s.reg Reg.GLN_RECSEL).toNat) with
  | some r => r.bytes
  | none => zeros 32

/-- The records that GLEANER_READ returns (R587): at most `n` in rising SEQ from `from`. -/
def State.recordsFrom (s : State) (start n : Nat) : List GleanRec :=
  (s.gleaner.recs.filter (fun r => start ≤ r.seq)).take n

/-! ## Samples, channels and trackers -/

/-- A word of the configuration of the interval in progress (R596). -/
def State.almCfg (s : State) (off : Nat) : Word := sget regReset s.almanac.cfg off

/-- A sample is taken at its block (R592, R593), saturating at 32 bits. -/
def State.sample (s : State) (metric inst value : Nat) : State :=
  s.mapAlmanac fun a =>
    { a with samples := a.samples ++
        [{ metric := metric, inst := inst, value := min 0xFFFFFFFF value, epoch := s.reg64 Reg.TCK_EPOCH_LO }] }

/-- The metrics whose SELECT is ignored (R592). -/
def ignoresSelect (metric : Nat) : Bool :=
  metric == 1 || metric == 2 || metric == 7 || metric == 8 || metric == 0x0D

/-- The metrics whose SELECT is a class in bits [1:0] (R592). -/
def selectsClass (metric : Nat) : Bool := metric == 4 || metric == 5

/-- A configuration word names the metric and instance of a sample (R592). -/
def matchesSample (w : Word) (x : Sample) : Bool :=
  let metric := bits w 31 24
  let sel := bits w 23 12
  metric != 0 && metric == x.metric &&
    (ignoresSelect metric || sel == 0xFFF ||
      (if selectsClass metric then sel % 4 == x.inst else sel == x.inst))

/-- The bin of a sample in a channel (R594). -/
def binOf (w : Word) (v : Nat) : Nat :=
  let sc := bits w 9 5
  if w.getLsbD 10 then (if v < 2 ^ sc then 0 else min 31 (Nat.log2 (v / 2 ^ sc) + 1))
  else min 31 (v / 2 ^ sc)

/-- An exact count of 40 bits that saturates, one up (R594). -/
def sat40 (n : Nat) : Nat := min (2 ^ 40 - 1) (n + 1)

/-- A sample counted in a channel (R594). -/
def Channel.add (c : Channel) (w : Word) (x : Sample) : Channel :=
  { total := sat40 c.total, bins := c.bins.modify (binOf w x.value) sat40 }

/-- A sample followed by a tracker (R595). -/
def Tracker.add (t : Tracker) (w : Word) (x : Sample) : Tracker :=
  if !t.any || (if w.getLsbD 0 then x.value < t.value else t.value < x.value) then
    { any := true, value := x.value, epoch := x.epoch }
  else t

/-- A sample exceeds a watched tracker's limit (R595). -/
def exceeds (w lim : Word) (x : Sample) : Bool :=
  w.getLsbD 1 && (if w.getLsbD 0 then x.value < lim.toNat else lim.toNat < x.value)

/-- A sample is counted in channel n. -/
def State.gatherChannel (s : State) (x : Sample) (n : Nat) : State :=
  let w := s.almCfg (Reg.ALM_HCFG + 4 * n)
  if matchesSample w x then
    s.mapAlmanac fun a => { a with chans := sset (fun _ => Channel.empty) a.chans n ((sget (fun _ => Channel.empty) a.chans n).add w x) }
  else s

/-- A sample is followed by tracker t; an exceedance calls for a snapshot (R595). -/
def State.gatherTracker (s : State) (x : Sample) (t : Nat) : State × List Trigger :=
  let w := s.almCfg (Reg.ALM_XCFG + 4 * t)
  if matchesSample w x then
    let s := s.mapAlmanac fun a => { a with tracks := sset (fun _ => Tracker.empty) a.tracks t ((sget (fun _ => Tracker.empty) a.tracks t).add w x) }
    if exceeds w (s.almCfg (Reg.ALM_XLIM + 4 * t)) x then
      (s.mapAlmanac fun a => { a with watchMap := a.watchMap ||| 2 ^ t }, [.watch])
    else (s, [])
  else (s, [])

/-- One sample gathered into every channel and tracker. -/
def State.gatherOne (s : State) (x : Sample) : State × List Trigger :=
  let s := (List.range 64).foldl (fun s n => s.gatherChannel x n) s
  (List.range 64).foldl (fun (r : State × List Trigger) t =>
    let q := r.1.gatherTracker x t
    (q.1, r.2 ++ q.2)) (s, [])

/-! ## Snapshots -/

/-- The code of a bin count in a snapshot (R599). -/
def binCode (c : Nat) : Nat := if c = 0 then 0 else min 15 (Nat.log2 c / 2 + 1)

/-- The 16 bytes of a channel's bins in a snapshot (R598). -/
def Channel.codes (c : Channel) : List Byte :=
  (List.range 16).map fun k =>
    BitVec.ofNat 8 (binCode (c.bins.getD (2 * k) 0) + 16 * binCode (c.bins.getD (2 * k + 1) 0))

def Trigger.code : Trigger → Nat
  | .interval => 1 | .manual => 2 | .watch => 3 | .safe => 4

/-- The trigger of highest precedence among those of one cycle (R597). -/
def topTrigger (l : List Trigger) : Trigger :=
  if .safe ∈ l then .safe else if .watch ∈ l then .watch else if .manual ∈ l then .manual else .interval

/-- The 2,048 bytes of a snapshot of the interval in progress (R598). -/
def State.snapImage (s : State) (seq : Nat) (trig : Trigger) (merged : Bool) : List Byte :=
  let a := s.almanac
  let flags := merged.toNat + 2 * a.resetSeen.toNat + 4 * (decide (seq ≤ 4096)).toNat
  let head (crc : Nat) : List Byte :=
    leBytes 4 0x414C4D01 ++ leBytes 2 1 ++ leBytes 1 trig.code ++ leBytes 1 flags ++ leBytes 8 seq ++
    leBytes 8 s.timeBase ++ leBytes 8 (s.time - a.start) ++ leBytes 8 (s.reg64 Reg.TCK_SEALED_LO) ++
    leBytes 8 a.watchMap ++ leBytes 4 s.boot.seq ++ leBytes 4 (s.reg Reg.ALM_CFGGEN).toNat ++
    leBytes 4 crc ++ zeros 4
  let chan n := sget (fun _ => Channel.empty) a.chans n
  let trk t := sget (fun _ => Tracker.empty) a.tracks t
  let body : List Byte :=
    (List.range 64).flatMap (fun n => leBytes 5 (chan n).total) ++
    (List.range 64).flatMap (fun n => (chan n).codes) ++
    (List.range 64).flatMap (fun t => leBytes 4 (trk t).value ++ leBytes 6 (trk t).epoch)
  let crc := (crc32c 0xFFFFFFFF (head 0 ++ body)) ^^^ 0xFFFFFFFF
  head crc.toNat ++ body

/-- The offsets of the 192 configuration words in the order of R596. -/
def almCfgOffsets : List Nat :=
  (List.range 64).map (fun n => Reg.ALM_HCFG + 4 * n) ++ (List.range 64).map (fun n => Reg.ALM_XCFG + 4 * n) ++
  (List.range 64).map (fun n => Reg.ALM_XLIM + 4 * n)

/-- A new interval starts (R596, R597): everything counted is empty, the configuration is taken over,
CFGGEN is computed. -/
def State.startInterval (s : State) : State :=
  let cfg := (Reg.ALM_INTERVAL :: almCfgOffsets).foldl (fun l off => sset regReset l off (s.reg off)) []
  let crc := (crc32c 0xFFFFFFFF (almCfgOffsets.flatMap fun off => leBytes 4 (s.reg off).toNat)) ^^^ 0xFFFFFFFF
  (s.mapAlmanac fun a =>
    { a with chans := [], tracks := [], watchMap := 0, cfg := cfg, start := s.time, resetSeen := false })
  |>.setReg Reg.ALM_CFGGEN crc

/-- A snapshot is taken and its write begins (R597). -/
def State.takeSnapshot (s : State) (trigs : List Trigger) (merged : Bool) : State :=
  let seq := s.reg64 Reg.ALM_HEAD_LO + 1
  let trig := topTrigger trigs
  let s := s.mapAlmanac fun a =>
    { a with writing := some { seq := seq, image := s.snapImage seq trig merged }, triggers := [] }
  let s := if trig = .watch then s.count Reg.ALM_CNT_WATCH 1 else s
  s.startInterval

/-- Triggers of one cycle call for a snapshot: one is taken, or they wait merged for the write in
progress (R597). -/
def State.callSnapshot (s : State) (trigs : List Trigger) : State :=
  if trigs.isEmpty then s
  else match s.almanac.writing with
    | none => s.takeSnapshot trigs false
    | some _ => s.mapAlmanac fun a => { a with triggers := a.triggers ++ trigs }

/-- The samples waiting are gathered, with the counts of the tick (R592, R593); exceedances of one
gathering call for one snapshot. -/
def State.gather (s : State) : State :=
  let r := s.almanac.samples.foldl (fun (r : State × List Trigger) x =>
    let q := r.1.gatherOne x
    (q.1, r.2 ++ q.2)) (s.mapAlmanac fun a => { a with samples := [] }, [])
  r.1.callSnapshot r.2

/-- A snapshot stored in a slot of an area, with its CRC broken when its verification failed twice
(R601). -/
def storedImage (image : List Byte) (fails noise : Nat) : List Byte :=
  if fails < 2 then image
  else overlay image 56 (leBytes 4 ((leAt image 56 4) ^^^ (1 + noise % 0xFFFFFFFF)))

/-- The bytes of a slot; a slot never written reads as zero (R602). A write in progress into the slot
ends first. -/
def State.almSlot (s : State) (area slot : Nat) : List Byte :=
  let held := ((if area = 0 then s.almanac.perm else s.almanac.circ).lookup slot).getD (zeros 2048)
  match s.almanac.writing with
  | some w =>
    if (if area = 0 then decide (w.seq ≤ 4096) && slot == w.seq - 1 else slot == (w.seq - 1) % 4096)
    then w.image else held
  | none => held

/-- The part that ALM_CURSOR names (R602). -/
def State.almPart (s : State) : List Byte :=
  slice (s.almSlot (s.fld Reg.ALM_CURSOR 31 31) (s.fld Reg.ALM_CURSOR 27 16)) (256 * s.fld Reg.ALM_CURSOR 2 0) 256

/-- The cursor after a read of ALM_WINDOW63 (R602). -/
def State.almAdvance (s : State) : State :=
  let part := s.fld Reg.ALM_CURSOR 2 0
  let s' := s.setFld Reg.ALM_CURSOR 2 0 ((part + 1) % 8)
  if part = 7 then s'.setFld Reg.ALM_CURSOR 27 16 ((s.fld Reg.ALM_CURSOR 27 16 + 1) % 4096) else s'

/-- A retained snapshot of a SEQ that passes its checks (R600, R601, R603). -/
def State.snapshot? (s : State) (seq : Nat) : Option (List Byte) :=
  let good (l : List Byte) : Bool :=
    decide (l.length = 2048) && leAt l 0 4 == 0x414C4D01 && leAt l 8 8 == seq &&
    leAt l 56 4 == ((crc32c 0xFFFFFFFF (overlay l 56 (zeros 4))) ^^^ 0xFFFFFFFF).toNat
  let circ := (s.almanac.circ.lookup ((seq - 1) % 4096)).getD []
  let perm := if seq ≤ 4096 then (s.almanac.perm.lookup (seq - 1)).getD [] else []
  if good circ then some circ else if good perm then some perm else none

end Sys2Proof.Machine
end

