-- ==== Sys2Proof/Machine/Flits.lean ====
section
/-! DEFINITION. The flits of a Weft link (R520 to R523, R529): their 256 bytes, what a device sends in them, and the DATA
flits that carry its frames and stand in the replay buffer. -/

namespace Sys2Proof.Machine

open Sys2Proof

/-- A flit (R520). -/
structure Flit where
  kind   : Nat
  vc     : Nat
  seq    : Nat
  ackSeq : Nat
  nak    : Bool
  body   : List Byte
  credit : List Nat
  deriving DecidableEq, Repr

/-- KIND of a flit (R520). -/
def flitData : Nat := 0
def flitTick : Nat := 1
def flitIdle : Nat := 2
def flitLink : Nat := 3

/-- The first word of a flit (R520). -/
def Flit.head (f : Flit) : Nat :=
  f.kind % 4 * 2 ^ 30 + f.vc % 8 * 2 ^ 27 + f.seq % 1024 * 2 ^ 17 + f.ackSeq % 1024 * 2 ^ 7 + f.nak.toNat * 2 ^ 6

/-- CRC of a flit, over its first 252 bytes (R520). -/
def flitCrc (b : List Byte) : Nat := (crc32c 0xFFFFFFFF b ^^^ 0xFFFFFFFF#32).toNat

/-- The bytes of a flit that its CRC covers (R520). -/
def Flit.covered (f : Flit) : List Byte :=
  beBytes 4 f.head ++ fitTo 236 f.body ++ (List.range 6).flatMap fun i => beBytes 2 (f.credit.getD i 0)

/-- The 256 bytes of a flit (R520). -/
def Flit.bytes (f : Flit) : List Byte := f.covered ++ beBytes 4 (flitCrc f.covered)

/-- A flit read from 256 bytes; none where its CRC is wrong (R520, R521). -/
def flitOf (b : List Byte) : Option Flit :=
  if b.length ≠ 256 ∨ beAt b 252 4 ≠ flitCrc (b.take 252) then none
  else
    let h := beAt b 0 4
    some { kind := h / 2 ^ 30, vc := h / 2 ^ 27 % 8, seq := h / 2 ^ 17 % 1024, ackSeq := h / 2 ^ 7 % 1024
           nak := h / 2 ^ 6 % 2 == 1, body := slice b 4 236, credit := (List.range 6).map fun i => beAt b (240 + 2 * i) 2 }

/-- A flit that is sent as the n-th thing to leave: ACKSEQ and CREDIT depend on flits received, of which no row tells; they
are free values (log entry 21). -/
def flitSent (n kind vc seq : Nat) (nak : Bool) (body : List Byte) : Flit :=
  let r := Config.flitReceived n
  { kind := kind, vc := vc, seq := seq, ackSeq := r % 1024, nak := nak, body := body
    credit := (List.range 6).map fun i => r / 1024 / 65536 ^ i % 65536 }

/-- A flit without a frame leaves on a link. -/
def State.sendFlit (s : State) (l kind : Nat) (nak : Bool) (body : List Byte) : State :=
  s.emit (.flit l (flitSent s.out.length kind 0 0 nak body).bytes)

/-- The body of a LINK flit (R523): device ID, link number, FEAT0.PART, revision. -/
def linkBody (dev l part : Nat) : List Byte := beBytes 2 dev ++ beBytes 1 l ++ beBytes 2 part ++ [1]

/-- The body of a TICK flit (R529): the time base at the tick, the root's tick count, the root's device ID. -/
def tickBody (value count root : Nat) : List Byte := beBytes 8 value ++ beBytes 8 count ++ beBytes 2 root

/-- The virtual channel of a TYPE (R525). -/
def vcOf (ty : Nat) : Nat :=
  if ty = 0x01 ∨ ty = 0x18 ∨ ty = 0x19 ∨ ty = 0x1A then 0
  else if 0x02 ≤ ty ∧ ty ≤ 0x05 then 1
  else if ty = 0x11 ∨ ty = 0x15 ∨ ty = 0x17 ∨ ty = 0x1C then 2
  else if ty = 0x12 ∨ ty = 0x16 then 3
  else if ty = 0x06 then 5
  else 4

/-- The header of a frame (R524). -/
def frameHead (ty dst src len tag : Nat) : List Byte :=
  beBytes 1 ty ++ [0] ++ beBytes 2 dst ++ beBytes 2 src ++ [0, 0] ++ beBytes 2 len ++ [0, 0] ++ beBytes 4 tag

/-- A payload in frames of at most 4,112 bytes; the fuel bounds their number. -/
def framesOf (ty dst src tag : Nat) : Nat → List Byte → List (List Byte)
  | 0, _ => []
  | fuel + 1, p =>
    (frameHead ty dst src (min 4112 p.length) tag ++ p.take 4112) ::
      (if p.length ≤ 4112 then [] else framesOf ty dst src tag fuel (p.drop 4112))

/-- The frames that the n-th thing to leave puts on a link, with their channel; TAG, the sender's own correlation value, is
a free value. -/
def Out.frames (own l n : Nat) : Out → List (Nat × List Byte)
  | .weft k dst ty p =>
    if k = l then (framesOf ty dst own (Config.frameTag n % 2 ^ 32) (p.length + 1) p).map fun f => (vcOf ty, f) else []
  | .frame k b => if k = l then [(vcOf (beAt b 0 1), b)] else []
  | _ => []

/-- A frame in bodies of 236 bytes; the fuel bounds their number. -/
def bodiesOf : Nat → List Byte → List (List Byte)
  | 0, _ => []
  | fuel + 1, b => if b.isEmpty then [] else b.take 236 :: bodiesOf fuel (b.drop 236)

/-- The DATA flits that a link has sent since it came UP, in the order of SEQ (R520, R521): each frame begins a flit
(log entry 129). -/
def State.dataFlits (s : State) (l : Nat) : List (List Byte) :=
  let own := s.fld Reg.WFT_DEVID 9 0
  let outs := (s.out.zip (List.range s.out.length)).drop (s.link l).upAt
  let bodies := outs.flatMap fun o => (o.1.frames own l o.2).flatMap fun f => (bodiesOf f.2.length f.2).map fun b => (f.1, o.2, b)
  (bodies.zip (List.range bodies.length)).map fun x => (flitSent x.1.2.1 flitData x.1.1 x.2 false x.1.2.2).bytes

/-- The flits of the replay buffer, the last 512, from the oldest one with a SEQ on (R521). -/
def State.replayFrom (s : State) (l seq : Nat) : List (List Byte) :=
  let all := s.dataFlits l
  let first := all.length - 512
  let kept := all.drop first
  let k := (seq + 1024 - first % 1024) % 1024
  if k < kept.length then kept.drop k else []

end Sys2Proof.Machine
end

