-- ==== Sys2Proof/Machine/Links.lean ====
section
/-! DEFINITION. Frames on Weft (R524 to R528): the routes, and what a device sends.  A frame's payload is the
fields that its rule names, in network order; R525 leaves their layout open (log entry 14). -/

namespace Sys2Proof.Machine

open Sys2Proof

/-- TYPE of R525. -/
def wfHeartbeat : Nat := 0x01
def wfSheaf : Nat := 0x02
def wfSheafAck : Nat := 0x03
def wfTwinNotice : Nat := 0x04
def wfState : Nat := 0x05
def wfRebuild : Nat := 0x06
def wfStakeReq : Nat := 0x10
def wfStakeRsp : Nat := 0x11
def wfStakeFwd : Nat := 0x12
def wfRecRead : Nat := 0x13
def wfRecWrite : Nat := 0x14
def wfRecRsp : Nat := 0x15
def wfSpanNotice : Nat := 0x16
def wfSpanAccept : Nat := 0x17
def wfVote : Nat := 0x18
def wfProbe : Nat := 0x19
def wfProbeRsp : Nat := 0x1A
def wfPeerReq : Nat := 0x1B
def wfPeerRsp : Nat := 0x1C

/-- The own device ID (R526). -/
def State.devId (s : State) : Nat := s.fld Reg.WFT_DEVID 9 0

/-- The offset of a register of a Weft link (R540). -/
def linkReg (base l : Nat) : Nat := base + 0x40 * l

/-- A link is UP (R523). -/
def State.linkUp (s : State) (l : Nat) : Bool := decide (l < 6) && decide ((s.link l).state = .up)

/-- The link on which a frame for a device leaves: PRIMARY when UP, else ALT when UP (R527). -/
def State.routeTo (s : State) (dst : Nat) : Option Nat :=
  let w := sget (fun _ => 0) s.weft.routes dst
  if !w.getLsbD 31 then none
  else if s.linkUp (bits w 2 0) then some (bits w 2 0)
  else if s.linkUp (bits w 6 4) then some (bits w 6 4)
  else none

/-- A frame leaves for a device, or is discarded without a route (R527); in device safe state no frame is
sent (R529). -/
def State.weftSend (s : State) (dst kind : Nat) (payload : List Byte) : State :=
  if s.safe then s
  else match s.routeTo dst with
    | some l => s.emit (.weft l dst kind payload)
    | none => s.setBit Reg.WFT_ERR 4 true

/-- A frame of a device has arrived: a device that was lost is found again (R538). -/
def State.seen (s : State) (dev : Nat) : State :=
  s.mapWeft fun w => { w with lastSeen := sput w.lastSeen dev s.time, lost := w.lost.filter (· ≠ dev) }

/-- A frame leaves on one link, for the device at its other end (R522: MIRROR and heartbeats are not
forwarded). -/
def State.linkSend (s : State) (l kind : Nat) (payload : List Byte) : State :=
  if s.safe ∨ !s.linkUp l then s
  else s.emit (.weft l (s.fld (linkReg Reg.WFT_LSTAT l) 25 16) kind payload)

/-- PAIRED, PARTNER, LINKA, LINKB of TWN_CFG (R186). -/
def State.paired (s : State) : Bool := s.bit Reg.TWN_CFG 31
def State.partnerId (s : State) : Nat := s.fld Reg.TWN_CFG 25 16
def State.linkA (s : State) : Nat := s.fld Reg.TWN_CFG 6 4
def State.linkB (s : State) : Nat := s.fld Reg.TWN_CFG 10 8

/-- A payload leaves on both mirror links (R61, R149, R165). -/
def State.mirrorSend (s : State) (kind : Nat) (payload : List Byte) : State :=
  (s.linkSend s.linkA kind payload).linkSend s.linkB kind payload

/-- A string cut into pieces of 4,096 bytes with their offsets (R525, R539). -/
def cutPieces (b : List Byte) : List (Nat × List Byte) :=
  (List.range ((b.length + 4095) / 4096)).map fun i => (4096 * i, slice b (4096 * i) 4096)

/-- A sheaf leaves on both mirror links, in frames of EPOCH, OFFSET and up to 4,096 bytes (R61, R525). -/
def State.sendSheaf (s : State) (epoch : Nat) (b : List Byte) : State :=
  (cutPieces b).foldl (fun s p => s.mirrorSend wfSheaf (beBytes 8 epoch ++ beBytes 8 p.1 ++ p.2)) s

/-- A chunk of a copy leaves in 256 frames, an even one on LINKA and an odd one on LINKB; on the other where that link
is not UP (R539). -/
def State.sendChunk (s : State) (phase chunk : Nat) (b : List Byte) : State :=
  let first := if chunk % 2 = 0 then s.linkA else s.linkB
  let other := if chunk % 2 = 0 then s.linkB else s.linkA
  let l := if s.linkUp first then first else other
  (cutPieces b).foldl (fun s p =>
    s.linkSend l wfRebuild (beBytes 1 phase ++ zeros 3 ++ beBytes 8 (chunk * 2 ^ 20 + p.1) ++ zeros 4 ++ p.2)) s

/-- The kinds of a STATE frame (log entry 14). -/
def stPlot : Nat := 1
def stPlotGone : Nat := 2
def stKey : Nat := 3
def stKeyGone : Nat := 4
def stConfirm : Nat := 7

/-- A key comes back to the device whose plots use it (R481). -/
def stKeyBack : Nat := 8

/-- EPOCH and CHAIN of the last sheaf that the survivor accepted from a returning device (R138; log entry 131). -/
def stChain : Nat := 9

end Sys2Proof.Machine
end

