-- ==== Sys2Proof/Machine/Frames.lean ====
section
/-! DEFINITION. Frames on the Ethernet ports as bytes, from the destination address on and without the FCS: the headers
of Ethernet, IP and UDP (R191), the answers of port hardware (R190), the announcements of addresses (R175), PTP messages
(R199), and the protection of MACsec (R192). The layouts are those of the standards that the rules name; what those leave
to a sender is in log entry 136. -/

namespace Sys2Proof.Machine

open Sys2Proof

/-! ## Addresses -/

/-- The fused MAC address of a port (R189). -/
def State.macOf (s : State) (p : Nat) : Nat := (s.fuses.mac.lookup p).getD 0

/-- The 16 bytes of an IPv4 address in its mapped form (R225). -/
def mapped (a : List Byte) : List Byte := zeros 10 ++ [0xFF, 0xFF] ++ a

/-- The IPv4 address that 16 bytes map, 4 bytes as they are. -/
def unmapped (a : List Byte) : List Byte := if a.take 12 = mapped [] then a.drop 12 else a

/-- The address of a plot from which it answers a peer: its first of the peer's family (log entry 136). -/
def State.sourceFor (s : State) (plot : Nat) (dst : List Byte) : List Byte :=
  match s.plots.plots.lookup plot with
  | some x => (if dst.length = 4 then x.desc.addr4 else x.desc.addr6).head?.getD (zeros dst.length)
  | none => zeros dst.length

/-- The station that a frame for an IP address goes to: the group's for multicast (RFC 1112, RFC 2464), else what neighbour
resolution has found, which no row reports. -/
def stationFor (p : Nat) (dst : List Byte) : Nat :=
  if dst.length = 4 then
    if beAt dst 0 1 / 16 = 0xE then 0x01005E000000 + beAt dst 0 4 % 2 ^ 23 else Config.station p dst % 2 ^ 48
  else if beAt dst 0 1 = 0xFF then 0x333300000000 + beAt dst 12 4
  else Config.station p dst % 2 ^ 48

/-! ## Checksums -/

/-- The one's complement sum of a string in 16-bit words. -/
def onesSum : List Byte → Nat
  | a :: b :: l => a.toNat * 256 + b.toNat + onesSum l
  | [a] => a.toNat * 256
  | [] => 0

def fold16 (n : Nat) : Nat :=
  let n := n % 65536 + n / 65536
  n % 65536 + n / 65536

/-- The Internet checksum of a sum. -/
def checksum (sum : Nat) : Nat := 0xFFFF - fold16 (fold16 sum)

/-- The sum over a pseudo-header and the upper layer's bytes. -/
def pseudoSum (src dst : List Byte) (proto : Nat) (b : List Byte) : Nat :=
  onesSum src + onesSum dst + proto + b.length % 65536 + b.length / 65536 + onesSum b

/-! ## IP and what it carries -/

/-- The Ethertype of an address's family. -/
def ipType (dst : List Byte) : Nat := if dst.length = 4 then 0x0800 else 0x86DD

/-- An IP packet without options or fragments (R191). -/
def ipBytes (src dst : List Byte) (proto hops : Nat) (b : List Byte) : List Byte :=
  if dst.length = 4 then
    let h := beBytes 2 0x4500 ++ beBytes 2 (20 + b.length) ++ beBytes 2 0 ++ beBytes 2 0x4000 ++ beBytes 1 hops ++ beBytes 1 proto
    h ++ beBytes 2 (checksum (onesSum (h ++ src ++ dst))) ++ src ++ dst ++ b
  else beBytes 4 0x60000000 ++ beBytes 2 b.length ++ beBytes 1 proto ++ beBytes 1 hops ++ src ++ dst ++ b

/-- A UDP datagram: it carries a checksum, and its hop limit or TTL is 64 (R191). -/
def udpBytes (src dst : List Byte) (sport dport : Nat) (b : List Byte) : List Byte :=
  let h := beBytes 2 sport ++ beBytes 2 dport ++ beBytes 2 (8 + b.length)
  let c := checksum (pseudoSum src dst 17 (h ++ zeros 2 ++ b))
  ipBytes src dst 17 64 (h ++ beBytes 2 (if c = 0 then 0xFFFF else c) ++ b)

/-- An ICMP or ICMPv6 message: type, code 0, checksum, rest. -/
def icmpBytes (src dst : List Byte) (type hops : Nat) (rest : List Byte) : List Byte :=
  let h := beBytes 2 (type * 256)
  let m := h ++ zeros 2 ++ rest
  if dst.length = 4 then ipBytes src dst 1 hops (h ++ beBytes 2 (checksum (onesSum m)) ++ rest)
  else ipBytes src dst 58 hops (h ++ beBytes 2 (checksum (pseudoSum src dst 58 m)) ++ rest)

/-- A Neighbor Advertisement of an address (RFC 4861): the flags R, S and O, the target, the port's address. -/
def advert (mac flags : Nat) (addr dst : List Byte) : List Byte :=
  icmpBytes addr dst 136 255 (beBytes 4 (flags * 2 ^ 29) ++ addr ++ [2, 1] ++ beBytes 6 mac)

/-- An ARP packet for Ethernet and IPv4 (RFC 826). -/
def arpBytes (op mac : Nat) (sender : List Byte) (to_ : Nat) (target : List Byte) : List Byte :=
  beBytes 2 1 ++ beBytes 2 0x0800 ++ [6, 4] ++ beBytes 2 op ++ beBytes 6 mac ++ sender ++ beBytes 6 to_ ++ target

/-- All nodes of a link. -/
def allNodes : List Byte := beBytes 16 (0xFF02 * 2 ^ 112 + 1)

/-- Where PTP event messages go over each transport: Ethernet, IPv4, IPv6 (IEEE 1588, R199). -/
def ptpGroup (transport : Nat) : List Byte :=
  if transport = 4 then [224, 0, 1, 129] else beBytes 16 (0xFF0E * 2 ^ 112 + 0x181)

/-! ## Frames -/

/-- Destination, Ethertype and payload of what a port sends; none for what has no bytes in this model. -/
def State.frameParts (s : State) (p : Nat) : Out → Option (Nat × Nat × List Byte)
  | .swath _ _ peer b =>
    let dst := unmapped peer.addr
    some (stationFor p dst, ipType dst, udpBytes (s.sourceFor (beAt b 2 2 % 4096) dst) dst (s.fld Reg.ETH_SWATH 15 0) peer.port b)
  | .answer _ _ kind addr asker station rest =>
    some (if kind = 0x0806 then (station, 0x0806, arpBytes 2 (s.macOf p) addr station asker)
      else if kind = 135 then (station, 0x86DD, advert (s.macOf p) 3 addr asker)
      else (station, ipType asker, icmpBytes addr asker (if kind = 8 then 0 else 129) 64 rest))
  | .announce _ _ addr =>
    some (if addr.length = 4 then (2 ^ 48 - 1, 0x0806, arpBytes 1 (s.macOf p) addr 0 addr)
      else (stationFor p allNodes, 0x86DD, advert (s.macOf p) 1 addr allNodes))
  | .ptp _ transport b =>
    let dst := ptpGroup transport
    some (if transport = 0 then (0x011B19000000, 0x88F7, b)
      else (stationFor p dst, ipType dst, udpBytes (s.sourceFor 0 dst) dst 319 319 b))
  | _ => none

/-- A frame brought to the shortest length that Ethernet allows before its FCS. -/
def padFrame (b : List Byte) : List Byte := b ++ zeros (60 - b.length)

/-- A frame under MACsec (R192): SecTAG with the SCI, confidentiality from offset 0 under GCM-AES-XPN-256, ICV of 16
bytes. -/
def Sa.protect (a : Sa) (key addrs body : List Byte) : List Byte :=
  let tag := beBytes 2 0x88E5 ++ beBytes 1 (0x2C + a.an) ++ beBytes 1 (if body.length < 48 then body.length else 0) ++
    beBytes 4 (a.pn % 2 ^ 32) ++ beBytes 8 a.sci
  let iv := xorBytes (fitTo 12 a.salt) (beBytes 4 a.ssci ++ beBytes 8 a.pn)
  let c := gcmEnc key iv (addrs ++ tag) body
  addrs ++ tag ++ c.1 ++ c.2

/-- What a port puts on its link: the bytes of a frame at a priority, under an SA where MACsec protects it. -/
def State.onLink (s : State) (p pcp : Nat) (sa : Option Sa) (o : Out) : Out :=
  match s.frameParts p o with
  | none => o
  | some (dst, type, payload) =>
    let addrs := beBytes 6 dst ++ beBytes 6 (s.macOf p)
    let body := beBytes 2 0x8100 ++ beBytes 2 (pcp * 2 ^ 13) ++ beBytes 2 type ++ payload
    match sa with
    | some a => .ethernet p (padFrame (a.protect (((s.cipher.slots.lookup a.slot).map (·.key)).getD []) addrs body))
    | none => .ethernet p (padFrame (addrs ++ body))

end Sys2Proof.Machine
end

