-- ==== Sys2Proof/Machine/Sha.lean ====
section
/-! DEFINITION. SHA-384, SHA-512 and HMAC (FIPS 180-4 and FIPS 198-1, which R468 names), and the key
derivation of R482. -/

namespace Sys2Proof.Machine

open Sys2Proof

def shaK0 : List DWord :=
  [0x428A2F98D728AE22, 0x7137449123EF65CD, 0xB5C0FBCFEC4D3B2F, 0xE9B5DBA58189DBBC,
   0x3956C25BF348B538, 0x59F111F1B605D019, 0x923F82A4AF194F9B, 0xAB1C5ED5DA6D8118,
   0xD807AA98A3030242, 0x12835B0145706FBE, 0x243185BE4EE4B28C, 0x550C7DC3D5FFB4E2,
   0x72BE5D74F27B896F, 0x80DEB1FE3B1696B1, 0x9BDC06A725C71235, 0xC19BF174CF692694,
   0xE49B69C19EF14AD2, 0xEFBE4786384F25E3, 0x0FC19DC68B8CD5B5, 0x240CA1CC77AC9C65]

def shaK1 : List DWord :=
  [0x2DE92C6F592B0275, 0x4A7484AA6EA6E483, 0x5CB0A9DCBD41FBD4, 0x76F988DA831153B5,
   0x983E5152EE66DFAB, 0xA831C66D2DB43210, 0xB00327C898FB213F, 0xBF597FC7BEEF0EE4,
   0xC6E00BF33DA88FC2, 0xD5A79147930AA725, 0x06CA6351E003826F, 0x142929670A0E6E70,
   0x27B70A8546D22FFC, 0x2E1B21385C26C926, 0x4D2C6DFC5AC42AED, 0x53380D139D95B3DF,
   0x650A73548BAF63DE, 0x766A0ABB3C77B2A8, 0x81C2C92E47EDAEE6, 0x92722C851482353B]

def shaK2 : List DWord :=
  [0xA2BFE8A14CF10364, 0xA81A664BBC423001, 0xC24B8B70D0F89791, 0xC76C51A30654BE30,
   0xD192E819D6EF5218, 0xD69906245565A910, 0xF40E35855771202A, 0x106AA07032BBD1B8,
   0x19A4C116B8D2D0C8, 0x1E376C085141AB53, 0x2748774CDF8EEB99, 0x34B0BCB5E19B48A8,
   0x391C0CB3C5C95A63, 0x4ED8AA4AE3418ACB, 0x5B9CCA4F7763E373, 0x682E6FF3D6B2B8A3,
   0x748F82EE5DEFB2FC, 0x78A5636F43172F60, 0x84C87814A1F0AB72, 0x8CC702081A6439EC]

def shaK3 : List DWord :=
  [0x90BEFFFA23631E28, 0xA4506CEBDE82BDE9, 0xBEF9A3F7B2C67915, 0xC67178F2E372532B,
   0xCA273ECEEA26619C, 0xD186B8C721C0C207, 0xEADA7DD6CDE0EB1E, 0xF57D4F7FEE6ED178,
   0x06F067AA72176FBA, 0x0A637DC5A2C898A6, 0x113F9804BEF90DAE, 0x1B710B35131C471B,
   0x28DB77F523047D84, 0x32CAAB7B40C72493, 0x3C9EBE0A15C9BEBC, 0x431D67C49C100D4C,
   0x4CC5D4BECB3E42B6, 0x597F299CFC657E2A, 0x5FCB6FAB3AD6FAEC, 0x6C44198C4A475817]

/-- The round constants of FIPS 180-4. -/
def shaK : List DWord := shaK0 ++ shaK1 ++ shaK2 ++ shaK3

/-- The first hash value of SHA-512. -/
def sha512Start : List DWord :=
  [0x6A09E667F3BCC908, 0xBB67AE8584CAA73B, 0x3C6EF372FE94F82B, 0xA54FF53A5F1D36F1,
   0x510E527FADE682D1, 0x9B05688C2B3E6C1F, 0x1F83D9ABFB41BD6B, 0x5BE0CD19137E2179]

/-- The first hash value of SHA-384. -/
def sha384Start : List DWord :=
  [0xCBBB9D5DC1059ED8, 0x629A292A367CD507, 0x9159015A3070DD17, 0x152FECD8F70E5939,
   0x67332667FFC00B31, 0x8EB44A8768581511, 0xDB0C2E0D64F98FA7, 0x47B5481DBEFA4FA4]

/-- The eight working words of a hash. -/
structure ShaWords where
  a : DWord
  b : DWord
  c : DWord
  d : DWord
  e : DWord
  f : DWord
  g : DWord
  h : DWord
  deriving DecidableEq, Repr

def ShaWords.ofList (l : List DWord) : ShaWords :=
  { a := l.getD 0 0, b := l.getD 1 0, c := l.getD 2 0, d := l.getD 3 0
    e := l.getD 4 0, f := l.getD 5 0, g := l.getD 6 0, h := l.getD 7 0 }

def ShaWords.toList (w : ShaWords) : List DWord := [w.a, w.b, w.c, w.d, w.e, w.f, w.g, w.h]

/-- The functions of a round. -/
def shaChoose (x y z : DWord) : DWord := (x &&& y) ^^^ (~~~x &&& z)
def shaMajority (x y z : DWord) : DWord := (x &&& y) ^^^ (x &&& z) ^^^ (y &&& z)
def shaBig0 (x : DWord) : DWord := x.rotateRight 28 ^^^ x.rotateRight 34 ^^^ x.rotateRight 39
def shaBig1 (x : DWord) : DWord := x.rotateRight 14 ^^^ x.rotateRight 18 ^^^ x.rotateRight 41
def shaSmall0 (x : DWord) : DWord := x.rotateRight 1 ^^^ x.rotateRight 8 ^^^ (x >>> 7)
def shaSmall1 (x : DWord) : DWord := x.rotateRight 19 ^^^ x.rotateRight 61 ^^^ (x >>> 6)

/-- One round with its constant and its message word. -/
def ShaWords.round (s : ShaWords) (k w : DWord) : ShaWords :=
  let t1 := s.h + shaBig1 s.e + shaChoose s.e s.f s.g + k + w
  let t2 := shaBig0 s.a + shaMajority s.a s.b s.c
  { a := t1 + t2, b := s.a, c := s.b, d := s.c, e := s.d + t1, f := s.e, g := s.f, h := s.g }

/-- The rounds over the constants, with the sixteen message words in hand. -/
def shaRounds : List DWord → List DWord → ShaWords → ShaWords
  | [], _, s => s
  | k :: ks, w, s =>
    let w0 := w.getD 0 0
    let next := shaSmall1 (w.getD 14 0) + w.getD 9 0 + shaSmall0 (w.getD 1 0) + w0
    shaRounds ks (w.drop 1 ++ [next]) (s.round k w0)

/-- A 128-byte block into the hash value. -/
def shaBlock (hv : List DWord) (blk : List Byte) : List DWord :=
  let w := (List.range 16).map fun i => BitVec.ofNat 64 (beAt blk (8 * i) 8)
  let s := (shaRounds shaK w (ShaWords.ofList hv)).toList
  List.zipWith (· + ·) hv s

/-- Blocks one after another. -/
def shaBlocks : Nat → List DWord → List Byte → List DWord
  | 0, hv, _ => hv
  | n + 1, hv, l => shaBlocks n (shaBlock hv (l.take 128)) (l.drop 128)

/-- A message padded to whole blocks. -/
def shaPad (m : List Byte) : List Byte :=
  let z := (239 - m.length % 128) % 128
  m ++ [0x80] ++ zeros z ++ beBytes 16 (8 * m.length)

/-- A hash of the family from its first value. -/
def shaOf (start : List DWord) (m : List Byte) : List Byte :=
  let p := shaPad m
  (shaBlocks (p.length / 128) start p).flatMap fun w => beBytes 8 w.toNat

def sha512 (m : List Byte) : List Byte := shaOf sha512Start m
def sha384 (m : List Byte) : List Byte := (shaOf sha384Start m).take 48

/-- HMAC over a hash of the family, whose block is 128 bytes. -/
def hmacOf (hash : List Byte → List Byte) (key m : List Byte) : List Byte :=
  let k := fitTo 128 (if 128 < key.length then hash key else key)
  hash (k.map (· ^^^ 0x5C) ++ hash (k.map (· ^^^ 0x36) ++ m))

def hmac384 (key m : List Byte) : List Byte := hmacOf sha384 key m
def hmac512 (key m : List Byte) : List Byte := hmacOf sha512 key m

/-- The derivation of R482: L bits under a label and a context. -/
def kdf (key label context : List Byte) (bits : Nat) : List Byte :=
  ((List.range ((bits + 383) / 384)).flatMap fun i =>
    hmac384 key (beBytes 4 (i + 1) ++ label ++ [0x00] ++ context ++ beBytes 4 bits)).take (bits / 8)

/-- ASCII codes as bytes. -/
def ascii (s : String) : List Byte := s.toList.map fun c => BitVec.ofNat 8 c.toNat

end Sys2Proof.Machine
end

