-- ==== Sys2Proof/Machine/Wire.lean ====
section
/-! DEFINITION. What the ports send (R192 to R196, R200, R201): key invocations of MACsec, held frames of
a paused priority, Swath packets of a session; device safe state (R588) with its DOWN packets (R220). -/

namespace Sys2Proof.Machine

open Sys2Proof

/-! ## Key slots (R477, R485, R486) -/

/-- An occupied key slot. -/
def State.keySlot (s : State) (n : Nat) : Option KeySlot := s.cipher.slots.lookup n

/-- A slot that has reached its limit, or is EMPTY, serves no more invocations (R486, R488). -/
def State.slotSpent (s : State) (n : Nat) : Bool :=
  match s.keySlot n with
  | some k => decide (k.limit ≤ k.count)
  | none => true

/-- A count has reached three quarters of its limit (R486). -/
def KeySlot.threeQuarters (k : KeySlot) : Bool := decide (3 * k.limit ≤ 4 * k.count)

/-- The two device IDs of a twin, the lower first (R140). -/
def State.twinIds (s : State) : List Byte :=
  beBytes 2 (min s.devId s.partnerId) ++ beBytes 2 (max s.devId s.partnerId)

/-- The wrapping key of keys mirrored in a twin (R481, R483). -/
def State.twinKek (s : State) : Option (List Byte) :=
  (s.keySlot 8).map fun k => kdf k.key (ascii "twin-keys") s.twinIds 256

/-- A key as it is wrapped for the partner (R481; layout log entry 14): slot, plot, KIND, USAGE, LIMIT, COUNT,
length, key. -/
def keyRecord (slot plot : Nat) (k : KeySlot) : List Byte :=
  beBytes 2 slot ++ beBytes 2 plot ++ beBytes 1 k.kind ++ beBytes 1 k.usage ++ beBytes 8 k.limit ++ beBytes 8 k.count ++
  beBytes 2 k.key.length ++ k.key

/-- The key that a record spells, its COUNT raised by 2^16 (R481). -/
def keyOfRecord (b : List Byte) : KeySlot :=
  { kind := beAt b 4 1, usage := beAt b 5 1, origin := true, gen := 0, limit := beAt b 6 8, count := beAt b 14 8 + 65536
    key := slice b 24 (beAt b 22 2), near := false }

/-- A blob kept for the partner, unwrapped. -/
def State.openBlob (s : State) (b : List Byte) : Option (List Byte) := s.twinKek.bind fun k => keyUnwrap k b

/-- The plot whose key in a slot is mirrored (R481): an own plot to which the slot's group is allotted, or 0 for
the storage key. -/
def State.mirroredFor (s : State) (n : Nat) : Option Nat :=
  let w := s.reg (Reg.CPH_ALLOT + 4 * (n / 16))
  let p := bits w 11 0
  if n < 256 then none
  else if w.getLsbD 31 ∧ p ≠ 0 ∧ (s.plot p).any (·.own) then some p
  else if s.fld Reg.FRW_KEYSLOT 11 0 = n then some 0
  else none

/-- A key wrapped as that of a slot leaves for the partner (R481). -/
def State.sendKeyOf (s : State) (tag n plot : Nat) (k : KeySlot) : State :=
  match s.twinKek with
  | some kek => s.mirrorSend wfState (beBytes 1 stKey ++ beBytes 8 tag ++ beBytes 4 (plot * 65536 + n) ++ keyWrap kek (keyRecord n plot k))
  | none => s

/-- The wrapped key of a slot leaves for the partner (R481). -/
def State.sendKey (s : State) (tag n plot : Nat) : State :=
  match s.keySlot n with
  | some k => s.sendKeyOf tag n plot k
  | none => s

/-- The key of a slot is mirrored where the partner needs it (R481). -/
def State.mirrorKey (s : State) (n : Nat) : State :=
  if !s.paired then s
  else match s.mirroredFor n with
    | some p => s.sendKey 0 n p
    | none => s

/-- One invocation counted on a slot; the first at three quarters of the limit sets NEAR (R485,
R486); each 2^16 the count is mirrored again (R481). The answer says whether it was the first at three
quarters. -/
def State.chargeSlot (s : State) (n : Nat) : State × Bool :=
  match s.keySlot n with
  | none => (s, false)
  | some k =>
    let k' := { k with count := k.count + 1 }
    let near := k'.threeQuarters && !k.near
    let s := s.mapCipher fun c => { c with slots := sput c.slots n { k' with near := k.near || near } }
    let s := if k'.count % 65536 = 0 then s.mirrorKey n else s
    if near then ((s.setBit Reg.CPH_ERR 3 true).glean Src.vault 0 (detail 3 noPlot n), true) else (s, false)

/-! ## Ports -/

/-- The offset of a register of a port (R635). -/
def portReg (base p : Nat) : Nat := base + 0x400 * p

/-- A port is enabled with its link up. -/
def State.portUp (s : State) (p : Nat) : Bool := s.bit Reg.ETH_CTRL p && s.bit (portReg Reg.ETH_PSTAT p) 0

/-- PTP is enabled on a port. -/
def State.ptpOn (s : State) (p : Nat) : Bool := s.bit (portReg Reg.ETH_PCFG p) 24

/-- The firmware steers PTP time: a new ETH_PTPOFF, whose value no rule gives (R199; log entry 138). -/
def State.steer (s : State) : State := s.drawn.setReg64 Reg.ETH_PTPOFF_LO (s.free % 2 ^ 64)

/-- The transmit SA in use on a port: the first installed whose slot is not spent (R194; log entry 8). -/
def State.txSa (s : State) (p : Nat) : Option Sa :=
  s.eth.sas.find? fun a => a.port == p && !a.rx && !s.slotSpent a.slot

/-- An SA of a port is past three quarters of its limit (R194, R221). -/
def State.saNear (s : State) (p : Nat) : Bool :=
  s.eth.sas.any fun a => a.port == p && (s.keySlot a.slot).any KeySlot.threeQuarters

/-- A port has a transmit SA, and none whose slot is not spent (R194). -/
def State.saSpent (s : State) (p : Nat) : Bool := (s.eth.sas.any fun a => a.port == p && !a.rx) && (s.txSa p).isNone

/-- An invocation of an SA of a port (R194): an event and SA_REKEY at three quarters of its limit, SA_SPENT where the last
transmit SA is spent. -/
def State.chargeSa (s : State) (p : Nat) (a : Sa) : State :=
  let r := s.chargeSlot a.slot
  let s := if r.2 then (r.1.setBit Reg.ETH_ERR 5 true).glean (Src.port p) 0 (detail 5 noPlot 0) else r.1
  if s.saSpent p then s.setBit Reg.ETH_ERR 6 true else s

/-- A frame leaves a port, under MACsec where that is on; without an SA none does (R192, R194). -/
def State.putFrame (s : State) (p pcp : Nat) (o : Out) : State :=
  if s.bit (portReg Reg.ETH_PCFG p) 8 then
    match s.txSa p with
    | none => if s.saSpent p then s.setBit Reg.ETH_ERR 6 true else s
    | some a =>
      let o := s.onLink p pcp (some a) o
      let s := s.mapEth fun e => { e with sas := e.sas.map fun x => if x = a then { x with pn := x.pn + 1 } else x }
      (s.chargeSa p a).emit o
  else s.emit (s.onLink p pcp none o)

/-- A frame is handed to the MAC of a port: dropped where the port has no link or the device has sent its
DOWN packets (R220), held while its priority is paused (R195), else sent. -/
def State.sendFrame (s : State) (p pcp : Nat) (o : Out) : State :=
  if s.eth.down || !s.portUp p then s
  else if s.bit (portReg Reg.ETH_PCFG p) (16 + pcp) && s.bit (portReg Reg.ETH_PSTAT p) (16 + pcp) then
    s.mapPort p fun x => { x with txq := x.txq ++ [(pcp, o)] }
  else s.putFrame p pcp o

/-- The frames that wait for a priority leave once its pause has ended (R195). -/
def State.flushPaused (s : State) (p pcp : Nat) : State :=
  let q := (s.port p).txq
  let s := s.mapPort p fun x => { x with txq := q.filter fun f => f.1 ≠ pcp }
  (q.filter fun f => f.1 = pcp).foldl (fun s f => s.putFrame p f.1 f.2) s

/-! ## Service of plots -/

/-- OWN and PART of TWN_STATUS (R184, R185). -/
def State.own (s : State) : Nat := s.fld Reg.TWN_STATUS 31 28
def State.part (s : State) : Nat := s.fld Reg.TWN_STATUS 27 24

/-- A plot is fenced: its packets are discarded without reply. That holds for the own plots while they are fenced (R169),
and in every other state of OWN but HOLDING, in which no own plot is served (R178, R182, R184). The Headland never is
(R159). -/
def State.fenced (s : State) (p : Nat) : Bool :=
  match s.plot p with
  | some x => p != 0 && x.own && s.own != 1
  | none => false

/-- A plot is served on this device: the Headland, an own plot in HOLDING, a partner plot adopted while PART is
SERVING or SUPPLY (R177, R182, R184, R185). -/
def State.served (s : State) (p : Nat) : Bool :=
  match s.plot p with
  | some x => p == 0 || (if x.own then s.own == 1 else s.part == 7 || s.part == 8)
  | none => false

/-! ## Swath packets -/

/-- TYPE of R201. -/
def tyAccept : Nat := 2
def tyReply : Nat := 4
def tyEvent : Nat := 5
def tyAck : Nat := 6
def tyReset : Nat := 8
def tyDown : Nat := 9

/-- A Swath datagram (R200). -/
def swathBytes (type plot number token psn apsn window : Nat) (payload : List Byte) : List Byte :=
  beBytes 1 (0x10 + type) ++ zeros 1 ++ beBytes 2 plot ++ beBytes 2 number ++ beBytes 2 payload.length ++
  beBytes 4 token ++ beBytes 4 psn ++ beBytes 4 apsn ++ beBytes 2 window ++ zeros 2 ++ payload

/-- The free entries of a queue's submission ring (R233). -/
def QPair.freeSlots (q : QPair) : Nat := q.depth - (q.sqHead - q.sqTail)

/-- The non-pending entries of a queue's dedup window of 4,096 (R211, R213). -/
def QPair.nonPending (q : QPair) : Nat := 4096 - (q.dedup.filter fun d => d.done.isNone).length

/-- The WINDOW that the device advertises on a session (R211; on an event session log entry 9). -/
def State.windowOf (s : State) (x : Session) : Nat :=
  if x.event then Config.eventWindow % 65536
  else match s.qpair x.plot x.number with
    | some q => min 64 (min q.freeSlots q.nonPending)
    | none => 0

/-- A session by its reference. -/
def Session.is (x : Session) (r : SessRef) : Bool :=
  x.event == r.event && x.plot == r.plot && x.number == r.number

def Session.ref (x : Session) : SessRef := { event := x.event, plot := x.plot, number := x.number }

def State.session? (s : State) (r : SessRef) : Option Session := s.eth.sessions.find? fun x => x.is r

/-- A session replaced by its new state. -/
def State.setSession (s : State) (x : Session) : State :=
  s.mapEth fun e => { e with sessions := e.sessions.map fun y => if y.is x.ref then x else y }

/-- A session is removed; ETH_SESSIONS is computed on a read. -/
def State.dropSession (s : State) (r : SessRef) : State :=
  s.mapEth fun e => { e with sessions := e.sessions.filter fun y => !(y.is r) }

/-- A packet of a session leaves on the port of its last valid packet, at the priority of its last frame
or a given one (R196, R212). Any packet carries the APSN and the window (R209). The packets of a fenced
plot are discarded (R169, R272). -/
def State.sendPacket (s : State) (x : Session) (pcp type psn : Nat) (payload : List Byte) : State :=
  let w := s.windowOf x
  let s := s.setSession
    { x with rxUnack := 0, limit := (x.expPsn + w) % 2 ^ 32, window := w }
  if s.fenced x.plot then s
  else s.sendFrame x.port pcp (.swath x.port pcp x.peer (swathBytes type x.plot x.number x.token psn x.expPsn w payload))

/-- An ACK on a session (R209). -/
def State.sendAck (s : State) (r : SessRef) : State :=
  match s.session? r with
  | some x => s.sendPacket x x.pcp tyAck x.nextPsn []
  | none => s

/-- a − b modulo 2^32; a is at or after b when this is below 2^31 (R208). -/
def psnDiff (a b : Nat) : Nat := (a + 2 ^ 32 - b % 2 ^ 32) % 2 ^ 32

/-- The session may send its next unsent packet: it lies below the newest APSN of the host plus its window (R208,
R211). -/
def Session.mayPush (x : Session) : Bool := decide (psnDiff x.nextPsn x.hostApsn < x.hostWin)

/-- Sequenced packets that the host's window admits are sent, in order; fuel bounds the loop by the
number of unsent packets (R208, R211, R196). -/
def State.pushSession : Nat → State → SessRef → State
  | 0, s, _ => s
  | fuel + 1, s, r =>
    match s.session? r with
    | none => s
    | some x =>
      match x.unsent with
      | [] => s
      | p :: rest =>
        if x.mayPush then
          let p := { p with psn := x.nextPsn }
          let x' := { x with unsent := rest, unacked := x.unacked ++ [p], nextPsn := (x.nextPsn + 1) % 2 ^ 32
                             rtoFrom := if x.unacked.isEmpty then s.time else x.rtoFrom }
          let pcp := if p.type = tyEvent ∧ p.urgent then s.fld Reg.ETH_QOS 2 0 else x.pcp
          State.pushSession fuel ((s.setSession x').sendPacket x' pcp p.type p.psn p.payload) r
        else s

/-- Everything that a session may send goes out. -/
def State.pushAll (s : State) (r : SessRef) : State :=
  match s.session? r with
  | some x => s.pushSession x.unsent.length r
  | none => s

/-- A sequenced packet joins a session; it takes its PSN when it is first sent (R201, R208). -/
def State.queuePacket (s : State) (r : SessRef) (type : Nat) (payload : List Byte)
    (answers : List (Nat × Nat)) (urgent : Bool) : State :=
  match s.session? r with
  | some x =>
    (s.setSession
      { x with unsent := x.unsent ++ [{ psn := 0, type := type, payload := payload, answers := answers, urgent := urgent }] }).pushAll r
  | none => s

/-! ## Device safe state -/

/-- A frame that holds a DOWN packet. -/
def Out.isDown : Out → Bool
  | .swath _ _ _ b => beAt b 0 1 == 0x10 + tyDown
  | _ => false

/-- DOWN to the peer of every active session of a plot that is not fenced, on its port; of the frames that wait for the end
of a pause, only those of DOWN still leave (R220). -/
def State.sendDowns (s : State) (source : Nat) : State :=
  let payload := beBytes 2 (s.fld Reg.WFT_DEVID 9 0) ++ beBytes 2 source ++ beBytes 8 (s.reg64 Reg.TCK_SEALED_LO)
  let s := s.eth.sessions.foldl (fun s x =>
    if s.fenced x.plot then s else s.sendPacket x x.pcp tyDown x.nextPsn payload) s
  s.mapEth fun e =>
    { e with down := true, ports := e.ports.map fun p => (p.1, { p.2 with txq := p.2.txq.filter fun f => f.2.isDown }) }

/-- Device safe state is entered (R588): SAFE and its cause, no admission, DOWN packets and then no frame,
a SAFE snapshot, DRAM in self-refresh.  Units, seals, Weft, Furrow and the engines look at SAFE. -/
def State.enterSafe (s : State) (source : Nat) : State :=
  if s.safe then s
  else
    let s := s.setBit Reg.GLN_STATUS 31 true
    let s := s.setReg Reg.GLN_SAFECAUSE (BitVec.ofNat 32 (2 ^ 31 + source))
    let s := s.setBit Reg.TCK_STATUS 2 false
    let s := s.sendDowns source
    let s := s.callSnapshot [.safe]
    s.mapPower fun p => { p with refresh := true }

/-- An event reaches the Gleaner (R580), which enters safe state on class 6 even when its record is lost
(R584, R588). -/
def State.event (s : State) (source cls det : Nat) : State :=
  let s := s.glean source cls det
  if cls = 6 then s.enterSafe source else s

/-- An event that sets a bit of an error register, which KIND names (R579). -/
def State.errEvent (s : State) (err bit source cls plot inst : Nat) : State :=
  (s.setBit err bit true).event source cls (detail bit plot inst)

end Sys2Proof.Machine
end

