-- ==== Sys2Proof/Machine/Registers.lean ====
section
/-! DEFINITION. Control registers by their rows (R9 to R14): who may access one, a write by the access
codes, the quantities of 64 bits, the BADW and lock bits of the blocks. -/

namespace Sys2Proof.Machine

open Sys2Proof

/-- An offset lies in a block's range (R635). -/
def inBlock (off : Nat) : Bool := (block? off).isSome

/-- The cluster whose registers an offset lies among. -/
def clusterAt (off : Nat) : Nat := (off - 0x400000) / 0x10000

/-- The error register that holds BADW for an offset (R635). -/
def errRegOf (off : Nat) : Option Nat :=
  if 0x400000 ≤ off ∧ off < 0x4C0000 then some (clsReg Reg.CLS_ERR (clusterAt off))
  else (block? off).bind (·.err)

/-- The register that holds the lock bit for an offset. -/
def lockRegOf (off : Nat) : Option Nat :=
  if 0x400000 ≤ off ∧ off < 0x4C0000 then some (clsReg Reg.CLS_CTRL (clusterAt off))
  else (block? off).bind (·.lock)

/-- The lock bit of an offset's block is set (R12). -/
def State.locked (s : State) (off : Nat) : Bool :=
  match lockRegOf off with
  | some l => s.bit l 31
  | none => false

/-- BADW of an offset's block is set (R14). -/
def State.badw (s : State) (off : Nat) : State :=
  match errRegOf off with
  | some e => s.setBit e 0 true
  | none => s

/-- A value is no reserved encoding of a field (R14). -/
def FieldDef.legalValue (f : FieldDef) (v : Nat) : Bool :=
  f.legal.isEmpty || f.legal.any fun r => decide (r.1 ≤ v ∧ v ≤ r.2)

/-- One field of a write (R12, R14): the word so far and whether BADW is due. -/
def FieldDef.write (f : FieldDef) (locked : Bool) (v : Word) (w : Word × Bool) : Word × Bool :=
  let new := bits v f.hi f.lo
  let old := bits w.1 f.hi f.lo
  match f.acc with
  | .ro | .rs => w
  | .wo => (w.1, w.2 || !f.legalValue new)
  | .w1c => (setBits w.1 f.hi f.lo (old - (old &&& new)), w.2)
  | .lock => (if new = 0 then w.1 else setBits w.1 f.hi f.lo new, w.2)
  | .rw => if f.legalValue new then (setBits w.1 f.hi f.lo new, w.2) else (w.1, true)
  | .rwl =>
    if locked then (w.1, w.2 || new != old)
    else if f.legalValue new then (setBits w.1 f.hi f.lo new, w.2) else (w.1, true)

/-- A row's fields written (R12 to R14). The lock bit that decides is the one before the write. -/
def RegDef.write (r : RegDef) (locked : Bool) (old v : Word) : Word × Bool :=
  r.fields.foldl (fun w f => f.write locked v w) (old, false)

/-- A row is writable at all. -/
def RegDef.writable (r : RegDef) : Bool :=
  r.fields.any fun f => f.acc == .rw || f.acc == .rwl || f.acc == .wo || f.acc == .w1c || f.acc == .lock

/-- A row holds RWL fields. -/
def RegDef.lockable (r : RegDef) : Bool := r.fields.any fun f => f.acc == .rwl

/-- A plain write of a register's fields, with BADW where it is due (R12 to R14). -/
def State.writeFields (s : State) (off : Nat) (v : Word) : State :=
  match regDef? off with
  | none => s.badw off
  | some r =>
    let w := r.write (s.locked off) (s.reg off) v
    let s := s.setReg off w.1
    if w.2 then s.badw off else s

/-- A write of the _LO word of a pair is held (R11). -/
def State.holdLo (s : State) (off : Nat) (v : Word) : State :=
  s.mapCtl fun c => { c with held := sput c.held off v }

/-- The _LO word that a write of _HI combines with: the one held, else the current one (R11). -/
def State.heldLo (s : State) (hi : Nat) : Word := (s.ctl.held.lookup (hi - 4)).getD (s.reg (hi - 4))

/-- A write of the _HI word of a pair: the whole quantity is one field for R14, and while locked a change
of it is ignored (R11, R12). -/
def State.writeHi (s : State) (off : Nat) (v : Word) (mask : Nat) (lockable writable : Bool) : State :=
  let lo := s.heldLo off
  let q := lo.toNat + 2 ^ 32 * v.toNat
  let s := s.mapCtl fun c => { c with held := sdel c.held (off - 4) }
  if !writable then s
  else if lockable && s.locked off then
    (if q = s.reg64 (off - 4) then s else s.badw off)
  else if q &&& mask ≠ 0 then s.badw off
  else s.setReg64 (off - 4) q

/-- A value latched by a read of a first word (R11). -/
def State.latchWord (s : State) (off : Nat) (v : Word) : State :=
  s.mapCtl fun c => { c with latch := sset (fun _ => 0) c.latch off v }

/-- The word that an earlier read of the first word latched, or zero (R11). -/
def State.latched (s : State) (off : Nat) : Word := sget (fun _ => 0) s.ctl.latch off

/-- Words latched one after another from an offset. -/
def State.latchWords (s : State) (off : Nat) : List Word → State
  | [] => s
  | w :: l => (s.latchWord off w).latchWords (off + 4) l

/-- A string as words, least significant byte first. -/
def wordsOf : List Byte → List Word
  | a :: b :: c :: d :: l => BitVec.ofNat 32 (leNat [a, b, c, d]) :: wordsOf l
  | _ => []

/-- The value that a read of a register returned. -/
def State.answerRead (s : State) (v : Word) : State := s.mapCtl fun c => { c with rdata := v }

/-- The registers that a plot executive may read (R634). -/
def readableByExec (off : Nat) : Bool :=
  off == Reg.TCK_EPOCH_LO || off == Reg.TCK_EPOCH_HI || off == Reg.TCK_SEALED_LO || off == Reg.TCK_SEALED_HI ||
  off == Reg.TCK_TICKCNT_LO || off == Reg.TCK_TICKCNT_HI || off == Reg.TCK_TIME_LO || off == Reg.TCK_TIME_HI ||
  off == Reg.JNL_APPLIED_LO || off == Reg.JNL_APPLIED_HI || off == Reg.TWN_STATUS ||
  (decide (Reg.JNL_CHAIN ≤ off) && decide (off < Reg.JNL_CHAIN + 48))

/-- The registers that the Headland may not write, being open to level D only (R186, R385, R432, R452,
R467, R490, R518, R540, R353), and the blocks that R264 keeps from it. -/
def firmwareOnly (off : Nat) : Bool :=
  off == Reg.TWN_CFG || off == Reg.TWN_PAIRGEN || off == Reg.WFT_DEVID ||
  off == Reg.THR_SUBMIT_LO || off == Reg.THR_SUBMIT_HI || off == Reg.CPH_SUBMIT_LO || off == Reg.CPH_SUBMIT_HI ||
  off == Reg.FRW_SUBMIT_LO || off == Reg.FRW_SUBMIT_HI ||
  off == Reg.WRP_RTIDX || off == Reg.WRP_RTDATA || off == Reg.WRP_RTCTRL ||
  (decide (Reg.CPH_LOCK ≤ off) && decide (off < Reg.CPH_LOCK + 64)) ||
  (decide (0x8C0000 ≤ off) && decide (off < 0x900000)) ||
  (decide (0x400000 ≤ off) && decide (off < 0x4C0000) &&
    (let e := (off - 0x400000) % 0x10000
     decide (0x8000 ≤ e ∧ e < 0x8200) || (decide (0x9000 ≤ e ∧ e < 0x9200) && e % 0x40 == 4) ||
     e == 0x100 || e == 0x120))

/-- A master may write a register (R9, R264, R634). -/
def mayWrite (m : Master) (off : Nat) : Bool :=
  match m with
  | .firmware | .mechanism | .debugger => true
  | .headland => !firmwareOnly off
  | .executive => false

/-- A master may read a register; the others read zero (R634). -/
def mayRead (m : Master) (off : Nat) : Bool :=
  match m with
  | .executive => readableByExec off
  | _ => true

/-- ACCESS of the debug port (R567): 0 OPEN, 1 CLOSED, 2 AUTHORISED, 3 DEAD. -/
def State.portAccess (s : State) : Nat :=
  if s.fuses.lifecycle ≤ 1 then 0
  else if 4 ≤ s.fuses.lifecycle then 3
  else if s.evral.scope.isSome then 2 else 1

/-- The scope in force (R568). -/
def State.portScope (s : State) : Nat :=
  if s.portAccess = 0 then 7 else if s.portAccess = 2 then s.evral.scope.getD 0 else 0

/-- An offset lies in the DBG block. -/
def inDbg (off : Nat) : Bool := decide (Reg.DBG_ID ≤ off) && decide (off < 0x900000)

/-- Registers that the port's memory access never reaches: LCT, DBG, TWN_CFG, TWN_PAIRGEN (R574). -/
def mdataBarred (off : Nat) : Bool :=
  off == Reg.TWN_CFG || off == Reg.TWN_PAIRGEN || (decide (0x8C0000 ≤ off) && decide (off < 0x900000))

/-- The debug port reaches the registers of the other blocks through its memory access alone, with scope MEM (R574). -/
def State.portMay (s : State) (m : Master) (off : Nat) : Bool :=
  m != .debugger || inDbg off || (s.portScope.testBit 1 && !mdataBarred off)

/-- A master's write or read of a register takes place (R9, R12, R574, R634). -/
def State.writesReg (s : State) (m : Master) (off : Nat) : Bool := mayWrite m off && s.portMay m off
def State.readsReg (s : State) (m : Master) (off : Nat) : Bool := mayRead m off && s.portMay m off

end Sys2Proof.Machine
end

