-- ==== Sys2Proof/Machine/FaultLog.lean ====
section
/-! DEFINITION. The commands of the Gleaner and the Almanac (chapter 21). -/

namespace Sys2Proof.Machine

open Sys2Proof

/-- The answer of a command that goes on. -/
abbrev Ans := Host.Outcome State Fault Refusal

/-- An event reaches the Gleaner: its record, its actions, safe state on class 6 (R578 to R588). -/
def execGleanerEvent (source cls det : Nat) (s : State) : Ans :=
  .next (s.event (source % 512) cls det)

/-- A parity error in the Gleaner: SELF, FAULT_N low, safe state with source 0x0B7, and a record only
while the store is intact (R591). -/
def State.gleanSelf (s : State) (storeIntact : Bool) : State :=
  let s := (s.setBit Reg.GLN_STATUS 30 true).setBit Reg.GLN_ERR 2 true
  let s := if storeIntact then s.glean Src.gleaner 6 (detail 2 noPlot 0) else s
  s.enterSafe Src.gleaner

def execGleanerSelfParity (storeIntact : Bool) (s : State) : Ans := .next (s.gleanSelf storeIntact)

/-- A write of GLN_CLEAR clears by SEQ (R586). -/
def execGlnClear (m : Master) (v : Word) (s : State) : Ans :=
  .next (if s.writesReg m Reg.GLN_CLEAR then (s.gleanClear v.toNat).1 else s)

/-- A read of GLN_REC0 latches the record that GLN_RECSEL names, or zeros, and returns its first word
(R604). -/
def State.readRec0 (s : State) : State :=
  let ws := wordsOf s.selectedRecord
  (s.latchWords Reg.GLN_REC ws).answerRead (ws.headD 0)

def execGlnRec0Read (m : Master) (s : State) : Ans :=
  .next (if s.readsReg m Reg.GLN_REC then s.readRec0 else s.answerRead 0)

/-- Samples are gathered every 20 µs before the first tick (R593); after it they are gathered at the
tick. -/
def execAlmanacEarlyGather (s : State) : Ans :=
  .next (if s.reg64 Reg.TCK_TICKCNT_LO = 0 then s.gather else s)

/-- ALM_INTERVAL.SECONDS have passed since the previous snapshot began (R597). -/
def execAlmanacInterval (t : Nat) (s : State) : Ans :=
  let s := s.advance t
  .next (if s.almanac.start + (s.almCfg Reg.ALM_INTERVAL).toNat * 1000000000 ≤ s.time then
    s.callSnapshot [.interval] else s)

/-- A write of 1 to ALM_CTRL.SNAP calls for a snapshot (R597). -/
def execAlmanacSnap (m : Master) (s : State) : Ans :=
  .next (if s.writesReg m Reg.ALM_CTRL then s.callSnapshot [.manual] else s)

/-- The write of a snapshot ends (R600, R601): the slots of its areas hold it, broken where its
verification failed twice, ALM_HEAD names it, and a pending snapshot is taken (R597). -/
def State.snapshotDone (s : State) (permFails circFails : Nat) : State :=
  match s.almanac.writing with
  | none => s
  | some w =>
    let bad := decide (2 ≤ circFails) || (decide (w.seq ≤ 4096) && decide (2 ≤ permFails))
    let noise := s.free
    let s := if bad then s.drawn else s
    let s := s.mapAlmanac fun a =>
      { a with writing := none
               circ := sput a.circ ((w.seq - 1) % 4096) (storedImage w.image circFails noise)
               perm := if w.seq ≤ 4096 then sput a.perm (w.seq - 1) (storedImage w.image permFails noise) else a.perm }
    let s := s.setReg64 Reg.ALM_HEAD_LO w.seq
    let s := if bad then s.errEvent Reg.ALM_ERR 1 Src.almanac 2 noPlot 0 else s
    if s.almanac.triggers.isEmpty then s
    else s.takeSnapshot s.almanac.triggers (decide (2 ≤ s.almanac.triggers.length))

def execSnapshotWriteDone (permFails circFails : Nat) (s : State) : Ans :=
  .next (s.snapshotDone permFails circFails)

/-- A read of ALM_WINDOW0 loads the part that ALM_CURSOR names and returns its first word (R602). -/
def State.readWindow0 (s : State) : State :=
  let p := s.almPart
  (s.mapAlmanac fun a => { a with window := p }).answerRead (BitVec.ofNat 32 (leAt p 0 4))

def execAlmWindow0Read (m : Master) (s : State) : Ans :=
  .next (if s.readsReg m Reg.ALM_WINDOW then s.readWindow0 else s.answerRead 0)

/-- A read of ALM_WINDOW63 returns the last word of the loaded part and advances the cursor (R602). -/
def State.readWindow63 (s : State) : State :=
  (s.answerRead (BitVec.ofNat 32 (leAt s.almanac.window 252 4))).almAdvance

def execAlmWindow63Read (m : Master) (s : State) : Ans :=
  .next (if s.readsReg m (Reg.ALM_WINDOW + 252) then s.readWindow63 else s.answerRead 0)

end Sys2Proof.Machine
end

