-- ==== Sys2Proof/Machine/Stakes.lean ====
section
/-! DEFINITION. The stake table and the stake caches (chapter 3): the hash and the probe window, grants, waits
and wounds at a slice, releases, and what a stake cache sends. -/

namespace Sys2Proof.Machine

open Sys2Proof

/-! ## Hash, window, entries -/

/-- The hash of a record key in a namespace (R93). -/
def State.stakeHash (s : State) (ns key : Nat) : Nat :=
  ((crc32c (s.reg Reg.STK_HASHSEED) (leBytes 8 key ++ leBytes 2 ns)) ^^^ 0xFFFFFFFF#32).toNat

/-- The slice and the home bucket of a record (R93). -/
def State.sliceOf (s : State) (ns key : Nat) : Nat := s.stakeHash ns key % 16
def State.homeBucket (s : State) (ns key : Nat) : Nat := s.stakeHash ns key / 16 % 2 ^ 19

/-- The buckets of a probe window, from the home bucket upward (R94). -/
def State.window (s : State) (ns key : Nat) : List Nat :=
  (List.range (s.fld Reg.STK_CFG 3 0)).map fun i => (s.homeBucket ns key + i) % 2 ^ 19

/-- An entry is of a record. -/
def StakeEntry.names (e : StakeEntry) (slice ns key : Nat) : Bool :=
  e.slice == slice && e.ns == ns && e.key == key

/-- The entry of a record that its window shows (R94). -/
def State.stakeEntry (s : State) (slice ns key : Nat) : Option StakeEntry :=
  let w := s.window ns key
  s.stakes.entries.find? fun e => e.names slice ns key && decide (e.bucket ∈ w)

/-- The lowest FREE way of the lowest bucket of the window that has one (R94). -/
def State.freeWay (s : State) (slice ns key : Nat) : Option (Nat × Nat) :=
  (s.window ns key).findSome? fun b =>
    ((List.range 4).find? fun w =>
      !(s.stakes.entries.any fun e => e.slice == slice && e.bucket == b && e.way == w)).map fun w => (b, w)

/-- The 16 bytes of an entry (R95); `own` is the own device ID. -/
def StakeEntry.bytes (e : StakeEntry) (own : Nat) : List Byte :=
  leBytes 8 e.key ++
  leBytes 8 ((if e.excl then 2 else 1) * 2 ^ 62 + e.ns % 4096 * 2 ^ 50 + e.holders.length % 256 * 2 ^ 42 +
    (if e.waiters.isEmpty then 0 else 2 ^ 41) + (if e.holders.any (fun h => h.dev ≠ own) then 2 ^ 40 else 0) +
    e.hdev % 1024 * 2 ^ 22 + e.hslot % 16384 * 2 ^ 8)

/-- The address of a way (R93). -/
def State.wayAddr (s : State) (slice bucket way : Nat) : Nat :=
  s.reg64 Reg.STK_BASE_LO + slice * 0x2000000 + bucket * 64 + way * 16

/-- An entry written: one without holders becomes FREE (R94, R115), and all of its bits are then zero (log entry 124). -/
def State.putEntry (s : State) (e : StakeEntry) : State :=
  let others := s.stakes.entries.filter fun x => !(x.slice == e.slice && x.bucket == e.bucket && x.way == e.way)
  let addr := s.wayAddr e.slice e.bucket e.way
  if e.holders.isEmpty then
    (s.mapStakes fun k => { k with entries := others }).setBytes addr (zeros 16)
  else
    (s.mapStakes fun k => { k with entries := others ++ [e] }).setBytes addr (e.bytes s.devId)

/-- The offset of a per-slice register (R122). -/
def sliceReg (base slice : Nat) : Nat := base + 0x20 * slice

/-- One operation of a slice (R97). -/
def State.countOp (s : State) (slice : Nat) : State :=
  s.setReg64 (sliceReg Reg.STK_OPS_LO slice) (s.reg64 (sliceReg Reg.STK_OPS_LO slice) + 1)

end Sys2Proof.Machine

namespace Sys2Proof

/-! ## Age -/

/-- A transaction is older than another (R104). -/
def Party.older (a b : Party) : Bool :=
  decide (a.stamp < b.stamp ∨ a.stamp = b.stamp ∧ (a.seq < b.seq ∨ a.seq = b.seq ∧ a.dev < b.dev))

/-- The same transaction: device and slot (R95). -/
def Party.same (a b : Party) : Bool := a.dev == b.dev && a.slot == b.slot

/-- A party as the bytes of a message (log entry 14). -/
def Party.bytes (p : Party) : List Byte := Machine.beBytes 2 p.dev ++ Machine.beBytes 2 p.slot ++ Machine.beBytes 8 p.stamp ++ Machine.beBytes 8 p.seq ++ Machine.beBytes 4 p.attempt

end Sys2Proof

namespace Sys2Proof.Machine

open Sys2Proof

/-! ## Messages of a slice -/

/-- A record as the bytes of a message. -/
def recordBytes (ns key : Nat) : List Byte := beBytes 2 ns ++ beBytes 8 key

/-- The transaction slot in use with a number. -/
def State.tslot (s : State) (n : Nat) : Option TSlot := s.sower.slots.find? fun t => t.slot = n

/-- A wound that came too late is counted at its slice (R107). -/
def State.lateWound (s : State) (slice : Nat) : State :=
  if slice < 16 then s.count (sliceReg Reg.STK_CNT_WOUND slice) 1 else s

/-- A wound sets out for a transaction of this device, for the attempt that holds or awaits the stake; where that attempt
has ended it is discarded (R106, R107). -/
def State.woundLocal (s : State) (slice : Nat) (p : Party) : State :=
  match s.tslot p.slot with
  | some t =>
    if t.stamp = p.stamp ∧ t.seq = p.seq ∧ t.attempt = p.attempt then
      s.mapStakes fun k => { k with wounds := k.wounds ++ [{ slot := p.slot, attempt := t.attempt, slice := slice }] }
    else s.lateWound slice
  | none => s.lateWound slice

/-- A slice sends a wound: to a slot of this device, or to the holder's device (R105, R106). -/
def State.sendWound (s : State) (slice ns key : Nat) (p : Party) : State :=
  if p.dev = s.devId then s.woundLocal slice p
  else s.weftSend p.dev wfStakeFwd (beBytes 1 2 ++ p.bytes ++ recordBytes ns key)

/-- A wound by key with the age of a requester reaches the clusters of this device: each wounds only its own holders of the
record, as its stake cache has them, that are younger (R105). -/
def State.woundByKey (s : State) (slice home ns key : Nat) (who : Party) : State :=
  (s.stakes.recs.filter fun r => r.ns = ns ∧ r.key = key ∧ r.home = home ∧ r.held.isSome).foldl (fun s r =>
    match s.tslot r.slot with
    | some t =>
      let p : Party := { dev := s.devId, slot := t.slot, stamp := t.stamp, seq := t.seq, attempt := t.attempt }
      if !p.same who && who.older p then s.woundLocal slice p else s
    | none => s) s

/-- A slice sends the wound of a SHARED entry by key: to the clusters of this device, and to every device of its
remote-sharer store (R105). -/
def State.woundSharers (s : State) (e : StakeEntry) (who : Party) : State :=
  let devs := ((e.holders.map (·.dev)).filter (· ≠ s.devId)).eraseDups
  devs.foldl (fun s d => s.weftSend d wfStakeFwd (beBytes 1 5 ++ who.bytes ++ recordBytes e.ns e.key))
    (s.woundByKey e.slice s.devId e.ns e.key who)

/-- A slice answers a request that waited: to a stake cache of this device, or to the requester's device. -/
def State.sendGrant (s : State) (ns key code : Nat) (p : Party) : State :=
  if p.dev = s.devId then
    s.mapStakes fun k => { k with grants := k.grants ++ [{ slot := p.slot, ns := ns, key := key, code := code }] }
  else s.weftSend p.dev wfStakeFwd (beBytes 1 1 ++ p.bytes ++ recordBytes ns key ++ beBytes 1 code)

/-- The code that says to another device that its request is queued (R116; log entry 14). -/
def stQueued : Nat := 0xFF

/-- A slice answers a request at once: the stake cache of this device, or the requester's device, which learns also
that a request is queued (R116). -/
def State.answerRequest (s : State) (ns key : Nat) (code : Option Nat) (p : Party) : State :=
  if p.dev = s.devId then (match code with
    | some c => s.sendGrant ns key c p
    | none => s)
  else s.weftSend p.dev wfStakeRsp (p.bytes ++ recordBytes ns key ++ beBytes 1 (code.getD stQueued))

/-! ## A request at a slice -/

/-- Result codes (R100). -/
def stGranted : Nat := 0
def stHeld : Nat := 1
def stUpgraded : Nat := 2
def stLimit : Nat := 3
def stOverflow : Nat := 4
def stFull : Nat := 5
def stUnreachable : Nat := 6
def stNotxn : Nat := 7
def stRefused : Nat := 8
def stNotheld : Nat := 9

/-- Occupied entries of a slice. -/
def State.occupied (s : State) (slice : Nat) : Nat := (s.stakes.entries.filter fun e => e.slice = slice).length

/-- Requests in a slice's wait store, those of other devices, and records in its remote-sharer store
(R96). -/
def State.waiting (s : State) (slice : Nat) : Nat :=
  ((s.stakes.entries.filter fun e => e.slice = slice).map (·.waiters.length)).sum
def State.waitingRemote (s : State) (slice : Nat) : Nat :=
  ((s.stakes.entries.filter fun e => e.slice = slice).map fun e =>
    (e.waiters.filter fun w => w.who.dev ≠ s.devId).length).sum
def State.remoteSharers (s : State) (slice : Nat) : Nat :=
  ((s.stakes.entries.filter fun e => e.slice = slice ∧ !e.excl).map fun e =>
    (e.holders.filter fun h => h.dev ≠ s.devId).length).sum

/-- The high-water mark of a slice (R102). -/
def State.highWater (s : State) : Nat :=
  let h := s.fld Reg.STK_CFG 10 8
  if h = 0 then 2 ^ 21 else h * 2 ^ 18

/-- A request is compatible with the holders of an entry (R103): an exclusive one only with the requester's
own shared stake. -/
def StakeEntry.compatible (e : StakeEntry) (who : Party) (excl : Bool) : Bool :=
  let others := e.holders.filter fun h => !h.same who
  if excl then others.isEmpty else others.isEmpty || !e.excl && decide (others.length < 255)

/-- The holders that a request conflicts with and that are younger than its requester (R105); none when a
shared request only finds 255 sharers (R103). -/
def StakeEntry.woundable (e : StakeEntry) (who : Party) (excl : Bool) : List Party :=
  if excl || e.excl then e.holders.filter fun h => !h.same who && who.older h else []

/-- The wounds of a request in conflict: to the holder of an EXCL entry, by key for a SHARED one (R105). -/
def State.woundHolders (s : State) (e : StakeEntry) (who : Party) (excl : Bool) : State :=
  let young := e.woundable who excl
  if e.excl then young.foldl (fun s p => s.sendWound e.slice e.ns e.key p) s
  else if young.isEmpty then s
  else s.woundSharers e who

/-- A grant in an entry: the holder stands in it once; an exclusive grant makes it EXCL; an entry that was
empty takes its HDEV and HSLOT from the holder (R95). -/
def StakeEntry.grant (e : StakeEntry) (who : Party) (excl : Bool) : StakeEntry :=
  let others := e.holders.filter fun h => !h.same who
  { e with
    holders := others ++ [who], excl := excl
    hdev := if others.isEmpty then who.dev else e.hdev
    hslot := if others.isEmpty then who.slot else e.hslot }

/-- The code with which a grant is answered: UPGRADED for a holder of a shared stake (R100). -/
def StakeEntry.grantCode (e : StakeEntry) (who : Party) : Nat :=
  if e.holders.any (·.same who) then stUpgraded else stGranted

/-- OVERFLOW, FULL and UNREACHABLE set their bit and record a class 0 event that names a slice and the plot (R102). For a
code that another device answered, or none, the slice is the one that the record would have here (log entry 125). -/
def State.stakeReport (s : State) (slice ns code : Nat) : State :=
  if code = stOverflow then s.errEvent Reg.STK_ERR 2 (Src.slice slice) 0 ns 0
  else if code = stFull then s.errEvent Reg.STK_ERR 3 (Src.slice slice) 0 ns 0
  else if code = stUnreachable then s.errEvent Reg.STK_ERR 4 (Src.slice slice) 0 ns 0
  else s

/-- A refusal by a slice: OVERFLOW is counted (R102, R122). -/
def State.stakeRefusal (s : State) (slice ns code : Nat) : State :=
  (if code = stOverflow then s.count (sliceReg Reg.STK_CNT_OVF slice) 1 else s).stakeReport slice ns code

/-- A slice decides a request (R94, R102 to R105): granted with a code, refused with a code, or queued. -/
def State.sliceDecide (s : State) (slice : Nat) (who : Party) (ns key : Nat) (excl : Bool) : State × Option Nat :=
  let s := s.countOp slice
  let remote := decide (who.dev ≠ s.devId)
  match s.stakeEntry slice ns key with
  | none =>
    if s.highWater ≤ s.occupied slice then (s.stakeRefusal slice ns stFull, some stFull)
    else match s.freeWay slice ns key with
      | none => (s.stakeRefusal slice ns stOverflow, some stOverflow)
      | some (b, w) =>
        if remote && !excl && decide (16384 ≤ s.remoteSharers slice) then (s.stakeRefusal slice ns stFull, some stFull)
        else
          (s.putEntry { slice := slice, bucket := b, way := w, ns := ns, key := key, excl := excl
                        holders := [who], waiters := [], hdev := who.dev, hslot := who.slot }, some stGranted)
  | some e =>
    let olderWaits := e.waiters.any fun w => w.who.older who
    if e.compatible who excl && !olderWaits then
      if remote && !excl && decide (16384 ≤ s.remoteSharers slice) then (s.stakeRefusal slice ns stFull, some stFull)
      else (s.putEntry (e.grant who excl), some (e.grantCode who))
    else if remote && decide (4096 - 192 ≤ s.waitingRemote slice) then (s.stakeRefusal slice ns stFull, some stFull)
    else
      let s := s.putEntry { e with waiters := e.waiters ++ [{ who := who, excl := excl }] }
      (if e.compatible who excl then s else s.woundHolders e who excl, none)

/-! ## A release at a slice -/

/-- The oldest waiter of an entry. -/
def oldestWaiter (l : List Waiter) : Option Waiter :=
  l.foldl (fun r w =>
    match r with
    | some b => if w.who.older b.who then some w else some b
    | none => some w) none

/-- The remote-sharer store has no record left for one more sharer of an entry: those of the slice's other entries and its
own are counted (R96). -/
def State.sharersFull (s : State) (e : StakeEntry) : Bool :=
  let others := ((s.stakes.entries.filter fun x => x.slice = e.slice ∧ !x.excl ∧ !(x.bucket = e.bucket ∧ x.way = e.way)).map fun x =>
    (x.holders.filter fun h => h.dev ≠ s.devId).length).sum
  decide (16384 ≤ others + (e.holders.filter fun h => h.dev ≠ s.devId).length)

/-- Waiters are granted in age order while the oldest is compatible (R115). A remote shared request that finds the
remote-sharer store full when its turn comes is refused with FULL (R96, R100; log entry 126). -/
def State.grantWaiters : Nat → State → StakeEntry → State
  | 0, s, e => s.putEntry e
  | fuel + 1, s, e =>
    match oldestWaiter e.waiters with
    | none => s.putEntry e
    | some w =>
      if e.compatible w.who w.excl then
        let rest := e.waiters.filter fun x => !x.who.same w.who
        if w.who.dev ≠ s.devId ∧ !w.excl ∧ s.sharersFull e then
          State.grantWaiters fuel ((s.stakeRefusal e.slice e.ns stFull).sendGrant e.ns e.key stFull w.who) { e with waiters := rest }
        else
          let s := s.sendGrant e.ns e.key (e.grantCode w.who) w.who
          State.grantWaiters fuel s { e.grant w.who w.excl with waiters := rest }
      else s.putEntry e

/-- The entry of a record that lists a transaction as holder or waiter: in the window, or where a location hint still
points after a change of PROBE (R94, R98). -/
def State.entryOf (s : State) (slice ns key : Nat) (who : Party) : Option StakeEntry :=
  let lists (e : StakeEntry) : Bool := e.holders.any (·.same who) || e.waiters.any fun w => w.who.same who
  ((s.stakeEntry slice ns key).filter lists).or (s.stakes.entries.find? fun e => e.names slice ns key && lists e)

/-- A slice takes a transaction out of a record: its stake, its waiting request, or both (R109, R111). -/
def State.sliceDrop (s : State) (slice : Nat) (who : Party) (ns key : Nat) : State :=
  let s := s.countOp slice
  match s.entryOf slice ns key who with
  | none => s
  | some e =>
    let e := { e with holders := e.holders.filter fun h => !h.same who
                      waiters := e.waiters.filter fun w => !w.who.same who }
    State.grantWaiters e.waiters.length s e

/-- An uncorrectable error in bucket i of a probe window (R119): every transaction that holds or awaits a stake in it is
aborted, and the bucket becomes FREE. -/
def State.bucketError (s : State) (slice ns key i : Nat) (who : Party) : State :=
  let b := (s.homeBucket ns key + i) % 2 ^ 19
  let s := s.countOp slice
  let s := s.errEvent Reg.STK_ERR 1 (Src.slice slice) 2 noPlot b
  let inB (e : StakeEntry) : Bool := e.slice == slice && e.bucket == b
  let hit := s.stakes.entries.filter inB
  let s := hit.foldl (fun s e =>
    (e.holders ++ e.waiters.map (·.who)).foldl (fun s p => s.sendWound slice e.ns e.key p) s) s
  let s := s.sendWound slice ns key who
  let s := s.mapStakes fun k => { k with entries := k.entries.filter fun e => !inB e }
  s.setBytes (s.wayAddr slice b 0) (zeros 64)

/-! ## The stake cache -/

/-- The home of a record's stake (R91). -/
def State.stakeHome (s : State) (ns key : Nat) : Nat :=
  if s.bit (Reg.STK_HOMED + 4 * (ns / 32 % 128)) (ns % 32) then key / 2 ^ 54 % 1024 else s.devId

/-- A transaction of this device as the slices know it (R104). -/
def State.partyOf (s : State) (t : TSlot) : Party :=
  { dev := s.devId, slot := t.slot, stamp := t.stamp, seq := t.seq, attempt := t.attempt }

/-- The record of a stake in the cache of a transaction (R98). -/
def State.stakeRec (s : State) (slot ns key : Nat) : Option StakeRec :=
  s.stakes.recs.find? fun r => r.slot == slot && r.ns == ns && r.key == key

/-- The distinct records on which a transaction holds or awaits a stake (R101). -/
def State.stakeCount (s : State) (slot : Nat) : Nat := (s.stakes.recs.filter fun r => r.slot = slot).length

/-- A record of a stake cache replaced, or removed when nothing is held or awaited. -/
def State.putStakeRec (s : State) (r : StakeRec) : State :=
  s.mapStakes fun k =>
    let others := k.recs.filter fun x => !(x.slot == r.slot && x.ns == r.ns && x.key == r.key)
    { k with recs := if r.held.isNone && r.waits.isNone then others else others ++ [r] }

/-- A message to a slice of this device, or to the home device of a record. -/
def State.sendStakeOp (s : State) (home ns key : Nat) (who : Party) (op : SliceOp) : State :=
  if home = s.devId then
    s.mapStakes fun k => { k with msgs := k.msgs ++ [{ slice := s.sliceOf ns key, who := who, ns := ns, key := key, op := op }] }
  else match op with
    | .request excl => s.weftSend home wfStakeReq (who.bytes ++ recordBytes ns key ++ beBytes 1 excl.toNat)
    | .release => s.weftSend home wfStakeFwd (beBytes 1 3 ++ who.bytes ++ recordBytes ns key)
    | .withdraw => s.weftSend home wfStakeFwd (beBytes 1 4 ++ who.bytes ++ recordBytes ns key)

/-- Every stake of a transaction is released and its waiting request withdrawn (R106, R113, R114), each an operation of the
slice (R97). -/
def State.releaseStakes (s : State) (t : TSlot) : State :=
  let mine := s.stakes.recs.filter fun r => r.slot = t.slot
  let s := mine.foldl (fun s r =>
    let s := if r.waits.isSome then s.sendStakeOp r.home r.ns r.key (s.partyOf t) .withdraw else s
    if r.held.isSome then s.sendStakeOp r.home r.ns r.key (s.partyOf t) .release else s) s
  s.mapStakes fun k =>
    { k with recs := k.recs.filter fun r => r.slot ≠ t.slot, grants := k.grants.filter fun g => g.slot ≠ t.slot }

/-- The stakes of a lost device go, each a release or a withdrawal (R97), and the local transactions with stakes homed there
are wounded (R118). -/
def State.loseStakes (s : State) (dev : Nat) : State :=
  let touched := s.stakes.entries.filter fun e =>
    e.holders.any (fun h => h.dev = dev) || e.waiters.any (fun w => w.who.dev = dev)
  let s := touched.foldl (fun s e =>
    let n := (e.holders.filter fun h => h.dev = dev).length + (e.waiters.filter fun w => w.who.dev = dev).length
    let s := (List.range n).foldl (fun s _ => s.countOp e.slice) s
    let e := { e with holders := e.holders.filter fun h => h.dev ≠ dev
                      waiters := e.waiters.filter fun w => w.who.dev ≠ dev }
    State.grantWaiters e.waiters.length s e) s
  (s.stakes.recs.filter fun r => r.home = dev).foldl (fun s r =>
    match s.tslot r.slot with
    | some t => s.sendWound 16 r.ns r.key (s.partyOf t)
    | none => s) s

end Sys2Proof.Machine
end

