-- ==== Sys2Proof/Machine/Decimal.lean ====
section
/-! DEFINITION. Packed decimal (chapter 10, R310 to R314): operands read from their bytes and
results written to bytes. A value is a sign and a magnitude, because minus zero is an operand
with a sign of its own. -/

namespace Sys2Proof.Machine

/-- A decimal value: sign (true minus) and magnitude. -/
structure Dec where
  neg : Bool
  mag : Nat
  deriving DecidableEq, Repr

/-- Bytes of a packed operand of n digits (R310). -/
def packedLen (n : Nat) : Nat := n / 2 + 1

/-- The nibbles of a byte string, high nibble of each byte first. -/
def nibbles : List Byte → List Nat
  | [] => []
  | b :: bs => b.toNat / 16 :: b.toNat % 16 :: nibbles bs

/-- Digits, most significant first, as a number. -/
def digitsVal (ds : List Nat) : Nat := ds.foldl (fun a d => 10 * a + d) 0

/-- A packed operand of n digits read from its bytes; none when it is invalid under R312. -/
def readPacked (n : Nat) (bs : List Byte) : Option Dec :=
  let ns := nibbles bs
  let body := ns.dropLast
  let sign := ns.getLast?.getD 0
  let pad := if n % 2 = 0 then body.take 1 else []
  let ds := if n % 2 = 0 then body.drop 1 else body
  if pad.any (fun d => d != 0) || ds.any (fun d => d > 9) || sign < 10 then none
  else some ⟨sign = 11 ∨ sign = 13, digitsVal ds⟩

/-- A zoned operand (R312, R313): one byte per digit; none when it is invalid. -/
def readZoned (bs : List Byte) : Option Dec :=
  let last := bs.getLast?.getD 0
  let ok := bs.dropLast.all (fun b => b.toNat / 16 == 3)
    && (last.toNat / 16 == 3 || last.toNat / 16 == 7)
    && bs.all (fun b => b.toNat % 16 ≤ 9)
  if ok then some ⟨last.toNat / 16 == 7, digitsVal (bs.map (fun b => b.toNat % 16))⟩ else none

/-- The low n decimal digits of a number, most significant first. -/
def lowDigits : Nat → Nat → List Nat
  | 0, _ => []
  | n + 1, v => lowDigits n (v / 10) ++ [v % 10]

/-- Nibbles joined to bytes, the first of each two high. -/
def joinNibbles : List Nat → List Byte
  | a :: b :: rest => BitVec.ofNat 8 (16 * a + b) :: joinNibbles rest
  | [a] => [BitVec.ofNat 8 (16 * a)]
  | [] => []

/-- The sign with which a result is written: a result of zero is plus (R311). -/
def Dec.writeNeg (d : Dec) : Bool := d.neg && d.mag != 0

/-- A value written packed in n digits: the low n digits with the true sign (R311, R314). -/
def writePacked (n : Nat) (d : Dec) : List Byte :=
  joinNibbles ((if n % 2 = 0 then [0] else []) ++ lowDigits n d.mag
    ++ [if d.writeNeg then 13 else 12])

/-- A value written zoned in n bytes (R313). -/
def writeZoned (n : Nat) (d : Dec) : List Byte :=
  let ds := (lowDigits n d.mag).map (fun x => BitVec.ofNat 8 (0x30 + x))
  match ds.getLast? with
  | some z => ds.dropLast ++ [if d.writeNeg then z + 0x40#8 else z]
  | none => []

/-- Whether a magnitude has more significant digits than n (R314, case 3). -/
def Dec.overflows (n : Nat) (d : Dec) : Bool := 10 ^ n ≤ d.mag

/-- An integer as a decimal value. -/
def Dec.ofInt (v : Int) : Dec := ⟨decide (v < 0), v.natAbs⟩
/-- A decimal value as an integer; minus zero is zero. -/
def Dec.toInt (d : Dec) : Int := if d.neg then -(d.mag : Int) else d.mag

/-- The DCC codes of R280. -/
def dccNone : Nat := 0
/-- DIVZERO. -/
def dccDivZero : Nat := 1
/-- BADDIGIT. -/
def dccBad : Nat := 2
/-- OVERFLOW. -/
def dccOver : Nat := 3

/-- A decimal result for a destination of n digits with the DCC of R314, cases 3 and 4. -/
def decResult (n : Nat) (d : Dec) : List Byte × Nat :=
  (writePacked n d, if d.overflows n then dccOver else dccNone)

/-- ADDP, SUBP and MULP on valid operands (R313). -/
def decAdd (x y : Dec) : Dec := Dec.ofInt (x.toInt + y.toInt)
/-- SUBP. -/
def decSub (x y : Dec) : Dec := Dec.ofInt (x.toInt - y.toInt)
/-- MULP. -/
def decMul (x y : Dec) : Dec := Dec.ofInt (x.toInt * y.toInt)

/-- The quotient and remainder of DIVP for a divisor that is not zero (R313). -/
def decDiv (x y : Dec) : Dec × Dec :=
  (⟨x.neg != y.neg, x.mag / y.mag⟩, ⟨x.neg, x.mag % y.mag⟩)

/-- The quotient of DIVP by zero: n nines with the sign of the dividend (R314, case 2). -/
def decNines (n : Nat) (x : Dec) : List Byte := writePacked n ⟨x.neg, 10 ^ n - 1⟩

/-- CMPP (R313): 0xFFFF_FFFF, 0 or 1. -/
def decCmp (x y : Dec) : Word :=
  if x.toInt < y.toInt then 0xFFFFFFFF#32 else if x.toInt = y.toInt then 0 else 1

/-- Whether two byte ranges overlap. -/
def rangesOverlap (a la b lb : Nat) : Bool := a < b + lb && b < a + la

end Sys2Proof.Machine
end

