-- ==== Sys2Proof/Machine/Fp.lean ====
section
/-! DEFINITION. Floating point (chapter 10, R318 to R328): IEEE 754-2019 binary32 and binary64,
every function computed on exact numbers and rounded once. A function answers the result bits and
the flags it sets in FPSTAT's places (NV 16, DZ 8, OF 4, UF 2, NX 1, R316). -/

namespace Sys2Proof.Machine

/-- A format: precision in bits, exponent width, both as IEEE 754 counts them. -/
structure FpFmt where
  p  : Nat
  ew : Nat
  deriving DecidableEq, Repr

/-- binary32. -/
def fmt32 : FpFmt := ⟨24, 8⟩
/-- binary64. -/
def fmt64 : FpFmt := ⟨53, 11⟩

/-- The format that bit 0 of an FP minor code selects (R291). -/
def fmtOf (dbl : Bool) : FpFmt := if dbl then fmt64 else fmt32

/-- Exponent bias, and greatest exponent of a finite number. -/
def FpFmt.bias (f : FpFmt) : Nat := 2 ^ (f.ew - 1) - 1
/-- Smallest exponent of a normal number. -/
def FpFmt.emin (f : FpFmt) : Int := 1 - (f.bias : Int)
/-- Bits of a value. -/
def FpFmt.width (f : FpFmt) : Nat := f.p + f.ew

/-- The value classes of an operand. `fin s m e` stands for (-1)^s * m * 2^e with m nonzero. -/
inductive FpVal where
  | zero (s : Bool)
  | fin  (s : Bool) (m : Nat) (e : Int)
  | inf  (s : Bool)
  | qnan
  | snan
  deriving DecidableEq, Repr

/-- A result: bits and flags. -/
structure FpRes where
  bits  : Nat
  flags : Nat
  deriving DecidableEq, Repr

/-- The sign bit of a value in a format. -/
def FpFmt.signBit (f : FpFmt) (s : Bool) : Nat := if s then 2 ^ (f.width - 1) else 0

/-- An encoded value read as a class. -/
def FpFmt.unpack (f : FpFmt) (b : Nat) : FpVal :=
  let s := b.testBit (f.width - 1)
  let e := (b >>> (f.p - 1)) % 2 ^ f.ew
  let m := b % 2 ^ (f.p - 1)
  if e = 2 ^ f.ew - 1 then
    if m = 0 then .inf s
    else if m.testBit (f.p - 2) then .qnan else .snan
  else if e = 0 then
    if m = 0 then .zero s else .fin s m (f.emin - ((f.p - 1 : Nat) : Int))
  else .fin s (m + 2 ^ (f.p - 1)) ((e : Int) - f.bias - ((f.p - 1 : Nat) : Int))

/-- The encodings of zero, infinity, the largest finite number and the default NaN (R322). -/
def FpFmt.mkZero (f : FpFmt) (s : Bool) : Nat := f.signBit s
/-- Infinity of a sign. -/
def FpFmt.mkInf (f : FpFmt) (s : Bool) : Nat := f.signBit s + (2 ^ f.ew - 1) <<< (f.p - 1)
/-- The largest finite number of a sign. -/
def FpFmt.mkMax (f : FpFmt) (s : Bool) : Nat := f.mkInf s - 1
/-- The default NaN (R322): positive, quiet, no payload. -/
def FpFmt.nan (f : FpFmt) : Nat := f.mkInf false + 2 ^ (f.p - 2)

/-- The rounding modes of FPCTL.RM (R315). -/
inductive Round where
  | rne | rtz | rdn | rup | rna
  deriving DecidableEq, Repr

/-- FPCTL.RM read as a mode; the reserved values are never held (R315). -/
def Round.of (rm : Nat) : Round :=
  match rm with
  | 0 => .rne | 1 => .rtz | 2 => .rdn | 3 => .rup | _ => .rna

/-- Whether a magnitude q + rem / 2^(sh) rounds up to q + 1 in a mode. `q` even or odd, `rem`
below `2 * half`. -/
def roundsUp (r : Round) (s : Bool) (q rem half : Nat) : Bool :=
  match r with
  | .rne => rem > half || (rem == half && q % 2 == 1)
  | .rtz => false
  | .rdn => s && rem != 0
  | .rup => !s && rem != 0
  | .rna => rem ≥ half && rem != 0

/-- A magnitude m * 2^e rounded to a multiple of 2^u: the multiple and whether it is inexact. -/
def roundTo (r : Round) (s : Bool) (m : Nat) (e u : Int) : Nat × Bool :=
  if u ≤ e then (m <<< (e - u).toNat, false)
  else
    let sh := (u - e).toNat
    let q := m >>> sh
    let rem := m % 2 ^ sh
    (if roundsUp r s q rem (2 ^ (sh - 1)) then q + 1 else q, rem != 0)

/-- Number of bits of a number. -/
def bitLen (n : Nat) : Nat := if n = 0 then 0 else Nat.log2 n + 1

/-- The overflowed result of R319. -/
def overflowed (f : FpFmt) (r : Round) (s : Bool) : FpRes :=
  let big := match r with
    | .rne | .rna => true
    | .rtz => false
    | .rdn => s
    | .rup => !s
  ⟨if big then f.mkInf s else f.mkMax s, 5⟩

/-- A nonzero magnitude m * 2^e delivered in a format (R318 to R320): rounded once, tininess
detected after rounding with the exponent range unbounded. -/
def deliver (f : FpFmt) (r : Round) (s : Bool) (m : Nat) (e : Int) : FpRes :=
  let eu := e + (bitLen m : Int) - (f.p : Int)
  let lowest := f.emin - ((f.p - 1 : Nat) : Int)
  let (qu, _) := roundTo r s m e eu
  let xu := eu + (bitLen qu : Int) - 1
  if xu > (f.bias : Int) then overflowed f r s
  else
    let u := max eu lowest
    let (q, nx) := roundTo r s m e u
    let tiny := decide (xu < f.emin)
    let flags := (if nx then 1 else 0) + (if tiny && nx then 2 else 0)
    if q = 0 then ⟨f.mkZero s, flags⟩
    else
      let x := u + (bitLen q : Int) - 1
      if x < f.emin then ⟨f.signBit s + q, flags⟩
      else
        let m' := if bitLen q > f.p then q >>> (bitLen q - f.p) else q <<< (f.p - bitLen q)
        ⟨f.signBit s + ((x + f.bias).toNat) <<< (f.p - 1) + (m' - 2 ^ (f.p - 1)), flags⟩

/-- An exact sum delivered; an exact zero takes the sign of R321. -/
def deliverInt (f : FpFmt) (r : Round) (v : Int) (e : Int) (zeroSign : Bool) : FpRes :=
  if v = 0 then ⟨f.mkZero zeroSign, 0⟩ else deliver f r (decide (v < 0)) v.natAbs e

/-- A signed magnitude as an integer. -/
def signed (s : Bool) (m : Nat) : Int := if s then -(m : Int) else m

/-- The sign of an exact zero sum of operands whose signs differ (R321). -/
def zeroSum (r : Round) : Bool := r == .rdn

/-- Whether an operand is a signalling NaN; NaN results of R322. -/
def FpVal.isSnan : FpVal → Bool
  | .snan => true
  | _ => false
/-- Whether an operand is a NaN. -/
def FpVal.isNan : FpVal → Bool
  | .snan | .qnan => true
  | _ => false
/-- The sign of a value that is no NaN. -/
def FpVal.neg : FpVal → Bool
  | .zero s | .fin s _ _ | .inf s => s
  | _ => false

/-- The default NaN with NV when an operand signals (R322). -/
def nanRes (f : FpFmt) (sig : Bool) : FpRes := ⟨f.nan, if sig then 16 else 0⟩
/-- An invalid operation (R323). -/
def invalid (f : FpFmt) : FpRes := ⟨f.nan, 16⟩

/-- FADD on classes (R318, R321, R323). -/
def fpAddV (f : FpFmt) (r : Round) (x y : FpVal) : FpRes :=
  match x, y with
  | .inf s, .inf t => if s = t then ⟨f.mkInf s, 0⟩ else invalid f
  | .inf s, .zero _ | .inf s, .fin _ _ _ => ⟨f.mkInf s, 0⟩
  | .zero _, .inf t | .fin _ _ _, .inf t => ⟨f.mkInf t, 0⟩
  | .zero s, .zero t => ⟨f.mkZero (if s = t then s else zeroSum r), 0⟩
  | .zero _, .fin t m e | .fin t m e, .zero _ => deliver f r t m e
  | .fin s m e, .fin t n g =>
    let lo := min e g
    deliverInt f r (signed s (m <<< (e - lo).toNat) + signed t (n <<< (g - lo).toNat)) lo
      (zeroSum r)
  | _, _ => nanRes f (x.isSnan || y.isSnan)

/-- A class with its sign changed. -/
def FpVal.flip : FpVal → FpVal
  | .zero s => .zero !s
  | .fin s m e => .fin (!s) m e
  | .inf s => .inf !s
  | v => v

/-- FADD. -/
def fpAdd (f : FpFmt) (r : Round) (a b : Nat) : FpRes := fpAddV f r (f.unpack a) (f.unpack b)
/-- FSUB. -/
def fpSub (f : FpFmt) (r : Round) (a b : Nat) : FpRes :=
  fpAddV f r (f.unpack a) (f.unpack b).flip

/-- FMUL (R321, R323). -/
def fpMul (f : FpFmt) (r : Round) (a b : Nat) : FpRes :=
  let x := f.unpack a
  let y := f.unpack b
  match x, y with
  | .inf _, .zero _ | .zero _, .inf _ => invalid f
  | .inf s, .inf t | .inf s, .fin t _ _ | .fin s _ _, .inf t => ⟨f.mkInf (s != t), 0⟩
  | .zero s, .zero t | .zero s, .fin t _ _ | .fin s _ _, .zero t => ⟨f.mkZero (s != t), 0⟩
  | .fin s m e, .fin t n g => deliver f r (s != t) (m * n) (e + g)
  | _, _ => nanRes f (x.isSnan || y.isSnan)

/-- FDIV (R321, R323). The quotient is taken to more than twice the precision, and a remainder
that is not zero is kept as one bit below it. -/
def fpDiv (f : FpFmt) (r : Round) (a b : Nat) : FpRes :=
  let x := f.unpack a
  let y := f.unpack b
  match x, y with
  | .inf _, .inf _ | .zero _, .zero _ => invalid f
  | .inf s, .zero t | .inf s, .fin t _ _ => ⟨f.mkInf (s != t), 0⟩
  | .zero s, .fin t _ _ | .zero s, .inf t | .fin s _ _, .inf t => ⟨f.mkZero (s != t), 0⟩
  | .fin s _ _, .zero t => ⟨f.mkInf (s != t), 8⟩
  | .fin s m e, .fin t n g =>
    let k := 2 * f.p + 4
    let q := (m <<< k) / n
    let rem := (m <<< k) % n
    deliver f r (s != t) (2 * q + (if rem = 0 then 0 else 1)) (e - g - (k : Int) - 1)
  | _, _ => nanRes f (x.isSnan || y.isSnan)

/-- The integer square root, found bit by bit from bit `k - 1` down. -/
def isqrtFrom : Nat → Nat → Nat → Nat
  | 0, acc, _ => acc
  | k + 1, acc, n =>
    let c := acc + 2 ^ k
    isqrtFrom k (if c * c ≤ n then c else acc) n

/-- FSQRT (R323). -/
def fpSqrt (f : FpFmt) (r : Round) (a : Nat) : FpRes :=
  match f.unpack a with
  | .zero s => ⟨f.mkZero s, 0⟩
  | .inf false => ⟨f.mkInf false, 0⟩
  | .inf true => invalid f
  | .fin true _ _ => invalid f
  | .fin false m e =>
    let k := 2 * f.p + 4
    let odd := (e - (k : Int)) % 2 != 0
    let m' := m <<< (if odd then k + 1 else k)
    let e' := if odd then e - (k : Int) - 1 else e - (k : Int)
    let q := isqrtFrom (2 * f.p + 4) 0 m'
    deliver f r false (2 * q + (if q * q = m' then 0 else 1)) (e' / 2 - 1)
  | v => nanRes f v.isSnan

/-- FMA: fa * fb + fc rounded once (R318, R323). -/
def fpFma (f : FpFmt) (r : Round) (a b c : Nat) : FpRes :=
  let x := f.unpack a
  let y := f.unpack b
  let z := f.unpack c
  let sig := x.isSnan || y.isSnan || z.isSnan
  match x, y with
  | .inf _, .zero _ | .zero _, .inf _ => invalid f
  | _, _ =>
    if x.isNan || y.isNan || z.isNan then nanRes f sig
    else
      let s := x.neg != y.neg
      match x, y with
      | .fin _ m e, .fin _ n g => fpAddV f r (.fin s (m * n) (e + g)) z
      | .inf _, _ | _, .inf _ => fpAddV f r (.inf s) z
      | _, _ => fpAddV f r (.zero s) z

/-- Order of two classes that are no NaN, with -0 equal to +0: -1, 0 or 1. -/
def fpCmp (x y : FpVal) : Int :=
  let rank : FpVal → Int := fun v => match v with
    | .inf s => if s then -2 else 2
    | .fin s _ _ => if s then -1 else 1
    | _ => 0
  match x, y with
  | .fin s m e, .fin t n g =>
    if s = t then
      let lo := min e g
      let u := signed s (m <<< (e - lo).toNat)
      let v := signed t (n <<< (g - lo).toNat)
      if u < v then -1 else if u = v then 0 else 1
    else if s then -1 else 1
  | _, _ => if rank x < rank y then -1 else if rank x = rank y then 0 else 1

/-- FMIN and FMAX (R325): minimumNumber and maximumNumber. -/
def fpMinMax (isMax : Bool) (f : FpFmt) (a b : Nat) : FpRes :=
  let x := f.unpack a
  let y := f.unpack b
  let fl := if x.isSnan || y.isSnan then 16 else 0
  let m := 2 ^ f.width
  if x.isNan && y.isNan then ⟨f.nan, fl⟩
  else if x.isNan then ⟨b % m, fl⟩
  else if y.isNan then ⟨a % m, fl⟩
  else
    let c := fpCmp x y
    let aLess := if c = 0 then x.neg && !y.neg else decide (c < 0)
    ⟨if aLess != isMax then a % m else b % m, fl⟩

/-- FEQ, FLT, FLE (R324): value and flags. -/
def fpEq (f : FpFmt) (a b : Nat) : FpRes :=
  let x := f.unpack a
  let y := f.unpack b
  if x.isNan || y.isNan then ⟨0, if x.isSnan || y.isSnan then 16 else 0⟩
  else ⟨if fpCmp x y = 0 then 1 else 0, 0⟩
/-- FLT. -/
def fpLt (f : FpFmt) (a b : Nat) : FpRes :=
  let x := f.unpack a
  let y := f.unpack b
  if x.isNan || y.isNan then ⟨0, 16⟩ else ⟨if fpCmp x y < 0 then 1 else 0, 0⟩
/-- FLE. -/
def fpLe (f : FpFmt) (a b : Nat) : FpRes :=
  let x := f.unpack a
  let y := f.unpack b
  if x.isNan || y.isNan then ⟨0, 16⟩ else ⟨if fpCmp x y ≤ 0 then 1 else 0, 0⟩

/-- FCLASS (R326). -/
def fpClass (f : FpFmt) (a : Nat) : Nat :=
  let normal := (a >>> (f.p - 1)) % 2 ^ f.ew != 0
  match f.unpack a with
  | .inf s => if s then 1 else 128
  | .fin s _ _ => if s then (if normal then 2 else 4) else (if normal then 64 else 32)
  | .zero s => if s then 8 else 16
  | .snan => 256
  | .qnan => 512

/-- FNEG and FABS (R322): only the sign bit changes. -/
def fpNeg (f : FpFmt) (a : Nat) : Nat := (a % 2 ^ f.width) ^^^ 2 ^ (f.width - 1)
/-- FABS. -/
def fpAbs (f : FpFmt) (a : Nat) : Nat := a % 2 ^ (f.width - 1)

/-- A value converted from one format to another (R327: FCVT.D.S exact, FCVT.S.D rounded). -/
def fpConvert (src dst : FpFmt) (r : Round) (a : Nat) : FpRes :=
  match src.unpack a with
  | .zero s => ⟨dst.mkZero s, 0⟩
  | .inf s => ⟨dst.mkInf s, 0⟩
  | .fin s m e => deliver dst r s m e
  | v => nanRes dst v.isSnan

/-- An integer converted to a format (R327). -/
def fpOfInt (f : FpFmt) (r : Round) (v : Int) : FpRes := deliverInt f r v 0 false

/-- A value converted to an integer in [lo, hi] (R328): the integer and the flags. -/
def fpToInt (f : FpFmt) (r : Round) (lo hi : Int) (a : Nat) : Int × Nat :=
  match f.unpack a with
  | .qnan | .snan => (hi, 16)
  | .inf s => (if s then lo else hi, 16)
  | .zero _ => (0, 0)
  | .fin s m e =>
    let (q, nx) := roundTo r s m e 0
    let v := signed s q
    if v < lo then (lo, 16) else if v > hi then (hi, 16) else (v, if nx then 1 else 0)

end Sys2Proof.Machine
end

