-- ==== Sys2Proof/Machine/Memory.lean ====
section
/-! DEFINITION. Memory as its agents see it: the physical map (R634), the stops of Warp and the errors that
they answer (R433, R438, R447, R450), the visibility of stores scope by scope (R386 to R390), load links
(R399, R400), poison (R423, R426), and the lines, marks and ways of the cluster caches (R407 to R419). -/

namespace Sys2Proof.Machine

open Sys2Proof

/-! ## The physical map -/

/-- What an address lies in (R634). -/
inductive Region where
  | dram | remote | scratch (cluster off : Nat) | control (off : Nat) | nowhere
  deriving DecidableEq, Repr

def scratchBase : Nat := 0x200000000000
def controlBase : Nat := 0x3F0000000000
def remoteBase : Nat := 0x100000000000

/-- The installed DRAM in bytes: the capacity of the trained channels (R634, R636). -/
def State.dramSize (s : State) : Nat :=
  ((List.range 16).map fun k =>
    if s.bit (Reg.MEM_CHSTAT + 4 * k) 31 then s.fld (Reg.MEM_CHSTAT + 4 * k) 25 16 * 2 ^ 30 else 0).sum

def State.region (s : State) (pa : Nat) : Region :=
  if pa < 0x080000000000 then (if pa < s.dramSize then .dram else .nowhere)
  else if remoteBase ≤ pa ∧ pa < 0x200000000000 then .remote
  else if scratchBase ≤ pa ∧ pa < scratchBase + 12 * 0x400000 then
    .scratch ((pa - scratchBase) / 0x400000) ((pa - scratchBase) % 0x400000)
  else if controlBase ≤ pa ∧ pa < controlBase + 0x910000 then .control (pa - controlBase)
  else .nowhere

/-- The strongroom's offsets in a scratchpad (R424). -/
def inStrongroom (off : Nat) : Bool := decide (0x380000 ≤ off ∧ off < 0x3C0000)

/-- An access touches the strongroom (R428). -/
def touchesStrongroom (off n : Nat) : Bool := decide (off < 0x3C0000 ∧ 0x380000 < off + n)

/-! ## Stops of Warp and what they answer -/

/-- The stop that holds an address (R433; log entry 10 where R433 names none). -/
def stopOf (r : Region) (pa : Nat) : Nat :=
  match r with
  | .dram => 16 + Config.channelOf pa % 16 / 2
  | .remote => 26
  | .scratch c _ => c
  | .control off =>
    if off < 0x010000 then 15
    else if off < 0x080000 then 30
    else if off < 0x100000 then 12
    else if off < 0x140000 then 14
    else if off < 0x180000 then 26
    else if off < 0x200000 then 16 + ((off - 0x180400) / 0x20 % 16) / 2
    else if off < 0x280000 then 24
    else if off < 0x400000 then 12
    else if off < 0x4C0000 then (off - 0x400000) / 0x10000
    else if off < 0x700000 then 16 + (off / 4 % 16) / 2
    else if off < 0x740000 then 30
    else if off < 0x780000 then 13
    else if off < 0x7C0000 then 29
    else if off < 0x800000 then 28
    else if off < 0x880000 then 26
    else 30
  | .nowhere => 15

/-- A clock domain is off (R450, R632). -/
def State.domainOff (s : State) (d : Nat) : Bool :=
  if d < 32 then s.bit Reg.PCK_DOMOFF_LO d else s.bit Reg.PCK_DOMOFF_HI (d - 32)

/-- A bank of a scratchpad is in retention or waking (R430). -/
def State.bankAsleep (s : State) (c b : Nat) : Bool :=
  s.bit (clsReg Reg.CLS_SPRET c) b || s.bit (clsReg Reg.CLS_SPSTAT c) (8 + b)

/-! ## Routes (R433 to R435, R441, R448) -/

/-- The router of a stop, and the port at which it lies there (R433). -/
def routerOf (stop : Nat) : Nat × Nat :=
  if stop < 12 then (if stop % 2 = 0 then (stop / 2 + 1, 0) else (stop / 2 + 9, 0))
  else if stop = 12 then (7, 0) else if stop = 13 then (7, 1)
  else if stop = 14 then (15, 0) else if stop = 15 then (16, 0)
  else if stop < 20 then (17 + (stop - 16) / 2, (stop - 16) % 2)
  else if stop < 24 then (22 + (stop - 20) / 2, (stop - 20) % 2)
  else if stop < 26 then (19, stop - 24)
  else if stop = 26 then (20, 0) else if stop = 27 then (25, 0)
  else if stop = 28 then (20, 1) else if stop = 29 then (24, 0)
  else if stop = 30 then (21, 0) else (24, 1)

/-- The link and the router behind a port of a router (R433, R434, R448). -/
def behindPort (router port : Nat) : Option (Nat × Nat) :=
  let spine := router < 16
  let pos := if router < 8 then router else if router < 16 then router - 8 else if router < 21 then router - 16 else router - 21
  let last := if spine then 7 else 4
  let first := if router < 8 then 0 else if router < 16 then 7 else if router < 21 then 20 else 24
  if port = 2 then (if pos = 0 then none else some (first + pos - 1, router - 1))
  else if port = 3 then (if pos = last then none else some (first + pos, router + 1))
  else if port = 4 then
    if spine then (if pos % 2 = 0 then some (14 + pos / 2, if router < 8 then router + 8 else router - 8) else none)
    else if pos = 0 then some (28, if router < 21 then 21 else 16)
    else if pos = 4 then some (29, if router < 21 then 25 else 20)
    else none
  else if port = 5 then
    if router = 0 then some (18, 16) else if router = 16 then some (18, 0)
    else if router = 8 then some (19, 21) else if router = 21 then some (19, 8)
    else none
  else none

/-- The entry of a router for a destination in a generation (R448). -/
def State.routeEntry (s : State) (gen router dest : Nat) : Nat :=
  sget (fun k => Config.resetRoute (k / 32 % 32) (k % 32) % 64) s.warp.routes (gen * 1024 + router * 32 + dest)

/-- A packet reaches a stop from a router over links that are up: the primary port, or the alternate one
where the link of the primary is down (R441). A path has at most 13 links (R435). -/
def State.reaches (s : State) (gen dest : Nat) : Nat → Nat → Bool
  | 0, _ => false
  | fuel + 1, router =>
    if router = (routerOf dest).1 then true
    else
      let e := s.routeEntry gen router dest
      let up (port : Nat) : Option Nat :=
        match behindPort router port with
        | some (l, r) => if s.bit Reg.WRP_LINKDOWN l then none else some r
        | none => none
      match up (e % 8) with
      | some r => s.reaches gen dest fuel r
      | none =>
        match up (e / 8 % 8) with
        | some r => s.reaches gen dest fuel r
        | none => false

/-- A request from a stop to a stop finds no usable link (R441). While no link is down every request does. -/
def State.unroutable (s : State) (init target : Nat) : Bool :=
  s.reg Reg.WRP_LINKDOWN != 0 && !s.reaches (s.fld Reg.WRP_RTSTAT 0 0) target 14 (routerOf init).1

/-- The status that an access of an initiator stop to an address is answered with, and the domain index it
carries (R438, R441, R447, R450, R530). -/
def State.answerOf (s : State) (init pa : Nat) : WarpStatus × Nat :=
  let r := s.region pa
  if s.bit Reg.WRP_ISO (stopOf r pa) then (.poison, 0)
  else if s.unroutable init (stopOf r pa) then (.unroutable, 0)
  else match r with
    | .nowhere => (.decode, 0)
    | .remote => if s.bit (Reg.WFT_RWIN + 4 * ((pa - remoteBase) / 2 ^ 36)) 31 then (.ok, 0) else (.decode, 0)
    | .scratch c off =>
      if s.domainOff c || s.bankAsleep c (off / 0x80000) then (.domainOff, c) else (.ok, 0)
    | .control off =>
      if 0x400000 ≤ off ∧ off < 0x4C0000 ∧ s.domainOff (clusterAt off) then (.domainOff, clusterAt off) else (.ok, 0)
    | _ => (.ok, 0)

def warpCode : WarpStatus → Nat
  | .ok => 0 | .poison => 1 | .timeout => 2 | .domainOff => 3 | .unroutable => 4 | .decode => 5

/-- A response other than OK is delivered: WRP_ELOG names it, DOMAIN_OFF answers are counted (R438, R442,
R452). -/
def State.logAnswer (s : State) (init target : Nat) (st : WarpStatus) (domain pa : Nat) : State :=
  if st = .ok then s
  else
    let s := s.setReg Reg.WRP_ELOG (BitVec.ofNat 32
      (2 ^ 31 + warpCode st * 2 ^ 24 + domain * 2 ^ 16 + target * 2 ^ 8 + init))
    let s := s.setReg64 Reg.WRP_ELOGADDR_LO (pa % 2 ^ 46)
    let s := if st = .unroutable then s.setBit Reg.WRP_ERR 5 true else s
    if st = .domainOff then s.count Reg.WRP_CNT_DOMOFF 1 else s

/-- The credits of an initiator for a target that are not held after timeouts (R439, R443). -/
def State.creditLeft (s : State) (init target : Nat) : Bool :=
  let held := (s.warp.held.filter fun h => h.init = init ∧ h.target = target).length
  let all := (s.warp.held.filter fun h => h.init = init).length
  decide (held < (if 16 ≤ target ∧ target ≤ 23 then 32 else 8)) &&
  decide (all < (if init < 12 then 256 else 64))

/-- A request of a cluster to an address outside it finds no credit and waits (R443). -/
def State.creditOut (s : State) (c pa : Nat) : Bool :=
  let t := stopOf (s.region pa) pa
  t != c && !s.creditLeft c t

/-! ## Poison -/

/-- A byte's line in DRAM, or granule in a scratchpad, is poisoned (R423, R426). -/
def State.poisonAt (s : State) (pa : Nat) : Bool :=
  if pa < 0x080000000000 then s.mem.poison.any fun g => g / 8 == pa / 64
  else s.mem.poison.any fun g => g == pa / 8

/-- Some byte of a range is poisoned. -/
def State.poisonIn (s : State) (pa n : Nat) : Bool := (List.range n).any fun i => s.poisonAt (pa + i)

/-- A store clears the poison of the granules that it writes wholly. -/
def State.clearPoison (s : State) (pa n : Nat) : State :=
  s.mapMem fun m => { m with poison := m.poison.filter fun g => !(decide (pa ≤ 8 * g ∧ 8 * g + 8 ≤ pa + n)) }

/-- Granules become poisoned. -/
def State.setPoison (s : State) (pa n : Nat) : State :=
  s.mapMem fun m =>
    { m with poison := (List.range ((pa + n - 1) / 8 + 1 - pa / 8)).foldl (fun l i =>
        let g := pa / 8 + i
        if g ∈ l then l else (l.filter (fun x => x < g)) ++ [g] ++ l.filter (fun x => g < x)) m.poison }

/-! ## Load links -/

/-- A store of an agent becomes visible to a unit: a link to its granule of another agent goes (R400). -/
def State.breakLink (s : State) (u pa n : Nat) : State :=
  match (s.unit u).arch.link with
  | some g =>
    if pa / 64 ≤ g / 64 ∧ g / 64 ≤ (pa + n - 1) / 64 then
      s.mapUnit u fun x => { x with arch := { x.arch with link := none } }
    else s
  | none => s

/-- The links of a list of units go, but the writer's own. -/
def State.breakLinks (s : State) (us : List Nat) (writer : Option Nat) (pa n : Nat) : State :=
  us.foldl (fun s u => if writer = some u then s else s.breakLink u pa n) s

/-- The units of a pair, of a cluster, of the device. -/
def unitsOfPair (p : Nat) : List Nat := [2 * p, 2 * p + 1]
def unitsOfCluster (c : Nat) : List Nat := (List.range 16).map (16 * c + ·)
def allUnits : List Nat := List.range 192
def allPairs : List Nat := List.range 96

/-! ## What a unit sees -/

/-- The youngest byte that a list of stores, oldest first, gives an address, with the store's number. -/
def pendingByte (l : List BufStore) (a : Nat) : Option (Byte × Nat) :=
  l.foldl (fun r b =>
    if b.pa ≤ a ∧ a < b.pa + b.data.length ∧ b.kind ≠ .control then some (b.data.getD (a - b.pa) 0, b.id) else r) none

/-- The byte that a unit sees at an address: its own buffer, its pair's stores, its cluster's, the
device's memory (R386, R389). -/
def State.seenByte (s : State) (u a : Nat) : Byte :=
  match pendingByte (s.unit u).stores a with
  | some r => r.1
  | none =>
    match pendingByte (s.pair (pairOf u)).stores a with
    | some r => r.1
    | none =>
      match pendingByte (s.cluster (clusterOf (pairOf u))).stores a with
      | some r => r.1
      | none => s.byte a

/-- n bytes as a unit sees them. -/
def State.seenBytes (s : State) (u a : Nat) : Nat → List Byte
  | 0 => []
  | n + 1 => s.seenByte u a :: s.seenBytes u (a + 1) n

/-- The stores of other units that a load of a unit took bytes from before the device saw them (R391). -/
def State.readsFrom (s : State) (u a n : Nat) : List Nat :=
  let from_ (l : List BufStore) : List Nat :=
    (l.filter fun b => b.unit ≠ u ∧ a < b.pa + b.data.length ∧ b.pa < a + n).map (·.id)
  from_ (s.pair (pairOf u)).stores ++ from_ (s.cluster (clusterOf (pairOf u))).stores

/-- Every store of a unit and every store that it read from is past a scope (R391). -/
def State.storesPast (s : State) (u : Nat) (sc : Scope) : Bool :=
  let x := s.unit u
  let c := s.cluster (clusterOf (pairOf u))
  let p := s.pair (pairOf u)
  let mine (l : List BufStore) : Bool := l.any fun b => decide (b.unit = u)
  let readIn (l : List BufStore) : Bool := l.any fun b => decide (b.id ∈ x.reads)
  match sc with
  | .unit => x.stores.isEmpty
  | .pair => x.stores.isEmpty && !mine p.stores && !readIn p.stores
  | .cluster => x.stores.isEmpty && !mine p.stores && !mine c.stores && !readIn p.stores && !readIn c.stores

/-- Every store of a unit is visible at device scope (R393). -/
def State.drained (s : State) (u : Nat) : Bool :=
  (s.unit u).stores.isEmpty && !((s.pair (pairOf u)).stores.any fun b => decide (b.unit = u)) &&
  !((s.cluster (clusterOf (pairOf u))).stores.any fun b => decide (b.unit = u))

/-- The size of a core's store buffer (R355). -/
def bufferSize : Nat := 32

def Arch.level (a : Arch) : Nat := bits a.sr.psw 1 0
def Arch.dphys (a : Arch) : Bool := a.sr.psw.getLsbD 6

/-- An access of level D with physical translation may reach the strongroom (R428). -/
def Arch.strongAllowed (a : Arch) : Bool := a.level == 2 && a.dphys

/-- A denied access to a strongroom (R428). -/
def State.strongDeny (s : State) (c : Nat) : State :=
  s.errEvent (clsReg Reg.CLS_SPERR c) 2 (Src.cluster c) 0 noPlot 0

/-- A store enters the buffer of its unit. -/
def State.pushStore (s : State) (u pa : Nat) (data : List Byte) (kind : StoreKind) : State :=
  let x := s.unit u
  (s.setUnit u { x with stores := x.stores ++
      [{ id := s.mem.nextStore, unit := u, pa := pa, data := data, kind := kind, slot := x.txn, mark := none, strong := x.arch.strongAllowed }] }).mapMem
    fun m => { m with nextStore := m.nextStore + 1 }

/-! ## Lines of the cluster caches -/

def lineOf (pa : Nat) : Nat := pa / 64 * 64
def setOf (pa : Nat) : Nat := pa / 64 % 16384

/-- The line of an address in a cluster's cache. -/
def State.line? (s : State) (c pa : Nat) : Option CLine :=
  (s.cluster c).lines.find? fun l => l.pa = lineOf pa

/-- A line stored in a cluster's cache in place of one of its address. -/
def State.putLine (s : State) (c : Nat) (l : CLine) : State :=
  s.mapCluster c fun x => { x with lines := x.lines.filter (fun y => y.pa ≠ l.pa) ++ [l] }

/-- A line leaves a cluster's cache without a write-back. -/
def State.dropLine (s : State) (c pa : Nat) : State :=
  s.mapCluster c fun x => { x with lines := x.lines.filter fun y => y.pa ≠ lineOf pa }

/-- A way of a set is locked (R415). -/
def State.wayLocked (s : State) (c w : Nat) : Bool := decide (w < 12) && s.bit (clsReg Reg.CLS_L2LOCK c) w

/-- The line in a way of the set of an address. -/
def State.wayLine (s : State) (c pa w : Nat) : Option CLine :=
  (s.cluster c).lines.find? fun l => setOf l.pa = setOf pa ∧ l.way = w

/-- A fill into a way of the set is in flight. -/
def State.wayFilling (s : State) (c pa w : Nat) : Bool :=
  (s.cluster c).fills.any fun f => setOf f.pa == setOf pa && f.way == w && !f.served

/-- A way may be replaced (R414). -/
def State.wayEligible (s : State) (c pa w : Nat) : Bool :=
  !s.wayLocked c w && !s.wayFilling c pa w &&
  (match s.wayLine c pa w with
   | some l => l.mark.isNone
   | none => true)

/-- One advance of the replacement register (R414). -/
def lfsrNext (v : Nat) : Nat :=
  let b := (v / 2 ^ 15 + v / 2 ^ 13 + v / 2 ^ 12 + v / 2 ^ 10) % 2
  (2 * v + b) % 65536

/-- The way that a miss takes, and whether the replacement register chose it (R414). -/
def State.chooseWay (s : State) (c pa : Nat) : Option (Nat × Bool) :=
  let ok := (List.range 16).filter (s.wayEligible c pa)
  match ok.find? fun w => (s.wayLine c pa w).isNone with
  | some w => some (w, false)
  | none =>
    let start := s.fld (clsReg Reg.CLS_L2LFSR c) 15 0 % 16
    (((List.range 16).map fun i => (start + i) % 16).find? fun w => decide (w ∈ ok)).map fun w => (w, true)

/-- A fill starts for a miss: a way is taken, its line leaves (with its write-back, if dirty); where no way
may be replaced the miss waits and SETFULL is set (R412, R414); without a credit it waits (R443). -/
def State.startFill (s : State) (c pa u : Nat) (f : FillFor) : State :=
  if s.creditOut c pa then s
  else match s.chooseWay c pa with
  | none => s.setBit (clsReg Reg.CLS_L2ERR c) 5 true
  | some (w, byLfsr) =>
    let s := if byLfsr then s.setFld (clsReg Reg.CLS_L2LFSR c) 15 0 (lfsrNext (s.fld (clsReg Reg.CLS_L2LFSR c) 15 0)) else s
    let s := match s.wayLine c pa w with
      | some l => s.dropLine c l.pa
      | none => s
    s.mapCluster c fun x =>
      { x with fills := x.fills ++ [{ pa := lineOf pa, way := w, cause := f, unit := u, doomed := false, served := false }] }

/-- A fill of a line is in flight in a cluster. -/
def State.filling (s : State) (c pa : Nat) : Bool :=
  (s.cluster c).fills.any fun f => f.pa == lineOf pa && !f.served

/-- A doomed fill has come for a unit's load or fetch (R419). -/
def State.servedFill (s : State) (c pa u : Nat) : Bool :=
  (s.cluster c).fills.any fun f => f.pa == lineOf pa && f.served && f.unit == u

/-- The data that a doomed fill brought has been used. -/
def State.useServed (s : State) (c pa u : Nat) : State :=
  s.mapCluster c fun x => { x with fills := x.fills.filter fun f => !(f.pa == lineOf pa && f.served && f.unit == u) }

/-- The fills of a line in flight in a cluster are doomed (R419). -/
def State.doom (s : State) (c pa : Nat) : State :=
  s.mapCluster c fun x => { x with fills := x.fills.map fun f => if f.pa = lineOf pa ∧ !f.served then { f with doomed := true } else f }

/-- A line is written back: it stays valid, clean, with its mark (R411, R418). -/
def State.cleanLine (s : State) (c pa : Nat) : State :=
  match s.line? c pa with
  | some l => s.putLine c { l with dirty := none }
  | none => s

/-- A maintenance operation invalidates a line in a cluster: written back if dirty, and gone unless it
carries a mark (R416, R418). A fill in flight is doomed (R419). -/
def State.invalLine (s : State) (c pa : Nat) : State :=
  let s := (s.cleanLine c pa).doom c pa
  match s.line? c pa with
  | some l => if l.mark.isSome then s else s.dropLine c pa
  | none => s

def allClusters : List Nat := List.range 12

/-- A store of a cluster takes a line from the other clusters: their copies go, their fills are doomed
(R408, R419). -/
def State.takeLine (s : State) (c pa : Nat) : State :=
  allClusters.foldl (fun s d =>
    if d = c then s else (s.doom d pa).dropLine d pa) s

/-- The bytes that DRAM holds under a line that some cluster holds dirty. -/
def State.dramUnder (s : State) (pa : Nat) : Option (List Byte) :=
  allClusters.findSome? fun c => (s.line? c pa).bind (·.dirty)

/-- A store writes a line in a cluster's cache: other copies go, a dirty line of an earlier epoch is
written back first, the line is dirty with the mark of a journaled store (R408, R410, R411). -/
def State.dirtyLine (s : State) (c pa : Nat) (mark : Option Nat) : State :=
  match s.line? c pa with
  | none => s
  | some l =>
    let under := (s.dramUnder pa).getD (s.bytes (lineOf pa) 64)
    let old :=
      match mark, l.mark with
      | some m, some k => if k < m then s.bytes (lineOf pa) 64 else under
      | _, _ => under
    (s.takeLine c pa).putLine c
      { l with dirty := some old, mark := match mark with
                                          | some m => some m
                                          | none => l.mark }

/-- The 64-byte lines that a range touches. -/
def linesOf (pa n : Nat) : List Nat :=
  if n = 0 then [] else (List.range ((pa + n - 1) / 64 + 1 - pa / 64)).map fun i => (pa / 64 + i) * 64

/-- Bytes become part of the device's memory. -/
def State.memStore (s : State) (pa : Nat) (data : List Byte) : State := (s.setBytes pa data).clearPoison pa data.length

/-- Bytes that no unit but the writer has seen become part of the device's memory: every link to them goes but the
writer's (R390, R400). -/
def State.deviceStore (s : State) (writer : Option Nat) (pa : Nat) (data : List Byte) : State :=
  (s.memStore pa data).breakLinks allUnits writer pa data.length

/-- The cluster caches stay coherent with a write that goes around them (R408): an unmarked copy goes, a marked one keeps
its mark. -/
def State.dropCopies (s : State) (pa n : Nat) : State :=
  (linesOf pa n).foldl (fun s l =>
    allClusters.foldl (fun s c =>
      match s.line? c l with
      | some x => if x.mark.isSome then s.cleanLine c l else (s.doom c l).dropLine c l
      | none => s.doom c l) s) s

/-- An engine, the Steward or another agent outside the clusters writes memory. -/
def State.agentStore (s : State) (pa : Nat) (data : List Byte) : State :=
  (s.dropCopies pa data.length).deviceStore none pa data

/-- The worst status that an engine at a stop meets in a range of memory (R438). -/
def State.agentStatus (s : State) (init pa n : Nat) : WarpStatus :=
  let st := (s.answerOf init pa).1
  let st := if st = .ok ∧ 0 < n then (s.answerOf init (pa + n - 1)).1 else st
  if st = .ok ∧ s.poisonIn pa n then .poison else st

/-! ## Reads of DRAM -/

/-- The channel of a DRAM address and the source of its controller. -/
def channelOf (pa : Nat) : Nat := Config.channelOf pa % 16

/-- A read of DRAM ends with a correction or uncorrectable (R423, R636). -/
def State.dramRead (s : State) (pa : Nat) (r : ReadResult) : State :=
  let n := channelOf pa
  match r with
  | .ok => s
  | .corrected => (s.count (Reg.MEM_CNT_CE + 4 * n) 1).errEvent Reg.MEM_ERR 2 (Src.mc (n / 2)) 1 noPlot 0
  | .poison =>
    ((s.count (Reg.MEM_CNT_UE + 4 * n) 1).errEvent Reg.MEM_ERR 3 (Src.mc (n / 2)) 2 noPlot 0).setPoison (lineOf pa) 64

/-! ## The epoch open at a pair -/

/-- The open epoch (R51). -/
def State.epoch (s : State) : Nat := s.reg64 Reg.TCK_EPOCH_LO

/-- The epoch open at a unit's pair: the one before while its tick is still to be presented (R56). -/
def State.epochAt (s : State) (u : Nat) : Nat :=
  if (s.unit u).latch.tick.isSome then s.epoch - 1 else s.epoch

/-- The newest unsealed epoch whose data a load at an address reads (R64): the mark of its line in any
cluster, when it is above the last sealed epoch. -/
def State.unsealedAt (s : State) (pa : Nat) : Option Nat :=
  (allClusters.findSome? fun c => (s.line? c pa).bind (·.mark)).bind fun m =>
    if s.reg64 Reg.TCK_SEALED_LO < m then some m else none

end Sys2Proof.Machine
end

