-- ==== Sys2Proof/Machine/Operands.lean ====
section
/-! DEFINITION. The operands of instructions: the register windows (R274 to R278), the special registers
(R279 to R281, R639), the feature registers (R304), address translation (R284 to R286). -/

namespace Sys2Proof.Machine

open Sys2Proof

/-! ## Integer and floating-point registers -/

/-- A window with nothing in it. -/
def Frame.empty : Frame := { v := zeroWords 8, n := zeroWords 8 }

/-- The current window. -/
def Windows.top (w : Windows) : Frame := w.frames.headD Frame.empty

/-- C0 to C7 of the current window: N0 to N7 of the caller, which lie in the file while the caller is
resident (R274, R277). -/
def Windows.incoming (w : Windows) : List Word :=
  match w.frames with
  | _ :: f :: _ => f.n
  | _ => w.baseC

/-- RESIDENT (R276). -/
def Windows.resident (w : Windows) : Nat := w.frames.length

/-- A change of the current window. -/
def Windows.mapTop (w : Windows) (f : Frame → Frame) : Windows :=
  match w.frames with
  | x :: l => { w with frames := f x :: l }
  | [] => { w with frames := [f Frame.empty] }

/-- C0 to C7 of the current window replaced. -/
def Windows.setIncoming (w : Windows) (c : List Word) : Windows :=
  match w.frames with
  | x :: y :: l => { w with frames := x :: { y with n := c } :: l }
  | _ => { w with baseC := c }

/-- An integer register; K0 reads zero (R274). -/
def Arch.reg (a : Arch) (r : BitVec 5) : Word :=
  let n := r.toNat
  if n = 0 then 0
  else if n < 8 then a.k.getD n 0
  else if n < 16 then a.win.incoming.getD (n - 8) 0
  else if n < 24 then a.win.top.v.getD (n - 16) 0
  else a.win.top.n.getD (n - 24) 0

/-- A write of an integer register; a write of K0 is discarded (R274). -/
def Arch.setReg (a : Arch) (r : BitVec 5) (x : Word) : Arch :=
  let n := r.toNat
  if n = 0 then a
  else if n < 8 then { a with k := a.k.set n x }
  else if n < 16 then { a with win := a.win.setIncoming (a.win.incoming.set (n - 8) x) }
  else if n < 24 then { a with win := a.win.mapTop fun f => { f with v := f.v.set (n - 16) x } }
  else { a with win := a.win.mapTop fun f => { f with n := f.n.set (n - 24) x } }

/-- A floating-point register (R275). -/
def Arch.freg (a : Arch) (r : BitVec 5) : DWord := a.f.getD r.toNat 0

/-- A write of a floating-point register. -/
def Arch.setF (a : Arch) (r : BitVec 5) (x : DWord) : Arch := { a with f := a.f.set r.toNat x }

/-- A binary32 result in a floating-point register: bits [63:32] are zero (R275). -/
def Arch.setF32 (a : Arch) (r : BitVec 5) (x : Nat) : Arch := a.setF r (BitVec.ofNat 64 (x % 2 ^ 32))

/-! ## Sliding the window -/

/-- The window stack of the pair area (R278). -/
def inWindowStack (off : Int) : Bool := decide (0x4000 ≤ off ∧ off + 64 ≤ 0x8000)

/-- A spill at WSP lies in the window stack (R278). -/
def spillFits (wsp : Word) : Bool := inWindowStack ((wsp.toNat : Int) - 64)

/-- A fill at WSP lies in the window stack (R278). -/
def fillFits (wsp : Word) : Bool := inWindowStack wsp.toNat

/-- The words that a spill stores: C0 to C7, then V0 to V7 of the oldest resident window (R276). -/
def Windows.spillWords (w : Windows) : List Word := w.baseC ++ (w.frames.getLastD Frame.empty).v

/-- The windows after the oldest resident one has been spilled: its N are the C of the next. -/
def Windows.spilled (w : Windows) : Windows :=
  { w with frames := w.frames.dropLast, baseC := (w.frames.getLastD Frame.empty).n }

/-- The windows after a caller's window of C and V words has been filled under the oldest resident one
(R277): its N are the C of that one. -/
def Windows.filled (w : Windows) (c v : List Word) : Windows :=
  { w with frames := w.frames ++ [{ v := v, n := w.baseC }], baseC := c }

/-- Steps 2 to 5 of R276: a new window with zeros, and the return address in V7 for CALL and CALLR. -/
def Windows.push (w : Windows) (v7 : Option Word) : Windows :=
  let f : Frame := match v7 with
    | some x => { Frame.empty with v := (zeroWords 8).set 7 x }
    | none => Frame.empty
  { w with frames := f :: w.frames, cwp := (w.cwp + 1) % 16, depth := w.depth + 1 }

/-- Steps 2 and 3 of R277. -/
def Windows.pop (w : Windows) : Windows :=
  { w with frames := w.frames.drop 1, cwp := (w.cwp + 15) % 16, depth := w.depth - 1 }

/-- WSTAT (R279). -/
def Windows.wstat (w : Windows) : Word :=
  BitVec.ofNat 32 (w.cwp % 16 + 16 * (w.resident % 32) + 512 * (w.depth % 512))

/-! ## Processor status -/

def Arch.ie (a : Arch) : Bool := a.sr.psw.getLsbD 2
def Arch.exl (a : Arch) : Bool := a.sr.psw.getLsbD 3
def Arch.txn (a : Arch) : Bool := a.sr.psw.getLsbD 4
def Arch.pcf (a : Arch) : Bool := a.sr.psw.getLsbD 5

/-- A change of the special registers. -/
def Arch.mapSr (a : Arch) (f : SpecRegs → SpecRegs) : Arch := { a with sr := f a.sr }

/-- Bits [hi:lo] of PSW replaced. -/
def Arch.setPsw (a : Arch) (hi lo v : Nat) : Arch := a.mapSr fun r => { r with psw := setBits r.psw hi lo v }

def Arch.setPcf (a : Arch) (v : Bool) : Arch := a.setPsw 5 5 v.toNat

/-! ## Special registers by number -/

/-- Access of a special register at a level (R279). -/
inductive SrAcc where
  | none | r | rw
  deriving DecidableEq, Repr

/-- Access at levels T, E, D of a special register; none when the number is unassigned. -/
def srAccess (n : Nat) : Option (SrAcc × SrAcc × SrAcc) :=
  if n = 0x00 then some (.rw, .rw, .rw)
  else if n = 0x01 ∨ n = 0x02 then some (.rw, .rw, .rw)
  else if n = 0x03 then some (.r, .rw, .rw)
  else if 0x04 ≤ n ∧ n ≤ 0x07 then some (.rw, .rw, .rw)
  else if n = 0x08 then some (.r, .r, .rw)
  else if n = 0x09 then some (.rw, .rw, .rw)
  else if n = 0x0A ∨ n = 0x0B then some (.r, .r, .r)
  else if 0x10 ≤ n ∧ n ≤ 0x12 then some (.none, .rw, .rw)
  else if n = 0x13 ∨ n = 0x14 then some (.none, .r, .r)
  else if n = 0x15 then some (.none, .rw, .rw)
  else if n = 0x23 then some (.none, .none, .r)
  else if 0x20 ≤ n ∧ n ≤ 0x25 then some (.none, .none, .rw)
  else if n = 0x30 ∨ n = 0x31 then some (.r, .r, .r)
  else none

/-- The access at one level. -/
def SrAcc.at (a : SrAcc × SrAcc × SrAcc) (level : Nat) : SrAcc :=
  if level = 0 then a.1 else if level = 1 then a.2.1 else a.2.2

/-- Fields [hi:lo] with their legal values, written into an old word (R280). -/
def writeSpec (old v : Word) (fs : List (Nat × Nat × (Nat → Bool))) : Word :=
  fs.foldl (fun w f => if f.2.2 (bits v f.1 f.2.1) then setBits w f.1 f.2.1 (bits v f.1 f.2.1) else w) old

def anyValue (_ : Nat) : Bool := true

/-- PSW after a write at a level (R279, R280). -/
def writePsw (level : Nat) (old v : Word) : Word :=
  let dcc := [(10, 8, fun x : Nat => decide (x ≤ 3))]
  let e := [(5, 5, anyValue), (3, 3, anyValue), (2, 2, anyValue)]
  let d := [(6, 6, anyValue)]
  writeSpec old v (if level = 0 then dcc else if level = 1 then dcc ++ e else dcc ++ e ++ d)

/-- EPSW and DEPSW after a write at a level; `top` is the greatest LEVEL that may be written (R639). -/
def writeSavedPsw (level top : Nat) (old v : Word) : Word :=
  writeSpec (writePsw level old v) v [(1, 0, fun x => decide (x ≤ top))]

/-- DECLEN after a write (R281). -/
def writeDeclen (old v : Word) : Word :=
  let ok (x : Nat) : Bool := decide (x ≠ 0)
  writeSpec old v [(14, 10, ok), (9, 5, ok), (4, 0, ok)]

/-- A space ID register: bits [19:0] (R279). -/
def spaceId (v : Word) : Word := v &&& 0xFFFFF#32

/-- The special registers after a write of one at a level that may write it. -/
def SpecRegs.write (r : SpecRegs) (level n : Nat) (v : Word) : SpecRegs :=
  if n = 0x00 then { r with psw := writePsw level r.psw v }
  else if n = 0x01 then { r with fpstat := v &&& 0x1F#32 }
  else if n = 0x02 then { r with fpctl := writeSpec r.fpctl v [(2, 0, fun x => decide (x ≤ 4))] }
  else if n = 0x03 then { r with wsp := v &&& 0xFFFFFFC0#32 }
  else if 0x04 ≤ n ∧ n ≤ 0x07 then { r with spc := r.spc.set (n - 4) (spaceId v) }
  else if n = 0x08 then { r with ispc := spaceId v }
  else if n = 0x09 then { r with declen := writeDeclen r.declen v }
  else if n = 0x10 then { r with epc := v }
  else if n = 0x11 then { r with epsw := writeSavedPsw level 1 r.epsw v }
  else if n = 0x12 then { r with eispc := spaceId v }
  else if n = 0x15 then { r with evba := v &&& 0xFFFFFC00#32 }
  else if n = 0x20 then { r with depc := v }
  else if n = 0x21 then { r with depsw := writeSavedPsw level 2 r.depsw v }
  else if n = 0x22 then { r with deispc := spaceId v }
  else if n = 0x24 then { r with deaddr := v }
  else if n = 0x25 then { r with dvba := v &&& 0xFFFFFC00#32 }
  else r

/-- TXINFO of a unit (R279). -/
def CoreUnit.txinfo (x : CoreUnit) : Word :=
  BitVec.ofNat 32 ((x.txn.getD 0) % 16384 + 16384 * (x.execPlot % 4096) + (if x.arch.txn then 2 ^ 31 else 0))

/-- The value of a special register of a unit. -/
def State.readSr (s : State) (u n : Nat) : Word :=
  let x := s.unit u
  let r := x.arch.sr
  if n = 0x00 then r.psw
  else if n = 0x01 then r.fpstat
  else if n = 0x02 then r.fpctl
  else if n = 0x03 then r.wsp
  else if 0x04 ≤ n ∧ n ≤ 0x07 then r.spc.getD (n - 4) 0
  else if n = 0x08 then r.ispc
  else if n = 0x09 then r.declen
  else if n = 0x0A then x.arch.win.wstat
  else if n = 0x0B then x.txinfo
  else if n = 0x10 then r.epc
  else if n = 0x11 then r.epsw
  else if n = 0x12 then r.eispc
  else if n = 0x13 then r.ecause
  else if n = 0x14 then r.eaddr
  else if n = 0x15 then r.evba
  else if n = 0x20 then r.depc
  else if n = 0x21 then r.depsw
  else if n = 0x22 then r.deispc
  else if n = 0x23 then r.decause
  else if n = 0x24 then r.deaddr
  else if n = 0x25 then r.dvba
  else if n = 0x30 then BitVec.ofNat 32 s.timeBase
  else if n = 0x31 then r.timeHi
  else 0

/-! ## Feature registers -/

/-- A pair is split into two units (R250, R379). -/
def State.isSplit (s : State) (p : Nat) : Bool := s.bit (Reg.SOW_PAIR + 4 * p) 4

/-- FEATn of a unit (R304). -/
def State.feat (s : State) (u n : Nat) : Word :=
  if n = 0 then 0x96120C81#32
  else if n = 1 then 0x00000FFF#32
  else if n = 2 then 0x10100440#32
  else if n = 3 then (if s.isSplit (pairOf u) then 0x80401E00#32 else 0x80403C00#32)
  else 0

/-! ## Address translation -/

/-- What an access needs: to read, to write, to execute. -/
inductive Access where
  | read | write | exec
  deriving DecidableEq, Repr

/-- Where an access goes and what its space says of it. -/
structure Place where
  pa        : Nat
  cacheable : Bool
  journaled : Bool
  pairArea  : Bool
  deriving DecidableEq, Repr

/-- Subcodes of TRANSLATE (R294). -/
def trForeign : Nat := 1
def trInvalid : Nat := 2
def trBounds : Nat := 3
def trRead : Nat := 4
def trWrite : Nat := 5
def trExec : Nat := 6
def trTlevel : Nat := 7
def trPairArea : Nat := 8
def trPhys : Nat := 9

/-- The pair area of a unit in its cluster's scratchpad (R285, R385). -/
def State.pairArea (s : State) (u : Nat) : Nat :=
  let cfg := s.reg (pairReg Reg.CLS_PAIRCFG (pairOf u))
  scratchBase + 0x400000 * clusterOf (pairOf u) +
    0x8000 * (if coreOf u = 1 then bits cfg 22 16 else bits cfg 14 8)

/-- A range of the pair area that lies wholly in [lo, hi). -/
def inRange (ea n lo hi : Nat) : Bool := decide (lo ≤ ea ∧ ea + n ≤ hi)

/-- Translation in the pair area (R285). -/
def State.xlatPair (s : State) (u level ea n : Nat) (acc : Access) : Except Nat Place :=
  let ok : Except Nat Place := .ok { pa := s.pairArea u + ea, cacheable := true, journaled := false, pairArea := true }
  if acc = .exec then .error trExec
  else if inRange ea n 0 0x100 then ok
  else if inRange ea n 0x1000 0x2000 then (if level = 0 ∧ acc = .write then .error trWrite else ok)
  else if inRange ea n 0x4000 0x8000 then (if level = 0 then .error trTlevel else ok)
  else .error trPairArea

/-- Translation through an entry of a space table (R285). -/
def Space.xlat (e : Space) (level ea n : Nat) (acc : Access) : Except Nat Place :=
  if !e.attr.testBit 0 then .error trInvalid
  else if e.pages * 4096 < ea + n then .error trBounds
  else if acc = .read ∧ !e.attr.testBit 1 then .error trRead
  else if acc = .write ∧ !e.attr.testBit 2 then .error trWrite
  else if acc = .exec ∧ !e.attr.testBit 3 then .error trExec
  else if level = 0 ∧ !e.attr.testBit 5 then .error trTlevel
  else .ok { pa := e.base + ea, cacheable := e.attr.testBit 6, journaled := e.attr.testBit 4, pairArea := false }

/-- Translation of n bytes at an effective address through a space ID (R284 to R286), with the subcode of
the first check that fails. Physical access is to no space, so it is neither cacheable nor journaled (log
entry 12); at D with DPHYS 0 no space ID is foreign (R284), and the fixed spaces read as at E (log entry
13). -/
def State.xlat (s : State) (u space ea n : Nat) (acc : Access) : Except Nat Place :=
  let x := s.unit u
  let level := x.arch.level
  if level = 2 ∧ x.arch.dphys then
    if space / 2 ^ 14 % 64 ≠ 0 then .error trPhys
    else .ok { pa := space % 2 ^ 14 * 2 ^ 32 + ea, cacheable := false, journaled := false, pairArea := false }
  else
    let plot := space / 256 % 4096
    let loc := space % 256
    if level < 2 ∧ plot ≠ x.execPlot then .error trForeign
    else if loc = 0xFD then
      if 0x1000000 < ea + n then .error trBounds
      else if acc = .write then .error trWrite
      else if acc = .exec then .error trExec
      else if level = 0 then .error trTlevel
      else .ok { pa := controlBase + ea, cacheable := false, journaled := false, pairArea := false }
    else if loc = 0xFF then s.xlatPair u level ea n acc
    else match s.plot plot with
      | none => .error trInvalid
      | some p =>
        if loc = 0xFE then
          if p.exec.length < ea + n then .error trBounds
          else if acc = .write then .error trWrite
          else if level = 0 then .error trTlevel
          else .ok { pa := p.execBase + ea, cacheable := false, journaled := false, pairArea := false }
        else (sget (fun _ => { base := 0, pages := 0, attr := 0 }) p.spaces loc).xlat level ea n acc

/-- The space ID that an SP field names. -/
def Arch.space (a : Arch) (sp : Nat) : Nat := (a.sr.spc.getD (sp % 4) 0).toNat % 2 ^ 20

/-- The first byte of a range whose access fails by itself, or the first byte of the range (R347: EADDR is
the first failing address in access order). -/
def State.firstBad (s : State) (u space ea n : Nat) (acc : Access) : Nat :=
  match (List.range n).find? fun i =>
      match s.xlat u space (ea + i) 1 acc with
      | .ok _ => false
      | .error _ => true with
  | some i => ea + i
  | none => ea

/-- A place lies in the 16 MiB of control space, in a block or not (R287, R634). -/
def Place.inControl (p : Place) : Bool := decide (controlBase ≤ p.pa ∧ p.pa < controlBase + 0x1000000)

end Sys2Proof.Machine
end

