-- ==== Sys2Proof/Machine/Flags.lean ====
section
/-! DEFINITION. The flags of the processor: the sticky flags of FPSTAT (R316), the rounding mode of FPCTL
(R315), the decimal condition DCC (R314) and the digit counts of DECLEN (R281). -/

namespace Sys2Proof.Machine

open Sys2Proof

/-- Flags of a floating-point function set, none cleared (R316). -/
def Arch.raise (a : Arch) (flags : Nat) : Arch :=
  a.mapSr fun r => { r with fpstat := r.fpstat ||| BitVec.ofNat 32 (flags % 32) }

/-- The rounding mode in force (R315). -/
def Arch.rounding (a : Arch) : Round := Round.of (bits a.sr.fpctl 2 0)

/-- DCC written (R314). -/
def Arch.setDcc (a : Arch) (v : Nat) : Arch := a.setPsw 10 8 v

/-- DCC as it stands. -/
def Arch.dcc (a : Arch) : Nat := bits a.sr.psw 10 8

/-- Digit counts of the destination and of the first and second source (R281). -/
def Arch.ld (a : Arch) : Nat := bits a.sr.declen 14 10
def Arch.la (a : Arch) : Nat := bits a.sr.declen 9 5
def Arch.lb (a : Arch) : Nat := bits a.sr.declen 4 0

end Sys2Proof.Machine
end

