-- ==== Sys2Proof/Machine/Units.lean ====
section
/-! DEFINITION. How a unit goes on: debug halts and breakpoints (R569 to R571), exceptions (R294 to R297)
and the return from one, retirement (R344, R356, R366), and the frame of one instruction. -/

namespace Sys2Proof.Machine

open Sys2Proof

/-! ## Debug halts -/

/-- A pair halts at a boundary with its cause and the breakpoints that matched (R569, R571). A tick that a unit's latch
holds is presented there: a halted pair owes no marker (R58). -/
def State.haltPair (s : State) (p : Nat) (cause : HaltCause) (hits : Nat) : State :=
  let halt (x : CoreUnit) : CoreUnit :=
    if x.halted then x
    else { x with halted := true, haltFrom := s.timeBase, stepping := false, latch := { x.latch with tick := none } }
  let s := (s.mapUnit (2 * p) halt).mapUnit (2 * p + 1) halt
  s.mapPair p fun x => { x with stop := some cause, bpHit := hits }

/-- Breakpoint k of a pair: its address and control words. -/
def Pair.bp (x : Pair) (k : Nat) : Word × Word := sget (fun _ => (0, 0)) x.bps k

/-- The breakpoints of a pair that a test admits, as a mask. -/
def Pair.hits (x : Pair) (f : Word → Word → Bool) : Nat :=
  ((List.range 8).map fun k =>
    let b := x.bp k
    if b.2.getLsbD 31 && f b.1 b.2 then 2 ^ k else 0).sum

/-- The fetch breakpoints that match a PC in a space (R571). -/
def Pair.fetchHits (x : Pair) (space : Nat) (pc : Word) : Nat :=
  x.hits fun addr ctl => decide (bits ctl 30 29 = 0 ∧ bits ctl 19 0 = space ∧ addr = pc)

/-- The data breakpoints that an access touches: kind 1 load, 2 store (R571). -/
def Pair.dataHits (x : Pair) (kind space ea n : Nat) : Nat :=
  x.hits fun addr ctl =>
    let w := addr.toNat / 4 * 4
    decide ((bits ctl 30 29 = kind ∨ bits ctl 30 29 = 3) ∧ bits ctl 19 0 = space ∧ ea < w + 4 ∧ w < ea + n)

/-! ## Exceptions -/

/-- An exception: code, subcode, the SP field and the effective address of the access, whether it is
taken at a boundary (R294, R297). -/
structure Exc where
  code  : Nat
  sub   : Nat
  sp    : Nat
  addr  : Nat
  async : Bool
  deriving DecidableEq, Repr

/-- Exception codes (R294). -/
def exIllegal : Nat := 0x01
def exPriv : Nat := 0x02
def exAlign : Nat := 0x03
def exTranslate : Nat := 0x04
def exJournal : Nat := 0x05
def exWindow : Nat := 0x06
def exTxn : Nat := 0x07
def exEcall : Nat := 0x08
def exDcall : Nat := 0x09
def exBreak : Nat := 0x0A
def exInterrupt : Nat := 0x0B
def exMcheck : Nat := 0x0C
def exDouble : Nat := 0x0D

/-- An exception of an instruction that makes no access. -/
def Exc.plain (code sub : Nat) : Exc := { code := code, sub := sub, sp := 0, addr := 0, async := false }

/-- An exception of a data access. -/
def Exc.at (code sub sp addr : Nat) : Exc := { code := code, sub := sub, sp := sp, addr := addr, async := false }

/-- An exception taken at a boundary. -/
def Exc.later (code sub : Nat) : Exc := { code := code, sub := sub, sp := 0, addr := 0, async := true }

/-- ECAUSE and DECAUSE (R297). -/
def Exc.cause (e : Exc) (level : Nat) (inTxn : Bool) : Word :=
  BitVec.ofNat 32 (e.code % 256 + 256 * (e.sub % 256) + 2 ^ 16 * e.async.toNat + 2 ^ 17 * inTxn.toNat +
    2 ^ 18 * (level % 4) + 2 ^ 20 * (e.sp % 4))

/-- An exception of this code is taken to D from a level (R294). -/
def toD (code level : Nat) : Bool :=
  code == exDcall || code == exMcheck || code == exDouble || (level == 2 && code != exInterrupt)

/-- The oldest resident window is spilled: 64 bytes at WSP − 64 enter the store buffer (R276). -/
def State.spill (s : State) (u : Nat) : State :=
  let x := s.unit u
  let wsp := x.arch.sr.wsp - 64
  let data := x.arch.win.spillWords.flatMap fun w => leBytes 4 w.toNat
  let s := s.pushStore u (s.pairArea u + wsp.toNat) data .scratch
  s.mapUnit u fun x => { x with arch :=
    { x.arch with win := x.arch.win.spilled, sr := { x.arch.sr with wsp := wsp }, link := none } }

/-- The executive of a unit's plot is there (R296). -/
def State.hasExec (s : State) (u : Nat) : Bool :=
  match s.plot (s.unit u).execPlot with
  | some p => !p.exec.isEmpty
  | none => false

/-- The spill that a slide needs does not fit in the window stack (R278). -/
def Arch.spillBlocked (a : Arch) : Bool := decide (16 ≤ a.win.resident) && !spillFits a.sr.wsp

/-- The slide of an exception entry (R295, step 4). A spill that does not fit does not take place
(R278), and only DOUBLE and the other entries to D meet one: the oldest window is then lost (log
entry 11). -/
def State.slideIn (s : State) (u : Nat) : State :=
  let a := (s.unit u).arch
  let s :=
    if a.win.resident < 16 then s
    else if a.spillBlocked then s.mapUnit u fun x => { x with arch := { x.arch with win := x.arch.win.spilled } }
    else s.spill u
  s.mapUnit u fun x => { x with arch := { x.arch with win := x.arch.win.push none } }

/-- PSW of a handler at a level: EXL 1, IE 0, PCF 0 (R295, R346), DPHYS 1 at D. -/
def handlerPsw (psw : Word) (level : Nat) : Word :=
  let w := setBits (setBits (setBits (setBits psw 1 0 level) 3 3 1) 2 2 0) 5 5 0
  if level = 2 then setBits w 6 6 1 else w

/-- A unit at the first instruction of a handler: no wait, no link (R400); a remote load that it left unretired
starts again, and so does a COMMIT that had not been accepted (R113, R134). -/
def State.inHandler (s : State) (u : Nat) (f : SpecRegs → SpecRegs) (pc : Word) : State :=
  let s := s.slideIn u
  let s := s.mapWeft fun w => { w with reqs := w.reqs.filter fun r => r.unit ≠ u ∨ r.write }
  let s := s.mapJournal fun j => { j with waits := j.waits.filter fun w => w.unit ≠ u }
  s.mapUnit u fun x =>
    { x with wait := .none, arch := { x.arch with pc := pc, sr := f x.arch.sr, link := none } }

/-- An exception taken to E (R295). -/
def State.enterE (s : State) (u : Nat) (e : Exc) : State :=
  let x := s.unit u
  let a := x.arch
  s.inHandler u
    (fun r => { r with
      epc := a.pc, epsw := a.sr.psw, eispc := a.sr.ispc, ecause := e.cause a.level a.txn
      eaddr := BitVec.ofNat 32 e.addr, psw := handlerPsw a.sr.psw 1
      ispc := BitVec.ofNat 32 (x.execPlot * 256 + 0xFE) })
    (a.sr.evba + BitVec.ofNat 32 (0x40 * e.code))

/-- An exception taken to D (R295), or device safe state while a D handler runs (R296). -/
def State.enterD (s : State) (u : Nat) (e : Exc) : State :=
  let a := (s.unit u).arch
  if a.level = 2 ∧ a.exl then s.event (pairOf u) 6 (detail noKind (s.unit u).execPlot 0)
  else
    s.inHandler u
      (fun r => { r with
        depc := a.pc, depsw := a.sr.psw, deispc := a.sr.ispc, decause := e.cause a.level a.txn
        deaddr := BitVec.ofNat 32 e.addr, psw := handlerPsw a.sr.psw 2, ispc := 0 })
      (a.sr.dvba + BitVec.ofNat 32 (0x40 * e.code))

/-- An exception is taken (R294 to R296): to D, to E, or as DOUBLE to D where E cannot take it. The Steward (unit 192) runs at
D and takes every one there. -/
def State.takeExc (s : State) (u : Nat) (e : Exc) : State :=
  let a := (s.unit u).arch
  if toD e.code a.level || u == 192 then s.enterD u e
  else if a.exl ∨ a.spillBlocked ∨ !s.hasExec u then
    s.enterD u { e with code := exDouble, sub := e.code }
  else s.enterE u e

/-! ## The return from an exception -/

/-- PC, PSW and ISPC restored from the saved registers of the current level; TXN and SPLIT stay as the
unit's state sets them (R295, R639). -/
def Arch.restore (a : Arch) : Arch :=
  let r := a.sr
  let saved : Word × Word × Word := if a.level = 2 then (r.depc, r.depsw, r.deispc) else (r.epc, r.epsw, r.eispc)
  let psw := setBits (setBits saved.2.1 4 4 (bits r.psw 4 4)) 7 7 (bits r.psw 7 7)
  { a with pc := saved.1, win := a.win.pop, sr := { r with psw := psw, ispc := saved.2.2 } }

/-! ## Retirement -/

/-- The transaction budget in force in µs (R43, R67). -/
def State.txBudget (s : State) : Nat := min (s.fld Reg.TCK_TXBUDGET 6 0) (s.tick.period / 2)

/-- A run of compared retirements clears RETRYCNT (R366). -/
def State.compared (s : State) (p : Nat) : State :=
  if s.isSplit p then s
  else
    let n := (s.pair p).cleanRun + 1
    if n < 1024 then s.mapPair p fun x => { x with cleanRun := n }
    else (s.mapPair p fun x => { x with cleanRun := 0 }).setFld (pairReg Reg.CLS_PAIRSTAT p) 17 16 0

/-- A unit under STEP has reached a boundary (R570). -/
def State.boundary (s : State) (u : Nat) : State :=
  if (s.unit u).stepping then s.haltPair (pairOf u) .step 0 else s

/-- The retirement count moves on, at a retirement and at the end of a unit (R356, R366). -/
def State.counted (s : State) (u : Nat) : State :=
  (s.mapUnit u fun x => { x with retired := x.retired + 1 }).compared (pairOf u)

/-- Core time and the budget of the attempt start at the first retirement (R68). -/
def State.startCore (s : State) (u : Nat) : State :=
  s.mapUnit u fun x =>
    if x.coreFrom.isNone && x.txn.isSome then
      { x with coreFrom := some s.timeBase, haltedNs := 0, budget := s.txBudget * 1000 }
    else x

/-- An instruction retires and the unit goes on at a PC (R344). -/
def State.retire (s : State) (u : Nat) (pc : Word) : State :=
  let s := s.mapUnit u fun x => { x with arch := { x.arch.setPcf false with pc := pc } }
  ((s.startCore u).counted u).boundary u

/-- A unit of operation that is not the last ends (R344). -/
def State.unitEnd (s : State) (u : Nat) : State :=
  let s := s.mapUnit u fun x => { x with arch := x.arch.setPcf true }
  (s.counted u).boundary u

/-! ## One instruction -/

/-- How an instruction or a unit of it ends: it retires (at PC + 4 or at a target), a unit that is not the
last is done, ERET has restored PC and PSW with its PCF, an exception, breakpoints that matched, the unit waits
at the boundary, the transaction has ended. -/
inductive Eff where
  | done (s : State) | jump (s : State) (pc : Word) | part (s : State) | back (s : State)
  | exc (s : State) (e : Exc)
  | stop (cause : HaltCause) (hits : Nat) | hold (s : State) | ended (s : State)
  deriving DecidableEq, Repr

/-- The inputs of the agreement latch that would act at the boundary (R298). -/
def CoreUnit.inputDue (x : CoreUnit) : Bool :=
  x.latch.tick.isSome || x.latch.mcheck.isSome || !x.latch.ends.isEmpty || x.latch.halt ||
  ((x.latch.engine || x.latch.doorbell) && x.arch.ie)

/-- A unit executes its next instruction now: it runs, is not halted, waits for nothing, no input acts
first, its pair is not stopped for a reload or a takeover, and the device is not in safe state (R588). -/
def State.ready (s : State) (u : Nat) : Bool :=
  let x := s.unit u
  let p := s.pair (pairOf u)
  x.run && !x.halted && decide (x.wait = .none) && !x.inputDue && !p.reload && p.takeover.isNone && !s.safe

/-- What an encoding must meet before its instruction has an effect (R293, tests 3 to 8; tests 1 and 2 are
met by every row of the table, and test 6 by this device). -/
structure Legal where
  reserved : Bool := true
  even     : Bool := true
  sreg     : Bool := true
  level    : Nat := 0
  srSub    : Nat := 0

/-- The first test that fails. -/
def Legal.fail (l : Legal) (level : Nat) : Option Exc :=
  if !l.reserved then some (Exc.plain exIllegal 3)
  else if !l.even then some (Exc.plain exIllegal 4)
  else if !l.sreg then some (Exc.plain exIllegal 5)
  else if level < l.level then some (Exc.plain exPriv 1)
  else if l.srSub ≠ 0 then some (Exc.plain exPriv l.srSub)
  else none

/-- The fetch of an instruction fails: translation, control space, poison, an error response (R284, R287,
R294). -/
def State.fetchFail (s : State) (u : Nat) : Option Exc :=
  let a := (s.unit u).arch
  match s.xlat u (a.sr.ispc.toNat % 2 ^ 20) a.pc.toNat 4 .exec with
  | .error sub => some (Exc.at exTranslate sub 0 a.pc.toNat)
  | .ok p =>
    if p.inControl then some (Exc.at exAlign 1 0 a.pc.toNat)
    else match (s.answerOf (clusterOf (pairOf u)) p.pa).1 with
      | .ok => if s.poisonIn p.pa 4 then some (Exc.at exMcheck 1 0 a.pc.toNat) else none
      | .poison => some (Exc.at exMcheck 1 0 a.pc.toNat)
      | _ => some (Exc.at exMcheck 2 0 a.pc.toNat)

/-- The outcome of an instruction in the unit. -/
def State.conclude (s : State) (u : Nat) (e : Eff) : State :=
  match e with
  | .done t => t.retire u ((t.unit u).arch.pc + 4)
  | .jump t pc => t.retire u pc
  | .part t => t.unitEnd u
  | .back t => ((t.startCore u).counted u).boundary u
  | .exc t x => (t.takeExc u x).boundary u
  | .stop c hits => s.haltPair (pairOf u) c hits
  | .hold t => t
  | .ended t => t

/-- A unit executes one instruction, or one unit of operation of it: nothing happens while the unit is not
ready; a fetch breakpoint, a failing fetch and a failing legality test come before the effect. -/
def State.execute (s : State) (u : Nat) (l : Legal) (body : State → Eff) : State :=
  if !s.ready u then s
  else
    let a := (s.unit u).arch
    let hits := (s.pair (pairOf u)).fetchHits (a.sr.ispc.toNat % 2 ^ 20) a.pc
    if hits ≠ 0 then s.conclude u (.stop .breakpoint hits)
    else match s.fetchFail u with
      | some e => s.conclude u (.exc s e)
      | none =>
        match l.fail a.level with
        | some e => s.conclude u (.exc s e)
        | none => s.conclude u (body s)

/-- A change of a unit's architected state. -/
def State.mapArch (s : State) (u : Nat) (f : Arch → Arch) : State :=
  s.mapUnit u fun x => { x with arch := f x.arch }

/-- An instruction that only writes architected state and retires. -/
def State.pure (s : State) (u : Nat) (l : Legal) (f : Arch → Arch) : State :=
  s.execute u l fun s => .done (s.mapArch u f)

end Sys2Proof.Machine
end

