-- ==== Sys2Proof/Machine/Sower.lean ====
section
/-! DEFINITION. The Sower and the way of a completion: credit accounts (R237, R238), the choice and the set-up
of a dispatch (R239 to R242, R283), completions to Swath (R213, R216, R217, R219, R233, R234). -/

namespace Sys2Proof.Machine

open Sys2Proof

/-! ## Completions -/

/-- A completion record (R216). -/
def Completion.record (c : Completion) : List Byte :=
  beBytes 2 c.queue ++ beBytes 2 c.status ++ beBytes 2 c.result.length ++ zeros 2 ++ beBytes 8 c.reqid ++
  beBytes 8 c.epoch ++ c.result ++ padTo 8 c.result.length

/-- The class of a status code (R16, R259). -/
def statusClass (st : Nat) : Nat := st / 4096 % 16

/-- An event session of a channel. -/
def eventRef (plot channel : Nat) : SessRef := { event := true, plot := plot, number := channel }

/-- A queue session. -/
def queueRef (plot queue : Nat) : SessRef := { event := false, plot := plot, number := queue }

/-- The held completions of an event session leave in one EVENT packet (R217). -/
def State.flushEvents (s : State) (r : SessRef) : State :=
  match s.session? r with
  | none => s
  | some x =>
    if x.held.isEmpty then s
    else
      (s.setSession { x with held := [] }).queuePacket r tyEvent (x.held.flatMap (·.record))
        (x.held.map fun c => (c.queue, c.slotNo)) (x.held.any fun c => c.cls = 0)

/-- A completion joins its event session, which sends when the packet is full or COAL_COUNT are held (R217; COAL_COUNT 0 as
1, log entry 139); where everything is to go at the end of the release, the count does not cut it up. A completion for a
channel with no session is held (R219). -/
def State.addEvent (s : State) (whole : Bool) (channel : Nat) (c : Completion) : State :=
  let r := eventRef c.plot channel
  match s.session? r with
  | none => s.mapEth fun e => { e with heldc := e.heldc ++ [{ channel := channel, since := s.time, comp := c }] }
  | some x =>
    let s := if 8960 < (x.held.map (·.record.length)).sum + c.record.length then s.flushEvents r else s
    match s.session? r with
    | none => s
    | some x =>
      let s := s.setSession { x with held := x.held ++ [c] }
      if !whole ∧ x.coalN ≤ x.held.length + 1 then s.flushEvents r else s

/-- Completions that come together go to the event sessions of their channels. A session without coalescing, and one that
an urgent completion reaches, sends all that it holds then, in as few packets as fit (R217). -/
def State.addEvents (s : State) (cs : List (Nat × Completion)) : State :=
  let ref (c : Nat × Completion) : SessRef := eventRef c.2.plot c.1
  let whole (r : SessRef) : Bool := (s.session? r).any (·.coalUs == 0) || cs.any fun c => c.2.cls == 0 && ref c == r
  let s := cs.foldl (fun s c => s.addEvent (whole (ref c)) c.1 c.2) s
  ((cs.map ref).eraseDups.filter whole).foldl State.flushEvents s

/-- A dedup entry after its answer has been handed to Swath (R213, R259). -/
def QPair.answered (q : QPair) (reqid status epoch : Nat) (committed : Bool) : QPair :=
  if statusClass status = 4 ∨ statusClass status = 5 then
    { q with dedup := q.dedup.filter fun d => d.reqid ≠ reqid }
  else
    { q with doneNo := q.doneNo + 1
             dedup := q.dedup.map fun d =>
               if d.reqid = reqid then { d with done := some (status, epoch), committed := committed, order := q.doneNo }
               else d }

/-- A slot of a submission ring after a change. -/
def QPair.mapSlot (q : QPair) (no : Nat) (f : QSlot → QSlot) : QPair :=
  { q with slots := q.slots.map fun x => if x.no = no then f x else x }

/-- A reset or the destruction of a queue that covers a queue of a plot (R244, R247). -/
def ResetRun.covers (r : ResetRun) (plot queue : Nat) : Bool :=
  r.plot == plot && (r.onlyQueue.isNone || r.onlyQueue == some queue)

/-- The reset under way that covers a queue. -/
def State.resetOf (s : State) (plot queue : Nat) : Option ResetRun := s.plots.resets.find? fun r => r.covers plot queue

/-- A completion is handed to Swath (R63, R213, R234): the slot is DONE, the window entry too, the
completion ring holds the record, the transaction slot is free (R242). -/
def State.handCompletion (s : State) (c : Completion) : State :=
  match s.qpair c.plot c.queue with
  | none => s
  | some _ =>
    let s := s.sample 0x04 c.cls (s.timeBase - c.arrival)
    let c := { c with handed := s.time }
    let s := s.mapQpair c.plot c.queue fun q =>
      let q := q.mapSlot c.slotNo fun x =>
        { x with sstate := .done, status := c.status, epoch := c.epoch, handed := true, tslot := none }
      let q := q.answered c.reqid c.status c.epoch (decide (c.status < 2))
      { q with cqHead := q.cqHead + 1, cq := q.cq ++ [{ slotNo := c.slotNo, kind := 1, pos := q.cqHead, bytes := c.record }] }
    s.mapSower fun w =>
      { w with slots := w.slots.filter fun t => !(t.plot == c.plot && t.queue == c.queue && t.slotNo == c.slotNo) }

/-- The event channel to which a completion goes: none of a plot or queue that is being reset, for which Swath answers
nothing (R244). -/
def State.eventOf (s : State) (c : Completion) : Option (Nat × Completion) :=
  if (s.resetOf c.plot c.queue).isSome then none
  else (s.qpair c.plot c.queue).map fun q => (q.channel, { c with handed := s.time })

/-- The ACK that a window risen from 0 calls for, which is then repeated (R209). -/
def State.windowRise (s : State) (r : SessRef) : State :=
  match s.session? r with
  | none => s
  | some x =>
    if x.window = 0 ∧ 0 < s.windowOf x then
      (s.sendAck r).mapEth fun e =>
        { e with sessions := e.sessions.map fun y => if y.is r then { y with repeatAck := true, repeatFrom := s.time } else y }
    else s

/-- The windows of the queue sessions after completions or freed slots (R209). -/
def State.windowsRise (s : State) : State :=
  ((s.eth.sessions.filter fun x => !x.event).map Session.ref).foldl State.windowRise s

/-- Completions that a release hands over together: urgent first, then by queue number (R63). Where that leaves the order
open (among the urgent ones, and between queues of one number), it is that of the transaction slots' list (log entry
140). -/
def State.handAll (s : State) (cs : List Completion) : State :=
  let urgent := cs.filter fun c => c.cls = 0
  let rest := (cs.filter fun c => c.cls ≠ 0).mergeSort fun a b => decide (a.queue ≤ b.queue)
  let s := (urgent ++ rest).foldl State.handCompletion s
  (s.addEvents ((urgent ++ rest).filterMap s.eventOf)).windowsRise

/-! ## Roles and pools -/

/-- The role of a pair (R376). -/
def State.role (s : State) (p : Nat) : Nat := s.fld (pairReg Reg.CLS_PAIRSTAT p) 3 0
def State.setRole (s : State) (p r : Nat) : State := s.setFld (pairReg Reg.CLS_PAIRSTAT p) 3 0 r

def roleUntested : Nat := 0
def roleActive : Nat := 1
def roleSpare : Nat := 2
def roleSplit : Nat := 3
def roleRetired : Nat := 4
def roleSplitting : Nat := 5
def roleRejoining : Nat := 6
def roleReleasing : Nat := 7

/-- A pair belongs to the pools of the Sower (R236, R241, R376). -/
def State.pooled (s : State) (p : Nat) : Bool := s.role p == roleActive || s.role p == roleSplit

/-- The class to which a pair is reserved (R241). -/
def State.reservedTo (s : State) (p : Nat) : Option Nat := s.sower.resv.lookup p

/-- The account of a unit's pool: 0 general, 1 + c reserved to class c (R237). -/
def State.poolOf (s : State) (p : Nat) : Nat :=
  match s.reservedTo p with
  | some c => c + 1
  | none => 0

/-- UNITS of an account (R237). -/
def State.poolSize (s : State) (acct : Nat) : Nat :=
  (allPairs.filter fun p => s.pooled p && s.poolOf p == acct).length

/-! ## Credit -/

/-- The plots served on the device. -/
def State.servedPlots (s : State) : List Nat := (s.plots.plots.map (·.1)).filter fun p => s.served p

/-- S, the sum of SHARE over the served plots (R237). -/
def State.shareSum (s : State) : Nat :=
  (s.servedPlots.map fun p => ((s.plot p).map (·.desc.share)).getD 0).sum

/-- SHARE' of a plot (R237). -/
def State.shareOf (s : State) (p : Nat) : Nat :=
  match s.plot p with
  | some x => if s.shareSum ≤ 1024 then x.desc.share else x.desc.share * 1024 / s.shareSum
  | none => 0

/-- The unthrottled accrual of an account at a tick of a period in ns (R237). -/
def State.accrual (s : State) (p acct periodNs : Nat) : Nat :=
  s.shareOf p * s.poolSize acct * periodNs / 1024

/-- A balance within its cap and floor (R237, R238). -/
def clampCredit (b : Int) (cap : Nat) : Int := max (-(cap : Int)) (min cap b)

/-- CAP in force (R250). -/
def State.creditCap (s : State) (p acct : Nat) : Nat :=
  (s.sower.cfg % 16) * s.accrual p acct (s.tick.period * 1000)

/-- The balance of an account. -/
def Plot.balance (x : Plot) (acct : Nat) : Int := x.credit.getD acct 0

/-- The accrual of a tick for every account of the served plots (R74, R237). -/
def State.accrue (s : State) : State :=
  let s := if 1024 < s.shareSum then s.setBit Reg.SOW_ERR 4 true else s
  let thr := s.bit Reg.TCK_STATUS 4
  let shift := s.fld Reg.TCK_THROTTLE 2 0
  s.servedPlots.foldl (fun s p =>
    let credit := (List.range 5).map fun acct =>
      let full := s.accrual p acct (s.tick.period * 1000)
      let add := if thr && !(acct == 1 && s.bit Reg.TCK_THROTTLE 8) then full / 2 ^ shift else full
      clampCredit ((((s.plot p).map fun x => x.balance acct).getD 0) + (add : Int)) (s.creditCap p acct)
    s.mapPlot p fun x => { x with credit := credit }) s

/-- The core time of a unit's attempt so far, by the time base (R40, R68). -/
def State.coreTime (s : State) (u : Nat) : Nat :=
  let x := s.unit u
  match x.coreFrom with
  | some t => (if x.halted then x.haltFrom else s.timeBase) - t - x.haltedNs
  | none => 0

/-- The core time of an ended attempt is charged to its account, half of it for a split core; the balance
stays at its floor (R238). -/
def State.charge (s : State) (u plot acct : Nat) : State :=
  let ns := s.coreTime u
  let s := s.sample 0x03 plot ns
  let due := if s.isSplit (pairOf u) then ns / 2 else ns
  let cap := s.creditCap plot acct
  s.mapPlot plot fun x => { x with credit := x.credit.set acct (max (-(cap : Int)) (x.balance acct - (due : Int))) }

/-! ## The choice of a request -/

/-- The segment of a library entry's program and its offset, from the table at LIB_BASE; none when it fails the tests of
R229. -/
def State.entry (s : State) (x : Plot) (index : Nat) : Option (Nat × Nat) :=
  if x.libCount ≤ index then none
  else
    let e := s.bytes (x.libBase + 8 * index) 8
    let sp := sget (fun _ => { base := 0, pages := 0, attr := 0 }) x.spaces (leAt e 0 1)
    if sp.attr.testBit 0 && sp.attr.testBit 3 && sp.attr.testBit 5 then some (leAt e 0 1, leAt e 4 4) else none

/-- A slot of a queue may be dispatched or handed as far as ORDERED decides (R269). -/
def QPair.orderOk (q : QPair) (x : QSlot) : Bool :=
  q.slots.all fun y =>
    if y.no < x.no then y.sstate == .done || (!x.ordered && !y.ordered) else true

/-- A plot's requests may be dispatched: it is served, ACTIVE and not fenced (R169, R244). -/
def State.mayDispatch (s : State) (p : Nat) : Bool :=
  s.served p && !s.fenced p && p != 0 &&
  (match s.plot p with
   | some x => x.desc.state == .active
   | none => false)

/-- A request the Sower may choose: its plot, queue and slot. -/
structure Cand where
  plot  : Nat
  queue : Nat
  slot  : QSlot
  deriving DecidableEq, Repr

/-- The requests that wait and may be dispatched to a unit: split cores serve only plots with SPLIT_OK
(R239). -/
def State.candidates (s : State) (split : Bool) : List Cand :=
  (s.plots.qpairs.filter fun q =>
    s.mayDispatch q.plot && !q.draining &&
    (!split || ((s.plot q.plot).map (·.desc.splitOk)).getD false)).flatMap fun q =>
      (q.slots.filter fun x => x.txn && x.checked && !x.look && x.sstate == .waiting && q.orderOk x).map fun x =>
        { plot := q.plot, queue := q.queue, slot := x }

/-- The order of requests by ARRIVAL, then plot, queue and slot index (R239). -/
def Cand.before (depth : Nat → Nat → Nat) (a b : Cand) : Bool :=
  let ka := [a.slot.arrival, a.plot, a.queue, a.slot.no % (max 1 (depth a.plot a.queue))]
  let kb := [b.slot.arrival, b.plot, b.queue, b.slot.no % (max 1 (depth b.plot b.queue))]
  decide (ka < kb)

/-- The first of some requests in the order of R239. -/
def State.oldest (s : State) (l : List Cand) : Option Cand :=
  let depth (p q : Nat) : Nat := ((s.qpair p q).map (·.depth)).getD 1
  l.foldl (fun r c =>
    match r with
    | some b => if Cand.before depth c b then some c else some b
    | none => some c) none

/-- The urgent transactions of a plot that run (R240). -/
def State.urgentRunning (s : State) (p : Nat) : Nat :=
  (s.sower.slots.filter fun t => t.plot = p ∧ t.cls = 0 ∧ t.unit.isSome).length

/-- The general balance of a plot. -/
def State.balanceOf (s : State) (p acct : Nat) : Int := ((s.plot p).map fun x => x.balance acct).getD 0

/-- Step 3 of R239: the plot with the highest ratio of balance to SHARE', the lower number on a tie. -/
def State.bestPlot (s : State) (ps : List Nat) : Option Nat :=
  ps.foldl (fun r p =>
    match r with
    | some b =>
      if s.balanceOf b 0 * (s.shareOf p : Int) < s.balanceOf p 0 * (s.shareOf b : Int) then some p else some b
    | none => some p) none

/-- Within a plot the highest class first, then the order of R239. -/
def State.firstOfPlot (s : State) (l : List Cand) (p : Nat) : Option Cand :=
  (List.range 4).findSome? fun c => s.oldest (l.filter fun x => x.plot = p ∧ x.slot.cls = c)

/-- Step 4 of R239: any waiting request, plots in round-robin order of their number. -/
def State.roundRobin (s : State) (l : List Cand) : Option Cand :=
  let ps := (s.plots.plots.map (·.1))
  let after := ps.filter fun p => s.sower.rr < p
  let upTo := ps.filter fun p => p ≤ s.sower.rr
  (after ++ upTo).findSome? fun p => s.firstOfPlot l p

/-- Step 1 of R239, for a unit reserved to a class: a plot whose SHARE' is 0 is not served here. -/
def State.chooseReserved (s : State) (l : List Cand) (c : Nat) : Option Cand :=
  s.oldest (l.filter fun x => x.slot.cls = c ∧ 0 < s.shareOf x.plot ∧ (c = 0 ∨ 0 < s.balanceOf x.plot (c + 1)))

/-- Steps 2 and 3 of R239, for a general unit: an urgent request that R240 admits, else the plot with the highest ratio. -/
def State.chooseGeneral (s : State) (l : List Cand) : Option Cand :=
  let urgent := l.filter fun x =>
    decide (x.slot.cls = 0) && decide (s.urgentRunning x.plot < ((s.plot x.plot).map (·.desc.urgMax)).getD 0)
  match s.oldest urgent with
  | some x => some x
  | none =>
    (s.bestPlot ((s.plots.plots.map (·.1)).filter fun q =>
      decide (0 < s.shareOf q) && decide (0 < s.balanceOf q 0) && l.any fun x => x.plot = q)).bind (s.firstOfPlot l)

/-- The request that a free unit takes, the account it is charged to (that of the unit's pool, log entry 144), and whether
step 4 chose it (R239). -/
def State.choose (s : State) (u : Nat) : Option (Cand × Nat × Bool) :=
  let p := pairOf u
  let l := s.candidates (s.isSplit p)
  let first := match s.reservedTo p with
    | some c => s.chooseReserved l c
    | none => s.chooseGeneral l
  match first with
  | some x => some (x, s.poolOf p, false)
  | none => if s.sower.cfg / 256 % 2 = 1 then (s.roundRobin l).map fun x => (x, s.poolOf p, true) else none

/-! ## Dispatch -/

/-- The parameters of a command packet: TYPE and value in order (R253); none when they do not parse. -/
def params : Nat → List Byte → Option (List (Nat × List Byte))
  | 0, l => if l.isEmpty then some [] else none
  | fuel + 1, l =>
    if l.isEmpty then some []
    else
      let n := beAt l 2 2
      let full := 4 + n + (4 - n % 4) % 4
      if l.length < full ∨ !((slice l (4 + n) (full - 4 - n)).all (· == 0)) then none
      else (params fuel (l.drop full)).map fun r => (beAt l 0 2, slice l 4 n) :: r

/-- The parameter area of a packet, parsed. -/
def packetParams (b : List Byte) : Option (List (Nat × List Byte)) := params b.length (b.drop 32)

/-- The transaction argument of a packet (R255). -/
def txnArg (b : List Byte) : List Byte :=
  match packetParams b with
  | some ps => (ps.lookup 1).getD []
  | none => []

/-- The architected state of a unit at dispatch (R242, R283). What dispatch leaves is that of the unit. -/
def Arch.dispatched (a : Arch) (plot space off : Nat) (arg : List Byte) (split : Bool) : Arch :=
  let ws := (wordsOf (fitTo 32 arg))
  let sp (n : Nat) : Word := BitVec.ofNat 32 (plot * 256 + n)
  { k := zeroWords 8, f := List.replicate 32 0, pc := BitVec.ofNat 32 off, link := none
    win := { frames := [Frame.empty, { Frame.empty with n := ws }], baseC := zeroWords 8, cwp := 1, depth := 1 }
    sr := { a.sr with
      psw := BitVec.ofNat 32 (0x14 + (if split then 0x80 else 0)), fpstat := 0, fpctl := 0, wsp := 0x8000
      spc := [sp 0xFF, sp 1, sp 2, sp 3, 0, 0, 0, 0], ispc := sp space, declen := 0x7FFF
      epc := 0, epsw := 0, eispc := 0, ecause := 0, eaddr := 0, evba := 0, timeHi := 0 } }

/-- A unit starts a transaction (R242, R283): parameter area and result area written, count and core time
at zero. -/
def State.startUnit (s : State) (u : Nat) (t : TSlot) : State :=
  let pa := s.pairArea u
  let s := (s.setBytes pa (zeros 256)).setBytes (pa + 0x1000) t.arg
  s.mapUnit u fun x =>
    { x with arch := x.arch.dispatched t.plot t.space t.off t.arg (s.isSplit (pairOf u))
             txn := some t.slot, run := true, wait := .none, retired := 0, coreFrom := none, haltedNs := 0
             budget := 0, reads := [], lines := [], readEpoch := none, spanned := [], spanStored := false
             execPlot := t.plot }

/-- The lowest free transaction slot (R242). -/
def State.freeSlot (s : State) : Option Nat :=
  (List.range 16384).find? fun n => !(s.sower.slots.any fun t => t.slot = n)

/-- The Sower dispatches now: admission is open, no stop is set (R142, R250), not in safe state (R588). -/
def State.dispatching (s : State) : Bool :=
  s.bit Reg.TCK_STATUS 2 && !s.bit Reg.SOW_CTRL 0 && !s.journal.stopWas && !s.safe

/-- A unit is free for the Sower (R236, R239, R569). -/
def State.freeUnit (s : State) (u : Nat) : Bool :=
  let x := s.unit u
  let p := pairOf u
  decide (u < 192) && s.pooled p && x.txn.isNone && !x.run && !x.halted && !(s.pair p).reload &&
  (s.pair p).takeover.isNone && (s.isSplit p || coreOf u == 0)

/-- A request that failed R229 is completed with BAD_ENTRY (R229, R262). -/
def State.badEntry (s : State) (c : Cand) : State :=
  (s.setBit Reg.SOW_ERR 2 true).handAll
    [{ plot := c.plot, queue := c.queue, slotNo := c.slot.no, reqid := c.slot.reqid, status := 0x2007, epoch := 0
       result := [], cls := c.slot.cls, arrival := c.slot.arrival, handed := 0 }]

/-- The dispatch of a transaction slot to a unit: stamp, sequence number and counts (R104, R242). -/
def State.bind (s : State) (u : Nat) (c : Cand) (t : TSlot) (rr : Bool) : State :=
  let s := s.mapSower fun w =>
    { w with slots := (w.slots.filter fun x => x.slot ≠ t.slot) ++ [t], rr := if rr then c.plot else w.rr }
  let s := s.mapQpair c.plot c.queue fun q =>
    q.mapSlot c.slot.no fun x => { x with sstate := .dispatched, tslot := some t.slot }
  let s := s.setReg64 Reg.SOW_CNT_DISP_LO (s.reg64 Reg.SOW_CNT_DISP_LO + 1)
  let s := s.sample 0x05 t.cls (s.timeBase - c.slot.arrival)
  s.startUnit u t

/-- A free unit takes its next request (R239, R242, R262). -/
def State.dispatch (s : State) (u : Nat) : State :=
  if !(s.dispatching && s.freeUnit u) then s
  else match s.choose u with
    | none => s
    | some (c, acct, rr) =>
      match c.slot.tslot.bind s.tslot with
      | some t => s.bind u c { t with unit := some u, account := acct, attempt := t.attempt + 1, redo := false } rr
      | none =>
        match (s.plot c.plot).bind fun x => s.entry x (beAt c.slot.packet 20 2) with
        | none => s.badEntry c
        | some (space, off) =>
          match s.freeSlot with
          | none => s.setBit Reg.SOW_ERR 1 true
          | some n =>
            let t : TSlot :=
              { slot := n, plot := c.plot, queue := c.queue, slotNo := c.slot.no, reqid := c.slot.reqid
                cls := c.slot.cls, account := acct, attempt := 1, stamp := s.tick.openTime
                seq := s.sower.nextSeq, space := space, off := off, arg := txnArg c.slot.packet
                unit := some u, redo := false, waitOn := none, result := none, span := false }
            (s.mapSower fun w => { w with nextSeq := w.nextSeq + 1 }).bind u c t rr

end Sys2Proof.Machine
end

