-- ==== Sys2Proof/Machine/Txn.lean ====
section
/-! DEFINITION. How a transaction runs and ends on its unit: capture and undo (R126 to R128, R132, R413), the
end of an attempt (R63 to R65, R114, R238, R302), the inputs of the agreement latch (R298, R361 to R363), the
stake instructions and their answers (R99 to R101, R106 to R111, R116), ABORT and ABORT.F. -/

namespace Sys2Proof.Machine

open Sys2Proof

/-! ## Regions and capture -/

/-- The region that holds a plot's records, base and size: the replica region for an adopted plot (R123,
R173). -/
def State.liveRegion (s : State) (plot : Nat) : Nat × Nat :=
  let adopted := match s.plot plot with
    | some p => !p.own
    | none => false
  if adopted then (s.reg64 Reg.JNL_REPL_BASE_LO, s.fld Reg.JNL_REGION 12 0 * 2 ^ 30)
  else (s.reg64 Reg.JNL_LIVE_BASE_LO, s.fld Reg.JNL_REGION 28 16 * 2 ^ 30)

/-- The line entries that a unit's capture area holds (R126). -/
def State.captureLimit (s : State) (u : Nat) : Nat := if s.isSplit (pairOf u) then 240 else 480

/-- A line entry of an offset is there. -/
def hasLine (l : List LineEntry) (off : Nat) : Bool := l.any fun e => e.off == off

/-- The bytes of a line as a unit's pair sees them, its own buffer left out. -/
def State.pairLine (s : State) (u pa : Nat) : List Byte :=
  (s.mapUnit u fun x => { x with stores := [] }).seenBytes u (lineOf pa) 64

/-- The address of line entry i in the capture area of a unit (R126, R378). -/
def State.capEntry (s : State) (u i : Nat) : Nat :=
  scratchBase + 0x400000 * clusterOf (pairOf u) + 0x10000 * bits (s.reg (pairReg Reg.CLS_PAIRCFG (pairOf u))) 29 24 +
    0x8000 * coreOf u + 136 * i

/-- The offset or the before-image of a used line entry is uncorrectable (R426). -/
def State.capPoisoned (s : State) (u : Nat) : Bool :=
  (List.range (s.unit u).lines.length).any fun i => s.poisonIn (s.capEntry u i) 72

/-- A capture unit meets it: device safe state (R426). -/
def State.captureLost (s : State) (u : Nat) : State :=
  let c := clusterOf (pairOf u)
  s.errEvent (clsReg Reg.CLS_SPERR c) 1 (Src.cluster c) 6 (s.unit u).execPlot (pairOf u)

/-- A store of a transaction leaves the buffer: an entry for each line it is the first to touch, with its offset and
before-image, which stand in the capture area (R126, R127). -/
def State.captureStore (s : State) (u : Nat) (b : BufStore) : State :=
  let base := (s.liveRegion (s.unit u).execPlot).1
  (linesOf b.pa b.data.length).foldl (fun s l =>
    if hasLine (s.unit u).lines (l - base) then s
    else
      let before := s.pairLine u l
      let at_ := s.capEntry u (s.unit u).lines.length
      ((s.clearPoison at_ 72).setBytes at_ (leBytes 8 (l - base) ++ fitTo 64 before)).mapUnit u fun x => { x with lines := x.lines ++ [{ off := l - base, before := before, after := [] }] }) s

/-- The bit of JNL_ERR that stores to ranges of journaled memory would set, when capture refuses them (R128): outside
the live region, or past the line entries, those of stores still in the buffer counted. -/
def State.captureFails (s : State) (u : Nat) (ranges : List (Nat × Nat)) : Option Nat :=
  let x := s.unit u
  let r := s.liveRegion x.execPlot
  if ranges.any (fun a => !(decide (r.1 ≤ a.1 ∧ a.1 + a.2 ≤ r.1 + r.2))) then some 4
  else
    let queued := (x.stores.filter fun b => b.kind = .journal).flatMap fun b => linesOf b.pa b.data.length
    let fresh := (queued ++ ranges.flatMap fun a => linesOf a.1 a.2).foldl (fun l a =>
      if hasLine x.lines (a - r.1) ∨ a ∈ l then l else l ++ [a]) []
    if s.captureLimit u < x.lines.length + fresh.length then some 3 else none

/-- The same for one store. -/
def State.captureFail (s : State) (u pa n : Nat) : Option Nat := s.captureFails u [(pa, n)]

/-! ## Undo -/

/-- A line with given bytes and mark is put into a cluster's cache and replaces other copies; where no way
of the set is eligible it goes to memory without a line (log entry 15). -/
def State.placeLine (s : State) (c pa : Nat) (data : List Byte) (mark : Option Nat) : State :=
  let s :=
    match s.line? c pa, s.chooseWay c pa with
    | none, some (w, byLfsr) =>
      let s := if byLfsr then s.setFld (clsReg Reg.CLS_L2LFSR c) 15 0 (lfsrNext (s.fld (clsReg Reg.CLS_L2LFSR c) 15 0)) else s
      let s := match s.wayLine c pa w with
        | some l => s.dropLine c l.pa
        | none => s
      s.putLine c { pa := lineOf pa, way := w, mark := none, dirty := none }
    | _, _ => s
  (s.dirtyLine c pa mark).deviceStore none (lineOf pa) data

/-- The before-images of a unit's transaction are written back, last entry first; the lines carry the mark
of the open epoch (R132, R413). -/
def State.undo (s : State) (u : Nat) : State :=
  let base := (s.liveRegion (s.unit u).execPlot).1
  let c := clusterOf (pairOf u)
  if s.capPoisoned u then s.captureLost u
  else (s.unit u).lines.reverse.foldl (fun s e => s.placeLine c (base + e.off) e.before (some (s.epochAt u))) s

/-! ## The end of an attempt -/

/-- The wounds that wait in a unit's latch are discarded (R107, R298). -/
def State.dropWounds (s : State) (u : Nat) : State :=
  (s.unit u).latch.ends.foldl (fun s e =>
    match e with
    | .wound slice _ => s.lateWound slice
    | _ => s) s

/-- A unit goes back to the Sower: its state is discarded, a tick that waits for it acts at once, its COMMIT
no longer waits (R58, R298, R302). -/
def State.freeUp (s : State) (u : Nat) : State :=
  let s := s.mapUnit u fun x =>
    { x with txn := none, run := false, wait := .none, retired := 0, coreFrom := none, haltedNs := 0, budget := 0
             reads := [], lines := [], readEpoch := none, spanned := [], spanStored := false
             latch := { x.latch with tick := none, ends := [] }
             arch := { x.arch.setPsw 4 4 0 with link := none } }
  let s := s.mapWeft fun w => { w with reqs := w.reqs.filter fun r => r.unit ≠ u ∨ r.write }
  s.mapJournal fun j => { j with waits := j.waits.filter fun w => w.unit ≠ u }

/-- An attempt is over on its unit: charged, its stakes on their way back, the unit free (R113, R114, R238). -/
def State.leave (s : State) (u : Nat) (t : TSlot) : State :=
  let s := s.charge u t.plot t.account
  let s := s.dropWounds u
  (s.releaseStakes t).freeUp u

/-- A transaction slot replaced. -/
def State.setTslot (s : State) (t : TSlot) : State :=
  s.mapSower fun w => { w with slots := w.slots.map fun x => if x.slot = t.slot then t else x }

/-- The completion of a transaction (R216). -/
def State.completion (s : State) (t : TSlot) (status epoch : Nat) (result : List Byte) : Completion :=
  let arrival := ((s.qpair t.plot t.queue).bind fun q => q.slots.find? fun x => x.no = t.slotNo).map (·.arrival)
  { plot := t.plot, queue := t.queue, slotNo := t.slotNo, reqid := t.reqid, status := status, epoch := epoch
    result := result, cls := t.cls, arrival := arrival.getD 0, handed := 0 }

/-- A completion is released at once, or waits for the seal of an epoch (R63, R65). In device safe state none
is released (R588). -/
def State.complete (s : State) (t : TSlot) (c : Completion) (wait : Option Nat) : State :=
  if wait.isNone ∧ !s.safe then s.handAll [c]
  else s.setTslot { t with unit := none, result := some c, waitOn := some (wait.getD 0) }

/-- The epoch whose seal a completion without a journaled change waits for: the newest unsealed one that the
transaction read (R64, R65). -/
def State.readWait (s : State) (u : Nat) : Option Nat :=
  (s.unit u).readEpoch.bind fun e => if s.reg64 Reg.TCK_SEALED_LO < e then some e else none

/-- An entry of the report of the reset that covers a transaction, whose slots are then free (R246). -/
def State.report (s : State) (t : TSlot) (outcome status epoch : Nat) (aborted : Bool) : State :=
  let s := s.mapPlots fun p =>
    { p with resets := p.resets.map fun r =>
        if r.covers t.plot t.queue then
          { r with aborted := r.aborted + aborted.toNat
                   entries := r.entries ++
                     [{ queue := t.queue, outcome := outcome, status := status, reqid := t.reqid, epoch := epoch }] }
        else r }
  let s := s.mapQpair t.plot t.queue fun q =>
    { q with slots := q.slots.map fun x => if x.no = t.slotNo then { x with sstate := .done, tslot := none, session := 0 } else x
             dedup := q.dedup.filter fun d => d.reqid ≠ t.reqid }
  s.mapSower fun w => { w with slots := w.slots.filter fun x => x.slot ≠ t.slot }

/-- A request goes back to the Sower with its age (R66, R81, R104, R106); during a reset of its plot it is
reported instead (R244, R246). -/
def State.requeue (s : State) (t : TSlot) (outcome : Nat) (aborted : Bool) : State :=
  if (s.resetOf t.plot t.queue).isSome then s.report t outcome 0 0 aborted
  else
    (s.setTslot { t with unit := none, redo := true, waitOn := none, result := none, span := false }).mapQpair t.plot t.queue
      fun q => q.mapSlot t.slotNo fun x => { x with sstate := .waiting }

/-- The homes of a transaction's remote line entries learn that it ended without COMMIT (R532). -/
def State.spanAbort (s : State) (u : Nat) (t : TSlot) : State :=
  let x := s.unit u
  let s := s.mapWeft fun w => { w with spans := w.spans.filter fun p => p.slot ≠ t.slot }
  if x.spanStored then
    x.spanned.foldl (fun s d => s.weftSend d wfSpanNotice (beBytes 1 0 ++ (s.partyOf t).bytes)) s
  else s

/-- A transaction ends without COMMIT: before-images back, notices to its homes, stakes released. -/
def State.abandon (s : State) (u : Nat) (t : TSlot) : State := ((s.undo u).spanAbort u t).leave u t

/-- A transaction ends without COMMIT and its request is completed with a status of class 0x1 (R65). -/
def State.abortWith (s : State) (u : Nat) (status : Nat) : State :=
  match (s.unit u).txn.bind s.tslot with
  | none => s.freeUp u
  | some t =>
    let wait := s.readWait u
    let s := s.abandon u t
    s.complete { t with unit := none } (s.completion t status 0 []) wait

/-- A transaction ends without COMMIT and is dispatched again (R77, R106). -/
def State.abortRedo (s : State) (u : Nat) : State :=
  match (s.unit u).txn.bind s.tslot with
  | none => s.freeUp u
  | some t => (s.abandon u t).requeue t 3 true

/-- A budget overrun (R69, R638). -/
def State.overrun (s : State) (u : Nat) : State :=
  let plot := (s.unit u).execPlot
  let inst := pairOf u + (if s.isSplit (pairOf u) ∧ coreOf u = 1 then 128 else 0)
  let s := s.abortWith u 0x1002
  ((s.count Reg.TCK_CNT_OVR 1)).errEvent Reg.TCK_ERR 3 Src.tick 0 plot inst

/-- A refused capture ends the transaction with CAPTURE_REFUSED (R128). -/
def State.captureRefused (s : State) (u bit : Nat) : State :=
  let plot := (s.unit u).execPlot
  (s.abortWith u 0x1003).errEvent Reg.JNL_ERR bit Src.journal 0 plot (pairOf u)

/-! ## Inputs at a boundary -/

/-- The order in which inputs that end a transaction decide (R298). -/
def EndInput.rank : EndInput → Nat
  | .reset => 0 | .rollback => 1 | .budget => 2 | .wound _ _ => 3 | .capture => 4

/-- An input joins the latch; one of a kind that is pending merges with it (R363). -/
def Latch.addEnd (l : Latch) (e : EndInput) : Latch :=
  if l.ends.any fun x => x.rank == e.rank then l else { l with ends := l.ends ++ [e] }

/-- An input that ends a transaction reaches a unit's latch. -/
def State.endInput (s : State) (u : Nat) (e : EndInput) : State :=
  s.mapUnit u fun x => { x with latch := x.latch.addEnd e }

/-- The input that decides: the first in the order of R298. -/
def Latch.decider (l : Latch) : Option EndInput :=
  (List.range 5).findSome? fun k => l.ends.find? fun e => e.rank == k

/-- The inputs that would end a spanning transaction whose COMMIT waits for acceptance are discarded
(R533). -/
def State.dropEnds (s : State) (u : Nat) : State :=
  (s.dropWounds u).mapUnit u fun x => { x with latch := { x.latch with ends := [] } }

/-- A unit stands at a COMMIT that waits for acceptance by other devices. -/
def CoreUnit.spanning (x : CoreUnit) : Bool :=
  match x.wait with
  | .span _ => true
  | _ => false

/-- A latch without its wound: the one that decides is not discarded (R107). -/
def Latch.noWound (l : Latch) : Latch := { l with ends := l.ends.filter fun e => e.rank ≠ 3 }

/-- The end of a transaction by the input that decides, once the unit's stores have drained. -/
def State.actEnd (s : State) (u : Nat) : State :=
  let x := s.unit u
  if x.spanning then s.dropEnds u
  else if !s.drained u then s
  else match x.latch.decider with
    | none => s
    | some .budget => s.overrun u
    | some .capture => s.captureRefused u 3
    | some (.wound _ _) => (s.mapUnit u fun x => { x with latch := x.latch.noWound }).abortRedo u
    | some _ => s.abortRedo u

/-- An interrupt is taken when PSW.IE is 1, ENGINE first; while PSW.IE is 0 it ends a WAITI and stays pending
(R298, R637). An end of the transaction that waits for stores to drain comes before it. -/
def State.actInterrupt (s : State) (u : Nat) : State :=
  let x := s.unit u
  if !(x.latch.engine || x.latch.doorbell) ∨ !x.run ∨ !x.latch.ends.isEmpty then s
  else if x.arch.ie then
    let sub := if x.latch.engine then 1 else 2
    let s := s.mapUnit u fun x =>
      { x with latch := if x.latch.engine then { x.latch with engine := false } else { x.latch with doorbell := false } }
    s.takeExc u (Exc.later exInterrupt sub)
  else if x.wait = .waiti then s.mapUnit u fun x => { x with wait := .none }
  else s

/-- The tick and MCHECK act at a unit's boundary (R57, R298). -/
def State.actFirst (s : State) (u : Nat) : State :=
  let s := s.mapUnit u fun x => { x with latch := { x.latch with tick := none } }
  match (s.unit u).latch.mcheck with
  | some sub =>
    (s.mapUnit u fun x => { x with latch := { x.latch with mcheck := none } }).takeExc u (Exc.later exMcheck sub)
  | none => s

/-- A debug halt acts at a boundary (R569). -/
def State.actHalt (s : State) (u : Nat) : State :=
  if (s.unit u).latch.halt then
    (s.mapUnit u fun x => { x with latch := { x.latch with halt := false } }).haltPair (pairOf u) .request 0
  else s

/-- A unit stands at the first instruction of the D handler of an exception. -/
def Arch.atHandler (a : Arch) (code : Nat) : Bool :=
  a.level == 2 && a.exl && a.pc == a.sr.dvba + BitVec.ofNat 32 (0x40 * code) && bits a.sr.decause 7 0 == code

/-- What D firmware does at the first instruction of its handlers (log entry 112). An MCHECK is recorded, class 2; a
transaction then ends as by ABORT.F, and a unit without one is idle again (R299). The Steward returns from its handlers. -/
def State.firmware (s : State) (u : Nat) : State :=
  let a := (s.unit u).arch
  if a.atHandler exMcheck then
    if u = 192 then (s.event Src.steward 2 (detail noKind noPlot 0)).mapUnit u fun x => { x with arch := x.arch.restore }
    else if !s.drained u then s
    else (s.event (pairOf u) 2 (detail noKind (s.unit u).execPlot 0)).abortWith u 0x1004
  else if u = 192 ∧ a.atHandler exInterrupt then s.mapUnit u fun x => { x with arch := x.arch.restore }
  else s

/-- The inputs pending at a unit's boundary act in the order of R298. On a halted unit only those act that end
the transaction (R569); an idle one takes an MCHECK (R299). -/
def State.actInputs (s : State) (u : Nat) : State :=
  let x := s.unit u
  let p := s.pair (pairOf u)
  if s.safe ∨ p.takeover.isSome ∨ p.reload then s
  else if x.halted then s.actEnd u
  else if !x.run then
    if x.latch.mcheck.isSome then (s.mapUnit u fun x => { x with run := true }).actFirst u else s.actHalt u
  else if x.inputDue then (((s.actFirst u).actEnd u).actInterrupt u).actHalt u
  else if x.latch.engine || x.latch.doorbell then s.actInterrupt u
  else s.firmware u

/-- The Gleaner's interrupts reach the latch of the Steward pair as one DOORBELL (R294, R580; log entry 45). -/
def State.presentBell (s : State) (u : Nat) : State :=
  if u = 192 ∧ s.gleaner.doorbells ≠ 0 then
    (s.mapGleaner fun g => { g with doorbells := 0 }).mapUnit u fun x => { x with latch := { x.latch with doorbell := true } }
  else s

def execAsyncInputAtBoundary (unit : Nat) (s : State) : Ans := .next ((s.presentBell unit).actInputs unit)

/-- A transaction's core time has passed its budget: the input reaches the latch (R69). A COMMIT that retires in the
nanosecond of the expiry comes before it (R18). -/
def execBudgetExpire (t unit : Nat) (s : State) : Ans :=
  let s := s.advance t
  let x := s.unit unit
  .next (if x.txn.isSome && x.coreFrom.isSome && !x.halted && decide (x.budget < s.coreTime unit) && !s.safe then
    s.endInput unit .budget else s)

/-- A free unit asks the Sower for its next request (R239, R242). -/
def execDispatch (t unit : Nat) (s : State) : Ans := .next ((s.advance t).dispatch unit)

/-! ## ABORT and ABORT.F -/

/-- ABORT and ABORT.F (R301, R302, R393): after every store of the unit is visible the transaction ends. -/
def State.abortOp (s : State) (u : Nat) (f : RegF) (level status : Nat) : State :=
  s.execute u { reserved := f.rd == 0 && f.ra == 0 && f.rb == 0 && f.fc == 0, level := level } fun s =>
    if !(s.unit u).arch.txn then .exc s (Exc.plain exTxn 1)
    else if !s.drained u then .hold s
    else .ended (s.abortWith u status)

def execAbort (u : Nat) (f : RegF) (s : State) : Ans := .next (s.abortOp u f 0 0x1001)
def execAbortF (u : Nat) (f : RegF) (s : State) : Ans := .next (s.abortOp u f 1 0x1004)

/-! ## Stakes on a unit -/

/-- The key that a stake instruction names in an even register and the next (R300). -/
def Arch.stakeKey (a : Arch) (r : BitVec 5) : Nat := (a.reg (r + 1)).toNat * 2 ^ 32 + (a.reg r).toNat

/-- The transaction that a unit runs, while PSW.TXN says that one is active. -/
def State.txnOf (s : State) (u : Nat) : Option TSlot :=
  if (s.unit u).arch.txn then (s.unit u).txn.bind s.tslot else none

/-- A stake instruction retires with a result code. -/
def State.stakeResult (s : State) (u : Nat) (rd : BitVec 5) (code : Nat) : Eff :=
  .done (s.mapArch u fun a => a.setReg rd (BitVec.ofNat 32 code))

/-- A record held in a mode or a stronger one (R99). -/
def StakeRec.covers (r : StakeRec) (excl : Bool) : Bool :=
  match r.held with
  | some true => true
  | some false => !excl
  | none => false

/-- A unit waits at the boundary before its STAKE (R110). -/
def State.standAtStake (s : State) (u : Nat) (rd : BitVec 5) (key : Nat) (excl : Bool) : State :=
  s.mapUnit u fun x => { x with wait := .stake rd key excl }

/-- STAKE (R90, R91, R98 to R101, R110). -/
def State.stakeOp (s : State) (u : Nat) (f : RegF) (excl : Bool) : State :=
  s.execute u { reserved := f.rb == 0 && f.fc == 0, even := f.ra.toNat % 2 = 0 } fun s =>
    match s.txnOf u with
    | none => s.stakeResult u f.rd stNotxn
    | some t =>
      let ns := (s.unit u).execPlot
      let key := (s.unit u).arch.stakeKey f.ra
      let rec_ := s.stakeRec t.slot ns key
      if (rec_.map fun r => r.covers excl).getD false then s.stakeResult u f.rd stHeld
      else if (rec_.map fun r => r.waits.isSome).getD false then .hold (s.standAtStake u f.rd key excl)
      else if rec_.isNone ∧ 256 ≤ s.stakeCount t.slot then s.stakeResult u f.rd stLimit
      else
        let home := s.stakeHome ns key
        let r : StakeRec :=
          { slot := t.slot, ns := ns, key := key, home := (rec_.map (·.home)).getD home
            held := (rec_.map (·.held)).getD none, waits := some excl, issued := s.time, queued := false }
        let s := (s.putStakeRec r).sendStakeOp r.home ns key (s.partyOf t) (.request excl)
        .hold (s.standAtStake u f.rd key excl)

def execStakeS (u : Nat) (f : RegF) (s : State) : Ans := .next (s.stakeOp u f false)
def execStakeX (u : Nat) (f : RegF) (s : State) : Ans := .next (s.stakeOp u f true)

/-- The transaction of a unit has captured a store, or one is on its way to capture (R109). -/
def State.hasCaptured (s : State) (u : Nat) : Bool :=
  let x := s.unit u
  !x.lines.isEmpty || x.spanStored || x.stores.any (fun b => b.kind == .journal)

/-- UNSTAKE (R109, R111). -/
def execUnstake (u : Nat) (f : RegF) (s : State) : Ans :=
  .next (s.execute u { reserved := f.rb == 0 && f.fc == 0, even := f.ra.toNat % 2 = 0 } fun s =>
    match s.txnOf u with
    | none => s.stakeResult u f.rd stNotxn
    | some t =>
      let ns := (s.unit u).execPlot
      let key := (s.unit u).arch.stakeKey f.ra
      match s.stakeRec t.slot ns key with
      | none => s.stakeResult u f.rd stNotheld
      | some r =>
        if r.held = some true ∧ s.hasCaptured u then s.stakeResult u f.rd stRefused
        else
          let s := s.sendStakeOp r.home ns key (s.partyOf t) (if r.held.isSome then .release else .withdraw)
          let s := s.putStakeRec { r with held := none, waits := none }
          let s := s.mapStakes fun k =>
            { k with grants := k.grants.filter fun g => !(g.slot == t.slot && g.ns == ns && g.key == key) }
          s.stakeResult u f.rd stGranted)

/-! ## Answers to a STAKE -/

/-- The result of the STAKE that a unit stands at: the record, the destination register, the retirement
(R98, R100, R592). -/
def State.answerStake (s : State) (u : Nat) (r : StakeRec) (rd : BitVec 5) (code : Nat) : State :=
  let s := s.putStakeRec { r with waits := none, held := if code = stGranted ∨ code = stUpgraded then r.waits else r.held }
  let s := s.sample 0x06 r.ns (s.time - r.issued)
  let s := (s.mapUnit u fun x => { x with wait := .none }).mapArch u fun a => a.setReg rd (BitVec.ofNat 32 code)
  s.retire u ((s.unit u).arch.pc + 4)

/-- What the cluster of a STAKE records of an answer of another device (R102). -/
def State.remoteCode (s : State) (r : StakeRec) (code : Nat) : State :=
  if r.home = s.devId then s else s.stakeReport (s.sliceOf r.ns r.key) r.ns code

/-- The unit of a transaction slot stands at the STAKE of a record: the unit and the destination register. -/
def State.standing (s : State) (slot ns key : Nat) : Option (Nat × BitVec 5) :=
  ((s.tslot slot).bind (·.unit)).bind fun u =>
    match (s.unit u).wait with
    | .stake rd k _ => if k = key ∧ (s.unit u).execPlot = ns ∧ !(s.unit u).halted ∧ !s.safe then some (u, rd) else none
    | _ => none

/-- An answer can be taken: nothing awaits it, or its unit stands at the STAKE (R110). -/
def State.takesAnswer (s : State) (g : GrantMsg) : Bool :=
  match s.stakeRec g.slot g.ns g.key with
  | none => true
  | some r => r.waits.isNone || (s.standing g.slot g.ns g.key).isSome

/-- A slice's answer reaches a transaction's stake cache (R103, R111): it answers the STAKE that the unit
stands at; while the unit is in a handler the answer waits, and another one that can be taken passes it (R110); an answer
that nothing awaits is dropped. -/
def execStakeGrant (slot : Nat) (s : State) : Ans :=
  .next (match s.stakes.grants.find? fun g => decide (g.slot = slot) && s.takesAnswer g with
    | none => s
    | some g =>
      let s' := s.mapStakes fun k => { k with grants := k.grants.erase g }
      match s.stakeRec slot g.ns g.key with
      | none => s'
      | some r =>
        if r.waits.isNone then s'
        else match s.standing slot g.ns g.key with
          | some (u, rd) => (s'.remoteCode r g.code).answerStake u r rd g.code
          | none => s)

/-- A wound reaches a transaction slot: the latch of its unit when the attempt still runs, else it is counted
(R106, R107). -/
def execWoundPresent (slot : Nat) (s : State) : Ans :=
  .next (match s.stakes.wounds.find? fun w => w.slot = slot with
    | none => s
    | some w =>
      let s := s.mapStakes fun k => { k with wounds := k.wounds.erase w }
      match s.tslot slot with
      | some t =>
        match t.unit with
        | some u => if t.attempt = w.attempt then s.endInput u (.wound w.slice w.attempt) else s.lateWound w.slice
        | none => s.lateWound w.slice
      | none => s.lateWound w.slice)

/-- A remote STAKE has had no reply within STK_REMOTE.TIMEOUT, the microsecond of the timeout included: UNREACHABLE (R102,
R116). -/
def execRemoteStakeTimeout (t unit : Nat) (s : State) : Ans :=
  let s := s.advance t
  .next (match s.txnOf unit, (s.unit unit).wait with
    | some x, .stake rd key _ =>
      match s.stakeRec x.slot (s.unit unit).execPlot key with
      | some r =>
        if r.home ≠ s.devId ∧ r.waits.isSome ∧ !r.queued ∧ s.usPassed (r.issued + s.fld Reg.STK_REMOTE 7 0 * 1000) ∧
            !(s.unit unit).halted ∧ !s.safe then
          (s.remoteCode r stUnreachable).answerStake unit r rd stUnreachable
        else s
      | none => s
    | _, _ => s)

/-! ## The slices -/

/-- The slices accept requests (R120). -/
def State.stakesReady (s : State) : Bool := s.bit Reg.STK_STATUS 0

/-- The oldest message sent to a slice. -/
def State.sliceMsg (s : State) (slice : Nat) : Option SliceMsg := s.stakes.msgs.find? fun m => m.slice = slice

/-- The bucket of a probe window in which the read of a slice finds an uncorrectable error, if it reads that one. -/
def State.badBucket (s : State) (ue : Option Nat) : Option Nat := ue.filter fun i => decide (i < s.fld Reg.STK_CFG 3 0)

/-- A slice takes the oldest STAKE request sent to it and answers, queues it, or finds its bucket
uncorrectable (R103 to R105, R119). -/
def execSliceRequest (slice : Nat) (ue : Option Nat) (s : State) : Ans :=
  .next (match s.sliceMsg slice with
    | none => s
    | some m =>
      match m.op with
      | .request excl =>
        if !s.stakesReady then s
        else
          let s := s.mapStakes fun k => { k with msgs := k.msgs.erase m }
          match s.badBucket ue with
          | some i => s.bucketError slice m.ns m.key i m.who
          | none =>
            let r := s.sliceDecide slice m.who m.ns m.key excl
            r.1.answerRequest m.ns m.key r.2 m.who
      | _ => s)

/-- A slice takes the oldest release or withdrawal sent to it (R109, R111, R115, R119). -/
def execSliceRelease (slice : Nat) (ue : Option Nat) (s : State) : Ans :=
  .next (match s.sliceMsg slice with
    | none => s
    | some m =>
      match m.op with
      | .request _ => s
      | _ =>
        if !s.stakesReady then s
        else
          let s := s.mapStakes fun k => { k with msgs := k.msgs.erase m }
          match s.badBucket ue with
          | some i => s.bucketError slice m.ns m.key i m.who
          | none => s.sliceDrop slice m.who m.ns m.key)

/-- A write of STK_CTRL with CLEAR set: while READY is 0, and with LOCK set before or by the same write, the
clear starts; else CLEAR is ignored with BADW (R120, R122). -/
def State.writeStkCtrl (s : State) (v : Word) : State :=
  let s := s.writeFields Reg.STK_CTRL v
  if !v.getLsbD 0 then s
  else if s.stakesReady ∨ !s.bit Reg.STK_CTRL 31 then s.badw Reg.STK_CTRL
  else s.setBit Reg.STK_STATUS 1 true

def execStkClear (m : Master) (v : Word) (s : State) : Ans :=
  .next (if s.writesReg m Reg.STK_CTRL then s.writeStkCtrl (v ||| 1) else s)

/-- The clear of the stake table completes: every entry FREE, READY (R120). The region's bytes read zero
afterwards; bytes that nothing has written read so already (log entry 4). -/
def execStakeTableCleared (s : State) : Ans :=
  .next (if s.bit Reg.STK_STATUS 1 then
    let base := s.reg64 Reg.STK_BASE_LO
    let s := s.wipe base (2 ^ 29)
    ((s.mapStakes fun _ => Stakes.reset).setBit Reg.STK_STATUS 1 false).setBit Reg.STK_STATUS 0 true
  else s)

end Sys2Proof.Machine
end

