-- ==== Sys2Proof/Machine/Access.lean ====
section
/-! DEFINITION. How a unit reaches memory: the checks of a data access in their order (R284 to R287, R347,
R402, R571), the data of a load outside control space (R386, R389, R403, R426, R428, R438, R530), a store on
its way into the store buffer (R125, R127, R128, R389), store-conditional (R399 to R402). -/

namespace Sys2Proof.Machine

open Sys2Proof

/-! ## The checks of an access -/

/-- What an access is: an aligned word access is allowed in control space, the others are not (R287, R402); the maintenance of
a line is neither a load nor a store to a breakpoint (R571). -/
inductive AccKind where
  | plain | atomic | other | line
  deriving DecidableEq, Repr

/-- The effective address of a MEM format (R284). -/
def Arch.ea (a : Arch) (ra : BitVec 5) (disp : BitVec 14) : Nat := (a.reg ra + disp.signExtend 32).toNat

/-- The checks of n bytes at an effective address through an SP field: translation, ALIGN, breakpoints (R284
to R287, R402, R571). The answer is the place, or how the instruction ends. -/
def State.place (s : State) (u sp ea n : Nat) (acc : Access) (k : AccKind) : Except Eff Place :=
  let space := (s.unit u).arch.space sp
  match s.xlat u space ea n acc with
  | .error sub => .error (.exc s (Exc.at exTranslate sub sp (s.firstBad u space ea n acc)))
  | .ok p =>
    if p.inControl ∧ !(k = .plain && n == 4 && ea % 4 == 0) then .error (.exc s (Exc.at exAlign 1 sp ea))
    else if k = .atomic ∧ ea % 4 ≠ 0 then .error (.exc s (Exc.at exAlign 2 sp ea))
    else
      let hits := (s.pair (pairOf u)).dataHits (if acc = .write then 2 else 1) space ea n
      if hits ≠ 0 ∧ k ≠ .line then .error (.stop .breakpoint hits) else .ok p

/-- The registers of a unit of operation take their values together. Where an instruction names one register twice and
its two values differ, the register is a free value (log entry 33). -/
def State.setRegs (s : State) (u : Nat) (l : List (BitVec 5 × Word)) : State :=
  l.foldl (fun s x =>
    if x.1 ≠ 0 ∧ l.any (fun y => y.1 == x.1 && y.2 != x.2) then
      (s.mapArch u fun a => a.setReg x.1 (BitVec.ofNat 32 s.free)).drawn
    else s.mapArch u fun a => a.setReg x.1 x.2) s

/-! ## Loads -/

/-- How the bytes of a load come: at once, not yet, or an exception. -/
inductive Load where
  | got (s : State) (bytes : List Byte) | wait (s : State) | exc (s : State) (e : Exc)
  deriving DecidableEq, Repr

/-- An access error on a load raises MCHECK on the instruction (R294). -/
def State.loadFault (s : State) (u sp ea pa : Nat) (st : WarpStatus) : Load :=
  if st = .poison then .exc s (Exc.at exMcheck 1 sp ea)
  else .exc (s.logAnswer (clusterOf (pairOf u)) (stopOf (s.region pa) pa) st (s.answerOf (clusterOf (pairOf u)) pa).2 pa) (Exc.at exMcheck 2 sp ea)

/-- The status of an access to n bytes: that of the first byte, else of the last. -/
def State.accessStatus (s : State) (u pa n : Nat) : WarpStatus × Nat :=
  let c := clusterOf (pairOf u)
  let a := s.answerOf c pa
  if a.1 ≠ .ok ∨ n = 0 then (a.1, pa) else ((s.answerOf c (pa + n - 1)).1, pa + n - 1)

/-- A parity error in an L1 of a pair: the line goes, the access is served from below (R409). -/
def State.l1Error (s : State) (u : Nat) : State :=
  let c := clusterOf (pairOf u)
  (s.count (clsReg Reg.CLS_CNT_L2CORR c) 1).errEvent (clsReg Reg.CLS_L2ERR c) 1 (Src.cluster c) 1 noPlot 0

/-- The first line of a range that a unit's cluster does not hold and that no doomed fill has brought. -/
def State.missing (s : State) (u pa n : Nat) : Option Nat :=
  let c := clusterOf (pairOf u)
  (linesOf pa n).find? fun l => (s.line? c l).isNone && !s.servedFill c l u

/-- The doomed fills that came for a unit, and the answers to its remote loads, have been used (R419). -/
def State.useUp (s : State) (u : Nat) : State :=
  let s := s.mapCluster (clusterOf (pairOf u)) fun x => { x with fills := x.fills.filter fun f => !(f.served && f.unit == u) }
  s.mapWeft fun w => { w with reqs := w.reqs.filter fun r => r.unit ≠ u ∨ r.write }

/-- What a load of journaled memory makes a transaction wait for (R64). -/
def State.noteEpochs (s : State) (u pa n : Nat) : State :=
  if (s.unit u).txn.isNone then s
  else
    (linesOf pa n).foldl (fun s l =>
      match s.unsealedAt l with
      | some e => s.mapUnit u fun x => { x with readEpoch := some (max e (x.readEpoch.getD 0)) }
      | none => s) s

/-- The stores of others that a load took bytes from (R391). -/
def State.noteReads (s : State) (u pa n : Nat) : State :=
  let ids := s.readsFrom u pa n
  s.mapUnit u fun x => { x with reads := x.reads ++ ids.filter fun i => i ∉ x.reads }

/-- The device and the home offset of a remote address (R530): window, DEVID, LOFF. -/
def State.remoteOf (s : State) (pa : Nat) : Nat × Nat :=
  let w := s.reg (Reg.WFT_RWIN + 4 * ((pa - remoteBase) / 2 ^ 36))
  (bits w 25 16, bits w 5 0 * 2 ^ 36 + (pa - remoteBase) % 2 ^ 36)

/-- The transaction slot that a unit's accesses carry. -/
def State.accSlot (s : State) (u : Nat) : Option Nat := (s.txnOf u).map (·.slot)

/-- A remote access leaves as REC_READ or REC_WRITE (R530). -/
def State.sendRecord (s : State) (u pa len : Nat) (write : Bool) (slot : Option Nat) (plot : Nat) (data : List Byte) : State :=
  let home := s.remoteOf pa
  let tag := s.weft.nextTag
  let s := s.mapWeft fun w =>
    { w with nextTag := tag + 1
             reqs := w.reqs ++ [{ tag := tag, dev := home.1, unit := u, slot := slot, write := write, addr := pa
                                  len := len, issued := s.time, answer := none }] }
  let s := match slot with
    | some _ => s.mapUnit u fun x => if home.1 ∈ x.spanned then x else { x with spanned := x.spanned ++ [home.1] }
    | none => s
  s.weftSend home.1 (if write then wfRecWrite else wfRecRead)
    (beBytes 4 tag ++ beBytes 2 plot ++ beBytes 2 (slot.getD 0xFFFF) ++ beBytes 8 home.2 ++ beBytes 2 len ++ data)

/-- The bytes of a remote load: from its answer, or the request goes out and the unit waits (R393, R530,
R531). -/
def State.loadRemote (s : State) (u sp ea pa n : Nat) : Load :=
  if !s.drained u || s.creditOut (clusterOf (pairOf u)) pa then .wait s
  else match s.weft.reqs.find? fun r => r.unit = u ∧ !r.write ∧ r.addr = pa ∧ r.len = n with
    | none =>
      let tag := s.weft.nextTag
      .wait ((s.sendRecord u pa n false (s.accSlot u) (s.unit u).execPlot []).mapUnit u fun x => { x with wait := .remote tag })
    | some r =>
      match r.answer with
      | some (0, bytes) => .got s bytes
      | some (1, _) => .exc (s.useUp u) (Exc.at exMcheck 1 sp ea)
      | some _ => .exc (s.useUp u) (Exc.at exMcheck 2 sp ea)
      | none => .wait (s.mapUnit u fun x => { x with wait := .remote r.tag })

/-- The bytes of a load outside control space: `pe` says that an L1 finds a parity error (R409). A cacheable
load needs its lines in the cluster cache; an uncached one waits for the unit's stores (R393) and for a credit (R443). -/
def State.loadPlace (s : State) (u sp ea n : Nat) (p : Place) (pe : Bool) : Load :=
  let c := clusterOf (pairOf u)
  let st := s.accessStatus u p.pa n
  match s.region p.pa with
  | .remote => if st.1 = .ok then s.loadRemote u sp ea p.pa n else s.loadFault u sp ea st.2 st.1
  | r =>
    if !p.cacheable && (!s.drained u || s.creditOut c p.pa) then .wait s
    else if st.1 ≠ .ok then s.loadFault u sp ea st.2 st.1
    else
      let strong : Bool := match r with
        | .scratch _ off => touchesStrongroom off n
        | _ => false
      let rc := match r with
        | .scratch c _ => c
        | _ => 0
      if strong && s.bit (clsReg Reg.CLS_SPSTAT rc) 16 then .exc s (Exc.at exMcheck 1 sp ea)
      else if strong && !(s.unit u).arch.strongAllowed then .exc (s.strongDeny rc) (Exc.at exMcheck 1 sp ea)
      else
        let cached := p.cacheable && !p.pairArea
        match if cached then s.missing u p.pa n else none with
        | some l => .wait (if s.filling c l then s else s.startFill c l u .load)
        | none =>
          let s := if pe && p.cacheable then s.l1Error u else s
          if s.poisonIn p.pa n then .exc s (Exc.at exMcheck 1 sp ea)
          else
            let bytes := s.seenBytes u p.pa n
            .got ((s.noteEpochs u p.pa n).noteReads u p.pa n) bytes

/-! ## Stores -/

/-- What a store at a place goes to. -/
def State.storeKind (s : State) (p : Place) : StoreKind :=
  match s.region p.pa with
  | .remote => .remote
  | .scratch _ _ => .scratch
  | .control _ => .control
  | _ => if p.journaled then .journal else if p.cacheable then .plain else .uncached

/-- The checks of a store: those of an access, JOURNAL outside a transaction (R125), a refused capture, which
ends the transaction once its stores have drained (R128, R404). -/
def State.storePlace (s : State) (u sp ea n : Nat) (k : AccKind) : Except Eff (Place × StoreKind) :=
  match s.place u sp ea n .write k with
  | .error e => .error e
  | .ok p =>
    if !p.journaled then .ok (p, s.storeKind p)
    else if (s.txnOf u).isNone then .error (.exc s (Exc.at exJournal 1 sp ea))
    else match s.captureFail u p.pa n with
      | some bit => .error (if s.drained u then .ended (s.captureRefused u bit) else .hold s)
      | none => .ok (p, .journal)

/-- A store of an instruction that retires: into the buffer, once there is room (R355, R390). -/
def State.store (s : State) (u sp ea : Nat) (data : List Byte) (k : AccKind) : Eff :=
  match s.storePlace u sp ea data.length k with
  | .error e => e
  | .ok (p, kind) =>
    if bufferSize ≤ (s.unit u).stores.length then .hold s
    else .done (s.pushStore u p.pa data kind)

/-- Two stores of one instruction, the first in access order first (R403). -/
def State.storeTwo (s : State) (u sp ea : Nat) (a b : List Byte) : Eff :=
  match s.storePlace u sp ea (a.length + b.length) .other with
  | .error e => e
  | .ok (p, kind) =>
    if bufferSize < (s.unit u).stores.length + 2 then .hold s
    else .done ((s.pushStore u p.pa a kind).pushStore u (p.pa + a.length) b kind)

/-! ## Store-conditional -/

/-- A store waits somewhere between its unit and the device and touches a range. -/
def State.storesOver (s : State) (pa n : Nat) : Bool :=
  let hit (l : List BufStore) : Bool := l.any fun b => decide (pa < b.pa + b.data.length ∧ b.pa < pa + n)
  allPairs.any (fun p => hit (s.pair p).stores) || allClusters.any (fun c => hit (s.cluster c).stores)

/-- Bytes are written through a cluster's cache and become visible to the device at once (R401, R408, R410,
R411). -/
def State.writeThrough (s : State) (u pa : Nat) (data : List Byte) (mark : Option Nat) : State :=
  let c := clusterOf (pairOf u)
  ((linesOf pa data.length).foldl (fun s l => s.dirtyLine c l mark) s).deviceStore (some u) pa data

/-- STC has executed: no link, and its result (R400, R401). -/
def State.stcResult (s : State) (u : Nat) (rd : BitVec 5) (ok : Bool) : Eff :=
  .done (s.mapArch u fun a => ({ a with link := none }).setReg rd (if ok then 1 else 0))

/-- A successful STC: capture in journaled memory, then the store (R127, R401). -/
def State.stcStore (s : State) (u pa : Nat) (data : List Byte) (kind : StoreKind) : State :=
  if kind = .journal then
    let b : BufStore := { id := s.mem.nextStore, unit := u, pa := pa, data := data, kind := kind, slot := (s.unit u).txn, mark := none, strong := false }
    (s.captureStore u b).writeThrough u pa data (some (s.epochAt u))
  else if kind = .scratch then s.deviceStore (some u) pa data
  else s.writeThrough u pa data none

/-- STC at an effective address (R399 to R402): it tests the link and stores in one step, after the unit's
earlier stores and every store on its way to the same bytes. -/
def State.storeConditional (s : State) (u : Nat) (f : MemF) : Eff :=
  let a := (s.unit u).arch
  let ea := a.ea f.ra f.disp
  let sp := f.sp.toNat
  match s.place u sp ea 4 .write .atomic with
  | .error e => e
  | .ok p =>
    if p.journaled ∧ (s.txnOf u).isNone then .exc s (Exc.at exJournal 1 sp ea)
    else if !(p.cacheable && a.link == some (p.pa / 64 * 64)) then s.stcResult u f.rd false
    else if !s.drained u ∨ s.storesOver p.pa 4 then .hold s
    else match if p.journaled then s.captureFail u p.pa 4 else none with
      | some bit => .ended (s.captureRefused u bit)
      | none =>
        let c := clusterOf (pairOf u)
        let data := leBytes 4 (a.reg f.rd).toNat
        if (s.accessStatus u p.pa 4).1 ≠ .ok then (s.pushStore u p.pa data (s.storeKind p)).stcResult u f.rd true
        else if !p.pairArea && (s.line? c p.pa).isNone then
          .hold (if s.filling c p.pa then s else s.startFill c p.pa u .store)
        else
          (s.stcStore u p.pa data (s.storeKind p)).stcResult u f.rd true

def execStc (u : Nat) (f : MemF) (s : State) : Ans := .next (s.execute u {} fun s => s.storeConditional u f)

/-! ## The plain stores -/

/-- A store of n bytes of an integer register (R290). -/
def State.storeReg (s : State) (u : Nat) (f : MemF) (n : Nat) : State :=
  s.execute u {} fun s =>
    let a := (s.unit u).arch
    s.store u f.sp.toNat (a.ea f.ra f.disp) (leBytes n (a.reg f.rd).toNat) .plain

def execStb (u : Nat) (f : MemF) (s : State) : Ans := .next (s.storeReg u f 1)
def execSth (u : Nat) (f : MemF) (s : State) : Ans := .next (s.storeReg u f 2)
def execStw (u : Nat) (f : MemF) (s : State) : Ans := .next (s.storeReg u f 4)

/-- FSTS stores bits [31:0] of the register (R290). -/
def execFsts (u : Nat) (f : MemF) (s : State) : Ans :=
  .next (s.execute u {} fun s =>
    let a := (s.unit u).arch
    s.store u f.sp.toNat (a.ea f.ra f.disp) (leBytes 4 (a.freg f.rd).toNat) .plain)

/-- Eight bytes are stored in one piece at a multiple of 8 in cacheable memory, else as two words, the first at
EA (R387, R403). -/
def State.storeEight (s : State) (u : Nat) (f : MemF) (data : List Byte) : Eff :=
  let a := (s.unit u).arch
  let ea := a.ea f.ra f.disp
  let cacheable : Bool := match s.xlat u (a.space f.sp.toNat) ea 8 .write with
    | .ok p => p.cacheable
    | .error _ => false
  if ea % 8 = 0 ∧ cacheable then s.store u f.sp.toNat ea data .other
  else s.storeTwo u f.sp.toNat ea (data.take 4) (data.drop 4)

/-- STP (R290, R403): an odd rd is ILLEGAL. -/
def execStp (u : Nat) (f : MemF) (s : State) : Ans :=
  .next (s.execute u { even := f.rd.toNat % 2 = 0 } fun s =>
    let a := (s.unit u).arch
    s.storeEight u f (leBytes 4 (a.reg f.rd).toNat ++ leBytes 4 (a.reg (f.rd + 1)).toNat))

/-- FSTD (R290, R403). -/
def execFstd (u : Nat) (f : MemF) (s : State) : Ans :=
  .next (s.execute u {} fun s => s.storeEight u f (leBytes 8 ((s.unit u).arch.freg f.rd).toNat))

end Sys2Proof.Machine
end

