-- ==== Sys2Proof/Machine/Journal.lean ====
section
/-! DEFINITION. The journal engine (chapter 4): records and headers as bytes (R135, R136), the sheaf area
(R141, R142), the keys of sheaves (R140), the request index (R145 to R147), the reception of a partner's
sheaves and their application (R149 to R151), initialisation (R144). -/

namespace Sys2Proof.Machine

open Sys2Proof

/-! ## Records -/

/-- A length rounded up to a multiple of 8. -/
def up8 (n : Nat) : Nat := (n + 7) / 8 * 8

/-- The length of a record (R136). -/
def recordSize (rlen lines : Nat) : Nat := 16 + up8 rlen + 72 * lines

/-- The line word of an entry (R136). -/
def lineWord (off : Nat) : List Byte := leBytes 8 (off / 64 * 64 % 2 ^ 42)

/-- A record as the body holds it (R136). -/
def JRecord.bytes (r : JRecord) : List Byte :=
  leBytes 8 r.reqid ++
  leBytes 8 (r.plot % 4096 * 2 ^ 52 + r.queue % 65536 * 2 ^ 36 + r.result.length * 2 ^ 27 + r.lines.length * 2 ^ 18 +
    r.span.toNat) ++
  r.result ++ padTo 8 r.result.length ++ r.lines.flatMap fun e => lineWord e.off ++ fitTo 64 e.after

/-- The length of a record. -/
def JRecord.size (r : JRecord) : Nat := recordSize r.result.length r.lines.length

/-- The body of an epoch's records. -/
def Undo.bodyLen (g : Undo) : Nat := (g.recs.map JRecord.size).sum

/-- The room that an epoch's before-images take in the undo area (R130). -/
def Undo.undoLen (g : Undo) : Nat := (g.recs.map fun r => 72 * r.lines.length).sum

/-- A record read back from a body: request ID, plot, queue, SPAN, result and its line entries (R136); none
where the bytes end first. -/
structure BodyRec where
  at_    : Nat
  reqid  : Nat
  plot   : Nat
  queue  : Nat
  span   : Bool
  result : List Byte
  lines  : List (Nat × List Byte)
  deriving DecidableEq, Repr

/-- The line entries of a record. -/
def readLines : Nat → List Byte → List (Nat × List Byte)
  | 0, _ => []
  | n + 1, l => (leAt l 0 8 / 64 * 64 % 2 ^ 42, slice l 8 64) :: readLines n (l.drop 72)

/-- The records of a body, with their offsets in it; the fuel bounds their number. -/
def readBody : Nat → Nat → List Byte → List BodyRec
  | 0, _, _ => []
  | fuel + 1, off, l =>
    if l.length < 16 then []
    else
      let info := leAt l 8 8
      let rlen := info / 2 ^ 27 % 512
      let n := info / 2 ^ 18 % 512
      let len := recordSize rlen n
      if l.length < len then []
      else
        { at_ := off, reqid := leAt l 0 8, plot := info / 2 ^ 52, queue := info / 2 ^ 36 % 65536
          span := info % 2 == 1, result := slice l 16 rlen, lines := readLines n (l.drop (16 + up8 rlen)) } ::
        readBody fuel (off + len) (l.drop len)

/-- The records of a sheaf. -/
def Sheaf.records (h : Sheaf) : List BodyRec := readBody (h.body.length / 16 + 1) 0 h.body

/-! ## The sheaf area -/

/-- The undo area and the sheaf area (R141): sizes in bytes and the address of the sheaf area. -/
def State.undoSize (s : State) : Nat := s.fld Reg.JNL_RINGCFG 19 16 * 2 ^ 30
def State.areaSize (s : State) : Nat := (s.fld Reg.JNL_RINGCFG 9 0 - s.fld Reg.JNL_RINGCFG 19 16) * 2 ^ 30
def State.areaBase (s : State) : Nat := s.reg64 Reg.JNL_RING_BASE_LO + s.undoSize

/-- Bytes written into a circle of bytes from an offset. -/
def State.writeCircle (s : State) (base size off : Nat) (b : List Byte) : State :=
  let size := max 1 size
  let off := off % size
  if off + b.length ≤ size then s.agentStore (base + off) b
  else (s.agentStore (base + off) (b.take (size - off))).agentStore base (b.drop (size - off))

/-- Bytes written into the circle of the sheaf area from an offset. -/
def State.writeArea (s : State) (off : Nat) (b : List Byte) : State := s.writeCircle s.areaBase s.areaSize off b

/-- The group of an epoch that is not sealed (R130). -/
def State.undoOf (s : State) (epoch : Nat) : Option Undo := s.journal.undo.find? fun g => g.epoch = epoch

/-- A group changed. -/
def State.mapUndo (s : State) (epoch : Nat) (f : Undo → Undo) : State :=
  s.mapJournal fun j => { j with undo := j.undo.map fun g => if g.epoch = epoch then f g else g }

/-- The own sheaf of an epoch in the sheaf area. -/
def State.ownSheaf (s : State) (epoch : Nat) : Option Sheaf :=
  s.journal.sheaves.find? fun h => h.kind = .own ∧ h.epoch = epoch ∧ !h.zeroed

/-- A partner sheaf of an epoch in the sheaf area. -/
def State.partSheaf (s : State) (epoch : Nat) : Option Sheaf :=
  s.journal.sheaves.find? fun h => h.kind = .partner ∧ h.epoch = epoch ∧ !h.zeroed

/-- A sheaf replaced, by kind, epoch and place. -/
def State.setSheaf (s : State) (h : Sheaf) : State :=
  s.mapJournal fun j => { j with sheaves := j.sheaves.map fun x =>
    if x.kind = h.kind ∧ x.epoch = h.epoch ∧ x.offset = h.offset then h else x }

/-- What a sheaf takes in the area beside its body: header and trailer (R137). -/
def sheafFrame : Nat := 224

/-- The room kept for the sheaves of epochs whose capture cut-off is still to come (log entry 16). -/
def State.reserved (s : State) : Nat :=
  ((s.journal.undo.filter fun g => (s.ownSheaf g.epoch).isNone).map fun g => sheafFrame + g.bodyLen).sum

/-- The free space of the sheaf area (R141, R142). -/
def State.areaFree (s : State) : Nat :=
  s.areaSize - ((s.journal.sheaves.map (·.len)).sum + s.reserved)

/-- Free space is below STOP: RINGSTOP with its event (R142). -/
def State.ringCheck (s : State) : State :=
  if s.bit Reg.JNL_STATUS 0 && !s.bit Reg.JNL_STATUS 2 && decide (s.areaFree < s.fld Reg.JNL_RINGSTOP 5 0 * 2 ^ 30) then
    (s.setBit Reg.JNL_STATUS 2 true).event Src.journal 0 (detail noKind noPlot 0)
  else s

/-- RINGSTOP acts at the tick: it goes once free space has reached twice STOP, and dispatch stops or resumes
with it (R142). -/
def State.ringTick (s : State) : State :=
  let s := s.ringCheck
  let s := if s.bit Reg.JNL_STATUS 2 && decide (2 * s.fld Reg.JNL_RINGSTOP 5 0 * 2 ^ 30 ≤ s.areaFree) then s.setBit Reg.JNL_STATUS 2 false else s
  s.mapJournal fun j => { j with stopWas := s.bit Reg.JNL_STATUS 2 }

/-- RETAIN in ns (R141). -/
def State.retain (s : State) : Nat := s.fld Reg.JNL_RIDX 5 0 * 1000000000

/-- The condition of a sheaf's kind for being freed holds (R141). -/
def State.mayFree (s : State) (h : Sheaf) : Bool :=
  h.zeroed ||
  (match h.kind with
   | .own => h.sealed && h.destaged && decide (h.doneTime + s.retain ≤ s.time)
   | .partner => h.applied && h.coverOk && decide (h.doneTime + s.retain ≤ s.time))

/-- The sheaves that are freed, from the oldest on. -/
def freeFrom (p : Sheaf → Bool) : List Sheaf → List Sheaf
  | [] => []
  | h :: l => if p h then freeFrom p l else h :: l

/-- Space is freed from the oldest sheaf on, and TAIL follows (R141). -/
def State.freeSheaves (s : State) : State :=
  let s := s.mapJournal fun j => { j with sheaves := freeFrom s.mayFree j.sheaves }
  match s.journal.sheaves with
  | [] => s.setReg64 Reg.JNL_TAIL_LO s.journal.start
  | h :: _ => s.setReg64 Reg.JNL_TAIL_LO h.offset

/-- The groups whose sheaf is still being built, oldest first. -/
def State.openGroups (s : State) : List Undo :=
  s.journal.undo.filter fun g => !g.recs.isEmpty && (s.ownSheaf g.epoch).isNone

/-- The bodies being built as they stand in the sheaf area, one behind the other from an offset, each behind the room of its
header; the head is behind the last record written (R130; log entry 16). -/
def State.layBodies (s : State) (off : Nat) : List Undo → State
  | [] => s.setReg64 Reg.JNL_HEAD_LO (off % max 1 s.areaSize)
  | [g] => (s.writeArea (off + 128) (g.recs.flatMap JRecord.bytes)).setReg64 Reg.JNL_HEAD_LO
      ((off + 128 + g.bodyLen) % max 1 s.areaSize)
  | g :: l => (s.writeArea (off + 128) (g.recs.flatMap JRecord.bytes)).layBodies (off + up8 (sheafFrame + g.bodyLen)) l

/-- The bodies being built stand behind the newest sheaf (R130). -/
def State.layOpen (s : State) : State := s.layBodies s.journal.start s.openGroups

/-- A sheaf takes its place behind the newest one (R141). -/
def State.placeSheaf (s : State) (h : Sheaf) : State :=
  let off := s.journal.start
  let h := { h with offset := off, len := sheafFrame + h.body.length }
  let s := s.mapJournal fun j => { j with sheaves := j.sheaves ++ [h], start := (off + up8 h.len) % max 1 s.areaSize }
  (s.writeArea off (h.header ++ h.body ++ h.chain ++ h.mac)).layOpen

/-- The line entries of a record go into the undo area: line word and before-image (R130). -/
def State.writeUndo (s : State) (r : JRecord) : State :=
  let b := r.lines.flatMap fun e => lineWord e.off ++ fitTo 64 e.before
  (s.writeCircle (s.reg64 Reg.JNL_RING_BASE_LO) s.undoSize s.journal.undoHead b).mapJournal fun j =>
    { j with undoHead := (j.undoHead + b.length) % max 1 s.undoSize }

/-- A record is accepted for an epoch: it joins the body of that sheaf in the ring, and its before-images the undo area
(R130). -/
def State.appendRecord (s : State) (epoch : Nat) (r : JRecord) : State :=
  ((s.mapUndo epoch fun g => { g with recs := g.recs ++ [r] }).writeUndo r).layOpen

/-- The MAGIC of a sheaf is overwritten with zero (R141). -/
def State.zeroSheaf (s : State) (h : Sheaf) : State :=
  ((s.writeArea h.offset (zeros 4)).setSheaf { h with zeroed := true }).freeSheaves

/-- The body of an epoch that rolls back before its sheaf is built stays in the ring without a MAGIC: the head does not
move back (R141). -/
def State.spoilBody (s : State) (g : Undo) : State :=
  (s.placeSheaf
    { kind := .own, epoch := g.epoch, offset := 0, len := 0, header := zeros 128, body := g.recs.flatMap JRecord.bytes
      chain := zeros 48, mac := zeros 48, sealed := false, acked := false, destaged := false, applied := false, zeroed := true
      doneTime := 0, coverOk := false }).freeSheaves

/-! ## Headers -/

/-- NOPARTNER of TWN_STATUS. -/
def State.noPartner (s : State) : Bool := s.bit Reg.TWN_STATUS 5

/-- KEYGEN of an epoch (R135). -/
def keyGen (epoch : Nat) : Nat := epoch / 2 ^ 24 % 2 ^ 32

/-- The header of the sheaf of an epoch (R135, R138). -/
def State.sheafHeader (s : State) (z : Seal) (g : Undo) : List Byte :=
  let j := s.journal
  leBytes 4 0x53484601 ++ leBytes 2 1 ++
  leBytes 2 (j.gapRb.toNat + 2 * j.gapBoot.toNat + 4 * z.solo.toNat + 8 * z.span.toNat) ++
  leBytes 8 z.epoch ++ leBytes 8 j.prevEpoch ++ leBytes 2 s.devId ++
  leBytes 2 (if s.paired then s.partnerId else 0x8000) ++ leBytes 4 (keyGen z.epoch) ++
  leBytes 8 z.openTime ++ leBytes 8 z.closeTime ++ leBytes 4 g.recs.length ++
  leBytes 4 ((g.recs.map (·.lines.length)).sum) ++ leBytes 8 g.bodyLen ++ leBytes 8 (s.reg64 Reg.JNL_DESTAGED_LO) ++
  fitTo 48 (if j.prevEpoch = 0 then [] else j.prevChain) ++ zeros 8

/-- Fields of a header. -/
def hdEpoch (h : List Byte) : Nat := leAt h 8 8
def hdPrev (h : List Byte) : Nat := leAt h 16 8
def hdDev (h : List Byte) : Nat := leAt h 24 2
def hdPartner (h : List Byte) : Nat := leAt h 26 2
def hdKeyGen (h : List Byte) : Nat := leAt h 28 4
def hdBodyLen (h : List Byte) : Nat := leAt h 56 8
def hdDestaged (h : List Byte) : Nat := leAt h 64 8
def hdPrevChain (h : List Byte) : List Byte := slice h 72 48

/-- CHAIN of a sheaf (R139). -/
def chainOf (header body : List Byte) : List Byte := sha384 (body ++ header)

/-! ## Sheaf keys -/

/-- The Seed key as bytes. -/
def seedBytes : List Byte := beBytes 32 Config.seedKey.toNat

/-- The slot of the sheaf key of a generation: the twin's, or the solo key of a device that is not paired
(R140, R478). -/
def State.sheafSlot (s : State) (gen : Nat) : Nat := if s.paired then 2 + gen % 3 else 5 + gen % 3

/-- The sheaf key of a generation, from its root (R140, R483); none when slot 8 is EMPTY. -/
def State.sheafKey (s : State) (gen : Nat) : Option (List Byte) :=
  if s.paired then (s.keySlot 8).map fun k => kdf k.key (ascii "sheaf") (s.twinIds ++ beBytes 4 gen) 384
  else some (kdf seedBytes (ascii "sheaf-solo") (beBytes 2 s.devId ++ beBytes 4 gen) 384)

/-- The sheaf key of a generation is derived into its slot: kind HMAC, usage MAC, COUNT 0 (R140, R477,
R486). -/
def State.deriveSheafKey (s : State) (gen : Nat) : State :=
  match s.sheafKey gen with
  | none => s
  | some k =>
    let slot : KeySlot :=
      { kind := 5, usage := 4, origin := false, gen := gen, limit := 2 ^ 48, count := 0, key := k, near := false }
    let s := s.mapCipher fun c => { c with slots := sput c.slots (s.sheafSlot gen) slot }
    s.mapJournal fun j => { j with keyGens := (j.keyGens.filter (· ≠ gen)) ++ [gen] }

/-- The key in the slot of a generation, when it is that generation's. -/
def State.heldSheafKey (s : State) (gen : Nat) : Option (List Byte) :=
  (s.keySlot (s.sheafSlot gen)).bind fun k => if k.kind = 5 ∧ k.gen = gen then some k.key else none

/-- The journal engine derives the key of the next generation during the open one; the first ones are derived
where slots are filled at boot and at pairing (R140). -/
def execSheafKeyDerive (gen : Nat) (s : State) : Ans :=
  let open_ := keyGen s.epoch
  .next (if !s.safe ∧ (gen = open_ ∨ gen = open_ + 1) ∧ (s.heldSheafKey gen).isNone then s.deriveSheafKey gen else s)

/-! ## The request index -/

/-- The bucket of a request (R145). -/
def indexBucket (reqid plot queue : Nat) : Nat :=
  ((crc32c 0xFFFFFFFF (leBytes 8 reqid ++ leBytes 2 plot ++ leBytes 2 queue)) ^^^ 0xFFFFFFFF#32).toNat % 2 ^ 24

/-- The 32 bytes of an entry (R145). -/
def RIdxEntry.bytes (e : RIdxEntry) : List Byte :=
  leBytes 8 e.reqid ++ leBytes 8 (e.plot % 4096 * 2 ^ 52 + e.queue % 65536 * 2 ^ 36 + 1) ++ leBytes 8 e.epoch ++ leBytes 8 e.offset

/-- A request index table: the own one or the partner's. -/
def State.index (s : State) (k : SheafKind) : List RIdxEntry :=
  match k with
  | .own => s.journal.ownIdx
  | .partner => s.journal.partIdx

/-- The lowest way of a bucket that is free, else that of the entry with the lowest EPOCH (R146). -/
def indexWay (l : List RIdxEntry) (bucket : Nat) : Nat × Option RIdxEntry :=
  let here := l.filter fun e => e.bucket = bucket
  match (List.range 4).find? fun w => !(here.any fun e => e.way = w) with
  | some w => (w, none)
  | none =>
    match here.foldl (fun (r : Option RIdxEntry) e =>
      match r with
      | some b => if e.epoch < b.epoch then some e else some b
      | none => some e) none with
    | some e => (e.way, some e)
    | none => (0, none)

/-- The sheaf of an entry was sealed, or applied, less than RETAIN ago (R146). -/
def State.indexYoung (s : State) (k : SheafKind) (e : RIdxEntry) : Bool :=
  s.journal.sheaves.any fun h => h.kind == k && h.epoch == e.epoch && decide (s.time < h.doneTime + s.retain)

/-- An entry is inserted for a record of a sheaf (R146). -/
def State.indexInsert (s : State) (k : SheafKind) (h : Sheaf) (r : BodyRec) : State :=
  let bucket := indexBucket r.reqid r.plot r.queue
  let w := indexWay (s.index k) bucket
  let s := match w.2 with
    | some old => if s.indexYoung k old then s.errEvent Reg.JNL_ERR 8 Src.journal 0 noPlot 0 else s
    | none => s
  let e : RIdxEntry := { bucket := bucket, way := w.1, reqid := r.reqid, plot := r.plot, queue := r.queue, epoch := h.epoch
                         offset := (h.offset + 128 + r.at_) % max 1 s.areaSize }
  let put (l : List RIdxEntry) : List RIdxEntry := (l.filter fun x => !(x.bucket == bucket && x.way == w.1)) ++ [e]
  let base := s.reg64 Reg.JNL_RIDX_BASE_LO + (match k with | .own => 0 | .partner => 2 ^ 31)
  let s := s.mapJournal fun j => match k with
    | .own => { j with ownIdx := put j.ownIdx }
    | .partner => { j with partIdx := put j.partIdx }
  s.agentStore (base + bucket * 128 + w.1 * 32) e.bytes

/-- The entries of a sheaf's records are inserted (R146). -/
def State.indexSheaf (s : State) (k : SheafKind) (h : Sheaf) : State :=
  h.records.foldl (fun s r => s.indexInsert k h r) s

/-- A lookup (R147): an entry matches, its sheaf is in the ring, and the record at its offset has the same
REQID; the answer is the record's epoch and RESULT. -/
def State.indexLookup (s : State) (reqid plot queue : Nat) : Option (Nat × List Byte) :=
  let hit (k : SheafKind) : Option (Nat × List Byte) :=
    ((s.index k).filter fun e => e.reqid = reqid ∧ e.plot = plot ∧ e.queue = queue).findSome? fun e =>
      (s.journal.sheaves.find? fun h => h.kind = k ∧ h.epoch = e.epoch ∧ !h.zeroed).bind fun h =>
        (h.records.find? fun r => (h.offset + 128 + r.at_) % max 1 s.areaSize = e.offset ∧ r.reqid = reqid).map fun r =>
          (h.epoch, r.result)
  match hit .own with
  | some r => some r
  | none => hit .partner

/-! ## The partner's sheaves -/

/-- A copy fails a check of R149: MIRROR_REJ, its count, its event. -/
def State.mirrorReject (s : State) : State :=
  (s.count Reg.JNL_CNT_REJ 1).errEvent Reg.JNL_ERR 6 Src.journal 0 noPlot 0

/-- The sheaf keys go with the root that they came from, so that they are derived anew (R140). -/
def State.forgetSheafKeys (s : State) : State :=
  let s := s.mapCipher fun c => { c with slots := c.slots.filter fun k => k.1 < 2 ∨ 4 < k.1 }
  s.mapJournal fun j => { j with keyGens := [] }

/-- The key that checks a partner's sheaf: that of its generation in the slots, whose invocation is counted (R485), else
derived for the check from the twin root key (R140, R149; log entry 130). -/
def State.checkKey (s : State) (gen : Nat) : State × Option (List Byte) :=
  match s.heldSheafKey gen with
  | some k => ((s.chargeSlot (s.sheafSlot gen)).1, some k)
  | none => (s, s.sheafKey gen)

/-- Form and MAC of a copy (R149, check 1). -/
def State.sheafForm (s : State) (b : List Byte) : State × Bool :=
  let hdr := b.take 128
  if b.length < sheafFrame ∨ leAt b 0 4 ≠ 0x53484601 ∨ leAt b 4 2 ≠ 1 ∨ b.length ≠ sheafFrame + hdBodyLen hdr then (s, false)
  else
    match s.checkKey (hdKeyGen hdr) with
    | (s, none) => (s, false)
    | (s, some k) =>
      (s, slice b (128 + hdBodyLen hdr + 48) 48 == hmac384 k (hdr ++ slice b (128 + hdBodyLen hdr) 48))

/-- The copy names the twin (R149, check 2). -/
def State.sheafNames (s : State) (hdr : List Byte) : Bool :=
  s.paired && hdDev hdr % 1024 == s.partnerId && hdPartner hdr == s.devId

/-- The copy continues the chain of the partner (R149, check 3). -/
def State.sheafContinues (s : State) (hdr : List Byte) : Bool :=
  let e := hdEpoch hdr
  !decide (e ∈ s.journal.named) &&
  (match s.journal.partRef with
   | some (pe, chain) => hdPrev hdr == pe && hdPrevChain hdr == chain
   | none => decide (s.reg64 Reg.JNL_APPLIED_LO < e ∧ s.reg64 Reg.JNL_APPLIED_LO ≤ hdPrev hdr))

/-- An acknowledgement of a partner's sheaf leaves on both mirror links (R149). -/
def State.ackSheaf (s : State) (epoch : Nat) : State :=
  let p := beBytes 8 epoch
  (s.linkSend s.linkA wfSheafAck p).linkSend s.linkB wfSheafAck p

/-- Partner sheaves that a later header's DESTAGED covers (R141). -/
def State.coverPartner (s : State) (destaged : Nat) : State :=
  s.mapJournal fun j => { j with sheaves := j.sheaves.map fun h =>
    if h.kind = .partner ∧ h.epoch ≤ destaged then { h with coverOk := true } else h }

/-- A copy of a partner's sheaf arrives on a mirror link (R149). From ACQUIRE until the partner's plots are served no
sheaf is acknowledged (R172). -/
def State.receiveSheaf (s : State) (link : Nat) (b : List Byte) (ue : Bool) : State :=
  let hdr := b.take 128
  if s.safe ∨ !s.paired ∨ (link ≠ s.linkA ∧ link ≠ s.linkB) ∨ !s.bit Reg.JNL_STATUS 0 ∨ (4 ≤ s.part ∧ s.part ≤ 7) then s
  else
    let f := s.sheafForm b
    let s := f.1
    let mac := slice b (128 + hdBodyLen hdr + 48) 48
    if !f.2 ∨ !s.sheafNames hdr then s.mirrorReject
    else match s.partSheaf (hdEpoch hdr) with
      | some h =>
        if h.mac ≠ mac then s.mirrorReject
        else if h.acked then s
        else (s.setSheaf { h with acked := true }).ackSheaf h.epoch
      | none =>
        if !s.sheafContinues hdr then s.mirrorReject
        else if s.areaFree < b.length then
          (s.count Reg.JNL_CNT_REJ 1).errEvent Reg.JNL_ERR 10 Src.journal 0 noPlot 0
        else if ue then (s.setBit Reg.JNL_ERR 5 true).dramRead (s.areaBase + s.journal.start % max 1 s.areaSize) .poison
        else
          let body := slice b 128 (hdBodyLen hdr)
          let chain := slice b (128 + hdBodyLen hdr) 48
          let s := s.coverPartner (hdDestaged hdr)
          let s := s.placeSheaf
            { kind := .partner, epoch := hdEpoch hdr, offset := 0, len := 0, header := hdr, body := body, chain := chain
              mac := mac, sealed := true, acked := true, destaged := false, applied := false, zeroed := false
              doneTime := s.time, coverOk := false }
          let s := s.mapJournal fun j =>
            { j with partRef := some (hdEpoch hdr, chain), notices := (j.notices.filter (· ≠ hdPrev hdr)) ++ [hdPrev hdr] }
          (s.ackSheaf (hdEpoch hdr)).ringCheck

/-- The sheaf that the applier would apply next: the oldest partner sheaf not applied (R150). -/
def State.nextToApply (s : State) : Option Sheaf :=
  (s.journal.sheaves.filter fun h => h.kind = .partner ∧ !h.applied ∧ !h.zeroed).foldl (fun (r : Option Sheaf) h =>
    match r with
    | some b => if h.epoch < b.epoch then some h else some b
    | none => some h) none

/-- Adoption is under way or done: every acknowledged sheaf may be applied (R153). -/
def State.adopting (s : State) : Bool := s.part == 6 || s.part == 7

/-- The applier may apply a sheaf (R150, R153, R156): its seal is known, or adoption calls for it. -/
def State.mayApply (s : State) (h : Sheaf) : Bool :=
  s.bit Reg.JNL_CTRL 1 &&
  (decide (h.epoch ∈ s.journal.notices) || s.adopting ||
   s.journal.sheaves.any fun x => x.kind == .partner && !x.zeroed && decide (h.epoch < x.epoch))

/-- One line entry applied to a region of `size` bytes at a base, where it lies below the copy cursor of a rebuild
(R150, R151, R180). -/
def State.applyLine (s : State) (base size cursor plot : Nat) (e : Nat × List Byte) : State :=
  if size ≤ e.1 then s.errEvent Reg.JNL_ERR 7 Src.applier 5 plot 0
  else if cursor ≤ e.1 then s
  else s.agentStore (base + e.1) e.2

/-- A record of a partner's sheaf concerns a plot of this device (R180): its partner commits for it while it
serves it. -/
def State.ownRecord (s : State) (r : BodyRec) : Bool :=
  r.queue != 0xFFFF &&
  (match s.plot r.plot with
   | some p => p.own && s.own != 1
   | none => false)

/-- The cursor below which lines of the live region, or of the replica, are applied (R180): all of the region
but during the copy of that region to this device. -/
def State.liveCursor (s : State) : Nat :=
  if s.own = 3 ∨ s.own = 4 then s.twin.recv1 * 2 ^ 20 else s.fld Reg.JNL_REGION 28 16 * 2 ^ 30
def State.replCursor (s : State) : Nat :=
  if s.bit Reg.TWN_STATUS 3 then s.fld Reg.JNL_REGION 12 0 * 2 ^ 30 else s.twin.recv2 * 2 ^ 20

/-- A record applied: to the live region where it concerns an own plot, else to the replica (R150, R180). -/
def State.applyRecord (s : State) (r : BodyRec) : State :=
  let own := s.ownRecord r
  let base := if own then s.reg64 Reg.JNL_LIVE_BASE_LO else s.reg64 Reg.JNL_REPL_BASE_LO
  let size := (if own then s.fld Reg.JNL_REGION 28 16 else s.fld Reg.JNL_REGION 12 0) * 2 ^ 30
  let cursor := if own then s.liveCursor else s.replCursor
  r.lines.foldl (fun s e => s.applyLine base size cursor r.plot e) s

/-- A partner's sheaf is applied (R150): its records in order, its index entries, JNL_APPLIED. -/
def State.applySheaf (s : State) (h : Sheaf) : State :=
  let s := h.records.foldl State.applyRecord s
  let h := { h with applied := true, doneTime := s.time }
  let s := (s.setSheaf h).indexSheaf .partner h
  (s.setReg64 Reg.JNL_APPLIED_LO h.epoch).freeSheaves

/-- The partner's seal-complete notice arrives (R150). -/
def State.sealNotice (s : State) (epoch : Nat) : State :=
  s.mapJournal fun j => { j with notices := (j.notices.filter (· ≠ epoch)) ++ [epoch] }

/-- The own sheaf that Furrow destages next: sealed, not handed over before (R154). -/
def State.nextToDestage (s : State) : Option Sheaf :=
  s.journal.sheaves.find? fun h => h.kind = .own ∧ h.sealed ∧ !h.destaged ∧ !h.zeroed

/-- Furrow reports own sheaves destaged up to an epoch (R154). -/
def State.reportDestaged (s : State) (epoch : Nat) : State :=
  let s := s.mapJournal fun j => { j with sheaves := j.sheaves.map fun h =>
    if h.kind = .own ∧ h.sealed ∧ h.epoch ≤ epoch then { h with destaged := true } else h }
  (s.setReg64 Reg.JNL_DESTAGED_LO (max epoch (s.reg64 Reg.JNL_DESTAGED_LO))).freeSheaves

/-- Sheaves whose conditions hold are freed (R141). -/
def execSheafRetainExpire (t : Nat) (s : State) : Ans := .next (s.advance t).freeSheaves

def execSheaf (link : Nat) (bytes : List Byte) (ue : Bool) (s : State) : Ans := .next (s.receiveSheaf link bytes ue)

def execSheafApplyDone (s : State) : Ans :=
  .next (match s.nextToApply with
    | some h => if !s.safe ∧ s.mayApply h then s.applySheaf h else s
    | none => s)

/-- The partner's rollback notice: the sheaves of the epochs it names are never applied and the chain goes back
to the one before them (R150). A notice that names an epoch already applied is discarded, with LATE_RB (R174). -/
def execRollbackNotice (first second : Nat) (s : State) : Ans :=
  let applied := s.reg64 Reg.JNL_APPLIED_LO
  let hit := s.journal.sheaves.filter fun h => h.kind = .partner ∧ (h.epoch = first ∨ h.epoch = second) ∧ !h.zeroed
  .next (if s.safe ∨ !s.paired then s
    else if first ≤ applied ∨ second ≤ applied then s.errEvent Reg.TWN_ERR 7 Src.twin 0 noPlot 0
    else
      let s := s.mapJournal fun j => { j with named := (j.named.filter fun e => e ≠ first ∧ e ≠ second) ++ [first, second] }
      let s := match hit.head? with
        | some h => s.mapJournal fun j => { j with partRef := some (hdPrev h.header, hdPrevChain h.header) }
        | none => s
      hit.foldl State.zeroSheaf s)

/-! ## Initialisation -/

/-- The key of a stored sheaf: the twin's, or the solo key of a device that was not paired (R140). -/
def State.storedKey (s : State) (hdr : List Byte) : Option (List Byte) :=
  if hdPartner hdr = 0x8000 then
    some (kdf seedBytes (ascii "sheaf-solo") (beBytes 2 s.devId ++ beBytes 4 (hdKeyGen hdr)) 384)
  else (s.keySlot 8).map fun k => kdf k.key (ascii "sheaf") (s.twinIds ++ beBytes 4 (hdKeyGen hdr)) 384

/-- n bytes of the circle of the sheaf area from an offset. -/
def State.readArea (s : State) (off n : Nat) : List Byte :=
  let size := max 1 s.areaSize
  let off := off % size
  if off + n ≤ size then s.bytes (s.areaBase + off) n
  else s.bytes (s.areaBase + off) (size - off) ++ s.bytes s.areaBase (n - (size - off))

/-- The sheaf that the scan takes at an offset: MAGIC, DEVID, CHAIN and MAC hold (R144). A sheaf of the partner has been
acknowledged and serves no more beside the takeover; an own one is free to go until a restore finds that it matters. -/
def State.scanAt (s : State) (off : Nat) : Option Sheaf :=
  let hdr := s.readArea off 128
  let len := sheafFrame + hdBodyLen hdr
  let own := hdDev hdr == s.devId
  if leAt hdr 0 4 ≠ 0x53484601 ∨ s.areaSize < len ∨ !(own || (s.paired && hdDev hdr == s.partnerId)) then none
  else
    let b := s.readArea off len
    let body := slice b 128 (hdBodyLen hdr)
    let chain := slice b (128 + hdBodyLen hdr) 48
    let mac := slice b (176 + hdBodyLen hdr) 48
    match s.storedKey hdr with
    | none => none
    | some k =>
      if chain ≠ chainOf hdr body ∨ mac ≠ hmac384 k (hdr ++ chain) then none
      else some
        { kind := if own then .own else .partner, epoch := hdEpoch hdr, offset := off, len := len, header := hdr, body := body
          chain := chain, mac := mac, sealed := true, acked := true, destaged := false, applied := !own, zeroed := false
          doneTime := s.time, coverOk := true }

/-- The offsets of the sheaf area where a header can begin: at an 8-byte boundary, the first byte of MAGIC. -/
def State.scanPlaces (s : State) : List Nat :=
  (s.mem.cells.filter fun c => decide (s.areaBase ≤ c.1 ∧ c.1 < s.areaBase + s.areaSize ∧ (c.1 - s.areaBase) % 8 = 0) && c.2 == 1).map
    fun c => c.1 - s.areaBase

/-- EPOCH rises along the sheaves of one kind. -/
def epochsRise (k : SheafKind) (l : List Sheaf) : Bool :=
  let e := (l.filter fun h => h.kind == k).map (·.epoch)
  (e.zip (e.drop 1)).all fun p => decide (p.1 < p.2)

/-- The ring taken from an offset on. -/
def ringFrom (l : List Sheaf) (off : Nat) : List Sheaf :=
  l.filter (fun h => decide (off ≤ h.offset)) ++ l.filter (fun h => decide (h.offset < off))

/-- The sheaves of the ring by the scan of R144, oldest first: the oldest is the one from which on EPOCH rises in the
sheaves of each device, else the first in the area (DEDUCED, log entry 26). -/
def State.scanRing (s : State) : List Sheaf :=
  let all := s.scanPlaces.filterMap s.scanAt
  match all.find? fun h => epochsRise .own (ringFrom all h.offset) && epochsRise .partner (ringFrom all h.offset) with
  | some h => ringFrom all h.offset
  | none => all

/-- The end of the newest sheaf found (R144). -/
def State.scanHead (s : State) (l : List Sheaf) : Nat :=
  match l.getLast? with
  | some h => (h.offset + up8 h.len) % max 1 s.areaSize
  | none => 0

/-- A write of JNL_CTRL with INIT set: it starts while READY is 0 and LOCK is set before or by the same write,
else it is ignored with BADW (R144, R156). -/
def State.writeJnlCtrl (s : State) (v : Word) : State :=
  let s := s.writeFields Reg.JNL_CTRL v
  if !v.getLsbD 0 then s
  else if s.bit Reg.JNL_STATUS 0 ∨ !s.bit Reg.JNL_CTRL 31 then s.badw Reg.JNL_CTRL
  else s.mapJournal fun j => { j with initBusy := true }

def execJnlInit (m : Master) (v : Word) (s : State) : Ans :=
  .next (if s.writesReg m Reg.JNL_CTRL then s.writeJnlCtrl (v ||| 1) else s)

/-- The initialisation completes (R144): undo area and index tables clear; the sheaf area is empty, or holds the
sheaves that the scan takes for sheaves. The tables' bytes read zero afterwards. -/
def execJnlReady (s : State) : Ans :=
  .next (if !s.journal.initBusy then s
    else
      let kept := if s.bit Reg.JNL_CTRL 2 then s.scanRing else []
      let base := s.reg64 Reg.JNL_RIDX_BASE_LO
      let s := s.wipe base (2 ^ 32)
      let s := s.mapJournal fun j =>
        { j with undo := [], ownIdx := [], partIdx := [], sheaves := kept, initBusy := false, start := s.scanHead kept, undoHead := 0 }
      let s := s.setReg64 Reg.JNL_HEAD_LO (s.scanHead kept)
      let s := s.setReg64 Reg.JNL_TAIL_LO (match kept with
        | [] => 0
        | h :: _ => h.offset)
      s.setBit Reg.JNL_STATUS 0 true)

end Sys2Proof.Machine
end

