-- ==== Sys2Proof/Machine/Storage.lean ====
section
/-! DEFINITION. Storage commands of Furrow on their way outside (R491, R492, R506 to R508, R515). -/

namespace Sys2Proof.Machine

open Sys2Proof

/-- NVMe opcodes of the commands that Furrow issues (R494, R515). -/
def nvFlush : Nat := 0x00
def nvWrite : Nat := 0x01
def nvRead : Nat := 0x02
def nvRegister : Nat := 0x0D
def nvReport : Nat := 0x0E
def nvAcquire : Nat := 0x11
def nvRelease : Nat := 0x15

/-- Fields of a path record (R491). -/
def Path.group (p : Path) : Nat := beAt p.record 2 1
def Path.kind (p : Path) : Nat := beAt p.record 3 1
def Path.port (p : Path) : Nat := beAt p.record 4 1
def Path.dev (p : Path) : Nat := beAt p.record 26 2 % 1024

/-- A path by its number; none while its KIND is NONE. -/
def State.path (s : State) (n : Nat) : Option Path := s.furrow.paths.find? fun p => p.num = n

/-- A path changed. -/
def State.mapPath (s : State) (n : Nat) (f : Path → Path) : State :=
  s.mapFurrow fun w => { w with paths := w.paths.map fun p => if p.num = n then f p else p }

/-- The commands outstanding on a path. -/
def State.pathOut (s : State) (n : Nat) : Nat := (s.furrow.cmds.filter fun c => c.path = some n).length

/-- A path serves a group: an NVMEOF path its path group; 64 and above stands for the WEFT paths to a device. -/
def Path.serves (p : Path) (group : Nat) : Bool :=
  if group < 64 then p.kind == 1 && p.group == group else p.kind == 2 && p.dev == group - 64

/-- The numbers of the READY paths of a group with room in their queue of 128, rising (R494). -/
def State.readyPaths (s : State) (group : Nat) : List Nat :=
  ((s.furrow.paths.filter fun p => p.serves group ∧ p.state = .ready ∧ s.pathOut p.num < 128).map (·.num)).mergeSort (· ≤ ·)

/-- The READY path that a new command of a group takes: the next one in round-robin order (R506). -/
def State.pickPath (s : State) (group : Nat) : Option Nat :=
  let l := s.readyPaths group
  match s.furrow.rr.lookup group with
  | some last => (l.find? fun n => last < n).or l.head?
  | none => l.head?

/-- What a command of Furrow for a peer device asks (R502). -/
def peerRead : Nat := 0xF1
def peerWrite : Nat := 0xF2

/-- Furrow's traffic on a path leaves on its port at priority ROCEPCP, where a pause may hold it and MACsec charges it
(R194 to R196). -/
def State.furrowFrame (s : State) (n : Nat) (o : Out) : State :=
  match s.path n with
  | some p => s.sendFrame p.port (s.fld Reg.ETH_QOS 6 4) o
  | none => s

/-- A command is issued on a path; a peer request leaves as a frame (R502, R506; layout log entry 14). A command
that was on another path before is re-driven. -/
def State.issueCmd (s : State) (c : FrwCmd) (n : Nat) : State :=
  let s := s.mapFurrow fun w =>
    { w with rr := sput w.rr c.group n
             cmds := w.cmds.map fun x => if x.tag = c.tag then { x with path := some n, issued := s.time } else x }
  let s := if c.redrive = 0 then s else s.count Reg.FRW_CNT_REDRIVE 1
  if c.group < 64 then s.furrowFrame n (.storage n c.tag c.what c.args c.bytes)
  else s.weftSend (c.group - 64) wfPeerReq
    (beBytes 4 c.tag ++ beBytes 1 (if c.what = peerWrite then 1 else 0) ++ beBytes 2 (c.args.getD 0 0) ++
     beBytes 8 (c.args.getD 1 0) ++ beBytes 2 (c.args.getD 2 0) ++ c.bytes)

/-- The blocks of a write. -/
def FrwCmd.lba (c : FrwCmd) : Nat := c.args.getD 1 0
def FrwCmd.blocks (c : FrwCmd) : Nat := c.args.getD 2 0

/-- A write waits because one with other data may still be pending on a failed path (R507). -/
def State.writeHeld (s : State) (c : FrwCmd) : Bool :=
  c.write && c.redrive == 0 && decide (c.group < 64) && (s.furrow.holds.any fun h =>
    h.group == c.group && h.nsid == c.args.getD 0 0 && decide (h.lba < c.lba + c.blocks ∧ c.lba < h.lba + h.bytes.length / 4096) &&
    (List.range (h.bytes.length / 4096)).any fun i =>
      let b := h.lba + i
      decide (c.lba ≤ b ∧ b < c.lba + c.blocks) && slice h.bytes (4096 * i) 4096 != slice c.bytes (4096 * (b - c.lba)) 4096)

/-- A command that waits goes out where a path of its group takes it. -/
def State.tryIssue (s : State) (c : FrwCmd) : State :=
  if s.safe ∨ s.writeHeld c then s
  else match s.pickPath c.group with
    | some n => s.issueCmd c n
    | none => s

/-- A reservation command (R515). -/
def FrwCmd.resv (c : FrwCmd) : Bool := c.what == nvRegister || c.what == nvReport || c.what == nvAcquire || c.what == nvRelease

/-- The commands that wait are issued where they can be, reservations first (R515). -/
def State.kick (s : State) : State :=
  let l := s.furrow.cmds.filter fun c => c.path.isNone
  (l.filter FrwCmd.resv ++ l.filter fun c => !c.resv).foldl State.tryIssue s

/-- A new storage command of an operation: it is issued on the next READY path of its group, or waits for one
(R506, R508). In device safe state no command leaves (R588). -/
def State.sendStorage (s : State) (op group what : Nat) (args : List Nat) (bytes : List Byte) : State :=
  let c : FrwCmd :=
    { tag := s.furrow.nextTag, op := op, group := group, path := none, issued := s.time
      write := decide (what = nvWrite), what := what, args := args, bytes := bytes, redrive := 0 }
  (s.mapFurrow fun w => { w with nextTag := w.nextTag + 1, cmds := w.cmds ++ [c] }).tryIssue c

/-- The reservation operations, which R515 and chapter 5 call for. -/
def arbReport : Nat := 1
def arbStepA : Nat := 2
def arbStepB : Nat := 3
def arbRelease : Nat := 4
def arbAcquire : Nat := 5
def arbRegister : Nat := 6

/-- The registration key of a device: TWN_PAIRGEN above its device ID (R163). -/
def State.resvKey (s : State) (dev : Nat) : Nat := (s.reg Reg.TWN_PAIRGEN).toNat * 2 ^ 32 + dev

/-- An internal operation of Furrow begins (R497). -/
def State.newOp (s : State) (k : FrwKind) (epoch : Nat) : State × Nat :=
  let id := s.furrow.nextOp
  let o : FrwOp :=
    { id := id, plot := 0, optag := id, unit := none, queue := none, kind := k, block := 0, bytes := [], next := 0
      busy := false, engines := [], parts := 0, acked := true, issued := false, done := none, epoch := epoch, lba := 0
      blocks := 0, ending := none }
  (s.mapFurrow fun w => { w with nextOp := id + 1, ops := w.ops ++ [o] }, id)

/-- A reservation command on the namespace that a register names (R515); 0 names none. -/
def State.arbCmd (s : State) (op reg what : Nat) (args : List Nat) : State :=
  let nsid := s.fld reg 25 0
  if nsid = 0 then s else s.sendStorage op (s.fld reg 31 26) what (nsid :: args) []

/-- Step A of a takeover: Preempt of the partner's key on the own arbitration namespace (R172, R515). -/
def State.issueStepA (s : State) : State :=
  let r := s.newOp (.arb arbStepA) 0
  r.1.arbCmd r.2 Reg.FRW_NSARBO nvAcquire [1, 1, s.resvKey s.devId, s.resvKey (s.fld Reg.TWN_CFG 25 16)]

/-- The namespaces that step B acquires, in order: the arbitration namespace first, then the destage and checkpoint
namespaces of the plots that it takes (R172, R515). A returning device takes its own plots, and the survivor's only
where its replica is complete (R183). -/
def State.stepBNames (s : State) : List Nat :=
  let theirs := [Reg.FRW_NSARBP, Reg.FRW_NSPDST, Reg.FRW_NSPPLG]
  let ours := [Reg.FRW_NSARBO, Reg.FRW_NSDST, Reg.FRW_NSPLG]
  if s.own = 5 ∨ s.own = 6 then ours ++ (if s.bit Reg.TWN_STATUS 3 then theirs else []) else theirs

/-- The Preempts of step B on namespaces. -/
def State.preempt (s : State) (op : Nat) (regs : List Nat) : State :=
  regs.foldl (fun s reg => s.arbCmd op reg nvAcquire [1, 1, s.resvKey s.devId, s.resvKey (s.fld Reg.TWN_CFG 25 16)]) s

/-- Step B: Preempt of the partner on the arbitration namespace; the others follow once it has succeeded (R172,
R515). -/
def State.issueStepB (s : State) : State :=
  let r := s.newOp (.arb arbStepB) 0
  r.1.preempt r.2 (s.stepBNames.take 1)

/-- A Reservation Report on the own arbitration namespace (R167, R168). -/
def State.issueReport (s : State) : State :=
  let r := s.newOp (.arb arbReport) 0
  let s := r.1.arbCmd r.2 Reg.FRW_NSARBO nvReport []
  s.mapTwin fun w => { w with reports := w.reports ++ [s.timeBase] }

/-- Reservation Release on the partner's arbitration and destage namespaces (R182, step 3). -/
def State.issueRelease (s : State) : State :=
  let r := s.newOp (.arb arbRelease) 0
  [Reg.FRW_NSARBP, Reg.FRW_NSPDST].foldl (fun s reg => s.arbCmd r.2 reg nvRelease [0, 1, s.resvKey s.devId]) r.1

/-- What is under way of a reservation operation goes, with the commands that left in this nanosecond (R171). -/
def State.recallArb (s : State) (what : Nat) : State :=
  let ids := (s.furrow.ops.filter fun o => o.kind = .arb what).map (·.id)
  let tags := (s.furrow.cmds.filter fun c => c.op ∈ ids).map (·.tag)
  let s := s.mapFurrow fun w => { w with ops := w.ops.filter fun o => o.id ∉ ids, cmds := w.cmds.filter fun c => c.op ∉ ids }
  { s with out := s.out.filter fun o => match o with
      | .storage _ tag _ _ _ => tag ∉ tags
      | _ => true }

/-- Reservation Acquire on the own arbitration, destage and checkpoint namespaces (R163, R178, R182 step 4). -/
def State.issueAcquire (s : State) : State :=
  let r := s.newOp (.arb arbAcquire) 0
  [Reg.FRW_NSARBO, Reg.FRW_NSDST, Reg.FRW_NSPLG].foldl (fun s reg => s.arbCmd r.2 reg nvAcquire [0, 1, s.resvKey s.devId, 0]) r.1

/-- Reservation Register on the partner's arbitration namespace (R163, R180). -/
def State.issueRegister (s : State) : State :=
  let r := s.newOp (.arb arbRegister) 0
  r.1.arbCmd r.2 Reg.FRW_NSARBP nvRegister [0, s.resvKey s.devId]

/-- The operation of a reservation kind, and its commands, are over. -/
def State.endArb (s : State) (what : Nat) : State :=
  match s.furrow.ops.find? fun o => o.kind = .arb what with
  | some o => s.mapFurrow fun w => { w with ops := w.ops.filter (·.id ≠ o.id), cmds := w.cmds.filter (·.op ≠ o.id) }
  | none => s

end Sys2Proof.Machine
end

