-- ==== Sys2Proof/Machine/Seal.lean ====
section
/-! DEFINITION. COMMIT and the seal (chapter 2): acceptance of a capture buffer (R130 to R134), the capture
cut-off (R58), the seal and its completion (R60 to R66, R75, R146), votes (R534 to R537), seal failure and
rollback (R76 to R80, R422). -/

namespace Sys2Proof.Machine

open Sys2Proof

/-! ## Lease, notices, votes -/

/-- The holder lease is valid (R164, R167). -/
def State.leaseValid (s : State) : Bool :=
  (!s.paired && !s.bit Reg.TWN_CFG 0) || decide (s.timeBase < s.reg64 Reg.TWN_LEASEEND_LO)

/-- Kinds of TWIN_NOTICE (log entry 14). -/
def tnSealed : Nat := 1
def tnRollback : Nat := 2
def tnHandback : Nat := 3

/-- The votes that an own epoch waits for or owes (R534). -/
def State.votesOf (s : State) (epoch : Nat) : List VoteDue := s.weft.votes.filter fun v => v.mine = epoch

/-- Every vote owed to an epoch has come as SEALED (R535). -/
def State.votesMet (s : State) (epoch : Nat) : Bool := (s.votesOf epoch).all fun v => !v.failed && decide (v.count ≤ v.got)

/-- What a vote to a device covers: its epochs with the number of records. An epoch of the receiver that this
device was not told is a free value (log entry 17). -/
def State.voteCovers (s : State) (l : List VoteDue) : State × List Byte :=
  l.foldl (fun (r : State × List Byte) v =>
    if v.theirs = 0 then (r.1.drawn, r.2 ++ beBytes 8 r.1.free ++ beBytes 4 v.covers)
    else (r.1, r.2 ++ beBytes 8 v.theirs ++ beBytes 4 v.covers)) (s, [])

/-- A vote leaves for every device that an epoch owes one or that owes it one (R535). -/
def State.sendVotes (s : State) (epoch : Nat) (sealed : Bool) : State :=
  let devs := ((s.votesOf epoch).map (·.dev)).eraseDups
  devs.foldl (fun s d =>
    let r := s.voteCovers ((s.votesOf epoch).filter fun v => v.dev = d)
    r.1.weftSend d wfVote (beBytes 8 epoch ++ beBytes 1 (if sealed then 1 else 2) ++ r.2)) s

/-- One more transaction in the votes between an own epoch and a device, with `n` records counted here (R533,
R534). -/
def State.oweVote (s : State) (mine dev theirs n : Nat) (failed : Bool) : State :=
  let same (v : VoteDue) : Bool := v.mine == mine && v.dev == dev && v.theirs == theirs
  s.mapWeft fun w =>
    if w.votes.any same then
      { w with votes := w.votes.map fun v => if same v then { v with count := v.count + n, covers := v.covers + 1, failed := v.failed || failed } else v }
    else { w with votes := w.votes ++ [{ mine := mine, dev := dev, theirs := theirs, count := n, got := 0, covers := 1, failed := failed }] }

/-! ## Rollback -/

/-- Chunks that were read while an epoch that rolls back was open are read again (R155, R180). A chunk of a twin
copy is numbered from 2^32 times its phase. -/
def State.redoChunks (s : State) (first : Nat) : State :=
  let back (l : List (Nat × Nat)) (base cur : Nat) : Nat :=
    (l.filter fun c => first ≤ c.2 ∧ base ≤ c.1 ∧ c.1 < base + 2 ^ 32).foldl (fun m c => min m (c.1 - base)) cur
  let gone (o : FrwOp) (part : Bool) : Option Nat := match o.kind with
    | .plough p (some c) => if p = part ∧ first ≤ o.epoch ∧ !o.issued then some c else none
    | _ => none
  let s := s.mapFurrow fun w =>
    { w with sweeps := w.sweeps.map fun x => { x with next := (w.ops.filterMap fun o => gone o x.part).foldl min x.next }
             ops := w.ops.filter fun o => (gone o true).isNone && (gone o false).isNone }
  s.mapTwin fun w =>
    { w with cursor1 := if s.part = 8 then back w.chunks (2 ^ 32) w.cursor1 else w.cursor1
             cursor2 := if s.part = 8 ∨ s.part = 1 then back w.chunks (2 ^ 33) w.cursor2 else w.cursor2
             chunks := w.chunks.filter fun c => c.2 < first }

/-- The completions that wait for an epoch from `first` on are withdrawn, and their requests go back to the
Sower (R66, R77, R246). -/
def State.withdraw (s : State) (first : Nat) : State :=
  (s.sower.slots.filter fun t => t.result.isSome ∧ first ≤ t.waitOn.getD 0).foldl (fun s t => s.requeue t 2 false) s

/-- A rollback begins (R77, steps 1 and 2): epochs from `first` up to the open one roll back, and numbering goes on with
`next` (R78); admission stops, the running transactions are told, FAILED votes leave (R535). A failure in the first epoch
after a rollback brings device safe state (R80), and the restore then never comes. A cause that is neither of the mirror nor
of the lease counts as cleared at once, and NOPARTNER that is 1 already does not clear a mirror cause (log entries 117,
118). A hand-back whose epoch M goes with it takes the next epoch for its M (R182, log entry 132). -/
def State.rollBack (s : State) (first next : Nat) (cause : RbCause) : State :=
  let s := (s.setBit Reg.TCK_STATUS 2 false).setBit Reg.TCK_STATUS 5 true
  let s := s.setBit Reg.TCK_ERR 5 true
  let again := s.tick.afterRb
  let s := s.mapTick fun t =>
    { t with sealing := none, epochOpen := false, afterRb := false
             rollback := some { first := first, next := next, restored := false, cause := cause, cleared := cause == .other
                                hbSeq := s.twin.hbSeq } }
  let s := s.mapTwin fun w => { w with handBack := w.handBack.map fun h =>
    if first ≤ h.epoch ∧ h.step ≤ 1 then { h with epoch := next } else h }
  let s := allUnits.foldl (fun s u => if (s.unit u).txn.isSome then s.endInput u .rollback else s) s
  let s := ((List.range (next - first)).map (first + ·)).foldl (fun s e => s.sendVotes e false) s
  if again then s.event Src.tick 6 (detail 5 noPlot (first % 4096)) else s

/-- The seal in progress fails, and its epoch and the open one roll back; where its vote SEALED has been sent, the
device enters safe state instead, also in the first epoch after a rollback (R76, R77, R80, R536; log entry 119). -/
def State.failSeal (s : State) (cause : RbCause) : State :=
  match s.tick.sealing with
  | none => s
  | some z =>
    if z.voted then s.event Src.journal 6 (detail noKind noPlot (z.epoch % 4096))
    else s.rollBack z.epoch (s.epoch + 1) cause

/-- The oldest unsealed epoch fails: the one in the seal, else the open one alone (R143, R422). -/
def State.failOldest (s : State) (cause : RbCause) : State :=
  if s.tick.sealing.isSome then s.failSeal cause
  else if s.tick.epochOpen then s.rollBack s.epoch (s.epoch + 1) cause
  else s

/-- A marked line goes from every cluster with what it held over DRAM (R77, step 4; R413). -/
def State.discardMarked (s : State) (first : Nat) : State :=
  allClusters.foldl (fun s c =>
    ((s.cluster c).lines.filter fun l => first ≤ l.mark.getD 0).foldl (fun s l =>
      let s := match l.dirty with
        | some old => s.deviceStore none l.pa old
        | none => s
      s.dropLine c l.pa) s) s

/-- A before-image goes to DRAM and the line from every cluster (R77, steps 3 and 4). -/
def State.putBefore (s : State) (base : Nat) (e : LineEntry) : State :=
  let pa := base + e.off
  (allClusters.foldl (fun s c => (s.doom c pa).dropLine c pa) s).deviceStore none pa e.before

/-- The region of a record: its plot's, or the own live region for a record kept here as a home (R533). -/
def State.recordBase (s : State) (r : JRecord) : Nat :=
  if r.queue = 0xFFFF then s.reg64 Reg.JNL_LIVE_BASE_LO else (s.liveRegion r.plot).1

/-- The before-images of a record, last entry first. -/
def State.undoRecord (s : State) (r : JRecord) : State :=
  r.lines.reverse.foldl (fun s e => s.putBefore (s.recordBase r) e) s

/-- The groups from an epoch on, newest first, each in reverse order of acceptance (R77, step 3). -/
def State.undoGroups (s : State) (first : Nat) : State :=
  (s.journal.undo.filter fun g => first ≤ g.epoch).reverse.foldl (fun s g => g.recs.reverse.foldl State.undoRecord s) s

/-- The notice of a rollback leaves, and the sheaves that it takes back are discarded (R77, step 6); chunks that were
read meanwhile are read again (R155, R180). -/
def State.noticeRollback (s : State) (r : Rollback) : State :=
  let s := if s.paired then s.mirrorSend wfTwinNotice (beBytes 1 tnRollback ++ beBytes 8 r.first ++ beBytes 8 (r.next - 1)) else s
  let bare := s.openGroups.filter fun g => r.first ≤ g.epoch
  let s := (s.journal.sheaves.filter fun h => h.kind = .own ∧ r.first ≤ h.epoch ∧ !h.sealed ∧ !h.zeroed).foldl State.zeroSheaf s
  let s := bare.foldl State.spoilBody (s.mapJournal fun j => { j with undo := j.undo.filter fun g => g.epoch < r.first })
  s.redoChunks r.first

/-- The rollback is recorded (R77, step 7; R638). -/
def State.recordRollback (s : State) (r : Rollback) : State :=
  ((s.event Src.tick 4 (detail 5 noPlot (r.first % 4096))).setReg64 Reg.TCK_RBEPOCH_LO r.first).count Reg.TCK_CNT_RB 1

/-- The restore of a rollback, in the order of steps 3 to 7 (R77, R79). -/
def State.restore (s : State) (r : Rollback) : State :=
  let s := ((s.undoGroups r.first).discardMarked r.first).withdraw r.first
  let s := ((s.noticeRollback r).recordRollback r).mapJournal fun j => { j with gapRb := true }
  let s := s.mapWeft fun w => { w with votes := w.votes.filter fun v => v.mine < r.first }
  s.mapTick fun t => { t with rollback := some { r with restored := true } }

/-- The restore of R77 completes: once every running transaction has been aborted (R77, R79). -/
def execRollbackRestoreDone (s : State) : Ans :=
  .next (match s.tick.rollback with
    | some r =>
      if r.restored ∨ s.safe ∨ !(allUnits.all fun u => (s.unit u).txn.isNone) then s else s.restore r
    | none => s)

/-! ## The seal completes -/

/-- The bookkeeping of a seal within or beyond its budget (R75). -/
def State.countSeal (s : State) (z : Seal) (dur : Nat) : State :=
  let good := if dur ≤ z.period * 1000 ∧ !z.late then s.tick.goodSeals + 1 else 0
  let s := s.mapTick fun t => { t with goodSeals := good }
  if 2 ≤ good then s.setBit Reg.TCK_STATUS 4 false else s

/-- The mark of an epoch is removed from every line (R410). -/
def State.removeMarks (s : State) (epoch : Nat) : State :=
  allClusters.foldl (fun s c =>
    if (s.cluster c).lines.any fun l => l.mark = some epoch then
      s.mapCluster c fun x => { x with lines := x.lines.map fun l => if l.mark = some epoch then { l with mark := none } else l }
    else s) s

/-- JNL_CHAIN0 to JNL_CHAIN11 hold a chain (R156). -/
def State.setChain (s : State) (chain : List Byte) : State :=
  (List.range 12).foldl (fun s n => s.setReg (Reg.JNL_CHAIN + 4 * n) (BitVec.ofNat 32 (leAt chain (4 * n) 4))) s

/-- The sheaf of a sealed epoch: sealed, counted, indexed, its chain the last one (R137, R146). -/
def State.sealSheaf (s : State) (h : Sheaf) : State :=
  let h := { h with sealed := true, doneTime := s.time }
  let s := (s.setSheaf h).setChain h.chain
  let s := (s.count Reg.JNL_CNT_SHEAF 1).sample 0x07 0 h.len
  let s := s.mapJournal fun j => { j with prevEpoch := h.epoch, prevChain := h.chain, gapRb := false, gapBoot := false }
  s.indexSheaf .own h

/-- The completions that wait for an epoch up to the sealed one are released together (R63, R65). -/
def State.releaseUpTo (s : State) (epoch : Nat) : State :=
  s.handAll ((s.sower.slots.filter fun t => t.waitOn.any (· ≤ epoch)).filterMap (·.result))

/-- The seal-complete notice with both cursors (R150, R180). -/
def State.sendSealed (s : State) (epoch : Nat) : State :=
  s.mirrorSend wfTwinNotice (beBytes 1 tnSealed ++ beBytes 8 epoch ++ beBytes 4 s.twin.cursor1 ++ beBytes 4 s.twin.cursor2)

/-- The seal of the hand-back's epoch calls for the Reservation Releases of step 3 (R182). -/
def State.handBackSealed (s : State) (epoch : Nat) : State :=
  match s.twin.handBack with
  | some h =>
    if h.epoch = epoch ∧ h.step = 1 then
      (s.mapTwin fun w => { w with handBack := some { h with step := 3 } }).issueRelease
    else s
  | none => s

/-- The seal completes (R60 to R66, R75). -/
def State.sealDone (s : State) (z : Seal) : State :=
  let dur := s.timeBase - z.closeTime
  let s := s.setReg64 Reg.TCK_SEALED_LO z.epoch
  let ns := BitVec.ofNat 32 (min 0xFFFFFFFF dur)
  let s := s.setReg Reg.TCK_SEALTIME ns
  let s := s.setReg Reg.TCK_SEALMAX (BitVec.ofNat 32 (max (s.reg Reg.TCK_SEALMAX).toNat ns.toNat))
  let s := (s.countSeal z dur).sample 0x01 0 dur
  let s := s.removeMarks z.epoch
  let s := match s.ownSheaf z.epoch with
    | some h => s.sealSheaf h
    | none => s
  let s := s.mapJournal fun j => { j with undo := j.undo.filter fun g => g.epoch ≠ z.epoch }
  let s := s.mapWeft fun w => { w with votes := w.votes.filter fun v => v.mine ≠ z.epoch }
  let s := s.mapTick fun t => { t with sealing := none, afterRb := false }
  let s := if z.solo then s else s.sendSealed z.epoch
  (s.releaseUpTo z.epoch).handBackSealed z.epoch

/-- Every condition of R60 holds but the votes and the lease. -/
def Seal.ready (z : Seal) : Bool :=
  z.cutoff && z.wbOwed.isEmpty && z.hashDone && z.macDone && (z.acked || z.solo)

/-- The state of the seal after a step of it: the votes leave when everything else holds; with every vote in and
a valid lease it completes; without the lease it fails (R60, R76, R535, R536). -/
def State.trySeal (s : State) : State :=
  match s.tick.sealing with
  | none => s
  | some z =>
    if s.safe then s
    else if (s.votesOf z.epoch).any (·.failed) then s.failSeal .other
    else if !z.ready then s
    else
      let due := !(s.votesOf z.epoch).isEmpty
      let s := if due && !z.voted then
          (s.mapTick fun t => { t with sealing := some { z with voted := true } }).sendVotes z.epoch true
        else s
      if !s.votesMet z.epoch then s
      else if s.leaseValid then s.sealDone z
      else s.failSeal .lease

/-! ## The steps of the seal -/

/-- The seal in progress changed. -/
def State.mapSeal (s : State) (f : Seal → Seal) : State := s.mapTick fun t => { t with sealing := t.sealing.map f }

/-- The capture cut-off (R58, R60, R135): SOLO and SPAN are fixed, the header built, the sheaf placed in the sheaf
area where it has room (log entry 16). -/
def State.cutOff (s : State) (z : Seal) : State :=
  let z := { z with cutoff := true, solo := s.noPartner, span := !(s.votesOf z.epoch).isEmpty }
  let g := (s.undoOf z.epoch).getD { epoch := z.epoch, recs := [] }
  let s := s.sample 0x02 0 (s.timeBase - z.closeTime)
  let s := s.mapTick fun t => { t with sealing := some z }
  let room := s.areaFree + (if (s.undoOf z.epoch).isSome then sheafFrame + g.bodyLen else 0)
  if room < sheafFrame + g.bodyLen then s
  else
    s.placeSheaf
      { kind := .own, epoch := z.epoch, offset := 0, len := 0, header := s.sheafHeader z g
        body := g.recs.flatMap JRecord.bytes, chain := zeros 48, mac := zeros 48, sealed := false, acked := false
        destaged := false, applied := false, zeroed := false, doneTime := 0, coverOk := false }

/-- The cut-off comes when no pair owes a marker (R58). -/
def State.tryCutOff (s : State) : State :=
  match s.tick.sealing with
  | some z => if z.owed.isEmpty ∧ !z.cutoff ∧ !s.safe then (s.cutOff z).trySeal else s
  | none => s

/-- A pair owes no marker any more (R58). -/
def State.markerIn (s : State) (p : Nat) : State :=
  (s.mapSeal fun z => { z with owed := z.owed.filter (· ≠ p) }).tryCutOff

/-- The close marker of a pair reaches the journal engine: its tick has been presented to its units, and its
work is not on its way to a spare (R58, R375). -/
def execCloseMarker (pair : Nat) (s : State) : Ans :=
  .next (match s.tick.sealing with
    | some z =>
      if pair ∈ z.owed ∧ !s.safe ∧ (s.pair pair).takeover.isNone ∧
          (unitsOfPair pair).all (fun u => (s.unit u).latch.tick.isNone) then s.markerIn pair
      else s
    | none => s)

/-- Stores on their way to the device that carry a mark, in a cluster. -/
def State.markPending (s : State) (c epoch : Nat) : Bool :=
  let has (l : List BufStore) : Bool := l.any fun b => b.mark == some epoch
  has (s.cluster c).stores || (List.range 8).any fun i => has (s.pair (8 * c + i)).stores

/-- A cluster has written back every line marked N: all its pairs have passed the tick (R60, R411). -/
def execSealWritebackDone (cluster : Nat) (s : State) : Ans :=
  .next (match s.tick.sealing with
    | some z =>
      if cluster ∈ z.wbOwed ∧ !s.safe ∧ !(z.owed.any fun p => clusterOf p = cluster) ∧ !s.markPending cluster z.epoch then
        let s := s.mapCluster cluster fun x =>
          { x with lines := x.lines.map fun l => if l.mark = some z.epoch then { l with dirty := none } else l }
        (s.mapSeal fun z => { z with wbOwed := z.wbOwed.filter (· ≠ cluster) }).trySeal
      else s
    | none => s)

/-- A cipher engine of the seal fails: engine 0 or 1 for a hash, 2 or 3 for a MAC, whichever had the job (R470, a free
value); its event, and the failure of the seal (R76, R476, R638). -/
def State.sealEngineFails (s : State) (base : Nat) : State :=
  let e := base + s.free % 2
  (s.drawn.errEvent Reg.CPH_ERR 5 (Src.cipher e) 2 noPlot e).failSeal .other

/-- The ring does not hold what was written to it (R143): RING_UE and, where the memory controller met it, its event
(R636). -/
def State.ringError (s : State) (pa : Nat) : State := (s.setBit Reg.JNL_ERR 5 true).dramRead pa .poison

/-- The hash of the sheaf completes (R139), or the engine fails (R76). -/
def execSealHashDone (err : Bool) (s : State) : Ans :=
  .next (match s.tick.sealing with
    | some z =>
      match s.ownSheaf z.epoch with
      | some h =>
        if s.safe ∨ !z.cutoff ∨ z.hashDone then s
        else if err then s.sealEngineFails 0
        else ((s.setSheaf { h with chain := chainOf h.header h.body }).mapSeal fun z => { z with hashDone := true }).trySeal
      | none => s
    | none => s)

/-- The MAC of the sheaf completes (R139): an invocation of the sheaf key, trailer in the ring, copies on both
mirror links (R61); the engine or the ring may fail (R76, R143). A seal whose key is not in its slot, as after a
wipe, fails (R488). -/
def execSealMacDone (err ue : Bool) (s : State) : Ans :=
  .next (match s.tick.sealing with
    | some z =>
      match s.ownSheaf z.epoch with
      | some h =>
        if s.safe ∨ !z.hashDone ∨ z.macDone then s
        else
          let gen := keyGen z.epoch
          match s.heldSheafKey gen with
          | none => s.failSeal .other
          | some k =>
            if err then s.sealEngineFails 2
            else if ue then (s.ringError (s.areaBase + h.offset)).failSeal .other
            else
              let s := (s.chargeSlot (s.sheafSlot gen)).1
              let h := { h with mac := hmac384 k (h.header ++ h.chain) }
              let s := (s.setSheaf h).writeArea (h.offset + 128 + h.body.length) (h.chain ++ h.mac)
              let s := if z.solo then s else s.sendSheaf h.epoch (h.header ++ h.body ++ h.chain ++ h.mac)
              (s.mapSeal fun z => { z with macDone := true }).trySeal
      | none => s
    | none => s)

/-- An acknowledgement of the partner (R60, R61); one that comes after the seal is discarded. -/
def execSheafAck (t link epoch : Nat) (s : State) : Ans :=
  let s := s.advance t
  .next (match s.tick.sealing with
    | some z =>
      if z.epoch = epoch ∧ z.macDone ∧ !z.solo ∧ !s.safe ∧ s.paired ∧ (link = s.linkA ∨ link = s.linkB) then
        (s.mapSeal fun z => { z with acked := true }).trySeal
      else s
    | none => s)

/-- TCK_SEALFAIL.LIMIT tick periods have passed since the closing tick, the nanosecond of the limit included (R18, R76): a
mirror cause where the acknowledgement is what is missing. -/
def execSealFailLimit (t : Nat) (s : State) : Ans :=
  let s := s.advance t
  .next (match s.tick.sealing with
    | some z =>
      if z.closeTime + s.fld Reg.TCK_SEALFAIL 3 0 * z.period * 1000 < s.timeBase ∧ !s.safe then
        s.failSeal (if z.macDone && !z.acked && !z.solo then .mirror else .other)
      else s
    | none => s)

/-- What a vote of a device for its epoch does to one that is owed: the records that it covers are counted, or it
has failed (R535). -/
def VoteDue.take (v : VoteDue) (dev epoch : Nat) (ok : Bool) (covers : List (Nat × Nat)) : VoteDue :=
  match (if v.dev = dev ∧ (v.theirs = epoch ∨ v.theirs = 0) then covers.lookup v.mine else none) with
  | some n => if ok then { v with got := v.got + n } else { v with failed := true }
  | none => v

/-- A vote of another device (R535 to R537). -/
def State.takeVote (s : State) (dev epoch : Nat) (ok : Bool) (covers : List (Nat × Nat)) : State :=
  let s := if ok then s else (s.count Reg.WFT_CNT_VOTEFAIL 1).setBit Reg.WFT_ERR 6 true
  (s.mapWeft fun w => { w with votes := w.votes.map fun v => v.take dev epoch ok covers }).trySeal

def execVote (t dev epoch : Nat) (sealed : Bool) (covers : List (Nat × Nat)) (s : State) : Ans :=
  let s := s.advance t
  .next (if s.safe then s
    else (s.seen dev).takeVote dev epoch sealed covers)

/-! ## COMMIT -/

/-- The result of a transaction: the first RLEN bytes of its result area (R129). -/
def State.resultOf (s : State) (u rlen : Nat) : List Byte := s.bytes (s.pairArea u) rlen

/-- The homes of a transaction: the other devices on which it holds a stake. -/
def State.homesOf (s : State) (slot : Nat) : List Nat :=
  ((s.stakes.recs.filter fun r => r.slot = slot ∧ r.held.isSome ∧ r.home ≠ s.devId).map (·.home)).eraseDups

/-- The acceptance of a spanning transaction under way. -/
def State.spanWait (s : State) (slot : Nat) : Option SpanWait := s.weft.spans.find? fun w => w.slot = slot

/-- A COMMIT joins those that wait for the journal engine (R133). -/
def State.queueCommit (s : State) (u slot rlen : Nat) : State :=
  s.mapJournal fun j =>
    if j.waits.any fun w => w.unit = u then j
    else { j with waits := j.waits ++ [{ unit := u, slot := slot, rlen := rlen }] }

/-- A spanning COMMIT goes to the journal engine once every home has accepted or refused, while its unit stands at it
(R533). -/
def State.spanReady (s : State) (w : SpanWait) : State :=
  match (s.unit w.unit).wait with
  | .span rlen => if w.homes.isEmpty then s.queueCommit w.unit w.slot rlen else s
  | _ => s

/-- A spanning COMMIT begins: notices to its homes (R533). -/
def State.beginSpan (s : State) (u : Nat) (t : TSlot) (rlen : Nat) (homes : List Nat) : State :=
  let s := homes.foldl (fun s d => s.weftSend d wfSpanNotice (beBytes 1 1 ++ (s.partyOf t).bytes ++ beBytes 8 t.reqid ++ beBytes 2 t.plot)) s
  let s := s.mapWeft fun w => { w with spans := w.spans ++
    [{ slot := t.slot, unit := u, rlen := rlen, homes := homes, accepted := [], refused := [], issued := s.time }] }
  (s.setTslot { t with span := true }).mapUnit u fun x => { x with wait := .span rlen }

/-- COMMIT retires and its transaction ends, its completion waiting for an epoch (R63, R65, R113, R302). -/
def State.endCommit (s : State) (u : Nat) (t : TSlot) (epoch : Nat) (wait : Option Nat) (rlen : Nat) : State :=
  let result := s.resultOf u rlen
  let s := s.retire u ((s.unit u).arch.pc + 4)
  let s := s.leave u t
  s.complete { t with unit := none } (s.completion t 0 epoch result) wait

/-- COMMIT (R129 to R131, R301, R393, R533): once every store is visible it ends a read-only transaction, or
waits at its boundary for the journal engine and the homes. -/
def execCommit (u : Nat) (f : RegF) (s : State) : Ans :=
  .next (s.execute u { reserved := f.rd == 0 && f.rb == 0 && f.fc == 0 } fun s =>
    let x := s.unit u
    let rlen := (x.arch.reg f.ra).toNat
    match s.txnOf u with
    | none => .exc s (Exc.plain exTxn 1)
    | some t =>
      if 256 < rlen then .exc s (Exc.plain exTxn 2)
      else if !s.drained u ∨ s.weft.reqs.any (fun r => r.unit = u ∧ r.write) then .hold s
      else
        let homes := s.homesOf t.slot
        if t.span then
          let s := s.mapUnit u fun x => { x with wait := .span rlen }
          .hold (match s.spanWait t.slot with
            | some w => s.spanReady w
            | none => s)
        else if !homes.isEmpty then .hold (s.beginSpan u t rlen homes)
        else if x.lines.isEmpty then .ended (s.endCommit u t 0 (s.readWait u) rlen)
        else .hold ((s.queueCommit u t.slot rlen).mapUnit u fun x => { x with wait := .commit rlen }))

/-- The bit of JNL_ERR for which a record must wait, in the order of R134. -/
def State.commitBlock (s : State) (epoch rlen lines : Nat) : Option Nat :=
  let size := recordSize rlen lines
  let body := ((s.undoOf epoch).map Undo.bodyLen).getD 0
  if s.undoSize < (s.journal.undo.map Undo.undoLen).sum + 72 * lines then some 1
  else if s.fld Reg.JNL_SHEAFMAX 10 0 * 2 ^ 20 < body + size then some 2
  else if s.areaFree < size then some 9
  else none

/-- The record of a transaction that commits (R136): the after-images as its cluster holds them. -/
def State.recordOf (s : State) (u : Nat) (t : TSlot) (rlen : Nat) : JRecord :=
  let base := (s.liveRegion t.plot).1
  { reqid := t.reqid, plot := t.plot, queue := t.queue, slot := t.slot, span := t.span, result := s.resultOf u rlen
    lines := (s.unit u).lines.map fun e => { e with after := s.bytes (base + e.off) 64 } }

/-- The capture unit reads the after-images into its area (R126, R130). -/
def State.afterImages (s : State) (u : Nat) (r : JRecord) : State :=
  (r.lines.zip (List.range r.lines.length)).foldl (fun s e => s.setBytes (s.capEntry u e.2 + 72) (fitTo 64 e.1.after)) s

/-- Where the next record of the open sheaf goes. -/
def State.bodyEnd (s : State) : Nat := s.areaBase + s.reg64 Reg.JNL_HEAD_LO

/-- The votes that a spanning transaction joins to the epoch of its COMMIT (R533, R534). -/
def State.spanVotes (s : State) (slot epoch : Nat) : State :=
  match s.spanWait slot with
  | none => s
  | some w =>
    let s := w.accepted.foldl (fun s a => if a.2 = 0 then s else s.oweVote epoch a.1 a.2 1 false) s
    let s := (w.refused ++ w.homes).foldl (fun s d => s.oweVote epoch d 0 1 true) s
    s.mapWeft fun x => { x with spans := x.spans.filter fun y => y.slot ≠ slot }

/-- The journal engine takes the oldest waiting capture buffer (R130, R133, R134, R143). -/
def State.acceptCapture (s : State) (w : CommitWait) (ue : Bool) : State :=
  match s.tslot w.slot with
  | none => s
  | some t =>
    let epoch := s.epochAt w.unit
    if ue then (s.ringError s.bodyEnd).failOldest .other
    else if s.capPoisoned w.unit then s.captureLost w.unit
    else match s.commitBlock epoch w.rlen (s.unit w.unit).lines.length with
      | some bit => s.setBit Reg.JNL_ERR bit true
      | none =>
        let r := s.recordOf w.unit t w.rlen
        let s := (s.afterImages w.unit r).appendRecord epoch r
        let s := s.spanVotes w.slot epoch
        let s := s.mapUnit w.unit fun x => { x with spanned := [], spanStored := false }
        (s.endCommit w.unit t epoch (some epoch) w.rlen).ringCheck

/-- A unit stands at a COMMIT that waits (R134, R533). -/
def CoreUnit.committing (x : CoreUnit) : Bool :=
  match x.wait with
  | .commit _ => true
  | .span _ => true
  | _ => false

/-- A unit may retire the COMMIT at which it stands: its stores are visible (R113), and no input acts first at the boundary
(R107, R134, R298, R344, R569). -/
def State.mayRetire (s : State) (u : Nat) : Bool :=
  let x := s.unit u
  let p := s.pair (pairOf u)
  x.run && !x.halted && x.committing && !x.inputDue && s.drained u && !(s.weft.reqs.any fun r => r.unit = u ∧ r.write) &&
  !p.reload && p.takeover.isNone && !s.safe

def execCaptureAccept (ue : Bool) (s : State) : Ans :=
  .next (match s.journal.waits with
    | w :: _ => if s.mayRetire w.unit then s.acceptCapture w ue else s
    | [] => s)

/-- A home accepts or refuses its part of a spanning transaction (R533). -/
def State.spanAnswer (s : State) (dev slot epoch : Nat) (ok : Bool) : State :=
  match s.spanWait slot with
  | none => s
  | some w =>
    if dev ∈ w.homes then
      let w := { w with homes := w.homes.filter (· ≠ dev)
                        accepted := if ok then w.accepted ++ [(dev, epoch)] else w.accepted
                        refused := if ok then w.refused else w.refused ++ [dev] }
      (s.mapWeft fun x => { x with spans := x.spans.map fun y => if y.slot = slot then w else y }).spanReady w
    else s

def execSpanAccept (dev slot epoch : Nat) (ok : Bool) (s : State) : Ans :=
  .next (if s.safe then s
    else (s.seen dev).spanAnswer dev slot epoch ok)

/-- WFT_CFG.ACCEPT µs have passed since the notices, the last of them whole (R18): the homes that have not accepted count as FAILED votes
(R533). -/
def execSpanAcceptTimeout (t slot : Nat) (s : State) : Ans :=
  let s := s.advance t
  .next (match s.spanWait slot with
    | some w =>
      if s.usPassed (w.issued + s.fld Reg.WFT_CFG 7 0 * 1000) ∧ !w.homes.isEmpty ∧ !s.safe then
        let w := { w with refused := w.refused ++ w.homes, homes := [] }
        (s.mapWeft fun x => { x with spans := x.spans.map fun y => if y.slot = slot then w else y }).spanReady w
      else s
    | none => s)

end Sys2Proof.Machine
end

