-- ==== Sys2Proof/Machine/Caches.lean ====
section
/-! DEFINITION. The cluster caches and the scratchpads: the cache operations of instructions (R292, R416 to
R419), fills (R414, R419, R423, R636), errors in a cache or a scratchpad (R420 to R426), retention and the
strongroom (R428 to R430). -/

namespace Sys2Proof.Machine

open Sys2Proof

/-! ## Cache operations -/

/-- A maintenance operation on the line that holds EA: checked as a load, without effect outside DRAM (R416). -/
def State.lineOp (s : State) (u : Nat) (f : CacF) (op : State → Nat → Nat → Place → State) : State :=
  s.execute u { level := 1 } fun s =>
    match s.place u f.sp.toNat ((s.unit u).arch.ea f.ra f.disp) 1 .read .line with
    | .error e => e
    | .ok p => .done (if s.region p.pa = .dram then op s (clusterOf (pairOf u)) p.pa p else s)

/-- CLEAN: the holder writes the line back (R416). -/
def State.cleanAll (s : State) (pa : Nat) : State := allClusters.foldl (fun s c => s.cleanLine c pa) s

/-- FLUSH: CLEAN, then every copy goes but the marked ones (R416, R418). -/
def State.flushAll (s : State) (pa : Nat) : State := allClusters.foldl (fun s c => s.invalLine c pa) s

/-- PREFETCH: an absent line is filled into an eligible way (R416). -/
def State.prefetchLine (s : State) (u c pa : Nat) : State :=
  if (s.line? c pa).isSome || s.filling c pa || (s.chooseWay c pa).isNone then s else s.startFill c pa u .prefetch

/-- The lowest-numbered empty locked way of a set. -/
def State.emptyLocked (s : State) (c pa : Nat) : Option Nat :=
  (List.range 12).find? fun w => s.wayLocked c w && (s.wayLine c pa w).isNone && !s.wayFilling c pa w

/-- PRELOAD (R416): into the lowest empty locked way, by a move from an unlocked way or by a fill; without such
a way as PREFETCH. -/
def State.preloadLine (s : State) (u c pa : Nat) : State :=
  match s.emptyLocked c pa with
  | none => s.prefetchLine u c pa
  | some w =>
    match s.line? c pa with
    | some l => if s.wayLocked c l.way then s else s.putLine c { l with way := w }
    | none =>
      if s.filling c pa then s
      else s.mapCluster c fun x =>
        { x with fills := x.fills ++ [{ pa := lineOf pa, way := w, cause := .preload, unit := u, doomed := false, served := false }] }

/-- A fill may be made from an address. -/
def State.fillable (s : State) (c pa : Nat) : Bool := decide ((s.answerOf c pa).1 = .ok) && !s.creditOut c pa

/-- ZLINE is a store of 64 zero bytes to the line that holds EA (R292). -/
def execZline (u : Nat) (f : CacF) (s : State) : Ans :=
  .next (s.execute u {} fun s =>
    s.store u f.sp.toNat ((s.unit u).arch.ea f.ra f.disp / 64 * 64) (zeros 64) .other)

def execPreload (u : Nat) (f : CacF) (s : State) : Ans :=
  .next (s.lineOp u f fun s c pa p => if p.cacheable && (s.fillable c pa || (s.line? c pa).isSome) then s.preloadLine u c pa else s)

def execClean (u : Nat) (f : CacF) (s : State) : Ans := .next (s.lineOp u f fun s _ pa _ => s.cleanAll pa)

def execInval (u : Nat) (f : CacF) (s : State) : Ans := .next (s.lineOp u f fun s c pa _ => s.invalLine c pa)

def execFlush (u : Nat) (f : CacF) (s : State) : Ans := .next (s.lineOp u f fun s _ pa _ => s.flushAll pa)

/-- IINVAL only causes a refetch (R416). -/
def execIinval (u : Nat) (f : CacF) (s : State) : Ans := .next (s.lineOp u f fun s _ _ _ => s)

/-- PREFETCH raises nothing; where it would fault it does nothing (R292). -/
def execPrefetch (u : Nat) (f : CacF) (s : State) : Ans :=
  .next (s.execute u {} fun s =>
    let c := clusterOf (pairOf u)
    match s.place u f.sp.toNat ((s.unit u).arch.ea f.ra f.disp) 1 .read .line with
    | .error _ => .done s
    | .ok p => .done (if s.region p.pa = .dram ∧ p.cacheable ∧ s.fillable c p.pa then s.prefetchLine u c p.pa else s))

/-- The bytes that one execution of CACHER covers: at most 1,024 lines from the one that holds ra (R417). -/
def rangeCovered (ra rb : Nat) : Nat := min rb (ra / 64 * 64 + 65536 - ra)

/-- A range operation (R417): every byte that it covers is checked before any line is touched. -/
def State.rangeOp (s : State) (u : Nat) (f : CrgF) (op : State → Nat → Nat → State) : State :=
  s.execute u { reserved := f.rsv == 0, level := 1 } fun s =>
    let a := (s.unit u).arch
    let start := (a.reg f.ra).toNat
    let len := (a.reg f.rb).toNat
    let n := rangeCovered start len
    if n = 0 then .done s
    else match s.place u f.sp.toNat start n .read .line with
      | .error e => e
      | .ok p =>
        let s := (linesOf p.pa n).foldl (fun s l =>
          if s.region l = .dram then op s (clusterOf (pairOf u)) l else s) s
        .done (s.setRegs u [(f.ra, BitVec.ofNat 32 (start + n)), (f.rb, BitVec.ofNat 32 (len - n))])

def execRclean (u : Nat) (f : CrgF) (s : State) : Ans := .next (s.rangeOp u f fun s _ l => s.cleanAll l)
def execRinval (u : Nat) (f : CrgF) (s : State) : Ans := .next (s.rangeOp u f fun s c l => s.invalLine c l)
def execRflush (u : Nat) (f : CrgF) (s : State) : Ans := .next (s.rangeOp u f fun s _ l => s.flushAll l)

/-! ## Fills -/

/-- The mark that a line carries in some cluster (R410). -/
def State.markOf (s : State) (pa : Nat) : Option Nat := allClusters.findSome? fun c => (s.line? c pa).bind (·.mark)

/-- A fill leaves the list of those in flight. -/
def State.endFill (s : State) (c : Nat) (x : Fill) (put : List Fill) : State :=
  s.mapCluster c fun k => { k with fills := k.fills.erase x ++ put }

/-- A doomed fill arrives (R419). -/
def State.doomedFill (s : State) (c : Nat) (x : Fill) : State :=
  let s := s.count (clsReg Reg.CLS_CNT_DOOM c) 1
  match x.cause with
  | .load | .fetch => s.endFill c x [{ x with served := true }]
  | .store => s.endFill c x [{ x with doomed := false }]
  | .preload | .prefetch => s.endFill c x []

/-- A fill arrives at a cluster cache (R414, R419). A line that another cluster holds comes from there, with its
mark (R408, R410). -/
def execCacheFill (cluster pa : Nat) (f : FillFor) (r : ReadResult) (s : State) : Ans :=
  .next (match (s.cluster cluster).fills.find? fun x => x.pa = lineOf pa ∧ x.cause = f ∧ !x.served with
    | none => s
    | some x =>
      let held := allClusters.any fun d => (s.line? d pa).isSome
      let s := if held then s else s.dramRead x.pa r
      if x.doomed then s.doomedFill cluster x
      else (s.endFill cluster x []).putLine cluster { pa := x.pa, way := x.way, mark := s.markOf pa, dirty := none })

/-! ## Errors in a cluster cache -/

/-- The plot whose space table maps a physical address (R423). -/
def State.mapsAddress (s : State) (pa : Nat) : Option Nat :=
  (s.plots.plots.find? fun p => p.2.spaces.any fun e => e.2.attr.testBit 0 && decide (e.2.base ≤ pa ∧ pa < e.2.base + 4096 * e.2.pages)).map (·.1)

/-- An error was corrected or its line fetched again (R421). -/
def State.l2Corrected (s : State) (c bit : Nat) : State :=
  (s.count (clsReg Reg.CLS_CNT_L2CORR c) 1).errEvent (clsReg Reg.CLS_L2ERR c) bit (Src.cluster c) 1 noPlot 0

/-- A marked line is lost: the seal of the oldest unsealed epoch fails (R422). -/
def State.markedLost (s : State) (c bit : Nat) : State :=
  (s.setBit (clsReg Reg.CLS_L2ERR c) bit true).failOldest .other

/-- An unmarked dirty line is lost: DRAM holds it poisoned (R423). -/
def State.dirtyLost (s : State) (c pa : Nat) : State :=
  let s := (s.setPoison (lineOf pa) 64).dropLine c pa
  match s.mapsAddress pa with
  | some p => s.errEvent (clsReg Reg.CLS_L2ERR c) 3 (Src.cluster c) 5 p 0
  | none => s.errEvent (clsReg Reg.CLS_L2ERR c) 3 (Src.cluster c) 6 noPlot 0

/-- Uncorrectable data of a line (R421). A clean line is fetched again and keeps its mark (R410). -/
def State.dataLost (s : State) (c : Nat) (l : CLine) : State :=
  match l.dirty, l.mark with
  | none, _ => s.l2Corrected c 0
  | some _, some _ => s.markedLost c 2
  | some _, none => s.dirtyLost c l.pa

/-- A parity error of the address tag of a line (R421). A clean line that carries a mark is fetched again with it
(R410; log entry 50). -/
def State.tagLost (s : State) (c : Nat) (l : CLine) : State :=
  match l.dirty, l.mark with
  | none, none => (s.dropLine c l.pa).l2Corrected c 4
  | none, some _ => s.l2Corrected c 4
  | some _, some _ => s.markedLost c 4
  | some _, none => s.errEvent (clsReg Reg.CLS_L2ERR c) 4 (Src.cluster c) 6 noPlot 0

/-- Parity misses an even number of flipped bits of a byte: the byte is whatever it has become (R420). -/
def State.missedFlip (s : State) (pa : Nat) : State := s.drawn.setByte pa (BitVec.ofNat 8 s.free)

/-- An error is found in a line of a cluster cache (R420, R421); pa is the address of the byte. -/
def execL2Scrub (cluster pa : Nat) (e : L2Error) (s : State) : Ans :=
  .next (match s.line? cluster pa with
    | none => s
    | some l =>
      let serge := s.bit (clsReg Reg.CLS_L2CFG cluster) 0
      match e with
      | .tag => s.tagLost cluster l
      | .state n =>
        if n = 0 then s
        else if n = 1 then s.l2Corrected cluster 0
        else s.errEvent (clsReg Reg.CLS_L2ERR cluster) 6 (Src.cluster cluster) 6 noPlot 0
      | .data n =>
        if n = 0 then s
        else if serge then (if n = 1 then s.l2Corrected cluster 0 else s.dataLost cluster l)
        else if n % 2 = 0 then s.missedFlip pa
        else s.dataLost cluster l)

/-! ## Scratchpads -/

/-- The scrubber finds an error in a scratchpad word (R426). -/
def execScratchpadScrub (cluster off : Nat) (e : SpError) (s : State) : Ans :=
  let err := clsReg Reg.CLS_SPERR cluster
  .next (match e with
    | .corrected => (s.count (clsReg Reg.CLS_CNT_SPCORR cluster) 1).errEvent err 0 (Src.cluster cluster) 1 noPlot 0
    | .uncorrectable =>
      (s.setPoison (scratchBase + 0x400000 * cluster + off / 8 * 8) 8).errEvent err 1 (Src.cluster cluster) 2 noPlot 0)

/-- The banks that hold the capture area or a pair area of a pair (R424, R430). -/
def State.pairBanks (s : State) (p : Nat) : List Nat :=
  let cfg := s.reg (pairReg Reg.CLS_PAIRCFG p)
  [bits cfg 29 24 * 0x10000 / 0x80000, bits cfg 14 8 * 0x8000 / 0x80000] ++
    (if s.isSplit p then [bits cfg 22 16 * 0x8000 / 0x80000] else [])

/-- A store on its way lies in a bank. -/
def State.storeInBank (s : State) (c b : Nat) : Bool :=
  let hit (l : List BufStore) : Bool := l.any fun x => match s.region x.pa with
    | .scratch c' off => c' == c && off / 0x80000 == b
    | _ => false
  allUnits.any (fun u => hit (s.unit u).stores) || allPairs.any (fun p => hit (s.pair p).stores) ||
    allClusters.any (fun d => hit (s.cluster d).stores)

/-- A bank may not go into retention: `busy` names the banks with an access in flight, beside the stores on their way and
a wipe (R430; log entry 53). -/
def State.bankBusy (s : State) (c b : Nat) (busy : List Nat) : Bool :=
  decide (b ∈ busy) ||
  (List.range 8).any (fun i =>
    let p := 8 * c + i
    let r := s.role p
    (r == roleActive || r == roleSplit || r == roleSplitting || r == roleRejoining || r == roleReleasing) &&
      decide (b ∈ s.pairBanks p)) ||
  s.storeInBank c b || (b == 7 && s.bit (clsReg Reg.CLS_SPSTAT c) 16)

/-- Bit b of the scratchpad status: WAKING at 8 + b, RETAINED at b. -/
def State.setSpstat (s : State) (c i : Nat) (v : Bool) : State := s.setBit (clsReg Reg.CLS_SPSTAT c) i v

/-- One bank of a write of CLS_SPRET (R430). -/
def State.retainBank (s : State) (c b : Nat) (want : Bool) (busy : List Nat) : State :=
  let now := s.bit (clsReg Reg.CLS_SPRET c) b
  if want = now then s
  else if want then
    if s.bankBusy c b busy then s.setBit (clsReg Reg.CLS_SPERR c) 3 true
    else (((s.setBit (clsReg Reg.CLS_SPRET c) b true).setSpstat c b true).setSpstat c (8 + b) false)
  else ((s.setBit (clsReg Reg.CLS_SPRET c) b false).setSpstat c b false).setSpstat c (8 + b) true

def execScratchpadRetention (m : Master) (cluster : Nat) (v : Word) (busy : List Nat) (s : State) : Ans :=
  .next (if s.writesReg m (clsReg Reg.CLS_SPRET cluster) then
    (List.range 8).foldl (fun s b => s.retainBank cluster b (v.getLsbD b) busy) s else s)

def execBankWakeDone (cluster bank : Nat) (s : State) : Ans :=
  .next (if bank < 8 then s.setSpstat cluster (8 + bank) false else s)

/-! ## The strongroom -/

/-- The wipe of every strongroom starts; a bank 7 in retention is woken first (R429). -/
def State.startWipe (s : State) : State :=
  allClusters.foldl (fun s c => (s.retainBank c 7 false []).setSpstat c 16 true) s

/-- A wipe completes: zeros, WIPED (R429). -/
def State.wipeStrongroom (s : State) (c : Nat) : State :=
  let base := scratchBase + 0x400000 * c + 0x380000
  let s := s.mapMem fun m =>
    { m with cells := m.cells.filter fun x => !(decide (base ≤ x.1 ∧ x.1 < base + 0x40000))
             poison := m.poison.filter fun g => !(decide (base ≤ 8 * g ∧ 8 * g < base + 0x40000)) }
  (s.setSpstat c 16 false).setBit (clsReg Reg.CLS_SPERR c) 4 true

def execStrongroomWipeDone (cluster : Nat) (s : State) : Ans :=
  .next (if s.bit (clsReg Reg.CLS_SPSTAT cluster) 16 ∧ !s.bankAsleep cluster 7 then s.wipeStrongroom cluster else s)

end Sys2Proof.Machine
end

