-- ==== Sys2Proof/Machine/Ecdsa.lean ====
section
/-! DEFINITION. ECDSA over P-384 (FIPS 186-5) with the deterministic nonce of RFC 6979 and SHA-384, which
R489 names. -/

namespace Sys2Proof.Machine

open Sys2Proof

/-! ## The curve -/

/-- The prime of the field, the order of the group, the coefficient b and the base point of P-384. -/
def p384 : Nat := 2 ^ 384 - 2 ^ 128 - 2 ^ 96 + 2 ^ 32 - 1
def n384 : Nat :=
  0xFFFFFFFFFFFFFFFFFFFFFFFFFFFFFFFFFFFFFFFFFFFFFFFFC7634D81F4372DDF581A0DB248B0A77AECEC196ACCC52973
def b384 : Nat :=
  0xB3312FA7E23EE7E4988E056BE3F82D19181D9C6EFE8141120314088F5013875AC656398D8A2ED19D2A85C8EDD3EC2AEF
def gx384 : Nat :=
  0xAA87CA22BE8B05378EB1C71EF320AD746E1D3B628BA79B9859F741E082542A385502F25DBF55296C3A545E3872760AB7
def gy384 : Nat :=
  0x3617DE4A96262C6F5D9E98BF9292DC29F8F41DBD289A147CE9DA3113B5F0B8C00A60B1CE1D7E819D7A431D7C90EA0E5F

/-- A power modulo m; fuel is the number of bits of the exponent. -/
def powMod (m : Nat) : Nat → Nat → Nat → Nat
  | 0, _, _ => 1
  | fuel + 1, a, e =>
    let r := powMod m fuel (a * a % m) (e / 2)
    if e % 2 = 1 then r * a % m else r

/-- The inverse modulo a prime of at most 384 bits. -/
def invMod (m a : Nat) : Nat := powMod m 384 (a % m) (m - 2)

/-- A point; none is the point at infinity. -/
abbrev EcPoint := Option (Nat × Nat)

/-- The sum of two points (coefficient a is −3). -/
def ecAdd (u v : EcPoint) : EcPoint :=
  match u, v with
  | none, q => q
  | p, none => p
  | some (x1, y1), some (x2, y2) =>
    if x1 = x2 ∧ (y1 + y2) % p384 = 0 then none
    else
      let l :=
        if x1 = x2 then (3 * x1 * x1 + (p384 - 3)) * invMod p384 (2 * y1) % p384
        else (y2 + p384 - y1) * invMod p384 (x2 + p384 - x1) % p384
      let x3 := (l * l + 2 * p384 - x1 - x2) % p384
      some (x3, (l * (x1 + p384 - x3) + p384 - y1) % p384)

/-- A multiple of a point; fuel is the number of bits of the scalar. -/
def ecMul : Nat → Nat → EcPoint → EcPoint
  | 0, _, _ => none
  | fuel + 1, k, q =>
    let r := ecMul fuel (k / 2) (ecAdd q q)
    if k % 2 = 1 then ecAdd q r else r

def ecBase : EcPoint := some (gx384, gy384)

/-- A point that lies on the curve. -/
def onCurve (x y : Nat) : Bool :=
  decide (x < p384 ∧ y < p384) && (y * y % p384 == (x * x * x + (p384 - 3) * x + b384) % p384)

/-- The public point of a private scalar, x then y (R489). -/
def ecPublic (d : Nat) : List Byte :=
  match ecMul 384 d ecBase with
  | some (x, y) => beBytes 48 x ++ beBytes 48 y
  | none => zeros 96

/-! ## Signatures -/

/-- The nonces of RFC 6979 in order: the first that gives a signature decides; fuel bounds the search. -/
def ecSignFrom (d e : Nat) : Nat → List Byte → List Byte → List Byte
  | 0, _, _ => zeros 96
  | fuel + 1, k, v =>
    let v := hmac384 k v
    let c := beNat v
    let again (_ : Unit) : List Byte :=
      let k := hmac384 k (v ++ [0x00])
      ecSignFrom d e fuel k (hmac384 k v)
    if c = 0 ∨ n384 ≤ c then again ()
    else match ecMul 384 c ecBase with
      | none => again ()
      | some (x, _) =>
        let r := x % n384
        let s := invMod n384 c * ((e + r * d) % n384) % n384
        if r = 0 ∨ s = 0 then again () else beBytes 48 r ++ beBytes 48 s

/-- The signature of a 48-byte digest under a private scalar, r then s (R489). -/
def ecSign (d : Nat) (digest : List Byte) : List Byte :=
  let h := beNat digest % n384
  let x := beBytes 48 d ++ beBytes 48 h
  let v0 := List.replicate 48 (0x01 : Byte)
  let k1 := hmac384 (zeros 48) (v0 ++ [0x00] ++ x)
  let v1 := hmac384 k1 v0
  let k2 := hmac384 k1 (v1 ++ [0x01] ++ x)
  ecSignFrom d h 64 k2 (hmac384 k2 v1)

/-- A signature verifies a digest under a public key of 96 bytes (R489). -/
def ecVerify (digest key sig : List Byte) : Bool :=
  let x := beAt key 0 48
  let y := beAt key 48 48
  let r := beAt sig 0 48
  let s := beAt sig 48 48
  if !onCurve x y ∨ r = 0 ∨ n384 ≤ r ∨ s = 0 ∨ n384 ≤ s then false
  else
    let w := invMod n384 s
    match ecAdd (ecMul 384 (beNat digest * w % n384) ecBase) (ecMul 384 (r * w % n384) (some (x, y))) with
    | some (px, _) => px % n384 == r
    | none => false

/-- The attestation scalar of a derived string (R483). -/
def attestScalar (c : List Byte) : Nat := beNat c % (n384 - 1) + 1

end Sys2Proof.Machine
end

