-- ==== Sys2Proof/Machine/Reset.lean ====
section
/-! DEFINITION. Resets (R618 to R621): what a device reset and a loss of power leave of the state, the reset pins,
the write of PCK_RSTCTRL. The always-on clock of the model runs through every reset (log entry 24). -/

namespace Sys2Proof.Machine

open Sys2Proof

/-! ## Causes (R618) -/

def causePowerOn : Nat := 0x01
def causePin : Nat := 0x02
def causeSoftware : Nat := 0x03
def causeLifecycle : Nat := 0x04
def causeDebug : Nat := 0x05

/-- The reset cause recorded in both registers that hold it (R618). -/
def State.noteCause (s : State) (cause : Nat) : State :=
  (s.setReg Reg.PCK_RSTCAUSE (BitVec.ofNat 32 cause)).setFld Reg.SWD_BOOTSTAT 15 8 cause

/-! ## Device reset (R619, R620) -/

/-- The registers that only a power-on reset resets: those of the Almanac and the counters of the Gleaner
(R604, R605, R620). -/
def survivesReset (off : Nat) : Bool :=
  decide (0x020000 ≤ off ∧ off < 0x040000) || off == Reg.GLN_NEXTSEQ || off == Reg.GLN_SAFECAUSE || off == Reg.GLN_CNT_LOST

/-- Control space after a device reset: GLN_STATUS.SELF, GLN_ERR.SELF and the tamper bits of LCT_ERR stand too
(R576, R604, R620). -/
def State.ctlAfterReset (s : State) : Ctl :=
  let part (l : List (Nat × BitVec 32)) (off : Nat) (mask : Word) : List (Nat × BitVec 32) :=
    sset regReset l off (s.reg off &&& mask)
  let l := s.ctl.regs.filter fun r => survivesReset r.1
  let l := part l Reg.GLN_STATUS 0x40000000#32
  let l := part l Reg.GLN_ERR 0x4#32
  { regs := part l Reg.LCT_ERR 0x3C#32, latch := [], held := [], rdata := 0 }

/-- The DRAM that self-refresh keeps: the lines that only a cache held in their newest form go back to what DRAM
holds of them (R408, R619). Nothing of the scratchpads stays (R427). -/
def State.memAfterReset (s : State) : Mem :=
  let dirty := s.clusters.flatMap fun c => c.2.lines.filterMap fun l => l.dirty.map fun b => (l.pa, b)
  let s := dirty.foldl (fun s d => s.setBytes d.1 d.2) s
  { s.mem with cells := s.mem.cells.filter fun c => c.1 < scratchBase
               poison := s.mem.poison.filter fun g => 8 * g < scratchBase }

/-- The epoch reservation whose write was in progress completes (R53, R619). -/
def State.resvAfterReset (s : State) : Mram :=
  match s.tick.resvWrite with
  | some v => { s.mram with resvA := some v, resvB := some v, resvUsed := true }
  | none => s.mram

/-- The time base, and with it the tick, starts again (R39). -/
def State.restartBase (s : State) : State :=
  s.mapTick fun t => { t with base := (s.time : Int) }

/-- A device reset with its cause. While RESET_N is low it holds the device. -/
def State.deviceReset (s : State) (cause : Nat) : State :=
  let t : State :=
    { State.reset with
      ctl := s.ctlAfterReset
      gleaner := { s.gleaner with recs := s.gleaner.recs.map fun r => { r with preReset := true }, counts := [], doorbells := 0 }
      almanac := { s.almanac with resetSeen := true }
      mem := s.memAfterReset
      cipher := { Cipher.reset with blobs := s.cipher.blobs }
      furrow := { Furrow.reset with partOps := s.furrow.partOps }
      fuses := s.fuses
      mram := s.resvAfterReset
      power := { Power.reset with on := s.power.on, resetN := s.power.resetN, inReset := !s.power.resetN, refresh := true }
      out := s.out, time := s.time, fresh := s.fresh, pending := s.pending }
  (t.noteCause cause).restartBase

/-- A device reset is accepted while the device has power (R618). -/
def State.tryReset (s : State) (cause : Nat) : State := if s.power.on then s.deviceReset cause else s

/-! ## Loss of power and power-on reset (R610, R611, R620) -/

/-- MRAM after a loss of power: a reservation being written may be left incomplete in either copy, first then
second (R53, R611); a free value says how far. -/
def State.resvTorn (s : State) : Mram :=
  match s.tick.resvWrite with
  | some v =>
    match s.free % 4 with
    | 0 => { s.mram with resvA := none, resvUsed := true }
    | 1 => { s.mram with resvA := some v, resvUsed := true }
    | 2 => { s.mram with resvA := some v, resvB := none, resvUsed := true }
    | _ => { s.mram with resvA := some v, resvB := some v, resvUsed := true }
  | none => s.mram

/-- A snapshot being written may be left incomplete (R601, R611): a free value says how much of the slot is new. -/
def State.almAfterLoss (s : State) : Almanac :=
  let a : Almanac := { Almanac.reset with perm := s.almanac.perm, circ := s.almanac.circ }
  match s.almanac.writing with
  | some w =>
    let n := s.free % 2049
    let torn (area : List (Nat × List Byte)) (slot : Nat) : List (Nat × List Byte) :=
      sput area slot (w.image.take n ++ ((area.lookup slot).getD (zeros 2048)).drop n)
    { a with circ := torn a.circ ((w.seq - 1) % 4096), perm := if w.seq ≤ 4096 then torn a.perm (w.seq - 1) else a.perm }
  | none => a

/-- PORST_N is low: nothing is kept but what MRAM and the fuses hold (R611, R620). -/
def State.losePower (s : State) : State :=
  let t : State :=
    { State.reset with
      ctl := { regs := s.ctl.regs.filter fun r => r.1 = Reg.ALM_HEAD_LO ∨ r.1 = Reg.ALM_HEAD_HI, latch := [], held := [], rdata := 0 }
      almanac := s.almAfterLoss
      cipher := { Cipher.reset with blobs := s.cipher.blobs }
      furrow := { Furrow.reset with partOps := s.furrow.partOps }
      fuses := s.fuses
      mram := s.resvTorn
      boot := { Boot.reset with stage := none }
      power := { Power.reset with on := false, resetN := s.power.resetN, inReset := true }
      out := s.out, time := s.time
      fresh := s.fresh + (if s.tick.resvWrite.isSome || s.almanac.writing.isSome then 1 else 0), pending := s.pending }
  t

def execPorstNAssert (s : State) : Ans := .next s.losePower

/-- PORST_N is released: everything starts afresh (R610). While PORST_N was not driven low first, this is the whole
pulse. -/
def execPowerOnReset (s : State) : Ans :=
  let s := if s.power.on then s.losePower else s
  .next (((s.mapPower fun p => { p with on := true, inReset := !p.resetN }).mapBoot fun b => { b with stage := some 1 }).noteCause
    causePowerOn).restartBase

/-! ## The pins and PCK_RSTCTRL -/

/-- RESET_N has been low for as long as its filter asks (R628). -/
def execResetNAssert (t : Nat) (s : State) : Ans :=
  let s := (s.advance t).mapPower fun p => { p with resetN := false }
  .next (s.tryReset causePin)

/-- RESET_N is high again: the device leaves reset and boots (R619). -/
def execResetNRelease (t : Nat) (s : State) : Ans :=
  let s := (s.advance t).mapPower fun p => { p with resetN := true }
  .next (if s.power.on ∧ s.power.inReset then (s.mapPower fun p => { p with inReset := false }).restartBase else s)

/-- A write of PCK_RSTCTRL (R621, R632): with KEY and DEVRST a device reset, else ignored with BADW. -/
def State.writeRstCtrl (s : State) (m : Master) (v : Word) : State :=
  if bits v 31 16 = 0xC0DE ∧ v.getLsbD 0 then s.tryReset (if m = .debugger then causeDebug else causeSoftware)
  else s.badw Reg.PCK_RSTCTRL

def execSoftwareReset (m : Master) (v : Word) (s : State) : Ans :=
  .next (if s.writesReg m Reg.PCK_RSTCTRL then s.writeRstCtrl m v else s)

/-- The reset that follows a lifecycle change, 1 ms after its reply (R562). -/
def execLifecycleReset (s : State) : Ans :=
  .next (match s.power.lcReset with
    | some t => (s.advance t).tryReset causeLifecycle
    | none => s)

end Sys2Proof.Machine
end

