-- ==== Sys2Proof/Machine/Debug.lean ====
section
/-! DEFINITION. The Evral debug port without its memory accesses: who reaches what (R567), the check of an authorisation
(R568), halt, step, resume and breakpoints (R569 to R572), the architected registers of a pair (R573), the DBG registers
(R577). -/

namespace Sys2Proof.Machine

open Sys2Proof

/-! ## Access -/

/-- A master's access has a scope: bit 0 RUN, 1 MEM, 2 STEWARD; level D is not restricted (R567, R568). -/
def State.hasScope (s : State) (m : Master) (b : Nat) : Bool := m != .debugger || s.portScope.testBit b

/-- The port reaches a DBG register in the state that it is in (R567). -/
def State.portReaches (s : State) (write : Bool) (off : Nat) : Bool :=
  if s.portAccess = 3 then off == Reg.DBG_ID && !write
  else if s.portAccess = 1 then
    off == Reg.DBG_ID || off == Reg.DBG_AUTHCTRL || off == Reg.DBG_AUTHSTAT || off == Reg.DBG_ERR ||
    (decide (Reg.DBG_AUTHWIN ≤ off) && decide (off < Reg.DBG_AUTHWIN + 160))
  else true

/-- A master reaches a DBG register. -/
def State.dbgReaches (s : State) (m : Master) (write : Bool) (off : Nat) : Bool :=
  match m with
  | .debugger => s.portReaches write off
  | .firmware | .mechanism => true
  | _ => false

/-- An access of the port is refused: DENIED (R567). A bit of DBG_ERR says why (R577). -/
def State.dbgRefuse (s : State) (m : Master) (bit : Nat) : State :=
  if m = .debugger then s.setBit Reg.DBG_ERR bit true else s

/-! ## Authorisation (R568) -/

/-- The owner public key of the configuration accepted (R547). -/
def State.ownerPub (s : State) : List Byte := fitTo 96 s.boot.config

/-- A key of the boot ROM as bytes. -/
def romKey (k : BitVec 768) : List Byte := beBytes 96 k.toNat

/-- MEAS slot i (R551). -/
def State.meas (s : State) (i : Nat) : List Byte := (s.boot.meas.lookup i).getD (zeros 48)

/-- Extending a slot by a digest (R551). -/
def State.extendMeas (s : State) (i : Nat) (d : List Byte) : State :=
  let v := sha384 (s.meas i ++ d)
  s.mapBoot fun b => { b with meas := sput b.meas i v }

/-- UID (R541). -/
def State.uid (s : State) : List Byte := fitTo 16 s.fuses.uid

/-- The check of the 160 bytes of an authorisation, as the RESULT of DBG_AUTHSTAT: 1 ACCEPTED, 2 BAD_FORMAT, 3
WRONG_DEVICE, 4 WRONG_BOOT, 5 BAD_SIG, 6 WRONG_SIGNER. The tests come in the order of these codes; LCCOUNT counts as
WRONG_BOOT (DEDUCED, log entry 27). -/
def State.authResult (s : State) (b : List Byte) : Nat :=
  let signer := leAt b 36 1
  if b.length ≠ 160 ∨ leAt b 0 4 ≠ 0x44554101 ∨ leAt b 4 2 ≠ 1 ∨ 8 ≤ leAt b 6 2 ∨ (signer ≠ 1 ∧ signer ≠ 2) ∨
      slice b 37 27 ≠ zeros 27 then 2
  else if slice b 8 16 ≠ s.uid then 3
  else if leAt b 24 8 ≠ s.boot.seq ∨ leAt b 32 4 ≠ s.fuses.lcCount then 4
  else if !ecVerify (sha384 (b.take 64)) (if signer = 1 then s.ownerPub else romKey Config.debugKey) (slice b 64 96) then 5
  else if (signer = 1 ∧ s.fuses.lifecycle = 2) ∨ (signer = 2 ∧ s.fuses.lifecycle = 3) then 1
  else 6

/-- The check of an authorisation takes effect (R568). -/
def State.authorise (s : State) (b : List Byte) : State :=
  let r := s.authResult b
  let s := s.mapEvral fun e => { e with result := r }
  if r = 1 then
    ((s.mapEvral fun e => { e with scope := some (leAt b 6 2) }).extendMeas 6 (sha384 b)).event Src.evral 0
      (detail noKind noPlot 0)
  else s.setBit Reg.DBG_ERR 1 true

/-- The 160 bytes of DBG_AUTHWINk. -/
def State.authWindow (s : State) : List Byte :=
  (List.range 40).flatMap fun k => leBytes 4 (s.reg (Reg.DBG_AUTHWIN + 4 * k)).toNat

/-- A write of DBG_AUTHCTRL (R577). CLEAR acts first; a COMMIT while a check is in progress starts no other (log entry
27). -/
def State.writeAuthCtrl (s : State) (v : Word) : State :=
  let s := if v.getLsbD 1 then (List.range 40).foldl (fun s k => s.setReg (Reg.DBG_AUTHWIN + 4 * k) 0) s else s
  if v.getLsbD 0 then s.mapEvral fun e => { e with checking := true } else s

def execAuthCommit (m : Master) (s : State) : Ans :=
  .next (if s.dbgReaches m true Reg.DBG_AUTHCTRL then s.writeAuthCtrl 1 else s.dbgRefuse m 2)

def execAuthClear (m : Master) (s : State) : Ans :=
  .next (if s.dbgReaches m true Reg.DBG_AUTHCTRL then s.writeAuthCtrl 2 else s.dbgRefuse m 2)

/-- A check started by COMMIT ends. -/
def execAuthCheckDone (s : State) : Ans :=
  .next (if s.evral.checking ∧ !s.held then (s.mapEvral fun e => { e with checking := false }).authorise s.authWindow else s)

/-! ## Halt, resume, step (R569, R570, R572) -/

/-- The pair that DBG_PCTRL selects; 96 is the Steward. -/
def State.dbgPair (s : State) : Nat := s.fld Reg.DBG_PCTRL 6 0

/-- The units of a pair as the debug registers reach them. -/
def dbgUnits (p : Nat) : List Nat := if p = 96 then [192] else unitsOfPair p

/-- The pair is halted. -/
def State.pairHalted (s : State) (p : Nat) : Bool := (s.unit (2 * p)).halted

/-- HALT: a debug halt is presented to the units of the pair; the Steward stops at once, for its instructions are not
steps of this model (R361, R569, R572). -/
def State.dbgHalt (s : State) (p : Nat) : State :=
  if s.pairHalted p then s
  else if p = 96 then (s.haltPair 96 .request 0).mapEvral fun e => { e with stewHalt := true }
  else (unitsOfPair p).foldl (fun s u => s.mapUnit u fun x => { x with latch := { x.latch with halt := true } }) s

/-- A halted unit goes on: the time halted is no core time (R68). -/
def CoreUnit.goOn (x : CoreUnit) (now : Nat) (step : Bool) : CoreUnit :=
  if x.halted then
    { x with halted := false, stepping := step, haltedNs := if x.coreFrom.isSome then x.haltedNs + (now - x.haltFrom) else x.haltedNs }
  else x

/-- RESUME: the pair runs (R570). The watchdog did not run while the Steward was halted (R622). -/
def State.dbgResume (s : State) (p : Nat) : State :=
  if !s.pairHalted p then s
  else
    let from_ := (s.unit (2 * p)).haltFrom
    let s := (dbgUnits p).foldl (fun s u => s.mapUnit u fun x => x.goOn s.timeBase false) s
    let s := s.mapPair p fun x => { x with stop := none }
    if p = 96 then
      (s.mapEvral fun e => { e with stewHalt := false }).mapPower fun w => { w with wdog := w.wdog.map fun k => k + (s.timeBase - from_) }
    else s

/-- STEP: the pair runs to its next boundary (R570), which an idle one reaches after it is dispatched to. The Steward's next boundary is not a step of this model: it stands
halted there at once (log entry 27). -/
def State.dbgStep (s : State) (p : Nat) : State :=
  if !s.pairHalted p then s
  else if p = 96 then s.mapPair 96 fun x => { x with stop := some .step, bpHit := 0 }
  else (dbgUnits p).foldl (fun s u => s.mapUnit u fun x => x.goOn s.timeBase true) s

/-- The scope that halting, stepping and the breakpoints of a pair need (R568, R572). -/
def State.mayRun (s : State) (m : Master) (p : Nat) : Bool := s.hasScope m (if p = 96 then 2 else 0)

/-- A write of DBG_PCTRL (R577): PAIR first, then BRKHALT and CMD on the pair that it selects. -/
def State.writePctrl (s : State) (m : Master) (v : Word) : State :=
  let sel := bits v 6 0
  let s := if sel ≤ 96 then s.setFld Reg.DBG_PCTRL 6 0 sel else s.badw Reg.DBG_PCTRL
  let p := s.dbgPair
  let cmd := bits v 31 29
  let s := if 4 ≤ cmd then s.badw Reg.DBG_PCTRL else s
  let acts := decide (1 ≤ cmd ∧ cmd ≤ 3) || v.getLsbD 8 != (s.pair p).brkHalt
  if !acts then s
  else if !s.mayRun m p then s.dbgRefuse m 2
  else
    let s := s.mapPair p fun x => { x with brkHalt := v.getLsbD 8 }
    if cmd = 1 then s.dbgHalt p
    else if cmd = 2 then s.dbgResume p
    else if cmd = 3 then s.dbgStep p
    else s

/-- A write of DBG_PCTRL by a master, where it reaches the register. -/
def State.pctrlBy (s : State) (m : Master) (v : Word) : State :=
  if s.dbgReaches m true Reg.DBG_PCTRL then s.writePctrl m v else s.dbgRefuse m 2

def execDebugHalt (m : Master) (v : Word) (s : State) : Ans := .next (s.pctrlBy m (setBits v 31 29 1))
def execResume (m : Master) (v : Word) (s : State) : Ans := .next (s.pctrlBy m (setBits v 31 29 2))
def execStep (m : Master) (v : Word) (s : State) : Ans := .next (s.pctrlBy m (setBits v 31 29 3))

/-- DBG_PSTAT (R577). -/
def State.pstat (s : State) : Word :=
  let p := s.dbgPair
  let x := s.pair p
  let cause : Nat := match x.stop with
    | none => 0
    | some .request => 1
    | some .breakpoint => 2
    | some .brk => 3
    | some .step => 4
  let txn := (dbgUnits p).any fun u => (s.unit u).txn.isSome
  BitVec.ofNat 32 ((s.pairHalted p).toNat * 2 ^ 31 + txn.toNat * 2 ^ 30 + cause * 2 ^ 8 + x.bpHit % 256)

/-! ## Breakpoints (R571) -/

/-- Breakpoint k of the selected pair, its word: false address, true control. -/
def State.readBp (s : State) (k : Nat) (ctl : Bool) : Word :=
  let b := (s.pair s.dbgPair).bp k
  if ctl then b.2 else b.1

/-- A write of DBG_BPADDRk or DBG_BPCTLk. -/
def State.writeBp (s : State) (m : Master) (k : Nat) (ctl : Bool) (v : Word) : State :=
  let p := s.dbgPair
  if !s.mayRun m p then s.dbgRefuse m 2
  else
    let b := (s.pair p).bp k
    let b := if ctl then (b.1, v &&& 0xE00FFFFF#32) else (v, b.2)
    s.mapPair p fun x => { x with bps := sset (fun _ => (0, 0)) x.bps k b }

/-! ## Registers of a pair (R573) -/

/-- A value of DBG_RSEL that names a register (R577). -/
def rselLegal (n : Nat) : Bool := decide (n ≤ 0x60) || (decide (0x100 ≤ n) && (srAccess (n - 0x100)).isSome)

/-- A write of DBG_RSEL. -/
def State.writeRsel (s : State) (v : Word) : State :=
  if rselLegal (bits v 8 0) then s.setFld Reg.DBG_RSEL 8 0 (bits v 8 0) else s.badw Reg.DBG_RSEL

/-- The register of a unit that DBG_RSEL names. -/
def State.dbgReg (s : State) (u n : Nat) : Word :=
  let a := (s.unit u).arch
  if n < 0x20 then a.reg (BitVec.ofNat 5 n)
  else if n < 0x60 then
    let d := (a.freg (BitVec.ofNat 5 ((n - 0x20) / 2))).toNat
    BitVec.ofNat 32 (if n % 2 = 0 then d else d / 2 ^ 32)
  else if n = 0x60 then a.pc
  else s.readSr u (n - 0x100)

/-- Level D may write a special register (R279). -/
def dWrites (k : Nat) : Bool :=
  match srAccess k with
  | some acc => acc.2.2 == .rw
  | none => false

/-- The register of an architected state written; a special register as a write at D would (R279). -/
def Arch.dbgSet (a : Arch) (n : Nat) (v : Word) : Arch :=
  if n < 0x20 then a.setReg (BitVec.ofNat 5 n) v
  else if n < 0x60 then
    let r := BitVec.ofNat 5 ((n - 0x20) / 2)
    let d := (a.freg r).toNat
    a.setF r (BitVec.ofNat 64 (if n % 2 = 0 then d / 2 ^ 32 * 2 ^ 32 + v.toNat else v.toNat * 2 ^ 32 + d % 2 ^ 32))
  else if n = 0x60 then { a with pc := v &&& 0xFFFFFFFC#32 }
  else
    let k := n - 0x100
    if dWrites k then a.mapSr fun r => r.write 2 k v else a

/-- Why an access of DBG_RDATA is refused: 2 DENIED, 3 NOTHALTED (R573). -/
def State.rdataRefusal (s : State) (m : Master) : Option Nat :=
  if !s.hasScope m 1 then some 2 else if !s.pairHalted s.dbgPair then some 3 else none

/-- A read of DBG_RDATA; refused, it returns zero. -/
def State.readRdata (s : State) (m : Master) : State × Word :=
  match s.rdataRefusal m with
  | some b => (s.setBit Reg.DBG_ERR b true, 0)
  | none => (s, s.dbgReg (2 * s.dbgPair) (s.fld Reg.DBG_RSEL 8 0))

/-- A write of DBG_RDATA: both cores (R573). -/
def State.writeRdata (s : State) (m : Master) (v : Word) : State :=
  match s.rdataRefusal m with
  | some b => s.setBit Reg.DBG_ERR b true
  | none => (dbgUnits s.dbgPair).foldl (fun s u => s.mapArch u fun a => a.dbgSet (s.fld Reg.DBG_RSEL 8 0) v) s

/-- An access of DBG_RDATA where the master reaches it. -/
def execDbgRdataAccess (m : Master) (write : Bool) (v : Word) (s : State) : Ans :=
  .next (if !s.dbgReaches m write Reg.DBG_RDATA then s.dbgRefuse m 2
    else if write then s.writeRdata m v
    else
      let r := s.readRdata m
      r.1.answerRead r.2)

end Sys2Proof.Machine
end

