-- ==== Sys2Proof/Machine/PlotTable.lean ====
section
/-! DEFINITION. Plots as bytes: the descriptor of R225, the space and library tables of R227 and R229, and the
copy of a plot that goes to the partner (R160, R161; its layout is log entry 14). -/

namespace Sys2Proof.Machine

open Sys2Proof

/-- STATE of a descriptor (R225). -/
def PlotState.code : PlotState → Nat
  | .free => 0 | .active => 1 | .resetting => 2 | .destroying => 3

/-- A source prefix (R225). -/
def SrcPfx.bytes (p : SrcPfx) : List Byte := fitTo 16 p.addr ++ leBytes 1 p.len ++ leBytes 1 p.family ++ zeros 2

/-- The 1,024 bytes of a plot's descriptor (R225). -/
def State.descBytes (s : State) (plot : Nat) (x : Plot) : List Byte :=
  let d := x.desc
  fitTo 1024 (leBytes 1 d.state.code ++ leBytes 1 (d.adopted.toNat + 2 * d.splitOk.toNat + 4 * d.srcAny.toNat) ++
    leBytes 2 d.share ++ leBytes 1 d.urgMax ++ leBytes 1 d.classes ++ leBytes 2 d.qmax ++
    leBytes 2 (s.plots.qpairs.filter fun q => q.plot = plot).length ++ leBytes 2 x.libCount ++ zeros 4 ++
    leBytes 8 x.sptBase ++ leBytes 8 x.libBase ++ leBytes 8 x.execBase ++ leBytes 4 x.exec.length ++ zeros 4 ++
    fitTo 48 x.execMeas ++ fitTo 64 d.addr6.flatten ++ fitTo 16 d.addr4.flatten ++
    fitTo 160 (d.srcFilt.flatMap SrcPfx.bytes))

/-- Entries of n bytes of a string, those that are all zero left out. -/
def entriesOf (n k : Nat) (l : List Byte) : List (List Byte) :=
  ((List.range k).map fun i => slice l (n * i) n).filter fun e => e.any (· != 0)

/-- The fields of a descriptor that a command may change, read back (R225). -/
def descOf (b : List Byte) : Desc :=
  { state := match leAt b 0 1 with
      | 1 => .active | 2 => .resetting | 3 => .destroying | _ => .free
    adopted := leAt b 1 1 % 2 == 1, splitOk := leAt b 1 1 / 2 % 2 == 1, srcAny := leAt b 1 1 / 4 % 2 == 1
    share := leAt b 2 2, urgMax := leAt b 4 1, classes := leAt b 5 1, qmax := leAt b 6 2
    addr6 := entriesOf 16 4 (slice b 96 64), addr4 := entriesOf 4 4 (slice b 160 16)
    srcFilt := (entriesOf 20 8 (slice b 176 160)).map fun e => { addr := e.take 16, len := leAt e 16 1, family := leAt e 17 1 } }

/-- A plot without anything, as PLOT_CREATE starts from. -/
def Plot.empty (own : Bool) (d : Desc) : Plot :=
  { desc := d, next := none, sptBase := 0, libBase := 0, execBase := 0, execMeas := zeros 48, spaces := [], libCount := 0
    exec := [], staging := [], credit := List.replicate 5 0, own := own, created := true }

/-- The JOURNALED attribute of a segment (R227). -/
def Space.journaled (e : Space) : Bool := e.attr.testBit 4

/-! ## Places that firmware chooses -/

/-- A segment as a range. -/
def Space.range (e : Space) : Nat × Nat := (e.base, 4096 * e.pages)

/-- Two ranges share a byte. -/
def rangesShare (a b : Nat × Nat) : Bool := decide (a.1 < b.1 + b.2 ∧ b.1 < a.1 + a.2 ∧ 0 < a.2 ∧ 0 < b.2)

/-- The regions that no segment may touch (R228). -/
def State.keptRegions (s : State) : List (Nat × Nat) :=
  [(s.reg64 Reg.STK_BASE_LO, 2 ^ 29), (s.reg64 Reg.JNL_RING_BASE_LO, s.fld Reg.JNL_RINGCFG 9 0 * 2 ^ 30),
   (s.reg64 Reg.JNL_RIDX_BASE_LO, 2 ^ 32), (s.reg64 Reg.PLT_QREG_BASE_LO, s.fld Reg.PLT_QREG 8 0 * 2 ^ 30),
   (s.reg64 Reg.PLT_DESC_BASE_LO, 2 ^ 22), (s.reg64 Reg.PLT_QP_BASE_LO, 2 ^ 22)]

/-- The replica region (R123). -/
def State.replRegion (s : State) : Nat × Nat := (s.reg64 Reg.JNL_REPL_BASE_LO, s.fld Reg.JNL_REGION 12 0 * 2 ^ 30)

/-- What lies in DRAM already: the regions of the blocks, and the segments, tables and images of the plots. -/
def State.takenRegions (s : State) : List (Nat × Nat) :=
  s.keptRegions ++ [s.replRegion, (s.reg64 Reg.JNL_LIVE_BASE_LO, s.fld Reg.JNL_REGION 28 16 * 2 ^ 30)] ++
  s.plots.plots.flatMap fun p =>
    (p.2.spaces.map fun e => e.2.range) ++ [(p.2.sptBase, 2 ^ 13), (p.2.libBase, 2 ^ 15), (p.2.execBase, p.2.exec.length)]

/-- A place for `size` bytes in [lo, hi) beside what is taken: where `draw` points if it is free there, else the first free
place at the start or behind something taken; none when there is no room. -/
def placeIn (lo hi size align draw : Nat) (taken : List (Nat × Nat)) : Option Nat :=
  let up (a : Nat) : Nat := (a + align - 1) / align * align
  (up (lo + draw % max 1 (hi - lo)) :: up lo :: taken.map fun r => up (r.1 + r.2)).find? fun a =>
    decide (lo ≤ a ∧ a + size ≤ hi) && taken.all fun r => !rangesShare (a, size) r

/-- A place in DRAM: which one is firmware's choice, a free value (R92, R225, R228; log entry 128). -/
def State.placeFor (s : State) (size align : Nat) : Option Nat := placeIn 0 s.dramSize size align s.free s.takenRegions

/-! ## The queue region (R231, R232, R234) -/

/-- The 64 bytes of a queue pair table entry (R231). -/
def QPair.entryBytes (q : QPair) : List Byte :=
  fitTo 64 (leBytes 1 (if q.draining then 2 else 1) ++ leBytes 1 q.slotsz ++ leBytes 2 q.plot ++ leBytes 2 q.queue ++
    leBytes 2 q.channel ++ leBytes 2 q.depth ++ zeros 6 ++ leBytes 8 q.sqBase ++ leBytes 8 q.cqBase ++
    leBytes 4 q.sqHead ++ leBytes 4 q.sqTail ++ leBytes 4 q.cqHead ++ leBytes 4 q.cqTail ++ leBytes 8 q.dedupBase)

/-- The longest command packet of a slot size (R232). -/
def slotRoom (slotsz : Nat) : Nat :=
  match slotsz with
  | 0 => 192 | 1 => 960 | 2 => 4032 | _ => 8960

/-- The size of a slot (R232). -/
def slotBytes (slotsz : Nat) : Nat := if slotsz = 3 then 9216 else slotRoom slotsz + 64

/-- The rings and the dedup window of a queue pair as ranges (R231, R232, R234). -/
def QPair.ranges (q : QPair) : List (Nat × Nat) :=
  [(q.sqBase, q.depth * slotBytes q.slotsz), (q.cqBase, q.depth * 320), (q.dedupBase, 2 ^ 17)]

/-- A place in the queue region beside the queues that stand there and `more`. -/
def State.queuePlace (s : State) (size : Nat) (more : List (Nat × Nat)) : Option Nat :=
  let base := s.reg64 Reg.PLT_QREG_BASE_LO
  placeIn base (base + s.fld Reg.PLT_QREG 8 0 * 2 ^ 30) size 64 s.free (more ++ s.plots.qpairs.flatMap QPair.ranges)

/-- The places of the rings and the dedup window of a new queue, which firmware chooses (free values); none when the region
lacks room (R231). -/
def State.queuePlaces (s : State) (slotsz depth : Nat) : Option (Nat × Nat × Nat) :=
  (s.queuePlace (depth * slotBytes slotsz) []).bind fun sq =>
    let a := (sq, depth * slotBytes slotsz)
    (s.drawn.queuePlace (depth * 320) [a]).bind fun cq =>
      (s.drawn.drawn.queuePlace (2 ^ 17) [a, (cq, depth * 320)]).map fun dd => (sq, cq, dd)

/-! ## The copy of a plot -/

/-- The entries of a list, counted, as bytes. -/
def countedBytes {α : Type} (f : α → List Byte) (l : List α) : List Byte := beBytes 4 l.length ++ l.flatMap f

/-- A segment in the copy: a JOURNALED one by its offset in the region that holds the plot's records (R124, R172). -/
def State.copySpace (s : State) (plot : Nat) (e : Nat × Space) : List Byte :=
  let base := if e.2.journaled then e.2.base - (s.liveRegion plot).1 else e.2.base
  beBytes 2 e.1 ++ beBytes 8 base ++ beBytes 4 e.2.pages ++ beBytes 4 e.2.attr

/-- The copy of an own plot for the partner (R160): number, descriptor, segments, library, queues and their
channels, executive image. -/
def State.plotCopy (s : State) (plot : Nat) (x : Plot) : List Byte :=
  beBytes 2 plot ++ s.descBytes plot x ++ countedBytes (s.copySpace plot) x.spaces ++
  countedBytes (fun i => s.bytes (x.libBase + 8 * i) 8) (List.range x.libCount) ++
  countedBytes (fun q : QPair => beBytes 2 q.queue ++ beBytes 2 q.slotsz ++ beBytes 2 q.depth ++ beBytes 2 q.channel)
    (s.plots.qpairs.filter fun q => q.plot = plot) ++
  beBytes 4 x.exec.length ++ x.exec

/-- Counted entries of n bytes read from a string, with what follows them. -/
def readCounted (n : Nat) (l : List Byte) : List (List Byte) × List Byte :=
  let k := beAt l 0 4
  ((List.range k).map fun i => slice l (4 + n * i) n, l.drop (4 + n * k))

/-- A queue pair with nothing on its rings. -/
def QPair.empty (pool plot queue slotsz depth channel : Nat) : QPair :=
  { pool := pool, plot := plot, queue := queue, draining := false, slotsz := slotsz, depth := depth, channel := channel
    sqBase := 0, cqBase := 0, dedupBase := 0, sqHead := 0, sqTail := 0, cqHead := 0, cqTail := 0, slots := [], cq := []
    dedup := [], doneNo := 0 }

/-- The lowest free pool index (R230). -/
def State.freePool (s : State) : Option Nat :=
  (List.range 65536).find? fun n => !(s.plots.qpairs.any fun q => q.pool = n)

/-- A queue pair is created with its places in the queue region (R231). -/
def State.addQpair (s : State) (plot queue slotsz depth channel : Nat) : State :=
  match s.freePool, s.queuePlaces slotsz depth with
  | some n, some (sq, cq, dd) =>
    let q := { QPair.empty n plot queue slotsz depth channel with sqBase := sq, cqBase := cq, dedupBase := dd }
    s.drawn.drawn.drawn.mapPlots fun p => { p with qpairs := p.qpairs ++ [q] }
  | _, _ => s

/-- The 32 bytes of a space table entry (R227). -/
def Space.bytes (e : Space) : List Byte := fitTo 32 (leBytes 8 e.base ++ leBytes 4 e.pages ++ leBytes 4 e.attr)

/-- A space table entry read back (R227). -/
def spaceFrom (b : List Byte) : Space := { base := leAt b 0 8, pages := leAt b 8 4, attr := leAt b 12 4 }

/-- The valid entries of a plot's space table as they stand in DRAM (R227): what every lookaside takes up after an
invalidation (R288). -/
def State.tableSpaces (s : State) (x : Plot) : List (Nat × Space) :=
  let cells := s.mem.cells.filter fun c => x.sptBase ≤ c.1 ∧ c.1 < x.sptBase + 2 ^ 13
  (((cells.map fun c => (c.1 - x.sptBase) / 32).eraseDups).map fun n => (n, spaceFrom (s.bytes (x.sptBase + 32 * n) 32))).filter
    fun e => e.2.attr.testBit 0

/-- Every lookaside drops the entries of a plot (R288). -/
def State.invalidate (s : State) (n : Nat) : State := s.mapPlot n fun x => { x with spaces := s.tableSpaces x }

/-- Firmware writes an entry of a plot's space table (R224, R227), and invalidates the lookasides (R288). -/
def State.setSpace (s : State) (n loc : Nat) (e : Space) : State :=
  match s.plot n with
  | some x => (s.agentStore (x.sptBase + 32 * loc) e.bytes).invalidate n
  | none => s

/-- Firmware writes an entry of a plot's library (R229): LIBCOUNT becomes one above the highest index written (R225). -/
def State.setLibEntry (s : State) (n index space off : Nat) : State :=
  match s.plot n with
  | some x =>
    (s.agentStore (x.libBase + 8 * index) (leBytes 4 space ++ leBytes 4 off)).mapPlot n fun y =>
      { y with libCount := max y.libCount (index + 1) }
  | none => s

/-- The space and library tables of a plot get their places in DRAM, empty; none when there is no room. -/
def State.placeTables (s : State) (n : Nat) : Option State :=
  (s.placeFor (2 ^ 13) (2 ^ 13)).bind fun spt =>
    let t := s.drawn.mapPlot n fun x => { x with sptBase := spt }
    (t.placeFor (2 ^ 15) 8).map fun lib =>
      ((t.drawn.mapPlot n fun x => { x with libBase := lib }).wipe spt (2 ^ 13)).wipe lib (2 ^ 15)

/-- The tables of a plot that comes from a copy are written. -/
def State.fillTables (s : State) (n : Nat) (lib : List Byte) : State :=
  match s.plot n with
  | some x => x.spaces.foldl (fun s e => s.agentStore (x.sptBase + 32 * e.1) e.2.bytes) (s.agentStore x.libBase lib)
  | none => s

/-- An executive image gets its place in DRAM and is written there; none when there is no room. -/
def State.placeImage (s : State) (n : Nat) (img : List Byte) : Option State :=
  (s.placeFor img.length 4096).map fun base =>
    (s.drawn.mapPlot n fun x => { x with exec := img, execMeas := sha384 img, execBase := base }).agentStore base img

/-- A plot comes into being; none when there is no room for its tables (R267). -/
def State.createPlot (s : State) (n : Nat) (d : Desc) : Option State := (s.setPlot n (Plot.empty true d)).placeTables n

/-- A plot is created here from a copy (R172, R173, R179, R245): ACTIVE; a partner's ADOPTED, with its JOURNALED
segments in the replica region, an own one that comes back with them in the live region; a plot that was RESETTING
or DESTROYING comes without its queues. -/
def State.plotFromCopy (s : State) (own : Bool) (b : List Byte) : State :=
  let plot := beAt b 0 2
  let desc := slice b 2 1024
  let sp := readCounted 18 (b.drop 1026)
  let lib := readCounted 8 sp.2
  let qs := readCounted 8 lib.2
  let exec := slice qs.2 4 (beAt qs.2 0 4)
  let d := descOf desc
  let base := if own then s.reg64 Reg.JNL_LIVE_BASE_LO else s.reg64 Reg.JNL_REPL_BASE_LO
  let spaces : List (Nat × Space) := sp.1.map fun e =>
    let g : Space := { base := beAt e 2 8, pages := beAt e 10 4, attr := beAt e 14 4 }
    (beAt e 0 2, if g.journaled then { g with base := base + g.base } else g)
  let x : Plot :=
    { Plot.empty own { d with state := .active, adopted := !own } with
      spaces := spaces, libCount := lib.1.length }
  let s := s.setPlot plot x
  let s := ((s.placeTables plot).getD s).fillTables plot lib.1.flatten
  let s := if exec.isEmpty then s else (s.placeImage plot exec).getD s
  if d.state = .resetting ∨ d.state = .destroying then s
  else qs.1.foldl (fun s q => s.addQpair plot (beAt q 0 2) (beAt q 2 2) (beAt q 4 2) (beAt q 6 2)) s

/-- A plot leaves the device with its queues, sessions and what is kept for them (R182, R247, R267). -/
def State.removePlot (s : State) (plot : Nat) : State :=
  let s := s.dropPlot plot
  let s := s.mapPlots fun p => { p with qpairs := p.qpairs.filter fun q => q.plot ≠ plot, resets := p.resets.filter fun r => r.plot ≠ plot }
  let s := s.mapSteward fun k => { k with handles := k.handles.filter fun h => h.plot ≠ plot }
  s.mapEth fun e => { e with sessions := e.sessions.filter fun x => x.plot ≠ plot, kept := e.kept.filter fun x => x.plot ≠ plot
                             heldc := e.heldc.filter fun x => x.comp.plot ≠ plot }

/-! ## The Headland and the tables (R223, R224, R249) -/

/-- The Headland from the descriptor of the configuration (R223, R547) once the tables are READY, with its queue 0: the spec
names no command that could make it, so firmware does, with S9K slots (log entry 28). -/
def State.installHeadland (s : State) : State :=
  if s.boot.config.isEmpty ∨ (s.plot 0).isSome then s
  else
    let d := descOf (slice s.boot.config 128 1024)
    let s := s.setPlot 0 (Plot.empty true { d with state := .active, adopted := false })
    s.addQpair 0 0 3 64 0xFFFF

/-- A write of PLT_CTRL with INIT set: it starts while READY is 0 and LOCK is set before or by the same write, else
it is ignored with BADW (R249). -/
def State.writePltCtrl (s : State) (v : Word) : State :=
  let s := s.writeFields Reg.PLT_CTRL v
  if !v.getLsbD 0 then s
  else if s.bit Reg.PLT_STATUS 0 ∨ !s.bit Reg.PLT_CTRL 31 then s.badw Reg.PLT_CTRL
  else s.mapPlots fun p => { p with initBusy := true }

def execPltInit (m : Master) (v : Word) (s : State) : Ans :=
  .next (if s.writesReg m Reg.PLT_CTRL then s.writePltCtrl (v ||| 1) else s)

/-- Both tables are FREE, READY (R249). -/
def execPltReady (s : State) : Ans :=
  .next (if s.plots.initBusy then
      (s.mapPlots fun p => { p with plots := [], qpairs := [], resets := [], initBusy := false }).setBit Reg.PLT_STATUS 0 true
    else s)

end Sys2Proof.Machine
end

