-- ==== Sys2Proof/Machine/Engines.lean ====
section
/-! DEFINITION. What every engine does to memory (R393, R428, R438, R456, R473): addresses of a job, bytes read up to
the first error, bytes written, and the interrupt of the Steward pair. -/

namespace Sys2Proof.Machine

open Sys2Proof

/-- Two ranges meet. -/
def rangesMeet (a n b m : Nat) : Bool := decide (0 < n ∧ 0 < m ∧ a < b + m ∧ b < a + n)

/-- An engine may not reach an address range: the stake table, the journal ring, the request index region, the
queue region, control space (R456). -/
def State.engineBarred (s : State) (pa n : Nat) : Bool :=
  rangesMeet pa n (s.reg64 Reg.STK_BASE_LO) (2 ^ 29) ||
  rangesMeet pa n (s.reg64 Reg.JNL_RING_BASE_LO) (s.fld Reg.JNL_RINGCFG 9 0 * 2 ^ 30) ||
  rangesMeet pa n (s.reg64 Reg.JNL_RIDX_BASE_LO) (2 ^ 32) ||
  rangesMeet pa n (s.reg64 Reg.PLT_QREG_BASE_LO) (s.fld Reg.PLT_QREG 8 0 * 2 ^ 30) ||
  rangesMeet pa n controlBase (2 ^ 24)

/-- The physical address of n bytes that a job of a plot names, or none where a check of R456 fails. -/
def State.engineXlat (s : State) (plot addr n : Nat) (write : Bool) : Option Nat :=
  let place : Option Nat :=
    if plot = 0 then (if addr < 2 ^ 46 then some addr else none)
    else
      let space := addr / 2 ^ 32 % 2 ^ 20
      let loc := space % 256
      if space / 256 ≠ plot ∨ 0xFD ≤ loc then none
      else match s.plot plot with
        | none => none
        | some p =>
          let e := sget (fun _ => { base := 0, pages := 0, attr := 0 }) p.spaces loc
          match e.xlat 2 (addr % 2 ^ 32) n (if write then .write else .read) with
          | .ok q => if write ∧ q.journaled then none else some q.pa
          | .error _ => none
  place.bind fun pa => if s.engineBarred pa n then none else some pa

/-- An address of a job has only the bits that R456 gives it. -/
def engineAddrOk (plot addr : Nat) : Bool := if plot = 0 then decide (addr < 2 ^ 46) else decide (addr < 2 ^ 52)

/-- A line of a range may be read by an engine (R428, R438): `strong` says that it may reach the strongroom. -/
def State.engineSees (s : State) (init pa n : Nat) (strong : Bool) : Bool :=
  s.agentStatus init pa n == .ok &&
  (match s.region pa with
   | .scratch c off => !touchesStrongroom off n || (strong && !s.bit (clsReg Reg.CLS_SPSTAT c) 16)
   | .dram => true
   | _ => false)

/-- The bytes of a range that an engine reads before it meets an error. -/
def State.goodPrefix (s : State) (init pa n : Nat) (strong : Bool) : Nat :=
  match (linesOf pa n).find? fun l => !s.engineSees init (max l pa) (min (l + 64) (pa + n) - max l pa) strong with
  | some l => max l pa - pa
  | none => n

/-- A refused read of the strongroom in a range leaves its trace (R428). -/
def State.strongRead (s : State) (pa n : Nat) (strong : Bool) : State :=
  match s.region pa with
  | .scratch c off => if touchesStrongroom off n && !strong then s.strongDeny c else s
  | _ => s

/-- An engine writes one piece of a line: into DRAM or a scratchpad, the strongroom only where it may. -/
def State.engineWriteLine (s : State) (pa : Nat) (data : List Byte) (strong : Bool) : State :=
  match s.region pa with
  | .dram => s.agentStore pa data
  | .scratch c off =>
    if touchesStrongroom off data.length then
      if !strong then s.strongDeny c
      else if s.bit (clsReg Reg.CLS_SPSTAT c) 16 then s
      else s.deviceStore none pa data
    else s.deviceStore none pa data
  | _ => s

/-- An engine writes bytes from an address upward. -/
def State.engineWrite (s : State) (pa : Nat) (data : List Byte) (strong : Bool) : State :=
  (linesOf pa data.length).foldl (fun s l =>
    let a := max l pa
    let e := min (l + 64) (pa + data.length)
    s.engineWriteLine a (slice data (a - pa) (e - a)) strong) s

/-- The unit of the Steward pair, pair 96 of R25. -/
def stewardUnit : Nat := 192

/-- INTERRUPT with subcode ENGINE reaches the Steward pair (R294, R464). -/
def State.stewardEngine (s : State) : State :=
  s.mapUnit stewardUnit fun x => { x with latch := { x.latch with engine := true } }

end Sys2Proof.Machine
end

