-- ==== Sys2Proof/Machine/Channels.lean ====
section
/-! DEFINITION. The operations of Furrow (R496 to R505, R517): their records and copies, how the commands of a
channel program follow one another, how an operation ends, its cancellation. -/

namespace Sys2Proof.Machine

open Sys2Proof

/-! ## Channel commands (R501) -/

def ccCode (c : List Byte) : Nat := leAt c 0 1
def ccGroup (c : List Byte) : Nat := leAt c 2 1
def ccArg (c : List Byte) : Nat := leAt c 4 4
def ccTarget (c : List Byte) : Nat := leAt c 8 8
def ccBuf (c : List Byte) : Nat := leAt c 16 8
def ccLen (c : List Byte) : Nat := leAt c 24 4

def chRead : Nat := 0x01
def chWrite : Nat := 0x02
def chFlush : Nat := 0x03
def chPeerRead : Nat := 0x04
def chPeerWrite : Nat := 0x05
def chHostSend : Nat := 0x06
def chThresh : Nat := 0x07
def chCipher : Nat := 0x08
def chEngAcquire : Nat := 0x09
def chEngRelease : Nat := 0x0A

/-- Statuses of an operation (R505). -/
def frwDone : Nat := 0x0000
def frwCancelled : Nat := 0x0101
def frwBadAddr : Nat := 0x0201
def frwNvme : Nat := 0x0301
def frwConflict : Nat := 0x0302
def frwBadNs : Nat := 0x0303
def frwPaths : Nat := 0x0401
def frwPeer : Nat := 0x0402
def frwNoSession : Nat := 0x0403
def frwEngine : Nat := 0x0404
def frwEngHeld : Nat := 0x0405
def frwMemory : Nat := 0x0406
def frwRunning : Nat := 0xFFFF

/-- The stop of Furrow (chapter 18). -/
def frwStop : Nat := 28

/-- Channel command i of a program, which follows its 64-byte block. -/
def chanCmd (b : List Byte) (i : Nat) : List Byte := slice b (64 + 32 * i) 32

/-- The current command of an operation. -/
def FrwOp.cmd (o : FrwOp) : List Byte := chanCmd o.bytes o.next

/-- The commands of an operation's program. -/
def FrwOp.count (o : FrwOp) : Nat := leAt o.bytes 2 2

/-- Job entries of an engine (16: the Thresher) that operations have reserved and not used (R500). -/
def State.engineKept (s : State) (e : Nat) (f : FrwOp → Bool) : Nat :=
  ((s.furrow.ops.filter f).map fun o => (o.engines.filter (· = e)).length).sum

/-! ## Records (R497, R498) -/

/-- An operation by its number. -/
def State.op (s : State) (id : Nat) : Option FrwOp := s.furrow.ops.find? fun o => o.id = id

/-- An operation replaced. -/
def State.setOp (s : State) (o : FrwOp) : State :=
  s.mapFurrow fun w => { w with ops := w.ops.map fun x => if x.id = o.id then o else x }

/-- An operation freed, with its commands. -/
def State.dropOp (s : State) (id : Nat) : State :=
  s.mapFurrow fun w => { w with ops := w.ops.filter (fun o => o.id ≠ id), cmds := w.cmds.filter fun c => c.op ≠ id }

/-- KIND of a record (R498). -/
def FrwOp.code (o : FrwOp) : Nat :=
  match o.kind with
  | .destage _ => 1
  | .plough _ _ => 2
  | .restore => 3
  | .arb _ => 4
  | .program => if o.unit.isSome then 6 else 5

/-- The register that names the namespace of an internal operation. -/
def FrwOp.nsReg (o : FrwOp) : Nat :=
  match o.kind with
  | .destage true => Reg.FRW_NSPDST
  | .plough true _ => Reg.FRW_NSPPLG
  | .plough false _ => Reg.FRW_NSPLG
  | _ => Reg.FRW_NSDST

/-- The record of an operation (R498): a program's shows its current command. -/
def State.opRecord (s : State) (o : FrwOp) : List Byte :=
  let prog := decide (o.kind = .program)
  let c := o.cmd
  let io := prog && decide (1 ≤ ccCode c ∧ ccCode c ≤ 3)
  fitTo 64 (leBytes 8 o.optag ++ leBytes 2 o.plot ++ leBytes 1 o.code ++ leBytes 1 (if o.done.isSome then 2 else 1) ++
    leBytes 1 (if io then ccGroup c else if prog then 0 else s.fld o.nsReg 31 26) ++ [0] ++ leBytes 2 o.next ++
    leBytes 8 o.epoch ++ leBytes 4 (if io then ccArg c else if prog then 0 else s.fld o.nsReg 25 0) ++
    leBytes 8 (if io then ccTarget c else o.lba) ++ leBytes 4 (if io then ccLen c / 4096 else o.blocks))

/-- Kinds of STATE frames of a record and of its acknowledgement (log entry 14). -/
def stFrwOp : Nat := 5
def stFrwAck : Nat := 6

/-- A record is mirrored as it stands (R497). -/
def State.mirrorOp (s : State) (o : FrwOp) : State :=
  if s.noPartner then s else s.mirrorSend wfState (beBytes 1 stFrwOp ++ beBytes 8 o.id ++ s.opRecord o)

/-- An operation may issue: its record stands with the partner, or there is none (R497). -/
def State.opReady (s : State) (o : FrwOp) : Bool := o.acked || s.noPartner

/-- A new operation, mirrored (R497). -/
def State.addOp (s : State) (o : FrwOp) : State × FrwOp :=
  let o := { o with id := s.furrow.nextOp, acked := false }
  ((s.mapFurrow fun w => { w with nextOp := w.nextOp + 1, ops := w.ops ++ [o] }).mirrorOp o, o)

/-- An operation that has nothing yet. -/
def FrwOp.blank (k : FrwKind) : FrwOp :=
  { id := 0, plot := 0, optag := 0, unit := none, queue := none, kind := k, block := 0, bytes := [], next := 0
    busy := false, engines := [], parts := 0, acked := false, issued := false, done := none, epoch := 0, lba := 0
    blocks := 0, ending := none }

/-- An operation has ended: its record is updated and mirrored, and then freed (R497). -/
def State.closeOp (s : State) (o : FrwOp) (st : Nat) : State :=
  let s := s.mapFurrow fun w => { w with cmds := w.cmds.filter fun c => c.op ≠ o.id }
  if s.noPartner then s.dropOp o.id
  else
    let o := { o with done := some st, acked := false, busy := false, engines := [], parts := 0 }
    (s.setOp o).mirrorOp o

/-! ## The course of a program -/

/-- The end of a program: DONECMD, NVMESC and RESID, then STATUS, and the report (R504). -/
def State.opEnd (s : State) (o : FrwOp) (st sc resid : Nat) : State :=
  let s := s.engineWrite (o.block + 34) (leBytes 2 o.next ++ leBytes 2 sc) false
  let s := s.engineWrite (o.block + 40) (leBytes 4 resid) false
  let s := s.engineWrite (o.block + 32) (leBytes 2 st) false
  let s := if st = frwPaths then s.setBit Reg.FRW_ERR 2 true else s
  let s := if st = frwConflict then s.setBit Reg.FRW_ERR 4 true else s
  let s := s.closeOp o st
  if leAt o.bytes 1 1 % 2 = 0 then s
  else match o.unit with
    | some u => s.mapUnit u fun x => { x with latch := { x.latch with engine := true } }
    | none => s.stewardEngine

/-- The current command of a program has completed; one that was to end, ends. -/
def State.opNext (s : State) (o : FrwOp) : State :=
  match o.ending with
  | some (st, sc, resid) => s.opEnd o st sc resid
  | none =>
    let o := { o with next := o.next + 1, busy := false, parts := 0 }
    if o.count ≤ o.next then s.opEnd o frwDone 0 0 else s.setOp o

/-- The commands that an operation has outside or waiting. -/
def State.cmdsOf (s : State) (id : Nat) : List FrwCmd := s.furrow.cmds.filter fun c => c.op = id

/-- Bytes that a command was to transfer. -/
def FrwCmd.size (c : FrwCmd) : Nat :=
  if c.what = nvRead ∨ c.what = nvWrite then 4096 * c.blocks
  else if c.what = peerRead ∨ c.what = peerWrite then c.args.getD 2 0
  else 0

/-- A program will end with a status once its issued commands are over; those that wait are not issued. `extra` counts
the bytes of the failing command beside those of the commands still there. -/
def State.opStop (s : State) (o : FrwOp) (st sc extra : Nat) : State :=
  let left := ((s.cmdsOf o.id).map FrwCmd.size).sum + extra
  let s := s.mapFurrow fun w => { w with cmds := w.cmds.filter fun c => c.op ≠ o.id || c.path.isSome }
  if (s.cmdsOf o.id).isEmpty then s.opEnd o st sc left
  else s.setOp { o with ending := some (st, sc, left), engines := [] }

/-- The engine job of a program's THRESH or CIPHER has its final status (R502). -/
def State.jobDone (s : State) (id st : Nat) : State :=
  match s.op id with
  | some o =>
    if !o.busy then s
    else match o.ending with
      | some (e, sc, resid) => s.opEnd o e sc resid
      | none => if st = 0 then s.opNext o else s.opEnd o frwEngine 0 0
  | none => s

/-- Slot numbers from here on in the answers of a packet name the HOST_SEND of an operation. -/
def hostSlot : Nat := 2 ^ 33

/-- The host acknowledges one part of a HOST_SEND (R503). -/
def State.partAcked (s : State) (id : Nat) : State :=
  match s.op id with
  | some o => if o.parts = 0 then s else if o.parts = 1 then s.opNext o else s.setOp { o with parts := o.parts - 1 }
  | none => s

/-- The queue session of a HOST_SEND ends (R503). -/
def State.hostSendLost (s : State) (plot queue : Nat) : State :=
  (s.furrow.ops.filter fun o => o.parts ≠ 0 ∧ o.plot = plot ∧ ccArg o.cmd = queue).foldl
    (fun s o => match o.ending with
      | some (st, sc, resid) => s.opEnd o st sc resid
      | none => s.opEnd o frwNoSession 0 (ccLen o.cmd)) s

/-! ## Cancellation (R517) -/

/-- Programs that a test picks are cancelled: one that has issued nothing ends at once, another when nothing of it
is outstanding; its engine jobs are cancelled by the caller. The answer counts them. -/
def State.frwCancel (s : State) (f : FrwOp → Bool) : State × Nat :=
  let l := s.furrow.ops.filter fun o => decide (o.kind = .program) && o.done.isNone && o.ending.isNone && f o
  (l.foldl (fun s o =>
    let engine := o.busy && (ccCode o.cmd == chThresh || ccCode o.cmd == chCipher)
    if engine then s.setOp { o with ending := some (frwCancelled, 0, 0) } else s.opStop o frwCancelled 0 0) s, l.length)

end Sys2Proof.Machine
end

