-- ==== Sys2Proof/Machine/Swath.lean ====
section
/-! DEFINITION. The Swath transport (R200 to R219): sessions, sequence numbers, acknowledgement and
retransmission, the placement of commands on rings, coalescing and held packets. -/

namespace Sys2Proof.Machine

open Sys2Proof

/-! ## Sequence numbers (R208) -/

/-- A PSN lies before another. -/
def psnBefore (a b : Nat) : Bool := decide (2 ^ 31 ≤ psnDiff a b)

/-! ## Rings (R233, R234) -/

/-- Completion entries are freed, and then the slots that they answered, in order from the oldest. -/
def QPair.release (q : QPair) (nos : List Nat) : QPair :=
  let cq := q.cq.filter fun e => !(e.slotNo ∈ nos)
  let open_ (x : QSlot) : Bool := !(x.sstate == .done && x.handed && !(cq.any fun e => e.slotNo == x.no))
  let slots := q.slots.dropWhile fun x => !open_ x
  { q with cq := cq, cqTail := q.cqTail + (q.cq.length - cq.length)
           slots := slots, sqTail := q.sqTail + (q.slots.length - slots.length) }

/-- The entries that packets of a plot carried are freed (R234), the parts of a HOST_SEND counted (R503). -/
def State.freeAnswers (s : State) (plot : Nat) (answers : List (Nat × Nat)) : State :=
  (answers.foldl (fun s a =>
    if hostSlot ≤ a.2 then s.partAcked (a.2 - hostSlot) else s.mapQpair plot a.1 fun q => q.release [a.2]) s).windowsRise

/-- The entries of completions that are discarded. -/
def State.freeCompletions (s : State) (cs : List Completion) : State :=
  cs.foldl (fun s c => s.freeAnswers c.plot [(c.queue, c.slotNo)]) s

/-! ## Resets (R203, R204, R206, R207) -/

/-- REASON of a RESET. -/
def rsNosession : Nat := 1
def rsRetry : Nat := 2
def rsGone : Nat := 3
def rsReplaced : Nat := 4
def rsRefused : Nat := 5

/-- A RESET of a reason may be sent now: at most one for a queue or channel, and one REFUSED for a source
address, in 100 µs (R203). -/
def State.mayReset (s : State) (key : List Nat) : Bool :=
  !(s.eth.resets.any fun r => r.key == key && decide (s.time < r.time + 100000))

/-- A RESET goes to a peer (R207), with the header of the session that ends; fields of a session that does not exist are
zero. -/
def State.sendReset (s : State) (r : SessRef) (x : Option Session) (port pcp : Nat) (peer : Peer) (reason : Nat) : State :=
  let k1 := [r.event.toNat, r.plot, r.number]
  let k2 := [2, beNat peer.addr]
  if !s.mayReset k1 || (reason == rsRefused && !s.mayReset k2) || s.fenced r.plot then s
  else
    let keys := if reason = rsRefused then [k1, k2] else [k1]
    let s := s.mapEth fun e =>
      { e with resets := (e.resets.filter fun x => s.time < x.time + 100000) ++ keys.map fun k => { key := k, time := s.time } }
    let head := match x with
      | some x => swathBytes tyReset r.plot r.number x.token x.nextPsn x.expPsn (s.windowOf x)
      | none => swathBytes tyReset r.plot r.number 0 0 0 0
    (s.count Reg.ETH_CNT_RESET 1).sendFrame port pcp (.swath port pcp peer (head (beBytes 1 reason ++ zeros 3)))

/-- A RESET to the peer of a session. -/
def State.resetSession (s : State) (x : Session) (reason : Nat) : State := s.sendReset x.ref (some x) x.port x.pcp x.peer reason

/-- A frame or packet is discarded and counted (R189, R190). -/
def State.discard (s : State) : State := s.count Reg.ETH_CNT_DISC 1

/-! ## The end of a session (R204, R205) -/

/-- Completions that a session held for coalescing wait for the next one (R219). -/
def State.holdCompletions (s : State) (x : Session) : State :=
  s.mapEth fun e => { e with heldc := e.heldc ++ x.held.map fun c => { channel := x.number, since := s.time, comp := c } }

/-- A session ends, and its unacknowledged and unsent packets are kept for the next one (R205). -/
def State.endKept (s : State) (x : Session) : State :=
  let pkts := x.unacked ++ x.unsent
  let s := if x.event then s else s.hostSendLost x.plot x.number
  let s := (s.dropSession x.ref).holdCompletions x
  if pkts.isEmpty then s
  else s.mapEth fun e => { e with kept := e.kept ++
    [{ event := x.event, plot := x.plot, number := x.number, since := s.time, pkts := pkts }] }

/-- A session ends and its packets are discarded. -/
def State.endDropped (s : State) (x : Session) : State :=
  let s := if x.event then s else s.hostSendLost x.plot x.number
  ((s.dropSession x.ref).holdCompletions x).freeAnswers x.plot ((x.unacked ++ x.unsent).flatMap (·.answers))

/-- A session ends with RESET reason GONE, and everything kept for it goes too (R204, R205, R244). -/
def State.endGone (s : State) (r : SessRef) : State :=
  let s := match s.session? r with
    | some x =>
      let s := if x.event then s else s.hostSendLost x.plot x.number
      (s.dropSession r).resetSession x rsGone
    | none => s
  s.mapEth fun e => { e with kept := e.kept.filter fun k => !(k.event == r.event && k.plot == r.plot && k.number == r.number) }

/-! ## Answers of Swath itself -/

/-- The status reply of a firmware-interpreted command (R257). -/
def replyBytes (opcode : Nat) (more : Bool) (status queue reqid : Nat) (body : List Byte) : List Byte :=
  beBytes 1 1 ++ beBytes 1 opcode ++ beBytes 2 more.toNat ++ beBytes 2 status ++ beBytes 2 queue ++
  beBytes 8 reqid ++ beBytes 4 body.length ++ zeros 4 ++ body

/-- A REPLY packet joins its queue session, or is kept for the next one (R205); for a fenced plot it is discarded (R169,
R272). -/
def State.sendReply (s : State) (plot queue : Nat) (payload : List Byte) (answers : List (Nat × Nat)) : State :=
  let r := queueRef plot queue
  if s.fenced plot then s.freeAnswers plot answers
  else if (s.session? r).isSome then s.queuePacket r tyReply payload answers false
  else s.mapEth fun e => { e with kept := e.kept ++
    [{ event := false, plot := plot, number := queue, since := s.time
       pkts := [{ psn := 0, type := tyReply, payload := payload, answers := answers, urgent := false }] }] }

/-- A slot count that no ring holds: an answer that frees no entry. -/
def noSlot : Nat := 2 ^ 32

/-- The class that a submission has when it arrives: NORMAL where CLASSES does not permit its own (R236, R243). -/
def State.arrivalClass (s : State) (plot cls : Nat) : Nat :=
  match s.plot plot with
  | some x => if x.desc.classes.testBit cls then cls else 2
  | none => cls

/-- The class that a submission then runs in: NORMAL for an urgent one of a plot whose URG_MAX is 0 (R236). -/
def State.runClass (s : State) (plot cls : Nat) : Nat :=
  match s.plot plot with
  | some x => if cls = 0 ∧ x.desc.urgMax = 0 then 2 else cls
  | none => cls

/-- CLASS in FLAGS of a command header. -/
def classOf (cmd : List Byte) : Nat := beAt cmd 2 2 / 2 % 4

/-- An answer to a command that is not on the ring (R214, R232, R256): a completion record where the command that it
answers was of OPCODE 0x01, else a status reply with an empty body. -/
def State.answerNow (s : State) (q : QPair) (opcode cls status reqid epoch : Nat) (result : List Byte) : State :=
  if opcode = 1 then
    let c : Completion :=
      { plot := q.plot, queue := q.queue, slotNo := noSlot, reqid := reqid, status := status, epoch := epoch
        result := result, cls := cls, arrival := s.timeBase, handed := s.time }
    s.addEvents [(q.channel, c)]
  else s.sendReply q.plot q.queue (replyBytes opcode false status q.queue reqid []) []

/-! ## Placement of a command (R211, R213, R214, R232, R268) -/

/-- A dedup window with a new entry: a full one gives up the DONE entry that became DONE earliest (R213). -/
def QPair.remember (q : QPair) (d : Dedup) : QPair :=
  let l :=
    if q.dedup.length < 4096 then q.dedup
    else
      match ((q.dedup.filter fun x => x.done.isSome).mergeSort fun a b => decide (a.order ≤ b.order)).head? with
      | some old => q.dedup.filter fun x => x.reqid ≠ old.reqid
      | none => q.dedup
  { q with dedup := l ++ [d] }

/-- A queue has come with a plot that was adopted or returned less than 2 × RETAIN seconds ago (R147, R177). -/
def State.recentlyMoved (s : State) (plot : Nat) : Bool :=
  s.twin.adopted.any fun a =>
    a.1 == plot && decide (s.time < a.2 + 2 * s.fld Reg.JNL_RIDX 5 0 * 1000000000)

/-- The slot of a command at the head of a ring (R232). A submission placed before admission has first opened
carries its answer already (R261). -/
def State.newSlot (s : State) (q : QPair) (port token : Nat) (cmd : List Byte) : QSlot :=
  let flags := beAt cmd 2 2
  let txn := decide (beAt cmd 1 1 = 1)
  { no := q.sqHead, sstate := .waiting, cls := if txn then s.arrivalClass q.plot (classOf cmd) else classOf cmd, port := port, arrival := s.timeBase
    reqid := beAt cmd 8 8, session := token, tslot := none, packet := cmd, checked := false
    look := flags.testBit 0 || (txn && s.recentlyMoved q.plot), ordered := flags.testBit 3, txn := txn
    status := if txn && !s.tick.admitted then 0x4001 else 0, epoch := 0, handed := false }

/-- A command of an in-order CMD: found in the dedup window, too long for its slot, or placed. -/
def State.placeCommand (s : State) (q : QPair) (port token : Nat) (cmd : List Byte) : State :=
  let reqid := beAt cmd 8 8
  let opcode := beAt cmd 1 1
  let cls := s.runClass q.plot (s.arrivalClass q.plot (classOf cmd))
  match q.dedup.find? fun d => d.reqid = reqid with
  | some d =>
    match d.done with
    | none => s.count Reg.ETH_CNT_DUP 1
    | some (status, epoch) =>
      match (if d.committed then s.indexLookup reqid q.plot q.queue else none) with
      | some r => s.answerNow q d.opcode cls 0x0001 reqid r.1 r.2
      | none => s.answerNow q d.opcode cls status reqid epoch []
  | none =>
    if slotRoom q.slotsz < cmd.length then
      let s := s.mapQpair q.plot q.queue fun q =>
        (q.remember { reqid := reqid, done := none, committed := false, opcode := opcode, order := 0 }).answered reqid 0x2006 0 false
      (s.setBit Reg.PLT_ERR 2 true).answerNow q opcode cls 0x2006 reqid 0 []
    else if q.freeSlots = 0 then s
    else
      let x := s.newSlot q port token cmd
      s.mapQpair q.plot q.queue fun q =>
        { q.remember { reqid := reqid, done := none, committed := false, opcode := opcode, order := 0 } with
          sqHead := q.sqHead + 1, slots := q.slots ++ [x] }

/-! ## Received packets -/

/-- A Swath header that has passed the checks of R201. -/
structure SwHead where
  type    : Nat
  ackNow  : Bool
  plot    : Nat
  number  : Nat
  token   : Nat
  psn     : Nat
  apsn    : Nat
  window  : Nat
  payload : List Byte
  deriving DecidableEq, Repr

/-- The fields of an OPEN that the rules hold at zero are zero: SESSION, byte 1 of its payload, the coalescing of a queue
session (R200 to R202). -/
def openZeros (b : List Byte) : Bool :=
  beAt b 8 4 == 0 && beAt b 25 1 == 0 && (beAt b 24 1 != 0 || beAt b 32 4 == 0)

/-- The payload length is right for a TYPE that a host sends (R201). -/
def lengthOk (type n : Nat) : Bool :=
  match type with
  | 1 => n == 12
  | 3 => decide (32 ≤ n ∧ n ≤ 8960)
  | 6 => n == 0
  | 7 => n == 0
  | _ => false

/-- A datagram read as a Swath packet, none when it is malformed (R200, R201). -/
def swHead (b : List Byte) : Option SwHead :=
  let vt := beAt b 0 1
  let n := beAt b 6 2
  if 24 ≤ b.length ∧ vt / 16 = 1 ∧ beAt b 1 1 < 2 ∧ beAt b 2 2 < 4096 ∧ beAt b 22 2 = 0 ∧ n + 24 = b.length ∧
      lengthOk (vt % 16) n ∧ (vt % 16 = 1 → openZeros b = true) then
    some { type := vt % 16, ackNow := beAt b 1 1 = 1, plot := beAt b 2 2, number := beAt b 4 2, token := beAt b 8 4
           psn := beAt b 12 4, apsn := beAt b 16 4, window := beAt b 20 2, payload := b.drop 24 }
  else none

/-- A malformed packet (R201). -/
def State.malformed (s : State) : State := (s.setBit Reg.ETH_ERR 2 true).discard

/-- A source address matches a used prefix (R225, R226). -/
def SrcPfx.covers (p : SrcPfx) (addr : List Byte) : Bool :=
  let a := beNat addr
  let b := beNat p.addr
  let v4 := a / 2 ^ 32 == 0xFFFF
  if p.family = 4 then v4 && a % 2 ^ 32 / 2 ^ (32 - p.len) == b % 2 ^ 32 / 2 ^ (32 - p.len)
  else if p.family = 6 then !v4 && a / 2 ^ (128 - p.len) == b / 2 ^ (128 - p.len)
  else false

/-- An OPEN is not refused (R202, R203). -/
def State.openOk (s : State) (h : SwHead) (peer : Peer) : Bool :=
  let kind := beAt h.payload 0 1
  let chan := beAt h.payload 2 2
  let allowed := match s.plot h.plot with
    | some p => p.desc.srcAny || p.desc.srcFilt.any fun f => f.covers peer.addr
    | none => false
  s.served h.plot && allowed && decide (chan < 64) &&
  (if kind = 0 then (s.qpair h.plot h.number).isSome else kind == 1 && chan == h.number)

/-- ACCEPT of a session, the same each time (R202, R204). -/
def State.sendAccept (s : State) (r : SessRef) : State :=
  match s.session? r with
  | some x => s.sendPacket x x.pcp tyAccept x.nextPsn (beBytes 4 x.dpsn ++ beBytes 2 s.devId ++ zeros 2)
  | none => s

/-- A new session: its token and first PSN are free values (R202, R204). -/
def State.newSession (s : State) (h : SwHead) (event : Bool) (port pcp : Nat) (peer : Peer) : State :=
  let token := s.free % 2 ^ 32
  let s := s.drawn
  let dpsn := s.free % 2 ^ 32
  let s := s.drawn
  let r : SessRef := { event := event, plot := h.plot, number := h.number }
  let mine (k : Kept) : Bool := k.event == event && k.plot == h.plot && k.number == h.number
  let pkts := (s.eth.kept.filter mine).flatMap (·.pkts)
  let comps := (s.eth.heldc.filter fun c => event && c.comp.plot == h.plot && c.channel == h.number).map (·.comp)
  let ipsn := beAt h.payload 4 4
  let x : Session :=
    { event := event, plot := h.plot, number := h.number, token := token, channel := beAt h.payload 2 2, peer := peer
      port := port, pcp := pcp, ipsn := ipsn, expPsn := ipsn, started := false, dpsn := dpsn, nextPsn := dpsn, unacked := []
      unsent := pkts, hostWin := h.window, hostApsn := dpsn, coalN := beAt h.payload 8 2, coalUs := beAt h.payload 10 2, held := []
      rtoFrom := s.time, expiries := 0, rxUnack := 0, rxOldest := 0, limit := ipsn, window := 0
      repeatAck := false, repeatFrom := 0 }
  let s := s.mapEth fun e =>
    { e with sessions := e.sessions ++ [x], kept := e.kept.filter fun k => !mine k
             heldc := e.heldc.filter fun c => !(event && c.comp.plot == h.plot && c.channel == h.number) }
  let s := if event then s else s.mapQpair h.plot h.number fun q => { q with channel := beAt h.payload 2 2 }
  let s := (s.sendAccept r).pushAll r
  s.addEvents (comps.map fun c => (h.number, c))

/-- An OPEN (R202 to R205). -/
def State.swathOpen (s : State) (h : SwHead) (port pcp : Nat) (peer : Peer) : State :=
  let event := decide (beAt h.payload 0 1 = 1)
  let r : SessRef := { event := event, plot := h.plot, number := h.number }
  if s.fenced h.plot then s
  else if !s.openOk h peer then s.sendReset r none port pcp peer rsRefused
  else match s.session? r with
    | none => s.newSession h event port pcp peer
    | some x =>
      if x.peer = peer ∧ x.ipsn = beAt h.payload 4 4 ∧ !x.started then
        (s.setSession { x with port := port, pcp := pcp }).sendAccept r
      else
        let s := (s.endKept x).resetSession x rsReplaced
        s.newSession h event port pcp peer

/-- The session that a packet names: the queue session, or the event session of its number, with its token
(R206). -/
def State.sessionOf (s : State) (h : SwHead) : Option Session :=
  s.eth.sessions.find? fun x => x.plot == h.plot && x.number == h.number && x.token == h.token

/-- A packet's APSN and WINDOW on its session: acknowledged packets free what they answered (R208 to R210,
R234). A window counts from its own APSN, and one with an older APSN says nothing new (R211). -/
def State.takeAck (s : State) (r : SessRef) (apsn window : Nat) : State :=
  match s.session? r with
  | none => s
  | some x =>
    let x := if psnDiff apsn x.hostApsn ≤ psnDiff x.nextPsn x.hostApsn then { x with hostWin := window, hostApsn := apsn } else x
    match x.unacked with
    | [] => (s.setSession x).pushAll r
    | p :: _ =>
      let n := psnDiff apsn p.psn
      if 0 < n ∧ n ≤ x.unacked.length then
        let acked := x.unacked.take n
        let s := s.setSession { x with unacked := x.unacked.drop n, rtoFrom := s.time, expiries := 0 }
        (s.freeAnswers x.plot (acked.flatMap (·.answers))).pushAll r
      else (s.setSession x).pushAll r

/-- A valid packet of a session: its port and priority, its acknowledgement; no window ACK is repeated any more
(R196, R209, R212). -/
def State.heard (s : State) (h : SwHead) (x : Session) (port pcp : Nat) : State :=
  (s.setSession { x with port := port, pcp := pcp, repeatAck := false }).takeAck x.ref h.apsn h.window

/-- An ACK that a packet calls for (R209). -/
def State.ackIf (s : State) (r : SessRef) (now : Bool) : State := if now then s.sendAck r else s

/-- A sequenced packet that is not in order, or lies beyond the window: discarded, with an ACK (R208). -/
def State.outOfOrder (s : State) (h : SwHead) (x : Session) : State :=
  let s := if psnBefore h.psn x.expPsn then s.count Reg.ETH_CNT_DUP 1 else s
  s.sendAck x.ref

/-- The session of a CMD after it has been taken in order (R208, R209). -/
def State.tookPsn (s : State) (r : SessRef) : State :=
  match s.session? r with
  | none => s
  | some x => s.setSession
      { x with expPsn := (x.expPsn + 1) % 2 ^ 32, started := true, rxUnack := x.rxUnack + 1
               rxOldest := if x.rxUnack = 0 then s.time else x.rxOldest }

/-- A queue takes no CMD: its plot or it is being reset (R244, R247). -/
def State.closedTo (s : State) (plot queue : Nat) : Bool :=
  (match s.plot plot with
    | some p => p.desc.state != .active
    | none => true) ||
  (match s.qpair plot queue with
    | some q => q.draining
    | none => true)

/-- The command of a CMD is one that the window holds as PENDING: it is discarded (R214). -/
def State.isPending (s : State) (h : SwHead) : Bool :=
  match s.qpair h.plot h.number with
  | some q => q.dedup.any fun d => d.reqid == beAt h.payload 8 8 && d.done.isNone
  | none => false

/-- A CMD on its session (R206, R208, R211, R226). One that is discarded is acknowledged at once (R209), except where the
plot or queue is being reset, for which Swath answers none (R244). -/
def State.swathCmd (s : State) (h : SwHead) (x : Session) (port pcp : Nat) : State :=
  if s.closedTo h.plot h.number ∧ !x.event then s
  else if x.event then (s.heard h x port pcp).sendAck x.ref
  else
    let s := s.heard h x port pcp
    match s.session? x.ref with
    | none => s
    | some x =>
      if !(psnBefore h.psn x.limit) then (s.setBit Reg.ETH_ERR 3 true).sendAck x.ref
      else if h.psn ≠ x.expPsn then s.outOfOrder h x
      else
        let now := h.ackNow || s.isPending h
        let s := s.tookPsn x.ref
        let s := match s.qpair h.plot h.number with
          | some q => s.placeCommand q port x.token h.payload
          | none => s
        match s.session? x.ref with
        | some y => s.ackIf y.ref (now || (decide (0 < y.rxUnack) && decide (s.fld Reg.ETH_ACK 15 8 ≤ y.rxUnack)))
        | none => s

/-- A CLOSE on its session (R204). -/
def State.swathClose (s : State) (h : SwHead) (x : Session) (port pcp : Nat) : State :=
  let s := s.heard h x port pcp
  match s.session? x.ref with
  | none => s
  | some x =>
    if h.psn ≠ x.expPsn then s.outOfOrder h x
    else
      let s := (s.tookPsn x.ref).sendAck x.ref
      match s.session? x.ref with
      | some x => s.endDropped x
      | none => s

/-- A CMD, ACK or CLOSE: those of a fenced plot are discarded, those without a session answered with NOSESSION
(R169, R206), which the limit of R203 counts for the queue of the packet's number (log entry 141). A CMD from another address than that of the OPEN is discarded (R226). -/
def State.swathPacket (s : State) (h : SwHead) (port pcp : Nat) (peer : Peer) : State :=
  if s.fenced h.plot then s
  else match s.sessionOf h with
    | none =>
      s.sendReset { event := false, plot := h.plot, number := h.number } none port pcp peer rsNosession
    | some x =>
      if h.type = 3 then
        if x.peer.addr ≠ peer.addr then s.setBit Reg.PLT_ERR 1 true else s.swathCmd h x port pcp
      else if h.type = 7 then s.swathClose h x port pcp
      else (s.heard h x port pcp).ackIf x.ref h.ackNow

/-- A datagram for Swath (R190, R200 to R206). In device safe state none is taken (R220, R588). -/
def State.swathIn (s : State) (port pcp : Nat) (peer : Peer) (b : List Byte) (want : Nat → Bool) : State :=
  if s.safe then s
  else match swHead b with
    | none => s.malformed
    | some h =>
      if !want h.type then s
      else if h.type = 1 then s.swathOpen h port pcp peer
      else s.swathPacket h port pcp peer

def execSwathOpen (t port pcp : Nat) (peer : Peer) (bytes : List Byte) (s : State) : Ans :=
  .next ((s.advance t).swathIn port pcp peer bytes fun k => k == 1)
def execSwathCmd (t port pcp : Nat) (peer : Peer) (bytes : List Byte) (s : State) : Ans :=
  .next ((s.advance t).swathIn port pcp peer bytes fun k => k == 3)
def execSwathAck (t port pcp : Nat) (peer : Peer) (bytes : List Byte) (s : State) : Ans :=
  .next ((s.advance t).swathIn port pcp peer bytes fun k => k == 6)
def execSwathClose (t port pcp : Nat) (peer : Peer) (bytes : List Byte) (s : State) : Ans :=
  .next ((s.advance t).swathIn port pcp peer bytes fun k => k == 7)

/-! ## Times (R205, R209, R210, R217, R219) -/

/-- RTO in ns. -/
def State.rtoNs (s : State) : Nat := s.fld Reg.ETH_RTO 13 0 * 1000

/-- RETAIN in ns (R148, R205, R219). -/
def State.retainNs (s : State) : Nat := s.fld Reg.JNL_RIDX 5 0 * 1000000000

/-- ETH_ACK.DELAY has passed since the oldest unacknowledged packet (R209). -/
def execAckDelayExpire (t : Nat) (ref : SessRef) (s : State) : Ans :=
  let s := s.advance t
  .next (match s.session? ref with
    | some x =>
      if 0 < x.rxUnack ∧ x.rxOldest + s.fld Reg.ETH_ACK 7 0 * 100 ≤ s.time ∧ !s.safe then s.sendAck ref else s
    | none => s)

/-- The ACK of a window that rose from 0 is repeated (R209). -/
def execWindowAckRepeat (t : Nat) (ref : SessRef) (s : State) : Ans :=
  let s := s.advance t
  .next (match s.session? ref with
    | some x =>
      if x.repeatAck ∧ x.repeatFrom + s.rtoNs ≤ s.time ∧ !s.safe then
        (s.setSession { x with repeatFrom := s.time }).sendAck ref
      else s
    | none => s)

/-- The retransmission timer of a session has run out: everything unacknowledged is sent again, or the session
ends (R210); the row acts once the microsecond of the expiry is over (R18). -/
def State.retransmit (s : State) (x : Session) : State :=
  let x := { x with expiries := x.expiries + 1, rtoFrom := s.time }
  if s.fld Reg.ETH_RTO 19 16 ≤ x.expiries then
    let s := (s.endKept x).resetSession x rsRetry
    s.errEvent Reg.ETH_ERR 4 Src.swath 0 x.plot x.number
  else
    let s := (s.setSession x).count Reg.ETH_CNT_RETX x.unacked.length
    x.unacked.foldl (fun s p =>
      let pcp := if p.type = tyEvent ∧ p.urgent then s.fld Reg.ETH_QOS 2 0 else x.pcp
      match s.session? x.ref with
      | some y => s.sendPacket y pcp p.type p.psn p.payload
      | none => s) s

def execRetransmitTimeout (t : Nat) (ref : SessRef) (s : State) : Ans :=
  let s := s.advance t
  .next (match s.session? ref with
    | some x => if !x.unacked.isEmpty ∧ s.usPassed (x.rtoFrom + s.rtoNs) ∧ !s.safe then s.retransmit x else s
    | none => s)

/-- COAL_USEC has passed since the oldest held completion (R217). -/
def execCoalesceTimeout (t : Nat) (ref : SessRef) (s : State) : Ans :=
  let s := s.advance t
  .next (match s.session? ref with
    | some x =>
      match x.held with
      | c :: _ => if c.handed + x.coalUs * 1000 ≤ s.time ∧ !s.safe then s.flushEvents ref else s
      | [] => s
    | none => s)

/-- Packets kept for RETAIN seconds after their session ended are discarded (R205). -/
def execHeldPacketExpire (t : Nat) (ref : SessRef) (s : State) : Ans :=
  let s := s.advance t
  let old (k : Kept) : Bool :=
    k.event == ref.event && k.plot == ref.plot && k.number == ref.number && decide (k.since + s.retainNs ≤ s.time)
  let pkts := (s.eth.kept.filter old).flatMap (·.pkts)
  let s := s.mapEth fun e => { e with kept := e.kept.filter fun k => !old k }
  .next (s.freeAnswers ref.plot (pkts.flatMap (·.answers)))

/-- Completions held for RETAIN seconds for a channel without a session are discarded and counted (R219). -/
def execHeldCompletionExpire (t plot channel : Nat) (s : State) : Ans :=
  let s := s.advance t
  let old (c : HeldComp) : Bool :=
    c.comp.plot == plot && c.channel == channel && decide (c.since + s.retainNs ≤ s.time)
  let cs := s.eth.heldc.filter old
  let s := s.mapEth fun e => { e with heldc := e.heldc.filter fun c => !old c }
  .next ((s.count Reg.ETH_CNT_DISC cs.length).freeCompletions (cs.map (·.comp)))

end Sys2Proof.Machine
end

