-- ==== Sys2Proof/Machine/Ports.lean ====
section
/-! DEFINITION. The Ethernet ports (R187 to R199): the frames they accept and who handles them, MACsec on
receipt, priorities and flow control, links, PTP timestamps. The layouts of Ethernet, IP, UDP, ICMP, ARP, PFC and
PTP are those of their standards, which the rules name. -/

namespace Sys2Proof.Machine

open Sys2Proof

/-! ## Addresses -/

/-- A destination MAC address that a port accepts (R189); MAC control frames alone come to their own multicast
address too (R195). -/
def State.macAccepted (s : State) (p dst etype : Nat) : Bool :=
  dst == s.macOf p || dst == 0xFFFFFFFFFFFF || dst == 0x333300000001 || dst / 2 ^ 24 == 0x3333FF ||
  (dst == 0x0180C2000001 && etype == 0x8808) ||
  (s.ptpOn p && (dst == 0x011B19000000 || dst == 0x0180C200000E || dst == 0x01005E000181 || dst == 0x01005E00006B ||
    dst == 0x333300000181 || dst == 0x33330000006B))

/-- An address, 4 or 16 bytes, is bound: of the Headland or of a plot served on this device (R190). -/
def State.bound (s : State) (a : List Byte) : Bool :=
  s.plots.plots.any fun p =>
    s.served p.1 && (if a.length = 4 then p.2.desc.addr4.any (· == a) else p.2.desc.addr6.any (· == a))

/-! ## Frames -/

/-- A frame's parts: destination, source, priority, Ethertype, payload; none when it carries more than one tag or is too
short (R189, R195). -/
structure EthFrame where
  dst     : Nat
  src     : Nat
  pcp     : Nat
  etype   : Nat
  payload : List Byte
  deriving DecidableEq, Repr

def ethFrame (b : List Byte) : Option EthFrame :=
  let et := beAt b 12 2
  if b.length < 14 then none
  else if et = 0x8100 then
    let inner := beAt b 16 2
    if b.length < 18 ∨ inner = 0x8100 ∨ inner = 0x88A8 then none
    else some { dst := beAt b 0 6, src := beAt b 6 6, pcp := beAt b 14 2 / 2 ^ 13, etype := inner, payload := b.drop 18 }
  else some { dst := beAt b 0 6, src := beAt b 6 6, pcp := 0, etype := et, payload := b.drop 14 }

/-- An IP packet without extension headers, options or fragments (R191): source, destination, protocol,
payload. -/
structure IpPkt where
  src   : List Byte
  dst   : List Byte
  proto : Nat
  body  : List Byte
  deriving DecidableEq, Repr

def ipPkt (etype : Nat) (b : List Byte) : Option IpPkt :=
  if etype = 0x86DD then
    let n := beAt b 4 2
    if b.length < 40 + n ∨ b.length < 40 ∨ beAt b 0 1 / 16 ≠ 6 then none
    else some { src := slice b 8 16, dst := slice b 24 16, proto := beAt b 6 1, body := slice b 40 n }
  else if etype = 0x0800 then
    let n := beAt b 2 2
    if b.length < n ∨ n < 20 ∨ beAt b 0 1 ≠ 0x45 ∨ beAt b 6 2 % 2 ^ 14 ≠ 0 then none
    else some { src := slice b 12 4, dst := slice b 16 4, proto := beAt b 9 1, body := slice b 20 (n - 20) }
  else none

/-- The UDP checksum of a datagram holds; over IPv4 a zero one is not checked (R191). -/
def udpOk (p : IpPkt) : Bool :=
  let n := beAt p.body 4 2
  decide (8 ≤ n) && decide (n ≤ p.body.length) &&
  ((p.src.length == 4 && beAt p.body 6 2 == 0) ||
    fold16 (fold16 (onesSum p.src + onesSum p.dst + 17 + n + onesSum (p.body.take n))) == 0xFFFF)

/-! ## Flow control (R195) -/

/-- A pause or resume of priorities that this port has PFC enabled for. -/
def State.takePause (s : State) (p : Nat) (q : Nat × Nat) : State :=
  if 8 ≤ q.1 ∨ !s.bit (portReg Reg.ETH_PCFG p) (16 + q.1) then s
  else if q.2 = 0 then
    let s := s.mapPort p fun x => { x with pauses := sdel x.pauses q.1 }
    (s.setBit (portReg Reg.ETH_PSTAT p) (16 + q.1) false).flushPaused p q.1
  else
    (s.mapPort p fun x => { x with pauses := sput x.pauses q.1 (s.time + q.2) }).setBit
      (portReg Reg.ETH_PSTAT p) (16 + q.1) true

/-- A PFC frame: priorities with their pause times in ns. -/
def State.takePfc (s : State) (p : Nat) (l : List (Nat × Nat)) : State :=
  if s.portUp p then l.foldl (fun s q => s.takePause p q) s else s

def execMacControlFrame (t port : Nat) (quanta : List (Nat × Nat)) (s : State) : Ans :=
  .next ((s.advance t).takePfc port quanta)

/-- A received pause has run out. -/
def execPfcPauseExpire (t port pcp : Nat) (s : State) : Ans :=
  let s := s.advance t
  .next (match (s.port port).pauses.lookup pcp with
    | some e =>
      if e ≤ s.time then
        let s := s.mapPort port fun x => { x with pauses := sdel x.pauses pcp }
        (s.setBit (portReg Reg.ETH_PSTAT port) (16 + pcp) false).flushPaused port pcp
      else s
    | none => s)

/-- The pauses of an IEEE 802.1Qbb frame, in ns: a quantum is 512 bit times at the speed of the port. -/
def State.pfcQuanta (s : State) (p : Nat) (b : List Byte) : List (Nat × Nat) :=
  if beAt b 0 2 ≠ 0x0101 then []
  else
    let rate := if s.bit (portReg Reg.ETH_PSTAT p) 1 then 400 else 800
    ((List.range 8).filter fun k => (beAt b 2 2).testBit k).map fun k =>
      let q := beAt b (4 + 2 * k) 2
      (k, (q * 512 + rate - 1) / rate)

/-- The free receive buffer of a priority is now so large: this port pauses a priority below 160 KiB, and lets it go on
above 320 KiB. -/
def State.sendPauses (s : State) (p pcp room : Nat) : State :=
  let on := s.bit (portReg Reg.ETH_PSTAT p) (8 + pcp)
  let s := s.mapPort p fun x => { x with free := sput x.free pcp room }
  if room < 163840 ∧ !on then (s.setBit (portReg Reg.ETH_PSTAT p) (8 + pcp) true).emit (.pfc p pcp true)
  else if 327680 < room ∧ on then (s.setBit (portReg Reg.ETH_PSTAT p) (8 + pcp) false).emit (.pfc p pcp false)
  else s

/-- The receive buffer of a port. -/
def rxBuffer : Nat := 2 ^ 22

/-- While no command waits, the receive buffers drain, and what this device has paused goes on (R195; log entry 137). -/
def State.drainBuffers (s : State) : State :=
  [0, 1].foldl (fun s p =>
    let s := (s.port p).free.foldl (fun s f => s.sendPauses p f.1 rxBuffer) s
    s.mapPort p fun x => { x with free := [] }) s

/-- What a step does on an empty queue (log entries 1 and 137). -/
def State.rest (s : State) : State := s.idle.drainBuffers

/-! ## PTP (R198, R199) -/

/-- PTP time: the time base plus ETH_PTPOFF, modulo 2^64. -/
def State.ptpTime (s : State) : Nat := (s.timeBase + s.reg64 Reg.ETH_PTPOFF_LO) % 2 ^ 64

/-- The timestamp of an event message; a full queue drops it. -/
def State.ptpStamp (s : State) (p : Nat) (sent : Bool) (b : List Byte) : State :=
  if 16 ≤ (s.port p).stamps.length then s.setBit Reg.ETH_ERR 7 true
  else s.mapPort p fun x =>
    { x with stamps := x.stamps ++ [{ sent := sent, msgType := beAt b 0 1 % 16, seqId := beAt b 30 2, stamp := s.ptpTime }] }

/-- The port of the clock: E0, or E1 while E0 has no link (R199). -/
def State.ptpPort (s : State) : Nat := if s.portUp 0 then 0 else 1

/-- The identity of the clock's port, from the MAC address. -/
def State.ptpIdentity (s : State) (p : Nat) : List Byte :=
  let m := beBytes 6 (s.macOf p)
  m.take 3 ++ [0xFF, 0xFE] ++ m.drop 3 ++ beBytes 2 (p + 1)

/-- A Delay_Req in the domain of a message that calls for it. -/
def State.delayReq (s : State) (p domain : Nat) : List Byte :=
  [0x01, 0x12] ++ beBytes 2 44 ++ beBytes 1 domain ++ zeros 15 ++ s.ptpIdentity p ++ beBytes 2 (s.eth.ptpSeq % 65536) ++
  [0x01, 0x7F] ++ zeros 10

/-- The slave clock of the Steward on a message from its master (R199): a Follow_Up is answered with a Delay_Req, which is
timestamped, the Delay_Resp to one of its own lets it steer. -/
def State.ptpSlave (s : State) (p transport : Nat) (b : List Byte) : State :=
  let kind := beAt b 0 1 % 16
  if p ≠ s.ptpPort then s
  else if kind = 8 then
    let m := s.delayReq p (beAt b 4 1)
    let s := s.mapEth fun e => { e with ptpSeq := e.ptpSeq + 1 }
    (s.ptpStamp p true m).sendFrame p 0 (.ptp p transport m)
  else if kind = 9 ∧ slice b 44 10 = s.ptpIdentity p then s.steer
  else s

/-- A PTP message over a transport: an event message is timestamped, the others are the clock's. -/
def State.ptpIn (s : State) (p transport : Nat) (b : List Byte) : State :=
  if b.length < 34 then s
  else if beAt b 0 1 % 16 < 4 then s.ptpStamp p false b
  else s.ptpSlave p transport b

/-- The word that ETH_TSINFOn shows (R221). -/
def State.tsInfo (s : State) (p : Nat) : Word :=
  match (s.port p).stamps with
  | [] => 0
  | e :: l => BitVec.ofNat 32 (2 ^ 31 + e.sent.toNat * 2 ^ 30 + e.msgType % 16 * 2 ^ 24 + (l.length + 1) * 2 ^ 16 + e.seqId % 65536)

/-- A read of ETH_TSINFOn latches the oldest entry's timestamp into ETH_TSn (R11, R221). -/
def State.readTsInfo (s : State) (p : Nat) : State :=
  let v := s.tsInfo p
  (s.mapPort p fun x => { x with latched := x.stamps.head?, inQueue := !x.stamps.isEmpty }).answerRead v

/-- A read of ETH_TSn_HI returns what is latched, and removes the entry from the queue, once (R11, R221). -/
def State.readTsHi (s : State) (p : Nat) : State :=
  (s.mapPort p fun x => { x with stamps := if x.inQueue then x.stamps.drop 1 else x.stamps, inQueue := false }).answerRead
    (BitVec.ofNat 32 ((((s.port p).latched.map (·.stamp)).getD 0) / 2 ^ 32))

def execTsinfoRead (m : Master) (port : Nat) (s : State) : Ans :=
  .next (if s.readsReg m (portReg Reg.ETH_TSINFO port) then s.readTsInfo port else s.answerRead 0)
def execTsHiRead (m : Master) (port : Nat) (s : State) : Ans :=
  .next (if s.readsReg m (portReg Reg.ETH_TS_HI port) then s.readTsHi port else s.answerRead 0)

/-! ## Who handles an accepted frame (R190, R191) -/

/-- An ICMP or ICMPv6 message for a bound address: a request is answered (R190). -/
def State.icmpIn (s : State) (p pcp station : Nat) (k : IpPkt) : State :=
  let type := beAt k.body 0 1
  let answer (kind : Nat) (addr : List Byte) : State :=
    s.sendFrame p pcp (.answer p pcp kind addr k.src station (k.body.drop 4))
  if k.proto = 58 ∧ type = 135 ∧ s.bound (slice k.body 8 16) then answer 135 (slice k.body 8 16)
  else if k.proto = 58 ∧ type = 128 ∧ s.bound k.dst then answer 128 k.dst
  else if k.proto = 1 ∧ type = 8 ∧ s.bound k.dst then answer 8 k.dst
  else s.discard

/-- A UDP datagram. RoCEv2 goes to Furrow, whose responses are commands of their own (R504). -/
def State.udpIn (s : State) (p pcp : Nat) (k : IpPkt) : State :=
  let dport := beAt k.body 2 2
  let data := slice k.body 8 (beAt k.body 4 2 - 8)
  if !udpOk k then s.discard
  else if s.ptpOn p ∧ (dport = 319 ∨ dport = 320) then s.ptpIn p (if k.dst.length = 4 then 4 else 6) data
  else if !s.bound k.dst then s.discard
  else if dport = s.fld Reg.ETH_SWATH 15 0 then
    let addr := if k.src.length = 4 then mapped k.src else k.src
    s.swathIn p pcp { addr := addr, port := beAt k.body 0 2 } data fun _ => true
  else if dport = 4791 then s
  else s.discard

/-- An accepted frame after MACsec (R190). -/
def State.classify (s : State) (p : Nat) (f : EthFrame) : State :=
  if f.etype = 0x88F7 ∧ s.ptpOn p then s.ptpIn p 0 f.payload
  else if f.etype = 0x0806 then
    let target := slice f.payload 24 4
    if beAt f.payload 6 2 = 1 ∧ 28 ≤ f.payload.length ∧ s.bound target then
      s.sendFrame p f.pcp (.answer p f.pcp 0x0806 target (slice f.payload 14 4) (beAt f.payload 8 6) [])
    else s.discard
  else match ipPkt f.etype f.payload with
    | none => s.discard
    | some k => if k.proto = 17 then s.udpIn p f.pcp k else if k.proto = 58 ∨ k.proto = 1 then s.icmpIn p f.pcp f.src k else s.discard

/-- The receive SA of a channel and AN. -/
def State.rxSa (s : State) (p chan an : Nat) : Option Sa :=
  s.eth.sas.find? fun a => a.port == p && a.rx && a.chan == chan && a.an == an && !s.slotSpent a.slot

/-- MACsec on a received frame: the state after it when the frame goes on (R192 to R194). -/
def State.verify (s : State) (p : Nat) (sec : SecTag) : Option State :=
  if !s.bit (portReg Reg.ETH_PCFG p) 8 then (if sec = .plain then some s else none)
  else match sec with
    | .plain => if s.bit (portReg Reg.ETH_PCFG p) 9 then none else some s.discard
    | .tagged chan an pn ok =>
      match s.rxSa p chan an with
      | none => none
      | some a =>
        if !ok ∨ pn < a.pn then none
        else
          let s := s.chargeSa p a
          some (s.mapEth fun e => { e with sas := e.sas.map fun x => if x = a then { x with pn := pn + 1 } else x })

/-- A frame arrives at a port (R189 to R195). -/
def State.frameIn (s : State) (p : Nat) (fcsOk : Bool) (sec : SecTag) (room : Nat) (b : List Byte) : State :=
  let extra := if sec = .plain then 4 else 36
  if !s.portUp p ∨ s.safe then s
  else if !fcsOk ∨ 9216 < b.length + extra then s.count (portReg Reg.ETH_CNT_FCS p) 1
  else match ethFrame b with
    | none => s.discard
    | some f =>
      if !s.macAccepted p f.dst f.etype then s.discard
      else if f.etype = 0x8808 then s.takePfc p (s.pfcQuanta p f.payload)
      else
        let lossless := s.bit (portReg Reg.ETH_PCFG p) (16 + f.pcp)
        let s := if lossless then s.sendPauses p f.pcp room else s
        if !lossless ∧ room < b.length then s.discard
        else match s.verify p sec with
          | none => s.discard
          | some s => s.classify p f

def execFrameReceive (t port : Nat) (fcsOk : Bool) (sec : SecTag) (room : Nat) (bytes : List Byte) (s : State) : Ans :=
  .next ((s.advance t).frameIn port fcsOk sec room bytes)

/-! ## Links (R188, R221) -/

/-- A mode of 400 Gbit/s on four lanes (R187). -/
def State.fourLanes (s : State) (p : Nat) : Bool := decide (4 ≤ s.fld (portReg Reg.ETH_PCFG p) 2 0)

/-- A lane of a port is powered: the port is enabled, and lanes 4 to 7 only at 800 Gbit/s; the outputs of the others are at
electrical idle (R188). -/
def State.laneOn (s : State) (p lane : Nat) : Bool :=
  s.bit Reg.ETH_CTRL p && decide (lane < (if s.fourLanes p then 4 else 8))

/-- The port runs auto-negotiation and link training before its link comes up: AN is 1 and its mode CR or KR (R188). How
they run is in Clause 73; the row of the link tells that they ended well. -/
def State.negotiates (s : State) (p : Nat) : Bool :=
  s.bit (portReg Reg.ETH_PCFG p) 4 && decide (s.fld (portReg Reg.ETH_PCFG p) 1 0 < 2)

/-- The link of an enabled port comes up, at the speed of its mode. -/
def execPortLinkUp (port : Nat) (s : State) : Ans :=
  .next (if port < 2 ∧ s.bit Reg.ETH_CTRL port then
    (s.setBit (portReg Reg.ETH_PSTAT port) 0 true).setBit (portReg Reg.ETH_PSTAT port) 1
      (s.fourLanes port)
  else s)

/-- A port's link goes down: what it paused and what waits for a pause goes with it. -/
def State.linkLost (s : State) (p : Nat) : State :=
  let s := (s.setBit (portReg Reg.ETH_PSTAT p) 0 false).setFld (portReg Reg.ETH_PSTAT p) 23 8 0
  (s.mapPort p fun x => { x with pauses := [], txq := [] }).setBit Reg.ETH_ERR 1 true

/-- An enabled port loses its link (R221). -/
def execPortLinkDown (port : Nat) (s : State) : Ans :=
  .next (if port < 2 ∧ s.portUp port then s.linkLost port else s)

end Sys2Proof.Machine
end

