-- ==== Sys2Proof/Machine/Deflate.lean ====
section
/-! DEFINITION. DEFLATE, zlib and gzip (R453 to R457, R460, R463): the inflater with the errors of R463, the
checks over the data, and compression, whose choice of matches and codes the spec does not give: a block is an
encoding of unknown choice that inflates to its input, or the stored block. -/

namespace Sys2Proof.Machine

open Sys2Proof

/-! ## Bits -/

/-- The bits of a byte, least significant first. -/
def bitsOfByte (b : Byte) : List Bool := (List.range 8).map fun i => b.getLsbD i

def bitsOfBytes (l : List Byte) : List Bool := l.flatMap bitsOfByte

/-- The n low bits of a number, least significant first. -/
def bitsOfNat : Nat → Nat → List Bool
  | 0, _ => []
  | n + 1, v => decide (v % 2 = 1) :: bitsOfNat n (v / 2)

/-- The number that bits spell, least significant first. -/
def natOfBits : List Bool → Nat
  | [] => 0
  | b :: l => b.toNat + 2 * natOfBits l

/-- Bits as bytes, padded with zeros; fuel bounds the number of bytes. -/
def bytesOfBits : Nat → List Bool → List Byte
  | 0, _ => []
  | fuel + 1, l => if l.isEmpty then [] else BitVec.ofNat 8 (natOfBits (l.take 8)) :: bytesOfBits fuel (l.drop 8)

def packBits (l : List Bool) : List Byte := bytesOfBits (l.length / 8 + 1) l

/-! ## The inflater -/

/-- Why inflation stops (R463). -/
inductive InfErr where
  | bad | short | full
  deriving DecidableEq, Repr

/-- An item read from the source, or the error. -/
abbrev Item (α : Type) := Except InfErr (α × List Bool)

/-- n bits as a number. -/
def getBits (n : Nat) (l : List Bool) : Item Nat :=
  if l.length < n then .error .short else .ok (natOfBits (l.take n), l.drop n)

/-- A canonical Huffman code: how many codes have each length 1 to 15, and the symbols in order of code. -/
structure Huff where
  counts : List Nat
  syms   : List Nat

def Huff.of (lens : List Nat) : Huff :=
  { counts := (List.range 15).map fun i => (lens.filter fun l => l = i + 1).length
    syms := (List.range 15).flatMap fun i => (List.range lens.length).filter fun k => lens.getD k 0 = i + 1 }

/-- The codes left over at each length; a negative number says that the set has too many codes. -/
def Huff.left (h : Huff) : Int := h.counts.foldl (fun (l : Int) n => if l < 0 then l else 2 * l - n) 1

/-- A code set is usable: complete, or for distances one code at most (RFC 1951). -/
def Huff.ok (h : Huff) (dist : Bool) : Bool :=
  h.left == 0 || (dist && decide (h.syms.length ≤ 1) && decide (0 ≤ h.left) && h.counts.headD 0 == h.syms.length)

/-- The next symbol: one bit for each length in turn. -/
def Huff.walk (syms : List Nat) : List Nat → Nat → Nat → Nat → List Bool → Item Nat
  | [], _, _, _, _ => .error .bad
  | _ :: _, _, _, _, [] => .error .short
  | n :: counts, code, first, index, b :: l =>
    let code := code + b.toNat
    if code < first + n then .ok (syms.getD (index + (code - first)) 0, l)
    else Huff.walk syms counts (2 * code) (2 * (first + n)) (index + n) l

def Huff.next (h : Huff) (l : List Bool) : Item Nat := Huff.walk h.syms h.counts 0 0 0 l

/-- Base and extra bits of the length symbols 257 to 285, and of the distance symbols 0 to 29. -/
def lengthTable : List (Nat × Nat) :=
  [(3, 0), (4, 0), (5, 0), (6, 0), (7, 0), (8, 0), (9, 0), (10, 0), (11, 1), (13, 1), (15, 1), (17, 1), (19, 2),
   (23, 2), (27, 2), (31, 2), (35, 3), (43, 3), (51, 3), (59, 3), (67, 4), (83, 4), (99, 4), (115, 4), (131, 5),
   (163, 5), (195, 5), (227, 5), (258, 0)]

def distTable : List (Nat × Nat) :=
  [(1, 0), (2, 0), (3, 0), (4, 0), (5, 1), (7, 1), (9, 2), (13, 2), (17, 3), (25, 3), (33, 4), (49, 4), (65, 5),
   (97, 5), (129, 6), (193, 6), (257, 7), (385, 7), (513, 8), (769, 8), (1025, 9), (1537, 9), (2049, 10),
   (3073, 10), (4097, 11), (6145, 11), (8193, 12), (12289, 12), (16385, 13), (24577, 13)]

/-- Where inflation stands: the output, newest byte first, and the source left. -/
structure Inf where
  out  : List Byte
  rest : List Bool

/-- Copies from a distance back, byte by byte, until the limit (R463: DEST_FULL). -/
def copyBack (limit dist : Nat) : Nat → List Byte → List Byte × Bool
  | 0, out => (out, true)
  | n + 1, out =>
    if limit ≤ out.length then (out, false)
    else copyBack limit dist n (out.getD (dist - 1) 0 :: out)

/-- Literal bytes joined to the output until the limit. -/
def putBytes (limit : Nat) : List Byte → List Byte → List Byte × Bool
  | [], out => (out, true)
  | b :: l, out => if limit ≤ out.length then (out, false) else putBytes limit l (b :: out)

/-- The length and distance of a match whose length symbol has been read. -/
def matchOf (dist : Huff) (sym : Nat) (l : List Bool) : Item (Nat × Nat) :=
  match lengthTable[sym - 257]? with
  | none => .error .bad
  | some (base, extra) =>
    match getBits extra l with
    | .error e => .error e
    | .ok (x, l) =>
      match dist.next l with
      | .error e => .error e
      | .ok (d, l) =>
        match distTable[d]? with
        | none => .error .bad
        | some (dbase, dextra) =>
          match getBits dextra l with
          | .error e => .error e
          | .ok (y, l) => .ok ((base + x, dbase + y), l)

/-- The symbols of a block until its end; fuel bounds their number by the bits left. -/
def inflateSyms (limit : Nat) (lit dist : Huff) : Nat → Inf → Inf × Option InfErr
  | 0, s => (s, some .short)
  | fuel + 1, s =>
    match lit.next s.rest with
    | .error e => (s, some e)
    | .ok (sym, l) =>
      if sym = 256 then ({ s with rest := l }, none)
      else if sym < 256 then
        if limit ≤ s.out.length then (s, some .full)
        else inflateSyms limit lit dist fuel { out := BitVec.ofNat 8 sym :: s.out, rest := l }
      else match matchOf dist sym l with
        | .error e => (s, some e)
        | .ok ((n, d), l) =>
          if s.out.length < d then (s, some .bad)
          else
            let r := copyBack limit d n s.out
            if r.2 then inflateSyms limit lit dist fuel { out := r.1, rest := l }
            else ({ s with out := r.1 }, some .full)

/-- The order of the code lengths of the code-length code (RFC 1951). -/
def clOrder : List Nat := [16, 17, 18, 0, 8, 7, 9, 6, 10, 5, 11, 4, 12, 3, 13, 2, 14, 1, 15]

/-- k fields of 3 bits. -/
def getThrees : Nat → List Bool → Item (List Nat)
  | 0, l => .ok ([], l)
  | k + 1, l =>
    match getBits 3 l with
    | .error e => .error e
    | .ok (x, l) =>
      match getThrees k l with
      | .error e => .error e
      | .ok (xs, l) => .ok (x :: xs, l)

/-- The code lengths of the literal and distance codes; fuel bounds the symbols by their number. -/
def getLens (cl : Huff) (want : Nat) : Nat → List Nat → List Bool → Item (List Nat)
  | 0, acc, l => if acc.length = want then .ok (acc, l) else .error .bad
  | fuel + 1, acc, l =>
    if want < acc.length then .error .bad
    else if acc.length = want then .ok (acc, l)
    else match cl.next l with
      | .error e => .error e
      | .ok (sym, l) =>
        let again (extra base v : Nat) : Item (List Nat) :=
          match getBits extra l with
          | .error e => .error e
          | .ok (x, l) => getLens cl want fuel (acc ++ List.replicate (base + x) v) l
        if sym < 16 then getLens cl want fuel (acc ++ [sym]) l
        else if sym = 16 then (if acc.isEmpty then .error .bad else again 2 3 (acc.getLastD 0))
        else if sym = 17 then again 3 3 0
        else again 7 11 0

/-- The codes of a dynamic block. -/
def dynamicCodes (l : List Bool) : Item (Huff × Huff) :=
  match getBits 14 l with
  | .error e => .error e
  | .ok (h, l) =>
    let hlit := h % 32 + 257
    let hdist := h / 32 % 32 + 1
    if 286 < hlit ∨ 30 < hdist then .error .bad
    else match getThrees (h / 1024 + 4) l with
      | .error e => .error e
      | .ok (xs, l) =>
        let cl := Huff.of ((List.range 19).map fun i => ((clOrder.findIdx? fun o => o == i).bind fun k => xs[k]?).getD 0)
        if !cl.ok false then .error .bad
        else match getLens cl (hlit + hdist) (hlit + hdist + 1) [] l with
          | .error e => .error e
          | .ok (lens, l) =>
            let lit := Huff.of (lens.take hlit)
            let dist := Huff.of (lens.drop hlit)
            if lit.ok false && dist.ok true then .ok ((lit, dist), l) else .error .bad

/-- The codes of a fixed block (RFC 1951). -/
def fixedLit : Huff :=
  Huff.of (List.replicate 144 8 ++ List.replicate 112 9 ++ List.replicate 24 7 ++ List.replicate 8 8)
def fixedDist : Huff := Huff.of (List.replicate 32 5)

/-- A stored block after its header; `total` is the length of the whole source in bits, for the alignment. -/
def inflateStored (limit total : Nat) (s : Inf) (l : List Bool) : Inf × Option InfErr :=
  let l := l.drop ((8 - (total - l.length) % 8) % 8)
  match getBits 16 l with
  | .error e => (s, some e)
  | .ok (len, l) =>
    match getBits 16 l with
    | .error e => (s, some e)
    | .ok (nlen, l) =>
      if len + nlen ≠ 65535 then (s, some .bad)
      else
        let have_ := min len (l.length / 8)
        let r := putBytes limit (bytesOfBits have_ (l.take (8 * have_))) s.out
        let done := r.1.length - s.out.length
        let s' : Inf := { out := r.1, rest := l.drop (8 * done) }
        if !r.2 then (s', some .full) else if have_ < len then (s', some .short) else (s', none)

/-- One block: whether it is the last, and how it ended. -/
def inflateBlock (limit total : Nat) (s : Inf) : Inf × Bool × Option InfErr :=
  match getBits 3 s.rest with
  | .error e => (s, true, some e)
  | .ok (h, l) =>
    let final := decide (h % 2 = 1)
    let r : Inf × Option InfErr :=
      if h / 2 = 0 then inflateStored limit total s l
      else if h / 2 = 1 then inflateSyms limit fixedLit fixedDist (l.length + 1) { s with rest := l }
      else if h / 2 = 2 then
        match dynamicCodes l with
        | .error e => (s, some e)
        | .ok ((lit, dist), l) => inflateSyms limit lit dist (l.length + 1) { s with rest := l }
      else (s, some .bad)
    (r.1, final, r.2)

/-- Blocks until the last; fuel bounds their number by the bits left. -/
def inflateBlocks (limit total : Nat) : Nat → Inf → Inf × Option InfErr
  | 0, s => (s, some .short)
  | fuel + 1, s =>
    match inflateBlock limit total s with
    | (s, _, some e) => (s, some e)
    | (s, true, none) => (s, none)
    | (s, false, none) => inflateBlocks limit total fuel s

/-- A raw DEFLATE stream: the output, the source bytes used, the error. -/
def inflateRaw (limit : Nat) (src : List Byte) : List Byte × Nat × Option InfErr :=
  let bits := bitsOfBytes src
  let r := inflateBlocks limit bits.length (bits.length + 1) { out := [], rest := bits }
  (r.1.out.reverse, (bits.length - r.1.rest.length + 7) / 8, r.2)

/-! ## Checks over the data -/

/-- One byte into the CRC-32 register of gzip. -/
def crc32Byte (c : BitVec 32) (b : Byte) : BitVec 32 :=
  (List.range 8).foldl (fun (c : BitVec 32) _ => if c.getLsbD 0 then (c >>> 1) ^^^ 0xEDB88320#32 else c >>> 1)
    (c ^^^ b.zeroExtend 32)

/-- CRC-32 of data (R455). -/
def crc32 (l : List Byte) : Nat := ((l.foldl crc32Byte 0xFFFFFFFF#32) ^^^ 0xFFFFFFFF#32).toNat

/-- Adler-32 of data (R455). -/
def adler32 (l : List Byte) : Nat :=
  let r := l.foldl (fun (p : Nat × Nat) b =>
    let a := (p.1 + b.toNat) % 65521
    (a, (p.2 + a) % 65521)) (1, 0)
  r.2 * 65536 + r.1

/-- CHECK of R455: Adler-32 for ZLIB, CRC-32 for RAW and GZIP. -/
def checkOf (wrap : Nat) (l : List Byte) : Nat := if wrap = 1 then adler32 l else crc32 l

/-! ## Wrappers -/

/-- How a decompression ends (R463). -/
inductive DecEnd where
  | done | stream (e : InfErr) | wrapper | check | truncated
  deriving DecidableEq, Repr

/-- The length of a gzip header, or how it fails (R453). -/
def gzipHeader (src : List Byte) : Except DecEnd Nat :=
  if src.length < 10 then .error .truncated
  else if leAt src 0 3 ≠ 0x088B1F ∨ 32 ≤ leAt src 3 1 then .error .wrapper
  else
    let flg := leAt src 3 1
    let extra := if flg.testBit 2 then 2 + leAt src 10 2 else 0
    let skipText (pos : Nat) : Nat :=
      match (src.drop pos).findIdx? fun b => b == 0 with
      | some k => pos + k + 1
      | none => src.length + 1
    let p := 10 + extra
    let p := if flg.testBit 3 then skipText p else p
    let p := if flg.testBit 4 then skipText p else p
    let q := if flg.testBit 1 then p + 2 else p
    if src.length < q then .error .truncated
    else if flg.testBit 1 ∧ leAt src p 2 ≠ crc32 (src.take p) % 65536 then .error .check
    else .ok q

/-- The length of a zlib header, or how it fails (R453). -/
def zlibHeader (src : List Byte) : Except DecEnd Nat :=
  if src.length < 2 then .error .truncated
  else
    let cmf := leAt src 0 1
    let flg := leAt src 1 1
    if cmf % 16 ≠ 8 ∨ 7 < cmf / 16 ∨ (cmf * 256 + flg) % 31 ≠ 0 ∨ flg.testBit 5 then .error .wrapper else .ok 2

/-- A whole stream decompressed into at most `limit` bytes: the output, the source bytes used, the end (R453,
R463). -/
def decompressAll (wrap limit : Nat) (src : List Byte) : List Byte × Nat × DecEnd :=
  let head : Except DecEnd Nat := if wrap = 1 then zlibHeader src else if wrap = 2 then gzipHeader src else .ok 0
  match head with
  | .error e => ([], 0, e)
  | .ok h =>
    let r := inflateRaw limit (src.drop h)
    let used := h + r.2.1
    match r.2.2 with
    | some .short => (r.1, used, .truncated)
    | some e => (r.1, used, .stream e)
    | none =>
      let t := if wrap = 1 then 4 else if wrap = 2 then 8 else 0
      if src.length < used + t then (r.1, used, .truncated)
      else if wrap = 1 ∧ beAt src used 4 ≠ adler32 r.1 then (r.1, used, .check)
      else if wrap = 2 ∧ (leAt src used 4 ≠ crc32 r.1 ∨ leAt src (used + 4) 4 ≠ r.1.length % 2 ^ 32) then (r.1, used, .check)
      else (r.1, used + t, .done)

/-! ## Compression -/

/-- A stored block at a bit position. -/
def storedBlock (pos : Nat) (final : Bool) (block : List Byte) : List Bool :=
  [final, false, false] ++ List.replicate ((8 - (pos + 3) % 8) % 8) false ++
  bitsOfNat 16 block.length ++ bitsOfNat 16 (65535 - block.length) ++ bitsOfBytes block

/-- The bits of a block inflate, after the output before it, to just the block, in a block type that MODE
allows, with its BFINAL, in no more bits than the stored block takes (R453, R455, R457). -/
def blockFits (mode pos : Nat) (final : Bool) (before block : List Byte) (bits : List Bool) : Bool :=
  let r := inflateBlock (before.length + block.length) (pos + bits.length) { out := before.reverse, rest := bits }
  decide (r.1.out.reverse = before ++ block) && r.1.rest.isEmpty && r.2.2.isNone && r.2.1 == final &&
  (mode % 4 == 0 || natOfBits ((bits.drop 1).take 2) == mode % 4 - 1) &&
  decide (bits.length ≤ (storedBlock pos final block).length)

/-- The encoded block of an engine: the choice of matches and codes is an open value, which depends on the data
and MODE alone (R454; log entry 20). -/
def encodeBlock (mode pos : Nat) (final : Bool) (before block : List Byte) : List Bool :=
  let bits := Config.deflateBlock mode pos final before block
  if mode % 4 ≠ 1 ∧ blockFits mode pos final before block bits then bits else storedBlock pos final block

/-- The input blocks of a job; one empty block for no input. Fuel bounds their number. -/
def inputBlocks (size : Nat) : Nat → List Byte → List (List Byte)
  | 0, l => [l]
  | fuel + 1, l => if l.length ≤ size then [l] else l.take size :: inputBlocks size fuel (l.drop size)

/-- The blocks encoded one after another; those that `bad` names are stored (R460). The last is final where the stream
ends with it. -/
def encodeBlocks (mode : Nat) (bad : List Nat) (ends : Bool) : Nat → List Byte → List Bool → List (List Byte) → List Bool
  | _, _, bits, [] => bits
  | k, before, bits, b :: l =>
    let final := ends && l.isEmpty
    let e := if k ∈ bad then storedBlock bits.length final b else encodeBlock mode bits.length final before b
    encodeBlocks mode bad ends (k + 1) (before ++ b) (bits ++ e) l

/-- Header and trailer of a wrapper (R453). -/
def wrapHead (wrap : Nat) : List Byte :=
  if wrap = 1 then [0x78, 0x9C] else if wrap = 2 then [0x1F, 0x8B, 0x08, 0, 0, 0, 0, 0, 0, 0xFF] else []

def wrapTail (wrap : Nat) (src : List Byte) : List Byte :=
  if wrap = 1 then beBytes 4 (adler32 src)
  else if wrap = 2 then leBytes 4 (crc32 src) ++ leBytes 4 (src.length % 2 ^ 32)
  else []

/-- BLKSZ of MODE in bytes (R455). -/
def blockSize (mode : Nat) : Nat := 4096 * 2 ^ (mode / 32 % 4)

/-- The stream of a COMPRESS job (R453, R454, R460). -/
def compressAll (wrap mode : Nat) (bad : List Nat) (src : List Byte) : List Byte :=
  let blocks := inputBlocks (blockSize mode) (src.length / blockSize mode + 1) src
  wrapHead wrap ++ packBits (encodeBlocks mode bad true 0 [] [] blocks) ++ wrapTail wrap src

/-- The number of input blocks of a job. -/
def blockCount (mode len : Nat) : Nat := max 1 ((len + blockSize mode - 1) / blockSize mode)

/-- The bound of R457. -/
def compressBound (wrap mode len : Nat) : Nat :=
  (if wrap = 1 then 2 else if wrap = 2 then 10 else 0) + len + 5 * blockCount mode len +
  (if wrap = 1 then 4 else if wrap = 2 then 8 else 0)

end Sys2Proof.Machine
end

