-- ==== Sys2Proof/Machine/Restore.lean ====
section
/-! DEFINITION. Blocks in storage (R510 to R513) and the restore of the live region from a checkpoint, destaged
extents and the sheaves in the ring (R514). -/

namespace Sys2Proof.Machine

open Sys2Proof

/-! ## Blocks -/

/-- The storage key: the slot of FRW_KEYSLOT, or slot 9 for the partner's namespaces (R481, R510). -/
def State.storageKey (s : State) (part : Bool) : Option (List Byte) :=
  (s.keySlot (if part then 9 else s.fld Reg.FRW_KEYSLOT 11 0)).map fun k => k.key

/-- Blocks from an LBA as they are stored: encrypted where ENCRYPT is 1 (R510). -/
def State.cryptBlocks (s : State) (enc part : Bool) (lba : Nat) (b : List Byte) : List Byte :=
  if !s.bit Reg.FRW_CFG 29 then b
  else match s.storageKey part with
    | some k => xts enc k lba 4096 b
    | none => b

/-- A string as pieces of at most 32 blocks with their LBAs (R494). -/
def pieces (lba : Nat) (b : List Byte) : List (Nat × List Byte) :=
  (List.range ((b.length + 131071) / 131072)).map fun i => (lba + 32 * i, slice b (131072 * i) 131072)

/-- The size in blocks of the namespace that a register names. -/
def State.nsSize (s : State) (reg : Nat) : Nat := Config.namespaceBlocks (s.fld reg 31 26) (s.fld reg 25 0)

/-- The LBA that follows in the ring of extents, which starts at 16 (R510). -/
def ringLba (size lba : Nat) : Nat := if size ≤ 17 then lba else 16 + (lba - 16) % (size - 16)

/-- Bytes of an extent as runs of blocks, cut where the ring wraps. -/
def ringRuns (size lba : Nat) (b : List Byte) : List (Nat × List Byte) :=
  let first := 4096 * (size - lba)
  if b.length ≤ first ∨ size ≤ 17 then [(lba, b)] else [(lba, b.take first), (16, b.drop first)]

/-- A write of runs of blocks, in commands (R494). -/
def State.writeRuns (s : State) (op reg : Nat) (l : List (Nat × List Byte)) : State :=
  (l.flatMap fun r => pieces r.1 r.2).foldl (fun s p =>
    s.sendStorage op (s.fld reg 31 26) nvWrite [s.fld reg 25 0, p.1, p.2.length / 4096, 0] p.2) s

/-- CRC of stored bytes (R510). -/
def storedCrc (b : List Byte) : Nat := ((crc32c 0xFFFFFFFF b) ^^^ 0xFFFFFFFF#32).toNat

/-! ## Checkpoints (R512, R513) -/

/-- The first LBA of an area. -/
def areaLba (b : Bool) (live : Nat) : Nat := if b then 1 + live * 262144 else 0

/-- The header block of an area. -/
def ckptHeader (complete : Bool) (seq baseEpoch : Nat) (baseChain : List Byte) (extLba dev live : Nat) : List Byte :=
  fitTo 4096 (leBytes 4 0x46525702 ++ leBytes 4 complete.toNat ++ leBytes 8 seq ++ leBytes 8 baseEpoch ++
    fitTo 48 baseChain ++ leBytes 8 extLba ++ leBytes 2 dev ++ leBytes 2 live)

/-- A header block names a complete checkpoint. -/
def ckptComplete (b : List Byte) : Bool := leAt b 0 4 == 0x46525702 && leAt b 4 4 == 1

/-! ## Restore (R514) -/

/-- The register of the namespace whose extents a restore follows. -/
def State.extReg (s : State) (r : Restore) : Nat := if r.dev = s.devId then Reg.FRW_NSDST else Reg.FRW_NSPDST

/-- The restore as it stands. -/
def State.setRestore (s : State) (r : Restore) : State := s.mapFurrow fun w => { w with restore := some r }

/-- A read of a restore. -/
def State.restoreRead (s : State) (r : Restore) (reg lba n : Nat) : State :=
  (s.setRestore r).sendStorage r.op (s.fld reg 31 26) nvRead [s.fld reg 25 0, lba, n, 0] []

/-- A record of a restored sheaf concerns the live region: every one of an own sheaf, and of the partner's those of
plots that are not the partner's. -/
def State.restoresRecord (s : State) (r : Restore) (x : BodyRec) : Bool :=
  r.dev == s.devId || (x.queue != 0xFFFF &&
    (match s.plot x.plot with
     | some p => p.own
     | none => true))

/-- A sheaf applied by a restore: after-images into the live region, records into the own index table. -/
def State.restoreSheaf (s : State) (r : Restore) (h : Sheaf) : State :=
  let size := s.fld Reg.JNL_REGION 28 16 * 2 ^ 30
  (h.records.filter fun x => s.restoresRecord r x).foldl (fun s x =>
    let s := x.lines.foldl (fun s e => s.applyLine (s.reg64 Reg.JNL_LIVE_BASE_LO) size size x.plot e) s
    s.indexInsert .own h x) s

/-- A stored sheaf passes R139: it continues the chain, and its CHAIN and MAC hold. -/
def State.storedOk (s : State) (r : Restore) (b : List Byte) : Bool :=
  let hdr := b.take 128
  let n := hdBodyLen hdr
  decide (sheafFrame ≤ b.length) && leAt b 0 4 == 0x53484601 && leAt b 4 2 == 1 && b.length == sheafFrame + n &&
  hdPrevChain hdr == r.chain && slice b (128 + n) 48 == chainOf hdr (slice b 128 n) &&
  (match s.storedKey hdr with
   | some k => slice b (176 + n) 48 == hmac384 k (hdr ++ slice b (128 + n) 48)
   | none => false)

/-- The sheaf of a string that passes. -/
def sheafOf (b : List Byte) : Sheaf :=
  let n := hdBodyLen (b.take 128)
  { kind := .own, epoch := hdEpoch (b.take 128), offset := 0, len := b.length, header := b.take 128, body := slice b 128 n
    chain := slice b (128 + n) 48, mac := slice b (176 + n) 48, sealed := true, acked := true, destaged := true
    applied := true, zeroed := false, doneTime := 0, coverOk := true }

/-- A restore ends: numbering goes on from the last epoch applied while the device boots, and destage from the last
extent read (R138, R510, R514). -/
def State.restoreEnd (s : State) (r : Restore) : State :=
  let s := if s.own = 0 then s.mapJournal fun j => { j with prevEpoch := r.epoch, prevChain := r.chain } else s
  let mine := decide (r.dev = s.devId)
  let s := s.mapFurrow fun w =>
    { w with restore := none, nextLba := if mine then r.pos else 16, keepLba := if mine then r.extLba else 16
             ploughSeq := some r.seq, areaB := decide (r.area ≠ 0 ∨ r.seq = 0) }
  match s.op r.op with
  | some o => s.closeOp o 0
  | none => s

/-- The sheaves in the ring that continue the chain, in increasing EPOCH, the higher of two with one PREV_EPOCH
(R514, step 5). Each own one is destaged afterwards; the others serve no more. -/
def State.restoreRing (s : State) (r : Restore) : Nat → State
  | 0 => s.restoreEnd r
  | fuel + 1 =>
    let next := (s.journal.sheaves.filter fun h =>
      !h.zeroed && hdPrev h.header == r.epoch && hdPrevChain h.header == r.chain && decide (r.epoch < h.epoch)).foldl
        (fun (b : Option Sheaf) h => match b with
          | some x => if x.epoch < h.epoch then some h else some x
          | none => some h) none
    match next with
    | none => s.restoreEnd r
    | some h =>
      let s := s.restoreSheaf r h
      let s := if h.kind = .own then s.setSheaf { h with sealed := true, destaged := false, doneTime := s.time } else s
      s.restoreRing { r with epoch := h.epoch, chain := h.chain } fuel

/-- The extents are read: the ring follows. Own sheaves in it that no longer matter count as destaged (R144). -/
def State.restoreStop (s : State) (r : Restore) : State :=
  let s := s.mapJournal fun j => { j with sheaves := j.sheaves.map fun h =>
    if h.kind = .own then { h with sealed := true, destaged := true } else h }
  s.restoreRing r s.journal.sheaves.length

/-- The next read of extents: the first block of one, or more blocks of it. -/
def State.readExtent (s : State) (r : Restore) (n : Nat) : State :=
  let reg := s.extReg r
  let lba := ringLba (s.nsSize reg) (r.pos + r.buf.length / 4096)
  let room := if s.nsSize reg ≤ 17 then n else s.nsSize reg - lba
  s.restoreRead r reg lba (max 1 (min (min n 32) room))

/-- Extents are read from EXT_LBA on (R514, step 3). -/
def State.startExtents (s : State) (r : Restore) : State :=
  let r := { r with step := 3, pos := r.extLba, buf := [] }
  if s.fld (s.extReg r) 25 0 = 0 then s.restoreStop r else s.readExtent r 1

/-- A whole extent is checked and applied, or ends the restore from storage (R514, steps 3 and 4). -/
def State.takeExtent (s : State) (r : Restore) : State :=
  let stored := slice r.buf 64 (leAt r.buf 24 4)
  let ulen := leAt r.buf 28 4
  let plain := if leAt r.buf 4 4 % 2 = 1 then (decompressAll 0 ulen stored).1 else stored
  if storedCrc stored = leAt r.buf 32 4 ∧ plain.length = ulen ∧ s.storedOk r plain then
    let h := sheafOf plain
    (s.restoreSheaf r h).readExtent { r with epoch := h.epoch, chain := h.chain, pos := leAt r.buf 16 8, buf := [] } 1
  else
    let s := if r.epoch < leAt r.buf 8 8 then s.setBit Reg.FRW_ERR 6 true else s
    s.restoreStop { r with buf := [] }

/-- The area that a restore uses: COMPLETE and the higher SEQ; with none the live region is zeroed (R514, steps 1 and
2). -/
def State.chooseArea (s : State) (r : Restore) (headB : List Byte) : State :=
  let a := r.headA
  let useB := ckptComplete headB && (!ckptComplete a || decide (leAt a 8 8 < leAt headB 8 8))
  let h := if useB then headB else a
  if ckptComplete h then
    let r := { r with step := 2, seq := leAt h 8 8, area := areaLba useB r.live, dev := leAt h 80 2 % 1024, pos := 0
                      epoch := leAt h 16 8, chain := slice h 24 48, extLba := leAt h 72 8 }
    if r.live = 0 then s.startExtents r else s.restoreRead r Reg.FRW_NSPLG (r.area + 1) 32
  else
    let base := s.reg64 Reg.JNL_LIVE_BASE_LO
    (s.wipe base (r.live * 2 ^ 30)).startExtents r

/-- A restore begins (R178, R183, R514). Its reads wait for no acknowledgement of its record. -/
def State.startRestore (s : State) : State :=
  if s.furrow.restore.isSome then s
  else
    let a := s.addOp (FrwOp.blank .restore)
    let s := a.1.setOp { a.2 with acked := true }
    let r : Restore :=
      { op := a.2.id, step := 0, headA := [], seq := 0, area := 0, dev := s.devId, live := s.fld Reg.JNL_REGION 28 16
        pos := 0, buf := [], epoch := 0, chain := zeros 48, extLba := 16 }
    if s.fld Reg.FRW_NSPLG 25 0 = 0 then s.chooseArea r [] else s.restoreRead r Reg.FRW_NSPLG 0 1

/-- A read of the restore has brought its blocks. -/
def State.restoreData (s : State) (lba : Nat) (bytes : List Byte) : State :=
  match s.furrow.restore with
  | none => s
  | some r =>
    match r.step with
    | 0 => s.restoreRead { r with step := 1, headA := bytes } Reg.FRW_NSPLG (areaLba true r.live) 1
    | 1 => s.chooseArea r bytes
    | 2 =>
      let s := s.agentStore (s.reg64 Reg.JNL_LIVE_BASE_LO + 131072 * r.pos) (s.cryptBlocks false false lba bytes)
      let r := { r with pos := r.pos + 1 }
      if r.live * 8192 ≤ r.pos then s.startExtents r else s.restoreRead r Reg.FRW_NSPLG (r.area + 1 + 32 * r.pos) 32
    | _ =>
      let r := { r with buf := r.buf ++ s.cryptBlocks false (decide (r.dev ≠ s.devId)) lba bytes }
      let need := (64 + leAt r.buf 24 4 + 4095) / 4096 * 4096
      if leAt r.buf 0 4 ≠ 0x46525701 then s.restoreStop { r with buf := [] }
      else if r.buf.length < need then s.readExtent r ((need - r.buf.length) / 4096)
      else s.takeExtent r

end Sys2Proof.Machine
end

