-- ==== Sys2Proof/Machine/Twin.lean ====
section
/-! DEFINITION. Twin control (chapter 5): heartbeats and the lease (R165 to R170), takeover (R171 to R175),
rebuild and return (R178 to R183), and what a tick does to them; keys kept for the partner (R481). -/

namespace Sys2Proof.Machine

open Sys2Proof

/-! ## OWN and PART -/

def ownStarting : Nat := 0
def ownHolding : Nat := 1
def ownFencedSt : Nat := 2
def ownTaken : Nat := 3
def ownRebuilding : Nat := 4
def ownReady : Nat := 5
def ownReclaim : Nat := 6

def partNone : Nat := 0
def partPairing : Nat := 1
def partFallow : Nat := 2
def partSuspect : Nat := 3
def partAcquire : Nat := 4
def partLeaseWait : Nat := 5
def partAdopt : Nat := 6
def partServing : Nat := 7
def partSupply : Nat := 8
def partHandback : Nat := 9
def partLost : Nat := 10

def State.setOwn (s : State) (v : Nat) : State := s.setFld Reg.TWN_STATUS 31 28 v
def State.setPart (s : State) (v : Nat) : State := s.setFld Reg.TWN_STATUS 27 24 v
def State.missRun (s : State) : Nat := s.fld Reg.TWN_STATUS 23 16
def State.replOk (s : State) : Bool := s.bit Reg.TWN_STATUS 3

/-- LEASE in ns (R167). -/
def State.leaseNs (s : State) : Nat := s.fld Reg.TWN_LEASE 12 0 * 1000

/-- This device is the senior (R158). -/
def State.senior (s : State) : Bool := decide (s.devId < s.partnerId)

/-- NOPARTNER becomes 1, which clears a mirror cause (R79, R164); no epoch is to end it until a copy begins anew. -/
def State.setNoPartner (s : State) : State :=
  let s := s.mapFurrow fun w => { w with ops := w.ops.filter fun o => o.done.isNone }
  let s := s.mapTwin fun w => { w with mirrorNext := false }
  (s.setBit Reg.TWN_STATUS 5 true).mapTick fun t =>
    { t with rollback := t.rollback.map fun r => if r.cause = .mirror then { r with cleared := true } else r }

/-- A renewal issued at a time moves the lease end (R167). -/
def State.renewLease (s : State) (at_ : Nat) : State :=
  s.setReg64 Reg.TWN_LEASEEND_LO (max (s.reg64 Reg.TWN_LEASEEND_LO) (at_ + s.leaseNs))

/-- The device's own ordinary plots, and the partner's that it serves. -/
def State.ownPlots (s : State) : List Nat := (s.plots.plots.filter fun p => p.2.own && p.1 != 0).map (·.1)
def State.adoptedPlots (s : State) : List Nat := (s.plots.plots.filter fun p => !p.2.own).map (·.1)

/-- The transactions that run for a list of plots are told to end at their next boundary. -/
def State.endPlots (s : State) (ps : List Nat) (e : EndInput) : State :=
  allUnits.foldl (fun s u =>
    match (s.unit u).txn.bind s.tslot with
    | some t => if t.plot ∈ ps then s.endInput u e else s
    | none => s) s

/-- The own plots are fenced (R169). -/
def State.fencePlots (s : State) : State :=
  let s := (s.setOwn ownFencedSt).setBit Reg.TWN_ERR 3 true
  let ps := s.ownPlots
  let s := ps.foldl (fun s p => s.event Src.twin 5 (detail 3 p 0)) s
  (s.endPlots ps .rollback).failSeal .lease

/-- Plots that are held are fenced (R169). -/
def State.fenceOwn (s : State) : State := if s.own ≠ ownHolding then s else s.fencePlots

/-- The time base has reached TWN_LEASEEND, and no renewal came in that nanosecond (R18, R168, R169). An unpaired
device without arbitration holds its lease for ever (R164). -/
def execLeaseEnd (t : Nat) (s : State) : Ans :=
  let s := s.advance t
  .next (if !s.leaseValid ∧ s.reg64 Reg.TWN_LEASEEND_LO < s.timeBase ∧ !s.safe then s.fenceOwn else s)

/-! ## Heartbeats -/

/-- ECHO of a heartbeat: none in ACQUIRE to SUPPLY (R165). -/
def State.echo (s : State) : Nat :=
  if partAcquire ≤ s.part ∧ s.part ≤ partSupply then 0xFFFFFFFF else s.twin.partSeq.getD 0xFFFFFFFF

/-- FLAGS of a heartbeat (R165, R172, R185). -/
def State.hbFlags (s : State) : Nat :=
  (decide (s.part = partAcquire ∨ s.part = partLeaseWait)).toNat +
  2 * (decide (partAdopt ≤ s.part ∧ s.part ≤ partSupply)).toNat + 4 * s.replOk.toNat + 8 * s.twin.returning.toNat

/-- The 40 bytes of a heartbeat (R165). -/
def State.hbBytes (s : State) : List Byte :=
  beBytes 2 s.devId ++ beBytes 1 s.own ++ beBytes 1 s.part ++ beBytes 4 s.twin.hbSeq ++ beBytes 4 s.echo ++
  beBytes 4 s.hbFlags ++ beBytes 8 (s.reg64 Reg.TCK_SEALED_LO) ++ beBytes 8 s.timeBase ++
  beBytes 4 (s.reg Reg.TWN_PAIRGEN).toNat ++ zeros 4

/-- A heartbeat leaves on each mirror link (R165); the last 1,024 are kept for their ECHO. The first with OWN = TAKEN
starts the hold-off (R181). -/
def State.sendHeartbeat (s : State) : State :=
  let s := if s.own = ownTaken then s.mapTwin fun w => { w with holdStart := w.holdStart.or (some s.timeBase) } else s
  let s := s.mapTwin fun w =>
    let seq := (w.hbSeq + 1) % 2 ^ 32
    let hb : SentHb := { seq := seq, time := s.timeBase }
    { w with hbSeq := seq, sent := (w.sent ++ [hb]).drop (w.sent.length - 1023) }
  s.mirrorSend wfHeartbeat s.hbBytes

/-- A heartbeat was sent after the one of a SEQ: among the last 1,024, so that SEQ may have wrapped (R79, R165). -/
def SentHb.sentAfter (h : SentHb) (seq : Nat) : Bool :=
  decide (0 < (h.seq + 2 ^ 32 - seq) % 2 ^ 32 ∧ (h.seq + 2 ^ 32 - seq) % 2 ^ 32 < 2 ^ 31)

/-- The partner's ECHO renews the lease and may clear a mirror cause (R79, R167). -/
def State.takeEcho (s : State) (echo : Nat) : State :=
  match s.twin.sent.find? fun h => h.seq = echo with
  | none => s
  | some h =>
    (s.renewLease h.time).mapTick fun t =>
      { t with rollback := t.rollback.map fun r =>
          if r.cause = .mirror ∧ h.sentAfter r.hbSeq then { r with cleared := true } else r }

/-- The copies of the plots of both devices leave for the partner, the keys that it needs, and those that are kept
for its plots (R161, R179, R481). -/
def State.sendCopies (s : State) : State :=
  let s := s.plots.plots.foldl (fun s p => if p.1 = 0 then s else s.mirrorSend wfState (beBytes 1 stPlot ++ beBytes 8 0 ++ s.plotCopy p.1 p.2)) s
  let s := s.cipher.slots.foldl (fun s k => s.mirrorKey k.1) s
  s.cipher.blobs.foldl (fun s b => s.mirrorSend wfState (beBytes 1 stKeyBack ++ beBytes 8 0 ++ beBytes 4 b.1 ++ b.2)) s

/-- The size in MiB of the region that a phase copies (R179, R162). -/
def State.phaseSize (s : State) (phase : Nat) : Nat :=
  1024 * (if phase = 1 then s.fld Reg.JNL_REGION 12 0 else s.fld Reg.JNL_REGION 28 16)

/-- The phase of the copy in progress: phase 1 only while PART is SUPPLY, phase 2 also at pairing on a device that
holds its plots (R162); none once both are complete. -/
def State.copyPhase (s : State) : Option Nat :=
  if s.part = partSupply ∧ s.twin.cursor1 < s.phaseSize 1 then some 1
  else if (s.part = partSupply ∨ (s.part = partPairing ∧ s.own = ownHolding)) ∧ s.twin.cursor2 < s.phaseSize 2 then some 2
  else none

/-- TWN_REBUILD shows the phase and the GiB copied (R179). -/
def State.showCopy (s : State) : State :=
  let v := match s.copyPhase with
    | some 1 => 2 ^ 30 + s.twin.cursor1 / 1024
    | some _ => 2 ^ 31 + s.twin.cursor2 / 1024
    | none => 3 * 2 ^ 30
  s.setReg Reg.TWN_REBUILD (BitVec.ofNat 32 v)

/-- A copy of regions to the partner begins (R162, R179): phase 1 only for a returning device; a phase of size zero is
passed at once. -/
def State.startCopy (s : State) : State :=
  let s := s.mapTwin fun w => { w with cursor1 := 0, cursor2 := 0, chunks := [], mirrorNext := true }
  s.showCopy.sendCopies

/-- A rebuild of what the partner copies here begins: nothing lies below its cursors, the replica is incomplete and no
sheaf of the partner has been accepted (R149, R162, R180). -/
def State.startReceive (s : State) : State :=
  let s := (s.setBit Reg.TWN_STATUS 3 false).mapTwin fun w => { w with recv1 := 0, recv2 := 0 }
  s.mapJournal fun j => { j with partRef := none }

/-- The partner is back with its plots: PAIRING, and the copy to it (R162, R185). -/
def State.rejoin (s : State) : State := (s.setPart partPairing).startReceive.startCopy

/-- A survivor's SUPPLY begins (R179): it tells the returning device what that sealed last (R138), and awaits the first
sheaf of the rebuild (R149). -/
def State.startSupply (s : State) : State :=
  let s := match s.journal.partRef with
    | some (e, chain) => s.mirrorSend wfState (beBytes 1 stChain ++ beBytes 8 0 ++ beBytes 8 e ++ fitTo 48 chain)
    | none => s
  ((s.setPart partSupply).mapJournal fun j => { j with partRef := none }).startCopy

/-- The partner asks for its plots back (R182): M is the epoch that is open now; where it rolls back, the next one that
opens takes its place (State.rollBack, log entry 132). -/
def State.askReturn (s : State) : State :=
  if s.part = partSupply ∧ s.twin.handBack.isNone then
    s.mapTwin fun w => { w with handBack := some { epoch := s.epoch, step := 0 } }
  else s

/-- The transport of the partner's plots ends here (R182, step 6): they leave with their keys and slot 9. -/
def State.endServing (s : State) : State :=
  let ps := s.adoptedPlots
  let groups := (List.range 256).filter fun g => s.bit (Reg.CPH_ALLOT + 4 * g) 31 && decide (s.fld (Reg.CPH_ALLOT + 4 * g) 11 0 ∈ ps)
  let s := s.mapCipher fun c => { c with slots := c.slots.filter fun k => k.1 ≠ 9 ∧ !(groups.contains (k.1 / 16)) }
  let s := groups.foldl (fun s g => s.setReg (Reg.CPH_ALLOT + 4 * g) 0) s
  let s := ps.foldl State.removePlot s
  let theirs (o : FrwOp) : Bool := match o.kind with
    | .destage p => p
    | .plough p _ => p
    | _ => false
  let s := (s.furrow.ops.filter theirs).foldl (fun s o => s.dropOp o.id) s
  let s := s.mapFurrow fun w => { w with partDest := false, partPlaced := [], sweeps := w.sweeps.filter fun x => !x.part }
  s.mapTwin fun w => { w with handBack := none, adopted := [] }

/-- The partner serves the own plots (R170, R178). -/
def State.taken (s : State) : State := (s.setOwn ownTaken).startReceive

/-- A heartbeat in the nanosecond of step A's issue: the takeover does not start (R171). -/
def State.stopTakeover (s : State) : State :=
  if s.part = partAcquire ∧ s.twin.step = 1 ∧ s.twin.stepTime = s.timeBase then
    ((s.setPart partFallow).mapTwin fun w => { w with step := 0 }).recallArb arbStepA
  else s

/-- What the partner's OWN, PART and FLAGS do to the states of this device (R166, R170, R178, R179, R182,
R185). A booting device whose plots are TAKEN is in PAIRING, as its partner's copy comes next (log entry 133). -/
def State.takeStates (s : State) (own part flags : Nat) : State :=
  let holds := decide (flags / 2 % 2 = 1)
  let s := s.mapTwin fun w => { w with partHolds := holds }
  let s := if s.part = partSuspect then s.setPart partFallow else s
  let s :=
    if s.own = ownStarting then
      if holds ∧ part = partServing then s.taken.setPart partPairing
      else if !holds ∧ s.twin.reports.isEmpty then s.issueReport
      else s
    else if s.own = ownFencedSt ∧ holds then s.taken
    else s
  let s := if s.own = ownTaken ∧ part = partSupply then (s.setOwn ownRebuilding).startReceive else s
  let s :=
    if s.part = partServing ∧ own = ownTaken then s.startSupply
    else if s.part = partLost ∧ own = ownHolding then s.rejoin
    else if s.part = partPairing ∧ s.noPartner ∧ !s.twin.mirrorNext ∧ s.own = ownHolding ∧ own = ownHolding then s.rejoin
    else s
  let s := if flags / 8 % 2 = 1 then s.askReturn else s
  if s.part = partHandback ∧ own = ownHolding ∧ (s.twin.handBack.any fun h => h.step = 4) then s.endServing.setPart partFallow else s

/-- A heartbeat arrives (R165, R166). -/
def State.heartbeat (s : State) (link : Nat) (b : List Byte) : State :=
  if s.safe ∨ !s.paired ∨ (link ≠ s.linkA ∧ link ≠ s.linkB) then s
  else if b.length ≠ 40 ∨ beAt b 0 2 % 1024 ≠ s.partnerId ∨ beAt b 32 4 ≠ (s.reg Reg.TWN_PAIRGEN).toNat then
    s.setBit Reg.TWN_ERR 1 true
  else
    let s := s.sample 0x0F link (s.timeBase - s.tick.lastTick)
    let s := s.setBit Reg.TWN_STATUS (if link = s.linkA then 1 else 2) true
    let s := s.setFld Reg.TWN_STATUS 23 16 0
    let s := s.mapTwin fun w => { w with hbSeen := true, juniorFrom := none, partSeq := some (max (beAt b 4 4) (w.partSeq.getD 0)) }
    let s := (s.seen s.partnerId).stopTakeover
    (s.takeEcho (beAt b 8 4)).takeStates (beAt b 2 1) (beAt b 3 1) (beAt b 12 4)

def execHeartbeat (t link : Nat) (bytes : List Byte) (s : State) : Ans := .next ((s.advance t).heartbeat link bytes)

/-! ## Takeover -/

/-- ACQUIRE is entered and step A issued (R171, R172). -/
def State.enterAcquire (s : State) : State :=
  let s := (s.setPart partAcquire).setBit Reg.TWN_ERR 2 true
  (s.mapTwin fun w => { w with step := 1, stepTime := s.timeBase, juniorFrom := none }).issueStepA

/-- The conditions of R171 but for the junior's delay; a device that returns takes its own plots (R183). -/
def State.mayTakeOver (s : State) : Bool :=
  decide (s.fld Reg.TWN_HB 7 0 ≤ s.missRun) &&
  ((decide (s.part = partFallow ∨ s.part = partSuspect) && s.own == ownHolding) ||
   (decide (s.own = ownReady ∨ s.own = ownReclaim) && decide (s.part ≤ partSuspect)))

/-- The junior's added delay has passed with no heartbeat, in its last nanosecond neither (R18, R171). -/
def execJuniorDelayExpire (t : Nat) (s : State) : Ans :=
  let s := s.advance t
  .next (match s.twin.juniorFrom with
    | some f =>
      if s.mayTakeOver ∧ f + s.fld Reg.TWN_JUNIOR 15 0 * 1000 < s.timeBase ∧ !s.safe then s.enterAcquire else s
    | none => s)

/-- A takeover of plots whose replica is incomplete, or whose step B fails, ends in LOST; while this device
returns, it then still takes its own plots (R172, R183). -/
def State.loseTakeover (s : State) : State :=
  if s.own = ownReady ∨ s.own = ownReclaim then (s.setOwn ownHolding).setPart partLost else s.setPart partLost

/-- Plots that the partner has told this device of. -/
def State.partnerPlots (s : State) : List Nat := s.twin.copies.map (·.1)

/-- Step A completes (R164, R167, R172). Step B follows where the takeover is under way and the replica is
complete. -/
def execTakeoverStepADone (t : Nat) (ok : Bool) (s : State) : Ans :=
  let s := s.advance t
  let step := s.twin.step
  .next (if s.safe ∨ (step ≠ 1 ∧ step ≠ 4) then s
    else
      let s := (s.mapTwin fun w => { w with step := 0 }).endArb arbStepA
      if ok then
        let s := s.setNoPartner.renewLease s.twin.stepTime
        if step = 4 then s
        else if s.replOk ∨ s.own = ownReady ∨ s.own = ownReclaim then
          (s.mapTwin fun w => { w with step := 2, stepTime := s.timeBase }).issueStepB
        else
          let s := s.loseTakeover.setBit Reg.TWN_ERR 9 true
          s.partnerPlots.foldl (fun s p => s.event Src.twin 5 (detail 9 p 0)) s
      else (if s.own = ownHolding ∨ s.own = ownReady ∨ s.own = ownReclaim then s.fencePlots else s).setPart partLost)

/-- The partner's storage key goes into slot 9 (R481). -/
def State.takeStorageKey (s : State) : State :=
  s.cipher.blobs.foldl (fun s b =>
    match s.openBlob b.2 with
    | some r => if beAt r 2 2 = 0 then s.mapCipher fun c => { c with slots := sput c.slots 9 (keyOfRecord r) } else s
    | none => s) s

/-- The keys of the adopted plots go into their slots, and their groups are allotted (R481). -/
def State.takePlotKeys (s : State) (plots : List Nat) : State :=
  s.cipher.blobs.foldl (fun s b =>
    match s.openBlob b.2 with
    | some r =>
      if beAt r 2 2 ∈ plots then
        let slot := beAt r 0 2
        (s.mapCipher fun c => { c with slots := sput c.slots slot (keyOfRecord r) }).setReg (Reg.CPH_ALLOT + 4 * (slot / 16))
          (BitVec.ofNat 32 (2 ^ 31 + beAt r 2 2))
      else s
    | none => s) s

/-- Furrow goes on with the partner's destages (R516): those whose records it holds RUNNING are placed where they
were, and every other record is cleared. -/
def State.takeDestage (s : State) : State :=
  let l := s.furrow.partOps.filter fun r => leAt r.2 10 1 = 1 ∧ leAt r.2 11 1 = 1
  s.mapFurrow fun w =>
    { w with partOps := [], partDest := true
             partPlaced := l.map fun r => (leAt r.2 16 8, leAt r.2 28 8, leAt r.2 0 8) }

/-- Step B completes: LEASEWAIT, the partner's storage key, its destages re-driven by Furrow (R172, R481,
R516). -/
def execTakeoverStepBDone (t : Nat) (ok : Bool) (s : State) : Ans :=
  let s := s.advance t
  .next (if s.safe ∨ s.twin.step ≠ 2 then s
    else
      let s := (s.mapTwin fun w => { w with step := 0 }).endArb arbStepB
      if ok then
        let s := s.takeStorageKey.takeDestage.setPart partLeaseWait
        s.mapTwin fun w => { w with waitEnd := s.timeBase + s.leaseNs + 2000 }
      else s.loseTakeover.setBit Reg.TWN_ERR 5 true)

/-- LEASEWAIT ends (R172). -/
def execLeasewaitExpire (t : Nat) (s : State) : Ans :=
  let s := s.advance t
  .next (if s.part = partLeaseWait ∧ s.twin.waitEnd ≤ s.timeBase ∧ !s.safe then s.setPart partAdopt else s)

/-- One round of announcements of a plot's addresses on both ports (R175). -/
def State.announceOnce (s : State) (plot : Nat) : State :=
  match s.plot plot with
  | none => s
  | some x => (x.desc.addr6 ++ x.desc.addr4).foldl (fun s a =>
      (s.sendFrame 0 0 (.announce 0 plot a)).sendFrame 1 0 (.announce 1 plot a)) s

/-- A plot's addresses move to this device (R175). -/
def State.moveAddresses (s : State) (plot : Nat) : State :=
  let s := s.announceOnce plot
  let n := s.fld Reg.TWN_MOVE 3 0
  if n ≤ 1 then s
  else s.mapTwin fun w => { w with announces := (w.announces.filter fun a => a.plot ≠ plot) ++
    [{ plot := plot, left := n - 1, next := s.time + s.fld Reg.TWN_MOVE 15 8 * 100000 }] }

/-- The next announcement of a plot's addresses (R175). -/
def execAddressAnnounce (t plot : Nat) (s : State) : Ans :=
  let s := s.advance t
  .next (match s.twin.announces.find? fun a => a.plot = plot with
    | some a =>
      if a.next ≤ s.time ∧ !s.safe then
        let s := s.announceOnce plot
        let rest := s.twin.announces.filter fun x => x.plot ≠ plot
        s.mapTwin fun w => { w with announces :=
          if a.left ≤ 1 then rest
          else rest ++ [{ a with left := a.left - 1, next := a.next + s.fld Reg.TWN_MOVE 15 8 * 100000 }] }
      else s
    | none => s)

/-- Adoption is complete once the applier has applied every acknowledged sheaf (R153, R172, R175, R177, R481): the
partner's plots exist here; a returning device has its own plots (R183). SERVING begins at the next tick. -/
def execAdoptComplete (s : State) : Ans :=
  .next (if s.part ≠ partAdopt ∨ s.safe ∨ s.nextToApply.isSome ∨ s.twin.step = 3 then s
    else
      let back := decide (s.own = ownReady ∨ s.own = ownReclaim)
      let s := if s.replOk then s.twin.copies.foldl (fun s c => s.plotFromCopy false c.2) s else s
      let ps := s.adoptedPlots
      let s := s.takePlotKeys ps
      let moved := ps ++ (if back then s.ownPlots else [])
      let s := moved.foldl State.moveAddresses s
      let s := if back then s.setOwn ownHolding else s
      s.mapTwin fun w => { w with step := 3, adopted := w.adopted ++ moved.map fun p => (p, s.time) })

/-! ## Storage renewals -/

/-- A booting device may go on as the holder: its partner's last heartbeat has no HOLDS_YOURS, or none came within
TAKEOVER ticks (R178). -/
def State.mayHold (s : State) : Bool :=
  if s.twin.hbSeen then !s.twin.partHolds else decide (s.fld Reg.TWN_HB 7 0 ≤ s.twin.ticksUp)

/-- A Reservation Report shows this device as holder (R167, R170). A booting device restores its plots at step 8 of its
boot, once the journal engine is READY (R178, R548). -/
def State.reportOwn (s : State) (issued : Nat) : State :=
  let s := s.renewLease issued
  if s.furrow.restore.isSome then s
  else if s.own = ownFencedSt then
    let s := s.setOwn ownHolding
    if s.leaseValid then
      s.mapTick fun t => { t with rollback := t.rollback.map fun r => if r.cause = .lease then { r with cleared := true } else r }
    else s
  else if s.own = ownStarting ∧ s.paired ∧ s.boot.stage = some 8 ∧ s.bit Reg.JNL_STATUS 0 ∧ s.mayHold then s.startRestore
  else s

/-- The restore of R514 has ended on a booting device that is paired: its plots are its own (R178). -/
def State.bootRestored (s : State) : State :=
  if s.own = ownStarting ∧ s.paired ∧ s.furrow.restore.isNone then
    let s := (s.setOwn ownHolding).setPart partPairing
    if s.twin.hbSeen then s.startReceive.startCopy
    else (s.mapTwin fun w => { w with step := 4, stepTime := s.timeBase }).issueStepA
  else s

/-- It shows another holder, the partner in `mine` (R169, R170, R186; the example after R176 for PART). -/
def State.reportOther (s : State) (mine : Bool) : State :=
  let s := s.setBit Reg.TWN_ERR 4 true
  if s.own = ownHolding then
    let s := s.fencePlots
    if s.paired ∧ partFallow ≤ s.part ∧ s.part ≤ partAcquire then s.setPart partLost else s
  else if s.own = ownFencedSt ∧ mine then s.taken
  else s

/-- A Reservation Report completes (R167 to R170). -/
def execReservationReportDone (t issued : Nat) (holder : Option Nat) (s : State) : Ans :=
  let s := s.advance t
  .next (if s.safe ∨ issued ∉ s.twin.reports then s
    else
      let s := (s.mapTwin fun w => { w with reports := w.reports.erase issued }).endArb arbReport
      match holder with
      | some d => if d = s.devId then s.reportOwn issued else s.reportOther (s.paired && d == s.partnerId)
      | none => s)

/-! ## Rebuild and return -/

/-- The read of the next chunk completes, and the chunk leaves on a mirror link (R179, R180). -/
def execRebuildChunkRead (s : State) : Ans :=
  .next (match s.copyPhase with
    | none => s
    | some phase =>
      if s.safe ∨ s.tick.rollback.isSome then s
      else
        let i := if phase = 1 then s.twin.cursor1 else s.twin.cursor2
        let base := if phase = 1 then s.reg64 Reg.JNL_REPL_BASE_LO else s.reg64 Reg.JNL_LIVE_BASE_LO
        let data := s.bytes (base + i * 2 ^ 20) (2 ^ 20)
        let s := s.sendChunk phase i data
        let s := s.mapTwin fun w =>
          { w with cursor1 := if phase = 1 then i + 1 else w.cursor1, cursor2 := if phase = 1 then w.cursor2 else i + 1
                   chunks := w.chunks ++ [(phase * 2 ^ 32 + i, s.epoch)] }
        s.showCopy)

/-- A chunk arrives and is written: phase 1 into the live region, phase 2 into the replica (R179, R180). -/
def execRebuild (phase chunk : Nat) (bytes : List Byte) (s : State) : Ans :=
  .next (if s.safe ∨ !s.paired ∨ (phase ≠ 1 ∧ phase ≠ 2) then s
    else if phase = 1 ∧ s.own ≠ ownRebuilding then s
    else if phase = 2 ∧ s.replOk then s
    else
      let base := if phase = 1 then s.reg64 Reg.JNL_LIVE_BASE_LO else s.reg64 Reg.JNL_REPL_BASE_LO
      s.agentStore (base + chunk * 2 ^ 20) (bytes.take (2 ^ 20)))

/-- The seal-complete notice with both cursors (R150, R180): phase 1 complete makes OWN READY, phase 2 complete
REPLOK and the registration on the partner's namespace. -/
def execSealCompleteNotice (epoch cursor1 cursor2 : Nat) (s : State) : Ans :=
  .next (if s.safe ∨ !s.paired then s
    else
      let s := s.sealNotice epoch
      let s := if s.own = ownRebuilding ∨ !s.replOk then s.mapTwin fun w => { w with recv1 := cursor1, recv2 := cursor2 } else s
      let s := if s.own = ownRebuilding ∧ 1024 * s.fld Reg.JNL_REGION 28 16 ≤ cursor1 then s.setOwn ownReady else s
      if !s.replOk ∧ 1024 * s.fld Reg.JNL_REGION 12 0 ≤ cursor2 ∧ s.own ≠ ownRebuilding ∧ s.own ≠ ownTaken then
        let s := s.setBit Reg.TWN_STATUS 3 true
        (if s.part = partPairing then s.setPart partFallow else s).issueRegister
      else s)

/-- RETURN is set when R181 allows it. -/
def State.tryReturn (s : State) (now : Bool) : State :=
  if s.own = ownReady ∧ !s.twin.returning ∧ (now ∨ (s.bit Reg.TWN_RETURN 31 ∧ !s.bit Reg.TWN_CTRL 1 ∧
      (s.twin.holdStart.any fun h => h + s.fld Reg.TWN_RETURN 11 0 * 1000000000 ≤ s.timeBase))) then
    s.mapTwin fun w => { w with returning := true }
  else s

def execHoldoffExpire (t : Nat) (s : State) : Ans :=
  let s := s.advance t
  .next (if s.safe then s else s.tryReturn false)

/-- A write of 1 to TWN_CTRL.RETURN_NOW: RETURN at once while OWN is READY, else BADW (R181, R186). -/
def State.returnNowOp (s : State) : State := if s.own = ownReady then s.tryReturn true else s.badw Reg.TWN_CTRL

def execReturnNow (m : Master) (s : State) : Ans :=
  .next (if s.writesReg m Reg.TWN_CTRL then s.returnNowOp else s)

/-- The survivor's hand-back notice (R182, step 4): every sheaf up to M applied, the own namespace acquired, the
addresses moved. -/
def execHandbackNotice (epoch : Nat) (s : State) : Ans :=
  .next (if s.safe ∨ !s.twin.returning ∨ s.own ≠ ownReady then s
    else
      let hs := (s.journal.sheaves.filter fun h => h.kind = .partner ∧ !h.applied ∧ !h.zeroed ∧ h.epoch ≤ epoch).mergeSort
        fun a b => a.epoch ≤ b.epoch
      let s := hs.foldl State.applySheaf s
      let s := s.ownPlots.foldl State.moveAddresses s.issueAcquire
      let s := s.setReg64 Reg.TWN_HANDEPOCH_LO epoch
      (s.setOwn ownReclaim).mapTwin fun w => { w with handBack := some { epoch := epoch, step := 4 }, returning := false })

/-- The reservation commands of a return have completed: the Releases of step 3 on the survivor, the Acquire of
step 4 on the returning device (R182). -/
def State.returnStored (s : State) (what : Nat) : State :=
  match s.twin.handBack with
  | some h =>
    if what = arbRelease ∧ h.step = 3 then
      let s := s.setReg64 Reg.TWN_HANDEPOCH_LO h.epoch
      let s := s.mirrorSend wfTwinNotice (beBytes 1 tnHandback ++ beBytes 8 h.epoch)
      s.mapTwin fun w => { w with handBack := some { h with step := 4 } }
    else if what = arbAcquire ∧ s.own = ownReclaim ∧ h.step = 4 then
      s.mapTwin fun w => { w with handBack := some { h with step := 5 } }
    else s
  | none => s

/-! ## Mirrored copies -/

/-- The tag of a command that waits for the partner: its plot, queue and slot. -/
def FwCmd.tag (c : FwCmd) : Nat := (c.plot * 65536 + c.queue) * 2 ^ 32 + c.slotNo % 2 ^ 32

/-- The partner confirms a mirrored copy: its command takes effect (R161). The Steward answers it when it is run
again. -/
def State.mirrorConfirmed (s : State) (tag : Nat) : State :=
  if s.twin.mirrors.any fun m => m.tag = tag then
    let s := s.mapTwin fun w => { w with mirrors := w.mirrors.filter fun m => m.tag ≠ tag }
    s.mapSteward fun k => { k with cmds := k.cmds.map fun c => if c.tag = tag then { c with stage := .confirmed } else c }
  else s

def execDescMirrorConfirm (tag : Nat) (s : State) : Ans := .next (s.mirrorConfirmed tag)

/-! ## A tick -/

/-- A missed tick (R166), and what a run of them does to PART and to HB_LOST (R186). -/
def State.missTick (s : State) : State :=
  let seen := s.bit Reg.TWN_STATUS 1 || s.bit Reg.TWN_STATUS 2
  let s := (s.setBit Reg.TWN_STATUS 1 false).setBit Reg.TWN_STATUS 2 false
  if seen ∨ !s.twin.hbSeen then s
  else
    let s := (s.countFld Reg.TWN_STATUS 23 16 1).count Reg.TWN_CNT_MISS 1
    let s := if s.fld Reg.TWN_HB 7 0 ≤ s.missRun then s.setBit Reg.TWN_ERR 2 true else s
    if s.part = partFallow then s.setPart partSuspect else s

/-- A Reservation Report is due at this tick (R168). -/
def State.renewDue (s : State) : Bool :=
  decide (s.fld Reg.TWN_HB 15 8 ≤ s.missRun) || decide (partAcquire ≤ s.part ∧ s.part ≤ partLost) ||
  decide (s.reg64 Reg.TCK_TICKCNT_LO % 1024 = 0)

/-- The other device of a return is lost (R183); the returning device's own plots then come from storage (R514),
which a restore reads. -/
def State.returnFails (s : State) : State :=
  if s.missRun < s.fld Reg.TWN_HB 7 0 then s
  else if s.own = ownRebuilding then
    let s := ((s.setOwn ownFencedSt).setPart partLost).setBit Reg.TWN_ERR 8 true
    (s.mapTwin fun w => { w with holdStart := none }).startRestore
  else if (s.own = ownReady ∨ s.own = ownReclaim) ∧ s.part ≤ partSuspect then s.setBit Reg.TWN_ERR 8 true
  else if s.part = partSupply then
    let s := (s.setPart partServing).setBit Reg.TWN_ERR 8 true
    (s.mapTwin fun w => { w with step := 4, stepTime := s.timeBase, handBack := none }).issueStepA
  else if s.part = partHandback then
    if s.twin.handBack.any fun h => h.step < 4 then
      let s := (s.setPart partServing).setBit Reg.TWN_ERR 8 true
      (s.mapTwin fun w => { w with step := 4, stepTime := s.timeBase, handBack := none }).issueStepA
    else (s.endServing.setPart partFallow).setBit Reg.TWN_ERR 8 true
  else s

/-- A takeover starts at this tick: at once on the senior, after the added delay on the junior (R171). -/
def State.startTakeover (s : State) : State :=
  if !s.mayTakeOver then s
  else if s.senior then s.enterAcquire
  else s.mapTwin fun w => { w with juniorFrom := w.juniorFrom.or (some s.timeBase) }

/-- Adoption ended before this tick: SERVING (R172). -/
def State.startServing (s : State) : State :=
  if s.part = partAdopt ∧ s.twin.step = 3 then
    let s := s.setPart (if s.adoptedPlots.isEmpty ∧ !s.replOk then partLost else partServing)
    let s := s.setReg64 Reg.TWN_HANDEPOCH_LO (s.reg64 Reg.JNL_APPLIED_LO)
    (s.count Reg.TWN_CNT_TAKEOVER 1).mapTwin fun w => { w with step := 0 }
  else s

/-- The tick after RECLAIM and its Acquire (R182, step 5; R177). -/
def State.endReclaim (s : State) : State :=
  if s.own = ownReclaim ∧ (s.twin.handBack.any fun h => h.step = 5) then
    let s := (s.setOwn ownHolding).count Reg.TWN_CNT_RETURN 1
    s.mapTwin fun w => { w with handBack := none, holdStart := none, adopted := s.ownPlots.map fun p => (p, s.time) }
  else s

/-- A booting paired device that hears no partner within TAKEOVER ticks asks storage (R178). -/
def State.bootAlone (s : State) : State :=
  if s.own = ownStarting ∧ s.paired then
    let s := s.mapTwin fun w => { w with ticksUp := w.ticksUp + 1 }
    if !s.twin.hbSeen ∧ s.fld Reg.TWN_HB 7 0 ≤ s.twin.ticksUp ∧ s.twin.reports.isEmpty then s.issueReport else s
  else s

/-- What every tick does in twin control (R55). -/
def State.twinTick (s : State) : State :=
  if !s.paired then
    if s.bit Reg.TWN_CFG 0 ∧ s.reg64 Reg.TCK_TICKCNT_LO % 1024 = 0 then s.issueReport else s
  else
    let s := s.missTick.returnFails.startTakeover
    let s := (s.startServing.endReclaim.bootAlone).tryReturn false
    let s := if s.renewDue then s.issueReport else s
    s.sendHeartbeat

/-- PART goes to NONE at a closing tick after TWIN_UNPAIR (R185): TWN_CFG, slot 8, the sheaf keys derived from it and the
copies kept for the partner go (R140, R480, R481). -/
def State.unpair (s : State) : State :=
  let s := (s.setPart partNone).setBit Reg.TWN_STATUS 3 false
  let s := (s.setReg Reg.TWN_CFG 0).setNoPartner
  let s := s.mapMram fun m => { m with twinCfg := 0, twinBlob := zeros m.twinBlob.length }
  let s := s.mapCipher fun c => { c with slots := sdel c.slots 8, blobs := [] }
  let s := s.forgetSheafKeys
  let s := s.mapTwin fun w => { w with unpairNext := false, copies := [], hbSeen := false, partSeq := none }
  s.mapJournal fun j => { j with partRef := none }

/-- The states of PART that TWIN_UNPAIR leaves (R185). -/
def State.mayUnpair (s : State) : Bool := decide (s.part = partFallow ∨ s.part = partServing ∨ s.part = partLost)

/-- What a tick that closes epoch M does in twin control: the first mirrored epoch (R164, R179), step 1 of the
hand-back (R182), unpairing (R185). -/
def State.twinClose (s : State) (epoch : Nat) : State :=
  let s := if s.twin.mirrorNext then
      (s.setBit Reg.TWN_STATUS 5 false).mapTwin fun w => { w with mirrorNext := false }
    else s
  let s := match s.twin.handBack with
    | some h =>
      if h.epoch = epoch ∧ h.step = 0 ∧ s.part = partSupply then
        let ps := s.adoptedPlots
        let s := (s.setPart partHandback).endPlots ps .reset
        let drop (q : QPair) : QPair :=
          if q.plot ∈ ps then { q with slots := q.slots.filter fun x => x.sstate = SState.dispatched ∨ x.sstate = SState.done } else q
        let s := s.mapPlots fun p => { p with qpairs := p.qpairs.map drop }
        s.mapTwin fun w => { w with handBack := some { h with step := 1 } }
      else s
    | none => s
  if s.twin.unpairNext then
    (if s.mayUnpair then s.unpair else s.mapTwin fun w => { w with unpairNext := false })
  else s

end Sys2Proof.Machine
end

