-- ==== Sys2Proof/Machine/Tick.lean ====
section
/-! DEFINITION. The tick (chapter 2): its sources (R44 to R50, R82 to R85), what a tick does (R51 to R55, R72 to
R75, R79), the epoch reservation (R53), and what other blocks do once per tick. -/

namespace Sys2Proof.Machine

open Sys2Proof

/-! ## Sources -/

/-- TCK_SRC.SEL (R44). -/
def State.tickSel (s : State) : Nat := s.fld Reg.TCK_SRC 1 0

/-- Ticks come from the time base: the internal source, or holdover (R44, R48). -/
def State.holdover (s : State) : Bool := s.bit Reg.TCK_STATUS 3

/-- The period in force and the acceptance window, in ns. -/
def State.periodNs (s : State) : Nat := s.tick.period * 1000
def State.windowNs (s : State) : Nat := s.fld Reg.TCK_SRC 15 8 * 10

/-- When the next tick is expected, in the time base (R40, R44, R47). -/
def State.expected (s : State) : Nat := s.tick.lastTick + s.periodNs

/-- Ticks follow the external source: out of holdover, and in it from the first tick of a run that ends it (R48). -/
def State.follows (s : State) : Bool := !s.holdover || decide (0 < s.tick.extRun)

/-- An external tick within its window is counted; eight in a row end holdover (R48). -/
def State.acceptedTick (s : State) : State :=
  if !s.holdover then s
  else
    let n := s.tick.extRun + 1
    if n < 8 then s.mapTick fun t => { t with extRun := n }
    else (s.mapTick fun t => { t with extRun := 0 }).setBit Reg.TCK_STATUS 3 false

/-- An external tick that would fall at a time of the time base (R47 to R49): accepted within its window, where it makes
the tick, and once; ignored with EARLY_EDGE before it. In holdover one that comes within the window of the tick that the
time base has just made is the first of a run: the source makes no second tick (R49), and the next is expected a period
after it (log entry 36). -/
def State.externalTick (s : State) (at_ : Nat) : State :=
  if s.expected - s.windowNs ≤ at_ ∧ at_ ≤ s.expected + s.windowNs then
    if s.tick.sched.isSome then s else s.acceptedTick.mapTick fun t => { t with sched := some at_ }
  else if s.holdover ∧ s.tick.extRun = 0 ∧ !s.tick.closed ∧ s.tick.sched.isNone ∧ at_ ≤ s.tick.lastTick + s.windowNs then
    s.acceptedTick.mapTick fun t => { t with lastTick := at_ }
  else if at_ < s.expected then s.errEvent Reg.TCK_ERR 2 Src.tick 0 noPlot 0
  else s

/-- A rising edge on TICK_IN: its tick falls 60 ns later (R44, R47). Where the tick does not claim the ball, it is a pulse
per second by which the PTP clock may steer (R46, R199). -/
def execTickInEdge (t : Nat) (s : State) : Ans :=
  let s := s.advance t
  .next (if s.tickSel = 1 then s.externalTick (s.timeBase + 60)
    else if s.bit Reg.PAD_FUNC 0 ∧ !s.safe then s.steer
    else s)

/-- The time base is aligned to the root's through a symbol (R83, R85): the root sent it 8 µs before its tick, and
it spent the delay of the uplink on the way (log entry 19). The first alignment takes the whole difference, and the
time since the last tick stays; each later one, of which a tick has one, takes at most 100 ns (log entry 116). -/
def State.align (s : State) (carried : Nat) : State :=
  let want : Int := (s.time : Int) - ((carried : Int) - 8000 + (s.reg Reg.TCK_LINKDLY).toNat)
  let step := want - s.tick.base
  if s.tick.symbol.isSome then s
  else if s.tick.aligned then s.mapTick fun t => { t with base := t.base + max (-100) (min 100 step) }
  else s.mapTick fun t => { t with base := want, lastTick := ((t.lastTick : Int) - step).toNat, aligned := true }

/-- A tick symbol leaves on every link below (R82, R529). -/
def State.sendSymbol (s : State) (body : List Byte) : State :=
  (List.range 6).foldl (fun s l =>
    if s.bit Reg.WFT_TICKCFG l && s.linkUp l then s.sendFlit l flitTick false body else s) s

/-- A tick symbol arrives on the uplink (R82, R83, R529): it is forwarded (the count and the ID in it, which
the row does not report, are free values), the time base aligned, and its tick falls when the time base reaches the value
carried. -/
def execTickSymbol (t link carried : Nat) (s : State) : Ans :=
  let s := s.advance t
  .next (if s.tickSel ≠ 2 ∨ link ≠ s.fld Reg.TCK_SRC 6 4 ∨ !s.linkUp link then s
    else
      let s := if s.safe then s else (s.sendSymbol (tickBody carried (s.free % 2 ^ 64) (s.free / 2 ^ 64 % 1024))).drawn
      let s := (s.align carried).mapTick fun t => { t with symbol := some carried }
      s.externalTick carried)

/-- The root sends the symbol of its next tick 8 µs before it (R82, R529). -/
def execTickSymbolSend (t : Nat) (s : State) : Ans :=
  let s := s.advance t
  .next (if s.tickSel ≠ 2 ∧ s.expected ≤ s.timeBase + 8000 ∧ s.tick.symbol.isNone ∧ !s.safe then
    let v := s.expected
    (s.mapTick fun t => { t with symbol := some v }).sendSymbol (tickBody v (s.reg64 Reg.TCK_TICKCNT_LO + 1) s.devId)
  else s)

/-- The delay of the uplink is due for a measurement: none since the link came up, or 1,024 ticks ago (R83). -/
def State.delayDue (s : State) : Bool :=
  match s.weft.delayTick with
  | none => true
  | some n => decide (n + 1024 ≤ s.reg64 Reg.TCK_TICKCNT_LO)

/-- The round trip of the uplink, halved (R83). -/
def execLinkDelayMeasure (roundTrip : Nat) (s : State) : Ans :=
  .next (if s.tickSel = 2 ∧ s.linkUp (s.fld Reg.TCK_SRC 6 4) ∧ s.delayDue then
    (s.setFld Reg.TCK_LINKDLY 15 0 (min 65535 (roundTrip / 2))).mapWeft fun w => { w with delayTick := some (s.reg64 Reg.TCK_TICKCNT_LO) }
  else s)

/-! ## TICK_OUT -/

/-- The ball rises at a tick (R50). -/
def State.tickOutRise (s : State) : State :=
  if s.bit Reg.TCK_TOUT 0 then
    s.mapTick fun t => { t with tickOut := true, tickOutEnd := s.timeBase + s.fld Reg.TCK_TOUT 15 8 * 10 }
  else s

def execTickOutEnd (t : Nat) (s : State) : Ans :=
  let s := s.advance t
  .next (if s.tick.tickOut ∧ s.tick.tickOutEnd ≤ s.timeBase ∧ s.bit Reg.TCK_TOUT 0 then
    s.mapTick fun t => { t with tickOut := false } else s)

/-- The pulse-per-second output drives the ball high for 100 µs when it has it (R50, R631). -/
def execPpsOut (t : Nat) (rise : Bool) (s : State) : Ans :=
  let s := s.advance t
  .next (if s.bit Reg.TCK_TOUT 0 ∨ !s.bit Reg.PAD_FUNC 1 ∨ s.bit Reg.PAD_STATUS 1 then s
    else if rise then s.mapTick fun t => { t with tickOut := true, ppsEnd := s.time + 100000 }
    else if s.tick.ppsEnd ≤ s.time then s.mapTick fun t => { t with tickOut := false }
    else s)

/-! ## The epoch reservation -/

/-- The reservation value that the boot finds: the larger of the copies whose CRC holds, 1 in an area that is all
zero (R53). -/
def State.storedResv (s : State) : Option Nat :=
  if !s.mram.resvUsed then some 1
  else match s.mram.resvA, s.mram.resvB with
    | some a, some b => some (max a b)
    | some a, none => some a
    | none, b => b

/-- A new reservation starts to be written (R53). -/
def State.reserve (s : State) (v : Nat) : State :=
  if s.tick.resvWrite.isSome then s else s.mapTick fun t => { t with resvWrite := some v }

/-- The write completes: both copies hold the new value, which is in force (R53). -/
def execReservationWritten (s : State) : Ans :=
  .next (match s.tick.resvWrite with
    | some v =>
      (s.mapMram fun m => { m with resvA := some v, resvB := some v, resvUsed := true }).mapTick
        fun t => { t with resv := v, resvWrite := none }
    | none => s)

/-! ## Epochs -/

/-- An epoch opens (R51, R104, R130). -/
def State.openEpoch (s : State) (e : Nat) : State :=
  let s := s.setReg64 Reg.TCK_EPOCH_LO e
  let s := s.mapTick fun t => { t with epochOpen := true, openTime := s.timeBase }
  let s := s.mapJournal fun j => { j with undo := j.undo ++ [{ epoch := e, recs := [] }] }
  let s := s.mapSower fun w => { w with nextSeq := 0 }
  if s.tick.resv ≤ e + 65536 then s.reserve (s.tick.resv + 2 ^ 20) else s

/-- The preconditions of the first admission of a boot (R33, R34, R120, R144, R178, R249). -/
def State.mayAdmit (s : State) : Bool :=
  s.boot.running && (s.fuses.lifecycle == 1 || s.fuses.lifecycle == 2) &&
  (allPairs.all fun p => !s.pooled p || s.bit (pairReg Reg.CLS_UCCTRL p) 31) && s.bit Reg.JNL_STATUS 0 && s.stakesReady && s.bit Reg.PLT_STATUS 0 && !s.safe &&
  decide (s.own ≠ ownStarting)

/-- A pair owes a close marker for the epoch that a tick closes (R58). -/
def State.owesMarker (s : State) (p : Nat) : Bool :=
  let c := clusterOf p
  s.role p != roleUntested && s.role p != roleRetired &&
  !s.bit Reg.PCK_CLSPWRSTAT (12 + c) && !s.bit Reg.PCK_CLSPWRSTAT c

/-- The tick reaches the units: those that execute find it at their next boundary; the others' pairs, and split cores,
send their markers at once (R56, R58). -/
def State.tickUnits (s : State) (e : Nat) : State :=
  allUnits.foldl (fun s u =>
    let x := s.unit u
    if x.run && !x.halted && !s.isSplit (pairOf u) then s.mapUnit u fun x => { x with latch := { x.latch with tick := some e } } else s) s

/-- The pairs with a unit that the tick still has to be presented to, or whose work moves to a spare. -/
def State.pairsOwing (s : State) : List Nat :=
  allPairs.filter fun p => s.owesMarker p &&
    ((unitsOfPair p).any (fun u => (s.unit u).latch.tick.isSome) || (s.pair p).takeover.isSome)

/-- The clusters that owe a write-back to the seal of an epoch (R60, R411). -/
def State.clustersOwing (s : State) (e : Nat) (pairs : List Nat) : List Nat :=
  allClusters.filter fun c =>
    (s.cluster c).lines.any (fun l => l.mark = some e) || s.markPending c e || pairs.any fun p => clusterOf p = c

/-- A tick closes the open epoch (R54, R57, R58, R70, R75). -/
def State.closeEpoch (s : State) : State :=
  let e := s.epoch
  let open_ := s.tick.openTime
  let s := (s.setFld Reg.TCK_STATUS 31 28 0).tickUnits e
  let owed := s.pairsOwing
  let z : Seal :=
    { epoch := e, openTime := open_, closeTime := s.timeBase, period := s.tick.period, owed := owed, cutoff := false
      wbOwed := s.clustersOwing e owed, hashDone := false, macDone := false, acked := false, solo := false, span := false
      voted := false, late := false }
  let s := s.mapTick fun t => { t with sealing := some z }
  ((s.openEpoch (e + 1)).twinClose e).trySeal.tryCutOff

/-- A tick that closes nothing while a seal or a rollback is under way (R72, R73, R79). -/
def State.skipTick (s : State) : State :=
  let s := (s.count Reg.TCK_CNT_SKIP 1).countFld Reg.TCK_STATUS 31 28 1
  match s.tick.sealing with
  | some z =>
    if z.late then s
    else
      let s := s.mapSeal fun z => { z with late := true }
      let s := ((s.setBit Reg.TCK_STATUS 4 true).count Reg.TCK_CNT_LATE 1).mapTick fun t => { t with goodSeals := 0 }
      s.errEvent Reg.TCK_ERR 4 Src.tick 0 noPlot (z.epoch % 4096)
  | none => s

/-- The cause of a rollback is cleared (R79). -/
def State.rbCleared (s : State) (r : Rollback) : Bool :=
  match r.cause with
  | .lease => s.own == ownHolding && s.leaseValid
  | _ => r.cleared

/-- Admission opens again after a rollback (R75, R78, R79). -/
def State.reopen (s : State) (r : Rollback) : State :=
  let s := (s.setBit Reg.TCK_STATUS 5 false).setBit Reg.TCK_STATUS 2 true
  let s := s.setFld Reg.TCK_STATUS 31 28 0
  (s.mapTick fun t => { t with rollback := none, afterRb := true }).openEpoch r.next

/-- The first admission of a boot: the reservation is written first, and the next tick opens epoch V (R53). -/
def State.firstAdmission (s : State) : State :=
  if !s.mayAdmit then s
  else if s.tick.resv = 0 then
    match s.storedResv with
    | some v => s.reserve (v + 2 ^ 20)
    | none => s
  else
    let s := (s.setBit Reg.TCK_STATUS 2 true).setFld Reg.SWD_BOOTSTAT 31 28 9
    (s.mapTick fun t => { t with admitted := true }).openEpoch (s.tick.resv - 2 ^ 20)

/-- What a tick does to epochs. In device safe state no epoch closes and none opens (R588); an epoch opens only below
the reservation in force (R53). -/
def State.epochTick (s : State) : State :=
  if s.safe then s
  else if !s.tick.admitted then s.firstAdmission
  else match s.tick.rollback with
    | some r => if r.restored ∧ s.rbCleared r ∧ r.next < s.tick.resv then s.reopen r else s.skipTick
    | none =>
      if s.tick.sealing.isSome ∨ s.tick.resv ≤ s.epoch + 1 then s.skipTick else s.closeEpoch

/-! ## Once per tick -/

/-- The metrics of a tick (R592). -/
def State.tickSamples (s : State) : State :=
  let s := s.sample 0x08 0 (s.areaFree / 2 ^ 20)
  let s := s.sample 0x0D 0 s.almanac.corr
  let s := (List.range 6).foldl (fun s l => s.sample 0x0E l (sget (fun _ => 0) s.almanac.replays l)) s
  s.mapAlmanac fun a => { a with corr := 0, replays := [] }

/-- A plot's descriptor change takes effect (R224, R243). -/
def State.applyDescs (s : State) : State :=
  s.mapPlots fun p => { p with plots := p.plots.map fun x =>
    match x.2.next with
    | some d => (x.1, { x.2 with desc := { d with state := x.2.desc.state }, next := none })
    | none => x }

/-- SOW_CFG and the reservations of pairs are taken over (R241, R250). -/
def State.sowerTick (s : State) : State :=
  let resv := (allPairs.filter fun p => s.bit (Reg.SOW_PAIR + 4 * p) 2).map fun p => (p, s.fld (Reg.SOW_PAIR + 4 * p) 1 0)
  (s.mapSower fun w => { w with cfg := (s.reg Reg.SOW_CFG).toNat, resv := resv }).accrue

/-- A unit is idle with its stores drained, and its latch holds nothing but a tick (R378, R380). -/
def State.idleUnit (s : State) (u : Nat) : Bool :=
  let x := s.unit u
  x.txn.isNone && !x.run && s.drained u && x.latch.mcheck.isNone && x.latch.ends.isEmpty &&
  !x.latch.engine && !x.latch.doorbell && !x.latch.halt

/-- A pair's role becomes RETIRED: its cause; its reservation goes; it owes no marker (R58, R376). -/
def State.setRetired (s : State) (p cause : Nat) : State :=
  let s := (s.setRole p roleRetired).setFld (pairReg Reg.CLS_PAIRSTAT p) 11 8 cause
  let s := s.setReg (Reg.SOW_PAIR + 4 * p) 0
  s.markerIn p

/-- MRAM holds a pair retired in service with its cause (R375). -/
def State.recordRetired (s : State) (p cause : Nat) : State :=
  s.mapMram fun m => { m with retired := sput m.retired p cause }

/-- A pair is retired in service with an event of a class; `kind` is the bit of CLS_PAIRERRn that the event
names (R372, R375, R579). -/
def State.retirePair (s : State) (p cause cls kind : Nat) : State :=
  ((s.setRetired p cause).recordRetired p cause).event p cls (detail kind noPlot 0)

/-- What a tick does to the roles of a pair (R377, R378, R380). -/
def State.roleTick (s : State) (p : Nat) : State :=
  let r := s.role p
  let both := s.idleUnit (2 * p) && s.idleUnit (2 * p + 1)
  if r = roleReleasing ∧ both then (s.setRole p roleSpare).setReg (Reg.SOW_PAIR + 4 * p) 0
  else if r = roleSpare ∧ (s.pair p).toActive then (s.setRole p roleActive).mapPair p fun x => { x with toActive := false }
  else if r = roleSplitting ∧ both then
    (s.setRole p roleSplit).setBit (Reg.SOW_PAIR + 4 * p) 4 true
  else if r = roleRejoining ∧ both then
    let s := (s.setBit (Reg.SOW_PAIR + 4 * p) 4 false).mapUnit (2 * p + 1) fun _ => CoreUnit.reset
    if (s.pair p).selfFail then (s.retirePair p 3 3 3).mapPair p fun x => { x with selfFail := false }
    else s.setRole p roleActive
  else s

/-- The engine accounts of the Thresher accrue (R459). -/
def State.thresherTick (s : State) : State :=
  let online := 8 - s.thresher.offline.length
  s.servedPlots.foldl (fun s p =>
    let add := s.shareOf p * online * s.periodNs / 1024
    let cap := s.fld Reg.THR_CFG 11 8 * add
    s.mapThresher fun h =>
      { h with credit := sset (fun _ => (0 : Int)) h.credit p (clampCredit (sget (fun _ => (0 : Int)) h.credit p + (add : Int)) cap) }) s

/-- A tick occurs now (R42, R54, R55), `closed` where it falls at the close of its window (R48). Share credit is added
after the epoch's part, so that the first skipped tick is throttled already (R73, R74). -/
def State.tickNow (s : State) (closed : Bool := false) : State :=
  let s := s.setReg64 Reg.TCK_TICKCNT_LO (s.reg64 Reg.TCK_TICKCNT_LO + 1)
  let s := s.tickSamples
  let s := s.mapTick fun t =>
    { t with lastTick := s.timeBase, period := s.fld Reg.TCK_PERIOD 7 0, sched := none, symbol := none, closed := closed }
  let s := s.tickOutRise
  let s := allPairs.foldl State.roleTick s
  let s := if s.safe then s else s.twinTick
  let s := s.epochTick.applyDescs.sowerTick.thresherTick
  s.ringTick.gather

/-- A tick is due: the time base has counted a period, or the scheduled time of an external tick has come (R44,
R48). -/
def State.tickDue (s : State) : Bool :=
  !s.held && match s.tick.sched with
  | some x => decide (x ≤ s.timeBase)
  | none => (s.tickSel == 0 || s.tickSel == 3 || !s.follows) && decide (s.expected ≤ s.timeBase)

def execTick (t : Nat) (s : State) : Ans :=
  let s := s.advance t
  .next (if s.tickDue then s.tickNow else s)

/-- Holdover is entered, with SRC_LOST and its event (R48). In holdover a run of external ticks ends. -/
def State.enterHoldover (s : State) : State :=
  if s.holdover then s.mapTick fun t => { t with extRun := 0 }
  else ((s.setBit Reg.TCK_STATUS 3 true).mapTick fun t => { t with extRun := 0 }).errEvent Reg.TCK_ERR 1 Src.tick 0 noPlot 0

/-- The window closes without an external tick: the block makes the tick and enters holdover (R48). -/
def execTickWindowClose (t : Nat) (s : State) : Ans :=
  let s := s.advance t
  .next (if (s.tickSel = 1 ∨ s.tickSel = 2) ∧ s.follows ∧ s.tick.sched.isNone ∧ s.expected + s.windowNs ≤ s.timeBase ∧ !s.held then
    s.enterHoldover.tickNow true
  else s)

end Sys2Proof.Machine
end

