-- ==== Sys2Proof/Machine/Pairs.lean ====
section
/-! DEFINITION. Core pairs: the control store and its loading (R334 to R342, R353, R354), retry (R364 to R369),
the move of work to a spare and the death of a leader (R370 to R375), the reservation of a pair (R241). A
retirement of the model is a compared one, so the checkpoint of R359 is the state of the unit itself: a retry
discards nothing. -/

namespace Sys2Proof.Machine

open Sys2Proof

/-! ## The control store -/

/-- A cluster is powering up (R614). -/
def State.poweringUp (s : State) (c : Nat) : Bool := s.power.powering.lookup c == some true

/-- BADW of the CLS block of a pair. -/
def State.clsBadw (s : State) (p : Nat) : State := s.badw (pairReg Reg.CLS_UCCTRL p)

/-- The control store of a pair is locked (R341). -/
def State.ucLocked (s : State) (p : Nat) : Bool := s.bit (pairReg Reg.CLS_UCCTRL p) 31

/-- CLEAR: every microword invalid, address 0, CRC at its initial value, COUNT 0 (R339, R353). -/
def State.clearUcode (s : State) (p : Nat) : State :=
  if s.ucLocked p then s.clsBadw p
  else
    let s := s.mapPair p fun x => { x with words := [] }
    let s := (s.setReg (pairReg Reg.CLS_UCADDR p) 0).setReg (pairReg Reg.CLS_UCCRC p) 0xFFFFFFFF#32
    s.setFld (pairReg Reg.CLS_UCSTAT p) 13 0 0

/-- A microword that the load port refuses: UEND with IEND, a reserved COND, a nonzero bit in [44:32], or a
nonzero bit of CLS_UCWDn above the word (R337, R340, R353). -/
def badWord (w : BitVec 112) (top : Nat) : Bool :=
  let v := w.toNat
  (v.testBit 92 && v.testBit 91) || decide (0xB ≤ v / 2 ^ 95 % 16 ∧ v / 2 ^ 95 % 16 ≤ 0xE) ||
  decide (v / 2 ^ 32 % 2 ^ 13 ≠ 0) || decide (top ≠ 0)

/-- A write of CLS_UCWDn commits the word at the address, or is refused (R340, R341, R353). -/
def State.commitWord (s : State) (p : Nat) (v : Word) : State :=
  if s.ucLocked p then s.clsBadw p
  else
    let addr := s.fld (pairReg Reg.CLS_UCADDR p) 13 0
    let n := (s.reg (pairReg Reg.CLS_UCWA p)).toNat + 2 ^ 32 * (s.reg (pairReg Reg.CLS_UCWB p)).toNat +
      2 ^ 64 * (s.reg (pairReg Reg.CLS_UCWC p)).toNat + 2 ^ 96 * (v.toNat % 2 ^ 16)
    let w := BitVec.ofNat 112 n
    if 0x1FFF < addr ∨ badWord w (v.toNat / 2 ^ 16) then s.setBit (pairReg Reg.CLS_UCSTAT p) 16 true
    else
      let s := s.mapPair p fun x => { x with words := sput x.words addr w }
      let s := s.setFld (pairReg Reg.CLS_UCADDR p) 13 0 (addr + 1)
      let s := s.setReg (pairReg Reg.CLS_UCCRC p) (crc32c (s.reg (pairReg Reg.CLS_UCCRC p)) (leBytes 14 n))
      s.setFld (pairReg Reg.CLS_UCSTAT p) 13 0 (min 8192 (s.fld (pairReg Reg.CLS_UCSTAT p) 13 0 + 1))

/-- The address of the microword after one, with the value of its condition (R337). -/
def microNext (w : BitVec 112) (cond : Bool) : Nat :=
  let next := w.toNat / 2 ^ 99
  if w.toNat / 2 ^ 95 % 16 = 0 then next else 2 * (next / 2) + cond.toNat

/-- The length of a microword in CCLK (R336). -/
def microCycles (w : BitVec 112) : Nat := w.toNat / 2 ^ 93 % 4 + 1

/-- LOCK and its copy in CLS_UCSTATn. -/
def State.setUcLock (s : State) (p : Nat) (v : Bool) : State :=
  (s.setBit (pairReg Reg.CLS_UCCTRL p) 31 v).setBit (pairReg Reg.CLS_UCSTAT p) 31 v

/-- A reload has verified: a pair whose work had moved becomes a spare; class 2 (R342). After a power-up no
role changes (R614). -/
def State.reloaded (s : State) (p : Nat) : State :=
  let was := (s.pair p).reload
  let s := s.mapPair p fun x => { x with reload := false, loads := 0 }
  if !was then s
  else
    let s := if s.role p = roleRetired then
        (s.setRole p roleSpare).setFld (pairReg Reg.CLS_PAIRSTAT p) 11 8 0
      else s
    s.event p 2 (detail noKind noPlot 0)

/-- A load has failed its checks: it is made once more, and a second failure retires the pair (R339, R342). -/
def State.reloadFailed (s : State) (p : Nat) : State :=
  let x := s.pair p
  if !x.reload ∧ !s.poweringUp (clusterOf p) then s
  else if x.loads = 0 then s.mapPair p fun x => { x with loads := 1 }
  else (s.mapPair p fun x => { x with reload := false, loads := 0 }).retirePair p 4 3 noKind

/-- LOCK: the first after device reset latches the reference CRC; a later one must meet it, with no bad word
(R341). -/
def State.lockUcode (s : State) (p : Nat) : State :=
  if s.ucLocked p then s
  else
    let crc := s.reg (pairReg Reg.CLS_UCCRC p)
    match (s.pair p).refCrc with
    | none =>
      let s := s.mapPair p fun x => { x with refCrc := some crc }
      (s.setUcLock p true).setBit (pairReg Reg.CLS_UCSTAT p) 30 true
    | some r =>
      if crc = r ∧ !s.bit (pairReg Reg.CLS_UCSTAT p) 16 then (s.setUcLock p true).reloaded p
      else (s.clsBadw p).reloadFailed p

/-- UNLOCK: only while the pair is stopped for a reload or its cluster powers up (R341). -/
def State.unlockUcode (s : State) (p : Nat) : State :=
  if (s.pair p).reload ∨ s.poweringUp (clusterOf p) then s.setUcLock p false else s.clsBadw p

/-- Words written through the load port one after another from address 0; a bad one is not written (R339, R340). -/
def State.writeWords (s : State) (p : Nat) (ws : List (List Byte)) : State :=
  let l := ws.map fun b => (BitVec.ofNat 112 (leNat (b.take 14)), b.take 14)
  let good := l.filter fun w => !badWord w.1 0
  let last := leNat ((ws.getLastD []).take 14)
  let crc := good.foldl (fun c w => crc32c c w.2) 0xFFFFFFFF#32
  let s := s.mapPair p fun x => { x with words := (List.range good.length).zip (good.map (·.1)) }
  let s := (s.setFld (pairReg Reg.CLS_UCADDR p) 13 0 good.length).setReg (pairReg Reg.CLS_UCCRC p) crc
  let s := s.setFld (pairReg Reg.CLS_UCSTAT p) 13 0 good.length
  let s := [Reg.CLS_UCWA, Reg.CLS_UCWB, Reg.CLS_UCWC, Reg.CLS_UCWD].zipIdx.foldl (fun s r =>
    s.setReg (pairReg r.1 p) (BitVec.ofNat 32 (last / 2 ^ (32 * r.2)))) s
  if good.length < l.length then s.setBit (pairReg Reg.CLS_UCSTAT p) 16 true else s

/-- The 16-byte entries of the body of a microcode image (R338). -/
def ucodeEntries (img : List Byte) : List (List Byte) := (List.range (leAt img 12 4)).map fun k => slice img (64 + 16 * k) 16

/-- The Steward loads a pair from an image; the store is locked when the load meets the image (R339, R354). -/
def State.loadPair (s : State) (p : Nat) (img : List Byte) : State :=
  let s := (s.clearUcode p).writeWords p (ucodeEntries img)
  let crc := (s.reg (pairReg Reg.CLS_UCCRC p) ^^^ 0xFFFFFFFF#32).toNat
  if s.fld (pairReg Reg.CLS_UCSTAT p) 13 0 = leAt img 12 4 ∧ crc = leAt img 16 4 ∧ !s.bit (pairReg Reg.CLS_UCSTAT p) 16 then
    s.lockUcode p
  else s.reloadFailed p

/-- A reload from the image that firmware keeps, made once more when it fails (R339, R341, R614). -/
def State.reloadPair (s : State) (p : Nat) : State :=
  let s := (s.unlockUcode p).loadPair p s.boot.ucode
  if s.ucLocked p ∨ s.role p = 4 then s else s.loadPair p s.boot.ucode

/-- A command on a pair's control-store port by a master (R341, R353). -/
def State.ucPort (s : State) (m : Master) (base p : Nat) (f : State → State) : State :=
  if p < 96 ∧ s.writesReg m (pairReg base p) then f s else s

def execUcClear (m : Master) (pair : Nat) (s : State) : Ans :=
  .next (s.ucPort m Reg.CLS_UCCTRL pair fun s => s.clearUcode pair)
def execUcWordCommit (m : Master) (pair : Nat) (v : Word) (s : State) : Ans :=
  .next (s.ucPort m Reg.CLS_UCWD pair fun s => s.commitWord pair v)
def execUcLock (m : Master) (pair : Nat) (s : State) : Ans :=
  .next (s.ucPort m Reg.CLS_UCCTRL pair fun s => s.lockUcode pair)
def execUcUnlock (m : Master) (pair : Nat) (s : State) : Ans :=
  .next (s.ucPort m Reg.CLS_UCCTRL pair fun s => s.unlockUcode pair)

/-! ## The work of a pair -/

/-- A pair runs unsplit and is checked (R364, R381). -/
def State.checked (s : State) (p : Nat) : Bool :=
  let r := s.role p
  decide (p < 96) && (r == roleActive || r == roleSplitting || r == roleReleasing) && (s.pair p).takeover.isNone &&
  !(s.pair p).reload && !s.safe

/-- A pair runs as two units (R379, R381). -/
def State.runsSplit (s : State) (p : Nat) : Bool :=
  let r := s.role p
  decide (p < 96) && (r == roleSplit || r == roleRejoining) && !(s.pair p).reload && !s.safe

/-- The captured stores of a transaction that have not reached the device are dropped; its before-images
cover their lines. -/
def State.dropCaptured (s : State) (u slot : Nat) : State :=
  let keep (b : BufStore) : Bool := !(b.kind == .journal && b.slot == some slot)
  let s := s.mapUnit u fun x => { x with stores := x.stores.filter keep }
  let s := s.mapPair (pairOf u) fun x => { x with stores := x.stores.filter keep }
  s.mapCluster (clusterOf (pairOf u)) fun x => { x with stores := x.stores.filter keep }

/-- The transaction of a unit is aborted as by a wound and dispatched again with its age; other work is
discarded and the unit is idle (R342, R369, R374). -/
def State.abortUnit (s : State) (u : Nat) : State :=
  match (s.unit u).txn with
  | some slot => (s.dropCaptured u slot).abortRedo u
  | none => s.freeUp u

/-- A pair that a takeover under way has chosen. -/
def State.chosen (s : State) (p : Nat) : Bool :=
  s.pairs.any fun x => (x.2.takeover.map fun t => t.spare == p).getD false

/-- A pair may be chosen as the spare of a takeover (R371, R613). -/
def State.mayBeSpare (s : State) (p : Nat) : Bool :=
  let c := clusterOf p
  s.role p == roleSpare && !(s.pair p).toActive && !(s.pair p).reload && !s.chosen p &&
  !s.bit Reg.PCK_CLSPWRSTAT c && !s.bit Reg.PCK_CLSPWRSTAT (12 + c)

/-- The clusters in the order of R371: the own one, then by distance, the lower number first. -/
def clustersNear (c : Nat) : List Nat :=
  c :: (List.range 12).flatMap fun d =>
    (if d = 0 then [] else (if d ≤ c then [c - d] else []) ++ (if c + d < 12 then [c + d] else []))

/-- The spare that the Sower chooses (R371). -/
def State.chooseSpare (s : State) (p : Nat) : Option Nat :=
  (clustersNear (clusterOf p)).findSome? fun c =>
    ((List.range 8).map (8 * c + ·)).find? fun q => q != p && s.mayBeSpare q

/-- Causes of retirement (R385). -/
def causePersist : Nat := 2
def causeSelfchk : Nat := 3
def causeUcode : Nat := 4
def causeLeader : Nat := 5
def causeNospare : Nat := 6

/-- The bit of CLS_PAIRERRn that goes with a cause. -/
def causeBit (cause : Nat) : Nat :=
  if cause = causePersist then 4 else if cause = causeSelfchk then 3 else noKind

/-- A takeover finds no spare: the work ends here and the pair is retired (R374). -/
def State.noSpare (s : State) (p : Nat) : State :=
  let s := s.abortUnit (2 * p)
  let s := s.mapPair p fun x => { x with takeover := none }
  (s.setBit (pairReg Reg.CLS_PAIRERR p) 6 true).retirePair p causeNospare 3 6

/-- A takeover starts, or goes on to another spare (R370 to R372, R375). -/
def State.beginTakeover (s : State) (p cause began : Nat) : State :=
  let s := s.mapPair p fun x => { x with takeover := none }
  match s.chooseSpare p with
  | none => s.noSpare p
  | some q => s.mapPair p fun x => { x with takeover := some { spare := q, step := 2, cause := cause, began := began } }

/-! ## The move (R372) -/

/-- The bytes and poison of a range of n bytes copied to another place. -/
def State.moveBytes (s : State) (src dst n : Nat) : State :=
  let cs := s.mem.cells.filter fun c => src ≤ c.1 ∧ c.1 < src + n
  let ps := s.mem.poison.filter fun g => src ≤ 8 * g ∧ 8 * g < src + n
  let s := s.mapMem fun m => { m with cells := m.cells.filter fun c => !(decide (dst ≤ c.1 ∧ c.1 < dst + n)) }
  let s := cs.foldl (fun s c => s.setByte (c.1 - src + dst) c.2) (s.clearPoison dst n)
  ps.foldl (fun s g => s.setPoison (8 * g - src + dst) 8) s

/-- What is addressed to the unit of the failed pair goes to the spare's (R372, step 3). -/
def State.rebind (s : State) (u v : Nat) : State :=
  let swap (x : Nat) : Nat := if x = u then v else x
  let s := s.mapSower fun w => { w with slots := w.slots.map fun t => { t with unit := t.unit.map swap } }
  let s := s.mapJournal fun j => { j with waits := j.waits.map fun w => { w with unit := swap w.unit } }
  let s := s.mapWeft fun w =>
    { w with reqs := w.reqs.map (fun r => { r with unit := swap r.unit })
             spans := w.spans.map fun p => { p with unit := swap p.unit } }
  s.mapFurrow fun f => { f with ops := f.ops.map fun o => { o with unit := o.unit.map swap } }

/-- The checkpoint, the latch, the capture area and the pair area go to the spare; the load link only within
the cluster (R372, steps 4 and 5). -/
def State.moveUnit (s : State) (p q : Nat) : State :=
  let x := s.unit (2 * p)
  let x := if clusterOf p = clusterOf q then x else { x with arch := { x.arch with link := none } }
  let s := s.moveBytes (s.pairArea (2 * p)) (s.pairArea (2 * q)) 0x8000
  let s := s.moveBytes (s.capEntry (2 * p) 0) (s.capEntry (2 * q) 0) 0x10000
  ((s.setUnit (2 * q) x).setUnit (2 * p) CoreUnit.reset).rebind (2 * p) (2 * q)

/-- The close marker that the failed pair owes is sent by the spare (R375). -/
def State.moveMarker (s : State) (p q : Nat) : State :=
  s.mapSeal fun z =>
    if p ∈ z.owed then { z with owed := q :: z.owed.filter fun n => n ≠ p ∧ n ≠ q } else z

/-- CLS_MOVEn of both pairs (R385). -/
def State.noteMove (s : State) (p q : Nat) : State :=
  (s.setReg (pairReg Reg.CLS_MOVE p) (BitVec.ofNat 32 (2 ^ 31 + q))).setReg (pairReg Reg.CLS_MOVE q)
    (BitVec.ofNat 32 (2 ^ 31 + 2 ^ 30 + p))

/-- The reservation goes to the spare, which takes the place of the failed pair in its pool (R372, step 6). -/
def State.movePlace (s : State) (p q : Nat) : State :=
  let s := s.setReg (Reg.SOW_PAIR + 4 * q) (BitVec.ofNat 32 (s.fld (Reg.SOW_PAIR + 4 * p) 2 0))
  (s.setRole q roleActive).mapSower fun w =>
    { w with resv := w.resv.map fun r => if r.1 = p then (q, r.2) else r }

/-- The failed pair at step 6: retired with its cause; one with a control-store error waits for its reload
without an event of its own (R342, R372). -/
def State.putAside (s : State) (p cause : Nat) : State :=
  if cause = causeUcode then s.setRetired p cause else s.retirePair p cause 3 (causeBit cause)

/-- The spare resumes: once the stores of the failed pair have drained (R372). -/
def execSpareResume (t pair : Nat) (s : State) : Ans :=
  let s := s.advance t
  .next (match (s.pair pair).takeover with
    | none => s
    | some k =>
      if !s.drained (2 * pair) ∨ s.safe then s
      else if s.role k.spare ≠ roleSpare then s.beginTakeover pair k.cause k.began
      else
        let s := s.mapPair pair fun x => { x with takeover := none, cleanRun := 0 }
        let s := (s.moveUnit pair k.spare).moveMarker pair k.spare
        (((s.movePlace pair k.spare).noteMove pair k.spare).putAside pair k.cause))

/-! ## A dead leader (R373) -/

/-- The leader of a pair is dead: its undrained stores are lost, every unsealed epoch rolls back, the pair is
retired, and a spare takes its place in its pool at the next tick. -/
def State.leaderDead (s : State) (p : Nat) : State :=
  let spare := s.chooseSpare p
  let s := s.mapPair p fun x => { x with takeover := none }
  let s := (unitsOfPair p).foldl (fun s u => (s.mapUnit u fun x => { x with stores := [] }).abortUnit u) s
  let s := match spare with
    | some q =>
      let s := s.setReg (Reg.SOW_PAIR + 4 * q) (BitVec.ofNat 32 (s.fld (Reg.SOW_PAIR + 4 * p) 2 0))
      s.mapPair q fun x => { x with toActive := true }
    | none => s
  let s := (s.setBit (pairReg Reg.CLS_PAIRERR p) 5 true).retirePair p causeLeader 4 5
  s.failOldest .other

/-- 2 µs have passed since the detection and the compared stores have not drained (R373). -/
def execLeaderDrainTimeout (t pair : Nat) (s : State) : Ans :=
  let s := s.advance t
  .next (match (s.pair pair).takeover with
    | some k => if k.began + 2000 < s.time ∧ !s.drained (2 * pair) ∧ !s.safe then s.leaderDead pair else s
    | none => s)

/-- The monitor of a core's clock branch reports loss (R373, R617). -/
def execCoreClockBranchLoss (pair : Nat) (s : State) : Ans :=
  .next (if pair < 96 ∧ (s.checked pair ∨ s.runsSplit pair ∨ (s.pair pair).takeover.isSome) ∧ !s.safe then
    s.leaderDead pair else s)

/-! ## Retry (R364 to R369) -/

/-- The bit of CLS_PAIRERRn of an error (R385). -/
def errBit : PairError → Nat
  | .coreParity _ => 0 | .mismatch _ => 1 | .delayParity => 2 | .selfCheck => 3 | .storeBuffer => 5

/-- CLS_MISGRPn after an error (R385). -/
def errGroup : PairError → Nat
  | .mismatch g => 0x80 + g % 64
  | _ => 0xC0

/-- The count and the record of an error of R364 (R385). -/
def State.noteError (s : State) (p : Nat) (e : PairError) : State :=
  let s := s.setBit (pairReg Reg.CLS_PAIRERR p) (errBit e) true
  (s.setReg (pairReg Reg.CLS_MISGRP p) (BitVec.ofNat 32 (errGroup e))).count (pairReg Reg.CLS_CNT_MIS p) 1

/-- A parity error of a split core: its transaction ends as by a wound, or it becomes idle; class 2 (R369). It is an
error of R364 for the count and the record of R385 (log entry 87). -/
def State.splitError (s : State) (u : Nat) : State :=
  ((s.abortUnit u).noteError (pairOf u) (.coreParity (coreOf u))).event (pairOf u) 2 (detail 0 noPlot (coreOf u))

/-- An error of a checked pair: a retry, or the third of a run a takeover (R364, R366). -/
def State.retryPair (s : State) (p : Nat) (e : PairError) : State :=
  let s := s.noteError p e
  let n := s.fld (pairReg Reg.CLS_PAIRSTAT p) 17 16
  let s := s.mapPair p fun x => { x with cleanRun := 0 }
  if n < 2 then
    let s := (s.setFld (pairReg Reg.CLS_PAIRSTAT p) 17 16 (n + 1)).count (pairReg Reg.CLS_CNT_RETRY p) 1
    s.event p 2 (detail (errBit e) noPlot 0)
  else (s.setBit (pairReg Reg.CLS_PAIRERR p) 4 true).beginTakeover p causePersist s.time

/-- The spare of a takeover fails before it resumes: it is retired and the takeover takes the next (R375). -/
def State.spareFails (s : State) (q : Nat) (e : PairError) : State :=
  let cause := if e = .selfCheck then causeSelfchk else causePersist
  let s := (s.setBit (pairReg Reg.CLS_PAIRERR q) (causeBit cause) true).retirePair q cause 3 (causeBit cause)
  match s.pairs.find? fun x => (x.2.takeover.map fun t => t.spare == q).getD false with
  | some x => (x.2.takeover.map fun k => s.beginTakeover x.1 k.cause k.began).getD s
  | none => s

/-- The Steward pair, which has no spare (R384). -/
def State.stewardError (s : State) (e : PairError) : State :=
  if e = .selfCheck ∨ 2 ≤ s.steward.retries then s.event Src.steward 6 (detail noKind noPlot 0)
  else (s.mapSteward fun w => { w with retries := w.retries + 1 }).event Src.steward 2 (detail noKind noPlot 0)

/-- An error that the machinery of a pair detects (R364 to R370, R380, R384), and the uncorrectable error of the
leader's store buffer (R373). -/
def execInstructionRetry (pair : Nat) (e : PairError) (s : State) : Ans :=
  .next (
    if pair = 96 then (if s.safe then s else s.stewardError e)
    else if s.chosen pair then (if s.safe then s else s.spareFails pair e)
    else if s.checked pair then
      match e with
      | .selfCheck => (s.setBit (pairReg Reg.CLS_PAIRERR pair) 3 true).beginTakeover pair causeSelfchk s.time
      | .storeBuffer => s.leaderDead pair
      | _ => s.retryPair pair e
    else if s.runsSplit pair then
      match e with
      | .selfCheck => (s.setBit (pairReg Reg.CLS_PAIRERR pair) 3 true).mapPair pair fun x => { x with selfFail := true }
      | .coreParity c => s.splitError (2 * pair + c % 2)
      | _ => s
    else s)

def execSplitCoreParity (u : Nat) (s : State) : Ans :=
  .next (if s.runsSplit (pairOf u) then s.splitError u else s)

/-! ## Errors in the control store (R342) -/

/-- An uncorrectable control-store error stops the pair. -/
def State.ucodeError (s : State) (p : Nat) : State :=
  let s := s.setBit (pairReg Reg.CLS_UCSTAT p) 17 true
  let halt (s : State) : State := s.mapPair p fun x => { x with reload := true, loads := 0 }
  if s.checked p then
    let s := s.beginTakeover p causeUcode s.time
    if (s.pair p).takeover.isSome then halt s else s
  else if s.runsSplit p then halt ((s.abortUnit (2 * p)).abortUnit (2 * p + 1))
  else if s.role p = roleSpare then halt (s.setRetired p causeUcode)
  else s

/-- The scrubber or a fetch finds bits in error in a microword. -/
def execUcScrub (pair addr bad : Nat) (s : State) : Ans :=
  .next (
    if 96 ≤ pair ∨ 0x1FFF < addr ∨ bad = 0 then s
    else if bad = 1 then (s.count (pairReg Reg.CLS_UCCNT pair) 1).event pair 1 (detail noKind noPlot 0)
    else s.ucodeError pair)

/-! ## Reservations (R241) -/

/-- A write of SOW_PAIRn. -/
def State.writeSowPair (s : State) (p : Nat) (v : Word) : State :=
  if s.role p = roleSpare ∨ s.role p = roleRetired then s.badw (Reg.SOW_PAIR + 4 * p)
  else s.writeFields (Reg.SOW_PAIR + 4 * p) v

def execSowPairWrite (m : Master) (pair : Nat) (v : Word) (s : State) : Ans :=
  .next (if !s.writesReg m (Reg.SOW_PAIR + 4 * pair) then s
    else if 96 ≤ pair then s.badw (Reg.SOW_PAIR + 4 * pair)
    else s.writeSowPair pair v)

end Sys2Proof.Machine
end

