-- ==== Sys2Proof/Machine/Steward.lean ====
section
/-! DEFINITION. Command packets (chapter 8): the checks of R260 with the parameter types of R254 and R255, the
Sower's check of a submission and its look into the request index (R147, R261), the hand-over of
firmware-interpreted commands to the Steward and their order (R268 to R270), replies and their parts (R257, R258),
the wait for the partner's confirmation (R161), NOP and CONTINUE. -/

namespace Sys2Proof.Machine

open Sys2Proof

/-! ## Parameter types (R255) -/

def pArg : Nat := 0x01
def pPlotnum : Nat := 0x02
def pQueuenum : Nat := 0x03
def pShare : Nat := 0x04
def pUrgmax : Nat := 0x05
def pClasses : Nat := 0x06
def pQmax : Nat := 0x07
def pPflags : Nat := 0x08
def pAddr6 : Nat := 0x09
def pAddr4 : Nat := 0x0A
def pSrcpfx : Nat := 0x0B
def pSpace : Nat := 0x0C
def pQcfg : Nat := 0x0D
def pLspace : Nat := 0x0E
def pOffset : Nat := 0x0F
def pData : Nat := 0x10
def pLibent : Nat := 0x11
def pRegaddr : Nat := 0x12
def pRegval : Nat := 0x13
def pCount : Nat := 0x14
def pIndex : Nat := 0x15
def pHandle : Nat := 0x16
def pPartner : Nat := 0x17
def pLinks : Nat := 0x18
def pPairgen : Nat := 0x19
def pWrapped : Nat := 0x1A
def pSlot : Nat := 0x1B
def pSa : Nat := 0x1C
def pPairnum : Nat := 0x1D
def pRclass : Nat := 0x1E
def pLcstate : Nat := 0x1F
def pSig : Nat := 0x20
def pNonce : Nat := 0x21
def pTickcfg : Nat := 0x22
def pPathcfg : Nat := 0x23
def pAuth : Nat := 0x24
def pMode : Nat := 0x25

/-- A value has a length that its type allows (R255); the variable ones any. -/
def paramLen (type n : Nat) : Bool :=
  match type with
  | 0x01 => decide (n ≤ 4096) | 0x02 => n == 2 | 0x03 => n == 2 | 0x04 => n == 2 | 0x05 => n == 1 | 0x06 => n == 1
  | 0x07 => n == 2 | 0x08 => n == 1 | 0x09 => n == 16 | 0x0A => n == 4 | 0x0B => n == 20 | 0x0C => n == 20
  | 0x0D => n == 4 | 0x0E => n == 1 | 0x0F => n == 4 | 0x10 => decide (1 ≤ n ∧ n ≤ 8192) | 0x11 => n == 8
  | 0x12 => n == 4 | 0x13 => n == 4 | 0x14 => n == 2 | 0x15 => n == 8 | 0x16 => n == 8 | 0x17 => n == 2 | 0x18 => n == 2
  | 0x19 => n == 4 | 0x1A => decide (16 ≤ n ∧ n ≤ 520) | 0x1B => n == 2 | 0x1C => n == 28 | 0x1D => n == 1
  | 0x1E => n == 1 | 0x1F => n == 1 | 0x20 => n == 96 | 0x21 => n == 48 | 0x22 => n == 4 | 0x23 => true | 0x24 => true
  | 0x25 => n == 1 | _ => false

/-- A source prefix is well formed (R226). -/
def srcPfxOk (v : List Byte) : Bool :=
  let len := beAt v 16 1
  let family := beAt v 17 1
  beAt v 18 2 == 0 &&
  ((family == 6 && decide (len ≤ 128)) ||
    (family == 4 && decide (len ≤ 32) && v.take 12 == zeros 10 ++ [0xFF, 0xFF]))

/-- A value lies in its permitted range (R255); the ranges that depend on a state are the commands' own. -/
def paramRange (type : Nat) (v : List Byte) : Bool :=
  let n := beNat v
  match type with
  | 0x02 => decide (1 ≤ n ∧ n ≤ 4095)
  | 0x03 => decide (n ≤ 1023)
  | 0x04 => decide (n ≤ 1024)
  | 0x05 => decide (n ≤ 96)
  | 0x06 => decide (n < 16)
  | 0x07 => decide (n ≤ 1024)
  | 0x08 => n &&& 0xF9 == 0
  | 0x0B => srcPfxOk v
  | 0x0C => beAt v 1 3 == 0
  | 0x0D =>
    decide (beAt v 0 2 ∈ [64, 128, 256, 512, 1024, 2048, 4096]) && decide (beAt v 2 1 ≤ 3) && beAt v 3 1 == 0
  | 0x11 => decide (beAt v 0 2 < 4096) && beAt v 3 1 == 0
  | 0x12 => n % 4 == 0 && decide (n < 0x1000000)
  | 0x14 => decide (1 ≤ n ∧ n ≤ 256)
  | 0x17 => decide (n < 1024)
  | 0x18 => decide (beAt v 0 1 ≤ 5 ∧ beAt v 1 1 ≤ 5)
  | 0x1B => decide (n ≤ 4095)
  | 0x1C =>
    decide (beAt v 0 1 ≤ 1) && decide (beAt v 1 1 ≤ 1) && decide (beAt v 2 1 ≤ 7) && decide (beAt v 3 1 ≤ 3)
  | 0x1D => decide (n ≤ 95)
  | 0x1E => decide (n ≤ 3) || n == 0xFF
  | 0x22 => beAt v 2 2 == 0
  | _ => true

/-! ## Opcodes (R266) -/

/-- What an opcode accepts: whether it is marked H, the required parameters, all accepted ones with how often each
may appear. -/
structure OpRow where
  hOnly  : Bool
  need   : List Nat
  accept : List (Nat × Nat)
  deriving DecidableEq, Repr

/-- A row whose parameters appear at most once each. -/
def opRow (hOnly : Bool) (need opt : List Nat) : OpRow :=
  { hOnly := hOnly, need := need, accept := (need ++ opt).map fun p => (p, 1) }

/-- Address parameters and how often they may appear. -/
def addrParams : List (Nat × Nat) := [(pAddr6, 4), (pAddr4, 4), (pSrcpfx, 8)]

/-- The rows of R266 for the Steward's opcodes. -/
def opRow? (opcode : Nat) : Option OpRow :=
  match opcode with
  | 0x02 => some (opRow false [] [])
  | 0x03 => some (opRow false [pHandle] [])
  | 0x04 => some (opRow false [] [])
  | 0x10 => some { hOnly := true, need := [pPlotnum, pShare, pQmax]
                   accept := [(pPlotnum, 1), (pShare, 1), (pQmax, 1), (pUrgmax, 1), (pClasses, 1), (pPflags, 1)] ++ addrParams }
  | 0x11 => some (opRow true [pPlotnum] [])
  | 0x12 => some (opRow true [pPlotnum] [])
  | 0x13 => some (opRow true [pPlotnum] [pShare, pUrgmax, pClasses, pQmax])
  | 0x14 => some { hOnly := true, need := [pPlotnum], accept := [(pPlotnum, 1), (pPflags, 1)] ++ addrParams }
  | 0x15 => some (opRow false [] [pPlotnum])
  | 0x16 => some (opRow true [pPlotnum, pSpace] [])
  | 0x17 => some (opRow false [pQueuenum, pQcfg] [pPlotnum])
  | 0x18 => some (opRow false [pQueuenum] [pPlotnum])
  | 0x19 => some (opRow false [pQueuenum] [pPlotnum])
  | 0x20 => some (opRow false [pLspace, pOffset, pData] [pPlotnum])
  | 0x21 => some { hOnly := false, need := [pLibent], accept := [(pPlotnum, 1), (pLibent, 64)] }
  | 0x22 => some (opRow true [pPlotnum, pOffset, pData] [pMode])
  | 0x30 => some (opRow true [pRegaddr] [pCount])
  | 0x31 => some (opRow true [pRegaddr, pRegval] [])
  | 0x38 => some (opRow false [] [pIndex])
  | 0x39 => some (opRow false [pNonce] [])
  | 0x3A => some (opRow true [] [pIndex, pCount])
  | 0x3B => some (opRow true [] [pIndex, pCount])
  | 0x3C => some (opRow true [pIndex] [])
  | 0x40 => some (opRow true [pPartner, pLinks, pPairgen, pWrapped] [])
  | 0x41 => some (opRow true [] [])
  | 0x42 => some (opRow true [pMode] [])
  | 0x43 => some (opRow false [] [])
  | 0x48 => some (opRow true [pPairnum] [])
  | 0x49 => some (opRow true [pPairnum] [])
  | 0x4A => some (opRow true [pPairnum, pRclass] [])
  | 0x4B => some (opRow true [pPairnum, pMode] [])
  | 0x50 => some (opRow false [pSlot, pWrapped] [])
  | 0x51 => some (opRow false [pSlot] [])
  | 0x52 => some (opRow true [pSa, pSlot] [])
  | 0x53 => some (opRow true [pSa] [])
  | 0x58 => some (opRow true [pPathcfg] [])
  | 0x59 => some (opRow true [] [pIndex])
  | 0x60 => some (opRow true [pLcstate, pSig] [])
  | 0x61 => some (opRow true [pAuth] [])
  | 0x68 => some (opRow true [pTickcfg] [])
  | _ => none

/-- The values that MODE may take (R267). -/
def modeOk (opcode mode : Nat) : Bool :=
  match opcode with
  | 0x42 => decide (mode ≤ 2)
  | 0x22 => decide (mode ≤ 1)
  | 0x4B => decide (mode ≤ 1)
  | _ => true

/-! ## The checks of R260 -/

/-- The parameter of a type, as bytes and as a number in network order. -/
def FwCmd.bytes? (c : FwCmd) (type : Nat) : Option (List Byte) := c.params.lookup type
def FwCmd.all (c : FwCmd) (type : Nat) : List (List Byte) := (c.params.filter fun p => p.1 = type).map (·.2)
def FwCmd.num? (c : FwCmd) (type : Nat) : Option Nat := (c.bytes? type).map beNat
def FwCmd.num (c : FwCmd) (type : Nat) : Nat := (c.num? type).getD 0

/-- The reserved fields and the copies in the header (R251, BAD_HEADER). -/
def headerOk (plot queue : Nat) (b : List Byte) (entryZero : Bool) : Bool :=
  decide (beAt b 2 2 < 16) && beAt b 4 2 == plot && beAt b 6 2 == queue && beAt b 8 8 != 0 &&
  32 + beAt b 16 4 == b.length && (!entryZero || beAt b 20 2 == 0) && beAt b 22 10 == 0

/-- A parameter area that R254 does not call malformed. -/
def OpRow.tlvOk (r : OpRow) (ps : List (Nat × List Byte)) : Bool :=
  (ps.all fun p =>
    paramLen p.1 p.2.length &&
    decide ((ps.filter fun q => q.1 = p.1).length ≤ (r.accept.lookup p.1).getD 0)) &&
  r.need.all fun t => ps.any fun p => p.1 == t

/-- The slots from 256 on that are allotted to a plot (R478, R479). -/
def State.allotted (s : State) (plot slot : Nat) : Bool :=
  let w := s.reg (Reg.CPH_ALLOT + 4 * (slot / 16))
  decide (256 ≤ slot) && w.getLsbD 31 && bits w 11 0 == plot

/-- The control-space offsets that no packet reaches (R264): LCT and DBG, TWN_CFG and TWN_PAIRGEN. -/
def deniedReg (off : Nat) : Bool :=
  off == Reg.TWN_CFG || off == Reg.TWN_PAIRGEN || decide (0x8C0000 ≤ off ∧ off < 0x900000)

/-- The registers that a REG_READ or REG_WRITE touches. -/
def regRange (ps : List (Nat × List Byte)) : List Nat :=
  let a := beNat ((ps.lookup pRegaddr).getD [])
  let n := ((ps.lookup pCount).map beNat).getD 1
  (List.range n).map fun i => a + 4 * i

/-- Who may issue what (R263, R264, R267, R478): the check that comes before the parameter area. -/
def State.permitted (s : State) (plot opcode : Nat) (r : OpRow) (ps : List (Nat × List Byte)) : Bool :=
  (!r.hOnly || plot == 0) &&
  (plot == 0 || ((ps.lookup pPlotnum).map fun v => beNat v == plot).getD true) &&
  !((opcode == 0x30 || opcode == 0x31) && (regRange ps).any deniedReg) &&
  ((opcode != 0x50 && opcode != 0x51) ||
    ((ps.lookup pSlot).map fun v =>
      if plot = 0 then decide (256 ≤ beNat v) else s.allotted plot (beNat v)).getD true)

/-- Checks 1 to 5 of R260 on a packet of a queue: its parameters, or the status that refuses it. -/
def State.checkPacket (s : State) (plot queue : Nat) (b : List Byte) : Except Nat (List (Nat × List Byte)) :=
  let opcode := beAt b 1 1
  if beAt b 0 1 ≠ 1 then .error 0x2001
  else if !headerOk plot queue b true then .error 0x2003
  else match opRow? opcode with
    | none => .error 0x2002
    | some r =>
      let parsed := packetParams b
      if !s.permitted plot opcode r (parsed.getD []) then .error 0x3001
      else match parsed with
        | none => .error 0x2004
        | some ps =>
          if !r.tlvOk ps ∨ (opcode = 0x13 ∧ ps.length < 2) then .error 0x2004
          else if !(ps.all fun p => paramRange p.1 p.2) ∨ !modeOk opcode (beNat ((ps.lookup pMode).getD [])) ∨
              ((opcode = 0x30 ∨ opcode = 0x31) ∧ (regRange ps).any fun o => 0x910000 ≤ o) then .error 0x2005
          else .ok ps

/-! ## Submissions (R260, R261, R147) -/

/-- A lifecycle state in which the Steward accepts only four opcodes (R265). -/
def State.lifeShut (s : State) : Bool := s.fuses.lifecycle == 0 || s.fuses.lifecycle == 4

/-- The checks of a TXN_SUBMIT: the status that completes it, if any (R223, R260, R261). -/
def QPair.checkTxn (q : QPair) (x : QSlot) : Option Nat :=
  let b := x.packet
  if beAt b 0 1 ≠ 1 then some 0x2001
  else if !headerOk q.plot q.queue b false then some 0x2003
  else if q.plot = 0 then some 0x3001
  else match packetParams b with
    | none => some 0x2004
    | some ps =>
      if 1 < ps.length ∨ !(ps.all fun p => p.1 = pArg ∧ p.2.length ≤ 4096) then some 0x2004
      else if x.status ≠ 0 then some x.status
      else none

/-- A submission on the ring, answered without a dispatch. -/
def State.completeSlot (s : State) (q : QPair) (x : QSlot) (status epoch : Nat) (result : List Byte) : State :=
  s.handAll [{ plot := q.plot, queue := q.queue, slotNo := x.no, reqid := x.reqid, status := status, epoch := epoch
               result := result, cls := x.cls, arrival := x.arrival, handed := 0 }]

/-- What the request index holds for a command that is looked up in it (R147). -/
def State.lookedUp (s : State) (q : QPair) (x : QSlot) : Option (Nat × List Byte) :=
  if x.look then s.indexLookup x.reqid q.plot q.queue else none

/-- A command is answered with a status, unless the request index holds its ID: then as the original (R147, R252). -/
def State.refuseSlot (s : State) (q : QPair) (x : QSlot) (status : Nat) : State :=
  match s.lookedUp q x with
  | some r => s.completeSlot q x 0x0001 r.1 r.2
  | none => s.completeSlot q x status 0 []

/-- The Sower checks a submission on its ring; an urgent one that is treated as NORMAL sets URG_DEMOTED (R236, R250). -/
def State.checkSubmit (s : State) (q : QPair) (x : QSlot) : State :=
  match q.checkTxn x with
  | some st => s.refuseSlot q x st
  | none =>
    let cls := s.runClass q.plot x.cls
    let s := if classOf x.packet = 0 ∧ cls ≠ 0 then s.setBit Reg.SOW_ERR 3 true else s
    s.mapQpair q.plot q.queue fun q => q.mapSlot x.no fun y => { y with checked := true, cls := cls }

/-- A slot of a queue's ring. -/
def State.slotAt (s : State) (plot queue no : Nat) : Option (QPair × QSlot) :=
  (s.qpair plot queue).bind fun q => (q.slots.find? fun x => x.no = no).map fun x => (q, x)

def execTxnSubmit (plot queue slotNo : Nat) (s : State) : Ans :=
  .next (match s.slotAt plot queue slotNo with
    | some (q, x) =>
      if x.txn ∧ x.sstate = .waiting ∧ !x.checked ∧ !q.draining ∧ !s.safe then s.checkSubmit q x else s
    | none => s)

/-- The lookup in the request index: a hit answers with ALREADY_COMMITTED, a miss lets the dispatch go on (R147). -/
def execRequestIndexLookup (plot queue slotNo : Nat) (s : State) : Ans :=
  .next (match s.slotAt plot queue slotNo with
    | some (q, x) =>
      if x.txn ∧ x.sstate = .waiting ∧ x.look ∧ !q.draining ∧ !s.safe then
        match s.lookedUp q x with
        | some r => s.completeSlot q x 0x0001 r.1 r.2
        | none => s.mapQpair plot queue fun q => q.mapSlot slotNo fun y => { y with look := false }
      else s
    | none => s)

/-! ## Replies (R257, R258, R272) -/

/-- A parameter (R253). -/
def tlv (type : Nat) (v : List Byte) : List Byte := beBytes 2 type ++ beBytes 2 v.length ++ v ++ padTo 4 v.length

/-- A REGVAL parameter. -/
def regVal (w : Word) : List Byte := tlv pRegval (beBytes 4 w.toNat)

/-- Parameters packed into parts of a body: a part that is not the last leaves room for its HANDLE (R258). -/
def packParts (max : Nat) : List (List Byte) → List (List Byte)
  | [] => [[]]
  | p :: l =>
    match packParts max l with
    | [] => [p]
    | b :: rest => if p.length + b.length ≤ max then (p ++ b) :: rest else p :: b :: rest

/-- The body parts of a reply: one where everything fits (R258). -/
def bodyParts (ps : List (List Byte)) : List (List Byte) :=
  let all := ps.flatten
  if all.length ≤ 8936 then [all] else packParts 8924 ps

/-- The slot of a command is DONE and its reply is handed to Swath (R213, R234, R268). The reference in the completion entry
is a free value (log entry 145). -/
def State.finishCmd (s : State) (c : FwCmd) (status : Nat) (reply : List Byte) : State :=
  let s := s.mapSteward fun k => { k with cmds := k.cmds.filter fun d => d.tag ≠ c.tag, retries := 0 }
  match s.resetOf c.plot c.queue with
  | some _ =>
    let s := s.mapQpair c.plot c.queue fun q => q.mapSlot c.slotNo fun x => { x with sstate := .done, status := status }
    s.mapPlots fun p =>
      { p with resets := p.resets.map fun r =>
          if r.covers c.plot c.queue then
            { r with entries := r.entries ++ [{ queue := c.queue, outcome := 4, status := status, reqid := c.reqid, epoch := 0 }] }
          else r }
  | none =>
    let s := s.mapQpair c.plot c.queue fun q =>
      let q := q.mapSlot c.slotNo fun x => { x with sstate := .done, status := status, handed := true }
      let q := q.answered c.reqid status 0 false
      { q with cqHead := q.cqHead + 1, cq := q.cq ++ [{ slotNo := c.slotNo, kind := 2, pos := q.cqHead, bytes := leBytes 8 s.free }] }
    (s.drawn.sendReply c.plot c.queue reply [(c.queue, c.slotNo)]).windowsRise

/-- A reply with the parts of its body; further parts get a handle, a free value (R258). -/
def State.replyParts (s : State) (c : FwCmd) (parts : List (List Byte)) : State :=
  match parts with
  | [] => s.finishCmd c 0 (replyBytes c.opcode false 0 c.queue c.reqid [])
  | [b] => s.finishCmd c 0 (replyBytes c.opcode false 0 c.queue c.reqid b)
  | b :: rest =>
    let id := s.free % 2 ^ 64
    let s := s.drawn.mapSteward fun k =>
      { k with handles := k.handles ++
          [{ id := id, plot := c.plot, queue := c.queue, expiry := s.time + s.retainNs, opcode := c.opcode, body := rest }] }
    s.finishCmd c 0 (replyBytes c.opcode true 0 c.queue c.reqid (b ++ tlv pHandle (beBytes 8 id)))

/-- The reply OK with a body of parameters. -/
def State.replyOk (s : State) (c : FwCmd) (ps : List (List Byte)) : State := s.replyParts c (bodyParts ps)

/-- A reply with a status outside class 0x0 has an empty body (R257). INTERNAL records a class 2 event (R259). -/
def State.replyErr (s : State) (c : FwCmd) (status : Nat) : State :=
  let s := if status = 0x6001 then s.event Src.steward 2 (detail noKind c.target 0) else s
  s.finishCmd c status (replyBytes c.opcode false status c.queue c.reqid [])

/-! ## The hand-over (R242, R268 to R270) -/

/-- The next firmware-interpreted command of a queue: the oldest that waits, while none is HANDED. -/
def QPair.nextCmd (q : QPair) : Option QSlot :=
  if q.slots.any fun x => x.sstate == .handed then none
  else (q.slots.find? fun x => !x.txn && x.sstate == .waiting).bind fun x => if q.orderOk x then some x else none

/-- The command that a slot of a queue holds, with its parameters. -/
def State.cmdOf (s : State) (q : QPair) (x : QSlot) (ps : List (Nat × List Byte)) : FwCmd :=
  { plot := q.plot, queue := q.queue, slotNo := x.no, opcode := beAt x.packet 1 1, reqid := x.reqid
    target := ((ps.lookup pPlotnum).map beNat).getD q.plot, params := ps, stage := .fresh, arrival := x.arrival, since := s.time }

/-- A command is handed to the Steward; one that a check refuses is answered at once (R260), and so is a retransmission
whose ID the request index holds, whatever it carries now (R252). -/
def State.handOver (s : State) (q : QPair) (x : QSlot) : State :=
  match s.lookedUp q x with
  | some r => s.completeSlot q x 0x0001 r.1 r.2
  | none =>
  let s := s.mapQpair q.plot q.queue fun q => q.mapSlot x.no fun y => { y with sstate := .handed }
  match s.checkPacket q.plot q.queue x.packet with
  | .error st => s.replyErr (s.cmdOf q x []) st
  | .ok ps => s.mapSteward fun k => { k with cmds := k.cmds ++ [s.cmdOf q x ps] }

/-- A command that R245 refuses at once: a second reset, a change of share, queue creation or program loading for a
plot that is being reset. -/
def State.busyPlot (s : State) (c : FwCmd) : Bool :=
  decide (c.stage = .fresh) && (c.opcode ∈ [0x11, 0x12, 0x13, 0x17, 0x20, 0x21, 0x22]) &&
  (match s.plot c.target with
    | some p => p.desc.state == .resetting || p.desc.state == .destroying
    | none => false)

/-- The Steward takes a command: it has fewer than 16 in hand, or R245 refuses this one, which does not wait (R270). -/
def State.mayHand (s : State) (q : QPair) (x : QSlot) : Bool :=
  decide (s.steward.cmds.length < 16) ||
  (match s.checkPacket q.plot q.queue x.packet with
    | .ok ps => s.busyPlot (s.cmdOf q x ps)
    | .error _ => false)

def execCommandHandoff (plot queue : Nat) (s : State) : Ans :=
  .next (match s.qpair plot queue with
    | some q =>
      match q.nextCmd with
      | some x =>
        if !q.draining ∧ s.mayHand q x ∧ s.served plot ∧ !s.fenced plot ∧ !s.safe then s.handOver q x else s
      | none => s
    | none => s)

/-! ## Running a command -/

/-- An SA parameter. -/
def saOf (v : List Byte) (slot : Nat) : Sa :=
  { port := beAt v 0 1, rx := beAt v 1 1 == 1, chan := beAt v 2 1, an := beAt v 3 1, ssci := beAt v 4 4, sci := beAt v 8 8
    salt := slice v 16 12, slot := slot, pn := 1 }

/-- Two descriptions name the same SA: a port has one transmit channel (R192). -/
def Sa.same (a b : Sa) : Bool := a.port == b.port && a.rx == b.rx && a.an == b.an && (!a.rx || a.chan == b.chan)

/-- The installed SA that a command names. -/
def State.saNamed (s : State) (c : FwCmd) : Option Sa :=
  s.eth.sas.find? fun b => (saOf ((c.bytes? pSa).getD []) 0).same b

/-- The objects that R270 keeps apart. -/
inductive CmdObj where
  | none | plot (n : Nat) | slot (n : Nat) | pair (n : Nat) | twin | tick
  deriving DecidableEq, Repr

/-- The object that a register belongs to: the tick settings, twin control, a pair. -/
def regObj (off : Nat) : CmdObj :=
  if off = Reg.TCK_PERIOD ∨ off = Reg.TCK_TXBUDGET then .tick
  else if off = Reg.TWN_CTRL then .twin
  else if Reg.SOW_PAIR ≤ off ∧ off < Reg.SOW_PAIR + 4 * 96 then .pair ((off - Reg.SOW_PAIR) / 4)
  else .none

/-- The object that a command acts on (R270). -/
def State.objOf (s : State) (c : FwCmd) : CmdObj :=
  let o := c.opcode
  if 0x10 ≤ o ∧ o ≤ 0x22 then .plot c.target
  else if o = 0x31 then regObj (c.num pRegaddr)
  else if 0x40 ≤ o ∧ o ≤ 0x43 then .twin
  else if 0x48 ≤ o ∧ o ≤ 0x4B then .pair (c.num pPairnum)
  else if 0x50 ≤ o ∧ o ≤ 0x52 then .slot (c.num pSlot)
  else if o = 0x53 then
    match s.saNamed c with
    | some a => .slot a.slot
    | none => .none
  else if o = 0x68 then .tick
  else .none

/-- The order of ARRIVAL, ties as in R239 (R270). -/
def FwCmd.before (a b : FwCmd) : Bool := decide ([a.arrival, a.plot, a.queue, a.slotNo] < [b.arrival, b.plot, b.queue, b.slotNo])

/-- A reset or destruction under way whose own queues still hold commands: it does not keep them back, for it waits
for their end (R272). -/
def FwCmd.resets (c : FwCmd) (d : FwCmd) : Bool :=
  c.stage == .begun && (c.opcode == 0x11 || c.opcode == 0x12 || c.opcode == 0x18) && c.target == d.plot

/-- Another command on the same object comes first: an older one, or one that has begun or whose copy is on its way (R245,
R270). -/
def State.heldBack (s : State) (c : FwCmd) : Bool :=
  c.stage == .fresh && s.objOf c != .none &&
  s.steward.cmds.any fun d => d.tag != c.tag && s.objOf d == s.objOf c && (d.before c || d.stage != .fresh) && !d.resets c

/-- A command that a state of the lifecycle, or of its plot, refuses at once (R245, R265). -/
def State.refusal (s : State) (c : FwCmd) : Option Nat :=
  if s.lifeShut ∧ c.opcode ∉ [0x02, 0x04, 0x38, 0x60] then some 0x3002
  else if s.busyPlot c then some 0x4002
  else none

/-- A command that has waited longer than 2 s is one that cannot finish; R271 names the exceptions (log entry 146). -/
def State.tooLate (s : State) (c : FwCmd) : Bool :=
  c.stage == .begun && decide (c.since + 2000000000 < s.time) && c.opcode ∉ [0x11, 0x12, 0x18, 0x40, 0x60]

/-- How the run of a command ends: a reply, a refusal, or the command stays with the Steward. -/
inductive CmdEnd where
  | ok (s : State) (body : List (List Byte)) | err (s : State) (status : Nat) | wait (s : State)
  deriving DecidableEq, Repr

/-- A command replaced in the Steward's hands. -/
def State.setCmd (s : State) (c : FwCmd) : State :=
  s.mapSteward fun k => { k with cmds := k.cmds.map fun d => if d.tag = c.tag then c else d }

/-- A command has begun and waits for an event. -/
def State.begin (s : State) (c : FwCmd) : CmdEnd := .wait (s.setCmd { c with stage := .begun })

/-- The Steward runs the command with an opcode that a queue has handed to it. `bad` is what step 5 of R260 finds wrong with
its parameters beyond R255: it comes before the refusals of step 6. -/
def State.runChecked (s : State) (plot queue opcode : Nat) (bad : FwCmd → State → Bool) (f : FwCmd → State → CmdEnd) : State :=
  match s.steward.cmds.find? fun c => c.plot = plot ∧ c.queue = queue ∧ c.opcode = opcode with
  | none => s
  | some c =>
    if s.safe ∨ s.evral.stewHalt ∨ c.stage = .mirroring then s
    else if (s.refusal c).isNone ∧ s.heldBack c then s
    else if c.stage = .fresh ∧ bad c s then s.replyErr c 0x2005
    else match s.refusal c with
      | some st => s.replyErr c st
      | none =>
        match f c s with
        | .ok s b => s.replyOk c b
        | .err s st => s.replyErr c st
        | .wait t => if s.tooLate c then t.replyErr c 0x6001 else t

/-- A command whose parameters R255 alone judges. -/
def State.runCmd (s : State) (plot queue opcode : Nat) (f : FwCmd → State → CmdEnd) : State :=
  s.runChecked plot queue opcode (fun _ _ => false) f

/-! ## The partner's copy (R161) -/

/-- The partner must confirm a change of a plot: the device is paired and does not run without its partner, and the
plot is its own. -/
def State.mirrors (s : State) (own : Bool) : Bool := own && !s.bit Reg.TWN_STATUS 5

/-- A change made without its partner while a copy to that partner is under way: it leaves with the copy (R161). -/
def State.copyAlong (s : State) (own : Bool) (copy : List Byte) : State :=
  if own && s.bit Reg.TWN_STATUS 5 && s.twin.mirrorNext then s.mirrorSend wfState (overlay copy 1 (zeros 8)) else s

/-- A change that the partner must confirm: its copy is sent first, and the change is made once it is confirmed. -/
def State.mirrored (s : State) (c : FwCmd) (own : Bool) (copy : List Byte) (done : State → CmdEnd) : CmdEnd :=
  if c.stage = .fresh ∧ s.mirrors own then
    let s := s.mirrorSend wfState copy
    let s := s.mapTwin fun w => { w with mirrors := w.mirrors ++ [{ tag := c.tag, plot := c.target, sent := s.time }] }
    .wait (s.setCmd { c with stage := .mirroring })
  else match done s with
    | .ok s b => .ok (s.copyAlong own copy) b
    | e => e

/-- The STATE frame of a plot as it will be after a change, which names the command that waits (log entry 14). -/
def State.copyFrame (s : State) (c : FwCmd) : List Byte :=
  match s.plot c.target with
  | some x => beBytes 1 stPlot ++ beBytes 8 c.tag ++ s.plotCopy c.target x
  | none => beBytes 1 stPlotGone ++ beBytes 8 c.tag ++ beBytes 2 c.target

/-- A change of an own plot, made once the partner has its copy (R161). -/
def State.changePlot (s : State) (c : FwCmd) (f : State → State) (body : List (List Byte)) : CmdEnd :=
  let t := f s
  let own := match t.plot c.target, s.plot c.target with
    | some x, _ => x.own && c.target != 0
    | none, some x => x.own
    | none, none => false
  s.mirrored c own (t.copyFrame c) fun s => .ok (f s) body

/-- 1 ms has passed without a confirmation, its last nanosecond included (R18): the command is refused, or takes effect where NOPARTNER has become 1
(R161). -/
def execDescMirrorTimeout (t tag : Nat) (s : State) : Ans :=
  let s := s.advance t
  .next (match s.twin.mirrors.find? fun m => m.tag = tag with
    | some m =>
      if s.time ≤ m.sent + 1000000 ∨ s.safe then s
      else
        let s := s.mapTwin fun w => { w with mirrors := w.mirrors.filter fun n => n.tag ≠ tag }
        match s.steward.cmds.find? fun c => c.tag = tag with
        | some c =>
          if s.bit Reg.TWN_STATUS 5 then s.setCmd { c with stage := .confirmed }
          else (s.setBit Reg.TWN_ERR 6 true).replyErr c 0x5001
        | none => s
    | none => s)

/-! ## NOP, CONTINUE -/

def execNop (plot queue : Nat) (s : State) : Ans := .next (s.runCmd plot queue 0x02 fun _ s => .ok s [])

/-- The next part of a long body (R258). -/
def State.continueCmd (s : State) (c : FwCmd) : CmdEnd :=
  match s.steward.handles.find? fun h => h.id = c.num pHandle ∧ h.plot = c.plot ∧ h.queue = c.queue with
  | some h =>
    let s := s.mapSteward fun k => { k with handles := k.handles.filter fun g => g.id ≠ h.id ∨ g.plot ≠ h.plot ∨ g.queue ≠ h.queue }
    if h.expiry < s.time then .err s 0x4007 else .wait (s.replyParts c h.body)
  | none => .err s 0x4007

def execContCmd (plot queue : Nat) (s : State) : Ans := .next (s.runCmd plot queue 0x03 fun c s => s.continueCmd c)

end Sys2Proof.Machine
end

