-- ==== Sys2Proof/Machine/WarpNet.lean ====
section
/-! DEFINITION. Warp, the on-chip network (R433 to R452): replays and links that go down, initiator timeouts and
late responses, isolation of dead stops, the route tables. -/

namespace Sys2Proof.Machine

open Sys2Proof

/-- A flit is replayed on a link (R440); one replayed more than MAXREPLAY times takes the link down (R441). -/
def State.warpReplay (s : State) (link : Nat) (again : Bool) : State :=
  let n := if again then sget (fun _ => 0) s.warp.replays link + 1 else 1
  let s := (s.count Reg.WRP_CNT_REPLAY 1).errEvent Reg.WRP_ERR 3 Src.warp 1 noPlot link
  if s.fld Reg.WRP_LINKCFG 4 0 < n then
    let s := s.mapWarp fun w => { w with replays := sdel w.replays link }
    (s.setBit Reg.WRP_LINKDOWN link true).errEvent Reg.WRP_ERR 4 Src.warp 2 noPlot link
  else s.mapWarp fun w => { w with replays := sset (fun _ => 0) w.replays link n }

def execWarpLinkReplay (link : Nat) (again : Bool) (s : State) : Ans :=
  .next (if link < 30 ∧ !s.bit Reg.WRP_LINKDOWN link then s.warpReplay link again else s)

/-- The privileged stops (R446). -/
def privilegedStop (stop : Nat) : Bool := stop == 14 || (decide (16 ≤ stop) && decide (stop ≤ 23))

/-- A privileged stop is isolated, once (R447): its held reservations come back, class 6. -/
def State.isolate (s : State) (stop : Nat) : State :=
  if !privilegedStop stop ∨ s.bit Reg.WRP_ISO stop then s
  else
    let s := s.mapWarp fun w => { w with held := w.held.filter fun h => h.target ≠ stop }
    (s.setBit Reg.WRP_ISO stop true).errEvent Reg.WRP_ERR 6 Src.warp 6 noPlot stop

def execWarpIsolate (stop : Nat) (s : State) : Ans := .next (s.isolate stop)

/-- The timeouts of the last 1 ms that were addressed to a stop, this one among them (R446). -/
def State.recentTimeouts (s : State) (target : Nat) : Nat :=
  (s.warp.timeouts.filter fun x => x.1 = target ∧ s.time ≤ x.2 + 1000000).length

/-- An initiator timeout (R442, R443, R446): logged and counted, the reservation held, a privileged stop dead
at COUNT of them. -/
def State.warpTimedOut (s : State) (ini target addr : Nat) : State :=
  let s := s.sample 0x09 ini (s.fld Reg.WRP_TIMEOUT 7 0 * 1000)
  let s := s.logAnswer ini target .timeout 0 addr
  let s := s.count Reg.WRP_CNT_TIMEOUT 1
  let s := s.mapWarp fun w =>
    { w with held := w.held ++ [{ id := w.nextId, init := ini, target := target }], nextId := w.nextId + 1
             timeouts := (w.timeouts.filter fun x => s.time ≤ x.2 + 1000000) ++ [(target, s.time)] }
  let s := s.errEvent Reg.WRP_ERR 1 Src.warp 0 noPlot target
  if s.fld Reg.WRP_DEADCFG 3 0 ≤ s.recentTimeouts target then s.isolate target else s

/-- The timeout of a request (R442). The access of a unit raises MCHECK with WARP_ERROR on its instruction
(R294). A request to an isolated stop never times out (R447). -/
def execWarpTimeout (t ini target addr : Nat) (acc : Option UnitAccess) (s : State) : Ans :=
  let s := s.advance t
  .next (if s.bit Reg.WRP_ISO target then s
    else
      let s := s.warpTimedOut ini target addr
      match acc with
      | none => s
      | some a =>
        if s.ready a.unit then (s.takeExc a.unit (Exc.at exMcheck 2 a.sp a.ea)).boundary a.unit else s)

/-- A response arrives after its timeout: discarded, its reservation free (R444). -/
def execWarpLateResponse (id : Nat) (s : State) : Ans :=
  .next (if s.warp.held.any (fun h => h.id = id) then
    let s := s.mapWarp fun w => { w with held := w.held.filter fun h => h.id ≠ id }
    (s.count Reg.WRP_CNT_LATE 1).setBit Reg.WRP_ERR 2 true
  else s)

/-! ## Route tables -/

/-- The active generation and whether a flip is draining (R449). -/
def State.routeGen (s : State) : Nat := s.fld Reg.WRP_RTSTAT 0 0
def State.routeDraining (s : State) : Bool := s.bit Reg.WRP_RTSTAT 8

/-- A route write or flip while draining is ignored (R449). -/
def State.routeBusy (s : State) : State := (s.setBit Reg.WRP_ERR 0 true).setBit Reg.WRP_ERR 7 true

/-- FLIP (R449). -/
def State.flipRoutes (s : State) : State :=
  if s.routeDraining then s.routeBusy
  else (s.setFld Reg.WRP_RTSTAT 0 0 (1 - s.routeGen)).setBit Reg.WRP_RTSTAT 8 true

def execRouteFlip (m : Master) (s : State) : Ans :=
  .next (if s.writesReg m Reg.WRP_RTCTRL then s.flipRoutes else s)

def execRouteDrainDone (s : State) : Ans :=
  .next (if s.routeDraining then s.setBit Reg.WRP_RTSTAT 8 false else s)

/-- An entry of the route tables written. -/
def State.setRoute (s : State) (gen router dest v : Nat) : State :=
  s.mapWarp fun w =>
    { w with routes := sset (fun k => Config.resetRoute (k / 32 % 32) (k % 32) % 64) w.routes (gen * 1024 + router * 32 + dest) (v % 64) }

/-- COPY: the active table of every router goes into the inactive one (R452). -/
def State.copyRoutes (s : State) : State :=
  let g := s.routeGen
  (List.range 26).foldl (fun s r => (List.range 32).foldl (fun s d => s.setRoute (1 - g) r d (s.routeEntry g r d)) s) s

def execRouteCopy (m : Master) (s : State) : Ans :=
  .next (if s.writesReg m Reg.WRP_RTCTRL then s.copyRoutes else s)

/-- A write of WRP_RTDATA: the inactive entry that WRP_RTIDX names; the reserved port in a field leaves that field
(R14, R448, R449). -/
def State.writeRtData (s : State) (v : Word) : State :=
  if s.routeDraining then s.routeBusy
  else
    let old := s.routeEntry (1 - s.routeGen) (s.fld Reg.WRP_RTIDX 12 8) (s.fld Reg.WRP_RTIDX 4 0)
    let field (hi lo : Nat) : Nat := if bits v hi lo = 7 then old / 2 ^ lo % 8 else bits v hi lo
    let s := s.setRoute (1 - s.routeGen) (s.fld Reg.WRP_RTIDX 12 8) (s.fld Reg.WRP_RTIDX 4 0) (8 * field 5 3 + field 2 0)
    if bits v 5 3 = 7 ∨ bits v 2 0 = 7 then s.badw Reg.WRP_RTDATA else s

/-- The entry that WRP_RTDATA shows. -/
def State.readRtData (s : State) : Word :=
  BitVec.ofNat 32 (s.routeEntry (1 - s.routeGen) (s.fld Reg.WRP_RTIDX 12 8) (s.fld Reg.WRP_RTIDX 4 0))

end Sys2Proof.Machine
end

