-- ==== Sys2Proof/Machine/Thresher.lean ====
section
/-! DEFINITION. The Thresher (R453 to R467): jobs and their checks, the choice of the next job, compression with
verification, decompression, parity errors, cancellation. -/

namespace Sys2Proof.Machine

open Sys2Proof

/-! ## Descriptors (R455 to R457) -/

def thrDone : Nat := 0x0000
def thrCancelled : Nat := 0x0101
def thrBadDesc : Nat := 0x0201
def thrBadAddr : Nat := 0x0202
def thrDestShort : Nat := 0x0203
def thrBadStream : Nat := 0x0301
def thrBadWrapper : Nat := 0x0302
def thrBadCheck : Nat := 0x0303
def thrTruncated : Nat := 0x0304
def thrDestFull : Nat := 0x0305
def thrMemory : Nat := 0x0401
def thrEngine : Nat := 0x0402
def thrBusy : Nat := 0x0403
def thrRunning : Nat := 0xFFFF

/-- The Thresher's stop (R433). -/
def thrStop : Nat := 13

/-- Fields of a descriptor. -/
def dOp (b : List Byte) : Nat := leAt b 0 1
def dWrap (b : List Byte) : Nat := leAt b 1 1
def dMode (b : List Byte) : Nat := leAt b 2 1
def dInt (b : List Byte) : Bool := leAt b 3 1 % 2 == 1
def dSrc (b : List Byte) : Nat := leAt b 16 8
def dSlen (b : List Byte) : Nat := leAt b 24 4
def dDlen (b : List Byte) : Nat := leAt b 28 4
def dDst (b : List Byte) : Nat := leAt b 32 8

/-- Every byte of a range of a string is zero. -/
def zeroAt (b : List Byte) (off n : Nat) : Bool := (slice b off n).all fun x => x == 0

/-- MODE is one of R455. -/
def thrModeOk (op mode : Nat) : Bool :=
  if op = 2 then mode == 0
  else decide (mode < 128) && decide (1 ≤ mode / 4 % 8) && decide (mode / 4 % 8 ≤ 4)

/-- The source and the destination of a descriptor meet (R457). -/
def descOverlaps (b : List Byte) : Bool := rangesMeet (dSrc b) (dSlen b) (dDst b) (dDlen b)

/-- The fields of a descriptor are those of R455 and its ranges do not meet; for a job of Furrow PLOT is the
operation's (R502). -/
def descOk (b : List Byte) (plot : Nat) : Bool :=
  (dOp b == 1 || dOp b == 2) && decide (dWrap b ≤ 2) && thrModeOk (dOp b) (dMode b) && decide (leAt b 3 1 ≤ 1) &&
  decide (leAt b 4 2 < 4096) && zeroAt b 6 2 && decide (dSlen b ≤ 2 ^ 30) && decide (1 ≤ dDlen b) &&
  decide (dDlen b ≤ 2 ^ 31) && zeroAt b 40 8 && engineAddrOk plot (dSrc b) && engineAddrOk plot (dDst b) &&
  !descOverlaps b

/-- The refusal of a descriptor at acceptance, in the order of R463 (R456, R457). -/
def State.thrRefusal (s : State) (b : List Byte) (plot : Nat) : Option Nat :=
  if !descOk b plot then some thrBadDesc
  else match s.engineXlat plot (dSrc b) (dSlen b) false, s.engineXlat plot (dDst b) (dDlen b) true with
    | some src, some dst =>
      if rangesMeet src (dSlen b) dst (dDlen b) then some thrBadDesc
      else if dOp b = 1 ∧ dDlen b < compressBound (dWrap b) (dMode b) (dSlen b) then some thrDestShort else none
    | _, _ => some thrBadAddr

/-! ## Acceptance and the end of a job -/

/-- STATUS of a descriptor written. -/
def State.thrStatus (s : State) (desc st : Nat) : State := s.engineWrite (desc + 48) (leBytes 2 st) false

/-- The status record of a job, STATUS last, the count and the report (R463, R464). -/
def State.thrReport (s : State) (desc : Nat) (b : List Byte) (furrow : Option Nat) (st nstored inUsed outLen check : Nat) : State :=
  let s := s.engineWrite (desc + 50) (leBytes 1 (min 255 nstored)) false
  let s := s.engineWrite (desc + 52) (leBytes 4 inUsed ++ leBytes 4 outLen ++ leBytes 4 check) false
  let s := s.thrStatus desc st
  let s := s.setReg64 Reg.THR_CNT_JOBS_LO (s.reg64 Reg.THR_CNT_JOBS_LO + 1)
  let s := if st = thrMemory then s.setBit Reg.THR_ERR 5 true else s
  match furrow with
  | some op => s.jobDone op st
  | none => if dInt b then s.stewardEngine else s

/-- The Thresher accepts jobs (R458, R466). -/
def State.thrReady (s : State) : Bool := s.bit Reg.THR_STATUS 0

/-- No entry of the job store is free for a job of a plot: 256 are reserved to plot 0, and those that operations
have reserved count as taken (R458, R500). -/
def State.thrFull (s : State) (plot : Nat) : Bool :=
  let others := (s.thresher.jobs.filter fun j => j.plot ≠ 0).length + s.engineKept 16 fun o => o.plot ≠ 0
  let all := s.thresher.jobs.length + s.engineKept 16 fun _ => true
  decide (1024 ≤ all) || (plot != 0 && decide (768 ≤ others))

/-- A job is submitted (R456 to R458); for one of Furrow an entry was reserved (R500). The answer says whether it
entered the job store. -/
def State.thrAccept (s : State) (desc plot : Nat) (furrow : Option Nat) : State × Bool :=
  let b := s.bytes desc 64
  if s.agentStatus thrStop desc 64 ≠ .ok then (s.thrReport desc b furrow thrMemory 0 0 0 0, false)
  else if furrow.isNone ∧ s.thrFull plot then
    ((s.thrStatus desc thrBusy).setBit Reg.THR_ERR 1 true, false)
  else
    let s := s.thrStatus desc thrRunning
    match s.thrRefusal b plot with
    | some st => (s.thrReport desc b furrow st 0 0 0 0, false)
    | none =>
      let j : ThrJob :=
        { id := s.thresher.nextId, desc := desc, plot := plot, bytes := b, stops := [], furrow := furrow
          arrival := s.time, engine := none, started := 0, cancel := false }
      (s.mapThresher fun h => { h with jobs := h.jobs ++ [j], nextId := h.nextId + 1 }, true)

/-- A write of THR_SUBMIT submits the descriptor at an address (R458, R467). While EN is 0 no job is accepted. -/
def State.thrSubmitAt (s : State) (addr : Nat) : State :=
  if addr % 64 ≠ 0 ∨ 2 ^ 46 ≤ addr then s.badw Reg.THR_SUBMIT_HI
  else if s.bit Reg.THR_CTRL 0 ∧ !s.safe then (s.thrAccept addr (leAt (s.bytes addr 64) 4 2 % 4096) none).1
  else s

def execThrSubmit (m : Master) (addr : Nat) (s : State) : Ans :=
  .next (if s.writesReg m Reg.THR_SUBMIT_HI then s.thrSubmitAt addr else s)

/-- A write of THR_CTRL (R466, R467). -/
def State.writeThrCtrl (s : State) (v : Word) : State :=
  if v.getLsbD 0 ∧ !s.thrReady then (s.writeFields Reg.THR_CTRL (v &&& 0x80000000#32 ||| (s.reg Reg.THR_CTRL &&& 1#32))).badw Reg.THR_CTRL
  else s.writeFields Reg.THR_CTRL v

def execThrEnable (m : Master) (v : Word) (s : State) : Ans :=
  .next (if s.writesReg m Reg.THR_CTRL then s.writeThrCtrl v else s)

/-! ## Scheduling (R459) -/

/-- The engine account of a plot. -/
def State.engineBalance (s : State) (p : Nat) : Int := sget (fun _ => (0 : Int)) s.thresher.credit p

/-- A job is charged the time its engine was busy with it (R459). -/
def State.chargeEngine (s : State) (j : ThrJob) : State :=
  let online := 8 - s.thresher.offline.length
  let cap := s.fld Reg.THR_CFG 11 8 * (s.shareOf j.plot * online * s.periodNs / 1024)
  let busy := s.time - j.started
  let left := clampCredit (s.engineBalance j.plot - (busy : Int)) cap
  s.mapThresher fun h => { h with credit := sset (fun _ => (0 : Int)) h.credit j.plot left }

/-- The plot of step 2 with the highest ratio of balance to SHARE', the lower number on a tie. -/
def State.bestEnginePlot (s : State) (ps : List Nat) : Option Nat :=
  ps.foldl (fun r p =>
    match r with
    | some b =>
      if s.engineBalance b * (s.shareOf p : Int) < s.engineBalance p * (s.shareOf b : Int) then some p else some b
    | none => some p) none

/-- The plots of some jobs, rising, each once. -/
def plotsOf (l : List ThrJob) : List Nat :=
  (l.foldl (fun (r : List Nat) j => if j.plot ∈ r then r else r ++ [j.plot]) []).mergeSort (· ≤ ·)

/-- The next job of a free engine (R459), and whether step 3 chose it. A job does not return to an engine that
a parity error stopped it on (R461). -/
def State.nextThrJob (s : State) (engine : Nat) : Option (ThrJob × Bool) :=
  let l := s.thresher.jobs.filter fun j => j.engine.isNone ∧ engine ∉ j.stops
  match l.find? fun j => j.plot = 0 with
  | some j => some (j, false)
  | none =>
    let ps := plotsOf l
    match s.bestEnginePlot (ps.filter fun p => 0 < s.shareOf p ∧ 0 < s.engineBalance p) with
    | some p => (l.find? fun j => j.plot = p).map fun j => (j, false)
    | none =>
      let order := (ps.filter fun p => s.thresher.rr < p) ++ (ps.filter fun p => p ≤ s.thresher.rr)
      (order.head?.bind fun p => l.find? fun j => j.plot = p).map fun j => (j, true)

/-- A job of the Thresher replaced. -/
def State.setThrJob (s : State) (j : ThrJob) : State :=
  s.mapThresher fun h => { h with jobs := h.jobs.map fun x => if x.id = j.id then j else x }

def State.dropThrJob (s : State) (j : ThrJob) : State :=
  s.mapThresher fun h => { h with jobs := h.jobs.filter fun x => x.id ≠ j.id }

/-- The job that an engine runs. -/
def State.thrOn (s : State) (engine : Nat) : Option ThrJob := s.thresher.jobs.find? fun j => j.engine = some engine

/-- A free engine that is online takes its next job (R459); in device safe state no job starts (R588). -/
def execThresherJobStart (t engine : Nat) (s : State) : Ans :=
  let s := s.advance t
  .next (if 8 ≤ engine ∨ engine ∈ s.thresher.offline ∨ (s.thrOn engine).isSome ∨ !s.thrReady ∨ s.safe then s
    else match s.nextThrJob engine with
      | none => s
      | some (j, turn) =>
        let s := s.setThrJob { j with engine := some engine, started := s.time }
        if turn then s.mapThresher fun h => { h with rr := j.plot } else s)

/-! ## Engines that fail -/

/-- The times of an engine in a list that lie within the last second. -/
def lastSecond (l : List (Nat × Nat)) (engine now : Nat) : Nat :=
  (l.filter fun x => x.1 = engine ∧ now < x.2 + 1000000000).length

/-- An engine goes offline once it has had too many mismatches or parity errors in a second (R461). -/
def State.engineCheck (s : State) (engine : Nat) : State :=
  let v := lastSecond s.thresher.verify engine s.time
  let p := lastSecond s.thresher.parity engine s.time
  if engine ∈ s.thresher.offline then s
  else if s.fld Reg.THR_CFG 3 0 ≤ v ∨ 2 ≤ p then
    (s.mapThresher fun h => { h with offline := h.offline ++ [engine] }).errEvent Reg.THR_ERR 3 (Src.thresher engine) 2 noPlot engine
  else s

/-- Verify mismatches of an engine: each is counted, logged and remembered (R460, R461). -/
def State.mismatches (s : State) (engine plot : Nat) : Nat → State
  | 0 => s
  | n + 1 =>
    let s := (s.count Reg.THR_CNT_VERIFY 1).mapThresher fun h => { h with verify := h.verify ++ [(engine, s.time)] }
    (s.errEvent Reg.THR_ERR 2 (Src.thresher engine) 2 plot engine).mismatches engine plot n

/-- A job ends on its engine: charged, off the store, reported; the engine may go offline. -/
def State.endThrJob (s : State) (j : ThrJob) (engine st nstored inUsed outLen check : Nat) : State :=
  let s := (s.chargeEngine j).dropThrJob j
  let s := if st = thrCancelled then s.count Reg.THR_CNT_CANCEL 1 else s
  (s.thrReport j.desc j.bytes j.furrow st nstored inUsed outLen check).engineCheck engine

/-! ## The jobs -/

/-- The source of a job as its engine reads it: the bytes before the first error, and whether there is one. -/
def State.thrSource (s : State) (j : ThrJob) (mem : Bool) : List Byte × Bool :=
  match s.engineXlat j.plot (dSrc j.bytes) (dSlen j.bytes) false with
  | none => ([], true)
  | some pa =>
    let g := if mem then 0 else s.goodPrefix thrStop pa (dSlen j.bytes) false
    (s.bytes pa g, decide (g < dSlen j.bytes))

/-- Where a job writes. -/
def State.thrDest (s : State) (j : ThrJob) : Nat :=
  (s.engineXlat j.plot (dDst j.bytes) (dDlen j.bytes) true).getD 0

/-- What a job has written when it stops on its way, `n` blocks of a compression or bytes of a decompression at most:
blocks stored for a mismatch, source bytes used, the output, and what CHECK covers (R460, R463, R465). -/
def thrPart (b src : List Byte) (bad : List Nat) (n m : Nat) : Nat × Nat × List Byte × List Byte :=
  if dOp b = 1 then
    let size := blockSize (dMode b)
    let whole := min n (min (src.length / size) (blockCount (dMode b) (dSlen b) - 1))
    let kept := src.take (whole * size)
    let bits := encodeBlocks (dMode b) bad false 0 [] [] (if whole = 0 then [] else inputBlocks size whole kept)
    let out := if whole = 0 then [] else wrapHead (dWrap b) ++ packBits (bits.take (bits.length / 8 * 8))
    ((bad.filter fun k => k < whole).eraseDups.length, kept.length, out, kept)
  else
    let out := (decompressAll (dWrap b) (dDlen b) src).1.take n
    (0, m % (src.length + 1), out, out)

/-- A job stops on its way: what it has written stands. How far it came is open (log entry 150). The answer is its status
record: NSTORED, IN_USED, OUT_LEN, CHECK. -/
def State.writePart (s : State) (j : ThrJob) (engine : Nat) (bad : List Nat) : State × Nat × Nat × Nat × Nat :=
  let r := thrPart j.bytes (s.thrSource j false).1 bad s.free s.drawn.free
  let s := (s.drawn.drawn.mismatches engine j.plot r.1).engineWrite (s.thrDest j) r.2.2.1 false
  (s, r.1, r.2.1, r.2.2.1.length, checkOf (dWrap j.bytes) r.2.2.2)

/-- A job stops on its way and ends with a status (R461, R465). -/
def State.stopThrJob (s : State) (j : ThrJob) (engine st : Nat) (bad : List Nat) : State :=
  let r := s.writePart j engine bad
  r.1.endThrJob j engine st r.2.1 r.2.2.1 r.2.2.2.1 r.2.2.2.2

/-- COMPRESS (R453, R454, R460): the stream, or after a memory error the whole blocks before it. -/
def State.runCompress (s : State) (j : ThrJob) (engine : Nat) (bad : List Nat) (mem : Bool) : State :=
  let b := j.bytes
  let src := s.thrSource j mem
  let n := blockCount (dMode b) src.1.length
  if j.cancel then s.stopThrJob j engine thrCancelled bad
  else if src.2 then
    let r := thrPart b src.1 bad n 0
    let s := ((s.strongRead (dSrc b) (dSlen b) false).mismatches engine j.plot r.1).engineWrite (s.thrDest j) r.2.2.1 false
    s.endThrJob j engine thrMemory r.1 r.2.1 r.2.2.1.length (checkOf (dWrap b) r.2.2.2)
  else
    let marked := (bad.filter fun k => k < n).eraseDups
    let out := compressAll (dWrap b) (dMode b) marked src.1
    let s := s.mismatches engine j.plot marked.length
    let s := s.engineWrite (s.thrDest j) out false
    s.endThrJob j engine thrDone marked.length src.1.length out.length (checkOf (dWrap b) src.1)

def execCompress (t engine : Nat) (bad : List Nat) (mem : Bool) (s : State) : Ans :=
  let s := s.advance t
  .next (match s.thrOn engine with
    | some j => if dOp j.bytes = 1 then s.runCompress j engine bad mem else s
    | none => s)

/-- The status of a decompression (R463). -/
def DecEnd.status (e : DecEnd) (mem : Bool) : Nat :=
  match e with
  | .done => thrDone
  | .stream .full => thrDestFull
  | .stream _ => thrBadStream
  | .wrapper => thrBadWrapper
  | .check => thrBadCheck
  | .truncated => if mem then thrMemory else thrTruncated

/-- DECOMPRESS (R453, R463). -/
def State.runDecompress (s : State) (j : ThrJob) (engine : Nat) (mem : Bool) : State :=
  let b := j.bytes
  let src := s.thrSource j mem
  if j.cancel then s.stopThrJob j engine thrCancelled []
  else
    let r := decompressAll (dWrap b) (dDlen b) src.1
    let s := s.engineWrite (s.thrDest j) r.1 false
    s.endThrJob j engine (r.2.2.status src.2) 0 r.2.1 r.1.length (checkOf (dWrap b) r.1)

def execDecompress (t engine : Nat) (mem : Bool) (s : State) : Ans :=
  let s := s.advance t
  .next (match s.thrOn engine with
    | some j => if dOp j.bytes = 2 then s.runDecompress j engine mem else s
    | none => s)

/-- A parity error in an engine stops its job, which starts again on another engine, or ends with ENGINE at the
second (R461). -/
def State.thrParityStop (s : State) (j : ThrJob) (engine : Nat) : State :=
  let s := s.mapThresher fun h => { h with parity := h.parity ++ [(engine, s.time)] }
  let s := s.errEvent Reg.THR_ERR 4 (Src.thresher engine) 2 j.plot engine
  if j.cancel then s.stopThrJob j engine thrCancelled []
  else if !j.stops.isEmpty then s.stopThrJob j engine thrEngine []
  else (((s.writePart j engine []).1.chargeEngine j).setThrJob
    { j with engine := none, stops := j.stops ++ [engine] }).engineCheck engine

def execThresherParity (t engine : Nat) (s : State) : Ans :=
  let s := s.advance t
  .next (match s.thrOn engine with
    | some j => s.thrParityStop j engine
    | none => s)

/-- The jobs that a test picks are cancelled (R465): a waiting one at once, a running one at its next block
boundary. The answer counts them for the report of the reset. -/
def State.thrCancel (s : State) (f : ThrJob → Bool) : State × Nat :=
  let l := s.thresher.jobs.filter fun j => f j && !j.cancel
  (l.foldl (fun s j =>
    if j.engine.isSome then s.setThrJob { j with cancel := true }
    else ((s.dropThrJob j).count Reg.THR_CNT_CANCEL 1).thrReport j.desc j.bytes j.furrow thrCancelled 0 0 0 0) s, l.length)

end Sys2Proof.Machine
end

