-- ==== Sys2Proof/Machine/Cipher.lean ====
section
/-! DEFINITION. The cipher engines, the key vault and the public-key helper (R468 to R489): locks, descriptors,
the checks at acceptance, the operations, derivation and unwrapping of keys, cancellation and the wipe. -/

namespace Sys2Proof.Machine

open Sys2Proof

/-! ## Operations and statuses (R468, R476) -/

def opGcmEnc : Nat := 0x01
def opGcmDec : Nat := 0x02
def opXtsEnc : Nat := 0x03
def opXtsDec : Nat := 0x04
def opCmacGen : Nat := 0x05
def opCmacVer : Nat := 0x06
def opSha384 : Nat := 0x07
def opSha512 : Nat := 0x08
def opHmac384 : Nat := 0x09
def opHmac512 : Nat := 0x0A
def opDerive : Nat := 0x10
def opUnwrap : Nat := 0x11
def opSign : Nat := 0x18
def opVerify : Nat := 0x19
def opPubkey : Nat := 0x1A

def cphDone : Nat := 0x0000
def cphCancelled : Nat := 0x0101
def cphBadDesc : Nat := 0x0201
def cphBadAddr : Nat := 0x0202
def cphNotOwner : Nat := 0x0203
def cphAuthFail : Nat := 0x0301
def cphMemory : Nat := 0x0401
def cphEngine : Nat := 0x0402
def cphBusy : Nat := 0x0403
def cphKeyEmpty : Nat := 0x0501
def cphKeyKind : Nat := 0x0502
def cphKeySpent : Nat := 0x0503
def cphKeyDenied : Nat := 0x0504
def cphKeyLost : Nat := 0x0505
def cphRunning : Nat := 0xFFFF

/-- The vault and the helper in ENGINE (R473). -/
def vaultUnit : Nat := 0xFF
def helperUnit : Nat := 0xFE

/-- The stop of the cipher block (chapter 17). -/
def cphStop : Nat := 29

/-- SLOT of the Seed key in DERIVE (R473). -/
def seedSlot : Nat := 0xFFFF

/-! ## Fields of a descriptor (R473) -/

def cOp (b : List Byte) : Nat := leAt b 0 1
def cEngine (b : List Byte) : Nat := leAt b 1 1
def cInt (b : List Byte) : Bool := leAt b 2 1 % 2 == 1
def cPlot (b : List Byte) : Nat := leAt b 4 2 % 4096
def cSlot (b : List Byte) : Nat := leAt b 6 2
def cSrc (b : List Byte) : Nat := leAt b 16 8
def cDst (b : List Byte) : Nat := leAt b 24 8
def cLen (b : List Byte) : Nat := leAt b 32 4
def cAadLen (b : List Byte) : Nat := leAt b 36 4
def cAad (b : List Byte) : Nat := leAt b 40 8
def cDuSize (b : List Byte) : Nat := leAt b 64 4
def cLabLen (b : List Byte) : Nat := leAt b 48 1
def cCtxLen (b : List Byte) : Nat := leAt b 49 1
def cBits (b : List Byte) : Nat := leAt b 52 2
def cKind (b : List Byte) : Nat := leAt b 54 1
def cUsage (b : List Byte) : Nat := leAt b 55 1
def cGen (b : List Byte) : Nat := leAt b 56 4

/-- The slot that a DERIVE or an UNWRAP fills (R473). -/
def cOutSlot (b : List Byte) : Nat := if cOp b = opUnwrap then leAt b 48 2 else leAt b 50 2

/-- An operation runs on an engine 4 to 15; else on the vault or the helper (R468). -/
def onEngine (op : Nat) : Bool := decide (1 ≤ op ∧ op ≤ opHmac512)

/-- An operation uses AES-GCM. -/
def isGcm (op : Nat) : Bool := op == opGcmEnc || op == opGcmDec

/-- An operation uses AES-XTS. -/
def isXts (op : Nat) : Bool := op == opXtsEnc || op == opXtsDec

/-- An operation uses a key slot (R468); DERIVE may use the Seed key instead. -/
def usesSlot (op : Nat) : Bool := op != opSha384 && op != opSha512 && op != opVerify

/-- The bytes that an operation reads at SRC: LEN, and the trailing tag of R473. -/
def srcBytes (b : List Byte) : Nat :=
  if cOp b = opDerive ∨ cOp b = opPubkey then 0
  else cLen b + (if cOp b = opGcmDec ∨ cOp b = opCmacVer then 16 else 0)

/-- The bytes that an operation writes at DST when it ends with DONE (R468). -/
def dstBytes (b : List Byte) : Nat :=
  let op := cOp b
  if op = opGcmEnc then cLen b + 16
  else if op = opGcmDec ∨ isXts op then cLen b
  else if op = opCmacGen then 16
  else if op = opSha384 ∨ op = opHmac384 then 48
  else if op = opSha512 ∨ op = opHmac512 then 64
  else if op = opSign ∨ op = opPubkey then 96
  else 0

/-- ENGINE is a unit that runs the operation (R468, R473). -/
def unitOk (op e : Nat) : Bool :=
  if onEngine op then decide (4 ≤ e ∧ e ≤ 15)
  else if op = opDerive ∨ op = opUnwrap then e == vaultUnit
  else (op == opSign || op == opVerify || op == opPubkey) && e == helperUnit

/-- PARAM holds what its operation gives it, and zeros elsewhere (R468, R473, R482). -/
def paramOk (b : List Byte) : Bool :=
  let op := cOp b
  if isGcm op then zeroAt b 60 52
  else if isXts op then
    (cDuSize b == 512 || cDuSize b == 4096) && cLen b % cDuSize b == 0 && zeroAt b 68 44
  else if op = opDerive then
    decide (1 ≤ cLabLen b ∧ cLabLen b ≤ 24 ∧ cCtxLen b ≤ 28 ∧ cOutSlot b < 4096) &&
    (slice b 60 (cLabLen b)).all (fun x => x != 0 && decide (x.toNat < 128)) &&
    zeroAt b (60 + cLabLen b) (24 - cLabLen b) && zeroAt b (84 + cCtxLen b) (28 - cCtxLen b)
  else if op = opUnwrap then decide (cOutSlot b < 4096) && zeroAt b 50 62
  else zeroAt b 48 64

/-- The lengths that an operation fixes (R468, R473). -/
def lenOk (b : List Byte) : Bool :=
  decide (cLen b ≤ 2 ^ 30 ∧ cAadLen b ≤ 65536) &&
  (cOp b != opSign || cLen b == 48) && (cOp b != opVerify || cLen b == 240)

/-- Check 1 of R474. -/
def cphDescOk (b : List Byte) (plot : Nat) : Bool :=
  unitOk (cOp b) (cEngine b) && decide (leAt b 2 1 ≤ 1) && zeroAt b 3 1 && decide (leAt b 4 2 < 4096) &&
  (!usesSlot (cOp b) || decide (cSlot b < 4096) || (cOp b == opDerive && cSlot b == seedSlot)) &&
  lenOk b && paramOk b && engineAddrOk plot (cSrc b) && engineAddrOk plot (cDst b) && engineAddrOk plot (cAad b)

/-! ## Key slots (R477, R486) -/

/-- A key length fits a kind (R477). -/
def keyLenOk (kind n : Nat) : Bool :=
  match kind with
  | 1 => n == 16
  | 2 => n == 32
  | 3 => n == 32
  | 4 => n == 64
  | 5 => decide (16 ≤ n ∧ n ≤ 64)
  | 6 => n == 48
  | 7 => n == 32 || n == 48
  | _ => false

/-- The default LIMIT of a slot (R486). -/
def defaultLimit (kind usage : Nat) : Nat :=
  if (kind = 1 ∨ kind = 2) ∧ (usage.testBit 0 ∨ usage.testBit 5) then 2 ^ 32 else 2 ^ 48

/-- LIMIT of a slot that asks for one: 0 and what is above the default are the default (R484, R486). -/
def limitOf (kind usage asked : Nat) : Nat :=
  let d := defaultLimit kind usage
  if asked = 0 ∨ d < asked then d else asked

/-- A slot with fresh material and COUNT 0. -/
def freshSlot (kind usage : Nat) (origin : Bool) (gen asked : Nat) (key : List Byte) : KeySlot :=
  { kind := kind, usage := usage, origin := origin, gen := gen, limit := limitOf kind usage asked, count := 0
    key := key, near := false }

/-- A slot filled. -/
def State.fillSlot (s : State) (n : Nat) (k : KeySlot) : State :=
  s.mapCipher fun c => { c with slots := sput c.slots n k }

/-- A slot erased. -/
def State.eraseSlot (s : State) (n : Nat) : State := s.mapCipher fun c => { c with slots := sdel c.slots n }

/-- Kind and usage of a slot permit an operation (R468). -/
def KeySlot.permits (k : KeySlot) (op : Nat) : Bool :=
  let aes := k.kind == 1 || k.kind == 2
  let xts := k.kind == 3 || k.kind == 4
  if op = opGcmEnc then aes && k.usage.testBit 0
  else if op = opGcmDec then aes && k.usage.testBit 1
  else if op = opXtsEnc then xts && k.usage.testBit 0
  else if op = opXtsDec then xts && k.usage.testBit 1
  else if op = opCmacGen ∨ op = opCmacVer then aes && k.usage.testBit 2
  else if op = opHmac384 ∨ op = opHmac512 then k.kind == 5 && k.usage.testBit 2
  else if op = opDerive then k.usage.testBit 3
  else if op = opUnwrap then k.kind == 7 && k.usage.testBit 3
  else if op = opSign ∨ op = opPubkey then k.kind == 6 && k.usage.testBit 4
  else true

/-- The job that a unit runs: its oldest (R474). -/
def State.cphOn (s : State) (engine : Nat) : Option CphJob := s.cipher.jobs.find? fun j => j.engine = engine

/-- A slot is being written by the DERIVE or the UNWRAP that the vault runs (R476, R487). -/
def State.slotFilling (s : State) (n : Nat) : Bool :=
  match s.cphOn vaultUnit with
  | some j => cOutSlot j.bytes == n
  | none => false

/-- BOUND of a slot: an accepted job, a MACsec SA, or the journal engine's open generation uses it (R475,
R487). -/
def State.slotBound (s : State) (n : Nat) : Bool :=
  (s.cipher.jobs.any fun j => usesSlot (cOp j.bytes) && cSlot j.bytes == n) ||
  (s.eth.sas.any fun a => a.slot == n) ||
  n == s.sheafSlot (s.epoch / 2 ^ 24 % 2 ^ 32)

/-! ## Locks (R470 to R472) -/

/-- The owner of an engine 4 to 15; none while it is FREE (R471). -/
def State.lockOf (s : State) (engine : Nat) : Option EngLock := s.cipher.locks.lookup engine

/-- An owner is level D, or a plot by number. -/
def EngLock.same (a : EngLock) (plot : Option Nat) : Bool :=
  match a, plot with
  | .firmware, none => true
  | .plot n _, some p => n == p
  | _, _ => false

/-- A release waits no longer once the engine holds no job (R472). -/
def State.settleLocks (s : State) : State :=
  s.mapCipher fun c =>
    let freed := c.leaving.filter fun e => !(c.jobs.any fun j => j.engine = e)
    { c with locks := c.locks.filter (fun l => !(freed.contains l.1)), leaving := c.leaving.filter fun e => !(freed.contains e) }

/-- ACQUIRE on an engine: it succeeds at once where the engine is FREE, else nothing changes (R471). -/
def State.acquireLock (s : State) (engine : Nat) (o : EngLock) : State :=
  if (s.lockOf engine).isSome then s else s.mapCipher fun c => { c with locks := sput c.locks engine o }

/-- RELEASE on an engine by an owner (none: level D); by another it is ignored and sets BADW (R472). -/
def State.releaseLock (s : State) (engine : Nat) (plot : Option Nat) : State :=
  match s.lockOf engine with
  | some o =>
    if o.same plot then
      (s.mapCipher fun c => { c with leaving := if engine ∈ c.leaving then c.leaving else c.leaving ++ [engine] }).settleLocks
    else s.badw Reg.CPH_LOCK
  | none => s.badw Reg.CPH_LOCK

/-- A write of ACQUIRE to CPH_LOCKn: level D only; on engines 0 to 3 it is ignored and sets BADW (R470, R471). -/
def State.lockByD (s : State) (engine : Nat) : State :=
  if engine < 4 then s.badw Reg.CPH_LOCK else s.acquireLock engine .firmware

def execLockAcquire (m : Master) (engine : Nat) (s : State) : Ans :=
  .next (if engine < 16 ∧ s.writesReg m (Reg.CPH_LOCK + 4 * engine) then s.lockByD engine else s)

/-- A write of RELEASE to CPH_LOCKn (R470, R472). -/
def State.unlockByD (s : State) (engine : Nat) : State :=
  if engine < 4 then s.badw Reg.CPH_LOCK else s.releaseLock engine none

def execLockRelease (m : Master) (engine : Nat) (s : State) : Ans :=
  .next (if engine < 16 ∧ s.writesReg m (Reg.CPH_LOCK + 4 * engine) then s.unlockByD engine else s)

/-! ## Acceptance (R474) -/

/-- The submitter may use the unit: it holds the engine and has not released it; the vault and the helper are
level D's (R472, R474). -/
def State.cphHeld (s : State) (e : Nat) (atD : Bool) (plot : Nat) : Bool :=
  if e = vaultUnit ∨ e = helperUnit then atD
  else !(s.cipher.leaving.contains e) && (match s.lockOf e with
    | some o => o.same (if atD then none else some plot)
    | none => false)

/-- The addresses of a job pass the checks of R456 (R473). -/
def State.cphAddrsOk (s : State) (b : List Byte) (plot : Nat) : Bool :=
  (srcBytes b == 0 || (s.engineXlat plot (cSrc b) (srcBytes b) false).isSome) &&
  (dstBytes b == 0 || (s.engineXlat plot (cDst b) (dstBytes b) true).isSome) &&
  (!isGcm (cOp b) || cAadLen b == 0 || (s.engineXlat plot (cAad b) (cAadLen b) false).isSome)

/-- Checks 5 to 8 of R474 on the key slot of a job. -/
def State.slotRefusal (s : State) (b : List Byte) (plot : Nat) (atD : Bool) : Option Nat :=
  if !usesSlot (cOp b) ∨ cSlot b = seedSlot then none
  else if s.slotFilling (cSlot b) then some cphKeyEmpty
  else match s.keySlot (cSlot b) with
    | none => some cphKeyEmpty
    | some k =>
      let allot := s.reg (Reg.CPH_ALLOT + 4 * (cSlot b / 16))
      if cSlot b < 256 ∧ !atD then some cphKeyDenied
      else if 256 ≤ cSlot b ∧ plot ≠ 0 ∧ !(allot.getLsbD 31 && bits allot 11 0 == plot) then some cphKeyDenied
      else if !k.permits (cOp b) then some cphKeyKind
      else if k.limit ≤ k.count then some cphKeySpent
      else none

/-- The job queue of an engine is full: entries that operations have reserved count as taken, but for the one that
this job uses (R474, R500). -/
def State.cphFull (s : State) (e : Nat) (furrow : Option Nat) : Bool :=
  let mine := furrow.isSome && (s.furrow.ops.any fun o => furrow == some o.id && o.engines.contains e)
  decide (64 ≤ (s.cipher.jobs.filter fun j => j.engine = e).length + (s.engineKept e fun _ => true) - mine.toNat)

/-- The refusal of a job at acceptance: the first check that fails (R474). -/
def State.cphRefusal (s : State) (b : List Byte) (plot : Nat) (atD : Bool) (furrow : Option Nat) : Option Nat :=
  if !cphDescOk b plot then some cphBadDesc
  else if !s.cphHeld (cEngine b) atD plot then some cphNotOwner
  else if s.cphFull (cEngine b) furrow then some cphBusy
  else if !s.cphAddrsOk b plot then some cphBadAddr
  else s.slotRefusal b plot atD

/-- The status record of a job, STATUS last; the counts and the report (R463, R475, R476). -/
def State.cphReport (s : State) (desc : Nat) (b : List Byte) (plot : Nat) (furrow : Option Nat) (st outLen : Nat) : State :=
  let s := s.engineWrite (desc + 116) (leBytes 4 outLen) false
  let s := s.engineWrite (desc + 112) (leBytes 2 st) false
  let src := if onEngine (cOp b) then Src.cipher (cEngine b) else Src.vault
  let s := if st = cphBusy then s else s.count Reg.CPH_CNT_JOBS 1
  let s := if st = cphAuthFail then (s.count Reg.CPH_CNT_AUTHFAIL 1).setBit Reg.CPH_ERR 1 true else s
  let s := if st = cphAuthFail ∧ (cOp b = opGcmDec ∨ cOp b = opCmacVer) then
    s.event src 0 (detail 1 plot (cEngine b)) else s
  let s := if st = cphEngine then s.errEvent Reg.CPH_ERR 5 src 2 plot (cEngine b) else s
  match furrow with
  | some op => s.jobDone op st
  | none => if cInt b then s.stewardEngine else s

/-- A job is submitted (R474). The answer says whether it was accepted. -/
def State.cphAccept (s : State) (desc plot : Nat) (atD : Bool) (furrow : Option Nat) : State × Bool :=
  let b := s.bytes desc 128
  if s.agentStatus cphStop desc 128 ≠ .ok then (s.cphReport desc b plot furrow cphMemory 0, false)
  else match s.cphRefusal b plot atD furrow with
    | some st => (s.cphReport desc b plot furrow st 0, false)
    | none =>
      let s := s.engineWrite (desc + 112) (leBytes 2 cphRunning) false
      let s := if usesSlot (cOp b) ∧ cSlot b ≠ seedSlot then (s.chargeSlot (cSlot b)).1 else s
      let j : CphJob :=
        { id := s.cipher.nextId, engine := cEngine b, desc := desc, plot := plot, atD := atD, furrow := furrow
          bytes := b, cancel := false, started := (s.cphOn (cEngine b)).isNone }
      (s.mapCipher fun c => { c with jobs := c.jobs ++ [j], nextId := c.nextId + 1 }, true)

/-- A write of CPH_SUBMIT submits the descriptor at an address, at level D (R474, R490). While EN is 0 no job
is accepted. -/
def State.cphSubmitAt (s : State) (addr : Nat) : State :=
  if addr % 128 ≠ 0 ∨ 2 ^ 46 ≤ addr then s.badw Reg.CPH_SUBMIT_HI
  else if s.bit Reg.CPH_CTRL 0 ∧ !s.safe then (s.cphAccept addr (cPlot (s.bytes addr 128)) true none).1
  else s

def execCphSubmit (m : Master) (addr : Nat) (s : State) : Ans :=
  .next (if s.writesReg m Reg.CPH_SUBMIT_HI then s.cphSubmitAt addr else s)

/-! ## What an operation computes -/

/-- The outcome of an operation: its status, what it writes at DST, and a slot that it fills. -/
structure CphResult where
  status : Nat
  out    : List Byte
  fill   : Option (Nat × KeySlot)
  deriving DecidableEq, Repr

/-- An operation that ends with DONE and output. -/
def cphOut (l : List Byte) : CphResult := { status := cphDone, out := l, fill := none }

/-- An operation that ends with another status. -/
def cphEnd (st : Nat) : CphResult := { status := st, out := [], fill := none }

/-- GCM_ENC (R468). -/
def gcmEncOf (b key aad src : List Byte) : CphResult :=
  let r := gcmEnc key (slice b 48 12) aad src
  cphOut (r.1 ++ r.2)

/-- GCM_DEC: where the tag does not match, zeros stand over every byte written (R468, R475). -/
def gcmDecOf (b key aad src : List Byte) : CphResult :=
  match gcmDec key (slice b 48 12) aad (src.take (cLen b)) (src.drop (cLen b)) with
  | some p => cphOut p
  | none => { status := cphAuthFail, out := zeros (cLen b), fill := none }

/-- XTS_ENC and XTS_DEC (R468). -/
def xtsOf (enc : Bool) (b key src : List Byte) : CphResult := cphOut (xts enc key (leAt b 48 16) (cDuSize b) src)

/-- CMAC_VER (R468). -/
def cmacVerOf (b key src : List Byte) : CphResult :=
  if cmac key (src.take (cLen b)) = src.drop (cLen b) then cphOut [] else cphEnd cphAuthFail

/-- DERIVE (R482, R483): the key of a kind goes into OUTSLOT; a scalar of kind ECDSA384 is made as "attest"
makes it. A derived slot takes only a higher GEN (R486). -/
def State.deriveOf (s : State) (b key : List Byte) : CphResult :=
  let raw := kdf key (slice b 60 (cLabLen b)) (slice b 84 (cCtxLen b)) (cBits b)
  let mat := if cKind b = 6 then beBytes 48 (attestScalar raw) else raw
  let older : Bool := match s.keySlot (cOutSlot b) with
    | some k => !k.origin && decide (cGen b ≤ k.gen)
    | none => false
  if cBits b % 8 ≠ 0 ∨ 512 < cBits b ∨ (cKind b = 6 ∧ cBits b ≠ 448) ∨ 64 ≤ cUsage b ∨ !keyLenOk (cKind b) mat.length ∨ older then
    cphEnd cphKeyKind
  else { status := cphDone, out := [], fill := some (cOutSlot b, freshSlot (cKind b) (cUsage b) false (cGen b) 0 mat) }

/-- The slot that an unwrapped plaintext describes, or none where its header does not fit (R484). -/
def slotOfPlain (p : List Byte) : Option KeySlot :=
  let kind := beAt p 0 1
  let n := beAt p 2 2
  if kind = 0 ∨ kind = 6 ∨ !keyLenOk kind n ∨ p.length ≠ 16 + n ∨ 64 ≤ beAt p 1 1 then none
  else some (freshSlot kind (beAt p 1 1) true 0 (beAt p 4 8) (p.drop 16))

/-- The key-encryption key of a plot under a root key (R483, R484). -/
def State.kekOf (s : State) (root : List Byte) (plot : Nat) : List Byte :=
  kdf root (ascii "kek") (beBytes 2 s.devId ++ beBytes 2 plot) 256

/-- A blob unwrapped under the KEK of a plot: a slot, or the status (R484). -/
def State.unwrapBlob (s : State) (root : List Byte) (plot : Nat) (blob : List Byte) : Except Nat KeySlot :=
  match keyUnwrap (s.kekOf root plot) blob with
  | none => .error cphAuthFail
  | some p => match slotOfPlain p with
    | none => .error cphKeyKind
    | some k => .ok k

/-- UNWRAP (R484). -/
def State.unwrapOf (s : State) (b : List Byte) (plot : Nat) (root src : List Byte) : CphResult :=
  match s.unwrapBlob root plot src with
  | .error st => cphEnd st
  | .ok k => { status := cphDone, out := [], fill := some (cOutSlot b, k) }

/-- VERIFY: a digest, a public key, a signature (R473, R489). -/
def verifyOf (src : List Byte) : CphResult :=
  if ecVerify (slice src 0 48) (slice src 48 96) (slice src 144 96) then cphOut [] else cphEnd cphAuthFail

/-! ## The end of a job -/

/-- The oldest job of a unit starts; in device safe state none does (R474, R588). -/
def State.startNext (s : State) (engine : Nat) : State :=
  match s.cphOn engine with
  | some j =>
    if s.safe then s
    else s.mapCipher fun c => { c with jobs := c.jobs.map fun x => if x.id = j.id then { x with started := true } else x }
  | none => s

/-- A job leaves its unit, and the next one starts (R472, R474). -/
def State.dropCphJob (s : State) (j : CphJob) : State :=
  ((s.mapCipher fun c => { c with jobs := c.jobs.filter fun x => x.id ≠ j.id }).startNext j.engine).settleLocks

/-- A job ends with a status and its output. -/
def State.endCphJob (s : State) (j : CphJob) (r : CphResult) : State :=
  let s := s.engineWrite ((s.engineXlat j.plot (cDst j.bytes) (dstBytes j.bytes) true).getD 0) r.out (j.atD && onEngine (cOp j.bytes))
  let s := match r.fill with
    | some (n, k) => s.fillSlot n k
    | none => s
  let n := if r.status = cphDone then r.out.length else 0
  (s.dropCphJob j).cphReport j.desc j.bytes j.plot j.furrow r.status n

/-- A range that a job reads, or none where a read receives poison or a Warp error (R473, R476). -/
def State.cphRead (s : State) (j : CphJob) (addr n : Nat) : Option (List Byte) :=
  if n = 0 then some []
  else match s.engineXlat j.plot addr n false with
    | none => none
    | some pa =>
      if s.goodPrefix cphStop pa n (j.atD && onEngine (cOp j.bytes)) < n then none else some (s.bytes pa n)

/-- The key of a job: its slot's, or the Seed key. -/
def State.cphKey (s : State) (b : List Byte) : List Byte :=
  if cSlot b = seedSlot then seedBytes else ((s.keySlot (cSlot b)).map fun k => k.key).getD []

/-- The operations that write as they read: GCM and XTS. -/
def streams (op : Nat) : Bool := decide (op = opGcmEnc ∨ op = opGcmDec ∨ op = opXtsEnc ∨ op = opXtsDec)

/-- A job stops on its way after some bytes of its output, `most` at the most: how many is open (log entry 151). Those
of a GCM_DEC, and of a job that lost its key, are zero (R475). -/
def State.cphStopped (s : State) (j : CphJob) (most : Nat) (zero : Bool) (out : List Byte) : State :=
  if !streams (cOp j.bytes) ∨ !j.started then s
  else
    let n := s.free % (min most (cLen j.bytes) + 1)
    let pa := (s.engineXlat j.plot (cDst j.bytes) (dstBytes j.bytes) true).getD 0
    s.drawn.engineWrite pa (if zero || cOp j.bytes == opGcmDec then zeros n else out.take n) j.atD

/-- The oldest job of its unit runs to its end with an operation: cancelled, stopped by an error, or with what
the operation gives for its key, additional data and source (R474 to R476). -/
def State.runCph (s : State) (job op : Nat) (fail : CphFail)
    (f : State → List Byte → List Byte → List Byte → List Byte → Nat → CphResult) : State :=
  match s.cipher.jobs.find? fun j => j.id = job with
  | none => s
  | some j =>
    if cOp j.bytes ≠ op ∨ (s.cphOn j.engine).map (fun x => x.id) ≠ some job ∨ !j.started then s
    else
      let aad := if isGcm op then cAadLen j.bytes else 0
      let stop (s : State) (most st : Nat) : State :=
        let src := s.bytes ((s.engineXlat j.plot (cSrc j.bytes) (srcBytes j.bytes) false).getD 0) (srcBytes j.bytes)
        (s.cphStopped j most false (f s j.bytes (s.cphKey j.bytes) [] src j.plot).out).endCphJob j (cphEnd st)
      if j.cancel then stop s (cLen j.bytes) cphCancelled
      else match fail with
      | .engine => stop s (cLen j.bytes) cphEngine
      | .memory => stop s (cLen j.bytes) cphMemory
      | .none =>
        match s.cphRead j (cSrc j.bytes) (srcBytes j.bytes), s.cphRead j (cAad j.bytes) aad with
        | some src, some aad => s.endCphJob j (f s j.bytes (s.cphKey j.bytes) aad src j.plot)
        | _, _ =>
          stop (s.strongRead (cSrc j.bytes) (srcBytes j.bytes) (j.atD && onEngine op))
            (match s.engineXlat j.plot (cSrc j.bytes) (srcBytes j.bytes) false with
              | some pa => s.goodPrefix cphStop pa (srcBytes j.bytes) (j.atD && onEngine op)
              | none => 0) cphMemory

def execGcmEnc (job : Nat) (fail : CphFail) (s : State) : Ans :=
  .next (s.runCph job opGcmEnc fail fun _ b key aad src _ => gcmEncOf b key aad src)

def execGcmDec (job : Nat) (fail : CphFail) (s : State) : Ans :=
  .next (s.runCph job opGcmDec fail fun _ b key aad src _ => gcmDecOf b key aad src)

def execXtsEnc (job : Nat) (fail : CphFail) (s : State) : Ans :=
  .next (s.runCph job opXtsEnc fail fun _ b key _ src _ => xtsOf true b key src)

def execXtsDec (job : Nat) (fail : CphFail) (s : State) : Ans :=
  .next (s.runCph job opXtsDec fail fun _ b key _ src _ => xtsOf false b key src)

def execCmacGen (job : Nat) (fail : CphFail) (s : State) : Ans :=
  .next (s.runCph job opCmacGen fail fun _ _ key _ src _ => cphOut (cmac key src))

def execCmacVer (job : Nat) (fail : CphFail) (s : State) : Ans :=
  .next (s.runCph job opCmacVer fail fun _ b key _ src _ => cmacVerOf b key src)

def execSha384 (job : Nat) (fail : CphFail) (s : State) : Ans :=
  .next (s.runCph job opSha384 fail fun _ _ _ _ src _ => cphOut (sha384 src))

def execSha512 (job : Nat) (fail : CphFail) (s : State) : Ans :=
  .next (s.runCph job opSha512 fail fun _ _ _ _ src _ => cphOut (sha512 src))

def execHmac384 (job : Nat) (fail : CphFail) (s : State) : Ans :=
  .next (s.runCph job opHmac384 fail fun _ _ key _ src _ => cphOut (hmac384 key src))

def execHmac512 (job : Nat) (fail : CphFail) (s : State) : Ans :=
  .next (s.runCph job opHmac512 fail fun _ _ key _ src _ => cphOut (hmac512 key src))

def execDerive (job : Nat) (fail : CphFail) (s : State) : Ans :=
  .next (s.runCph job opDerive fail fun s b key _ _ _ => s.deriveOf b key)

def execUnwrap (job : Nat) (fail : CphFail) (s : State) : Ans :=
  .next (s.runCph job opUnwrap fail fun s b key _ src plot => s.unwrapOf b plot key src)

def execSign (job : Nat) (fail : CphFail) (s : State) : Ans :=
  .next (s.runCph job opSign fail fun _ _ key _ src _ => cphOut (ecSign (beNat key) src))

def execVerify (job : Nat) (fail : CphFail) (s : State) : Ans :=
  .next (s.runCph job opVerify fail fun _ _ _ _ src _ => verifyOf src)

def execPubkey (job : Nat) (fail : CphFail) (s : State) : Ans :=
  .next (s.runCph job opPubkey fail fun _ _ key _ _ _ => cphOut (ecPublic (beNat key)))

/-! ## Cancellation, and the wipe -/

/-- The engine jobs that a test picks are cancelled (R465, R476): a waiting one at once, a running one at its next
boundary. The answer counts them. -/
def State.cphCancel (s : State) (f : CphJob → Bool) : State × Nat :=
  let l := s.cipher.jobs.filter fun j => f j && !j.cancel
  (l.foldl (fun s j =>
    if (s.cphOn j.engine).map (fun x => x.id) = some j.id then
      s.mapCipher fun c => { c with jobs := c.jobs.map fun x => if x.id = j.id then { x with cancel := true } else x }
    else (s.dropCphJob j).cphReport j.desc j.bytes j.plot j.furrow cphCancelled 0) s, l.length)

/-- The locks of a plot, or of one of its queues, are released: their jobs were cancelled (R472). -/
def State.freeLocks (s : State) (plot : Nat) (queue : Option Nat) : State :=
  s.cipher.locks.foldl (fun s l =>
    match l.2 with
    | .plot n q => if n = plot ∧ (queue = none ∨ queue = some q) then s.releaseLock l.1 (some plot) else s
    | .firmware => s) s

/-- The vault wipes every slot, and every job ends with KEY_LOST, what a running one wrote having been zeroed
(R475, R488). -/
def State.wipeVault (s : State) : State :=
  let jobs := s.cipher.jobs
  let s := jobs.foldl (fun s j => s.cphStopped j (cLen j.bytes) true []) s
  let s := (s.mapCipher fun c => { c with slots := [], jobs := [] }).settleLocks
  let s := (s.count Reg.CPH_CNT_WIPE 1).setBit Reg.CPH_ERR 4 true
  jobs.foldl (fun s j => s.cphReport j.desc j.bytes j.plot j.furrow cphKeyLost 0) s

end Sys2Proof.Machine
end

