-- ==== Sys2Proof/Machine/Furrow.lean ====
section
/-! DEFINITION. Furrow (R491 to R517): paths and their failures, START and FRW_SUBMIT, the commands of channel
programs, completions, destage, ploughing. -/

namespace Sys2Proof.Machine

open Sys2Proof

/-! ## READY (R518) -/

/-- FRW_KEYSLOT names a usable slot: plot 0's, XTS256, usage ENC and DEC, not spent. -/
def State.storageSlotOk (s : State) : Bool :=
  let n := s.fld Reg.FRW_KEYSLOT 11 0
  let a := s.reg (Reg.CPH_ALLOT + 4 * (n / 16))
  decide (256 ≤ n) && a.getLsbD 31 && bits a 11 0 == 0 && !s.slotSpent n &&
  (match s.keySlot n with
   | some k => k.kind == 4 && k.usage.testBit 0 && k.usage.testBit 1
   | none => false)

def State.frwReady (s : State) : Bool :=
  s.bit Reg.FRW_CTRL 0 && s.thrReady && (!s.bit Reg.FRW_CFG 29 || s.storageSlotOk)

/-! ## START and FRW_SUBMIT (R499 to R501) -/

/-- A path group is allotted to a plot (R493). -/
def State.groupOf (s : State) (g plot : Nat) : Bool :=
  let w := s.reg (Reg.FRW_GROUP + 4 * g)
  decide (g < 64) && w.getLsbD 31 && bits w 11 0 == plot

/-- The buffer of a channel command passes the checks of R456. -/
def State.bufOk (s : State) (plot : Nat) (c : List Byte) (write : Bool) : Bool :=
  engineAddrOk plot (ccBuf c) && (ccLen c == 0 || (s.engineXlat plot (ccBuf c) (ccLen c) write).isSome)

/-- The descriptor that a THRESH or a CIPHER names can be read and its status written. -/
def State.descAt (s : State) (plot : Nat) (c : List Byte) (n : Nat) : Option Nat :=
  if !engineAddrOk plot (ccTarget c) ∨ (s.engineXlat plot (ccTarget c) n false).isNone then none
  else match s.engineXlat plot (ccTarget c) n true with
    | some pa => if pa % n = 0 then some pa else none
    | none => none

/-- A channel command is one of R501, with the limits of R502. -/
def State.channelOk (s : State) (plot : Nat) (c : List Byte) : Bool :=
  let code := ccCode c
  let noBuf := ccBuf c == 0 && ccLen c == 0
  let blocks := ccLen c % 4096 == 0 && decide (ccLen c ≤ 2 ^ 24)
  let peer := ccGroup c == 0 && decide (ccArg c < 1024 ∧ 1 ≤ ccLen c ∧ ccLen c ≤ 2 ^ 24) && engineAddrOk plot (ccTarget c)
  zeroAt c 1 1 && zeroAt c 3 1 && zeroAt c 28 4 &&
  (if code = chRead then s.groupOf (ccGroup c) plot && blocks && s.bufOk plot c true
   else if code = chWrite then s.groupOf (ccGroup c) plot && blocks && s.bufOk plot c false
   else if code = chFlush then s.groupOf (ccGroup c) plot && ccTarget c == 0 && noBuf
   else if code = chPeerRead then peer && s.bufOk plot c true
   else if code = chPeerWrite then peer && s.bufOk plot c false
   else if code = chHostSend then
     ccGroup c == 0 && decide (ccArg c < 65536 ∧ 1 ≤ ccLen c ∧ ccLen c ≤ 2 ^ 20) && ccTarget c == 0 && s.bufOk plot c false
   else if code = chThresh then ccGroup c == 0 && ccArg c == 0 && noBuf && (s.descAt plot c 64).isSome
   else if code = chCipher then ccGroup c == 0 && ccArg c == 0 && noBuf && (s.descAt plot c 128).isSome
   else (code == chEngAcquire || code == chEngRelease) && ccGroup c == 0 && decide (4 ≤ ccArg c ∧ ccArg c ≤ 15) &&
     ccTarget c == 0 && noBuf)

/-- The job entry that a channel command will need (R500): 16 stands for the Thresher. -/
def State.entryFor (s : State) (plot : Nat) (c : List Byte) : List Nat :=
  if ccCode c = chThresh then [16]
  else if ccCode c = chCipher then
    match s.descAt plot c 128 with
    | some pa =>
      let e := cEngine (s.bytes pa 128)
      if 4 ≤ e ∧ e ≤ 15 then [e] else []
    | none => []
  else []

/-- The entries that a program needs can be reserved. -/
def State.entriesFree (s : State) (plot : Nat) (l : List Nat) : Bool :=
  let n := (l.filter (· = 16)).length
  let all := s.thresher.jobs.length + s.engineKept 16 fun _ => true
  let others := (s.thresher.jobs.filter fun j => j.plot ≠ 0).length + s.engineKept 16 fun o => o.plot ≠ 0
  (n == 0 || (decide (all + n ≤ 1024) && (plot == 0 || decide (others + n ≤ 768)))) &&
  l.all fun e => e == 16 ||
    decide ((s.cipher.jobs.filter fun j => j.engine = e).length + s.engineKept e (fun _ => true) + (l.filter (· = e)).length ≤ 64)

/-- The fixed part of an operation block is right (R499). -/
def blockOk (b : List Byte) : Bool :=
  leAt b 0 1 == 1 && decide (leAt b 1 1 ≤ 1) && decide (1 ≤ leAt b 2 2 ∧ leAt b 2 2 ≤ 64) && zeroAt b 4 4 && zeroAt b 24 8 &&
  zeroAt b 38 2 && zeroAt b 44 20

/-- An operation is started from the block at a physical address: the start code of the first check that fails, in
the order of R500's values, or STARTED. -/
def State.startOp (s : State) (plot block : Nat) (unit queue : Option Nat) : State × Nat :=
  let b := s.bytes block 64
  let n := leAt b 2 2
  let prog := s.engineXlat plot (leAt b 16 8) (32 * n) false
  if block % 64 ≠ 0 ∨ s.agentStatus frwStop block 64 ≠ .ok ∨ !blockOk b ∨ leAt b 16 8 % 32 ≠ 0 ∨ !engineAddrOk plot (leAt b 16 8) then (s, 1)
  else match prog with
    | none => (s, 1)
    | some pa =>
      if s.agentStatus frwStop pa (32 * n) ≠ .ok then (s, 1)
      else
        let bytes := b ++ s.bytes pa (32 * n)
        let cs := (List.range n).map fun i => chanCmd bytes i
        let need := cs.flatMap fun c => s.entryFor plot c
        let started := (s.furrow.ops.filter fun o => o.unit.isSome)
        if !(cs.all fun c => s.channelOk plot c) then (s, 2)
        else if 4096 ≤ s.furrow.ops.length ∨ (unit.isSome ∧ 3072 ≤ started.length) then (s, 3)
        else if unit.isSome ∧ s.fld Reg.FRW_CFG 24 16 ≤ (started.filter fun o => o.plot = plot).length then (s, 4)
        else if !s.entriesFree plot need then (s, 5)
        else if !s.frwReady ∨ s.safe then (s, 6)
        else
          let o : FrwOp :=
            { FrwOp.blank .program with plot := plot, optag := leAt b 8 8, unit := unit, queue := queue, block := block
                                        bytes := bytes, engines := need }
          ((s.addOp o).1.engineWrite (block + 32) (leBytes 2 frwRunning) false, 0)

/-- START (R290, R499, R500). -/
def execStart (u : Nat) (f : ImmF) (s : State) : Ans :=
  .next (s.execute u { reserved := f.imm == 0, level := 1 } fun s =>
    let a := (s.unit u).arch
    let ea := (a.reg f.ra).toNat
    let space := a.space 1
    match s.xlat u space ea 64 .write with
    | .error sub => .exc s (Exc.at exTranslate sub 1 (s.firstBad u space ea 64 .write))
    | .ok p =>
      let r : State × Nat :=
        if ea % 64 ≠ 0 then (s, 1) else s.startOp (s.unit u).execPlot p.pa (some u) ((s.txnOf u).map (·.queue))
      .done (r.1.mapArch u fun a => a.setReg f.rd (BitVec.ofNat 32 r.2)))

/-- A write of FRW_SUBMIT (R499, R518). -/
def State.frwSubmitAt (s : State) (addr : Nat) : State :=
  if addr % 64 ≠ 0 ∨ 2 ^ 46 ≤ addr then s.badw Reg.FRW_SUBMIT_HI
  else
    let r := s.startOp 0 addr none none
    r.1.setFld Reg.FRW_STATUS 7 4 r.2

def execFrwSubmit (m : Master) (addr : Nat) (s : State) : Ans :=
  .next (if s.writesReg m Reg.FRW_SUBMIT_HI then s.frwSubmitAt addr else s)

/-! ## Channel commands (R501 to R503) -/

/-- The current command of an operation, when it is one of a code, runs now: the operation may issue, nothing of it
is under way, and the device is not in safe state. -/
def State.runChannel (s : State) (op code : Nat) (f : State → FrwOp → List Byte → State) : State :=
  match s.op op with
  | none => s
  | some o =>
    if o.kind = .program ∧ o.done.isNone ∧ o.ending.isNone ∧ !o.busy ∧ s.opReady o ∧ !s.safe ∧ ccCode o.cmd = code then
      let o := { o with busy := true }
      f (s.setOp o) o o.cmd
    else s

/-- A command of an operation whose pieces have all been handed on: with none it is complete. -/
def State.settleOp (s : State) (id : Nat) : State :=
  match s.op id with
  | some o => if o.busy ∧ (s.cmdsOf id).isEmpty then s.opNext o else s
  | none => s

def execChannelRead (op : Nat) (s : State) : Ans :=
  .next (s.runChannel op chRead fun s o c =>
    match s.engineXlat o.plot (ccBuf c) (max 1 (ccLen c)) true with
    | none => s.opEnd o frwBadAddr 0 (ccLen c)
    | some pa =>
      ((pieces (ccTarget c) (zeros (ccLen c))).foldl (fun s p =>
        s.sendStorage o.id (ccGroup c) nvRead [ccArg c, p.1, p.2.length / 4096, pa + 4096 * (p.1 - ccTarget c)] []) s).settleOp o.id)

def execChannelWrite (op : Nat) (s : State) : Ans :=
  .next (s.runChannel op chWrite fun s o c =>
    match s.engineXlat o.plot (ccBuf c) (max 1 (ccLen c)) false with
    | none => s.opEnd o frwBadAddr 0 (ccLen c)
    | some pa =>
      if s.goodPrefix frwStop pa (ccLen c) false < ccLen c then s.opEnd o frwMemory 0 (ccLen c)
      else
        ((pieces (ccTarget c) (s.bytes pa (ccLen c))).foldl (fun s p =>
          s.sendStorage o.id (ccGroup c) nvWrite [ccArg c, p.1, p.2.length / 4096, pa + 4096 * (p.1 - ccTarget c)] p.2) s).settleOp o.id)

def execChannelFlush (op : Nat) (s : State) : Ans :=
  .next (s.runChannel op chFlush fun s o c => s.sendStorage o.id (ccGroup c) nvFlush [ccArg c] [])

/-- Pieces of a peer transfer, of at most 4,096 bytes: offset and length (R524; log entry 14). -/
def peerPieces (n : Nat) : List (Nat × Nat) := (List.range ((n + 4095) / 4096)).map fun i => (4096 * i, min 4096 (n - 4096 * i))

def execPeerRead (op : Nat) (s : State) : Ans :=
  .next (s.runChannel op chPeerRead fun s o c =>
    match s.engineXlat o.plot (ccBuf c) (ccLen c) true with
    | none => s.opEnd o frwBadAddr 0 (ccLen c)
    | some pa => (peerPieces (ccLen c)).foldl (fun s p =>
        s.sendStorage o.id (64 + ccArg c) peerRead [o.plot, ccTarget c + p.1, p.2, pa + p.1] []) s)

def execPeerWrite (op : Nat) (s : State) : Ans :=
  .next (s.runChannel op chPeerWrite fun s o c =>
    match s.engineXlat o.plot (ccBuf c) (ccLen c) false with
    | none => s.opEnd o frwBadAddr 0 (ccLen c)
    | some pa =>
      if s.goodPrefix frwStop pa (ccLen c) false < ccLen c then s.opEnd o frwMemory 0 (ccLen c)
      else (peerPieces (ccLen c)).foldl (fun s p =>
        s.sendStorage o.id (64 + ccArg c) peerWrite [o.plot, ccTarget c + p.1, p.2, pa + p.1] (s.bytes (pa + p.1) p.2)) s)

/-- HOST_SEND (R503): the parts leave as REPLY packets in increasing OFFSET, MORE on all but the last. -/
def execHostSend (op : Nat) (s : State) : Ans :=
  .next (s.runChannel op chHostSend fun s o c =>
    let r := queueRef o.plot (ccArg c)
    let n := (ccLen c + 8191) / 8192
    match s.engineXlat o.plot (ccBuf c) (ccLen c) false with
    | none => s.opEnd o frwBadAddr 0 (ccLen c)
    | some pa =>
      if (s.session? r).isNone then s.opEnd o frwNoSession 0 (ccLen c)
      else if s.goodPrefix frwStop pa (ccLen c) false < ccLen c then s.opEnd o frwMemory 0 (ccLen c)
      else
        let s := s.setOp { o with parts := n }
        (List.range n).foldl (fun s i =>
          let data := s.bytes (pa + 8192 * i) (min 8192 (ccLen c - 8192 * i))
          let body := tlv pOffset (beBytes 8 (8192 * i)) ++ tlv pData data
          s.queuePacket r tyReply (replyBytes 0xF0 (decide (i + 1 < n)) 0 (ccArg c) o.optag body) [(ccArg c, hostSlot + o.id)] false) s)

/-- A reserved job entry of an operation is used. -/
def State.useEntry (s : State) (id e : Nat) : State :=
  s.mapFurrow fun w => { w with ops := w.ops.map fun o => if o.id = id then { o with engines := o.engines.erase e } else o }

/-- THRESH submits its descriptor with the operation's plot (R458, R502). -/
def execThresh (op : Nat) (s : State) : Ans :=
  .next (s.runChannel op chThresh fun s o c =>
    match s.descAt o.plot c 64 with
    | none => s.opEnd o frwBadAddr 0 0
    | some pa => ((s.useEntry o.id 16).thrAccept pa o.plot (some o.id)).1)

/-- CIPHER submits its descriptor with the operation's plot (R474, R502). -/
def execCipher (op : Nat) (s : State) : Ans :=
  .next (s.runChannel op chCipher fun s o c =>
    match s.descAt o.plot c 128 with
    | none => s.opEnd o frwBadAddr 0 0
    | some pa => ((s.cphAccept pa o.plot false (some o.id)).1).useEntry o.id (cEngine (s.bytes pa 128)))

/-- ENG_ACQUIRE (R471, R502). -/
def execEngAcquire (op : Nat) (s : State) : Ans :=
  .next (s.runChannel op chEngAcquire fun s o c =>
    let s := s.acquireLock (ccArg c) (.plot o.plot (o.queue.getD 0xFFFF))
    match s.lockOf (ccArg c) with
    | some l => if l.same (some o.plot) then s.opNext o else s.opEnd o frwEngHeld 0 0
    | none => s.opEnd o frwEngHeld 0 0)

/-- ENG_RELEASE (R472, R502). -/
def execEngRelease (op : Nat) (s : State) : Ans :=
  .next (s.runChannel op chEngRelease fun s o c => (s.releaseLock (ccArg c) (some o.plot)).opNext o)

/-! ## Destage (R509 to R511, R516) -/

/-- The extent of a sheaf at an LBA: its bytes as stored, padded to whole blocks, and the LBA that follows it
(R510); uncompressed while every Thresher engine is offline (R617). -/
def State.extentOf (s : State) (size lba : Nat) (h : Sheaf) : List Byte × Nat :=
  let plain := h.header ++ h.body ++ h.chain ++ h.mac
  let packed := if s.bit Reg.FRW_CFG 28 ∧ s.thresher.offline.length < 8 then compressAll 0 0x64 [] plain else plain
  let short := decide (packed.length < plain.length)
  let stored := if short then packed else plain
  let n := (64 + stored.length + 4095) / 4096
  let next := ringLba size (lba + n)
  let head := fitTo 64 (leBytes 4 0x46525701 ++ leBytes 4 short.toNat ++ leBytes 8 h.epoch ++ leBytes 8 next ++
    leBytes 4 stored.length ++ leBytes 4 plain.length ++ leBytes 4 (storedCrc stored))
  (fitTo (4096 * n) (head ++ stored), next)

/-- Blocks of an operation are written: each run is encrypted under its LBAs (R510); the use of the key is counted
once. -/
def State.writeSealed (s : State) (o : FrwOp) (part : Bool) (runs : List (Nat × List Byte)) : State :=
  let s := if s.bit Reg.FRW_CFG 29 then (s.chargeSlot (if part then 9 else s.fld Reg.FRW_KEYSLOT 11 0)).1 else s
  (s.setOp { o with issued := true }).writeRuns o.id o.nsReg (runs.map fun r => (r.1, s.cryptBlocks true part r.1 r.2))

/-- An internal write goes out once its record is acknowledged (R497) and, for a chunk, its epoch has sealed
(R155). -/
def State.issueInternal (s : State) (o : FrwOp) : State :=
  if o.issued ∨ o.done.isSome ∨ !s.opReady o ∨ s.safe then s
  else match o.kind with
    | .destage p => s.writeSealed o p (ringRuns (s.nsSize o.nsReg) o.lba o.bytes)
    | .plough p (some _) =>
      if o.epoch ≤ s.journal.prevEpoch then s.writeSealed o p [(o.lba, o.bytes)] else s
    | .plough _ none => (s.setOp { o with issued := true }).writeRuns o.id o.nsReg [(o.lba, o.bytes)]
    | _ => s

/-- An internal operation that writes blocks begins. -/
def State.beginWrite (s : State) (k : FrwKind) (optag : Option Nat) (epoch lba : Nat) (bytes : List Byte) : State :=
  let a := s.addOp { FrwOp.blank k with epoch := epoch, lba := lba, blocks := bytes.length / 4096, bytes := bytes }
  let o := { a.2 with optag := optag.getD a.2.id }
  (a.1.setOp o).issueInternal o

/-- Sheaves that are being destaged. -/
def State.destaging (s : State) (part : Bool) : List Nat :=
  (s.furrow.ops.filter fun o => o.kind = .destage part ∧ o.done.isNone).map (·.epoch)

/-- The oldest own sheaf to destage that is not under way (R154, R509). -/
def State.ownToDestage (s : State) : Option Sheaf :=
  (s.journal.sheaves.filter fun h => h.kind = .own ∧ h.sealed ∧ !h.destaged ∧ !h.zeroed ∧ h.epoch ∉ s.destaging false).foldl
    (fun (r : Option Sheaf) h => match r with
      | some b => if h.epoch < b.epoch then some h else some b
      | none => some h) none

/-- The oldest partner sheaf that this device destages in its place (R516). -/
def State.partToDestage (s : State) : Option Sheaf :=
  (s.journal.sheaves.filter fun h => h.kind = .partner ∧ h.acked ∧ !h.coverOk ∧ !h.zeroed ∧ h.epoch ∉ s.destaging true).foldl
    (fun (r : Option Sheaf) h => match r with
      | some b => if h.epoch < b.epoch then some h else some b
      | none => some h) none

/-- The bytes of a sheaf cannot be read from the ring. -/
def State.sheafLost (s : State) (h : Sheaf) : Bool :=
  let n := min h.len (s.areaSize - h.offset)
  decide (s.goodPrefix frwStop (s.areaBase + h.offset) n false < n) ||
  decide (s.goodPrefix frwStop s.areaBase (h.len - n) false < h.len - n)

/-- The next own extent is placed and written, where it fits before what the newest checkpoint needs (R509 to
R511). A sheaf placed before keeps its place. -/
def State.destageOwn (s : State) (h : Sheaf) : State :=
  let size := s.nsSize Reg.FRW_NSDST
  if s.sheafLost h then s
  else match s.furrow.placed.lookup h.epoch with
    | some lba => s.beginWrite (.destage false) none h.epoch lba (s.extentOf size lba h).1
    | none =>
      let lba := s.furrow.nextLba
      let x := s.extentOf size lba h
      let used := (lba + (size - 16) - s.furrow.keepLba) % max 1 (size - 16)
      if size - 16 ≤ used + x.1.length / 4096 then
        (s.setBit Reg.FRW_ERR 5 true).mapFurrow fun w => { w with full := true }
      else
        let s := s.mapFurrow fun w =>
          { w with full := false, nextLba := x.2, placed := w.placed ++ [(h.epoch, lba)]
                   sweeps := w.sweeps.map fun y =>
                     if y.extLba.isNone ∧ y.baseEpoch < h.epoch then { y with extLba := some lba } else y }
        s.beginWrite (.destage false) none h.epoch lba x.1

/-- The next extent of the partner: one that its records name is re-driven in its place (R516). -/
def State.destagePart (s : State) (h : Sheaf) : State :=
  let size := s.nsSize Reg.FRW_NSPDST
  if s.sheafLost h then s
  else match s.furrow.partPlaced.find? fun r => r.1 = h.epoch with
    | some (_, lba, tag) => s.beginWrite (.destage true) (some tag) h.epoch lba (s.extentOf size lba h).1
    | none =>
      let lba := s.furrow.partLba
      let x := s.extentOf size lba h
      (s.mapFurrow fun w => { w with partLba := x.2, partPlaced := w.partPlaced ++ [(h.epoch, lba, s.furrow.nextOp)] }).beginWrite
        (.destage true) none h.epoch lba x.1

/-- Furrow takes the next sheaf: an own one, else after step B of a takeover one of the partner's; at most 8 are in
flight (R509, R516). -/
def execDestageExtent (t : Nat) (s : State) : Ans :=
  let s := s.advance t
  .next (if !s.frwReady ∨ s.safe ∨ s.furrow.restore.isSome then s
    else match s.ownToDestage with
      | some h => if s.fld Reg.FRW_NSDST 25 0 = 0 ∨ 8 ≤ (s.destaging false).length then s else s.destageOwn h
      | none =>
        if !s.furrow.partDest ∨ s.fld Reg.FRW_NSPDST 25 0 = 0 ∨ 8 ≤ (s.destaging true).length then s
        else match s.partToDestage with
          | some h => s.destagePart h
          | none => s)

/-- Extents are reported destaged in increasing EPOCH, each when it and all before it are durable; then their
records end (R497, R509). -/
def State.reportExtents (s : State) (part : Bool) : Nat → State
  | 0 => s
  | fuel + 1 =>
    let owed (h : Sheaf) : Bool := !h.zeroed && (if part then h.kind == .partner && h.acked && !h.coverOk
      else h.kind == .own && h.sealed && !h.destaged)
    let l := s.furrow.ops.filter fun o => o.kind = .destage part ∧ o.done.isNone ∧
      !(s.journal.sheaves.any fun h => owed h && decide (h.epoch < o.epoch))
    let first := l.foldl (fun (r : Option FrwOp) o => match r with
      | some b => if o.epoch < b.epoch then some o else some b
      | none => some o) none
    match first with
    | some o =>
      if o.issued ∧ (s.cmdsOf o.id).isEmpty then
        let s := s.closeOp o 0
        let s := if part then (s.coverPartner o.epoch).freeSheaves else s.reportDestaged o.epoch
        let s := s.mapFurrow fun w =>
          { w with placed := if part then w.placed else w.placed.filter fun p => p.1 ≠ o.epoch
                   partPlaced := if part then w.partPlaced.filter fun p => p.1 ≠ o.epoch else w.partPlaced }
        s.reportExtents part fuel
      else s
    | none => s

/-! ## Ploughing (R155, R512, R513) -/

/-- Where a sweep reads and how much, in GiB. -/
def State.sweepBase (s : State) (part : Bool) : Nat := if part then s.reg64 Reg.JNL_REPL_BASE_LO else s.reg64 Reg.JNL_LIVE_BASE_LO
def State.sweepSize (s : State) (part : Bool) : Nat := if part then s.fld Reg.JNL_REGION 12 0 else s.fld Reg.JNL_REGION 28 16

/-- A sweep changed. -/
def State.setSweep (s : State) (x : Sweep) : State :=
  s.mapFurrow fun w => { w with sweeps := w.sweeps.map fun y => if y.part = x.part then x else y }

/-- The header block of a sweep (R513). -/
def State.sweepHeader (s : State) (x : Sweep) (complete : Bool) : List Byte :=
  ckptHeader complete x.seq x.baseEpoch x.baseChain (x.extLba.getD s.furrow.nextLba) s.devId (s.sweepSize x.part)

/-- A sweep begins with its header, COMPLETE 0. The number of a sweep that nothing has told is a free value (log
entry 3). -/
def State.startSweep (s : State) (part : Bool) : State :=
  let known := if part then none else s.furrow.ploughSeq
  let seq := match known with
    | some n => n + 1
    | none => s.free % 2 ^ 64
  let s := if known.isNone then s.drawn else s
  let areaB := if part then decide (seq % 2 = 1) else !s.furrow.areaB
  let x : Sweep :=
    { part := part, seq := seq, area := areaLba areaB (s.sweepSize part), baseEpoch := s.journal.prevEpoch
      baseChain := s.journal.prevChain, extLba := none, next := 0, last := s.time, stage := 0 }
  let s := s.mapFurrow fun w =>
    { w with sweeps := w.sweeps ++ [x], ploughSeq := if part then w.ploughSeq else some seq
             areaB := if part then w.areaB else areaB }
  s.beginWrite (.plough part none) none s.epoch x.area (s.sweepHeader x false)

/-- The chunks of a sweep that are read and not durable. -/
def State.chunksOut (s : State) (part : Bool) : List FrwOp :=
  s.furrow.ops.filter fun o => o.done.isNone && (match o.kind with
    | .plough p _ => p == part
    | _ => false)

/-- The time between two chunks of 1 MiB at RATE × 100 MB/s. -/
def State.chunkNs (s : State) : Nat := 10485760 / max 1 (s.fld Reg.FRW_PLOUGH 6 0)

/-- The next thing that a sweep does: a chunk is read, with the epoch that is open then; after the last one is
durable, the header goes out with COMPLETE 1 once the first extent after BASE_EPOCH has its place. -/
def State.sweepStep (s : State) (x : Sweep) : State :=
  let n := s.sweepSize x.part * 1024
  if x.stage = 0 then s
  else if x.stage = 2 then s
  else if x.next < n then
    if s.time < x.last + s.chunkNs then s
    else
      let pa := s.sweepBase x.part + 2 ^ 20 * x.next
      if s.tick.rollback.isSome then s
      else if s.goodPrefix frwStop pa (2 ^ 20) false < 2 ^ 20 then s.setSweep { x with last := s.time }
      else
        let s := s.setSweep { x with next := x.next + 1, last := s.time }
        s.beginWrite (.plough x.part (some x.next)) none s.epoch (x.area + 1 + 256 * x.next) (s.bytes pa (2 ^ 20))
  else if !(s.chunksOut x.part).isEmpty then s
  else
    let owed := s.journal.sheaves.any fun h => h.kind == .own && h.sealed && !h.destaged && !h.zeroed &&
      decide (h.epoch ≤ x.baseEpoch) && (s.furrow.placed.lookup h.epoch).isNone
    if x.extLba.isNone ∧ owed then s
    else
      let x := { x with stage := 2, extLba := some (x.extLba.getD s.furrow.nextLba) }
      (s.setSweep x).beginWrite (.plough x.part none) none s.epoch x.area (s.sweepHeader x true)

/-- The survivor ploughs its replica too (R513). -/
def State.ploughsPart (s : State) : Bool := (s.part == 7 || s.part == 8 || s.part == 9) && s.fld Reg.FRW_NSPPLG 25 0 != 0

/-- One sweep of the two: it begins, or goes on. -/
def State.sweepOn (s : State) (part : Bool) : State :=
  match s.furrow.sweeps.find? fun x => x.part = part with
  | some x => s.sweepStep x
  | none => if (if part then s.ploughsPart else s.fld Reg.FRW_NSPLG 25 0 ≠ 0) then s.startSweep part else s

/-- Chunks whose epoch has sealed are written, and the sweeps go on (R155, R512, R513). -/
def execPloughChunk (t : Nat) (s : State) : Ans :=
  let s := s.advance t
  .next (if !s.frwReady ∨ s.safe ∨ s.furrow.restore.isSome ∨ !s.bit Reg.FRW_PLOUGH 31 then s
    else
      let s := (s.chunksOut false ++ s.chunksOut true).foldl State.issueInternal s
      (s.sweepOn false).sweepOn true)

/-- A block of a sweep is durable. -/
def State.ploughed (s : State) (o : FrwOp) (part : Bool) (chunk : Option Nat) : State :=
  let s := s.closeOp o 0
  match chunk, s.furrow.sweeps.find? fun x => x.part = part with
  | none, some x =>
    if x.stage = 0 then s.setSweep { x with stage := 1 }
    else
      let keep := x.extLba.getD s.furrow.keepLba
      s.mapFurrow fun w =>
        { w with sweeps := w.sweeps.filter (fun y => y.part ≠ part), keepLba := if part then w.keepLba else keep }
  | _, _ => s

/-! ## Completions (R504, R508) -/

/-- The status of an operation whose storage command fails (R505). -/
def nvStatus (sc : Nat) : Nat :=
  if sc % 2048 = 0x83 then frwConflict else if sc % 2048 = 0x0B then frwBadNs else frwNvme

/-- A command is over: those that wait may go. -/
def State.dropCmd (s : State) (tag : Nat) : State :=
  (s.mapFurrow fun w => { w with cmds := w.cmds.filter fun c => c.tag ≠ tag }).kick

/-- A Reservation Report shows a key. -/
def reportKey (b : List Byte) (key : Nat) : Bool :=
  (List.range (leAt b 5 2)).any fun i => leAt b (24 + 24 * i + 16) 8 == key

/-- A Reservation Report shows what a re-driven command was to bring about (R508): this device's key registered,
holding, or not holding. -/
def State.reportShows (s : State) (what : Nat) (b : List Byte) : Bool :=
  let n := leAt b 5 2
  let mine (i : Nat) : Bool := leAt b (24 + 24 * i + 16) 8 == s.resvKey s.devId
  let holds := (List.range n).any fun i => mine i && leAt b (24 + 24 * i + 2) 1 % 2 == 1
  if what = nvRegister then (List.range n).any mine else if what = nvRelease then !holds else holds

/-- A command of a program is over (R501 to R505): data read go to their buffer, an error stops the program. -/
def State.programCmd (s : State) (o : FrwOp) (c : FrwCmd) (st sc : Nat) (bytes : List Byte) : State :=
  let reads := decide (c.what = nvRead ∨ c.what = peerRead)
  let n := c.size
  let dest := (s.engineXlat o.plot (ccBuf o.cmd) (max 1 (ccLen o.cmd)) true).isSome
  if st ≠ 0 then
    if o.ending.isSome then (if (s.cmdsOf o.id).isEmpty then s.opNext o else s) else s.opStop o st sc n
  else if reads ∧ !dest then
    if o.ending.isSome then (if (s.cmdsOf o.id).isEmpty then s.opNext o else s) else s.opStop o frwBadAddr 0 n
  else
    let s := if reads then s.engineWrite (c.args.getD 3 0) (fitTo n bytes) false else s
    if (s.cmdsOf o.id).isEmpty then s.opNext o else s

/-- A reservation command of a report or a takeover step is only over, as its outcome has a row; but where step A finds
no key to remove, or a Preempt was re-driven, a report is to show its absence (R508), and the further namespaces of step
B follow the first (R172). The others end their operation when none is left, a re-driven one after a report (R508, R515). -/
def State.arbCmdDone (s : State) (o : FrwOp) (what : Nat) (c : FrwCmd) (sc : Nat) (bytes : List Byte) : State :=
  if what = arbReport then s
  else if what = arbStepA then
    if c.what = nvAcquire ∧ (sc % 2048 = 0x83 ∨ 0 < c.redrive) then s.sendStorage o.id c.group nvReport [c.args.getD 0 0] [] else s
  else if what = arbStepB then
    if c.what = nvAcquire ∧ 0 < c.redrive then s.sendStorage o.id c.group nvReport [c.args.getD 0 0] []
    else if sc = 0 ∧ o.next = 0 ∧ (c.what = nvAcquire ∨ !reportKey bytes (s.resvKey (s.fld Reg.TWN_CFG 25 16))) then (s.setOp { o with next := 1 }).preempt o.id (s.stepBNames.drop 1) else s
  else if 0 < c.redrive ∧ c.what ≠ nvReport then
    s.sendStorage o.id c.group nvReport [c.args.getD 0 0, c.what] []
  else
    let ok := if c.what = nvReport then s.reportShows (c.args.getD 1 0) bytes else decide (sc = 0)
    let s := if sc % 2048 = 0x83 then s.setBit Reg.FRW_ERR 4 true else s
    if !ok then s.dropOp o.id
    else if (s.cmdsOf o.id).isEmpty then (s.endArb what).returnStored what else s

/-- A command of an operation is over, with a status of R505 and its NVMe status. -/
def State.cmdDone (s : State) (c : FrwCmd) (st sc : Nat) (bytes : List Byte) : State :=
  let s := s.dropCmd c.tag
  match s.op c.op with
  | none => s
  | some o =>
    match o.kind with
    | .program => s.programCmd o c st sc bytes
    | .arb what => s.arbCmdDone o what c sc bytes
    | .destage p =>
      if st ≠ 0 then
        let s := if st = frwConflict then s.setBit Reg.FRW_ERR 4 true else s
        s.closeOp o st
      else s.reportExtents p 9
    | .plough p k =>
      if st ≠ 0 then
        let s := if st = frwConflict then s.setBit Reg.FRW_ERR 4 true else s
        (s.dropOp o.id).mapFurrow fun w => { w with sweeps := w.sweeps.filter fun y => y.part ≠ p }
      else if (s.cmdsOf o.id).isEmpty then s.ploughed o p k else s
    | .restore =>
      if st ≠ 0 then s.sendStorage o.id c.group c.what c.args []
      else (s.restoreData c.lba (fitTo c.size bytes)).bootRestored

/-- A storage command completes on its path (R504). -/
def execNvmeCompletion (t tag status : Nat) (bytes : List Byte) (s : State) : Ans :=
  let s := s.advance t
  .next (match s.furrow.cmds.find? fun c => c.tag = tag ∧ c.group < 64 with
    | some c =>
      match c.path with
      | some p =>
        let s := s.sample 0x0A p ((s.time - c.issued) / 1000)
        s.cmdDone c (if status = 0 then 0 else nvStatus status) status bytes
      | none => s
    | none => s)

/-- The partner acknowledges a record (R497): an ended one is freed, another operation may issue. -/
def State.recordAcked (s : State) (op : Nat) : State :=
  match s.op op with
  | none => s
  | some o =>
    if o.done.isSome then s.dropOp op
    else
      let o := { o with acked := true }
      (s.setOp o).issueInternal o

def execChannelRecordAck (op : Nat) (s : State) : Ans := .next (s.recordAcked op)

/-- The completion of a command that has been re-driven arrives on its old path: discarded and counted (R507). -/
def execFurrowLateCompletion (tag : Nat) (s : State) : Ans :=
  .next (if s.furrow.nextTag ≤ tag ∨ (s.furrow.cmds.any fun c => c.tag = tag ∧ c.redrive = 0) then s
    else (s.setBit Reg.FRW_ERR 3 true).count Reg.FRW_CNT_LATE 1)

/-! ## Paths (R492, R494, R495, R506 to R508) -/

/-- KATO and the interval of Keep Alive, in ns (R494). -/
def kato : Nat := 1000000000
def kaEvery : Nat := 250000000

/-- The commands on a path are put back to wait; what they may still write is held (R506, R507). -/
def State.unissue (s : State) (n : Nat) : State :=
  s.mapFurrow fun w =>
    { w with holds := w.holds ++ ((w.cmds.filter fun c => c.path = some n ∧ c.write).map fun c =>
               { path := n, group := c.group, nsid := c.args.getD 0 0, lba := c.lba, bytes := c.bytes, until_ := s.time + 2 * kato })
             cmds := w.cmds.map fun c => if c.path = some n then { c with path := none, redrive := c.redrive + 1, issued := s.time } else c }

/-- A path fails (R506): its commands are re-driven; a peer request with no other path has no answer (R505). -/
def State.failPath (s : State) (p : Path) : State :=
  let s := s.mapPath p.num fun x => { x with state := .failed, failed := s.time }
  let s := (s.count Reg.FRW_CNT_PATHFAIL 1).errEvent Reg.FRW_ERR 1 Src.furrow 1 noPlot p.num
  let peers := if p.kind = 2 ∧ (s.readyPaths (64 + p.dev)).isEmpty then s.furrow.cmds.filter fun c => c.path = some p.num else []
  let s := peers.foldl (fun s c => s.cmdDone c frwPeer 0 []) s
  (s.unissue p.num).kick

def execPathFail (t path : Nat) (s : State) : Ans :=
  let s := s.advance t
  .next (match s.path path with
    | some p => if p.state = .ready ∨ p.state = .connecting then s.failPath p else s
    | none => s)

/-- Keep Alive (R494). -/
def execKeepAlive (t path : Nat) (s : State) : Ans :=
  let s := s.advance t
  .next (match s.path path with
    | some p =>
      if p.kind = 1 ∧ p.state = .ready ∧ p.lastKa + kaEvery ≤ s.time ∧ !s.safe then
        let tag := s.furrow.nextTag
        let s := (s.mapFurrow fun w => { w with nextTag := tag + 1 }).mapPath path fun x => { x with lastKa := s.time }
        s.furrowFrame path (.storage path tag 0x18 [] [])
      else s
    | none => s)

/-- A failed path tries again 10 ms after it failed (R492). -/
def execPathReconnect (t path : Nat) (s : State) : Ans :=
  let s := s.advance t
  .next (match s.path path with
    | some p =>
      if p.state = .failed ∧ p.failed + 10000000 ≤ s.time ∧ !s.safe then s.mapPath path fun x => { x with state := .connecting }
      else s
    | none => s)

/-- A path is READY: its association is new, so its holds end (R492, R507). A WEFT path needs a route. -/
def execPathReady (t path : Nat) (s : State) : Ans :=
  let s := s.advance t
  .next (match s.path path with
    | some p =>
      if p.state = .connecting ∧ !s.safe ∧ (p.kind = 1 ∨ (s.routeTo p.dev).isSome) then
        let s := s.mapPath path fun x => { x with state := .ready, lastKa := s.time }
        (s.mapFurrow fun w => { w with holds := w.holds.filter fun h => h.path ≠ path }).kick
      else s
    | none => s)

/-- The hold of a failed path ends after 2 × KATO (R507). -/
def execFailedPathWriteHoldExpire (t path : Nat) (s : State) : Ans :=
  let s := s.advance t
  .next ((s.mapFurrow fun w => { w with holds := w.holds.filter fun h => h.path ≠ path ∨ s.time < h.until_ }).kick)

/-- A program whose command has waited PATHWAIT for a READY path ends with PATHS; the others go on waiting (R508). -/
def execPathwaitExpire (t op : Nat) (s : State) : Ans :=
  let s := s.advance t
  .next (match s.op op with
    | some o =>
      if o.kind = .program ∧ o.ending.isNone ∧ ((s.cmdsOf op).any fun c =>
          c.path.isNone && (s.readyPaths c.group).isEmpty && decide (c.issued + s.fld Reg.FRW_CFG 15 8 * 10000000 < s.time)) then
        let left := ((s.cmdsOf op).filter fun c => c.path.isNone).map FrwCmd.size
        (s.mapFurrow fun w => { w with cmds := w.cmds.filter fun c => c.op ≠ op || c.path.isSome }).opStop o frwPaths 0 left.sum
      else s
    | none => s)

/-- A congestion notification halves the sending rate of the path's queue pair, which recovers over 50 µs (R495). -/
def execCnpReceive (t path : Nat) (s : State) : Ans :=
  let s := s.advance t
  .next (s.mapPath path fun p =>
    let now := min 1024 (p.rate + (s.time - p.rateAt) * (1024 - p.rate) / 50000)
    { p with rate := now / 2, rateAt := s.time })

end Sys2Proof.Machine
end

