-- ==== Sys2Proof/Machine/Weft.lean ====
section
/-! DEFINITION. Weft (chapter 19): bring-up, failure and replay of links (R521, R523), frames for other devices
(R524, R527), STATE frames (R161, R481, R497), remote stakes at both ends (R103 to R118), remote records (R530 to
R532), spanning transactions at a home (R533), probes and lost devices (R538), peer requests (R502). -/

namespace Sys2Proof.Machine

open Sys2Proof

/-! ## Links -/

/-- EN and LOCK of WFT_CTRL (R540). -/
def State.linkEnabled (s : State) (l : Nat) : Bool := decide (l < 6) && s.bit Reg.WFT_CTRL l
def State.weftLocked (s : State) : Bool := s.bit Reg.WFT_CTRL 31

/-- STATE of WFT_LSTATn (R523). -/
def WState.code : WState → Nat
  | .off => 0 | .train => 1 | .align => 2 | .ident => 3 | .up => 4 | .failed => 5

/-- A link moves to a state. -/
def State.linkTo (s : State) (l : Nat) (st : WState) : State := s.mapLink l fun x => { x with state := st }

/-- A link enters IDENT and sends its LINK flit: device ID, link number, FEAT0.PART, revision (R523). -/
def State.enterIdent (s : State) (l : Nat) : State :=
  (s.linkTo l .ident).sendFlit l flitLink false (linkBody s.devId l ((s.feat 0 0).toNat / 65536))

/-- A link fails (R523). -/
def State.failLink (s : State) (l : Nat) : State :=
  let s := s.mapLink l fun x => { x with state := .failed, failAt := s.time, replays := 0 }
  s.errEvent Reg.WFT_ERR 1 (Src.link l) 2 noPlot l

/-- A write of WFT_CTRL: a link whose EN bit is set leaves OFF, one whose bit is cleared goes there, and LOCK lets
the aligned ones enter IDENT (R523). -/
def State.writeWftCtrl (s : State) (v : Word) : State :=
  let s := s.writeFields Reg.WFT_CTRL v
  (List.range 6).foldl (fun s l =>
    let st := (s.link l).state
    if !s.linkEnabled l then (if st = .off then s else s.linkTo l .off)
    else if st = .off then s.linkTo l .train
    else if st = .align ∧ s.weftLocked then s.enterIdent l
    else s) s

/-- A link completes training and alignment; it enters IDENT once WFT_CTRL.LOCK is 1 (R523). -/
def execWeftLinkAligned (link : Nat) (s : State) : Ans :=
  .next (if s.linkEnabled link ∧ ((s.link link).state = .train ∨ (s.link link).state = .align) then
      (if s.weftLocked then s.enterIdent link else s.linkTo link .align)
    else s)

/-- The peer's LINK flit arrives in IDENT: the own ID or another revision fails the link; else it is UP (R523), and an uplink
has its delay to be measured (R83). -/
def State.identified (s : State) (l peer peerLink rev : Nat) : State :=
  if peer % 1024 = s.devId then (s.setBit Reg.WFT_ERR 2 true).failLink l
  else if rev ≠ 1 then s.failLink l
  else
    let s := (s.linkTo l .up).mapLink l fun x => { x with upAt := s.out.length }
    let s := if s.tickSel = 2 ∧ l = s.fld Reg.TCK_SRC 6 4 then s.mapWeft fun w => { w with delayTick := none } else s
    (s.setFld (linkReg Reg.WFT_LSTAT l) 25 16 (peer % 1024)).setFld (linkReg Reg.WFT_LSTAT l) 6 4 (peerLink % 8)

def execLinkFlit (link peer peerLink rev : Nat) (s : State) : Ans :=
  .next (if (s.link link).state = .ident then s.identified link peer peerLink rev else s)

/-- Lock is lost on a lane (R523). -/
def execWeftLinkFail (t link : Nat) (s : State) : Ans :=
  let s := s.advance t
  .next (if link < 6 ∧ (s.link link).state ≠ .off ∧ (s.link link).state ≠ .failed then s.failLink link else s)

/-- A failed link trains again every 10 ms (R523). -/
def execWeftRetrain (t link : Nat) (s : State) : Ans :=
  let s := s.advance t
  let x := s.link link
  .next (if s.linkEnabled link ∧ x.state = .failed ∧ x.failAt + 10000000 ≤ s.time then s.linkTo link .train else s)

/-- The peer asks for replay from a flit (R521): counted, an event, and the flits of the replay buffer from it on are sent
again; the link fails when one flit is replayed more than MAXREPLAY times in a row. -/
def State.replayFlit (s : State) (l seq : Nat) : State :=
  let x := s.link l
  let n := if x.replays ≠ 0 ∧ x.flit = seq then x.replays + 1 else 1
  let s := s.mapLink l fun x => { x with flit := seq, replays := n }
  let s := s.mapAlmanac fun a => { a with replays := sput a.replays l (sget (fun _ => 0) a.replays l + 1) }
  let s := (s.count (linkReg Reg.WFT_CNT_REPLAY l) 1).event (Src.link l) 1 (detail noKind noPlot l)
  if s.fld Reg.WFT_CFG 11 8 < n then s.failLink l else (s.replayFrom l seq).foldl (fun s b => s.emit (.flit l b)) s

def execWeftReplay (link seq : Nat) (s : State) : Ans :=
  .next (if s.linkUp link then s.replayFlit link (seq % 1024) else s)

/-- A flit in error (R521, R540): a correction by FEC is counted; a CRC error is counted and answered with NAK, a gap in
SEQ with NAK, in an IDLE flit. The flit expected, which ACKSEQ names, is a free value (log entry 21). -/
def execWeftFlitError (link : Nat) (e : FlitError) (s : State) : Ans :=
  .next (if 6 ≤ link ∨ (s.link link).state = .off then s
    else match e with
      | .corrected => s.count (linkReg Reg.WFT_CNT_FEC link) 1
      | .crc => (s.count (linkReg Reg.WFT_CNT_FECUE link) 1).sendFlit link flitIdle true []
      | .gap => s.sendFlit link flitIdle true [])

/-! ## Frames for other devices -/

/-- A header that no rule of R524 discards. -/
def frameOk (b : List Byte) : Bool :=
  let ty := beAt b 0 1
  decide (16 ≤ b.length) && (decide (1 ≤ ty ∧ ty ≤ 6) || decide (0x10 ≤ ty ∧ ty ≤ 0x1C)) && beAt b 1 1 == 0 &&
  decide (beAt b 2 2 < 1024) && decide (beAt b 4 2 < 1024) && beAt b 7 1 == 0 && beAt b 10 2 == 0 &&
  decide (beAt b 8 2 ≤ 4112) && b.length == 16 + beAt b 8 2

/-- A frame for another device is sent on, one hop further, or discarded (R524, R527, R529). -/
def State.forwardFrame (s : State) (l : Nat) (b : List Byte) : State :=
  if !frameOk b then s.count (linkReg Reg.WFT_CNT_FECUE l) 1
  else
    let dst := beAt b 2 2
    let hops := beAt b 6 1
    if dst = s.devId ∨ beAt b 0 1 ≤ wfRebuild ∨ s.safe then s
    else if 6 ≤ hops then s.setBit Reg.WFT_ERR 3 true
    else match s.routeTo dst with
      | some out => s.emit (.frame out (overlay b 6 (beBytes 1 (hops + 1))))
      | none => s.setBit Reg.WFT_ERR 4 true

def execWeftFrameForward (link : Nat) (bytes : List Byte) (s : State) : Ans :=
  .next (if s.linkUp link then s.forwardFrame link bytes else s)

/-! ## STATE frames -/

/-- The confirmation of a copy that a command waits for (R161). -/
def State.confirmCopy (s : State) (tag : Nat) : State :=
  if tag = 0 then s else s.mirrorSend wfState (beBytes 1 stConfirm ++ beBytes 8 tag)

/-- The copy of a plot arrives: a partner's is kept, an own one comes back to a returning device (R160, R179). -/
def State.takePlotCopy (s : State) (b : List Byte) : State :=
  if (descOf (slice b 2 1024)).adopted then
    (if s.own = ownTaken ∨ s.own = ownRebuilding ∨ s.own = ownReady then s.plotFromCopy true b else s)
  else s.mapTwin fun w => { w with copies := sput w.copies (beAt b 0 2) b }

/-- The record of an operation of the partner arrives and is acknowledged (R497); that of a destage shows where its
next extent goes. -/
def State.takeRecord (s : State) (b : List Byte) : State :=
  let id := beAt b 0 8
  let r := b.drop 8
  let size := s.nsSize Reg.FRW_NSPDST
  let s := s.mapFurrow fun w =>
    { w with partOps := if leAt r 11 1 = 2 then sdel w.partOps id else sput w.partOps id r
             partLba := if leAt r 10 1 = 1 ∧ leAt r 11 1 = 1 then
                 (let n := leAt r 28 8 + leAt r 36 4
                  if size ≤ n ∧ 16 < size then 16 + (n - 16) % (size - 16) else n)
               else w.partLba }
  s.mirrorSend wfState (beBytes 1 stFrwAck ++ beBytes 8 id)

/-- A key that the partner kept comes back into its slot (R481). -/
def State.takeKeyBack (s : State) (blob : List Byte) : State :=
  match s.openBlob blob with
  | some r => s.fillSlot (beAt r 0 2) { keyOfRecord r with count := beAt r 14 8 }
  | none => s

/-- The survivor tells a returning device what it sealed last (R138). -/
def State.takeChain (s : State) (b : List Byte) : State :=
  if s.own = ownTaken ∨ s.own = ownRebuilding then
    s.mapJournal fun j => { j with prevEpoch := beAt b 0 8, prevChain := slice b 8 48 }
  else s

/-- A STATE frame from the partner (R138, R161, R481, R497; layout log entry 14). -/
def State.takeState (s : State) (b : List Byte) : State :=
  let kind := beAt b 0 1
  let tag := beAt b 1 8
  let rest := b.drop 9
  let s := s.seen s.partnerId
  if kind = stPlot then (s.takePlotCopy rest).confirmCopy tag
  else if kind = stPlotGone then
    (s.mapTwin fun w => { w with copies := sdel w.copies (beAt rest 0 2) }).confirmCopy tag
  else if kind = stKey then
    (s.mapCipher fun c => { c with blobs := sput c.blobs (beAt rest 0 4) (rest.drop 4) }).confirmCopy tag
  else if kind = stKeyGone then
    (s.mapCipher fun c => { c with blobs := sdel c.blobs (beAt rest 0 4) }).confirmCopy tag
  else if kind = stFrwOp then s.takeRecord (b.drop 1)
  else if kind = stFrwAck then s.recordAcked tag
  else if kind = stConfirm then s.mirrorConfirmed tag
  else if kind = stKeyBack then s.takeKeyBack (rest.drop 4)
  else if kind = stChain then s.takeChain rest
  else s

def execStateFrame (bytes : List Byte) (s : State) : Ans :=
  .next (if s.safe ∨ !s.paired then s else s.takeState bytes)

/-! ## Remote stakes -/

/-- A remote STAKE request joins those of its slice; one from outside the tick tree is refused with FULL (R116,
R117). -/
def execStakeReq (dev : Nat) (who : Party) (ns key : Nat) (excl inTree : Bool) (s : State) : Ans :=
  .next (if s.safe then s
    else
      let s := s.seen dev
      if !inTree then
        ((s.setBit Reg.STK_ERR 5 true).stakeRefusal (s.sliceOf ns key) ns stFull).answerRequest ns key (some stFull) who
      else s.sendStakeOp s.devId ns key who (.request excl))

/-- The attempt of a party still runs here (R104, R107). -/
def State.sameTxn (s : State) (p : Party) : Bool :=
  (s.tslot p.slot).any fun t => t.stamp == p.stamp && t.seq == p.seq && t.attempt == p.attempt

/-- A grant or refusal of a home: it goes to the stake cache that awaits it; a grant that comes later is answered with
a release, unless the stake is held (R116; log entry 22). -/
def State.remoteAnswer (s : State) (home : Nat) (who : Party) (ns key code : Nat) : State :=
  let r := if s.sameTxn who then (s.stakeRec who.slot ns key).filter (·.home = home) else none
  let awaits := (r.bind (·.waits)).isSome
  if awaits then
    match r with
    | some r =>
      let s := s.putStakeRec { r with queued := true }
      if code = stQueued then s
      else s.mapStakes fun k => { k with grants := k.grants ++ [{ slot := who.slot, ns := ns, key := key, code := code }] }
    | none => s
  else
    let held := (r.bind (·.held))
    let kept := held == some true || (held == some false && code == stGranted)
    if (code = stGranted ∨ code = stUpgraded) ∧ !kept then s.sendStakeOp home ns key who .release else s

/-- The home device answers a remote STAKE (R116). -/
def execStakeRsp (t : Nat) (m : StakeMsg) (ns key code : Nat) (s : State) : Ans :=
  let s := s.advance t
  .next (if s.safe then s else (s.seen m.dev).remoteAnswer m.dev m.who ns key code)

/-- A message about a stake that needs no answer: a release or a withdrawal at the home, a later grant or a wound, of a
holder or by key, at the requester (R105 to R107, R111, R116). -/
def execStakeFwd (m : StakeMsg) (ns key : Nat) (kind : FwdKind) (s : State) : Ans :=
  .next (if s.safe then s
    else match kind with
      | .release => (s.seen m.dev).sendStakeOp s.devId ns key m.who .release
      | .withdraw => (s.seen m.dev).sendStakeOp s.devId ns key m.who .withdraw
      | .grant code => (s.seen m.dev).remoteAnswer m.dev m.who ns key code
      | .wound => (s.seen m.dev).woundLocal 16 m.who
      | .woundByKey => (s.seen m.dev).woundByKey 16 m.dev ns key m.who)

/-! ## Remote records at the home -/

/-- What the checks of R531 find of an access: the physical address, and whether its segment is JOURNALED; none where
they deny it. -/
def State.recSegment (s : State) (dev plot : Nat) (slot : Option Nat) (off len : Nat) (write : Bool) : Option (Nat × Bool) :=
  let pa := s.reg64 Reg.JNL_LIVE_BASE_LO + off
  let holds := slot.any fun n => s.stakes.entries.any fun e => e.holders.any fun h => h.dev == dev && h.slot == n
  if len = 0 ∨ s.fld Reg.JNL_REGION 28 16 * 2 ^ 30 < off + len then none
  else
    (s.plot plot).bind fun p =>
      if !p.own then none
      else
        (p.spaces.find? fun e => e.2.attr.testBit 0 && e.2.attr.testBit (if write then 2 else 1) &&
          decide (e.2.base ≤ pa ∧ pa + len ≤ e.2.base + e.2.pages * 4096)).bind fun e =>
          if e.2.journaled && !holds then none else some (pa, e.2.journaled)

/-- The answer to a remote access: 0 performed, 1 POISON, 2 refused by the limit of line entries (R531, R532; layout
log entry 14). -/
def State.answerRec (s : State) (dev tag code epoch : Nat) (bytes : List Byte) : State :=
  s.weftSend dev wfRecRsp (beBytes 4 tag ++ beBytes 1 code ++ beBytes 8 epoch ++ bytes)

/-- A remote transaction has read an unsealed epoch (R531, R533). -/
def State.noteRemRead (s : State) (dev : Nat) (slot : Option Nat) (epoch : Nat) : State :=
  match slot with
  | some n =>
    let old := ((s.weft.remReads.find? fun r => r.dev = dev ∧ r.slot = n).map (·.epoch)).getD 0
    s.mapWeft fun w => { w with remReads := (w.remReads.filter fun r => !(r.dev == dev && r.slot == n)) ++
      [{ dev := dev, slot := n, epoch := max epoch old }] }
  | none => s

/-- A remote read is served (R531). -/
def State.serveRead (s : State) (dev tag plot : Nat) (slot : Option Nat) (off len : Nat) : State :=
  match s.recSegment dev plot slot off len false with
  | none => (s.setBit Reg.WFT_ERR 7 true).answerRec dev tag 1 0 []
  | some (pa, journaled) =>
    if s.poisonIn pa len then s.answerRec dev tag 1 0 []
    else
      let e := if journaled then (linesOf pa len).foldl (fun m l => max m ((s.unsealedAt l).getD 0)) 0 else 0
      let s := if e = 0 then s else s.noteRemRead dev slot e
      s.answerRec dev tag 0 e (s.bytes pa len)

def execRecRead (dev tag plot : Nat) (slot : Option Nat) (off len : Nat) (s : State) : Ans :=
  .next (if s.safe then s else (s.seen dev).serveRead dev tag plot slot off len)

/-- The line entries kept here for a remote transaction (R532). -/
def State.remLinesOf (s : State) (dev slot : Nat) : List LineEntry :=
  (s.weft.remLines.filter fun r => r.dev = dev ∧ r.slot = slot).map (·.line)

/-- The cluster that takes a line of a remote store: one that holds it, else cluster 0 (log entry 23). -/
def State.lineCluster (s : State) (pa : Nat) : Nat := (allClusters.find? fun c => (s.line? c pa).isSome).getD 0

/-- A remote store to journaled memory is captured line by line and marks its lines with the open epoch (R127,
R410, R532). -/
def State.captureRemote (s : State) (dev slot off : Nat) (b : List Byte) : State :=
  let base := s.reg64 Reg.JNL_LIVE_BASE_LO
  let pa := base + off
  (linesOf pa b.length).foldl (fun s l =>
    let before := s.bytes l 64
    let s := if hasLine (s.remLinesOf dev slot) (l - base) then s
      else s.mapWeft fun w => { w with remLines := w.remLines ++
        [{ dev := dev, slot := slot, line := { off := l - base, before := before, after := [] } }] }
    let lo := max l pa
    let hi := min (l + 64) (pa + b.length)
    s.placeLine (s.lineCluster l) l (overlay before (lo - l) (slice b (lo - pa) (hi - lo))) (some s.epoch)) s

/-- A remote write is served: captured in journaled memory, up to 480 line entries (R531, R532). -/
def State.serveWrite (s : State) (dev tag plot : Nat) (slot : Option Nat) (off : Nat) (b : List Byte) : State :=
  match s.recSegment dev plot slot off b.length true, slot with
  | some (_, true), some n =>
    let base := s.reg64 Reg.JNL_LIVE_BASE_LO
    let mine := s.remLinesOf dev n
    let fresh := (linesOf (base + off) b.length).filter fun l => !hasLine mine (l - base)
    if 480 < mine.length + fresh.length then s.answerRec dev tag 2 0 []
    else (s.captureRemote dev n off b).answerRec dev tag 0 0 []
  | some (pa, false), _ => (s.agentStore pa b).answerRec dev tag 0 0 []
  | _, _ => (s.setBit Reg.WFT_ERR 7 true).answerRec dev tag 1 0 []

def execRecWrite (dev tag plot : Nat) (slot : Option Nat) (off : Nat) (bytes : List Byte) (s : State) : Ans :=
  .next (if s.safe then s else (s.seen dev).serveWrite dev tag plot slot off bytes)

/-! ## Remote records at the requester -/

/-- The answer to a remote load waits for the load, which the unit executes again (R530). -/
def State.giveAnswer (s : State) (r : RemReq) (code : Nat) (bytes : List Byte) : State :=
  let s := s.mapWeft fun w => { w with reqs := w.reqs.map fun x => if x.tag = r.tag then { x with answer := some (code, bytes) } else x }
  s.mapUnit r.unit fun x => if x.wait = .remote r.tag then { x with wait := .none } else x

/-- A remote store is over, with MCHECK where it was answered POISON (R531). -/
def State.storeOver (s : State) (r : RemReq) (poison : Bool) : State :=
  let s := s.mapWeft fun w => { w with reqs := w.reqs.filter fun x => x.tag ≠ r.tag }
  if poison then s.mapUnit r.unit fun x => { x with latch := { x.latch with mcheck := x.latch.mcheck.or (some 1) } } else s

/-- The home answers a remote access (R531, R532): a refused store ends its transaction with CAPTURE_REFUSED. -/
def State.recAnswered (s : State) (r : RemReq) (a : RecAnswer) (bytes : List Byte) : State :=
  if r.write then
    let s := s.storeOver r (a == .poison)
    if a = .refused ∧ r.slot.isSome ∧ (s.unit r.unit).txn = r.slot then s.endInput r.unit .capture else s
  else
    match a with
    | .ok => s.giveAnswer r 0 (fitTo r.len bytes)
    | .poison => s.giveAnswer r 1 []
    | .refused => s.giveAnswer r 2 []

/-- REC_RSP. The epoch that it names needs no place here: the home keeps it and names it again in SPAN_ACCEPT
(R531, R533). -/
def execRecRsp (tag : Nat) (a : RecAnswer) (bytes : List Byte) (_ : Nat) (s : State) : Ans :=
  .next (if s.safe then s
    else match s.weft.reqs.find? fun r => r.tag = tag ∧ r.answer.isNone with
      | some r => (s.seen r.dev).recAnswered r a bytes
      | none => s)

/-! ## Spanning transactions at a home -/

/-- What the home kept for a remote transaction is dropped. -/
def State.dropRemote (s : State) (dev slot : Nat) : State :=
  s.mapWeft fun w => { w with remLines := w.remLines.filter fun r => !(r.dev == dev && r.slot == slot)
                              remReads := w.remReads.filter fun r => !(r.dev == dev && r.slot == slot) }

/-- SPAN_ACCEPT names an epoch, or 0 (R533). -/
def State.acceptSpan (s : State) (dev slot epoch : Nat) : State :=
  (s.dropRemote dev slot).weftSend dev wfSpanAccept (beBytes 2 slot ++ beBytes 8 epoch)

/-- A commit notice (R533): a record in the open sheaf where the transaction stored here; a home that has no open epoch
or no room does not accept. -/
def State.spanCommit (s : State) (dev slot reqid plot : Nat) : State :=
  match s.remLinesOf dev slot with
  | [] =>
    let e := ((s.weft.remReads.find? fun r => r.dev = dev ∧ r.slot = slot).map (·.epoch)).getD 0
    if s.reg64 Reg.TCK_SEALED_LO < e then (s.oweVote e dev 0 0 false).acceptSpan dev slot e
    else s.acceptSpan dev slot 0
  | lines =>
    if !s.tick.epochOpen then s
    else match s.commitBlock s.epoch 0 lines.length with
      | some bit => s.setBit Reg.JNL_ERR bit true
      | none =>
        let base := s.reg64 Reg.JNL_LIVE_BASE_LO
        let r : JRecord :=
          { reqid := reqid, plot := plot, queue := 0xFFFF, slot := slot, span := true, result := []
            lines := lines.map fun e => { e with after := s.bytes (base + e.off) 64 } }
        let s := s.appendRecord s.epoch r
        ((s.oweVote s.epoch dev 0 1 false).acceptSpan dev slot s.epoch).ringCheck

/-- An abort notice: the before-images go back, last entry first (R532). -/
def State.spanUndo (s : State) (dev slot : Nat) : State :=
  let base := s.reg64 Reg.JNL_LIVE_BASE_LO
  let s := (s.remLinesOf dev slot).reverse.foldl (fun s e =>
    s.placeLine (s.lineCluster (base + e.off)) (base + e.off) e.before (some s.epoch)) s
  s.dropRemote dev slot

/-- The notice of a spanning transaction (R532, R533): 1 and the party, REQID and plot for a commit, 0 for an abort. -/
def execSpanNotice (dev slot : Nat) (bytes : List Byte) (s : State) : Ans :=
  .next (if s.safe then s
    else
      let s := s.seen dev
      if beAt bytes 0 1 = 1 then s.spanCommit dev slot (beAt bytes 21 8) (beAt bytes 29 2) else s.spanUndo dev slot)

/-! ## Lost devices -/

/-- This device holds stakes, accesses, notices or votes that involve another one (R538). -/
def State.involves (s : State) (dev : Nat) : Bool :=
  (s.stakes.recs.any fun r => r.home == dev) ||
  (s.stakes.entries.any fun e => e.holders.any (fun h => h.dev == dev) || e.waiters.any (fun w => w.who.dev == dev)) ||
  (s.weft.reqs.any fun r => r.dev == dev) || (s.weft.spans.any fun w => w.homes.contains dev) ||
  (s.weft.remLines.any fun r => r.dev == dev) || (s.weft.votes.any fun v => v.dev == dev)

/-- Time since the last frame of a device. -/
def State.silence (s : State) (dev : Nat) : Nat := s.time - sget (fun _ => 0) s.weft.lastSeen dev

/-- A probe of a silent device (R538). -/
def execProbeSend (t dev : Nat) (s : State) : Ans :=
  let s := s.advance t
  .next (if dev ≠ s.devId ∧ s.involves dev ∧ s.fld Reg.WFT_CFG 23 16 * 2500 ≤ s.silence dev then s.weftSend dev wfProbe [] else s)

/-- A probe is answered (R538). -/
def execProbe (t dev : Nat) (s : State) : Ans :=
  let s := s.advance t
  .next (if s.safe then s else (s.seen dev).weftSend dev wfProbeRsp [])

def execProbeRsp (t dev : Nat) (s : State) : Ans :=
  let s := s.advance t
  .next (if s.safe then s else s.seen dev)

/-- A device is lost (R118, R538). -/
def State.loseDevice (s : State) (dev : Nat) : State :=
  let s := s.loseStakes dev
  let s := (s.weft.reqs.filter fun r => r.dev = dev ∧ r.answer.isNone).foldl (fun s r =>
    if r.write then s.storeOver r true else s.giveAnswer r 1 []) s
  let s := s.mapWeft fun w =>
    { w with votes := w.votes.map fun v => if v.dev = dev ∧ v.got < v.count then { v with failed := true } else v
             lost := w.lost ++ [dev] }
  ((s.count Reg.WFT_CNT_LOST 1).errEvent Reg.WFT_ERR 5 Src.weft 0 noPlot dev).trySeal

def execDeviceLost (t dev : Nat) (s : State) : Ans :=
  let s := s.advance t
  .next (if dev ≠ s.devId ∧ !s.safe ∧ s.involves dev ∧ !(s.weft.lost.contains dev) ∧
      s.fld Reg.WFT_CFG 23 16 * 10000 ≤ s.silence dev then s.loseDevice dev else s)

/-! ## Peer requests -/

/-- A peer request is checked against the own descriptor of its plot and performed or refused (R502; layout log entry
14): plot, address, length, data. -/
def State.servePeer (s : State) (dev tag : Nat) (write : Bool) (b : List Byte) : State :=
  let plot := beAt b 0 2
  let n := beAt b 10 2
  let answer (s : State) (code : Nat) (bytes : List Byte) : State :=
    s.weftSend dev wfPeerRsp (beBytes 4 tag ++ beBytes 1 code ++ bytes)
  match s.engineXlat plot (beAt b 2 8) n write with
  | none => answer s 1 []
  | some pa =>
    if write then answer (s.engineWrite pa (fitTo n (b.drop 12)) false) 0 []
    else if s.goodPrefix frwStop pa n false < n then answer (s.strongRead pa n false) 1 []
    else answer s 0 (s.bytes pa n)

def execPeerReq (dev tag : Nat) (write : Bool) (bytes : List Byte) (s : State) : Ans :=
  .next (if s.safe then s else (s.seen dev).servePeer dev tag write bytes)

/-- The answer to a peer request (R502, R504). -/
def execPeerRsp (t tag status : Nat) (bytes : List Byte) (s : State) : Ans :=
  let s := s.advance t
  .next (match s.furrow.cmds.find? fun c => c.tag = tag ∧ 64 ≤ c.group with
    | some c =>
      match c.path with
      | some p =>
        let s := (s.seen (c.group - 64)).sample 0x0A p ((s.time - c.issued) / 1000)
        s.cmdDone c (if status = 0 then 0 else frwPeer) 0 bytes
      | none => s
    | none => s)

end Sys2Proof.Machine
end

