-- ==== Sys2Proof/Machine/Power.lean ====
section
/-! DEFINITION. Rails, clocks, temperature, the power of clusters, the watchdog (R609, R612 to R617, R622 to R624),
shared balls (R20, R21, R631), tamper sensors (R563, R564). -/

namespace Sys2Proof.Machine

open Sys2Proof

/-! ## Rails and temperature -/

/-- A rail is read (R592, R609). -/
def execRailSample (rail mv : Nat) (s : State) : Ans :=
  .next (if rail < 8 ∧ !s.held then
    (s.setFld (Reg.PCK_RAIL + 4 * rail) 11 0 (min 4095 mv)).sample 0x0C rail mv
  else s)

/-- A rail lies outside its tolerance: 5 %, or 10 % (R609). -/
def execRailExcursion (rail : Nat) (fail : Bool) (s : State) : Ans :=
  .next (if rail < 8 ∧ !s.held then
    (if fail then s.errEvent Reg.PCK_ERR 3 Src.rails 6 noPlot rail else s.errEvent Reg.PCK_ERR 2 Src.rails 0 noPlot rail)
  else s)

/-- A temperature in the encoding of the sensors (R623). -/
def tempCode (celsius : Nat) : Nat := (celsius + 64) * 4

/-- The clock limit that temperature sets for a cluster, in 100 MHz, and when it last moved (R624). -/
def State.clockLimit (s : State) (c : Nat) : Nat × Nat := (s.power.throttle.lookup c).getD (24, 0)

/-- A cluster's sensor moves its clock limit: down at each reading at or above THROT, up every 10 ms below
THROT - 5 °C (R624). -/
def State.throttleCluster (s : State) (c value : Nat) : State :=
  let throt := s.fld Reg.PCK_THERM 7 0
  let l := s.clockLimit c
  if tempCode throt ≤ value then
    s.mapPower fun p => { p with throttle := sput p.throttle c (max 12 (l.1 - 1), s.time) }
  else if value < tempCode (throt - 5) ∧ l.1 < 24 ∧ l.2 + 10000000 ≤ s.time then
    s.mapPower fun p => { p with throttle := if l.1 = 23 then sdel p.throttle c else sput p.throttle c (l.1 + 1, s.time) }
  else s

/-- Every sensor with a reading lies below THROT - 5 °C (R624). -/
def State.allCool (s : State) : Bool :=
  (List.range 16).all fun k =>
    !s.bit (Reg.PCK_TEMP + 4 * k) 31 || decide (s.fld (Reg.PCK_TEMP + 4 * k) 9 0 < tempCode (s.fld Reg.PCK_THERM 7 0 - 5))

/-- A temperature is read (R592, R623, R624). -/
def State.readTemp (s : State) (k value : Nat) : State :=
  let s := (s.setReg (Reg.PCK_TEMP + 4 * k) (BitVec.ofNat 32 (2 ^ 31 + value))).sample 0x0B k value
  let s := if k < 12 then s.throttleCluster k value else s
  let s := if tempCode (s.fld Reg.PCK_THERM 7 0) ≤ value then
      (s.mapPower fun p => { p with thermLow := true }).errEvent Reg.PCK_ERR 5 Src.rails 0 noPlot (0x100 + k)
    else if s.allCool then s.mapPower fun p => { p with thermLow := false }
    else s
  if tempCode (s.fld Reg.PCK_THERM 15 8) ≤ value then
    if k ∈ s.power.trips then s.errEvent Reg.PCK_ERR 6 Src.rails 6 noPlot (0x100 + k)
    else s.mapPower fun p => { p with trips := p.trips ++ [k] }
  else s.mapPower fun p => { p with trips := p.trips.erase k }

def execTempSample (t sensor value : Nat) (s : State) : Ans :=
  let s := s.advance t
  .next (if sensor < 16 ∧ value < 1024 ∧ !s.held ∧ !(decide (sensor < 12) && s.domainOff sensor) then s.readTemp sensor value else s)

/-! ## Clocks -/

/-- The limit of a cluster's clock moves it one step toward min(FREQ, limit) (R616). -/
def State.clockStep (s : State) (c : Nat) : State :=
  let r := Reg.PCK_CLKCFG + 4 * c
  let want := min (s.fld r 4 0) (s.clockLimit c).1
  let cur := s.fld r 12 8
  s.setFld r 12 8 (if cur < want then cur + 1 else if want < cur then cur - 1 else cur)

def execCclkStep (cluster : Nat) (s : State) : Ans :=
  .next (if cluster < 12 ∧ !s.held then s.clockStep cluster else s)

def execCclkChange (m : Master) (cluster : Nat) (v : Word) (s : State) : Ans :=
  .next (if cluster < 12 ∧ !s.held ∧ s.writesReg m (Reg.PCK_CLKCFG + 4 * cluster) then s.writeFields (Reg.PCK_CLKCFG + 4 * cluster) v else s)

/-- Every engine of the Thresher goes offline; the jobs that run end with ENGINE (R617). -/
def State.thresherLost (s : State) : State :=
  let s := (s.thresher.jobs.filter fun j => j.engine.isSome).foldl (fun s j =>
    s.stopThrJob j (j.engine.getD 0) (if j.cancel then thrCancelled else thrEngine) []) s
  s.mapThresher fun h => { h with offline := List.range 8 }

/-- The class of a domain's trip (R617). -/
def monitorClass (d : Nat) : Nat := if (22 ≤ d ∧ d ≤ 29) ∨ d = 31 then 2 else 6

/-- The clock monitor of a domain trips (R617). -/
def State.monitorTrip (s : State) (d : Nat) : State :=
  let s := if d < 32 then s.setBit Reg.PCK_MONSTAT_LO d true else s.setBit Reg.PCK_MONSTAT_HI (d - 32) true
  let s := s.errEvent Reg.PCK_ERR 1 (Src.monitor d) (monitorClass d) noPlot 0
  if 14 ≤ d ∧ d ≤ 21 then s.isolate (16 + (d - 14))
  else if d = 22 ∨ d = 23 then s.linkLost (d - 22)
  else if 24 ≤ d ∧ d ≤ 29 then (if (s.link (d - 24)).state = .off then s else s.failLink (d - 24))
  else if d = 31 then s.thresherLost
  else if d = 36 then s.setBit Reg.GLN_STATUS 30 true
  else s

def execClockMonitorTrip (domain : Nat) (s : State) : Ans :=
  .next (if domain < 40 ∧ domain ≠ 38 ∧ !s.held ∧ !s.domainOff domain then s.monitorTrip domain else s)

/-! ## Power of clusters (R612 to R614) -/

/-- The pairs of a cluster. -/
def pairsOfCluster (c : Nat) : List Nat := (List.range 8).map (8 * c + ·)

/-- The first reason to refuse that a cluster be powered down (R612), 0 for none. -/
def State.powerRefusal (s : State) (c : Nat) : Nat :=
  let ps := pairsOfCluster c
  if ps.any fun p => s.role p != roleSpare && s.role p != roleRetired then 1
  else if !(s.cluster c).stores.isEmpty || ps.any (fun p => !(s.pair p).stores.isEmpty) ||
      (unitsOfCluster c).any (fun u => !(s.unit u).stores.isEmpty) then 2
  else if (s.cluster c).lines.any fun l => l.mark.isSome then 3
  else if s.bit (clsReg Reg.CLS_SPSTAT c) 16 then 4
  else 0

/-- A cluster starts to power down or up; its pairs owe no close marker from then on (R58). -/
def State.startPowering (s : State) (c : Nat) (up : Bool) : State :=
  let s := (s.setBit Reg.PCK_CLSPWRSTAT (12 + c) true).mapPower fun p => { p with powering := sput p.powering c up }
  (pairsOfCluster c).foldl State.markerIn s

/-- A power-down is requested (R612, R613). -/
def State.powerDown (s : State) (c : Nat) : State :=
  match s.powerRefusal c with
  | 0 =>
    let s := s.setBit Reg.PCK_CLSPWR c true
    if (s.power.powering.lookup c).isSome then s else s.startPowering c false
  | cause =>
    let s := (s.setFld Reg.PCK_CLSPWRSTAT 31 28 cause).setFld Reg.PCK_CLSPWRSTAT 27 24 c
    s.errEvent Reg.PCK_ERR 4 Src.rails 0 noPlot c

/-- A power-up is requested (R614). -/
def State.powerUp (s : State) (c : Nat) : State :=
  let s := s.setBit Reg.PCK_CLSPWR c false
  if s.bit Reg.PCK_CLSPWRSTAT c ∧ (s.power.powering.lookup c).isNone then s.startPowering c true else s

/-- A write of PCK_CLSPWR (R612). -/
def State.writeClsPwr (s : State) (v : Word) : State :=
  (List.range 12).foldl (fun s c =>
    if v.getLsbD c = s.bit Reg.PCK_CLSPWR c then s else if v.getLsbD c then s.powerDown c else s.powerUp c) s

def execClusterPowerDown (m : Master) (v : Word) (s : State) : Ans :=
  .next (if s.writesReg m Reg.PCK_CLSPWR ∧ !s.held then s.writeClsPwr v else s)

def execClusterPowerUp (m : Master) (v : Word) (s : State) : Ans :=
  .next (if s.writesReg m Reg.PCK_CLSPWR ∧ !s.held then s.writeClsPwr v else s)

/-- A bank of a cluster keeps no content: it is not in retention (R613, R614). -/
def State.zeroBanks (s : State) (c : Nat) : State :=
  let lost (a : Nat) : Bool :=
    decide (scratchBase + 0x400000 * c ≤ a ∧ a < scratchBase + 0x400000 * (c + 1)) &&
    !s.bit (clsReg Reg.CLS_SPRET c) ((a - scratchBase) % 0x400000 / 0x80000)
  s.mapMem fun m => { m with cells := m.cells.filter (fun x => !lost x.1), poison := m.poison.filter fun g => !lost (8 * g) }

/-- The power-down ends: dirty lines written back and the caches empty, the gate closed, cores, control stores and
the banks not in retention without power (R431, R451, R613). -/
def State.poweredDown (s : State) (c : Nat) : State :=
  let s := s.setCluster c Cluster.reset
  let s := (pairsOfCluster c).foldl (fun s p =>
    ((s.mapPair p fun x => { x with words := [] }).setUnit (2 * p) CoreUnit.reset).setUnit (2 * p + 1) CoreUnit.reset) s
  let s := s.zeroBanks c
  let s := (s.setBit Reg.PCK_CLSPWRSTAT (12 + c) false).setBit Reg.PCK_CLSPWRSTAT c true
  let s := (s.setBit Reg.PCK_DOMOFF_LO c true).setReg (Reg.PCK_TEMP + 4 * c) 0
  let s := s.mapPower fun p => { p with powering := sdel p.powering c }
  if s.bit Reg.PCK_CLSPWR c then s else s.startPowering c true

def execClusterPowerDownDone (cluster : Nat) (s : State) : Ans :=
  .next (if s.power.powering.lookup cluster = some false then s.poweredDown cluster else s)

/-- The power-up ends: the banks not in retention hold zeros, the control store of every pair is reloaded from the image
that firmware measured, and the gate opens; roles stay (R614). -/
def State.poweredUp (s : State) (c : Nat) : State :=
  let s := s.zeroBanks c
  let s := (pairsOfCluster c).foldl State.reloadPair s
  let s := (s.setBit Reg.PCK_CLSPWRSTAT (12 + c) false).setBit Reg.PCK_CLSPWRSTAT c false
  let s := (s.setBit Reg.PCK_DOMOFF_LO c false).mapPower fun p => { p with powering := sdel p.powering c }
  if s.bit Reg.PCK_CLSPWR c then (s.setBit Reg.PCK_CLSPWR c false).powerDown c else s

def execClusterPowerUpDone (cluster : Nat) (s : State) : Ans :=
  .next (if s.power.powering.lookup cluster = some true then s.poweredUp cluster else s)

/-! ## Gated domains -/

/-- A bit of PCK_DOMOFF. -/
def State.showGate (s : State) (d : Nat) (off : Bool) : State := s.setBit Reg.PCK_DOMOFF_LO d off

/-- What a write of an enable gates or ungates of the domains that hold no cluster (R615); log entry 25. -/
def State.showGates (s : State) (off : Nat) : State :=
  if off = Reg.ETH_CTRL then
    (s.showGate 22 (!s.bit Reg.ETH_CTRL 0)).showGate 23 (!s.bit Reg.ETH_CTRL 1)
  else if off = Reg.WFT_CTRL then (List.range 6).foldl (fun s l => s.showGate (24 + l) (!s.bit Reg.WFT_CTRL l)) s
  else if off = Reg.THR_CTRL then s.showGate 31 (!s.bit Reg.THR_CTRL 0 && s.thresher.jobs.isEmpty)
  else s

/-! ## The watchdog (R622, R632) -/

/-- A write of PCK_WDOG. A TIMEOUT that stays as it is is no write to the field, as under R12. -/
def State.writeWdog (s : State) (v : Word) : State :=
  let on := s.bit Reg.PCK_WDOG 31
  let old := s.fld Reg.PCK_WDOG 7 0
  let new := bits v 7 0
  let s := if (on ∧ (!v.getLsbD 31 ∨ new ≠ old)) ∨ new = 0 then s.badw Reg.PCK_WDOG else s
  let s := if !on ∧ new ≠ 0 then s.setFld Reg.PCK_WDOG 7 0 new else s
  let s := if v.getLsbD 31 then s.setBit Reg.PCK_WDOG 31 true else s
  if s.bit Reg.PCK_WDOG 31 ∧ (!on ∨ v.getLsbD 30) then s.mapPower fun p => { p with wdog := some s.time } else s

def execWdogEnable (m : Master) (v : Word) (s : State) : Ans :=
  .next (if s.writesReg m Reg.PCK_WDOG ∧ !s.held then s.writeWdog (v ||| 0x80000000#32) else s)

def execWdogKick (m : Master) (v : Word) (s : State) : Ans :=
  .next (if s.writesReg m Reg.PCK_WDOG ∧ !s.held then s.writeWdog (v ||| 0x40000000#32) else s)

def execWdogExpire (t : Nat) (s : State) : Ans :=
  let s := s.advance t
  .next (match s.power.wdog with
    | some k =>
      if s.msPassed (k + s.fld Reg.PCK_WDOG 7 0 * 1000000) ∧ !s.evral.stewHalt ∧ !s.held then
        (s.mapPower fun p => { p with wdog := some s.time }).errEvent Reg.PCK_ERR 7 Src.boot 6 noPlot 0
      else s
    | none => s)

/-! ## Shared balls (R20, R21, R631) -/

/-- The winner and the loser of a shared ball are enabled. -/
def State.pinWinner (s : State) : SharedPin → Bool
  | .tickIn => s.fld Reg.TCK_SRC 1 0 == 1
  | .tickOut => s.bit Reg.TCK_TOUT 0
def State.pinLoser (s : State) : SharedPin → Bool
  | .tickIn => s.bit Reg.PAD_FUNC 0
  | .tickOut => s.bit Reg.PAD_FUNC 1
def conflictBit : SharedPin → Nat
  | .tickIn => 0
  | .tickOut => 1

/-- The precedence of a ball is applied when an enable has changed: the loser's CONFLICT and its event (R20, R21). -/
def State.settlePin (s : State) (p : SharedPin) : State :=
  let b := conflictBit p
  if !s.pinLoser p then s.setBit Reg.PAD_STATUS b false
  else if s.pinWinner p ∧ !s.bit Reg.PAD_STATUS b then
    (s.setBit Reg.PAD_STATUS b true).event Src.shared 0 (detail noKind noPlot b)
  else s

/-- The function that drives TICK_OUT: 1 the tick, 2 the pulse-per-second output, 0 none, which drives it low (R50). -/
def State.tickOutDriver (s : State) : Nat :=
  if s.bit Reg.TCK_TOUT 0 then 1 else if s.bit Reg.PAD_FUNC 1 then 2 else 0

/-- The shared balls after a write of an enable; a pulse ends with the function that drove it (R20, R21, R50). -/
def State.settlePins (s : State) (driver : Nat) : State :=
  let s := if s.tickOutDriver = driver then s else s.mapTick fun t => { t with tickOut := false }
  (s.settlePin .tickIn).settlePin .tickOut

/-- The loser takes the ball once the winner is off (R21). -/
def execResourceTake (pin : SharedPin) (s : State) : Ans :=
  .next (if s.pinLoser pin ∧ !s.pinWinner pin then s.setBit Reg.PAD_STATUS (conflictBit pin) false else s)

/-! ## Tamper sensors (R563, R564) -/

/-- The mask in force: it is zero from FIELD on (R564). -/
def State.tamperMask (s : State) : Word := if s.fuses.lifecycle ≤ 1 then s.reg Reg.LCT_TMASK else 0

/-- A sensor trips: 3 MESH, 2 VOLT, 1 CLOCK, 0 TEMP. -/
def State.tamper (s : State) (sensor : Nat) : State :=
  if s.tamperMask.getLsbD sensor then s.setBit Reg.LCT_ERR (2 + sensor) true
  else
    let s := s.startWipe.wipeVault
    let s := s.mapMram fun m => { m with tampers := min 0xFFFFFFFF (m.tampers + 1) }
    s.errEvent Reg.LCT_ERR (2 + sensor) Src.lifecycle 6 noPlot sensor

def execTamperEvent (sensor : Nat) (s : State) : Ans :=
  .next (if sensor < 4 ∧ s.power.on then s.tamper sensor else s)

end Sys2Proof.Machine
end

