-- ==== Sys2Proof/Machine/Control.lean ====
section
/-! DEFINITION. Control space as a master reads and writes it (R9 to R14): what each register shows, the reads with side
effect, the writes that do more than store their fields. DBG_MDATA is in DebugMem.lean. -/

namespace Sys2Proof.Machine

open Sys2Proof

/-! ## What registers show -/

/-- A byte string's word k, little-endian. -/
def wordAt (b : List Byte) (k : Nat) : Word := BitVec.ofNat 32 (leAt b (4 * k) 4)

/-- The low or the high word of a quantity. -/
def half (q : Nat) (hi : Bool) : Word := BitVec.ofNat 32 (if hi then q / 2 ^ 32 else q)

/-- A stored word with one field computed. -/
def State.shown (s : State) (off hi lo v : Nat) : Word := setBits (s.reg off) hi lo v

/-- The words of the tick block (R88). -/
def State.viewTick (s : State) (off : Nat) : Word :=
  if off = Reg.TCK_STATUS then s.shown off 1 0 (if s.follows then s.tickSel else 0)
  else if off = Reg.TCK_TIME_LO then half s.timeBase false
  else if off = Reg.TCK_TIME_HI then half s.timeBase true
  else if off = Reg.TCK_LINKDLY ∧ s.tickSel ≠ 2 then 0
  else s.reg off

/-- The words of the stake block (R122). -/
def State.viewStk (s : State) (off : Nat) : Word :=
  let n := (off - Reg.STK_OCC) / 0x20
  let e := (off - Reg.STK_OCC) % 0x20
  if off = Reg.STK_HASHSEED ∧ s.bit Reg.STK_CTRL 31 then 0
  else if off < Reg.STK_OCC ∨ 16 ≤ n then s.reg off
  else if e = 0 then BitVec.ofNat 32 (s.occupied n)
  else if e = 4 then BitVec.ofNat 32 (s.waiting n)
  else if e = 8 then BitVec.ofNat 32 (s.remoteSharers n)
  else s.reg off

/-- The words of the journal block (R156). -/
def State.viewJnl (s : State) (off : Nat) : Word :=
  if off = Reg.JNL_STATUS then
    let v := s.shown off 1 1 (s.nextToApply.isSome).toNat
    setBits v 3 3 (s.journal.waits.any fun w => (s.commitBlock (s.epochAt w.unit) w.rlen (s.unit w.unit).lines.length).isSome).toNat
  else if off = Reg.JNL_RINGFREE then BitVec.ofNat 32 (min 0xFFFFF (s.areaFree / 2 ^ 20))
  else if off = Reg.JNL_KEYGEN then BitVec.ofNat 32 (keyGen s.epoch)
  else s.reg off

/-- Seconds of hold-off that remain, rounded up (R181). -/
def State.holdLeft (s : State) : Nat :=
  match s.twin.holdStart with
  | none => 0
  | some h => (h + s.fld Reg.TWN_RETURN 11 0 * 1000000000 - s.timeBase + 999999999) / 1000000000

/-- The words of the twin block (R186). -/
def State.viewTwn (s : State) (off : Nat) : Word :=
  if off = Reg.TWN_STATUS then
    setBits (s.shown off 6 6 (s.paired && s.senior).toNat) 4 4 s.leaseValid.toNat
  else if off = Reg.TWN_HOLDLEFT then BitVec.ofNat 32 s.holdLeft
  else s.reg off

/-- The words of the ports and Swath (R221). -/
def State.viewEth (s : State) (off : Nat) : Word :=
  if off = Reg.ETH_SESSIONS then BitVec.ofNat 32 s.eth.sessions.length
  else if off < Reg.ETH_PCFG then s.reg off
  else
    let p := (off - Reg.ETH_PCFG) / 0x400
    let r := Reg.ETH_PCFG + (off - Reg.ETH_PCFG) % 0x400
    if r = Reg.ETH_PSTAT then
      setBits (s.shown off 3 3 (s.bit (portReg Reg.ETH_PCFG p) 8 && (s.txSa p).isSome).toNat) 4 4 (s.saNear p).toNat
    else if r = Reg.ETH_MAC_LO then half (s.macOf p) false
    else if r = Reg.ETH_MAC_HI then half (s.macOf p) true
    else if r = Reg.ETH_TSINFO then s.tsInfo p
    else if r = Reg.ETH_TS_LO then half (((s.port p).latched.map (·.stamp)).getD 0) false
    else s.reg off

/-- The words of the plot block (R249). -/
def State.viewPlt (s : State) (off : Nat) : Word :=
  if off = Reg.PLT_STATUS then s.shown off 28 16 s.plots.plots.length
  else if off = Reg.PLT_QPFREE then
    (if s.bit Reg.PLT_STATUS 0 then BitVec.ofNat 32 (65536 - s.plots.qpairs.length) else 0)
  else s.reg off

/-- The words of the Sower (R250). -/
def State.viewSow (s : State) (off : Nat) : Word :=
  if off = Reg.SOW_STATUS then
    BitVec.ofNat 32 ((s.units.filter fun u => u.2.txn.isSome).length * 2 ^ 24 + s.sower.slots.length)
  else if off = Reg.SOW_CREDIT then
    BitVec.ofInt 32 (s.balanceOf (s.fld Reg.SOW_CRIDX 11 0) (s.fld Reg.SOW_CRIDX 14 12))
  else s.reg off

/-- The words of a cluster (R353, R385, R432). The CRC of a control store takes its final exclusive-OR on a read, and
shows its reset value while no word has been committed (R353). -/
def State.viewCls (s : State) (off : Nat) : Word :=
  let c := clusterAt off
  let e := (off - 0x400000) % 0x10000
  if e = Reg.CLS_L2STAT - 0x400000 then
    BitVec.ofNat 32 ((s.cluster c).lines.filter fun l => l.mark.isSome).length
  else if 0x8000 ≤ e ∧ e < 0x8200 then
    let k := e % 0x40
    let base := off - k
    if k = 0x1C then (if bits (s.reg (base + 0x18)) 13 0 = 0 then 0xFFFFFFFF#32 else s.reg off ^^^ 0xFFFFFFFF#32)
    else if 8 ≤ k ∧ k ≤ 0x14 then 0
    else s.reg off
  else s.reg off

/-- The words of the Thresher (R467). -/
def State.viewThr (s : State) (off : Nat) : Word :=
  if off = Reg.THR_STATUS then
    let online := if s.thrReady then ((List.range 8).map fun e => if e ∈ s.thresher.offline then 0 else 2 ^ e).sum else 0
    BitVec.ofNat 32 (s.thresher.jobs.length * 2 ^ 16 + online * 2 ^ 8 + (s.thrFull 1).toNat * 2 + s.thrReady.toNat)
  else if off = Reg.THR_CREDIT then BitVec.ofInt 32 (s.engineBalance (s.fld Reg.THR_CRIDX 11 0))
  else s.reg off

/-- The slot that CPH_SLOTIDX names, as CPH_SLOTINFO shows it (R490). -/
def State.slotInfo (s : State) : Word :=
  let n := s.fld Reg.CPH_SLOTIDX 11 0
  let bound := (s.slotBound n).toNat * 2 ^ 20
  match s.keySlot n with
  | none => BitVec.ofNat 32 bound
  | some k =>
    BitVec.ofNat 32 (k.kind % 16 * 2 ^ 28 + k.usage % 64 * 2 ^ 22 + k.origin.toNat * 2 ^ 21 + bound +
      k.threeQuarters.toNat * 2 ^ 19 + (decide (k.limit ≤ k.count)).toNat * 2 ^ 18 + k.gen % 65536)

/-- CPH_LOCKn (R470 to R472). -/
def State.lockWord (s : State) (n : Nat) : Word :=
  let jobs := (s.cipher.jobs.filter fun j => j.engine = n).length * 2 ^ 16
  BitVec.ofNat 32 (jobs + (if n < 4 then 3 * 2 ^ 28 else match s.lockOf n with
    | none => 0
    | some .firmware => 2 ^ 28
    | some (.plot p _) => 2 ^ 29 + p % 4096))

/-- The words of the cipher engines and the vault (R490). -/
def State.viewCph (s : State) (off : Nat) : Word :=
  let slot := s.keySlot (s.fld Reg.CPH_SLOTIDX 11 0)
  let uses := (slot.map (·.count)).getD 0
  let lim := (slot.map (·.limit)).getD 0
  if off = Reg.CPH_STATUS then
    s.shown off 15 0 (((List.range 16).map fun e => if (s.cphOn e).isSome then 2 ^ e else 0).sum)
  else if off = Reg.CPH_SLOTINFO then s.slotInfo
  else if off = Reg.CPH_SLOTUSE_LO then half uses false
  else if off = Reg.CPH_SLOTUSE_HI then half uses true
  else if off = Reg.CPH_SLOTLIM_LO then half lim false
  else if off = Reg.CPH_SLOTLIM_HI then half lim true
  else if Reg.CPH_LOCK ≤ off ∧ off < Reg.CPH_LOCK + 64 then s.lockWord ((off - Reg.CPH_LOCK) / 4)
  else s.reg off

/-- An internal operation waits for a path or for room (R508, R511). -/
def State.destageWaits (s : State) : Bool :=
  s.furrow.full || s.furrow.cmds.any fun c => c.path.isNone && (match s.op c.op with
    | some o => o.kind != .program
    | none => false)

/-- FRW_PATHSTAT (R492, R518). -/
def State.pathStat (s : State) : Word :=
  match s.path (s.fld Reg.FRW_PATHIDX 9 0) with
  | none => 0
  | some p =>
    let st := match p.state with
      | .unset => 0 | .connecting => 1 | .ready => 2 | .failed => 3
    BitVec.ofNat 32 (s.pathOut p.num * 2 ^ 24 + p.kind % 4 * 2 ^ 16 + p.group % 64 * 2 ^ 8 + st)

/-- The words of Furrow (R518). -/
def State.viewFrw (s : State) (off : Nat) : Word :=
  if off = Reg.FRW_STATUS then
    let v := s.shown off 28 16 (s.furrow.ops.filter fun o => o.done.isNone).length
    setBits (setBits (setBits v 3 3 (!s.furrow.sweeps.isEmpty).toNat) 2 2 s.destageWaits.toNat) 0 0 s.frwReady.toNat
  else if off = Reg.FRW_PATHSTAT then s.pathStat
  else s.reg off

/-- The words of Weft (R540). -/
def State.viewWft (s : State) (off : Nat) : Word :=
  if off = Reg.WFT_RTDATA then sget (fun _ => (0 : Word)) s.weft.routes (s.fld Reg.WFT_RTIDX 9 0)
  else if Reg.WFT_LSTAT ≤ off ∧ off < Reg.WFT_LSTAT + 0x180 ∧ (off - Reg.WFT_LSTAT) % 0x40 = 0 then
    s.shown off 3 0 (s.link ((off - Reg.WFT_LSTAT) / 0x40)).state.code
  else s.reg off

/-- The words of SWD (R575). -/
def State.viewSwd (s : State) (off : Nat) : Word :=
  if Reg.SWD_UID ≤ off ∧ off < Reg.SWD_UID + 16 then wordAt s.uid ((off - Reg.SWD_UID) / 4)
  else if Reg.SWD_MEASW ≤ off ∧ off < Reg.SWD_MEASW + 384 then
    wordAt (s.meas ((off - Reg.SWD_MEASW) / 48)) ((off - Reg.SWD_MEASW) % 48 / 4)
  else s.reg off

/-- The words of LCT and DBG (R576, R577). -/
def State.viewDbg (s : State) (off : Nat) : Word :=
  if off = Reg.LCT_STATE then BitVec.ofNat 32 (s.fuses.lcCount % 8 * 2 ^ 16 + s.fuses.lifecycle % 16)
  else if off = Reg.LCT_TMASK then s.tamperMask
  else if off = Reg.LCT_CNT_TAMPER then BitVec.ofNat 32 s.mram.tampers
  else if Reg.LCT_OWNER ≤ off ∧ off < Reg.LCT_OWNER + 48 then wordAt (fitTo 48 s.fuses.ownerHash) ((off - Reg.LCT_OWNER) / 4)
  else if off = Reg.DBG_ID then s.shown off 1 0 s.portAccess
  else if off = Reg.DBG_AUTHSTAT then
    BitVec.ofNat 32 (s.evral.checking.toNat * 2 ^ 31 + s.evral.result % 8 * 2 ^ 8 + s.portScope % 8)
  else if Reg.DBG_AUTHWIN ≤ off ∧ off < Reg.DBG_AUTHWIN + 160 then 0
  else if off = Reg.DBG_PCTRL then s.shown off 8 8 (s.pair s.dbgPair).brkHalt.toNat
  else if off = Reg.DBG_PSTAT then s.pstat
  else if Reg.DBG_BPADDR ≤ off ∧ off < Reg.DBG_BPADDR + 64 then
    s.readBp ((off - Reg.DBG_BPADDR) / 8) (decide ((off - Reg.DBG_BPADDR) % 8 = 4))
  else s.reg off

/-- The words of the Gleaner and the Almanac (R604, R605). -/
def State.viewGln (s : State) (off : Nat) : Word :=
  if off = Reg.GLN_STATUS then
    let v := s.shown off 29 29 s.faultLow.toNat
    setBits (setBits v 26 16 s.gleaner.recs.length) 10 0 (s.gleaner.recs.filter fun r => r.pin && !r.cleared).length
  else if off = Reg.GLN_SRCCNT then BitVec.ofNat 32 (sget (fun _ => 0) s.gleaner.counts (s.fld Reg.GLN_SRCIDX 8 0))
  else if Reg.GLN_REC < off ∧ off < Reg.GLN_REC + 32 then s.latched off
  else if off = Reg.ALM_STATUS then
    BitVec.ofNat 32 (s.almanac.writing.isSome.toNat * 2 ^ 31 + (!s.almanac.triggers.isEmpty).toNat * 2 ^ 30 +
      (decide (4096 ≤ s.reg64 Reg.ALM_HEAD_LO)).toNat * 2 ^ 29)
  else if Reg.ALM_WINDOW ≤ off ∧ off < Reg.ALM_WINDOW + 256 then wordAt s.almanac.window ((off - Reg.ALM_WINDOW) / 4)
  else s.reg off

/-- What a read of the register at an offset shows, side effects and latching apart. -/
def State.view (s : State) (off : Nat) : Word :=
  if off < 0x10000 then s.viewSwd off
  else if off < 0x40000 then s.viewGln off
  else if off < 0x80000 then s.viewTick off
  else if off < 0x100000 then s.viewSow off
  else if off < 0x140000 then s.viewJnl off
  else if off < 0x180000 then s.viewTwn off
  else if off < 0x200000 then s.viewStk off
  else if off < 0x280000 then s.viewEth off
  else if off < 0x400000 then s.viewPlt off
  else if off < 0x4C0000 then s.viewCls off
  else if off = Reg.WRP_RTDATA then s.readRtData
  else if off < 0x740000 then s.reg off
  else if off < 0x780000 then s.viewThr off
  else if off < 0x7C0000 then s.viewCph off
  else if off < 0x800000 then s.viewFrw off
  else if off < 0x880000 then s.viewWft off
  else if off < 0x8C0000 then s.reg off
  else if off < 0x900000 then s.viewDbg off
  else s.reg off

/-! ## Reads -/

/-- The first word of a group whose read latches the others, with the number of words (R11, R156, R575). -/
def latchGroup (off : Nat) : Option (Nat × Nat) :=
  if Reg.JNL_CHAIN ≤ off ∧ off < Reg.JNL_CHAIN + 48 then some (Reg.JNL_CHAIN, 12)
  else if Reg.SWD_MEASW ≤ off ∧ off < Reg.SWD_MEASW + 384 then some (Reg.SWD_MEASW + (off - Reg.SWD_MEASW) / 48 * 48, 12)
  else none

/-- A read whose side effect is more than a latch (R88, R221, R604, R605). -/
def State.readSide (s : State) (m : Master) (off : Nat) : Option (State × Word) :=
  let of (t : State) : Option (State × Word) := some ({ t with ctl := { t.ctl with rdata := s.ctl.rdata } }, t.ctl.rdata)
  if off = Reg.TCK_SEALMAX then some (s.setReg off 0, s.reg off)
  else if off = Reg.GLN_REC then of s.readRec0
  else if off = Reg.ALM_WINDOW then of s.readWindow0
  else if off = Reg.ALM_WINDOW + 252 then of s.readWindow63
  else if off = Reg.ETH_TSINFO ∨ off = Reg.ETH_TSINFO + 0x400 then of (s.readTsInfo ((off - Reg.ETH_TSINFO) / 0x400))
  else if off = Reg.ETH_TS_HI ∨ off = Reg.ETH_TS_HI + 0x400 then of (s.readTsHi ((off - Reg.ETH_TS_HI) / 0x400))
  else if off = Reg.DBG_RDATA then some (s.readRdata m)
  else none

/-- A read of control space by a master, DBG_MDATA apart: what it returns and what it changes (R10, R11, R14, R634). -/
def State.readPlain (s : State) (m : Master) (off : Nat) : State × Word :=
  if !mayRead m off then (s, 0)
  else match regDef? off with
    | none => (s, 0)
    | some r =>
      match s.readSide m off with
      | some x => x
      | none =>
        match r.role, latchGroup off with
        | .lo, _ => (s.latchWord (off + 4) (s.view (off + 4)), s.view off)
        | .hi, _ => (s, s.latched off)
        | .single, some g =>
          if off = g.1 then
            (s.latchWords (off + 4) ((List.range (g.2 - 1)).map fun i => s.view (off + 4 * (i + 1))), s.view off)
          else (s, s.latched off)
        | .single, none => (s, s.view off)

/-! ## Writes that do more than store their fields -/

/-- A value of the fields of a row, each checked and written by itself (R14), but a field that a test of the whole
write refuses. -/
def State.writeUnless (s : State) (off : Nat) (v : Word) (bad : Bool) (hi lo : Nat) : State :=
  if bad then (s.writeFields off (setBits v hi lo (s.fld off hi lo))).badw off else s.writeFields off v

/-- TCK_TXBUDGET: 1 to 125 and not more than half of PERIOD (R88). -/
def State.writeBudget (s : State) (v : Word) : State :=
  s.writeUnless Reg.TCK_TXBUDGET v (decide (s.fld Reg.TCK_PERIOD 7 0 < 2 * bits v 6 0)) 6 0

/-- JNL_RINGCFG: an UNDO of 0 or at or above the SIZE of the same write leaves both fields (R156). -/
def State.writeRingCfg (s : State) (v : Word) : State :=
  if bits v 19 16 = 0 ∨ bits v 9 0 ≤ bits v 19 16 then s.badw Reg.JNL_RINGCFG else s.writeFields Reg.JNL_RINGCFG v

/-- TWN_CTRL (R181, R186). -/
def State.writeTwnCtrl (s : State) (v : Word) : State :=
  let s := s.writeFields Reg.TWN_CTRL v
  if v.getLsbD 0 then s.returnNowOp else s

/-- TWN_CFG and TWN_PAIRGEN change only while PART is NONE; the conditions that join fields of TWN_CFG stand for the
whole register (R186, log entry 29). -/
def State.writeTwnCfg (s : State) (off : Nat) (v : Word) : State :=
  let bad := off = Reg.TWN_CFG ∧
    ((v.getLsbD 31 ∧ (bits v 10 8 = bits v 6 4 ∨ !v.getLsbD 0)) ∨ (v.getLsbD 31 ∧ bits v 25 16 = s.devId))
  if s.part ≠ partNone ∨ bad then s.badw off else s.writeFields off v

/-- TWN_HB: a RENEW of 0, or not below the TAKEOVER of the same write, leaves both fields (R186). -/
def State.writeHb (s : State) (v : Word) : State :=
  if bits v 15 8 = 0 ∨ bits v 7 0 ≤ bits v 15 8 then s.badw Reg.TWN_HB else s.writeFields Reg.TWN_HB v

/-- ETH_CTRL: the lanes of a port whose enable is cleared are powered down (R221, R615). -/
def State.writeEthCtrl (s : State) (v : Word) : State :=
  let s := s.writeFields Reg.ETH_CTRL v
  let s := [0, 1].foldl (fun s p =>
    if s.bit Reg.ETH_CTRL p then s
    else (s.setBit (portReg Reg.ETH_PSTAT p) 0 false).setFld (portReg Reg.ETH_PSTAT p) 23 8 0) s
  s.showGates Reg.ETH_CTRL

/-- The areas of a value of CLS_PAIRCFGn, as first byte and length (R385). -/
def pairAreas (v : Word) : List (Nat × Nat) :=
  [(bits v 29 24 * 0x10000, 0x10000), (bits v 22 16 * 0x8000, 0x8000), (bits v 14 8 * 0x8000, 0x8000)]

/-- Two ranges overlap. -/
def overlaps (a b : Nat × Nat) : Bool := decide (a.1 < b.1 + b.2 ∧ b.1 < a.1 + a.2)

/-- No two ranges of a list overlap. -/
def apart : List (Nat × Nat) → Bool
  | [] => true
  | a :: l => l.all (fun b => !overlaps a b) && apart l

/-- A write of CLS_PAIRCFGn: areas that overlap one another, those of another placed pair of the cluster or the
strongroom leave the whole register (R385). -/
def State.writePairCfg (s : State) (off : Nat) (v : Word) : State :=
  let c := clusterAt off
  let others := (List.range 8).flatMap fun k =>
    let o := pairReg Reg.CLS_PAIRCFG (8 * c + k)
    if o = off ∨ s.reg o = 0 then [] else pairAreas (s.reg o)
  let mine := pairAreas v
  if s.locked off then s.writeFields off v
  else if apart mine && mine.all (fun a => (((0x380000, 0x40000) :: others).all fun b => !overlaps a b)) then s.writeFields off v
  else s.badw off

/-- CLS_UCCTRLn: CLEAR, UNLOCK, LOCK, each by itself (R353). -/
def State.writeUcCtrl (s : State) (p : Nat) (v : Word) : State :=
  let s := if v.getLsbD 0 then s.clearUcode p else s
  let s := if v.getLsbD 1 then s.unlockUcode p else s
  if v.getLsbD 31 then s.lockUcode p else s

/-- The load port of a pair's control store (R340, R341, R353). -/
def State.writeUcPort (s : State) (off : Nat) (v : Word) : State :=
  let p := 8 * clusterAt off + (off - 0x400000) % 0x10000 % 0x200 / 0x40
  let k := off % 0x40
  if k = 0 then s.writeUcCtrl p v
  else if k = 4 ∨ (8 ≤ k ∧ k ≤ 0x10) then
    (if s.ucLocked p then s.clsBadw p else if k = 4 then s.writeFields off v else s.setReg off v)
  else if k = 0x14 then s.commitWord p v
  else s.writeFields off v

/-- The smallest TIMEOUT in µs for a MAXREPLAY: four times 0.68 µs for each replay, rounded up (R445). -/
def minTimeout (replay : Nat) : Nat := (4 * 68 * replay + 99) / 100

/-- WRP_TIMEOUT and WRP_LINKCFG: a write that breaks R445 leaves the register. -/
def State.writeWarpTime (s : State) (off : Nat) (v : Word) : State :=
  let t := if off = Reg.WRP_TIMEOUT then bits v 7 0 else s.fld Reg.WRP_TIMEOUT 7 0
  let r := if off = Reg.WRP_LINKCFG then bits v 4 0 else s.fld Reg.WRP_LINKCFG 4 0
  if t < minTimeout r then s.badw off else s.writeFields off v

/-- WRP_RTCTRL (R449, R452). -/
def State.writeRtCtrl (s : State) (v : Word) : State :=
  let s := if v.getLsbD 1 then s.copyRoutes else s
  if v.getLsbD 0 then s.flipRoutes else s

/-- CPH_LOCKn (R470 to R472). -/
def State.writeLock (s : State) (n : Nat) (v : Word) : State :=
  match bits v 31 30 with
  | 1 => s.lockByD n
  | 2 => s.unlockByD n
  | 3 => s.badw Reg.CPH_LOCK
  | _ => s

/-- A group holds a slot that is not EMPTY. -/
def State.groupInUse (s : State) (g : Nat) : Bool := (List.range 16).any fun i => (s.keySlot (16 * g + i)).isSome

/-- The partner allots a group, as far as its mirrored keys show (R479, R481; log entry 30). -/
def State.partnerGroup (s : State) (g : Nat) : Bool := s.paired && s.cipher.blobs.any fun b => b.1 / 16 == g

/-- CPH_ALLOTg (R479). -/
def State.writeAllot (s : State) (g : Nat) (v : Word) : State :=
  let off := Reg.CPH_ALLOT + 4 * g
  if g < 16 then s
  else if ((v ^^^ s.reg off) &&& 0x80000FFF#32 ≠ 0 ∧ s.groupInUse g) ∨ s.partnerGroup g then s.badw off
  else s.writeFields off v

/-- FRW_CTRL: at the setting of LOCK the storage key is mirrored (R481). -/
def State.writeFrwCtrl (s : State) (v : Word) : State :=
  let was := s.bit Reg.FRW_CTRL 31
  let s := s.writeFields Reg.FRW_CTRL v
  if !was && s.bit Reg.FRW_CTRL 31 && s.paired then s.mirrorKey (s.fld Reg.FRW_KEYSLOT 11 0) else s

/-- An operation of a plot has a command on a path group. -/
def State.groupBusy (s : State) (g plot : Nat) : Bool :=
  s.furrow.cmds.any fun c => c.group == g && (match s.op c.op with
    | some o => o.plot == plot
    | none => false)

/-- FRW_GROUPg (R493, R518). -/
def State.writeGroup (s : State) (g : Nat) (v : Word) : State :=
  let off := Reg.FRW_GROUP + 4 * g
  let old := s.reg off
  if (v ^^^ old) &&& 0x80000FFF#32 ≠ 0 ∧ old.getLsbD 31 ∧ s.groupBusy g (bits old 11 0) then s.badw off
  else s.writeFields off v

/-- WFT_RTDATA: HOPS of 0 or 7 is reserved while VALID is 1 (R540). -/
def State.writeWftRoute (s : State) (v : Word) : State :=
  match regDef? Reg.WFT_RTDATA with
  | none => s
  | some r =>
    let d := s.fld Reg.WFT_RTIDX 9 0
    let old := sget (fun _ => (0 : Word)) s.weft.routes d
    let w := r.write false old v
    let bad := v.getLsbD 31 && (bits v 10 8 == 0 || bits v 10 8 == 7)
    let word := if bad then setBits w.1 10 8 (bits old 10 8) else w.1
    let s := s.mapWeft fun x => { x with routes := sset (fun _ => (0 : Word)) x.routes d word }
    if w.2 || bad then s.badw Reg.WFT_RTDATA else s

/-- PCK_THERM: TRIP 100 to 125, THROT 70 to TRIP − 5 with the TRIP that the write leaves (R632). -/
def State.writeTherm (s : State) (v : Word) : State :=
  let trip := if s.bit Reg.PCK_CTRL 31 ∨ bits v 15 8 < 100 ∨ 125 < bits v 15 8 then s.fld Reg.PCK_THERM 15 8 else bits v 15 8
  s.writeUnless Reg.PCK_THERM v (decide (bits v 7 0 < 70 ∨ trip < bits v 7 0 + 5)) 7 0

/-! ## Writes -/

/-- A write of the DBG block (R577). -/
def State.writeDbg (s : State) (m : Master) (off : Nat) (v : Word) : State :=
  if off = Reg.DBG_AUTHCTRL then s.writeAuthCtrl v
  else if Reg.DBG_AUTHWIN ≤ off ∧ off < Reg.DBG_AUTHWIN + 160 then s.setReg off v
  else if off = Reg.DBG_PCTRL then s.writePctrl m v
  else if Reg.DBG_BPADDR ≤ off ∧ off < Reg.DBG_BPADDR + 64 then
    s.writeBp m ((off - Reg.DBG_BPADDR) / 8) (decide ((off - Reg.DBG_BPADDR) % 8 = 4)) v
  else if off = Reg.DBG_RSEL then s.writeRsel v
  else if off = Reg.DBG_RDATA then s.writeRdata m v
  else s.writeFields off v

/-- A write of a register that is no half of a quantity, by its block. -/
def State.writeSingle (s : State) (m : Master) (off : Nat) (v : Word) : State :=
  if off < 0x40000 then
    if off = Reg.GLN_CLEAR then (s.gleanClear v.toNat).1
    else if off = Reg.ALM_CTRL then (if v.getLsbD 0 then s.callSnapshot [.manual] else s)
    else s.writeFields off v
  else if off < 0x80000 then
    if off = Reg.TCK_TXBUDGET then s.writeBudget v
    else if off = Reg.TCK_SRC ∨ off = Reg.TCK_TOUT then (s.writeFields off v).settlePins s.tickOutDriver
    else s.writeFields off v
  else if off < 0x100000 then
    if Reg.SOW_PAIR ≤ off ∧ off < Reg.SOW_PAIR + 384 then s.writeSowPair ((off - Reg.SOW_PAIR) / 4) v
    else s.writeFields off v
  else if off < 0x140000 then
    if off = Reg.JNL_CTRL then s.writeJnlCtrl v
    else if off = Reg.JNL_RINGCFG then s.writeRingCfg v
    else s.writeFields off v
  else if off < 0x180000 then
    if off = Reg.TWN_CTRL then s.writeTwnCtrl v
    else if off = Reg.TWN_CFG ∨ off = Reg.TWN_PAIRGEN then s.writeTwnCfg off v
    else if off = Reg.TWN_HB then s.writeHb v
    else s.writeFields off v
  else if off < 0x200000 then (if off = Reg.STK_CTRL then s.writeStkCtrl v else s.writeFields off v)
  else if off < 0x280000 then (if off = Reg.ETH_CTRL then s.writeEthCtrl v else s.writeFields off v)
  else if off < 0x400000 then (if off = Reg.PLT_CTRL then s.writePltCtrl v else s.writeFields off v)
  else if off < 0x4C0000 then
    let e := (off - 0x400000) % 0x10000
    if 0x8000 ≤ e ∧ e < 0x8200 then s.writeUcPort off v
    else if 0x9000 ≤ e ∧ e < 0x9200 ∧ e % 0x40 = 4 then s.writePairCfg off v
    else if e = 0x120 then (List.range 8).foldl (fun s b => s.retainBank (clusterAt off) b (v.getLsbD b) []) s
    else s.writeFields off v
  else if off < 0x740000 then
    if off = Reg.WRP_TIMEOUT ∨ off = Reg.WRP_LINKCFG then s.writeWarpTime off v
    else if off = Reg.WRP_RTDATA then s.writeRtData v
    else if off = Reg.WRP_RTCTRL then s.writeRtCtrl v
    else s.writeFields off v
  else if off < 0x780000 then (if off = Reg.THR_CTRL then (s.writeThrCtrl v).showGates off else s.writeFields off v)
  else if off < 0x7C0000 then
    if Reg.CPH_LOCK ≤ off ∧ off < Reg.CPH_LOCK + 64 then s.writeLock ((off - Reg.CPH_LOCK) / 4) v
    else if Reg.CPH_ALLOT ≤ off ∧ off < Reg.CPH_ALLOT + 1024 then s.writeAllot ((off - Reg.CPH_ALLOT) / 4) v
    else s.writeFields off v
  else if off < 0x800000 then
    if off = Reg.FRW_CTRL then s.writeFrwCtrl v
    else if Reg.FRW_GROUP ≤ off ∧ off < Reg.FRW_GROUP + 256 then s.writeGroup ((off - Reg.FRW_GROUP) / 4) v
    else s.writeFields off v
  else if off < 0x880000 then
    if off = Reg.WFT_CTRL then (s.writeWftCtrl v).showGates off
    else if off = Reg.WFT_RTDATA then s.writeWftRoute v
    else if Reg.WFT_RWIN ≤ off ∧ off < Reg.WFT_RWIN + 1024 then
      s.writeUnless off v (decide (bits v 25 16 = s.devId)) 25 16
    else s.writeFields off v
  else if off < 0x8C0000 then
    if off = Reg.PCK_RSTCTRL then s.writeRstCtrl m v
    else if off = Reg.PCK_WDOG then s.writeWdog v
    else if off = Reg.PCK_THERM then s.writeTherm v
    else if off = Reg.PCK_CLSPWR then s.writeClsPwr v
    else s.writeFields off v
  else if off < 0x8E0000 then
    if off = Reg.LCT_TMASK ∧ 1 < s.fuses.lifecycle then s.badw off else s.writeFields off v
  else if off < 0x900000 then s.writeDbg m off v
  else if off = Reg.PAD_FUNC then (s.writeFields off v).settlePins s.tickOutDriver
  else s.writeFields off v

/-- A write of the _HI word that submits a descriptor or an operation (R458, R474, R499). These quantities are write-only,
and their current low word is taken as zero where none is held (log entry 123). -/
def State.submitHi (s : State) (off : Nat) (v : Word) : State :=
  let q := (s.heldLo off).toNat + 2 ^ 32 * v.toNat
  let s := s.mapCtl fun c => { c with held := sdel c.held (off - 4) }
  if off = Reg.THR_SUBMIT_HI then s.thrSubmitAt q
  else if off = Reg.CPH_SUBMIT_HI then s.cphSubmitAt q
  else s.frwSubmitAt q

/-- A write of control space by a master, DBG_MDATA apart (R9 to R14). -/
def State.writePlain (s : State) (m : Master) (off : Nat) (v : Word) : State :=
  if !mayWrite m off then s
  else match regDef? off with
    | none => s.badw off
    | some r =>
      match r.role with
      | .lo => if r.writable then s.holdLo off v else s
      | .hi =>
        if off = Reg.THR_SUBMIT_HI ∨ off = Reg.CPH_SUBMIT_HI ∨ off = Reg.FRW_SUBMIT_HI then s.submitHi off v
        else s.writeHi off v r.zeroMask r.lockable r.writable
      | .single => s.writeSingle m off v

end Sys2Proof.Machine
end

