-- ==== Sys2Proof/Machine/Manage.lean ====
section
/-! DEFINITION. The commands on plots, queues, spaces and programs (R222 to R249, R267) with the reset of a plot and the
destruction of a queue (R244 to R247). -/

namespace Sys2Proof.Machine

open Sys2Proof

/-! ## Statuses (R259) -/

def stBadParam : Nat := 0x2005
def stNotPermitted : Nat := 0x3001
def stLifecycle : Nat := 0x3002
def stAuthFailed : Nat := 0x3003
def stNotReady : Nat := 0x4001
def stBusy : Nat := 0x4002
def stNoResource : Nat := 0x4003
def stNotFound : Nat := 0x4004
def stExists : Nat := 0x4005
def stWrongState : Nat := 0x4006
def stInternal : Nat := 0x6001
def stKeyLost : Nat := 0x6003

/-! ## Creation and shares -/

/-- The descriptor that a command leaves a plot with: the change that waits for the tick, else the one in force
(R224). -/
def Plot.pendingDesc (x : Plot) : Desc := x.next.getD x.desc

/-- SHARE of the own plots together, one of them left out (R237). -/
def State.ownShares (s : State) (but : Nat) : Nat :=
  ((s.plots.plots.filter fun p => p.2.own && p.1 != but).map fun p => p.2.pendingDesc.share).sum

/-- Address and prefix parameters of a command (R225, R255). -/
def FwCmd.prefixes (c : FwCmd) : List SrcPfx :=
  (c.all pSrcpfx).map fun v => { addr := v.take 16, len := beAt v 16 1, family := beAt v 17 1 }

/-- A plot number is in use on this device or its partner (R159). -/
def State.plotUsed (s : State) (n : Nat) : Bool := (s.plot n).isSome || (s.twin.copies.lookup n).isSome

/-- The descriptor of PLOT_CREATE (R267). -/
def FwCmd.newDesc (c : FwCmd) : Desc :=
  let fl := c.num pPflags
  { state := .active, adopted := false, splitOk := fl.testBit 1, srcAny := fl.testBit 2
    share := c.num pShare, urgMax := c.num pUrgmax, classes := (c.num? pClasses).getD 0x0E, qmax := c.num pQmax
    addr6 := c.all pAddr6, addr4 := c.all pAddr4, srcFilt := c.prefixes }

/-- The plot table is initialised (R249). -/
def State.pltReady (s : State) : Bool := s.bit Reg.PLT_STATUS 0

def execPlotCreate (plot queue : Nat) (s : State) : Ans :=
  .next (s.runCmd plot queue 0x10 fun c s =>
    let n := c.target
    if !s.pltReady then .err s stNotReady
    else if s.plotUsed n then .err s stExists
    else if 1024 < s.ownShares n + c.num pShare then .err s stNoResource
    else if (s.createPlot n c.newDesc).isNone then .err s stNoResource
    else s.changePlot c (fun s => (s.createPlot n c.newDesc).getD s) [])

/-- A change of a descriptor that takes effect at the next tick (R224, R243). -/
def State.nextDesc (s : State) (n : Nat) (f : Desc → Desc) : State :=
  s.mapPlot n fun x => { x with next := some (f x.pendingDesc) }

/-- The descriptor of a copy for the partner is the one that the command leaves. -/
def State.descNow (s : State) (n : Nat) : State :=
  s.mapPlot n fun x => { x with desc := { x.pendingDesc with state := x.desc.state } }

/-- A change of an own plot's descriptor, which is mirrored as it will be and takes effect at the next tick (R161,
R224). -/
def State.changeDesc (s : State) (c : FwCmd) (f : Desc → Desc) (after : State → State) : CmdEnd :=
  let t := (s.nextDesc c.target f).descNow c.target
  let own := ((s.plot c.target).map (·.own)).getD false
  s.mirrored c own (t.copyFrame c) fun s => .ok (after (s.nextDesc c.target f)) []

/-- The queue pairs of a plot (R225: QCOUNT). -/
def State.qcount (s : State) (n : Nat) : Nat := (s.plots.qpairs.filter fun q => q.plot = n).length

def execPlotSetShare (plot queue : Nat) (s : State) : Ans :=
  .next (s.runChecked plot queue 0x13 (fun c s => (s.plot c.target).isSome && (c.num? pQmax).any fun n => n < s.qcount c.target) fun c s =>
    match s.plot c.target with
    | none => .err s stNotFound
    | some x =>
      let d := x.pendingDesc
      if c.num? pShare ≠ none ∧ x.own ∧ 1024 < s.ownShares c.target + c.num pShare then .err s stNoResource
      else s.changeDesc c (fun _ =>
        { d with share := (c.num? pShare).getD d.share, urgMax := (c.num? pUrgmax).getD d.urgMax
                 classes := (c.num? pClasses).getD d.classes, qmax := (c.num? pQmax).getD d.qmax }) id)

/-- The addresses of a plot as its descriptor will hold them are announced (R175, R267). -/
def State.announceNext (s : State) (n : Nat) : State :=
  let t := s.descNow n
  let r := t.moveAddresses n
  { r with plots := s.plots }

def execPlotSetAddr (plot queue : Nat) (s : State) : Ans :=
  .next (s.runCmd plot queue 0x14 fun c s =>
    match s.plot c.target with
    | none => .err s stNotFound
    | some x =>
      let d := x.pendingDesc
      let fl := c.num? pPflags
      s.changeDesc c (fun _ =>
        { d with addr6 := c.all pAddr6, addr4 := c.all pAddr4, srcFilt := c.prefixes
                 splitOk := (fl.map fun f => f.testBit 1).getD d.splitOk
                 srcAny := (fl.map fun f => f.testBit 2).getD d.srcAny }) fun s => s.announceNext c.target)

/-- A DATA parameter. -/
def tlvData (b : List Byte) : List Byte := tlv pData b

def execPlotGet (plot queue : Nat) (s : State) : Ans :=
  .next (s.runCmd plot queue 0x15 fun c s =>
    match s.plot c.target with
    | none => .err s stNotFound
    | some x => .ok s [tlvData (s.descBytes c.target x)])

/-! ## Spaces (R227, R228) -/

/-- The SPACE parameter: local space and entry. -/
def FwCmd.space (c : FwCmd) : Nat × Space :=
  let v := (c.bytes? pSpace).getD []
  (beAt v 0 1, { base := beAt v 4 8, pages := beAt v 12 4, attr := beAt v 16 4 })

/-- A remote segment is not CACHEABLE and lies in one window (R530); every other BASE is below 2^46 (R227). -/
def Space.remoteOk (e : Space) : Bool :=
  if rangesShare e.range (remoteBase, scratchBase - remoteBase) then
    !e.attr.testBit 6 && e.base / 2 ^ 36 == (e.base + 4096 * e.pages - 1) / 2 ^ 36
  else decide (e.base < 2 ^ 46)

/-- The device is fallow for its partner: it serves none of the partner's plots (R160, R173). -/
def State.fallow (s : State) : Bool := s.paired && !decide (6 ≤ s.part ∧ s.part ≤ 9)

/-- A valid entry may stand in a plot's table (R124, R227, R228). -/
def State.spaceOk (s : State) (plot : Nat) (e : Space) : Bool :=
  let live := s.liveRegion plot
  e.base % 4096 == 0 && decide (1 ≤ e.pages ∧ e.pages ≤ 2 ^ 20) && decide (e.attr < 128) && e.remoteOk &&
  s.keptRegions.all (fun r => !rangesShare e.range r) && !(s.fallow && rangesShare e.range s.replRegion) &&
  s.plots.plots.all (fun p => p.1 == plot ||
    p.2.spaces.all fun g => !g.2.attr.testBit 0 || !rangesShare e.range g.2.range) &&
  (!e.journaled || (e.attr.testBit 6 && decide (live.1 ≤ e.base ∧ e.base + 4096 * e.pages ≤ live.1 + live.2)))

/-- A transaction of a plot runs in a space: one of its five space registers names it (log entry 34). -/
def State.runsIn (s : State) (plot loc : Nat) : Bool :=
  s.units.any fun x => x.2.txn.isSome && x.2.execPlot == plot &&
    (x.2.arch.sr.ispc :: x.2.arch.sr.spc).any fun w => w.toNat % 2 ^ 20 == plot * 256 + loc

/-- SPACE_SET refuses the fixed spaces, and a valid entry that may not stand (R228, R255). -/
def State.badSpace (s : State) (c : FwCmd) : Bool :=
  decide (0xFD ≤ c.space.1) || (c.space.2.attr.testBit 0 && !s.spaceOk c.target c.space.2)

def execSpaceSet (plot queue : Nat) (s : State) : Ans :=
  .next (s.runChecked plot queue 0x16 (fun c s => s.badSpace c) fun c s =>
    let e := c.space
    if (s.plot c.target).isNone then .err s stNotFound
    else if s.runsIn c.target e.1 then .err s stWrongState
    else s.changePlot c (fun s => s.setSpace c.target e.1 e.2) [])

/-! ## Queues (R230 to R234) -/

def execQueueCreate (plot queue : Nat) (s : State) : Ans :=
  .next (s.runCmd plot queue 0x17 fun c s =>
    let v := (c.bytes? pQcfg).getD []
    let n := c.num pQueuenum
    match s.plot c.target with
    | none => .err s stNotFound
    | some x =>
      if (s.qpair c.target n).isSome then .err s stExists
      else if x.desc.qmax ≤ s.qcount c.target ∨ s.freePool.isNone ∨ (s.queuePlaces (beAt v 2 1) (beAt v 0 2)).isNone then
        .err s stNoResource
      else s.changePlot c (fun s => s.addQpair c.target n (beAt v 2 1) (beAt v 0 2) 0xFFFF) [])

def execQueueGet (plot queue : Nat) (s : State) : Ans :=
  .next (s.runCmd plot queue 0x19 fun c s =>
    match s.qpair c.target (c.num pQueuenum) with
    | none => .err s stNotFound
    | some q => .ok s [tlvData q.entryBytes])

/-! ## Reset (R244 to R247) -/

/-- A report entry (R246). -/
def reportEntry (queue outcome status reqid epoch : Nat) : ReportEntry :=
  { queue := queue, outcome := outcome, status := status, reqid := reqid, epoch := epoch }

/-- The slots of a queue that wait are listed as NOT_RUN, and are DONE (R246, R272). -/
def State.notRun (s : State) (r : ResetRun) (q : QPair) : State :=
  let waiting := q.slots.filter fun x => x.sstate == .waiting
  let s := s.mapQpair q.plot q.queue fun q =>
    { q with slots := q.slots.map fun x => if x.sstate == .waiting then { x with sstate := .done } else x }
  s.mapPlots fun p => { p with resets := p.resets.map fun t =>
    if t.byPlot = r.byPlot ∧ t.byQueue = r.byQueue then
      { t with entries := t.entries ++ waiting.map fun x => reportEntry q.queue 3 0 x.reqid 0 } else t }

/-- The queue that a job's operation was started through is covered (R465, R517). -/
def State.opCovered (s : State) (r : ResetRun) (o : Option Nat) : Bool :=
  match r.onlyQueue with
  | none => true
  | some q => ((o.bind s.op).map fun x => x.queue == some q).getD false

/-- A Furrow operation is covered. -/
def ResetRun.coversOp (r : ResetRun) (o : FrwOp) : Bool :=
  decide (o.plot = r.plot) && (r.onlyQueue.isNone || o.queue == r.onlyQueue)

/-- A reset begins (R244, steps 1 to 3): STATE, the queues drain, the running transactions get the input, what waits is
listed, the jobs are cancelled. -/
def State.startReset (s : State) (c : FwCmd) (only : Option Nat) (destroy : Bool) : State :=
  let qs := s.plots.qpairs.filter fun q => q.plot = c.target ∧ (only = none ∨ only = some q.queue)
  let r : ResetRun :=
    { plot := c.target, onlyQueue := only, destroy := destroy, byPlot := c.plot, byQueue := c.queue, epoch0 := s.epoch
      queues := qs.length, aborted := 0, cancelled := 0, entries := [] }
  let s := s.mapPlots fun p =>
    { p with resets := p.resets ++ [r]
             qpairs := p.qpairs.map fun q => if r.covers q.plot q.queue then { q with draining := true } else q }
  let s := if only.isSome then s
    else s.mapPlot c.target fun x => { x with desc := { x.desc with state := if destroy then .destroying else .resetting } }
  let mine := s.sower.slots.filter fun t => r.covers t.plot t.queue
  let s := (mine.filter fun t => t.unit.isNone && t.redo && t.result.isNone).foldl (fun s t => s.report t 3 0 0 false) s
  let s := (mine.filterMap fun t => t.unit).foldl (fun s u => s.endInput u .reset) s
  let s := qs.foldl (fun s q => match s.qpair q.plot q.queue with
    | some q => s.notRun r q
    | none => s) s
  let f := s.frwCancel r.coversOp
  let t := f.1.thrCancel fun j => j.plot = c.target && f.1.opCovered r j.furrow
  let k := t.1.cphCancel fun j => j.plot = c.target && !j.atD && t.1.opCovered r j.furrow
  k.1.mapPlots fun p => { p with resets := p.resets.map fun x =>
    if x.byPlot = c.plot ∧ x.byQueue = c.queue then { x with cancelled := f.2 + t.2 + k.2 } else x }

/-- The command that a reset answers. -/
def State.resetCmd (s : State) (r : ResetRun) : Option FwCmd :=
  s.steward.cmds.find? fun c => c.plot = r.byPlot ∧ c.queue = r.byQueue

/-- A command that resets a plot or destroys a queue: its start is mirrored for an own plot (R161, R244). -/
def State.resetCommand (s : State) (c : FwCmd) (only : Option Nat) (destroy : Bool) : CmdEnd :=
  if c.stage = .begun then .wait s
  else
    let own := ((s.plot c.target).map (·.own)).getD false && c.target != 0
    let t :=
      match only with
      | none => s.mapPlot c.target fun x => { x with desc := { x.desc with state := if destroy then .destroying else .resetting } }
      | some n => s.mapPlots fun p => { p with qpairs := p.qpairs.filter fun q => !(q.plot == c.target && q.queue == n) }
    s.mirrored c own (t.copyFrame c) fun s => (s.startReset c only destroy).begin c

def execPlotReset (plot queue : Nat) (s : State) : Ans :=
  .next (s.runCmd plot queue 0x12 fun c s =>
    if (s.plot c.target).isNone then .err s stNotFound else s.resetCommand c none false)

def execPlotDestroy (plot queue : Nat) (s : State) : Ans :=
  .next (s.runCmd plot queue 0x11 fun c s =>
    if (s.plot c.target).isNone then .err s stNotFound else s.resetCommand c none true)

def execQueueDestroy (plot queue : Nat) (s : State) : Ans :=
  .next (s.runCmd plot queue 0x18 fun c s =>
    let n := c.num pQueuenum
    if (s.qpair c.target n).isNone then .err s stNotFound
    else if c.target = c.plot ∧ n = c.queue then .err s stWrongState
    else s.resetCommand c (some n) false)

/-- Steps 2 to 4 of a reset are done (R244): no transaction or job is left, no commit waits for its seal, no command is in
the Steward's hands; and the stakes that a plot's transactions gave up have left the table (R121). -/
def State.resetDrained (s : State) (r : ResetRun) : Bool :=
  !(s.sower.slots.any fun t => r.covers t.plot t.queue) &&
  !(s.thresher.jobs.any fun j => j.plot == r.plot && s.opCovered r j.furrow) &&
  !(s.cipher.jobs.any fun j => j.plot == r.plot && !j.atD && s.opCovered r j.furrow) &&
  !(s.furrow.ops.any fun o => decide (o.kind = .program) && o.done.isNone && r.coversOp o) &&
  !(s.steward.cmds.any fun c => r.covers c.plot c.queue) &&
  !(r.onlyQueue.isNone && s.stakes.msgs.any fun m => m.ns == r.plot && m.who.dev == s.devId)

/-- What no host acknowledged is listed: COMMITTED where it committed in a sealed epoch, a request answered as already
committed among them, else ENDED with its status (R246, R147). -/
def QPair.unacknowledged (q : QPair) : List ReportEntry :=
  (q.slots.filter fun x => q.cq.any fun e => e.slotNo == x.no).map fun x =>
    if x.txn ∧ x.status < 2 ∧ x.epoch ≠ 0 then reportEntry q.queue 1 0 x.reqid x.epoch
    else reportEntry q.queue 4 x.status x.reqid 0

/-- The bytes of a report, cut between entries into pieces of at most 8,192 bytes (R246). -/
def ReportEntry.bytes (e : ReportEntry) : List Byte :=
  beBytes 2 e.queue ++ beBytes 1 e.outcome ++ [0] ++ beBytes 2 e.status ++ zeros 2 ++ beBytes 8 e.reqid ++ beBytes 8 e.epoch

def ResetRun.header (r : ResetRun) : List Byte :=
  beBytes 2 r.plot ++ beBytes 2 r.queues ++ beBytes 4 r.aborted ++ beBytes 4 r.cancelled ++ beBytes 4 r.entries.length ++
  beBytes 8 r.epoch0 ++ zeros 8

/-- A list cut into pieces of at most n; fuel bounds their number. -/
def chunksOf {α : Type} (n : Nat) : Nat → List α → List (List α)
  | 0, _ => []
  | fuel + 1, l => if l.isEmpty then [] else l.take n :: chunksOf n fuel (l.drop n)

def ResetRun.parts (r : ResetRun) : List (List Byte) :=
  let first := r.header ++ (r.entries.take 340).flatMap ReportEntry.bytes
  (first :: (chunksOf 341 r.entries.length (r.entries.drop 340)).map fun l => l.flatMap ReportEntry.bytes).map tlvData

/-- A packet of an event session answers no more for a queue whose ring is emptied (R234, R244). -/
def ResetRun.forget (r : ResetRun) (event : Bool) (plot : Nat) (k : OutPkt) : OutPkt :=
  if event then { k with answers := k.answers.filter fun a => !r.covers plot a.1 } else k

/-- The sessions of a reset end with GONE, and what was kept or held for them goes (R205, R219, R244). -/
def State.endSessions (s : State) (r : ResetRun) : State :=
  let mine (x : Session) : Bool := x.plot == r.plot && (match r.onlyQueue with
    | none => true
    | some q => !x.event && x.number == q)
  let s := ((s.eth.sessions.filter mine).map Session.ref).foldl State.endGone s
  s.mapEth fun e =>
    { e with kept := (e.kept.filter fun k => !(k.plot == r.plot && (match r.onlyQueue with
               | none => true
               | some q => !k.event && k.number == q))).map fun k => { k with pkts := k.pkts.map (r.forget k.event k.plot) }
             heldc := e.heldc.filter fun h => !r.covers h.comp.plot h.comp.queue
             sessions := e.sessions.map fun x =>
               { x with held := x.held.filter fun h => !r.covers h.plot h.queue
                        unacked := x.unacked.map (r.forget x.event x.plot)
                        unsent := x.unsent.map (r.forget x.event x.plot) } }

/-- The key groups of a plot that is destroyed (R479). -/
def State.eraseGroups (s : State) (plot : Nat) : State :=
  let groups := (List.range 256).filter fun g =>
    16 ≤ g && s.bit (Reg.CPH_ALLOT + 4 * g) 31 && s.fld (Reg.CPH_ALLOT + 4 * g) 11 0 == plot
  let s := s.mapCipher fun c => { c with slots := c.slots.filter fun k => k.1 / 16 ∉ groups }
  groups.foldl (fun s g => s.setBit (Reg.CPH_ALLOT + 4 * g) 31 false) s

/-- A queue after a reset: empty, in use again (R244). -/
def QPair.cleared (q : QPair) : QPair :=
  { q with draining := false, slots := [], cq := [], dedup := [], doneNo := 0, sqTail := q.sqHead, cqTail := q.cqHead }

/-- The plot or queue after a reset (R237, R244, R247, R267). -/
def State.resetObject (s : State) (r : ResetRun) : State :=
  match r.onlyQueue with
  | some q =>
    (s.mapPlots fun p => { p with qpairs := p.qpairs.filter fun x => !(x.plot == r.plot && x.queue == q) }).mapSteward fun k =>
      { k with handles := k.handles.filter fun h => !(h.plot == r.plot && h.queue == q) }
  | none =>
    let s := s.count Reg.PLT_CNT_RESET 1
    let s := s.mapThresher fun t => { t with credit := sdel t.credit r.plot }
    if r.destroy then (s.eraseGroups r.plot).removePlot r.plot
    else
      let s := s.invalidate r.plot
      let s := s.mapPlots fun p => { p with qpairs := p.qpairs.map fun q => if q.plot = r.plot then q.cleared else q }
      s.mapPlot r.plot fun x => { x with credit := List.replicate 5 0, desc := { x.desc with state := .active } }

/-- The partner's copy of an own plot after a reset (log entry 14). -/
def State.resetCopy (s : State) (r : ResetRun) (own : Bool) : State :=
  if !own || s.bit Reg.TWN_STATUS 5 then s
  else match s.plot r.plot with
    | some x => s.mirrorSend wfState (beBytes 1 stPlot ++ beBytes 8 0 ++ s.plotCopy r.plot x)
    | none => s.mirrorSend wfState (beBytes 1 stPlotGone ++ beBytes 8 0 ++ beBytes 2 r.plot)

/-- Steps 5 and 6 of a reset (R244), with its report as the reply (R246). -/
def State.endReset (s : State) (r : ResetRun) : State :=
  let own := ((s.plot r.plot).map (·.own)).getD false && r.plot != 0
  let s := s.endSessions r
  let qs := s.plots.qpairs.filter fun q => r.covers q.plot q.queue
  let r := { r with entries := r.entries ++ qs.flatMap QPair.unacknowledged }
  let s := s.freeLocks r.plot r.onlyQueue
  let s := s.mapPlots fun p => { p with resets := p.resets.filter fun x => !(x.byPlot == r.byPlot && x.byQueue == r.byQueue) }
  let s := (s.resetObject r).resetCopy r own
  match s.resetCmd r with
  | some c => s.replyOk c r.parts
  | none => s

def execPlotResetDrainDone (plot : Nat) (s : State) : Ans :=
  .next (match s.plots.resets.find? fun r => r.plot = plot && s.resetDrained r with
    | some r => if s.safe ∨ s.evral.stewHalt then s else s.endReset r
    | none => s)

/-! ## Programs (R229, R267) -/

/-- The space that LIB_LOAD names. -/
def Plot.loadSpace (x : Plot) (c : FwCmd) : Space :=
  sget (fun _ => { base := 0, pages := 0, attr := 0 }) x.spaces (c.num pLspace)

/-- LIB_LOAD writes into a space with EXEC and T_ACCESS, inside it (R267). -/
def State.badLoad (s : State) (c : FwCmd) : Bool :=
  (s.plot c.target).any fun x =>
    let e := x.loadSpace c
    !(e.attr.testBit 0 && e.attr.testBit 3 && e.attr.testBit 5) ||
      decide (4096 * e.pages < c.num pOffset + ((c.bytes? pData).getD []).length)

/-- A program is written into a remote space, line by line (R530). -/
def State.loadAway (s : State) (plot pa : Nat) (d : List Byte) : State :=
  (chunksOf 64 d.length d).zipIdx.foldl (fun s x =>
    s.sendRecord stewardUnit (pa + 64 * x.2) x.1.length true none plot x.1) s

/-- LIB_LOAD waits for the answers to its remote writes; one that was denied ends it with INTERNAL (log entry 35). -/
def State.loadAnswered (s : State) : CmdEnd :=
  if s.weft.reqs.any fun r => r.unit == stewardUnit && r.write then .wait s
  else if (s.unit stewardUnit).latch.mcheck.isSome then
    .err (s.mapUnit stewardUnit fun x => { x with latch := { x.latch with mcheck := none } }) stInternal
  else .ok s []

/-- LIB_LOAD. -/
def execLibLoad (plot queue : Nat) (s : State) : Ans :=
  .next (s.runChecked plot queue 0x20 (fun c s => s.badLoad c) fun c s =>
    match s.plot c.target with
    | none => .err s stNotFound
    | some x =>
      let d := (c.bytes? pData).getD []
      let pa := (x.loadSpace c).base + c.num pOffset
      if c.stage = .begun then s.loadAnswered
      else if (s.answerOf 12 pa).1 ≠ .ok then .err s stInternal
      else if s.region pa = .remote then (s.loadAway c.target pa d).begin c
      else .ok (s.agentStore pa d) [])

def execLibSetEntry (plot queue : Nat) (s : State) : Ans :=
  .next (s.runCmd plot queue 0x21 fun c s =>
    if (s.plot c.target).isNone then .err s stNotFound
    else s.changePlot c (fun s =>
      (c.all pLibent).foldl (fun s v => s.setLibEntry c.target (beAt v 0 2) (beAt v 2 1) (beAt v 4 4)) s) [])

/-- DATA written into the staging image (R267). -/
def Plot.stage (x : Plot) (off : Nat) (d : List Byte) : Plot :=
  { x with staging := (d.zip (List.range d.length)).foldl (fun l b => sput l (off + b.2) b.1) x.staging }

/-- The staged image: every byte up to the last one loaded. -/
def Plot.image (x : Plot) : List Byte :=
  let n := x.staging.foldl (fun n e => max n (e.1 + 1)) 0
  (List.range n).map fun i => sget (fun _ => 0) x.staging i

/-- The staged image is measured, into MEAS5 too, and installed where firmware chooses (R267, R551; a free value). -/
def State.installExec (s : State) (n : Nat) : Option State :=
  (s.plot n).bind fun x =>
    let img := x.image
    ((s.mapPlot n fun y => { y with staging := [] }).placeImage n img).map fun s => s.extendMeas 5 (sha384 img)

def execExecLoad (plot queue : Nat) (s : State) : Ans :=
  .next (s.runCmd plot queue 0x22 fun c s =>
    let stage (s : State) : State := s.mapPlot c.target fun x => x.stage (c.num pOffset) ((c.bytes? pData).getD [])
    if (s.plot c.target).isNone then .err s stNotFound
    else if s.qcount c.target ≠ 0 then .err s stWrongState
    else if c.num pMode = 0 then .ok (stage s) []
    else
      let meas := ((stage s).plot c.target).map fun x => sha384 x.image
      if ((stage s).installExec c.target).isNone then .err s stNoResource
      else s.changePlot c (fun s => ((stage s).installExec c.target).getD s) [tlvData (meas.getD [])])

end Sys2Proof.Machine
end

