-- ==== Sys2Proof/Machine/Tables.lean ====
section
/-! DEFINITION. The tables that hardware and firmware keep in DRAM where no segment may lie, as their bytes stand there: the
descriptor table (R224, R225), the queue pair table (R231), the submission rings with their slot headers (R232) and the
completion rings (R234). The space and library tables (R227, R229) are bytes of memory already. -/

namespace Sys2Proof.Machine

open Sys2Proof

/-- SSTATE of a slot header (R232). -/
def SState.code : SState → Nat
  | .waiting => 1 | .handed => 2 | .dispatched => 3 | .done => 4

/-- The 64-byte header of a slot (R232). -/
def QSlot.header (x : QSlot) : List Byte :=
  fitTo 64 (leBytes 1 x.sstate.code ++ leBytes 1 x.cls ++ leBytes 1 x.port ++ [0] ++ leBytes 4 x.packet.length ++
    leBytes 8 x.arrival ++ leBytes 8 x.reqid ++ leBytes 4 x.session ++ leBytes 2 (x.tslot.getD 0xFFFF))

/-- A slot of a submission ring: its header, then the packet as received (R232). -/
def QSlot.bytes (x : QSlot) (size : Nat) : List Byte := fitTo size (x.header ++ x.packet)

/-- An entry of a completion ring: the entry word, then the record or the reference (R234). -/
def CqEnt.entry (e : CqEnt) (depth : Nat) : List Byte :=
  fitTo 320 (leBytes 8 (e.kind + e.slotNo % max 1 depth * 2 ^ 16) ++ e.bytes)

/-- A byte of a table of entries of n bytes each, with k entries, at a base. -/
def tableAt (a base n k : Nat) (entry : Nat → List Byte) : Option Byte :=
  if base ≤ a ∧ a < base + n * k then some ((entry ((a - base) / n)).getD ((a - base) % n) 0) else none

/-- A byte of the descriptor table (R224, R225). -/
def State.descByte (s : State) (a : Nat) : Option Byte :=
  tableAt a (s.reg64 Reg.PLT_DESC_BASE_LO) 1024 4096 fun n => ((s.plot n).map (s.descBytes n)).getD []

/-- A byte of the queue pair table (R231). -/
def State.qpByte (s : State) (a : Nat) : Option Byte :=
  tableAt a (s.reg64 Reg.PLT_QP_BASE_LO) 64 65536 fun n =>
    ((s.plots.qpairs.find? fun q => q.pool = n).map QPair.entryBytes).getD []

/-- A byte of a queue's submission ring (R232). A free slot shows zeros (log entry 18). -/
def QPair.sqByte (q : QPair) (a : Nat) : Option Byte :=
  let size := slotBytes q.slotsz
  tableAt a q.sqBase size q.depth fun n =>
    ((q.slots.find? fun x => x.no % max 1 q.depth = n).map fun x => x.bytes size).getD []

/-- A byte of a queue's completion ring: an entry stands where its count, CQ_HEAD when it was written, puts it (R234). -/
def QPair.cqByte (q : QPair) (a : Nat) : Option Byte :=
  tableAt a q.cqBase 320 q.depth fun n =>
    ((q.cq.find? fun e => e.pos % max 1 q.depth = n).map fun e => e.entry q.depth).getD []

/-- A byte of a table that hardware or firmware keeps, once the tables are READY (R249). -/
def State.tableByte (s : State) (a : Nat) : Option Byte :=
  if !s.bit Reg.PLT_STATUS 0 then none
  else ((s.descByte a).or (s.qpByte a)).or (s.plots.qpairs.findSome? fun q => (q.sqByte a).or (q.cqByte a))

/-- A byte as the debug port reads it: a table's, else memory's. -/
def State.shownByte (s : State) (a : Nat) : Byte := (s.tableByte a).getD (s.byte a)

end Sys2Proof.Machine
end

