-- ==== Sys2Proof/Machine/DebugMem.lean ====
section
/-! DEFINITION. The memory access of the debug port (R574), the whole of control space as a master reads and writes it
(R9 to R14), and the transfers of the Evral port (R565, R566). -/

namespace Sys2Proof.Machine

open Sys2Proof

/-! ## DBG_MDATA -/

/-- An access of DBG_MDATA is refused: no scope, or a barred register (R574). -/
def State.mdataDenied (s : State) (m : Master) : Bool :=
  !s.hasScope m 1 || (match s.region (s.reg64 Reg.DBG_MADDR_LO) with
    | .control off => mdataBarred off
    | _ => false)

/-- The cluster whose strongroom a word at an address touches. -/
def State.strongAt (s : State) (pa : Nat) : Option Nat :=
  match s.region pa with
  | .scratch c off => if touchesStrongroom off 4 then some c else none
  | _ => none

/-- The answer that the port's access to an address meets at stop 30 (R438, R574); it reaches no remote window (log
entry 27). -/
def State.mdataAnswer (s : State) (pa : Nat) : WarpStatus × Nat :=
  match s.region pa with
  | .remote => (.decode, 0)
  | _ => s.answerOf 30 pa

/-- DBG_MADDR moves on by 4 (R574). -/
def State.nextMaddr (s : State) : State :=
  s.setReg64 Reg.DBG_MADDR_LO ((s.reg64 Reg.DBG_MADDR_LO + 4) % 2 ^ 46)

/-- An error response to the port's access (R574). -/
def State.mdataError (s : State) : State := (s.setBit Reg.DBG_ERR 4 true).nextMaddr

/-- A read of DBG_MDATA (R574). Refused, it returns zero and changes nothing but DBG_ERR. -/
def State.readMdata (s : State) (m : Master) : State × Word :=
  let pa := s.reg64 Reg.DBG_MADDR_LO
  let a := s.mdataAnswer pa
  let ones : Word := 0xFFFFFFFF#32
  if s.mdataDenied m then (s.setBit Reg.DBG_ERR 2 true, 0)
  else if a.1 ≠ .ok then ((s.logAnswer 30 (stopOf (s.region pa) pa) a.1 a.2 pa).mdataError, ones)
  else match s.strongAt pa with
    | some c => ((s.strongDeny c).mdataError, ones)
    | none =>
      match s.region pa with
      | .control off =>
        let r := s.readPlain .debugger off
        (r.1.nextMaddr, r.2)
      | _ =>
        if s.poisonIn pa 4 then (s.mdataError, ones)
        else (s.nextMaddr, BitVec.ofNat 32 (leNat ((List.range 4).map fun i => s.shownByte (pa + i))))

/-- A write of DBG_MDATA (R574). -/
def State.writeMdata (s : State) (m : Master) (v : Word) : State :=
  let pa := s.reg64 Reg.DBG_MADDR_LO
  let a := s.mdataAnswer pa
  if s.mdataDenied m then s.setBit Reg.DBG_ERR 2 true
  else if a.1 ≠ .ok then (s.logAnswer 30 (stopOf (s.region pa) pa) a.1 a.2 pa).mdataError
  else match s.strongAt pa with
    | some c => (s.strongDeny c).nextMaddr
    | none =>
      match s.region pa with
      | .control off => (s.writePlain .debugger off v).nextMaddr
      | _ => (s.agentStore pa (leBytes 4 v.toNat)).nextMaddr

/-! ## Control space whole -/

/-- A master reads control space: what it returns and what it changes (R9 to R14, R567, R574). A reset or a device
without power answers nothing. -/
def State.ctlRead (s : State) (m : Master) (off : Nat) : State × Word :=
  if s.held || off % 4 != 0 then (s, 0)
  else if inDbg off && !s.dbgReaches m false off then (s.dbgRefuse m 2, 0)
  else if off = Reg.DBG_MDATA then s.readMdata m
  else if !s.portMay m off then (s.dbgRefuse m 2, 0)
  else s.readPlain m off

/-- A master writes control space (R9 to R14, R567, R574). -/
def State.ctlWrite (s : State) (m : Master) (off : Nat) (v : Word) : State :=
  if s.held || off % 4 != 0 then s
  else if inDbg off && !s.dbgReaches m true off then s.dbgRefuse m 2
  else if off = Reg.DBG_MDATA then s.writeMdata m v
  else if !s.portMay m off then s.dbgRefuse m 2
  else s.writePlain m off v

/-- The value of a read goes to the master that made it. -/
def State.answered (r : State × Word) : State := r.1.answerRead r.2

/-- A write of a control register (R12 to R14). -/
def execRegisterWrite (m : Master) (off : Nat) (v : Word) (s : State) : Ans := .next (s.ctlWrite m off v)

/-- A read of the low word of a quantity latches the high one (R11). -/
def execRegPairLoRead (m : Master) (off : Nat) (s : State) : Ans := .next (State.answered (s.ctlRead m off))

/-- A read of the high word of a quantity returns the word latched (R11). -/
def execRegPairHiRead (m : Master) (off : Nat) (s : State) : Ans :=
  let r := s.ctlRead m off
  .next (r.1.answerRead r.2)

/-- A write of the low word of a quantity is held (R11). -/
def execRegPairLoWrite (m : Master) (off : Nat) (v : Word) (s : State) : Ans :=
  .next (s.ctlWrite m off v)

/-- A write of the high word of a quantity takes effect with the low word held (R11). -/
def execRegPairHiWrite (m : Master) (off : Nat) (v : Word) (s : State) : Ans :=
  .next (s.ctlWrite m off v)

def execDbgMdataRead (m : Master) (s : State) : Ans := .next (State.answered (s.ctlRead m Reg.DBG_MDATA))

def execDbgMdataWrite (m : Master) (v : Word) (s : State) : Ans := .next (s.ctlWrite m Reg.DBG_MDATA v)

/-! ## Evral transfers (R566) -/

/-- One bit of the CRC-8 register of R566 (polynomial x^8 + x^2 + x + 1). -/
def crc8Bit (c : BitVec 8) (b : Bool) : BitVec 8 :=
  if c.getLsbD 7 != b then (c <<< 1) ^^^ 0x07#8 else c <<< 1

/-- CRC-8 of a word, most significant bit first, from 0 (R566). -/
def crc8 (v : Word) : BitVec 8 := ((List.range 32).map fun i => v.getLsbD (31 - i)).foldl crc8Bit 0

/-- One bit of the CRC-4 register of R566 (polynomial x^4 + x + 1). -/
def crc4Bit (c : BitVec 4) (b : Bool) : BitVec 4 :=
  if c.getLsbD 3 != b then (c <<< 1) ^^^ 0x3#4 else c <<< 1

/-- HCRC: the CRC-4 over OP and ADDR, most significant bit first, from 0 (R566). -/
def hcrcOf (oper addr : Nat) : BitVec 4 :=
  ((List.range 2).map (fun i => oper.testBit (1 - i)) ++ (List.range 16).map fun i => addr.testBit (15 - i)).foldl crc4Bit 0

/-- The word behind RESP of a read: the value with its CRC-8 (R566). -/
def evralData (v : Word) : Nat := v.toNat * 256 + (crc8 v).toNat

/-- RESP codes (R566). -/
def respDone : Nat := 0b1010
def respRefused : Nat := 0b0011

/-- The bit of DBG_ERR for which the port refuses a transfer at its RESP (R566, R567, R568, R573, R574). -/
def State.portRefusal (s : State) (write : Bool) (off : Nat) : Option Nat :=
  if !s.portReaches write off then some 2
  else if off = Reg.DBG_RDATA then s.rdataRefusal .debugger
  else if off = Reg.DBG_MDATA then (if s.mdataDenied .debugger then some 2 else none)
  else if write ∧ Reg.DBG_BPADDR ≤ off ∧ off < Reg.DBG_BPADDR + 64 ∧ !s.mayRun .debugger s.dbgPair then some 2
  else none

/-- SYNC of a transfer (R566). -/
def evralSync : Nat := 0b0110

/-- A transfer whose header is right: OP 0b10 reads and 0b11 writes the DBG register at 4 × ADDR; the other two are
refused (R566), for a reason to which R577 gives no bit (log entry 27). -/
def State.evralMove (s : State) (oper addr : Nat) (v : Word) (crcOk : Bool) : State :=
  let a := Reg.DBG_ID + 4 * addr
  let write := decide (oper = 3)
  if s.evral.badData then (s.mapEvral fun e => { e with badData := false }).emit (.evral respRefused)
  else if oper < 2 then s.emit (.evral respRefused)
  else match s.portRefusal write a with
    | some b => (s.setBit Reg.DBG_ERR b true).emit (.evral respRefused)
    | none =>
      if write then
        let s := s.emit (.evral respDone)
        if !crcOk then (s.setBit Reg.DBG_ERR 5 true).mapEvral fun e => { e with badData := true }
        else if inDbg a then s.ctlWrite .debugger a v
        else s.badw Reg.DBG_ID
      else
        let r := if inDbg a then s.ctlRead .debugger a else (s, 0)
        (r.1.emit (.evral respDone)).emit (.evral (evralData r.2))

/-- A transfer on the Evral port (R566). RESP is not driven where SYNC or the header CRC is wrong, or by a device in
reset or without power. -/
def execEvralTransfer (sync : Nat) (head : EvralHead) (v : Word) (dcrc : Nat) (s : State) : Ans :=
  .next (if s.held ∨ sync ≠ evralSync ∨ head.hcrc ≠ (hcrcOf (head.oper % 4) (head.addr % 65536)).toNat then s
    else s.evralMove (head.oper % 4) (head.addr % 65536) v (decide (dcrc = (crc8 v).toNat)))

end Sys2Proof.Machine
end

