-- ==== Sys2Proof/Machine/Admin.lean ====
section
/-! DEFINITION. The commands on registers, logs, twins, pairs, keys, paths and the tick settings (R267 and the
chapters that it names). -/

namespace Sys2Proof.Machine

open Sys2Proof

/-! ## Registers (R264, R266, R267) -/

def execGetInfo (plot queue : Nat) (s : State) : Ans :=
  .next (s.runCmd plot queue 0x04 fun _ s => .ok s ([s.reg Reg.SWD_DEVID, s.feat 192 0, s.feat 192 1, s.feat 192 2,
    s.feat 192 3, s.view Reg.TWN_STATUS, s.view Reg.TCK_SEALED_LO, s.view Reg.TCK_SEALED_HI].map regVal))

/-- COUNT registers read one after another, as by loads (R267). -/
def State.readRegs (s : State) (offs : List Nat) : State × List (List Byte) :=
  offs.foldl (fun r o =>
    let x := r.1.ctlRead .headland o
    (x.1, r.2 ++ [regVal x.2])) (s, [])

def execRegRead (plot queue : Nat) (s : State) : Ans :=
  .next (s.runCmd plot queue 0x30 fun c s =>
    let r := s.readRegs (regRange c.params)
    .ok r.1 r.2)

def execRegWrite (plot queue : Nat) (s : State) : Ans :=
  .next (s.runCmd plot queue 0x31 fun c s =>
    let off := c.num pRegaddr
    let r := (s.ctlWrite .headland off (BitVec.ofNat 32 (c.num pRegval))).readRegs [off]
    .ok r.1 r.2)

/-! ## Logs (R586, R587, R603) -/

/-- ALMANAC_READ: the retained snapshots of the range, at most 4 in a part (R603). -/
def execAlmanacRead (plot queue : Nat) (s : State) : Ans :=
  .next (s.runCmd plot queue 0x3A fun c s =>
    let first := (c.num? pIndex).getD 1
    let l := (List.range ((c.num? pCount).getD 1)).filterMap fun k => s.snapshot? (first + k)
    if l.isEmpty then .err s stNotFound
    else .wait (s.replyParts c ((chunksOf 4 l.length l).map fun x => tlvData x.flatten)))

/-- GLEANER_READ: whole records in rising SEQ (R587). -/
def execGleanerRead (plot queue : Nat) (s : State) : Ans :=
  .next (s.runCmd plot queue 0x3B fun c s =>
    let l := s.recordsFrom (c.num pIndex) ((c.num? pCount).getD 1)
    if l.isEmpty then .err s stNotFound
    else .ok s [tlvData (l.flatMap GleanRec.bytes)])

def execGleanerClear (plot queue : Nat) (s : State) : Ans :=
  .next (s.runCmd plot queue 0x3C fun c s =>
    match s.gleanClear (c.num pIndex) with
    | (s, .done) => .ok s []
    | (s, .denied) => .err s stWrongState
    | (s, .notFound) => .err s stNotFound)

/-! ## Twins (R157 to R164, R181, R185, R480) -/

/-- TWN_CFG as TWIN_PAIR sets it (R186): PAIRED and ARB with the partner and the two mirror links. -/
def FwCmd.twinCfg (c : FwCmd) : Word :=
  let l := (c.bytes? pLinks).getD []
  BitVec.ofNat 32 (2 ^ 31 + c.num pPartner * 2 ^ 16 + beAt l 1 1 * 2 ^ 8 + beAt l 0 1 * 2 ^ 4 + 1)

/-- The key that wraps the stored twin root key (R480, R483). -/
def State.twinStore (s : State) : List Byte := kdf seedBytes (ascii "twin-store") (beBytes 2 s.devId) 256

/-- Registration on the arbitration, destage and checkpoint namespaces of both devices, the reservation of the own ones,
and a first renewal (R163, R167, R515). -/
def State.arbitrate (s : State) : State :=
  let r := s.newOp (.arb arbRegister) 0
  let s := [Reg.FRW_NSARBO, Reg.FRW_NSARBP, Reg.FRW_NSDST, Reg.FRW_NSPLG, Reg.FRW_NSPDST, Reg.FRW_NSPPLG].foldl (fun s reg => s.arbCmd r.2 reg nvRegister [0, s.resvKey s.devId]) r.1
  s.issueAcquire.issueReport

/-- The pairing is installed, and PART is PAIRING (R162, R267, R480). The epoch that is open is the first that the
device mirrors. -/
def State.pairWith (s : State) (c : FwCmd) (plain : List Byte) (k : KeySlot) : State :=
  let cfg := c.twinCfg
  let gen := BitVec.ofNat 32 (c.num pPairgen)
  let s := s.forgetSheafKeys.fillSlot 8 k
  let s := s.mapMram fun m => { m with twinCfg := cfg, twinGen := gen, twinBlob := keyWrap s.twinStore plain }
  let s := (s.setReg Reg.TWN_CFG cfg).setReg Reg.TWN_PAIRGEN gen
  let s := s.mapTwin fun w => { w with hbSeen := false, partSeq := none }
  s.rejoin.arbitrate

/-- TWIN_PAIR names this device itself, or one link twice (R255). -/
def State.badPartner (s : State) (c : FwCmd) : Bool :=
  let l := (c.bytes? pLinks).getD []
  c.num pPartner == s.devId || beAt l 0 1 == beAt l 1 1

/-- TWIN_PAIR; its reply waits for the partner's first heartbeat (R271). -/
def execTwinPair (plot queue : Nat) (common : Bool) (s : State) : Ans :=
  .next (s.runChecked plot queue 0x40 (fun c s => s.badPartner c) fun c s =>
    if c.stage = .begun then (if s.twin.hbSeen then .ok s [] else .wait s)
    else if s.part ≠ partNone then .err s stWrongState
    else if common then .err s stExists
    else match s.keySlot 1 with
      | none => .err s stKeyLost
      | some root =>
        match keyUnwrap (s.kekOf root.key 0) ((c.bytes? pWrapped).getD []) with
        | none => .err s stAuthFailed
        | some plain =>
          match slotOfPlain plain with
          | none => .err s stBadParam
          | some k => if k.kind ≠ 7 then .err s stBadParam else (s.pairWith c plain k).begin c)

/-- TWIN_UNPAIR: from FALLOW, SERVING and LOST, at the next closing tick (R185); where PART has left those states by
then, it is refused as it would have been at first. -/
def execTwinUnpair (plot queue : Nat) (s : State) : Ans :=
  .next (s.runCmd plot queue 0x41 fun c s =>
    if c.stage = .begun then
      (if s.part = partNone then .ok s [] else if s.twin.unpairNext then .wait s else .err s stWrongState)
    else if s.mayUnpair then
      (s.mapTwin fun w => { w with unpairNext := true }).begin c
    else .err s stWrongState)

def execTwinReturn (plot queue : Nat) (s : State) : Ans :=
  .next (s.runCmd plot queue 0x42 fun c s =>
    let mode := c.num pMode
    if mode ≤ 1 then .ok (s.setBit Reg.TWN_CTRL 1 (mode == 1)) []
    else if s.own = ownReady then .ok s.returnNowOp []
    else .err s stWrongState)

def execTwinStatus (plot queue : Nat) (s : State) : Ans :=
  .next (s.runCmd plot queue 0x43 fun _ s => .ok s ([Reg.TWN_STATUS, Reg.TWN_REBUILD, Reg.TWN_HOLDLEFT,
    Reg.TWN_HANDEPOCH_LO, Reg.TWN_HANDEPOCH_HI].map fun o => regVal (s.view o)))

/-! ## Pairs (R241, R377 to R381) -/

/-- A command that moves a pair from one role over another to a third; a takeover that meets it, and the retirement
of the pair, end it with WRONG_STATE (R375, R377, R378, R380). -/
def State.changeRole (s : State) (c : FwCmd) (p before during after : Nat) : CmdEnd :=
  let r := s.role p
  if c.stage = .begun then
    if r = after then .ok s []
    else if r = during ∧ (s.pair p).takeover.isNone then .wait s
    else .err s stWrongState
  else if r = before then (s.setRole p during).begin c
  else .err s stWrongState

def execPairSplit (plot queue : Nat) (s : State) : Ans :=
  .next (s.runCmd plot queue 0x48 fun c s => s.changeRole c (c.num pPairnum) roleActive roleSplitting roleSplit)

def execPairRejoin (plot queue : Nat) (s : State) : Ans :=
  .next (s.runCmd plot queue 0x49 fun c s => s.changeRole c (c.num pPairnum) roleSplit roleRejoining roleActive)

/-- A spare joins the general pool at the next tick (R377). -/
def State.spareActive (s : State) (c : FwCmd) (p : Nat) : CmdEnd :=
  let r := s.role p
  if r = roleActive then .ok s []
  else if r = roleSpare then
    if c.stage = .begun then .wait s else (s.mapPair p fun x => { x with toActive := true }).begin c
  else .err s stWrongState

def execSpareSet (plot queue : Nat) (s : State) : Ans :=
  .next (s.runCmd plot queue 0x4B fun c s =>
    let p := c.num pPairnum
    if c.num pMode = 0 then s.spareActive c p
    else if s.role p = roleSpare then .ok s []
    else s.changeRole c p roleActive roleReleasing roleSpare)

def execPairReserve (plot queue : Nat) (s : State) : Ans :=
  .next (s.runCmd plot queue 0x4A fun c s =>
    let p := c.num pPairnum
    let k := c.num pRclass
    if s.role p = roleSpare ∨ s.role p = roleRetired then .err s stWrongState
    else .ok (s.writeSowPair p (BitVec.ofNat 32 (if k = 0xFF then 0 else 4 + k))) [])

/-! ## Keys (R478 to R481, R484, R487) -/

/-- The slot is bound: refused, with CPH_ERR.BUSY (R487). -/
def State.boundSlot (s : State) : CmdEnd := .err (s.setBit Reg.CPH_ERR 2 true) stBusy

/-- The plot whose key-encryption key serves a slot: that of its group (R479, R484). -/
def State.plotOfSlot (s : State) (n : Nat) : Nat :=
  let w := s.reg (Reg.CPH_ALLOT + 4 * (n / 16))
  if w.getLsbD 31 then bits w 11 0 else 0

/-- The frame of a change of a key slot: the new key, or its erasure (R481; layout log entry 14). -/
def State.slotFrame (s : State) (tag n plot : Nat) (k : Option KeySlot) : State :=
  match k with
  | some k => s.sendKeyOf tag n plot k
  | none => s.mirrorSend wfState (beBytes 1 stKeyGone ++ beBytes 8 tag ++ beBytes 4 (plot * 65536 + n))

/-- A change of a key slot, which the partner confirms first where the slot is an own plot's (R161, R481). -/
def State.changeSlot (s : State) (c : FwCmd) (n : Nat) (k : Option KeySlot) : CmdEnd :=
  let plot := (s.mirroredFor n).getD 0
  if c.stage = .fresh ∧ s.paired ∧ s.mirrors (plot != 0) then
    let s := (s.slotFrame c.tag n plot k).mapTwin fun w =>
      { w with mirrors := w.mirrors ++ [{ tag := c.tag, plot := plot, sent := s.time }] }
    .wait (s.setCmd { c with stage := .mirroring })
  else .ok (match k with
    | some k => s.fillSlot n k
    | none => s.eraseSlot n) []

def execKeyUnwrap (plot queue : Nat) (s : State) : Ans :=
  .next (s.runCmd plot queue 0x50 fun c s =>
    let n := c.num pSlot
    if s.slotBound n then s.boundSlot
    else match s.keySlot 1 with
      | none => .err s stKeyLost
      | some root =>
        match s.unwrapBlob root.key (s.plotOfSlot n) ((c.bytes? pWrapped).getD []) with
        | .error st => .err s (if st = cphAuthFail then stAuthFailed else stBadParam)
        | .ok k => s.changeSlot c n (some k))

def execKeyErase (plot queue : Nat) (s : State) : Ans :=
  .next (s.runCmd plot queue 0x51 fun c s =>
    let n := c.num pSlot
    if s.slotBound n then s.boundSlot else s.changeSlot c n none)

/-! ## MACsec (R192, R255, R479) -/

/-- A slot may serve an SA: allotted to plot 0, AES256 with usage MACSEC (R479). -/
def State.macsecSlot (s : State) (n : Nat) : Bool :=
  s.allotted 0 n && (match s.keySlot n with
    | some k => k.kind == 2 && k.usage.testBit 5
    | none => false)

def execMacsecSaSet (plot queue : Nat) (s : State) : Ans :=
  .next (s.runChecked plot queue 0x52 (fun c s => !s.macsecSlot (c.num pSlot)) fun c s =>
    let a := saOf ((c.bytes? pSa).getD []) (c.num pSlot)
    .ok (s.mapEth fun e => { e with sas := e.sas.filter (fun b => !a.same b) ++ [a] }) [])

/-- MACSEC_SA_CLEAR; an SA that is not installed is an object that the command cannot act on. -/
def execMacsecSaClear (plot queue : Nat) (s : State) : Ans :=
  .next (s.runChecked plot queue 0x53 (fun c s => (s.saNamed c).isNone) fun c s =>
    let a := saOf ((c.bytes? pSa).getD []) 0
    .ok (s.mapEth fun e => { e with sas := e.sas.filter fun b => !a.same b }) [])

/-! ## Paths (R491, R492) -/

/-- A path record that PATH_SET accepts (R491). -/
def pathOk (v : List Byte) : Bool :=
  let kind := beAt v 3 1
  let n := beAt v 6 2
  decide (32 ≤ v.length) && v.length == 32 + n && decide (beAt v 0 2 < 1024 ∧ beAt v 2 1 < 64) && beAt v 5 1 == 0 &&
  beAt v 28 4 == 0 &&
  (kind == 0 ||
    (kind == 1 && decide (beAt v 4 1 ≤ 1) && decide (1 ≤ n ∧ n ≤ 223) && beAt v 26 2 == 0 &&
      (v.drop 32).all (fun b => b != 0 && decide (b.toNat < 128))) ||
    (kind == 2 && beAt v 4 1 == 0 && n == 0 && slice v 8 16 == zeros 16 && decide (beAt v 26 2 < 1024)))

/-- A path is set or removed. One that changes with commands outstanding fails first (R491). -/
def State.setPath (s : State) (v : List Byte) : State :=
  let n := beAt v 0 2
  let same := match s.path n with
    | some p => p.record == v
    | none => beAt v 3 1 == 0
  if same then s
  else
    let s := match s.path n with
      | some p => if s.pathOut n ≠ 0 then s.failPath p else s
      | none => s
    let p : Path := { num := n, record := v, state := .connecting, failed := 0, lastKa := s.time, rate := 1024, rateAt := s.time }
    s.mapFurrow fun w =>
      { w with paths := w.paths.filter (fun x => x.num ≠ n) ++ (if beAt v 3 1 = 0 then [] else [p]) }

def execPathSet (plot queue : Nat) (s : State) : Ans :=
  .next (s.runChecked plot queue 0x58 (fun c _ => !pathOk ((c.bytes? pPathcfg).getD [])) fun c s =>
    .ok (s.setPath ((c.bytes? pPathcfg).getD [])) [])

/-- A state of a path as R492 encodes it. -/
def PathState.code : PathState → Nat
  | .unset => 0 | .connecting => 1 | .ready => 2 | .failed => 3

/-- A path record with its state (R491). -/
def Path.shown (p : Path) : List Byte := tlv pPathcfg (overlay p.record 5 (beBytes 1 p.state.code))

def execPathGet (plot queue : Nat) (s : State) : Ans :=
  .next (s.runCmd plot queue 0x59 fun c s =>
    match c.num? pIndex with
    | none => .ok s ((s.furrow.paths.mergeSort fun a b => a.num ≤ b.num).map Path.shown)
    | some n =>
      match s.path n with
      | some p => .ok s [p.shown]
      | none => .err s stNotFound)

/-! ## The tick settings (R41, R42, R67) -/

/-- The period and the budget that TICK_SET names. -/
def FwCmd.tickCfg (c : FwCmd) : Nat × Nat :=
  let v := (c.bytes? pTickcfg).getD []
  (beAt v 0 1, beAt v 1 1)

/-- A pair that R41 or R67 forbids. -/
def badTick (c : FwCmd) : Bool :=
  let v := c.tickCfg
  decide (v.1 < 10 ∨ 250 < v.1 ∨ v.2 = 0 ∨ v.1 < 2 * v.2)

def execTickSet (plot queue : Nat) (s : State) : Ans :=
  .next (s.runChecked plot queue 0x68 (fun c _ => badTick c) fun c s =>
    let s := s.ctlWrite .headland Reg.TCK_PERIOD (BitVec.ofNat 32 c.tickCfg.1)
    let r := (s.ctlWrite .headland Reg.TCK_TXBUDGET (BitVec.ofNat 32 c.tickCfg.2)).readRegs [Reg.TCK_PERIOD, Reg.TCK_TXBUDGET]
    .ok r.1 r.2)

end Sys2Proof.Machine
end

