-- ==== Sys2Proof/Machine/Loads.lean ====
section
/-! DEFINITION. The loads (R284 to R287, R290, R399, R403) and the way of a store from the buffer of its unit to the
device (R127, R386 to R390, R404, R406 to R411). -/

namespace Sys2Proof.Machine

open Sys2Proof

/-! ## Loads -/

/-- The master as which a unit reads and writes control space (R9, R634). -/
def Arch.master (a : Arch) : Master := if a.level = 2 then .firmware else .executive

/-- The word of a load from control space, once the unit's stores are out (R393) and there is a credit (R443). -/
def State.loadControl (s : State) (u sp ea off : Nat) (p : Place) : Load :=
  let st := s.accessStatus u p.pa 4
  if !s.drained u || s.creditOut (clusterOf (pairOf u)) p.pa then .wait s
  else if st.1 ≠ .ok then s.loadFault u sp ea st.2 st.1
  else
    let r := s.ctlRead (s.unit u).arch.master off
    .got r.1 (leBytes 4 r.2.toNat)

/-- The bytes of a load from any place. -/
def State.loadBytes (s : State) (u sp ea n : Nat) (p : Place) (pe : Bool) : Load :=
  match s.region p.pa with
  | .control off => s.loadControl u sp ea off p
  | _ => s.loadPlace u sp ea n p pe

/-- A load of n bytes: its checks, its data, and what it does with them. -/
def State.load (s : State) (u sp ea n : Nat) (k : AccKind) (pe : Bool) (f : State → Place → List Byte → Eff) : Eff :=
  match s.place u sp ea n .read k with
  | .error e => e
  | .ok p =>
    match s.loadBytes u sp ea n p pe with
    | .got t b => f (t.useUp u) p b
    | .wait t => .hold t
    | .exc t e => .exc t e

/-- A load of n bytes into an integer register (R290). -/
def State.loadReg (s : State) (u : Nat) (f : MemF) (n : Nat) (pe : Bool) (ext : Nat → Word) : State :=
  s.execute u {} fun s =>
    s.load u f.sp.toNat ((s.unit u).arch.ea f.ra f.disp) n .plain pe fun s _ b =>
      .done (s.mapArch u fun a => a.setReg f.rd (ext (leNat b)))

def execLdb (u : Nat) (f : MemF) (pe : Bool) (s : State) : Ans := .next (s.loadReg u f 1 pe fun x => BitVec.ofNat 32 x)
def execLdbs (u : Nat) (f : MemF) (pe : Bool) (s : State) : Ans :=
  .next (s.loadReg u f 1 pe fun x => (BitVec.ofNat 8 x).signExtend 32)
def execLdh (u : Nat) (f : MemF) (pe : Bool) (s : State) : Ans := .next (s.loadReg u f 2 pe fun x => BitVec.ofNat 32 x)
def execLdhs (u : Nat) (f : MemF) (pe : Bool) (s : State) : Ans :=
  .next (s.loadReg u f 2 pe fun x => (BitVec.ofNat 16 x).signExtend 32)
def execLdw (u : Nat) (f : MemF) (pe : Bool) (s : State) : Ans := .next (s.loadReg u f 4 pe fun x => BitVec.ofNat 32 x)

/-- FLDS (R290). -/
def execFlds (u : Nat) (f : MemF) (pe : Bool) (s : State) : Ans :=
  .next (s.execute u {} fun s =>
    s.load u f.sp.toNat ((s.unit u).arch.ea f.ra f.disp) 4 .plain pe fun s _ b =>
      .done (s.mapArch u fun a => a.setF32 f.rd (leNat b)))

/-- LDL also sets the link to the granule of EA (R399, R402). -/
def execLdl (u : Nat) (f : MemF) (pe : Bool) (s : State) : Ans :=
  .next (s.execute u {} fun s =>
    s.load u f.sp.toNat ((s.unit u).arch.ea f.ra f.disp) 4 .atomic pe fun s p b =>
      .done (s.mapArch u fun a => ({ a with link := some (p.pa / 64 * 64) }).setReg f.rd (BitVec.ofNat 32 (leNat b))))

/-- Eight bytes are loaded in one piece at a multiple of 8 in cacheable memory, else as two words, the word at EA first
(R387, R403). -/
def State.loadEight (s : State) (u : Nat) (f : MemF) (pe : Bool) (g : Arch → List Byte → Arch) : Eff :=
  let sp := f.sp.toNat
  let ea := (s.unit u).arch.ea f.ra f.disp
  let done (s : State) (b : List Byte) : Eff := .done ((s.useUp u).mapArch u fun a => g a b)
  match s.place u sp ea 8 .read .other with
  | .error e => e
  | .ok p =>
    if ea % 8 = 0 ∧ p.cacheable then
      match s.loadBytes u sp ea 8 p pe with
      | .got t b => done t b
      | .wait t => .hold t
      | .exc t e => .exc t e
    else match s.loadBytes u sp ea 4 p pe with
      | .wait t => .hold t
      | .exc t e => .exc t e
      | .got t b =>
        match t.loadBytes u sp (ea + 4) 4 { p with pa := p.pa + 4 } pe with
        | .got t c => done t (b ++ c)
        | .wait t => .hold t
        | .exc t e => .exc t e

/-- LDP (R290, R403): an odd rd is ILLEGAL. -/
def execLdp (u : Nat) (f : MemF) (pe : Bool) (s : State) : Ans :=
  .next (s.execute u { even := f.rd.toNat % 2 = 0 } fun s =>
    s.loadEight u f pe fun a b =>
      (a.setReg f.rd (BitVec.ofNat 32 (leAt b 0 4))).setReg (f.rd + 1) (BitVec.ofNat 32 (leAt b 4 4)))

/-- FLDD (R290, R403). -/
def execFldd (u : Nat) (f : MemF) (pe : Bool) (s : State) : Ans :=
  .next (s.execute u {} fun s => s.loadEight u f pe fun a b => a.setF f.rd (BitVec.ofNat 64 (leNat b)))

/-! ## Stores of several ranges -/

/-- A range that a unit of operation stores to: SP field, effective address, bytes. -/
structure StoreRange where
  sp   : Nat
  ea   : Nat
  data : List Byte
  deriving DecidableEq, Repr

/-- The places of the ranges, or how the first failing check ends the instruction (R347). -/
def State.rangePlaces (s : State) (u : Nat) : List StoreRange → Except Eff (List (Place × List Byte))
  | [] => .ok []
  | r :: l =>
    match s.place u r.sp r.ea r.data.length .write .other with
    | .error e => .error e
    | .ok p =>
      if p.journaled ∧ (s.txnOf u).isNone then .error (.exc s (Exc.at exJournal 1 r.sp r.ea))
      else match s.rangePlaces u l with
        | .error e => .error e
        | .ok q => .ok ((p, r.data) :: q)

/-- A string cut at the boundaries of lines, from an address. -/
def lineCuts (pa : Nat) (data : List Byte) : List (Nat × List Byte) :=
  (linesOf pa data.length).map fun l =>
    let from_ := max l pa
    (from_, slice data (from_ - pa) (l + 64 - from_))

/-- The stores of a unit of operation enter the buffer together, each line by itself; then the instruction ends as
`f` says (R125, R128, R344, R347, R349). -/
def State.storeRanges (s : State) (u : Nat) (l : List StoreRange) (f : State → Eff) : Eff :=
  let l := l.filter fun r => !r.data.isEmpty
  match s.rangePlaces u l with
  | .error e => e
  | .ok q =>
    let journal := (q.filter fun x => x.1.journaled).map fun x => (x.1.pa, x.2.length)
    match if journal.isEmpty then none else s.captureFails u journal with
    | some bit => if s.drained u then .ended (s.captureRefused u bit) else .hold s
    | none =>
      let parts := q.flatMap fun x => (lineCuts x.1.pa x.2).map fun c => (c.1, c.2, s.storeKind x.1)
      if bufferSize < (s.unit u).stores.length + parts.length then .hold s
      else f (parts.foldl (fun s c => s.pushStore u c.1 c.2.1 c.2.2) s)

/-! ## A store on its way out -/

/-- A store of a unit left its buffer's place at a scope. -/
def State.dropStore (s : State) (sc : Scope) (b : BufStore) : State :=
  match sc with
  | .unit => s.mapUnit b.unit fun x => { x with stores := x.stores.filter fun y => y.id ≠ b.id }
  | .pair => s.mapPair (pairOf b.unit) fun x => { x with stores := x.stores.filter fun y => y.id ≠ b.id }
  | .cluster => s.mapCluster (clusterOf (pairOf b.unit)) fun x => { x with stores := x.stores.filter fun y => y.id ≠ b.id }

/-- A store is answered with an error: it goes, and MCHECK is raised at the next boundary of its unit (R294, R406,
R438). -/
def State.storeError (s : State) (sc : Scope) (b : BufStore) (st : WarpStatus) : State :=
  let c := clusterOf (pairOf b.unit)
  let a := s.answerOf c b.pa
  let s := s.logAnswer c (stopOf (s.region b.pa) b.pa) st (if a.1 = st then a.2 else 0) b.pa
  (s.dropStore sc b).mapUnit b.unit fun x =>
    { x with latch := { x.latch with mcheck := x.latch.mcheck.or (some (if st = .poison then 1 else 2)) } }

/-- From the buffer of the unit to its pair: capture, and the epoch whose mark the line will carry (R127, R410). -/
def State.storeToPair (s : State) (u : Nat) : State :=
  match (s.unit u).stores with
  | [] => s
  | b :: _ =>
    let s := if b.kind = .journal then s.captureStore u b else s
    let b := { b with mark := if b.kind = .journal then some (s.epochAt u) else none }
    ((s.dropStore .unit b).mapPair (pairOf u) fun x => { x with stores := x.stores ++ [b] }).breakLinks
      (unitsOfPair (pairOf u)) (some u) b.pa b.data.length

/-- The lines of a store that its cluster does not hold and that need a fetch: a whole line outside journaled memory is
allocated without one (R416). -/
def State.lineNeeded (s : State) (c : Nat) (b : BufStore) : Option Nat :=
  (linesOf b.pa b.data.length).find? fun l => (s.line? c l).isNone && !(b.kind == .plain && b.data.length == 64 && b.pa == l)

/-- A line is allocated for a store that writes the whole of it (R414, R416). -/
def State.allocateLine (s : State) (c pa : Nat) : State :=
  if (s.line? c pa).isSome then s
  else match s.chooseWay c pa with
    | none => s
    | some (w, byLfsr) =>
      let s := if byLfsr then s.setFld (clsReg Reg.CLS_L2LFSR c) 15 0 (lfsrNext (s.fld (clsReg Reg.CLS_L2LFSR c) 15 0)) else s
      let s := match s.wayLine c pa w with
        | some l => s.dropLine c l.pa
        | none => s
      s.putLine c { pa := lineOf pa, way := w, mark := s.markOf pa, dirty := none }

/-- The lines of a store in its cluster's cache, dirty; `none` while a fetch or a free way is awaited. -/
def State.storeLines (s : State) (c : Nat) (b : BufStore) : State × Bool :=
  match s.lineNeeded c b with
  | some l => (if s.filling c l then s else s.startFill c l b.unit .store, false)
  | none =>
    let ls := linesOf b.pa b.data.length
    let s := ls.foldl (fun s l => s.allocateLine c l) s
    if ls.any fun l => (s.line? c l).isNone then (s.setBit (clsReg Reg.CLS_L2ERR c) 5 true, false)
    else (ls.foldl (fun s l => s.dirtyLine c l b.mark) s, true)

/-- A store goes through the cluster cache (R407, R409). -/
def BufStore.cached (b : BufStore) : Bool := b.kind == .plain || b.kind == .journal

/-- From the pair to its cluster: a cacheable store writes the cluster cache (R409, R410), and the links of the
cluster's other pairs go (R400). -/
def State.storeToCluster (s : State) (u : Nat) (b : BufStore) : State :=
  let c := clusterOf (pairOf u)
  let go (s : State) : State :=
    ((s.dropStore .pair b).mapCluster c fun x => { x with stores := x.stores ++ [b] }).breakLinks
      ((unitsOfCluster c).filter fun v => pairOf v ≠ pairOf u) none b.pa b.data.length
  if b.cached then
    let r := s.storeLines c b
    if r.2 then go r.1 else r.1
  else go s

/-- The cluster whose strongroom a store touches. -/
def State.strongOf (s : State) (b : BufStore) : Option Nat :=
  match s.region b.pa with
  | .scratch c off => if touchesStrongroom off b.data.length then some c else none
  | _ => none

/-- A store becomes visible outside the cluster of its unit, where every unit has seen it (R390, R400). -/
def State.storeSeen (s : State) (c : Nat) (b : BufStore) : State :=
  (s.memStore b.pa b.data).breakLinks (allUnits.filter fun v => clusterOf (pairOf v) ≠ c) none b.pa b.data.length

/-- A store reaches a scratchpad: discarded in a strongroom that it may not reach (R428), or that is being wiped
(R429). -/
def State.storeScratch (s : State) (c : Nat) (b : BufStore) : State :=
  match s.strongOf b with
  | none => s.storeSeen c b
  | some d =>
    if !b.strong then s.strongDeny d
    else if s.bit (clsReg Reg.CLS_SPSTAT d) 16 then s
    else s.storeSeen c b

/-- A remote store leaves for its home (R530, R532). -/
def State.storeRemote (s : State) (b : BufStore) : State :=
  let s := s.sendRecord b.unit b.pa b.data.length true b.slot (s.unit b.unit).execPlot b.data
  if b.slot.isSome then s.mapUnit b.unit fun x => { x with spanStored := true } else s

/-- From the cluster to the device. -/
def State.storeToDevice (s : State) (u : Nat) (b : BufStore) : State :=
  let c := clusterOf (pairOf u)
  match b.kind with
  | .plain | .journal =>
    let r := if (linesOf b.pa b.data.length).all fun l => (s.line? c l).isSome then (s, true) else s.storeLines c b
    if r.2 then (r.1.dropStore .cluster b).storeSeen c b else r.1
  | .scratch => (s.dropStore .cluster b).storeScratch c b
  | .uncached => ((s.dropStore .cluster b).dropCopies b.pa b.data.length).storeSeen c b
  | .control => (s.dropStore .cluster b).ctlWrite .firmware (b.pa - controlBase) (BitVec.ofNat 32 (leNat b.data))
  | .remote => (s.dropStore .cluster b).storeRemote b

/-- Two stores share a byte. -/
def BufStore.meets (a b : BufStore) : Bool := decide (a.pa < b.pa + b.data.length ∧ b.pa < a.pa + a.data.length)

/-- The status that the write of a store meets, where its answer is not the one given. -/
def State.storeStatus (s : State) (b : BufStore) (r : WarpStatus) : WarpStatus :=
  if r ≠ .ok then r else (s.accessStatus b.unit b.pa b.data.length).1

/-- The oldest store of a unit at a scope moves one scope on; a store never passes an older one of its unit, nor one
to the same bytes, nor in the L1D of its pair any older one (R388, R390); one that leaves the cluster by Warp needs a
credit (R443). -/
def execStoreDrain (u : Nat) (at_ : Scope) (r : WarpStatus) (s : State) : Ans :=
  .next (match at_ with
    | .unit => s.storeToPair u
    | .pair =>
      match (s.pair (pairOf u)).stores with
      | [] => s
      | b :: _ =>
        if b.unit ≠ u then s
        else if b.cached && s.storeStatus b r != .ok then s.storeError .pair b (s.storeStatus b r)
        else s.storeToCluster u b
    | .cluster =>
      let l := (s.cluster (clusterOf (pairOf u))).stores
      match l.find? fun b => b.unit = u with
      | none => s
      | some b =>
        if (l.takeWhile fun x => x.id != b.id).any (fun x => x.meets b) ||
            !b.cached && s.creditOut (clusterOf (pairOf u)) b.pa then s
        else if s.storeStatus b r ≠ .ok then s.storeError .cluster b (s.storeStatus b r)
        else s.storeToDevice u b)

end Sys2Proof.Machine
end

