-- ==== Sys2Proof/Machine/Packed.lean ====
section
/-! DEFINITION. The packed decimal instructions (R310 to R314, R343 to R350). -/

namespace Sys2Proof.Machine

open Sys2Proof

/-! ## Operand areas -/

/-- An area of an operand: effective address and bytes. -/
structure Area where
  ea : Nat
  n  : Nat
  deriving DecidableEq, Repr

/-- The bytes of areas, one after another. -/
def State.areaBytes (s : State) (u sp : Nat) : List Area → Except Eff (State × List (List Byte))
  | [] => .ok (s, [])
  | a :: l =>
    match s.place u sp a.ea a.n .read .other with
    | .error e => .error e
    | .ok p =>
      match s.loadBytes u sp a.ea a.n p false with
      | .wait t => .error (.hold t)
      | .exc t e => .error (.exc t e)
      | .got t b =>
        match t.areaBytes u sp l with
        | .error e => .error e
        | .ok r => .ok (r.1, b :: r.2)

/-- A unit of operation over the areas that it reads. The areas that it writes are translated, all of them, before its
first store (R347; log entry 31). -/
def State.overAreas (s : State) (u sp : Nat) (src : List Area) (f : State → List (List Byte) → Eff) : Eff :=
  match s.areaBytes u sp src with
  | .error e => e
  | .ok r => f (r.1.useUp u) r.2

/-- A packed area of n digits at the address in a register (R310). -/
def Arch.packedArea (a : Arch) (r : BitVec 5) (n : Nat) : Area :=
  { ea := (a.reg r).toNat, n := packedLen n }

/-- A zoned area of n digits. -/
def Arch.zonedArea (a : Arch) (r : BitVec 5) (n : Nat) : Area :=
  { ea := (a.reg r).toNat, n := n }

/-- DCC is written and the instruction ends (R314). -/
def State.endDec (s : State) (u dcc : Nat) : Eff := .done (s.mapArch u fun a => a.setDcc dcc)

/-- The legality of an OPS format that uses rb or not (R289, R290). -/
def decLegal (f : OpsF) (rb : Bool) : Legal := { reserved := f.rsv == 0 && f.sp2 == 0 && (rb || f.rb == 0) }

/-! ## One-unit functions -/

/-- ADDP, SUBP and MULP (R313, R314). -/
def State.decArith (s : State) (u : Nat) (f : OpsF) (g : Dec → Dec → Dec) : State :=
  s.execute u (decLegal f true) fun s =>
    let a := (s.unit u).arch
    let dst := a.packedArea f.rd a.ld
    s.overAreas u f.sp.toNat [a.packedArea f.ra a.la, a.packedArea f.rb a.lb] fun s l =>
      match readPacked a.la (l.getD 0 []), readPacked a.lb (l.getD 1 []) with
      | some x, some y =>
        let r := decResult a.ld (g x y)
        s.storeRanges u [{ sp := f.sp.toNat, ea := dst.ea, data := r.1 }] fun s => s.endDec u r.2
      | _, _ => s.endDec u dccBad

def execAddp (u : Nat) (f : OpsF) (s : State) : Ans := .next (s.decArith u f decAdd)
def execSubp (u : Nat) (f : OpsF) (s : State) : Ans := .next (s.decArith u f decSub)
def execMulp (u : Nat) (f : OpsF) (s : State) : Ans := .next (s.decArith u f decMul)

/-- CMPP (R313): an invalid source leaves rd as it was (R314). -/
def execCmpp (u : Nat) (f : OpsF) (s : State) : Ans :=
  .next (s.execute u (decLegal f true) fun s =>
    let a := (s.unit u).arch
    s.overAreas u f.sp.toNat [a.packedArea f.ra a.la, a.packedArea f.rb a.lb] fun s l =>
      match readPacked a.la (l.getD 0 []), readPacked a.lb (l.getD 1 []) with
      | some x, some y => (s.mapArch u fun a => a.setReg f.rd (decCmp x y)).endDec u dccNone
      | _, _ => s.endDec u dccBad)

/-- CVTBP (R313). -/
def execCvtbp (u : Nat) (f : OpsF) (s : State) : Ans :=
  .next (s.execute u (decLegal f false) fun s =>
    let a := (s.unit u).arch
    let dst := a.packedArea f.rd a.ld
    let r := decResult a.ld (Dec.ofInt (a.reg f.ra).toInt)
    s.storeRanges u [{ sp := f.sp.toNat, ea := dst.ea, data := r.1 }] fun s => s.endDec u r.2)

/-- CVTPB (R313, R314). -/
def execCvtpb (u : Nat) (f : OpsF) (s : State) : Ans :=
  .next (s.execute u (decLegal f false) fun s =>
    let a := (s.unit u).arch
    s.overAreas u f.sp.toNat [a.packedArea f.ra a.la] fun s l =>
      match readPacked a.la (l.getD 0 []) with
      | some x =>
        let v := x.toInt
        let beyond := v < -(2 ^ 31) ∨ 2 ^ 31 ≤ v
        (s.mapArch u fun a => a.setReg f.rd (BitVec.ofInt 32 v)).endDec u (if beyond then dccOver else dccNone)
      | none => s.endDec u dccBad)

/-- CVTPZ (R313). -/
def execCvtpz (u : Nat) (f : OpsF) (s : State) : Ans :=
  .next (s.execute u (decLegal f false) fun s =>
    let a := (s.unit u).arch
    let dst := a.zonedArea f.rd a.ld
    s.overAreas u f.sp.toNat [a.packedArea f.ra a.la] fun s l =>
      match readPacked a.la (l.getD 0 []) with
      | some x =>
        s.storeRanges u [{ sp := f.sp.toNat, ea := dst.ea, data := writeZoned a.ld x }] fun s =>
          s.endDec u (if x.overflows a.ld then dccOver else dccNone)
      | none => s.endDec u dccBad)

/-- CVTZP (R313). -/
def execCvtzp (u : Nat) (f : OpsF) (s : State) : Ans :=
  .next (s.execute u (decLegal f false) fun s =>
    let a := (s.unit u).arch
    let dst := a.packedArea f.rd a.ld
    s.overAreas u f.sp.toNat [a.zonedArea f.ra a.la] fun s l =>
      match readZoned (l.getD 0 []) with
      | some x =>
        let r := decResult a.ld x
        s.storeRanges u [{ sp := f.sp.toNat, ea := dst.ea, data := r.1 }] fun s => s.endDec u r.2
      | none => s.endDec u dccBad)

/-! ## DIVP -/

/-- Digits written with a sign as it stands, zero or not (R311, R350). -/
def packSigned (n : Nat) (neg : Bool) (mag : Nat) : List Byte :=
  joinNibbles ((if n % 2 = 0 then [0] else []) ++ lowDigits n mag ++ [if neg then 13 else 12])

/-- The largest j with b × 10^j ≤ a, for b and a that are not zero. -/
def topPower (a b : Nat) : Nat := ((List.range 32).filter fun j => decide (b * 10 ^ j ≤ a)).length - 1

/-- The areas of a DIVP: dividend, divisor, quotient. -/
structure DivAreas where
  a : Area
  b : Area
  q : Area

def Arch.divAreas (x : Arch) (f : OpsF) : DivAreas :=
  { a := x.packedArea f.ra x.la, b := x.packedArea f.rb x.lb, q := x.packedArea f.rd x.ld }

/-- Areas that overlap where R314 case 1 forbids it. -/
def DivAreas.clash (d : DivAreas) : Bool :=
  rangesOverlap d.q.ea d.q.n d.a.ea d.a.n || rangesOverlap d.q.ea d.q.n d.b.ea d.b.n ||
  rangesOverlap d.b.ea d.b.n d.a.ea d.a.n

/-- The store of an area. -/
def Area.store (x : Area) (sp : Nat) (data : List Byte) : StoreRange := { sp := sp, ea := x.ea, data := data }

/-- The quotient and the dividend when the instruction finishes (R350): a zero dividend is rewritten with plus, so is
a zero quotient unless the division overflowed. -/
def divStores (sp la ld dcc : Nat) (d : DivAreas) (a : Dec) (q : Dec) (writeA : Bool) : List StoreRange :=
  let qNeg := if q.mag = 0 ∧ dcc ≠ dccOver then false else q.neg
  let aNeg := if a.mag = 0 then false else a.neg
  (if writeA ∨ a.mag = 0 then [d.a.store sp (packSigned la aNeg a.mag)] else []) ++
    [d.q.store sp (packSigned ld qNeg q.mag)]

/-- Unit 1 of DIVP (R350). -/
def State.divFirst (s : State) (u sp : Nat) (d : DivAreas) (ba bb : List Byte) : Eff :=
  let x := (s.unit u).arch
  match readPacked x.la ba, readPacked x.lb bb with
  | some a, some b =>
    if d.clash then s.endDec u dccBad
    else if b.mag = 0 then
      s.storeRanges u [d.q.store sp (decNines x.ld a)] fun s => s.endDec u dccDivZero
    else
      let dcc := if b.mag * 10 ^ x.ld ≤ a.mag then dccOver else dccNone
      let q : Dec := ⟨a.neg != b.neg, 0⟩
      if a.mag < b.mag then
        s.storeRanges u (divStores sp x.la x.ld dcc d a q false) fun s => s.endDec u dcc
      else
        s.storeRanges u [d.q.store sp (packSigned x.ld q.neg 0)] fun s => .part (s.mapArch u fun a => a.setDcc dcc)
  | _, _ => s.endDec u dccBad

/-- The magnitudes of dividend and quotient after one more quotient digit (R350). A divisor of zero, or one above the
dividend, which only a handler can have put there, has no digit: both are free values (log entry 32). -/
def divDigit (free la ld a b q : Nat) : Nat × Nat :=
  if b = 0 ∨ a < b then (free % 10 ^ la, free / 10 ^ la % 10 ^ ld)
  else
    let j := topPower a b
    let dgt := a / (b * 10 ^ j)
    (a - dgt * b * 10 ^ j, (q + dgt * 10 ^ j) % 10 ^ ld)

/-- A later unit of DIVP (R350). -/
def State.divLater (s : State) (u sp : Nat) (d : DivAreas) (ba bb bq : List Byte) : Eff :=
  let x := (s.unit u).arch
  match readPacked x.la ba, readPacked x.lb bb, readPacked x.ld bq with
  | some a, some b, some q =>
    let open_ := b.mag = 0 ∨ a.mag < b.mag
    let r := divDigit s.free x.la x.ld a.mag b.mag q.mag
    let s := if open_ then s.drawn else s
    let a' : Dec := ⟨a.neg, r.1⟩
    let q' : Dec := ⟨q.neg, r.2⟩
    if r.1 < b.mag ∨ open_ then
      s.storeRanges u (divStores sp x.la x.ld x.dcc d a' q' true) fun s => .done s
    else
      s.storeRanges u [d.a.store sp (packSigned x.la a.neg r.1), d.q.store sp (packSigned x.ld q.neg r.2)] fun s => .part s
  | _, _, _ => s.endDec u dccBad

/-- DIVP: unit 1 while PCF is 0, a later unit while it is 1 (R345, R348, R350). -/
def execDivp (u : Nat) (f : OpsF) (s : State) : Ans :=
  .next (s.execute u (decLegal f true) fun s =>
    let x := (s.unit u).arch
    let d := x.divAreas f
    let sp := f.sp.toNat
    if x.pcf then
      s.overAreas u sp [d.a, d.b, d.q] fun s l =>
        s.divLater u sp d (l.getD 0 []) (l.getD 1 []) (l.getD 2 [])
    else
      s.overAreas u sp [d.a, d.b] fun s l =>
        s.divFirst u sp d (l.getD 0 []) (l.getD 1 []))

end Sys2Proof.Machine
end

