-- ==== Sys2Proof/Machine/Blocks.lean ====
section
/-! DEFINITION. The block instructions BMOV, BFILL and CBLK by their units of operation (R343 to R352). -/

namespace Sys2Proof.Machine

open Sys2Proof

/-- The end of a unit of operation: the last retires (R344). -/
def Eff.unitOf (s : State) (last : Bool) : Eff := if last then .done s else .part s

/-- A source of n bytes read through an SP field. -/
def State.readBlock (s : State) (u sp ea n : Nat) (f : State → List Byte → Eff) : Eff :=
  match s.place u sp ea n .read .other with
  | .error e => e
  | .ok p =>
    match s.loadBytes u sp ea n p false with
    | .wait t => .hold t
    | .exc t e => .exc t e
    | .got t b => f (t.useUp u) b

/-! ## BMOV and BFILL -/

/-- One unit of BMOV (R348, R349). -/
def State.moveBlock (s : State) (u : Nat) (f : OpsF) : Eff :=
  let a := (s.unit u).arch
  let ra := (a.reg f.ra).toNat
  let rd := (a.reg f.rd).toNat
  let rb := (a.reg f.rb).toNat
  let sp := f.sp.toNat
  let sp2 := f.sp2.toNat
  if rb = 0 then .done s
  else
    let n := min rb 256
    let back := a.space sp = a.space sp2 ∧ ra < rd ∧ rd < ra + rb
    let from_ := if back then ra + rb - n else ra
    let dest := if back then rd + rb - n else rd
    let regs : List (BitVec 5 × Word) :=
      (if back then [] else [(f.ra, BitVec.ofNat 32 (ra + n)), (f.rd, BitVec.ofNat 32 (rd + n))]) ++
        [(f.rb, BitVec.ofNat 32 (rb - n))]
    s.readBlock u sp2 from_ n fun s b =>
      s.storeRanges u [{ sp := sp, ea := dest, data := b }] fun s => Eff.unitOf (s.setRegs u regs) (n = rb)

def execBmov (u : Nat) (f : OpsF) (s : State) : Ans :=
  .next (s.execute u { reserved := f.rsv == 0 } fun s => s.moveBlock u f)

/-- One unit of BFILL (R348, R349). -/
def State.fillBlock (s : State) (u : Nat) (f : OpsF) : Eff :=
  let a := (s.unit u).arch
  let rd := (a.reg f.rd).toNat
  let rb := (a.reg f.rb).toNat
  if rb = 0 then .done s
  else
    let n := min rb 256
    let data := List.replicate n (BitVec.ofNat 8 (a.reg f.ra).toNat)
    s.storeRanges u [{ sp := f.sp.toNat, ea := rd, data := data }] fun s =>
      Eff.unitOf (s.setRegs u [(f.rd, BitVec.ofNat 32 (rd + n)), (f.rb, BitVec.ofNat 32 (rb - n))]) (n = rb)

def execBfill (u : Nat) (f : OpsF) (s : State) : Ans :=
  .next (s.execute u { reserved := f.rsv == 0 && f.sp2 == 0 } fun s => s.fillBlock u f)

/-! ## The compressed block of CBLK -/

/-- The bits of a Huffman code, most significant first (RFC 1951). -/
def codeBits (n v : Nat) : List Bool := (bitsOfNat n v).reverse

/-- The fixed code of a literal or length symbol. -/
def fixedSym (v : Nat) : List Bool :=
  if v < 144 then codeBits 8 (0x30 + v)
  else if v < 256 then codeBits 9 (0x190 + (v - 144))
  else if v < 280 then codeBits 7 (v - 256)
  else codeBits 8 (0xC0 + (v - 280))

/-- The index of the entry of a table of bases and extra bits that holds a value: the last whose base does not exceed
it. -/
def tableIndex (t : List (Nat × Nat)) (v : Nat) : Nat := (t.filter fun e => decide (e.1 ≤ v)).length - 1

/-- The bits of a match in the fixed code. -/
def matchBits (len dist : Nat) : List Bool :=
  let i := tableIndex lengthTable len
  let e := lengthTable.getD i (0, 0)
  let j := tableIndex distTable dist
  let d := distTable.getD j (0, 0)
  fixedSym (257 + i) ++ bitsOfNat e.2 (len - e.1) ++ codeBits 5 j ++ bitsOfNat d.2 (dist - d.1)

/-- The hash of three bytes (R352). -/
def cblkHash (a b c : Byte) : Nat := (a.toNat * 64 ^^^ b.toNat * 8 ^^^ c.toNat) % 1024

/-- The length of the longest run of equal bytes of two strings, at most a limit. -/
def equalRun : Nat → List Byte → List Byte → Nat
  | n + 1, x :: l, y :: m => if x = y then 1 + equalRun n l m else 0
  | _, _, _ => 0

/-- The matches and literals of a unit from position i (R352): the position table as a sparse map; fuel bounds the
positions. -/
def cblkSyms (b : List Byte) : Nat → List (Nat × Nat) → Nat → List Bool
  | 0, _, _ => []
  | fuel + 1, table, i =>
    match b.drop i with
    | [] => []
    | x :: y :: z :: rest =>
      let h := cblkHash x y z
      let here := x :: y :: z :: rest
      let put := sput table h i
      match table.lookup h with
      | some k =>
        let n := equalRun (min 258 (b.length - i)) (b.drop k) here
        if 3 ≤ n then matchBits n (i - k) ++ cblkSyms b fuel put (i + n)
        else fixedSym x.toNat ++ cblkSyms b fuel put (i + 1)
      | none => fixedSym x.toNat ++ cblkSyms b fuel put (i + 1)
    | x :: _ => fixedSym x.toNat ++ cblkSyms b fuel table (i + 1)

/-- A fixed-Huffman block of a unit with what follows it (R351). -/
def cblkFixed (b : List Byte) (final : Bool) : List Byte :=
  let bits := [final, true, false] ++ cblkSyms b b.length [] 0 ++ fixedSym 256
  if final then packBits bits else packBits (bits ++ storedBlock bits.length false [])

/-- The output of a unit of CBLK: the stored form where it is shorter (R351). -/
def cblkUnit (b : List Byte) (final : Bool) : List Byte :=
  let fixed := cblkFixed b final
  if 5 + b.length < fixed.length then packBits (storedBlock 0 final b) else fixed

/-- One unit of CBLK (R348, R351). -/
def State.compressUnit (s : State) (u : Nat) (f : OpsF) : Eff :=
  let a := (s.unit u).arch
  let ra := (a.reg f.ra).toNat
  let rd := (a.reg f.rd).toNat
  let rb := (a.reg f.rb).toNat
  let n := min rb 512
  let sp := f.sp.toNat
  let finish (s : State) (b : List Byte) : Eff :=
    let out := cblkUnit b (n = rb)
    s.storeRanges u [{ sp := sp, ea := rd, data := out }] fun s =>
      Eff.unitOf (s.setRegs u [(f.ra, BitVec.ofNat 32 (ra + n)), (f.rd, BitVec.ofNat 32 (rd + out.length)),
        (f.rb, BitVec.ofNat 32 (rb - n))]) (n = rb)
  if n = 0 then finish s [] else s.readBlock u f.sp2.toNat ra n finish

def execCblk (u : Nat) (f : OpsF) (s : State) : Ans :=
  .next (s.execute u { reserved := f.rsv == 0 } fun s => s.compressUnit u f)

end Sys2Proof.Machine
end

