-- ==== Sys2Proof/Machine/Boot.lean ====
section
/-! DEFINITION. The boot (chapter 20): the check of the images (R544 to R547), the stages in their order (R548 to
R550), the measurement slots (R551), the boot record and the ledger (R552 to R557). -/

namespace Sys2Proof.Machine

open Sys2Proof

/-! ## Images (R338, R544 to R547) -/

/-- Kinds of image. -/
def imgFirmware : Nat := 0
def imgMicrocode : Nat := 1
def imgTables : Nat := 2
def imgConfig : Nat := 3

/-- Errors of a boot (SWD_BOOTSTAT.ERR). -/
def bootBadSig : Nat := 1
def bootRollback : Nat := 2
def bootBadFormat : Nat := 3
def bootOwner : Nat := 4
def bootCrk : Nat := 5
def bootLedger : Nat := 6
def bootTwinKey : Nat := 7

/-- MAGIC of a kind. -/
def imgMagic (kind : Nat) : Nat :=
  match kind with
  | 0 => 0x57465301 | 1 => 0x55434D01 | 2 => 0x42544801 | _ => 0x47464301

/-- Bytes of the body that a header names. -/
def imgBodyLen (kind : Nat) (b : List Byte) : Nat := if kind = imgMicrocode then 16 * leAt b 12 4 else leAt b 12 4

/-- The body of an image. -/
def imgBody (kind : Nat) (b : List Byte) : List Byte := slice b 64 (imgBodyLen kind b)

/-- IMGVER, its security version in bits 31 to 24. -/
def imgVersion (b : List Byte) : Nat := leAt b 20 4

/-- The fields of the microcode image (R338). -/
def ucodeFormat (b : List Byte) : Bool :=
  leAt b 10 1 == 1 && zeroAt b 11 1 && decide (1 ≤ leAt b 12 4 ∧ leAt b 12 4 ≤ 8192) && zeroAt b 24 40 &&
  (ucodeEntries b).all fun e => zeroAt e 14 2

/-- The body of a configuration (R547). -/
def configFormat (c : List Byte) : Bool :=
  let crk := leAt c 100 2
  let n := leAt c 98 2
  decide (n ≤ 1024) && (crk == 0 || crk == 56 || crk == 72) && zeroAt c 106 22 && c.length == 1152 + crk + 8 * n

/-- The fields of the envelope of the other kinds (R545). -/
def envelopeFormat (kind : Nat) (b : List Byte) : Bool :=
  zeroAt b 10 2 && zeroAt b 16 4 && zeroAt b 36 28 &&
  (kind == imgFirmware || zeroAt b 24 12) && (kind != imgFirmware || decide (leAt b 12 4 ≤ 1835008)) &&
  (kind != imgConfig || configFormat (imgBody kind b))

/-- MAGIC, VERSION, PART, lengths and reserved bytes are as stated. -/
def imgFormat (kind : Nat) (b : List Byte) : Bool :=
  b.length == 160 + imgBodyLen kind b && leAt b 0 4 == imgMagic kind && leAt b 4 2 == 1 && zeroAt b 6 2 &&
  leAt b 8 2 == 0x9612 && decide (imgVersion b / 2 ^ 24 ≤ 64) &&
  (if kind = imgMicrocode then ucodeFormat b else envelopeFormat kind b)

/-- The digest that the signature of an image covers: its measurement (R546). -/
def imgDigest (b : List Byte) : List Byte := sha384 (b.take (b.length - 96))

/-- OWNERHASH, zero in BLANK (R541, R551). -/
def State.ownerHash (s : State) : List Byte := if s.fuses.lifecycle = 0 then zeros 48 else fitTo 48 s.fuses.ownerHash

/-- The signature of an image, and the owner of a configuration (R546). -/
def State.imgSigned (s : State) (kind : Nat) (b : List Byte) : Nat :=
  let sig := b.drop (b.length - 96)
  let by_ (key : List Byte) : Bool := ecVerify (imgDigest b) key sig
  if kind = imgConfig then
    let key := slice b 64 96
    if !by_ key then bootBadSig
    else if s.fuses.lifecycle ≠ 0 ∧ sha384 key ≠ s.ownerHash then bootOwner
    else 0
  else if by_ (romKey (Config.firmwareKey false)) || by_ (romKey (Config.firmwareKey true)) then 0
  else bootBadSig

/-- MINVER of a kind (R541). -/
def State.minVer (s : State) (kind : Nat) : Nat := (s.fuses.minVer.lookup kind).getD 0

/-- The check of an image (R546): 0, or the error. -/
def State.checkImage (s : State) (kind : Nat) (b : List Byte) : Nat :=
  if !imgFormat kind b then bootBadFormat
  else if imgVersion b / 2 ^ 24 < s.minVer kind then bootRollback
  else s.imgSigned kind b

/-- Copy B of a kind is used (R544). -/
def State.fallBack (s : State) (kind : Nat) : State :=
  (s.setBit Reg.SWD_ERR 2 true).setBit Reg.SWD_BOOTSTAT kind true

/-- The image of a kind: copy A, else copy B (R544). -/
def State.pickImage (s : State) (kind : Nat) (images : List (Nat × List Byte)) : State × Except Nat (List Byte) :=
  let judge (b : List Byte) : Except Nat (List Byte) :=
    let e := s.checkImage kind b
    if e = 0 then .ok b else .error e
  let a := ((images.lookup (2 * kind)).map judge).getD (.error bootBadFormat)
  match a, images.lookup (2 * kind + 1) with
  | .ok b, _ => (s, .ok b)
  | .error e, none => (s, .error e)
  | .error _, some b => (s.fallBack kind, judge b)

/-- An accepted image is measured (R546, R551). -/
def State.accepted (s : State) (kind : Nat) (b : List Byte) : State :=
  (s.extendMeas (kind + 1) (imgDigest b)).mapBoot fun x => { x with imgVer := sput x.imgVer kind (imgVersion b) }

/-! ## Boot records and the ledger (R552 to R557) -/

/-- BODYHASH and RHASH of a record (R553). -/
def bodyHash (r : List Byte) : List Byte := sha384 (r.take 16 ++ r.drop 64)
def recordHash (r : List Byte) : List Byte := sha384 (slice r 16 48 ++ bodyHash r)

/-- Slot 0 gets the attestation key (R483, R548). -/
def State.deriveAttest (s : State) : State :=
  s.fillSlot 0 (freshSlot 6 16 false 0 0 (beBytes 48 (attestScalar (kdf seedBytes (ascii "attest") [] 448))))

/-- The attestation key. -/
def State.attestKey (s : State) : Nat := ((s.keySlot 0).map fun k => beNat k.key).getD 0

/-- The debug port is open or authorised (R552, R560). -/
def State.debugOpen (s : State) : Bool := s.portAccess == 0 || s.portAccess == 2

/-- MEAS0 to MEAS7. -/
def State.measBytes (s : State) : List Byte := (List.range 8).flatMap s.meas

/-- FLAGS of a boot record. -/
def State.recordFlags (s : State) (failed : Bool) : Nat :=
  failed.toNat + 2 * (decide (s.mram.tampers ≠ s.mram.tampSeen)).toNat + 4 * s.debugOpen.toNat + 8 * s.boot.ledgerBad.toNat +
  16 * (s.bit Reg.SWD_ERR 2).toNat

/-- The epoch that admission will open with (R53, R552). -/
def State.firstEpoch (s : State) (failed : Bool) : Nat :=
  if !failed ∧ (s.fuses.lifecycle = 1 ∨ s.fuses.lifecycle = 2) then s.storedResv.getD 0 else 0

/-- Bytes 0 to 863 of a boot record (R552). -/
def State.recordBody (s : State) (failed : Bool) : List Byte :=
  let id := s.reg Reg.SWD_DEVID
  leBytes 4 0x42524301 ++ leBytes 2 1 ++ leBytes 2 (s.recordFlags failed) ++ leBytes 8 s.boot.seq ++ s.mram.headHash ++ s.uid ++
  leBytes 2 0x9612 ++ leBytes 1 (bits id 7 0) ++ leBytes 1 s.fuses.lifecycle ++ leBytes 4 s.fuses.lcCount ++ leBytes 2 s.devId ++
  leBytes 2 (if s.paired then s.partnerId else 0x8000) ++ leBytes 4 (s.reg Reg.SWD_BOOTSTAT).toNat ++ leBytes 8 s.timeBase ++
  leBytes 8 (s.firstEpoch failed) ++ s.measBytes ++ (List.range 4).flatMap (fun k => leBytes 4 ((s.boot.imgVer.lookup k).getD 0)) ++
  s.ownerHash ++ zeros 304

/-- The SEQ of this boot (R552, R557). -/
def State.numberBoot (s : State) : State :=
  let n := s.mram.headSeq + 1
  (s.mapBoot fun b => { b with seq := n }).setReg64 Reg.SWD_SEQ_LO n

/-- The boot record is built, signed and written (R552, R555); the genesis record and the 8,192 newest stay. -/
def State.writeRecord (s : State) (failed : Bool) : State :=
  let s := if (s.keySlot 0).isNone then s.deriveAttest else s
  let s := if s.boot.seq = 0 then s.numberBoot else s
  let n := s.boot.seq
  let body := s.recordBody failed
  let s := (s.chargeSlot 0).1
  let r := body ++ ecSign s.attestKey (sha384 body)
  let h := recordHash r
  let s := s.mapMram fun m =>
    { m with ledger := (sput m.ledger n r).filter fun x => x.1 = 1 ∨ n < x.1 + 8192, headSeq := n, headHash := h, tampSeen := m.tampers }
  s.mapBoot fun b => { b with rhash := h }

/-- STAGE of SWD_BOOTSTAT. -/
def State.atStage (s : State) (n : Nat) : State := s.setFld Reg.SWD_BOOTSTAT 31 28 n

/-- A stage fails (R550): a record where MRAM takes one, and device safe state. -/
def State.bootFail (s : State) (stage err : Nat) (mramOk : Bool) : State :=
  let s := ((s.atStage stage).setFld Reg.SWD_BOOTSTAT 27 24 err).setBit Reg.SWD_ERR 1 true
  let s := if mramOk then s.writeRecord true else s
  (s.mapBoot fun b => { b with stage := none }).event Src.boot 6 (detail 1 noPlot 0)

/-- The next stage. -/
def State.thenStage (s : State) (n : Nat) : State := s.mapBoot fun b => { b with stage := some n }

/-! ## Stages 1 to 3: the ROM (R548, R551, R557) -/

/-- MEAS0 and MEAS6 at step 1 (R551). -/
def State.measureDevice (s : State) : State :=
  let s := s.mapBoot fun b => { b with meas := [] }
  let s := s.extendMeas 0 (sha384 (leBytes 4 Config.romVersion.toNat ++ leBytes 1 s.fuses.lifecycle ++ leBytes 4 s.fuses.lcCount ++
    s.uid ++ s.ownerHash))
  if s.portAccess = 0 then s.extendMeas 6 (sha384 (ascii "OPEN")) else s

def State.bootRom (s : State) (i : StageInput) : State :=
  let s := (s.atStage 0).measureDevice
  if i.badCmp.any fun c => c.1 = 96 then s.bootFail 0 0 i.mramOk else s.thenStage 2

/-- The header of the ledger agrees with its newest record (R557). -/
def Mram.ledgerAgrees (m : Mram) : Bool :=
  let n := m.ledger.foldl (fun n r => max n r.1) 0
  n == m.headSeq && (match m.ledger.lookup n with
    | some r => recordHash r == m.headHash
    | none => m.headHash == zeros 48)

def State.bootKeys (s : State) : State :=
  let s := s.deriveAttest.numberBoot
  let s := if s.mram.ledgerAgrees then s
    else (s.setBit Reg.SWD_ERR 3 true).mapBoot fun b => { b with ledgerBad := true }
  s.thenStage 3

/-- Steward firmware runs on the Steward pair, at D and physical (R286), with its interrupts enabled (log entry 148). -/
def State.stewardRuns (s : State) : State :=
  s.mapUnit 192 fun x => { x with run := true, arch := ((x.arch.setPsw 1 0 2).setPsw 6 6 1).setPsw 2 2 1 }

def State.bootFirmware (s : State) (i : StageInput) : State :=
  let s := s.atStage 1
  match s.pickImage imgFirmware i.images with
  | (s, .ok b) => ((s.accepted imgFirmware b).stewardRuns).thenStage 4
  | (s, .error e) => s.bootFail 1 e i.mramOk

/-! ## Stages 4 and 5 (R339, R375, R376, R382, R466) -/

/-- The role of a pair that passed its test (R26, R375, R376). -/
def State.passedRole (s : State) (p : Nat) : State :=
  if (s.mram.retired.lookup p).isSome then
    (s.setRole p roleSpare).mapMram fun m => { m with retired := sdel m.retired p }
  else s.setRole p (if p % 8 = 7 then roleSpare else roleActive)

/-- The power-on comparator test of a pair (R382). -/
def State.testPair (s : State) (bad : List (Nat × Nat)) (p : Nat) : State :=
  let s := s.setBit (pairReg Reg.CLS_PAIRSTAT p) 22 true
  match bad.lookup p with
  | some g =>
    let s := (s.setBit (pairReg Reg.CLS_PAIRSTAT p) 23 true).setFld (pairReg Reg.CLS_PAIRSTAT p) 29 24 (g % 64)
    (s.setRetired p 1).event p 3 (detail noKind noPlot 0)
  | none => s.passedRole p

def State.bootPairs (s : State) (i : StageInput) : State := (allPairs.foldl (fun s p => s.testPair i.badCmp p) s).thenStage 5

/-- A pair gets its control store; one that fails twice is never used (R339). -/
def State.loadAtBoot (s : State) (img : List Byte) (bad : List Nat) (p : Nat) : State :=
  if s.role p = roleRetired then s
  else
    let s := if bad.contains p then s else s.loadPair p img
    if s.ucLocked p then s else (s.setRetired p causeUcode).event p 3 (detail noKind noPlot 0)

/-- The Thresher tables are accepted: READY, then EN (R466). -/
def State.enableThresher (s : State) : State := (s.setBit Reg.THR_STATUS 0 true).setBit Reg.THR_CTRL 0 true

def State.bootTables (s : State) (i : StageInput) : State :=
  let s := s.atStage 3
  match s.pickImage imgTables i.images with
  | (s, .ok b) => ((s.accepted imgTables b).enableThresher).thenStage 6
  | (s, .error e) => s.bootFail 3 e i.mramOk

def State.bootMicrocode (s : State) (i : StageInput) : State :=
  let s := s.atStage 2
  match s.pickImage imgMicrocode i.images with
  | (s, .ok b) =>
    let s := (s.accepted imgMicrocode b).mapBoot fun x => { x with ucode := b }
    (allPairs.foldl (fun s p => s.loadAtBoot b i.badLoads p) s).bootTables i
  | (s, .error e) => s.bootFail 2 e i.mramOk

/-! ## Stage 6: the configuration and the root keys (R480, R547, R549, R554) -/

/-- The WRITES of a configuration. -/
def configWrites (c : List Byte) : List (Nat × Word) :=
  let at_ := 1152 + leAt c 100 2
  (List.range (leAt c 98 2)).map fun k => (leAt c (at_ + 8 * k) 4, BitVec.ofNat 32 (leAt c (at_ + 8 * k + 4) 4))

/-- A write that the Steward refuses (R547); one that is not aligned counts among them. -/
def badWrite (off : Nat) : Bool := off % 4 != 0 || decide (0x1000000 ≤ off) || decide (0x8C0000 ≤ off ∧ off < 0x900000)

/-- The writes up to the first refused one; the answer says whether there was none. -/
def State.applyWrites (s : State) : List (Nat × Word) → State × Bool
  | [] => (s, true)
  | w :: l => if badWrite w.1 then (s, false) else (s.ctlWrite .firmware w.1 w.2).applyWrites l

/-- The customer root key goes into slot 1 (R554): false where its blob does not unwrap. -/
def State.restoreCrk (s : State) : State × Bool :=
  let c := s.boot.config
  let n := leAt c 100 2
  if n = 0 then (s, true)
  else
    match (keyUnwrap (kdf seedBytes (ascii "crk-store") [] 256) (slice c 1152 n)).bind slotOfPlain with
    | some k => if k.kind = 7 ∧ k.usage.testBit 3 then (s.fillSlot 1 k, true) else (s, false)
    | none => (s, false)

/-- The twin settings of MRAM, and the twin root key in slot 8 where the device is paired (R157, R480): false where
its blob does not unwrap. -/
def State.restoreTwin (s : State) : State × Bool :=
  let s := (if s.mram.twinCfg = 0 then s else s.setReg Reg.TWN_CFG s.mram.twinCfg).setReg Reg.TWN_PAIRGEN s.mram.twinGen
  if !s.paired then (s, true)
  else match (keyUnwrap s.twinStore s.mram.twinBlob).bind slotOfPlain with
    | some k => (s.fillSlot 8 k, true)
    | none => (s, false)

/-- The keys of step 6; only PROVISIONED and FIELD restore them (R549). -/
def State.bootSecrets (s : State) (i : StageInput) : State :=
  let owned := s.fuses.lifecycle = 1 ∨ s.fuses.lifecycle = 2
  let c := if owned then (s.atStage 5).restoreCrk else (s, true)
  if !c.2 then c.1.bootFail 5 bootCrk i.mramOk
  else
    let t := if owned then c.1.restoreTwin else c
    if !t.2 then t.1.bootFail 5 bootTwinKey i.mramOk
    else
      let s := if t.1.paired then t.1 else t.1.setNoPartner
      s.thenStage 7

/-- The configuration applied: DEVID, then WRITES, then the lock of WFT_DEVID (R526, R547). -/
def State.applyConfig (s : State) (c : List Byte) (i : StageInput) : State :=
  let s := s.mapBoot fun b => { b with config := c }
  let w := (s.ctlWrite .firmware Reg.WFT_DEVID (BitVec.ofNat 32 (leAt c 96 2))).applyWrites (configWrites c)
  if !w.2 then w.1.bootFail 4 bootBadFormat i.mramOk
  else (w.1.ctlWrite .firmware Reg.WFT_CTRL (w.1.reg Reg.WFT_CTRL ||| 0x80000000#32)).bootSecrets i

def State.bootConfig (s : State) (i : StageInput) : State :=
  let s := s.atStage 4
  match s.pickImage imgConfig i.images with
  | (s, .ok b) => (s.accepted imgConfig b).applyConfig (imgBody imgConfig b) i
  | (s, .error e) => if s.fuses.lifecycle = 0 then s.bootSecrets i else s.bootFail 4 e i.mramOk

/-! ## Stage 7: memory and the blocks (R120, R144, R249, R548, R549) -/

/-- A channel after its training (R636). -/
def State.trainChannel (s : State) (n : Nat) (w : Word) : State :=
  if 16 ≤ n then s
  else
    let s := s.setReg (Reg.MEM_CHSTAT + 4 * n) (w &&& 0xE3FFFFFF#32)
    if !w.getLsbD 31 ∧ bits w 30 29 ≠ 0 then s.setBit Reg.MEM_ERR 1 true else s

/-- DRAM and the twin-and-channel-state area of MRAM are zeroed (R549). -/
def State.zeroDevice (s : State) : State :=
  let s := s.mapMem fun m =>
    { m with cells := m.cells.filter (fun c => remoteBase ≤ c.1), poison := m.poison.filter fun g => remoteBase ≤ 8 * g }
  let s := s.mapMram fun m =>
    { m with resvA := none, resvB := none, resvUsed := false, twinCfg := 0, twinGen := 0, twinBlob := [], retired := [] }
  (s.mapCipher fun c => { c with blobs := [] }).mapFurrow fun f => { f with partOps := [] }

/-- The stake table, the journal and the plot tables are made ready by the writes that R120, R144 and R249 call for;
the stake seed is random (a free value). -/
def State.startBlocks (s : State) : State :=
  let seed := s.free
  let s := s.drawn.ctlWrite .firmware Reg.STK_HASHSEED (BitVec.ofNat 32 seed)
  let s := if s.stakesReady then s else s.ctlWrite .firmware Reg.STK_CTRL 0x80000001#32
  let keep := (s.fuses.lifecycle == 1 || s.fuses.lifecycle == 2) && s.fld Reg.SWD_BOOTSTAT 15 8 != causePowerOn
  let jnl := setBits (s.reg Reg.JNL_CTRL) 2 2 keep.toNat ||| 0x80000001#32
  let s := if s.bit Reg.JNL_STATUS 0 ∨ s.journal.initBusy then s else s.ctlWrite .firmware Reg.JNL_CTRL jnl
  if s.pltReady ∨ s.plots.initBusy then s else s.ctlWrite .firmware Reg.PLT_CTRL 0x80000001#32

/-- The channels are trained; a controller without a DIMM is gated (R615), DRAM leaves self-refresh (R619), and the blocks
are made ready. -/
def State.bootMemory (s : State) (i : StageInput) : State :=
  let s := i.channels.foldl (fun s c => s.trainChannel c.1 c.2) (s.atStage 6)
  let s := (List.range 8).foldl (fun s m =>
    s.setBit Reg.PCK_DOMOFF_LO (14 + m) (s.fld (Reg.MEM_CHSTAT + 8 * m) 30 29 == 0 && s.fld (Reg.MEM_CHSTAT + 8 * m + 4) 30 29 == 0)) s
  let s := s.mapPower fun p => { p with refresh := false }
  let s := if 3 ≤ s.fuses.lifecycle then s.zeroDevice else s
  s.startBlocks.thenStage (if s.fuses.lifecycle = 1 ∨ s.fuses.lifecycle = 2 then 8 else 9)

/-! ## Stage 8: the twin decision and the plots (R53, R178, R514, R551) -/

/-- MEAS5 and MEAS7 after the plots are there (R551). -/
def State.measurePlots (s : State) : State :=
  let l := (s.plots.plots.filter fun p => !p.2.exec.isEmpty).mergeSort fun a b => a.1 ≤ b.1
  let s := l.foldl (fun s p => s.extendMeas 5 p.2.execMeas) s
  s.extendMeas 7 (sha384 (leBytes 2 s.devId ++ leBytes 2 s.partnerId ++ leBytes 4 (s.reg Reg.TWN_PAIRGEN).toNat ++ leBytes 1 s.own))

/-- An unpaired device restores its live region from storage, and then holds its plots. -/
def State.restoreAlone (s : State) : State :=
  let s := if s.boot.restoring then s else s.startRestore.mapBoot fun b => { b with restoring := true }
  if s.furrow.restore.isSome then s
  else (s.setOwn ownHolding).mapBoot fun b => { b with restoring := false }

def State.bootPlots (s : State) (i : StageInput) : State :=
  let s := s.atStage 7
  if s.storedResv.isNone then s.bootFail 7 bootBadFormat i.mramOk
  else if !s.bit Reg.JNL_STATUS 0 ∨ !s.pltReady then s
  else
    let s := s.installHeadland
    let s := if s.paired then s else s.restoreAlone
    if s.own = ownStarting then s
    else ((s.mapJournal fun j => { j with gapBoot := true }).measurePlots).thenStage 9

/-! ## Stage 9: the boot record (R34, R541, R552) -/

/-- Fused MINVER is raised to the configuration's (R541, R548). -/
def State.raiseMinVer (s : State) : State :=
  if s.boot.config.isEmpty then s
  else s.mapFuses fun f =>
    { f with minVer := (List.range 4).map fun k => (k, max ((f.minVer.lookup k).getD 0) (min 64 (leAt s.boot.config (102 + k) 1))) }

def State.bootRecord (s : State) (i : StageInput) : State :=
  let s := (if s.pltReady then s.installHeadland else s).atStage 8
  if !i.mramOk then s.bootFail 8 bootLedger false
  else (s.writeRecord false).raiseMinVer.mapBoot fun b => { b with running := true, stage := none }

/-! ## The command -/

/-- A stage of the boot (R548). -/
def State.bootStage (s : State) (n : Nat) (i : StageInput) : State :=
  match n with
  | 1 => s.bootRom i
  | 2 => s.bootKeys
  | 3 => s.bootFirmware i
  | 4 => s.bootPairs i
  | 5 => s.bootMicrocode i
  | 6 => s.bootConfig i
  | 7 => s.bootMemory i
  | 8 => s.bootPlots i
  | 9 => s.bootRecord i
  | _ => s

/-- The record store of the Gleaner is initialised before the Steward runs (R585). -/
def State.gleanReady (s : State) : State := s.mapGleaner fun g => { g with ready := true }

def execBootStage (i : StageInput) (s : State) : Ans :=
  .next (if s.held ∨ s.safe ∨ s.evral.stewHalt then s
    else match s.boot.stage with
      | some n => s.gleanReady.bootStage n i
      | none => s)

end Sys2Proof.Machine
end

