-- ==== Sys2Proof/Machine/Float.lean ====
section
/-! DEFINITION. The FP group: arithmetic, comparisons, conversions and moves (R291, R315 to R328). -/

namespace Sys2Proof.Machine

open Sys2Proof

/-- An operand of a format: bits [31:0] for binary32 (R275). -/
def Arch.fp (a : Arch) (dbl : Bool) (r : BitVec 5) : Nat :=
  if dbl then (a.freg r).toNat else (a.freg r).toNat % 2 ^ 32

/-- A result of a format with its flags (R275, R316). -/
def Arch.putFp (a : Arch) (dbl : Bool) (r : BitVec 5) (x : FpRes) : Arch :=
  (if dbl then a.setF r (BitVec.ofNat 64 x.bits) else a.setF32 r x.bits).raise x.flags

/-- A result in an integer register with its flags. -/
def Arch.putInt (a : Arch) (r : BitVec 5) (v : Int) (flags : Nat) : Arch :=
  (a.setReg r (BitVec.ofInt 32 v)).raise flags

/-- A function of two operands: FC is reserved (R291). -/
def State.fp2 (s : State) (u : Nat) (dbl : Bool) (f : RegF) (g : FpFmt → Round → Nat → Nat → FpRes) : State :=
  s.pure u { reserved := f.fc == 0 } fun a =>
    a.putFp dbl f.rd (g (fmtOf dbl) a.rounding (a.fp dbl f.ra) (a.fp dbl f.rb))

/-- A function of one operand: fb and FC are reserved. -/
def State.fp1 (s : State) (u : Nat) (dbl : Bool) (f : RegF) (g : FpFmt → Round → Nat → FpRes) : State :=
  s.pure u { reserved := f.fc == 0 && f.rb == 0 } fun a =>
    a.putFp dbl f.rd (g (fmtOf dbl) a.rounding (a.fp dbl f.ra))

/-- A comparison: the integer register named by fd gets 1 or 0 (R324). -/
def State.fpTest (s : State) (u : Nat) (dbl : Bool) (f : RegF) (g : FpFmt → Nat → Nat → FpRes) : State :=
  s.pure u { reserved := f.fc == 0 } fun a =>
    let r := g (fmtOf dbl) (a.fp dbl f.ra) (a.fp dbl f.rb)
    a.putInt f.rd r.bits r.flags

/-- A conversion to an integer in [lo, hi] (R328). -/
def State.fpInt (s : State) (u : Nat) (dbl : Bool) (f : RegF) (lo hi : Int) : State :=
  s.pure u { reserved := f.fc == 0 && f.rb == 0 } fun a =>
    let r := fpToInt (fmtOf dbl) a.rounding lo hi (a.fp dbl f.ra)
    a.putInt f.rd r.1 r.2

def execFadd (u : Nat) (dbl : Bool) (f : RegF) (s : State) : Ans := .next (s.fp2 u dbl f fpAdd)
def execFsub (u : Nat) (dbl : Bool) (f : RegF) (s : State) : Ans := .next (s.fp2 u dbl f fpSub)
def execFmul (u : Nat) (dbl : Bool) (f : RegF) (s : State) : Ans := .next (s.fp2 u dbl f fpMul)
def execFdiv (u : Nat) (dbl : Bool) (f : RegF) (s : State) : Ans := .next (s.fp2 u dbl f fpDiv)
def execFsqrt (u : Nat) (dbl : Bool) (f : RegF) (s : State) : Ans := .next (s.fp1 u dbl f fpSqrt)

/-- FMA: fd := fa × fb + fc, rounded once (R291, R318). -/
def execFma (u : Nat) (dbl : Bool) (f : RegF) (s : State) : Ans :=
  .next (s.pure u {} fun a =>
    a.putFp dbl f.rd (fpFma (fmtOf dbl) a.rounding (a.fp dbl f.ra) (a.fp dbl f.rb) (a.fp dbl f.fc)))

def execFmin (u : Nat) (dbl : Bool) (f : RegF) (s : State) : Ans :=
  .next (s.fp2 u dbl f fun m _ a b => fpMinMax false m a b)
def execFmax (u : Nat) (dbl : Bool) (f : RegF) (s : State) : Ans :=
  .next (s.fp2 u dbl f fun m _ a b => fpMinMax true m a b)
def execFneg (u : Nat) (dbl : Bool) (f : RegF) (s : State) : Ans :=
  .next (s.fp1 u dbl f fun m _ a => ⟨fpNeg m a, 0⟩)
def execFabs (u : Nat) (dbl : Bool) (f : RegF) (s : State) : Ans :=
  .next (s.fp1 u dbl f fun m _ a => ⟨fpAbs m a, 0⟩)
def execFeq (u : Nat) (dbl : Bool) (f : RegF) (s : State) : Ans := .next (s.fpTest u dbl f fpEq)
def execFlt (u : Nat) (dbl : Bool) (f : RegF) (s : State) : Ans := .next (s.fpTest u dbl f fpLt)
def execFle (u : Nat) (dbl : Bool) (f : RegF) (s : State) : Ans := .next (s.fpTest u dbl f fpLe)

/-- FCLASS writes a mask of one bit and sets no flag (R326). -/
def execFclass (u : Nat) (dbl : Bool) (f : RegF) (s : State) : Ans :=
  .next (s.pure u { reserved := f.fc == 0 && f.rb == 0 } fun a =>
    a.putInt f.rd (fpClass (fmtOf dbl) (a.fp dbl f.ra)) 0)

/-- FCVT.S.D rounds to binary32 (R327). -/
def execFcvtSD (u : Nat) (f : RegF) (s : State) : Ans :=
  .next (s.pure u { reserved := f.fc == 0 && f.rb == 0 } fun a =>
    a.putFp false f.rd (fpConvert fmt64 fmt32 a.rounding (a.fp true f.ra)))

/-- FCVT.D.S is exact (R327). -/
def execFcvtDS (u : Nat) (f : RegF) (s : State) : Ans :=
  .next (s.pure u { reserved := f.fc == 0 && f.rb == 0 } fun a =>
    a.putFp true f.rd (fpConvert fmt32 fmt64 a.rounding (a.fp false f.ra)))

def execFcvtW (u : Nat) (dbl : Bool) (f : RegF) (s : State) : Ans :=
  .next (s.fpInt u dbl f (-(2 ^ 31)) (2 ^ 31 - 1))
def execFcvtWU (u : Nat) (dbl : Bool) (f : RegF) (s : State) : Ans :=
  .next (s.fpInt u dbl f 0 (2 ^ 32 - 1))

/-- FCVT.F.W: from a signed integer register (R291, R327). -/
def execFcvtFW (u : Nat) (dbl : Bool) (f : RegF) (s : State) : Ans :=
  .next (s.pure u { reserved := f.fc == 0 && f.rb == 0 } fun a =>
    a.putFp dbl f.rd (fpOfInt (fmtOf dbl) a.rounding (a.reg f.ra).toInt))

/-- FCVT.F.WU: from an unsigned integer register. -/
def execFcvtFWU (u : Nat) (dbl : Bool) (f : RegF) (s : State) : Ans :=
  .next (s.pure u { reserved := f.fc == 0 && f.rb == 0 } fun a =>
    a.putFp dbl f.rd (fpOfInt (fmtOf dbl) a.rounding (a.reg f.ra).toNat))

/-- FMVFI: rd := Fa[31:0]. -/
def execFmvfi (u : Nat) (f : RegF) (s : State) : Ans :=
  .next (s.pure u { reserved := f.fc == 0 && f.rb == 0 } fun a =>
    a.setReg f.rd ((a.freg f.ra).extractLsb' 0 32))

/-- FMVFIH: rd := Fa[63:32]. -/
def execFmvfih (u : Nat) (f : RegF) (s : State) : Ans :=
  .next (s.pure u { reserved := f.fc == 0 && f.rb == 0 } fun a =>
    a.setReg f.rd ((a.freg f.ra).extractLsb' 32 32))

/-- FMVIF: Fd := rb × 2^32 + ra. -/
def execFmvif (u : Nat) (f : RegF) (s : State) : Ans :=
  .next (s.pure u { reserved := f.fc == 0 } fun a => a.setF f.rd (a.reg f.rb ++ a.reg f.ra))

end Sys2Proof.Machine
end

