-- ==== Sys2Proof/Machine/Flow.lean ====
section
/-! DEFINITION. Branches, jumps, calls and returns (R276 to R278, R290, R302, R348), the special and feature
registers (R279, R304), the calls of E and D and the return (R294, R295), fences, IFENCE and WAITI (R391 to
R394, R637). -/

namespace Sys2Proof.Machine

open Sys2Proof

/-! ## Branches and jumps -/

/-- A signed displacement in words from PC (R289). -/
def targetOf (pc : Word) {n : Nat} (disp : BitVec n) : Word := pc + (disp.signExtend 32) <<< 2

/-- A conditional branch. -/
def State.branch (s : State) (u : Nat) (f : BrcF) (taken : Word → Word → Bool) : State :=
  s.execute u {} fun s =>
    let a := (s.unit u).arch
    if taken (a.reg f.ra) (a.reg f.rb) then .jump s (targetOf a.pc f.disp) else .done s

def execBeq (u : Nat) (f : BrcF) (s : State) : Ans := .next (s.branch u f fun a b => a == b)
def execBne (u : Nat) (f : BrcF) (s : State) : Ans := .next (s.branch u f fun a b => a != b)
def execBlt (u : Nat) (f : BrcF) (s : State) : Ans := .next (s.branch u f fun a b => a.slt b)
def execBge (u : Nat) (f : BrcF) (s : State) : Ans := .next (s.branch u f fun a b => !a.slt b)
def execBltu (u : Nat) (f : BrcF) (s : State) : Ans := .next (s.branch u f fun a b => a.ult b)
def execBgeu (u : Nat) (f : BrcF) (s : State) : Ans := .next (s.branch u f fun a b => !a.ult b)

def execBr (u : Nat) (f : JmpF) (s : State) : Ans :=
  .next (s.execute u {} fun s => .jump s (targetOf (s.unit u).arch.pc f.disp))

/-- A target whose low two bits are not zero raises ALIGN TARGET on the jump (R287). -/
def checkTarget (s : State) (pc : Word) (go : Eff) : Eff :=
  if pc.extractLsb' 0 2 = 0 then go else .exc s (Exc.at exAlign 3 0 pc.toNat)

def execJmpr (u : Nat) (f : ImmF) (s : State) : Ans :=
  .next (s.execute u { reserved := f.rd == 0 } fun s =>
    let t := (s.unit u).arch.reg f.ra + f.imm.signExtend 32
    checkTarget s t (.jump s t))

/-! ## Calls and returns -/

/-- CALL and CALLR (R276, R348): with 16 windows resident, unit 1 spills the oldest; the last unit slides
and jumps. -/
def State.callTo (s : State) (u : Nat) (pc : Word) : Eff :=
  let a := (s.unit u).arch
  if 16 ≤ a.win.resident then
    if !spillFits a.sr.wsp then .exc s (Exc.at exWindow 1 0 a.sr.wsp.toNat)
    else if bufferSize ≤ (s.unit u).stores.length then .hold s
    else .part (s.spill u)
  else .jump (s.mapArch u fun a => { a with win := a.win.push (some (a.pc + 4)) }) pc

def execCall (u : Nat) (f : JmpF) (s : State) : Ans :=
  .next (s.execute u {} fun s => s.callTo u (targetOf (s.unit u).arch.pc f.disp))

def execCallr (u : Nat) (f : ImmF) (s : State) : Ans :=
  .next (s.execute u { reserved := f.rd == 0 } fun s =>
    let t := (s.unit u).arch.reg f.ra + f.imm.signExtend 32
    checkTarget s t (s.callTo u t))

/-- The fill of R277 as a unit of operation: the caller's window is loaded from the window stack, or WINDOW
UNDERFLOW (R278), or the error of a load of the scratchpad. -/
def State.fillUnit (s : State) (u : Nat) : Eff :=
  let a := (s.unit u).arch
  let wsp := a.sr.wsp
  let pa := s.pairArea u + wsp.toNat
  if !fillFits wsp then .exc s (Exc.at exWindow 2 0 wsp.toNat)
  else match (s.answerOf (clusterOf (pairOf u)) pa).1 with
    | .ok =>
      if s.poisonIn pa 64 then .exc s (Exc.at exMcheck 1 0 wsp.toNat)
      else
        let ws := wordsOf (s.seenBytes u pa 64)
        .part (s.mapArch u fun a =>
          { a with win := a.win.filled (ws.take 8) (ws.drop 8), sr := { a.sr with wsp := wsp + 64 } })
    | .poison => .exc s (Exc.at exMcheck 1 0 wsp.toNat)
    | st => .exc (s.logAnswer (clusterOf (pairOf u)) (stopOf (s.region pa) pa) st (s.answerOf (clusterOf (pairOf u)) pa).2 pa)
        (Exc.at exMcheck 2 0 wsp.toNat)

/-- RET (R277, R302): TXN_EXIT in the entry window at T, ALIGN for a return address that is no multiple of
4, then the fill when one window is resident, and the return. -/
def execRet (u : Nat) (f : ImmF) (s : State) : Ans :=
  .next (s.execute u { reserved := f.rd == 0 && f.ra == 0 && f.imm == 0 } fun s =>
    let a := (s.unit u).arch
    let t := a.win.top.v.getD 7 0
    let go : Eff :=
      if a.win.resident ≤ 1 then s.fillUnit u
      else .jump (s.mapArch u fun a => { a with win := a.win.pop }) t
    if a.pcf then go
    else if a.level = 0 ∧ a.win.depth = 1 then .exc s (Exc.plain exTxn 3)
    else checkTarget s t go)

/-! ## Special registers -/

/-- The SYS fields that an instruction does not use are zero (R289). -/
def SysOk (f : SysF) (rd ra sr : Bool) : Bool :=
  f.rsv == 0 && (rd || f.rd == 0) && (ra || f.ra == 0) && (sr || f.sr == 0)

/-- The level of a unit. -/
def State.level (s : State) (u : Nat) : Nat := (s.unit u).arch.level

/-- RDSR (R279): a read of TIME_LO latches TIME_HI (R11). -/
def execRdsr (u : Nat) (f : SysF) (s : State) : Ans :=
  let n := f.sr.toNat
  let acc := srAccess n
  let priv : Nat := match acc with
    | some a => if SrAcc.at a (s.level u) = .none then 2 else 0
    | none => 0
  .next (s.execute u { reserved := SysOk f true false true, sreg := acc.isSome, srSub := priv } fun s =>
    let v := s.readSr u n
    let hi := BitVec.ofNat 32 (s.timeBase / 2 ^ 32)
    .done (s.mapArch u fun a =>
      let a := if n = 0x30 then a.mapSr fun r => { r with timeHi := hi } else a
      a.setReg f.rd v))

/-- A write of a register marked "r" at a level raises SRWRITE at E and D when a higher level may write it,
and is ignored otherwise (R279); an access that is marked "—" raises it at every level. -/
def srWriteDenied (a : SrAcc × SrAcc × SrAcc) (level : Nat) : Bool :=
  match SrAcc.at a level with
  | .none => true
  | .rw => false
  | .r => decide (level = 1) && decide (SrAcc.at a 2 = .rw)

/-- WRSR (R279 to R281, R639). -/
def execWrsr (u : Nat) (f : SysF) (s : State) : Ans :=
  let n := f.sr.toNat
  let acc := srAccess n
  let lvl := s.level u
  let priv : Nat := match acc with
    | some a => if srWriteDenied a lvl then 3 else 0
    | none => 0
  .next (s.execute u { reserved := SysOk f false true true, sreg := acc.isSome, srSub := priv } fun s =>
    .done (s.mapArch u fun a =>
      match acc with
      | some x =>
        if SrAcc.at x lvl = .rw then { a with sr := a.sr.write lvl n (a.reg f.ra) } else a
      | none => a))

/-- RDFEAT (R304). -/
def execRdfeat (u : Nat) (f : SysF) (s : State) : Ans :=
  .next (s.execute u { reserved := SysOk f true false true } fun s =>
    .done (s.mapArch u fun a => a.setReg f.rd (s.feat u f.sr.toNat)))

/-! ## Exceptions on purpose, and the return -/

def execEcall (u : Nat) (f : SysF) (s : State) : Ans :=
  .next (s.execute u { reserved := SysOk f false false true } fun s => .exc s (Exc.plain exEcall f.sr.toNat))

def execDcall (u : Nat) (f : SysF) (s : State) : Ans :=
  .next (s.execute u { reserved := SysOk f false false true, level := 1 } fun s =>
    .exc s (Exc.plain exDcall f.sr.toNat))

/-- BREAK raises its exception, or halts the pair when BRKHALT is 1 (R294, R571). -/
def execBrk (u : Nat) (f : SysF) (s : State) : Ans :=
  .next (s.execute u { reserved := SysOk f false false true } fun s =>
    if (s.pair (pairOf u)).brkHalt then .stop .brk 0 else .exc s (Exc.plain exBreak f.sr.toNat))

/-- ERET (R277, R295, R348): the fill as unit 1 when one window is resident, then the return. -/
def execEret (u : Nat) (f : SysF) (s : State) : Ans :=
  .next (s.execute u { reserved := SysOk f false false false, level := 1 } fun s =>
    if (s.unit u).arch.win.resident ≤ 1 then s.fillUnit u else .back (s.mapArch u Arch.restore))

/-! ## Fences and waits -/

/-- Every remote store of a unit has been acknowledged (R391). -/
def State.remoteDone (s : State) (u : Nat) : Bool := !(s.weft.reqs.any fun r => r.unit == u && r.write)

/-- A fence of a scope is complete: the unit's stores, and those it read from, have passed the scope
before it (R391). -/
def State.fenceDone (s : State) (u : Nat) (sc : Scope) : Bool :=
  s.storesPast u sc && (decide (sc ≠ .cluster) || s.remoteDone u)

/-- A fence: it retires when complete, else the unit stands at the boundary before it (R392). -/
def State.fence (s : State) (u : Nat) (f : SysF) (sc : Scope) : State :=
  s.execute u { reserved := SysOk f false false false } fun s =>
    if s.fenceDone u sc then .done s else .hold (s.mapUnit u fun x => { x with wait := .fence sc })

/-- FENCE.CORE: visible at pair scope. -/
def execFenceCore (u : Nat) (f : SysF) (s : State) : Ans := .next (s.fence u f .unit)
/-- FENCE.CLUSTER: visible at cluster scope. -/
def execFenceCluster (u : Nat) (f : SysF) (s : State) : Ans := .next (s.fence u f .pair)
/-- FENCE.DEVICE: visible at device scope, remote stores acknowledged. -/
def execFenceDevice (u : Nat) (f : SysF) (s : State) : Ans := .next (s.fence u f .cluster)

/-- The fence that a unit waits at completes and retires; a synthesised Warp error that stood for its
acknowledgement is raised as an asynchronous MCHECK at the next boundary (R392). -/
def execFenceComplete (u : Nat) (warpError : Bool) (s : State) : Ans :=
  .next (match (s.unit u).wait with
    | .fence sc =>
      if (warpError || s.fenceDone u sc) && !(s.unit u).halted && !s.safe then
        let s := s.mapUnit u fun x =>
          { x with wait := .none
                   latch := if warpError then { x.latch with mcheck := some 2 } else x.latch }
        s.retire u ((s.unit u).arch.pc + 4)
      else s
    | _ => s)

/-- IFENCE: fetched instructions are discarded; nothing else changes (R394). -/
def execIfence (u : Nat) (f : SysF) (s : State) : Ans :=
  .next (s.execute u { reserved := SysOk f false false false } fun s => .done s)

/-- WAITI retires and holds the unit at the boundary after it (R637). -/
def execWaiti (u : Nat) (f : SysF) (s : State) : Ans :=
  .next (s.execute u { reserved := SysOk f false false false, level := 1 } fun s =>
    .done (s.mapUnit u fun x => { x with wait := .waiti }))

end Sys2Proof.Machine
end

