-- ==== Sys2Proof/Machine/Integer.lean ====
section
/-! DEFINITION. The integer instructions: the ALU group, the immediate and shift forms, LUI (R290, R291,
R306 to R309). -/

namespace Sys2Proof.Machine

open Sys2Proof

/-! ## The functions -/

/-- A shift count of a register: bits [4:0] (R306). -/
def shCount (w : Word) : Nat := w.toNat % 32

/-- Quotients and remainders (R308). -/
def divS (a b : Word) : Word := if b = 0 then 0xFFFFFFFF#32 else BitVec.ofInt 32 (a.toInt.tdiv b.toInt)
def divU (a b : Word) : Word := if b = 0 then 0xFFFFFFFF#32 else a / b
def remS (a b : Word) : Word := if b = 0 then a else BitVec.ofInt 32 (a.toInt.tmod b.toInt)
def remU (a b : Word) : Word := if b = 0 then a else a % b

/-- The high words of the products (R307). -/
def mulHigh (a b : Word) : Word := BitVec.ofInt 32 ((a.toInt * b.toInt) / 2 ^ 32)
def mulHighU (a b : Word) : Word := BitVec.ofNat 32 (a.toNat * b.toNat / 2 ^ 32)

/-- Leading zeros, trailing zeros, bits set, bytes reversed (R309). -/
def leadZeros (a : Word) : Word := BitVec.ofNat 32 (if a = 0 then 32 else 31 - Nat.log2 a.toNat)
def trailZeros (a : Word) : Word :=
  BitVec.ofNat 32 (((List.range 32).find? fun i => a.getLsbD i).getD 32)
def popCount (a : Word) : Word := BitVec.ofNat 32 ((List.range 32).filter fun i => a.getLsbD i).length
def byteSwap (a : Word) : Word := BitVec.ofNat 32 (leNat (leBytes 4 a.toNat).reverse)

/-- A truth value in a register. -/
def flag (b : Bool) : Word := if b then 1 else 0

/-! ## The forms -/

/-- An ALU function of two registers. -/
def State.alu (s : State) (u : Nat) (f : RegF) (g : Word → Word → Word) : State :=
  s.pure u { reserved := f.fc == 0 } fun a => a.setReg f.rd (g (a.reg f.ra) (a.reg f.rb))

/-- An ALU function of one register: rb must be zero (R291). -/
def State.alu1 (s : State) (u : Nat) (f : RegF) (g : Word → Word) : State :=
  s.pure u { reserved := f.fc == 0 && f.rb == 0 } fun a => a.setReg f.rd (g (a.reg f.ra))

/-- IMM16 sign-extended, and zero-extended for ANDI, ORI, XORI (R289). -/
def sxImm (f : ImmF) : Word := f.imm.signExtend 32
def zxImm (f : ImmF) : Word := f.imm.zeroExtend 32

/-- A function of a register and an immediate. -/
def State.aluI (s : State) (u : Nat) (f : ImmF) (imm : Word) (g : Word → Word → Word) : State :=
  s.pure u {} fun a => a.setReg f.rd (g (a.reg f.ra) imm)

/-- A shift by SHAMT. -/
def State.shiftI (s : State) (u : Nat) (f : ShiF) (g : Word → Nat → Word) : State :=
  s.pure u { reserved := f.rsv == 0 } fun a => a.setReg f.rd (g (a.reg f.ra) f.shamt.toNat)

/-! ## The ALU group -/

def execAdd (u : Nat) (f : RegF) (s : State) : Ans := .next (s.alu u f fun a b => a + b)
def execSub (u : Nat) (f : RegF) (s : State) : Ans := .next (s.alu u f fun a b => a - b)
def execAndd (u : Nat) (f : RegF) (s : State) : Ans := .next (s.alu u f fun a b => a &&& b)
def execOrr (u : Nat) (f : RegF) (s : State) : Ans := .next (s.alu u f fun a b => a ||| b)
def execXorr (u : Nat) (f : RegF) (s : State) : Ans := .next (s.alu u f fun a b => a ^^^ b)
def execAndn (u : Nat) (f : RegF) (s : State) : Ans := .next (s.alu u f fun a b => a &&& ~~~b)
def execNor (u : Nat) (f : RegF) (s : State) : Ans := .next (s.alu u f fun a b => ~~~(a ||| b))
def execSll (u : Nat) (f : RegF) (s : State) : Ans := .next (s.alu u f fun a b => a <<< shCount b)
def execSrl (u : Nat) (f : RegF) (s : State) : Ans := .next (s.alu u f fun a b => a >>> shCount b)
def execSra (u : Nat) (f : RegF) (s : State) : Ans := .next (s.alu u f fun a b => a.sshiftRight (shCount b))
def execSlt (u : Nat) (f : RegF) (s : State) : Ans := .next (s.alu u f fun a b => flag (a.slt b))
def execSltu (u : Nat) (f : RegF) (s : State) : Ans := .next (s.alu u f fun a b => flag (a.ult b))
def execMul (u : Nat) (f : RegF) (s : State) : Ans := .next (s.alu u f fun a b => a * b)
def execMulh (u : Nat) (f : RegF) (s : State) : Ans := .next (s.alu u f mulHigh)
def execMulhu (u : Nat) (f : RegF) (s : State) : Ans := .next (s.alu u f mulHighU)
def execDiv (u : Nat) (f : RegF) (s : State) : Ans := .next (s.alu u f divS)
def execDivu (u : Nat) (f : RegF) (s : State) : Ans := .next (s.alu u f divU)
def execRem (u : Nat) (f : RegF) (s : State) : Ans := .next (s.alu u f remS)
def execRemu (u : Nat) (f : RegF) (s : State) : Ans := .next (s.alu u f remU)
def execClz (u : Nat) (f : RegF) (s : State) : Ans := .next (s.alu1 u f leadZeros)
def execCtz (u : Nat) (f : RegF) (s : State) : Ans := .next (s.alu1 u f trailZeros)
def execPopc (u : Nat) (f : RegF) (s : State) : Ans := .next (s.alu1 u f popCount)
def execBswap (u : Nat) (f : RegF) (s : State) : Ans := .next (s.alu1 u f byteSwap)

/-! ## Immediates -/

def execAddi (u : Nat) (f : ImmF) (s : State) : Ans := .next (s.aluI u f (sxImm f) fun a b => a + b)
def execAndi (u : Nat) (f : ImmF) (s : State) : Ans := .next (s.aluI u f (zxImm f) fun a b => a &&& b)
def execOri (u : Nat) (f : ImmF) (s : State) : Ans := .next (s.aluI u f (zxImm f) fun a b => a ||| b)
def execXori (u : Nat) (f : ImmF) (s : State) : Ans := .next (s.aluI u f (zxImm f) fun a b => a ^^^ b)
def execSlti (u : Nat) (f : ImmF) (s : State) : Ans := .next (s.aluI u f (sxImm f) fun a b => flag (a.slt b))
/-- SLTIU compares unsigned with the sign-extended immediate (R289, R290). -/
def execSltiu (u : Nat) (f : ImmF) (s : State) : Ans := .next (s.aluI u f (sxImm f) fun a b => flag (a.ult b))
/-- LUI: ra must be zero (R290). -/
def execLui (u : Nat) (f : ImmF) (s : State) : Ans :=
  .next (s.pure u { reserved := f.ra == 0 } fun a => a.setReg f.rd (zxImm f <<< 16))

/-! ## Shifts by a constant -/

def execSlli (u : Nat) (f : ShiF) (s : State) : Ans := .next (s.shiftI u f fun a n => a <<< n)
def execSrli (u : Nat) (f : ShiF) (s : State) : Ans := .next (s.shiftI u f fun a n => a >>> n)
def execSrai (u : Nat) (f : ShiF) (s : State) : Ans := .next (s.shiftI u f fun a n => a.sshiftRight n)

end Sys2Proof.Machine
end

