-- ==== Sys2Proof/Machine/Ledger.lean ====
section
/-! DEFINITION. The commands on the identity of the device: GET_BOOT_RECORD (R558), ATTEST (R560), DEBUG_AUTH (R568),
LIFECYCLE_REQ (R561, R562). -/

namespace Sys2Proof.Machine

open Sys2Proof

/-! ## The ledger (R558) -/

/-- What GET_BOOT_RECORD returns for record s of n: both records, the certificate, and the BODYHASHes between. -/
def Mram.proof (m : Mram) (s n : Nat) (rs rn : List Byte) : List Byte :=
  let between := if s = 1 then [] else (List.range (n - s - 1)).flatMap fun k => ((m.ledger.lookup (s + 1 + k)).map bodyHash).getD (zeros 48)
  rs ++ rn ++ fitTo 256 m.cert ++ between

def execGetBootRecord (plot queue : Nat) (s : State) : Ans :=
  .next (s.runCmd plot queue 0x38 fun c s =>
    let n := s.mram.headSeq
    let k := (c.num? pIndex).getD n
    if k ≠ 1 ∧ k + 8191 < n then .err s stNotFound
    else match s.mram.ledger.lookup k, s.mram.ledger.lookup n with
      | some rs, some rn =>
        let data := s.mram.proof k n rs rn
        .ok s (tlv pIndex (beBytes 8 n) :: (chunksOf 8192 data.length data).map tlvData)
      | _, _ => .err s stNotFound)

/-! ## Attestation (R560) -/

/-- Bytes 0 to 575 of a report. -/
def State.attestBody (s : State) (nonce : List Byte) : List Byte :=
  leBytes 4 0x41545301 ++ leBytes 2 1 ++ leBytes 2 s.debugOpen.toNat ++ s.uid ++ leBytes 8 s.boot.seq ++ fitTo 48 nonce ++
  leBytes 8 s.timeBase ++ leBytes 8 (s.reg64 Reg.TCK_SEALED_LO) ++ leBytes 1 s.fuses.lifecycle ++ zeros 3 ++
  leBytes 4 s.fuses.lcCount ++ s.measBytes ++ s.boot.rhash ++ zeros 40

/-- ATTEST: the report is signed under slot 0. A slot that a wipe has emptied gives KEY_LOST (R259, R488). -/
def execAttest (plot queue : Nat) (s : State) : Ans :=
  .next (s.runCmd plot queue 0x39 fun c s =>
    if s.slotSpent 0 then .err s 0x6003
    else
      let body := s.attestBody ((c.bytes? pNonce).getD [])
      let s := (s.chargeSlot 0).1
      .ok s [tlvData (body ++ ecSign s.attestKey (sha384 body) ++ fitTo 256 s.mram.cert)])

/-! ## Debug authorisation (R568) -/

def execDebugAuth (plot queue : Nat) (s : State) : Ans :=
  .next (s.runCmd plot queue 0x61 fun c s =>
    let b := (c.bytes? pAuth).getD []
    let s := s.authorise b
    if s.evral.result = 1 then .ok s [] else .err s stAuthFailed)

/-! ## Lifecycle (R561, R562) -/

/-- The key that signs a transition of R561. -/
def State.transitionKey (s : State) (cur target : Nat) : Option (List Byte) :=
  match cur, target with
  | 0, 1 => some s.ownerPub
  | 1, 2 => some s.ownerPub
  | 2, 3 => some s.ownerPub
  | 1, 4 => some s.ownerPub
  | 2, 4 => some s.ownerPub
  | 0, 4 => some (romKey Config.lifecycleKey)
  | 3, 4 => some (romKey Config.lifecycleKey)
  | _, _ => none

/-- The 27 bytes that a transition signs. -/
def State.transitionBytes (s : State) (target : Nat) : List Byte :=
  ascii "LCREQ" ++ s.uid ++ beBytes 1 s.fuses.lifecycle ++ beBytes 1 target ++ beBytes 4 s.fuses.lcCount

/-- The target group is blown, with OWNERHASH at the transition to PROVISIONED; then the wipes (R562). -/
def State.transition (s : State) (target : Nat) : State :=
  let owner := if target = 1 then sha384 s.ownerPub else s.fuses.ownerHash
  let s := s.mapFuses fun f => { f with lifecycle := target, lcCount := f.lcCount + 1, ownerHash := owner }
  let s := s.startWipe.wipeVault
  s.mapPower fun p => { p with lcReset := some (s.time + 1000000) }

def execLifecycleReq (plot queue : Nat) (s : State) : Ans :=
  .next (s.runCmd plot queue 0x60 fun c s =>
    let target := c.num pLcstate
    match s.transitionKey s.fuses.lifecycle target with
    | none => .err s stLifecycle
    | some key =>
      if ecVerify (sha384 (s.transitionBytes target)) key ((c.bytes? pSig).getD []) then .ok (s.transition target) []
      else .err (s.setBit Reg.LCT_ERR 1 true) stAuthFailed)

end Sys2Proof.Machine
end

