-- ==== Sys2Proof/Machine/Dispatch.lean ====
section
/-! DEFINITION. The meaning of every command: one arm per row of the table. -/

namespace Sys2Proof.Machine

open Sys2Proof

def exec (i : Instr) (s : State) : Host.Outcome State Fault Refusal :=
  match i with
  | .registerWrite m off v => Sys2Proof.Machine.execRegisterWrite m off v s
  | .regPairLoRead m off => Sys2Proof.Machine.execRegPairLoRead m off s
  | .regPairHiRead m off => Sys2Proof.Machine.execRegPairHiRead m off s
  | .regPairLoWrite m off v => Sys2Proof.Machine.execRegPairLoWrite m off v s
  | .regPairHiWrite m off v => Sys2Proof.Machine.execRegPairHiWrite m off v s
  | .resourceTake pin => Sys2Proof.Machine.execResourceTake pin s
  | .tickInEdge t => Sys2Proof.Machine.execTickInEdge t s
  | .tickSymbol t link carried => Sys2Proof.Machine.execTickSymbol t link carried s
  | .tick t => Sys2Proof.Machine.execTick t s
  | .tickWindowClose t => Sys2Proof.Machine.execTickWindowClose t s
  | .tickOutEnd t => Sys2Proof.Machine.execTickOutEnd t s
  | .reservationWritten => Sys2Proof.Machine.execReservationWritten s
  | .closeMarker pair => Sys2Proof.Machine.execCloseMarker pair s
  | .sealWritebackDone cluster => Sys2Proof.Machine.execSealWritebackDone cluster s
  | .sealHashDone err => Sys2Proof.Machine.execSealHashDone err s
  | .sealMacDone err ue => Sys2Proof.Machine.execSealMacDone err ue s
  | .sheafAck t link epoch => Sys2Proof.Machine.execSheafAck t link epoch s
  | .sealFailLimit t => Sys2Proof.Machine.execSealFailLimit t s
  | .rollbackRestoreDone => Sys2Proof.Machine.execRollbackRestoreDone s
  | .budgetExpire t unit => Sys2Proof.Machine.execBudgetExpire t unit s
  | .linkDelayMeasure roundTrip => Sys2Proof.Machine.execLinkDelayMeasure roundTrip s
  | .asyncInputAtBoundary unit => Sys2Proof.Machine.execAsyncInputAtBoundary unit s
  | .sliceRequest slice ue => Sys2Proof.Machine.execSliceRequest slice ue s
  | .sliceRelease slice ue => Sys2Proof.Machine.execSliceRelease slice ue s
  | .stakeGrant slot => Sys2Proof.Machine.execStakeGrant slot s
  | .woundPresent slot => Sys2Proof.Machine.execWoundPresent slot s
  | .remoteStakeTimeout t unit => Sys2Proof.Machine.execRemoteStakeTimeout t unit s
  | .stkClear m v => Sys2Proof.Machine.execStkClear m v s
  | .stakeTableCleared => Sys2Proof.Machine.execStakeTableCleared s
  | .captureAccept ue => Sys2Proof.Machine.execCaptureAccept ue s
  | .sheafRetainExpire t => Sys2Proof.Machine.execSheafRetainExpire t s
  | .jnlInit m v => Sys2Proof.Machine.execJnlInit m v s
  | .jnlReady => Sys2Proof.Machine.execJnlReady s
  | .requestIndexLookup plot queue slotNo => Sys2Proof.Machine.execRequestIndexLookup plot queue slotNo s
  | .sheafKeyDerive gen => Sys2Proof.Machine.execSheafKeyDerive gen s
  | .sheaf link bytes ue => Sys2Proof.Machine.execSheaf link bytes ue s
  | .sealCompleteNotice epoch cursor1 cursor2 => Sys2Proof.Machine.execSealCompleteNotice epoch cursor1 cursor2 s
  | .sheafApplyDone => Sys2Proof.Machine.execSheafApplyDone s
  | .rollbackNotice first second => Sys2Proof.Machine.execRollbackNotice first second s
  | .handbackNotice epoch => Sys2Proof.Machine.execHandbackNotice epoch s
  | .heartbeat t link bytes => Sys2Proof.Machine.execHeartbeat t link bytes s
  | .juniorDelayExpire t => Sys2Proof.Machine.execJuniorDelayExpire t s
  | .takeoverStepADone t ok => Sys2Proof.Machine.execTakeoverStepADone t ok s
  | .takeoverStepBDone t ok => Sys2Proof.Machine.execTakeoverStepBDone t ok s
  | .leasewaitExpire t => Sys2Proof.Machine.execLeasewaitExpire t s
  | .adoptComplete => Sys2Proof.Machine.execAdoptComplete s
  | .addressAnnounce t plot => Sys2Proof.Machine.execAddressAnnounce t plot s
  | .leaseEnd t => Sys2Proof.Machine.execLeaseEnd t s
  | .reservationReportDone t issued holder => Sys2Proof.Machine.execReservationReportDone t issued holder s
  | .descMirrorConfirm tag => Sys2Proof.Machine.execDescMirrorConfirm tag s
  | .descMirrorTimeout t tag => Sys2Proof.Machine.execDescMirrorTimeout t tag s
  | .rebuildChunkRead => Sys2Proof.Machine.execRebuildChunkRead s
  | .rebuild phase chunk bytes => Sys2Proof.Machine.execRebuild phase chunk bytes s
  | .holdoffExpire t => Sys2Proof.Machine.execHoldoffExpire t s
  | .returnNow m => Sys2Proof.Machine.execReturnNow m s
  | .frameReceive t port fcsOk sec room bytes => Sys2Proof.Machine.execFrameReceive t port fcsOk sec room bytes s
  | .macControlFrame t port quanta => Sys2Proof.Machine.execMacControlFrame t port quanta s
  | .tsinfoRead m port => Sys2Proof.Machine.execTsinfoRead m port s
  | .tsHiRead m port => Sys2Proof.Machine.execTsHiRead m port s
  | .swathOpen t port pcp peer bytes => Sys2Proof.Machine.execSwathOpen t port pcp peer bytes s
  | .swathCmd t port pcp peer bytes => Sys2Proof.Machine.execSwathCmd t port pcp peer bytes s
  | .swathAck t port pcp peer bytes => Sys2Proof.Machine.execSwathAck t port pcp peer bytes s
  | .swathClose t port pcp peer bytes => Sys2Proof.Machine.execSwathClose t port pcp peer bytes s
  | .ackDelayExpire t ref => Sys2Proof.Machine.execAckDelayExpire t ref s
  | .windowAckRepeat t ref => Sys2Proof.Machine.execWindowAckRepeat t ref s
  | .retransmitTimeout t ref => Sys2Proof.Machine.execRetransmitTimeout t ref s
  | .coalesceTimeout t ref => Sys2Proof.Machine.execCoalesceTimeout t ref s
  | .heldPacketExpire t ref => Sys2Proof.Machine.execHeldPacketExpire t ref s
  | .heldCompletionExpire t plot channel => Sys2Proof.Machine.execHeldCompletionExpire t plot channel s
  | .portLinkDown port => Sys2Proof.Machine.execPortLinkDown port s
  | .dispatch t unit => Sys2Proof.Machine.execDispatch t unit s
  | .commandHandoff plot queue => Sys2Proof.Machine.execCommandHandoff plot queue s
  | .plotResetDrainDone plot => Sys2Proof.Machine.execPlotResetDrainDone plot s
  | .pltInit m v => Sys2Proof.Machine.execPltInit m v s
  | .pltReady => Sys2Proof.Machine.execPltReady s
  | .sowPairWrite m pair v => Sys2Proof.Machine.execSowPairWrite m pair v s
  | .txnSubmit plot queue slotNo => Sys2Proof.Machine.execTxnSubmit plot queue slotNo s
  | .nop plot queue => Sys2Proof.Machine.execNop plot queue s
  | .contCmd plot queue => Sys2Proof.Machine.execContCmd plot queue s
  | .getInfo plot queue => Sys2Proof.Machine.execGetInfo plot queue s
  | .plotCreate plot queue => Sys2Proof.Machine.execPlotCreate plot queue s
  | .plotDestroy plot queue => Sys2Proof.Machine.execPlotDestroy plot queue s
  | .plotReset plot queue => Sys2Proof.Machine.execPlotReset plot queue s
  | .plotSetShare plot queue => Sys2Proof.Machine.execPlotSetShare plot queue s
  | .plotSetAddr plot queue => Sys2Proof.Machine.execPlotSetAddr plot queue s
  | .plotGet plot queue => Sys2Proof.Machine.execPlotGet plot queue s
  | .spaceSet plot queue => Sys2Proof.Machine.execSpaceSet plot queue s
  | .queueCreate plot queue => Sys2Proof.Machine.execQueueCreate plot queue s
  | .queueDestroy plot queue => Sys2Proof.Machine.execQueueDestroy plot queue s
  | .queueGet plot queue => Sys2Proof.Machine.execQueueGet plot queue s
  | .libLoad plot queue => Sys2Proof.Machine.execLibLoad plot queue s
  | .libSetEntry plot queue => Sys2Proof.Machine.execLibSetEntry plot queue s
  | .execLoad plot queue => Sys2Proof.Machine.execExecLoad plot queue s
  | .regRead plot queue => Sys2Proof.Machine.execRegRead plot queue s
  | .regWrite plot queue => Sys2Proof.Machine.execRegWrite plot queue s
  | .getBootRecord plot queue => Sys2Proof.Machine.execGetBootRecord plot queue s
  | .attest plot queue => Sys2Proof.Machine.execAttest plot queue s
  | .almanacRead plot queue => Sys2Proof.Machine.execAlmanacRead plot queue s
  | .gleanerRead plot queue => Sys2Proof.Machine.execGleanerRead plot queue s
  | .gleanerClear plot queue => Sys2Proof.Machine.execGleanerClear plot queue s
  | .twinPair plot queue common => Sys2Proof.Machine.execTwinPair plot queue common s
  | .twinUnpair plot queue => Sys2Proof.Machine.execTwinUnpair plot queue s
  | .twinReturn plot queue => Sys2Proof.Machine.execTwinReturn plot queue s
  | .twinStatus plot queue => Sys2Proof.Machine.execTwinStatus plot queue s
  | .pairSplit plot queue => Sys2Proof.Machine.execPairSplit plot queue s
  | .pairRejoin plot queue => Sys2Proof.Machine.execPairRejoin plot queue s
  | .pairReserve plot queue => Sys2Proof.Machine.execPairReserve plot queue s
  | .spareSet plot queue => Sys2Proof.Machine.execSpareSet plot queue s
  | .keyUnwrap plot queue => Sys2Proof.Machine.execKeyUnwrap plot queue s
  | .keyErase plot queue => Sys2Proof.Machine.execKeyErase plot queue s
  | .macsecSaSet plot queue => Sys2Proof.Machine.execMacsecSaSet plot queue s
  | .macsecSaClear plot queue => Sys2Proof.Machine.execMacsecSaClear plot queue s
  | .pathSet plot queue => Sys2Proof.Machine.execPathSet plot queue s
  | .pathGet plot queue => Sys2Proof.Machine.execPathGet plot queue s
  | .lifecycleReq plot queue => Sys2Proof.Machine.execLifecycleReq plot queue s
  | .lifecycleReset => Sys2Proof.Machine.execLifecycleReset s
  | .debugAuth plot queue => Sys2Proof.Machine.execDebugAuth plot queue s
  | .tickSet plot queue => Sys2Proof.Machine.execTickSet plot queue s
  | .add u f => Sys2Proof.Machine.execAdd u f s
  | .sub u f => Sys2Proof.Machine.execSub u f s
  | .andd u f => Sys2Proof.Machine.execAndd u f s
  | .orr u f => Sys2Proof.Machine.execOrr u f s
  | .xorr u f => Sys2Proof.Machine.execXorr u f s
  | .andn u f => Sys2Proof.Machine.execAndn u f s
  | .nor u f => Sys2Proof.Machine.execNor u f s
  | .sll u f => Sys2Proof.Machine.execSll u f s
  | .srl u f => Sys2Proof.Machine.execSrl u f s
  | .sra u f => Sys2Proof.Machine.execSra u f s
  | .slt u f => Sys2Proof.Machine.execSlt u f s
  | .sltu u f => Sys2Proof.Machine.execSltu u f s
  | .mul u f => Sys2Proof.Machine.execMul u f s
  | .mulh u f => Sys2Proof.Machine.execMulh u f s
  | .mulhu u f => Sys2Proof.Machine.execMulhu u f s
  | .div u f => Sys2Proof.Machine.execDiv u f s
  | .divu u f => Sys2Proof.Machine.execDivu u f s
  | .rem u f => Sys2Proof.Machine.execRem u f s
  | .remu u f => Sys2Proof.Machine.execRemu u f s
  | .clz u f => Sys2Proof.Machine.execClz u f s
  | .ctz u f => Sys2Proof.Machine.execCtz u f s
  | .popc u f => Sys2Proof.Machine.execPopc u f s
  | .bswap u f => Sys2Proof.Machine.execBswap u f s
  | .addi u f => Sys2Proof.Machine.execAddi u f s
  | .andi u f => Sys2Proof.Machine.execAndi u f s
  | .ori u f => Sys2Proof.Machine.execOri u f s
  | .xori u f => Sys2Proof.Machine.execXori u f s
  | .slti u f => Sys2Proof.Machine.execSlti u f s
  | .sltiu u f => Sys2Proof.Machine.execSltiu u f s
  | .lui u f => Sys2Proof.Machine.execLui u f s
  | .slli u f => Sys2Proof.Machine.execSlli u f s
  | .srli u f => Sys2Proof.Machine.execSrli u f s
  | .srai u f => Sys2Proof.Machine.execSrai u f s
  | .ldb u f pe => Sys2Proof.Machine.execLdb u f pe s
  | .ldbs u f pe => Sys2Proof.Machine.execLdbs u f pe s
  | .ldh u f pe => Sys2Proof.Machine.execLdh u f pe s
  | .ldhs u f pe => Sys2Proof.Machine.execLdhs u f pe s
  | .ldw u f pe => Sys2Proof.Machine.execLdw u f pe s
  | .stb u f => Sys2Proof.Machine.execStb u f s
  | .sth u f => Sys2Proof.Machine.execSth u f s
  | .stw u f => Sys2Proof.Machine.execStw u f s
  | .ldp u f pe => Sys2Proof.Machine.execLdp u f pe s
  | .stp u f => Sys2Proof.Machine.execStp u f s
  | .ldl u f pe => Sys2Proof.Machine.execLdl u f pe s
  | .stc u f => Sys2Proof.Machine.execStc u f s
  | .flds u f pe => Sys2Proof.Machine.execFlds u f pe s
  | .fldd u f pe => Sys2Proof.Machine.execFldd u f pe s
  | .fsts u f => Sys2Proof.Machine.execFsts u f s
  | .fstd u f => Sys2Proof.Machine.execFstd u f s
  | .beq u f => Sys2Proof.Machine.execBeq u f s
  | .bne u f => Sys2Proof.Machine.execBne u f s
  | .blt u f => Sys2Proof.Machine.execBlt u f s
  | .bge u f => Sys2Proof.Machine.execBge u f s
  | .bltu u f => Sys2Proof.Machine.execBltu u f s
  | .bgeu u f => Sys2Proof.Machine.execBgeu u f s
  | .br u f => Sys2Proof.Machine.execBr u f s
  | .call u f => Sys2Proof.Machine.execCall u f s
  | .jmpr u f => Sys2Proof.Machine.execJmpr u f s
  | .callr u f => Sys2Proof.Machine.execCallr u f s
  | .ret u f => Sys2Proof.Machine.execRet u f s
  | .rdsr u f => Sys2Proof.Machine.execRdsr u f s
  | .wrsr u f => Sys2Proof.Machine.execWrsr u f s
  | .rdfeat u f => Sys2Proof.Machine.execRdfeat u f s
  | .ecall u f => Sys2Proof.Machine.execEcall u f s
  | .dcall u f => Sys2Proof.Machine.execDcall u f s
  | .eret u f => Sys2Proof.Machine.execEret u f s
  | .brk u f => Sys2Proof.Machine.execBrk u f s
  | .fenceCore u f => Sys2Proof.Machine.execFenceCore u f s
  | .fenceCluster u f => Sys2Proof.Machine.execFenceCluster u f s
  | .fenceDevice u f => Sys2Proof.Machine.execFenceDevice u f s
  | .fenceComplete u warpError => Sys2Proof.Machine.execFenceComplete u warpError s
  | .ifence u f => Sys2Proof.Machine.execIfence u f s
  | .waiti u f => Sys2Proof.Machine.execWaiti u f s
  | .zline u f => Sys2Proof.Machine.execZline u f s
  | .preload u f => Sys2Proof.Machine.execPreload u f s
  | .clean u f => Sys2Proof.Machine.execClean u f s
  | .inval u f => Sys2Proof.Machine.execInval u f s
  | .flush u f => Sys2Proof.Machine.execFlush u f s
  | .iinval u f => Sys2Proof.Machine.execIinval u f s
  | .prefetch u f => Sys2Proof.Machine.execPrefetch u f s
  | .rclean u f => Sys2Proof.Machine.execRclean u f s
  | .rinval u f => Sys2Proof.Machine.execRinval u f s
  | .rflush u f => Sys2Proof.Machine.execRflush u f s
  | .stakeS u f => Sys2Proof.Machine.execStakeS u f s
  | .stakeX u f => Sys2Proof.Machine.execStakeX u f s
  | .unstake u f => Sys2Proof.Machine.execUnstake u f s
  | .commit u f => Sys2Proof.Machine.execCommit u f s
  | .abort u f => Sys2Proof.Machine.execAbort u f s
  | .abortF u f => Sys2Proof.Machine.execAbortF u f s
  | .fadd u dbl f => Sys2Proof.Machine.execFadd u dbl f s
  | .fsub u dbl f => Sys2Proof.Machine.execFsub u dbl f s
  | .fmul u dbl f => Sys2Proof.Machine.execFmul u dbl f s
  | .fdiv u dbl f => Sys2Proof.Machine.execFdiv u dbl f s
  | .fsqrt u dbl f => Sys2Proof.Machine.execFsqrt u dbl f s
  | .fma u dbl f => Sys2Proof.Machine.execFma u dbl f s
  | .fmin u dbl f => Sys2Proof.Machine.execFmin u dbl f s
  | .fmax u dbl f => Sys2Proof.Machine.execFmax u dbl f s
  | .fneg u dbl f => Sys2Proof.Machine.execFneg u dbl f s
  | .fabs u dbl f => Sys2Proof.Machine.execFabs u dbl f s
  | .feq u dbl f => Sys2Proof.Machine.execFeq u dbl f s
  | .flt u dbl f => Sys2Proof.Machine.execFlt u dbl f s
  | .fle u dbl f => Sys2Proof.Machine.execFle u dbl f s
  | .fclass u dbl f => Sys2Proof.Machine.execFclass u dbl f s
  | .fcvtSD u f => Sys2Proof.Machine.execFcvtSD u f s
  | .fcvtDS u f => Sys2Proof.Machine.execFcvtDS u f s
  | .fcvtW u dbl f => Sys2Proof.Machine.execFcvtW u dbl f s
  | .fcvtWU u dbl f => Sys2Proof.Machine.execFcvtWU u dbl f s
  | .fcvtFW u dbl f => Sys2Proof.Machine.execFcvtFW u dbl f s
  | .fcvtFWU u dbl f => Sys2Proof.Machine.execFcvtFWU u dbl f s
  | .fmvfi u f => Sys2Proof.Machine.execFmvfi u f s
  | .fmvfih u f => Sys2Proof.Machine.execFmvfih u f s
  | .fmvif u f => Sys2Proof.Machine.execFmvif u f s
  | .addp u f => Sys2Proof.Machine.execAddp u f s
  | .subp u f => Sys2Proof.Machine.execSubp u f s
  | .mulp u f => Sys2Proof.Machine.execMulp u f s
  | .divp u f => Sys2Proof.Machine.execDivp u f s
  | .cmpp u f => Sys2Proof.Machine.execCmpp u f s
  | .cvtbp u f => Sys2Proof.Machine.execCvtbp u f s
  | .cvtpb u f => Sys2Proof.Machine.execCvtpb u f s
  | .cvtpz u f => Sys2Proof.Machine.execCvtpz u f s
  | .cvtzp u f => Sys2Proof.Machine.execCvtzp u f s
  | .bmov u f => Sys2Proof.Machine.execBmov u f s
  | .bfill u f => Sys2Proof.Machine.execBfill u f s
  | .cblk u f => Sys2Proof.Machine.execCblk u f s
  | .start u f => Sys2Proof.Machine.execStart u f s
  | .ucClear m pair => Sys2Proof.Machine.execUcClear m pair s
  | .ucWordCommit m pair v => Sys2Proof.Machine.execUcWordCommit m pair v s
  | .ucLock m pair => Sys2Proof.Machine.execUcLock m pair s
  | .ucUnlock m pair => Sys2Proof.Machine.execUcUnlock m pair s
  | .ucScrub pair addr bad => Sys2Proof.Machine.execUcScrub pair addr bad s
  | .instructionRetry pair e => Sys2Proof.Machine.execInstructionRetry pair e s
  | .spareResume t pair => Sys2Proof.Machine.execSpareResume t pair s
  | .leaderDrainTimeout t pair => Sys2Proof.Machine.execLeaderDrainTimeout t pair s
  | .splitCoreParity u => Sys2Proof.Machine.execSplitCoreParity u s
  | .storeDrain u at_ r => Sys2Proof.Machine.execStoreDrain u at_ r s
  | .cacheFill cluster pa f r => Sys2Proof.Machine.execCacheFill cluster pa f r s
  | .l2Scrub cluster pa e => Sys2Proof.Machine.execL2Scrub cluster pa e s
  | .scratchpadScrub cluster off e => Sys2Proof.Machine.execScratchpadScrub cluster off e s
  | .scratchpadRetention m cluster v busy => Sys2Proof.Machine.execScratchpadRetention m cluster v busy s
  | .bankWakeDone cluster bank => Sys2Proof.Machine.execBankWakeDone cluster bank s
  | .strongroomWipeDone cluster => Sys2Proof.Machine.execStrongroomWipeDone cluster s
  | .warpLinkReplay link again => Sys2Proof.Machine.execWarpLinkReplay link again s
  | .warpTimeout t ini target addr acc => Sys2Proof.Machine.execWarpTimeout t ini target addr acc s
  | .warpLateResponse id => Sys2Proof.Machine.execWarpLateResponse id s
  | .warpIsolate stop => Sys2Proof.Machine.execWarpIsolate stop s
  | .routeFlip m => Sys2Proof.Machine.execRouteFlip m s
  | .routeCopy m => Sys2Proof.Machine.execRouteCopy m s
  | .routeDrainDone => Sys2Proof.Machine.execRouteDrainDone s
  | .thrSubmit m addr => Sys2Proof.Machine.execThrSubmit m addr s
  | .thrEnable m v => Sys2Proof.Machine.execThrEnable m v s
  | .thresherJobStart t engine => Sys2Proof.Machine.execThresherJobStart t engine s
  | .compress t engine bad mem => Sys2Proof.Machine.execCompress t engine bad mem s
  | .decompress t engine mem => Sys2Proof.Machine.execDecompress t engine mem s
  | .thresherParity t engine => Sys2Proof.Machine.execThresherParity t engine s
  | .cphSubmit m addr => Sys2Proof.Machine.execCphSubmit m addr s
  | .lockAcquire m engine => Sys2Proof.Machine.execLockAcquire m engine s
  | .lockRelease m engine => Sys2Proof.Machine.execLockRelease m engine s
  | .gcmEnc job fail => Sys2Proof.Machine.execGcmEnc job fail s
  | .gcmDec job fail => Sys2Proof.Machine.execGcmDec job fail s
  | .xtsEnc job fail => Sys2Proof.Machine.execXtsEnc job fail s
  | .xtsDec job fail => Sys2Proof.Machine.execXtsDec job fail s
  | .cmacGen job fail => Sys2Proof.Machine.execCmacGen job fail s
  | .cmacVer job fail => Sys2Proof.Machine.execCmacVer job fail s
  | .sha384 job fail => Sys2Proof.Machine.execSha384 job fail s
  | .sha512 job fail => Sys2Proof.Machine.execSha512 job fail s
  | .hmac384 job fail => Sys2Proof.Machine.execHmac384 job fail s
  | .hmac512 job fail => Sys2Proof.Machine.execHmac512 job fail s
  | .derive job fail => Sys2Proof.Machine.execDerive job fail s
  | .unwrap job fail => Sys2Proof.Machine.execUnwrap job fail s
  | .sign job fail => Sys2Proof.Machine.execSign job fail s
  | .verify job fail => Sys2Proof.Machine.execVerify job fail s
  | .pubkey job fail => Sys2Proof.Machine.execPubkey job fail s
  | .frwSubmit m addr => Sys2Proof.Machine.execFrwSubmit m addr s
  | .channelRecordAck op => Sys2Proof.Machine.execChannelRecordAck op s
  | .channelRead op => Sys2Proof.Machine.execChannelRead op s
  | .channelWrite op => Sys2Proof.Machine.execChannelWrite op s
  | .channelFlush op => Sys2Proof.Machine.execChannelFlush op s
  | .peerRead op => Sys2Proof.Machine.execPeerRead op s
  | .peerWrite op => Sys2Proof.Machine.execPeerWrite op s
  | .hostSend op => Sys2Proof.Machine.execHostSend op s
  | .thresh op => Sys2Proof.Machine.execThresh op s
  | .cipher op => Sys2Proof.Machine.execCipher op s
  | .engAcquire op => Sys2Proof.Machine.execEngAcquire op s
  | .engRelease op => Sys2Proof.Machine.execEngRelease op s
  | .nvmeCompletion t tag status bytes => Sys2Proof.Machine.execNvmeCompletion t tag status bytes s
  | .destageExtent t => Sys2Proof.Machine.execDestageExtent t s
  | .ploughChunk t => Sys2Proof.Machine.execPloughChunk t s
  | .pathFail t path => Sys2Proof.Machine.execPathFail t path s
  | .keepAlive t path => Sys2Proof.Machine.execKeepAlive t path s
  | .pathReconnect t path => Sys2Proof.Machine.execPathReconnect t path s
  | .pathReady t path => Sys2Proof.Machine.execPathReady t path s
  | .furrowLateCompletion tag => Sys2Proof.Machine.execFurrowLateCompletion tag s
  | .pathwaitExpire t op => Sys2Proof.Machine.execPathwaitExpire t op s
  | .cnpReceive t path => Sys2Proof.Machine.execCnpReceive t path s
  | .weftLinkAligned link => Sys2Proof.Machine.execWeftLinkAligned link s
  | .linkFlit link peer peerLink rev => Sys2Proof.Machine.execLinkFlit link peer peerLink rev s
  | .weftLinkFail t link => Sys2Proof.Machine.execWeftLinkFail t link s
  | .weftRetrain t link => Sys2Proof.Machine.execWeftRetrain t link s
  | .weftReplay link seq => Sys2Proof.Machine.execWeftReplay link seq s
  | .weftFrameForward link bytes => Sys2Proof.Machine.execWeftFrameForward link bytes s
  | .stateFrame bytes => Sys2Proof.Machine.execStateFrame bytes s
  | .stakeReq dev who ns key excl inTree => Sys2Proof.Machine.execStakeReq dev who ns key excl inTree s
  | .stakeRsp t m ns key code => Sys2Proof.Machine.execStakeRsp t m ns key code s
  | .stakeFwd m ns key kind => Sys2Proof.Machine.execStakeFwd m ns key kind s
  | .recRead dev tag plot slot off len => Sys2Proof.Machine.execRecRead dev tag plot slot off len s
  | .recWrite dev tag plot slot off bytes => Sys2Proof.Machine.execRecWrite dev tag plot slot off bytes s
  | .recRsp tag a bytes epoch => Sys2Proof.Machine.execRecRsp tag a bytes epoch s
  | .spanNotice dev slot bytes => Sys2Proof.Machine.execSpanNotice dev slot bytes s
  | .spanAccept dev slot epoch ok => Sys2Proof.Machine.execSpanAccept dev slot epoch ok s
  | .spanAcceptTimeout t slot => Sys2Proof.Machine.execSpanAcceptTimeout t slot s
  | .vote t dev epoch sealed covers => Sys2Proof.Machine.execVote t dev epoch sealed covers s
  | .probeSend t dev => Sys2Proof.Machine.execProbeSend t dev s
  | .probe t dev => Sys2Proof.Machine.execProbe t dev s
  | .probeRsp t dev => Sys2Proof.Machine.execProbeRsp t dev s
  | .deviceLost t dev => Sys2Proof.Machine.execDeviceLost t dev s
  | .peerReq dev tag write bytes => Sys2Proof.Machine.execPeerReq dev tag write bytes s
  | .peerRsp t tag status bytes => Sys2Proof.Machine.execPeerRsp t tag status bytes s
  | .powerOnReset => Sys2Proof.Machine.execPowerOnReset s
  | .resetNAssert t => Sys2Proof.Machine.execResetNAssert t s
  | .resetNRelease t => Sys2Proof.Machine.execResetNRelease t s
  | .softwareReset m v => Sys2Proof.Machine.execSoftwareReset m v s
  | .bootStage input => Sys2Proof.Machine.execBootStage input s
  | .tamperEvent sensor => Sys2Proof.Machine.execTamperEvent sensor s
  | .evralTransfer sync head v dcrc => Sys2Proof.Machine.execEvralTransfer sync head v dcrc s
  | .authCommit m => Sys2Proof.Machine.execAuthCommit m s
  | .authClear m => Sys2Proof.Machine.execAuthClear m s
  | .authCheckDone => Sys2Proof.Machine.execAuthCheckDone s
  | .debugHalt m v => Sys2Proof.Machine.execDebugHalt m v s
  | .resume m v => Sys2Proof.Machine.execResume m v s
  | .step m v => Sys2Proof.Machine.execStep m v s
  | .dbgRdataAccess m write v => Sys2Proof.Machine.execDbgRdataAccess m write v s
  | .dbgMdataRead m => Sys2Proof.Machine.execDbgMdataRead m s
  | .dbgMdataWrite m v => Sys2Proof.Machine.execDbgMdataWrite m v s
  | .gleanerEvent source cls detail => Sys2Proof.Machine.execGleanerEvent source cls detail s
  | .gleanerSelfParity storeIntact => Sys2Proof.Machine.execGleanerSelfParity storeIntact s
  | .glnClear m v => Sys2Proof.Machine.execGlnClear m v s
  | .glnRec0Read m => Sys2Proof.Machine.execGlnRec0Read m s
  | .almanacEarlyGather => Sys2Proof.Machine.execAlmanacEarlyGather s
  | .almanacInterval t => Sys2Proof.Machine.execAlmanacInterval t s
  | .almanacSnap m => Sys2Proof.Machine.execAlmanacSnap m s
  | .snapshotWriteDone permFails circFails => Sys2Proof.Machine.execSnapshotWriteDone permFails circFails s
  | .almWindow0Read m => Sys2Proof.Machine.execAlmWindow0Read m s
  | .almWindow63Read m => Sys2Proof.Machine.execAlmWindow63Read m s
  | .railSample rail mv => Sys2Proof.Machine.execRailSample rail mv s
  | .railExcursion rail fail => Sys2Proof.Machine.execRailExcursion rail fail s
  | .tempSample t sensor value => Sys2Proof.Machine.execTempSample t sensor value s
  | .clockMonitorTrip domain => Sys2Proof.Machine.execClockMonitorTrip domain s
  | .clusterPowerDown m v => Sys2Proof.Machine.execClusterPowerDown m v s
  | .clusterPowerDownDone cluster => Sys2Proof.Machine.execClusterPowerDownDone cluster s
  | .clusterPowerUp m v => Sys2Proof.Machine.execClusterPowerUp m v s
  | .clusterPowerUpDone cluster => Sys2Proof.Machine.execClusterPowerUpDone cluster s
  | .cclkChange m cluster v => Sys2Proof.Machine.execCclkChange m cluster v s
  | .cclkStep cluster => Sys2Proof.Machine.execCclkStep cluster s
  | .wdogEnable m v => Sys2Proof.Machine.execWdogEnable m v s
  | .wdogKick m v => Sys2Proof.Machine.execWdogKick m v s
  | .wdogExpire t => Sys2Proof.Machine.execWdogExpire t s
  | .ppsOut t rise => Sys2Proof.Machine.execPpsOut t rise s
  | .tickSymbolSend t => Sys2Proof.Machine.execTickSymbolSend t s
  | .portLinkUp port => Sys2Proof.Machine.execPortLinkUp port s
  | .pfcPauseExpire t port pcp => Sys2Proof.Machine.execPfcPauseExpire t port pcp s
  | .coreClockBranchLoss pair => Sys2Proof.Machine.execCoreClockBranchLoss pair s
  | .failedPathWriteHoldExpire t path => Sys2Proof.Machine.execFailedPathWriteHoldExpire t path s
  | .weftFlitError link e => Sys2Proof.Machine.execWeftFlitError link e s
  | .porstNAssert => Sys2Proof.Machine.execPorstNAssert s

end Sys2Proof.Machine
end

