-- ==== Sys2Proof/Machine/Words.lean ====
section
/-! DEFINITION. Instructions as words (R289 to R291): the formats, the major opcodes and the minor codes, and the first two
tests of R293. A command carries the instruction itself, so that no step reads these words (log entry 147). -/

namespace Sys2Proof.Machine

open Sys2Proof

/-! ## Formats (R289) -/

/-- A word from its major opcode and the fields below it. -/
def wordOf (major : Nat) (low : BitVec 26) : Word := BitVec.ofNat 6 major ++ low

def regWord (f : RegF) (major fn : Nat) : Word := wordOf major (f.rd ++ f.ra ++ f.rb ++ f.fc ++ BitVec.ofNat 6 fn)
def immWord (f : ImmF) (major : Nat) : Word := wordOf major (f.rd ++ f.ra ++ f.imm)
def shiWord (f : ShiF) (major kind : Nat) : Word := wordOf major (f.rd ++ f.ra ++ f.shamt ++ f.rsv ++ BitVec.ofNat 2 kind)
def memWord (f : MemF) (major : Nat) : Word := wordOf major (f.rd ++ f.ra ++ f.sp ++ f.disp)
def brcWord (f : BrcF) (major : Nat) : Word := wordOf major (f.ra ++ f.rb ++ f.disp)
def jmpWord (f : JmpF) (major : Nat) : Word := wordOf major f.disp
def sysWord (f : SysF) (major fn : Nat) : Word := wordOf major (f.rd ++ f.ra ++ f.sr ++ f.rsv ++ BitVec.ofNat 6 fn)
def cacWord (f : CacF) (major cop : Nat) : Word := wordOf major (BitVec.ofNat 5 cop ++ f.ra ++ f.sp ++ f.disp)
def crgWord (f : CrgF) (major cop : Nat) : Word := wordOf major (BitVec.ofNat 5 cop ++ f.ra ++ f.sp ++ f.rb ++ f.rsv)
def opsWord (f : OpsF) (major fn : Nat) : Word :=
  wordOf major (f.rd ++ f.ra ++ f.rb ++ f.sp ++ f.sp2 ++ f.rsv ++ BitVec.ofNat 6 fn)

/-! ## The opcode map (R290, R291) -/

/-- The word of an instruction; none of a command that is no instruction. -/
def insnWord (c : Instr) : Option Word :=
  match c with
  | .add _ f => some (regWord f 0x01 0x00)
  | .sub _ f => some (regWord f 0x01 0x01)
  | .andd _ f => some (regWord f 0x01 0x02)
  | .orr _ f => some (regWord f 0x01 0x03)
  | .xorr _ f => some (regWord f 0x01 0x04)
  | .andn _ f => some (regWord f 0x01 0x05)
  | .nor _ f => some (regWord f 0x01 0x06)
  | .sll _ f => some (regWord f 0x01 0x08)
  | .srl _ f => some (regWord f 0x01 0x09)
  | .sra _ f => some (regWord f 0x01 0x0A)
  | .slt _ f => some (regWord f 0x01 0x0C)
  | .sltu _ f => some (regWord f 0x01 0x0D)
  | .mul _ f => some (regWord f 0x01 0x10)
  | .mulh _ f => some (regWord f 0x01 0x11)
  | .mulhu _ f => some (regWord f 0x01 0x12)
  | .div _ f => some (regWord f 0x01 0x14)
  | .divu _ f => some (regWord f 0x01 0x15)
  | .rem _ f => some (regWord f 0x01 0x16)
  | .remu _ f => some (regWord f 0x01 0x17)
  | .clz _ f => some (regWord f 0x01 0x20)
  | .ctz _ f => some (regWord f 0x01 0x21)
  | .popc _ f => some (regWord f 0x01 0x22)
  | .bswap _ f => some (regWord f 0x01 0x23)
  | .addi _ f => some (immWord f 0x02)
  | .andi _ f => some (immWord f 0x03)
  | .ori _ f => some (immWord f 0x04)
  | .xori _ f => some (immWord f 0x05)
  | .slti _ f => some (immWord f 0x06)
  | .sltiu _ f => some (immWord f 0x07)
  | .lui _ f => some (immWord f 0x08)
  | .slli _ f => some (shiWord f 0x09 0x00)
  | .srli _ f => some (shiWord f 0x09 0x01)
  | .srai _ f => some (shiWord f 0x09 0x02)
  | .ldb _ f _ => some (memWord f 0x10)
  | .ldbs _ f _ => some (memWord f 0x11)
  | .ldh _ f _ => some (memWord f 0x12)
  | .ldhs _ f _ => some (memWord f 0x13)
  | .ldw _ f _ => some (memWord f 0x14)
  | .stb _ f => some (memWord f 0x15)
  | .sth _ f => some (memWord f 0x16)
  | .stw _ f => some (memWord f 0x17)
  | .ldp _ f _ => some (memWord f 0x18)
  | .stp _ f => some (memWord f 0x19)
  | .ldl _ f _ => some (memWord f 0x1A)
  | .stc _ f => some (memWord f 0x1B)
  | .flds _ f _ => some (memWord f 0x1C)
  | .fldd _ f _ => some (memWord f 0x1D)
  | .fsts _ f => some (memWord f 0x1E)
  | .fstd _ f => some (memWord f 0x1F)
  | .beq _ f => some (brcWord f 0x20)
  | .bne _ f => some (brcWord f 0x21)
  | .blt _ f => some (brcWord f 0x22)
  | .bge _ f => some (brcWord f 0x23)
  | .bltu _ f => some (brcWord f 0x24)
  | .bgeu _ f => some (brcWord f 0x25)
  | .br _ f => some (jmpWord f 0x26)
  | .call _ f => some (jmpWord f 0x27)
  | .jmpr _ f => some (immWord f 0x28)
  | .callr _ f => some (immWord f 0x29)
  | .ret _ f => some (immWord f 0x2A)
  | .rdsr _ f => some (sysWord f 0x30 0x00)
  | .wrsr _ f => some (sysWord f 0x30 0x01)
  | .rdfeat _ f => some (sysWord f 0x30 0x02)
  | .ecall _ f => some (sysWord f 0x30 0x04)
  | .dcall _ f => some (sysWord f 0x30 0x05)
  | .eret _ f => some (sysWord f 0x30 0x06)
  | .brk _ f => some (sysWord f 0x30 0x07)
  | .fenceCore _ f => some (sysWord f 0x30 0x08)
  | .fenceCluster _ f => some (sysWord f 0x30 0x09)
  | .fenceDevice _ f => some (sysWord f 0x30 0x0A)
  | .ifence _ f => some (sysWord f 0x30 0x0B)
  | .waiti _ f => some (sysWord f 0x30 0x0C)
  | .zline _ f => some (cacWord f 0x31 0x00)
  | .preload _ f => some (cacWord f 0x31 0x01)
  | .clean _ f => some (cacWord f 0x31 0x02)
  | .inval _ f => some (cacWord f 0x31 0x03)
  | .flush _ f => some (cacWord f 0x31 0x04)
  | .iinval _ f => some (cacWord f 0x31 0x05)
  | .prefetch _ f => some (cacWord f 0x31 0x06)
  | .rclean _ f => some (crgWord f 0x32 0x00)
  | .rinval _ f => some (crgWord f 0x32 0x01)
  | .rflush _ f => some (crgWord f 0x32 0x02)
  | .stakeS _ f => some (regWord f 0x33 0x00)
  | .stakeX _ f => some (regWord f 0x33 0x01)
  | .unstake _ f => some (regWord f 0x33 0x02)
  | .commit _ f => some (regWord f 0x33 0x04)
  | .abort _ f => some (regWord f 0x33 0x05)
  | .abortF _ f => some (regWord f 0x33 0x06)
  | .fadd _ d f => some (regWord f 0x34 (0x00 + d.toNat))
  | .fsub _ d f => some (regWord f 0x34 (0x02 + d.toNat))
  | .fmul _ d f => some (regWord f 0x34 (0x04 + d.toNat))
  | .fdiv _ d f => some (regWord f 0x34 (0x06 + d.toNat))
  | .fsqrt _ d f => some (regWord f 0x34 (0x08 + d.toNat))
  | .fma _ d f => some (regWord f 0x34 (0x0A + d.toNat))
  | .fmin _ d f => some (regWord f 0x34 (0x0C + d.toNat))
  | .fmax _ d f => some (regWord f 0x34 (0x0E + d.toNat))
  | .fneg _ d f => some (regWord f 0x34 (0x10 + d.toNat))
  | .fabs _ d f => some (regWord f 0x34 (0x12 + d.toNat))
  | .feq _ d f => some (regWord f 0x34 (0x14 + d.toNat))
  | .flt _ d f => some (regWord f 0x34 (0x16 + d.toNat))
  | .fle _ d f => some (regWord f 0x34 (0x18 + d.toNat))
  | .fclass _ d f => some (regWord f 0x34 (0x1A + d.toNat))
  | .fcvtSD _ f => some (regWord f 0x34 0x1C)
  | .fcvtDS _ f => some (regWord f 0x34 0x1D)
  | .fcvtW _ d f => some (regWord f 0x34 (0x1E + d.toNat))
  | .fcvtWU _ d f => some (regWord f 0x34 (0x20 + d.toNat))
  | .fcvtFW _ d f => some (regWord f 0x34 (0x22 + d.toNat))
  | .fcvtFWU _ d f => some (regWord f 0x34 (0x24 + d.toNat))
  | .fmvfi _ f => some (regWord f 0x34 0x26)
  | .fmvfih _ f => some (regWord f 0x34 0x27)
  | .fmvif _ f => some (regWord f 0x34 0x28)
  | .addp _ f => some (opsWord f 0x36 0x00)
  | .subp _ f => some (opsWord f 0x36 0x01)
  | .mulp _ f => some (opsWord f 0x36 0x02)
  | .divp _ f => some (opsWord f 0x36 0x03)
  | .cmpp _ f => some (opsWord f 0x36 0x04)
  | .cvtbp _ f => some (opsWord f 0x36 0x08)
  | .cvtpb _ f => some (opsWord f 0x36 0x09)
  | .cvtpz _ f => some (opsWord f 0x36 0x0A)
  | .cvtzp _ f => some (opsWord f 0x36 0x0B)
  | .bmov _ f => some (opsWord f 0x37 0x00)
  | .bfill _ f => some (opsWord f 0x37 0x01)
  | .cblk _ f => some (opsWord f 0x37 0x02)
  | .start _ f => some (immWord f 0x38)
  | _ => none

/-- The major opcodes that are assigned (R290). -/
def majors : List Nat :=
  (List.range 9).map (1 + ·) ++ (List.range 27).map (0x10 + ·) ++ [0x30, 0x31, 0x32, 0x33, 0x34, 0x36, 0x37, 0x38]

/-- The minor codes of a group that are assigned, and where they stand in the word; none of a major opcode without minor
codes (R290, R291). -/
def minors (major : Nat) : Option (Nat × Nat × List Nat) :=
  match major with
  | 0x01 => some (5, 0, [0x00, 0x01, 0x02, 0x03, 0x04, 0x05, 0x06, 0x08, 0x09, 0x0A, 0x0C, 0x0D, 0x10, 0x11, 0x12, 0x14, 0x15,
      0x16, 0x17, 0x20, 0x21, 0x22, 0x23])
  | 0x09 => some (1, 0, [0, 1, 2])
  | 0x30 => some (5, 0, [0x00, 0x01, 0x02, 0x04, 0x05, 0x06, 0x07, 0x08, 0x09, 0x0A, 0x0B, 0x0C])
  | 0x31 => some (25, 21, List.range 7)
  | 0x32 => some (25, 21, List.range 3)
  | 0x33 => some (5, 0, [0x00, 0x01, 0x02, 0x04, 0x05, 0x06])
  | 0x34 => some (5, 0, List.range 0x29)
  | 0x36 => some (5, 0, [0x00, 0x01, 0x02, 0x03, 0x04, 0x08, 0x09, 0x0A, 0x0B])
  | 0x37 => some (5, 0, [0x00, 0x01, 0x02])
  | _ => none

/-- Tests 1 and 2 of R293: the subcode with which a word raises ILLEGAL, MAJOR or MINOR. -/
def wordFail (w : Word) : Option Nat :=
  let major := bits w 31 26
  if major ∉ majors then some 1
  else match minors major with
    | some (hi, lo, codes) => if bits w hi lo ∈ codes then none else some 2
    | none => none

end Sys2Proof.Machine
end

