-- ==== Sys2Proof/WellFormed.lean ====
section
/-! DEFINITION. Which commands are well formed: the numbers among their operands are ones that the spec
gives the device (R24, R25, R37, R222, R230, R232, R433, R468, R491, R520, R526, R578, R608, R623).
The meanings are total: an ill-formed command has one too, and no run that follows the spec sends it. -/

namespace Sys2Proof

/-- A unit of the 96 pairs: 2 times the pair plus the core (R24). -/
def unitOk (u : Nat) : Bool := decide (u < 192)
/-- A unit of the 96 pairs, or the Steward (192). -/
def unitOrSteward (u : Nat) : Bool := decide (u ≤ 192)
/-- A pair (R25). -/
def pairOk (p : Nat) : Bool := decide (p < 96)
/-- A pair, or the Steward's (96). -/
def pairOrSteward (p : Nat) : Bool := decide (p ≤ 96)
/-- A cluster (R24). -/
def clusterOk (c : Nat) : Bool := decide (c < 12)
/-- A bank of a scratchpad (R424). -/
def bankOk (b : Nat) : Bool := decide (b < 8)
/-- An offset in a scratchpad (R424). -/
def scratchOk (off : Nat) : Bool := decide (off < 0x400000)
/-- A word of control space (R9). -/
def offOk (off : Nat) : Bool := decide (off < 0x1000000 ∧ off % 4 = 0)
/-- SYNC and HCRC of a transfer: 4 bits (R566). -/
def nibbleOk (n : Nat) : Bool := decide (n < 16)
/-- OP of a transfer: 2 bits (R566). -/
def evralOp (n : Nat) : Bool := decide (n < 4)
/-- A physical address: 46 bits (R286). -/
def paOk (pa : Nat) : Bool := decide (pa < 2 ^ 46)
/-- An Ethernet port (R188). -/
def ethOk (p : Nat) : Bool := decide (p < 2)
/-- A priority of a frame (R195). -/
def pcpOk (n : Nat) : Bool := decide (n < 8)
/-- A Weft link (R520). -/
def linkOk (l : Nat) : Bool := decide (l < 6)
/-- A device ID (R526). -/
def devOk (d : Nat) : Bool := decide (d < 1024)
/-- A device ID, where one is named. -/
def optDevOk (d : Option Nat) : Bool := d.all devOk
/-- A plot, and a namespace of stakes (R91, R222). -/
def plotOk (p : Nat) : Bool := decide (p < 4096)
/-- A queue (R230). -/
def queueOk (q : Nat) : Bool := decide (q < 1024)
/-- An event channel (R231). -/
def channelOk (n : Nat) : Bool := decide (n < 64)
/-- A stake slice (R93). -/
def sliceOk (n : Nat) : Bool := decide (n < 16)
/-- A transaction slot (R242). -/
def slotOk (n : Nat) : Bool := decide (n < 16384)
/-- A transaction slot, where one is named. -/
def optSlotOk (n : Option Nat) : Bool := n.all slotOk
/-- A source of the Gleaner (R578). -/
def sourceOk (n : Nat) : Bool := decide (n < 512)
/-- A class of fault (R16). -/
def classOk (n : Nat) : Bool := decide (n < 7)
/-- A clock domain (R37). -/
def domainOk (n : Nat) : Bool := decide (n < 40)
/-- A supply rail (R608). -/
def railOk (n : Nat) : Bool := decide (n < 8)
/-- A tamper sensor (R563). -/
def tamperOk (n : Nat) : Bool := decide (n < 4)
/-- A temperature sensor (R623). -/
def tempOk (n : Nat) : Bool := decide (n < 16)
/-- A reading of a temperature sensor (R623). -/
def tempValue (n : Nat) : Bool := decide (n < 1024)
/-- A microword of a control store (R334). -/
def microOk (n : Nat) : Bool := decide (n < 8192)
/-- A stop of Warp (R433). -/
def stopOk (n : Nat) : Bool := decide (n < 32)
/-- A link of Warp, as WRP_LINKDOWN numbers them (R434, R453). -/
def warpLinkOk (n : Nat) : Bool := decide (n < 30)
/-- A Thresher engine (R455). -/
def thrEngine (n : Nat) : Bool := decide (n < 8)
/-- A cipher engine (R468). -/
def cphEngine (n : Nat) : Bool := decide (n < 16)
/-- A path of Furrow (R491). -/
def pathOk_ (n : Nat) : Bool := decide (n < 1024)
/-- An epoch number: 64 bits (R51). -/
def epochOk (n : Nat) : Bool := decide (n < 2 ^ 64)
/-- An offset in the live region (R530). -/
def regionOk (n : Nat) : Bool := decide (n < 2 ^ 46)
def byteOk (n : Nat) : Bool := decide (n < 256)
def word16 (n : Nat) : Bool := decide (n < 2 ^ 16)
def word32 (n : Nat) : Bool := decide (n < 2 ^ 32)
def word64 (n : Nat) : Bool := decide (n < 2 ^ 64)
/-- The address and port of a peer (R202). -/
def peerOk (p : Peer) : Bool := decide (p.addr.length = 16) && word16 p.port
/-- A session's plot and its queue or channel (R202). -/
def sessOk (r : SessRef) : Bool := plotOk r.plot && (if r.event then channelOk r.number else queueOk r.number)
/-- A bucket of a probe window, where one is named (R94, R122). -/
def windowOk (b : Option Nat) : Bool := b.all fun n => decide (n < 8)
/-- A transaction as a slice knows it (R95, R104). -/
def partyOk (p : Party) : Bool := devOk p.dev && slotOk p.slot && word64 p.stamp
/-- The group of a mismatch (R357) and the core of a parity error. -/
def errorOk (e : PairError) : Bool :=
  match e with
  | .mismatch g => decide (g < 64)
  | .coreParity c => decide (c < 2)
  | .delayParity | .selfCheck | .storeBuffer => true
/-- The access of a unit that a Warp request was. -/
def accessOk (a : Option UnitAccess) : Bool := a.all fun x => unitOk x.unit && decide (x.sp < 4) && word32 x.ea

/-- A message about a stake, from a device. -/
def stakeMsgOk (m : StakeMsg) : Bool := devOk m.dev && partyOk m.who

/-- The fields of an Evral header fit their bits. -/
def evralHeadOk (h : EvralHead) : Bool := evralOp h.oper && word16 h.addr && nibbleOk h.hcrc

/-- The operands of a command are ones that the spec gives the device. -/
def Instr.wf (i : Instr) : Bool :=
  match i with
  | .registerWrite _ off _ => offOk off
  | .regPairLoRead _ off => offOk off
  | .regPairHiRead _ off => offOk off
  | .regPairLoWrite _ off _ => offOk off
  | .regPairHiWrite _ off _ => offOk off
  | .resourceTake _ => true
  | .tickInEdge _ => true
  | .tickSymbol _ link carried => linkOk link && word64 carried
  | .tick _ => true
  | .tickWindowClose _ => true
  | .tickOutEnd _ => true
  | .reservationWritten => true
  | .closeMarker pair => pairOk pair
  | .sealWritebackDone cluster => clusterOk cluster
  | .sealHashDone _ => true
  | .sealMacDone _ _ => true
  | .sheafAck _ link epoch => linkOk link && epochOk epoch
  | .sealFailLimit _ => true
  | .rollbackRestoreDone => true
  | .budgetExpire _ unit => unitOk unit
  | .linkDelayMeasure _ => true
  | .asyncInputAtBoundary unit => unitOrSteward unit
  | .sliceRequest slice ue => sliceOk slice && windowOk ue
  | .sliceRelease slice ue => sliceOk slice && windowOk ue
  | .stakeGrant slot => slotOk slot
  | .woundPresent slot => slotOk slot
  | .remoteStakeTimeout _ unit => unitOk unit
  | .stkClear _ _ => true
  | .stakeTableCleared => true
  | .captureAccept _ => true
  | .sheafRetainExpire _ => true
  | .jnlInit _ _ => true
  | .jnlReady => true
  | .requestIndexLookup plot queue _ => plotOk plot && queueOk queue
  | .sheafKeyDerive _ => true
  | .sheaf link _ _ => linkOk link
  | .sealCompleteNotice epoch _ _ => epochOk epoch
  | .sheafApplyDone => true
  | .rollbackNotice first second => epochOk first && epochOk second
  | .handbackNotice epoch => epochOk epoch
  | .heartbeat _ link _ => linkOk link
  | .juniorDelayExpire _ => true
  | .takeoverStepADone _ _ => true
  | .takeoverStepBDone _ _ => true
  | .leasewaitExpire _ => true
  | .adoptComplete => true
  | .addressAnnounce _ plot => plotOk plot
  | .leaseEnd _ => true
  | .reservationReportDone _ _ holder => optDevOk holder
  | .descMirrorConfirm _ => true
  | .descMirrorTimeout _ _ => true
  | .rebuildChunkRead => true
  | .rebuild _ _ _ => true
  | .holdoffExpire _ => true
  | .returnNow _ => true
  | .frameReceive _ port _ _ _ _ => ethOk port
  | .macControlFrame _ port _ => ethOk port
  | .tsinfoRead _ port => ethOk port
  | .tsHiRead _ port => ethOk port
  | .swathOpen _ port pcp peer _ => ethOk port && pcpOk pcp && peerOk peer
  | .swathCmd _ port pcp peer _ => ethOk port && pcpOk pcp && peerOk peer
  | .swathAck _ port pcp peer _ => ethOk port && pcpOk pcp && peerOk peer
  | .swathClose _ port pcp peer _ => ethOk port && pcpOk pcp && peerOk peer
  | .ackDelayExpire _ ref => sessOk ref
  | .windowAckRepeat _ ref => sessOk ref
  | .retransmitTimeout _ ref => sessOk ref
  | .coalesceTimeout _ ref => sessOk ref
  | .heldPacketExpire _ ref => sessOk ref
  | .heldCompletionExpire _ plot channel => plotOk plot && channelOk channel
  | .portLinkDown port => ethOk port
  | .dispatch _ unit => unitOk unit
  | .commandHandoff plot queue => plotOk plot && queueOk queue
  | .plotResetDrainDone plot => plotOk plot
  | .pltInit _ _ => true
  | .pltReady => true
  | .sowPairWrite _ pair _ => pairOk pair
  | .txnSubmit plot queue _ => plotOk plot && queueOk queue
  | .nop plot queue => plotOk plot && queueOk queue
  | .contCmd plot queue => plotOk plot && queueOk queue
  | .getInfo plot queue => plotOk plot && queueOk queue
  | .plotCreate plot queue => plotOk plot && queueOk queue
  | .plotDestroy plot queue => plotOk plot && queueOk queue
  | .plotReset plot queue => plotOk plot && queueOk queue
  | .plotSetShare plot queue => plotOk plot && queueOk queue
  | .plotSetAddr plot queue => plotOk plot && queueOk queue
  | .plotGet plot queue => plotOk plot && queueOk queue
  | .spaceSet plot queue => plotOk plot && queueOk queue
  | .queueCreate plot queue => plotOk plot && queueOk queue
  | .queueDestroy plot queue => plotOk plot && queueOk queue
  | .queueGet plot queue => plotOk plot && queueOk queue
  | .libLoad plot queue => plotOk plot && queueOk queue
  | .libSetEntry plot queue => plotOk plot && queueOk queue
  | .execLoad plot queue => plotOk plot && queueOk queue
  | .regRead plot queue => plotOk plot && queueOk queue
  | .regWrite plot queue => plotOk plot && queueOk queue
  | .getBootRecord plot queue => plotOk plot && queueOk queue
  | .attest plot queue => plotOk plot && queueOk queue
  | .almanacRead plot queue => plotOk plot && queueOk queue
  | .gleanerRead plot queue => plotOk plot && queueOk queue
  | .gleanerClear plot queue => plotOk plot && queueOk queue
  | .twinPair plot queue _ => plotOk plot && queueOk queue
  | .twinUnpair plot queue => plotOk plot && queueOk queue
  | .twinReturn plot queue => plotOk plot && queueOk queue
  | .twinStatus plot queue => plotOk plot && queueOk queue
  | .pairSplit plot queue => plotOk plot && queueOk queue
  | .pairRejoin plot queue => plotOk plot && queueOk queue
  | .pairReserve plot queue => plotOk plot && queueOk queue
  | .spareSet plot queue => plotOk plot && queueOk queue
  | .keyUnwrap plot queue => plotOk plot && queueOk queue
  | .keyErase plot queue => plotOk plot && queueOk queue
  | .macsecSaSet plot queue => plotOk plot && queueOk queue
  | .macsecSaClear plot queue => plotOk plot && queueOk queue
  | .pathSet plot queue => plotOk plot && queueOk queue
  | .pathGet plot queue => plotOk plot && queueOk queue
  | .lifecycleReq plot queue => plotOk plot && queueOk queue
  | .lifecycleReset => true
  | .debugAuth plot queue => plotOk plot && queueOk queue
  | .tickSet plot queue => plotOk plot && queueOk queue
  | .add u _ => unitOk u
  | .sub u _ => unitOk u
  | .andd u _ => unitOk u
  | .orr u _ => unitOk u
  | .xorr u _ => unitOk u
  | .andn u _ => unitOk u
  | .nor u _ => unitOk u
  | .sll u _ => unitOk u
  | .srl u _ => unitOk u
  | .sra u _ => unitOk u
  | .slt u _ => unitOk u
  | .sltu u _ => unitOk u
  | .mul u _ => unitOk u
  | .mulh u _ => unitOk u
  | .mulhu u _ => unitOk u
  | .div u _ => unitOk u
  | .divu u _ => unitOk u
  | .rem u _ => unitOk u
  | .remu u _ => unitOk u
  | .clz u _ => unitOk u
  | .ctz u _ => unitOk u
  | .popc u _ => unitOk u
  | .bswap u _ => unitOk u
  | .addi u _ => unitOk u
  | .andi u _ => unitOk u
  | .ori u _ => unitOk u
  | .xori u _ => unitOk u
  | .slti u _ => unitOk u
  | .sltiu u _ => unitOk u
  | .lui u _ => unitOk u
  | .slli u _ => unitOk u
  | .srli u _ => unitOk u
  | .srai u _ => unitOk u
  | .ldb u _ _ => unitOk u
  | .ldbs u _ _ => unitOk u
  | .ldh u _ _ => unitOk u
  | .ldhs u _ _ => unitOk u
  | .ldw u _ _ => unitOk u
  | .stb u _ => unitOk u
  | .sth u _ => unitOk u
  | .stw u _ => unitOk u
  | .ldp u _ _ => unitOk u
  | .stp u _ => unitOk u
  | .ldl u _ _ => unitOk u
  | .stc u _ => unitOk u
  | .flds u _ _ => unitOk u
  | .fldd u _ _ => unitOk u
  | .fsts u _ => unitOk u
  | .fstd u _ => unitOk u
  | .beq u _ => unitOk u
  | .bne u _ => unitOk u
  | .blt u _ => unitOk u
  | .bge u _ => unitOk u
  | .bltu u _ => unitOk u
  | .bgeu u _ => unitOk u
  | .br u _ => unitOk u
  | .call u _ => unitOk u
  | .jmpr u _ => unitOk u
  | .callr u _ => unitOk u
  | .ret u _ => unitOk u
  | .rdsr u _ => unitOk u
  | .wrsr u _ => unitOk u
  | .rdfeat u _ => unitOk u
  | .ecall u _ => unitOk u
  | .dcall u _ => unitOk u
  | .eret u _ => unitOk u
  | .brk u _ => unitOk u
  | .fenceCore u _ => unitOk u
  | .fenceCluster u _ => unitOk u
  | .fenceDevice u _ => unitOk u
  | .fenceComplete u _ => unitOk u
  | .ifence u _ => unitOk u
  | .waiti u _ => unitOk u
  | .zline u _ => unitOk u
  | .preload u _ => unitOk u
  | .clean u _ => unitOk u
  | .inval u _ => unitOk u
  | .flush u _ => unitOk u
  | .iinval u _ => unitOk u
  | .prefetch u _ => unitOk u
  | .rclean u _ => unitOk u
  | .rinval u _ => unitOk u
  | .rflush u _ => unitOk u
  | .stakeS u _ => unitOk u
  | .stakeX u _ => unitOk u
  | .unstake u _ => unitOk u
  | .commit u _ => unitOk u
  | .abort u _ => unitOk u
  | .abortF u _ => unitOk u
  | .fadd u _ _ => unitOk u
  | .fsub u _ _ => unitOk u
  | .fmul u _ _ => unitOk u
  | .fdiv u _ _ => unitOk u
  | .fsqrt u _ _ => unitOk u
  | .fma u _ _ => unitOk u
  | .fmin u _ _ => unitOk u
  | .fmax u _ _ => unitOk u
  | .fneg u _ _ => unitOk u
  | .fabs u _ _ => unitOk u
  | .feq u _ _ => unitOk u
  | .flt u _ _ => unitOk u
  | .fle u _ _ => unitOk u
  | .fclass u _ _ => unitOk u
  | .fcvtSD u _ => unitOk u
  | .fcvtDS u _ => unitOk u
  | .fcvtW u _ _ => unitOk u
  | .fcvtWU u _ _ => unitOk u
  | .fcvtFW u _ _ => unitOk u
  | .fcvtFWU u _ _ => unitOk u
  | .fmvfi u _ => unitOk u
  | .fmvfih u _ => unitOk u
  | .fmvif u _ => unitOk u
  | .addp u _ => unitOk u
  | .subp u _ => unitOk u
  | .mulp u _ => unitOk u
  | .divp u _ => unitOk u
  | .cmpp u _ => unitOk u
  | .cvtbp u _ => unitOk u
  | .cvtpb u _ => unitOk u
  | .cvtpz u _ => unitOk u
  | .cvtzp u _ => unitOk u
  | .bmov u _ => unitOk u
  | .bfill u _ => unitOk u
  | .cblk u _ => unitOk u
  | .start u _ => unitOk u
  | .ucClear _ pair => pairOk pair
  | .ucWordCommit _ pair _ => pairOk pair
  | .ucLock _ pair => pairOk pair
  | .ucUnlock _ pair => pairOk pair
  | .ucScrub pair addr _ => pairOk pair && microOk addr
  | .instructionRetry pair e => pairOrSteward pair && errorOk e
  | .spareResume _ pair => pairOk pair
  | .leaderDrainTimeout _ pair => pairOk pair
  | .splitCoreParity u => unitOk u
  | .storeDrain u _ _ => unitOk u
  | .cacheFill cluster pa _ _ => clusterOk cluster && paOk pa
  | .l2Scrub cluster pa _ => clusterOk cluster && paOk pa
  | .scratchpadScrub cluster off _ => clusterOk cluster && scratchOk off
  | .scratchpadRetention _ cluster _ _ => clusterOk cluster
  | .bankWakeDone cluster bank => clusterOk cluster && bankOk bank
  | .strongroomWipeDone cluster => clusterOk cluster
  | .warpLinkReplay link _ => warpLinkOk link
  | .warpTimeout _ ini target addr acc => stopOk ini && stopOk target && paOk addr && accessOk acc
  | .warpLateResponse _ => true
  | .warpIsolate stop => stopOk stop
  | .routeFlip _ => true
  | .routeCopy _ => true
  | .routeDrainDone => true
  | .thrSubmit _ addr => word64 addr
  | .thrEnable _ _ => true
  | .thresherJobStart _ engine => thrEngine engine
  | .compress _ engine _ _ => thrEngine engine
  | .decompress _ engine _ => thrEngine engine
  | .thresherParity _ engine => thrEngine engine
  | .cphSubmit _ addr => word64 addr
  | .lockAcquire _ engine => cphEngine engine
  | .lockRelease _ engine => cphEngine engine
  | .gcmEnc _ _ => true
  | .gcmDec _ _ => true
  | .xtsEnc _ _ => true
  | .xtsDec _ _ => true
  | .cmacGen _ _ => true
  | .cmacVer _ _ => true
  | .sha384 _ _ => true
  | .sha512 _ _ => true
  | .hmac384 _ _ => true
  | .hmac512 _ _ => true
  | .derive _ _ => true
  | .unwrap _ _ => true
  | .sign _ _ => true
  | .verify _ _ => true
  | .pubkey _ _ => true
  | .frwSubmit _ addr => word64 addr
  | .channelRecordAck _ => true
  | .channelRead _ => true
  | .channelWrite _ => true
  | .channelFlush _ => true
  | .peerRead _ => true
  | .peerWrite _ => true
  | .hostSend _ => true
  | .thresh _ => true
  | .cipher _ => true
  | .engAcquire _ => true
  | .engRelease _ => true
  | .nvmeCompletion _ _ status _ => word16 status
  | .destageExtent _ => true
  | .ploughChunk _ => true
  | .pathFail _ path => pathOk_ path
  | .keepAlive _ path => pathOk_ path
  | .pathReconnect _ path => pathOk_ path
  | .pathReady _ path => pathOk_ path
  | .furrowLateCompletion _ => true
  | .pathwaitExpire _ _ => true
  | .cnpReceive _ path => pathOk_ path
  | .weftLinkAligned link => linkOk link
  | .linkFlit link peer peerLink _ => linkOk link && devOk peer && linkOk peerLink
  | .weftLinkFail _ link => linkOk link
  | .weftRetrain _ link => linkOk link
  | .weftReplay link _ => linkOk link
  | .weftFrameForward link _ => linkOk link
  | .stateFrame _ => true
  | .stakeReq dev who ns key _ _ => devOk dev && partyOk who && plotOk ns && word64 key
  | .stakeRsp _ m ns key code => stakeMsgOk m && plotOk ns && word64 key && byteOk code
  | .stakeFwd m ns key _ => stakeMsgOk m && plotOk ns && word64 key
  | .recRead dev _ plot slot off _ => devOk dev && plotOk plot && optSlotOk slot && regionOk off
  | .recWrite dev _ plot slot off _ => devOk dev && plotOk plot && optSlotOk slot && regionOk off
  | .recRsp _ _ _ epoch => epochOk epoch
  | .spanNotice dev slot _ => devOk dev && slotOk slot
  | .spanAccept dev slot epoch _ => devOk dev && slotOk slot && epochOk epoch
  | .spanAcceptTimeout _ slot => slotOk slot
  | .vote _ dev epoch _ _ => devOk dev && epochOk epoch
  | .probeSend _ dev => devOk dev
  | .probe _ dev => devOk dev
  | .probeRsp _ dev => devOk dev
  | .deviceLost _ dev => devOk dev
  | .peerReq dev _ _ _ => devOk dev
  | .peerRsp _ _ status _ => word16 status
  | .powerOnReset => true
  | .resetNAssert _ => true
  | .resetNRelease _ => true
  | .softwareReset _ _ => true
  | .bootStage _ => true
  | .tamperEvent sensor => tamperOk sensor
  | .evralTransfer sync head _ dcrc => nibbleOk sync && evralHeadOk head && byteOk dcrc
  | .authCommit _ => true
  | .authClear _ => true
  | .authCheckDone => true
  | .debugHalt _ _ => true
  | .resume _ _ => true
  | .step _ _ => true
  | .dbgRdataAccess _ _ _ => true
  | .dbgMdataRead _ => true
  | .dbgMdataWrite _ _ => true
  | .gleanerEvent source cls detail => sourceOk source && classOk cls && word32 detail
  | .gleanerSelfParity _ => true
  | .glnClear _ _ => true
  | .glnRec0Read _ => true
  | .almanacEarlyGather => true
  | .almanacInterval _ => true
  | .almanacSnap _ => true
  | .snapshotWriteDone _ _ => true
  | .almWindow0Read _ => true
  | .almWindow63Read _ => true
  | .railSample rail _ => railOk rail
  | .railExcursion rail _ => railOk rail
  | .tempSample _ sensor value => tempOk sensor && tempValue value
  | .clockMonitorTrip domain => domainOk domain
  | .clusterPowerDown _ _ => true
  | .clusterPowerDownDone cluster => clusterOk cluster
  | .clusterPowerUp _ _ => true
  | .clusterPowerUpDone cluster => clusterOk cluster
  | .cclkChange _ cluster _ => clusterOk cluster
  | .cclkStep cluster => clusterOk cluster
  | .wdogEnable _ _ => true
  | .wdogKick _ _ => true
  | .wdogExpire _ => true
  | .ppsOut _ _ => true
  | .tickSymbolSend _ => true
  | .portLinkUp port => ethOk port
  | .pfcPauseExpire _ port pcp => ethOk port && pcpOk pcp
  | .coreClockBranchLoss pair => pairOk pair
  | .failedPathWriteHoldExpire _ path => pathOk_ path
  | .weftFlitError link _ => linkOk link
  | .porstNAssert => true

end Sys2Proof
end

