-- ==== Sys2Proof/Safety.lean ====
section
/-! DEFINITION. What counts as a sound state and a safe run, and the terms in which the statements speak of the
frame of a command. -/

namespace Sys2Proof.Machine

open Sys2Proof

/-- Every sparse map of the state is in its canonical form: control space, memory, units, pairs, clusters. -/
def State.canonical (s : State) : Bool :=
  s.mem.wf && swf regReset s.ctl.regs && swf (fun _ => CoreUnit.reset) s.units &&
  swf (fun _ => Pair.reset) s.pairs && swf (fun _ => Cluster.reset) s.clusters

/-- The device has power, is in no reset, and is not in device safe state (R588, R619). -/
def State.serving (s : State) : Bool := !s.held && !s.safe

/-- A unit executes the instruction at its PC: it runs and nothing comes first (R298, R569, R588), no fetch
breakpoint matches (R571) and the fetch does not fail (R284, R287, R294). -/
def State.fetches (s : State) (u : Nat) : Bool :=
  s.ready u &&
  decide ((s.pair (pairOf u)).fetchHits ((s.unit u).arch.sr.ispc.toNat % 2 ^ 20) (s.unit u).arch.pc = 0) &&
  (s.fetchFail u).isNone

/-- What an instruction of unit u leaves alone when it touches no memory and no other block: the architected
state of every other unit, every byte of memory, every control register but the retry count of the unit's
pair, and every other part of the state. -/
structure OnlyUnit (s t : State) (u : Nat) : Prop where
  arch     : ∀ v, v ≠ u → (t.unit v).arch = (s.unit v).arch
  regs     : ∀ off, off ≠ pairReg Reg.CLS_PAIRSTAT (pairOf u) → t.reg off = s.reg off
  pairs    : ∀ p, p ≠ pairOf u → t.pair p = s.pair p
  mem      : t.mem = s.mem
  clusters : t.clusters = s.clusters
  gleaner  : t.gleaner = s.gleaner
  almanac  : t.almanac = s.almanac
  tick     : t.tick = s.tick
  stakes   : t.stakes = s.stakes
  journal  : t.journal = s.journal
  twin     : t.twin = s.twin
  eth      : t.eth = s.eth
  plots    : t.plots = s.plots
  sower    : t.sower = s.sower
  steward  : t.steward = s.steward
  warp     : t.warp = s.warp
  thresher : t.thresher = s.thresher
  cipher   : t.cipher = s.cipher
  furrow   : t.furrow = s.furrow
  weft     : t.weft = s.weft
  fuses    : t.fuses = s.fuses
  mram     : t.mram = s.mram
  evral    : t.evral = s.evral
  boot     : t.boot = s.boot
  power    : t.power = s.power
  out      : t.out = s.out
  time     : t.time = s.time
  fresh    : t.fresh = s.fresh
  pending  : t.pending = s.pending

/-- An instruction of unit u retires: its architected state becomes `a` with the PC given and PCF clear (R344),
and nothing else changes but what retirement itself changes. -/
structure Retires (s t : State) (u : Nat) (a : Arch) (pc : Word) : Prop where
  arch  : (t.unit u).arch = { a.setPcf false with pc := pc }
  count : (t.unit u).retired = (s.unit u).retired + 1
  frame : OnlyUnit s t u

/-- What a load of unit u leaves alone: the architected state of every other unit, memory, every store on its way in
other units, pairs and clusters, every valid line, every control register but the retry count of the unit's pair, and
every block but Warp's and Weft's requests. -/
structure LoadFrame (s t : State) (u : Nat) : Prop where
  arch     : ∀ v, v ≠ u → (t.unit v).arch = (s.unit v).arch
  stores   : ∀ v, (t.unit v).stores = (s.unit v).stores
  regs     : ∀ off, off ≠ pairReg Reg.CLS_PAIRSTAT (pairOf u) → t.reg off = s.reg off
  pairs    : ∀ p, (t.pair p).stores = (s.pair p).stores
  lines    : ∀ c, (t.cluster c).lines = (s.cluster c).lines ∧ (t.cluster c).stores = (s.cluster c).stores
  mem      : t.mem = s.mem
  gleaner  : t.gleaner = s.gleaner
  stakes   : t.stakes = s.stakes
  journal  : t.journal = s.journal
  tick     : t.tick = s.tick
  twin     : t.twin = s.twin
  plots    : t.plots = s.plots
  sower    : t.sower = s.sower
  furrow   : t.furrow = s.furrow
  cipher   : t.cipher = s.cipher
  fuses    : t.fuses = s.fuses
  mram     : t.mram = s.mram
  out      : t.out = s.out
  pending  : t.pending = s.pending

/-- A unit sees bytes at an address that it has stored, and sees every other byte as before; memory itself has not
changed: the stores are on their way (R386, R389). -/
structure Stores (s t : State) (u pa : Nat) (data : List Byte) : Prop where
  seen   : ∀ i (h : i < data.length), t.seenByte u (pa + i) = data[i]
  others : ∀ a, (a < pa ∨ pa + data.length ≤ a) → t.seenByte u a = s.seenByte u a
  cells  : ∀ a, t.byte a = s.byte a
  arch   : ∀ v, v ≠ u → (t.unit v).arch = (s.unit v).arch

end Sys2Proof.Machine
end

