-- ==== Sys2Proof/Certificates/Slice0/Obligations.lean ====
section
/-! DEFINITION. The statements for the provers. Each says what the spec's rules say of the commands that it names, for
every state and every operand that meet its hypotheses; `∃ t, exec c s = .next t ∧ …` says that the command completes
with the effect that follows. -/

open Sys2Proof Sys2Proof.Machine

namespace Sys2Proof.Stated

/-! ## Words of the statements -/

/-- A command completes in a state that a predicate admits. -/
def Ends (c : Instr) (s : State) (p : State → Prop) : Prop := ∃ t, exec c s = .next t ∧ p t

/-- The architected state of a unit. -/
abbrev archOf (s : State) (u : Nat) : Arch := (s.unit u).arch

/-- The address after the instruction at a unit's PC. -/
def pcNext (s : State) (u : Nat) : Word := (archOf s u).pc + 4

/-- The address of a branch or jump: a displacement of words from the PC (R289). -/
def pcPlus (s : State) (u : Nat) (words : Int) : Word := (archOf s u).pc + BitVec.ofInt 32 (4 * words)

/-! ## The integer instructions (R274, R289 to R291, R306 to R309) -/

/-- The functions of two registers, by instruction. -/
def aluRows : List ((Nat → RegF → Instr) × (Word → Word → Word)) :=
  [(.add, fun a b => a + b), (.sub, fun a b => a - b), (.andd, fun a b => a &&& b), (.orr, fun a b => a ||| b),
   (.xorr, fun a b => a ^^^ b), (.andn, fun a b => a &&& ~~~b), (.nor, fun a b => ~~~(a ||| b)),
   (.sll, fun a b => a <<< (b.toNat % 32)), (.srl, fun a b => a >>> (b.toNat % 32)),
   (.sra, fun a b => a.sshiftRight (b.toNat % 32)),
   (.slt, fun a b => if a.toInt < b.toInt then 1 else 0), (.sltu, fun a b => if a.toNat < b.toNat then 1 else 0),
   (.mul, fun a b => BitVec.ofInt 32 (a.toInt * b.toInt)),
   (.mulh, fun a b => BitVec.ofInt 32 (a.toInt * b.toInt / 2 ^ 32)),
   (.mulhu, fun a b => BitVec.ofNat 32 (a.toNat * b.toNat / 2 ^ 32)),
   (.div, fun a b => if b = 0 then 0xFFFFFFFF#32 else BitVec.ofInt 32 (a.toInt.tdiv b.toInt)),
   (.divu, fun a b => if b = 0 then 0xFFFFFFFF#32 else BitVec.ofNat 32 (a.toNat / b.toNat)),
   (.rem, fun a b => if b = 0 then a else BitVec.ofInt 32 (a.toInt.tmod b.toInt)),
   (.remu, fun a b => if b = 0 then a else BitVec.ofNat 32 (a.toNat % b.toNat))]

/-- The functions of one register. -/
def aluRows1 : List ((Nat → RegF → Instr) × (Word → Word)) :=
  [(.clz, leadZeros), (.ctz, trailZeros), (.popc, popCount), (.bswap, byteSwap)]

/-- The functions of a register and an immediate, which is sign-extended but for ANDI, ORI and XORI. -/
def aluRowsI : List ((Nat → ImmF → Instr) × (Word → BitVec 16 → Word)) :=
  [(.addi, fun a i => a + i.signExtend 32), (.andi, fun a i => a &&& i.zeroExtend 32),
   (.ori, fun a i => a ||| i.zeroExtend 32), (.xori, fun a i => a ^^^ i.zeroExtend 32),
   (.slti, fun a i => if a.toInt < i.toInt then 1 else 0),
   (.sltiu, fun a i => if a.toNat < (i.signExtend 32).toNat then 1 else 0)]

/-- The shifts by a constant. -/
def shiftImmRows : List ((Nat → ShiF → Instr) × (Word → Nat → Word)) :=
  [(.slli, fun a n => a <<< n), (.srli, fun a n => a >>> n), (.srai, fun a n => a.sshiftRight n)]

/-! ## Registers (R274, R275) -/

/-- A register file of the sizes of R274 and R275: eight words in each part, one window at least. -/
def sized (a : Arch) : Prop :=
  a.k.length = 8 ∧ a.win.incoming.length = 8 ∧ a.win.top.v.length = 8 ∧ a.win.top.n.length = 8 ∧
  a.win.frames ≠ [] ∧ a.f.length = 32

end Sys2Proof.Stated

open Sys2Proof.Stated

/-! ## The queue of commands -/

/-- A step takes the command at the front of the queue and runs it on the state with the queue's rest. -/
def Obligations.StepRunsTheFrontCommand : Prop :=
  ∀ (c : Instr) (rest : List Instr) (s : State), s.pending = c :: rest → step s = exec c { s with pending := rest }

/-- On an empty queue a step idles for one nanosecond of the always-on clock; where a receive buffer was last seen filled,
it drains, and what its port has paused goes on (R195); nothing else changes (log entries 1 and 137, the model's choice). -/
def Obligations.EmptyQueueIdles : Prop :=
  ∀ s : State, s.pending = [] → ∃ t, step s = .next t ∧
    t.time = s.time + 1 ∧ t = { s with time := t.time, eth := t.eth, ctl := t.ctl, out := t.out } ∧
    ((s.port 0).free = [] → (s.port 1).free = [] → t.out = s.out ∧ t.ctl = s.ctl) ∧
    ∀ p, p < 2 → (t.port p).free = [] ∧ ∀ q n, (q, n) ∈ (s.port p).free → q < 8 → t.bit (portReg Reg.ETH_PSTAT p) (8 + q) = false

/-! ## Integer registers -/

/-- A write of an integer register is read back; K0 reads zero and a write of it is discarded; no other register changes;
no floating-point register, no special register and not the PC changes (R274). -/
def Obligations.IntegerRegisterWriteReads : Prop :=
  ∀ (a : Arch) (r : BitVec 5) (v : Word), sized a →
    (a.setReg r v).reg r = (if r = 0 then 0 else v) ∧ (∀ q, q ≠ r → (a.setReg r v).reg q = a.reg q) ∧
    (a.setReg r v).f = a.f ∧ (a.setReg r v).sr = a.sr ∧ (a.setReg r v).pc = a.pc ∧ sized (a.setReg r v)

/-- A floating-point register is 64 bits wide: a binary64 value is all of them; a binary32 operand is bits [31:0], whatever
the others are, and a binary32 result goes to bits [31:0] with bits [63:32] zero; no other register changes, and the
registers stay where the window moves (R275). -/
def Obligations.FloatingPointRegisters : Prop :=
  ∀ (a : Arch) (r : BitVec 5) (v : DWord) (x : Nat), sized a →
    (a.setF r v).freg r = v ∧ (a.setF r v).fp true r = v.toNat ∧ (a.setF r v).fp false r = v.toNat % 2 ^ 32 ∧
    ((a.setF32 r x).freg r).toNat = x % 2 ^ 32 ∧
    (∀ y : FpRes, ((a.putFp true r y).freg r).toNat = y.bits % 2 ^ 64 ∧ ((a.putFp false r y).freg r).toNat = y.bits % 2 ^ 32) ∧
    (∀ q, q ≠ r → (a.setF r v).freg q = a.freg q ∧ (a.setF32 r x).freg q = a.freg q) ∧
    (∀ q, (a.setF r v).reg q = a.reg q) ∧ (a.setF r v).sr = a.sr ∧ (a.setF r v).pc = a.pc ∧
    ∀ (y : Option Word) (q : BitVec 5), Arch.freg { a with win := a.win.push y } q = a.freg q ∧
      Arch.freg { a with win := a.win.pop } q = a.freg q

/-! ## The ALU group and the immediates -/

/-- Each instruction of the ALU group writes its function of ra (and rb) to rd, retires at the next PC, and changes
nothing else. CLZ, CTZ, POPC and BSWAP compute what R309 says: the zeros above the highest set bit and below the
lowest (32 for zero), the bits set, the bytes in reverse. Each immediate form writes its function of ra and IMM16 to
rd; LUI writes IMM16 to the high half and zero to the low; the shifts shift by SHAMT; each retires at the next PC and
changes nothing else. -/
def Obligations.IntegerArithmetic : Prop :=
  (∀ (s : State) (u : Nat) (f : RegF), s.fetches u = true → f.fc = 0 →
     (∀ r ∈ aluRows, Ends (r.1 u f) s fun t =>
       Retires s t u ((archOf s u).setReg f.rd (r.2 ((archOf s u).reg f.ra) ((archOf s u).reg f.rb))) (pcNext s u)) ∧
     (f.rb = 0 → ∀ r ∈ aluRows1, Ends (r.1 u f) s fun t =>
       Retires s t u ((archOf s u).setReg f.rd (r.2 ((archOf s u).reg f.ra))) (pcNext s u))) ∧
  (leadZeros 0 = 32 ∧ trailZeros 0 = 32 ∧
   (∀ a : Word, a ≠ 0 → (leadZeros a).toNat < 32 ∧ a.getLsbD (31 - (leadZeros a).toNat) = true ∧
     ∀ i, 31 - (leadZeros a).toNat < i → a.getLsbD i = false) ∧
   (∀ a : Word, a ≠ 0 → (trailZeros a).toNat < 32 ∧ a.getLsbD (trailZeros a).toNat = true ∧
     ∀ i, i < (trailZeros a).toNat → a.getLsbD i = false) ∧
   (∀ a : Word, (popCount a).toNat = ((List.range 32).map fun i => (a.getLsbD i).toNat).sum) ∧
   ∀ (a : Word) (k i : Nat), k < 4 → i < 8 → (byteSwap a).getLsbD (8 * k + i) = a.getLsbD (8 * (3 - k) + i)) ∧
  (∀ (s : State) (u : Nat), s.fetches u = true →
     (∀ (f : ImmF), (∀ r ∈ aluRowsI, Ends (r.1 u f) s fun t =>
         Retires s t u ((archOf s u).setReg f.rd (r.2 ((archOf s u).reg f.ra) f.imm)) (pcNext s u)) ∧
       (f.ra = 0 → Ends (.lui u f) s fun t => Retires s t u ((archOf s u).setReg f.rd (f.imm ++ 0#16)) (pcNext s u))) ∧
     ∀ (f : ShiF), f.rsv = 0 → ∀ r ∈ shiftImmRows, Ends (r.1 u f) s fun t =>
       Retires s t u ((archOf s u).setReg f.rd (r.2 ((archOf s u).reg f.ra) f.shamt.toNat)) (pcNext s u))

/-! ## Floating point (R275, R291, R315 to R328) -/

namespace Sys2Proof.Stated

/-- The functions of two operands. -/
def fpRows2 : List ((Nat → Bool → RegF → Instr) × (FpFmt → Round → Nat → Nat → FpRes)) :=
  [(.fadd, fpAdd), (.fsub, fpSub), (.fmul, fpMul), (.fdiv, fpDiv), (.fmin, fun m _ a b => fpMinMax false m a b),
   (.fmax, fun m _ a b => fpMinMax true m a b)]

/-- The functions of one operand. -/
def fpRows1 : List ((Nat → Bool → RegF → Instr) × (FpFmt → Round → Nat → FpRes)) :=
  [(.fsqrt, fpSqrt), (.fneg, fun m _ a => ⟨fpNeg m a, 0⟩), (.fabs, fun m _ a => ⟨fpAbs m a, 0⟩)]

/-- The comparisons. -/
def fpRowsCmp : List ((Nat → Bool → RegF → Instr) × (FpFmt → Nat → Nat → FpRes)) :=
  [(.feq, fpEq), (.flt, fpLt), (.fle, fpLe)]

/-- The functions of one operand that write an integer register: value and flags. -/
def fpRowsInt : List ((Nat → Bool → RegF → Instr) × (FpFmt → Round → Nat → Int × Nat)) :=
  [(.fclass, fun m _ a => (fpClass m a, 0)),
   (.fcvtW, fun m r a => fpToInt m r (-(2 ^ 31)) (2 ^ 31 - 1) a),
   (.fcvtWU, fun m r a => fpToInt m r 0 (2 ^ 32 - 1) a)]

/-- The conversions from an integer register. -/
def fpRowsFrom : List ((Nat → Bool → RegF → Instr) × (Word → Int)) :=
  [(.fcvtFW, fun a => a.toInt), (.fcvtFWU, fun a => a.toNat)]

end Sys2Proof.Stated

/-- Each FP function that has an integer result, and each move between the register files, writes its value, ORs its
flags into FPSTAT (a move sets none), retires, and changes nothing else. -/
def Obligations.FloatToIntegerAndMoves : Prop :=
  ∀ (s : State) (u : Nat) (dbl : Bool) (f : RegF), s.fetches u = true → f.fc = 0 →
    (∀ r ∈ fpRowsCmp, Ends (r.1 u dbl f) s fun t =>
      let x := r.2 (fmtOf dbl) ((archOf s u).fp dbl f.ra) ((archOf s u).fp dbl f.rb)
      Retires s t u ((archOf s u).putInt f.rd x.bits x.flags) (pcNext s u)) ∧
    (f.rb = 0 → ∀ r ∈ fpRowsInt, Ends (r.1 u dbl f) s fun t =>
      let x := r.2 (fmtOf dbl) (archOf s u).rounding ((archOf s u).fp dbl f.ra)
      Retires s t u ((archOf s u).putInt f.rd x.1 x.2) (pcNext s u)) ∧
    (f.rb = 0 → Ends (.fmvfi u f) s fun t =>
      Retires s t u ((archOf s u).setReg f.rd (BitVec.ofNat 32 ((archOf s u).freg f.ra).toNat)) (pcNext s u)) ∧
    (f.rb = 0 → Ends (.fmvfih u f) s fun t =>
      Retires s t u ((archOf s u).setReg f.rd (BitVec.ofNat 32 (((archOf s u).freg f.ra).toNat / 2 ^ 32))) (pcNext s u)) ∧
    Ends (.fmvif u f) s fun t =>
      Retires s t u ((archOf s u).setF f.rd
        (BitVec.ofNat 64 (((archOf s u).reg f.rb).toNat * 2 ^ 32 + ((archOf s u).reg f.ra).toNat))) (pcNext s u)

/-- Each FP function that has a floating-point result reads its operands in its format, rounds in the mode of FPCTL.RM,
writes the result to fd and ORs its flags into FPSTAT, retires, and changes nothing else. The flags of FPSTAT are
sticky: a result leaves every flag that was set, sets those it calls for, and changes no other special register and no
integer register (R316). NaNs (R322 to R326): an arithmetic function of a NaN gives the default NaN, with NV when an
operand is signalling; a comparison with a NaN is false, with NV for FLT and FLE always and for FEQ when signalling;
FMIN and FMAX return the other operand; FNEG and FABS change the sign bit alone. -/
def Obligations.FloatResult : Prop :=
  (∀ (s : State) (u : Nat) (dbl : Bool) (f : RegF), s.fetches u = true →
     (f.fc = 0 → ∀ r ∈ fpRows2, Ends (r.1 u dbl f) s fun t =>
       Retires s t u ((archOf s u).putFp dbl f.rd
         (r.2 (fmtOf dbl) (archOf s u).rounding ((archOf s u).fp dbl f.ra) ((archOf s u).fp dbl f.rb))) (pcNext s u)) ∧
     (f.fc = 0 → f.rb = 0 → (∀ r ∈ fpRows1, Ends (r.1 u dbl f) s fun t =>
         Retires s t u ((archOf s u).putFp dbl f.rd
           (r.2 (fmtOf dbl) (archOf s u).rounding ((archOf s u).fp dbl f.ra))) (pcNext s u)) ∧
       (∀ r ∈ fpRowsFrom, Ends (r.1 u dbl f) s fun t =>
         Retires s t u ((archOf s u).putFp dbl f.rd
           (fpOfInt (fmtOf dbl) (archOf s u).rounding (r.2 ((archOf s u).reg f.ra)))) (pcNext s u)) ∧
       (Ends (.fcvtSD u f) s fun t => Retires s t u ((archOf s u).putFp false f.rd
         (fpConvert fmt64 fmt32 (archOf s u).rounding ((archOf s u).fp true f.ra))) (pcNext s u)) ∧
       Ends (.fcvtDS u f) s fun t => Retires s t u ((archOf s u).putFp true f.rd
         (fpConvert fmt32 fmt64 (archOf s u).rounding ((archOf s u).fp false f.ra))) (pcNext s u)) ∧
     Ends (.fma u dbl f) s fun t => Retires s t u ((archOf s u).putFp dbl f.rd
       (fpFma (fmtOf dbl) (archOf s u).rounding ((archOf s u).fp dbl f.ra) ((archOf s u).fp dbl f.rb)
         ((archOf s u).fp dbl f.fc))) (pcNext s u)) ∧
  (∀ (a : Arch) (dbl : Bool) (r : BitVec 5) (x : FpRes),
     (∀ i, (a.putFp dbl r x).sr.fpstat.getLsbD i = (a.sr.fpstat.getLsbD i || (decide (i < 5) && x.flags.testBit i))) ∧
     { (a.putFp dbl r x).sr with fpstat := a.sr.fpstat } = a.sr ∧ (∀ q, (a.putFp dbl r x).reg q = a.reg q)) ∧
  (∀ (dbl : Bool) (m : Round) (a b : Nat), a < 2 ^ (fmtOf dbl).width → b < 2 ^ (fmtOf dbl).width →
     let f := fmtOf dbl
     let nan (x : Nat) : Bool := (f.unpack x).isNan
     let sig : Nat := if (f.unpack a).isSnan || (f.unpack b).isSnan then 16 else 0
     (nan a || nan b → fpAdd f m a b = ⟨f.nan, sig⟩ ∧ fpSub f m a b = ⟨f.nan, sig⟩ ∧ fpMul f m a b = ⟨f.nan, sig⟩ ∧
       fpDiv f m a b = ⟨f.nan, sig⟩ ∧ fpEq f a b = ⟨0, sig⟩ ∧ fpLt f a b = ⟨0, 16⟩ ∧ fpLe f a b = ⟨0, 16⟩) ∧
     (nan a && !nan b → (fpMinMax false f a b).bits = b ∧ (fpMinMax true f a b).bits = b) ∧
     (nan a && nan b → (fpMinMax false f a b).bits = f.nan ∧ (fpMinMax true f a b).bits = f.nan) ∧
     f.nan = (if dbl then 0x7FF8000000000000 else 0x7FC00000) ∧
     (∀ i, (fpNeg f a).testBit i = (a.testBit i ^^ decide (i = f.width - 1))) ∧
     (∀ i, (fpAbs f a).testBit i = (a.testBit i && decide (i ≠ f.width - 1))))

/-! ## Branches, jumps, calls (R276, R277, R287, R289, R290, R302) -/

namespace Sys2Proof.Stated

/-- The conditions of the branches. -/
def branchRows : List ((Nat → BrcF → Instr) × (Word → Word → Prop)) :=
  [(.beq, fun a b => a = b), (.bne, fun a b => a ≠ b), (.blt, fun a b => a.toInt < b.toInt),
   (.bge, fun a b => b.toInt ≤ a.toInt), (.bltu, fun a b => a.toNat < b.toNat), (.bgeu, fun a b => b.toNat ≤ a.toNat)]

/-- A unit takes an exception at an instruction: entry, and the boundary after it. -/
def Takes (s t : State) (u : Nat) (e : Exc) : Prop := t = (s.takeExc u e).boundary u

/-- ALIGN TARGET with the target in EADDR (R287). -/
def alignTarget (a : Word) : Exc := { code := 3, sub := 3, sp := 0, addr := a.toNat, async := false }

end Sys2Proof.Stated

/-- A conditional branch whose condition holds continues at PC + 4 × displacement, any other at PC + 4; BR branches
always; nothing else changes. JMPR and CALLR go to ra plus IMM16 sign-extended; CALL goes to PC + 4 × displacement.
With fewer than 16 windows resident a call slides the window with PC + 4 in V7. A target whose low two bits are not
zero raises ALIGN TARGET. -/
def Obligations.BranchesAndJumps : Prop :=
  (∀ (s : State) (u : Nat), s.fetches u = true →
     (∀ (f : BrcF), ∀ r ∈ branchRows,
       (r.2 ((archOf s u).reg f.ra) ((archOf s u).reg f.rb) → Ends (r.1 u f) s fun t =>
         Retires s t u (archOf s u) (pcPlus s u f.disp.toInt)) ∧
       (¬ r.2 ((archOf s u).reg f.ra) ((archOf s u).reg f.rb) → Ends (r.1 u f) s fun t =>
         Retires s t u (archOf s u) (pcNext s u))) ∧
     ∀ (f : JmpF), Ends (.br u f) s fun t => Retires s t u (archOf s u) (pcPlus s u f.disp.toInt)) ∧
  (∀ (s : State) (u : Nat), s.fetches u = true →
     (∀ (f : ImmF), f.rd = 0 →
       let a := archOf s u
       let target := a.reg f.ra + f.imm.signExtend 32
       let called : Arch := { a with win := a.win.push (some (pcNext s u)) }
       (target.toNat % 4 = 0 → Ends (.jmpr u f) s fun t => Retires s t u a target) ∧
       (target.toNat % 4 = 0 → a.win.resident < 16 → Ends (.callr u f) s fun t => Retires s t u called target) ∧
       (target.toNat % 4 ≠ 0 → (Ends (.jmpr u f) s fun t => Takes s t u (alignTarget target)) ∧
         Ends (.callr u f) s fun t => Takes s t u (alignTarget target))) ∧
     ∀ (f : JmpF), (archOf s u).win.resident < 16 → Ends (.call u f) s fun t =>
       Retires s t u { archOf s u with win := (archOf s u).win.push (some (pcNext s u)) } (pcPlus s u f.disp.toInt))

/-- With 16 windows resident the first unit of a call stores the oldest window's C0 to C7 and V0 to V7 as 16 words at WSP
− 64, lowers WSP by 64 and sets PCF; where the 64 bytes do not lie in the window stack it raises WINDOW OVERFLOW with
WSP in EADDR instead (R276, R278, R344). RET with more than one window resident continues at V7 of the window it
leaves and slides back; in the entry window of a transaction at level T it raises TXN_EXIT; a return address that is
no multiple of 4 raises ALIGN TARGET (R277, R302). The window slides (R276, R277): a call's C0 to C7 are the caller's
N0 to N7, its V and N are zero but V7, CWP moves on modulo 16 and DEPTH by one; sliding back gives the caller its
window again, with what the callee left in its C as its N. -/
def Obligations.RegisterWindow : Prop :=
  (∀ (s : State) (u : Nat) (f : JmpF), s.fetches u = true → 16 ≤ (archOf s u).win.resident →
     let a := archOf s u
     (0x4040 ≤ a.sr.wsp.toNat → a.sr.wsp.toNat ≤ 0x8000 → (s.unit u).stores.length < 32 → Ends (.call u f) s fun t =>
       (t.unit u).stores = (s.unit u).stores ++
         [{ id := s.mem.nextStore, unit := u, pa := s.pairArea u + (a.sr.wsp.toNat - 64)
            data := (a.win.baseC ++ (a.win.frames.getLastD Frame.empty).v).flatMap fun w => leBytes 4 w.toNat
            kind := .scratch, slot := (s.unit u).txn, mark := none, strong := (archOf s u).strongAllowed }] ∧
       (archOf t u).sr.wsp = a.sr.wsp - 64 ∧ (archOf t u).pc = a.pc ∧ (archOf t u).pcf = true ∧
       (archOf t u).win.resident = a.win.resident - 1 ∧ (archOf t u).win.depth = a.win.depth ∧ (archOf t u).k = a.k ∧
       (archOf t u).f = a.f ∧ ∀ c, t.byte c = s.byte c) ∧
     ((a.sr.wsp.toNat < 0x4040 ∨ 0x8000 < a.sr.wsp.toNat) → Ends (.call u f) s fun t =>
       Takes s t u { code := 6, sub := 1, sp := 0, addr := a.sr.wsp.toNat, async := false })) ∧
  (∀ (s : State) (u : Nat) (f : ImmF), s.fetches u = true → f.rd = 0 → f.ra = 0 → f.imm = 0 →
     (archOf s u).pcf = false →
     let a := archOf s u
     let v7 := a.win.top.v.getD 7 0
     (¬(a.level = 0 ∧ a.win.depth = 1) → v7.toNat % 4 = 0 → 1 < a.win.resident → Ends (.ret u f) s fun t =>
       Retires s t u { a with win := a.win.pop } v7) ∧
     (a.level = 0 → a.win.depth = 1 → Ends (.ret u f) s fun t =>
       Takes s t u { code := 7, sub := 3, sp := 0, addr := 0, async := false }) ∧
     (¬(a.level = 0 ∧ a.win.depth = 1) → v7.toNat % 4 ≠ 0 → Ends (.ret u f) s fun t => Takes s t u (alignTarget v7))) ∧
  (∀ (w : Windows) (x : Word), w.frames ≠ [] →
     let p := w.push (some x)
     p.incoming = w.top.n ∧ p.top.v = [0, 0, 0, 0, 0, 0, 0, x] ∧ p.top.n = zeroWords 8 ∧ p.depth = w.depth + 1 ∧
     p.cwp = (w.cwp + 1) % 16 ∧ p.resident = w.resident + 1 ∧ p.pop.frames = w.frames ∧ p.pop.baseC = w.baseC ∧
     p.pop.depth = w.depth ∧ p.pop.cwp % 16 = w.cwp % 16 ∧
     (∀ c : List Word, (p.setIncoming c).pop.top = { w.top with n := c }) ∧ (w.push none).top.v = zeroWords 8)

/-! ## Special registers (R11, R279 to R281, R304, R639) -/

namespace Sys2Proof.Stated

/-- The special registers that a read shows without further effect, by number. -/
def srRows : List (Nat × (CoreUnit → Word)) :=
  [(0x00, fun x => x.arch.sr.psw), (0x01, fun x => x.arch.sr.fpstat), (0x02, fun x => x.arch.sr.fpctl),
   (0x03, fun x => x.arch.sr.wsp), (0x04, fun x => x.arch.sr.spc.getD 0 0), (0x05, fun x => x.arch.sr.spc.getD 1 0),
   (0x06, fun x => x.arch.sr.spc.getD 2 0), (0x07, fun x => x.arch.sr.spc.getD 3 0), (0x08, fun x => x.arch.sr.ispc),
   (0x09, fun x => x.arch.sr.declen), (0x0A, fun x => x.arch.win.wstat), (0x0B, CoreUnit.txinfo),
   (0x10, fun x => x.arch.sr.epc), (0x11, fun x => x.arch.sr.epsw), (0x12, fun x => x.arch.sr.eispc),
   (0x13, fun x => x.arch.sr.ecause), (0x14, fun x => x.arch.sr.eaddr), (0x15, fun x => x.arch.sr.evba),
   (0x20, fun x => x.arch.sr.depc), (0x21, fun x => x.arch.sr.depsw), (0x22, fun x => x.arch.sr.deispc),
   (0x23, fun x => x.arch.sr.decause), (0x24, fun x => x.arch.sr.deaddr), (0x25, fun x => x.arch.sr.dvba),
   (0x31, fun x => x.arch.sr.timeHi)]

/-- The lowest level that may read a special register: E from 0x10, D from 0x20, T the others. -/
def srLevel (n : Nat) : Nat := if 0x10 ≤ n ∧ n ≤ 0x15 then 1 else if 0x20 ≤ n ∧ n ≤ 0x25 then 2 else 0

/-- The special registers that a level may write whole or in the bits given, with the lowest such level and the registers
after the write. -/
def srWrites : List (Nat × Nat × (SpecRegs → Word → SpecRegs)) :=
  [(0x01, 0, fun r v => { r with fpstat := v &&& 0x1F#32 }), (0x03, 1, fun r v => { r with wsp := v &&& 0xFFFFFFC0#32 }),
   (0x04, 0, fun r v => { r with spc := r.spc.set 0 (v &&& 0xFFFFF#32) }),
   (0x05, 0, fun r v => { r with spc := r.spc.set 1 (v &&& 0xFFFFF#32) }),
   (0x06, 0, fun r v => { r with spc := r.spc.set 2 (v &&& 0xFFFFF#32) }),
   (0x07, 0, fun r v => { r with spc := r.spc.set 3 (v &&& 0xFFFFF#32) }),
   (0x08, 2, fun r v => { r with ispc := v &&& 0xFFFFF#32 }), (0x10, 1, fun r v => { r with epc := v }),
   (0x12, 1, fun r v => { r with eispc := v &&& 0xFFFFF#32 }), (0x15, 1, fun r v => { r with evba := v &&& 0xFFFFFC00#32 }),
   (0x20, 2, fun r v => { r with depc := v }), (0x22, 2, fun r v => { r with deispc := v &&& 0xFFFFF#32 }),
   (0x24, 2, fun r v => { r with deaddr := v }), (0x25, 2, fun r v => { r with dvba := v &&& 0xFFFFFC00#32 })]

/-- PRIV with a subcode of R293. -/
def privSub (sub : Nat) : Exc := { code := 2, sub := sub, sp := 0, addr := 0, async := false }

end Sys2Proof.Stated

/-- RDSR writes the named special register to rd at every level that may read it; below that level it raises PRIV SRREAD;
a read of TIME_LO writes the low word of the time base and latches the high word for TIME_HI. WRSR writes ra to the
named special register, in the bits that it holds, at every level that may write it, and changes no other register;
ISPC at E raises PRIV SRWRITE; the read-only registers ignore a write. A write of PSW at T changes DCC alone, at E
also IE, EXL and PCF, at D also DPHYS; a value of DCC above 3 leaves DCC as it was; a write of EPSW may set LEVEL to T
or E alone, one of DEPSW to any level but 3 (R280, R639). RDFEAT writes the feature register that the table of R304
gives, zero from 4 on. -/
def Obligations.SpecialRegisters : Prop :=
  (∀ (s : State) (u : Nat) (f : SysF), s.fetches u = true → f.rsv = 0 → f.ra = 0 →
     (∀ r ∈ srRows, f.sr.toNat = r.1 →
       (srLevel r.1 ≤ (archOf s u).level → Ends (.rdsr u f) s fun t =>
         Retires s t u ((archOf s u).setReg f.rd (r.2 (s.unit u))) (pcNext s u)) ∧
       ((archOf s u).level < srLevel r.1 → Ends (.rdsr u f) s fun t => Takes s t u (privSub 2))) ∧
     (f.sr = 0x30 → Ends (.rdsr u f) s fun t =>
       Retires s t u (((archOf s u).mapSr fun r => { r with timeHi := BitVec.ofNat 32 (s.timeBase / 2 ^ 32) }).setReg f.rd
         (BitVec.ofNat 32 s.timeBase)) (pcNext s u))) ∧
  (∀ (s : State) (u : Nat) (f : SysF), s.fetches u = true → f.rsv = 0 → f.rd = 0 → (archOf s u).level ≤ 2 →
     (∀ r ∈ srWrites, f.sr.toNat = r.1 → r.2.1 ≤ (archOf s u).level → Ends (.wrsr u f) s fun t =>
       Retires s t u { archOf s u with sr := r.2.2 (archOf s u).sr ((archOf s u).reg f.ra) } (pcNext s u)) ∧
     (f.sr = 0x08 → (archOf s u).level = 1 → Ends (.wrsr u f) s fun t => Takes s t u (privSub 3)) ∧
     (f.sr ∈ [0x0A#8, 0x0B#8, 0x30#8, 0x31#8] → Ends (.wrsr u f) s fun t => Retires s t u (archOf s u) (pcNext s u))) ∧
  (∀ (r : SpecRegs) (level : Nat) (v : Word), level ≤ 2 →
     let psw := (r.write level 0x00 v).psw
     (∀ i, psw.getLsbD i = if 8 ≤ i ∧ i ≤ 10 then (if bits v 10 8 ≤ 3 then v.getLsbD i else r.psw.getLsbD i)
       else if (i = 2 ∨ i = 3 ∨ i = 5) ∧ 1 ≤ level ∨ i = 6 ∧ level = 2 then v.getLsbD i else r.psw.getLsbD i) ∧
     bits (r.write level 0x11 v).epsw 1 0 = (if bits v 1 0 ≤ 1 then bits v 1 0 else bits r.epsw 1 0) ∧
     bits (r.write level 0x21 v).depsw 1 0 = (if bits v 1 0 ≤ 2 then bits v 1 0 else bits r.depsw 1 0) ∧
     { r.write level 0x00 v with psw := r.psw } = r) ∧
  (∀ (s : State) (u : Nat) (f : SysF), s.fetches u = true → f.rsv = 0 → f.ra = 0 →
     Ends (.rdfeat u f) s fun t => Retires s t u ((archOf s u).setReg f.rd
       (match f.sr.toNat with
         | 0 => 0x96120C81#32 | 1 => 0x00000FFF#32 | 2 => 0x10100440#32
         | 3 => if s.bit (Reg.SOW_PAIR + 4 * (u / 2)) 4 then 0x80401E00#32 else 0x80403C00#32
         | _ => 0)) (pcNext s u))

/-! ## Exceptions (R293 to R297) -/

namespace Sys2Proof.Stated

/-- ECAUSE and DECAUSE of an exception (R297). -/
def causeWord (e : Exc) (level : Nat) (txn : Bool) : Word :=
  BitVec.ofNat 32 (e.code % 256 + 256 * (e.sub % 256) + 2 ^ 16 * e.async.toNat + 2 ^ 17 * txn.toNat + 2 ^ 18 * (level % 4) +
    2 ^ 20 * (e.sp % 4))

/-- The status of a handler: its level, EXL set, IE clear, PCF clear, DPHYS set at D, every other bit as it was. -/
def handlerStatus (old new : Word) (level : Nat) : Prop :=
  bits new 1 0 = level ∧ new.getLsbD 2 = false ∧ new.getLsbD 3 = true ∧ new.getLsbD 5 = false ∧
  (new.getLsbD 6 = if level = 2 then true else old.getLsbD 6) ∧ new.getLsbD 4 = old.getLsbD 4 ∧
  ∀ i, 7 ≤ i → new.getLsbD i = old.getLsbD i

/-- E can take an exception: the unit is not in a handler, the plot has an executive, and a spill would fit (R296). -/
def canTakeE (s : State) (u : Nat) : Bool :=
  !(archOf s u).exl && s.hasExec u && !((archOf s u).spillBlocked)

end Sys2Proof.Stated

/-- An exception taken to E: PC, PSW and ISPC are saved, ECAUSE and EADDR written, the status is that of a handler at E,
ISPC names the executive's space, the PC is the vector, the window slides without a V7; no other unit changes, nor a
byte of memory (R294, R295, R297). An exception taken to D (DCALL, MCHECK, DOUBLE, and any but INTERRUPT at level D):
the D registers save, DPHYS is set, ISPC is zero, the PC is the vector at DVBA (R294, R295). Where E cannot take an
exception, DOUBLE is taken to D with the code as its subcode (R296). -/
def Obligations.ExceptionEntry : Prop :=
  (∀ (s : State) (u : Nat) (e : Exc), u < 192 → (archOf s u).level < 2 → e.code ∉ [0x09, 0x0C, 0x0D] → canTakeE s u = true →
     let a := archOf s u
     let t := s.takeExc u e
     let b := archOf t u
     b.sr.epc = a.pc ∧ b.sr.epsw = a.sr.psw ∧ b.sr.eispc = a.sr.ispc ∧ b.sr.ecause = causeWord e a.level a.txn ∧
     b.sr.eaddr = BitVec.ofNat 32 e.addr ∧ handlerStatus a.sr.psw b.sr.psw 1 ∧
     b.sr.ispc = BitVec.ofNat 32 ((s.unit u).execPlot * 256 + 0xFE) ∧ b.pc = a.sr.evba + BitVec.ofNat 32 (0x40 * e.code) ∧
     b.win.depth = a.win.depth + 1 ∧ b.win.top = Frame.empty ∧ b.k = a.k ∧ b.f = a.f ∧
     (∀ v, v ≠ u → archOf t v = archOf s v) ∧ (∀ c, t.byte c = s.byte c)) ∧
  (∀ (s : State) (u : Nat) (e : Exc), (e.code ∈ [0x09, 0x0C, 0x0D] ∨ (archOf s u).level = 2 ∧ e.code ≠ 0x0B) →
     ¬((archOf s u).level = 2 ∧ (archOf s u).exl = true) →
     let a := archOf s u
     let t := s.takeExc u e
     let b := archOf t u
     b.sr.depc = a.pc ∧ b.sr.depsw = a.sr.psw ∧ b.sr.deispc = a.sr.ispc ∧ b.sr.decause = causeWord e a.level a.txn ∧
     b.sr.deaddr = BitVec.ofNat 32 e.addr ∧ handlerStatus a.sr.psw b.sr.psw 2 ∧ b.sr.ispc = 0 ∧
     b.pc = a.sr.dvba + BitVec.ofNat 32 (0x40 * e.code) ∧ b.win.depth = a.win.depth + 1 ∧ b.sr.epc = a.sr.epc ∧
     b.sr.epsw = a.sr.epsw ∧ (∀ v, v ≠ u → archOf t v = archOf s v) ∧ (∀ c, t.byte c = s.byte c)) ∧
  (∀ (s : State) (u : Nat) (e : Exc), u < 192 → (archOf s u).level < 2 → e.code ∉ [0x09, 0x0C, 0x0D] → canTakeE s u = false →
     s.takeExc u e = s.takeExc u { e with code := 0x0D, sub := e.code })

/-- ECALL and BREAK raise their exception with the SR field as subcode; BREAK halts the pair instead while BRKHALT is 1;
DCALL does so at E and D. DCALL, ERET, WAITI, ABORT.F and the cache operations of level E raise PRIV INSTR at T (R293,
R294, R571). A reserved field that is not zero raises ILLEGAL RESERVED, an odd register where a pair is named ILLEGAL
ODDREG, an unassigned special register ILLEGAL SREG, each before any effect (R293). The word of every instruction has an
assigned major opcode and minor code; words of zeros and of ones have none (R289 to R291). -/
def Obligations.CallsAndIllegalInstructions : Prop :=
  (∀ c w, insnWord c = some w → wordFail w = none) ∧ wordFail 0 = some 1 ∧ wordFail 0xFFFFFFFF#32 = some 1 ∧
  wordFail 0x04000007#32 = some 2 ∧ wordFail 0x24000003#32 = some 2 ∧
  (∀ (s : State) (u : Nat), s.fetches u = true →
     (∀ (f : SysF), f.rsv = 0 → f.rd = 0 → f.ra = 0 →
       (Ends (.ecall u f) s fun t => Takes s t u { code := 8, sub := f.sr.toNat, sp := 0, addr := 0, async := false }) ∧
       ((s.pair (pairOf u)).brkHalt = false → Ends (.brk u f) s fun t =>
         Takes s t u { code := 0x0A, sub := f.sr.toNat, sp := 0, addr := 0, async := false }) ∧
       ((s.pair (pairOf u)).brkHalt = true → Ends (.brk u f) s fun t =>
         (t.pair (pairOf u)).stop = some .brk ∧ OnlyUnit s t u ∧ archOf t u = archOf s u) ∧
       (1 ≤ (archOf s u).level → Ends (.dcall u f) s fun t =>
         Takes s t u { code := 9, sub := f.sr.toNat, sp := 0, addr := 0, async := false }) ∧
       ((archOf s u).level = 0 → (Ends (.dcall u f) s fun t => Takes s t u (privSub 1)) ∧
         (f.sr = 0 → (Ends (.eret u f) s fun t => Takes s t u (privSub 1)) ∧
           Ends (.waiti u f) s fun t => Takes s t u (privSub 1)))) ∧
     ((archOf s u).level = 0 →
       (∀ (f : RegF), f.rd = 0 → f.ra = 0 → f.rb = 0 → f.fc = 0 → Ends (.abortF u f) s fun t => Takes s t u (privSub 1)) ∧
       (∀ (f : CacF), ∀ i ∈ [Instr.preload u f, .clean u f, .inval u f, .flush u f, .iinval u f],
         Ends i s fun t => Takes s t u (privSub 1)))) ∧
  (∀ (s : State) (u : Nat), s.fetches u = true →
     (∀ (f : RegF), f.fc ≠ 0 → ∀ i ∈ [Instr.add u f, .sub u f, .mul u f, .div u f, .clz u f, .fcvtSD u f, .fmvfi u f],
       Ends i s fun t => Takes s t u { code := 1, sub := 3, sp := 0, addr := 0, async := false }) ∧
     (∀ (f : MemF), f.rd.toNat % 2 = 1 → ∀ i ∈ [Instr.ldp u f true, .ldp u f false, .stp u f],
       Ends i s fun t => Takes s t u { code := 1, sub := 4, sp := 0, addr := 0, async := false }) ∧
     (∀ (f : SysF), f.rsv = 0 → f.ra = 0 → srAccess f.sr.toNat = none →
       Ends (.rdsr u f) s fun t => Takes s t u { code := 1, sub := 5, sp := 0, addr := 0, async := false }))

/-- ERET at E or D with more than one window resident restores PC, PSW and ISPC from the saved registers of the level,
keeps TXN and SPLIT, slides back, and changes no other register of the unit, no other unit and no byte of memory
(R295, R639). -/
def Obligations.ReturnFromException : Prop :=
  ∀ (s : State) (u : Nat) (f : SysF), s.fetches u = true → f.rsv = 0 → f.rd = 0 → f.ra = 0 → f.sr = 0 →
    1 ≤ (archOf s u).level → 1 < (archOf s u).win.resident → Ends (.eret u f) s fun t =>
      let a := archOf s u
      let b := archOf t u
      let d : Bool := decide (a.level = 2)
      let psw := if d then a.sr.depsw else a.sr.epsw
      b.pc = (if d then a.sr.depc else a.sr.epc) ∧ b.sr.ispc = (if d then a.sr.deispc else a.sr.eispc) ∧
      (∀ i, b.sr.psw.getLsbD i = if i = 4 ∨ i = 7 then a.sr.psw.getLsbD i else psw.getLsbD i) ∧
      b.win = a.win.pop ∧ b.k = a.k ∧ b.f = a.f ∧ { b.sr with psw := a.sr.psw, ispc := a.sr.ispc } = a.sr ∧ OnlyUnit s t u

/-! ## Fences and waits (R391 to R394, R637) -/

/-- A fence whose stores have passed its scope, and IFENCE, retire and change nothing else; WAITI at E or D retires and
holds the unit. A fence that a unit stands at and whose stores have passed its scope retires; one whose
acknowledgement is a synthesised Warp error retires too and leaves an asynchronous MCHECK WARP_ERROR pending
(R392). -/
def Obligations.FencesAndWaits : Prop :=
  (∀ (s : State) (u : Nat) (f : SysF), s.fetches u = true → f.rsv = 0 → f.rd = 0 → f.ra = 0 → f.sr = 0 →
     (s.storesPast u .unit = true → Ends (.fenceCore u f) s fun t => Retires s t u (archOf s u) (pcNext s u)) ∧
     (s.storesPast u .pair = true → Ends (.fenceCluster u f) s fun t => Retires s t u (archOf s u) (pcNext s u)) ∧
     (s.storesPast u .cluster = true → s.remoteDone u = true → Ends (.fenceDevice u f) s fun t =>
       Retires s t u (archOf s u) (pcNext s u)) ∧
     (Ends (.ifence u f) s fun t => Retires s t u (archOf s u) (pcNext s u)) ∧
     (1 ≤ (archOf s u).level → Ends (.waiti u f) s fun t =>
       Retires s t u (archOf s u) (pcNext s u) ∧ (t.unit u).wait = .waiti) ∧
     (s.storesPast u .unit = false → Ends (.fenceCore u f) s fun t =>
       (t.unit u).wait = .fence .unit ∧ archOf t u = archOf s u ∧ OnlyUnit s t u)) ∧
  (∀ (s : State) (u : Nat) (sc : Scope) (err : Bool), (s.unit u).wait = .fence sc → (err || s.fenceDone u sc) = true →
     (s.unit u).halted = false → s.safe = false → Ends (.fenceComplete u err) s fun t =>
       Retires s t u (archOf s u) (pcNext s u) ∧ (t.unit u).wait = .none ∧
       (t.unit u).latch.mcheck = if err then some 2 else (s.unit u).latch.mcheck)

/-! ## Loads and stores (R284 to R287, R290, R386 to R390, R399 to R403) -/

namespace Sys2Proof.Stated

/-- A place may be read at once: DRAM, or a scratchpad outside the strongroom, that answers OK; a cached line is there; an
uncached access finds the unit's stores drained and a credit; nothing is poisoned. -/
def readable (s : State) (u n : Nat) (p : Place) : Bool :=
  (match s.region p.pa with
   | .dram => true
   | .scratch _ off => !touchesStrongroom off n
   | _ => false) &&
  (p.cacheable || s.drained u && !s.creditOut (clusterOf (pairOf u)) p.pa) && decide ((s.accessStatus u p.pa n).1 = .ok) &&
  (!p.cacheable || p.pairArea || (s.missing u p.pa n).isNone) && !s.poisonIn p.pa n

/-- An access of n bytes at EA through an SP field passes its checks and goes to p. -/
def goesTo (s : State) (u sp ea n : Nat) (acc : Access) (k : AccKind) (p : Place) : Prop := s.place u sp ea n acc k = .ok p

/-- A source of n bytes at EA that may be read at once, with its place. -/
def reads (s : State) (u sp ea n : Nat) (p : Place) : Prop := goesTo s u sp ea n .read .other p ∧ readable s u n p = true

/-- A destination of n bytes at EA in memory that is not journaled, with its place. -/
def writes (s : State) (u sp ea n : Nat) (p : Place) : Prop :=
  goesTo s u sp ea n .write .other p ∧ p.journaled = false ∧ s.storeKind p ≠ .control

/-- The loads of an integer register: bytes and what extends them. -/
def loadRows : List ((Nat → MemF → Bool → Instr) × Nat × (Nat → Word)) :=
  [(.ldb, 1, fun x => BitVec.ofNat 32 x), (.ldbs, 1, fun x => (BitVec.ofNat 8 x).signExtend 32),
   (.ldh, 2, fun x => BitVec.ofNat 32 x), (.ldhs, 2, fun x => (BitVec.ofNat 16 x).signExtend 32),
   (.ldw, 4, fun x => BitVec.ofNat 32 x)]

/-- The architected state after an instruction that retires. -/
def after (a : Arch) (pc : Word) : Arch := { a.setPcf false with pc := pc }

/-- The effective address of a memory instruction: ra plus the displacement, modulo 2^32 (R284). -/
def eaOf (s : State) (u : Nat) (f : MemF) : Nat := ((archOf s u).reg f.ra + f.disp.signExtend 32).toNat

/-- A store of a unit to a place may enter its buffer: the place is not journaled, or the unit runs a transaction whose
capture takes the line (R125, R128), and the buffer has room for the parts (R355). -/
def mayStore (s : State) (u n parts : Nat) (p : Place) : Bool :=
  (!p.journaled || (s.txnOf u).isSome && (s.captureFail u p.pa n).isNone) && decide ((s.unit u).stores.length + parts ≤ 32)

/-- The store that enters a buffer. -/
def newStore (s : State) (u id pa : Nat) (data : List Byte) (p : Place) : BufStore :=
  { id := id, unit := u, pa := pa, data := data, kind := if p.journaled then .journal else s.storeKind p, slot := (s.unit u).txn, mark := none
    strong := (archOf s u).strongAllowed }

/-- The stores of one integer register: bytes. -/
def storeRows : List ((Nat → MemF → Instr) × Nat) := [(.stb, 1), (.sth, 2), (.stw, 4)]

/-- A store retires with its bytes in the unit's buffer, and nothing else changes. -/
def Buffered (s t : State) (u : Nat) (l : List BufStore) : Prop :=
  (t.unit u).stores = (s.unit u).stores ++ l ∧ archOf t u = after (archOf s u) (pcNext s u) ∧
  (∀ v, v ≠ u → archOf t v = archOf s v) ∧ (∀ a, t.byte a = s.byte a) ∧
  (∀ o, o ≠ pairReg Reg.CLS_PAIRSTAT (pairOf u) → t.reg o = s.reg o) ∧ t.clusters = s.clusters ∧ t.stakes = s.stakes ∧
  t.journal = s.journal ∧ t.sower = s.sower ∧ t.plots = s.plots ∧ t.out = s.out

end Sys2Proof.Stated

/-- LDB, LDBS, LDH, LDHS, LDW, FLDS and LDL read the bytes that the unit sees at EA, little-endian, extend them as their
name says, retire, and leave memory and every other unit alone; LDL also links the 64-byte granule of EA. LDP and FLDD
read eight bytes: in one piece at a multiple of 8 in cacheable memory, else as two words, the word at EA first; LDP
writes them to rd and rd + 1, FLDD to one FP register (R403). -/
def Obligations.LoadResult : Prop :=
  (∀ (s : State) (u : Nat) (f : MemF) (pe : Bool) (p : Place), s.fetches u = true →
     (∀ r ∈ loadRows, goesTo s u f.sp.toNat (eaOf s u f) r.2.1 .read .plain p → readable s u r.2.1 p = true →
       Ends (r.1 u f pe) s fun t =>
         archOf t u = after ((archOf s u).setReg f.rd (r.2.2 (leNat (s.seenBytes u p.pa r.2.1)))) (pcNext s u) ∧
         (∀ a, t.byte a = s.byte a) ∧ (pe = false → LoadFrame s t u)) ∧
     (goesTo s u f.sp.toNat (eaOf s u f) 4 .read .plain p → readable s u 4 p = true → Ends (.flds u f pe) s fun t =>
       archOf t u = after ((archOf s u).setF32 f.rd (leNat (s.seenBytes u p.pa 4))) (pcNext s u) ∧
       (∀ a, t.byte a = s.byte a) ∧ (pe = false → LoadFrame s t u)) ∧
     (goesTo s u f.sp.toNat (eaOf s u f) 4 .read .atomic p → readable s u 4 p = true → Ends (.ldl u f pe) s fun t =>
       archOf t u = after (({ archOf s u with link := some (p.pa / 64 * 64) }).setReg f.rd
         (BitVec.ofNat 32 (leNat (s.seenBytes u p.pa 4)))) (pcNext s u) ∧
       (∀ a, t.byte a = s.byte a) ∧ (pe = false → LoadFrame s t u))) ∧
  (∀ (s : State) (u : Nat) (f : MemF) (pe : Bool) (p : Place), s.fetches u = true →
     goesTo s u f.sp.toNat (eaOf s u f) 8 .read .other p →
     (if eaOf s u f % 8 = 0 ∧ p.cacheable = true then readable s u 8 p = true
      else readable s u 4 p = true ∧ readable s u 4 { p with pa := p.pa + 4 } = true ∧
        s.region (p.pa + 4) = s.region p.pa) →
     (f.rd.toNat % 2 = 0 → Ends (.ldp u f pe) s fun t =>
       archOf t u = after (((archOf s u).setReg f.rd (BitVec.ofNat 32 (leNat (s.seenBytes u p.pa 4)))).setReg (f.rd + 1)
         (BitVec.ofNat 32 (leNat (s.seenBytes u (p.pa + 4) 4)))) (pcNext s u) ∧
       (∀ a, t.byte a = s.byte a) ∧ (pe = false → LoadFrame s t u)) ∧
     Ends (.fldd u f pe) s fun t =>
       archOf t u = after ((archOf s u).setF f.rd (BitVec.ofNat 64 (leNat (s.seenBytes u p.pa 8)))) (pcNext s u) ∧
       (∀ a, t.byte a = s.byte a) ∧ (pe = false → LoadFrame s t u))

/-- STB, STH, STW and FSTS put the low bytes of their register into the store buffer at EA's place and retire; memory
itself does not change yet, nor does any other unit; ZLINE puts 64 zero bytes at the line of EA. STP and FSTD store
eight bytes: one store at a multiple of 8 in cacheable memory, else two of four bytes, the one at EA first (R403). -/
def Obligations.StoreEntersBuffer : Prop :=
  (∀ (s : State) (u : Nat) (f : MemF) (p : Place), s.fetches u = true →
     (∀ r ∈ storeRows, goesTo s u f.sp.toNat (eaOf s u f) r.2 .write .plain p → mayStore s u r.2 1 p = true →
       Ends (r.1 u f) s fun t => Buffered s t u
         [newStore s u s.mem.nextStore p.pa (leBytes r.2 ((archOf s u).reg f.rd).toNat) p]) ∧
     (goesTo s u f.sp.toNat (eaOf s u f) 4 .write .plain p → mayStore s u 4 1 p = true → Ends (.fsts u f) s fun t =>
       Buffered s t u [newStore s u s.mem.nextStore p.pa (leBytes 4 ((archOf s u).freg f.rd).toNat) p]) ∧
     ∀ (g : CacF), goesTo s u g.sp.toNat (((archOf s u).reg g.ra + g.disp.signExtend 32).toNat / 64 * 64) 64 .write .other p →
       mayStore s u 64 1 p = true → Ends (.zline u g) s fun t =>
         Buffered s t u [newStore s u s.mem.nextStore p.pa (List.replicate 64 0) p]) ∧
  (∀ (s : State) (u : Nat) (f : MemF) (p : Place), s.fetches u = true →
     goesTo s u f.sp.toNat (eaOf s u f) 8 .write .other p →
     let stored (d : List Byte) : List BufStore :=
       if eaOf s u f % 8 = 0 ∧ p.cacheable = true then [newStore s u s.mem.nextStore p.pa d p]
       else [newStore s u s.mem.nextStore p.pa (d.take 4) p, newStore s u (s.mem.nextStore + 1) (p.pa + 4) (d.drop 4) p]
     mayStore s u 8 (if eaOf s u f % 8 = 0 ∧ p.cacheable = true then 1 else 2) p = true →
     (f.rd.toNat % 2 = 0 → Ends (.stp u f) s fun t => Buffered s t u
       (stored (leBytes 4 ((archOf s u).reg f.rd).toNat ++ leBytes 4 ((archOf s u).reg (f.rd + 1)).toNat))) ∧
     Ends (.fstd u f) s fun t => Buffered s t u (stored (leBytes 8 ((archOf s u).freg f.rd).toNat)))

/-- A unit sees its own newest store before every other agent does: the bytes of a store in its buffer for it, the old
bytes for a unit of another pair, and memory unchanged (R386, R389). A store of the scratchpad that is the oldest of
its unit at the cluster reaches memory: the bytes stored read as the data, every other byte reads as before, no
register of any unit changes but load links of other clusters, since its own cluster has seen it (R390, R400); one that
may not reach the strongroom is discarded and sets STRONG_DENY (R428). The oldest store of a unit's buffer becomes visible to its
pair, in order, and memory does not change; journaled, it carries the epoch open at its pair and its line is captured
(R127, R390, R410). -/
def Obligations.StoreReachesMemory : Prop :=
  (∀ (s : State) (u v pa : Nat) (d : List Byte) (k : StoreKind), k ≠ .control → v ≠ u →
     Stores s (s.pushStore u pa d k) u pa d ∧ ∀ a, (s.pushStore u pa d k).seenByte v a = s.seenByte v a) ∧
  (∀ (s : State) (u : Nat) (b : BufStore) (rest : List BufStore),
     (s.cluster (clusterOf (pairOf u))).stores = b :: rest → b.unit = u → b.kind = .scratch →
     (s.accessStatus u b.pa b.data.length).1 = .ok → s.creditOut (clusterOf (pairOf u)) b.pa = false →
     (∀ d, s.strongOf b = some d → b.strong = false → Ends (.storeDrain u .cluster .ok) s fun t =>
       t.mem = s.mem ∧ t.units = s.units ∧ t.bit (clsReg Reg.CLS_SPERR d) 2 = true) ∧
     ((∀ d, s.strongOf b = some d → b.strong = true ∧ s.bit (clsReg Reg.CLS_SPSTAT d) 16 = false) →
       Ends (.storeDrain u .cluster .ok) s fun t =>
       (∀ i (h : i < b.data.length), t.byte (b.pa + i) = b.data[i]) ∧
       (∀ a, (a < b.pa ∨ b.pa + b.data.length ≤ a) → t.byte a = s.byte a) ∧
       (∀ v, { archOf t v with link := none } = { archOf s v with link := none }) ∧
       (∀ v, clusterOf (pairOf v) = clusterOf (pairOf u) → archOf t v = archOf s v) ∧
       (t.cluster (clusterOf (pairOf u))).stores = (b :: rest).filter (fun x => x.id ≠ b.id))) ∧
  (∀ (s : State) (u : Nat) (b : BufStore) (rest : List BufStore), (s.unit u).stores = b :: rest → b.unit = u →
     (∀ x ∈ rest, x.id ≠ b.id) → Ends (.storeDrain u .unit .ok) s fun t =>
       (t.unit u).stores = rest ∧
       (t.pair (pairOf u)).stores = (s.pair (pairOf u)).stores ++
         [{ b with mark := if b.kind = .journal then some (s.epochAt u) else none }] ∧
       (b.kind = .journal → ∀ l ∈ linesOf b.pa b.data.length,
         hasLine (t.unit u).lines (l - (s.liveRegion (s.unit u).execPlot).1) = true) ∧
       (∀ l, b.kind = .journal → linesOf b.pa b.data.length = [l] →
         let off := l - (s.liveRegion (s.unit u).execPlot).1
         hasLine (s.unit u).lines off = false →
           t.bytes (s.capEntry u (s.unit u).lines.length) 72 = leBytes 8 off ++ s.pairLine u l) ∧
       ∀ a, b.kind ≠ .journal ∨ a < s.capEntry u (s.unit u).lines.length ∨
         s.capEntry u (s.unit u).lines.length + 136 * (linesOf b.pa b.data.length).length ≤ a → t.byte a = s.byte a)

/-- STC without a valid link to its granule writes 0 and stores nothing; with one it stores its word and writes 1; either
way the link is gone (R399 to R401). -/
def Obligations.StoreConditional : Prop :=
  ∀ (s : State) (u : Nat) (f : MemF) (p : Place), s.fetches u = true →
    goesTo s u f.sp.toNat (eaOf s u f) 4 .write .atomic p → (p.journaled = true → (s.txnOf u).isSome = true) →
    ((p.cacheable && (archOf s u).link == some (p.pa / 64 * 64)) = false → Ends (.stc u f) s fun t =>
      Retires s t u (({ archOf s u with link := none }).setReg f.rd 0) (pcNext s u)) ∧
    (p.cacheable = true → (archOf s u).link = some (p.pa / 64 * 64) → s.drained u = true → s.storesOver p.pa 4 = false →
      (p.journaled = true → s.captureFail u p.pa 4 = none) → (s.accessStatus u p.pa 4).1 = .ok →
      (p.pairArea = true ∨ (s.line? (clusterOf (pairOf u)) p.pa).isSome = true) → Ends (.stc u f) s fun t =>
        archOf t u = after (({ archOf s u with link := none }).setReg f.rd 1) (pcNext s u) ∧
        (∀ i (h : i < 4), t.byte (p.pa + i) = (leBytes 4 ((archOf s u).reg f.rd).toNat)[i]'(by simpa [leBytes] using h)) ∧
        ∀ a, (a < p.pa ∨ p.pa + 4 ≤ a) → (p.journaled = true → a < s.capEntry u (s.unit u).lines.length ∨
          s.capEntry u (s.unit u).lines.length + 136 ≤ a) → t.byte a = s.byte a)

/-! ## Cache operations (R292, R416 to R419) -/

namespace Sys2Proof.Stated

/-- The effective address of a cache operation. -/
def lineEa (s : State) (u : Nat) (f : CacF) : Nat := ((archOf s u).reg f.ra + f.disp.signExtend 32).toNat

/-- A line that a cluster holds is clean. -/
def cleanAt (t : State) (c pa : Nat) : Bool := (t.line? c pa).all fun l => l.dirty.isNone

/-- A cluster holds no copy of a line but a clean marked one. -/
def goneAt (t : State) (c pa : Nat) : Bool := (t.line? c pa).all fun l => l.dirty.isNone && l.mark.isSome

end Sys2Proof.Stated

/-- In DRAM, CLEAN leaves the line clean in every cluster, INVAL leaves the unit's cluster and FLUSH every cluster without
a copy but a clean marked one, PRELOAD and PREFETCH of a line that is absent and fits a way start a fill, IINVAL
changes no cache; each retires and no byte of memory changes. A range operation covers at most 1,024 lines from the
one that holds ra, leaves each of them in DRAM as its line operation does, moves ra on and rb back by the bytes
covered (one register named as both takes a free value, log entry 33), and changes no byte of memory. -/
def Obligations.CacheOperations : Prop :=
  (∀ (s : State) (u : Nat) (f : CacF) (p : Place), s.fetches u = true → u < 192 →
     goesTo s u f.sp.toNat (lineEa s u f) 1 .read .line p → s.region p.pa = .dram →
     let c := clusterOf (pairOf u)
     let done (t : State) : Prop :=
       archOf t u = after (archOf s u) (pcNext s u) ∧ (∀ a, t.byte a = s.byte a) ∧ ∀ v, v ≠ u → archOf t v = archOf s v
     (1 ≤ (archOf s u).level →
       (Ends (.clean u f) s fun t => done t ∧ ∀ d, d < 12 → cleanAt t d p.pa = true) ∧
       (Ends (.inval u f) s fun t => done t ∧ goneAt t c p.pa = true ∧ ∀ d, d ≠ c → t.cluster d = s.cluster d) ∧
       (Ends (.flush u f) s fun t => done t ∧ ∀ d, d < 12 → goneAt t d p.pa = true) ∧
       (Ends (.iinval u f) s fun t => Retires s t u (archOf s u) (pcNext s u)) ∧
       (p.cacheable = true → s.fillable c p.pa = true → (s.line? c p.pa).isNone = true → s.filling c p.pa = false →
         (s.emptyLocked c p.pa).isSome = true → Ends (.preload u f) s fun t => done t ∧ t.filling c p.pa = true)) ∧
     (p.cacheable = true → s.fillable c p.pa = true → (s.line? c p.pa).isNone = true → s.filling c p.pa = false →
       (s.chooseWay c p.pa).isSome = true → Ends (.prefetch u f) s fun t => done t ∧ t.filling c p.pa = true)) ∧
  (∀ (s : State) (u : Nat) (f : CrgF) (p : Place), s.fetches u = true → u < 192 → f.rsv = 0 → 1 ≤ (archOf s u).level →
     let a := archOf s u
     let start := (a.reg f.ra).toNat
     let len := (a.reg f.rb).toNat
     let n := min len (start / 64 * 64 + 65536 - start)
     n ≠ 0 → goesTo s u f.sp.toNat start n .read .line p →
     let done (t : State) : Prop :=
       (f.ra ≠ f.rb →
         archOf t u = after ((a.setReg f.ra (BitVec.ofNat 32 (start + n))).setReg f.rb (BitVec.ofNat 32 (len - n))) (pcNext s u)) ∧
       (f.ra = f.rb → ∃ v, archOf t u = after (a.setReg f.ra v) (pcNext s u)) ∧
       (∀ b, t.byte b = s.byte b) ∧ ∀ v, v ≠ u → archOf t v = archOf s v
     (Ends (.rclean u f) s fun t => done t ∧
       ∀ l ∈ linesOf p.pa n, s.region l = .dram → ∀ d, d < 12 → cleanAt t d l = true) ∧
     (Ends (.rinval u f) s fun t => done t ∧
       ∀ l ∈ linesOf p.pa n, s.region l = .dram → goneAt t (clusterOf (pairOf u)) l = true) ∧
     (Ends (.rflush u f) s fun t => done t ∧
       ∀ l ∈ linesOf p.pa n, s.region l = .dram → ∀ d, d < 12 → goneAt t d l = true))

/-! ## Stakes and the end of a transaction on a unit (R98 to R101, R109, R110, R129, R301, R302) -/

/-- STAKE on a record already held in the mode asked or a stronger one retires with HELD; outside a transaction it retires
with NOTXN; on a record of this device with no stake held or awaited it records the request, sends it to the record's
slice, and the unit stands at the instruction. UNSTAKE of a held record sends its release to its slice, drops the
record and retires with GRANTED; of a record not held, NOTHELD; of one held exclusively after a captured store,
REFUSED; outside a transaction, NOTXN (R109). -/
def Obligations.StakeInstructions : Prop :=
  (∀ (s : State) (u : Nat) (f : RegF) (excl : Bool), s.fetches u = true → f.rb = 0 → f.fc = 0 → f.ra.toNat % 2 = 0 →
     let i := if excl then Instr.stakeX u f else .stakeS u f
     let ns := (s.unit u).execPlot
     let key := ((archOf s u).reg (f.ra + 1)).toNat * 2 ^ 32 + ((archOf s u).reg f.ra).toNat
     (s.txnOf u = none → Ends i s fun t => Retires s t u ((archOf s u).setReg f.rd 7) (pcNext s u)) ∧
     ∀ x, s.txnOf u = some x →
       (∀ r, s.stakeRec x.slot ns key = some r → r.covers excl = true → Ends i s fun t =>
         Retires s t u ((archOf s u).setReg f.rd 1) (pcNext s u)) ∧
       (s.stakeRec x.slot ns key = none → s.stakeCount x.slot < 256 → s.stakeHome ns key = s.devId → Ends i s fun t =>
         t.stakes.recs = s.stakes.recs ++ [{ slot := x.slot, ns := ns, key := key, home := s.devId, held := none
                                             waits := some excl, issued := s.time, queued := false }] ∧
         t.stakes.msgs = s.stakes.msgs ++ [{ slice := s.sliceOf ns key, who := s.partyOf x, ns := ns, key := key
                                             op := .request excl }] ∧
         (t.unit u).wait = .stake f.rd key excl ∧ archOf t u = archOf s u ∧ (∀ v, v ≠ u → archOf t v = archOf s v) ∧
         t.mem = s.mem)) ∧
  (∀ (s : State) (u : Nat) (f : RegF), s.fetches u = true → f.rb = 0 → f.fc = 0 → f.ra.toNat % 2 = 0 →
     let ns := (s.unit u).execPlot
     let key := ((archOf s u).reg (f.ra + 1)).toNat * 2 ^ 32 + ((archOf s u).reg f.ra).toNat
     (s.txnOf u = none → Ends (.unstake u f) s fun t => Retires s t u ((archOf s u).setReg f.rd 7) (pcNext s u)) ∧
     ∀ x, s.txnOf u = some x →
       (s.stakeRec x.slot ns key = none → Ends (.unstake u f) s fun t =>
         Retires s t u ((archOf s u).setReg f.rd 9) (pcNext s u)) ∧
       ∀ r, s.stakeRec x.slot ns key = some r →
         (r.held = some true → s.hasCaptured u = true → Ends (.unstake u f) s fun t =>
           Retires s t u ((archOf s u).setReg f.rd 8) (pcNext s u)) ∧
         ((r.held = some false ∨ r.held = some true ∧ s.hasCaptured u = false) → r.home = s.devId →
           Ends (.unstake u f) s fun t =>
             archOf t u = after ((archOf s u).setReg f.rd 0) (pcNext s u) ∧ t.stakeRec x.slot ns key = none ∧
             t.stakes.msgs = s.stakes.msgs ++ [{ slice := s.sliceOf ns key, who := s.partyOf x, ns := ns, key := key
                                                 op := .release }] ∧ t.mem = s.mem))

/-- COMMIT, ABORT and ABORT.F outside a transaction raise NOTXN; COMMIT with RLEN above 256 raises BAD_RLEN. A COMMIT of a
transaction that captured lines and has no other home stands at its boundary and waits for the journal engine; one
that captured nothing ends at once and frees its unit. ABORT and ABORT.F free the unit; where the completion must wait
for the seal of an epoch that was read, the slot holds it with status 0x1001 or 0x1004 (R65, R129, R301, R302). An
ABORT writes back the before-image of every line that the transaction captured and no other byte of memory (R132). -/
def Obligations.TransactionEnds : Prop :=
  (∀ (s : State) (u : Nat) (f : RegF), s.fetches u = true → f.rd = 0 → f.rb = 0 → f.fc = 0 →
     let rlen := ((archOf s u).reg f.ra).toNat
     let free (t : State) : Prop :=
       (t.unit u).txn = none ∧ (t.unit u).run = false ∧ (t.unit u).lines = [] ∧ (archOf t u).txn = false
     let held (t : State) (x : TSlot) (status : Nat) : Prop :=
       ∀ e, s.readWait u = some e → ((t.tslot x.slot).bind (·.result)).map (·.status) = some status
     (s.txnOf u = none → Ends (.commit u f) s fun t => Takes s t u { code := 7, sub := 1, sp := 0, addr := 0, async := false }) ∧
     ((archOf s u).txn = false → f.ra = 0 →
       (Ends (.abort u f) s fun t => Takes s t u { code := 7, sub := 1, sp := 0, addr := 0, async := false }) ∧
       (1 ≤ (archOf s u).level → Ends (.abortF u f) s fun t =>
         Takes s t u { code := 7, sub := 1, sp := 0, addr := 0, async := false })) ∧
     ∀ x, s.txnOf u = some x →
       (256 < rlen → Ends (.commit u f) s fun t => Takes s t u { code := 7, sub := 2, sp := 0, addr := 0, async := false }) ∧
       (rlen ≤ 256 → s.drained u = true → s.remoteDone u = true → s.homesOf x.slot = [] → x.span = false →
         ((s.unit u).lines ≠ [] → (∀ w ∈ s.journal.waits, w.unit ≠ u) → Ends (.commit u f) s fun t =>
           (t.unit u).wait = .commit rlen ∧ archOf t u = archOf s u ∧ t.mem = s.mem ∧
           t.journal.waits = s.journal.waits ++ [{ unit := u, slot := x.slot, rlen := rlen }]) ∧
         ((s.unit u).lines = [] → Ends (.commit u f) s fun t => free t ∧ ∀ a, t.byte a = s.byte a)) ∧
       (f.ra = 0 → s.drained u = true → (Ends (.abort u f) s fun t => free t ∧ held t x 0x1001) ∧
         (1 ≤ (archOf s u).level → Ends (.abortF u f) s fun t => free t ∧ held t x 0x1004))) ∧
  (∀ (s : State) (u : Nat) (f : RegF) (x : TSlot), s.fetches u = true → f.rd = 0 → f.ra = 0 → f.rb = 0 → f.fc = 0 →
     s.txnOf u = some x → s.drained u = true → s.capPoisoned u = false →
     let base := (s.liveRegion (s.unit u).execPlot).1
     ((s.unit u).lines.map (·.off)).Nodup → (∀ e ∈ (s.unit u).lines, (base + e.off) % 64 = 0 ∧ e.before.length = 64) →
     Ends (.abort u f) s fun t =>
       (∀ e ∈ (s.unit u).lines, ∀ i (h : i < e.before.length), t.byte (base + e.off + i) = e.before[i]) ∧
       ∀ a, (∀ e ∈ (s.unit u).lines, a < base + e.off ∨ base + e.off + 64 ≤ a) → t.byte a = s.byte a)

/-! ## Packed decimal (R281, R310 to R314, R345, R348, R350) -/

namespace Sys2Proof.Stated

/-- The value of a packed operand of n digits that a unit sees at a place, where it is valid (R310, R312). -/
def packedAt (s : State) (u n : Nat) (p : Place) : Option Dec := readPacked n (s.seenBytes u p.pa (packedLen n))

/-- The area of a packed operand whose address is in a register. -/
def packedReads (s : State) (u : Nat) (f : OpsF) (r : BitVec 5) (n : Nat) (p : Place) : Prop :=
  reads s u f.sp.toNat ((archOf s u).reg r).toNat (packedLen n) p

/-- A destination in memory that is not journaled, with room in the buffer for its one or two lines. -/
def area (s : State) (u : Nat) (f : OpsF) (r : BitVec 5) (n : Nat) (p : Place) : Prop :=
  writes s u f.sp.toNat ((archOf s u).reg r).toNat n p ∧ (s.unit u).stores.length + 4 ≤ 32

/-- The functions of two packed operands. -/
def decRows : List ((Nat → OpsF → Instr) × (Int → Int → Int)) :=
  [(.addp, fun a b => a + b), (.subp, fun a b => a - b), (.mulp, fun a b => a * b)]

/-- DCC of a result in n digits: OVERFLOW where it does not fit, else NONE (R314). -/
def dccOf (n : Nat) (v : Int) : Nat := if 10 ^ n ≤ v.natAbs then 3 else 0

/-- The OPS fields that a decimal function does not use are zero. -/
def decFields (f : OpsF) : Prop := f.rsv = 0 ∧ f.sp2 = 0

/-- An instruction retires with an architected state, its bytes on their way to a place. -/
def Wrote (s t : State) (u : Nat) (a : Arch) (p : Place) (data : List Byte) : Prop :=
  archOf t u = after a (pcNext s u) ∧ Stores s t u p.pa data

/-- The nibble of a byte string at a place, the high one of each byte first. -/
def nibbleAt (bs : List Byte) (i : Nat) : Nat :=
  if i % 2 = 0 then (bs.getD (i / 2) 0).toNat / 16 else (bs.getD (i / 2) 0).toNat % 16

end Sys2Proof.Stated

/-- A packed operand whose sign nibble is 0xA, 0xC, 0xE or 0xF is plus, 0xB or 0xD minus; a result ends with 0xC for plus
and zero, 0xD for minus; plus and minus zero compare equal. An operand is invalid exactly where a digit nibble is above
9, the sign nibble below 0xA, or the pad not 0; a zoned one where a high nibble is not 3, or in the last byte 3 or 7, or
a low nibble is above 9 (R311, R312). -/
def Obligations.PackedSigns : Prop :=
  (∀ (n : Nat) (bs : List Byte), 1 ≤ n → n ≤ 31 → bs.length = packedLen n →
    let sign := nibbleAt bs (2 * packedLen n - 1)
    let first := if n % 2 = 0 then 1 else 0
    (readPacked n bs = none ↔
      (∃ i, i < n ∧ 9 < nibbleAt bs (first + i)) ∨ sign < 10 ∨ (n % 2 = 0 ∧ nibbleAt bs 0 ≠ 0)) ∧
    (∀ d, readPacked n bs = some d → (d.neg = true ↔ sign = 0xB ∨ sign = 0xD))) ∧
  (∀ (bs : List Byte), bs ≠ [] →
    (readZoned bs = none ↔ (∃ i, i + 1 < bs.length ∧ (bs.getD i 0).toNat / 16 ≠ 3) ∨
      ((bs.getD (bs.length - 1) 0).toNat / 16 ≠ 3 ∧ (bs.getD (bs.length - 1) 0).toNat / 16 ≠ 7) ∨
      ∃ i, i < bs.length ∧ 9 < (bs.getD i 0).toNat % 16)) ∧
  (∀ (n : Nat) (v : Int), 1 ≤ n → n ≤ 31 →
    nibbleAt (writePacked n (Dec.ofInt v)) (2 * packedLen n - 1) = if v < 0 then 0xD else 0xC) ∧
  decCmp ⟨false, 0⟩ ⟨true, 0⟩ = 0 ∧ decCmp ⟨true, 0⟩ ⟨false, 0⟩ = 0

/-- A packed result of n digits holds the low n digits of the magnitude and the true sign, a zero result plus, and is read
back as that value (R310, R311, R314). ADDP, SUBP and MULP of valid operands write the low LD digits of the result
with its sign and set DCC; an invalid operand sets DCC to BADDIGIT and stores nothing. -/
def Obligations.PackedDecimals : Prop :=
  (∀ (n : Nat) (v : Int), 1 ≤ n → n ≤ 31 →
     (writePacked n (Dec.ofInt v)).length = packedLen n ∧
     ∃ d, readPacked n (writePacked n (Dec.ofInt v)) = some d ∧ d.mag = v.natAbs % 10 ^ n ∧ (v = 0 → d.neg = false) ∧
       (v.natAbs < 10 ^ n → d.toInt = v)) ∧
  (∀ (s : State) (u : Nat) (f : OpsF) (pa pb pd : Place), s.fetches u = true → decFields f →
     let a := archOf s u
     packedReads s u f f.ra a.la pa → packedReads s u f f.rb a.lb pb → area s u f f.rd (packedLen a.ld) pd →
     ∀ r ∈ decRows,
       (∀ x y, packedAt s u a.la pa = some x → packedAt s u a.lb pb = some y → Ends (r.1 u f) s fun t =>
         let v := r.2 x.toInt y.toInt
         Wrote s t u (a.setDcc (dccOf a.ld v)) pd (writePacked a.ld (Dec.ofInt v))) ∧
       ((packedAt s u a.la pa = none ∨ packedAt s u a.lb pb = none) → Ends (r.1 u f) s fun t =>
         archOf t u = after (a.setDcc 2) (pcNext s u) ∧ ∀ c, t.seenByte u c = s.seenByte u c))

/-- CMPP writes −1, 0 or 1 to rd, CVTPB the value modulo 2^32 with OVERFLOW outside 32 signed bits; each stores nothing
(R313, R314). CVTBP writes the signed value of ra packed, CVTPZ a packed operand zoned, CVTZP a zoned operand packed,
each in LD digits with OVERFLOW where it does not fit (R313, R314). -/
def Obligations.PackedConversions : Prop :=
  (∀ (s : State) (u : Nat) (f : OpsF) (pa : Place) (x : Dec), s.fetches u = true → decFields f →
     let a := archOf s u
     packedReads s u f f.ra a.la pa → packedAt s u a.la pa = some x →
     (∀ pb y, packedReads s u f f.rb a.lb pb → packedAt s u a.lb pb = some y → Ends (.cmpp u f) s fun t =>
       archOf t u = after ((a.setReg f.rd (if x.toInt < y.toInt then 0xFFFFFFFF#32 else if x.toInt = y.toInt then 0 else 1)).setDcc 0)
         (pcNext s u) ∧ ∀ c, t.byte c = s.byte c) ∧
     (f.rb = 0 → Ends (.cvtpb u f) s fun t =>
       archOf t u = after ((a.setReg f.rd (BitVec.ofInt 32 x.toInt)).setDcc
         (if x.toInt < -(2 ^ 31) ∨ 2 ^ 31 ≤ x.toInt then 3 else 0)) (pcNext s u) ∧ ∀ c, t.byte c = s.byte c)) ∧
  (∀ (s : State) (u : Nat) (f : OpsF) (pd : Place), s.fetches u = true → decFields f → f.rb = 0 →
     let a := archOf s u
     (area s u f f.rd (packedLen a.ld) pd → Ends (.cvtbp u f) s fun t =>
       let v := (a.reg f.ra).toInt
       Wrote s t u (a.setDcc (dccOf a.ld v)) pd (writePacked a.ld (Dec.ofInt v))) ∧
     (∀ pa x, packedReads s u f f.ra a.la pa → packedAt s u a.la pa = some x → area s u f f.rd a.ld pd → 1 ≤ a.ld →
       Ends (.cvtpz u f) s fun t => Wrote s t u (a.setDcc (if 10 ^ a.ld ≤ x.mag then 3 else 0)) pd (writeZoned a.ld x)) ∧
     (∀ pa x, reads s u f.sp.toNat (a.reg f.ra).toNat a.la pa → readZoned (s.seenBytes u pa.pa a.la) = some x →
       area s u f f.rd (packedLen a.ld) pd → Ends (.cvtzp u f) s fun t =>
         Wrote s t u (a.setDcc (if 10 ^ a.ld ≤ x.mag then 3 else 0)) pd (writePacked a.ld x)))

/-- DIVP (R313, R314, R345, R350): a divisor of zero gives nines and DIVZERO; a dividend below the divisor a quotient of
zero; any other starts the digits with PCF set and the PC unchanged; a later unit takes one digit, and the one that
leaves less than the divisor retires with PCF clear. One digit of a division: with j the largest power for which
divisor × 10^j does not exceed the dividend, the dividend loses digit × divisor × 10^j, the quotient gains digit ×
10^j, the digit is 1 to 9, and dividend = quotient × divisor + remainder is kept while the quotient fits (R350). -/
def Obligations.DivisionOfDecimals : Prop :=
  (∀ (s : State) (u : Nat) (f : OpsF) (pa pb pq pw : Place) (a b : Dec), s.fetches u = true → decFields f →
     let x := archOf s u
     packedReads s u f f.ra x.la pa → packedReads s u f f.rb x.lb pb → area s u f f.rd (packedLen x.ld) pq →
     area s u f f.ra (packedLen x.la) pw → pw.pa = pa.pa →
     packedAt s u x.la pa = some a → packedAt s u x.lb pb = some b → (x.divAreas f).clash = false →
     (x.pcf = false → b.mag = 0 → Ends (.divp u f) s fun t =>
       Wrote s t u (x.setDcc 1) pq (writePacked x.ld ⟨a.neg, 10 ^ x.ld - 1⟩)) ∧
     (x.pcf = false → b.mag ≠ 0 → a.mag ≠ 0 → a.mag < b.mag → Ends (.divp u f) s fun t =>
       Wrote s t u (x.setDcc 0) pq (writePacked x.ld ⟨false, 0⟩)) ∧
     (x.pcf = false → b.mag ≠ 0 → b.mag ≤ a.mag → Ends (.divp u f) s fun t =>
       archOf t u = (x.setDcc (if b.mag * 10 ^ x.ld ≤ a.mag then 3 else 0)).setPcf true) ∧
     (∀ pr q, x.pcf = true → packedReads s u f f.rd x.ld pr → packedAt s u x.ld pr = some q → b.mag ≠ 0 → b.mag ≤ a.mag →
       let r := divDigit 0 x.la x.ld a.mag b.mag q.mag
       Ends (.divp u f) s fun t =>
         if r.1 < b.mag then archOf t u = after x (pcNext s u) else archOf t u = x.setPcf true)) ∧
  (∀ (free la ld a b q : Nat), 0 < b → b ≤ a → a < 10 ^ 31 →
     let j := topPower a b
     let r := divDigit free la ld a b q
     b * 10 ^ j ≤ a ∧ a < b * 10 ^ (j + 1) ∧ r.1 < b * 10 ^ j ∧
     ∃ d, 1 ≤ d ∧ d ≤ 9 ∧ r.1 + d * b * 10 ^ j = a ∧ r.2 = (q + d * 10 ^ j) % 10 ^ ld)

/-! ## Block instructions and START (R343 to R352, R499) -/

/-- A unit of BMOV moves 256 bytes or what is left, from the low end or, where the target overlaps the source from above,
from the high end; BFILL stores the low byte of ra; each counts rb down, the forward ones move their addresses on; the
last unit retires, any other sets PCF and keeps the PC; rb = 0 retires and stores nothing. -/
def Obligations.BlockMoves : Prop :=
  ∀ (s : State) (u : Nat) (f : OpsF), s.fetches u = true → f.rsv = 0 → (s.unit u).stores.length + 6 ≤ 32 →
    f.ra ≠ 0 → f.rb ≠ 0 → f.rd ≠ 0 → f.ra ≠ f.rb → f.rb ≠ f.rd → f.rd ≠ f.ra →
    let a := archOf s u
    let ra := (a.reg f.ra).toNat
    let rd := (a.reg f.rd).toNat
    let rb := (a.reg f.rb).toNat
    let n := min rb 256
    let done (t : State) (b : Arch) : Prop := archOf t u = if n = rb then after b (pcNext s u) else b.setPcf true
    (rb = 0 → (Ends (.bmov u f) s fun t => Retires s t u a (pcNext s u)) ∧
      (f.sp2 = 0 → Ends (.bfill u f) s fun t => Retires s t u a (pcNext s u))) ∧
    (rb ≠ 0 → ¬(a.space f.sp.toNat = a.space f.sp2.toNat ∧ ra < rd ∧ rd < ra + rb) → ∀ p q,
      reads s u f.sp2.toNat ra n p → writes s u f.sp.toNat rd n q → Ends (.bmov u f) s fun t =>
        Stores s t u q.pa (s.seenBytes u p.pa n) ∧
        done t (((a.setReg f.ra (BitVec.ofNat 32 (ra + n))).setReg f.rd (BitVec.ofNat 32 (rd + n))).setReg f.rb
          (BitVec.ofNat 32 (rb - n)))) ∧
    (a.space f.sp.toNat = a.space f.sp2.toNat → ra < rd → rd < ra + rb → ∀ p q,
      reads s u f.sp2.toNat (ra + rb - n) n p → writes s u f.sp.toNat (rd + rb - n) n q → Ends (.bmov u f) s fun t =>
        Stores s t u q.pa (s.seenBytes u p.pa n) ∧ done t (a.setReg f.rb (BitVec.ofNat 32 (rb - n)))) ∧
    (rb ≠ 0 → f.sp2 = 0 → ∀ q, writes s u f.sp.toNat rd n q → Ends (.bfill u f) s fun t =>
      Stores s t u q.pa (List.replicate n (BitVec.ofNat 8 (a.reg f.ra).toNat)) ∧
      done t ((a.setReg f.rd (BitVec.ofNat 32 (rd + n))).setReg f.rb (BitVec.ofNat 32 (rb - n))))

/-- A unit of CBLK compresses 512 bytes or what is left, stores its output at rd, moves ra and rd on and rb back; the last
unit retires (R351). The output of a unit of CBLK is a Deflate stream of its bytes: it inflates to them (R351). -/
def Obligations.CompressedBlocks : Prop :=
  (∀ (s : State) (u : Nat) (f : OpsF) (p q : Place), s.fetches u = true → f.rsv = 0 →
     f.ra ≠ 0 → f.rb ≠ 0 → f.rd ≠ 0 → f.ra ≠ f.rb → f.rb ≠ f.rd → f.rd ≠ f.ra →
     let a := archOf s u
     let ra := (a.reg f.ra).toNat
     let rd := (a.reg f.rd).toNat
     let rb := (a.reg f.rb).toNat
     let n := min rb 512
     let out := cblkUnit (s.seenBytes u p.pa n) (decide (n = rb))
     0 < n → reads s u f.sp2.toNat ra n p → writes s u f.sp.toNat rd out.length q →
     (s.unit u).stores.length + (linesOf q.pa out.length).length ≤ 32 →
     Ends (.cblk u f) s fun t =>
       Stores s t u q.pa out ∧
       let b := ((a.setReg f.ra (BitVec.ofNat 32 (ra + n))).setReg f.rd (BitVec.ofNat 32 (rd + out.length))).setReg f.rb
         (BitVec.ofNat 32 (rb - n))
       archOf t u = if n = rb then after b (pcNext s u) else b.setPcf true) ∧
  (∀ (b : List Byte), b.length ≤ 512 →
     (inflateRaw 512 (cblkUnit b true)).1 = b)

/-! ## Control space (R9 to R14, R20, R21, R634) -/

namespace Sys2Proof.Stated

/-- The registers whose write has an effect of its own or a condition that joins fields; the statements of their blocks
say what those writes do. -/
def actsOnWrite (off : Nat) : Bool :=
  [Reg.GLN_CLEAR, Reg.ALM_CTRL, Reg.TCK_TXBUDGET, Reg.TCK_SRC, Reg.TCK_TOUT, Reg.JNL_CTRL, Reg.JNL_RINGCFG, Reg.TWN_CTRL,
    Reg.TWN_CFG, Reg.TWN_PAIRGEN, Reg.TWN_HB, Reg.STK_CTRL, Reg.ETH_CTRL, Reg.PLT_CTRL, Reg.WRP_TIMEOUT, Reg.WRP_LINKCFG,
    Reg.WRP_RTDATA, Reg.WRP_RTCTRL, Reg.THR_CTRL, Reg.FRW_CTRL, Reg.WFT_CTRL, Reg.WFT_RTDATA, Reg.PCK_RSTCTRL,
    Reg.PCK_WDOG, Reg.PCK_THERM, Reg.PCK_CLSPWR, Reg.LCT_TMASK, Reg.PAD_FUNC].contains off ||
  decide (Reg.SOW_PAIR ≤ off ∧ off < Reg.SOW_PAIR + 384) || decide (Reg.CPH_LOCK ≤ off ∧ off < Reg.CPH_LOCK + 64) ||
  decide (Reg.CPH_ALLOT ≤ off ∧ off < Reg.CPH_ALLOT + 1024) || decide (Reg.FRW_GROUP ≤ off ∧ off < Reg.FRW_GROUP + 256) ||
  decide (Reg.WFT_RWIN ≤ off ∧ off < Reg.WFT_RWIN + 1024) ||
  decide (0x400000 ≤ off ∧ off < 0x4C0000 ∧
    (0x8000 ≤ (off - 0x400000) % 0x10000 ∧ (off - 0x400000) % 0x10000 < 0x9200 ∨ (off - 0x400000) % 0x10000 = 0x120))

/-- The _HI words whose write submits a descriptor or an operation block. -/
def submits (off : Nat) : Bool := [Reg.THR_SUBMIT_HI, Reg.CPH_SUBMIT_HI, Reg.FRW_SUBMIT_HI].contains off

/-- Nothing but control space differs. -/
def OnlyCtl (s t : State) : Prop := t = { s with ctl := t.ctl }

/-- A word of control space differs from another state's only at the offsets of a list. -/
def RegsBut (s t : State) (offs : List Nat) : Prop := ∀ o, o ∉ offs → t.reg o = s.reg o

end Sys2Proof.Stated

/-- A write of a register writes its fields by their access codes and sets BADW where a field refuses its value; a write
at an offset that holds no register only sets BADW of its block; an executive's write has no effect, nor has one while a
reset holds the device. -/
def Obligations.RegisterWrites : Prop :=
  (∀ (m : Master) (s : State) (off : Nat) (v : Word), s.held = false → off % 4 = 0 → inDbg off = false →
    s.writesReg m off = true →
    (∀ r, regDef? off = some r → r.role = .single → actsOnWrite off = false → Ends (.registerWrite m off v) s fun t =>
      let w := r.write (s.locked off) (s.reg off) v
      t = if w.2 then (s.setReg off w.1).badw off else s.setReg off w.1) ∧
    (regDef? off = none → Ends (.registerWrite m off v) s fun t => t = s.badw off)) ∧
  (∀ (s : State) (off : Nat) (v : Word) (m : Master), s.held = true ∨ inDbg off = false ∧ mayWrite m off = false →
    Ends (.registerWrite m off v) s fun t => t = s) ∧
  (∀ (s : State) (off e : Nat), errRegOf off = some e →
    (s.badw off).bit e 0 = true ∧ OnlyCtl s (s.badw off) ∧ RegsBut s (s.badw off) [e]) ∧
  ∀ (f : FieldDef) (locked bad : Bool) (v w : Word), f.lo ≤ f.hi → f.hi < 32 →
    let x := f.write locked v (w, bad)
    let new := bits v f.hi f.lo
    let old := bits w f.hi f.lo
    let now := bits x.1 f.hi f.lo
    (∀ i, i < f.lo ∨ f.hi < i → x.1.getLsbD i = w.getLsbD i) ∧
    (f.acc = .ro ∨ f.acc = .rs → x = (w, bad)) ∧
    (f.acc = .rw ∨ f.acc = .rwl ∧ locked = false →
      if f.legalValue new then now = new ∧ x.2 = bad else x = (w, true)) ∧
    (f.acc = .rwl → locked = true → x = (w, bad || new != old)) ∧
    (f.acc = .w1c → x.2 = bad ∧ ∀ i, f.lo ≤ i → i ≤ f.hi → x.1.getLsbD i = (w.getLsbD i && !v.getLsbD i)) ∧
    (f.acc = .wo → x = (w, bad || !f.legalValue new)) ∧
    (f.acc = .lock → x.2 = bad ∧ (new = 0 → now = old) ∧ (new ≠ 0 → now = new))

/-- A read of a _LO word returns it and latches its _HI word, a read of a _HI word returns what was latched; a write of a
_LO word is held and changes no register, a write of a _HI word writes both together; a master that may not read a
register reads zero (R11, R634). A ball goes to the loser once the winner is off (R21). -/
def Obligations.QuantitiesAndBalls : Prop :=
  (∀ (m : Master) (s : State) (off : Nat) (r : RegDef), s.held = false → off % 4 = 0 → inDbg off = false →
    regDef? off = some r →
    (r.role = .lo → s.readsReg m off = true → s.readSide m off = none → Ends (.regPairLoRead m off) s fun t =>
      t.ctl.rdata = s.view off ∧ t.latched (off + 4) = s.view (off + 4) ∧ OnlyCtl s t ∧ RegsBut s t []) ∧
    (r.role = .hi → s.readsReg m off = true → s.readSide m off = none → Ends (.regPairHiRead m off) s fun t =>
      t = s.answerRead (s.latched off)) ∧
    (mayRead m off = false → (Ends (.regPairLoRead m off) s fun t => t = s.answerRead 0) ∧
      Ends (.regPairHiRead m off) s fun t => t = s.answerRead 0) ∧
    (∀ v, r.role = .lo → r.writable = true → s.writesReg m off = true → Ends (.regPairLoWrite m off v) s fun t =>
      t.heldLo (off + 4) = v ∧ OnlyCtl s t ∧ RegsBut s t []) ∧
    (∀ v, r.role = .hi → r.writable = true → s.writesReg m off = true → submits off = false → 4 ≤ off →
      (r.lockable && s.locked off) = false → ((s.heldLo off).toNat + 2 ^ 32 * v.toNat) &&& r.zeroMask = 0 →
      Ends (.regPairHiWrite m off v) s fun t =>
        t.reg off = v ∧ t.reg (off - 4) = s.heldLo off ∧ OnlyCtl s t ∧ RegsBut s t [off, off - 4])) ∧
  (∀ (m : Master) (s : State), s.held = false → s.readsReg m Reg.TCK_TIME_LO = true →
    Ends (.regPairLoRead m Reg.TCK_TIME_LO) s fun t => t.ctl.rdata = BitVec.ofNat 32 s.timeBase ∧
      t.latched Reg.TCK_TIME_HI = BitVec.ofNat 32 (s.timeBase / 2 ^ 32)) ∧
  ∀ (s : State) (p : SharedPin), s.pinLoser p = true → s.pinWinner p = false → Ends (.resourceTake p) s fun t =>
    t.bit Reg.PAD_STATUS (conflictBit p) = false ∧ OnlyCtl s t ∧ RegsBut s t [Reg.PAD_STATUS]

/-! ## The tick and its sources (R39 to R57, R68, R69, R82 to R85, R298) -/

namespace Sys2Proof.Stated

/-- A latch with nothing pending. -/
def quiet : Latch := { tick := none, mcheck := none, ends := [], engine := false, doorbell := false, halt := false }

/-- A unit runs, is not halted and waits for nothing, in a pair that is not stopped, outside safe state. -/
def running (s : State) (u : Nat) : Prop :=
  (s.unit u).run = true ∧ (s.unit u).halted = false ∧ (s.unit u).wait = .none ∧ s.safe = false ∧
  (s.pair (pairOf u)).takeover = none ∧ (s.pair (pairOf u)).reload = false

/-- A tick that an edge or symbol would make at a time lies in its window. -/
def inWindow (s : State) (at_ : Nat) : Prop := s.expected - s.windowNs ≤ at_ ∧ at_ ≤ s.expected + s.windowNs

/-- Nothing but these parts differs: the tick block. -/
def OnlyTick (s t : State) : Prop := t = { s with tick := t.tick }

/-- A tick symbol with a value has left on every link below, and on no other. -/
def symbols (s x : State) (v : Nat) : Prop := ∃ count root, x.out = (s.sendSymbol (tickBody v count root)).out

end Sys2Proof.Stated

/-- The sources of the tick, in the time base of R39 (R40): an accepted edge makes a tick 60 ns later; one before its window
is ignored with EARLY_EDGE; in holdover an edge within its window is counted, and the eighth in a row ends holdover; a
symbol on the uplink is forwarded, aligns the time base (whole the first time, and by at most 100 ns then: the model's
choice of log entry 116) and schedules the tick at the value that it carries; the root sends a symbol 8 µs before its tick;
the delay of the uplink is half its round trip; TICK_OUT falls at the end of its pulse, and carries the pulse-per-second
output when that has the ball. A tick occurs when it is due, and only then: it is counted, the period written before it
starts, and a window that closes without its edge makes the tick and enters holdover. The opening of an epoch writes its
number, its time and an empty undo group, and starts the sequence of dispatches; a tick during a seal or a rollback closes
nothing and is counted as skipped; no epoch opens at or above the reservation; a descriptor change takes effect (R42, R48,
R51, R53, R72, R130, R224). -/
def Obligations.Ticks : Prop :=
  (∀ (s : State) (t : Nat),
     let n := s.advance t
     (n.tickSel = 1 → n.tick.sched = none →
       (n.holdover = false → inWindow n (n.timeBase + 60) → Ends (.tickInEdge t) s fun x =>
         x = n.mapTick fun k => { k with sched := some (n.timeBase + 60) }) ∧
       (n.holdover = true → inWindow n (n.timeBase + 60) → Ends (.tickInEdge t) s fun x =>
         x.tick.sched = some (n.timeBase + 60) ∧ x.tick.extRun = (if n.tick.extRun < 7 then n.tick.extRun + 1 else 0) ∧
         x.holdover = decide (n.tick.extRun < 7) ∧ OnlyCtl n { x with tick := n.tick } ∧ RegsBut n x [Reg.TCK_STATUS]) ∧
       (n.holdover = false → n.timeBase + 60 < n.expected - n.windowNs → Ends (.tickInEdge t) s fun x =>
         x.bit Reg.TCK_ERR 2 = true ∧ x = { n with ctl := x.ctl, gleaner := x.gleaner })) ∧
     (n.tickSel ≠ 1 →
       (n.bit Reg.PAD_FUNC 0 = false → Ends (.tickInEdge t) s fun x => x = n) ∧
       (n.bit Reg.PAD_FUNC 0 = true → n.safe = false → Ends (.tickInEdge t) s fun x =>
         x.reg64 Reg.ETH_PTPOFF_LO = n.free % 2 ^ 64 ∧ x = { n with ctl := x.ctl, fresh := x.fresh } ∧
         RegsBut n x [Reg.ETH_PTPOFF_LO, Reg.ETH_PTPOFF_HI])) ∧
     (∀ (link carried : Nat), n.tickSel = 2 → link = n.fld Reg.TCK_SRC 6 4 → n.linkUp link = true → n.safe = false →
       n.holdover = false → n.tick.sched = none → n.tick.symbol = none → 8000 ≤ carried →
       let want := (n.time : Int) - ((carried : Int) - 8000 + (n.reg Reg.TCK_LINKDLY).toNat)
       (n.tick.aligned = true → inWindow n carried → Ends (.tickSymbol t link carried) s fun x =>
         x.tick = { n.tick with base := n.tick.base + max (-100) (min 100 (want - n.tick.base)), symbol := some carried
                                sched := some carried } ∧
         symbols n x carried ∧ x = { n with tick := x.tick, out := x.out, fresh := x.fresh }) ∧
       (n.tick.aligned = false → Ends (.tickSymbol t link carried) s fun x =>
         x.timeBase = carried - 8000 + (n.reg Reg.TCK_LINKDLY).toNat ∧ x.tick.aligned = true ∧
         symbols n x carried)) ∧
     (n.tickSel ≠ 2 → n.expected ≤ n.timeBase + 8000 → n.tick.symbol = none → n.safe = false →
       Ends (.tickSymbolSend t) s fun x =>
         x.tick = { n.tick with symbol := some n.expected } ∧ symbols n x n.expected ∧
         x = { n with tick := x.tick, out := x.out }) ∧
     (∀ trip, s.tickSel = 2 → s.linkUp (s.fld Reg.TCK_SRC 6 4) = true →
       (s.weft.delayTick = none ∨ ∃ k, s.weft.delayTick = some k ∧ k + 1024 ≤ s.reg64 Reg.TCK_TICKCNT_LO) →
       Ends (.linkDelayMeasure trip) s fun x =>
         x.fld Reg.TCK_LINKDLY 15 0 = min 65535 (trip / 2) ∧ RegsBut s x [Reg.TCK_LINKDLY] ∧
         x.weft = { s.weft with delayTick := some (s.reg64 Reg.TCK_TICKCNT_LO) } ∧
         x = { s with ctl := x.ctl, weft := x.weft }) ∧
     (n.tick.tickOut = true → n.bit Reg.TCK_TOUT 0 = true → n.tick.tickOutEnd ≤ n.timeBase → Ends (.tickOutEnd t) s fun x =>
       x = n.mapTick fun k => { k with tickOut := false }) ∧
     (n.bit Reg.TCK_TOUT 0 = false → n.bit Reg.PAD_FUNC 1 = true → n.bit Reg.PAD_STATUS 1 = false →
       (Ends (.ppsOut t true) s fun x => x = n.mapTick fun k => { k with tickOut := true, ppsEnd := n.time + 100000 }) ∧
       (n.tick.ppsEnd ≤ n.time → Ends (.ppsOut t false) s fun x => x = n.mapTick fun k => { k with tickOut := false }))) ∧
  ((∀ (s : State) (t : Nat), let n := s.advance t
     (n.held = false → n.tickSel = 0 → n.tick.sched = none → n.expected ≤ n.timeBase → Ends (.tick t) s fun x => x = n.tickNow) ∧
     (∀ k, n.held = false → n.tick.sched = some k → k ≤ n.timeBase → Ends (.tick t) s fun x => x = n.tickNow) ∧
     (n.tickDue = false → Ends (.tick t) s fun x => x = n) ∧
     (n.tickSel = 1 ∨ n.tickSel = 2 → n.holdover = false → n.tick.sched = none → n.held = false →
       n.expected + n.windowNs ≤ n.timeBase → Ends (.tickWindowClose t) s fun x =>
         ∃ y, x = State.tickNow y true ∧ y.holdover = true ∧ y.bit Reg.TCK_ERR 1 = true ∧ y.tick.extRun = 0 ∧ y.time = n.time)) ∧
   (∀ (s : State) (c : Bool), s.safe = true → s.plots.plots = [] → s.reg64 Reg.TCK_TICKCNT_LO + 1 < 2 ^ 64 → let x := s.tickNow c
     x.reg64 Reg.TCK_TICKCNT_LO = s.reg64 Reg.TCK_TICKCNT_LO + 1 ∧ x.tick.lastTick = s.timeBase ∧
     x.tick.period = s.fld Reg.TCK_PERIOD 7 0 ∧ x.tick.sched = none ∧ x.tick.symbol = none ∧
     x.tick.tickOut = (s.tick.tickOut || s.bit Reg.TCK_TOUT 0)) ∧
   (∀ (s : State) (e : Nat), e < 2 ^ 64 → let x := s.openEpoch e
     x.reg64 Reg.TCK_EPOCH_LO = e ∧ x.tick.epochOpen = true ∧ x.tick.openTime = s.timeBase ∧ x.sower.nextSeq = 0 ∧
     x.journal.undo = s.journal.undo ++ [{ epoch := e, recs := [] }] ∧
     (e + 65536 < s.tick.resv → x.tick.resvWrite = s.tick.resvWrite) ∧
     (s.tick.resv ≤ e + 65536 → s.tick.resvWrite = none → x.tick.resvWrite = some (s.tick.resv + 2 ^ 20)) ∧
     RegsBut s x [Reg.TCK_EPOCH_LO, Reg.TCK_EPOCH_LO + 4]) ∧
   (∀ s : State, s.safe = false → s.tick.admitted = true → s.tick.rollback = none →
     (∀ z, s.tick.sealing = some z → z.late = true → let x := s.epochTick
       (x.reg Reg.TCK_CNT_SKIP).toNat = min 0xFFFFFFFF ((s.reg Reg.TCK_CNT_SKIP).toNat + 1) ∧
       x.fld Reg.TCK_STATUS 31 28 = min 15 (s.fld Reg.TCK_STATUS 31 28 + 1) ∧ OnlyCtl s x ∧
       RegsBut s x [Reg.TCK_CNT_SKIP, Reg.TCK_STATUS]) ∧
     (s.tick.sealing = none → s.epoch + 1 < s.tick.resv → s.epochTick = s.closeEpoch)) ∧
   (∀ (s : State) (r : Rollback), s.safe = false → s.tick.admitted = true → s.tick.rollback = some r → s.tick.sealing = none →
     (s.tick.resv ≤ r.next ∨ r.restored = false → let x := s.epochTick
       (x.reg Reg.TCK_CNT_SKIP).toNat = min 0xFFFFFFFF ((s.reg Reg.TCK_CNT_SKIP).toNat + 1) ∧ x.tick = s.tick) ∧
     (r.restored = true → s.rbCleared r = true → r.next < s.tick.resv → r.next < 2 ^ 64 → let x := s.epochTick
       x.reg64 Reg.TCK_EPOCH_LO = r.next ∧ x.tick.rollback = none ∧ x.bit Reg.TCK_STATUS 5 = false ∧
       x.bit Reg.TCK_STATUS 2 = true ∧ x.fld Reg.TCK_STATUS 31 28 = 0)) ∧
   ∀ (s : State) (p : Nat) (x : Plot) (d : Desc), (p, x) ∈ s.plots.plots → x.next = some d →
     (p, { x with desc := { d with state := x.desc.state }, next := none }) ∈ s.applyDescs.plots.plots)

/-- At a boundary the inputs that wait in the latch act: a tick is taken, MCHECK and an interrupt enter their handlers, a
halt stops the pair; a budget that runs out becomes such an input, once. -/
def Obligations.InputsAtBoundary : Prop :=
  ∀ (s : State) (u : Nat), running s u → u < 192 →
    let a := archOf s u
    (∀ e, (s.unit u).latch = { quiet with tick := some e } → Ends (.asyncInputAtBoundary u) s fun t =>
      (t.unit u) = { s.unit u with latch := quiet } ∧ (∀ v, v ≠ u → t.unit v = s.unit v) ∧ t = { s with units := t.units }) ∧
    (∀ sub, (s.unit u).latch = { quiet with mcheck := some sub } → ¬(a.level = 2 ∧ a.exl = true) → a.win.resident < 16 →
      Ends (.asyncInputAtBoundary u) s fun t => let b := archOf t u
        (t.unit u).latch = quiet ∧ b.sr.depc = a.pc ∧ b.sr.depsw = a.sr.psw ∧ b.sr.deispc = a.sr.ispc ∧
        b.sr.decause = (Exc.later 0x0C sub).cause a.level a.txn ∧ b.pc = a.sr.dvba + 0x300 ∧ b.level = 2 ∧ b.exl = true ∧
        b.ie = false ∧ b.win = a.win.push none) ∧
    (∀ eng, (s.unit u).latch = { quiet with engine := eng, doorbell := !eng } → a.ie = true → a.exl = false →
      s.hasExec u = true → a.win.resident < 16 → Ends (.asyncInputAtBoundary u) s fun t => let b := archOf t u
        (t.unit u).latch = quiet ∧ b.sr.epc = a.pc ∧ b.sr.epsw = a.sr.psw ∧ b.sr.eispc = a.sr.ispc ∧
        b.sr.ecause = (Exc.later 0x0B (if eng then 1 else 2)).cause a.level a.txn ∧ b.pc = a.sr.evba + 0x2C0 ∧
        b.level = 1 ∧ b.exl = true ∧ b.ie = false ∧ b.win = a.win.push none) ∧
    ((s.unit u).latch = quiet → a.atHandler 0x0C = true → s.drained u = true → Ends (.asyncInputAtBoundary u) s fun t =>
      t = (s.event (pairOf u) 2 (detail 0xFF (s.unit u).execPlot 0)).abortWith u 0x1004) ∧
    ((s.unit u).latch = { quiet with halt := true } → Ends (.asyncInputAtBoundary u) s fun t =>
      (t.unit u).halted = true ∧ (t.unit u).latch = quiet ∧ archOf t u = a ∧
      (t.pair (pairOf u)).stop = some .request) ∧
    (∀ t, let n := s.advance t
      (s.unit u).latch = quiet → (s.unit u).txn.isSome = true → (s.unit u).coreFrom.isSome = true →
      (s.unit u).budget < n.coreTime u → Ends (.budgetExpire t u) s fun x =>
        x.unit u = { s.unit u with latch := { quiet with ends := [.budget] } } ∧ (∀ v, v ≠ u → x.unit v = s.unit v) ∧
        x = { n with units := x.units })

/-! ## Seal, rollback (R53, R58 to R66, R75 to R80, R139) -/

/-- The steps of a seal: the marker of a pair, the last of which makes the cut-off; the write-back of a cluster, which
leaves its lines of the epoch clean; the hash, which is the chain of R139; the MAC over header and chain (a failing engine
or ring records its own event first); the partner's acknowledgement; each records itself in the seal alone while something else is still owed. A new epoch
reservation is in force once both copies hold it. A seal that completes writes TCK_SEALED, removes the epoch's marks
and its undo group, and ends; one that fails rolls back: SEALFAIL, admission closed, no seal and no open epoch, and
the restore to come. The limit of TCK_SEALFAIL fails a seal. The restore takes the undo groups from the first epoch on
away, puts their before-images back and writes TCK_RBEPOCH. -/
def Obligations.Seals : Prop :=
  ((∀ (s : State) (v : Nat), s.tick.resvWrite = some v → Ends .reservationWritten s fun t =>
     t = { s with tick := { s.tick with resv := v, resvWrite := none }
                  mram := { s.mram with resvA := some v, resvB := some v, resvUsed := true } }) ∧
   ∀ (s : State) (z : Seal), s.tick.sealing = some z → s.safe = false → ((s.votesOf z.epoch).any (·.failed)) = false →
     (∀ p, p ∈ z.owed → (s.pair p).takeover = none → (∀ u ∈ unitsOfPair p, (s.unit u).latch.tick = none) →
       Ends (.closeMarker p) s fun t =>
         let left := z.owed.filter (· ≠ p)
         (left ≠ [] → t = s.mapTick fun k => { k with sealing := some { z with owed := left } }) ∧
         (left = [] → z.cutoff = false → z.hashDone = false → t.tick.sealing =
           some { z with owed := [], cutoff := true, solo := s.noPartner, span := !(s.votesOf z.epoch).isEmpty })) ∧
     (∀ c, c ∈ z.wbOwed → (z.owed.any fun p => clusterOf p = c) = false → s.markPending c z.epoch = false →
       z.hashDone = false → Ends (.sealWritebackDone c) s fun t =>
         t.tick.sealing = some { z with wbOwed := z.wbOwed.filter (· ≠ c) } ∧
         (t.cluster c).lines = ((s.cluster c).lines.map fun l => if l.mark = some z.epoch then { l with dirty := none } else l) ∧
         (∀ d, d ≠ c → t.cluster d = s.cluster d) ∧ (∀ a, t.byte a = s.byte a) ∧
         t = { s with tick := t.tick, clusters := t.clusters }) ∧
     (∀ h, s.ownSheaf z.epoch = some h → z.cutoff = true → z.hashDone = false → z.macDone = false →
       (Ends (.sealHashDone false) s fun t => t.tick.sealing = some { z with hashDone := true } ∧
         t = { s.setSheaf { h with chain := sha384 (h.body ++ h.header) } with tick := t.tick }) ∧
       Ends (.sealHashDone true) s fun t => ∃ e < 2, t = (s.drawn.errEvent Reg.CPH_ERR 5 (Src.cipher e) 2 noPlot e).failSeal .other) ∧
     (∀ h k, s.ownSheaf z.epoch = some h → z.cutoff = true → z.hashDone = true → z.macDone = false → z.acked = false →
       z.solo = false → s.heldSheafKey (keyGen z.epoch) = some k →
       (Ends (.sealMacDone false false) s fun t => t.tick.sealing = some { z with macDone := true } ∧
         { h with mac := hmac384 k (h.header ++ h.chain) } ∈ t.journal.sheaves) ∧
       (Ends (.sealMacDone true false) s fun t => ∃ e < 2, t = (s.drawn.errEvent Reg.CPH_ERR 5 (Src.cipher (2 + e)) 2 noPlot (2 + e)).failSeal .other) ∧
       Ends (.sealMacDone false true) s fun t => t = ((s.setBit Reg.JNL_ERR 5 true).dramRead (s.areaBase + h.offset) .poison).failSeal .other) ∧
     (∀ τ l, z.macDone = true → z.solo = false → z.acked = false → s.paired = true → l = s.linkA ∨ l = s.linkB →
       z.wbOwed ≠ [] → Ends (.sheafAck τ l z.epoch) s fun t =>
         t = (s.advance τ).mapTick fun k => { k with sealing := some { z with acked := true } })) ∧
  ((∀ (s : State) (z : Seal), z.epoch < 2 ^ 64 → s.sower.slots = [] → s.eth.sessions = [] → z.solo = true → s.twin.handBack = none →
     s.ownSheaf z.epoch = none → let x := s.sealDone z
     x.reg64 Reg.TCK_SEALED_LO = z.epoch ∧ x.tick.sealing = none ∧
     (∀ g ∈ x.journal.undo, g.epoch ≠ z.epoch) ∧ (∀ c < 12, ∀ l ∈ (x.cluster c).lines, l.mark ≠ some z.epoch) ∧
     (∀ a, x.byte a = s.byte a)) ∧
   (∀ (s : State) (z : Seal) (τ : Nat), let n := s.advance τ
     s.tick.sealing = some z → s.safe = false →
     z.closeTime + n.fld Reg.TCK_SEALFAIL 3 0 * z.period * 1000 < n.timeBase → Ends (.sealFailLimit τ) s fun t =>
       t = n.failSeal (if z.macDone && !z.acked && !z.solo then .mirror else .other)) ∧
   (∀ (s : State) (z : Seal) (c : RbCause), s.tick.sealing = some z → z.voted = false → s.tick.afterRb = false →
     s.weft.votes = [] → (∀ u, (s.unit u).txn = none) → let x := s.failSeal c
     x.tick.sealing = none ∧ x.tick.epochOpen = false ∧ x.bit Reg.TCK_STATUS 2 = false ∧ x.bit Reg.TCK_STATUS 5 = true ∧
     x.bit Reg.TCK_ERR 5 = true ∧ (∀ a, x.byte a = s.byte a) ∧
     ∃ r, x.tick.rollback = some r ∧ r.first = z.epoch ∧ r.next = s.epoch + 1 ∧ r.restored = false ∧ r.cause = c) ∧
   ∀ (s : State) (r : Rollback), s.tick.rollback = some r → r.restored = false → s.safe = false →
     (∀ u ∈ allUnits, (s.unit u).txn = none) → Ends .rollbackRestoreDone s fun t =>
       t.tick.rollback = some { r with restored := true } ∧ t.journal.undo = s.journal.undo.filter (fun g => g.epoch < r.first) ∧
       t.journal.gapRb = true ∧ (r.first < 2 ^ 64 → t.reg64 Reg.TCK_RBEPOCH_LO = r.first) ∧
       ∀ g j e, s.sower.slots = [] → (s.journal.undo.filter fun g => r.first ≤ g.epoch) = [g] → g.recs = [j] →
         j.lines = [e] → e.before.length = 64 → sheafFrame + g.bodyLen ≤ s.areaSize →
         (s.recordBase j + e.off + 64 ≤ s.areaBase ∨ s.areaBase + s.areaSize ≤ s.recordBase j + e.off) → t.bytes (s.recordBase j + e.off) 64 = e.before)

/-! ## Stakes (R94 to R120) -/

/-- A request at a slice: granted in the free way of the lowest bucket of its window; granted beside its compatible
holders; else queued, and every younger holder in conflict wounded. An uncorrectable bucket becomes FREE. A release
frees the entry of a last holder, or grants the oldest waiter that is compatible. An answer retires the STAKE that its
unit stands at with its code and records what is held; a wound reaches the latch of the attempt it was sent for, and
is counted where that attempt is over; a remote request without reply ends with UNREACHABLE; CLEAR empties the table
and makes it READY. -/
def Obligations.StakesAtTheSlice : Prop :=
  (∀ (s : State) (i : Nat) (m : SliceMsg), i < 16 → s.sliceMsg i = some m → s.stakesReady = true → m.who.dev = s.devId →
     let rest := s.stakes.msgs.erase m
     (∀ x b w, m.op = .request x → s.stakeEntry i m.ns m.key = none → s.occupied i < s.highWater →
       s.freeWay i m.ns m.key = some (b, w) → Ends (.sliceRequest i none) s fun t =>
         let e : StakeEntry := { slice := i, bucket := b, way := w, ns := m.ns, key := m.key, excl := x, holders := [m.who]
                                 waiters := [], hdev := m.who.dev, hslot := m.who.slot }
         e ∈ t.stakes.entries ∧ t.stakes.msgs = rest ∧ t.bytes (s.wayAddr i b w) 16 = e.bytes s.devId ∧
         t.stakes.grants = s.stakes.grants ++ [{ slot := m.who.slot, ns := m.ns, key := m.key, code := 0 }]) ∧
     (∀ x e, m.op = .request x → s.stakeEntry i m.ns m.key = some e → (e.waiters.any fun w => w.who.older m.who) = false →
       (e.compatible m.who x = true → Ends (.sliceRequest i none) s fun t =>
         e.grant m.who x ∈ t.stakes.entries ∧ m.who ∈ (e.grant m.who x).holders ∧ (e.grant m.who x).excl = x ∧
         t.stakes.msgs = rest ∧ t.stakes.grants =
           s.stakes.grants ++ [{ slot := m.who.slot, ns := m.ns, key := m.key, code := e.grantCode m.who }]) ∧
       (e.compatible m.who x = false → e.holders ≠ [] → Ends (.sliceRequest i none) s fun t =>
         { e with waiters := e.waiters ++ [{ who := m.who, excl := x }] } ∈ t.stakes.entries ∧ t.stakes.grants = s.stakes.grants ∧
         ((x || e.excl) = true → ∀ h ∈ e.holders, ∀ k, h.same m.who = false → m.who.older h = true → h.dev = s.devId →
           s.tslot h.slot = some k → k.stamp = h.stamp → k.seq = h.seq → k.attempt = h.attempt → k.slot = h.slot →
           (e.excl = false → ∃ r, s.stakeRec h.slot m.ns m.key = some r ∧ r.home = s.devId ∧ r.held.isSome = true) →
           { slot := h.slot, attempt := k.attempt, slice := i } ∈ t.stakes.wounds))) ∧
     (∀ x j, m.op = .request x → j < s.fld Reg.STK_CFG 3 0 → Ends (.sliceRequest i (some j)) s fun t =>
       (∀ e ∈ t.stakes.entries, ¬(e.slice = i ∧ e.bucket = (s.homeBucket m.ns m.key + j) % 2 ^ 19)) ∧ t.bit Reg.STK_ERR 1 = true) ∧
     (∀ e, m.op = .release → s.entryOf i m.ns m.key m.who = some e →
       (e.holders.filter fun h => !h.same m.who) = [] →
       (e.waiters = [] → Ends (.sliceRelease i none) s fun t =>
         (∀ f ∈ t.stakes.entries, ¬(f.slice = e.slice ∧ f.bucket = e.bucket ∧ f.way = e.way)) ∧ t.stakes.msgs = rest ∧
         t.bytes (s.wayAddr e.slice e.bucket e.way) 16 = zeros 16) ∧
       (∀ w, e.waiters = [w] → w.who.same m.who = false → w.who.dev = s.devId → Ends (.sliceRelease i none) s fun t =>
         t.stakes.grants = s.stakes.grants ++ [{ slot := w.who.slot, ns := e.ns, key := e.key, code := 0 }] ∧
         ∃ f ∈ t.stakes.entries, f.holders = [w.who] ∧ f.excl = w.excl ∧ f.waiters = [] ∧ f.key = e.key ∧ f.ns = e.ns))) ∧
  ((∀ (s : State) (slot u : Nat) (rd : BitVec 5) (g : GrantMsg) (r : StakeRec),
     (s.stakes.grants.find? fun g => decide (g.slot = slot) && s.takesAnswer g) = some g → r.home = s.devId → s.stakeRec slot g.ns g.key = some r → r.waits.isSome = true →
     s.standing slot g.ns g.key = some (u, rd) → (s.unit u).stepping = false → Ends (.stakeGrant slot) s fun t =>
       archOf t u = after ((archOf s u).setReg rd (BitVec.ofNat 32 g.code)) (pcNext s u) ∧ (t.unit u).wait = .none ∧
       (g.code = 0 ∨ g.code = 2 → { r with waits := none, held := r.waits } ∈ t.stakes.recs) ∧
       (∀ v, v ≠ u → t.unit v = s.unit v) ∧ t.mem = s.mem) ∧
   (∀ (s : State) (slot : Nat) (w : Wound), (s.stakes.wounds.find? fun w => w.slot = slot) = some w →
     (∀ k u, s.tslot slot = some k → k.unit = some u → k.attempt = w.attempt → (s.unit u).latch.ends = [] →
       Ends (.woundPresent slot) s fun t => (t.unit u).latch.ends = [.wound w.slice w.attempt] ∧
         t.stakes.wounds = s.stakes.wounds.erase w ∧ t = { s with stakes := t.stakes, units := t.units }) ∧
     (s.tslot slot = none → w.slice < 16 → Ends (.woundPresent slot) s fun t =>
       (t.reg (sliceReg Reg.STK_CNT_WOUND w.slice)).toNat =
         min 0xFFFFFFFF ((s.reg (sliceReg Reg.STK_CNT_WOUND w.slice)).toNat + 1) ∧ t.units = s.units ∧
       t.stakes.wounds = s.stakes.wounds.erase w)) ∧
   (∀ (s : State) (τ u key : Nat) (x : TSlot) (rd : BitVec 5) (ex : Bool) (r : StakeRec), let n := s.advance τ
     s.txnOf u = some x → (s.unit u).wait = .stake rd key ex → s.stakeRec x.slot (s.unit u).execPlot key = some r →
     r.home ≠ s.devId → r.waits.isSome = true → r.queued = false → n.usPassed (r.issued + s.fld Reg.STK_REMOTE 7 0 * 1000) = true →
     (s.unit u).halted = false → (s.unit u).stepping = false → s.safe = false → Ends (.remoteStakeTimeout τ u) s fun t =>
       archOf t u = after ((archOf s u).setReg rd 6) (pcNext s u) ∧ (t.unit u).wait = .none ∧ t.bit Reg.STK_ERR 4 = true) ∧
   (∀ (s : State) (m : Master) (v : Word), s.writesReg m Reg.STK_CTRL = true → s.stakesReady = false →
     (s.writeFields Reg.STK_CTRL (v ||| 1)).bit Reg.STK_CTRL 31 = true → Ends (.stkClear m v) s fun t =>
       t.bit Reg.STK_STATUS 1 = true ∧ OnlyCtl s t) ∧
   ∀ s : State, s.bit Reg.STK_STATUS 1 = true → Ends .stakeTableCleared s fun t =>
     t.stakes = Stakes.reset ∧ t.bit Reg.STK_STATUS 0 = true ∧ t.bit Reg.STK_STATUS 1 = false ∧
     (∀ a, s.reg64 Reg.STK_BASE_LO ≤ a → a < s.reg64 Reg.STK_BASE_LO + 2 ^ 29 → t.byte a = 0) ∧
     (∀ a, a < s.reg64 Reg.STK_BASE_LO ∨ s.reg64 Reg.STK_BASE_LO + 2 ^ 29 ≤ a → t.byte a = s.byte a))

/-! ## The journal engine (R129 to R156) -/

/-- The journal engine accepts the oldest waiting capture buffer: its record joins the open epoch's group, and the COMMIT
retires; without room it waits with the bit of JNL_ERR. A lookup that misses lets the request be dispatched, one that
hits completes it. The applier writes the line entries of the next sheaf of the partner and moves JNL_APPLIED. The key of
a generation goes into its slot. Sheaves past their time are freed. INIT empties the ring and makes it READY. -/
def Obligations.JournalEngine : Prop :=
  (∀ (s : State) (w : CommitWait) (l : List CommitWait) (k : TSlot), s.journal.waits = w :: l → s.mayRetire w.unit = true →
    s.tslot w.slot = some k → s.capPoisoned w.unit = false → s.weft.spans = [] →
    let e := s.epochAt w.unit
    (∀ b, s.commitBlock e w.rlen (s.unit w.unit).lines.length = some b → Ends (.captureAccept false) s fun t =>
      t = s.setBit Reg.JNL_ERR b true) ∧
    (s.commitBlock e w.rlen (s.unit w.unit).lines.length = none → (s.unit w.unit).txn = some w.slot →
      Ends (.captureAccept false) s fun t =>
        (t.unit w.unit).txn = none ∧ (t.unit w.unit).run = false ∧ (archOf t w.unit).pc = pcNext s w.unit ∧
        (∀ g ∈ s.journal.undo, g.epoch = e → { g with recs := g.recs ++ [s.recordOf w.unit k w.rlen] } ∈ t.journal.undo) ∧
        (∀ x ∈ t.journal.waits, x.unit ≠ w.unit) ∧
        ∀ g ∈ s.journal.undo, g.epoch = e → ∀ a, a < s.reg64 Reg.JNL_RING_BASE_LO ∨ s.areaBase + s.areaSize ≤ a →
          a < s.capEntry w.unit 0 ∨ s.capEntry w.unit 480 ≤ a → (s.unit w.unit).lines.length ≤ 480 → t.byte a = s.byte a)) ∧
  (∀ (s : State) (p q n : Nat) (a : QPair) (x : QSlot), s.slotAt p q n = some (a, x) → x.txn = true → x.sstate = .waiting →
    x.checked = true → x.look = true → a.draining = false → s.safe = false →
    (s.indexLookup x.reqid p q = none → Ends (.requestIndexLookup p q n) s fun t =>
      t = s.mapQpair p q fun a => a.mapSlot n fun y => { y with look := false }) ∧
    (∀ e r, s.indexLookup x.reqid p q = some (e, r) → Ends (.requestIndexLookup p q n) s fun t =>
      t = s.completeSlot a x 0x0001 e r)) ∧
  (∀ (s : State) (h : Sheaf), s.nextToApply = some h → s.safe = false → s.mayApply h = true → h.records = [] →
    h.epoch < 2 ^ 64 → Ends .sheafApplyDone s fun t => t.reg64 Reg.JNL_APPLIED_LO = h.epoch ∧ t.mem = s.mem) ∧
  (∀ (s : State) (r : BodyRec) (o : Nat) (d : List Byte), s.ownRecord r = false → r.lines = [(o, d)] →
    o < s.fld Reg.JNL_REGION 12 0 * 2 ^ 30 → o < s.replCursor →
    (s.applyRecord r).bytes (s.reg64 Reg.JNL_REPL_BASE_LO + o) d.length = d) ∧
  (∀ (s : State) (gen : Nat) (k : List Byte), s.safe = false → gen = keyGen s.epoch ∨ gen = keyGen s.epoch + 1 →
    s.heldSheafKey gen = none → s.sheafKey gen = some k → Ends (.sheafKeyDerive gen) s fun t =>
      t.heldSheafKey gen = some k ∧ (∀ n, n ≠ s.sheafSlot gen → t.keySlot n = s.keySlot n) ∧
      t = { s with cipher := t.cipher, journal := t.journal }) ∧
  (∀ (s : State) (τ : Nat), Ends (.sheafRetainExpire τ) s fun t => let n := s.advance τ
    t.journal = { n.journal with sheaves := freeFrom n.mayFree n.journal.sheaves } ∧
    (∀ h ∈ t.journal.sheaves.head?, n.mayFree h = false) ∧ RegsBut n t [Reg.JNL_TAIL_LO, Reg.JNL_TAIL_LO + 4] ∧
    t = { n with journal := t.journal, ctl := t.ctl }) ∧
  (∀ (s : State) (m : Master) (v : Word), s.writesReg m Reg.JNL_CTRL = true → s.bit Reg.JNL_STATUS 0 = false →
    (s.writeFields Reg.JNL_CTRL (v ||| 1)).bit Reg.JNL_CTRL 31 = true → Ends (.jnlInit m v) s fun t =>
      t.journal = { s.journal with initBusy := true } ∧ t = { s with journal := t.journal, ctl := t.ctl }) ∧
  ∀ s : State, s.journal.initBusy = true → s.bit Reg.JNL_CTRL 2 = false → Ends .jnlReady s fun t =>
    t.journal = { s.journal with undo := [], ownIdx := [], partIdx := [], sheaves := [], initBusy := false, start := 0, undoHead := 0 } ∧
    t.reg64 Reg.JNL_HEAD_LO = 0 ∧ t.reg64 Reg.JNL_TAIL_LO = 0 ∧ t.bit Reg.JNL_STATUS 0 = true ∧
    ∀ a, s.reg64 Reg.JNL_RIDX_BASE_LO ≤ a → a < s.reg64 Reg.JNL_RIDX_BASE_LO + 2 ^ 32 → t.byte a = 0

/-! ## Twins (R149, R150, R165 to R183) -/

namespace Sys2Proof.Stated

/-- A paired device outside safe state. -/
def paired (s : State) : Prop := s.paired = true ∧ s.safe = false

/-- PART and OWN. -/
def states (s : State) : Nat × Nat := (s.own, s.part)

end Sys2Proof.Stated

/-- What comes from the partner: a copy of a sheaf that fails a check is rejected, counted and leaves the ring alone; the
notices of a seal, of a rollback and of the hand-back are taken; a heartbeat is seen on its link and ends the run of
misses, one with the wrong sender, length or pairing only sets TWN_ERR; a chunk of a copy is written to its place. -/
def Obligations.PartnerMessages : Prop :=
  ∀ s : State, paired s →
    (∀ l b ue, l = s.linkA ∨ l = s.linkB → s.bit Reg.JNL_STATUS 0 = true → s.part < 4 ∨ 7 < s.part →
      b.length < 224 ∨ leAt b 0 4 ≠ 0x53484601 → Ends (.sheaf l b ue) s fun t =>
        t.journal = s.journal ∧ t.mem = s.mem ∧ t.out = s.out ∧ t.bit Reg.JNL_ERR 6 = true ∧
        (t.reg Reg.JNL_CNT_REJ).toNat = min 0xFFFFFFFF ((s.reg Reg.JNL_CNT_REJ).toNat + 1)) ∧
    (∀ e c1 c2, s.replOk = true → s.own = 1 → Ends (.sealCompleteNotice e c1 c2) s fun t =>
      t.journal = { s.journal with notices := (s.journal.notices.filter (· ≠ e)) ++ [e] } ∧
      t = { s with journal := t.journal }) ∧
    (∀ a b, a ≤ s.reg64 Reg.JNL_APPLIED_LO → Ends (.rollbackNotice a b) s fun t =>
      t.bit Reg.TWN_ERR 7 = true ∧ t.journal = s.journal) ∧
    (∀ a b, s.reg64 Reg.JNL_APPLIED_LO < a → s.reg64 Reg.JNL_APPLIED_LO < b →
      (∀ h ∈ s.journal.sheaves, h.kind = .partner → h.epoch ≠ a ∧ h.epoch ≠ b) → Ends (.rollbackNotice a b) s fun t =>
        a ∈ t.journal.named ∧ b ∈ t.journal.named ∧ t.journal.sheaves = s.journal.sheaves ∧ t = { s with journal := t.journal }) ∧
    (∀ e, e < 2 ^ 64 → s.twin.returning = true → s.own = 5 → s.ownPlots = [] →
      (∀ h ∈ s.journal.sheaves, h.kind ≠ .partner) → Ends (.handbackNotice e) s fun t =>
        t.own = 6 ∧ t.reg64 Reg.TWN_HANDEPOCH_LO = e ∧ t.twin.handBack = some { epoch := e, step := 4 } ∧
        t.twin.returning = false) ∧
    (∀ τ l b, l = s.linkA ∨ l = s.linkB →
      b.length ≠ 40 ∨ beAt b 0 2 % 1024 ≠ s.partnerId ∨ beAt b 32 4 ≠ (s.reg Reg.TWN_PAIRGEN).toNat →
      Ends (.heartbeat τ l b) s fun t => t = (s.advance τ).setBit Reg.TWN_ERR 1 true) ∧
    (∀ τ b, s.linkA ≠ s.linkB → b.length = 40 → beAt b 0 2 % 1024 = s.partnerId →
      beAt b 32 4 = (s.reg Reg.TWN_PAIRGEN).toNat → states s = (1, 2) → beAt b 12 4 / 8 % 2 = 0 →
      (s.twin.sent.find? fun h => h.seq = beAt b 8 4) = none → Ends (.heartbeat τ s.linkA b) s fun t =>
        t.bit Reg.TWN_STATUS 1 = true ∧ t.missRun = 0 ∧ states t = (1, 2) ∧ t.twin.hbSeen = true ∧
        t.twin.partSeq = some (max (beAt b 4 4) (s.twin.partSeq.getD 0)) ∧ t.out = s.out ∧ t.mem = s.mem) ∧
    (∀ c b, b.length = 2 ^ 20 → s.own = 4 → Ends (.rebuild 1 c b) s fun t =>
      t.bytes (s.reg64 Reg.JNL_LIVE_BASE_LO + c * 2 ^ 20) (2 ^ 20) = b) ∧
    (∀ c b, b.length = 2 ^ 20 → s.replOk = false → Ends (.rebuild 2 c b) s fun t =>
      t.bytes (s.reg64 Reg.JNL_REPL_BASE_LO + c * 2 ^ 20) (2 ^ 20) = b) ∧
    (s.replOk = true → ∀ c b, Ends (.rebuild 2 c b) s fun t => t = s)

/-- The lease ends: the own plots are fenced. A report that shows this device as holder renews the lease and lifts the
fence, one that shows another sets PREEMPTED, and where that is the partner the plots are taken. The junior's delay, step A, step B and LEASEWAIT lead from
ACQUIRE over LEASEWAIT to ADOPT; a failed step loses the takeover; the partner's plots exist here once adoption is
complete, and their addresses are announced (R167 to R177). The copy to a partner: the next chunk leaves and its
cursor moves on. A mirrored change takes effect once the partner has confirmed it, and is refused with REMOTE after 1
ms without, or made where the partner is gone. RETURN comes with the end of the hold-off or at once on demand, which
is refused while the plots are not READY (R161, R179 to R181). -/
def Obligations.Twins : Prop :=
  ((∀ (s : State) (τ : Nat), let n := s.advance τ
     s.safe = false → n.leaseValid = false → n.reg64 Reg.TWN_LEASEEND_LO < n.timeBase → s.own = 1 → s.ownPlots = [] → s.tick.sealing = none → Ends (.leaseEnd τ) s fun t =>
       t.own = 2 ∧ t.part = s.part ∧ t.bit Reg.TWN_ERR 3 = true ∧ t = { n with ctl := t.ctl, units := t.units }) ∧
   (∀ (s : State) (τ i : Nat), let n := s.advance τ
     s.safe = false → i ∈ s.twin.reports → s.furrow.restore = none → i + n.leaseNs < 2 ^ 64 →
     (s.own = 2 → n.timeBase < i + n.leaseNs → Ends (.reservationReportDone τ i (some s.devId)) s fun t =>
       t.own = 1 ∧ i + n.leaseNs ≤ t.reg64 Reg.TWN_LEASEEND_LO ∧ t.twin.reports = s.twin.reports.erase i) ∧
     (∀ d, s.own = 2 → d ≠ s.devId → Ends (.reservationReportDone τ i (some d)) s fun t =>
       t.own = (if s.paired ∧ d = s.partnerId then 3 else 2) ∧ t.bit Reg.TWN_ERR 4 = true ∧ t.twin.reports = s.twin.reports.erase i) ∧
     Ends (.reservationReportDone τ i none) s fun t => t.own = s.own ∧ t.reg64 Reg.TWN_LEASEEND_LO = s.reg64 Reg.TWN_LEASEEND_LO ∧
       t.twin.reports = s.twin.reports.erase i) ∧
   (∀ (s : State) (τ f : Nat), let n := s.advance τ
     s.safe = false → s.twin.juniorFrom = some f → s.mayTakeOver = true → f + s.fld Reg.TWN_JUNIOR 15 0 * 1000 < n.timeBase →
     s.fld Reg.FRW_NSARBO 25 0 = 0 → Ends (.juniorDelayExpire τ) s fun t =>
       t.part = 4 ∧ t.own = s.own ∧ t.bit Reg.TWN_ERR 2 = true ∧ t.twin.step = 1 ∧ t.twin.stepTime = n.timeBase) ∧
   (∀ (s : State) (τ : Nat), let n := s.advance τ
     s.safe = false → s.twin.step = 1 → s.fld Reg.FRW_NSARBP 25 0 = 0 → s.fld Reg.FRW_NSPDST 25 0 = 0 →
     s.fld Reg.FRW_NSPPLG 25 0 = 0 → s.replOk = true → s.twin.stepTime + n.leaseNs < 2 ^ 64 →
     Ends (.takeoverStepADone τ true) s fun t =>
       t.twin.step = 2 ∧ t.noPartner = true ∧ states t = states s ∧ s.twin.stepTime + n.leaseNs ≤ t.reg64 Reg.TWN_LEASEEND_LO) ∧
   (∀ (s : State) (τ : Nat), s.safe = false → s.twin.step = 1 → s.ownPlots = [] → s.tick.sealing = none →
     Ends (.takeoverStepADone τ false) s fun t =>
       t.part = 10 ∧ t.own = (if s.own = 1 ∨ s.own = 5 ∨ s.own = 6 then 2 else s.own) ∧ t.twin.step = 0) ∧
   (∀ (s : State) (τ : Nat), let n := s.advance τ
     s.safe = false → s.twin.step = 2 → s.cipher.blobs = [] →
     (Ends (.takeoverStepBDone τ true) s fun t =>
       t.part = 5 ∧ t.own = s.own ∧ t.twin.waitEnd = n.timeBase + n.leaseNs + 2000 ∧ t.twin.step = 0 ∧ t.furrow.partDest = true) ∧
     (s.own = 1 → Ends (.takeoverStepBDone τ false) s fun t => t.part = 10 ∧ t.own = 1 ∧ t.bit Reg.TWN_ERR 5 = true)) ∧
   (∀ (s : State) (τ : Nat), let n := s.advance τ
     s.safe = false → s.part = 5 → s.twin.waitEnd ≤ n.timeBase → Ends (.leasewaitExpire τ) s fun t =>
       t.part = 6 ∧ t.own = s.own ∧ OnlyCtl n t ∧ RegsBut n t [Reg.TWN_STATUS]) ∧
   (∀ s : State, s.part = 6 → s.safe = false → s.nextToApply = none → s.twin.step ≠ 3 → s.own = 1 → s.replOk = false →
     s.adoptedPlots = [] → s.cipher.blobs = [] → Ends .adoptComplete s fun t =>
       t.twin = { s.twin with step := 3 } ∧ t = { s with twin := t.twin }) ∧
   ∀ (s : State) (τ p : Nat) (a : Announce), let n := s.advance τ
     (s.twin.announces.find? fun a => a.plot = p) = some a → a.next ≤ n.time → s.safe = false → s.plot p = none →
     Ends (.addressAnnounce τ p) s fun t =>
       t = n.mapTwin fun w => { w with announces :=
         (w.announces.filter fun x => x.plot ≠ p) ++
           (if a.left ≤ 1 then [] else [{ a with left := a.left - 1, next := a.next + n.fld Reg.TWN_MOVE 15 8 * 100000 }]) }) ∧
  ((∀ s : State, s.safe = false → s.tick.rollback = none → s.copyPhase = some 2 → Ends .rebuildChunkRead s fun t =>
     t.twin = { s.twin with cursor2 := s.twin.cursor2 + 1
                            chunks := s.twin.chunks ++ [(2 * 2 ^ 32 + s.twin.cursor2, s.epoch)] } ∧
     t.mem = s.mem ∧ t = { s with twin := t.twin, ctl := t.ctl, out := t.out }) ∧
   (∀ (s : State) (g : Nat), (s.twin.mirrors.any fun m => m.tag = g) = true → Ends (.descMirrorConfirm g) s fun t =>
     (∀ m ∈ t.twin.mirrors, m.tag ≠ g) ∧ (∀ c ∈ t.steward.cmds, c.tag = g → c.stage = .confirmed) ∧
     t = { s with twin := t.twin, steward := t.steward }) ∧
   (∀ (s : State) (τ g : Nat) (m : MirrorWait) (c : FwCmd), let n := s.advance τ
     (s.twin.mirrors.find? fun m => m.tag = g) = some m → m.sent + 1000000 < n.time → s.safe = false →
     (s.steward.cmds.find? fun c => c.tag = g) = some c →
     let r := n.mapTwin fun w => { w with mirrors := w.mirrors.filter fun m => m.tag ≠ g }
     (s.noPartner = true → Ends (.descMirrorTimeout τ g) s fun t => t = r.setCmd { c with stage := .confirmed }) ∧
     (s.noPartner = false → Ends (.descMirrorTimeout τ g) s fun t =>
       t = (r.setBit Reg.TWN_ERR 6 true).replyErr c 0x5001)) ∧
   (∀ (s : State) (τ h : Nat), let n := s.advance τ
     s.safe = false → s.own = 5 → s.twin.returning = false → s.twin.holdStart = some h → s.bit Reg.TWN_RETURN 31 = true →
     s.bit Reg.TWN_CTRL 1 = false →
     (h + s.fld Reg.TWN_RETURN 11 0 * 1000000000 ≤ n.timeBase → Ends (.holdoffExpire τ) s fun t =>
       t = n.mapTwin fun w => { w with returning := true }) ∧
     (n.timeBase < h + s.fld Reg.TWN_RETURN 11 0 * 1000000000 → Ends (.holdoffExpire τ) s fun t => t = n)) ∧
   ∀ (s : State) (m : Master), s.writesReg m Reg.TWN_CTRL = true →
     (s.own = 5 → s.twin.returning = false → Ends (.returnNow m) s fun t => t = s.mapTwin fun w => { w with returning := true }) ∧
     (s.own ≠ 5 → Ends (.returnNow m) s fun t => t.bit Reg.TWN_ERR 0 = true ∧ OnlyCtl s t ∧ RegsBut s t [Reg.TWN_ERR]))

/-! ## Ports (R188 to R198, R221) -/

/-- Ports: a frame with a bad FCS is counted and dropped, a frame for an address that is not bound is discarded; a pause of
a priority that PFC covers holds its frames until it ends; the link of an enabled port comes up, and one lost takes its
pauses with it; a read of ETH_TSINFO shows the oldest timestamp and latches it, a read of the _HI word removes it. -/
def Obligations.Ports : Prop :=
  ∀ (s : State) (p : Nat), p < 2 →
    (∀ τ sec room b, s.portUp p = true → s.safe = false → Ends (.frameReceive τ p false sec room b) s fun t =>
      (t.reg (portReg Reg.ETH_CNT_FCS p)).toNat = min 0xFFFFFFFF ((s.reg (portReg Reg.ETH_CNT_FCS p)).toNat + 1) ∧
      OnlyCtl (s.advance τ) t ∧ RegsBut s t [portReg Reg.ETH_CNT_FCS p]) ∧
    (∀ τ room b f k, s.portUp p = true → s.safe = false → b.length + 4 ≤ 9216 → ethFrame b = some f →
      s.macAccepted p f.dst f.etype = true → ipPkt f.etype f.payload = some k → f.etype = 0x0800 ∨ f.etype = 0x86DD →
      s.bit (portReg Reg.ETH_PCFG p) (16 + f.pcp) = false → s.bit (portReg Reg.ETH_PCFG p) 8 = false → b.length ≤ room →
      k.proto = 17 → s.ptpOn p = false → s.bound k.dst = false → Ends (.frameReceive τ p true .plain room b) s fun t =>
        (t.reg Reg.ETH_CNT_DISC).toNat = min 0xFFFFFFFF ((s.reg Reg.ETH_CNT_DISC).toNat + 1) ∧
        OnlyCtl (s.advance τ) t ∧ RegsBut s t [Reg.ETH_CNT_DISC]) ∧
    (∀ τ q ns, q < 8 → 0 < ns → s.portUp p = true → s.bit (portReg Reg.ETH_PCFG p) (16 + q) = true →
      Ends (.macControlFrame τ p [(q, ns)]) s fun t =>
        t.bit (portReg Reg.ETH_PSTAT p) (16 + q) = true ∧
        (t.port p).pauses.lookup q = some ((s.advance τ).time + ns) ∧ t.out = s.out ∧ RegsBut s t [portReg Reg.ETH_PSTAT p]) ∧
    (∀ τ q e, q < 8 → (s.port p).pauses.lookup q = some e → e ≤ (s.advance τ).time → (s.port p).txq = [] →
      Ends (.pfcPauseExpire τ p q) s fun t =>
        t.bit (portReg Reg.ETH_PSTAT p) (16 + q) = false ∧ (t.port p).pauses.lookup q = none ∧
        RegsBut s t [portReg Reg.ETH_PSTAT p] ∧ t = { s.advance τ with ctl := t.ctl, eth := t.eth }) ∧
    (s.bit Reg.ETH_CTRL p = true → Ends (.portLinkUp p) s fun t =>
      t.portUp p = true ∧ OnlyCtl s t ∧ RegsBut s t [portReg Reg.ETH_PSTAT p]) ∧
    (s.portUp p = true → Ends (.portLinkDown p) s fun t =>
      t.portUp p = false ∧ (t.port p).pauses = [] ∧ (t.port p).txq = [] ∧ t.bit Reg.ETH_ERR 1 = true ∧
      t = { s with ctl := t.ctl, eth := t.eth }) ∧
    (∀ m, s.readsReg m (portReg Reg.ETH_TSINFO p) = true → Ends (.tsinfoRead m p) s fun t =>
      t.ctl.rdata = s.tsInfo p ∧ (t.port p).latched = (s.port p).stamps.head? ∧ (t.port p).stamps = (s.port p).stamps ∧
      t = { s with ctl := t.ctl, eth := t.eth }) ∧
    (∀ m e, s.readsReg m (portReg Reg.ETH_TS_HI p) = true → (s.port p).latched = some e → Ends (.tsHiRead m p) s fun t =>
      t.ctl.rdata = BitVec.ofNat 32 (e.stamp / 2 ^ 32) ∧ (t.port p).latched = some e ∧ (t.port p).inQueue = false ∧
      (t.port p).stamps = (if (s.port p).inQueue then (s.port p).stamps.drop 1 else (s.port p).stamps) ∧
      t = { s with ctl := t.ctl, eth := t.eth })

/-! ## Swath (R200 to R219) -/

namespace Sys2Proof.Stated

/-- A Swath packet that passes the checks of R201 reaches a served plot outside safe state. -/
def packet (s : State) (b : List Byte) (h : SwHead) : Prop :=
  s.safe = false ∧ swHead b = some h ∧ s.fenced h.plot = false

/-- The frames of a port leave at once: its link is up, nothing is paused, MACsec is off. -/
def clear (s : State) (p pcp : Nat) : Prop :=
  s.portUp p = true ∧ s.eth.down = false ∧ s.bit (portReg Reg.ETH_PSTAT p) (16 + pcp) = false ∧
  s.bit (portReg Reg.ETH_PCFG p) 8 = false

/-- Nothing but the ports, Swath, control space and what has left differs. -/
def OnlySwath (s t : State) : Prop := t = { s with ctl := t.ctl, eth := t.eth, out := t.out }

end Sys2Proof.Stated

/-- A malformed packet changes nothing but ETH_ERR and the count of discards. An OPEN that is refused is answered with a
RESET and makes no session, one that is taken makes a session of its kind, plot and number, with a token of its own. A
packet for no session is answered with a RESET. In order, a CMD takes its PSN and places its command at the head of
the ring; out of order, it is not placed; an ACK frees what it acknowledges; a CLOSE ends the session. The times of
Swath: a delayed ACK leaves and so does the repeated ACK of a risen window; an unacknowledged packet is sent again,
unchanged, or ends its session after the last try; held completions leave when their delay is over; packets and
completions that nobody fetches within RETAIN are discarded. -/
def Obligations.Swath : Prop :=
  (∀ (s : State) (τ p q : Nat) (peer : Peer) (b : List Byte), let n := s.advance τ
     (s.safe = false → swHead b = none → ∀ c ∈ [Instr.swathOpen, .swathCmd, .swathAck, .swathClose],
       Ends (c τ p q peer b) s fun t => t.bit Reg.ETH_ERR 2 = true ∧ OnlyCtl n t ∧
         RegsBut s t [Reg.ETH_ERR, Reg.ETH_CNT_DISC]) ∧
     ∀ h, packet s b h →
       (h.type = 1 → n.openOk h peer = false → Ends (.swathOpen τ p q peer b) s fun t =>
         t.eth.sessions = s.eth.sessions ∧ t.plots = s.plots ∧ t.mem = s.mem) ∧
       (h.type = 1 → n.openOk h peer = true → n.session? ⟨decide (beAt h.payload 0 1 = 1), h.plot, h.number⟩ = none →
         s.eth.kept = [] → s.eth.heldc = [] → Ends (.swathOpen τ p q peer b) s fun t =>
           ∃ x ∈ t.eth.sessions, x.event = decide (beAt h.payload 0 1 = 1) ∧ x.plot = h.plot ∧ x.number = h.number ∧
             x.token = n.free % 2 ^ 32 ∧ x.ipsn = beAt h.payload 4 4 ∧ x.peer = peer ∧ x.unacked = []) ∧
       (h.type = 3 ∨ h.type = 6 ∨ h.type = 7 → n.sessionOf h = none →
         ∀ c ∈ [Instr.swathCmd, .swathAck, .swathClose], Ends (c τ p q peer b) s fun t =>
           t.eth.sessions = s.eth.sessions ∧ t.plots = s.plots ∧ t.mem = s.mem) ∧
       ∀ x, s.eth.sessions = [x] → n.sessionOf h = some x → x.peer.addr = peer.addr → x.unacked = [] → x.unsent = [] →
         x.event = false →
         (h.type = 3 → n.closedTo h.plot h.number = false → h.psn = x.expPsn → psnBefore h.psn x.limit = true →
           h.ackNow = false → n.fld Reg.ETH_ACK 15 8 > x.rxUnack + 1 → ∀ a, n.qpair h.plot h.number = some a →
           (a.dedup.find? fun d => d.reqid = beAt h.payload 8 8) = none → h.payload.length ≤ slotRoom a.slotsz →
           a.freeSlots ≠ 0 → Ends (.swathCmd τ p q peer b) s fun t =>
             (∃ y, t.eth.sessions = [y] ∧ y.expPsn = (x.expPsn + 1) % 2 ^ 32 ∧ y.rxUnack = x.rxUnack + 1 ∧ y.port = p ∧ y.pcp = q) ∧
             (∃ e ∈ t.plots.qpairs, e.plot = h.plot ∧ e.queue = h.number ∧ e.sqHead = a.sqHead + 1 ∧
               e.slots = a.slots ++ [n.newSlot a p x.token h.payload]) ∧ t.mem = s.mem ∧ t.out = s.out) ∧
         (h.type = 3 → n.closedTo h.plot h.number = false → h.psn ≠ x.expPsn → Ends (.swathCmd τ p q peer b) s fun t =>
           t.plots = s.plots ∧ ∃ y, t.eth.sessions = [y] ∧ y.expPsn = x.expPsn) ∧
         (h.type = 6 → h.ackNow = false → Ends (.swathAck τ p q peer b) s fun t =>
           (∃ y, t.eth.sessions = [y] ∧ y.hostWin = (if psnDiff h.apsn x.hostApsn ≤ psnDiff x.nextPsn x.hostApsn then h.window else x.hostWin) ∧ y.port = p ∧ y.pcp = q ∧ y.expPsn = x.expPsn) ∧
           t.plots = s.plots ∧ t.out = s.out) ∧
         (h.type = 7 → h.psn = x.expPsn → x.held = [] → (∀ o ∈ s.furrow.ops, o.plot ≠ x.plot) →
           Ends (.swathClose τ p q peer b) s fun t => t.eth.sessions = [] ∧ t.plots = s.plots)) ∧
  (∀ (s : State) (τ : Nat) (r : SessRef) (x : Session), let n := s.advance τ
     s.safe = false → s.fenced x.plot = false → clear s x.port x.pcp → n.session? r = some x →
     let pkt (kind psn : Nat) (pay : List Byte) : Out :=
       n.onLink x.port x.pcp none
         (.swath x.port x.pcp x.peer (swathBytes kind x.plot x.number x.token psn x.expPsn (n.windowOf x) pay))
     (0 < x.rxUnack → x.rxOldest + n.fld Reg.ETH_ACK 7 0 * 100 ≤ n.time → Ends (.ackDelayExpire τ r) s fun t =>
       t.out = s.out ++ [pkt 6 x.nextPsn []] ∧ (∀ y, t.session? r = some y → y.rxUnack = 0) ∧ OnlySwath n t) ∧
     (x.repeatAck = true → x.repeatFrom + n.rtoNs ≤ n.time → Ends (.windowAckRepeat τ r) s fun t =>
       t.out = s.out ++ [pkt 6 x.nextPsn []] ∧ OnlySwath n t) ∧
     (∀ k, x.unacked = [k] → k.urgent = false → n.usPassed (x.rtoFrom + n.rtoNs) = true → x.expiries + 1 < n.fld Reg.ETH_RTO 19 16 →
       Ends (.retransmitTimeout τ r) s fun t => t.out = s.out ++ [pkt k.type k.psn k.payload] ∧ OnlySwath n t ∧
         (∀ y, t.session? r = some y → y.unacked = x.unacked ∧ y.expiries = x.expiries + 1)) ∧
     (x.unacked ≠ [] → n.usPassed (x.rtoFrom + n.rtoNs) = true → n.fld Reg.ETH_RTO 19 16 ≤ x.expiries + 1 → x.event = true →
       Ends (.retransmitTimeout τ r) s fun t => t.session? r = none ∧ t.bit Reg.ETH_ERR 4 = true ∧
         ∃ k ∈ t.eth.kept, k.pkts = x.unacked ++ x.unsent ∧ k.plot = x.plot ∧ k.number = x.number) ∧
     (∀ c, x.held = [c] → c.cls ≠ 0 → c.handed + x.coalUs * 1000 ≤ n.time → x.unacked = [] → x.unsent = [] → x.mayPush = true →
       Ends (.coalesceTimeout τ r) s fun t => t.out = s.out ++ [pkt 5 x.nextPsn c.record] ∧
         (∀ y, t.session? r = some y → y.held = [] ∧ y.nextPsn = (x.nextPsn + 1) % 2 ^ 32) ∧ OnlySwath n t) ∧
     ((∀ k ∈ s.eth.kept, k.pkts.all (fun p => p.answers.isEmpty) = true) → s.eth.sessions = [x] → x.window ≠ 0 →
       Ends (.heldPacketExpire τ r) s fun t =>
         t.eth.kept = s.eth.kept.filter (fun k => !(k.event == r.event && k.plot == r.plot && k.number == r.number &&
           decide (k.since + n.retainNs ≤ n.time))) ∧ OnlySwath n t) ∧
     ∀ p c, s.plots.qpairs = [] → s.eth.sessions = [x] → x.window ≠ 0 → (∀ h ∈ s.eth.heldc, h.comp.slotNo < 2 ^ 32) →
       Ends (.heldCompletionExpire τ p c) s fun t =>
         ∀ h, h ∈ t.eth.heldc ↔ h ∈ s.eth.heldc ∧ ¬(h.comp.plot = p ∧ h.channel = c ∧ h.since + n.retainNs ≤ n.time))

/-! ## The Sower (R229, R236 to R242, R249, R260, R268 to R272) -/

/-! ## Commands of the Headland and of the plots (chapter 8) -/

namespace Sys2Proof.Stated

/-- The Steward holds a command, and nothing keeps it from running it: R245, R265, R270, R271. -/
def runs (s : State) (c : FwCmd) : Prop :=
  (s.steward.cmds.find? fun d => d.plot = c.plot ∧ d.queue = c.queue ∧ d.opcode = c.opcode) = some c ∧
  s.safe = false ∧ s.evral.stewHalt = false ∧ c.stage ≠ .mirroring ∧
  (s.lifeShut = true → c.opcode ∈ [0x02, 0x04, 0x38, 0x60]) ∧ s.busyPlot c = false ∧ s.heldBack c = false ∧
  s.tooLate c = false

/-- A command that has just come, on a device that runs without its partner. -/
def runsAlone (s : State) (c : FwCmd) : Prop := runs s c ∧ c.stage = .fresh ∧ s.noPartner = true

/-- The command of a row ends with a refusal and no other effect. -/
def Refused (i : Instr) (s : State) (c : FwCmd) (status : Nat) : Prop := Ends i s fun t => t = s.replyErr c status

end Sys2Proof.Stated

/-- A free unit takes the request that R239 chooses: a new transaction slot with the stamp of the epoch and the next
sequence number, ATTEMPT 1, and the unit starts at the entry of the library with its argument (R104, R242, R283); a
request that was dispatched before keeps its age. A submission is checked once; a refused one is completed with its
status. A command of a queue goes to the Steward, HANDED, or is answered with the status that refuses it. A reset that
has drained ends with its report, and its plot is ACTIVE again. PLT_CTRL.INIT empties the tables; SOW_PAIRn refuses a
spare. A command that ends is no longer the Steward's: its slot is DONE with its status, its reply stands in the
completion ring and waits for its session; a refusal has an empty body (R205, R234, R257, R268). A command on
another's object waits, and a command that a reset of its plot or the lifecycle forbids is refused (R245, R265,
R270). -/
def Obligations.CommandsOfTheSower : Prop :=
  ((∀ (s : State) (τ u : Nat) (c : Cand) (acct : Nat) (rr : Bool), let n := s.advance τ
     n.dispatching = true → n.freeUnit u = true → n.choose u = some (c, acct, rr) →
     (∀ x space off k, c.slot.tslot = none → s.plot c.plot = some x → s.entry x (beAt c.slot.packet 20 2) = some (space, off) →
       s.freeSlot = some k → Ends (.dispatch τ u) s fun t =>
         (∃ r ∈ t.sower.slots, r.slot = k ∧ r.plot = c.plot ∧ r.queue = c.queue ∧ r.slotNo = c.slot.no ∧ r.unit = some u ∧
           r.attempt = 1 ∧ r.stamp = s.tick.openTime ∧ r.seq = s.sower.nextSeq ∧ r.account = acct) ∧
         t.sower.nextSeq = s.sower.nextSeq + 1 ∧ (t.unit u).txn = some k ∧ (t.unit u).run = true ∧
         (t.unit u).execPlot = c.plot ∧ (t.unit u).coreFrom = none ∧
         archOf t u = (archOf s u).dispatched c.plot space off (txnArg c.slot.packet) (s.isSplit (pairOf u)) ∧
         ∀ v, v ≠ u → t.unit v = s.unit v) ∧
     (∀ m r, c.slot.tslot = some m → s.tslot m = some r → Ends (.dispatch τ u) s fun t =>
       { r with unit := some u, account := acct, attempt := r.attempt + 1, redo := false } ∈ t.sower.slots ∧
       t.sower.nextSeq = s.sower.nextSeq ∧ (t.unit u).txn = some r.slot ∧ (t.unit u).run = true ∧
       ∀ v, v ≠ u → t.unit v = s.unit v)) ∧
   (∀ (s : State) (p q no : Nat) (a : QPair) (x : QSlot), s.slotAt p q no = some (a, x) → x.txn = true → x.sstate = .waiting →
     x.checked = false → a.draining = false → s.safe = false →
     (∀ st, a.checkTxn x = some st → s.lookedUp a x = none →
       Ends (.txnSubmit p q no) s fun t => t = s.completeSlot a x st 0 []) ∧
     (∀ y, a.checkTxn x = none → s.plot a.plot = some y →
       (x.cls ≠ 0 ∨ 0 < y.desc.urgMax → classOf x.packet ≠ 0 ∨ x.cls = 0 → Ends (.txnSubmit p q no) s fun t =>
         t = s.mapQpair a.plot a.queue fun q => q.mapSlot x.no fun z => { z with checked := true, cls := x.cls }) ∧
       (x.cls = 0 → y.desc.urgMax = 0 → classOf x.packet = 0 → Ends (.txnSubmit p q no) s fun t =>
         t = (s.setBit Reg.SOW_ERR 3 true).mapQpair a.plot a.queue fun q =>
           q.mapSlot x.no fun z => { z with checked := true, cls := 2 }))) ∧
   (∀ (s : State) (p q : Nat) (a : QPair) (x : QSlot), s.qpair p q = some a → a.nextCmd = some x → a.draining = false →
     s.mayHand a x = true → s.lookedUp a x = none → s.served p = true → s.fenced p = false → s.safe = false →
     let h := s.mapQpair p q fun q => q.mapSlot x.no fun y => { y with sstate := .handed }
     (∀ ps, s.checkPacket p q x.packet = .ok ps → Ends (.commandHandoff p q) s fun t =>
       t = h.mapSteward fun k => { k with cmds := s.steward.cmds ++
         [{ plot := p, queue := q, slotNo := x.no, opcode := beAt x.packet 1 1, reqid := x.reqid
            target := ((ps.lookup 0x02).map beNat).getD p, params := ps, stage := .fresh, arrival := x.arrival
            since := s.time }] }) ∧
     (∀ st, s.checkPacket p q x.packet = .error st → Ends (.commandHandoff p q) s fun t =>
       t = h.replyErr { plot := p, queue := q, slotNo := x.no, opcode := beAt x.packet 1 1, reqid := x.reqid
                        target := p, params := [], stage := .fresh, arrival := x.arrival, since := s.time } st)) ∧
   (∀ (s : State) (r : ResetRun) (c : FwCmd) (x : Plot), s.plots.resets = [r] → s.resetDrained r = true → r.onlyQueue = none →
     r.destroy = false → s.steward.cmds = [c] → c.plot = r.byPlot → c.queue = r.byQueue → s.eth.sessions = [] →
     s.noPartner = true → s.plot r.plot = some x → s.safe = false → s.evral.stewHalt = false →
     Ends (.plotResetDrainDone r.plot) s fun t => ∃ y : State,
       t = y.replyOk c { r with entries := r.entries ++
         ((s.plots.qpairs.filter fun q : QPair => r.covers q.plot q.queue).flatMap QPair.unacknowledged) }.parts ∧
       y.plot r.plot = some { x with credit := List.replicate 5 0, spaces := s.tableSpaces x, desc := { x.desc with state := .active } } ∧
       y.plots.qpairs = (s.plots.qpairs.map fun q => if q.plot = r.plot then q.cleared else q) ∧ y.plots.resets = [] ∧
       (y.reg Reg.PLT_CNT_RESET).toNat = min 0xFFFFFFFF ((s.reg Reg.PLT_CNT_RESET).toNat + 1)) ∧
   (∀ (s : State) (m : Master) (v : Word), s.writesReg m Reg.PLT_CTRL = true → s.bit Reg.PLT_STATUS 0 = false →
     (s.writeFields Reg.PLT_CTRL (v ||| 1)).bit Reg.PLT_CTRL 31 = true → Ends (.pltInit m v) s fun t =>
       t.plots = { s.plots with initBusy := true } ∧ t = { s with ctl := t.ctl, plots := t.plots }) ∧
   (∀ s : State, s.plots.initBusy = true → Ends .pltReady s fun t =>
     t.plots = { s.plots with plots := [], qpairs := [], resets := [], initBusy := false } ∧ t.bit Reg.PLT_STATUS 0 = true ∧
     RegsBut s t [Reg.PLT_STATUS] ∧ t = { s with ctl := t.ctl, plots := t.plots }) ∧
   ∀ (s : State) (m : Master) (p : Nat) (v : Word), s.writesReg m (Reg.SOW_PAIR + 4 * p) = true →
     (p < 96 → s.role p ≠ 2 → s.role p ≠ 4 → Ends (.sowPairWrite m p v) s fun t => t = s.writeFields (Reg.SOW_PAIR + 4 * p) v) ∧
     (96 ≤ p ∨ s.role p = 2 ∨ s.role p = 4 → Ends (.sowPairWrite m p v) s fun t => t = s.badw (Reg.SOW_PAIR + 4 * p))) ∧
  ((∀ (s : State) (c : FwCmd) (st : Nat) (b : List Byte) (q : QPair), s.resetOf c.plot c.queue = none → s.eth.sessions = [] →
     s.qpair c.plot c.queue = some q → s.fenced c.plot = false → let t := s.finishCmd c st b
     t.steward = { s.steward with cmds := s.steward.cmds.filter fun d => d.tag ≠ c.tag, retries := 0 } ∧
     (∃ e, t.qpair c.plot c.queue = some e ∧ e.cqHead = q.cqHead + 1 ∧
       e.cq = q.cq ++ [{ slotNo := c.slotNo, kind := 2, pos := q.cqHead, bytes := leBytes 8 s.free }] ∧
       ∀ x ∈ e.slots, x.no = c.slotNo → x.sstate = .done ∧ x.status = st ∧ x.handed = true) ∧
     (∃ k, t.eth = { s.eth with kept := s.eth.kept ++ [k] } ∧ k.plot = c.plot ∧ k.number = c.queue ∧ k.since = s.time ∧
       k.pkts.map (·.payload) = [b]) ∧
     t = { s.drawn with steward := t.steward, plots := t.plots, eth := t.eth }) ∧
   (∀ (s : State) (c : FwCmd) (body : List (List Byte)), body.flatten.length ≤ 8936 →
     s.replyOk c body = s.finishCmd c 0 (replyBytes c.opcode false 0 c.queue c.reqid body.flatten)) ∧
   (∀ (s : State) (c : FwCmd) (st : Nat), st ≠ 0x6001 →
     s.replyErr c st = s.finishCmd c st (replyBytes c.opcode false st c.queue c.reqid [])) ∧
   ∀ (s : State) (c : FwCmd), c.stage = .fresh → c.opcode = 0x17 → s.safe = false → s.evral.stewHalt = false →
     (s.steward.cmds.find? fun d => d.plot = c.plot ∧ d.queue = c.queue ∧ d.opcode = 0x17) = some c →
     (s.lifeShut = true → Refused (.queueCreate c.plot c.queue) s c 0x3002) ∧
     (s.lifeShut = false → s.busyPlot c = true → Refused (.queueCreate c.plot c.queue) s c 0x4002) ∧
     (s.lifeShut = false → s.busyPlot c = false → s.heldBack c = true → Ends (.queueCreate c.plot c.queue) s fun t => t = s))

/-- NOP and CONTINUE, and the commands on plots: create, reset, destroy, share, addresses, spaces, and the read of a
descriptor; a plot that does not exist is NOT_FOUND. A change of a descriptor takes effect at the next tick (R224); a
change that the partner must confirm waits, and changes nothing yet (R161). The commands on queues and programs: a
queue pair is created empty, with its depth and slot size, and without an event channel; a queue that is destroyed
drains; LIB_LOAD writes into a space with EXEC and T_ACCESS and refuses another place; LIB_SET_ENTRY sets entries;
EXEC_LOAD stages an image and installs it with its measurement, while the plot has no queues. -/
def Obligations.CommandsOnPlotsAndQueues : Prop :=
  (∀ (s : State) (c : FwCmd), runs s c →
     (c.opcode = 0x02 → Ends (.nop c.plot c.queue) s fun t => t = s.replyOk c []) ∧
     (c.opcode = 0x03 →
       (∀ h, (s.steward.handles.find? fun h => h.id = c.num 0x16 ∧ h.plot = c.plot ∧ h.queue = c.queue) = some h →
         s.time ≤ h.expiry → Ends (.contCmd c.plot c.queue) s fun t => ∃ y : State, t = y.replyParts c h.body ∧
           y.steward.handles = (s.steward.handles.filter fun g => g.id ≠ h.id ∨ g.plot ≠ h.plot ∨ g.queue ≠ h.queue) ∧
           y = { s with steward := y.steward }) ∧
       ((s.steward.handles.find? fun h => h.id = c.num 0x16 ∧ h.plot = c.plot ∧ h.queue = c.queue) = none →
         Refused (.contCmd c.plot c.queue) s c 0x4007)) ∧
     (s.plot c.target = none → ∀ r ∈ [(0x11, Instr.plotDestroy), (0x12, .plotReset), (0x13, .plotSetShare), (0x14, .plotSetAddr),
       (0x15, .plotGet), (0x17, .queueCreate), (0x20, .libLoad), (0x21, .libSetEntry), (0x22, .execLoad)],
       c.opcode = r.1 → Refused (r.2 c.plot c.queue) s c 0x4004) ∧
     (c.opcode = 0x10 → s.pltReady = true → s.plotUsed c.target = true → Refused (.plotCreate c.plot c.queue) s c 0x4005) ∧
     (c.opcode = 0x10 → s.pltReady = true → s.plotUsed c.target = false → s.ownShares c.target + c.num 0x04 ≤ 1024 →
       s.createPlot c.target c.newDesc ≠ none → c.stage = .fresh → c.target ≠ 0 →
       (s.noPartner = true → Ends (.plotCreate c.plot c.queue) s fun t => ∃ y : State, t = y.replyOk c [] ∧
         (∃ x, y.plot c.target = some x ∧ x.desc = c.newDesc ∧ x.next = none ∧ x.own = true ∧ x.spaces = [] ∧ x.libCount = 0 ∧
           x.credit = [0, 0, 0, 0, 0]) ∧
         (∀ p, p ≠ c.target → y.plot p = s.plot p) ∧ y.plots.qpairs = s.plots.qpairs) ∧
       (s.noPartner = false → Ends (.plotCreate c.plot c.queue) s fun t => t.plots = s.plots ∧
         t.twin.mirrors = s.twin.mirrors ++ [{ tag := c.tag, plot := c.target, sent := s.time }])) ∧
     ∀ x, s.plot c.target = some x → c.stage = .fresh → s.noPartner = true →
       (c.opcode = 0x12 ∨ c.opcode = 0x11 → s.sower.slots = [] → s.furrow.ops = [] → s.thresher.jobs = [] → s.cipher.jobs = [] →
         s.plots.resets = [] → Ends (if c.opcode = 0x12 then .plotReset c.plot c.queue else .plotDestroy c.plot c.queue) s fun t =>
           t.plot c.target = some { x with desc := { x.desc with state := if c.opcode = 0x12 then .resetting else .destroying } } ∧
           (∀ q ∈ t.plots.qpairs, q.plot = c.target → q.draining = true ∧ ∀ y ∈ q.slots, y.sstate ≠ .waiting) ∧
           (∀ q ∈ s.plots.qpairs, q.plot ≠ c.target → q ∈ t.plots.qpairs) ∧
           (∃ r, t.plots.resets = [r] ∧ r.plot = c.target ∧ r.onlyQueue = none ∧ r.byPlot = c.plot ∧
             r.byQueue = c.queue ∧ r.destroy = decide (c.opcode = 0x11)) ∧
           { c with stage := .begun } ∈ t.steward.cmds) ∧
       (c.opcode = 0x13 → c.num? 0x07 = none → c.num? 0x04 = none → Ends (.plotSetShare c.plot c.queue) s fun t => ∃ y : State,
         t = y.replyOk c [] ∧ let d := x.next.getD x.desc
           y.plot c.target = some { x with next := some { d with urgMax := (c.num? 0x05).getD d.urgMax
                                                                 classes := (c.num? 0x06).getD d.classes } }) ∧
       (∀ n, c.opcode = 0x13 → c.num? 0x04 = some n → x.own = true → 1024 < s.ownShares c.target + n → c.num? 0x07 = none →
         Refused (.plotSetShare c.plot c.queue) s c 0x4003) ∧
       (c.opcode = 0x14 → c.num? 0x08 = none → Ends (.plotSetAddr c.plot c.queue) s fun t => ∃ y : State,
         t = y.replyOk c [] ∧ y.plot c.target = some { x with next := some { x.next.getD x.desc with
           addr6 := c.all 0x09, addr4 := c.all 0x0A, srcFilt := c.prefixes } }) ∧
       (c.opcode = 0x15 → Ends (.plotGet c.plot c.queue) s fun t => t = s.replyOk c [tlv 0x10 (s.descBytes c.target x)]) ∧
       (c.opcode = 0x16 → c.space.1 < 0xFD → s.runsIn c.target c.space.1 = true →
         (c.space.2.attr.testBit 0 = true → s.spaceOk c.target c.space.2 = true) → Refused (.spaceSet c.plot c.queue) s c 0x4006) ∧
       (c.opcode = 0x16 → c.space.1 < 0xFD → s.runsIn c.target c.space.1 = false → c.space.2.attr.testBit 0 = true →
         (s.spaceOk c.target c.space.2 = true → Ends (.spaceSet c.plot c.queue) s fun t => ∃ y : State, t = y.replyOk c [] ∧
           y.plot c.target = some { x with spaces := y.tableSpaces x } ∧ c.space ∈ y.tableSpaces x ∧
           y.bytes (x.sptBase + 32 * c.space.1) 32 = c.space.2.bytes) ∧
         (s.spaceOk c.target c.space.2 = false → Refused (.spaceSet c.plot c.queue) s c 0x2005))) ∧
  (∀ (s : State) (c : FwCmd) (x : Plot), runsAlone s c → s.plot c.target = some x →
     let n := c.num 0x03
     let v := (c.bytes? 0x0D).getD []
     let d := (c.bytes? 0x10).getD []
     (c.opcode = 0x17 → s.qpair c.target n = none → s.qcount c.target < x.desc.qmax → s.freePool ≠ none →
       s.queuePlaces (beAt v 2 1) (beAt v 0 2) ≠ none → Ends (.queueCreate c.plot c.queue) s fun t => ∃ y : State,
         t = y.replyOk c [] ∧ (∃ q, y.qpair c.target n = some q ∧ q.slotsz = beAt v 2 1 ∧ q.depth = beAt v 0 2 ∧ q.channel = 0xFFFF ∧
           q.slots = [] ∧ q.cq = [] ∧ q.draining = false ∧ s.queuePlaces q.slotsz q.depth = some (q.sqBase, q.cqBase, q.dedupBase)) ∧ ∀ q ∈ s.plots.qpairs, q ∈ y.plots.qpairs) ∧
     (c.opcode = 0x17 → s.qpair c.target n ≠ none → Refused (.queueCreate c.plot c.queue) s c 0x4005) ∧
     (c.opcode = 0x17 → s.qpair c.target n = none → x.desc.qmax ≤ s.qcount c.target →
       Refused (.queueCreate c.plot c.queue) s c 0x4003) ∧
     (c.opcode = 0x18 → s.qpair c.target n = none → Refused (.queueDestroy c.plot c.queue) s c 0x4004) ∧
     (c.opcode = 0x18 → s.qpair c.target n ≠ none → c.target = c.plot → n = c.queue → Refused (.queueDestroy c.plot c.queue) s c 0x4006) ∧
     (c.opcode = 0x18 → s.qpair c.target n ≠ none → ¬(c.target = c.plot ∧ n = c.queue) → s.sower.slots = [] → s.furrow.ops = [] →
       s.thresher.jobs = [] → s.cipher.jobs = [] → Ends (.queueDestroy c.plot c.queue) s fun t =>
         t.plot c.target = some x ∧ (∀ q ∈ t.plots.qpairs, q.plot = c.target → q.queue = n → q.draining = true) ∧
         { c with stage := .begun } ∈ t.steward.cmds) ∧
     (∀ q, c.opcode = 0x19 → s.qpair c.target n = some q → Ends (.queueGet c.plot c.queue) s fun t =>
       t = s.replyOk c [tlv 0x10 q.entryBytes]) ∧
     (∀ e, c.opcode = 0x20 → x.spaces.lookup (c.num 0x0E) = some e → e.attr.testBit 0 = true → e.attr.testBit 3 = true →
       e.attr.testBit 5 = true → let pa := e.base + c.num 0x0F
       (4096 * e.pages < c.num 0x0F + d.length → Refused (.libLoad c.plot c.queue) s c 0x2005) ∧
       (c.num 0x0F + d.length ≤ 4096 * e.pages → s.region pa ≠ .remote → (s.answerOf 12 pa).1 = .ok →
         Ends (.libLoad c.plot c.queue) s fun t => t = (s.agentStore pa d).replyOk c [])) ∧
     (c.opcode = 0x21 → Ends (.libSetEntry c.plot c.queue) s fun t => ∃ y : State, t = y.replyOk c [] ∧
       ∃ z, y.plot c.target = some z ∧ z = { x with libCount := z.libCount } ∧ ∀ e, c.all 0x11 = [e] →
         z.libCount = max x.libCount (beAt e 0 2 + 1) ∧
         y.bytes (x.libBase + 8 * beAt e 0 2) 8 = leBytes 4 (beAt e 2 1) ++ leBytes 4 (beAt e 4 4)) ∧
     (c.opcode = 0x22 → s.qcount c.target ≠ 0 → Refused (.execLoad c.plot c.queue) s c 0x4006) ∧
     (c.opcode = 0x22 → s.qcount c.target = 0 →
       (c.num 0x25 = 0 → Ends (.execLoad c.plot c.queue) s fun t => ∃ y : State, t = y.replyOk c [] ∧
         (∃ z, y.plot c.target = some z ∧ z = { x with staging := z.staging } ∧ ∀ i < d.length,
           sget (fun _ => 0) z.staging (c.num 0x0F + i) = d.getD i 0)) ∧
       (c.num 0x25 = 1 → s.placeFor ((x.stage (c.num 0x0F) d).image).length 4096 ≠ none → let img := (x.stage (c.num 0x0F) d).image
         Ends (.execLoad c.plot c.queue) s fun t => ∃ y : State, t = y.replyOk c [tlv 0x10 (sha384 img)] ∧
           (∃ z, y.plot c.target = some z ∧ z.exec = img ∧ z.execMeas = sha384 img ∧ z.staging = []) ∧
           y.meas 5 = sha384 (s.meas 5 ++ sha384 img))))

/-- The commands on registers, logs, keys, MACsec and paths: what each reads, changes and answers, and its refusals. -/
def Obligations.CommandsOnDevice : Prop :=
  ∀ (s : State) (c : FwCmd), runs s c →
    let reg := c.num 0x12
    let slot := c.num 0x1B
    (c.opcode = 0x04 → Ends (.getInfo c.plot c.queue) s fun t => t = s.replyOk c (([s.reg Reg.SWD_DEVID, 0x96120C81#32,
      0x00000FFF#32, 0x10100440#32, s.feat 192 3, s.view Reg.TWN_STATUS, s.view Reg.TCK_SEALED_LO,
      s.view Reg.TCK_SEALED_HI]).map regVal)) ∧
    (c.opcode = 0x30 → c.params = [(0x12, beBytes 4 reg)] → reg < 2 ^ 32 → Ends (.regRead c.plot c.queue) s fun t =>
      let r := s.ctlRead .headland reg
      t = r.1.replyOk c [regVal r.2]) ∧
    (c.opcode = 0x31 → Ends (.regWrite c.plot c.queue) s fun t =>
      let r := (s.ctlWrite .headland reg (BitVec.ofNat 32 (c.num 0x13))).ctlRead .headland reg
      t = r.1.replyOk c [regVal r.2]) ∧
    (∀ k rs rn, c.opcode = 0x38 → c.num? 0x15 = some k → k = 1 ∨ s.mram.headSeq ≤ k + 8191 → s.mram.ledger.lookup k = some rs →
      s.mram.ledger.lookup s.mram.headSeq = some rn → (s.mram.proof k s.mram.headSeq rs rn).length ≤ 8192 →
      0 < rs.length → Ends (.getBootRecord c.plot c.queue) s fun t =>
        t = s.replyOk c [tlv 0x15 (beBytes 8 s.mram.headSeq), tlv 0x10 (s.mram.proof k s.mram.headSeq rs rn)]) ∧
    (∀ k, c.opcode = 0x38 → c.num? 0x15 = some k → k ≠ 1 → k + 8191 < s.mram.headSeq →
      Refused (.getBootRecord c.plot c.queue) s c 0x4004) ∧
    (c.opcode = 0x39 →
      (s.slotSpent 0 = false → Ends (.attest c.plot c.queue) s fun t =>
        let y := (s.chargeSlot 0).1
        let body := s.attestBody ((c.bytes? 0x21).getD [])
        t = y.replyOk c [tlv 0x10 (body ++ ecSign y.attestKey (sha384 body) ++ fitTo 256 s.mram.cert)]) ∧
      (s.slotSpent 0 = true → Refused (.attest c.plot c.queue) s c 0x6003)) ∧
    (c.opcode = 0x50 → s.slotBound slot = false → s.keySlot 1 = none → Refused (.keyUnwrap c.plot c.queue) s c 0x6003) ∧
    (∀ k l, c.opcode = 0x3A → c.num? 0x15 = some k → c.num? 0x14 = some 1 →
      (s.snapshot? k = some l → Ends (.almanacRead c.plot c.queue) s fun t => t = s.replyParts c [tlv 0x10 l]) ∧
      (s.snapshot? k = none → Refused (.almanacRead c.plot c.queue) s c 0x4004)) ∧
    (∀ k n, c.opcode = 0x3B → c.num? 0x15 = some k → c.num? 0x14 = some n →
      let l := (s.gleaner.recs.filter fun r => k ≤ r.seq).take n
      (l ≠ [] → Ends (.gleanerRead c.plot c.queue) s fun t => t = s.replyOk c [tlv 0x10 (l.flatMap GleanRec.bytes)]) ∧
      (l = [] → Refused (.gleanerRead c.plot c.queue) s c 0x4004)) ∧
    (c.opcode = 0x50 ∨ c.opcode = 0x51 → s.slotBound slot = true →
      Ends (if c.opcode = 0x50 then .keyUnwrap c.plot c.queue else .keyErase c.plot c.queue) s fun t =>
        t = (s.setBit Reg.CPH_ERR 2 true).replyErr c 0x4002) ∧
    (∀ root, c.opcode = 0x50 → s.slotBound slot = false → s.keySlot 1 = some root → s.paired = false →
      (∀ k, s.unwrapBlob root.key (s.plotOfSlot slot) ((c.bytes? 0x1A).getD []) = .ok k →
        Ends (.keyUnwrap c.plot c.queue) s fun t => ∃ y : State, t = y.replyOk c [] ∧ y.keySlot slot = some k ∧
          (∀ n, n ≠ slot → y.keySlot n = s.keySlot n) ∧ y = { s with cipher := y.cipher }) ∧
      (keyUnwrap (s.kekOf root.key (s.plotOfSlot slot)) ((c.bytes? 0x1A).getD []) = none →
        Refused (.keyUnwrap c.plot c.queue) s c 0x3003)) ∧
    (c.opcode = 0x51 → s.slotBound slot = false → s.paired = false → Ends (.keyErase c.plot c.queue) s fun t => ∃ y : State,
      t = y.replyOk c [] ∧ y.keySlot slot = none ∧ (∀ n, n ≠ slot → y.keySlot n = s.keySlot n) ∧ y = { s with cipher := y.cipher }) ∧
    (c.opcode = 0x52 → let a := saOf ((c.bytes? 0x1C).getD []) slot
      (s.macsecSlot slot = true → Ends (.macsecSaSet c.plot c.queue) s fun t =>
        t = (s.mapEth fun e => { e with sas := (e.sas.filter fun b => !a.same b) ++ [a] }).replyOk c []) ∧
      (c.stage = .fresh → s.macsecSlot slot = false → Refused (.macsecSaSet c.plot c.queue) s c 0x2005)) ∧
    (c.opcode = 0x53 → let a := saOf ((c.bytes? 0x1C).getD []) 0
      (s.eth.sas.any (fun b => a.same b) = true → Ends (.macsecSaClear c.plot c.queue) s fun t =>
        t = (s.mapEth fun e => { e with sas := e.sas.filter fun b => !a.same b }).replyOk c []) ∧
      (c.stage = .fresh → s.eth.sas.any (fun b => a.same b) = false → Refused (.macsecSaClear c.plot c.queue) s c 0x2005)) ∧
    (c.opcode = 0x58 → let v := (c.bytes? 0x23).getD []
      (c.stage = .fresh → pathOk v = false → Refused (.pathSet c.plot c.queue) s c 0x2005) ∧
      (pathOk v = true → beAt v 3 1 ≠ 0 → s.path (beAt v 0 2) = none → Ends (.pathSet c.plot c.queue) s fun t => ∃ y : State,
        t = y.replyOk c [] ∧ (∃ p, y.furrow.paths = (s.furrow.paths.filter fun x => x.num ≠ beAt v 0 2) ++ [p] ∧ p.num = beAt v 0 2 ∧
          p.record = v ∧ p.state = .connecting) ∧ y = { s with furrow := y.furrow })) ∧
    (∀ k, c.opcode = 0x59 → c.num? 0x15 = some k →
      (∀ p, s.path k = some p → Ends (.pathGet c.plot c.queue) s fun t =>
        t = s.replyOk c [tlv 0x23 (overlay p.record 5 (beBytes 1 p.state.code))]) ∧
      (s.path k = none → Refused (.pathGet c.plot c.queue) s c 0x4004)) ∧
    (c.opcode = 0x68 → let v := (c.bytes? 0x22).getD []
      (c.stage = .fresh → beAt v 0 1 < 10 ∨ 250 < beAt v 0 1 ∨ beAt v 1 1 = 0 ∨ beAt v 0 1 < 2 * beAt v 1 1 →
        Refused (.tickSet c.plot c.queue) s c 0x2005) ∧
      (10 ≤ beAt v 0 1 → beAt v 0 1 ≤ 250 → beAt v 1 1 ≠ 0 → 2 * beAt v 1 1 ≤ beAt v 0 1 →
        Ends (.tickSet c.plot c.queue) s fun t => ∃ y : State, ∃ body, t = y.replyOk c body ∧
          y = ((s.ctlWrite .headland Reg.TCK_PERIOD (BitVec.ofNat 32 (beAt v 0 1))).ctlWrite .headland Reg.TCK_TXBUDGET
            (BitVec.ofNat 32 (beAt v 1 1)))))

/-- The commands on twins, pairs, the lifecycle and debug: TWIN_PAIR sets the pairing and waits for the first heartbeat,
TWIN_UNPAIR waits for the tick, a pair changes its role over the role between, LIFECYCLE_REQ with a good signature blows the
next state and starts the wipes, DEBUG_AUTH opens the port. What TWIN_PAIR sets at once is the model's choice (log entry
14). -/
def Obligations.CommandsOnTwinsAndPairs : Prop :=
  ∀ (s : State) (c : FwCmd), runs s c →
    let p := c.num 0x1D
    let begun : State := s.setCmd { c with stage := .begun }
    (∀ root plain k, c.opcode = 0x40 → c.stage = .fresh → c.num 0x17 ≠ s.devId →
      beAt ((c.bytes? 0x18).getD []) 0 1 ≠ beAt ((c.bytes? 0x18).getD []) 1 1 →
      (s.part ≠ 0 → ∀ b, Refused (.twinPair c.plot c.queue b) s c 0x4006) ∧
      (s.part = 0 → Refused (.twinPair c.plot c.queue true) s c 0x4005) ∧
      (s.part = 0 → s.keySlot 1 = some root → keyUnwrap (s.kekOf root.key 0) ((c.bytes? 0x1A).getD []) = some plain →
        slotOfPlain plain = some k → k.kind = 7 → s.fld Reg.FRW_NSARBO 25 0 = 0 → s.fld Reg.FRW_NSARBP 25 0 = 0 →
        s.fld Reg.FRW_NSDST 25 0 = 0 → s.fld Reg.FRW_NSPLG 25 0 = 0 → s.fld Reg.FRW_NSPDST 25 0 = 0 →
        s.fld Reg.FRW_NSPPLG 25 0 = 0 → s.plots.plots = [] → s.cipher.blobs = [] →
        Ends (.twinPair c.plot c.queue false) s fun t =>
          t.reg Reg.TWN_CFG = c.twinCfg ∧ t.reg Reg.TWN_PAIRGEN = BitVec.ofNat 32 (c.num 0x19) ∧ t.part = 1 ∧
          t.keySlot 8 = some k ∧ t.mram.twinCfg = c.twinCfg ∧ t.plots = s.plots ∧ { c with stage := .begun } ∈ t.steward.cmds)) ∧
    (∀ b, c.opcode = 0x40 → c.stage = .begun →
      (s.twin.hbSeen = true → Ends (.twinPair c.plot c.queue b) s fun t => t = s.replyOk c []) ∧
      (s.twin.hbSeen = false → Ends (.twinPair c.plot c.queue b) s fun t => t = s)) ∧
    (c.opcode = 0x41 → c.stage = .fresh →
      (s.part = 2 ∨ s.part = 7 ∨ s.part = 10 → Ends (.twinUnpair c.plot c.queue) s fun t =>
        t = begun.mapTwin fun w => { w with unpairNext := true }) ∧
      (s.part ≠ 2 → s.part ≠ 7 → s.part ≠ 10 → Refused (.twinUnpair c.plot c.queue) s c 0x4006)) ∧
    (c.opcode = 0x41 → c.stage = .begun →
      (s.part = 0 → Ends (.twinUnpair c.plot c.queue) s fun t => t = s.replyOk c []) ∧
      (s.part ≠ 0 → s.twin.unpairNext = true → Ends (.twinUnpair c.plot c.queue) s fun t => t = s) ∧
      (s.part ≠ 0 → s.twin.unpairNext = false → Refused (.twinUnpair c.plot c.queue) s c 0x4006)) ∧
    (c.opcode = 0x42 → c.num 0x25 ≤ 1 → Ends (.twinReturn c.plot c.queue) s fun t =>
      t = (s.setBit Reg.TWN_CTRL 1 (c.num 0x25 == 1)).replyOk c []) ∧
    (c.opcode = 0x42 → c.num 0x25 = 2 → s.own = 5 → s.twin.returning = false → Ends (.twinReturn c.plot c.queue) s fun t =>
      t = (s.mapTwin fun w => { w with returning := true }).replyOk c []) ∧
    (c.opcode = 0x42 → c.num 0x25 = 2 → s.own ≠ 5 → Refused (.twinReturn c.plot c.queue) s c 0x4006) ∧
    (c.opcode = 0x43 → Ends (.twinStatus c.plot c.queue) s fun t => t = s.replyOk c ([s.view Reg.TWN_STATUS,
      s.view Reg.TWN_REBUILD, s.view Reg.TWN_HOLDLEFT, s.view Reg.TWN_HANDEPOCH_LO, s.view Reg.TWN_HANDEPOCH_HI].map regVal)) ∧
    (∀ r ∈ [(0x48, Instr.pairSplit, 1, 5, 3), (0x49, .pairRejoin, 3, 6, 1)], c.opcode = r.1 →
      let i := r.2.1 c.plot c.queue
      (c.stage = .fresh → s.role p = r.2.2.1 → Ends i s fun t =>
        t = (s.setRole p r.2.2.2.1).setCmd { c with stage := .begun } ∧ t.role p = r.2.2.2.1) ∧
      (c.stage = .fresh → s.role p ≠ r.2.2.1 → Refused i s c 0x4006) ∧
      (c.stage = .begun → s.role p = r.2.2.2.2 → Ends i s fun t => t = s.replyOk c []) ∧
      (c.stage = .begun → s.role p = r.2.2.2.1 → (s.pair p).takeover = none → Ends i s fun t => t = s)) ∧
    (c.opcode = 0x4A → s.role p ≠ 2 → s.role p ≠ 4 → Ends (.pairReserve c.plot c.queue) s fun t =>
      t = (s.writeFields (Reg.SOW_PAIR + 4 * p) (BitVec.ofNat 32 (if c.num 0x1E = 0xFF then 0 else 4 + c.num 0x1E))).replyOk c []) ∧
    (c.opcode = 0x4A → s.role p = 2 ∨ s.role p = 4 → Refused (.pairReserve c.plot c.queue) s c 0x4006) ∧
    (c.opcode = 0x4B → c.stage = .fresh →
      (c.num 0x25 = 0 → s.role p = 2 → Ends (.spareSet c.plot c.queue) s fun t =>
        t = begun.mapPair p fun x => { x with toActive := true }) ∧
      (c.num 0x25 = 1 → s.role p = 1 → Ends (.spareSet c.plot c.queue) s fun t =>
        t = (s.setRole p 7).setCmd { c with stage := .begun }) ∧
      (c.num 0x25 = 1 → s.role p = 2 → Ends (.spareSet c.plot c.queue) s fun t => t = s.replyOk c [])) ∧
    (c.opcode = 0x60 → let n := c.num 0x1F
      (s.transitionKey s.fuses.lifecycle n = none → Refused (.lifecycleReq c.plot c.queue) s c 0x3002) ∧
      ∀ k, s.transitionKey s.fuses.lifecycle n = some k →
        let ok := ecVerify (sha384 (s.transitionBytes n)) k ((c.bytes? 0x20).getD [])
        (ok = true → Ends (.lifecycleReq c.plot c.queue) s fun t => ∃ y : State, t = y.replyOk c [] ∧
          y.fuses = { s.fuses with lifecycle := n, lcCount := s.fuses.lcCount + 1
                                   ownerHash := if n = 1 then sha384 s.ownerPub else s.fuses.ownerHash } ∧
          y.power = { s.power with lcReset := some (s.time + 1000000) } ∧
          ∀ k < 12, y.bit (clsReg Reg.CLS_SPSTAT k) 16 = true) ∧
        (ok = false → Ends (.lifecycleReq c.plot c.queue) s fun t => t = (s.setBit Reg.LCT_ERR 1 true).replyErr c 0x3003)) ∧
    (c.opcode = 0x61 → let b := (c.bytes? 0x24).getD []
      (s.authResult b = 1 → Ends (.debugAuth c.plot c.queue) s fun t => ∃ y : State, t = y.replyOk c [] ∧
        y.evral = { s.evral with result := 1, scope := some (leAt b 6 2) } ∧ y.meas 6 = sha384 (s.meas 6 ++ sha384 b)) ∧
      (s.authResult b ≠ 1 → Ends (.debugAuth c.plot c.queue) s fun t =>
        t = ((s.mapEvral fun e => { e with result := s.authResult b }).setBit Reg.DBG_ERR 1 true).replyErr c 0x3003))

/-! ## The control store, errors of pairs, takeovers (R339 to R342, R353, R364 to R375, R385) -/

namespace Sys2Proof.Stated

/-- Nothing but registers of a list, the log and the statistics differ. -/
def OnlyLogged (s t : State) (offs : List Nat) : Prop :=
  t = { s with ctl := t.ctl, gleaner := t.gleaner, almanac := t.almanac } ∧
  RegsBut s t (offs ++ [Reg.GLN_NEXTSEQ, Reg.GLN_CNT_LOST, Reg.GLN_ERR])

/-- A pair of the device with its registers. -/
abbrev statReg (p : Nat) : Nat := pairReg Reg.CLS_PAIRSTAT p

/-- A saturating count has moved on. -/
def Counted (s t : State) (off : Nat) : Prop := (t.reg off).toNat = min 0xFFFFFFFF ((s.reg off).toNat + 1)

end Sys2Proof.Stated

/-- The load port of a control store: CLEAR empties it, a good word goes in and moves address, CRC and COUNT, a bad one
only sets the flag, the first LOCK latches the reference and a later one must meet it, UNLOCK needs a reload; a locked
store takes no write. A corrected word is counted; an uncorrectable one stops a spare for a reload. An error of a
checked pair is retried: counted and recorded, and nothing that the pair had retired is lost; the third of a run
starts a takeover by the chosen spare, and without one the pair is retired. The spare takes the checkpoint, the role
and the reservation, and the failed pair is retired. A pair whose stores do not drain in time, or that loses its
clock, is dead. An error of a split core ends its transaction (R364 to R375, R385). -/
def Obligations.ControlStoreAndTakeovers : Prop :=
  (∀ (s : State) (m : Master) (p : Nat), p < 96 →
     let at_ := s.fld (pairReg Reg.CLS_UCADDR p) 13 0
     let stat := pairReg Reg.CLS_UCSTAT p
     (s.writesReg m (pairReg Reg.CLS_UCCTRL p) = true →
       (s.ucLocked p = true → Ends (.ucClear m p) s fun t => t = s.clsBadw p) ∧
       (s.ucLocked p = false → Ends (.ucClear m p) s fun t =>
         (t.pair p).words = [] ∧ t.reg (pairReg Reg.CLS_UCADDR p) = 0 ∧ t.reg (pairReg Reg.CLS_UCCRC p) = 0xFFFFFFFF#32 ∧
         t.fld stat 13 0 = 0 ∧ t = { s with ctl := t.ctl, pairs := t.pairs }) ∧
       (s.ucLocked p = false → (s.pair p).refCrc = none → Ends (.ucLock m p) s fun t =>
         (t.pair p).refCrc = some (s.reg (pairReg Reg.CLS_UCCRC p)) ∧ t.ucLocked p = true ∧ t.bit stat 30 = true ∧
         t.bit stat 31 = true) ∧
       (∀ r, s.ucLocked p = false → (s.pair p).refCrc = some r → s.reg (pairReg Reg.CLS_UCCRC p) ≠ r → (s.pair p).reload = false →
         s.poweringUp (clusterOf p) = false → Ends (.ucLock m p) s fun t => t = s.clsBadw p) ∧
       ((s.pair p).reload = true → Ends (.ucUnlock m p) s fun t => t.ucLocked p = false ∧ OnlyCtl s t ∧
         RegsBut s t [pairReg Reg.CLS_UCCTRL p, stat]) ∧
       ((s.pair p).reload = false → s.poweringUp (clusterOf p) = false → Ends (.ucUnlock m p) s fun t => t = s.clsBadw p)) ∧
     (∀ v : Word, s.writesReg m (pairReg Reg.CLS_UCWD p) = true → s.ucLocked p = false →
       let n := (s.reg (pairReg Reg.CLS_UCWA p)).toNat + 2 ^ 32 * (s.reg (pairReg Reg.CLS_UCWB p)).toNat +
         2 ^ 64 * (s.reg (pairReg Reg.CLS_UCWC p)).toNat + 2 ^ 96 * v.toNat
       (at_ ≤ 0x1FFF → v.toNat < 2 ^ 16 → badWord (BitVec.ofNat 112 n) 0 = false → Ends (.ucWordCommit m p v) s fun t =>
         (t.pair p).words.lookup at_ = some (BitVec.ofNat 112 n) ∧
         (∀ a, a ≠ at_ → (t.pair p).words.lookup a = (s.pair p).words.lookup a) ∧
         t.fld (pairReg Reg.CLS_UCADDR p) 13 0 = at_ + 1 ∧ t.fld stat 13 0 = min 8192 (s.fld stat 13 0 + 1) ∧
         t.reg (pairReg Reg.CLS_UCCRC p) = crc32c (s.reg (pairReg Reg.CLS_UCCRC p)) (leBytes 14 n)) ∧
       (0x1FFF < at_ ∨ 2 ^ 16 ≤ v.toNat → Ends (.ucWordCommit m p v) s fun t => t = s.setBit stat 16 true)) ∧
     ∀ a, a ≤ 0x1FFF →
       (Ends (.ucScrub p a 1) s fun t => Counted s t (pairReg Reg.CLS_UCCNT p) ∧ OnlyLogged s t [pairReg Reg.CLS_UCCNT p]) ∧
       ∀ k, 2 ≤ k → s.checked p = false → s.runsSplit p = false →
         (s.role p = 2 → s.tick.sealing = none → Ends (.ucScrub p a k) s fun t =>
           t.bit stat 17 = true ∧ t.role p = 4 ∧ (t.pair p).reload = true ∧ t.units = s.units ∧ t.mem = s.mem) ∧
         (s.role p ≠ 2 → Ends (.ucScrub p a k) s fun t => t = s.setBit stat 17 true)) ∧
  ((∀ (s : State) (p g : Nat), s.chosen p = false → s.checked p = true →
     let err := pairReg Reg.CLS_PAIRERR p
     (s.fld (statReg p) 17 16 < 2 → Ends (.instructionRetry p (.mismatch g)) s fun t =>
       t.fld (statReg p) 17 16 = s.fld (statReg p) 17 16 + 1 ∧ t.bit err 1 = true ∧ Counted s t (pairReg Reg.CLS_CNT_MIS p) ∧
       Counted s t (pairReg Reg.CLS_CNT_RETRY p) ∧ t.units = s.units ∧ t.mem = s.mem ∧
       (t.reg (pairReg Reg.CLS_MISGRP p)).toNat = 0x80 + g % 64) ∧
     (∀ q, 2 ≤ s.fld (statReg p) 17 16 → s.chooseSpare p = some q → s.pairs.all (fun x => x.2.takeover.isNone) = true →
       Ends (.instructionRetry p (.mismatch g)) s fun t =>
         (t.pair p).takeover = some { spare := q, step := 2, cause := 2, began := s.time } ∧ t.bit err 4 = true ∧
         t.units = s.units ∧ t.mem = s.mem)) ∧
   (∀ (s : State) (τ p : Nat) (k : Takeover), (s.pair p).takeover = some k → s.drained (2 * p) = true → s.safe = false →
     s.role k.spare = 2 → s.tick.sealing = none → p < 96 → k.spare < 96 → p ≠ k.spare → Ends (.spareResume τ p) s fun t =>
       let q := k.spare
       t.unit (2 * q) = (if clusterOf p = clusterOf q then s.unit (2 * p)
         else { s.unit (2 * p) with arch := { archOf s (2 * p) with link := none } }) ∧
       t.unit (2 * p) = CoreUnit.reset ∧ (∀ v, v ≠ 2 * p → v ≠ 2 * q → t.unit v = s.unit v) ∧
       t.role q = 1 ∧ t.role p = 4 ∧ t.fld (statReg p) 11 8 = k.cause % 16 ∧ (t.pair p).takeover = none ∧
       (∀ x ∈ s.sower.slots, x.unit = some (2 * p) → { x with unit := some (2 * q) } ∈ t.sower.slots) ∧
       t.reg (pairReg Reg.CLS_MOVE p) = BitVec.ofNat 32 (2 ^ 31 + q) ∧
       t.reg (pairReg Reg.CLS_MOVE q) = BitVec.ofNat 32 (2 ^ 31 + 2 ^ 30 + p) ∧
       t.fld (Reg.SOW_PAIR + 4 * q) 2 0 = s.fld (Reg.SOW_PAIR + 4 * p) 2 0) ∧
   (∀ (s : State) (τ p : Nat), let n := s.advance τ
     (∀ k, (s.pair p).takeover = some k → k.began + 2000 < n.time → s.drained (2 * p) = false → s.safe = false →
       Ends (.leaderDrainTimeout τ p) s fun t => t = n.leaderDead p) ∧
     (p < 96 → s.checked p = true ∨ s.runsSplit p = true → Ends (.coreClockBranchLoss p) s fun t => t = s.leaderDead p)) ∧
   (∀ (s : State) (p : Nat), p < 96 → s.tick.sealing = none → s.tick.epochOpen = false → (∀ u ∈ unitsOfPair p, (s.unit u).txn = none) →
     let t := s.leaderDead p
     t.role p = 4 ∧ t.bit (pairReg Reg.CLS_PAIRERR p) 5 = true ∧ t.fld (statReg p) 11 8 = 5 ∧
     (∀ u ∈ unitsOfPair p, (t.unit u).stores = [] ∧ (t.unit u).run = false) ∧
     ∀ q, s.chooseSpare p = some q → q ≠ p → (t.pair q).toActive = true) ∧
   ∀ (s : State) (u : Nat), s.runsSplit (pairOf u) = true →
     (s.unit u).txn = none → Ends (.splitCoreParity u) s fun t =>
       t.bit (pairReg Reg.CLS_PAIRERR (pairOf u)) 0 = true ∧ (t.unit u).run = false ∧ (∀ v, v ≠ u → t.unit v = s.unit v) ∧
       t.mem = s.mem)

/-! ## Caches and scratchpads (R408 to R430) -/

/-! ## Warp (R439 to R452) -/

/-- A fill that arrives puts its line into its way, clean, with the mark that the line carries; a doomed one puts none and
is counted. Errors of a line: corrected, fetched again, or lost; a lost dirty line is poisoned in DRAM, a lost marked
one fails the oldest unsealed epoch. A scratchpad word is corrected or poisoned. A bank goes into retention unless it
is in use, and wakes. A wiped strongroom reads zero. A replay of a link is counted, and one too many takes the link
down. A timeout is logged, counted and holds its reservation, which a late response frees; a privileged stop is
isolated once, and its held reservations come back. FLIP changes the active tables and starts a drain, COPY makes the
inactive ones equal to the active ones. -/
def Obligations.CachesAndWarp : Prop :=
  ((∀ (s : State) (c pa : Nat) (f : FillFor) (r : ReadResult) (x : Fill),
     ((s.cluster c).fills.find? fun x => x.pa = lineOf pa ∧ x.cause = f ∧ !x.served) = some x →
     (x.doomed = false → r = .ok → Ends (.cacheFill c pa f r) s fun t =>
       (t.cluster c).lines = ((s.cluster c).lines.filter fun y => y.pa ≠ x.pa) ++
         [{ pa := x.pa, way := x.way, mark := s.markOf pa, dirty := none }] ∧
       (t.cluster c).fills = (s.cluster c).fills.erase x ∧ (∀ d, d ≠ c → t.cluster d = s.cluster d) ∧
       t = { s with clusters := t.clusters }) ∧
     (x.doomed = true → r = .ok → Ends (.cacheFill c pa f r) s fun t =>
       (t.cluster c).lines = (s.cluster c).lines ∧ Counted s t (clsReg Reg.CLS_CNT_DOOM c) ∧
       t = { s with clusters := t.clusters, ctl := t.ctl })) ∧
   (∀ (s : State) (c pa : Nat) (l : CLine), s.line? c pa = some l →
     let err := clsReg Reg.CLS_L2ERR c
     let corr := clsReg Reg.CLS_CNT_L2CORR c
     let serge := s.bit (clsReg Reg.CLS_L2CFG c) 0
     (∀ e, e = .state 1 ∨ e = .data 1 ∧ serge = true ∨ e = .data 1 ∧ l.dirty = none → Ends (.l2Scrub c pa e) s fun t =>
       Counted s t corr ∧ t.bit err 0 = true ∧ OnlyLogged s t [corr, err]) ∧
     (l.dirty = none → l.mark = none → Ends (.l2Scrub c pa .tag) s fun t =>
       (t.cluster c).lines = ((s.cluster c).lines.filter fun y => y.pa ≠ lineOf l.pa) ∧ Counted s t corr ∧ t.mem = s.mem) ∧
     (∀ d e, l.dirty = some d → l.mark = some e → Ends (.l2Scrub c pa (.data 3)) s fun t =>
       t = (s.setBit err 2 true).failOldest .other) ∧
     (∀ d p, l.dirty = some d → l.mark = none → s.mapsAddress l.pa = some p → Ends (.l2Scrub c pa (.data 3)) s fun t =>
       (t.cluster c).lines = ((s.cluster c).lines.filter fun y => y.pa ≠ lineOf l.pa) ∧ t.bit err 3 = true ∧
       t.mem = (s.setPoison (lineOf l.pa) 64).mem ∧ t.units = s.units) ∧
     Ends (.l2Scrub c pa (.data 0)) s fun t => t = s) ∧
   (∀ (s : State) (c off : Nat), let err := clsReg Reg.CLS_SPERR c
     (Ends (.scratchpadScrub c off .corrected) s fun t => Counted s t (clsReg Reg.CLS_CNT_SPCORR c) ∧ t.bit err 0 = true ∧
       OnlyLogged s t [clsReg Reg.CLS_CNT_SPCORR c, err]) ∧
     Ends (.scratchpadScrub c off .uncorrectable) s fun t => t.bit err 1 = true ∧ t.units = s.units ∧
       t.mem = (s.setPoison (scratchBase + 0x400000 * c + off / 8 * 8) 8).mem) ∧
   (∀ (s : State) (m : Master) (c : Nat) (v : Word) (busy : List Nat), c < 12 → s.writesReg m (clsReg Reg.CLS_SPRET c) = true →
     Ends (.scratchpadRetention m c v busy) s fun t => OnlyCtl s t ∧ ∀ b, b < 8 →
       let want := v.getLsbD b
       let now := s.bit (clsReg Reg.CLS_SPRET c) b
       let refused := want && !now && s.bankBusy c b busy
       t.bit (clsReg Reg.CLS_SPRET c) b = (want && !refused) ∧ (refused = true → t.bit (clsReg Reg.CLS_SPERR c) 3 = true) ∧
       (want = now ∨ refused = true → t.bit (clsReg Reg.CLS_SPSTAT c) (8 + b) = s.bit (clsReg Reg.CLS_SPSTAT c) (8 + b)) ∧
       (want ≠ now → refused = false → t.bit (clsReg Reg.CLS_SPSTAT c) (8 + b) = !want ∧ t.bit (clsReg Reg.CLS_SPSTAT c) b = want)) ∧
   (∀ (s : State) (c b : Nat), b < 8 → Ends (.bankWakeDone c b) s fun t =>
     t.bit (clsReg Reg.CLS_SPSTAT c) (8 + b) = false ∧ OnlyCtl s t ∧ RegsBut s t [clsReg Reg.CLS_SPSTAT c]) ∧
   ∀ (s : State) (c : Nat), s.bit (clsReg Reg.CLS_SPSTAT c) 16 = true → s.bankAsleep c 7 = false →
     Ends (.strongroomWipeDone c) s fun t => let base := scratchBase + 0x400000 * c + 0x380000
       (∀ a, base ≤ a → a < base + 0x40000 → t.byte a = 0) ∧ (∀ a, a < base ∨ base + 0x40000 ≤ a → t.byte a = s.byte a) ∧
       t.bit (clsReg Reg.CLS_SPSTAT c) 16 = false ∧ t.bit (clsReg Reg.CLS_SPERR c) 4 = true ∧
       t = { s with mem := t.mem, ctl := t.ctl }) ∧
  ((∀ (s : State) (l : Nat) (again : Bool), l < 30 → s.bit Reg.WRP_LINKDOWN l = false →
     let n := if again then sget (fun _ => 0) s.warp.replays l + 1 else 1
     Ends (.warpLinkReplay l again) s fun t => Counted s t Reg.WRP_CNT_REPLAY ∧ t.bit Reg.WRP_ERR 3 = true ∧
       (n ≤ s.fld Reg.WRP_LINKCFG 4 0 → t.bit Reg.WRP_LINKDOWN l = false ∧ sget (fun _ => 0) t.warp.replays l = n) ∧
       (s.fld Reg.WRP_LINKCFG 4 0 < n → t.bit Reg.WRP_LINKDOWN l = true ∧ t.bit Reg.WRP_ERR 4 = true) ∧
       t.units = s.units ∧ t.mem = s.mem) ∧
   (∀ (s : State) (τ ini target addr : Nat), let n := s.advance τ
     let old := s.warp.timeouts.filter fun x => n.time ≤ x.2 + 1000000
     (s.bit Reg.WRP_ISO target = true → ∀ acc, Ends (.warpTimeout τ ini target addr acc) s fun t => t = n) ∧
     (s.bit Reg.WRP_ISO target = false → (old.filter fun x => x.1 = target).length + 1 < s.fld Reg.WRP_DEADCFG 3 0 →
       (Ends (.warpTimeout τ ini target addr none) s fun t =>
         t.warp = { s.warp with held := s.warp.held ++ [{ id := s.warp.nextId, init := ini, target := target }]
                                nextId := s.warp.nextId + 1, timeouts := old ++ [(target, n.time)] } ∧
         Counted s t Reg.WRP_CNT_TIMEOUT ∧ t.bit Reg.WRP_ERR 1 = true ∧ t.units = s.units ∧ t.mem = s.mem) ∧
       ∀ a, n.ready a.unit = true → Ends (.warpTimeout τ ini target addr (some a)) s fun t => ∃ y : State,
         t = (y.takeExc a.unit (Exc.at exMcheck 2 a.sp a.ea)).boundary a.unit ∧ y.units = s.units ∧ y.mem = s.mem)) ∧
   (∀ (s : State) (i : Nat), s.warp.held.any (fun h => h.id = i) = true → Ends (.warpLateResponse i) s fun t =>
     t.warp = { s.warp with held := s.warp.held.filter fun h => h.id ≠ i } ∧ Counted s t Reg.WRP_CNT_LATE ∧
     t.bit Reg.WRP_ERR 2 = true ∧ RegsBut s t [Reg.WRP_CNT_LATE, Reg.WRP_ERR] ∧ t = { s with ctl := t.ctl, warp := t.warp }) ∧
   (∀ (s : State) (k : Nat), k < 24 →
     (privilegedStop k = true → s.bit Reg.WRP_ISO k = false → Ends (.warpIsolate k) s fun t =>
       t.bit Reg.WRP_ISO k = true ∧ t.warp.held = (s.warp.held.filter fun h => h.target ≠ k) ∧ t.safe = true) ∧
     (privilegedStop k = false ∨ s.bit Reg.WRP_ISO k = true → Ends (.warpIsolate k) s fun t => t = s)) ∧
   (∀ (s : State) (m : Master), s.writesReg m Reg.WRP_RTCTRL = true →
     (s.routeDraining = false → Ends (.routeFlip m) s fun t => t.routeGen = 1 - s.routeGen ∧ t.routeDraining = true ∧
       OnlyCtl s t ∧ RegsBut s t [Reg.WRP_RTSTAT]) ∧
     (s.routeDraining = true → Ends (.routeFlip m) s fun t => t.routeGen = s.routeGen ∧ t.bit Reg.WRP_ERR 0 = true ∧
       t.bit Reg.WRP_ERR 7 = true ∧ OnlyCtl s t ∧ RegsBut s t [Reg.WRP_ERR]) ∧
     Ends (.routeCopy m) s fun t => (∀ r d, r < 26 → d < 32 → t.routeEntry (1 - s.routeGen) r d = s.routeEntry s.routeGen r d % 64) ∧
       (∀ r d, r < 26 → d < 32 → t.routeEntry s.routeGen r d = s.routeEntry s.routeGen r d) ∧ t = { s with warp := t.warp }) ∧
   ∀ s : State, s.routeDraining = true → Ends .routeDrainDone s fun t => t.routeDraining = false ∧ OnlyCtl s t ∧
     RegsBut s t [Reg.WRP_RTSTAT])

/-! ## The Thresher (R455 to R466) -/

/-! ## The cipher block (R468 to R489) -/

namespace Sys2Proof.Stated

/-- What an operation gives for its state, descriptor, key, additional data, source and plot (R468). -/
abbrev CphFn := State → List Byte → List Byte → List Byte → List Byte → Nat → CphResult

/-- An operation that is done, with its output. -/
def gives (out : List Byte) : CphResult := { status := 0, out := out, fill := none }

/-- A job that stops on its way: one of GCM or XTS has written some of its output (how much is open, log entry 151), any
other none. -/
def stopped (s : State) (j : CphJob) (f : CphFn) : State :=
  let src := s.bytes ((s.engineXlat j.plot (cSrc j.bytes) (srcBytes j.bytes) false).getD 0) (srcBytes j.bytes)
  s.cphStopped j (cLen j.bytes) false (f s j.bytes (s.cphKey j.bytes) [] src j.plot).out

/-- How the rows of the operations end (R474 to R476): the oldest job of its unit with its operation. -/
def cipherLaw (c : Nat → CphFail → Instr) (op : Nat) (f : CphFn) : Prop :=
  ∀ (s : State) (i : Nat) (j : CphJob), (s.cipher.jobs.find? fun j => j.id = i) = some j →
    cOp j.bytes = op → (s.cphOn j.engine).map (fun x => x.id) = some i → j.started = true →
    (j.cancel = true → ∀ e, Ends (c i e) s fun t => t = (stopped s j f).endCphJob j (cphEnd 0x0101)) ∧
    (j.cancel = false → (Ends (c i .engine) s fun t => t = (stopped s j f).endCphJob j (cphEnd 0x0402)) ∧
      Ends (c i .memory) s fun t => t = (stopped s j f).endCphJob j (cphEnd 0x0401)) ∧
    ∀ src aad, j.cancel = false → s.cphRead j (cSrc j.bytes) (srcBytes j.bytes) = some src →
      s.cphRead j (cAad j.bytes) (if op = 1 ∨ op = 2 then cAadLen j.bytes else 0) = some aad →
      Ends (c i .none) s fun t => t = s.endCphJob j (f s j.bytes (s.cphKey j.bytes) aad src j.plot)

end Sys2Proof.Stated

/-- A submitted descriptor that the checks admit joins the job store; one that they refuse ends with its status; while EN
is 0 none is taken, and a misaligned address sets BADW. EN cannot be set before the tables are there. A free engine
takes the next job. A job ends with its output at its destination and DONE, or stops on its way with CANCELLED (how far it came is open, log
entry 150); a parity error sends it to another engine once, then ends it with ENGINE. A job that ends leaves the store. A submitted job that passes the checks joins the queue of its
unit, one that fails ends with the status of the first failing check; CPH_LOCKn takes a free engine and gives it back.
The oldest job of its unit ends with what R468 gives for its key, additional data and source, or as CANCELLED, ENGINE
or MEMORY; DERIVE and UNWRAP fill their slot. A job that ends leaves its unit. -/
def Obligations.EngineJobs : Prop :=
  ((∀ (s : State) (m : Master) (a : Nat), s.writesReg m Reg.THR_SUBMIT_HI = true →
     let b := s.bytes a 64
     let plot := leAt b 4 2 % 4096
     let y := s.thrStatus a 0xFFFF
     (a % 64 ≠ 0 ∨ 2 ^ 46 ≤ a → Ends (.thrSubmit m a) s fun t => t = s.badw Reg.THR_SUBMIT_HI) ∧
     (a % 64 = 0 → a < 2 ^ 46 → s.bit Reg.THR_CTRL 0 = false → Ends (.thrSubmit m a) s fun t => t = s) ∧
     (a % 64 = 0 → a < 2 ^ 46 → s.bit Reg.THR_CTRL 0 = true → s.safe = false → s.agentStatus 13 a 64 = .ok →
       (s.thrFull plot = true → Ends (.thrSubmit m a) s fun t => t = (s.thrStatus a 0x0403).setBit Reg.THR_ERR 1 true) ∧
       (s.thrFull plot = false → y.thrRefusal b plot = none → Ends (.thrSubmit m a) s fun t =>
         (∃ j, t.thresher.jobs = s.thresher.jobs ++ [j] ∧ j.desc = a ∧ j.plot = plot ∧ j.bytes = b ∧ j.engine = none ∧
           j.furrow = none ∧ j.cancel = false) ∧ t = { y with thresher := t.thresher }) ∧
       (∀ st, s.thrFull plot = false → y.thrRefusal b plot = some st → Ends (.thrSubmit m a) s fun t =>
         t = y.thrReport a b none st 0 0 0 0 ∧ t.thresher = s.thresher))) ∧
   (∀ (s : State) (m : Master) (v : Word), s.writesReg m Reg.THR_CTRL = true →
     (s.bit Reg.THR_STATUS 0 = true → Ends (.thrEnable m v) s fun t => t = s.writeFields Reg.THR_CTRL v) ∧
     (s.bit Reg.THR_STATUS 0 = false → v.getLsbD 0 = true → Ends (.thrEnable m v) s fun t =>
       t.bit Reg.THR_CTRL 0 = s.bit Reg.THR_CTRL 0 ∧ t.bit Reg.THR_ERR 0 = true ∧ OnlyCtl s t)) ∧
   (∀ (s : State) (τ e : Nat) (j : ThrJob) (turn : Bool), let n := s.advance τ
     e < 8 → e ∉ s.thresher.offline → s.thrOn e = none → s.thrReady = true → s.safe = false → s.nextThrJob e = some (j, turn) →
     Ends (.thresherJobStart τ e) s fun t => t = { n with thresher := { s.thresher with
       jobs := s.thresher.jobs.map fun x => if x.id = j.id then { j with engine := some e, started := n.time } else x
       rr := if turn then j.plot else s.thresher.rr } }) ∧
   (∀ (s : State) (τ e : Nat) (j : ThrJob) (mem : Bool), let n := s.advance τ
     s.thrOn e = some j →
     (dOp j.bytes = 1 →
       (j.cancel = true → Ends (.compress τ e [] mem) s fun t => t = n.stopThrJob j e 0x0101 []) ∧
       (∀ src, j.cancel = false → n.thrSource j mem = (src, false) → Ends (.compress τ e [] mem) s fun t =>
         let out := compressAll (dWrap j.bytes) (dMode j.bytes) [] src
         t = (n.engineWrite (n.thrDest j) out false).endThrJob j e 0 0 src.length out.length (checkOf (dWrap j.bytes) src))) ∧
     (dOp j.bytes = 2 →
       (j.cancel = true → Ends (.decompress τ e mem) s fun t => t = n.stopThrJob j e 0x0101 []) ∧
       (∀ src out used, j.cancel = false → n.thrSource j mem = (src, false) →
         decompressAll (dWrap j.bytes) (dDlen j.bytes) src = (out, used, .done) → Ends (.decompress τ e mem) s fun t =>
           t = (n.engineWrite (n.thrDest j) out false).endThrJob j e 0 0 used out.length (checkOf (dWrap j.bytes) out))) ∧
     (j.cancel = false → j.stops = [] → s.thresher.parity = [] → s.thresher.verify = [] → 0 < s.fld Reg.THR_CFG 3 0 →
       Ends (.thresherParity τ e) s fun t => t.thresher.jobs =
         (s.thresher.jobs.map fun x => if x.id = j.id then { j with engine := none, stops := [e] } else x) ∧
         t.thresher.parity = [(e, n.time)] ∧ t.thresher.offline = s.thresher.offline ∧ t.bit Reg.THR_ERR 4 = true) ∧
     (j.cancel = false → j.stops ≠ [] → Ends (.thresherParity τ e) s fun t => ∃ y : State, t = y.stopThrJob j e 0x0402 [])) ∧
   ∀ (s : State) (j : ThrJob) (e st n used out check : Nat), j.furrow = none →
     (s.endThrJob j e st n used out check).thresher.jobs = (s.thresher.jobs.filter fun x => x.id ≠ j.id) ∧
     (s.stopThrJob j e st []).thresher.jobs = s.thresher.jobs.filter fun x => x.id ≠ j.id) ∧
  ((∀ (s : State) (m : Master) (a : Nat), s.writesReg m Reg.CPH_SUBMIT_HI = true →
     let b := s.bytes a 128
     (a % 128 ≠ 0 ∨ 2 ^ 46 ≤ a → Ends (.cphSubmit m a) s fun t => t = s.badw Reg.CPH_SUBMIT_HI) ∧
     (a % 128 = 0 → a < 2 ^ 46 → s.bit Reg.CPH_CTRL 0 = true → s.safe = false → s.agentStatus 29 a 128 = .ok →
       (s.cphRefusal b (cPlot b) true none = none → Ends (.cphSubmit m a) s fun t =>
         ∃ j, t.cipher.jobs = s.cipher.jobs ++ [j] ∧ j.desc = a ∧ j.engine = cEngine b ∧ j.plot = cPlot b ∧ j.atD = true ∧
           j.bytes = b ∧ j.cancel = false ∧ j.furrow = none) ∧
       (∀ st, s.cphRefusal b (cPlot b) true none = some st → Ends (.cphSubmit m a) s fun t =>
         t = s.cphReport a b (cPlot b) none st 0 ∧ t.cipher = s.cipher))) ∧
   (∀ (s : State) (m : Master) (e : Nat), e < 16 → s.writesReg m (Reg.CPH_LOCK + 4 * e) = true →
     (e < 4 → (Ends (.lockAcquire m e) s fun t => t = s.badw Reg.CPH_LOCK) ∧
       Ends (.lockRelease m e) s fun t => t = s.badw Reg.CPH_LOCK) ∧
     (4 ≤ e → s.lockOf e = none → (Ends (.lockAcquire m e) s fun t => t.lockOf e = some .firmware ∧
         (∀ k, k ≠ e → t.lockOf k = s.lockOf k) ∧ t = { s with cipher := t.cipher }) ∧
       Ends (.lockRelease m e) s fun t => t = s.badw Reg.CPH_LOCK) ∧
     (∀ o, 4 ≤ e → s.lockOf e = some o → Ends (.lockAcquire m e) s fun t => t = s) ∧
     (4 ≤ e → s.lockOf e = some .firmware → s.cipher.jobs.all (fun j => decide (j.engine ≠ e)) = true →
       Ends (.lockRelease m e) s fun t => t.lockOf e = none ∧ t.cipher.jobs = s.cipher.jobs ∧ t = { s with cipher := t.cipher }) ∧
     (∀ p q, 4 ≤ e → s.lockOf e = some (.plot p q) → Ends (.lockRelease m e) s fun t => t = s.badw Reg.CPH_LOCK)) ∧
   (cipherLaw .gcmEnc 0x01 (fun _ b key aad src _ => gives ((gcmEnc key (slice b 48 12) aad src).1 ++ (gcmEnc key (slice b 48 12) aad src).2)) ∧
    cipherLaw .gcmDec 0x02 (fun _ b key aad src _ =>
      match gcmDec key (slice b 48 12) aad (src.take (cLen b)) (src.drop (cLen b)) with
      | some p => gives p
      | none => { status := 0x0301, out := zeros (cLen b), fill := none }) ∧
    cipherLaw .xtsEnc 0x03 (fun _ b key _ src _ => gives (xts true key (leAt b 48 16) (leAt b 64 4) src)) ∧
    cipherLaw .xtsDec 0x04 (fun _ b key _ src _ => gives (xts false key (leAt b 48 16) (leAt b 64 4) src)) ∧
    cipherLaw .cmacGen 0x05 (fun _ _ key _ src _ => gives (cmac key src)) ∧
    cipherLaw .cmacVer 0x06 (fun _ b key _ src _ =>
      if cmac key (src.take (cLen b)) = src.drop (cLen b) then gives [] else cphEnd 0x0301) ∧
    cipherLaw .sha384 0x07 (fun _ _ _ _ src _ => gives (Machine.sha384 src)) ∧
    cipherLaw .sha512 0x08 (fun _ _ _ _ src _ => gives (Machine.sha512 src)) ∧
    cipherLaw .hmac384 0x09 (fun _ _ key _ src _ => gives (Machine.hmac384 key src)) ∧
    cipherLaw .hmac512 0x0A (fun _ _ key _ src _ => gives (Machine.hmac512 key src)) ∧
    cipherLaw .derive 0x10 (fun s b key _ _ _ => s.deriveOf b key) ∧
    cipherLaw .unwrap 0x11 (fun s b key _ src plot =>
      match keyUnwrap (kdf key (ascii "kek") (beBytes 2 s.devId ++ beBytes 2 plot) 256) src with
      | none => cphEnd 0x0301
      | some p => match slotOfPlain p with
        | none => cphEnd 0x0502
        | some k => { status := 0, out := [], fill := some (cOutSlot b, k) }) ∧
    cipherLaw .sign 0x18 (fun _ _ key _ src _ => gives (ecSign (beNat key) src)) ∧
    cipherLaw .verify 0x19 (fun _ _ _ _ src _ =>
      if ecVerify (slice src 0 48) (slice src 48 96) (slice src 144 96) then gives [] else cphEnd 0x0301) ∧
    cipherLaw .pubkey 0x1A (fun _ _ key _ _ _ => gives (ecPublic (beNat key)))) ∧
   (∀ (s : State) (j : CphJob) (f : CphFn), streams (cOp j.bytes) = false ∨ j.started = false → stopped s j f = s) ∧
   ∀ (s : State) (j : CphJob) (r : CphResult), j.furrow = none → let t := s.endCphJob j r
     (∀ x ∈ t.cipher.jobs, x.id ≠ j.id) ∧ (∀ n k, r.fill = some (n, k) → t.keySlot n = some k) ∧
     (r.fill = none → t.cipher.slots = s.cipher.slots))

/-! ## Furrow (R491 to R518) -/

namespace Sys2Proof.Stated

/-- An operation of Furrow is at a channel command of a code and may issue it. -/
def atCmd (s : State) (i code : Nat) (o : FrwOp) : Prop :=
  s.op i = some o ∧ o.kind = .program ∧ o.done = none ∧ o.ending = none ∧ o.busy = false ∧ s.opReady o = true ∧
  s.safe = false ∧ ccCode o.cmd = code

/-- The operation runs its command. -/
def busyOp (s : State) (o : FrwOp) : State := s.setOp { o with busy := true }

/-- Parts of the state that storage traffic leaves alone. -/
def OnlyStorage (s t : State) : Prop := t = { s with furrow := t.furrow, ctl := t.ctl, out := t.out }

end Sys2Proof.Stated

/-- START of an operation block that meets every check returns STARTED, 0, and makes an operation of the plot with the
block's OPTAG; a block that is not 64-byte aligned returns BAD_BLOCK, 1, and makes none (R499, R500). The channel
commands: each hands its command to the storage path of its group, to the peer, to the session, to the Thresher or to
the cipher block, or acquires or releases an engine; one that meets no session or another's engine ends its operation.
A command that goes out takes the next READY path of its group; without one it waits. An operation moves to its next
command, and after the last it is DONE and freed. A write of FRW_SUBMIT starts an operation or leaves its start code;
a completion ends its command, an error the program; an acknowledged record lets its operation issue or frees it; a
completion on an old path is discarded and counted; a program that has waited PATHWAIT ends with PATHS. -/
def Obligations.Furrow : Prop :=
  (∀ (s : State) (u : Nat) (f : ImmF) (p : Place), s.fetches u = true → f.imm = 0 → 1 ≤ (archOf s u).level →
     let a := archOf s u
     let ea := (a.reg f.ra).toNat
     s.xlat u (a.space 1) ea 64 .write = .ok p →
     (ea % 64 ≠ 0 → Ends (.start u f) s fun t => Retires s t u (a.setReg f.rd 1) (pcNext s u)) ∧
     (ea % 64 = 0 → p.pa % 64 = 0 → s.agentStatus frwStop p.pa 64 = .ok →
       let plot := (s.unit u).execPlot
       let b := s.bytes p.pa 64
       let n := leAt b 2 2
       blockOk b = true → leAt b 16 8 % 32 = 0 → engineAddrOk plot (leAt b 16 8) = true →
       ∀ pa, s.engineXlat plot (leAt b 16 8) (32 * n) false = some pa → s.agentStatus frwStop pa (32 * n) = .ok →
       let cs := (List.range n).map fun i => chanCmd (b ++ s.bytes pa (32 * n)) i
       (∀ c ∈ cs, s.channelOk plot c = true) → (s.furrow.ops.filter fun o => o.unit.isSome).length < 3072 →
       s.furrow.ops.length < 4096 →
       ((s.furrow.ops.filter fun o => o.unit.isSome).filter fun o => o.plot = plot).length < s.fld Reg.FRW_CFG 24 16 →
       s.entriesFree plot (cs.flatMap fun c => s.entryFor plot c) = true → s.frwReady = true →
       Ends (.start u f) s fun t =>
         archOf t u = after (a.setReg f.rd 0) (pcNext s u) ∧
         ∃ o, t.furrow.ops = s.furrow.ops ++ [o] ∧ o.plot = plot ∧ o.optag = leAt b 8 8 ∧ o.unit = some u)) ∧
  (∀ (s : State) (i : Nat) (o : FrwOp),
     let c := o.cmd
     let y := busyOp s o
     let b : FrwOp := { o with busy := true }
     let one := 0 < ccLen c ∧ ccLen c ≤ 131072
     (∀ pa, atCmd s i 0x01 o → s.engineXlat o.plot (ccBuf c) (max 1 (ccLen c)) true = some pa → one →
       Ends (.channelRead i) s fun t =>
         t = y.sendStorage i (ccGroup c) 0x02 [ccArg c, ccTarget c, ccLen c / 4096, pa] []) ∧
     (∀ pa, atCmd s i 0x02 o → s.engineXlat o.plot (ccBuf c) (max 1 (ccLen c)) false = some pa → one →
       (s.goodPrefix 28 pa (ccLen c) false = ccLen c → Ends (.channelWrite i) s fun t =>
         t = y.sendStorage i (ccGroup c) 0x01 [ccArg c, ccTarget c, (s.bytes pa (ccLen c)).length / 4096, pa] (s.bytes pa (ccLen c))) ∧
       (s.goodPrefix 28 pa (ccLen c) false < ccLen c → Ends (.channelWrite i) s fun t => t = y.opEnd b 0x0406 0 (ccLen c))) ∧
     (atCmd s i 0x03 o → Ends (.channelFlush i) s fun t => t = y.sendStorage i (ccGroup c) 0x00 [ccArg c] []) ∧
     (∀ pa, atCmd s i 0x04 o → s.engineXlat o.plot (ccBuf c) (ccLen c) true = some pa → 0 < ccLen c → ccLen c ≤ 4096 →
       Ends (.peerRead i) s fun t => t = y.sendStorage i (64 + ccArg c) 0xF1 [o.plot, ccTarget c, ccLen c, pa] []) ∧
     (∀ pa, atCmd s i 0x05 o → s.engineXlat o.plot (ccBuf c) (ccLen c) false = some pa → 0 < ccLen c → ccLen c ≤ 4096 →
       s.goodPrefix 28 pa (ccLen c) false = ccLen c → Ends (.peerWrite i) s fun t =>
         t = y.sendStorage i (64 + ccArg c) 0xF2 [o.plot, ccTarget c, ccLen c, pa] (s.bytes pa (ccLen c))) ∧
     (∀ pa, atCmd s i 0x06 o → s.engineXlat o.plot (ccBuf c) (ccLen c) false = some pa →
       (s.session? (queueRef o.plot (ccArg c)) = none → Ends (.hostSend i) s fun t => t = y.opEnd b 0x0403 0 (ccLen c)) ∧
       (∀ x, s.session? (queueRef o.plot (ccArg c)) = some x → s.goodPrefix 28 pa (ccLen c) false = ccLen c → 0 < ccLen c →
         ccLen c ≤ 8192 → Ends (.hostSend i) s fun t =>
           t = (s.setOp { o with busy := true, parts := 1 }).queuePacket (queueRef o.plot (ccArg c)) 4
             (replyBytes 0xF0 false 0 (ccArg c) o.optag (tlv 0x0F (beBytes 8 0) ++ tlv 0x10 (s.bytes pa (ccLen c))))
             [(ccArg c, hostSlot + i)] false)) ∧
     (∀ pa, atCmd s i 0x07 o → s.descAt o.plot c 64 = some pa → Ends (.thresh i) s fun t =>
       t = ((y.useEntry i 16).thrAccept pa o.plot (some i)).1) ∧
     (∀ pa, atCmd s i 0x08 o → s.descAt o.plot c 128 = some pa → Ends (.cipher i) s fun t => ∃ e,
       t = ((y.cphAccept pa o.plot false (some i)).1).useEntry i e) ∧
     (atCmd s i 0x09 o → let e := ccArg c
       (s.lockOf e = none → Ends (.engAcquire i) s fun t =>
         t = (y.mapCipher fun k => { k with locks := sput k.locks e (.plot o.plot (o.queue.getD 0xFFFF)) }).opNext b) ∧
       (∀ l, s.lockOf e = some l → l.same (some o.plot) = false → Ends (.engAcquire i) s fun t => t = y.opEnd b 0x0405 0 0)) ∧
     (atCmd s i 0x0A o → Ends (.engRelease i) s fun t => t = (y.releaseLock (ccArg c) (some o.plot)).opNext b) ∧
     (∀ n what args bytes, let k : FrwCmd := { tag := s.furrow.nextTag, op := i, group := n, path := none, issued := s.time
                                               write := decide (what = 0x01), what := what, args := args, bytes := bytes, redrive := 0 }
       let r := s.mapFurrow fun w => { w with nextTag := w.nextTag + 1, cmds := w.cmds ++ [k] }
       s.safe = false → s.writeHeld k = false →
       (s.pickPath n = none → s.sendStorage i n what args bytes = r) ∧
       (∀ p q, s.pickPath n = some p → s.path p = some q → clear s q.port (s.fld Reg.ETH_QOS 6 4) → n < 64 →
         (∀ x ∈ s.furrow.cmds, x.tag ≠ k.tag) → let t := s.sendStorage i n what args bytes
         t.furrow.cmds = s.furrow.cmds ++ [{ k with path := some p }] ∧ t.out = s.out ++ [.storage p k.tag what args bytes] ∧
         t = { s with furrow := t.furrow, out := t.out })) ∧
     (o.ending = none →
       (o.next + 1 < o.count → s.opNext o = s.setOp { o with next := o.next + 1, busy := false, parts := 0 }) ∧
       (o.count ≤ o.next + 1 → s.opNext o = s.opEnd { o with next := o.next + 1, busy := false, parts := 0 } 0 0 0)) ∧
     (s.noPartner = true → (s.opEnd o 0 0 0).op o.id = none ∧
       ∀ u, o.unit = some u → leAt o.bytes 1 1 % 2 = 1 → ((s.opEnd o 0 0 0).unit u).latch.engine = true)) ∧
  ((∀ (s : State) (m : Master) (a : Nat), s.writesReg m Reg.FRW_SUBMIT_HI = true →
     let code := (s.startOp 0 a none none).2
     (a % 64 ≠ 0 ∨ 2 ^ 46 ≤ a → Ends (.frwSubmit m a) s fun t => t = s.badw Reg.FRW_SUBMIT_HI) ∧
     (a % 64 = 0 → a < 2 ^ 46 → code ≠ 0 → Ends (.frwSubmit m a) s fun t => t = s.setFld Reg.FRW_STATUS 7 4 code) ∧
     (a % 64 = 0 → a < 2 ^ 46 → code = 0 → Ends (.frwSubmit m a) s fun t =>
       t.fld Reg.FRW_STATUS 7 4 = 0 ∧ ∃ o, t.furrow.ops = s.furrow.ops ++ [o] ∧ o.plot = 0 ∧ o.kind = .program ∧ o.unit = none ∧
         o.block = a ∧ o.next = 0 ∧ o.id = s.furrow.nextOp ∧ o.acked = false ∧ o.optag = leAt (s.bytes a 64) 8 8)) ∧
   (∀ (s : State) (i : Nat) (o : FrwOp), s.op i = some o →
     (∀ st, o.done = some st → Ends (.channelRecordAck i) s fun t => t = s.dropOp i) ∧
     (o.done = none → o.kind = .program → Ends (.channelRecordAck i) s fun t => t = s.setOp { o with acked := true })) ∧
   (∀ (s : State) (τ tag : Nat) (c : FrwCmd) (o : FrwOp) (p : Nat) (b : List Byte),
     s.furrow.cmds = [c] → c.tag = tag → c.group < 64 → c.path = some p → s.op c.op = some o → o.kind = .program → o.ending = none →
     (c.what = 0x01 → Ends (.nvmeCompletion τ tag 0 b) s fun t => ∃ y : State, t = y.opNext o ∧ y.furrow.cmds = [] ∧
       y.furrow.ops = s.furrow.ops ∧ y.mem = s.mem ∧ y.ctl = s.ctl) ∧
     (c.what = 0x02 → (s.engineXlat o.plot (ccBuf o.cmd) (max 1 (ccLen o.cmd)) true).isSome = true →
       Ends (.nvmeCompletion τ tag 0 b) s fun t => ∃ y : State,
         t = (y.engineWrite (c.args.getD 3 0) (fitTo (4096 * c.args.getD 2 0) b) false).opNext o ∧ y.furrow.cmds = [] ∧
         y.mem = s.mem ∧ y.ctl = s.ctl) ∧
     ∀ sc, sc ≠ 0 → c.what = 0x01 → Ends (.nvmeCompletion τ tag sc b) s fun t => ∃ y : State,
       t = y.opEnd o (if sc % 2048 = 0x83 then 0x0302 else if sc % 2048 = 0x0B then 0x0303 else 0x0301) sc (4096 * c.args.getD 2 0) ∧
       y.furrow.cmds = [] ∧ y.mem = s.mem) ∧
   (∀ (s : State) (tag : Nat),
     (tag < s.furrow.nextTag → (∀ c ∈ s.furrow.cmds, c.tag = tag → c.redrive ≠ 0) → Ends (.furrowLateCompletion tag) s fun t =>
       t.bit Reg.FRW_ERR 3 = true ∧ Counted s t Reg.FRW_CNT_LATE ∧ OnlyCtl s t ∧ RegsBut s t [Reg.FRW_ERR, Reg.FRW_CNT_LATE]) ∧
     (s.furrow.nextTag ≤ tag → Ends (.furrowLateCompletion tag) s fun t => t = s)) ∧
   ∀ (s : State) (τ : Nat) (o : FrwOp) (c : FrwCmd), let n := s.advance τ
     s.op c.op = some o → o.id = c.op → o.kind = .program → o.ending = none → s.furrow.cmds = [c] → c.path = none → s.readyPaths c.group = [] →
     c.issued + s.fld Reg.FRW_CFG 15 8 * 10000000 < n.time → Ends (.pathwaitExpire τ c.op) s fun t => ∃ y : State,
       t = y.opEnd o 0x0401 0 c.size ∧ y.furrow.cmds = [] ∧ y.furrow.ops = s.furrow.ops ∧ y.ctl = s.ctl)

/-- Paths: one that fails is counted and tries again after 10 ms, a READY one sends Keep Alive, one that is READY again
ends its holds, a hold ends after its time, a congestion notice halves the rate. The oldest own sheaf that waits is
placed at the next LBA of the extent ring and written once its record is acknowledged; without room nothing is placed
and FULL is set. A sweep begins with the sealed epoch and its header, and then reads chunk after chunk, each with the
epoch that is open when it is read. -/
def Obligations.PathsAndDestage : Prop :=
  (∀ (s : State) (τ k : Nat) (p : Path), let n := s.advance τ
     let only (f : Path → Path) : State := n.mapFurrow fun w => { w with paths := w.paths.map fun x => if x.num = k then f x else x }
     s.path k = some p → p.num = k →
     (p.state = .ready ∨ p.state = .connecting → s.furrow.cmds = [] → Ends (.pathFail τ k) s fun t =>
       t.furrow = (only fun x => { x with state := .failed, failed := n.time }).furrow ∧ Counted s t Reg.FRW_CNT_PATHFAIL ∧
       t.bit Reg.FRW_ERR 1 = true ∧ OnlyLogged (only fun x => { x with state := .failed, failed := n.time }) t
         [Reg.FRW_CNT_PATHFAIL, Reg.FRW_ERR]) ∧
     (p.kind = 1 → p.state = .ready → s.safe = false →
       (p.lastKa + 250000000 ≤ n.time → clear s p.port (s.fld Reg.ETH_QOS 6 4) → Ends (.keepAlive τ k) s fun t =>
         t.out = s.out ++ [.storage k s.furrow.nextTag 0x18 [] []] ∧ t.furrow.nextTag = s.furrow.nextTag + 1 ∧
         t = { n with furrow := t.furrow, out := t.out }) ∧
       (n.time < p.lastKa + 250000000 → Ends (.keepAlive τ k) s fun t => t = n)) ∧
     (p.state = .failed → s.safe = false →
       (p.failed + 10000000 ≤ n.time → Ends (.pathReconnect τ k) s fun t => t = only fun x => { x with state := .connecting }) ∧
       (n.time < p.failed + 10000000 → Ends (.pathReconnect τ k) s fun t => t = n)) ∧
     (p.state = .connecting → s.safe = false → p.kind = 1 → s.furrow.cmds = [] → Ends (.pathReady τ k) s fun t =>
       t = (only fun x => { x with state := .ready, lastKa := n.time }).mapFurrow fun w =>
         { w with holds := w.holds.filter fun h => h.path ≠ k }) ∧
     (s.furrow.cmds = [] → Ends (.failedPathWriteHoldExpire τ k) s fun t =>
       t = n.mapFurrow fun w => { w with holds := w.holds.filter fun h => h.path ≠ k ∨ n.time < h.until_ }) ∧
     (p.rate = 1024 → p.rateAt ≤ n.time → Ends (.cnpReceive τ k) s fun t =>
       (∀ x, t.path k = some x → x = { p with rate := 512, rateAt := n.time }) ∧ t.path k ≠ none ∧ t = { n with furrow := t.furrow })) ∧
  (∀ (s : State) (τ : Nat), let n := s.advance τ
     s.frwReady = true → s.safe = false → s.furrow.restore = none → s.noPartner = false →
     (∀ o ∈ s.furrow.ops, o.id < s.furrow.nextOp) →
     (∀ h, s.ownToDestage = some h → s.fld Reg.FRW_NSDST 25 0 ≠ 0 → (s.destaging false).length < 8 → s.sheafLost h = false →
       s.furrow.placed.lookup h.epoch = none →
       let size := s.nsSize Reg.FRW_NSDST
       let x := s.extentOf size s.furrow.nextLba h
       let used := (s.furrow.nextLba + (size - 16) - s.furrow.keepLba) % max 1 (size - 16)
       (size - 16 ≤ used + x.1.length / 4096 → Ends (.destageExtent τ) s fun t =>
         t.bit Reg.FRW_ERR 5 = true ∧ t.furrow = { s.furrow with full := true } ∧ t = { n with ctl := t.ctl, furrow := t.furrow }) ∧
       (used + x.1.length / 4096 < size - 16 → Ends (.destageExtent τ) s fun t =>
         (∃ o, t.furrow.ops = s.furrow.ops ++ [o] ∧ o.kind = .destage false ∧ o.epoch = h.epoch ∧ o.lba = s.furrow.nextLba ∧
           o.bytes = x.1 ∧ o.issued = false) ∧ t.furrow.cmds = s.furrow.cmds ∧ t.furrow.nextLba = x.2 ∧
         t.furrow.placed = s.furrow.placed ++ [(h.epoch, s.furrow.nextLba)] ∧ t.mem = s.mem)) ∧
     (s.bit Reg.FRW_PLOUGH 31 = true → s.furrow.ops = [] → s.ploughsPart = false →
       (s.furrow.sweeps = [] → s.fld Reg.FRW_NSPLG 25 0 ≠ 0 → Ends (.ploughChunk τ) s fun t =>
         (∃ x, t.furrow.sweeps = [x] ∧ x.part = false ∧ x.baseEpoch = s.journal.prevEpoch ∧ x.baseChain = s.journal.prevChain ∧
           x.next = 0 ∧ x.stage = 0 ∧ ∀ k, s.furrow.ploughSeq = some k → x.seq = k + 1) ∧
         (∃ o, t.furrow.ops = [o] ∧ o.kind = .plough false none ∧ o.epoch = s.epoch) ∧ t.mem = s.mem) ∧
       ∀ x, s.furrow.sweeps = [x] → x.part = false → x.stage = 1 → x.next < s.fld Reg.JNL_REGION 28 16 * 1024 →
         s.tick.rollback = none → x.last + s.chunkNs ≤ n.time → let pa := s.reg64 Reg.JNL_LIVE_BASE_LO + 2 ^ 20 * x.next
         s.goodPrefix 28 pa (2 ^ 20) false = 2 ^ 20 → Ends (.ploughChunk τ) s fun t =>
           t.furrow.sweeps = [{ x with next := x.next + 1, last := n.time }] ∧
           (∃ o, t.furrow.ops = [o] ∧ o.kind = .plough false (some x.next) ∧ o.epoch = s.epoch ∧ o.bytes = s.bytes pa (2 ^ 20) ∧
             o.lba = x.area + 1 + 256 * x.next) ∧ t.mem = s.mem))

/-! ## Weft (R502, R521 to R540) -/

namespace Sys2Proof.Stated

/-- A link in a state, and nothing else changed. -/
def linkSet (s : State) (l : Nat) (w : WState) : State := s.mapLink l fun x => { x with state := w }

end Sys2Proof.Stated

/-- Links: a flit is read back from its 256 bytes (R520); an aligned one waits for LOCK and then sends its LINK flit; the peer's flit brings it UP, one with the own ID
or another revision fails it; a failed link trains again after 10 ms; replays and errors of flits are counted. A frame
for another device is sent on with one hop more, or discarded (R521 to R527). STATE frames keep the partner's plots,
keys and records, and are confirmed; remote stakes join their slice, are granted, released and wounded; a device that
has been silent is probed and then lost: its accesses end, its votes have failed (R106, R107, R116, R161, R481, R497,
R538). The layouts are the model's (log entry 14). -/
def Obligations.Weft : Prop :=
  (∀ f : Flit, f.kind < 4 → f.vc < 8 → f.seq < 1024 → f.ackSeq < 1024 → f.body.length = 236 → f.credit.length = 6 →
     (∀ c ∈ f.credit, c < 65536) → f.bytes.length = 256 ∧ flitOf f.bytes = some f) ∧
  (∀ (s : State) (l : Nat), l < 6 →
     let x := s.link l
     (s.bit Reg.WFT_CTRL l = true → x.state = .train →
       (s.bit Reg.WFT_CTRL 31 = false → Ends (.weftLinkAligned l) s fun t => t = linkSet s l .align) ∧
       (s.bit Reg.WFT_CTRL 31 = true → Ends (.weftLinkAligned l) s fun t =>
         t = (linkSet s l .ident).sendFlit l 3 false (beBytes 2 s.devId ++ beBytes 1 l ++ beBytes 2 0x9612 ++ [1]))) ∧
     (∀ peer pl, x.state = .ident → peer % 1024 ≠ s.devId → Ends (.linkFlit l peer pl 1) s fun t =>
       t.linkUp l = true ∧ t.fld (linkReg Reg.WFT_LSTAT l) 25 16 = peer % 1024 ∧ t.fld (linkReg Reg.WFT_LSTAT l) 6 4 = pl % 8 ∧
       RegsBut s t [linkReg Reg.WFT_LSTAT l] ∧ t = { s with ctl := t.ctl, weft := t.weft }) ∧
     (∀ peer pl rev, x.state = .ident → peer % 1024 = s.devId → Ends (.linkFlit l peer pl rev) s fun t =>
       (t.link l).state = .failed ∧ t.bit Reg.WFT_ERR 2 = true ∧ t.bit Reg.WFT_ERR 1 = true) ∧
     (∀ τ, x.state ≠ .off → x.state ≠ .failed → Ends (.weftLinkFail τ l) s fun t =>
       (t.link l).state = .failed ∧ (t.link l).failAt = (s.advance τ).time ∧ t.bit Reg.WFT_ERR 1 = true ∧
       (∀ k, k ≠ l → t.link k = s.link k) ∧ t.units = s.units ∧ t.mem = s.mem) ∧
     (∀ τ, s.bit Reg.WFT_CTRL l = true → x.state = .failed →
       (x.failAt + 10000000 ≤ (s.advance τ).time → Ends (.weftRetrain τ l) s fun t => t = linkSet (s.advance τ) l .train) ∧
       ((s.advance τ).time < x.failAt + 10000000 → Ends (.weftRetrain τ l) s fun t => t = s.advance τ)) ∧
     (∀ q, s.linkUp l = true → let n := if x.replays ≠ 0 ∧ x.flit = q % 1024 then x.replays + 1 else 1
       Ends (.weftReplay l q) s fun t => Counted s t (linkReg Reg.WFT_CNT_REPLAY l) ∧
         (n ≤ s.fld Reg.WFT_CFG 11 8 → (t.link l).replays = n ∧ (t.link l).flit = q % 1024 ∧ t.linkUp l = true ∧
           t.out = s.out ++ (s.replayFrom l (q % 1024)).map (Out.flit l)) ∧
         (s.fld Reg.WFT_CFG 11 8 < n → (t.link l).state = .failed)) ∧
     (x.state ≠ .off →
       (Ends (.weftFlitError l .corrected) s fun t => Counted s t (linkReg Reg.WFT_CNT_FEC l) ∧ OnlyCtl s t ∧
         RegsBut s t [linkReg Reg.WFT_CNT_FEC l]) ∧
       (Ends (.weftFlitError l .crc) s fun t => Counted s t (linkReg Reg.WFT_CNT_FECUE l) ∧ (∃ f : Flit, f.kind = 2 ∧ f.nak = true ∧ t.out = s.out ++ [.flit l f.bytes]) ∧
         t = { s with ctl := t.ctl, out := t.out }) ∧
       Ends (.weftFlitError l .gap) s fun t => (∃ f : Flit, f.kind = 2 ∧ f.nak = true ∧ t.out = s.out ++ [.flit l f.bytes]) ∧ t = { s with out := t.out }) ∧
     ∀ b, s.linkUp l = true → frameOk b = true → beAt b 2 2 ≠ s.devId → 6 < beAt b 0 1 → s.safe = false →
       (∀ k, beAt b 6 1 ≠ 6 → s.routeTo (beAt b 2 2) = some k → Ends (.weftFrameForward l b) s fun t =>
         t = s.emit (.frame k (overlay b 6 (beBytes 1 (beAt b 6 1 + 1))))) ∧
       (beAt b 6 1 = 6 → Ends (.weftFrameForward l b) s fun t => t = s.setBit Reg.WFT_ERR 3 true) ∧
       (beAt b 6 1 ≠ 6 → s.routeTo (beAt b 2 2) = none → Ends (.weftFrameForward l b) s fun t => t = s.setBit Reg.WFT_ERR 4 true)) ∧
  ((∀ (s : State) (rest : List Byte) (tag : Nat), s.safe = false → s.paired = true → 0 < tag → tag < 2 ^ 64 →
     let frame (k : Nat) : List Byte := beBytes 1 k ++ beBytes 8 tag ++ rest
     let y := s.seen s.partnerId
     let ok (t : State) : State := t.mirrorSend 0x05 (beBytes 1 7 ++ beBytes 8 tag)
     ((descOf (slice rest 2 1024)).adopted = false → Ends (.stateFrame (frame 1)) s fun t =>
       t = ok (y.mapTwin fun w => { w with copies := sput w.copies (beAt rest 0 2) rest })) ∧
     (Ends (.stateFrame (frame 2)) s fun t => t = ok (y.mapTwin fun w => { w with copies := sdel w.copies (beAt rest 0 2) })) ∧
     (Ends (.stateFrame (frame 3)) s fun t =>
       t = ok (y.mapCipher fun c => { c with blobs := sput c.blobs (beAt rest 0 4) (rest.drop 4) })) ∧
     (Ends (.stateFrame (frame 4)) s fun t => t = ok (y.mapCipher fun c => { c with blobs := sdel c.blobs (beAt rest 0 4) }))) ∧
   (∀ (s : State) (dev ns key : Nat) (who : Party) (x : Bool), s.safe = false →
     (Ends (.stakeReq dev who ns key x true) s fun t => t = (s.seen dev).mapStakes fun k =>
       { k with msgs := k.msgs ++ [{ slice := s.sliceOf ns key, who := who, ns := ns, key := key, op := .request x }] }) ∧
     (who.dev ≠ s.devId → Ends (.stakeReq dev who ns key x false) s fun t =>
       t = (((s.seen dev).setBit Reg.STK_ERR 5 true).stakeReport (s.sliceOf ns key) ns 5).weftSend who.dev 0x11 (who.bytes ++ recordBytes ns key ++ beBytes 1 5))) ∧
   (∀ (s : State) (τ dev ns key : Nat) (who : Party), let n := s.advance τ
     s.safe = false →
     (∀ r c, s.sameTxn who = true → s.stakeRec who.slot ns key = some r → r.home = dev → r.waits.isSome = true → c ≠ 0xFF →
       Ends (.stakeRsp τ ⟨dev, who⟩ ns key c) s fun t =>
         t.stakes.grants = s.stakes.grants ++ [{ slot := who.slot, ns := ns, key := key, code := c }] ∧
         t = { n with stakes := t.stakes, weft := t.weft }) ∧
     (s.sameTxn who = false → Ends (.stakeRsp τ ⟨dev, who⟩ ns key 0) s fun t => t = (n.seen dev).sendStakeOp dev ns key who .release) ∧
     (Ends (.stakeFwd ⟨dev, who⟩ ns key .release) s fun t => t = (s.seen dev).mapStakes fun k =>
       { k with msgs := k.msgs ++ [{ slice := s.sliceOf ns key, who := who, ns := ns, key := key, op := .release }] }) ∧
     (Ends (.stakeFwd ⟨dev, who⟩ ns key .withdraw) s fun t => t = (s.seen dev).mapStakes fun k =>
       { k with msgs := k.msgs ++ [{ slice := s.sliceOf ns key, who := who, ns := ns, key := key, op := .withdraw }] }) ∧
     (∀ k, s.tslot who.slot = some k → k.stamp = who.stamp → k.seq = who.seq → k.attempt = who.attempt →
       Ends (.stakeFwd ⟨dev, who⟩ ns key .wound) s fun t => t = (s.seen dev).mapStakes fun m =>
         { m with wounds := m.wounds ++ [{ slot := who.slot, attempt := k.attempt, slice := 16 }] }) ∧
     Ends (.stakeFwd ⟨dev, who⟩ ns key .woundByKey) s fun t => t = (s.seen dev).woundByKey 16 dev ns key who) ∧
   ∀ (s : State) (τ d : Nat), let n := s.advance τ
     (d ≠ s.devId → s.involves d = true → s.fld Reg.WFT_CFG 23 16 * 2500 ≤ n.silence d → Ends (.probeSend τ d) s fun t =>
       t = n.weftSend d 0x19 []) ∧
     (n.silence d < s.fld Reg.WFT_CFG 23 16 * 2500 → Ends (.probeSend τ d) s fun t => t = n) ∧
     (s.safe = false → (Ends (.probe τ d) s fun t => t = (n.seen d).weftSend d 0x1A []) ∧
       (Ends (.probeRsp τ d) s fun t => t = n.seen d ∧ d ∉ t.weft.lost ∧ t.silence d = 0)) ∧
     (d ≠ s.devId → s.involves d = true → s.safe = false → d ∉ s.weft.lost → s.fld Reg.WFT_CFG 23 16 * 10000 ≤ n.silence d →
       s.stakes.recs = [] → s.stakes.entries = [] → s.tick.sealing = none → Ends (.deviceLost τ d) s fun t =>
         d ∈ t.weft.lost ∧ Counted s t Reg.WFT_CNT_LOST ∧ t.bit Reg.WFT_ERR 5 = true ∧
         (∀ v ∈ t.weft.votes, v.dev = d → v.got < v.count → v.failed = true) ∧
         (∀ r ∈ t.weft.reqs, r.dev = d → r.answer.isSome = true) ∧ t.mem = s.mem))

/-- Remote records at their home: an access that the checks deny is answered POISON, a read gives the bytes and the newest
unsealed epoch that it met, a write is captured and answered. A commit notice makes a record and a vote, an abort puts the
before-images back. At the requester: the answer waits for its load, a store is over, a refused one ends its transaction;
acceptances let the COMMIT go on; votes are counted (R502, R530 to R536). -/
def Obligations.RemoteRecords : Prop :=
  (∀ (s : State) (dev tag plot off len : Nat) (slot : Option Nat), s.safe = false → let y := s.seen dev
    (s.recSegment dev plot slot off len false = none → Ends (.recRead dev tag plot slot off len) s fun t =>
      t = (y.setBit Reg.WFT_ERR 7 true).answerRec dev tag 1 0 []) ∧
    (∀ pa, s.recSegment dev plot slot off len false = some (pa, false) → s.poisonIn pa len = false →
      Ends (.recRead dev tag plot slot off len) s fun t => t = y.answerRec dev tag 0 0 (s.bytes pa len)) ∧
    (∀ pa e, s.recSegment dev plot slot off len false = some (pa, true) → s.poisonIn pa len = false → 0 < len →
      pa % 64 + len ≤ 64 → s.unsealedAt (pa / 64 * 64) = some e → 0 < e → Ends (.recRead dev tag plot slot off len) s fun t =>
        t = (y.noteRemRead dev slot e).answerRec dev tag 0 e (s.bytes pa len))) ∧
  (∀ (s : State) (dev tag plot off n : Nat) (b : List Byte), s.safe = false → let y := s.seen dev
    let base := s.reg64 Reg.JNL_LIVE_BASE_LO
    (s.recSegment dev plot (some n) off b.length true = none → Ends (.recWrite dev tag plot (some n) off b) s fun t =>
      t = (y.setBit Reg.WFT_ERR 7 true).answerRec dev tag 1 0 []) ∧
    (∀ pa, s.recSegment dev plot (some n) off b.length true = some (pa, false) → Ends (.recWrite dev tag plot (some n) off b) s fun t =>
      t = (y.agentStore pa b).answerRec dev tag 0 0 []) ∧
    (∀ pa, s.recSegment dev plot (some n) off b.length true = some (pa, true) → (s.remLinesOf dev n).length = 480 →
      off % 64 + b.length ≤ 64 → base % 64 = 0 → hasLine (s.remLinesOf dev n) (off / 64 * 64) = false →
      Ends (.recWrite dev tag plot (some n) off b) s fun t => t = y.answerRec dev tag 2 0 []) ∧
    (∀ pa, s.recSegment dev plot (some n) off b.length true = some (pa, true) → (s.remLinesOf dev n).length < 480 →
      off % 64 + b.length ≤ 64 → base % 64 = 0 → hasLine (s.remLinesOf dev n) (off / 64 * 64) = false →
      Ends (.recWrite dev tag plot (some n) off b) s fun t => ∃ z : State, t = z.answerRec dev tag 0 0 [] ∧
        z.bytes (base + off) b.length = b ∧ (∀ a, a < base + off ∨ base + off + b.length ≤ a → z.byte a = s.byte a) ∧
        z.weft.remLines = s.weft.remLines ++ [{ dev := dev, slot := n, line := { off := off / 64 * 64
                                                                                 before := s.bytes (base + off / 64 * 64) 64
                                                                                 after := [] } }])) ∧
  (∀ (s : State) (dev n : Nat) (b : List Byte), s.safe = false →
    (beAt b 0 1 = 1 → s.remLinesOf dev n = [] → (∀ r ∈ s.weft.remReads, ¬(r.dev = dev ∧ r.slot = n)) →
      Ends (.spanNotice dev n b) s fun t => t = (s.seen dev).acceptSpan dev n 0) ∧
    (beAt b 0 1 = 1 → s.remLinesOf dev n ≠ [] → s.tick.epochOpen = true →
      s.commitBlock s.epoch 0 (s.remLinesOf dev n).length = none → Ends (.spanNotice dev n b) s fun t =>
        (∀ g ∈ s.journal.undo, g.epoch = s.epoch → ∃ r, { g with recs := g.recs ++ [r] } ∈ t.journal.undo ∧ r.span = true ∧
          r.reqid = beAt b 21 8 ∧ r.plot = beAt b 29 2 ∧ r.lines.map (·.off) = (s.remLinesOf dev n).map (·.off)) ∧
        (∃ v ∈ t.weft.votes, v.mine = s.epoch ∧ v.dev = dev) ∧ t.remLinesOf dev n = [] ∧
        ∀ a, a < s.reg64 Reg.JNL_RING_BASE_LO ∨ s.areaBase + s.areaSize ≤ a → t.byte a = s.byte a) ∧
    (∀ e, beAt b 0 1 ≠ 1 → s.remLinesOf dev n = [e] → e.before.length = 64 → (s.reg64 Reg.JNL_LIVE_BASE_LO + e.off) % 64 = 0 →
      Ends (.spanNotice dev n b) s fun t =>
        t.bytes (s.reg64 Reg.JNL_LIVE_BASE_LO + e.off) 64 = e.before ∧ t.remLinesOf dev n = [] ∧ t.journal = s.journal)) ∧
  (∀ (s : State) (tag e : Nat) (b : List Byte) (r : RemReq), s.safe = false →
    (s.weft.reqs.find? fun r => r.tag = tag ∧ r.answer.isNone) = some r →
    (r.write = false → (s.unit r.unit).wait = .remote tag → Ends (.recRsp tag .ok b e) s fun t =>
      { r with answer := some (0, fitTo r.len b) } ∈ t.weft.reqs ∧ (t.unit r.unit).wait = .none ∧
      archOf t r.unit = archOf s r.unit ∧ (∀ v, v ≠ r.unit → t.unit v = s.unit v) ∧ t.mem = s.mem) ∧
    (r.write = true → Ends (.recRsp tag .ok b e) s fun t =>
      t.weft.reqs = (s.weft.reqs.filter fun x => x.tag ≠ tag) ∧ t = { s with weft := t.weft }) ∧
    (r.write = true → r.slot.isSome = true → (s.unit r.unit).txn = r.slot → (s.unit r.unit).latch.ends = [] →
      Ends (.recRsp tag .refused b e) s fun t => (t.unit r.unit).latch.ends = [.capture] ∧
        t.weft.reqs = s.weft.reqs.filter fun x => x.tag ≠ tag) ∧
    (r.write = true → (s.unit r.unit).latch.mcheck = none → Ends (.recRsp tag .poison b e) s fun t =>
      (t.unit r.unit).latch.mcheck = some 1)) ∧
  (∀ (s : State) (dev n e : Nat) (ok : Bool) (w : SpanWait), s.safe = false → s.spanWait n = some w →
    (∀ d, dev ∈ w.homes → d ∈ w.homes → d ≠ dev → Ends (.spanAccept dev n e ok) s fun t =>
      t.journal.waits = s.journal.waits ∧ ∃ v, t.spanWait n = some v ∧ v.homes = (w.homes.filter fun x => x ≠ dev) ∧
        (ok = true → v.accepted = w.accepted ++ [(dev, e)] ∧ v.refused = w.refused) ∧
        (ok = false → v.accepted = w.accepted ∧ v.refused = w.refused ++ [dev])) ∧
    (w.homes = [dev] → (s.unit w.unit).wait = .span w.rlen → Ends (.spanAccept dev n e ok) s fun t => ∃ y : State, t = y.queueCommit w.unit w.slot w.rlen ∧
      y.journal = s.journal ∧ y.units = s.units) ∧
    ∀ τ, w.homes ≠ [] → (s.unit w.unit).wait = .span w.rlen → (s.advance τ).usPassed (w.issued + s.fld Reg.WFT_CFG 7 0 * 1000) = true → Ends (.spanAcceptTimeout τ n) s fun t =>
      ∃ y : State, t = y.queueCommit w.unit w.slot w.rlen ∧ ∃ v, y.spanWait n = some v ∧ v.homes = [] ∧
        v.refused = w.refused ++ w.homes) ∧
  (∀ (s : State) (τ dev e : Nat) (c : List (Nat × Nat)), s.safe = false → s.tick.sealing = none →
    (Ends (.vote τ dev e true c) s fun t => t = ((s.advance τ).seen dev).mapWeft fun w =>
      { w with votes := w.votes.map fun v => match (if v.dev = dev ∧ (v.theirs = e ∨ v.theirs = 0) then c.lookup v.mine else none) with
        | some k => { v with got := v.got + k }
        | none => v }) ∧
    Ends (.vote τ dev e false c) s fun t => Counted s t Reg.WFT_CNT_VOTEFAIL ∧ t.bit Reg.WFT_ERR 6 = true ∧
      ∀ v ∈ s.weft.votes, v.dev = dev → v.theirs = e → (c.lookup v.mine).isSome = true → { v with failed := true } ∈ t.weft.votes) ∧
  (∀ (s : State) (dev tag : Nat) (b : List Byte), s.safe = false → let y := s.seen dev
    (∀ w, s.engineXlat (beAt b 0 2) (beAt b 2 8) (beAt b 10 2) w = none → Ends (.peerReq dev tag w b) s fun t =>
      t = y.weftSend dev 0x1C (beBytes 4 tag ++ beBytes 1 1 ++ [])) ∧
    (∀ pa, s.engineXlat (beAt b 0 2) (beAt b 2 8) (beAt b 10 2) true = some pa → Ends (.peerReq dev tag true b) s fun t =>
      t = (y.engineWrite pa (fitTo (beAt b 10 2) (b.drop 12)) false).weftSend dev 0x1C (beBytes 4 tag ++ beBytes 1 0 ++ [])) ∧
    (∀ pa, s.engineXlat (beAt b 0 2) (beAt b 2 8) (beAt b 10 2) false = some pa →
      s.goodPrefix 28 pa (beAt b 10 2) false = beAt b 10 2 → Ends (.peerReq dev tag false b) s fun t =>
        t = y.weftSend dev 0x1C (beBytes 4 tag ++ beBytes 1 0 ++ s.bytes pa (beAt b 10 2)))) ∧
  ∀ (s : State) (τ tag p : Nat) (c : FrwCmd) (o : FrwOp) (b : List Byte), s.furrow.cmds = [c] → c.tag = tag → 64 ≤ c.group →
    c.path = some p → s.op c.op = some o → o.kind = .program → o.ending = none → c.what = 0xF2 →
    (Ends (.peerRsp τ tag 0 b) s fun t => ∃ y : State, t = y.opNext o ∧ y.furrow.cmds = [] ∧ y.mem = s.mem ∧ y.ctl = s.ctl) ∧
    ∀ st, st ≠ 0 → Ends (.peerRsp τ tag st b) s fun t => ∃ y : State, t = y.opEnd o 0x0402 0 (c.args.getD 2 0) ∧ y.furrow.cmds = []

/-! ## Resets, power, clocks, sensors (R20, R563, R564, R609 to R624) -/

namespace Sys2Proof.Stated

/-- No cache holds a byte in a newer form than DRAM does. -/
def inDram (s : State) (a : Nat) : Prop :=
  ∀ c ∈ s.clusters, ∀ l ∈ c.2.lines, ∀ b, l.dirty = some b → a < l.pa ∨ l.pa + b.length ≤ a

/-- What a device reset leaves (R618 to R620): fuses, MRAM, blobs, the Gleaner's records, marked, the Almanac and its
registers, DRAM as it stood without the caches, the clock, what left the device and what waits stand; everything else is
as State.reset has it, and the cause stands in both registers. -/
structure AfterReset (s t : State) (cause : Nat) : Prop where
  state  : t = { State.reset with
    ctl := t.ctl, mem := t.mem
    gleaner := { s.gleaner with recs := s.gleaner.recs.map (fun r => { r with preReset := true }), counts := [], doorbells := 0 }
    almanac := { s.almanac with resetSeen := true }
    cipher := { State.reset.cipher with blobs := s.cipher.blobs }
    furrow := { State.reset.furrow with partOps := s.furrow.partOps }
    fuses := s.fuses, mram := t.mram, power := t.power
    tick := { State.reset.tick with base := (s.time : Int) }
    out := s.out, time := s.time, fresh := s.fresh, pending := s.pending }
  mram   : s.tick.resvWrite = none → t.mram = s.mram
  resv   : ∀ v, s.tick.resvWrite = some v → t.mram = { s.mram with resvA := some v, resvB := some v, resvUsed := true }
  held   : t.held = !s.power.resetN ∧ t.power.on = true ∧ t.power.refresh = true
  dram   : ∀ a, a < scratchBase → inDram s a → t.byte a = s.byte a
  pads   : ∀ a, scratchBase ≤ a → t.byte a = 0
  kept   : ∀ off, survivesReset off = true → t.reg off = s.reg off
  regs   : ∀ off, survivesReset off = false → off ∉ [Reg.GLN_STATUS, Reg.GLN_ERR, Reg.LCT_ERR, Reg.PCK_RSTCAUSE, Reg.SWD_BOOTSTAT] →
    t.reg off = regReset off
  part   : t.reg Reg.GLN_STATUS = s.reg Reg.GLN_STATUS &&& 0x40000000#32 ∧ t.reg Reg.GLN_ERR = s.reg Reg.GLN_ERR &&& 0x4#32 ∧
    t.reg Reg.LCT_ERR = s.reg Reg.LCT_ERR &&& 0x3C#32
  cause  : t.reg Reg.PCK_RSTCAUSE = BitVec.ofNat 32 cause ∧ t.fld Reg.SWD_BOOTSTAT 15 8 = cause

end Sys2Proof.Stated

/-- A device reset by PCK_RSTCTRL (with KEY 0xC0DE and DEVRST, else only BADW), by RESET_N, which holds the device until
it is high again, and after a lifecycle change leaves what AfterReset says, with its cause; a loss of power keeps only
fuses, MRAM and the number of the newest snapshot, and a power-on reset starts everything afresh with cause POWER_ON.
That a reset keeps the clock of the model is the model's choice (log entry 24). -/
def Obligations.Resets : Prop :=
  ∀ (s : State),
    (∀ (m : Master) (v : Word), s.writesReg m Reg.PCK_RSTCTRL = true →
      (bits v 31 16 = 0xC0DE → v.getLsbD 0 = true → s.power.on = true → Ends (.softwareReset m v) s fun t =>
        AfterReset s t (if m = .debugger then causeDebug else causeSoftware)) ∧
      (bits v 31 16 ≠ 0xC0DE ∨ v.getLsbD 0 = false → Ends (.softwareReset m v) s fun t => t = s.badw Reg.PCK_RSTCTRL)) ∧
    (∀ n, s.power.on = true → Ends (.resetNAssert n) s fun t =>
      AfterReset ((s.advance n).mapPower fun p => { p with resetN := false }) t causePin ∧ t.held = true) ∧
    (∀ n, s.power.on = true → s.power.inReset = true → Ends (.resetNRelease n) s fun t =>
      t.held = false ∧ t.timeBase = 0 ∧ t.mem = s.mem ∧ t.ctl = s.ctl ∧ t.boot = s.boot) ∧
    (∀ n, s.power.lcReset = some n → s.power.on = true → Ends .lifecycleReset s fun t => AfterReset (s.advance n) t causeLifecycle) ∧
    (s.power.lcReset = none → Ends .lifecycleReset s fun t => t = s) ∧
    (Ends .porstNAssert s fun t =>
      t.held = true ∧ t.fuses = s.fuses ∧ (s.tick.resvWrite = none → t.mram = s.mram) ∧ t.units = [] ∧ t.gleaner = State.reset.gleaner ∧
      t.mem = State.reset.mem ∧ t.out = s.out ∧ t.pending = s.pending) ∧
    Ends .powerOnReset s fun t =>
      t.power.on = true ∧ t.held = !s.power.resetN ∧ t.fuses = s.fuses ∧
      (s.power.on = true → (s.tick.resvWrite = none → t.mram = s.mram) ∧ t.mem = State.reset.mem ∧ t.units = [] ∧
        t.gleaner = State.reset.gleaner ∧ t.reg64 Reg.ALM_HEAD_LO = s.reg64 Reg.ALM_HEAD_LO ∧
        ∀ off, off ∉ [Reg.ALM_HEAD_LO, Reg.ALM_HEAD_HI, Reg.PCK_RSTCAUSE, Reg.SWD_BOOTSTAT] → t.reg off = regReset off) ∧
      t.boot.stage = some 1 ∧ t.timeBase = 0 ∧ t.reg Reg.PCK_RSTCAUSE = BitVec.ofNat 32 causePowerOn

/-- A reading of a rail or a sensor stands in its register and reaches the Almanac; a rail beyond 10 % or a sensor at
SHUT twice in a row brings device safe state, one at THROT lowers the clock limit of its cluster. A clock moves by one
step toward the lower of FREQ and the limit. A monitor that trips is recorded, with safe state for the domains that the
device cannot do without. A tamper sensor wipes the vault and the strongrooms and brings safe state, unless it is masked
before FIELD (R563, R564, R609, R616, R617, R623, R624). -/
def Obligations.SensorsAndClocks : Prop :=
  ∀ (s : State), s.held = false →
    (∀ rail mv, rail < 8 → Ends (.railSample rail mv) s fun t =>
      t.fld (Reg.PCK_RAIL + 4 * rail) 11 0 = min 4095 mv ∧
      t = { s with ctl := t.ctl
                   almanac := { s.almanac with samples := s.almanac.samples ++ [⟨0x0C, rail, min 0xFFFFFFFF mv, s.reg64 Reg.TCK_EPOCH_LO⟩] } } ∧
      RegsBut s t [Reg.PCK_RAIL + 4 * rail]) ∧
    (∀ rail, rail < 8 →
      (Ends (.railExcursion rail false) s fun t => t.bit Reg.PCK_ERR 2 = true ∧ OnlyLogged s t [Reg.PCK_ERR]) ∧
      Ends (.railExcursion rail true) s fun t => t.bit Reg.PCK_ERR 3 = true ∧ t.safe = true ∧ t.mem = s.mem) ∧
    (∀ n k value, k < 16 → value < 1024 → (k < 12 → s.domainOff k = false) → Ends (.tempSample n k value) s fun t =>
      t.reg (Reg.PCK_TEMP + 4 * k) = BitVec.ofNat 32 (2 ^ 31 + value) ∧ t.time = max s.time n ∧
      (tempCode (s.fld Reg.PCK_THERM 7 0) ≤ value → t.bit Reg.PCK_ERR 5 = true ∧
        (k < 12 → (t.clockLimit k).1 = max 12 ((s.clockLimit k).1 - 1))) ∧
      (tempCode (s.fld Reg.PCK_THERM 15 8) ≤ value → k ∈ s.power.trips → t.safe = true ∧ t.bit Reg.PCK_ERR 6 = true) ∧
      (tempCode (s.fld Reg.PCK_THERM 15 8) ≤ value → k ∉ s.power.trips → k ∈ t.power.trips)) ∧
    (∀ c, c < 12 → let r := Reg.PCK_CLKCFG + 4 * c
      (Ends (.cclkStep c) s fun t =>
        let want := min (s.fld r 4 0) (s.clockLimit c).1
        let cur := s.fld r 12 8
        t.fld r 12 8 = (if cur < want then cur + 1 else if want < cur then cur - 1 else cur) ∧ t.fld r 4 0 = s.fld r 4 0 ∧
        OnlyCtl s t ∧ RegsBut s t [r]) ∧
      ∀ (m : Master) (v : Word), s.writesReg m r = true → Ends (.cclkChange m c v) s fun t =>
        t.fld r 12 8 = s.fld r 12 8 ∧ OnlyCtl s t ∧ RegsBut s t [r, Reg.PCK_ERR] ∧
        (12 ≤ bits v 4 0 → bits v 4 0 ≤ 24 → t.fld r 4 0 = bits v 4 0 ∧ t.reg Reg.PCK_ERR = s.reg Reg.PCK_ERR) ∧
        (bits v 4 0 < 12 ∨ 24 < bits v 4 0 → t.fld r 4 0 = s.fld r 4 0 ∧ t.bit Reg.PCK_ERR 0 = true)) ∧
    (∀ d, d < 40 → d ≠ 38 → s.domainOff d = false → Ends (.clockMonitorTrip d) s fun t =>
      (if d < 32 then t.bit Reg.PCK_MONSTAT_LO d else t.bit Reg.PCK_MONSTAT_HI (d - 32)) = true ∧ t.bit Reg.PCK_ERR 1 = true ∧
      (d < 22 ∨ d = 30 ∨ 32 ≤ d → t.safe = true) ∧ (d = 31 → t.thresher.offline = List.range 8)) ∧
    ∀ k, k < 4 → s.power.on = true →
      (s.tamperMask.getLsbD k = true → Ends (.tamperEvent k) s fun t => t = s.setBit Reg.LCT_ERR (2 + k) true) ∧
      (s.tamperMask.getLsbD k = false → Ends (.tamperEvent k) s fun t =>
        t.safe = true ∧ t.bit Reg.LCT_ERR (2 + k) = true ∧
        (s.cipher.jobs = [] → t.cipher.slots = [] ∧ t.mram.tampers = min 0xFFFFFFFF (s.mram.tampers + 1) ∧
          ∀ c, c < 12 → t.bit (clsReg Reg.CLS_SPSTAT c) 16 = true))

/-- A cluster is powered down only where its pairs are SPARE or RETIRED, no store waits, no line is marked and no wipe is
in progress; what refuses it stands in PCK_CLSPWRSTAT with its cause. Powered down, it keeps nothing but the banks in
retention; powered up, it is served again. The watchdog counts from its enable or kick, its TIMEOUT stands while it is
enabled, and its end brings safe state (R612 to R614, R622). -/
def Obligations.ClusterPowerAndWatchdog : Prop :=
  ∀ (s : State), s.held = false →
    (∀ (m : Master) (v : Word) (c : Nat), c < 12 → s.writesReg m Reg.PCK_CLSPWR = true →
      (∀ k, k < 12 → k ≠ c → v.getLsbD k = s.bit Reg.PCK_CLSPWR k) →
      let free_ : Prop := (∀ p ∈ pairsOfCluster c, s.role p = roleSpare ∨ s.role p = roleRetired) ∧ (s.cluster c).stores = [] ∧
        (∀ p ∈ pairsOfCluster c, (s.pair p).stores = []) ∧ (∀ u ∈ unitsOfCluster c, (s.unit u).stores = []) ∧
        (∀ l ∈ (s.cluster c).lines, l.mark = none) ∧ s.bit (clsReg Reg.CLS_SPSTAT c) 16 = false
      (v.getLsbD c = true → s.bit Reg.PCK_CLSPWR c = false →
        (free_ → s.power.powering.lookup c = none → Ends (.clusterPowerDown m v) s fun t =>
          t.bit Reg.PCK_CLSPWR c = true ∧ t.bit Reg.PCK_CLSPWRSTAT (12 + c) = true ∧ t.power.powering.lookup c = some false ∧
          t.clusters = s.clusters ∧ t.mem = s.mem) ∧
        (¬ free_ → Ends (.clusterPowerDown m v) s fun t =>
          t.bit Reg.PCK_CLSPWR c = false ∧ t.fld Reg.PCK_CLSPWRSTAT 27 24 = c ∧ t.fld Reg.PCK_CLSPWRSTAT 31 28 = s.powerRefusal c ∧
          t.bit Reg.PCK_ERR 4 = true ∧ t.power = s.power ∧
          ((∃ p ∈ pairsOfCluster c, s.role p ≠ roleSpare ∧ s.role p ≠ roleRetired) → s.powerRefusal c = 1))) ∧
      (v.getLsbD c = false → s.bit Reg.PCK_CLSPWR c = true → s.bit Reg.PCK_CLSPWRSTAT c = true → s.power.powering.lookup c = none →
        Ends (.clusterPowerUp m v) s fun t =>
          t.bit Reg.PCK_CLSPWR c = false ∧ t.bit Reg.PCK_CLSPWRSTAT (12 + c) = true ∧ t.power.powering.lookup c = some true)) ∧
    (∀ c, c < 12 → s.power.powering.lookup c = some false → s.bit Reg.PCK_CLSPWR c = true → Ends (.clusterPowerDownDone c) s fun t =>
      t.cluster c = Cluster.reset ∧ (∀ p ∈ pairsOfCluster c, (t.pair p).words = [] ∧ t.unit (2 * p) = CoreUnit.reset ∧
        t.unit (2 * p + 1) = CoreUnit.reset) ∧
      (∀ a, a < 0x400000 → t.byte (scratchBase + 0x400000 * c + a) =
        if s.bit (clsReg Reg.CLS_SPRET c) (a / 0x80000) then s.byte (scratchBase + 0x400000 * c + a) else 0) ∧
      t.bit Reg.PCK_CLSPWRSTAT c = true ∧ t.bit Reg.PCK_CLSPWRSTAT (12 + c) = false ∧ t.bit Reg.PCK_DOMOFF_LO c = true ∧
      t.power.powering.lookup c = none ∧ ∀ d, d ≠ c → t.cluster d = s.cluster d) ∧
    (∀ c, c < 12 → s.power.powering.lookup c = some true → s.bit Reg.PCK_CLSPWR c = false → Ends (.clusterPowerUpDone c) s fun t =>
      t.bit Reg.PCK_CLSPWRSTAT c = false ∧ t.bit Reg.PCK_CLSPWRSTAT (12 + c) = false ∧ t.bit Reg.PCK_DOMOFF_LO c = false ∧
      t.power.powering.lookup c = none) ∧
    (∀ (m : Master) (v : Word), s.writesReg m Reg.PCK_WDOG = true → 0 < bits v 7 0 →
      (s.bit Reg.PCK_WDOG 31 = false → Ends (.wdogEnable m v) s fun t =>
        t.bit Reg.PCK_WDOG 31 = true ∧ t.fld Reg.PCK_WDOG 7 0 = bits v 7 0 ∧ t.power = { s.power with wdog := some s.time } ∧
        RegsBut s t [Reg.PCK_WDOG]) ∧
      (s.bit Reg.PCK_WDOG 31 = true → bits v 7 0 ≠ s.fld Reg.PCK_WDOG 7 0 → Ends (.wdogEnable m v) s fun t =>
        t.bit Reg.PCK_ERR 0 = true ∧ t.bit Reg.PCK_WDOG 31 = true ∧ t.fld Reg.PCK_WDOG 7 0 = s.fld Reg.PCK_WDOG 7 0) ∧
      (s.bit Reg.PCK_WDOG 31 = true → bits v 7 0 = s.fld Reg.PCK_WDOG 7 0 → v.getLsbD 31 = true → Ends (.wdogKick m v) s fun t =>
        t.power = { s.power with wdog := some s.time } ∧ RegsBut s t [])) ∧
    ∀ n k, s.power.wdog = some k → s.evral.stewHalt = false →
      ((s.advance n).msPassed (k + s.fld Reg.PCK_WDOG 7 0 * 1000000) = true → Ends (.wdogExpire n) s fun t =>
        t.bit Reg.PCK_ERR 7 = true ∧ t.safe = true ∧ t.power.wdog = some (max s.time n)) ∧
      ((s.advance n).msPassed (k + s.fld Reg.PCK_WDOG 7 0 * 1000000) = false → Ends (.wdogExpire n) s fun t => t = s.advance n)

/-! ## The debug port (R565 to R577) -/

/-- What the debug port reaches follows the lifecycle; an authorisation is accepted only where it names this device and
this boot and its key signed it, and then it opens its scope and is measured. HALT, STEP and RESUME act on the pair that
is selected, its registers are read and written only while it is halted, and DBG_MDATA reads and writes memory but never
LCT, DBG, TWN_CFG or TWN_PAIRGEN. A transfer answers 0011 where the port refuses it, and a write whose CRC fails is not
made (R566 to R574). -/
def Obligations.DebugPort : Prop :=
  ∀ (s : State) (m : Master), s.held = false →
    (s.portAccess = if s.fuses.lifecycle ≤ 1 then 0 else if 4 ≤ s.fuses.lifecycle then 3 else if s.evral.scope = none then 1 else 2) ∧
    (s.dbgReaches m true Reg.DBG_AUTHCTRL = true →
      (Ends (.authCommit m) s fun t => t = { s with evral := { s.evral with checking := true } }) ∧
      Ends (.authClear m) s fun t => (∀ k, k < 40 → t.reg (Reg.DBG_AUTHWIN + 4 * k) = 0) ∧ OnlyCtl s t ∧
        RegsBut s t ((List.range 40).map fun k => Reg.DBG_AUTHWIN + 4 * k)) ∧
    (s.evral.checking = true → Ends .authCheckDone s fun t =>
      t.evral.result = s.authResult s.authWindow ∧ t.evral.checking = false ∧
      (s.authResult s.authWindow = 1 → t.evral.scope = some (leAt s.authWindow 6 2) ∧
        t.meas 6 = sha384 (s.meas 6 ++ sha384 s.authWindow)) ∧
      (s.authResult s.authWindow ≠ 1 → t.evral.scope = s.evral.scope ∧ t.bit Reg.DBG_ERR 1 = true)) ∧
    (∀ b, s.authResult b = 1 → b.length = 160 ∧ slice b 8 16 = s.uid ∧ leAt b 24 8 = s.boot.seq ∧ leAt b 32 4 = s.fuses.lcCount ∧
      ((leAt b 36 1 = 1 ∧ s.fuses.lifecycle = 2 ∧ ecVerify (sha384 (b.take 64)) s.ownerPub (slice b 64 96) = true) ∨
       (leAt b 36 1 = 2 ∧ s.fuses.lifecycle = 3 ∧
        ecVerify (sha384 (b.take 64)) (romKey Config.debugKey) (slice b 64 96) = true))) ∧
    (∀ (v : Word) (p : Nat), bits v 6 0 = p → p < 96 → s.dbgReaches m true Reg.DBG_PCTRL = true →
      (s.mayRun m p = true →
        (s.pairHalted p = false → Ends (.debugHalt m v) s fun t =>
          t.dbgPair = p ∧ (t.unit (2 * p)).latch.halt = true ∧ (t.unit (2 * p + 1)).latch.halt = true ∧
          (t.pair p).brkHalt = v.getLsbD 8 ∧ RegsBut s t [Reg.DBG_PCTRL]) ∧
        ((s.unit (2 * p)).halted = true → (s.unit (2 * p + 1)).halted = true →
          (Ends (.resume m v) s fun t => (t.unit (2 * p)).halted = false ∧ (t.unit (2 * p + 1)).halted = false ∧
            (t.unit (2 * p)).stepping = false ∧ (t.pair p).stop = none ∧ archOf t (2 * p) = archOf s (2 * p)) ∧
          Ends (.step m v) s fun t => (t.unit (2 * p)).halted = false ∧ (t.unit (2 * p + 1)).halted = false ∧
            (t.unit (2 * p)).stepping = true ∧ archOf t (2 * p) = archOf s (2 * p))) ∧
      (s.mayRun m p = false → Ends (.debugHalt m v) s fun t =>
        t.bit Reg.DBG_ERR 2 = true ∧ OnlyCtl s t ∧ RegsBut s t [Reg.DBG_PCTRL, Reg.DBG_ERR])) ∧
    (∀ (v : Word) (r : BitVec 5) (write : Bool), s.dbgReaches m write Reg.DBG_RDATA = true → s.hasScope m 1 = true →
      s.fld Reg.DBG_RSEL 8 0 = r.toNat → s.dbgPair < 96 →
      (s.pairHalted s.dbgPair = true → Ends (.dbgRdataAccess m write v) s fun t =>
        if write then archOf t (2 * s.dbgPair) = (archOf s (2 * s.dbgPair)).setReg r v ∧
          archOf t (2 * s.dbgPair + 1) = (archOf s (2 * s.dbgPair + 1)).setReg r v ∧ t.ctl = s.ctl
        else t = s.answerRead ((archOf s (2 * s.dbgPair)).reg r)) ∧
      (s.pairHalted s.dbgPair = false → Ends (.dbgRdataAccess m write v) s fun t =>
        t.bit Reg.DBG_ERR 3 = true ∧ OnlyCtl s t ∧ RegsBut s t [Reg.DBG_ERR])) ∧
    (∀ v : Word, let pa := s.reg64 Reg.DBG_MADDR_LO
      s.dbgReaches m false Reg.DBG_MDATA = true → s.dbgReaches m true Reg.DBG_MDATA = true →
      (s.mdataDenied m = true →
        (Ends (.dbgMdataRead m) s fun t => t.bit Reg.DBG_ERR 2 = true ∧ t.ctl.rdata = 0 ∧ OnlyCtl s t ∧ RegsBut s t [Reg.DBG_ERR]) ∧
        Ends (.dbgMdataWrite m v) s fun t => t = s.setBit Reg.DBG_ERR 2 true) ∧
      (s.mdataDenied m = false → s.region pa = .dram → (s.mdataAnswer pa).1 = .ok →
        (s.poisonIn pa 4 = false → Ends (.dbgMdataRead m) s fun t =>
          t.ctl.rdata = BitVec.ofNat 32 (leNat ((List.range 4).map fun i => s.shownByte (pa + i))) ∧ t.reg64 Reg.DBG_MADDR_LO = (pa + 4) % 2 ^ 46 ∧ t.mem = s.mem) ∧
        Ends (.dbgMdataWrite m v) s fun t => t = (s.agentStore pa (leBytes 4 v.toNat)).nextMaddr)) ∧
    (s.bit Reg.PLT_STATUS 0 = true → ∀ n x i, n < 4096 → s.plot n = some x → i < 1024 →
      s.shownByte (s.reg64 Reg.PLT_DESC_BASE_LO + 1024 * n + i) = (s.descBytes n x).getD i 0) ∧
    (∀ a, s.bit Reg.PLT_STATUS 0 = false → s.shownByte a = s.byte a) ∧
    (∀ off, s.region (controlBase + off) = .control off → mdataBarred off = true →
      s.reg64 Reg.DBG_MADDR_LO = controlBase + off → s.mdataDenied m = true) ∧
    (∀ (sync oper addr hcrc dcrc : Nat) (v : Word), oper < 4 → addr < 65536 →
      (sync ≠ 0b0110 ∨ hcrc ≠ (hcrcOf oper addr).toNat → Ends (.evralTransfer sync ⟨oper, addr, hcrc⟩ v dcrc) s fun t => t = s) ∧
      (sync = 0b0110 → hcrc = (hcrcOf oper addr).toNat → oper < 2 → s.evral.badData = false →
        Ends (.evralTransfer sync ⟨oper, addr, hcrc⟩ v dcrc) s fun t => t = s.emit (.evral 0b0011)) ∧
      (sync = 0b0110 → hcrc = (hcrcOf oper addr).toNat → s.evral.badData = true →
        Ends (.evralTransfer sync ⟨oper, addr, hcrc⟩ v dcrc) s fun t => t.out = s.out ++ [.evral 0b0011] ∧ t.evral.badData = false ∧ t.ctl = s.ctl)) ∧
    ∀ (write : Bool) (off dcrc : Nat) (v : Word), off < 0x20000 → off % 4 = 0 → s.evral.badData = false →
      let a := Reg.DBG_ID + off
      let ok : Bool := decide (dcrc = (crc8 v).toNat)
      let oper := if write then 3 else 2
      let c := Instr.evralTransfer 0b0110 ⟨oper, off / 4, (hcrcOf oper (off / 4)).toNat⟩ v dcrc
      (∀ b, s.portRefusal write a = some b → Ends c s fun t =>
        t = (s.setBit Reg.DBG_ERR b true).emit (.evral 0b0011)) ∧
      (s.portRefusal write a = none → write = true → ok = false → Ends c s fun t =>
        t.out = s.out ++ [.evral 0b1010] ∧ t.bit Reg.DBG_ERR 5 = true ∧ t.evral.badData = true ∧ RegsBut s t [Reg.DBG_ERR]) ∧
      (s.portRefusal write a = none → write = true → ok = true → Ends c s fun t =>
        t = (s.emit (.evral 0b1010)).ctlWrite .debugger a v) ∧
      (s.portRefusal write a = none → write = false → Ends c s fun t =>
        t.out = (s.ctlRead .debugger a).1.out ++ [.evral 0b1010, .evral ((s.ctlRead .debugger a).2.toNat * 256 +
          (crc8 (s.ctlRead .debugger a).2).toNat)])

/-! ## The Gleaner and the Almanac (R578 to R605) -/

/-- An event is counted; its record is written with the next SEQ, or the newest one repeats, or it is lost in a full
store; class 6 brings device safe state and its cause. Samples are counted in the channels that name them. A snapshot is called for by the interval or by SNAP, waits for one that is
being written, and its number stands in ALM_HEAD when its write ends; the window reads a slot part by part (R580 to R604). -/
def Obligations.GleanerAndAlmanac : Prop :=
  ∀ (s : State) (m : Master),
    (∀ source cls det, source < 512 → cls ≤ 6 →
      let acts := s.actions source cls
      let rec_ : GleanRec :=
        { seq := (s.reg Reg.GLN_NEXTSEQ).toNat, source := source, cls := cls, cleared := false, pin := acts.2.1,
          lostBefore := s.gleaner.lostBefore, preReset := false, time := s.timeBase, epoch := s.reg64 Reg.TCK_EPOCH_LO,
          detail := det, rep := 0 }
      Ends (.gleanerEvent source cls det) s fun t =>
        (cls ≠ 6 ∨ s.safe = true ∨ s.eth.sessions = [] →
          (acts.1 = false → t.gleaner.recs = s.gleaner.recs) ∧
          (acts.1 = true → coalesces s.gleaner.recs source cls det = false → s.gleaner.recs.length < 1024 →
            t.gleaner.recs = s.gleaner.recs ++ [rec_] ∧ t.reg Reg.GLN_NEXTSEQ = s.reg Reg.GLN_NEXTSEQ + 1 ∧
            t.gleaner.lostBefore = false) ∧
          (∀ l r, acts.1 = true → s.gleaner.recs = l ++ [r] → r.cleared = false → r.source = source → r.cls = cls → r.detail = det →
            t.gleaner.recs = l ++ [{ r with rep := min 0xFFFFFFFF (r.rep + 1) }]) ∧
          (acts.1 = true → coalesces s.gleaner.recs source cls det = false → 1024 ≤ s.gleaner.recs.length →
            (∀ r ∈ s.gleaner.recs, r.cleared = false ∧ 3 ≤ r.cls) →
            t.gleaner.recs = s.gleaner.recs ∧ t.gleaner.lostBefore = true ∧ Counted s t Reg.GLN_CNT_LOST ∧ t.bit Reg.GLN_ERR 1 = true)) ∧
        (cls = 6 → t.safe = true ∧ (s.safe = false → t.reg Reg.GLN_SAFECAUSE = BitVec.ofNat 32 (2 ^ 31 + source))) ∧
        (cls ≠ 6 → OnlyLogged s t [])) ∧
    (∀ b, Ends (.gleanerSelfParity b) s fun t => t.bit Reg.GLN_STATUS 30 = true ∧ t.bit Reg.GLN_ERR 2 = true ∧ t.safe = true ∧
      t.faultLow = true ∧ (b = false → s.eth.sessions = [] → t.gleaner = s.gleaner)) ∧
    (s.readsReg m Reg.GLN_REC = true → ∀ r, s.gleaner.recs.find? (fun r => r.seq = (s.reg Reg.GLN_RECSEL).toNat) = some r →
      Ends (.glnRec0Read m) s fun t => t.ctl.rdata = BitVec.ofNat 32 r.seq ∧ OnlyCtl s t ∧ RegsBut s t []) ∧
    (s.reg64 Reg.TCK_TICKCNT_LO = 0 → Ends .almanacEarlyGather s fun t =>
      t.almanac.samples = [] ∧
      ((∀ x ∈ s.almanac.samples, ∀ k, k < 64 → exceeds (s.almCfg (Reg.ALM_XCFG + 4 * k)) (s.almCfg (Reg.ALM_XLIM + 4 * k)) x = false) →
        ∀ n, n < 64 → (sget (fun _ => Channel.empty) s.almanac.chans n).total ≤ 2 ^ 40 - 1 →
          (sget (fun _ => Channel.empty) t.almanac.chans n).total = min (2 ^ 40 - 1)
            ((sget (fun _ => Channel.empty) s.almanac.chans n).total +
              s.almanac.samples.countP (matchesSample (s.almCfg (Reg.ALM_HCFG + 4 * n)))))) ∧
    (s.almanac.writing = none →
      (∀ n, s.almanac.start + (s.almCfg Reg.ALM_INTERVAL).toNat * 1000000000 ≤ max s.time n → Ends (.almanacInterval n) s fun t =>
        t.almanac.start = max s.time n ∧ t.almanac.chans = [] ∧ t.almanac.writing.map (·.seq) = some (s.reg64 Reg.ALM_HEAD_LO + 1)) ∧
      (s.writesReg m Reg.ALM_CTRL = true → Ends (.almanacSnap m) s fun t =>
        t.almanac.start = s.time ∧ t.almanac.chans = [] ∧ t.almanac.writing.map (·.seq) = some (s.reg64 Reg.ALM_HEAD_LO + 1))) ∧
    (∀ n, max s.time n < s.almanac.start + (s.almCfg Reg.ALM_INTERVAL).toNat * 1000000000 → Ends (.almanacInterval n) s fun t =>
      t = s.advance n) ∧
    (∀ w, s.almanac.writing = some w → s.writesReg m Reg.ALM_CTRL = true → Ends (.almanacSnap m) s fun t =>
      t.almanac = { s.almanac with triggers := s.almanac.triggers ++ [.manual] } ∧ t.ctl = s.ctl) ∧
    (∀ w a b, s.almanac.writing = some w → w.seq < 2 ^ 64 → Ends (.snapshotWriteDone a b) s fun t =>
      t.reg64 Reg.ALM_HEAD_LO = w.seq ∧
      (b < 2 → t.almanac.circ.lookup ((w.seq - 1) % 4096) = some w.image) ∧
      (2 ≤ b → t.bit Reg.ALM_ERR 1 = true) ∧
      (w.seq ≤ 4096 → a < 2 → t.almanac.perm.lookup (w.seq - 1) = some w.image) ∧
      (s.almanac.triggers = [] → t.almanac.writing = none) ∧
      (s.almanac.triggers ≠ [] → t.almanac.writing.map (·.seq) = some (w.seq + 1))) ∧
    (s.readsReg m Reg.ALM_WINDOW = true → Ends (.almWindow0Read m) s fun t =>
      t.almanac.window = s.almPart ∧ t.ctl.rdata = BitVec.ofNat 32 (leAt s.almPart 0 4) ∧ RegsBut s t []) ∧
    (s.readsReg m (Reg.ALM_WINDOW + 252) = true → Ends (.almWindow63Read m) s fun t =>
      t.ctl.rdata = BitVec.ofNat 32 (leAt s.almanac.window 252 4) ∧ RegsBut s t [Reg.ALM_CURSOR] ∧
      t.fld Reg.ALM_CURSOR 2 0 = (s.fld Reg.ALM_CURSOR 2 0 + 1) % 8 ∧
      t.fld Reg.ALM_CURSOR 27 16 = (if s.fld Reg.ALM_CURSOR 2 0 = 7 then (s.fld Reg.ALM_CURSOR 27 16 + 1) % 4096
        else s.fld Reg.ALM_CURSOR 27 16))

/-- A record is cleared by GLEANER_CLEAR with INDEX equal to its SEQ or by a write of that SEQ to GLN_CLEAR: CLEARED is set
and the record stays. 0 clears every record that may be cleared; a record of class 6 may be cleared only while
GLN_STATUS.SAFE is 0, and an attempt in safe state only sets a bit of GLN_ERR (R586). -/
def Obligations.ClearingRecords : Prop :=
  ∀ (s : State),
    let may (r : GleanRec) : Prop := r.cls ≠ 6 ∨ s.bit Reg.GLN_STATUS 31 = false
    let every : List GleanRec := s.gleaner.recs.map fun r => if r.cls ≠ 6 || !s.bit Reg.GLN_STATUS 31 then { r with cleared := true } else r
    let one (n : Nat) : List GleanRec := s.gleaner.recs.map fun r => if r.seq = n then { r with cleared := true } else r
    (∀ m, s.writesReg m Reg.GLN_CLEAR = true →
      (Ends (.glnClear m 0) s fun t => t = { s with gleaner := { s.gleaner with recs := every } }) ∧
      ∀ (v : Word) (r : GleanRec), v ≠ 0 → s.gleaner.recs.find? (fun r => r.seq = v.toNat) = some r →
        (may r → Ends (.glnClear m v) s fun t => t = { s with gleaner := { s.gleaner with recs := one v.toNat } }) ∧
        (¬ may r → Ends (.glnClear m v) s fun t => t = s.setBit Reg.GLN_ERR 3 true)) ∧
    ∀ c, runs s c → c.opcode = 0x3C →
      (c.num 0x15 = 0 → Ends (.gleanerClear c.plot c.queue) s fun t =>
        t = State.replyOk { s with gleaner := { s.gleaner with recs := every } } c []) ∧
      ∀ r, c.num 0x15 ≠ 0 → s.gleaner.recs.find? (fun r => r.seq = c.num 0x15) = some r →
        Ends (.gleanerClear c.plot c.queue) s fun t =>
          t = State.replyOk { s with gleaner := { s.gleaner with recs := one (c.num 0x15) } } c []

/-! ## The boot (R544 to R557) -/

/-- An image is accepted only with its MAGIC, a security version not below the fused one and a signature of its key; copy
A is taken before copy B. The stages follow one another; one that fails stops the boot in device safe state with its
STAGE and ERR, and the last one writes the boot record and starts the firmware (R544 to R557). -/
def Obligations.BootStages : Prop :=
  ∀ (s : State) (i : StageInput),
    (∀ kind b, s.checkImage kind b = 0 → leAt b 0 4 = imgMagic kind ∧ s.minVer kind ≤ imgVersion b / 2 ^ 24 ∧
      s.imgSigned kind b = 0) ∧
    (s.held = true ∨ s.safe = true ∨ s.evral.stewHalt = true ∨ s.boot.stage = none → Ends (.bootStage i) s fun t => t = s) ∧
    (s.held = false → s.safe = false → s.evral.stewHalt = false →
      (s.boot.stage = some 1 →
        ((∀ c ∈ i.badCmp, c.1 ≠ 96) → Ends (.bootStage i) s fun t => t.boot.stage = some 2 ∧ t.fld Reg.SWD_BOOTSTAT 31 28 = 0) ∧
        ((∃ c ∈ i.badCmp, c.1 = 96) → Ends (.bootStage i) s fun t => t.boot.stage = none ∧ t.safe = true ∧
          t.fld Reg.SWD_BOOTSTAT 31 28 = 0 ∧ t.fld Reg.SWD_BOOTSTAT 27 24 = 0)) ∧
      (s.boot.stage = some 2 → Ends (.bootStage i) s fun t =>
        t.boot.stage = some 3 ∧ t.boot.seq = s.mram.headSeq + 1 ∧ (t.keySlot 0).isSome = true ∧
        (s.mram.ledgerAgrees = false → t.bit Reg.SWD_ERR 3 = true ∧ t.boot.ledgerBad = true)) ∧
      (s.boot.stage = some 3 →
        (∀ a, i.images.lookup 0 = some a → s.checkImage 0 a = 0 → Ends (.bootStage i) s fun t =>
          t.boot.stage = some 4 ∧ t.meas 1 = sha384 (s.meas 1 ++ imgDigest a) ∧ t.fld Reg.SWD_BOOTSTAT 31 28 = 1) ∧
        (∀ a b, i.images.lookup 0 = some a → i.images.lookup 1 = some b → s.checkImage 0 a ≠ 0 → s.checkImage 0 b = 0 →
          Ends (.bootStage i) s fun t => t.boot.stage = some 4 ∧ t.meas 1 = sha384 (s.meas 1 ++ imgDigest b) ∧ t.bit Reg.SWD_ERR 2 = true) ∧
        (∀ a, i.images.lookup 0 = some a → i.images.lookup 1 = none → s.checkImage 0 a ≠ 0 → Ends (.bootStage i) s fun t =>
          t.boot.stage = none ∧ t.safe = true ∧ t.fld Reg.SWD_BOOTSTAT 31 28 = 1 ∧ t.fld Reg.SWD_BOOTSTAT 27 24 = s.checkImage 0 a)) ∧
      (s.boot.stage = some 4 → Ends (.bootStage i) s fun t =>
        t.boot.stage = some 5 ∧ ∀ p, p < 96 →
          (i.badCmp.lookup p = none → s.mram.retired.lookup p = none → t.role p = if p % 8 = 7 then roleSpare else roleActive) ∧
          (i.badCmp.lookup p ≠ none → t.role p = roleRetired)) ∧
      (s.boot.stage = some 5 → ∀ a, i.images.lookup 2 = some a → i.images.lookup 3 = none → s.checkImage 1 a ≠ 0 →
        Ends (.bootStage i) s fun t => t.boot.stage = none ∧ t.safe = true ∧ t.fld Reg.SWD_BOOTSTAT 31 28 = 2 ∧
          t.fld Reg.SWD_BOOTSTAT 27 24 = s.checkImage 1 a) ∧
      (s.boot.stage = some 6 → s.fuses.lifecycle ≠ 0 → ∀ a, i.images.lookup 6 = some a → i.images.lookup 7 = none →
        s.checkImage 3 a ≠ 0 → Ends (.bootStage i) s fun t => t.boot.stage = none ∧ t.safe = true ∧
          t.fld Reg.SWD_BOOTSTAT 31 28 = 4 ∧ t.fld Reg.SWD_BOOTSTAT 27 24 = s.checkImage 3 a) ∧
      (s.boot.stage = some 7 → Ends (.bootStage i) s fun t =>
        t.boot.stage = some (if s.fuses.lifecycle = 1 ∨ s.fuses.lifecycle = 2 then 8 else 9)) ∧
      (s.boot.stage = some 8 →
        (s.storedResv = none → Ends (.bootStage i) s fun t => t.boot.stage = none ∧ t.safe = true ∧
          t.fld Reg.SWD_BOOTSTAT 31 28 = 7 ∧ t.fld Reg.SWD_BOOTSTAT 27 24 = bootBadFormat) ∧
        (s.storedResv ≠ none → s.bit Reg.JNL_STATUS 0 = true → s.pltReady = true → s.paired = true → s.own ≠ ownStarting →
          Ends (.bootStage i) s fun t => t.boot.stage = some 9)) ∧
      (s.boot.stage = some 9 →
        (i.mramOk = true → s.boot.seq ≠ 0 → Ends (.bootStage i) s fun t =>
          t.boot.running = true ∧ t.boot.stage = none ∧ t.mram.headSeq = s.boot.seq ∧ (t.mram.ledger.lookup s.boot.seq).isSome = true) ∧
        (i.mramOk = false → Ends (.bootStage i) s fun t => t.boot.running = s.boot.running ∧ t.safe = true ∧
          t.fld Reg.SWD_BOOTSTAT 31 28 = 8 ∧ t.fld Reg.SWD_BOOTSTAT 27 24 = bootLedger ∧ t.mram = s.mram)))

/-! ## Every command and every step -/

/-- After reset the device has power and is in no reset, no key is held, no unit runs, nothing waits, memory lists
nothing, every register holds its reset value and SWD_BOOTSTAT the cause POWER_ON, every sparse map is canonical, and the boot is at its first stage. -/
def Obligations.ResetState : Prop :=
  State.reset.held = false ∧ State.reset.safe = false ∧ State.reset.canonical = true ∧ State.reset.pending = [] ∧
  State.reset.mem.cells = [] ∧ (∀ a, State.reset.byte a = 0) ∧ (∀ off, off ≠ Reg.SWD_BOOTSTAT → State.reset.reg off = regReset off) ∧
  State.reset.reg Reg.SWD_BOOTSTAT = 0x100#32 ∧
  (∀ u, State.reset.unit u = CoreUnit.reset) ∧ State.reset.cipher.slots = [] ∧ State.reset.boot.stage = some 1 ∧
  State.reset.gleaner.recs = [] ∧ State.reset.out = [] ∧ State.reset.time = 0

/-- Every step, from every state, goes on; it takes the command at the front and leaves the queue's rest as it was. -/
def Obligations.EveryStepGoesOn : Prop :=
  ∀ s : State, ∃ t, step s = .next t ∧ t.pending = s.pending.tail

/-- Every step keeps every sparse map of the state, memory, registers, units, pairs, clusters, in its canonical form. -/
def Obligations.EveryStepKeepsCanonicalForm : Prop :=
  ∀ s t : State, s.canonical = true → step s = .next t → t.canonical = true

/-- No step takes the always-on clock back, takes back what left the device, changes the fused UID or MAC addresses, or
lowers LCCOUNT (R541, R562; the clock is the model's, log entry 24). -/
def Obligations.NoStepTakesBack : Prop :=
  ∀ s t : State, step s = .next t →
    s.time ≤ t.time ∧ (∃ l, t.out = s.out ++ l) ∧ t.fuses.uid = s.fuses.uid ∧ t.fuses.mac = s.fuses.mac ∧
    s.fuses.lcCount ≤ t.fuses.lcCount
end

