-- ==== Sys2Proof/Laws/Sparse.lean ====
section
/-! SUPPORT. The laws of sparse maps: a read after a write, the canonical form kept. -/

namespace Sys2Proof.Machine

variable {α : Type}

@[simp] theorem sget_nil (d : Nat → α) (k : Nat) : sget d [] k = d k := rfl

theorem sget_sput_same (d : Nat → α) (l : List (Nat × α)) (k : Nat) (v : α) : sget d (sput l k v) k = v := by
  induction l with
  | nil => simp [sput, sget]
  | cons e l ih =>
    obtain ⟨j, w⟩ := e
    by_cases h : k = j
    · simp [sput, sget, h]
    · by_cases h' : k < j <;> simp [sput, sget, h, h', ih]

theorem sget_sput_other (d : Nat → α) (l : List (Nat × α)) {k j : Nat} (v : α) (hne : j ≠ k) :
    sget d (sput l k v) j = sget d l j := by
  induction l with
  | nil => simp [sput, sget, hne]
  | cons e l ih =>
    obtain ⟨i, w⟩ := e
    by_cases h : k = i
    · subst h; simp [sput, sget, hne]
    · by_cases h' : k < i <;> simp [sput, sget, h, h', ih, hne]

theorem sget_sdel_same (d : Nat → α) (l : List (Nat × α)) (k : Nat) : sget d (sdel l k) k = d k := by
  induction l with
  | nil => rfl
  | cons e l ih =>
    obtain ⟨j, w⟩ := e
    by_cases h : k = j
    · simpa [sdel, h] using h ▸ ih
    · simp [sdel, sget, h, ih]

theorem sget_sdel_other (d : Nat → α) (l : List (Nat × α)) {k j : Nat} (hne : j ≠ k) :
    sget d (sdel l k) j = sget d l j := by
  induction l with
  | nil => rfl
  | cons e l ih =>
    obtain ⟨i, w⟩ := e
    by_cases h : k = i
    · subst h; simp [sdel, sget, hne, ih]
    · simp [sdel, sget, h, ih]

variable [DecidableEq α]

/-- The value written is the value read. -/
@[simp] theorem sget_sset_same (d : Nat → α) (l : List (Nat × α)) (k : Nat) (v : α) : sget d (sset d l k v) k = v := by
  unfold sset
  split
  · rename_i h; rw [sget_sdel_same, h]
  · exact sget_sput_same d l k v

/-- A write at a key leaves every other key alone. -/
theorem sget_sset_other (d : Nat → α) (l : List (Nat × α)) {k j : Nat} (v : α) (hne : j ≠ k) :
    sget d (sset d l k v) j = sget d l j := by
  unfold sset
  split
  · exact sget_sdel_other d l hne
  · exact sget_sput_other d l v hne

theorem sget_sset (d : Nat → α) (l : List (Nat × α)) (k j : Nat) (v : α) :
    sget d (sset d l k v) j = if j = k then v else sget d l j := by
  split
  · subst_vars; simp
  · rw [sget_sset_other _ _ _ ‹_›]

omit [DecidableEq α] in
theorem srising_mono {b c : Nat} {l : List (Nat × α)} (h : b ≤ c) (hl : srising c l = true) : srising b l = true := by
  cases l with
  | nil => rfl
  | cons e l =>
    obtain ⟨j, v⟩ := e
    simp only [srising, Bool.and_eq_true, decide_eq_true_eq] at hl ⊢
    exact ⟨by omega, hl.2⟩

omit [DecidableEq α] in
theorem srising_sdel {b : Nat} {l : List (Nat × α)} (k : Nat) (hl : srising b l = true) : srising b (sdel l k) = true := by
  induction l generalizing b with
  | nil => rfl
  | cons e l ih =>
    obtain ⟨j, v⟩ := e
    simp only [srising, Bool.and_eq_true, decide_eq_true_eq] at hl
    unfold sdel
    split
    · exact srising_mono (by omega) (ih hl.2)
    · simp only [srising, Bool.and_eq_true, decide_eq_true_eq]; exact ⟨hl.1, ih hl.2⟩

omit [DecidableEq α] in
theorem srising_sput {b : Nat} {l : List (Nat × α)} {k : Nat} (v : α) (hb : b ≤ k) (hl : srising b l = true) :
    srising b (sput l k v) = true := by
  induction l generalizing b with
  | nil => simp [sput, srising, hb]
  | cons e l ih =>
    obtain ⟨j, w⟩ := e
    simp only [srising, Bool.and_eq_true, decide_eq_true_eq] at hl
    unfold sput
    split
    · subst_vars; simp only [srising, Bool.and_eq_true, decide_eq_true_eq]; exact hl
    · split
      · simp only [srising, Bool.and_eq_true, decide_eq_true_eq]; exact ⟨hb, by omega, hl.2⟩
      · simp only [srising, Bool.and_eq_true, decide_eq_true_eq]; exact ⟨hl.1, ih (by omega) hl.2⟩

theorem slean_sdel {d : Nat → α} {l : List (Nat × α)} (k : Nat) (hl : slean d l = true) : slean d (sdel l k) = true := by
  induction l with
  | nil => rfl
  | cons e l ih =>
    obtain ⟨j, v⟩ := e
    simp only [slean, Bool.and_eq_true, decide_eq_true_eq] at hl
    unfold sdel
    split
    · exact ih hl.2
    · simp only [slean, Bool.and_eq_true, decide_eq_true_eq]; exact ⟨hl.1, ih hl.2⟩

theorem slean_sput {d : Nat → α} {l : List (Nat × α)} {k : Nat} {v : α} (hv : v ≠ d k) (hl : slean d l = true) :
    slean d (sput l k v) = true := by
  induction l with
  | nil => simp [sput, slean, hv]
  | cons e l ih =>
    obtain ⟨j, w⟩ := e
    simp only [slean, Bool.and_eq_true, decide_eq_true_eq] at hl
    unfold sput
    split
    · simp only [slean, Bool.and_eq_true, decide_eq_true_eq]; exact ⟨hv, hl.2⟩
    · split
      · simp only [slean, Bool.and_eq_true, decide_eq_true_eq]; exact ⟨hv, hl⟩
      · simp only [slean, Bool.and_eq_true, decide_eq_true_eq]; exact ⟨hl.1, ih hl.2⟩

/-- A write keeps the canonical form. -/
theorem swf_sset {d : Nat → α} {l : List (Nat × α)} (k : Nat) (v : α) (hl : swf d l = true) :
    swf d (sset d l k v) = true := by
  simp only [swf, Bool.and_eq_true] at hl ⊢
  unfold sset
  split
  · exact ⟨srising_sdel k hl.1, slean_sdel k hl.2⟩
  · exact ⟨srising_sput v (Nat.zero_le k) hl.1, slean_sput ‹_› hl.2⟩

end Sys2Proof.Machine
end

