-- ==== Sys2Proof/Laws/State.lean ====
section
/-! SUPPORT. The laws of the named updates of the state: what each does to each field, and what a read of a
register, a unit, a byte of memory gives after a write. -/

namespace Sys2Proof.Machine

open Sys2Proof

@[simp] theorem mapCtl_ctl (s : State) (f : Ctl → Ctl) : (s.mapCtl f).ctl = f s.ctl := rfl
@[simp] theorem mapCtl_gleaner (s : State) (f : Ctl → Ctl) : (s.mapCtl f).gleaner = s.gleaner := rfl
@[simp] theorem mapCtl_almanac (s : State) (f : Ctl → Ctl) : (s.mapCtl f).almanac = s.almanac := rfl
@[simp] theorem mapCtl_tick (s : State) (f : Ctl → Ctl) : (s.mapCtl f).tick = s.tick := rfl
@[simp] theorem mapCtl_stakes (s : State) (f : Ctl → Ctl) : (s.mapCtl f).stakes = s.stakes := rfl
@[simp] theorem mapCtl_journal (s : State) (f : Ctl → Ctl) : (s.mapCtl f).journal = s.journal := rfl
@[simp] theorem mapCtl_twin (s : State) (f : Ctl → Ctl) : (s.mapCtl f).twin = s.twin := rfl
@[simp] theorem mapCtl_eth (s : State) (f : Ctl → Ctl) : (s.mapCtl f).eth = s.eth := rfl
@[simp] theorem mapCtl_plots (s : State) (f : Ctl → Ctl) : (s.mapCtl f).plots = s.plots := rfl
@[simp] theorem mapCtl_sower (s : State) (f : Ctl → Ctl) : (s.mapCtl f).sower = s.sower := rfl
@[simp] theorem mapCtl_steward (s : State) (f : Ctl → Ctl) : (s.mapCtl f).steward = s.steward := rfl
@[simp] theorem mapCtl_units (s : State) (f : Ctl → Ctl) : (s.mapCtl f).units = s.units := rfl
@[simp] theorem mapCtl_pairs (s : State) (f : Ctl → Ctl) : (s.mapCtl f).pairs = s.pairs := rfl
@[simp] theorem mapCtl_clusters (s : State) (f : Ctl → Ctl) : (s.mapCtl f).clusters = s.clusters := rfl
@[simp] theorem mapCtl_mem (s : State) (f : Ctl → Ctl) : (s.mapCtl f).mem = s.mem := rfl
@[simp] theorem mapCtl_warp (s : State) (f : Ctl → Ctl) : (s.mapCtl f).warp = s.warp := rfl
@[simp] theorem mapCtl_thresher (s : State) (f : Ctl → Ctl) : (s.mapCtl f).thresher = s.thresher := rfl
@[simp] theorem mapCtl_cipher (s : State) (f : Ctl → Ctl) : (s.mapCtl f).cipher = s.cipher := rfl
@[simp] theorem mapCtl_furrow (s : State) (f : Ctl → Ctl) : (s.mapCtl f).furrow = s.furrow := rfl
@[simp] theorem mapCtl_weft (s : State) (f : Ctl → Ctl) : (s.mapCtl f).weft = s.weft := rfl
@[simp] theorem mapCtl_fuses (s : State) (f : Ctl → Ctl) : (s.mapCtl f).fuses = s.fuses := rfl
@[simp] theorem mapCtl_mram (s : State) (f : Ctl → Ctl) : (s.mapCtl f).mram = s.mram := rfl
@[simp] theorem mapCtl_evral (s : State) (f : Ctl → Ctl) : (s.mapCtl f).evral = s.evral := rfl
@[simp] theorem mapCtl_boot (s : State) (f : Ctl → Ctl) : (s.mapCtl f).boot = s.boot := rfl
@[simp] theorem mapCtl_power (s : State) (f : Ctl → Ctl) : (s.mapCtl f).power = s.power := rfl
@[simp] theorem mapCtl_out (s : State) (f : Ctl → Ctl) : (s.mapCtl f).out = s.out := rfl
@[simp] theorem mapCtl_time (s : State) (f : Ctl → Ctl) : (s.mapCtl f).time = s.time := rfl
@[simp] theorem mapCtl_fresh (s : State) (f : Ctl → Ctl) : (s.mapCtl f).fresh = s.fresh := rfl
@[simp] theorem mapCtl_pending (s : State) (f : Ctl → Ctl) : (s.mapCtl f).pending = s.pending := rfl

@[simp] theorem mapGleaner_ctl (s : State) (f : Gleaner → Gleaner) : (s.mapGleaner f).ctl = s.ctl := rfl
@[simp] theorem mapGleaner_gleaner (s : State) (f : Gleaner → Gleaner) : (s.mapGleaner f).gleaner = f s.gleaner := rfl
@[simp] theorem mapGleaner_almanac (s : State) (f : Gleaner → Gleaner) : (s.mapGleaner f).almanac = s.almanac := rfl
@[simp] theorem mapGleaner_tick (s : State) (f : Gleaner → Gleaner) : (s.mapGleaner f).tick = s.tick := rfl
@[simp] theorem mapGleaner_stakes (s : State) (f : Gleaner → Gleaner) : (s.mapGleaner f).stakes = s.stakes := rfl
@[simp] theorem mapGleaner_journal (s : State) (f : Gleaner → Gleaner) : (s.mapGleaner f).journal = s.journal := rfl
@[simp] theorem mapGleaner_twin (s : State) (f : Gleaner → Gleaner) : (s.mapGleaner f).twin = s.twin := rfl
@[simp] theorem mapGleaner_eth (s : State) (f : Gleaner → Gleaner) : (s.mapGleaner f).eth = s.eth := rfl
@[simp] theorem mapGleaner_plots (s : State) (f : Gleaner → Gleaner) : (s.mapGleaner f).plots = s.plots := rfl
@[simp] theorem mapGleaner_sower (s : State) (f : Gleaner → Gleaner) : (s.mapGleaner f).sower = s.sower := rfl
@[simp] theorem mapGleaner_steward (s : State) (f : Gleaner → Gleaner) : (s.mapGleaner f).steward = s.steward := rfl
@[simp] theorem mapGleaner_units (s : State) (f : Gleaner → Gleaner) : (s.mapGleaner f).units = s.units := rfl
@[simp] theorem mapGleaner_pairs (s : State) (f : Gleaner → Gleaner) : (s.mapGleaner f).pairs = s.pairs := rfl
@[simp] theorem mapGleaner_clusters (s : State) (f : Gleaner → Gleaner) : (s.mapGleaner f).clusters = s.clusters := rfl
@[simp] theorem mapGleaner_mem (s : State) (f : Gleaner → Gleaner) : (s.mapGleaner f).mem = s.mem := rfl
@[simp] theorem mapGleaner_warp (s : State) (f : Gleaner → Gleaner) : (s.mapGleaner f).warp = s.warp := rfl
@[simp] theorem mapGleaner_thresher (s : State) (f : Gleaner → Gleaner) : (s.mapGleaner f).thresher = s.thresher := rfl
@[simp] theorem mapGleaner_cipher (s : State) (f : Gleaner → Gleaner) : (s.mapGleaner f).cipher = s.cipher := rfl
@[simp] theorem mapGleaner_furrow (s : State) (f : Gleaner → Gleaner) : (s.mapGleaner f).furrow = s.furrow := rfl
@[simp] theorem mapGleaner_weft (s : State) (f : Gleaner → Gleaner) : (s.mapGleaner f).weft = s.weft := rfl
@[simp] theorem mapGleaner_fuses (s : State) (f : Gleaner → Gleaner) : (s.mapGleaner f).fuses = s.fuses := rfl
@[simp] theorem mapGleaner_mram (s : State) (f : Gleaner → Gleaner) : (s.mapGleaner f).mram = s.mram := rfl
@[simp] theorem mapGleaner_evral (s : State) (f : Gleaner → Gleaner) : (s.mapGleaner f).evral = s.evral := rfl
@[simp] theorem mapGleaner_boot (s : State) (f : Gleaner → Gleaner) : (s.mapGleaner f).boot = s.boot := rfl
@[simp] theorem mapGleaner_power (s : State) (f : Gleaner → Gleaner) : (s.mapGleaner f).power = s.power := rfl
@[simp] theorem mapGleaner_out (s : State) (f : Gleaner → Gleaner) : (s.mapGleaner f).out = s.out := rfl
@[simp] theorem mapGleaner_time (s : State) (f : Gleaner → Gleaner) : (s.mapGleaner f).time = s.time := rfl
@[simp] theorem mapGleaner_fresh (s : State) (f : Gleaner → Gleaner) : (s.mapGleaner f).fresh = s.fresh := rfl
@[simp] theorem mapGleaner_pending (s : State) (f : Gleaner → Gleaner) : (s.mapGleaner f).pending = s.pending := rfl

@[simp] theorem mapAlmanac_ctl (s : State) (f : Almanac → Almanac) : (s.mapAlmanac f).ctl = s.ctl := rfl
@[simp] theorem mapAlmanac_gleaner (s : State) (f : Almanac → Almanac) : (s.mapAlmanac f).gleaner = s.gleaner := rfl
@[simp] theorem mapAlmanac_almanac (s : State) (f : Almanac → Almanac) : (s.mapAlmanac f).almanac = f s.almanac := rfl
@[simp] theorem mapAlmanac_tick (s : State) (f : Almanac → Almanac) : (s.mapAlmanac f).tick = s.tick := rfl
@[simp] theorem mapAlmanac_stakes (s : State) (f : Almanac → Almanac) : (s.mapAlmanac f).stakes = s.stakes := rfl
@[simp] theorem mapAlmanac_journal (s : State) (f : Almanac → Almanac) : (s.mapAlmanac f).journal = s.journal := rfl
@[simp] theorem mapAlmanac_twin (s : State) (f : Almanac → Almanac) : (s.mapAlmanac f).twin = s.twin := rfl
@[simp] theorem mapAlmanac_eth (s : State) (f : Almanac → Almanac) : (s.mapAlmanac f).eth = s.eth := rfl
@[simp] theorem mapAlmanac_plots (s : State) (f : Almanac → Almanac) : (s.mapAlmanac f).plots = s.plots := rfl
@[simp] theorem mapAlmanac_sower (s : State) (f : Almanac → Almanac) : (s.mapAlmanac f).sower = s.sower := rfl
@[simp] theorem mapAlmanac_steward (s : State) (f : Almanac → Almanac) : (s.mapAlmanac f).steward = s.steward := rfl
@[simp] theorem mapAlmanac_units (s : State) (f : Almanac → Almanac) : (s.mapAlmanac f).units = s.units := rfl
@[simp] theorem mapAlmanac_pairs (s : State) (f : Almanac → Almanac) : (s.mapAlmanac f).pairs = s.pairs := rfl
@[simp] theorem mapAlmanac_clusters (s : State) (f : Almanac → Almanac) : (s.mapAlmanac f).clusters = s.clusters := rfl
@[simp] theorem mapAlmanac_mem (s : State) (f : Almanac → Almanac) : (s.mapAlmanac f).mem = s.mem := rfl
@[simp] theorem mapAlmanac_warp (s : State) (f : Almanac → Almanac) : (s.mapAlmanac f).warp = s.warp := rfl
@[simp] theorem mapAlmanac_thresher (s : State) (f : Almanac → Almanac) : (s.mapAlmanac f).thresher = s.thresher := rfl
@[simp] theorem mapAlmanac_cipher (s : State) (f : Almanac → Almanac) : (s.mapAlmanac f).cipher = s.cipher := rfl
@[simp] theorem mapAlmanac_furrow (s : State) (f : Almanac → Almanac) : (s.mapAlmanac f).furrow = s.furrow := rfl
@[simp] theorem mapAlmanac_weft (s : State) (f : Almanac → Almanac) : (s.mapAlmanac f).weft = s.weft := rfl
@[simp] theorem mapAlmanac_fuses (s : State) (f : Almanac → Almanac) : (s.mapAlmanac f).fuses = s.fuses := rfl
@[simp] theorem mapAlmanac_mram (s : State) (f : Almanac → Almanac) : (s.mapAlmanac f).mram = s.mram := rfl
@[simp] theorem mapAlmanac_evral (s : State) (f : Almanac → Almanac) : (s.mapAlmanac f).evral = s.evral := rfl
@[simp] theorem mapAlmanac_boot (s : State) (f : Almanac → Almanac) : (s.mapAlmanac f).boot = s.boot := rfl
@[simp] theorem mapAlmanac_power (s : State) (f : Almanac → Almanac) : (s.mapAlmanac f).power = s.power := rfl
@[simp] theorem mapAlmanac_out (s : State) (f : Almanac → Almanac) : (s.mapAlmanac f).out = s.out := rfl
@[simp] theorem mapAlmanac_time (s : State) (f : Almanac → Almanac) : (s.mapAlmanac f).time = s.time := rfl
@[simp] theorem mapAlmanac_fresh (s : State) (f : Almanac → Almanac) : (s.mapAlmanac f).fresh = s.fresh := rfl
@[simp] theorem mapAlmanac_pending (s : State) (f : Almanac → Almanac) : (s.mapAlmanac f).pending = s.pending := rfl

@[simp] theorem mapTick_ctl (s : State) (f : Tick → Tick) : (s.mapTick f).ctl = s.ctl := rfl
@[simp] theorem mapTick_gleaner (s : State) (f : Tick → Tick) : (s.mapTick f).gleaner = s.gleaner := rfl
@[simp] theorem mapTick_almanac (s : State) (f : Tick → Tick) : (s.mapTick f).almanac = s.almanac := rfl
@[simp] theorem mapTick_tick (s : State) (f : Tick → Tick) : (s.mapTick f).tick = f s.tick := rfl
@[simp] theorem mapTick_stakes (s : State) (f : Tick → Tick) : (s.mapTick f).stakes = s.stakes := rfl
@[simp] theorem mapTick_journal (s : State) (f : Tick → Tick) : (s.mapTick f).journal = s.journal := rfl
@[simp] theorem mapTick_twin (s : State) (f : Tick → Tick) : (s.mapTick f).twin = s.twin := rfl
@[simp] theorem mapTick_eth (s : State) (f : Tick → Tick) : (s.mapTick f).eth = s.eth := rfl
@[simp] theorem mapTick_plots (s : State) (f : Tick → Tick) : (s.mapTick f).plots = s.plots := rfl
@[simp] theorem mapTick_sower (s : State) (f : Tick → Tick) : (s.mapTick f).sower = s.sower := rfl
@[simp] theorem mapTick_steward (s : State) (f : Tick → Tick) : (s.mapTick f).steward = s.steward := rfl
@[simp] theorem mapTick_units (s : State) (f : Tick → Tick) : (s.mapTick f).units = s.units := rfl
@[simp] theorem mapTick_pairs (s : State) (f : Tick → Tick) : (s.mapTick f).pairs = s.pairs := rfl
@[simp] theorem mapTick_clusters (s : State) (f : Tick → Tick) : (s.mapTick f).clusters = s.clusters := rfl
@[simp] theorem mapTick_mem (s : State) (f : Tick → Tick) : (s.mapTick f).mem = s.mem := rfl
@[simp] theorem mapTick_warp (s : State) (f : Tick → Tick) : (s.mapTick f).warp = s.warp := rfl
@[simp] theorem mapTick_thresher (s : State) (f : Tick → Tick) : (s.mapTick f).thresher = s.thresher := rfl
@[simp] theorem mapTick_cipher (s : State) (f : Tick → Tick) : (s.mapTick f).cipher = s.cipher := rfl
@[simp] theorem mapTick_furrow (s : State) (f : Tick → Tick) : (s.mapTick f).furrow = s.furrow := rfl
@[simp] theorem mapTick_weft (s : State) (f : Tick → Tick) : (s.mapTick f).weft = s.weft := rfl
@[simp] theorem mapTick_fuses (s : State) (f : Tick → Tick) : (s.mapTick f).fuses = s.fuses := rfl
@[simp] theorem mapTick_mram (s : State) (f : Tick → Tick) : (s.mapTick f).mram = s.mram := rfl
@[simp] theorem mapTick_evral (s : State) (f : Tick → Tick) : (s.mapTick f).evral = s.evral := rfl
@[simp] theorem mapTick_boot (s : State) (f : Tick → Tick) : (s.mapTick f).boot = s.boot := rfl
@[simp] theorem mapTick_power (s : State) (f : Tick → Tick) : (s.mapTick f).power = s.power := rfl
@[simp] theorem mapTick_out (s : State) (f : Tick → Tick) : (s.mapTick f).out = s.out := rfl
@[simp] theorem mapTick_time (s : State) (f : Tick → Tick) : (s.mapTick f).time = s.time := rfl
@[simp] theorem mapTick_fresh (s : State) (f : Tick → Tick) : (s.mapTick f).fresh = s.fresh := rfl
@[simp] theorem mapTick_pending (s : State) (f : Tick → Tick) : (s.mapTick f).pending = s.pending := rfl

@[simp] theorem mapStakes_ctl (s : State) (f : Stakes → Stakes) : (s.mapStakes f).ctl = s.ctl := rfl
@[simp] theorem mapStakes_gleaner (s : State) (f : Stakes → Stakes) : (s.mapStakes f).gleaner = s.gleaner := rfl
@[simp] theorem mapStakes_almanac (s : State) (f : Stakes → Stakes) : (s.mapStakes f).almanac = s.almanac := rfl
@[simp] theorem mapStakes_tick (s : State) (f : Stakes → Stakes) : (s.mapStakes f).tick = s.tick := rfl
@[simp] theorem mapStakes_stakes (s : State) (f : Stakes → Stakes) : (s.mapStakes f).stakes = f s.stakes := rfl
@[simp] theorem mapStakes_journal (s : State) (f : Stakes → Stakes) : (s.mapStakes f).journal = s.journal := rfl
@[simp] theorem mapStakes_twin (s : State) (f : Stakes → Stakes) : (s.mapStakes f).twin = s.twin := rfl
@[simp] theorem mapStakes_eth (s : State) (f : Stakes → Stakes) : (s.mapStakes f).eth = s.eth := rfl
@[simp] theorem mapStakes_plots (s : State) (f : Stakes → Stakes) : (s.mapStakes f).plots = s.plots := rfl
@[simp] theorem mapStakes_sower (s : State) (f : Stakes → Stakes) : (s.mapStakes f).sower = s.sower := rfl
@[simp] theorem mapStakes_steward (s : State) (f : Stakes → Stakes) : (s.mapStakes f).steward = s.steward := rfl
@[simp] theorem mapStakes_units (s : State) (f : Stakes → Stakes) : (s.mapStakes f).units = s.units := rfl
@[simp] theorem mapStakes_pairs (s : State) (f : Stakes → Stakes) : (s.mapStakes f).pairs = s.pairs := rfl
@[simp] theorem mapStakes_clusters (s : State) (f : Stakes → Stakes) : (s.mapStakes f).clusters = s.clusters := rfl
@[simp] theorem mapStakes_mem (s : State) (f : Stakes → Stakes) : (s.mapStakes f).mem = s.mem := rfl
@[simp] theorem mapStakes_warp (s : State) (f : Stakes → Stakes) : (s.mapStakes f).warp = s.warp := rfl
@[simp] theorem mapStakes_thresher (s : State) (f : Stakes → Stakes) : (s.mapStakes f).thresher = s.thresher := rfl
@[simp] theorem mapStakes_cipher (s : State) (f : Stakes → Stakes) : (s.mapStakes f).cipher = s.cipher := rfl
@[simp] theorem mapStakes_furrow (s : State) (f : Stakes → Stakes) : (s.mapStakes f).furrow = s.furrow := rfl
@[simp] theorem mapStakes_weft (s : State) (f : Stakes → Stakes) : (s.mapStakes f).weft = s.weft := rfl
@[simp] theorem mapStakes_fuses (s : State) (f : Stakes → Stakes) : (s.mapStakes f).fuses = s.fuses := rfl
@[simp] theorem mapStakes_mram (s : State) (f : Stakes → Stakes) : (s.mapStakes f).mram = s.mram := rfl
@[simp] theorem mapStakes_evral (s : State) (f : Stakes → Stakes) : (s.mapStakes f).evral = s.evral := rfl
@[simp] theorem mapStakes_boot (s : State) (f : Stakes → Stakes) : (s.mapStakes f).boot = s.boot := rfl
@[simp] theorem mapStakes_power (s : State) (f : Stakes → Stakes) : (s.mapStakes f).power = s.power := rfl
@[simp] theorem mapStakes_out (s : State) (f : Stakes → Stakes) : (s.mapStakes f).out = s.out := rfl
@[simp] theorem mapStakes_time (s : State) (f : Stakes → Stakes) : (s.mapStakes f).time = s.time := rfl
@[simp] theorem mapStakes_fresh (s : State) (f : Stakes → Stakes) : (s.mapStakes f).fresh = s.fresh := rfl
@[simp] theorem mapStakes_pending (s : State) (f : Stakes → Stakes) : (s.mapStakes f).pending = s.pending := rfl

@[simp] theorem mapJournal_ctl (s : State) (f : Journal → Journal) : (s.mapJournal f).ctl = s.ctl := rfl
@[simp] theorem mapJournal_gleaner (s : State) (f : Journal → Journal) : (s.mapJournal f).gleaner = s.gleaner := rfl
@[simp] theorem mapJournal_almanac (s : State) (f : Journal → Journal) : (s.mapJournal f).almanac = s.almanac := rfl
@[simp] theorem mapJournal_tick (s : State) (f : Journal → Journal) : (s.mapJournal f).tick = s.tick := rfl
@[simp] theorem mapJournal_stakes (s : State) (f : Journal → Journal) : (s.mapJournal f).stakes = s.stakes := rfl
@[simp] theorem mapJournal_journal (s : State) (f : Journal → Journal) : (s.mapJournal f).journal = f s.journal := rfl
@[simp] theorem mapJournal_twin (s : State) (f : Journal → Journal) : (s.mapJournal f).twin = s.twin := rfl
@[simp] theorem mapJournal_eth (s : State) (f : Journal → Journal) : (s.mapJournal f).eth = s.eth := rfl
@[simp] theorem mapJournal_plots (s : State) (f : Journal → Journal) : (s.mapJournal f).plots = s.plots := rfl
@[simp] theorem mapJournal_sower (s : State) (f : Journal → Journal) : (s.mapJournal f).sower = s.sower := rfl
@[simp] theorem mapJournal_steward (s : State) (f : Journal → Journal) : (s.mapJournal f).steward = s.steward := rfl
@[simp] theorem mapJournal_units (s : State) (f : Journal → Journal) : (s.mapJournal f).units = s.units := rfl
@[simp] theorem mapJournal_pairs (s : State) (f : Journal → Journal) : (s.mapJournal f).pairs = s.pairs := rfl
@[simp] theorem mapJournal_clusters (s : State) (f : Journal → Journal) : (s.mapJournal f).clusters = s.clusters := rfl
@[simp] theorem mapJournal_mem (s : State) (f : Journal → Journal) : (s.mapJournal f).mem = s.mem := rfl
@[simp] theorem mapJournal_warp (s : State) (f : Journal → Journal) : (s.mapJournal f).warp = s.warp := rfl
@[simp] theorem mapJournal_thresher (s : State) (f : Journal → Journal) : (s.mapJournal f).thresher = s.thresher := rfl
@[simp] theorem mapJournal_cipher (s : State) (f : Journal → Journal) : (s.mapJournal f).cipher = s.cipher := rfl
@[simp] theorem mapJournal_furrow (s : State) (f : Journal → Journal) : (s.mapJournal f).furrow = s.furrow := rfl
@[simp] theorem mapJournal_weft (s : State) (f : Journal → Journal) : (s.mapJournal f).weft = s.weft := rfl
@[simp] theorem mapJournal_fuses (s : State) (f : Journal → Journal) : (s.mapJournal f).fuses = s.fuses := rfl
@[simp] theorem mapJournal_mram (s : State) (f : Journal → Journal) : (s.mapJournal f).mram = s.mram := rfl
@[simp] theorem mapJournal_evral (s : State) (f : Journal → Journal) : (s.mapJournal f).evral = s.evral := rfl
@[simp] theorem mapJournal_boot (s : State) (f : Journal → Journal) : (s.mapJournal f).boot = s.boot := rfl
@[simp] theorem mapJournal_power (s : State) (f : Journal → Journal) : (s.mapJournal f).power = s.power := rfl
@[simp] theorem mapJournal_out (s : State) (f : Journal → Journal) : (s.mapJournal f).out = s.out := rfl
@[simp] theorem mapJournal_time (s : State) (f : Journal → Journal) : (s.mapJournal f).time = s.time := rfl
@[simp] theorem mapJournal_fresh (s : State) (f : Journal → Journal) : (s.mapJournal f).fresh = s.fresh := rfl
@[simp] theorem mapJournal_pending (s : State) (f : Journal → Journal) : (s.mapJournal f).pending = s.pending := rfl

@[simp] theorem mapTwin_ctl (s : State) (f : Twin → Twin) : (s.mapTwin f).ctl = s.ctl := rfl
@[simp] theorem mapTwin_gleaner (s : State) (f : Twin → Twin) : (s.mapTwin f).gleaner = s.gleaner := rfl
@[simp] theorem mapTwin_almanac (s : State) (f : Twin → Twin) : (s.mapTwin f).almanac = s.almanac := rfl
@[simp] theorem mapTwin_tick (s : State) (f : Twin → Twin) : (s.mapTwin f).tick = s.tick := rfl
@[simp] theorem mapTwin_stakes (s : State) (f : Twin → Twin) : (s.mapTwin f).stakes = s.stakes := rfl
@[simp] theorem mapTwin_journal (s : State) (f : Twin → Twin) : (s.mapTwin f).journal = s.journal := rfl
@[simp] theorem mapTwin_twin (s : State) (f : Twin → Twin) : (s.mapTwin f).twin = f s.twin := rfl
@[simp] theorem mapTwin_eth (s : State) (f : Twin → Twin) : (s.mapTwin f).eth = s.eth := rfl
@[simp] theorem mapTwin_plots (s : State) (f : Twin → Twin) : (s.mapTwin f).plots = s.plots := rfl
@[simp] theorem mapTwin_sower (s : State) (f : Twin → Twin) : (s.mapTwin f).sower = s.sower := rfl
@[simp] theorem mapTwin_steward (s : State) (f : Twin → Twin) : (s.mapTwin f).steward = s.steward := rfl
@[simp] theorem mapTwin_units (s : State) (f : Twin → Twin) : (s.mapTwin f).units = s.units := rfl
@[simp] theorem mapTwin_pairs (s : State) (f : Twin → Twin) : (s.mapTwin f).pairs = s.pairs := rfl
@[simp] theorem mapTwin_clusters (s : State) (f : Twin → Twin) : (s.mapTwin f).clusters = s.clusters := rfl
@[simp] theorem mapTwin_mem (s : State) (f : Twin → Twin) : (s.mapTwin f).mem = s.mem := rfl
@[simp] theorem mapTwin_warp (s : State) (f : Twin → Twin) : (s.mapTwin f).warp = s.warp := rfl
@[simp] theorem mapTwin_thresher (s : State) (f : Twin → Twin) : (s.mapTwin f).thresher = s.thresher := rfl
@[simp] theorem mapTwin_cipher (s : State) (f : Twin → Twin) : (s.mapTwin f).cipher = s.cipher := rfl
@[simp] theorem mapTwin_furrow (s : State) (f : Twin → Twin) : (s.mapTwin f).furrow = s.furrow := rfl
@[simp] theorem mapTwin_weft (s : State) (f : Twin → Twin) : (s.mapTwin f).weft = s.weft := rfl
@[simp] theorem mapTwin_fuses (s : State) (f : Twin → Twin) : (s.mapTwin f).fuses = s.fuses := rfl
@[simp] theorem mapTwin_mram (s : State) (f : Twin → Twin) : (s.mapTwin f).mram = s.mram := rfl
@[simp] theorem mapTwin_evral (s : State) (f : Twin → Twin) : (s.mapTwin f).evral = s.evral := rfl
@[simp] theorem mapTwin_boot (s : State) (f : Twin → Twin) : (s.mapTwin f).boot = s.boot := rfl
@[simp] theorem mapTwin_power (s : State) (f : Twin → Twin) : (s.mapTwin f).power = s.power := rfl
@[simp] theorem mapTwin_out (s : State) (f : Twin → Twin) : (s.mapTwin f).out = s.out := rfl
@[simp] theorem mapTwin_time (s : State) (f : Twin → Twin) : (s.mapTwin f).time = s.time := rfl
@[simp] theorem mapTwin_fresh (s : State) (f : Twin → Twin) : (s.mapTwin f).fresh = s.fresh := rfl
@[simp] theorem mapTwin_pending (s : State) (f : Twin → Twin) : (s.mapTwin f).pending = s.pending := rfl

@[simp] theorem mapEth_ctl (s : State) (f : Eth → Eth) : (s.mapEth f).ctl = s.ctl := rfl
@[simp] theorem mapEth_gleaner (s : State) (f : Eth → Eth) : (s.mapEth f).gleaner = s.gleaner := rfl
@[simp] theorem mapEth_almanac (s : State) (f : Eth → Eth) : (s.mapEth f).almanac = s.almanac := rfl
@[simp] theorem mapEth_tick (s : State) (f : Eth → Eth) : (s.mapEth f).tick = s.tick := rfl
@[simp] theorem mapEth_stakes (s : State) (f : Eth → Eth) : (s.mapEth f).stakes = s.stakes := rfl
@[simp] theorem mapEth_journal (s : State) (f : Eth → Eth) : (s.mapEth f).journal = s.journal := rfl
@[simp] theorem mapEth_twin (s : State) (f : Eth → Eth) : (s.mapEth f).twin = s.twin := rfl
@[simp] theorem mapEth_eth (s : State) (f : Eth → Eth) : (s.mapEth f).eth = f s.eth := rfl
@[simp] theorem mapEth_plots (s : State) (f : Eth → Eth) : (s.mapEth f).plots = s.plots := rfl
@[simp] theorem mapEth_sower (s : State) (f : Eth → Eth) : (s.mapEth f).sower = s.sower := rfl
@[simp] theorem mapEth_steward (s : State) (f : Eth → Eth) : (s.mapEth f).steward = s.steward := rfl
@[simp] theorem mapEth_units (s : State) (f : Eth → Eth) : (s.mapEth f).units = s.units := rfl
@[simp] theorem mapEth_pairs (s : State) (f : Eth → Eth) : (s.mapEth f).pairs = s.pairs := rfl
@[simp] theorem mapEth_clusters (s : State) (f : Eth → Eth) : (s.mapEth f).clusters = s.clusters := rfl
@[simp] theorem mapEth_mem (s : State) (f : Eth → Eth) : (s.mapEth f).mem = s.mem := rfl
@[simp] theorem mapEth_warp (s : State) (f : Eth → Eth) : (s.mapEth f).warp = s.warp := rfl
@[simp] theorem mapEth_thresher (s : State) (f : Eth → Eth) : (s.mapEth f).thresher = s.thresher := rfl
@[simp] theorem mapEth_cipher (s : State) (f : Eth → Eth) : (s.mapEth f).cipher = s.cipher := rfl
@[simp] theorem mapEth_furrow (s : State) (f : Eth → Eth) : (s.mapEth f).furrow = s.furrow := rfl
@[simp] theorem mapEth_weft (s : State) (f : Eth → Eth) : (s.mapEth f).weft = s.weft := rfl
@[simp] theorem mapEth_fuses (s : State) (f : Eth → Eth) : (s.mapEth f).fuses = s.fuses := rfl
@[simp] theorem mapEth_mram (s : State) (f : Eth → Eth) : (s.mapEth f).mram = s.mram := rfl
@[simp] theorem mapEth_evral (s : State) (f : Eth → Eth) : (s.mapEth f).evral = s.evral := rfl
@[simp] theorem mapEth_boot (s : State) (f : Eth → Eth) : (s.mapEth f).boot = s.boot := rfl
@[simp] theorem mapEth_power (s : State) (f : Eth → Eth) : (s.mapEth f).power = s.power := rfl
@[simp] theorem mapEth_out (s : State) (f : Eth → Eth) : (s.mapEth f).out = s.out := rfl
@[simp] theorem mapEth_time (s : State) (f : Eth → Eth) : (s.mapEth f).time = s.time := rfl
@[simp] theorem mapEth_fresh (s : State) (f : Eth → Eth) : (s.mapEth f).fresh = s.fresh := rfl
@[simp] theorem mapEth_pending (s : State) (f : Eth → Eth) : (s.mapEth f).pending = s.pending := rfl

@[simp] theorem mapPlots_ctl (s : State) (f : Plots → Plots) : (s.mapPlots f).ctl = s.ctl := rfl
@[simp] theorem mapPlots_gleaner (s : State) (f : Plots → Plots) : (s.mapPlots f).gleaner = s.gleaner := rfl
@[simp] theorem mapPlots_almanac (s : State) (f : Plots → Plots) : (s.mapPlots f).almanac = s.almanac := rfl
@[simp] theorem mapPlots_tick (s : State) (f : Plots → Plots) : (s.mapPlots f).tick = s.tick := rfl
@[simp] theorem mapPlots_stakes (s : State) (f : Plots → Plots) : (s.mapPlots f).stakes = s.stakes := rfl
@[simp] theorem mapPlots_journal (s : State) (f : Plots → Plots) : (s.mapPlots f).journal = s.journal := rfl
@[simp] theorem mapPlots_twin (s : State) (f : Plots → Plots) : (s.mapPlots f).twin = s.twin := rfl
@[simp] theorem mapPlots_eth (s : State) (f : Plots → Plots) : (s.mapPlots f).eth = s.eth := rfl
@[simp] theorem mapPlots_plots (s : State) (f : Plots → Plots) : (s.mapPlots f).plots = f s.plots := rfl
@[simp] theorem mapPlots_sower (s : State) (f : Plots → Plots) : (s.mapPlots f).sower = s.sower := rfl
@[simp] theorem mapPlots_steward (s : State) (f : Plots → Plots) : (s.mapPlots f).steward = s.steward := rfl
@[simp] theorem mapPlots_units (s : State) (f : Plots → Plots) : (s.mapPlots f).units = s.units := rfl
@[simp] theorem mapPlots_pairs (s : State) (f : Plots → Plots) : (s.mapPlots f).pairs = s.pairs := rfl
@[simp] theorem mapPlots_clusters (s : State) (f : Plots → Plots) : (s.mapPlots f).clusters = s.clusters := rfl
@[simp] theorem mapPlots_mem (s : State) (f : Plots → Plots) : (s.mapPlots f).mem = s.mem := rfl
@[simp] theorem mapPlots_warp (s : State) (f : Plots → Plots) : (s.mapPlots f).warp = s.warp := rfl
@[simp] theorem mapPlots_thresher (s : State) (f : Plots → Plots) : (s.mapPlots f).thresher = s.thresher := rfl
@[simp] theorem mapPlots_cipher (s : State) (f : Plots → Plots) : (s.mapPlots f).cipher = s.cipher := rfl
@[simp] theorem mapPlots_furrow (s : State) (f : Plots → Plots) : (s.mapPlots f).furrow = s.furrow := rfl
@[simp] theorem mapPlots_weft (s : State) (f : Plots → Plots) : (s.mapPlots f).weft = s.weft := rfl
@[simp] theorem mapPlots_fuses (s : State) (f : Plots → Plots) : (s.mapPlots f).fuses = s.fuses := rfl
@[simp] theorem mapPlots_mram (s : State) (f : Plots → Plots) : (s.mapPlots f).mram = s.mram := rfl
@[simp] theorem mapPlots_evral (s : State) (f : Plots → Plots) : (s.mapPlots f).evral = s.evral := rfl
@[simp] theorem mapPlots_boot (s : State) (f : Plots → Plots) : (s.mapPlots f).boot = s.boot := rfl
@[simp] theorem mapPlots_power (s : State) (f : Plots → Plots) : (s.mapPlots f).power = s.power := rfl
@[simp] theorem mapPlots_out (s : State) (f : Plots → Plots) : (s.mapPlots f).out = s.out := rfl
@[simp] theorem mapPlots_time (s : State) (f : Plots → Plots) : (s.mapPlots f).time = s.time := rfl
@[simp] theorem mapPlots_fresh (s : State) (f : Plots → Plots) : (s.mapPlots f).fresh = s.fresh := rfl
@[simp] theorem mapPlots_pending (s : State) (f : Plots → Plots) : (s.mapPlots f).pending = s.pending := rfl

@[simp] theorem mapSower_ctl (s : State) (f : Sower → Sower) : (s.mapSower f).ctl = s.ctl := rfl
@[simp] theorem mapSower_gleaner (s : State) (f : Sower → Sower) : (s.mapSower f).gleaner = s.gleaner := rfl
@[simp] theorem mapSower_almanac (s : State) (f : Sower → Sower) : (s.mapSower f).almanac = s.almanac := rfl
@[simp] theorem mapSower_tick (s : State) (f : Sower → Sower) : (s.mapSower f).tick = s.tick := rfl
@[simp] theorem mapSower_stakes (s : State) (f : Sower → Sower) : (s.mapSower f).stakes = s.stakes := rfl
@[simp] theorem mapSower_journal (s : State) (f : Sower → Sower) : (s.mapSower f).journal = s.journal := rfl
@[simp] theorem mapSower_twin (s : State) (f : Sower → Sower) : (s.mapSower f).twin = s.twin := rfl
@[simp] theorem mapSower_eth (s : State) (f : Sower → Sower) : (s.mapSower f).eth = s.eth := rfl
@[simp] theorem mapSower_plots (s : State) (f : Sower → Sower) : (s.mapSower f).plots = s.plots := rfl
@[simp] theorem mapSower_sower (s : State) (f : Sower → Sower) : (s.mapSower f).sower = f s.sower := rfl
@[simp] theorem mapSower_steward (s : State) (f : Sower → Sower) : (s.mapSower f).steward = s.steward := rfl
@[simp] theorem mapSower_units (s : State) (f : Sower → Sower) : (s.mapSower f).units = s.units := rfl
@[simp] theorem mapSower_pairs (s : State) (f : Sower → Sower) : (s.mapSower f).pairs = s.pairs := rfl
@[simp] theorem mapSower_clusters (s : State) (f : Sower → Sower) : (s.mapSower f).clusters = s.clusters := rfl
@[simp] theorem mapSower_mem (s : State) (f : Sower → Sower) : (s.mapSower f).mem = s.mem := rfl
@[simp] theorem mapSower_warp (s : State) (f : Sower → Sower) : (s.mapSower f).warp = s.warp := rfl
@[simp] theorem mapSower_thresher (s : State) (f : Sower → Sower) : (s.mapSower f).thresher = s.thresher := rfl
@[simp] theorem mapSower_cipher (s : State) (f : Sower → Sower) : (s.mapSower f).cipher = s.cipher := rfl
@[simp] theorem mapSower_furrow (s : State) (f : Sower → Sower) : (s.mapSower f).furrow = s.furrow := rfl
@[simp] theorem mapSower_weft (s : State) (f : Sower → Sower) : (s.mapSower f).weft = s.weft := rfl
@[simp] theorem mapSower_fuses (s : State) (f : Sower → Sower) : (s.mapSower f).fuses = s.fuses := rfl
@[simp] theorem mapSower_mram (s : State) (f : Sower → Sower) : (s.mapSower f).mram = s.mram := rfl
@[simp] theorem mapSower_evral (s : State) (f : Sower → Sower) : (s.mapSower f).evral = s.evral := rfl
@[simp] theorem mapSower_boot (s : State) (f : Sower → Sower) : (s.mapSower f).boot = s.boot := rfl
@[simp] theorem mapSower_power (s : State) (f : Sower → Sower) : (s.mapSower f).power = s.power := rfl
@[simp] theorem mapSower_out (s : State) (f : Sower → Sower) : (s.mapSower f).out = s.out := rfl
@[simp] theorem mapSower_time (s : State) (f : Sower → Sower) : (s.mapSower f).time = s.time := rfl
@[simp] theorem mapSower_fresh (s : State) (f : Sower → Sower) : (s.mapSower f).fresh = s.fresh := rfl
@[simp] theorem mapSower_pending (s : State) (f : Sower → Sower) : (s.mapSower f).pending = s.pending := rfl

@[simp] theorem mapSteward_ctl (s : State) (f : Steward → Steward) : (s.mapSteward f).ctl = s.ctl := rfl
@[simp] theorem mapSteward_gleaner (s : State) (f : Steward → Steward) : (s.mapSteward f).gleaner = s.gleaner := rfl
@[simp] theorem mapSteward_almanac (s : State) (f : Steward → Steward) : (s.mapSteward f).almanac = s.almanac := rfl
@[simp] theorem mapSteward_tick (s : State) (f : Steward → Steward) : (s.mapSteward f).tick = s.tick := rfl
@[simp] theorem mapSteward_stakes (s : State) (f : Steward → Steward) : (s.mapSteward f).stakes = s.stakes := rfl
@[simp] theorem mapSteward_journal (s : State) (f : Steward → Steward) : (s.mapSteward f).journal = s.journal := rfl
@[simp] theorem mapSteward_twin (s : State) (f : Steward → Steward) : (s.mapSteward f).twin = s.twin := rfl
@[simp] theorem mapSteward_eth (s : State) (f : Steward → Steward) : (s.mapSteward f).eth = s.eth := rfl
@[simp] theorem mapSteward_plots (s : State) (f : Steward → Steward) : (s.mapSteward f).plots = s.plots := rfl
@[simp] theorem mapSteward_sower (s : State) (f : Steward → Steward) : (s.mapSteward f).sower = s.sower := rfl
@[simp] theorem mapSteward_steward (s : State) (f : Steward → Steward) : (s.mapSteward f).steward = f s.steward := rfl
@[simp] theorem mapSteward_units (s : State) (f : Steward → Steward) : (s.mapSteward f).units = s.units := rfl
@[simp] theorem mapSteward_pairs (s : State) (f : Steward → Steward) : (s.mapSteward f).pairs = s.pairs := rfl
@[simp] theorem mapSteward_clusters (s : State) (f : Steward → Steward) : (s.mapSteward f).clusters = s.clusters := rfl
@[simp] theorem mapSteward_mem (s : State) (f : Steward → Steward) : (s.mapSteward f).mem = s.mem := rfl
@[simp] theorem mapSteward_warp (s : State) (f : Steward → Steward) : (s.mapSteward f).warp = s.warp := rfl
@[simp] theorem mapSteward_thresher (s : State) (f : Steward → Steward) : (s.mapSteward f).thresher = s.thresher := rfl
@[simp] theorem mapSteward_cipher (s : State) (f : Steward → Steward) : (s.mapSteward f).cipher = s.cipher := rfl
@[simp] theorem mapSteward_furrow (s : State) (f : Steward → Steward) : (s.mapSteward f).furrow = s.furrow := rfl
@[simp] theorem mapSteward_weft (s : State) (f : Steward → Steward) : (s.mapSteward f).weft = s.weft := rfl
@[simp] theorem mapSteward_fuses (s : State) (f : Steward → Steward) : (s.mapSteward f).fuses = s.fuses := rfl
@[simp] theorem mapSteward_mram (s : State) (f : Steward → Steward) : (s.mapSteward f).mram = s.mram := rfl
@[simp] theorem mapSteward_evral (s : State) (f : Steward → Steward) : (s.mapSteward f).evral = s.evral := rfl
@[simp] theorem mapSteward_boot (s : State) (f : Steward → Steward) : (s.mapSteward f).boot = s.boot := rfl
@[simp] theorem mapSteward_power (s : State) (f : Steward → Steward) : (s.mapSteward f).power = s.power := rfl
@[simp] theorem mapSteward_out (s : State) (f : Steward → Steward) : (s.mapSteward f).out = s.out := rfl
@[simp] theorem mapSteward_time (s : State) (f : Steward → Steward) : (s.mapSteward f).time = s.time := rfl
@[simp] theorem mapSteward_fresh (s : State) (f : Steward → Steward) : (s.mapSteward f).fresh = s.fresh := rfl
@[simp] theorem mapSteward_pending (s : State) (f : Steward → Steward) : (s.mapSteward f).pending = s.pending := rfl

@[simp] theorem mapMem_ctl (s : State) (f : Mem → Mem) : (s.mapMem f).ctl = s.ctl := rfl
@[simp] theorem mapMem_gleaner (s : State) (f : Mem → Mem) : (s.mapMem f).gleaner = s.gleaner := rfl
@[simp] theorem mapMem_almanac (s : State) (f : Mem → Mem) : (s.mapMem f).almanac = s.almanac := rfl
@[simp] theorem mapMem_tick (s : State) (f : Mem → Mem) : (s.mapMem f).tick = s.tick := rfl
@[simp] theorem mapMem_stakes (s : State) (f : Mem → Mem) : (s.mapMem f).stakes = s.stakes := rfl
@[simp] theorem mapMem_journal (s : State) (f : Mem → Mem) : (s.mapMem f).journal = s.journal := rfl
@[simp] theorem mapMem_twin (s : State) (f : Mem → Mem) : (s.mapMem f).twin = s.twin := rfl
@[simp] theorem mapMem_eth (s : State) (f : Mem → Mem) : (s.mapMem f).eth = s.eth := rfl
@[simp] theorem mapMem_plots (s : State) (f : Mem → Mem) : (s.mapMem f).plots = s.plots := rfl
@[simp] theorem mapMem_sower (s : State) (f : Mem → Mem) : (s.mapMem f).sower = s.sower := rfl
@[simp] theorem mapMem_steward (s : State) (f : Mem → Mem) : (s.mapMem f).steward = s.steward := rfl
@[simp] theorem mapMem_units (s : State) (f : Mem → Mem) : (s.mapMem f).units = s.units := rfl
@[simp] theorem mapMem_pairs (s : State) (f : Mem → Mem) : (s.mapMem f).pairs = s.pairs := rfl
@[simp] theorem mapMem_clusters (s : State) (f : Mem → Mem) : (s.mapMem f).clusters = s.clusters := rfl
@[simp] theorem mapMem_mem (s : State) (f : Mem → Mem) : (s.mapMem f).mem = f s.mem := rfl
@[simp] theorem mapMem_warp (s : State) (f : Mem → Mem) : (s.mapMem f).warp = s.warp := rfl
@[simp] theorem mapMem_thresher (s : State) (f : Mem → Mem) : (s.mapMem f).thresher = s.thresher := rfl
@[simp] theorem mapMem_cipher (s : State) (f : Mem → Mem) : (s.mapMem f).cipher = s.cipher := rfl
@[simp] theorem mapMem_furrow (s : State) (f : Mem → Mem) : (s.mapMem f).furrow = s.furrow := rfl
@[simp] theorem mapMem_weft (s : State) (f : Mem → Mem) : (s.mapMem f).weft = s.weft := rfl
@[simp] theorem mapMem_fuses (s : State) (f : Mem → Mem) : (s.mapMem f).fuses = s.fuses := rfl
@[simp] theorem mapMem_mram (s : State) (f : Mem → Mem) : (s.mapMem f).mram = s.mram := rfl
@[simp] theorem mapMem_evral (s : State) (f : Mem → Mem) : (s.mapMem f).evral = s.evral := rfl
@[simp] theorem mapMem_boot (s : State) (f : Mem → Mem) : (s.mapMem f).boot = s.boot := rfl
@[simp] theorem mapMem_power (s : State) (f : Mem → Mem) : (s.mapMem f).power = s.power := rfl
@[simp] theorem mapMem_out (s : State) (f : Mem → Mem) : (s.mapMem f).out = s.out := rfl
@[simp] theorem mapMem_time (s : State) (f : Mem → Mem) : (s.mapMem f).time = s.time := rfl
@[simp] theorem mapMem_fresh (s : State) (f : Mem → Mem) : (s.mapMem f).fresh = s.fresh := rfl
@[simp] theorem mapMem_pending (s : State) (f : Mem → Mem) : (s.mapMem f).pending = s.pending := rfl

@[simp] theorem mapWarp_ctl (s : State) (f : Warp → Warp) : (s.mapWarp f).ctl = s.ctl := rfl
@[simp] theorem mapWarp_gleaner (s : State) (f : Warp → Warp) : (s.mapWarp f).gleaner = s.gleaner := rfl
@[simp] theorem mapWarp_almanac (s : State) (f : Warp → Warp) : (s.mapWarp f).almanac = s.almanac := rfl
@[simp] theorem mapWarp_tick (s : State) (f : Warp → Warp) : (s.mapWarp f).tick = s.tick := rfl
@[simp] theorem mapWarp_stakes (s : State) (f : Warp → Warp) : (s.mapWarp f).stakes = s.stakes := rfl
@[simp] theorem mapWarp_journal (s : State) (f : Warp → Warp) : (s.mapWarp f).journal = s.journal := rfl
@[simp] theorem mapWarp_twin (s : State) (f : Warp → Warp) : (s.mapWarp f).twin = s.twin := rfl
@[simp] theorem mapWarp_eth (s : State) (f : Warp → Warp) : (s.mapWarp f).eth = s.eth := rfl
@[simp] theorem mapWarp_plots (s : State) (f : Warp → Warp) : (s.mapWarp f).plots = s.plots := rfl
@[simp] theorem mapWarp_sower (s : State) (f : Warp → Warp) : (s.mapWarp f).sower = s.sower := rfl
@[simp] theorem mapWarp_steward (s : State) (f : Warp → Warp) : (s.mapWarp f).steward = s.steward := rfl
@[simp] theorem mapWarp_units (s : State) (f : Warp → Warp) : (s.mapWarp f).units = s.units := rfl
@[simp] theorem mapWarp_pairs (s : State) (f : Warp → Warp) : (s.mapWarp f).pairs = s.pairs := rfl
@[simp] theorem mapWarp_clusters (s : State) (f : Warp → Warp) : (s.mapWarp f).clusters = s.clusters := rfl
@[simp] theorem mapWarp_mem (s : State) (f : Warp → Warp) : (s.mapWarp f).mem = s.mem := rfl
@[simp] theorem mapWarp_warp (s : State) (f : Warp → Warp) : (s.mapWarp f).warp = f s.warp := rfl
@[simp] theorem mapWarp_thresher (s : State) (f : Warp → Warp) : (s.mapWarp f).thresher = s.thresher := rfl
@[simp] theorem mapWarp_cipher (s : State) (f : Warp → Warp) : (s.mapWarp f).cipher = s.cipher := rfl
@[simp] theorem mapWarp_furrow (s : State) (f : Warp → Warp) : (s.mapWarp f).furrow = s.furrow := rfl
@[simp] theorem mapWarp_weft (s : State) (f : Warp → Warp) : (s.mapWarp f).weft = s.weft := rfl
@[simp] theorem mapWarp_fuses (s : State) (f : Warp → Warp) : (s.mapWarp f).fuses = s.fuses := rfl
@[simp] theorem mapWarp_mram (s : State) (f : Warp → Warp) : (s.mapWarp f).mram = s.mram := rfl
@[simp] theorem mapWarp_evral (s : State) (f : Warp → Warp) : (s.mapWarp f).evral = s.evral := rfl
@[simp] theorem mapWarp_boot (s : State) (f : Warp → Warp) : (s.mapWarp f).boot = s.boot := rfl
@[simp] theorem mapWarp_power (s : State) (f : Warp → Warp) : (s.mapWarp f).power = s.power := rfl
@[simp] theorem mapWarp_out (s : State) (f : Warp → Warp) : (s.mapWarp f).out = s.out := rfl
@[simp] theorem mapWarp_time (s : State) (f : Warp → Warp) : (s.mapWarp f).time = s.time := rfl
@[simp] theorem mapWarp_fresh (s : State) (f : Warp → Warp) : (s.mapWarp f).fresh = s.fresh := rfl
@[simp] theorem mapWarp_pending (s : State) (f : Warp → Warp) : (s.mapWarp f).pending = s.pending := rfl

@[simp] theorem mapThresher_ctl (s : State) (f : Thresher → Thresher) : (s.mapThresher f).ctl = s.ctl := rfl
@[simp] theorem mapThresher_gleaner (s : State) (f : Thresher → Thresher) : (s.mapThresher f).gleaner = s.gleaner := rfl
@[simp] theorem mapThresher_almanac (s : State) (f : Thresher → Thresher) : (s.mapThresher f).almanac = s.almanac := rfl
@[simp] theorem mapThresher_tick (s : State) (f : Thresher → Thresher) : (s.mapThresher f).tick = s.tick := rfl
@[simp] theorem mapThresher_stakes (s : State) (f : Thresher → Thresher) : (s.mapThresher f).stakes = s.stakes := rfl
@[simp] theorem mapThresher_journal (s : State) (f : Thresher → Thresher) : (s.mapThresher f).journal = s.journal := rfl
@[simp] theorem mapThresher_twin (s : State) (f : Thresher → Thresher) : (s.mapThresher f).twin = s.twin := rfl
@[simp] theorem mapThresher_eth (s : State) (f : Thresher → Thresher) : (s.mapThresher f).eth = s.eth := rfl
@[simp] theorem mapThresher_plots (s : State) (f : Thresher → Thresher) : (s.mapThresher f).plots = s.plots := rfl
@[simp] theorem mapThresher_sower (s : State) (f : Thresher → Thresher) : (s.mapThresher f).sower = s.sower := rfl
@[simp] theorem mapThresher_steward (s : State) (f : Thresher → Thresher) : (s.mapThresher f).steward = s.steward := rfl
@[simp] theorem mapThresher_units (s : State) (f : Thresher → Thresher) : (s.mapThresher f).units = s.units := rfl
@[simp] theorem mapThresher_pairs (s : State) (f : Thresher → Thresher) : (s.mapThresher f).pairs = s.pairs := rfl
@[simp] theorem mapThresher_clusters (s : State) (f : Thresher → Thresher) : (s.mapThresher f).clusters = s.clusters := rfl
@[simp] theorem mapThresher_mem (s : State) (f : Thresher → Thresher) : (s.mapThresher f).mem = s.mem := rfl
@[simp] theorem mapThresher_warp (s : State) (f : Thresher → Thresher) : (s.mapThresher f).warp = s.warp := rfl
@[simp] theorem mapThresher_thresher (s : State) (f : Thresher → Thresher) : (s.mapThresher f).thresher = f s.thresher := rfl
@[simp] theorem mapThresher_cipher (s : State) (f : Thresher → Thresher) : (s.mapThresher f).cipher = s.cipher := rfl
@[simp] theorem mapThresher_furrow (s : State) (f : Thresher → Thresher) : (s.mapThresher f).furrow = s.furrow := rfl
@[simp] theorem mapThresher_weft (s : State) (f : Thresher → Thresher) : (s.mapThresher f).weft = s.weft := rfl
@[simp] theorem mapThresher_fuses (s : State) (f : Thresher → Thresher) : (s.mapThresher f).fuses = s.fuses := rfl
@[simp] theorem mapThresher_mram (s : State) (f : Thresher → Thresher) : (s.mapThresher f).mram = s.mram := rfl
@[simp] theorem mapThresher_evral (s : State) (f : Thresher → Thresher) : (s.mapThresher f).evral = s.evral := rfl
@[simp] theorem mapThresher_boot (s : State) (f : Thresher → Thresher) : (s.mapThresher f).boot = s.boot := rfl
@[simp] theorem mapThresher_power (s : State) (f : Thresher → Thresher) : (s.mapThresher f).power = s.power := rfl
@[simp] theorem mapThresher_out (s : State) (f : Thresher → Thresher) : (s.mapThresher f).out = s.out := rfl
@[simp] theorem mapThresher_time (s : State) (f : Thresher → Thresher) : (s.mapThresher f).time = s.time := rfl
@[simp] theorem mapThresher_fresh (s : State) (f : Thresher → Thresher) : (s.mapThresher f).fresh = s.fresh := rfl
@[simp] theorem mapThresher_pending (s : State) (f : Thresher → Thresher) : (s.mapThresher f).pending = s.pending := rfl

@[simp] theorem mapCipher_ctl (s : State) (f : Cipher → Cipher) : (s.mapCipher f).ctl = s.ctl := rfl
@[simp] theorem mapCipher_gleaner (s : State) (f : Cipher → Cipher) : (s.mapCipher f).gleaner = s.gleaner := rfl
@[simp] theorem mapCipher_almanac (s : State) (f : Cipher → Cipher) : (s.mapCipher f).almanac = s.almanac := rfl
@[simp] theorem mapCipher_tick (s : State) (f : Cipher → Cipher) : (s.mapCipher f).tick = s.tick := rfl
@[simp] theorem mapCipher_stakes (s : State) (f : Cipher → Cipher) : (s.mapCipher f).stakes = s.stakes := rfl
@[simp] theorem mapCipher_journal (s : State) (f : Cipher → Cipher) : (s.mapCipher f).journal = s.journal := rfl
@[simp] theorem mapCipher_twin (s : State) (f : Cipher → Cipher) : (s.mapCipher f).twin = s.twin := rfl
@[simp] theorem mapCipher_eth (s : State) (f : Cipher → Cipher) : (s.mapCipher f).eth = s.eth := rfl
@[simp] theorem mapCipher_plots (s : State) (f : Cipher → Cipher) : (s.mapCipher f).plots = s.plots := rfl
@[simp] theorem mapCipher_sower (s : State) (f : Cipher → Cipher) : (s.mapCipher f).sower = s.sower := rfl
@[simp] theorem mapCipher_steward (s : State) (f : Cipher → Cipher) : (s.mapCipher f).steward = s.steward := rfl
@[simp] theorem mapCipher_units (s : State) (f : Cipher → Cipher) : (s.mapCipher f).units = s.units := rfl
@[simp] theorem mapCipher_pairs (s : State) (f : Cipher → Cipher) : (s.mapCipher f).pairs = s.pairs := rfl
@[simp] theorem mapCipher_clusters (s : State) (f : Cipher → Cipher) : (s.mapCipher f).clusters = s.clusters := rfl
@[simp] theorem mapCipher_mem (s : State) (f : Cipher → Cipher) : (s.mapCipher f).mem = s.mem := rfl
@[simp] theorem mapCipher_warp (s : State) (f : Cipher → Cipher) : (s.mapCipher f).warp = s.warp := rfl
@[simp] theorem mapCipher_thresher (s : State) (f : Cipher → Cipher) : (s.mapCipher f).thresher = s.thresher := rfl
@[simp] theorem mapCipher_cipher (s : State) (f : Cipher → Cipher) : (s.mapCipher f).cipher = f s.cipher := rfl
@[simp] theorem mapCipher_furrow (s : State) (f : Cipher → Cipher) : (s.mapCipher f).furrow = s.furrow := rfl
@[simp] theorem mapCipher_weft (s : State) (f : Cipher → Cipher) : (s.mapCipher f).weft = s.weft := rfl
@[simp] theorem mapCipher_fuses (s : State) (f : Cipher → Cipher) : (s.mapCipher f).fuses = s.fuses := rfl
@[simp] theorem mapCipher_mram (s : State) (f : Cipher → Cipher) : (s.mapCipher f).mram = s.mram := rfl
@[simp] theorem mapCipher_evral (s : State) (f : Cipher → Cipher) : (s.mapCipher f).evral = s.evral := rfl
@[simp] theorem mapCipher_boot (s : State) (f : Cipher → Cipher) : (s.mapCipher f).boot = s.boot := rfl
@[simp] theorem mapCipher_power (s : State) (f : Cipher → Cipher) : (s.mapCipher f).power = s.power := rfl
@[simp] theorem mapCipher_out (s : State) (f : Cipher → Cipher) : (s.mapCipher f).out = s.out := rfl
@[simp] theorem mapCipher_time (s : State) (f : Cipher → Cipher) : (s.mapCipher f).time = s.time := rfl
@[simp] theorem mapCipher_fresh (s : State) (f : Cipher → Cipher) : (s.mapCipher f).fresh = s.fresh := rfl
@[simp] theorem mapCipher_pending (s : State) (f : Cipher → Cipher) : (s.mapCipher f).pending = s.pending := rfl

@[simp] theorem mapFurrow_ctl (s : State) (f : Furrow → Furrow) : (s.mapFurrow f).ctl = s.ctl := rfl
@[simp] theorem mapFurrow_gleaner (s : State) (f : Furrow → Furrow) : (s.mapFurrow f).gleaner = s.gleaner := rfl
@[simp] theorem mapFurrow_almanac (s : State) (f : Furrow → Furrow) : (s.mapFurrow f).almanac = s.almanac := rfl
@[simp] theorem mapFurrow_tick (s : State) (f : Furrow → Furrow) : (s.mapFurrow f).tick = s.tick := rfl
@[simp] theorem mapFurrow_stakes (s : State) (f : Furrow → Furrow) : (s.mapFurrow f).stakes = s.stakes := rfl
@[simp] theorem mapFurrow_journal (s : State) (f : Furrow → Furrow) : (s.mapFurrow f).journal = s.journal := rfl
@[simp] theorem mapFurrow_twin (s : State) (f : Furrow → Furrow) : (s.mapFurrow f).twin = s.twin := rfl
@[simp] theorem mapFurrow_eth (s : State) (f : Furrow → Furrow) : (s.mapFurrow f).eth = s.eth := rfl
@[simp] theorem mapFurrow_plots (s : State) (f : Furrow → Furrow) : (s.mapFurrow f).plots = s.plots := rfl
@[simp] theorem mapFurrow_sower (s : State) (f : Furrow → Furrow) : (s.mapFurrow f).sower = s.sower := rfl
@[simp] theorem mapFurrow_steward (s : State) (f : Furrow → Furrow) : (s.mapFurrow f).steward = s.steward := rfl
@[simp] theorem mapFurrow_units (s : State) (f : Furrow → Furrow) : (s.mapFurrow f).units = s.units := rfl
@[simp] theorem mapFurrow_pairs (s : State) (f : Furrow → Furrow) : (s.mapFurrow f).pairs = s.pairs := rfl
@[simp] theorem mapFurrow_clusters (s : State) (f : Furrow → Furrow) : (s.mapFurrow f).clusters = s.clusters := rfl
@[simp] theorem mapFurrow_mem (s : State) (f : Furrow → Furrow) : (s.mapFurrow f).mem = s.mem := rfl
@[simp] theorem mapFurrow_warp (s : State) (f : Furrow → Furrow) : (s.mapFurrow f).warp = s.warp := rfl
@[simp] theorem mapFurrow_thresher (s : State) (f : Furrow → Furrow) : (s.mapFurrow f).thresher = s.thresher := rfl
@[simp] theorem mapFurrow_cipher (s : State) (f : Furrow → Furrow) : (s.mapFurrow f).cipher = s.cipher := rfl
@[simp] theorem mapFurrow_furrow (s : State) (f : Furrow → Furrow) : (s.mapFurrow f).furrow = f s.furrow := rfl
@[simp] theorem mapFurrow_weft (s : State) (f : Furrow → Furrow) : (s.mapFurrow f).weft = s.weft := rfl
@[simp] theorem mapFurrow_fuses (s : State) (f : Furrow → Furrow) : (s.mapFurrow f).fuses = s.fuses := rfl
@[simp] theorem mapFurrow_mram (s : State) (f : Furrow → Furrow) : (s.mapFurrow f).mram = s.mram := rfl
@[simp] theorem mapFurrow_evral (s : State) (f : Furrow → Furrow) : (s.mapFurrow f).evral = s.evral := rfl
@[simp] theorem mapFurrow_boot (s : State) (f : Furrow → Furrow) : (s.mapFurrow f).boot = s.boot := rfl
@[simp] theorem mapFurrow_power (s : State) (f : Furrow → Furrow) : (s.mapFurrow f).power = s.power := rfl
@[simp] theorem mapFurrow_out (s : State) (f : Furrow → Furrow) : (s.mapFurrow f).out = s.out := rfl
@[simp] theorem mapFurrow_time (s : State) (f : Furrow → Furrow) : (s.mapFurrow f).time = s.time := rfl
@[simp] theorem mapFurrow_fresh (s : State) (f : Furrow → Furrow) : (s.mapFurrow f).fresh = s.fresh := rfl
@[simp] theorem mapFurrow_pending (s : State) (f : Furrow → Furrow) : (s.mapFurrow f).pending = s.pending := rfl

@[simp] theorem mapWeft_ctl (s : State) (f : Weft → Weft) : (s.mapWeft f).ctl = s.ctl := rfl
@[simp] theorem mapWeft_gleaner (s : State) (f : Weft → Weft) : (s.mapWeft f).gleaner = s.gleaner := rfl
@[simp] theorem mapWeft_almanac (s : State) (f : Weft → Weft) : (s.mapWeft f).almanac = s.almanac := rfl
@[simp] theorem mapWeft_tick (s : State) (f : Weft → Weft) : (s.mapWeft f).tick = s.tick := rfl
@[simp] theorem mapWeft_stakes (s : State) (f : Weft → Weft) : (s.mapWeft f).stakes = s.stakes := rfl
@[simp] theorem mapWeft_journal (s : State) (f : Weft → Weft) : (s.mapWeft f).journal = s.journal := rfl
@[simp] theorem mapWeft_twin (s : State) (f : Weft → Weft) : (s.mapWeft f).twin = s.twin := rfl
@[simp] theorem mapWeft_eth (s : State) (f : Weft → Weft) : (s.mapWeft f).eth = s.eth := rfl
@[simp] theorem mapWeft_plots (s : State) (f : Weft → Weft) : (s.mapWeft f).plots = s.plots := rfl
@[simp] theorem mapWeft_sower (s : State) (f : Weft → Weft) : (s.mapWeft f).sower = s.sower := rfl
@[simp] theorem mapWeft_steward (s : State) (f : Weft → Weft) : (s.mapWeft f).steward = s.steward := rfl
@[simp] theorem mapWeft_units (s : State) (f : Weft → Weft) : (s.mapWeft f).units = s.units := rfl
@[simp] theorem mapWeft_pairs (s : State) (f : Weft → Weft) : (s.mapWeft f).pairs = s.pairs := rfl
@[simp] theorem mapWeft_clusters (s : State) (f : Weft → Weft) : (s.mapWeft f).clusters = s.clusters := rfl
@[simp] theorem mapWeft_mem (s : State) (f : Weft → Weft) : (s.mapWeft f).mem = s.mem := rfl
@[simp] theorem mapWeft_warp (s : State) (f : Weft → Weft) : (s.mapWeft f).warp = s.warp := rfl
@[simp] theorem mapWeft_thresher (s : State) (f : Weft → Weft) : (s.mapWeft f).thresher = s.thresher := rfl
@[simp] theorem mapWeft_cipher (s : State) (f : Weft → Weft) : (s.mapWeft f).cipher = s.cipher := rfl
@[simp] theorem mapWeft_furrow (s : State) (f : Weft → Weft) : (s.mapWeft f).furrow = s.furrow := rfl
@[simp] theorem mapWeft_weft (s : State) (f : Weft → Weft) : (s.mapWeft f).weft = f s.weft := rfl
@[simp] theorem mapWeft_fuses (s : State) (f : Weft → Weft) : (s.mapWeft f).fuses = s.fuses := rfl
@[simp] theorem mapWeft_mram (s : State) (f : Weft → Weft) : (s.mapWeft f).mram = s.mram := rfl
@[simp] theorem mapWeft_evral (s : State) (f : Weft → Weft) : (s.mapWeft f).evral = s.evral := rfl
@[simp] theorem mapWeft_boot (s : State) (f : Weft → Weft) : (s.mapWeft f).boot = s.boot := rfl
@[simp] theorem mapWeft_power (s : State) (f : Weft → Weft) : (s.mapWeft f).power = s.power := rfl
@[simp] theorem mapWeft_out (s : State) (f : Weft → Weft) : (s.mapWeft f).out = s.out := rfl
@[simp] theorem mapWeft_time (s : State) (f : Weft → Weft) : (s.mapWeft f).time = s.time := rfl
@[simp] theorem mapWeft_fresh (s : State) (f : Weft → Weft) : (s.mapWeft f).fresh = s.fresh := rfl
@[simp] theorem mapWeft_pending (s : State) (f : Weft → Weft) : (s.mapWeft f).pending = s.pending := rfl

@[simp] theorem mapFuses_ctl (s : State) (f : Fuses → Fuses) : (s.mapFuses f).ctl = s.ctl := rfl
@[simp] theorem mapFuses_gleaner (s : State) (f : Fuses → Fuses) : (s.mapFuses f).gleaner = s.gleaner := rfl
@[simp] theorem mapFuses_almanac (s : State) (f : Fuses → Fuses) : (s.mapFuses f).almanac = s.almanac := rfl
@[simp] theorem mapFuses_tick (s : State) (f : Fuses → Fuses) : (s.mapFuses f).tick = s.tick := rfl
@[simp] theorem mapFuses_stakes (s : State) (f : Fuses → Fuses) : (s.mapFuses f).stakes = s.stakes := rfl
@[simp] theorem mapFuses_journal (s : State) (f : Fuses → Fuses) : (s.mapFuses f).journal = s.journal := rfl
@[simp] theorem mapFuses_twin (s : State) (f : Fuses → Fuses) : (s.mapFuses f).twin = s.twin := rfl
@[simp] theorem mapFuses_eth (s : State) (f : Fuses → Fuses) : (s.mapFuses f).eth = s.eth := rfl
@[simp] theorem mapFuses_plots (s : State) (f : Fuses → Fuses) : (s.mapFuses f).plots = s.plots := rfl
@[simp] theorem mapFuses_sower (s : State) (f : Fuses → Fuses) : (s.mapFuses f).sower = s.sower := rfl
@[simp] theorem mapFuses_steward (s : State) (f : Fuses → Fuses) : (s.mapFuses f).steward = s.steward := rfl
@[simp] theorem mapFuses_units (s : State) (f : Fuses → Fuses) : (s.mapFuses f).units = s.units := rfl
@[simp] theorem mapFuses_pairs (s : State) (f : Fuses → Fuses) : (s.mapFuses f).pairs = s.pairs := rfl
@[simp] theorem mapFuses_clusters (s : State) (f : Fuses → Fuses) : (s.mapFuses f).clusters = s.clusters := rfl
@[simp] theorem mapFuses_mem (s : State) (f : Fuses → Fuses) : (s.mapFuses f).mem = s.mem := rfl
@[simp] theorem mapFuses_warp (s : State) (f : Fuses → Fuses) : (s.mapFuses f).warp = s.warp := rfl
@[simp] theorem mapFuses_thresher (s : State) (f : Fuses → Fuses) : (s.mapFuses f).thresher = s.thresher := rfl
@[simp] theorem mapFuses_cipher (s : State) (f : Fuses → Fuses) : (s.mapFuses f).cipher = s.cipher := rfl
@[simp] theorem mapFuses_furrow (s : State) (f : Fuses → Fuses) : (s.mapFuses f).furrow = s.furrow := rfl
@[simp] theorem mapFuses_weft (s : State) (f : Fuses → Fuses) : (s.mapFuses f).weft = s.weft := rfl
@[simp] theorem mapFuses_fuses (s : State) (f : Fuses → Fuses) : (s.mapFuses f).fuses = f s.fuses := rfl
@[simp] theorem mapFuses_mram (s : State) (f : Fuses → Fuses) : (s.mapFuses f).mram = s.mram := rfl
@[simp] theorem mapFuses_evral (s : State) (f : Fuses → Fuses) : (s.mapFuses f).evral = s.evral := rfl
@[simp] theorem mapFuses_boot (s : State) (f : Fuses → Fuses) : (s.mapFuses f).boot = s.boot := rfl
@[simp] theorem mapFuses_power (s : State) (f : Fuses → Fuses) : (s.mapFuses f).power = s.power := rfl
@[simp] theorem mapFuses_out (s : State) (f : Fuses → Fuses) : (s.mapFuses f).out = s.out := rfl
@[simp] theorem mapFuses_time (s : State) (f : Fuses → Fuses) : (s.mapFuses f).time = s.time := rfl
@[simp] theorem mapFuses_fresh (s : State) (f : Fuses → Fuses) : (s.mapFuses f).fresh = s.fresh := rfl
@[simp] theorem mapFuses_pending (s : State) (f : Fuses → Fuses) : (s.mapFuses f).pending = s.pending := rfl

@[simp] theorem mapMram_ctl (s : State) (f : Mram → Mram) : (s.mapMram f).ctl = s.ctl := rfl
@[simp] theorem mapMram_gleaner (s : State) (f : Mram → Mram) : (s.mapMram f).gleaner = s.gleaner := rfl
@[simp] theorem mapMram_almanac (s : State) (f : Mram → Mram) : (s.mapMram f).almanac = s.almanac := rfl
@[simp] theorem mapMram_tick (s : State) (f : Mram → Mram) : (s.mapMram f).tick = s.tick := rfl
@[simp] theorem mapMram_stakes (s : State) (f : Mram → Mram) : (s.mapMram f).stakes = s.stakes := rfl
@[simp] theorem mapMram_journal (s : State) (f : Mram → Mram) : (s.mapMram f).journal = s.journal := rfl
@[simp] theorem mapMram_twin (s : State) (f : Mram → Mram) : (s.mapMram f).twin = s.twin := rfl
@[simp] theorem mapMram_eth (s : State) (f : Mram → Mram) : (s.mapMram f).eth = s.eth := rfl
@[simp] theorem mapMram_plots (s : State) (f : Mram → Mram) : (s.mapMram f).plots = s.plots := rfl
@[simp] theorem mapMram_sower (s : State) (f : Mram → Mram) : (s.mapMram f).sower = s.sower := rfl
@[simp] theorem mapMram_steward (s : State) (f : Mram → Mram) : (s.mapMram f).steward = s.steward := rfl
@[simp] theorem mapMram_units (s : State) (f : Mram → Mram) : (s.mapMram f).units = s.units := rfl
@[simp] theorem mapMram_pairs (s : State) (f : Mram → Mram) : (s.mapMram f).pairs = s.pairs := rfl
@[simp] theorem mapMram_clusters (s : State) (f : Mram → Mram) : (s.mapMram f).clusters = s.clusters := rfl
@[simp] theorem mapMram_mem (s : State) (f : Mram → Mram) : (s.mapMram f).mem = s.mem := rfl
@[simp] theorem mapMram_warp (s : State) (f : Mram → Mram) : (s.mapMram f).warp = s.warp := rfl
@[simp] theorem mapMram_thresher (s : State) (f : Mram → Mram) : (s.mapMram f).thresher = s.thresher := rfl
@[simp] theorem mapMram_cipher (s : State) (f : Mram → Mram) : (s.mapMram f).cipher = s.cipher := rfl
@[simp] theorem mapMram_furrow (s : State) (f : Mram → Mram) : (s.mapMram f).furrow = s.furrow := rfl
@[simp] theorem mapMram_weft (s : State) (f : Mram → Mram) : (s.mapMram f).weft = s.weft := rfl
@[simp] theorem mapMram_fuses (s : State) (f : Mram → Mram) : (s.mapMram f).fuses = s.fuses := rfl
@[simp] theorem mapMram_mram (s : State) (f : Mram → Mram) : (s.mapMram f).mram = f s.mram := rfl
@[simp] theorem mapMram_evral (s : State) (f : Mram → Mram) : (s.mapMram f).evral = s.evral := rfl
@[simp] theorem mapMram_boot (s : State) (f : Mram → Mram) : (s.mapMram f).boot = s.boot := rfl
@[simp] theorem mapMram_power (s : State) (f : Mram → Mram) : (s.mapMram f).power = s.power := rfl
@[simp] theorem mapMram_out (s : State) (f : Mram → Mram) : (s.mapMram f).out = s.out := rfl
@[simp] theorem mapMram_time (s : State) (f : Mram → Mram) : (s.mapMram f).time = s.time := rfl
@[simp] theorem mapMram_fresh (s : State) (f : Mram → Mram) : (s.mapMram f).fresh = s.fresh := rfl
@[simp] theorem mapMram_pending (s : State) (f : Mram → Mram) : (s.mapMram f).pending = s.pending := rfl

@[simp] theorem mapEvral_ctl (s : State) (f : Evral → Evral) : (s.mapEvral f).ctl = s.ctl := rfl
@[simp] theorem mapEvral_gleaner (s : State) (f : Evral → Evral) : (s.mapEvral f).gleaner = s.gleaner := rfl
@[simp] theorem mapEvral_almanac (s : State) (f : Evral → Evral) : (s.mapEvral f).almanac = s.almanac := rfl
@[simp] theorem mapEvral_tick (s : State) (f : Evral → Evral) : (s.mapEvral f).tick = s.tick := rfl
@[simp] theorem mapEvral_stakes (s : State) (f : Evral → Evral) : (s.mapEvral f).stakes = s.stakes := rfl
@[simp] theorem mapEvral_journal (s : State) (f : Evral → Evral) : (s.mapEvral f).journal = s.journal := rfl
@[simp] theorem mapEvral_twin (s : State) (f : Evral → Evral) : (s.mapEvral f).twin = s.twin := rfl
@[simp] theorem mapEvral_eth (s : State) (f : Evral → Evral) : (s.mapEvral f).eth = s.eth := rfl
@[simp] theorem mapEvral_plots (s : State) (f : Evral → Evral) : (s.mapEvral f).plots = s.plots := rfl
@[simp] theorem mapEvral_sower (s : State) (f : Evral → Evral) : (s.mapEvral f).sower = s.sower := rfl
@[simp] theorem mapEvral_steward (s : State) (f : Evral → Evral) : (s.mapEvral f).steward = s.steward := rfl
@[simp] theorem mapEvral_units (s : State) (f : Evral → Evral) : (s.mapEvral f).units = s.units := rfl
@[simp] theorem mapEvral_pairs (s : State) (f : Evral → Evral) : (s.mapEvral f).pairs = s.pairs := rfl
@[simp] theorem mapEvral_clusters (s : State) (f : Evral → Evral) : (s.mapEvral f).clusters = s.clusters := rfl
@[simp] theorem mapEvral_mem (s : State) (f : Evral → Evral) : (s.mapEvral f).mem = s.mem := rfl
@[simp] theorem mapEvral_warp (s : State) (f : Evral → Evral) : (s.mapEvral f).warp = s.warp := rfl
@[simp] theorem mapEvral_thresher (s : State) (f : Evral → Evral) : (s.mapEvral f).thresher = s.thresher := rfl
@[simp] theorem mapEvral_cipher (s : State) (f : Evral → Evral) : (s.mapEvral f).cipher = s.cipher := rfl
@[simp] theorem mapEvral_furrow (s : State) (f : Evral → Evral) : (s.mapEvral f).furrow = s.furrow := rfl
@[simp] theorem mapEvral_weft (s : State) (f : Evral → Evral) : (s.mapEvral f).weft = s.weft := rfl
@[simp] theorem mapEvral_fuses (s : State) (f : Evral → Evral) : (s.mapEvral f).fuses = s.fuses := rfl
@[simp] theorem mapEvral_mram (s : State) (f : Evral → Evral) : (s.mapEvral f).mram = s.mram := rfl
@[simp] theorem mapEvral_evral (s : State) (f : Evral → Evral) : (s.mapEvral f).evral = f s.evral := rfl
@[simp] theorem mapEvral_boot (s : State) (f : Evral → Evral) : (s.mapEvral f).boot = s.boot := rfl
@[simp] theorem mapEvral_power (s : State) (f : Evral → Evral) : (s.mapEvral f).power = s.power := rfl
@[simp] theorem mapEvral_out (s : State) (f : Evral → Evral) : (s.mapEvral f).out = s.out := rfl
@[simp] theorem mapEvral_time (s : State) (f : Evral → Evral) : (s.mapEvral f).time = s.time := rfl
@[simp] theorem mapEvral_fresh (s : State) (f : Evral → Evral) : (s.mapEvral f).fresh = s.fresh := rfl
@[simp] theorem mapEvral_pending (s : State) (f : Evral → Evral) : (s.mapEvral f).pending = s.pending := rfl

@[simp] theorem mapBoot_ctl (s : State) (f : Boot → Boot) : (s.mapBoot f).ctl = s.ctl := rfl
@[simp] theorem mapBoot_gleaner (s : State) (f : Boot → Boot) : (s.mapBoot f).gleaner = s.gleaner := rfl
@[simp] theorem mapBoot_almanac (s : State) (f : Boot → Boot) : (s.mapBoot f).almanac = s.almanac := rfl
@[simp] theorem mapBoot_tick (s : State) (f : Boot → Boot) : (s.mapBoot f).tick = s.tick := rfl
@[simp] theorem mapBoot_stakes (s : State) (f : Boot → Boot) : (s.mapBoot f).stakes = s.stakes := rfl
@[simp] theorem mapBoot_journal (s : State) (f : Boot → Boot) : (s.mapBoot f).journal = s.journal := rfl
@[simp] theorem mapBoot_twin (s : State) (f : Boot → Boot) : (s.mapBoot f).twin = s.twin := rfl
@[simp] theorem mapBoot_eth (s : State) (f : Boot → Boot) : (s.mapBoot f).eth = s.eth := rfl
@[simp] theorem mapBoot_plots (s : State) (f : Boot → Boot) : (s.mapBoot f).plots = s.plots := rfl
@[simp] theorem mapBoot_sower (s : State) (f : Boot → Boot) : (s.mapBoot f).sower = s.sower := rfl
@[simp] theorem mapBoot_steward (s : State) (f : Boot → Boot) : (s.mapBoot f).steward = s.steward := rfl
@[simp] theorem mapBoot_units (s : State) (f : Boot → Boot) : (s.mapBoot f).units = s.units := rfl
@[simp] theorem mapBoot_pairs (s : State) (f : Boot → Boot) : (s.mapBoot f).pairs = s.pairs := rfl
@[simp] theorem mapBoot_clusters (s : State) (f : Boot → Boot) : (s.mapBoot f).clusters = s.clusters := rfl
@[simp] theorem mapBoot_mem (s : State) (f : Boot → Boot) : (s.mapBoot f).mem = s.mem := rfl
@[simp] theorem mapBoot_warp (s : State) (f : Boot → Boot) : (s.mapBoot f).warp = s.warp := rfl
@[simp] theorem mapBoot_thresher (s : State) (f : Boot → Boot) : (s.mapBoot f).thresher = s.thresher := rfl
@[simp] theorem mapBoot_cipher (s : State) (f : Boot → Boot) : (s.mapBoot f).cipher = s.cipher := rfl
@[simp] theorem mapBoot_furrow (s : State) (f : Boot → Boot) : (s.mapBoot f).furrow = s.furrow := rfl
@[simp] theorem mapBoot_weft (s : State) (f : Boot → Boot) : (s.mapBoot f).weft = s.weft := rfl
@[simp] theorem mapBoot_fuses (s : State) (f : Boot → Boot) : (s.mapBoot f).fuses = s.fuses := rfl
@[simp] theorem mapBoot_mram (s : State) (f : Boot → Boot) : (s.mapBoot f).mram = s.mram := rfl
@[simp] theorem mapBoot_evral (s : State) (f : Boot → Boot) : (s.mapBoot f).evral = s.evral := rfl
@[simp] theorem mapBoot_boot (s : State) (f : Boot → Boot) : (s.mapBoot f).boot = f s.boot := rfl
@[simp] theorem mapBoot_power (s : State) (f : Boot → Boot) : (s.mapBoot f).power = s.power := rfl
@[simp] theorem mapBoot_out (s : State) (f : Boot → Boot) : (s.mapBoot f).out = s.out := rfl
@[simp] theorem mapBoot_time (s : State) (f : Boot → Boot) : (s.mapBoot f).time = s.time := rfl
@[simp] theorem mapBoot_fresh (s : State) (f : Boot → Boot) : (s.mapBoot f).fresh = s.fresh := rfl
@[simp] theorem mapBoot_pending (s : State) (f : Boot → Boot) : (s.mapBoot f).pending = s.pending := rfl

@[simp] theorem mapPower_ctl (s : State) (f : Power → Power) : (s.mapPower f).ctl = s.ctl := rfl
@[simp] theorem mapPower_gleaner (s : State) (f : Power → Power) : (s.mapPower f).gleaner = s.gleaner := rfl
@[simp] theorem mapPower_almanac (s : State) (f : Power → Power) : (s.mapPower f).almanac = s.almanac := rfl
@[simp] theorem mapPower_tick (s : State) (f : Power → Power) : (s.mapPower f).tick = s.tick := rfl
@[simp] theorem mapPower_stakes (s : State) (f : Power → Power) : (s.mapPower f).stakes = s.stakes := rfl
@[simp] theorem mapPower_journal (s : State) (f : Power → Power) : (s.mapPower f).journal = s.journal := rfl
@[simp] theorem mapPower_twin (s : State) (f : Power → Power) : (s.mapPower f).twin = s.twin := rfl
@[simp] theorem mapPower_eth (s : State) (f : Power → Power) : (s.mapPower f).eth = s.eth := rfl
@[simp] theorem mapPower_plots (s : State) (f : Power → Power) : (s.mapPower f).plots = s.plots := rfl
@[simp] theorem mapPower_sower (s : State) (f : Power → Power) : (s.mapPower f).sower = s.sower := rfl
@[simp] theorem mapPower_steward (s : State) (f : Power → Power) : (s.mapPower f).steward = s.steward := rfl
@[simp] theorem mapPower_units (s : State) (f : Power → Power) : (s.mapPower f).units = s.units := rfl
@[simp] theorem mapPower_pairs (s : State) (f : Power → Power) : (s.mapPower f).pairs = s.pairs := rfl
@[simp] theorem mapPower_clusters (s : State) (f : Power → Power) : (s.mapPower f).clusters = s.clusters := rfl
@[simp] theorem mapPower_mem (s : State) (f : Power → Power) : (s.mapPower f).mem = s.mem := rfl
@[simp] theorem mapPower_warp (s : State) (f : Power → Power) : (s.mapPower f).warp = s.warp := rfl
@[simp] theorem mapPower_thresher (s : State) (f : Power → Power) : (s.mapPower f).thresher = s.thresher := rfl
@[simp] theorem mapPower_cipher (s : State) (f : Power → Power) : (s.mapPower f).cipher = s.cipher := rfl
@[simp] theorem mapPower_furrow (s : State) (f : Power → Power) : (s.mapPower f).furrow = s.furrow := rfl
@[simp] theorem mapPower_weft (s : State) (f : Power → Power) : (s.mapPower f).weft = s.weft := rfl
@[simp] theorem mapPower_fuses (s : State) (f : Power → Power) : (s.mapPower f).fuses = s.fuses := rfl
@[simp] theorem mapPower_mram (s : State) (f : Power → Power) : (s.mapPower f).mram = s.mram := rfl
@[simp] theorem mapPower_evral (s : State) (f : Power → Power) : (s.mapPower f).evral = s.evral := rfl
@[simp] theorem mapPower_boot (s : State) (f : Power → Power) : (s.mapPower f).boot = s.boot := rfl
@[simp] theorem mapPower_power (s : State) (f : Power → Power) : (s.mapPower f).power = f s.power := rfl
@[simp] theorem mapPower_out (s : State) (f : Power → Power) : (s.mapPower f).out = s.out := rfl
@[simp] theorem mapPower_time (s : State) (f : Power → Power) : (s.mapPower f).time = s.time := rfl
@[simp] theorem mapPower_fresh (s : State) (f : Power → Power) : (s.mapPower f).fresh = s.fresh := rfl
@[simp] theorem mapPower_pending (s : State) (f : Power → Power) : (s.mapPower f).pending = s.pending := rfl

@[simp] theorem emit_ctl (s : State) (o : Out) : (s.emit o).ctl = s.ctl := rfl
@[simp] theorem emit_gleaner (s : State) (o : Out) : (s.emit o).gleaner = s.gleaner := rfl
@[simp] theorem emit_almanac (s : State) (o : Out) : (s.emit o).almanac = s.almanac := rfl
@[simp] theorem emit_tick (s : State) (o : Out) : (s.emit o).tick = s.tick := rfl
@[simp] theorem emit_stakes (s : State) (o : Out) : (s.emit o).stakes = s.stakes := rfl
@[simp] theorem emit_journal (s : State) (o : Out) : (s.emit o).journal = s.journal := rfl
@[simp] theorem emit_twin (s : State) (o : Out) : (s.emit o).twin = s.twin := rfl
@[simp] theorem emit_eth (s : State) (o : Out) : (s.emit o).eth = s.eth := rfl
@[simp] theorem emit_plots (s : State) (o : Out) : (s.emit o).plots = s.plots := rfl
@[simp] theorem emit_sower (s : State) (o : Out) : (s.emit o).sower = s.sower := rfl
@[simp] theorem emit_steward (s : State) (o : Out) : (s.emit o).steward = s.steward := rfl
@[simp] theorem emit_units (s : State) (o : Out) : (s.emit o).units = s.units := rfl
@[simp] theorem emit_pairs (s : State) (o : Out) : (s.emit o).pairs = s.pairs := rfl
@[simp] theorem emit_clusters (s : State) (o : Out) : (s.emit o).clusters = s.clusters := rfl
@[simp] theorem emit_mem (s : State) (o : Out) : (s.emit o).mem = s.mem := rfl
@[simp] theorem emit_warp (s : State) (o : Out) : (s.emit o).warp = s.warp := rfl
@[simp] theorem emit_thresher (s : State) (o : Out) : (s.emit o).thresher = s.thresher := rfl
@[simp] theorem emit_cipher (s : State) (o : Out) : (s.emit o).cipher = s.cipher := rfl
@[simp] theorem emit_furrow (s : State) (o : Out) : (s.emit o).furrow = s.furrow := rfl
@[simp] theorem emit_weft (s : State) (o : Out) : (s.emit o).weft = s.weft := rfl
@[simp] theorem emit_fuses (s : State) (o : Out) : (s.emit o).fuses = s.fuses := rfl
@[simp] theorem emit_mram (s : State) (o : Out) : (s.emit o).mram = s.mram := rfl
@[simp] theorem emit_evral (s : State) (o : Out) : (s.emit o).evral = s.evral := rfl
@[simp] theorem emit_boot (s : State) (o : Out) : (s.emit o).boot = s.boot := rfl
@[simp] theorem emit_power (s : State) (o : Out) : (s.emit o).power = s.power := rfl
@[simp] theorem emit_out (s : State) (o : Out) : (s.emit o).out = s.out ++ [o] := rfl
@[simp] theorem emit_time (s : State) (o : Out) : (s.emit o).time = s.time := rfl
@[simp] theorem emit_fresh (s : State) (o : Out) : (s.emit o).fresh = s.fresh := rfl
@[simp] theorem emit_pending (s : State) (o : Out) : (s.emit o).pending = s.pending := rfl

@[simp] theorem advance_ctl (s : State) (t : Nat) : (s.advance t).ctl = s.ctl := rfl
@[simp] theorem advance_gleaner (s : State) (t : Nat) : (s.advance t).gleaner = s.gleaner := rfl
@[simp] theorem advance_almanac (s : State) (t : Nat) : (s.advance t).almanac = s.almanac := rfl
@[simp] theorem advance_tick (s : State) (t : Nat) : (s.advance t).tick = s.tick := rfl
@[simp] theorem advance_stakes (s : State) (t : Nat) : (s.advance t).stakes = s.stakes := rfl
@[simp] theorem advance_journal (s : State) (t : Nat) : (s.advance t).journal = s.journal := rfl
@[simp] theorem advance_twin (s : State) (t : Nat) : (s.advance t).twin = s.twin := rfl
@[simp] theorem advance_eth (s : State) (t : Nat) : (s.advance t).eth = s.eth := rfl
@[simp] theorem advance_plots (s : State) (t : Nat) : (s.advance t).plots = s.plots := rfl
@[simp] theorem advance_sower (s : State) (t : Nat) : (s.advance t).sower = s.sower := rfl
@[simp] theorem advance_steward (s : State) (t : Nat) : (s.advance t).steward = s.steward := rfl
@[simp] theorem advance_units (s : State) (t : Nat) : (s.advance t).units = s.units := rfl
@[simp] theorem advance_pairs (s : State) (t : Nat) : (s.advance t).pairs = s.pairs := rfl
@[simp] theorem advance_clusters (s : State) (t : Nat) : (s.advance t).clusters = s.clusters := rfl
@[simp] theorem advance_mem (s : State) (t : Nat) : (s.advance t).mem = s.mem := rfl
@[simp] theorem advance_warp (s : State) (t : Nat) : (s.advance t).warp = s.warp := rfl
@[simp] theorem advance_thresher (s : State) (t : Nat) : (s.advance t).thresher = s.thresher := rfl
@[simp] theorem advance_cipher (s : State) (t : Nat) : (s.advance t).cipher = s.cipher := rfl
@[simp] theorem advance_furrow (s : State) (t : Nat) : (s.advance t).furrow = s.furrow := rfl
@[simp] theorem advance_weft (s : State) (t : Nat) : (s.advance t).weft = s.weft := rfl
@[simp] theorem advance_fuses (s : State) (t : Nat) : (s.advance t).fuses = s.fuses := rfl
@[simp] theorem advance_mram (s : State) (t : Nat) : (s.advance t).mram = s.mram := rfl
@[simp] theorem advance_evral (s : State) (t : Nat) : (s.advance t).evral = s.evral := rfl
@[simp] theorem advance_boot (s : State) (t : Nat) : (s.advance t).boot = s.boot := rfl
@[simp] theorem advance_power (s : State) (t : Nat) : (s.advance t).power = s.power := rfl
@[simp] theorem advance_out (s : State) (t : Nat) : (s.advance t).out = s.out := rfl
@[simp] theorem advance_time (s : State) (t : Nat) : (s.advance t).time = max s.time t := rfl
@[simp] theorem advance_fresh (s : State) (t : Nat) : (s.advance t).fresh = s.fresh := rfl
@[simp] theorem advance_pending (s : State) (t : Nat) : (s.advance t).pending = s.pending := rfl

@[simp] theorem idle_ctl (s : State) : (s.idle).ctl = s.ctl := rfl
@[simp] theorem idle_gleaner (s : State) : (s.idle).gleaner = s.gleaner := rfl
@[simp] theorem idle_almanac (s : State) : (s.idle).almanac = s.almanac := rfl
@[simp] theorem idle_tick (s : State) : (s.idle).tick = s.tick := rfl
@[simp] theorem idle_stakes (s : State) : (s.idle).stakes = s.stakes := rfl
@[simp] theorem idle_journal (s : State) : (s.idle).journal = s.journal := rfl
@[simp] theorem idle_twin (s : State) : (s.idle).twin = s.twin := rfl
@[simp] theorem idle_eth (s : State) : (s.idle).eth = s.eth := rfl
@[simp] theorem idle_plots (s : State) : (s.idle).plots = s.plots := rfl
@[simp] theorem idle_sower (s : State) : (s.idle).sower = s.sower := rfl
@[simp] theorem idle_steward (s : State) : (s.idle).steward = s.steward := rfl
@[simp] theorem idle_units (s : State) : (s.idle).units = s.units := rfl
@[simp] theorem idle_pairs (s : State) : (s.idle).pairs = s.pairs := rfl
@[simp] theorem idle_clusters (s : State) : (s.idle).clusters = s.clusters := rfl
@[simp] theorem idle_mem (s : State) : (s.idle).mem = s.mem := rfl
@[simp] theorem idle_warp (s : State) : (s.idle).warp = s.warp := rfl
@[simp] theorem idle_thresher (s : State) : (s.idle).thresher = s.thresher := rfl
@[simp] theorem idle_cipher (s : State) : (s.idle).cipher = s.cipher := rfl
@[simp] theorem idle_furrow (s : State) : (s.idle).furrow = s.furrow := rfl
@[simp] theorem idle_weft (s : State) : (s.idle).weft = s.weft := rfl
@[simp] theorem idle_fuses (s : State) : (s.idle).fuses = s.fuses := rfl
@[simp] theorem idle_mram (s : State) : (s.idle).mram = s.mram := rfl
@[simp] theorem idle_evral (s : State) : (s.idle).evral = s.evral := rfl
@[simp] theorem idle_boot (s : State) : (s.idle).boot = s.boot := rfl
@[simp] theorem idle_power (s : State) : (s.idle).power = s.power := rfl
@[simp] theorem idle_out (s : State) : (s.idle).out = s.out := rfl
@[simp] theorem idle_time (s : State) : (s.idle).time = max s.time (s.time + 1) := rfl
@[simp] theorem idle_fresh (s : State) : (s.idle).fresh = s.fresh := rfl
@[simp] theorem idle_pending (s : State) : (s.idle).pending = s.pending := rfl

@[simp] theorem drawn_ctl (s : State) : (s.drawn).ctl = s.ctl := rfl
@[simp] theorem drawn_gleaner (s : State) : (s.drawn).gleaner = s.gleaner := rfl
@[simp] theorem drawn_almanac (s : State) : (s.drawn).almanac = s.almanac := rfl
@[simp] theorem drawn_tick (s : State) : (s.drawn).tick = s.tick := rfl
@[simp] theorem drawn_stakes (s : State) : (s.drawn).stakes = s.stakes := rfl
@[simp] theorem drawn_journal (s : State) : (s.drawn).journal = s.journal := rfl
@[simp] theorem drawn_twin (s : State) : (s.drawn).twin = s.twin := rfl
@[simp] theorem drawn_eth (s : State) : (s.drawn).eth = s.eth := rfl
@[simp] theorem drawn_plots (s : State) : (s.drawn).plots = s.plots := rfl
@[simp] theorem drawn_sower (s : State) : (s.drawn).sower = s.sower := rfl
@[simp] theorem drawn_steward (s : State) : (s.drawn).steward = s.steward := rfl
@[simp] theorem drawn_units (s : State) : (s.drawn).units = s.units := rfl
@[simp] theorem drawn_pairs (s : State) : (s.drawn).pairs = s.pairs := rfl
@[simp] theorem drawn_clusters (s : State) : (s.drawn).clusters = s.clusters := rfl
@[simp] theorem drawn_mem (s : State) : (s.drawn).mem = s.mem := rfl
@[simp] theorem drawn_warp (s : State) : (s.drawn).warp = s.warp := rfl
@[simp] theorem drawn_thresher (s : State) : (s.drawn).thresher = s.thresher := rfl
@[simp] theorem drawn_cipher (s : State) : (s.drawn).cipher = s.cipher := rfl
@[simp] theorem drawn_furrow (s : State) : (s.drawn).furrow = s.furrow := rfl
@[simp] theorem drawn_weft (s : State) : (s.drawn).weft = s.weft := rfl
@[simp] theorem drawn_fuses (s : State) : (s.drawn).fuses = s.fuses := rfl
@[simp] theorem drawn_mram (s : State) : (s.drawn).mram = s.mram := rfl
@[simp] theorem drawn_evral (s : State) : (s.drawn).evral = s.evral := rfl
@[simp] theorem drawn_boot (s : State) : (s.drawn).boot = s.boot := rfl
@[simp] theorem drawn_power (s : State) : (s.drawn).power = s.power := rfl
@[simp] theorem drawn_out (s : State) : (s.drawn).out = s.out := rfl
@[simp] theorem drawn_time (s : State) : (s.drawn).time = s.time := rfl
@[simp] theorem drawn_fresh (s : State) : (s.drawn).fresh = s.fresh + 1 := rfl
@[simp] theorem drawn_pending (s : State) : (s.drawn).pending = s.pending := rfl

@[simp] theorem setReg_gleaner (s : State) (off : Nat) (v : Word) : (s.setReg off v).gleaner = s.gleaner := rfl
@[simp] theorem setReg_almanac (s : State) (off : Nat) (v : Word) : (s.setReg off v).almanac = s.almanac := rfl
@[simp] theorem setReg_tick (s : State) (off : Nat) (v : Word) : (s.setReg off v).tick = s.tick := rfl
@[simp] theorem setReg_stakes (s : State) (off : Nat) (v : Word) : (s.setReg off v).stakes = s.stakes := rfl
@[simp] theorem setReg_journal (s : State) (off : Nat) (v : Word) : (s.setReg off v).journal = s.journal := rfl
@[simp] theorem setReg_twin (s : State) (off : Nat) (v : Word) : (s.setReg off v).twin = s.twin := rfl
@[simp] theorem setReg_eth (s : State) (off : Nat) (v : Word) : (s.setReg off v).eth = s.eth := rfl
@[simp] theorem setReg_plots (s : State) (off : Nat) (v : Word) : (s.setReg off v).plots = s.plots := rfl
@[simp] theorem setReg_sower (s : State) (off : Nat) (v : Word) : (s.setReg off v).sower = s.sower := rfl
@[simp] theorem setReg_steward (s : State) (off : Nat) (v : Word) : (s.setReg off v).steward = s.steward := rfl
@[simp] theorem setReg_units (s : State) (off : Nat) (v : Word) : (s.setReg off v).units = s.units := rfl
@[simp] theorem setReg_pairs (s : State) (off : Nat) (v : Word) : (s.setReg off v).pairs = s.pairs := rfl
@[simp] theorem setReg_clusters (s : State) (off : Nat) (v : Word) : (s.setReg off v).clusters = s.clusters := rfl
@[simp] theorem setReg_mem (s : State) (off : Nat) (v : Word) : (s.setReg off v).mem = s.mem := rfl
@[simp] theorem setReg_warp (s : State) (off : Nat) (v : Word) : (s.setReg off v).warp = s.warp := rfl
@[simp] theorem setReg_thresher (s : State) (off : Nat) (v : Word) : (s.setReg off v).thresher = s.thresher := rfl
@[simp] theorem setReg_cipher (s : State) (off : Nat) (v : Word) : (s.setReg off v).cipher = s.cipher := rfl
@[simp] theorem setReg_furrow (s : State) (off : Nat) (v : Word) : (s.setReg off v).furrow = s.furrow := rfl
@[simp] theorem setReg_weft (s : State) (off : Nat) (v : Word) : (s.setReg off v).weft = s.weft := rfl
@[simp] theorem setReg_fuses (s : State) (off : Nat) (v : Word) : (s.setReg off v).fuses = s.fuses := rfl
@[simp] theorem setReg_mram (s : State) (off : Nat) (v : Word) : (s.setReg off v).mram = s.mram := rfl
@[simp] theorem setReg_evral (s : State) (off : Nat) (v : Word) : (s.setReg off v).evral = s.evral := rfl
@[simp] theorem setReg_boot (s : State) (off : Nat) (v : Word) : (s.setReg off v).boot = s.boot := rfl
@[simp] theorem setReg_power (s : State) (off : Nat) (v : Word) : (s.setReg off v).power = s.power := rfl
@[simp] theorem setReg_out (s : State) (off : Nat) (v : Word) : (s.setReg off v).out = s.out := rfl
@[simp] theorem setReg_time (s : State) (off : Nat) (v : Word) : (s.setReg off v).time = s.time := rfl
@[simp] theorem setReg_fresh (s : State) (off : Nat) (v : Word) : (s.setReg off v).fresh = s.fresh := rfl
@[simp] theorem setReg_pending (s : State) (off : Nat) (v : Word) : (s.setReg off v).pending = s.pending := rfl

@[simp] theorem setFld_gleaner (s : State) (off hi lo v : Nat) : (s.setFld off hi lo v).gleaner = s.gleaner := rfl
@[simp] theorem setFld_almanac (s : State) (off hi lo v : Nat) : (s.setFld off hi lo v).almanac = s.almanac := rfl
@[simp] theorem setFld_tick (s : State) (off hi lo v : Nat) : (s.setFld off hi lo v).tick = s.tick := rfl
@[simp] theorem setFld_stakes (s : State) (off hi lo v : Nat) : (s.setFld off hi lo v).stakes = s.stakes := rfl
@[simp] theorem setFld_journal (s : State) (off hi lo v : Nat) : (s.setFld off hi lo v).journal = s.journal := rfl
@[simp] theorem setFld_twin (s : State) (off hi lo v : Nat) : (s.setFld off hi lo v).twin = s.twin := rfl
@[simp] theorem setFld_eth (s : State) (off hi lo v : Nat) : (s.setFld off hi lo v).eth = s.eth := rfl
@[simp] theorem setFld_plots (s : State) (off hi lo v : Nat) : (s.setFld off hi lo v).plots = s.plots := rfl
@[simp] theorem setFld_sower (s : State) (off hi lo v : Nat) : (s.setFld off hi lo v).sower = s.sower := rfl
@[simp] theorem setFld_steward (s : State) (off hi lo v : Nat) : (s.setFld off hi lo v).steward = s.steward := rfl
@[simp] theorem setFld_units (s : State) (off hi lo v : Nat) : (s.setFld off hi lo v).units = s.units := rfl
@[simp] theorem setFld_pairs (s : State) (off hi lo v : Nat) : (s.setFld off hi lo v).pairs = s.pairs := rfl
@[simp] theorem setFld_clusters (s : State) (off hi lo v : Nat) : (s.setFld off hi lo v).clusters = s.clusters := rfl
@[simp] theorem setFld_mem (s : State) (off hi lo v : Nat) : (s.setFld off hi lo v).mem = s.mem := rfl
@[simp] theorem setFld_warp (s : State) (off hi lo v : Nat) : (s.setFld off hi lo v).warp = s.warp := rfl
@[simp] theorem setFld_thresher (s : State) (off hi lo v : Nat) : (s.setFld off hi lo v).thresher = s.thresher := rfl
@[simp] theorem setFld_cipher (s : State) (off hi lo v : Nat) : (s.setFld off hi lo v).cipher = s.cipher := rfl
@[simp] theorem setFld_furrow (s : State) (off hi lo v : Nat) : (s.setFld off hi lo v).furrow = s.furrow := rfl
@[simp] theorem setFld_weft (s : State) (off hi lo v : Nat) : (s.setFld off hi lo v).weft = s.weft := rfl
@[simp] theorem setFld_fuses (s : State) (off hi lo v : Nat) : (s.setFld off hi lo v).fuses = s.fuses := rfl
@[simp] theorem setFld_mram (s : State) (off hi lo v : Nat) : (s.setFld off hi lo v).mram = s.mram := rfl
@[simp] theorem setFld_evral (s : State) (off hi lo v : Nat) : (s.setFld off hi lo v).evral = s.evral := rfl
@[simp] theorem setFld_boot (s : State) (off hi lo v : Nat) : (s.setFld off hi lo v).boot = s.boot := rfl
@[simp] theorem setFld_power (s : State) (off hi lo v : Nat) : (s.setFld off hi lo v).power = s.power := rfl
@[simp] theorem setFld_out (s : State) (off hi lo v : Nat) : (s.setFld off hi lo v).out = s.out := rfl
@[simp] theorem setFld_time (s : State) (off hi lo v : Nat) : (s.setFld off hi lo v).time = s.time := rfl
@[simp] theorem setFld_fresh (s : State) (off hi lo v : Nat) : (s.setFld off hi lo v).fresh = s.fresh := rfl
@[simp] theorem setFld_pending (s : State) (off hi lo v : Nat) : (s.setFld off hi lo v).pending = s.pending := rfl

@[simp] theorem setBit_gleaner (s : State) (off b : Nat) (v : Bool) : (s.setBit off b v).gleaner = s.gleaner := rfl
@[simp] theorem setBit_almanac (s : State) (off b : Nat) (v : Bool) : (s.setBit off b v).almanac = s.almanac := rfl
@[simp] theorem setBit_tick (s : State) (off b : Nat) (v : Bool) : (s.setBit off b v).tick = s.tick := rfl
@[simp] theorem setBit_stakes (s : State) (off b : Nat) (v : Bool) : (s.setBit off b v).stakes = s.stakes := rfl
@[simp] theorem setBit_journal (s : State) (off b : Nat) (v : Bool) : (s.setBit off b v).journal = s.journal := rfl
@[simp] theorem setBit_twin (s : State) (off b : Nat) (v : Bool) : (s.setBit off b v).twin = s.twin := rfl
@[simp] theorem setBit_eth (s : State) (off b : Nat) (v : Bool) : (s.setBit off b v).eth = s.eth := rfl
@[simp] theorem setBit_plots (s : State) (off b : Nat) (v : Bool) : (s.setBit off b v).plots = s.plots := rfl
@[simp] theorem setBit_sower (s : State) (off b : Nat) (v : Bool) : (s.setBit off b v).sower = s.sower := rfl
@[simp] theorem setBit_steward (s : State) (off b : Nat) (v : Bool) : (s.setBit off b v).steward = s.steward := rfl
@[simp] theorem setBit_units (s : State) (off b : Nat) (v : Bool) : (s.setBit off b v).units = s.units := rfl
@[simp] theorem setBit_pairs (s : State) (off b : Nat) (v : Bool) : (s.setBit off b v).pairs = s.pairs := rfl
@[simp] theorem setBit_clusters (s : State) (off b : Nat) (v : Bool) : (s.setBit off b v).clusters = s.clusters := rfl
@[simp] theorem setBit_mem (s : State) (off b : Nat) (v : Bool) : (s.setBit off b v).mem = s.mem := rfl
@[simp] theorem setBit_warp (s : State) (off b : Nat) (v : Bool) : (s.setBit off b v).warp = s.warp := rfl
@[simp] theorem setBit_thresher (s : State) (off b : Nat) (v : Bool) : (s.setBit off b v).thresher = s.thresher := rfl
@[simp] theorem setBit_cipher (s : State) (off b : Nat) (v : Bool) : (s.setBit off b v).cipher = s.cipher := rfl
@[simp] theorem setBit_furrow (s : State) (off b : Nat) (v : Bool) : (s.setBit off b v).furrow = s.furrow := rfl
@[simp] theorem setBit_weft (s : State) (off b : Nat) (v : Bool) : (s.setBit off b v).weft = s.weft := rfl
@[simp] theorem setBit_fuses (s : State) (off b : Nat) (v : Bool) : (s.setBit off b v).fuses = s.fuses := rfl
@[simp] theorem setBit_mram (s : State) (off b : Nat) (v : Bool) : (s.setBit off b v).mram = s.mram := rfl
@[simp] theorem setBit_evral (s : State) (off b : Nat) (v : Bool) : (s.setBit off b v).evral = s.evral := rfl
@[simp] theorem setBit_boot (s : State) (off b : Nat) (v : Bool) : (s.setBit off b v).boot = s.boot := rfl
@[simp] theorem setBit_power (s : State) (off b : Nat) (v : Bool) : (s.setBit off b v).power = s.power := rfl
@[simp] theorem setBit_out (s : State) (off b : Nat) (v : Bool) : (s.setBit off b v).out = s.out := rfl
@[simp] theorem setBit_time (s : State) (off b : Nat) (v : Bool) : (s.setBit off b v).time = s.time := rfl
@[simp] theorem setBit_fresh (s : State) (off b : Nat) (v : Bool) : (s.setBit off b v).fresh = s.fresh := rfl
@[simp] theorem setBit_pending (s : State) (off b : Nat) (v : Bool) : (s.setBit off b v).pending = s.pending := rfl

@[simp] theorem setReg64_gleaner (s : State) (lo v : Nat) : (s.setReg64 lo v).gleaner = s.gleaner := rfl
@[simp] theorem setReg64_almanac (s : State) (lo v : Nat) : (s.setReg64 lo v).almanac = s.almanac := rfl
@[simp] theorem setReg64_tick (s : State) (lo v : Nat) : (s.setReg64 lo v).tick = s.tick := rfl
@[simp] theorem setReg64_stakes (s : State) (lo v : Nat) : (s.setReg64 lo v).stakes = s.stakes := rfl
@[simp] theorem setReg64_journal (s : State) (lo v : Nat) : (s.setReg64 lo v).journal = s.journal := rfl
@[simp] theorem setReg64_twin (s : State) (lo v : Nat) : (s.setReg64 lo v).twin = s.twin := rfl
@[simp] theorem setReg64_eth (s : State) (lo v : Nat) : (s.setReg64 lo v).eth = s.eth := rfl
@[simp] theorem setReg64_plots (s : State) (lo v : Nat) : (s.setReg64 lo v).plots = s.plots := rfl
@[simp] theorem setReg64_sower (s : State) (lo v : Nat) : (s.setReg64 lo v).sower = s.sower := rfl
@[simp] theorem setReg64_steward (s : State) (lo v : Nat) : (s.setReg64 lo v).steward = s.steward := rfl
@[simp] theorem setReg64_units (s : State) (lo v : Nat) : (s.setReg64 lo v).units = s.units := rfl
@[simp] theorem setReg64_pairs (s : State) (lo v : Nat) : (s.setReg64 lo v).pairs = s.pairs := rfl
@[simp] theorem setReg64_clusters (s : State) (lo v : Nat) : (s.setReg64 lo v).clusters = s.clusters := rfl
@[simp] theorem setReg64_mem (s : State) (lo v : Nat) : (s.setReg64 lo v).mem = s.mem := rfl
@[simp] theorem setReg64_warp (s : State) (lo v : Nat) : (s.setReg64 lo v).warp = s.warp := rfl
@[simp] theorem setReg64_thresher (s : State) (lo v : Nat) : (s.setReg64 lo v).thresher = s.thresher := rfl
@[simp] theorem setReg64_cipher (s : State) (lo v : Nat) : (s.setReg64 lo v).cipher = s.cipher := rfl
@[simp] theorem setReg64_furrow (s : State) (lo v : Nat) : (s.setReg64 lo v).furrow = s.furrow := rfl
@[simp] theorem setReg64_weft (s : State) (lo v : Nat) : (s.setReg64 lo v).weft = s.weft := rfl
@[simp] theorem setReg64_fuses (s : State) (lo v : Nat) : (s.setReg64 lo v).fuses = s.fuses := rfl
@[simp] theorem setReg64_mram (s : State) (lo v : Nat) : (s.setReg64 lo v).mram = s.mram := rfl
@[simp] theorem setReg64_evral (s : State) (lo v : Nat) : (s.setReg64 lo v).evral = s.evral := rfl
@[simp] theorem setReg64_boot (s : State) (lo v : Nat) : (s.setReg64 lo v).boot = s.boot := rfl
@[simp] theorem setReg64_power (s : State) (lo v : Nat) : (s.setReg64 lo v).power = s.power := rfl
@[simp] theorem setReg64_out (s : State) (lo v : Nat) : (s.setReg64 lo v).out = s.out := rfl
@[simp] theorem setReg64_time (s : State) (lo v : Nat) : (s.setReg64 lo v).time = s.time := rfl
@[simp] theorem setReg64_fresh (s : State) (lo v : Nat) : (s.setReg64 lo v).fresh = s.fresh := rfl
@[simp] theorem setReg64_pending (s : State) (lo v : Nat) : (s.setReg64 lo v).pending = s.pending := rfl

@[simp] theorem count_gleaner (s : State) (off n : Nat) : (s.count off n).gleaner = s.gleaner := rfl
@[simp] theorem count_almanac (s : State) (off n : Nat) : (s.count off n).almanac = s.almanac := rfl
@[simp] theorem count_tick (s : State) (off n : Nat) : (s.count off n).tick = s.tick := rfl
@[simp] theorem count_stakes (s : State) (off n : Nat) : (s.count off n).stakes = s.stakes := rfl
@[simp] theorem count_journal (s : State) (off n : Nat) : (s.count off n).journal = s.journal := rfl
@[simp] theorem count_twin (s : State) (off n : Nat) : (s.count off n).twin = s.twin := rfl
@[simp] theorem count_eth (s : State) (off n : Nat) : (s.count off n).eth = s.eth := rfl
@[simp] theorem count_plots (s : State) (off n : Nat) : (s.count off n).plots = s.plots := rfl
@[simp] theorem count_sower (s : State) (off n : Nat) : (s.count off n).sower = s.sower := rfl
@[simp] theorem count_steward (s : State) (off n : Nat) : (s.count off n).steward = s.steward := rfl
@[simp] theorem count_units (s : State) (off n : Nat) : (s.count off n).units = s.units := rfl
@[simp] theorem count_pairs (s : State) (off n : Nat) : (s.count off n).pairs = s.pairs := rfl
@[simp] theorem count_clusters (s : State) (off n : Nat) : (s.count off n).clusters = s.clusters := rfl
@[simp] theorem count_mem (s : State) (off n : Nat) : (s.count off n).mem = s.mem := rfl
@[simp] theorem count_warp (s : State) (off n : Nat) : (s.count off n).warp = s.warp := rfl
@[simp] theorem count_thresher (s : State) (off n : Nat) : (s.count off n).thresher = s.thresher := rfl
@[simp] theorem count_cipher (s : State) (off n : Nat) : (s.count off n).cipher = s.cipher := rfl
@[simp] theorem count_furrow (s : State) (off n : Nat) : (s.count off n).furrow = s.furrow := rfl
@[simp] theorem count_weft (s : State) (off n : Nat) : (s.count off n).weft = s.weft := rfl
@[simp] theorem count_fuses (s : State) (off n : Nat) : (s.count off n).fuses = s.fuses := rfl
@[simp] theorem count_mram (s : State) (off n : Nat) : (s.count off n).mram = s.mram := rfl
@[simp] theorem count_evral (s : State) (off n : Nat) : (s.count off n).evral = s.evral := rfl
@[simp] theorem count_boot (s : State) (off n : Nat) : (s.count off n).boot = s.boot := rfl
@[simp] theorem count_power (s : State) (off n : Nat) : (s.count off n).power = s.power := rfl
@[simp] theorem count_out (s : State) (off n : Nat) : (s.count off n).out = s.out := rfl
@[simp] theorem count_time (s : State) (off n : Nat) : (s.count off n).time = s.time := rfl
@[simp] theorem count_fresh (s : State) (off n : Nat) : (s.count off n).fresh = s.fresh := rfl
@[simp] theorem count_pending (s : State) (off n : Nat) : (s.count off n).pending = s.pending := rfl

@[simp] theorem countFld_gleaner (s : State) (off hi lo n : Nat) : (s.countFld off hi lo n).gleaner = s.gleaner := rfl
@[simp] theorem countFld_almanac (s : State) (off hi lo n : Nat) : (s.countFld off hi lo n).almanac = s.almanac := rfl
@[simp] theorem countFld_tick (s : State) (off hi lo n : Nat) : (s.countFld off hi lo n).tick = s.tick := rfl
@[simp] theorem countFld_stakes (s : State) (off hi lo n : Nat) : (s.countFld off hi lo n).stakes = s.stakes := rfl
@[simp] theorem countFld_journal (s : State) (off hi lo n : Nat) : (s.countFld off hi lo n).journal = s.journal := rfl
@[simp] theorem countFld_twin (s : State) (off hi lo n : Nat) : (s.countFld off hi lo n).twin = s.twin := rfl
@[simp] theorem countFld_eth (s : State) (off hi lo n : Nat) : (s.countFld off hi lo n).eth = s.eth := rfl
@[simp] theorem countFld_plots (s : State) (off hi lo n : Nat) : (s.countFld off hi lo n).plots = s.plots := rfl
@[simp] theorem countFld_sower (s : State) (off hi lo n : Nat) : (s.countFld off hi lo n).sower = s.sower := rfl
@[simp] theorem countFld_steward (s : State) (off hi lo n : Nat) : (s.countFld off hi lo n).steward = s.steward := rfl
@[simp] theorem countFld_units (s : State) (off hi lo n : Nat) : (s.countFld off hi lo n).units = s.units := rfl
@[simp] theorem countFld_pairs (s : State) (off hi lo n : Nat) : (s.countFld off hi lo n).pairs = s.pairs := rfl
@[simp] theorem countFld_clusters (s : State) (off hi lo n : Nat) : (s.countFld off hi lo n).clusters = s.clusters := rfl
@[simp] theorem countFld_mem (s : State) (off hi lo n : Nat) : (s.countFld off hi lo n).mem = s.mem := rfl
@[simp] theorem countFld_warp (s : State) (off hi lo n : Nat) : (s.countFld off hi lo n).warp = s.warp := rfl
@[simp] theorem countFld_thresher (s : State) (off hi lo n : Nat) : (s.countFld off hi lo n).thresher = s.thresher := rfl
@[simp] theorem countFld_cipher (s : State) (off hi lo n : Nat) : (s.countFld off hi lo n).cipher = s.cipher := rfl
@[simp] theorem countFld_furrow (s : State) (off hi lo n : Nat) : (s.countFld off hi lo n).furrow = s.furrow := rfl
@[simp] theorem countFld_weft (s : State) (off hi lo n : Nat) : (s.countFld off hi lo n).weft = s.weft := rfl
@[simp] theorem countFld_fuses (s : State) (off hi lo n : Nat) : (s.countFld off hi lo n).fuses = s.fuses := rfl
@[simp] theorem countFld_mram (s : State) (off hi lo n : Nat) : (s.countFld off hi lo n).mram = s.mram := rfl
@[simp] theorem countFld_evral (s : State) (off hi lo n : Nat) : (s.countFld off hi lo n).evral = s.evral := rfl
@[simp] theorem countFld_boot (s : State) (off hi lo n : Nat) : (s.countFld off hi lo n).boot = s.boot := rfl
@[simp] theorem countFld_power (s : State) (off hi lo n : Nat) : (s.countFld off hi lo n).power = s.power := rfl
@[simp] theorem countFld_out (s : State) (off hi lo n : Nat) : (s.countFld off hi lo n).out = s.out := rfl
@[simp] theorem countFld_time (s : State) (off hi lo n : Nat) : (s.countFld off hi lo n).time = s.time := rfl
@[simp] theorem countFld_fresh (s : State) (off hi lo n : Nat) : (s.countFld off hi lo n).fresh = s.fresh := rfl
@[simp] theorem countFld_pending (s : State) (off hi lo n : Nat) : (s.countFld off hi lo n).pending = s.pending := rfl

@[simp] theorem setUnit_ctl (s : State) (u : Nat) (x : CoreUnit) : (s.setUnit u x).ctl = s.ctl := rfl
@[simp] theorem setUnit_gleaner (s : State) (u : Nat) (x : CoreUnit) : (s.setUnit u x).gleaner = s.gleaner := rfl
@[simp] theorem setUnit_almanac (s : State) (u : Nat) (x : CoreUnit) : (s.setUnit u x).almanac = s.almanac := rfl
@[simp] theorem setUnit_tick (s : State) (u : Nat) (x : CoreUnit) : (s.setUnit u x).tick = s.tick := rfl
@[simp] theorem setUnit_stakes (s : State) (u : Nat) (x : CoreUnit) : (s.setUnit u x).stakes = s.stakes := rfl
@[simp] theorem setUnit_journal (s : State) (u : Nat) (x : CoreUnit) : (s.setUnit u x).journal = s.journal := rfl
@[simp] theorem setUnit_twin (s : State) (u : Nat) (x : CoreUnit) : (s.setUnit u x).twin = s.twin := rfl
@[simp] theorem setUnit_eth (s : State) (u : Nat) (x : CoreUnit) : (s.setUnit u x).eth = s.eth := rfl
@[simp] theorem setUnit_plots (s : State) (u : Nat) (x : CoreUnit) : (s.setUnit u x).plots = s.plots := rfl
@[simp] theorem setUnit_sower (s : State) (u : Nat) (x : CoreUnit) : (s.setUnit u x).sower = s.sower := rfl
@[simp] theorem setUnit_steward (s : State) (u : Nat) (x : CoreUnit) : (s.setUnit u x).steward = s.steward := rfl
@[simp] theorem setUnit_pairs (s : State) (u : Nat) (x : CoreUnit) : (s.setUnit u x).pairs = s.pairs := rfl
@[simp] theorem setUnit_clusters (s : State) (u : Nat) (x : CoreUnit) : (s.setUnit u x).clusters = s.clusters := rfl
@[simp] theorem setUnit_mem (s : State) (u : Nat) (x : CoreUnit) : (s.setUnit u x).mem = s.mem := rfl
@[simp] theorem setUnit_warp (s : State) (u : Nat) (x : CoreUnit) : (s.setUnit u x).warp = s.warp := rfl
@[simp] theorem setUnit_thresher (s : State) (u : Nat) (x : CoreUnit) : (s.setUnit u x).thresher = s.thresher := rfl
@[simp] theorem setUnit_cipher (s : State) (u : Nat) (x : CoreUnit) : (s.setUnit u x).cipher = s.cipher := rfl
@[simp] theorem setUnit_furrow (s : State) (u : Nat) (x : CoreUnit) : (s.setUnit u x).furrow = s.furrow := rfl
@[simp] theorem setUnit_weft (s : State) (u : Nat) (x : CoreUnit) : (s.setUnit u x).weft = s.weft := rfl
@[simp] theorem setUnit_fuses (s : State) (u : Nat) (x : CoreUnit) : (s.setUnit u x).fuses = s.fuses := rfl
@[simp] theorem setUnit_mram (s : State) (u : Nat) (x : CoreUnit) : (s.setUnit u x).mram = s.mram := rfl
@[simp] theorem setUnit_evral (s : State) (u : Nat) (x : CoreUnit) : (s.setUnit u x).evral = s.evral := rfl
@[simp] theorem setUnit_boot (s : State) (u : Nat) (x : CoreUnit) : (s.setUnit u x).boot = s.boot := rfl
@[simp] theorem setUnit_power (s : State) (u : Nat) (x : CoreUnit) : (s.setUnit u x).power = s.power := rfl
@[simp] theorem setUnit_out (s : State) (u : Nat) (x : CoreUnit) : (s.setUnit u x).out = s.out := rfl
@[simp] theorem setUnit_time (s : State) (u : Nat) (x : CoreUnit) : (s.setUnit u x).time = s.time := rfl
@[simp] theorem setUnit_fresh (s : State) (u : Nat) (x : CoreUnit) : (s.setUnit u x).fresh = s.fresh := rfl
@[simp] theorem setUnit_pending (s : State) (u : Nat) (x : CoreUnit) : (s.setUnit u x).pending = s.pending := rfl

@[simp] theorem mapUnit_ctl (s : State) (u : Nat) (f : CoreUnit → CoreUnit) : (s.mapUnit u f).ctl = s.ctl := rfl
@[simp] theorem mapUnit_gleaner (s : State) (u : Nat) (f : CoreUnit → CoreUnit) : (s.mapUnit u f).gleaner = s.gleaner := rfl
@[simp] theorem mapUnit_almanac (s : State) (u : Nat) (f : CoreUnit → CoreUnit) : (s.mapUnit u f).almanac = s.almanac := rfl
@[simp] theorem mapUnit_tick (s : State) (u : Nat) (f : CoreUnit → CoreUnit) : (s.mapUnit u f).tick = s.tick := rfl
@[simp] theorem mapUnit_stakes (s : State) (u : Nat) (f : CoreUnit → CoreUnit) : (s.mapUnit u f).stakes = s.stakes := rfl
@[simp] theorem mapUnit_journal (s : State) (u : Nat) (f : CoreUnit → CoreUnit) : (s.mapUnit u f).journal = s.journal := rfl
@[simp] theorem mapUnit_twin (s : State) (u : Nat) (f : CoreUnit → CoreUnit) : (s.mapUnit u f).twin = s.twin := rfl
@[simp] theorem mapUnit_eth (s : State) (u : Nat) (f : CoreUnit → CoreUnit) : (s.mapUnit u f).eth = s.eth := rfl
@[simp] theorem mapUnit_plots (s : State) (u : Nat) (f : CoreUnit → CoreUnit) : (s.mapUnit u f).plots = s.plots := rfl
@[simp] theorem mapUnit_sower (s : State) (u : Nat) (f : CoreUnit → CoreUnit) : (s.mapUnit u f).sower = s.sower := rfl
@[simp] theorem mapUnit_steward (s : State) (u : Nat) (f : CoreUnit → CoreUnit) : (s.mapUnit u f).steward = s.steward := rfl
@[simp] theorem mapUnit_pairs (s : State) (u : Nat) (f : CoreUnit → CoreUnit) : (s.mapUnit u f).pairs = s.pairs := rfl
@[simp] theorem mapUnit_clusters (s : State) (u : Nat) (f : CoreUnit → CoreUnit) : (s.mapUnit u f).clusters = s.clusters := rfl
@[simp] theorem mapUnit_mem (s : State) (u : Nat) (f : CoreUnit → CoreUnit) : (s.mapUnit u f).mem = s.mem := rfl
@[simp] theorem mapUnit_warp (s : State) (u : Nat) (f : CoreUnit → CoreUnit) : (s.mapUnit u f).warp = s.warp := rfl
@[simp] theorem mapUnit_thresher (s : State) (u : Nat) (f : CoreUnit → CoreUnit) : (s.mapUnit u f).thresher = s.thresher := rfl
@[simp] theorem mapUnit_cipher (s : State) (u : Nat) (f : CoreUnit → CoreUnit) : (s.mapUnit u f).cipher = s.cipher := rfl
@[simp] theorem mapUnit_furrow (s : State) (u : Nat) (f : CoreUnit → CoreUnit) : (s.mapUnit u f).furrow = s.furrow := rfl
@[simp] theorem mapUnit_weft (s : State) (u : Nat) (f : CoreUnit → CoreUnit) : (s.mapUnit u f).weft = s.weft := rfl
@[simp] theorem mapUnit_fuses (s : State) (u : Nat) (f : CoreUnit → CoreUnit) : (s.mapUnit u f).fuses = s.fuses := rfl
@[simp] theorem mapUnit_mram (s : State) (u : Nat) (f : CoreUnit → CoreUnit) : (s.mapUnit u f).mram = s.mram := rfl
@[simp] theorem mapUnit_evral (s : State) (u : Nat) (f : CoreUnit → CoreUnit) : (s.mapUnit u f).evral = s.evral := rfl
@[simp] theorem mapUnit_boot (s : State) (u : Nat) (f : CoreUnit → CoreUnit) : (s.mapUnit u f).boot = s.boot := rfl
@[simp] theorem mapUnit_power (s : State) (u : Nat) (f : CoreUnit → CoreUnit) : (s.mapUnit u f).power = s.power := rfl
@[simp] theorem mapUnit_out (s : State) (u : Nat) (f : CoreUnit → CoreUnit) : (s.mapUnit u f).out = s.out := rfl
@[simp] theorem mapUnit_time (s : State) (u : Nat) (f : CoreUnit → CoreUnit) : (s.mapUnit u f).time = s.time := rfl
@[simp] theorem mapUnit_fresh (s : State) (u : Nat) (f : CoreUnit → CoreUnit) : (s.mapUnit u f).fresh = s.fresh := rfl
@[simp] theorem mapUnit_pending (s : State) (u : Nat) (f : CoreUnit → CoreUnit) : (s.mapUnit u f).pending = s.pending := rfl

@[simp] theorem setPair_ctl (s : State) (p : Nat) (x : Pair) : (s.setPair p x).ctl = s.ctl := rfl
@[simp] theorem setPair_gleaner (s : State) (p : Nat) (x : Pair) : (s.setPair p x).gleaner = s.gleaner := rfl
@[simp] theorem setPair_almanac (s : State) (p : Nat) (x : Pair) : (s.setPair p x).almanac = s.almanac := rfl
@[simp] theorem setPair_tick (s : State) (p : Nat) (x : Pair) : (s.setPair p x).tick = s.tick := rfl
@[simp] theorem setPair_stakes (s : State) (p : Nat) (x : Pair) : (s.setPair p x).stakes = s.stakes := rfl
@[simp] theorem setPair_journal (s : State) (p : Nat) (x : Pair) : (s.setPair p x).journal = s.journal := rfl
@[simp] theorem setPair_twin (s : State) (p : Nat) (x : Pair) : (s.setPair p x).twin = s.twin := rfl
@[simp] theorem setPair_eth (s : State) (p : Nat) (x : Pair) : (s.setPair p x).eth = s.eth := rfl
@[simp] theorem setPair_plots (s : State) (p : Nat) (x : Pair) : (s.setPair p x).plots = s.plots := rfl
@[simp] theorem setPair_sower (s : State) (p : Nat) (x : Pair) : (s.setPair p x).sower = s.sower := rfl
@[simp] theorem setPair_steward (s : State) (p : Nat) (x : Pair) : (s.setPair p x).steward = s.steward := rfl
@[simp] theorem setPair_units (s : State) (p : Nat) (x : Pair) : (s.setPair p x).units = s.units := rfl
@[simp] theorem setPair_clusters (s : State) (p : Nat) (x : Pair) : (s.setPair p x).clusters = s.clusters := rfl
@[simp] theorem setPair_mem (s : State) (p : Nat) (x : Pair) : (s.setPair p x).mem = s.mem := rfl
@[simp] theorem setPair_warp (s : State) (p : Nat) (x : Pair) : (s.setPair p x).warp = s.warp := rfl
@[simp] theorem setPair_thresher (s : State) (p : Nat) (x : Pair) : (s.setPair p x).thresher = s.thresher := rfl
@[simp] theorem setPair_cipher (s : State) (p : Nat) (x : Pair) : (s.setPair p x).cipher = s.cipher := rfl
@[simp] theorem setPair_furrow (s : State) (p : Nat) (x : Pair) : (s.setPair p x).furrow = s.furrow := rfl
@[simp] theorem setPair_weft (s : State) (p : Nat) (x : Pair) : (s.setPair p x).weft = s.weft := rfl
@[simp] theorem setPair_fuses (s : State) (p : Nat) (x : Pair) : (s.setPair p x).fuses = s.fuses := rfl
@[simp] theorem setPair_mram (s : State) (p : Nat) (x : Pair) : (s.setPair p x).mram = s.mram := rfl
@[simp] theorem setPair_evral (s : State) (p : Nat) (x : Pair) : (s.setPair p x).evral = s.evral := rfl
@[simp] theorem setPair_boot (s : State) (p : Nat) (x : Pair) : (s.setPair p x).boot = s.boot := rfl
@[simp] theorem setPair_power (s : State) (p : Nat) (x : Pair) : (s.setPair p x).power = s.power := rfl
@[simp] theorem setPair_out (s : State) (p : Nat) (x : Pair) : (s.setPair p x).out = s.out := rfl
@[simp] theorem setPair_time (s : State) (p : Nat) (x : Pair) : (s.setPair p x).time = s.time := rfl
@[simp] theorem setPair_fresh (s : State) (p : Nat) (x : Pair) : (s.setPair p x).fresh = s.fresh := rfl
@[simp] theorem setPair_pending (s : State) (p : Nat) (x : Pair) : (s.setPair p x).pending = s.pending := rfl

@[simp] theorem mapPair_ctl (s : State) (p : Nat) (f : Pair → Pair) : (s.mapPair p f).ctl = s.ctl := rfl
@[simp] theorem mapPair_gleaner (s : State) (p : Nat) (f : Pair → Pair) : (s.mapPair p f).gleaner = s.gleaner := rfl
@[simp] theorem mapPair_almanac (s : State) (p : Nat) (f : Pair → Pair) : (s.mapPair p f).almanac = s.almanac := rfl
@[simp] theorem mapPair_tick (s : State) (p : Nat) (f : Pair → Pair) : (s.mapPair p f).tick = s.tick := rfl
@[simp] theorem mapPair_stakes (s : State) (p : Nat) (f : Pair → Pair) : (s.mapPair p f).stakes = s.stakes := rfl
@[simp] theorem mapPair_journal (s : State) (p : Nat) (f : Pair → Pair) : (s.mapPair p f).journal = s.journal := rfl
@[simp] theorem mapPair_twin (s : State) (p : Nat) (f : Pair → Pair) : (s.mapPair p f).twin = s.twin := rfl
@[simp] theorem mapPair_eth (s : State) (p : Nat) (f : Pair → Pair) : (s.mapPair p f).eth = s.eth := rfl
@[simp] theorem mapPair_plots (s : State) (p : Nat) (f : Pair → Pair) : (s.mapPair p f).plots = s.plots := rfl
@[simp] theorem mapPair_sower (s : State) (p : Nat) (f : Pair → Pair) : (s.mapPair p f).sower = s.sower := rfl
@[simp] theorem mapPair_steward (s : State) (p : Nat) (f : Pair → Pair) : (s.mapPair p f).steward = s.steward := rfl
@[simp] theorem mapPair_units (s : State) (p : Nat) (f : Pair → Pair) : (s.mapPair p f).units = s.units := rfl
@[simp] theorem mapPair_clusters (s : State) (p : Nat) (f : Pair → Pair) : (s.mapPair p f).clusters = s.clusters := rfl
@[simp] theorem mapPair_mem (s : State) (p : Nat) (f : Pair → Pair) : (s.mapPair p f).mem = s.mem := rfl
@[simp] theorem mapPair_warp (s : State) (p : Nat) (f : Pair → Pair) : (s.mapPair p f).warp = s.warp := rfl
@[simp] theorem mapPair_thresher (s : State) (p : Nat) (f : Pair → Pair) : (s.mapPair p f).thresher = s.thresher := rfl
@[simp] theorem mapPair_cipher (s : State) (p : Nat) (f : Pair → Pair) : (s.mapPair p f).cipher = s.cipher := rfl
@[simp] theorem mapPair_furrow (s : State) (p : Nat) (f : Pair → Pair) : (s.mapPair p f).furrow = s.furrow := rfl
@[simp] theorem mapPair_weft (s : State) (p : Nat) (f : Pair → Pair) : (s.mapPair p f).weft = s.weft := rfl
@[simp] theorem mapPair_fuses (s : State) (p : Nat) (f : Pair → Pair) : (s.mapPair p f).fuses = s.fuses := rfl
@[simp] theorem mapPair_mram (s : State) (p : Nat) (f : Pair → Pair) : (s.mapPair p f).mram = s.mram := rfl
@[simp] theorem mapPair_evral (s : State) (p : Nat) (f : Pair → Pair) : (s.mapPair p f).evral = s.evral := rfl
@[simp] theorem mapPair_boot (s : State) (p : Nat) (f : Pair → Pair) : (s.mapPair p f).boot = s.boot := rfl
@[simp] theorem mapPair_power (s : State) (p : Nat) (f : Pair → Pair) : (s.mapPair p f).power = s.power := rfl
@[simp] theorem mapPair_out (s : State) (p : Nat) (f : Pair → Pair) : (s.mapPair p f).out = s.out := rfl
@[simp] theorem mapPair_time (s : State) (p : Nat) (f : Pair → Pair) : (s.mapPair p f).time = s.time := rfl
@[simp] theorem mapPair_fresh (s : State) (p : Nat) (f : Pair → Pair) : (s.mapPair p f).fresh = s.fresh := rfl
@[simp] theorem mapPair_pending (s : State) (p : Nat) (f : Pair → Pair) : (s.mapPair p f).pending = s.pending := rfl

@[simp] theorem setCluster_ctl (s : State) (c : Nat) (x : Cluster) : (s.setCluster c x).ctl = s.ctl := rfl
@[simp] theorem setCluster_gleaner (s : State) (c : Nat) (x : Cluster) : (s.setCluster c x).gleaner = s.gleaner := rfl
@[simp] theorem setCluster_almanac (s : State) (c : Nat) (x : Cluster) : (s.setCluster c x).almanac = s.almanac := rfl
@[simp] theorem setCluster_tick (s : State) (c : Nat) (x : Cluster) : (s.setCluster c x).tick = s.tick := rfl
@[simp] theorem setCluster_stakes (s : State) (c : Nat) (x : Cluster) : (s.setCluster c x).stakes = s.stakes := rfl
@[simp] theorem setCluster_journal (s : State) (c : Nat) (x : Cluster) : (s.setCluster c x).journal = s.journal := rfl
@[simp] theorem setCluster_twin (s : State) (c : Nat) (x : Cluster) : (s.setCluster c x).twin = s.twin := rfl
@[simp] theorem setCluster_eth (s : State) (c : Nat) (x : Cluster) : (s.setCluster c x).eth = s.eth := rfl
@[simp] theorem setCluster_plots (s : State) (c : Nat) (x : Cluster) : (s.setCluster c x).plots = s.plots := rfl
@[simp] theorem setCluster_sower (s : State) (c : Nat) (x : Cluster) : (s.setCluster c x).sower = s.sower := rfl
@[simp] theorem setCluster_steward (s : State) (c : Nat) (x : Cluster) : (s.setCluster c x).steward = s.steward := rfl
@[simp] theorem setCluster_units (s : State) (c : Nat) (x : Cluster) : (s.setCluster c x).units = s.units := rfl
@[simp] theorem setCluster_pairs (s : State) (c : Nat) (x : Cluster) : (s.setCluster c x).pairs = s.pairs := rfl
@[simp] theorem setCluster_mem (s : State) (c : Nat) (x : Cluster) : (s.setCluster c x).mem = s.mem := rfl
@[simp] theorem setCluster_warp (s : State) (c : Nat) (x : Cluster) : (s.setCluster c x).warp = s.warp := rfl
@[simp] theorem setCluster_thresher (s : State) (c : Nat) (x : Cluster) : (s.setCluster c x).thresher = s.thresher := rfl
@[simp] theorem setCluster_cipher (s : State) (c : Nat) (x : Cluster) : (s.setCluster c x).cipher = s.cipher := rfl
@[simp] theorem setCluster_furrow (s : State) (c : Nat) (x : Cluster) : (s.setCluster c x).furrow = s.furrow := rfl
@[simp] theorem setCluster_weft (s : State) (c : Nat) (x : Cluster) : (s.setCluster c x).weft = s.weft := rfl
@[simp] theorem setCluster_fuses (s : State) (c : Nat) (x : Cluster) : (s.setCluster c x).fuses = s.fuses := rfl
@[simp] theorem setCluster_mram (s : State) (c : Nat) (x : Cluster) : (s.setCluster c x).mram = s.mram := rfl
@[simp] theorem setCluster_evral (s : State) (c : Nat) (x : Cluster) : (s.setCluster c x).evral = s.evral := rfl
@[simp] theorem setCluster_boot (s : State) (c : Nat) (x : Cluster) : (s.setCluster c x).boot = s.boot := rfl
@[simp] theorem setCluster_power (s : State) (c : Nat) (x : Cluster) : (s.setCluster c x).power = s.power := rfl
@[simp] theorem setCluster_out (s : State) (c : Nat) (x : Cluster) : (s.setCluster c x).out = s.out := rfl
@[simp] theorem setCluster_time (s : State) (c : Nat) (x : Cluster) : (s.setCluster c x).time = s.time := rfl
@[simp] theorem setCluster_fresh (s : State) (c : Nat) (x : Cluster) : (s.setCluster c x).fresh = s.fresh := rfl
@[simp] theorem setCluster_pending (s : State) (c : Nat) (x : Cluster) : (s.setCluster c x).pending = s.pending := rfl

@[simp] theorem mapCluster_ctl (s : State) (c : Nat) (f : Cluster → Cluster) : (s.mapCluster c f).ctl = s.ctl := rfl
@[simp] theorem mapCluster_gleaner (s : State) (c : Nat) (f : Cluster → Cluster) : (s.mapCluster c f).gleaner = s.gleaner := rfl
@[simp] theorem mapCluster_almanac (s : State) (c : Nat) (f : Cluster → Cluster) : (s.mapCluster c f).almanac = s.almanac := rfl
@[simp] theorem mapCluster_tick (s : State) (c : Nat) (f : Cluster → Cluster) : (s.mapCluster c f).tick = s.tick := rfl
@[simp] theorem mapCluster_stakes (s : State) (c : Nat) (f : Cluster → Cluster) : (s.mapCluster c f).stakes = s.stakes := rfl
@[simp] theorem mapCluster_journal (s : State) (c : Nat) (f : Cluster → Cluster) : (s.mapCluster c f).journal = s.journal := rfl
@[simp] theorem mapCluster_twin (s : State) (c : Nat) (f : Cluster → Cluster) : (s.mapCluster c f).twin = s.twin := rfl
@[simp] theorem mapCluster_eth (s : State) (c : Nat) (f : Cluster → Cluster) : (s.mapCluster c f).eth = s.eth := rfl
@[simp] theorem mapCluster_plots (s : State) (c : Nat) (f : Cluster → Cluster) : (s.mapCluster c f).plots = s.plots := rfl
@[simp] theorem mapCluster_sower (s : State) (c : Nat) (f : Cluster → Cluster) : (s.mapCluster c f).sower = s.sower := rfl
@[simp] theorem mapCluster_steward (s : State) (c : Nat) (f : Cluster → Cluster) : (s.mapCluster c f).steward = s.steward := rfl
@[simp] theorem mapCluster_units (s : State) (c : Nat) (f : Cluster → Cluster) : (s.mapCluster c f).units = s.units := rfl
@[simp] theorem mapCluster_pairs (s : State) (c : Nat) (f : Cluster → Cluster) : (s.mapCluster c f).pairs = s.pairs := rfl
@[simp] theorem mapCluster_mem (s : State) (c : Nat) (f : Cluster → Cluster) : (s.mapCluster c f).mem = s.mem := rfl
@[simp] theorem mapCluster_warp (s : State) (c : Nat) (f : Cluster → Cluster) : (s.mapCluster c f).warp = s.warp := rfl
@[simp] theorem mapCluster_thresher (s : State) (c : Nat) (f : Cluster → Cluster) : (s.mapCluster c f).thresher = s.thresher := rfl
@[simp] theorem mapCluster_cipher (s : State) (c : Nat) (f : Cluster → Cluster) : (s.mapCluster c f).cipher = s.cipher := rfl
@[simp] theorem mapCluster_furrow (s : State) (c : Nat) (f : Cluster → Cluster) : (s.mapCluster c f).furrow = s.furrow := rfl
@[simp] theorem mapCluster_weft (s : State) (c : Nat) (f : Cluster → Cluster) : (s.mapCluster c f).weft = s.weft := rfl
@[simp] theorem mapCluster_fuses (s : State) (c : Nat) (f : Cluster → Cluster) : (s.mapCluster c f).fuses = s.fuses := rfl
@[simp] theorem mapCluster_mram (s : State) (c : Nat) (f : Cluster → Cluster) : (s.mapCluster c f).mram = s.mram := rfl
@[simp] theorem mapCluster_evral (s : State) (c : Nat) (f : Cluster → Cluster) : (s.mapCluster c f).evral = s.evral := rfl
@[simp] theorem mapCluster_boot (s : State) (c : Nat) (f : Cluster → Cluster) : (s.mapCluster c f).boot = s.boot := rfl
@[simp] theorem mapCluster_power (s : State) (c : Nat) (f : Cluster → Cluster) : (s.mapCluster c f).power = s.power := rfl
@[simp] theorem mapCluster_out (s : State) (c : Nat) (f : Cluster → Cluster) : (s.mapCluster c f).out = s.out := rfl
@[simp] theorem mapCluster_time (s : State) (c : Nat) (f : Cluster → Cluster) : (s.mapCluster c f).time = s.time := rfl
@[simp] theorem mapCluster_fresh (s : State) (c : Nat) (f : Cluster → Cluster) : (s.mapCluster c f).fresh = s.fresh := rfl
@[simp] theorem mapCluster_pending (s : State) (c : Nat) (f : Cluster → Cluster) : (s.mapCluster c f).pending = s.pending := rfl

@[simp] theorem mapPort_ctl (s : State) (p : Nat) (f : Port → Port) : (s.mapPort p f).ctl = s.ctl := rfl
@[simp] theorem mapPort_gleaner (s : State) (p : Nat) (f : Port → Port) : (s.mapPort p f).gleaner = s.gleaner := rfl
@[simp] theorem mapPort_almanac (s : State) (p : Nat) (f : Port → Port) : (s.mapPort p f).almanac = s.almanac := rfl
@[simp] theorem mapPort_tick (s : State) (p : Nat) (f : Port → Port) : (s.mapPort p f).tick = s.tick := rfl
@[simp] theorem mapPort_stakes (s : State) (p : Nat) (f : Port → Port) : (s.mapPort p f).stakes = s.stakes := rfl
@[simp] theorem mapPort_journal (s : State) (p : Nat) (f : Port → Port) : (s.mapPort p f).journal = s.journal := rfl
@[simp] theorem mapPort_twin (s : State) (p : Nat) (f : Port → Port) : (s.mapPort p f).twin = s.twin := rfl
@[simp] theorem mapPort_plots (s : State) (p : Nat) (f : Port → Port) : (s.mapPort p f).plots = s.plots := rfl
@[simp] theorem mapPort_sower (s : State) (p : Nat) (f : Port → Port) : (s.mapPort p f).sower = s.sower := rfl
@[simp] theorem mapPort_steward (s : State) (p : Nat) (f : Port → Port) : (s.mapPort p f).steward = s.steward := rfl
@[simp] theorem mapPort_units (s : State) (p : Nat) (f : Port → Port) : (s.mapPort p f).units = s.units := rfl
@[simp] theorem mapPort_pairs (s : State) (p : Nat) (f : Port → Port) : (s.mapPort p f).pairs = s.pairs := rfl
@[simp] theorem mapPort_clusters (s : State) (p : Nat) (f : Port → Port) : (s.mapPort p f).clusters = s.clusters := rfl
@[simp] theorem mapPort_mem (s : State) (p : Nat) (f : Port → Port) : (s.mapPort p f).mem = s.mem := rfl
@[simp] theorem mapPort_warp (s : State) (p : Nat) (f : Port → Port) : (s.mapPort p f).warp = s.warp := rfl
@[simp] theorem mapPort_thresher (s : State) (p : Nat) (f : Port → Port) : (s.mapPort p f).thresher = s.thresher := rfl
@[simp] theorem mapPort_cipher (s : State) (p : Nat) (f : Port → Port) : (s.mapPort p f).cipher = s.cipher := rfl
@[simp] theorem mapPort_furrow (s : State) (p : Nat) (f : Port → Port) : (s.mapPort p f).furrow = s.furrow := rfl
@[simp] theorem mapPort_weft (s : State) (p : Nat) (f : Port → Port) : (s.mapPort p f).weft = s.weft := rfl
@[simp] theorem mapPort_fuses (s : State) (p : Nat) (f : Port → Port) : (s.mapPort p f).fuses = s.fuses := rfl
@[simp] theorem mapPort_mram (s : State) (p : Nat) (f : Port → Port) : (s.mapPort p f).mram = s.mram := rfl
@[simp] theorem mapPort_evral (s : State) (p : Nat) (f : Port → Port) : (s.mapPort p f).evral = s.evral := rfl
@[simp] theorem mapPort_boot (s : State) (p : Nat) (f : Port → Port) : (s.mapPort p f).boot = s.boot := rfl
@[simp] theorem mapPort_power (s : State) (p : Nat) (f : Port → Port) : (s.mapPort p f).power = s.power := rfl
@[simp] theorem mapPort_out (s : State) (p : Nat) (f : Port → Port) : (s.mapPort p f).out = s.out := rfl
@[simp] theorem mapPort_time (s : State) (p : Nat) (f : Port → Port) : (s.mapPort p f).time = s.time := rfl
@[simp] theorem mapPort_fresh (s : State) (p : Nat) (f : Port → Port) : (s.mapPort p f).fresh = s.fresh := rfl
@[simp] theorem mapPort_pending (s : State) (p : Nat) (f : Port → Port) : (s.mapPort p f).pending = s.pending := rfl

@[simp] theorem mapLink_ctl (s : State) (l : Nat) (f : WLink → WLink) : (s.mapLink l f).ctl = s.ctl := rfl
@[simp] theorem mapLink_gleaner (s : State) (l : Nat) (f : WLink → WLink) : (s.mapLink l f).gleaner = s.gleaner := rfl
@[simp] theorem mapLink_almanac (s : State) (l : Nat) (f : WLink → WLink) : (s.mapLink l f).almanac = s.almanac := rfl
@[simp] theorem mapLink_tick (s : State) (l : Nat) (f : WLink → WLink) : (s.mapLink l f).tick = s.tick := rfl
@[simp] theorem mapLink_stakes (s : State) (l : Nat) (f : WLink → WLink) : (s.mapLink l f).stakes = s.stakes := rfl
@[simp] theorem mapLink_journal (s : State) (l : Nat) (f : WLink → WLink) : (s.mapLink l f).journal = s.journal := rfl
@[simp] theorem mapLink_twin (s : State) (l : Nat) (f : WLink → WLink) : (s.mapLink l f).twin = s.twin := rfl
@[simp] theorem mapLink_eth (s : State) (l : Nat) (f : WLink → WLink) : (s.mapLink l f).eth = s.eth := rfl
@[simp] theorem mapLink_plots (s : State) (l : Nat) (f : WLink → WLink) : (s.mapLink l f).plots = s.plots := rfl
@[simp] theorem mapLink_sower (s : State) (l : Nat) (f : WLink → WLink) : (s.mapLink l f).sower = s.sower := rfl
@[simp] theorem mapLink_steward (s : State) (l : Nat) (f : WLink → WLink) : (s.mapLink l f).steward = s.steward := rfl
@[simp] theorem mapLink_units (s : State) (l : Nat) (f : WLink → WLink) : (s.mapLink l f).units = s.units := rfl
@[simp] theorem mapLink_pairs (s : State) (l : Nat) (f : WLink → WLink) : (s.mapLink l f).pairs = s.pairs := rfl
@[simp] theorem mapLink_clusters (s : State) (l : Nat) (f : WLink → WLink) : (s.mapLink l f).clusters = s.clusters := rfl
@[simp] theorem mapLink_mem (s : State) (l : Nat) (f : WLink → WLink) : (s.mapLink l f).mem = s.mem := rfl
@[simp] theorem mapLink_warp (s : State) (l : Nat) (f : WLink → WLink) : (s.mapLink l f).warp = s.warp := rfl
@[simp] theorem mapLink_thresher (s : State) (l : Nat) (f : WLink → WLink) : (s.mapLink l f).thresher = s.thresher := rfl
@[simp] theorem mapLink_cipher (s : State) (l : Nat) (f : WLink → WLink) : (s.mapLink l f).cipher = s.cipher := rfl
@[simp] theorem mapLink_furrow (s : State) (l : Nat) (f : WLink → WLink) : (s.mapLink l f).furrow = s.furrow := rfl
@[simp] theorem mapLink_fuses (s : State) (l : Nat) (f : WLink → WLink) : (s.mapLink l f).fuses = s.fuses := rfl
@[simp] theorem mapLink_mram (s : State) (l : Nat) (f : WLink → WLink) : (s.mapLink l f).mram = s.mram := rfl
@[simp] theorem mapLink_evral (s : State) (l : Nat) (f : WLink → WLink) : (s.mapLink l f).evral = s.evral := rfl
@[simp] theorem mapLink_boot (s : State) (l : Nat) (f : WLink → WLink) : (s.mapLink l f).boot = s.boot := rfl
@[simp] theorem mapLink_power (s : State) (l : Nat) (f : WLink → WLink) : (s.mapLink l f).power = s.power := rfl
@[simp] theorem mapLink_out (s : State) (l : Nat) (f : WLink → WLink) : (s.mapLink l f).out = s.out := rfl
@[simp] theorem mapLink_time (s : State) (l : Nat) (f : WLink → WLink) : (s.mapLink l f).time = s.time := rfl
@[simp] theorem mapLink_fresh (s : State) (l : Nat) (f : WLink → WLink) : (s.mapLink l f).fresh = s.fresh := rfl
@[simp] theorem mapLink_pending (s : State) (l : Nat) (f : WLink → WLink) : (s.mapLink l f).pending = s.pending := rfl

@[simp] theorem setPlot_ctl (s : State) (p : Nat) (x : Plot) : (s.setPlot p x).ctl = s.ctl := rfl
@[simp] theorem setPlot_gleaner (s : State) (p : Nat) (x : Plot) : (s.setPlot p x).gleaner = s.gleaner := rfl
@[simp] theorem setPlot_almanac (s : State) (p : Nat) (x : Plot) : (s.setPlot p x).almanac = s.almanac := rfl
@[simp] theorem setPlot_tick (s : State) (p : Nat) (x : Plot) : (s.setPlot p x).tick = s.tick := rfl
@[simp] theorem setPlot_stakes (s : State) (p : Nat) (x : Plot) : (s.setPlot p x).stakes = s.stakes := rfl
@[simp] theorem setPlot_journal (s : State) (p : Nat) (x : Plot) : (s.setPlot p x).journal = s.journal := rfl
@[simp] theorem setPlot_twin (s : State) (p : Nat) (x : Plot) : (s.setPlot p x).twin = s.twin := rfl
@[simp] theorem setPlot_eth (s : State) (p : Nat) (x : Plot) : (s.setPlot p x).eth = s.eth := rfl
@[simp] theorem setPlot_sower (s : State) (p : Nat) (x : Plot) : (s.setPlot p x).sower = s.sower := rfl
@[simp] theorem setPlot_steward (s : State) (p : Nat) (x : Plot) : (s.setPlot p x).steward = s.steward := rfl
@[simp] theorem setPlot_units (s : State) (p : Nat) (x : Plot) : (s.setPlot p x).units = s.units := rfl
@[simp] theorem setPlot_pairs (s : State) (p : Nat) (x : Plot) : (s.setPlot p x).pairs = s.pairs := rfl
@[simp] theorem setPlot_clusters (s : State) (p : Nat) (x : Plot) : (s.setPlot p x).clusters = s.clusters := rfl
@[simp] theorem setPlot_mem (s : State) (p : Nat) (x : Plot) : (s.setPlot p x).mem = s.mem := rfl
@[simp] theorem setPlot_warp (s : State) (p : Nat) (x : Plot) : (s.setPlot p x).warp = s.warp := rfl
@[simp] theorem setPlot_thresher (s : State) (p : Nat) (x : Plot) : (s.setPlot p x).thresher = s.thresher := rfl
@[simp] theorem setPlot_cipher (s : State) (p : Nat) (x : Plot) : (s.setPlot p x).cipher = s.cipher := rfl
@[simp] theorem setPlot_furrow (s : State) (p : Nat) (x : Plot) : (s.setPlot p x).furrow = s.furrow := rfl
@[simp] theorem setPlot_weft (s : State) (p : Nat) (x : Plot) : (s.setPlot p x).weft = s.weft := rfl
@[simp] theorem setPlot_fuses (s : State) (p : Nat) (x : Plot) : (s.setPlot p x).fuses = s.fuses := rfl
@[simp] theorem setPlot_mram (s : State) (p : Nat) (x : Plot) : (s.setPlot p x).mram = s.mram := rfl
@[simp] theorem setPlot_evral (s : State) (p : Nat) (x : Plot) : (s.setPlot p x).evral = s.evral := rfl
@[simp] theorem setPlot_boot (s : State) (p : Nat) (x : Plot) : (s.setPlot p x).boot = s.boot := rfl
@[simp] theorem setPlot_power (s : State) (p : Nat) (x : Plot) : (s.setPlot p x).power = s.power := rfl
@[simp] theorem setPlot_out (s : State) (p : Nat) (x : Plot) : (s.setPlot p x).out = s.out := rfl
@[simp] theorem setPlot_time (s : State) (p : Nat) (x : Plot) : (s.setPlot p x).time = s.time := rfl
@[simp] theorem setPlot_fresh (s : State) (p : Nat) (x : Plot) : (s.setPlot p x).fresh = s.fresh := rfl
@[simp] theorem setPlot_pending (s : State) (p : Nat) (x : Plot) : (s.setPlot p x).pending = s.pending := rfl

@[simp] theorem dropPlot_ctl (s : State) (p : Nat) : (s.dropPlot p).ctl = s.ctl := rfl
@[simp] theorem dropPlot_gleaner (s : State) (p : Nat) : (s.dropPlot p).gleaner = s.gleaner := rfl
@[simp] theorem dropPlot_almanac (s : State) (p : Nat) : (s.dropPlot p).almanac = s.almanac := rfl
@[simp] theorem dropPlot_tick (s : State) (p : Nat) : (s.dropPlot p).tick = s.tick := rfl
@[simp] theorem dropPlot_stakes (s : State) (p : Nat) : (s.dropPlot p).stakes = s.stakes := rfl
@[simp] theorem dropPlot_journal (s : State) (p : Nat) : (s.dropPlot p).journal = s.journal := rfl
@[simp] theorem dropPlot_twin (s : State) (p : Nat) : (s.dropPlot p).twin = s.twin := rfl
@[simp] theorem dropPlot_eth (s : State) (p : Nat) : (s.dropPlot p).eth = s.eth := rfl
@[simp] theorem dropPlot_sower (s : State) (p : Nat) : (s.dropPlot p).sower = s.sower := rfl
@[simp] theorem dropPlot_steward (s : State) (p : Nat) : (s.dropPlot p).steward = s.steward := rfl
@[simp] theorem dropPlot_units (s : State) (p : Nat) : (s.dropPlot p).units = s.units := rfl
@[simp] theorem dropPlot_pairs (s : State) (p : Nat) : (s.dropPlot p).pairs = s.pairs := rfl
@[simp] theorem dropPlot_clusters (s : State) (p : Nat) : (s.dropPlot p).clusters = s.clusters := rfl
@[simp] theorem dropPlot_mem (s : State) (p : Nat) : (s.dropPlot p).mem = s.mem := rfl
@[simp] theorem dropPlot_warp (s : State) (p : Nat) : (s.dropPlot p).warp = s.warp := rfl
@[simp] theorem dropPlot_thresher (s : State) (p : Nat) : (s.dropPlot p).thresher = s.thresher := rfl
@[simp] theorem dropPlot_cipher (s : State) (p : Nat) : (s.dropPlot p).cipher = s.cipher := rfl
@[simp] theorem dropPlot_furrow (s : State) (p : Nat) : (s.dropPlot p).furrow = s.furrow := rfl
@[simp] theorem dropPlot_weft (s : State) (p : Nat) : (s.dropPlot p).weft = s.weft := rfl
@[simp] theorem dropPlot_fuses (s : State) (p : Nat) : (s.dropPlot p).fuses = s.fuses := rfl
@[simp] theorem dropPlot_mram (s : State) (p : Nat) : (s.dropPlot p).mram = s.mram := rfl
@[simp] theorem dropPlot_evral (s : State) (p : Nat) : (s.dropPlot p).evral = s.evral := rfl
@[simp] theorem dropPlot_boot (s : State) (p : Nat) : (s.dropPlot p).boot = s.boot := rfl
@[simp] theorem dropPlot_power (s : State) (p : Nat) : (s.dropPlot p).power = s.power := rfl
@[simp] theorem dropPlot_out (s : State) (p : Nat) : (s.dropPlot p).out = s.out := rfl
@[simp] theorem dropPlot_time (s : State) (p : Nat) : (s.dropPlot p).time = s.time := rfl
@[simp] theorem dropPlot_fresh (s : State) (p : Nat) : (s.dropPlot p).fresh = s.fresh := rfl
@[simp] theorem dropPlot_pending (s : State) (p : Nat) : (s.dropPlot p).pending = s.pending := rfl

@[simp] theorem mapQpair_ctl (s : State) (p q : Nat) (f : QPair → QPair) : (s.mapQpair p q f).ctl = s.ctl := rfl
@[simp] theorem mapQpair_gleaner (s : State) (p q : Nat) (f : QPair → QPair) : (s.mapQpair p q f).gleaner = s.gleaner := rfl
@[simp] theorem mapQpair_almanac (s : State) (p q : Nat) (f : QPair → QPair) : (s.mapQpair p q f).almanac = s.almanac := rfl
@[simp] theorem mapQpair_tick (s : State) (p q : Nat) (f : QPair → QPair) : (s.mapQpair p q f).tick = s.tick := rfl
@[simp] theorem mapQpair_stakes (s : State) (p q : Nat) (f : QPair → QPair) : (s.mapQpair p q f).stakes = s.stakes := rfl
@[simp] theorem mapQpair_journal (s : State) (p q : Nat) (f : QPair → QPair) : (s.mapQpair p q f).journal = s.journal := rfl
@[simp] theorem mapQpair_twin (s : State) (p q : Nat) (f : QPair → QPair) : (s.mapQpair p q f).twin = s.twin := rfl
@[simp] theorem mapQpair_eth (s : State) (p q : Nat) (f : QPair → QPair) : (s.mapQpair p q f).eth = s.eth := rfl
@[simp] theorem mapQpair_sower (s : State) (p q : Nat) (f : QPair → QPair) : (s.mapQpair p q f).sower = s.sower := rfl
@[simp] theorem mapQpair_steward (s : State) (p q : Nat) (f : QPair → QPair) : (s.mapQpair p q f).steward = s.steward := rfl
@[simp] theorem mapQpair_units (s : State) (p q : Nat) (f : QPair → QPair) : (s.mapQpair p q f).units = s.units := rfl
@[simp] theorem mapQpair_pairs (s : State) (p q : Nat) (f : QPair → QPair) : (s.mapQpair p q f).pairs = s.pairs := rfl
@[simp] theorem mapQpair_clusters (s : State) (p q : Nat) (f : QPair → QPair) : (s.mapQpair p q f).clusters = s.clusters := rfl
@[simp] theorem mapQpair_mem (s : State) (p q : Nat) (f : QPair → QPair) : (s.mapQpair p q f).mem = s.mem := rfl
@[simp] theorem mapQpair_warp (s : State) (p q : Nat) (f : QPair → QPair) : (s.mapQpair p q f).warp = s.warp := rfl
@[simp] theorem mapQpair_thresher (s : State) (p q : Nat) (f : QPair → QPair) : (s.mapQpair p q f).thresher = s.thresher := rfl
@[simp] theorem mapQpair_cipher (s : State) (p q : Nat) (f : QPair → QPair) : (s.mapQpair p q f).cipher = s.cipher := rfl
@[simp] theorem mapQpair_furrow (s : State) (p q : Nat) (f : QPair → QPair) : (s.mapQpair p q f).furrow = s.furrow := rfl
@[simp] theorem mapQpair_weft (s : State) (p q : Nat) (f : QPair → QPair) : (s.mapQpair p q f).weft = s.weft := rfl
@[simp] theorem mapQpair_fuses (s : State) (p q : Nat) (f : QPair → QPair) : (s.mapQpair p q f).fuses = s.fuses := rfl
@[simp] theorem mapQpair_mram (s : State) (p q : Nat) (f : QPair → QPair) : (s.mapQpair p q f).mram = s.mram := rfl
@[simp] theorem mapQpair_evral (s : State) (p q : Nat) (f : QPair → QPair) : (s.mapQpair p q f).evral = s.evral := rfl
@[simp] theorem mapQpair_boot (s : State) (p q : Nat) (f : QPair → QPair) : (s.mapQpair p q f).boot = s.boot := rfl
@[simp] theorem mapQpair_power (s : State) (p q : Nat) (f : QPair → QPair) : (s.mapQpair p q f).power = s.power := rfl
@[simp] theorem mapQpair_out (s : State) (p q : Nat) (f : QPair → QPair) : (s.mapQpair p q f).out = s.out := rfl
@[simp] theorem mapQpair_time (s : State) (p q : Nat) (f : QPair → QPair) : (s.mapQpair p q f).time = s.time := rfl
@[simp] theorem mapQpair_fresh (s : State) (p q : Nat) (f : QPair → QPair) : (s.mapQpair p q f).fresh = s.fresh := rfl
@[simp] theorem mapQpair_pending (s : State) (p q : Nat) (f : QPair → QPair) : (s.mapQpair p q f).pending = s.pending := rfl

@[simp] theorem setByte_ctl (s : State) (a : Nat) (b : Byte) : (s.setByte a b).ctl = s.ctl := rfl
@[simp] theorem setByte_gleaner (s : State) (a : Nat) (b : Byte) : (s.setByte a b).gleaner = s.gleaner := rfl
@[simp] theorem setByte_almanac (s : State) (a : Nat) (b : Byte) : (s.setByte a b).almanac = s.almanac := rfl
@[simp] theorem setByte_tick (s : State) (a : Nat) (b : Byte) : (s.setByte a b).tick = s.tick := rfl
@[simp] theorem setByte_stakes (s : State) (a : Nat) (b : Byte) : (s.setByte a b).stakes = s.stakes := rfl
@[simp] theorem setByte_journal (s : State) (a : Nat) (b : Byte) : (s.setByte a b).journal = s.journal := rfl
@[simp] theorem setByte_twin (s : State) (a : Nat) (b : Byte) : (s.setByte a b).twin = s.twin := rfl
@[simp] theorem setByte_eth (s : State) (a : Nat) (b : Byte) : (s.setByte a b).eth = s.eth := rfl
@[simp] theorem setByte_plots (s : State) (a : Nat) (b : Byte) : (s.setByte a b).plots = s.plots := rfl
@[simp] theorem setByte_sower (s : State) (a : Nat) (b : Byte) : (s.setByte a b).sower = s.sower := rfl
@[simp] theorem setByte_steward (s : State) (a : Nat) (b : Byte) : (s.setByte a b).steward = s.steward := rfl
@[simp] theorem setByte_units (s : State) (a : Nat) (b : Byte) : (s.setByte a b).units = s.units := rfl
@[simp] theorem setByte_pairs (s : State) (a : Nat) (b : Byte) : (s.setByte a b).pairs = s.pairs := rfl
@[simp] theorem setByte_clusters (s : State) (a : Nat) (b : Byte) : (s.setByte a b).clusters = s.clusters := rfl
@[simp] theorem setByte_warp (s : State) (a : Nat) (b : Byte) : (s.setByte a b).warp = s.warp := rfl
@[simp] theorem setByte_thresher (s : State) (a : Nat) (b : Byte) : (s.setByte a b).thresher = s.thresher := rfl
@[simp] theorem setByte_cipher (s : State) (a : Nat) (b : Byte) : (s.setByte a b).cipher = s.cipher := rfl
@[simp] theorem setByte_furrow (s : State) (a : Nat) (b : Byte) : (s.setByte a b).furrow = s.furrow := rfl
@[simp] theorem setByte_weft (s : State) (a : Nat) (b : Byte) : (s.setByte a b).weft = s.weft := rfl
@[simp] theorem setByte_fuses (s : State) (a : Nat) (b : Byte) : (s.setByte a b).fuses = s.fuses := rfl
@[simp] theorem setByte_mram (s : State) (a : Nat) (b : Byte) : (s.setByte a b).mram = s.mram := rfl
@[simp] theorem setByte_evral (s : State) (a : Nat) (b : Byte) : (s.setByte a b).evral = s.evral := rfl
@[simp] theorem setByte_boot (s : State) (a : Nat) (b : Byte) : (s.setByte a b).boot = s.boot := rfl
@[simp] theorem setByte_power (s : State) (a : Nat) (b : Byte) : (s.setByte a b).power = s.power := rfl
@[simp] theorem setByte_out (s : State) (a : Nat) (b : Byte) : (s.setByte a b).out = s.out := rfl
@[simp] theorem setByte_time (s : State) (a : Nat) (b : Byte) : (s.setByte a b).time = s.time := rfl
@[simp] theorem setByte_fresh (s : State) (a : Nat) (b : Byte) : (s.setByte a b).fresh = s.fresh := rfl
@[simp] theorem setByte_pending (s : State) (a : Nat) (b : Byte) : (s.setByte a b).pending = s.pending := rfl

@[simp] theorem mapPlot_ctl (s : State) (p : Nat) (f : Plot → Plot) : (s.mapPlot p f).ctl = s.ctl := by
  unfold State.mapPlot; split <;> rfl
@[simp] theorem mapPlot_gleaner (s : State) (p : Nat) (f : Plot → Plot) : (s.mapPlot p f).gleaner = s.gleaner := by
  unfold State.mapPlot; split <;> rfl
@[simp] theorem mapPlot_almanac (s : State) (p : Nat) (f : Plot → Plot) : (s.mapPlot p f).almanac = s.almanac := by
  unfold State.mapPlot; split <;> rfl
@[simp] theorem mapPlot_tick (s : State) (p : Nat) (f : Plot → Plot) : (s.mapPlot p f).tick = s.tick := by
  unfold State.mapPlot; split <;> rfl
@[simp] theorem mapPlot_stakes (s : State) (p : Nat) (f : Plot → Plot) : (s.mapPlot p f).stakes = s.stakes := by
  unfold State.mapPlot; split <;> rfl
@[simp] theorem mapPlot_journal (s : State) (p : Nat) (f : Plot → Plot) : (s.mapPlot p f).journal = s.journal := by
  unfold State.mapPlot; split <;> rfl
@[simp] theorem mapPlot_twin (s : State) (p : Nat) (f : Plot → Plot) : (s.mapPlot p f).twin = s.twin := by
  unfold State.mapPlot; split <;> rfl
@[simp] theorem mapPlot_eth (s : State) (p : Nat) (f : Plot → Plot) : (s.mapPlot p f).eth = s.eth := by
  unfold State.mapPlot; split <;> rfl
@[simp] theorem mapPlot_sower (s : State) (p : Nat) (f : Plot → Plot) : (s.mapPlot p f).sower = s.sower := by
  unfold State.mapPlot; split <;> rfl
@[simp] theorem mapPlot_steward (s : State) (p : Nat) (f : Plot → Plot) : (s.mapPlot p f).steward = s.steward := by
  unfold State.mapPlot; split <;> rfl
@[simp] theorem mapPlot_units (s : State) (p : Nat) (f : Plot → Plot) : (s.mapPlot p f).units = s.units := by
  unfold State.mapPlot; split <;> rfl
@[simp] theorem mapPlot_pairs (s : State) (p : Nat) (f : Plot → Plot) : (s.mapPlot p f).pairs = s.pairs := by
  unfold State.mapPlot; split <;> rfl
@[simp] theorem mapPlot_clusters (s : State) (p : Nat) (f : Plot → Plot) : (s.mapPlot p f).clusters = s.clusters := by
  unfold State.mapPlot; split <;> rfl
@[simp] theorem mapPlot_mem (s : State) (p : Nat) (f : Plot → Plot) : (s.mapPlot p f).mem = s.mem := by
  unfold State.mapPlot; split <;> rfl
@[simp] theorem mapPlot_warp (s : State) (p : Nat) (f : Plot → Plot) : (s.mapPlot p f).warp = s.warp := by
  unfold State.mapPlot; split <;> rfl
@[simp] theorem mapPlot_thresher (s : State) (p : Nat) (f : Plot → Plot) : (s.mapPlot p f).thresher = s.thresher := by
  unfold State.mapPlot; split <;> rfl
@[simp] theorem mapPlot_cipher (s : State) (p : Nat) (f : Plot → Plot) : (s.mapPlot p f).cipher = s.cipher := by
  unfold State.mapPlot; split <;> rfl
@[simp] theorem mapPlot_furrow (s : State) (p : Nat) (f : Plot → Plot) : (s.mapPlot p f).furrow = s.furrow := by
  unfold State.mapPlot; split <;> rfl
@[simp] theorem mapPlot_weft (s : State) (p : Nat) (f : Plot → Plot) : (s.mapPlot p f).weft = s.weft := by
  unfold State.mapPlot; split <;> rfl
@[simp] theorem mapPlot_fuses (s : State) (p : Nat) (f : Plot → Plot) : (s.mapPlot p f).fuses = s.fuses := by
  unfold State.mapPlot; split <;> rfl
@[simp] theorem mapPlot_mram (s : State) (p : Nat) (f : Plot → Plot) : (s.mapPlot p f).mram = s.mram := by
  unfold State.mapPlot; split <;> rfl
@[simp] theorem mapPlot_evral (s : State) (p : Nat) (f : Plot → Plot) : (s.mapPlot p f).evral = s.evral := by
  unfold State.mapPlot; split <;> rfl
@[simp] theorem mapPlot_boot (s : State) (p : Nat) (f : Plot → Plot) : (s.mapPlot p f).boot = s.boot := by
  unfold State.mapPlot; split <;> rfl
@[simp] theorem mapPlot_power (s : State) (p : Nat) (f : Plot → Plot) : (s.mapPlot p f).power = s.power := by
  unfold State.mapPlot; split <;> rfl
@[simp] theorem mapPlot_out (s : State) (p : Nat) (f : Plot → Plot) : (s.mapPlot p f).out = s.out := by
  unfold State.mapPlot; split <;> rfl
@[simp] theorem mapPlot_time (s : State) (p : Nat) (f : Plot → Plot) : (s.mapPlot p f).time = s.time := by
  unfold State.mapPlot; split <;> rfl
@[simp] theorem mapPlot_fresh (s : State) (p : Nat) (f : Plot → Plot) : (s.mapPlot p f).fresh = s.fresh := by
  unfold State.mapPlot; split <;> rfl
@[simp] theorem mapPlot_pending (s : State) (p : Nat) (f : Plot → Plot) : (s.mapPlot p f).pending = s.pending := by
  unfold State.mapPlot; split <;> rfl

@[simp] theorem setBytes_ctl (s : State) (a : Nat) (l : List Byte) : (s.setBytes a l).ctl = s.ctl := by
  induction l generalizing s a with
  | nil => rfl
  | cons b l ih => simp [State.setBytes, ih]
@[simp] theorem setBytes_gleaner (s : State) (a : Nat) (l : List Byte) : (s.setBytes a l).gleaner = s.gleaner := by
  induction l generalizing s a with
  | nil => rfl
  | cons b l ih => simp [State.setBytes, ih]
@[simp] theorem setBytes_almanac (s : State) (a : Nat) (l : List Byte) : (s.setBytes a l).almanac = s.almanac := by
  induction l generalizing s a with
  | nil => rfl
  | cons b l ih => simp [State.setBytes, ih]
@[simp] theorem setBytes_tick (s : State) (a : Nat) (l : List Byte) : (s.setBytes a l).tick = s.tick := by
  induction l generalizing s a with
  | nil => rfl
  | cons b l ih => simp [State.setBytes, ih]
@[simp] theorem setBytes_stakes (s : State) (a : Nat) (l : List Byte) : (s.setBytes a l).stakes = s.stakes := by
  induction l generalizing s a with
  | nil => rfl
  | cons b l ih => simp [State.setBytes, ih]
@[simp] theorem setBytes_journal (s : State) (a : Nat) (l : List Byte) : (s.setBytes a l).journal = s.journal := by
  induction l generalizing s a with
  | nil => rfl
  | cons b l ih => simp [State.setBytes, ih]
@[simp] theorem setBytes_twin (s : State) (a : Nat) (l : List Byte) : (s.setBytes a l).twin = s.twin := by
  induction l generalizing s a with
  | nil => rfl
  | cons b l ih => simp [State.setBytes, ih]
@[simp] theorem setBytes_eth (s : State) (a : Nat) (l : List Byte) : (s.setBytes a l).eth = s.eth := by
  induction l generalizing s a with
  | nil => rfl
  | cons b l ih => simp [State.setBytes, ih]
@[simp] theorem setBytes_plots (s : State) (a : Nat) (l : List Byte) : (s.setBytes a l).plots = s.plots := by
  induction l generalizing s a with
  | nil => rfl
  | cons b l ih => simp [State.setBytes, ih]
@[simp] theorem setBytes_sower (s : State) (a : Nat) (l : List Byte) : (s.setBytes a l).sower = s.sower := by
  induction l generalizing s a with
  | nil => rfl
  | cons b l ih => simp [State.setBytes, ih]
@[simp] theorem setBytes_steward (s : State) (a : Nat) (l : List Byte) : (s.setBytes a l).steward = s.steward := by
  induction l generalizing s a with
  | nil => rfl
  | cons b l ih => simp [State.setBytes, ih]
@[simp] theorem setBytes_units (s : State) (a : Nat) (l : List Byte) : (s.setBytes a l).units = s.units := by
  induction l generalizing s a with
  | nil => rfl
  | cons b l ih => simp [State.setBytes, ih]
@[simp] theorem setBytes_pairs (s : State) (a : Nat) (l : List Byte) : (s.setBytes a l).pairs = s.pairs := by
  induction l generalizing s a with
  | nil => rfl
  | cons b l ih => simp [State.setBytes, ih]
@[simp] theorem setBytes_clusters (s : State) (a : Nat) (l : List Byte) : (s.setBytes a l).clusters = s.clusters := by
  induction l generalizing s a with
  | nil => rfl
  | cons b l ih => simp [State.setBytes, ih]
@[simp] theorem setBytes_warp (s : State) (a : Nat) (l : List Byte) : (s.setBytes a l).warp = s.warp := by
  induction l generalizing s a with
  | nil => rfl
  | cons b l ih => simp [State.setBytes, ih]
@[simp] theorem setBytes_thresher (s : State) (a : Nat) (l : List Byte) : (s.setBytes a l).thresher = s.thresher := by
  induction l generalizing s a with
  | nil => rfl
  | cons b l ih => simp [State.setBytes, ih]
@[simp] theorem setBytes_cipher (s : State) (a : Nat) (l : List Byte) : (s.setBytes a l).cipher = s.cipher := by
  induction l generalizing s a with
  | nil => rfl
  | cons b l ih => simp [State.setBytes, ih]
@[simp] theorem setBytes_furrow (s : State) (a : Nat) (l : List Byte) : (s.setBytes a l).furrow = s.furrow := by
  induction l generalizing s a with
  | nil => rfl
  | cons b l ih => simp [State.setBytes, ih]
@[simp] theorem setBytes_weft (s : State) (a : Nat) (l : List Byte) : (s.setBytes a l).weft = s.weft := by
  induction l generalizing s a with
  | nil => rfl
  | cons b l ih => simp [State.setBytes, ih]
@[simp] theorem setBytes_fuses (s : State) (a : Nat) (l : List Byte) : (s.setBytes a l).fuses = s.fuses := by
  induction l generalizing s a with
  | nil => rfl
  | cons b l ih => simp [State.setBytes, ih]
@[simp] theorem setBytes_mram (s : State) (a : Nat) (l : List Byte) : (s.setBytes a l).mram = s.mram := by
  induction l generalizing s a with
  | nil => rfl
  | cons b l ih => simp [State.setBytes, ih]
@[simp] theorem setBytes_evral (s : State) (a : Nat) (l : List Byte) : (s.setBytes a l).evral = s.evral := by
  induction l generalizing s a with
  | nil => rfl
  | cons b l ih => simp [State.setBytes, ih]
@[simp] theorem setBytes_boot (s : State) (a : Nat) (l : List Byte) : (s.setBytes a l).boot = s.boot := by
  induction l generalizing s a with
  | nil => rfl
  | cons b l ih => simp [State.setBytes, ih]
@[simp] theorem setBytes_power (s : State) (a : Nat) (l : List Byte) : (s.setBytes a l).power = s.power := by
  induction l generalizing s a with
  | nil => rfl
  | cons b l ih => simp [State.setBytes, ih]
@[simp] theorem setBytes_out (s : State) (a : Nat) (l : List Byte) : (s.setBytes a l).out = s.out := by
  induction l generalizing s a with
  | nil => rfl
  | cons b l ih => simp [State.setBytes, ih]
@[simp] theorem setBytes_time (s : State) (a : Nat) (l : List Byte) : (s.setBytes a l).time = s.time := by
  induction l generalizing s a with
  | nil => rfl
  | cons b l ih => simp [State.setBytes, ih]
@[simp] theorem setBytes_fresh (s : State) (a : Nat) (l : List Byte) : (s.setBytes a l).fresh = s.fresh := by
  induction l generalizing s a with
  | nil => rfl
  | cons b l ih => simp [State.setBytes, ih]
@[simp] theorem setBytes_pending (s : State) (a : Nat) (l : List Byte) : (s.setBytes a l).pending = s.pending := by
  induction l generalizing s a with
  | nil => rfl
  | cons b l ih => simp [State.setBytes, ih]

/-! ## Accessors through updates of other parts -/

@[simp] theorem unit_of_mapCtl (s : State) (f : Ctl → Ctl) (k : Nat) : (s.mapCtl f).unit k = s.unit k := rfl
@[simp] theorem pair_of_mapCtl (s : State) (f : Ctl → Ctl) (k : Nat) : (s.mapCtl f).pair k = s.pair k := rfl
@[simp] theorem cluster_of_mapCtl (s : State) (f : Ctl → Ctl) (k : Nat) : (s.mapCtl f).cluster k = s.cluster k := rfl
@[simp] theorem port_of_mapCtl (s : State) (f : Ctl → Ctl) (k : Nat) : (s.mapCtl f).port k = s.port k := rfl
@[simp] theorem link_of_mapCtl (s : State) (f : Ctl → Ctl) (k : Nat) : (s.mapCtl f).link k = s.link k := rfl
@[simp] theorem plot_of_mapCtl (s : State) (f : Ctl → Ctl) (k : Nat) : (s.mapCtl f).plot k = s.plot k := rfl
@[simp] theorem byte_of_mapCtl (s : State) (f : Ctl → Ctl) (k : Nat) : (s.mapCtl f).byte k = s.byte k := rfl

@[simp] theorem reg_of_mapGleaner (s : State) (f : Gleaner → Gleaner) (k : Nat) : (s.mapGleaner f).reg k = s.reg k := rfl
@[simp] theorem unit_of_mapGleaner (s : State) (f : Gleaner → Gleaner) (k : Nat) : (s.mapGleaner f).unit k = s.unit k := rfl
@[simp] theorem pair_of_mapGleaner (s : State) (f : Gleaner → Gleaner) (k : Nat) : (s.mapGleaner f).pair k = s.pair k := rfl
@[simp] theorem cluster_of_mapGleaner (s : State) (f : Gleaner → Gleaner) (k : Nat) : (s.mapGleaner f).cluster k = s.cluster k := rfl
@[simp] theorem port_of_mapGleaner (s : State) (f : Gleaner → Gleaner) (k : Nat) : (s.mapGleaner f).port k = s.port k := rfl
@[simp] theorem link_of_mapGleaner (s : State) (f : Gleaner → Gleaner) (k : Nat) : (s.mapGleaner f).link k = s.link k := rfl
@[simp] theorem plot_of_mapGleaner (s : State) (f : Gleaner → Gleaner) (k : Nat) : (s.mapGleaner f).plot k = s.plot k := rfl
@[simp] theorem byte_of_mapGleaner (s : State) (f : Gleaner → Gleaner) (k : Nat) : (s.mapGleaner f).byte k = s.byte k := rfl

@[simp] theorem reg_of_mapAlmanac (s : State) (f : Almanac → Almanac) (k : Nat) : (s.mapAlmanac f).reg k = s.reg k := rfl
@[simp] theorem unit_of_mapAlmanac (s : State) (f : Almanac → Almanac) (k : Nat) : (s.mapAlmanac f).unit k = s.unit k := rfl
@[simp] theorem pair_of_mapAlmanac (s : State) (f : Almanac → Almanac) (k : Nat) : (s.mapAlmanac f).pair k = s.pair k := rfl
@[simp] theorem cluster_of_mapAlmanac (s : State) (f : Almanac → Almanac) (k : Nat) : (s.mapAlmanac f).cluster k = s.cluster k := rfl
@[simp] theorem port_of_mapAlmanac (s : State) (f : Almanac → Almanac) (k : Nat) : (s.mapAlmanac f).port k = s.port k := rfl
@[simp] theorem link_of_mapAlmanac (s : State) (f : Almanac → Almanac) (k : Nat) : (s.mapAlmanac f).link k = s.link k := rfl
@[simp] theorem plot_of_mapAlmanac (s : State) (f : Almanac → Almanac) (k : Nat) : (s.mapAlmanac f).plot k = s.plot k := rfl
@[simp] theorem byte_of_mapAlmanac (s : State) (f : Almanac → Almanac) (k : Nat) : (s.mapAlmanac f).byte k = s.byte k := rfl

@[simp] theorem reg_of_mapTick (s : State) (f : Tick → Tick) (k : Nat) : (s.mapTick f).reg k = s.reg k := rfl
@[simp] theorem unit_of_mapTick (s : State) (f : Tick → Tick) (k : Nat) : (s.mapTick f).unit k = s.unit k := rfl
@[simp] theorem pair_of_mapTick (s : State) (f : Tick → Tick) (k : Nat) : (s.mapTick f).pair k = s.pair k := rfl
@[simp] theorem cluster_of_mapTick (s : State) (f : Tick → Tick) (k : Nat) : (s.mapTick f).cluster k = s.cluster k := rfl
@[simp] theorem port_of_mapTick (s : State) (f : Tick → Tick) (k : Nat) : (s.mapTick f).port k = s.port k := rfl
@[simp] theorem link_of_mapTick (s : State) (f : Tick → Tick) (k : Nat) : (s.mapTick f).link k = s.link k := rfl
@[simp] theorem plot_of_mapTick (s : State) (f : Tick → Tick) (k : Nat) : (s.mapTick f).plot k = s.plot k := rfl
@[simp] theorem byte_of_mapTick (s : State) (f : Tick → Tick) (k : Nat) : (s.mapTick f).byte k = s.byte k := rfl

@[simp] theorem reg_of_mapStakes (s : State) (f : Stakes → Stakes) (k : Nat) : (s.mapStakes f).reg k = s.reg k := rfl
@[simp] theorem unit_of_mapStakes (s : State) (f : Stakes → Stakes) (k : Nat) : (s.mapStakes f).unit k = s.unit k := rfl
@[simp] theorem pair_of_mapStakes (s : State) (f : Stakes → Stakes) (k : Nat) : (s.mapStakes f).pair k = s.pair k := rfl
@[simp] theorem cluster_of_mapStakes (s : State) (f : Stakes → Stakes) (k : Nat) : (s.mapStakes f).cluster k = s.cluster k := rfl
@[simp] theorem port_of_mapStakes (s : State) (f : Stakes → Stakes) (k : Nat) : (s.mapStakes f).port k = s.port k := rfl
@[simp] theorem link_of_mapStakes (s : State) (f : Stakes → Stakes) (k : Nat) : (s.mapStakes f).link k = s.link k := rfl
@[simp] theorem plot_of_mapStakes (s : State) (f : Stakes → Stakes) (k : Nat) : (s.mapStakes f).plot k = s.plot k := rfl
@[simp] theorem byte_of_mapStakes (s : State) (f : Stakes → Stakes) (k : Nat) : (s.mapStakes f).byte k = s.byte k := rfl

@[simp] theorem reg_of_mapJournal (s : State) (f : Journal → Journal) (k : Nat) : (s.mapJournal f).reg k = s.reg k := rfl
@[simp] theorem unit_of_mapJournal (s : State) (f : Journal → Journal) (k : Nat) : (s.mapJournal f).unit k = s.unit k := rfl
@[simp] theorem pair_of_mapJournal (s : State) (f : Journal → Journal) (k : Nat) : (s.mapJournal f).pair k = s.pair k := rfl
@[simp] theorem cluster_of_mapJournal (s : State) (f : Journal → Journal) (k : Nat) : (s.mapJournal f).cluster k = s.cluster k := rfl
@[simp] theorem port_of_mapJournal (s : State) (f : Journal → Journal) (k : Nat) : (s.mapJournal f).port k = s.port k := rfl
@[simp] theorem link_of_mapJournal (s : State) (f : Journal → Journal) (k : Nat) : (s.mapJournal f).link k = s.link k := rfl
@[simp] theorem plot_of_mapJournal (s : State) (f : Journal → Journal) (k : Nat) : (s.mapJournal f).plot k = s.plot k := rfl
@[simp] theorem byte_of_mapJournal (s : State) (f : Journal → Journal) (k : Nat) : (s.mapJournal f).byte k = s.byte k := rfl

@[simp] theorem reg_of_mapTwin (s : State) (f : Twin → Twin) (k : Nat) : (s.mapTwin f).reg k = s.reg k := rfl
@[simp] theorem unit_of_mapTwin (s : State) (f : Twin → Twin) (k : Nat) : (s.mapTwin f).unit k = s.unit k := rfl
@[simp] theorem pair_of_mapTwin (s : State) (f : Twin → Twin) (k : Nat) : (s.mapTwin f).pair k = s.pair k := rfl
@[simp] theorem cluster_of_mapTwin (s : State) (f : Twin → Twin) (k : Nat) : (s.mapTwin f).cluster k = s.cluster k := rfl
@[simp] theorem port_of_mapTwin (s : State) (f : Twin → Twin) (k : Nat) : (s.mapTwin f).port k = s.port k := rfl
@[simp] theorem link_of_mapTwin (s : State) (f : Twin → Twin) (k : Nat) : (s.mapTwin f).link k = s.link k := rfl
@[simp] theorem plot_of_mapTwin (s : State) (f : Twin → Twin) (k : Nat) : (s.mapTwin f).plot k = s.plot k := rfl
@[simp] theorem byte_of_mapTwin (s : State) (f : Twin → Twin) (k : Nat) : (s.mapTwin f).byte k = s.byte k := rfl

@[simp] theorem reg_of_mapEth (s : State) (f : Eth → Eth) (k : Nat) : (s.mapEth f).reg k = s.reg k := rfl
@[simp] theorem unit_of_mapEth (s : State) (f : Eth → Eth) (k : Nat) : (s.mapEth f).unit k = s.unit k := rfl
@[simp] theorem pair_of_mapEth (s : State) (f : Eth → Eth) (k : Nat) : (s.mapEth f).pair k = s.pair k := rfl
@[simp] theorem cluster_of_mapEth (s : State) (f : Eth → Eth) (k : Nat) : (s.mapEth f).cluster k = s.cluster k := rfl
@[simp] theorem link_of_mapEth (s : State) (f : Eth → Eth) (k : Nat) : (s.mapEth f).link k = s.link k := rfl
@[simp] theorem plot_of_mapEth (s : State) (f : Eth → Eth) (k : Nat) : (s.mapEth f).plot k = s.plot k := rfl
@[simp] theorem byte_of_mapEth (s : State) (f : Eth → Eth) (k : Nat) : (s.mapEth f).byte k = s.byte k := rfl

@[simp] theorem reg_of_mapPlots (s : State) (f : Plots → Plots) (k : Nat) : (s.mapPlots f).reg k = s.reg k := rfl
@[simp] theorem unit_of_mapPlots (s : State) (f : Plots → Plots) (k : Nat) : (s.mapPlots f).unit k = s.unit k := rfl
@[simp] theorem pair_of_mapPlots (s : State) (f : Plots → Plots) (k : Nat) : (s.mapPlots f).pair k = s.pair k := rfl
@[simp] theorem cluster_of_mapPlots (s : State) (f : Plots → Plots) (k : Nat) : (s.mapPlots f).cluster k = s.cluster k := rfl
@[simp] theorem port_of_mapPlots (s : State) (f : Plots → Plots) (k : Nat) : (s.mapPlots f).port k = s.port k := rfl
@[simp] theorem link_of_mapPlots (s : State) (f : Plots → Plots) (k : Nat) : (s.mapPlots f).link k = s.link k := rfl
@[simp] theorem byte_of_mapPlots (s : State) (f : Plots → Plots) (k : Nat) : (s.mapPlots f).byte k = s.byte k := rfl

@[simp] theorem reg_of_mapSower (s : State) (f : Sower → Sower) (k : Nat) : (s.mapSower f).reg k = s.reg k := rfl
@[simp] theorem unit_of_mapSower (s : State) (f : Sower → Sower) (k : Nat) : (s.mapSower f).unit k = s.unit k := rfl
@[simp] theorem pair_of_mapSower (s : State) (f : Sower → Sower) (k : Nat) : (s.mapSower f).pair k = s.pair k := rfl
@[simp] theorem cluster_of_mapSower (s : State) (f : Sower → Sower) (k : Nat) : (s.mapSower f).cluster k = s.cluster k := rfl
@[simp] theorem port_of_mapSower (s : State) (f : Sower → Sower) (k : Nat) : (s.mapSower f).port k = s.port k := rfl
@[simp] theorem link_of_mapSower (s : State) (f : Sower → Sower) (k : Nat) : (s.mapSower f).link k = s.link k := rfl
@[simp] theorem plot_of_mapSower (s : State) (f : Sower → Sower) (k : Nat) : (s.mapSower f).plot k = s.plot k := rfl
@[simp] theorem byte_of_mapSower (s : State) (f : Sower → Sower) (k : Nat) : (s.mapSower f).byte k = s.byte k := rfl

@[simp] theorem reg_of_mapSteward (s : State) (f : Steward → Steward) (k : Nat) : (s.mapSteward f).reg k = s.reg k := rfl
@[simp] theorem unit_of_mapSteward (s : State) (f : Steward → Steward) (k : Nat) : (s.mapSteward f).unit k = s.unit k := rfl
@[simp] theorem pair_of_mapSteward (s : State) (f : Steward → Steward) (k : Nat) : (s.mapSteward f).pair k = s.pair k := rfl
@[simp] theorem cluster_of_mapSteward (s : State) (f : Steward → Steward) (k : Nat) : (s.mapSteward f).cluster k = s.cluster k := rfl
@[simp] theorem port_of_mapSteward (s : State) (f : Steward → Steward) (k : Nat) : (s.mapSteward f).port k = s.port k := rfl
@[simp] theorem link_of_mapSteward (s : State) (f : Steward → Steward) (k : Nat) : (s.mapSteward f).link k = s.link k := rfl
@[simp] theorem plot_of_mapSteward (s : State) (f : Steward → Steward) (k : Nat) : (s.mapSteward f).plot k = s.plot k := rfl
@[simp] theorem byte_of_mapSteward (s : State) (f : Steward → Steward) (k : Nat) : (s.mapSteward f).byte k = s.byte k := rfl

@[simp] theorem reg_of_mapMem (s : State) (f : Mem → Mem) (k : Nat) : (s.mapMem f).reg k = s.reg k := rfl
@[simp] theorem unit_of_mapMem (s : State) (f : Mem → Mem) (k : Nat) : (s.mapMem f).unit k = s.unit k := rfl
@[simp] theorem pair_of_mapMem (s : State) (f : Mem → Mem) (k : Nat) : (s.mapMem f).pair k = s.pair k := rfl
@[simp] theorem cluster_of_mapMem (s : State) (f : Mem → Mem) (k : Nat) : (s.mapMem f).cluster k = s.cluster k := rfl
@[simp] theorem port_of_mapMem (s : State) (f : Mem → Mem) (k : Nat) : (s.mapMem f).port k = s.port k := rfl
@[simp] theorem link_of_mapMem (s : State) (f : Mem → Mem) (k : Nat) : (s.mapMem f).link k = s.link k := rfl
@[simp] theorem plot_of_mapMem (s : State) (f : Mem → Mem) (k : Nat) : (s.mapMem f).plot k = s.plot k := rfl

@[simp] theorem reg_of_mapWarp (s : State) (f : Warp → Warp) (k : Nat) : (s.mapWarp f).reg k = s.reg k := rfl
@[simp] theorem unit_of_mapWarp (s : State) (f : Warp → Warp) (k : Nat) : (s.mapWarp f).unit k = s.unit k := rfl
@[simp] theorem pair_of_mapWarp (s : State) (f : Warp → Warp) (k : Nat) : (s.mapWarp f).pair k = s.pair k := rfl
@[simp] theorem cluster_of_mapWarp (s : State) (f : Warp → Warp) (k : Nat) : (s.mapWarp f).cluster k = s.cluster k := rfl
@[simp] theorem port_of_mapWarp (s : State) (f : Warp → Warp) (k : Nat) : (s.mapWarp f).port k = s.port k := rfl
@[simp] theorem link_of_mapWarp (s : State) (f : Warp → Warp) (k : Nat) : (s.mapWarp f).link k = s.link k := rfl
@[simp] theorem plot_of_mapWarp (s : State) (f : Warp → Warp) (k : Nat) : (s.mapWarp f).plot k = s.plot k := rfl
@[simp] theorem byte_of_mapWarp (s : State) (f : Warp → Warp) (k : Nat) : (s.mapWarp f).byte k = s.byte k := rfl

@[simp] theorem reg_of_mapThresher (s : State) (f : Thresher → Thresher) (k : Nat) : (s.mapThresher f).reg k = s.reg k := rfl
@[simp] theorem unit_of_mapThresher (s : State) (f : Thresher → Thresher) (k : Nat) : (s.mapThresher f).unit k = s.unit k := rfl
@[simp] theorem pair_of_mapThresher (s : State) (f : Thresher → Thresher) (k : Nat) : (s.mapThresher f).pair k = s.pair k := rfl
@[simp] theorem cluster_of_mapThresher (s : State) (f : Thresher → Thresher) (k : Nat) : (s.mapThresher f).cluster k = s.cluster k := rfl
@[simp] theorem port_of_mapThresher (s : State) (f : Thresher → Thresher) (k : Nat) : (s.mapThresher f).port k = s.port k := rfl
@[simp] theorem link_of_mapThresher (s : State) (f : Thresher → Thresher) (k : Nat) : (s.mapThresher f).link k = s.link k := rfl
@[simp] theorem plot_of_mapThresher (s : State) (f : Thresher → Thresher) (k : Nat) : (s.mapThresher f).plot k = s.plot k := rfl
@[simp] theorem byte_of_mapThresher (s : State) (f : Thresher → Thresher) (k : Nat) : (s.mapThresher f).byte k = s.byte k := rfl

@[simp] theorem reg_of_mapCipher (s : State) (f : Cipher → Cipher) (k : Nat) : (s.mapCipher f).reg k = s.reg k := rfl
@[simp] theorem unit_of_mapCipher (s : State) (f : Cipher → Cipher) (k : Nat) : (s.mapCipher f).unit k = s.unit k := rfl
@[simp] theorem pair_of_mapCipher (s : State) (f : Cipher → Cipher) (k : Nat) : (s.mapCipher f).pair k = s.pair k := rfl
@[simp] theorem cluster_of_mapCipher (s : State) (f : Cipher → Cipher) (k : Nat) : (s.mapCipher f).cluster k = s.cluster k := rfl
@[simp] theorem port_of_mapCipher (s : State) (f : Cipher → Cipher) (k : Nat) : (s.mapCipher f).port k = s.port k := rfl
@[simp] theorem link_of_mapCipher (s : State) (f : Cipher → Cipher) (k : Nat) : (s.mapCipher f).link k = s.link k := rfl
@[simp] theorem plot_of_mapCipher (s : State) (f : Cipher → Cipher) (k : Nat) : (s.mapCipher f).plot k = s.plot k := rfl
@[simp] theorem byte_of_mapCipher (s : State) (f : Cipher → Cipher) (k : Nat) : (s.mapCipher f).byte k = s.byte k := rfl

@[simp] theorem reg_of_mapFurrow (s : State) (f : Furrow → Furrow) (k : Nat) : (s.mapFurrow f).reg k = s.reg k := rfl
@[simp] theorem unit_of_mapFurrow (s : State) (f : Furrow → Furrow) (k : Nat) : (s.mapFurrow f).unit k = s.unit k := rfl
@[simp] theorem pair_of_mapFurrow (s : State) (f : Furrow → Furrow) (k : Nat) : (s.mapFurrow f).pair k = s.pair k := rfl
@[simp] theorem cluster_of_mapFurrow (s : State) (f : Furrow → Furrow) (k : Nat) : (s.mapFurrow f).cluster k = s.cluster k := rfl
@[simp] theorem port_of_mapFurrow (s : State) (f : Furrow → Furrow) (k : Nat) : (s.mapFurrow f).port k = s.port k := rfl
@[simp] theorem link_of_mapFurrow (s : State) (f : Furrow → Furrow) (k : Nat) : (s.mapFurrow f).link k = s.link k := rfl
@[simp] theorem plot_of_mapFurrow (s : State) (f : Furrow → Furrow) (k : Nat) : (s.mapFurrow f).plot k = s.plot k := rfl
@[simp] theorem byte_of_mapFurrow (s : State) (f : Furrow → Furrow) (k : Nat) : (s.mapFurrow f).byte k = s.byte k := rfl

@[simp] theorem reg_of_mapWeft (s : State) (f : Weft → Weft) (k : Nat) : (s.mapWeft f).reg k = s.reg k := rfl
@[simp] theorem unit_of_mapWeft (s : State) (f : Weft → Weft) (k : Nat) : (s.mapWeft f).unit k = s.unit k := rfl
@[simp] theorem pair_of_mapWeft (s : State) (f : Weft → Weft) (k : Nat) : (s.mapWeft f).pair k = s.pair k := rfl
@[simp] theorem cluster_of_mapWeft (s : State) (f : Weft → Weft) (k : Nat) : (s.mapWeft f).cluster k = s.cluster k := rfl
@[simp] theorem port_of_mapWeft (s : State) (f : Weft → Weft) (k : Nat) : (s.mapWeft f).port k = s.port k := rfl
@[simp] theorem plot_of_mapWeft (s : State) (f : Weft → Weft) (k : Nat) : (s.mapWeft f).plot k = s.plot k := rfl
@[simp] theorem byte_of_mapWeft (s : State) (f : Weft → Weft) (k : Nat) : (s.mapWeft f).byte k = s.byte k := rfl

@[simp] theorem reg_of_mapFuses (s : State) (f : Fuses → Fuses) (k : Nat) : (s.mapFuses f).reg k = s.reg k := rfl
@[simp] theorem unit_of_mapFuses (s : State) (f : Fuses → Fuses) (k : Nat) : (s.mapFuses f).unit k = s.unit k := rfl
@[simp] theorem pair_of_mapFuses (s : State) (f : Fuses → Fuses) (k : Nat) : (s.mapFuses f).pair k = s.pair k := rfl
@[simp] theorem cluster_of_mapFuses (s : State) (f : Fuses → Fuses) (k : Nat) : (s.mapFuses f).cluster k = s.cluster k := rfl
@[simp] theorem port_of_mapFuses (s : State) (f : Fuses → Fuses) (k : Nat) : (s.mapFuses f).port k = s.port k := rfl
@[simp] theorem link_of_mapFuses (s : State) (f : Fuses → Fuses) (k : Nat) : (s.mapFuses f).link k = s.link k := rfl
@[simp] theorem plot_of_mapFuses (s : State) (f : Fuses → Fuses) (k : Nat) : (s.mapFuses f).plot k = s.plot k := rfl
@[simp] theorem byte_of_mapFuses (s : State) (f : Fuses → Fuses) (k : Nat) : (s.mapFuses f).byte k = s.byte k := rfl

@[simp] theorem reg_of_mapMram (s : State) (f : Mram → Mram) (k : Nat) : (s.mapMram f).reg k = s.reg k := rfl
@[simp] theorem unit_of_mapMram (s : State) (f : Mram → Mram) (k : Nat) : (s.mapMram f).unit k = s.unit k := rfl
@[simp] theorem pair_of_mapMram (s : State) (f : Mram → Mram) (k : Nat) : (s.mapMram f).pair k = s.pair k := rfl
@[simp] theorem cluster_of_mapMram (s : State) (f : Mram → Mram) (k : Nat) : (s.mapMram f).cluster k = s.cluster k := rfl
@[simp] theorem port_of_mapMram (s : State) (f : Mram → Mram) (k : Nat) : (s.mapMram f).port k = s.port k := rfl
@[simp] theorem link_of_mapMram (s : State) (f : Mram → Mram) (k : Nat) : (s.mapMram f).link k = s.link k := rfl
@[simp] theorem plot_of_mapMram (s : State) (f : Mram → Mram) (k : Nat) : (s.mapMram f).plot k = s.plot k := rfl
@[simp] theorem byte_of_mapMram (s : State) (f : Mram → Mram) (k : Nat) : (s.mapMram f).byte k = s.byte k := rfl

@[simp] theorem reg_of_mapEvral (s : State) (f : Evral → Evral) (k : Nat) : (s.mapEvral f).reg k = s.reg k := rfl
@[simp] theorem unit_of_mapEvral (s : State) (f : Evral → Evral) (k : Nat) : (s.mapEvral f).unit k = s.unit k := rfl
@[simp] theorem pair_of_mapEvral (s : State) (f : Evral → Evral) (k : Nat) : (s.mapEvral f).pair k = s.pair k := rfl
@[simp] theorem cluster_of_mapEvral (s : State) (f : Evral → Evral) (k : Nat) : (s.mapEvral f).cluster k = s.cluster k := rfl
@[simp] theorem port_of_mapEvral (s : State) (f : Evral → Evral) (k : Nat) : (s.mapEvral f).port k = s.port k := rfl
@[simp] theorem link_of_mapEvral (s : State) (f : Evral → Evral) (k : Nat) : (s.mapEvral f).link k = s.link k := rfl
@[simp] theorem plot_of_mapEvral (s : State) (f : Evral → Evral) (k : Nat) : (s.mapEvral f).plot k = s.plot k := rfl
@[simp] theorem byte_of_mapEvral (s : State) (f : Evral → Evral) (k : Nat) : (s.mapEvral f).byte k = s.byte k := rfl

@[simp] theorem reg_of_mapBoot (s : State) (f : Boot → Boot) (k : Nat) : (s.mapBoot f).reg k = s.reg k := rfl
@[simp] theorem unit_of_mapBoot (s : State) (f : Boot → Boot) (k : Nat) : (s.mapBoot f).unit k = s.unit k := rfl
@[simp] theorem pair_of_mapBoot (s : State) (f : Boot → Boot) (k : Nat) : (s.mapBoot f).pair k = s.pair k := rfl
@[simp] theorem cluster_of_mapBoot (s : State) (f : Boot → Boot) (k : Nat) : (s.mapBoot f).cluster k = s.cluster k := rfl
@[simp] theorem port_of_mapBoot (s : State) (f : Boot → Boot) (k : Nat) : (s.mapBoot f).port k = s.port k := rfl
@[simp] theorem link_of_mapBoot (s : State) (f : Boot → Boot) (k : Nat) : (s.mapBoot f).link k = s.link k := rfl
@[simp] theorem plot_of_mapBoot (s : State) (f : Boot → Boot) (k : Nat) : (s.mapBoot f).plot k = s.plot k := rfl
@[simp] theorem byte_of_mapBoot (s : State) (f : Boot → Boot) (k : Nat) : (s.mapBoot f).byte k = s.byte k := rfl

@[simp] theorem reg_of_mapPower (s : State) (f : Power → Power) (k : Nat) : (s.mapPower f).reg k = s.reg k := rfl
@[simp] theorem unit_of_mapPower (s : State) (f : Power → Power) (k : Nat) : (s.mapPower f).unit k = s.unit k := rfl
@[simp] theorem pair_of_mapPower (s : State) (f : Power → Power) (k : Nat) : (s.mapPower f).pair k = s.pair k := rfl
@[simp] theorem cluster_of_mapPower (s : State) (f : Power → Power) (k : Nat) : (s.mapPower f).cluster k = s.cluster k := rfl
@[simp] theorem port_of_mapPower (s : State) (f : Power → Power) (k : Nat) : (s.mapPower f).port k = s.port k := rfl
@[simp] theorem link_of_mapPower (s : State) (f : Power → Power) (k : Nat) : (s.mapPower f).link k = s.link k := rfl
@[simp] theorem plot_of_mapPower (s : State) (f : Power → Power) (k : Nat) : (s.mapPower f).plot k = s.plot k := rfl
@[simp] theorem byte_of_mapPower (s : State) (f : Power → Power) (k : Nat) : (s.mapPower f).byte k = s.byte k := rfl

@[simp] theorem reg_of_emit (s : State) (o : Out) (k : Nat) : (s.emit o).reg k = s.reg k := rfl
@[simp] theorem unit_of_emit (s : State) (o : Out) (k : Nat) : (s.emit o).unit k = s.unit k := rfl
@[simp] theorem pair_of_emit (s : State) (o : Out) (k : Nat) : (s.emit o).pair k = s.pair k := rfl
@[simp] theorem cluster_of_emit (s : State) (o : Out) (k : Nat) : (s.emit o).cluster k = s.cluster k := rfl
@[simp] theorem port_of_emit (s : State) (o : Out) (k : Nat) : (s.emit o).port k = s.port k := rfl
@[simp] theorem link_of_emit (s : State) (o : Out) (k : Nat) : (s.emit o).link k = s.link k := rfl
@[simp] theorem plot_of_emit (s : State) (o : Out) (k : Nat) : (s.emit o).plot k = s.plot k := rfl
@[simp] theorem byte_of_emit (s : State) (o : Out) (k : Nat) : (s.emit o).byte k = s.byte k := rfl

@[simp] theorem reg_of_advance (s : State) (t : Nat) (k : Nat) : (s.advance t).reg k = s.reg k := rfl
@[simp] theorem unit_of_advance (s : State) (t : Nat) (k : Nat) : (s.advance t).unit k = s.unit k := rfl
@[simp] theorem pair_of_advance (s : State) (t : Nat) (k : Nat) : (s.advance t).pair k = s.pair k := rfl
@[simp] theorem cluster_of_advance (s : State) (t : Nat) (k : Nat) : (s.advance t).cluster k = s.cluster k := rfl
@[simp] theorem port_of_advance (s : State) (t : Nat) (k : Nat) : (s.advance t).port k = s.port k := rfl
@[simp] theorem link_of_advance (s : State) (t : Nat) (k : Nat) : (s.advance t).link k = s.link k := rfl
@[simp] theorem plot_of_advance (s : State) (t : Nat) (k : Nat) : (s.advance t).plot k = s.plot k := rfl
@[simp] theorem byte_of_advance (s : State) (t : Nat) (k : Nat) : (s.advance t).byte k = s.byte k := rfl

@[simp] theorem reg_of_idle (s : State) (k : Nat) : (s.idle).reg k = s.reg k := rfl
@[simp] theorem unit_of_idle (s : State) (k : Nat) : (s.idle).unit k = s.unit k := rfl
@[simp] theorem pair_of_idle (s : State) (k : Nat) : (s.idle).pair k = s.pair k := rfl
@[simp] theorem cluster_of_idle (s : State) (k : Nat) : (s.idle).cluster k = s.cluster k := rfl
@[simp] theorem port_of_idle (s : State) (k : Nat) : (s.idle).port k = s.port k := rfl
@[simp] theorem link_of_idle (s : State) (k : Nat) : (s.idle).link k = s.link k := rfl
@[simp] theorem plot_of_idle (s : State) (k : Nat) : (s.idle).plot k = s.plot k := rfl
@[simp] theorem byte_of_idle (s : State) (k : Nat) : (s.idle).byte k = s.byte k := rfl

@[simp] theorem reg_of_drawn (s : State) (k : Nat) : (s.drawn).reg k = s.reg k := rfl
@[simp] theorem unit_of_drawn (s : State) (k : Nat) : (s.drawn).unit k = s.unit k := rfl
@[simp] theorem pair_of_drawn (s : State) (k : Nat) : (s.drawn).pair k = s.pair k := rfl
@[simp] theorem cluster_of_drawn (s : State) (k : Nat) : (s.drawn).cluster k = s.cluster k := rfl
@[simp] theorem port_of_drawn (s : State) (k : Nat) : (s.drawn).port k = s.port k := rfl
@[simp] theorem link_of_drawn (s : State) (k : Nat) : (s.drawn).link k = s.link k := rfl
@[simp] theorem plot_of_drawn (s : State) (k : Nat) : (s.drawn).plot k = s.plot k := rfl
@[simp] theorem byte_of_drawn (s : State) (k : Nat) : (s.drawn).byte k = s.byte k := rfl

@[simp] theorem unit_of_setReg (s : State) (off : Nat) (v : Word) (k : Nat) : (s.setReg off v).unit k = s.unit k := rfl
@[simp] theorem pair_of_setReg (s : State) (off : Nat) (v : Word) (k : Nat) : (s.setReg off v).pair k = s.pair k := rfl
@[simp] theorem cluster_of_setReg (s : State) (off : Nat) (v : Word) (k : Nat) : (s.setReg off v).cluster k = s.cluster k := rfl
@[simp] theorem port_of_setReg (s : State) (off : Nat) (v : Word) (k : Nat) : (s.setReg off v).port k = s.port k := rfl
@[simp] theorem link_of_setReg (s : State) (off : Nat) (v : Word) (k : Nat) : (s.setReg off v).link k = s.link k := rfl
@[simp] theorem plot_of_setReg (s : State) (off : Nat) (v : Word) (k : Nat) : (s.setReg off v).plot k = s.plot k := rfl
@[simp] theorem byte_of_setReg (s : State) (off : Nat) (v : Word) (k : Nat) : (s.setReg off v).byte k = s.byte k := rfl

@[simp] theorem unit_of_setFld (s : State) (off hi lo v : Nat) (k : Nat) : (s.setFld off hi lo v).unit k = s.unit k := rfl
@[simp] theorem pair_of_setFld (s : State) (off hi lo v : Nat) (k : Nat) : (s.setFld off hi lo v).pair k = s.pair k := rfl
@[simp] theorem cluster_of_setFld (s : State) (off hi lo v : Nat) (k : Nat) : (s.setFld off hi lo v).cluster k = s.cluster k := rfl
@[simp] theorem port_of_setFld (s : State) (off hi lo v : Nat) (k : Nat) : (s.setFld off hi lo v).port k = s.port k := rfl
@[simp] theorem link_of_setFld (s : State) (off hi lo v : Nat) (k : Nat) : (s.setFld off hi lo v).link k = s.link k := rfl
@[simp] theorem plot_of_setFld (s : State) (off hi lo v : Nat) (k : Nat) : (s.setFld off hi lo v).plot k = s.plot k := rfl
@[simp] theorem byte_of_setFld (s : State) (off hi lo v : Nat) (k : Nat) : (s.setFld off hi lo v).byte k = s.byte k := rfl

@[simp] theorem unit_of_setBit (s : State) (off b : Nat) (v : Bool) (k : Nat) : (s.setBit off b v).unit k = s.unit k := rfl
@[simp] theorem pair_of_setBit (s : State) (off b : Nat) (v : Bool) (k : Nat) : (s.setBit off b v).pair k = s.pair k := rfl
@[simp] theorem cluster_of_setBit (s : State) (off b : Nat) (v : Bool) (k : Nat) : (s.setBit off b v).cluster k = s.cluster k := rfl
@[simp] theorem port_of_setBit (s : State) (off b : Nat) (v : Bool) (k : Nat) : (s.setBit off b v).port k = s.port k := rfl
@[simp] theorem link_of_setBit (s : State) (off b : Nat) (v : Bool) (k : Nat) : (s.setBit off b v).link k = s.link k := rfl
@[simp] theorem plot_of_setBit (s : State) (off b : Nat) (v : Bool) (k : Nat) : (s.setBit off b v).plot k = s.plot k := rfl
@[simp] theorem byte_of_setBit (s : State) (off b : Nat) (v : Bool) (k : Nat) : (s.setBit off b v).byte k = s.byte k := rfl

@[simp] theorem unit_of_setReg64 (s : State) (lo v : Nat) (k : Nat) : (s.setReg64 lo v).unit k = s.unit k := rfl
@[simp] theorem pair_of_setReg64 (s : State) (lo v : Nat) (k : Nat) : (s.setReg64 lo v).pair k = s.pair k := rfl
@[simp] theorem cluster_of_setReg64 (s : State) (lo v : Nat) (k : Nat) : (s.setReg64 lo v).cluster k = s.cluster k := rfl
@[simp] theorem port_of_setReg64 (s : State) (lo v : Nat) (k : Nat) : (s.setReg64 lo v).port k = s.port k := rfl
@[simp] theorem link_of_setReg64 (s : State) (lo v : Nat) (k : Nat) : (s.setReg64 lo v).link k = s.link k := rfl
@[simp] theorem plot_of_setReg64 (s : State) (lo v : Nat) (k : Nat) : (s.setReg64 lo v).plot k = s.plot k := rfl
@[simp] theorem byte_of_setReg64 (s : State) (lo v : Nat) (k : Nat) : (s.setReg64 lo v).byte k = s.byte k := rfl

@[simp] theorem unit_of_count (s : State) (off n : Nat) (k : Nat) : (s.count off n).unit k = s.unit k := rfl
@[simp] theorem pair_of_count (s : State) (off n : Nat) (k : Nat) : (s.count off n).pair k = s.pair k := rfl
@[simp] theorem cluster_of_count (s : State) (off n : Nat) (k : Nat) : (s.count off n).cluster k = s.cluster k := rfl
@[simp] theorem port_of_count (s : State) (off n : Nat) (k : Nat) : (s.count off n).port k = s.port k := rfl
@[simp] theorem link_of_count (s : State) (off n : Nat) (k : Nat) : (s.count off n).link k = s.link k := rfl
@[simp] theorem plot_of_count (s : State) (off n : Nat) (k : Nat) : (s.count off n).plot k = s.plot k := rfl
@[simp] theorem byte_of_count (s : State) (off n : Nat) (k : Nat) : (s.count off n).byte k = s.byte k := rfl

@[simp] theorem unit_of_countFld (s : State) (off hi lo n : Nat) (k : Nat) : (s.countFld off hi lo n).unit k = s.unit k := rfl
@[simp] theorem pair_of_countFld (s : State) (off hi lo n : Nat) (k : Nat) : (s.countFld off hi lo n).pair k = s.pair k := rfl
@[simp] theorem cluster_of_countFld (s : State) (off hi lo n : Nat) (k : Nat) : (s.countFld off hi lo n).cluster k = s.cluster k := rfl
@[simp] theorem port_of_countFld (s : State) (off hi lo n : Nat) (k : Nat) : (s.countFld off hi lo n).port k = s.port k := rfl
@[simp] theorem link_of_countFld (s : State) (off hi lo n : Nat) (k : Nat) : (s.countFld off hi lo n).link k = s.link k := rfl
@[simp] theorem plot_of_countFld (s : State) (off hi lo n : Nat) (k : Nat) : (s.countFld off hi lo n).plot k = s.plot k := rfl
@[simp] theorem byte_of_countFld (s : State) (off hi lo n : Nat) (k : Nat) : (s.countFld off hi lo n).byte k = s.byte k := rfl

@[simp] theorem reg_of_setUnit (s : State) (u : Nat) (x : CoreUnit) (k : Nat) : (s.setUnit u x).reg k = s.reg k := rfl
@[simp] theorem pair_of_setUnit (s : State) (u : Nat) (x : CoreUnit) (k : Nat) : (s.setUnit u x).pair k = s.pair k := rfl
@[simp] theorem cluster_of_setUnit (s : State) (u : Nat) (x : CoreUnit) (k : Nat) : (s.setUnit u x).cluster k = s.cluster k := rfl
@[simp] theorem port_of_setUnit (s : State) (u : Nat) (x : CoreUnit) (k : Nat) : (s.setUnit u x).port k = s.port k := rfl
@[simp] theorem link_of_setUnit (s : State) (u : Nat) (x : CoreUnit) (k : Nat) : (s.setUnit u x).link k = s.link k := rfl
@[simp] theorem plot_of_setUnit (s : State) (u : Nat) (x : CoreUnit) (k : Nat) : (s.setUnit u x).plot k = s.plot k := rfl
@[simp] theorem byte_of_setUnit (s : State) (u : Nat) (x : CoreUnit) (k : Nat) : (s.setUnit u x).byte k = s.byte k := rfl

@[simp] theorem reg_of_mapUnit (s : State) (u : Nat) (f : CoreUnit → CoreUnit) (k : Nat) : (s.mapUnit u f).reg k = s.reg k := rfl
@[simp] theorem pair_of_mapUnit (s : State) (u : Nat) (f : CoreUnit → CoreUnit) (k : Nat) : (s.mapUnit u f).pair k = s.pair k := rfl
@[simp] theorem cluster_of_mapUnit (s : State) (u : Nat) (f : CoreUnit → CoreUnit) (k : Nat) : (s.mapUnit u f).cluster k = s.cluster k := rfl
@[simp] theorem port_of_mapUnit (s : State) (u : Nat) (f : CoreUnit → CoreUnit) (k : Nat) : (s.mapUnit u f).port k = s.port k := rfl
@[simp] theorem link_of_mapUnit (s : State) (u : Nat) (f : CoreUnit → CoreUnit) (k : Nat) : (s.mapUnit u f).link k = s.link k := rfl
@[simp] theorem plot_of_mapUnit (s : State) (u : Nat) (f : CoreUnit → CoreUnit) (k : Nat) : (s.mapUnit u f).plot k = s.plot k := rfl
@[simp] theorem byte_of_mapUnit (s : State) (u : Nat) (f : CoreUnit → CoreUnit) (k : Nat) : (s.mapUnit u f).byte k = s.byte k := rfl

@[simp] theorem reg_of_setPair (s : State) (p : Nat) (x : Pair) (k : Nat) : (s.setPair p x).reg k = s.reg k := rfl
@[simp] theorem unit_of_setPair (s : State) (p : Nat) (x : Pair) (k : Nat) : (s.setPair p x).unit k = s.unit k := rfl
@[simp] theorem cluster_of_setPair (s : State) (p : Nat) (x : Pair) (k : Nat) : (s.setPair p x).cluster k = s.cluster k := rfl
@[simp] theorem port_of_setPair (s : State) (p : Nat) (x : Pair) (k : Nat) : (s.setPair p x).port k = s.port k := rfl
@[simp] theorem link_of_setPair (s : State) (p : Nat) (x : Pair) (k : Nat) : (s.setPair p x).link k = s.link k := rfl
@[simp] theorem plot_of_setPair (s : State) (p : Nat) (x : Pair) (k : Nat) : (s.setPair p x).plot k = s.plot k := rfl
@[simp] theorem byte_of_setPair (s : State) (p : Nat) (x : Pair) (k : Nat) : (s.setPair p x).byte k = s.byte k := rfl

@[simp] theorem reg_of_mapPair (s : State) (p : Nat) (f : Pair → Pair) (k : Nat) : (s.mapPair p f).reg k = s.reg k := rfl
@[simp] theorem unit_of_mapPair (s : State) (p : Nat) (f : Pair → Pair) (k : Nat) : (s.mapPair p f).unit k = s.unit k := rfl
@[simp] theorem cluster_of_mapPair (s : State) (p : Nat) (f : Pair → Pair) (k : Nat) : (s.mapPair p f).cluster k = s.cluster k := rfl
@[simp] theorem port_of_mapPair (s : State) (p : Nat) (f : Pair → Pair) (k : Nat) : (s.mapPair p f).port k = s.port k := rfl
@[simp] theorem link_of_mapPair (s : State) (p : Nat) (f : Pair → Pair) (k : Nat) : (s.mapPair p f).link k = s.link k := rfl
@[simp] theorem plot_of_mapPair (s : State) (p : Nat) (f : Pair → Pair) (k : Nat) : (s.mapPair p f).plot k = s.plot k := rfl
@[simp] theorem byte_of_mapPair (s : State) (p : Nat) (f : Pair → Pair) (k : Nat) : (s.mapPair p f).byte k = s.byte k := rfl

@[simp] theorem reg_of_setCluster (s : State) (c : Nat) (x : Cluster) (k : Nat) : (s.setCluster c x).reg k = s.reg k := rfl
@[simp] theorem unit_of_setCluster (s : State) (c : Nat) (x : Cluster) (k : Nat) : (s.setCluster c x).unit k = s.unit k := rfl
@[simp] theorem pair_of_setCluster (s : State) (c : Nat) (x : Cluster) (k : Nat) : (s.setCluster c x).pair k = s.pair k := rfl
@[simp] theorem port_of_setCluster (s : State) (c : Nat) (x : Cluster) (k : Nat) : (s.setCluster c x).port k = s.port k := rfl
@[simp] theorem link_of_setCluster (s : State) (c : Nat) (x : Cluster) (k : Nat) : (s.setCluster c x).link k = s.link k := rfl
@[simp] theorem plot_of_setCluster (s : State) (c : Nat) (x : Cluster) (k : Nat) : (s.setCluster c x).plot k = s.plot k := rfl
@[simp] theorem byte_of_setCluster (s : State) (c : Nat) (x : Cluster) (k : Nat) : (s.setCluster c x).byte k = s.byte k := rfl

@[simp] theorem reg_of_mapCluster (s : State) (c : Nat) (f : Cluster → Cluster) (k : Nat) : (s.mapCluster c f).reg k = s.reg k := rfl
@[simp] theorem unit_of_mapCluster (s : State) (c : Nat) (f : Cluster → Cluster) (k : Nat) : (s.mapCluster c f).unit k = s.unit k := rfl
@[simp] theorem pair_of_mapCluster (s : State) (c : Nat) (f : Cluster → Cluster) (k : Nat) : (s.mapCluster c f).pair k = s.pair k := rfl
@[simp] theorem port_of_mapCluster (s : State) (c : Nat) (f : Cluster → Cluster) (k : Nat) : (s.mapCluster c f).port k = s.port k := rfl
@[simp] theorem link_of_mapCluster (s : State) (c : Nat) (f : Cluster → Cluster) (k : Nat) : (s.mapCluster c f).link k = s.link k := rfl
@[simp] theorem plot_of_mapCluster (s : State) (c : Nat) (f : Cluster → Cluster) (k : Nat) : (s.mapCluster c f).plot k = s.plot k := rfl
@[simp] theorem byte_of_mapCluster (s : State) (c : Nat) (f : Cluster → Cluster) (k : Nat) : (s.mapCluster c f).byte k = s.byte k := rfl

@[simp] theorem reg_of_mapPort (s : State) (p : Nat) (f : Port → Port) (k : Nat) : (s.mapPort p f).reg k = s.reg k := rfl
@[simp] theorem unit_of_mapPort (s : State) (p : Nat) (f : Port → Port) (k : Nat) : (s.mapPort p f).unit k = s.unit k := rfl
@[simp] theorem pair_of_mapPort (s : State) (p : Nat) (f : Port → Port) (k : Nat) : (s.mapPort p f).pair k = s.pair k := rfl
@[simp] theorem cluster_of_mapPort (s : State) (p : Nat) (f : Port → Port) (k : Nat) : (s.mapPort p f).cluster k = s.cluster k := rfl
@[simp] theorem link_of_mapPort (s : State) (p : Nat) (f : Port → Port) (k : Nat) : (s.mapPort p f).link k = s.link k := rfl
@[simp] theorem plot_of_mapPort (s : State) (p : Nat) (f : Port → Port) (k : Nat) : (s.mapPort p f).plot k = s.plot k := rfl
@[simp] theorem byte_of_mapPort (s : State) (p : Nat) (f : Port → Port) (k : Nat) : (s.mapPort p f).byte k = s.byte k := rfl

@[simp] theorem reg_of_mapLink (s : State) (l : Nat) (f : WLink → WLink) (k : Nat) : (s.mapLink l f).reg k = s.reg k := rfl
@[simp] theorem unit_of_mapLink (s : State) (l : Nat) (f : WLink → WLink) (k : Nat) : (s.mapLink l f).unit k = s.unit k := rfl
@[simp] theorem pair_of_mapLink (s : State) (l : Nat) (f : WLink → WLink) (k : Nat) : (s.mapLink l f).pair k = s.pair k := rfl
@[simp] theorem cluster_of_mapLink (s : State) (l : Nat) (f : WLink → WLink) (k : Nat) : (s.mapLink l f).cluster k = s.cluster k := rfl
@[simp] theorem port_of_mapLink (s : State) (l : Nat) (f : WLink → WLink) (k : Nat) : (s.mapLink l f).port k = s.port k := rfl
@[simp] theorem plot_of_mapLink (s : State) (l : Nat) (f : WLink → WLink) (k : Nat) : (s.mapLink l f).plot k = s.plot k := rfl
@[simp] theorem byte_of_mapLink (s : State) (l : Nat) (f : WLink → WLink) (k : Nat) : (s.mapLink l f).byte k = s.byte k := rfl

@[simp] theorem reg_of_setPlot (s : State) (p : Nat) (x : Plot) (k : Nat) : (s.setPlot p x).reg k = s.reg k := rfl
@[simp] theorem unit_of_setPlot (s : State) (p : Nat) (x : Plot) (k : Nat) : (s.setPlot p x).unit k = s.unit k := rfl
@[simp] theorem pair_of_setPlot (s : State) (p : Nat) (x : Plot) (k : Nat) : (s.setPlot p x).pair k = s.pair k := rfl
@[simp] theorem cluster_of_setPlot (s : State) (p : Nat) (x : Plot) (k : Nat) : (s.setPlot p x).cluster k = s.cluster k := rfl
@[simp] theorem port_of_setPlot (s : State) (p : Nat) (x : Plot) (k : Nat) : (s.setPlot p x).port k = s.port k := rfl
@[simp] theorem link_of_setPlot (s : State) (p : Nat) (x : Plot) (k : Nat) : (s.setPlot p x).link k = s.link k := rfl
@[simp] theorem byte_of_setPlot (s : State) (p : Nat) (x : Plot) (k : Nat) : (s.setPlot p x).byte k = s.byte k := rfl

@[simp] theorem reg_of_dropPlot (s : State) (p : Nat) (k : Nat) : (s.dropPlot p).reg k = s.reg k := rfl
@[simp] theorem unit_of_dropPlot (s : State) (p : Nat) (k : Nat) : (s.dropPlot p).unit k = s.unit k := rfl
@[simp] theorem pair_of_dropPlot (s : State) (p : Nat) (k : Nat) : (s.dropPlot p).pair k = s.pair k := rfl
@[simp] theorem cluster_of_dropPlot (s : State) (p : Nat) (k : Nat) : (s.dropPlot p).cluster k = s.cluster k := rfl
@[simp] theorem port_of_dropPlot (s : State) (p : Nat) (k : Nat) : (s.dropPlot p).port k = s.port k := rfl
@[simp] theorem link_of_dropPlot (s : State) (p : Nat) (k : Nat) : (s.dropPlot p).link k = s.link k := rfl
@[simp] theorem byte_of_dropPlot (s : State) (p : Nat) (k : Nat) : (s.dropPlot p).byte k = s.byte k := rfl

@[simp] theorem reg_of_mapQpair (s : State) (p q : Nat) (f : QPair → QPair) (k : Nat) : (s.mapQpair p q f).reg k = s.reg k := rfl
@[simp] theorem unit_of_mapQpair (s : State) (p q : Nat) (f : QPair → QPair) (k : Nat) : (s.mapQpair p q f).unit k = s.unit k := rfl
@[simp] theorem pair_of_mapQpair (s : State) (p q : Nat) (f : QPair → QPair) (k : Nat) : (s.mapQpair p q f).pair k = s.pair k := rfl
@[simp] theorem cluster_of_mapQpair (s : State) (p q : Nat) (f : QPair → QPair) (k : Nat) : (s.mapQpair p q f).cluster k = s.cluster k := rfl
@[simp] theorem port_of_mapQpair (s : State) (p q : Nat) (f : QPair → QPair) (k : Nat) : (s.mapQpair p q f).port k = s.port k := rfl
@[simp] theorem link_of_mapQpair (s : State) (p q : Nat) (f : QPair → QPair) (k : Nat) : (s.mapQpair p q f).link k = s.link k := rfl
@[simp] theorem byte_of_mapQpair (s : State) (p q : Nat) (f : QPair → QPair) (k : Nat) : (s.mapQpair p q f).byte k = s.byte k := rfl

@[simp] theorem reg_of_setByte (s : State) (a : Nat) (b : Byte) (k : Nat) : (s.setByte a b).reg k = s.reg k := rfl
@[simp] theorem unit_of_setByte (s : State) (a : Nat) (b : Byte) (k : Nat) : (s.setByte a b).unit k = s.unit k := rfl
@[simp] theorem pair_of_setByte (s : State) (a : Nat) (b : Byte) (k : Nat) : (s.setByte a b).pair k = s.pair k := rfl
@[simp] theorem cluster_of_setByte (s : State) (a : Nat) (b : Byte) (k : Nat) : (s.setByte a b).cluster k = s.cluster k := rfl
@[simp] theorem port_of_setByte (s : State) (a : Nat) (b : Byte) (k : Nat) : (s.setByte a b).port k = s.port k := rfl
@[simp] theorem link_of_setByte (s : State) (a : Nat) (b : Byte) (k : Nat) : (s.setByte a b).link k = s.link k := rfl
@[simp] theorem plot_of_setByte (s : State) (a : Nat) (b : Byte) (k : Nat) : (s.setByte a b).plot k = s.plot k := rfl

/-! ## Reads after writes -/

@[simp] theorem reg_setReg_same (s : State) (off : Nat) (v : Word) : (s.setReg off v).reg off = v :=
  sget_sset_same regReset s.ctl.regs off v

theorem reg_setReg_other (s : State) {off o : Nat} (v : Word) (h : o ≠ off) : (s.setReg off v).reg o = s.reg o :=
  sget_sset_other regReset s.ctl.regs v h

theorem reg_setReg (s : State) (off o : Nat) (v : Word) : (s.setReg off v).reg o = if o = off then v else s.reg o :=
  sget_sset regReset s.ctl.regs off o v

@[simp] theorem reg_setFld_same (s : State) (off hi lo v : Nat) :
    (s.setFld off hi lo v).reg off = setBits (s.reg off) hi lo v := reg_setReg_same _ _ _

theorem reg_setFld_other (s : State) {off o : Nat} (hi lo v : Nat) (h : o ≠ off) :
    (s.setFld off hi lo v).reg o = s.reg o := reg_setReg_other _ _ h

theorem reg_setBit_other (s : State) {off o : Nat} (b : Nat) (v : Bool) (h : o ≠ off) :
    (s.setBit off b v).reg o = s.reg o := reg_setReg_other _ _ h

@[simp] theorem unit_setUnit_same (s : State) (u : Nat) (x : CoreUnit) : (s.setUnit u x).unit u = x :=
  sget_sset_same _ s.units u x

theorem unit_setUnit_other (s : State) {u v : Nat} (x : CoreUnit) (h : v ≠ u) : (s.setUnit u x).unit v = s.unit v :=
  sget_sset_other _ s.units x h

@[simp] theorem unit_mapUnit_same (s : State) (u : Nat) (f : CoreUnit → CoreUnit) :
    (s.mapUnit u f).unit u = f (s.unit u) := unit_setUnit_same _ _ _

theorem unit_mapUnit_other (s : State) {u v : Nat} (f : CoreUnit → CoreUnit) (h : v ≠ u) :
    (s.mapUnit u f).unit v = s.unit v := unit_setUnit_other _ _ h

theorem unit_mapUnit (s : State) (u v : Nat) (f : CoreUnit → CoreUnit) :
    (s.mapUnit u f).unit v = if v = u then f (s.unit v) else s.unit v := by
  by_cases h : v = u
  · subst h; simp
  · simp [unit_mapUnit_other s f h, h]

@[simp] theorem pair_setPair_same (s : State) (p : Nat) (x : Pair) : (s.setPair p x).pair p = x :=
  sget_sset_same _ s.pairs p x

theorem pair_setPair_other (s : State) {p q : Nat} (x : Pair) (h : q ≠ p) : (s.setPair p x).pair q = s.pair q :=
  sget_sset_other _ s.pairs x h

@[simp] theorem pair_mapPair_same (s : State) (p : Nat) (f : Pair → Pair) : (s.mapPair p f).pair p = f (s.pair p) :=
  pair_setPair_same _ _ _

theorem pair_mapPair_other (s : State) {p q : Nat} (f : Pair → Pair) (h : q ≠ p) :
    (s.mapPair p f).pair q = s.pair q := pair_setPair_other _ _ h

@[simp] theorem cluster_setCluster_same (s : State) (c : Nat) (x : Cluster) : (s.setCluster c x).cluster c = x :=
  sget_sset_same _ s.clusters c x

theorem cluster_setCluster_other (s : State) {c d : Nat} (x : Cluster) (h : d ≠ c) :
    (s.setCluster c x).cluster d = s.cluster d := sget_sset_other _ s.clusters x h

@[simp] theorem cluster_mapCluster_same (s : State) (c : Nat) (f : Cluster → Cluster) :
    (s.mapCluster c f).cluster c = f (s.cluster c) := cluster_setCluster_same _ _ _

theorem cluster_mapCluster_other (s : State) {c d : Nat} (f : Cluster → Cluster) (h : d ≠ c) :
    (s.mapCluster c f).cluster d = s.cluster d := cluster_setCluster_other _ _ h

@[simp] theorem port_mapPort_same (s : State) (p : Nat) (f : Port → Port) : (s.mapPort p f).port p = f (s.port p) :=
  sget_sset_same _ s.eth.ports p _

theorem port_mapPort_other (s : State) {p q : Nat} (f : Port → Port) (h : q ≠ p) :
    (s.mapPort p f).port q = s.port q := sget_sset_other _ s.eth.ports _ h

@[simp] theorem link_mapLink_same (s : State) (l : Nat) (f : WLink → WLink) : (s.mapLink l f).link l = f (s.link l) :=
  sget_sset_same _ s.weft.links l _

theorem link_mapLink_other (s : State) {l m : Nat} (f : WLink → WLink) (h : m ≠ l) :
    (s.mapLink l f).link m = s.link m := sget_sset_other _ s.weft.links _ h

@[simp] theorem byte_setByte_same (s : State) (a : Nat) (b : Byte) : (s.setByte a b).byte a = b :=
  sget_sset_same blankByte s.mem.cells a b

theorem byte_setByte_other (s : State) {a c : Nat} (b : Byte) (h : c ≠ a) : (s.setByte a b).byte c = s.byte c :=
  sget_sset_other blankByte s.mem.cells b h

/-- A byte outside the bytes stored reads as before. -/
theorem byte_setBytes_other (s : State) (a c : Nat) (l : List Byte) (h : c < a ∨ a + l.length ≤ c) :
    (s.setBytes a l).byte c = s.byte c := by
  induction l generalizing s a with
  | nil => rfl
  | cons b l ih =>
    simp only [List.length_cons] at h
    rw [State.setBytes, ih _ _ (by omega), byte_setByte_other _ _ (by omega)]

/-- The bytes stored are the bytes read. -/
theorem byte_setBytes_in (s : State) (a i : Nat) (l : List Byte) (h : i < l.length) :
    (s.setBytes a l).byte (a + i) = l[i] := by
  induction l generalizing s a i with
  | nil => simp at h
  | cons b l ih =>
    cases i with
    | zero => rw [State.setBytes, byte_setBytes_other _ _ _ _ (by omega)]; simp
    | succ i =>
      have := ih (s.setByte a b) (a + 1) i (by simpa using h)
      rw [State.setBytes, show a + (i + 1) = a + 1 + i by omega, this]; rfl

/-! ## Memory keeps its canonical form -/

theorem setByte_keeps_wf (s : State) (a : Nat) (b : Byte) (h : s.mem.wf = true) : (s.setByte a b).mem.wf = true :=
  swf_sset a b h

theorem setBytes_keeps_wf (s : State) (a : Nat) (l : List Byte) (h : s.mem.wf = true) :
    (s.setBytes a l).mem.wf = true := by
  induction l generalizing s a with
  | nil => exact h
  | cons b l ih => exact ih _ _ (setByte_keeps_wf s a b h)

end Sys2Proof.Machine
end

