-- ==== Sys2Proof/Laws/Units.lean ====
section
/-! SUPPORT. The laws of the frame of one instruction: when its effect runs, and what retirement changes. -/

namespace Sys2Proof.Machine

open Sys2Proof

/-! ## Frames compose -/

theorem OnlyUnit.rfl' (s : State) (u : Nat) : OnlyUnit s s u := by
  constructor <;> first | rfl | exact fun _ _ => rfl

theorem OnlyUnit.comp {s t r : State} {u : Nat} (h : OnlyUnit s t u) (g : OnlyUnit t r u) : OnlyUnit s r u := by
  constructor
  · intro v hv; rw [g.arch v hv, h.arch v hv]
  · intro o ho; rw [g.regs o ho, h.regs o ho]
  · intro p hp; rw [g.pairs p hp, h.pairs p hp]
  · rw [g.mem, h.mem]
  · rw [g.clusters, h.clusters]
  · rw [g.gleaner, h.gleaner]
  · rw [g.almanac, h.almanac]
  · rw [g.tick, h.tick]
  · rw [g.stakes, h.stakes]
  · rw [g.journal, h.journal]
  · rw [g.twin, h.twin]
  · rw [g.eth, h.eth]
  · rw [g.plots, h.plots]
  · rw [g.sower, h.sower]
  · rw [g.steward, h.steward]
  · rw [g.warp, h.warp]
  · rw [g.thresher, h.thresher]
  · rw [g.cipher, h.cipher]
  · rw [g.furrow, h.furrow]
  · rw [g.weft, h.weft]
  · rw [g.fuses, h.fuses]
  · rw [g.mram, h.mram]
  · rw [g.evral, h.evral]
  · rw [g.boot, h.boot]
  · rw [g.power, h.power]
  · rw [g.out, h.out]
  · rw [g.time, h.time]
  · rw [g.fresh, h.fresh]
  · rw [g.pending, h.pending]

/-- A change of a unit is a frame of it. -/
theorem mapUnit_only (s : State) (u : Nat) (f : CoreUnit → CoreUnit) : OnlyUnit s (s.mapUnit u f) u := by
  constructor <;> first | rfl | exact fun _ _ => rfl | exact fun v hv => by rw [unit_mapUnit_other s f hv]

/-- A change of a unit that leaves its architected state alone is in every unit's frame. -/
theorem mapUnit_quiet (s : State) (u v : Nat) (f : CoreUnit → CoreUnit) (h : ∀ x, (f x).arch = x.arch) :
    OnlyUnit s (s.mapUnit v f) u := by
  constructor <;> first | rfl | exact fun _ _ => rfl | skip
  intro w _
  rw [unit_mapUnit]; split <;> simp [h]

theorem mapPair_only (s : State) (u : Nat) (f : Pair → Pair) : OnlyUnit s (s.mapPair (pairOf u) f) u := by
  constructor <;> first | rfl | exact fun _ _ => rfl | exact fun p hp => pair_mapPair_other s f hp

theorem setFld_only (s : State) (u hi lo v : Nat) :
    OnlyUnit s (s.setFld (pairReg Reg.CLS_PAIRSTAT (pairOf u)) hi lo v) u := by
  constructor <;> first | rfl | exact fun _ _ => rfl | exact fun o ho => reg_setFld_other s hi lo v ho

theorem mapArch_only (s : State) (u : Nat) (f : Arch → Arch) : OnlyUnit s (s.mapArch u f) u := mapUnit_only s u _

@[simp] theorem mapArch_arch (s : State) (u : Nat) (f : Arch → Arch) :
    ((s.mapArch u f).unit u).arch = f (s.unit u).arch := by
  simp [State.mapArch]

@[simp] theorem mapArch_retired (s : State) (u : Nat) (f : Arch → Arch) :
    ((s.mapArch u f).unit u).retired = (s.unit u).retired := by
  simp [State.mapArch]

/-! ## Retirement -/

theorem haltPair_only (s : State) (u : Nat) (c : HaltCause) (hits : Nat) :
    OnlyUnit s (s.haltPair (pairOf u) c hits) u := by
  unfold State.haltPair
  refine ((mapUnit_quiet _ _ _ _ ?_).comp (mapUnit_quiet _ _ _ _ ?_)).comp (mapPair_only _ _ _) <;>
    · intro x; split <;> rfl

theorem unit_haltPair_arch (s : State) (p u : Nat) (c : HaltCause) (hits : Nat) :
    ((s.haltPair p c hits).unit u).arch = (s.unit u).arch := by
  have h : ∀ (s : State) (p : Nat) (f : Pair → Pair), ((s.mapPair p f).unit u) = s.unit u := fun _ _ _ => rfl
  unfold State.haltPair
  rw [h, unit_mapUnit, unit_mapUnit]
  split_ifs <;> rfl

theorem unit_haltPair_retired (s : State) (p u : Nat) (c : HaltCause) (hits : Nat) :
    ((s.haltPair p c hits).unit u).retired = (s.unit u).retired := by
  have h : ∀ (s : State) (p : Nat) (f : Pair → Pair), ((s.mapPair p f).unit u) = s.unit u := fun _ _ _ => rfl
  unfold State.haltPair
  rw [h, unit_mapUnit, unit_mapUnit]
  split_ifs <;> rfl

theorem compared_only (s : State) (u : Nat) : OnlyUnit s (s.compared (pairOf u)) u := by
  unfold State.compared
  split
  · exact OnlyUnit.rfl' s u
  · dsimp only
    split
    · exact mapPair_only _ _ _
    · exact (mapPair_only _ _ _).comp (setFld_only _ _ _ _ _)

@[simp] theorem unit_compared (s : State) (p u : Nat) : (s.compared p).unit u = s.unit u := by
  unfold State.compared
  split
  · rfl
  · dsimp only; split <;> simp

theorem counted_only (s : State) (u : Nat) : OnlyUnit s (s.counted u) u :=
  (mapUnit_only s u _).comp (compared_only _ u)

@[simp] theorem unit_counted_arch (s : State) (u : Nat) : ((s.counted u).unit u).arch = (s.unit u).arch := by
  unfold State.counted
  rw [unit_compared, unit_mapUnit_same]

@[simp] theorem unit_counted_retired (s : State) (u : Nat) : ((s.counted u).unit u).retired = (s.unit u).retired + 1 := by
  unfold State.counted
  rw [unit_compared, unit_mapUnit_same]

theorem startCore_only (s : State) (u : Nat) : OnlyUnit s (s.startCore u) u := mapUnit_only s u _

@[simp] theorem unit_startCore_arch (s : State) (u : Nat) : ((s.startCore u).unit u).arch = (s.unit u).arch := by
  unfold State.startCore
  rw [unit_mapUnit_same]; split <;> rfl

@[simp] theorem unit_startCore_retired (s : State) (u : Nat) : ((s.startCore u).unit u).retired = (s.unit u).retired := by
  unfold State.startCore
  rw [unit_mapUnit_same]; split <;> rfl

theorem boundary_only (s : State) (u : Nat) : OnlyUnit s (s.boundary u) u := by
  unfold State.boundary
  split
  · exact haltPair_only _ _ _ _
  · exact OnlyUnit.rfl' s u

@[simp] theorem unit_boundary_arch (s : State) (u v : Nat) : ((s.boundary u).unit v).arch = (s.unit v).arch := by
  unfold State.boundary
  split
  · exact unit_haltPair_arch _ _ _ _ _
  · rfl

@[simp] theorem unit_boundary_retired (s : State) (u v : Nat) : ((s.boundary u).unit v).retired = (s.unit v).retired := by
  unfold State.boundary
  split
  · exact unit_haltPair_retired _ _ _ _ _
  · rfl

/-- Retirement: the PC, PCF clear, the count, and nothing else that an instruction's frame speaks of (R344, R356). -/
theorem retire_retires (s : State) (u : Nat) (pc : Word) : Retires s (s.retire u pc) u (s.unit u).arch pc where
  arch := by simp [State.retire]
  count := by simp [State.retire]
  frame := (mapUnit_only s u _).comp ((startCore_only _ u).comp ((counted_only _ u).comp (boundary_only _ u)))

/-- The end of a unit of operation that is not the last: PCF is set and the PC stays (R344). -/
theorem unitEnd_arch (s : State) (u : Nat) : ((s.unitEnd u).unit u).arch = (s.unit u).arch.setPcf true := by
  simp [State.unitEnd]

theorem unitEnd_only (s : State) (u : Nat) : OnlyUnit s (s.unitEnd u) u :=
  (mapUnit_only s u _).comp ((counted_only _ u).comp (boundary_only _ u))

/-! ## When the effect runs -/

/-- An encoding that meets every test, at a level that suffices. -/
def Legal.ok (l : Legal) (level : Nat) : Bool :=
  l.reserved && l.even && l.sreg && decide (l.level ≤ level) && decide (l.srSub = 0)

theorem Legal.fail_ok {l : Legal} {level : Nat} (h : l.ok level = true) : l.fail level = none := by
  simp only [Legal.ok, Bool.and_eq_true, decide_eq_true_eq] at h
  obtain ⟨⟨⟨⟨h1, h2⟩, h3⟩, h4⟩, h5⟩ := h
  simp [Legal.fail, h1, h2, h3, h5, Nat.not_lt.mpr h4]

/-- The effect of a legal instruction that a unit fetches is what the unit concludes with. -/
theorem execute_body {s : State} {u : Nat} {l : Legal} (body : State → Eff) (hf : s.fetches u = true)
    (hl : l.ok (s.unit u).arch.level = true) : s.execute u l body = s.conclude u (body s) := by
  simp only [State.fetches, Bool.and_eq_true, decide_eq_true_eq, Option.isNone_iff_eq_none] at hf
  obtain ⟨⟨h1, h2⟩, h3⟩ := hf
  unfold State.execute
  rw [if_neg (by simp [h1]), if_neg (by simpa using h2)]
  simp only [h3, Legal.fail_ok hl]

/-- An encoding that fails a test raises the exception of the first that fails (R293). -/
theorem execute_fail {s : State} {u : Nat} {l : Legal} (body : State → Eff) {e : Exc} (hf : s.fetches u = true)
    (hl : l.fail (s.unit u).arch.level = some e) : s.execute u l body = (s.takeExc u e).boundary u := by
  simp only [State.fetches, Bool.and_eq_true, decide_eq_true_eq, Option.isNone_iff_eq_none] at hf
  obtain ⟨⟨h1, h2⟩, h3⟩ := hf
  unfold State.execute
  rw [if_neg (by simp [h1]), if_neg (by simpa using h2)]
  simp only [h3, hl, State.conclude]

/-- An instruction that only writes architected state retires with it. -/
theorem pure_retires {s : State} {u : Nat} {l : Legal} (f : Arch → Arch) (hf : s.fetches u = true)
    (hl : l.ok (s.unit u).arch.level = true) (hpc : ∀ a : Arch, (f a).pc = a.pc) :
    Retires s (s.pure u l f) u (f (s.unit u).arch) ((s.unit u).arch.pc + 4) := by
  have h : s.pure u l f = (s.mapArch u f).retire u ((s.unit u).arch.pc + 4) := by
    rw [State.pure, execute_body _ hf hl]
    simp [State.conclude, hpc]
  rw [h]
  have r := retire_retires (s.mapArch u f) u ((s.unit u).arch.pc + 4)
  exact ⟨by rw [r.arch]; simp, by rw [r.count]; simp, (mapArch_only s u f).comp r.frame⟩

end Sys2Proof.Machine
end

