-- ==== Sys2Proof/Tests/Slice0.lean ====
section
/-! SUPPORT. The model's own tests: terms that are not well formed; results that the spec works out, each with its chapter;
and for every statement states and operands that meet its hypotheses, clause by clause, with the commands that complete there.
Expected values come from the spec or from the standards it names. -/

open Sys2Proof Sys2Proof.Machine Sys2Proof.Stated

namespace Sys2Proof.Tests

set_option Elab.async false

/-! ## States of the tests -/

/-- A plot with an executive and four spaces in the scratchpad of cluster 0. -/
def desc0 : Desc := { state := .active, adopted := false, splitOk := true, srcAny := true, share := 100, urgMax := 50, classes := 31,
                      qmax := 4, addr6 := [], addr4 := [], srcFilt := [] }
def plot0 : Plot := { desc := desc0, next := none, sptBase := 0, libBase := 0, execBase := scratchBase + 0x180000, execMeas := [],
                      spaces := [(0, { base := scratchBase + 0x100000, pages := 16, attr := 0x2F }), (1, { base := scratchBase + 0x120000, pages := 16, attr := 0x2F })]
                      libCount := 0, exec := List.replicate 64 0, staging := [], credit := [0, 0, 0, 0, 0], own := true, created := true }
/-- Unit 0 runs a program of plot 5 at a level, with registers r = 3 r but those of a list. -/
def regs (l : List (Nat × Word)) (a : Arch) : Arch := l.foldl (fun a x => a.setReg (BitVec.ofNat 5 x.1) x.2) a
def arch0 (level : Nat) : Arch :=
  { Arch.reset with
    pc := 0x100
    sr := { SpecRegs.reset with psw := BitVec.ofNat 32 level, spc := [0x500, 0x501, 0x502, 0x5FF, 0, 0, 0, 0], ispc := 0x500
                                wsp := 0x8000, evba := 0x400, dvba := 0x800 } }
def at_ (level : Nat) (l : List (Nat × Word)) : State :=
  let s := State.reset.setPlot 5 plot0
  s.mapUnit 0 fun x => { x with run := true, execPlot := 5, arch := regs l (arch0 level) }
abbrev St := State
def outD (o : Host.Outcome State Fault Refusal) : State := match o with | .next t => t | _ => State.reset
def z : St := State.reset
def pl (pa : Nat) : Place := { pa := pa, cacheable := false, journaled := false, pairArea := false }
def slot4 : TSlot := { slot := 4, plot := 5, queue := 1, slotNo := 9, reqid := 77, cls := 2, account := 1, attempt := 1, stamp := 100, seq := 3, space := 0, off := 0, arg := [], unit := some 0, redo := false, waitOn := none, result := none, span := false }
def tx (l : Nat) : St :=
  let s := (at_ l [(2, 0x11), (3, 0x22), (4, 257)]).mapSower fun w => { w with slots := [slot4] }
  s.mapUnit 0 fun x => { x with txn := some 4, arch := { x.arch with sr := { x.arch.sr with psw := x.arch.sr.psw ||| 0x10 } } }
def rec_ (h w : Option Bool) : StakeRec := { slot := 4, ns := 5, key := 0x2200000011, home := 0, held := h, waits := w, issued := 0, queued := false }
def party (slot stamp : Nat) : Party := { dev := 0, slot := slot, stamp := stamp, seq := 3, attempt := 1 }
def seal0 (late : Bool) : Seal := { epoch := 3, openTime := 0, closeTime := 20000, period := 20, owed := [], cutoff := true, wbOwed := [], hashDone := true, macDone := true, acked := true, solo := true, span := false, voted := false, late := late }
def pairedS (s : St) : St := (s.setBit Reg.TWN_CFG 31 true).setFld Reg.TWN_CFG 6 4 1
def sheaf0 : Sheaf := { kind := .own, epoch := 3, offset := 0, len := 0, header := List.replicate 128 1, body := [5,6], chain := [], mac := [], sealed := false, acked := false, destaged := false, applied := false, zeroed := false, doneTime := 0, coverOk := false }
def ent : LineEntry := { off := 64, before := List.replicate 64 7, after := List.replicate 64 8 }
def jr : JRecord := { reqid := 1, plot := 0, queue := 0xFFFF, slot := 0, span := false, result := [], lines := [ent] }
def own (o p : Nat) (s : St) : St := (s.setOwn o).setPart p
def qs : QSlot := { no := 9, sstate := .waiting, cls := 2, port := 0, arrival := 5, reqid := 77, session := 0, tslot := none, packet := [], checked := true, look := true, ordered := false, txn := true, status := 0, epoch := 0, handed := false }
def qp0 : QPair := { pool := 0, plot := 5, queue := 1, draining := false, slotsz := 0, depth := 4, channel := 0xFFFF, sqBase := 0, cqBase := 0, dedupBase := 0, sqHead := 10, sqTail := 10, cqHead := 0, cqTail := 0, slots := [], cq := [], dedup := [], doneNo := 0 }
def qp : QPair := { qp0 with sqTail := 9, slots := [qs] }
def pu (s : St) : St := (s.setBit Reg.ETH_CTRL 0 true).setBit (portReg Reg.ETH_PSTAT 0) 0 true
def fw (op : Nat) (ps : List (Nat × List Sys2Proof.Byte)) : FwCmd := { plot := 0, queue := 0, slotNo := 3, opcode := op, reqid := 8, target := 5, params := ps, stage := .fresh, arrival := 4, since := 0 }
def cs (c : FwCmd) (s : St) : St := (s.setBit Reg.TWN_STATUS 5 true).mapSteward fun w => { w with cmds := [c] }
def be := Sys2Proof.Machine.beBytes
def leb := Sys2Proof.Machine.leBytes
def life (n : Nat) (s : St) : St := { s with fuses := { s.fuses with lifecycle := n } }
def p5 : Plot := { plot0 with libBase := 0x500000, sptBase := 0x504000, libCount := 1, spaces := [(1, { base := 0x700000, pages := 16, attr := 0x2F })] }
/-- 64 GiB of DRAM with the blocks' regions above 4 GiB. -/
def dram (s : St) : St :=
  let s := (s.setBit Reg.MEM_CHSTAT 31 true).setFld Reg.MEM_CHSTAT 25 16 64
  let s := (((s.setReg64 Reg.STK_BASE_LO 0x100000000).setReg64 Reg.JNL_RIDX_BASE_LO 0x200000000).setReg64 Reg.PLT_DESC_BASE_LO 0x400000000).setReg64 Reg.PLT_QP_BASE_LO 0x410000000
  ((((s.setReg64 Reg.PLT_QREG_BASE_LO 0x500000000).setFld Reg.PLT_QREG 8 0 1).setReg64 Reg.JNL_RING_BASE_LO 0x600000000).setReg64 Reg.JNL_LIVE_BASE_LO 0x800000000).setReg64 Reg.JNL_REPL_BASE_LO 0xA00000000
abbrev BL := List Sys2Proof.Byte
def ksl (k g l c : Nat) : KeySlot := { kind := k, usage := 0xFF, origin := false, gen := g, limit := l, count := c, key := List.replicate 48 9, near := false }
def wks (l : List (Nat × KeySlot)) (s : St) : St := s.mapCipher fun x => { x with slots := l }
def mk (c : FwCmd) : St := cs c (life 2 (((z.setPlot 5 p5).setBit Reg.PLT_STATUS 0 true).setReg64 Reg.PLT_QREG_BASE_LO 0x600000))

/-! ## Well-formedness: an ill-formed term for each check, which the check refuses -/

/-- A peer with an address of 15 bytes. -/
def shortPeer : Peer := { addr := zeros 15, port := 1 }

/-- A unit beyond the 96 pairs, a pair beyond the Steward's, a cluster, a bank and an offset of the scratchpad. -/
theorem test_wf_units :
    Instr.wf (.add 192 ⟨0, 0, 0, 0⟩) = false ∧ Instr.wf (.asyncInputAtBoundary 193) = false ∧
    Instr.wf (.closeMarker 96) = false ∧ Instr.wf (.instructionRetry 97 .selfCheck) = false ∧
    Instr.wf (.sealWritebackDone 12) = false ∧ Instr.wf (.bankWakeDone 0 8) = false ∧
    Instr.wf (.scratchpadScrub 0 0x400000 .corrected) = false ∧ Instr.wf (.ucScrub 0 8192 0) = false ∧
    Instr.wf (.instructionRetry 0 (.mismatch 64)) = false := by decide

/-- Offsets of control space, fields of an EVRAL transfer, and addresses. -/
theorem test_wf_addresses :
    Instr.wf (.registerWrite .firmware 2 0) = false ∧ Instr.wf (.evralTransfer 16 ⟨0, 0, 0⟩ 0 0) = false ∧
    Instr.wf (.evralTransfer 6 ⟨4, 0, 0⟩ 0 0) = false ∧ Instr.wf (.evralTransfer 6 ⟨0, 0, 0⟩ 0 256) = false ∧
    Instr.wf (.evralTransfer 6 ⟨0, 65536, 0⟩ 0 0) = false ∧ Instr.wf (.cacheFill 0 (2 ^ 46) .prefetch .ok) = false ∧
    Instr.wf (.warpTimeout 0 32 0 0 none) = false ∧
    Instr.wf (.warpTimeout 0 0 0 0 (some { unit := 192, ea := 0, sp := 0 })) = false ∧
    Instr.wf (.warpLinkReplay 30 false) = false ∧ Instr.wf (.recRead 0 0 0 none (2 ^ 46) 1) = false := by decide

/-- Ports, priorities, peers, links, devices and sessions. -/
theorem test_wf_network :
    Instr.wf (.portLinkUp 2) = false ∧ Instr.wf (.pfcPauseExpire 0 0 8) = false ∧
    Instr.wf (.swathOpen 0 0 0 shortPeer []) = false ∧ Instr.wf (.weftLinkAligned 6) = false ∧
    Instr.wf (.deviceLost 0 1024) = false ∧ Instr.wf (.reservationReportDone 0 0 (some 1024)) = false ∧
    Instr.wf (.ackDelayExpire 0 { plot := 0, event := true, number := 64 }) = false ∧
    Instr.wf (.keepAlive 0 1024) = false ∧ Instr.wf (.peerRsp 0 0 65536 []) = false := by decide

/-- Plots, queues, channels, slices, slots, parties, probe windows, epochs and words. -/
theorem test_wf_commands :
    Instr.wf (.plotResetDrainDone 4096) = false ∧ Instr.wf (.nop 0 1024) = false ∧
    Instr.wf (.heldCompletionExpire 0 0 64) = false ∧ Instr.wf (.sliceRequest 16 none) = false ∧
    Instr.wf (.sliceRequest 0 (some 8)) = false ∧ Instr.wf (.stakeGrant 16384) = false ∧
    Instr.wf (.recRead 0 0 0 (some 16384) 0 1) = false ∧
    Instr.wf (.stakeReq 0 { dev := 0, slot := 16384, stamp := 0, seq := 0, attempt := 0 } 0 0 true false) = false ∧
    Instr.wf (.stakeReq 0 { dev := 0, slot := 0, stamp := 0, seq := 0, attempt := 0 } 0 (2 ^ 64) true false) = false ∧
    Instr.wf (.rollbackNotice (2 ^ 64) 0) = false := by decide

/-- Sources and classes of the Gleaner, sensors, clocks and engines. -/
theorem test_wf_sensors :
    Instr.wf (.gleanerEvent 512 0 0) = false ∧ Instr.wf (.gleanerEvent 0 7 0) = false ∧
    Instr.wf (.gleanerEvent 0 0 (2 ^ 32)) = false ∧ Instr.wf (.clockMonitorTrip 40) = false ∧
    Instr.wf (.railSample 8 0) = false ∧ Instr.wf (.tamperEvent 4) = false ∧ Instr.wf (.tempSample 0 16 0) = false ∧
    Instr.wf (.tempSample 0 0 1024) = false ∧ Instr.wf (.thresherJobStart 0 8) = false ∧
    Instr.wf (.lockAcquire .firmware 16) = false := by decide

/-! ## Results that the spec works out -/

/-- The words of the example of chapter 9: SLLI V1, C0, 6 and LDW V2, 8(V1), SP 1. -/
theorem test_words_of_chapter_9 :
    insnWord (.slli 0 ⟨17, 8, 6, 0⟩) = some 0x26283000#32 ∧
    insnWord (.ldw 0 ⟨18, 17, 1, 8⟩ true) = some 0x52514008#32 := by decide

/-- The state after a command that completes. -/
def nextOf (c : Instr) (s : State) : State := match step { s with pending := [c] } with | .next t => t | _ => s

/-- Unit 0 with two packed operands at 0x100 and 0x110 of the pair area and DECLEN. -/
def packed (len : Word) (a b : List Byte) : State :=
  (((at_ 0 [(1, 0x100), (2, 0x110), (3, 0x120)]).setBytes (scratchBase + 0x120100) a).setBytes (scratchBase + 0x120110) b).mapArch 0
    fun x => x.mapSr fun r => { r with declen := len }

/-- The example of chapter 10: 99,999 + 1 in five digits is 00,000 with DCC 3. -/
theorem test_addp_overflows :
    let t := nextOf (.addp 0 ⟨3, 1, 2, 1, 0, 0⟩) (packed 0x14A1 [0x99, 0x99, 0x9C] [0x1C])
    t.seenBytes 0 (scratchBase + 0x120120) 3 = [0x00, 0x00, 0x0C] ∧ (archOf t 0).dcc = 3 := by decide +kernel

/-- The same example with the sign 0xB: the sum is 99,998 and DCC is 0. -/
theorem test_addp_minus_one :
    let t := nextOf (.addp 0 ⟨3, 1, 2, 1, 0, 0⟩) (packed 0x14A1 [0x99, 0x99, 0x9C] [0x1B])
    t.seenBytes 0 (scratchBase + 0x120120) 3 = [0x99, 0x99, 0x8C] ∧ (archOf t 0).dcc = 0 := by decide +kernel

/-- The example of chapter 11: unit 1 of 1,234,567 / 89 sets Q to zero and PCF. -/
theorem test_divp_first_unit :
    let t := nextOf (.divp 0 ⟨3, 1, 2, 1, 0, 0⟩) (packed 0x14E2 [0x12, 0x34, 0x56, 0x7C] [0x08, 0x9C])
    t.seenBytes 0 (scratchBase + 0x120120) 3 = [0x00, 0x00, 0x0C] ∧ (archOf t 0).dcc = 0 ∧ (archOf t 0).pcf = true := by
  decide +kernel

/-- The same example, unit 2: A is 344,567 and Q is 10,000. -/
theorem test_divp_second_unit :
    let s := ((packed 0x14E2 [0x12, 0x34, 0x56, 0x7C] [0x08, 0x9C]).setBytes (scratchBase + 0x120120) [0x00, 0x00, 0x0C]).mapArch 0
      fun x => x.setPcf true
    let t := nextOf (.divp 0 ⟨3, 1, 2, 1, 0, 0⟩) s
    t.seenBytes 0 (scratchBase + 0x120120) 3 = [0x10, 0x00, 0x0C] ∧
    t.seenBytes 0 (scratchBase + 0x120100) 4 = [0x03, 0x44, 0x56, 0x7C] ∧ (archOf t 0).pcf = true := by
  decide +kernel

/-- The hash standard's own vector: SHA-384 of "abc". -/
theorem test_sha384_abc :
    (sha384 (ascii "abc")).take 8 = [0xCB, 0x00, 0x75, 0x3F, 0x45, 0xA3, 0x5E, 0x8B] := by decide +kernel


/-- Rows of R331 in binary32, the modes in the order RNE, RTZ, RDN, RUP, RNA; M is 0x7F7FFFFF and m is 1. -/
theorem test_fp_limits :
    ([Round.rne, .rtz, .rdn, .rup, .rna].map fun r => fpAdd fmt32 r 0x7F7FFFFF 0x7F7FFFFF) =
      [⟨0x7F800000, 5⟩, ⟨0x7F7FFFFF, 5⟩, ⟨0x7F7FFFFF, 5⟩, ⟨0x7F800000, 5⟩, ⟨0x7F800000, 5⟩] ∧
    ([Round.rne, .rtz, .rdn, .rup, .rna].map fun r => fpAdd fmt32 r 0x7F7FFFFF 1) =
      [⟨0x7F7FFFFF, 1⟩, ⟨0x7F7FFFFF, 1⟩, ⟨0x7F7FFFFF, 1⟩, ⟨0x7F800000, 5⟩, ⟨0x7F7FFFFF, 1⟩] ∧
    ([Round.rne, .rtz, .rdn, .rup, .rna].map fun r => fpMul fmt32 r 1 1) =
      [⟨0, 3⟩, ⟨0, 3⟩, ⟨0, 3⟩, ⟨1, 3⟩, ⟨0, 3⟩] ∧
    ([Round.rne, .rtz, .rdn, .rup, .rna].map fun r => fpSub fmt32 r 1 1) =
      [⟨0, 0⟩, ⟨0, 0⟩, ⟨0x80000000, 0⟩, ⟨0, 0⟩, ⟨0, 0⟩] ∧
    fpDiv fmt32 .rne 1 0 = ⟨0x7F800000, 8⟩ := by decide +kernel

/-- The roots of R332. -/
theorem test_fp_roots :
    fpSqrt fmt32 .rne 1 = ⟨0x1A3504F3, 1⟩ ∧ fpSqrt fmt32 .rup 1 = ⟨0x1A3504F4, 1⟩ ∧
    fpSqrt fmt64 .rne 1 = ⟨0x1E60000000000000, 0⟩ ∧ fpSqrt fmt32 .rna 0x7F7FFFFF = ⟨0x5F7FFFFF, 1⟩ ∧
    fpSqrt fmt64 .rup 0x7FEFFFFFFFFFFFFF = ⟨0x5FF0000000000000, 1⟩ := by decide +kernel

/-- Rows of R333: conversions at the edges. -/
theorem test_fp_conversions :
    fpConvert fmt64 fmt32 .rtz 0x7FEFFFFFFFFFFFFF = ⟨0x7F7FFFFF, 5⟩ ∧ fpConvert fmt64 fmt32 .rup 1 = ⟨1, 3⟩ ∧
    fpConvert fmt32 fmt64 .rne 1 = ⟨0x36A0000000000000, 0⟩ ∧
    fpToInt fmt32 .rup (-(2 ^ 31)) (2 ^ 31 - 1) 1 = (1, 1) ∧
    fpToInt fmt32 .rne (-(2 ^ 31)) (2 ^ 31 - 1) 0xFF7FFFFF = (-(2 ^ 31), 16) ∧
    fpToInt fmt32 .rdn 0 (2 ^ 32 - 1) 0x80000001 = (0, 16) ∧
    fpOfInt fmt32 .rtz 0x7FFFFFFF = ⟨0x4EFFFFFF, 1⟩ ∧ fpOfInt fmt64 .rne (-(2 ^ 31)) = ⟨0xC1E0000000000000, 0⟩ := by
  decide +kernel

/-- The example of chapter 17: the 22 bytes under the sheaf key of generation 1 of the devices 3 and 7. -/
theorem test_sheaf_key_bytes :
    kdf [1, 2, 3] (ascii "sheaf") (beBytes 2 3 ++ beBytes 2 7 ++ beBytes 4 1) 384 =
      hmac384 [1, 2, 3] [0x00, 0x00, 0x00, 0x01, 0x73, 0x68, 0x65, 0x61, 0x66, 0x00, 0x00, 0x03, 0x00, 0x07,
        0x00, 0x00, 0x00, 0x01, 0x00, 0x00, 0x01, 0x80] := by decide +kernel

/-- An empty block of CBLK is the two bytes of an empty final block (R351). -/
theorem test_cblk_empty :
    let t := nextOf (.cblk 0 ⟨3, 1, 2, 1, 1, 0⟩) (at_ 0 [(1, 0x100), (2, 0), (3, 0x200)])
    t.seenBytes 0 (scratchBase + 0x120200) 2 = [0x03, 0x00] := by decide +kernel

/-- No word of the table has bits, so no word spells a command. -/
theorem test_no_word_spells_a_command : decodeTableWord 32 0x26283000 = none := by decide

/-! ## Lemmas of the witnesses: values that firmware or an implementation chooses -/

/-- An address of DRAM answers, whichever channel it belongs to. -/
theorem answerOf_dram {s : State} {i pa : Nat} (h : s.region pa = .dram) (hi : s.reg Reg.WRP_ISO = 0)
    (hl : s.reg Reg.WRP_LINKDOWN = 0) : s.answerOf i pa = (.ok, 0) := by
  simp [State.answerOf, h, State.bit, State.unroutable, hi, hl]

/-- A place is found where the end of something taken is free, whatever is drawn. -/
theorem placeIn_found {lo hi size align draw : Nat} {taken : List (Nat × Nat)} (a : Nat)
    (hm : a ∈ taken.map fun r => (r.1 + r.2 + align - 1) / align * align) (hf : lo ≤ a ∧ a + size ≤ hi)
    (ht : ∀ r ∈ taken, rangesShare (a, size) r = false) : placeIn lo hi size align draw taken ≠ none := by
  intro h
  have := List.find?_eq_none.mp h a (by simp only [List.mem_cons]; exact .inr (.inr hm))
  simp only [Bool.and_eq_true, decide_eq_true_eq, List.all_eq_true, not_and] at this
  exact absurd (fun r hr => by simp [ht r hr]) (this hf)

/-- A range meets at most one of two places that are far enough apart. -/
theorem share_once {a b size : Nat} {r : Nat × Nat} (h : a + size + r.2 ≤ b) :
    rangesShare (a, size) r = false ∨ rangesShare (b, size) r = false := by
  simp only [rangesShare, decide_eq_false_iff_not, not_and, not_lt]
  omega

/-- Two ranges leave one of three places free that are far enough apart. -/
theorem three_places {a b c size : Nat} {r t : Nat × Nat} (hr : a + size + r.2 ≤ b ∧ b + size + r.2 ≤ c)
    (ht : a + size + t.2 ≤ b ∧ b + size + t.2 ≤ c) :
    ∃ x ∈ [a, b, c], rangesShare (x, size) r = false ∧ rangesShare (x, size) t = false := by
  have h1 := share_once (a := a) (b := b) (size := size) (r := r) hr.1
  have h2 := share_once (a := b) (b := c) (size := size) (r := r) hr.2
  have h3 := share_once (a := a) (b := c) (size := size) (r := r) (by omega)
  have h4 := share_once (a := a) (b := b) (size := size) (r := t) ht.1
  have h5 := share_once (a := b) (b := c) (size := size) (r := t) ht.2
  have h6 := share_once (a := a) (b := c) (size := size) (r := t) (by omega)
  simp only [List.mem_cons, List.not_mem_nil, or_false, exists_eq_or_imp, exists_eq_left]
  tauto

/-! ## Witnesses -/

def s0 : St := at_ 0 [(1, 0x10), (2, 0x11), (3, 0x22)]

/-- An empty queue, a command in front, and a step from a canonical state. -/
theorem witness_steps :
    State.reset.pending = [] ∧ { State.reset with pending := [Instr.tick 5] }.pending = Instr.tick 5 :: [] ∧
    State.reset.canonical = true ∧ ∃ t, step State.reset = .next t :=
  ⟨rfl, rfl, by decide +kernel, _, rfl⟩

/-- A word of an instruction, and a register that reset gives the value of the spec's table. -/
theorem witness_words : insnWord (.slli 0 ⟨17, 8, 6, 0⟩) = some 0x26283000#32 ∧ Reg.TCK_CTRL ≠ Reg.SWD_BOOTSTAT := by decide

/-- Registers in their sizes, and two of them. -/
theorem witness_registers : sized (arch0 0) ∧ (3 : BitVec 5) ≠ 2 := by unfold sized; decide +kernel

/-- Bits of CLZ, CTZ and BSWAP. -/
theorem witness_bits : (0x00010000 : Word) ≠ 0 ∧ 31 - (leadZeros 0x00010000).toNat < 17 ∧ 3 < (trailZeros 0x00010000).toNat ∧
    3 < 4 ∧ 7 < 8 := by decide +kernel

/-- Exceptions to E and D: bits of the status above its fields, and another unit. -/
theorem witness_exceptions :
    0 < 192 ∧ (archOf s0 0).level < 2 ∧ (2 : Nat) ∉ [9, 12, 13] ∧ canTakeE s0 0 = true ∧ (7 : Nat) ≤ 31 ∧ (1 : Nat) ≠ 0 ∧
    (12 : Nat) ∈ [9, 12, 13] ∧ ¬((archOf s0 0).level = 2 ∧ (archOf s0 0).exl = true) := by decide +kernel

/-- RET to a target that is not a word. -/
def misRet : St := (at_ 0 []).mapArch 0 fun a => { a with win := { a.win.push (some 0x102) with depth := 2 } }
theorem witness_retMisaligned :
    misRet.fetches 0 = true ∧ (archOf misRet 0).pcf = false ∧ ¬((archOf misRet 0).level = 0 ∧ (archOf misRet 0).win.depth = 1) ∧
    ((archOf misRet 0).win.top.v.getD 7 0).toNat % 4 ≠ 0 := by decide +kernel

/-- A device in mutual pairing copies phase 2 (REBUILD_CHUNK_READ). -/
def phase2 : St := ((own 1 1 (pairedS z)).setFld Reg.JNL_REGION 12 0 1).setFld Reg.JNL_REGION 28 16 1
theorem witness_rebuildChunk : phase2.safe = false ∧ phase2.tick.rollback = none ∧ phase2.copyPhase = some 2 := by decide +kernel

/-- The leader of a pair dies outside an epoch; a locked control store. -/
theorem witness_leaderDead : 3 < 96 ∧ z.tick.sealing = none ∧ z.tick.epochOpen = false ∧ (∀ u ∈ unitsOfPair 3, (z.unit u).txn = none) ∧
    (6 : Nat) ∈ unitsOfPair 3 := by decide +kernel

/-- SPACE_SET of a space that a running program uses. -/
def c16 : FwCmd := fw 0x16 [(0x02, be 2 5), (0x0C, be 1 1 ++ zeros 3 ++ be 8 0x700000 ++ be 4 16 ++ be 4 0x2E ++ zeros 4)]
def inUse : St := ((mk c16).setUnit 0 { (mk c16).unit 0 with txn := some 4, execPlot := 5 }).mapArch 0
  fun a => { a with sr := { a.sr with spc := [0x501] } }
theorem witness_spaceSetInUse :
    runs inUse c16 ∧ inUse.plot c16.target = some p5 ∧ c16.stage = CmdStage.fresh ∧ inUse.noPartner = true ∧ c16.opcode = 22 ∧
    c16.space.1 < 253 ∧ inUse.runsIn c16.target c16.space.1 = true ∧
    (c16.space.2.attr.testBit 0 = true → inUse.spaceOk c16.target c16.space.2 = true) := by unfold runs; decide +kernel

/-! ### Evral and the debug registers -/

def port_ : St := { z with fuses := { z.fuses with lifecycle := 2 } }
/-- Transfers: a reserved OP, one after bad data, a refused register, and a plot whose entry the port sees. -/
theorem witness_evral :
    z.held = false ∧ (1 : Nat) < 4 ∧ 3 < 65536 ∧ z.evral.badData = false ∧
    { z with evral := { z.evral with badData := true } }.evral.badData = true ∧ port_.held = false ∧
    0x10 < 131072 ∧ 0x10 % 4 = 0 ∧ port_.evral.badData = false ∧ port_.portRefusal true (Reg.DBG_ID + 0x10) = some 2 ∧
    ((z.setPlot 5 plot0).setBit Reg.PLT_STATUS 0 true).bit Reg.PLT_STATUS 0 = true ∧
    ((z.setPlot 5 plot0).setBit Reg.PLT_STATUS 0 true).plot 5 = some plot0 := by decide +kernel

/-- The public key of an owner under which the message that 0x60 or 0x61 carries verifies; u1 = u2 = 1. -/
def owned (x y : Nat) (s : St) : St := { s with boot := { s.boot with config := beBytes 48 x ++ beBytes 48 y } }
def authKeyed (s : St) : St := owned
  0x9629d620126423eca1e99734f527ab035fb540aebaf1b01e0b8398b1da416df59f0d0e7d848533dd9af80f1f3255c1ac
  0xf2e26f32ea337eee7a89c5cfcc76d75398f96e85abe35313e9cabdacabc28c579879d7c6a2919c66db473e72d1d64eed s
def authBody : BL := leb 4 0x44554101 ++ leb 2 1 ++ leb 2 7 ++ zeros 16 ++ leb 8 0 ++ leb 4 0 ++ leb 1 1 ++ zeros 27
def authSig : BL :=
  let r := 0xfac08b7798a0fe37411419f749ada86888a0a75fde841e18f1ee05fde48eecd30ded9cf00c480366f00ac278882d461
  beBytes 48 r ++ beBytes 48 r
def authMsg : BL := authBody ++ authSig
def c61 : FwCmd := fw 0x61 [(0x24, authMsg)]
/-- DEBUG_AUTH with a good authorisation, by the command and by the port. -/
theorem witness_authorised :
    runs (authKeyed (mk c61)) c61 ∧ c61.opcode = 0x61 ∧ (authKeyed (mk c61)).authResult ((c61.bytes? 0x24).getD []) = 1 := by
  unfold runs; decide +kernel
theorem witness_authorised_port : (authKeyed port_).held = false ∧ (authKeyed port_).authResult authMsg = 1 := by decide +kernel

def lcKeyed (s : St) : St := owned
  0x997139b9107eec99948d8c0dc2af6a54a63febb61777100c158d390371630cded0d5a6b5cf9ca2c508448ff9fdf7fb20
  0xf8eaf8c25dbfb76fb3148096a35d066c5b61633ea8ede0a2e98edfc9878b95f77c1a156870246fac57f0dd6d5adf8b08 s
def lcSig : BL :=
  let r := 0x290fa81c1d933e1c863dfe0ffd2513be5d1f691a601803bc08e79252134480eb13ca8465e5af4dfa986b89b982f3f643
  beBytes 48 r ++ beBytes 48 r
def c60 : FwCmd := fw 0x60 [(0x1F, be 1 3), (0x20, lcSig)]
/-- LIFECYCLE_REQ with a good signature. -/
theorem witness_lifecycle :
    runs (lcKeyed (mk c60)) c60 ∧ c60.opcode = 0x60 ∧
    (lcKeyed (mk c60)).transitionKey 2 (c60.num 0x1F) = some (lcKeyed (mk c60)).ownerPub ∧
    (lcKeyed (mk c60)).fuses.lifecycle = 2 ∧
    ecVerify (sha384 ((lcKeyed (mk c60)).transitionBytes (c60.num 0x1F))) (lcKeyed (mk c60)).ownerPub
      ((c60.bytes? 0x20).getD []) = true := by unfold runs; decide +kernel

/-! ### Places that firmware draws -/

namespace Placing

def base : St := life 2 (((z.setPlot 5 p5).setBit Reg.PLT_STATUS 0 true).setReg64 Reg.PLT_QREG_BASE_LO 0x600000)
def cr : FwCmd := fw 0x10 [(0x02, be 2 9), (0x04, be 2 10), (0x05, be 1 2), (0x06, be 1 14), (0x07, be 2 3)]
def cr9 : FwCmd := { cr with target := 9 }

set_option maxRecDepth 100000 in
/-- Room for the tables of plot 9, in a state whose taken places are these. -/
theorem tables_found {s : State} (h9 : s.plots.plots = [(5, p5), (9, Plot.empty true cr9.newDesc)])
    (hk : s.keptRegions = [(0x100000000, 2 ^ 29), (0x600000000, 2 ^ 36), (0x200000000, 2 ^ 32), (0x500000000, 2 ^ 30),
      (0x400000000, 2 ^ 22), (0x410000000, 2 ^ 22)])
    (hr : s.replRegion = (0xA00000000, 0) ∧ s.reg64 Reg.JNL_LIVE_BASE_LO = 0x800000000 ∧ s.fld Reg.JNL_REGION 28 16 = 0 ∧
      s.dramSize = 2 ^ 36) : s.placeTables 9 ≠ none := by
  obtain ⟨hr, hl, hf, hd⟩ := hr
  have hp : s.plot 9 = some (Plot.empty true cr9.newDesc) := by simp [State.plot, h9, List.lookup]
  intro h
  have h5 : (p5.spaces.map fun e => e.2.range) = [(0x700000, 65536)] ∧ p5.sptBase = 0x504000 ∧ p5.libBase = 0x500000 ∧
      p5.execBase = scratchBase + 0x180000 ∧ p5.exec.length = 64 := by decide +kernel
  simp only [State.placeTables, Option.bind_eq_none_iff, Option.map_eq_none_iff] at h
  have h1 : s.placeFor (2 ^ 13) (2 ^ 13) ≠ none := by
    refine placeIn_found 0x120000000 ?_ (by simp [hd]) ?_
    · simp [State.takenRegions, hk]
    · simp [State.takenRegions, hk, hr, hl, hf, h9, h5, Plot.empty, rangesShare, scratchBase]
  obtain ⟨spt, hs⟩ := Option.ne_none_iff_exists'.mp h1
  refine absurd (h spt hs) ?_
  have ht : (s.drawn.mapPlot 9 fun x => { x with sptBase := spt }).takenRegions =
      [(0x100000000, 2 ^ 29), (0x600000000, 2 ^ 36), (0x200000000, 2 ^ 32), (0x500000000, 2 ^ 30), (0x400000000, 2 ^ 22), (0x410000000, 2 ^ 22),
       (0xA00000000, 0), (0x800000000, 0), (0x700000, 65536), (0x504000, 2 ^ 13), (0x500000, 2 ^ 15), (scratchBase + 0x180000, 64),
       (spt, 2 ^ 13), (0, 2 ^ 15), (0, 0)] := by
    have hm : s.drawn.mapPlot 9 (fun x => { x with sptBase := spt }) =
        s.drawn.setPlot 9 { Plot.empty true cr9.newDesc with sptBase := spt } := by
      have : s.drawn.plot 9 = some (Plot.empty true cr9.newDesc) := hp
      simp [State.mapPlot, this]
    have hk' : (s.drawn.setPlot 9 { Plot.empty true cr9.newDesc with sptBase := spt }).keptRegions = s.keptRegions := rfl
    have hr' : (s.drawn.setPlot 9 { Plot.empty true cr9.newDesc with sptBase := spt }).replRegion = s.replRegion := rfl
    have hl' : (s.drawn.setPlot 9 { Plot.empty true cr9.newDesc with sptBase := spt }).reg64 Reg.JNL_LIVE_BASE_LO = s.reg64 Reg.JNL_LIVE_BASE_LO := rfl
    have hf' : (s.drawn.setPlot 9 { Plot.empty true cr9.newDesc with sptBase := spt }).fld Reg.JNL_REGION 28 16 = s.fld Reg.JNL_REGION 28 16 := rfl
    have hp' : (s.drawn.setPlot 9 { Plot.empty true cr9.newDesc with sptBase := spt }).plots.plots =
        sput s.plots.plots 9 { Plot.empty true cr9.newDesc with sptBase := spt } := rfl
    rw [hm, State.takenRegions, hk', hr', hl', hf', hp', h9, hk, hr, hl, hf]
    simp [sput, h5, Plot.empty]
  have hd' : (s.drawn.mapPlot 9 fun x => { x with sptBase := spt }).dramSize = 2 ^ 36 := by
    have : (s.drawn.mapPlot 9 fun x => { x with sptBase := spt }).dramSize = s.dramSize := by
      unfold State.mapPlot
      split <;> rfl
    rw [this, hd]
  rcases share_once (a := 0x120000000) (b := 0x300000000) (size := 2 ^ 15) (r := (spt, 2 ^ 13)) (by simp) with hc | hc
  · refine placeIn_found 0x120000000 (List.mem_map.mpr ⟨(0x100000000, 2 ^ 29), by rw [ht]; exact List.mem_cons_self, rfl⟩)
      (by simp [hd']) ?_
    rw [ht]
    simp only [List.mem_cons, List.not_mem_nil, or_false, forall_eq_or_imp, forall_eq, hc, true_and]
    simp [rangesShare, scratchBase]
  · refine placeIn_found 0x300000000 (List.mem_map.mpr ⟨(0x200000000, 2 ^ 32),
      by rw [ht]; exact List.mem_cons_of_mem _ (List.mem_cons_of_mem _ List.mem_cons_self), rfl⟩) (by simp [hd']) ?_
    rw [ht]
    simp only [List.mem_cons, List.not_mem_nil, or_false, forall_eq_or_imp, forall_eq, hc, true_and]
    simp [rangesShare, scratchBase]

/-- A state in which PLOT_CREATE of plot 9 runs, with a partner or without. -/
def crs (b : Bool) : St := (dram (cs cr9 base)).setBit Reg.TWN_STATUS 5 b

theorem createPlot_found (b : Bool) : State.createPlot (crs b) 9 cr9.newDesc ≠ none :=
  tables_found (by revert b; decide +kernel) (by revert b; decide +kernel) (by revert b; decide +kernel)

/-- PLOT_CREATE runs, with a partner to tell and without one. -/
theorem witness_plotCreate (b : Bool) :
    runs (crs b) cr9 ∧ cr9.opcode = 0x10 ∧ (crs b).pltReady = true ∧ (crs b).plotUsed cr9.target = false ∧
    (crs b).ownShares cr9.target + cr9.num 0x04 ≤ 1024 ∧ (crs b).createPlot cr9.target cr9.newDesc ≠ none ∧ cr9.stage = .fresh ∧
    cr9.target ≠ 0 ∧ (crs b).noPartner = b := by
  refine ⟨?_, ?_, ?_, ?_, ?_, createPlot_found b, ?_, ?_, ?_⟩
  case refine_1 => unfold runs; revert b; decide +kernel
  all_goals revert b; decide +kernel

def qcr : FwCmd := fw 0x17 [(0x02, be 2 5), (0x03, be 2 7), (0x0D, be 2 64 ++ be 1 0 ++ be 1 0)]
def qpr : QPair := { qp with depth := 64, slotsz := 0, sqBase := 0x501000000, cqBase := 0x502000000, dedupBase := 0x503000000 }
def mq : St := (dram (cs qcr base)).mapPlots fun p => { p with qpairs := [qpr] }

set_option maxRecDepth 100000 in
/-- QUEUE_CREATE finds room in the queue region, whatever firmware draws. -/
theorem queuePlaces_found : mq.queuePlaces 0 64 ≠ none := by
  have hq : mq.plots.qpairs.flatMap QPair.ranges = [(0x501000000, 16384), (0x502000000, 20480), (0x503000000, 2 ^ 17)] := by
    decide +kernel
  have hb : mq.reg64 Reg.PLT_QREG_BASE_LO = 0x500000000 ∧ mq.fld Reg.PLT_QREG 8 0 = 1 := by decide +kernel
  have one (s : State) (hs : s.plots = mq.plots ∧ s.ctl = mq.ctl) (size : Nat) (more : List (Nat × Nat)) (a : Nat)
      (ha : a ∈ [0x501004000, 0x502005000, 0x503020000]) (hz : size ≤ 2 ^ 17) (hm : ∀ r ∈ more, rangesShare (a, size) r = false) :
      s.queuePlace size more ≠ none := by
    have h1 : s.reg64 Reg.PLT_QREG_BASE_LO = 0x500000000 := by rw [← hb.1]; simp [State.reg64, State.reg, hs.2]
    have h2 : s.fld Reg.PLT_QREG 8 0 = 1 := by rw [← hb.2]; simp [State.fld, State.reg, hs.2]
    unfold State.queuePlace
    simp only [h1, h2, hs.1, hq]
    simp only [List.mem_cons, List.not_mem_nil, or_false] at ha
    refine placeIn_found a ?_ ?_ ?_
    · rcases ha with rfl | rfl | rfl <;> simp
    · rcases ha with rfl | rfl | rfl <;> omega
    · intro r hr
      rcases List.mem_append.mp hr with hr | hr
      · exact hm r hr
      · simp only [List.mem_cons, List.not_mem_nil, or_false] at hr
        rcases ha with rfl | rfl | rfl <;> rcases hr with rfl | rfl | rfl <;>
          simp only [rangesShare, decide_eq_false_iff_not, not_and, not_lt] <;> omega
  intro h
  simp only [State.queuePlaces, Option.bind_eq_none_iff, Option.map_eq_none_iff] at h
  obtain ⟨sq, hsq⟩ := Option.ne_none_iff_exists'.mp
    (one mq ⟨rfl, rfl⟩ (64 * slotBytes 0) [] 0x501004000 (by simp) (by decide) (by simp))
  obtain ⟨cq, hcq⟩ : ∃ cq, mq.drawn.queuePlace (64 * 320) [(sq, 64 * slotBytes 0)] = some cq := by
    refine Option.ne_none_iff_exists'.mp ?_
    rcases share_once (a := 0x501004000) (b := 0x502005000) (size := 64 * 320) (r := (sq, 64 * slotBytes 0)) (by simp [slotBytes, slotRoom]) with hc | hc
    · exact one mq.drawn ⟨rfl, rfl⟩ _ _ 0x501004000 (by simp) (by decide) (by simpa using hc)
    · exact one mq.drawn ⟨rfl, rfl⟩ _ _ 0x502005000 (by simp) (by decide) (by simpa using hc)
  refine absurd (h sq hsq cq hcq) ?_
  obtain ⟨x, hx, h1, h2⟩ := three_places (a := 0x501004000) (b := 0x502005000) (c := 0x503020000) (size := 2 ^ 17)
    (r := (sq, 64 * slotBytes 0)) (t := (cq, 64 * 320)) ⟨by simp [slotBytes, slotRoom], by simp [slotBytes, slotRoom]⟩ ⟨by simp, by simp⟩
  exact one mq.drawn.drawn ⟨rfl, rfl⟩ _ _ x hx (by decide) fun r hr => by
    rcases List.mem_cons.mp hr with rfl | hr
    · exact h1
    · exact List.mem_singleton.mp hr ▸ h2

/-- The witness of QUEUE_CREATE. -/
theorem witness_queueCreate :
    runsAlone mq qcr ∧ mq.plot qcr.target = some p5 ∧ qcr.opcode = 23 ∧ mq.qpair qcr.target (qcr.num 3) = none ∧
    mq.qcount qcr.target < p5.desc.qmax ∧ mq.freePool ≠ none ∧
    mq.queuePlaces (beAt ((qcr.bytes? 13).getD []) 2 1) (beAt ((qcr.bytes? 13).getD []) 0 2) ≠ none := by
  refine ⟨?_, ?_, ?_, ?_, ?_, ?_, ?_⟩
  case refine_7 =>
    have h : beAt ((qcr.bytes? 13).getD []) 2 1 = 0 ∧ beAt ((qcr.bytes? 13).getD []) 0 2 = 64 := by decide +kernel
    rw [h.1, h.2]
    exact queuePlaces_found
  all_goals first | decide +kernel | (unfold runsAlone runs; decide +kernel)

end Placing

/-! ### Jobs -/

/-- A descriptor of the cipher block with its source and destination in the scratchpad. -/
def cipherDesc (op : Nat) : BL :=
  fitTo 128 (leb 1 op ++ leb 1 4 ++ zeros 2 ++ leb 2 0 ++ leb 2 300 ++ zeros 8 ++ leb 8 0x200000100000 ++ leb 8 0x200000120000 ++
    leb 4 32 ++ leb 4 3 ++ leb 8 0x200000130000 ++ zeros 16 ++ leb 4 16)
def cipherJob (cancel : Bool) (op : Nat) : CphJob :=
  { id := 9, engine := 4, desc := 0x200000110000, plot := 0, atD := true, furrow := none, bytes := cipherDesc op, cancel := cancel,
    started := true }
def ciphering (cancel : Bool) (op : Nat) : St := z.mapCipher fun c => { c with jobs := [cipherJob cancel op], nextId := 10 }

/-- A started job of every operation (GCM_ENC, GCM_DEC, XTS_ENC, XTS_DEC, CMAC_GEN, CMAC_VER, SHA384, SHA512, HMAC384,
HMAC512, DERIVE, UNWRAP, SIGN, VERIFY, PUBKEY), cancelled or not, that reads its source and its additional data. -/
theorem witness_cipherJobs :
    ∀ op ∈ [1, 2, 3, 4, 5, 6, 7, 8, 9, 10, 16, 17, 24, 25, 26], ∀ cancel : Bool,
      let s := ciphering cancel op
      let j := cipherJob cancel op
      (s.cipher.jobs.find? fun j => j.id = 9) = some j ∧ cOp j.bytes = op ∧ (s.cphOn j.engine).map (fun x => x.id) = some 9 ∧
      j.started = true ∧ j.cancel = cancel ∧ s.cphRead j (cSrc j.bytes) (srcBytes j.bytes) = some (zeros (srcBytes j.bytes)) ∧
      s.cphRead j (cAad j.bytes) (if op = 1 ∨ op = 2 then cAadLen j.bytes else 0) =
        some (zeros (if op = 1 ∨ op = 2 then 3 else 0)) := by decide +kernel

/-- A job whose result has been given and one that fills a slot; a job that does not stream. -/
theorem witness_cipherEnd :
    (cipherJob false 1).furrow = none ∧ ({ status := 0, out := [], fill := some (310, ksl 3 0 5 4) } : CphResult).fill = some (310, ksl 3 0 5 4) ∧
    (gives [1]).fill = none ∧ (streams (cOp (cipherJob false 7).bytes) = false ∨ (cipherJob false 7).started = false) := by decide +kernel

/-- A Thresher job that decompresses, cancelled; a job store that is full. -/
def thrJob : ThrJob :=
  { id := 7, desc := 0x200000110000, plot := 0, bytes := fitTo 64 [2], stops := [], furrow := none, arrival := 5, engine := some 2,
    started := 0, cancel := true }
def threshing : St := { z with thresher := { z.thresher with jobs := [thrJob], nextId := 8 } }
def storeFull : St :=
  let s := z.setBit Reg.THR_CTRL 0 true
  { s with thresher := { s.thresher with jobs := List.replicate 1024 thrJob, nextId := 8 } }
theorem witness_thresher :
    threshing.thrOn 2 = some thrJob ∧ dOp thrJob.bytes = 2 ∧ thrJob.cancel = true ∧
    storeFull.writesReg .firmware Reg.THR_SUBMIT_HI = true ∧ 0x200000110000 % 64 = 0 ∧ 0x200000110000 < 2 ^ 46 ∧
    storeFull.bit Reg.THR_CTRL 0 = true ∧ storeFull.safe = false ∧ storeFull.agentStatus 13 0x200000110000 64 = .ok ∧
    storeFull.thrFull (leAt (storeFull.bytes 0x200000110000 64) 4 2 % 4096) = true := by decide +kernel

/-! ### Furrow and Weft -/

/-- A program's command that waits for a path (PATHWAIT_EXPIRE). -/
def waitOp : FrwOp :=
  { id := 4, plot := 0, optag := 99, unit := none, queue := none, kind := .program, block := 0x200000110000, bytes := zeros 128, next := 0
    busy := true, engines := [], parts := 0, acked := true, issued := true, done := none, epoch := 0, lba := 0, blocks := 0, ending := none }
def waitCmd : FrwCmd :=
  { tag := 29, op := 4, group := 3, path := none, issued := 0, write := true, what := 1, args := [1, 8, 2, 0x200000140000], bytes := [], redrive := 0 }
def pathless : St := z.mapFurrow fun w => { w with ops := [waitOp], cmds := [waitCmd], nextOp := 5, nextTag := 30 }
theorem witness_pathwaitExpire :
    pathless.op waitCmd.op = some waitOp ∧ waitOp.id = waitCmd.op ∧ waitOp.kind = .program ∧ waitOp.ending = none ∧
    pathless.furrow.cmds = [waitCmd] ∧ waitCmd.path = none ∧ pathless.readyPaths waitCmd.group = [] ∧
    waitCmd.issued + pathless.fld Reg.FRW_CFG 15 8 * 10000000 < (pathless.advance 3000000000000).time := by decide +kernel

/-- A remote write to a journaled record of a transaction that holds the stake (REC_WRITE). -/
def party9 : Party := { dev := 9, slot := 4, stamp := 100, seq := 3, attempt := 1 }
def recHome : St :=
  let s := ((dram z).setFld Reg.JNL_REGION 28 16 1).setPlot 5
    { plot0 with spaces := [(1, { base := 0x800000000, pages := 16, attr := 0x3F })] }
  let s := s.mapStakes fun k => { k with entries := [{ slice := 2, bucket := 0, way := 0, ns := 5, key := 3, excl := true, holders := [party9]
                                                       waiters := [], hdev := 9, hslot := 4 }] }
  s
theorem witness_recWrite :
    recHome.safe = false ∧ recHome.recSegment 9 5 (some 4) 0x40 3 true = some (0x800000040, true) ∧
    (recHome.remLinesOf 9 4).length < 480 ∧ 0x40 % 64 + 3 ≤ 64 ∧ recHome.reg64 Reg.JNL_LIVE_BASE_LO % 64 = 0 ∧
    hasLine (recHome.remLinesOf 9 4) (0x40 / 64 * 64) = false := by decide +kernel


/-! ### DRAM -/

def sheaf3 : Sheaf := { sheaf0 with epoch := 3, sealed := true, acked := true, len := 300, header := List.replicate 128 1, body := zeros 100
                                    chain := zeros 48, mac := zeros 24 }
/-- Unit 0 at level 1 with a cacheable segment of DRAM. -/
def cached : St :=
  let s := (at_ 1 [(1, 0x140), (2, 0x95)]).setReg Reg.MEM_CHSTAT (BitVec.ofNat 32 (2 ^ 31 + 2 ^ 16))
  s.mapPlot 5 fun p => { p with spaces := p.spaces ++ [(2, { base := 0x100000, pages := 32, attr := 0x6F })] }
def cachedLocked : St := cached.setBit (clsReg Reg.CLS_L2LOCK 0) 2 true
def dramPl : Place := { pa := 0x100140, cacheable := true, journaled := false, pairArea := false }

/-- A line of DRAM can be filled, whichever channel holds it. -/
theorem cached_fillable : cachedLocked.fillable 0 dramPl.pa = true := by
  have h : (cachedLocked.answerOf 0 dramPl.pa).1 = .ok := by
    rw [answerOf_dram (by decide +kernel) (by decide +kernel) (by decide +kernel)]
  have hc : ∀ t, cachedLocked.creditLeft 0 t = true := by
    intro t
    have hw : cachedLocked.warp.held = [] := by decide +kernel
    simp only [State.creditLeft, hw, List.filter_nil, List.length_nil]
    split <;> simp
  simp [State.fillable, h, State.creditOut, hc]

/-- PRELOAD of a line that is not there, and the fill of a locked set. -/
theorem witness_preload :
    cachedLocked.fetches 0 = true ∧ goesTo cachedLocked 0 2 (lineEa cachedLocked 0 ⟨1, 2, 0⟩) 1 .read .line dramPl ∧
    cachedLocked.region dramPl.pa = .dram ∧ 1 ≤ (archOf cachedLocked 0).level ∧ dramPl.cacheable = true ∧
    cachedLocked.fillable (clusterOf (pairOf 0)) dramPl.pa = true ∧
    (cachedLocked.line? (clusterOf (pairOf 0)) dramPl.pa).isNone = true ∧
    cachedLocked.filling (clusterOf (pairOf 0)) dramPl.pa = false ∧
    (cachedLocked.chooseWay (clusterOf (pairOf 0)) dramPl.pa).isSome = true ∧
    (cachedLocked.emptyLocked (clusterOf (pairOf 0)) dramPl.pa).isSome = true := by
  refine ⟨?_, ?_, ?_, ?_, ?_, cached_fillable, ?_, ?_, ?_, ?_⟩
  all_goals first | decide +kernel | (unfold goesTo; decide +kernel)

/-- An executive's load in memory of DRAM, and a library's. -/
def execCmd : FwCmd := fw 0x22 [(0x02, be 2 5), (0x0F, be 4 4), (0x10, [1, 2, 3, 4]), (0x25, be 1 1)]
def libCmd : FwCmd := fw 0x20 [(0x02, be 2 5), (0x0E, be 1 1), (0x0F, be 4 32), (0x10, [1, 2, 3, 4, 5])]
def space1 : Space := { base := 0x700000, pages := 16, attr := 0x2F }
theorem witness_execLoad :
    runsAlone (dram (mk execCmd)) execCmd ∧ (dram (mk execCmd)).plot execCmd.target = some p5 ∧ execCmd.opcode = 34 ∧
    (dram (mk execCmd)).qcount execCmd.target = 0 ∧ execCmd.num 37 = 1 ∧
    (dram (mk execCmd)).placeFor (p5.stage (execCmd.num 15) ((execCmd.bytes? 16).getD [])).image.length 4096 ≠ none := by
  refine ⟨?_, ?_, ?_, ?_, ?_, ?_⟩
  case refine_6 =>
    refine placeIn_found 0x120000000 ?_ ?_ ?_
    · decide +kernel
    · decide +kernel
    · decide +kernel
  all_goals first | decide +kernel | (unfold runsAlone runs; decide +kernel)
theorem witness_libLoad :
    runsAlone (dram (mk libCmd)) libCmd ∧ (dram (mk libCmd)).plot libCmd.target = some p5 ∧ libCmd.opcode = 32 ∧
    p5.spaces.lookup (libCmd.num 14) = some space1 ∧ space1.attr.testBit 0 = true ∧ space1.attr.testBit 3 = true ∧
    space1.attr.testBit 5 = true ∧ libCmd.num 15 + ((libCmd.bytes? 16).getD []).length ≤ 4096 * space1.pages ∧
    (dram (mk libCmd)).region (space1.base + libCmd.num 15) ≠ .remote ∧
    ((dram (mk libCmd)).answerOf 12 (space1.base + libCmd.num 15)).1 = .ok := by
  refine ⟨?_, ?_, ?_, ?_, ?_, ?_, ?_, ?_, ?_, ?_⟩
  case refine_10 => rw [answerOf_dram (by decide +kernel) (by decide +kernel) (by decide +kernel)]
  all_goals first | decide +kernel | (unfold runsAlone runs; decide +kernel)

/-- The debugger reads and writes DRAM. -/
def mdata : St := ((dram z).setReg64 Reg.DBG_MADDR_LO 0x5000).setBytes 0x5000 [1, 2, 3, 4]
theorem witness_mdata :
    mdata.held = false ∧ mdata.dbgReaches .debugger false Reg.DBG_MDATA = true ∧ mdata.dbgReaches .debugger true Reg.DBG_MDATA = true ∧
    mdata.mdataDenied .debugger = false ∧ mdata.region (mdata.reg64 Reg.DBG_MADDR_LO) = .dram ∧
    (mdata.mdataAnswer (mdata.reg64 Reg.DBG_MADDR_LO)).1 = .ok ∧ mdata.poisonIn (mdata.reg64 Reg.DBG_MADDR_LO) 4 = false := by
  refine ⟨?_, ?_, ?_, ?_, ?_, ?_, ?_⟩
  case refine_6 =>
    have h : mdata.region (mdata.reg64 Reg.DBG_MADDR_LO) = .dram := by decide +kernel
    rw [State.mdataAnswer, h]
    simp only
    rw [answerOf_dram h (by decide +kernel) (by decide +kernel)]
  all_goals decide +kernel

/-- The seal of an epoch with no transaction open in any unit (SEAL_VOTES). -/
def sealing : St := z.mapTick fun k => { k with sealing := some (seal0 false) }
theorem witness_sealVotes :
    sealing.tick.sealing = some (seal0 false) ∧ (seal0 false).voted = false ∧ sealing.tick.afterRb = false ∧ sealing.weft.votes = [] ∧
    ∀ u, (sealing.unit u).txn = none :=
  ⟨rfl, rfl, by decide, rfl, fun _ => rfl⟩

/-- The key of a generation that none is held for (SHEAF_KEY_DERIVE). -/
theorem witness_sheafKey :
    z.safe = false ∧ (1 = keyGen z.epoch ∨ 1 = keyGen z.epoch + 1) ∧ z.heldSheafKey 1 = none ∧
    ∃ k, z.sheafKey 1 = some k := ⟨by decide +kernel, by decide +kernel, by decide +kernel, _, rfl⟩

/-- An own sheaf that finds no room in its namespace, whatever its size (DESTAGE_EXTENT). -/
def destaging : St :=
  let s := ((((pu (dram z)).setBit Reg.FRW_CTRL 0 true).setBit Reg.THR_CTRL 0 true).setBit Reg.THR_STATUS 0 true).setBit Reg.FRW_CFG 29 false
  let s := ((s.setReg64 Reg.JNL_RING_BASE_LO (0x200000100000 - z.undoSize)).setFld Reg.FRW_NSDST 25 0 2).mapJournal fun j => { j with sheaves := [sheaf3] }
  s.mapFurrow fun w => { w with nextLba := 20, keepLba := 21 }
theorem witness_noRoom :
    destaging.frwReady = true ∧ destaging.safe = false ∧ destaging.furrow.restore = none ∧ destaging.noPartner = false ∧
    (∀ o ∈ destaging.furrow.ops, o.id < destaging.furrow.nextOp) ∧ destaging.ownToDestage = some sheaf3 ∧
    destaging.fld Reg.FRW_NSDST 25 0 ≠ 0 ∧ (destaging.destaging false).length < 8 ∧ destaging.sheafLost sheaf3 = false ∧
    destaging.furrow.placed.lookup sheaf3.epoch = none ∧
    let size := destaging.nsSize Reg.FRW_NSDST
    size - 16 ≤ (destaging.furrow.nextLba + (size - 16) - destaging.furrow.keepLba) % max 1 (size - 16) +
      (destaging.extentOf size destaging.furrow.nextLba sheaf3).1.length / 4096 := by
  refine ⟨?_, ?_, ?_, ?_, ?_, ?_, ?_, ?_, ?_, ?_, ?_⟩
  case refine_11 =>
    have hl : destaging.furrow.nextLba = 20 ∧ destaging.furrow.keepLba = 21 := by decide +kernel
    have hn (size lba : Nat) : 1 ≤ (destaging.extentOf size lba sheaf3).1.length / 4096 := by
      simp only [State.extentOf, fitTo, List.length_take, List.length_append, zeros, List.length_replicate]
      omega
    intro size
    rw [hl.1, hl.2]
    have := hn size 20
    generalize size - 16 = m at *
    rcases Nat.eq_zero_or_pos m with rfl | h
    · omega
    · rw [Nat.max_eq_right h, Nat.mod_eq_of_lt (by omega)]; omega
  all_goals decide +kernel

/-! ### Clause by clause -/


namespace P2

def s0 := at_ 0 [(1, 0x123)]
def s1 := at_ 1 [(1, 0xFFFFFFFF)]
def e1 : Exc := { code := 4, sub := 2, sp := 1, addr := 0x1234, async := false }
def e9 : Exc := { code := 9, sub := 2, sp := 0, addr := 0x1234, async := true }
def s0x := (s0.mapArch 0 fun a => a.mapSr fun r => { r with psw := 0x78 })
def win2 (s : Sys2Proof.Machine.State) := s.mapArch 0 fun a => { a with win := a.win.push (some 4), sr := { a.sr with epc := 0x40, epsw := 0xFFFFFFF0, eispc := 0x501, depc := 0x44, depsw := 0x1, deispc := 0x502 } }
def s1w := win2 s1
def st1 : Sys2Proof.Machine.State := s0.mapUnit 0 fun x => { x with stores := [{ id := 1, unit := 0, pa := scratchBase, data := [1], kind := .scratch, slot := none, mark := none, strong := false }] }
def fen : Sys2Proof.Machine.State := s0.mapUnit 0 fun x => { x with wait := .fence .cluster }
/-- ExceptionEntry meets its hypotheses. -/
theorem witness_ExceptionEntry_1 :
    (0 < 192 ∧ (archOf s0 0).level < 2 ∧ e1.code ∉ [9, 12, 13] ∧ canTakeE s0 0 = true) ∧
    ((e9.code ∈ [9, 12, 13] ∨ (archOf s0 0).level = 2 ∧ e9.code ≠ 11) ∧ (¬((archOf s0 0).level = 2 ∧ (archOf s0 0).exl = true))) ∧
    (0 < 192 ∧ (archOf s0x 0).level < 2 ∧ e1.code ∉ [9, 12, 13] ∧ canTakeE s0x 0 = false) := by
  refine ⟨?_, ?_, ?_⟩ <;> decide +kernel

/-- FencesAndWaits meets its hypotheses: FENCE_CLUSTER, FENCE_CORE, FENCE_DEVICE, IFENCE, WAITI. -/
theorem witness_FencesAndWaits_1 :
    (s0.fetches 0 = true ∧ (⟨0, 0, 0, 0⟩ : SysF).rsv = 0 ∧ (⟨0, 0, 0, 0⟩ : SysF).rd = 0 ∧ (⟨0, 0, 0, 0⟩ : SysF).ra = 0 ∧ (⟨0, 0, 0, 0⟩ :
      SysF).sr = 0 ∧ s0.storesPast 0 Scope.unit = true) ∧
    (s0.fetches 0 = true ∧ (⟨0, 0, 0, 0⟩ : SysF).rsv = 0 ∧ (⟨0, 0, 0, 0⟩ : SysF).rd = 0 ∧ (⟨0, 0, 0, 0⟩ : SysF).ra = 0 ∧ (⟨0, 0, 0, 0⟩ :
      SysF).sr = 0 ∧ s0.storesPast 0 Scope.pair = true) ∧
    (s0.fetches 0 = true ∧ (⟨0, 0, 0, 0⟩ : SysF).rsv = 0 ∧ (⟨0, 0, 0, 0⟩ : SysF).rd = 0 ∧ (⟨0, 0, 0, 0⟩ : SysF).ra = 0 ∧ (⟨0, 0, 0, 0⟩ :
      SysF).sr = 0 ∧ s0.storesPast 0 Scope.cluster = true ∧ s0.remoteDone 0 = true) ∧
    (s1.fetches 0 = true ∧ (⟨0, 0, 0, 0⟩ : SysF).rsv = 0 ∧ (⟨0, 0, 0, 0⟩ : SysF).rd = 0 ∧ (⟨0, 0, 0, 0⟩ : SysF).ra = 0 ∧ (⟨0, 0, 0, 0⟩ :
      SysF).sr = 0 ∧ 1 ≤ (archOf s1 0).level) := by
  refine ⟨?_, ?_, ?_, ?_⟩ <;> decide +kernel

/-- FencesAndWaits meets its hypotheses: FENCE_COMPLETE, FENCE_CORE. -/
theorem witness_FencesAndWaits_2 :
    (st1.fetches 0 = true ∧ (⟨0, 0, 0, 0⟩ : SysF).rsv = 0 ∧ (⟨0, 0, 0, 0⟩ : SysF).rd = 0 ∧ (⟨0, 0, 0, 0⟩ : SysF).ra = 0 ∧ (⟨0, 0, 0, 0⟩ :
      SysF).sr = 0 ∧ st1.storesPast 0 Scope.unit = false) ∧
    ((fen.unit 0).wait = Wait.fence Scope.cluster ∧ (true || fen.fenceDone 0 Scope.cluster) = true ∧ (fen.unit 0).halted = false ∧
      fen.safe = false) := by
  refine ⟨?_, ?_⟩ <;> decide +kernel

/-- SpecialRegisters meets its hypotheses: RDFEAT, RDSR, WRSR. -/
theorem witness_SpecialRegisters_1 :
    (0 ≤ 2) ∧
    (s0.fetches 0 = true ∧ (⟨0, 1, 1, 0⟩ : SysF).rsv = 0 ∧ (⟨0, 1, 1, 0⟩ : SysF).rd = 0 ∧ (archOf s0 0).level ≤ 2) ∧
    (s0.fetches 0 = true ∧ (⟨0, 1, 11, 0⟩ : SysF).rsv = 0 ∧ (⟨0, 1, 11, 0⟩ : SysF).rd = 0 ∧ (archOf s0 0).level ≤ 2 ∧ (⟨0, 1, 11, 0⟩ :
      SysF).sr ∈ [10#8, 11#8, 48#8, 49#8]) ∧
    (s1.fetches 0 = true ∧ (⟨0, 1, 8, 0⟩ : SysF).rsv = 0 ∧ (⟨0, 1, 8, 0⟩ : SysF).rd = 0 ∧ (archOf s1 0).level ≤ 2 ∧ (⟨0, 1, 8, 0⟩ :
      SysF).sr = 8 ∧ (archOf s1 0).level = 1) ∧
    (s0.fetches 0 = true ∧ (⟨9, 0, 0, 0⟩ : SysF).rsv = 0 ∧ (⟨9, 0, 0, 0⟩ : SysF).ra = 0) ∧
    (s0.fetches 0 = true ∧ (⟨9, 0, 48, 0⟩ : SysF).rsv = 0 ∧ (⟨9, 0, 48, 0⟩ : SysF).ra = 0 ∧ (⟨9, 0, 48, 0⟩ : SysF).sr = 48) := by
  refine ⟨?_, ?_, ?_, ?_, ?_, ?_⟩ <;> decide +kernel

/-- CallsAndIllegalInstructions meets its hypotheses: BREAK, DCALL, RDSR. -/
theorem witness_CallsAndIllegalInstructions_1 :
    (s0.fetches 0 = true ∧ (⟨0, 0, 0, 0⟩ : SysF).rsv = 0 ∧ (⟨0, 0, 0, 0⟩ : SysF).rd = 0 ∧ (⟨0, 0, 0, 0⟩ : SysF).ra = 0 ∧ (s0.pair (pairOf
      0)).brkHalt = false) ∧
    (s1.fetches 0 = true ∧ (⟨0, 0, 0, 0⟩ : SysF).rsv = 0 ∧ (⟨0, 0, 0, 0⟩ : SysF).rd = 0 ∧ (⟨0, 0, 0, 0⟩ : SysF).ra = 0 ∧ 1 ≤ (archOf s1
      0).level) ∧
    (s0.fetches 0 = true ∧ (⟨0, 0, 254, 0⟩ : SysF).rsv = 0 ∧ (⟨0, 0, 254, 0⟩ : SysF).ra = 0 ∧ srAccess (⟨0, 0, 254, 0⟩ : SysF).sr.toNat =
      none) := by
  refine ⟨?_, ?_, ?_⟩ <;> decide +kernel

/-- ReturnFromException meets its hypotheses: ERET. -/
theorem witness_ReturnFromException_1 :
    (s1w.fetches 0 = true ∧ (⟨0, 0, 0, 0⟩ : SysF).rsv = 0 ∧ (⟨0, 0, 0, 0⟩ : SysF).rd = 0 ∧ (⟨0, 0, 0, 0⟩ : SysF).ra = 0 ∧ (⟨0, 0, 0, 0⟩ :
      SysF).sr = 0 ∧ 1 ≤ (archOf s1w 0).level ∧ 1 < (archOf s1w 0).win.resident) := by decide +kernel

end P2

namespace P32

def bk : St := (at_ 0 []).mapPair 0 fun p => { p with brkHalt := true }
def sysf : SysF := ⟨0,0,0,0⟩
def lku : St := z.setBit (pairReg Reg.CLS_UCCTRL 3) 31 true
def dm := Master.debugger
def pubk : BL := ecPublic 5
def cfg (s : St) : St := { s with boot := { s.boot with config := pubk } }
def ln : St := cfg (life 2 z)
/-- DebugPort meets its hypotheses: AUTH_CLEAR, AUTH_COMMIT. -/
theorem witness_DebugPort_1 :
    (State.held ln = false ∧ State.dbgReaches ln dm true Reg.DBG_AUTHCTRL = true) := by decide +kernel

/-- CallsAndIllegalInstructions meets its hypotheses: BREAK, DCALL, ECALL, ERET, WAITI. -/
theorem witness_CallsAndIllegalInstructions_2 :
    (State.fetches bk 0 = true ∧ sysf.rsv = 0 ∧ sysf.rd = 0 ∧ sysf.ra = 0 ∧ (archOf bk 0).level = 0 ∧ sysf.sr = 0) ∧
    (State.fetches bk 0 = true ∧ sysf.rsv = 0 ∧ sysf.rd = 0 ∧ sysf.ra = 0 ∧ (State.pair bk (pairOf 0)).brkHalt = true) := by
  refine ⟨?_, ?_⟩ <;> decide +kernel

/-- ControlStoreAndTakeovers meets its hypotheses: UC_CLEAR. -/
theorem witness_ControlStoreAndTakeovers_1 :
    (3 < 96 ∧ State.writesReg lku Master.firmware (pairReg Reg.CLS_UCCTRL 3) = true ∧ State.ucLocked lku 3 = true) := by decide +kernel

end P32

namespace P1

def w1 := at_ 0 [(1, 0x80000001), (2, 0xFFFFFFFF), (9, 5)]
def wf := (at_ 0 []).mapArch 0 fun a => (a.setF 1 0x4008000000000000).setF 2 0x40800000BF800000
def full := (at_ 0 []).mapArch 0 fun a => { a with win := (List.range 16).foldl (fun w i => w.push (some (BitVec.ofNat 32 (i+1)))) { a.win with frames := [{v := zeroWords 8, n := [1,2,3,4,5,6,7,8]}]} }
def full16 := full.mapArch 0 fun a => { a with win := { a.win with frames := a.win.frames.take 16, baseC := [9,9,9,9,9,9,9,9] } }
def full16b := full16.mapArch 0 fun a => a.mapSr fun r => { r with wsp := 0x4000 }
def one := (at_ 0 []).mapArch 0 fun a => { a with win := {a.win with depth := 1} }
/-- RegisterWindow meets its hypotheses: CALL, RET. -/
theorem witness_RegisterWindow_1 :
    (((archOf full16 0).win.frames ≠ [])) ∧
    (full16b.fetches 0 = true ∧ 16 ≤ (archOf full16b 0).win.resident ∧ (BitVec.toNat (archOf full16b 0).sr.wsp < 16448 ∨ 32768 <
      BitVec.toNat (archOf full16b 0).sr.wsp)) ∧
    (full16.fetches 0 = true ∧ 16 ≤ (archOf full16 0).win.resident ∧ 16448 ≤ BitVec.toNat (archOf full16 0).sr.wsp ∧ BitVec.toNat (archOf
      full16 0).sr.wsp ≤ 32768 ∧ (full16.unit 0).stores.length < 32) ∧
    (one.fetches 0 = true ∧ (⟨0, 0, 0⟩ : ImmF).rd = 0 ∧ (⟨0, 0, 0⟩ : ImmF).ra = 0 ∧ (⟨0, 0, 0⟩ : ImmF).imm = 0 ∧ (archOf one 0).pcf =
      false ∧ (archOf one 0).level = 0 ∧ (archOf one 0).win.depth = 1) ∧
    (full16.fetches 0 = true ∧ (⟨0, 0, 0⟩ : ImmF).rd = 0 ∧ (⟨0, 0, 0⟩ : ImmF).ra = 0 ∧ (⟨0, 0, 0⟩ : ImmF).imm = 0 ∧ (archOf full16 0).pcf
      = false ∧ (¬((archOf full16 0).level = 0 ∧ (archOf full16 0).win.depth = 1)) ∧ BitVec.toNat ((archOf full16 0).win.top.v.getD 7 0) %
      4 = 0 ∧ 1 < (archOf full16 0).win.resident) := by
  refine ⟨?_, ?_, ?_, ?_, ?_⟩ <;> decide +kernel

/-- IntegerRegisterWriteReads meets its hypotheses. -/
theorem witness_IntegerRegisterWriteReads_1 :
    (sized (regs [(9, 7)] (arch0 0))) := by unfold sized; decide +kernel

/-- FloatingPointRegisters meets its hypotheses. -/
theorem witness_FloatingPointRegisters_1 :
    (sized (arch0 0)) := by unfold sized; decide +kernel

/-- FloatResult meets its hypotheses: FCVT_D_S, FCVT_S_D, FMA. -/
theorem witness_FloatResult_1 :
    (2143289344 < 2 ^ (fmtOf false).width ∧ 2139095041 < 2 ^ (fmtOf false).width ∧ (((fmtOf false).unpack 2143289344).isNan || ((fmtOf
      false).unpack 2139095041).isNan) = true) ∧
    (2143289344 < 2 ^ (fmtOf false).width ∧ 2139095041 < 2 ^ (fmtOf false).width ∧ (((fmtOf false).unpack 2143289344).isNan && ((fmtOf
      false).unpack 2139095041).isNan) = true) ∧
    (wf.fetches 0 = true ∧ (⟨9, 1, 0, 0⟩ : RegF).fc = 0 ∧ (⟨9, 1, 0, 0⟩ : RegF).rb = 0) ∧
    (9218868437227405313 < 2 ^ (fmtOf true).width ∧ 4607182418800017408 < 2 ^ (fmtOf true).width ∧ (((fmtOf true).unpack
      9218868437227405313).isNan && !((fmtOf true).unpack 4607182418800017408).isNan) = true) := by
  refine ⟨?_, ?_, ?_, ?_⟩ <;> decide +kernel

/-- FloatToIntegerAndMoves meets its hypotheses: FMVFI, FMVFIH, FMVIF. -/
theorem witness_FloatToIntegerAndMoves_1 :
    (wf.fetches 0 = true ∧ (⟨9, 2, 0, 0⟩ : RegF).fc = 0 ∧ (⟨9, 2, 0, 0⟩ : RegF).rb = 0) := by decide +kernel

/-- BranchesAndJumps meets its hypotheses: BEQ, BNE, BR, CALL, CALLR, JMPR. -/
theorem witness_BranchesAndJumps_1 :
    (w1.fetches 0 = true ∧ (⟨0, 9, 3⟩ : ImmF).rd = 0 ∧ BitVec.toNat ((archOf w1 0).reg (⟨0, 9, 3⟩ : ImmF).ra + BitVec.signExtend 32
      (⟨0, 9, 3⟩ : ImmF).imm) % 4 = 0 ∧ (archOf w1 0).win.resident < 16) ∧
    (w1.fetches 0 = true ∧ (⟨0, 9, 4⟩ : ImmF).rd = 0 ∧ (BitVec.toNat ((archOf w1 0).reg (⟨0, 9, 4⟩ : ImmF).ra + BitVec.signExtend 32
      (⟨0, 9, 4⟩ : ImmF).imm) % 4 ≠ 0)) ∧
    (w1.fetches 0 = true ∧ (¬(Instr.bne, fun (a b : Word) => a ≠ b).2 ((archOf w1 0).reg (⟨1, 1, 5⟩ : BrcF).ra) ((archOf w1 0).reg
      (⟨1, 1, 5⟩ : BrcF).rb))) ∧
    (w1.fetches 0 = true ∧ ((Instr.beq, fun (a b : Word) => a = b).2 ((archOf w1 0).reg (⟨1, 1, 5⟩ : BrcF).ra) ((archOf w1 0).reg
      (⟨1, 1, 5⟩ : BrcF).rb))) := by
  refine ⟨?_, ?_, ?_, ?_⟩ <;> decide +kernel

/-- IntegerArithmetic meets its hypotheses: LUI. -/
theorem witness_IntegerArithmetic_1 :
    (w1.fetches 0 = true ∧ (⟨31, 0, 32768⟩ : ImmF).ra = 0) ∧
    (w1.fetches 0 = true ∧ (⟨31, 1, 31, 0⟩ : ShiF).rsv = 0) ∧
    (w1.fetches 0 = true ∧ (⟨9, 1, 0, 0⟩ : RegF).fc = 0 ∧ (⟨9, 1, 0, 0⟩ : RegF).rb = 0) := by
  refine ⟨?_, ?_, ?_⟩ <;> decide +kernel

end P1

namespace P6a

abbrev St := Sys2Proof.Machine.State
def z : St := State.reset
def fd (a : Acc) : FieldDef := { hi := 7, lo := 4, acc := a, legal := [(1, 9)] }
def z2 := z.setReg64 Reg.ALM_HEAD_LO 0x9A
def rl2 := (regDef? Reg.STK_BASE_LO).getD ⟨0,0,0,0,0,.single,0,[]⟩
def rh2 := (regDef? Reg.STK_BASE_HI).getD ⟨0,0,0,0,0,.single,0,[]⟩
def z3 : St := { z with ctl := { z.ctl with held := [(Reg.STK_BASE_LO, 0x40000000)] } }
def z4 : St := { z with time := 0x1234567890 }
def z5 := z.setReg Reg.PAD_FUNC 3
/-- RegisterWrites meets its hypotheses. -/
theorem witness_RegisterWrites_1 :
    ((fd Acc.ro).lo ≤ (fd Acc.ro).hi ∧ (fd Acc.ro).hi < 32 ∧ ((fd Acc.ro).acc = Acc.ro ∨ (fd Acc.ro).acc = Acc.rs)) ∧
    ((fd Acc.w1c).lo ≤ (fd Acc.w1c).hi ∧ (fd Acc.w1c).hi < 32 ∧ (fd Acc.w1c).acc = Acc.w1c) ∧
    ((fd Acc.lock).lo ≤ (fd Acc.lock).hi ∧ (fd Acc.lock).hi < 32 ∧ (fd Acc.lock).acc = Acc.lock ∧ (bits 81 (fd Acc.lock).hi (fd
      Acc.lock).lo ≠ 0)) ∧
    ((fd Acc.lock).lo ≤ (fd Acc.lock).hi ∧ (fd Acc.lock).hi < 32 ∧ (fd Acc.lock).acc = Acc.lock ∧ bits 0 (fd Acc.lock).hi (fd Acc.lock).lo
      = 0) ∧
    ((fd Acc.wo).lo ≤ (fd Acc.wo).hi ∧ (fd Acc.wo).hi < 32 ∧ (fd Acc.wo).acc = Acc.wo) ∧
    ((fd Acc.rw).lo ≤ (fd Acc.rw).hi ∧ (fd Acc.rw).hi < 32 ∧ ((fd Acc.rw).acc = Acc.rw ∨ (fd Acc.rw).acc = Acc.rwl ∧ true = false)) ∧
    ((fd Acc.rwl).lo ≤ (fd Acc.rwl).hi ∧ (fd Acc.rwl).hi < 32 ∧ (fd Acc.rwl).acc = Acc.rwl ∧ true = true) ∧
    (errRegOf Reg.TCK_ERR = some Reg.TCK_ERR) := by
  refine ⟨?_, ?_, ?_, ?_, ?_, ?_, ?_, ?_⟩ <;> decide +kernel

/-- QuantitiesAndBalls meets its hypotheses: REG_PAIR_HI_READ, REG_PAIR_LO_READ, REG_PAIR_LO_WRITE. -/
theorem witness_QuantitiesAndBalls_1 :
    (z2.held = false ∧ Reg.STK_BASE_LO % 4 = 0 ∧ inDbg Reg.STK_BASE_LO = false ∧ regDef? Reg.STK_BASE_LO = some rl2 ∧ mayRead
      Master.executive Reg.STK_BASE_LO = false) ∧
    (z2.held = false ∧ Reg.STK_BASE_LO % 4 = 0 ∧ inDbg Reg.STK_BASE_LO = false ∧ regDef? Reg.STK_BASE_LO = some rl2 ∧ rl2.role =
      PairRole.lo ∧ z2.readsReg Master.firmware Reg.STK_BASE_LO = true ∧ z2.readSide Master.firmware Reg.STK_BASE_LO = none) ∧
    (z2.held = false ∧ Reg.STK_BASE_LO % 4 = 0 ∧ inDbg Reg.STK_BASE_LO = false ∧ regDef? Reg.STK_BASE_LO = some rl2 ∧ rl2.role =
      PairRole.lo ∧ rl2.writable = true ∧ z2.writesReg Master.firmware Reg.STK_BASE_LO = true) ∧
    (State.held z3 = false ∧ Reg.STK_BASE_HI % 4 = 0 ∧ inDbg Reg.STK_BASE_HI = false ∧ regDef? Reg.STK_BASE_HI = some rh2 ∧ rh2.role =
      PairRole.hi ∧ State.readsReg z3 Master.firmware Reg.STK_BASE_HI = true ∧ State.readSide z3 Master.firmware Reg.STK_BASE_HI = none) := by
  refine ⟨?_, ?_, ?_, ?_⟩ <;> decide +kernel

/-- QuantitiesAndBalls meets its hypotheses: REG_PAIR_HI_WRITE, REG_PAIR_LO_READ, RESOURCE_TAKE. -/
theorem witness_QuantitiesAndBalls_2 :
    (State.held z3 = false ∧ Reg.STK_BASE_HI % 4 = 0 ∧ inDbg Reg.STK_BASE_HI = false ∧ regDef? Reg.STK_BASE_HI = some rh2 ∧ rh2.role =
      PairRole.hi ∧ rh2.writable = true ∧ State.writesReg z3 Master.firmware Reg.STK_BASE_HI = true ∧ submits Reg.STK_BASE_HI = false ∧ 4
      ≤ Reg.STK_BASE_HI ∧ (rh2.lockable && State.locked z3 Reg.STK_BASE_HI) = false ∧ BitVec.toNat (State.heldLo z3 Reg.STK_BASE_HI) + 2 ^
      32 * BitVec.toNat (5 : Word) &&& rh2.zeroMask = 0) ∧
    (z5.pinLoser SharedPin.tickIn = true ∧ z5.pinWinner SharedPin.tickIn = false) ∧
    (State.held z4 = false ∧ State.readsReg z4 Master.firmware Reg.TCK_TIME_LO = true) := by
  refine ⟨?_, ?_, ?_⟩ <;> decide +kernel

end P6a

namespace P26

def spareC (c : Nat) (s : St) : St := (List.range 8).foldl (fun s i => s.setRole (8*c+i) 2) s
def onP (b : Bool) (s : St) : St := (s.setReg Reg.PCK_CLSPWR (if b then 0 else 4#32)).setReg Reg.PCK_CLSPWRSTAT (if b then 4#32 else 0x4000)
def wd (e : Bool) (s : St) : St := (s.setReg Reg.PCK_WDOG (if e then 0x80000005 else 0)).mapPower fun p => { p with wdog := if e then some 3 else none }
/-- SensorsAndClocks meets its hypotheses: CCLK_STEP, CLOCK_MONITOR_TRIP, RAIL_EXCURSION, RAIL_SAMPLE, TAMPER_EVENT, TEMP_SAMPLE.
-/
theorem witness_SensorsAndClocks_1 :
    ((State.setReg (tx 1) Reg.LCT_TMASK 5).held = false ∧ 0 < 8) ∧
    ((State.setReg (tx 1) Reg.LCT_TMASK 5).held = false ∧ 0 < 16 ∧ 0 < 1024 ∧ (0 < 12 → (State.setReg (tx 1) Reg.LCT_TMASK 5).domainOff 0
      = false)) ∧
    ((State.setReg (tx 1) Reg.LCT_TMASK 5).held = false ∧ 0 < 12) ∧
    ((State.setReg (tx 1) Reg.LCT_TMASK 5).held = false ∧ 0 < 40 ∧ (0 ≠ 38) ∧ (State.setReg (tx 1) Reg.LCT_TMASK 5).domainOff 0 = false) ∧
    ((State.setReg (tx 1) Reg.LCT_TMASK 5).held = false ∧ 1 < 4 ∧ (State.setReg (tx 1) Reg.LCT_TMASK 5).power.on = true ∧ BitVec.getLsbD
      (State.setReg (tx 1) Reg.LCT_TMASK 5).tamperMask 1 = false) ∧
    ((State.setReg (tx 1) Reg.LCT_TMASK 5).held = false ∧ 0 < 4 ∧ (State.setReg (tx 1) Reg.LCT_TMASK 5).power.on = true ∧ BitVec.getLsbD
      (State.setReg (tx 1) Reg.LCT_TMASK 5).tamperMask 0 = true) := by
  refine ⟨?_, ?_, ?_, ?_, ?_, ?_⟩ <;> decide +kernel

/-- ClusterPowerAndWatchdog meets its hypotheses: WDOG_ENABLE, WDOG_EXPIRE, WDOG_KICK. -/
theorem witness_ClusterPowerAndWatchdog_1 :
    (State.held (wd false z) = false ∧ State.writesReg (wd false z) Master.firmware Reg.PCK_WDOG = true ∧ 0 < bits (5#32) 7 0 ∧ State.bit
      (wd false z) Reg.PCK_WDOG 31 = false) ∧
    (State.held (wd true z) = false ∧ (wd true z).power.wdog = some 3 ∧ (wd true z).evral.stewHalt = false ∧ (State.advance (wd true z)
      3).msPassed (3 + State.fld (wd true z) Reg.PCK_WDOG 7 0 * 1000000) = false) ∧
    (State.held (wd true z) = false ∧ (wd true z).power.wdog = some 3 ∧ (wd true z).evral.stewHalt = false ∧ (State.advance (wd true z)
      6000003).msPassed (3 + State.fld (wd true z) Reg.PCK_WDOG 7 0 * 1000000) = true) ∧
    (State.held (wd true z) = false ∧ State.writesReg (wd true z) Master.firmware Reg.PCK_WDOG = true ∧ 0 < bits (6#32) 7 0 ∧ State.bit
      (wd true z) Reg.PCK_WDOG 31 = true ∧ (bits (6#32) 7 0 ≠ State.fld (wd true z) Reg.PCK_WDOG 7 0)) ∧
    (State.held (wd true z) = false ∧ State.writesReg (wd true z) Master.firmware Reg.PCK_WDOG = true ∧ 0 < bits (2147483653#32) 7 0 ∧
      State.bit (wd true z) Reg.PCK_WDOG 31 = true ∧ bits (2147483653#32) 7 0 = State.fld (wd true z) Reg.PCK_WDOG 7 0 ∧
      (2147483653#32).getLsbD 31 = true) := by
  refine ⟨?_, ?_, ?_, ?_, ?_⟩ <;> decide +kernel

/-- ClusterPowerAndWatchdog meets its hypotheses: CLUSTER_POWER_DOWN, CLUSTER_POWER_UP. -/
theorem witness_ClusterPowerAndWatchdog_2 :
    (State.held z = false ∧ 2 < 12 ∧ State.writesReg z Master.firmware Reg.PCK_CLSPWR = true ∧ (∀ k < 12, k ≠ 2 → (4#32).getLsbD k =
      State.bit z Reg.PCK_CLSPWR k) ∧ (4#32).getLsbD 2 = true ∧ State.bit z Reg.PCK_CLSPWR 2 = false ∧ (¬((∀ p ∈ pairsOfCluster 2,
      State.role z p = roleSpare ∨ State.role z p = roleRetired) ∧ (State.cluster z 2).stores = [] ∧ (∀ p ∈ pairsOfCluster 2, (State.pair
      z p).stores = []) ∧ (∀ u ∈ unitsOfCluster 2, (State.unit z u).stores = []) ∧ (∀ l ∈ (State.cluster z 2).lines, l.mark = none) ∧
      State.bit z (clsReg Reg.CLS_SPSTAT 2) 16 = false))) ∧
    ((State.setReg (onP true (spareC 2 z)) Reg.PCK_CLSPWR 4#32).held = false ∧ 2 < 12 ∧ (State.setReg (onP true (spareC 2 z))
      Reg.PCK_CLSPWR 4#32).writesReg Master.firmware Reg.PCK_CLSPWR = true ∧ (∀ k < 12, k ≠ 2 → (0#32).getLsbD k = (State.setReg (onP true
      (spareC 2 z)) Reg.PCK_CLSPWR 4#32).bit Reg.PCK_CLSPWR k) ∧ (0#32).getLsbD 2 = false ∧ (State.setReg (onP true (spareC 2 z))
      Reg.PCK_CLSPWR 4#32).bit Reg.PCK_CLSPWR 2 = true ∧ (State.setReg (onP true (spareC 2 z)) Reg.PCK_CLSPWR 4#32).bit Reg.PCK_CLSPWRSTAT
      2 = true ∧ List.lookup 2 (State.setReg (onP true (spareC 2 z)) Reg.PCK_CLSPWR 4#32).power.powering = none) ∧
    (State.held (spareC 2 z) = false ∧ 2 < 12 ∧ State.writesReg (spareC 2 z) Master.firmware Reg.PCK_CLSPWR = true ∧ (∀ k < 12, k ≠ 2 →
      (4#32).getLsbD k = State.bit (spareC 2 z) Reg.PCK_CLSPWR k) ∧ (4#32).getLsbD 2 = true ∧ State.bit (spareC 2 z) Reg.PCK_CLSPWR 2 =
      false ∧ ((∀ p ∈ pairsOfCluster 2, State.role (spareC 2 z) p = roleSpare ∨ State.role (spareC 2 z) p = roleRetired) ∧ (State.cluster
      (spareC 2 z) 2).stores = [] ∧ (∀ p ∈ pairsOfCluster 2, (State.pair (spareC 2 z) p).stores = []) ∧ (∀ u ∈ unitsOfCluster 2,
      (State.unit (spareC 2 z) u).stores = []) ∧ (∀ l ∈ (State.cluster (spareC 2 z) 2).lines, l.mark = none) ∧ State.bit (spareC 2 z)
      (clsReg Reg.CLS_SPSTAT 2) 16 = false) ∧ List.lookup 2 (spareC 2 z).power.powering = none) := by
  refine ⟨?_, ?_, ?_⟩ <;> decide +kernel

end P26

namespace P8

def ring (s : St) : St := (((s.setFld Reg.JNL_RINGCFG 9 0 4).setFld Reg.JNL_RINGCFG 19 16 1).setReg64 Reg.JNL_RING_BASE_LO 0x40000000).setReg64 Reg.JNL_LIVE_BASE_LO 0x200000000
def cw : CommitWait := { unit := 0, slot := 4, rlen := 0 }
def cap0 : St := ((ring (tx 1)).mapJournal fun j => { j with waits := [cw], undo := [{ epoch := z.epoch, recs := [] }] }).mapUnit 0 fun x => { x with wait := .commit 0, lines := [{ off := 0x40, before := List.replicate 64 1, after := List.replicate 64 2 }] }
def cap1 := cap0.setFld Reg.JNL_RINGCFG 9 0 1
def q0 : St := (at_ 0 []).mapPlots fun p => { p with qpairs := [qp] }
def jr5 : JRecord := { jr with reqid := 77, plot := 5, queue := 1, result := [1,2,3] }
def rec77 := jr5.bytes
def shr : Sheaf := { sheaf0 with body := rec77 }
def ie : RIdxEntry := { bucket := 0, way := 0, reqid := 77, plot := 5, queue := 1, epoch := 3, offset := 128 }
def q1 : St := (ring q0).mapJournal fun j => { j with ownIdx := [ie], sheaves := [shr] }
def psh (k : SheafKind) : Sheaf := { sheaf0 with kind := k, body := [], sealed := true, acked := true }
def ap0 : St := (((ring z).setBit Reg.JNL_CTRL 1 true).mapJournal fun j => { j with sheaves := [psh .partner], notices := [3] })
def br : BodyRec := { at_ := 0, reqid := 77, plot := 9, queue := 1, span := false, result := [], lines := [(0x40, List.replicate 64 9)] }
def ap1 : St := ((z.setFld Reg.JNL_REGION 12 0 1).setBit Reg.TWN_STATUS 3 true).setReg64 Reg.JNL_REPL_BASE_LO 0x300000000
def ib : St := (ring z).mapJournal fun j => { j with initBusy := true }
def pd (s : St) : St := (pairedS (ring s)).setBit Reg.JNL_STATUS 0 true
def p0 := own 1 2 (pd z)
/-- PartnerMessages meets its hypotheses: ROLLBACK_NOTICE, SEAL_COMPLETE_NOTICE. -/
theorem witness_PartnerMessages_1 :
    (paired (State.setBit p0 Reg.TWN_STATUS 3 true) ∧ (State.setBit p0 Reg.TWN_STATUS 3 true).reg64 Reg.JNL_APPLIED_LO < 1 ∧ (State.setBit
      p0 Reg.TWN_STATUS 3 true).reg64 Reg.JNL_APPLIED_LO < 1 ∧ (∀ h ∈ (State.setBit p0 Reg.TWN_STATUS 3 true).journal.sheaves, h.kind =
      SheafKind.partner → h.epoch ≠ 1 ∧ h.epoch ≠ 1)) ∧
    (paired (State.setBit p0 Reg.TWN_STATUS 3 true) ∧ 0 ≤ (State.setBit p0 Reg.TWN_STATUS 3 true).reg64 Reg.JNL_APPLIED_LO) ∧
    (paired (State.setBit p0 Reg.TWN_STATUS 3 true) ∧ (State.setBit p0 Reg.TWN_STATUS 3 true).replOk = true ∧ (State.setBit p0
      Reg.TWN_STATUS 3 true).own = 1) := by
  refine ⟨?_, ?_, ?_⟩ <;> (unfold paired; decide +kernel)

/-- PartnerMessages meets its hypotheses: HANDBACK_NOTICE. -/
theorem witness_PartnerMessages_2 :
    ((paired (own 5 2 (State.mapTwin (pd z) fun (w : Twin) => { w with returning := true }))) ∧ 77 < 2 ^ 64 ∧ ((own 5 2 (State.mapTwin (pd
      z) fun (w : Twin) => { w with returning := true })).twin.returning = true) ∧ (State.own (own 5 2 (State.mapTwin (pd z) fun (w :
      Twin) => { w with returning := true })) = 5) ∧ (State.ownPlots (own 5 2 (State.mapTwin (pd z) fun (w : Twin) =>
      { w with returning := true })) = []) ∧ (∀ h ∈ (own 5 2 (State.mapTwin (pd z) fun (w : Twin) =>
      { w with returning := true })).journal.sheaves, h.kind ≠ SheafKind.partner)) := by unfold paired; decide +kernel

/-- JournalEngine meets its hypotheses: JNL_INIT, JNL_READY, REQUEST_INDEX_LOOKUP, SHEAF_APPLY_DONE. -/
theorem witness_JournalEngine_1 :
    (ib.journal.initBusy = true ∧ State.bit ib Reg.JNL_CTRL 2 = false) ∧
    (State.ownRecord ap1 br = false ∧ br.lines = [(64, List.replicate 64 9)] ∧ 64 < State.fld ap1 Reg.JNL_REGION 12 0 * 2 ^ 30 ∧ 64 <
      State.replCursor ap1) ∧
    (State.slotAt q0 5 1 9 = some (qp, qs) ∧ qs.txn = true ∧ qs.sstate = SState.waiting ∧ qs.checked = true ∧ qs.look = true ∧ qp.draining
      = false ∧ State.safe q0 = false ∧ State.indexLookup q0 qs.reqid 5 1 = none) ∧
    (State.writesReg (ring z) Master.firmware Reg.JNL_CTRL = true ∧ State.bit (ring z) Reg.JNL_STATUS 0 = false ∧ (State.writeFields (ring
      z) Reg.JNL_CTRL (2147483648 ||| 1)).bit Reg.JNL_CTRL 31 = true) ∧
    (State.nextToApply ap0 = some (psh SheafKind.partner) ∧ State.safe ap0 = false ∧ State.mayApply ap0 (psh SheafKind.partner) = true ∧
      (psh SheafKind.partner).records = [] ∧ (psh SheafKind.partner).epoch < 2 ^ 64) := by
  refine ⟨?_, ?_, ?_, ?_, ?_⟩ <;> decide +kernel

/-- JournalEngine meets its hypotheses: CAPTURE_ACCEPT, REQUEST_INDEX_LOOKUP. -/
theorem witness_JournalEngine_2 :
    (State.slotAt q1 5 1 9 = some (qp, qs) ∧ qs.txn = true ∧ qs.sstate = SState.waiting ∧ qs.checked = true ∧ qs.look = true ∧ qp.draining
      = false ∧ State.safe q1 = false ∧ State.indexLookup q1 qs.reqid 5 1 = some (3, [1, 2, 3])) ∧
    (cap1.journal.waits = [cw] ∧ cap1.mayRetire cw.unit = true ∧ cap1.tslot cw.slot = some slot4 ∧ cap1.capPoisoned cw.unit = false ∧
      cap1.weft.spans = [] ∧ cap1.commitBlock (cap1.epochAt cw.unit) cw.rlen (cap1.unit cw.unit).lines.length = some 9) ∧
    (cap0.journal.waits = [cw] ∧ State.mayRetire cap0 cw.unit = true ∧ State.tslot cap0 cw.slot = some slot4 ∧ State.capPoisoned cap0
      cw.unit = false ∧ cap0.weft.spans = [] ∧ State.commitBlock cap0 (State.epochAt cap0 cw.unit) cw.rlen (State.unit cap0
      cw.unit).lines.length = none ∧ (State.unit cap0 cw.unit).txn = some cw.slot) := by
  refine ⟨?_, ?_, ?_⟩ <;> decide +kernel

end P8

namespace P9

def h0 := own 1 2 (pairedS z)
def rp (o : Nat) : St := (own o 2 (pairedS z)).mapTwin fun w => { w with reports := [100] }
def ju : St := (((own 1 2 (pairedS z)).setFld Reg.TWN_STATUS 23 16 255).mapTwin fun w => { w with juniorFrom := some 100, partSeq := some 4 })
def sa (o : Nat) : St := ((own o 4 (pairedS z)).setBit Reg.TWN_STATUS 3 true).mapTwin fun w => { w with step := 1, stepTime := 50 }
def sb (o : Nat) : St := (sa o).mapTwin fun w => { w with step := 2 }
def lw : St := (own 1 5 (pairedS z)).mapTwin fun w => { w with waitEnd := 4000 }
def an (l : Nat) : Announce := { plot := 9, left := l, next := 100 }
def fw : FwCmd := { plot := 0, queue := 0, slotNo := 3, opcode := 0x8010, reqid := 8, target := 5, params := [], stage := .mirroring, arrival := 4, since := 0 }
def mw : MirrorWait := { tag := fw.tag, plot := 5, sent := 100 }
def mc : St := (z.mapTwin fun w => { w with mirrors := [mw] }).mapSteward fun w => { w with cmds := [fw] }
def ho : St := ((own 5 2 (pairedS z)).setBit Reg.TWN_RETURN 31 true).mapTwin fun w => { w with holdStart := some 10 }
def pz : St := ((pu z).setBit (portReg Reg.ETH_PCFG 0) 19 true).mapPort 0 fun x => { x with pauses := [(3, 1500)] }
/-- Ports meets its hypotheses: MAC_CONTROL_FRAME, PFC_PAUSE_EXPIRE, PORT_LINK_DOWN, PORT_LINK_UP, TSINFO_READ. -/
theorem witness_Ports_1 :
    (0 < 2 ∧ 3 < 8 ∧ 0 < 3 ∧ State.portUp pz 0 = true ∧ State.bit pz (portReg Reg.ETH_PCFG 0) (16 + 3) = true) ∧
    (0 < 2 ∧ 3 < 8 ∧ List.lookup 3 (State.port pz 0).pauses = some 1500 ∧ 1500 ≤ (State.advance pz 2000).time ∧ (State.port pz 0).txq =
      []) ∧
    (0 < 2 ∧ State.bit pz Reg.ETH_CTRL 0 = true) ∧
    (0 < 2 ∧ State.readsReg pz Master.firmware (portReg Reg.ETH_TSINFO 0) = true) := by
  refine ⟨?_, ?_, ?_, ?_⟩ <;> decide +kernel

/-- Twins meets its hypotheses: DESC_MIRROR_CONFIRM, LEASEWAIT_EXPIRE, RESERVATION_REPORT_DONE, RETURN_NOW, TAKEOVER_STEP_B_DONE.
-/
theorem witness_Twins_1 :
    (State.safe (rp 2) = false ∧ 100 ∈ (rp 2).twin.reports ∧ (rp 2).furrow.restore = none ∧ 100 + (State.advance (rp 2) 5000).leaseNs < 2
      ^ 64 ∧ State.own (rp 2) = 2 ∧ (State.advance (rp 2) 5000).timeBase < 100 + (State.advance (rp 2) 5000).leaseNs) ∧
    (State.safe (rp 2) = false ∧ 100 ∈ (rp 2).twin.reports ∧ (rp 2).furrow.restore = none ∧ 100 + (State.advance (rp 2) 5000).leaseNs < 2
      ^ 64 ∧ State.own (rp 2) = 2 ∧ (5 ≠ State.devId (rp 2))) ∧
    (State.safe (sb 1) = false ∧ (sb 1).twin.step = 2 ∧ (sb 1).cipher.blobs = [] ∧ State.own (sb 1) = 1) ∧
    (State.writesReg ho Master.firmware Reg.TWN_CTRL = true ∧ State.own ho = 5 ∧ ho.twin.returning = false) ∧
    (State.writesReg h0 Master.firmware Reg.TWN_CTRL = true ∧ (State.own h0 ≠ 5)) ∧
    (((mc.twin.mirrors.any fun (m : MirrorWait) => decide (m.tag = fw.tag)) = true)) ∧
    (State.safe lw = false ∧ State.part lw = 5 ∧ lw.twin.waitEnd ≤ (State.advance lw 5000).timeBase) := by
  refine ⟨?_, ?_, ?_, ?_, ?_, ?_, ?_⟩ <;> decide +kernel

/-- Twins meets its hypotheses: HOLDOFF_EXPIRE, JUNIOR_DELAY_EXPIRE, LEASE_END, TAKEOVER_STEP_A_DONE. -/
theorem witness_Twins_2 :
    (State.safe (sa 5) = false ∧ (sa 5).twin.step = 1 ∧ State.ownPlots (sa 5) = [] ∧ (sa 5).tick.sealing = none) ∧
    (State.safe ju = false ∧ ju.twin.juniorFrom = some 100 ∧ State.mayTakeOver ju = true ∧ 100 + State.fld ju Reg.TWN_JUNIOR 15 0 * 1000 <
      (State.advance ju 100000000).timeBase ∧ State.fld ju Reg.FRW_NSARBO 25 0 = 0) ∧
    (State.safe h0 = false ∧ (State.advance h0 5000).leaseValid = false ∧ (State.advance h0 5000).reg64 Reg.TWN_LEASEEND_LO <
      (State.advance h0 5000).timeBase ∧ State.own h0 = 1 ∧ State.ownPlots h0 = [] ∧ h0.tick.sealing = none) ∧
    (State.safe ho = false ∧ State.own ho = 5 ∧ ho.twin.returning = false ∧ ho.twin.holdStart = some 10 ∧ State.bit ho Reg.TWN_RETURN 31 =
      true ∧ State.bit ho Reg.TWN_CTRL 1 = false ∧ (State.advance ho 5000).timeBase < 10 + State.fld ho Reg.TWN_RETURN 11 0 * 1000000000) := by
  refine ⟨?_, ?_, ?_, ?_⟩ <;> decide +kernel

/-- Twins meets its hypotheses: ADOPT_COMPLETE, DESC_MIRROR_TIMEOUT, HOLDOFF_EXPIRE, TAKEOVER_STEP_A_DONE. -/
theorem witness_Twins_3 :
    (State.safe ho = false ∧ State.own ho = 5 ∧ ho.twin.returning = false ∧ ho.twin.holdStart = some 10 ∧ State.bit ho Reg.TWN_RETURN 31 =
      true ∧ State.bit ho Reg.TWN_CTRL 1 = false ∧ 10 + State.fld ho Reg.TWN_RETURN 11 0 * 1000000000 ≤ (State.advance ho
      50000000000000).timeBase) ∧
    (State.safe (sa 1) = false ∧ (sa 1).twin.step = 1 ∧ State.fld (sa 1) Reg.FRW_NSARBP 25 0 = 0 ∧ State.fld (sa 1) Reg.FRW_NSPDST 25 0 =
      0 ∧ State.fld (sa 1) Reg.FRW_NSPPLG 25 0 = 0 ∧ State.replOk (sa 1) = true ∧ (sa 1).twin.stepTime + (State.advance (sa 1)
      5000).leaseNs < 2 ^ 64) ∧
    ((List.find? (fun (m : MirrorWait) => decide (m.tag = fw.tag)) mc.twin.mirrors = some mw) ∧ mw.sent + 1000000 < (State.advance mc
      2000000).time ∧ State.safe mc = false ∧ (List.find? (fun (c : FwCmd) => decide (c.tag = fw.tag)) mc.steward.cmds = some fw) ∧
      State.noPartner mc = false) ∧
    (State.part (own 1 6 (pairedS z)) = 6 ∧ State.safe (own 1 6 (pairedS z)) = false ∧ State.nextToApply (own 1 6 (pairedS z)) = none ∧
      ((own 1 6 (pairedS z)).twin.step ≠ 3) ∧ State.own (own 1 6 (pairedS z)) = 1 ∧ State.replOk (own 1 6 (pairedS z)) = false ∧
      State.adoptedPlots (own 1 6 (pairedS z)) = [] ∧ (own 1 6 (pairedS z)).cipher.blobs = []) := by
  refine ⟨?_, ?_, ?_, ?_⟩ <;> decide +kernel

/-- Twins meets its hypotheses: DESC_MIRROR_TIMEOUT. -/
theorem witness_Twins_4 :
    ((List.find? (fun (m : MirrorWait) => decide (m.tag = fw.tag)) (State.setBit mc Reg.TWN_STATUS 5 true).twin.mirrors = some mw) ∧
      mw.sent + 1000000 < ((State.setBit mc Reg.TWN_STATUS 5 true).advance 2000000).time ∧ (State.setBit mc Reg.TWN_STATUS 5 true).safe =
      false ∧ (List.find? (fun (c : FwCmd) => decide (c.tag = fw.tag)) (State.setBit mc Reg.TWN_STATUS 5 true).steward.cmds = some fw) ∧
      (State.setBit mc Reg.TWN_STATUS 5 true).noPartner = true) := by decide +kernel

/-- Twins meets its hypotheses: ADDRESS_ANNOUNCE. -/
theorem witness_Twins_5 :
    ((List.find? (fun (a : Announce) => decide (a.plot = 9)) (State.mapTwin z fun (w : Twin) =>
      { w with announces := [an 3] }).twin.announces = some (an 3)) ∧ ((an 3).next ≤ ((State.mapTwin z fun (w : Twin) =>
      { w with announces := [an 3] }).advance 5000).time) ∧ ((State.mapTwin z fun (w : Twin) => { w with announces := [an 3] }).safe =
      false) ∧ ((State.mapTwin z fun (w : Twin) => { w with announces := [an 3] }).plot 9 = none)) := by decide +kernel

end P9

namespace P27

def dm := Master.debugger
def hl (s : St) : St := (((s.mapUnit 10 fun x => { x with halted := true, arch := { x.arch with pc := 5 } }).mapUnit 11 fun x => { x with halted := true }).setFld Reg.DBG_PCTRL 6 0 5).setFld Reg.DBG_RSEL 8 0 3
def md (a : Nat) (s : St) : St := ((dram s).setReg64 Reg.DBG_MADDR_LO a).setBytes 0x5000 [1,2,3,4]
def gr (s c d : Nat) : GleanRec := { seq := 6, source := s, cls := c, cleared := false, pin := false, lostBefore := false, preReset := false, time := 5, epoch := 0, detail := d, rep := 1 }
def gl (l : List GleanRec) (s : St) : St := s.mapGleaner fun g => { g with recs := l }
def smp (s : St) : St := s.mapAlmanac fun a => { a with samples := [⟨0x0C, 3, 50, 0⟩, ⟨0x0A, 3, 50, 0⟩] }
def wrt (s : St) : St := s.mapAlmanac fun a => { a with writing := some { seq := 7, image := List.replicate 2048 5 } }
def c3c (n : Nat) := fw 0x3C [(0x15, be 8 n)]
/-- GleanerAndAlmanac meets its hypotheses: ALMANAC_EARLY_GATHER, ALMANAC_INTERVAL, ALMANAC_SNAP, ALM_WINDOW0_READ,
ALM_WINDOW63_READ, GLEANER_EVENT, SNAPSHOT_WRITE_DONE. -/
theorem witness_GleanerAndAlmanac_1 :
    (0 < 512 ∧ 0 ≤ 6) ∧
    (State.readsReg (wrt z) Master.firmware Reg.GLN_REC = true) ∧
    (State.reg64 (wrt z) Reg.TCK_TICKCNT_LO = 0) ∧
    (max (wrt z).time 0 < (wrt z).almanac.start + BitVec.toNat (State.almCfg (wrt z) Reg.ALM_INTERVAL) * 1000000000) ∧
    (State.readsReg (wrt z) Master.firmware Reg.ALM_WINDOW = true) ∧
    (State.readsReg (wrt z) Master.firmware (Reg.ALM_WINDOW + 252) = true) ∧
    ((wrt z).almanac.writing = some ({ seq := 7, image := List.replicate 2048 5 } : SnapWrite) ∧ State.writesReg (wrt z) Master.firmware
      Reg.ALM_CTRL = true) ∧
    ((wrt z).almanac.writing = some ({ seq := 7, image := List.replicate 2048 5 } : SnapWrite) ∧
      ({ seq := 7, image := List.replicate 2048 5 } : SnapWrite).seq < 2 ^ 64) := by
  refine ⟨?_, ?_, ?_, ?_, ?_, ?_, ?_, ?_⟩ <;> decide +kernel

/-- GleanerAndAlmanac meets its hypotheses: ALMANAC_INTERVAL, ALMANAC_SNAP. -/
theorem witness_GleanerAndAlmanac_2 :
    ((smp z).almanac.writing = none ∧ State.writesReg (smp z) Master.firmware Reg.ALM_CTRL = true) ∧
    ((smp z).almanac.writing = none ∧ (smp z).almanac.start + BitVec.toNat (State.almCfg (smp z) Reg.ALM_INTERVAL) * 1000000000 ≤ max (smp
      z).time 5000000000000) := by
  refine ⟨?_, ?_⟩ <;> decide +kernel

/-- DebugPort meets its hypotheses: EVRAL_TRANSFER. -/
theorem witness_DebugPort_2 :
    (State.held z = false ∧ Reg.DBG_RSEL - Reg.DBG_ID < 131072 ∧ (Reg.DBG_RSEL - Reg.DBG_ID) % 4 = 0 ∧ z.evral.badData = false ∧
      State.portRefusal z true (Reg.DBG_ID + (Reg.DBG_RSEL - Reg.DBG_ID)) = none ∧ true = true ∧ decide (Reg.DBG_RSEL - Reg.DBG_ID = (crc8
      7#32).toNat) = false) ∧
    (State.held z = false ∧ Reg.DBG_RSEL - Reg.DBG_ID < 131072 ∧ (Reg.DBG_RSEL - Reg.DBG_ID) % 4 = 0 ∧ z.evral.badData = false ∧
      State.portRefusal z false (Reg.DBG_ID + (Reg.DBG_RSEL - Reg.DBG_ID)) = none ∧ false = false) ∧
    (State.held z = false ∧ Reg.DBG_RSEL - Reg.DBG_ID < 131072 ∧ (Reg.DBG_RSEL - Reg.DBG_ID) % 4 = 0 ∧ z.evral.badData = false ∧
      State.portRefusal z true (Reg.DBG_ID + (Reg.DBG_RSEL - Reg.DBG_ID)) = none ∧ true = true ∧ decide ((crc8 7#32).toNat = (crc8
      7#32).toNat) = true) ∧
    (State.held (hl z) = false ∧ 3 < 4 ∧ 5 < 65536 ∧ (5 ≠ 6 ∨ 5 ≠ (hcrcOf 3 5).toNat)) := by
  refine ⟨?_, ?_, ?_, ?_⟩ <;> decide +kernel

/-- DebugPort meets its hypotheses: DBG_MDATA_READ, DBG_MDATA_WRITE, DBG_RDATA_ACCESS, DEBUG_HALT, RESUME, STEP. -/
theorem witness_DebugPort_3 :
    (State.held (hl z) = false ∧ bits (261#32) 6 0 = 5 ∧ 5 < 96 ∧ State.dbgReaches (hl z) dm true Reg.DBG_PCTRL = true ∧ State.mayRun (hl
      z) dm 5 = true ∧ (State.unit (hl z) (2 * 5)).halted = true ∧ (State.unit (hl z) (2 * 5 + 1)).halted = true) ∧
    (State.held (hl z) = false ∧ State.dbgReaches (hl z) dm true Reg.DBG_RDATA = true ∧ State.hasScope (hl z) dm 1 = true ∧ State.fld (hl
      z) Reg.DBG_RSEL 8 0 = (3#5).toNat ∧ State.dbgPair (hl z) < 96 ∧ State.pairHalted (hl z) (State.dbgPair (hl z)) = true) ∧
    (State.held (md (controlBase + Reg.TWN_CFG) z) = false ∧ State.dbgReaches (md (controlBase + Reg.TWN_CFG) z) dm false Reg.DBG_MDATA =
      true ∧ State.dbgReaches (md (controlBase + Reg.TWN_CFG) z) dm true Reg.DBG_MDATA = true ∧ State.mdataDenied (md (controlBase +
      Reg.TWN_CFG) z) dm = true) ∧
    (State.held z = false ∧ bits (773#32) 6 0 = 5 ∧ 5 < 96 ∧ State.dbgReaches z dm true Reg.DBG_PCTRL = true ∧ State.mayRun z dm 5 = true
      ∧ State.pairHalted z 5 = false) := by
  refine ⟨?_, ?_, ?_, ?_⟩ <;> decide +kernel

/-- ClearingRecords meets its hypotheses: GLEANER_CLEAR, GLN_CLEAR. -/
theorem witness_ClearingRecords_1 :
    (runs (gl [gr 3 6 77] (mk (c3c 0))) (c3c 0) ∧ (c3c 0).opcode = 60 ∧ (c3c 0).num 21 = 0) ∧
    (State.writesReg (gl [gr 3 6 77, { (gr 4 1 2) with seq := 9 }] (State.setBit z Reg.GLN_STATUS 31 true)) Master.firmware Reg.GLN_CLEAR
      = true ∧ (6#32 ≠ 0) ∧ (List.find? (fun (r : GleanRec) => decide (r.seq = (6#32).toNat)) (gl [gr 3 6 77,
      { (gr 4 1 2) with seq := 9 }] (State.setBit z Reg.GLN_STATUS 31 true)).gleaner.recs = some (gr 3 6 77)) ∧ (¬((gr 3 6 77).cls ≠ 6 ∨
      State.bit (gl [gr 3 6 77, { (gr 4 1 2) with seq := 9 }] (State.setBit z Reg.GLN_STATUS 31 true)) Reg.GLN_STATUS 31 = false))) :=
  ⟨by unfold runs; decide +kernel,
   by decide +kernel⟩

/-- ClearingRecords meets its hypotheses: GLN_CLEAR. -/
theorem witness_ClearingRecords_2 :
    (State.writesReg (gl [gr 3 6 77, { (gr 4 1 2) with seq := 9 }] (State.setBit z Reg.GLN_STATUS 31 true)) Master.firmware Reg.GLN_CLEAR
      = true ∧ (9#32 ≠ 0) ∧ (List.find? (fun (r : GleanRec) => decide (r.seq = (9#32).toNat)) (gl [gr 3 6 77,
      { (gr 4 1 2) with seq := 9 }] (State.setBit z Reg.GLN_STATUS 31 true)).gleaner.recs = some { (gr 4 1 2) with seq := 9 }) ∧
      ({ (gr 4 1 2) with seq := 9 }.cls ≠ 6 ∨ State.bit (gl [gr 3 6 77, { (gr 4 1 2) with seq := 9 }] (State.setBit z Reg.GLN_STATUS 31
      true)) Reg.GLN_STATUS 31 = false)) := by decide +kernel

end P27

namespace P6b

abbrev St := Sys2Proof.Machine.State
def z : St := State.reset
def ex : St := (z.setFld Reg.TCK_SRC 1 0 1)
def up (l : Nat) (s : St) : St := s.mapLink l fun x => { x with state := .up }
def sy : St := (up 2 (up 3 (((z.setFld Reg.TCK_SRC 1 0 2).setFld Reg.TCK_SRC 6 4 2).setReg Reg.TCK_LINKDLY 123))).setReg Reg.WFT_TICKCFG 0xC
def tout : St := (z.mapTick fun k => { k with tickOut := true, tickOutEnd := 500 }).setBit Reg.TCK_TOUT 0 true
def pp : St := ((z.setBit Reg.PAD_FUNC 1 true).mapTick fun k => { k with ppsEnd := 100000 })
def zr := z.mapTick fun k => { k with resv := 70000 }
def sealZ (late : Bool) : Seal := { epoch := 3, openTime := 0, closeTime := 20000, period := 20, owed := [], cutoff := true, wbOwed := [], hashDone := true, macDone := true, acked := true, solo := true, span := false, voted := false, late := late }
def adm : St := zr.mapTick fun k => { k with admitted := true }
def late_ : St := adm.mapTick fun k => { k with sealing := some (sealZ true) }
def desc1 : Desc := { desc0 with share := 7 }
def pd : St := z.setPlot 5 { plot0 with next := some desc1 }
def safe_ : St := z.setBit Reg.GLN_STATUS 31 true
def rb1 (d : Bool) : Rollback := { first := 3, next := 5, restored := d, cause := .other, cleared := true, hbSeq := 0 }
def rbs (d : Bool) : St := zr.mapTick fun k => { k with admitted := true, rollback := some (rb1 d) }
/-- Ticks meets its hypotheses: PPS_OUT, TICK_IN_EDGE, TICK_SYMBOL_SEND. -/
theorem witness_Ticks_1 :
    (5 < 2 ^ 64 ∧ 5 + 65536 < zr.tick.resv) ∧
    (State.safe safe_ = true ∧ safe_.plots.plots = [] ∧ State.reg64 safe_ Reg.TCK_TICKCNT_LO + 1 < 2 ^ 64) ∧
    (State.safe (rbs true) = false ∧ (rbs true).tick.admitted = true ∧ (rbs true).tick.rollback = some (rb1 true) ∧ (rbs
      true).tick.sealing = none ∧ (rb1 true).restored = true ∧ State.rbCleared (rbs true) (rb1 true) = true ∧ (rb1 true).next < (rbs
      true).tick.resv ∧ (rb1 true).next < 2 ^ 64) ∧
    (State.safe late_ = false ∧ late_.tick.admitted = true ∧ late_.tick.rollback = none ∧ late_.tick.sealing = some (sealZ true) ∧ (sealZ
      true).late = true) ∧
    (((State.advance pp 100000).tickSel ≠ 1) ∧ (State.advance pp 100000).bit Reg.PAD_FUNC 0 = false) ∧
    (((State.advance pp 100000).tickSel ≠ 2) ∧ (State.advance pp 100000).expected ≤ (State.advance pp 100000).timeBase + 8000 ∧
      (State.advance pp 100000).tick.symbol = none ∧ (State.advance pp 100000).safe = false) ∧
    ((State.advance pp 100000).bit Reg.TCK_TOUT 0 = false ∧ (State.advance pp 100000).bit Reg.PAD_FUNC 1 = true ∧ (State.advance pp
      100000).bit Reg.PAD_STATUS 1 = false ∧ (State.advance pp 100000).tick.ppsEnd ≤ (State.advance pp 100000).time) := by
  refine ⟨?_, ?_, ?_, ?_, ?_, ?_, ?_⟩ <;> decide +kernel

/-- Ticks meets its hypotheses: LINK_DELAY_MEASURE, TICK, TICK_SYMBOL, TICK_WINDOW_CLOSE. -/
theorem witness_Ticks_2 :
    ((State.advance ex 21000).tickDue = false) ∧
    (((State.advance ex 21000).tickSel = 1 ∨ (State.advance ex 21000).tickSel = 2) ∧ (State.advance ex 21000).holdover = false ∧
      (State.advance ex 21000).tick.sched = none ∧ (State.advance ex 21000).held = false ∧ (State.advance ex 21000).expected +
      (State.advance ex 21000).windowNs ≤ (State.advance ex 21000).timeBase) ∧
    (State.safe (rbs false) = false ∧ (rbs false).tick.admitted = true ∧ (rbs false).tick.rollback = some (rb1 false) ∧ (rbs
      false).tick.sealing = none ∧ ((rbs false).tick.resv ≤ (rb1 false).next ∨ (rb1 false).restored = false)) ∧
    (State.tickSel sy = 2 ∧ State.linkUp sy (State.fld sy Reg.TCK_SRC 6 4) = true ∧ (sy.weft.delayTick = none ∨ ∃ (k : ℕ),
      sy.weft.delayTick = some k ∧ k + 1024 ≤ State.reg64 sy Reg.TCK_TICKCNT_LO)) ∧
    ((State.advance sy 12123).tickSel = 2 ∧ 2 = (State.advance sy 12123).fld Reg.TCK_SRC 6 4 ∧ (State.advance sy 12123).linkUp 2 = true ∧
      (State.advance sy 12123).safe = false ∧ (State.advance sy 12123).holdover = false ∧ (State.advance sy 12123).tick.sched = none ∧
      (State.advance sy 12123).tick.symbol = none ∧ 8000 ≤ 8000 ∧ (State.advance sy 12123).tick.aligned = false) ∧
    (5 < 2 ^ 64 ∧ z.tick.resv ≤ 5 + 65536 ∧ z.tick.resvWrite = none) := by
  refine ⟨?_, ?_, ?_, ?_, ?_, ?_⟩ <;> decide +kernel

/-- Ticks meets its hypotheses: TICK, TICK_IN_EDGE, TICK_OUT_END. -/
theorem witness_Ticks_3 :
    (State.safe adm = false ∧ adm.tick.admitted = true ∧ adm.tick.rollback = none ∧ adm.tick.sealing = none ∧ State.epoch adm + 1 <
      adm.tick.resv) ∧
    ((State.advance tout 500).tick.tickOut = true ∧ (State.advance tout 500).bit Reg.TCK_TOUT 0 = true ∧ (State.advance tout
      500).tick.tickOutEnd ≤ (State.advance tout 500).timeBase) ∧
    ((State.advance z 20000).held = false ∧ (State.advance z 20000).tickSel = 0 ∧ (State.advance z 20000).tick.sched = none ∧
      (State.advance z 20000).expected ≤ (State.advance z 20000).timeBase) ∧
    ((State.advance ex 19940).tickSel = 1 ∧ (State.advance ex 19940).tick.sched = none ∧ (State.advance ex 19940).holdover = false ∧
      inWindow (State.advance ex 19940) ((State.advance ex 19940).timeBase + 60)) ∧
    ((State.advance ex 18939).tickSel = 1 ∧ (State.advance ex 18939).tick.sched = none ∧ (State.advance ex 18939).holdover = false ∧
      (State.advance ex 18939).timeBase + 60 < (State.advance ex 18939).expected - (State.advance ex 18939).windowNs) ∧
    ((5, { plot0 with next := some desc1 }) ∈ pd.plots.plots ∧ { plot0 with next := some desc1 }.next = some desc1) :=
  ⟨by decide +kernel,
   by decide +kernel,
   by decide +kernel,
   by unfold inWindow; decide +kernel,
   by decide +kernel,
   by decide +kernel⟩

end P6b

namespace P30

def ppsin : St := z.setBit Reg.PAD_FUNC 0 true
def up (l : Nat) (s : St) : St := s.mapLink l fun x => { x with state := .up }
def sy : St := ((up 2 (up 3 (((z.setFld Reg.TCK_SRC 1 0 2).setFld Reg.TCK_SRC 6 4 2).setReg Reg.TCK_LINKDLY 123))).setReg Reg.WFT_TICKCFG 0xC).mapTick fun k => { k with aligned := true }
def sch : St := z.mapTick fun k => { k with sched := some 300 }
def rd (f : BitVec 8) : SysF := ⟨3, 0, f, 0⟩
def us : St := at_ 0 []
def c39 := fw 0x39 [(0x21, List.replicate 32 7)]
def att : St := wks [(0, ksl 6 0 5 4)] (mk c39)
def c3a := fw 0x3A [(0x15, be 8 5), (0x14, be 2 1)]
def snp : St := (mk c3a).mapAlmanac fun a => { a with circ := [(4, List.replicate 2048 1)] }
def snp6 : St := snp.setReg64 Reg.ALM_HEAD_LO 6
def c58 := fw 0x58 [(0x23, [1,2])]
def bs (n : Nat) (s : St) : St := s.mapBoot fun b => { b with stage := some n }
/-- CommandsOnDevice meets its hypotheses: ALMANAC_READ, ATTEST, PATH_SET. -/
theorem witness_CommandsOnDevice_1 :
    (runs att c39 ∧ c39.opcode = 57 ∧ State.slotSpent att 0 = false) ∧
    (runs snp6 c3a ∧ c3a.opcode = 58 ∧ c3a.num? 21 = some 5 ∧ c3a.num? 20 = some 1 ∧ State.snapshot? snp6 5 = none) ∧
    (runs (mk c58) c58 ∧ c58.opcode = 88 ∧ c58.stage = CmdStage.fresh ∧ pathOk ((c58.bytes? 35).getD []) = false) := by
  refine ⟨?_, ?_, ?_⟩ <;> (unfold runs; decide +kernel)

/-- Ticks meets its hypotheses: TICK, TICK_IN_EDGE, TICK_SYMBOL. -/
theorem witness_Ticks_4 :
    ((State.advance sch 300).held = false ∧ (State.advance sch 300).tick.sched = some 300 ∧ 300 ≤ (State.advance sch 300).timeBase) ∧
    (((State.advance ppsin 500).tickSel ≠ 1) ∧ (State.advance ppsin 500).bit Reg.PAD_FUNC 0 = true ∧ (State.advance ppsin 500).safe =
      false) ∧
    ((State.advance sy 12123).tickSel = 2 ∧ 2 = (State.advance sy 12123).fld Reg.TCK_SRC 6 4 ∧ (State.advance sy 12123).linkUp 2 = true ∧
      (State.advance sy 12123).safe = false ∧ (State.advance sy 12123).holdover = false ∧ (State.advance sy 12123).tick.sched = none ∧
      (State.advance sy 12123).tick.symbol = none ∧ 8000 ≤ 20000 ∧ (State.advance sy 12123).tick.aligned = true ∧ inWindow (State.advance
      sy 12123) 20000) :=
  ⟨by decide +kernel,
   by decide +kernel,
   by unfold inWindow; decide +kernel⟩

/-- SpecialRegisters meets its hypotheses: RDSR. -/
theorem witness_SpecialRegisters_2 :
    (State.fetches us 0 = true ∧ (rd 3).rsv = 0 ∧ (rd 3).ra = 0 ∧ ((rd 3).sr.toNat = (srRows.getD 3 (0, fun (x : CoreUnit) => 0)).1) ∧
      (srLevel (srRows.getD 3 (0, fun (x : CoreUnit) => 0)).1 ≤ (archOf us 0).level)) ∧
    (State.fetches us 0 = true ∧ (rd 16).rsv = 0 ∧ (rd 16).ra = 0 ∧ ((rd 16).sr.toNat = (srRows.getD 12 (0, fun (x : CoreUnit) => 0)).1) ∧
      ((archOf us 0).level < srLevel (srRows.getD 12 (0, fun (x : CoreUnit) => 0)).1)) := by
  refine ⟨?_, ?_⟩ <;> decide +kernel

/-- BootStages meets its hypotheses: BOOT_STAGE. -/
theorem witness_BootStages_1 :
    (((State.setBit z Reg.GLN_STATUS 31 true).held = true ∨ (State.setBit z Reg.GLN_STATUS 31 true).safe = true ∨ (State.setBit z
      Reg.GLN_STATUS 31 true).evral.stewHalt = true ∨ (State.setBit z Reg.GLN_STATUS 31 true).boot.stage = none)) ∧
    (((State.mapMram (bs 8 (life 2 z)) fun (m : Mram) => { m with resvA := none, resvB := none, resvUsed := true }).held = false) ∧
      ((State.mapMram (bs 8 (life 2 z)) fun (m : Mram) => { m with resvA := none, resvB := none, resvUsed := true }).safe = false) ∧
      ((State.mapMram (bs 8 (life 2 z)) fun (m : Mram) => { m with resvA := none, resvB := none, resvUsed := true }).evral.stewHalt =
      false) ∧ ((State.mapMram (bs 8 (life 2 z)) fun (m : Mram) => { m with resvA := none, resvB := none, resvUsed := true }).boot.stage =
      some 8) ∧ ((State.mapMram (bs 8 (life 2 z)) fun (m : Mram) => { m with resvA := none, resvB := none, resvUsed := true }).storedResv
      = none)) := by
  refine ⟨?_, ?_⟩ <;> decide +kernel

end P30

namespace P23

def lk (st : WState) (s : St) : St := ((s.setBit Reg.WFT_CTRL 2 true).mapWeft fun w => { w with links := [(2, { state := st, failAt := 0, flit := 5, replays := 1, upAt := 0 })] })
def fl : Flit := { kind := 3, vc := 7, seq := 1000, ackSeq := 513, nak := true, body := List.replicate 236 9, credit := [1,2,3,4,65535,0] }
def frm (dst hops : Nat) : BL := be 1 0x11 ++ be 1 0 ++ be 2 dst ++ be 2 3 ++ be 1 hops ++ be 1 0 ++ be 2 2 ++ be 2 0 ++ zeros 4 ++ [1,2]
def rt (s : St) : St := s.mapWeft fun w => { w with routes := [(9, 0x80000002)] }
def pz : St := pairedS (rt (lk .up (z.setFld Reg.TWN_CFG 25 16 9)))
def pa (dev slot : Nat) : Party := { dev := dev, slot := slot, stamp := 100, seq := 3, attempt := 1 }
def tz : St := ((rt (lk .up (tx 2))).mapStakes fun k => { k with recs := [{ rec_ none (some true) with home := 9, ns := 5, key := 77 }] })
/-- Weft meets its hypotheses: LINK_FLIT, PROBE, PROBE_RSP, PROBE_SEND, STAKE_FWD, STAKE_REQ, STAKE_RSP, STATE, WEFT_FLIT_ERROR,
WEFT_LINK_FAIL. -/
theorem witness_Weft_1 :
    (2 < 6 ∧ ((State.link (lk WState.ident z) 2).state ≠ WState.off) ∧ ((State.link (lk WState.ident z) 2).state ≠ WState.failed)) ∧
    (2 < 6 ∧ (State.link (lk WState.ident z) 2).state = WState.ident ∧ (3 % 1024 ≠ State.devId (lk WState.ident z))) ∧
    (2 < 6 ∧ (State.link (lk WState.ident z) 2).state = WState.ident ∧ 0 % 1024 = State.devId (lk WState.ident z)) ∧
    (State.safe tz = false ∧ State.sameTxn tz (pa 0 4) = true ∧ State.stakeRec tz (pa 0 4).slot 5 77 = some
      { (rec_ none (some true)) with ns := 5, key := 77, home := 9 } ∧ { (rec_ none (some true)) with ns := 5, key := 77, home := 9 }.home
      = 9 ∧ { (rec_ none (some true)) with ns := 5, key := 77, home := 9 }.waits.isSome = true ∧ (0 ≠ 255)) ∧
    (State.safe tz = false ∧ State.tslot tz (pa 0 4).slot = some slot4 ∧ slot4.stamp = (pa 0 4).stamp ∧ slot4.seq = (pa 0 4).seq ∧
      slot4.attempt = (pa 0 4).attempt) ∧
    (State.safe pz = false ∧ State.paired pz = true ∧ 0 < 77 ∧ 77 < 2 ^ 64 ∧ (descOf (slice (be 2 5 ++ zeros 1100) 2 1024)).adopted =
      false) ∧
    ((State.advance tz 50).silence 9 < State.fld tz Reg.WFT_CFG 23 16 * 2500) ∧
    (State.safe pz = false ∧ ((pa 9 4).dev ≠ State.devId pz)) := by
  refine ⟨?_, ?_, ?_, ?_, ?_, ?_, ?_, ?_⟩ <;> decide +kernel

/-- Weft meets its hypotheses: PROBE_SEND, STAKE_RSP, WEFT_FRAME_FORWARD, WEFT_REPLAY, WEFT_RETRAIN. -/
theorem witness_Weft_2 :
    (fl.kind < 4 ∧ fl.vc < 8 ∧ fl.seq < 1024 ∧ fl.ackSeq < 1024 ∧ fl.body.length = 236 ∧ fl.credit.length = 6 ∧ (∀ c ∈ fl.credit, c <
      65536)) ∧
    (2 < 6 ∧ State.linkUp (rt (lk WState.up z)) 2 = true ∧ frameOk (frm 9 6) = true ∧ (beAt (frm 9 6) 2 2 ≠ State.devId (rt (lk WState.up
      z))) ∧ 6 < beAt (frm 9 6) 0 1 ∧ State.safe (rt (lk WState.up z)) = false ∧ beAt (frm 9 6) 6 1 = 6) ∧
    (2 < 6 ∧ State.bit (lk WState.failed z) Reg.WFT_CTRL 2 = true ∧ (State.link (lk WState.failed z) 2).state = WState.failed ∧
      (State.advance (lk WState.failed z) 50).time < (State.link (lk WState.failed z) 2).failAt + 10000000) ∧
    (2 < 6 ∧ State.bit (lk WState.failed z) Reg.WFT_CTRL 2 = true ∧ (State.link (lk WState.failed z) 2).state = WState.failed ∧
      (State.link (lk WState.failed z) 2).failAt + 10000000 ≤ (State.advance (lk WState.failed z) 50000000).time) ∧
    (State.safe tz = false ∧ State.sameTxn tz (pa 0 5) = false) ∧
    ((9 ≠ State.devId tz) ∧ State.involves tz 9 = true ∧ State.fld tz Reg.WFT_CFG 23 16 * 2500 ≤ (State.advance tz 500000000000).silence
      9) := by
  refine ⟨?_, ?_, ?_, ?_, ?_, ?_⟩ <;> decide +kernel

/-- Weft meets its hypotheses: WEFT_FRAME_FORWARD, WEFT_LINK_ALIGNED. -/
theorem witness_Weft_3 :
    (2 < 6 ∧ State.bit (lk WState.train z) Reg.WFT_CTRL 2 = true ∧ (State.link (lk WState.train z) 2).state = WState.train ∧ State.bit (lk
      WState.train z) Reg.WFT_CTRL 31 = false) ∧
    (2 < 6 ∧ (State.setBit (lk WState.train z) Reg.WFT_CTRL 31 true).bit Reg.WFT_CTRL 2 = true ∧ ((State.setBit (lk WState.train z)
      Reg.WFT_CTRL 31 true).link 2).state = WState.train ∧ (State.setBit (lk WState.train z) Reg.WFT_CTRL 31 true).bit Reg.WFT_CTRL 31 =
      true) ∧
    (2 < 6 ∧ State.linkUp (rt (lk WState.up z)) 2 = true ∧ frameOk (frm 8 2) = true ∧ (beAt (frm 8 2) 2 2 ≠ State.devId (rt (lk WState.up
      z))) ∧ 6 < beAt (frm 8 2) 0 1 ∧ State.safe (rt (lk WState.up z)) = false ∧ (beAt (frm 8 2) 6 1 ≠ 6) ∧ State.routeTo (rt (lk
      WState.up z)) (beAt (frm 8 2) 2 2) = none) ∧
    (2 < 6 ∧ State.linkUp (rt (lk WState.up z)) 2 = true ∧ frameOk (frm 9 1) = true ∧ (beAt (frm 9 1) 2 2 ≠ State.devId (rt (lk WState.up
      z))) ∧ 6 < beAt (frm 9 1) 0 1 ∧ State.safe (rt (lk WState.up z)) = false ∧ (beAt (frm 9 1) 6 1 ≠ 6) ∧ State.routeTo (rt (lk
      WState.up z)) (beAt (frm 9 1) 2 2) = some 2) := by
  refine ⟨?_, ?_, ?_, ?_⟩ <;> decide +kernel

end P23

namespace P17

def u0 (f : St → St) : St := f (z.mapPair 3 fun p => { p with words := [(1, 5), (2, 6)] })
def ck (s : St) : St := (s.setRole 3 1).setRole 9 2
def tk : Takeover := { spare := 9, step := 2, cause := 2, began := 50 }
def tkS := ((ck z).mapPair 3 fun p => { p with takeover := some tk }).mapUnit 6 fun x => { x with run := true, txn := some 4 }
def tkS2 := tkS.mapSower fun w => { w with slots := [{ slot4 with unit := some 6 }] }
def tkS3 := tkS2.mapUnit 6 fun x => { x with stores := [{ id := 1, unit := 6, pa := scratchBase, data := [1], kind := .scratch, slot := none, mark := none, strong := false }] }
def sp := ((ck z).setRole 3 3).mapUnit 7 fun x => { x with run := true }
/-- ControlStoreAndTakeovers meets its hypotheses: UC_CLEAR, UC_LOCK, UC_SCRUB, UC_UNLOCK. -/
theorem witness_ControlStoreAndTakeovers_2 :
    (3 < 96 ∧ State.writesReg (u0 id) Master.firmware (pairReg Reg.CLS_UCCTRL 3) = true ∧ (State.pair (u0 id) 3).reload = false ∧
      State.poweringUp (u0 id) (clusterOf 3) = false) ∧
    (3 < 96 ∧ 5 ≤ 8191 ∧ 2 ≤ 5 ∧ State.checked (u0 id) 3 = false ∧ State.runsSplit (u0 id) 3 = false ∧ (State.role (u0 id) 3 ≠ 2)) ∧
    (3 < 96 ∧ State.writesReg (u0 id) Master.firmware (pairReg Reg.CLS_UCCTRL 3) = true ∧ State.ucLocked (u0 id) 3 = false ∧ (State.pair
      (u0 id) 3).refCrc = none) ∧
    (3 < 96 ∧ (ck z).tick.sealing = none ∧ (ck z).tick.epochOpen = false ∧ (∀ u ∈ unitsOfPair 3, (State.unit (ck z) u).txn = none) ∧
      State.chooseSpare (ck z) 3 = some 9 ∧ (9 ≠ 3)) := by
  refine ⟨?_, ?_, ?_, ?_⟩ <;> decide +kernel

/-- ControlStoreAndTakeovers meets its hypotheses: UC_WORD_COMMIT. -/
theorem witness_ControlStoreAndTakeovers_3 :
    (3 < 96 ∧ (State.writesReg (u0 fun (s : St) => State.mapPair s 3 fun (p : Pair) => { p with refCrc := some 77 }) Master.firmware
      (pairReg Reg.CLS_UCWD 3) = true) ∧ (State.ucLocked (u0 fun (s : St) => State.mapPair s 3 fun (p : Pair) =>
      { p with refCrc := some 77 }) 3 = false) ∧ (State.fld (u0 fun (s : St) => State.mapPair s 3 fun (p : Pair) =>
      { p with refCrc := some 77 }) (pairReg Reg.CLS_UCADDR 3) 13 0 ≤ 8191) ∧ BitVec.toNat (1 : Word) < 2 ^ 16 ∧ (badWord (BitVec.ofNat
      112 (BitVec.toNat (State.reg (u0 fun (s : St) => State.mapPair s 3 fun (p : Pair) => { p with refCrc := some 77 }) (pairReg
      Reg.CLS_UCWA 3)) + 2 ^ 32 * BitVec.toNat (State.reg (u0 fun (s : St) => State.mapPair s 3 fun (p : Pair) =>
      { p with refCrc := some 77 }) (pairReg Reg.CLS_UCWB 3)) + 2 ^ 64 * BitVec.toNat (State.reg (u0 fun (s : St) => State.mapPair s 3 fun
      (p : Pair) => { p with refCrc := some 77 }) (pairReg Reg.CLS_UCWC 3)) + 2 ^ 96 * BitVec.toNat (1 : Word))) 0 = false)) := by decide +kernel

/-- ControlStoreAndTakeovers meets its hypotheses: CORE_CLOCK_BRANCH_LOSS, INSTRUCTION_RETRY, LEADER_DRAIN_TIMEOUT, SPARE_RESUME,
SPLIT_CORE_PARITY, UC_WORD_COMMIT. -/
theorem witness_ControlStoreAndTakeovers_4 :
    (3 < 96 ∧ (State.writesReg (u0 fun (s : St) => State.mapPair s 3 fun (p : Pair) => { p with refCrc := some 77 }) Master.firmware
      (pairReg Reg.CLS_UCWD 3) = true) ∧ (State.ucLocked (u0 fun (s : St) => State.mapPair s 3 fun (p : Pair) =>
      { p with refCrc := some 77 }) 3 = false) ∧ (8191 < State.fld (u0 fun (s : St) => State.mapPair s 3 fun (p : Pair) =>
      { p with refCrc := some 77 }) (pairReg Reg.CLS_UCADDR 3) 13 0 ∨ 2 ^ 16 ≤ BitVec.toNat (65536 : Word))) ∧
    (sp.runsSplit (pairOf 7) = true ∧ (sp.unit 7).txn = none) ∧
    (3 < 96 ∧ (State.checked (ck z) 3 = true ∨ State.runsSplit (ck z) 3 = true)) ∧
    (State.chosen (ck z) 3 = false ∧ State.checked (ck z) 3 = true ∧ State.fld (ck z) (statReg 3) 17 16 < 2) ∧
    ((tkS3.pair 3).takeover = some tk ∧ tk.began + 2000 < (tkS3.advance 500000).time ∧ tkS3.drained (2 * 3) = false ∧ tkS3.safe = false) ∧
    ((tkS2.pair 3).takeover = some tk ∧ tkS2.drained (2 * 3) = true ∧ tkS2.safe = false ∧ tkS2.role tk.spare = 2 ∧ tkS2.tick.sealing =
      none ∧ 3 < 96 ∧ tk.spare < 96 ∧ (3 ≠ tk.spare)) := by
  refine ⟨?_, ?_, ?_, ?_, ?_, ?_⟩ <;> decide +kernel

/-- ControlStoreAndTakeovers meets its hypotheses: INSTRUCTION_RETRY, UC_SCRUB, UC_UNLOCK. -/
theorem witness_ControlStoreAndTakeovers_5 :
    (3 < 96 ∧ 5 ≤ 8191 ∧ 2 ≤ 5 ∧ (State.checked (u0 fun (s : St) => State.setRole s 3 2) 3 = false) ∧ (State.runsSplit (u0 fun (s : St) =>
      State.setRole s 3 2) 3 = false) ∧ (State.role (u0 fun (s : St) => State.setRole s 3 2) 3 = 2) ∧ ((u0 fun (s : St) => State.setRole s
      3 2).tick.sealing = none)) ∧
    ((State.setFld (ck z) (statReg 3) 17 16 2).chosen 3 = false ∧ (State.setFld (ck z) (statReg 3) 17 16 2).checked 3 = true ∧ 2 ≤
      (State.setFld (ck z) (statReg 3) 17 16 2).fld (statReg 3) 17 16 ∧ (State.setFld (ck z) (statReg 3) 17 16 2).chooseSpare 3 = some 9 ∧
      (((State.setFld (ck z) (statReg 3) 17 16 2).pairs.all fun (x : ℕ × Pair) => x.2.takeover.isNone) = true)) ∧
    (3 < 96 ∧ (State.writesReg (u0 fun (s : St) => (State.setRole s 3 1).mapPair 3 fun (p : Pair) => { p with reload := true })
      Master.firmware (pairReg Reg.CLS_UCCTRL 3) = true) ∧ ((State.pair (u0 fun (s : St) => (State.setRole s 3 1).mapPair 3 fun (p : Pair)
      => { p with reload := true }) 3).reload = true)) := by
  refine ⟨?_, ?_, ?_⟩ <;> decide +kernel

end P17

namespace P6d

abbrev St := Sys2Proof.Machine.State
def z : St := State.reset
def sealZ (late : Bool) : Seal := { epoch := 3, openTime := 0, closeTime := 20000, period := 20, owed := [], cutoff := true, wbOwed := [], hashDone := true, macDone := true, acked := true, solo := true, span := false, voted := false, late := late }
def rw : St := z.mapTick fun k => { k with resvWrite := some 77 }
def sz (f : Seal → Seal) : St := z.mapTick fun k => { k with sealing := some (f (sealZ false)) }
def fc (x : Seal) : Seal := { x with owed := [], cutoff := false, hashDone := false, macDone := false, acked := false, wbOwed := [0, 3] }
def ln : CLine := { pa := 0x100140, way := 3, mark := some 3, dirty := some (List.replicate 64 5) }
def sc : St := ((sz fc).mapCluster 3 fun c => { c with lines := [ln] }).mapCluster 0 fun c => { c with lines := [{ ln with pa := 0x100180, mark := some 2 }] }
def sh : Sheaf := { kind := .own, epoch := 3, offset := 0, len := 0, header := List.replicate 128 1, body := [5,6], chain := [], mac := [], sealed := false, acked := false, destaged := false, applied := false, zeroed := false, doneTime := 0, coverOk := false }
def fd2 (x : Seal) : Seal := { x with cutoff := true, hashDone := false, macDone := false, acked := false, solo := false }
def sd : St := (sz fd2).mapJournal fun j => { j with sheaves := [sh] }
def fe (x : Seal) : Seal := { x with cutoff := true, hashDone := true, macDone := false, acked := false, solo := false, wbOwed := [1] }
def se : St := ((sz fe).mapJournal fun j => { j with sheaves := [sh] })
def key1 : KeySlot := { kind := 5, usage := 0xFF, origin := false, gen := keyGen 3, limit := 0, count := 0, key := List.replicate 48 9, near := false }
def sek : St := se.mapCipher fun c => { c with slots := [(se.sheafSlot (keyGen 3), key1)] }
def ent : LineEntry := { off := 64, before := List.replicate 64 7, after := List.replicate 64 8 }
def jr : JRecord := { reqid := 1, plot := 0, queue := 0xFFFF, slot := 0, span := false, result := [], lines := [ent] }
def un : Undo := { epoch := 3, recs := [jr] }
def sdn : St := ((sz id).mapJournal fun j => { j with undo := [un] }).mapCluster 3 fun c => { c with lines := [ln] }
def rbk : Rollback := { first := 3, next := 5, restored := false, cause := .other, cleared := true, hbSeq := 0 }
def srb : St := (((z.mapJournal fun j => { j with undo := [un] }).mapTick fun k => { k with rollback := some rbk }).setReg64 Reg.JNL_LIVE_BASE_LO 0x10000000)
def srb2 : St := ((srb.setFld Reg.JNL_RINGCFG 9 0 4).setFld Reg.JNL_RINGCFG 19 16 1).setReg64 Reg.JNL_RING_BASE_LO 0x40000000
/-- Seals meets its hypotheses: RESERVATION_WRITTEN, ROLLBACK_RESTORE_DONE, SEAL_HASH_DONE, SEAL_MAC_DONE. -/
theorem witness_Seals_1 :
    (sd.tick.sealing = some (fd2 (sealZ false)) ∧ State.safe sd = false ∧ (((State.votesOf sd (fd2 (sealZ false)).epoch).any fun (x :
      VoteDue) => x.failed) = false) ∧ State.ownSheaf sd (fd2 (sealZ false)).epoch = some sh ∧ (fd2 (sealZ false)).cutoff = true ∧ (fd2
      (sealZ false)).hashDone = false ∧ (fd2 (sealZ false)).macDone = false) ∧
    ((sealZ false).epoch < 2 ^ 64 ∧ sdn.sower.slots = [] ∧ sdn.eth.sessions = [] ∧ (sealZ false).solo = true ∧ sdn.twin.handBack = none ∧
      State.ownSheaf sdn (sealZ false).epoch = none) ∧
    (sek.tick.sealing = some (fe (sealZ false)) ∧ State.safe sek = false ∧ (((State.votesOf sek (fe (sealZ false)).epoch).any fun (x :
      VoteDue) => x.failed) = false) ∧ State.ownSheaf sek (fe (sealZ false)).epoch = some sh ∧ (fe (sealZ false)).cutoff = true ∧ (fe
      (sealZ false)).hashDone = true ∧ (fe (sealZ false)).macDone = false ∧ (fe (sealZ false)).acked = false ∧ (fe (sealZ false)).solo =
      false ∧ State.heldSheafKey sek (keyGen (fe (sealZ false)).epoch) = some key1.key) ∧
    (rw.tick.resvWrite = some 77) ∧
    (srb2.tick.rollback = some rbk ∧ rbk.restored = false ∧ State.safe srb2 = false ∧ (∀ u ∈ allUnits, (State.unit srb2 u).txn = none)) := by
  refine ⟨?_, ?_, ?_, ?_, ?_⟩ <;> decide +kernel

/-- Seals meets its hypotheses: SEAL_FAIL_LIMIT. -/
theorem witness_Seals_2 :
    (sc.tick.sealing = some (fc (sealZ false)) ∧ State.safe sc = false ∧ (((State.votesOf sc (fc (sealZ false)).epoch).any fun (x :
      VoteDue) => x.failed) = false)) ∧
    ((sz id).tick.sealing = some (sealZ false) ∧ State.safe (sz id) = false ∧ (sealZ false).closeTime + (State.advance (sz id)
      30000000).fld Reg.TCK_SEALFAIL 3 0 * (sealZ false).period * 1000 < (State.advance (sz id) 30000000).timeBase) := by
  refine ⟨?_, ?_⟩ <;> decide +kernel

end P6d

namespace P31

def us : St := at_ 2 []
def mch : St := us.mapArch 0 fun a => { a with pc := 0xB00, sr := { a.sr with psw := 0xA, decause := 12 } }
def exh : St := (z.setFld Reg.TCK_SRC 1 0 1).setBit Reg.TCK_STATUS 3 true
def dm := Master.debugger
def dbp : St := { life 3 z with evral := { z.evral with scope := some 7 } }
/-- InputsAtBoundary meets its hypotheses: ASYNC_INPUT_AT_BOUNDARY. -/
theorem witness_InputsAtBoundary_1 :
    (running mch 0 ∧ 0 < 192 ∧ (State.unit mch 0).latch = quiet ∧ (archOf mch 0).atHandler 12 = true ∧ State.drained mch 0 = true) := by unfold running; decide +kernel

/-- Ticks meets its hypotheses: TICK_IN_EDGE. -/
theorem witness_Ticks_5 :
    ((State.advance exh 19940).tickSel = 1 ∧ (State.advance exh 19940).tick.sched = none ∧ (State.advance exh 19940).holdover = true ∧
      inWindow (State.advance exh 19940) ((State.advance exh 19940).timeBase + 60)) := by unfold inWindow; decide +kernel

/-- DebugPort meets its hypotheses: DBG_RDATA_ACCESS. -/
theorem witness_DebugPort_4 :
    (State.held dbp = false ∧ State.dbgReaches dbp dm true Reg.DBG_RDATA = true ∧ State.hasScope dbp dm 1 = true ∧ State.fld dbp
      Reg.DBG_RSEL 8 0 = (0#5).toNat ∧ State.dbgPair dbp < 96 ∧ State.pairHalted dbp (State.dbgPair dbp) = false) := by decide +kernel

end P31

namespace P4

abbrev St := Sys2Proof.Machine.State
def pl (pa : Nat) : Place := { pa := pa, cacheable := false, journaled := false, pairArea := false }
def slot4 : TSlot := { slot := 4, plot := 5, queue := 1, slotNo := 9, reqid := 77, cls := 2, account := 1, attempt := 1, stamp := 100, seq := 3, space := 0, off := 0, arg := [], unit := some 0, redo := false, waitOn := none, result := none, span := false }
def tx (l : Nat) : St :=
  let s := (at_ l [(2, 0x11), (3, 0x22), (4, 257)]).mapSower fun w => { w with slots := [slot4] }
  s.mapUnit 0 fun x => { x with txn := some 4, arch := { x.arch with sr := { x.arch.sr with psw := x.arch.sr.psw ||| 0x10 } } }
def t0 := tx 0
def t1 := tx 1
def rec_ (h w : Option Bool) : StakeRec := { slot := 4, ns := 5, key := 0x2200000011, home := 0, held := h, waits := w, issued := 0, queued := false }
def th (b : Bool) : St := t0.mapStakes fun k => { k with recs := [rec_ (some b) none] }
def thx := th true
def thxc := thx.mapUnit 0 fun x => { x with lines := [{ off := 0, before := List.replicate 64 1, after := [] }] }
def tc := t1.mapUnit 0 fun x => { x with lines := [{ off := 0x40, before := List.replicate 64 1, after := [] }, { off := 0x100, before := List.replicate 64 2, after := [] }] }
def dec (len : Word) (a b : List Sys2Proof.Byte) : St :=
  (((at_ 0 [(1, 0x100), (2, 0x110), (3, 0x120), (4, 0xFFFFFF85)]).setBytes (scratchBase + 0x120100) a).setBytes (scratchBase + 0x120110) b).mapArch 0 fun x => x.mapSr fun r => { r with declen := len }
def dw (ld la lb : Nat) : Word := BitVec.ofNat 32 (ld * 1024 + la * 32 + lb)
def k1 := dec (dw 5 3 3) [0x12, 0x3C] [0x99, 0x9D]
def kb := dec (dw 5 3 3) [0x12, 0x3C] [0x9A, 0x9D]
def ops : OpsF := ⟨3,1,2,1,0,0⟩
def ops0 : OpsF := ⟨3,1,0,1,0,0⟩
def kz := dec (dw 5 3 3) [0x31, 0x32, 0x73] [0x99, 0x9D]
/-- TransactionEnds meets its hypotheses: ABORT, ABORT_F, COMMIT. -/
theorem witness_TransactionEnds_1 :
    ((at_ 1 []).fetches 0 = true ∧ (⟨0, 4, 0, 0⟩ : RegF).rd = 0 ∧ (⟨0, 4, 0, 0⟩ : RegF).rb = 0 ∧ (⟨0, 4, 0, 0⟩ : RegF).fc = 0 ∧ (at_ 1
      []).txnOf 0 = none) ∧
    ((at_ 1 []).fetches 0 = true ∧ (⟨0, 0, 0, 0⟩ : RegF).rd = 0 ∧ (⟨0, 0, 0, 0⟩ : RegF).rb = 0 ∧ (⟨0, 0, 0, 0⟩ : RegF).fc = 0 ∧ (archOf
      (at_ 1 []) 0).txn = false ∧ (⟨0, 0, 0, 0⟩ : RegF).ra = 0 ∧ 1 ≤ (archOf (at_ 1 []) 0).level) ∧
    (State.fetches t0 0 = true ∧ (⟨0, 4, 0, 0⟩ : RegF).rd = 0 ∧ (⟨0, 4, 0, 0⟩ : RegF).rb = 0 ∧ (⟨0, 4, 0, 0⟩ : RegF).fc = 0 ∧ State.txnOf
      t0 0 = some slot4 ∧ 256 < BitVec.toNat ((archOf t0 0).reg (⟨0, 4, 0, 0⟩ : RegF).ra)) := by
  refine ⟨?_, ?_, ?_⟩ <;> decide +kernel

/-- TransactionEnds meets its hypotheses: ABORT, ABORT_F, COMMIT. -/
theorem witness_TransactionEnds_2 :
    (State.fetches t0 0 = true ∧ (⟨0, 0, 0, 0⟩ : RegF).rd = 0 ∧ (⟨0, 0, 0, 0⟩ : RegF).rb = 0 ∧ (⟨0, 0, 0, 0⟩ : RegF).fc = 0 ∧ State.txnOf
      t0 0 = some slot4 ∧ BitVec.toNat ((archOf t0 0).reg (⟨0, 0, 0, 0⟩ : RegF).ra) ≤ 256 ∧ State.drained t0 0 = true ∧ State.remoteDone
      t0 0 = true ∧ State.homesOf t0 slot4.slot = [] ∧ slot4.span = false ∧ (State.unit t0 0).lines = []) ∧
    (State.fetches t0 0 = true ∧ (⟨0, 0, 0, 0⟩ : RegF).rd = 0 ∧ (⟨0, 0, 0, 0⟩ : RegF).rb = 0 ∧ (⟨0, 0, 0, 0⟩ : RegF).fc = 0 ∧ State.txnOf
      t0 0 = some slot4 ∧ (⟨0, 0, 0, 0⟩ : RegF).ra = 0 ∧ State.drained t0 0 = true) ∧
    (State.fetches t1 0 = true ∧ (⟨0, 0, 0, 0⟩ : RegF).rd = 0 ∧ (⟨0, 0, 0, 0⟩ : RegF).rb = 0 ∧ (⟨0, 0, 0, 0⟩ : RegF).fc = 0 ∧ State.txnOf
      t1 0 = some slot4 ∧ (⟨0, 0, 0, 0⟩ : RegF).ra = 0 ∧ State.drained t1 0 = true ∧ 1 ≤ (archOf t1 0).level) := by
  refine ⟨?_, ?_, ?_⟩ <;> decide +kernel

/-- TransactionEnds meets its hypotheses: ABORT, COMMIT. -/
theorem witness_TransactionEnds_3 :
    (tc.fetches 0 = true ∧ (⟨0, 0, 0, 0⟩ : RegF).rd = 0 ∧ (⟨0, 0, 0, 0⟩ : RegF).rb = 0 ∧ (⟨0, 0, 0, 0⟩ : RegF).fc = 0 ∧ tc.txnOf 0 = some
      slot4 ∧ BitVec.toNat ((archOf tc 0).reg (⟨0, 0, 0, 0⟩ : RegF).ra) ≤ 256 ∧ tc.drained 0 = true ∧ tc.remoteDone 0 = true ∧ tc.homesOf
      slot4.slot = [] ∧ slot4.span = false ∧ ((tc.unit 0).lines ≠ []) ∧ (∀ w ∈ tc.journal.waits, w.unit ≠ 0)) ∧
    (tc.fetches 0 = true ∧ (⟨0, 0, 0, 0⟩ : RegF).rd = 0 ∧ (⟨0, 0, 0, 0⟩ : RegF).ra = 0 ∧ (⟨0, 0, 0, 0⟩ : RegF).rb = 0 ∧ (⟨0, 0, 0, 0⟩ :
      RegF).fc = 0 ∧ tc.txnOf 0 = some slot4 ∧ tc.drained 0 = true ∧ tc.capPoisoned 0 = false ∧ ((List.map (fun (x : LineEntry) => x.off)
      (tc.unit 0).lines).Nodup) ∧ (∀ e ∈ (tc.unit 0).lines, ((tc.liveRegion (tc.unit 0).execPlot).1 + e.off) % 64 = 0 ∧ e.before.length =
      64)) := by
  refine ⟨?_, ?_⟩ <;> decide +kernel

/-- StakeInstructions meets its hypotheses: STAKE_X, UNSTAKE. -/
theorem witness_StakeInstructions_1 :
    ((at_ 0 []).fetches 0 = true ∧ (⟨9, 2, 0, 0⟩ : RegF).rb = 0 ∧ (⟨9, 2, 0, 0⟩ : RegF).fc = 0 ∧ (⟨9, 2, 0, 0⟩ : RegF).ra.toNat % 2 = 0 ∧
      (at_ 0 []).txnOf 0 = none) ∧
    (State.fetches t0 0 = true ∧ (⟨9, 2, 0, 0⟩ : RegF).rb = 0 ∧ (⟨9, 2, 0, 0⟩ : RegF).fc = 0 ∧ (⟨9, 2, 0, 0⟩ : RegF).ra.toNat % 2 = 0 ∧
      State.txnOf t0 0 = some slot4 ∧ State.stakeRec t0 slot4.slot (State.unit t0 0).execPlot (BitVec.toNat ((archOf t0 0).reg
      ((⟨9, 2, 0, 0⟩ : RegF).ra + 1)) * 2 ^ 32 + BitVec.toNat ((archOf t0 0).reg (⟨9, 2, 0, 0⟩ : RegF).ra)) = none ∧ State.stakeCount t0
      slot4.slot < 256 ∧ State.stakeHome t0 (State.unit t0 0).execPlot (BitVec.toNat ((archOf t0 0).reg ((⟨9, 2, 0, 0⟩ : RegF).ra + 1)) *
      2 ^ 32 + BitVec.toNat ((archOf t0 0).reg (⟨9, 2, 0, 0⟩ : RegF).ra)) = State.devId t0) ∧
    (State.fetches thx 0 = true ∧ (⟨9, 2, 0, 0⟩ : RegF).rb = 0 ∧ (⟨9, 2, 0, 0⟩ : RegF).fc = 0 ∧ (⟨9, 2, 0, 0⟩ : RegF).ra.toNat % 2 = 0 ∧
      State.txnOf thx 0 = some slot4 ∧ State.stakeRec thx slot4.slot (State.unit thx 0).execPlot (BitVec.toNat ((archOf thx 0).reg
      ((⟨9, 2, 0, 0⟩ : RegF).ra + 1)) * 2 ^ 32 + BitVec.toNat ((archOf thx 0).reg (⟨9, 2, 0, 0⟩ : RegF).ra)) = some (rec_ (some true)
      none) ∧ ((rec_ (some true) none).held = some false ∨ (rec_ (some true) none).held = some true ∧ State.hasCaptured thx 0 = false) ∧
      (rec_ (some true) none).home = State.devId thx) := by
  refine ⟨?_, ?_, ?_⟩ <;> decide +kernel

/-- StakeInstructions meets its hypotheses: UNSTAKE. -/
theorem witness_StakeInstructions_2 :
    (thxc.fetches 0 = true ∧ (⟨9, 2, 0, 0⟩ : RegF).rb = 0 ∧ (⟨9, 2, 0, 0⟩ : RegF).fc = 0 ∧ (⟨9, 2, 0, 0⟩ : RegF).ra.toNat % 2 = 0 ∧
      thxc.txnOf 0 = some slot4 ∧ thxc.stakeRec slot4.slot (thxc.unit 0).execPlot (BitVec.toNat ((archOf thxc 0).reg ((⟨9, 2, 0, 0⟩ :
      RegF).ra + 1)) * 2 ^ 32 + BitVec.toNat ((archOf thxc 0).reg (⟨9, 2, 0, 0⟩ : RegF).ra)) = some (rec_ (some true) none) ∧ (rec_ (some
      true) none).held = some true ∧ thxc.hasCaptured 0 = true) := by decide +kernel

/-- PackedConversions meets its hypotheses: CMPP, CVTBP, CVTPB, CVTPZ, CVTZP. -/
theorem witness_PackedConversions_1 :
    (State.fetches k1 0 = true ∧ decFields ops0 ∧ ops0.rb = 0 ∧ area k1 0 ops0 ops0.rd (packedLen (archOf k1 0).ld) (pl (scratchBase +
      1179936))) ∧
    (State.fetches k1 0 = true ∧ decFields ops0 ∧ ops0.rb = 0 ∧ packedReads k1 0 ops0 ops0.ra (archOf k1 0).la (pl (scratchBase +
      1179904)) ∧ packedAt k1 0 (archOf k1 0).la (pl (scratchBase + 1179904)) = some ({ neg := false, mag := 123 } : Dec) ∧ area k1 0 ops0
      ops0.rd (archOf k1 0).ld (pl (scratchBase + 1179936)) ∧ 1 ≤ (archOf k1 0).ld) ∧
    (State.fetches kz 0 = true ∧ decFields ops0 ∧ ops0.rb = 0 ∧ reads kz 0 ops0.sp.toNat (BitVec.toNat ((archOf kz 0).reg ops0.ra))
      (archOf kz 0).la (pl (scratchBase + 1179904)) ∧ readZoned (State.seenBytes kz 0 (pl (scratchBase + 1179904)).pa (archOf kz 0).la) =
      some ({ neg := true, mag := 123 } : Dec) ∧ area kz 0 ops0 ops0.rd (packedLen (archOf kz 0).ld) (pl (scratchBase + 1179936))) ∧
    (State.fetches k1 0 = true ∧ decFields ops ∧ packedReads k1 0 ops ops.ra (archOf k1 0).la (pl (scratchBase + 1179904)) ∧ packedAt k1 0
      (archOf k1 0).la (pl (scratchBase + 1179904)) = some ({ neg := false, mag := 123 } : Dec) ∧ packedReads k1 0 ops ops.rb (archOf k1
      0).lb (pl (scratchBase + 1179920)) ∧ packedAt k1 0 (archOf k1 0).lb (pl (scratchBase + 1179920)) = some ({ neg := true, mag := 999 }
      : Dec)) :=
  ⟨by unfold area writes goesTo decFields; decide +kernel,
   by unfold packedReads area reads writes goesTo decFields; decide +kernel,
   by unfold area reads writes goesTo decFields; decide +kernel,
   by unfold packedReads reads goesTo decFields; decide +kernel⟩

/-- PackedSigns meets its hypotheses. -/
theorem witness_PackedSigns_1 :
    (([49] ≠ [])) ∧
    (1 ≤ 1 ∧ 1 ≤ 31 ∧ [28].length = packedLen 1) := by
  refine ⟨?_, ?_⟩ <;> decide +kernel

/-- PackedDecimals meets its hypotheses: ADDP. -/
theorem witness_PackedDecimals_1 :
    (1 ≤ 1 ∧ 1 ≤ 31) ∧
    (State.fetches k1 0 = true ∧ decFields ops ∧ packedReads k1 0 ops ops.ra (archOf k1 0).la (pl (scratchBase + 1179904)) ∧ packedReads
      k1 0 ops ops.rb (archOf k1 0).lb (pl (scratchBase + 1179920)) ∧ area k1 0 ops ops.rd (packedLen (archOf k1 0).ld) (pl (scratchBase +
      1179936)) ∧ packedAt k1 0 (archOf k1 0).la (pl (scratchBase + 1179904)) = some ({ neg := false, mag := 123 } : Dec) ∧ packedAt k1 0
      (archOf k1 0).lb (pl (scratchBase + 1179920)) = some ({ neg := true, mag := 999 } : Dec)) ∧
    (State.fetches kb 0 = true ∧ decFields ops ∧ packedReads kb 0 ops ops.ra (archOf kb 0).la (pl (scratchBase + 1179904)) ∧ packedReads
      kb 0 ops ops.rb (archOf kb 0).lb (pl (scratchBase + 1179920)) ∧ area kb 0 ops ops.rd (packedLen (archOf kb 0).ld) (pl (scratchBase +
      1179936)) ∧ (packedAt kb 0 (archOf kb 0).la (pl (scratchBase + 1179904)) = none ∨ packedAt kb 0 (archOf kb 0).lb (pl (scratchBase +
      1179920)) = none)) :=
  ⟨by decide +kernel,
   by unfold packedReads area reads writes goesTo decFields; decide +kernel,
   by unfold packedReads area reads writes goesTo decFields; decide +kernel⟩

end P4

namespace P21

def ch (code grp arg tgt buf len : Nat) : BL := leb 1 code ++ zeros 1 ++ leb 1 grp ++ zeros 1 ++ leb 4 arg ++ leb 8 tgt ++ leb 8 buf ++ leb 4 len ++ zeros 4
def blk (fl n tag prog : Nat) : BL := leb 1 1 ++ leb 1 fl ++ leb 2 n ++ zeros 4 ++ leb 8 tag ++ leb 8 prog ++ zeros 40
def fcmd (tag op grp : Nat) (path : Option Nat) (w : Nat) (args : List Nat) (b : BL) : FrwCmd := { tag := tag, op := op, group := grp, path := path, issued := 0, write := decide (w = 1), what := w, args := args, bytes := b, redrive := 0 }
def pth (st : PathState) (kind : Nat) : Path := { num := 7, record := be 2 7 ++ be 1 3 ++ be 1 kind ++ be 1 0 ++ be 1 0 ++ be 2 3 ++ zeros 18 ++ zeros 6 ++ [65,66,67], state := st, failed := 0, lastKa := 0, rate := 1024, rateAt := 0 }
def fr (s : St) : St := (((pu (dram s)).setBit Reg.FRW_CTRL 0 true).setBit Reg.THR_CTRL 0 true).setBit Reg.THR_STATUS 0 true |>.setBit Reg.FRW_CFG 29 false
def gr (s : St) : St := s.setReg (Reg.FRW_GROUP + 4*3) 0x80000000
def st0 : St := at_ 1 [(1, 0)]
def blkpa : Nat := match st0.xlat 0 ((archOf st0 0).space 1) 0 64 .write with | .ok p => p.pa | _ => 0
def prog1 : BL := ch 3 3 1 0 0 0
def ea5 (off : Nat) : Nat := (5*256+1) * 2^32 + off
def stS (al : Nat) (cmd : BL) : St :=
  let s := gr (fr (at_ 1 [(1, al)]))
  let s := (s.setReg (Reg.FRW_GROUP + 4*3) 0x80000005)
  (s.setBytes (blkpa + al) (blk 1 1 99 (ea5 0x200))).setBytes (blkpa + 0x200) cmd
def op (cmd : BL) (n : Nat) : FrwOp := { id := 4, plot := 0, optag := 99, unit := none, queue := none, kind := .program, block := 0x200000110000, bytes := blk 1 n 99 0x200000111000 ++ cmd ++ cmd, next := 0, busy := false, engines := [], parts := 0, acked := true, issued := true, done := none, epoch := 0, lba := 0, blocks := 0, ending := none }
def so (o : FrwOp) (s : St) : St := (gr (fr s)).mapFurrow fun w => { w with ops := [o], nextOp := 5, nextTag := 30 }
def one (c : BL) := so (op c 1) z
def ps (st : PathState) (k : Nat) (s : St) : St := s.mapFurrow fun w => { w with paths := [pth st k] }
def c7 := ch 7 0 0 0x200000140000 0 0
def c8 := ch 8 0 0 0x200000140000 0 0
def cd : BL := leb 1 5 ++ leb 1 0 ++ zeros 2 ++ leb 2 0 ++ leb 2 300 ++ zeros 8 ++ leb 8 0x200000100000 ++ leb 8 0x200000120000 ++ leb 4 40 ++ leb 4 0 ++ leb 8 0x200000130000 ++ zeros 80
def c9 := ch 9 0 7 0 0 0
def lk (o : EngLock) (s : St) : St := s.mapCipher fun c => { c with locks := [(7, o)] }
def ca := ch 10 0 7 0 0 0
def sub (a : Nat) (cmd : BL) : St := ((gr (fr z)).setBytes a (blk 0 1 99 0x200000111000)).setBytes 0x200000111000 cmd
def mR : Master := .firmware
def cw := ch 2 3 1 8 0x200000140000 8192
def cr := ch 1 3 1 8 0x200000140000 8192
def kw := fcmd 29 4 3 (some 7) 1 [1, 8, 2, 0x200000140000] (zeros 8192)
def kr := fcmd 29 4 3 (some 7) 2 [1, 8, 2, 0x200000140000] []
def op2 (c : BL) : FrwOp := { op c 2 with busy := true }
def wc2 (c : BL) (k : FrwCmd) (st : PathState) : St := (ps st 1 (so (op2 c) z)).mapFurrow fun w => { w with cmds := [k] }
set_option maxRecDepth 100000 in
/-- Furrow meets its hypotheses: CHANNEL_READ, ENG_ACQUIRE. -/
theorem witness_Furrow_1 :
    (atCmd (one c9) 4 9 (op c9 1) ∧ State.lockOf (one c9) (ccArg (op c9 1).cmd) = none) ∧
    (State.safe (one c9) = false ∧ State.writeHeld (one c9)
      ({ tag := (one c9).furrow.nextTag, op := 4, group := 3, path := none, issued := (one c9).time, write := decide (3 = 1), what := 3, args := [1, 8, 2, 35184373399552], bytes := [], redrive := 0 }
      : FrwCmd) = false ∧ State.pickPath (one c9) 3 = none) ∧
    ((op c9 1).ending = none ∧ (op c9 1).count ≤ (op c9 1).next + 1) ∧
    (atCmd (ps PathState.ready 1 (one (ch 1 3 1 8 35184373399552 8192))) 4 1 (op (ch 1 3 1 8 35184373399552 8192) 1) ∧ State.engineXlat
      (ps PathState.ready 1 (one (ch 1 3 1 8 35184373399552 8192))) (op (ch 1 3 1 8 35184373399552 8192) 1).plot (ccBuf (op (ch 1 3 1 8
      35184373399552 8192) 1).cmd) (max 1 (ccLen (op (ch 1 3 1 8 35184373399552 8192) 1).cmd)) true = some 35184373399552 ∧ (0 < ccLen (op
      (ch 1 3 1 8 35184373399552 8192) 1).cmd ∧ ccLen (op (ch 1 3 1 8 35184373399552 8192) 1).cmd ≤ 131072)) ∧
    (State.safe (ps PathState.ready 1 (one (ch 1 3 1 8 35184373399552 8192))) = false ∧ State.writeHeld (ps PathState.ready 1 (one (ch 1 3
      1 8 35184373399552 8192)))
      ({ tag := (ps PathState.ready 1 (one (ch 1 3 1 8 35184373399552 8192))).furrow.nextTag, op := 4, group := 3, path := none, issued := (ps PathState.ready 1 (one (ch 1 3 1 8 35184373399552 8192))).time, write := decide (3 = 1), what := 3, args := [1, 8, 2, 35184373399552], bytes := [], redrive := 0 }
      : FrwCmd) = false ∧ State.pickPath (ps PathState.ready 1 (one (ch 1 3 1 8 35184373399552 8192))) 3 = some 7 ∧ State.path (ps
      PathState.ready 1 (one (ch 1 3 1 8 35184373399552 8192))) 7 = some (pth PathState.ready 1) ∧ clear (ps PathState.ready 1 (one (ch 1
      3 1 8 35184373399552 8192))) (pth PathState.ready 1).port (State.fld (ps PathState.ready 1 (one (ch 1 3 1 8 35184373399552 8192)))
      Reg.ETH_QOS 6 4) ∧ 3 < 64 ∧ (∀ x ∈ (ps PathState.ready 1 (one (ch 1 3 1 8 35184373399552 8192))).furrow.cmds, x.tag ≠
      ({ tag := (ps PathState.ready 1 (one (ch 1 3 1 8 35184373399552 8192))).furrow.nextTag, op := 4, group := 3, path := none, issued := (ps PathState.ready 1 (one (ch 1 3 1 8 35184373399552 8192))).time, write := decide (3 = 1), what := 3, args := [1, 8, 2, 35184373399552], bytes := [], redrive := 0 }
      : FrwCmd).tag)) :=
  ⟨by unfold atCmd; decide +kernel,
   by decide +kernel,
   by decide +kernel,
   by unfold atCmd; decide +kernel,
   by unfold clear; decide +kernel⟩

set_option maxRecDepth 100000 in
/-- Furrow meets its hypotheses: ENG_RELEASE. -/
theorem witness_Furrow_2 :
    (atCmd (lk (EngLock.plot 0 2) (so { (op ca 2) with unit := some 3 } (State.setNoPartner z))) 4 10 { (op ca 2) with unit := some 3 }) ∧
    ({ (op ca 2) with unit := some 3 }.ending = none ∧ { (op ca 2) with unit := some 3 }.next + 1 <
      { (op ca 2) with unit := some 3 }.count) :=
  ⟨by unfold atCmd; decide +kernel,
   by decide +kernel⟩

set_option maxRecDepth 100000 in
/-- Furrow meets its hypotheses: CHANNEL_FLUSH, CHANNEL_RECORD_ACK, FURROW_LATE_COMPLETION, HOST_SEND, NVME_COMPLETION. -/
theorem witness_Furrow_3 :
    (State.noPartner (lk (EngLock.plot 0 2) (so { (op ca 2) with unit := some 3 } (State.setNoPartner z))) = true ∧
      { (op ca 2) with unit := some 3 }.unit = some 3 ∧ leAt { (op ca 2) with unit := some 3 }.bytes 1 1 % 2 = 1) ∧
    ((wc2 cw kw PathState.ready).furrow.cmds = [kw] ∧ kw.tag = 29 ∧ kw.group < 64 ∧ kw.path = some 7 ∧ State.op (wc2 cw kw
      PathState.ready) kw.op = some (op2 cw) ∧ (op2 cw).kind = FrwKind.program ∧ (op2 cw).ending = none ∧ kw.what = 1) ∧
    (atCmd (one (ch 6 0 2 0 35184373399552 512)) 4 6 (op (ch 6 0 2 0 35184373399552 512) 1) ∧ State.engineXlat (one (ch 6 0 2 0
      35184373399552 512)) (op (ch 6 0 2 0 35184373399552 512) 1).plot (ccBuf (op (ch 6 0 2 0 35184373399552 512) 1).cmd) (ccLen (op (ch 6
      0 2 0 35184373399552 512) 1).cmd) false = some 35184373399552 ∧ State.session? (one (ch 6 0 2 0 35184373399552 512)) (queueRef (op
      (ch 6 0 2 0 35184373399552 512) 1).plot (ccArg (op (ch 6 0 2 0 35184373399552 512) 1).cmd)) = none) ∧
    ((one cr).furrow.nextTag ≤ 30) ∧
    (atCmd (one prog1) 4 3 (op prog1 1)) ∧
    (29 < (one cr).furrow.nextTag ∧ (∀ c ∈ (one cr).furrow.cmds, c.tag = 29 → c.redrive ≠ 0)) ∧
    (State.op (one prog1) 4 = some (op prog1 1) ∧ (op prog1 1).done = none ∧ (op prog1 1).kind = FrwKind.program) :=
  ⟨by decide +kernel,
   by decide +kernel,
   by unfold atCmd; decide +kernel,
   by decide +kernel,
   by unfold atCmd; decide +kernel,
   by decide +kernel,
   by decide +kernel⟩

set_option maxRecDepth 100000 in
/-- Furrow meets its hypotheses: CIPHER, FRW_SUBMIT, NVME_COMPLETION, START, THRESH. -/
theorem witness_Furrow_4 :
    (State.writesReg (sub 35184373202944 prog1) mR Reg.FRW_SUBMIT_HI = true ∧ (35184373202976 % 64 ≠ 0 ∨ 2 ^ 46 ≤ 35184373202976)) ∧
    (atCmd (State.setBytes (one c8) 35184373399552 cd) 4 8 (op c8 1) ∧ (State.setBytes (one c8) 35184373399552 cd).descAt (op c8 1).plot
      (op c8 1).cmd 128 = some 35184373399552) ∧
    (atCmd (State.setBytes (one c7) 35184373399552 (leb 1 1)) 4 7 (op c7 1) ∧ (State.setBytes (one c7) 35184373399552 (leb 1 1)).descAt
      (op c7 1).plot (op c7 1).cmd 64 = some 35184373399552) ∧
    (State.writesReg (sub 35184373202944 prog1) mR Reg.FRW_SUBMIT_HI = true ∧ 35184373202944 % 64 = 0 ∧ 35184373202944 < 2 ^ 46 ∧
      (State.startOp (sub 35184373202944 prog1) 0 35184373202944 none none).2 = 0) ∧
    (State.writesReg (sub 35184373202944 (ch 3 4 1 0 0 0)) mR Reg.FRW_SUBMIT_HI = true ∧ 35184373202944 % 64 = 0 ∧ 35184373202944 < 2 ^ 46
      ∧ ((State.startOp (sub 35184373202944 (ch 3 4 1 0 0 0)) 0 35184373202944 none none).2 ≠ 0)) ∧
    ((wc2 cr kr PathState.ready).furrow.cmds = [kr] ∧ kr.tag = 29 ∧ kr.group < 64 ∧ kr.path = some 7 ∧ State.op (wc2 cr kr
      PathState.ready) kr.op = some (op2 cr) ∧ (op2 cr).kind = FrwKind.program ∧ (op2 cr).ending = none ∧ kr.what = 2 ∧ (State.engineXlat
      (wc2 cr kr PathState.ready) (op2 cr).plot (ccBuf (op2 cr).cmd) (max 1 (ccLen (op2 cr).cmd)) true).isSome = true) ∧
    (State.fetches (stS 32 prog1) 0 = true ∧ (⟨1, 1, 0⟩ : ImmF).imm = 0 ∧ 1 ≤ (archOf (stS 32 prog1) 0).level ∧ State.xlat (stS 32 prog1)
      0 ((archOf (stS 32 prog1) 0).space 1) (BitVec.toNat ((archOf (stS 32 prog1) 0).reg (⟨1, 1, 0⟩ : ImmF).ra)) 64 Access.write =
      Except.ok (pl (blkpa + 32)) ∧ (BitVec.toNat ((archOf (stS 32 prog1) 0).reg (⟨1, 1, 0⟩ : ImmF).ra) % 64 ≠ 0)) :=
  ⟨by decide +kernel,
   by unfold atCmd; decide +kernel,
   by unfold atCmd; decide +kernel,
   by decide +kernel,
   by decide +kernel,
   by decide +kernel,
   by decide +kernel⟩

set_option maxRecDepth 100000 in
/-- Furrow meets its hypotheses: CHANNEL_WRITE, PEER_READ, PEER_WRITE. -/
theorem witness_Furrow_5 :
    (atCmd (one (ch 4 0 2 8 35184373399552 512)) 4 4 (op (ch 4 0 2 8 35184373399552 512) 1) ∧ State.engineXlat (one (ch 4 0 2 8
      35184373399552 512)) (op (ch 4 0 2 8 35184373399552 512) 1).plot (ccBuf (op (ch 4 0 2 8 35184373399552 512) 1).cmd) (ccLen (op (ch 4
      0 2 8 35184373399552 512) 1).cmd) true = some 35184373399552 ∧ 0 < ccLen (op (ch 4 0 2 8 35184373399552 512) 1).cmd ∧ ccLen (op (ch
      4 0 2 8 35184373399552 512) 1).cmd ≤ 4096) ∧
    (atCmd (one (ch 5 0 2 8 35184373399552 512)) 4 5 (op (ch 5 0 2 8 35184373399552 512) 1) ∧ State.engineXlat (one (ch 5 0 2 8
      35184373399552 512)) (op (ch 5 0 2 8 35184373399552 512) 1).plot (ccBuf (op (ch 5 0 2 8 35184373399552 512) 1).cmd) (ccLen (op (ch 5
      0 2 8 35184373399552 512) 1).cmd) false = some 35184373399552 ∧ 0 < ccLen (op (ch 5 0 2 8 35184373399552 512) 1).cmd ∧ ccLen (op (ch
      5 0 2 8 35184373399552 512) 1).cmd ≤ 4096 ∧ State.goodPrefix (one (ch 5 0 2 8 35184373399552 512)) 28 35184373399552 (ccLen (op (ch
      5 0 2 8 35184373399552 512) 1).cmd) false = ccLen (op (ch 5 0 2 8 35184373399552 512) 1).cmd) ∧
    (atCmd (ps PathState.ready 1 (one (ch 2 3 1 8 240518168576 8192))) 4 2 (op (ch 2 3 1 8 240518168576 8192) 1) ∧ State.engineXlat (ps
      PathState.ready 1 (one (ch 2 3 1 8 240518168576 8192))) (op (ch 2 3 1 8 240518168576 8192) 1).plot (ccBuf (op (ch 2 3 1 8
      240518168576 8192) 1).cmd) (max 1 (ccLen (op (ch 2 3 1 8 240518168576 8192) 1).cmd)) false = some 240518168576 ∧ (0 < ccLen (op (ch
      2 3 1 8 240518168576 8192) 1).cmd ∧ ccLen (op (ch 2 3 1 8 240518168576 8192) 1).cmd ≤ 131072) ∧ State.goodPrefix (ps PathState.ready
      1 (one (ch 2 3 1 8 240518168576 8192))) 28 240518168576 (ccLen (op (ch 2 3 1 8 240518168576 8192) 1).cmd) false < ccLen (op (ch 2 3
      1 8 240518168576 8192) 1).cmd) ∧
    (atCmd (ps PathState.ready 1 (one (ch 2 3 1 8 35184373399552 8192))) 4 2 (op (ch 2 3 1 8 35184373399552 8192) 1) ∧ State.engineXlat
      (ps PathState.ready 1 (one (ch 2 3 1 8 35184373399552 8192))) (op (ch 2 3 1 8 35184373399552 8192) 1).plot (ccBuf (op (ch 2 3 1 8
      35184373399552 8192) 1).cmd) (max 1 (ccLen (op (ch 2 3 1 8 35184373399552 8192) 1).cmd)) false = some 35184373399552 ∧ (0 < ccLen
      (op (ch 2 3 1 8 35184373399552 8192) 1).cmd ∧ ccLen (op (ch 2 3 1 8 35184373399552 8192) 1).cmd ≤ 131072) ∧ State.goodPrefix (ps
      PathState.ready 1 (one (ch 2 3 1 8 35184373399552 8192))) 28 35184373399552 (ccLen (op (ch 2 3 1 8 35184373399552 8192) 1).cmd)
      false = ccLen (op (ch 2 3 1 8 35184373399552 8192) 1).cmd) := by
  refine ⟨?_, ?_, ?_, ?_⟩ <;> (unfold atCmd; decide +kernel)

set_option maxRecDepth 100000 in
/-- Furrow meets its hypotheses: CHANNEL_RECORD_ACK. -/
theorem witness_Furrow_6 :
    (State.op (so { (op prog1 1) with done := some 0 } z) 4 = some { (op prog1 1) with done := some 0 } ∧
      { (op prog1 1) with done := some 0 }.done = some 0) := by decide +kernel

set_option maxRecDepth 100000 in
/-- Furrow meets its hypotheses: START. -/
theorem witness_Furrow_7 :
    (State.fetches (stS 0 prog1) 0 = true ∧ (⟨1, 1, 0⟩ : ImmF).imm = 0 ∧ 1 ≤ (archOf (stS 0 prog1) 0).level ∧ State.xlat (stS 0 prog1) 0
      ((archOf (stS 0 prog1) 0).space 1) (BitVec.toNat ((archOf (stS 0 prog1) 0).reg (⟨1, 1, 0⟩ : ImmF).ra)) 64 Access.write = Except.ok
      (pl blkpa) ∧ BitVec.toNat ((archOf (stS 0 prog1) 0).reg (⟨1, 1, 0⟩ : ImmF).ra) % 64 = 0 ∧ (pl blkpa).pa % 64 = 0 ∧ State.agentStatus
      (stS 0 prog1) frwStop (pl blkpa).pa 64 = WarpStatus.ok ∧ blockOk (State.bytes (stS 0 prog1) (pl blkpa).pa 64) = true ∧ leAt
      (State.bytes (stS 0 prog1) (pl blkpa).pa 64) 16 8 % 32 = 0 ∧ engineAddrOk (State.unit (stS 0 prog1) 0).execPlot (leAt (State.bytes
      (stS 0 prog1) (pl blkpa).pa 64) 16 8) = true ∧ State.engineXlat (stS 0 prog1) (State.unit (stS 0 prog1) 0).execPlot (leAt
      (State.bytes (stS 0 prog1) (pl blkpa).pa 64) 16 8) (32 * leAt (State.bytes (stS 0 prog1) (pl blkpa).pa 64) 2 2) false = some (blkpa
      + 512) ∧ State.agentStatus (stS 0 prog1) frwStop (blkpa + 512) (32 * leAt (State.bytes (stS 0 prog1) (pl blkpa).pa 64) 2 2) =
      WarpStatus.ok ∧ (∀ c ∈ List.map (fun (i : ℕ) => chanCmd (State.bytes (stS 0 prog1) (pl blkpa).pa 64 ++ State.bytes (stS 0 prog1)
      (blkpa + 512) (32 * leAt (State.bytes (stS 0 prog1) (pl blkpa).pa 64) 2 2)) i) (List.range (leAt (State.bytes (stS 0 prog1) (pl
      blkpa).pa 64) 2 2)), State.channelOk (stS 0 prog1) (State.unit (stS 0 prog1) 0).execPlot c = true) ∧ ((List.filter (fun (o : FrwOp)
      => o.unit.isSome) (stS 0 prog1).furrow.ops).length < 3072) ∧ (stS 0 prog1).furrow.ops.length < 4096 ∧ ((List.filter (fun (o : FrwOp)
      => decide (o.plot = (State.unit (stS 0 prog1) 0).execPlot)) (List.filter (fun (o : FrwOp) => o.unit.isSome) (stS 0
      prog1).furrow.ops)).length < State.fld (stS 0 prog1) Reg.FRW_CFG 24 16) ∧ (State.entriesFree (stS 0 prog1) (State.unit (stS 0 prog1)
      0).execPlot (List.flatMap (fun (c : List Byte) => State.entryFor (stS 0 prog1) (State.unit (stS 0 prog1) 0).execPlot c) (List.map
      (fun (i : ℕ) => chanCmd (State.bytes (stS 0 prog1) (pl blkpa).pa 64 ++ State.bytes (stS 0 prog1) (blkpa + 512) (32 * leAt
      (State.bytes (stS 0 prog1) (pl blkpa).pa 64) 2 2)) i) (List.range (leAt (State.bytes (stS 0 prog1) (pl blkpa).pa 64) 2 2)))) = true)
      ∧ State.frwReady (stS 0 prog1) = true) := by decide +kernel

end P21

namespace P3

abbrev St := Sys2Proof.Machine.State
def m0 : St := (at_ 0 [(1, 0x10), (2, 0x89ABCDEF), (3, 0x44556677), (4, 0x40)]).setBytes (scratchBase + 0x120010) [0x81,0x82,0x83,0x84,0x85,0x86,0x87,0x88]
def plp (pa : Nat) : Place := { pa := pa, cacheable := true, journaled := false, pairArea := true }
def m1 := m0.setBytes (scratchBase + 0x40) [1,2,3,4,5,6,7,8]
def bst (id : Nat) (k : StoreKind) : BufStore := { id := id, unit := 0, pa := scratchBase + 0x120011, data := [9,8,7], kind := k, slot := none, mark := none, strong := false }
def cl : St := m0.mapCluster 0 fun c => { c with stores := [bst 3 .scratch, bst 4 .uncached] }
def lk := m1.mapArch 0 fun a => { a with link := some (scratchBase + 0x40) }
def dram (lvl : Nat) (l : List (Nat × Word)) : St :=
  let s := (at_ lvl l).setReg Reg.MEM_CHSTAT (BitVec.ofNat 32 (2^31 + 2^16))
  s.mapPlot 5 fun p => { p with spaces := p.spaces ++ [(2, { base := 0x100000, pages := 32, attr := 0x6F })] }
def d1 := dram 1 [(1, 0x140), (2, 0x95)]
def dpl (pa : Nat) : Place := { pa := pa, cacheable := true, journaled := false, pairArea := false }
def ln : CLine := { pa := 0x100140, way := 3, mark := none, dirty := some (List.replicate 64 5) }
def d2 := d1.mapCluster 0 fun c => { c with lines := [ln] }
def d3 := d1.setBit (clsReg Reg.CLS_L2LOCK 0) 2 true
def jst : BufStore := { id := 7, unit := 0, pa := 0x200040, data := [9,8,7], kind := .journal, slot := some 4, mark := none, strong := false }
def jb : St := (d1.mapUnit 0 fun c => { c with stores := [jst], txn := some 4 }).mapTick fun t => { t with epochOpen := true }
/-- CacheOperations meets its hypotheses: CLEAN, FLUSH, IINVAL, INVAL, RCLEAN, RFLUSH, RINVAL. -/
theorem witness_CacheOperations_1 :
    (d3.fetches 0 = true ∧ 0 < 192 ∧ goesTo d3 0 (⟨1, 2, 0⟩ : CacF).sp.toNat (lineEa d3 0 (⟨1, 2, 0⟩ : CacF)) 1 Access.read AccKind.line
      (dpl 1048896) ∧ d3.region (dpl 1048896).pa = Region.dram ∧ 1 ≤ (archOf d3 0).level) ∧
    (d2.fetches 0 = true ∧ 0 < 192 ∧ (⟨1, 2, 2, 0⟩ : CrgF).rsv = 0 ∧ 1 ≤ (archOf d2 0).level ∧ (min (BitVec.toNat ((archOf d2 0).reg
      (⟨1, 2, 2, 0⟩ : CrgF).rb)) (BitVec.toNat ((archOf d2 0).reg (⟨1, 2, 2, 0⟩ : CrgF).ra) / 64 * 64 + 65536 - BitVec.toNat ((archOf d2
      0).reg (⟨1, 2, 2, 0⟩ : CrgF).ra)) ≠ 0) ∧ goesTo d2 0 (⟨1, 2, 2, 0⟩ : CrgF).sp.toNat (BitVec.toNat ((archOf d2 0).reg (⟨1, 2, 2, 0⟩ :
      CrgF).ra)) (min (BitVec.toNat ((archOf d2 0).reg (⟨1, 2, 2, 0⟩ : CrgF).rb)) (BitVec.toNat ((archOf d2 0).reg (⟨1, 2, 2, 0⟩ :
      CrgF).ra) / 64 * 64 + 65536 - BitVec.toNat ((archOf d2 0).reg (⟨1, 2, 2, 0⟩ : CrgF).ra))) Access.read AccKind.line (dpl 1048896)) := by
  refine ⟨?_, ?_⟩ <;> (unfold goesTo; decide +kernel)

/-- StoreEntersBuffer meets its hypotheses: FSTD, FSTS, STP. -/
theorem witness_StoreEntersBuffer_1 :
    (m1.fetches 0 = true ∧ goesTo m1 0 (⟨2, 4, 3, 0⟩ : MemF).sp.toNat (eaOf m1 0 (⟨2, 4, 3, 0⟩ : MemF)) 4 Access.write AccKind.plain (plp
      (scratchBase + 64)) ∧ mayStore m1 0 4 1 (plp (scratchBase + 64)) = true) ∧
    (m1.fetches 0 = true ∧ goesTo m1 0 (⟨2, 4, 3, 0⟩ : MemF).sp.toNat (eaOf m1 0 (⟨2, 4, 3, 0⟩ : MemF)) 8 Access.write AccKind.other (plp
      (scratchBase + 64)) ∧ (mayStore m1 0 8 (if eaOf m1 0 (⟨2, 4, 3, 0⟩ : MemF) % 8 = 0 ∧ (plp (scratchBase + 64)).cacheable = true then
      1 else 2) (plp (scratchBase + 64)) = true) ∧ (⟨2, 4, 3, 0⟩ : MemF).rd.toNat % 2 = 0) := by
  refine ⟨?_, ?_⟩ <;> (unfold goesTo; decide +kernel)

/-- LoadResult meets its hypotheses: FLDD, FLDS, LDL, LDP. -/
theorem witness_LoadResult_1 :
    (m1.fetches 0 = true ∧ goesTo m1 0 (⟨10, 4, 3, 0⟩ : MemF).sp.toNat (eaOf m1 0 (⟨10, 4, 3, 0⟩ : MemF)) 4 Access.read AccKind.plain (plp
      (scratchBase + 64)) ∧ readable m1 0 4 (plp (scratchBase + 64)) = true) ∧
    (m1.fetches 0 = true ∧ goesTo m1 0 (⟨10, 4, 3, 0⟩ : MemF).sp.toNat (eaOf m1 0 (⟨10, 4, 3, 0⟩ : MemF)) 4 Access.read AccKind.atomic
      (plp (scratchBase + 64)) ∧ readable m1 0 4 (plp (scratchBase + 64)) = true) ∧
    (m1.fetches 0 = true ∧ goesTo m1 0 (⟨10, 4, 3, 0⟩ : MemF).sp.toNat (eaOf m1 0 (⟨10, 4, 3, 0⟩ : MemF)) 8 Access.read AccKind.other (plp
      (scratchBase + 64)) ∧ (if eaOf m1 0 (⟨10, 4, 3, 0⟩ : MemF) % 8 = 0 ∧ (plp (scratchBase + 64)).cacheable = true then readable m1 0 8
      (plp (scratchBase + 64)) = true else readable m1 0 4 (plp (scratchBase + 64)) = true ∧ readable m1 0 4
      { (plp (scratchBase + 64)) with pa := (plp (scratchBase + 64)).pa + 4 } = true ∧ m1.region ((plp (scratchBase + 64)).pa + 4) =
      m1.region (plp (scratchBase + 64)).pa) ∧ (⟨10, 4, 3, 0⟩ : MemF).rd.toNat % 2 = 0) := by
  refine ⟨?_, ?_, ?_⟩ <;> (unfold goesTo; decide +kernel)

/-- StoreReachesMemory meets its hypotheses: STORE_DRAIN. -/
theorem witness_StoreReachesMemory_1 :
    ((StoreKind.scratch ≠ StoreKind.control) ∧ (1 ≠ 0)) ∧
    ((State.cluster cl (clusterOf (pairOf 0))).stores = [bst 3 StoreKind.scratch, bst 4 StoreKind.uncached] ∧ (bst 3
      StoreKind.scratch).unit = 0 ∧ (bst 3 StoreKind.scratch).kind = StoreKind.scratch ∧ (State.accessStatus cl 0 (bst 3
      StoreKind.scratch).pa (bst 3 StoreKind.scratch).data.length).1 = WarpStatus.ok ∧ State.creditOut cl (clusterOf (pairOf 0)) (bst 3
      StoreKind.scratch).pa = false ∧ (∀ (d : ℕ), State.strongOf cl (bst 3 StoreKind.scratch) = some d → (bst 3 StoreKind.scratch).strong
      = true ∧ State.bit cl (clsReg Reg.CLS_SPSTAT d) 16 = false)) ∧
    ((State.unit jb 0).stores = [jst] ∧ jst.unit = 0 ∧ (∀ x ∈ ([] : List BufStore), x.id ≠ jst.id)) := by
  refine ⟨?_, ?_, ?_⟩ <;> decide +kernel

/-- StoreConditional meets its hypotheses: STC. -/
theorem witness_StoreConditional_1 :
    (m1.fetches 0 = true ∧ goesTo m1 0 (⟨2, 4, 3, 0⟩ : MemF).sp.toNat (eaOf m1 0 (⟨2, 4, 3, 0⟩ : MemF)) 4 Access.write AccKind.atomic (plp
      (scratchBase + 64)) ∧ ((plp (scratchBase + 64)).journaled = true → (m1.txnOf 0).isSome = true) ∧ ((plp (scratchBase + 64)).cacheable
      && (archOf m1 0).link == some ((plp (scratchBase + 64)).pa / 64 * 64)) = false) ∧
    (lk.fetches 0 = true ∧ goesTo lk 0 (⟨2, 4, 3, 0⟩ : MemF).sp.toNat (eaOf lk 0 (⟨2, 4, 3, 0⟩ : MemF)) 4 Access.write AccKind.atomic (plp
      (scratchBase + 64)) ∧ ((plp (scratchBase + 64)).journaled = true → (lk.txnOf 0).isSome = true) ∧ (plp (scratchBase + 64)).cacheable
      = true ∧ (archOf lk 0).link = some ((plp (scratchBase + 64)).pa / 64 * 64) ∧ lk.drained 0 = true ∧ lk.storesOver (plp (scratchBase +
      64)).pa 4 = false ∧ ((plp (scratchBase + 64)).journaled = true → lk.captureFail 0 (plp (scratchBase + 64)).pa 4 = none) ∧
      (lk.accessStatus 0 (plp (scratchBase + 64)).pa 4).1 = WarpStatus.ok ∧ ((plp (scratchBase + 64)).pairArea = true ∨ (lk.line?
      (clusterOf (pairOf 0)) (plp (scratchBase + 64)).pa).isSome = true)) := by
  refine ⟨?_, ?_⟩ <;> (unfold goesTo; decide +kernel)

end P3

namespace P4b

abbrev St := Sys2Proof.Machine.State
def pl (pa : Nat) : Place := { pa := pa, cacheable := false, journaled := false, pairArea := false }
def dec (len : Word) (a b : List Sys2Proof.Byte) : St :=
  (((at_ 0 [(1, 0x100), (2, 0x110), (3, 0x120), (4, 0xFFFFFF85)]).setBytes (scratchBase + 0x120100) a).setBytes (scratchBase + 0x120110) b).mapArch 0 fun x => x.mapSr fun r => { r with declen := len }
def dw (ld la lb : Nat) : Word := BitVec.ofNat 32 (ld * 1024 + la * 32 + lb)
def opd : OpsF := ⟨3,1,2,1,0,0⟩
def dv (a b q : List Sys2Proof.Byte) (w : Word) : St := (dec w a b).setBytes (scratchBase + 0x120120) q
def v0 := dv [0x12, 0x3C] [0x00, 0x0C] [] (dw 5 3 3)
def v1 := dv [0x12, 0x3C] [0x99, 0x9D] [] (dw 5 3 3)
def v2 := dv [0x12, 0x3C] [0x00, 0x7C] [] (dw 5 3 3)
/-- DivisionOfDecimals meets its hypotheses: DIVP. -/
theorem witness_DivisionOfDecimals_1 :
    (0 < 7 ∧ 7 ≤ 123 ∧ 123 < 10 ^ 31) ∧
    (State.fetches v0 0 = true ∧ decFields opd ∧ packedReads v0 0 opd opd.ra (archOf v0 0).la (pl (scratchBase + 1179904)) ∧ packedReads
      v0 0 opd opd.rb (archOf v0 0).lb (pl (scratchBase + 1179920)) ∧ area v0 0 opd opd.rd (packedLen (archOf v0 0).ld) (pl (scratchBase +
      1179936)) ∧ area v0 0 opd opd.ra (packedLen (archOf v0 0).la) (pl (scratchBase + 1179904)) ∧ (pl (scratchBase + 1179904)).pa = (pl
      (scratchBase + 1179904)).pa ∧ packedAt v0 0 (archOf v0 0).la (pl (scratchBase + 1179904)) = some ({ neg := false, mag := 123 } :
      Dec) ∧ packedAt v0 0 (archOf v0 0).lb (pl (scratchBase + 1179920)) = some ({ neg := false, mag := 0 } : Dec) ∧ ((archOf v0
      0).divAreas opd).clash = false ∧ (archOf v0 0).pcf = false ∧ ({ neg := false, mag := 0 } : Dec).mag = 0) ∧
    (State.fetches v2 0 = true ∧ decFields opd ∧ packedReads v2 0 opd opd.ra (archOf v2 0).la (pl (scratchBase + 1179904)) ∧ packedReads
      v2 0 opd opd.rb (archOf v2 0).lb (pl (scratchBase + 1179920)) ∧ area v2 0 opd opd.rd (packedLen (archOf v2 0).ld) (pl (scratchBase +
      1179936)) ∧ area v2 0 opd opd.ra (packedLen (archOf v2 0).la) (pl (scratchBase + 1179904)) ∧ (pl (scratchBase + 1179904)).pa = (pl
      (scratchBase + 1179904)).pa ∧ packedAt v2 0 (archOf v2 0).la (pl (scratchBase + 1179904)) = some ({ neg := false, mag := 123 } :
      Dec) ∧ packedAt v2 0 (archOf v2 0).lb (pl (scratchBase + 1179920)) = some ({ neg := false, mag := 7 } : Dec) ∧ ((archOf v2
      0).divAreas opd).clash = false ∧ (archOf v2 0).pcf = false ∧ (({ neg := false, mag := 7 } : Dec).mag ≠ 0) ∧
      ({ neg := false, mag := 7 } : Dec).mag ≤ ({ neg := false, mag := 123 } : Dec).mag) :=
  ⟨by decide +kernel,
   by unfold packedReads area reads writes goesTo decFields; decide +kernel,
   by unfold packedReads area reads writes goesTo decFields; decide +kernel⟩

/-- DivisionOfDecimals meets its hypotheses: DIVP. -/
theorem witness_DivisionOfDecimals_2 :
    (State.fetches v1 0 = true ∧ decFields opd ∧ packedReads v1 0 opd opd.ra (archOf v1 0).la (pl (scratchBase + 1179904)) ∧ packedReads
      v1 0 opd opd.rb (archOf v1 0).lb (pl (scratchBase + 1179920)) ∧ area v1 0 opd opd.rd (packedLen (archOf v1 0).ld) (pl (scratchBase +
      1179936)) ∧ area v1 0 opd opd.ra (packedLen (archOf v1 0).la) (pl (scratchBase + 1179904)) ∧ (pl (scratchBase + 1179904)).pa = (pl
      (scratchBase + 1179904)).pa ∧ packedAt v1 0 (archOf v1 0).la (pl (scratchBase + 1179904)) = some ({ neg := false, mag := 123 } :
      Dec) ∧ packedAt v1 0 (archOf v1 0).lb (pl (scratchBase + 1179920)) = some ({ neg := true, mag := 999 } : Dec) ∧ ((archOf v1
      0).divAreas opd).clash = false ∧ (archOf v1 0).pcf = false ∧ (({ neg := true, mag := 999 } : Dec).mag ≠ 0) ∧
      (({ neg := false, mag := 123 } : Dec).mag ≠ 0) ∧ ({ neg := false, mag := 123 } : Dec).mag < ({ neg := true, mag := 999 } : Dec).mag) := by unfold packedReads area reads writes goesTo decFields; decide +kernel

end P4b

namespace P20

def cd (op eng slot len al : Nat) (tail : BL) : BL := leb 1 op ++ leb 1 eng ++ zeros 2 ++ leb 2 0 ++ leb 2 slot ++ zeros 8 ++ leb 8 0x200000100000 ++ leb 8 0x200000120000 ++ leb 4 len ++ leb 4 al ++ leb 8 0x200000130000 ++ tail ++ zeros (80 - tail.length)
def ks (k n : Nat) : KeySlot := { kind := k, usage := 0x3F, origin := false, gen := 0, limit := 2^40, count := 0, key := (List.range n).map (BitVec.ofNat 8), near := false }
def cen (s : St) : St := ((dram s).setBit Reg.CPH_CTRL 0 true).setBit Reg.CPH_STATUS 0 true
def csS (b : BL) (k : KeySlot) : St := wks [(300, k)] (((((cen z).setReg (Reg.CPH_ALLOT + 4 * (300 / 16)) 0x80000000).setBytes 0x200000110000 b).setBytes 0x200000100000 ((List.range 64).map (BitVec.ofNat 8))).setBytes 0x200000130000 [9,8,7])
def gcm := cd 1 4 300 32 3 (List.replicate 12 1)
def lk (o : EngLock) : St := z.mapCipher fun c => { c with locks := [(7, o)] }
def jobc (b : BL) : CphJob := { id := 9, engine := leAt b 1 1, desc := 0x200000110000, plot := 0, atD := true, furrow := none, bytes := b, cancel := true, started := true }
def job (b : BL) : CphJob := { id := 9, engine := leAt b 1 1, desc := 0x200000110000, plot := 0, atD := true, furrow := none, bytes := b, cancel := false, started := true }
def js (b : BL) (k : KeySlot) : St := (csS b k).mapCipher fun c => { c with jobs := [job b], nextId := 10 }
def gcdd := cd 2 4 300 32 3 (List.replicate 12 1)
def gcmc := (csS gcm (ks 2 32)).mapCipher fun c => { c with jobs := [jobc gcm], nextId := 10 }
def xte := cd 3 0 300 64 0 (zeros 16 ++ leb 4 64)
def cmg := cd 5 0 300 40 0 []
def cmv := cd 6 0 300 40 0 []
def sha := cd 7 0 300 40 0 []
def hm := cd 9 0 300 40 0 []
def dv := cd 0x10 255 300 4 0 (leb 1 2 ++ leb 1 2 ++ leb 2 310 ++ leb 2 256 ++ leb 1 2 ++ leb 1 3 ++ leb 4 0)
def uw := cd 0x11 255 300 72 0 (leb 2 310)
def sg := cd 0x18 254 300 48 0 []
def vf := cd 0x19 254 300 240 0 []
def pk := cd 0x1A 254 300 0 0 []
def xtd := cd 4 0 300 64 0 (zeros 16 ++ leb 4 64)
def sh5 := cd 8 254 300 32 0 []
def hm5 := cd 10 254 300 32 0 []
/-- EngineJobs meets its hypotheses: DERIVE, HMAC384, LOCK_ACQUIRE, LOCK_RELEASE, PUBKEY, SIGN, VERIFY. -/
theorem witness_EngineJobs_1 :
    (2 < 16 ∧ State.writesReg z Master.firmware (Reg.CPH_LOCK + 4 * 2) = true ∧ 2 < 4) ∧
    ((List.find? (fun (j : CphJob) => decide (j.id = 9)) (js dv (ks 5 32)).cipher.jobs = some (job dv)) ∧ cOp (job dv).bytes = 16 ∧
      (Option.map (fun (x : CphJob) => x.id) (State.cphOn (js dv (ks 5 32)) (job dv).engine) = some 9) ∧ (job dv).started = true ∧ (job
      dv).cancel = false) ∧
    ((List.find? (fun (j : CphJob) => decide (j.id = 9)) (js pk (ks 6 48)).cipher.jobs = some (job pk)) ∧ cOp (job pk).bytes = 26 ∧
      (Option.map (fun (x : CphJob) => x.id) (State.cphOn (js pk (ks 6 48)) (job pk).engine) = some 9) ∧ (job pk).started = true ∧ (job
      pk).cancel = false) ∧
    ((List.find? (fun (j : CphJob) => decide (j.id = 9)) (js hm (ks 5 16)).cipher.jobs = some (job hm)) ∧ cOp (job hm).bytes = 9 ∧
      (Option.map (fun (x : CphJob) => x.id) (State.cphOn (js hm (ks 5 16)) (job hm).engine) = some 9) ∧ (job hm).started = true ∧ (job
      hm).cancel = false) ∧
    ((List.find? (fun (j : CphJob) => decide (j.id = 9)) (js vf (ks 6 48)).cipher.jobs = some (job vf)) ∧ cOp (job vf).bytes = 25 ∧
      (Option.map (fun (x : CphJob) => x.id) (State.cphOn (js vf (ks 6 48)) (job vf).engine) = some 9) ∧ (job vf).started = true ∧ (job
      vf).cancel = false) ∧
    ((List.find? (fun (j : CphJob) => decide (j.id = 9)) (js sg (ks 6 48)).cipher.jobs = some (job sg)) ∧ cOp (job sg).bytes = 24 ∧
      (Option.map (fun (x : CphJob) => x.id) (State.cphOn (js sg (ks 6 48)) (job sg).engine) = some 9) ∧ (job sg).started = true ∧ (job
      sg).cancel = false) := by
  refine ⟨?_, ?_, ?_, ?_, ?_, ?_⟩ <;> decide +kernel

/-- EngineJobs meets its hypotheses: CMAC_VER, SHA384, SHA512, UNWRAP, XTS_ENC. -/
theorem witness_EngineJobs_2 :
    ((List.find? (fun (j : CphJob) => decide (j.id = 9)) (js uw (ks 3 32)).cipher.jobs = some (job uw)) ∧ cOp (job uw).bytes = 17 ∧
      (Option.map (fun (x : CphJob) => x.id) (State.cphOn (js uw (ks 3 32)) (job uw).engine) = some 9) ∧ (job uw).started = true ∧ (job
      uw).cancel = false) ∧
    ((List.find? (fun (j : CphJob) => decide (j.id = 9)) (js sha (ks 1 16)).cipher.jobs = some (job sha)) ∧ cOp (job sha).bytes = 7 ∧
      (Option.map (fun (x : CphJob) => x.id) (State.cphOn (js sha (ks 1 16)) (job sha).engine) = some 9) ∧ (job sha).started = true ∧ (job
      sha).cancel = false) ∧
    ((List.find? (fun (j : CphJob) => decide (j.id = 9)) (js xte (ks 4 64)).cipher.jobs = some (job xte)) ∧ cOp (job xte).bytes = 3 ∧
      (Option.map (fun (x : CphJob) => x.id) (State.cphOn (js xte (ks 4 64)) (job xte).engine) = some 9) ∧ (job xte).started = true ∧ (job
      xte).cancel = false) ∧
    ((List.find? (fun (j : CphJob) => decide (j.id = 9)) (js cmv (ks 1 16)).cipher.jobs = some (job cmv)) ∧ cOp (job cmv).bytes = 6 ∧
      (Option.map (fun (x : CphJob) => x.id) (State.cphOn (js cmv (ks 1 16)) (job cmv).engine) = some 9) ∧ (job cmv).started = true ∧ (job
      cmv).cancel = false) ∧
    ((List.find? (fun (j : CphJob) => decide (j.id = 9)) (js sh5 (ks 1 16)).cipher.jobs = some (job sh5)) ∧ cOp (job sh5).bytes = 8 ∧
      (Option.map (fun (x : CphJob) => x.id) (State.cphOn (js sh5 (ks 1 16)) (job sh5).engine) = some 9) ∧ (job sh5).started = true ∧ (job
      sh5).cancel = false) := by
  refine ⟨?_, ?_, ?_, ?_, ?_⟩ <;> decide +kernel

/-- EngineJobs meets its hypotheses: CMAC_GEN, GCM_DEC, GCM_ENC, HMAC512, XTS_DEC. -/
theorem witness_EngineJobs_3 :
    ((List.find? (fun (j : CphJob) => decide (j.id = 9)) (js xtd (ks 4 64)).cipher.jobs = some (job xtd)) ∧ cOp (job xtd).bytes = 4 ∧
      (Option.map (fun (x : CphJob) => x.id) (State.cphOn (js xtd (ks 4 64)) (job xtd).engine) = some 9) ∧ (job xtd).started = true ∧ (job
      xtd).cancel = false) ∧
    ((List.find? (fun (j : CphJob) => decide (j.id = 9)) (js cmg (ks 1 16)).cipher.jobs = some (job cmg)) ∧ cOp (job cmg).bytes = 5 ∧
      (Option.map (fun (x : CphJob) => x.id) (State.cphOn (js cmg (ks 1 16)) (job cmg).engine) = some 9) ∧ (job cmg).started = true ∧ (job
      cmg).cancel = false) ∧
    ((List.find? (fun (j : CphJob) => decide (j.id = 9)) (js hm5 (ks 5 16)).cipher.jobs = some (job hm5)) ∧ cOp (job hm5).bytes = 10 ∧
      (Option.map (fun (x : CphJob) => x.id) (State.cphOn (js hm5 (ks 5 16)) (job hm5).engine) = some 9) ∧ (job hm5).started = true ∧ (job
      hm5).cancel = false) ∧
    ((List.find? (fun (j : CphJob) => decide (j.id = 9)) (js gcm (ks 2 32)).cipher.jobs = some (job gcm)) ∧ cOp (job gcm).bytes = 1 ∧
      (Option.map (fun (x : CphJob) => x.id) (State.cphOn (js gcm (ks 2 32)) (job gcm).engine) = some 9) ∧ (job gcm).started = true ∧ (job
      gcm).cancel = false) ∧
    ((List.find? (fun (j : CphJob) => decide (j.id = 9)) (js gcdd (ks 2 32)).cipher.jobs = some (job gcdd)) ∧ cOp (job gcdd).bytes = 2 ∧
      (Option.map (fun (x : CphJob) => x.id) (State.cphOn (js gcdd (ks 2 32)) (job gcdd).engine) = some 9) ∧ (job gcdd).started = true ∧
      (job gcdd).cancel = false) ∧
    ((job gcm).furrow = none ∧ (gives [1, 2, 3]).fill = none) := by
  refine ⟨?_, ?_, ?_, ?_, ?_, ?_⟩ <;> decide +kernel

/-- EngineJobs meets its hypotheses: CPH_SUBMIT, GCM_ENC, LOCK_ACQUIRE, LOCK_RELEASE. -/
theorem witness_EngineJobs_4 :
    (7 < 16 ∧ State.writesReg z Master.firmware (Reg.CPH_LOCK + 4 * 7) = true ∧ 4 ≤ 7 ∧ State.lockOf z 7 = none) ∧
    ((job gcm).furrow = none ∧ ({ status := 0, out := [], fill := some (310, ks 3 32) } : CphResult).fill = some (310, ks 3 32)) ∧
    (State.writesReg (csS gcm (ks 2 32)) Master.firmware Reg.CPH_SUBMIT_HI = true ∧ (35184373203008 % 128 ≠ 0 ∨ 2 ^ 46 ≤ 35184373203008)) ∧
    ((List.find? (fun (j : CphJob) => decide (j.id = 9)) gcmc.cipher.jobs = some (jobc gcm)) ∧ cOp (jobc gcm).bytes = 1 ∧ (Option.map (fun
      (x : CphJob) => x.id) (gcmc.cphOn (jobc gcm).engine) = some 9) ∧ (jobc gcm).started = true ∧ (jobc gcm).cancel = true) ∧
    (7 < 16 ∧ State.writesReg (lk EngLock.firmware) Master.firmware (Reg.CPH_LOCK + 4 * 7) = true ∧ 4 ≤ 7 ∧ State.lockOf (lk
      EngLock.firmware) 7 = some EngLock.firmware ∧ (((lk EngLock.firmware).cipher.jobs.all fun (j : CphJob) => decide (j.engine ≠ 7)) =
      true)) := by
  refine ⟨?_, ?_, ?_, ?_, ?_⟩ <;> decide +kernel

end P20

namespace P25

def busy (s : St) : St :=
  let s := (tx 2).setBytes 0x5000 [1,2,3]
  let s := (s.setBytes (scratchBase + 0x40) [7]).mapCluster 3 fun c => { c with lines := [{ pa := 0x5040, dirty := some (List.replicate 64 9), mark := some 7, way := 0 }] }
  let s := ((s.setBit Reg.GLN_STATUS 30 true).setReg Reg.GLN_ERR 0xF).setReg Reg.LCT_ERR 0xFF
  let s := (s.setReg Reg.GLN_NEXTSEQ 77).setReg Reg.GLN_CNT_LOST 5 |>.setFld Reg.ETH_RTO 19 16 3
  (s.mapTick fun t => { t with lastTick := 55, base := 3 }).advance 5000
def lc (s : St) : St := (busy s).mapPower fun t => { t with lcReset := some 6000 }
def inr (s : St) : St := (busy s).mapPower fun t => { t with inReset := true, resetN := false }
/-- Resets meets its hypotheses: LIFECYCLE_RESET, RESET_N_ASSERT, RESET_N_RELEASE, SOFTWARE_RESET. -/
theorem witness_Resets_1 :
    (State.writesReg (busy z) Master.firmware Reg.PCK_RSTCTRL = true ∧ bits (3235774465#32) 31 16 = 49374 ∧ (3235774465#32).getLsbD 0 =
      true ∧ (busy z).power.on = true) ∧
    ((busy z).power.lcReset = none) ∧
    (State.writesReg (busy z) Master.firmware Reg.PCK_RSTCTRL = true ∧ (bits (3235774464#32) 31 16 ≠ 49374 ∨ (3235774464#32).getLsbD 0 =
      false)) ∧
    ((inr z).power.on = true ∧ (inr z).power.inReset = true) ∧
    ((lc z).power.lcReset = some 6000 ∧ (lc z).power.on = true) := by
  refine ⟨?_, ?_, ?_, ?_, ?_⟩ <;> decide +kernel

end P25

namespace P11

abbrev BL := List Sys2Proof.Byte
def hdr (op plot queue reqid entry : Nat) (ps : BL) : BL := be 1 1 ++ be 1 op ++ be 2 4 ++ be 2 plot ++ be 2 queue ++ be 8 reqid ++ be 4 ps.length ++ be 2 entry ++ zeros 10 ++ ps
def tx1 : QSlot := { qs with packet := hdr 1 5 1 77 0 (be 2 1 ++ be 2 4 ++ [1,2,3,4]), checked := true, txn := true, look := false }
def lib (s : St) : St := s.setBytes 0x500000 (leb 4 1 ++ leb 4 0x400)
def dp (f : Plot → Plot) (s : St) : St := s.setPlot 5 (f { plot0 with libBase := 0x500000, libCount := 1, credit := [100,100,100,100,100] })
def srv (s : St) : St := own 1 2 (s.setBit Reg.PLT_STATUS 0 true)
def sp6 : Plot → Plot := fun p => { p with spaces := [(1, { base := scratchBase + 0x120000, pages := 16, attr := 0x2F })] }
def d0 : St := ((dp sp6 (lib (srv (z.setBit Reg.TCK_STATUS 2 true)))).setReg64 Reg.PLT_QREG_BASE_LO 0x600000).mapPlots fun p => { p with qpairs := [{ qp with slots := [tx1] }] }
def d1 : St := (((d0.setRole 0 1).setReg Reg.SOW_CFG 0x100).mapSower fun w => { w with cfg := 0x100 })
def cnd : Cand := { plot := 5, queue := 1, slot := tx1 }
def tx3 : QSlot := { tx1 with checked := false }
def qpa (x : QSlot) : QPair := { qp with slots := [x] }
def d3 (x : QSlot) : St := d1.mapPlots fun p => { p with qpairs := [qpa x] }
def txu : QSlot := { tx3 with cls := 0, packet := (tx3.packet.take 2) ++ be 2 0 ++ tx3.packet.drop 4 }
def d3u : St := (d3 txu).setPlot 5 { (d1.plot 5).getD plot0 with desc := { desc0 with urgMax := 0 } }
def tx4 : QSlot := { tx3 with packet := hdr 1 5 2 77 0 [] }
def cm5 : QSlot := { tx3 with packet := hdr 2 5 1 77 0 [], txn := false }
def ops : List (Nat × BL) := []
def cm6 : QSlot := { tx3 with packet := hdr 0x77 5 1 77 0 [], txn := false }
def rr : ResetRun := { plot := 5, onlyQueue := none, destroy := false, byPlot := 0, byQueue := 0, epoch0 := 0, queues := 1, aborted := 0, cancelled := 0, entries := [] }
def cq1 : CqEnt := { slotNo := 9, kind := 1, pos := 0, bytes := [] }
def dn : QSlot := { tx1 with sstate := .done, status := 0x1003, handed := true }
def d6 : St := (cs { fw 0x12 [] with stage := .begun } (d3 dn)).mapPlots fun p => { p with resets := [rr], qpairs := [{ qpa dn with cq := [cq1], draining := true }] }
def q00 : QPair := { qp0 with plot := 0, queue := 0, slots := [{ cm5 with no := 3, sstate := .handed }] }
def d7 : St := (cs (fw 0x17 [(0x02, be 2 5), (0x03, be 2 7), (0x0D, be 2 64 ++ be 1 0 ++ be 1 0)]) d1).mapPlots fun p => { p with qpairs := [q00] }
def c7 : FwCmd := fw 0x17 [(0x02, be 2 5), (0x03, be 2 7), (0x0D, be 2 64 ++ be 1 0 ++ be 1 0)]
/-- CommandsOfTheSower meets its hypotheses: DISPATCH, PLT_INIT, PLT_READY, SOW_PAIR_WRITE. -/
theorem witness_CommandsOfTheSower_1 :
    (State.resetOf d7 c7.plot c7.queue = none ∧ d7.eth.sessions = [] ∧ State.qpair d7 c7.plot c7.queue = some q00 ∧ State.fenced d7
      c7.plot = false) ∧
    (State.writesReg d1 Master.firmware (Reg.SOW_PAIR + 4 * 0) = true ∧ 0 < 96 ∧ (State.role d1 0 ≠ 2) ∧ (State.role d1 0 ≠ 4)) ∧
    ((State.setRole d1 3 2).writesReg Master.firmware (Reg.SOW_PAIR + 4 * 3) = true ∧ (96 ≤ 3 ∨ (State.setRole d1 3 2).role 3 = 2 ∨
      (State.setRole d1 3 2).role 3 = 4)) ∧
    ((State.advance d1 300).dispatching = true ∧ (State.advance d1 300).freeUnit 0 = true ∧ (State.advance d1 300).choose 0 = some (cnd,
      0, false) ∧ cnd.slot.tslot = none ∧ State.plot d1 cnd.plot = some ((State.plot d1 5).getD plot0) ∧ State.entry d1 ((State.plot d1
      5).getD plot0) (beAt cnd.slot.packet 20 2) = some (1, 1024) ∧ State.freeSlot d1 = some 0) ∧
    ((16386 ≠ 24577)) ∧
    ([[1, 2], [3]].flatten.length ≤ 8936) ∧
    (((State.mapPlots d6 fun (p : Plots) => { p with initBusy := true }).plots.initBusy = true)) ∧
    (State.writesReg z Master.firmware Reg.PLT_CTRL = true ∧ State.bit z Reg.PLT_STATUS 0 = false ∧ (State.writeFields z Reg.PLT_CTRL
      (2147483648 ||| 1)).bit Reg.PLT_CTRL 31 = true) := by
  refine ⟨?_, ?_, ?_, ?_, ?_, ?_, ?_, ?_⟩ <;> decide +kernel

/-- CommandsOfTheSower meets its hypotheses: COMMAND_HANDOFF, QUEUE_CREATE, TXN_SUBMIT. -/
theorem witness_CommandsOfTheSower_2 :
    (c7.stage = CmdStage.fresh ∧ c7.opcode = 23 ∧ State.safe d7 = false ∧ d7.evral.stewHalt = false ∧ (List.find? (fun (d : FwCmd) =>
      decide (d.plot = c7.plot ∧ d.queue = c7.queue ∧ d.opcode = 23)) d7.steward.cmds = some c7) ∧ State.lifeShut d7 = true) ∧
    (State.slotAt (d3 tx4) 5 1 9 = some (qpa tx4, tx4) ∧ tx4.txn = true ∧ tx4.sstate = SState.waiting ∧ tx4.checked = false ∧ (qpa
      tx4).draining = false ∧ State.safe (d3 tx4) = false ∧ (qpa tx4).checkTxn tx4 = some 8195 ∧ State.lookedUp (d3 tx4) (qpa tx4) tx4 =
      none) ∧
    (State.qpair (d3 cm5) 5 1 = some (qpa cm5) ∧ (qpa cm5).nextCmd = some cm5 ∧ (qpa cm5).draining = false ∧ State.mayHand (d3 cm5) (qpa
      cm5) cm5 = true ∧ State.lookedUp (d3 cm5) (qpa cm5) cm5 = none ∧ State.served (d3 cm5) 5 = true ∧ State.fenced (d3 cm5) 5 = false ∧
      State.safe (d3 cm5) = false ∧ State.checkPacket (d3 cm5) 5 1 cm5.packet = Except.ok ops) := by
  refine ⟨?_, ?_, ?_⟩ <;> decide +kernel

/-- CommandsOfTheSower meets its hypotheses: COMMAND_HANDOFF, TXN_SUBMIT. -/
theorem witness_CommandsOfTheSower_3 :
    (State.slotAt d3u 5 1 9 = some (qpa txu, txu) ∧ txu.txn = true ∧ txu.sstate = SState.waiting ∧ txu.checked = false ∧ (qpa
      txu).draining = false ∧ State.safe d3u = false ∧ (qpa txu).checkTxn txu = none ∧ State.plot d3u (qpa txu).plot = some ((State.plot
      d3u 5).getD plot0) ∧ txu.cls = 0 ∧ ((State.plot d3u 5).getD plot0).desc.urgMax = 0 ∧ classOf txu.packet = 0) ∧
    (State.qpair (d3 cm6) 5 1 = some (qpa cm6) ∧ (qpa cm6).nextCmd = some cm6 ∧ (qpa cm6).draining = false ∧ State.mayHand (d3 cm6) (qpa
      cm6) cm6 = true ∧ State.lookedUp (d3 cm6) (qpa cm6) cm6 = none ∧ State.served (d3 cm6) 5 = true ∧ State.fenced (d3 cm6) 5 = false ∧
      State.safe (d3 cm6) = false ∧ State.checkPacket (d3 cm6) 5 1 cm6.packet = Except.error 8194) := by
  refine ⟨?_, ?_⟩ <;> decide +kernel

/-- CommandsOfTheSower meets its hypotheses: PLOT_RESET_DRAIN_DONE, TXN_SUBMIT. -/
theorem witness_CommandsOfTheSower_4 :
    (State.slotAt (d3 tx3) 5 1 9 = some (qpa tx3, tx3) ∧ tx3.txn = true ∧ tx3.sstate = SState.waiting ∧ tx3.checked = false ∧ (qpa
      tx3).draining = false ∧ State.safe (d3 tx3) = false ∧ (qpa tx3).checkTxn tx3 = none ∧ State.plot (d3 tx3) (qpa tx3).plot = some
      ((State.plot d1 5).getD plot0) ∧ (tx3.cls ≠ 0 ∨ 0 < ((State.plot d1 5).getD plot0).desc.urgMax) ∧ (classOf tx3.packet ≠ 0 ∨ tx3.cls
      = 0)) ∧
    (d6.plots.resets = [rr] ∧ State.resetDrained d6 rr = true ∧ rr.onlyQueue = none ∧ rr.destroy = false ∧ d6.steward.cmds =
      [{ (fw 18 []) with stage := CmdStage.begun }] ∧ { (fw 18 []) with stage := CmdStage.begun }.plot = rr.byPlot ∧
      { (fw 18 []) with stage := CmdStage.begun }.queue = rr.byQueue ∧ d6.eth.sessions = [] ∧ State.noPartner d6 = true ∧ State.plot d6
      rr.plot = some ((State.plot d6 5).getD plot0) ∧ State.safe d6 = false ∧ d6.evral.stewHalt = false) := by
  refine ⟨?_, ?_⟩ <;> decide +kernel

/-- CommandsOfTheSower meets its hypotheses: QUEUE_CREATE. -/
theorem witness_CommandsOfTheSower_5 :
    (c7.stage = CmdStage.fresh ∧ c7.opcode = 23 ∧ (State.safe (life 2 (State.mapSteward d7 fun (w : Steward) =>
      { w with cmds := [c7, { (fw 24 c7.params) with slotNo := 2, stage := CmdStage.begun, arrival := 1 }] })) = false) ∧ ((life 2
      (State.mapSteward d7 fun (w : Steward) =>
      { w with cmds := [c7, { (fw 24 c7.params) with slotNo := 2, stage := CmdStage.begun, arrival := 1 }] })).evral.stewHalt = false) ∧
      (List.find? (fun (d : FwCmd) => decide (d.plot = c7.plot ∧ d.queue = c7.queue ∧ d.opcode = 23)) (life 2 (State.mapSteward d7 fun (w
      : Steward) => { w with cmds := [c7, { (fw 24 c7.params) with slotNo := 2, stage := CmdStage.begun, arrival := 1 }] })).steward.cmds
      = some c7) ∧ (State.lifeShut (life 2 (State.mapSteward d7 fun (w : Steward) =>
      { w with cmds := [c7, { (fw 24 c7.params) with slotNo := 2, stage := CmdStage.begun, arrival := 1 }] })) = false) ∧ (State.busyPlot
      (life 2 (State.mapSteward d7 fun (w : Steward) =>
      { w with cmds := [c7, { (fw 24 c7.params) with slotNo := 2, stage := CmdStage.begun, arrival := 1 }] })) c7 = false) ∧
      (State.heldBack (life 2 (State.mapSteward d7 fun (w : Steward) =>
      { w with cmds := [c7, { (fw 24 c7.params) with slotNo := 2, stage := CmdStage.begun, arrival := 1 }] })) c7 = true)) := by decide +kernel

/-- CommandsOfTheSower meets its hypotheses: QUEUE_CREATE. -/
theorem witness_CommandsOfTheSower_6 :
    (c7.stage = CmdStage.fresh ∧ c7.opcode = 23 ∧ (State.setPlot (life 2 d7) 5
      { plot0 with desc := { desc0 with state := PlotState.resetting } }).safe = false ∧ (State.setPlot (life 2 d7) 5
      { plot0 with desc := { desc0 with state := PlotState.resetting } }).evral.stewHalt = false ∧ (List.find? (fun (d : FwCmd) => decide
      (d.plot = c7.plot ∧ d.queue = c7.queue ∧ d.opcode = 23)) (State.setPlot (life 2 d7) 5
      { plot0 with desc := { desc0 with state := PlotState.resetting } }).steward.cmds = some c7) ∧ (State.setPlot (life 2 d7) 5
      { plot0 with desc := { desc0 with state := PlotState.resetting } }).lifeShut = false ∧ (State.setPlot (life 2 d7) 5
      { plot0 with desc := { desc0 with state := PlotState.resetting } }).busyPlot c7 = true) := by decide +kernel

end P11

namespace P22

def pth (st : PathState) (kind : Nat) : Path := { num := 7, record := be 2 7 ++ be 1 3 ++ be 1 kind ++ be 1 0 ++ be 1 0 ++ be 2 3 ++ zeros 18 ++ zeros 6 ++ [65,66,67], state := st, failed := 0, lastKa := 0, rate := 1024, rateAt := 0 }
def fr (s : St) : St := (((pu (dram s)).setBit Reg.FRW_CTRL 0 true).setBit Reg.THR_CTRL 0 true).setBit Reg.THR_STATUS 0 true |>.setBit Reg.FRW_CFG 29 false
def ps (p : Path) : St := (fr z).mapFurrow fun w => { w with paths := [p], nextTag := 30 }
def pl31 (sw : List Sweep) : St := (((fr z).setFld Reg.FRW_NSPLG 25 0 2).setBit Reg.FRW_PLOUGH 31 true |>.setFld Reg.JNL_REGION 28 16 3).mapFurrow fun w => { w with sweeps := sw, ploughSeq := some 7 }
/-- PathsAndDestage meets its hypotheses: CNP_RECEIVE, FAILED_PATH_WRITE_HOLD_EXPIRE, KEEP_ALIVE, PATH_FAIL, PLOUGH_CHUNK. -/
theorem witness_PathsAndDestage_1 :
    (State.path (ps (pth PathState.ready 1)) 7 = some (pth PathState.ready 1) ∧ (pth PathState.ready 1).num = 7 ∧ ((pth PathState.ready
      1).state = PathState.ready ∨ (pth PathState.ready 1).state = PathState.connecting) ∧ (ps (pth PathState.ready 1)).furrow.cmds = []) ∧
    (State.path (ps (pth PathState.ready 1)) 7 = some (pth PathState.ready 1) ∧ (pth PathState.ready 1).num = 7 ∧ (pth PathState.ready
      1).rate = 1024 ∧ (pth PathState.ready 1).rateAt ≤ (State.advance (ps (pth PathState.ready 1)) 50).time) ∧
    (State.path (ps (pth PathState.ready 1)) 7 = some (pth PathState.ready 1) ∧ (pth PathState.ready 1).num = 7 ∧ (pth PathState.ready
      1).kind = 1 ∧ (pth PathState.ready 1).state = PathState.ready ∧ State.safe (ps (pth PathState.ready 1)) = false ∧ (State.advance (ps
      (pth PathState.ready 1)) 50).time < (pth PathState.ready 1).lastKa + 250000000) ∧
    (State.frwReady (pl31 []) = true ∧ State.safe (pl31 []) = false ∧ (pl31 []).furrow.restore = none ∧ State.noPartner (pl31 []) = false
      ∧ (∀ o ∈ (pl31 []).furrow.ops, o.id < (pl31 []).furrow.nextOp) ∧ State.bit (pl31 []) Reg.FRW_PLOUGH 31 = true ∧ (pl31 []).furrow.ops
      = [] ∧ State.ploughsPart (pl31 []) = false ∧ (pl31 []).furrow.sweeps = [] ∧ (State.fld (pl31 []) Reg.FRW_NSPLG 25 0 ≠ 0)) := by
  refine ⟨?_, ?_, ?_, ?_⟩ <;> decide +kernel

/-- PathsAndDestage meets its hypotheses: KEEP_ALIVE, PATH_READY, PATH_RECONNECT. -/
theorem witness_PathsAndDestage_2 :
    (State.path (ps (pth PathState.failed 1)) 7 = some (pth PathState.failed 1) ∧ (pth PathState.failed 1).num = 7 ∧ (pth PathState.failed
      1).state = PathState.failed ∧ State.safe (ps (pth PathState.failed 1)) = false ∧ (State.advance (ps (pth PathState.failed 1))
      50000).time < (pth PathState.failed 1).failed + 10000000) ∧
    (State.path (ps (pth PathState.failed 1)) 7 = some (pth PathState.failed 1) ∧ (pth PathState.failed 1).num = 7 ∧ (pth PathState.failed
      1).state = PathState.failed ∧ State.safe (ps (pth PathState.failed 1)) = false ∧ (pth PathState.failed 1).failed + 10000000 ≤
      (State.advance (ps (pth PathState.failed 1)) 500000000).time) ∧
    (State.path (ps (pth PathState.connecting 1)) 7 = some (pth PathState.connecting 1) ∧ (pth PathState.connecting 1).num = 7 ∧ (pth
      PathState.connecting 1).state = PathState.connecting ∧ State.safe (ps (pth PathState.connecting 1)) = false ∧ (pth
      PathState.connecting 1).kind = 1 ∧ (ps (pth PathState.connecting 1)).furrow.cmds = []) ∧
    (State.path (ps (pth PathState.ready 1)) 7 = some (pth PathState.ready 1) ∧ (pth PathState.ready 1).num = 7 ∧ (pth PathState.ready
      1).kind = 1 ∧ (pth PathState.ready 1).state = PathState.ready ∧ State.safe (ps (pth PathState.ready 1)) = false ∧ (pth
      PathState.ready 1).lastKa + 250000000 ≤ (State.advance (ps (pth PathState.ready 1)) 500000000).time ∧ clear (ps (pth PathState.ready
      1)) (pth PathState.ready 1).port (State.fld (ps (pth PathState.ready 1)) Reg.ETH_QOS 6 4)) :=
  ⟨by decide +kernel,
   by decide +kernel,
   by decide +kernel,
   by unfold clear; decide +kernel⟩

end P22

namespace P7

def rdy (s : St) : St := s.setBit Reg.STK_STATUS 0 true
def msg (p : Party) (op : SliceOp) : SliceMsg := { slice := 2, who := p, ns := 5, key := 0x2200000011, op := op }
def wm (m : SliceMsg) (s : St) : St := s.mapStakes fun k => { k with msgs := [m] }
def a0 := wm (msg (party 4 100) (.request true)) (rdy (tx 0))
def en (x : Bool) (hs : List Party) (ws : List Waiter) : StakeEntry := { slice := 2, bucket := z.homeBucket 5 0x2200000011, way := 0, ns := 5, key := 0x2200000011, excl := x, holders := hs, waiters := ws, hdev := 0, hslot := 7 }
def es (e : StakeEntry) (s : St) : St := s.mapStakes fun k => { k with entries := [e] }
def e1 := en false [party 7 50] []
def a1 := es e1 (wm (msg (party 4 100) (.request false)) (rdy (tx 0)))
def e3 := en false [party 4 100] []
def a3 := (es e3 (wm (msg (party 7 50) (.request true)) (rdy (tx 0)))).mapStakes fun k => { k with recs := [rec_ (some false) none] }
def a4 := es e3 (wm (msg (party 4 100) .release) (rdy (tx 0)))
def gm (c : Nat) : GrantMsg := { slot := 4, ns := 5, key := 0x2200000011, code := c }
def g0 (c : Nat) := ((tx 0).mapStakes fun k => { k with recs := [rec_ none (some true)], grants := [gm c] }).mapUnit 0 fun x => { x with wait := .stake 9 0x2200000011 true }
def wnd : Wound := { slot := 4, attempt := 1, slice := 2 }
def w0 := (tx 0).mapStakes fun k => { k with wounds := [wnd] }
def w1 := z.mapStakes fun k => { k with wounds := [wnd] }
def rr : StakeRec := { rec_ none (some true) with home := 9, issued := 500 }
def r0 := ((tx 0).mapStakes fun k => { k with recs := [rr] }).mapUnit 0 fun x => { x with wait := .stake 9 0x2200000011 true }
def c0 := (z.setReg64 Reg.STK_BASE_LO 0x40000000)
def c1 := c0.setBit Reg.STK_STATUS 1 true
/-- StakesAtTheSlice meets its hypotheses: SLICE_RELEASE, SLICE_REQUEST, STAKE_TABLE_CLEARED, WOUND_PRESENT. -/
theorem witness_StakesAtTheSlice_1 :
    (2 < 16 ∧ State.sliceMsg a0 2 = some (msg (party 4 100) (SliceOp.request true)) ∧ State.stakesReady a0 = true ∧ (msg (party 4 100)
      (SliceOp.request true)).who.dev = State.devId a0 ∧ (msg (party 4 100) (SliceOp.request true)).op = SliceOp.request true ∧ 0 <
      State.fld a0 Reg.STK_CFG 3 0) ∧
    (2 < 16 ∧ State.sliceMsg a0 2 = some (msg (party 4 100) (SliceOp.request true)) ∧ State.stakesReady a0 = true ∧ (msg (party 4 100)
      (SliceOp.request true)).who.dev = State.devId a0 ∧ (msg (party 4 100) (SliceOp.request true)).op = SliceOp.request true ∧
      State.stakeEntry a0 2 (msg (party 4 100) (SliceOp.request true)).ns (msg (party 4 100) (SliceOp.request true)).key = none ∧
      State.occupied a0 2 < State.highWater a0 ∧ State.freeWay a0 2 (msg (party 4 100) (SliceOp.request true)).ns (msg (party 4 100)
      (SliceOp.request true)).key = some (State.homeBucket a0 5 146028888081, 0)) ∧
    (2 < 16 ∧ State.sliceMsg a4 2 = some (msg (party 4 100) SliceOp.release) ∧ State.stakesReady a4 = true ∧ (msg (party 4 100)
      SliceOp.release).who.dev = State.devId a4 ∧ (msg (party 4 100) SliceOp.release).op = SliceOp.release ∧ State.entryOf a4 2 (msg
      (party 4 100) SliceOp.release).ns (msg (party 4 100) SliceOp.release).key (msg (party 4 100) SliceOp.release).who = some e3 ∧
      (List.filter (fun (h : Party) => !h.same (msg (party 4 100) SliceOp.release).who) e3.holders = []) ∧ e3.waiters = []) ∧
    (c1.bit Reg.STK_STATUS 1 = true) ∧
    ((List.find? (fun (w : Wound) => decide (w.slot = 4)) w1.stakes.wounds = some wnd) ∧ w1.tslot 4 = none ∧ wnd.slice < 16) := by
  refine ⟨?_, ?_, ?_, ?_, ?_⟩ <;> decide +kernel

/-- StakesAtTheSlice meets its hypotheses: REMOTE_STAKE_TIMEOUT, STAKE_GRANT, STK_CLEAR, WOUND_PRESENT. -/
theorem witness_StakesAtTheSlice_2 :
    (c0.writesReg Master.firmware Reg.STK_CTRL = true ∧ c0.stakesReady = false ∧ (c0.writeFields Reg.STK_CTRL (2147483648 ||| 1)).bit
      Reg.STK_CTRL 31 = true) ∧
    ((List.find? (fun (w : Wound) => decide (w.slot = 4)) w0.stakes.wounds = some wnd) ∧ w0.tslot 4 = some slot4 ∧ slot4.unit = some 0 ∧
      slot4.attempt = wnd.attempt ∧ (w0.unit 0).latch.ends = []) ∧
    (r0.txnOf 0 = some slot4 ∧ (r0.unit 0).wait = Wait.stake 9 146028888081 true ∧ r0.stakeRec slot4.slot (r0.unit 0).execPlot
      146028888081 = some rr ∧ (rr.home ≠ r0.devId) ∧ rr.waits.isSome = true ∧ rr.queued = false ∧ (r0.advance 100001000).usPassed
      (rr.issued + r0.fld Reg.STK_REMOTE 7 0 * 1000) = true ∧ (r0.unit 0).halted = false ∧ (r0.unit 0).stepping = false ∧ r0.safe = false) ∧
    ((List.find? (fun (g : GrantMsg) => decide (g.slot = 4) && (g0 4).takesAnswer g) (g0 4).stakes.grants = some (gm 4)) ∧ (rec_ none
      (some true)).home = (g0 4).devId ∧ (g0 4).stakeRec 4 (gm 4).ns (gm 4).key = some (rec_ none (some true)) ∧ (rec_ none (some
      true)).waits.isSome = true ∧ (g0 4).standing 4 (gm 4).ns (gm 4).key = some (0, 9) ∧ ((g0 4).unit 0).stepping = false) := by
  refine ⟨?_, ?_, ?_, ?_⟩ <;> decide +kernel

/-- StakesAtTheSlice meets its hypotheses: SLICE_REQUEST. -/
theorem witness_StakesAtTheSlice_3 :
    (2 < 16 ∧ a3.sliceMsg 2 = some (msg (party 7 50) (SliceOp.request true)) ∧ a3.stakesReady = true ∧ (msg (party 7 50) (SliceOp.request
      true)).who.dev = a3.devId ∧ (msg (party 7 50) (SliceOp.request true)).op = SliceOp.request true ∧ a3.stakeEntry 2 (msg (party 7 50)
      (SliceOp.request true)).ns (msg (party 7 50) (SliceOp.request true)).key = some e3 ∧ ((e3.waiters.any fun (w : Waiter) =>
      w.who.older (msg (party 7 50) (SliceOp.request true)).who) = false) ∧ e3.compatible (msg (party 7 50) (SliceOp.request true)).who
      true = false ∧ (e3.holders ≠ [])) ∧
    (2 < 16 ∧ State.sliceMsg a1 2 = some (msg (party 4 100) (SliceOp.request false)) ∧ State.stakesReady a1 = true ∧ (msg (party 4 100)
      (SliceOp.request false)).who.dev = State.devId a1 ∧ (msg (party 4 100) (SliceOp.request false)).op = SliceOp.request false ∧
      State.stakeEntry a1 2 (msg (party 4 100) (SliceOp.request false)).ns (msg (party 4 100) (SliceOp.request false)).key = some e1 ∧
      ((e1.waiters.any fun (w : Waiter) => w.who.older (msg (party 4 100) (SliceOp.request false)).who) = false) ∧ e1.compatible (msg
      (party 4 100) (SliceOp.request false)).who false = true) := by
  refine ⟨?_, ?_⟩ <;> decide +kernel

end P7

namespace P18

def fl (d : Bool) : Fill := { pa := 0x100140, way := 2, cause := .load, unit := 0, doomed := d, served := false }
def c0 (d : Bool) : St := z.mapCluster 0 fun c => { c with fills := [fl d], lines := [{ pa := 0x100140, way := 1, mark := none, dirty := none }] }
def D64 : BL := List.replicate 64 5
def ln (m : Option Nat) (d : Option BL) : CLine := { pa := 0x100140, way := 1, mark := m, dirty := d }
def c1 (m : Option Nat) (d : Option BL) : St := (dram (z.setPlot 5 { plot0 with spaces := [(0, { base := 0x100000, pages := 16, attr := 0x2F })]})).mapCluster 0 fun c => { c with lines := [ln m d] }
def wp : St := (z.setBytes (scratchBase + 0x780000) D64).setBit (clsReg Reg.CLS_SPSTAT 1) 16 true
def ua : UnitAccess := { unit := 0, sp := 0, ea := 0x40 }
def hw : St := { z with warp := { z.warp with held := [{ id := 7, init := 3, target := 14 }] } }
/-- CachesAndWarp meets its hypotheses: BANK_WAKE_DONE, L2_SCRUB, WARP_ISOLATE, WARP_LATE_RESPONSE, WARP_LINK_REPLAY,
WARP_TIMEOUT. -/
theorem witness_CachesAndWarp_1 :
    (State.line? (c1 none none) 0 1048912 = some (ln none none) ∧ (L2Error.data 1 = L2Error.state 1 ∨ L2Error.data 1 = L2Error.data 1 ∧
      State.bit (c1 none none) (clsReg Reg.CLS_L2CFG 0) 0 = true ∨ L2Error.data 1 = L2Error.data 1 ∧ (ln none none).dirty = none)) ∧
    (State.line? (c1 none none) 0 1048912 = some (ln none none) ∧ (ln none none).dirty = none ∧ (ln none none).mark = none) ∧
    ((at_ 0 []).bit Reg.WRP_ISO 14 = false ∧ ((List.filter (fun (x : ℕ × ℕ) => decide (x.1 = 14)) (List.filter (fun (x : ℕ × ℕ) => decide
      (((at_ 0 []).advance 500).time ≤ x.2 + 1000000)) (at_ 0 []).warp.timeouts)).length + 1 < (at_ 0 []).fld Reg.WRP_DEADCFG 3 0) ∧ ((at_
      0 []).advance 500).ready ua.unit = true) ∧
    (2 < 8) ∧
    (5 < 30 ∧ State.bit z Reg.WRP_LINKDOWN 5 = false) ∧
    (((hw.warp.held.any fun (h : WarpHeld) => decide (h.id = 7)) = true)) ∧
    (((at_ 0 []).setBit Reg.WRP_ISO 14 true).bit Reg.WRP_ISO 14 = true) ∧
    (3 < 24 ∧ (privilegedStop 3 = false ∨ State.bit hw Reg.WRP_ISO 3 = true)) := by
  refine ⟨?_, ?_, ?_, ?_, ?_, ?_, ?_, ?_⟩ <;> decide +kernel

/-- CachesAndWarp meets its hypotheses: CACHE_FILL, L2_SCRUB, ROUTE_FLIP, SCRATCHPAD_RETENTION, STRONGROOM_WIPE_DONE,
WARP_ISOLATE. -/
theorem witness_CachesAndWarp_2 :
    (14 < 24 ∧ privilegedStop 14 = true ∧ State.bit hw Reg.WRP_ISO 14 = false) ∧
    (3 < 12 ∧ State.writesReg z Master.firmware (clsReg Reg.CLS_SPRET 3) = true) ∧
    (State.bit wp (clsReg Reg.CLS_SPSTAT 1) 16 = true ∧ State.bankAsleep wp 1 7 = false) ∧
    (State.writesReg z Master.firmware Reg.WRP_RTCTRL = true ∧ State.routeDraining z = false) ∧
    (State.line? (c1 (some 0) (some D64)) 0 1048912 = some (ln (some 0) (some D64)) ∧ (ln (some 0) (some D64)).dirty = some D64 ∧ (ln
      (some 0) (some D64)).mark = some 0) ∧
    ((List.find? (fun (x : Fill) => decide (x.pa = lineOf 1048912 ∧ x.cause = FillFor.load ∧ (!x.served) = true)) (State.cluster (c0 true)
      0).fills = some (fl true)) ∧ (fl true).doomed = true ∧ ReadResult.ok = ReadResult.ok) ∧
    (State.line? (c1 none (some D64)) 0 1048912 = some (ln none (some D64)) ∧ (ln none (some D64)).dirty = some D64 ∧ (ln none (some
      D64)).mark = none ∧ State.mapsAddress (c1 none (some D64)) (ln none (some D64)).pa = some 5) ∧
    ((List.find? (fun (x : Fill) => decide (x.pa = lineOf 1048912 ∧ x.cause = FillFor.load ∧ (!x.served) = true)) (State.cluster (c0
      false) 0).fills = some (fl false)) ∧ (fl false).doomed = false ∧ ReadResult.ok = ReadResult.ok) := by
  refine ⟨?_, ?_, ?_, ?_, ?_, ?_, ?_, ?_⟩ <;> decide +kernel

end P18

namespace P10

abbrev BL := List Sys2Proof.Byte
def pr : Peer := { addr := zeros 10 ++ [255,255,10,0,0,1], port := 999 }
def pkt (ty plot num tok psn apsn win : Nat) (now : Nat) (pay : BL) : BL := be 1 (16+ty) ++ be 1 now ++ be 2 plot ++ be 2 num ++ be 2 pay.length ++ be 4 tok ++ be 4 psn ++ be 4 apsn ++ be 2 win ++ zeros 2 ++ pay
def se : Session := { event := false, plot := 5, number := 1, token := 66, channel := 0, peer := pr, port := 0, pcp := 3, ipsn := 5, expPsn := 40, started := true, dpsn := 9, nextPsn := 12, unacked := [], unsent := [], hostWin := 4, hostApsn := 12, coalN := 0, coalUs := 0, held := [], rtoFrom := 0, expiries := 0, rxUnack := 0, rxOldest := 0, limit := 44, window := 4, repeatAck := false, repeatFrom := 0 }
def serve (s : St) : St := own 1 2 (s.setBit Reg.PLT_STATUS 0 true)
def s0 : St := (serve (pu (at_ 0 []))).mapPlots fun p => { p with qpairs := [qp0] }
def s1 (x : Session) : St := s0.mapEth fun e => { e with sessions := [x] }
def op (ch : Nat) : BL := pkt 1 5 1 0 40 0 4 0 (be 1 0 ++ zeros 1 ++ be 2 ch ++ be 4 40 ++ zeros 4)
def hd (b : BL) : SwHead := (swHead b).getD ⟨0,false,0,0,0,0,0,0,[]⟩
def cmdp (ty psn tok : Nat) : BL := pkt ty 5 1 tok psn 12 4 0 (if ty = 3 then be 1 0 ++ be 1 0x80 ++ be 1 2 ++ zeros 5 ++ be 8 777 ++ zeros 16 else [])
def rf : SessRef := se.ref
def ok1 (u : Bool) : OutPkt := { psn := 11, type := 4, payload := [1,2,3], answers := [], urgent := u }
def x2 : Session := { se with unacked := [ok1 false], expiries := 15, event := true }
def cm : Completion := { plot := 5, queue := 1, slotNo := 9, reqid := 77, status := 0, epoch := 3, result := [1,2], cls := 2, arrival := 5, handed := 10 }
def x3 : Session := { se with event := true, number := 4, held := [cm], coalUs := 10, coalN := 8 }
def hc : HeldComp := { channel := 3, since := 0, comp := cm }
/-- Swath meets its hypotheses: COALESCE_TIMEOUT, HELD_PACKET_EXPIRE, OPEN. -/
theorem witness_Swath_1 :
    (State.safe (s1 x3) = false ∧ State.fenced (s1 x3) x3.plot = false ∧ clear (s1 x3) x3.port x3.pcp ∧ (State.advance (s1 x3)
      500000).session? x3.ref = some x3 ∧ x3.held = [cm] ∧ (cm.cls ≠ 0) ∧ cm.handed + x3.coalUs * 1000 ≤ (State.advance (s1 x3)
      500000).time ∧ x3.unacked = [] ∧ x3.unsent = [] ∧ x3.mayPush = true) ∧
    (State.safe (s1 x3) = false ∧ State.fenced (s1 x3) x3.plot = false ∧ clear (s1 x3) x3.port x3.pcp ∧ (State.advance (s1 x3)
      500000).session? x3.ref = some x3 ∧ (∀ k ∈ (s1 x3).eth.kept, (k.pkts.all fun (p : OutPkt) => p.answers.isEmpty) = true) ∧ (s1
      x3).eth.sessions = [x3] ∧ (x3.window ≠ 0)) ∧
    (State.safe s0 = false ∧ swHead [1, 2] = none) ∧
    (packet s0 (op 99) (hd (op 99)) ∧ (hd (op 99)).type = 1 ∧ (State.advance s0 50).openOk (hd (op 99)) pr = false) ∧
    (packet s0 (cmdp 3 40 66) (hd (cmdp 3 40 66)) ∧ ((hd (cmdp 3 40 66)).type = 3 ∨ (hd (cmdp 3 40 66)).type = 6 ∨ (hd (cmdp 3 40
      66)).type = 7) ∧ (State.advance s0 50).sessionOf (hd (cmdp 3 40 66)) = none) :=
  ⟨by unfold clear; decide +kernel,
   by unfold clear; decide +kernel,
   by decide +kernel,
   by unfold packet; decide +kernel,
   by unfold packet; decide +kernel⟩

/-- Swath meets its hypotheses: ACK, CLOSE, OPEN. -/
theorem witness_Swath_2 :
    (packet (s1 se) (cmdp 6 40 66) (hd (cmdp 6 40 66)) ∧ (s1 se).eth.sessions = [se] ∧ (State.advance (s1 se) 50).sessionOf (hd (cmdp 6 40
      66)) = some se ∧ se.peer.addr = pr.addr ∧ se.unacked = [] ∧ se.unsent = [] ∧ se.event = false ∧ (hd (cmdp 6 40 66)).type = 6 ∧ (hd
      (cmdp 6 40 66)).ackNow = false) ∧
    (packet s0 (op 0) (hd (op 0)) ∧ (hd (op 0)).type = 1 ∧ (State.advance s0 50).openOk (hd (op 0)) pr = true ∧ (State.advance s0
      50).session? { (hd (op 0)) with event := decide (beAt (hd (op 0)).payload 0 1 = 1) } = none ∧ s0.eth.kept = [] ∧ s0.eth.heldc = []) ∧
    (packet (s1 se) (cmdp 7 40 66) (hd (cmdp 7 40 66)) ∧ (s1 se).eth.sessions = [se] ∧ (State.advance (s1 se) 50).sessionOf (hd (cmdp 7 40
      66)) = some se ∧ se.peer.addr = pr.addr ∧ se.unacked = [] ∧ se.unsent = [] ∧ se.event = false ∧ (hd (cmdp 7 40 66)).type = 7 ∧ (hd
      (cmdp 7 40 66)).psn = se.expPsn ∧ se.held = [] ∧ (∀ o ∈ (s1 se).furrow.ops, o.plot ≠ se.plot)) := by
  refine ⟨?_, ?_, ?_⟩ <;> (unfold packet; decide +kernel)

/-- Swath meets its hypotheses: CMD, RETRANSMIT_TIMEOUT. -/
theorem witness_Swath_3 :
    (State.safe (s1 x2) = false ∧ State.fenced (s1 x2) x2.plot = false ∧ clear (s1 x2) x2.port x2.pcp ∧ (State.advance (s1 x2)
      500000000).session? x2.ref = some x2 ∧ (x2.unacked ≠ []) ∧ (State.advance (s1 x2) 500000000).usPassed (x2.rtoFrom + (State.advance
      (s1 x2) 500000000).rtoNs) = true ∧ (State.advance (s1 x2) 500000000).fld Reg.ETH_RTO 19 16 ≤ x2.expiries + 1 ∧ x2.event = true) ∧
    (packet (s1 se) (cmdp 3 43 66) (hd (cmdp 3 43 66)) ∧ (s1 se).eth.sessions = [se] ∧ (State.advance (s1 se) 50).sessionOf (hd (cmdp 3 43
      66)) = some se ∧ se.peer.addr = pr.addr ∧ se.unacked = [] ∧ se.unsent = [] ∧ se.event = false ∧ (hd (cmdp 3 43 66)).type = 3 ∧
      (State.advance (s1 se) 50).closedTo (hd (cmdp 3 43 66)).plot (hd (cmdp 3 43 66)).number = false ∧ ((hd (cmdp 3 43 66)).psn ≠
      se.expPsn)) :=
  ⟨by unfold clear; decide +kernel,
   by unfold packet; decide +kernel⟩

/-- Swath meets its hypotheses: CMD. -/
theorem witness_Swath_4 :
    (packet (s1 se) (cmdp 3 40 66) (hd (cmdp 3 40 66)) ∧ (s1 se).eth.sessions = [se] ∧ (State.advance (s1 se) 50).sessionOf (hd (cmdp 3 40
      66)) = some se ∧ se.peer.addr = pr.addr ∧ se.unacked = [] ∧ se.unsent = [] ∧ se.event = false ∧ (hd (cmdp 3 40 66)).type = 3 ∧
      (State.advance (s1 se) 50).closedTo (hd (cmdp 3 40 66)).plot (hd (cmdp 3 40 66)).number = false ∧ (hd (cmdp 3 40 66)).psn =
      se.expPsn ∧ psnBefore (hd (cmdp 3 40 66)).psn se.limit = true ∧ (hd (cmdp 3 40 66)).ackNow = false ∧ (State.advance (s1 se) 50).fld
      Reg.ETH_ACK 15 8 > se.rxUnack + 1 ∧ (State.advance (s1 se) 50).qpair (hd (cmdp 3 40 66)).plot (hd (cmdp 3 40 66)).number = some qp0
      ∧ (List.find? (fun (d : Dedup) => decide (d.reqid = beAt (hd (cmdp 3 40 66)).payload 8 8)) qp0.dedup = none) ∧ (hd (cmdp 3 40
      66)).payload.length ≤ slotRoom qp0.slotsz ∧ (qp0.freeSlots ≠ 0)) := by unfold packet; decide +kernel

/-- Swath meets its hypotheses: HELD_COMPLETION_EXPIRE. -/
theorem witness_Swath_5 :
    ((((State.mapEth (s1 se) fun (e : Eth) => { e with heldc := [hc] }).mapPlots fun (p : Plots) => { p with qpairs := [] }).safe = false)
      ∧ (((State.mapEth (s1 se) fun (e : Eth) => { e with heldc := [hc] }).mapPlots fun (p : Plots) => { p with qpairs := [] }).fenced
      se.plot = false) ∧ (clear ((State.mapEth (s1 se) fun (e : Eth) => { e with heldc := [hc] }).mapPlots fun (p : Plots) =>
      { p with qpairs := [] }) se.port se.pcp) ∧ ((((State.mapEth (s1 se) fun (e : Eth) => { e with heldc := [hc] }).mapPlots fun (p :
      Plots) => { p with qpairs := [] }).advance 500000000000000).session? rf = some se) ∧ (((State.mapEth (s1 se) fun (e : Eth) =>
      { e with heldc := [hc] }).mapPlots fun (p : Plots) => { p with qpairs := [] }).plots.qpairs = []) ∧ (((State.mapEth (s1 se) fun (e :
      Eth) => { e with heldc := [hc] }).mapPlots fun (p : Plots) => { p with qpairs := [] }).eth.sessions = [se]) ∧ (se.window ≠ 0) ∧ (∀ h
      ∈ ((State.mapEth (s1 se) fun (e : Eth) => { e with heldc := [hc] }).mapPlots fun (p : Plots) => { p with qpairs := [] }).eth.heldc,
      h.comp.slotNo < 2 ^ 32)) := by unfold clear; decide +kernel

/-- Swath meets its hypotheses: ACK_DELAY_EXPIRE. -/
theorem witness_Swath_6 :
    (State.safe (s1 { se with rxUnack := 2 }) = false ∧ State.fenced (s1 { se with rxUnack := 2 }) { se with rxUnack := 2 }.plot = false ∧
      clear (s1 { se with rxUnack := 2 }) { se with rxUnack := 2 }.port { se with rxUnack := 2 }.pcp ∧ (State.advance (s1
      { se with rxUnack := 2 }) 50000).session? rf = some { se with rxUnack := 2 } ∧ 0 < { se with rxUnack := 2 }.rxUnack ∧
      { se with rxUnack := 2 }.rxOldest + (State.advance (s1 { se with rxUnack := 2 }) 50000).fld Reg.ETH_ACK 7 0 * 100 ≤ (State.advance
      (s1 { se with rxUnack := 2 }) 50000).time) := by unfold clear; decide +kernel

/-- Swath meets its hypotheses: WINDOW_ACK_REPEAT. -/
theorem witness_Swath_7 :
    (State.safe (s1 { se with repeatAck := true }) = false ∧ State.fenced (s1 { se with repeatAck := true })
      { se with repeatAck := true }.plot = false ∧ clear (s1 { se with repeatAck := true }) { se with repeatAck := true }.port
      { se with repeatAck := true }.pcp ∧ (State.advance (s1 { se with repeatAck := true }) 5000000).session? rf = some
      { se with repeatAck := true } ∧ { se with repeatAck := true }.repeatAck = true ∧ { se with repeatAck := true }.repeatFrom +
      (State.advance (s1 { se with repeatAck := true }) 5000000).rtoNs ≤ (State.advance (s1 { se with repeatAck := true }) 5000000).time) := by unfold clear; decide +kernel

end P10

namespace P24

def lk (st : WState) (s : St) : St := ((s.setBit Reg.WFT_CTRL 2 true).mapWeft fun w => { w with links := [(2, { state := st, failAt := 0, flit := 5, replays := 1, upAt := 0 })] })
def rt (s : St) : St := s.mapWeft fun w => { w with routes := [(9, 0x80000002)] }
def pa (dev slot : Nat) : Party := { dev := dev, slot := slot, stamp := 100, seq := 3, attempt := 1 }
def pp (attr : Nat) : Plot := { plot0 with spaces := [(1, { base := 0x800000000, pages := 16, attr := attr })] }
def he (s : St) : St := s.mapStakes fun k => { k with entries := [{ slice := 2, bucket := 0, way := 0, ns := 5, key := 3, excl := true, holders := [pa 9 4], waiters := [], hdev := 9, hslot := 4 }] }
def jrS (s : St) : St := ((((s.setFld Reg.JNL_RINGCFG 9 0 4).setFld Reg.JNL_RINGCFG 19 16 1).setReg64 Reg.JNL_RING_BASE_LO 0x40000000).setReg64 Reg.JNL_LIVE_BASE_LO 0x800000000).setFld Reg.JNL_REGION 28 16 1
def r0 (attr : Nat) : St := he (rt (lk .up (jrS (((dram z)).setPlot 5 (pp attr)))))
def mkd (s : St) : St := s.mapCluster 3 fun c => { c with lines := [{ pa := 0x800000040, dirty := none, mark := some 7, way := 0 }] }
def full : St := (r0 0x3F).mapWeft fun w => { w with remLines := (List.range 480).map fun i => { dev := 9, slot := 4, line := { ent with off := 0x1000 + 64*i } } }
def not1 : BL := be 1 1 ++ zeros 20 ++ be 8 777 ++ be 2 5 ++ zeros 10
def wl (s : St) : St := ((s.mapWeft fun w => { w with remLines := [{ dev := 9, slot := 4, line := ent }] }).mapTick fun t => { t with epochOpen := true }).mapJournal fun j => { j with undo := [{ epoch := z.epoch, recs := [] }] }
def rq (w : Bool) : RemReq := { tag := 66, dev := 9, unit := 0, slot := some 4, write := w, addr := 5, len := 4, issued := 0, answer := none }
def sqq (w : Bool) : St := ((rt (lk .up (tx 2))).mapWeft fun k => { k with reqs := [rq w] }).mapUnit 0 fun x => { x with wait := .remote 66, txn := some 4 }
def sw (h : List Nat) : SpanWait := { slot := 4, unit := 0, rlen := 3, homes := h, accepted := [], refused := [], issued := 0 }
def sp (h : List Nat) : St := ((rt (lk .up (tx 2))).mapWeft fun k => { k with spans := [sw h] }).mapUnit 0 fun x => { x with wait := .span 3, txn := some 4 }
def vs : St := z.mapWeft fun w => { w with votes := [{ mine := 3, dev := 9, theirs := 6, count := 2, got := 1, covers := 0, failed := false }, { mine := 4, dev := 9, theirs := 6, count := 2, got := 1, covers := 0, failed := false }] }
def kq : FrwCmd := { tag := 29, op := 4, group := 73, path := some 7, issued := 0, write := false, what := 0xF2, args := [0,8,2,0x200000140000], bytes := [1,2], redrive := 0 }
def opq : FrwOp := { id := 4, plot := 0, optag := 99, unit := none, queue := none, kind := .program, block := 0x20000000, bytes := be 2 0 ++ leb 2 2 ++ zeros 200, next := 0, busy := true, engines := [], parts := 0, acked := true, issued := true, done := none, epoch := 0, lba := 0, blocks := 0, ending := none }
def fq : St := (dram z).mapFurrow fun w => { w with ops := [opq], cmds := [kq], nextOp := 5, nextTag := 30 }
/-- RemoteRecords meets its hypotheses: PEER_RSP, REC_RSP, SPAN_NOTICE, VOTE. -/
theorem witness_RemoteRecords_1 :
    (State.safe (sqq true) = false ∧ (List.find? (fun (r : RemReq) => decide (r.tag = 66 ∧ r.answer.isNone = true)) (sqq true).weft.reqs =
      some (rq true)) ∧ (rq true).write = true ∧ (rq true).slot.isSome = true ∧ (State.unit (sqq true) (rq true).unit).txn = (rq
      true).slot ∧ (State.unit (sqq true) (rq true).unit).latch.ends = []) ∧
    (State.safe (sqq true) = false ∧ (List.find? (fun (r : RemReq) => decide (r.tag = 66 ∧ r.answer.isNone = true)) (sqq true).weft.reqs =
      some (rq true)) ∧ (rq true).write = true ∧ (State.unit (sqq true) (rq true).unit).latch.mcheck = none) ∧
    (State.safe vs = false ∧ vs.tick.sealing = none) ∧
    (State.safe (r0 63) = false ∧ beAt not1 0 1 = 1 ∧ State.remLinesOf (r0 63) 9 4 = [] ∧ (∀ r ∈ (r0 63).weft.remReads, ¬(r.dev = 9 ∧
      r.slot = 4))) ∧
    (fq.furrow.cmds = [kq] ∧ kq.tag = 29 ∧ 64 ≤ kq.group ∧ kq.path = some 7 ∧ State.op fq kq.op = some opq ∧ opq.kind = FrwKind.program ∧
      opq.ending = none ∧ kq.what = 242) := by
  refine ⟨?_, ?_, ?_, ?_, ?_⟩ <;> decide +kernel

/-- RemoteRecords meets its hypotheses: PEER_REQ, REC_READ, REC_WRITE, SPAN_ACCEPT, SPAN_ACCEPT_TIMEOUT. -/
theorem witness_RemoteRecords_2 :
    (State.safe (sp [9, 8]) = false ∧ State.spanWait (sp [9, 8]) 4 = some (sw [9, 8]) ∧ 9 ∈ (sw [9, 8]).homes ∧ 8 ∈ (sw [9, 8]).homes ∧ (8
      ≠ 9)) ∧
    (State.safe (sp [9, 8]) = false ∧ State.spanWait (sp [9, 8]) 4 = some (sw [9, 8]) ∧ ((sw [9, 8]).homes ≠ []) ∧ (State.unit (sp [9, 8])
      (sw [9, 8]).unit).wait = Wait.span (sw [9, 8]).rlen ∧ (State.advance (sp [9, 8]) 50000000).usPassed ((sw [9, 8]).issued + State.fld
      (sp [9, 8]) Reg.WFT_CFG 7 0 * 1000) = true) ∧
    (State.safe (r0 0) = false ∧ State.engineXlat (r0 0) (beAt (be 2 0 ++ be 8 35184373399552 ++ be 2 5 ++ [1, 2, 3, 4, 5]) 0 2) (beAt (be
      2 0 ++ be 8 35184373399552 ++ be 2 5 ++ [1, 2, 3, 4, 5]) 2 8) (beAt (be 2 0 ++ be 8 35184373399552 ++ be 2 5 ++ [1, 2, 3, 4, 5]) 10
      2) true = some 35184373399552) ∧
    (State.safe (r0 0) = false ∧ State.engineXlat (r0 0) (beAt (be 2 0 ++ be 8 35184373399552 ++ be 2 5 ++ [1, 2, 3, 4, 5]) 0 2) (beAt (be
      2 0 ++ be 8 35184373399552 ++ be 2 5 ++ [1, 2, 3, 4, 5]) 2 8) (beAt (be 2 0 ++ be 8 35184373399552 ++ be 2 5 ++ [1, 2, 3, 4, 5]) 10
      2) false = some 35184373399552 ∧ State.goodPrefix (r0 0) 28 35184373399552 (beAt (be 2 0 ++ be 8 35184373399552 ++ be 2 5 ++ [1, 2,
      3, 4, 5]) 10 2) false = beAt (be 2 0 ++ be 8 35184373399552 ++ be 2 5 ++ [1, 2, 3, 4, 5]) 10 2) ∧
    (State.safe (r0 63) = false ∧ State.recSegment (r0 63) 9 5 (some 3) 64 8 false = none) ∧
    (State.safe (r0 63) = false ∧ State.recSegment (r0 63) 9 5 (some 3) 64 [1, 2, 3].length true = none) ∧
    (State.safe (r0 47) = false ∧ State.recSegment (r0 47) 9 5 (some 4) 64 [1, 2, 3].length true = some (34359738432, false)) ∧
    (State.safe (r0 47) = false ∧ State.recSegment (r0 47) 9 5 (some 4) 64 8 false = some (34359738432, false) ∧ State.poisonIn (r0 47)
      34359738432 8 = false) := by
  refine ⟨?_, ?_, ?_, ?_, ?_, ?_, ?_, ?_⟩ <;> decide +kernel

/-- RemoteRecords meets its hypotheses: PEER_REQ, REC_READ, REC_RSP, REC_WRITE, SPAN_ACCEPT, SPAN_NOTICE. -/
theorem witness_RemoteRecords_3 :
    (State.safe (sp [9]) = false ∧ State.spanWait (sp [9]) 4 = some (sw [9]) ∧ (sw [9]).homes = [9] ∧ (State.unit (sp [9]) (sw
      [9]).unit).wait = Wait.span (sw [9]).rlen) ∧
    (State.safe (wl (r0 63)) = false ∧ beAt not1 0 1 = 1 ∧ (State.remLinesOf (wl (r0 63)) 9 4 ≠ []) ∧ (wl (r0 63)).tick.epochOpen = true ∧
      State.commitBlock (wl (r0 63)) (State.epoch (wl (r0 63))) 0 (State.remLinesOf (wl (r0 63)) 9 4).length = none) ∧
    (State.safe (sqq false) = false ∧ (List.find? (fun (r : RemReq) => decide (r.tag = 66 ∧ r.answer.isNone = true)) (sqq false).weft.reqs
      = some (rq false)) ∧ (rq false).write = false ∧ (State.unit (sqq false) (rq false).unit).wait = Wait.remote 66) ∧
    (State.safe (mkd (r0 63)) = false ∧ State.recSegment (mkd (r0 63)) 9 5 (some 4) 64 8 false = some (34359738432, true) ∧ State.poisonIn
      (mkd (r0 63)) 34359738432 8 = false ∧ 0 < 8 ∧ 34359738432 % 64 + 8 ≤ 64 ∧ State.unsealedAt (mkd (r0 63)) (34359738432 / 64 * 64) =
      some 7 ∧ 0 < 7) ∧
    (State.safe (r0 0) = false ∧ State.engineXlat (r0 0) (beAt (be 2 7 ++ be 8 35184373399552 ++ be 2 5 ++ [1, 2, 3, 4, 5]) 0 2) (beAt (be
      2 7 ++ be 8 35184373399552 ++ be 2 5 ++ [1, 2, 3, 4, 5]) 2 8) (beAt (be 2 7 ++ be 8 35184373399552 ++ be 2 5 ++ [1, 2, 3, 4, 5]) 10
      2) true = none) ∧
    (State.safe full = false ∧ State.recSegment full 9 5 (some 4) 64 [1, 2, 3].length true = some (34359738432, true) ∧ (State.remLinesOf
      full 9 4).length = 480 ∧ 64 % 64 + [1, 2, 3].length ≤ 64 ∧ State.reg64 full Reg.JNL_LIVE_BASE_LO % 64 = 0 ∧ hasLine
      (State.remLinesOf full 9 4) (64 / 64 * 64) = false) := by
  refine ⟨?_, ?_, ?_, ?_, ?_, ?_⟩ <;> decide +kernel

end P24

namespace P16

def rootS := ksl 3 0 0 0
def al (n p : Nat) (s : St) : St := s.setReg (Reg.CPH_ALLOT + 4 * (n / 16)) (BitVec.ofNat 32 (0x80000000 + p))
def c52 := fw 0x52 [(0x1B, be 2 300), (0x1C, be 1 0 ++ be 1 1 ++ be 1 2 ++ be 1 3 ++ List.replicate 40 5)]
def c51 := fw 0x51 [(0x1B, be 2 300)]
def c40 := fw 0x40 [(0x17, be 2 7), (0x18, be 1 1 ++ be 1 2), (0x19, be 4 3), (0x1A, zeros 72)]
def s40 := own 1 0 (wks [(1, rootS)] ((mk c40).mapPlots fun p => { p with plots := [] }))
/-- CommandsOnTwinsAndPairs meets its hypotheses: TWIN_PAIR. -/
theorem witness_CommandsOnTwinsAndPairs_1 :
    (runs s40 c40 ∧ c40.opcode = 64 ∧ c40.stage = CmdStage.fresh ∧ (c40.num 23 ≠ State.devId s40) ∧ (beAt ((c40.bytes? 24).getD []) 0 1 ≠
      beAt ((c40.bytes? 24).getD []) 1 1) ∧ State.part s40 = 0) := by unfold runs; decide +kernel

/-- CommandsOnDevice meets its hypotheses: KEY_UNWRAP, MACSEC_SA_SET. -/
theorem witness_CommandsOnDevice_2 :
    (runs (al 300 0 (wks [(300, ksl 2 0 0 0)] (mk c52))) c52 ∧ c52.opcode = 82 ∧ State.macsecSlot (al 300 0 (wks [(300, ksl 2 0 0 0)] (mk
      c52))) (c52.num 27) = true) ∧
    ((runs (State.mapEth (al 300 5 (wks [(300, ksl 2 0 0 0)] (mk c51))) fun (e : Eth) => { e with sas := [saOf [] 300] }) c51) ∧
      (c51.opcode = 80 ∨ c51.opcode = 81) ∧ ((State.mapEth (al 300 5 (wks [(300, ksl 2 0 0 0)] (mk c51))) fun (e : Eth) =>
      { e with sas := [saOf [] 300] }).slotBound (c51.num 27) = true)) := by
  refine ⟨?_, ?_⟩ <;> (unfold runs; decide +kernel)

end P16

namespace P19

def td (op wrap mode slen dlen : Nat) : BL := leb 1 op ++ leb 1 wrap ++ leb 1 mode ++ leb 1 0 ++ leb 2 0 ++ leb 2 0 ++ zeros 8 ++ leb 8 0x200000100000 ++ leb 4 slen ++ leb 4 dlen ++ leb 8 0x200000120000 ++ zeros 24
def ten (s : St) : St := ((dram s).setBit Reg.THR_CTRL 0 true).setBit Reg.THR_STATUS 0 true
def ts (b : BL) : St := ((ten z).setBytes 0x200000110000 b).setBytes 0x200000100000 [1,2,3,4,1,2,3,4,1,2,3,4,1,2,3,4]
def tj (b : BL) (e : Option Nat) : ThrJob := { id := 7, desc := 0x200000110000, plot := 0, bytes := b, stops := [], furrow := none, arrival := 5, engine := e, started := 0, cancel := false }
def jb := td 1 1 6 16 1000
def tq (j : ThrJob) : St := let s := ts j.bytes; { s with thresher := { s.thresher with jobs := [j], nextId := 8 } }
def jr2 := tj jb (some 2)
def jc : ThrJob := { jr2 with cancel := true }
def jst : ThrJob := { jr2 with stops := [1] }
def cmpr := compressAll 0 1 [] ([1,2,3,4,1,2,3,4,1,2,3,4] : BL)
def jd2 : ThrJob := { jr2 with bytes := td 2 0 0 cmpr.length 1000 }
def tqd := (tq jd2).setBytes 0x200000100000 cmpr
def decd := decompressAll 0 1000 cmpr
/-- EngineJobs meets its hypotheses: COMPRESS, DECOMPRESS, THRESHER_PARITY, THR_ENABLE, THR_SUBMIT. -/
theorem witness_EngineJobs_5 :
    (jr2.furrow = none) ∧
    (tqd.thrOn 2 = some jd2 ∧ dOp jd2.bytes = 2 ∧ jd2.cancel = false ∧ (tqd.advance 500).thrSource jd2 false = (cmpr, false) ∧
      decompressAll (dWrap jd2.bytes) (dDlen jd2.bytes) cmpr = (decd.1, decd.2.1, DecEnd.done)) ∧
    (tqd.thrOn 2 = some jd2 ∧ jd2.cancel = false ∧ jd2.stops = [] ∧ tqd.thresher.parity = [] ∧ tqd.thresher.verify = [] ∧ 0 < tqd.fld
      Reg.THR_CFG 3 0) ∧
    (State.writesReg (ts (td 1 0 6 16 1000)) Master.firmware Reg.THR_SUBMIT_HI = true ∧ 35184373202944 % 64 = 0 ∧ 35184373202944 < 2 ^ 46
      ∧ State.bit (ts (td 1 0 6 16 1000)) Reg.THR_CTRL 0 = true ∧ State.safe (ts (td 1 0 6 16 1000)) = false ∧ State.agentStatus (ts (td 1
      0 6 16 1000)) 13 35184373202944 64 = WarpStatus.ok ∧ State.thrFull (ts (td 1 0 6 16 1000)) (leAt (State.bytes (ts (td 1 0 6 16
      1000)) 35184373202944 64) 4 2 % 4096) = false ∧ (State.thrStatus (ts (td 1 0 6 16 1000)) 35184373202944 65535).thrRefusal
      (State.bytes (ts (td 1 0 6 16 1000)) 35184373202944 64) (leAt (State.bytes (ts (td 1 0 6 16 1000)) 35184373202944 64) 4 2 % 4096) =
      none) ∧
    (State.thrOn (tq jc) 2 = some jc ∧ dOp jc.bytes = 1 ∧ jc.cancel = true) ∧
    (State.thrOn (tq jst) 2 = some jst ∧ jst.cancel = false ∧ (jst.stops ≠ [])) ∧
    (State.writesReg (ten z) Master.firmware Reg.THR_CTRL = true ∧ State.bit (ten z) Reg.THR_STATUS 0 = true) := by
  refine ⟨?_, ?_, ?_, ?_, ?_, ?_, ?_⟩ <;> decide +kernel

/-- EngineJobs meets its hypotheses: COMPRESS, THRESHER_JOB_START, THR_ENABLE, THR_SUBMIT. -/
theorem witness_EngineJobs_6 :
    (State.writesReg z Master.firmware Reg.THR_CTRL = true ∧ State.bit z Reg.THR_STATUS 0 = false ∧ BitVec.getLsbD (1 : Word) 0 = true) ∧
    (State.writesReg (ts (td 1 0 6 16 1000)) Master.firmware Reg.THR_SUBMIT_HI = true ∧ (35184373202976 % 64 ≠ 0 ∨ 2 ^ 46 ≤
      35184373202976)) ∧
    (State.thrOn (tq jr2) 2 = some jr2 ∧ dOp jr2.bytes = 1 ∧ jr2.cancel = false ∧ (State.advance (tq jr2) 500).thrSource jr2 false =
      ((State.thrSource (tq jr2) jr2 false).1, false)) ∧
    (2 < 8 ∧ 2 ∉ (tq (tj jb none)).thresher.offline ∧ State.thrOn (tq (tj jb none)) 2 = none ∧ State.thrReady (tq (tj jb none)) = true ∧
      State.safe (tq (tj jb none)) = false ∧ State.nextThrJob (tq (tj jb none)) 2 = some (tj jb none, false)) ∧
    ((State.setBit (ts (td 1 0 6 16 1000)) Reg.THR_CTRL 0 false).writesReg Master.firmware Reg.THR_SUBMIT_HI = true ∧ 35184373202944 % 64
      = 0 ∧ 35184373202944 < 2 ^ 46 ∧ (State.setBit (ts (td 1 0 6 16 1000)) Reg.THR_CTRL 0 false).bit Reg.THR_CTRL 0 = false) := by
  refine ⟨?_, ?_, ?_, ?_, ?_⟩ <;> decide +kernel

end P19

namespace P15

def base : St := life 2 (((z.setPlot 5 p5).setBit Reg.PLT_STATUS 0 true).setReg64 Reg.PLT_QREG_BASE_LO 0x600000)
def mk (c : FwCmd) : St := cs c base
def c40 := fw 0x40 [(0x17, be 2 7), (0x18, be 1 1 ++ be 1 2), (0x19, be 4 3), (0x1A, List.replicate 72 3)]
def c40b := { c40 with stage := .begun }
def c41 := fw 0x41 []
def c41b := { c41 with stage := .begun }
def c42 (m : Nat) := fw 0x42 [(0x25, be 1 m)]
def r48 : Nat × (Nat → Nat → Instr) × Nat × Nat × Nat := (0x48, Instr.pairSplit, 1, 5, 3)
def r49 : Nat × (Nat → Nat → Instr) × Nat × Nat × Nat := (0x49, Instr.pairRejoin, 3, 6, 1)
def c48 (op : Nat) (st : CmdStage) := { fw op [(0x1D, be 2 6)] with stage := st }
def c4a (cl : Nat) := fw 0x4A [(0x1D, be 2 6), (0x1E, be 1 cl)]
def c4b (m : Nat) := fw 0x4B [(0x1D, be 2 6), (0x25, be 1 m)]
def c60 (n : Nat) := fw 0x60 [(0x1F, be 1 n), (0x20, List.replicate 96 3)]
def c61 := fw 0x61 [(0x24, List.replicate 200 3)]
/-- CommandsOnTwinsAndPairs meets its hypotheses: DEBUG_AUTH, TWIN_PAIR, TWIN_RETURN, TWIN_STATUS, TWIN_UNPAIR. -/
theorem witness_CommandsOnTwinsAndPairs_2 :
    (runs (mk c61) c61 ∧ c61.opcode = 97 ∧ (State.authResult (mk c61) ((c61.bytes? 36).getD []) ≠ 1)) ∧
    (runs (own 5 2 (mk (fw 67 []))) (fw 67 []) ∧ (fw 67 []).opcode = 67) ∧
    (runs (own 1 2 (mk (c42 1))) (c42 1) ∧ (c42 1).opcode = 66 ∧ (c42 1).num 37 ≤ 1) ∧
    (runs (own 1 0 (mk c41b)) c41b ∧ c41b.opcode = 65 ∧ c41b.stage = CmdStage.begun ∧ State.part (own 1 0 (mk c41b)) = 0) ∧
    (runs (own 1 2 (mk (c42 2))) (c42 2) ∧ (c42 2).opcode = 66 ∧ (c42 2).num 37 = 2 ∧ (State.own (own 1 2 (mk (c42 2))) ≠ 5)) ∧
    (runs (own 1 1 (mk c40b)) c40b ∧ c40b.opcode = 64 ∧ c40b.stage = CmdStage.begun ∧ (own 1 1 (mk c40b)).twin.hbSeen = false) ∧
    (runs (own 1 2 (mk c41b)) c41b ∧ c41b.opcode = 65 ∧ c41b.stage = CmdStage.begun ∧ (State.part (own 1 2 (mk c41b)) ≠ 0) ∧ (own 1 2 (mk
      c41b)).twin.unpairNext = false) := by
  refine ⟨?_, ?_, ?_, ?_, ?_, ?_, ?_⟩ <;> (unfold runs; decide +kernel)

/-- CommandsOnTwinsAndPairs meets its hypotheses: LIFECYCLE_REQ, SPARE_SET, TWIN_RETURN, TWIN_UNPAIR. -/
theorem witness_CommandsOnTwinsAndPairs_3 :
    (runs (own 5 2 (mk (c42 2))) (c42 2) ∧ (c42 2).opcode = 66 ∧ (c42 2).num 37 = 2 ∧ State.own (own 5 2 (mk (c42 2))) = 5 ∧ (own 5 2 (mk
      (c42 2))).twin.returning = false) ∧
    (runs (life 2 (mk (c60 1))) (c60 1) ∧ (c60 1).opcode = 96 ∧ State.transitionKey (life 2 (mk (c60 1))) (life 2 (mk (c60
      1))).fuses.lifecycle ((c60 1).num 31) = none) ∧
    (runs (own 1 8 (mk c41)) c41 ∧ c41.opcode = 65 ∧ c41.stage = CmdStage.fresh ∧ (State.part (own 1 8 (mk c41)) ≠ 2) ∧ (State.part (own 1
      8 (mk c41)) ≠ 7) ∧ (State.part (own 1 8 (mk c41)) ≠ 10)) ∧
    (runs (State.setRole (mk (c4b 0)) 6 2) (c4b 0) ∧ (c4b 0).opcode = 75 ∧ (c4b 0).stage = CmdStage.fresh ∧ (c4b 0).num 37 = 0 ∧
      (State.setRole (mk (c4b 0)) 6 2).role ((c4b 0).num 29) = 2) ∧
    (runs (State.setRole (mk (c4b 1)) 6 1) (c4b 1) ∧ (c4b 1).opcode = 75 ∧ (c4b 1).stage = CmdStage.fresh ∧ (c4b 1).num 37 = 1 ∧
      (State.setRole (mk (c4b 1)) 6 1).role ((c4b 1).num 29) = 1) := by
  refine ⟨?_, ?_, ?_, ?_, ?_⟩ <;> (unfold runs; decide +kernel)

/-- CommandsOnTwinsAndPairs meets its hypotheses: PAIR_RESERVE, SPARE_SET, TWIN_PAIR, TWIN_UNPAIR. -/
theorem witness_CommandsOnTwinsAndPairs_4 :
    (runs (State.setRole (mk (c4b 1)) 6 2) (c4b 1) ∧ (c4b 1).opcode = 75 ∧ (c4b 1).stage = CmdStage.fresh ∧ (c4b 1).num 37 = 1 ∧
      (State.setRole (mk (c4b 1)) 6 2).role ((c4b 1).num 29) = 2) ∧
    (runs (own 1 2 (mk c41)) c41 ∧ c41.opcode = 65 ∧ c41.stage = CmdStage.fresh ∧ (State.part (own 1 2 (mk c41)) = 2 ∨ State.part (own 1 2
      (mk c41)) = 7 ∨ State.part (own 1 2 (mk c41)) = 10)) ∧
    (runs (State.setRole (mk (c4a 2)) 6 1) (c4a 2) ∧ (c4a 2).opcode = 74 ∧ ((State.setRole (mk (c4a 2)) 6 1).role ((c4a 2).num 29) ≠ 2) ∧
      ((State.setRole (mk (c4a 2)) 6 1).role ((c4a 2).num 29) ≠ 4)) ∧
    (runs (State.setRole (mk (c4a 2)) 6 2) (c4a 2) ∧ (c4a 2).opcode = 74 ∧ ((State.setRole (mk (c4a 2)) 6 2).role ((c4a 2).num 29) = 2 ∨
      (State.setRole (mk (c4a 2)) 6 2).role ((c4a 2).num 29) = 4)) ∧
    (runs (own 1 2 (mk c40)) c40 ∧ c40.opcode = 64 ∧ c40.stage = CmdStage.fresh ∧ (c40.num 23 ≠ State.devId (own 1 2 (mk c40))) ∧ (beAt
      ((c40.bytes? 24).getD []) 0 1 ≠ beAt ((c40.bytes? 24).getD []) 1 1) ∧ (State.part (own 1 2 (mk c40)) ≠ 0)) ∧
    (runs (State.setRole (mk (c48 72 CmdStage.fresh)) 6 1) (c48 72 CmdStage.fresh) ∧ (c48 72 CmdStage.fresh).opcode = r48.1 ∧ (c48 72
      CmdStage.fresh).stage = CmdStage.fresh ∧ (State.setRole (mk (c48 72 CmdStage.fresh)) 6 1).role ((c48 72 CmdStage.fresh).num 29) =
      r48.2.2.1) := by
  refine ⟨?_, ?_, ?_, ?_, ?_, ?_⟩ <;> (unfold runs; decide +kernel)

/-- CommandsOnTwinsAndPairs meets its hypotheses: LIFECYCLE_REQ. -/
theorem witness_CommandsOnTwinsAndPairs_5 :
    (runs (State.setRole (mk (c48 72 CmdStage.fresh)) 6 2) (c48 72 CmdStage.fresh) ∧ (c48 72 CmdStage.fresh).opcode = r48.1 ∧ (c48 72
      CmdStage.fresh).stage = CmdStage.fresh ∧ ((State.setRole (mk (c48 72 CmdStage.fresh)) 6 2).role ((c48 72 CmdStage.fresh).num 29) ≠
      r48.2.2.1)) ∧
    (runs (State.setRole (mk (c48 73 CmdStage.begun)) 6 1) (c48 73 CmdStage.begun) ∧ (c48 73 CmdStage.begun).opcode = r49.1 ∧ (c48 73
      CmdStage.begun).stage = CmdStage.begun ∧ (State.setRole (mk (c48 73 CmdStage.begun)) 6 1).role ((c48 73 CmdStage.begun).num 29) =
      r49.2.2.2.2) ∧
    (runs (State.setRole (mk (c48 73 CmdStage.begun)) 6 6) (c48 73 CmdStage.begun) ∧ (c48 73 CmdStage.begun).opcode = r49.1 ∧ (c48 73
      CmdStage.begun).stage = CmdStage.begun ∧ (State.setRole (mk (c48 73 CmdStage.begun)) 6 6).role ((c48 73 CmdStage.begun).num 29) =
      r49.2.2.2.1 ∧ ((State.setRole (mk (c48 73 CmdStage.begun)) 6 6).pair ((c48 73 CmdStage.begun).num 29)).takeover = none) ∧
    (runs (life 2 (mk (c60 3))) (c60 3) ∧ (c60 3).opcode = 96 ∧ State.transitionKey (life 2 (mk (c60 3))) (life 2 (mk (c60
      3))).fuses.lifecycle ((c60 3).num 31) = some ((State.transitionKey (life 2 z) 2 3).getD []) ∧ ecVerify (sha384
      (State.transitionBytes (life 2 (mk (c60 3))) ((c60 3).num 31))) ((State.transitionKey (life 2 z) 2 3).getD []) (((c60 3).bytes?
      32).getD []) = false) := by
  refine ⟨?_, ?_, ?_, ?_⟩ <;> (unfold runs; decide +kernel)

/-- CommandsOnTwinsAndPairs meets its hypotheses: TWIN_PAIR. -/
theorem witness_CommandsOnTwinsAndPairs_6 :
    ((runs (State.mapTwin (own 1 1 (mk c40b)) fun (w : Twin) => { w with hbSeen := true }) c40b) ∧ c40b.opcode = 64 ∧ c40b.stage =
      CmdStage.begun ∧ ((State.mapTwin (own 1 1 (mk c40b)) fun (w : Twin) => { w with hbSeen := true }).twin.hbSeen = true)) := by unfold runs; decide +kernel

/-- CommandsOnTwinsAndPairs meets its hypotheses: TWIN_UNPAIR. -/
theorem witness_CommandsOnTwinsAndPairs_7 :
    ((runs (State.mapTwin (own 1 2 (mk c41b)) fun (w : Twin) => { w with unpairNext := true }) c41b) ∧ c41b.opcode = 65 ∧ c41b.stage =
      CmdStage.begun ∧ ((State.mapTwin (own 1 2 (mk c41b)) fun (w : Twin) => { w with unpairNext := true }).part ≠ 0) ∧ ((State.mapTwin
      (own 1 2 (mk c41b)) fun (w : Twin) => { w with unpairNext := true }).twin.unpairNext = true)) := by unfold runs; decide +kernel

end P15

namespace P18b

def fz := outD (execRouteFlip .firmware z)
/-- CachesAndWarp meets its hypotheses: ROUTE_COPY, ROUTE_DRAIN_DONE, ROUTE_FLIP. -/
theorem witness_CachesAndWarp_3 :
    (fz.writesReg Master.firmware Reg.WRP_RTCTRL = true ∧ fz.routeDraining = true) := by decide +kernel

end P18b

namespace P14

abbrev BL := List Sys2Proof.Byte
def base : St := life 2 (((z.setPlot 5 p5).setBit Reg.PLT_STATUS 0 true).setReg64 Reg.PLT_QREG_BASE_LO 0x600000)
def mk (c : FwCmd) : St := cs c base
def pc (op : Nat) (ps : List (Nat × BL)) (f : St → St := id) : St := f (mk (fw op ps))
def c39 := fw 0x39 [(0x21, List.replicate 32 7)]
def ks (k g l c : Nat) : KeySlot := { kind := k, usage := 0xFF, origin := false, gen := g, limit := l, count := c, key := List.replicate 48 9, near := false }
def wk (n : Nat) (k : KeySlot) (s : St) : St := s.mapCipher fun x => { x with slots := [(n, k)] }
def c50 := fw 0x50 [(0x1B, be 2 300), (0x1A, List.replicate 72 3)]
def c3b (k n : Nat) := fw 0x3B [(0x15, be 8 k), (0x14, be 2 n)]
def grec : GleanRec := { seq := 6, source := 3, cls := 1, cleared := false, pin := false, lostBefore := false, preReset := false, time := 5, epoch := 0, detail := 4, rep := 1 }
def c51 := fw 0x51 [(0x1B, be 2 300)]
def c52 (sl : Nat) := fw 0x52 [(0x1B, be 2 sl), (0x1C, be 1 0 ++ be 1 1 ++ be 1 2 ++ be 1 3 ++ List.replicate 40 5)]
def wkm (s : St) : St := wk 300 (ks 2 0 5 4) s
def c53 := fw 0x53 [(0x1C, be 1 0 ++ be 1 1 ++ be 1 2 ++ be 1 3 ++ List.replicate 40 5)]
def rec1 (st role : Nat) : BL := be 2 7 ++ be 1 1 ++ be 1 role ++ be 1 0 ++ be 1 st ++ be 2 3 ++ zeros 18 ++ zeros 6 ++ [65, 66, 67]
def c58 (st role : Nat) := fw 0x58 [(0x23, rec1 st role)]
def c59 := fw 0x59 [(0x15, be 8 7)]
def c68 (a b : Nat) := fw 0x68 [(0x22, be 1 a ++ be 1 b)]
/-- CommandsOnDevice meets its hypotheses: ATTEST, GET_INFO, KEY_ERASE, KEY_UNWRAP, MACSEC_SA_CLEAR, MACSEC_SA_SET, PATH_GET,
REG_WRITE. -/
theorem witness_CommandsOnDevice_3 :
    (runs (mk c59) c59 ∧ c59.opcode = 89 ∧ c59.num? 21 = some 7 ∧ State.path (mk c59) 7 = none) ∧
    (runs (pc 4 []) (fw 4 []) ∧ (fw 4 []).opcode = 4) ∧
    (runs (mk c39) c39 ∧ c39.opcode = 57 ∧ State.slotSpent (mk c39) 0 = true) ∧
    (runs (mk c50) c50 ∧ c50.opcode = 80 ∧ State.slotBound (mk c50) (c50.num 27) = false ∧ State.keySlot (mk c50) 1 = none) ∧
    (runs (pc 49 [(18, be 4 262148), (19, be 4 30)]) (fw 49 [(18, be 4 262148), (19, be 4 30)]) ∧ (fw 49 [(18, be 4 262148), (19, be 4
      30)]).opcode = 49) ∧
    (runs (mk c53) c53 ∧ c53.opcode = 83 ∧ c53.stage = CmdStage.fresh ∧ (((mk c53).eth.sas.any fun (b : Sa) => (saOf ((c53.bytes? 28).getD
      []) 0).same b) = false)) ∧
    (runs (wkm (mk (c52 301))) (c52 301) ∧ (c52 301).opcode = 82 ∧ (c52 301).stage = CmdStage.fresh ∧ State.macsecSlot (wkm (mk (c52
      301))) ((c52 301).num 27) = false) ∧
    (runs (wk 300 (ks 1 0 5 4) (mk c51)) c51 ∧ c51.opcode = 81 ∧ State.slotBound (wk 300 (ks 1 0 5 4) (mk c51)) (c51.num 27) = false ∧
      State.paired (wk 300 (ks 1 0 5 4) (mk c51)) = false) := by
  refine ⟨?_, ?_, ?_, ?_, ?_, ?_, ?_, ?_⟩ <;> (unfold runs; decide +kernel)

/-- CommandsOnDevice meets its hypotheses: GLEANER_READ, PATH_SET, REG_READ, TICK_SET. -/
theorem witness_CommandsOnDevice_4 :
    (runs (mk (c3b 5 2)) (c3b 5 2) ∧ (c3b 5 2).opcode = 59 ∧ (c3b 5 2).num? 21 = some 5 ∧ (c3b 5 2).num? 20 = some 2 ∧ (List.take 2
      (List.filter (fun (r : GleanRec) => decide (5 ≤ r.seq)) (mk (c3b 5 2)).gleaner.recs) = [])) ∧
    (runs (mk (c58 0 1)) (c58 0 1) ∧ (c58 0 1).opcode = 88 ∧ pathOk (((c58 0 1).bytes? 35).getD []) = true ∧ (beAt (((c58 0 1).bytes?
      35).getD []) 3 1 ≠ 0) ∧ State.path (mk (c58 0 1)) (beAt (((c58 0 1).bytes? 35).getD []) 0 2) = none) ∧
    (runs (pc 48 [(18, be 4 262148)]) (fw 48 [(18, be 4 262148)]) ∧ (fw 48 [(18, be 4 262148)]).opcode = 48 ∧ (fw 48 [(18, be 4
      262148)]).params = [(18, beBytes 4 ((fw 48 [(18, be 4 262148)]).num 18))] ∧ (fw 48 [(18, be 4 262148)]).num 18 < 2 ^ 32) ∧
    (runs (mk (c68 30 10)) (c68 30 10) ∧ (c68 30 10).opcode = 104 ∧ 10 ≤ beAt (((c68 30 10).bytes? 34).getD []) 0 1 ∧ beAt (((c68 30
      10).bytes? 34).getD []) 0 1 ≤ 250 ∧ (beAt (((c68 30 10).bytes? 34).getD []) 1 1 ≠ 0) ∧ 2 * beAt (((c68 30 10).bytes? 34).getD []) 1
      1 ≤ beAt (((c68 30 10).bytes? 34).getD []) 0 1) ∧
    (runs (mk (c68 30 20)) (c68 30 20) ∧ (c68 30 20).opcode = 104 ∧ (c68 30 20).stage = CmdStage.fresh ∧ (beAt (((c68 30 20).bytes?
      34).getD []) 0 1 < 10 ∨ 250 < beAt (((c68 30 20).bytes? 34).getD []) 0 1 ∨ beAt (((c68 30 20).bytes? 34).getD []) 1 1 = 0 ∨ beAt
      (((c68 30 20).bytes? 34).getD []) 0 1 < 2 * beAt (((c68 30 20).bytes? 34).getD []) 1 1)) := by
  refine ⟨?_, ?_, ?_, ?_, ?_⟩ <;> (unfold runs; decide +kernel)

/-- CommandsOnDevice meets its hypotheses: GLEANER_READ, MACSEC_SA_CLEAR. -/
theorem witness_CommandsOnDevice_5 :
    ((runs (State.mapGleaner (mk (c3b 5 2)) fun (g : Gleaner) => { g with recs := [grec] }) (c3b 5 2)) ∧ (c3b 5 2).opcode = 59 ∧ (c3b 5
      2).num? 21 = some 5 ∧ (c3b 5 2).num? 20 = some 2 ∧ (List.take 2 (List.filter (fun (r : GleanRec) => decide (5 ≤ r.seq))
      (State.mapGleaner (mk (c3b 5 2)) fun (g : Gleaner) => { g with recs := [grec] }).gleaner.recs) ≠ [])) ∧
    ((runs (State.mapEth (mk c53) fun (e : Eth) => { e with sas := [saOf ((c53.bytes? 28).getD []) 4] }) c53) ∧ c53.opcode = 83 ∧
      (((State.mapEth (mk c53) fun (e : Eth) => { e with sas := [saOf ((c53.bytes? 28).getD []) 4] }).eth.sas.any fun (b : Sa) => (saOf
      ((c53.bytes? 28).getD []) 0).same b) = true)) := by
  refine ⟨?_, ?_⟩ <;> (unfold runs; decide +kernel)

end P14

namespace P13

def base : St := life 2 (((z.setPlot 5 p5).setBit Reg.PLT_STATUS 0 true).setReg64 Reg.PLT_QREG_BASE_LO 0x600000)
def mk (c : FwCmd) : St := cs c base
def qs1 : QPair := { qp with slots := [qs, { qs with no := 8, sstate := .done }] }
def mq (c : FwCmd) : St := (dram (mk c)).mapPlots fun p => { p with qpairs := [qs1] }
def qcr (n : Nat) := fw 0x17 [(0x02, be 2 5), (0x03, be 2 n), (0x0D, be 2 64 ++ be 1 0 ++ be 1 0)]
def qde (n : Nat) := fw 0x18 [(0x02, be 2 5), (0x03, be 2 n)]
def qde5 := { qde 1 with plot := 5, queue := 1 }
def qge := fw 0x19 [(0x02, be 2 5), (0x03, be 2 1)]
def ll (off : Nat) := fw 0x20 [(0x02, be 2 5), (0x0E, be 1 1), (0x0F, be 4 off), (0x10, [1,2,3,4,5])]
def sp1 : Space := { base := 0x700000, pages := 16, attr := 0x2F }
def lse := fw 0x21 [(0x02, be 2 5), (0x11, be 2 3 ++ be 1 1 ++ be 1 0 ++ be 4 0x400)]
def exl (m : Nat) := fw 0x22 [(0x02, be 2 5), (0x0F, be 4 4), (0x10, [1,2,3,4]), (0x25, be 1 m)]
def mq0 (c : FwCmd) : St := (dram (mk c))
/-- CommandsOnPlotsAndQueues meets its hypotheses: EXEC_LOAD, LIB_SET_ENTRY, QUEUE_CREATE, QUEUE_DESTROY, QUEUE_GET. -/
theorem witness_CommandsOnPlotsAndQueues_1 :
    (runsAlone (mq lse) lse ∧ State.plot (mq lse) lse.target = some p5 ∧ lse.opcode = 33) ∧
    (runsAlone (mq qge) qge ∧ State.plot (mq qge) qge.target = some p5 ∧ qge.opcode = 25 ∧ State.qpair (mq qge) qge.target (qge.num 3) =
      some qs1) ∧
    (runsAlone (mq (exl 0)) (exl 0) ∧ State.plot (mq (exl 0)) (exl 0).target = some p5 ∧ (exl 0).opcode = 34 ∧ (State.qcount (mq (exl 0))
      (exl 0).target ≠ 0)) ∧
    (runsAlone (mq (qcr 1)) (qcr 1) ∧ State.plot (mq (qcr 1)) (qcr 1).target = some p5 ∧ (qcr 1).opcode = 23 ∧ (State.qpair (mq (qcr 1))
      (qcr 1).target ((qcr 1).num 3) ≠ none)) ∧
    (runsAlone (mq (qde 7)) (qde 7) ∧ State.plot (mq (qde 7)) (qde 7).target = some p5 ∧ (qde 7).opcode = 24 ∧ State.qpair (mq (qde 7))
      (qde 7).target ((qde 7).num 3) = none) ∧
    (runsAlone (mq0 (exl 0)) (exl 0) ∧ State.plot (mq0 (exl 0)) (exl 0).target = some p5 ∧ (exl 0).opcode = 34 ∧ State.qcount (mq0 (exl
      0)) (exl 0).target = 0 ∧ (exl 0).num 37 = 0) := by
  refine ⟨?_, ?_, ?_, ?_, ?_, ?_⟩ <;> (unfold runsAlone runs; decide +kernel)

/-- CommandsOnPlotsAndQueues meets its hypotheses: LIB_LOAD, QUEUE_DESTROY. -/
theorem witness_CommandsOnPlotsAndQueues_2 :
    (runsAlone (mq qde5) qde5 ∧ State.plot (mq qde5) qde5.target = some p5 ∧ qde5.opcode = 24 ∧ (State.qpair (mq qde5) qde5.target
      (qde5.num 3) ≠ none) ∧ qde5.target = qde5.plot ∧ qde5.num 3 = qde5.queue) ∧
    (runsAlone (mq (ll 1048575)) (ll 1048575) ∧ State.plot (mq (ll 1048575)) (ll 1048575).target = some p5 ∧ (ll 1048575).opcode = 32 ∧
      List.lookup ((ll 1048575).num 14) p5.spaces = some sp1 ∧ sp1.attr.testBit 0 = true ∧ sp1.attr.testBit 3 = true ∧ sp1.attr.testBit 5
      = true ∧ 4096 * sp1.pages < (ll 1048575).num 15 + (((ll 1048575).bytes? 16).getD []).length) ∧
    (runsAlone (mq (qde 1)) (qde 1) ∧ State.plot (mq (qde 1)) (qde 1).target = some p5 ∧ (qde 1).opcode = 24 ∧ (State.qpair (mq (qde 1))
      (qde 1).target ((qde 1).num 3) ≠ none) ∧ (¬((qde 1).target = (qde 1).plot ∧ (qde 1).num 3 = (qde 1).queue)) ∧ (mq (qde
      1)).sower.slots = [] ∧ (mq (qde 1)).furrow.ops = [] ∧ (mq (qde 1)).thresher.jobs = [] ∧ (mq (qde 1)).cipher.jobs = []) := by
  refine ⟨?_, ?_, ?_⟩ <;> (unfold runsAlone runs; decide +kernel)

/-- CommandsOnPlotsAndQueues meets its hypotheses: QUEUE_CREATE. -/
theorem witness_CommandsOnPlotsAndQueues_3 :
    (runsAlone (State.setPlot (mq (qcr 7)) 5 { p5 with desc := { desc0 with qmax := 1 } }) (qcr 7) ∧ (State.setPlot (mq (qcr 7)) 5
      { p5 with desc := { desc0 with qmax := 1 } }).plot (qcr 7).target = some { p5 with desc := { desc0 with qmax := 1 } } ∧ (qcr
      7).opcode = 23 ∧ (State.setPlot (mq (qcr 7)) 5 { p5 with desc := { desc0 with qmax := 1 } }).qpair (qcr 7).target ((qcr 7).num 3) =
      none ∧ { p5 with desc := { desc0 with qmax := 1 } }.desc.qmax ≤ (State.setPlot (mq (qcr 7)) 5
      { p5 with desc := { desc0 with qmax := 1 } }).qcount (qcr 7).target) := by unfold runsAlone runs; decide +kernel

end P13

namespace P5

abbrev St := Sys2Proof.Machine.State
def pl (pa : Nat) : Place := { pa := pa, cacheable := false, journaled := false, pairArea := false }
def D := scratchBase + 0x120000
def bm (ra rd rb : Word) : St := (at_ 0 [(1, ra), (2, rb), (3, rd)]).setBytes D ((List.range 16).map fun i => BitVec.ofNat 8 (i+1))
def o : OpsF := ⟨3,1,2,1,1,0⟩
def o0 : OpsF := ⟨3,1,2,1,0,0⟩
def z : St := State.reset
/-- RegisterWrites meets its hypotheses: REGISTER_WRITE. -/
theorem witness_RegisterWrites_2 :
    (State.held z = false ∧ 0 % 4 = 0 ∧ inDbg 0 = false ∧ State.writesReg z Master.firmware 0 = true) ∧
    (State.held z = false ∧ 74560 % 4 = 0 ∧ inDbg 74560 = false ∧ State.writesReg z Master.firmware 74560 = true ∧ regDef? 74560 = none) ∧
    ((State.held z = true ∨ inDbg 262148 = false ∧ mayWrite Master.executive 262148 = false)) := by
  refine ⟨?_, ?_, ?_⟩ <;> decide +kernel

/-- BlockMoves meets its hypotheses: BFILL, BMOV. -/
theorem witness_BlockMoves_1 :
    (State.fetches (bm 0 1024 0) 0 = true ∧ o0.rsv = 0 ∧ (State.unit (bm 0 1024 0) 0).stores.length + 6 ≤ 32 ∧ (o0.ra ≠ 0) ∧ (o0.rb ≠ 0) ∧
      (o0.rd ≠ 0) ∧ (o0.ra ≠ o0.rb) ∧ (o0.rb ≠ o0.rd) ∧ (o0.rd ≠ o0.ra) ∧ BitVec.toNat ((archOf (bm 0 1024 0) 0).reg o0.rb) = 0 ∧ o0.sp2 =
      0) ∧
    (State.fetches (bm 421 4 3) 0 = true ∧ o0.rsv = 0 ∧ (State.unit (bm 421 4 3) 0).stores.length + 6 ≤ 32 ∧ (o0.ra ≠ 0) ∧ (o0.rb ≠ 0) ∧
      (o0.rd ≠ 0) ∧ (o0.ra ≠ o0.rb) ∧ (o0.rb ≠ o0.rd) ∧ (o0.rd ≠ o0.ra) ∧ (BitVec.toNat ((archOf (bm 421 4 3) 0).reg o0.rb) ≠ 0) ∧ o0.sp2
      = 0 ∧ writes (bm 421 4 3) 0 o0.sp.toNat (BitVec.toNat ((archOf (bm 421 4 3) 0).reg o0.rd)) (min (BitVec.toNat ((archOf (bm 421 4 3)
      0).reg o0.rb)) 256) (pl (D + 4))) :=
  ⟨by decide +kernel,
   by unfold writes goesTo; decide +kernel⟩

/-- BlockMoves meets its hypotheses: BMOV. -/
theorem witness_BlockMoves_2 :
    (State.fetches (bm 0 1024 10) 0 = true ∧ o.rsv = 0 ∧ (State.unit (bm 0 1024 10) 0).stores.length + 6 ≤ 32 ∧ (o.ra ≠ 0) ∧ (o.rb ≠ 0) ∧
      (o.rd ≠ 0) ∧ (o.ra ≠ o.rb) ∧ (o.rb ≠ o.rd) ∧ (o.rd ≠ o.ra) ∧ (BitVec.toNat ((archOf (bm 0 1024 10) 0).reg o.rb) ≠ 0) ∧ (¬((archOf
      (bm 0 1024 10) 0).space o.sp.toNat = (archOf (bm 0 1024 10) 0).space o.sp2.toNat ∧ BitVec.toNat ((archOf (bm 0 1024 10) 0).reg o.ra)
      < BitVec.toNat ((archOf (bm 0 1024 10) 0).reg o.rd) ∧ BitVec.toNat ((archOf (bm 0 1024 10) 0).reg o.rd) < BitVec.toNat ((archOf (bm
      0 1024 10) 0).reg o.ra) + BitVec.toNat ((archOf (bm 0 1024 10) 0).reg o.rb))) ∧ reads (bm 0 1024 10) 0 o.sp2.toNat (BitVec.toNat
      ((archOf (bm 0 1024 10) 0).reg o.ra)) (min (BitVec.toNat ((archOf (bm 0 1024 10) 0).reg o.rb)) 256) (pl D) ∧ writes (bm 0 1024 10) 0
      o.sp.toNat (BitVec.toNat ((archOf (bm 0 1024 10) 0).reg o.rd)) (min (BitVec.toNat ((archOf (bm 0 1024 10) 0).reg o.rb)) 256) (pl (D
      + 1024))) ∧
    (State.fetches (bm 0 4 10) 0 = true ∧ o.rsv = 0 ∧ (State.unit (bm 0 4 10) 0).stores.length + 6 ≤ 32 ∧ (o.ra ≠ 0) ∧ (o.rb ≠ 0) ∧ (o.rd
      ≠ 0) ∧ (o.ra ≠ o.rb) ∧ (o.rb ≠ o.rd) ∧ (o.rd ≠ o.ra) ∧ (archOf (bm 0 4 10) 0).space o.sp.toNat = (archOf (bm 0 4 10) 0).space
      o.sp2.toNat ∧ BitVec.toNat ((archOf (bm 0 4 10) 0).reg o.ra) < BitVec.toNat ((archOf (bm 0 4 10) 0).reg o.rd) ∧ BitVec.toNat
      ((archOf (bm 0 4 10) 0).reg o.rd) < BitVec.toNat ((archOf (bm 0 4 10) 0).reg o.ra) + BitVec.toNat ((archOf (bm 0 4 10) 0).reg o.rb)
      ∧ reads (bm 0 4 10) 0 o.sp2.toNat (BitVec.toNat ((archOf (bm 0 4 10) 0).reg o.ra) + BitVec.toNat ((archOf (bm 0 4 10) 0).reg o.rb) -
      min (BitVec.toNat ((archOf (bm 0 4 10) 0).reg o.rb)) 256) (min (BitVec.toNat ((archOf (bm 0 4 10) 0).reg o.rb)) 256) (pl D) ∧ writes
      (bm 0 4 10) 0 o.sp.toNat (BitVec.toNat ((archOf (bm 0 4 10) 0).reg o.rd) + BitVec.toNat ((archOf (bm 0 4 10) 0).reg o.rb) - min
      (BitVec.toNat ((archOf (bm 0 4 10) 0).reg o.rb)) 256) (min (BitVec.toNat ((archOf (bm 0 4 10) 0).reg o.rb)) 256) (pl (D + 4))) := by
  refine ⟨?_, ?_⟩ <;> (unfold reads writes goesTo; decide +kernel)

/-- CompressedBlocks meets its hypotheses: CBLK. -/
theorem witness_CompressedBlocks_1 :
    (([] : List Byte).length ≤ 512) ∧
    (State.fetches (bm 0 1024 10) 0 = true ∧ o.rsv = 0 ∧ (o.ra ≠ 0) ∧ (o.rb ≠ 0) ∧ (o.rd ≠ 0) ∧ (o.ra ≠ o.rb) ∧ (o.rb ≠ o.rd) ∧ (o.rd ≠
      o.ra) ∧ 0 < min (BitVec.toNat ((archOf (bm 0 1024 10) 0).reg o.rb)) 512 ∧ reads (bm 0 1024 10) 0 o.sp2.toNat (BitVec.toNat ((archOf
      (bm 0 1024 10) 0).reg o.ra)) (min (BitVec.toNat ((archOf (bm 0 1024 10) 0).reg o.rb)) 512) (pl D) ∧ writes (bm 0 1024 10) 0
      o.sp.toNat (BitVec.toNat ((archOf (bm 0 1024 10) 0).reg o.rd)) (cblkUnit (State.seenBytes (bm 0 1024 10) 0 (pl D).pa (min
      (BitVec.toNat ((archOf (bm 0 1024 10) 0).reg o.rb)) 512)) (decide (min (BitVec.toNat ((archOf (bm 0 1024 10) 0).reg o.rb)) 512 =
      BitVec.toNat ((archOf (bm 0 1024 10) 0).reg o.rb)))).length (pl (D + 1024)) ∧ (State.unit (bm 0 1024 10) 0).stores.length + (linesOf
      (pl (D + 1024)).pa (cblkUnit (State.seenBytes (bm 0 1024 10) 0 (pl D).pa (min (BitVec.toNat ((archOf (bm 0 1024 10) 0).reg o.rb))
      512)) (decide (min (BitVec.toNat ((archOf (bm 0 1024 10) 0).reg o.rb)) 512 = BitVec.toNat ((archOf (bm 0 1024 10) 0).reg
      o.rb)))).length).length ≤ 32) :=
  ⟨by decide +kernel,
   by unfold reads writes goesTo; decide +kernel⟩

end P5

namespace P20b

def cd (op eng slot len al : Nat) (tail : BL) : BL := leb 1 op ++ leb 1 eng ++ zeros 2 ++ leb 2 0 ++ leb 2 slot ++ zeros 8 ++ leb 8 0x200000100000 ++ leb 8 0x200000120000 ++ leb 4 len ++ leb 4 al ++ leb 8 0x200000130000 ++ tail ++ zeros (80 - tail.length)
def ks (k n : Nat) : KeySlot := { kind := k, usage := 0x3F, origin := false, gen := 0, limit := 2^40, count := 0, key := (List.range n).map (BitVec.ofNat 8), near := false }
def cen (s : St) : St := ((dram s).setBit Reg.CPH_CTRL 0 true).setBit Reg.CPH_STATUS 0 true
def csS (b : BL) (k : KeySlot) : St := wks [(300, k)] (((((cen z).setReg (Reg.CPH_ALLOT + 4 * (300 / 16)) 0x80000000).setBytes 0x200000110000 b).setBytes 0x200000100000 ((List.range 64).map (BitVec.ofNat 8))).setBytes 0x200000130000 [9,8,7])
def gcm := cd 1 4 300 32 3 (List.replicate 12 1)
def csl := (csS gcm (ks 2 32)).mapCipher fun c => { c with locks := [(4, .firmware)] }
/-- EngineJobs meets its hypotheses: CPH_SUBMIT. -/
theorem witness_EngineJobs_7 :
    (csl.writesReg Master.firmware Reg.CPH_SUBMIT_HI = true ∧ 35184373202944 % 128 = 0 ∧ 35184373202944 < 2 ^ 46 ∧ csl.bit Reg.CPH_CTRL 0
      = true ∧ csl.safe = false ∧ csl.agentStatus 29 35184373202944 128 = WarpStatus.ok ∧ csl.cphRefusal (csl.bytes 35184373202944 128)
      (cPlot (csl.bytes 35184373202944 128)) true none = none) := by decide +kernel

end P20b

namespace P12

def base : St := life 2 (((z.setPlot 5 p5).setBit Reg.PLT_STATUS 0 true).setReg64 Reg.PLT_QREG_BASE_LO 0x600000)
def mk (c : FwCmd) : St := cs c base
def cN := fw 2 []
def cC := fw 3 [(0x16, be 8 55)]
def hn : Handle := { id := 55, plot := 0, queue := 0, expiry := 1000, opcode := 0x3A, body := [[1,2,3]] }
def nf (op : Nat) : FwCmd := { fw op [(0x02, be 2 9)] with target := 9 }
def cr := fw 0x10 [(0x02, be 2 5), (0x04, be 2 10), (0x05, be 1 2), (0x06, be 1 14), (0x07, be 2 3)]
def qs1 : QPair := { qp with slots := [qs, { qs with no := 8, sstate := .done }] }
def q6 : QPair := { qp0 with plot := 6, queue := 0, pool := 1, slots := [qs] }
def qz (s : St) : St := s.mapPlots fun p => { p with qpairs := [qs1, q6] }
def ss := fw 0x13 [(0x02, be 2 5), (0x05, be 1 7), (0x06, be 1 3)]
def ss2 := fw 0x13 [(0x02, be 2 5), (0x04, be 2 5000)]
def sad := fw 0x14 [(0x02, be 2 5), (0x0A, [10,0,0,1]), (0x0A, [10,0,0,2])]
def csp (loc base pages attr : Nat) := fw 0x16 [(0x02, be 2 5), (0x0C, be 1 loc ++ zeros 3 ++ be 8 base ++ be 4 pages ++ be 4 attr ++ zeros 4)]
/-- CommandsOnPlotsAndQueues meets its hypotheses: CONTINUE, NOP, PLOT_CREATE, PLOT_GET, PLOT_SET_ADDR, PLOT_SET_SHARE. -/
theorem witness_CommandsOnPlotsAndQueues_4 :
    (runs (mk cN) cN ∧ cN.opcode = 2) ∧
    (runs (mk cr) cr ∧ cr.opcode = 16 ∧ State.pltReady (mk cr) = true ∧ State.plotUsed (mk cr) cr.target = true) ∧
    (runs (mk (nf 21)) (nf 21) ∧ State.plot (mk (nf 21)) (nf 21).target = none ∧ (nf 21).opcode = (21, Instr.plotGet).1) ∧
    (runs (mk sad) sad ∧ State.plot (mk sad) sad.target = some p5 ∧ sad.stage = CmdStage.fresh ∧ State.noPartner (mk sad) = true ∧
      sad.opcode = 20 ∧ sad.num? 8 = none) ∧
    (runs (mk ss) ss ∧ State.plot (mk ss) ss.target = some p5 ∧ ss.stage = CmdStage.fresh ∧ State.noPartner (mk ss) = true ∧ ss.opcode =
      19 ∧ ss.num? 7 = none ∧ ss.num? 4 = none) ∧
    (runs (mk cC) cC ∧ cC.opcode = 3 ∧ (List.find? (fun (h : Handle) => decide (h.id = cC.num 22 ∧ h.plot = cC.plot ∧ h.queue = cC.queue))
      (mk cC).steward.handles = none)) := by
  refine ⟨?_, ?_, ?_, ?_, ?_, ?_⟩ <;> (unfold runs; decide +kernel)

/-- CommandsOnPlotsAndQueues meets its hypotheses: CONTINUE, PLOT_GET, PLOT_RESET, PLOT_SET_SHARE. -/
theorem witness_CommandsOnPlotsAndQueues_5 :
    (runs (mk (fw 21 [])) (fw 21 []) ∧ State.plot (mk (fw 21 [])) (fw 21 []).target = some p5 ∧ (fw 21 []).stage = CmdStage.fresh ∧
      State.noPartner (mk (fw 21 [])) = true ∧ (fw 21 []).opcode = 21) ∧
    (runs (mk ss2) ss2 ∧ State.plot (mk ss2) ss2.target = some p5 ∧ ss2.stage = CmdStage.fresh ∧ State.noPartner (mk ss2) = true ∧
      ss2.opcode = 19 ∧ ss2.num? 4 = some 5000 ∧ p5.own = true ∧ 1024 < State.ownShares (mk ss2) ss2.target + 5000 ∧ ss2.num? 7 = none) ∧
    (runs (qz (mk (fw 17 []))) (fw 17 []) ∧ State.plot (qz (mk (fw 17 []))) (fw 17 []).target = some p5 ∧ (fw 17 []).stage =
      CmdStage.fresh ∧ State.noPartner (qz (mk (fw 17 []))) = true ∧ ((fw 17 []).opcode = 18 ∨ (fw 17 []).opcode = 17) ∧ (qz (mk (fw 17
      []))).sower.slots = [] ∧ (qz (mk (fw 17 []))).furrow.ops = [] ∧ (qz (mk (fw 17 []))).thresher.jobs = [] ∧ (qz (mk (fw 17
      []))).cipher.jobs = [] ∧ (qz (mk (fw 17 []))).plots.resets = []) ∧
    ((runs (State.mapSteward (mk cC) fun (w : Steward) => { w with handles := [hn] }) cC) ∧ cC.opcode = 3 ∧ (List.find? (fun (h : Handle)
      => decide (h.id = cC.num 22 ∧ h.plot = cC.plot ∧ h.queue = cC.queue)) (State.mapSteward (mk cC) fun (w : Steward) =>
      { w with handles := [hn] }).steward.handles = some hn) ∧ ((State.mapSteward (mk cC) fun (w : Steward) =>
      { w with handles := [hn] }).time ≤ hn.expiry)) := by
  refine ⟨?_, ?_, ?_, ?_⟩ <;> (unfold runs; decide +kernel)

/-- CommandsOnPlotsAndQueues meets its hypotheses: SPACE_SET. -/
theorem witness_CommandsOnPlotsAndQueues_6 :
    (runs (dram (mk (csp 1 9437184 4 15))) (csp 1 9437184 4 15) ∧ State.plot (dram (mk (csp 1 9437184 4 15))) (csp 1 9437184 4 15).target
      = some p5 ∧ (csp 1 9437184 4 15).stage = CmdStage.fresh ∧ State.noPartner (dram (mk (csp 1 9437184 4 15))) = true ∧ (csp 1 9437184 4
      15).opcode = 22 ∧ (csp 1 9437184 4 15).space.1 < 253 ∧ State.runsIn (dram (mk (csp 1 9437184 4 15))) (csp 1 9437184 4 15).target
      (csp 1 9437184 4 15).space.1 = false ∧ (csp 1 9437184 4 15).space.2.attr.testBit 0 = true ∧ State.spaceOk (dram (mk (csp 1 9437184 4
      15))) (csp 1 9437184 4 15).target (csp 1 9437184 4 15).space.2 = true) ∧
    (runs (dram (mk (csp 2 9437184 4 31))) (csp 2 9437184 4 31) ∧ State.plot (dram (mk (csp 2 9437184 4 31))) (csp 2 9437184 4 31).target
      = some p5 ∧ (csp 2 9437184 4 31).stage = CmdStage.fresh ∧ State.noPartner (dram (mk (csp 2 9437184 4 31))) = true ∧ (csp 2 9437184 4
      31).opcode = 22 ∧ (csp 2 9437184 4 31).space.1 < 253 ∧ State.runsIn (dram (mk (csp 2 9437184 4 31))) (csp 2 9437184 4 31).target
      (csp 2 9437184 4 31).space.1 = false ∧ (csp 2 9437184 4 31).space.2.attr.testBit 0 = true ∧ State.spaceOk (dram (mk (csp 2 9437184 4
      31))) (csp 2 9437184 4 31).target (csp 2 9437184 4 31).space.2 = false) := by
  refine ⟨?_, ?_⟩ <;> (unfold runs; decide +kernel)

end P12

namespace P28

def inp : StageInput := { images := [], badCmp := [], badLoads := [], channels := [], mramOk := true }
def st (n : Nat) (s : St) : St := s.mapBoot fun b => { b with stage := some n }
def img : BL := leb 4 (imgMagic 0) ++ zeros 1000
def r8 (s : St) : St := own 1 2 (pairedS (((life 2 s).setBit Reg.JNL_STATUS 0 true).setBit Reg.PLT_STATUS 0 true))
def rs (s : St) : St := s.mapMram fun m => { m with resvUsed := true, resvA := some 5, resvB := some 5 }
/-- BootStages meets its hypotheses: BOOT_STAGE. -/
theorem witness_BootStages_2 :
    (State.held (st 2 z) = false ∧ State.safe (st 2 z) = false ∧ (st 2 z).evral.stewHalt = false ∧ (st 2 z).boot.stage = some 2) ∧
    (State.held (st 4 z) = false ∧ State.safe (st 4 z) = false ∧ (st 4 z).evral.stewHalt = false ∧ (st 4 z).boot.stage = some 4) ∧
    (State.held (st 1 z) = false ∧ State.safe (st 1 z) = false ∧ (st 1 z).evral.stewHalt = false ∧ (st 1 z).boot.stage = some 1 ∧ (∀ c ∈
      inp.badCmp, c.1 ≠ 96)) ∧
    (State.held (st 7 (life 2 z)) = false ∧ State.safe (st 7 (life 2 z)) = false ∧ (st 7 (life 2 z)).evral.stewHalt = false ∧ (st 7 (life
      2 z)).boot.stage = some 7) ∧
    (State.held (st 1 z) = false ∧ State.safe (st 1 z) = false ∧ (st 1 z).evral.stewHalt = false ∧ (st 1 z).boot.stage = some 1 ∧ (∃ c ∈
      { inp with badCmp := [(96, 0)] }.badCmp, c.1 = 96)) := by
  refine ⟨?_, ?_, ?_, ?_, ?_⟩ <;> decide +kernel

/-- BootStages meets its hypotheses: BOOT_STAGE. -/
theorem witness_BootStages_3 :
    (State.held (rs (st 8 (r8 z))) = false ∧ State.safe (rs (st 8 (r8 z))) = false ∧ (rs (st 8 (r8 z))).evral.stewHalt = false ∧ (rs (st 8
      (r8 z))).boot.stage = some 8 ∧ (State.storedResv (rs (st 8 (r8 z))) ≠ none) ∧ State.bit (rs (st 8 (r8 z))) Reg.JNL_STATUS 0 = true ∧
      State.pltReady (rs (st 8 (r8 z))) = true ∧ State.paired (rs (st 8 (r8 z))) = true ∧ (State.own (rs (st 8 (r8 z))) ≠ ownStarting)) ∧
    (State.held (st 3 z) = false ∧ State.safe (st 3 z) = false ∧ (st 3 z).evral.stewHalt = false ∧ (st 3 z).boot.stage = some 3 ∧
      List.lookup 0 { inp with images := [(0, img)] }.images = some img ∧ List.lookup 1 { inp with images := [(0, img)] }.images = none ∧
      (State.checkImage (st 3 z) 0 img ≠ 0)) ∧
    (State.held (st 5 z) = false ∧ State.safe (st 5 z) = false ∧ (st 5 z).evral.stewHalt = false ∧ (st 5 z).boot.stage = some 5 ∧
      List.lookup 2 { inp with images := [(2, img)] }.images = some img ∧ List.lookup 3 { inp with images := [(2, img)] }.images = none ∧
      (State.checkImage (st 5 z) 1 img ≠ 0)) := by
  refine ⟨?_, ?_, ?_⟩ <;> decide +kernel

/-- BootStages meets its hypotheses: BOOT_STAGE. -/
theorem witness_BootStages_4 :
    (State.held (st 6 (life 2 z)) = false ∧ State.safe (st 6 (life 2 z)) = false ∧ (st 6 (life 2 z)).evral.stewHalt = false ∧ (st 6 (life
      2 z)).boot.stage = some 6 ∧ ((st 6 (life 2 z)).fuses.lifecycle ≠ 0) ∧ List.lookup 6 { inp with images := [(6, img)] }.images = some
      img ∧ List.lookup 7 { inp with images := [(6, img)] }.images = none ∧ (State.checkImage (st 6 (life 2 z)) 3 img ≠ 0)) ∧
    ((State.held (rs (st 9 (r8 (State.mapBoot z fun (b : Boot) => { b with seq := 3 })))) = false) ∧ (State.safe (rs (st 9 (r8
      (State.mapBoot z fun (b : Boot) => { b with seq := 3 })))) = false) ∧ ((rs (st 9 (r8 (State.mapBoot z fun (b : Boot) =>
      { b with seq := 3 })))).evral.stewHalt = false) ∧ ((rs (st 9 (r8 (State.mapBoot z fun (b : Boot) =>
      { b with seq := 3 })))).boot.stage = some 9) ∧ { inp with mramOk := false }.mramOk = false) := by
  refine ⟨?_, ?_⟩ <;> decide +kernel

/-- BootStages meets its hypotheses: BOOT_STAGE. -/
theorem witness_BootStages_5 :
    ((State.held (rs (st 9 (r8 (State.mapBoot z fun (b : Boot) => { b with seq := 3 })))) = false) ∧ (State.safe (rs (st 9 (r8
      (State.mapBoot z fun (b : Boot) => { b with seq := 3 })))) = false) ∧ ((rs (st 9 (r8 (State.mapBoot z fun (b : Boot) =>
      { b with seq := 3 })))).evral.stewHalt = false) ∧ ((rs (st 9 (r8 (State.mapBoot z fun (b : Boot) =>
      { b with seq := 3 })))).boot.stage = some 9) ∧ inp.mramOk = true ∧ ((rs (st 9 (r8 (State.mapBoot z fun (b : Boot) =>
      { b with seq := 3 })))).boot.seq ≠ 0)) := by decide +kernel

end P28

namespace P6c

abbrev St := Sys2Proof.Machine.State
def q : St := (at_ 0 [])
def lat (l : Latch) : St := q.mapUnit 0 fun x => { x with latch := l }
/-- InputsAtBoundary meets its hypotheses: ASYNC_INPUT_AT_BOUNDARY. -/
theorem witness_InputsAtBoundary_2 :
    (running (lat { quiet with halt := true }) 0 ∧ 0 < 192 ∧ (State.unit (lat { quiet with halt := true }) 0).latch =
      { quiet with halt := true }) := by unfold running; decide +kernel

end P6c

end Sys2Proof.Tests
end

section
/-! SUPPORT. Control space under a master's reads and writes (R11 to R14, R634): the fields of a word, what each access
code does to its field, and what a read or a write comes to by the register's role. -/

namespace Sys2Proof.Machine

open Sys2Proof Sys2Proof.Stated

/-! ## Fields of a word -/

/-- The bits that two numbers share and those of the first alone add up to the first. -/
theorem land_add_ldiff (a b : Nat) : (a &&& b) + Nat.ldiff a b = a := by
  induction a using Nat.binaryRec generalizing b with
  | zero => simp [Nat.ldiff]
  | bit c n ih =>
    rw [← Nat.bit_bodd_div2 b, Nat.land_bit, Nat.ldiff_bit]
    have := ih b.div2
    cases c <;> cases b.bodd <;> simp only [Nat.bit_val, Bool.and_true, Bool.and_false, Bool.not_true, Bool.not_false,
      Bool.toNat_true, Bool.toNat_false] <;> omega

/-- Taking away the bits shared clears them. -/
theorem testBit_sub_land (a b i : Nat) : (a - (a &&& b)).testBit i = (a.testBit i && !b.testBit i) := by
  have h : a - (a &&& b) = Nat.ldiff a b := by have := land_add_ldiff a b; omega
  rw [h, Nat.testBit_ldiff]

theorem testBit_bits (w : Word) (hi lo j : Nat) :
    (bits w hi lo).testBit j = (decide (j < hi + 1 - lo) && w.getLsbD (lo + j)) := by
  rw [bits, Nat.testBit_mod_two_pow, Nat.testBit_shiftRight]; rfl

/-- A word with a field replaced is the bits above the field, the field's new value and the bits below it. -/
theorem setBits_eq (w : Word) (hi lo v : Nat) : setBits w hi lo v = BitVec.ofNat 32
    (2 ^ lo * (2 ^ (hi + 1 - lo) * (w.toNat / 2 ^ lo / 2 ^ (hi + 1 - lo)) + v % 2 ^ (hi + 1 - lo)) + w.toNat % 2 ^ lo) := by
  have hlow := Nat.div_add_mod w.toNat (2 ^ lo)
  have hmid := Nat.div_add_mod (w.toNat / 2 ^ lo) (2 ^ (hi + 1 - lo))
  have hw : w.toNat = 2 ^ lo * (2 ^ (hi + 1 - lo) * (w.toNat / 2 ^ lo / 2 ^ (hi + 1 - lo))) +
      w.toNat / 2 ^ lo % 2 ^ (hi + 1 - lo) * 2 ^ lo + w.toNat % 2 ^ lo := by
    rw [Nat.mul_comm _ (2 ^ lo), ← Nat.mul_add, hmid, hlow]
  rw [setBits, bits, Nat.shiftRight_eq_div_pow, Nat.shiftLeft_eq, Nat.shiftLeft_eq, Nat.mul_add,
    Nat.mul_comm (2 ^ lo) (v % _)]
  congr 1
  omega

/-- A bit of a word with a field replaced: the value's inside the field, the word's outside it. -/
theorem getLsbD_setBits (w : Word) {hi lo : Nat} (v i : Nat) (hle : lo ≤ hi) (hhi : hi < 32) :
    (setBits w hi lo v).getLsbD i = if lo ≤ i ∧ i ≤ hi then v.testBit (i - lo) else w.getLsbD i := by
  rw [setBits_eq, BitVec.getLsbD_ofNat, Nat.testBit_two_pow_mul_add _ (Nat.mod_lt _ (Nat.two_pow_pos _)),
    Nat.testBit_two_pow_mul_add _ (Nat.mod_lt _ (Nat.two_pow_pos _))]
  by_cases hlo : i < lo
  · simp [hlo, Nat.testBit_mod_two_pow, show i < 32 by omega, Nat.not_le.2 hlo]; rfl
  · by_cases hin : i ≤ hi
    · simp [hlo, hin, Nat.testBit_mod_two_pow, show i < 32 by omega, show i - lo < hi + 1 - lo by omega, Nat.not_lt.1 hlo]
    · rw [if_neg hlo, if_neg (by omega), if_neg (by omega), Nat.div_div_eq_div_mul, ← Nat.pow_add, Nat.testBit_div_two_pow,
        show i - lo - (hi + 1 - lo) + (lo + (hi + 1 - lo)) = i by omega]
      by_cases h32 : i < 32
      · simp [h32]; rfl
      · simp [h32, BitVec.getLsbD_of_ge _ _ (Nat.not_lt.1 h32)]

/-- A field reads the value written to it. -/
theorem bits_setBits (w : Word) {hi lo : Nat} (v : Nat) (hle : lo ≤ hi) (hhi : hi < 32) :
    bits (setBits w hi lo v) hi lo = v % 2 ^ (hi + 1 - lo) := by
  refine Nat.eq_of_testBit_eq fun j => ?_
  rw [testBit_bits, Nat.testBit_mod_two_pow, getLsbD_setBits w v _ hle hhi]
  by_cases hj : j < hi + 1 - lo
  · simp [hj, show lo + j ≤ hi by omega]
  · simp [hj]

/-- A field written with what a field of a word reads holds it. -/
theorem bits_setBits_bits (w v : Word) {hi lo : Nat} (hle : lo ≤ hi) (hhi : hi < 32) :
    bits (setBits w hi lo (bits v hi lo)) hi lo = bits v hi lo := by
  rw [bits_setBits w _ hle hhi, bits, Nat.mod_mod]

theorem getLsbD_setBits_out (w : Word) {hi lo : Nat} (v : Nat) {i : Nat} (hle : lo ≤ hi) (hhi : hi < 32)
    (hi' : i < lo ∨ hi < i) : (setBits w hi lo v).getLsbD i = w.getLsbD i := by
  rw [getLsbD_setBits w v i hle hhi, if_neg (by omega)]


/-! ## Reads of control space after its named writes -/

@[simp] theorem bit_setBit_same (s : State) {off b : Nat} (v : Bool) (hb : b < 32) : (s.setBit off b v).bit off b = v := by
  rw [State.bit, State.setBit, reg_setFld_same, getLsbD_setBits _ _ _ le_rfl hb]
  cases v <;> simp

theorem reg_setReg64 (s : State) (lo o v : Nat) : (s.setReg64 lo v).reg o =
    if o = lo + 4 then BitVec.ofNat 32 (v / 2 ^ 32) else if o = lo then BitVec.ofNat 32 v else s.reg o := by
  rw [State.setReg64, reg_setReg, reg_setReg]

@[simp] theorem latched_latchWord_same (s : State) (off : Nat) (v : Word) : (s.latchWord off v).latched off = v :=
  sget_sset_same _ s.ctl.latch off v

theorem lookup_sput_same {α : Type} (l : List (Nat × α)) (k : Nat) (v : α) : (sput l k v).lookup k = some v := by
  induction l with
  | nil => simp [sput]
  | cons e l ih =>
    obtain ⟨j, w⟩ := e
    by_cases h : k = j
    · simp [sput, h]
    · by_cases h' : k < j <;> simp [sput, List.lookup, beq_eq_false_iff_ne.2 h, h, h', ih]

/-- The _LO word held is the one that its _HI word combines with. -/
theorem heldLo_holdLo (s : State) (off : Nat) (v : Word) : (s.holdLo off v).heldLo (off + 4) = v := by
  rw [State.heldLo, State.holdLo, mapCtl_ctl, Nat.add_sub_cancel, lookup_sput_same, Option.getD_some]

/-- The low word of a quantity of two words. -/
theorem ofNat_pair_lo (l h : Word) : BitVec.ofNat 32 (l.toNat + 2 ^ 32 * h.toNat) = l := by
  apply BitVec.eq_of_toNat_eq; rw [BitVec.toNat_ofNat]; have := l.isLt; omega

/-- The high word of a quantity of two words. -/
theorem ofNat_pair_hi (l h : Word) : BitVec.ofNat 32 ((l.toNat + 2 ^ 32 * h.toNat) / 2 ^ 32) = h := by
  apply BitVec.eq_of_toNat_eq; rw [BitVec.toNat_ofNat]; have := l.isLt; have := h.isLt; omega

/-! ## A master's access -/

variable {s : State} {m : Master} {off : Nat}

/-- DBG_MDATA, which `ctlRead` and `ctlWrite` take apart, lies in the DBG block. -/
theorem ne_mdata_of_not_inDbg (h : inDbg off = false) : off ≠ Reg.DBG_MDATA := by
  rintro rfl; exact absurd h (by decide)

/-- The port restricts the debugger alone, who may write and read every register (R574). -/
theorem portMay_of_not_mayWrite (s : State) (h : mayWrite m off = false) : s.portMay m off = true := by
  have hm : m ≠ .debugger := by rintro rfl; exact Bool.noConfusion h
  simp [State.portMay, hm]

theorem portMay_of_not_mayRead (s : State) (h : mayRead m off = false) : s.portMay m off = true := by
  have hm : m ≠ .debugger := by rintro rfl; exact Bool.noConfusion h
  simp [State.portMay, hm]

theorem mayWrite_of_writesReg (h : s.writesReg m off = true) : mayWrite m off = true := (Bool.and_eq_true_iff.1 h).1
theorem portMay_of_writesReg (h : s.writesReg m off = true) : s.portMay m off = true := (Bool.and_eq_true_iff.1 h).2
theorem mayRead_of_readsReg (h : s.readsReg m off = true) : mayRead m off = true := (Bool.and_eq_true_iff.1 h).1
theorem portMay_of_readsReg (h : s.readsReg m off = true) : s.portMay m off = true := (Bool.and_eq_true_iff.1 h).2

/-- A write of an aligned register outside the DBG block, by a master whose writes reach it, is the plain one. -/
theorem ctlWrite_eq_writePlain (v : Word) (hh : s.held = false) (ha : off % 4 = 0) (hd : inDbg off = false)
    (hp : s.portMay m off = true) : s.ctlWrite m off v = s.writePlain m off v := by
  simp [State.ctlWrite, hh, ha, hd, ne_mdata_of_not_inDbg hd, hp]

/-- A read of an aligned register outside the DBG block, by a master whose reads reach it, is the plain one. -/
theorem ctlRead_eq_readPlain (hh : s.held = false) (ha : off % 4 = 0) (hd : inDbg off = false)
    (hp : s.portMay m off = true) : s.ctlRead m off = s.readPlain m off := by
  simp [State.ctlRead, hh, ha, hd, ne_mdata_of_not_inDbg hd, hp]

/-- A read that finds a quantity's low word latches the high one (R11). -/
theorem readPlain_lo {r : RegDef} (hr : regDef? off = some r) (hlo : r.role = .lo) (hm : mayRead m off = true)
    (hs : s.readSide m off = none) :
    s.readPlain m off = (s.latchWord (off + 4) (s.view (off + 4)), s.view off) := by
  simp [State.readPlain, hr, hlo, hm, hs]

theorem readPlain_hi {r : RegDef} (hr : regDef? off = some r) (hhi : r.role = .hi) (hm : mayRead m off = true)
    (hs : s.readSide m off = none) : s.readPlain m off = (s, s.latched off) := by
  simp [State.readPlain, hr, hhi, hm, hs]

theorem readPlain_barred (hm : mayRead m off = false) : s.readPlain m off = (s, 0) := by
  simp [State.readPlain, hm]

theorem writePlain_barred (v : Word) (hm : mayWrite m off = false) : s.writePlain m off v = s := by
  simp [State.writePlain, hm]

theorem writePlain_unassigned (v : Word) (hm : mayWrite m off = true) (hr : regDef? off = none) :
    s.writePlain m off v = s.badw off := by
  simp [State.writePlain, hm, hr]

theorem writePlain_single {r : RegDef} (v : Word) (hm : mayWrite m off = true) (hr : regDef? off = some r)
    (hrole : r.role = .single) : s.writePlain m off v = s.writeSingle m off v := by
  simp [State.writePlain, hm, hr, hrole]

theorem writePlain_lo {r : RegDef} (v : Word) (hm : mayWrite m off = true) (hr : regDef? off = some r)
    (hrole : r.role = .lo) (hw : r.writable = true) : s.writePlain m off v = s.holdLo off v := by
  simp [State.writePlain, hm, hr, hrole, hw]

/-- A write of a _HI word that submits nothing. -/
theorem writePlain_hi {r : RegDef} (v : Word) (hm : mayWrite m off = true) (hr : regDef? off = some r)
    (hrole : r.role = .hi) (hs : submits off = false) :
    s.writePlain m off v = s.writeHi off v r.zeroMask r.lockable r.writable := by
  have hs : ¬(off = Reg.THR_SUBMIT_HI ∨ off = Reg.CPH_SUBMIT_HI ∨ off = Reg.FRW_SUBMIT_HI) := by
    simpa [submits] using hs
  simp [State.writePlain, hm, hr, hrole, hs]

theorem writeFields_eq (s : State) {r : RegDef} (v : Word) (hr : regDef? off = some r) : s.writeFields off v =
    if (r.write (s.locked off) (s.reg off) v).2 then (s.setReg off (r.write (s.locked off) (s.reg off) v).1).badw off
    else s.setReg off (r.write (s.locked off) (s.reg off) v).1 := by
  simp only [State.writeFields, hr]

/-- A write of a register whose write has no effect of its own stores its fields. -/
theorem writeSingle_eq_writeFields (s : State) (m : Master) (v : Word) (hd : inDbg off = false) (ha : actsOnWrite off = false) :
    s.writeSingle m off v = s.writeFields off v := by
  simp only [actsOnWrite, Bool.or_eq_false_iff, decide_eq_false_iff_not] at ha
  obtain ⟨⟨⟨⟨⟨⟨hlist, hpair⟩, hlock⟩, hallot⟩, hgroup⟩, hwin⟩, hcls⟩ := ha
  have hdbg : ¬(Reg.DBG_ID ≤ off ∧ off < 0x900000) := by simpa [inDbg] using hd
  simp only [List.contains_eq_mem, List.mem_cons, List.not_mem_nil, decide_eq_false_iff_not, not_or, or_false] at hlist
  unfold State.writeSingle
  simp only [hlist, hpair, hlock, hallot, hgroup, hwin, if_false, or_self, false_and]
  by_cases hlow : off < 0x400000
  · simp only [hlow, if_true, ite_self]
  by_cases hclu : off < 0x4C0000
  · have hport : ¬(0x8000 ≤ (off - 0x400000) % 0x10000 ∧ (off - 0x400000) % 0x10000 < 0x8200) := fun h =>
      hcls ⟨not_lt.1 hlow, hclu, .inl ⟨h.1, h.2.trans (by decide)⟩⟩
    have hcfg : ¬(0x9000 ≤ (off - 0x400000) % 0x10000 ∧ (off - 0x400000) % 0x10000 < 0x9200 ∧
      (off - 0x400000) % 0x10000 % 0x40 = 4) := fun h =>
      hcls ⟨not_lt.1 hlow, hclu, .inl ⟨le_trans (by decide) h.1, h.2.1⟩⟩
    have hret : ¬(off - 0x400000) % 0x10000 = 0x120 := fun h => hcls ⟨not_lt.1 hlow, hclu, .inr h⟩
    simp only [hlow, hclu, hport, hcfg, hret, if_true, if_false, ite_self]
  · have hside : off < 0x8E0000 ∨ ¬off < 0x900000 := (lt_or_ge off 0x8E0000).imp_right fun h hlt => hdbg ⟨h, hlt⟩
    rcases hside with hside | hside <;> simp only [hlow, hclu, hside, if_true, if_false, ite_self]

/-! ## One field of a write (R12, R14) -/

section Field

variable {f : FieldDef} (locked bad : Bool) (v w : Word)

/-- Whatever its access code, a write of a field leaves the bits outside it alone. -/
theorem FieldDef.write_out (hle : f.lo ≤ f.hi) (hhi : f.hi < 32) {i : Nat} (hi : i < f.lo ∨ f.hi < i) :
    (f.write locked v (w, bad)).1.getLsbD i = w.getLsbD i := by
  have out (x : Nat) := getLsbD_setBits_out w x hle hhi hi
  cases hacc : f.acc <;> simp only [FieldDef.write, hacc]
  case rw => split <;> simp only [out]
  case w1c => exact out _
  case rwl => (repeat' split) <;> simp only [out]
  case lock => split <;> simp only [out]

theorem FieldDef.write_readOnly (h : f.acc = .ro ∨ f.acc = .rs) : f.write locked v (w, bad) = (w, bad) := by
  rcases h with h | h <;> simp only [FieldDef.write, h]

theorem FieldDef.write_rw (hle : f.lo ≤ f.hi) (hhi : f.hi < 32) (h : f.acc = .rw ∨ f.acc = .rwl ∧ locked = false) :
    if f.legalValue (bits v f.hi f.lo) then
      bits (f.write locked v (w, bad)).1 f.hi f.lo = bits v f.hi f.lo ∧ (f.write locked v (w, bad)).2 = bad
    else f.write locked v (w, bad) = (w, true) := by
  have hx : f.write locked v (w, bad) = if f.legalValue (bits v f.hi f.lo) then
      (setBits w f.hi f.lo (bits v f.hi f.lo), bad) else (w, true) := by
    rcases h with h | ⟨h, rfl⟩ <;> simp [FieldDef.write, h]
  rw [hx]
  split
  · exact ⟨bits_setBits_bits w v hle hhi, rfl⟩
  · rfl

theorem FieldDef.write_rwl_locked (h : f.acc = .rwl) :
    f.write true v (w, bad) = (w, bad || bits v f.hi f.lo != bits w f.hi f.lo) := by
  simp [FieldDef.write, h]

/-- A field of W1C loses the bits that are written with 1. -/
theorem FieldDef.write_w1c (hle : f.lo ≤ f.hi) (hhi : f.hi < 32) (h : f.acc = .w1c) :
    (f.write locked v (w, bad)).2 = bad ∧ ∀ i, f.lo ≤ i → i ≤ f.hi →
      (f.write locked v (w, bad)).1.getLsbD i = (w.getLsbD i && !v.getLsbD i) := by
  simp only [FieldDef.write, h, true_and]
  intro i hl hh
  rw [getLsbD_setBits _ _ _ hle hhi, if_pos ⟨hl, hh⟩, testBit_sub_land, testBit_bits, testBit_bits,
    Nat.add_sub_cancel' hl]
  simp [show i - f.lo < f.hi + 1 - f.lo by omega]

theorem FieldDef.write_wo (h : f.acc = .wo) :
    f.write locked v (w, bad) = (w, bad || !f.legalValue (bits v f.hi f.lo)) := by
  simp only [FieldDef.write, h]

/-- A lock bit keeps its value where 0 is written and takes any other. -/
theorem FieldDef.write_lock (hle : f.lo ≤ f.hi) (hhi : f.hi < 32) (h : f.acc = .lock) :
    (f.write locked v (w, bad)).2 = bad ∧
    (bits v f.hi f.lo = 0 → bits (f.write locked v (w, bad)).1 f.hi f.lo = bits w f.hi f.lo) ∧
    (bits v f.hi f.lo ≠ 0 → bits (f.write locked v (w, bad)).1 f.hi f.lo = bits v f.hi f.lo) := by
  simp only [FieldDef.write, h, true_and]
  exact ⟨fun h0 => by rw [if_pos h0], fun h0 => by rw [if_neg h0, bits_setBits_bits w v hle hhi]⟩

end Field

theorem badw_sets (s : State) {off e : Nat} (h : errRegOf off = some e) :
    (s.badw off).bit e 0 = true ∧ OnlyCtl s (s.badw off) ∧ RegsBut s (s.badw off) [e] := by
  simp only [State.badw, h]
  exact ⟨bit_setBit_same s true (by decide), rfl, fun o ho => reg_setBit_other s 0 true (by simpa using ho)⟩

/-- A write of a _HI word that neither a lock nor a bit that must be zero refuses writes the whole quantity (R11, R14). -/
theorem writeHi_eq_setReg64 (v : Word) {mask : Nat} {lockable : Bool} (hl : (lockable && s.locked off) = false)
    (hq : ((s.heldLo off).toNat + 2 ^ 32 * v.toNat) &&& mask = 0) :
    s.writeHi off v mask lockable true = (s.mapCtl fun c => { c with held := sdel c.held (off - 4) }).setReg64 (off - 4)
      ((s.heldLo off).toNat + 2 ^ 32 * v.toNat) := by
  have hl' : (lockable && (s.mapCtl fun c => { c with held := sdel c.held (off - 4) }).locked off) = false := hl
  simp only [State.writeHi, hl', hq, Bool.not_true, Bool.false_eq_true, ne_eq, not_true_eq_false, if_false]

theorem reg_writeHi (v : Word) {mask : Nat} {lockable : Bool} (o : Nat) (h4 : 4 ≤ off)
    (hl : (lockable && s.locked off) = false) (hq : ((s.heldLo off).toNat + 2 ^ 32 * v.toNat) &&& mask = 0) :
    (s.writeHi off v mask lockable true).reg o = if o = off then v else if o = off - 4 then s.heldLo off else s.reg o := by
  rw [writeHi_eq_setReg64 v hl hq, reg_setReg64, Nat.sub_add_cancel h4, ofNat_pair_hi, ofNat_pair_lo]
  rfl

theorem writeHi_onlyCtl (v : Word) {mask : Nat} {lockable : Bool} (hl : (lockable && s.locked off) = false)
    (hq : ((s.heldLo off).toNat + 2 ^ 32 * v.toNat) &&& mask = 0) : OnlyCtl s (s.writeHi off v mask lockable true) := by
  rw [writeHi_eq_setReg64 v hl hq]; rfl

end Sys2Proof.Machine
end

section
/-! OBLIGATIONS. The commands on control space: a register write follows its access codes (O28), quantities are latched and
held and balls go to the loser (O29). -/

namespace Sys2Proof.Machine

open Sys2Proof Sys2Proof.Stated

/-! ## The commands complete -/

theorem ends_registerWrite {m : Master} {off : Nat} {v : Word} {s : State} {p : State → Prop} (h : p (s.ctlWrite m off v)) :
    Ends (.registerWrite m off v) s p := ⟨_, rfl, h⟩

theorem ends_regPairLoWrite {m : Master} {off : Nat} {v : Word} {s : State} {p : State → Prop} (h : p (s.ctlWrite m off v)) :
    Ends (.regPairLoWrite m off v) s p := ⟨_, rfl, h⟩

theorem ends_regPairHiWrite {m : Master} {off : Nat} {v : Word} {s : State} {p : State → Prop} (h : p (s.ctlWrite m off v)) :
    Ends (.regPairHiWrite m off v) s p := ⟨_, rfl, h⟩

theorem ends_regPairLoRead {m : Master} {off : Nat} {s : State} {p : State → Prop}
    (h : p ((s.ctlRead m off).1.answerRead (s.ctlRead m off).2)) : Ends (.regPairLoRead m off) s p := ⟨_, rfl, h⟩

theorem ends_regPairHiRead {m : Master} {off : Nat} {s : State} {p : State → Prop}
    (h : p ((s.ctlRead m off).1.answerRead (s.ctlRead m off).2)) : Ends (.regPairHiRead m off) s p := ⟨_, rfl, h⟩

/-! ## Register writes -/

theorem registerWrite_single {m : Master} {s : State} {off : Nat} (v : Word) {r : RegDef} (hh : s.held = false)
    (ha : off % 4 = 0) (hd : inDbg off = false) (hw : s.writesReg m off = true) (hr : regDef? off = some r)
    (hrole : r.role = .single) (hact : actsOnWrite off = false) : s.ctlWrite m off v = s.writeFields off v := by
  rw [ctlWrite_eq_writePlain v hh ha hd (portMay_of_writesReg hw), writePlain_single v (mayWrite_of_writesReg hw) hr hrole,
    writeSingle_eq_writeFields s m v hd hact]

/-- A reset that holds the device, or a register that the master may not write, leaves the state as it is (R634; in a
reset the choice of log entry 114). -/
theorem ctlWrite_no_effect {m : Master} {s : State} {off : Nat} (v : Word)
    (h : s.held = true ∨ inDbg off = false ∧ mayWrite m off = false) : s.ctlWrite m off v = s := by
  rcases h with hh | ⟨hd, hm⟩
  · simp [State.ctlWrite, hh]
  · by_cases hskip : (s.held || off % 4 != 0) = true
    · simp only [State.ctlWrite, hskip, if_true]
    · simp only [Bool.or_eq_true, bne_iff_ne, ne_eq, not_or, not_not, Bool.not_eq_true] at hskip
      rw [ctlWrite_eq_writePlain v hskip.1 hskip.2 hd (portMay_of_not_mayWrite s hm), writePlain_barred v hm]

/-- Settles O28: outside the registers with effects of their own a write is the plain write of fields, and each access
code has its law. -/
theorem registerWrites : Obligations.RegisterWrites := by
  refine ⟨fun m s off v hh ha hd hw => ⟨fun r hr hrole hact => ?_, fun hr => ?_⟩,
    fun s off v m h => ends_registerWrite (ctlWrite_no_effect v h), fun s off e he => badw_sets s he,
    fun f locked bad v w hle hhi => ?_⟩
  · exact ends_registerWrite ((registerWrite_single v hh ha hd hw hr hrole hact).trans (writeFields_eq s v hr))
  · exact ends_registerWrite ((ctlWrite_eq_writePlain v hh ha hd (portMay_of_writesReg hw)).trans
      (writePlain_unassigned v (mayWrite_of_writesReg hw) hr))
  · exact ⟨fun i hi => f.write_out locked bad v w hle hhi hi, f.write_readOnly locked bad v w,
      f.write_rw locked bad v w hle hhi, fun h hl => hl ▸ f.write_rwl_locked bad v w h,
      f.write_w1c locked bad v w hle hhi, f.write_wo locked bad v w, f.write_lock locked bad v w hle hhi⟩

/-! ## Quantities of 64 bits -/

section Quantities

variable {m : Master} {s : State} {off : Nat} {r : RegDef} (hh : s.held = false) (ha : off % 4 = 0) (hd : inDbg off = false)

include hh ha hd

theorem ctlRead_lo (hr : regDef? off = some r) (hrole : r.role = .lo) (hm : s.readsReg m off = true)
    (hs : s.readSide m off = none) :
    s.ctlRead m off = (s.latchWord (off + 4) (s.view (off + 4)), s.view off) := by
  rw [ctlRead_eq_readPlain hh ha hd (portMay_of_readsReg hm), readPlain_lo hr hrole (mayRead_of_readsReg hm) hs]

theorem ctlRead_hi (hr : regDef? off = some r) (hrole : r.role = .hi) (hm : s.readsReg m off = true)
    (hs : s.readSide m off = none) : s.ctlRead m off = (s, s.latched off) := by
  rw [ctlRead_eq_readPlain hh ha hd (portMay_of_readsReg hm), readPlain_hi hr hrole (mayRead_of_readsReg hm) hs]

theorem ctlRead_barred (hm : mayRead m off = false) : s.ctlRead m off = (s, 0) := by
  rw [ctlRead_eq_readPlain hh ha hd (portMay_of_not_mayRead s hm), readPlain_barred hm]

theorem regPairLoRead_latches (hr : regDef? off = some r) (hrole : r.role = .lo) (hm : s.readsReg m off = true)
    (hs : s.readSide m off = none) : Ends (.regPairLoRead m off) s fun t =>
      t.ctl.rdata = s.view off ∧ t.latched (off + 4) = s.view (off + 4) ∧ OnlyCtl s t ∧ RegsBut s t [] := by
  apply ends_regPairLoRead
  rw [ctlRead_lo hh ha hd hr hrole hm hs]
  exact ⟨rfl, latched_latchWord_same s _ _, rfl, fun _ _ => rfl⟩

theorem regPairLoWrite_holds (v : Word) (hr : regDef? off = some r) (hrole : r.role = .lo) (hwr : r.writable = true)
    (hw : s.writesReg m off = true) : Ends (.regPairLoWrite m off v) s fun t =>
      t.heldLo (off + 4) = v ∧ OnlyCtl s t ∧ RegsBut s t [] := by
  apply ends_regPairLoWrite
  rw [ctlWrite_eq_writePlain v hh ha hd (portMay_of_writesReg hw), writePlain_lo v (mayWrite_of_writesReg hw) hr hrole hwr]
  exact ⟨heldLo_holdLo s off v, rfl, fun _ _ => rfl⟩

theorem regPairHiWrite_writes (v : Word) (hr : regDef? off = some r) (hrole : r.role = .hi) (hwr : r.writable = true)
    (hw : s.writesReg m off = true) (hsub : submits off = false) (h4 : 4 ≤ off) (hl : (r.lockable && s.locked off) = false)
    (hq : ((s.heldLo off).toNat + 2 ^ 32 * v.toNat) &&& r.zeroMask = 0) : Ends (.regPairHiWrite m off v) s fun t =>
      t.reg off = v ∧ t.reg (off - 4) = s.heldLo off ∧ OnlyCtl s t ∧ RegsBut s t [off, off - 4] := by
  apply ends_regPairHiWrite
  rw [ctlWrite_eq_writePlain v hh ha hd (portMay_of_writesReg hw), writePlain_hi v (mayWrite_of_writesReg hw) hr hrole hsub, hwr]
  refine ⟨?_, ?_, writeHi_onlyCtl v hl hq, fun o ho => ?_⟩
  · rw [reg_writeHi v off h4 hl hq, if_pos rfl]
  · rw [reg_writeHi v (off - 4) h4 hl hq, if_neg (by omega), if_pos rfl]
  · simp only [List.mem_cons, List.not_mem_nil, or_false, not_or] at ho
    rw [reg_writeHi v o h4 hl hq, if_neg ho.1, if_neg ho.2]

end Quantities

/-- A read of TCK_TIME_LO takes both words of the time base at once (R11, R39). -/
theorem regPairLoRead_time {m : Master} {s : State} (hh : s.held = false) (hm : s.readsReg m Reg.TCK_TIME_LO = true) :
    Ends (.regPairLoRead m Reg.TCK_TIME_LO) s fun t => t.ctl.rdata = BitVec.ofNat 32 s.timeBase ∧
      t.latched Reg.TCK_TIME_HI = BitVec.ofNat 32 (s.timeBase / 2 ^ 32) := by
  obtain ⟨r, hr, hrole⟩ : ∃ r, regDef? Reg.TCK_TIME_LO = some r ∧ r.role = .lo := ⟨_, rfl, rfl⟩
  obtain ⟨t, ht, hlo, hhi, -, -⟩ := regPairLoRead_latches hh (by decide) (by decide) hr hrole hm rfl
  exact ⟨t, ht, hlo, hhi⟩

/-- The loser of a shared ball takes it, and its conflict ends, once the winner is off (R21). -/
theorem resourceTake_ends_conflict {s : State} {p : SharedPin} (hlose : s.pinLoser p = true) (hwin : s.pinWinner p = false) :
    Ends (.resourceTake p) s fun t =>
      t.bit Reg.PAD_STATUS (conflictBit p) = false ∧ OnlyCtl s t ∧ RegsBut s t [Reg.PAD_STATUS] := by
  have ht : exec (.resourceTake p) s = .next (s.setBit Reg.PAD_STATUS (conflictBit p) false) := by
    change execResourceTake p s = _
    simp [execResourceTake, hlose, hwin]
  have hb : conflictBit p < 32 := by cases p <;> decide
  exact ⟨_, ht, bit_setBit_same s false hb, rfl, fun o ho => reg_setBit_other s _ false (by simpa using ho)⟩

/-- Settles O29: the reads and writes of each half of a quantity, the time base among them, and the shared balls. -/
theorem quantitiesAndBalls : Obligations.QuantitiesAndBalls := by
  refine ⟨fun m s off r hh ha hd hr => ⟨regPairLoRead_latches hh ha hd hr, fun hrole hm hs => ?_, fun hm => ⟨?_, ?_⟩,
    fun v => regPairLoWrite_holds hh ha hd v hr, fun v => regPairHiWrite_writes hh ha hd v hr⟩,
    fun m s => regPairLoRead_time, fun s p => resourceTake_ends_conflict⟩
  · exact ends_regPairHiRead (by rw [ctlRead_hi hh ha hd hr hrole hm hs])
  · exact ends_regPairLoRead (by rw [ctlRead_barred hh ha hd hm])
  · exact ends_regPairHiRead (by rw [ctlRead_barred hh ha hd hm])

end Sys2Proof.Machine
end

section
/-! SUPPORT. What sending, recording, sampling and handing over leave alone: the units, memory and, but for the slots of
the completions handed over, the Sower. -/

namespace Sys2Proof.Machine

open Sys2Proof

/-! ## Units, memory and the Sower -/

/-- The units and memory. -/
def State.cells (s : State) : List (Nat × CoreUnit) × Mem := (s.units, s.mem)

/-- The units, memory and the Sower. -/
def State.inner (s : State) : (List (Nat × CoreUnit) × Mem) × Sower := (s.cells, s.sower)

/-- What every step of a loop keeps, the loop keeps. -/
theorem foldl_keeps {α β : Type} (p : State → α) {f : State → β → State} (h : ∀ s x, p (f s x) = p s) (s : State)
    (l : List β) : p (l.foldl f s) = p s := by
  induction l generalizing s with
  | nil => rfl
  | cons x l ih => rw [List.foldl_cons, ih, h]

section

variable {s t : State}

theorem cells_of_inner (h : t.inner = s.inner) : t.cells = s.cells := congrArg Prod.fst h

theorem sower_of_inner (h : t.inner = s.inner) : t.sower = s.sower := congrArg Prod.snd h

theorem mem_of_cells (h : t.cells = s.cells) : t.mem = s.mem := congrArg Prod.snd h

theorem unit_of_cells (h : t.cells = s.cells) (u : Nat) : t.unit u = s.unit u := by
  have hu : t.units = s.units := congrArg Prod.fst h
  rw [State.unit, State.unit, hu]

theorem byte_of_mem (h : t.mem = s.mem) (a : Nat) : t.byte a = s.byte a := by rw [State.byte, State.byte, h]

end

/-! ## The named updates

The proofs stand in parentheses, so that simp rewrites by these lemmas: as definitional ones they would have the kernel
compare the words of the states. -/

@[simp] theorem inner_mapGleaner (s : State) (f : Gleaner → Gleaner) : (s.mapGleaner f).inner = s.inner := (rfl)
@[simp] theorem inner_mapAlmanac (s : State) (f : Almanac → Almanac) : (s.mapAlmanac f).inner = s.inner := (rfl)
@[simp] theorem inner_mapStakes (s : State) (f : Stakes → Stakes) : (s.mapStakes f).inner = s.inner := (rfl)
@[simp] theorem inner_mapEth (s : State) (f : Eth → Eth) : (s.mapEth f).inner = s.inner := (rfl)
@[simp] theorem inner_mapCipher (s : State) (f : Cipher → Cipher) : (s.mapCipher f).inner = s.inner := (rfl)
@[simp] theorem inner_mapWeft (s : State) (f : Weft → Weft) : (s.mapWeft f).inner = s.inner := (rfl)
@[simp] theorem inner_mapPower (s : State) (f : Power → Power) : (s.mapPower f).inner = s.inner := (rfl)
@[simp] theorem inner_mapCluster (s : State) (c : Nat) (f : Cluster → Cluster) : (s.mapCluster c f).inner = s.inner := (rfl)
@[simp] theorem inner_mapPort (s : State) (p : Nat) (f : Port → Port) : (s.mapPort p f).inner = s.inner := (rfl)
@[simp] theorem inner_setReg (s : State) (o : Nat) (v : Word) : (s.setReg o v).inner = s.inner := (rfl)
@[simp] theorem inner_setFld (s : State) (o hi lo v : Nat) : (s.setFld o hi lo v).inner = s.inner := (rfl)
@[simp] theorem inner_setBit (s : State) (o b : Nat) (v : Bool) : (s.setBit o b v).inner = s.inner := (rfl)
@[simp] theorem inner_count (s : State) (o n : Nat) : (s.count o n).inner = s.inner := (rfl)
@[simp] theorem inner_emit (s : State) (o : Out) : (s.emit o).inner = s.inner := (rfl)
@[simp] theorem inner_sample (s : State) (m i v : Nat) : (s.sample m i v).inner = s.inner := (rfl)
@[simp] theorem inner_setSession (s : State) (x : Session) : (s.setSession x).inner = s.inner := (rfl)

@[simp] theorem inner_mapPlot (s : State) (p : Nat) (f : Plot → Plot) : (s.mapPlot p f).inner = s.inner := by
  unfold State.mapPlot; split <;> rfl

/-! ## Records, snapshots, frames -/

@[simp] theorem inner_glean (s : State) (source cls det : Nat) : (s.glean source cls det).inner = s.inner := by
  unfold State.glean
  extract_lets acts counted corrected record kept
  have h : corrected.inner = s.inner := by unfold corrected; split <;> rfl
  split
  · exact h
  · split
    · exact h
    · clear_value kept
      cases kept <;> exact h

@[simp] theorem inner_startInterval (s : State) : s.startInterval.inner = s.inner := by
  simp only [State.startInterval, inner_setReg, inner_mapAlmanac]

@[simp] theorem inner_takeSnapshot (s : State) (l : List Trigger) (m : Bool) : (s.takeSnapshot l m).inner = s.inner := by
  simp only [State.takeSnapshot, inner_startInterval]
  split <;> simp only [inner_count, inner_mapAlmanac]

@[simp] theorem inner_callSnapshot (s : State) (l : List Trigger) : (s.callSnapshot l).inner = s.inner := by
  unfold State.callSnapshot
  split
  · rfl
  · split <;> simp

@[simp] theorem inner_weftSend (s : State) (dst kind : Nat) (b : List Byte) : (s.weftSend dst kind b).inner = s.inner := by
  unfold State.weftSend
  split
  · rfl
  · split <;> rfl

@[simp] theorem inner_linkSend (s : State) (l kind : Nat) (b : List Byte) : (s.linkSend l kind b).inner = s.inner := by
  unfold State.linkSend; split <;> rfl

@[simp] theorem inner_mirrorSend (s : State) (kind : Nat) (b : List Byte) : (s.mirrorSend kind b).inner = s.inner := by
  simp [State.mirrorSend]

/-! ## Keys, ports and Swath -/

@[simp] theorem inner_sendKey (s : State) (tag n plot : Nat) : (s.sendKey tag n plot).inner = s.inner := by
  unfold State.sendKey
  split
  · unfold State.sendKeyOf; split <;> simp
  · rfl

@[simp] theorem inner_mirrorKey (s : State) (n : Nat) : (s.mirrorKey n).inner = s.inner := by
  unfold State.mirrorKey
  split
  · rfl
  · split <;> simp

@[simp] theorem inner_chargeSlot (s : State) (n : Nat) : (s.chargeSlot n).1.inner = s.inner := by
  unfold State.chargeSlot
  split
  · rfl
  · dsimp only; split_ifs <;> simp

@[simp] theorem inner_chargeSa (s : State) (p : Nat) (a : Sa) : (s.chargeSa p a).inner = s.inner := by
  unfold State.chargeSa
  dsimp only
  split_ifs <;> simp

@[simp] theorem inner_putFrame (s : State) (p pcp : Nat) (o : Out) : (s.putFrame p pcp o).inner = s.inner := by
  unfold State.putFrame
  split
  · split
    · split <;> simp
    · simp
  · simp

@[simp] theorem inner_sendFrame (s : State) (p pcp : Nat) (o : Out) : (s.sendFrame p pcp o).inner = s.inner := by
  unfold State.sendFrame; split_ifs <;> simp

@[simp] theorem inner_sendPacket (s : State) (x : Session) (pcp type psn : Nat) (b : List Byte) :
    (s.sendPacket x pcp type psn b).inner = s.inner := by
  unfold State.sendPacket
  dsimp only
  split <;> simp

@[simp] theorem inner_sendAck (s : State) (r : SessRef) : (s.sendAck r).inner = s.inner := by
  unfold State.sendAck; split <;> simp

@[simp] theorem inner_pushSession (n : Nat) (s : State) (r : SessRef) : (s.pushSession n r).inner = s.inner := by
  induction n generalizing s with
  | zero => rfl
  | succ n ih =>
    unfold State.pushSession
    split
    · rfl
    · split
      · rfl
      · dsimp only; split
        · rw [ih]; simp
        · rfl

@[simp] theorem inner_queuePacket (s : State) (r : SessRef) (type : Nat) (b : List Byte) (l : List (Nat × Nat)) (urgent : Bool) :
    (s.queuePacket r type b l urgent).inner = s.inner := by
  unfold State.queuePacket
  split
  · unfold State.pushAll; split <;> simp
  · rfl

/-! ## Events and device safe state -/

@[simp] theorem inner_sendDowns (s : State) (source : Nat) : (s.sendDowns source).inner = s.inner := by
  unfold State.sendDowns
  dsimp only
  rw [inner_mapEth]
  refine foldl_keeps State.inner (fun s x => ?_) s _
  split <;> simp

@[simp] theorem inner_enterSafe (s : State) (source : Nat) : (s.enterSafe source).inner = s.inner := by
  unfold State.enterSafe; split <;> simp

@[simp] theorem inner_event (s : State) (source cls det : Nat) : (s.event source cls det).inner = s.inner := by
  unfold State.event; split <;> simp

@[simp] theorem inner_errEvent (s : State) (err bit source cls plot inst : Nat) :
    (s.errEvent err bit source cls plot inst).inner = s.inner := by
  simp [State.errEvent]

/-! ## Completions -/

@[simp] theorem inner_flushEvents (s : State) (r : SessRef) : (s.flushEvents r).inner = s.inner := by
  unfold State.flushEvents
  split
  · rfl
  · split <;> simp

@[simp] theorem inner_addEvent (s : State) (whole : Bool) (channel : Nat) (c : Completion) :
    (s.addEvent whole channel c).inner = s.inner := by
  unfold State.addEvent
  extract_lets r
  split
  · rfl
  · extract_lets flushed
    have h : flushed.inner = s.inner := by unfold flushed; split <;> simp
    split
    · exact h
    · dsimp only; split <;> simp [h]

@[simp] theorem inner_addEvents (s : State) (cs : List (Nat × Completion)) : (s.addEvents cs).inner = s.inner := by
  unfold State.addEvents
  dsimp only
  rw [foldl_keeps State.inner inner_flushEvents, foldl_keeps State.inner]
  exact fun s c => inner_addEvent s _ c.1 c.2

@[simp] theorem inner_windowsRise (s : State) : s.windowsRise.inner = s.inner := by
  refine foldl_keeps State.inner (fun s r => ?_) s _
  unfold State.windowRise
  split
  · rfl
  · split <;> simp

theorem cells_handCompletion (s : State) (c : Completion) : (s.handCompletion c).cells = s.cells := by
  unfold State.handCompletion; split <;> rfl

@[simp] theorem cells_handAll (s : State) (cs : List Completion) : (s.handAll cs).cells = s.cells := by
  unfold State.handAll
  dsimp only
  rw [cells_of_inner (inner_windowsRise _), cells_of_inner (inner_addEvents _ _), foldl_keeps State.cells cells_handCompletion]

@[simp] theorem cells_complete (s : State) (t : TSlot) (c : Completion) (wait : Option Nat) :
    (s.complete t c wait).cells = s.cells := by
  unfold State.complete
  split
  · exact cells_handAll s [c]
  · rfl

end Sys2Proof.Machine
end

section
/-! SUPPORT. How a transaction leaves its unit: what is freed, what happens to the Sower, and which bytes of memory the
before-images restore. -/

namespace Sys2Proof.Machine

open Sys2Proof Sys2Proof.Stated

/-! ## The unit that is left -/

/-- A unit is free: it has no transaction, does not run, holds no line entries, and its PSW.TXN is clear (R302). -/
def State.freed (s : State) (u : Nat) : Prop :=
  (s.unit u).txn = none ∧ (s.unit u).run = false ∧ (s.unit u).lines = [] ∧ (archOf s u).txn = false

theorem txn_setPsw (a : Arch) : (a.setPsw 4 4 0).txn = false :=
  (getLsbD_setBits _ 0 4 le_rfl (by decide)).trans (by simp)

theorem freed_freeUp (s : State) (u : Nat) : (s.freeUp u).freed u := by
  simp only [State.freed, State.freeUp, archOf, unit_of_mapJournal, unit_of_mapWeft, unit_mapUnit_same, true_and]
  exact txn_setPsw _

theorem freed_of_cells {s t : State} {u : Nat} (h : t.cells = s.cells) (hs : s.freed u) : t.freed u := by
  rw [State.freed, archOf, unit_of_cells h]
  exact hs

@[simp] theorem mem_freeUp (s : State) (u : Nat) : (s.freeUp u).mem = s.mem := rfl
@[simp] theorem sower_freeUp (s : State) (u : Nat) : (s.freeUp u).sower = s.sower := rfl

/-! ## The end of an attempt -/

@[simp] theorem inner_charge (s : State) (u plot acct : Nat) : (s.charge u plot acct).inner = s.inner := by
  simp [State.charge]

@[simp] theorem inner_dropWounds (s : State) (u : Nat) : (s.dropWounds u).inner = s.inner := by
  refine foldl_keeps State.inner (fun s e => ?_) s _
  cases e with
  | wound slice attempt => dsimp only; unfold State.lateWound; split <;> simp
  | _ => rfl

@[simp] theorem inner_sendStakeOp (s : State) (home ns key : Nat) (who : Party) (op : SliceOp) :
    (s.sendStakeOp home ns key who op).inner = s.inner := by
  unfold State.sendStakeOp
  split
  · simp
  · cases op <;> simp

@[simp] theorem inner_releaseStakes (s : State) (t : TSlot) : (s.releaseStakes t).inner = s.inner := by
  unfold State.releaseStakes
  rw [inner_mapStakes]
  refine foldl_keeps State.inner (fun s r => ?_) s _
  dsimp only
  split_ifs <;> simp

@[simp] theorem inner_spanAbort (s : State) (u : Nat) (t : TSlot) : (s.spanAbort u t).inner = s.inner := by
  unfold State.spanAbort
  dsimp only
  split
  · rw [foldl_keeps State.inner fun s d => inner_weftSend s d _ _, inner_mapWeft]
  · simp

theorem freed_leave (s : State) (u : Nat) (t : TSlot) : (s.leave u t).freed u := freed_freeUp _ u

/-- What an attempt goes through before its unit is freed leaves units, memory and Sower alone. -/
theorem inner_beforeFree (s : State) (u : Nat) (t : TSlot) :
    (((s.charge u t.plot t.account).dropWounds u).releaseStakes t).inner = s.inner := by simp

@[simp] theorem mem_leave (s : State) (u : Nat) (t : TSlot) : (s.leave u t).mem = s.mem :=
  (mem_freeUp _ u).trans (mem_of_cells (cells_of_inner (inner_beforeFree s u t)))

@[simp] theorem sower_leave (s : State) (u : Nat) (t : TSlot) : (s.leave u t).sower = s.sower :=
  (sower_freeUp _ u).trans (sower_of_inner (inner_beforeFree s u t))

/-! ## Lines put back -/

/-- Breaking links changes units only. -/
theorem breakLinks_keeps (s : State) (us : List Nat) (w : Option Nat) (pa n : Nat) :
    ((s.breakLinks us w pa n).mem, (s.breakLinks us w pa n).sower) = (s.mem, s.sower) := by
  refine foldl_keeps (fun s : State => (s.mem, s.sower)) (fun s u => ?_) s us
  unfold State.breakLink
  split
  · rfl
  · split
    · split <;> rfl
    · rfl

theorem byte_deviceStore (s : State) (w : Option Nat) (pa : Nat) (data : List Byte) (a : Nat) :
    (s.deviceStore w pa data).byte a = (s.setBytes pa data).byte a :=
  byte_of_mem (congrArg Prod.fst (breakLinks_keeps (s.memStore pa data) _ w pa _)) a

@[simp] theorem sower_deviceStore (s : State) (w : Option Nat) (pa : Nat) (data : List Byte) :
    (s.deviceStore w pa data).sower = s.sower :=
  (congrArg Prod.snd (breakLinks_keeps (s.memStore pa data) _ w pa _)).trans (setBytes_sower s pa data)

@[simp] theorem inner_dirtyLine (s : State) (c pa : Nat) (mark : Option Nat) : (s.dirtyLine c pa mark).inner = s.inner := by
  unfold State.dirtyLine State.takeLine
  split
  · rfl
  · dsimp only
    rw [State.putLine, inner_mapCluster]
    refine foldl_keeps State.inner (fun s d => ?_) s _
    split <;> simp [State.dropLine, State.doom]

/-- A line put into a cache writes its bytes, in a state whose units, memory and Sower are as before. -/
theorem placeLine_stores (s : State) (c pa : Nat) (data : List Byte) (mark : Option Nat) :
    ∃ t : State, t.inner = s.inner ∧ s.placeLine c pa data mark = t.deviceStore none (lineOf pa) data := by
  refine ⟨_, ?_, rfl⟩
  rw [inner_dirtyLine]
  split
  · dsimp only
    rw [State.putLine, inner_mapCluster]
    split <;> split <;> simp [State.dropLine]
  · rfl

@[simp] theorem sower_placeLine (s : State) (c pa : Nat) (data : List Byte) (mark : Option Nat) :
    (s.placeLine c pa data mark).sower = s.sower := by
  obtain ⟨t, ht, hs⟩ := placeLine_stores s c pa data mark
  rw [hs, sower_deviceStore, sower_of_inner ht]

theorem byte_placeLine_in (s : State) (c : Nat) {pa : Nat} {data : List Byte} (mark : Option Nat) (hpa : pa % 64 = 0) {i : Nat}
    (h : i < data.length) : (s.placeLine c pa data mark).byte (pa + i) = data[i] := by
  obtain ⟨t, -, hs⟩ := placeLine_stores s c pa data mark
  rw [hs, byte_deviceStore, show lineOf pa = pa by unfold lineOf; omega, byte_setBytes_in t pa i data h]

theorem byte_placeLine_other (s : State) (c : Nat) {pa a : Nat} {data : List Byte} (mark : Option Nat) (hpa : pa % 64 = 0)
    (h : a < pa ∨ pa + data.length ≤ a) : (s.placeLine c pa data mark).byte a = s.byte a := by
  obtain ⟨t, ht, hs⟩ := placeLine_stores s c pa data mark
  rw [hs, byte_deviceStore, show lineOf pa = pa by unfold lineOf; omega, byte_setBytes_other t pa a data h,
    byte_of_mem (mem_of_cells (cells_of_inner ht))]

/-! ## Undo -/

theorem sower_undo (s : State) (u : Nat) : (s.undo u).sower = s.sower := by
  unfold State.undo
  dsimp only
  split
  · exact sower_of_inner (inner_errEvent _ _ _ _ _ _ _)
  · exact foldl_keeps State.sower (fun s e => sower_placeLine s _ _ _ _) s _

/-- Line entries name whole lines, each once: every offset lies on a line from the region's base on, with 64 bytes. -/
def linesApart (base : Nat) (l : List LineEntry) : Prop :=
  (l.map (·.off)).Nodup ∧ ∀ e ∈ l, (base + e.off) % 64 = 0 ∧ e.before.length = 64

theorem linesApart_cons {base : Nat} {e : LineEntry} {l : List LineEntry} (h : linesApart base (e :: l)) :
    ((base + e.off) % 64 = 0 ∧ e.before.length = 64) ∧ linesApart base l ∧
      ∀ x ∈ l, base + x.off + 64 ≤ base + e.off ∨ base + e.off + 64 ≤ base + x.off := by
  obtain ⟨hnd, hal⟩ := h
  rw [List.map_cons, List.nodup_cons] at hnd
  refine ⟨hal e List.mem_cons_self, ⟨hnd.2, fun x hx => hal x (List.mem_cons_of_mem _ hx)⟩, fun x hx => ?_⟩
  have hne : x.off ≠ e.off := fun h => hnd.1 (h ▸ List.mem_map_of_mem hx)
  have he := hal e List.mem_cons_self
  have hx := hal x (List.mem_cons_of_mem _ hx)
  omega

/-- The lines of entries put back, the last entry first. -/
def State.putBack (s : State) (c base : Nat) (mark : State → Option Nat) (l : List LineEntry) : State :=
  l.foldr (fun e s => s.placeLine c (base + e.off) e.before (mark s)) s

theorem putBack_cons (s : State) (c base : Nat) (mark : State → Option Nat) (e : LineEntry) (l : List LineEntry) :
    s.putBack c base mark (e :: l) = (s.putBack c base mark l).placeLine c (base + e.off) e.before (mark (s.putBack c base mark l)) := by
  simp only [State.putBack, List.foldr_cons]

theorem undo_eq_putBack {s : State} {u : Nat} (h : s.capPoisoned u = false) : s.undo u =
    s.putBack (clusterOf (pairOf u)) (s.liveRegion (s.unit u).execPlot).1 (fun s => some (s.epochAt u)) (s.unit u).lines := by
  rw [State.undo, h, State.putBack]
  exact List.foldl_reverse

section

variable (s : State) (c : Nat) {base : Nat} (mark : State → Option Nat)

theorem byte_putBack_other {l : List LineEntry} {a : Nat} (hl : linesApart base l)
    (h : ∀ e ∈ l, a < base + e.off ∨ base + e.off + 64 ≤ a) : (s.putBack c base mark l).byte a = s.byte a := by
  induction l with
  | nil => rfl
  | cons e l ih =>
    obtain ⟨⟨hal, hlen⟩, hrest, -⟩ := linesApart_cons hl
    have ha := h e List.mem_cons_self
    rw [putBack_cons, byte_placeLine_other _ c _ hal (by omega)]
    exact ih hrest fun x hx => h x (List.mem_cons_of_mem _ hx)

theorem byte_putBack_in {l : List LineEntry} (hl : linesApart base l) {e : LineEntry} (he : e ∈ l) {i : Nat}
    (h : i < e.before.length) : (s.putBack c base mark l).byte (base + e.off + i) = e.before[i] := by
  induction l with
  | nil => simp at he
  | cons x l ih =>
    obtain ⟨⟨hal, hlen⟩, hrest, hapart⟩ := linesApart_cons hl
    rcases List.mem_cons.1 he with rfl | he
    · rw [putBack_cons, byte_placeLine_in _ c _ hal h]
    · have hx := hapart e he
      have hlen' := (hrest.2 e he).2
      rw [putBack_cons, byte_placeLine_other _ c _ hal (by omega)]
      exact ih hrest he

end

/-! ## ABORT -/

theorem abortWith_of_txnOf {s : State} {u : Nat} {x : TSlot} (h : s.txnOf u = some x) (status : Nat) :
    s.abortWith u status =
      (s.abandon u x).complete { x with unit := none } ((s.abandon u x).completion x status 0 []) (s.readWait u) := by
  have hx : (s.unit u).txn.bind s.tslot = some x := by
    unfold State.txnOf at h
    split at h
    · exact h
    · contradiction
  simp only [State.abortWith, hx]

theorem sower_abandon (s : State) (u : Nat) (x : TSlot) : (s.abandon u x).sower = s.sower := by
  rw [State.abandon, sower_leave, sower_of_inner (inner_spanAbort _ _ _), sower_undo]

theorem byte_abandon (s : State) (u : Nat) (x : TSlot) (a : Nat) : (s.abandon u x).byte a = (s.undo u).byte a := by
  refine byte_of_mem ?_ a
  rw [State.abandon, mem_leave, mem_of_cells (cells_of_inner (inner_spanAbort _ _ _))]

end Sys2Proof.Machine
end

section
/-! OBLIGATIONS. The end of a transaction: COMMIT, ABORT and ABORT.F (O21). -/

namespace Sys2Proof.Machine

open Sys2Proof Sys2Proof.Stated

/-! ## ABORT and ABORT.F -/

theorem ends_abort {u : Nat} {f : RegF} {s : State} {p : State → Prop} (h : p (s.abortOp u f 0 0x1001)) :
    Ends (.abort u f) s p := ⟨_, rfl, h⟩

theorem ends_abortF {u : Nat} {f : RegF} {s : State} {p : State → Prop} (h : p (s.abortOp u f 1 0x1004)) :
    Ends (.abortF u f) s p := ⟨_, rfl, h⟩

section Abort

variable {s : State} {u : Nat} {f : RegF} {level : Nat} (status : Nat) (hf : s.fetches u = true) (hd : f.rd = 0)
  (ha : f.ra = 0) (hb : f.rb = 0) (hc : f.fc = 0) (hlevel : level ≤ (archOf s u).level)

include hf hd ha hb hc hlevel

theorem abortOp_outside (htxn : (archOf s u).txn = false) :
    Takes s (s.abortOp u f level status) u { code := 7, sub := 1, sp := 0, addr := 0, async := false } := by
  rw [State.abortOp, execute_body _ hf (by simpa [Legal.ok, hd, ha, hb, hc] using hlevel)]
  simp only [htxn, Bool.not_false, if_true]
  rfl

theorem abortOp_inside {x : TSlot} (hx : s.txnOf u = some x) (hdr : s.drained u = true) :
    s.abortOp u f level status = s.abortWith u status := by
  have htxn : (archOf s u).txn = true := by
    by_contra hn
    simp [State.txnOf, hn] at hx
  rw [State.abortOp, execute_body _ hf (by simpa [Legal.ok, hd, ha, hb, hc] using hlevel)]
  simp only [htxn, hdr, Bool.not_true, Bool.false_eq_true, if_false, State.conclude]

end Abort

/-- A transaction slot holds a completion with a status, which waits there for a seal (R65). -/
def State.holds (t : State) (slot status : Nat) : Prop := ((t.tslot slot).bind (·.result)).map (·.status) = some status

theorem slot_of_txnOf {s : State} {u : Nat} {x : TSlot} (h : s.txnOf u = some x) : s.tslot x.slot = some x := by
  unfold State.txnOf at h
  split at h
  · obtain ⟨n, -, hn⟩ := Option.bind_eq_some_iff.1 h
    have hslot : x.slot = n := by simpa using List.find?_some hn
    rw [hslot, hn]
  · contradiction

/-- A slot in use that is replaced is found with its new contents. -/
theorem tslot_setTslot {s : State} {x : TSlot} (t : TSlot) (hx : s.tslot t.slot = some x) :
    (s.setTslot t).tslot t.slot = some t := by
  have hfun : ((fun y : TSlot => decide (y.slot = t.slot)) ∘ fun y => if y.slot = t.slot then t else y) =
      fun y => decide (y.slot = t.slot) := by
    funext y; by_cases hy : y.slot = t.slot <;> simp [hy]
  have hslot : x.slot = t.slot := by simpa using List.find?_some hx
  rw [State.tslot] at hx
  simp only [State.tslot, State.setTslot, mapSower_sower, List.find?_map, hfun, hx, Option.map_some, hslot, if_true]

theorem freed_abortWith {s : State} {u : Nat} {x : TSlot} (hx : s.txnOf u = some x) (status : Nat) :
    (s.abortWith u status).freed u := by
  rw [abortWith_of_txnOf hx]
  exact freed_of_cells (cells_complete _ _ _ _) (freed_leave _ u x)

theorem holds_abortWith {s : State} {u : Nat} {x : TSlot} (hx : s.txnOf u = some x) (status : Nat) {e : Nat}
    (he : s.readWait u = some e) : (s.abortWith u status).holds x.slot status := by
  have hslot : (s.abandon u x).tslot x.slot = some x := by
    rw [State.tslot, sower_abandon]
    exact slot_of_txnOf hx
  rw [abortWith_of_txnOf hx, he, State.holds, State.complete, if_neg (by simp),
    tslot_setTslot { x with unit := none, result := _, waitOn := _ } hslot]
  rfl

theorem abortWith_ends {s : State} {u : Nat} {x : TSlot} (hx : s.txnOf u = some x) (status : Nat) :
    (s.abortWith u status).freed u ∧ ∀ e, s.readWait u = some e → (s.abortWith u status).holds x.slot status :=
  ⟨freed_abortWith hx status, fun _ => holds_abortWith hx status⟩

theorem byte_abortWith {s : State} {u : Nat} {x : TSlot} (hx : s.txnOf u = some x) (status a : Nat) :
    (s.abortWith u status).byte a = (s.undo u).byte a := by
  rw [abortWith_of_txnOf hx, byte_of_mem (mem_of_cells (cells_complete _ _ _ _)), byte_abandon]

/-- An ABORT puts back the before-image of every line entry and touches no other byte (R132). -/
theorem abortWith_restores {s : State} {u : Nat} {x : TSlot} (hx : s.txnOf u = some x) (status : Nat)
    (hp : s.capPoisoned u = false) {base : Nat} (hbase : (s.liveRegion (s.unit u).execPlot).1 = base)
    (hl : linesApart base (s.unit u).lines) :
    (∀ e ∈ (s.unit u).lines, ∀ i (h : i < e.before.length), (s.abortWith u status).byte (base + e.off + i) = e.before[i]) ∧
    ∀ a, (∀ e ∈ (s.unit u).lines, a < base + e.off ∨ base + e.off + 64 ≤ a) → (s.abortWith u status).byte a = s.byte a := by
  subst hbase
  refine ⟨fun e he i hi => ?_, fun a ha => ?_⟩
  · rw [byte_abortWith hx, undo_eq_putBack hp, byte_putBack_in s _ _ hl he hi]
  · rw [byte_abortWith hx, undo_eq_putBack hp, byte_putBack_other s _ _ hl ha]

/-! ## COMMIT -/

section Commit

variable {s : State} {u : Nat} {f : RegF} (hf : s.fetches u = true) (hd : f.rd = 0) (hb : f.rb = 0) (hc : f.fc = 0)

include hf hd hb hc

theorem commit_outside (hx : s.txnOf u = none) : Ends (.commit u f) s fun t =>
    Takes s t u { code := 7, sub := 1, sp := 0, addr := 0, async := false } := by
  refine ⟨_, rfl, ?_⟩
  rw [execute_body _ hf (by simp [Legal.ok, hd, hb, hc])]
  simp only [hx]
  rfl

variable {x : TSlot} (hx : s.txnOf u = some x)

include hx

theorem commit_badRlen (hr : 256 < ((archOf s u).reg f.ra).toNat) : Ends (.commit u f) s fun t =>
    Takes s t u { code := 7, sub := 2, sp := 0, addr := 0, async := false } := by
  refine ⟨_, rfl, ?_⟩
  rw [execute_body _ hf (by simp [Legal.ok, hd, hb, hc])]
  simp only [hx, hr, if_true]
  rfl

variable (hr : ((archOf s u).reg f.ra).toNat ≤ 256) (hdr : s.drained u = true) (hrem : s.remoteDone u = true)
  (hhome : s.homesOf x.slot = []) (hspan : x.span = false)

include hr hdr hrem hhome hspan

/-- A COMMIT without other homes comes to its choice: to wait for the journal engine with what it captured, or to end. -/
theorem commit_alone {p : State → Prop}
    (hwait : (s.unit u).lines ≠ [] → p ((s.queueCommit u x.slot ((archOf s u).reg f.ra).toNat).mapUnit u fun y =>
      { y with wait := .commit ((archOf s u).reg f.ra).toNat }))
    (hend : (s.unit u).lines = [] → p (s.endCommit u x 0 (s.readWait u) ((archOf s u).reg f.ra).toNat)) :
    Ends (.commit u f) s p := by
  refine ⟨_, rfl, ?_⟩
  have hreqs : ¬ ((!s.drained u) = true ∨ (s.weft.reqs.any fun r => decide (r.unit = u ∧ r.write = true)) = true) := by
    simpa [State.remoteDone, hdr] using hrem
  rw [execute_body _ hf (by simp [Legal.ok, hd, hb, hc])]
  simp only [hx, if_neg (Nat.not_lt.2 hr), if_neg hreqs, hspan, hhome, List.isEmpty_nil, Bool.not_true, Bool.false_eq_true,
    if_false]
  by_cases hl : (s.unit u).lines = []
  · simpa only [hl, List.isEmpty_nil, if_true, State.conclude] using hend hl
  · simpa only [List.isEmpty_iff, hl, if_false, State.conclude] using hwait hl

end Commit

theorem queueCommit_waits {s : State} {u : Nat} (slot rlen : Nat) (h : ∀ w ∈ s.journal.waits, w.unit ≠ u) :
    (s.queueCommit u slot rlen).journal.waits = s.journal.waits ++ [{ unit := u, slot := slot, rlen := rlen }] := by
  rw [State.queueCommit, mapJournal_journal, if_neg (by simpa using h)]

/-- A COMMIT that ends frees its unit and leaves memory as it was (R302). -/
theorem endCommit_frees (s : State) (u : Nat) (x : TSlot) (epoch : Nat) (wait : Option Nat) (rlen : Nat) :
    (s.endCommit u x epoch wait rlen).freed u ∧ ∀ a, (s.endCommit u x epoch wait rlen).byte a = s.byte a := by
  have hmem : ((s.retire u ((s.unit u).arch.pc + 4)).leave u x).mem = s.mem := by
    rw [mem_leave, (retire_retires s u _).frame.mem]
  refine ⟨freed_of_cells (cells_complete _ _ _ _) (freed_leave _ u x), fun a => ?_⟩
  exact byte_of_mem ((mem_of_cells (cells_complete _ _ _ _)).trans hmem) a

/-! ## The obligation -/

/-- Settles O21: outside a transaction each raises NOTXN; inside one a COMMIT waits or ends, an abort ends; memory is what
the undo of the captured lines makes of it. That ABORT.F's status waits for the seal like ABORT's is log entry 61. -/
theorem transactionEnds : Obligations.TransactionEnds := by
  refine ⟨fun s u f hf hd hb hc => ⟨commit_outside hf hd hb hc, fun htxn ha => ⟨?_, fun hlevel => ?_⟩, fun x hx =>
    ⟨commit_badRlen hf hd hb hc hx, fun hr hdr hrem hhome hspan => ⟨fun hl hw => ?_, fun hl => ?_⟩,
      fun ha hdr => ⟨?_, fun hlevel => ?_⟩⟩⟩,
    fun s u f x hf hd ha hb hc hx hdr hp hnd hal => ?_⟩
  · exact ends_abort (abortOp_outside _ hf hd ha hb hc (Nat.zero_le _) htxn)
  · exact ends_abortF (abortOp_outside _ hf hd ha hb hc hlevel htxn)
  · refine commit_alone hf hd hb hc hx hr hdr hrem hhome hspan (fun _ => ⟨?_, ?_, rfl, ?_⟩) (fun h => absurd h hl)
    · rw [unit_mapUnit_same]
    · rw [archOf, unit_mapUnit_same]; rfl
    · exact queueCommit_waits _ _ hw
  · exact commit_alone hf hd hb hc hx hr hdr hrem hhome hspan (fun h => absurd hl h) fun _ => endCommit_frees _ _ _ _ _ _
  · refine ends_abort ?_
    rw [abortOp_inside _ hf hd ha hb hc (Nat.zero_le _) hx hdr]
    exact abortWith_ends hx _
  · refine ends_abortF ?_
    rw [abortOp_inside _ hf hd ha hb hc hlevel hx hdr]
    exact abortWith_ends hx _
  · refine ends_abort ?_
    rw [abortOp_inside _ hf hd ha hb hc (Nat.zero_le _) hx hdr]
    exact abortWith_restores hx _ hp rfl ⟨hnd, hal⟩

end Sys2Proof.Machine
end

section
/-! SUPPORT. Strings of bytes in memory, counters, and the registers that an event leaves alone. -/

namespace Sys2Proof.Machine

open Sys2Proof Sys2Proof.Stated

/-! ## Strings of bytes -/

@[simp] theorem length_leBytes (n v : Nat) : (leBytes n v).length = n := by
  induction n generalizing v with
  | zero => rfl
  | succ n ih => rw [leBytes, List.length_cons, ih]

@[simp] theorem length_bytes (s : State) (a n : Nat) : (s.bytes a n).length = n := by
  induction n generalizing a with
  | zero => rfl
  | succ n ih => rw [State.bytes, List.length_cons, ih]

theorem getElem_bytes (s : State) (a : Nat) {n i : Nat} (h : i < (s.bytes a n).length) :
    (s.bytes a n)[i] = s.byte (a + i) := by
  induction n generalizing a i with
  | zero => simp at h
  | succ n ih =>
    cases i with
    | zero => rfl
    | succ i => simpa [State.bytes, Nat.add_assoc, Nat.add_comm 1] using ih (a + 1) (by simpa using h)

/-- Memory reads a string where its bytes stand. -/
theorem bytes_eq {s : State} {a n : Nat} {l : List Byte} (hl : l.length = n) (h : ∀ i (hi : i < l.length), s.byte (a + i) = l[i]) :
    s.bytes a n = l :=
  List.ext_getElem (by simp [hl]) fun i hi hj => by rw [getElem_bytes, h]

theorem bytes_setBytes (s : State) (a : Nat) {l : List Byte} {n : Nat} (hl : l.length = n) : (s.setBytes a l).bytes a n = l :=
  bytes_eq hl fun i hi => byte_setBytes_in s a i l hi

/-! ## Counters -/

theorem reg_count_same (s : State) (off : Nat) :
    ((s.count off 1).reg off).toNat = min 0xFFFFFFFF ((s.reg off).toNat + 1) := by
  rw [State.count, reg_setReg_same, BitVec.toNat_ofNat]
  omega

theorem reg_count_other (s : State) {off o : Nat} (n : Nat) (h : o ≠ off) : (s.count off n).reg o = s.reg o :=
  reg_setReg_other s _ h

/-! ## Events below class 6 -/

/-- The registers that the record of an event may change. -/
def gleanRegs : List Nat := [Reg.GLN_NEXTSEQ, Reg.GLN_CNT_LOST, Reg.GLN_ERR]

/-- What neither the Gleaner, the Almanac nor a register of an event's record changes, the record leaves alone. -/
theorem glean_keeps {α : Type} (p : State → α) (hg : ∀ (s : State) f, p (s.mapGleaner f) = p s)
    (ha : ∀ (s : State) f, p (s.mapAlmanac f) = p s) (hr : ∀ (s : State) o v, o ∈ gleanRegs → p (s.setReg o v) = p s)
    (s : State) (source cls det : Nat) : p (s.glean source cls det) = p s := by
  unfold State.glean
  extract_lets acts counted corrected record kept
  have hc : p corrected = p s := by unfold corrected; split <;> simp only [ha, hg, counted]
  split
  · exact hc
  · split
    · rw [hg, hc]
    · clear_value kept
      cases kept with
      | some l => exact ((hr _ _ _ (by simp [gleanRegs])).trans (hg _ _)).trans hc
      | none =>
        refine (hr _ _ _ (by simp [gleanRegs])).trans ((hr _ _ _ (by simp [gleanRegs])).trans ?_)
        rw [hg, hc]

theorem event_keeps {α : Type} (p : State → α) (hg : ∀ (s : State) f, p (s.mapGleaner f) = p s)
    (ha : ∀ (s : State) f, p (s.mapAlmanac f) = p s) (hr : ∀ (s : State) o v, o ∈ gleanRegs → p (s.setReg o v) = p s)
    (s : State) (source : Nat) {cls : Nat} (det : Nat) (hcls : cls ≠ 6) : p (s.event source cls det) = p s := by
  rw [State.event, if_neg hcls, glean_keeps p hg ha hr]

theorem reg_event (s : State) (source : Nat) {cls : Nat} (det : Nat) {o : Nat} (hcls : cls ≠ 6) (h : o ∉ gleanRegs) :
    (s.event source cls det).reg o = s.reg o :=
  event_keeps (·.reg o) (fun _ _ => rfl) (fun _ _ => rfl) (fun s _ v hm => reg_setReg_other s v fun he => h (he ▸ hm)) s source
    det hcls

theorem stakes_event (s : State) (source : Nat) {cls : Nat} (det : Nat) (hcls : cls ≠ 6) :
    (s.event source cls det).stakes = s.stakes :=
  event_keeps (·.stakes) (fun _ _ => rfl) (fun _ _ => rfl) (fun _ _ _ _ => rfl) s source det hcls

theorem stakes_errEvent (s : State) (err bit source : Nat) {cls : Nat} (plot inst : Nat) (hcls : cls ≠ 6) :
    (s.errEvent err bit source cls plot inst).stakes = s.stakes := by
  rw [State.errEvent, stakes_event _ _ _ hcls]
  rfl

/-- An event that sets a bit of an error register leaves it set. -/
theorem bit_errEvent (s : State) {err bit : Nat} (source : Nat) {cls : Nat} (plot inst : Nat) (hbit : bit < 32) (hcls : cls ≠ 6)
    (h : err ∉ gleanRegs) : (s.errEvent err bit source cls plot inst).bit err bit = true := by
  rw [State.bit, State.errEvent, reg_event _ _ _ hcls h]
  exact bit_setBit_same s true hbit

end Sys2Proof.Machine
end

section
/-! OBLIGATIONS. STAKE and UNSTAKE on a unit (O20). -/

namespace Sys2Proof.Machine

open Sys2Proof Sys2Proof.Stated

/-! ## Results of a stake instruction -/

@[simp] theorem setReg_pc (a : Arch) (r : BitVec 5) (v : Word) : (a.setReg r v).pc = a.pc := by
  simp only [Arch.setReg]
  split_ifs <;> rfl

/-- A stake instruction that ends with a code retires with it in its destination register. -/
theorem stakeResult_retires (s t : State) (u : Nat) (rd : BitVec 5) (code : Nat) :
    Retires t (s.conclude u (t.stakeResult u rd code)) u ((archOf t u).setReg rd (BitVec.ofNat 32 code)) (pcNext t u) := by
  have hpc : ((t.mapArch u fun a => a.setReg rd (BitVec.ofNat 32 code)).unit u).arch.pc = (archOf t u).pc := by
    rw [mapArch_arch, setReg_pc]
  rw [State.stakeResult, State.conclude, hpc]
  have r := retire_retires (t.mapArch u fun a => a.setReg rd (BitVec.ofNat 32 code)) u ((archOf t u).pc + 4)
  exact ⟨by rw [r.arch, mapArch_arch]; rfl, by rw [r.count, mapArch_retired], (mapArch_only t u _).comp r.frame⟩

/-! ## Records of a stake cache -/

theorem recs_ne_of_stakeRec_none {s : State} {slot ns key : Nat} (h : s.stakeRec slot ns key = none) :
    (s.stakes.recs.filter fun x => !(x.slot == slot && x.ns == ns && x.key == key)) = s.stakes.recs :=
  List.filter_eq_self.2 fun r hr => by
    simpa only [Bool.not_eq_true'] using Bool.eq_false_iff.2 (List.find?_eq_none.1 h r hr)

/-- A record that a stake cache does not have yet is added to it. -/
theorem putStakeRec_new {s : State} {r : StakeRec} (h : s.stakeRec r.slot r.ns r.key = none) (hw : r.waits.isSome = true) :
    s.putStakeRec r = s.mapStakes fun k => { k with recs := s.stakes.recs ++ [r] } := by
  have hw' : ¬(r.held.isNone && r.waits.isNone) = true := by simp [Option.isSome_iff_ne_none.1 hw]
  simp only [State.putStakeRec, State.mapStakes, recs_ne_of_stakeRec_none h, if_neg hw']

/-- A record with nothing held or awaited leaves the stake cache. -/
theorem stakeRec_putStakeRec_gone (s : State) {r : StakeRec} (hh : r.held = none) (hw : r.waits = none) :
    (s.putStakeRec r).stakeRec r.slot r.ns r.key = none := by
  simp only [State.putStakeRec, State.stakeRec, mapStakes_stakes, hh, hw, Option.isNone_none, Bool.and_self, if_true]
  refine List.find?_eq_none.2 fun x hx => ?_
  simpa only [Bool.not_eq_true', Bool.not_eq_true] using (List.mem_filter.1 hx).2

/-- The record that a stake cache has for a transaction and a record key is named by them. -/
theorem named_of_stakeRec {s : State} {slot ns key : Nat} {r : StakeRec} (h : s.stakeRec slot ns key = some r) :
    r.slot = slot ∧ r.ns = ns ∧ r.key = key := by
  have := List.find?_some h
  simpa [and_assoc] using this

/-- An operation on a record of this device is a message to the record's slice. -/
theorem sendStakeOp_home {s : State} {home : Nat} (ns key : Nat) (who : Party) (op : SliceOp) (h : home = s.devId) :
    s.sendStakeOp home ns key who op = s.mapStakes fun k =>
      { k with msgs := k.msgs ++ [{ slice := s.sliceOf ns key, who := who, ns := ns, key := key, op := op }] } := by
  unfold State.sendStakeOp
  exact if_pos h

theorem ends_stake {u : Nat} {f : RegF} {excl : Bool} {s : State} {p : State → Prop} (h : p (s.stakeOp u f excl)) :
    Ends (if excl then Instr.stakeX u f else .stakeS u f) s p := by
  cases excl <;> exact ⟨_, rfl, h⟩

section

variable {s : State} {u : Nat} {f : RegF} (hf : s.fetches u = true) (hb : f.rb = 0) (hc : f.fc = 0) (he : f.ra.toNat % 2 = 0)

include hf hb hc he

/-! ## STAKE -/

/-- A request for a stake on a record of this device is in the stake cache and on its way to the record's slice. -/
def State.requested (s : State) (x : TSlot) (ns key : Nat) (excl : Bool) : State :=
  s.mapStakes fun k =>
    { k with recs := k.recs ++ [{ slot := x.slot, ns := ns, key := key, home := s.devId, held := none, waits := some excl
                                  issued := s.time, queued := false }]
             msgs := k.msgs ++ [{ slice := s.sliceOf ns key, who := s.partyOf x, ns := ns, key := key
                                  op := .request excl }] }

theorem stakeOp_outside (excl : Bool) (hx : s.txnOf u = none) :
    s.stakeOp u f excl = s.conclude u (s.stakeResult u f.rd stNotxn) := by
  rw [State.stakeOp, execute_body _ hf (by simp [Legal.ok, hb, hc, he])]
  simp only [hx]

variable {x : TSlot} (hx : s.txnOf u = some x)

include hx

theorem stakeOp_held {excl : Bool} {r : StakeRec}
    (hr : s.stakeRec x.slot (s.unit u).execPlot ((archOf s u).stakeKey f.ra) = some r) (hcov : r.covers excl = true) :
    s.stakeOp u f excl = s.conclude u (s.stakeResult u f.rd stHeld) := by
  rw [State.stakeOp, execute_body _ hf (by simp [Legal.ok, hb, hc, he])]
  simp only [hx, hr, Option.map_some, Option.getD_some, hcov, if_true]

/-- A STAKE on a record of this device that is neither held nor awaited sends its request and stands at the instruction. -/
theorem stakeOp_requests {excl : Bool} (hr : s.stakeRec x.slot (s.unit u).execPlot ((archOf s u).stakeKey f.ra) = none)
    (hn : s.stakeCount x.slot < 256) (hh : s.stakeHome (s.unit u).execPlot ((archOf s u).stakeKey f.ra) = s.devId) :
    s.stakeOp u f excl = (s.requested x (s.unit u).execPlot ((archOf s u).stakeKey f.ra) excl).standAtStake u f.rd
      ((archOf s u).stakeKey f.ra) excl := by
  rw [State.stakeOp, execute_body _ hf (by simp [Legal.ok, hb, hc, he])]
  simp only [hx, hr, hh, Option.map_none, Option.getD_none, Bool.false_eq_true, if_false, Nat.not_le.2 hn, and_false,
    State.conclude]
  rw [putStakeRec_new hr rfl, sendStakeOp_home]
  all_goals rfl

/-! ## UNSTAKE -/

omit hx in
theorem unstake_outside (hx : s.txnOf u = none) :
    exec (.unstake u f) s = .next (s.conclude u (s.stakeResult u f.rd stNotxn)) := by
  change execUnstake u f s = _
  rw [execUnstake, execute_body _ hf (by simp [Legal.ok, hb, hc, he])]
  simp only [hx]

theorem unstake_notHeld (hr : s.stakeRec x.slot (s.unit u).execPlot ((archOf s u).stakeKey f.ra) = none) :
    exec (.unstake u f) s = .next (s.conclude u (s.stakeResult u f.rd stNotheld)) := by
  change execUnstake u f s = _
  rw [execUnstake, execute_body _ hf (by simp [Legal.ok, hb, hc, he])]
  simp only [hx, hr]

variable {r : StakeRec} (hr : s.stakeRec x.slot (s.unit u).execPlot ((archOf s u).stakeKey f.ra) = some r)

include hr

theorem unstake_refused (hh : r.held = some true) (hcap : s.hasCaptured u = true) :
    exec (.unstake u f) s = .next (s.conclude u (s.stakeResult u f.rd stRefused)) := by
  change execUnstake u f s = _
  rw [execUnstake, execute_body _ hf (by simp [Legal.ok, hb, hc, he])]
  simp only [hx, hr, hh, hcap, and_self, if_true]

/-- The state in which an UNSTAKE of a record of this device retires: its release is on its way, its record is dropped. -/
def State.unstaked (s : State) (x : TSlot) (r : StakeRec) : State :=
  ((s.mapStakes fun k =>
    { k with msgs := k.msgs ++ [{ slice := s.sliceOf r.ns r.key, who := s.partyOf x, ns := r.ns, key := r.key
                                  op := .release }] }).putStakeRec { r with held := none, waits := none }).mapStakes fun k =>
    { k with grants := k.grants.filter fun g => !(g.slot == x.slot && g.ns == r.ns && g.key == r.key) }

theorem unstake_releases (hh : r.held.isSome = true) (hfree : ¬(r.held = some true ∧ s.hasCaptured u = true))
    (hhome : r.home = s.devId) :
    exec (.unstake u f) s = .next (s.conclude u ((s.unstaked x r).stakeResult u f.rd stGranted)) := by
  change execUnstake u f s = _
  obtain ⟨-, hns, hkey⟩ := named_of_stakeRec hr
  rw [execUnstake, execute_body _ hf (by simp [Legal.ok, hb, hc, he])]
  simp only [hx, hr, if_neg hfree, hh, if_true, sendStakeOp_home _ _ _ _ hhome, State.unstaked, hns, hkey]

end

/-- Settles O20: each branch of the stake instructions retires with its code, or sends its message and stands. -/
theorem stakeInstructions : Obligations.StakeInstructions := by
  refine ⟨fun s u f excl hf hb hc he => ⟨fun hx => ?_, fun x hx => ⟨fun r hr hcov => ?_, fun hr hn hh => ?_⟩⟩,
    fun s u f hf hb hc he => ⟨fun hx => ?_, fun x hx => ⟨fun hr => ?_, fun r hr =>
      ⟨fun hh hcap => ?_, fun hheld hhome => ?_⟩⟩⟩⟩
  · apply ends_stake
    rw [stakeOp_outside hf hb hc he excl hx]
    exact stakeResult_retires s s u f.rd 7
  · apply ends_stake
    rw [stakeOp_held hf hb hc he hx hr hcov]
    exact stakeResult_retires s s u f.rd 1
  · apply ends_stake
    rw [stakeOp_requests hf hb hc he hx hr hn hh]
    refine ⟨rfl, rfl, ?_, ?_, (mapUnit_only (s.requested x _ _ excl) u _).arch, rfl⟩
    · rw [State.standAtStake, unit_mapUnit_same]; rfl
    · rw [State.standAtStake, archOf, unit_mapUnit_same]; rfl
  · exact ⟨_, unstake_outside hf hb hc he hx, stakeResult_retires s s u f.rd 7⟩
  · exact ⟨_, unstake_notHeld hf hb hc he hx hr, stakeResult_retires s s u f.rd 9⟩
  · exact ⟨_, unstake_refused hf hb hc he hx hr hh hcap, stakeResult_retires s s u f.rd 8⟩
  · have hsome : r.held.isSome = true := by rcases hheld with h | ⟨h, -⟩ <;> simp [h]
    have hfree : ¬(r.held = some true ∧ s.hasCaptured u = true) := by rcases hheld with h | ⟨-, h⟩ <;> simp [h]
    refine ⟨_, unstake_releases hf hb hc he hx hr hsome hfree hhome, ?_⟩
    have ret := stakeResult_retires s (s.unstaked x r) u f.rd stGranted
    obtain ⟨hslot, hns, hkey⟩ := named_of_stakeRec hr
    refine ⟨ret.arch, ?_, ?_, ret.frame.mem⟩
    · rw [State.stakeRec, ret.frame.stakes, ← hslot, ← hkey, ← hns]
      exact stakeRec_putStakeRec_gone _ (r := { r with held := none, waits := none }) rfl rfl
    · rw [ret.frame.stakes, ← hkey, ← hns]
      rfl

end Sys2Proof.Machine
end

section
/-! OBLIGATIONS. The inputs of the agreement latch at an instruction boundary, and the budget that becomes one (O31). -/

namespace Sys2Proof.Machine

open Sys2Proof Sys2Proof.Stated

/-! ## What does nothing while its input is not pending -/

section

variable {s : State} {u : Nat}

theorem actFirst_eq (h : (s.unit u).latch.mcheck = none) :
    s.actFirst u = s.mapUnit u fun x => { x with latch := { x.latch with tick := none } } := by
  simp only [State.actFirst, unit_mapUnit_same, h]

/-- Where neither a tick nor an MCHECK is pending, the unit and the plots are as before. -/
theorem actFirst_nothing (hm : (s.unit u).latch.mcheck = none) (ht : (s.unit u).latch.tick = none) :
    (s.actFirst u).unit u = s.unit u ∧ (s.actFirst u).plots = s.plots := by
  rw [actFirst_eq hm, unit_mapUnit_same, ← ht]
  exact ⟨rfl, rfl⟩

theorem actEnd_eq (hw : (s.unit u).wait = .none) (he : (s.unit u).latch.ends = []) : s.actEnd u = s := by
  have hspan : (s.unit u).spanning = false := by simp only [CoreUnit.spanning, hw]
  have hdec : (s.unit u).latch.decider = none := by simp [Latch.decider, he]
  simp only [State.actEnd, hspan, hdec, Bool.false_eq_true, if_false, ite_self]

theorem actInterrupt_eq (he : (s.unit u).latch.engine = false) (hd : (s.unit u).latch.doorbell = false) :
    s.actInterrupt u = s := by
  simp [State.actInterrupt, he, hd]

theorem actHalt_eq (h : (s.unit u).latch.halt = false) : s.actHalt u = s := by
  simp [State.actHalt, h]

/-- A boundary at which nothing but a tick, an MCHECK or an interrupt can wait. -/
theorem actRest_eq (hw : (s.unit u).wait = .none) (hq : (s.unit u).latch = quiet) :
    ((s.actEnd u).actInterrupt u).actHalt u = s := by
  rw [actEnd_eq hw (by rw [hq]; rfl), actInterrupt_eq (by rw [hq]; rfl) (by rw [hq]; rfl), actHalt_eq (by rw [hq]; rfl)]

/-! ## The inputs of a running unit -/

theorem ends_async {p : State → Prop} (hu : u < 192) (h : p (s.actInputs u)) : Ends (.asyncInputAtBoundary u) s p := by
  have hbell : s.presentBell u = s := if_neg fun h => Nat.ne_of_lt hu h.1
  exact ⟨_, rfl, hbell.symm ▸ h⟩

theorem actInputs_running (hr : running s u) : s.actInputs u =
    if (s.unit u).inputDue then (((s.actFirst u).actEnd u).actInterrupt u).actHalt u
    else if (s.unit u).latch.engine || (s.unit u).latch.doorbell then s.actInterrupt u
    else s.firmware u := by
  obtain ⟨hrun, hhalt, -, hsafe, htake, hload⟩ := hr
  simp [State.actInputs, hrun, hhalt, hsafe, htake, hload]

theorem actInputs_due (hr : running s u) (hd : (s.unit u).inputDue = true) :
    s.actInputs u = (((s.actFirst u).actEnd u).actInterrupt u).actHalt u := by
  rw [actInputs_running hr, if_pos hd]

theorem actInputs_quiet (hr : running s u) (hq : (s.unit u).latch = quiet) : s.actInputs u = s.firmware u := by
  rw [actInputs_running hr, if_neg (by simp [CoreUnit.inputDue, hq, quiet]), if_neg (by simp [hq, quiet])]

end

/-! ## Entry to a handler -/

/-- A unit at the first instruction of a handler, entered without a spill. -/
theorem unit_inHandler {s : State} {u : Nat} (f : SpecRegs → SpecRegs) (pc : Word)
    (hres : (s.unit u).arch.win.resident < 16) : (s.inHandler u f pc).unit u =
      { s.unit u with
        wait := .none
        arch := { (s.unit u).arch with win := (s.unit u).arch.win.push none, pc := pc, sr := f (s.unit u).arch.sr
                                       link := none } } := by
  simp only [State.inHandler, State.slideIn, hres, if_true, unit_mapUnit_same, unit_of_mapJournal, unit_of_mapWeft]

/-- A field reads as before where another one is written. -/
theorem bits_setBits_out (w : Word) {hi lo hi' lo' : Nat} (v : Nat) (hle : lo ≤ hi) (hhi : hi < 32)
    (h : hi' < lo ∨ hi < lo') : bits (setBits w hi lo v) hi' lo' = bits w hi' lo' := by
  refine Nat.eq_of_testBit_eq fun j => ?_
  rw [testBit_bits, testBit_bits]
  by_cases hj : j < hi' + 1 - lo'
  · rw [getLsbD_setBits_out w v hle hhi (by omega)]
  · simp [hj]

theorem level_handlerPsw (psw : Word) {level : Nat} (h : level < 4) : bits (handlerPsw psw level) 1 0 = level := by
  have hmod : level % 4 = level := Nat.mod_eq_of_lt h
  unfold handlerPsw
  split <;> simp [bits_setBits_out, bits_setBits, hmod]

/-- A handler starts with EXL set and interrupts off. -/
theorem exl_ie_handlerPsw (psw : Word) (level : Nat) :
    (handlerPsw psw level).getLsbD 3 = true ∧ (handlerPsw psw level).getLsbD 2 = false := by
  unfold handlerPsw
  split <;> simp [getLsbD_setBits, -BitVec.getLsbD_eq_getElem]

/-- What the unit of an entry to D is left with (R295). -/
theorem unit_enterD {s : State} {u : Nat} (e : Exc) (hlevel : ¬((archOf s u).level = 2 ∧ (archOf s u).exl = true))
    (hres : (archOf s u).win.resident < 16) : let a := archOf s u
    (s.enterD u e).unit u = { s.unit u with
      wait := .none
      arch := { a with
        win := a.win.push none, pc := a.sr.dvba + BitVec.ofNat 32 (0x40 * e.code), link := none
        sr := { a.sr with depc := a.pc, depsw := a.sr.psw, deispc := a.sr.ispc, decause := e.cause a.level a.txn
                          deaddr := BitVec.ofNat 32 e.addr, psw := handlerPsw a.sr.psw 2, ispc := 0 } } } := by
  rw [State.enterD, if_neg hlevel, unit_inHandler _ _ hres]

/-- What the unit of an entry to E is left with (R295). -/
theorem unit_enterE {s : State} {u : Nat} (e : Exc) (hres : (archOf s u).win.resident < 16) : let a := archOf s u
    (s.enterE u e).unit u = { s.unit u with
      wait := .none
      arch := { a with
        win := a.win.push none, pc := a.sr.evba + BitVec.ofNat 32 (0x40 * e.code), link := none
        sr := { a.sr with epc := a.pc, epsw := a.sr.psw, eispc := a.sr.ispc, ecause := e.cause a.level a.txn
                          eaddr := BitVec.ofNat 32 e.addr, psw := handlerPsw a.sr.psw 1
                          ispc := BitVec.ofNat 32 ((s.unit u).execPlot * 256 + 0xFE) } } } := by
  rw [State.enterE, unit_inHandler _ _ hres]

theorem takeExc_mcheck (s : State) (u sub : Nat) :
    s.takeExc u (Exc.later exMcheck sub) = s.enterD u (Exc.later exMcheck sub) := by
  rw [State.takeExc, if_pos (by simp [toD, Exc.later])]

/-- An interrupt of a unit outside a handler whose plot has an executive goes to E. -/
theorem takeExc_interrupt {s : State} {u : Nat} (sub : Nat) (hu : u < 192) (hexl : (archOf s u).exl = false)
    (hres : (archOf s u).win.resident < 16) (hexec : s.hasExec u = true) :
    s.takeExc u (Exc.later exInterrupt sub) = s.enterE u (Exc.later exInterrupt sub) := by
  have hblock : (archOf s u).spillBlocked = false := by simp [Arch.spillBlocked, Nat.not_le.2 hres]
  rw [State.takeExc, if_neg (by simp [toD, Exc.later, exInterrupt, exDcall, exMcheck, exDouble, Nat.ne_of_lt hu]),
    if_neg (by simp [hexl, hblock, hexec])]

/-! ## Each input -/

/-- A unit whose latch has nothing pending any more. -/
def CoreUnit.quieted (x : CoreUnit) : CoreUnit := { x with latch := quiet }

section

variable {s : State} {u : Nat} (hr : running s u)

include hr

theorem tick_acts {e : Nat} (hl : (s.unit u).latch = { quiet with tick := some e }) :
    s.actInputs u = s.mapUnit u CoreUnit.quieted := by
  have hfirst : s.actFirst u = s.mapUnit u CoreUnit.quieted := by
    rw [actFirst_eq (by rw [hl]; rfl)]
    simp only [State.mapUnit, CoreUnit.quieted, hl, quiet]
  obtain ⟨-, -, hwait, -⟩ := id hr
  rw [actInputs_due hr (by simp [CoreUnit.inputDue, hl]), hfirst]
  exact actRest_eq (by rw [unit_mapUnit_same]; exact hwait) (by rw [unit_mapUnit_same]; rfl)

/-- An MCHECK enters its handler at D, in a unit as it was but for the latch. -/
theorem mcheck_acts {sub : Nat} (hl : (s.unit u).latch = { quiet with mcheck := some sub })
    (hlevel : ¬((archOf s u).level = 2 ∧ (archOf s u).exl = true)) (hres : (archOf s u).win.resident < 16) :
    ∃ y : State, y.unit u = (s.unit u).quieted ∧ s.actInputs u = y.enterD u (Exc.later exMcheck sub) := by
  obtain ⟨y, hy, hfirst⟩ : ∃ y : State, y.unit u = (s.unit u).quieted ∧
      s.actFirst u = y.enterD u (Exc.later exMcheck sub) := by
    refine ⟨(s.mapUnit u fun x => { x with latch := { x.latch with tick := none } }).mapUnit u fun x =>
      { x with latch := { x.latch with mcheck := none } }, ?_, ?_⟩
    · simp [CoreUnit.quieted, hl, quiet]
    · simp only [State.actFirst, unit_mapUnit_same, hl, takeExc_mcheck]
  have hin := unit_enterD (s := y) (u := u) (Exc.later exMcheck sub) (by rw [archOf, hy]; exact hlevel)
      (by rw [archOf, hy]; exact hres)
  refine ⟨y, hy, ?_⟩
  rw [actInputs_due hr (by simp [CoreUnit.inputDue, hl]), hfirst]
  exact actRest_eq (by rw [hin]) (by rw [hin, hy]; rfl)

/-- With neither a tick nor an MCHECK nor an end of the transaction pending, an interrupt and a halt remain. -/
theorem actInputs_late (hd : (s.unit u).inputDue = true) (hm : (s.unit u).latch.mcheck = none)
    (ht : (s.unit u).latch.tick = none) (he : (s.unit u).latch.ends = []) : ∃ z : State,
    z.unit u = s.unit u ∧ z.plots = s.plots ∧ s.actInputs u = (z.actInterrupt u).actHalt u := by
  obtain ⟨hz, hplots⟩ := actFirst_nothing hm ht
  obtain ⟨-, -, hwait, -⟩ := id hr
  refine ⟨s.actFirst u, hz, hplots, ?_⟩
  rw [actInputs_due hr hd, actEnd_eq (by rw [hz]; exact hwait) (by rw [hz]; exact he)]

/-- An interrupt enters its handler at E, in a unit as it was but for the latch. -/
theorem interrupt_acts {eng : Bool} (hu : u < 192) (hl : (s.unit u).latch = { quiet with engine := eng, doorbell := !eng })
    (hie : (archOf s u).ie = true) (hexl : (archOf s u).exl = false) (hexec : s.hasExec u = true)
    (hres : (archOf s u).win.resident < 16) : ∃ y : State, y.unit u = (s.unit u).quieted ∧
      s.actInputs u = y.enterE u (Exc.later exInterrupt (if eng then 1 else 2)) := by
  obtain ⟨hrun, -⟩ := id hr
  obtain ⟨z, hz, hplots, hact⟩ := actInputs_late hr (by cases eng <;> simp [CoreUnit.inputDue, hl, hie])
    (by rw [hl]; rfl) (by rw [hl]; rfl) (by rw [hl]; rfl)
  let y := z.mapUnit u fun x =>
    { x with latch := if x.latch.engine then { x.latch with engine := false } else { x.latch with doorbell := false } }
  have hy : y.unit u = (s.unit u).quieted := by
    rw [unit_mapUnit_same, hz, hl]
    cases eng <;> rfl
  have hyexec : y.hasExec u = true := by
    rw [State.hasExec, hy, State.plot, show y.plots = s.plots from hplots]
    exact hexec
  have hin := unit_enterE (s := y) (u := u) (Exc.later exInterrupt (if eng then 1 else 2))
      (by rw [archOf, hy]; exact hres)
  have hint : z.actInterrupt u = y.enterE u (Exc.later exInterrupt (if eng then 1 else 2)) := by
    rw [← takeExc_interrupt _ hu (by rw [archOf, hy]; exact hexl) (by rw [archOf, hy]; exact hres) hyexec, State.actInterrupt]
    simp only [hz]
    rw [if_neg (by cases eng <;> simp [hl, hrun, quiet]), if_pos hie]
    cases eng <;> simp only [hl, if_true, if_false, Bool.false_eq_true] <;> rfl
  exact ⟨y, hy, by rw [hact, hint, actHalt_eq (by rw [hin, hy]; rfl)]⟩

/-- A halt stops the pair of a unit as it was but for the latch. -/
theorem halt_acts (hl : (s.unit u).latch = { quiet with halt := true }) : ∃ y : State,
    y.unit u = (s.unit u).quieted ∧ s.actInputs u = y.haltPair (pairOf u) .request 0 := by
  obtain ⟨z, hz, -, hact⟩ := actInputs_late hr (by simp [CoreUnit.inputDue, hl]) (by rw [hl]; rfl) (by rw [hl]; rfl)
    (by rw [hl]; rfl)
  refine ⟨z.mapUnit u fun x => { x with latch := { x.latch with halt := false } }, ?_, ?_⟩
  · rw [unit_mapUnit_same, hz, hl]; rfl
  · rw [hact, actInterrupt_eq (by rw [hz, hl]; rfl) (by rw [hz, hl]; rfl), State.actHalt, if_pos (by rw [hz, hl])]

/-- At its MCHECK handler a unit's transaction ends as by ABORT.F (R299, log entry 112). -/
theorem handler_acts (hu : u < 192) (hl : (s.unit u).latch = quiet) (hat : (archOf s u).atHandler exMcheck = true)
    (hdr : s.drained u = true) :
    s.actInputs u = (s.event (pairOf u) 2 (detail noKind (s.unit u).execPlot 0)).abortWith u 0x1004 := by
  rw [actInputs_quiet hr hl]
  simp only [State.firmware, hat, if_true, Nat.ne_of_lt hu, if_false, hdr, Bool.not_true, Bool.false_eq_true]

end

/-- A unit that is not halted is halted with its pair. -/
theorem unit_haltPair {s : State} {u : Nat} (cause : HaltCause) (hits : Nat) (h : (s.unit u).halted = false) :
    (s.haltPair (pairOf u) cause hits).unit u = { s.unit u with
      halted := true, haltFrom := s.timeBase, stepping := false, latch := { (s.unit u).latch with tick := none } } := by
  have hpair (t : State) (p : Nat) (f : Pair → Pair) : (t.mapPair p f).unit u = t.unit u := rfl
  rw [State.haltPair, hpair]
  rcases Nat.mod_two_eq_zero_or_one u with heven | hodd
  · rw [unit_mapUnit_other _ _ (by unfold pairOf; omega), show 2 * pairOf u = u by unfold pairOf; omega, unit_mapUnit_same]
    simp only [h, Bool.false_eq_true, if_false]
  · rw [show 2 * pairOf u + 1 = u by unfold pairOf; omega, unit_mapUnit_same, unit_mapUnit_other _ _ (by unfold pairOf; omega)]
    simp only [h, Bool.false_eq_true, if_false]

theorem stop_haltPair (s : State) (p : Nat) (cause : HaltCause) (hits : Nat) :
    ((s.haltPair p cause hits).pair p).stop = some cause := by
  rw [State.haltPair, pair_mapPair_same]

/-- A budget that has run out reaches the latch (R69). -/
theorem ends_budgetExpire {s : State} {u t : Nat} (hr : running s u) (htxn : (s.unit u).txn.isSome = true)
    (hcore : (s.unit u).coreFrom.isSome = true) (hover : (s.unit u).budget < (s.advance t).coreTime u) {p : State → Prop}
    (h : p ((s.advance t).endInput u .budget)) : Ends (.budgetExpire t u) s p := by
  obtain ⟨-, hhalt, -, hsafe, -⟩ := hr
  have hsafe' : (s.advance t).safe = false := hsafe
  refine ⟨_, ?_, h⟩
  change execBudgetExpire t u s = _
  simp [execBudgetExpire, htxn, hcore, hhalt, hover, hsafe']

/-- Settles O31: the inputs act one by one. What D firmware does of a machine check in the same step is log entry 112. -/
theorem inputsAtBoundary : Obligations.InputsAtBoundary := by
  refine fun s u hr hu => ⟨fun e hl => ends_async hu ?_, fun sub hl hlevel hres => ends_async hu ?_,
    fun eng hl hie hexl hexec hres => ends_async hu ?_, fun hl hat hdr => ends_async hu (handler_acts hr hu hl hat hdr),
    fun hl => ends_async hu ?_, fun t hl htxn hcore hover => ends_budgetExpire hr htxn hcore hover ?_⟩
  · rw [tick_acts hr hl]
    exact ⟨unit_mapUnit_same s u _, fun v hv => unit_mapUnit_other s _ hv, rfl⟩
  · obtain ⟨y, hy, hact⟩ := mcheck_acts hr hl hlevel hres
    have hin := unit_enterD (s := y) (u := u) (Exc.later exMcheck sub) (by rw [archOf, hy]; exact hlevel)
      (by rw [archOf, hy]; exact hres)
    obtain ⟨hexl, hie⟩ := exl_ie_handlerPsw (archOf s u).sr.psw 2
    rw [hact]
    simp only [archOf, hin, hy]
    exact ⟨rfl, rfl, rfl, rfl, rfl, rfl, level_handlerPsw _ (by decide), hexl, hie, rfl⟩
  · obtain ⟨y, hy, hact⟩ := interrupt_acts hr hu hl hie hexl hexec hres
    have hin := unit_enterE (s := y) (u := u) (Exc.later exInterrupt (if eng then 1 else 2))
      (by rw [archOf, hy]; exact hres)
    obtain ⟨hexl', hie'⟩ := exl_ie_handlerPsw (archOf s u).sr.psw 1
    rw [hact]
    simp only [archOf, hin, hy]
    exact ⟨rfl, rfl, rfl, rfl, rfl, rfl, level_handlerPsw _ (by decide), hexl', hie', rfl⟩
  · obtain ⟨y, hy, hact⟩ := halt_acts hr hl
    obtain ⟨-, hhalt, -⟩ := id hr
    rw [hact, archOf, unit_haltPair _ _ (by rw [hy]; exact hhalt), hy]
    exact ⟨rfl, rfl, rfl, stop_haltPair y _ _ _⟩
  · refine ⟨?_, fun v hv => unit_mapUnit_other _ _ hv, rfl⟩
    rw [State.endInput, unit_mapUnit_same, unit_of_advance, hl]
    rfl

end Sys2Proof.Machine
end

section
/-! SUPPORT. A slice of the stake table: what it reads, what an entry written changes, and what wounds leave alone. -/

namespace Sys2Proof.Machine

open Sys2Proof Sys2Proof.Stated

/-! ## What a slice reads -/

/-- The registers that a slice and its messages read. -/
def tableRegs : List Nat :=
  [Reg.STK_CFG, Reg.STK_HASHSEED, Reg.STK_BASE_LO, Reg.STK_BASE_HI, Reg.STK_STATUS, Reg.STK_ERR, Reg.WFT_DEVID]

/-- Two states have the same stake table: its entries and the registers that a slice reads. -/
structure SameTable (s t : State) : Prop where
  entries : t.stakes.entries = s.stakes.entries
  regs    : ∀ o ∈ tableRegs, t.reg o = s.reg o

namespace SameTable

variable {s t : State} (h : SameTable s t)

include h

theorem devId : t.devId = s.devId := by
  simp only [State.devId, State.fld, h.regs Reg.WFT_DEVID (by simp [tableRegs])]

theorem base : t.reg64 Reg.STK_BASE_LO = s.reg64 Reg.STK_BASE_LO := by
  simp only [State.reg64, h.regs Reg.STK_BASE_LO (by simp [tableRegs]), h.regs (Reg.STK_BASE_LO + 4) (by simp [tableRegs, Reg.STK_BASE_LO, Reg.STK_BASE_HI])]

theorem cfg (hi lo : Nat) : t.fld Reg.STK_CFG hi lo = s.fld Reg.STK_CFG hi lo := by
  simp only [State.fld, h.regs Reg.STK_CFG (by simp [tableRegs])]

theorem stakeHash (ns key : Nat) : t.stakeHash ns key = s.stakeHash ns key := by
  simp only [State.stakeHash, h.regs Reg.STK_HASHSEED (by simp [tableRegs])]

theorem homeBucket (ns key : Nat) : t.homeBucket ns key = s.homeBucket ns key := by
  simp only [State.homeBucket, h.stakeHash]

theorem window (ns key : Nat) : t.window ns key = s.window ns key := by
  simp only [State.window, h.cfg, h.homeBucket]

theorem stakeEntry (slice ns key : Nat) : t.stakeEntry slice ns key = s.stakeEntry slice ns key := by
  simp only [State.stakeEntry, h.window, h.entries]

theorem entryOf (slice ns key : Nat) (who : Party) : t.entryOf slice ns key who = s.entryOf slice ns key who := by
  simp only [State.entryOf, h.stakeEntry, h.entries]

theorem freeWay (slice ns key : Nat) : t.freeWay slice ns key = s.freeWay slice ns key := by
  simp only [State.freeWay, h.window, h.entries]

theorem occupied (slice : Nat) : t.occupied slice = s.occupied slice := by simp only [State.occupied, h.entries]

theorem highWater : t.highWater = s.highWater := by simp only [State.highWater, h.cfg]

theorem wayAddr (slice bucket way : Nat) : t.wayAddr slice bucket way = s.wayAddr slice bucket way := by
  simp only [State.wayAddr, h.base]

end SameTable

/-- A slice has taken a message and counted its operation. -/
def State.sliceTakes (s : State) (i : Nat) (m : SliceMsg) : State :=
  (s.mapStakes fun k => { k with msgs := k.msgs.erase m }).countOp i

/-- No counter of a slice is a register that slices read. -/
theorem ne_of_tableRegs {o : Nat} (ho : o ∈ tableRegs) : o < 0x180400 ∨ 0x180800 ≤ o := by
  revert o
  decide

theorem reg_countOp (s : State) {i o : Nat} (hi : i < 16) (ho : o ∈ tableRegs) : (s.countOp i).reg o = s.reg o := by
  have hne := ne_of_tableRegs ho
  have hops : sliceReg Reg.STK_OPS_LO i = 0x180418 + 0x20 * i := rfl
  rw [State.countOp, reg_setReg64, if_neg (by omega), if_neg (by omega)]

theorem sameTable_sliceTakes (s : State) {i : Nat} (m : SliceMsg) (hi : i < 16) : SameTable s (s.sliceTakes i m) :=
  ⟨rfl, fun _ ho => reg_countOp _ hi ho⟩

/-! ## An entry written -/

@[simp] theorem length_bytes_entry (e : StakeEntry) (own : Nat) : (e.bytes own).length = 16 := by simp [StakeEntry.bytes]

/-- An entry with a holder stands in the table with its bytes. -/
theorem putEntry_holds {s : State} {e : StakeEntry} (h : e.holders ≠ []) :
    e ∈ (s.putEntry e).stakes.entries ∧
      (s.putEntry e).bytes (s.wayAddr e.slice e.bucket e.way) 16 = e.bytes s.devId := by
  have hne : ¬e.holders.isEmpty = true := by simpa using h
  rw [State.putEntry, if_neg hne]
  exact ⟨by simp, bytes_setBytes _ _ (by simp)⟩

/-- An entry without a holder is FREE. -/
theorem putEntry_free {s : State} {e : StakeEntry} (h : e.holders = []) :
    (∀ f ∈ (s.putEntry e).stakes.entries, ¬(f.slice = e.slice ∧ f.bucket = e.bucket ∧ f.way = e.way)) ∧
      (s.putEntry e).bytes (s.wayAddr e.slice e.bucket e.way) 16 = zeros 16 := by
  rw [State.putEntry, if_pos (by simp [h])]
  refine ⟨fun f hf => ?_, bytes_setBytes _ _ (by simp [zeros])⟩
  simp only [setBytes_stakes, mapStakes_stakes, List.mem_filter] at hf
  rintro ⟨hs, hb, hw⟩
  simp [hs, hb, hw] at hf

/-- An entry written changes the entries and bytes of memory. -/
theorem putEntry_stakes (s : State) (e : StakeEntry) :
    (s.putEntry e).stakes = { s.stakes with entries := (s.putEntry e).stakes.entries } := by
  unfold State.putEntry
  dsimp only
  split <;> simp

theorem putEntry_ctl (s : State) (e : StakeEntry) : (s.putEntry e).ctl = s.ctl := by
  unfold State.putEntry
  dsimp only
  split <;> simp

theorem putEntry_sower (s : State) (e : StakeEntry) : (s.putEntry e).sower = s.sower := by
  unfold State.putEntry
  dsimp only
  split <;> simp

/-! ## Wounds -/

/-- What sending wounds leaves alone: but for wounds added, registers that no slice reads and frames that leave, nothing
changes. -/
structure Wounds (s t : State) : Prop where
  wounds  : ∀ w ∈ s.stakes.wounds, w ∈ t.stakes.wounds
  stakes  : t.stakes = { s.stakes with wounds := t.stakes.wounds }
  sower   : t.sower = s.sower
  regs    : ∀ o ∈ tableRegs, t.reg o = s.reg o
  mem     : t.mem = s.mem

theorem Wounds.refl (s : State) : Wounds s s := ⟨fun _ h => h, rfl, rfl, fun _ _ => rfl, rfl⟩

theorem Wounds.trans {s t r : State} (h : Wounds s t) (g : Wounds t r) : Wounds s r :=
  ⟨fun w hw => g.wounds w (h.wounds w hw), by rw [g.stakes, h.stakes], g.sower.trans h.sower,
    fun o ho => (g.regs o ho).trans (h.regs o ho), g.mem.trans h.mem⟩

theorem Wounds.sameTable {s t : State} (h : Wounds s t) : SameTable s t := ⟨by rw [h.stakes], h.regs⟩

theorem Wounds.tslot {s t : State} (h : Wounds s t) (n : Nat) : t.tslot n = s.tslot n := by
  simp only [State.tslot, h.sower]

theorem Wounds.foldl {α : Type} {f : State → α → State} (h : ∀ s x, Wounds s (f s x)) (s : State) (l : List α) :
    Wounds s (l.foldl f s) := by
  induction l generalizing s with
  | nil => exact Wounds.refl s
  | cons x l ih => exact (h s x).trans (ih (f s x))

/-- What one element of a loop of wounds sends remains sent. -/
theorem Wounds.foldl_mem {α : Type} {f : State → α → State} (h : ∀ s x, Wounds s (f s x)) (s : State) {l : List α} {x : α}
    (hx : x ∈ l) {w : Wound} (hw : ∀ t, Wounds s t → w ∈ (f t x).stakes.wounds) : w ∈ (l.foldl f s).stakes.wounds := by
  induction l generalizing s with
  | nil => simp at hx
  | cons y l ih =>
    rcases List.mem_cons.1 hx with rfl | hx
    · exact (Wounds.foldl h (f s x) l).wounds w (hw s (Wounds.refl s))
    · exact ih (f s y) hx fun t ht => hw t ((h s y).trans ht)

theorem wounds_weftSend (s : State) (dst kind : Nat) (b : List Byte) : Wounds s (s.weftSend dst kind b) := by
  unfold State.weftSend
  split
  · exact Wounds.refl s
  · split
    · exact ⟨fun _ h => h, rfl, rfl, fun _ _ => rfl, rfl⟩
    · refine ⟨fun _ h => h, rfl, rfl, fun o ho => reg_setBit_other s _ _ ?_, rfl⟩
      rintro rfl
      exact absurd ho (by decide)

theorem wounds_lateWound (s : State) (slice : Nat) : Wounds s (s.lateWound slice) := by
  unfold State.lateWound
  split
  · next h =>
    refine ⟨fun _ h => h, rfl, rfl, fun o ho => reg_count_other s _ ?_, rfl⟩
    have hne := ne_of_tableRegs ho
    have hcnt : sliceReg Reg.STK_CNT_WOUND slice = 0x18040C + 0x20 * slice := rfl
    omega
  · exact Wounds.refl s

theorem wounds_woundLocal (s : State) (slice : Nat) (p : Party) : Wounds s (s.woundLocal slice p) := by
  unfold State.woundLocal
  split
  · split
    · exact ⟨fun w hw => List.mem_append_left _ hw, rfl, rfl, fun _ _ => rfl, rfl⟩
    · exact wounds_lateWound s slice
  · exact wounds_lateWound s slice

theorem wounds_sendWound (s : State) (slice ns key : Nat) (p : Party) : Wounds s (s.sendWound slice ns key p) := by
  unfold State.sendWound
  split
  · exact wounds_woundLocal s slice p
  · exact wounds_weftSend s _ _ _

theorem wounds_woundByKey (s : State) (slice home ns key : Nat) (who : Party) : Wounds s (s.woundByKey slice home ns key who) := by
  refine Wounds.foldl (fun s r => ?_) s _
  dsimp only
  split
  · split
    · exact wounds_woundLocal s _ _
    · exact Wounds.refl s
  · exact Wounds.refl s

theorem wounds_woundSharers (s : State) (e : StakeEntry) (who : Party) : Wounds s (s.woundSharers e who) :=
  (wounds_woundByKey s _ _ _ _ who).trans (Wounds.foldl (fun s d => wounds_weftSend s d _ _) _ _)

theorem wounds_woundHolders (s : State) (e : StakeEntry) (who : Party) (excl : Bool) : Wounds s (s.woundHolders e who excl) := by
  unfold State.woundHolders
  dsimp only
  split
  · exact Wounds.foldl (fun s p => wounds_sendWound s _ _ _ p) s _
  · split
    · exact Wounds.refl s
    · exact wounds_woundSharers s e who

/-- The attempt that a party names still has its slot. -/
def State.runs (s : State) (p : Party) (k : TSlot) : Prop :=
  s.tslot p.slot = some k ∧ k.stamp = p.stamp ∧ k.seq = p.seq ∧ k.attempt = p.attempt

/-- A wound of an attempt that runs sets out. -/
theorem woundLocal_sends {s : State} {p : Party} {k : TSlot} (slice : Nat) (h : s.runs p k) :
    { slot := p.slot, attempt := k.attempt, slice := slice } ∈ (s.woundLocal slice p).stakes.wounds := by
  obtain ⟨hk, hrest⟩ := h
  simp only [State.woundLocal, hk, if_pos hrest, mapStakes_stakes]
  simp

theorem sendWound_sends {s : State} {p : Party} {k : TSlot} (slice ns key : Nat) (hdev : p.dev = s.devId) (h : s.runs p k) :
    { slot := p.slot, attempt := k.attempt, slice := slice } ∈ (s.sendWound slice ns key p).stakes.wounds := by
  rw [State.sendWound, if_pos hdev]
  exact woundLocal_sends slice h

theorem Wounds.runs {s t : State} (h : Wounds s t) {p : Party} {k : TSlot} (hk : s.runs p k) : t.runs p k := by
  rwa [State.runs, h.tslot]

/-- A party of this device is what its slot says of it. -/
theorem party_of_runs {s : State} {p : Party} {k : TSlot} (hdev : p.dev = s.devId) (hk : s.runs p k) (hslot : k.slot = p.slot) :
    s.partyOf k = p := by
  obtain ⟨-, hstamp, hseq, hatt⟩ := hk
  cases p
  simp_all [State.partyOf]

/-- A wound by key reaches a younger holder that the stake cache of this device names. -/
theorem woundByKey_sends {s : State} {slice ns key : Nat} {who p : Party} {k : TSlot} {r : StakeRec}
    (hr : s.stakeRec p.slot ns key = some r) (hhome : r.home = s.devId) (hheld : r.held.isSome = true)
    (hsame : p.same who = false) (hold : who.older p = true) (hdev : p.dev = s.devId) (hk : s.runs p k)
    (hslot : k.slot = p.slot) :
    { slot := p.slot, attempt := k.attempt, slice := slice } ∈ (s.woundByKey slice s.devId ns key who).stakes.wounds := by
  obtain ⟨hrs, hns, hkey⟩ := named_of_stakeRec hr
  have hmem : r ∈ s.stakes.recs.filter fun r => r.ns = ns ∧ r.key = key ∧ r.home = s.devId ∧ r.held.isSome := by
    simp [List.mem_of_find?_eq_some hr, hns, hkey, hhome, hheld]
  refine Wounds.foldl_mem (fun t r => ?_) s hmem fun t ht => ?_
  · dsimp only
    split
    · split
      · exact wounds_woundLocal t _ _
      · exact Wounds.refl t
    · exact Wounds.refl t
  · have hp : t.partyOf k = p := party_of_runs (hdev.trans ht.sameTable.devId.symm) (ht.runs hk) hslot
    have hkt : t.tslot r.slot = some k := by rw [hrs]; exact (ht.runs hk).1
    unfold State.partyOf at hp
    simp only [hkt, hp, hsame, hold, Bool.not_false, Bool.and_self, if_true]
    exact woundLocal_sends slice (ht.runs hk)

/-- A request in conflict wounds a younger holder of this device (R105). -/
theorem woundHolders_sends {s : State} {e : StakeEntry} {who p : Party} {excl : Bool} {k : TSlot} (hconf : (excl || e.excl) = true)
    (hp : p ∈ e.holders) (hsame : p.same who = false) (hold : who.older p = true) (hdev : p.dev = s.devId) (hk : s.runs p k)
    (hslot : k.slot = p.slot)
    (hrec : e.excl = false → ∃ r, s.stakeRec p.slot e.ns e.key = some r ∧ r.home = s.devId ∧ r.held.isSome = true) :
    { slot := p.slot, attempt := k.attempt, slice := e.slice } ∈ (s.woundHolders e who excl).stakes.wounds := by
  have hyoung : p ∈ e.woundable who excl := by simp [StakeEntry.woundable, hconf, hp, hsame, hold]
  unfold State.woundHolders
  by_cases hx : e.excl = true
  · simp only [hx, if_true]
    exact Wounds.foldl_mem (fun t q => wounds_sendWound t _ _ _ q) s hyoung fun t ht =>
      sendWound_sends _ _ _ (hdev.trans ht.sameTable.devId.symm) (ht.runs hk)
  · obtain ⟨r, hr, hhome, hheld⟩ := hrec (by simpa using hx)
    have hne : ¬(e.woundable who excl).isEmpty = true := by
      simpa [List.isEmpty_iff] using List.ne_nil_of_mem hyoung
    simp only [hx, hne, Bool.false_eq_true, if_false]
    exact (Wounds.foldl (fun t d => wounds_weftSend t d _ _) _ _).wounds _
      (woundByKey_sends hr hhome hheld hsame hold hdev hk hslot)

end Sys2Proof.Machine
end

section
/-! OBLIGATIONS. The slices of the stake table, the answers and wounds at the units, the clear of the table (O33). -/

namespace Sys2Proof.Machine

open Sys2Proof Sys2Proof.Stated

/-! ## A slice decides -/

/-- An entry with one more waiting request. -/
def StakeEntry.queue (e : StakeEntry) (who : Party) (excl : Bool) : StakeEntry :=
  { e with waiters := e.waiters ++ [{ who := who, excl := excl }] }

section

variable {s z : State} {i ns key : Nat} {who : Party} {x : Bool} (hz : s.countOp i = z) (hdev : who.dev = z.devId)

include hz hdev

theorem sliceDecide_free {b w : Nat} (hnone : z.stakeEntry i ns key = none) (hocc : z.occupied i < z.highWater)
    (hway : z.freeWay i ns key = some (b, w)) : s.sliceDecide i who ns key x = (z.putEntry
      { slice := i, bucket := b, way := w, ns := ns, key := key, excl := x, holders := [who], waiters := [], hdev := who.dev
        hslot := who.slot }, some stGranted) := by
  simp [State.sliceDecide, hz, hnone, Nat.not_le.2 hocc, hway, hdev]

variable {e : StakeEntry} (he : z.stakeEntry i ns key = some e)

include he

theorem sliceDecide_grant (hold : (e.waiters.any fun w => w.who.older who) = false) (hc : e.compatible who x = true) :
    s.sliceDecide i who ns key x = (z.putEntry (e.grant who x), some (e.grantCode who)) := by
  simp [State.sliceDecide, hz, he, hold, hc, hdev]

theorem sliceDecide_queue (hc : e.compatible who x = false) : s.sliceDecide i who ns key x =
    ((z.putEntry (e.queue who x)).woundHolders e who x, none) := by
  simp [State.sliceDecide, StakeEntry.queue, hz, he, hc, hdev]

end

/-- A slice's answer to a request of this device is on its way to the stake cache. -/
theorem answerRequest_some {s : State} (ns key code : Nat) {p : Party} (h : p.dev = s.devId) :
    s.answerRequest ns key (some code) p = s.mapStakes fun k =>
      { k with grants := k.grants ++ [{ slot := p.slot, ns := ns, key := key, code := code }] } := by
  simp [State.answerRequest, State.sendGrant, h]

theorem answerRequest_none {s : State} (ns key : Nat) {p : Party} (h : p.dev = s.devId) : s.answerRequest ns key none p = s := by
  simp [State.answerRequest, h]

/-- The entry that a slice shows for a record is of that slice and record. -/
theorem names_of_stakeEntry {s : State} {slice ns key : Nat} {e : StakeEntry} (h : s.stakeEntry slice ns key = some e) :
    e.slice = slice ∧ e.ns = ns ∧ e.key = key := by
  have := List.find?_some h
  simp only [StakeEntry.names, Bool.and_eq_true, beq_iff_eq] at this
  obtain ⟨⟨⟨hs, hn⟩, hk⟩, -⟩ := this
  exact ⟨hs, hn, hk⟩

theorem names_of_entryOf {s : State} {slice ns key : Nat} {who : Party} {e : StakeEntry}
    (h : s.entryOf slice ns key who = some e) : e.slice = slice ∧ e.ns = ns ∧ e.key = key := by
  unfold State.entryOf at h
  rcases Option.or_eq_some_iff.1 h with h | ⟨-, h⟩
  · exact names_of_stakeEntry (Option.filter_eq_some_iff.1 h).1
  · have := List.find?_some h
    simp only [StakeEntry.names, Bool.and_eq_true, beq_iff_eq] at this
    obtain ⟨⟨⟨hs, hn⟩, hk⟩, -⟩ := this
    exact ⟨hs, hn, hk⟩

theorem devId_of_ctl {s t : State} (h : t.ctl = s.ctl) : t.devId = s.devId := by
  simp only [State.devId, State.fld, State.reg, h]

/-- The state in which a slice has granted a request of this device in an entry. -/
theorem grant_entered {s : State} {e : StakeEntry} {ns key code : Nat} {p : Party} (hh : e.holders ≠ []) (h : p.dev = s.devId) :
    let t := (s.putEntry e).answerRequest ns key (some code) p
    e ∈ t.stakes.entries ∧ t.stakes.msgs = s.stakes.msgs ∧
      t.bytes (s.wayAddr e.slice e.bucket e.way) 16 = e.bytes s.devId ∧
      t.stakes.grants = s.stakes.grants ++ [{ slot := p.slot, ns := ns, key := key, code := code }] := by
  have hdev : p.dev = (s.putEntry e).devId := h.trans (devId_of_ctl (putEntry_ctl s e)).symm
  obtain ⟨hmem, hbytes⟩ := putEntry_holds (s := s) hh
  intro t
  have ht : t = (s.putEntry e).mapStakes fun k =>
    { k with grants := k.grants ++ [{ slot := p.slot, ns := ns, key := key, code := code }] } := answerRequest_some _ _ _ hdev
  rw [ht]
  exact ⟨hmem, by rw [mapStakes_stakes, putEntry_stakes], hbytes, by rw [mapStakes_stakes, putEntry_stakes]⟩

section

variable {s : State} {i : Nat} {m : SliceMsg} (hi : i < 16) (hm : s.sliceMsg i = some m) (hr : s.stakesReady = true)

include hm hr

theorem ends_sliceRequest {x : Bool} {t : State} {code : Option Nat} {p : State → Prop} (hop : m.op = .request x)
    (hd : (s.mapStakes fun k => { k with msgs := k.msgs.erase m }).sliceDecide i m.who m.ns m.key x = (t, code))
    (h : p (t.answerRequest m.ns m.key code m.who)) : Ends (.sliceRequest i none) s p := by
  refine ⟨_, ?_, h⟩
  change execSliceRequest i none s = _
  simp [execSliceRequest, hm, hop, hr, State.badBucket, hd]

/-! ## Requests -/

section

variable (hdev : m.who.dev = s.devId) {x : Bool} (hop : m.op = .request x)

include hi hdev hop

theorem sliceRequest_free {b w : Nat} (hnone : s.stakeEntry i m.ns m.key = none) (hocc : s.occupied i < s.highWater)
    (hway : s.freeWay i m.ns m.key = some (b, w)) : Ends (.sliceRequest i none) s fun t =>
      let e : StakeEntry := { slice := i, bucket := b, way := w, ns := m.ns, key := m.key, excl := x, holders := [m.who]
                              waiters := [], hdev := m.who.dev, hslot := m.who.slot }
      e ∈ t.stakes.entries ∧ t.stakes.msgs = s.stakes.msgs.erase m ∧ t.bytes (s.wayAddr i b w) 16 = e.bytes s.devId ∧
      t.stakes.grants = s.stakes.grants ++ [{ slot := m.who.slot, ns := m.ns, key := m.key, code := 0 }] := by
  have same := sameTable_sliceTakes s m hi
  have hd : m.who.dev = (s.sliceTakes i m).devId := hdev.trans same.devId.symm
  have hocc' : (s.sliceTakes i m).occupied i < (s.sliceTakes i m).highWater := by rwa [same.occupied, same.highWater]
  refine ends_sliceRequest hm hr hop (sliceDecide_free rfl hd ((same.stakeEntry ..).trans hnone) hocc'
    ((same.freeWay ..).trans hway)) ?_
  intro e
  have hin := grant_entered (s := s.sliceTakes i m) (e := e) (ns := m.ns) (key := m.key) (code := stGranted) (by simp [e]) hd
  rw [same.wayAddr, same.devId] at hin
  exact hin

theorem sliceRequest_grant {e : StakeEntry} (he : s.stakeEntry i m.ns m.key = some e)
    (hold : (e.waiters.any fun w => w.who.older m.who) = false) (hc : e.compatible m.who x = true) :
    Ends (.sliceRequest i none) s fun t =>
      e.grant m.who x ∈ t.stakes.entries ∧ m.who ∈ (e.grant m.who x).holders ∧ (e.grant m.who x).excl = x ∧
      t.stakes.msgs = s.stakes.msgs.erase m ∧ t.stakes.grants =
        s.stakes.grants ++ [{ slot := m.who.slot, ns := m.ns, key := m.key, code := e.grantCode m.who }] := by
  have same := sameTable_sliceTakes s m hi
  have hd : m.who.dev = (s.sliceTakes i m).devId := hdev.trans same.devId.symm
  have hwho : m.who ∈ (e.grant m.who x).holders := by simp [StakeEntry.grant]
  refine ends_sliceRequest hm hr hop (sliceDecide_grant rfl hd ((same.stakeEntry ..).trans he) hold hc) ?_
  obtain ⟨hin, hmsgs, -, hgrants⟩ := grant_entered (s := s.sliceTakes i m) (e := e.grant m.who x) (ns := m.ns) (key := m.key)
    (code := e.grantCode m.who) (List.ne_nil_of_mem hwho) hd
  exact ⟨hin, hwho, rfl, hmsgs, hgrants⟩

theorem sliceRequest_queue {e : StakeEntry} (he : s.stakeEntry i m.ns m.key = some e) (hc : e.compatible m.who x = false)
    (hholders : e.holders ≠ []) : Ends (.sliceRequest i none) s fun t =>
      e.queue m.who x ∈ t.stakes.entries ∧ t.stakes.grants = s.stakes.grants ∧
      ((x || e.excl) = true → ∀ h ∈ e.holders, ∀ k, h.same m.who = false → m.who.older h = true → h.dev = s.devId →
        s.tslot h.slot = some k → k.stamp = h.stamp → k.seq = h.seq → k.attempt = h.attempt → k.slot = h.slot →
        (e.excl = false → ∃ r, s.stakeRec h.slot m.ns m.key = some r ∧ r.home = s.devId ∧ r.held.isSome = true) →
        { slot := h.slot, attempt := k.attempt, slice := i } ∈ t.stakes.wounds) := by
  have same := sameTable_sliceTakes s m hi
  obtain ⟨hslice, hns, hkey⟩ := names_of_stakeEntry he
  obtain ⟨z, hz⟩ : ∃ z, z = (s.sliceTakes i m).putEntry (e.queue m.who x) :=
    ⟨_, rfl⟩
  have hstakes : z.stakes = { (s.sliceTakes i m).stakes with entries := z.stakes.entries } := by rw [hz, putEntry_stakes]
  have hzdev : z.devId = s.devId :=
    (devId_of_ctl (by rw [hz, putEntry_ctl]) : z.devId = (s.sliceTakes i m).devId).trans same.devId
  have hin : e.queue m.who x ∈ z.stakes.entries := by rw [hz]; exact (putEntry_holds (e := e.queue m.who x) hholders).1
  have hw := wounds_woundHolders z e m.who x
  have hd := sliceDecide_queue (s := s.mapStakes fun k => { k with msgs := k.msgs.erase m }) (z := s.sliceTakes i m) rfl
    (hdev.trans same.devId.symm) ((same.stakeEntry ..).trans he) hc
  rw [← hz] at hd
  refine ends_sliceRequest hm hr hop hd ?_
  rw [answerRequest_none _ _ ((hdev.trans hzdev.symm).trans hw.sameTable.devId.symm)]
  refine ⟨?_, ?_, fun hconf h hh k hsame hold hhdev hk hstamp hseq hatt hkslot hrec => ?_⟩
  · rw [hw.stakes]
    exact hin
  · rw [hw.stakes, hstakes]
    rfl
  · have hruns : z.runs h k := ⟨by rw [State.tslot, hz, putEntry_sower]; exact hk, hstamp, hseq, hatt⟩
    rw [← hslice]
    refine woundHolders_sends hconf hh hsame hold (hhdev.trans hzdev.symm) hruns hkslot fun hx => ?_
    rw [hzdev, hns, hkey, State.stakeRec, hstakes]
    exact hrec hx

end

end

/-! ## An uncorrectable bucket -/

/-- An uncorrectable bucket is FREE and its error is recorded (R119). -/
theorem bucketError_frees (s : State) (slice ns key j : Nat) (who : Party) :
    (∀ e ∈ (s.bucketError slice ns key j who).stakes.entries,
      ¬(e.slice = slice ∧ e.bucket = (s.homeBucket ns key + j) % 2 ^ 19)) ∧
    (s.bucketError slice ns key j who).bit Reg.STK_ERR 1 = true := by
  unfold State.bucketError
  extract_lets b counted recorded inB hit wounded sent cleared
  have hw : Wounds recorded sent :=
    (Wounds.foldl (fun s e => Wounds.foldl (fun s p => wounds_sendWound s _ _ _ p) s _) recorded hit).trans
      (wounds_sendWound wounded _ _ _ _)
  have hbit : recorded.bit Reg.STK_ERR 1 = true := bit_errEvent _ _ _ _ (by decide) (by decide) (by decide)
  refine ⟨fun e he => ?_, ?_⟩
  · rw [setBytes_stakes] at he
    rintro ⟨hs, hb⟩
    simpa [inB, hs, hb, b] using (List.mem_filter.1 he).2
  · rw [← hbit, State.bit, State.reg, setBytes_ctl]
    exact congrArg (fun w => w.getLsbD 1) (hw.regs Reg.STK_ERR (by simp [tableRegs]))

section

variable {s : State} {i : Nat} {m : SliceMsg} (hm : s.sliceMsg i = some m) (hr : s.stakesReady = true)

include hm hr

theorem sliceRequest_badBucket {x : Bool} {j : Nat} (hop : m.op = .request x) (hj : j < s.fld Reg.STK_CFG 3 0) :
    Ends (.sliceRequest i (some j)) s fun t =>
      (∀ e ∈ t.stakes.entries, ¬(e.slice = i ∧ e.bucket = (s.homeBucket m.ns m.key + j) % 2 ^ 19)) ∧
      t.bit Reg.STK_ERR 1 = true := by
  refine ⟨_, ?_, bucketError_frees (s.mapStakes fun k => { k with msgs := k.msgs.erase m }) i m.ns m.key j m.who⟩
  have hbad : (s.mapStakes fun k => { k with msgs := k.msgs.erase m }).badBucket (some j) = some j :=
    Option.filter_eq_some_iff.2 ⟨rfl, decide_eq_true hj⟩
  change execSliceRequest i (some j) s = _
  simp [execSliceRequest, hm, hop, hr, hbad]

/-! ## Releases -/

/-- An entry that a transaction has left. -/
def StakeEntry.without (e : StakeEntry) (who : Party) : StakeEntry :=
  { e with holders := e.holders.filter fun h => !h.same who, waiters := e.waiters.filter fun w => !w.who.same who }

theorem ends_sliceRelease {p : State → Prop} {e : StakeEntry} (hi : i < 16) (hop : m.op = .release)
    (he : s.entryOf i m.ns m.key m.who = some e)
    (h : p (State.grantWaiters (e.without m.who).waiters.length (s.sliceTakes i m) (e.without m.who))) :
    Ends (.sliceRelease i none) s p := by
  refine ⟨_, ?_, h⟩
  have he' := ((sameTable_sliceTakes s m hi).entryOf i m.ns m.key m.who).trans he
  unfold State.sliceTakes at he' ⊢
  change execSliceRelease i none s = _
  simp [execSliceRelease, hm, hop, hr, State.badBucket, State.sliceDrop, he', StakeEntry.without]

omit hm hr in
/-- The only waiter of an entry without holders is granted (R115). -/
theorem grantWaiters_last {e : StakeEntry} {w : Waiter} (hw : e.waiters = [w]) (hh : e.holders = [])
    (hdev : w.who.dev = s.devId) : State.grantWaiters 1 s e =
      (s.sendGrant e.ns e.key stGranted w.who).putEntry { e.grant w.who w.excl with waiters := [] } := by
  have hcomp : e.compatible w.who w.excl = true := by simp [StakeEntry.compatible, hh]
  have hcode : e.grantCode w.who = stGranted := by simp [StakeEntry.grantCode, hh]
  simp [State.grantWaiters, oldestWaiter, hw, hcomp, hdev, hcode, Party.same]

variable (hi : i < 16) (hop : m.op = .release) {e : StakeEntry} (he : s.entryOf i m.ns m.key m.who = some e)
  (hlast : (e.holders.filter fun h => !h.same m.who) = [])

include hi hop he hlast

theorem sliceRelease_frees (hw : e.waiters = []) : Ends (.sliceRelease i none) s fun t =>
    (∀ f ∈ t.stakes.entries, ¬(f.slice = e.slice ∧ f.bucket = e.bucket ∧ f.way = e.way)) ∧
    t.stakes.msgs = s.stakes.msgs.erase m ∧ t.bytes (s.wayAddr e.slice e.bucket e.way) 16 = zeros 16 := by
  refine ends_sliceRelease hm hr hi hop he ?_
  have hnone : (e.without m.who).waiters = [] := by simp [StakeEntry.without, hw]
  obtain ⟨hgone, hbytes⟩ := putEntry_free (s := s.sliceTakes i m) (e := e.without m.who) hlast
  rw [hnone]
  refine ⟨hgone, ?_, ?_⟩
  · rw [List.length_nil, State.grantWaiters, putEntry_stakes]
    rfl
  · rw [← (sameTable_sliceTakes s m hi).wayAddr]
    exact hbytes

theorem sliceRelease_grants {w : Waiter} (hw : e.waiters = [w]) (hother : w.who.same m.who = false)
    (hdev : w.who.dev = s.devId) : Ends (.sliceRelease i none) s fun t =>
      t.stakes.grants = s.stakes.grants ++ [{ slot := w.who.slot, ns := e.ns, key := e.key, code := 0 }] ∧
      ∃ f ∈ t.stakes.entries, f.holders = [w.who] ∧ f.excl = w.excl ∧ f.waiters = [] ∧ f.key = e.key ∧ f.ns = e.ns := by
  refine ends_sliceRelease hm hr hi hop he ?_
  have hone : (e.without m.who).waiters = [w] := by simp [StakeEntry.without, hw, hother]
  have hd : w.who.dev = (s.sliceTakes i m).devId := hdev.trans (sameTable_sliceTakes s m hi).devId.symm
  have hgrant : ((e.without m.who).grant w.who w.excl).holders = [w.who] := by
    simp [StakeEntry.grant, StakeEntry.without, hlast]
  rw [hone, List.length_singleton, grantWaiters_last hone hlast hd]
  refine ⟨?_, _, (putEntry_holds ?_).1, hgrant, rfl, rfl, rfl, rfl⟩
  · rw [putEntry_stakes, State.sendGrant, if_pos hd]
    rfl
  · simp [hgrant]

end

/-! ## Wounds at the unit -/

section

variable {s : State} {slot : Nat} {w : Wound} (hw : (s.stakes.wounds.find? fun w => w.slot = slot) = some w)

include hw

/-- A wound reaches the latch of the attempt that it was sent for (R106). -/
theorem woundPresent_latches {k : TSlot} {u : Nat} (hk : s.tslot slot = some k) (hu : k.unit = some u)
    (hatt : k.attempt = w.attempt) (hl : (s.unit u).latch.ends = []) : Ends (.woundPresent slot) s fun t =>
      (t.unit u).latch.ends = [.wound w.slice w.attempt] ∧ t.stakes.wounds = s.stakes.wounds.erase w ∧
      t = { s with stakes := t.stakes, units := t.units } := by
  refine ⟨(s.mapStakes fun k => { k with wounds := k.wounds.erase w }).endInput u (.wound w.slice w.attempt), ?_, ?_, rfl, rfl⟩
  · have hk' : (s.mapStakes fun k => { k with wounds := k.wounds.erase w }).tslot slot = some k := hk
    change execWoundPresent slot s = _
    simp only [execWoundPresent, hw, hk', hu, hatt, if_true]
  · rw [State.endInput, unit_mapUnit_same, unit_of_mapStakes, Latch.addEnd, hl]
    rfl

/-- A wound whose attempt is over is counted at its slice (R107). -/
theorem woundPresent_counts (hk : s.tslot slot = none) (hslice : w.slice < 16) : Ends (.woundPresent slot) s fun t =>
    (t.reg (sliceReg Reg.STK_CNT_WOUND w.slice)).toNat =
      min 0xFFFFFFFF ((s.reg (sliceReg Reg.STK_CNT_WOUND w.slice)).toNat + 1) ∧ t.units = s.units ∧
    t.stakes.wounds = s.stakes.wounds.erase w := by
  refine ⟨(s.mapStakes fun k => { k with wounds := k.wounds.erase w }).count (sliceReg Reg.STK_CNT_WOUND w.slice) 1, ?_,
    reg_count_same _ _, rfl, rfl⟩
  have hk' : (s.mapStakes fun k => { k with wounds := k.wounds.erase w }).tslot slot = none := hk
  change execWoundPresent slot s = _
  simp only [execWoundPresent, hw, hk', State.lateWound, hslice, if_true]

end

/-! ## Answers to a STAKE -/

/-- Retirement of a unit that is not stepping: no unit but it changes, and it waits for what it waited for. -/
theorem retire_units {s : State} {u : Nat} (pc : Word) (h : (s.unit u).stepping = false) :
    (∀ v, v ≠ u → (s.retire u pc).unit v = s.unit v) ∧ ((s.retire u pc).unit u).wait = (s.unit u).wait := by
  let y := (s.mapUnit u fun x => { x with arch := { x.arch.setPcf false with pc := pc } }).startCore u
  have hother : ∀ v, v ≠ u → (y.counted u).unit v = s.unit v := fun v hv => by
    rw [State.counted, unit_compared, unit_mapUnit_other _ _ hv]
    exact (unit_mapUnit_other _ _ hv).trans (unit_mapUnit_other _ _ hv)
  have hsame : ((y.counted u).unit u).stepping = false ∧ ((y.counted u).unit u).wait = (s.unit u).wait := by
    rw [State.counted, unit_compared, unit_mapUnit_same]
    simp only [y, State.startCore, unit_mapUnit_same]
    split <;> exact ⟨h, rfl⟩
  have hb : s.retire u pc = y.counted u := by
    rw [State.retire, State.boundary, if_neg (by simpa using hsame.1)]
  exact ⟨fun v hv => by rw [hb, hother v hv], by rw [hb, hsame.2]⟩

/-- The answer to a STAKE retires it with its code; what it says is in the stake cache. -/
structure Answered (s t : State) (u : Nat) (r : StakeRec) (rd : BitVec 5) (code : Nat) : Prop where
  arch   : archOf t u = after ((archOf s u).setReg rd (BitVec.ofNat 32 code)) (pcNext s u)
  wait   : (t.unit u).wait = .none
  recs   : code = 0 ∨ code = 2 → { r with waits := none, held := r.waits } ∈ t.stakes.recs
  others : ∀ v, v ≠ u → t.unit v = s.unit v
  mem    : t.mem = s.mem
  regs   : ∀ o, o ≠ pairReg Reg.CLS_PAIRSTAT (pairOf u) → t.reg o = s.reg o

theorem answerStake_answers {s : State} {u : Nat} {r : StakeRec} (rd : BitVec 5) (code : Nat) (hw : r.waits.isSome = true)
    (hstep : (s.unit u).stepping = false) : Answered s (s.answerStake u r rd code) u r rd code := by
  let held := if code = stGranted ∨ code = stUpgraded then r.waits else r.held
  let y := ((s.putStakeRec { r with waits := none, held := held }).sample 0x06 r.ns
    ((s.putStakeRec { r with waits := none, held := held }).time - r.issued)).mapUnit u fun x => { x with wait := .none }
  let z := y.mapArch u fun a => a.setReg rd (BitVec.ofNat 32 code)
  have hy : y.unit u = { s.unit u with wait := .none } := unit_mapUnit_same _ _ _
  have hz : z.unit u = { s.unit u with wait := .none, arch := (archOf s u).setReg rd (BitVec.ofNat 32 code) } :=
    (unit_mapUnit_same _ _ _).trans (by rw [hy])
  have hpc : (z.unit u).arch.pc + 4 = pcNext s u := by rw [hz, pcNext, setReg_pc]
  have ret := retire_retires z u ((z.unit u).arch.pc + 4)
  obtain ⟨hother, hwait⟩ := retire_units (s := z) (u := u) ((z.unit u).arch.pc + 4) (by rw [hz]; exact hstep)
  refine ⟨?_, ?_, fun hcode => ?_, fun v hv => ?_, ret.frame.mem, ret.frame.regs⟩
  · exact ret.arch.trans (by rw [hpc, hz]; rfl)
  · exact hwait.trans (by rw [hz])
  · have hheld : held = r.waits := if_pos hcode
    have hnone : ¬(r.waits.isNone && (none : Option Bool).isNone) = true := by simpa [Option.isSome_iff_ne_none] using hw
    refine ret.frame.stakes ▸ ?_
    change _ ∈ (s.putStakeRec { r with waits := none, held := held }).stakes.recs
    rw [hheld, State.putStakeRec, mapStakes_stakes]
    simp only [hnone, if_false, List.mem_append, List.mem_singleton, or_true, Bool.false_eq_true]
  · exact (hother v hv).trans ((unit_mapUnit_other _ _ hv).trans (unit_mapUnit_other _ _ hv))

theorem ends_stakeGrant {s : State} {slot u : Nat} {rd : BitVec 5} {g : GrantMsg} {r : StakeRec}
    (hg : (s.stakes.grants.find? fun g => decide (g.slot = slot) && s.takesAnswer g) = some g) (hhome : r.home = s.devId)
    (hr : s.stakeRec slot g.ns g.key = some r) (hw : r.waits.isSome = true) (hst : s.standing slot g.ns g.key = some (u, rd))
    (hstep : (s.unit u).stepping = false) : Ends (.stakeGrant slot) s fun t =>
      Answered (s.mapStakes fun k => { k with grants := k.grants.erase g }) t u r rd g.code := by
  refine ⟨_, ?_, answerStake_answers (s := s.mapStakes fun k => { k with grants := k.grants.erase g }) rd g.code hw hstep⟩
  have hnone : r.waits.isNone = false := by simpa [Option.isSome_iff_ne_none] using hw
  have hlocal : (s.mapStakes fun k => { k with grants := k.grants.erase g }).remoteCode r g.code =
      s.mapStakes fun k => { k with grants := k.grants.erase g } := if_pos hhome
  change execStakeGrant slot s = _
  simp only [execStakeGrant, hg, hr, hnone, hst, hlocal, Bool.false_eq_true, if_false]

/-- A request to another device that finds no reply is answered with UNREACHABLE, an event of the cluster (R102, R116). -/
theorem ends_remoteStakeTimeout {s : State} {τ u key : Nat} {x : TSlot} {rd : BitVec 5} {ex : Bool} {r : StakeRec}
    (hx : s.txnOf u = some x) (hwait : (s.unit u).wait = .stake rd key ex)
    (hr : s.stakeRec x.slot (s.unit u).execPlot key = some r) (hhome : r.home ≠ s.devId) (hw : r.waits.isSome = true)
    (hq : r.queued = false) (hus : (s.advance τ).usPassed (r.issued + s.fld Reg.STK_REMOTE 7 0 * 1000) = true)
    (hhalt : (s.unit u).halted = false) (hsafe : s.safe = false) {p : State → Prop}
    (h : p (((s.advance τ).errEvent Reg.STK_ERR 4 (Src.slice ((s.advance τ).sliceOf r.ns r.key)) 0 r.ns 0).answerStake u r rd
      stUnreachable)) : Ends (.remoteStakeTimeout τ u) s p := by
  refine ⟨_, ?_, h⟩
  have hx' : (s.advance τ).txnOf u = some x := hx
  have hr' : (s.advance τ).stakeRec x.slot (s.unit u).execPlot key = some r := hr
  have hsafe' : (s.advance τ).safe = false := hsafe
  have hus' : (s.advance τ).usPassed (r.issued + (s.advance τ).fld Reg.STK_REMOTE 7 0 * 1000) = true := hus
  have hhome' : ¬r.home = (s.advance τ).devId := hhome
  have hcode : (s.advance τ).remoteCode r stUnreachable =
      (s.advance τ).errEvent Reg.STK_ERR 4 (Src.slice ((s.advance τ).sliceOf r.ns r.key)) 0 r.ns 0 := if_neg hhome'
  change execRemoteStakeTimeout τ u s = _
  simp [execRemoteStakeTimeout, hx', hwait, hr', hhome', hw, hq, hus', hhalt, hsafe', hcode]

theorem remoteStakeTimeout_answers {s : State} {u slice ns : Nat} {rd : BitVec 5} {r : StakeRec} (hw : r.waits.isSome = true)
    (hstep : (s.unit u).stepping = false) :
    let t := (s.errEvent Reg.STK_ERR 4 (Src.slice slice) 0 ns 0).answerStake u r rd stUnreachable
    archOf t u = after ((archOf s u).setReg rd 6) (pcNext s u) ∧ (t.unit u).wait = .none ∧ t.bit Reg.STK_ERR 4 = true := by
  have hunit := unit_of_cells (cells_of_inner (inner_errEvent s Reg.STK_ERR 4 (Src.slice slice) 0 ns 0)) u
  have ans := answerStake_answers (u := u) rd stUnreachable hw (by rw [hunit]; exact hstep)
  have hne : Reg.STK_ERR ≠ pairReg Reg.CLS_PAIRSTAT (pairOf u) := by
    simp only [pairReg, Reg.STK_ERR, Reg.CLS_PAIRSTAT]
    omega
  refine ⟨?_, ans.wait, ?_⟩
  · rw [ans.arch, pcNext, archOf, hunit]
    rfl
  · rw [State.bit, ans.regs _ hne]
    exact bit_errEvent s _ _ _ (by decide) (by decide) (by decide)

/-! ## The clear of the table -/

/-- A write of fields changes the register written and the error register of its block. -/
theorem writeFields_keeps (s : State) {off err : Nat} (v : Word) (he : errRegOf off = some err) {o : Nat} (hoff : o ≠ off)
    (herr : o ≠ err) : (s.writeFields off v).reg o = s.reg o := by
  have hbad : ∀ t : State, (t.badw off).reg o = t.reg o := fun t => (badw_sets t he).2.2 o (by simpa using herr)
  unfold State.writeFields
  split
  · exact hbad s
  · dsimp only
    split
    · rw [hbad, reg_setReg_other _ _ hoff]
    · rw [reg_setReg_other _ _ hoff]

theorem writeFields_onlyCtl (s : State) {off err : Nat} (v : Word) (he : errRegOf off = some err) :
    OnlyCtl s (s.writeFields off v) := by
  have hbad : ∀ t : State, OnlyCtl t (t.badw off) := fun t => (badw_sets t he).2.1
  unfold State.writeFields
  split
  · exact hbad s
  · dsimp only
    split
    · exact hbad _
    · rfl

/-- CLEAR while the table is not READY and LOCK is set starts the clear (R120). -/
theorem stkClear_starts {s : State} {m : Master} {v : Word} (hm : s.writesReg m Reg.STK_CTRL = true) (hr : s.stakesReady = false)
    (hlock : (s.writeFields Reg.STK_CTRL (v ||| 1)).bit Reg.STK_CTRL 31 = true) :
    Ends (.stkClear m v) s fun t => t.bit Reg.STK_STATUS 1 = true ∧ OnlyCtl s t := by
  have herr : errRegOf Reg.STK_CTRL = some Reg.STK_ERR := by decide
  have hready : (s.writeFields Reg.STK_CTRL (v ||| 1)).stakesReady = false := by
    rw [State.stakesReady, State.bit, writeFields_keeps s _ herr (by decide) (by decide)]
    exact hr
  have hbit : (v ||| 1).getLsbD 0 = true := by simp [-BitVec.getLsbD_eq_getElem]
  refine ⟨(s.writeFields Reg.STK_CTRL (v ||| 1)).setBit Reg.STK_STATUS 1 true, ?_, bit_setBit_same _ _ (by decide), ?_⟩
  · change execStkClear m v s = _
    rw [execStkClear, if_pos hm, State.writeStkCtrl]
    simp only [hbit, hready, hlock, Bool.not_true, Bool.false_eq_true, or_self, if_false]
  · exact (writeFields_onlyCtl s (v ||| 1) herr) ▸ rfl

theorem sget_filter {α : Type} (d : Nat → α) (l : List (Nat × α)) (p : Nat → Bool) (k : Nat) :
    sget d (l.filter fun c => p c.1) k = if p k then sget d l k else d k := by
  induction l with
  | nil => simp [sget]
  | cons c l ih =>
    obtain ⟨j, w⟩ := c
    by_cases hj : p j <;> by_cases hk : k = j
    · subst hk; simp [hj, sget]
    · simp [hj, sget, hk, ih]
    · subst hk; simp [hj, ih]
    · simp [hj, sget, hk, ih]

theorem byte_wipe (s : State) (a n c : Nat) : (s.wipe a n).byte c = if a ≤ c ∧ c < a + n then 0 else s.byte c := by
  simp only [State.byte, State.wipe, mapMem_mem]
  rw [sget_filter blankByte s.mem.cells (fun k => !decide (a ≤ k ∧ k < a + n)) c]
  by_cases h : a ≤ c ∧ c < a + n <;> simp [h, blankByte]

/-- The clear leaves an empty table, zero in DRAM, and READY (R120). -/
theorem stakeTableCleared_empties {s : State} (h : s.bit Reg.STK_STATUS 1 = true) : Ends .stakeTableCleared s fun t =>
    t.stakes = Stakes.reset ∧ t.bit Reg.STK_STATUS 0 = true ∧ t.bit Reg.STK_STATUS 1 = false ∧
    (∀ a, s.reg64 Reg.STK_BASE_LO ≤ a → a < s.reg64 Reg.STK_BASE_LO + 2 ^ 29 → t.byte a = 0) ∧
    (∀ a, a < s.reg64 Reg.STK_BASE_LO ∨ s.reg64 Reg.STK_BASE_LO + 2 ^ 29 ≤ a → t.byte a = s.byte a) := by
  refine ⟨(((s.wipe (s.reg64 Reg.STK_BASE_LO) (2 ^ 29)).mapStakes fun _ => Stakes.reset).setBit Reg.STK_STATUS 1 false).setBit
    Reg.STK_STATUS 0 true, ?_, rfl, bit_setBit_same _ _ (by decide), ?_, fun a hlo hhi => ?_, fun a ha => ?_⟩
  · change execStakeTableCleared s = _
    rw [execStakeTableCleared, if_pos h]
  · rw [State.bit, State.setBit, reg_setFld_same, getLsbD_setBits_out _ _ (by decide) (by decide) (by decide)]
    exact bit_setBit_same _ _ (by decide)
  · exact (byte_wipe s _ _ a).trans (if_pos ⟨hlo, hhi⟩)
  · exact (byte_wipe s _ _ a).trans (if_neg (by omega))

/-- Settles O33: each message at a slice, each answer and wound at its unit, the clear. That a freed entry's bytes are all
zero is log entry 124. -/
theorem stakesAtTheSlice : Obligations.StakesAtTheSlice := by
  refine ⟨fun s i m hi hm hr hdev => ⟨fun x b w hop => sliceRequest_free hi hm hr hdev hop,
      fun x e hop he hold => ⟨sliceRequest_grant hi hm hr hdev hop he hold, sliceRequest_queue hi hm hr hdev hop he⟩,
      fun x j hop hj => sliceRequest_badBucket hm hr hop hj,
      fun e hop he hlast => ⟨sliceRelease_frees hm hr hi hop he hlast, fun w hw hother hd =>
        sliceRelease_grants hm hr hi hop he hlast hw hother hd⟩⟩,
    fun s slot u rd g r hg hhome hr hw hst hstep => ?_,
    fun s slot w hw => ⟨fun k u hk hu hatt hl => woundPresent_latches hw hk hu hatt hl, woundPresent_counts hw⟩,
    fun s τ u key x rd ex r hx hwait hr hhome hw hq hus hhalt hstep hsafe =>
      ends_remoteStakeTimeout hx hwait hr hhome hw hq hus hhalt hsafe (remoteStakeTimeout_answers hw hstep),
    fun s m v hm hr hlock => stkClear_starts hm hr hlock, fun s h => stakeTableCleared_empties h⟩
  obtain ⟨t, ht, ans⟩ := ends_stakeGrant hg hhome hr hw hst hstep
  exact ⟨t, ht, ans.arch, ans.wait, ans.recs, ans.others, ans.mem⟩

end Sys2Proof.Machine
end

section
/-! OBLIGATIONS. Remote records at the requester and peer requests (first part of O49). -/

namespace Sys2Proof.Machine

open Sys2Proof Sys2Proof.Stated

/-- Memory alone decides what strings of bytes it reads. -/
theorem bytes_of_mem {s t : State} (h : t.mem = s.mem) (a n : Nat) : t.bytes a n = s.bytes a n :=
  bytes_eq (by simp) fun i hi => by rw [getElem_bytes, byte_of_mem h]

/-! ## The answer to a remote access -/

section

variable {s : State} {tag e : Nat} {b : List Byte} {r : RemReq} (hs : s.safe = false)
    (hr : (s.weft.reqs.find? fun r => r.tag = tag ∧ r.answer.isNone) = some r)

include hs hr

theorem ends_recRsp {a : RecAnswer} {p : State → Prop} (h : p ((s.seen r.dev).recAnswered r a b)) :
    Ends (.recRsp tag a b e) s p := by
  refine ⟨_, ?_, h⟩
  change execRecRsp tag a b e s = _
  simp only [execRecRsp, hs, hr, Bool.false_eq_true, if_false]

omit hs in
theorem tag_of_found : r.tag = tag ∧ r ∈ s.weft.reqs := by
  have h := List.find?_some hr
  simp only [decide_eq_true_eq] at h
  exact ⟨h.1, List.mem_of_find?_eq_some hr⟩

/-- The answer to a load waits for it, and its unit no longer waits. -/
theorem recRsp_load (hw : r.write = false) (hwait : (s.unit r.unit).wait = .remote tag) : Ends (.recRsp tag .ok b e) s fun t =>
    { r with answer := some (0, fitTo r.len b) } ∈ t.weft.reqs ∧ (t.unit r.unit).wait = .none ∧
      archOf t r.unit = archOf s r.unit ∧ (∀ v, v ≠ r.unit → t.unit v = s.unit v) ∧ t.mem = s.mem := by
  obtain ⟨rfl, hmem⟩ := tag_of_found hr
  refine ends_recRsp hs hr ?_
  simp only [State.recAnswered, hw, Bool.false_eq_true, if_false, State.giveAnswer]
  refine ⟨?_, ?_, ?_, fun v hv => ?_, rfl⟩
  · exact List.mem_map.2 ⟨r, hmem, by rw [if_pos rfl, ← hw]⟩
  · rw [unit_mapUnit_same]
    change (if (s.unit r.unit).wait = .remote r.tag then _ else _ : CoreUnit).wait = _
    rw [if_pos hwait]
  · rw [archOf, unit_mapUnit_same]
    change (if (s.unit r.unit).wait = .remote r.tag then _ else _ : CoreUnit).arch = _
    rw [if_pos hwait]
    rfl
  · rw [unit_mapUnit_other _ _ hv]
    rfl

/-- A store that was performed is over. -/
theorem recRsp_store (hw : r.write = true) : Ends (.recRsp tag .ok b e) s fun t =>
    t.weft.reqs = (s.weft.reqs.filter fun x => x.tag ≠ tag) ∧ t = { s with weft := t.weft } := by
  obtain ⟨rfl, -⟩ := tag_of_found hr
  refine ends_recRsp hs hr ?_
  rw [State.recAnswered, if_pos hw, if_neg fun h => by simp at h]
  exact ⟨rfl, rfl⟩

/-- A store that was refused ends its transaction. -/
theorem recRsp_refused (hw : r.write = true) (hslot : r.slot.isSome = true) (htxn : (s.unit r.unit).txn = r.slot)
    (hends : (s.unit r.unit).latch.ends = []) : Ends (.recRsp tag .refused b e) s fun t =>
      (t.unit r.unit).latch.ends = [.capture] ∧ t.weft.reqs = s.weft.reqs.filter fun x => x.tag ≠ tag := by
  obtain ⟨rfl, -⟩ := tag_of_found hr
  refine ends_recRsp hs hr ?_
  have h : (s.seen r.dev).recAnswered r .refused b = ((s.seen r.dev).storeOver r false).endInput r.unit .capture := by
    rw [State.recAnswered, if_pos hw]
    exact if_pos ⟨rfl, hslot, htxn⟩
  rw [h]
  refine ⟨?_, rfl⟩
  rw [State.endInput, unit_mapUnit_same]
  change (Latch.addEnd (s.unit r.unit).latch .capture).ends = _
  simp [Latch.addEnd, hends]

/-- A store that met poison brings an MCHECK. -/
theorem recRsp_poison (hw : r.write = true) (hm : (s.unit r.unit).latch.mcheck = none) :
    Ends (.recRsp tag .poison b e) s fun t => (t.unit r.unit).latch.mcheck = some 1 := by
  refine ends_recRsp hs hr ?_
  have h : (s.seen r.dev).recAnswered r .poison b = (s.seen r.dev).storeOver r true := by
    rw [State.recAnswered, if_pos hw]
    exact if_neg fun h => by simp at h
  rw [h, State.storeOver, if_pos rfl, unit_mapUnit_same]
  change (s.unit r.unit).latch.mcheck.or (some 1) = _
  rw [hm]
  rfl

end

/-! ## Acceptances -/

section

variable {s : State} {n : Nat} {w : SpanWait} (hw : s.spanWait n = some w)

include hw

theorem slot_of_spanWait : w.slot = n := by simpa using List.find?_some hw

/-- A wait replaced is the one found under its slot. -/
theorem spanWait_replaced {v : SpanWait} (hv : v.slot = n) :
    (s.mapWeft fun x => { x with spans := x.spans.map fun y => if y.slot = n then v else y }).spanWait n = some v := by
  change (s.weft.spans.map _).find? _ = _
  rw [State.spanWait] at hw
  generalize s.weft.spans = l at hw
  induction l with
  | nil => simp at hw
  | cons a l ih =>
    by_cases ha : a.slot = n
    · simp [ha, hv]
    · rw [List.find?_cons_of_neg (by simpa using ha)] at hw
      rw [List.map_cons, if_neg ha, List.find?_cons_of_neg (by simpa using ha)]
      exact ih hw

end

theorem spanReady_open {s : State} {w : SpanWait} (h : w.homes ≠ []) : s.spanReady w = s := by
  unfold State.spanReady
  simp only [List.isEmpty_iff, h, if_false]
  split <;> rfl

theorem spanReady_all {s : State} {w : SpanWait} {rlen : Nat} (h : w.homes = []) (hu : (s.unit w.unit).wait = .span rlen) :
    s.spanReady w = s.queueCommit w.unit w.slot rlen := by
  simp [State.spanReady, hu, h]

section

variable {s : State} {dev n e : Nat} {ok : Bool} {w : SpanWait} (hs : s.safe = false) (hw : s.spanWait n = some w)

/-- The answer of one home, as the acceptance of its COMMIT records it. -/
def SpanWait.answered (w : SpanWait) (dev e : Nat) (ok : Bool) : SpanWait :=
  { w with homes := w.homes.filter (· ≠ dev)
           accepted := if ok then w.accepted ++ [(dev, e)] else w.accepted
           refused := if ok then w.refused else w.refused ++ [dev] }

/-- The homes that have not answered in time refuse. -/
def SpanWait.timedOut (w : SpanWait) : SpanWait := { w with refused := w.refused ++ w.homes, homes := [] }

/-- The acceptance under way of a slot is replaced. -/
def State.setSpan (s : State) (n : Nat) (v : SpanWait) : State :=
  s.mapWeft fun x => { x with spans := x.spans.map fun y => if y.slot = n then v else y }

include hs hw

theorem ends_spanAccept {p : State → Prop} (hdev : dev ∈ w.homes)
    (h : p (((s.seen dev).setSpan n (w.answered dev e ok)).spanReady (w.answered dev e ok))) :
    Ends (.spanAccept dev n e ok) s p := by
  refine ⟨_, ?_, h⟩
  change execSpanAccept dev n e ok s = _
  have hseen : (s.seen dev).spanWait n = some w := hw
  rw [execSpanAccept, if_neg (by simp [hs]), State.spanAnswer, hseen]
  dsimp only
  rw [if_pos hdev]
  rfl

/-- The answer of a home while another one has not answered. -/
theorem spanAccept_open {d : Nat} (hdev : dev ∈ w.homes) (hd : d ∈ w.homes) (hne : d ≠ dev) :
    Ends (.spanAccept dev n e ok) s fun t => t.journal.waits = s.journal.waits ∧
      ∃ v, t.spanWait n = some v ∧ v.homes = (w.homes.filter fun x => x ≠ dev) ∧
      (ok = true → v.accepted = w.accepted ++ [(dev, e)] ∧ v.refused = w.refused) ∧
      (ok = false → v.accepted = w.accepted ∧ v.refused = w.refused ++ [dev]) := by
  refine ends_spanAccept hs hw hdev ?_
  have hslot : w.slot = n := slot_of_spanWait hw
  have hopen : (w.answered dev e ok).homes ≠ [] := List.ne_nil_of_mem (List.mem_filter.2 ⟨hd, by simpa using hne⟩)
  rw [spanReady_open hopen]
  refine ⟨rfl, _, spanWait_replaced (s := s.seen dev) hw (v := w.answered dev e ok) hslot, rfl, ?_, ?_⟩
  · rintro rfl
    exact ⟨rfl, rfl⟩
  · rintro rfl
    exact ⟨rfl, rfl⟩

/-- The answer of the last home lets the COMMIT go on. -/
theorem spanAccept_last (hh : w.homes = [dev]) (hu : (s.unit w.unit).wait = .span w.rlen) : Ends (.spanAccept dev n e ok) s
    fun t => ∃ y : State, t = y.queueCommit w.unit w.slot w.rlen ∧ y.journal = s.journal ∧ y.units = s.units := by
  refine ends_spanAccept hs hw (by simp [hh]) ?_
  have hnil : (w.answered dev e ok).homes = [] := by simp [SpanWait.answered, hh]
  exact ⟨_, spanReady_all hnil hu, rfl, rfl⟩

/-- The homes that have not accepted in time have refused, and the COMMIT goes on. -/
theorem spanAcceptTimeout_all {τ : Nat} (hh : w.homes ≠ []) (hu : (s.unit w.unit).wait = .span w.rlen)
    (ht : (s.advance τ).usPassed (w.issued + s.fld Reg.WFT_CFG 7 0 * 1000) = true) : Ends (.spanAcceptTimeout τ n) s fun t =>
      ∃ y : State, t = y.queueCommit w.unit w.slot w.rlen ∧ ∃ v, y.spanWait n = some v ∧ v.homes = [] ∧
        v.refused = w.refused ++ w.homes := by
  have hslot : w.slot = n := slot_of_spanWait hw
  refine ⟨((s.advance τ).setSpan n w.timedOut).spanReady w.timedOut, ?_, ?_⟩
  · change execSpanAcceptTimeout τ n s = _
    have hn : (s.advance τ).spanWait n = some w := hw
    rw [execSpanAcceptTimeout, hn]
    dsimp only
    rw [if_pos ⟨ht, by simpa using hh, congrArg not hs⟩]
    rfl
  · exact ⟨_, spanReady_all rfl hu, _, spanWait_replaced (s := s.advance τ) hw (v := w.timedOut) hslot, rfl, rfl⟩

end

/-! ## Votes -/

theorem trySeal_none {s : State} (h : s.tick.sealing = none) : s.trySeal = s := by
  simp [State.trySeal, h]

/-- A vote of a sealed epoch counts the records that it covers. -/
theorem take_sealed (v : VoteDue) (dev e : Nat) (c : List (Nat × Nat)) : v.take dev e true c =
    match (if v.dev = dev ∧ (v.theirs = e ∨ v.theirs = 0) then c.lookup v.mine else none) with
    | some k => { v with got := v.got + k }
    | none => v := by
  unfold VoteDue.take
  cases (if v.dev = dev ∧ (v.theirs = e ∨ v.theirs = 0) then c.lookup v.mine else none) <;> rfl

/-- A vote of an epoch that failed fails the epoch that it covers. -/
theorem take_failed {v : VoteDue} {dev e : Nat} {c : List (Nat × Nat)} (hd : v.dev = dev) (he : v.theirs = e)
    (hc : (c.lookup v.mine).isSome = true) : v.take dev e false c = { v with failed := true } := by
  obtain ⟨k, hk⟩ := Option.isSome_iff_exists.1 hc
  simp [VoteDue.take, hd, he, hk]

section

variable {s : State} (τ dev e : Nat) (c : List (Nat × Nat)) (hs : s.safe = false) (hz : s.tick.sealing = none)

include hs hz

theorem vote_sealed : Ends (.vote τ dev e true c) s fun t => t = ((s.advance τ).seen dev).mapWeft fun w =>
    { w with votes := w.votes.map fun v =>
      match (if v.dev = dev ∧ (v.theirs = e ∨ v.theirs = 0) then c.lookup v.mine else none) with
      | some k => { v with got := v.got + k }
      | none => v } := by
  refine ⟨((s.advance τ).seen dev).takeVote dev e true c, ?_, ?_⟩
  · change execVote τ dev e true c s = _
    exact congrArg Host.Outcome.next (if_neg (ne_true_of_eq_false hs))
  · rw [State.takeVote, if_pos rfl, trySeal_none (by exact hz)]
    simp only [take_sealed]

theorem vote_failed : Ends (.vote τ dev e false c) s fun t => Counted s t Reg.WFT_CNT_VOTEFAIL ∧ t.bit Reg.WFT_ERR 6 = true ∧
    ∀ v ∈ s.weft.votes, v.dev = dev → v.theirs = e → (c.lookup v.mine).isSome = true →
      { v with failed := true } ∈ t.weft.votes := by
  refine ⟨((s.advance τ).seen dev).takeVote dev e false c, ?_, ?_⟩
  · change execVote τ dev e false c s = _
    exact congrArg Host.Outcome.next (if_neg (ne_true_of_eq_false hs))
  · rw [State.takeVote, if_neg Bool.false_ne_true, trySeal_none (by exact hz)]
    refine ⟨?_, ?_, fun v hv hd he hc => List.mem_map.2 ⟨v, hv, take_failed hd he hc⟩⟩
    · rw [Counted, reg_of_mapWeft, reg_setBit_other _ _ _ (by decide), reg_count_same]
      rfl
    · exact bit_setBit_same _ true (by decide)

end

/-! ## Peer requests -/

/-! A frame that arrives changes nothing that an engine's access reads. -/

section

variable (s : State) (dev : Nat)

theorem region_seen (pa : Nat) : (s.seen dev).region pa = s.region pa := rfl

theorem reaches_seen (gen dest fuel r : Nat) : (s.seen dev).reaches gen dest fuel r = s.reaches gen dest fuel r := by
  have hbit (o i : Nat) : (s.seen dev).bit o i = s.bit o i := rfl
  have hroute (k : Nat) : (s.seen dev).routeEntry gen k dest = s.routeEntry gen k dest := rfl
  induction fuel generalizing r with
  | zero => simp only [State.reaches]
  | succ fuel ih => simp only [State.reaches, hroute, hbit, ih]

theorem unroutable_seen (init target : Nat) : (s.seen dev).unroutable init target = s.unroutable init target := by
  rw [State.unroutable, reaches_seen]
  rfl

theorem answerOf_seen (init pa : Nat) : (s.seen dev).answerOf init pa = s.answerOf init pa := by
  have hbit (o i : Nat) : (s.seen dev).bit o i = s.bit o i := rfl
  have hoff (d : Nat) : (s.seen dev).domainOff d = s.domainOff d := rfl
  have hbank (c k : Nat) : (s.seen dev).bankAsleep c k = s.bankAsleep c k := rfl
  simp only [State.answerOf, region_seen, hbit, unroutable_seen, hoff, hbank]

theorem poisonIn_seen (pa n : Nat) : (s.seen dev).poisonIn pa n = s.poisonIn pa n := rfl

theorem agentStatus_seen (init pa n : Nat) : (s.seen dev).agentStatus init pa n = s.agentStatus init pa n := by
  simp only [State.agentStatus, answerOf_seen, poisonIn_seen]

theorem engineSees_seen (init pa n : Nat) (strong : Bool) :
    (s.seen dev).engineSees init pa n strong = s.engineSees init pa n strong := by
  simp only [State.engineSees, agentStatus_seen, region_seen]
  rfl

theorem goodPrefix_seen (init pa n : Nat) (strong : Bool) :
    (s.seen dev).goodPrefix init pa n strong = s.goodPrefix init pa n strong := by
  simp only [State.goodPrefix, engineSees_seen]

theorem bytes_seen (a n : Nat) : (s.seen dev).bytes a n = s.bytes a n := bytes_of_mem (s := s) (t := s.seen dev) rfl a n

end

section

variable {s : State} (dev tag : Nat) {b : List Byte} (hs : s.safe = false)

include hs

theorem ends_peerReq {w : Bool} {p : State → Prop} (h : p ((s.seen dev).servePeer dev tag w b)) :
    Ends (.peerReq dev tag w b) s p := by
  refine ⟨_, ?_, h⟩
  change execPeerReq dev tag w b s = _
  exact congrArg Host.Outcome.next (if_neg (ne_true_of_eq_false hs))

theorem peerReq_refused {w : Bool} (hx : s.engineXlat (beAt b 0 2) (beAt b 2 8) (beAt b 10 2) w = none) :
    Ends (.peerReq dev tag w b) s fun t => t = (s.seen dev).weftSend dev 0x1C (beBytes 4 tag ++ beBytes 1 1 ++ []) := by
  refine ends_peerReq dev tag hs ?_
  have hy : (s.seen dev).engineXlat (beAt b 0 2) (beAt b 2 8) (beAt b 10 2) w = none := hx
  rw [State.servePeer]
  simp only [hy]
  rfl

theorem peerReq_write {pa : Nat} (hx : s.engineXlat (beAt b 0 2) (beAt b 2 8) (beAt b 10 2) true = some pa) :
    Ends (.peerReq dev tag true b) s fun t => t = ((s.seen dev).engineWrite pa (fitTo (beAt b 10 2) (b.drop 12)) false).weftSend
      dev 0x1C (beBytes 4 tag ++ beBytes 1 0 ++ []) := by
  refine ends_peerReq dev tag hs ?_
  have hy : (s.seen dev).engineXlat (beAt b 0 2) (beAt b 2 8) (beAt b 10 2) true = some pa := hx
  rw [State.servePeer]
  simp only [hy]
  rfl

theorem peerReq_read {pa : Nat} (hx : s.engineXlat (beAt b 0 2) (beAt b 2 8) (beAt b 10 2) false = some pa)
    (hg : s.goodPrefix 28 pa (beAt b 10 2) false = beAt b 10 2) : Ends (.peerReq dev tag false b) s fun t =>
      t = (s.seen dev).weftSend dev 0x1C (beBytes 4 tag ++ beBytes 1 0 ++ s.bytes pa (beAt b 10 2)) := by
  refine ends_peerReq dev tag hs ?_
  have hy : (s.seen dev).engineXlat (beAt b 0 2) (beAt b 2 8) (beAt b 10 2) false = some pa := hx
  have hp : (s.seen dev).goodPrefix frwStop pa (beAt b 10 2) false = beAt b 10 2 := (goodPrefix_seen ..).trans hg
  rw [State.servePeer]
  simp only [hy, hp, bytes_seen, Nat.lt_irrefl]
  rfl

end

/-! ## The answer to a peer request -/

section

variable {s : State} {τ tag p : Nat} {c : FrwCmd} {o : FrwOp} (b : List Byte) (hc : s.furrow.cmds = [c])
    (htag : c.tag = tag) (hgroup : 64 ≤ c.group) (hpath : c.path = some p) (hop : s.op c.op = some o) (hkind : o.kind = .program)
    (hend : o.ending = none) (hwhat : c.what = 0xF2)

/-- No command of Furrow is left. -/
def State.noCmds (s : State) : State := s.mapFurrow fun w => { w with cmds := [] }

/-- A test that keeps no command leaves none. -/
theorem filterCmds_eq_noCmds {s : State} {f : FrwCmd → Bool} (h : s.furrow.cmds.filter f = []) :
    (s.mapFurrow fun w => { w with cmds := w.cmds.filter f }) = s.noCmds := by
  simp only [State.noCmds, State.mapFurrow, h]

theorem kick_noCmds (s : State) : s.noCmds.kick = s.noCmds := by
  have h : s.noCmds.furrow.cmds = [] := by simp [State.noCmds]
  simp [State.kick, h]

theorem dropCmd_last {s : State} {c : FrwCmd} (h : s.furrow.cmds = [c]) : s.dropCmd c.tag = s.noCmds := by
  rw [State.dropCmd, filterCmds_eq_noCmds (by simp [h]), kick_noCmds]

/-- The state in which Furrow takes the answer to its last command. -/
def State.peerTaken (s : State) (τ : Nat) (c : FrwCmd) (p : Nat) : State :=
  (((s.advance τ).seen (c.group - 64)).sample 0x0A p (((s.advance τ).time - c.issued) / 1000)).noCmds

include hc htag hgroup hpath hop hkind in
theorem ends_peerRsp {st : Nat} {q : State → Prop}
    (h : q ((s.peerTaken τ c p).programCmd o c (if st = 0 then 0 else frwPeer) 0 b)) : Ends (.peerRsp τ tag st b) s q := by
  refine ⟨_, ?_, h⟩
  change execPeerRsp τ tag st b s = _
  have hfind : ((s.advance τ).furrow.cmds.find? fun c => c.tag = tag ∧ 64 ≤ c.group) = some c := by
    simp [hc, htag, hgroup]
  rw [execPeerRsp, hfind]
  dsimp only
  rw [hpath]
  dsimp only
  rw [State.cmdDone, dropCmd_last (by exact hc)]
  change Host.Outcome.next (match (s.peerTaken τ c p).op c.op with | none => _ | some o => _) = _
  have hop' : (s.peerTaken τ c p).op c.op = some o := hop
  rw [hop']
  dsimp only
  rw [hkind]
  rfl

include hwhat in
theorem size_peerWrite : c.size = c.args.getD 2 0 := by simp [FrwCmd.size, hwhat, peerWrite, nvRead, nvWrite, peerRead]

include hwhat in
/-- The answer to the last write of a command of a program that goes on. -/
theorem programCmd_done {y : State} (hy : y.furrow.cmds = []) : y.programCmd o c 0 0 b = y.opNext o := by
  simp [State.programCmd, hwhat, nvRead, peerRead, State.cmdsOf, hy]

include hwhat hend in
/-- A failed command without others beside it ends its program. -/
theorem programCmd_failed {y : State} {st : Nat} (hst : st ≠ 0) (hy : y.furrow.cmds = []) :
    y.programCmd o c st 0 b = y.noCmds.opEnd o st 0 (c.args.getD 2 0) := by
  have hstop : y.opStop o st 0 c.size = y.noCmds.opEnd o st 0 (c.args.getD 2 0) := by
    rw [State.opStop, filterCmds_eq_noCmds (by simp [hy])]
    simp [State.cmdsOf, hy, size_peerWrite hwhat, State.noCmds]
  simp [State.programCmd, hst, hend, hstop]

include hc htag hgroup hpath hop hkind hwhat

theorem peerRsp_done : Ends (.peerRsp τ tag 0 b) s fun t =>
    ∃ y : State, t = y.opNext o ∧ y.furrow.cmds = [] ∧ y.mem = s.mem ∧ y.ctl = s.ctl :=
  ends_peerRsp b hc htag hgroup hpath hop hkind ⟨_, programCmd_done b hwhat rfl, rfl, rfl, rfl⟩

include hend in
theorem peerRsp_failed {st : Nat} (hst : st ≠ 0) : Ends (.peerRsp τ tag st b) s fun t =>
    ∃ y : State, t = y.opEnd o 0x0402 0 (c.args.getD 2 0) ∧ y.furrow.cmds = [] := by
  refine ends_peerRsp b hc htag hgroup hpath hop hkind ?_
  rw [if_neg hst]
  exact ⟨_, programCmd_failed b hend hwhat (by decide) rfl, rfl⟩

end

end Sys2Proof.Machine
end

section
/-! SUPPORT. What stores into a line or past the caches leave alone, and what they write. -/

namespace Sys2Proof.Machine

open Sys2Proof Sys2Proof.Stated

/-! ## What stores leave alone -/

/-- What clusters do not decide, the write-back and the loss of copies leaves alone. -/
theorem dropCopies_keeps {α : Type} {p : State → α} (h : ∀ (s : State) c f, p (s.mapCluster c f) = p s)
    (s : State) (pa n : Nat) : p (s.dropCopies pa n) = p s := by
  refine foldl_keeps p (fun s l => foldl_keeps p (fun s c => ?_) _ _) _ _
  split
  · split
    · unfold State.cleanLine
      split
      · exact h ..
      · rfl
    · exact (h _ _ _).trans (h _ _ _)
  · exact h ..

/-- What neither a cluster, nor a unit or memory decides. -/
structure StoreFree {α : Type} (p : State → α) : Prop where
  cluster : ∀ (s : State) c f, p (s.mapCluster c f) = p s
  unit    : ∀ (s : State) u f, p (s.mapUnit u f) = p s
  mem     : ∀ (s : State) f, p (s.mapMem f) = p s

namespace StoreFree

variable {α : Type} {p : State → α} (h : StoreFree p)

include h

theorem setBytes (s : State) (a : Nat) (l : List Byte) : p (s.setBytes a l) = p s := by
  induction l generalizing s a with
  | nil => rfl
  | cons b l ih => exact (ih _ _).trans (h.mem _ _)

theorem deviceStore (s : State) (w : Option Nat) (pa : Nat) (data : List Byte) : p (s.deviceStore w pa data) = p s := by
  unfold State.deviceStore State.memStore State.clearPoison State.breakLinks
  refine (foldl_keeps p (fun s u => ?_) _ _).trans ((h.mem (s.setBytes pa data) _).trans (h.setBytes s pa data))
  split
  · rfl
  · unfold State.breakLink
    split
    · split
      · exact h.unit ..
      · rfl
    · rfl

theorem dirtyLine (s : State) (c pa : Nat) (mark : Option Nat) : p (s.dirtyLine c pa mark) = p s := by
  unfold State.dirtyLine State.takeLine
  split
  · rfl
  · refine (h.cluster _ _ _).trans (foldl_keeps p (fun s d => ?_) _ _)
    split
    · rfl
    · exact (h.cluster _ _ _).trans (h.cluster _ _ _)

theorem placeLine (hl : ∀ (s : State) c v, p (s.setFld (clsReg Reg.CLS_L2LFSR c) 15 0 v) = p s) (s : State) (c pa : Nat)
    (data : List Byte) (mark : Option Nat) : p (s.placeLine c pa data mark) = p s := by
  unfold State.placeLine
  refine (h.deviceStore _ _ _ _).trans ((h.dirtyLine _ _ _ _).trans ?_)
  split
  · refine (h.cluster _ _ _).trans ?_
    split <;> split <;> simp only [State.dropLine, h.cluster, hl]
  · rfl

theorem agentStore (s : State) (pa : Nat) (data : List Byte) : p (s.agentStore pa data) = p s :=
  (h.deviceStore _ _ _ _).trans (dropCopies_keeps h.cluster _ _ _)

end StoreFree

theorem storeFree_journal : StoreFree State.journal :=
  ⟨fun _ _ _ => rfl, fun _ _ _ => rfl, fun _ _ => rfl⟩

theorem storeFree_weft : StoreFree State.weft :=
  ⟨fun _ _ _ => rfl, fun _ _ _ => rfl, fun _ _ => rfl⟩

theorem storeFree_ctl : StoreFree State.ctl :=
  ⟨fun _ _ _ => rfl, fun _ _ _ => rfl, fun _ _ => rfl⟩

@[simp] theorem journal_placeLine (s : State) (c pa : Nat) (data : List Byte) (mark : Option Nat) :
    (s.placeLine c pa data mark).journal = s.journal := storeFree_journal.placeLine (fun _ _ _ => rfl) s c pa data mark

@[simp] theorem weft_placeLine (s : State) (c pa : Nat) (data : List Byte) (mark : Option Nat) :
    (s.placeLine c pa data mark).weft = s.weft := storeFree_weft.placeLine (fun _ _ _ => rfl) s c pa data mark

/-! ## What stores write -/

theorem byte_agentStore (s : State) (pa : Nat) (data : List Byte) (a : Nat) :
    (s.agentStore pa data).byte a = (s.setBytes pa data).byte a := by
  have hmem : (s.dropCopies pa data.length).mem = s.mem := dropCopies_keeps (fun _ _ _ => rfl) s pa data.length
  rw [State.agentStore, byte_deviceStore]
  by_cases h : pa ≤ a ∧ a < pa + data.length
  · obtain ⟨i, rfl⟩ := Nat.exists_eq_add_of_le h.1
    rw [byte_setBytes_in _ _ i data (by omega), byte_setBytes_in _ _ i data (by omega)]
  · rw [byte_setBytes_other _ _ _ data (by omega), byte_setBytes_other _ _ _ data (by omega), byte_of_mem hmem]

theorem byte_agentStore_other (s : State) {pa a : Nat} {data : List Byte} (h : a < pa ∨ pa + data.length ≤ a) :
    (s.agentStore pa data).byte a = s.byte a := by
  rw [byte_agentStore, byte_setBytes_other s pa a data h]

/-- A line written back as a whole. -/
theorem bytes_placeLine (s : State) (c : Nat) {pa n : Nat} {data : List Byte} (mark : Option Nat) (hpa : pa % 64 = 0)
    (hn : data.length = n) : (s.placeLine c pa data mark).bytes pa n = data :=
  bytes_eq hn fun _ hi => byte_placeLine_in s c mark hpa hi

/-! ## A string laid over a line -/

section

variable {l b : List Byte} {o : Nat} (h : o + b.length ≤ l.length)

include h

theorem length_overlay : (overlay l o b).length = l.length := by
  simp only [overlay, List.length_append, List.length_take, List.length_drop]
  omega

theorem getElem_overlay_in {i : Nat} (hi : i < b.length) (hj : o + i < (overlay l o b).length) : (overlay l o b)[o + i] = b[i] := by
  have ho : (l.take o).length = o := by rw [List.length_take]; omega
  simp only [overlay, List.append_assoc]
  rw [List.getElem_append_right (by omega)]
  simp only [ho, Nat.add_sub_cancel_left]
  rw [List.getElem_append_left hi]

theorem getElem_overlay_out {i : Nat} (hi : i < o ∨ o + b.length ≤ i) (hj : i < (overlay l o b).length) :
    (overlay l o b)[i] = l[i]'(by rwa [length_overlay h] at hj) := by
  have ho : (l.take o).length = o := by rw [List.length_take]; omega
  simp only [overlay, List.append_assoc]
  rcases hi with hi | hi
  · rw [List.getElem_append_left (by omega), List.getElem_take]
  · rw [List.getElem_append_right (by omega), List.getElem_append_right (by omega), List.getElem_drop]
    congr 1
    omega

end

/-- The bytes of a line after a store into it of its own bytes with a string laid over them. -/
theorem placeLine_overlay {s t : State} (c : Nat) {pa o : Nat} {b : List Byte} (mark : Option Nat) (hpa : pa % 64 = 0)
    (ho : o + b.length ≤ 64) (ht : t.mem = s.mem) : let z := t.placeLine c pa (overlay (s.bytes pa 64) o b) mark
    z.bytes (pa + o) b.length = b ∧ ∀ a, a < pa + o ∨ pa + o + b.length ≤ a → z.byte a = s.byte a := by
  have hfit : o + b.length ≤ (s.bytes pa 64).length := by rwa [length_bytes]
  have hlen : (overlay (s.bytes pa 64) o b).length = 64 := by rw [length_overlay hfit, length_bytes]
  refine ⟨bytes_eq rfl fun i hi => ?_, fun a ha => ?_⟩
  · rw [Nat.add_assoc, byte_placeLine_in t c mark hpa (by omega), getElem_overlay_in hfit hi]
  · by_cases hin : pa ≤ a ∧ a < pa + 64
    · obtain ⟨i, rfl⟩ := Nat.exists_eq_add_of_le hin.1
      rw [byte_placeLine_in t c mark hpa (by omega), getElem_overlay_out hfit (by omega), getElem_bytes]
    · rw [byte_placeLine_other t c mark hpa (by omega), byte_of_mem ht]

/-- A range within a line touches that line. -/
theorem linesOf_one {pa n : Nat} (hn : 0 < n) (h : pa % 64 + n ≤ 64) : linesOf pa n = [pa / 64 * 64] := by
  have hone : (pa + n - 1) / 64 + 1 - pa / 64 = 1 := by omega
  simp [linesOf, hone, Nat.ne_of_gt hn]

end Sys2Proof.Machine
end

section
/-! OBLIGATIONS. Remote records at their home (second part of O49). -/

namespace Sys2Proof.Machine

open Sys2Proof Sys2Proof.Stated

theorem remLinesOf_seen (s : State) (dev d n : Nat) : (s.seen dev).remLinesOf d n = s.remLinesOf d n := rfl

/-- What the checks of an access find lies in the live region at its offset, and is not empty. -/
theorem recSegment_some {s : State} {dev plot off len pa : Nat} {slot : Option Nat} {w j : Bool}
    (h : s.recSegment dev plot slot off len w = some (pa, j)) : pa = s.reg64 Reg.JNL_LIVE_BASE_LO + off ∧ 0 < len := by
  unfold State.recSegment at h
  dsimp only at h
  split at h
  · cases h
  next hlen =>
    obtain ⟨p, -, hp⟩ := Option.bind_eq_some_iff.1 h
    split at hp
    · cases hp
    · obtain ⟨e, -, he⟩ := Option.bind_eq_some_iff.1 hp
      split at he
      · cases he
      · obtain ⟨rfl, -⟩ := Prod.ext_iff.1 (Option.some.inj he)
        exact ⟨rfl, by omega⟩

/-! ## Reads -/

section

variable {s : State} {dev tag plot off len : Nat} {slot : Option Nat} (hs : s.safe = false)

include hs

theorem ends_recRead {p : State → Prop} (h : p ((s.seen dev).serveRead dev tag plot slot off len)) :
    Ends (.recRead dev tag plot slot off len) s p := by
  refine ⟨_, ?_, h⟩
  change execRecRead dev tag plot slot off len s = _
  exact congrArg Host.Outcome.next (if_neg (ne_true_of_eq_false hs))

theorem recRead_denied (hr : s.recSegment dev plot slot off len false = none) : Ends (.recRead dev tag plot slot off len) s
    fun t => t = ((s.seen dev).setBit Reg.WFT_ERR 7 true).answerRec dev tag 1 0 [] := by
  refine ends_recRead hs ?_
  have hy : (s.seen dev).recSegment dev plot slot off len false = none := hr
  simp only [State.serveRead, hy]

theorem recRead_plain {pa : Nat} (hr : s.recSegment dev plot slot off len false = some (pa, false))
    (hp : s.poisonIn pa len = false) : Ends (.recRead dev tag plot slot off len) s fun t =>
      t = (s.seen dev).answerRec dev tag 0 0 (s.bytes pa len) := by
  refine ends_recRead hs ?_
  have hy : (s.seen dev).recSegment dev plot slot off len false = some (pa, false) := hr
  simp only [State.serveRead, hy, poisonIn_seen, hp, bytes_seen, Bool.false_eq_true, if_false, if_true]

/-- A journaled read names the unsealed epoch of its line, which the home keeps. -/
theorem recRead_unsealed {pa e : Nat} (hr : s.recSegment dev plot slot off len false = some (pa, true))
    (hp : s.poisonIn pa len = false) (hlen : 0 < len) (hline : pa % 64 + len ≤ 64)
    (he : s.unsealedAt (pa / 64 * 64) = some e) (hpos : 0 < e) : Ends (.recRead dev tag plot slot off len) s fun t =>
      t = ((s.seen dev).noteRemRead dev slot e).answerRec dev tag 0 e (s.bytes pa len) := by
  refine ends_recRead hs ?_
  have hy : (s.seen dev).recSegment dev plot slot off len false = some (pa, true) := hr
  have hu : (s.seen dev).unsealedAt (pa / 64 * 64) = some e := he
  have hb : ((s.seen dev).noteRemRead dev slot e).bytes pa len = s.bytes pa len :=
    bytes_of_mem (by cases slot <;> rfl) pa len
  simp only [State.serveRead, hy, poisonIn_seen, hp, linesOf_one hlen hline, List.foldl_cons, List.foldl_nil, hu, Option.getD_some,
    Nat.zero_max, Nat.ne_of_gt hpos, if_true, if_false, Bool.false_eq_true, hb]

end

/-! ## Writes -/

/-- The line entry that a remote store makes. -/
def State.remEntry (s : State) (dev n off : Nat) : RemLine :=
  { dev := dev, slot := n
    line := { off := off / 64 * 64, before := s.bytes (s.reg64 Reg.JNL_LIVE_BASE_LO + off / 64 * 64) 64, after := [] } }

/-- A line entry joins those kept for remote transactions. -/
def State.addRemLine (s : State) (r : RemLine) : State := s.mapWeft fun w => { w with remLines := w.remLines ++ [r] }

section

variable {s : State} {dev tag plot off n pa : Nat} {b : List Byte} (hs : s.safe = false)

include hs

theorem ends_recWrite {slot : Option Nat} {p : State → Prop} (h : p ((s.seen dev).serveWrite dev tag plot slot off b)) :
    Ends (.recWrite dev tag plot slot off b) s p := by
  refine ⟨_, ?_, h⟩
  change execRecWrite dev tag plot slot off b s = _
  exact congrArg Host.Outcome.next (if_neg (ne_true_of_eq_false hs))

theorem recWrite_denied (hr : s.recSegment dev plot (some n) off b.length true = none) :
    Ends (.recWrite dev tag plot (some n) off b) s fun t =>
      t = ((s.seen dev).setBit Reg.WFT_ERR 7 true).answerRec dev tag 1 0 [] := by
  refine ends_recWrite hs ?_
  have hy : (s.seen dev).recSegment dev plot (some n) off b.length true = none := hr
  simp only [State.serveWrite, hy]

theorem recWrite_plain (hr : s.recSegment dev plot (some n) off b.length true = some (pa, false)) :
    Ends (.recWrite dev tag plot (some n) off b) s fun t => t = ((s.seen dev).agentStore pa b).answerRec dev tag 0 0 [] := by
  refine ends_recWrite hs ?_
  have hy : (s.seen dev).recSegment dev plot (some n) off b.length true = some (pa, false) := hr
  simp only [State.serveWrite, hy]

variable (hr : s.recSegment dev plot (some n) off b.length true = some (pa, true)) (hline : off % 64 + b.length ≤ 64)
    (hbase : s.reg64 Reg.JNL_LIVE_BASE_LO % 64 = 0) (hfresh : hasLine (s.remLinesOf dev n) (off / 64 * 64) = false)

include hr hline hbase

omit hs in
/-- A store into one line of the journaled memory touches the line of its offset. -/
theorem linesOf_rec : linesOf (s.reg64 Reg.JNL_LIVE_BASE_LO + off) b.length =
    [s.reg64 Reg.JNL_LIVE_BASE_LO + off / 64 * 64] := by
  obtain ⟨-, hlen⟩ := recSegment_some hr
  rw [linesOf_one hlen (by omega)]
  congr 1
  omega

include hfresh

omit hs in
/-- A store into one fresh line is captured unless 480 line entries stand. -/
theorem serveWrite_journaled : (s.seen dev).serveWrite dev tag plot (some n) off b =
    if 480 < (s.remLinesOf dev n).length + 1 then (s.seen dev).answerRec dev tag 2 0 []
    else ((s.seen dev).captureRemote dev n off b).answerRec dev tag 0 0 [] := by
  have hy : (s.seen dev).recSegment dev plot (some n) off b.length true = some (pa, true) := hr
  have hb : (s.seen dev).reg64 Reg.JNL_LIVE_BASE_LO = s.reg64 Reg.JNL_LIVE_BASE_LO := rfl
  simp only [State.serveWrite, hy, hb, remLinesOf_seen, linesOf_rec hr hline hbase, List.filter_cons, Nat.add_sub_cancel_left,
    hfresh, Bool.not_false, if_true, List.filter_nil, List.length_cons, List.length_nil, Nat.zero_add]

theorem recWrite_full (hfull : (s.remLinesOf dev n).length = 480) : Ends (.recWrite dev tag plot (some n) off b) s fun t =>
    t = (s.seen dev).answerRec dev tag 2 0 [] := by
  refine ends_recWrite hs ?_
  rw [serveWrite_journaled hr hline hbase hfresh, if_pos (by omega)]

omit hs in
/-- A store into one fresh line: its line entry, and the bytes in its line. -/
theorem captureRemote_one : (s.seen dev).captureRemote dev n off b =
    let y := (s.seen dev).addRemLine (s.remEntry dev n off)
    let l := s.reg64 Reg.JNL_LIVE_BASE_LO + off / 64 * 64
    y.placeLine (y.lineCluster l) l (overlay (s.bytes l 64) (off % 64) b) (some y.epoch) := by
  have hb : (s.seen dev).reg64 Reg.JNL_LIVE_BASE_LO = s.reg64 Reg.JNL_LIVE_BASE_LO := rfl
  have hlo : max (s.reg64 Reg.JNL_LIVE_BASE_LO + off / 64 * 64) (s.reg64 Reg.JNL_LIVE_BASE_LO + off) =
      s.reg64 Reg.JNL_LIVE_BASE_LO + off := by omega
  have hhi : min (s.reg64 Reg.JNL_LIVE_BASE_LO + off / 64 * 64 + 64) (s.reg64 Reg.JNL_LIVE_BASE_LO + off + b.length) =
      s.reg64 Reg.JNL_LIVE_BASE_LO + off + b.length := by omega
  have hoff : s.reg64 Reg.JNL_LIVE_BASE_LO + off - (s.reg64 Reg.JNL_LIVE_BASE_LO + off / 64 * 64) = off % 64 := by omega
  simp only [State.captureRemote, hb, linesOf_rec hr hline hbase, List.foldl_cons, List.foldl_nil, remLinesOf_seen,
    Nat.add_sub_cancel_left, hfresh, Bool.false_eq_true, if_false, hlo, hhi, hoff, slice, Nat.sub_self, List.drop_zero,
    List.take_length, bytes_seen]
  rfl

/-- A store below the limit is captured and answered. -/
theorem recWrite_captured (hroom : (s.remLinesOf dev n).length < 480) : Ends (.recWrite dev tag plot (some n) off b) s fun t =>
    let base := s.reg64 Reg.JNL_LIVE_BASE_LO
    ∃ z : State, t = z.answerRec dev tag 0 0 [] ∧
      z.bytes (base + off) b.length = b ∧ (∀ a, a < base + off ∨ base + off + b.length ≤ a → z.byte a = s.byte a) ∧
      z.weft.remLines = s.weft.remLines ++ [s.remEntry dev n off] := by
  refine ends_recWrite hs ?_
  rw [serveWrite_journaled hr hline hbase hfresh, if_neg (by omega), captureRemote_one hr hline hbase hfresh]
  intro base
  have hsum : base + off / 64 * 64 + off % 64 = base + off := by omega
  obtain ⟨hin, hout⟩ := placeLine_overlay (s := s) (t := (s.seen dev).addRemLine (s.remEntry dev n off))
    (((s.seen dev).addRemLine (s.remEntry dev n off)).lineCluster (base + off / 64 * 64)) (b := b) (some s.epoch)
    (show (base + off / 64 * 64) % 64 = 0 by omega) hline rfl
  rw [hsum] at hin hout
  refine ⟨_, rfl, hin, hout, ?_⟩
  dsimp only
  rw [weft_placeLine]
  rfl

end

end Sys2Proof.Machine
end

section
/-! SUPPORT. The journal engine takes a record: what it writes and where, what it keeps. -/

namespace Sys2Proof.Machine

open Sys2Proof Sys2Proof.Stated

/-! ## Lengths -/

@[simp] theorem length_zeros (n : Nat) : (zeros n).length = n := by simp [zeros]

@[simp] theorem length_fitTo (n : Nat) (l : List Byte) : (fitTo n l).length = n := by
  simp only [fitTo, List.length_take, List.length_append, length_zeros]
  omega

@[simp] theorem length_lineWord (off : Nat) : (lineWord off).length = 8 := by simp [lineWord]

/-- Line entries as bytes: a line word and 64 bytes each. -/
theorem length_entries (l : List LineEntry) (f : LineEntry → List Byte) :
    (l.flatMap fun e => lineWord e.off ++ fitTo 64 (f e)).length = 72 * l.length := by
  induction l with
  | nil => rfl
  | cons e l ih =>
    rw [List.flatMap_cons, List.length_append, ih]
    simp
    omega

theorem length_bytes_record (r : JRecord) : r.bytes.length = r.size := by
  simp only [JRecord.bytes, JRecord.size, recordSize, List.length_append, length_leBytes, padTo, length_zeros, length_entries, up8]
  omega

theorem length_body (g : Undo) : (g.recs.flatMap JRecord.bytes).length = g.bodyLen := by
  rw [List.length_flatMap, Undo.bodyLen]
  simp only [length_bytes_record]

/-! ## Circles -/

/-- A circle's writes stay in the circle. -/
theorem byte_writeCircle_other (s : State) {base size a : Nat} (off : Nat) {b : List Byte} (hb : b.length ≤ size)
    (ha : a < base ∨ base + size ≤ a) : (s.writeCircle base size off b).byte a = s.byte a := by
  unfold State.writeCircle
  dsimp only
  have hoff : off % max 1 size < max 1 size := Nat.mod_lt _ (by omega)
  split
  next hfit => exact byte_agentStore_other s (by omega)
  next hfit =>
    have hmax : max 1 size = size := by omega
    rw [hmax] at hoff ⊢
    rw [byte_agentStore_other _ (by rw [List.length_drop]; omega), byte_agentStore_other _ (by rw [List.length_take]; omega)]

namespace StoreFree

variable {α : Type} {p : State → α} (h : StoreFree p)

include h

theorem writeCircle (s : State) (base size off : Nat) (b : List Byte) : p (s.writeCircle base size off b) = p s := by
  unfold State.writeCircle
  dsimp only
  split
  · exact h.agentStore ..
  · exact (h.agentStore _ _ _).trans (h.agentStore _ _ _)

theorem layBodies (hh : ∀ (s : State) v, p (s.setReg64 Reg.JNL_HEAD_LO v) = p s) (s : State) (off : Nat) (l : List Undo) :
    p (s.layBodies off l) = p s := by
  induction l generalizing s off with
  | nil => exact hh ..
  | cons g l ih =>
    cases l with
    | nil => exact (hh _ _).trans (h.writeCircle _ _ _ _ _)
    | cons g' l => exact (ih _ _).trans (h.writeCircle _ _ _ _ _)

end StoreFree

theorem ctl_writeCircle (s : State) (base size off : Nat) (b : List Byte) : (s.writeCircle base size off b).ctl = s.ctl :=
  storeFree_ctl.writeCircle s base size off b

theorem reg64_of_ctl {s t : State} (h : t.ctl = s.ctl) (o : Nat) : t.reg64 o = s.reg64 o := by
  simp only [State.reg64, State.reg, h]

theorem fld_of_ctl {s t : State} (h : t.ctl = s.ctl) (o hi lo : Nat) : t.fld o hi lo = s.fld o hi lo := by
  simp only [State.fld, State.reg, h]

theorem undoSize_of_ctl {s t : State} (h : t.ctl = s.ctl) : t.undoSize = s.undoSize := by
  rw [State.undoSize, State.undoSize, fld_of_ctl h]

theorem areaSize_of_ctl {s t : State} (h : t.ctl = s.ctl) : t.areaSize = s.areaSize := by
  rw [State.areaSize, State.areaSize, fld_of_ctl h, fld_of_ctl h]

theorem areaBase_of_ctl {s t : State} (h : t.ctl = s.ctl) : t.areaBase = s.areaBase := by
  rw [State.areaBase, State.areaBase, reg64_of_ctl h, undoSize_of_ctl h]

/-- Bodies that are laid out stay in the sheaf area. -/
theorem byte_layBodies_other (s : State) {a : Nat} (off : Nat) {l : List Undo} (hl : ∀ g ∈ l, g.bodyLen ≤ s.areaSize)
    (ha : a < s.areaBase ∨ s.areaBase + s.areaSize ≤ a) : (s.layBodies off l).byte a = s.byte a := by
  have hbody (s : State) (o : Nat) (g : Undo) (hg : g.bodyLen ≤ s.areaSize)
      (ha : a < s.areaBase ∨ s.areaBase + s.areaSize ≤ a) : (s.writeArea o (g.recs.flatMap JRecord.bytes)).byte a = s.byte a :=
    byte_writeCircle_other s o (by rwa [length_body]) ha
  induction l generalizing s off with
  | nil => exact byte_of_setReg64 ..
  | cons g l ih =>
    have hg := hbody s (off + 128) g (hl g List.mem_cons_self) ha
    cases l with
    | nil => exact (byte_of_setReg64 ..).trans hg
    | cons g' l =>
      have hctl : (s.writeArea (off + 128) (g.recs.flatMap JRecord.bytes)).ctl = s.ctl := ctl_writeCircle ..
      refine (ih _ _ (fun x hx => ?_) ?_).trans hg
      · rw [areaSize_of_ctl hctl]
        exact hl x (List.mem_cons_of_mem _ hx)
      · rwa [areaSize_of_ctl hctl, areaBase_of_ctl hctl]

/-! ## A record taken -/

/-- A group with one more record. -/
def Undo.add (g : Undo) (r : JRecord) : Undo := { g with recs := g.recs ++ [r] }

theorem bodyLen_add (g : Undo) (r : JRecord) : (g.add r).bodyLen = g.bodyLen + r.size := by
  simp [Undo.add, Undo.bodyLen]

/-- A record that has joined its group, its before-images in the undo area, before the bodies are laid out. -/
def State.tookRecord (s : State) (e : Nat) (r : JRecord) : State := (s.mapUndo e fun g => g.add r).writeUndo r

theorem tookRecord_keeps {α : Type} {p : State → α} (h : StoreFree p) (hj : ∀ (s : State) f, p (s.mapJournal f) = p s)
    (s : State) (e : Nat) (r : JRecord) : p (s.tookRecord e r) = p s := by
  unfold State.tookRecord State.writeUndo State.mapUndo
  exact (hj _ _).trans ((h.writeCircle _ _ _ _ _).trans (hj _ _))

/-- What no record taken changes. -/
theorem appendRecord_keeps {α : Type} {p : State → α} (h : StoreFree p) (hj : ∀ (s : State) f, p (s.mapJournal f) = p s)
    (hh : ∀ (s : State) v, p (s.setReg64 Reg.JNL_HEAD_LO v) = p s) (s : State) (e : Nat) (r : JRecord) :
    p (s.appendRecord e r) = p s :=
  (h.layBodies hh (s.tookRecord e r) _ _).trans (tookRecord_keeps h hj s e r)

theorem journal_tookRecord (s : State) (e : Nat) (r : JRecord) : (s.tookRecord e r).journal.sheaves = s.journal.sheaves ∧
    (s.tookRecord e r).journal.undo = s.journal.undo.map fun g => if g.epoch = e then g.add r else g := by
  have hcircle (s : State) (base size off : Nat) (b : List Byte) : (s.writeCircle base size off b).journal = s.journal :=
    storeFree_journal.writeCircle ..
  rw [State.tookRecord, State.writeUndo, mapJournal_journal, hcircle]
  exact ⟨rfl, rfl⟩

theorem undo_appendRecord (s : State) (e : Nat) (r : JRecord) :
    (s.appendRecord e r).journal.undo = s.journal.undo.map fun g => if g.epoch = e then g.add r else g := by
  have hlay : (s.appendRecord e r).journal = (s.tookRecord e r).journal := storeFree_journal.layBodies (fun _ _ => rfl) ..
  rw [hlay, (journal_tookRecord s e r).2]

theorem size_pos (r : JRecord) : 0 < r.size := by
  unfold JRecord.size recordSize
  omega

/-- A record that may be accepted has room in both areas. -/
theorem hasRoom_of_commitBlock {s : State} {e : Nat} {r : JRecord}
    (h : s.commitBlock e r.result.length r.lines.length = none) : 72 * r.lines.length ≤ s.undoSize ∧ r.size ≤ s.areaFree := by
  unfold State.commitBlock at h
  dsimp only at h
  split at h
  · cases h
  split at h
  · cases h
  split at h
  · cases h
  unfold JRecord.size
  omega

/-- A body that stands in the sheaf area, or is to be placed there, fits it beside a further record. -/
theorem bodyLen_le_areaSize {s : State} {n : Nat} (hn : 0 < n) (hfree : n ≤ s.areaFree) {g : Undo} (hg : g ∈ s.journal.undo)
    (hown : (s.ownSheaf g.epoch).isNone = true) : g.bodyLen + n ≤ s.areaSize := by
  have hle : sheafFrame + g.bodyLen ≤ s.reserved :=
    List.single_le_sum (by simp) _ (List.mem_map.2 ⟨g, List.mem_filter.2 ⟨hg, hown⟩, rfl⟩)
  unfold State.areaFree at hfree
  omega

/-- The bodies being built with a further record fit the sheaf area. -/
theorem openGroups_tookRecord {s : State} {e : Nat} {r : JRecord} (hfree : r.size ≤ s.areaFree) {g : Undo}
    (hg : g ∈ (s.tookRecord e r).openGroups) : g.bodyLen ≤ s.areaSize := by
  obtain ⟨hsheaves, hundo⟩ := journal_tookRecord s e r
  simp only [State.openGroups, State.ownSheaf, hsheaves, hundo, List.mem_filter, List.mem_map, Bool.and_eq_true] at hg
  obtain ⟨⟨k, hk, rfl⟩, -, hown⟩ := hg
  split at hown
  next he =>
    rw [if_pos he, bodyLen_add]
    exact bodyLen_le_areaSize (size_pos r) hfree hk hown
  next he =>
    rw [if_neg he]
    exact (Nat.le_add_right _ _).trans (bodyLen_le_areaSize (size_pos r) hfree hk hown)

/-- A record taken writes the undo area and the sheaf area only. -/
theorem byte_appendRecord_other {s : State} {e a : Nat} {r : JRecord} (hundo : 72 * r.lines.length ≤ s.undoSize)
    (hfree : r.size ≤ s.areaFree) (ha : a < s.reg64 Reg.JNL_RING_BASE_LO ∨ s.areaBase + s.areaSize ≤ a) :
    (s.appendRecord e r).byte a = s.byte a := by
  have hctl : (s.tookRecord e r).ctl = s.ctl := tookRecord_keeps storeFree_ctl (fun _ _ => rfl) s e r
  have hbase : s.areaBase = s.reg64 Reg.JNL_RING_BASE_LO + s.undoSize := rfl
  have hbytes : (s.tookRecord e r).byte a = s.byte a := by
    refine (byte_writeCircle_other (s.mapUndo e fun g => g.add r) (base := s.reg64 Reg.JNL_RING_BASE_LO) (size := s.undoSize)
      s.journal.undoHead ?_ (by omega)).trans rfl
    rwa [length_entries]
  refine (byte_layBodies_other (s.tookRecord e r) _ (fun g hg => ?_) ?_).trans hbytes
  · rw [areaSize_of_ctl hctl]
    exact openGroups_tookRecord hfree hg
  · rw [areaSize_of_ctl hctl, areaBase_of_ctl hctl]
    omega

end Sys2Proof.Machine
end

section
/-! OBLIGATIONS. The notices of spanning transactions at a home, and remote records as a whole (O49). -/

namespace Sys2Proof.Machine

open Sys2Proof Sys2Proof.Stated

/-! ## What a notice keeps and drops -/

/-- What neither frames nor a bit of WFT_ERR change, a frame sent leaves alone. -/
theorem weftSend_keeps {α : Type} {p : State → α} (ho : ∀ (s : State) o, p (s.emit o) = p s)
    (hb : ∀ s : State, p (s.setBit Reg.WFT_ERR 4 true) = p s) (s : State) (dst kind : Nat) (b : List Byte) :
    p (s.weftSend dst kind b) = p s := by
  unfold State.weftSend
  split
  · rfl
  · split
    · exact ho ..
    · exact hb s

theorem weft_weftSend (s : State) (dst kind : Nat) (b : List Byte) : (s.weftSend dst kind b).weft = s.weft :=
  weftSend_keeps (p := State.weft) (fun _ _ => rfl) (fun _ => rfl) s dst kind b

theorem journal_weftSend (s : State) (dst kind : Nat) (b : List Byte) : (s.weftSend dst kind b).journal = s.journal :=
  weftSend_keeps (p := State.journal) (fun _ _ => rfl) (fun _ => rfl) s dst kind b

/-- What neither an event nor RINGSTOP changes, the check of the ring leaves alone. -/
theorem ringCheck_keeps {α : Type} {p : State → α} (hb : ∀ s : State, p (s.setBit Reg.JNL_STATUS 2 true) = p s)
    (he : ∀ (s : State) src det, p (s.event src 0 det) = p s) (s : State) : p s.ringCheck = p s := by
  unfold State.ringCheck
  split
  · exact (he _ _ _).trans (hb s)
  · rfl

theorem weft_ringCheck (s : State) : s.ringCheck.weft = s.weft :=
  ringCheck_keeps (p := State.weft) (fun _ => rfl)
    (fun s src det => event_keeps State.weft (fun _ _ => rfl) (fun _ _ => rfl) (fun _ _ _ _ => rfl) s src det (by decide)) s

theorem journal_ringCheck (s : State) : s.ringCheck.journal = s.journal :=
  ringCheck_keeps (p := State.journal) (fun _ => rfl)
    (fun s src det => event_keeps State.journal (fun _ _ => rfl) (fun _ _ => rfl) (fun _ _ _ _ => rfl) s src det (by decide)) s

theorem inner_ringCheck (s : State) : s.ringCheck.inner = s.inner :=
  ringCheck_keeps (p := State.inner) (fun _ => rfl) (fun s src det => inner_event s src 0 det) s

theorem remLinesOf_dropRemote (s : State) (dev n : Nat) : (s.dropRemote dev n).remLinesOf dev n = [] := by
  have hnone : ((s.weft.remLines.filter fun r => !(r.dev == dev && r.slot == n)).filter
      fun r => r.dev = dev ∧ r.slot = n) = [] := by
    refine List.filter_eq_nil_iff.2 fun r hr => ?_
    simpa [imp_iff_not_or] using (List.mem_filter.1 hr).2
  exact congrArg (List.map (·.line)) hnone

theorem remLinesOf_of_weft {s t : State} (h : t.weft = s.weft) (dev n : Nat) : t.remLinesOf dev n = s.remLinesOf dev n := by
  rw [State.remLinesOf, State.remLinesOf, h]

/-- A vote is owed between an own epoch and a device. -/
theorem oweVote_owes (s : State) (mine dev theirs n : Nat) (failed : Bool) :
    ∃ v ∈ (s.oweVote mine dev theirs n failed).weft.votes, v.mine = mine ∧ v.dev = dev := by
  unfold State.oweVote
  dsimp only
  rw [mapWeft_weft]
  split
  next hany =>
    obtain ⟨v, hv, hsame⟩ := List.any_eq_true.1 hany
    refine ⟨_, List.mem_map.2 ⟨v, hv, rfl⟩, ?_⟩
    rw [if_pos hsame]
    simp only [Bool.and_eq_true, beq_iff_eq] at hsame
    exact hsame.1
  next => exact ⟨_, List.mem_append_right _ List.mem_cons_self, rfl, rfl⟩

/-! ## The notices -/

section

variable {s : State} {dev n : Nat} {b : List Byte} (hs : s.safe = false)

include hs

theorem ends_spanNotice_commit {p : State → Prop} (hb : beAt b 0 1 = 1)
    (h : p ((s.seen dev).spanCommit dev n (beAt b 21 8) (beAt b 29 2))) : Ends (.spanNotice dev n b) s p := by
  refine ⟨_, ?_, h⟩
  change execSpanNotice dev n b s = _
  exact (congrArg Host.Outcome.next (if_neg (ne_true_of_eq_false hs))).trans (congrArg Host.Outcome.next (if_pos hb))

theorem ends_spanNotice_abort {p : State → Prop} (hb : beAt b 0 1 ≠ 1) (h : p ((s.seen dev).spanUndo dev n)) :
    Ends (.spanNotice dev n b) s p := by
  refine ⟨_, ?_, h⟩
  change execSpanNotice dev n b s = _
  exact (congrArg Host.Outcome.next (if_neg (ne_true_of_eq_false hs))).trans (congrArg Host.Outcome.next (if_neg hb))

/-- A transaction that neither stored nor read unsealed data here is accepted without an epoch. -/
theorem spanNotice_nothing (hb : beAt b 0 1 = 1) (hlines : s.remLinesOf dev n = [])
    (hreads : ∀ r ∈ s.weft.remReads, ¬(r.dev = dev ∧ r.slot = n)) :
    Ends (.spanNotice dev n b) s fun t => t = (s.seen dev).acceptSpan dev n 0 := by
  refine ends_spanNotice_commit hs hb ?_
  have hl : (s.seen dev).remLinesOf dev n = [] := hlines
  have hr : ((s.seen dev).weft.remReads.find? fun r => r.dev = dev ∧ r.slot = n) = none :=
    List.find?_eq_none.2 fun r hm => by simpa using hreads r hm
  simp only [State.spanCommit, hl, hr, Option.map_none, Option.getD_none, Nat.not_lt_zero, if_false]

/-- The before-image of the one line that a transaction stored goes back. -/
theorem spanNotice_abort {e : LineEntry} (hb : beAt b 0 1 ≠ 1) (hlines : s.remLinesOf dev n = [e]) (hlen : e.before.length = 64)
    (hbase : (s.reg64 Reg.JNL_LIVE_BASE_LO + e.off) % 64 = 0) : Ends (.spanNotice dev n b) s fun t =>
      t.bytes (s.reg64 Reg.JNL_LIVE_BASE_LO + e.off) 64 = e.before ∧ t.remLinesOf dev n = [] ∧ t.journal = s.journal := by
  refine ends_spanNotice_abort hs hb ?_
  have hl : (s.seen dev).remLinesOf dev n = [e] := hlines
  simp only [State.spanUndo, hl, List.reverse_cons, List.reverse_nil, List.nil_append, List.foldl_cons, List.foldl_nil]
  refine ⟨?_, remLinesOf_dropRemote .., ?_⟩
  · rw [State.dropRemote, bytes_of_mem (mapWeft_mem ..)]
    exact bytes_placeLine _ _ _ hbase hlen
  · rw [State.dropRemote, mapWeft_journal, journal_placeLine]
    rfl

end

/-! ## A commit notice with stores -/

/-- The record of a spanning transaction at a home. -/
def State.spanRecord (s : State) (slot reqid plot : Nat) (lines : List LineEntry) : JRecord :=
  { reqid := reqid, plot := plot, queue := 0xFFFF, slot := slot, span := true, result := []
    lines := lines.map fun e => { e with after := s.bytes (s.reg64 Reg.JNL_LIVE_BASE_LO + e.off) 64 } }

/-- A record of a spanning transaction is taken, voted for and accepted. -/
def State.acceptRecord (s : State) (dev slot : Nat) (r : JRecord) : State :=
  (((s.appendRecord s.epoch r).oweVote (s.appendRecord s.epoch r).epoch dev 0 1 false).acceptSpan dev slot
    (s.appendRecord s.epoch r).epoch).ringCheck

theorem spanCommit_stores {s : State} {dev slot reqid plot : Nat} (hne : s.remLinesOf dev slot ≠ [])
    (hopen : s.tick.epochOpen = true) (hroom : s.commitBlock s.epoch 0 (s.remLinesOf dev slot).length = none) : s.spanCommit dev slot reqid plot =
      s.acceptRecord dev slot (s.spanRecord slot reqid plot (s.remLinesOf dev slot)) := by
  unfold State.spanCommit
  split
  next h => exact absurd h hne
  next =>
    rw [if_neg (by simp [hopen]), hroom]
    rfl

section

variable {s : State} {dev slot : Nat} {r : JRecord}

theorem epoch_appendRecord (e : Nat) : (s.appendRecord e r).epoch = s.epoch := by
  refine appendRecord_keeps (p := State.epoch) ⟨fun _ _ _ => rfl, fun _ _ _ => rfl, fun _ _ => rfl⟩ (fun _ _ => rfl)
    (fun s v => ?_) s e r
  simp [State.epoch, State.reg64, reg_setReg64, Reg.TCK_EPOCH_LO, Reg.JNL_HEAD_LO]

theorem journal_acceptRecord : (s.acceptRecord dev slot r).journal = (s.appendRecord s.epoch r).journal := by
  rw [State.acceptRecord, journal_ringCheck, State.acceptSpan, journal_weftSend]
  rfl

theorem weft_acceptRecord : (s.acceptRecord dev slot r).weft =
    (((s.appendRecord s.epoch r).oweVote s.epoch dev 0 1 false).dropRemote dev slot).weft := by
  rw [State.acceptRecord, weft_ringCheck, State.acceptSpan, weft_weftSend, epoch_appendRecord]

theorem mem_acceptRecord : (s.acceptRecord dev slot r).mem = (s.appendRecord s.epoch r).mem := by
  refine (mem_of_cells (cells_of_inner (inner_ringCheck _))).trans ?_
  exact (mem_of_cells (cells_of_inner (inner_weftSend _ _ _ _))).trans rfl

end

section

variable {s : State} {dev n : Nat} {b : List Byte} (hs : s.safe = false) (hb : beAt b 0 1 = 1) (hne : s.remLinesOf dev n ≠ [])
    (hopen : s.tick.epochOpen = true) (hroom : s.commitBlock s.epoch 0 (s.remLinesOf dev n).length = none)

include hs hb hne hopen hroom

/-- A commit notice with stores: the record joins the open group, a vote is owed, the entries go, and only the ring is written. -/
theorem spanNotice_stores : Ends (.spanNotice dev n b) s fun t =>
    (∀ g ∈ s.journal.undo, g.epoch = s.epoch → ∃ r, { g with recs := g.recs ++ [r] } ∈ t.journal.undo ∧ r.span = true ∧
      r.reqid = beAt b 21 8 ∧ r.plot = beAt b 29 2 ∧ r.lines.map (·.off) = (s.remLinesOf dev n).map (·.off)) ∧
    (∃ v ∈ t.weft.votes, v.mine = s.epoch ∧ v.dev = dev) ∧ t.remLinesOf dev n = [] ∧
    ∀ a, a < s.reg64 Reg.JNL_RING_BASE_LO ∨ s.areaBase + s.areaSize ≤ a → t.byte a = s.byte a := by
  refine ends_spanNotice_commit hs hb ?_
  rw [spanCommit_stores (s := s.seen dev) hne hopen hroom, remLinesOf_seen]
  generalize hr : (s.seen dev).spanRecord n (beAt b 21 8) (beAt b 29 2) (s.remLinesOf dev n) = r
  obtain ⟨hspan, hreqid, hplot, hres, hoffs⟩ : r.span = true ∧ r.reqid = beAt b 21 8 ∧ r.plot = beAt b 29 2 ∧ r.result = [] ∧
      r.lines.map (·.off) = (s.remLinesOf dev n).map (·.off) := by
    subst hr
    exact ⟨rfl, rfl, rfl, rfl, List.map_map ..⟩
  have hlen : r.lines.length = (s.remLinesOf dev n).length := by
    simpa using congrArg List.length hoffs
  have hblock : (s.seen dev).commitBlock s.epoch r.result.length r.lines.length = none := by
    rw [hres, hlen]
    exact hroom
  obtain ⟨hundo, hfree⟩ := hasRoom_of_commitBlock hblock
  refine ⟨fun g hg he => ⟨r, ?_, hspan, hreqid, hplot, hoffs⟩, ?_, ?_, fun a ha => ?_⟩
  · rw [journal_acceptRecord, undo_appendRecord]
    exact List.mem_map.2 ⟨g, hg, if_pos he⟩
  · rw [weft_acceptRecord]
    exact oweVote_owes ..
  · exact (remLinesOf_of_weft weft_acceptRecord dev n).trans (remLinesOf_dropRemote ..)
  · rw [byte_of_mem mem_acceptRecord, byte_appendRecord_other hundo hfree ha]
    rfl

end

/-- Settles O49: remote accesses and notices at the home, answers, acceptances, votes and peer requests at the requester. That a
refused store ends its transaction with CAPTURE_REFUSED is log entry 61, the cluster that takes a remote store's line entry 23. -/
theorem remoteRecords : Obligations.RemoteRecords := by
  refine ⟨fun s dev tag plot off len slot hs =>
      ⟨recRead_denied hs, fun pa => recRead_plain hs, fun pa e => recRead_unsealed hs⟩,
    fun s dev tag plot off n b hs => ⟨recWrite_denied hs, fun pa => recWrite_plain hs, fun pa hr hfull hline hbase hfresh =>
      recWrite_full hs hr hline hbase hfresh hfull, fun pa hr hroom hline hbase hfresh =>
      recWrite_captured hs hr hline hbase hfresh hroom⟩,
    fun s dev n b hs => ⟨spanNotice_nothing hs, spanNotice_stores hs, fun e => spanNotice_abort hs⟩,
    fun s tag e b r hs hr => ⟨recRsp_load hs hr, recRsp_store hs hr, recRsp_refused hs hr, recRsp_poison hs hr⟩,
    fun s dev n e ok w hs hw => ⟨fun d => spanAccept_open hs hw, spanAccept_last hs hw, fun τ => spanAcceptTimeout_all hs hw⟩,
    fun s τ dev e c hs hz => ⟨vote_sealed τ dev e c hs hz, vote_failed τ dev e c hs hz⟩,
    fun s dev tag b hs => ⟨fun w => peerReq_refused dev tag hs, fun pa => peerReq_write dev tag hs,
      fun pa => peerReq_read dev tag hs⟩,
    fun s τ tag p c o b hc htag hgroup hpath hop hkind hend hwhat =>
      ⟨peerRsp_done b hc htag hgroup hpath hop hkind hwhat, fun st =>
        peerRsp_failed b hc htag hgroup hpath hop hkind hend hwhat⟩⟩

end Sys2Proof.Machine
end

section
/-! SUPPORT. What sending a packet and handing over a completion leave alone, for any observation of the state; the journal
when a transaction leaves its unit. -/

namespace Sys2Proof.Machine

open Sys2Proof Sys2Proof.Stated

/-! ## Sending -/

/-- The registers that sending may change: those of an event's record and the error bits of keys and ports. -/
def sendRegs : List Nat := Reg.CPH_ERR :: Reg.ETH_ERR :: gleanRegs

/-- What neither the Gleaner, the Almanac, the ports, the key slots, what has left the package nor those registers decide. -/
structure SendFree {α : Type} (p : State → α) : Prop where
  gleaner : ∀ (s : State) f, p (s.mapGleaner f) = p s
  almanac : ∀ (s : State) f, p (s.mapAlmanac f) = p s
  eth     : ∀ (s : State) f, p (s.mapEth f) = p s
  cipher  : ∀ (s : State) f, p (s.mapCipher f) = p s
  emit    : ∀ (s : State) o, p (s.emit o) = p s
  regs    : ∀ (s : State) o v, o ∈ sendRegs → p (s.setReg o v) = p s

namespace SendFree

variable {α : Type} {p : State → α} (h : SendFree p)

include h

theorem glean (s : State) (source cls det : Nat) : p (s.glean source cls det) = p s :=
  glean_keeps p h.gleaner h.almanac (fun s o v ho => h.regs s o v (by simp [sendRegs, ho])) s source cls det

theorem setBit (s : State) {o : Nat} (b : Nat) (v : Bool) (ho : o ∈ sendRegs) : p (s.setBit o b v) = p s := h.regs s o _ ho

theorem mirrorSend (s : State) (kind : Nat) (b : List Byte) : p (s.mirrorSend kind b) = p s := by
  have hlink (s : State) (l : Nat) : p (s.linkSend l kind b) = p s := by
    unfold State.linkSend
    split
    · rfl
    · exact h.emit ..
  exact (hlink _ _).trans (hlink _ _)

theorem mirrorKey (s : State) (n : Nat) : p (s.mirrorKey n) = p s := by
  unfold State.mirrorKey
  split
  · rfl
  split
  · unfold State.sendKey
    split
    · unfold State.sendKeyOf
      split
      · exact h.mirrorSend ..
      · rfl
    · rfl
  · rfl

theorem chargeSlot (s : State) (n : Nat) : p (s.chargeSlot n).1 = p s := by
  unfold State.chargeSlot
  split
  · rfl
  · extract_lets k' near charged mirrored
    have hm : p mirrored = p s := by
      unfold mirrored
      split
      · exact (h.mirrorKey _ _).trans (h.cipher _ _)
      · exact h.cipher _ _
    split
    · exact (h.glean _ _ _ _).trans ((h.setBit _ _ _ (by decide)).trans hm)
    · exact hm

theorem chargeSa (s : State) (n : Nat) (a : Sa) : p (s.chargeSa n a) = p s := by
  unfold State.chargeSa
  extract_lets r warned
  have hw : p warned = p s := by
    unfold warned
    split
    · exact (h.glean _ _ _ _).trans ((h.setBit _ _ _ (by decide)).trans (h.chargeSlot s _))
    · exact h.chargeSlot s _
  split
  · exact (h.setBit _ _ _ (by decide)).trans hw
  · exact hw

theorem sendFrame (s : State) (n pcp : Nat) (o : Out) : p (s.sendFrame n pcp o) = p s := by
  have hput : p (s.putFrame n pcp o) = p s := by
    unfold State.putFrame
    split
    · split
      · split
        · exact h.setBit _ _ _ (by decide)
        · rfl
      · exact (h.emit _ _).trans ((h.chargeSa _ _ _).trans (h.eth _ _))
    · exact h.emit ..
  unfold State.sendFrame
  split
  · rfl
  split
  · exact h.eth ..
  · exact hput

theorem sendPacket (s : State) (x : Session) (pcp type psn : Nat) (b : List Byte) : p (s.sendPacket x pcp type psn b) = p s := by
  unfold State.sendPacket
  dsimp only
  split
  · exact h.eth ..
  · exact (h.sendFrame _ _ _ _).trans (h.eth _ _)

theorem sendAck (s : State) (r : SessRef) : p (s.sendAck r) = p s := by
  unfold State.sendAck
  split
  · exact h.sendPacket ..
  · rfl

theorem pushSession (n : Nat) (s : State) (r : SessRef) : p (s.pushSession n r) = p s := by
  induction n generalizing s with
  | zero => rfl
  | succ n ih =>
    unfold State.pushSession
    split
    · rfl
    split
    · rfl
    dsimp only
    split
    · exact (ih _).trans ((h.sendPacket _ _ _ _ _ _).trans (h.eth _ _))
    · rfl

theorem flushEvents (s : State) (r : SessRef) : p (s.flushEvents r) = p s := by
  have hpush (s : State) : p (s.pushAll r) = p s := by
    unfold State.pushAll
    split
    · exact h.pushSession ..
    · rfl
  unfold State.flushEvents
  split
  · rfl
  split
  · rfl
  · unfold State.queuePacket
    split
    · exact (hpush _).trans ((h.eth _ _).trans (h.eth _ _))
    · exact h.eth ..

/-! ## Completions -/

theorem addEvent (s : State) (whole : Bool) (channel : Nat) (c : Completion) : p (s.addEvent whole channel c) = p s := by
  unfold State.addEvent
  extract_lets r
  split
  · exact h.eth ..
  · extract_lets flushed
    have hf : p flushed = p s := by
      unfold flushed
      split
      · exact h.flushEvents ..
      · rfl
    split
    · exact hf
    · dsimp only
      split
      · exact (h.flushEvents _ _).trans ((h.eth _ _).trans hf)
      · exact (h.eth _ _).trans hf

theorem windowsRise (s : State) : p s.windowsRise = p s := by
  refine foldl_keeps p (fun s r => ?_) s _
  unfold State.windowRise
  split
  · rfl
  split
  · exact (h.eth _ _).trans (h.sendAck _ _)
  · rfl

theorem handAll (hand : ∀ (s : State) c, p (s.handCompletion c) = p s) (s : State) (cs : List Completion) :
    p (s.handAll cs) = p s := by
  have hevents (s : State) (l : List (Nat × Completion)) : p (s.addEvents l) = p s :=
    (foldl_keeps p h.flushEvents _ _).trans (foldl_keeps p (fun s (c : Nat × Completion) => h.addEvent s _ c.1 c.2) _ _)
  exact (h.windowsRise _).trans ((hevents _ _).trans (foldl_keeps p hand _ _))

end SendFree

theorem sendFree_journal : SendFree State.journal :=
  ⟨fun _ _ => rfl, fun _ _ => rfl, fun _ _ => rfl, fun _ _ => rfl, fun _ _ => rfl, fun _ _ _ _ => rfl⟩

theorem journal_complete (s : State) (t : TSlot) (c : Completion) (wait : Option Nat) :
    (s.complete t c wait).journal = s.journal := by
  unfold State.complete
  split
  · refine sendFree_journal.handAll (fun s c => ?_) s [c]
    unfold State.handCompletion
    split <;> rfl
  · rfl

/-! ## The journal at the end of an attempt -/

/-- An attempt that ends leaves the journal's queue of COMMITs and nothing else of the journal. -/
theorem journal_leave (s : State) (u : Nat) (t : TSlot) :
    (s.leave u t).journal = { s.journal with waits := s.journal.waits.filter fun w => w.unit ≠ u } := by
  have hcharge : (s.charge u t.plot t.account).journal = s.journal := mapPlot_journal ..
  have hwounds (s : State) : (s.dropWounds u).journal = s.journal := by
    refine foldl_keeps State.journal (fun s e => ?_) s _
    cases e with
    | wound slice attempt =>
      change (s.lateWound slice).journal = s.journal
      unfold State.lateWound
      split <;> rfl
    | _ => rfl
  have hop (s : State) (r : StakeRec) (op : SliceOp) (who : Party) : (s.sendStakeOp r.home r.ns r.key who op).journal = s.journal := by
    unfold State.sendStakeOp
    split
    · rfl
    · cases op <;> exact journal_weftSend ..
  have hstakes (s : State) : (s.releaseStakes t).journal = s.journal := by
    unfold State.releaseStakes
    rw [mapStakes_journal]
    refine foldl_keeps State.journal (fun s r => ?_) s _
    dsimp only
    split_ifs <;> simp only [hop]
  have hbefore : (((s.charge u t.plot t.account).dropWounds u).releaseStakes t).journal = s.journal :=
    (hstakes _).trans ((hwounds _).trans hcharge)
  simp only [State.leave, State.freeUp, mapJournal_journal, mapWeft_journal, mapUnit_journal, hbefore]

theorem journal_endCommit (s : State) (u : Nat) (x : TSlot) (epoch : Nat) (wait : Option Nat) (rlen : Nat) :
    (s.endCommit u x epoch wait rlen).journal = { s.journal with waits := s.journal.waits.filter fun w => w.unit ≠ u } := by
  have hretire : (s.retire u ((s.unit u).arch.pc + 4)).journal = s.journal := (retire_retires s u _).frame.journal
  rw [State.endCommit, journal_complete, journal_leave, hretire]

theorem arch_of_cells {s t : State} (h : t.cells = s.cells) (u : Nat) : archOf t u = archOf s u := by
  rw [archOf, unit_of_cells h]

theorem pc_leave (s : State) (u : Nat) (t : TSlot) : (archOf (s.leave u t) u).pc = (archOf s u).pc := by
  have hfree (s : State) : (archOf (s.freeUp u) u).pc = (archOf s u).pc := by
    rw [State.freeUp, archOf, unit_of_mapJournal, unit_of_mapWeft, unit_mapUnit_same]
    rfl
  rw [State.leave, hfree, arch_of_cells (cells_of_inner (inner_beforeFree s u t))]

/-- COMMIT retires at the next instruction (R302). -/
theorem pc_endCommit (s : State) (u : Nat) (x : TSlot) (epoch : Nat) (wait : Option Nat) (rlen : Nat) :
    (archOf (s.endCommit u x epoch wait rlen) u).pc = pcNext s u := by
  rw [State.endCommit, arch_of_cells (cells_complete _ _ _ _), pc_leave, archOf, (retire_retires s u _).arch, pcNext]

end Sys2Proof.Machine
end

section
/-! SUPPORT. What the journal engine's writes leave alone and write; quantities of 64 bits and keys after their writes. -/

namespace Sys2Proof.Machine

open Sys2Proof Sys2Proof.Stated

/-! ## Quantities and keys -/

theorem reg64_setReg64_same (s : State) (lo : Nat) {v : Nat} (hv : v < 2 ^ 64) : (s.setReg64 lo v).reg64 lo = v := by
  rw [State.reg64, reg_setReg64, reg_setReg64, if_neg (by omega), if_pos rfl, if_pos rfl, BitVec.toNat_ofNat, BitVec.toNat_ofNat]
  omega

theorem reg64_setReg64_other (s : State) {lo o : Nat} (v : Nat) (h : o + 8 ≤ lo ∨ lo + 8 ≤ o) :
    (s.setReg64 lo v).reg64 o = s.reg64 o := by
  rw [State.reg64, reg_setReg64, reg_setReg64, if_neg (by omega), if_neg (by omega), if_neg (by omega), if_neg (by omega)]
  rfl

theorem reg64_setFld_other (s : State) {off o : Nat} (hi lo v : Nat) (h : o ≠ off) (h4 : o + 4 ≠ off) :
    (s.setFld off hi lo v).reg64 o = s.reg64 o := by
  rw [State.reg64, reg_setFld_other s hi lo v h, reg_setFld_other s hi lo v h4]
  rfl

theorem lookup_sput_other {α : Type} (l : List (Nat × α)) {k j : Nat} (v : α) (h : j ≠ k) :
    (sput l k v).lookup j = l.lookup j := by
  have hne : (j == k) = false := beq_eq_false_iff_ne.2 h
  induction l with
  | nil => simp only [sput, List.lookup, hne]
  | cons e l ih =>
    obtain ⟨i, w⟩ := e
    unfold sput
    split
    next hk => subst hk; simp [List.lookup, hne]
    next hk =>
      split
      · simp [List.lookup, hne]
      · simp only [List.lookup, ih]

/-! ## Stores past the caches -/

theorem bytes_agentStore (s : State) (pa : Nat) {data : List Byte} {n : Nat} (hn : data.length = n) :
    (s.agentStore pa data).bytes pa n = data :=
  bytes_eq hn fun i hi => by rw [byte_agentStore, byte_setBytes_in s pa i data hi]

theorem unit_of_units {s t : State} (h : t.units = s.units) (u : Nat) : t.unit u = s.unit u := by
  rw [State.unit, State.unit, h]

theorem pc_breakLink (s : State) (v pa n u : Nat) : (archOf (s.breakLink v pa n) u).pc = (archOf s u).pc := by
  unfold State.breakLink
  split
  · split
    · rw [archOf, archOf, unit_mapUnit]
      split <;> rfl
    · rfl
  · rfl

/-- A store past the caches takes links from units and leaves their PCs. -/
theorem pc_agentStore (s : State) (pa : Nat) (data : List Byte) (u : Nat) :
    (archOf (s.agentStore pa data) u).pc = (archOf s u).pc := by
  have hlinks (t : State) (us : List Nat) : (archOf (t.breakLinks us none pa data.length) u).pc = (archOf t u).pc := by
    refine foldl_keeps (fun t => (archOf t u).pc) (fun t v => ?_) t us
    split
    · rfl
    · exact pc_breakLink ..
  have hcopies : (s.dropCopies pa data.length).units = s.units := dropCopies_keeps (fun _ _ _ => rfl) ..
  have hstored : ((s.dropCopies pa data.length).memStore pa data).units = s.units := (setBytes_units ..).trans hcopies
  rw [State.agentStore, State.deviceStore, hlinks, archOf, unit_of_units hstored]

section

variable {α : Type} {p : State → α} (ha : ∀ (s : State) pa data, p (s.agentStore pa data) = p s)

include ha

/-- What no store past the caches changes, writing into a circle leaves alone. -/
theorem writeCircle_keeps (s : State) (base size off : Nat) (b : List Byte) : p (s.writeCircle base size off b) = p s := by
  unfold State.writeCircle
  dsimp only
  split
  · exact ha ..
  · exact (ha _ _ _).trans (ha _ _ _)

theorem layBodies_keeps (hh : ∀ (s : State) v, p (s.setReg64 Reg.JNL_HEAD_LO v) = p s) (s : State) (off : Nat) (l : List Undo) :
    p (s.layBodies off l) = p s := by
  induction l generalizing s off with
  | nil => exact hh ..
  | cons g l ih =>
    cases l with
    | nil => exact (hh _ _).trans (writeCircle_keeps ha _ _ _ _ _)
    | cons g' l => exact (ih _ _).trans (writeCircle_keeps ha _ _ _ _ _)

end

theorem pc_appendRecord (s : State) (e : Nat) (r : JRecord) (u : Nat) : (archOf (s.appendRecord e r) u).pc = (archOf s u).pc := by
  have ha (s : State) (pa : Nat) (data : List Byte) := pc_agentStore s pa data u
  refine (layBodies_keeps (p := fun s => (archOf s u).pc) ha (fun _ _ => rfl) _ _ _).trans ?_
  exact writeCircle_keeps (p := fun s => (archOf s u).pc) ha _ _ _ _ _

/-! ## After-images -/

theorem capEntry_eq (s : State) (u i : Nat) : s.capEntry u i = s.capEntry u 0 + 136 * i := by
  simp only [State.capEntry, Nat.mul_zero, Nat.add_zero]

theorem capEntry_of_ctl {s t : State} (h : t.ctl = s.ctl) (u i : Nat) : t.capEntry u i = s.capEntry u i := by
  simp only [State.capEntry, State.reg, h]

theorem afterImages_keeps {α : Type} {p : State → α} (h : ∀ (s : State) a l, p (s.setBytes a l) = p s) (s : State) (u : Nat)
    (r : JRecord) : p (s.afterImages u r) = p s :=
  foldl_keeps p (fun _ _ => h ..) s _

/-- The after-images of a record stay in the entries of its capture area. -/
theorem byte_afterImages_other (s : State) (u : Nat) {r : JRecord} {a n : Nat} (hn : r.lines.length ≤ n)
    (ha : a < s.capEntry u 0 ∨ s.capEntry u n ≤ a) : (s.afterImages u r).byte a = s.byte a := by
  have hloop (l : List (LineEntry × Nat)) : ∀ t : State, t.ctl = s.ctl → (∀ e ∈ l, e.2 < n) →
      (l.foldl (fun t e => t.setBytes (t.capEntry u e.2 + 72) (fitTo 64 e.1.after)) t).byte a = t.byte a := by
    induction l with
    | nil => exact fun _ _ _ => rfl
    | cons e l ih =>
      intro t ht hl
      have he : e.2 < n := hl e List.mem_cons_self
      have hctl : (t.setBytes (t.capEntry u e.2 + 72) (fitTo 64 e.1.after)).ctl = s.ctl := (setBytes_ctl ..).trans ht
      rw [List.foldl_cons, ih _ hctl fun x hx => hl x (List.mem_cons_of_mem _ hx)]
      refine byte_setBytes_other t _ a _ ?_
      rw [capEntry_of_ctl ht, capEntry_eq, length_fitTo]
      rw [capEntry_eq s u n] at ha
      omega
  refine hloop _ s rfl fun e he => ?_
  have := List.mem_range.1 (List.of_mem_zip he).2
  omega

end Sys2Proof.Machine
end

section
/-! OBLIGATIONS. The journal engine (O34). -/

namespace Sys2Proof.Machine

open Sys2Proof Sys2Proof.Stated

/-! ## A capture buffer is taken -/

theorem areaFree_of {s t : State} (hc : t.ctl = s.ctl) (hj : t.journal = s.journal) : t.areaFree = s.areaFree := by
  simp only [State.areaFree, areaSize_of_ctl hc, State.reserved, State.ownSheaf, hj]

/-- The record of a COMMIT is in the group of its epoch and its after-images are in its capture area, before it retires. -/
def State.captured (s : State) (u : Nat) (k : TSlot) (rlen : Nat) : State :=
  ((s.afterImages u (s.recordOf u k rlen)).appendRecord (s.epochAt u) (s.recordOf u k rlen)).mapUnit u fun x =>
    { x with spanned := [], spanStored := false }

section

variable (s : State) (u : Nat) (k : TSlot) (rlen : Nat)

theorem pc_captured : pcNext (s.captured u k rlen) u = pcNext s u := by
  have hafter : (archOf (s.afterImages u (s.recordOf u k rlen)) u).pc = (archOf s u).pc := by
    rw [archOf, unit_of_units (afterImages_keeps (p := State.units) (fun s a l => setBytes_units s a l) s u _)]
  rw [pcNext, State.captured, archOf, unit_mapUnit_same]
  exact congrArg (· + 4) ((pc_appendRecord _ _ _ u).trans hafter)

theorem undo_captured : (s.captured u k rlen).journal.undo =
    s.journal.undo.map fun g => if g.epoch = s.epochAt u then g.add (s.recordOf u k rlen) else g := by
  rw [State.captured, mapUnit_journal, undo_appendRecord,
    afterImages_keeps (p := State.journal) (fun s a l => setBytes_journal s a l)]

variable {s u rlen}

/-- A COMMIT that is taken writes its capture area and the ring only. -/
theorem byte_captured_other {n a : Nat} (hroom : s.commitBlock (s.epochAt u) rlen (s.unit u).lines.length = none)
    (hn : (s.unit u).lines.length ≤ n) (ha : a < s.reg64 Reg.JNL_RING_BASE_LO ∨ s.areaBase + s.areaSize ≤ a)
    (hcap : a < s.capEntry u 0 ∨ s.capEntry u n ≤ a) : (s.captured u k rlen).byte a = s.byte a := by
  generalize hr : s.recordOf u k rlen = r
  have hlines : r.lines.length = (s.unit u).lines.length := by rw [← hr]; exact List.length_map ..
  have hresult : r.result.length = rlen := by rw [← hr]; exact length_bytes ..
  obtain ⟨hundo, hfree⟩ := hasRoom_of_commitBlock (r := r) (by rw [hresult, hlines]; exact hroom)
  have hctl : (s.afterImages u r).ctl = s.ctl := afterImages_keeps (fun s a l => setBytes_ctl s a l) s u r
  have hjournal : (s.afterImages u r).journal = s.journal := afterImages_keeps (fun s a l => setBytes_journal s a l) s u r
  rw [State.captured, hr]
  refine Eq.trans ?_ (byte_afterImages_other s u (hlines ▸ hn) hcap)
  refine byte_appendRecord_other ?_ ?_ ?_
  · rwa [undoSize_of_ctl hctl]
  · rwa [areaFree_of hctl hjournal]
  · rwa [reg64_of_ctl hctl, areaBase_of_ctl hctl, areaSize_of_ctl hctl]

end

section

variable {s : State} {w : CommitWait} {l : List CommitWait} {k : TSlot} (hw : s.journal.waits = w :: l)
  (hmay : s.mayRetire w.unit = true) (hk : s.tslot w.slot = some k) (hp : s.capPoisoned w.unit = false)

include hw hmay hk hp

/-- A capture buffer for which there is no room waits, with the bit of JNL_ERR that says why (R134). -/
theorem captureAccept_blocked {b : Nat}
    (hb : s.commitBlock (s.epochAt w.unit) w.rlen (s.unit w.unit).lines.length = some b) :
    Ends (.captureAccept false) s fun t => t = s.setBit Reg.JNL_ERR b true := by
  refine ⟨_, ?_, rfl⟩
  change execCaptureAccept false s = _
  simp only [execCaptureAccept, hw, hmay, State.acceptCapture, hk, hp, hb, if_true, if_false, Bool.false_eq_true]

variable (hspans : s.weft.spans = [])
  (hroom : s.commitBlock (s.epochAt w.unit) w.rlen (s.unit w.unit).lines.length = none)

include hspans hroom

theorem ends_captureAccept {p : State → Prop}
    (h : p ((s.captured w.unit k w.rlen).endCommit w.unit k (s.epochAt w.unit) (some (s.epochAt w.unit)) w.rlen).ringCheck) :
    Ends (.captureAccept false) s p := by
  refine ⟨_, ?_, h⟩
  have hweft (r : JRecord) : ((s.afterImages w.unit r).appendRecord (s.epochAt w.unit) r).weft = s.weft :=
    (appendRecord_keeps storeFree_weft (fun _ _ => rfl) (fun _ _ => rfl) _ _ r).trans
      (afterImages_keeps (fun s a l => setBytes_weft s a l) s w.unit r)
  have hvotes (r : JRecord) : ((s.afterImages w.unit r).appendRecord (s.epochAt w.unit) r).spanVotes w.slot (s.epochAt w.unit) =
      (s.afterImages w.unit r).appendRecord (s.epochAt w.unit) r := by
    simp only [State.spanVotes, State.spanWait, hweft, hspans, List.find?_nil]
  change execCaptureAccept false s = _
  simp only [execCaptureAccept, hw, hmay, State.acceptCapture, hk, hp, hroom, if_true, if_false, Bool.false_eq_true, hvotes,
    State.captured]

/-- The oldest waiting capture buffer is taken: its record is in its epoch's group, and its COMMIT retires. -/
theorem captureAccept_takes : Ends (.captureAccept false) s fun t =>
    (t.unit w.unit).txn = none ∧ (t.unit w.unit).run = false ∧ (archOf t w.unit).pc = pcNext s w.unit ∧
    (∀ g ∈ s.journal.undo, g.epoch = s.epochAt w.unit →
      { g with recs := g.recs ++ [s.recordOf w.unit k w.rlen] } ∈ t.journal.undo) ∧
    (∀ x ∈ t.journal.waits, x.unit ≠ w.unit) ∧
    ∀ g ∈ s.journal.undo, g.epoch = s.epochAt w.unit → ∀ a,
      a < s.reg64 Reg.JNL_RING_BASE_LO ∨ s.areaBase + s.areaSize ≤ a →
      a < s.capEntry w.unit 0 ∨ s.capEntry w.unit 480 ≤ a → (s.unit w.unit).lines.length ≤ 480 → t.byte a = s.byte a := by
  refine ends_captureAccept hw hmay hk hp hspans hroom ?_
  generalize hy : s.captured w.unit k w.rlen = y
  have hcells (t : State) : t.ringCheck.cells = t.cells := cells_of_inner (inner_ringCheck t)
  obtain ⟨⟨htxn, hrun, -, -⟩, hbytes⟩ := endCommit_frees y w.unit k (s.epochAt w.unit) (some (s.epochAt w.unit)) w.rlen
  refine ⟨?_, ?_, ?_, fun g hg he => ?_, ?_, fun g hg he a ha hcap hlines => ?_⟩
  · rw [unit_of_cells (hcells _), htxn]
  · rw [unit_of_cells (hcells _), hrun]
  · rw [arch_of_cells (hcells _), pc_endCommit, ← hy, pc_captured]
  · rw [journal_ringCheck, journal_endCommit, ← hy]
    change _ ∈ (s.captured w.unit k w.rlen).journal.undo
    rw [undo_captured]
    exact List.mem_map.2 ⟨g, hg, if_pos he⟩
  · rw [journal_ringCheck, journal_endCommit]
    exact fun x hx => by simpa using (List.mem_filter.1 hx).2
  · rw [byte_of_mem (mem_of_cells (hcells _)), hbytes, ← hy]
    exact byte_captured_other k hroom hlines ha hcap

end

/-! ## The request index -/

/-- The lookup of a waiting request comes to what the index holds of it (R147). -/
theorem ends_requestIndexLookup {s : State} {p q n : Nat} {a : QPair} {x : QSlot} (hx : s.slotAt p q n = some (a, x))
    (htxn : x.txn = true) (hwait : x.sstate = .waiting) (hlook : x.look = true) (hdrain : a.draining = false)
    (hs : s.safe = false) {r : Option (Nat × List Byte)} (hr : s.indexLookup x.reqid p q = r) {P : State → Prop}
    (h : P (r.elim (s.mapQpair p q fun b => b.mapSlot n fun y => { y with look := false })
      fun hit => s.completeSlot a x 0x0001 hit.1 hit.2)) : Ends (.requestIndexLookup p q n) s P := by
  refine ⟨_, ?_, h⟩
  have hnames : a.plot = p ∧ a.queue = q := by
    obtain ⟨b, hb, hpair⟩ := Option.bind_eq_some_iff.1 hx
    obtain ⟨y, -, hy⟩ := Option.map_eq_some_iff.1 hpair
    obtain ⟨rfl, -⟩ := Prod.ext_iff.1 hy
    simpa using List.find?_some hb
  have hlooked : s.lookedUp a x = r := by rw [State.lookedUp, if_pos hlook, hnames.1, hnames.2, hr]
  have hgo : x.txn = true ∧ x.sstate = .waiting ∧ x.look = true ∧ (!a.draining) = true ∧ (!s.safe) = true :=
    ⟨htxn, hwait, hlook, by rw [hdrain]; rfl, by rw [hs]; rfl⟩
  change execRequestIndexLookup p q n s = _
  simp only [execRequestIndexLookup, hx, if_pos hgo, hlooked]
  cases r <;> rfl

/-! ## The applier -/

/-- Space freed is a shorter list of sheaves and a new TAIL (R141). -/
theorem freeSheaves_eq (s : State) : ∃ v, s.freeSheaves =
    (s.mapJournal fun j => { j with sheaves := freeFrom s.mayFree j.sheaves }).setReg64 Reg.JNL_TAIL_LO v := by
  unfold State.freeSheaves
  dsimp only
  split <;> exact ⟨_, rfl⟩

theorem head?_freeFrom (f : Sheaf → Bool) (l : List Sheaf) : ∀ h ∈ (freeFrom f l).head?, f h = false := by
  induction l with
  | nil => intro h hh; cases hh
  | cons x l ih =>
    unfold freeFrom
    split
    · exact ih
    next hx =>
      intro h hh
      obtain rfl : x = h := by simpa using hh
      simpa using hx

/-- A sheaf without records: only the record of its application and the registers change. -/
theorem applySheaf_empty (s : State) {h : Sheaf} (hr : h.records = []) (he : h.epoch < 2 ^ 64) :
    (s.applySheaf h).reg64 Reg.JNL_APPLIED_LO = h.epoch ∧ (s.applySheaf h).mem = s.mem := by
  let done : Sheaf := { h with applied := true, doneTime := s.time }
  have hdone : done.records = [] := hr
  have happly : s.applySheaf h = ((s.setSheaf done).setReg64 Reg.JNL_APPLIED_LO h.epoch).freeSheaves := by
    simp only [State.applySheaf, hr, List.foldl_nil, State.indexSheaf]
    rw [hdone]
    rfl
  obtain ⟨v, hv⟩ := freeSheaves_eq ((s.setSheaf done).setReg64 Reg.JNL_APPLIED_LO h.epoch)
  rw [happly, hv]
  refine ⟨?_, rfl⟩
  rw [reg64_setReg64_other (o := Reg.JNL_APPLIED_LO) (lo := Reg.JNL_TAIL_LO) _ v (by decide)]
  exact reg64_setReg64_same (s.setSheaf done) _ he

theorem sheafApplyDone_empty {s : State} {h : Sheaf} (hn : s.nextToApply = some h) (hs : s.safe = false)
    (hmay : s.mayApply h = true) (hr : h.records = []) (he : h.epoch < 2 ^ 64) : Ends .sheafApplyDone s fun t =>
      t.reg64 Reg.JNL_APPLIED_LO = h.epoch ∧ t.mem = s.mem := by
  refine ⟨_, ?_, applySheaf_empty s hr he⟩
  change execSheafApplyDone s = _
  simp only [execSheafApplyDone, hn, hs, hmay, Bool.not_false, and_self, if_true]

/-- A line entry of the partner's stands in the replica once its record is applied (R150). -/
theorem applyRecord_writes {s : State} {r : BodyRec} {o : Nat} {d : List Byte} (hown : s.ownRecord r = false)
    (hl : r.lines = [(o, d)]) (hsize : o < s.fld Reg.JNL_REGION 12 0 * 2 ^ 30) (hcur : o < s.replCursor) :
    (s.applyRecord r).bytes (s.reg64 Reg.JNL_REPL_BASE_LO + o) d.length = d := by
  have hline : s.applyRecord r = s.agentStore (s.reg64 Reg.JNL_REPL_BASE_LO + o) d := by
    simp only [State.applyRecord, hown, hl, List.foldl_cons, List.foldl_nil, State.applyLine, Bool.false_eq_true, if_false,
      if_neg (Nat.not_le.2 hsize), if_neg (Nat.not_le.2 hcur)]
  rw [hline, bytes_agentStore s _ rfl]

/-! ## Keys of sheaves -/

theorem deriveSheafKey_fills {s : State} {gen : Nat} {k : List Byte} (hk : s.sheafKey gen = some k) :
    let t := s.deriveSheafKey gen
    t.heldSheafKey gen = some k ∧ (∀ n, n ≠ s.sheafSlot gen → t.keySlot n = s.keySlot n) ∧
      t = { s with cipher := t.cipher, journal := t.journal } := by
  simp only [State.deriveSheafKey, hk]
  refine ⟨?_, fun n hn => lookup_sput_other _ _ hn, rfl⟩
  rw [State.heldSheafKey, State.keySlot]
  refine (congrArg (Option.bind · _) (lookup_sput_same s.cipher.slots (s.sheafSlot gen) _)).trans ?_
  simp

theorem sheafKeyDerive_fills {s : State} {gen : Nat} {k : List Byte} (hs : s.safe = false)
    (hgen : gen = keyGen s.epoch ∨ gen = keyGen s.epoch + 1) (hnone : s.heldSheafKey gen = none)
    (hk : s.sheafKey gen = some k) : Ends (.sheafKeyDerive gen) s fun t =>
      t.heldSheafKey gen = some k ∧ (∀ n, n ≠ s.sheafSlot gen → t.keySlot n = s.keySlot n) ∧
      t = { s with cipher := t.cipher, journal := t.journal } := by
  refine ⟨_, ?_, deriveSheafKey_fills hk⟩
  change execSheafKeyDerive gen s = _
  exact congrArg Host.Outcome.next (if_pos ⟨by rw [hs]; rfl, hgen, by rw [hnone]; rfl⟩)

/-! ## The ring -/

theorem sheafRetainExpire_frees (s : State) (τ : Nat) : Ends (.sheafRetainExpire τ) s fun t => let n := s.advance τ
    t.journal = { n.journal with sheaves := freeFrom n.mayFree n.journal.sheaves } ∧
    (∀ h ∈ t.journal.sheaves.head?, n.mayFree h = false) ∧ RegsBut n t [Reg.JNL_TAIL_LO, Reg.JNL_TAIL_LO + 4] ∧
    t = { n with journal := t.journal, ctl := t.ctl } := by
  refine ⟨(s.advance τ).freeSheaves, rfl, ?_⟩
  obtain ⟨v, hv⟩ := freeSheaves_eq (s.advance τ)
  rw [hv]
  refine ⟨rfl, head?_freeFrom _ _, fun o ho => ?_, rfl⟩
  simp only [List.mem_cons, List.not_mem_nil, or_false, not_or] at ho
  rw [reg_setReg64, if_neg ho.2, if_neg ho.1]
  rfl

/-- INIT while the ring is not READY and LOCK is set starts the initialisation (R144). -/
theorem jnlInit_starts {s : State} {m : Master} {v : Word} (hm : s.writesReg m Reg.JNL_CTRL = true)
    (hr : s.bit Reg.JNL_STATUS 0 = false) (hlock : (s.writeFields Reg.JNL_CTRL (v ||| 1)).bit Reg.JNL_CTRL 31 = true) :
    Ends (.jnlInit m v) s fun t =>
      t.journal = { s.journal with initBusy := true } ∧ t = { s with journal := t.journal, ctl := t.ctl } := by
  have herr : errRegOf Reg.JNL_CTRL = some Reg.JNL_ERR := by decide
  have hready : (s.writeFields Reg.JNL_CTRL (v ||| 1)).bit Reg.JNL_STATUS 0 = false := by
    rw [State.bit, writeFields_keeps s _ herr (by decide) (by decide)]
    exact hr
  have hbit : (v ||| 1).getLsbD 0 = true := by simp [-BitVec.getLsbD_eq_getElem]
  refine ⟨(s.writeFields Reg.JNL_CTRL (v ||| 1)).mapJournal fun j => { j with initBusy := true }, ?_, ?_⟩
  · change execJnlInit m v s = _
    rw [execJnlInit, if_pos hm, State.writeJnlCtrl]
    simp only [hbit, hready, hlock, Bool.not_true, Bool.false_eq_true, or_self, if_false]
  · have honly : s.writeFields Reg.JNL_CTRL (v ||| 1) = { s with ctl := (s.writeFields Reg.JNL_CTRL (v ||| 1)).ctl } :=
      writeFields_onlyCtl s (v ||| 1) herr
    rw [honly]
    exact ⟨rfl, rfl⟩

/-- The ring that an initialisation without KEEP leaves: empty and READY, the index tables zero (R144). -/
theorem jnlReady_empties {s : State} (hbusy : s.journal.initBusy = true) (hkeep : s.bit Reg.JNL_CTRL 2 = false) :
    Ends .jnlReady s fun t =>
      t.journal = { s.journal with undo := [], ownIdx := [], partIdx := [], sheaves := [], initBusy := false, start := 0, undoHead := 0 } ∧
      t.reg64 Reg.JNL_HEAD_LO = 0 ∧ t.reg64 Reg.JNL_TAIL_LO = 0 ∧ t.bit Reg.JNL_STATUS 0 = true ∧
      ∀ a, s.reg64 Reg.JNL_RIDX_BASE_LO ≤ a → a < s.reg64 Reg.JNL_RIDX_BASE_LO + 2 ^ 32 → t.byte a = 0 := by
  let y := (s.wipe (s.reg64 Reg.JNL_RIDX_BASE_LO) (2 ^ 32)).mapJournal fun j =>
    { j with undo := [], ownIdx := [], partIdx := [], sheaves := [], initBusy := false, start := 0, undoHead := 0 }
  refine ⟨((y.setReg64 Reg.JNL_HEAD_LO 0).setReg64 Reg.JNL_TAIL_LO 0).setBit Reg.JNL_STATUS 0 true, ?_, rfl, ?_, ?_,
    bit_setBit_same _ _ (by decide), fun a hlo hhi => ?_⟩
  · change execJnlReady s = _
    simp only [execJnlReady, hbusy, hkeep, Bool.not_true, Bool.false_eq_true, if_false]
    rfl
  · rw [State.setBit, reg64_setFld_other _ _ _ _ (by decide) (by decide),
      reg64_setReg64_other (o := Reg.JNL_HEAD_LO) (lo := Reg.JNL_TAIL_LO) _ _ (by decide), reg64_setReg64_same _ _ (by decide)]
  · rw [State.setBit, reg64_setFld_other _ _ _ _ (by decide) (by decide), reg64_setReg64_same _ _ (by decide)]
  · exact (byte_wipe s _ _ a).trans (if_pos ⟨hlo, hhi⟩)

/-! ## The obligation -/

/-- Settles O34: a capture buffer taken or held up (R130, R133, R134), a lookup (R147), the applier (R150), the key of a
generation (R140), the space freed (R141), the initialisation (R144). That the body of an open sheaf stands behind the newest
one, where the record is written, is log entry 16. -/
theorem journalEngine : Obligations.JournalEngine := by
  refine ⟨fun s w l k hw hmay hk hp hspans => ⟨fun b => captureAccept_blocked hw hmay hk hp, fun hroom _ =>
      captureAccept_takes hw hmay hk hp hspans hroom⟩,
    fun s p q n a x hx htxn hwait _ hlook hdrain hs => ⟨fun hmiss => ?_, fun e r hhit => ?_⟩,
    fun s h => sheafApplyDone_empty, fun s r o d => applyRecord_writes, fun s gen k => sheafKeyDerive_fills,
    sheafRetainExpire_frees, fun s m v => jnlInit_starts, fun s => jnlReady_empties⟩
  · exact ends_requestIndexLookup hx htxn hwait hlook hdrain hs hmiss rfl
  · exact ends_requestIndexLookup hx htxn hwait hlook hdrain hs hhit rfl

end Sys2Proof.Machine
end

section
/-! OBLIGATIONS. What comes from the partner (O35). -/

namespace Sys2Proof.Machine

open Sys2Proof Sys2Proof.Stated

/-! ## Errors -/

/-- An error below class 6 that is recorded changes its bit and what the record of an event changes. -/
theorem errEvent_keeps {α : Type} (p : State → α) (hg : ∀ (s : State) f, p (s.mapGleaner f) = p s)
    (ha : ∀ (s : State) f, p (s.mapAlmanac f) = p s) (hr : ∀ (s : State) o v, o ∈ gleanRegs → p (s.setReg o v) = p s)
    (s : State) (err bit source : Nat) {cls : Nat} (plot inst : Nat) (hcls : cls ≠ 6) :
    p (s.errEvent err bit source cls plot inst) = p (s.setBit err bit true) :=
  event_keeps p hg ha hr _ source _ hcls

theorem journal_errEvent (s : State) (err bit source : Nat) {cls : Nat} (plot inst : Nat) (hcls : cls ≠ 6) :
    (s.errEvent err bit source cls plot inst).journal = s.journal :=
  errEvent_keeps State.journal (fun _ _ => rfl) (fun _ _ => rfl) (fun _ _ _ _ => rfl) s err bit source plot inst hcls

theorem out_errEvent (s : State) (err bit source : Nat) {cls : Nat} (plot inst : Nat) (hcls : cls ≠ 6) :
    (s.errEvent err bit source cls plot inst).out = s.out :=
  errEvent_keeps State.out (fun _ _ => rfl) (fun _ _ => rfl) (fun _ _ _ _ => rfl) s err bit source plot inst hcls

theorem reg_errEvent_other (s : State) {err o : Nat} (bit source : Nat) {cls : Nat} (plot inst : Nat) (hcls : cls ≠ 6)
    (hne : o ≠ err) (ho : o ∉ gleanRegs) : (s.errEvent err bit source cls plot inst).reg o = s.reg o := by
  rw [State.errEvent, reg_event _ _ _ hcls ho, reg_setBit_other s bit true hne]

/-! ## Copies of sheaves -/

/-- A copy that is rejected is counted and sets MIRROR_REJ (R149). -/
theorem mirrorReject_counts (s : State) : let t := s.mirrorReject
    t.journal = s.journal ∧ t.mem = s.mem ∧ t.out = s.out ∧ t.bit Reg.JNL_ERR 6 = true ∧
      (t.reg Reg.JNL_CNT_REJ).toNat = min 0xFFFFFFFF ((s.reg Reg.JNL_CNT_REJ).toNat + 1) := by
  refine ⟨journal_errEvent _ _ _ _ _ _ (by decide), mem_of_cells (cells_of_inner (inner_errEvent ..)),
    out_errEvent _ _ _ _ _ _ (by decide), bit_errEvent _ _ _ _ (by decide) (by decide) (by decide), ?_⟩
  rw [State.mirrorReject, reg_errEvent_other _ _ _ _ _ (by decide) (by decide) (by decide), reg_count_same]

/-- Bytes that are too few for a sheaf, or do not begin with its MAGIC, have no form of one. -/
theorem sheafForm_bad (s : State) {b : List Byte} (h : b.length < 224 ∨ leAt b 0 4 ≠ 0x53484601) : s.sheafForm b = (s, false) :=
  if_pos (h.imp_right .inl)

section

variable {s : State} (hpair : s.paired = true) (hs : s.safe = false)

include hpair hs

theorem sheaf_rejected {l : Nat} {b : List Byte} (ue : Bool) (hl : l = s.linkA ∨ l = s.linkB)
    (hready : s.bit Reg.JNL_STATUS 0 = true) (hpart : s.part < 4 ∨ 7 < s.part) (hb : b.length < 224 ∨ leAt b 0 4 ≠ 0x53484601) :
    Ends (.sheaf l b ue) s fun t =>
      t.journal = s.journal ∧ t.mem = s.mem ∧ t.out = s.out ∧ t.bit Reg.JNL_ERR 6 = true ∧
      (t.reg Reg.JNL_CNT_REJ).toNat = min 0xFFFFFFFF ((s.reg Reg.JNL_CNT_REJ).toNat + 1) := by
  refine ⟨_, ?_, mirrorReject_counts s⟩
  have htaken : ¬(s.safe = true ∨ (!s.paired) = true ∨ (l ≠ s.linkA ∧ l ≠ s.linkB) ∨ (!s.bit Reg.JNL_STATUS 0) = true ∨
      (4 ≤ s.part ∧ s.part ≤ 7)) := by
    simp only [hs, hpair, hready, Bool.not_true, Bool.false_eq_true, false_or]
    omega
  change execSheaf l b ue s = _
  rw [execSheaf, State.receiveSheaf]
  simp only [if_neg htaken, sheafForm_bad s hb, Bool.not_false, true_or, if_true]

/-! ## Notices -/

theorem sealCompleteNotice_noted (e c1 c2 : Nat) (hrepl : s.replOk = true) (hown : s.own = 1) :
    Ends (.sealCompleteNotice e c1 c2) s fun t =>
      t.journal = { s.journal with notices := (s.journal.notices.filter (· ≠ e)) ++ [e] } ∧
      t = { s with journal := t.journal } := by
  refine ⟨s.sealNotice e, ?_, rfl, rfl⟩
  have hrepl' : (s.sealNotice e).replOk = true := hrepl
  have hown' : (s.sealNotice e).own = 1 := hown
  change execSealCompleteNotice e c1 c2 s = _
  simp [execSealCompleteNotice, hs, hpair, hrepl', hown', ownRebuilding]

/-- A rollback notice that names an epoch already applied is late (R174). -/
theorem rollbackNotice_late {a : Nat} (b : Nat) (ha : a ≤ s.reg64 Reg.JNL_APPLIED_LO) : Ends (.rollbackNotice a b) s fun t =>
    t.bit Reg.TWN_ERR 7 = true ∧ t.journal = s.journal := by
  refine ⟨s.errEvent Reg.TWN_ERR 7 Src.twin 0 noPlot 0, ?_, bit_errEvent _ _ _ _ (by decide) (by decide) (by decide),
    journal_errEvent _ _ _ _ _ _ (by decide)⟩
  change execRollbackNotice a b s = _
  simp [execRollbackNotice, hs, hpair, ha]

/-- The epochs of a rollback notice are named, and where no sheaf of them stands in the ring nothing else changes (R150). -/
theorem rollbackNotice_names {a b : Nat} (ha : s.reg64 Reg.JNL_APPLIED_LO < a) (hb : s.reg64 Reg.JNL_APPLIED_LO < b)
    (hnone : ∀ h ∈ s.journal.sheaves, h.kind = .partner → h.epoch ≠ a ∧ h.epoch ≠ b) : Ends (.rollbackNotice a b) s fun t =>
      a ∈ t.journal.named ∧ b ∈ t.journal.named ∧ t.journal.sheaves = s.journal.sheaves ∧ t = { s with journal := t.journal } := by
  refine ⟨s.mapJournal fun j => { j with named := (j.named.filter fun e => e ≠ a ∧ e ≠ b) ++ [a, b] }, ?_, ?_, ?_, rfl, rfl⟩
  · have hhit : (s.journal.sheaves.filter fun h => decide (h.kind = .partner ∧ (h.epoch = a ∨ h.epoch = b) ∧ (!h.zeroed) = true)) =
        [] := by
      refine List.filter_eq_nil_iff.2 fun h hh => ?_
      have := hnone h hh
      simp only [decide_eq_true_eq]
      rintro ⟨hkind, he, -⟩
      exact he.elim (this hkind).1 (this hkind).2
    have hlate : ¬(a ≤ s.reg64 Reg.JNL_APPLIED_LO ∨ b ≤ s.reg64 Reg.JNL_APPLIED_LO) := by omega
    change execRollbackNotice a b s = _
    simp only [execRollbackNotice, hs, hpair, hhit, if_neg hlate, Bool.not_true, Bool.false_eq_true, or_self, if_false,
      List.head?_nil, List.foldl_nil]
  · simp
  · simp

omit hpair in
/-- The hand-back without plots and without sheaves to apply: RECLAIM, with the epoch of the notice (R182). -/
theorem handbackNotice_reclaims {e : Nat} (he : e < 2 ^ 64) (hret : s.twin.returning = true) (hown : s.own = 5)
    (hplots : s.ownPlots = []) (hnone : ∀ h ∈ s.journal.sheaves, h.kind ≠ .partner) : Ends (.handbackNotice e) s fun t =>
      t.own = 6 ∧ t.reg64 Reg.TWN_HANDEPOCH_LO = e ∧ t.twin.handBack = some { epoch := e, step := 4 } ∧
      t.twin.returning = false := by
  refine ⟨((s.issueAcquire.setReg64 Reg.TWN_HANDEPOCH_LO e).setOwn ownReclaim).mapTwin fun w =>
    { w with handBack := some { epoch := e, step := 4 }, returning := false }, ?_, ?_, ?_, rfl, rfl⟩
  · have hsheaves : (s.journal.sheaves.filter fun h =>
        decide (h.kind = .partner ∧ (!h.applied) = true ∧ (!h.zeroed) = true ∧ h.epoch ≤ e)) = [] :=
      List.filter_eq_nil_iff.2 fun h hh => by simp [hnone h hh]
    have hgo : ¬(s.safe = true ∨ (!s.twin.returning) = true ∨ s.own ≠ ownReady) := by simp [hs, hret, hown, ownReady]
    change execHandbackNotice e s = _
    simp only [execHandbackNotice, if_neg hgo, hsheaves, List.mergeSort_nil, List.foldl_nil, hplots]
  · rw [State.own, State.fld, reg_of_mapTwin, State.setOwn, reg_setFld_same, bits_setBits _ _ (by decide) (by decide)]
    rfl
  · rw [reg64_of_ctl (mapTwin_ctl ..), State.setOwn, reg64_setFld_other _ _ _ _ (by decide) (by decide),
      reg64_setReg64_same _ _ he]

/-! ## Heartbeats -/

/-- A heartbeat of the wrong length, sender or pairing is an error and nothing more (R166). -/
theorem heartbeat_bad (τ : Nat) {l : Nat} {b : List Byte} (hl : l = s.linkA ∨ l = s.linkB)
    (hb : b.length ≠ 40 ∨ beAt b 0 2 % 1024 ≠ s.partnerId ∨ beAt b 32 4 ≠ (s.reg Reg.TWN_PAIRGEN).toNat) :
    Ends (.heartbeat τ l b) s fun t => t = (s.advance τ).setBit Reg.TWN_ERR 1 true := by
  refine ⟨_, ?_, rfl⟩
  have htaken : ¬((s.advance τ).safe = true ∨ (!(s.advance τ).paired) = true ∨
      (l ≠ (s.advance τ).linkA ∧ l ≠ (s.advance τ).linkB)) := by
    change ¬(s.safe = true ∨ (!s.paired) = true ∨ (l ≠ s.linkA ∧ l ≠ s.linkB))
    simp only [hs, hpair, Bool.not_true, Bool.false_eq_true, false_or]
    omega
  change execHeartbeat τ l b s = _
  rw [execHeartbeat, State.heartbeat, if_neg htaken]
  exact congrArg Host.Outcome.next (if_pos hb)

end

/-- A heartbeat seen on a link: the bit of the link, the run of misses, what twin control keeps of it. -/
def State.beat (s : State) (link seq : Nat) : State :=
  let s := s.sample 0x0F link (s.timeBase - s.tick.lastTick)
  let s := s.setBit Reg.TWN_STATUS (if link = s.linkA then 1 else 2) true
  let s := s.setFld Reg.TWN_STATUS 23 16 0
  let s := s.mapTwin fun w => { w with hbSeen := true, juniorFrom := none, partSeq := some (max seq (w.partSeq.getD 0)) }
  s.seen s.partnerId

theorem heartbeat_eq {s : State} {link : Nat} {b : List Byte} (hpair : s.paired = true) (hs : s.safe = false)
    (hl : link = s.linkA ∨ link = s.linkB) (hlen : b.length = 40) (hid : beAt b 0 2 % 1024 = s.partnerId)
    (hgen : beAt b 32 4 = (s.reg Reg.TWN_PAIRGEN).toNat) : s.heartbeat link b =
      ((s.beat link (beAt b 4 4)).stopTakeover.takeEcho (beAt b 8 4)).takeStates (beAt b 2 1) (beAt b 3 1) (beAt b 12 4) := by
  have hgo : ¬(s.safe = true ∨ (!s.paired) = true ∨ (link ≠ s.linkA ∧ link ≠ s.linkB)) := by
    simp only [hs, hpair, Bool.not_true, Bool.false_eq_true, false_or]
    omega
  have hok : ¬(b.length ≠ 40 ∨ beAt b 0 2 % 1024 ≠ s.partnerId ∨ beAt b 32 4 ≠ (s.reg Reg.TWN_PAIRGEN).toNat) := by
    simp [hlen, hid, hgen]
  rw [State.heartbeat, if_neg hgo, if_neg hok]
  rfl

theorem status_beat (s : State) (seq : Nat) : (s.beat s.linkA seq).reg Reg.TWN_STATUS =
    setBits (setBits (s.reg Reg.TWN_STATUS) 1 1 1) 23 16 0 := by
  have hlink (f : Almanac → Almanac) : (s.mapAlmanac f).linkA = s.linkA := by
    simp only [State.linkA, State.fld, reg_of_mapAlmanac]
  simp only [State.beat, State.seen, reg_of_mapWeft, reg_of_mapTwin, hlink, if_true, State.setBit, reg_setFld_same, State.sample,
    reg_of_mapAlmanac]

theorem states_of_status {s t : State} (h : t.reg Reg.TWN_STATUS = s.reg Reg.TWN_STATUS) : states t = states s := by
  simp only [states, State.own, State.part, State.fld, h]

/-- The states of both devices stand above what a heartbeat writes. -/
theorem states_beat (s : State) (seq : Nat) : states (s.beat s.linkA seq) = states s := by
  have hout (w : Word) {hi lo : Nat} (h : 24 ≤ lo) : bits (setBits (setBits w 1 1 1) 23 16 0) hi lo = bits w hi lo := by
    rw [bits_setBits_out _ _ (by decide) (by decide) (by omega), bits_setBits_out _ _ (by decide) (by decide) (by omega)]
  simp only [states, State.own, State.part, State.fld, status_beat, hout _ (show 24 ≤ 28 by decide), hout _ (le_refl 24)]

theorem missRun_beat (s : State) (seq : Nat) : (s.beat s.linkA seq).missRun = 0 := by
  rw [State.missRun, State.fld, status_beat]
  exact (bits_setBits _ 0 (by decide) (by decide)).trans (Nat.zero_mod _)

theorem seenBit_beat (s : State) (seq : Nat) : (s.beat s.linkA seq).bit Reg.TWN_STATUS 1 = true := by
  rw [State.bit, status_beat, getLsbD_setBits_out _ _ (by decide) (by decide) (by decide),
    getLsbD_setBits _ _ _ (by decide) (by decide)]
  rfl

theorem out_mem_beat (s : State) (link seq : Nat) : (s.beat link seq).out = s.out ∧ (s.beat link seq).mem = s.mem := by
  simp only [State.beat, State.seen, State.sample, mapWeft_out, mapTwin_out, setFld_out, setBit_out, mapAlmanac_out, mapWeft_mem,
    mapTwin_mem, setFld_mem, setBit_mem, mapAlmanac_mem, and_self]

/-- Where this device holds its plots and the partner is FALLOW, only a request to return has an effect (R166). -/
theorem takeStates_fallow {s : State} (own part : Nat) {flags : Nat} (h : states s = (1, 2)) (hf : flags / 8 % 2 = 0) :
    s.takeStates own part flags = s.mapTwin fun w => { w with partHolds := decide (flags / 2 % 2 = 1) } := by
  obtain ⟨hown, hpart⟩ := Prod.ext_iff.1 ((states_of_status (reg_of_mapTwin s
    (fun w => { w with partHolds := decide (flags / 2 % 2 = 1) }) _)).trans h)
  generalize hy : (s.mapTwin fun w => { w with partHolds := decide (flags / 2 % 2 = 1) }) = y at hown hpart ⊢
  simp only [states] at hown hpart
  simp [State.takeStates, hy, hown, hpart, hf, ownStarting, ownFencedSt, ownTaken, partSuspect, partServing, partLost, partPairing,
    partHandback]

/-- A heartbeat that answers none of those sent, without a request to return (R165, R166). -/
theorem heartbeat_fallow {s : State} {b : List Byte} (hpair : s.paired = true) (hs : s.safe = false) (hlen : b.length = 40)
    (hid : beAt b 0 2 % 1024 = s.partnerId) (hgen : beAt b 32 4 = (s.reg Reg.TWN_PAIRGEN).toNat) (hst : states s = (1, 2))
    (hf : beAt b 12 4 / 8 % 2 = 0) (hecho : (s.twin.sent.find? fun h => h.seq = beAt b 8 4) = none) :
    s.heartbeat s.linkA b =
      (s.beat s.linkA (beAt b 4 4)).mapTwin fun w => { w with partHolds := decide (beAt b 12 4 / 2 % 2 = 1) } := by
  have hstates := (states_beat s (beAt b 4 4)).trans hst
  have hsent : (s.beat s.linkA (beAt b 4 4)).twin.sent = s.twin.sent := rfl
  rw [heartbeat_eq hpair hs (.inl rfl) hlen hid hgen]
  generalize s.beat s.linkA (beAt b 4 4) = y at hstates hsent ⊢
  obtain ⟨-, hpart⟩ := Prod.ext_iff.1 hstates
  have hstop : y.stopTakeover = y := if_neg fun h => absurd (hpart.symm.trans h.1) (by decide)
  have htake : y.takeEcho (beAt b 8 4) = y := by simp only [State.takeEcho, hsent, hecho]
  rw [hstop, htake, takeStates_fallow _ _ hstates hf]

theorem heartbeat_seen {s : State} {b : List Byte} (hpair : s.paired = true) (hs : s.safe = false)
    (hlen : b.length = 40) (hid : beAt b 0 2 % 1024 = s.partnerId) (hgen : beAt b 32 4 = (s.reg Reg.TWN_PAIRGEN).toNat)
    (hst : states s = (1, 2)) (hf : beAt b 12 4 / 8 % 2 = 0)
    (hecho : (s.twin.sent.find? fun h => h.seq = beAt b 8 4) = none) : let t := s.heartbeat s.linkA b
      t.bit Reg.TWN_STATUS 1 = true ∧ t.missRun = 0 ∧ states t = (1, 2) ∧ t.twin.hbSeen = true ∧
      t.twin.partSeq = some (max (beAt b 4 4) (s.twin.partSeq.getD 0)) ∧ t.out = s.out ∧ t.mem = s.mem := by
  rw [heartbeat_fallow hpair hs hlen hid hgen hst hf hecho]
  obtain ⟨hout, hmem⟩ := out_mem_beat s s.linkA (beAt b 4 4)
  refine ⟨?_, ?_, ?_, rfl, rfl, (mapTwin_out ..).trans hout, (mapTwin_mem ..).trans hmem⟩
  · rw [State.bit, reg_of_mapTwin]
    exact seenBit_beat ..
  · rw [State.missRun, State.fld, reg_of_mapTwin]
    exact missRun_beat ..
  · exact (states_of_status (reg_of_mapTwin ..)).trans ((states_beat ..).trans hst)

theorem ends_heartbeat {s : State} {τ l : Nat} {b : List Byte} {p : State → Prop} (h : p ((s.advance τ).heartbeat l b)) :
    Ends (.heartbeat τ l b) s p := ⟨_, rfl, h⟩

/-! ## Chunks -/

/-- A chunk of a copy stands in its place in the region of its phase (R179, R180). -/
theorem rebuild_writes {s : State} {phase c : Nat} {b : List Byte} (hpair : s.paired = true) (hs : s.safe = false)
    (hlen : b.length = 2 ^ 20) (hphase : phase = 1 ∧ s.own = 4 ∨ phase = 2 ∧ s.replOk = false) :
    Ends (.rebuild phase c b) s fun t =>
      t.bytes ((if phase = 1 then s.reg64 Reg.JNL_LIVE_BASE_LO else s.reg64 Reg.JNL_REPL_BASE_LO) + c * 2 ^ 20) (2 ^ 20) = b := by
  refine ⟨_, ?_, bytes_agentStore s _ hlen⟩
  have hgo : ¬(s.safe = true ∨ (!s.paired) = true ∨ (phase ≠ 1 ∧ phase ≠ 2)) := by
    simp only [hs, hpair, Bool.not_true, Bool.false_eq_true, false_or]
    omega
  have h1 : ¬(phase = 1 ∧ s.own ≠ ownRebuilding) := by unfold ownRebuilding; omega
  have h2 : ¬(phase = 2 ∧ s.replOk = true) := by
    rintro ⟨h2, hr⟩
    rcases hphase with ⟨h, -⟩ | ⟨-, h⟩
    · omega
    · exact absurd hr (by rw [h]; decide)
  change execRebuild phase c b s = _
  rw [execRebuild, if_neg hgo, if_neg h1, if_neg h2, List.take_of_length_le hlen.le]

theorem rebuild_complete {s : State} (c : Nat) (b : List Byte) (hpair : s.paired = true) (hs : s.safe = false)
    (hrepl : s.replOk = true) : Ends (.rebuild 2 c b) s fun t => t = s := by
  refine ⟨s, ?_, rfl⟩
  change execRebuild 2 c b s = _
  simp [execRebuild, hs, hpair, hrepl]

/-! ## The obligation -/

/-- Settles O35: a copy of a sheaf that fails its form (R149), the notices of a seal, a rollback and the hand-back (R150, R174,
R180, R182), heartbeats (R165, R166), chunks (R179). -/
theorem partnerMessages : Obligations.PartnerMessages := by
  rintro s ⟨hpair, hs⟩
  exact ⟨fun l b ue => sheaf_rejected hpair hs ue, fun e c1 c2 => sealCompleteNotice_noted hpair hs e c1 c2,
    fun a b => rollbackNotice_late hpair hs b, fun a b => rollbackNotice_names hpair hs,
    fun e => handbackNotice_reclaims hs, fun τ l b => heartbeat_bad hpair hs τ,
    fun τ b _ hlen hid hgen hst hf hecho => ends_heartbeat (heartbeat_seen (s := s.advance τ) hpair hs hlen hid hgen hst hf hecho),
    fun c b hlen hown => rebuild_writes hpair hs hlen (.inl ⟨rfl, hown⟩),
    fun c b hlen hrepl => rebuild_writes hpair hs hlen (.inr ⟨rfl, hrepl⟩),
    fun hrepl c b => rebuild_complete c b hpair hs hrepl⟩

end Sys2Proof.Machine
end

section
/-! SUPPORT. The Steward runs a command that nothing keeps back; frames to the partner and what they leave alone. -/

namespace Sys2Proof.Machine

open Sys2Proof Sys2Proof.Stated

/-! ## A command that nothing keeps back -/

/-- The state in which the run of a command ends: with its reply, its refusal, or the command still in hand. -/
def CmdEnd.state (c : FwCmd) : CmdEnd → State
  | .ok s body => s.replyOk c body
  | .err s status => s.replyErr c status
  | .wait s => s

section

variable {s : State} {c : FwCmd} {op : Nat} {i : Instr} {p : State → Prop} {f : FwCmd → State → CmdEnd}

theorem refusal_of_runs (hr : runs s c) : s.refusal c = none := by
  obtain ⟨-, -, -, -, hlife, hbusy, -, -⟩ := hr
  simp only [State.refusal, hbusy, Bool.false_eq_true, if_false]
  exact if_neg fun h => h.2 (hlife h.1)

theorem runChecked_of_runs {bad : FwCmd → State → Bool} (hr : runs s c) (hop : c.opcode = op)
    (hbad : c.stage = .fresh → bad c s = false) : s.runChecked c.plot c.queue op bad f = (f c s).state c := by
  have href := refusal_of_runs hr
  obtain ⟨hfind, hsafe, hhalt, hstage, -, -, hheld, hlate⟩ := hr
  subst hop
  have hgo : ¬(s.safe = true ∨ s.evral.stewHalt = true ∨ c.stage = .mirroring) := by simp [hsafe, hhalt, hstage]
  have hfits : ¬(c.stage = .fresh ∧ bad c s = true) := fun h => by simp [hbad h.1] at h
  rw [State.runChecked, hfind]
  simp only [if_neg hgo, hheld, Bool.false_eq_true, and_false, if_false, if_neg hfits, href]
  cases f c s <;> simp [CmdEnd.state, hlate]

/-- An instruction whose meaning is the run of a command ends where that run does. -/
theorem ends_runChecked {bad : FwCmd → State → Bool} (hi : exec i s = .next (s.runChecked c.plot c.queue op bad f)) (hr : runs s c)
    (hop : c.opcode = op) (hbad : c.stage = .fresh → bad c s = false) (hp : p ((f c s).state c)) : Ends i s p :=
  ⟨_, hi.trans (congrArg _ (runChecked_of_runs hr hop hbad)), hp⟩

theorem ends_runCmd (hi : exec i s = .next (s.runCmd c.plot c.queue op f)) (hr : runs s c) (hop : c.opcode = op)
    (hp : p ((f c s).state c)) : Ends i s p :=
  ends_runChecked hi hr hop (fun _ => rfl) hp

end

/-- A command that has begun is among those in hand. -/
theorem mem_cmds_setCmd {s : State} {c : FwCmd} (hr : runs s c) (st : CmdStage) :
    { c with stage := st } ∈ (s.setCmd { c with stage := st }).steward.cmds :=
  List.mem_map.2 ⟨c, List.mem_of_find?_eq_some hr.1, if_pos rfl⟩

/-! ## Frames to the partner -/

section

variable {α : Type} {p : State → α} (ho : ∀ (s : State) o, p (s.emit o) = p s)

include ho

theorem mirrorSend_keeps (s : State) (kind : Nat) (b : List Byte) : p (s.mirrorSend kind b) = p s := by
  have hlink (s : State) (l : Nat) : p (s.linkSend l kind b) = p s := by
    unfold State.linkSend
    split
    · rfl
    · exact ho ..
  exact (hlink _ _).trans (hlink _ _)

theorem mirrorKey_keeps (s : State) (n : Nat) : p (s.mirrorKey n) = p s := by
  unfold State.mirrorKey State.sendKey State.sendKeyOf
  split
  · rfl
  split
  · split
    · split
      · exact mirrorSend_keeps ho ..
      · rfl
    · rfl
  · rfl

theorem sendCopies_keeps (s : State) : p s.sendCopies = p s := by
  unfold State.sendCopies
  refine (foldl_keeps p (fun s b => mirrorSend_keeps ho _ _ _) _ _).trans ?_
  refine (foldl_keeps p (fun s k => mirrorKey_keeps ho _ _) _ _).trans ?_
  refine foldl_keeps p (fun s x => ?_) _ _
  split
  · rfl
  · exact mirrorSend_keeps ho ..

end

end Sys2Proof.Machine
end

section
/-! SUPPORT. What the wipes of the strongrooms and of the key slots leave alone (R429, R488). -/

namespace Sys2Proof.Machine

open Sys2Proof Sys2Proof.Stated

/-! ## The reports of engine jobs -/

/-- A register that is no scratchpad status. -/
def offSpstat (o : Nat) : Prop := ∀ k, o ≠ clsReg Reg.CLS_SPSTAT k

/-- Within its block of 64 KiB the scratchpad status of a cluster stands at 0x124. -/
theorem offSpstat_of_mod {o : Nat} (h : o % 0x10000 ≠ 0x124) : offSpstat o := by
  intro k
  simp only [clsReg, Reg.CLS_SPSTAT]
  omega

theorem offSpstat_sperr (c : Nat) : offSpstat (clsReg Reg.CLS_SPERR c) :=
  offSpstat_of_mod (by simp only [clsReg, Reg.CLS_SPERR]; omega)

theorem offSpstat_gleanRegs {o : Nat} (h : o ∈ gleanRegs) : offSpstat o :=
  offSpstat_of_mod ((by decide : ∀ o ∈ gleanRegs, o % 0x10000 ≠ 0x124) o h)

/-- What the end of engine jobs and of the programs of Furrow leaves alone: what stores, records, key slots, Furrow and frames
do not decide, nor a register other than the scratchpad status. -/
structure ReportFree {α : Type} (p : State → α) : Prop extends StoreFree p where
  gleaner : ∀ (s : State) f, p (s.mapGleaner f) = p s
  almanac : ∀ (s : State) f, p (s.mapAlmanac f) = p s
  cipher  : ∀ (s : State) f, p (s.mapCipher f) = p s
  furrow  : ∀ (s : State) f, p (s.mapFurrow f) = p s
  emit    : ∀ (s : State) o, p (s.emit o) = p s
  drawn   : ∀ s : State, p s.drawn = p s
  regs    : ∀ (s : State) o v, offSpstat o → p (s.setReg o v) = p s

namespace ReportFree

variable {α : Type} {p : State → α} (h : ReportFree p)

include h

theorem setBit (s : State) {o : Nat} (b : Nat) (v : Bool) (ho : offSpstat o) : p (s.setBit o b v) = p s := h.regs s o _ ho

theorem count (s : State) {o : Nat} (n : Nat) (ho : offSpstat o) : p (s.count o n) = p s := h.regs s o _ ho

theorem event (s : State) (source : Nat) {cls : Nat} (det : Nat) (hcls : cls ≠ 6) : p (s.event source cls det) = p s :=
  event_keeps p h.gleaner h.almanac (fun s o v ho => h.regs s o v (offSpstat_gleanRegs ho)) s source det hcls

theorem errEvent (s : State) {err : Nat} (bit source : Nat) {cls : Nat} (plot inst : Nat) (hcls : cls ≠ 6) (ho : offSpstat err) :
    p (s.errEvent err bit source cls plot inst) = p s :=
  (h.event _ _ _ hcls).trans (h.setBit _ _ _ ho)

theorem engineWrite (s : State) (pa : Nat) (data : List Byte) (strong : Bool) : p (s.engineWrite pa data strong) = p s := by
  have hline (s : State) (pa : Nat) (data : List Byte) : p (s.engineWriteLine pa data strong) = p s := by
    unfold State.engineWriteLine
    split
    · exact h.agentStore ..
    · split_ifs
      · exact h.errEvent _ _ _ _ _ (by decide) (offSpstat_sperr _)
      · rfl
      · exact h.deviceStore ..
      · exact h.deviceStore ..
    · rfl
  exact foldl_keeps p (fun _ _ => hline _ _ _) _ _

/-! ### Programs of Furrow -/

theorem closeOp (s : State) (o : FrwOp) (st : Nat) : p (s.closeOp o st) = p s := by
  unfold State.closeOp
  dsimp only
  split
  · exact (h.furrow _ _).trans (h.furrow _ _)
  · unfold State.mirrorOp
    split
    · exact (h.furrow _ _).trans (h.furrow _ _)
    · exact (mirrorSend_keeps h.emit _ _ _).trans ((h.furrow _ _).trans (h.furrow _ _))

theorem opEnd (s : State) (o : FrwOp) (st sc resid : Nat) : p (s.opEnd o st sc resid) = p s := by
  unfold State.opEnd
  extract_lets head left status paths conflict closed
  have hstatus : p status = p s := (h.engineWrite _ _ _ _).trans ((h.engineWrite _ _ _ _).trans (h.engineWrite _ _ _ _))
  have hpaths : p paths = p s := by
    unfold paths
    split
    · exact (h.setBit _ _ _ (offSpstat_of_mod (by decide))).trans hstatus
    · exact hstatus
  have hconflict : p conflict = p s := by
    unfold conflict
    split
    · exact (h.setBit _ _ _ (offSpstat_of_mod (by decide))).trans hpaths
    · exact hpaths
  have hclosed : p closed = p s := (h.closeOp _ _ _).trans hconflict
  split
  · exact hclosed
  · split
    · exact (h.unit _ _ _).trans hclosed
    · exact (h.unit _ _ _).trans hclosed

theorem jobDone (s : State) (id st : Nat) : p (s.jobDone id st) = p s := by
  have hnext (o : FrwOp) : p (s.opNext o) = p s := by
    unfold State.opNext
    split
    · exact h.opEnd ..
    · dsimp only
      split
      · exact h.opEnd ..
      · exact h.furrow ..
  unfold State.jobDone
  split
  · split
    · rfl
    split
    · exact h.opEnd ..
    split
    · exact hnext _
    · exact h.opEnd ..
  · rfl

/-! ### Jobs of the Cipher engines -/

theorem cphReport (s : State) (desc : Nat) (b : List Byte) (plot : Nat) (furrow : Option Nat) (outLen : Nat) :
    p (s.cphReport desc b plot furrow cphKeyLost outLen) = p s := by
  have hcount : p (((s.engineWrite (desc + 116) (leBytes 4 outLen) false).engineWrite (desc + 112)
      (leBytes 2 cphKeyLost) false).count Reg.CPH_CNT_JOBS 1) = p s :=
    (h.count _ _ (offSpstat_of_mod (by decide))).trans ((h.engineWrite _ _ _ _).trans (h.engineWrite _ _ _ _))
  have hbusy : cphKeyLost ≠ cphBusy := by decide
  have hauth : cphKeyLost ≠ cphAuthFail := by decide
  have hengine : cphKeyLost ≠ cphEngine := by decide
  simp only [State.cphReport, if_neg hbusy, if_neg hauth, if_neg hengine, if_neg fun h : _ ∧ _ => hauth h.1]
  split
  · exact (h.jobDone _ _ _).trans hcount
  · split
    · exact (h.unit _ _ _).trans hcount
    · exact hcount

theorem cphStopped (s : State) (j : CphJob) (most : Nat) (zero : Bool) (out : List Byte) :
    p (s.cphStopped j most zero out) = p s := by
  unfold State.cphStopped
  split
  · rfl
  · exact (h.engineWrite _ _ _ _).trans (h.drawn _)

/-- The wipe of the vault (R488). -/
theorem wipeVault (s : State) : p s.wipeVault = p s := by
  unfold State.wipeVault
  refine (foldl_keeps p (fun s j => h.cphReport ..) _ _).trans ?_
  refine (h.setBit _ _ _ (offSpstat_of_mod (by decide))).trans ((h.count _ _ (offSpstat_of_mod (by decide))).trans ?_)
  exact (h.cipher _ _).trans ((h.cipher _ _).trans (foldl_keeps p (fun s j => h.cphStopped ..) _ _))

end ReportFree

/-- Fuses, power and the clock, and the scratchpad status of a cluster. -/
def State.wipeKept (k : Nat) (s : State) : Fuses × Power × Nat × Word := (s.fuses, s.power, s.time, s.reg (clsReg Reg.CLS_SPSTAT k))

theorem reportFree_wipeKept (k : Nat) : ReportFree (State.wipeKept k) where
  cluster _ _ _ := rfl
  unit _ _ _ := rfl
  mem _ _ := rfl
  gleaner _ _ := rfl
  almanac _ _ := rfl
  cipher _ _ := rfl
  furrow _ _ := rfl
  emit _ _ := rfl
  drawn _ := rfl
  regs s o v ho := by simp only [State.wipeKept, reg_setReg_other s v (ho k).symm]; rfl

/-! ## The strongrooms -/

/-- Waking a bank writes the retention and the status of its cluster. -/
theorem wakeBank_keeps {α : Type} {p : State → α} {c : Nat}
    (hr : ∀ (s : State) o v, o = clsReg Reg.CLS_SPRET c ∨ o = clsReg Reg.CLS_SPSTAT c → p (s.setReg o v) = p s) (s : State)
    (b : Nat) (busy : List Nat) : p (s.retainBank c b false busy) = p s := by
  unfold State.retainBank
  dsimp only
  split
  · rfl
  · exact (hr _ _ _ (.inr rfl)).trans ((hr _ _ _ (.inr rfl)).trans (hr _ _ _ (.inl rfl)))

/-- The wipe of one strongroom starts. -/
def State.startWipeOf (s : State) (c : Nat) : State := (s.retainBank c 7 false []).setSpstat c 16 true

theorem startWipe_eq (s : State) : s.startWipe = allClusters.foldl State.startWipeOf s := rfl

theorem startWipeOf_sets (s : State) (c : Nat) : (s.startWipeOf c).bit (clsReg Reg.CLS_SPSTAT c) 16 = true :=
  bit_setBit_same _ _ (by decide)

/-- A wipe that has started goes on while others start. -/
theorem startWipeOf_leaves {s : State} (c : Nat) {k : Nat} (hk : s.bit (clsReg Reg.CLS_SPSTAT k) 16 = true) :
    (s.startWipeOf c).bit (clsReg Reg.CLS_SPSTAT k) 16 = true := by
  by_cases hck : k = c
  · exact hck ▸ startWipeOf_sets s k
  · have hstat : clsReg Reg.CLS_SPSTAT k ≠ clsReg Reg.CLS_SPSTAT c := by simp only [clsReg]; omega
    have hret : clsReg Reg.CLS_SPSTAT k ≠ clsReg Reg.CLS_SPRET c := by simp only [clsReg, Reg.CLS_SPSTAT, Reg.CLS_SPRET]; omega
    have hwake := wakeBank_keeps (p := (·.reg (clsReg Reg.CLS_SPSTAT k))) (c := c)
      (fun s o v ho => reg_setReg_other s v (by rcases ho with rfl | rfl <;> assumption)) s 7 []
    rw [State.bit, State.startWipeOf, State.setSpstat, reg_setBit_other _ _ _ hstat, hwake]
    exact hk

theorem foldl_startWipeOf_sets {k : Nat} (l : List Nat) (t : State) (ht : k ∈ l ∨ t.bit (clsReg Reg.CLS_SPSTAT k) 16 = true) :
    (l.foldl State.startWipeOf t).bit (clsReg Reg.CLS_SPSTAT k) 16 = true := by
  induction l generalizing t with
  | nil => exact ht.resolve_left List.not_mem_nil
  | cons c l ih =>
    rw [List.foldl_cons]
    apply ih
    rcases ht with hmem | hset
    · rcases List.mem_cons.1 hmem with rfl | hl
      · exact .inr (startWipeOf_sets t k)
      · exact .inl hl
    · exact .inr (startWipeOf_leaves c hset)

theorem startWipe_sets (s : State) {k : Nat} (hk : k < 12) : s.startWipe.bit (clsReg Reg.CLS_SPSTAT k) 16 = true := by
  rw [startWipe_eq]
  exact foldl_startWipeOf_sets _ s (.inl (List.mem_range.2 hk))

theorem startWipe_keeps {α : Type} {p : State → α} (hr : ∀ (s : State) o v, p (s.setReg o v) = p s) (s : State) :
    p s.startWipe = p s :=
  foldl_keeps p (fun s _ => (hr _ _ _).trans (wakeBank_keeps (fun s o v _ => hr s o v) s 7 [])) _ _

/-- A change of the lifecycle state: its fuses, its reset 1 ms later, and the wipe of every strongroom under way (R562). -/
theorem transition_wipes (s : State) (n : Nat) : let y := s.transition n
    y.fuses = { s.fuses with lifecycle := n, lcCount := s.fuses.lcCount + 1
                             ownerHash := if n = 1 then sha384 s.ownerPub else s.fuses.ownerHash } ∧
    y.power = { s.power with lcReset := some (s.time + 1000000) } ∧ ∀ k < 12, y.bit (clsReg Reg.CLS_SPSTAT k) 16 = true := by
  have hkept (z : State) (k : Nat) := (reportFree_wipeKept k).wipeVault z.startWipe
  have hstart (z : State) : (z.startWipe.fuses, z.startWipe.power, z.startWipe.time) = (z.fuses, z.power, z.time) :=
    startWipe_keeps (p := fun s => (s.fuses, s.power, s.time)) (fun _ _ _ => rfl) z
  simp only [State.wipeKept, Prod.mk.injEq] at hkept hstart
  have hfuses (z : State) : z.startWipe.wipeVault.fuses = z.fuses := (hkept z 0).1.trans (hstart z).1
  have hpower (z : State) : z.startWipe.wipeVault.power = z.power := (hkept z 0).2.1.trans (hstart z).2.1
  have htime (z : State) : z.startWipe.wipeVault.time = z.time := (hkept z 0).2.2.1.trans (hstart z).2.2
  have hstat (z : State) (k : Nat) := (hkept z k).2.2.2
  refine ⟨?_, ?_, fun k hk => ?_⟩
  · rw [State.transition, mapPower_fuses, hfuses, mapFuses_fuses]
  · rw [State.transition, mapPower_power, hpower, htime, mapFuses_power, mapFuses_time]
  · rw [State.bit, State.transition, reg_of_mapPower, hstat]
    exact startWipe_sets _ hk

end Sys2Proof.Machine
end

section
/-! SUPPORT. The installation of a pairing (R162, R267, R480). -/

namespace Sys2Proof.Machine

open Sys2Proof Sys2Proof.Stated

/-! ## Arbitration without namespaces -/

/-- The registers that name the arbitration, destage and checkpoint namespaces of both devices. -/
def arbRegs : List Nat := [Reg.FRW_NSARBO, Reg.FRW_NSARBP, Reg.FRW_NSDST, Reg.FRW_NSPLG, Reg.FRW_NSPDST, Reg.FRW_NSPPLG]

/-- No namespace is named. -/
def State.unnamed (s : State) : Prop := ∀ reg ∈ arbRegs, s.fld reg 25 0 = 0

theorem unnamed_of_regs {s t : State} (hs : s.unnamed) (h : ∀ reg ∈ arbRegs, t.reg reg = s.reg reg) : t.unnamed := by
  intro reg hreg
  rw [State.fld, h reg hreg]
  exact hs reg hreg

/-- An operation of Furrow that begins is noted there and nowhere else. -/
theorem newOp_keeps {α : Type} {p : State → α} (hf : ∀ (s : State) f, p (s.mapFurrow f) = p s) (s : State) (k : FrwKind)
    (epoch : Nat) : p (s.newOp k epoch).1 = p s := by
  dsimp only [State.newOp]
  exact hf ..

section

variable {s : State} (hs : s.unnamed)

include hs

theorem arbCmd_unnamed {reg : Nat} (hreg : reg ∈ arbRegs) (op what : Nat) (args : List Nat) : s.arbCmd op reg what args = s :=
  if_pos (hs reg hreg)

theorem foldl_arbCmd_unnamed (op what : Nat) (args : State → List Nat) {l : List Nat} (hl : l ⊆ arbRegs) :
    (l.foldl (fun s reg => s.arbCmd op reg what (args s)) s) = s := by
  induction l with
  | nil => rfl
  | cons reg l ih =>
    obtain ⟨hreg, hl⟩ := List.cons_subset.1 hl
    rw [List.foldl_cons, arbCmd_unnamed hs hreg, ih hl]

theorem unnamed_newOp (k : FrwKind) : (s.newOp k 0).1.unnamed :=
  unnamed_of_regs hs fun reg _ => newOp_keeps (p := (·.reg reg)) (fun _ _ => rfl) s k 0

theorem issueAcquire_unnamed : s.issueAcquire = (s.newOp (.arb arbAcquire) 0).1 := by
  have hnew := unnamed_newOp hs (.arb arbAcquire)
  exact foldl_arbCmd_unnamed hnew _ nvAcquire (fun s => [0, 1, s.resvKey s.devId, 0]) (by decide)

theorem issueReport_unnamed : s.issueReport = (s.newOp (.arb arbReport) 0).1.mapTwin fun w =>
    { w with reports := w.reports ++ [(s.newOp (.arb arbReport) 0).1.timeBase] } := by
  have hnew := unnamed_newOp hs (.arb arbReport)
  dsimp only [State.issueReport]
  rw [arbCmd_unnamed hnew (by decide)]

/-- Without namespaces the arbitration only notes its operations, and the time of its report. -/
theorem arbitrate_keeps {α : Type} {p : State → α} (hf : ∀ (s : State) f, p (s.mapFurrow f) = p s)
    (ht : ∀ (s : State) f, p (s.mapTwin f) = p s) : p s.arbitrate = p s := by
  have hnew := unnamed_newOp hs (.arb arbRegister)
  have hregister : s.arbitrate = (s.newOp (.arb arbRegister) 0).1.issueAcquire.issueReport := by
    exact congrArg (fun z : State => z.issueAcquire.issueReport)
      (foldl_arbCmd_unnamed hnew _ nvRegister (fun s => [0, s.resvKey s.devId]) (List.Subset.refl arbRegs))
  rw [hregister, issueAcquire_unnamed hnew, issueReport_unnamed (unnamed_newOp hnew _), ht, newOp_keeps hf, newOp_keeps hf,
    newOp_keeps hf]

end

/-! ## The copy to the partner begins -/

/-- What the beginning of a copy leaves alone: its cursors and its progress, the state of the pairing and frames apart. -/
theorem rejoin_keeps {α : Type} {p : State → α} (ht : ∀ (s : State) f, p (s.mapTwin f) = p s)
    (hj : ∀ (s : State) f, p (s.mapJournal f) = p s) (ho : ∀ (s : State) o, p (s.emit o) = p s)
    (hr : ∀ (s : State) o v, o = Reg.TWN_STATUS ∨ o = Reg.TWN_REBUILD → p (s.setReg o v) = p s) (s : State) :
    p s.rejoin = p s := by
  have hcopy (z : State) : p z.startCopy = p z :=
    (sendCopies_keeps ho _).trans ((hr _ _ _ (.inr rfl)).trans (ht _ _))
  have hreceive (z : State) : p z.startReceive = p z := by
    unfold State.startReceive
    exact (hj _ _).trans ((ht _ _).trans (hr _ _ _ (.inl rfl)))
  exact (hcopy _).trans ((hreceive _).trans (hr _ _ _ (.inl rfl)))

/-- PART is PAIRING when the copy begins (R162). -/
theorem part_rejoin (s : State) : s.rejoin.part = 1 := by
  have hcopy (z : State) : z.startCopy.reg Reg.TWN_STATUS = z.reg Reg.TWN_STATUS :=
    (sendCopies_keeps (p := (·.reg Reg.TWN_STATUS)) (fun _ _ => rfl) _).trans (reg_setReg_other _ _ (by decide))
  have hreceive (z : State) : z.startReceive.reg Reg.TWN_STATUS = setBits (z.reg Reg.TWN_STATUS) 3 3 0 := by
    rw [State.startReceive, reg_of_mapJournal, reg_of_mapTwin, State.setBit, reg_setFld_same]
    rfl
  rw [State.part, State.fld, State.rejoin, hcopy, hreceive, bits_setBits_out _ _ (by decide) (by decide) (by decide), State.setPart,
    reg_setFld_same, bits_setBits _ _ (by decide) (by decide)]
  rfl

/-! ## The pairing -/

/-- What a pairing installs before the copy to the partner begins. -/
def State.installed (s : State) (c : FwCmd) (plain : List Byte) (k : KeySlot) : State :=
  ((((s.forgetSheafKeys.fillSlot 8 k).mapMram fun m =>
      { m with twinCfg := c.twinCfg, twinGen := BitVec.ofNat 32 (c.num pPairgen)
               twinBlob := keyWrap (s.forgetSheafKeys.fillSlot 8 k).twinStore plain }).setReg Reg.TWN_CFG c.twinCfg).setReg
    Reg.TWN_PAIRGEN (BitVec.ofNat 32 (c.num pPairgen))).mapTwin fun w => { w with hbSeen := false, partSeq := none }

theorem reg_installed (s : State) (c : FwCmd) (plain : List Byte) (k : KeySlot) (o : Nat) : (s.installed c plain k).reg o =
    if o = Reg.TWN_PAIRGEN then BitVec.ofNat 32 (c.num pPairgen) else if o = Reg.TWN_CFG then c.twinCfg else s.reg o := by
  rw [State.installed, reg_of_mapTwin, reg_setReg, reg_setReg, reg_of_mapMram, State.fillSlot, reg_of_mapCipher,
    State.forgetSheafKeys, reg_of_mapJournal, reg_of_mapCipher]

theorem installed_sets (s : State) (c : FwCmd) (plain : List Byte) (k : KeySlot) : let t := s.installed c plain k
    t.keySlot 8 = some k ∧ t.mram.twinCfg = c.twinCfg ∧ t.plots = s.plots ∧ t.steward = s.steward := by
  refine ⟨?_, ?_, ?_, ?_⟩
  · rw [State.installed, State.keySlot, mapTwin_cipher, setReg_cipher, setReg_cipher, mapMram_cipher, State.fillSlot, mapCipher_cipher,
      lookup_sput_same]
  · rw [State.installed, mapTwin_mram, setReg_mram, setReg_mram, mapMram_mram]
  · rw [State.installed, mapTwin_plots, setReg_plots, setReg_plots, mapMram_plots, State.fillSlot, mapCipher_plots,
      State.forgetSheafKeys, mapJournal_plots, mapCipher_plots]
  · rw [State.installed, mapTwin_steward, setReg_steward, setReg_steward, mapMram_steward, State.fillSlot, mapCipher_steward,
      State.forgetSheafKeys, mapJournal_steward, mapCipher_steward]

theorem pairWith_eq (s : State) (c : FwCmd) (plain : List Byte) (k : KeySlot) :
    s.pairWith c plain k = (s.installed c plain k).rejoin.arbitrate := rfl

section

variable {s : State} (hs : s.unnamed) (c : FwCmd) (plain : List Byte) (k : KeySlot)

include hs

theorem unnamed_rejoin_installed : (s.installed c plain k).rejoin.unnamed := by
  refine unnamed_of_regs hs fun reg hreg => ?_
  obtain ⟨hstatus, hrebuild, hcfg, hgen⟩ := (by decide : ∀ reg ∈ arbRegs, reg ≠ Reg.TWN_STATUS ∧ reg ≠ Reg.TWN_REBUILD ∧
    reg ≠ Reg.TWN_CFG ∧ reg ≠ Reg.TWN_PAIRGEN) reg hreg
  have hkept := rejoin_keeps (p := (·.reg reg)) (fun _ _ => rfl) (fun _ _ => rfl) (fun _ _ => rfl)
    (fun s o v ho => reg_setReg_other s v (by rcases ho with rfl | rfl <;> assumption)) (s.installed c plain k)
  rw [hkept, reg_installed, if_neg hgen, if_neg hcfg]

/-- The copy that a pairing begins, and its arbitration, leave alone what is installed. -/
theorem pairWith_keeps {α : Type} {p : State → α} (ht : ∀ (s : State) f, p (s.mapTwin f) = p s)
    (hj : ∀ (s : State) f, p (s.mapJournal f) = p s) (ho : ∀ (s : State) o, p (s.emit o) = p s)
    (hf : ∀ (s : State) f, p (s.mapFurrow f) = p s)
    (hr : ∀ (s : State) o v, o = Reg.TWN_STATUS ∨ o = Reg.TWN_REBUILD → p (s.setReg o v) = p s) :
    p (s.pairWith c plain k) = p (s.installed c plain k) :=
  (arbitrate_keeps (unnamed_rejoin_installed hs c plain k) hf ht).trans (rejoin_keeps ht hj ho hr _)

theorem part_pairWith : (s.pairWith c plain k).part = 1 := by
  have hctl := arbitrate_keeps (unnamed_rejoin_installed hs c plain k) (p := State.ctl) (fun _ _ => rfl) (fun _ _ => rfl)
  rw [pairWith_eq, State.part, fld_of_ctl hctl]
  exact part_rejoin _

/-- The pairing as TWIN_PAIR sets it at once. -/
theorem pairWith_sets : let t := s.pairWith c plain k
    t.reg Reg.TWN_CFG = c.twinCfg ∧ t.reg Reg.TWN_PAIRGEN = BitVec.ofNat 32 (c.num pPairgen) ∧ t.part = 1 ∧
      t.keySlot 8 = some k ∧ t.mram.twinCfg = c.twinCfg ∧ t.plots = s.plots ∧ t.steward = s.steward := by
  have hreg {o : Nat} (hstatus : o ≠ Reg.TWN_STATUS) (hrebuild : o ≠ Reg.TWN_REBUILD) :=
    pairWith_keeps hs c plain k (p := (·.reg o)) (fun _ _ => rfl) (fun _ _ => rfl) (fun _ _ => rfl) (fun _ _ => rfl)
      (fun s o v ho => reg_setReg_other s v (by rcases ho with rfl | rfl <;> assumption))
  have hrest := pairWith_keeps hs c plain k (p := fun s => (s.cipher, s.mram, s.plots, s.steward)) (fun _ _ => rfl)
    (fun _ _ => rfl) (fun _ _ => rfl) (fun _ _ => rfl) (fun _ _ _ _ => rfl)
  simp only [Prod.mk.injEq] at hrest
  obtain ⟨hcipher, hmram, hplots, hsteward⟩ := hrest
  have hinstalled := installed_sets s c plain k
  simp only [State.keySlot, ← hcipher, ← hmram, ← hplots, ← hsteward] at hinstalled
  refine ⟨?_, ?_, part_pairWith hs c plain k, hinstalled⟩
  · rw [hreg (by decide) (by decide), reg_installed, if_neg (by decide), if_pos rfl]
  · rw [hreg (by decide) (by decide), reg_installed, if_pos rfl]

end

end Sys2Proof.Machine
end

section
/-! OBLIGATIONS. The commands on twins, pairs, the lifecycle and debug (O42). -/

namespace Sys2Proof.Machine

open Sys2Proof Sys2Proof.Stated

/-! ## The pairing of twins -/

theorem badPartner_eq_false {s : State} {c : FwCmd} (hdev : c.num pPartner ≠ s.devId)
    (hlinks : beAt ((c.bytes? pLinks).getD []) 0 1 ≠ beAt ((c.bytes? pLinks).getD []) 1 1) : s.badPartner c = false := by
  simp only [State.badPartner, Bool.or_eq_false_iff, beq_eq_false_iff_ne]
  exact ⟨hdev, hlinks⟩

section

variable {s : State} {c : FwCmd} (hr : runs s c)

include hr

/-- TWIN_PAIR that has begun waits for the partner's first heartbeat (R271). -/
theorem twinPair_begun (b : Bool) (hop : c.opcode = 0x40) (hst : c.stage = .begun) :
    (s.twin.hbSeen = true → Ends (.twinPair c.plot c.queue b) s fun t => t = s.replyOk c []) ∧
    (s.twin.hbSeen = false → Ends (.twinPair c.plot c.queue b) s fun t => t = s) := by
  have hgood : c.stage = .fresh → s.badPartner c = false := fun h => absurd (hst.symm.trans h) (by decide)
  refine ⟨fun hseen => ends_runChecked rfl hr hop hgood ?_, fun hseen => ends_runChecked rfl hr hop hgood ?_⟩
  · rw [if_pos hst, if_pos hseen]
    rfl
  · rw [if_pos hst, hseen]
    rfl

section

variable (hop : c.opcode = 0x40) (hst : c.stage = .fresh) (hgood : s.badPartner c = false)

include hop hst hgood

theorem twinPair_paired (b : Bool) (hpart : s.part ≠ partNone) : Refused (.twinPair c.plot c.queue b) s c stWrongState := by
  refine ends_runChecked rfl hr hop (fun _ => hgood) ?_
  rw [if_neg (by rw [hst]; decide), if_pos hpart]
  rfl

theorem twinPair_common (hpart : s.part = partNone) : Refused (.twinPair c.plot c.queue true) s c stExists := by
  refine ends_runChecked rfl hr hop (fun _ => hgood) ?_
  rw [if_neg (by rw [hst]; decide), if_neg (not_not.2 hpart), if_pos rfl]
  rfl

variable {root k : KeySlot} {plain : List Byte} (hpart : s.part = partNone) (hroot : s.keySlot 1 = some root)
    (hplain : keyUnwrap (s.kekOf root.key 0) ((c.bytes? pWrapped).getD []) = some plain) (hk : slotOfPlain plain = some k)
    (hkind : k.kind = 7)

include hpart hroot hplain hk hkind

/-- A good twin root key begins the pairing (R480). -/
theorem twinPair_begins : Ends (.twinPair c.plot c.queue false) s fun t =>
    t = (s.pairWith c plain k).setCmd { c with stage := .begun } := by
  refine ends_runChecked rfl hr hop (fun _ => hgood) ?_
  rw [if_neg (by rw [hst]; decide), if_neg (not_not.2 hpart), if_neg Bool.false_ne_true, hroot]
  dsimp only
  rw [hplain]
  dsimp only
  rw [hk]
  dsimp only
  rw [if_neg (not_not.2 hkind)]
  rfl

/-- What TWIN_PAIR sets at once (R267, R480; log entry 79). -/
theorem twinPair_pairs (hnone : s.unnamed) : Ends (.twinPair c.plot c.queue false) s fun t =>
    t.reg Reg.TWN_CFG = c.twinCfg ∧ t.reg Reg.TWN_PAIRGEN = BitVec.ofNat 32 (c.num pPairgen) ∧ t.part = partPairing ∧
    t.keySlot 8 = some k ∧ t.mram.twinCfg = c.twinCfg ∧ t.plots = s.plots ∧ { c with stage := .begun } ∈ t.steward.cmds := by
  obtain ⟨t, ht, rfl⟩ := twinPair_begins hr hop hst hgood hpart hroot hplain hk hkind
  have hsets := pairWith_sets hnone c plain k
  refine ⟨_, ht, ?_⟩
  generalize s.pairWith c plain k = z at hsets
  obtain ⟨hcfg, hgen, hpairing, hkey, hmram, hplots, hsteward⟩ := hsets
  have hmem := mem_cmds_setCmd hr .begun
  rw [State.setCmd, mapSteward_steward, ← hsteward] at hmem
  exact ⟨hcfg, hgen, hpairing, hkey, hmram, hplots, hmem⟩

end

/-! ## The end of a pairing, and the return -/

/-- TWIN_UNPAIR waits for the tick in the states of PART that it leaves (R185). -/
theorem twinUnpair_fresh (hop : c.opcode = 0x41) (hst : c.stage = .fresh) :
    (s.part = partFallow ∨ s.part = partServing ∨ s.part = partLost → Ends (.twinUnpair c.plot c.queue) s fun t =>
      t = (s.setCmd { c with stage := .begun }).mapTwin fun w => { w with unpairNext := true }) ∧
    (s.part ≠ partFallow → s.part ≠ partServing → s.part ≠ partLost →
      Refused (.twinUnpair c.plot c.queue) s c stWrongState) := by
  have hfresh : ¬c.stage = .begun := by rw [hst]; decide
  refine ⟨fun hpart => ends_runCmd rfl hr hop ?_, fun h2 h7 h10 => ends_runCmd rfl hr hop ?_⟩
  · have hmay : s.mayUnpair = true := decide_eq_true hpart
    rw [if_neg hfresh, if_pos hmay]
    rfl
  · have hmay : s.mayUnpair = false := decide_eq_false (not_or.2 ⟨h2, not_or.2 ⟨h7, h10⟩⟩)
    rw [if_neg hfresh, hmay]
    rfl

theorem twinUnpair_begun (hop : c.opcode = 0x41) (hst : c.stage = .begun) :
    (s.part = partNone → Ends (.twinUnpair c.plot c.queue) s fun t => t = s.replyOk c []) ∧
    (s.part ≠ partNone → s.twin.unpairNext = true → Ends (.twinUnpair c.plot c.queue) s fun t => t = s) ∧
    (s.part ≠ partNone → s.twin.unpairNext = false → Refused (.twinUnpair c.plot c.queue) s c stWrongState) := by
  refine ⟨fun hpart => ends_runCmd rfl hr hop ?_, fun hpart hnext => ends_runCmd rfl hr hop ?_,
    fun hpart hnext => ends_runCmd rfl hr hop ?_⟩
  · rw [if_pos hst, if_pos hpart]
    rfl
  · rw [if_pos hst, if_neg hpart, if_pos hnext]
    rfl
  · rw [if_pos hst, if_neg hpart, hnext]
    rfl

/-- TWIN_RETURN with MODE 0 or 1 writes the hold of the return (R181). -/
theorem twinReturn_hold (hop : c.opcode = 0x42) (hmode : c.num pMode ≤ 1) : Ends (.twinReturn c.plot c.queue) s fun t =>
    t = (s.setBit Reg.TWN_CTRL 1 (c.num pMode == 1)).replyOk c [] := by
  refine ends_runCmd rfl hr hop ?_
  dsimp only
  rw [if_pos hmode]
  rfl

/-- TWIN_RETURN with MODE 2 asks for the plots at once where OWN is READY (R181). -/
theorem twinReturn_now (hop : c.opcode = 0x42) (hmode : c.num pMode = 2) :
    (s.own = ownReady → s.twin.returning = false → Ends (.twinReturn c.plot c.queue) s fun t =>
      t = (s.mapTwin fun w => { w with returning := true }).replyOk c []) ∧
    (s.own ≠ ownReady → Refused (.twinReturn c.plot c.queue) s c stWrongState) := by
  have hnow : ¬c.num pMode ≤ 1 := by omega
  refine ⟨fun hown hret => ends_runCmd rfl hr hop ?_, fun hown => ends_runCmd rfl hr hop ?_⟩ <;> dsimp only
  · have hreturn : s.returnNowOp = s.mapTwin fun w => { w with returning := true } := by
      simp [State.returnNowOp, State.tryReturn, hown, hret]
    rw [if_neg hnow, if_pos hown, hreturn]
    rfl
  · rw [if_neg hnow, if_neg hown]
    rfl

theorem twinStatus_replies (hop : c.opcode = 0x43) : Ends (.twinStatus c.plot c.queue) s fun t =>
    t = s.replyOk c ([s.view Reg.TWN_STATUS, s.view Reg.TWN_REBUILD, s.view Reg.TWN_HOLDLEFT, s.view Reg.TWN_HANDEPOCH_LO,
      s.view Reg.TWN_HANDEPOCH_HI].map regVal) :=
  ends_runCmd rfl hr hop rfl

/-! ## Pairs -/

/-- A command that moves a pair from one role over another to a third (R378, R380). -/
theorem changeRole_moves {i : Instr} {op before during after : Nat}
    (hi : exec i s = .next (s.runCmd c.plot c.queue op fun c s => s.changeRole c (c.num pPairnum) before during after))
    (hop : c.opcode = op) (hlt : during < 16) (hne : during ≠ after) : let p := c.num pPairnum
    (c.stage = .fresh → s.role p = before → Ends i s fun t =>
      t = (s.setRole p during).setCmd { c with stage := .begun } ∧ t.role p = during) ∧
    (c.stage = .fresh → s.role p ≠ before → Refused i s c stWrongState) ∧
    (c.stage = .begun → s.role p = after → Ends i s fun t => t = s.replyOk c []) ∧
    (c.stage = .begun → s.role p = during → (s.pair p).takeover = none → Ends i s fun t => t = s) := by
  intro p
  have hfresh (hst : c.stage = .fresh) : ¬c.stage = .begun := by rw [hst]; decide
  refine ⟨fun hst hrole => ends_runCmd hi hr hop ?_, fun hst hrole => ends_runCmd hi hr hop ?_,
    fun hst hrole => ends_runCmd hi hr hop ?_, fun hst hrole htake => ends_runCmd hi hr hop ?_⟩ <;> dsimp only [State.changeRole]
  · rw [if_neg (hfresh hst), if_pos hrole]
    refine ⟨rfl, ?_⟩
    change bits (((s.setRole p during).setCmd { c with stage := .begun }).reg (pairReg Reg.CLS_PAIRSTAT p)) 3 0 = during
    rw [State.setCmd, reg_of_mapSteward, State.setRole, reg_setFld_same, bits_setBits _ _ (by decide) (by decide)]
    exact Nat.mod_eq_of_lt hlt
  · rw [if_neg (hfresh hst), if_neg hrole]
    rfl
  · rw [if_pos hst, if_pos hrole]
    rfl
  · have hafter : s.role (c.num pPairnum) ≠ after := fun h => hne (hrole.symm.trans h)
    have hwait : s.role (c.num pPairnum) = during ∧ (s.pair (c.num pPairnum)).takeover.isNone = true :=
      ⟨hrole, Option.isNone_iff_eq_none.2 htake⟩
    rw [if_pos hst, if_neg hafter, if_pos hwait]
    rfl

/-- PAIR_RESERVE writes SOW_PAIR of a pair that is no spare and not retired (R241). -/
theorem pairReserve_reserves (hop : c.opcode = 0x4A) (hspare : s.role (c.num pPairnum) ≠ roleSpare)
    (hretired : s.role (c.num pPairnum) ≠ roleRetired) : Ends (.pairReserve c.plot c.queue) s fun t =>
      t = (s.writeFields (Reg.SOW_PAIR + 4 * c.num pPairnum)
        (BitVec.ofNat 32 (if c.num pRclass = 0xFF then 0 else 4 + c.num pRclass))).replyOk c [] := by
  have hpool := not_or.2 ⟨hspare, hretired⟩
  refine ends_runCmd rfl hr hop ?_
  dsimp only [State.writeSowPair]
  rw [if_neg hpool, if_neg hpool]
  rfl

theorem pairReserve_refused (hop : c.opcode = 0x4A)
    (h : s.role (c.num pPairnum) = roleSpare ∨ s.role (c.num pPairnum) = roleRetired) :
    Refused (.pairReserve c.plot c.queue) s c stWrongState := by
  refine ends_runCmd rfl hr hop ?_
  dsimp only
  rw [if_pos h]
  rfl

/-- SPARE_SET: a spare joins at the next tick, an active pair is released, a spare stays one (R377). -/
theorem spareSet_fresh (hop : c.opcode = 0x4B) (hst : c.stage = .fresh) : let p := c.num pPairnum
    (c.num pMode = 0 → s.role p = roleSpare → Ends (.spareSet c.plot c.queue) s fun t =>
      t = (s.setCmd { c with stage := .begun }).mapPair p fun x => { x with toActive := true }) ∧
    (c.num pMode = 1 → s.role p = roleActive → Ends (.spareSet c.plot c.queue) s fun t =>
      t = (s.setRole p roleReleasing).setCmd { c with stage := .begun }) ∧
    (c.num pMode = 1 → s.role p = roleSpare → Ends (.spareSet c.plot c.queue) s fun t => t = s.replyOk c []) := by
  intro p
  have hfresh : ¬c.stage = .begun := by rw [hst]; decide
  have hrelease (hmode : c.num pMode = 1) : ¬c.num pMode = 0 := by omega
  refine ⟨fun hmode hrole => ends_runCmd rfl hr hop ?_, fun hmode hrole => ends_runCmd rfl hr hop ?_,
    fun hmode hrole => ends_runCmd rfl hr hop ?_⟩ <;> dsimp only [State.spareActive, State.changeRole]
  · have hactive : s.role (c.num pPairnum) ≠ roleActive := fun h => absurd (hrole.symm.trans h) (by decide)
    rw [if_pos hmode, if_neg hactive, if_pos hrole, if_neg hfresh]
    rfl
  · have hspare : s.role (c.num pPairnum) ≠ roleSpare := fun h => absurd (hrole.symm.trans h) (by decide)
    rw [if_neg (hrelease hmode), if_neg hspare, if_neg hfresh, if_pos hrole]
    rfl
  · rw [if_neg (hrelease hmode), if_pos hrole]
    rfl

/-! ## Lifecycle -/

theorem lifecycleReq_barred (hop : c.opcode = 0x60) (hkey : s.transitionKey s.fuses.lifecycle (c.num pLcstate) = none) :
    Refused (.lifecycleReq c.plot c.queue) s c stLifecycle := by
  refine ends_runCmd rfl hr hop ?_
  dsimp only
  rw [hkey]
  rfl

/-- LIFECYCLE_REQ: a good signature makes the transition, a bad one sets its bit of LCT_ERR (R562). -/
theorem lifecycleReq_signed {k : List Byte} (hop : c.opcode = 0x60)
    (hkey : s.transitionKey s.fuses.lifecycle (c.num pLcstate) = some k) :
    let ok := ecVerify (sha384 (s.transitionBytes (c.num pLcstate))) k ((c.bytes? pSig).getD [])
    (ok = true → Ends (.lifecycleReq c.plot c.queue) s fun t => t = (s.transition (c.num pLcstate)).replyOk c []) ∧
    (ok = false → Ends (.lifecycleReq c.plot c.queue) s fun t =>
      t = (s.setBit Reg.LCT_ERR 1 true).replyErr c stAuthFailed) := by
  refine ⟨fun hok => ends_runCmd rfl hr hop ?_, fun hok => ends_runCmd rfl hr hop ?_⟩ <;> dsimp only <;> rw [hkey] <;> dsimp only
  · rw [if_pos hok]
    rfl
  · rw [hok]
    rfl

end

/-! ## Debug -/

/-- An authorisation that is accepted opens the port to its scope and is measured (R568). -/
theorem authorise_accepted {s : State} {b : List Byte} (h : s.authResult b = 1) : let y := s.authorise b
    y.evral = { s.evral with result := 1, scope := some (leAt b 6 2) } ∧ y.meas 6 = sha384 (s.meas 6 ++ sha384 b) := by
  have hkeeps (z : State) (source det : Nat) : ((z.event source 0 det).evral, (z.event source 0 det).boot) = (z.evral, z.boot) :=
    event_keeps (fun s => (s.evral, s.boot)) (fun _ _ => rfl) (fun _ _ => rfl) (fun _ _ _ _ => rfl) z source det (by decide)
  simp only [Prod.mk.injEq] at hkeeps
  simp only [State.authorise, h, if_true]
  refine ⟨(hkeeps _ _ _).1, ?_⟩
  rw [State.meas, (hkeeps _ _ _).2, State.extendMeas, mapBoot_boot, lookup_sput_same]
  rfl

theorem authorise_refused {s : State} {b : List Byte} (h : s.authResult b ≠ 1) : s.authorise b =
    (s.mapEvral fun e => { e with result := s.authResult b }).setBit Reg.DBG_ERR 1 true := if_neg h

theorem debugAuth_checks {s : State} {c : FwCmd} (hr : runs s c) (hop : c.opcode = 0x61) : let b := (c.bytes? pAuth).getD []
    (s.authResult b = 1 → Ends (.debugAuth c.plot c.queue) s fun t => ∃ y : State, t = y.replyOk c [] ∧
      y.evral = { s.evral with result := 1, scope := some (leAt b 6 2) } ∧ y.meas 6 = sha384 (s.meas 6 ++ sha384 b)) ∧
    (s.authResult b ≠ 1 → Ends (.debugAuth c.plot c.queue) s fun t =>
      t = ((s.mapEvral fun e => { e with result := s.authResult b }).setBit Reg.DBG_ERR 1 true).replyErr c stAuthFailed) := by
  intro b
  refine ⟨fun hres => ends_runCmd rfl hr hop ?_, fun hres => ends_runCmd rfl hr hop ?_⟩ <;> dsimp only
  · obtain ⟨hevral, hmeas⟩ := authorise_accepted hres
    have hresult : (s.authorise b).evral.result = 1 := by rw [hevral]
    rw [if_pos hresult]
    exact ⟨s.authorise b, rfl, hevral, hmeas⟩
  · have hrefused := authorise_refused hres
    have hresult : (s.authorise b).evral.result ≠ 1 := by rw [hrefused]; exact hres
    rw [if_neg hresult]
    exact congrArg (·.replyErr c stAuthFailed) hrefused

/-! ## The obligation -/

/-- Settles O42: TWIN_PAIR and TWIN_UNPAIR with what they wait for (R185, R271, R480), TWIN_RETURN and TWIN_STATUS, the roles of
pairs (R376 to R378, R380), LIFECYCLE_REQ with its wipes (R562), DEBUG_AUTH (R568). -/
theorem commandsOnTwinsAndPairs : Obligations.CommandsOnTwinsAndPairs := by
  intro s c hr p begun
  refine ⟨fun root plain k hop hst hdev hlinks => ?_, fun b hop hst => twinPair_begun hr b hop hst, twinUnpair_fresh hr,
    twinUnpair_begun hr, twinReturn_hold hr, fun hop hmode => (twinReturn_now hr hop hmode).1,
    fun hop hmode => (twinReturn_now hr hop hmode).2, twinStatus_replies hr, fun r hmem hop => ?_, pairReserve_reserves hr,
    pairReserve_refused hr, spareSet_fresh hr, fun hop => ⟨lifecycleReq_barred hr hop, fun k hkey => ?_⟩, debugAuth_checks hr⟩
  · have hgood := badPartner_eq_false hdev hlinks
    refine ⟨fun hpart b => twinPair_paired hr hop hst hgood b hpart, twinPair_common hr hop hst hgood,
      fun hpart hroot hplain hk hkind hns1 hns2 hns3 hns4 hns5 hns6 _ _ => ?_⟩
    refine twinPair_pairs hr hop hst hgood hpart hroot hplain hk hkind ?_
    simp only [State.unnamed, arbRegs, List.forall_mem_cons, List.not_mem_nil, false_implies, implies_true, and_true]
    exact ⟨hns1, hns2, hns3, hns4, hns5, hns6⟩
  · simp only [List.mem_cons, List.not_mem_nil, or_false] at hmem
    rcases hmem with rfl | rfl
    · exact changeRole_moves hr rfl hop (by decide) (by decide)
    · exact changeRole_moves hr rfl hop (by decide) (by decide)
  · obtain ⟨hok, hbad⟩ := lifecycleReq_signed hr hop hkey
    obtain ⟨hfuses, hpower, hstat⟩ := transition_wipes s (c.num 0x1F)
    refine ⟨fun h => ?_, hbad⟩
    obtain ⟨t, ht, rfl⟩ := hok h
    exact ⟨_, ht, _, rfl, hfuses, hpower, hstat⟩

end Sys2Proof.Machine
end

section
/-! SUPPORT. Single bits of a register after a write to it, and what a saturating count leaves alone. -/

namespace Sys2Proof.Machine

open Sys2Proof Sys2Proof.Stated

theorem bit_setFld_outside (s : State) {off hi lo i : Nat} (v : Nat) (hle : lo ≤ hi) (hhi : hi < 32) (hout : i < lo ∨ hi < i) :
    (s.setFld off hi lo v).bit off i = s.bit off i := by
  rw [State.bit, reg_setFld_same, getLsbD_setBits_out _ v hle hhi hout, State.bit]

theorem bit_setBit_otherBit (s : State) {off b i : Nat} (v : Bool) (hb : b < 32) (h : i ≠ b) :
    (s.setBit off b v).bit off i = s.bit off i :=
  bit_setFld_outside s _ le_rfl hb (Nat.lt_or_gt_of_ne h)

theorem bit_setBit_otherReg (s : State) {off o : Nat} (b i : Nat) (v : Bool) (h : o ≠ off) :
    (s.setBit off b v).bit o i = s.bit o i :=
  congrArg (·.getLsbD i) (reg_setBit_other s b v h)

theorem setBit_regsBut (s : State) (off b : Nat) (v : Bool) : RegsBut s (s.setBit off b v) [off] :=
  fun o ho => reg_setBit_other s b v (by simpa using ho)

/-- One more on a counter that saturates changes that counter alone. -/
theorem count_counts (s : State) (off : Nat) :
    ((s.count off 1).reg off).toNat = min 0xFFFFFFFF ((s.reg off).toNat + 1) ∧ OnlyCtl s (s.count off 1) ∧
      RegsBut s (s.count off 1) [off] :=
  ⟨reg_count_same s off, rfl, fun o ho => reg_count_other s 1 (by simpa using ho)⟩

theorem lookup_sdel_same {α : Type} (l : List (Nat × α)) (k : Nat) : (sdel l k).lookup k = none := by
  induction l with
  | nil => rfl
  | cons e l ih =>
    obtain ⟨j, w⟩ := e
    by_cases h : k = j
    · rw [sdel, if_pos h, ih]
    · rw [sdel, if_neg h, List.lookup, beq_eq_false_iff_ne.2 h, ih]

end Sys2Proof.Machine
end

section
/-! OBLIGATIONS. The Ethernet ports (O37). -/

namespace Sys2Proof.Machine

open Sys2Proof Sys2Proof.Stated

variable {s : State} {p : Nat} {r : State → Prop}

/-! ## The commands complete -/

theorem ends_frameReceive {τ room : Nat} {ok : Bool} {sec : SecTag} {b : List Byte}
    (h : r ((s.advance τ).frameIn p ok sec room b)) : Ends (.frameReceive τ p ok sec room b) s r := ⟨_, rfl, h⟩

theorem ends_macControlFrame {τ : Nat} {l : List (Nat × Nat)} (h : r ((s.advance τ).takePfc p l)) :
    Ends (.macControlFrame τ p l) s r := ⟨_, rfl, h⟩

theorem ends_portLinkUp (hp : p < 2) (hon : s.bit Reg.ETH_CTRL p = true)
    (h : r ((s.setBit (portReg Reg.ETH_PSTAT p) 0 true).setBit (portReg Reg.ETH_PSTAT p) 1 (s.fourLanes p))) :
    Ends (.portLinkUp p) s r := ⟨_, congrArg Host.Outcome.next (if_pos ⟨hp, hon⟩), h⟩

theorem ends_portLinkDown (hp : p < 2) (hup : s.portUp p = true) (h : r (s.linkLost p)) : Ends (.portLinkDown p) s r :=
  ⟨_, congrArg Host.Outcome.next (if_pos ⟨hp, hup⟩), h⟩

theorem ends_tsinfoRead {m : Master} (hr : s.readsReg m (portReg Reg.ETH_TSINFO p) = true) (h : r (s.readTsInfo p)) :
    Ends (.tsinfoRead m p) s r := ⟨_, congrArg Host.Outcome.next (if_pos hr), h⟩

theorem ends_tsHiRead {m : Master} (hr : s.readsReg m (portReg Reg.ETH_TS_HI p) = true) (h : r (s.readTsHi p)) :
    Ends (.tsHiRead m p) s r := ⟨_, congrArg Host.Outcome.next (if_pos hr), h⟩

/-! ## Frames that are dropped (R189 to R191) -/

theorem frameIn_badFcs (sec : SecTag) (room : Nat) (b : List Byte) (hup : s.portUp p = true) (hsafe : s.safe = false) :
    s.frameIn p false sec room b = s.count (portReg Reg.ETH_CNT_FCS p) 1 := by
  simp [State.frameIn, hup, hsafe]

theorem verify_plain (hsec : s.bit (portReg Reg.ETH_PCFG p) 8 = false) : s.verify p .plain = some s := by
  simp [State.verify, hsec]

/-- A frame that the port accepts, no MAC control frame, goes to its handler where neither PFC nor MACsec applies to it and
the receive buffer holds it. -/
theorem frameIn_eq_classify {room : Nat} {b : List Byte} {f : EthFrame} (hup : s.portUp p = true) (hsafe : s.safe = false)
    (hlen : b.length + 4 ≤ 9216) (hf : ethFrame b = some f) (hacc : s.macAccepted p f.dst f.etype = true)
    (htype : f.etype ≠ 0x8808) (hpfc : s.bit (portReg Reg.ETH_PCFG p) (16 + f.pcp) = false)
    (hsec : s.bit (portReg Reg.ETH_PCFG p) 8 = false) (hroom : b.length ≤ room) :
    s.frameIn p true .plain room b = s.classify p f := by
  simp [State.frameIn, hup, hsafe, Nat.not_lt.2 hlen, hf, hacc, htype, hpfc, Nat.not_lt.2 hroom, verify_plain hsec]

theorem classify_udp {f : EthFrame} {k : IpPkt} (hip : f.etype = 0x0800 ∨ f.etype = 0x86DD)
    (hk : ipPkt f.etype f.payload = some k) (hproto : k.proto = 17) : s.classify p f = s.udpIn p f.pcp k := by
  have hptp : f.etype ≠ 0x88F7 := by omega
  have harp : f.etype ≠ 0x0806 := by omega
  simp [State.classify, hptp, harp, hk, hproto]

/-- Whether its checksum holds or not, a datagram for an address that is not bound is discarded. -/
theorem udpIn_unbound {k : IpPkt} (pcp : Nat) (hptp : s.ptpOn p = false) (hbound : s.bound k.dst = false) :
    s.udpIn p pcp k = s.discard := by
  by_cases hsum : udpOk k = true <;> simp [State.udpIn, hsum, hptp, hbound]

/-! ## Pauses (R195) -/

theorem takePause_starts {q ns : Nat} (hq : q < 8) (hns : 0 < ns) (hpfc : s.bit (portReg Reg.ETH_PCFG p) (16 + q) = true) :
    s.takePause p (q, ns) = (s.mapPort p fun x => { x with pauses := sput x.pauses q (s.time + ns) }).setBit
      (portReg Reg.ETH_PSTAT p) (16 + q) true := by
  simp [State.takePause, Nat.not_le.2 hq, hpfc, hns.ne']

theorem macControlFrame_pauses {q ns : Nat} (τ : Nat) (hq : q < 8) (hns : 0 < ns) (hup : s.portUp p = true)
    (hpfc : s.bit (portReg Reg.ETH_PCFG p) (16 + q) = true) : Ends (.macControlFrame τ p [(q, ns)]) s fun t =>
      t.bit (portReg Reg.ETH_PSTAT p) (16 + q) = true ∧ (t.port p).pauses.lookup q = some ((s.advance τ).time + ns) ∧
      t.out = s.out ∧ RegsBut s t [portReg Reg.ETH_PSTAT p] := by
  have htake : (s.advance τ).takePfc p [(q, ns)] = (s.advance τ).takePause p (q, ns) := if_pos hup
  refine ends_macControlFrame ?_
  rw [htake, takePause_starts (s := s.advance τ) hq hns hpfc]
  refine ⟨bit_setBit_same _ true (by omega), ?_, rfl, setBit_regsBut (s.advance τ) _ _ _⟩
  rw [port_of_setBit, port_mapPort_same]
  exact lookup_sput_same ..

theorem flushPaused_of_empty (q : Nat) (h : (s.port p).txq = []) :
    s.flushPaused p q = s.mapPort p fun x => { x with txq := [] } := by
  simp [State.flushPaused, h]

theorem ends_pfcPauseExpire {τ q e : Nat} (hpause : (s.port p).pauses.lookup q = some e) (hover : e ≤ (s.advance τ).time)
    (h : r ((((s.advance τ).mapPort p fun x => { x with pauses := sdel x.pauses q }).setBit (portReg Reg.ETH_PSTAT p) (16 + q)
      false).flushPaused p q)) : Ends (.pfcPauseExpire τ p q) s r := by
  refine ⟨_, ?_, h⟩
  change execPfcPauseExpire τ p q s = _
  simp only [execPfcPauseExpire, port_of_advance, hpause, if_pos hover]

theorem pfcPauseExpire_resumes {q e : Nat} (τ : Nat) (hq : q < 8) (hpause : (s.port p).pauses.lookup q = some e)
    (hover : e ≤ (s.advance τ).time) (htxq : (s.port p).txq = []) : Ends (.pfcPauseExpire τ p q) s fun t =>
      t.bit (portReg Reg.ETH_PSTAT p) (16 + q) = false ∧ (t.port p).pauses.lookup q = none ∧
      RegsBut s t [portReg Reg.ETH_PSTAT p] ∧ t = { s.advance τ with ctl := t.ctl, eth := t.eth } := by
  refine ends_pfcPauseExpire hpause hover ?_
  rw [flushPaused_of_empty q (by rw [port_of_setBit, port_mapPort_same]; exact htxq)]
  refine ⟨bit_setBit_same _ false (by omega), ?_, setBit_regsBut (s.advance τ) _ _ _, rfl⟩
  rw [port_mapPort_same, port_of_setBit, port_mapPort_same]
  exact lookup_sdel_same ..

/-! ## Links (R188, R221) -/

/-- The status words of the ports lie above the registers that the ports share. -/
theorem pstat_above (p : Nat) : Reg.ETH_ERR < portReg Reg.ETH_PSTAT p ∧ Reg.ETH_CTRL < portReg Reg.ETH_PSTAT p := by
  unfold portReg Reg.ETH_ERR Reg.ETH_CTRL Reg.ETH_PSTAT
  omega

theorem portLinkUp_comesUp (hp : p < 2) (hon : s.bit Reg.ETH_CTRL p = true) : Ends (.portLinkUp p) s fun t =>
    t.portUp p = true ∧ OnlyCtl s t ∧ RegsBut s t [portReg Reg.ETH_PSTAT p] := by
  have hctrl := (pstat_above p).2.ne
  refine ends_portLinkUp hp hon ⟨?_, rfl, fun o ho => ?_⟩
  · rw [State.portUp, bit_setBit_otherReg _ _ _ _ hctrl, bit_setBit_otherReg _ _ _ _ hctrl, hon,
      bit_setBit_otherBit _ _ (by decide) (by decide), bit_setBit_same _ _ (by decide), Bool.and_self]
  · exact (setBit_regsBut _ _ _ _ o ho).trans (setBit_regsBut _ _ _ _ o ho)

theorem port_linkLost (s : State) (p : Nat) : (s.linkLost p).port p = { s.port p with pauses := [], txq := [] } := by
  simp only [State.linkLost, port_of_setBit, port_mapPort_same, port_of_setFld]

theorem portUp_linkLost (s : State) (p : Nat) : (s.linkLost p).portUp p = false := by
  have hdown : (s.linkLost p).bit (portReg Reg.ETH_PSTAT p) 0 = false := by
    rw [State.linkLost, bit_setBit_otherReg _ _ _ _ (pstat_above p).1.ne', State.bit, reg_of_mapPort]
    exact (bit_setFld_outside _ _ (by decide) (by decide) (.inl (by decide))).trans (bit_setBit_same _ _ (by decide))
  rw [State.portUp, hdown, Bool.and_false]

theorem portLinkDown_losesPauses (hp : p < 2) (hup : s.portUp p = true) : Ends (.portLinkDown p) s fun t =>
    t.portUp p = false ∧ (t.port p).pauses = [] ∧ (t.port p).txq = [] ∧ t.bit Reg.ETH_ERR 1 = true ∧
      t = { s with ctl := t.ctl, eth := t.eth } := by
  refine ends_portLinkDown hp hup ⟨portUp_linkLost s p, ?_, ?_, ?_, ?_⟩
  · rw [port_linkLost]
  · rw [port_linkLost]
  · rw [State.linkLost]
    exact bit_setBit_same _ true (by decide)
  · rw [State.linkLost]
    rfl

/-! ## Timestamps (R11, R221) -/

theorem tsinfoRead_latches {m : Master} (hr : s.readsReg m (portReg Reg.ETH_TSINFO p) = true) : Ends (.tsinfoRead m p) s fun t =>
    t.ctl.rdata = s.tsInfo p ∧ (t.port p).latched = (s.port p).stamps.head? ∧ (t.port p).stamps = (s.port p).stamps ∧
      t = { s with ctl := t.ctl, eth := t.eth } := by
  refine ends_tsinfoRead hr ⟨rfl, ?_, ?_, rfl⟩ <;>
    rw [State.readTsInfo, State.answerRead, port_of_mapCtl, port_mapPort_same]

theorem tsHiRead_removes {m : Master} {e : TsEntry} (hr : s.readsReg m (portReg Reg.ETH_TS_HI p) = true)
    (he : (s.port p).latched = some e) : Ends (.tsHiRead m p) s fun t =>
      t.ctl.rdata = BitVec.ofNat 32 (e.stamp / 2 ^ 32) ∧ (t.port p).latched = some e ∧ (t.port p).inQueue = false ∧
      (t.port p).stamps = (if (s.port p).inQueue then (s.port p).stamps.drop 1 else (s.port p).stamps) ∧
      t = { s with ctl := t.ctl, eth := t.eth } := by
  have hport : (s.readTsHi p).port p = { s.port p with
      stamps := if (s.port p).inQueue then (s.port p).stamps.drop 1 else (s.port p).stamps, inQueue := false } := by
    rw [State.readTsHi, State.answerRead, port_of_mapCtl, port_mapPort_same]
  refine ends_tsHiRead hr ⟨?_, by rw [hport, he], by rw [hport], by rw [hport], rfl⟩
  simp only [State.readTsHi, State.answerRead, mapCtl_ctl, he, Option.map_some, Option.getD_some]

/-! ## The obligation -/

/-- Settles O37: dropped frames (R190, R191), pauses (R195), links (R188, R221), timestamps (R198, R221). -/
theorem ports : Obligations.Ports := by
  intro s p hp
  refine ⟨fun τ sec room b hup hsafe => ends_frameReceive ?_,
    fun τ room b f k hup hsafe hlen hf hacc hk hip hpfc hsec hroom hproto hptp hbound => ends_frameReceive ?_,
    fun τ q ns => macControlFrame_pauses τ, fun τ q e => pfcPauseExpire_resumes τ, portLinkUp_comesUp hp,
    portLinkDown_losesPauses hp, fun m => tsinfoRead_latches, fun m e => tsHiRead_removes⟩
  · rw [frameIn_badFcs (s := s.advance τ) sec room b hup hsafe]
    exact count_counts ..
  · have hdrop :=
      calc (s.advance τ).frameIn p true .plain room b
        _ = (s.advance τ).classify p f := frameIn_eq_classify hup hsafe hlen hf hacc (by omega) hpfc hsec hroom
        _ = (s.advance τ).udpIn p f.pcp k := classify_udp hip hk hproto
        _ = (s.advance τ).discard := udpIn_unbound _ hptp hbound
    rw [hdrop]
    exact count_counts ..

end Sys2Proof.Machine
end

section
/-! SUPPORT. Plots and queue pairs read back after the named changes of the tables. -/

namespace Sys2Proof.Machine

open Sys2Proof Sys2Proof.Stated

variable {s : State} {n p q : Nat}

/-! ## Plots -/

theorem plot_setPlot_same (s : State) (n : Nat) (x : Plot) : (s.setPlot n x).plot n = some x := lookup_sput_same ..

theorem plot_setPlot_other (s : State) (x : Plot) (h : p ≠ n) : (s.setPlot n x).plot p = s.plot p := lookup_sput_other _ x h

theorem mapPlot_of_plot {x : Plot} (f : Plot → Plot) (h : s.plot n = some x) : s.mapPlot n f = s.setPlot n (f x) := by
  simp only [State.mapPlot, h]

theorem plot_mapPlot_same {x : Plot} (f : Plot → Plot) (h : s.plot n = some x) : (s.mapPlot n f).plot n = some (f x) := by
  rw [mapPlot_of_plot f h, plot_setPlot_same]

theorem plot_mapPlot_other (f : Plot → Plot) (h : p ≠ n) : (s.mapPlot n f).plot p = s.plot p := by
  unfold State.mapPlot
  split
  · exact plot_setPlot_other s _ h
  · rfl

theorem qpairs_mapPlot (s : State) (n : Nat) (f : Plot → Plot) : (s.mapPlot n f).plots.qpairs = s.plots.qpairs := by
  unfold State.mapPlot
  split <;> rfl

theorem resets_mapPlot (s : State) (n : Nat) (f : Plot → Plot) : (s.mapPlot n f).plots.resets = s.plots.resets := by
  unfold State.mapPlot
  split <;> rfl

/-- A plot is in place wherever the same table of plots is. -/
theorem plot_of_plots {t : State} (h : t.plots = s.plots) (n : Nat) : t.plot n = s.plot n := by rw [State.plot, h, State.plot]

/-! ## Queue pairs -/

theorem names_of_qpair {a : QPair} (h : s.qpair p q = some a) : a.plot = p ∧ a.queue = q := by simpa using List.find?_some h

/-- A change that keeps the names of queue pairs is found where the queue pair was. -/
theorem qpair_mapQpair {a : QPair} {f : QPair → QPair} (hf : ∀ x, (f x).plot = x.plot ∧ (f x).queue = x.queue)
    (h : s.qpair p q = some a) : (s.mapQpair p q f).qpair p q = some (f a) := by
  have hnamed (x : QPair) : (decide ((if x.plot = p ∧ x.queue = q then f x else x).plot = p ∧
      (if x.plot = p ∧ x.queue = q then f x else x).queue = q)) = decide (x.plot = p ∧ x.queue = q) := by
    split <;> simp only [hf]
  have hfound : (s.mapQpair p q f).qpair p q = (s.qpair p q).map fun x => if x.plot = p ∧ x.queue = q then f x else x := by
    simp only [State.qpair, State.mapQpair, mapPlots_plots, List.find?_map]
    exact congrArg _ (congrArg (fun g => s.plots.qpairs.find? g) (funext hnamed))
  rw [hfound, h, Option.map_some, if_pos (names_of_qpair h)]

end Sys2Proof.Machine
end

section
/-! SUPPORT. A transaction slot bound to a unit (R104, R242, R283). -/

namespace Sys2Proof.Machine

open Sys2Proof Sys2Proof.Stated

/-- A unit stands at the start of a transaction as the Sower left it, and no other unit has changed (R242, R283). -/
structure Started (s z : State) (u : Nat) (t : TSlot) : Prop where
  arch   : archOf z u = (archOf s u).dispatched t.plot t.space t.off t.arg (s.isSplit (pairOf u))
  txn    : (z.unit u).txn = some t.slot
  run    : (z.unit u).run = true
  core   : (z.unit u).coreFrom = none
  plot   : (z.unit u).execPlot = t.plot
  others : ∀ v, v ≠ u → z.unit v = s.unit v

variable {s : State} {u : Nat}

theorem isSplit_of_ctl {s t : State} (h : t.ctl = s.ctl) (p : Nat) : t.isSplit p = s.isSplit p := by
  simp only [State.isSplit, State.bit, State.reg, h]

theorem startUnit_starts (s : State) (u : Nat) (t : TSlot) : Started s (s.startUnit u t) u t := by
  have hunit (v : Nat) : ((s.setBytes (s.pairArea u) (zeros 256)).setBytes (s.pairArea u + 0x1000) t.arg).unit v = s.unit v :=
    unit_of_units ((setBytes_units ..).trans (setBytes_units ..)) v
  have hsplit : ((s.setBytes (s.pairArea u) (zeros 256)).setBytes (s.pairArea u + 0x1000) t.arg).isSplit (pairOf u) =
      s.isSplit (pairOf u) := isSplit_of_ctl ((setBytes_ctl ..).trans (setBytes_ctl ..)) _
  unfold State.startUnit
  constructor
  case others => exact fun v hv => (unit_mapUnit_other _ _ hv).trans (hunit v)
  case arch => rw [archOf, unit_mapUnit_same, hunit, hsplit]
  all_goals rw [unit_mapUnit_same]

theorem sower_startUnit (s : State) (u : Nat) (t : TSlot) : (s.startUnit u t).sower = s.sower := by
  unfold State.startUnit
  exact (setBytes_sower ..).trans (setBytes_sower ..)

/-- The counter of dispatches decides no pair's split. -/
theorem isSplit_countDispatch (s : State) (n p : Nat) : (s.setReg64 Reg.SOW_CNT_DISP_LO n).isSplit p = s.isSplit p := by
  rw [State.isSplit, State.bit, reg_setReg64, if_neg (by simp only [Reg.SOW_PAIR, Reg.SOW_CNT_DISP_LO]; omega),
    if_neg (by simp only [Reg.SOW_PAIR, Reg.SOW_CNT_DISP_LO]; omega), State.isSplit, State.bit]

/-- A transaction slot that is bound to a unit stands in the Sower, and the unit starts it. -/
theorem bind_binds (s : State) (u : Nat) (c : Cand) (t : TSlot) (rr : Bool) : let z := s.bind u c t rr
    t ∈ z.sower.slots ∧ z.sower.nextSeq = s.sower.nextSeq ∧ Started s z u t := by
  intro z
  have hsower : z.sower = { s.sower with slots := (s.sower.slots.filter fun x => x.slot ≠ t.slot) ++ [t]
                                         rr := if rr then c.plot else s.sower.rr } := sower_startUnit ..
  refine ⟨by simp [hsower], by rw [hsower], ?_⟩
  obtain ⟨harch, htxn, hrun, hcore, hplot, hothers⟩ := startUnit_starts
    ((((s.mapSower fun w => { w with slots := (w.slots.filter fun x => x.slot ≠ t.slot) ++ [t]
                                     rr := if rr then c.plot else w.rr }).mapQpair c.plot c.queue fun q =>
      q.mapSlot c.slot.no fun x => { x with sstate := .dispatched, tslot := some t.slot }).setReg64 Reg.SOW_CNT_DISP_LO
      (s.reg64 Reg.SOW_CNT_DISP_LO + 1)).sample 0x05 t.cls (s.timeBase - c.slot.arrival)) u t
  exact ⟨harch.trans (congrArg _ (isSplit_countDispatch s _ _)), htxn, hrun, hcore, hplot, hothers⟩

/-! ## The dispatch of a request -/

/-- The transaction slot of a request that is dispatched for the first time (R104, R242). -/
def State.firstSlot (s : State) (c : Cand) (u acct k space off : Nat) : TSlot :=
  { slot := k, plot := c.plot, queue := c.queue, slotNo := c.slot.no, reqid := c.slot.reqid
    cls := c.slot.cls, account := acct, attempt := 1, stamp := s.tick.openTime
    seq := s.sower.nextSeq, space := space, off := off, arg := txnArg c.slot.packet
    unit := some u, redo := false, waitOn := none, result := none, span := false }

variable {c : Cand} {acct : Nat} {rr : Bool} (hd : s.dispatching = true) (hf : s.freeUnit u = true)
  (hc : s.choose u = some (c, acct, rr))

include hd hf hc

theorem dispatch_first {x : Plot} {space off k : Nat} (ht : c.slot.tslot = none) (hx : s.plot c.plot = some x)
    (he : s.entry x (beAt c.slot.packet 20 2) = some (space, off)) (hk : s.freeSlot = some k) : s.dispatch u =
      (s.mapSower fun w => { w with nextSeq := w.nextSeq + 1 }).bind u c (s.firstSlot c u acct k space off) rr := by
  simp only [State.dispatch, hd, hf, Bool.and_self, Bool.not_true, Bool.false_eq_true, if_false, hc, ht, Option.bind_none, hx,
    Option.bind_some, he, hk, State.firstSlot]

theorem dispatch_again {m : Nat} {r : TSlot} (ht : c.slot.tslot = some m) (hr : s.tslot m = some r) : s.dispatch u =
      s.bind u c { r with unit := some u, account := acct, attempt := r.attempt + 1, redo := false } rr := by
  simp only [State.dispatch, hd, hf, Bool.and_self, Bool.not_true, Bool.false_eq_true, if_false, hc, ht, Option.bind_some, hr]

end Sys2Proof.Machine
end

section
/-! SUPPORT. How a command ends (R205, R213, R234, R257, R268), and the end of a plot's reset (R244). -/

namespace Sys2Proof.Machine

open Sys2Proof Sys2Proof.Stated

/-! ## The reply of a command -/

/-- A slot of a queue pair is DONE with the status of its command, and its dedup entry with it. -/
def QPair.slotDone (q : QPair) (c : FwCmd) (st : Nat) : QPair :=
  (q.mapSlot c.slotNo fun x => { x with sstate := .done, status := st, handed := true }).answered c.reqid st 0 false

/-- A queue pair once the command in one of its slots has ended: the slot is DONE, and a reference stands in the completion
ring. -/
def QPair.commandDone (q : QPair) (c : FwCmd) (st free : Nat) : QPair :=
  let e := q.slotDone c st
  { e with cqHead := e.cqHead + 1, cq := e.cq ++ [{ slotNo := c.slotNo, kind := 2, pos := e.cqHead, bytes := leBytes 8 free }] }

theorem QPair.answered_keeps (q : QPair) (reqid st epoch : Nat) (b : Bool) : let e := q.answered reqid st epoch b
    e.plot = q.plot ∧ e.queue = q.queue ∧ e.slots = q.slots ∧ e.cq = q.cq ∧ e.cqHead = q.cqHead := by
  unfold QPair.answered
  split <;> exact ⟨rfl, rfl, rfl, rfl, rfl⟩

theorem QPair.commandDone_names (q : QPair) (c : FwCmd) (st free : Nat) :
    (q.commandDone c st free).plot = q.plot ∧ (q.commandDone c st free).queue = q.queue := by
  obtain ⟨hplot, hqueue, -⟩ := QPair.answered_keeps
    (q.mapSlot c.slotNo fun x => { x with sstate := .done, status := st, handed := true }) c.reqid st 0 false
  exact ⟨hplot, hqueue⟩

theorem QPair.slotDone_done (q : QPair) (c : FwCmd) (st : Nat) : (q.slotDone c st).cqHead = q.cqHead ∧
    (q.slotDone c st).cq = q.cq ∧ ∀ x ∈ (q.slotDone c st).slots, x.no = c.slotNo → x.sstate = .done ∧ x.status = st ∧ x.handed = true := by
  obtain ⟨-, -, hslots, hcq, hhead⟩ := QPair.answered_keeps
    (q.mapSlot c.slotNo fun x => { x with sstate := .done, status := st, handed := true }) c.reqid st 0 false
  refine ⟨hhead, hcq, fun x hx hno => ?_⟩
  rw [QPair.slotDone, hslots] at hx
  obtain ⟨y, -, rfl⟩ := List.mem_map.1 hx
  by_cases hy : y.no = c.slotNo
  · rw [if_pos hy]
    exact ⟨rfl, rfl, rfl⟩
  · rw [if_neg hy] at hno
    exact absurd hno hy

theorem QPair.commandDone_holds (q : QPair) (c : FwCmd) (st free : Nat) : let e := q.commandDone c st free
    e.cqHead = q.cqHead + 1 ∧ e.cq = q.cq ++ [{ slotNo := c.slotNo, kind := 2, pos := q.cqHead, bytes := leBytes 8 free }] ∧
    ∀ x ∈ e.slots, x.no = c.slotNo → x.sstate = .done ∧ x.status = st ∧ x.handed = true := by
  obtain ⟨hhead, hcq, hslots⟩ := QPair.slotDone_done q c st
  refine ⟨congrArg (· + 1) hhead, ?_, hslots⟩
  simp only [QPair.commandDone, hcq, hhead]

/-- A command that is no longer the Steward's. -/
def State.letGo (s : State) (c : FwCmd) : State :=
  s.mapSteward fun k => { k with cmds := k.cmds.filter fun d => d.tag ≠ c.tag, retries := 0 }

theorem windowsRise_of_no_sessions {s : State} (h : s.eth.sessions = []) : s.windowsRise = s := by
  simp only [State.windowsRise, h, List.filter_nil, List.map_nil, List.foldl_nil]

/-- Where the queue's plot is served and no session is up, the reply is kept for the next one (R205). -/
theorem sendReply_kept {s : State} {plot queue : Nat} (b : List Byte) (l : List (Nat × Nat)) (hf : s.fenced plot = false)
    (hs : s.eth.sessions = []) : s.sendReply plot queue b l = s.mapEth fun e => { e with kept := e.kept ++
      [{ event := false, plot := plot, number := queue, since := s.time
         pkts := [{ psn := 0, type := tyReply, payload := b, answers := l, urgent := false }] }] } := by
  simp [State.sendReply, hf, State.session?, hs]

/-- The names of plots and OWN decide what is fenced. -/
theorem fenced_of {s t : State} (hp : t.plots.plots = s.plots.plots) (hc : t.ctl = s.ctl) (p : Nat) : t.fenced p = s.fenced p := by
  simp only [State.fenced, State.plot, hp, State.own, State.fld, State.reg, hc]

/-- A command has left the Steward's hands, and its slot and completion ring say so; its reply is still to go. -/
def State.cmdEnded (s : State) (c : FwCmd) (st : Nat) : State :=
  ((s.letGo c).mapQpair c.plot c.queue fun q => q.commandDone c st s.free).drawn

/-- A command whose queue no reset covers ends with its reply (R268). -/
theorem finishCmd_of_no_reset {s : State} {c : FwCmd} (st : Nat) (b : List Byte) (hr : s.resetOf c.plot c.queue = none) :
    s.finishCmd c st b = ((s.cmdEnded c st).sendReply c.plot c.queue b [(c.queue, c.slotNo)]).windowsRise := by
  unfold State.finishCmd
  extract_lets t
  have ht : t.resetOf c.plot c.queue = none := hr
  split
  · next h => exact absurd (ht.symm.trans h) nofun
  · rfl

theorem finishCmd_eq {s : State} {c : FwCmd} (st : Nat) (b : List Byte) (hr : s.resetOf c.plot c.queue = none)
    (hs : s.eth.sessions = []) (hf : s.fenced c.plot = false) : s.finishCmd c st b =
      (s.cmdEnded c st).mapEth fun e => { e with kept := e.kept ++
        [{ event := false, plot := c.plot, number := c.queue, since := s.time
           pkts := [{ psn := 0, type := tyReply, payload := b, answers := [(c.queue, c.slotNo)], urgent := false }] }] } := by
  have hf' : (s.cmdEnded c st).fenced c.plot = false := (fenced_of (s := s) rfl rfl _).trans hf
  rw [finishCmd_of_no_reset st b hr, sendReply_kept b _ hf' hs]
  exact windowsRise_of_no_sessions hs

theorem replyOk_eq {s : State} {c : FwCmd} {body : List (List Byte)} (h : body.flatten.length ≤ 8936) :
    s.replyOk c body = s.finishCmd c 0 (replyBytes c.opcode false 0 c.queue c.reqid body.flatten) := by
  simp only [State.replyOk, bodyParts, h, if_true, State.replyParts]

theorem replyErr_eq {s : State} {c : FwCmd} {st : Nat} (h : st ≠ 0x6001) :
    s.replyErr c st = s.finishCmd c st (replyBytes c.opcode false st c.queue c.reqid []) := by
  simp only [State.replyErr, if_neg h]

/-! ## The end of a reset -/

/-- The release of an engine's lock touches the key block alone: its locks and BADW. -/
theorem releaseLock_keeps {α : Type} {p : State → α} (hc : ∀ (s : State) f, p (s.mapCipher f) = p s)
    (hb : ∀ s : State, p (s.badw Reg.CPH_LOCK) = p s) (s : State) (e : Nat) (o : Option Nat) : p (s.releaseLock e o) = p s := by
  unfold State.releaseLock
  split
  · split
    · exact (hc _ _).trans (hc _ _)
    · exact hb _
  · exact hb _

theorem freeLocks_keeps {α : Type} {p : State → α} (hc : ∀ (s : State) f, p (s.mapCipher f) = p s)
    (hb : ∀ s : State, p (s.badw Reg.CPH_LOCK) = p s) (s : State) (n : Nat) (q : Option Nat) : p (s.freeLocks n q) = p s := by
  refine foldl_keeps p (fun s l => ?_) s _
  split
  · split
    · exact releaseLock_keeps hc hb _ _ _
    · rfl
  · rfl

theorem reg_badw_lock (s : State) {o : Nat} (h : o ≠ Reg.CPH_ERR) : (s.badw Reg.CPH_LOCK).reg o = s.reg o :=
  (badw_sets s (show errRegOf Reg.CPH_LOCK = some Reg.CPH_ERR by decide)).2.2 o (by simpa using h)

/-- The release of a plot's locks leaves alone all but the key block's own store and control space. -/
theorem freeLocks_frame (s : State) (n : Nat) (q : Option Nat) : let t := s.freeLocks n q
    t.plots = s.plots ∧ t.mem = s.mem ∧ t.steward = s.steward ∧ t.eth = s.eth ∧ ∀ o, o ≠ Reg.CPH_ERR → t.reg o = s.reg o := by
  have hbad {α : Type} {p : State → α} (h : ∀ (s : State) o b v, p (s.setBit o b v) = p s) (s : State) :
      p (s.badw Reg.CPH_LOCK) = p s := by
    unfold State.badw
    split
    · exact h ..
    · rfl
  exact ⟨freeLocks_keeps (p := State.plots) (fun _ _ => rfl) (hbad fun _ _ _ _ => rfl) s n q,
    freeLocks_keeps (p := State.mem) (fun _ _ => rfl) (hbad fun _ _ _ _ => rfl) s n q,
    freeLocks_keeps (p := State.steward) (fun _ _ => rfl) (hbad fun _ _ _ _ => rfl) s n q,
    freeLocks_keeps (p := State.eth) (fun _ _ => rfl) (hbad fun _ _ _ _ => rfl) s n q,
    fun o ho => freeLocks_keeps (p := (·.reg o)) (fun _ _ => rfl) (fun s => reg_badw_lock s ho) s n q⟩

/-- Where no session is up the end of a plot's sessions changes what Ethernet keeps alone. -/
theorem endSessions_of_no_sessions {s : State} (h : s.eth.sessions = []) (r : ResetRun) :
    ∃ f, s.endSessions r = s.mapEth f := by
  unfold State.endSessions
  extract_lets mine ended
  have hended : ended = s := by simp only [ended, h, List.filter_nil, List.map_nil, List.foldl_nil]
  rw [hended]
  exact ⟨_, rfl⟩

/-- Memory and the place of its table decide the valid entries of a plot's spaces. -/
theorem tableSpaces_of_mem {s t : State} (h : t.mem = s.mem) {x y : Plot} (hx : y.sptBase = x.sptBase) :
    t.tableSpaces y = s.tableSpaces x := by
  simp only [State.tableSpaces, h, hx, bytes_of_mem h]

/-- A plot after its reset (R237, R244, R288). -/
def State.resetPlot (s : State) (x : Plot) : Plot :=
  { x with credit := List.replicate 5 0, spaces := s.tableSpaces x, desc := { x.desc with state := .active } }

/-- What a plot's reset does to the plot, its queues and the count of resets (R237, R244). -/
theorem resetObject_plot {s : State} {r : ResetRun} {x : Plot} (hq : r.onlyQueue = none) (hd : r.destroy = false)
    (hx : s.plot r.plot = some x) : let t := s.resetObject r
    t.plot r.plot = some (s.resetPlot x) ∧
    t.plots.qpairs = (s.plots.qpairs.map fun q => if q.plot = r.plot then q.cleared else q) ∧
    t.plots.resets = s.plots.resets ∧ t.steward = s.steward ∧ t.ctl = (s.count Reg.PLT_CNT_RESET 1).ctl := by
  unfold State.resetObject
  split
  · next h => exact absurd (hq.symm.trans h) nofun
  extract_lets counted credited invalid cleared active
  have hactive : active = cleared.mapPlot r.plot fun x =>
      { x with credit := List.replicate 5 0, desc := { x.desc with state := .active } } := if_neg (by simp [hd])
  rw [hactive]
  have hinvalid : invalid.plot r.plot = some { x with spaces := s.tableSpaces x } :=
    (plot_mapPlot_same (s := credited) _ hx).trans (congrArg (fun l => some { x with spaces := l }) (tableSpaces_of_mem rfl rfl))
  refine ⟨plot_mapPlot_same (s := cleared) _ hinvalid, ?_, ?_, ?_, ?_⟩
  · rw [qpairs_mapPlot, mapPlots_plots]
    exact congrArg _ (qpairs_mapPlot credited ..)
  · rw [resets_mapPlot, mapPlots_plots]
    exact resets_mapPlot credited ..
  · rw [mapPlot_steward, mapPlots_steward]
    exact mapPlot_steward credited ..
  · rw [mapPlot_ctl, mapPlots_ctl]
    exact mapPlot_ctl credited ..

/-- A plot's reset that has drained ends with its report, and the plot is in use again (R244, R246). -/
theorem endReset_plot {s : State} {r : ResetRun} {c : FwCmd} {x : Plot} (hr : s.plots.resets = [r]) (hq : r.onlyQueue = none)
    (hd : r.destroy = false) (hc : s.steward.cmds = [c]) (hcp : c.plot = r.byPlot) (hcq : c.queue = r.byQueue)
    (hs : s.eth.sessions = []) (hno : s.noPartner = true) (hx : s.plot r.plot = some x) : ∃ y : State,
    s.endReset r = y.replyOk c { r with entries := r.entries ++
      ((s.plots.qpairs.filter fun q : QPair => r.covers q.plot q.queue).flatMap QPair.unacknowledged) }.parts ∧
    y.plot r.plot = some (s.resetPlot x) ∧
    y.plots.qpairs = (s.plots.qpairs.map fun q => if q.plot = r.plot then q.cleared else q) ∧ y.plots.resets = [] ∧
    (y.reg Reg.PLT_CNT_RESET).toNat = min 0xFFFFFFFF ((s.reg Reg.PLT_CNT_RESET).toNat + 1) := by
  obtain ⟨f, hf⟩ := endSessions_of_no_sessions hs r
  unfold State.endReset
  extract_lets own ended qs report unlocked forgot reset
  have hended : ended = s.mapEth f := hf
  obtain ⟨hplots, hmem, hstew, -, hreg⟩ := freeLocks_frame ended report.plot report.onlyQueue
  have hqs : qs = s.plots.qpairs.filter fun q => r.covers q.plot q.queue := by simp only [qs, hended, mapEth_plots]
  have hforgot : forgot.plots = { s.plots with resets := [] } := by
    have hun : unlocked.plots = s.plots := by rw [hplots, hended, mapEth_plots]
    have : report.byPlot = r.byPlot ∧ report.byQueue = r.byQueue := ⟨rfl, rfl⟩
    simp [forgot, hun, hr, this]
  have hxf : forgot.plot report.plot = some x := by rw [State.plot, hforgot]; exact hx
  obtain ⟨hplot, hqpairs, hresets, hsteward, hctl⟩ := resetObject_plot (r := report) hq hd hxf
  have hregs (o : Nat) (ho : o ≠ Reg.CPH_ERR) : forgot.reg o = s.reg o := (hreg o ho).trans (by rw [hended]; rfl)
  have htwn : (forgot.resetObject report).reg Reg.TWN_STATUS = s.reg Reg.TWN_STATUS := by
    rw [State.reg, hctl]
    exact (reg_count_other forgot 1 (by decide)).trans (hregs _ (by decide))
  have halone : (forgot.resetObject report).bit Reg.TWN_STATUS 5 = true := by
    rw [State.bit, htwn]
    exact hno
  have hreset : reset = forgot.resetObject report := by simp [reset, State.resetCopy, halone]
  have hcmds : reset.steward.cmds = [c] := by
    rw [hreset, hsteward]
    exact (congrArg Steward.cmds (hstew.trans (by rw [hended]; rfl))).trans hc
  have hcmd : reset.resetCmd report = some c := by
    have : c.plot = report.byPlot ∧ c.queue = report.byQueue := ⟨hcp, hcq⟩
    simp [State.resetCmd, hcmds, this]
  have hplot' : forgot.resetPlot x = s.resetPlot x := by
    have hm : forgot.mem = s.mem := hmem.trans (by rw [hended]; rfl)
    rw [State.resetPlot, tableSpaces_of_mem hm rfl, State.resetPlot]
  rw [hcmd]
  refine ⟨reset, ?_, ?_, ?_, ?_, ?_⟩
  · rw [← hqs]
  · rw [hreset, ← hplot']
    exact hplot
  · rw [hreset, hqpairs, hforgot]
  · rw [hreset, hresets, hforgot]
  · rw [hreset, State.reg, hctl]
    exact (reg_count_same forgot _).trans (by rw [hregs _ (by decide)])

end Sys2Proof.Machine
end

section
/-! OBLIGATIONS. Dispatch, submission and how commands end (O39). -/

namespace Sys2Proof.Machine

open Sys2Proof Sys2Proof.Stated

/-- A command ends in the state that its meaning comes to. -/
theorem ends_of_eq {i : Instr} {s t z : State} {P : State → Prop} (hi : exec i s = .next z) (hz : z = t) (h : P t) : Ends i s P :=
  ⟨t, hi.trans (congrArg _ hz), h⟩

/-! ## Dispatch -/

section

variable {s : State} {τ u acct : Nat} {c : Cand} {rr : Bool} (hd : (s.advance τ).dispatching = true)
  (hf : (s.advance τ).freeUnit u = true) (hc : (s.advance τ).choose u = some (c, acct, rr))

include hd hf hc

/-- A request that is dispatched for the first time gets a slot, its age and a unit (R104, R242, R283). -/
theorem dispatch_startsFirst {x : Plot} {space off k : Nat} (ht : c.slot.tslot = none) (hx : s.plot c.plot = some x)
    (he : s.entry x (beAt c.slot.packet 20 2) = some (space, off)) (hk : s.freeSlot = some k) : Ends (.dispatch τ u) s fun t =>
      (∃ r ∈ t.sower.slots, r.slot = k ∧ r.plot = c.plot ∧ r.queue = c.queue ∧ r.slotNo = c.slot.no ∧ r.unit = some u ∧
        r.attempt = 1 ∧ r.stamp = s.tick.openTime ∧ r.seq = s.sower.nextSeq ∧ r.account = acct) ∧
      t.sower.nextSeq = s.sower.nextSeq + 1 ∧ (t.unit u).txn = some k ∧ (t.unit u).run = true ∧
      (t.unit u).execPlot = c.plot ∧ (t.unit u).coreFrom = none ∧
      archOf t u = (archOf s u).dispatched c.plot space off (txnArg c.slot.packet) (s.isSplit (pairOf u)) ∧
      ∀ v, v ≠ u → t.unit v = s.unit v := by
  have he' : (s.advance τ).entry x (beAt c.slot.packet 20 2) = some (space, off) := by
    simpa only [State.entry, bytes_of_mem (s := s) (t := s.advance τ) rfl] using he
  obtain ⟨hslot, hseq, hstart⟩ := bind_binds ((s.advance τ).mapSower fun w => { w with nextSeq := w.nextSeq + 1 }) u c
    ((s.advance τ).firstSlot c u acct k space off) rr
  exact ends_of_eq rfl (dispatch_first hd hf hc ht hx he' hk) ⟨⟨_, hslot, rfl, rfl, rfl, rfl, rfl, rfl, rfl, rfl, rfl⟩, hseq,
    hstart.txn, hstart.run, hstart.plot, hstart.core, hstart.arch, hstart.others⟩

/-- A request that was dispatched before keeps its slot and age (R104). -/
theorem dispatch_startsAgain {m : Nat} {r : TSlot} (ht : c.slot.tslot = some m) (hr : s.tslot m = some r) :
    Ends (.dispatch τ u) s fun t =>
      { r with unit := some u, account := acct, attempt := r.attempt + 1, redo := false } ∈ t.sower.slots ∧
      t.sower.nextSeq = s.sower.nextSeq ∧ (t.unit u).txn = some r.slot ∧ (t.unit u).run = true ∧
      ∀ v, v ≠ u → t.unit v = s.unit v := by
  obtain ⟨hslot, hseq, hstart⟩ := bind_binds (s.advance τ) u c
    { r with unit := some u, account := acct, attempt := r.attempt + 1, redo := false } rr
  exact ends_of_eq rfl (dispatch_again hd hf hc ht hr) ⟨hslot, hseq, hstart.txn, hstart.run, hstart.others⟩

end

/-! ## Submission (R260, R261) -/

section

variable {s : State} {p q no : Nat} {a : QPair} {x : QSlot} (hx : s.slotAt p q no = some (a, x)) (htxn : x.txn = true)
  (hwait : x.sstate = .waiting) (hnew : x.checked = false) (hdrain : a.draining = false) (hsafe : s.safe = false)

include hx htxn hwait hnew hdrain hsafe

theorem ends_txnSubmit {P : State → Prop} (h : P (s.checkSubmit a x)) : Ends (.txnSubmit p q no) s P := by
  refine ends_of_eq rfl ?_ h
  simp [hx, htxn, hwait, hnew, hdrain, hsafe]

theorem txnSubmit_refused {st : Nat} (hst : a.checkTxn x = some st) (hidx : s.lookedUp a x = none) :
    Ends (.txnSubmit p q no) s fun t => t = s.completeSlot a x st 0 [] :=
  ends_txnSubmit hx htxn hwait hnew hdrain hsafe (by simp only [State.checkSubmit, hst, State.refuseSlot, hidx])

variable {y : Plot} (hst : a.checkTxn x = none) (hy : s.plot a.plot = some y)

include hst hy

/-- A submission that keeps its class is marked as checked. -/
theorem txnSubmit_accepted (hclass : x.cls ≠ 0 ∨ 0 < y.desc.urgMax) (hflags : classOf x.packet ≠ 0 ∨ x.cls = 0) :
    Ends (.txnSubmit p q no) s fun t =>
      t = s.mapQpair a.plot a.queue fun q => q.mapSlot x.no fun z => { z with checked := true, cls := x.cls } := by
  have hrun : s.runClass a.plot x.cls = x.cls := by
    simp only [State.runClass, hy]
    exact if_neg fun h => hclass.elim (· h.1) fun hu => absurd h.2 hu.ne'
  have hkept : ¬(classOf x.packet = 0 ∧ x.cls ≠ 0) := fun h => hflags.elim (· h.1) h.2
  exact ends_txnSubmit hx htxn hwait hnew hdrain hsafe (by simp only [State.checkSubmit, hst, hrun, if_neg hkept])

/-- An urgent submission of a plot with URG_MAX 0 becomes NORMAL, and URG_DEMOTED says so (R236, R250). -/
theorem txnSubmit_demoted (hclass : x.cls = 0) (hurg : y.desc.urgMax = 0) (hflags : classOf x.packet = 0) :
    Ends (.txnSubmit p q no) s fun t => t = (s.setBit Reg.SOW_ERR 3 true).mapQpair a.plot a.queue fun q =>
      q.mapSlot x.no fun z => { z with checked := true, cls := 2 } := by
  have hrun : s.runClass a.plot x.cls = 2 := by
    simp only [State.runClass, hy]
    exact if_pos ⟨hclass, hurg⟩
  have hlost : classOf x.packet = 0 ∧ (2 : Nat) ≠ 0 := ⟨hflags, by decide⟩
  exact ends_txnSubmit hx htxn hwait hnew hdrain hsafe (by simp only [State.checkSubmit, hst, hrun, if_pos hlost])

end

/-! ## The hand-over (R242, R260) -/

section

variable {s : State} {p q : Nat} {a : QPair} {x : QSlot} (ha : s.qpair p q = some a) (hx : a.nextCmd = some x)
  (hdrain : a.draining = false) (hmay : s.mayHand a x = true) (hidx : s.lookedUp a x = none) (hserved : s.served p = true)
  (hfence : s.fenced p = false) (hsafe : s.safe = false)

include ha hx hdrain hmay hserved hfence hsafe

theorem ends_commandHandoff {P : State → Prop} (h : P (s.handOver a x)) : Ends (.commandHandoff p q) s P := by
  refine ends_of_eq rfl ?_ h
  simp [ha, hx, hdrain, hmay, hserved, hfence, hsafe]

include hidx

theorem commandHandoff_hands {ps : List (Nat × List Byte)} (hps : s.checkPacket p q x.packet = .ok ps) :
    Ends (.commandHandoff p q) s fun t =>
      t = (s.mapQpair p q fun q => q.mapSlot x.no fun y => { y with sstate := .handed }).mapSteward fun k =>
        { k with cmds := s.steward.cmds ++
          [{ plot := p, queue := q, slotNo := x.no, opcode := beAt x.packet 1 1, reqid := x.reqid
             target := ((ps.lookup 0x02).map beNat).getD p, params := ps, stage := .fresh, arrival := x.arrival
             since := s.time }] } := by
  obtain ⟨rfl, rfl⟩ := names_of_qpair ha
  refine ends_commandHandoff ha hx hdrain hmay hserved hfence hsafe ?_
  have hps' : (s.mapQpair a.plot a.queue fun q => q.mapSlot x.no fun y => { y with sstate := .handed }).checkPacket a.plot a.queue
      x.packet = .ok ps := hps
  simp only [State.handOver, hidx, hps']
  rfl

theorem commandHandoff_refuses {st : Nat} (hst : s.checkPacket p q x.packet = .error st) : Ends (.commandHandoff p q) s fun t =>
    t = (s.mapQpair p q fun q => q.mapSlot x.no fun y => { y with sstate := .handed }).replyErr
      { plot := p, queue := q, slotNo := x.no, opcode := beAt x.packet 1 1, reqid := x.reqid
        target := p, params := [], stage := .fresh, arrival := x.arrival, since := s.time } st := by
  obtain ⟨rfl, rfl⟩ := names_of_qpair ha
  refine ends_commandHandoff ha hx hdrain hmay hserved hfence hsafe ?_
  have hst' : (s.mapQpair a.plot a.queue fun q => q.mapSlot x.no fun y => { y with sstate := .handed }).checkPacket a.plot a.queue
      x.packet = .error st := hst
  simp only [State.handOver, hidx, hst']
  rfl

end

/-! ## Resets, the tables, the registers of pairs -/

theorem ends_plotResetDrainDone {s : State} {r : ResetRun} (hr : s.plots.resets = [r]) (hdrained : s.resetDrained r = true)
    (hsafe : s.safe = false) (hhalt : s.evral.stewHalt = false) {P : State → Prop} (h : P (s.endReset r)) :
    Ends (.plotResetDrainDone r.plot) s P := by
  refine ends_of_eq rfl ?_ h
  simp [hr, hdrained, hsafe, hhalt]

/-- INIT starts while READY is 0 and LOCK is set (R249). -/
theorem pltInit_starts {s : State} {m : Master} {v : Word} (hm : s.writesReg m Reg.PLT_CTRL = true)
    (hready : s.bit Reg.PLT_STATUS 0 = false) (hlock : (s.writeFields Reg.PLT_CTRL (v ||| 1)).bit Reg.PLT_CTRL 31 = true) :
    Ends (.pltInit m v) s fun t => t.plots = { s.plots with initBusy := true } ∧ t = { s with ctl := t.ctl, plots := t.plots } := by
  have herr : errRegOf Reg.PLT_CTRL = some Reg.PLT_ERR := by decide
  have hstill : (s.writeFields Reg.PLT_CTRL (v ||| 1)).bit Reg.PLT_STATUS 0 = false := by
    rw [State.bit, writeFields_keeps s _ herr (by decide) (by decide)]
    exact hready
  have hbit : (v ||| 1).getLsbD 0 = true := by simp [-BitVec.getLsbD_eq_getElem]
  have hctl : OnlyCtl s (s.writeFields Reg.PLT_CTRL (v ||| 1)) := writeFields_onlyCtl s _ herr
  refine ⟨(s.writeFields Reg.PLT_CTRL (v ||| 1)).mapPlots fun p => { p with initBusy := true }, ?_, ?_⟩
  · change execPltInit m v s = _
    simp only [execPltInit, if_pos hm, State.writePltCtrl, hbit, hstill, hlock, Bool.not_true, Bool.false_eq_true, or_self, if_false]
  · rw [hctl]
    exact ⟨rfl, rfl⟩

theorem pltReady_empties {s : State} (h : s.plots.initBusy = true) : Ends .pltReady s fun t =>
    t.plots = { s.plots with plots := [], qpairs := [], resets := [], initBusy := false } ∧ t.bit Reg.PLT_STATUS 0 = true ∧
    RegsBut s t [Reg.PLT_STATUS] ∧ t = { s with ctl := t.ctl, plots := t.plots } := by
  refine ⟨(s.mapPlots fun p => { p with plots := [], qpairs := [], resets := [], initBusy := false }).setBit Reg.PLT_STATUS 0 true,
    congrArg _ (if_pos h), rfl, bit_setBit_same _ _ (by decide), ?_, rfl⟩
  exact setBit_regsBut (s.mapPlots fun p => { p with plots := [], qpairs := [], resets := [], initBusy := false }) _ _ _

/-- SOW_PAIRn of a pair in use is written; of a spare, a retired pair or no pair at all it is not (R241). -/
theorem sowPairWrite_writes {s : State} {m : Master} {p : Nat} (v : Word) (hm : s.writesReg m (Reg.SOW_PAIR + 4 * p) = true) :
    (p < 96 → s.role p ≠ 2 → s.role p ≠ 4 → Ends (.sowPairWrite m p v) s fun t => t = s.writeFields (Reg.SOW_PAIR + 4 * p) v) ∧
    (96 ≤ p ∨ s.role p = 2 ∨ s.role p = 4 → Ends (.sowPairWrite m p v) s fun t => t = s.badw (Reg.SOW_PAIR + 4 * p)) := by
  have hexec : exec (.sowPairWrite m p v) s =
      .next (if 96 ≤ p then s.badw (Reg.SOW_PAIR + 4 * p) else s.writeSowPair p v) := by
    change execSowPairWrite m p v s = _
    simp only [execSowPairWrite, hm, Bool.not_true, Bool.false_eq_true, if_false]
  refine ⟨fun hp h2 h4 => ⟨_, hexec, ?_⟩, fun h => ⟨_, hexec, ?_⟩⟩
  · rw [if_neg (by omega), State.writeSowPair]
    exact if_neg (not_or.2 ⟨h2, h4⟩)
  · split
    · rfl
    · next hp => exact if_pos (h.resolve_left hp)

/-! ## How a command ends -/

theorem finishCmd_ends {s : State} {c : FwCmd} (st : Nat) (b : List Byte) {q : QPair} (hr : s.resetOf c.plot c.queue = none)
    (hs : s.eth.sessions = []) (hq : s.qpair c.plot c.queue = some q) (hf : s.fenced c.plot = false) :
    let t := s.finishCmd c st b
    t.steward = { s.steward with cmds := s.steward.cmds.filter fun d => d.tag ≠ c.tag, retries := 0 } ∧
    (∃ e, t.qpair c.plot c.queue = some e ∧ e.cqHead = q.cqHead + 1 ∧
      e.cq = q.cq ++ [{ slotNo := c.slotNo, kind := 2, pos := q.cqHead, bytes := leBytes 8 s.free }] ∧
      ∀ x ∈ e.slots, x.no = c.slotNo → x.sstate = .done ∧ x.status = st ∧ x.handed = true) ∧
    (∃ k, t.eth = { s.eth with kept := s.eth.kept ++ [k] } ∧ k.plot = c.plot ∧ k.number = c.queue ∧ k.since = s.time ∧
      k.pkts.map (·.payload) = [b]) ∧
    t = { s.drawn with steward := t.steward, plots := t.plots, eth := t.eth } := by
  rw [finishCmd_eq st b hr hs hf]
  refine ⟨rfl, ⟨q.commandDone c st s.free, ?_, QPair.commandDone_holds q c st s.free⟩, ⟨_, rfl, rfl, rfl, rfl, rfl⟩, rfl⟩
  exact qpair_mapQpair (s := s.letGo c) (fun x => QPair.commandDone_names x c st s.free) hq

/-- A QUEUE_CREATE that has just come: the lifecycle or a reset of its plot refuses it, another command on its plot keeps it
back (R245, R265, R270). -/
theorem queueCreate_kept {s : State} {c : FwCmd} (hst : c.stage = .fresh) (hop : c.opcode = 0x17) (hsafe : s.safe = false)
    (hhalt : s.evral.stewHalt = false)
    (hfind : (s.steward.cmds.find? fun d => d.plot = c.plot ∧ d.queue = c.queue ∧ d.opcode = 0x17) = some c) :
    (s.lifeShut = true → Refused (.queueCreate c.plot c.queue) s c 0x3002) ∧
    (s.lifeShut = false → s.busyPlot c = true → Refused (.queueCreate c.plot c.queue) s c 0x4002) ∧
    (s.lifeShut = false → s.busyPlot c = false → s.heldBack c = true → Ends (.queueCreate c.plot c.queue) s fun t => t = s) := by
  have hgo : ¬(s.safe = true ∨ s.evral.stewHalt = true ∨ c.stage = .mirroring) := by simp [hsafe, hhalt, hst]
  have hrefuse {st : Nat} (h : s.refusal c = some st) : Refused (.queueCreate c.plot c.queue) s c st := by
    refine ends_of_eq rfl ?_ rfl
    rw [State.runCmd, State.runChecked, hfind]
    simp only [if_neg hgo, h, Option.isNone_some, Bool.false_eq_true, and_false, false_and, if_false]
  have hbarred : c.opcode ∉ [0x02, 0x04, 0x38, 0x60] := by rw [hop]; decide
  refine ⟨fun hlife => hrefuse (if_pos ⟨hlife, hbarred⟩), fun hlife hbusy => hrefuse ?_, fun hlife hbusy hheld => ?_⟩
  · rw [State.refusal, if_neg (by simp [hlife]), if_pos hbusy]
  · have hnone : s.refusal c = none := by rw [State.refusal, if_neg (by simp [hlife]), if_neg (by simp [hbusy])]
    refine ends_of_eq rfl ?_ rfl
    rw [State.runCmd, State.runChecked, hfind]
    simp only [if_neg hgo, hnone, hheld, Option.isNone_none, and_self, if_true]

/-! ## The obligation -/

/-- Settles O39: dispatch (R104, R239, R242, R283), submission (R260, R261), the hand-over (R242), the end of a plot's reset (R244,
R246), the tables (R249) and SOW_PAIRn (R241), the reply of a command (R205, R234, R257, R268; its reference in the completion
ring is log entry 145), and what keeps a command back (R245, R265, R270). -/
theorem commandsOfTheSower : Obligations.CommandsOfTheSower := by
  refine ⟨⟨fun s τ u c acct rr hd hf hc => ⟨fun x space off k => dispatch_startsFirst hd hf hc, fun m r =>
      dispatch_startsAgain hd hf hc⟩, fun s p q no a x hx htxn hwait hnew hdrain hsafe =>
      ⟨fun st => txnSubmit_refused hx htxn hwait hnew hdrain hsafe, fun y hst hy =>
        ⟨txnSubmit_accepted hx htxn hwait hnew hdrain hsafe hst hy, txnSubmit_demoted hx htxn hwait hnew hdrain hsafe hst hy⟩⟩,
      fun s p q a x ha hx hdrain hmay hidx hserved hfence hsafe =>
      ⟨fun ps => commandHandoff_hands ha hx hdrain hmay hidx hserved hfence hsafe, fun st =>
        commandHandoff_refuses ha hx hdrain hmay hidx hserved hfence hsafe⟩,
      fun s r c x hr hdrained hq hd hc hcp hcq hs hno hx hsafe hhalt =>
        ends_plotResetDrainDone hr hdrained hsafe hhalt (endReset_plot hr hq hd hc hcp hcq hs hno hx),
      fun s m v => pltInit_starts, fun s => pltReady_empties, fun s m p v => sowPairWrite_writes v⟩,
    fun s c st b q => finishCmd_ends st b, fun s c body => replyOk_eq, fun s c st => replyErr_eq,
    fun s c hst hop hsafe hhalt => queueCreate_kept hst hop hsafe hhalt⟩

end Sys2Proof.Machine
end

section
/-! SUPPORT. Changes of plots that the partner must confirm, and those that a device makes alone (R161, R224). -/

namespace Sys2Proof.Machine

open Sys2Proof Sys2Proof.Stated

/-! ## The copy for the partner -/

/-- A copy that leaves with a change made alone changes only what has left the package. -/
theorem copyAlong_only (s : State) (own : Bool) (b : List Byte) : s.copyAlong own b = { s with out := (s.copyAlong own b).out } := by
  unfold State.copyAlong
  split
  · have h (k : Nat) (b : List Byte) : { s.mirrorSend k b with out := [] } = { s with out := [] } :=
      mirrorSend_keeps (p := fun s => { s with out := [] }) (fun _ _ => rfl) s k b
    exact congrArg (fun z : State => { z with out := (s.mirrorSend wfState (overlay b 1 (zeros 8))).out }) (h _ _)
  · rfl

section

variable {s z : State} {c : FwCmd} {own : Bool} {copy : List Byte} {done : State → CmdEnd}

theorem mirrors_alone (h : s.noPartner = true) (own : Bool) : s.mirrors own = false := by
  have hbit : s.bit Reg.TWN_STATUS 5 = true := h
  rw [State.mirrors, hbit, Bool.not_true, Bool.and_false]

theorem mirrored_alone_ok {body : List (List Byte)} (h : s.noPartner = true) (hd : done s = .ok z body) :
    s.mirrored c own copy done = .ok (z.copyAlong own copy) body := by
  have hnot : ¬(c.stage = .fresh ∧ s.mirrors own = true) := by simp [mirrors_alone h]
  simp only [State.mirrored, if_neg hnot, hd]

theorem mirrored_alone_wait (h : s.noPartner = true) (hd : done s = .wait z) : s.mirrored c own copy done = .wait z := by
  have hnot : ¬(c.stage = .fresh ∧ s.mirrors own = true) := by simp [mirrors_alone h]
  simp only [State.mirrored, if_neg hnot, hd]

theorem mirrored_waits (hst : c.stage = .fresh) (h : s.noPartner = false) : s.mirrored c true copy done =
    .wait (((s.mirrorSend wfState copy).mapTwin fun w => { w with mirrors := w.mirrors ++
      [{ tag := c.tag, plot := c.target, sent := (s.mirrorSend wfState copy).time }] }).setCmd { c with stage := .mirroring }) := by
  have hbit : s.bit Reg.TWN_STATUS 5 = false := h
  have hyes : c.stage = .fresh ∧ s.mirrors true = true := ⟨hst, by rw [State.mirrors, hbit]; rfl⟩
  rw [State.mirrored, if_pos hyes]

theorem changePlot_alone (h : s.noPartner = true) (f : State → State) (body : List (List Byte)) :
    ∃ own copy, s.changePlot c f body = .ok ((f s).copyAlong own copy) body :=
  ⟨_, _, mirrored_alone_ok (done := fun s => .ok (f s) body) h rfl⟩

theorem changeDesc_alone (h : s.noPartner = true) (f : Desc → Desc) (g : State → State) :
    ∃ own copy, s.changeDesc c f g = .ok ((g (s.nextDesc c.target f)).copyAlong own copy) [] :=
  ⟨_, _, mirrored_alone_ok (done := fun s => .ok (g (s.nextDesc c.target f)) []) h rfl⟩

/-- A change that a command makes alone ends with its reply, whatever leaves the package with it. -/
theorem replies_copyAlong {e : CmdEnd} {body : List (List Byte)} {P : State → Prop}
    (h : ∃ own copy, e = .ok (z.copyAlong own copy) body) (hP : ∀ l, P { z with out := l }) :
    ∃ y : State, e.state c = y.replyOk c body ∧ P y := by
  obtain ⟨own, copy, rfl⟩ := h
  refine ⟨z.copyAlong own copy, rfl, ?_⟩
  rw [copyAlong_only]
  exact hP _

end

/-! ## A plot comes into being (R267) -/

/-- The tables of a plot get places, and nothing else of the plots and queue pairs changes. -/
theorem placeTables_places {s t : State} {n : Nat} {x : Plot} (hx : s.plot n = some x) (h : s.placeTables n = some t) :
    (∃ spt lib, t.plot n = some { x with sptBase := spt, libBase := lib }) ∧ (∀ p, p ≠ n → t.plot p = s.plot p) ∧
    t.plots.qpairs = s.plots.qpairs := by
  rw [State.placeTables] at h
  obtain ⟨spt, -, hlib⟩ := Option.bind_eq_some_iff.1 h
  obtain ⟨lib, -, ht⟩ := Option.map_eq_some_iff.1 hlib
  subst ht
  clear h hlib
  generalize hu : s.drawn.mapPlot n (fun x => { x with sptBase := spt }) = u
  have hplot : u.plot n = some { x with sptBase := spt } := hu ▸ plot_mapPlot_same (s := s.drawn) _ hx
  have hother (p : Nat) (hp : p ≠ n) : u.plot p = s.plot p := hu ▸ plot_mapPlot_other (s := s.drawn) _ hp
  have hqpairs : u.plots.qpairs = s.plots.qpairs := hu ▸ qpairs_mapPlot s.drawn n _
  exact ⟨⟨spt, lib, plot_mapPlot_same (s := u.drawn) _ hplot⟩,
    fun p hp => (plot_mapPlot_other (s := u.drawn) _ hp).trans (hother p hp), (qpairs_mapPlot u.drawn n _).trans hqpairs⟩

theorem createPlot_creates {s t : State} {n : Nat} {d : Desc} (h : s.createPlot n d = some t) :
    (∃ spt lib, t.plot n = some { Plot.empty true d with sptBase := spt, libBase := lib }) ∧
    (∀ p, p ≠ n → t.plot p = s.plot p) ∧ t.plots.qpairs = s.plots.qpairs := by
  obtain ⟨hplot, hother, hqpairs⟩ := placeTables_places (plot_setPlot_same ..) h
  exact ⟨hplot, fun p hp => (hother p hp).trans (plot_setPlot_other s _ hp), hqpairs⟩

/-! ## A queue pair comes into being (R230, R231) -/

/-- A queue pair with nothing on its rings, in its places. -/
def QPair.placed (n p q sz depth ch : Nat) (at_ : Nat × Nat × Nat) : QPair :=
  { QPair.empty n p q sz depth ch with sqBase := at_.1, cqBase := at_.2.1, dedupBase := at_.2.2 }

theorem qpairs_addQpair {s : State} {n p q sz depth ch : Nat} {l : Nat × Nat × Nat} (hn : s.freePool = some n)
    (hl : s.queuePlaces sz depth = some l) :
    (s.addQpair p q sz depth ch).plots.qpairs = s.plots.qpairs ++ [QPair.placed n p q sz depth ch l] := by
  unfold State.addQpair
  split
  · next hn' hl' =>
    cases hn.symm.trans hn'
    cases hl.symm.trans hl'
    rfl
  · next hnone => exact absurd hl (hnone _ _ _ _ hn)

/-- A new queue pair is found under its name, empty and in its places, and the others are still there. -/
theorem addQpair_adds {s : State} {p q sz depth ch : Nat} (hq : s.qpair p q = none) (hpool : s.freePool ≠ none)
    (hplaces : s.queuePlaces sz depth ≠ none) :
    (∃ a, (s.addQpair p q sz depth ch).qpair p q = some a ∧ a.slotsz = sz ∧ a.depth = depth ∧ a.channel = ch ∧ a.slots = [] ∧
      a.cq = [] ∧ a.draining = false ∧ s.queuePlaces a.slotsz a.depth = some (a.sqBase, a.cqBase, a.dedupBase)) ∧
    ∀ a ∈ s.plots.qpairs, a ∈ (s.addQpair p q sz depth ch).plots.qpairs := by
  obtain ⟨n, hn⟩ := Option.ne_none_iff_exists'.1 hpool
  obtain ⟨l, hl⟩ := Option.ne_none_iff_exists'.1 hplaces
  have hqpairs := qpairs_addQpair (p := p) (q := q) (ch := ch) hn hl
  refine ⟨⟨QPair.placed n p q sz depth ch l, ?_, rfl, rfl, rfl, rfl, rfl, rfl, hl⟩,
    fun b hb => hqpairs ▸ List.mem_append_left _ hb⟩
  rw [State.qpair] at hq ⊢
  rw [hqpairs, List.find?_append, hq, Option.none_or]
  exact List.find?_cons_of_pos (p := fun x : QPair => decide (x.plot = p ∧ x.queue = q)) (decide_eq_true ⟨rfl, rfl⟩)

end Sys2Proof.Machine
end

section
/-! SUPPORT. Numbers as bytes and back (R6), and the entries of a plot's space and library tables (R227, R229). -/

namespace Sys2Proof.Machine

open Sys2Proof Sys2Proof.Stated

/-! ## Numbers and their bytes -/

theorem leNat_leBytes (n v : Nat) : leNat (leBytes n v) = v % 256 ^ n := by
  induction n generalizing v with
  | zero => rw [leBytes, leNat, pow_zero, Nat.mod_one]
  | succ n ih =>
    rw [leBytes, leNat, ih, BitVec.toNat_ofNat, Nat.pow_succ' (n := n)]
    exact Nat.mod_mul.symm

theorem leNat_lt (l : List Byte) : leNat l < 256 ^ l.length := by
  induction l with
  | nil => exact Nat.one_pos
  | cons b l ih =>
    have hb : b.toNat < 256 := b.isLt
    rw [leNat, List.length_cons, Nat.pow_succ']
    omega

/-- A field of n bytes is below 256 ^ n. -/
theorem beAt_lt (l : List Byte) (off n : Nat) : beAt l off n < 256 ^ n := by
  refine (leNat_lt _).trans_le (Nat.pow_le_pow_right (by decide) ?_)
  rw [List.length_reverse, slice]
  exact List.length_take_le ..

theorem slice_append_left {a b : List Byte} {off n : Nat} (h : off + n ≤ a.length) : slice (a ++ b) off n = slice a off n := by
  rw [slice, slice, List.drop_append_of_le_length (by omega), List.take_append_of_le_length (by rw [List.length_drop]; omega)]

theorem slice_append_right {a b : List Byte} {off n : Nat} (h : a.length ≤ off) : slice (a ++ b) off n = slice b (off - a.length) n := by
  rw [slice, slice, List.drop_append, List.drop_eq_nil_of_le h, List.nil_append]

theorem slice_fitTo {l : List Byte} {k off n : Nat} (hl : off + n ≤ l.length) (hk : off + n ≤ k) :
    slice (fitTo k l) off n = slice l off n := by
  rw [fitTo, slice, List.drop_take, List.take_take, min_eq_left (by omega)]
  exact slice_append_left hl

theorem slice_leBytes (n v : Nat) : slice (leBytes n v) 0 n = leBytes n v := by
  rw [slice, List.drop_zero, List.take_of_length_le (length_leBytes n v).le]

/-! ## Space tables -/

@[simp] theorem length_bytes_space (e : Space) : e.bytes.length = 32 := length_fitTo ..

/-- A segment within its fields is read back from its entry (R227). -/
theorem spaceFrom_bytes {e : Space} (hb : e.base < 2 ^ 64) (hp : e.pages < 2 ^ 32) (ha : e.attr < 2 ^ 32) : spaceFrom e.bytes = e := by
  have hbase : leAt e.bytes 0 8 = e.base := by
    rw [leAt, Space.bytes, slice_fitTo (by simp) (by decide), slice_append_left (by simp), slice_append_left (by simp),
      slice_leBytes, leNat_leBytes, Nat.mod_eq_of_lt (show e.base < 256 ^ 8 from hb)]
  have hpages : leAt e.bytes 8 4 = e.pages := by
    rw [leAt, Space.bytes, slice_fitTo (by simp) (by decide), slice_append_left (by simp), slice_append_right (by simp),
      length_leBytes, slice_leBytes, leNat_leBytes, Nat.mod_eq_of_lt (show e.pages < 256 ^ 4 from hp)]
  have hattr : leAt e.bytes 12 4 = e.attr := by
    rw [leAt, Space.bytes, slice_fitTo (by simp) (by decide), slice_append_right (by simp), List.length_append, length_leBytes,
      length_leBytes, slice_leBytes, leNat_leBytes, Nat.mod_eq_of_lt (show e.attr < 256 ^ 4 from ha)]
  rw [spaceFrom, hbase, hpages, hattr]

theorem mem_keys_of_sget_ne {α : Type} {d : Nat → α} {l : List (Nat × α)} {k : Nat} (h : sget d l k ≠ d k) :
    ∃ e ∈ l, e.1 = k := by
  induction l with
  | nil => exact absurd rfl h
  | cons e l ih =>
    obtain ⟨j, w⟩ := e
    by_cases hk : k = j
    · exact ⟨(j, w), List.mem_cons_self, hk.symm⟩
    · rw [sget, if_neg hk] at h
      obtain ⟨e, he, hek⟩ := ih h
      exact ⟨e, List.mem_cons_of_mem _ he, hek⟩

/-- The low byte of ATTR in an entry whose valid bit is set is not zero. -/
theorem byte_ne_zero_of_valid {s : State} {a : Nat} (h : (spaceFrom (s.bytes a 32)).attr.testBit 0 = true) : s.byte (a + 12) ≠ 0 := by
  intro hzero
  have hattr : (spaceFrom (s.bytes a 32)).attr = 256 * leNat (s.bytes (a + 13) 3) := by
    change (s.byte (a + 12)).toNat + 256 * leNat (s.bytes (a + 13) 3) = _
    rw [hzero]
    exact Nat.zero_add _
  rw [hattr, Nat.testBit_zero, decide_eq_true_eq] at h
  omega

/-- A valid entry in DRAM is one of those that a lookaside takes up (R227, R288). -/
theorem mem_tableSpaces {s : State} {x : Plot} {loc : Nat} {e : Space} (hloc : loc < 256)
    (he : spaceFrom (s.bytes (x.sptBase + 32 * loc) 32) = e) (hv : e.attr.testBit 0 = true) : (loc, e) ∈ s.tableSpaces x := by
  subst he
  obtain ⟨cell, hcell, hkey⟩ : ∃ cell ∈ s.mem.cells, cell.1 = x.sptBase + 32 * loc + 12 :=
    mem_keys_of_sget_ne (byte_ne_zero_of_valid hv)
  refine List.mem_filter.2 ⟨List.mem_map.2 ⟨loc, List.mem_eraseDups.2 (List.mem_map.2 ⟨cell, ?_, by omega⟩), rfl⟩, hv⟩
  exact List.mem_filter.2 ⟨hcell, by simp only [decide_eq_true_eq]; omega⟩

/-! ## Entries written by firmware -/

theorem storeFree_plots : StoreFree State.plots := ⟨fun _ _ _ => rfl, fun _ _ _ => rfl, fun _ _ => rfl⟩

theorem storeFree_boot : StoreFree State.boot := ⟨fun _ _ _ => rfl, fun _ _ _ => rfl, fun _ _ => rfl⟩

theorem plot_agentStore (s : State) (pa : Nat) (d : List Byte) (n : Nat) : (s.agentStore pa d).plot n = s.plot n :=
  plot_of_plots (storeFree_plots.agentStore s pa d) n

/-- A segment entered by firmware stands in the table, and every lookaside holds what the table holds (R227, R288). -/
theorem setSpace_enters {s : State} {n loc : Nat} {e : Space} {x : Plot} (hx : s.plot n = some x) (hloc : loc < 256)
    (hb : e.base < 2 ^ 64) (hp : e.pages < 2 ^ 32) (ha : e.attr < 2 ^ 32) (hv : e.attr.testBit 0 = true) :
    let t := s.setSpace n loc e
    t.plot n = some { x with spaces := t.tableSpaces x } ∧ (loc, e) ∈ t.tableSpaces x ∧
    t.bytes (x.sptBase + 32 * loc) 32 = e.bytes := by
  intro t
  have ht : t = (s.agentStore (x.sptBase + 32 * loc) e.bytes).invalidate n := by simp only [t, State.setSpace, hx]
  have hmem : t.mem = (s.agentStore (x.sptBase + 32 * loc) e.bytes).mem := by rw [ht]; exact mapPlot_mem ..
  have hbytes : t.bytes (x.sptBase + 32 * loc) 32 = e.bytes := by
    rw [bytes_of_mem hmem, bytes_agentStore s _ (length_bytes_space e)]
  refine ⟨?_, mem_tableSpaces hloc (by rw [hbytes, spaceFrom_bytes hb hp ha]) hv, hbytes⟩
  rw [tableSpaces_of_mem hmem rfl, ht]
  exact plot_mapPlot_same (s := s.agentStore (x.sptBase + 32 * loc) e.bytes) _ ((plot_agentStore ..).trans hx)

/-- An entry of a library stands in its table, and LIBCOUNT covers it (R225, R229). -/
theorem setLibEntry_enters {s : State} {n i space off : Nat} {x : Plot} (hx : s.plot n = some x) : let t := s.setLibEntry n i space off
    t.plot n = some { x with libCount := max x.libCount (i + 1) } ∧
    t.bytes (x.libBase + 8 * i) 8 = leBytes 4 space ++ leBytes 4 off := by
  intro t
  have ht : t = (s.agentStore (x.libBase + 8 * i) (leBytes 4 space ++ leBytes 4 off)).mapPlot n fun y =>
      { y with libCount := max y.libCount (i + 1) } := by simp only [t, State.setLibEntry, hx]
  rw [ht]
  refine ⟨plot_mapPlot_same (s := s.agentStore _ _) _ ((plot_agentStore ..).trans hx), ?_⟩
  exact (bytes_of_mem (mapPlot_mem ..) _ _).trans (bytes_agentStore s _ (by simp))

/-- Entries of a library change nothing of their plot but LIBCOUNT. -/
theorem plot_setLibEntries {s : State} {n : Nat} {x : Plot} (l : List (List Byte)) (hx : s.plot n = some x) : ∃ k,
    (l.foldl (fun s v => s.setLibEntry n (beAt v 0 2) (beAt v 2 1) (beAt v 4 4)) s).plot n = some { x with libCount := k } := by
  induction l generalizing s x with
  | nil => exact ⟨x.libCount, hx⟩
  | cons v l ih => exact ih (x := { x with libCount := max x.libCount (beAt v 0 2 + 1) }) (setLibEntry_enters hx).1

end Sys2Proof.Machine
end

section
/-! SUPPORT. The start of a reset or of a queue's destruction (R244, R246, R247). -/

namespace Sys2Proof.Machine

open Sys2Proof Sys2Proof.Stated

/-! ## What waits is listed -/

/-- A queue none of whose slots waits any more: those that did are DONE (R246, R272). -/
def QPair.notWaiting (q : QPair) : QPair :=
  { q with slots := q.slots.map fun x => if x.sstate == .waiting then { x with sstate := .done } else x }

theorem QPair.notWaiting_ends (q : QPair) : ∀ x ∈ q.notWaiting.slots, x.sstate ≠ .waiting := by
  intro x hx
  obtain ⟨y, -, rfl⟩ := List.mem_map.1 hx
  by_cases h : y.sstate = .waiting
  · simp [h]
  · simp [h]

theorem QPair.notWaiting_notWaiting (q : QPair) : q.notWaiting.notWaiting = q.notWaiting :=
  congrArg (fun l => { q with slots := l })
    ((List.map_congr_left fun x hx => if_neg (by simpa using q.notWaiting_ends x hx)).trans (List.map_id _))

/-- The waiting slots of the queue of a name are listed for a reset (R246). -/
def State.listNotRun (s : State) (r : ResetRun) (q : QPair) : State :=
  match s.qpair q.plot q.queue with
  | some q => s.notRun r q
  | none => s

/-- Two queue pairs have one name. -/
def QPair.sameName (q y : QPair) : Bool := decide (y.plot = q.plot ∧ y.queue = q.queue)

section

variable (s : State) (r : ResetRun)

theorem listNotRun_keeps {α : Type} {p : State → α} (h : ∀ (s : State) f, p (s.mapPlots f) = p s) (q : QPair) :
    p (s.listNotRun r q) = p s := by
  unfold State.listNotRun
  split
  · unfold State.notRun State.mapQpair
    exact (h _ _).trans (h _ _)
  · rfl

theorem plots_listNotRun (q : QPair) : (s.listNotRun r q).plots.plots = s.plots.plots := by
  unfold State.listNotRun
  split <;> rfl

theorem qpairs_listNotRun (q : QPair) : (s.listNotRun r q).plots.qpairs =
    s.plots.qpairs.map fun y => if q.sameName y then y.notWaiting else y := by
  unfold State.listNotRun
  split
  · next a ha =>
    obtain ⟨hp, hq⟩ := names_of_qpair ha
    simp only [State.notRun, State.mapQpair, mapPlots_plots, hp, hq, QPair.sameName, decide_eq_true_eq]
    rfl
  · next hnone =>
    have hother (y : QPair) (hy : y ∈ s.plots.qpairs) : q.sameName y = false := by
      simpa [QPair.sameName] using List.find?_eq_none.1 hnone y hy
    exact ((List.map_congr_left fun y hy => if_neg (by simp [hother y hy])).trans (List.map_id _)).symm

theorem qpairs_listAll (l : List QPair) : (l.foldl (State.listNotRun · r) s).plots.qpairs =
    s.plots.qpairs.map fun y => if l.any (·.sameName y) then y.notWaiting else y := by
  induction l generalizing s with
  | nil => simp
  | cons q l ih =>
    rw [List.foldl_cons, ih, qpairs_listNotRun, List.map_map]
    refine List.map_congr_left fun y _ => ?_
    have hname (a : QPair) : a.sameName y.notWaiting = a.sameName y := rfl
    by_cases h : q.sameName y
    · by_cases hl : l.any (·.sameName y) <;> simp [h, hl, hname, QPair.notWaiting_notWaiting]
    · simp [h]

/-- The list of a reset grows, and nothing else of it changes. -/
theorem resets_listAll (l : List QPair) {s : State} {es : List ReportEntry} (h : s.plots.resets = [{ r with entries := es }]) :
    ∃ es', (l.foldl (State.listNotRun · r) s).plots.resets = [{ r with entries := es' }] := by
  induction l generalizing s es with
  | nil => exact ⟨es, h⟩
  | cons q l ih =>
    obtain ⟨es', hstep⟩ : ∃ es', (s.listNotRun r q).plots.resets = [{ r with entries := es' }] := by
      unfold State.listNotRun
      split
      · simp [State.notRun, State.mapQpair, h]
      · exact ⟨es, h⟩
    exact ih hstep

end

/-! ## The start -/

/-- A reset or destruction as it starts (R244). -/
def State.newRun (s : State) (c : FwCmd) (only : Option Nat) (destroy : Bool) : ResetRun :=
  { plot := c.target, onlyQueue := only, destroy := destroy, byPlot := c.plot, byQueue := c.queue, epoch0 := s.epoch
    queues := (s.plots.qpairs.filter fun q => q.plot = c.target ∧ (only = none ∨ only = some q.queue)).length
    aborted := 0, cancelled := 0, entries := [] }

theorem covers_newRun (s : State) (c : FwCmd) (only : Option Nat) (destroy : Bool) (q : QPair) :
    (s.newRun c only destroy).covers q.plot q.queue = true ↔ q.plot = c.target ∧ (only = none ∨ only = some q.queue) := by
  cases only with
  | none => simp [ResetRun.covers, State.newRun, eq_comm (a := c.target)]
  | some n => simp +contextual [ResetRun.covers, State.newRun, eq_comm (a := c.target)]

/-- The state of a plot that leaves (R244). -/
def Plot.leaving (x : Plot) (destroy : Bool) : Plot :=
  { x with desc := { x.desc with state := if destroy then .destroying else .resetting } }

/-- The queue pairs of a reset drain, it is entered, and its plot's STATE says so (R244). -/
def State.markLeaving (s : State) (c : FwCmd) (only : Option Nat) (destroy : Bool) : State :=
  let r := s.newRun c only destroy
  let s := s.mapPlots fun p =>
    { p with resets := p.resets ++ [r]
             qpairs := p.qpairs.map fun q => if r.covers q.plot q.queue then { q with draining := true } else q }
  if only.isSome then s else s.mapPlot c.target (·.leaving destroy)

theorem mapPlot_keeps {α : Type} {p : State → α} (h : ∀ (s : State) f, p (s.mapPlots f) = p s) (s : State) (n : Nat)
    (f : Plot → Plot) : p (s.mapPlot n f) = p s := by
  unfold State.mapPlot
  split
  · exact h _ _
  · rfl

section

variable {s : State} {c : FwCmd} {only : Option Nat} {destroy : Bool}

theorem markLeaving_keeps {α : Type} {p : State → α} (h : ∀ (s : State) f, p (s.mapPlots f) = p s) :
    p (s.markLeaving c only destroy) = p s := by
  unfold State.markLeaving
  extract_lets r t
  have ht : p t = p s := h _ _
  split
  · exact ht
  · exact (mapPlot_keeps h t c.target _).trans ht

theorem plot_markLeaving {x : Plot} (hx : s.plot c.target = some x) :
    (s.markLeaving c only destroy).plot c.target = some (if only.isSome then x else x.leaving destroy) := by
  unfold State.markLeaving
  extract_lets r t
  have ht : t.plot c.target = some x := hx
  split
  · exact ht
  · exact plot_mapPlot_same _ ht

theorem qpairs_markLeaving : (s.markLeaving c only destroy).plots.qpairs = s.plots.qpairs.map fun q =>
    if (s.newRun c only destroy).covers q.plot q.queue then { q with draining := true } else q := by
  unfold State.markLeaving
  extract_lets r t
  split
  · rfl
  · exact qpairs_mapPlot ..

theorem resets_markLeaving :
    (s.markLeaving c only destroy).plots.resets = s.plots.resets ++ [s.newRun c only destroy] := by
  unfold State.markLeaving
  extract_lets r t
  split
  · rfl
  · exact resets_mapPlot ..

end

/-- The queue pairs whose waiting slots a reset lists are those that it covers (R244, R246). -/
theorem any_sameName_covered {s : State} {c : FwCmd} {only : Option Nat} (destroy : Bool) {q : QPair} (hq : q ∈ s.plots.qpairs) :
    ((s.plots.qpairs.filter fun q => q.plot = c.target ∧ (only = none ∨ only = some q.queue)).any (·.sameName q)) =
      (s.newRun c only destroy).covers q.plot q.queue := by
  rw [Bool.eq_iff_iff, covers_newRun, List.any_eq_true]
  constructor
  · rintro ⟨a, ha, hname⟩
    obtain ⟨hplot, hqueue⟩ := of_decide_eq_true hname
    rw [hplot, hqueue]
    exact of_decide_eq_true (List.mem_filter.1 ha).2
  · exact fun h => ⟨q, List.mem_filter.2 ⟨hq, decide_eq_true h⟩, decide_eq_true ⟨rfl, rfl⟩⟩

section

variable {s : State} {c : FwCmd} {only : Option Nat} {destroy : Bool} (hslots : s.sower.slots = []) (hops : s.furrow.ops = [])
  (hthr : s.thresher.jobs = []) (hcph : s.cipher.jobs = [])

include hslots hops hthr hcph

/-- On an idle device a reset marks its queues and lists what waits; no transaction and no job has to end (R244). -/
theorem startReset_eq : s.startReset c only destroy =
      ((s.plots.qpairs.filter fun q => q.plot = c.target ∧ (only = none ∨ only = some q.queue)).foldl
        (State.listNotRun · (s.newRun c only destroy)) (s.markLeaving c only destroy)).mapPlots fun p =>
          { p with resets := p.resets.map fun x =>
              if x.byPlot = c.plot ∧ x.byQueue = c.queue then { x with cancelled := 0 } else x } := by
  unfold State.startReset
  extract_lets qs r draining marked mine reported ended listed frw thr cph
  have hmarked : marked = s.markLeaving c only destroy := rfl
  have hmine : mine = [] := by
    have : marked.sower.slots = [] := by rw [hmarked, markLeaving_keeps (p := State.sower) fun _ _ => rfl, hslots]
    simp only [mine, this, List.filter_nil]
  have hended : ended = marked := by simp only [ended, reported, hmine, List.filter_nil, List.filterMap_nil, List.foldl_nil]
  have hlisted : listed = qs.foldl (State.listNotRun · r) marked := by rw [← hended]; rfl
  have hkeeps {α : Type} {p : State → α} (h : ∀ (s : State) f, p (s.mapPlots f) = p s) : p listed = p s := by
    rw [hlisted, foldl_keeps p (fun s q => listNotRun_keeps s r h q), hmarked, markLeaving_keeps h]
  have hfrw : frw = (listed, 0) := by
    simp [frw, State.frwCancel, (hkeeps (p := State.furrow) fun _ _ => rfl).trans rfl, hops]
  have hthrc : thr = (listed, 0) := by
    simp [thr, State.thrCancel, hfrw, hkeeps (p := State.thresher) fun _ _ => rfl, hthr]
  have hcphc : cph = (listed, 0) := by
    simp [cph, State.cphCancel, hthrc, hkeeps (p := State.cipher) fun _ _ => rfl, hcph]
  rw [hfrw, hthrc, hcphc, hlisted]
  rfl

theorem plot_startReset {x : Plot} (hx : s.plot c.target = some x) :
    (s.startReset c only destroy).plot c.target = some (if only.isSome then x else x.leaving destroy) := by
  refine Eq.trans ?_ (plot_markLeaving hx)
  rw [startReset_eq hslots hops hthr hcph, State.plot, State.plot]
  exact congrArg (List.lookup c.target ·) (foldl_keeps (fun s : State => s.plots.plots) (fun s q => plots_listNotRun s _ q) _ _)

/-- The queue pairs that a reset covers drain, and none of their slots waits; the others stay as they are. -/
theorem qpairs_startReset : (s.startReset c only destroy).plots.qpairs = s.plots.qpairs.map fun q =>
    if (s.newRun c only destroy).covers q.plot q.queue then { q with draining := true }.notWaiting else q := by
  rw [startReset_eq hslots hops hthr hcph, mapPlots_plots, qpairs_listAll, qpairs_markLeaving, List.map_map]
  refine List.map_congr_left fun q hq => ?_
  have hlisted := any_sameName_covered (c := c) (only := only) destroy hq
  generalize (s.plots.qpairs.filter fun q => q.plot = c.target ∧ (only = none ∨ only = some q.queue)) = l at hlisted ⊢
  by_cases hcov : (s.newRun c only destroy).covers q.plot q.queue
  · have hdrains : l.any (·.sameName { q with draining := true }) = true := hlisted.trans hcov
    simp only [Function.comp_apply, hcov, if_true, hdrains]
  · have hstays : l.any (·.sameName q) = false := hlisted.trans (Bool.eq_false_iff.2 hcov)
    simp only [Function.comp_apply, hcov, if_false, hstays, Bool.false_eq_true]

theorem draining_of_startReset {q : QPair} (hq : q ∈ (s.startReset c only destroy).plots.qpairs) (hplot : q.plot = c.target)
    (honly : only = none ∨ only = some q.queue) : q.draining = true ∧ ∀ y ∈ q.slots, y.sstate ≠ .waiting := by
  rw [qpairs_startReset hslots hops hthr hcph] at hq
  obtain ⟨y, -, rfl⟩ := List.mem_map.1 hq
  by_cases hcov : (s.newRun c only destroy).covers y.plot y.queue
  · rw [if_pos hcov]
    exact ⟨rfl, QPair.notWaiting_ends _⟩
  · rw [if_neg hcov] at hplot honly
    exact absurd ((covers_newRun s c only destroy y).2 ⟨hplot, honly⟩) hcov

theorem mem_startReset {q : QPair} (hq : q ∈ s.plots.qpairs) (hplot : q.plot ≠ c.target) :
    q ∈ (s.startReset c only destroy).plots.qpairs := by
  rw [qpairs_startReset hslots hops hthr hcph]
  exact List.mem_map.2 ⟨q, hq, if_neg fun hcov => hplot ((covers_newRun s c only destroy q).1 hcov).1⟩

theorem resets_startReset (hno : s.plots.resets = []) :
    ∃ es, (s.startReset c only destroy).plots.resets = [{ s.newRun c only destroy with entries := es }] := by
  rw [startReset_eq hslots hops hthr hcph]
  obtain ⟨es, hes⟩ := resets_listAll (s.newRun c only destroy) _ (s := s.markLeaving c only destroy) (es := [])
    (by rw [resets_markLeaving, hno]; rfl)
  refine ⟨es, ?_⟩
  rw [mapPlots_plots, hes, List.map_singleton, if_pos ⟨rfl, rfl⟩]
  rfl

theorem steward_startReset : (s.startReset c only destroy).steward = s.steward := by
  rw [startReset_eq hslots hops hthr hcph]
  exact (foldl_keeps State.steward (fun s q => listNotRun_keeps s _ (fun _ _ => rfl) q) _ _).trans
    (markLeaving_keeps (p := State.steward) fun _ _ => rfl)

/-- The command of a reset that has started is among those in hand. -/
theorem begun_of_startReset (hr : runs s c) :
    { c with stage := .begun } ∈ ((s.startReset c only destroy).setCmd { c with stage := .begun }).steward.cmds := by
  have hmem := mem_cmds_setCmd hr .begun
  rw [State.setCmd, mapSteward_steward] at hmem ⊢
  rwa [steward_startReset hslots hops hthr hcph]

end

/-- Alone a reset starts at once, and its command waits for the end. -/
theorem resetCommand_starts {s : State} {c : FwCmd} (hst : c.stage = .fresh) (hn : s.noPartner = true) (only : Option Nat)
    (destroy : Bool) : s.resetCommand c only destroy = .wait ((s.startReset c only destroy).setCmd { c with stage := .begun }) := by
  unfold State.resetCommand
  exact (if_neg (by rw [hst]; decide)).trans (mirrored_alone_wait hn rfl)

end Sys2Proof.Machine
end

section
/-! SUPPORT. The staging of an executive image, and its place among what lies in DRAM (R228, R267, R551). -/

namespace Sys2Proof.Machine

open Sys2Proof Sys2Proof.Stated

/-! ## Staged bytes -/

/-- Bytes written at an offset of a map are read back there. -/
theorem sget_bytesAt (d : Nat → Byte) (off : Nat) (b : List Byte) (l : List (Nat × Byte)) {i : Nat} (hi : i < b.length) :
    sget d ((b.zip (List.range b.length)).foldl (fun l e => sput l (off + e.2) e.1) l) (off + i) = b.getD i 0 := by
  induction b using List.reverseRecOn with
  | nil => exact absurd hi (Nat.not_lt_zero i)
  | append_singleton b x ih =>
    have hzip : (b ++ [x]).zip (List.range (b ++ [x]).length) = b.zip (List.range b.length) ++ [(x, b.length)] := by
      rw [List.length_append, List.length_singleton, List.range_succ, List.zip_append (by simp)]
      rfl
    rw [hzip, List.foldl_append, List.foldl_cons, List.foldl_nil]
    rw [List.length_append, List.length_singleton] at hi
    by_cases hlast : i = b.length
    · subst hlast
      simp [sget_sput_same]
    · have hin : i < b.length := by omega
      rw [sget_sput_other _ _ _ (by simpa using hlast), ih hin, List.getD_append _ _ _ _ hin]

theorem stage_stages (x : Plot) (off : Nat) (d : List Byte) : x.stage off d = { x with staging := (x.stage off d).staging } ∧
    ∀ i < d.length, sget (fun _ => 0) (x.stage off d).staging (off + i) = d.getD i 0 :=
  ⟨rfl, fun _ => sget_bytesAt _ off d _⟩

theorem sget_of_lookup {α : Type} {d : Nat → α} {l : List (Nat × α)} {k : Nat} {v : α} (h : l.lookup k = some v) :
    sget d l k = v := by
  induction l with
  | nil => exact absurd h nofun
  | cons e l ih =>
    obtain ⟨j, w⟩ := e
    by_cases hk : k = j
    · subst hk
      rw [List.lookup_cons_self] at h
      rw [sget, if_pos rfl, Option.some.inj h]
    · rw [List.lookup_cons, beq_false_of_ne hk] at h
      rw [sget, if_neg hk, ih h]

/-! ## What lies in DRAM -/

theorem mem_sput {α : Type} {l : List (Nat × α)} {k : Nat} {v : α} {e : Nat × α} (h : e ∈ sput l k v) : e = (k, v) ∨ e ∈ l := by
  induction l with
  | nil => exact .inl (List.mem_singleton.1 h)
  | cons a l ih =>
    obtain ⟨j, w⟩ := a
    rw [sput] at h
    split at h
    · exact (List.mem_cons.1 h).imp_right (List.mem_cons_of_mem _)
    · split at h
      · exact List.mem_cons.1 h
      · rcases List.mem_cons.1 h with rfl | h
        · exact .inr List.mem_cons_self
        · exact (ih h).imp_right (List.mem_cons_of_mem _)

theorem mem_sput_self {α : Type} (l : List (Nat × α)) (k : Nat) (v : α) : (k, v) ∈ sput l k v := by
  induction l with
  | nil => exact List.mem_cons_self
  | cons a l ih =>
    obtain ⟨j, w⟩ := a
    rw [sput]
    split
    · exact List.mem_cons_self
    · split
      · exact List.mem_cons_self
      · exact List.mem_cons_of_mem _ ih

theorem mem_of_lookup {α : Type} {l : List (Nat × α)} {k : Nat} {v : α} (h : l.lookup k = some v) : (k, v) ∈ l := by
  obtain ⟨l₁, l₂, rfl, -⟩ := List.lookup_eq_some_iff.1 h
  simp

/-- An entry that is replaced is the one that was found. -/
theorem mem_sput_of_mem {α : Type} {l : List (Nat × α)} {k : Nat} {v x : α} (hx : l.lookup k = some x) {e : Nat × α} (h : e ∈ l) :
    e = (k, x) ∨ e ∈ sput l k v := by
  induction l with
  | nil => exact absurd h List.not_mem_nil
  | cons a l ih =>
    obtain ⟨j, w⟩ := a
    by_cases hk : k = j
    · subst hk
      rw [List.lookup_cons_self] at hx
      rw [sput, if_pos rfl, ← Option.some.inj hx]
      exact (List.mem_cons.1 h).imp_right (List.mem_cons_of_mem _)
    · rw [List.lookup_cons, beq_false_of_ne hk] at hx
      rw [sput, if_neg hk]
      split
      · exact .inr (List.mem_cons_of_mem _ h)
      · rcases List.mem_cons.1 h with rfl | h
        · exact .inr List.mem_cons_self
        · exact (ih hx h).imp_right (List.mem_cons_of_mem _)

/-- The ranges of DRAM that a plot takes: its segments, its tables and its image. -/
def Plot.ranges (x : Plot) : List (Nat × Nat) :=
  (x.spaces.map fun e => e.2.range) ++ [(x.sptBase, 2 ^ 13), (x.libBase, 2 ^ 15), (x.execBase, x.exec.length)]

/-- A change of a plot that keeps its ranges changes nothing of what lies in DRAM. -/
theorem mem_takenRegions_mapPlot (s : State) (n : Nat) {f : Plot → Plot} (hf : ∀ x, (f x).ranges = x.ranges) (r : Nat × Nat) :
    r ∈ (s.mapPlot n f).takenRegions ↔ r ∈ s.takenRegions := by
  have hplots : (∃ e ∈ (s.mapPlot n f).plots.plots, r ∈ e.2.ranges) ↔ ∃ e ∈ s.plots.plots, r ∈ e.2.ranges := by
    cases hx : s.plot n with
    | none => simp only [State.mapPlot, hx]
    | some x =>
      rw [mapPlot_of_plot f hx]
      constructor
      · rintro ⟨e, he, hr⟩
        rcases mem_sput he with rfl | he
        · exact ⟨(n, x), mem_of_lookup hx, hf x ▸ hr⟩
        · exact ⟨e, he, hr⟩
      · rintro ⟨e, he, hr⟩
        rcases mem_sput_of_mem (v := f x) hx he with rfl | he
        · exact ⟨(n, f x), mem_sput_self .., (hf x).symm ▸ hr⟩
        · exact ⟨e, he, hr⟩
  have hregs : (s.mapPlot n f).ctl = s.ctl := mapPlot_ctl ..
  have hmem (s : State) : r ∈ s.takenRegions ↔
      r ∈ s.keptRegions ++ [s.replRegion, (s.reg64 Reg.JNL_LIVE_BASE_LO, s.fld Reg.JNL_REGION 28 16 * 2 ^ 30)] ∨
        ∃ e ∈ s.plots.plots, r ∈ e.2.ranges := by
    rw [State.takenRegions, List.mem_append, List.mem_flatMap]
    rfl
  rw [hmem, hmem, hplots]
  simp only [State.keptRegions, State.replRegion, State.reg64, State.fld, State.reg, hregs]

/-- Whether there is a place depends on what is taken alone, not on the order in which it is listed. -/
theorem placeIn_of_mem {lo hi size align draw : Nat} {a b : List (Nat × Nat)} (h : ∀ r, r ∈ a ↔ r ∈ b)
    (hb : placeIn lo hi size align draw b ≠ none) : placeIn lo hi size align draw a ≠ none := by
  rw [Option.ne_none_iff_isSome, placeIn, List.find?_isSome] at hb ⊢
  obtain ⟨p, hp, hfree⟩ := hb
  refine ⟨p, ?_, ?_⟩
  · simpa [h] using hp
  · simpa [h] using hfree

theorem placeFor_mapPlot {s : State} {n size align : Nat} {f : Plot → Plot} (hf : ∀ x, (f x).ranges = x.ranges)
    (h : s.placeFor size align ≠ none) : (s.mapPlot n f).placeFor size align ≠ none := by
  have hsame : (s.mapPlot n f).dramSize = s.dramSize ∧ (s.mapPlot n f).free = s.free := by
    unfold State.mapPlot
    split <;> exact ⟨rfl, rfl⟩
  rw [State.placeFor, hsame.1, hsame.2]
  exact placeIn_of_mem (mem_takenRegions_mapPlot s n hf) h

/-! ## The image of an executive -/

/-- An image that finds a place is the plot's executive, with its measurement (R267). -/
theorem placeImage_places {s t : State} {n : Nat} {img : List Byte} {x : Plot} (hx : s.plot n = some x)
    (h : s.placeImage n img = some t) :
    (∃ base, t.plot n = some { x with exec := img, execMeas := sha384 img, execBase := base }) ∧ t.boot = s.boot := by
  obtain ⟨base, -, rfl⟩ := Option.map_eq_some_iff.1 h
  refine ⟨⟨base, (plot_agentStore ..).trans (plot_mapPlot_same (s := s.drawn) _ hx)⟩, ?_⟩
  exact (storeFree_boot.agentStore ..).trans (mapPlot_keeps (p := State.boot) (fun _ _ => rfl) s.drawn n _)

theorem meas_extendMeas (s : State) (i : Nat) (d : List Byte) : (s.extendMeas i d).meas i = sha384 (s.meas i ++ d) :=
  congrArg (Option.getD · (zeros 48)) (lookup_sput_same ..)

/-- A staged image that has a place is installed and measured (R267, R551). -/
theorem installExec_installs {s : State} {n : Nat} {x : Plot} (hx : s.plot n = some x)
    (hplace : s.placeFor x.image.length 4096 ≠ none) : ∃ t, s.installExec n = some t ∧
      (∃ z, t.plot n = some z ∧ z.exec = x.image ∧ z.execMeas = sha384 x.image ∧ z.staging = []) ∧
      t.meas 5 = sha384 (s.meas 5 ++ sha384 x.image) := by
  generalize hu : s.mapPlot n (fun y => { y with staging := [] }) = u
  have hux : u.plot n = some { x with staging := [] } := hu ▸ plot_mapPlot_same _ hx
  have huboot : u.boot = s.boot := hu ▸ mapPlot_keeps (p := State.boot) (fun _ _ => rfl) s n _
  have huplace : u.placeFor x.image.length 4096 ≠ none := hu ▸ placeFor_mapPlot (fun _ => rfl) hplace
  obtain ⟨base, hbase⟩ := Option.ne_none_iff_exists'.1 huplace
  obtain ⟨v, hv⟩ : ∃ v, u.placeImage n x.image = some v := ⟨_, congrArg (Option.map _) hbase⟩
  obtain ⟨⟨b, hvx⟩, hvboot⟩ := placeImage_places hux hv
  refine ⟨v.extendMeas 5 (sha384 x.image), ?_, ⟨_, hvx, rfl, rfl, rfl⟩, ?_⟩
  · rw [State.installExec, hx, Option.bind_some]
    simp only [hu, hv, Option.map_some]
  · rw [meas_extendMeas, State.meas, hvboot, huboot, State.meas]

end Sys2Proof.Machine
end

section
/-! SUPPORT. The ends of a command that runs: refused, or a change made alone (R260, R268). -/

namespace Sys2Proof.Machine

open Sys2Proof Sys2Proof.Stated

section

variable {s : State} {c : FwCmd} {op st : Nat} {i : Instr} {f : FwCmd → State → CmdEnd} {bad : FwCmd → State → Bool}

theorem refused_of_err (hi : exec i s = .next (s.runCmd c.plot c.queue op f)) (hr : runs s c) (hop : c.opcode = op)
    (hf : f c s = .err s st) : Refused i s c st :=
  ends_runCmd hi hr hop (congrArg (CmdEnd.state c) hf)

theorem refused_of_checkedErr (hi : exec i s = .next (s.runChecked c.plot c.queue op bad f)) (hr : runs s c) (hop : c.opcode = op)
    (hbad : bad c s = false) (hf : f c s = .err s st) : Refused i s c st :=
  ends_runChecked hi hr hop (fun _ => hbad) (congrArg (CmdEnd.state c) hf)

/-- A command that has just come with parameters that cannot stand is refused (R260, step 5). -/
theorem refused_of_bad (hi : exec i s = .next (s.runChecked c.plot c.queue op bad f)) (hr : runs s c) (hop : c.opcode = op)
    (hst : c.stage = .fresh) (hbad : bad c s = true) : Refused i s c 0x2005 := by
  obtain ⟨hfind, hsafe, hhalt, hstage, -, -, hheld, -⟩ := hr
  subst hop
  have hgo : ¬(s.safe = true ∨ s.evral.stewHalt = true ∨ c.stage = .mirroring) := by simp [hsafe, hhalt, hstage]
  refine ends_of_eq hi ?_ rfl
  rw [State.runChecked, hfind]
  simp only [if_neg hgo, hheld, Bool.false_eq_true, and_false, if_false, if_pos (And.intro hst hbad)]

/-- A command that changes a plot alone ends with its reply. -/
theorem ends_changeAlone (hi : exec i s = .next (s.runChecked c.plot c.queue op bad f)) (hr : runs s c) (hop : c.opcode = op)
    (hbad : bad c s = false) {z : State} {body : List (List Byte)} (hf : ∃ own copy, f c s = .ok (z.copyAlong own copy) body)
    {P : State → Prop} (hP : ∀ l, P { z with out := l }) : Ends i s fun t => ∃ y : State, t = y.replyOk c body ∧ P y :=
  ends_runChecked hi hr hop (fun _ => hbad) (replies_copyAlong hf hP)

end

/-- SPACE_SET of a space that is not fixed, with an entry that is not valid or may stand (R228, R255). -/
theorem badSpace_of_ok {s : State} {c : FwCmd} (hloc : c.space.1 < 0xFD)
    (hok : c.space.2.attr.testBit 0 = true → s.spaceOk c.target c.space.2 = true) : s.badSpace c = false := by
  rw [State.badSpace, decide_eq_false (not_le.2 hloc), Bool.false_or]
  cases hvalid : c.space.2.attr.testBit 0 with
  | false => rfl
  | true => rw [hok hvalid]; rfl

end Sys2Proof.Machine
end

section
/-! OBLIGATIONS. Commands on plots, spaces, queues and libraries (O40). -/

namespace Sys2Proof.Machine

open Sys2Proof Sys2Proof.Stated

section

variable {s : State} {c : FwCmd} (hr : runs s c)

include hr

/-! ## CONTINUE -/

theorem contCmd_continues (hop : c.opcode = 0x03) :
    (∀ h, (s.steward.handles.find? fun h => h.id = c.num 0x16 ∧ h.plot = c.plot ∧ h.queue = c.queue) = some h →
      s.time ≤ h.expiry → Ends (.contCmd c.plot c.queue) s fun t => ∃ y : State, t = y.replyParts c h.body ∧
        y.steward.handles = (s.steward.handles.filter fun g => g.id ≠ h.id ∨ g.plot ≠ h.plot ∨ g.queue ≠ h.queue) ∧
        y = { s with steward := y.steward }) ∧
    ((s.steward.handles.find? fun h => h.id = c.num 0x16 ∧ h.plot = c.plot ∧ h.queue = c.queue) = none →
      Refused (.contCmd c.plot c.queue) s c 0x4007) := by
  refine ⟨fun h hh hexp => ?_, fun hh => refused_of_err rfl hr hop ?_⟩
  · refine ends_runCmd rfl hr hop ⟨s.mapSteward fun k =>
      { k with handles := k.handles.filter fun g => g.id ≠ h.id ∨ g.plot ≠ h.plot ∨ g.queue ≠ h.queue }, ?_, rfl, rfl⟩
    have hfind : (s.steward.handles.find? fun h => h.id = c.num pHandle ∧ h.plot = c.plot ∧ h.queue = c.queue) = some h := hh
    change (s.continueCmd c).state c = _
    rw [State.continueCmd, hfind]
    exact congrArg (CmdEnd.state c) (if_neg (not_lt.2 hexp))
  · have hfind : (s.steward.handles.find? fun h => h.id = c.num pHandle ∧ h.plot = c.plot ∧ h.queue = c.queue) = none := hh
    change s.continueCmd c = _
    rw [State.continueCmd, hfind]

/-! ## Plots -/

theorem notFound_of_noPlot (hx : s.plot c.target = none) : ∀ r ∈ [(0x11, Instr.plotDestroy), (0x12, .plotReset),
    (0x13, .plotSetShare), (0x14, .plotSetAddr), (0x15, .plotGet), (0x17, .queueCreate), (0x20, .libLoad), (0x21, .libSetEntry),
    (0x22, .execLoad)], c.opcode = r.1 → Refused (r.2 c.plot c.queue) s c 0x4004 := by
  have hnone : (s.plot c.target).isNone = true := by rw [hx]; rfl
  simp only [List.forall_mem_cons, List.not_mem_nil, false_implies, implies_true, and_true]
  refine ⟨fun h => refused_of_err rfl hr h (if_pos hnone), fun h => refused_of_err rfl hr h (if_pos hnone),
    fun h => refused_of_checkedErr rfl hr h ?_ ?_, fun h => refused_of_err rfl hr h ?_, fun h => refused_of_err rfl hr h ?_,
    fun h => refused_of_err rfl hr h ?_, fun h => refused_of_checkedErr rfl hr h ?_ ?_,
    fun h => refused_of_err rfl hr h (if_pos hnone), fun h => refused_of_err rfl hr h (if_pos hnone)⟩
  all_goals simp only [hx, State.badLoad, Option.isSome_none, Bool.false_and, Option.any_none, stNotFound]

theorem plotCreate_exists (hop : c.opcode = 0x10) (hready : s.pltReady = true) (hused : s.plotUsed c.target = true) :
    Refused (.plotCreate c.plot c.queue) s c 0x4005 :=
  refused_of_err rfl hr hop (by simp only [hready, hused, Bool.not_true, Bool.false_eq_true, if_false, if_true, stExists])

section

variable (hop : c.opcode = 0x10) (hready : s.pltReady = true) (hused : s.plotUsed c.target = false)
  (hshare : s.ownShares c.target + c.num 0x04 ≤ 1024) (hroom : s.createPlot c.target c.newDesc ≠ none)

include hop hready hused hshare hroom

/-- PLOT_CREATE of a number that is free, with shares and room enough, comes to the change (R267). -/
theorem ends_plotCreate {P : State → Prop}
    (h : P ((s.changePlot c (fun s => (s.createPlot c.target c.newDesc).getD s) []).state c)) :
    Ends (.plotCreate c.plot c.queue) s P := by
  refine ends_runCmd rfl hr hop ?_
  have hfits : ¬1024 < s.ownShares c.target + c.num pShare := not_lt.2 hshare
  have hplaces : ¬(s.createPlot c.target c.newDesc).isNone = true := by simpa using hroom
  simp only [hready, hused, Bool.not_true, Bool.false_eq_true, if_false, if_neg hfits, if_neg hplaces]
  exact h

/-- Alone a plot comes into being at once. -/
theorem plotCreate_alone (hn : s.noPartner = true) : Ends (.plotCreate c.plot c.queue) s fun t => ∃ y : State, t = y.replyOk c [] ∧
    (∃ x, y.plot c.target = some x ∧ x.desc = c.newDesc ∧ x.next = none ∧ x.own = true ∧ x.spaces = [] ∧ x.libCount = 0 ∧
      x.credit = [0, 0, 0, 0, 0]) ∧
    (∀ p, p ≠ c.target → y.plot p = s.plot p) ∧ y.plots.qpairs = s.plots.qpairs := by
  obtain ⟨t, ht⟩ := Option.ne_none_iff_exists'.1 hroom
  obtain ⟨⟨spt, lib, hx⟩, hother, hqpairs⟩ := createPlot_creates ht
  have hdone : (s.createPlot c.target c.newDesc).getD s = t := by rw [ht]; rfl
  refine ends_plotCreate hr hop hready hused hshare hroom (replies_copyAlong (changePlot_alone hn _ _) fun l => ?_)
  rw [hdone]
  exact ⟨⟨_, hx, rfl, rfl, rfl, rfl, rfl, rfl⟩, hother, hqpairs⟩

/-- With a partner the copy leaves first, and the plots stay as they are (R161). -/
theorem plotCreate_waits (hst : c.stage = .fresh) (hnum : c.target ≠ 0) (hn : s.noPartner = false) :
    Ends (.plotCreate c.plot c.queue) s fun t => t.plots = s.plots ∧
      t.twin.mirrors = s.twin.mirrors ++ [{ tag := c.tag, plot := c.target, sent := s.time }] := by
  obtain ⟨t, ht⟩ := Option.ne_none_iff_exists'.1 hroom
  obtain ⟨⟨spt, lib, hx⟩, -, -⟩ := createPlot_creates ht
  have hdone : (s.createPlot c.target c.newDesc).getD s = t := by rw [ht]; rfl
  refine ends_plotCreate hr hop hready hused hshare hroom ?_
  have hown : ((Plot.empty true c.newDesc).own && c.target != 0) = true := by simpa [Plot.empty] using hnum
  simp only [State.changePlot, hdone, hx, hown, mirrored_waits hst hn]
  exact ⟨mirrorSend_keeps (p := State.plots) (fun _ _ => rfl) _ _ _,
    congrArg₂ (fun (w : Twin) (n : Nat) => w.mirrors ++ [{ tag := c.tag, plot := c.target, sent := n }])
      (mirrorSend_keeps (p := State.twin) (fun _ _ => rfl) _ _ _) (mirrorSend_keeps (p := State.time) (fun _ _ => rfl) _ _ _)⟩

end

section

variable {x : Plot} (hx : s.plot c.target = some x) (hn : s.noPartner = true)

include hx

theorem plotGet_reads (hop : c.opcode = 0x15) :
    Ends (.plotGet c.plot c.queue) s fun t => t = s.replyOk c [tlv 0x10 (s.descBytes c.target x)] :=
  ends_runCmd rfl hr hop (by simp only [hx]; rfl)

/-- SHARE above what the device has left is refused (R237). -/
theorem plotSetShare_noShares {n : Nat} (hop : c.opcode = 0x13) (hshare : c.num? 0x04 = some n) (hown : x.own = true)
    (hmany : 1024 < s.ownShares c.target + n) (hqmax : c.num? 0x07 = none) : Refused (.plotSetShare c.plot c.queue) s c 0x4003 := by
  have hnum : c.num pShare = n := by rw [FwCmd.num, show c.num? pShare = some n from hshare]; rfl
  have hgiven : c.num? pShare ≠ none := by rw [show c.num? pShare = some n from hshare]; simp
  refine refused_of_checkedErr rfl hr hop ?_ ?_
  · simp only [show c.num? pQmax = none from hqmax, Option.any_none, Bool.and_false]
  · simp only [hx]
    exact if_pos ⟨hgiven, hown, by rwa [hnum]⟩

include hn

/-- What PLOT_SET_SHARE changes of a descriptor waits for the tick (R224). -/
theorem plotSetShare_changes (hop : c.opcode = 0x13) (hqmax : c.num? 0x07 = none) (hshare : c.num? 0x04 = none) :
    Ends (.plotSetShare c.plot c.queue) s fun t => ∃ y : State, t = y.replyOk c [] ∧ let d := x.next.getD x.desc
      y.plot c.target = some { x with next := some { d with urgMax := (c.num? 0x05).getD d.urgMax
                                                            classes := (c.num? 0x06).getD d.classes } } := by
  have hq : c.num? pQmax = none := hqmax
  have hs : c.num? pShare = none := hshare
  refine ends_changeAlone rfl hr hop (by simp only [hq, Option.any_none, Bool.and_false]) (z := s.nextDesc c.target fun _ =>
    { x.pendingDesc with urgMax := (c.num? 0x05).getD x.pendingDesc.urgMax, classes := (c.num? 0x06).getD x.pendingDesc.classes })
    ?_ fun l => plot_mapPlot_same _ hx
  simp only [hx, hq, hs, Option.getD_none]
  exact changeDesc_alone hn _ _

/-- The addresses that PLOT_SET_ADDR gives wait for the tick (R224). -/
theorem plotSetAddr_changes (hop : c.opcode = 0x14) (hflags : c.num? 0x08 = none) :
    Ends (.plotSetAddr c.plot c.queue) s fun t => ∃ y : State,
      t = y.replyOk c [] ∧ y.plot c.target = some { x with next := some { x.next.getD x.desc with
        addr6 := c.all 0x09, addr4 := c.all 0x0A, srcFilt := c.prefixes } } := by
  have hf : c.num? pPflags = none := hflags
  refine ends_changeAlone rfl hr hop rfl (z := (s.nextDesc c.target fun _ =>
    { x.pendingDesc with addr6 := c.all 0x09, addr4 := c.all 0x0A, srcFilt := c.prefixes }).announceNext c.target)
    ?_ fun l => plot_mapPlot_same _ hx
  simp only [hx, hf, Option.map_none, Option.getD_none]
  exact changeDesc_alone hn _ fun s => s.announceNext c.target

end

/-! ## Segments -/

section

variable {x : Plot} (hx : s.plot c.target = some x) (hop : c.opcode = 0x16) (hloc : c.space.1 < 0xFD)

include hr hop

/-- A valid entry that may not stand is refused (R228). -/
theorem spaceSet_bad (hst : c.stage = .fresh) (hvalid : c.space.2.attr.testBit 0 = true)
    (hok : s.spaceOk c.target c.space.2 = false) : Refused (.spaceSet c.plot c.queue) s c 0x2005 := by
  refine refused_of_bad rfl hr hop hst ?_
  rw [State.badSpace, hvalid, hok]
  exact Bool.or_true _

include hx hloc

/-- A space that a transaction runs in stays as it is (log entry 34). -/
theorem spaceSet_runsIn (hruns : s.runsIn c.target c.space.1 = true)
    (hok : c.space.2.attr.testBit 0 = true → s.spaceOk c.target c.space.2 = true) :
    Refused (.spaceSet c.plot c.queue) s c 0x4006 := by
  refine refused_of_checkedErr rfl hr hop (badSpace_of_ok hloc hok) ?_
  simp only [hx, Option.isNone_some, Bool.false_eq_true, if_false, hruns, if_true, stWrongState]

/-- An entry that may stand is written, and every lookaside takes it up (R227, R288). -/
theorem spaceSet_enters (hn : s.noPartner = true) (hruns : s.runsIn c.target c.space.1 = false)
    (hvalid : c.space.2.attr.testBit 0 = true) (hok : s.spaceOk c.target c.space.2 = true) :
    Ends (.spaceSet c.plot c.queue) s fun t => ∃ y : State, t = y.replyOk c [] ∧
      y.plot c.target = some { x with spaces := y.tableSpaces x } ∧ c.space ∈ y.tableSpaces x ∧
      y.bytes (x.sptBase + 32 * c.space.1) 32 = c.space.2.bytes := by
  refine ends_changeAlone rfl hr hop (badSpace_of_ok hloc fun _ => hok) ?_ fun l =>
    setSpace_enters hx (hloc.trans (by decide)) (beAt_lt _ 4 8) (beAt_lt _ 12 4) (beAt_lt _ 16 4) hvalid
  simp only [hx, Option.isNone_some, Bool.false_eq_true, if_false, hruns]
  exact changePlot_alone hn _ _

end

/-! ## What leaves: a reset, a destruction, a queue that drains (R244) -/

section

variable {x : Plot} (hx : s.plot c.target = some x) (hst : c.stage = .fresh) (hn : s.noPartner = true)
  (hslots : s.sower.slots = []) (hops : s.furrow.ops = []) (hthr : s.thresher.jobs = []) (hcph : s.cipher.jobs = [])

include hx hst hn hslots hops hthr hcph

/-- A plot that leaves: STATE says so, its queues drain, and the command waits. -/
theorem ends_plotLeaves {i : Instr} {op : Nat} {destroy : Bool} (hi : exec i s = .next (s.runCmd c.plot c.queue op fun c s =>
    if (s.plot c.target).isNone then .err s stNotFound else s.resetCommand c none destroy)) (hop : c.opcode = op)
    (hno : s.plots.resets = []) :
    Ends i s fun t => t.plot c.target = some (x.leaving destroy) ∧
      (∀ q ∈ t.plots.qpairs, q.plot = c.target → q.draining = true ∧ ∀ y ∈ q.slots, y.sstate ≠ .waiting) ∧
      (∀ q ∈ s.plots.qpairs, q.plot ≠ c.target → q ∈ t.plots.qpairs) ∧
      (∃ r, t.plots.resets = [r] ∧ r.plot = c.target ∧ r.onlyQueue = none ∧ r.byPlot = c.plot ∧ r.byQueue = c.queue ∧
        r.destroy = destroy) ∧
      { c with stage := .begun } ∈ t.steward.cmds := by
  refine ends_runCmd hi hr hop ?_
  rw [hx, Option.isNone_some, if_neg (by decide), resetCommand_starts hst hn]
  obtain ⟨es, hes⟩ := resets_startReset (c := c) (only := none) (destroy := destroy) hslots hops hthr hcph hno
  have hplot := plot_startReset (only := none) (destroy := destroy) hslots hops hthr hcph hx
  have hdrain {q : QPair} := draining_of_startReset (c := c) (only := none) (destroy := destroy) (q := q) hslots hops hthr hcph
  have hstay {q : QPair} := mem_startReset (c := c) (only := none) (destroy := destroy) (q := q) hslots hops hthr hcph
  have hbegun := begun_of_startReset (only := none) (destroy := destroy) hslots hops hthr hcph hr
  generalize s.startReset c none destroy = t at hes hplot hdrain hstay hbegun ⊢
  exact ⟨hplot, fun q hq hname => hdrain hq hname (.inl rfl), fun q => hstay, ⟨_, hes, rfl, rfl, rfl, rfl, rfl⟩, hbegun⟩

/-- PLOT_RESET and PLOT_DESTROY. -/
theorem plotLeaves (hop : c.opcode = 0x12 ∨ c.opcode = 0x11) (hno : s.plots.resets = []) :
    Ends (if c.opcode = 0x12 then .plotReset c.plot c.queue else .plotDestroy c.plot c.queue) s fun t =>
      t.plot c.target = some { x with desc := { x.desc with state := if c.opcode = 0x12 then .resetting else .destroying } } ∧
      (∀ q ∈ t.plots.qpairs, q.plot = c.target → q.draining = true ∧ ∀ y ∈ q.slots, y.sstate ≠ .waiting) ∧
      (∀ q ∈ s.plots.qpairs, q.plot ≠ c.target → q ∈ t.plots.qpairs) ∧
      (∃ r, t.plots.resets = [r] ∧ r.plot = c.target ∧ r.onlyQueue = none ∧ r.byPlot = c.plot ∧ r.byQueue = c.queue ∧
        r.destroy = decide (c.opcode = 0x11)) ∧
      { c with stage := .begun } ∈ t.steward.cmds := by
  obtain hop | hop := hop
  · have hnot : c.opcode ≠ 0x11 := by rw [hop]; decide
    rw [if_pos hop, if_pos hop, decide_eq_false hnot]
    exact ends_plotLeaves hr hx hst hn hslots hops hthr hcph (destroy := false) rfl hop hno
  · have hnot : c.opcode ≠ 0x12 := by rw [hop]; decide
    rw [if_neg hnot, if_neg hnot, decide_eq_true hop]
    exact ends_plotLeaves hr hx hst hn hslots hops hthr hcph (destroy := true) rfl hop hno

/-- A queue that leaves drains; its plot stays. -/
theorem queueDestroy_drains (hop : c.opcode = 0x18) (hq : s.qpair c.target (c.num 0x03) ≠ none)
    (hother : ¬(c.target = c.plot ∧ c.num 0x03 = c.queue)) : Ends (.queueDestroy c.plot c.queue) s fun t =>
      t.plot c.target = some x ∧ (∀ q ∈ t.plots.qpairs, q.plot = c.target → q.queue = c.num 0x03 → q.draining = true) ∧
      { c with stage := .begun } ∈ t.steward.cmds := by
  have hplot := plot_startReset (only := some (c.num pQueuenum)) (destroy := false) hslots hops hthr hcph hx
  have hdrain {q : QPair} := draining_of_startReset (c := c) (only := some (c.num pQueuenum)) (destroy := false) (q := q)
    hslots hops hthr hcph
  have hbegun := begun_of_startReset (only := some (c.num pQueuenum)) (destroy := false) hslots hops hthr hcph hr
  have hsome : ¬(s.qpair c.target (c.num pQueuenum)).isNone = true := by simpa [pQueuenum] using hq
  have hother' : ¬(c.target = c.plot ∧ c.num pQueuenum = c.queue) := hother
  refine ends_runCmd rfl hr hop ?_
  simp only [if_neg hsome, if_neg hother', resetCommand_starts hst hn]
  generalize s.startReset c (some (c.num pQueuenum)) false = t at hplot hdrain hbegun ⊢
  exact ⟨hplot, fun q hq hname hno => (hdrain hq hname (.inr (congrArg some hno.symm))).1, hbegun⟩

end

/-! ## Queues -/

section

variable (hop : c.opcode = 0x17) {x : Plot} (hx : s.plot c.target = some x)

include hop hx

theorem queueCreate_exists (hq : s.qpair c.target (c.num 0x03) ≠ none) : Refused (.queueCreate c.plot c.queue) s c 0x4005 := by
  have hsome : (s.qpair c.target (c.num pQueuenum)).isSome = true := Option.isSome_iff_ne_none.2 hq
  exact refused_of_err rfl hr hop (by simp only [hx, hsome, if_true, stExists])

theorem queueCreate_full (hq : s.qpair c.target (c.num 0x03) = none) (hmax : x.desc.qmax ≤ s.qcount c.target) :
    Refused (.queueCreate c.plot c.queue) s c 0x4003 := by
  have hnone : s.qpair c.target (c.num pQueuenum) = none := hq
  refine refused_of_err rfl hr hop ?_
  simp only [hx, hnone, Option.isSome_none, Bool.false_eq_true, if_false, hmax, true_or, if_true, stNoResource]

/-- A queue pair is created empty, without an event channel (R230, R231). -/
theorem queueCreate_creates (hn : s.noPartner = true) (hq : s.qpair c.target (c.num 0x03) = none)
    (hmax : s.qcount c.target < x.desc.qmax) (hpool : s.freePool ≠ none) {v : List Byte} (hv : (c.bytes? 0x0D).getD [] = v)
    (hplaces : s.queuePlaces (beAt v 2 1) (beAt v 0 2) ≠ none) :
    Ends (.queueCreate c.plot c.queue) s fun t => ∃ y : State, t = y.replyOk c [] ∧
      (∃ q, y.qpair c.target (c.num 0x03) = some q ∧ q.slotsz = beAt v 2 1 ∧ q.depth = beAt v 0 2 ∧ q.channel = 0xFFFF ∧
        q.slots = [] ∧ q.cq = [] ∧ q.draining = false ∧ s.queuePlaces q.slotsz q.depth = some (q.sqBase, q.cqBase, q.dedupBase)) ∧
      ∀ q ∈ s.plots.qpairs, q ∈ y.plots.qpairs := by
  subst hv
  have hnone : s.qpair c.target (c.num pQueuenum) = none := hq
  have hroom : ¬(x.desc.qmax ≤ s.qcount c.target ∨ s.freePool.isNone = true ∨
      (s.queuePlaces (beAt ((c.bytes? pQcfg).getD []) 2 1) (beAt ((c.bytes? pQcfg).getD []) 0 2)).isNone = true) := by
    simpa [hmax, hpool, pQcfg] using hplaces
  have hadds := addQpair_adds (ch := 0xFFFF) hq hpool hplaces
  refine ends_changeAlone rfl hr hop rfl (z := s.addQpair c.target (c.num 0x03) (beAt ((c.bytes? 0x0D).getD []) 2 1)
    (beAt ((c.bytes? 0x0D).getD []) 0 2) 0xFFFF) ?_ ?_
  · simp only [hx, hnone, Option.isSome_none, Bool.false_eq_true, if_false, if_neg hroom]
    exact changePlot_alone hn _ _
  · generalize s.addQpair _ _ _ _ _ = t at hadds ⊢
    exact fun _ => hadds

end

theorem queueDestroy_notFound (hop : c.opcode = 0x18) (hq : s.qpair c.target (c.num 0x03) = none) :
    Refused (.queueDestroy c.plot c.queue) s c 0x4004 := by
  have hnone : (s.qpair c.target (c.num pQueuenum)).isNone = true := Option.isNone_iff_eq_none.2 hq
  exact refused_of_err rfl hr hop (if_pos hnone)

/-- A queue does not destroy itself. -/
theorem queueDestroy_itself (hop : c.opcode = 0x18) (hq : s.qpair c.target (c.num 0x03) ≠ none) (hp : c.target = c.plot)
    (hself : c.num 0x03 = c.queue) : Refused (.queueDestroy c.plot c.queue) s c 0x4006 := by
  have hsome : ¬(s.qpair c.target (c.num pQueuenum)).isNone = true := by simpa [pQueuenum] using hq
  exact refused_of_err rfl hr hop ((if_neg hsome).trans (if_pos ⟨hp, hself⟩))

theorem queueGet_reads {q : QPair} (hop : c.opcode = 0x19) (hq : s.qpair c.target (c.num 0x03) = some q) :
    Ends (.queueGet c.plot c.queue) s fun t => t = s.replyOk c [tlv 0x10 q.entryBytes] := by
  have hq' : s.qpair c.target (c.num pQueuenum) = some q := hq
  exact ends_runCmd rfl hr hop (by simp only [hq']; rfl)

/-! ## Programs -/

section

variable {x : Plot} (hx : s.plot c.target = some x)

include hx

section

variable (hop : c.opcode = 0x20) {e : Space} (he : x.spaces.lookup (c.num 0x0E) = some e)

include hop he

/-- A program that does not fit into its space is refused (R267). -/
theorem libLoad_outside (hst : c.stage = .fresh) (hout : 4096 * e.pages < c.num 0x0F + ((c.bytes? 0x10).getD []).length) :
    Refused (.libLoad c.plot c.queue) s c 0x2005 := by
  have hspace : x.loadSpace c = e := sget_of_lookup he
  have hout' : 4096 * e.pages < c.num pOffset + ((c.bytes? pData).getD []).length := hout
  refine refused_of_bad rfl hr hop hst ?_
  simp only [State.badLoad, hx, Option.any_some, hspace, hout', decide_true, Bool.or_true]

/-- A program that fits into a local space with EXEC and T_ACCESS is written there (R267). -/
theorem libLoad_stores (hst : c.stage = .fresh) (hvalid : e.attr.testBit 0 = true) (hexec : e.attr.testBit 3 = true)
    (htxn : e.attr.testBit 5 = true) (hin : c.num 0x0F + ((c.bytes? 0x10).getD []).length ≤ 4096 * e.pages)
    (hlocal : s.region (e.base + c.num 0x0F) ≠ .remote) (hok : (s.answerOf 12 (e.base + c.num 0x0F)).1 = .ok) :
    Ends (.libLoad c.plot c.queue) s fun t =>
      t = (s.agentStore (e.base + c.num 0x0F) ((c.bytes? 0x10).getD [])).replyOk c [] := by
  have hspace : x.loadSpace c = e := sget_of_lookup he
  have hin' : ¬4096 * e.pages < c.num pOffset + ((c.bytes? pData).getD []).length := not_lt.2 hin
  have hlocal' : ¬s.region (e.base + c.num pOffset) = .remote := hlocal
  have hok' : ¬(s.answerOf 12 (e.base + c.num pOffset)).1 ≠ .ok := not_not.2 hok
  refine ends_runChecked rfl hr hop (fun _ => ?_) ?_
  · simp only [State.badLoad, hx, Option.any_some, hspace, hvalid, hexec, htxn, decide_eq_false hin', Bool.and_self, Bool.not_true,
      Bool.or_self]
  · have hnew : ¬c.stage = .begun := by rw [hst]; decide
    simp only [hx, hspace, if_neg hnew, if_neg hok', if_neg hlocal']
    rfl

end

/-- The entries that LIB_SET_ENTRY gives stand in the library's table (R229). -/
theorem libSetEntry_enters (hop : c.opcode = 0x21) (hn : s.noPartner = true) :
    Ends (.libSetEntry c.plot c.queue) s fun t => ∃ y : State, t = y.replyOk c [] ∧
      ∃ z, y.plot c.target = some z ∧ z = { x with libCount := z.libCount } ∧ ∀ e, c.all 0x11 = [e] →
        z.libCount = max x.libCount (beAt e 0 2 + 1) ∧
        y.bytes (x.libBase + 8 * beAt e 0 2) 8 = leBytes 4 (beAt e 2 1) ++ leBytes 4 (beAt e 4 4) := by
  have hsome : ¬(s.plot c.target).isNone = true := by simp [hx]
  obtain ⟨k, hk⟩ := plot_setLibEntries (c.all pLibent) hx
  refine ends_changeAlone rfl hr hop rfl (by rw [if_neg hsome]; exact changePlot_alone hn _ _) fun l =>
    ⟨_, hk, rfl, fun e he => ?_⟩
  have hone : c.all pLibent = [e] := he
  rw [hone] at hk ⊢
  obtain ⟨hplot, hbytes⟩ := setLibEntry_enters (i := beAt e 0 2) (space := beAt e 2 1) (off := beAt e 4 4) hx
  exact ⟨congrArg Plot.libCount (Option.some.inj (hk.symm.trans hplot)), hbytes⟩

section

variable (hop : c.opcode = 0x22)

include hop

theorem execLoad_queues (hq : s.qcount c.target ≠ 0) : Refused (.execLoad c.plot c.queue) s c 0x4006 := by
  have hsome : ¬(s.plot c.target).isNone = true := by simp [hx]
  exact refused_of_err rfl hr hop ((if_neg hsome).trans (if_pos hq))

variable (hq : s.qcount c.target = 0)

include hq

/-- MODE 0 stages bytes of an image (R267). -/
theorem execLoad_stages (hmode : c.num 0x25 = 0) {d : List Byte} (hd : (c.bytes? 0x10).getD [] = d) :
    Ends (.execLoad c.plot c.queue) s fun t => ∃ y : State, t = y.replyOk c [] ∧
      (∃ z, y.plot c.target = some z ∧ z = { x with staging := z.staging } ∧ ∀ i < d.length,
        sget (fun _ => 0) z.staging (c.num 0x0F + i) = d.getD i 0) := by
  subst hd
  have hsome : ¬(s.plot c.target).isNone = true := by simp [hx]
  refine ends_runCmd rfl hr hop ⟨s.mapPlot c.target fun x => x.stage (c.num pOffset) ((c.bytes? pData).getD []), ?_, _,
    plot_mapPlot_same _ hx, stage_stages ..⟩
  exact congrArg (CmdEnd.state c) ((if_neg hsome).trans ((if_neg (not_not.2 hq)).trans (if_pos hmode)))

/-- MODE 1 stages, measures and installs (R267, R551). -/
theorem execLoad_installs (hn : s.noPartner = true) (hmode : c.num 0x25 = 1) {img : List Byte}
    (himg : (x.stage (c.num 0x0F) ((c.bytes? 0x10).getD [])).image = img) (hplace : s.placeFor img.length 4096 ≠ none) :
    Ends (.execLoad c.plot c.queue) s fun t => ∃ y : State, t = y.replyOk c [tlv 0x10 (sha384 img)] ∧
      (∃ z, y.plot c.target = some z ∧ z.exec = img ∧ z.execMeas = sha384 img ∧ z.staging = []) ∧
      y.meas 5 = sha384 (s.meas 5 ++ sha384 img) := by
  subst himg
  generalize hu : s.mapPlot c.target (fun x => x.stage (c.num 0x0F) ((c.bytes? 0x10).getD [])) = u
  have hux : u.plot c.target = some (x.stage (c.num 0x0F) ((c.bytes? 0x10).getD [])) := hu ▸ plot_mapPlot_same _ hx
  have humeas : u.meas 5 = s.meas 5 :=
    hu ▸ mapPlot_keeps (p := fun s => s.meas 5) (fun _ _ => rfl) s c.target _
  obtain ⟨t, ht, hexec, hmeas⟩ := installExec_installs hux (hu ▸ placeFor_mapPlot (fun _ => rfl) hplace)
  rw [humeas] at hmeas
  refine ends_changeAlone rfl hr hop rfl (z := t) ?_ fun l => ⟨hexec, hmeas⟩
  have hsome : ¬(s.plot c.target).isNone = true := by simp [hx]
  have hmode' : ¬c.num pMode = 0 := by rw [show c.num pMode = 1 from hmode]; decide
  have hroom : ¬(u.installExec c.target).isNone = true := by simp [ht]
  have hdone : ((s.mapPlot c.target fun x => x.stage (c.num pOffset) ((c.bytes? pData).getD [])).installExec c.target).getD s = t :=
    (congrArg (fun u : State => (u.installExec c.target).getD s) hu).trans (congrArg (Option.getD · s) ht)
  have hu' : s.mapPlot c.target (fun x => x.stage (c.num pOffset) ((c.bytes? pData).getD [])) = u := hu
  simp only [if_neg hsome, if_neg (not_not.2 hq), if_neg hmode', hu', if_neg hroom, hux, Option.map_some, Option.getD_some]
  rw [← hdone]
  exact changePlot_alone hn _ _

end

end

end

/-! ## The obligation -/

/-- Settles O40: plots and their descriptors (R161, R224, R244, R267), segments (R227, R228; what runs in a space is log entry 34),
queues (R230, R231), programs (R229, R267, R551). Where tables, queues and images come to stand is firmware's choice (log entries
76, 128). -/
theorem commandsOnPlotsAndQueues : Obligations.CommandsOnPlotsAndQueues := by
  refine ⟨fun s c hr => ⟨fun hop => ends_runCmd rfl hr hop rfl, contCmd_continues hr, notFound_of_noPlot hr, plotCreate_exists hr,
      fun hop hready hused hshare hroom hst hnum => ⟨plotCreate_alone hr hop hready hused hshare hroom,
        plotCreate_waits hr hop hready hused hshare hroom hst hnum⟩,
      fun x hx hst hn => ⟨fun hop hslots hops hthr hcph => plotLeaves hr hx hst hn hslots hops hthr hcph hop,
        plotSetShare_changes hr hx hn, fun n => plotSetShare_noShares hr hx, plotSetAddr_changes hr hx hn, plotGet_reads hr hx,
        fun hop hloc => spaceSet_runsIn hr hx hop hloc,
        fun hop hloc hruns hvalid => ⟨spaceSet_enters hr hx hop hloc hn hruns hvalid, spaceSet_bad hr hop hst hvalid⟩⟩⟩,
    fun s c x ⟨hr, hst, hn⟩ hx => ⟨fun hop hq hmax hpool => queueCreate_creates hr hop hx hn hq hmax hpool rfl,
      fun hop => queueCreate_exists hr hop hx, fun hop => queueCreate_full hr hop hx, queueDestroy_notFound hr,
      queueDestroy_itself hr, fun hop hq hother hslots hops hthr hcph =>
        queueDestroy_drains hr hx hst hn hslots hops hthr hcph hop hq hother,
      fun q => queueGet_reads hr, fun e hop he hvalid hexec htxn => ⟨libLoad_outside hr hx hop he hst,
        libLoad_stores hr hx hop he hst hvalid hexec htxn⟩, fun hop => libSetEntry_enters hr hx hop hn,
      execLoad_queues hr hx, fun hop hq => ⟨fun hmode => execLoad_stages hr hx hop hq hmode rfl,
        fun hmode hplace => execLoad_installs hr hx hop hq hn hmode rfl hplace⟩⟩⟩

end Sys2Proof.Machine
end

section
/-! SUPPORT. What reads of plain registers answer and leave alone, pieces of lists, and what the commands on keys, security
associations and paths do to what they name (R264, R267, R478, R487, R491). -/

namespace Sys2Proof.Machine

open Sys2Proof Sys2Proof.Stated

/-! ## Registers -/

/-- A read of a single word whose read has no effect of its own changes nothing, whoever but the debugger makes it. -/
theorem ctlRead_single_keeps {s : State} {m : Master} {off : Nat} {r : RegDef} (hm : m ≠ .debugger) (ha : off % 4 = 0)
    (hd : inDbg off = false) (hr : regDef? off = some r) (hrole : r.role = .single) (hlatch : latchGroup off = none)
    (hside : s.readSide m off = none) : (s.ctlRead m off).1 = s := by
  cases hheld : s.held with
  | true => simp [State.ctlRead, hheld]
  | false =>
    have hport : s.portMay m off = true := by simp [State.portMay, hm]
    rw [ctlRead_eq_readPlain hheld ha hd hport, State.readPlain]
    split
    · rfl
    · simp only [hr, hside, hrole, hlatch]

theorem ctlRead_period_keeps (s : State) : (s.ctlRead .headland Reg.TCK_PERIOD).1 = s := by
  obtain ⟨r, hr, hrole⟩ : ∃ r, regDef? Reg.TCK_PERIOD = some r ∧ r.role = .single := ⟨_, rfl, rfl⟩
  exact ctlRead_single_keeps (by decide) (by decide) (by decide) hr hrole (by decide) rfl

theorem ctlRead_txBudget_keeps (s : State) : (s.ctlRead .headland Reg.TCK_TXBUDGET).1 = s := by
  obtain ⟨r, hr, hrole⟩ : ∃ r, regDef? Reg.TCK_TXBUDGET = some r ∧ r.role = .single := ⟨_, rfl, rfl⟩
  exact ctlRead_single_keeps (by decide) (by decide) (by decide) hr hrole (by decide) rfl

/-- TICK_SET shows the tick settings, whose reads have no effect (R88). -/
theorem readRegs_tickSettings_keeps (s : State) : (s.readRegs [Reg.TCK_PERIOD, Reg.TCK_TXBUDGET]).1 = s :=
  (ctlRead_txBudget_keeps _).trans (ctlRead_period_keeps s)

/-- Without COUNT the range of a register command is its one register. -/
theorem regRange_of_regaddr {c : FwCmd} {v : List Byte} (h : c.params = [(pRegaddr, v)]) :
    regRange c.params = [c.num pRegaddr] := by
  simp only [FwCmd.num, FwCmd.num?, FwCmd.bytes?, h]
  rfl

/-! ## Pieces of a list -/

theorem chunksOf_nil {α : Type} (n fuel : Nat) : chunksOf n fuel ([] : List α) = [] := by cases fuel <;> rfl

/-- A list that fits into one piece is cut into that one. -/
theorem chunksOf_of_length_le {α : Type} {n : Nat} {l : List α} (hpos : 0 < l.length) (hle : l.length ≤ n) :
    chunksOf n l.length l = [l] := by
  obtain ⟨k, hk⟩ : ∃ k, l.length = k + 1 := Nat.exists_eq_succ_of_ne_zero hpos.ne'
  have hne : ¬l.isEmpty = true := by simpa [← List.length_eq_zero_iff] using hpos.ne'
  rw [hk, chunksOf, if_neg hne, List.take_of_length_le hle, List.drop_eq_nil_of_le hle, chunksOf_nil]

theorem lookup_sdel_other {α : Type} (l : List (Nat × α)) {k j : Nat} (h : j ≠ k) : (sdel l k).lookup j = l.lookup j := by
  induction l with
  | nil => rfl
  | cons e l ih =>
    obtain ⟨i, w⟩ := e
    by_cases hk : k = i
    · subst hk
      rw [sdel, if_pos rfl, ih, List.lookup_cons, beq_false_of_ne h]
    · rw [sdel, if_neg hk, List.lookup_cons, List.lookup_cons, ih]

/-! ## Keys -/

theorem fillSlot_fills (s : State) (n : Nat) (k : KeySlot) : (s.fillSlot n k).keySlot n = some k ∧
    (∀ m, m ≠ n → (s.fillSlot n k).keySlot m = s.keySlot m) ∧ s.fillSlot n k = { s with cipher := (s.fillSlot n k).cipher } :=
  ⟨lookup_sput_same .., fun _ hm => lookup_sput_other _ k hm, rfl⟩

theorem eraseSlot_erases (s : State) (n : Nat) : (s.eraseSlot n).keySlot n = none ∧
    (∀ m, m ≠ n → (s.eraseSlot n).keySlot m = s.keySlot m) ∧ s.eraseSlot n = { s with cipher := (s.eraseSlot n).cipher } :=
  ⟨lookup_sdel_same .., fun _ hm => lookup_sdel_other _ hm, rfl⟩

/-- A device without a partner changes a key slot at once (R481). -/
theorem changeSlot_unpaired {s : State} (c : FwCmd) (n : Nat) (k : Option KeySlot) (h : s.paired = false) :
    s.changeSlot c n k = .ok (k.elim (s.eraseSlot n) (s.fillSlot n)) [] := by
  have hnot : ¬(c.stage = .fresh ∧ s.paired = true ∧ s.mirrors ((s.mirroredFor n).getD 0 != 0) = true) := by simp [h]
  cases k <;> exact if_neg hnot

theorem unwrapBlob_of_keyUnwrap_none {s : State} {root blob : List Byte} {plot : Nat}
    (h : keyUnwrap (s.kekOf root plot) blob = none) : s.unwrapBlob root plot blob = .error cphAuthFail := by
  simp only [State.unwrapBlob, h]

theorem sendFree_mram : SendFree State.mram :=
  ⟨fun _ _ => rfl, fun _ _ => rfl, fun _ _ => rfl, fun _ _ => rfl, fun _ _ => rfl, fun _ _ _ _ => rfl⟩

/-! ## Security associations and paths -/

theorem saNamed_isNone (s : State) (c : FwCmd) :
    (s.saNamed c).isNone = !s.eth.sas.any fun b => (saOf ((c.bytes? pSa).getD []) 0).same b := by
  rw [State.saNamed, ← Option.not_isSome, List.isSome_find?]

/-- The path that PATH_SET makes, on its way to a connection (R491, R492). -/
def State.newPath (s : State) (v : List Byte) : Path :=
  { num := beAt v 0 2, record := v, state := .connecting, failed := 0, lastKa := s.time, rate := 1024, rateAt := s.time }

/-- A path that is not there yet begins to connect (R491). -/
theorem setPath_connects {s : State} {v : List Byte} (hkind : beAt v 3 1 ≠ 0) (hp : s.path (beAt v 0 2) = none) :
    s.setPath v = s.mapFurrow fun w =>
      { w with paths := (w.paths.filter fun x => x.num ≠ beAt v 0 2) ++ [s.newPath v] } := by
  have hnew : ¬(beAt v 3 1 == 0) = true := by simpa using hkind
  simp only [State.setPath, hp, if_neg hnew, if_neg hkind]
  rfl

end Sys2Proof.Machine
end

section
/-! OBLIGATIONS. The commands on registers, records, keys, MACsec, paths and the tick settings (O41). -/

namespace Sys2Proof.Machine

open Sys2Proof Sys2Proof.Stated

section

variable {s : State} {c : FwCmd} (hr : runs s c)

include hr

/-! ## Registers -/

theorem getInfo_replies (hop : c.opcode = 0x04) : Ends (.getInfo c.plot c.queue) s fun t =>
    t = s.replyOk c ([s.reg Reg.SWD_DEVID, 0x96120C81#32, 0x00000FFF#32, 0x10100440#32, s.feat 192 3, s.view Reg.TWN_STATUS,
      s.view Reg.TCK_SEALED_LO, s.view Reg.TCK_SEALED_HI].map regVal) :=
  ends_runCmd rfl hr hop rfl

theorem regRead_reads {v : List Byte} (hop : c.opcode = 0x30) (hp : c.params = [(pRegaddr, v)]) :
    Ends (.regRead c.plot c.queue) s fun t =>
      t = (s.ctlRead .headland (c.num pRegaddr)).1.replyOk c [regVal (s.ctlRead .headland (c.num pRegaddr)).2] := by
  refine ends_runCmd rfl hr hop ?_
  rw [regRange_of_regaddr hp]
  rfl

theorem regWrite_writes (hop : c.opcode = 0x31) : Ends (.regWrite c.plot c.queue) s fun t =>
    let r := (s.ctlWrite .headland (c.num pRegaddr) (BitVec.ofNat 32 (c.num pRegval))).ctlRead .headland (c.num pRegaddr)
    t = r.1.replyOk c [regVal r.2] :=
  ends_runCmd rfl hr hop rfl

/-! ## Boot records and attestation -/

/-- GET_BOOT_RECORD of a record that is kept answers with the proof of it, here in one piece (R558; log entry
81). -/
theorem getBootRecord_proves {k : Nat} {rs rn : List Byte} (hop : c.opcode = 0x38) (hk : c.num? pIndex = some k)
    (hkept : k = 1 ∨ s.mram.headSeq ≤ k + 8191) (hrs : s.mram.ledger.lookup k = some rs)
    (hrn : s.mram.ledger.lookup s.mram.headSeq = some rn) (hlen : (s.mram.proof k s.mram.headSeq rs rn).length ≤ 8192)
    (hpos : 0 < rs.length) : Ends (.getBootRecord c.plot c.queue) s fun t =>
      t = s.replyOk c [tlv pIndex (beBytes 8 s.mram.headSeq), tlv pData (s.mram.proof k s.mram.headSeq rs rn)] := by
  have hsome : 0 < (s.mram.proof k s.mram.headSeq rs rn).length := by
    simp only [Mram.proof, List.length_append]
    omega
  refine ends_runCmd rfl hr hop ?_
  simp only [hk, Option.getD_some]
  rw [if_neg (by omega), hrs, hrn]
  dsimp only
  rw [chunksOf_of_length_le hsome hlen]
  rfl

/-- GET_BOOT_RECORD of a record that is kept no more (R558). -/
theorem getBootRecord_gone {k : Nat} (hop : c.opcode = 0x38) (hk : c.num? pIndex = some k) (hfirst : k ≠ 1)
    (hold : k + 8191 < s.mram.headSeq) : Refused (.getBootRecord c.plot c.queue) s c stNotFound := by
  refine refused_of_err rfl hr hop ?_
  simp only [hk, Option.getD_some]
  exact if_pos ⟨hfirst, hold⟩

/-- ATTEST: the report of the state before, signed under slot 0, which is charged; a spent slot refuses (R259, R486,
R560; log entry 81). -/
theorem attest_reports (hop : c.opcode = 0x39) :
    (s.slotSpent 0 = false → Ends (.attest c.plot c.queue) s fun t =>
      let y := (s.chargeSlot 0).1
      let body := s.attestBody ((c.bytes? pNonce).getD [])
      t = y.replyOk c [tlv pData (body ++ ecSign y.attestKey (sha384 body) ++ fitTo 256 s.mram.cert)]) ∧
    (s.slotSpent 0 = true → Refused (.attest c.plot c.queue) s c stKeyLost) := by
  refine ⟨fun hspent => ends_runCmd rfl hr hop ?_, fun hspent => refused_of_err rfl hr hop (if_pos hspent)⟩
  have hmram : (s.chargeSlot 0).1.mram = s.mram := sendFree_mram.chargeSlot s 0
  rw [hspent, if_neg Bool.false_ne_true, ← hmram]
  rfl

/-! ## Logs -/

/-- ALMANAC_READ of one snapshot (R603). -/
theorem almanacRead_one {k : Nat} (hop : c.opcode = 0x3A) (hk : c.num? pIndex = some k) (hn : c.num? pCount = some 1) :
    (∀ l, s.snapshot? k = some l → Ends (.almanacRead c.plot c.queue) s fun t => t = s.replyParts c [tlv pData l]) ∧
    (s.snapshot? k = none → Refused (.almanacRead c.plot c.queue) s c stNotFound) := by
  have hlist : (List.range ((c.num? pCount).getD 1)).filterMap (fun i => s.snapshot? ((c.num? pIndex).getD 1 + i)) =
      (s.snapshot? k).toList := by
    rw [hk, hn]
    cases h : s.snapshot? k <;> simp [h]
  refine ⟨fun l hl => ends_runCmd rfl hr hop ?_, fun hnone => refused_of_err rfl hr hop ?_⟩ <;> dsimp only <;> rw [hlist]
  · rw [hl]
    exact congrArg (fun b => s.replyParts c [tlv pData b]) (List.append_nil l)
  · rw [hnone]
    rfl

/-- GLEANER_READ: the oldest records of its range, or none left (R587; log entry 81). -/
theorem gleanerRead_reads {k n : Nat} (hop : c.opcode = 0x3B) (hk : c.num? pIndex = some k) (hn : c.num? pCount = some n) :
    let l := (s.gleaner.recs.filter fun r => k ≤ r.seq).take n
    (l ≠ [] → Ends (.gleanerRead c.plot c.queue) s fun t => t = s.replyOk c [tlv pData (l.flatMap GleanRec.bytes)]) ∧
    (l = [] → Refused (.gleanerRead c.plot c.queue) s c stNotFound) := by
  intro l
  have hlist : s.recordsFrom (c.num pIndex) ((c.num? pCount).getD 1) = l := by
    simp only [FwCmd.num, hk, hn, Option.getD_some]
    rfl
  refine ⟨fun hl => ends_runCmd rfl hr hop ?_, fun hl => refused_of_err rfl hr hop ?_⟩ <;> dsimp only <;> rw [hlist]
  · rw [if_neg (by simpa using hl)]
    rfl
  · rw [hl]
    rfl

/-! ## Keys -/

/-- A bound slot refuses a change of its key, with CPH_ERR.BUSY (R487). -/
theorem keyChange_bound (hop : c.opcode = 0x50 ∨ c.opcode = 0x51) (hbound : s.slotBound (c.num pSlot) = true) :
    Ends (if c.opcode = 0x50 then .keyUnwrap c.plot c.queue else .keyErase c.plot c.queue) s fun t =>
      t = (s.setBit Reg.CPH_ERR 2 true).replyErr c stBusy := by
  rcases hop with hop | hop
  · rw [if_pos hop]
    exact ends_runCmd rfl hr hop (congrArg (CmdEnd.state c) (if_pos hbound))
  · rw [if_neg (by rw [hop]; decide)]
    exact ends_runCmd rfl hr hop (congrArg (CmdEnd.state c) (if_pos hbound))

section

variable (hfree : s.slotBound (c.num pSlot) = false)

include hfree

theorem keyUnwrap_noRoot (hop : c.opcode = 0x50) (hroot : s.keySlot 1 = none) :
    Refused (.keyUnwrap c.plot c.queue) s c stKeyLost := by
  refine refused_of_err rfl hr hop ?_
  dsimp only
  rw [hfree, hroot]
  rfl

/-- KEY_UNWRAP under the root key of slot 1 fills its slot, or refuses a blob that does not unwrap (R478, R484). -/
theorem keyUnwrap_unwraps {root : KeySlot} (hop : c.opcode = 0x50) (hroot : s.keySlot 1 = some root) (hsolo : s.paired = false) :
    let blob := (c.bytes? pWrapped).getD []
    (∀ k, s.unwrapBlob root.key (s.plotOfSlot (c.num pSlot)) blob = .ok k → Ends (.keyUnwrap c.plot c.queue) s fun t =>
      t = (s.fillSlot (c.num pSlot) k).replyOk c []) ∧
    (keyUnwrap (s.kekOf root.key (s.plotOfSlot (c.num pSlot))) blob = none →
      Refused (.keyUnwrap c.plot c.queue) s c stAuthFailed) := by
  intro blob
  refine ⟨fun k hk => ends_runCmd rfl hr hop ?_, fun hbad => refused_of_err rfl hr hop ?_⟩ <;> dsimp only <;>
    rw [hfree, if_neg Bool.false_ne_true, hroot] <;> dsimp only
  · rw [hk]
    exact congrArg (CmdEnd.state c) (changeSlot_unpaired c _ (some k) hsolo)
  · rw [unwrapBlob_of_keyUnwrap_none hbad]
    rfl

theorem keyErase_erases (hop : c.opcode = 0x51) (hsolo : s.paired = false) : Ends (.keyErase c.plot c.queue) s fun t =>
    t = (s.eraseSlot (c.num pSlot)).replyOk c [] := by
  refine ends_runCmd rfl hr hop ?_
  dsimp only
  rw [hfree]
  exact congrArg (CmdEnd.state c) (changeSlot_unpaired c _ none hsolo)

end

/-! ## MACsec -/

/-- MACSEC_SA_SET installs an SA in the place of one of its name; its slot must be one that serves MACsec (R192, R479). -/
theorem macsecSaSet_installs (hop : c.opcode = 0x52) : let a := saOf ((c.bytes? pSa).getD []) (c.num pSlot)
    (s.macsecSlot (c.num pSlot) = true → Ends (.macsecSaSet c.plot c.queue) s fun t =>
      t = (s.mapEth fun e => { e with sas := (e.sas.filter fun b => !a.same b) ++ [a] }).replyOk c []) ∧
    (c.stage = .fresh → s.macsecSlot (c.num pSlot) = false → Refused (.macsecSaSet c.plot c.queue) s c stBadParam) := by
  refine ⟨fun hslot => ends_runChecked rfl hr hop (fun _ => ?_) rfl, fun hst hslot => refused_of_bad rfl hr hop hst ?_⟩
  · rw [hslot]
    rfl
  · rw [hslot]
    rfl

/-- MACSEC_SA_CLEAR removes the SA of its name; one that is not installed it refuses (log entry 80). -/
theorem macsecSaClear_removes (hop : c.opcode = 0x53) : let a := saOf ((c.bytes? pSa).getD []) 0
    (s.eth.sas.any (fun b => a.same b) = true → Ends (.macsecSaClear c.plot c.queue) s fun t =>
      t = (s.mapEth fun e => { e with sas := e.sas.filter fun b => !a.same b }).replyOk c []) ∧
    (c.stage = .fresh → s.eth.sas.any (fun b => a.same b) = false → Refused (.macsecSaClear c.plot c.queue) s c stBadParam) := by
  refine ⟨fun hin => ends_runChecked rfl hr hop (fun _ => ?_) rfl, fun hst hout => refused_of_bad rfl hr hop hst ?_⟩
  · rw [saNamed_isNone, hin]
    rfl
  · rw [saNamed_isNone, hout]
    rfl

/-! ## Paths -/

theorem pathSet_refused (hop : c.opcode = 0x58) (hst : c.stage = .fresh) (hbad : pathOk ((c.bytes? pPathcfg).getD []) = false) :
    Refused (.pathSet c.plot c.queue) s c stBadParam := by
  refine refused_of_bad rfl hr hop hst ?_
  rw [hbad]
  rfl

/-- PATH_SET of a path that is not there yet (R491). -/
theorem pathSet_connects (hop : c.opcode = 0x58) : let v := (c.bytes? pPathcfg).getD []
    pathOk v = true → beAt v 3 1 ≠ 0 → s.path (beAt v 0 2) = none → Ends (.pathSet c.plot c.queue) s fun t =>
      t = (s.mapFurrow fun w =>
        { w with paths := (w.paths.filter fun x => x.num ≠ beAt v 0 2) ++ [s.newPath v] }).replyOk c [] := by
  intro v hok hkind hnone
  refine ends_runChecked rfl hr hop (fun _ => by rw [hok]; rfl) ?_
  exact congrArg (·.replyOk c []) (setPath_connects hkind hnone)

/-- PATH_GET of one path (R491, R492). -/
theorem pathGet_one {k : Nat} (hop : c.opcode = 0x59) (hk : c.num? pIndex = some k) :
    (∀ p, s.path k = some p → Ends (.pathGet c.plot c.queue) s fun t =>
      t = s.replyOk c [tlv pPathcfg (overlay p.record 5 (beBytes 1 p.state.code))]) ∧
    (s.path k = none → Refused (.pathGet c.plot c.queue) s c stNotFound) := by
  refine ⟨fun p hp => ends_runCmd rfl hr hop ?_, fun hnone => refused_of_err rfl hr hop ?_⟩ <;> rw [hk]
  · dsimp only
    rw [hp]
    rfl
  · dsimp only
    rw [hnone]

/-! ## The tick settings -/

/-- TICK_SET writes PERIOD, then TXBUDGET, where R41 and R67 allow the pair. -/
theorem tickSet_sets (hop : c.opcode = 0x68) : let v := (c.bytes? pTickcfg).getD []
    (c.stage = .fresh → beAt v 0 1 < 10 ∨ 250 < beAt v 0 1 ∨ beAt v 1 1 = 0 ∨ beAt v 0 1 < 2 * beAt v 1 1 →
      Refused (.tickSet c.plot c.queue) s c stBadParam) ∧
    (10 ≤ beAt v 0 1 → beAt v 0 1 ≤ 250 → beAt v 1 1 ≠ 0 → 2 * beAt v 1 1 ≤ beAt v 0 1 →
      Ends (.tickSet c.plot c.queue) s fun t => ∃ y : State, ∃ body, t = y.replyOk c body ∧
        y = (s.ctlWrite .headland Reg.TCK_PERIOD (BitVec.ofNat 32 (beAt v 0 1))).ctlWrite .headland Reg.TCK_TXBUDGET
          (BitVec.ofNat 32 (beAt v 1 1))) := by
  intro v
  refine ⟨fun hst hbad => refused_of_bad rfl hr hop hst (decide_eq_true hbad), fun h10 h250 hpos hhalf => ?_⟩
  have hgood : badTick c = false := decide_eq_false (show ¬(beAt v 0 1 < 10 ∨ 250 < beAt v 0 1 ∨ beAt v 1 1 = 0 ∨
    beAt v 0 1 < 2 * beAt v 1 1) by omega)
  exact ends_runChecked rfl hr hop (fun _ => hgood) ⟨_, _, rfl, readRegs_tickSettings_keeps _⟩

end

/-! ## The obligation -/

/-- Settles O41: registers (R264, R267), boot records and reports (R558, R560), logs (R587, R603), keys (R478, R484,
R487), MACsec (R192, R479), paths (R491, R492), the tick settings (R41, R67). The key that unwraps and an SA that is not
installed are log entry 80; a spent slot 0, no record left and the pieces of a proof are log entry 81. -/
theorem commandsOnDevice : Obligations.CommandsOnDevice := by
  intro s c hr reg slot
  refine ⟨getInfo_replies hr, fun hop hp _ => regRead_reads hr hop hp, regWrite_writes hr,
    fun k rs rn hop hk => getBootRecord_proves hr hop hk, fun k hop hk => getBootRecord_gone hr hop hk, attest_reports hr,
    fun hop hfree hroot => keyUnwrap_noRoot hr hfree hop hroot, fun k l hop hk hn => ?_,
    fun k n hop hk hn => gleanerRead_reads hr hop hk hn, keyChange_bound hr, fun root hop hfree hroot hsolo => ?_,
    fun hop hfree hsolo => ?_, macsecSaSet_installs hr, macsecSaClear_removes hr,
    fun hop => ⟨pathSet_refused hr hop, ?_⟩, fun k hop hk => pathGet_one hr hop hk, tickSet_sets hr⟩
  · obtain ⟨hthere, hnone⟩ := almanacRead_one hr hop hk hn
    exact ⟨hthere l, hnone⟩
  · obtain ⟨hok, hbad⟩ := keyUnwrap_unwraps hr hfree hop hroot hsolo
    refine ⟨fun k hk => ?_, hbad⟩
    obtain ⟨t, ht, rfl⟩ := hok k hk
    exact ⟨_, ht, _, rfl, fillSlot_fills s slot k⟩
  · obtain ⟨t, ht, rfl⟩ := keyErase_erases hr hfree hop hsolo
    exact ⟨_, ht, _, rfl, eraseSlot_erases s slot⟩
  · intro hok hkind hnone
    obtain ⟨t, ht, rfl⟩ := pathSet_connects hr hop hok hkind hnone
    exact ⟨_, ht, _, rfl, ⟨_, rfl, rfl, rfl, rfl⟩, rfl⟩

end Sys2Proof.Machine
end

section
/-! SUPPORT. The register files of a unit: the four banks of integer registers, the floating-point registers, the
windows as they slide (R274 to R277). -/

namespace Sys2Proof.Machine

open Sys2Proof Sys2Proof.Stated

/-! ## The windows -/

@[simp] theorem top_mapTop (w : Windows) (g : Frame → Frame) : (w.mapTop g).top = g w.top := by
  unfold Windows.mapTop Windows.top
  split <;> simp [*]

@[simp] theorem incoming_mapTop (w : Windows) (g : Frame → Frame) : (w.mapTop g).incoming = w.incoming := by
  unfold Windows.mapTop Windows.incoming
  rcases h : w.frames with _ | ⟨x, _ | ⟨y, l⟩⟩ <;> rfl

@[simp] theorem top_setIncoming (w : Windows) (c : List Word) : (w.setIncoming c).top = w.top := by
  unfold Windows.setIncoming Windows.top
  rcases h : w.frames with _ | ⟨x, _ | ⟨y, l⟩⟩ <;> simp

@[simp] theorem incoming_setIncoming (w : Windows) (c : List Word) : (w.setIncoming c).incoming = c := by
  unfold Windows.setIncoming Windows.incoming
  rcases h : w.frames with _ | ⟨x, _ | ⟨y, l⟩⟩ <;> simp

theorem mapTop_resident (w : Windows) (g : Frame → Frame) : (w.mapTop g).frames ≠ [] := by
  unfold Windows.mapTop
  split <;> simp

theorem setIncoming_resident {w : Windows} (c : List Word) (h : w.frames ≠ []) : (w.setIncoming c).frames ≠ [] := by
  unfold Windows.setIncoming
  split
  · simp
  · exact h

/-! ## The banks of integer registers -/

/-- The banks of eight integer registers: K, C, V, N (R274). -/
def Arch.bank (a : Arch) : Nat → List Word
  | 0 => a.k
  | 1 => a.win.incoming
  | 2 => a.win.top.v
  | _ => a.win.top.n

/-- An integer register is a word of its bank; K0 is zero. -/
theorem Arch.reg_eq_bank (a : Arch) (r : BitVec 5) :
    a.reg r = if r = 0 then 0 else (a.bank (r.toNat / 8)).getD (r.toNat % 8) 0 := by
  have h32 := r.isLt
  have h0 : r = 0 ↔ r.toNat = 0 := by rw [← BitVec.toNat_inj]; rfl
  simp only [Arch.reg, h0]
  by_cases hz : r.toNat = 0
  · simp only [hz, if_true]
  rw [if_neg hz, if_neg hz]
  split_ifs with hk hc hv
  · rw [show r.toNat / 8 = 0 by omega, show r.toNat % 8 = r.toNat by omega, Arch.bank]
  · rw [show r.toNat / 8 = 1 by omega, show r.toNat % 8 = r.toNat - 8 by omega, Arch.bank]
  · rw [show r.toNat / 8 = 2 by omega, show r.toNat % 8 = r.toNat - 16 by omega, Arch.bank]
  · rw [show r.toNat / 8 = 3 by omega, show r.toNat % 8 = r.toNat - 24 by omega, Arch.bank] <;> omega

/-- A write of an integer register but K0 replaces one word of one bank. -/
theorem Arch.bank_setReg (a : Arch) {r : BitVec 5} (v : Word) {j : Nat} (hr : r ≠ 0) (hj : j < 4) :
    (a.setReg r v).bank j = if j = r.toNat / 8 then (a.bank j).set (r.toNat % 8) v else a.bank j := by
  have h32 := r.isLt
  have hz : r.toNat ≠ 0 := fun h => hr (BitVec.eq_of_toNat_eq h)
  simp only [Arch.setReg, if_neg hz]
  by_cases hk : r.toNat < 8
  · rw [if_pos hk, show r.toNat / 8 = 0 by omega, show r.toNat % 8 = r.toNat by omega]
    interval_cases j <;> simp [Arch.bank]
  by_cases hc : r.toNat < 16
  · rw [if_neg hk, if_pos hc, show r.toNat / 8 = 1 by omega, show r.toNat % 8 = r.toNat - 8 by omega]
    interval_cases j <;> simp [Arch.bank]
  by_cases hv : r.toNat < 24
  · rw [if_neg hk, if_neg hc, if_pos hv, show r.toNat / 8 = 2 by omega, show r.toNat % 8 = r.toNat - 16 by omega]
    interval_cases j <;> simp [Arch.bank]
  · rw [if_neg hk, if_neg hc, if_neg hv, show r.toNat / 8 = 3 by omega, show r.toNat % 8 = r.toNat - 24 by omega]
    interval_cases j <;> simp [Arch.bank]

@[simp] theorem setReg_f (a : Arch) (r : BitVec 5) (v : Word) : (a.setReg r v).f = a.f := by
  unfold Arch.setReg; dsimp only; split_ifs <;> rfl

@[simp] theorem setReg_sr (a : Arch) (r : BitVec 5) (v : Word) : (a.setReg r v).sr = a.sr := by
  unfold Arch.setReg; dsimp only; split_ifs <;> rfl

theorem setReg_resident {a : Arch} (r : BitVec 5) (v : Word) (h : a.win.frames ≠ []) : (a.setReg r v).win.frames ≠ [] := by
  unfold Arch.setReg
  dsimp only
  split_ifs
  · exact h
  · exact h
  · exact setIncoming_resident _ h
  · exact mapTop_resident _ _
  · exact mapTop_resident _ _

/-- A register file has the sizes of R274 and R275 where each bank holds eight words. -/
theorem sized_iff (a : Arch) : sized a ↔ (∀ j, j < 4 → (a.bank j).length = 8) ∧ a.win.frames ≠ [] ∧ a.f.length = 32 := by
  refine ⟨fun ⟨hk, hc, hv, hn, hw, hf⟩ => ⟨fun j hj => ?_, hw, hf⟩,
    fun ⟨hb, hw, hf⟩ => ⟨hb 0 (by decide), hb 1 (by decide), hb 2 (by decide), hb 3 (by decide), hw, hf⟩⟩
  interval_cases j
  exacts [hk, hc, hv, hn]

theorem sized_setReg {a : Arch} (r : BitVec 5) (v : Word) (h : sized a) : sized (a.setReg r v) := by
  obtain rfl | hr := eq_or_ne r 0
  · exact h
  obtain ⟨hb, hw, hf⟩ := (sized_iff a).1 h
  refine (sized_iff _).2 ⟨fun j hj => ?_, setReg_resident r v hw, by rw [setReg_f, hf]⟩
  rw [Arch.bank_setReg a v hr hj]
  split_ifs
  · rw [List.length_set, hb j hj]
  · exact hb j hj

/-- A write of an integer register is read back, and K0 reads zero (R274). -/
theorem Arch.reg_setReg_same {a : Arch} (r : BitVec 5) (v : Word) (h : sized a) :
    (a.setReg r v).reg r = if r = 0 then 0 else v := by
  rw [Arch.reg_eq_bank]
  split_ifs with hr
  · rfl
  have hj : r.toNat / 8 < 4 := by have := r.isLt; omega
  have hlen := ((sized_iff a).1 h).1 _ hj
  rw [Arch.bank_setReg a v hr hj, if_pos rfl, List.getD_eq_getElem?_getD,
    List.getElem?_set_self (by rw [hlen]; exact Nat.mod_lt _ (by decide)), Option.getD_some]

theorem Arch.reg_setReg_other (a : Arch) {q r : BitVec 5} (v : Word) (h : q ≠ r) : (a.setReg r v).reg q = a.reg q := by
  obtain rfl | hr := eq_or_ne r 0
  · rfl
  have hne : q.toNat ≠ r.toNat := fun he => h (BitVec.eq_of_toNat_eq he)
  have hj : q.toNat / 8 < 4 := by have := q.isLt; omega
  rw [Arch.reg_eq_bank, Arch.reg_eq_bank, Arch.bank_setReg a v hr hj]
  split_ifs with hq hb
  · rfl
  · rw [List.getD_eq_getElem?_getD, List.getElem?_set_ne (by omega), List.getD_eq_getElem?_getD]
  · rfl

/-! ## The floating-point registers -/

@[simp] theorem setF_sr (a : Arch) (r : BitVec 5) (v : DWord) : (a.setF r v).sr = a.sr := rfl
@[simp] theorem setF_pc (a : Arch) (r : BitVec 5) (v : DWord) : (a.setF r v).pc = a.pc := rfl
@[simp] theorem setF_reg (a : Arch) (r q : BitVec 5) (v : DWord) : (a.setF r v).reg q = a.reg q := rfl
@[simp] theorem freg_raise (a : Arch) (flags : Nat) (q : BitVec 5) : (a.raise flags).freg q = a.freg q := rfl
@[simp] theorem reg_raise (a : Arch) (flags : Nat) (q : BitVec 5) : (a.raise flags).reg q = a.reg q := rfl
@[simp] theorem pc_raise (a : Arch) (flags : Nat) : (a.raise flags).pc = a.pc := rfl

theorem freg_setF_same {a : Arch} (r : BitVec 5) (v : DWord) (h : a.f.length = 32) : (a.setF r v).freg r = v := by
  rw [Arch.freg, Arch.setF, List.getD_eq_getElem?_getD, List.getElem?_set_self (by rw [h]; exact r.isLt), Option.getD_some]

theorem freg_setF_other (a : Arch) {q r : BitVec 5} (v : DWord) (h : q ≠ r) : (a.setF r v).freg q = a.freg q := by
  have hne : r.toNat ≠ q.toNat := fun he => h (BitVec.eq_of_toNat_eq he).symm
  rw [Arch.freg, Arch.setF, List.getD_eq_getElem?_getD, List.getElem?_set_ne hne, ← List.getD_eq_getElem?_getD, Arch.freg]

/-- A binary32 result stands in the low half of its register, under zeros (R275). -/
theorem freg_setF32_same {a : Arch} (r : BitVec 5) (x : Nat) (h : a.f.length = 32) :
    ((a.setF32 r x).freg r).toNat = x % 2 ^ 32 := by
  rw [Arch.setF32, freg_setF_same r _ h, BitVec.toNat_ofNat]
  omega

theorem freg_putFp_double {a : Arch} (r : BitVec 5) (x : FpRes) (h : a.f.length = 32) :
    ((a.putFp true r x).freg r).toNat = x.bits % 2 ^ 64 := by
  rw [Arch.putFp, freg_raise, if_pos rfl, freg_setF_same r _ h, BitVec.toNat_ofNat]

theorem freg_putFp_single {a : Arch} (r : BitVec 5) (x : FpRes) (h : a.f.length = 32) :
    ((a.putFp false r x).freg r).toNat = x.bits % 2 ^ 32 := by
  rw [Arch.putFp, freg_raise, if_neg Bool.false_ne_true, freg_setF32_same r _ h]

end Sys2Proof.Machine
end

section
/-! OBLIGATIONS. The registers of a unit: integer registers (O3), floating-point registers (O4). -/

namespace Sys2Proof.Machine

open Sys2Proof Sys2Proof.Stated

/-- Settles O3: a register is a word of one of four banks, and a write replaces that word. -/
theorem integerRegisterWriteReads : Obligations.IntegerRegisterWriteReads := fun a r v h =>
  ⟨Arch.reg_setReg_same r v h, fun _ hq => Arch.reg_setReg_other a v hq, setReg_f a r v, setReg_sr a r v, setReg_pc a r v,
    sized_setReg r v h⟩

/-- Settles O4: a register reads the 64 bits written to it, of which a binary32 operand is the low half. -/
theorem floatingPointRegisters : Obligations.FloatingPointRegisters := by
  intro a r v x hsized
  obtain ⟨-, -, hf⟩ := (sized_iff a).1 hsized
  have hsame := freg_setF_same r v hf
  refine ⟨hsame, ?_, ?_, freg_setF32_same r x hf, fun y => ⟨freg_putFp_double r y hf, freg_putFp_single r y hf⟩,
    fun q hq => ⟨freg_setF_other a v hq, freg_setF_other a _ hq⟩, fun q => setF_reg a r q v, rfl, rfl, fun _ _ => ⟨rfl, rfl⟩⟩
  · rw [Arch.fp, if_pos rfl, hsame]
  · rw [Arch.fp, if_neg Bool.false_ne_true, hsame]

end Sys2Proof.Machine
end

section
/-! OBLIGATIONS. The FP group: functions with integer results and moves (O6), functions with floating-point results, sticky
flags and NaNs (O7). -/

namespace Sys2Proof.Machine

open Sys2Proof Sys2Proof.Stated

/-! ## Instructions that only write architected state -/

/-- An instruction that only writes architected state completes with it. -/
theorem ends_pure {c : Instr} {s : State} {u : Nat} {l : Legal} {g : Arch → Arch} (hf : s.fetches u = true)
    (hc : exec c s = .next (s.pure u l g)) (hl : l.ok (archOf s u).level = true) (hpc : ∀ a : Arch, (g a).pc = a.pc) :
    Ends c s fun t => Retires s t u (g (archOf s u)) (pcNext s u) :=
  ⟨_, hc, pure_retires g hf hl hpc⟩

/-! ## The flags of a result -/

@[simp] theorem pc_putInt (a : Arch) (r : BitVec 5) (v : Int) (flags : Nat) : (a.putInt r v flags).pc = a.pc := by
  rw [Arch.putInt, pc_raise, setReg_pc]

@[simp] theorem pc_putFp (a : Arch) (dbl : Bool) (r : BitVec 5) (x : FpRes) : (a.putFp dbl r x).pc = a.pc := by
  cases dbl <;> rfl

@[simp] theorem reg_putFp (a : Arch) (dbl : Bool) (r q : BitVec 5) (x : FpRes) : (a.putFp dbl r x).reg q = a.reg q := by
  cases dbl <;> rfl

/-- A floating-point result changes FPSTAT alone among the special registers: flags are set, none is cleared (R316). -/
theorem sr_putFp (a : Arch) (dbl : Bool) (r : BitVec 5) (x : FpRes) :
    (a.putFp dbl r x).sr = { a.sr with fpstat := a.sr.fpstat ||| BitVec.ofNat 32 (x.flags % 32) } := by
  cases dbl <;> rfl

theorem getLsbD_fpstat_putFp (a : Arch) (dbl : Bool) (r : BitVec 5) (x : FpRes) (i : Nat) :
    (a.putFp dbl r x).sr.fpstat.getLsbD i = (a.sr.fpstat.getLsbD i || (decide (i < 5) && x.flags.testBit i)) := by
  rw [sr_putFp, BitVec.getLsbD_or, BitVec.getLsbD_ofNat, show x.flags % 32 = x.flags % 2 ^ 5 from rfl,
    Nat.testBit_mod_two_pow]
  by_cases hi : i < 5
  · simp [hi, show i < 32 by omega]
  · simp [hi]

/-! ## The rows of the opcode map -/

section

variable {s : State} {u : Nat} {dbl : Bool} {f : RegF}

theorem exec_fpRows2 : ∀ r ∈ fpRows2, exec (r.1 u dbl f) s = .next (s.fp2 u dbl f r.2) := by
  simp only [fpRows2, List.forall_mem_cons]
  exact ⟨rfl, rfl, rfl, rfl, rfl, rfl, List.forall_mem_nil _⟩

theorem exec_fpRows1 : ∀ r ∈ fpRows1, exec (r.1 u dbl f) s = .next (s.fp1 u dbl f r.2) := by
  simp only [fpRows1, List.forall_mem_cons]
  exact ⟨rfl, rfl, rfl, List.forall_mem_nil _⟩

theorem exec_fpRowsCmp : ∀ r ∈ fpRowsCmp, exec (r.1 u dbl f) s = .next (s.fpTest u dbl f r.2) := by
  simp only [fpRowsCmp, List.forall_mem_cons]
  exact ⟨rfl, rfl, rfl, List.forall_mem_nil _⟩

theorem exec_fpRowsInt : ∀ r ∈ fpRowsInt, exec (r.1 u dbl f) s =
    .next (s.pure u { reserved := f.fc == 0 && f.rb == 0 } fun a =>
      a.putInt f.rd (r.2 (fmtOf dbl) a.rounding (a.fp dbl f.ra)).1 (r.2 (fmtOf dbl) a.rounding (a.fp dbl f.ra)).2) := by
  simp only [fpRowsInt, List.forall_mem_cons]
  exact ⟨rfl, rfl, rfl, List.forall_mem_nil _⟩

theorem exec_fpRowsFrom : ∀ r ∈ fpRowsFrom, exec (r.1 u dbl f) s =
    .next (s.pure u { reserved := f.fc == 0 && f.rb == 0 } fun a =>
      a.putFp dbl f.rd (fpOfInt (fmtOf dbl) a.rounding (r.2 (a.reg f.ra)))) := by
  simp only [fpRowsFrom, List.forall_mem_cons]
  exact ⟨rfl, rfl, List.forall_mem_nil _⟩

theorem exec_fma : exec (.fma u dbl f) s = .next (s.pure u {} fun a =>
    a.putFp dbl f.rd (fpFma (fmtOf dbl) a.rounding (a.fp dbl f.ra) (a.fp dbl f.rb) (a.fp dbl f.fc))) := rfl

theorem exec_fcvtSD : exec (.fcvtSD u f) s = .next (s.pure u { reserved := f.fc == 0 && f.rb == 0 } fun a =>
    a.putFp false f.rd (fpConvert fmt64 fmt32 a.rounding (a.fp true f.ra))) := rfl

theorem exec_fcvtDS : exec (.fcvtDS u f) s = .next (s.pure u { reserved := f.fc == 0 && f.rb == 0 } fun a =>
    a.putFp true f.rd (fpConvert fmt32 fmt64 a.rounding (a.fp false f.ra))) := rfl

/-! ## The halves of a floating-point register -/

theorem exec_fmvfi : exec (.fmvfi u f) s = .next (s.pure u { reserved := f.fc == 0 && f.rb == 0 } fun a =>
    a.setReg f.rd (BitVec.ofNat 32 (a.freg f.ra).toNat)) := by
  have low (x : DWord) : x.extractLsb' 0 32 = BitVec.ofNat 32 x.toNat := by
    apply BitVec.eq_of_toNat_eq; simp
  simp only [← low]
  rfl

theorem exec_fmvfih : exec (.fmvfih u f) s = .next (s.pure u { reserved := f.fc == 0 && f.rb == 0 } fun a =>
    a.setReg f.rd (BitVec.ofNat 32 ((a.freg f.ra).toNat / 2 ^ 32))) := by
  have high (x : DWord) : x.extractLsb' 32 32 = BitVec.ofNat 32 (x.toNat / 2 ^ 32) := by
    apply BitVec.eq_of_toNat_eq; simp [Nat.shiftRight_eq_div_pow]
  simp only [← high]
  rfl

theorem exec_fmvif : exec (.fmvif u f) s = .next (s.pure u { reserved := f.fc == 0 } fun a =>
    a.setF f.rd (BitVec.ofNat 64 ((a.reg f.rb).toNat * 2 ^ 32 + (a.reg f.ra).toNat))) := by
  have joined (x y : Word) : x ++ y = BitVec.ofNat 64 (x.toNat * 2 ^ 32 + y.toNat) := by
    apply BitVec.eq_of_toNat_eq
    rw [BitVec.toNat_append, ← Nat.shiftLeft_add_eq_or_of_lt y.isLt, Nat.shiftLeft_eq, BitVec.toNat_ofNat, Nat.mod_eq_of_lt]
    have := x.isLt; have := y.isLt; omega
  simp only [← joined]
  rfl

end

/-! ## Functions with integer results and moves -/

/-- Settles O6: each instruction is an update of the architected state that retires, and the moves split and join the
halves of a floating-point register. -/
theorem floatToIntegerAndMoves : Obligations.FloatToIntegerAndMoves := by
  intro s u dbl f hf hc
  have hok (l : Nat) : Legal.ok { reserved := f.fc == 0 } l = true := by simp [Legal.ok, hc]
  have hok1 (hb : f.rb = 0) (l : Nat) : Legal.ok { reserved := f.fc == 0 && f.rb == 0 } l = true := by simp [Legal.ok, hc, hb]
  exact ⟨fun r hr => ends_pure hf (exec_fpRowsCmp r hr) (hok _) fun a => pc_putInt a _ _ _,
    fun hb r hr => ends_pure hf (exec_fpRowsInt r hr) (hok1 hb _) fun a => pc_putInt a _ _ _,
    fun hb => ends_pure hf exec_fmvfi (hok1 hb _) fun a => setReg_pc a _ _,
    fun hb => ends_pure hf exec_fmvfih (hok1 hb _) fun a => setReg_pc a _ _,
    ends_pure hf exec_fmvif (hok _) fun a => setF_pc a _ _⟩

/-! ## NaNs (R322 to R326) -/

@[simp] theorem isNan_flip (x : FpVal) : x.flip.isNan = x.isNan := by cases x <;> rfl
@[simp] theorem isSnan_flip (x : FpVal) : x.flip.isSnan = x.isSnan := by cases x <;> rfl

theorem isNan_iff (x : FpVal) : x.isNan = true ↔ x = .qnan ∨ x = .snan := by cases x <;> simp [FpVal.isNan]

theorem operand_nan {x y : FpVal} (h : (x.isNan || y.isNan) = true) : (x = .qnan ∨ x = .snan) ∨ y = .qnan ∨ y = .snan := by
  rwa [Bool.or_eq_true, isNan_iff, isNan_iff] at h

theorem fpAddV_nan (f : FpFmt) (m : Round) {x y : FpVal} (h : (x.isNan || y.isNan) = true) :
    fpAddV f m x y = nanRes f (x.isSnan || y.isSnan) := by
  obtain (rfl | rfl) | (rfl | rfl) := operand_nan h
  · cases y <;> rfl
  · cases y <;> rfl
  · cases x <;> rfl
  · cases x <;> rfl

section

variable (f : FpFmt) (m : Round) {a b : Nat} (h : ((f.unpack a).isNan || (f.unpack b).isNan) = true)

include h

theorem fpAdd_nan : fpAdd f m a b = nanRes f ((f.unpack a).isSnan || (f.unpack b).isSnan) := fpAddV_nan f m h

theorem fpSub_nan : fpSub f m a b = nanRes f ((f.unpack a).isSnan || (f.unpack b).isSnan) := by
  rw [fpSub, fpAddV_nan f m (by rwa [isNan_flip]), isSnan_flip]

theorem fpMul_nan : fpMul f m a b = nanRes f ((f.unpack a).isSnan || (f.unpack b).isSnan) := by
  unfold fpMul
  generalize f.unpack a = x at h ⊢
  generalize f.unpack b = y at h ⊢
  obtain (rfl | rfl) | (rfl | rfl) := operand_nan h
  · cases y <;> rfl
  · cases y <;> rfl
  · cases x <;> rfl
  · cases x <;> rfl

theorem fpDiv_nan : fpDiv f m a b = nanRes f ((f.unpack a).isSnan || (f.unpack b).isSnan) := by
  unfold fpDiv
  generalize f.unpack a = x at h ⊢
  generalize f.unpack b = y at h ⊢
  obtain (rfl | rfl) | (rfl | rfl) := operand_nan h
  · cases y <;> rfl
  · cases y <;> rfl
  · cases x <;> rfl
  · cases x <;> rfl

/-- A comparison with a NaN is false: NV for FLT and FLE always, for FEQ where an operand signals (R324). -/
theorem fpCompare_nan :
    fpEq f a b = ⟨0, if (f.unpack a).isSnan || (f.unpack b).isSnan then 16 else 0⟩ ∧ fpLt f a b = ⟨0, 16⟩ ∧
      fpLe f a b = ⟨0, 16⟩ :=
  ⟨if_pos h, if_pos h, if_pos h⟩

end

/-- FMIN and FMAX of one NaN give the other operand, of two the default NaN (R325). -/
theorem fpMinMax_nan (isMax : Bool) (f : FpFmt) {a : Nat} (b : Nat) (ha : (f.unpack a).isNan = true) :
    (fpMinMax isMax f a b).bits = if (f.unpack b).isNan then f.nan else b % 2 ^ f.width := by
  cases hb : (f.unpack b).isNan <;> simp [fpMinMax, ha, hb]

/-- The default NaNs of binary64 and binary32 (R322). -/
theorem nan_fmtOf (dbl : Bool) : (fmtOf dbl).nan = if dbl then 0x7FF8000000000000 else 0x7FC00000 := by
  cases dbl <;> decide

/-- FNEG changes the sign bit alone. -/
theorem testBit_fpNeg (f : FpFmt) {a : Nat} (ha : a < 2 ^ f.width) (i : Nat) :
    (fpNeg f a).testBit i = (a.testBit i ^^ decide (i = f.width - 1)) := by
  rw [fpNeg, Nat.mod_eq_of_lt ha, Nat.testBit_xor, Nat.testBit_two_pow, decide_eq_decide.2 eq_comm]

/-- FABS clears the sign bit alone. -/
theorem testBit_fpAbs (f : FpFmt) {a : Nat} (ha : a < 2 ^ f.width) (i : Nat) :
    (fpAbs f a).testBit i = (a.testBit i && decide (i ≠ f.width - 1)) := by
  rw [fpAbs, Nat.testBit_mod_two_pow]
  obtain hlt | rfl | hgt := lt_trichotomy i (f.width - 1)
  · simp [hlt, hlt.ne]
  · simp
  · rw [Nat.testBit_lt_two_pow (ha.trans_le (Nat.pow_le_pow_right (by decide) (by omega)))]
    simp

/-! ## Functions with floating-point results -/

/-- Settles O7: each instruction is an update of the architected state that retires; its flags are ORed into FPSTAT; a NaN
operand decides the result of each function by its class. -/
theorem floatResult : Obligations.FloatResult := by
  refine ⟨fun s u dbl f hf => ⟨fun hc r hr => ?_, fun hc hb => ?_, ?_⟩,
    fun a dbl r x => ⟨getLsbD_fpstat_putFp a dbl r x, by rw [sr_putFp], fun q => reg_putFp a dbl r q x⟩, ?_⟩
  · exact ends_pure hf (exec_fpRows2 r hr) (by simp [Legal.ok, hc]) fun a => pc_putFp a _ _ _
  · have hok (l : Nat) : Legal.ok { reserved := f.fc == 0 && f.rb == 0 } l = true := by simp [Legal.ok, hc, hb]
    exact ⟨fun r hr => ends_pure hf (exec_fpRows1 r hr) (hok _) fun a => pc_putFp a _ _ _,
      fun r hr => ends_pure hf (exec_fpRowsFrom r hr) (hok _) fun a => pc_putFp a _ _ _,
      ends_pure hf exec_fcvtSD (hok _) fun a => pc_putFp a _ _ _, ends_pure hf exec_fcvtDS (hok _) fun a => pc_putFp a _ _ _⟩
  · exact ends_pure hf exec_fma (by simp [Legal.ok]) fun a => pc_putFp a _ _ _
  · intro dbl m a b ha hb f nan sig
    refine ⟨fun h => ?_, fun h => ?_, fun h => ?_, nan_fmtOf dbl, testBit_fpNeg f ha, testBit_fpAbs f ha⟩
    · obtain ⟨heq, hlt, hle⟩ := fpCompare_nan f h
      exact ⟨fpAdd_nan f m h, fpSub_nan f m h, fpMul_nan f m h, fpDiv_nan f m h, heq, hlt, hle⟩
    · obtain ⟨hna, hnb⟩ := Bool.and_eq_true_iff.1 h
      rw [fpMinMax_nan _ f b hna, fpMinMax_nan _ f b hna, if_neg (by simpa using hnb), Nat.mod_eq_of_lt hb]
      exact ⟨rfl, rfl⟩
    · obtain ⟨hna, hnb⟩ := Bool.and_eq_true_iff.1 h
      rw [fpMinMax_nan _ f b hna, fpMinMax_nan _ f b hna, if_pos hnb]
      exact ⟨rfl, rfl⟩

end Sys2Proof.Machine
end

section
/-! SUPPORT. The ends of an instruction: its command, where it goes on or what it raises; the store buffers, which no end
changes; the spill of a window (R276, R278, R344). -/

namespace Sys2Proof.Machine

open Sys2Proof Sys2Proof.Stated

/-! ## How the command of an instruction completes -/

section

variable {c : Instr} {s : State} {u : Nat} {l : Legal} {body : State → Eff} {p : State → Prop}

/-- The command of a legal instruction completes with what its effect comes to. -/
theorem ends_execute (hf : s.fetches u = true) (hc : exec c s = .next (s.execute u l body))
    (hl : l.ok (archOf s u).level = true) (h : p (s.conclude u (body s))) : Ends c s p :=
  ⟨_, hc, by rwa [execute_body body hf hl]⟩

/-- An encoding that fails a test of R293 takes the exception of that test. -/
theorem ends_illegal {e : Exc} (hf : s.fetches u = true) (hc : exec c s = .next (s.execute u l body))
    (hl : l.fail (archOf s u).level = some e) : Ends c s fun t => Takes s t u e :=
  ⟨_, hc, execute_fail body hf hl⟩

end

theorem Legal.ok_default (level : Nat) : Legal.ok {} level = true := by simp [Legal.ok]

/-- An instruction that changes the architected state and goes on at a PC retires with the change. -/
theorem retire_mapArch_retires (s : State) (u : Nat) (g : Arch → Arch) (pc : Word) :
    Retires s ((s.mapArch u g).retire u pc) u (g (archOf s u)) pc := by
  have r := retire_retires (s.mapArch u g) u pc
  exact ⟨by rw [r.arch, mapArch_arch], by rw [r.count, mapArch_retired], (mapArch_only s u g).comp r.frame⟩

/-- The same, where the instruction after it follows. -/
theorem conclude_done_retires (s : State) (u : Nat) {g : Arch → Arch} (hpc : ∀ a : Arch, (g a).pc = a.pc) :
    Retires s (s.conclude u (.done (s.mapArch u g))) u (g (archOf s u)) (pcNext s u) := by
  have h : ((s.mapArch u g).unit u).arch.pc + 4 = pcNext s u := by rw [mapArch_arch, hpc, pcNext]
  rw [State.conclude, h]
  exact retire_mapArch_retires s u g _

/-! ## Targets of branches and jumps -/

theorem targetOf_eq_pcPlus (s : State) (u : Nat) {n : Nat} (d : BitVec n) :
    targetOf (archOf s u).pc d = pcPlus s u d.toInt := by
  rw [targetOf, pcPlus, BitVec.signExtend, BitVec.shiftLeft_eq_mul_twoPow, mul_comm, BitVec.ofInt_mul]
  rfl

theorem aligned_iff (pc : Word) : pc.extractLsb' 0 2 = 0 ↔ pc.toNat % 4 = 0 := by
  rw [← BitVec.toNat_inj]
  simp

theorem checkTarget_aligned (s : State) {pc : Word} (go : Eff) (h : pc.toNat % 4 = 0) : checkTarget s pc go = go :=
  if_pos ((aligned_iff pc).2 h)

theorem checkTarget_misaligned (s : State) {pc : Word} (go : Eff) (h : pc.toNat % 4 ≠ 0) :
    checkTarget s pc go = .exc s (alignTarget pc) :=
  if_neg fun h' => h ((aligned_iff pc).1 h')

/-! ## No end of an instruction changes a store buffer -/

theorem stores_mapUnit (s : State) (u v : Nat) {g : CoreUnit → CoreUnit} (h : ∀ x, (g x).stores = x.stores) :
    ((s.mapUnit u g).unit v).stores = (s.unit v).stores := by
  rw [unit_mapUnit]
  split_ifs with hv
  · rw [h, hv]
  · rfl

@[simp] theorem stores_haltPair (s : State) (p v : Nat) (cause : HaltCause) (hits : Nat) :
    ((s.haltPair p cause hits).unit v).stores = (s.unit v).stores := by
  have h (t : State) (f : Pair → Pair) : (t.mapPair p f).unit v = t.unit v := rfl
  rw [State.haltPair, h, stores_mapUnit _ _ _ fun x => ?_, stores_mapUnit _ _ _ fun x => ?_] <;> split <;> rfl

@[simp] theorem stores_boundary (s : State) (u v : Nat) : ((s.boundary u).unit v).stores = (s.unit v).stores := by
  unfold State.boundary
  split
  · exact stores_haltPair s _ v _ _
  · rfl

@[simp] theorem stores_counted (s : State) (u v : Nat) : ((s.counted u).unit v).stores = (s.unit v).stores := by
  rw [State.counted, unit_compared]
  exact stores_mapUnit s u v fun _ => rfl

@[simp] theorem stores_startCore (s : State) (u v : Nat) : ((s.startCore u).unit v).stores = (s.unit v).stores :=
  stores_mapUnit s u v fun x => by split <;> rfl

theorem stores_retire (s : State) (u v : Nat) (pc : Word) : ((s.retire u pc).unit v).stores = (s.unit v).stores := by
  simp only [State.retire, stores_boundary, stores_counted, stores_startCore]
  exact stores_mapUnit s u v fun _ => rfl

theorem stores_unitEnd (s : State) (u v : Nat) : ((s.unitEnd u).unit v).stores = (s.unit v).stores := by
  simp only [State.unitEnd, stores_boundary, stores_counted]
  exact stores_mapUnit s u v fun _ => rfl

/-! ## Stores that enter a buffer -/

theorem unit_pushStore_same (s : State) (u pa : Nat) (data : List Byte) (kind : StoreKind) :
    (s.pushStore u pa data kind).unit u = { s.unit u with stores := (s.unit u).stores ++
      [{ id := s.mem.nextStore, unit := u, pa := pa, data := data, kind := kind, slot := (s.unit u).txn, mark := none
         strong := (archOf s u).strongAllowed }] } := by
  rw [State.pushStore, unit_of_mapMem, unit_setUnit_same]

theorem unit_pushStore_other (s : State) {u v : Nat} (pa : Nat) (data : List Byte) (kind : StoreKind) (h : v ≠ u) :
    (s.pushStore u pa data kind).unit v = s.unit v := by
  rw [State.pushStore, unit_of_mapMem, unit_setUnit_other _ _ h]

@[simp] theorem arch_pushStore (s : State) (u v pa : Nat) (data : List Byte) (kind : StoreKind) :
    archOf (s.pushStore u pa data kind) v = archOf s v := by
  obtain rfl | h := eq_or_ne v u
  · rw [archOf, unit_pushStore_same]
  · rw [archOf, unit_pushStore_other _ _ _ _ h]

@[simp] theorem byte_pushStore (s : State) (u pa : Nat) (data : List Byte) (kind : StoreKind) (a : Nat) :
    (s.pushStore u pa data kind).byte a = s.byte a := rfl

/-! ## The spill -/

/-- The spill stores the oldest window below WSP and drops it; the current window stays (R276). -/
theorem unit_spill_same (s : State) (u : Nat) : (s.spill u).unit u = { s.unit u with
    stores := (s.unit u).stores ++
      [{ id := s.mem.nextStore, unit := u, pa := s.pairArea u + ((archOf s u).sr.wsp - 64).toNat
         data := (archOf s u).win.spillWords.flatMap fun w => leBytes 4 w.toNat, kind := .scratch, slot := (s.unit u).txn
         mark := none, strong := (archOf s u).strongAllowed }]
    arch := { archOf s u with win := (archOf s u).win.spilled, sr := { (archOf s u).sr with wsp := (archOf s u).sr.wsp - 64 }
                              link := none } } := by
  simp only [State.spill, unit_mapUnit_same, unit_pushStore_same]

theorem unit_spill_other (s : State) {u v : Nat} (h : v ≠ u) : (s.spill u).unit v = s.unit v := by
  rw [State.spill, unit_mapUnit_other _ _ h, unit_pushStore_other _ _ _ _ h]

@[simp] theorem byte_spill (s : State) (u a : Nat) : (s.spill u).byte a = s.byte a := rfl

theorem spillFits_iff (wsp : Word) : spillFits wsp = true ↔ 0x4040 ≤ wsp.toNat ∧ wsp.toNat ≤ 0x8000 := by
  simp only [spillFits, inWindowStack, decide_eq_true_eq]
  omega

end Sys2Proof.Machine
end

section
/-! OBLIGATIONS. Branches, jumps and calls (O8), the register window (O9). -/

namespace Sys2Proof.Machine

open Sys2Proof Sys2Proof.Stated

/-! ## Branches and jumps -/

/-- Each conditional branch tests its row's condition. -/
theorem exec_branchRows {s : State} {u : Nat} {f : BrcF} : ∀ r ∈ branchRows, ∃ taken : Word → Word → Bool,
    exec (r.1 u f) s = .next (s.branch u f taken) ∧ ∀ a b, taken a b = true ↔ r.2 a b := by
  simp only [branchRows, List.forall_mem_cons]
  refine ⟨⟨_, rfl, fun a b => ?_⟩, ⟨_, rfl, fun a b => ?_⟩, ⟨_, rfl, fun a b => ?_⟩, ⟨_, rfl, fun a b => ?_⟩,
    ⟨_, rfl, fun a b => ?_⟩, ⟨_, rfl, fun a b => ?_⟩, List.forall_mem_nil _⟩
  · exact beq_iff_eq
  · exact bne_iff_ne
  · exact BitVec.slt_iff_toInt_lt
  · simp [BitVec.slt_eq_decide]
  · exact BitVec.ult_iff_toNat_lt
  · simp [BitVec.ult_eq_decide]

theorem branch_retires {s : State} {u : Nat} (f : BrcF) (taken : Word → Word → Bool) (hf : s.fetches u = true) :
    Retires s (s.branch u f taken) u (archOf s u)
      (if taken ((archOf s u).reg f.ra) ((archOf s u).reg f.rb) then pcPlus s u f.disp.toInt else pcNext s u) := by
  rw [State.branch, execute_body _ hf (Legal.ok_default _)]
  dsimp only
  split_ifs
  · rw [← targetOf_eq_pcPlus]
    exact retire_retires s u _
  · exact retire_retires s u _

theorem ends_br {s : State} {u : Nat} (f : JmpF) (hf : s.fetches u = true) :
    Ends (.br u f) s fun t => Retires s t u (archOf s u) (pcPlus s u f.disp.toInt) :=
  ends_execute hf rfl (Legal.ok_default _) (targetOf_eq_pcPlus s u f.disp ▸ retire_retires s u _)

/-- A call with a window to spare slides it and jumps (R276). -/
theorem callTo_slides {s : State} {u : Nat} (pc : Word) (hres : (archOf s u).win.resident < 16) :
    Retires s (s.conclude u (s.callTo u pc)) u { archOf s u with win := (archOf s u).win.push (some (pcNext s u)) } pc := by
  rw [State.callTo, if_neg (Nat.not_le.2 hres)]
  exact retire_mapArch_retires s u (fun a => { a with win := a.win.push (some (a.pc + 4)) }) pc

/-- Settles O8: a branch tests its condition; a jump checks its target before it goes or slides the window. Of ALIGN TARGET,
EADDR is log entry 43. -/
theorem branchesAndJumps : Obligations.BranchesAndJumps := by
  refine ⟨fun s u hf => ⟨fun f r hr => ?_, fun f => ends_br f hf⟩, fun s u hf => ⟨fun f hrd => ?_, fun f hres => ?_⟩⟩
  · obtain ⟨taken, hexec, htaken⟩ := exec_branchRows (s := s) (u := u) (f := f) r hr
    have h := branch_retires f taken hf
    exact ⟨fun hc => ⟨_, hexec, by rwa [if_pos ((htaken _ _).2 hc)] at h⟩,
      fun hc => ⟨_, hexec, by rwa [if_neg fun ht => hc ((htaken _ _).1 ht)] at h⟩⟩
  · intro a target called
    have hok (l : Nat) : Legal.ok { reserved := f.rd == 0 } l = true := by simp [Legal.ok, hrd]
    refine ⟨fun hal => ends_execute hf rfl (hok _) ?_, fun hal hres => ends_execute hf rfl (hok _) ?_,
      fun hmis => ⟨ends_execute hf rfl (hok _) ?_, ends_execute hf rfl (hok _) ?_⟩⟩
    · dsimp only
      rw [checkTarget_aligned _ _ hal]
      exact retire_retires s u target
    · dsimp only
      rw [checkTarget_aligned _ _ hal]
      exact callTo_slides target hres
    all_goals
      dsimp only
      rw [checkTarget_misaligned _ _ hmis]
      rfl
  · exact ends_execute hf rfl (Legal.ok_default _) (targetOf_eq_pcPlus s u f.disp ▸ callTo_slides _ hres)

/-! ## The register window -/

/-- A call at 16 resident windows is first the spill, where the window stack has room (R276, R278). -/
theorem callTo_full {s : State} {u : Nat} (pc : Word) (hres : 16 ≤ (archOf s u).win.resident) :
    s.callTo u pc = if spillFits (archOf s u).sr.wsp then
        if 32 ≤ (s.unit u).stores.length then .hold s else .part (s.spill u)
      else .exc s { code := 6, sub := 1, sp := 0, addr := (archOf s u).sr.wsp.toNat, async := false } := by
  rw [State.callTo, if_pos hres]
  cases spillFits (archOf s u).sr.wsp <;> rfl

theorem resident_spilled (w : Windows) : w.spilled.resident = w.resident - 1 := List.length_dropLast

/-- A slide and the slide back (R276, R277). -/
theorem push_slides (w : Windows) (x : Word) (h : w.frames ≠ []) : let p := w.push (some x)
    p.incoming = w.top.n ∧ p.top.v = [0, 0, 0, 0, 0, 0, 0, x] ∧ p.top.n = zeroWords 8 ∧ p.depth = w.depth + 1 ∧
    p.cwp = (w.cwp + 1) % 16 ∧ p.resident = w.resident + 1 ∧ p.pop.frames = w.frames ∧ p.pop.baseC = w.baseC ∧
    p.pop.depth = w.depth ∧ p.pop.cwp % 16 = w.cwp % 16 ∧
    (∀ c : List Word, (p.setIncoming c).pop.top = { w.top with n := c }) ∧ (w.push none).top.v = zeroWords 8 := by
  obtain ⟨y, l, hfr⟩ := List.exists_cons_of_ne_nil h
  have htop : w.top = y := by rw [Windows.top, hfr]; rfl
  refine ⟨?_, rfl, rfl, rfl, rfl, rfl, rfl, rfl, rfl, ?_, fun c => ?_, rfl⟩
  · simp only [Windows.push, Windows.incoming, hfr, htop]
  · simp only [Windows.push, Windows.pop]
    omega
  · simp only [Windows.push, Windows.setIncoming, Windows.pop, Windows.top, hfr, List.drop_one, List.tail_cons, List.headD_cons]

theorem pcf_setPcf (a : Arch) (v : Bool) : (a.setPcf v).pcf = v := by
  rw [Arch.pcf, Arch.setPcf, Arch.setPsw, Arch.mapSr, getLsbD_setBits _ _ _ le_rfl (by decide)]
  cases v <;> rfl

/-- RET before its fill: TXN_EXIT in the entry window at T, then the check of its target (R277, R302). -/
theorem ends_ret {s : State} {u : Nat} {f : ImmF} {p : State → Prop} (hf : s.fetches u = true) (hd : f.rd = 0) (ha : f.ra = 0)
    (hi : f.imm = 0) (hpcf : (archOf s u).pcf = false) : let a := archOf s u
    let v7 := a.win.top.v.getD 7 0
    p (s.conclude u (if a.level = 0 ∧ a.win.depth = 1 then .exc s (Exc.plain exTxn 3)
      else checkTarget s v7 (if a.win.resident ≤ 1 then s.fillUnit u
        else .jump (s.mapArch u fun a => { a with win := a.win.pop }) v7))) → Ends (.ret u f) s p := by
  intro a v7 h
  refine ends_execute hf rfl (by simp [Legal.ok, hd, ha, hi]) ?_
  dsimp only
  rwa [if_neg (by rw [hpcf]; exact Bool.false_ne_true)]

/-- Settles O9: a call at 16 resident windows is a spill or WINDOW OVERFLOW; RET checks where it stands and where it goes,
then slides back; a slide back undoes a slide. EADDR of ALIGN TARGET is log entry 43. -/
theorem registerWindow : Obligations.RegisterWindow := by
  refine ⟨fun s u f hf hres => ?_, fun s u f hf hd ha hi hpcf => ?_, push_slides⟩
  · refine ⟨fun hlo hhi hroom => ends_execute hf rfl (Legal.ok_default _) ?_,
      fun hout => ends_execute hf rfl (Legal.ok_default _) ?_⟩
    · rw [callTo_full _ hres, if_pos ((spillFits_iff _).2 ⟨hlo, hhi⟩), if_neg (by omega), State.conclude]
      have hwsp : ((archOf s u).sr.wsp - 64).toNat = (archOf s u).sr.wsp.toNat - 64 :=
        BitVec.toNat_sub_of_le (by rw [BitVec.le_def]; exact le_trans (by decide) hlo)
      have harch := unitEnd_arch (s.spill u) u
      rw [unit_spill_same] at harch
      refine ⟨?_, ?_⟩
      · rw [stores_unitEnd, unit_spill_same, hwsp]
        rfl
      · rw [archOf, harch]
        exact ⟨rfl, rfl, pcf_setPcf _ _, resident_spilled _, rfl, rfl, rfl,
          fun c => byte_of_mem (unitEnd_only (s.spill u) u).mem c⟩
    · rw [callTo_full _ hres, if_neg fun h => by have := (spillFits_iff _).1 h; omega]
      rfl
  · refine ⟨fun hentry hal hres => ends_ret hf hd ha hi hpcf ?_, fun hl hdepth => ends_ret hf hd ha hi hpcf ?_,
      fun hentry hmis => ends_ret hf hd ha hi hpcf ?_⟩
    · rw [if_neg hentry, checkTarget_aligned _ _ hal, if_neg (Nat.not_le.2 hres)]
      exact retire_mapArch_retires s u (fun a => { a with win := a.win.pop }) _
    · rw [if_pos ⟨hl, hdepth⟩]
      rfl
    · rw [if_neg hentry, checkTarget_misaligned _ _ hmis]
      rfl

end Sys2Proof.Machine
end

section
/-! OBLIGATIONS. Reads and writes of the special registers, and the feature registers (O10). -/

namespace Sys2Proof.Machine

open Sys2Proof Sys2Proof.Stated

/-! ## RDSR -/

/-- Each register of the list is assigned, and can be read from its level on (R279). -/
theorem srAccess_readable : ∀ n ∈ srRows.map Prod.fst, ∃ x, srAccess n = some x ∧
    (x.1 = .none ↔ 0 < srLevel n) ∧ (x.2.1 = .none ↔ 1 < srLevel n) ∧ x.2.2 ≠ .none ∧ srLevel n ≤ 2 ∧ n ≠ 0x30 := by
  have h : ∀ n ∈ srRows.map Prod.fst, (srAccess n).any (fun x => decide ((x.1 = .none ↔ 0 < srLevel n) ∧
      (x.2.1 = .none ↔ 1 < srLevel n) ∧ x.2.2 ≠ .none ∧ srLevel n ≤ 2 ∧ n ≠ 0x30)) = true := by decide
  intro n hn
  obtain ⟨x, hx, hp⟩ := (Option.any_eq_true _ _).1 (h n hn)
  exact ⟨x, hx, of_decide_eq_true hp⟩

theorem readSr_srRows (s : State) (u : Nat) : ∀ r ∈ srRows, s.readSr u r.1 = r.2 (s.unit u) := by
  simp only [srRows, List.forall_mem_cons, List.not_mem_nil, false_implies, implies_true, and_true]
  and_intros <;> rfl

/-- A register that its level may not read. -/
theorem at_none_iff {x : SrAcc × SrAcc × SrAcc} {n : Nat} (h0 : x.1 = .none ↔ 0 < n) (h1 : x.2.1 = .none ↔ 1 < n)
    (h2 : x.2.2 ≠ .none) (hn : n ≤ 2) (level : Nat) : SrAcc.at x level = .none ↔ level < n := by
  unfold SrAcc.at
  split_ifs with h h'
  · rw [h0, h]
  · rw [h1, h']
  · simp only [h2, false_iff]
    omega

section

variable {s : State} {u : Nat} {f : SysF} {x : SrAcc × SrAcc × SrAcc} (hx : srAccess f.sr.toNat = some x)

include hx

/-- A read of TIME_LO latches TIME_HI (R11). -/
theorem exec_rdsr : exec (.rdsr u f) s = .next (s.execute u
    { reserved := SysOk f true false true, srSub := if SrAcc.at x (archOf s u).level = .none then 2 else 0 } fun s =>
    .done (s.mapArch u fun a => (if f.sr.toNat = 0x30 then
      a.mapSr fun r => { r with timeHi := BitVec.ofNat 32 (s.timeBase / 2 ^ 32) } else a).setReg f.rd (s.readSr u f.sr.toNat))) := by
  change execRdsr u f s = _
  simp only [execRdsr, hx]
  rfl

theorem exec_wrsr : exec (.wrsr u f) s = .next (s.execute u
    { reserved := SysOk f false true true, srSub := if srWriteDenied x (archOf s u).level then 3 else 0 } fun t =>
    .done (t.mapArch u fun a => if SrAcc.at x (archOf s u).level = .rw then
      { a with sr := a.sr.write (archOf s u).level f.sr.toNat (a.reg f.ra) } else a)) := by
  change execWrsr u f s = _
  simp only [execWrsr, hx]
  rfl

variable (hf : s.fetches u = true) (hrsv : f.rsv = 0)

include hf hrsv

theorem ends_rdsr (hra : f.ra = 0) (hat : SrAcc.at x (archOf s u).level ≠ .none) : Ends (.rdsr u f) s fun t =>
    Retires s t u ((if f.sr.toNat = 0x30 then (archOf s u).mapSr fun r => { r with timeHi := BitVec.ofNat 32 (s.timeBase / 2 ^ 32) }
      else archOf s u).setReg f.rd (s.readSr u f.sr.toNat)) (pcNext s u) := by
  refine ends_execute hf (exec_rdsr hx) (by simp [Legal.ok, SysOk, hrsv, hra, hat]) (conclude_done_retires s u fun a => ?_)
  rw [setReg_pc]
  split_ifs <;> rfl

theorem ends_rdsr_denied (hra : f.ra = 0) (hat : SrAcc.at x (archOf s u).level = .none) :
    Ends (.rdsr u f) s fun t => Takes s t u (privSub 2) :=
  ends_illegal hf (exec_rdsr hx) (by simp [Legal.fail, SysOk, hrsv, hra, hat, Exc.plain, exPriv, privSub])

/-! ## WRSR -/

variable (hrd : f.rd = 0)

include hrd

theorem ends_wrsr_writes (hat : SrAcc.at x (archOf s u).level = .rw) : Ends (.wrsr u f) s fun t =>
    Retires s t u { archOf s u with
      sr := (archOf s u).sr.write (archOf s u).level f.sr.toNat ((archOf s u).reg f.ra) } (pcNext s u) := by
  refine ends_execute hf (exec_wrsr hx) (by simp [Legal.ok, SysOk, hrsv, hrd, srWriteDenied, hat]) ?_
  simp only [if_pos hat]
  exact conclude_done_retires s u fun _ => rfl

/-- A write of a register that the level may only read, and no level may write, is ignored. -/
theorem ends_wrsr_ignored (hat : SrAcc.at x (archOf s u).level = .r) (hd : SrAcc.at x 2 = .r) :
    Ends (.wrsr u f) s fun t => Retires s t u (archOf s u) (pcNext s u) := by
  refine ends_execute hf (exec_wrsr hx) (by simp [Legal.ok, SysOk, hrsv, hrd, srWriteDenied, hat, hd]) ?_
  simp only [hat, reduceCtorEq, if_false]
  exact conclude_done_retires s u (g := id) fun _ => rfl

theorem ends_wrsr_denied (hdeny : srWriteDenied x (archOf s u).level = true) :
    Ends (.wrsr u f) s fun t => Takes s t u (privSub 3) :=
  ends_illegal hf (exec_wrsr hx) (by simp [Legal.fail, SysOk, hrsv, hrd, hdeny, Exc.plain, exPriv, privSub])

end

/-- Each register of the list is written whole or in its bits at the levels from the one given (R279). -/
theorem srAccess_writable : ∀ r ∈ srWrites, ∃ x, srAccess r.1 = some x ∧
    (∀ level, level ≤ 2 → r.2.1 ≤ level → SrAcc.at x level = .rw) ∧
    ∀ (level : Nat) (sr : SpecRegs) (v : Word), sr.write level r.1 v = r.2.2 sr v := by
  simp only [srWrites, List.forall_mem_cons, List.not_mem_nil, false_implies, implies_true, and_true]
  and_intros <;> exact ⟨_, rfl, by decide, fun _ _ _ => rfl⟩

/-! ## Fields with legal values -/

/-- A field written with its bits of a word where they are a legal value (R280). -/
theorem getLsbD_writeField (w v : Word) (hi lo : Nat) (legal : Nat → Bool) (i : Nat) (hle : lo ≤ hi) (hhi : hi < 32) :
    (if legal (bits v hi lo) then setBits w hi lo (bits v hi lo) else w).getLsbD i =
      if lo ≤ i ∧ i ≤ hi ∧ legal (bits v hi lo) = true then v.getLsbD i else w.getLsbD i := by
  by_cases hl : legal (bits v hi lo) = true
  · rw [if_pos hl, getLsbD_setBits _ _ _ hle hhi]
    by_cases hin : lo ≤ i ∧ i ≤ hi
    · rw [if_pos hin, if_pos ⟨hin.1, hin.2, hl⟩, testBit_bits, Nat.add_sub_cancel' hin.1]
      simp [show i - lo < hi + 1 - lo by omega]
    · rw [if_neg hin, if_neg fun h => hin ⟨h.1, h.2.1⟩]
  · rw [if_neg hl, if_neg fun h => hl h.2.2]

/-- A write of fields changes the bits of those that take a legal value. -/
theorem getLsbD_writeSpec (old v : Word) (fs : List (Nat × Nat × (Nat → Bool))) (i : Nat)
    (hfs : ∀ f ∈ fs, f.2.1 ≤ f.1 ∧ f.1 < 32) : (writeSpec old v fs).getLsbD i =
      if ∃ f ∈ fs, f.2.1 ≤ i ∧ i ≤ f.1 ∧ f.2.2 (bits v f.1 f.2.1) = true then v.getLsbD i else old.getLsbD i := by
  induction fs generalizing old with
  | nil => simp [writeSpec]
  | cons f fs ih =>
    obtain ⟨⟨hle, hhi⟩, hrest⟩ := List.forall_mem_cons.1 hfs
    rw [writeSpec, List.foldl_cons, ← writeSpec, ih _ hrest, getLsbD_writeField _ _ _ _ _ _ hle hhi]
    simp only [List.exists_mem_cons_iff]
    by_cases hf : f.2.1 ≤ i ∧ i ≤ f.1 ∧ f.2.2 (bits v f.1 f.2.1) = true
    · simp [hf]
    · simp only [hf, if_false, false_or]

/-- The bits of PSW that a write at a level changes (R279, R280). -/
theorem getLsbD_writePsw {level : Nat} (old v : Word) (i : Nat) (hlevel : level ≤ 2) : (writePsw level old v).getLsbD i =
    if (8 ≤ i ∧ i ≤ 10 ∧ bits v 10 8 ≤ 3) ∨ (i = 2 ∨ i = 3 ∨ i = 5) ∧ 1 ≤ level ∨ i = 6 ∧ level = 2 then v.getLsbD i
    else old.getLsbD i := by
  unfold writePsw
  interval_cases level <;> dsimp only <;> rw [getLsbD_writeSpec _ _ _ _ (by simp)] <;> refine if_congr ?_ rfl rfl <;>
    simp [anyValue] <;> omega

/-- A write of PSW leaves LEVEL alone. -/
theorem bits_level_writePsw {level : Nat} (old v : Word) (hlevel : level ≤ 2) :
    bits (writePsw level old v) 1 0 = bits old 1 0 := by
  refine Nat.eq_of_testBit_eq fun j => ?_
  rw [testBit_bits, testBit_bits, getLsbD_writePsw _ _ _ hlevel]
  by_cases hj : j < 2
  · rw [if_neg (by omega)]
  · simp [hj]

/-- A write of a saved PSW sets LEVEL where the value is one that the level may write (R639). -/
theorem bits_level_writeSavedPsw {level : Nat} (top : Nat) (old v : Word) (hlevel : level ≤ 2) :
    bits (writeSavedPsw level top old v) 1 0 = if bits v 1 0 ≤ top then bits v 1 0 else bits old 1 0 := by
  by_cases h : bits v 1 0 ≤ top
  · simp [writeSavedPsw, writeSpec, h, bits_setBits_bits]
  · simp [writeSavedPsw, writeSpec, h, bits_level_writePsw old v hlevel]

/-! ## RDFEAT -/

theorem ends_rdfeat {s : State} {u : Nat} {f : SysF} (hf : s.fetches u = true) (hrsv : f.rsv = 0) (hra : f.ra = 0) :
    Ends (.rdfeat u f) s fun t => Retires s t u ((archOf s u).setReg f.rd (s.feat u f.sr.toNat)) (pcNext s u) :=
  ends_execute hf rfl (by simp [Legal.ok, SysOk, hrsv, hra]) (conclude_done_retires s u fun a => setReg_pc a _ _)

theorem feat_unassigned (s : State) (u : Nat) {n : Nat} (h : 4 ≤ n) : s.feat u n = 0 := by
  rw [State.feat, if_neg (by omega), if_neg (by omega), if_neg (by omega), if_neg (by omega)]

/-- Settles O10: the access of a register at a level decides whether a read or write retires, is ignored or is denied; a
write changes fields that take a legal value. The 20 bits of ISPC, EISPC and DEISPC are log entry 43. -/
theorem specialRegisters : Obligations.SpecialRegisters := by
  refine ⟨fun s u f hf hrsv hra => ⟨fun r hr hn => ?_, fun h30 => ?_⟩,
    fun s u f hf hrsv hrd hlevel => ⟨fun r hr hn hlow => ?_, fun h8 hl => ?_, fun hro => ?_⟩,
    fun r level v hlevel => ⟨fun i => ?_, bits_level_writeSavedPsw 1 r.epsw v hlevel,
      bits_level_writeSavedPsw 2 r.depsw v hlevel, rfl⟩,
    fun s u f hf hrsv hra => ?_⟩
  · obtain ⟨x, hx, h0, h1, h2, hle, htime⟩ := srAccess_readable r.1 (List.mem_map_of_mem hr)
    have hnone := at_none_iff h0 h1 h2 hle (archOf s u).level
    rw [← hn] at hx htime
    refine ⟨fun hl => ?_, fun hl => ends_rdsr_denied hx hf hrsv hra (hnone.2 hl)⟩
    have h := ends_rdsr hx hf hrsv hra fun hat => absurd (hnone.1 hat) (Nat.not_lt.2 hl)
    rwa [if_neg htime, hn, readSr_srRows s u r hr] at h
  · have hn : f.sr.toNat = 0x30 := by rw [h30]; rfl
    have h := ends_rdsr (x := (.r, .r, .r)) (by rw [hn]; rfl) hf hrsv hra (by unfold SrAcc.at; split_ifs <;> decide)
    rwa [if_pos hn, hn] at h
  · obtain ⟨x, hx, hrw, hwrite⟩ := srAccess_writable r hr
    have h := ends_wrsr_writes (by rw [hn]; exact hx) hf hrsv hrd (hrw _ hlevel hlow)
    rwa [hn, hwrite] at h
  · exact ends_wrsr_denied (x := (.r, .r, .rw)) (by rw [h8]; rfl) hf hrsv hrd (by rw [hl]; rfl)
  · have hx : srAccess f.sr.toNat = some (.r, .r, .r) := by
      simp only [List.mem_cons, List.not_mem_nil, or_false] at hro
      rcases hro with h | h | h | h <;> rw [h] <;> rfl
    exact ends_wrsr_ignored hx hf hrsv hrd (by unfold SrAcc.at; split_ifs <;> rfl) rfl
  · change (writePsw level r.psw v).getLsbD i = _
    rw [getLsbD_writePsw _ _ _ hlevel]
    by_cases hdcc : 8 ≤ i ∧ i ≤ 10
    · rw [if_pos hdcc]
      exact if_congr (by omega) rfl rfl
    · rw [if_neg hdcc]
      exact if_congr (by omega) rfl rfl
  · obtain ⟨t, ht, hret⟩ := ends_rdfeat hf hrsv hra
    refine ⟨t, ht, ?_⟩
    generalize f.sr.toNat = n at hret ⊢
    match n with
    | 0 => exact hret
    | 1 => exact hret
    | 2 => exact hret
    | 3 => exact hret
    | k + 4 => rwa [feat_unassigned s u (Nat.le_add_left 4 k)] at hret

end Sys2Proof.Machine
end

section
/-! OBLIGATIONS. Exception entry (O11) and the return from an exception (O13). -/

namespace Sys2Proof.Machine

open Sys2Proof Sys2Proof.Stated

/-! ## The slide of an entry -/

/-- The window of a unit has slid without a V7, perhaps after a spill; K, F, the other units and memory stay
(R276, R295). -/
structure Slid (s t : State) (u : Nat) : Prop where
  k      : (archOf t u).k = (archOf s u).k
  f      : (archOf t u).f = (archOf s u).f
  depth  : (archOf t u).win.depth = (archOf s u).win.depth + 1
  top    : (archOf t u).win.top = Frame.empty
  others : ∀ v, v ≠ u → archOf t v = archOf s v
  bytes  : ∀ a, t.byte a = s.byte a

/-- What comes before the slide: nothing, the loss of the oldest window, or its spill. -/
theorem slid_push {s y : State} {u : Nat} (hk : (archOf y u).k = (archOf s u).k) (hf : (archOf y u).f = (archOf s u).f)
    (hdepth : (archOf y u).win.depth = (archOf s u).win.depth) (hothers : ∀ v, v ≠ u → archOf y v = archOf s v)
    (hbytes : ∀ a, y.byte a = s.byte a) :
    Slid s (y.mapUnit u fun x => { x with arch := { x.arch with win := x.arch.win.push none } }) u := by
  have hu := unit_mapUnit_same y u fun x => { x with arch := { x.arch with win := x.arch.win.push none } }
  exact ⟨by rw [archOf, hu]; exact hk, by rw [archOf, hu]; exact hf, by rw [archOf, hu]; exact congrArg (· + 1) hdepth,
    by rw [archOf, hu]; rfl, fun v hv => by rw [archOf, unit_mapUnit_other _ _ hv]; exact hothers v hv, hbytes⟩

theorem slideIn_slid (s : State) (u : Nat) : Slid s (s.slideIn u) u := by
  unfold State.slideIn
  dsimp only
  split_ifs
  · exact slid_push rfl rfl rfl (fun _ _ => rfl) fun _ => rfl
  · exact slid_push (by rw [archOf, unit_mapUnit_same]) (by rw [archOf, unit_mapUnit_same]) (by rw [archOf, unit_mapUnit_same]; rfl)
      (fun v hv => by rw [archOf, unit_mapUnit_other _ _ hv]) fun _ => rfl
  · exact slid_push (by rw [archOf, unit_spill_same]) (by rw [archOf, unit_spill_same]) (by rw [archOf, unit_spill_same]; rfl)
      (fun v hv => by rw [archOf, unit_spill_other _ hv]) (byte_spill s u)

/-- The slide leaves the special registers alone but WSP. -/
theorem sr_slideIn (s : State) (u : Nat) : ∃ wsp, (archOf (s.slideIn u) u).sr = { (archOf s u).sr with wsp := wsp } := by
  unfold State.slideIn
  dsimp only
  split_ifs <;> simp only [archOf, unit_mapUnit_same, unit_spill_same] <;> exact ⟨_, rfl⟩

/-! ## Entry -/

/-- A unit at the first instruction of a handler: the slide, the PC and the special registers of the entry (R295). -/
theorem inHandler_enters (s : State) (u : Nat) (g : SpecRegs → SpecRegs) (pc : Word) :
    Slid s (s.inHandler u g pc) u ∧ (archOf (s.inHandler u g pc) u).pc = pc ∧
      ∃ wsp, (archOf (s.inHandler u g pc) u).sr = g { (archOf s u).sr with wsp := wsp } := by
  obtain ⟨wsp, hsr⟩ := sr_slideIn s u
  obtain ⟨hk, hf, hdepth, htop, hothers, hbytes⟩ := slideIn_slid s u
  have hu : archOf (s.inHandler u g pc) u =
      { archOf (s.slideIn u) u with pc := pc, sr := g (archOf (s.slideIn u) u).sr, link := none } := by
    simp only [archOf, State.inHandler, unit_mapUnit_same, unit_of_mapJournal, unit_of_mapWeft]
  have hv (v : Nat) (hne : v ≠ u) : archOf (s.inHandler u g pc) v = archOf (s.slideIn u) v := by
    simp only [archOf, State.inHandler, unit_mapUnit_other _ _ hne, unit_of_mapJournal, unit_of_mapWeft]
  have hmem : (s.inHandler u g pc).mem = (s.slideIn u).mem := by
    simp only [State.inHandler, mapUnit_mem, mapJournal_mem, mapWeft_mem]
  refine ⟨⟨?_, ?_, ?_, ?_, fun v hne => (hv v hne).trans (hothers v hne), fun a => (byte_of_mem hmem a).trans (hbytes a)⟩,
    by rw [hu], wsp, by rw [hu, ← hsr]⟩
  · rw [hu, ← hk]
  · rw [hu, ← hf]
  · rw [hu, ← hdepth]
  · rw [hu, ← htop]

/-- A bit of a word with one bit replaced. -/
theorem getLsbD_setBits_one (w : Word) (b v i : Nat) (hb : b < 32) :
    (setBits w b b v).getLsbD i = if i = b then v.testBit 0 else w.getLsbD i := by
  rw [getLsbD_setBits _ _ _ le_rfl hb]
  by_cases h : i = b
  · rw [if_pos (by omega), if_pos h, h, Nat.sub_self]
  · rw [if_neg (by omega), if_neg h]

/-- The bits of a handler's PSW from IE up. -/
theorem getLsbD_handlerPsw (psw : Word) (level : Nat) {i : Nat} (hi : 2 ≤ i) : (handlerPsw psw level).getLsbD i =
    if i = 3 ∨ i = 6 ∧ level = 2 then true else if i = 2 ∨ i = 5 then false else psw.getLsbD i := by
  have hlevel : (setBits psw 1 0 level).getLsbD i = psw.getLsbD i :=
    getLsbD_setBits_out _ _ (by decide) (by decide) (.inr (by omega))
  have hone (w : Word) (b v : Nat) (hb : b < 7) : (setBits w b b v).getLsbD i = if i = b then v.testBit 0 else w.getLsbD i :=
    getLsbD_setBits_one w b v i (by omega)
  unfold handlerPsw
  dsimp only
  by_cases h : level = 2
  · rw [if_pos h, hone _ 6 _ (by decide), hone _ 5 _ (by decide), hone _ 2 _ (by decide), hone _ 3 _ (by decide), hlevel]
    grind
  · rw [if_neg h, hone _ 5 _ (by decide), hone _ 2 _ (by decide), hone _ 3 _ (by decide), hlevel]
    grind

theorem handlerStatus_handlerPsw (psw : Word) {level : Nat} (h : level < 4) : handlerStatus psw (handlerPsw psw level) level := by
  obtain ⟨hexl, hie⟩ := exl_ie_handlerPsw psw level
  refine ⟨level_handlerPsw psw h, hie, hexl, ?_, ?_, ?_, fun i hi => ?_⟩
  all_goals rw [getLsbD_handlerPsw _ _ (by omega)]
  · simp
  · simp
  · simp
  · rw [if_neg (by omega), if_neg (by omega)]

/-- What the entry to E writes (R295, R297). -/
theorem enterE_enters (s : State) (u : Nat) (e : Exc) : Slid s (s.enterE u e) u ∧
    (archOf (s.enterE u e) u).pc = (archOf s u).sr.evba + BitVec.ofNat 32 (0x40 * e.code) ∧
    ∃ wsp, (archOf (s.enterE u e) u).sr = { (archOf s u).sr with
      wsp := wsp, epc := (archOf s u).pc, epsw := (archOf s u).sr.psw, eispc := (archOf s u).sr.ispc
      ecause := e.cause (archOf s u).level (archOf s u).txn, eaddr := BitVec.ofNat 32 e.addr
      psw := handlerPsw (archOf s u).sr.psw 1, ispc := BitVec.ofNat 32 ((s.unit u).execPlot * 256 + 0xFE) } := by
  rw [State.enterE]
  exact inHandler_enters s u _ _

/-- What the entry to D writes (R295, R297). -/
theorem enterD_enters {s : State} {u : Nat} (e : Exc) (h : ¬((archOf s u).level = 2 ∧ (archOf s u).exl = true)) :
    Slid s (s.enterD u e) u ∧ (archOf (s.enterD u e) u).pc = (archOf s u).sr.dvba + BitVec.ofNat 32 (0x40 * e.code) ∧
    ∃ wsp, (archOf (s.enterD u e) u).sr = { (archOf s u).sr with
      wsp := wsp, depc := (archOf s u).pc, depsw := (archOf s u).sr.psw, deispc := (archOf s u).sr.ispc
      decause := e.cause (archOf s u).level (archOf s u).txn, deaddr := BitVec.ofNat 32 e.addr
      psw := handlerPsw (archOf s u).sr.psw 2, ispc := 0 } := by
  rw [State.enterD, if_neg h]
  exact inHandler_enters s u _ _

/-! ## To which level -/

theorem toD_iff (code level : Nat) : toD code level = true ↔ code ∈ [0x09, 0x0C, 0x0D] ∨ level = 2 ∧ code ≠ 0x0B := by
  simp [toD, exDcall, exMcheck, exDouble, exInterrupt, or_assoc]

theorem takeExc_toD {s : State} {u : Nat} {e : Exc} (h : toD e.code (archOf s u).level = true) :
    s.takeExc u e = s.enterD u e := by
  rw [State.takeExc, if_pos (by rw [h]; rfl)]

/-- An exception of level T or E that is not one of D's goes to E, or to D as DOUBLE (R296). -/
theorem takeExc_toE {s : State} {u : Nat} {e : Exc} (hu : u < 192) (hlevel : (archOf s u).level < 2)
    (hcode : e.code ∉ [0x09, 0x0C, 0x0D]) :
    s.takeExc u e = if canTakeE s u then s.enterE u e else s.enterD u { e with code := exDouble, sub := e.code } := by
  have hd : toD e.code (archOf s u).level = false := by
    rw [← Bool.not_eq_true, toD_iff]
    exact fun h => h.elim hcode fun h2 => by omega
  rw [State.takeExc, if_neg (by rw [hd]; simpa using Nat.ne_of_lt hu)]
  have hcan : canTakeE s u = true ↔ ¬((archOf s u).exl = true ∨ (archOf s u).spillBlocked = true ∨ (!s.hasExec u) = true) := by
    simp only [canTakeE, Bool.and_eq_true, Bool.not_eq_true', not_or, Bool.not_eq_true, Bool.not_eq_false]
    tauto
  by_cases h : canTakeE s u = true
  · rw [if_pos h, if_neg (hcan.1 h)]
  · rw [if_neg h, if_pos (not_not.1 (mt hcan.2 h))]

/-- Settles O11: an entry is a slide with the registers of its level; an exception that E cannot take is DOUBLE's. A spill
that does not fit at an entry to D is log entry 11. -/
theorem exceptionEntry : Obligations.ExceptionEntry := by
  refine ⟨fun s u e hu hlevel hcode hcan => ?_, fun s u e hd hdouble => ?_, fun s u e hu hlevel hcode hcan => ?_⟩
  · obtain ⟨⟨hk, hf, hdepth, htop, hothers, hbytes⟩, hpc, wsp, hsr⟩ := enterE_enters s u e
    rw [takeExc_toE hu hlevel hcode, if_pos hcan]
    intro a t b
    refine ⟨?_, ?_, ?_, ?_, ?_, ?_, ?_, hpc, hdepth, htop, hk, hf, hothers, hbytes⟩ <;> rw [show b.sr = _ from hsr]
    · rfl
    · exact handlerStatus_handlerPsw _ (by decide)
  · obtain ⟨⟨hk, hf, hdepth, htop, hothers, hbytes⟩, hpc, wsp, hsr⟩ := enterD_enters e hdouble
    rw [takeExc_toD ((toD_iff _ _).2 hd)]
    intro a t b
    refine ⟨?_, ?_, ?_, ?_, ?_, ?_, ?_, hpc, hdepth, ?_, ?_, hothers, hbytes⟩ <;> rw [show b.sr = _ from hsr]
    · rfl
    · exact handlerStatus_handlerPsw _ (by decide)
  · rw [takeExc_toE hu hlevel hcode, if_neg (by rw [hcan]; exact Bool.false_ne_true), takeExc_toD (by rfl)]
    rfl

/-! ## The return -/

theorem pc_restore (a : Arch) : a.restore.pc = if a.level = 2 then a.sr.depc else a.sr.epc := by
  unfold Arch.restore; split_ifs <;> rfl

theorem ispc_restore (a : Arch) : a.restore.sr.ispc = if a.level = 2 then a.sr.deispc else a.sr.eispc := by
  unfold Arch.restore; split_ifs <;> rfl

/-- The PSW that ERET restores, with TXN and SPLIT as they are (R295, R639). -/
theorem getLsbD_psw_restore (a : Arch) (i : Nat) : a.restore.sr.psw.getLsbD i =
    if i = 4 ∨ i = 7 then a.sr.psw.getLsbD i else (if a.level = 2 then a.sr.depsw else a.sr.epsw).getLsbD i := by
  have hbit (w : Word) (b : Nat) : (bits w b b).testBit 0 = w.getLsbD b := by
    rw [testBit_bits]
    simp
  have hsaved : (if a.level = 2 then (a.sr.depc, a.sr.depsw, a.sr.deispc) else (a.sr.epc, a.sr.epsw, a.sr.eispc)).2.1 =
      if a.level = 2 then a.sr.depsw else a.sr.epsw := by split_ifs <;> rfl
  rw [Arch.restore, hsaved, getLsbD_setBits_one _ _ _ _ (by decide), getLsbD_setBits_one _ _ _ _ (by decide), hbit, hbit]
  grind

/-- Settles O13: ERET is `Arch.restore`, and the boundary after it changes no architected state. -/
theorem returnFromException : Obligations.ReturnFromException := by
  intro s u f hf hrsv hrd hra hsr hlevel hres
  refine ends_execute hf rfl (by simp [Legal.ok, SysOk, hrsv, hrd, hra, hsr, hlevel]) ?_
  rw [if_neg (Nat.not_le.2 hres)]
  have harch : archOf (s.conclude u (.back (s.mapArch u Arch.restore))) u = (archOf s u).restore := by
    simp only [archOf, State.conclude, unit_boundary_arch, unit_counted_arch, unit_startCore_arch, mapArch_arch]
  intro a b d psw
  have hb : b = a.restore := harch
  rw [hb]
  simp only [d, psw, decide_eq_true_eq]
  exact ⟨pc_restore a, ispc_restore a, getLsbD_psw_restore a, rfl, rfl, rfl, rfl,
    (mapArch_only s u _).comp ((startCore_only _ u).comp ((counted_only _ u).comp (boundary_only _ u)))⟩

end Sys2Proof.Machine
end

section
/-! SUPPORT. The words of instructions: the major opcode and the minor code that stand in each format (R289 to R291). -/

namespace Sys2Proof.Machine

open Sys2Proof

/-! ## Where the codes stand -/

/-- A code below other fields. -/
theorem getLsbD_append_code {m n : Nat} (x : BitVec m) (code : Nat) {j : Nat} (h : j < n) :
    (x ++ BitVec.ofNat n code).getLsbD j = code.testBit j := by
  rw [BitVec.getLsbD_append, if_pos h, BitVec.getLsbD_ofNat, decide_eq_true h, Bool.true_and]

theorem getLsbD_append_add {m n : Nat} (x : BitVec m) (y : BitVec n) (j : Nat) : (x ++ y).getLsbD (n + j) = x.getLsbD j := by
  rw [BitVec.getLsbD_append, if_neg (by omega), Nat.add_sub_cancel_left]

theorem bits_wordOf_major (major : Nat) (low : BitVec 26) : bits (wordOf major low) 31 26 = major % 2 ^ 6 := by
  refine Nat.eq_of_testBit_eq fun j => ?_
  rw [testBit_bits, wordOf, getLsbD_append_add, BitVec.getLsbD_ofNat, Nat.testBit_mod_two_pow]
  simp

/-- A field of n bits below the major opcode that holds a code. -/
theorem bits_wordOf_code (major : Nat) {low : BitVec 26} {lo n code : Nat} (hn : lo + n ≤ 26) (h0 : 0 < n)
    (h : ∀ j, j < n → low.getLsbD (lo + j) = code.testBit j) : bits (wordOf major low) (lo + n - 1) lo = code % 2 ^ n := by
  refine Nat.eq_of_testBit_eq fun j => ?_
  rw [testBit_bits, wordOf, BitVec.getLsbD_append, Nat.testBit_mod_two_pow, show lo + n - 1 + 1 - lo = n by omega]
  by_cases hj : j < n
  · rw [if_pos (by omega), h j hj]
  · simp [hj]

theorem bits_regWord (f : RegF) (major fn : Nat) : bits (regWord f major fn) 5 0 = fn % 2 ^ 6 :=
  bits_wordOf_code (lo := 0) (n := 6) major (by decide) (by decide) fun j hj => by
    rw [Nat.zero_add]; exact getLsbD_append_code _ fn hj

theorem bits_sysWord (f : SysF) (major fn : Nat) : bits (sysWord f major fn) 5 0 = fn % 2 ^ 6 :=
  bits_wordOf_code (lo := 0) (n := 6) major (by decide) (by decide) fun j hj => by
    rw [Nat.zero_add]; exact getLsbD_append_code _ fn hj

theorem bits_opsWord (f : OpsF) (major fn : Nat) : bits (opsWord f major fn) 5 0 = fn % 2 ^ 6 :=
  bits_wordOf_code (lo := 0) (n := 6) major (by decide) (by decide) fun j hj => by
    rw [Nat.zero_add]; exact getLsbD_append_code _ fn hj

theorem bits_shiWord (f : ShiF) (major kind : Nat) : bits (shiWord f major kind) 1 0 = kind % 2 ^ 2 :=
  bits_wordOf_code (lo := 0) (n := 2) major (by decide) (by decide) fun j hj => by
    rw [Nat.zero_add]; exact getLsbD_append_code _ kind hj

/-- The code of a cache operation stands above its other fields. -/
theorem getLsbD_cop {l m n : Nat} (cop : Nat) (a : BitVec l) (b : BitVec m) (c : BitVec n) {j : Nat} (hj : j < 5) :
    (BitVec.ofNat 5 cop ++ a ++ b ++ c).getLsbD (n + (m + (l + j))) = cop.testBit j := by
  rw [getLsbD_append_add, getLsbD_append_add, getLsbD_append_add, BitVec.getLsbD_ofNat, decide_eq_true hj, Bool.true_and]

theorem bits_cacWord (f : CacF) (major cop : Nat) : bits (cacWord f major cop) 25 21 = cop % 2 ^ 5 :=
  bits_wordOf_code (lo := 21) (n := 5) major (by decide) (by decide) fun j hj => by
    rw [show 21 + j = 14 + (2 + (5 + j)) by omega]
    exact getLsbD_cop cop f.ra f.sp f.disp hj

theorem bits_crgWord (f : CrgF) (major cop : Nat) : bits (crgWord f major cop) 25 21 = cop % 2 ^ 5 :=
  bits_wordOf_code (lo := 21) (n := 5) major (by decide) (by decide) fun j hj => by
    rw [show 21 + j = 9 + (5 + (2 + (5 + j))) by omega]
    exact (getLsbD_append_add _ f.rsv _).trans (getLsbD_cop cop f.ra f.sp f.rb hj)

/-! ## Tests 1 and 2 of R293 -/

/-- A major opcode is assigned and has no minor codes. -/
def majorOk (major : Nat) : Bool := decide (major ∈ majors) && (minors major).isNone

/-- A minor code of a major opcode is assigned, in bits [hi:lo]. -/
def minorOk (major hi lo code : Nat) : Bool :=
  decide (major ∈ majors) &&
  match minors major with
  | some (h, l, codes) => decide (h = hi) && decide (l = lo) && decide (code ∈ codes)
  | none => false

theorem wordFail_majorOk {major : Nat} (low : BitVec 26) (h : majorOk (major % 2 ^ 6) = true) :
    wordFail (wordOf major low) = none := by
  simp only [majorOk, Bool.and_eq_true, decide_eq_true_eq, Option.isNone_iff_eq_none] at h
  obtain ⟨hmajor, hminor⟩ := h
  simp only [wordFail, bits_wordOf_major, hmajor, hminor, not_true_eq_false, if_false]

theorem wordFail_minorOk {major : Nat} {low : BitVec 26} {hi lo : Nat}
    (h : minorOk (major % 2 ^ 6) hi lo (bits (wordOf major low) hi lo) = true) : wordFail (wordOf major low) = none := by
  simp only [minorOk, Bool.and_eq_true, decide_eq_true_eq] at h
  obtain ⟨hmajor, hminor⟩ := h
  split at hminor
  · rename_i hi' lo' codes heq
    simp only [Bool.and_eq_true, decide_eq_true_eq] at hminor
    obtain ⟨⟨rfl, rfl⟩, hcode⟩ := hminor
    simp only [wordFail, bits_wordOf_major, hmajor, heq, hcode, not_true_eq_false, if_false, if_true]
  · exact absurd hminor Bool.false_ne_true

section

variable {major code : Nat}

theorem wordFail_regWord (f : RegF) (h : minorOk (major % 2 ^ 6) 5 0 (code % 2 ^ 6) = true) :
    wordFail (regWord f major code) = none := wordFail_minorOk (by rwa [← bits_regWord f major code] at h)

theorem wordFail_sysWord (f : SysF) (h : minorOk (major % 2 ^ 6) 5 0 (code % 2 ^ 6) = true) :
    wordFail (sysWord f major code) = none := wordFail_minorOk (by rwa [← bits_sysWord f major code] at h)

theorem wordFail_opsWord (f : OpsF) (h : minorOk (major % 2 ^ 6) 5 0 (code % 2 ^ 6) = true) :
    wordFail (opsWord f major code) = none := wordFail_minorOk (by rwa [← bits_opsWord f major code] at h)

theorem wordFail_shiWord (f : ShiF) (h : minorOk (major % 2 ^ 6) 1 0 (code % 2 ^ 2) = true) :
    wordFail (shiWord f major code) = none := wordFail_minorOk (by rwa [← bits_shiWord f major code] at h)

theorem wordFail_cacWord (f : CacF) (h : minorOk (major % 2 ^ 6) 25 21 (code % 2 ^ 5) = true) :
    wordFail (cacWord f major code) = none := wordFail_minorOk (by rwa [← bits_cacWord f major code] at h)

theorem wordFail_crgWord (f : CrgF) (h : minorOk (major % 2 ^ 6) 25 21 (code % 2 ^ 5) = true) :
    wordFail (crgWord f major code) = none := wordFail_minorOk (by rwa [← bits_crgWord f major code] at h)

/-- A code of the FP group, in both formats. -/
theorem wordFail_fpWord (f : RegF) (d : Bool) (h0 : minorOk (major % 2 ^ 6) 5 0 (code % 2 ^ 6) = true)
    (h1 : minorOk (major % 2 ^ 6) 5 0 ((code + 1) % 2 ^ 6) = true) : wordFail (regWord f major (code + d.toNat)) = none := by
  cases d
  · exact wordFail_regWord f h0
  · exact wordFail_regWord f h1

end

/-- The word of every instruction has an assigned major opcode and minor code (R290, R291). -/
theorem wordFail_insnWord (c : Instr) (w : Word) (h : insnWord c = some w) : wordFail w = none := by
  cases c
  all_goals cases h
  all_goals simp (decide := true) only [wordFail_regWord, wordFail_sysWord, wordFail_opsWord, wordFail_shiWord, wordFail_cacWord,
    wordFail_crgWord, wordFail_fpWord, wordFail_majorOk, immWord, memWord, brcWord, jmpWord]

end Sys2Proof.Machine
end

section
/-! OBLIGATIONS. Calls, privilege and illegal encodings (O12). -/

namespace Sys2Proof.Machine

open Sys2Proof Sys2Proof.Stated

/-! ## Calls -/

section

variable {s : State} {u : Nat} {f : SysF} (hf : s.fetches u = true) (hrsv : f.rsv = 0) (hrd : f.rd = 0) (hra : f.ra = 0)

include hf hrsv hrd hra

theorem ends_ecall : Ends (.ecall u f) s fun t =>
    Takes s t u { code := 8, sub := f.sr.toNat, sp := 0, addr := 0, async := false } :=
  ends_execute hf rfl (by simp [Legal.ok, SysOk, hrsv, hrd, hra]) rfl

theorem ends_dcall (hlevel : 1 ≤ (archOf s u).level) : Ends (.dcall u f) s fun t =>
    Takes s t u { code := 9, sub := f.sr.toNat, sp := 0, addr := 0, async := false } :=
  ends_execute hf rfl (by simp [Legal.ok, SysOk, hrsv, hrd, hra, hlevel]) rfl

/-- BREAK raises its exception or halts the pair, as BRKHALT says (R571). -/
theorem ends_brk {p : State → Prop} (h : p (s.conclude u (if (s.pair (pairOf u)).brkHalt then .stop .brk 0
    else .exc s (Exc.plain exBreak f.sr.toNat)))) : Ends (.brk u f) s p :=
  ends_execute hf rfl (by simp [Legal.ok, SysOk, hrsv, hrd, hra]) h

end

/-! ## Privilege and illegal encodings -/

/-- An instruction of level E that meets the earlier tests raises PRIV INSTR at T (R293, R294). -/
theorem ends_priv {c : Instr} {s : State} {u : Nat} {reserved : Bool} {body : State → Eff} (hf : s.fetches u = true)
    (hlevel : (archOf s u).level = 0) (hc : exec c s = .next (s.execute u { reserved := reserved, level := 1 } body))
    (hres : reserved = true) : Ends c s fun t => Takes s t u (privSub 1) :=
  ends_illegal hf hc (by simp [Legal.fail, hres, hlevel, Exc.plain, exPriv, privSub])

/-- A reserved field that is not zero raises ILLEGAL RESERVED. -/
theorem ends_reserved {c : Instr} {s : State} {u : Nat} {reserved : Bool} {g : Arch → Arch} (hf : s.fetches u = true)
    (hc : exec c s = .next (s.pure u { reserved := reserved } g)) (hres : reserved = false) :
    Ends c s fun t => Takes s t u { code := 1, sub := 3, sp := 0, addr := 0, async := false } :=
  ends_illegal hf hc (by simp [Legal.fail, hres, Exc.plain, exIllegal])

/-- An odd register where a pair is named raises ILLEGAL ODDREG. -/
theorem ends_oddreg {c : Instr} {s : State} {u : Nat} {even : Bool} {body : State → Eff} (hf : s.fetches u = true)
    (hc : exec c s = .next (s.execute u { even := even } body)) (heven : even = false) :
    Ends c s fun t => Takes s t u { code := 1, sub := 4, sp := 0, addr := 0, async := false } :=
  ends_illegal hf hc (by simp [Legal.fail, heven, Exc.plain, exIllegal])

/-- A special register that is not assigned raises ILLEGAL SREG. -/
theorem ends_sreg {s : State} {u : Nat} {f : SysF} (hf : s.fetches u = true) (hrsv : f.rsv = 0) (hra : f.ra = 0)
    (hnone : srAccess f.sr.toNat = none) :
    Ends (.rdsr u f) s fun t => Takes s t u { code := 1, sub := 5, sp := 0, addr := 0, async := false } :=
  ends_illegal hf rfl (by simp [Legal.fail, SysOk, hrsv, hra, hnone, Exc.plain, exIllegal])

/-- Settles O12: the words have assigned codes; each call raises its exception; of the tests of R293 the first that fails
decides. -/
theorem callsAndIllegalInstructions : Obligations.CallsAndIllegalInstructions := by
  refine ⟨wordFail_insnWord, by decide, by decide, by decide, by decide,
    fun s u hf => ⟨fun f hrsv hrd hra => ⟨ends_ecall hf hrsv hrd hra, fun hbrk => ends_brk hf hrsv hrd hra ?_,
      fun hbrk => ends_brk hf hrsv hrd hra ?_, ends_dcall hf hrsv hrd hra, fun hl => ?_⟩, fun hl => ?_⟩,
    fun s u hf => ⟨fun f hfc => ?_, fun f hodd => ?_, fun f hrsv hra => ends_sreg hf hrsv hra⟩⟩
  · rw [if_neg (by rw [hbrk]; exact Bool.false_ne_true)]
    rfl
  · rw [if_pos hbrk]
    exact ⟨stop_haltPair s _ _ _, haltPair_only s u _ _, unit_haltPair_arch s _ u _ _⟩
  · exact ⟨ends_priv hf hl rfl (by simp [SysOk, hrsv, hrd, hra]), fun hsr =>
      ⟨ends_priv hf hl rfl (by simp [SysOk, hrsv, hrd, hra, hsr]), ends_priv hf hl rfl (by simp [SysOk, hrsv, hrd, hra, hsr])⟩⟩
  · refine ⟨fun f hrd hra hrb hfc => ends_priv hf hl rfl (by simp [hrd, hra, hrb, hfc]), fun f => ?_⟩
    simp only [List.forall_mem_cons]
    exact ⟨ends_priv hf hl rfl rfl, ends_priv hf hl rfl rfl, ends_priv hf hl rfl rfl, ends_priv hf hl rfl rfl,
      ends_priv hf hl rfl rfl, List.forall_mem_nil _⟩
  · have h0 : (f.fc == 0) = false := by simpa using hfc
    have h1 : (f.fc == 0 && f.rb == 0) = false := by rw [h0, Bool.false_and]
    simp only [List.forall_mem_cons]
    exact ⟨ends_reserved hf rfl h0, ends_reserved hf rfl h0, ends_reserved hf rfl h0, ends_reserved hf rfl h0,
      ends_reserved hf rfl h1, ends_reserved hf rfl h1, ends_reserved hf rfl h1, List.forall_mem_nil _⟩
  · have heven : decide (f.rd.toNat % 2 = 0) = false := by simp [hodd]
    simp only [List.forall_mem_cons]
    exact ⟨ends_oddreg hf rfl heven, ends_oddreg hf rfl heven, ends_oddreg hf rfl heven, List.forall_mem_nil _⟩

end Sys2Proof.Machine
end

section
/-! OBLIGATIONS. Stores into the store buffer (O16). -/

namespace Sys2Proof.Machine

open Sys2Proof Sys2Proof.Stated

/-! ## The place of a store -/

/-- What a store at a place goes to. -/
def State.kindAt (s : State) (p : Place) : StoreKind := if p.journaled then .journal else s.storeKind p

section

variable {s : State} {u sp ea n parts : Nat} {k : AccKind} {p : Place}

/-- A store that may enter the buffer passes its checks (R125, R128). -/
theorem storePlace_ok (hgo : goesTo s u sp ea n .write k p) (hmay : mayStore s u n parts p = true) :
    s.storePlace u sp ea n k = .ok (p, s.kindAt p) := by
  rw [mayStore, Bool.and_eq_true, Bool.or_eq_true, Bool.and_eq_true, Bool.not_eq_true'] at hmay
  obtain ⟨hcap, -⟩ := hmay
  have hplace : s.place u sp ea n .write k = .ok p := hgo
  simp only [State.storePlace, hplace, State.kindAt]
  rcases hcap with hj | ⟨htxn, hcap⟩
  · simp only [hj, Bool.not_false, if_true, Bool.false_eq_true, if_false]
  · cases hj : p.journaled
    · rfl
    · simp only [Bool.not_true, Bool.false_eq_true, if_false, if_true, Option.isNone_eq_false_iff.2 htxn,
        Option.isNone_iff_eq_none.1 hcap]

theorem room_of_mayStore (hmay : mayStore s u n parts p = true) : (s.unit u).stores.length + parts ≤ 32 :=
  of_decide_eq_true (Bool.and_eq_true_iff.1 hmay).2

theorem store_done {data : List Byte} (hgo : goesTo s u sp ea data.length .write k p)
    (hmay : mayStore s u data.length 1 p = true) : s.store u sp ea data k = .done (s.pushStore u p.pa data (s.kindAt p)) := by
  have hroom := room_of_mayStore hmay
  simp only [State.store, storePlace_ok hgo hmay]
  exact if_neg (by rw [bufferSize]; omega)

theorem storeTwo_done {a b : List Byte} (hgo : goesTo s u sp ea (a.length + b.length) .write .other p)
    (hmay : mayStore s u (a.length + b.length) 2 p = true) : s.storeTwo u sp ea a b =
      .done ((s.pushStore u p.pa a (s.kindAt p)).pushStore u (p.pa + a.length) b (s.kindAt p)) := by
  have hroom := room_of_mayStore hmay
  simp only [State.storeTwo, storePlace_ok hgo hmay]
  exact if_neg (by rw [bufferSize]; omega)

end

/-! ## A store retires -/

/-- A state that differs in its units and its memory system alone. -/
def SameBeside (s y : State) : Prop := ∃ us m, y = { s with units := us, mem := m }

theorem SameBeside.refl (s : State) : SameBeside s s := ⟨s.units, s.mem, rfl⟩

theorem SameBeside.pushStore {s y : State} (h : SameBeside s y) (u pa : Nat) (data : List Byte) (kind : StoreKind) :
    SameBeside s (y.pushStore u pa data kind) := by
  obtain ⟨us, m, rfl⟩ := h
  exact ⟨_, _, rfl⟩

/-- An instruction that only adds to its unit's buffer retires so. -/
theorem buffered_retire {s y : State} {u : Nat} {l : List BufStore} (hst : (y.unit u).stores = (s.unit u).stores ++ l)
    (harch : ∀ v, archOf y v = archOf s v) (hbyte : ∀ a, y.byte a = s.byte a)
    (hrest : SameBeside s y) : Buffered s (s.conclude u (.done y)) u l := by
  have hpc : (y.unit u).arch.pc + 4 = pcNext s u := by rw [pcNext, ← harch u]
  rw [State.conclude, hpc]
  obtain ⟨ha, -, hfr⟩ := retire_retires y u (pcNext s u)
  obtain ⟨us, m, rfl⟩ := hrest
  exact ⟨by rw [stores_retire, hst], by rw [archOf, ha, after, ← harch u], fun v hv => (hfr.arch v hv).trans (harch v),
    fun a => (byte_of_mem hfr.mem a).trans (hbyte a), hfr.regs, hfr.clusters, hfr.stakes, hfr.journal, hfr.sower, hfr.plots,
    hfr.out⟩

theorem stores_pushStore (s : State) (u : Nat) (data : List Byte) (p : Place) (pa : Nat) :
    ((s.pushStore u pa data (s.kindAt p)).unit u).stores =
      (s.unit u).stores ++ [newStore s u s.mem.nextStore pa data p] := by
  rw [unit_pushStore_same]
  rfl

theorem buffered_pushStore (s : State) (u pa : Nat) (data : List Byte) (p : Place) :
    Buffered s (s.conclude u (.done (s.pushStore u pa data (s.kindAt p)))) u [newStore s u s.mem.nextStore pa data p] :=
  buffered_retire (stores_pushStore s u data p pa) (fun v => arch_pushStore s u v _ _ _) (byte_pushStore s u _ _ _)
    ((SameBeside.refl s).pushStore ..)

/-- Two stores of one instruction stand in the buffer in their order (R403). -/
theorem buffered_pushStore_two (s : State) (u : Nat) (a b : List Byte) (p : Place) {pa : Nat} :
    Buffered s (s.conclude u (.done ((s.pushStore u p.pa a (s.kindAt p)).pushStore u pa b (s.kindAt p)))) u
      [newStore s u s.mem.nextStore p.pa a p, newStore s u (s.mem.nextStore + 1) pa b p] := by
  refine buffered_retire ?_ (fun v => by rw [arch_pushStore, arch_pushStore])
    (fun a => by rw [byte_pushStore, byte_pushStore]) (((SameBeside.refl s).pushStore ..).pushStore ..)
  rw [unit_pushStore_same, arch_pushStore, unit_pushStore_same, List.append_assoc]
  rfl

section

variable {s : State} {u : Nat} {f : MemF} {p : Place}

/-- A store of one piece enters the buffer. -/
theorem conclude_store_buffered {sp ea n : Nat} {k : AccKind} {data : List Byte} (hn : data.length = n)
    (hgo : goesTo s u sp ea n .write k p) (hmay : mayStore s u n 1 p = true) :
    Buffered s (s.conclude u (s.store u sp ea data k)) u [newStore s u s.mem.nextStore p.pa data p] := by
  subst hn
  rw [store_done hgo hmay]
  exact buffered_pushStore s u p.pa data p

/-- The stores of an integer register (R290). -/
theorem ends_storeReg {c : Instr} {n : Nat} (hf : s.fetches u = true) (hc : exec c s = .next (s.storeReg u f n))
    (hgo : goesTo s u f.sp.toNat (eaOf s u f) n .write .plain p) (hmay : mayStore s u n 1 p = true) :
    Ends c s fun t => Buffered s t u
      [newStore s u s.mem.nextStore p.pa (leBytes n ((archOf s u).reg f.rd).toNat) p] :=
  ends_execute hf hc (Legal.ok_default _) (conclude_store_buffered (length_leBytes _ _) hgo hmay)

/-! ## Eight bytes -/

/-- A place that an access may go to is the one that its address translates to. -/
theorem xlat_of_goesTo {sp ea n : Nat} {acc : Access} {k : AccKind} (hgo : goesTo s u sp ea n acc k p) :
    s.xlat u ((archOf s u).space sp) ea n acc = .ok p := by
  have hplace : s.place u sp ea n acc k = .ok p := hgo
  simp only [State.place] at hplace
  split at hplace
  · cases hplace
  · rename_i q hq
    split_ifs at hplace <;> cases hplace <;> exact hq

/-- The stores of eight bytes: one, or two of four. -/
def storedEight (s : State) (u : Nat) (f : MemF) (p : Place) (d : List Byte) : List BufStore :=
  if eaOf s u f % 8 = 0 ∧ p.cacheable = true then [newStore s u s.mem.nextStore p.pa d p]
  else [newStore s u s.mem.nextStore p.pa (d.take 4) p, newStore s u (s.mem.nextStore + 1) (p.pa + 4) (d.drop 4) p]

theorem conclude_storeEight_buffered {d : List Byte} (hd : d.length = 8)
    (hgo : goesTo s u f.sp.toNat (eaOf s u f) 8 .write .other p)
    (hmay : mayStore s u 8 (if eaOf s u f % 8 = 0 ∧ p.cacheable = true then 1 else 2) p = true) :
    Buffered s (s.conclude u (s.storeEight u f d)) u (storedEight s u f p d) := by
  have height : s.storeEight u f d = if eaOf s u f % 8 = 0 ∧ p.cacheable = true then
      s.store u f.sp.toNat (eaOf s u f) d .other
      else s.storeTwo u f.sp.toNat (eaOf s u f) (d.take 4) (d.drop 4) := by
    have hx := xlat_of_goesTo hgo
    simp only [eaOf, archOf] at hx ⊢
    simp only [State.storeEight, Arch.ea, hx]
    exact if_congr Iff.rfl rfl rfl
  rw [height, storedEight]
  split_ifs at hmay ⊢
  · exact conclude_store_buffered hd hgo hmay
  · have hfirst : (d.take 4).length = 4 := by rw [List.length_take, hd]; rfl
    have hrest : (d.drop 4).length = 4 := by rw [List.length_drop, hd]
    rw [storeTwo_done (by rwa [hfirst, hrest]) (by rwa [hfirst, hrest]), hfirst]
    exact buffered_pushStore_two s u _ _ p

end

/-- Settles O16: the checks of the store pass, so its instruction adds its bytes to the buffer and retires; one store in
the buffer for each of its parts, whatever lines it crosses (log entry 46). -/
theorem storeEntersBuffer : Obligations.StoreEntersBuffer := by
  unfold Obligations.StoreEntersBuffer
  refine ⟨fun s u f p hf => ⟨?rows, fun hgo hmay => ?fsts, fun g hgo hmay => ?zline⟩, fun s u f p hf hgo => ?eight⟩
  case rows =>
    simp only [storeRows, List.forall_mem_cons, List.not_mem_nil, false_implies, implies_true, and_true]
    exact ⟨ends_storeReg hf rfl, ends_storeReg hf rfl, ends_storeReg hf rfl⟩
  case fsts => exact ends_execute hf rfl (Legal.ok_default _) (conclude_store_buffered (length_leBytes _ _) hgo hmay)
  case zline =>
    exact ends_execute hf rfl (Legal.ok_default _) (conclude_store_buffered List.length_replicate hgo hmay)
  case eight =>
    intro stored hmay
    refine ⟨fun heven => ends_execute hf rfl ?_ (conclude_storeEight_buffered rfl hgo hmay),
      ends_execute hf rfl (Legal.ok_default _) (conclude_storeEight_buffered (length_leBytes _ _) hgo hmay)⟩
    simp [Legal.ok, heven]

end Sys2Proof.Machine
end

section
/-! OBLIGATIONS. Loads from memory (O15). -/

namespace Sys2Proof.Machine

open Sys2Proof Sys2Proof.Stated

/-! ## A load that meets a parity error -/

section

variable {s : State} {u sp ea n pa : Nat} {p : Place}

/-- While no stop is isolated and no link is down, DRAM answers (R438). -/
theorem answerOf_dram (init : Nat) (hr : s.region pa = .dram) (hiso : s.reg Reg.WRP_ISO = 0)
    (hlink : s.reg Reg.WRP_LINKDOWN = 0) : s.answerOf init pa = (.ok, 0) := by
  have hbit (b : Nat) : s.bit Reg.WRP_ISO b = false := by rw [State.bit, hiso]; exact BitVec.getLsbD_zero
  have hroute (a b : Nat) : s.unroutable a b = false := by simp only [State.unroutable, hlink, bne_self_eq_false, Bool.false_and]
  simp only [State.answerOf, hr, hbit, hroute, Bool.false_eq_true, if_false]

theorem accessStatus_dram (hfirst : s.region pa = .dram) (hlast : s.region (pa + n - 1) = .dram)
    (hiso : s.reg Reg.WRP_ISO = 0) (hlink : s.reg Reg.WRP_LINKDOWN = 0) : (s.accessStatus u pa n).1 = .ok := by
  simp only [State.accessStatus, answerOf_dram _ hfirst hiso hlink, answerOf_dram _ hlast hiso hlink]
  split_ifs <;> rfl

/-- A load from a cached line of DRAM in which an L1 finds a parity error: the error is counted, then the bytes come
(R409). -/
theorem loadBytes_dram_parity (hr : s.region p.pa = .dram) (hc : p.cacheable = true) (hp : p.pairArea = false)
    (hok : (s.accessStatus u p.pa n).1 = .ok) (hmiss : s.missing u p.pa n = none)
    (hpoison : (s.l1Error u).poisonIn p.pa n = false) :
    s.loadBytes u sp ea n p true = .got (((s.l1Error u).noteEpochs u p.pa n).noteReads u p.pa n)
      ((s.l1Error u).seenBytes u p.pa n) := by
  simp only [State.loadBytes, State.loadPlace, hr, hc, hp, hok, hmiss, hpoison, Bool.not_true, Bool.not_false, Bool.and_true,
    Bool.false_and, Bool.false_eq_true, if_true, if_false, ne_eq, not_true_eq_false]

end

/-! ## A unit that the device does not have

The statement speaks of every number u. Unit 512 lies in cluster 32, and the counter of parity errors of cluster 32 would
lie at 0x600114: there stands MEM_CHSTAT of channel 5. Where its low 26 bits are ones (1023 GiB in bits [25:16]), counting
one error carries out of the capacity and leaves the channel none. -/

/-- A plot whose space 0 holds code in the scratchpad and whose space 1 is a cacheable page at the start of DRAM. -/
def strayPlot : Plot :=
  { desc := { state := .active, adopted := false, splitOk := false, srcAny := true, share := 100, urgMax := 50, classes := 31,
              qmax := 4, addr6 := [], addr4 := [], srcFilt := [] }
    next := none, sptBase := 0, libBase := 0, execBase := scratchBase, execMeas := []
    spaces := [(0, { base := scratchBase, pages := 16, attr := 0x2F }), (1, { base := 0, pages := 1, attr := 0x63 })]
    libCount := 0, exec := [], staging := [], credit := [], own := true, created := true }

/-- Unit 512 runs plot 5 at level T with its space 1 in SP 0; all DRAM is at channel 5; the line at 0 is cached. -/
def strayState : State :=
  (((State.reset.setReg (Reg.MEM_CHSTAT + 4 * 5) 0x83FFFFFF).setPlot 5 strayPlot).mapCluster 32 fun x =>
    { x with lines := [{ pa := 0, way := 0, mark := none, dirty := none }] }).mapUnit 512 fun x =>
    { x with run := true, execPlot := 5
             arch := { Arch.reset with sr := { SpecRegs.reset with spc := [0x501, 0, 0, 0, 0, 0, 0, 0], ispc := 0x500 } } }

/-- FLDD f0 from EA 4 through SP 0, and its place. -/
def strayLoad : MemF := ⟨0, 0, 0, 4⟩
def strayPlace : Place := { pa := 4, cacheable := true, journaled := false, pairArea := false }

/-- The unit fetches its load, whose place is in cacheable memory at no multiple of 8. -/
theorem strayState_fetches : strayState.fetches 512 = true ∧
    strayState.place 512 strayLoad.sp.toNat (eaOf strayState 512 strayLoad) 8 .read .other = .ok strayPlace ∧
    eaOf strayState 512 strayLoad = 4 := by
  decide +kernel

/-- Both words lie in DRAM, which answers. -/
theorem accessStatus_strayState {pa : Nat} (h : pa = 4 ∨ pa = 8) :
    strayState.region pa = .dram ∧ (strayState.accessStatus 512 pa 4).1 = .ok := by
  have hdram : ∀ x ∈ [4, 7, 8, 11], strayState.region x = .dram := by decide +kernel
  obtain ⟨hiso, hlink⟩ : strayState.reg Reg.WRP_ISO = 0 ∧ strayState.reg Reg.WRP_LINKDOWN = 0 := by decide +kernel
  obtain rfl | rfl := h <;>
    exact ⟨hdram _ (by decide), accessStatus_dram (hdram _ (by decide)) (hdram _ (by decide)) hiso hlink⟩

/-- Each word may be read at once. -/
theorem readable_strayState {pa : Nat} (h : pa = 4 ∨ pa = 8) :
    readable strayState 512 4 { strayPlace with pa := pa } = true := by
  obtain ⟨hr, hok⟩ := accessStatus_strayState h
  simp only [readable, hr, hok]
  obtain rfl | rfl := h <;> decide +kernel

/-- The second word is gone once the error of the first is counted: the unit goes on at its exception vector. -/
theorem pc_fldd_strayState {t : State} (h : exec (.fldd 512 strayLoad true) strayState = .next t) :
    (archOf t 512).pc = 0x300 := by
  obtain ⟨hfetch, hplace, hea⟩ := strayState_fetches
  obtain ⟨hr, hok⟩ := accessStatus_strayState (.inl rfl)
  have hfirst := loadBytes_dram_parity (s := strayState) (u := 512) (p := strayPlace) (sp := strayLoad.sp.toNat) (ea := 4) hr rfl
    rfl hok (by decide +kernel) (by decide +kernel)
  obtain rfl := Host.Outcome.next.inj h
  rw [hea] at hplace
  rw [execute_body _ hfetch (Legal.ok_default _), State.loadEight, show (strayState.unit 512).arch.ea _ _ = 4 from hea]
  simp only [hplace, hfirst]
  decide +kernel

/-- Refutes O15: the units of the statement are not bounded by the 192 of the device, and the parity error of a unit
beyond them is counted in a register of DRAM, so that FLDD of two words takes MCHECK at the second instead of retiring. -/
theorem not_loadResult : ¬ Obligations.LoadResult := by
  unfold Obligations.LoadResult
  intro ⟨_, height⟩
  obtain ⟨hfetch, hplace, hea⟩ := strayState_fetches
  have htwo : ¬ (eaOf strayState 512 strayLoad % 8 = 0 ∧ strayPlace.cacheable = true) := by rw [hea]; decide
  have hregion := (accessStatus_strayState (.inr rfl)).1.trans (accessStatus_strayState (.inl rfl)).1.symm
  obtain ⟨t, hexec, harch, -⟩ := (height strayState 512 strayLoad true strayPlace hfetch hplace
    (by rw [if_neg htwo]; exact ⟨readable_strayState (.inl rfl), readable_strayState (.inr rfl), hregion⟩)).2
  have hpc : (archOf t 512).pc = 4 := by rw [harch]; rfl
  exact absurd (hpc.symm.trans (pc_fldd_strayState hexec)) (by decide)

end Sys2Proof.Machine
end

section
/-! SUPPORT. The integer functions as arithmetic (R306 to R309): comparisons, products and quotients, counts of zeros and
of bits, bytes in reverse. -/

namespace Sys2Proof.Machine

open Sys2Proof Sys2Proof.Stated

/-! ## Comparisons, products, quotients -/

theorem flag_slt (a b : Word) : flag (a.slt b) = if a.toInt < b.toInt then 1 else 0 := by simp [flag, BitVec.slt]

theorem flag_ult (a b : Word) : flag (a.ult b) = if a.toNat < b.toNat then 1 else 0 := by simp [flag, BitVec.ult]

theorem mul_eq_ofInt (a b : Word) : a * b = BitVec.ofInt 32 (a.toInt * b.toInt) := by
  rw [BitVec.ofInt_mul, BitVec.ofInt_toInt, BitVec.ofInt_toInt]

theorem divU_eq (a b : Word) : divU a b = if b = 0 then 0xFFFFFFFF#32 else BitVec.ofNat 32 (a.toNat / b.toNat) := by
  rw [divU, ← BitVec.toNat_udiv, BitVec.ofNat_toNat, BitVec.setWidth_eq]

theorem remU_eq (a b : Word) : remU a b = if b = 0 then a else BitVec.ofNat 32 (a.toNat % b.toNat) := by
  rw [remU, ← BitVec.toNat_umod, BitVec.ofNat_toNat, BitVec.setWidth_eq]

theorem toInt_sxImm (f : ImmF) : (sxImm f).toInt = f.imm.toInt := BitVec.toInt_signExtend_of_le (by decide)

theorem zxImm_shiftLeft (f : ImmF) : zxImm f <<< 16 = f.imm ++ 0#16 := by
  refine BitVec.eq_of_getLsbD_eq fun i hi => ?_
  rw [BitVec.getLsbD_shiftLeft, BitVec.getLsbD_append, zxImm, BitVec.getLsbD_setWidth]
  by_cases h : i < 16
  · simp [h]
  · simp [h, hi, show i - 16 < 32 by omega]

/-! ## Counts of zeros and of bits (R309) -/

/-- The leading zeros stand above the highest bit set. -/
theorem toNat_leadZeros {a : Word} (h : a ≠ 0) : (leadZeros a).toNat = 31 - Nat.log2 a.toNat := by
  rw [leadZeros, if_neg h, BitVec.toNat_ofNat]
  omega

theorem log2_toNat_lt {a : Word} (h : a ≠ 0) : Nat.log2 a.toNat < 32 :=
  (Nat.log2_lt fun h0 => h (BitVec.eq_of_toNat_eq h0)).2 a.isLt

theorem leadZeros_spec {a : Word} (h : a ≠ 0) : (leadZeros a).toNat < 32 ∧
    a.getLsbD (31 - (leadZeros a).toNat) = true ∧ ∀ i, 31 - (leadZeros a).toNat < i → a.getLsbD i = false := by
  have hlt := log2_toNat_lt h
  have h0 : a.toNat ≠ 0 := fun h0 => h (BitVec.eq_of_toNat_eq h0)
  rw [toNat_leadZeros h, show 31 - (31 - Nat.log2 a.toNat) = Nat.log2 a.toNat by omega]
  exact ⟨by omega, Nat.testBit_log2 h0, fun i hi => Nat.testBit_lt_two_pow ((Nat.log2_lt h0).1 hi)⟩

/-- The trailing zeros stand below the lowest bit set. -/
theorem trailZeros_spec {a : Word} (h : a ≠ 0) : (trailZeros a).toNat < 32 ∧
    a.getLsbD (trailZeros a).toNat = true ∧ ∀ i, i < (trailZeros a).toNat → a.getLsbD i = false := by
  obtain ⟨k, hk⟩ : ∃ k, (List.range 32).find? (fun i => a.getLsbD i) = some k := by
    refine Option.isSome_iff_exists.1 (List.find?_isSome.2 ?_)
    exact ⟨_, List.mem_range.2 (log2_toNat_lt h), Nat.testBit_log2 fun h0 => h (BitVec.eq_of_toNat_eq h0)⟩
  obtain ⟨hset, hlt, hbelow⟩ := List.find?_range_eq_some.1 hk
  have hlt := List.mem_range.1 hlt
  rw [trailZeros, hk, Option.getD_some, BitVec.toNat_ofNat, Nat.mod_eq_of_lt (by omega)]
  exact ⟨hlt, hset, fun i hi => by simpa using hbelow i hi⟩

theorem length_filter_eq_sum {α : Type} (p : α → Bool) (l : List α) : (l.filter p).length = (l.map fun x => (p x).toNat).sum := by
  induction l with
  | nil => rfl
  | cons x l ih => cases h : p x <;> simp [h, ih, Nat.add_comm]

theorem toNat_popCount (a : Word) : (popCount a).toNat = ((List.range 32).map fun i => (a.getLsbD i).toNat).sum := by
  have hle := List.length_filter_le (fun i => a.getLsbD i) (List.range 32)
  rw [List.length_range] at hle
  rw [popCount, BitVec.toNat_ofNat, Nat.mod_eq_of_lt (by omega), length_filter_eq_sum]

/-! ## Bytes in reverse (R309) -/

/-- A number that bytes spell has their bits, the first byte's lowest. -/
theorem testBit_leNat (l : List Byte) (k : Nat) {i : Nat} (hi : i < 8) :
    (leNat l).testBit (8 * k + i) = (l.getD k 0).getLsbD i := by
  induction l generalizing k with
  | nil => simp [leNat]
  | cons b l ih =>
    rw [leNat, Nat.add_comm, show 256 = 2 ^ 8 from rfl, Nat.testBit_two_pow_mul_add _ b.isLt]
    cases k with
    | zero => rw [if_pos (by omega), Nat.mul_zero, Nat.zero_add]; rfl
    | succ k => rw [if_neg (by omega), show 8 * (k + 1) + i - 8 = 8 * k + i by omega, ih]; rfl

theorem getLsbD_leBytes (n v : Nat) {k i : Nat} (hk : k < n) (hi : i < 8) :
    ((leBytes n v).getD k 0).getLsbD i = v.testBit (8 * k + i) := by
  rw [← testBit_leNat _ _ hi, leNat_leBytes, show 256 = 2 ^ 8 from rfl, ← Nat.pow_mul, Nat.testBit_mod_two_pow,
    decide_eq_true (by omega), Bool.true_and]

/-- Byte k is byte 3 − k of the operand. -/
theorem getLsbD_byteSwap (a : Word) {k i : Nat} (hk : k < 4) (hi : i < 8) :
    (byteSwap a).getLsbD (8 * k + i) = a.getLsbD (8 * (3 - k) + i) := by
  have hlen := length_leBytes 4 a.toNat
  rw [byteSwap, BitVec.getLsbD_ofNat, decide_eq_true (by omega), Bool.true_and, testBit_leNat _ _ hi,
    List.getD_eq_getElem?_getD, List.getElem?_reverse (by omega), hlen, ← List.getD_eq_getElem?_getD,
    getLsbD_leBytes _ _ (by omega) hi]
  rfl

end Sys2Proof.Machine
end

section
/-! OBLIGATIONS. The ALU group, the immediates and the shifts (O5). -/

namespace Sys2Proof.Machine

open Sys2Proof Sys2Proof.Stated

/-! ## The rows of the opcode map -/

section

variable {s : State} {u : Nat}

theorem exec_aluRows {f : RegF} : ∀ r ∈ aluRows, exec (r.1 u f) s = .next (s.alu u f r.2) := by
  simp only [aluRows, List.forall_mem_cons, ← flag_slt, ← flag_ult, ← mul_eq_ofInt, ← divU_eq, ← remU_eq]
  exact ⟨rfl, rfl, rfl, rfl, rfl, rfl, rfl, rfl, rfl, rfl, rfl, rfl, rfl, rfl, rfl, rfl, rfl, rfl, rfl, List.forall_mem_nil _⟩

theorem exec_aluRows1 {f : RegF} : ∀ r ∈ aluRows1, exec (r.1 u f) s = .next (s.alu1 u f r.2) := by
  simp only [aluRows1, List.forall_mem_cons]
  exact ⟨rfl, rfl, rfl, rfl, List.forall_mem_nil _⟩

theorem exec_aluRowsI {f : ImmF} : ∀ r ∈ aluRowsI, exec (r.1 u f) s =
    .next (s.pure u {} fun a => a.setReg f.rd (r.2 (a.reg f.ra) f.imm)) := by
  simp only [aluRowsI, List.forall_mem_cons, ← toInt_sxImm f, ← flag_slt, ← flag_ult]
  exact ⟨rfl, rfl, rfl, rfl, rfl, rfl, List.forall_mem_nil _⟩

theorem exec_shiftImmRows {f : ShiF} : ∀ r ∈ shiftImmRows, exec (r.1 u f) s = .next (s.shiftI u f r.2) := by
  simp only [shiftImmRows, List.forall_mem_cons]
  exact ⟨rfl, rfl, rfl, List.forall_mem_nil _⟩

theorem exec_lui {f : ImmF} : exec (.lui u f) s =
    .next (s.pure u { reserved := f.ra == 0 } fun a => a.setReg f.rd (f.imm ++ 0#16)) := by
  simp only [← zxImm_shiftLeft]
  rfl

end

/-- Settles O5: each instruction is an update of rd that retires (R290, R291, R306 to R308), and the counts and the bytes in
reverse are read off the bits of their operand (R309). -/
theorem integerArithmetic : Obligations.IntegerArithmetic := by
  unfold Obligations.IntegerArithmetic
  refine ⟨fun s u f hf hc => ⟨fun r hr => ?_, fun hb r hr => ?_⟩,
    ⟨rfl, rfl, fun a => leadZeros_spec, fun a => trailZeros_spec, toNat_popCount, fun a k i => getLsbD_byteSwap a⟩,
    fun s u hf => ⟨fun f => ⟨fun r hr => ?_, fun ha => ?_⟩, fun f hrsv r hr => ?_⟩⟩
  · exact ends_pure hf (exec_aluRows r hr) (by simp [Legal.ok, hc]) fun a => setReg_pc a _ _
  · exact ends_pure hf (exec_aluRows1 r hr) (by simp [Legal.ok, hc, hb]) fun a => setReg_pc a _ _
  · exact ends_pure hf (exec_aluRowsI r hr) (Legal.ok_default _) fun a => setReg_pc a _ _
  · exact ends_pure hf exec_lui (by simp [Legal.ok, ha]) fun a => setReg_pc a _ _
  · exact ends_pure hf (exec_shiftImmRows r hr) (by simp [Legal.ok, hrsv]) fun a => setReg_pc a _ _

end Sys2Proof.Machine
end

section
/-! SUPPORT. Packed and zoned decimals as nibbles and digits (R310 to R312). -/

namespace Sys2Proof.Machine

open Sys2Proof Sys2Proof.Stated

/-! ## Nibbles -/

theorem getD_nibbles (bs : List Byte) (i : Nat) : (nibbles bs).getD i 0 = nibbleAt bs i := by
  induction bs using nibbles.induct generalizing i with
  | case1 => simp [nibbles, nibbleAt]
  | case2 b bs ih =>
    match i with
    | 0 | 1 => rfl
    | i + 2 =>
      rw [nibbles, List.getD_cons_succ, List.getD_cons_succ, ih, nibbleAt, nibbleAt, show (i + 2) % 2 = i % 2 by omega,
        show (i + 2) / 2 = i / 2 + 1 by omega, List.getD_cons_succ]

theorem length_nibbles (bs : List Byte) : (nibbles bs).length = 2 * bs.length := by
  induction bs with
  | nil => rfl
  | cons b bs ih => rw [nibbles, List.length_cons, List.length_cons, ih, List.length_cons]; omega

theorem nibbles_eq_map (bs : List Byte) : nibbles bs = (List.range (2 * bs.length)).map (nibbleAt bs) := by
  refine List.ext_getElem (by simp [length_nibbles]) fun i hi _ => ?_
  rw [List.getElem_map, List.getElem_range, ← getD_nibbles, List.getD_eq_getElem?_getD, List.getElem?_eq_getElem hi,
    Option.getD_some]

/-- Nibbles joined to bytes are read back. -/
theorem nibbles_joinNibbles (l : List Nat) (hlen : l.length % 2 = 0) (hl : ∀ x ∈ l, x < 16) : nibbles (joinNibbles l) = l := by
  induction l using joinNibbles.induct with
  | case1 a b rest ih =>
    have ha : a < 16 := hl a (by simp)
    have hb : b < 16 := hl b (by simp)
    have hrest := ih (by simp at hlen; omega) fun x hx => hl x (by simp [hx])
    rw [joinNibbles, nibbles, hrest, BitVec.toNat_ofNat, show (16 * a + b) % 2 ^ 8 / 16 = a by omega,
      show (16 * a + b) % 2 ^ 8 % 16 = b by omega]
  | case2 a => simp at hlen
  | case3 => rfl

/-! ## Digits -/

theorem digitsVal_append_digit (l : List Nat) (d : Nat) : digitsVal (l ++ [d]) = 10 * digitsVal l + d := by
  rw [digitsVal, List.foldl_append]
  rfl

@[simp] theorem length_lowDigits (n v : Nat) : (lowDigits n v).length = n := by
  induction n generalizing v with
  | zero => rfl
  | succ n ih => rw [lowDigits, List.length_append, ih]; rfl

theorem lowDigits_le (n v : Nat) : ∀ d ∈ lowDigits n v, d ≤ 9 := by
  induction n generalizing v with
  | zero => simp [lowDigits]
  | succ n ih =>
    simp only [lowDigits, List.forall_mem_append, List.forall_mem_singleton]
    exact ⟨ih _, by omega⟩

theorem digitsVal_lowDigits (n v : Nat) : digitsVal (lowDigits n v) = v % 10 ^ n := by
  induction n generalizing v with
  | zero => rw [pow_zero, Nat.mod_one]; rfl
  | succ n ih =>
    rw [lowDigits, digitsVal_append_digit, ih, Nat.pow_succ' (n := n), Nat.mod_mul]
    omega

/-! ## Packed operands -/

/-- The number of pad nibbles before the digits of a packed operand (R310). -/
def padLen (n : Nat) : Nat := if n % 2 = 0 then 1 else 0

theorem two_mul_packedLen (n : Nat) : 2 * packedLen n = padLen n + n + 1 := by
  unfold packedLen padLen
  split <;> omega

/-- A packed operand is read from its pad, its digits and its sign (R311, R312). -/
theorem readPacked_of_nibbles {n : Nat} {bs : List Byte} {pad ds : List Nat} {sign : Nat}
    (h : nibbles bs = pad ++ ds ++ [sign]) (hpad : pad.length = padLen n) :
    readPacked n bs = if pad.any (fun d => d != 0) || ds.any (fun d => d > 9) || sign < 10 then none
      else some ⟨sign = 11 ∨ sign = 13, digitsVal ds⟩ := by
  rw [readPacked, h, List.dropLast_concat, List.getLast?_concat, Option.getD_some]
  by_cases heven : n % 2 = 0
  · rw [padLen, if_pos heven] at hpad
    simp only [if_pos heven, List.take_left' hpad, List.drop_left' hpad]
  · rw [padLen, if_neg heven] at hpad
    obtain rfl := List.length_eq_zero_iff.1 hpad
    simp only [if_neg heven, List.nil_append]

/-- The digits of a packed operand. -/
def packedDigits (n : Nat) (bs : List Byte) : List Nat := (List.range n).map fun i => nibbleAt bs (padLen n + i)

/-- The nibbles of a packed operand: pad, digits, sign (R310). -/
theorem nibbles_packed {n : Nat} {bs : List Byte} (h : bs.length = packedLen n) :
    nibbles bs = (List.range (padLen n)).map (nibbleAt bs) ++ packedDigits n bs ++ [nibbleAt bs (2 * packedLen n - 1)] := by
  rw [nibbles_eq_map, h, two_mul_packedLen, List.range_succ, List.map_append, List.range_add, List.map_append, List.map_map]
  rfl

/-- The pad of a packed operand is a nibble of zero, where there is one. -/
theorem pad_nonzero_iff (n : Nat) (bs : List Byte) :
    ((List.range (padLen n)).map (nibbleAt bs)).any (fun d => d != 0) = true ↔ n % 2 = 0 ∧ nibbleAt bs 0 ≠ 0 := by
  unfold padLen
  split_ifs with heven
  · simp [heven]
  · simp [heven]

theorem digit_above_iff (n : Nat) (bs : List Byte) :
    (packedDigits n bs).any (fun d => d > 9) = true ↔ ∃ i, i < n ∧ 9 < nibbleAt bs (padLen n + i) := by
  simp [packedDigits]

/-! ## Packed and zoned results -/

/-- The sign nibble of a result (R311). -/
def signNibble (neg : Bool) : Nat := if neg then 13 else 12

theorem writePacked_eq_packSigned (n : Nat) (d : Dec) : writePacked n d = packSigned n d.writeNeg d.mag := rfl

theorem nibbles_packSigned (n : Nat) (neg : Bool) (mag : Nat) :
    nibbles (packSigned n neg mag) = (if n % 2 = 0 then [0] else []) ++ lowDigits n mag ++ [signNibble neg] := by
  refine nibbles_joinNibbles _ ?_ ?_
  · simp only [List.length_append, length_lowDigits, List.length_singleton]
    split_ifs with heven
    · rw [List.length_singleton]; omega
    · rw [List.length_nil]; omega
  · simp only [List.forall_mem_append, List.forall_mem_singleton]
    refine ⟨⟨?_, fun x hx => (lowDigits_le n mag x hx).trans_lt (by decide)⟩, ?_⟩
    · split_ifs <;> simp
    · cases neg <;> decide

theorem length_packSigned (n : Nat) (neg : Bool) (mag : Nat) : (packSigned n neg mag).length = packedLen n := by
  have h := length_nibbles (packSigned n neg mag)
  have hpad : (if n % 2 = 0 then [0] else []).length = padLen n := by unfold padLen; split_ifs <;> rfl
  have := two_mul_packedLen n
  rw [nibbles_packSigned, List.length_append, List.length_append, length_lowDigits, List.length_singleton, hpad] at h
  omega

theorem length_writePacked (n : Nat) (d : Dec) : (writePacked n d).length = packedLen n := length_packSigned n _ _

/-- A result is a valid operand: its low digits with the sign that was written (R311, R314). -/
theorem readPacked_writePacked (n : Nat) (d : Dec) :
    readPacked n (writePacked n d) = some ⟨d.writeNeg, d.mag % 10 ^ n⟩ := by
  have hpad : (if n % 2 = 0 then [0] else []).length = padLen n := by unfold padLen; split_ifs <;> rfl
  have hzero : (if n % 2 = 0 then [0] else []).any (fun x => x != 0) = false := by split_ifs <;> rfl
  have hdigits : (lowDigits n d.mag).any (fun x => decide (x > 9)) = false := by
    simpa using lowDigits_le n d.mag
  rw [writePacked_eq_packSigned, readPacked_of_nibbles (nibbles_packSigned n _ _) hpad, hzero, hdigits, digitsVal_lowDigits]
  cases d.writeNeg <;> rfl

theorem nibbleAt_sign_writePacked (n : Nat) (d : Dec) :
    nibbleAt (writePacked n d) (2 * packedLen n - 1) = signNibble d.writeNeg := by
  rw [← getD_nibbles, ← length_writePacked n d, ← length_nibbles, writePacked_eq_packSigned, nibbles_packSigned,
    List.length_append, List.length_singleton, Nat.add_sub_cancel, List.getD_eq_getElem?_getD, List.getElem?_concat_length,
    Option.getD_some]

theorem length_writeZoned (n : Nat) (d : Dec) : (writeZoned n d).length = n := by
  have hlen : ((lowDigits n d.mag).map fun x => BitVec.ofNat 8 (0x30 + x)).length = n := by
    rw [List.length_map, length_lowDigits]
  rw [writeZoned]
  generalize (lowDigits n d.mag).map (fun x => BitVec.ofNat 8 (0x30 + x)) = ds at hlen ⊢
  cases hlast : ds.getLast? with
  | none => rw [← hlen, List.getLast?_eq_none_iff.1 hlast]
  | some z =>
    have hne : ds ≠ [] := fun h => by simp [h] at hlast
    have hpos := List.length_pos_iff.2 hne
    simp only [List.length_append, List.length_dropLast, List.length_singleton]
    omega

theorem writeNeg_ofInt (v : Int) : (Dec.ofInt v).writeNeg = decide (v < 0) := by
  rw [Bool.eq_iff_iff]
  simp only [Dec.writeNeg, Dec.ofInt, Bool.and_eq_true, decide_eq_true_eq, bne_iff_ne]
  omega

end Sys2Proof.Machine
end

section
/-! OBLIGATIONS. Signs and invalid operands of decimals (O22). -/

namespace Sys2Proof.Machine

open Sys2Proof Sys2Proof.Stated

/-- The invalid packed operands (R312). -/
theorem readPacked_eq_none_iff {n : Nat} {bs : List Byte} (h : bs.length = packedLen n) : readPacked n bs = none ↔
    (∃ i, i < n ∧ 9 < nibbleAt bs (padLen n + i)) ∨ nibbleAt bs (2 * packedLen n - 1) < 10 ∨ (n % 2 = 0 ∧ nibbleAt bs 0 ≠ 0) := by
  rw [readPacked_of_nibbles (nibbles_packed h) (by simp), ite_eq_left_iff, ← digit_above_iff, ← pad_nonzero_iff]
  simp only [reduceCtorEq, imp_false, not_not, Bool.or_eq_true, decide_eq_true_eq]
  tauto

/-- The sign of a valid packed operand (R311). -/
theorem neg_of_readPacked {n : Nat} {bs : List Byte} {d : Dec} (h : bs.length = packedLen n) (hd : readPacked n bs = some d) :
    d.neg = true ↔ nibbleAt bs (2 * packedLen n - 1) = 11 ∨ nibbleAt bs (2 * packedLen n - 1) = 13 := by
  rw [readPacked_of_nibbles (nibbles_packed h) (by simp)] at hd
  split_ifs at hd
  cases hd
  exact decide_eq_true_iff

theorem all_eq_false_iff_getD (l : List Byte) (p : Byte → Bool) :
    l.all p = false ↔ ∃ i, i < l.length ∧ p (l.getD i 0) = false := by
  rw [List.all_eq_false]
  refine ⟨fun ⟨x, hx, hp⟩ => ?_, fun ⟨i, hi, hp⟩ => ⟨l[i], l.getElem_mem hi, ?_⟩⟩
  · obtain ⟨i, hi, rfl⟩ := List.getElem_of_mem hx
    exact ⟨i, hi, by rw [List.getD_eq_getElem _ _ hi, Bool.eq_false_of_not_eq_true hp]⟩
  · rw [← List.getD_eq_getElem _ 0 hi, hp]
    exact Bool.false_ne_true

theorem getD_dropLast {l : List Byte} {i : Nat} (hi : i < l.dropLast.length) : l.dropLast.getD i 0 = l.getD i 0 := by
  rw [List.getD_eq_getElem _ _ hi, List.getElem_dropLast, List.getD_eq_getElem]

/-- The invalid zoned operands (R312). -/
theorem readZoned_eq_none_iff (bs : List Byte) : readZoned bs = none ↔
    (∃ i, i + 1 < bs.length ∧ (bs.getD i 0).toNat / 16 ≠ 3) ∨
    ((bs.getD (bs.length - 1) 0).toNat / 16 ≠ 3 ∧ (bs.getD (bs.length - 1) 0).toNat / 16 ≠ 7) ∨
    ∃ i, i < bs.length ∧ 9 < (bs.getD i 0).toNat % 16 := by
  have hlast : bs.getLast?.getD 0 = bs.getD (bs.length - 1) 0 := by
    rw [List.getLast?_eq_getElem?, List.getD_eq_getElem?_getD]
  have hinit (p : Byte → Bool) : bs.dropLast.all p = false ↔ ∃ i, i + 1 < bs.length ∧ p (bs.getD i 0) = false := by
    rw [all_eq_false_iff_getD]
    refine exists_congr fun i => ⟨fun ⟨hi, hp⟩ => ?_, fun ⟨hi, hp⟩ => ?_⟩
    · exact ⟨by rw [List.length_dropLast] at hi; omega, by rwa [getD_dropLast hi] at hp⟩
    · have hi' : i < bs.dropLast.length := by rw [List.length_dropLast]; omega
      exact ⟨hi', by rwa [getD_dropLast hi']⟩
  rw [readZoned, hlast]
  simp only [ite_eq_right_iff, reduceCtorEq, imp_false, Bool.not_eq_true, Bool.and_eq_false_iff, all_eq_false_iff_getD bs,
    hinit, or_assoc, Bool.or_eq_false_iff, beq_eq_false_iff_ne, decide_eq_false_iff_not, Nat.not_le, ne_eq]

/-- Settles O22: an operand is its pad, its digits and its sign, each a range of nibbles; a result's sign nibble is the last
that is written. -/
theorem packedSigns : Obligations.PackedSigns := by
  unfold Obligations.PackedSigns
  refine ⟨fun n bs _ _ h => ⟨readPacked_eq_none_iff h, fun d => neg_of_readPacked h⟩, fun bs _ => readZoned_eq_none_iff bs,
    fun n v _ _ => ?_, by decide, by decide⟩
  rw [nibbleAt_sign_writePacked, signNibble, writeNeg_ofInt]
  simp only [decide_eq_true_eq]

end Sys2Proof.Machine
end

section
/-! SUPPORT. What the accesses of a unit go by, and what reading operands leaves of it: sources that may be read at once,
one after another (R285 to R287, R386, R391, R419). -/

namespace Sys2Proof.Machine

open Sys2Proof Sys2Proof.Stated

/-! ## What a unit notes of a load -/

/-- A state that differs in what units have noted of their loads alone (R64, R391). -/
structure Noted (s t : State) : Prop where
  rest : t = { s with units := t.units }
  unit : ∀ v, ∃ ids e, t.unit v = { s.unit v with reads := ids, readEpoch := e }

/-- A state in which the accesses of units go by the same: it may differ in what units have noted, in the fills that came
and in the requests of Weft. -/
structure SameSight (s t : State) : Prop where
  rest    : t = { s with units := t.units, clusters := t.clusters, weft := t.weft }
  unit    : ∀ v, ∃ ids e, t.unit v = { s.unit v with reads := ids, readEpoch := e }
  cluster : ∀ c, ∃ l, t.cluster c = { s.cluster c with fills := l }

theorem Noted.refl (s : State) : Noted s s := ⟨rfl, fun _ => ⟨_, _, rfl⟩⟩

theorem Noted.trans {s t r : State} (h : Noted s t) (g : Noted t r) : Noted s r where
  rest := by rw [g.rest, h.rest]
  unit v := by
    obtain ⟨_, _, ht⟩ := h.unit v
    obtain ⟨ids, e, hr⟩ := g.unit v
    exact ⟨ids, e, by rw [hr, ht]⟩

theorem noted_mapUnit (s : State) (u : Nat) {f : CoreUnit → CoreUnit}
    (h : ∀ x, ∃ ids e, f x = { x with reads := ids, readEpoch := e }) : Noted s (s.mapUnit u f) where
  rest := rfl
  unit v := by
    rw [unit_mapUnit]
    split_ifs with hv
    · exact hv ▸ h _
    · exact ⟨_, _, rfl⟩

theorem Noted.foldl {α : Type} {f : State → α → State} (h : ∀ s x, Noted s (f s x)) (s : State) (l : List α) :
    Noted s (l.foldl f s) := by
  induction l generalizing s with
  | nil => exact .refl s
  | cons x l ih => exact (h s x).trans (ih _)

theorem noted_noteReads (s : State) (u pa n : Nat) : Noted s (s.noteReads u pa n) :=
  noted_mapUnit s u fun _ => ⟨_, _, rfl⟩

theorem noted_noteEpochs (s : State) (u pa n : Nat) : Noted s (s.noteEpochs u pa n) := by
  unfold State.noteEpochs
  split_ifs
  · exact .refl s
  · refine .foldl (fun s l => ?_) s _
    split
    · exact noted_mapUnit s u fun _ => ⟨_, _, rfl⟩
    · exact .refl s

theorem Noted.sameSight {s t : State} (h : Noted s t) : SameSight s t where
  rest := by rw [h.rest]
  unit := h.unit
  cluster c := by rw [h.rest]; exact ⟨_, rfl⟩

theorem SameSight.useUp {s t : State} (h : SameSight s t) (u : Nat) : SameSight s (t.useUp u) where
  rest := by rw [h.rest]; rfl
  unit := h.unit
  cluster c := by
    have hmap : (t.useUp u).cluster c = (t.mapCluster (clusterOf (pairOf u)) fun x =>
      { x with fills := x.fills.filter fun f => !(f.served && f.unit == u) }).cluster c := rfl
    obtain ⟨l, hl⟩ := h.cluster c
    rw [hmap]
    obtain rfl | hc := eq_or_ne c (clusterOf (pairOf u))
    · exact ⟨_, by rw [cluster_mapCluster_same, hl]⟩
    · exact ⟨l, by rw [cluster_mapCluster_other _ _ hc, hl]⟩

/-! ## What stays -/

section

variable {s t : State} (h : SameSight s t)

include h

theorem SameSight.arch (v : Nat) : archOf t v = archOf s v := by
  obtain ⟨_, _, hv⟩ := h.unit v
  rw [archOf, hv]

theorem SameSight.stores (v : Nat) : (t.unit v).stores = (s.unit v).stores := by
  obtain ⟨_, _, hv⟩ := h.unit v
  rw [hv]

theorem SameSight.storeKind (p : Place) : t.storeKind p = s.storeKind p := by rw [h.rest]; rfl

theorem SameSight.byte (a : Nat) : t.byte a = s.byte a := by rw [h.rest]; rfl

theorem SameSight.xlat (u space ea n : Nat) (acc : Access) : t.xlat u space ea n acc = s.xlat u space ea n acc := by
  obtain ⟨_, _, hu⟩ := h.unit u
  simp only [State.xlat, State.xlatPair, State.pairArea, hu]
  rw [h.rest]
  rfl

theorem SameSight.seenByte (u a : Nat) : t.seenByte u a = s.seenByte u a := by
  obtain ⟨_, hc⟩ := h.cluster (clusterOf (pairOf u))
  have hp (p : Nat) : t.pair p = s.pair p := by rw [h.rest]; rfl
  simp only [State.seenByte, h.stores, hp, hc, h.byte]

theorem SameSight.seenBytes (u a n : Nat) : t.seenBytes u a n = s.seenBytes u a n := by
  induction n generalizing a with
  | zero => rfl
  | succ n ih => rw [State.seenBytes, h.seenByte, ih, State.seenBytes]

end

theorem ite_error_eq_ok {c : Prop} [Decidable c] {e : Eff} {x : Except Eff Place} {p : Place} :
    (if c then .error e else x) = .ok p ↔ ¬c ∧ x = .ok p := by
  split_ifs with h <;> simp [h]

/-- An access goes to a place where its address translates to it and it passes the checks that follow. -/
theorem goesTo_iff {s : State} {u sp ea n : Nat} {acc : Access} {k : AccKind} {p : Place} :
    goesTo s u sp ea n acc k p ↔ s.xlat u ((archOf s u).space sp) ea n acc = .ok p ∧
      ¬(p.inControl ∧ !(k = .plain && n == 4 && ea % 4 == 0)) ∧ ¬(k = .atomic ∧ ea % 4 ≠ 0) ∧
      ¬((s.pair (pairOf u)).dataHits (if acc = .write then 2 else 1) ((archOf s u).space sp) ea n ≠ 0 ∧ k ≠ .line) := by
  simp only [goesTo, State.place]
  cases s.xlat u ((archOf s u).space sp) ea n acc with
  | error e => simp only [reduceCtorEq, false_and]
  | ok q =>
    simp only [ite_error_eq_ok]
    constructor
    · rintro ⟨hcontrol, halign, hbreak, hq⟩
      cases hq
      exact ⟨rfl, hcontrol, halign, hbreak⟩
    · rintro ⟨hq, hcontrol, halign, hbreak⟩
      cases hq
      exact ⟨hcontrol, halign, hbreak, rfl⟩

theorem SameSight.goesTo {s t : State} (h : SameSight s t) {u sp ea n : Nat} {acc : Access} {k : AccKind} {p : Place}
    (hgo : goesTo s u sp ea n acc k p) : goesTo t u sp ea n acc k p := by
  have hp : t.pair (pairOf u) = s.pair (pairOf u) := by rw [h.rest]; rfl
  rw [goesTo_iff, h.xlat, h.arch, hp]
  exact goesTo_iff.1 hgo

theorem SameSight.writes {s t : State} (h : SameSight s t) {u sp ea n : Nat} {p : Place} (hw : writes s u sp ea n p) :
    writes t u sp ea n p := by
  obtain ⟨hgo, hj, hk⟩ := hw
  exact ⟨h.goesTo hgo, hj, by rwa [h.storeKind]⟩

/-! ## Sources -/

/-- A source that may be read at once gives its bytes as the unit sees them. -/
theorem loadBytes_of_readable {s : State} {u sp ea n : Nat} {p : Place} (h : readable s u n p = true) :
    s.loadBytes u sp ea n p false = .got ((s.noteEpochs u p.pa n).noteReads u p.pa n) (s.seenBytes u p.pa n) := by
  simp only [readable, Bool.and_eq_true, Bool.not_eq_true', decide_eq_true_eq] at h
  obtain ⟨⟨⟨⟨hregion, hdrained⟩, hok⟩, hlines⟩, hpoison⟩ := h
  have hwait : (!p.cacheable && (!s.drained u || s.creditOut (clusterOf (pairOf u)) p.pa)) = false := by
    cases hc : p.cacheable
    · simpa [hc] using hdrained
    · rfl
  have hmissing : (if p.cacheable = true ∧ p.pairArea = false then s.missing u p.pa n else none) = none := by
    split_ifs with hc
    · simpa [hc.1, hc.2] using hlines
    · rfl
  rw [State.loadBytes]
  cases hr : s.region p.pa with
  | dram => simp [State.loadPlace, hr, hwait, hok, hmissing, hpoison]
  | scratch c off =>
    have hstrong : touchesStrongroom off n = false := by simpa [hr] using hregion
    simp [State.loadPlace, hr, hwait, hok, hmissing, hpoison, hstrong]
  | remote => simp [hr] at hregion
  | control off => simp [hr] at hregion
  | nowhere => simp [hr] at hregion

section

variable {s t : State} (hctl : t.ctl = s.ctl)

include hctl

theorem reg_of_ctl (off : Nat) : t.reg off = s.reg off := by rw [State.reg, hctl, State.reg]

theorem bit_of_ctl (off i : Nat) : t.bit off i = s.bit off i := by rw [State.bit, reg_of_ctl hctl, State.bit]

theorem region_of_ctl (pa : Nat) : t.region pa = s.region pa := by
  have hsize : t.dramSize = s.dramSize := by simp only [State.dramSize, bit_of_ctl hctl, fld_of_ctl hctl]
  simp only [State.region, hsize]

/-- The answer to an access hangs on the registers and the routes alone (R438). -/
theorem answerOf_of_ctl (hwarp : t.warp = s.warp) (init pa : Nat) : t.answerOf init pa = s.answerOf init pa := by
  have hroute (gen r dest : Nat) : t.routeEntry gen r dest = s.routeEntry gen r dest := by
    rw [State.routeEntry, hwarp, State.routeEntry]
  have hreach (gen dest fuel r : Nat) : t.reaches gen dest fuel r = s.reaches gen dest fuel r := by
    induction fuel generalizing r with
    | zero => simp only [State.reaches]
    | succ fuel ih => simp only [State.reaches, hroute, bit_of_ctl hctl, ih]
  have hroutable (target : Nat) : t.unroutable init target = s.unroutable init target := by
    simp only [State.unroutable, reg_of_ctl hctl, fld_of_ctl hctl, hreach]
  have hoff (d : Nat) : t.domainOff d = s.domainOff d := by simp only [State.domainOff, bit_of_ctl hctl]
  have hbank (c k : Nat) : t.bankAsleep c k = s.bankAsleep c k := by simp only [State.bankAsleep, bit_of_ctl hctl]
  simp only [State.answerOf, region_of_ctl hctl, bit_of_ctl hctl, hroutable, hoff, hbank]

end

theorem Noted.readable {s t : State} (h : Noted s t) {u n : Nat} {p : Place} (hr : readable s u n p = true) :
    readable t u n p = true := by
  have hctl : t.ctl = s.ctl := by rw [h.rest]
  have hwarp : t.warp = s.warp := by rw [h.rest]
  have hpair (p : Nat) : t.pair p = s.pair p := by rw [h.rest]; rfl
  have hcluster (c : Nat) : t.cluster c = s.cluster c := by rw [h.rest]; rfl
  have hdrained : t.drained u = s.drained u := by simp only [State.drained, h.sameSight.stores, hpair, hcluster]
  have hcredit (c a : Nat) : t.creditOut c a = s.creditOut c a := by
    simp only [State.creditOut, State.creditLeft, region_of_ctl hctl, hwarp]
  have hstatus : t.accessStatus u p.pa n = s.accessStatus u p.pa n := by
    simp only [State.accessStatus, answerOf_of_ctl hctl hwarp]
  have hmissing : t.missing u p.pa n = s.missing u p.pa n := by
    simp only [State.missing, State.line?, State.servedFill, hcluster]
  have hpoison : t.poisonIn p.pa n = s.poisonIn p.pa n := by rw [h.rest]; rfl
  rw [← hr]
  simp only [Stated.readable, region_of_ctl hctl, hdrained, hcredit, hstatus, hmissing, hpoison]

/-- An area is a source that may be read at once, at a place. -/
def Area.readsAt (s : State) (u sp : Nat) (a : Area) (p : Place) : Prop := reads s u sp a.ea a.n p

/-- The bytes of an area as a unit sees them. -/
def Area.seenAt (s : State) (u : Nat) (a : Area) (p : Place) : List Byte := s.seenBytes u p.pa a.n

/-- Areas that may be read at once give their bytes one after another. -/
theorem areaBytes_reads {s : State} {u sp : Nat} {l : List Area} {ps : List Place} (h : List.Forall₂ (Area.readsAt s u sp) l ps)
    {t : State} (ht : Noted s t) : ∃ r, Noted s r ∧ t.areaBytes u sp l = .ok (r, List.zipWith (Area.seenAt s u) l ps) := by
  induction h generalizing t with
  | nil => exact ⟨t, ht, rfl⟩
  | @cons a p l ps hap _ ih =>
    obtain ⟨hgo, hread⟩ := hap
    have hplace : t.place u sp a.ea a.n .read .other = .ok p := ht.sameSight.goesTo hgo
    obtain ⟨r, hr, hrest⟩ := ih (ht.trans ((noted_noteEpochs t u p.pa a.n).trans (noted_noteReads _ u p.pa a.n)))
    refine ⟨r, hr, ?_⟩
    simp only [State.areaBytes, hplace, loadBytes_of_readable (ht.readable hread), hrest, ht.sameSight.seenBytes,
      List.zipWith_cons_cons, Area.seenAt]

/-- A unit of operation goes on with the bytes of its sources. -/
theorem overAreas_reads {s : State} {u sp : Nat} {l : List Area} {ps : List Place}
    (h : List.Forall₂ (Area.readsAt s u sp) l ps) :
    ∃ t, SameSight s t ∧ ∀ f, s.overAreas u sp l f = f t (List.zipWith (Area.seenAt s u) l ps) := by
  obtain ⟨r, hr, hbytes⟩ := areaBytes_reads h (.refl s)
  exact ⟨_, hr.sameSight.useUp u, fun f => by rw [State.overAreas, hbytes]⟩

end Sys2Proof.Machine
end

section
/-! SUPPORT. Stores of several ranges: the lines of a string, what enters the buffer, what the unit then sees (R125, R347,
R349, R355, R386, R389). -/

namespace Sys2Proof.Machine

open Sys2Proof Sys2Proof.Stated

/-! ## The lines of a string -/

/-- A piece of a string that lies at an address: where it stands, its bytes are the string's. -/
structure IsPiece (pa : Nat) (data : List Byte) (c : Nat × List Byte) : Prop where
  start : pa ≤ c.1
  stop  : c.1 + c.2.length ≤ pa + data.length
  bytes : ∀ a, c.1 ≤ a → a < c.1 + c.2.length → c.2.getD (a - c.1) 0 = data.getD (a - pa) 0

theorem mem_linesOf {pa n l : Nat} : l ∈ linesOf pa n ↔ l % 64 = 0 ∧ l < pa + n ∧ pa < l + 64 ∧ n ≠ 0 := by
  unfold linesOf
  split_ifs with hn
  · simp [hn]
  simp only [List.mem_map, List.mem_range]
  refine ⟨fun ⟨i, hi, hl⟩ => by omega, fun ⟨hl, hlo, hhi, _⟩ => ⟨l / 64 - pa / 64, by omega, by omega⟩⟩

theorem length_linesOf_le {pa n : Nat} (hn : n ≤ 64) : (linesOf pa n).length ≤ 2 := by
  unfold linesOf
  split_ifs
  · simp
  · rw [List.length_map, List.length_range]; omega

theorem length_lineCuts_le {pa : Nat} {data : List Byte} (hn : data.length ≤ 64) : (lineCuts pa data).length ≤ 2 := by
  rw [lineCuts, List.length_map]
  exact length_linesOf_le hn

theorem isPiece_of_mem_lineCuts {pa : Nat} {data : List Byte} : ∀ c ∈ lineCuts pa data, IsPiece pa data c := by
  intro c hc
  obtain ⟨l, hl, rfl⟩ := List.mem_map.1 hc
  obtain ⟨-, hlo, hhi, -⟩ := mem_linesOf.1 hl
  refine ⟨le_max_right l pa, ?_, fun a ha hlt => ?_⟩
  · simp only [slice, List.length_take, List.length_drop]
    omega
  · simp only [slice, List.length_take, List.length_drop] at ha hlt ⊢
    rw [List.getD_eq_getElem?_getD, List.getElem?_take_of_lt (by omega), List.getElem?_drop,
      List.getD_eq_getElem?_getD, show max l pa - pa + (a - max l pa) = a - pa by omega]

/-- The cuts of a string cover it. -/
theorem exists_mem_lineCuts {pa a : Nat} {data : List Byte} (hlo : pa ≤ a) (hhi : a < pa + data.length) :
    ∃ c ∈ lineCuts pa data, c.1 ≤ a ∧ a < c.1 + c.2.length := by
  refine ⟨_, List.mem_map_of_mem ((mem_linesOf (l := a / 64 * 64)).2 ⟨by omega, by omega, by omega, by omega⟩), ?_, ?_⟩
  · simp only
    omega
  · simp only [slice, List.length_take, List.length_drop]
    omega

/-! ## The youngest byte of a buffer -/

/-- A buffered store gives a unit the byte at an address. -/
def BufStore.covers (b : BufStore) (a : Nat) : Prop := b.pa ≤ a ∧ a < b.pa + b.data.length ∧ b.kind ≠ .control

theorem pendingByte_concat_of_covers (l : List BufStore) {b : BufStore} {a : Nat} (h : b.covers a) :
    pendingByte (l ++ [b]) a = some (b.data.getD (a - b.pa) 0, b.id) := by
  rw [pendingByte, List.foldl_append]
  exact if_pos h

theorem pendingByte_concat_of_not_covers (l : List BufStore) {b : BufStore} {a : Nat} (h : ¬b.covers a) :
    pendingByte (l ++ [b]) a = pendingByte l a := by
  rw [pendingByte, List.foldl_append]
  exact if_neg h

/-- Stores that lie elsewhere change nothing at an address. -/
theorem pendingByte_append_out (l : List BufStore) {m : List BufStore} {a : Nat} (h : ∀ b ∈ m, ¬b.covers a) :
    pendingByte (l ++ m) a = pendingByte l a := by
  induction m using List.reverseRecOn with
  | nil => rw [List.append_nil]
  | append_singleton m b ih =>
    rw [← List.append_assoc, pendingByte_concat_of_not_covers _ (h b (by simp)), ih fun x hx => h x (by simp [hx])]

/-- Where some of the younger stores cover an address and all that do agree, their byte is the youngest. -/
theorem pendingByte_append_in (l : List BufStore) {m : List BufStore} {a : Nat} {x : Byte}
    (hall : ∀ b ∈ m, b.covers a → b.data.getD (a - b.pa) 0 = x) (hsome : ∃ b ∈ m, b.covers a) :
    ∃ id, pendingByte (l ++ m) a = some (x, id) := by
  induction m using List.reverseRecOn with
  | nil => simp at hsome
  | append_singleton m b ih =>
    rw [← List.append_assoc]
    by_cases hb : b.covers a
    · exact ⟨b.id, by rw [pendingByte_concat_of_covers _ hb, hall b (by simp) hb]⟩
    · rw [pendingByte_concat_of_not_covers _ hb]
      refine ih (fun c hc => hall c (by simp [hc])) ?_
      obtain ⟨c, hc, hca⟩ := hsome
      rcases List.mem_append.1 hc with hm | hm
      · exact ⟨c, hm, hca⟩
      · exact absurd (List.mem_singleton.1 hm ▸ hca) hb

/-! ## Stores that enter the buffer together -/

/-- Stores enter the buffer of a unit one after another. -/
def State.pushParts (s : State) (u : Nat) (l : List (Nat × List Byte × StoreKind)) : State :=
  l.foldl (fun s c => s.pushStore u c.1 c.2.1 c.2.2) s

/-- What a buffered store puts where. -/
def BufStore.part (b : BufStore) : Nat × List Byte × StoreKind := (b.pa, b.data, b.kind)

theorem stores_pushParts (s : State) (u : Nat) (l : List (Nat × List Byte × StoreKind)) :
    ∃ m : List BufStore, m.map BufStore.part = l ∧ ((s.pushParts u l).unit u).stores = (s.unit u).stores ++ m := by
  induction l generalizing s with
  | nil => exact ⟨[], rfl, (List.append_nil _).symm⟩
  | cons c l ih =>
    obtain ⟨m, hm, hst⟩ := ih (s.pushStore u c.1 c.2.1 c.2.2)
    rw [unit_pushStore_same, List.append_assoc] at hst
    exact ⟨_ :: m, by rw [List.map_cons, hm]; rfl, hst⟩

theorem arch_pushParts (s : State) (u : Nat) (l : List (Nat × List Byte × StoreKind)) (v : Nat) :
    archOf (s.pushParts u l) v = archOf s v :=
  foldl_keeps (fun t => archOf t v) (fun t (c : Nat × List Byte × StoreKind) => arch_pushStore t u v c.1 c.2.1 c.2.2) s l

theorem pair_pushParts (s : State) (u : Nat) (l : List (Nat × List Byte × StoreKind)) (p : Nat) :
    (s.pushParts u l).pair p = s.pair p :=
  foldl_keeps (fun t => t.pair p) (f := fun t (c : Nat × List Byte × StoreKind) => t.pushStore u c.1 c.2.1 c.2.2)
    (fun _ _ => rfl) s l

theorem cluster_pushParts (s : State) (u : Nat) (l : List (Nat × List Byte × StoreKind)) (c : Nat) :
    (s.pushParts u l).cluster c = s.cluster c :=
  foldl_keeps (fun t => t.cluster c) (f := fun t (c : Nat × List Byte × StoreKind) => t.pushStore u c.1 c.2.1 c.2.2)
    (fun _ _ => rfl) s l

theorem byte_pushParts (s : State) (u : Nat) (l : List (Nat × List Byte × StoreKind)) (a : Nat) :
    (s.pushParts u l).byte a = s.byte a :=
  foldl_keeps (fun t => t.byte a) (f := fun t (c : Nat × List Byte × StoreKind) => t.pushStore u c.1 c.2.1 c.2.2)
    (fun _ _ => rfl) s l

/-- The parts of a string at a place: one for each line. -/
def partsOf (pa : Nat) (data : List Byte) (k : StoreKind) : List (Nat × List Byte × StoreKind) :=
  (lineCuts pa data).map fun c => (c.1, c.2, k)

theorem length_partsOf_le (pa : Nat) {data : List Byte} (k : StoreKind) (h : data.length ≤ 64) :
    (partsOf pa data k).length ≤ 2 := by
  rw [partsOf, List.length_map]
  exact length_lineCuts_le h

/-- A unit sees a string that entered its buffer by lines, and all else as before. -/
theorem seenByte_pushParts (s : State) (u pa : Nat) (data : List Byte) {k : StoreKind} (hk : k ≠ .control) (a : Nat) :
    (s.pushParts u (partsOf pa data k)).seenByte u a =
      if pa ≤ a ∧ a < pa + data.length then data.getD (a - pa) 0 else s.seenByte u a := by
  obtain ⟨m, hm, hst⟩ := stores_pushParts s u (partsOf pa data k)
  have hpiece (b : BufStore) (hb : b ∈ m) : IsPiece pa data (b.pa, b.data) := by
    have hmem : b.part ∈ partsOf pa data k := hm ▸ List.mem_map_of_mem hb
    obtain ⟨c, hc, he⟩ := List.mem_map.1 hmem
    obtain ⟨hpa, hdata, -⟩ : c.1 = b.pa ∧ c.2 = b.data ∧ k = b.kind := by simpa [BufStore.part] using he
    rw [← hpa, ← hdata]
    exact isPiece_of_mem_lineCuts c hc
  simp only [State.seenByte, hst, pair_pushParts, cluster_pushParts, byte_pushParts]
  split_ifs with hin
  · have hsome : ∃ b ∈ m, b.covers a := by
      obtain ⟨c, hc, hca⟩ := exists_mem_lineCuts hin.1 hin.2
      have hmem : (c.1, c.2, k) ∈ m.map BufStore.part := hm ▸ List.mem_map_of_mem hc
      obtain ⟨b, hb, he⟩ := List.mem_map.1 hmem
      obtain ⟨hpa, hdata, hkind⟩ : b.pa = c.1 ∧ b.data = c.2 ∧ b.kind = k := by simpa [BufStore.part] using he
      exact ⟨b, hb, by rw [hpa]; exact hca.1, by rw [hpa, hdata]; exact hca.2, by rwa [hkind]⟩
    obtain ⟨id, hid⟩ := pendingByte_append_in (s.unit u).stores
      (fun b hb ⟨hlo, hhi, _⟩ => (hpiece b hb).bytes a hlo hhi) hsome
    rw [hid]
  · have hout (b : BufStore) (hb : b ∈ m) : ¬b.covers a := fun ⟨hlo, hhi, _⟩ =>
      hin ⟨(hpiece b hb).start.trans hlo, hhi.trans_le (hpiece b hb).stop⟩
    rw [pendingByte_append_out _ hout]

/-! ## Destinations -/

/-- A range that is stored to a place in memory that is not journaled. -/
def StoreRange.writesAt (s : State) (u : Nat) (r : StoreRange) (p : Place) : Prop :=
  writes s u r.sp r.ea r.data.length p ∧ 1 ≤ r.data.length ∧ r.data.length ≤ 64

/-- The strings of ranges at their places. -/
def placed (l : List StoreRange) (ps : List Place) : List (Place × List Byte) := List.zipWith (fun r p => (p, r.data)) l ps

/-- The parts that strings at their places put into the buffer. -/
def State.partsAt (s : State) (q : List (Place × List Byte)) : List (Nat × List Byte × StoreKind) :=
  q.flatMap fun x => partsOf x.1.pa x.2 (s.storeKind x.1)

section

variable {s : State} {u : Nat} {l : List StoreRange} {ps : List Place} (h : List.Forall₂ (StoreRange.writesAt s u) l ps)

include h

theorem rangePlaces_writes : s.rangePlaces u l = .ok (placed l ps) := by
  induction h with
  | nil => rfl
  | @cons r p l ps hrp _ ih =>
    obtain ⟨⟨hgo, hj, -⟩, -⟩ := hrp
    have hplace : s.place u r.sp r.ea r.data.length .write .other = .ok p := hgo
    have hnot : ¬(p.journaled = true ∧ (s.txnOf u).isNone = true) := by simp [hj]
    simp only [State.rangePlaces, hplace, if_neg hnot, ih, placed, List.zipWith_cons_cons]

theorem filter_journaled_placed : (placed l ps).filter (fun x => x.1.journaled) = [] := by
  induction h with
  | nil => rfl
  | cons hrp _ ih =>
    obtain ⟨⟨-, hj, -⟩, -⟩ := hrp
    rw [placed, List.zipWith_cons_cons, List.filter_cons_of_neg (by simp [hj]), ← placed, ih]

theorem filter_nonempty_ranges : l.filter (fun r => !r.data.isEmpty) = l := by
  induction h with
  | nil => rfl
  | cons hrp _ ih =>
    obtain ⟨-, hpos, -⟩ := hrp
    rw [List.filter_cons_of_pos (by simpa [← List.length_pos_iff] using Nat.lt_of_succ_le hpos), ih]

theorem length_partsAt_le : (s.partsAt (placed l ps)).length ≤ 2 * l.length := by
  induction h with
  | nil => exact le_rfl
  | @cons r p l ps hrp _ ih =>
    obtain ⟨-, -, hmax⟩ := hrp
    have hparts := length_partsOf_le p.pa (s.storeKind p) hmax
    have hcons : s.partsAt (placed (r :: l) (p :: ps)) =
        partsOf p.pa r.data (s.storeKind p) ++ s.partsAt (placed l ps) := rfl
    rw [hcons, List.length_append, List.length_cons]
    omega

/-- Ranges that pass their checks enter the buffer together, each line by itself, where there is room. -/
theorem storeRanges_writes (f : State → Eff) (hroom : (s.unit u).stores.length + 2 * l.length ≤ 32) :
    s.storeRanges u l f = f (s.pushParts u (s.partsAt (placed l ps))) := by
  have hparts := length_partsAt_le h
  have hfits : ¬bufferSize < (s.unit u).stores.length + (s.partsAt (placed l ps)).length := by rw [bufferSize]; omega
  simp only [State.storeRanges, filter_nonempty_ranges h, rangePlaces_writes h, filter_journaled_placed h, List.map_nil,
    List.isEmpty_nil, if_true]
  exact if_neg hfits

end

end Sys2Proof.Machine
end

section
/-! SUPPORT. How a unit of operation ends: what the unit and its neighbours see after it (R344, R386, R389). -/

namespace Sys2Proof.Machine

open Sys2Proof Sys2Proof.Stated

/-! ## No end of an instruction changes what a unit sees -/

/-- What a unit sees hangs on its buffer, its pair's stores, its cluster's and memory (R386, R389). -/
theorem seenByte_congr {s t : State} {u a : Nat} (hu : (t.unit u).stores = (s.unit u).stores)
    (hp : ∀ p, (t.pair p).stores = (s.pair p).stores) (hc : ∀ c, (t.cluster c).stores = (s.cluster c).stores)
    (hb : t.byte a = s.byte a) : t.seenByte u a = s.seenByte u a := by
  simp only [State.seenByte, hu, hp, hc, hb]

theorem pairStores_mapPair (s : State) (p q : Nat) {f : Pair → Pair} (h : ∀ x, (f x).stores = x.stores) :
    ((s.mapPair p f).pair q).stores = (s.pair q).stores := by
  obtain rfl | hq := eq_or_ne q p
  · rw [pair_mapPair_same, h]
  · rw [pair_mapPair_other _ _ hq]

theorem pairStores_compared (s : State) (p q : Nat) : ((s.compared p).pair q).stores = (s.pair q).stores := by
  have hfld (t : State) (off hi lo v : Nat) : (t.setFld off hi lo v).pair q = t.pair q := rfl
  unfold State.compared
  dsimp only
  split_ifs
  · rfl
  · exact pairStores_mapPair s p q fun _ => rfl
  · rw [hfld]
    exact pairStores_mapPair s p q fun _ => rfl

theorem pairStores_boundary (s : State) (u q : Nat) : ((s.boundary u).pair q).stores = (s.pair q).stores := by
  unfold State.boundary
  split_ifs
  · exact pairStores_mapPair _ _ q fun _ => rfl
  · rfl

theorem pairStores_retire (s : State) (u q : Nat) (pc : Word) : ((s.retire u pc).pair q).stores = (s.pair q).stores := by
  rw [State.retire, pairStores_boundary, State.counted, pairStores_compared]
  rfl

theorem seenByte_retire (s : State) (u v a : Nat) (pc : Word) : (s.retire u pc).seenByte v a = s.seenByte v a := by
  obtain ⟨-, -, hframe⟩ := retire_retires s u pc
  refine seenByte_congr (stores_retire s u v pc) (fun q => pairStores_retire s u q pc) (fun c => ?_) (byte_of_mem hframe.mem a)
  rw [State.cluster, hframe.clusters, State.cluster]

theorem arch_mapArch_same (s : State) (u : Nat) (g : Arch → Arch) : archOf (s.mapArch u g) u = g (archOf s u) :=
  mapArch_arch s u g

theorem arch_mapArch_other (s : State) {u v : Nat} (g : Arch → Arch) (h : v ≠ u) : archOf (s.mapArch u g) v = archOf s v :=
  (mapArch_only s u g).arch v h

theorem seenByte_mapArch (s : State) (u v a : Nat) (g : Arch → Arch) : (s.mapArch u g).seenByte v a = s.seenByte v a :=
  seenByte_congr (stores_mapUnit s u v fun _ => rfl) (fun _ => rfl) (fun _ => rfl) rfl

/-! ## The end of a unit of operation -/

section

variable {s y : State} {u : Nat}

/-- An instruction that ends at its own PC retires with the architected state that its effect has left. -/
theorem arch_conclude_done (hpc : (archOf y u).pc = (archOf s u).pc) :
    archOf (s.conclude u (.done y)) u = after (archOf y u) (pcNext s u) := by
  have h : (y.unit u).arch.pc + 4 = pcNext s u := by rw [pcNext, ← hpc]
  rw [State.conclude, h]
  exact (retire_retires y u _).arch

theorem arch_conclude_done_other {v : Nat} (hv : v ≠ u) : archOf (s.conclude u (.done y)) v = archOf y v :=
  (retire_retires y u _).frame.arch v hv

theorem byte_conclude_done (a : Nat) : (s.conclude u (.done y)).byte a = y.byte a :=
  byte_of_mem (retire_retires y u _).frame.mem a

theorem seenByte_conclude_done (v a : Nat) : (s.conclude u (.done y)).seenByte v a = y.seenByte v a :=
  seenByte_retire y u v a _

/-- A unit that is not the last keeps the PC and sets PCF (R344). -/
theorem arch_conclude_part : archOf (s.conclude u (.part y)) u = (archOf y u).setPcf true := unitEnd_arch y u

end

/-! ## The end of a decimal function -/

@[simp] theorem pc_setDcc (a : Arch) (v : Nat) : (a.setDcc v).pc = a.pc := rfl

section

variable {s t : State} {u : Nat} (h : SameSight s t)

include h

/-- A function that writes DCC alone retires, and the unit sees what it saw. -/
theorem conclude_endDec (dcc : Nat) : let z := s.conclude u (t.endDec u dcc)
    archOf z u = after ((archOf s u).setDcc dcc) (pcNext s u) ∧ ∀ a, z.seenByte u a = s.seenByte u a := by
  have harch : archOf (t.mapArch u fun a => a.setDcc dcc) u = (archOf s u).setDcc dcc := by rw [arch_mapArch_same, h.arch]
  refine ⟨?_, fun a => ?_⟩
  · rw [State.endDec, arch_conclude_done (by rw [harch, pc_setDcc]), harch]
  · rw [State.endDec, seenByte_conclude_done, seenByte_mapArch, h.seenByte]

/-- A function that writes a register and DCC retires with them, and memory is as it was (R314). -/
theorem conclude_setReg_endDec {r : BitVec 5} {v : Word} {dcc : Nat} :
    let z := s.conclude u ((t.mapArch u fun a => a.setReg r v).endDec u dcc)
    archOf z u = after (((archOf s u).setReg r v).setDcc dcc) (pcNext s u) ∧ ∀ a, z.byte a = s.byte a := by
  have harch : archOf ((t.mapArch u fun a => a.setReg r v).mapArch u fun a => a.setDcc dcc) u =
      ((archOf s u).setReg r v).setDcc dcc := by rw [arch_mapArch_same, arch_mapArch_same, h.arch]
  refine ⟨?_, fun a => (byte_conclude_done a).trans (h.byte a)⟩
  rw [State.endDec, arch_conclude_done (by rw [harch, pc_setDcc, setReg_pc]), harch]

/-- A decimal result is on its way to its place, and DCC is written (R314, R344, R349). -/
theorem conclude_storeDec {sp ea dcc : Nat} {p : Place} {data : List Byte} (hw : writes s u sp ea data.length p)
    (hroom : (s.unit u).stores.length + 4 ≤ 32) (hpos : 1 ≤ data.length) (hmax : data.length ≤ 64) :
    Wrote s (s.conclude u (t.storeRanges u [{ sp := sp, ea := ea, data := data }] fun y => y.endDec u dcc)) u
      ((archOf s u).setDcc dcc) p data := by
  obtain ⟨hgo, hj, hkind⟩ := h.writes hw
  have hall : List.Forall₂ (StoreRange.writesAt t u) [{ sp := sp, ea := ea, data := data }] [p] :=
    .cons ⟨⟨hgo, hj, hkind⟩, hpos, hmax⟩ .nil
  have hparts : t.partsAt (placed [{ sp := sp, ea := ea, data := data }] [p]) = partsOf p.pa data (t.storeKind p) :=
    List.append_nil _
  rw [storeRanges_writes hall _ (by rw [h.stores, List.length_singleton]; omega), State.endDec, hparts]
  have hpushed (v : Nat) : archOf (t.pushParts u (partsOf p.pa data (t.storeKind p))) v = archOf s v := by
    rw [arch_pushParts, h.arch]
  have hseen (a : Nat) : (t.pushParts u (partsOf p.pa data (t.storeKind p))).seenByte u a =
      if p.pa ≤ a ∧ a < p.pa + data.length then data.getD (a - p.pa) 0 else s.seenByte u a := by
    rw [seenByte_pushParts t u p.pa data hkind a, h.seenByte]
  refine ⟨?_, ⟨fun i hi => ?_, fun a ha => ?_, fun a => ?_, fun v hv => ?_⟩⟩
  · rw [arch_conclude_done (by rw [arch_mapArch_same, hpushed, pc_setDcc]), arch_mapArch_same, hpushed]
  · rw [seenByte_conclude_done, seenByte_mapArch, hseen, if_pos ⟨by omega, by omega⟩, Nat.add_sub_cancel_left,
      List.getD_eq_getElem _ _ hi]
  · rw [seenByte_conclude_done, seenByte_mapArch, hseen, if_neg (by omega)]
  · rw [byte_conclude_done, ← h.byte a]
    exact byte_pushParts ..
  · exact (arch_conclude_done_other hv).trans ((arch_mapArch_other _ _ hv).trans (hpushed v))

end

end Sys2Proof.Machine
end

section
/-! OBLIGATIONS. Packed results and the arithmetic on them (O23), the comparison and the conversions (O24). -/

namespace Sys2Proof.Machine

open Sys2Proof Sys2Proof.Stated

/-! ## Operands and results of the decimal functions -/

theorem ld_le (a : Arch) : a.ld ≤ 31 := Nat.le_of_lt_succ (Nat.mod_lt _ (by decide))

theorem la_le (a : Arch) : a.la ≤ 31 := Nat.le_of_lt_succ (Nat.mod_lt _ (by decide))

theorem decLegal_ok {f : OpsF} (hf : decFields f) {rb : Bool} (hrb : rb = true ∨ f.rb = 0) (level : Nat) :
    (decLegal f rb).ok level = true := by
  obtain ⟨hrsv, hsp2⟩ := hf
  obtain rfl | hrb := hrb
  · simp [Legal.ok, decLegal, hrsv, hsp2]
  · simp [Legal.ok, decLegal, hrsv, hsp2, hrb]

theorem dcc_of_result (n : Nat) (d : Dec) : (if d.overflows n then dccOver else dccNone) = if 10 ^ n ≤ d.mag then 3 else 0 := by
  simp only [Dec.overflows, decide_eq_true_eq, dccOver, dccNone]

theorem dccOf_eq (n : Nat) (v : Int) : dccOf n v = if (Dec.ofInt v).overflows n then dccOver else dccNone :=
  (dcc_of_result n (Dec.ofInt v)).symm

section

variable {s : State} {u : Nat} {f : OpsF}

theorem readsAt_packed {n : Nat} {r : BitVec 5} {p : Place} (h : packedReads s u f r n p) :
    Area.readsAt s u f.sp.toNat ((archOf s u).packedArea r n) p := h

theorem readsAt_zoned {n : Nat} {r : BitVec 5} {p : Place} (h : reads s u f.sp.toNat ((archOf s u).reg r).toNat n p) :
    Area.readsAt s u f.sp.toNat ((archOf s u).zonedArea r n) p := h

/-- One packed source. -/
theorem overAreas_packed {n : Nat} {r : BitVec 5} {p : Place} (h : packedReads s u f r n p) :
    ∃ t, SameSight s t ∧ ∀ g, s.overAreas u f.sp.toNat [(archOf s u).packedArea r n] g =
      g t [s.seenBytes u p.pa (packedLen n)] :=
  overAreas_reads (.cons (readsAt_packed h) .nil)

/-- Two packed sources. -/
theorem overAreas_packed_two {n m : Nat} {r q : BitVec 5} {pa pb : Place} (ha : packedReads s u f r n pa)
    (hb : packedReads s u f q m pb) :
    ∃ t, SameSight s t ∧ ∀ g, s.overAreas u f.sp.toNat [(archOf s u).packedArea r n, (archOf s u).packedArea q m] g =
      g t [s.seenBytes u pa.pa (packedLen n), s.seenBytes u pb.pa (packedLen m)] :=
  overAreas_reads (.cons (readsAt_packed ha) (.cons (readsAt_packed hb) .nil))

/-- Three packed sources. -/
theorem overAreas_packed_three {n m l : Nat} {r q o : BitVec 5} {pa pb pc : Place} (ha : packedReads s u f r n pa)
    (hb : packedReads s u f q m pb) (hc : packedReads s u f o l pc) :
    ∃ t, SameSight s t ∧ ∀ g, s.overAreas u f.sp.toNat
      [(archOf s u).packedArea r n, (archOf s u).packedArea q m, (archOf s u).packedArea o l] g =
      g t [s.seenBytes u pa.pa (packedLen n), s.seenBytes u pb.pa (packedLen m), s.seenBytes u pc.pa (packedLen l)] :=
  overAreas_reads (.cons (readsAt_packed ha) (.cons (readsAt_packed hb) (.cons (readsAt_packed hc) .nil)))

/-- A zoned source. -/
theorem overAreas_zoned {n : Nat} {r : BitVec 5} {p : Place} (h : reads s u f.sp.toNat ((archOf s u).reg r).toNat n p) :
    ∃ t, SameSight s t ∧ ∀ g, s.overAreas u f.sp.toNat [(archOf s u).zonedArea r n] g = g t [s.seenBytes u p.pa n] :=
  overAreas_reads (.cons (readsAt_zoned h) .nil)

/-- A packed result is on its way to its area. -/
theorem conclude_storePacked {t : State} (h : SameSight s t) {n dcc : Nat} {r : BitVec 5} {p : Place} (hn : n ≤ 31)
    (harea : area s u f r (packedLen n) p) (d : Dec) :
    Wrote s (s.conclude u (t.storeRanges u
        [{ sp := f.sp.toNat, ea := ((archOf s u).reg r).toNat, data := writePacked n d }] fun y => y.endDec u dcc)) u
      ((archOf s u).setDcc dcc) p (writePacked n d) := by
  obtain ⟨hw, hroom⟩ := harea
  have hlen := length_writePacked n d
  have hle : packedLen n ≤ 16 := by unfold packedLen; omega
  exact conclude_storeDec h (by rwa [hlen]) hroom (by rw [hlen]; exact Nat.succ_pos _) (by omega)

/-! ## ADDP, SUBP, MULP -/

section

variable {c : Instr} {g : Dec → Dec → Dec} {pa pb : Place} (hf : s.fetches u = true) (hfields : decFields f)
  (hc : exec c s = .next (s.decArith u f g)) (ha : packedReads s u f f.ra (archOf s u).la pa)
  (hb : packedReads s u f f.rb (archOf s u).lb pb)

include hf hfields hc ha hb

/-- A function of two valid packed operands writes its result (R313, R314). -/
theorem ends_decArith {pd : Place} {x y : Dec} (hd : area s u f f.rd (packedLen (archOf s u).ld) pd)
    (hx : packedAt s u (archOf s u).la pa = some x) (hy : packedAt s u (archOf s u).lb pb = some y) : Ends c s fun t =>
      Wrote s t u ((archOf s u).setDcc (if 10 ^ (archOf s u).ld ≤ (g x y).mag then 3 else 0)) pd
        (writePacked (archOf s u).ld (g x y)) := by
  obtain ⟨t, ht, hover⟩ := overAreas_packed_two ha hb
  refine ends_execute hf hc (decLegal_ok hfields (.inl rfl) _) ?_
  rw [packedAt] at hx hy
  simp only [hover, List.getD_cons_zero, List.getD_cons_succ, hx, hy, ← dcc_of_result]
  exact conclude_storePacked ht (ld_le _) hd _

/-- An invalid operand sets DCC to BADDIGIT, and nothing is stored (R312, R314). -/
theorem ends_decArith_invalid (hbad : packedAt s u (archOf s u).la pa = none ∨ packedAt s u (archOf s u).lb pb = none) :
    Ends c s fun t => archOf t u = after ((archOf s u).setDcc 2) (pcNext s u) ∧ ∀ a, t.seenByte u a = s.seenByte u a := by
  obtain ⟨t, ht, hover⟩ := overAreas_packed_two ha hb
  have hend := conclude_endDec (u := u) ht 2
  refine ends_execute hf hc (decLegal_ok hfields (.inl rfl) _) ?_
  rw [packedAt, packedAt] at hbad
  simp only [hover, List.getD_cons_zero, List.getD_cons_succ]
  rcases hbad with hx | hy
  · simp only [hx]
    exact hend
  · simp only [hy]
    cases readPacked (archOf s u).la (s.seenBytes u pa.pa (packedLen (archOf s u).la)) <;> exact hend

end

/-! ## CMPP and the conversions -/

/-- CMPP writes how two valid packed operands compare (R313). -/
theorem ends_cmpp {pa pb : Place} {x y : Dec} (hf : s.fetches u = true) (hfields : decFields f)
    (ha : packedReads s u f f.ra (archOf s u).la pa) (hb : packedReads s u f f.rb (archOf s u).lb pb)
    (hx : packedAt s u (archOf s u).la pa = some x) (hy : packedAt s u (archOf s u).lb pb = some y) :
    Ends (.cmpp u f) s fun t =>
      archOf t u = after (((archOf s u).setReg f.rd (decCmp x y)).setDcc 0) (pcNext s u) ∧ ∀ a, t.byte a = s.byte a := by
  obtain ⟨t, ht, hover⟩ := overAreas_packed_two ha hb
  refine ends_execute hf rfl (decLegal_ok hfields (.inl rfl) _) ?_
  rw [packedAt] at hx hy
  simp only [hover, List.getD_cons_zero, List.getD_cons_succ, hx, hy]
  exact conclude_setReg_endDec ht

/-- CVTPB writes a packed operand as a word (R313, R314). -/
theorem ends_cvtpb {pa : Place} {x : Dec} (hf : s.fetches u = true) (hfields : decFields f) (hrb : f.rb = 0)
    (ha : packedReads s u f f.ra (archOf s u).la pa) (hx : packedAt s u (archOf s u).la pa = some x) :
    Ends (.cvtpb u f) s fun t =>
      archOf t u = after (((archOf s u).setReg f.rd (BitVec.ofInt 32 x.toInt)).setDcc
        (if x.toInt < -(2 ^ 31) ∨ 2 ^ 31 ≤ x.toInt then 3 else 0)) (pcNext s u) ∧ ∀ a, t.byte a = s.byte a := by
  obtain ⟨t, ht, hover⟩ := overAreas_packed ha
  refine ends_execute hf rfl (decLegal_ok hfields (.inr hrb) _) ?_
  rw [packedAt] at hx
  simp only [hover, List.getD_cons_zero, hx]
  exact conclude_setReg_endDec ht

/-- CVTBP writes a word as a packed result (R313, R314). -/
theorem ends_cvtbp {pd : Place} (hf : s.fetches u = true) (hfields : decFields f) (hrb : f.rb = 0)
    (hd : area s u f f.rd (packedLen (archOf s u).ld) pd) : Ends (.cvtbp u f) s fun t =>
      Wrote s t u ((archOf s u).setDcc (dccOf (archOf s u).ld ((archOf s u).reg f.ra).toInt)) pd
        (writePacked (archOf s u).ld (Dec.ofInt ((archOf s u).reg f.ra).toInt)) := by
  refine ends_execute hf rfl (decLegal_ok hfields (.inr hrb) _) ?_
  rw [dccOf_eq]
  exact conclude_storePacked (Noted.refl s).sameSight (ld_le _) hd _

/-- CVTPZ writes a packed operand zoned (R313, R314). -/
theorem ends_cvtpz {pa pd : Place} {x : Dec} (hf : s.fetches u = true) (hfields : decFields f) (hrb : f.rb = 0)
    (ha : packedReads s u f f.ra (archOf s u).la pa) (hx : packedAt s u (archOf s u).la pa = some x)
    (hd : area s u f f.rd (archOf s u).ld pd) (hld : 1 ≤ (archOf s u).ld) : Ends (.cvtpz u f) s fun t =>
      Wrote s t u ((archOf s u).setDcc (if 10 ^ (archOf s u).ld ≤ x.mag then 3 else 0)) pd (writeZoned (archOf s u).ld x) := by
  obtain ⟨t, ht, hover⟩ := overAreas_packed ha
  obtain ⟨hw, hroom⟩ := hd
  have hlen := length_writeZoned (archOf s u).ld x
  refine ends_execute hf rfl (decLegal_ok hfields (.inr hrb) _) ?_
  rw [packedAt] at hx
  simp only [hover, List.getD_cons_zero, hx, ← dcc_of_result]
  exact conclude_storeDec ht (by rwa [hlen]) hroom (by rwa [hlen]) (by rw [hlen]; exact (ld_le _).trans (by decide))

/-- CVTZP writes a zoned operand packed (R313, R314). -/
theorem ends_cvtzp {pa pd : Place} {x : Dec} (hf : s.fetches u = true) (hfields : decFields f) (hrb : f.rb = 0)
    (ha : reads s u f.sp.toNat ((archOf s u).reg f.ra).toNat (archOf s u).la pa)
    (hx : readZoned (s.seenBytes u pa.pa (archOf s u).la) = some x) (hd : area s u f f.rd (packedLen (archOf s u).ld) pd) :
    Ends (.cvtzp u f) s fun t => Wrote s t u ((archOf s u).setDcc (if 10 ^ (archOf s u).ld ≤ x.mag then 3 else 0)) pd
      (writePacked (archOf s u).ld x) := by
  obtain ⟨t, ht, hover⟩ := overAreas_zoned ha
  refine ends_execute hf rfl (decLegal_ok hfields (.inr hrb) _) ?_
  simp only [hover, List.getD_cons_zero, hx, ← dcc_of_result]
  exact conclude_storePacked ht (ld_le _) hd _

end

/-! ## The obligations -/

theorem exec_decRows {s : State} {u : Nat} {f : OpsF} : ∀ r ∈ decRows,
    exec (r.1 u f) s = .next (s.decArith u f fun x y => Dec.ofInt (r.2 x.toInt y.toInt)) := by
  simp only [decRows, List.forall_mem_cons]
  exact ⟨rfl, rfl, rfl, List.forall_mem_nil _⟩

/-- A result reads back as its low digits, with its sign (R310, R311, R314). -/
theorem readPacked_writePacked_ofInt (n : Nat) (v : Int) : ∃ d, readPacked n (writePacked n (Dec.ofInt v)) = some d ∧
    d.mag = v.natAbs % 10 ^ n ∧ (v = 0 → d.neg = false) ∧ (v.natAbs < 10 ^ n → d.toInt = v) := by
  refine ⟨_, readPacked_writePacked n _, rfl, fun hv => ?_, fun hv => ?_⟩
  · rw [writeNeg_ofInt, hv]
    rfl
  · rw [writeNeg_ofInt, Dec.toInt]
    simp only [Dec.ofInt, Nat.mod_eq_of_lt hv, decide_eq_true_eq]
    split_ifs <;> omega

/-- Settles O23: the digits and the sign that are written are the ones read back; the sources are read, the result enters the
buffer by lines, and an invalid source writes DCC alone. -/
theorem packedDecimals : Obligations.PackedDecimals :=
  ⟨fun n v _ _ => ⟨length_writePacked n _, readPacked_writePacked_ofInt n v⟩,
    fun _ _ _ _ _ _ hf hfields ha hb hd r hr =>
      ⟨fun _ _ hx hy => ends_decArith hf hfields (exec_decRows r hr) ha hb hd hx hy,
        fun hbad => ends_decArith_invalid hf hfields (exec_decRows r hr) ha hb hbad⟩⟩

/-- Settles O24: CMPP and CVTPB change the architected state alone; the others send their digits to their area. -/
theorem packedConversions : Obligations.PackedConversions :=
  ⟨fun _ _ _ _ _ hf hfields ha hx =>
      ⟨fun _ _ hb hy => ends_cmpp hf hfields ha hb hx hy, fun hrb => ends_cvtpb hf hfields hrb ha hx⟩,
    fun _ _ _ _ hf hfields hrb =>
      ⟨ends_cvtbp hf hfields hrb, fun _ _ ha hx hd hld => ends_cvtpz hf hfields hrb ha hx hd hld,
        fun _ _ ha hx hd => ends_cvtzp hf hfields hrb ha hx hd⟩⟩

end Sys2Proof.Machine
end

section
/-! OBLIGATIONS. Division of packed decimals, by its units and by its digits (O25). -/

namespace Sys2Proof.Machine

open Sys2Proof Sys2Proof.Stated

/-! ## One digit of a division (R350) -/

/-- The largest power is a logarithm of the quotient. -/
theorem topPower_eq_log {a b : Nat} (hb : 0 < b) (hba : b ≤ a) (ha : a < 10 ^ 31) : topPower a b = Nat.log 10 (a / b) := by
  have hle (j : Nat) : b * 10 ^ j ≤ a ↔ j ≤ Nat.log 10 (a / b) := by
    rw [Nat.le_log_iff_pow_le (by decide) (Nat.div_pos hba hb).ne', Nat.le_div_iff_mul_le hb, mul_comm]
  have hlog : Nat.log 10 (a / b) < 31 := Nat.log_lt_of_lt_pow (Nat.div_pos hba hb).ne' ((Nat.div_le_self a b).trans_lt ha)
  have hsplit : List.range 32 = List.range (Nat.log 10 (a / b) + 1) ++
      (List.range (31 - Nat.log 10 (a / b))).map (Nat.log 10 (a / b) + 1 + ·) := by
    rw [← List.range_add]
    congr 1
    omega
  simp only [topPower, hle]
  rw [hsplit, List.filter_append, List.filter_eq_self.2, List.filter_eq_nil_iff.2, List.append_nil, List.length_range,
    Nat.add_sub_cancel]
  · simp only [List.mem_map, decide_eq_true_eq]
    rintro _ ⟨i, -, rfl⟩
    omega
  · simp only [List.mem_range, decide_eq_true_eq]
    omega

theorem topPower_spec {a b : Nat} (hb : 0 < b) (hba : b ≤ a) (ha : a < 10 ^ 31) :
    b * 10 ^ topPower a b ≤ a ∧ a < b * 10 ^ (topPower a b + 1) := by
  rw [topPower_eq_log hb hba ha]
  constructor
  · rw [mul_comm, ← Nat.le_div_iff_mul_le hb]
    exact Nat.pow_log_le_self 10 (Nat.div_pos hba hb).ne'
  · rw [mul_comm, ← Nat.div_lt_iff_lt_mul hb]
    exact Nat.lt_pow_succ_log_self (by decide) _

/-- A divisor that is neither zero nor above the dividend has a digit. -/
theorem divDigit_of_le {free la ld a b q : Nat} (hb : 0 < b) (hba : b ≤ a) : divDigit free la ld a b q =
    (a - a / (b * 10 ^ topPower a b) * b * 10 ^ topPower a b, (q + a / (b * 10 ^ topPower a b) * 10 ^ topPower a b) % 10 ^ ld) :=
  if_neg (by omega)

/-- The digit is what the dividend holds of the divisor at its power: 1 to 9 (R350). -/
theorem divDigit_spec {free la ld a b q : Nat} (hb : 0 < b) (hba : b ≤ a) (ha : a < 10 ^ 31) :
    let j := topPower a b
    let r := divDigit free la ld a b q
    b * 10 ^ j ≤ a ∧ a < b * 10 ^ (j + 1) ∧ r.1 < b * 10 ^ j ∧
    ∃ d, 1 ≤ d ∧ d ≤ 9 ∧ r.1 + d * b * 10 ^ j = a ∧ r.2 = (q + d * 10 ^ j) % 10 ^ ld := by
  obtain ⟨hle, hlt⟩ := topPower_spec hb hba ha
  intro j r
  have hr : r = _ := divDigit_of_le hb hba
  have hpos : 0 < b * 10 ^ j := Nat.mul_pos hb (Nat.pow_pos (by decide))
  rw [hr]
  refine ⟨hle, hlt, ?_, a / (b * 10 ^ j), Nat.div_pos hle hpos, ?_, ?_, rfl⟩
  · rw [mul_assoc, mul_comm, ← Nat.mod_eq_sub_mul_div]
    exact Nat.mod_lt _ hpos
  · rw [pow_succ, ← mul_assoc] at hlt
    exact Nat.le_of_lt_succ (Nat.div_lt_of_lt_mul hlt)
  · rw [mul_assoc]
    exact Nat.sub_add_cancel (Nat.div_mul_le_self a _)

/-! ## DIVP by its units (R345, R350) -/

section

variable {s : State} {u : Nat} {f : OpsF} {pa pb : Place} {a b : Dec} (hf : s.fetches u = true) (hfields : decFields f)
  (ha : packedReads s u f f.ra (archOf s u).la pa) (hb : packedReads s u f f.rb (archOf s u).lb pb)
  (hx : packedAt s u (archOf s u).la pa = some a) (hy : packedAt s u (archOf s u).lb pb = some b)

/-- A packed range is stored to its area. -/
theorem writesAt_packed {t : State} (h : SameSight s t) {n : Nat} {r : BitVec 5} {p : Place} (hn : n ≤ 31)
    (harea : area s u f r (packedLen n) p) (neg : Bool) (mag : Nat) :
    StoreRange.writesAt t u { sp := f.sp.toNat, ea := ((archOf s u).reg r).toNat, data := packSigned n neg mag } p := by
  have hlen := length_packSigned n neg mag
  have hle : packedLen n ≤ 16 := by unfold packedLen; omega
  exact ⟨h.writes (hlen ▸ harea.1), hlen.symm ▸ Nat.succ_pos _, hlen.trans_le (hle.trans (by decide))⟩

/-- The last unit rewrites the dividend and the quotient. -/
theorem divStores_both (sp la ld dcc : Nat) (d : DivAreas) (a q : Dec) : ∃ na nq, divStores sp la ld dcc d a q true =
    [d.a.store sp (packSigned la na a.mag), d.q.store sp (packSigned ld nq q.mag)] :=
  ⟨_, _, by simp only [divStores, true_or, if_true]; rfl⟩

section

variable (hpcf : (archOf s u).pcf = false) (hclash : ((archOf s u).divAreas f).clash = false) {pq : Place}
  (hq : area s u f f.rd (packedLen (archOf s u).ld) pq)

include hf hfields ha hb hpcf

/-- Unit 1 reads the dividend and the divisor. -/
theorem ends_divp_first : ∃ t, SameSight s t ∧ ∀ P : State → Prop,
    P (s.conclude u (t.divFirst u f.sp.toNat ((archOf s u).divAreas f) (s.seenBytes u pa.pa (packedLen (archOf s u).la))
      (s.seenBytes u pb.pa (packedLen (archOf s u).lb)))) → Ends (.divp u f) s P := by
  obtain ⟨t, ht, hover⟩ := overAreas_packed_two ha hb
  refine ⟨t, ht, fun P hP => ends_execute hf rfl (decLegal_ok hfields (.inl rfl) _) ?_⟩
  simp only [hpcf, Bool.false_eq_true, if_false]
  exact (hover _).symm ▸ hP

include hx hy hclash hq

/-- A divisor of zero gives nines and DIVZERO (R314). -/
theorem ends_divp_zero (hzero : b.mag = 0) : Ends (.divp u f) s fun t =>
    Wrote s t u ((archOf s u).setDcc 1) pq (writePacked (archOf s u).ld ⟨a.neg, 10 ^ (archOf s u).ld - 1⟩) := by
  obtain ⟨t, ht, hends⟩ := ends_divp_first hf hfields ha hb hpcf
  rw [packedAt] at hx hy
  refine hends _ ?_
  simp only [State.divFirst, ht.arch, hx, hy, hclash, hzero, Bool.false_eq_true, if_false, if_true]
  exact conclude_storePacked ht (ld_le _) hq _

/-- A dividend below the divisor gives a quotient of zero. -/
theorem ends_divp_small (hne : b.mag ≠ 0) (hane : a.mag ≠ 0) (hlt : a.mag < b.mag) : Ends (.divp u f) s fun t =>
    Wrote s t u ((archOf s u).setDcc 0) pq (writePacked (archOf s u).ld ⟨false, 0⟩) := by
  obtain ⟨t, ht, hends⟩ := ends_divp_first hf hfields ha hb hpcf
  have hfits : ¬b.mag * 10 ^ (archOf s u).ld ≤ a.mag :=
    Nat.not_le.2 (hlt.trans_le (Nat.le_mul_of_pos_right _ (Nat.pow_pos (by decide))))
  rw [packedAt] at hx hy
  refine hends _ ?_
  simp only [State.divFirst, ht.arch, hx, hy, hclash, hne, hlt, hfits, divStores, hane, Bool.false_eq_true, if_false, if_true,
    or_self, List.nil_append]
  exact conclude_storePacked ht (ld_le _) hq ⟨false, 0⟩

/-- Any other division starts with a quotient of zero: PCF is set, and the PC stays. -/
theorem ends_divp_start (hne : b.mag ≠ 0) (hle : b.mag ≤ a.mag) : Ends (.divp u f) s fun t => archOf t u =
    ((archOf s u).setDcc (if b.mag * 10 ^ (archOf s u).ld ≤ a.mag then 3 else 0)).setPcf true := by
  obtain ⟨t, ht, hends⟩ := ends_divp_first hf hfields ha hb hpcf
  have hall : List.Forall₂ (StoreRange.writesAt t u)
      [((archOf s u).divAreas f).q.store f.sp.toNat (packSigned (archOf s u).ld (a.neg != b.neg) 0)] [pq] :=
    .cons (writesAt_packed ht (ld_le _) hq _ _) .nil
  have hroom := hq.2
  rw [packedAt] at hx hy
  refine hends _ ?_
  simp only [State.divFirst, ht.arch, hx, hy, hclash, hne, Nat.not_lt.2 hle, Bool.false_eq_true, if_false]
  rw [storeRanges_writes hall _ (by rw [ht.stores, List.length_singleton]; omega), arch_conclude_part, arch_mapArch_same,
    arch_pushParts, ht.arch]
  rfl

end

include hf hfields ha hb hx hy

/-- A later unit takes one digit: it rewrites dividend and quotient, and retires where the rest is below the divisor. -/
theorem ends_divp_later {pq pw pr : Place} {q : Dec} (hpcf : (archOf s u).pcf = true)
    (hq : area s u f f.rd (packedLen (archOf s u).ld) pq) (hw : area s u f f.ra (packedLen (archOf s u).la) pw)
    (hr : packedReads s u f f.rd (archOf s u).ld pr) (hz : packedAt s u (archOf s u).ld pr = some q) (hne : b.mag ≠ 0)
    (hle : b.mag ≤ a.mag) : Ends (.divp u f) s fun t =>
      if (divDigit 0 (archOf s u).la (archOf s u).ld a.mag b.mag q.mag).1 < b.mag then
        archOf t u = after (archOf s u) (pcNext s u) else archOf t u = (archOf s u).setPcf true := by
  obtain ⟨t, ht, hover⟩ := overAreas_packed_three ha hb hr
  have hall (na nq : Bool) (ma mq : Nat) : List.Forall₂ (StoreRange.writesAt t u)
      [((archOf s u).divAreas f).a.store f.sp.toNat (packSigned (archOf s u).la na ma),
        ((archOf s u).divAreas f).q.store f.sp.toNat (packSigned (archOf s u).ld nq mq)] [pw, pq] :=
    .cons (writesAt_packed ht (la_le _) hw _ _) (.cons (writesAt_packed ht (ld_le _) hq _ _) .nil)
  have hroom : (t.unit u).stores.length + 2 * 2 ≤ 32 := by rw [ht.stores]; exact hq.2
  have hopen : ¬(b.mag = 0 ∨ a.mag < b.mag) := by omega
  have hdigit (free : Nat) : divDigit free (archOf s u).la (archOf s u).ld a.mag b.mag q.mag =
      divDigit 0 (archOf s u).la (archOf s u).ld a.mag b.mag q.mag :=
    (divDigit_of_le (Nat.pos_of_ne_zero hne) hle).trans (divDigit_of_le (Nat.pos_of_ne_zero hne) hle).symm
  rw [packedAt] at hx hy hz
  refine ends_execute hf rfl (decLegal_ok hfields (.inl rfl) _) ?_
  simp only [hpcf, if_true]
  refine (hover _).symm ▸ ?_
  simp only [List.getD_cons_zero, List.getD_cons_succ, State.divLater, ht.arch, hx, hy, hz, hopen, or_false, if_false, hdigit]
  split_ifs with hlast
  · obtain ⟨na, nq, hstores⟩ := divStores_both f.sp.toNat (archOf s u).la (archOf s u).ld (archOf s u).dcc
      ((archOf s u).divAreas f) ⟨a.neg, _⟩ ⟨q.neg, _⟩
    rw [hstores, storeRanges_writes (hall ..) _ hroom, arch_conclude_done (by rw [arch_pushParts, ht.arch]), arch_pushParts,
      ht.arch]
  · rw [storeRanges_writes (hall ..) _ hroom, arch_conclude_part, arch_pushParts, ht.arch]

end

/-- Settles O25: unit 1 ends at once, or starts the digits; a later unit takes one; a digit is a quotient by the divisor at its
power. -/
theorem divisionOfDecimals : Obligations.DivisionOfDecimals :=
  ⟨fun _ _ _ _ _ _ _ _ _ hf hfields ha hb hq hw _ hx hy hclash =>
      ⟨fun hpcf => ends_divp_zero hf hfields ha hb hx hy hpcf hclash hq,
        fun hpcf => ends_divp_small hf hfields ha hb hx hy hpcf hclash hq,
        fun hpcf => ends_divp_start hf hfields ha hb hx hy hpcf hclash hq,
        fun _ _ hpcf hr hz => ends_divp_later hf hfields ha hb hx hy hpcf hq hw hr hz⟩,
    fun _ _ _ _ _ _ hb hba ha => divDigit_spec hb hba ha⟩

end Sys2Proof.Machine
end

section
/-! SUPPORT. Units of operation that read a block, store a block and move their registers (R344, R347 to R349). -/

namespace Sys2Proof.Machine

open Sys2Proof Sys2Proof.Stated

/-! ## A block that is read -/

@[simp] theorem length_seenBytes (s : State) (u a n : Nat) : (s.seenBytes u a n).length = n := by
  induction n generalizing a with
  | zero => rfl
  | succ n ih => rw [State.seenBytes, List.length_cons, ih]

/-- A source that may be read at once gives its bytes to the unit of operation. -/
theorem readBlock_reads {s : State} {u sp ea n : Nat} {p : Place} (h : reads s u sp ea n p) :
    ∃ t, SameSight s t ∧ ∀ f, s.readBlock u sp ea n f = f t (s.seenBytes u p.pa n) := by
  obtain ⟨hgo, hread⟩ := h
  have hplace : s.place u sp ea n .read .other = .ok p := hgo
  have hnoted : Noted s ((s.noteEpochs u p.pa n).noteReads u p.pa n) :=
    (noted_noteEpochs s u p.pa n).trans (noted_noteReads _ u p.pa n)
  exact ⟨_, hnoted.sameSight.useUp u, fun f => by simp only [State.readBlock, hplace, loadBytes_of_readable hread]⟩

/-! ## The registers of a unit -/

/-- The architected state with registers set one after another. -/
def Arch.setAll (a : Arch) (l : List (BitVec 5 × Word)) : Arch := l.foldl (fun a x => a.setReg x.1 x.2) a

theorem pc_setAll (a : Arch) (l : List (BitVec 5 × Word)) : (a.setAll l).pc = a.pc := by
  induction l generalizing a with
  | nil => rfl
  | cons x l ih => exact (ih _).trans (setReg_pc a x.1 x.2)

section

variable {l : List (BitVec 5 × Word)} (hl : (l.map Prod.fst).Nodup)

include hl

/-- Registers that are named once each take their values (R348). -/
theorem setRegs_of_nodup (s : State) (u : Nat) :
    s.setRegs u l = l.foldl (fun s x => s.mapArch u fun a => a.setReg x.1 x.2) s := by
  refine List.foldl_ext _ _ s fun t x hx => if_neg fun ⟨_, hany⟩ => ?_
  obtain ⟨y, hy, hne⟩ := List.any_eq_true.1 hany
  simp only [Bool.and_eq_true, beq_iff_eq, bne_iff_ne] at hne
  exact hne.2 (congrArg Prod.snd (List.inj_on_of_nodup_map hl hy hx hne.1))

theorem arch_setRegs_same (s : State) (u : Nat) : archOf (s.setRegs u l) u = (archOf s u).setAll l := by
  rw [setRegs_of_nodup hl]
  clear hl
  induction l generalizing s with
  | nil => rfl
  | cons x l ih => exact (ih _).trans (congrArg (Arch.setAll · l) (arch_mapArch_same s u _))

theorem arch_setRegs_other (s : State) {u v : Nat} (hv : v ≠ u) : archOf (s.setRegs u l) v = archOf s v := by
  rw [setRegs_of_nodup hl]
  exact foldl_keeps (fun t => archOf t v) (fun t x => arch_mapArch_other t _ hv) s l

theorem seenByte_setRegs (s : State) (u v a : Nat) : (s.setRegs u l).seenByte v a = s.seenByte v a := by
  rw [setRegs_of_nodup hl]
  exact foldl_keeps (fun t => t.seenByte v a) (fun t x => seenByte_mapArch t u v a _) s l

theorem byte_setRegs (s : State) (u a : Nat) : (s.setRegs u l).byte a = s.byte a := by
  rw [setRegs_of_nodup hl]
  exact foldl_keeps (fun t => t.byte a) (f := fun t x => t.mapArch u fun a => a.setReg x.1 x.2) (fun _ _ => rfl) s l

end

/-! ## The end of a unit -/

/-- How a unit of operation over a block ends: its bytes are on their way to a place, its registers have their values, and
it retires where it is the last, else sets PCF and keeps the PC (R344, R348). -/
def BlockUnit (s t : State) (u : Nat) (p : Place) (data : List Byte) (regs : List (BitVec 5 × Word)) (last : Prop)
    [Decidable last] : Prop :=
  Stores s t u p.pa data ∧ archOf t u =
    if last then after ((archOf s u).setAll regs) (pcNext s u) else ((archOf s u).setAll regs).setPcf true

theorem pairStores_unitEnd (s : State) (u q : Nat) : ((s.unitEnd u).pair q).stores = (s.pair q).stores := by
  rw [State.unitEnd, pairStores_boundary, State.counted, pairStores_compared]
  rfl

theorem seenByte_unitEnd (s : State) (u v a : Nat) : (s.unitEnd u).seenByte v a = s.seenByte v a := by
  have hframe := unitEnd_only s u
  refine seenByte_congr (stores_unitEnd s u v) (fun q => pairStores_unitEnd s u q) (fun c => ?_) (byte_of_mem hframe.mem a)
  rw [State.cluster, hframe.clusters, State.cluster]

section

variable {s y : State} {u : Nat} {last : Bool}

/-- The last unit retires, any other sets PCF and keeps the PC (R344). -/
theorem arch_conclude_unitOf (hpc : (archOf y u).pc = (archOf s u).pc) : archOf (s.conclude u (Eff.unitOf y last)) u =
    if last = true then after (archOf y u) (pcNext s u) else (archOf y u).setPcf true := by
  cases last
  · exact arch_conclude_part
  · exact arch_conclude_done hpc

theorem arch_conclude_unitOf_other {v : Nat} (hv : v ≠ u) : archOf (s.conclude u (Eff.unitOf y last)) v = archOf y v := by
  cases last
  · exact (unitEnd_only y u).arch v hv
  · exact arch_conclude_done_other hv

theorem byte_conclude_unitOf (a : Nat) : (s.conclude u (Eff.unitOf y last)).byte a = y.byte a := by
  cases last
  · exact byte_of_mem (unitEnd_only y u).mem a
  · exact byte_conclude_done a

theorem seenByte_conclude_unitOf (v a : Nat) : (s.conclude u (Eff.unitOf y last)).seenByte v a = y.seenByte v a := by
  cases last
  · exact seenByte_unitEnd y u v a
  · exact seenByte_conclude_done v a

end

/-! ## A block that is stored -/

theorem length_linesOf_le_div (pa n : Nat) : (linesOf pa n).length ≤ n / 64 + 2 := by
  unfold linesOf
  split_ifs
  · simp
  · rw [List.length_map, List.length_range]; omega

theorem length_partsOf (pa : Nat) (data : List Byte) (k : StoreKind) :
    (partsOf pa data k).length = (linesOf pa data.length).length := by
  rw [partsOf, List.length_map, lineCuts, List.length_map]

section

variable {s t : State} {u sp ea : Nat} {data : List Byte} {p : Place} (h : SameSight s t)
  (hw : writes s u sp ea data.length p) (hpos : 0 < data.length)
  (hroom : (s.unit u).stores.length + (linesOf p.pa data.length).length ≤ 32)

include h hw hpos hroom

/-- A block that passes its checks enters the buffer, each line by itself, where there is room. -/
theorem storeRanges_block (f : State → Eff) : t.storeRanges u [{ sp := sp, ea := ea, data := data }] f =
    f (t.pushParts u (partsOf p.pa data (t.storeKind p))) := by
  obtain ⟨hgo, hj, -⟩ := h.writes hw
  have hplace : t.place u sp ea data.length .write .other = .ok p := hgo
  have hdata : data.isEmpty = false := by simpa [← List.length_pos_iff] using hpos
  have hfits : ¬bufferSize < (t.unit u).stores.length + (partsOf p.pa data (t.storeKind p)).length := by
    rw [bufferSize, h.stores, length_partsOf]; omega
  simp only [State.storeRanges, List.filter_cons, hdata, Bool.not_false, if_true, List.filter_nil, State.rangePlaces, hplace,
    hj, Bool.false_eq_true, false_and, if_false, List.map_nil, List.isEmpty_nil, List.flatMap_cons, List.flatMap_nil,
    List.append_nil]
  exact if_neg hfits

/-- A unit of operation that stores a block and moves registers that it names once each (R344, R348). -/
theorem conclude_storeUnit {regs : List (BitVec 5 × Word)} (hregs : (regs.map Prod.fst).Nodup) (last : Prop)
    [Decidable last] : BlockUnit s (s.conclude u (t.storeRanges u [{ sp := sp, ea := ea, data := data }] fun y =>
      Eff.unitOf (y.setRegs u regs) last)) u p data regs last := by
  rw [storeRanges_block h hw hpos hroom]
  obtain ⟨-, -, hkind⟩ := h.writes hw
  have hpushed (v : Nat) : archOf (t.pushParts u (partsOf p.pa data (t.storeKind p))) v = archOf s v := by
    rw [arch_pushParts, h.arch]
  have hseen (a : Nat) : (t.pushParts u (partsOf p.pa data (t.storeKind p))).seenByte u a =
      if p.pa ≤ a ∧ a < p.pa + data.length then data.getD (a - p.pa) 0 else s.seenByte u a := by
    rw [seenByte_pushParts t u p.pa data hkind a, h.seenByte]
  refine ⟨⟨fun i hi => ?_, fun a ha => ?_, fun a => ?_, fun v hv => ?_⟩, ?_⟩
  · rw [seenByte_conclude_unitOf, seenByte_setRegs hregs, hseen, if_pos ⟨by omega, by omega⟩, Nat.add_sub_cancel_left,
      List.getD_eq_getElem _ _ hi]
  · rw [seenByte_conclude_unitOf, seenByte_setRegs hregs, hseen, if_neg (by omega)]
  · rw [byte_conclude_unitOf, byte_setRegs hregs, byte_pushParts, h.byte]
  · exact (arch_conclude_unitOf_other hv).trans ((arch_setRegs_other hregs _ hv).trans (hpushed v))
  · rw [arch_conclude_unitOf (by rw [arch_setRegs_same hregs, pc_setAll, hpushed]), arch_setRegs_same hregs, hpushed]
    simp only [decide_eq_true_eq]

end

end Sys2Proof.Machine
end

section
/-! OBLIGATIONS. The block instructions BMOV and BFILL by their units of operation (O26). -/

namespace Sys2Proof.Machine

open Sys2Proof Sys2Proof.Stated

/-! ## One unit that copies -/

/-- A unit of operation that copies n bytes and moves registers (R348, R349). -/
def State.copyUnit (s : State) (u : Nat) (f : OpsF) (src dst n : Nat) (regs : List (BitVec 5 × Word)) (last : Bool) : Eff :=
  s.readBlock u f.sp2.toNat src n fun t b =>
    t.storeRanges u [{ sp := f.sp.toNat, ea := dst, data := b }] fun y => Eff.unitOf (y.setRegs u regs) last

/-- A string of at most 256 bytes touches at most six lines. -/
theorem room_of_block {k pa n m : Nat} (hroom : k + 6 ≤ 32) (hn : n ≤ min m 256) : k + (linesOf pa n).length ≤ 32 := by
  have hlines := length_linesOf_le_div pa n
  omega

section

variable {s : State} {u : Nat} {f : OpsF} {p q : Place}

theorem conclude_copyUnit {src dst n : Nat} {regs : List (BitVec 5 × Word)} (hr : reads s u f.sp2.toNat src n p)
    (hw : writes s u f.sp.toNat dst n q) (hn : 0 < n)
    (hroom : (s.unit u).stores.length + (linesOf q.pa n).length ≤ 32) (hregs : (regs.map Prod.fst).Nodup) (last : Prop)
    [Decidable last] :
    BlockUnit s (s.conclude u (s.copyUnit u f src dst n regs last)) u q (s.seenBytes u p.pa n) regs last := by
  obtain ⟨t, ht, hread⟩ := readBlock_reads hr
  have hlen := length_seenBytes s u p.pa n
  rw [State.copyUnit, hread]
  exact conclude_storeUnit ht (by rwa [hlen]) (by rwa [hlen]) (by rwa [hlen]) hregs last

/-- A unit of BMOV copies from the high end where the target overlaps the source from above, else from the low end (R349). -/
theorem moveBlock_eq (s : State) (u : Nat) (f : OpsF) :
    let a := archOf s u
    let ra := (a.reg f.ra).toNat
    let rd := (a.reg f.rd).toNat
    let rb := (a.reg f.rb).toNat
    let n := min rb 256
    s.moveBlock u f = if rb = 0 then .done s
      else if a.space f.sp.toNat = a.space f.sp2.toNat ∧ ra < rd ∧ rd < ra + rb then
        s.copyUnit u f (ra + rb - n) (rd + rb - n) n [(f.rb, BitVec.ofNat 32 (rb - n))] (n = rb)
      else s.copyUnit u f ra rd n
        [(f.ra, BitVec.ofNat 32 (ra + n)), (f.rd, BitVec.ofNat 32 (rd + n)), (f.rb, BitVec.ofNat 32 (rb - n))] (n = rb) := by
  dsimp only [State.moveBlock, archOf]
  split_ifs <;> rfl

/-! ## The instructions -/

variable (hf : s.fetches u = true) (hrsv : f.rsv = 0)

include hf hrsv

theorem ends_execBmov {P : State → Prop} (h : P (s.conclude u (s.moveBlock u f))) : Ends (.bmov u f) s P :=
  ends_execute hf rfl (by simp [Legal.ok, hrsv]) h

theorem ends_execBfill {P : State → Prop} (hsp2 : f.sp2 = 0) (h : P (s.conclude u (s.fillBlock u f))) :
    Ends (.bfill u f) s P :=
  ends_execute hf rfl (by simp [Legal.ok, hrsv, hsp2]) h

end

/-- Settles O26: no bytes left retire at once; a unit of BMOV copies from the end that its overlap asks for, a unit of BFILL
stores its byte; each lets its registers move and ends as the last or not. -/
theorem blockMoves : Obligations.BlockMoves := by
  intro s u f hf hrsv hroom _ _ _ hab hbd hda a ra rd rb n done
  have hlines (q : Place) : (s.unit u).stores.length + (linesOf q.pa n).length ≤ 32 := room_of_block hroom le_rfl
  have hpos (hrb : rb ≠ 0) : 0 < n := Nat.lt_min.2 ⟨Nat.pos_of_ne_zero hrb, by decide⟩
  have hmove := moveBlock_eq s u f
  refine ⟨fun hrb => ⟨?zero, fun hsp2 => ?fillZero⟩, fun hrb hforward p q hr hw => ?forward,
    fun hspace hlo hhi p q hr hw => ?backward, fun hrb hsp2 q hw => ?fill⟩
  case zero =>
    refine ends_execBmov hf hrsv ?_
    rw [hmove, if_pos hrb]
    exact retire_retires s u _
  case fillZero =>
    refine ends_execBfill hf hrsv hsp2 ?_
    rw [State.fillBlock, if_pos hrb]
    exact retire_retires s u _
  case forward =>
    refine ends_execBmov hf hrsv ?_
    rw [hmove, if_neg hrb, if_neg hforward]
    exact conclude_copyUnit hr hw (hpos hrb) (hlines q) (by simp [hab, hbd.symm, hda.symm]) _
  case backward =>
    have hrb : rb ≠ 0 := by omega
    refine ends_execBmov hf hrsv ?_
    rw [hmove, if_neg hrb, if_pos ⟨hspace, hlo, hhi⟩]
    exact conclude_copyUnit (regs := [(f.rb, _)]) hr hw (hpos hrb) (hlines q) (List.nodup_singleton _) _
  case fill =>
    have hlen : (List.replicate n (BitVec.ofNat 8 (a.reg f.ra).toNat)).length = n := List.length_replicate
    refine ends_execBfill hf hrsv hsp2 ?_
    rw [State.fillBlock, if_neg hrb]
    exact conclude_storeUnit (Noted.refl s).sameSight (by rwa [hlen]) (by rw [hlen]; exact hpos hrb)
      (by rw [hlen]; exact hlines q) (by simp [hbd.symm]) _

end Sys2Proof.Machine
end

section
/-! SUPPORT. Bits and bytes of a Deflate stream, and the stored block, which inflates to its bytes (R351). -/

namespace Sys2Proof.Machine

open Sys2Proof

/-! ## Numbers as bits -/

@[simp] theorem length_bitsOfNat (n v : Nat) : (bitsOfNat n v).length = n := by
  induction n generalizing v with
  | zero => rfl
  | succ n ih => rw [bitsOfNat, List.length_cons, ih]

theorem natOfBits_bitsOfNat {n v : Nat} (h : v < 2 ^ n) : natOfBits (bitsOfNat n v) = v := by
  induction n generalizing v with
  | zero => rw [bitsOfNat, natOfBits]; omega
  | succ n ih =>
    have hbit : (decide (v % 2 = 1)).toNat = v % 2 := by obtain hv | hv := Nat.mod_two_eq_zero_or_one v <;> simp [hv]
    rw [bitsOfNat, natOfBits, ih (by omega), hbit]
    omega

/-- A field reads as the number that was written. -/
theorem getBits_bitsOfNat {n v : Nat} (h : v < 2 ^ n) (l : List Bool) : getBits n (bitsOfNat n v ++ l) = .ok (v, l) := by
  have hlen := length_bitsOfNat n v
  rw [getBits, if_neg (by rw [List.length_append]; omega), List.take_left' hlen, List.drop_left' hlen, natOfBits_bitsOfNat h]

theorem testBit_natOfBits (l : List Bool) (i : Nat) : (natOfBits l).testBit i = l.getD i false := by
  induction l generalizing i with
  | nil => simp [natOfBits]
  | cons b l ih =>
    have hb := b.toNat_lt
    have hdiv : (b.toNat + 2 * natOfBits l) / 2 = natOfBits l := by omega
    cases i with
    | zero => cases b <;> simp [natOfBits, Nat.testBit_zero]
    | succ i => rw [natOfBits, Nat.testBit_succ, hdiv, ih, List.getD_cons_succ]

/-! ## Bytes as bits -/

@[simp] theorem length_bitsOfByte (x : Byte) : (bitsOfByte x).length = 8 := rfl

theorem getD_bitsOfByte (x : Byte) (i : Nat) : (bitsOfByte x).getD i false = x.getLsbD i := by
  obtain hi | hi := Nat.lt_or_ge i 8
  · rw [List.getD_eq_getElem _ _ (by rwa [length_bitsOfByte])]
    simp only [bitsOfByte, List.getElem_map, List.getElem_range]
  · rw [List.getD_eq_default _ _ (by rwa [length_bitsOfByte]), BitVec.getLsbD_of_ge _ _ hi]

/-- A byte has the bits that it was made of, and zeros above them. -/
theorem bitsOfByte_natOfBits {l : List Bool} (h : l.length ≤ 8) :
    bitsOfByte (BitVec.ofNat 8 (natOfBits l)) = l ++ List.replicate (8 - l.length) false := by
  refine List.ext_getElem (by simp; omega) fun i hi _ => ?_
  have h8 : i < 8 := hi
  rw [← List.getD_eq_getElem _ false, ← List.getD_eq_getElem _ false, getD_bitsOfByte, BitVec.getLsbD_ofNat,
    testBit_natOfBits, decide_eq_true h8, Bool.true_and]
  obtain hl | hl := Nat.lt_or_ge i l.length
  · rw [List.getD_append _ _ _ _ hl]
  · rw [List.getD_append_right _ _ _ _ hl, List.getD_eq_default _ _ hl, List.getD_replicate _ (by omega)]

theorem natOfBits_bitsOfByte (x : Byte) : BitVec.ofNat 8 (natOfBits (bitsOfByte x)) = x := by
  refine BitVec.eq_of_getLsbD_eq fun i hi => ?_
  rw [BitVec.getLsbD_ofNat, testBit_natOfBits, getD_bitsOfByte, decide_eq_true hi, Bool.true_and]

theorem bitsOfBytes_cons (x : Byte) (b : List Byte) : bitsOfBytes (x :: b) = bitsOfByte x ++ bitsOfBytes b := rfl

theorem length_bitsOfBytes (b : List Byte) : (bitsOfBytes b).length = 8 * b.length := by
  induction b with
  | nil => rfl
  | cons x b ih => rw [bitsOfBytes_cons, List.length_append, ih, length_bitsOfByte, List.length_cons]; omega

/-- Bytes come back from their bits. -/
theorem bytesOfBits_bitsOfBytes (b : List Byte) : bytesOfBits b.length (bitsOfBytes b) = b := by
  induction b with
  | nil => rfl
  | cons x b ih =>
    have hlen := length_bitsOfByte x
    rw [List.length_cons, bytesOfBits, bitsOfBytes_cons, List.take_left' hlen, List.drop_left' hlen, ih,
      natOfBits_bitsOfByte]
    rfl

theorem bitsOfBytes_bytesOfBits {n : Nat} {l : List Bool} (h : l.length ≤ 8 * n) :
    ∃ pad, bitsOfBytes (bytesOfBits n l) = l ++ pad := by
  induction n generalizing l with
  | zero => exact ⟨[], by rw [List.length_eq_zero_iff.1 (Nat.le_zero.1 h)]; rfl⟩
  | succ n ih =>
    rw [bytesOfBits]
    split_ifs with hl
    · exact ⟨[], by rw [List.isEmpty_iff.1 hl]; rfl⟩
    obtain ⟨pad, hpad⟩ := ih (l := l.drop 8) (by rw [List.length_drop]; omega)
    rw [bitsOfBytes_cons, hpad, bitsOfByte_natOfBits (List.length_take_le ..)]
    obtain hlen | hlen := Nat.lt_or_ge l.length 8
    · exact ⟨List.replicate (8 - l.length) false ++ pad, by
        rw [List.take_of_length_le hlen.le, List.drop_of_length_le hlen.le, List.nil_append, List.append_assoc]⟩
    · exact ⟨pad, by
        rw [List.length_take_of_le hlen, Nat.sub_self, List.replicate_zero, List.append_nil, ← List.append_assoc,
          List.take_append_drop]⟩

/-- The bytes of a stream hold its bits, and what fills the last of them. -/
theorem bitsOfBytes_packBits (l : List Bool) : ∃ pad, bitsOfBytes (packBits l) = l ++ pad :=
  bitsOfBytes_bytesOfBits (by omega)

/-! ## Blocks -/

/-- A block begins with BFINAL and two bits of its type. -/
theorem getBits_header (final a c : Bool) (l : List Bool) :
    getBits 3 (final :: a :: c :: l) = .ok (final.toNat + 2 * (a.toNat + 2 * c.toNat), l) := by
  rw [getBits, if_neg (by simp)]
  simp [natOfBits]

section

variable (limit total : Nat) (out : List Byte) (final : Bool) (l : List Bool)

theorem inflateBlock_stored :
    let s : Inf := { out := out, rest := final :: false :: false :: l }
    inflateBlock limit total s = ((inflateStored limit total s l).1, final, (inflateStored limit total s l).2) := by
  intro s
  rw [inflateBlock, getBits_header]
  cases final <;> rfl

theorem inflateBlock_fixed :
    let r := inflateSyms limit fixedLit fixedDist (l.length + 1) { out := out, rest := l }
    inflateBlock limit total { out := out, rest := final :: true :: false :: l } = (r.1, final, r.2) := by
  intro r
  have hfinal : decide ((final.toNat + 2 * (true.toNat + 2 * false.toNat)) % 2 = 1) = final := by cases final <;> rfl
  have htype : (final.toNat + 2 * (true.toNat + 2 * false.toNat)) / 2 = 1 := by cases final <;> rfl
  simp only [inflateBlock, getBits_header, hfinal, htype, one_ne_zero, if_false, if_true, r]

end

/-- A stream whose first block is the last inflates to that block. -/
theorem inflateRaw_of_final {limit : Nat} {src : List Byte} {s : Inf} {e : Option InfErr}
    (h : inflateBlock limit (bitsOfBytes src).length { out := [], rest := bitsOfBytes src } = (s, true, e)) :
    (inflateRaw limit src).1 = s.out.reverse := by
  cases e <;> simp only [inflateRaw, inflateBlocks, h]

theorem putBytes_fits {limit : Nat} (b : List Byte) {out : List Byte} (h : out.length + b.length ≤ limit) :
    putBytes limit b out = (b.reverse ++ out, true) := by
  induction b generalizing out with
  | nil => rfl
  | cons x b ih =>
    rw [List.length_cons] at h
    rw [putBytes, if_neg (by omega), ih (by rw [List.length_cons]; omega), List.reverse_cons, List.append_assoc]
    rfl

/-- A stored block after its header inflates to its bytes. -/
theorem inflateStored_bytes {limit pos : Nat} {s : Inf} {b : List Byte} {rest : List Bool} (hb : b.length ≤ 65535)
    (hfit : s.out.length + b.length ≤ limit) :
    let l := List.replicate ((8 - (pos + 3) % 8) % 8) false ++ (bitsOfNat 16 b.length ++ (bitsOfNat 16 (65535 - b.length) ++
      (bitsOfBytes b ++ rest)))
    inflateStored limit (pos + 3 + l.length) s l = ({ out := b.reverse ++ s.out, rest := rest }, none) := by
  intro l
  have hbits := length_bitsOfBytes b
  have hhave : min b.length ((bitsOfBytes b ++ rest).length / 8) = b.length := by rw [List.length_append, hbits]; omega
  have hdone : (b.reverse ++ s.out).length - s.out.length = b.length := by
    rw [List.length_append, List.length_reverse, Nat.add_sub_cancel]
  have hpos : pos + 3 + l.length - l.length = pos + 3 := Nat.add_sub_cancel ..
  have hsum : ¬b.length + (65535 - b.length) ≠ 65535 := by omega
  simp only [inflateStored, hpos, l, List.drop_left' List.length_replicate,
    getBits_bitsOfNat (show b.length < 2 ^ 16 by omega), getBits_bitsOfNat (show 65535 - b.length < 2 ^ 16 by omega),
    hsum, if_false, hhave, List.take_left' hbits, bytesOfBits_bitsOfBytes, putBytes_fits b hfit, hdone,
    List.drop_left' hbits, lt_irrefl, Bool.not_true, Bool.false_eq_true]

/-- A stored block inflates to its bytes. -/
theorem inflateBlock_storedBlock {limit pos : Nat} (final : Bool) {b : List Byte} {out : List Byte} (rest : List Bool)
    (hb : b.length ≤ 65535) (hfit : out.length + b.length ≤ limit) :
    inflateBlock limit (pos + (storedBlock pos final b ++ rest).length)
      { out := out, rest := storedBlock pos final b ++ rest } = ({ out := b.reverse ++ out, rest := rest }, final, none) := by
  have hsplit : storedBlock pos final b ++ rest = final :: false :: false ::
      (List.replicate ((8 - (pos + 3) % 8) % 8) false ++ (bitsOfNat 16 b.length ++ (bitsOfNat 16 (65535 - b.length) ++
        (bitsOfBytes b ++ rest)))) := by
    simp only [storedBlock, List.append_assoc, List.cons_append, List.nil_append]
  have htotal (l : List Bool) : pos + (final :: false :: false :: l).length = pos + 3 + l.length := by
    simp only [List.length_cons]
    omega
  rw [hsplit, inflateBlock_stored, htotal, inflateStored_bytes hb hfit]

end Sys2Proof.Machine
end

section
/-! SUPPORT. The fixed codes of Deflate: the symbols and the matches of the compressed block read back (R351, RFC 1951). -/

namespace Sys2Proof.Machine

open Sys2Proof

/-! ## Codes -/

theorem walk_append {syms counts : List Nat} {code first index v : Nat} {l r : List Bool}
    (h : Huff.walk syms counts code first index l = .ok (v, r)) (rest : List Bool) :
    Huff.walk syms counts code first index (l ++ rest) = .ok (v, r ++ rest) := by
  induction counts generalizing code first index l with
  | nil => cases h
  | cons n counts ih =>
    cases l with
    | nil => cases h
    | cons b l =>
      simp only [Huff.walk, List.cons_append] at h ⊢
      split_ifs at h ⊢
      · cases h; rfl
      · exact ih h

/-- A code reads as its symbol whatever follows it. -/
theorem Huff.next_append {c : Huff} {v : Nat} {l : List Bool} (h : c.next l = .ok (v, [])) (rest : List Bool) :
    c.next (l ++ rest) = .ok (v, rest) := walk_append h rest

theorem fixedLit_eq : fixedLit =
    { counts := [0, 0, 0, 0, 0, 0, 24, 152, 112, 0, 0, 0, 0, 0, 0]
      syms := List.range' 256 24 ++ List.range 144 ++ List.range' 280 8 ++ List.range' 144 112 } :=
  (Huff.mk.injEq ..).mpr (by decide +kernel)

theorem fixedDist_eq : fixedDist =
    { counts := [0, 0, 0, 0, 32, 0, 0, 0, 0, 0, 0, 0, 0, 0, 0], syms := List.range 32 } :=
  (Huff.mk.injEq ..).mpr (by decide +kernel)

/-- The fixed code of a literal or length symbol reads as the symbol. -/
theorem fixedLit_next {v : Nat} (hv : v < 288) (rest : List Bool) : fixedLit.next (fixedSym v ++ rest) = .ok (v, rest) := by
  refine Huff.next_append ?_ rest
  rw [fixedLit_eq]
  revert v
  decide +kernel

/-- The fixed code of a distance symbol reads as the symbol. -/
theorem fixedDist_next {j : Nat} (hj : j < 32) (rest : List Bool) : fixedDist.next (codeBits 5 j ++ rest) = .ok (j, rest) := by
  refine Huff.next_append ?_ rest
  rw [fixedDist_eq]
  revert j
  decide +kernel

theorem length_fixedSym_pos (v : Nat) : 0 < (fixedSym v).length := by
  unfold fixedSym codeBits
  split_ifs <;> simp

/-! ## Tables of bases and extra bits -/

/-- The bases of a table rise, and the values of an entry reach up to the next base. -/
def Contiguous (t : List (Nat × Nat)) : Prop := t.IsChain fun e d => e.1 < d.1 ∧ d.1 ≤ e.1 + 2 ^ e.2

/-- A value within a table lies among those of the entry of its index. -/
theorem tableIndex_spec {e : Nat × Nat} {t : List (Nat × Nat)} {v : Nat} (ht : Contiguous (e :: t)) (hlo : e.1 ≤ v)
    (hhi : ∀ d ∈ (e :: t).getLast?, v < d.1 + 2 ^ d.2) :
    ∃ d, (e :: t)[tableIndex (e :: t) v]? = some d ∧ d.1 ≤ v ∧ v - d.1 < 2 ^ d.2 := by
  induction t generalizing e with
  | nil =>
    have := hhi e rfl
    exact ⟨e, by simp [tableIndex, hlo], hlo, by omega⟩
  | cons d t ih =>
    obtain ⟨⟨hlt, hreach⟩, hrest⟩ := List.isChain_cons_cons.1 ht
    by_cases hd : d.1 ≤ v
    · have hindex : tableIndex (e :: d :: t) v = tableIndex (d :: t) v + 1 := by simp [tableIndex, hlo, hd]
      rw [hindex, List.getElem?_cons_succ]
      exact ih hrest hd (by simpa using hhi)
    · have habove : ∀ x ∈ d :: t, ¬x.1 ≤ v := by
        have hrise : ((d :: t).map Prod.fst).Pairwise (· < ·) :=
          List.isChain_iff_pairwise.1 ((List.isChain_map _).2 (hrest.imp fun _ _ h => h.1))
        rintro x (_ | ⟨_, hx⟩)
        · exact hd
        · have := List.rel_of_pairwise_cons hrise (List.mem_map_of_mem hx)
          omega
      have hindex : tableIndex (e :: d :: t) v = 0 := by
        rw [tableIndex, List.filter_cons_of_pos (by simpa using hlo), List.filter_eq_nil_iff.2 (by simpa using habove)]
        rfl
      exact ⟨e, by rw [hindex]; rfl, hlo, by omega⟩

theorem contiguous_lengthTable : Contiguous lengthTable := by unfold Contiguous; decide

theorem contiguous_distTable : Contiguous distTable := by unfold Contiguous; decide

/-! ## Matches -/

theorem exists_lengthTable {n : Nat} (hlo : 3 ≤ n) (hhi : n ≤ 258) :
    ∃ e, lengthTable[tableIndex lengthTable n]? = some e ∧ e.1 ≤ n ∧ n - e.1 < 2 ^ e.2 :=
  tableIndex_spec contiguous_lengthTable hlo fun d hd => by cases hd; exact Nat.lt_succ_of_le hhi

theorem exists_distTable {d : Nat} (hlo : 1 ≤ d) (hhi : d ≤ 32768) :
    ∃ e, distTable[tableIndex distTable d]? = some e ∧ e.1 ≤ d ∧ d - e.1 < 2 ^ e.2 :=
  tableIndex_spec contiguous_distTable hlo fun e he => by cases he; exact Nat.lt_succ_of_le hhi

/-- A match is the symbol of its length, and bits that read as its length and its distance. -/
theorem exists_matchBits {n d : Nat} (hn : 3 ≤ n) (hn' : n ≤ 258) (hd : 1 ≤ d) (hd' : d ≤ 32768) :
    ∃ i bits, i < 29 ∧ matchBits n d = fixedSym (257 + i) ++ bits ∧
      ∀ rest, matchOf fixedDist (257 + i) (bits ++ rest) = .ok ((n, d), rest) := by
  obtain ⟨⟨base, extra⟩, he, hle, hlt⟩ := exists_lengthTable hn hn'
  obtain ⟨⟨dbase, dextra⟩, hb, hdle, hdlt⟩ := exists_distTable hd hd'
  have hi : tableIndex lengthTable n < 29 := (List.getElem?_eq_some_iff.1 he).1
  have hj : tableIndex distTable d < 30 := (List.getElem?_eq_some_iff.1 hb).1
  refine ⟨_, bitsOfNat extra (n - base) ++ (codeBits 5 (tableIndex distTable d) ++ bitsOfNat dextra (d - dbase)), hi, ?_,
    fun rest => ?_⟩
  · simp only [matchBits, List.getD_eq_getElem?_getD, he, hb, Option.getD_some, List.append_assoc]
  · unfold matchOf
    simp only [Nat.add_sub_cancel_left, he, List.append_assoc, getBits_bitsOfNat hlt,
      fixedDist_next (show tableIndex distTable d < 32 by omega), hb, getBits_bitsOfNat hdlt, Nat.add_sub_cancel' hle,
      Nat.add_sub_cancel' hdle]

/-- A run of n bytes of a string from i on that stands already from k on, of a length that has a symbol. -/
structure IsRepeat (b : List Byte) (i k n : Nat) : Prop where
  earlier : k < i
  least   : 3 ≤ n
  most    : n ≤ 258
  within  : i + n ≤ b.length
  same    : ∀ j < n, b[k + j]? = b[i + j]?

/-- The output after i bytes of a string, newest first, with the next byte. -/
theorem cons_reverse_take {b : List Byte} {i : Nat} (hi : i < b.length) :
    b[i] :: (b.take i).reverse = (b.take (i + 1)).reverse := by
  rw [List.take_succ_eq_append_getElem hi, List.reverse_append, List.reverse_singleton, List.singleton_append]

/-- Bytes copied from where they stand already give the next bytes of a string that repeats itself there. -/
theorem copyBack_repeats {limit i k n : Nat} {b : List Byte} (hk : k < i) (hin : i + n ≤ b.length)
    (hlimit : b.length ≤ limit) (heq : ∀ j < n, b[k + j]? = b[i + j]?) :
    copyBack limit (i - k) n (b.take i).reverse = ((b.take (i + n)).reverse, true) := by
  induction n generalizing i k with
  | zero => rfl
  | succ n ih =>
    have hlen : (b.take i).length = i := List.length_take_of_le (by omega)
    have hi : i < b.length := by omega
    have hki : b[k]? = b[i]? := heq 0 (by omega)
    have hbyte : (b.take i).reverse.getD (i - k - 1) 0 = b[i] := by
      rw [List.getD_eq_getElem?_getD, List.getElem?_reverse (by omega), hlen, show i - 1 - (i - k - 1) = k by omega,
        List.getElem?_take_of_lt hk, hki, List.getElem?_eq_getElem hi, Option.getD_some]
    rw [copyBack, if_neg (by rw [List.length_reverse, hlen]; omega), hbyte, cons_reverse_take hi,
      show i - k = i + 1 - (k + 1) by omega, ih (by omega) (by omega) fun j hj => ?_, show i + 1 + n = i + (n + 1) by omega]
    have := heq (j + 1) (by omega)
    rwa [show k + 1 + j = k + (j + 1) by omega, show i + 1 + j = i + (j + 1) by omega]

/-! ## The symbols of a block, read one by one

`inflateSyms` is unfolded by `dsimp` here: its equation lemmas, which `rw` and `simp` would use, exceed the recursion depth. -/

section

variable (limit fuel : Nat) (out : List Byte) (l : List Bool)

theorem inflateSyms_end {lit dist : Huff} {s : Inf} (h : lit.next s.rest = .ok (256, l)) :
    inflateSyms limit lit dist (fuel + 1) s = ({ out := s.out, rest := l }, none) := by
  dsimp only [inflateSyms]
  simp only [h, if_true]

theorem inflateSyms_literal (x : Byte) (h : out.length < limit) :
    inflateSyms limit fixedLit fixedDist (fuel + 1) { out := out, rest := fixedSym x.toNat ++ l } =
      inflateSyms limit fixedLit fixedDist fuel { out := x :: out, rest := l } := by
  have hx : x.toNat < 256 := x.isLt
  dsimp only [inflateSyms]
  simp only [fixedLit_next (show x.toNat < 288 by omega), if_neg hx.ne, if_pos hx, if_neg h.not_ge,
    BitVec.ofNat_toNat, BitVec.setWidth_eq]

theorem inflateSyms_match {i k n : Nat} {b : List Byte} (h : IsRepeat b i k n) (hlimit : b.length ≤ limit)
    (hwindow : b.length ≤ 32768) :
    inflateSyms limit fixedLit fixedDist (fuel + 1) { out := (b.take i).reverse, rest := matchBits n (i - k) ++ l } =
      inflateSyms limit fixedLit fixedDist fuel { out := (b.take (i + n)).reverse, rest := l } := by
  obtain ⟨hk, hn, hn', hin, heq⟩ := h
  obtain ⟨sym, bits, hsym, hbits, hmatch⟩ := exists_matchBits (d := i - k) hn hn' (by omega) (by omega)
  have hlen : (b.take i).reverse.length = i := by rw [List.length_reverse, List.length_take_of_le (by omega)]
  rw [hbits, List.append_assoc]
  dsimp only [inflateSyms]
  simp only [fixedLit_next (show 257 + sym < 288 by omega), if_neg (show 257 + sym ≠ 256 by omega),
    if_neg (show ¬257 + sym < 256 by omega), hmatch, hlen, if_neg (show ¬i < i - k by omega),
    copyBack_repeats hk hin hlimit heq, if_true]

end

end Sys2Proof.Machine
end

section
/-! OBLIGATIONS. CBLK by its units, and the block that it writes, which inflates to its input (O27). -/

namespace Sys2Proof.Machine

open Sys2Proof Sys2Proof.Stated

/-! ## Matches and literals of a unit (R352) -/

theorem equalRun_le (n : Nat) (l m : List Byte) : equalRun n l m ≤ n := by
  fun_induction equalRun n l m <;> omega

theorem getElem?_of_lt_equalRun {n j : Nat} {l m : List Byte} (h : j < equalRun n l m) : l[j]? = m[j]? := by
  fun_induction equalRun n l m generalizing j with
  | case1 n x l m ih =>
    cases j with
    | zero => rfl
    | succ j => exact ih (by omega)
  | case2 | case3 => exact absurd h (Nat.not_lt_zero j)

/-- Every position of a table lies before a position. -/
def Earlier (table : List (Nat × Nat)) (i : Nat) : Prop := ∀ e ∈ table, e.2 < i

theorem Earlier.mono {table : List (Nat × Nat)} {i j : Nat} (h : Earlier table i) (hij : i ≤ j) : Earlier table j :=
  fun e he => (h e he).trans_le hij

theorem Earlier.sput {table : List (Nat × Nat)} {i : Nat} (h : Earlier table i) (k : Nat) :
    Earlier (sput table k i) (i + 1) := by
  intro e he
  obtain rfl | he := mem_sput he
  · exact Nat.lt_succ_self i
  · exact (h e he).trans (Nat.lt_succ_self i)

theorem Earlier.of_lookup {table : List (Nat × Nat)} {i h k : Nat} (ht : Earlier table i)
    (hk : table.lookup h = some k) : k < i := by
  obtain ⟨_, _, rfl, -⟩ := List.lookup_eq_some_iff.1 hk
  exact ht (h, k) (by simp)

/-- A position gives a literal or a match with bytes before it; the positions noted lie before the next (R352). -/
theorem cblkSyms_step {b : List Byte} {fuel i : Nat} {table : List (Nat × Nat)} (hi : i < b.length) (ht : Earlier table i) :
    ∃ next, Earlier next (i + 1) ∧
      (cblkSyms b (fuel + 1) table i = fixedSym b[i].toNat ++ cblkSyms b fuel next (i + 1) ∨
      ∃ k n, IsRepeat b i k n ∧ cblkSyms b (fuel + 1) table i = matchBits n (i - k) ++ cblkSyms b fuel next (i + n)) := by
  have hdrop := List.drop_eq_getElem_cons hi
  generalize hx : b[i] = x at hdrop ⊢
  rw [cblkSyms]
  rcases hrest : b.drop (i + 1) with _ | ⟨y, _ | ⟨z, rest⟩⟩ <;> rw [hrest] at hdrop <;> rw [hdrop]
  · exact ⟨table, ht.mono (Nat.le_succ i), .inl rfl⟩
  · exact ⟨table, ht.mono (Nat.le_succ i), .inl rfl⟩
  · refine ⟨_, ht.sput (cblkHash x y z), ?_⟩
    dsimp only
    split
    case h_1 k hk =>
      rw [← hdrop]
      split_ifs with hn
      · have hle := equalRun_le (min 258 (b.length - i)) (b.drop k) (b.drop i)
        refine .inr ⟨k, _, ⟨ht.of_lookup hk, hn, by omega, by omega, fun j hj => ?_⟩, rfl⟩
        simpa only [List.getElem?_drop] using getElem?_of_lt_equalRun hj
      · exact .inl rfl
    case h_2 => exact .inl rfl

/-- The symbols of a unit, then the end of the block, inflate to the rest of its bytes. -/
theorem inflateSyms_cblkSyms {limit : Nat} {b : List Byte} (hlimit : b.length ≤ limit) (hwindow : b.length ≤ 32768)
    (rest : List Bool) {fuel i steps : Nat} {table : List (Nat × Nat)} (hi : i ≤ b.length) (hfuel : b.length ≤ i + fuel)
    (ht : Earlier table i) (hsteps : (cblkSyms b fuel table i).length < steps) :
    inflateSyms limit fixedLit fixedDist steps
      { out := (b.take i).reverse, rest := cblkSyms b fuel table i ++ (fixedSym 256 ++ rest) } =
      ({ out := b.reverse, rest := rest }, none) := by
  induction fuel generalizing i steps table with
  | zero =>
    obtain ⟨steps, rfl⟩ := Nat.exists_eq_succ_of_ne_zero (Nat.ne_zero_of_lt hsteps)
    obtain rfl : i = b.length := by omega
    rw [cblkSyms, List.take_length]
    exact inflateSyms_end _ _ _ (fixedLit_next (by decide) rest)
  | succ fuel ih =>
    obtain ⟨steps, rfl⟩ := Nat.exists_eq_succ_of_ne_zero (Nat.ne_zero_of_lt hsteps)
    obtain rfl | hi := hi.eq_or_lt
    · rw [cblkSyms, List.drop_length, List.take_length]
      exact inflateSyms_end _ _ _ (fixedLit_next (by decide) rest)
    obtain ⟨next, hnext, hlit | ⟨k, n, hrep, hmatch⟩⟩ := cblkSyms_step (fuel := fuel) hi ht
    · have hsym := length_fixedSym_pos b[i].toNat
      have hlen : (b.take i).reverse.length = i := by rw [List.length_reverse, List.length_take_of_le hi.le]
      rw [hlit, List.length_append] at hsteps
      rw [hlit, List.append_assoc, inflateSyms_literal _ _ _ _ _ (by rw [hlen]; omega), cons_reverse_take hi]
      exact ih hi (by omega) hnext (by omega)
    · have hpos := hrep.least
      have hsym : 0 < (matchBits n (i - k)).length := by rw [matchBits]; simp [length_fixedSym_pos]
      rw [hmatch, List.length_append] at hsteps
      rw [hmatch, List.append_assoc, inflateSyms_match _ _ _ hrep hlimit hwindow]
      exact ih hrep.within (by omega) (hnext.mono (by omega)) (by omega)

/-- The bits of the compressed block of a unit (R351). -/
def cblkBits (b : List Byte) (final : Bool) : List Bool :=
  [final, true, false] ++ cblkSyms b b.length [] 0 ++ fixedSym 256

theorem cblkUnit_last (b : List Byte) : cblkUnit b true =
    if 5 + b.length < (cblkFixed b true).length then packBits (storedBlock 0 true b) else packBits (cblkBits b true) := rfl

/-- The compressed block of a unit inflates to its bytes. -/
theorem inflateBlock_cblkBits {limit total : Nat} {b : List Byte} (final : Bool) (hlimit : b.length ≤ limit)
    (hwindow : b.length ≤ 32768) (rest : List Bool) :
    inflateBlock limit total { out := [], rest := cblkBits b final ++ rest } =
      ({ out := b.reverse, rest := rest }, final, none) := by
  have hsteps : (cblkSyms b b.length [] 0).length < (cblkSyms b b.length [] 0 ++ (fixedSym 256 ++ rest)).length + 1 := by
    rw [List.length_append]
    omega
  have hsyms := inflateSyms_cblkSyms hlimit hwindow rest (Nat.zero_le _) (Nat.zero_add _).ge (List.forall_mem_nil _) hsteps
  rw [List.take_zero, List.reverse_nil] at hsyms
  simp only [cblkBits, List.append_assoc, List.cons_append, List.nil_append]
  rw [inflateBlock_fixed, hsyms]

/-- Bits that are one last block, packed into bytes, inflate to the bytes of the block. -/
theorem inflateRaw_packBits {limit : Nat} {bits : List Bool} {b : List Byte}
    (h : ∀ rest : List Bool, inflateBlock limit (bits ++ rest).length { out := [], rest := bits ++ rest } =
      ({ out := b.reverse, rest := rest }, true, none)) : (inflateRaw limit (packBits bits)).1 = b := by
  obtain ⟨pad, hpad⟩ := bitsOfBytes_packBits bits
  rw [inflateRaw_of_final (by rw [hpad]; exact h pad), List.reverse_reverse]

/-- The output of a last unit inflates to its bytes, in the compressed form and in the stored one (R351). -/
theorem inflateRaw_cblkUnit {limit : Nat} {b : List Byte} (hlimit : b.length ≤ limit) (hwindow : b.length ≤ 32768) :
    (inflateRaw limit (cblkUnit b true)).1 = b := by
  rw [cblkUnit_last]
  split_ifs
  case pos =>
    refine inflateRaw_packBits fun rest => ?_
    have hstored := inflateBlock_storedBlock (limit := limit) (pos := 0) (b := b) (out := []) true rest (by omega)
      (by simpa using hlimit)
    rwa [Nat.zero_add, List.append_nil] at hstored
  case neg => exact inflateRaw_packBits fun rest => inflateBlock_cblkBits true hlimit hwindow rest

/-! ## CBLK by its units -/

theorem packBits_ne_nil {l : List Bool} (h : l ≠ []) : packBits l ≠ [] := by
  rw [packBits, bytesOfBits, if_neg (by simpa using h)]
  exact List.cons_ne_nil _ _

/-- A unit stores a byte at least: the header of its block. -/
theorem length_cblkUnit_pos (b : List Byte) (final : Bool) : 0 < (cblkUnit b final).length := by
  rw [List.length_pos_iff, cblkUnit, cblkFixed]
  split_ifs <;> exact packBits_ne_nil (List.cons_ne_nil _ _)

/-- Settles O27: a unit compresses what it reads, and the two forms of its output inflate to it. -/
theorem compressedBlocks : Obligations.CompressedBlocks := by
  refine ⟨fun s u f p q hf hrsv _ _ _ hab hbd hda => ?_, fun b hb => inflateRaw_cblkUnit hb (hb.trans (by decide))⟩
  intro a ra rd rb n out hn hr hw hroom
  obtain ⟨t, ht, hread⟩ := readBlock_reads hr
  refine ends_execute hf rfl (by simp [Legal.ok, hrsv]) ?_
  rw [State.compressUnit, if_neg hn.ne', hread]
  have hpos : 0 < out.length := length_cblkUnit_pos _ _
  exact conclude_storeUnit ht hw hpos hroom (by simp [hab, hbd.symm, hda.symm]) _

end Sys2Proof.Machine
end

section
/-! SUPPORT. The states that a command leads to keep the queue's rest, and their sparse maps stay canonical: `Onward s t`, and
the same of what an instruction, a load and a management command come to (for O58 and O59). -/

namespace Sys2Proof.Machine

open Sys2Proof

/-- `State.takeAck` over any difference of PSNs: the kernel then has no reason to compute with PSNs when it compares states. -/
def State.takeAckBy (diff : Nat → Nat → Nat) (s : State) (r : SessRef) (apsn window : Nat) : State :=
  match s.session? r with
  | none => s
  | some x =>
    let x := if diff apsn x.hostApsn ≤ diff x.nextPsn x.hostApsn then { x with hostWin := window, hostApsn := apsn } else x
    match x.unacked with
    | [] => (s.setSession x).pushAll r
    | p :: _ =>
      let n := diff apsn p.psn
      if 0 < n ∧ n ≤ x.unacked.length then
        let acked := x.unacked.take n
        let s := s.setSession { x with unacked := x.unacked.drop n, rtoFrom := s.time, expiries := 0 }
        (s.freeAnswers x.plot (acked.flatMap (·.answers))).pushAll r
      else (s.setSession x).pushAll r

theorem State.takeAck_eq_takeAckBy (s : State) (r : SessRef) (apsn window : Nat) :
    s.takeAck r apsn window = s.takeAckBy psnDiff r apsn window := rfl

/-- The parts of a state that the queue and the sparse maps in canonical form are. -/
def State.essence (s : State) := (s.pending, s.ctl.regs, s.mem.cells, s.units, s.pairs, s.clusters)

/-- A state that may come after another within a step: the queue is as it was, and the sparse maps are canonical where they
were. -/
structure Onward (s t : State) : Prop where
  pending   : t.pending = s.pending
  canonical : s.canonical = true → t.canonical = true

theorem State.canonical_iff (s : State) : s.canonical = true ↔
    swf blankByte s.mem.cells = true ∧ swf regReset s.ctl.regs = true ∧ swf (fun _ => CoreUnit.reset) s.units = true ∧
    swf (fun _ => Pair.reset) s.pairs = true ∧ swf (fun _ => Cluster.reset) s.clusters = true := by
  simp only [State.canonical, Mem.wf, Bool.and_eq_true, and_assoc]

/-- A map without some of its entries is as canonical as it was. -/
theorem swf_filter {α : Type} [DecidableEq α] {d : Nat → α} {l : List (Nat × α)} (p : Nat × α → Bool) (h : swf d l = true) :
    swf d (l.filter p) = true := by
  simp only [swf, Bool.and_eq_true] at h ⊢
  obtain ⟨hr, hl⟩ := h
  constructor
  case left =>
    generalize 0 = b at hr ⊢
    clear hl
    induction l generalizing b with
    | nil => rfl
    | cons e l ih =>
      simp only [srising, Bool.and_eq_true, decide_eq_true_eq] at hr
      rw [List.filter_cons]
      split
      · simp only [srising, Bool.and_eq_true, decide_eq_true_eq]
        exact ⟨hr.1, ih _ hr.2⟩
      · exact srising_mono (by omega) (ih _ hr.2)
  case right =>
    clear hr
    induction l with
    | nil => rfl
    | cons e l ih =>
      simp only [slean, Bool.and_eq_true] at hl
      rw [List.filter_cons]
      split
      · simp only [slean, Bool.and_eq_true]
        exact ⟨hl.1, ih hl.2⟩
      · exact ih hl.2

/-- An end of an instruction whose state may come after. -/
inductive Concludes (s : State) : Eff → Prop
  | done {t : State} (h : Onward s t) : Concludes s (.done t)
  | jump {t : State} {pc : Word} (h : Onward s t) : Concludes s (.jump t pc)
  | part {t : State} (h : Onward s t) : Concludes s (.part t)
  | back {t : State} (h : Onward s t) : Concludes s (.back t)
  | exc {t : State} {e : Exc} (h : Onward s t) : Concludes s (.exc t e)
  | stop {c : HaltCause} {hits : Nat} : Concludes s (.stop c hits)
  | hold {t : State} (h : Onward s t) : Concludes s (.hold t)
  | ended {t : State} (h : Onward s t) : Concludes s (.ended t)

namespace Onward

variable {s t r : State}

theorem refl (s : State) : Onward s s := ⟨rfl, id⟩

theorem trans (h : Onward s t) (g : Onward t r) : Onward s r := ⟨g.pending.trans h.pending, g.canonical ∘ h.canonical⟩

/-- A state with the same essence comes after as well. -/
theorem keep (h : Onward s t) (he : r.essence = t.essence := by rfl) : Onward s r := by
  simp only [State.essence, Prod.mk.injEq] at he
  obtain ⟨hp, hc, hm, hu, hq, hk⟩ := he
  refine ⟨hp ▸ h.pending, fun hs => ?_⟩
  simpa only [State.canonical_iff, hc, hm, hu, hq, hk] using h.canonical hs

/-! ## Shapes of a program -/

section Shapes

variable {α β : Type} {c : Prop} {_ : Decidable c}

theorem ite (h : Onward s t) (g : Onward s r) : Onward s (if c then t else r) := by
  split
  exacts [h, g]

theorem ite1 {x y : State × α} (h : Onward s x.1) (g : Onward s y.1) : Onward s (if c then x else y).1 := by
  split
  exacts [h, g]

theorem pair {x : α} (h : Onward s t) : Onward s (t, x).1 := h

theorem fst {x : State × α} {a : α} (h : Onward s x.1) (he : x = (r, a)) : Onward s r := by
  subst he
  exact h

theorem getD {o : Option State} (h : Onward s t) (ho : ∀ r, o = some r → Onward s r) : Onward s (o.getD t) := by
  cases o
  exacts [h, ho _ rfl]

theorem foldl {f : State → α → State} {l : List α} (h : Onward s t) (hf : ∀ r x, Onward s r → Onward s (f r x)) :
    Onward s (l.foldl f t) := by
  induction l generalizing t with
  | nil => exact h
  | cons x l ih => exact ih (hf _ _ h)

theorem foldl1 {f : State × β → α → State × β} {l : List α} {x : State × β} (h : Onward s x.1)
    (hf : ∀ y x, Onward s y.1 → Onward s (f y x).1) : Onward s (l.foldl f x).1 := by
  induction l generalizing x with
  | nil => exact h
  | cons y l ih => exact ih (hf _ _ h)

theorem cond {b : Bool} (h : Onward s t) (g : Onward s r) : Onward s (bif b then t else r) := by
  cases b
  exacts [g, h]

end Shapes


/-! ## The named operations over the state -/

section Ops

theorem mapGleaner {f : Gleaner → Gleaner} (h : Onward s t) : Onward s (t.mapGleaner f) := h.keep
theorem mapAlmanac {f : Almanac → Almanac} (h : Onward s t) : Onward s (t.mapAlmanac f) := h.keep
theorem mapTick {f : Tick → Tick} (h : Onward s t) : Onward s (t.mapTick f) := h.keep
theorem mapStakes {f : Stakes → Stakes} (h : Onward s t) : Onward s (t.mapStakes f) := h.keep
theorem mapJournal {f : Journal → Journal} (h : Onward s t) : Onward s (t.mapJournal f) := h.keep
theorem mapTwin {f : Twin → Twin} (h : Onward s t) : Onward s (t.mapTwin f) := h.keep
theorem mapEth {f : Eth → Eth} (h : Onward s t) : Onward s (t.mapEth f) := h.keep
theorem mapPlots {f : Plots → Plots} (h : Onward s t) : Onward s (t.mapPlots f) := h.keep
theorem mapSower {f : Sower → Sower} (h : Onward s t) : Onward s (t.mapSower f) := h.keep
theorem mapSteward {f : Steward → Steward} (h : Onward s t) : Onward s (t.mapSteward f) := h.keep
theorem mapWarp {f : Warp → Warp} (h : Onward s t) : Onward s (t.mapWarp f) := h.keep
theorem mapThresher {f : Thresher → Thresher} (h : Onward s t) : Onward s (t.mapThresher f) := h.keep
theorem mapCipher {f : Cipher → Cipher} (h : Onward s t) : Onward s (t.mapCipher f) := h.keep
theorem mapFurrow {f : Furrow → Furrow} (h : Onward s t) : Onward s (t.mapFurrow f) := h.keep
theorem mapWeft {f : Weft → Weft} (h : Onward s t) : Onward s (t.mapWeft f) := h.keep
theorem mapFuses {f : Fuses → Fuses} (h : Onward s t) : Onward s (t.mapFuses f) := h.keep
theorem mapMram {f : Mram → Mram} (h : Onward s t) : Onward s (t.mapMram f) := h.keep
theorem mapEvral {f : Evral → Evral} (h : Onward s t) : Onward s (t.mapEvral f) := h.keep
theorem mapBoot {f : Boot → Boot} (h : Onward s t) : Onward s (t.mapBoot f) := h.keep
theorem mapPower {f : Power → Power} (h : Onward s t) : Onward s (t.mapPower f) := h.keep

theorem mapCtl {f : Ctl → Ctl} (h : Onward s t) (hf : (f t.ctl).regs = t.ctl.regs := by rfl) : Onward s (t.mapCtl f) :=
  h.keep (by simp only [State.essence, mapCtl_ctl, hf]; rfl)

theorem mapMem {f : Mem → Mem} (h : Onward s t) (hf : (f t.mem).cells = t.mem.cells := by rfl) : Onward s (t.mapMem f) :=
  h.keep (by simp only [State.essence, mapMem_mem, hf]; rfl)

/-- Bytes of memory are forgotten. -/
theorem filterCells {p : Nat × Byte → Bool} (h : Onward s t) :
    Onward s (t.mapMem fun m => { m with cells := m.cells.filter p }) := by
  refine ⟨h.pending, fun hs => ?_⟩
  obtain ⟨hm, hc⟩ := t.canonical_iff.mp (h.canonical hs)
  exact (State.canonical_iff _).mpr ⟨swf_filter _ hm, hc⟩

/-- Bytes of memory are forgotten, and poison with them. -/
theorem filterMem {p : Nat × Byte → Bool} {q : Nat → Bool} (h : Onward s t) :
    Onward s (t.mapMem fun m => { m with cells := m.cells.filter p, poison := m.poison.filter q }) := by
  refine ⟨h.pending, fun hs => ?_⟩
  obtain ⟨hm, hc⟩ := t.canonical_iff.mp (h.canonical hs)
  exact (State.canonical_iff _).mpr ⟨swf_filter _ hm, hc⟩

theorem emit {o : Out} (h : Onward s t) : Onward s (t.emit o) := h.keep
theorem advance {n : Nat} (h : Onward s t) : Onward s (t.advance n) := h.keep
theorem idle (h : Onward s t) : Onward s t.idle := h.keep
theorem drawn (h : Onward s t) : Onward s t.drawn := h.keep

theorem setReg {off : Nat} {v : Word} (h : Onward s t) : Onward s (t.setReg off v) := by
  refine ⟨h.pending, fun hs => ?_⟩
  obtain ⟨hm, hc, hu⟩ := t.canonical_iff.mp (h.canonical hs)
  exact (State.canonical_iff _).mpr ⟨hm, swf_sset _ _ hc, hu⟩

theorem setUnit {u : Nat} {x : CoreUnit} (h : Onward s t) : Onward s (t.setUnit u x) := by
  refine ⟨h.pending, fun hs => ?_⟩
  obtain ⟨hm, hc, hu, hp⟩ := t.canonical_iff.mp (h.canonical hs)
  exact (State.canonical_iff _).mpr ⟨hm, hc, swf_sset _ _ hu, hp⟩

theorem setPair {p : Nat} {x : Pair} (h : Onward s t) : Onward s (t.setPair p x) := by
  refine ⟨h.pending, fun hs => ?_⟩
  obtain ⟨hm, hc, hu, hp, hk⟩ := t.canonical_iff.mp (h.canonical hs)
  exact (State.canonical_iff _).mpr ⟨hm, hc, hu, swf_sset _ _ hp, hk⟩

theorem setCluster {c : Nat} {x : Cluster} (h : Onward s t) : Onward s (t.setCluster c x) := by
  refine ⟨h.pending, fun hs => ?_⟩
  obtain ⟨hm, hc, hu, hp, hk⟩ := t.canonical_iff.mp (h.canonical hs)
  exact (State.canonical_iff _).mpr ⟨hm, hc, hu, hp, swf_sset _ _ hk⟩

theorem setByte {a : Nat} {b : Byte} (h : Onward s t) : Onward s (t.setByte a b) := by
  refine ⟨h.pending, fun hs => ?_⟩
  obtain ⟨hm, hc⟩ := t.canonical_iff.mp (h.canonical hs)
  exact (State.canonical_iff _).mpr ⟨setByte_keeps_wf t a b hm, hc⟩

theorem setBytes {a : Nat} {l : List Byte} (h : Onward s t) : Onward s (t.setBytes a l) := by
  induction l generalizing t a with
  | nil => exact h
  | cons b l ih => exact ih h.setByte

theorem wipe {a n : Nat} (h : Onward s t) : Onward s (t.wipe a n) := by
  refine ⟨h.pending, fun hs => ?_⟩
  obtain ⟨hm, hc⟩ := t.canonical_iff.mp (h.canonical hs)
  exact (State.canonical_iff _).mpr ⟨swf_filter _ hm, hc⟩

end Ops

end Onward

namespace Concludes

variable {s t : State}

theorem ite {c : Prop} {_ : Decidable c} {x y : Eff} (h : Concludes s x) (g : Concludes s y) :
    Concludes s (if c then x else y) := by
  split
  exacts [h, g]

end Concludes

/-- What comes of a load, whose state may come after. -/
structure Loads (s : State) (l : Load) : Prop where
  got  : ∀ {r b}, l = .got r b → Onward s r
  wait : ∀ {r}, l = .wait r → Onward s r
  exc  : ∀ {r e}, l = .exc r e → Onward s r

namespace Loads

variable {s t : State}

theorem of_got {b : List Byte} (h : Onward s t) : Loads s (.got t b) := ⟨fun e => by cases e; exact h, nofun, nofun⟩
theorem of_wait (h : Onward s t) : Loads s (.wait t) := ⟨nofun, fun e => by cases e; exact h, nofun⟩
theorem of_exc {e : Exc} (h : Onward s t) : Loads s (.exc t e) := ⟨nofun, nofun, fun e => by cases e; exact h⟩

theorem ite {c : Prop} {_ : Decidable c} {x y : Load} (h : Loads s x) (g : Loads s y) : Loads s (if c then x else y) := by
  split
  exacts [h, g]

end Loads

/-- What comes of a command that runs, whose state may come after. -/
inductive Replies (s : State) : CmdEnd → Prop
  | ok {t : State} {b : List (List Byte)} (h : Onward s t) : Replies s (.ok t b)
  | err {t : State} {st : Nat} (h : Onward s t) : Replies s (.err t st)
  | wait {t : State} (h : Onward s t) : Replies s (.wait t)

theorem Replies.ite {s : State} {c : Prop} {_ : Decidable c} {x y : CmdEnd} (h : Replies s x) (g : Replies s y) :
    Replies s (if c then x else y) := by
  split
  exacts [h, g]

/-- A command that goes on to a state that may come after. -/
inductive Goes (s : State) : Ans → Prop
  | next {t : State} (h : Onward s t) : Goes s (.next t)

theorem Goes.ite {s : State} {c : Prop} {_ : Decidable c} {x y : Ans} (h : Goes s x) (g : Goes s y) :
    Goes s (if c then x else y) := by
  split
  exacts [h, g]
end Sys2Proof.Machine
end

section
/-! SUPPORT. Every function of the model leads onward: one lemma per function, in the order of the model's files, by the
shape of the function's body (for O58 and O59). -/

namespace Sys2Proof.Machine

open Sys2Proof

namespace Onward

variable {s t r : State}

/-! ## Machine/Ops -/

theorem setFld {off hi lo v : Nat} (h : Onward s t) : Onward s (t.setFld off hi lo v) := h.setReg

theorem setBit {off b : Nat} {v : Bool} (h : Onward s t) : Onward s (t.setBit off b v) := h.setFld

theorem setReg64 {lo v : Nat} (h : Onward s t) : Onward s (t.setReg64 lo v) := h.setReg.setReg

theorem count {off n : Nat} (h : Onward s t) : Onward s (t.count off n) := h.setReg

theorem countFld {off hi lo n : Nat} (h : Onward s t) : Onward s (t.countFld off hi lo n) := h.setFld

theorem mapUnit {u : Nat} {f : CoreUnit → CoreUnit} (h : Onward s t) : Onward s (t.mapUnit u f) := h.setUnit

theorem mapPair {p : Nat} {f : Pair → Pair} (h : Onward s t) : Onward s (t.mapPair p f) := h.setPair

theorem mapCluster {c : Nat} {f : Cluster → Cluster} (h : Onward s t) : Onward s (t.mapCluster c f) := h.setCluster

theorem mapPort {p : Nat} {f : Port → Port} (h : Onward s t) : Onward s (t.mapPort p f) := h.mapEth

theorem mapLink {l : Nat} {f : WLink → WLink} (h : Onward s t) : Onward s (t.mapLink l f) := h.mapWeft

theorem setPlot {p : Nat} {x2 : Plot} (h : Onward s t) : Onward s (t.setPlot p x2) := h.mapPlots

theorem dropPlot {p : Nat} (h : Onward s t) : Onward s (t.dropPlot p) := h.mapPlots

theorem mapPlot {p : Nat} {f : Plot → Plot} (h : Onward s t) : Onward s (t.mapPlot p f) := by
  unfold State.mapPlot
  split
  exacts [h.setPlot, h]

theorem mapQpair {p q : Nat} {f : QPair → QPair} (h : Onward s t) : Onward s (t.mapQpair p q f) := h.mapPlots

/-! ## Machine/Gleaner -/

theorem glean {source cls det : Nat} (h : Onward s t) : Onward s (t.glean source cls det) := by
  unfold State.glean
  extract_lets _ s1 s2 _ kept
  have h1 : Onward s s1 := h.mapGleaner
  have h2 : Onward s s2 := .ite h1.mapAlmanac h1
  refine .ite h2 (.ite h2.mapGleaner ?_)
  clear_value kept
  split
  exacts [h2.mapGleaner.setReg, h2.mapGleaner.count.setBit]

theorem gleanClear {seq : Nat} (h : Onward s t) : Onward s (t.gleanClear seq).1 := by
  unfold State.gleanClear
  extract_lets _
  refine .ite1 (.pair h.mapGleaner) ?_
  split
  exacts [.pair h, .ite1 (.pair h.mapGleaner) (.pair h.setBit)]

theorem sample {metric inst value : Nat} (h : Onward s t) : Onward s (t.sample metric inst value) := h.mapAlmanac

theorem gatherChannel {x1 : Sample} {n : Nat} (h : Onward s t) : Onward s (t.gatherChannel x1 n) := by
  unfold State.gatherChannel
  extract_lets _
  exact .ite h.mapAlmanac h

theorem gatherTracker {x1 : Sample} {x2 : Nat} (h : Onward s t) : Onward s (t.gatherTracker x1 x2).1 := by
  unfold State.gatherTracker
  extract_lets _ s1
  have h1 : Onward s s1 := h.mapAlmanac
  exact .ite1 (.ite1 (.pair h1.mapAlmanac) (.pair h1)) (.pair h)

theorem gatherOne {x1 : Sample} (h : Onward s t) : Onward s (t.gatherOne x1).1 := by
  unfold State.gatherOne
  extract_lets s1
  have h1 : Onward s s1 := .foldl h fun _ _ h20 => h20.gatherChannel
  exact .foldl1 (.pair h1) fun _ _ h2 => .pair h2.gatherTracker

theorem startInterval (h : Onward s t) : Onward s t.startInterval := by
  unfold State.startInterval
  extract_lets _
  exact h.mapAlmanac.setReg

theorem takeSnapshot {trigs : List Trigger} {merged : Bool} (h : Onward s t) : Onward s (t.takeSnapshot trigs merged) := by
  unfold State.takeSnapshot
  extract_lets _ _ s1 s2
  have h1 : Onward s s1 := h.mapAlmanac
  have h2 : Onward s s2 := .ite h1.count h1
  exact h2.startInterval

theorem callSnapshot {trigs : List Trigger} (h : Onward s t) : Onward s (t.callSnapshot trigs) := by
  unfold State.callSnapshot
  refine .ite h ?_
  split
  exacts [h.takeSnapshot, h.mapAlmanac]

theorem gather (h : Onward s t) : Onward s t.gather := by
  unfold State.gather
  extract_lets p1
  have h1 : Onward s p1.1 := .foldl1 (.pair h.mapAlmanac) fun _ _ h20 => .pair h20.gatherOne
  exact h1.callSnapshot

theorem almAdvance (h : Onward s t) : Onward s t.almAdvance := by
  unfold State.almAdvance
  extract_lets _ s1
  have h1 : Onward s s1 := h.setFld
  exact .ite h1.setFld h1

/-! ## Machine/Flits -/

theorem sendFlit {l kind : Nat} {nak : Bool} {body : List Byte} (h : Onward s t) : Onward s (t.sendFlit l kind nak body) :=
  h.emit

/-! ## Machine/Links -/

theorem weftSend {dst kind : Nat} {payload : List Byte} (h : Onward s t) : Onward s (t.weftSend dst kind payload) := by
  unfold State.weftSend
  refine .ite h ?_
  split
  exacts [h.emit, h.setBit]

theorem seen {dev : Nat} (h : Onward s t) : Onward s (t.seen dev) := h.mapWeft

theorem linkSend {l kind : Nat} {payload : List Byte} (h : Onward s t) : Onward s (t.linkSend l kind payload) := by
  unfold State.linkSend
  exact .ite h h.emit

theorem mirrorSend {kind : Nat} {payload : List Byte} (h : Onward s t) : Onward s (t.mirrorSend kind payload) :=
  h.linkSend.linkSend

theorem sendSheaf {epoch : Nat} {b : List Byte} (h : Onward s t) : Onward s (t.sendSheaf epoch b) := by
  unfold State.sendSheaf
  exact .foldl h fun _ _ h1 => h1.mirrorSend

theorem sendChunk {phase chunk : Nat} {b : List Byte} (h : Onward s t) : Onward s (t.sendChunk phase chunk b) := by
  unfold State.sendChunk
  extract_lets _
  exact .foldl h fun _ _ h1 => h1.linkSend

/-! ## Machine/Wire -/

theorem sendKeyOf {tag n plot : Nat} {k : KeySlot} (h : Onward s t) : Onward s (t.sendKeyOf tag n plot k) := by
  unfold State.sendKeyOf
  split
  exacts [h.mirrorSend, h]

theorem sendKey {tag n plot : Nat} (h : Onward s t) : Onward s (t.sendKey tag n plot) := by
  unfold State.sendKey
  split
  exacts [h.sendKeyOf, h]

theorem mirrorKey {n : Nat} (h : Onward s t) : Onward s (t.mirrorKey n) := by
  unfold State.mirrorKey
  refine .ite h ?_
  split
  exacts [h.sendKey, h]

theorem chargeSlot {n : Nat} (h : Onward s t) : Onward s (t.chargeSlot n).1 := by
  unfold State.chargeSlot
  split
  exacts [.pair h, .ite1 (.pair ((Onward.setBit (.ite h.mapCipher.mirrorKey h.mapCipher)).glean)) (.pair
    (.ite h.mapCipher.mirrorKey h.mapCipher))]

theorem steer (h : Onward s t) : Onward s t.steer := h.drawn.setReg64

theorem chargeSa {p : Nat} {a : Sa} (h : Onward s t) : Onward s (t.chargeSa p a) := by
  unfold State.chargeSa
  extract_lets p1 s2
  have h1 : Onward s p1.1 := h.chargeSlot
  have h2 : Onward s s2 := .ite h1.setBit.glean h1
  exact .ite h2.setBit h2

theorem putFrame {p pcp : Nat} {o : Out} (h : Onward s t) : Onward s (t.putFrame p pcp o) := by
  unfold State.putFrame
  refine .ite ?_ h.emit
  split
  exacts [.ite h.setBit h, h.mapEth.chargeSa.emit]

theorem sendFrame {p pcp : Nat} {o : Out} (h : Onward s t) : Onward s (t.sendFrame p pcp o) := by
  unfold State.sendFrame
  exact .ite h (.ite h.mapPort h.putFrame)

theorem flushPaused {p pcp : Nat} (h : Onward s t) : Onward s (t.flushPaused p pcp) := by
  unfold State.flushPaused
  extract_lets _ s1
  have h1 : Onward s s1 := h.mapPort
  exact .foldl h1 fun _ _ h2 => h2.putFrame

theorem setSession {x1 : Session} (h : Onward s t) : Onward s (t.setSession x1) := h.mapEth

theorem dropSession {r : SessRef} (h : Onward s t) : Onward s (t.dropSession r) := h.mapEth

theorem sendPacket {x1 : Session} {pcp type psn : Nat} {payload : List Byte} (h : Onward s t) :
    Onward s (t.sendPacket x1 pcp type psn payload) := by
  unfold State.sendPacket
  extract_lets _ s1
  have h1 : Onward s s1 := h.setSession
  exact .ite h1 h1.sendFrame

theorem sendAck {r : SessRef} (h : Onward s t) : Onward s (t.sendAck r) := by
  unfold State.sendAck
  split
  exacts [h.sendPacket, h]

theorem pushSession {n : Nat} {r : SessRef} (h : Onward s t) : Onward s (t.pushSession n r) := by
  induction n generalizing t with
  | zero => exact h
  | succ n ih =>
    unfold State.pushSession
    split
    · exact h
    · split
      exacts [h, .ite (ih h.setSession.sendPacket) h]

theorem pushAll {r : SessRef} (h : Onward s t) : Onward s (t.pushAll r) := by
  unfold State.pushAll
  split
  exacts [h.pushSession, h]

theorem queuePacket {r : SessRef} {type : Nat} {payload : List Byte} {answers : List (Nat × Nat)} {urgent : Bool}
    (h : Onward s t) :
    Onward s (t.queuePacket r type payload answers urgent) := by
  unfold State.queuePacket
  split
  exacts [h.setSession.pushAll, h]

theorem sendDowns {source : Nat} (h : Onward s t) : Onward s (t.sendDowns source) := by
  unfold State.sendDowns
  extract_lets _ s1
  have h1 : Onward s s1 := .foldl h fun _ _ h20 => .ite h20 h20.sendPacket
  exact h1.mapEth

theorem enterSafe {source : Nat} (h : Onward s t) : Onward s (t.enterSafe source) := by
  unfold State.enterSafe
  extract_lets s1 s2 s3 s4 s5
  have h1 : Onward s s1 := h.setBit
  have h2 : Onward s s2 := h1.setReg
  have h3 : Onward s s3 := h2.setBit
  have h4 : Onward s s4 := h3.sendDowns
  have h5 : Onward s s5 := h4.callSnapshot
  exact .ite h h5.mapPower

theorem event {source cls det : Nat} (h : Onward s t) : Onward s (t.event source cls det) := by
  unfold State.event
  extract_lets s1
  have h1 : Onward s s1 := h.glean
  exact .ite h1.enterSafe h1

theorem errEvent {err bit source cls plot inst : Nat} (h : Onward s t) :
    Onward s (t.errEvent err bit source cls plot inst) :=
  h.setBit.event

/-! ## Machine/Registers -/

theorem badw {off : Nat} (h : Onward s t) : Onward s (t.badw off) := by
  unfold State.badw
  split
  exacts [h.setBit, h]

theorem writeFields {off : Nat} {v : Word} (h : Onward s t) : Onward s (t.writeFields off v) := by
  unfold State.writeFields
  split
  exacts [h.badw, .ite h.setReg.badw h.setReg]

theorem holdLo {off : Nat} {v : Word} (h : Onward s t) : Onward s (t.holdLo off v) := h.mapCtl

theorem writeHi {off mask : Nat} {v : Word} {lockable writable : Bool} (h : Onward s t) :
    Onward s (t.writeHi off v mask lockable writable) := by
  unfold State.writeHi
  extract_lets _ _ s1
  have h1 : Onward s s1 := h.mapCtl
  exact .ite h1 (.ite (.ite h1 h1.badw) (.ite h1.badw h1.setReg64))

theorem latchWord {off : Nat} {v : Word} (h : Onward s t) : Onward s (t.latchWord off v) := h.mapCtl

theorem latchWords {off : Nat} {l : List Word} (h : Onward s t) : Onward s (t.latchWords off l) := by
  induction l generalizing t off with
  | nil => exact h
  | cons w l ih => exact ih h.latchWord

theorem answerRead {v : Word} (h : Onward s t) : Onward s (t.answerRead v) := h.mapCtl

/-! ## Machine/FaultLog -/

theorem execGleanerEvent {source cls det : Nat} (h : Onward s t) : Goes s (Machine.execGleanerEvent source cls det t) :=
  .next h.event

theorem gleanSelf {storeIntact : Bool} (h : Onward s t) : Onward s (t.gleanSelf storeIntact) := by
  unfold State.gleanSelf
  extract_lets s1 s2
  have h1 : Onward s s1 := h.setBit.setBit
  have h2 : Onward s s2 := .ite h1.glean h1
  exact h2.enterSafe

theorem execGleanerSelfParity {storeIntact : Bool} (h : Onward s t) :
    Goes s (Machine.execGleanerSelfParity storeIntact t) :=
  .next h.gleanSelf

theorem execGlnClear {m : Master} {v : Word} (h : Onward s t) : Goes s (Machine.execGlnClear m v t) :=
  .next (.ite h.gleanClear h)

theorem readRec0 (h : Onward s t) : Onward s t.readRec0 := by
  unfold State.readRec0
  extract_lets _
  exact h.latchWords.answerRead

theorem execGlnRec0Read {m : Master} (h : Onward s t) : Goes s (Machine.execGlnRec0Read m t) :=
  .next (.ite h.readRec0 h.answerRead)

theorem execAlmanacEarlyGather (h : Onward s t) : Goes s (Machine.execAlmanacEarlyGather t) := .next (.ite h.gather h)

theorem execAlmanacInterval {x0 : Nat} (h : Onward s t) : Goes s (Machine.execAlmanacInterval x0 t) := by
  unfold Machine.execAlmanacInterval
  extract_lets s1
  have h1 : Onward s s1 := h.advance
  exact .next (.ite h1.callSnapshot h1)

theorem execAlmanacSnap {m : Master} (h : Onward s t) : Goes s (Machine.execAlmanacSnap m t) :=
  .next (.ite h.callSnapshot h)

theorem snapshotDone {permFails circFails : Nat} (h : Onward s t) : Onward s (t.snapshotDone permFails circFails) := by
  unfold State.snapshotDone
  extract_lets _
  split
  exacts [h, .ite (.ite (((Onward.mapAlmanac (.ite h.drawn h)).setReg64).errEvent) ((Onward.mapAlmanac
    (.ite h.drawn h)).setReg64)) (Onward.takeSnapshot (.ite (((Onward.mapAlmanac (.ite h.drawn h)).setReg64).errEvent)
    ((Onward.mapAlmanac (.ite h.drawn h)).setReg64)))]

theorem execSnapshotWriteDone {permFails circFails : Nat} (h : Onward s t) :
    Goes s (Machine.execSnapshotWriteDone permFails circFails t) :=
  .next h.snapshotDone

theorem readWindow0 (h : Onward s t) : Onward s t.readWindow0 := by
  unfold State.readWindow0
  extract_lets _
  exact h.mapAlmanac.answerRead

theorem execAlmWindow0Read {m : Master} (h : Onward s t) : Goes s (Machine.execAlmWindow0Read m t) :=
  .next (.ite h.readWindow0 h.answerRead)

theorem readWindow63 (h : Onward s t) : Onward s t.readWindow63 := h.answerRead.almAdvance

theorem execAlmWindow63Read {m : Master} (h : Onward s t) : Goes s (Machine.execAlmWindow63Read m t) :=
  .next (.ite h.readWindow63 h.answerRead)

/-! ## Machine/Stakes -/

theorem putEntry {e : StakeEntry} (h : Onward s t) : Onward s (t.putEntry e) := by
  unfold State.putEntry
  extract_lets _
  exact .ite h.mapStakes.setBytes h.mapStakes.setBytes

theorem countOp {slice : Nat} (h : Onward s t) : Onward s (t.countOp slice) := h.setReg64

theorem lateWound {slice : Nat} (h : Onward s t) : Onward s (t.lateWound slice) := by
  unfold State.lateWound
  exact .ite h.count h

theorem woundLocal {slice : Nat} {p : Party} (h : Onward s t) : Onward s (t.woundLocal slice p) := by
  unfold State.woundLocal
  split
  exacts [.ite h.mapStakes h.lateWound, h.lateWound]

theorem sendWound {slice ns key : Nat} {p : Party} (h : Onward s t) : Onward s (t.sendWound slice ns key p) := by
  unfold State.sendWound
  exact .ite h.woundLocal h.weftSend

theorem woundByKey {slice home ns key : Nat} {who : Party} (h : Onward s t) :
    Onward s (t.woundByKey slice home ns key who) := by
  unfold State.woundByKey
  refine .foldl h fun _ _ h1 => ?_
  split
  exacts [.ite h1.woundLocal h1, h1]

theorem woundSharers {e : StakeEntry} {who : Party} (h : Onward s t) : Onward s (t.woundSharers e who) := by
  unfold State.woundSharers
  extract_lets _
  exact .foldl h.woundByKey fun _ _ h1 => h1.weftSend

theorem sendGrant {ns key code : Nat} {p : Party} (h : Onward s t) : Onward s (t.sendGrant ns key code p) := by
  unfold State.sendGrant
  exact .ite h.mapStakes h.weftSend

theorem answerRequest {ns key : Nat} {code : Option Nat} {p : Party} (h : Onward s t) :
    Onward s (t.answerRequest ns key code p) := by
  unfold State.answerRequest
  refine .ite ?_ h.weftSend
  split
  exacts [h.sendGrant, h]

theorem woundHolders {e : StakeEntry} {who : Party} {excl : Bool} (h : Onward s t) :
    Onward s (t.woundHolders e who excl) := by
  unfold State.woundHolders
  extract_lets _
  exact .ite (.foldl h fun _ _ h1 => h1.sendWound) (.ite h h.woundSharers)

theorem stakeReport {slice ns code : Nat} (h : Onward s t) : Onward s (t.stakeReport slice ns code) := by
  unfold State.stakeReport
  exact .ite h.errEvent (.ite h.errEvent (.ite h.errEvent h))

theorem stakeRefusal {slice ns code : Nat} (h : Onward s t) : Onward s (t.stakeRefusal slice ns code) :=
  Onward.stakeReport (.ite h.count h)

theorem sliceDecide {slice ns key : Nat} {who : Party} {excl : Bool} (h : Onward s t) :
    Onward s (t.sliceDecide slice who ns key excl).1 := by
  unfold State.sliceDecide
  extract_lets s1
  have h1 : Onward s s1 := h.countOp
  split
  · refine .ite1 (.pair h1.stakeRefusal) ?_
    split
    exacts [.pair h1.stakeRefusal, .ite1 (.pair h1.stakeRefusal) (.pair h1.putEntry)]
  · exact .ite1 (.ite1 (.pair h1.stakeRefusal) (.pair h1.putEntry)) (.ite1 (.pair h1.stakeRefusal) (.pair
    (.ite h1.putEntry h1.putEntry.woundHolders)))

theorem grantWaiters {n : Nat} {e : StakeEntry} (h : Onward s t) : Onward s (t.grantWaiters n e) := by
  induction n generalizing t e with
  | zero => exact h.putEntry
  | succ n ih =>
    unfold State.grantWaiters
    split
    exacts [h.putEntry, .ite (.ite (ih h.stakeRefusal.sendGrant) (ih h.sendGrant)) h.putEntry]

theorem sliceDrop {slice ns key : Nat} {who : Party} (h : Onward s t) : Onward s (t.sliceDrop slice who ns key) := by
  unfold State.sliceDrop
  extract_lets s1
  have h1 : Onward s s1 := h.countOp
  split
  exacts [h1, h1.grantWaiters]

theorem bucketError {slice ns key i : Nat} {who : Party} (h : Onward s t) :
    Onward s (t.bucketError slice ns key i who) := by
  unfold State.bucketError
  extract_lets _ s1 s2 _ _ s3 s4 s5
  have h1 : Onward s s1 := h.countOp
  have h2 : Onward s s2 := h1.errEvent
  have h3 : Onward s s3 := .foldl h2 fun _ _ h22 => .foldl h22 fun _ _ h23 => h23.sendWound
  have h4 : Onward s s4 := h3.sendWound
  have h5 : Onward s s5 := h4.mapStakes
  exact h5.setBytes

theorem putStakeRec {r : StakeRec} (h : Onward s t) : Onward s (t.putStakeRec r) := h.mapStakes

theorem sendStakeOp {home ns key : Nat} {who : Party} {op : SliceOp} (h : Onward s t) :
    Onward s (t.sendStakeOp home ns key who op) := by
  unfold State.sendStakeOp
  refine .ite h.mapStakes ?_
  split
  exacts [h.weftSend, h.weftSend, h.weftSend]

theorem releaseStakes {x1 : TSlot} (h : Onward s t) : Onward s (t.releaseStakes x1) := by
  unfold State.releaseStakes
  extract_lets _ s1
  have h1 : Onward s s1 := .foldl h fun _ _ h20 => .ite (Onward.sendStakeOp (.ite h20.sendStakeOp h20))
    (.ite h20.sendStakeOp h20)
  exact h1.mapStakes

theorem loseStakes {dev : Nat} (h : Onward s t) : Onward s (t.loseStakes dev) := by
  unfold State.loseStakes
  extract_lets _ s1
  have h1 : Onward s s1 := .foldl h fun _ _ h20 => Onward.grantWaiters (.foldl h20 fun _ _ h21 => h21.countOp)
  refine .foldl h1 fun _ _ h2 => ?_
  split
  exacts [h2.sendWound, h2]

/-! ## Machine/Memory -/

theorem logAnswer {init target domain pa : Nat} {st : WarpStatus} (h : Onward s t) :
    Onward s (t.logAnswer init target st domain pa) := by
  unfold State.logAnswer
  extract_lets s1 s2 s3
  have h1 : Onward s s1 := h.setReg
  have h2 : Onward s s2 := h1.setReg64
  have h3 : Onward s s3 := .ite h2.setBit h2
  exact .ite h (.ite h3.count h3)

theorem clearPoison {pa n : Nat} (h : Onward s t) : Onward s (t.clearPoison pa n) := h.mapMem

theorem setPoison {pa n : Nat} (h : Onward s t) : Onward s (t.setPoison pa n) := h.mapMem

theorem breakLink {u pa n : Nat} (h : Onward s t) : Onward s (t.breakLink u pa n) := by
  unfold State.breakLink
  split
  exacts [.ite h.mapUnit h, h]

theorem breakLinks {us : List Nat} {writer : Option Nat} {pa n : Nat} (h : Onward s t) :
    Onward s (t.breakLinks us writer pa n) := by
  unfold State.breakLinks
  exact .foldl h fun _ _ h1 => .ite h1 h1.breakLink

theorem strongDeny {c : Nat} (h : Onward s t) : Onward s (t.strongDeny c) := h.errEvent

theorem pushStore {u pa : Nat} {data : List Byte} {kind : StoreKind} (h : Onward s t) :
    Onward s (t.pushStore u pa data kind) := by
  unfold State.pushStore
  extract_lets _
  exact h.setUnit.mapMem

theorem putLine {c : Nat} {l : CLine} (h : Onward s t) : Onward s (t.putLine c l) := h.mapCluster

theorem dropLine {c pa : Nat} (h : Onward s t) : Onward s (t.dropLine c pa) := h.mapCluster

theorem startFill {c pa u : Nat} {f : FillFor} (h : Onward s t) : Onward s (t.startFill c pa u f) := by
  unfold State.startFill
  refine .ite h ?_
  split
  · exact h.setBit
  · extract_lets s1 s2
    have h1 : Onward s s1 := .ite h.setFld h
    have h2 : Onward s s2 := by
      unfold s2
      split
      exacts [h1.dropLine, h1]
    exact h2.mapCluster

theorem doom {c pa : Nat} (h : Onward s t) : Onward s (t.doom c pa) := h.mapCluster

theorem cleanLine {c pa : Nat} (h : Onward s t) : Onward s (t.cleanLine c pa) := by
  unfold State.cleanLine
  split
  exacts [h.putLine, h]

theorem invalLine {c pa : Nat} (h : Onward s t) : Onward s (t.invalLine c pa) := by
  unfold State.invalLine
  extract_lets s1
  have h1 : Onward s s1 := h.cleanLine.doom
  split
  exacts [.ite h1 h1.dropLine, h1]

theorem takeLine {c pa : Nat} (h : Onward s t) : Onward s (t.takeLine c pa) := by
  unfold State.takeLine
  exact .foldl h fun _ _ h1 => .ite h1 h1.doom.dropLine

theorem dirtyLine {c pa : Nat} {mark : Option Nat} (h : Onward s t) : Onward s (t.dirtyLine c pa mark) := by
  unfold State.dirtyLine
  extract_lets _
  split
  exacts [h, h.takeLine.putLine]

theorem memStore {pa : Nat} {data : List Byte} (h : Onward s t) : Onward s (t.memStore pa data) := h.setBytes.clearPoison

theorem deviceStore {writer : Option Nat} {pa : Nat} {data : List Byte} (h : Onward s t) :
    Onward s (t.deviceStore writer pa data) :=
  h.memStore.breakLinks

theorem dropCopies {pa n : Nat} (h : Onward s t) : Onward s (t.dropCopies pa n) := by
  unfold State.dropCopies
  refine .foldl h fun _ _ h1 => .foldl h1 fun _ _ h2 => ?_
  split
  exacts [.ite h2.cleanLine h2.doom.dropLine, h2.doom]

theorem agentStore {pa : Nat} {data : List Byte} (h : Onward s t) : Onward s (t.agentStore pa data) :=
  h.dropCopies.deviceStore

theorem dramRead {pa : Nat} {r : ReadResult} (h : Onward s t) : Onward s (t.dramRead pa r) := by
  unfold State.dramRead
  extract_lets _
  split
  exacts [h, h.count.errEvent, h.count.errEvent.setPoison]

/-! ## Machine/Units -/

theorem haltPair {p hits : Nat} {cause : HaltCause} (h : Onward s t) : Onward s (t.haltPair p cause hits) := by
  unfold State.haltPair
  extract_lets _ s1
  have h1 : Onward s s1 := h.mapUnit.mapUnit
  exact h1.mapPair

theorem spill {u : Nat} (h : Onward s t) : Onward s (t.spill u) := by
  unfold State.spill
  extract_lets _ _ _ s1
  have h1 : Onward s s1 := h.pushStore
  exact h1.mapUnit

theorem slideIn {u : Nat} (h : Onward s t) : Onward s (t.slideIn u) := by
  unfold State.slideIn
  extract_lets _ s1
  have h1 : Onward s s1 := .ite h (.ite h.mapUnit h.spill)
  exact h1.mapUnit

theorem inHandler {u : Nat} {f : SpecRegs → SpecRegs} {pc : Word} (h : Onward s t) : Onward s (t.inHandler u f pc) := by
  unfold State.inHandler
  extract_lets s1 s2 s3
  have h1 : Onward s s1 := h.slideIn
  have h2 : Onward s s2 := h1.mapWeft
  have h3 : Onward s s3 := h2.mapJournal
  exact h3.mapUnit

theorem enterE {u : Nat} {e : Exc} (h : Onward s t) : Onward s (t.enterE u e) := by
  unfold State.enterE
  extract_lets _
  exact h.inHandler

theorem enterD {u : Nat} {e : Exc} (h : Onward s t) : Onward s (t.enterD u e) := by
  unfold State.enterD
  extract_lets _
  exact .ite h.event h.inHandler

theorem takeExc {u : Nat} {e : Exc} (h : Onward s t) : Onward s (t.takeExc u e) := by
  unfold State.takeExc
  extract_lets _
  exact .ite h.enterD (.ite h.enterD h.enterE)

theorem compared {p : Nat} (h : Onward s t) : Onward s (t.compared p) := by
  unfold State.compared
  extract_lets _
  exact .ite h (.ite h.mapPair h.mapPair.setFld)

theorem boundary {u : Nat} (h : Onward s t) : Onward s (t.boundary u) := by
  unfold State.boundary
  exact .ite h.haltPair h

theorem counted {u : Nat} (h : Onward s t) : Onward s (t.counted u) := h.mapUnit.compared

theorem startCore {u : Nat} (h : Onward s t) : Onward s (t.startCore u) := h.mapUnit

theorem retire {u : Nat} {pc : Word} (h : Onward s t) : Onward s (t.retire u pc) := by
  unfold State.retire
  extract_lets s1
  have h1 : Onward s s1 := h.mapUnit
  exact h1.startCore.counted.boundary

theorem unitEnd {u : Nat} (h : Onward s t) : Onward s (t.unitEnd u) := by
  unfold State.unitEnd
  extract_lets s1
  have h1 : Onward s s1 := h.mapUnit
  exact h1.counted.boundary

theorem conclude {u : Nat} {e : Eff} (h : Onward s t) (he : Concludes s e) : Onward s (t.conclude u e) := by
  cases he
  case done h => exact h.retire
  case jump h => exact h.retire
  case part h => exact h.unitEnd
  case back h => exact h.startCore.counted.boundary
  case exc h => exact h.takeExc.boundary
  case stop => exact h.haltPair
  case hold h => exact h
  case ended h => exact h

theorem execute {u : Nat} {l : Legal} {body : State → Eff} (h : Onward s t)
    (hb : ∀ r, Onward s r → Concludes s (body r)) : Onward s (t.execute u l body) := by
  unfold State.execute
  refine .ite h (.ite (h.conclude .stop) ?_)
  split
  · exact h.conclude (.exc h)
  · split
    exacts [h.conclude (.exc h), h.conclude (hb t h)]

theorem mapArch {u : Nat} {f : Arch → Arch} (h : Onward s t) : Onward s (t.mapArch u f) := h.mapUnit

theorem pure {u : Nat} {l : Legal} {f : Arch → Arch} (h : Onward s t) : Onward s (t.pure u l f) :=
  h.execute (fun _ h1 => .done h1.mapArch)

/-! ## Machine/Sower -/

theorem flushEvents {r : SessRef} (h : Onward s t) : Onward s (t.flushEvents r) := by
  unfold State.flushEvents
  split
  exacts [h, .ite h h.setSession.queuePacket]

theorem addEvent {whole : Bool} {channel : Nat} {c : Completion} (h : Onward s t) :
    Onward s (t.addEvent whole channel c) := by
  unfold State.addEvent
  extract_lets r
  split
  · exact h.mapEth
  · extract_lets s1
    have h1 : Onward s s1 := .ite h.flushEvents h
    split
    exacts [h1, .ite h1.setSession.flushEvents h1.setSession]

theorem addEvents {cs : List (Nat × Completion)} (h : Onward s t) : Onward s (t.addEvents cs) := by
  unfold State.addEvents
  extract_lets _ _ s1
  have h1 : Onward s s1 := .foldl h fun _ _ h20 => h20.addEvent
  exact .foldl h1 fun _ _ h2 => h2.flushEvents

theorem handCompletion {c : Completion} (h : Onward s t) : Onward s (t.handCompletion c) := by
  unfold State.handCompletion
  extract_lets s1 _ s2
  have h1 : Onward s s1 := h.sample
  have h2 : Onward s s2 := h1.mapQpair
  split
  exacts [h, h2.mapSower]

theorem windowRise {r : SessRef} (h : Onward s t) : Onward s (t.windowRise r) := by
  unfold State.windowRise
  split
  exacts [h, .ite h.sendAck.mapEth h]

theorem windowsRise (h : Onward s t) : Onward s t.windowsRise := by
  unfold State.windowsRise
  exact .foldl h fun _ _ h1 => h1.windowRise

theorem handAll {cs : List Completion} (h : Onward s t) : Onward s (t.handAll cs) := by
  unfold State.handAll
  extract_lets _ _ s1
  have h1 : Onward s s1 := .foldl h fun _ _ h20 => h20.handCompletion
  exact h1.addEvents.windowsRise

theorem setRole {p r : Nat} (h : Onward s t) : Onward s (t.setRole p r) := h.setFld

theorem accrue (h : Onward s t) : Onward s t.accrue := by
  unfold State.accrue
  extract_lets s1
  have h1 : Onward s s1 := .ite h.setBit h
  exact .foldl h1 fun _ _ h2 => h2.mapPlot

theorem charge {u plot acct : Nat} (h : Onward s t) : Onward s (t.charge u plot acct) := by
  unfold State.charge
  extract_lets _ s1
  have h1 : Onward s s1 := h.sample
  exact h1.mapPlot

theorem startUnit {u : Nat} {x2 : TSlot} (h : Onward s t) : Onward s (t.startUnit u x2) := by
  unfold State.startUnit
  extract_lets _ s1
  have h1 : Onward s s1 := h.setBytes.setBytes
  exact h1.mapUnit

theorem badEntry {c : Cand} (h : Onward s t) : Onward s (t.badEntry c) := h.setBit.handAll

theorem bind {u : Nat} {c : Cand} {x3 : TSlot} {rr : Bool} (h : Onward s t) : Onward s (t.bind u c x3 rr) := by
  unfold State.bind
  extract_lets s1 s2 s3 s4
  have h1 : Onward s s1 := h.mapSower
  have h2 : Onward s s2 := h1.mapQpair
  have h3 : Onward s s3 := h2.setReg64
  have h4 : Onward s s4 := h3.sample
  exact h4.startUnit

theorem dispatch {u : Nat} (h : Onward s t) : Onward s (t.dispatch u) := by
  unfold State.dispatch
  refine .ite h ?_
  split
  · exact h
  · split
    · exact h.bind
    · split
      · exact h.badEntry
      · split
        exacts [h.setBit, h.mapSower.bind]

/-! ## Machine/Txn -/

theorem captureLost {u : Nat} (h : Onward s t) : Onward s (t.captureLost u) := by
  unfold State.captureLost
  extract_lets _
  exact h.errEvent

theorem captureStore {u : Nat} {b : BufStore} (h : Onward s t) : Onward s (t.captureStore u b) := by
  unfold State.captureStore
  extract_lets _
  exact .foldl h fun _ _ h1 => .ite h1 h1.clearPoison.setBytes.mapUnit

theorem placeLine {c pa : Nat} {data : List Byte} {mark : Option Nat} (h : Onward s t) :
    Onward s (t.placeLine c pa data mark) := by
  unfold State.placeLine
  extract_lets s1
  have h1 : Onward s s1 := by
    unfold s1
    split
    · extract_lets s2 s3
      have h2 : Onward s s2 := .ite h.setFld h
      have h3 : Onward s s3 := by
        unfold s3
        split
        exacts [h2.dropLine, h2]
      exact h3.putLine
    · exact h
  exact h1.dirtyLine.deviceStore

theorem undo {u : Nat} (h : Onward s t) : Onward s (t.undo u) := by
  unfold State.undo
  extract_lets _
  exact .ite h.captureLost (.foldl h fun _ _ h1 => h1.placeLine)

theorem dropWounds {u : Nat} (h : Onward s t) : Onward s (t.dropWounds u) := by
  unfold State.dropWounds
  refine .foldl h fun _ _ h1 => ?_
  split
  exacts [h1.lateWound, h1]

theorem freeUp {u : Nat} (h : Onward s t) : Onward s (t.freeUp u) := by
  unfold State.freeUp
  extract_lets s1 s2
  have h1 : Onward s s1 := h.mapUnit
  have h2 : Onward s s2 := h1.mapWeft
  exact h2.mapJournal

theorem leave {u : Nat} {x2 : TSlot} (h : Onward s t) : Onward s (t.leave u x2) := by
  unfold State.leave
  extract_lets s1 s2
  have h1 : Onward s s1 := h.charge
  have h2 : Onward s s2 := h1.dropWounds
  exact h2.releaseStakes.freeUp

theorem setTslot {x1 : TSlot} (h : Onward s t) : Onward s (t.setTslot x1) := h.mapSower

theorem complete {x1 : TSlot} {c : Completion} {wait : Option Nat} (h : Onward s t) : Onward s (t.complete x1 c wait) := by
  unfold State.complete
  exact .ite h.handAll h.setTslot

theorem report {x1 : TSlot} {outcome status epoch : Nat} {aborted : Bool} (h : Onward s t) :
    Onward s (t.report x1 outcome status epoch aborted) := by
  unfold State.report
  extract_lets s1 s2
  have h1 : Onward s s1 := h.mapPlots
  have h2 : Onward s s2 := h1.mapQpair
  exact h2.mapSower

theorem requeue {x1 : TSlot} {outcome : Nat} {aborted : Bool} (h : Onward s t) :
    Onward s (t.requeue x1 outcome aborted) := by
  unfold State.requeue
  exact .ite h.report h.setTslot.mapQpair

theorem spanAbort {u : Nat} {x2 : TSlot} (h : Onward s t) : Onward s (t.spanAbort u x2) := by
  unfold State.spanAbort
  extract_lets _ s1
  have h1 : Onward s s1 := h.mapWeft
  exact .ite (.foldl h1 fun _ _ h2 => h2.weftSend) h1

theorem abandon {u : Nat} {x2 : TSlot} (h : Onward s t) : Onward s (t.abandon u x2) := h.undo.spanAbort.leave

theorem abortWith {u status : Nat} (h : Onward s t) : Onward s (t.abortWith u status) := by
  unfold State.abortWith
  extract_lets _
  split
  exacts [h.freeUp, h.abandon.complete]

theorem abortRedo {u : Nat} (h : Onward s t) : Onward s (t.abortRedo u) := by
  unfold State.abortRedo
  split
  exacts [h.freeUp, h.abandon.requeue]

theorem overrun {u : Nat} (h : Onward s t) : Onward s (t.overrun u) := by
  unfold State.overrun
  extract_lets _ _ s1
  have h1 : Onward s s1 := h.abortWith
  exact h1.count.errEvent

theorem captureRefused {u bit : Nat} (h : Onward s t) : Onward s (t.captureRefused u bit) := by
  unfold State.captureRefused
  extract_lets _
  exact h.abortWith.errEvent

theorem endInput {u : Nat} {e : EndInput} (h : Onward s t) : Onward s (t.endInput u e) := h.mapUnit

theorem dropEnds {u : Nat} (h : Onward s t) : Onward s (t.dropEnds u) := h.dropWounds.mapUnit

theorem actEnd {u : Nat} (h : Onward s t) : Onward s (t.actEnd u) := by
  unfold State.actEnd
  extract_lets _
  refine .ite h.dropEnds (.ite h ?_)
  split
  exacts [h, h.overrun, h.captureRefused, h.mapUnit.abortRedo, h.abortRedo]

theorem actInterrupt {u : Nat} (h : Onward s t) : Onward s (t.actInterrupt u) := by
  unfold State.actInterrupt
  extract_lets _ _ s1
  have h1 : Onward s s1 := h.mapUnit
  exact .ite h (.ite h1.takeExc (.ite h.mapUnit h))

theorem actFirst {u : Nat} (h : Onward s t) : Onward s (t.actFirst u) := by
  unfold State.actFirst
  extract_lets s1
  have h1 : Onward s s1 := h.mapUnit
  split
  exacts [h1.mapUnit.takeExc, h1]

theorem actHalt {u : Nat} (h : Onward s t) : Onward s (t.actHalt u) := by
  unfold State.actHalt
  exact .ite h.mapUnit.haltPair h

theorem firmware {u : Nat} (h : Onward s t) : Onward s (t.firmware u) := by
  unfold State.firmware
  extract_lets _
  exact .ite (.ite h.event.mapUnit (.ite h h.event.abortWith)) (.ite h.mapUnit h)

theorem actInputs {u : Nat} (h : Onward s t) : Onward s (t.actInputs u) := by
  unfold State.actInputs
  extract_lets _
  exact .ite h (.ite h.actEnd (.ite (.ite h.mapUnit.actFirst h.actHalt) (.ite h.actFirst.actEnd.actInterrupt.actHalt
    (.ite h.actInterrupt h.firmware))))

theorem presentBell {u : Nat} (h : Onward s t) : Onward s (t.presentBell u) := by
  unfold State.presentBell
  exact .ite h.mapGleaner.mapUnit h

theorem execAsyncInputAtBoundary {unit : Nat} (h : Onward s t) : Goes s (Machine.execAsyncInputAtBoundary unit t) :=
  .next h.presentBell.actInputs

theorem execBudgetExpire {x0 unit : Nat} (h : Onward s t) : Goes s (Machine.execBudgetExpire x0 unit t) := by
  unfold Machine.execBudgetExpire
  extract_lets s1
  have h1 : Onward s s1 := h.advance
  exact .next (.ite h1.endInput h1)

theorem execDispatch {x0 unit : Nat} (h : Onward s t) : Goes s (Machine.execDispatch x0 unit t) := .next h.advance.dispatch

theorem abortOp {u level status : Nat} {f : RegF} (h : Onward s t) : Onward s (t.abortOp u f level status) :=
  h.execute (fun _ h1 => .ite (.exc h1) (.ite (.hold h1) (.ended h1.abortWith)))

theorem execAbort {u : Nat} {f : RegF} (h : Onward s t) : Goes s (Machine.execAbort u f t) := .next h.abortOp

theorem execAbortF {u : Nat} {f : RegF} (h : Onward s t) : Goes s (Machine.execAbortF u f t) := .next h.abortOp

theorem stakeResult {u code : Nat} {rd : BitVec 5} (h : Onward s t) : Concludes s (t.stakeResult u rd code) :=
  .done h.mapArch

theorem standAtStake {u key : Nat} {rd : BitVec 5} {excl : Bool} (h : Onward s t) :
    Onward s (t.standAtStake u rd key excl) :=
  h.mapUnit

theorem stakeOp {u : Nat} {f : RegF} {excl : Bool} (h : Onward s t) : Onward s (t.stakeOp u f excl) := by
  unfold State.stakeOp
  refine h.execute (fun _ h1 => ?_)
  split
  exacts [h1.stakeResult, .ite h1.stakeResult (.ite (.hold h1.standAtStake) (.ite h1.stakeResult
    (.hold h1.putStakeRec.sendStakeOp.standAtStake)))]

theorem execStakeS {u : Nat} {f : RegF} (h : Onward s t) : Goes s (Machine.execStakeS u f t) := .next h.stakeOp

theorem execStakeX {u : Nat} {f : RegF} (h : Onward s t) : Goes s (Machine.execStakeX u f t) := .next h.stakeOp

theorem execUnstake {u : Nat} {f : RegF} (h : Onward s t) : Goes s (Machine.execUnstake u f t) := by
  unfold Machine.execUnstake
  refine .next (h.execute fun _ h1 => ?_)
  split
  · exact h1.stakeResult
  · extract_lets
    split
    exacts [h1.stakeResult, .ite h1.stakeResult h1.sendStakeOp.putStakeRec.mapStakes.stakeResult]

theorem answerStake {u code : Nat} {r : StakeRec} {rd : BitVec 5} (h : Onward s t) :
    Onward s (t.answerStake u r rd code) := by
  unfold State.answerStake
  extract_lets s1 s2 s3
  have h1 : Onward s s1 := h.putStakeRec
  have h2 : Onward s s2 := h1.sample
  have h3 : Onward s s3 := h2.mapUnit.mapArch
  exact h3.retire

theorem remoteCode {r : StakeRec} {code : Nat} (h : Onward s t) : Onward s (t.remoteCode r code) := by
  unfold State.remoteCode
  exact .ite h h.stakeReport

theorem execStakeGrant {slot : Nat} (h : Onward s t) : Goes s (Machine.execStakeGrant slot t) := by
  unfold Machine.execStakeGrant
  refine .next ?_
  split
  · exact h
  · split
    · exact h.mapStakes
    · refine .ite h.mapStakes ?_
      split
      exacts [h.mapStakes.remoteCode.answerStake, h]

theorem execWoundPresent {slot : Nat} (h : Onward s t) : Goes s (Machine.execWoundPresent slot t) := by
  unfold Machine.execWoundPresent
  refine .next ?_
  split
  · exact h
  · extract_lets
    split
    · split
      exacts [.ite h.mapStakes.endInput h.mapStakes.lateWound, h.mapStakes.lateWound]
    · exact h.mapStakes.lateWound

theorem execRemoteStakeTimeout {x0 unit : Nat} (h : Onward s t) : Goes s (Machine.execRemoteStakeTimeout x0 unit t) := by
  unfold Machine.execRemoteStakeTimeout
  extract_lets s1
  have h1 : Onward s s1 := h.advance
  refine .next ?_
  split
  · split
    exacts [.ite h1.remoteCode.answerStake h1, h1]
  · exact h1

theorem execSliceRequest {slice : Nat} {ue : Option Nat} (h : Onward s t) :
    Goes s (Machine.execSliceRequest slice ue t) := by
  unfold Machine.execSliceRequest
  refine .next ?_
  split
  · exact h
  · split
    · refine .ite h ?_
      extract_lets
      split
      exacts [h.mapStakes.bucketError, h.mapStakes.sliceDecide.answerRequest]
    · exact h

theorem execSliceRelease {slice : Nat} {ue : Option Nat} (h : Onward s t) :
    Goes s (Machine.execSliceRelease slice ue t) := by
  unfold Machine.execSliceRelease
  refine .next ?_
  split
  · exact h
  · split
    · exact h
    · refine .ite h ?_
      extract_lets
      split
      exacts [h.mapStakes.bucketError, h.mapStakes.sliceDrop]

theorem writeStkCtrl {v : Word} (h : Onward s t) : Onward s (t.writeStkCtrl v) := by
  unfold State.writeStkCtrl
  extract_lets s1
  have h1 : Onward s s1 := h.writeFields
  exact .ite h1 (.ite h1.badw h1.setBit)

theorem execStkClear {m : Master} {v : Word} (h : Onward s t) : Goes s (Machine.execStkClear m v t) :=
  .next (.ite h.writeStkCtrl h)

theorem execStakeTableCleared (h : Onward s t) : Goes s (Machine.execStakeTableCleared t) := by
  unfold Machine.execStakeTableCleared
  extract_lets _ s1
  have h1 : Onward s s1 := h.wipe
  exact .next (.ite h1.mapStakes.setBit.setBit h)

/-! ## Machine/Access -/

theorem setRegs {u : Nat} {l : List (BitVec 5 × Word)} (h : Onward s t) : Onward s (t.setRegs u l) := by
  unfold State.setRegs
  exact .foldl h fun _ _ h1 => .ite h1.mapArch.drawn h1.mapArch

theorem loadFault {u sp ea pa : Nat} {st : WarpStatus} (h : Onward s t) : Loads s (t.loadFault u sp ea pa st) := by
  unfold State.loadFault
  exact .ite (.of_exc h) (.of_exc h.logAnswer)

theorem l1Error {u : Nat} (h : Onward s t) : Onward s (t.l1Error u) := by
  unfold State.l1Error
  extract_lets _
  exact h.count.errEvent

theorem useUp {u : Nat} (h : Onward s t) : Onward s (t.useUp u) := by
  unfold State.useUp
  extract_lets s1
  have h1 : Onward s s1 := h.mapCluster
  exact h1.mapWeft

theorem noteEpochs {u pa n : Nat} (h : Onward s t) : Onward s (t.noteEpochs u pa n) := by
  unfold State.noteEpochs
  refine .ite h (.foldl h fun _ _ h1 => ?_)
  split
  exacts [h1.mapUnit, h1]

theorem noteReads {u pa n : Nat} (h : Onward s t) : Onward s (t.noteReads u pa n) := by
  unfold State.noteReads
  extract_lets _
  exact h.mapUnit

theorem sendRecord {u pa len plot : Nat} {write : Bool} {slot : Option Nat} {data : List Byte} (h : Onward s t) :
    Onward s (t.sendRecord u pa len write slot plot data) := by
  unfold State.sendRecord
  extract_lets _ _ s1 s2
  have h1 : Onward s s1 := h.mapWeft
  have h2 : Onward s s2 := by
    unfold s2
    split
    exacts [h1.mapUnit, h1]
  exact h2.weftSend

theorem loadRemote {u sp ea pa n : Nat} (h : Onward s t) : Loads s (t.loadRemote u sp ea pa n) := by
  unfold State.loadRemote
  extract_lets _
  refine .ite (.of_wait h) ?_
  split
  · exact .of_wait h.sendRecord.mapUnit
  · split
    exacts [.of_got h, .of_exc h.useUp, .of_exc h.useUp, .of_wait h.mapUnit]

theorem loadPlace {u sp ea n : Nat} {p : Place} {pe : Bool} (h : Onward s t) : Loads s (t.loadPlace u sp ea n p pe) := by
  unfold State.loadPlace
  extract_lets _ _ _ s1
  have h1 : Onward s s1 := .ite h.l1Error h
  split
  · exact .ite h.loadRemote h.loadFault
  · refine .ite (.of_wait h) (.ite h.loadFault (.ite (.of_exc h) (.ite (.of_exc h.strongDeny) ?_)))
    split
    exacts [.of_wait (.ite h h.startFill), .ite (.of_exc h1) (.of_got h1.noteEpochs.noteReads)]

theorem place {u sp ea n : Nat} {acc : Access} {k : AccKind} {e : Eff} (h : Onward s t)
    (he : t.place u sp ea n acc k = .error e) : Concludes s e := by
  unfold State.place at he
  extract_lets space hits at he
  split at he
  · cases he
    exact .exc h
  · split_ifs at he
    all_goals cases he
    exacts [.exc h, .exc h, .stop]

theorem storePlace {u sp ea n : Nat} {k : AccKind} {e : Eff} (h : Onward s t)
    (he : t.storePlace u sp ea n k = .error e) : Concludes s e := by
  unfold State.storePlace at he
  split at he
  case h_1 hp =>
    cases he
    exact h.place hp
  case h_2 =>
    split at he
    · cases he
    · split at he
      · cases he
        exact .exc h
      · split at he
        · cases he
          exact .ite (.ended h.captureRefused) (.hold h)
        · cases he

theorem store {u sp ea : Nat} {data : List Byte} {k : AccKind} (h : Onward s t) : Concludes s (t.store u sp ea data k) := by
  unfold State.store
  split
  case h_1 he => exact h.storePlace he
  case h_2 => exact .ite (.hold h) (.done h.pushStore)

theorem storeTwo {u sp ea : Nat} {a b : List Byte} (h : Onward s t) : Concludes s (t.storeTwo u sp ea a b) := by
  unfold State.storeTwo
  split
  case h_1 he => exact h.storePlace he
  case h_2 => exact .ite (.hold h) (.done h.pushStore.pushStore)

theorem writeThrough {u pa : Nat} {data : List Byte} {mark : Option Nat} (h : Onward s t) :
    Onward s (t.writeThrough u pa data mark) := by
  unfold State.writeThrough
  extract_lets _
  exact Onward.deviceStore (.foldl h fun _ _ h1 => h1.dirtyLine)

theorem stcResult {u : Nat} {rd : BitVec 5} {ok : Bool} (h : Onward s t) : Concludes s (t.stcResult u rd ok) :=
  .done h.mapArch

theorem stcStore {u pa : Nat} {data : List Byte} {kind : StoreKind} (h : Onward s t) :
    Onward s (t.stcStore u pa data kind) := by
  unfold State.stcStore
  extract_lets _
  exact .ite h.captureStore.writeThrough (.ite h.deviceStore h.writeThrough)

theorem storeConditional {u : Nat} {f : MemF} (h : Onward s t) : Concludes s (t.storeConditional u f) := by
  unfold State.storeConditional
  extract_lets a ea sp
  split
  case h_1 he => exact h.place he
  case h_2 =>
    refine .ite (.exc h) (.ite h.stcResult (.ite (.hold h) ?_))
    split
    exacts [.ended h.captureRefused,
      .ite h.pushStore.stcResult (.ite (.hold (.ite h h.startFill)) h.stcStore.stcResult)]

theorem execStc {u : Nat} {f : MemF} (h : Onward s t) : Goes s (Machine.execStc u f t) :=
  .next (h.execute (fun _ h1 => h1.storeConditional))

theorem storeReg {u n : Nat} {f : MemF} (h : Onward s t) : Onward s (t.storeReg u f n) := h.execute (fun _ h1 => h1.store)

theorem execStb {u : Nat} {f : MemF} (h : Onward s t) : Goes s (Machine.execStb u f t) := .next h.storeReg

theorem execSth {u : Nat} {f : MemF} (h : Onward s t) : Goes s (Machine.execSth u f t) := .next h.storeReg

theorem execStw {u : Nat} {f : MemF} (h : Onward s t) : Goes s (Machine.execStw u f t) := .next h.storeReg

theorem execFsts {u : Nat} {f : MemF} (h : Onward s t) : Goes s (Machine.execFsts u f t) :=
  .next (h.execute (fun _ h1 => h1.store))

theorem storeEight {u : Nat} {f : MemF} {data : List Byte} (h : Onward s t) : Concludes s (t.storeEight u f data) := by
  unfold State.storeEight
  extract_lets _
  exact .ite h.store h.storeTwo

theorem execStp {u : Nat} {f : MemF} (h : Onward s t) : Goes s (Machine.execStp u f t) :=
  .next (h.execute (fun _ h1 => h1.storeEight))

theorem execFstd {u : Nat} {f : MemF} (h : Onward s t) : Goes s (Machine.execFstd u f t) :=
  .next (h.execute (fun _ h1 => h1.storeEight))

/-! ## Machine/Journal -/

theorem writeCircle {base size off : Nat} {b : List Byte} (h : Onward s t) : Onward s (t.writeCircle base size off b) := by
  unfold State.writeCircle
  extract_lets _
  exact .ite h.agentStore h.agentStore.agentStore

theorem writeArea {off : Nat} {b : List Byte} (h : Onward s t) : Onward s (t.writeArea off b) := h.writeCircle

theorem mapUndo {epoch : Nat} {f : Undo → Undo} (h : Onward s t) : Onward s (t.mapUndo epoch f) := h.mapJournal

theorem setSheaf {x1 : Sheaf} (h : Onward s t) : Onward s (t.setSheaf x1) := h.mapJournal

theorem ringCheck (h : Onward s t) : Onward s t.ringCheck := by
  unfold State.ringCheck
  exact .ite h.setBit.event h

theorem ringTick (h : Onward s t) : Onward s t.ringTick := by
  unfold State.ringTick
  extract_lets s1 s2
  have h1 : Onward s s1 := h.ringCheck
  have h2 : Onward s s2 := .ite h1.setBit h1
  exact h2.mapJournal

theorem freeSheaves (h : Onward s t) : Onward s t.freeSheaves := by
  unfold State.freeSheaves
  extract_lets s1
  have h1 : Onward s s1 := h.mapJournal
  split
  exacts [h1.setReg64, h1.setReg64]

theorem layBodies {off : Nat} {l : List Undo} (h : Onward s t) : Onward s (t.layBodies off l) := by
  fun_induction State.layBodies t off l with
  | case1 => exact h.setReg64
  | case2 => exact h.writeArea.setReg64
  | case3 _ _ _ _ _ ih => exact ih h.writeArea

theorem layOpen (h : Onward s t) : Onward s t.layOpen := h.layBodies

theorem placeSheaf {x1 : Sheaf} (h : Onward s t) : Onward s (t.placeSheaf x1) := by
  unfold State.placeSheaf
  extract_lets _ _ s1
  have h1 : Onward s s1 := h.mapJournal
  exact h1.writeArea.layOpen

theorem writeUndo {r : JRecord} (h : Onward s t) : Onward s (t.writeUndo r) := by
  unfold State.writeUndo
  extract_lets _
  exact h.writeCircle.mapJournal

theorem appendRecord {epoch : Nat} {r : JRecord} (h : Onward s t) : Onward s (t.appendRecord epoch r) :=
  h.mapUndo.writeUndo.layOpen

theorem zeroSheaf {x1 : Sheaf} (h : Onward s t) : Onward s (t.zeroSheaf x1) := h.writeArea.setSheaf.freeSheaves

theorem spoilBody {g : Undo} (h : Onward s t) : Onward s (t.spoilBody g) := h.placeSheaf.freeSheaves

theorem deriveSheafKey {gen : Nat} (h : Onward s t) : Onward s (t.deriveSheafKey gen) := by
  unfold State.deriveSheafKey
  split
  exacts [h, h.mapCipher.mapJournal]

theorem execSheafKeyDerive {gen : Nat} (h : Onward s t) : Goes s (Machine.execSheafKeyDerive gen t) := by
  unfold Machine.execSheafKeyDerive
  extract_lets _
  exact .next (.ite h.deriveSheafKey h)

theorem indexInsert {k : SheafKind} {x2 : Sheaf} {r : BodyRec} (h : Onward s t) : Onward s (t.indexInsert k x2 r) := by
  unfold State.indexInsert
  extract_lets _ _ s1 _ _ _ s2
  have h1 : Onward s s1 := by
    unfold s1
    split
    exacts [.ite h.errEvent h, h]
  have h2 : Onward s s2 := h1.mapJournal
  exact h2.agentStore

theorem indexSheaf {k : SheafKind} {x2 : Sheaf} (h : Onward s t) : Onward s (t.indexSheaf k x2) := by
  unfold State.indexSheaf
  exact .foldl h fun _ _ h1 => h1.indexInsert

theorem mirrorReject (h : Onward s t) : Onward s t.mirrorReject := h.count.errEvent

theorem forgetSheafKeys (h : Onward s t) : Onward s t.forgetSheafKeys := by
  unfold State.forgetSheafKeys
  extract_lets s1
  have h1 : Onward s s1 := h.mapCipher
  exact h1.mapJournal

theorem checkKey {gen : Nat} (h : Onward s t) : Onward s (t.checkKey gen).1 := by
  unfold State.checkKey
  split
  exacts [.pair h.chargeSlot, .pair h]

theorem sheafForm {b : List Byte} (h : Onward s t) : Onward s (t.sheafForm b).1 := by
  unfold State.sheafForm
  extract_lets hdr
  refine .ite1 h ?_
  split
  case h_1 he => exact h.checkKey.fst he
  case h_2 he => exact h.checkKey.fst he

theorem ackSheaf {epoch : Nat} (h : Onward s t) : Onward s (t.ackSheaf epoch) := by
  unfold State.ackSheaf
  extract_lets _
  exact h.linkSend.linkSend

theorem coverPartner {destaged : Nat} (h : Onward s t) : Onward s (t.coverPartner destaged) := h.mapJournal

theorem receiveSheaf {link : Nat} {b : List Byte} {ue : Bool} (h : Onward s t) : Onward s (t.receiveSheaf link b ue) := by
  unfold State.receiveSheaf
  extract_lets _ p1 _ _ _ _ s2 s3 s4
  have h1 : Onward s p1.1 := h.sheafForm
  have h2 : Onward s s2 := h1.coverPartner
  have h3 : Onward s s3 := h2.placeSheaf
  have h4 : Onward s s4 := h3.mapJournal
  refine .ite h (.ite h1.mirrorReject ?_)
  split
  exacts [.ite h1.mirrorReject (.ite h1 h1.setSheaf.ackSheaf), .ite h1.mirrorReject (.ite h1.count.errEvent
    (.ite h1.setBit.dramRead h4.ackSheaf.ringCheck))]

theorem applyLine {base size cursor plot : Nat} {e : Nat × List Byte} (h : Onward s t) :
    Onward s (t.applyLine base size cursor plot e) := by
  unfold State.applyLine
  exact .ite h.errEvent (.ite h h.agentStore)

theorem applyRecord {r : BodyRec} (h : Onward s t) : Onward s (t.applyRecord r) := by
  unfold State.applyRecord
  extract_lets _
  exact .foldl h fun _ _ h1 => h1.applyLine

theorem applySheaf {x1 : Sheaf} (h : Onward s t) : Onward s (t.applySheaf x1) := by
  unfold State.applySheaf
  extract_lets s1 _ s2
  have h1 : Onward s s1 := .foldl h fun _ _ h20 => h20.applyRecord
  have h2 : Onward s s2 := h1.setSheaf.indexSheaf
  exact h2.setReg64.freeSheaves

theorem sealNotice {epoch : Nat} (h : Onward s t) : Onward s (t.sealNotice epoch) := h.mapJournal

theorem reportDestaged {epoch : Nat} (h : Onward s t) : Onward s (t.reportDestaged epoch) := by
  unfold State.reportDestaged
  extract_lets s1
  have h1 : Onward s s1 := h.mapJournal
  exact h1.setReg64.freeSheaves

theorem execSheafRetainExpire {x0 : Nat} (h : Onward s t) : Goes s (Machine.execSheafRetainExpire x0 t) :=
  .next h.advance.freeSheaves

theorem execSheaf {link : Nat} {bytes : List Byte} {ue : Bool} (h : Onward s t) :
    Goes s (Machine.execSheaf link bytes ue t) :=
  .next h.receiveSheaf

theorem execSheafApplyDone (h : Onward s t) : Goes s (Machine.execSheafApplyDone t) := by
  unfold Machine.execSheafApplyDone
  refine .next ?_
  split
  exacts [.ite h.applySheaf h, h]

theorem execRollbackNotice {first second : Nat} (h : Onward s t) : Goes s (Machine.execRollbackNotice first second t) := by
  unfold Machine.execRollbackNotice
  extract_lets _ _ s1 s2
  have h1 : Onward s s1 := h.mapJournal
  have h2 : Onward s s2 := by
    unfold s2
    split
    exacts [h1.mapJournal, h1]
  exact .next (.ite h (.ite h.errEvent (.foldl h2 fun _ _ h3 => h3.zeroSheaf)))

theorem writeJnlCtrl {v : Word} (h : Onward s t) : Onward s (t.writeJnlCtrl v) := by
  unfold State.writeJnlCtrl
  extract_lets s1
  have h1 : Onward s s1 := h.writeFields
  exact .ite h1 (.ite h1.badw h1.mapJournal)

theorem execJnlInit {m : Master} {v : Word} (h : Onward s t) : Goes s (Machine.execJnlInit m v t) :=
  .next (.ite h.writeJnlCtrl h)

theorem execJnlReady (h : Onward s t) : Goes s (Machine.execJnlReady t) := by
  unfold Machine.execJnlReady
  extract_lets _ _ s1 s2 s3 s4
  have h1 : Onward s s1 := h.wipe
  have h2 : Onward s s2 := h1.mapJournal
  have h3 : Onward s s3 := h2.setReg64
  have h4 : Onward s s4 := h3.setReg64
  exact .next (.ite h h4.setBit)

/-! ## Machine/Storage -/

theorem mapPath {n : Nat} {f : Path → Path} (h : Onward s t) : Onward s (t.mapPath n f) := h.mapFurrow

theorem furrowFrame {n : Nat} {o : Out} (h : Onward s t) : Onward s (t.furrowFrame n o) := by
  unfold State.furrowFrame
  split
  exacts [h.sendFrame, h]

theorem issueCmd {c : FrwCmd} {n : Nat} (h : Onward s t) : Onward s (t.issueCmd c n) := by
  unfold State.issueCmd
  extract_lets s1 s2
  have h1 : Onward s s1 := h.mapFurrow
  have h2 : Onward s s2 := .ite h1 h1.count
  exact .ite h2.furrowFrame h2.weftSend

theorem tryIssue {c : FrwCmd} (h : Onward s t) : Onward s (t.tryIssue c) := by
  unfold State.tryIssue
  refine .ite h ?_
  split
  exacts [h.issueCmd, h]

theorem kick (h : Onward s t) : Onward s t.kick := by
  unfold State.kick
  extract_lets _
  exact .foldl h fun _ _ h1 => h1.tryIssue

theorem sendStorage {op group what : Nat} {args : List Nat} {bytes : List Byte} (h : Onward s t) :
    Onward s (t.sendStorage op group what args bytes) := by
  unfold State.sendStorage
  extract_lets _
  exact h.mapFurrow.tryIssue

theorem newOp {k : FrwKind} {epoch : Nat} (h : Onward s t) : Onward s (t.newOp k epoch).1 := by
  unfold State.newOp
  extract_lets _
  exact .pair h.mapFurrow

theorem arbCmd {op reg what : Nat} {args : List Nat} (h : Onward s t) : Onward s (t.arbCmd op reg what args) := by
  unfold State.arbCmd
  extract_lets _
  exact .ite h h.sendStorage

theorem issueStepA (h : Onward s t) : Onward s t.issueStepA := by
  unfold State.issueStepA
  extract_lets p1
  have h1 : Onward s p1.1 := h.newOp
  exact h1.arbCmd

theorem preempt {op : Nat} {regs : List Nat} (h : Onward s t) : Onward s (t.preempt op regs) := by
  unfold State.preempt
  exact .foldl h fun _ _ h1 => h1.arbCmd

theorem issueStepB (h : Onward s t) : Onward s t.issueStepB := by
  unfold State.issueStepB
  extract_lets p1
  have h1 : Onward s p1.1 := h.newOp
  exact h1.preempt

theorem issueReport (h : Onward s t) : Onward s t.issueReport := by
  unfold State.issueReport
  extract_lets p1 s2
  have h1 : Onward s p1.1 := h.newOp
  have h2 : Onward s s2 := h1.arbCmd
  exact h2.mapTwin

theorem issueRelease (h : Onward s t) : Onward s t.issueRelease := by
  unfold State.issueRelease
  extract_lets p1
  have h1 : Onward s p1.1 := h.newOp
  exact .foldl h1 fun _ _ h2 => h2.arbCmd

theorem recallArb {what : Nat} (h : Onward s t) : Onward s (t.recallArb what) := by
  unfold State.recallArb
  extract_lets _ _ s1
  have h1 : Onward s s1 := h.mapFurrow
  exact h1.keep

theorem issueAcquire (h : Onward s t) : Onward s t.issueAcquire := by
  unfold State.issueAcquire
  extract_lets p1
  have h1 : Onward s p1.1 := h.newOp
  exact .foldl h1 fun _ _ h2 => h2.arbCmd

theorem issueRegister (h : Onward s t) : Onward s t.issueRegister := by
  unfold State.issueRegister
  extract_lets p1
  have h1 : Onward s p1.1 := h.newOp
  exact h1.arbCmd

theorem endArb {what : Nat} (h : Onward s t) : Onward s (t.endArb what) := by
  unfold State.endArb
  split
  exacts [h.mapFurrow, h]

/-! ## Machine/Seal -/

theorem voteCovers {l : List VoteDue} (h : Onward s t) : Onward s (t.voteCovers l).1 := by
  unfold State.voteCovers
  exact .foldl1 (.pair h) fun _ _ h1 => .ite1 (.pair h1.drawn) (.pair h1)

theorem sendVotes {epoch : Nat} {sealed : Bool} (h : Onward s t) : Onward s (t.sendVotes epoch sealed) := by
  unfold State.sendVotes
  extract_lets _
  exact .foldl h fun _ _ h1 => h1.voteCovers.weftSend

theorem oweVote {mine dev theirs n : Nat} {failed : Bool} (h : Onward s t) :
    Onward s (t.oweVote mine dev theirs n failed) := by
  unfold State.oweVote
  extract_lets _
  exact h.mapWeft

theorem redoChunks {first : Nat} (h : Onward s t) : Onward s (t.redoChunks first) := by
  unfold State.redoChunks
  extract_lets _ _ s1
  have h1 : Onward s s1 := h.mapFurrow
  exact h1.mapTwin

theorem withdraw {first : Nat} (h : Onward s t) : Onward s (t.withdraw first) := by
  unfold State.withdraw
  exact .foldl h fun _ _ h1 => h1.requeue

theorem rollBack {first next : Nat} {cause : RbCause} (h : Onward s t) : Onward s (t.rollBack first next cause) := by
  unfold State.rollBack
  extract_lets s1 s2 _ s3 s4 s5 s6
  have h1 : Onward s s1 := h.setBit.setBit
  have h2 : Onward s s2 := h1.setBit
  have h3 : Onward s s3 := h2.mapTick
  have h4 : Onward s s4 := h3.mapTwin
  have h5 : Onward s s5 := .foldl h4 fun _ _ h24 => .ite h24.endInput h24
  have h6 : Onward s s6 := .foldl h5 fun _ _ h25 => h25.sendVotes
  exact .ite h6.event h6

theorem failSeal {cause : RbCause} (h : Onward s t) : Onward s (t.failSeal cause) := by
  unfold State.failSeal
  split
  exacts [h, .ite h.event h.rollBack]

theorem failOldest {cause : RbCause} (h : Onward s t) : Onward s (t.failOldest cause) := by
  unfold State.failOldest
  exact .ite h.failSeal (.ite h.rollBack h)

theorem discardMarked {first : Nat} (h : Onward s t) : Onward s (t.discardMarked first) := by
  unfold State.discardMarked
  refine .foldl h fun _ _ h1 => .foldl h1 fun _ _ h2 => Onward.dropLine ?_
  split
  exacts [h2.deviceStore, h2]

theorem putBefore {base : Nat} {e : LineEntry} (h : Onward s t) : Onward s (t.putBefore base e) := by
  unfold State.putBefore
  extract_lets _
  exact Onward.deviceStore (.foldl h fun _ _ h1 => h1.doom.dropLine)

theorem undoRecord {r : JRecord} (h : Onward s t) : Onward s (t.undoRecord r) := by
  unfold State.undoRecord
  exact .foldl h fun _ _ h1 => h1.putBefore

theorem undoGroups {first : Nat} (h : Onward s t) : Onward s (t.undoGroups first) := by
  unfold State.undoGroups
  exact .foldl h fun _ _ h1 => .foldl h1 fun _ _ h2 => h2.undoRecord

theorem noticeRollback {r : Rollback} (h : Onward s t) : Onward s (t.noticeRollback r) := by
  unfold State.noticeRollback
  extract_lets s1 _ s2 s3
  have h1 : Onward s s1 := .ite h.mirrorSend h
  have h2 : Onward s s2 := .foldl h1 fun _ _ h21 => h21.zeroSheaf
  have h3 : Onward s s3 := .foldl h2.mapJournal fun _ _ h22 => h22.spoilBody
  exact h3.redoChunks

theorem recordRollback {r : Rollback} (h : Onward s t) : Onward s (t.recordRollback r) := h.event.setReg64.count

theorem restore {r : Rollback} (h : Onward s t) : Onward s (t.restore r) := by
  unfold State.restore
  extract_lets s1 s2 s3
  have h1 : Onward s s1 := h.undoGroups.discardMarked.withdraw
  have h2 : Onward s s2 := h1.noticeRollback.recordRollback.mapJournal
  have h3 : Onward s s3 := h2.mapWeft
  exact h3.mapTick

theorem execRollbackRestoreDone (h : Onward s t) : Goes s (Machine.execRollbackRestoreDone t) := by
  unfold Machine.execRollbackRestoreDone
  refine .next ?_
  split
  exacts [.ite h h.restore, h]

theorem countSeal {z : Seal} {dur : Nat} (h : Onward s t) : Onward s (t.countSeal z dur) := by
  unfold State.countSeal
  extract_lets _ s1
  have h1 : Onward s s1 := h.mapTick
  exact .ite h1.setBit h1

theorem removeMarks {epoch : Nat} (h : Onward s t) : Onward s (t.removeMarks epoch) := by
  unfold State.removeMarks
  exact .foldl h fun _ _ h1 => .ite h1.mapCluster h1

theorem setChain {chain : List Byte} (h : Onward s t) : Onward s (t.setChain chain) := by
  unfold State.setChain
  exact .foldl h fun _ _ h1 => h1.setReg

theorem sealSheaf {x1 : Sheaf} (h : Onward s t) : Onward s (t.sealSheaf x1) := by
  unfold State.sealSheaf
  extract_lets _ s1 s2 s3
  have h1 : Onward s s1 := h.setSheaf.setChain
  have h2 : Onward s s2 := h1.count.sample
  have h3 : Onward s s3 := h2.mapJournal
  exact h3.indexSheaf

theorem releaseUpTo {epoch : Nat} (h : Onward s t) : Onward s (t.releaseUpTo epoch) := h.handAll

theorem sendSealed {epoch : Nat} (h : Onward s t) : Onward s (t.sendSealed epoch) := h.mirrorSend

theorem handBackSealed {epoch : Nat} (h : Onward s t) : Onward s (t.handBackSealed epoch) := by
  unfold State.handBackSealed
  split
  exacts [.ite h.mapTwin.issueRelease h, h]

theorem sealDone {z : Seal} (h : Onward s t) : Onward s (t.sealDone z) := by
  unfold State.sealDone
  extract_lets _ s1 _ s2 s3 s4 s5 s6 s7 s8 s9 s10
  have h1 : Onward s s1 := h.setReg64
  have h2 : Onward s s2 := h1.setReg
  have h3 : Onward s s3 := h2.setReg
  have h4 : Onward s s4 := h3.countSeal.sample
  have h5 : Onward s s5 := h4.removeMarks
  have h6 : Onward s s6 := by
    unfold s6
    split
    exacts [h5.sealSheaf, h5]
  have h7 : Onward s s7 := h6.mapJournal
  have h8 : Onward s s8 := h7.mapWeft
  have h9 : Onward s s9 := h8.mapTick
  have h10 : Onward s s10 := .ite h9 h9.sendSealed
  exact h10.releaseUpTo.handBackSealed

theorem trySeal (h : Onward s t) : Onward s t.trySeal := by
  unfold State.trySeal
  split
  exacts [h, .ite h (.ite h.failSeal (.ite h (.ite (.ite h.mapTick.sendVotes h) (.ite (Onward.sealDone
    (.ite h.mapTick.sendVotes h)) (Onward.failSeal (.ite h.mapTick.sendVotes h))))))]

theorem mapSeal {f : Seal → Seal} (h : Onward s t) : Onward s (t.mapSeal f) := h.mapTick

theorem cutOff {z : Seal} (h : Onward s t) : Onward s (t.cutOff z) := by
  unfold State.cutOff
  extract_lets _ _ s1 s2
  have h1 : Onward s s1 := h.sample
  have h2 : Onward s s2 := h1.mapTick
  exact .ite h2 h2.placeSheaf

theorem tryCutOff (h : Onward s t) : Onward s t.tryCutOff := by
  unfold State.tryCutOff
  split
  exacts [.ite h.cutOff.trySeal h, h]

theorem markerIn {p : Nat} (h : Onward s t) : Onward s (t.markerIn p) := h.mapSeal.tryCutOff

theorem execCloseMarker {pair : Nat} (h : Onward s t) : Goes s (Machine.execCloseMarker pair t) := by
  unfold Machine.execCloseMarker
  refine .next ?_
  split
  exacts [.ite h.markerIn h, h]

theorem execSealWritebackDone {cluster : Nat} (h : Onward s t) : Goes s (Machine.execSealWritebackDone cluster t) := by
  unfold Machine.execSealWritebackDone
  refine .next ?_
  split
  exacts [.ite h.mapCluster.mapSeal.trySeal h, h]

theorem sealEngineFails {base : Nat} (h : Onward s t) : Onward s (t.sealEngineFails base) := by
  unfold State.sealEngineFails
  extract_lets _
  exact h.drawn.errEvent.failSeal

theorem ringError {pa : Nat} (h : Onward s t) : Onward s (t.ringError pa) := h.setBit.dramRead

theorem execSealHashDone {err : Bool} (h : Onward s t) : Goes s (Machine.execSealHashDone err t) := by
  unfold Machine.execSealHashDone
  refine .next ?_
  split
  · split
    exacts [.ite h (.ite h.sealEngineFails h.setSheaf.mapSeal.trySeal), h]
  · exact h

theorem execSealMacDone {err ue : Bool} (h : Onward s t) : Goes s (Machine.execSealMacDone err ue t) := by
  unfold Machine.execSealMacDone
  refine .next ?_
  split
  · split
    · refine .ite h ?_
      extract_lets
      split
      exacts [h.failSeal, .ite h.sealEngineFails (.ite h.ringError.failSeal ((Onward.mapSeal
        (.ite h.chargeSlot.setSheaf.writeArea h.chargeSlot.setSheaf.writeArea.sendSheaf)).trySeal))]
    · exact h
  · exact h

theorem execSheafAck {x0 link epoch : Nat} (h : Onward s t) : Goes s (Machine.execSheafAck x0 link epoch t) := by
  unfold Machine.execSheafAck
  extract_lets s1
  have h1 : Onward s s1 := h.advance
  refine .next ?_
  split
  exacts [.ite h1.mapSeal.trySeal h1, h1]

theorem execSealFailLimit {x0 : Nat} (h : Onward s t) : Goes s (Machine.execSealFailLimit x0 t) := by
  unfold Machine.execSealFailLimit
  extract_lets s1
  have h1 : Onward s s1 := h.advance
  refine .next ?_
  split
  exacts [.ite h1.failSeal h1, h1]

theorem takeVote {dev epoch : Nat} {ok : Bool} {covers : List (Nat × Nat)} (h : Onward s t) :
    Onward s (t.takeVote dev epoch ok covers) := by
  unfold State.takeVote
  extract_lets s1
  have h1 : Onward s s1 := .ite h h.count.setBit
  exact h1.mapWeft.trySeal

theorem execVote {x0 dev epoch : Nat} {sealed : Bool} {covers : List (Nat × Nat)} (h : Onward s t) :
    Goes s (Machine.execVote x0 dev epoch sealed covers t) := by
  unfold Machine.execVote
  extract_lets s1
  have h1 : Onward s s1 := h.advance
  exact .next (.ite h1 h1.seen.takeVote)

theorem queueCommit {u slot rlen : Nat} (h : Onward s t) : Onward s (t.queueCommit u slot rlen) := h.mapJournal

theorem spanReady {w : SpanWait} (h : Onward s t) : Onward s (t.spanReady w) := by
  unfold State.spanReady
  split
  exacts [.ite h.queueCommit h, h]

theorem beginSpan {u rlen : Nat} {x2 : TSlot} {homes : List Nat} (h : Onward s t) :
    Onward s (t.beginSpan u x2 rlen homes) := by
  unfold State.beginSpan
  extract_lets s1 s2
  have h1 : Onward s s1 := .foldl h fun _ _ h20 => h20.weftSend
  have h2 : Onward s s2 := h1.mapWeft
  exact h2.setTslot.mapUnit

theorem endCommit {u epoch rlen : Nat} {x2 : TSlot} {wait : Option Nat} (h : Onward s t) :
    Onward s (t.endCommit u x2 epoch wait rlen) := by
  unfold State.endCommit
  extract_lets _ s1 s2
  have h1 : Onward s s1 := h.retire
  have h2 : Onward s s2 := h1.leave
  exact h2.complete

theorem execCommit {u : Nat} {f : RegF} (h : Onward s t) : Goes s (Machine.execCommit u f t) := by
  unfold Machine.execCommit
  refine .next (h.execute (fun _ h1 => ?_))
  split
  · exact .exc h1
  · refine .ite (.exc h1) (.ite (.hold h1) (.ite (.hold ?_) (.ite (.hold h1.beginSpan) (.ite (.ended h1.endCommit)
    (.hold h1.queueCommit.mapUnit)))))
    split
    exacts [h1.mapUnit.spanReady, h1.mapUnit]

theorem afterImages {u : Nat} {r : JRecord} (h : Onward s t) : Onward s (t.afterImages u r) := by
  unfold State.afterImages
  exact .foldl h fun _ _ h1 => h1.setBytes

theorem spanVotes {slot epoch : Nat} (h : Onward s t) : Onward s (t.spanVotes slot epoch) := by
  unfold State.spanVotes
  split
  exacts [h, Onward.mapWeft (.foldl (.foldl h fun _ _ h1 => .ite h1 h1.oweVote) fun _ _ h1 => h1.oweVote)]

theorem acceptCapture {w : CommitWait} {ue : Bool} (h : Onward s t) : Onward s (t.acceptCapture w ue) := by
  unfold State.acceptCapture
  extract_lets _
  split
  · exact h
  · refine .ite h.ringError.failOldest (.ite h.captureLost ?_)
    split
    exacts [h.setBit, h.afterImages.appendRecord.spanVotes.mapUnit.endCommit.ringCheck]

theorem execCaptureAccept {ue : Bool} (h : Onward s t) : Goes s (Machine.execCaptureAccept ue t) := by
  unfold Machine.execCaptureAccept
  refine .next ?_
  split
  exacts [.ite h.acceptCapture h, h]

theorem spanAnswer {dev slot epoch : Nat} {ok : Bool} (h : Onward s t) : Onward s (t.spanAnswer dev slot epoch ok) := by
  unfold State.spanAnswer
  split
  exacts [h, .ite h.mapWeft.spanReady h]

theorem execSpanAccept {dev slot epoch : Nat} {ok : Bool} (h : Onward s t) :
    Goes s (Machine.execSpanAccept dev slot epoch ok t) :=
  .next (.ite h h.seen.spanAnswer)

theorem execSpanAcceptTimeout {x0 slot : Nat} (h : Onward s t) : Goes s (Machine.execSpanAcceptTimeout x0 slot t) := by
  unfold Machine.execSpanAcceptTimeout
  extract_lets s1
  have h1 : Onward s s1 := h.advance
  refine .next ?_
  split
  exacts [.ite h1.mapWeft.spanReady h1, h1]

/-! ## Machine/Caches -/

theorem lineOp {u : Nat} {f : CacF} {op : State → Nat → Nat → Place → State} (h : Onward s t)
    (ho : ∀ r c pa p, Onward s r → Onward s (op r c pa p)) : Onward s (t.lineOp u f op) := by
  unfold State.lineOp
  refine h.execute fun _ h1 => ?_
  split
  case h_1 he => exact h1.place he
  case h_2 => exact .done (.ite (ho _ _ _ _ h1) h1)

theorem cleanAll {pa : Nat} (h : Onward s t) : Onward s (t.cleanAll pa) := by
  unfold State.cleanAll
  exact .foldl h fun _ _ h1 => h1.cleanLine

theorem flushAll {pa : Nat} (h : Onward s t) : Onward s (t.flushAll pa) := by
  unfold State.flushAll
  exact .foldl h fun _ _ h1 => h1.invalLine

theorem prefetchLine {u c pa : Nat} (h : Onward s t) : Onward s (t.prefetchLine u c pa) := by
  unfold State.prefetchLine
  exact .ite h h.startFill

theorem preloadLine {u c pa : Nat} (h : Onward s t) : Onward s (t.preloadLine u c pa) := by
  unfold State.preloadLine
  split
  · exact h.prefetchLine
  · split
    exacts [.ite h h.putLine, .ite h h.mapCluster]

theorem execZline {u : Nat} {f : CacF} (h : Onward s t) : Goes s (Machine.execZline u f t) :=
  .next (h.execute (fun _ h1 => h1.store))

theorem execPreload {u : Nat} {f : CacF} (h : Onward s t) : Goes s (Machine.execPreload u f t) :=
  .next (h.lineOp (fun _ _ _ _ h1 => .ite h1.preloadLine h1))

theorem execClean {u : Nat} {f : CacF} (h : Onward s t) : Goes s (Machine.execClean u f t) :=
  .next (h.lineOp (fun _ _ _ _ h1 => h1.cleanAll))

theorem execInval {u : Nat} {f : CacF} (h : Onward s t) : Goes s (Machine.execInval u f t) :=
  .next (h.lineOp (fun _ _ _ _ h1 => h1.invalLine))

theorem execFlush {u : Nat} {f : CacF} (h : Onward s t) : Goes s (Machine.execFlush u f t) :=
  .next (h.lineOp (fun _ _ _ _ h1 => h1.flushAll))

theorem execIinval {u : Nat} {f : CacF} (h : Onward s t) : Goes s (Machine.execIinval u f t) :=
  .next (h.lineOp (fun _ _ _ _ h1 => h1))

theorem execPrefetch {u : Nat} {f : CacF} (h : Onward s t) : Goes s (Machine.execPrefetch u f t) := by
  unfold Machine.execPrefetch
  extract_lets _
  refine .next (h.execute (fun _ h1 => ?_))
  split
  exacts [.done h1, .done (.ite h1.prefetchLine h1)]

theorem rangeOp {u : Nat} {f : CrgF} {op : State → Nat → Nat → State} (h : Onward s t)
    (ho : ∀ r c l, Onward s r → Onward s (op r c l)) : Onward s (t.rangeOp u f op) := by
  unfold State.rangeOp
  refine h.execute fun _ h1 => .ite (.done h1) ?_
  split
  case h_1 he => exact h1.place he
  case h_2 => exact .done (Onward.setRegs (.foldl h1 fun _ _ h2 => .ite (ho _ _ _ h2) h2))

theorem execRclean {u : Nat} {f : CrgF} (h : Onward s t) : Goes s (Machine.execRclean u f t) :=
  .next (h.rangeOp (fun _ _ _ h1 => h1.cleanAll))

theorem execRinval {u : Nat} {f : CrgF} (h : Onward s t) : Goes s (Machine.execRinval u f t) :=
  .next (h.rangeOp (fun _ _ _ h1 => h1.invalLine))

theorem execRflush {u : Nat} {f : CrgF} (h : Onward s t) : Goes s (Machine.execRflush u f t) :=
  .next (h.rangeOp (fun _ _ _ h1 => h1.flushAll))

theorem endFill {c : Nat} {x2 : Fill} {put : List Fill} (h : Onward s t) : Onward s (t.endFill c x2 put) := h.mapCluster

theorem doomedFill {c : Nat} {x2 : Fill} (h : Onward s t) : Onward s (t.doomedFill c x2) := by
  unfold State.doomedFill
  extract_lets s1
  have h1 : Onward s s1 := h.count
  split
  exacts [h1.endFill, h1.endFill, h1.endFill, h1.endFill, h1.endFill]

theorem execCacheFill {cluster pa : Nat} {f : FillFor} {r : ReadResult} (h : Onward s t) :
    Goes s (Machine.execCacheFill cluster pa f r t) := by
  unfold Machine.execCacheFill
  extract_lets _
  refine .next ?_
  split
  exacts [h, .ite (Onward.doomedFill (.ite h h.dramRead)) ((Onward.endFill (.ite h h.dramRead)).putLine)]

theorem l2Corrected {c bit : Nat} (h : Onward s t) : Onward s (t.l2Corrected c bit) := h.count.errEvent

theorem markedLost {c bit : Nat} (h : Onward s t) : Onward s (t.markedLost c bit) := h.setBit.failOldest

theorem dirtyLost {c pa : Nat} (h : Onward s t) : Onward s (t.dirtyLost c pa) := by
  unfold State.dirtyLost
  extract_lets s1
  have h1 : Onward s s1 := h.setPoison.dropLine
  split
  exacts [h1.errEvent, h1.errEvent]

theorem dataLost {c : Nat} {l : CLine} (h : Onward s t) : Onward s (t.dataLost c l) := by
  unfold State.dataLost
  split
  exacts [h.l2Corrected, h.markedLost, h.dirtyLost]

theorem tagLost {c : Nat} {l : CLine} (h : Onward s t) : Onward s (t.tagLost c l) := by
  unfold State.tagLost
  split
  exacts [h.dropLine.l2Corrected, h.l2Corrected, h.markedLost, h.errEvent]

theorem missedFlip {pa : Nat} (h : Onward s t) : Onward s (t.missedFlip pa) := h.drawn.setByte

theorem execL2Scrub {cluster pa : Nat} {e : L2Error} (h : Onward s t) : Goes s (Machine.execL2Scrub cluster pa e t) := by
  unfold Machine.execL2Scrub
  extract_lets _
  refine .next ?_
  split
  · exact h
  · split
    exacts [h.tagLost, .ite h (.ite h.l2Corrected h.errEvent), .ite h (.ite (.ite h.l2Corrected h.dataLost)
      (.ite h.missedFlip h.dataLost))]

theorem execScratchpadScrub {cluster off : Nat} {e : SpError} (h : Onward s t) :
    Goes s (Machine.execScratchpadScrub cluster off e t) := by
  unfold Machine.execScratchpadScrub
  extract_lets _
  refine .next ?_
  split
  exacts [h.count.errEvent, h.setPoison.errEvent]

theorem setSpstat {c i : Nat} {v : Bool} (h : Onward s t) : Onward s (t.setSpstat c i v) := h.setBit

theorem retainBank {c b : Nat} {want : Bool} {busy : List Nat} (h : Onward s t) :
    Onward s (t.retainBank c b want busy) := by
  unfold State.retainBank
  extract_lets _
  exact .ite h (.ite (.ite h.setBit h.setBit.setSpstat.setSpstat) h.setBit.setSpstat.setSpstat)

theorem execScratchpadRetention {m : Master} {cluster : Nat} {v : Word} {busy : List Nat} (h : Onward s t) :
    Goes s (Machine.execScratchpadRetention m cluster v busy t) :=
  .next (.ite (.foldl h fun _ _ h1 => h1.retainBank) h)

theorem execBankWakeDone {cluster bank : Nat} (h : Onward s t) : Goes s (Machine.execBankWakeDone cluster bank t) :=
  .next (.ite h.setSpstat h)

theorem startWipe (h : Onward s t) : Onward s t.startWipe := by
  unfold State.startWipe
  exact .foldl h fun _ _ h1 => h1.retainBank.setSpstat

theorem wipeStrongroom {c : Nat} (h : Onward s t) : Onward s (t.wipeStrongroom c) := by
  unfold State.wipeStrongroom
  extract_lets base s1
  have h1 : Onward s s1 := h.filterMem
  exact h1.setSpstat.setBit

theorem execStrongroomWipeDone {cluster : Nat} (h : Onward s t) : Goes s (Machine.execStrongroomWipeDone cluster t) :=
  .next (.ite h.wipeStrongroom h)

/-! ## Machine/Reset -/

theorem noteCause {cause : Nat} (h : Onward s t) : Onward s (t.noteCause cause) := h.setReg.setFld

theorem restartBase (h : Onward s t) : Onward s t.restartBase := h.mapTick

theorem wf_memAfterReset (h : swf blankByte t.mem.cells = true) : swf blankByte t.memAfterReset.cells = true := by
  unfold State.memAfterReset
  extract_lets dirty s1
  have h1 : swf blankByte s1.mem.cells = true := by
    unfold s1
    clear_value dirty
    induction dirty generalizing t with
    | nil => exact h
    | cons d l ih => exact ih (setBytes_keeps_wf t d.1 d.2 h)
  exact swf_filter _ h1

theorem swf_ctlAfterReset (h : swf regReset t.ctl.regs = true) : swf regReset t.ctlAfterReset.regs = true := by
  unfold State.ctlAfterReset
  extract_lets part l1 l2 l3
  exact swf_sset _ _ (swf_sset _ _ (swf_sset _ _ (swf_filter _ h)))

theorem deviceReset {cause : Nat} (h : Onward s t) : Onward s (t.deviceReset cause) := by
  refine Onward.restartBase (.noteCause ⟨h.pending, fun hs => (State.canonical_iff _).mpr ⟨?_, ?_, rfl, rfl, rfl⟩⟩)
  · exact wf_memAfterReset (State.canonical_iff _ |>.mp (h.canonical hs)).1
  · exact swf_ctlAfterReset (State.canonical_iff _ |>.mp (h.canonical hs)).2.1

theorem tryReset {cause : Nat} (h : Onward s t) : Onward s (t.tryReset cause) := by
  unfold State.tryReset
  exact .ite h.deviceReset h

theorem losePower (h : Onward s t) : Onward s t.losePower := by
  unfold State.losePower
  refine ⟨h.pending, fun hs => (State.canonical_iff _).mpr ⟨rfl, ?_, rfl, rfl, rfl⟩⟩
  exact swf_filter _ (State.canonical_iff _ |>.mp (h.canonical hs)).2.1

theorem execPorstNAssert (h : Onward s t) : Goes s (Machine.execPorstNAssert t) := .next h.losePower

theorem execPowerOnReset (h : Onward s t) : Goes s (Machine.execPowerOnReset t) := by
  unfold Machine.execPowerOnReset
  extract_lets s1
  have h1 : Onward s s1 := .ite h.losePower h
  exact .next h1.mapPower.mapBoot.noteCause.restartBase

theorem execResetNAssert {x0 : Nat} (h : Onward s t) : Goes s (Machine.execResetNAssert x0 t) := by
  unfold Machine.execResetNAssert
  extract_lets s1
  have h1 : Onward s s1 := h.advance.mapPower
  exact .next h1.tryReset

theorem execResetNRelease {x0 : Nat} (h : Onward s t) : Goes s (Machine.execResetNRelease x0 t) := by
  unfold Machine.execResetNRelease
  extract_lets s1
  have h1 : Onward s s1 := h.advance.mapPower
  exact .next (.ite h1.mapPower.restartBase h1)

theorem writeRstCtrl {m : Master} {v : Word} (h : Onward s t) : Onward s (t.writeRstCtrl m v) := by
  unfold State.writeRstCtrl
  exact .ite h.tryReset h.badw

theorem execSoftwareReset {m : Master} {v : Word} (h : Onward s t) : Goes s (Machine.execSoftwareReset m v t) :=
  .next (.ite h.writeRstCtrl h)

theorem execLifecycleReset (h : Onward s t) : Goes s (Machine.execLifecycleReset t) := by
  unfold Machine.execLifecycleReset
  refine .next ?_
  split
  exacts [h.advance.tryReset, h]

/-! ## Machine/Debug -/

theorem dbgRefuse {m : Master} {bit : Nat} (h : Onward s t) : Onward s (t.dbgRefuse m bit) := by
  unfold State.dbgRefuse
  exact .ite h.setBit h

theorem extendMeas {i : Nat} {d : List Byte} (h : Onward s t) : Onward s (t.extendMeas i d) := by
  unfold State.extendMeas
  extract_lets _
  exact h.mapBoot

theorem authorise {b : List Byte} (h : Onward s t) : Onward s (t.authorise b) := by
  unfold State.authorise
  extract_lets _ s1
  have h1 : Onward s s1 := h.mapEvral
  exact .ite h1.mapEvral.extendMeas.event h1.setBit

theorem writeAuthCtrl {v : Word} (h : Onward s t) : Onward s (t.writeAuthCtrl v) := by
  unfold State.writeAuthCtrl
  extract_lets s1
  have h1 : Onward s s1 := .ite (.foldl h fun _ _ h20 => h20.setReg) h
  exact .ite h1.mapEvral h1

theorem execAuthCommit {m : Master} (h : Onward s t) : Goes s (Machine.execAuthCommit m t) :=
  .next (.ite h.writeAuthCtrl h.dbgRefuse)

theorem execAuthClear {m : Master} (h : Onward s t) : Goes s (Machine.execAuthClear m t) :=
  .next (.ite h.writeAuthCtrl h.dbgRefuse)

theorem execAuthCheckDone (h : Onward s t) : Goes s (Machine.execAuthCheckDone t) := .next (.ite h.mapEvral.authorise h)

theorem dbgHalt {p : Nat} (h : Onward s t) : Onward s (t.dbgHalt p) := by
  unfold State.dbgHalt
  exact .ite h (.ite h.haltPair.mapEvral (.foldl h fun _ _ h1 => h1.mapUnit))

theorem dbgResume {p : Nat} (h : Onward s t) : Onward s (t.dbgResume p) := by
  unfold State.dbgResume
  extract_lets _ s1 s2
  have h1 : Onward s s1 := .foldl h fun _ _ h20 => h20.mapUnit
  have h2 : Onward s s2 := h1.mapPair
  exact .ite h (.ite h2.mapEvral.mapPower h2)

theorem dbgStep {p : Nat} (h : Onward s t) : Onward s (t.dbgStep p) := by
  unfold State.dbgStep
  exact .ite h (.ite h.mapPair (.foldl h fun _ _ h1 => h1.mapUnit))

theorem writePctrl {m : Master} {v : Word} (h : Onward s t) : Onward s (t.writePctrl m v) := by
  unfold State.writePctrl
  extract_lets _ s1 _ _ s2 _ s3
  have h1 : Onward s s1 := .ite h.setFld h.badw
  have h2 : Onward s s2 := .ite h1.badw h1
  have h3 : Onward s s3 := h2.mapPair
  exact .ite h2 (.ite h2.dbgRefuse (.ite h3.dbgHalt (.ite h3.dbgResume (.ite h3.dbgStep h3))))

theorem pctrlBy {m : Master} {v : Word} (h : Onward s t) : Onward s (t.pctrlBy m v) := by
  unfold State.pctrlBy
  exact .ite h.writePctrl h.dbgRefuse

theorem execDebugHalt {m : Master} {v : Word} (h : Onward s t) : Goes s (Machine.execDebugHalt m v t) := .next h.pctrlBy

theorem execResume {m : Master} {v : Word} (h : Onward s t) : Goes s (Machine.execResume m v t) := .next h.pctrlBy

theorem execStep {m : Master} {v : Word} (h : Onward s t) : Goes s (Machine.execStep m v t) := .next h.pctrlBy

theorem writeBp {m : Master} {k : Nat} {ctl : Bool} {v : Word} (h : Onward s t) : Onward s (t.writeBp m k ctl v) := by
  unfold State.writeBp
  extract_lets _
  exact .ite h.dbgRefuse h.mapPair

theorem writeRsel {v : Word} (h : Onward s t) : Onward s (t.writeRsel v) := by
  unfold State.writeRsel
  exact .ite h.setFld h.badw

theorem readRdata {m : Master} (h : Onward s t) : Onward s (t.readRdata m).1 := by
  unfold State.readRdata
  split
  exacts [.pair h.setBit, .pair h]

theorem writeRdata {m : Master} {v : Word} (h : Onward s t) : Onward s (t.writeRdata m v) := by
  unfold State.writeRdata
  split
  exacts [h.setBit, .foldl h fun _ _ h1 => h1.mapArch]

theorem execDbgRdataAccess {m : Master} {write : Bool} {v : Word} (h : Onward s t) :
    Goes s (Machine.execDbgRdataAccess m write v t) := by
  unfold Machine.execDbgRdataAccess
  extract_lets p1
  have h1 : Onward s p1.1 := h.readRdata
  exact .next (.ite h.dbgRefuse (.ite h.writeRdata h1.answerRead))

/-! ## Machine/PlotTable -/

theorem addQpair {plot queue slotsz depth channel : Nat} (h : Onward s t) :
    Onward s (t.addQpair plot queue slotsz depth channel) := by
  unfold State.addQpair
  split
  exacts [h.drawn.drawn.drawn.mapPlots, h]

theorem invalidate {n : Nat} (h : Onward s t) : Onward s (t.invalidate n) := h.mapPlot

theorem setSpace {n loc : Nat} {e : Space} (h : Onward s t) : Onward s (t.setSpace n loc e) := by
  unfold State.setSpace
  split
  exacts [h.agentStore.invalidate, h]

theorem setLibEntry {n index space off : Nat} (h : Onward s t) : Onward s (t.setLibEntry n index space off) := by
  unfold State.setLibEntry
  split
  exacts [h.agentStore.mapPlot, h]

theorem fillTables {n : Nat} {lib : List Byte} (h : Onward s t) : Onward s (t.fillTables n lib) := by
  unfold State.fillTables
  split
  exacts [.foldl h.agentStore fun _ _ h1 => h1.agentStore, h]

theorem placeTables {n : Nat} (h : Onward s t) (hr : t.placeTables n = some r) : Onward s r := by
  obtain ⟨_, -, hm⟩ := Option.bind_eq_some_iff.mp hr
  obtain ⟨_, -, rfl⟩ := Option.map_eq_some_iff.mp hm
  exact h.drawn.mapPlot.drawn.mapPlot.wipe.wipe

theorem placeImage {n : Nat} {img : List Byte} (h : Onward s t) (hr : t.placeImage n img = some r) : Onward s r := by
  obtain ⟨_, -, rfl⟩ := Option.map_eq_some_iff.mp hr
  exact h.drawn.mapPlot.agentStore

theorem plotFromCopy {own : Bool} {b : List Byte} (h : Onward s t) : Onward s (t.plotFromCopy own b) := by
  unfold State.plotFromCopy
  extract_lets _ _ _ _ _ exec _ _ _ _ _ s1 s2 s3
  have h1 : Onward s s1 := h.setPlot
  have h2 : Onward s s2 := (h1.getD fun _ => h1.placeTables).fillTables
  have h3 : Onward s s3 := .ite h2 (h2.getD fun _ => h2.placeImage)
  exact .ite h3 (.foldl h3 fun _ _ h4 => h4.addQpair)

theorem removePlot {plot : Nat} (h : Onward s t) : Onward s (t.removePlot plot) := by
  unfold State.removePlot
  extract_lets s1 s2 s3
  have h1 : Onward s s1 := h.dropPlot
  have h2 : Onward s s2 := h1.mapPlots
  have h3 : Onward s s3 := h2.mapSteward
  exact h3.mapEth

theorem installHeadland (h : Onward s t) : Onward s t.installHeadland := by
  unfold State.installHeadland
  extract_lets _ s1
  have h1 : Onward s s1 := h.setPlot
  exact .ite h h1.addQpair

theorem writePltCtrl {v : Word} (h : Onward s t) : Onward s (t.writePltCtrl v) := by
  unfold State.writePltCtrl
  extract_lets s1
  have h1 : Onward s s1 := h.writeFields
  exact .ite h1 (.ite h1.badw h1.mapPlots)

theorem execPltInit {m : Master} {v : Word} (h : Onward s t) : Goes s (Machine.execPltInit m v t) :=
  .next (.ite h.writePltCtrl h)

theorem execPltReady (h : Onward s t) : Goes s (Machine.execPltReady t) := .next (.ite h.mapPlots.setBit h)

/-! ## Machine/Engines -/

theorem strongRead {pa n : Nat} {strong : Bool} (h : Onward s t) : Onward s (t.strongRead pa n strong) := by
  unfold State.strongRead
  split
  exacts [.ite h.strongDeny h, h]

theorem engineWriteLine {pa : Nat} {data : List Byte} {strong : Bool} (h : Onward s t) :
    Onward s (t.engineWriteLine pa data strong) := by
  unfold State.engineWriteLine
  split
  exacts [h.agentStore, .ite (.ite h.strongDeny (.ite h h.deviceStore)) h.deviceStore, h]

theorem engineWrite {pa : Nat} {data : List Byte} {strong : Bool} (h : Onward s t) :
    Onward s (t.engineWrite pa data strong) := by
  unfold State.engineWrite
  exact .foldl h fun _ _ h1 => h1.engineWriteLine

theorem stewardEngine (h : Onward s t) : Onward s t.stewardEngine := h.mapUnit

/-! ## Machine/Channels -/

theorem setOp {o : FrwOp} (h : Onward s t) : Onward s (t.setOp o) := h.mapFurrow

theorem dropOp {id : Nat} (h : Onward s t) : Onward s (t.dropOp id) := h.mapFurrow

theorem mirrorOp {o : FrwOp} (h : Onward s t) : Onward s (t.mirrorOp o) := by
  unfold State.mirrorOp
  exact .ite h h.mirrorSend

theorem addOp {o : FrwOp} (h : Onward s t) : Onward s (t.addOp o).1 := by
  unfold State.addOp
  extract_lets _
  exact .pair h.mapFurrow.mirrorOp

theorem closeOp {o : FrwOp} {st : Nat} (h : Onward s t) : Onward s (t.closeOp o st) := by
  unfold State.closeOp
  extract_lets s1
  have h1 : Onward s s1 := h.mapFurrow
  exact .ite h1.dropOp h1.setOp.mirrorOp

theorem opEnd {o : FrwOp} {st sc resid : Nat} (h : Onward s t) : Onward s (t.opEnd o st sc resid) := by
  unfold State.opEnd
  extract_lets s1 s2 s3 s4 s5 s6
  have h1 : Onward s s1 := h.engineWrite
  have h2 : Onward s s2 := h1.engineWrite
  have h3 : Onward s s3 := h2.engineWrite
  have h4 : Onward s s4 := .ite h3.setBit h3
  have h5 : Onward s s5 := .ite h4.setBit h4
  have h6 : Onward s s6 := h5.closeOp
  refine .ite h6 ?_
  split
  exacts [h6.mapUnit, h6.stewardEngine]

theorem opNext {o : FrwOp} (h : Onward s t) : Onward s (t.opNext o) := by
  unfold State.opNext
  extract_lets _
  split
  exacts [h.opEnd, .ite h.opEnd h.setOp]

theorem opStop {o : FrwOp} {st sc extra : Nat} (h : Onward s t) : Onward s (t.opStop o st sc extra) := by
  unfold State.opStop
  extract_lets _ s1
  have h1 : Onward s s1 := h.mapFurrow
  exact .ite h1.opEnd h1.setOp

theorem jobDone {id st : Nat} (h : Onward s t) : Onward s (t.jobDone id st) := by
  unfold State.jobDone
  split
  · refine .ite h ?_
    split
    exacts [h.opEnd, .ite h.opNext h.opEnd]
  · exact h

theorem partAcked {id : Nat} (h : Onward s t) : Onward s (t.partAcked id) := by
  unfold State.partAcked
  split
  exacts [.ite h (.ite h.opNext h.setOp), h]

theorem hostSendLost {plot queue : Nat} (h : Onward s t) : Onward s (t.hostSendLost plot queue) := by
  unfold State.hostSendLost
  refine .foldl h fun _ _ h1 => ?_
  split
  exacts [h1.opEnd, h1.opEnd]

theorem frwCancel {f : FrwOp → Bool} (h : Onward s t) : Onward s (t.frwCancel f).1 := by
  unfold State.frwCancel
  extract_lets _
  exact .pair (.foldl h fun _ _ h1 => .ite h1.setOp h1.opStop)

/-! ## Machine/Swath -/

theorem freeAnswers {plot : Nat} {answers : List (Nat × Nat)} (h : Onward s t) : Onward s (t.freeAnswers plot answers) :=
  Onward.windowsRise (.foldl h fun _ _ h1 => .ite h1.partAcked h1.mapQpair)

theorem freeCompletions {cs : List Completion} (h : Onward s t) : Onward s (t.freeCompletions cs) := by
  unfold State.freeCompletions
  exact .foldl h fun _ _ h1 => h1.freeAnswers

theorem sendReset {r : SessRef} {x2 : Option Session} {port pcp reason : Nat} {peer : Peer} (h : Onward s t) :
    Onward s (t.sendReset r x2 port pcp peer reason) := by
  unfold State.sendReset
  extract_lets _ _ _ s1
  have h1 : Onward s s1 := h.mapEth
  exact .ite h h1.count.sendFrame

theorem resetSession {x1 : Session} {reason : Nat} (h : Onward s t) : Onward s (t.resetSession x1 reason) := h.sendReset

theorem discard (h : Onward s t) : Onward s t.discard := h.count

theorem holdCompletions {x1 : Session} (h : Onward s t) : Onward s (t.holdCompletions x1) := h.mapEth

theorem endKept {x1 : Session} (h : Onward s t) : Onward s (t.endKept x1) := by
  unfold State.endKept
  extract_lets _ s1 s2
  have h1 : Onward s s1 := .ite h h.hostSendLost
  have h2 : Onward s s2 := h1.dropSession.holdCompletions
  exact .ite h2 h2.mapEth

theorem endDropped {x1 : Session} (h : Onward s t) : Onward s (t.endDropped x1) := by
  unfold State.endDropped
  extract_lets s1
  have h1 : Onward s s1 := .ite h h.hostSendLost
  exact h1.dropSession.holdCompletions.freeAnswers

theorem endGone {r : SessRef} (h : Onward s t) : Onward s (t.endGone r) := by
  unfold State.endGone
  extract_lets s1
  have h1 : Onward s s1 := by
    unfold s1
    split
    exacts [(Onward.dropSession (.ite h h.hostSendLost)).resetSession, h]
  exact h1.mapEth

theorem sendReply {plot queue : Nat} {payload : List Byte} {answers : List (Nat × Nat)} (h : Onward s t) :
    Onward s (t.sendReply plot queue payload answers) := by
  unfold State.sendReply
  extract_lets _
  exact .ite h.freeAnswers (.ite h.queuePacket h.mapEth)

theorem answerNow {q : QPair} {opcode cls status reqid epoch : Nat} {result : List Byte} (h : Onward s t) :
    Onward s (t.answerNow q opcode cls status reqid epoch result) := by
  unfold State.answerNow
  extract_lets _
  exact .ite h.addEvents h.sendReply

theorem placeCommand {q : QPair} {port token : Nat} {cmd : List Byte} (h : Onward s t) :
    Onward s (t.placeCommand q port token cmd) := by
  unfold State.placeCommand
  extract_lets _ _ _ s1
  have h1 : Onward s s1 := h.mapQpair
  split
  · split
    · exact h.count
    · split
      exacts [h.answerNow, h.answerNow]
  · exact .ite h1.setBit.answerNow (.ite h h.mapQpair)

theorem malformed (h : Onward s t) : Onward s t.malformed := h.setBit.discard

theorem sendAccept {r : SessRef} (h : Onward s t) : Onward s (t.sendAccept r) := by
  unfold State.sendAccept
  split
  exacts [h.sendPacket, h]

theorem newSession {x1 : SwHead} {event : Bool} {port pcp : Nat} {peer : Peer} (h : Onward s t) :
    Onward s (t.newSession x1 event port pcp peer) := by
  unfold State.newSession
  extract_lets _ s1 _ s2 _ _ _ _ _ _ s3 s4 s5
  have h1 : Onward s s1 := h.drawn
  have h2 : Onward s s2 := h1.drawn
  have h3 : Onward s s3 := h2.mapEth
  have h4 : Onward s s4 := .ite h3 h3.mapQpair
  have h5 : Onward s s5 := h4.sendAccept.pushAll
  exact h5.addEvents

theorem swathOpen {x1 : SwHead} {port pcp : Nat} {peer : Peer} (h : Onward s t) :
    Onward s (t.swathOpen x1 port pcp peer) := by
  unfold State.swathOpen
  extract_lets _
  refine .ite h (.ite h.sendReset ?_)
  split
  exacts [h.newSession, .ite h.setSession.sendAccept h.endKept.resetSession.newSession]

theorem takeAckBy {diff : Nat → Nat → Nat} {r : SessRef} {apsn window : Nat} (h : Onward s t) :
    Onward s (t.takeAckBy diff r apsn window) := by
  unfold State.takeAckBy
  split
  · exact h
  · extract_lets x
    clear_value x
    split
    · exact h.setSession.pushAll
    · extract_lets _ _ s1
      have h1 : Onward s s1 := h.setSession
      exact .ite h1.freeAnswers.pushAll h.setSession.pushAll

theorem takeAck {r : SessRef} {apsn window : Nat} (h : Onward s t) : Onward s (t.takeAck r apsn window) := by
  rw [State.takeAck_eq_takeAckBy]
  exact h.takeAckBy

theorem heard {x1 : SwHead} {x2 : Session} {port pcp : Nat} (h : Onward s t) : Onward s (t.heard x1 x2 port pcp) :=
  h.setSession.takeAck

theorem ackIf {r : SessRef} {now : Bool} (h : Onward s t) : Onward s (t.ackIf r now) := by
  unfold State.ackIf
  exact .ite h.sendAck h

theorem outOfOrder {x1 : SwHead} {x2 : Session} (h : Onward s t) : Onward s (t.outOfOrder x1 x2) := by
  unfold State.outOfOrder
  extract_lets s1
  have h1 : Onward s s1 := .ite h.count h
  exact h1.sendAck

theorem tookPsn {r : SessRef} (h : Onward s t) : Onward s (t.tookPsn r) := by
  unfold State.tookPsn
  split
  exacts [h, h.setSession]

theorem swathCmd {x1 : SwHead} {x2 : Session} {port pcp : Nat} (h : Onward s t) : Onward s (t.swathCmd x1 x2 port pcp) := by
  unfold State.swathCmd
  extract_lets s1 _
  have h1 : Onward s s1 := h.heard
  refine .ite h (.ite h.heard.sendAck ?_)
  split
  · exact h1
  · refine .ite h1.setBit.sendAck (.ite h1.outOfOrder ?_)
    extract_lets s2 s3
    have h2 : Onward s s2 := h1.tookPsn
    have h3 : Onward s s3 := by
      unfold s3
      split
      exacts [h2.placeCommand, h2]
    split
    exacts [h3.ackIf, h3]

theorem swathClose {x1 : SwHead} {x2 : Session} {port pcp : Nat} (h : Onward s t) :
    Onward s (t.swathClose x1 x2 port pcp) := by
  unfold State.swathClose
  extract_lets s1
  have h1 : Onward s s1 := h.heard
  split
  · exact h1
  · extract_lets s2
    have h2 : Onward s s2 := h1.tookPsn.sendAck
    refine .ite h1.outOfOrder ?_
    split
    exacts [h2.endDropped, h2]

theorem swathPacket {x1 : SwHead} {port pcp : Nat} {peer : Peer} (h : Onward s t) :
    Onward s (t.swathPacket x1 port pcp peer) := by
  unfold State.swathPacket
  refine .ite h ?_
  split
  exacts [h.sendReset, .ite (.ite h.setBit h.swathCmd) (.ite h.swathClose h.heard.ackIf)]

theorem swathIn {port pcp : Nat} {peer : Peer} {b : List Byte} {want : Nat → Bool} (h : Onward s t) :
    Onward s (t.swathIn port pcp peer b want) := by
  unfold State.swathIn
  refine .ite h ?_
  split
  exacts [h.malformed, .ite h (.ite h.swathOpen h.swathPacket)]

theorem execSwathOpen {x0 port pcp : Nat} {peer : Peer} {bytes : List Byte} (h : Onward s t) :
    Goes s (Machine.execSwathOpen x0 port pcp peer bytes t) :=
  .next h.advance.swathIn

theorem execSwathCmd {x0 port pcp : Nat} {peer : Peer} {bytes : List Byte} (h : Onward s t) :
    Goes s (Machine.execSwathCmd x0 port pcp peer bytes t) :=
  .next h.advance.swathIn

theorem execSwathAck {x0 port pcp : Nat} {peer : Peer} {bytes : List Byte} (h : Onward s t) :
    Goes s (Machine.execSwathAck x0 port pcp peer bytes t) :=
  .next h.advance.swathIn

theorem execSwathClose {x0 port pcp : Nat} {peer : Peer} {bytes : List Byte} (h : Onward s t) :
    Goes s (Machine.execSwathClose x0 port pcp peer bytes t) :=
  .next h.advance.swathIn

theorem execAckDelayExpire {x0 : Nat} {ref : SessRef} (h : Onward s t) : Goes s (Machine.execAckDelayExpire x0 ref t) := by
  unfold Machine.execAckDelayExpire
  extract_lets s1
  have h1 : Onward s s1 := h.advance
  refine .next ?_
  split
  exacts [.ite h1.sendAck h1, h1]

theorem execWindowAckRepeat {x0 : Nat} {ref : SessRef} (h : Onward s t) :
    Goes s (Machine.execWindowAckRepeat x0 ref t) := by
  unfold Machine.execWindowAckRepeat
  extract_lets s1
  have h1 : Onward s s1 := h.advance
  refine .next ?_
  split
  exacts [.ite h1.setSession.sendAck h1, h1]

theorem retransmit {x1 : Session} (h : Onward s t) : Onward s (t.retransmit x1) := by
  unfold State.retransmit
  extract_lets _ s1 s2
  have h1 : Onward s s1 := h.endKept.resetSession
  have h2 : Onward s s2 := h.setSession.count
  refine .ite h1.errEvent (.foldl h2 fun _ _ h3 => ?_)
  extract_lets pcp
  split
  exacts [h3.sendPacket, h3]

theorem execRetransmitTimeout {x0 : Nat} {ref : SessRef} (h : Onward s t) :
    Goes s (Machine.execRetransmitTimeout x0 ref t) := by
  unfold Machine.execRetransmitTimeout
  extract_lets s1
  have h1 : Onward s s1 := h.advance
  refine .next ?_
  split
  exacts [.ite h1.retransmit h1, h1]

theorem execCoalesceTimeout {x0 : Nat} {ref : SessRef} (h : Onward s t) :
    Goes s (Machine.execCoalesceTimeout x0 ref t) := by
  unfold Machine.execCoalesceTimeout
  extract_lets s1
  have h1 : Onward s s1 := h.advance
  refine .next ?_
  split
  · split
    exacts [.ite h1.flushEvents h1, h1]
  · exact h1

theorem execHeldPacketExpire {x0 : Nat} {ref : SessRef} (h : Onward s t) :
    Goes s (Machine.execHeldPacketExpire x0 ref t) := by
  unfold Machine.execHeldPacketExpire
  extract_lets s1 _ _ s2
  have h1 : Onward s s1 := h.advance
  have h2 : Onward s s2 := h1.mapEth
  exact .next h2.freeAnswers

theorem execHeldCompletionExpire {x0 plot channel : Nat} (h : Onward s t) :
    Goes s (Machine.execHeldCompletionExpire x0 plot channel t) := by
  unfold Machine.execHeldCompletionExpire
  extract_lets s1 _ _ s2
  have h1 : Onward s s1 := h.advance
  have h2 : Onward s s2 := h1.mapEth
  exact .next h2.count.freeCompletions

/-! ## Machine/Ports -/

theorem takePause {p : Nat} {q : Nat × Nat} (h : Onward s t) : Onward s (t.takePause p q) := by
  unfold State.takePause
  extract_lets s1
  have h1 : Onward s s1 := h.mapPort
  exact .ite h (.ite h1.setBit.flushPaused h.mapPort.setBit)

theorem takePfc {p : Nat} {l : List (Nat × Nat)} (h : Onward s t) : Onward s (t.takePfc p l) := by
  unfold State.takePfc
  exact .ite (.foldl h fun _ _ h1 => h1.takePause) h

theorem execMacControlFrame {x0 port : Nat} {quanta : List (Nat × Nat)} (h : Onward s t) :
    Goes s (Machine.execMacControlFrame x0 port quanta t) :=
  .next h.advance.takePfc

theorem execPfcPauseExpire {x0 port pcp : Nat} (h : Onward s t) : Goes s (Machine.execPfcPauseExpire x0 port pcp t) := by
  unfold Machine.execPfcPauseExpire
  extract_lets s1 s2
  have h1 : Onward s s1 := h.advance
  have h2 : Onward s s2 := h1.mapPort
  refine .next ?_
  split
  exacts [.ite h2.setBit.flushPaused h1, h1]

theorem sendPauses {p pcp room : Nat} (h : Onward s t) : Onward s (t.sendPauses p pcp room) := by
  unfold State.sendPauses
  extract_lets _ s1
  have h1 : Onward s s1 := h.mapPort
  exact .ite h1.setBit.emit (.ite h1.setBit.emit h1)

theorem drainBuffers (h : Onward s t) : Onward s t.drainBuffers := by
  unfold State.drainBuffers
  exact .foldl h fun _ _ h1 => Onward.mapPort (.foldl h1 fun _ _ h2 => h2.sendPauses)

theorem rest (h : Onward s t) : Onward s t.rest := h.idle.drainBuffers

theorem ptpStamp {p : Nat} {sent : Bool} {b : List Byte} (h : Onward s t) : Onward s (t.ptpStamp p sent b) := by
  unfold State.ptpStamp
  exact .ite h.setBit h.mapPort

theorem ptpSlave {p transport : Nat} {b : List Byte} (h : Onward s t) : Onward s (t.ptpSlave p transport b) := by
  unfold State.ptpSlave
  extract_lets _ _ s1
  have h1 : Onward s s1 := h.mapEth
  exact .ite h (.ite h1.ptpStamp.sendFrame (.ite h.steer h))

theorem ptpIn {p transport : Nat} {b : List Byte} (h : Onward s t) : Onward s (t.ptpIn p transport b) := by
  unfold State.ptpIn
  exact .ite h (.ite h.ptpStamp h.ptpSlave)

theorem readTsInfo {p : Nat} (h : Onward s t) : Onward s (t.readTsInfo p) := by
  unfold State.readTsInfo
  extract_lets _
  exact h.mapPort.answerRead

theorem readTsHi {p : Nat} (h : Onward s t) : Onward s (t.readTsHi p) := h.mapPort.answerRead

theorem execTsinfoRead {m : Master} {port : Nat} (h : Onward s t) : Goes s (Machine.execTsinfoRead m port t) :=
  .next (.ite h.readTsInfo h.answerRead)

theorem execTsHiRead {m : Master} {port : Nat} (h : Onward s t) : Goes s (Machine.execTsHiRead m port t) :=
  .next (.ite h.readTsHi h.answerRead)

theorem icmpIn {p pcp station : Nat} {k : IpPkt} (h : Onward s t) : Onward s (t.icmpIn p pcp station k) := by
  unfold State.icmpIn
  extract_lets _
  exact .ite h.sendFrame (.ite h.sendFrame (.ite h.sendFrame h.discard))

theorem udpIn {p pcp : Nat} {k : IpPkt} (h : Onward s t) : Onward s (t.udpIn p pcp k) := by
  unfold State.udpIn
  extract_lets _
  exact .ite h.discard (.ite h.ptpIn (.ite h.discard (.ite h.swathIn (.ite h h.discard))))

theorem classify {p : Nat} {f : EthFrame} (h : Onward s t) : Onward s (t.classify p f) := by
  unfold State.classify
  extract_lets _
  refine .ite h.ptpIn (.ite (.ite h.sendFrame h.discard) ?_)
  split
  exacts [h.discard, .ite h.udpIn (.ite h.icmpIn h.discard)]

theorem verify {p : Nat} {sec : SecTag} (h : Onward s t) (hr : t.verify p sec = some r) : Onward s r := by
  unfold State.verify at hr
  split at hr
  · split at hr
    · cases hr
      exact h
    · cases hr
  · split at hr
    · split at hr
      · cases hr
      · cases hr
        exact h.discard
    · split at hr
      · cases hr
      · split at hr
        · cases hr
        · cases hr
          exact h.chargeSa.mapEth

theorem frameIn {p room : Nat} {fcsOk : Bool} {sec : SecTag} {b : List Byte} (h : Onward s t) :
    Onward s (t.frameIn p fcsOk sec room b) := by
  unfold State.frameIn
  extract_lets extra
  refine .ite h (.ite h.count ?_)
  split
  · exact h.discard
  · extract_lets lossless s1
    have h1 : Onward s s1 := .ite h.sendPauses h
    refine .ite h.discard (.ite h.takePfc (.ite h1.discard ?_))
    split
    case h_1 => exact h1.discard
    case h_2 hv => exact (h1.verify hv).classify

theorem execFrameReceive {x0 port room : Nat} {fcsOk : Bool} {sec : SecTag} {bytes : List Byte} (h : Onward s t) :
    Goes s (Machine.execFrameReceive x0 port fcsOk sec room bytes t) :=
  .next h.advance.frameIn

theorem execPortLinkUp {port : Nat} (h : Onward s t) : Goes s (Machine.execPortLinkUp port t) :=
  .next (.ite h.setBit.setBit h)

theorem linkLost {p : Nat} (h : Onward s t) : Onward s (t.linkLost p) := by
  unfold State.linkLost
  extract_lets s1
  have h1 : Onward s s1 := h.setBit.setFld
  exact h1.mapPort.setBit

theorem execPortLinkDown {port : Nat} (h : Onward s t) : Goes s (Machine.execPortLinkDown port t) :=
  .next (.ite h.linkLost h)

/-! ## Machine/Restore -/

theorem writeRuns {op reg : Nat} {l : List (Nat × List Byte)} (h : Onward s t) : Onward s (t.writeRuns op reg l) := by
  unfold State.writeRuns
  exact .foldl h fun _ _ h1 => h1.sendStorage

theorem setRestore {r : Restore} (h : Onward s t) : Onward s (t.setRestore r) := h.mapFurrow

theorem restoreRead {r : Restore} {reg lba n : Nat} (h : Onward s t) : Onward s (t.restoreRead r reg lba n) :=
  h.setRestore.sendStorage

theorem restoreSheaf {r : Restore} {x2 : Sheaf} (h : Onward s t) : Onward s (t.restoreSheaf r x2) := by
  unfold State.restoreSheaf
  extract_lets _
  exact .foldl h fun _ _ h1 => Onward.indexInsert (.foldl h1 fun _ _ h2 => h2.applyLine)

theorem restoreEnd {r : Restore} (h : Onward s t) : Onward s (t.restoreEnd r) := by
  unfold State.restoreEnd
  extract_lets s1 _ s2
  have h1 : Onward s s1 := .ite h.mapJournal h
  have h2 : Onward s s2 := h1.mapFurrow
  split
  exacts [h2.closeOp, h2]

theorem restoreRing {r : Restore} {n : Nat} (h : Onward s t) : Onward s (t.restoreRing r n) := by
  induction n generalizing t r with
  | zero => exact h.restoreEnd
  | succ n ih =>
    unfold State.restoreRing
    extract_lets next
    clear_value next
    split
    exacts [h.restoreEnd, ih (.ite h.restoreSheaf.setSheaf h.restoreSheaf)]

theorem restoreStop {r : Restore} (h : Onward s t) : Onward s (t.restoreStop r) := by
  unfold State.restoreStop
  extract_lets s1
  have h1 : Onward s s1 := h.mapJournal
  exact h1.restoreRing

theorem readExtent {r : Restore} {n : Nat} (h : Onward s t) : Onward s (t.readExtent r n) := by
  unfold State.readExtent
  extract_lets _
  exact h.restoreRead

theorem startExtents {r : Restore} (h : Onward s t) : Onward s (t.startExtents r) := by
  unfold State.startExtents
  extract_lets _
  exact .ite h.restoreStop h.readExtent

theorem takeExtent {r : Restore} (h : Onward s t) : Onward s (t.takeExtent r) := by
  unfold State.takeExtent
  extract_lets _ _ _ _ s1
  have h1 : Onward s s1 := .ite h.setBit h
  exact .ite h.restoreSheaf.readExtent h1.restoreStop

theorem chooseArea {r : Restore} {headB : List Byte} (h : Onward s t) : Onward s (t.chooseArea r headB) := by
  unfold State.chooseArea
  extract_lets _
  exact .ite (.ite h.startExtents h.restoreRead) h.wipe.startExtents

theorem startRestore (h : Onward s t) : Onward s t.startRestore := by
  unfold State.startRestore
  extract_lets p1 _ s2
  have h1 : Onward s p1.1 := h.addOp
  have h2 : Onward s s2 := h1.setOp
  exact .ite h (.ite h2.chooseArea h2.restoreRead)

theorem restoreData {lba : Nat} {bytes : List Byte} (h : Onward s t) : Onward s (t.restoreData lba bytes) := by
  unfold State.restoreData
  split
  · exact h
  · split
    exacts [h.restoreRead, h.chooseArea, .ite h.agentStore.startExtents h.agentStore.restoreRead, .ite h.restoreStop
      (.ite h.readExtent h.takeExtent)]

/-! ## Machine/Twin -/

theorem setOwn {v : Nat} (h : Onward s t) : Onward s (t.setOwn v) := h.setFld

theorem setPart {v : Nat} (h : Onward s t) : Onward s (t.setPart v) := h.setFld

theorem setNoPartner (h : Onward s t) : Onward s t.setNoPartner := by
  unfold State.setNoPartner
  extract_lets s1 s2
  have h1 : Onward s s1 := h.mapFurrow
  have h2 : Onward s s2 := h1.mapTwin
  exact h2.setBit.mapTick

theorem renewLease {at_ : Nat} (h : Onward s t) : Onward s (t.renewLease at_) := h.setReg64

theorem endPlots {ps : List Nat} {e : EndInput} (h : Onward s t) : Onward s (t.endPlots ps e) := by
  unfold State.endPlots
  refine .foldl h fun _ _ h1 => ?_
  split
  exacts [.ite h1.endInput h1, h1]

theorem fencePlots (h : Onward s t) : Onward s t.fencePlots := by
  unfold State.fencePlots
  extract_lets s1 _ s2
  have h1 : Onward s s1 := h.setOwn.setBit
  have h2 : Onward s s2 := .foldl h1 fun _ _ h21 => h21.event
  exact h2.endPlots.failSeal

theorem fenceOwn (h : Onward s t) : Onward s t.fenceOwn := by
  unfold State.fenceOwn
  exact .ite h h.fencePlots

theorem execLeaseEnd {x0 : Nat} (h : Onward s t) : Goes s (Machine.execLeaseEnd x0 t) := by
  unfold Machine.execLeaseEnd
  extract_lets s1
  have h1 : Onward s s1 := h.advance
  exact .next (.ite h1.fenceOwn h1)

theorem sendHeartbeat (h : Onward s t) : Onward s t.sendHeartbeat := by
  unfold State.sendHeartbeat
  extract_lets s1 s2
  have h1 : Onward s s1 := .ite h.mapTwin h
  have h2 : Onward s s2 := h1.mapTwin
  exact h2.mirrorSend

theorem takeEcho {echo : Nat} (h : Onward s t) : Onward s (t.takeEcho echo) := by
  unfold State.takeEcho
  split
  exacts [h, h.renewLease.mapTick]

theorem sendCopies (h : Onward s t) : Onward s t.sendCopies := by
  unfold State.sendCopies
  extract_lets s1 s2
  have h1 : Onward s s1 := .foldl h fun _ _ h20 => .ite h20 h20.mirrorSend
  have h2 : Onward s s2 := .foldl h1 fun _ _ h21 => h21.mirrorKey
  exact .foldl h2 fun _ _ h3 => h3.mirrorSend

theorem showCopy (h : Onward s t) : Onward s t.showCopy := by
  unfold State.showCopy
  extract_lets _
  exact h.setReg

theorem startCopy (h : Onward s t) : Onward s t.startCopy := by
  unfold State.startCopy
  extract_lets s1
  have h1 : Onward s s1 := h.mapTwin
  exact h1.showCopy.sendCopies

theorem startReceive (h : Onward s t) : Onward s t.startReceive := by
  unfold State.startReceive
  extract_lets s1
  have h1 : Onward s s1 := h.setBit.mapTwin
  exact h1.mapJournal

theorem rejoin (h : Onward s t) : Onward s t.rejoin := h.setPart.startReceive.startCopy

theorem startSupply (h : Onward s t) : Onward s t.startSupply := by
  unfold State.startSupply
  extract_lets s1
  have h1 : Onward s s1 := by
    unfold s1
    split
    exacts [h.mirrorSend, h]
  exact h1.setPart.mapJournal.startCopy

theorem askReturn (h : Onward s t) : Onward s t.askReturn := by
  unfold State.askReturn
  exact .ite h.mapTwin h

theorem endServing (h : Onward s t) : Onward s t.endServing := by
  unfold State.endServing
  extract_lets _ _ s1 s2 s3 _ s4 s5
  have h1 : Onward s s1 := h.mapCipher
  have h2 : Onward s s2 := .foldl h1 fun _ _ h21 => h21.setReg
  have h3 : Onward s s3 := .foldl h2 fun _ _ h22 => h22.removePlot
  have h4 : Onward s s4 := .foldl h3 fun _ _ h23 => h23.dropOp
  have h5 : Onward s s5 := h4.mapFurrow
  exact h5.mapTwin

theorem taken (h : Onward s t) : Onward s t.taken := h.setOwn.startReceive

theorem stopTakeover (h : Onward s t) : Onward s t.stopTakeover := by
  unfold State.stopTakeover
  exact .ite h.setPart.mapTwin.recallArb h

theorem takeStates {own part flags : Nat} (h : Onward s t) : Onward s (t.takeStates own part flags) := by
  unfold State.takeStates
  extract_lets _ s1 s2 s3 s4 s5 s6
  have h1 : Onward s s1 := h.mapTwin
  have h2 : Onward s s2 := .ite h1.setPart h1
  have h3 : Onward s s3 := .ite (.ite h2.taken.setPart (.ite h2.issueReport h2)) (.ite h2.taken h2)
  have h4 : Onward s s4 := .ite h3.setOwn.startReceive h3
  have h5 : Onward s s5 := .ite h4.startSupply (.ite h4.rejoin (.ite h4.rejoin h4))
  have h6 : Onward s s6 := .ite h5.askReturn h5
  exact .ite h6.endServing.setPart h6

theorem heartbeat {link : Nat} {b : List Byte} (h : Onward s t) : Onward s (t.heartbeat link b) := by
  unfold State.heartbeat
  extract_lets s1 s2 s3 s4 s5
  have h1 : Onward s s1 := h.sample
  have h2 : Onward s s2 := h1.setBit
  have h3 : Onward s s3 := h2.setFld
  have h4 : Onward s s4 := h3.mapTwin
  have h5 : Onward s s5 := h4.seen.stopTakeover
  exact .ite h (.ite h.setBit h5.takeEcho.takeStates)

theorem execHeartbeat {x0 link : Nat} {bytes : List Byte} (h : Onward s t) :
    Goes s (Machine.execHeartbeat x0 link bytes t) :=
  .next h.advance.heartbeat

theorem enterAcquire (h : Onward s t) : Onward s t.enterAcquire := by
  unfold State.enterAcquire
  extract_lets s1
  have h1 : Onward s s1 := h.setPart.setBit
  exact h1.mapTwin.issueStepA

theorem execJuniorDelayExpire {x0 : Nat} (h : Onward s t) : Goes s (Machine.execJuniorDelayExpire x0 t) := by
  unfold Machine.execJuniorDelayExpire
  extract_lets s1
  have h1 : Onward s s1 := h.advance
  refine .next ?_
  split
  exacts [.ite h1.enterAcquire h1, h1]

theorem loseTakeover (h : Onward s t) : Onward s t.loseTakeover := by
  unfold State.loseTakeover
  exact .ite h.setOwn.setPart h.setPart

theorem execTakeoverStepADone {x0 : Nat} {ok : Bool} (h : Onward s t) : Goes s (Machine.execTakeoverStepADone x0 ok t) := by
  unfold Machine.execTakeoverStepADone
  extract_lets s1 _ s2 s3 s4
  have h1 : Onward s s1 := h.advance
  have h2 : Onward s s2 := h1.mapTwin.endArb
  have h3 : Onward s s3 := h2.setNoPartner.renewLease
  have h4 : Onward s s4 := h3.loseTakeover.setBit
  exact .next (.ite h1 (.ite (.ite h3 (.ite h3.mapTwin.issueStepB (.foldl h4 fun _ _ h5 => h5.event))) (Onward.setPart
    (.ite h2.fencePlots h2))))

theorem takeStorageKey (h : Onward s t) : Onward s t.takeStorageKey := by
  unfold State.takeStorageKey
  refine .foldl h fun _ _ h1 => ?_
  split
  exacts [.ite h1.mapCipher h1, h1]

theorem takePlotKeys {plots : List Nat} (h : Onward s t) : Onward s (t.takePlotKeys plots) := by
  unfold State.takePlotKeys
  refine .foldl h fun _ _ h1 => ?_
  split
  exacts [.ite h1.mapCipher.setReg h1, h1]

theorem takeDestage (h : Onward s t) : Onward s t.takeDestage := by
  unfold State.takeDestage
  extract_lets _
  exact h.mapFurrow

theorem execTakeoverStepBDone {x0 : Nat} {ok : Bool} (h : Onward s t) : Goes s (Machine.execTakeoverStepBDone x0 ok t) := by
  unfold Machine.execTakeoverStepBDone
  extract_lets s1 s2 s3
  have h1 : Onward s s1 := h.advance
  have h2 : Onward s s2 := h1.mapTwin.endArb
  have h3 : Onward s s3 := h2.takeStorageKey.takeDestage.setPart
  exact .next (.ite h1 (.ite h3.mapTwin h2.loseTakeover.setBit))

theorem execLeasewaitExpire {x0 : Nat} (h : Onward s t) : Goes s (Machine.execLeasewaitExpire x0 t) := by
  unfold Machine.execLeasewaitExpire
  extract_lets s1
  have h1 : Onward s s1 := h.advance
  exact .next (.ite h1.setPart h1)

theorem announceOnce {plot : Nat} (h : Onward s t) : Onward s (t.announceOnce plot) := by
  unfold State.announceOnce
  split
  exacts [h, .foldl h fun _ _ h1 => h1.sendFrame.sendFrame]

theorem moveAddresses {plot : Nat} (h : Onward s t) : Onward s (t.moveAddresses plot) := by
  unfold State.moveAddresses
  extract_lets s1
  have h1 : Onward s s1 := h.announceOnce
  exact .ite h1 h1.mapTwin

theorem execAddressAnnounce {x0 plot : Nat} (h : Onward s t) : Goes s (Machine.execAddressAnnounce x0 plot t) := by
  unfold Machine.execAddressAnnounce
  extract_lets s1 s2
  have h1 : Onward s s1 := h.advance
  have h2 : Onward s s2 := h1.announceOnce
  refine .next ?_
  split
  exacts [.ite h2.mapTwin h1, h1]

theorem execAdoptComplete (h : Onward s t) : Goes s (Machine.execAdoptComplete t) := by
  unfold Machine.execAdoptComplete
  extract_lets _ s1 _ s2 _ s3 s4
  have h1 : Onward s s1 := .ite (.foldl h fun _ _ h20 => h20.plotFromCopy) h
  have h2 : Onward s s2 := h1.takePlotKeys
  have h3 : Onward s s3 := .foldl h2 fun _ _ h22 => h22.moveAddresses
  have h4 : Onward s s4 := .ite h3.setOwn h3
  exact .next (.ite h h4.mapTwin)

theorem reportOwn {issued : Nat} (h : Onward s t) : Onward s (t.reportOwn issued) := by
  unfold State.reportOwn
  extract_lets s1 s2
  have h1 : Onward s s1 := h.renewLease
  have h2 : Onward s s2 := h1.setOwn
  exact .ite h1 (.ite (.ite h2.mapTick h2) (.ite h1.startRestore h1))

theorem bootRestored (h : Onward s t) : Onward s t.bootRestored := by
  unfold State.bootRestored
  extract_lets s1
  have h1 : Onward s s1 := h.setOwn.setPart
  exact .ite (.ite h1.startReceive.startCopy h1.mapTwin.issueStepA) h

theorem reportOther {mine : Bool} (h : Onward s t) : Onward s (t.reportOther mine) := by
  unfold State.reportOther
  extract_lets s1 s2
  have h1 : Onward s s1 := h.setBit
  have h2 : Onward s s2 := h1.fencePlots
  exact .ite (.ite h2.setPart h2) (.ite h1.taken h1)

theorem execReservationReportDone {x0 issued : Nat} {holder : Option Nat} (h : Onward s t) :
    Goes s (Machine.execReservationReportDone x0 issued holder t) := by
  unfold Machine.execReservationReportDone
  extract_lets s1 s2
  have h1 : Onward s s1 := h.advance
  have h2 : Onward s s2 := h1.mapTwin.endArb
  refine .next (.ite h1 ?_)
  split
  exacts [.ite h2.reportOwn h2.reportOther, h2]

theorem execRebuildChunkRead (h : Onward s t) : Goes s (Machine.execRebuildChunkRead t) := by
  unfold Machine.execRebuildChunkRead
  refine .next ?_
  split
  exacts [h, .ite h h.sendChunk.mapTwin.showCopy]

theorem execRebuild {phase chunk : Nat} {bytes : List Byte} (h : Onward s t) :
    Goes s (Machine.execRebuild phase chunk bytes t) := by
  unfold Machine.execRebuild
  extract_lets _
  exact .next (.ite h (.ite h (.ite h h.agentStore)))

theorem execSealCompleteNotice {epoch cursor1 cursor2 : Nat} (h : Onward s t) :
    Goes s (Machine.execSealCompleteNotice epoch cursor1 cursor2 t) := by
  unfold Machine.execSealCompleteNotice
  extract_lets s1 s2 s3 s4
  have h1 : Onward s s1 := h.sealNotice
  have h2 : Onward s s2 := .ite h1.mapTwin h1
  have h3 : Onward s s3 := .ite h2.setOwn h2
  have h4 : Onward s s4 := h3.setBit
  exact .next (.ite h (.ite (Onward.issueRegister (.ite h4.setPart h4)) h3))

theorem tryReturn {now : Bool} (h : Onward s t) : Onward s (t.tryReturn now) := by
  unfold State.tryReturn
  exact .ite h.mapTwin h

theorem execHoldoffExpire {x0 : Nat} (h : Onward s t) : Goes s (Machine.execHoldoffExpire x0 t) := by
  unfold Machine.execHoldoffExpire
  extract_lets s1
  have h1 : Onward s s1 := h.advance
  exact .next (.ite h1 h1.tryReturn)

theorem returnNowOp (h : Onward s t) : Onward s t.returnNowOp := by
  unfold State.returnNowOp
  exact .ite h.tryReturn h.badw

theorem execReturnNow {m : Master} (h : Onward s t) : Goes s (Machine.execReturnNow m t) := .next (.ite h.returnNowOp h)

theorem execHandbackNotice {epoch : Nat} (h : Onward s t) : Goes s (Machine.execHandbackNotice epoch t) := by
  unfold Machine.execHandbackNotice
  extract_lets _ s1 s2 s3
  have h1 : Onward s s1 := .foldl h fun _ _ h20 => h20.applySheaf
  have h2 : Onward s s2 := .foldl h1.issueAcquire fun _ _ h21 => h21.moveAddresses
  have h3 : Onward s s3 := h2.setReg64
  exact .next (.ite h h3.setOwn.mapTwin)

theorem returnStored {what : Nat} (h : Onward s t) : Onward s (t.returnStored what) := by
  unfold State.returnStored
  split
  exacts [.ite h.setReg64.mirrorSend.mapTwin (.ite h.mapTwin h), h]

theorem mirrorConfirmed {tag : Nat} (h : Onward s t) : Onward s (t.mirrorConfirmed tag) := by
  unfold State.mirrorConfirmed
  extract_lets s1
  have h1 : Onward s s1 := h.mapTwin
  exact .ite h1.mapSteward h

theorem execDescMirrorConfirm {tag : Nat} (h : Onward s t) : Goes s (Machine.execDescMirrorConfirm tag t) :=
  .next h.mirrorConfirmed

theorem missTick (h : Onward s t) : Onward s t.missTick := by
  unfold State.missTick
  extract_lets _ s1 s2 s3
  have h1 : Onward s s1 := h.setBit.setBit
  have h2 : Onward s s2 := h1.countFld.count
  have h3 : Onward s s3 := .ite h2.setBit h2
  exact .ite h1 (.ite h3.setPart h3)

theorem returnFails (h : Onward s t) : Onward s t.returnFails := by
  unfold State.returnFails
  extract_lets s1 s2
  have h1 : Onward s s1 := h.setOwn.setPart.setBit
  have h2 : Onward s s2 := h.setPart.setBit
  exact .ite h (.ite h1.mapTwin.startRestore (.ite h.setBit (.ite h2.mapTwin.issueStepA (.ite
    (.ite h2.mapTwin.issueStepA h.endServing.setPart.setBit) h))))

theorem startTakeover (h : Onward s t) : Onward s t.startTakeover := by
  unfold State.startTakeover
  exact .ite h (.ite h.enterAcquire h.mapTwin)

theorem startServing (h : Onward s t) : Onward s t.startServing := by
  unfold State.startServing
  extract_lets s1 s2
  have h1 : Onward s s1 := h.setPart
  have h2 : Onward s s2 := h1.setReg64
  exact .ite h2.count.mapTwin h

theorem endReclaim (h : Onward s t) : Onward s t.endReclaim := by
  unfold State.endReclaim
  extract_lets s1
  have h1 : Onward s s1 := h.setOwn.count
  exact .ite h1.mapTwin h

theorem bootAlone (h : Onward s t) : Onward s t.bootAlone := by
  unfold State.bootAlone
  extract_lets s1
  have h1 : Onward s s1 := h.mapTwin
  exact .ite (.ite h1.issueReport h1) h

theorem twinTick (h : Onward s t) : Onward s t.twinTick := by
  unfold State.twinTick
  extract_lets s1 s2 s3
  have h1 : Onward s s1 := h.missTick.returnFails.startTakeover
  have h2 : Onward s s2 := h1.startServing.endReclaim.bootAlone.tryReturn
  have h3 : Onward s s3 := .ite h2.issueReport h2
  exact .ite (.ite h.issueReport h) h3.sendHeartbeat

theorem unpair (h : Onward s t) : Onward s t.unpair := by
  unfold State.unpair
  extract_lets s1 s2 s3 s4 s5 s6
  have h1 : Onward s s1 := h.setPart.setBit
  have h2 : Onward s s2 := h1.setReg.setNoPartner
  have h3 : Onward s s3 := h2.mapMram
  have h4 : Onward s s4 := h3.mapCipher
  have h5 : Onward s s5 := h4.forgetSheafKeys
  have h6 : Onward s s6 := h5.mapTwin
  exact h6.mapJournal

theorem twinClose {epoch : Nat} (h : Onward s t) : Onward s (t.twinClose epoch) := by
  unfold State.twinClose
  extract_lets s1 _ s2 _ s3 s4
  have h1 : Onward s s1 := .ite h.setBit.mapTwin h
  have h2 : Onward s s2 := h1.setPart.endPlots
  have h3 : Onward s s3 := h2.mapPlots
  have h4 : Onward s s4 := by
    unfold s4
    split
    exacts [.ite h3.mapTwin h1, h1]
  exact .ite (.ite h4.unpair h4.mapTwin) h4

/-! ## Machine/Tick -/

theorem acceptedTick (h : Onward s t) : Onward s t.acceptedTick := by
  unfold State.acceptedTick
  extract_lets _
  exact .ite h (.ite h.mapTick h.mapTick.setBit)

theorem externalTick {at_ : Nat} (h : Onward s t) : Onward s (t.externalTick at_) := by
  unfold State.externalTick
  exact .ite (.ite h h.acceptedTick.mapTick) (.ite h.acceptedTick.mapTick (.ite h.errEvent h))

theorem execTickInEdge {x0 : Nat} (h : Onward s t) : Goes s (Machine.execTickInEdge x0 t) := by
  unfold Machine.execTickInEdge
  extract_lets s1
  have h1 : Onward s s1 := h.advance
  exact .next (.ite h1.externalTick (.ite h1.steer h1))

theorem align {carried : Nat} (h : Onward s t) : Onward s (t.align carried) := by
  unfold State.align
  extract_lets _
  exact .ite h (.ite h.mapTick h.mapTick)

theorem sendSymbol {body : List Byte} (h : Onward s t) : Onward s (t.sendSymbol body) := by
  unfold State.sendSymbol
  exact .foldl h fun _ _ h1 => .ite h1.sendFlit h1

theorem execTickSymbol {x0 link carried : Nat} (h : Onward s t) : Goes s (Machine.execTickSymbol x0 link carried t) := by
  unfold Machine.execTickSymbol
  extract_lets s1 s2 s3
  have h1 : Onward s s1 := h.advance
  have h2 : Onward s s2 := .ite h1 h1.sendSymbol.drawn
  have h3 : Onward s s3 := h2.align.mapTick
  exact .next (.ite h1 h3.externalTick)

theorem execTickSymbolSend {x0 : Nat} (h : Onward s t) : Goes s (Machine.execTickSymbolSend x0 t) := by
  unfold Machine.execTickSymbolSend
  extract_lets s1
  have h1 : Onward s s1 := h.advance
  exact .next (.ite h1.mapTick.sendSymbol h1)

theorem execLinkDelayMeasure {roundTrip : Nat} (h : Onward s t) : Goes s (Machine.execLinkDelayMeasure roundTrip t) :=
  .next (.ite h.setFld.mapWeft h)

theorem tickOutRise (h : Onward s t) : Onward s t.tickOutRise := by
  unfold State.tickOutRise
  exact .ite h.mapTick h

theorem execTickOutEnd {x0 : Nat} (h : Onward s t) : Goes s (Machine.execTickOutEnd x0 t) := by
  unfold Machine.execTickOutEnd
  extract_lets s1
  have h1 : Onward s s1 := h.advance
  exact .next (.ite h1.mapTick h1)

theorem execPpsOut {x0 : Nat} {rise : Bool} (h : Onward s t) : Goes s (Machine.execPpsOut x0 rise t) := by
  unfold Machine.execPpsOut
  extract_lets s1
  have h1 : Onward s s1 := h.advance
  exact .next (.ite h1 (.ite h1.mapTick (.ite h1.mapTick h1)))

theorem reserve {v : Nat} (h : Onward s t) : Onward s (t.reserve v) := by
  unfold State.reserve
  exact .ite h h.mapTick

theorem execReservationWritten (h : Onward s t) : Goes s (Machine.execReservationWritten t) := by
  unfold Machine.execReservationWritten
  refine .next ?_
  split
  exacts [h.mapMram.mapTick, h]

theorem openEpoch {e : Nat} (h : Onward s t) : Onward s (t.openEpoch e) := by
  unfold State.openEpoch
  extract_lets s1 s2 s3 s4
  have h1 : Onward s s1 := h.setReg64
  have h2 : Onward s s2 := h1.mapTick
  have h3 : Onward s s3 := h2.mapJournal
  have h4 : Onward s s4 := h3.mapSower
  exact .ite h4.reserve h4

theorem tickUnits {e : Nat} (h : Onward s t) : Onward s (t.tickUnits e) := by
  unfold State.tickUnits
  exact .foldl h fun _ _ h1 => .ite h1.mapUnit h1

theorem closeEpoch (h : Onward s t) : Onward s t.closeEpoch := by
  unfold State.closeEpoch
  extract_lets _ _ s1 _ _ s2
  have h1 : Onward s s1 := h.setFld.tickUnits
  have h2 : Onward s s2 := h1.mapTick
  exact h2.openEpoch.twinClose.trySeal.tryCutOff

theorem skipTick (h : Onward s t) : Onward s t.skipTick := by
  unfold State.skipTick
  extract_lets s1 s2 s3
  have h1 : Onward s s1 := h.count.countFld
  have h2 : Onward s s2 := h1.mapSeal
  have h3 : Onward s s3 := h2.setBit.count.mapTick
  split
  exacts [.ite h1 h3.errEvent, h1]

theorem reopen {r : Rollback} (h : Onward s t) : Onward s (t.reopen r) := by
  unfold State.reopen
  extract_lets s1 s2
  have h1 : Onward s s1 := h.setBit.setBit
  have h2 : Onward s s2 := h1.setFld
  exact h2.mapTick.openEpoch

theorem firstAdmission (h : Onward s t) : Onward s t.firstAdmission := by
  unfold State.firstAdmission
  extract_lets s1
  have h1 : Onward s s1 := h.setBit.setFld
  refine .ite h (.ite ?_ h1.mapTick.openEpoch)
  split
  exacts [h.reserve, h]

theorem epochTick (h : Onward s t) : Onward s t.epochTick := by
  unfold State.epochTick
  refine .ite h (.ite h.firstAdmission ?_)
  split
  exacts [.ite h.reopen h.skipTick, .ite h.skipTick h.closeEpoch]

theorem tickSamples (h : Onward s t) : Onward s t.tickSamples := by
  unfold State.tickSamples
  extract_lets s1 s2 s3
  have h1 : Onward s s1 := h.sample
  have h2 : Onward s s2 := h1.sample
  have h3 : Onward s s3 := .foldl h2 fun _ _ h22 => h22.sample
  exact h3.mapAlmanac

theorem applyDescs (h : Onward s t) : Onward s t.applyDescs := h.mapPlots

theorem sowerTick (h : Onward s t) : Onward s t.sowerTick := by
  unfold State.sowerTick
  extract_lets _
  exact h.mapSower.accrue

theorem setRetired {p cause : Nat} (h : Onward s t) : Onward s (t.setRetired p cause) := by
  unfold State.setRetired
  extract_lets s1 s2
  have h1 : Onward s s1 := h.setRole.setFld
  have h2 : Onward s s2 := h1.setReg
  exact h2.markerIn

theorem recordRetired {p cause : Nat} (h : Onward s t) : Onward s (t.recordRetired p cause) := h.mapMram

theorem retirePair {p cause cls kind : Nat} (h : Onward s t) : Onward s (t.retirePair p cause cls kind) :=
  h.setRetired.recordRetired.event

theorem roleTick {p : Nat} (h : Onward s t) : Onward s (t.roleTick p) := by
  unfold State.roleTick
  extract_lets _ _ s1
  have h1 : Onward s s1 := h.setBit.mapUnit
  exact .ite h.setRole.setReg (.ite h.setRole.mapPair (.ite h.setRole.setBit (.ite (.ite h1.retirePair.mapPair h1.setRole)
    h)))

theorem thresherTick (h : Onward s t) : Onward s t.thresherTick := by
  unfold State.thresherTick
  extract_lets _
  exact .foldl h fun _ _ h1 => h1.mapThresher

theorem tickNow {closed : optParam Bool false} (h : Onward s t) : Onward s (t.tickNow closed) := by
  unfold State.tickNow
  extract_lets s1 s2 s3 s4 s5 s6 s7
  have h1 : Onward s s1 := h.setReg64
  have h2 : Onward s s2 := h1.tickSamples
  have h3 : Onward s s3 := h2.mapTick
  have h4 : Onward s s4 := h3.tickOutRise
  have h5 : Onward s s5 := .foldl h4 fun _ _ h24 => h24.roleTick
  have h6 : Onward s s6 := .ite h5 h5.twinTick
  have h7 : Onward s s7 := h6.epochTick.applyDescs.sowerTick.thresherTick
  exact h7.ringTick.gather

theorem execTick {x0 : Nat} (h : Onward s t) : Goes s (Machine.execTick x0 t) := by
  unfold Machine.execTick
  extract_lets s1
  have h1 : Onward s s1 := h.advance
  exact .next (.ite h1.tickNow h1)

theorem enterHoldover (h : Onward s t) : Onward s t.enterHoldover := by
  unfold State.enterHoldover
  exact .ite h.mapTick h.setBit.mapTick.errEvent

theorem execTickWindowClose {x0 : Nat} (h : Onward s t) : Goes s (Machine.execTickWindowClose x0 t) := by
  unfold Machine.execTickWindowClose
  extract_lets s1
  have h1 : Onward s s1 := h.advance
  exact .next (.ite h1.enterHoldover.tickNow h1)

/-! ## Machine/Pairs -/

theorem clsBadw {p : Nat} (h : Onward s t) : Onward s (t.clsBadw p) := h.badw

theorem clearUcode {p : Nat} (h : Onward s t) : Onward s (t.clearUcode p) := by
  unfold State.clearUcode
  extract_lets s1 s2
  have h1 : Onward s s1 := h.mapPair
  have h2 : Onward s s2 := h1.setReg.setReg
  exact .ite h.clsBadw h2.setFld

theorem commitWord {p : Nat} {v : Word} (h : Onward s t) : Onward s (t.commitWord p v) := by
  unfold State.commitWord
  extract_lets _ _ _ s1 s2 s3
  have h1 : Onward s s1 := h.mapPair
  have h2 : Onward s s2 := h1.setFld
  have h3 : Onward s s3 := h2.setReg
  exact .ite h.clsBadw (.ite h.setBit h3.setFld)

theorem setUcLock {p : Nat} {v : Bool} (h : Onward s t) : Onward s (t.setUcLock p v) := h.setBit.setBit

theorem reloaded {p : Nat} (h : Onward s t) : Onward s (t.reloaded p) := by
  unfold State.reloaded
  extract_lets _ s1 s2
  have h1 : Onward s s1 := h.mapPair
  have h2 : Onward s s2 := .ite h1.setRole.setFld h1
  exact .ite h1 h2.event

theorem reloadFailed {p : Nat} (h : Onward s t) : Onward s (t.reloadFailed p) := by
  unfold State.reloadFailed
  extract_lets _
  exact .ite h (.ite h.mapPair h.mapPair.retirePair)

theorem lockUcode {p : Nat} (h : Onward s t) : Onward s (t.lockUcode p) := by
  unfold State.lockUcode
  extract_lets _ s1
  have h1 : Onward s s1 := h.mapPair
  refine .ite h ?_
  split
  exacts [h1.setUcLock.setBit, .ite h.setUcLock.reloaded h.clsBadw.reloadFailed]

theorem unlockUcode {p : Nat} (h : Onward s t) : Onward s (t.unlockUcode p) := by
  unfold State.unlockUcode
  exact .ite h.setUcLock h.clsBadw

theorem writeWords {p : Nat} {ws : List (List Byte)} (h : Onward s t) : Onward s (t.writeWords p ws) := by
  unfold State.writeWords
  extract_lets _ _ _ _ s1 s2 s3 s4
  have h1 : Onward s s1 := h.mapPair
  have h2 : Onward s s2 := h1.setFld.setReg
  have h3 : Onward s s3 := h2.setFld
  have h4 : Onward s s4 := .foldl h3 fun _ _ h23 => h23.setReg
  exact .ite h4.setBit h4

theorem loadPair {p : Nat} {img : List Byte} (h : Onward s t) : Onward s (t.loadPair p img) := by
  unfold State.loadPair
  extract_lets s1
  have h1 : Onward s s1 := h.clearUcode.writeWords
  exact .ite h1.lockUcode h1.reloadFailed

theorem reloadPair {p : Nat} (h : Onward s t) : Onward s (t.reloadPair p) := by
  unfold State.reloadPair
  extract_lets s1
  have h1 : Onward s s1 := h.unlockUcode.loadPair
  exact .ite h1 h1.loadPair

theorem ucPort {m : Master} {base p : Nat} {f : State → State} (h : Onward s t) (hf : Onward s (f t)) :
    Onward s (t.ucPort m base p f) := by
  unfold State.ucPort
  exact .ite hf h

theorem execUcClear {m : Master} {pair : Nat} (h : Onward s t) : Goes s (Machine.execUcClear m pair t) :=
  .next (h.ucPort h.clearUcode)

theorem execUcWordCommit {m : Master} {pair : Nat} {v : Word} (h : Onward s t) :
    Goes s (Machine.execUcWordCommit m pair v t) :=
  .next (h.ucPort h.commitWord)

theorem execUcLock {m : Master} {pair : Nat} (h : Onward s t) : Goes s (Machine.execUcLock m pair t) :=
  .next (h.ucPort h.lockUcode)

theorem execUcUnlock {m : Master} {pair : Nat} (h : Onward s t) : Goes s (Machine.execUcUnlock m pair t) :=
  .next (h.ucPort h.unlockUcode)

theorem dropCaptured {u slot : Nat} (h : Onward s t) : Onward s (t.dropCaptured u slot) := by
  unfold State.dropCaptured
  extract_lets _ s1 s2
  have h1 : Onward s s1 := h.mapUnit
  have h2 : Onward s s2 := h1.mapPair
  exact h2.mapCluster

theorem abortUnit {u : Nat} (h : Onward s t) : Onward s (t.abortUnit u) := by
  unfold State.abortUnit
  split
  exacts [h.dropCaptured.abortRedo, h.freeUp]

theorem noSpare {p : Nat} (h : Onward s t) : Onward s (t.noSpare p) := by
  unfold State.noSpare
  extract_lets s1 s2
  have h1 : Onward s s1 := h.abortUnit
  have h2 : Onward s s2 := h1.mapPair
  exact h2.setBit.retirePair

theorem beginTakeover {p cause began : Nat} (h : Onward s t) : Onward s (t.beginTakeover p cause began) := by
  unfold State.beginTakeover
  extract_lets s1
  have h1 : Onward s s1 := h.mapPair
  split
  exacts [h1.noSpare, h1.mapPair]

theorem moveBytes {src dst n : Nat} (h : Onward s t) : Onward s (t.moveBytes src dst n) := by
  unfold State.moveBytes
  extract_lets _ _ s1 s2
  have h1 : Onward s s1 := h.filterCells
  have h2 : Onward s s2 := .foldl h1.clearPoison fun _ _ h2 => h2.setByte
  exact .foldl h2 fun _ _ h3 => h3.setPoison

theorem rebind {u v : Nat} (h : Onward s t) : Onward s (t.rebind u v) := by
  unfold State.rebind
  extract_lets _ s1 s2 s3
  have h1 : Onward s s1 := h.mapSower
  have h2 : Onward s s2 := h1.mapJournal
  have h3 : Onward s s3 := h2.mapWeft
  exact h3.mapFurrow

theorem moveUnit {p q : Nat} (h : Onward s t) : Onward s (t.moveUnit p q) := by
  unfold State.moveUnit
  extract_lets _ _ _ s1 s2
  have h1 : Onward s s1 := h.moveBytes
  have h2 : Onward s s2 := h1.moveBytes
  exact h2.setUnit.setUnit.rebind

theorem moveMarker {p q : Nat} (h : Onward s t) : Onward s (t.moveMarker p q) := h.mapSeal

theorem noteMove {p q : Nat} (h : Onward s t) : Onward s (t.noteMove p q) := h.setReg.setReg

theorem movePlace {p q : Nat} (h : Onward s t) : Onward s (t.movePlace p q) := by
  unfold State.movePlace
  extract_lets s1
  have h1 : Onward s s1 := h.setReg
  exact h1.setRole.mapSower

theorem putAside {p cause : Nat} (h : Onward s t) : Onward s (t.putAside p cause) := by
  unfold State.putAside
  exact .ite h.setRetired h.retirePair

theorem execSpareResume {x0 pair : Nat} (h : Onward s t) : Goes s (Machine.execSpareResume x0 pair t) := by
  unfold Machine.execSpareResume
  extract_lets s1 s2
  have h1 : Onward s s1 := h.advance
  have h2 : Onward s s2 := h1.mapPair
  refine .next ?_
  split
  exacts [h1, .ite h1 (.ite h1.beginTakeover h2.moveUnit.moveMarker.movePlace.noteMove.putAside)]

theorem leaderDead {p : Nat} (h : Onward s t) : Onward s (t.leaderDead p) := by
  unfold State.leaderDead
  extract_lets spare s1 s2 s3 s4
  have h1 : Onward s s1 := h.mapPair
  have h2 : Onward s s2 := .foldl h1 fun _ _ h2 => h2.mapUnit.abortUnit
  have h3 : Onward s s3 := by
    unfold s3
    clear_value spare
    split
    exacts [h2.setReg.mapPair, h2]
  have h4 : Onward s s4 := h3.setBit.retirePair
  exact h4.failOldest

theorem execLeaderDrainTimeout {x0 pair : Nat} (h : Onward s t) : Goes s (Machine.execLeaderDrainTimeout x0 pair t) := by
  unfold Machine.execLeaderDrainTimeout
  extract_lets s1
  have h1 : Onward s s1 := h.advance
  refine .next ?_
  split
  exacts [.ite h1.leaderDead h1, h1]

theorem execCoreClockBranchLoss {pair : Nat} (h : Onward s t) : Goes s (Machine.execCoreClockBranchLoss pair t) :=
  .next (.ite h.leaderDead h)

theorem noteError {p : Nat} {e : PairError} (h : Onward s t) : Onward s (t.noteError p e) := by
  unfold State.noteError
  extract_lets s1
  have h1 : Onward s s1 := h.setBit
  exact h1.setReg.count

theorem splitError {u : Nat} (h : Onward s t) : Onward s (t.splitError u) := h.abortUnit.noteError.event

theorem retryPair {p : Nat} {e : PairError} (h : Onward s t) : Onward s (t.retryPair p e) := by
  unfold State.retryPair
  extract_lets s1 _ s2 s3
  have h1 : Onward s s1 := h.noteError
  have h2 : Onward s s2 := h1.mapPair
  have h3 : Onward s s3 := h2.setFld.count
  exact .ite h3.event h2.setBit.beginTakeover

theorem spareFails {q : Nat} {e : PairError} (h : Onward s t) : Onward s (t.spareFails q e) := by
  unfold State.spareFails
  extract_lets cause s1
  have h1 : Onward s s1 := h.setBit.retirePair
  split
  · refine h1.getD fun r hr => ?_
    obtain ⟨k, -, rfl⟩ := Option.map_eq_some_iff.mp hr
    exact h1.beginTakeover
  · exact h1

theorem stewardError {e : PairError} (h : Onward s t) : Onward s (t.stewardError e) := by
  unfold State.stewardError
  exact .ite h.event h.mapSteward.event

theorem execInstructionRetry {pair : Nat} {e : PairError} (h : Onward s t) :
    Goes s (Machine.execInstructionRetry pair e t) := by
  unfold Machine.execInstructionRetry
  refine .next (.ite (.ite h h.stewardError) (.ite (.ite h h.spareFails) (.ite ?_ (.ite ?_ h))))
  · split
    exacts [h.setBit.beginTakeover, h.leaderDead, h.retryPair]
  · split
    exacts [h.setBit.mapPair, h.splitError, h]

theorem execSplitCoreParity {u : Nat} (h : Onward s t) : Goes s (Machine.execSplitCoreParity u t) :=
  .next (.ite h.splitError h)

theorem ucodeError {p : Nat} (h : Onward s t) : Onward s (t.ucodeError p) := by
  unfold State.ucodeError
  extract_lets s1 _ s2
  have h1 : Onward s s1 := h.setBit
  have h2 : Onward s s2 := h1.beginTakeover
  exact .ite (.ite h2.mapPair h2) (.ite h1.abortUnit.abortUnit.mapPair (.ite h1.setRetired.mapPair h1))

theorem execUcScrub {pair addr bad : Nat} (h : Onward s t) : Goes s (Machine.execUcScrub pair addr bad t) :=
  .next (.ite h (.ite h.count.event h.ucodeError))

theorem writeSowPair {p : Nat} {v : Word} (h : Onward s t) : Onward s (t.writeSowPair p v) := by
  unfold State.writeSowPair
  exact .ite h.badw h.writeFields

theorem execSowPairWrite {m : Master} {pair : Nat} {v : Word} (h : Onward s t) :
    Goes s (Machine.execSowPairWrite m pair v t) :=
  .next (.ite h (.ite h.badw h.writeSowPair))

/-! ## Machine/Steward -/

theorem completeSlot {q : QPair} {x2 : QSlot} {status epoch : Nat} {result : List Byte} (h : Onward s t) :
    Onward s (t.completeSlot q x2 status epoch result) :=
  h.handAll

theorem refuseSlot {q : QPair} {x2 : QSlot} {status : Nat} (h : Onward s t) : Onward s (t.refuseSlot q x2 status) := by
  unfold State.refuseSlot
  split
  exacts [h.completeSlot, h.completeSlot]

theorem checkSubmit {q : QPair} {x2 : QSlot} (h : Onward s t) : Onward s (t.checkSubmit q x2) := by
  unfold State.checkSubmit
  extract_lets _ s1
  have h1 : Onward s s1 := .ite h.setBit h
  split
  exacts [h.refuseSlot, h1.mapQpair]

theorem execTxnSubmit {plot queue slotNo : Nat} (h : Onward s t) : Goes s (Machine.execTxnSubmit plot queue slotNo t) := by
  unfold Machine.execTxnSubmit
  refine .next ?_
  split
  exacts [.ite h.checkSubmit h, h]

theorem execRequestIndexLookup {plot queue slotNo : Nat} (h : Onward s t) :
    Goes s (Machine.execRequestIndexLookup plot queue slotNo t) := by
  unfold Machine.execRequestIndexLookup
  refine .next ?_
  split
  · refine .ite ?_ h
    split
    exacts [h.completeSlot, h.mapQpair]
  · exact h

theorem finishCmd {c : FwCmd} {status : Nat} {reply : List Byte} (h : Onward s t) :
    Onward s (t.finishCmd c status reply) := by
  unfold State.finishCmd
  extract_lets s1 s2 s3
  have h1 : Onward s s1 := h.mapSteward
  have h2 : Onward s s2 := h1.mapQpair
  have h3 : Onward s s3 := h1.mapQpair
  split
  exacts [h2.mapPlots, h3.drawn.sendReply.windowsRise]

theorem replyParts {c : FwCmd} {parts : List (List Byte)} (h : Onward s t) : Onward s (t.replyParts c parts) := by
  unfold State.replyParts
  extract_lets _
  split
  exacts [h.finishCmd, h.finishCmd, h.drawn.mapSteward.finishCmd]

theorem replyOk {c : FwCmd} {ps : List (List Byte)} (h : Onward s t) : Onward s (t.replyOk c ps) := h.replyParts

theorem replyErr {c : FwCmd} {status : Nat} (h : Onward s t) : Onward s (t.replyErr c status) := by
  unfold State.replyErr
  extract_lets s1
  have h1 : Onward s s1 := .ite h.event h
  exact h1.finishCmd

theorem handOver {q : QPair} {x2 : QSlot} (h : Onward s t) : Onward s (t.handOver q x2) := by
  unfold State.handOver
  extract_lets s1
  have h1 : Onward s s1 := h.mapQpair
  split
  · exact h.completeSlot
  · split
    exacts [h1.replyErr, h1.mapSteward]

theorem execCommandHandoff {plot queue : Nat} (h : Onward s t) : Goes s (Machine.execCommandHandoff plot queue t) := by
  unfold Machine.execCommandHandoff
  refine .next ?_
  split
  · split
    exacts [.ite h.handOver h, h]
  · exact h

theorem setCmd {c : FwCmd} (h : Onward s t) : Onward s (t.setCmd c) := h.mapSteward

theorem begin {c : FwCmd} (h : Onward s t) : Replies s (t.begin c) := .wait h.setCmd

theorem runChecked {plot queue opcode : Nat} {bad : FwCmd → State → Bool} {f : FwCmd → State → CmdEnd} (h : Onward s t)
    (hf : ∀ c r, Onward s r → Replies s (f c r)) : Onward s (t.runChecked plot queue opcode bad f) := by
  unfold State.runChecked
  split
  · exact h
  · refine .ite h (.ite h (.ite h.replyErr ?_))
    split
    · exact h.replyErr
    next c _ _ _ =>
      have hr := hf c _ h
      split <;> rename_i he <;> rw [he] at hr <;> obtain ⟨hr⟩ | ⟨hr⟩ | ⟨hr⟩ := hr
      exacts [hr.replyOk, hr.replyErr, .ite hr.replyErr hr]

theorem runCmd {plot queue opcode : Nat} {f : FwCmd → State → CmdEnd} (h : Onward s t)
    (hf : ∀ c r, Onward s r → Replies s (f c r)) : Onward s (t.runCmd plot queue opcode f) := h.runChecked hf

theorem copyAlong {own : Bool} {copy : List Byte} (h : Onward s t) : Onward s (t.copyAlong own copy) := by
  unfold State.copyAlong
  exact .ite h.mirrorSend h

theorem mirrored {c : FwCmd} {own : Bool} {copy : List Byte} {done : State → CmdEnd} (h : Onward s t)
    (hd : ∀ r, Onward s r → Replies s (done r)) : Replies s (t.mirrored c own copy done) := by
  unfold State.mirrored
  extract_lets s1 s2
  have h2 : Onward s s2 := h.mirrorSend.mapTwin
  refine .ite (.wait h2.setCmd) ?_
  have hr := hd _ h
  split
  case h_1 he =>
    rw [he] at hr
    obtain ⟨hr⟩ := hr
    exact .ok hr.copyAlong
  case h_2 => exact hr

theorem changePlot {c : FwCmd} {f : State → State} {body : List (List Byte)} (h : Onward s t)
    (hf : ∀ r, Onward s r → Onward s (f r)) : Replies s (t.changePlot c f body) := by
  unfold State.changePlot
  extract_lets
  exact h.mirrored fun _ h1 => .ok (hf _ h1)

theorem execDescMirrorTimeout {x0 tag : Nat} (h : Onward s t) : Goes s (Machine.execDescMirrorTimeout x0 tag t) := by
  unfold Machine.execDescMirrorTimeout
  extract_lets s1 s2
  have h1 : Onward s s1 := h.advance
  have h2 : Onward s s2 := h1.mapTwin
  refine .next ?_
  split
  · refine .ite h1 ?_
    split
    exacts [.ite h2.setCmd h2.setBit.replyErr, h2]
  · exact h1

theorem execNop {plot queue : Nat} (h : Onward s t) : Goes s (Machine.execNop plot queue t) :=
  .next (h.runCmd (fun _ _ h1 => .ok h1))

theorem continueCmd {c : FwCmd} (h : Onward s t) : Replies s (t.continueCmd c) := by
  unfold State.continueCmd
  split
  exacts [.ite (.err h.mapSteward) (.wait h.mapSteward.replyParts), .err h]

theorem execContCmd {plot queue : Nat} (h : Onward s t) : Goes s (Machine.execContCmd plot queue t) :=
  .next (h.runCmd (fun _ _ h1 => h1.continueCmd))

/-! ## Machine/WarpNet -/

theorem warpReplay {link : Nat} {again : Bool} (h : Onward s t) : Onward s (t.warpReplay link again) := by
  unfold State.warpReplay
  extract_lets _ s1 s2
  have h1 : Onward s s1 := h.count.errEvent
  have h2 : Onward s s2 := h1.mapWarp
  exact .ite h2.setBit.errEvent h1.mapWarp

theorem execWarpLinkReplay {link : Nat} {again : Bool} (h : Onward s t) :
    Goes s (Machine.execWarpLinkReplay link again t) :=
  .next (.ite h.warpReplay h)

theorem isolate {stop : Nat} (h : Onward s t) : Onward s (t.isolate stop) := by
  unfold State.isolate
  extract_lets s1
  have h1 : Onward s s1 := h.mapWarp
  exact .ite h h1.setBit.errEvent

theorem execWarpIsolate {stop : Nat} (h : Onward s t) : Goes s (Machine.execWarpIsolate stop t) := .next h.isolate

theorem warpTimedOut {ini target addr : Nat} (h : Onward s t) : Onward s (t.warpTimedOut ini target addr) := by
  unfold State.warpTimedOut
  extract_lets s1 s2 s3 s4 s5
  have h1 : Onward s s1 := h.sample
  have h2 : Onward s s2 := h1.logAnswer
  have h3 : Onward s s3 := h2.count
  have h4 : Onward s s4 := h3.mapWarp
  have h5 : Onward s s5 := h4.errEvent
  exact .ite h5.isolate h5

theorem execWarpTimeout {x0 ini target addr : Nat} {acc : Option UnitAccess} (h : Onward s t) :
    Goes s (Machine.execWarpTimeout x0 ini target addr acc t) := by
  unfold Machine.execWarpTimeout
  extract_lets s1 s2
  have h1 : Onward s s1 := h.advance
  have h2 : Onward s s2 := h1.warpTimedOut
  refine .next (.ite h1 ?_)
  split
  exacts [h2, .ite h2.takeExc.boundary h2]

theorem execWarpLateResponse {id : Nat} (h : Onward s t) : Goes s (Machine.execWarpLateResponse id t) := by
  unfold Machine.execWarpLateResponse
  extract_lets s1
  have h1 : Onward s s1 := h.mapWarp
  exact .next (.ite h1.count.setBit h)

theorem routeBusy (h : Onward s t) : Onward s t.routeBusy := h.setBit.setBit

theorem flipRoutes (h : Onward s t) : Onward s t.flipRoutes := by
  unfold State.flipRoutes
  exact .ite h.routeBusy h.setFld.setBit

theorem execRouteFlip {m : Master} (h : Onward s t) : Goes s (Machine.execRouteFlip m t) := .next (.ite h.flipRoutes h)

theorem execRouteDrainDone (h : Onward s t) : Goes s (Machine.execRouteDrainDone t) := .next (.ite h.setBit h)

theorem setRoute {gen router dest v : Nat} (h : Onward s t) : Onward s (t.setRoute gen router dest v) := h.mapWarp

theorem copyRoutes (h : Onward s t) : Onward s t.copyRoutes := by
  unfold State.copyRoutes
  extract_lets _
  exact .foldl h fun _ _ h1 => .foldl h1 fun _ _ h2 => h2.setRoute

theorem execRouteCopy {m : Master} (h : Onward s t) : Goes s (Machine.execRouteCopy m t) := .next (.ite h.copyRoutes h)

theorem writeRtData {v : Word} (h : Onward s t) : Onward s (t.writeRtData v) := by
  unfold State.writeRtData
  extract_lets _ _ s1
  have h1 : Onward s s1 := h.setRoute
  exact .ite h.routeBusy (.ite h1.badw h1)

/-! ## Machine/Thresher -/

theorem thrStatus {desc st : Nat} (h : Onward s t) : Onward s (t.thrStatus desc st) := h.engineWrite

theorem thrReport {desc st nstored inUsed outLen check : Nat} {b : List Byte} {furrow : Option Nat} (h : Onward s t) :
    Onward s (t.thrReport desc b furrow st nstored inUsed outLen check) := by
  unfold State.thrReport
  extract_lets s1 s2 s3 s4 s5
  have h1 : Onward s s1 := h.engineWrite
  have h2 : Onward s s2 := h1.engineWrite
  have h3 : Onward s s3 := h2.thrStatus
  have h4 : Onward s s4 := h3.setReg64
  have h5 : Onward s s5 := .ite h4.setBit h4
  split
  exacts [h5.jobDone, .ite h5.stewardEngine h5]

theorem thrAccept {desc plot : Nat} {furrow : Option Nat} (h : Onward s t) : Onward s (t.thrAccept desc plot furrow).1 := by
  unfold State.thrAccept
  extract_lets _ s1
  have h1 : Onward s s1 := h.thrStatus
  refine .ite1 (.pair h.thrReport) (.ite1 (.pair h.thrStatus.setBit) ?_)
  split
  exacts [.pair h1.thrReport, .pair h1.mapThresher]

theorem thrSubmitAt {addr : Nat} (h : Onward s t) : Onward s (t.thrSubmitAt addr) := by
  unfold State.thrSubmitAt
  exact .ite h.badw (.ite h.thrAccept h)

theorem execThrSubmit {m : Master} {addr : Nat} (h : Onward s t) : Goes s (Machine.execThrSubmit m addr t) :=
  .next (.ite h.thrSubmitAt h)

theorem writeThrCtrl {v : Word} (h : Onward s t) : Onward s (t.writeThrCtrl v) := by
  unfold State.writeThrCtrl
  exact .ite h.writeFields.badw h.writeFields

theorem execThrEnable {m : Master} {v : Word} (h : Onward s t) : Goes s (Machine.execThrEnable m v t) :=
  .next (.ite h.writeThrCtrl h)

theorem chargeEngine {j : ThrJob} (h : Onward s t) : Onward s (t.chargeEngine j) := by
  unfold State.chargeEngine
  extract_lets _
  exact h.mapThresher

theorem setThrJob {j : ThrJob} (h : Onward s t) : Onward s (t.setThrJob j) := h.mapThresher

theorem dropThrJob {j : ThrJob} (h : Onward s t) : Onward s (t.dropThrJob j) := h.mapThresher

theorem execThresherJobStart {x0 engine : Nat} (h : Onward s t) : Goes s (Machine.execThresherJobStart x0 engine t) := by
  unfold Machine.execThresherJobStart
  extract_lets s1
  have h1 : Onward s s1 := h.advance
  refine .next (.ite h1 ?_)
  split
  exacts [h1, .ite h1.setThrJob.mapThresher h1.setThrJob]

theorem engineCheck {engine : Nat} (h : Onward s t) : Onward s (t.engineCheck engine) := by
  unfold State.engineCheck
  extract_lets _
  exact .ite h (.ite h.mapThresher.errEvent h)

theorem mismatches {engine plot n : Nat} (h : Onward s t) : Onward s (t.mismatches engine plot n) := by
  induction n generalizing t with
  | zero => exact h
  | succ n ih => exact ih h.count.mapThresher.errEvent

theorem endThrJob {j : ThrJob} {engine st nstored inUsed outLen check : Nat} (h : Onward s t) :
    Onward s (t.endThrJob j engine st nstored inUsed outLen check) := by
  unfold State.endThrJob
  extract_lets s1 s2
  have h1 : Onward s s1 := h.chargeEngine.dropThrJob
  have h2 : Onward s s2 := .ite h1.count h1
  exact h2.thrReport.engineCheck

theorem writePart {j : ThrJob} {engine : Nat} {bad : List Nat} (h : Onward s t) :
    Onward s (t.writePart j engine bad).1 := by
  unfold State.writePart
  extract_lets _ s1
  have h1 : Onward s s1 := h.drawn.drawn.mismatches.engineWrite
  exact .pair h1

theorem stopThrJob {j : ThrJob} {engine st : Nat} {bad : List Nat} (h : Onward s t) :
    Onward s (t.stopThrJob j engine st bad) := by
  unfold State.stopThrJob
  extract_lets p1
  have h1 : Onward s p1.1 := h.writePart
  exact h1.endThrJob

theorem runCompress {j : ThrJob} {engine : Nat} {bad : List Nat} {mem : Bool} (h : Onward s t) :
    Onward s (t.runCompress j engine bad mem) := by
  unfold State.runCompress
  extract_lets _ _ _ _ s1 _ _ s2 s3
  have h1 : Onward s s1 := h.strongRead.mismatches.engineWrite
  have h2 : Onward s s2 := h.mismatches
  have h3 : Onward s s3 := h2.engineWrite
  exact .ite h.stopThrJob (.ite h1.endThrJob h3.endThrJob)

theorem execCompress {x0 engine : Nat} {bad : List Nat} {mem : Bool} (h : Onward s t) :
    Goes s (Machine.execCompress x0 engine bad mem t) := by
  unfold Machine.execCompress
  extract_lets s1
  have h1 : Onward s s1 := h.advance
  refine .next ?_
  split
  exacts [.ite h1.runCompress h1, h1]

theorem runDecompress {j : ThrJob} {engine : Nat} {mem : Bool} (h : Onward s t) :
    Onward s (t.runDecompress j engine mem) := by
  unfold State.runDecompress
  extract_lets _ _ _ s1
  have h1 : Onward s s1 := h.engineWrite
  exact .ite h.stopThrJob h1.endThrJob

theorem execDecompress {x0 engine : Nat} {mem : Bool} (h : Onward s t) :
    Goes s (Machine.execDecompress x0 engine mem t) := by
  unfold Machine.execDecompress
  extract_lets s1
  have h1 : Onward s s1 := h.advance
  refine .next ?_
  split
  exacts [.ite h1.runDecompress h1, h1]

theorem thrParityStop {j : ThrJob} {engine : Nat} (h : Onward s t) : Onward s (t.thrParityStop j engine) := by
  unfold State.thrParityStop
  extract_lets s1 s2
  have h1 : Onward s s1 := h.mapThresher
  have h2 : Onward s s2 := h1.errEvent
  exact .ite h2.stopThrJob (.ite h2.stopThrJob h2.writePart.chargeEngine.setThrJob.engineCheck)

theorem execThresherParity {x0 engine : Nat} (h : Onward s t) : Goes s (Machine.execThresherParity x0 engine t) := by
  unfold Machine.execThresherParity
  extract_lets s1
  have h1 : Onward s s1 := h.advance
  refine .next ?_
  split
  exacts [h1.thrParityStop, h1]

theorem thrCancel {f : ThrJob → Bool} (h : Onward s t) : Onward s (t.thrCancel f).1 := by
  unfold State.thrCancel
  extract_lets _
  exact .pair (.foldl h fun _ _ h1 => .ite h1.setThrJob h1.dropThrJob.count.thrReport)

/-! ## Machine/Cipher -/

theorem fillSlot {n : Nat} {k : KeySlot} (h : Onward s t) : Onward s (t.fillSlot n k) := h.mapCipher

theorem eraseSlot {n : Nat} (h : Onward s t) : Onward s (t.eraseSlot n) := h.mapCipher

theorem settleLocks (h : Onward s t) : Onward s t.settleLocks := h.mapCipher

theorem acquireLock {engine : Nat} {o : EngLock} (h : Onward s t) : Onward s (t.acquireLock engine o) := by
  unfold State.acquireLock
  exact .ite h h.mapCipher

theorem releaseLock {engine : Nat} {plot : Option Nat} (h : Onward s t) : Onward s (t.releaseLock engine plot) := by
  unfold State.releaseLock
  split
  exacts [.ite h.mapCipher.settleLocks h.badw, h.badw]

theorem lockByD {engine : Nat} (h : Onward s t) : Onward s (t.lockByD engine) := by
  unfold State.lockByD
  exact .ite h.badw h.acquireLock

theorem execLockAcquire {m : Master} {engine : Nat} (h : Onward s t) : Goes s (Machine.execLockAcquire m engine t) :=
  .next (.ite h.lockByD h)

theorem unlockByD {engine : Nat} (h : Onward s t) : Onward s (t.unlockByD engine) := by
  unfold State.unlockByD
  exact .ite h.badw h.releaseLock

theorem execLockRelease {m : Master} {engine : Nat} (h : Onward s t) : Goes s (Machine.execLockRelease m engine t) :=
  .next (.ite h.unlockByD h)

theorem cphReport {desc plot st outLen : Nat} {b : List Byte} {furrow : Option Nat} (h : Onward s t) :
    Onward s (t.cphReport desc b plot furrow st outLen) := by
  unfold State.cphReport
  extract_lets s1 s2 _ s3 s4 s5 s6
  have h1 : Onward s s1 := h.engineWrite
  have h2 : Onward s s2 := h1.engineWrite
  have h3 : Onward s s3 := .ite h2 h2.count
  have h4 : Onward s s4 := .ite h3.count.setBit h3
  have h5 : Onward s s5 := .ite h4.event h4
  have h6 : Onward s s6 := .ite h5.errEvent h5
  split
  exacts [h6.jobDone, .ite h6.stewardEngine h6]

theorem cphAccept {desc plot : Nat} {atD : Bool} {furrow : Option Nat} (h : Onward s t) :
    Onward s (t.cphAccept desc plot atD furrow).1 := by
  unfold State.cphAccept
  extract_lets _ s1 s2
  have h1 : Onward s s1 := h.engineWrite
  have h2 : Onward s s2 := .ite h1.chargeSlot h1
  refine .ite1 (.pair h.cphReport) ?_
  split
  exacts [.pair h.cphReport, .pair h2.mapCipher]

theorem cphSubmitAt {addr : Nat} (h : Onward s t) : Onward s (t.cphSubmitAt addr) := by
  unfold State.cphSubmitAt
  exact .ite h.badw (.ite h.cphAccept h)

theorem execCphSubmit {m : Master} {addr : Nat} (h : Onward s t) : Goes s (Machine.execCphSubmit m addr t) :=
  .next (.ite h.cphSubmitAt h)

theorem startNext {engine : Nat} (h : Onward s t) : Onward s (t.startNext engine) := by
  unfold State.startNext
  split
  exacts [.ite h h.mapCipher, h]

theorem dropCphJob {j : CphJob} (h : Onward s t) : Onward s (t.dropCphJob j) := h.mapCipher.startNext.settleLocks

theorem endCphJob {j : CphJob} {r : CphResult} (h : Onward s t) : Onward s (t.endCphJob j r) := by
  unfold State.endCphJob
  extract_lets s1 s2
  have h1 : Onward s s1 := h.engineWrite
  have h2 : Onward s s2 := by
    unfold s2
    split
    exacts [h1.fillSlot, h1]
  exact h2.dropCphJob.cphReport

theorem cphStopped {j : CphJob} {most : Nat} {zero : Bool} {out : List Byte} (h : Onward s t) :
    Onward s (t.cphStopped j most zero out) := by
  unfold State.cphStopped
  extract_lets _
  exact .ite h h.drawn.engineWrite

theorem runCph {job op : Nat} {fail : CphFail} {f : State → List Byte → List Byte → List Byte → List Byte → Nat → CphResult}
    (h : Onward s t) :
    Onward s (t.runCph job op fail f) := by
  unfold State.runCph
  split
  · exact h
  · refine .ite h (.ite h.cphStopped.endCphJob ?_)
    split
    · exact h.cphStopped.endCphJob
    · exact h.cphStopped.endCphJob
    · split
      exacts [h.endCphJob, h.strongRead.cphStopped.endCphJob]

theorem execGcmEnc {job : Nat} {fail : CphFail} (h : Onward s t) : Goes s (Machine.execGcmEnc job fail t) := .next h.runCph

theorem execGcmDec {job : Nat} {fail : CphFail} (h : Onward s t) : Goes s (Machine.execGcmDec job fail t) := .next h.runCph

theorem execXtsEnc {job : Nat} {fail : CphFail} (h : Onward s t) : Goes s (Machine.execXtsEnc job fail t) := .next h.runCph

theorem execXtsDec {job : Nat} {fail : CphFail} (h : Onward s t) : Goes s (Machine.execXtsDec job fail t) := .next h.runCph

theorem execCmacGen {job : Nat} {fail : CphFail} (h : Onward s t) : Goes s (Machine.execCmacGen job fail t) :=
  .next h.runCph

theorem execCmacVer {job : Nat} {fail : CphFail} (h : Onward s t) : Goes s (Machine.execCmacVer job fail t) :=
  .next h.runCph

theorem execSha384 {job : Nat} {fail : CphFail} (h : Onward s t) : Goes s (Machine.execSha384 job fail t) := .next h.runCph

theorem execSha512 {job : Nat} {fail : CphFail} (h : Onward s t) : Goes s (Machine.execSha512 job fail t) := .next h.runCph

theorem execHmac384 {job : Nat} {fail : CphFail} (h : Onward s t) : Goes s (Machine.execHmac384 job fail t) :=
  .next h.runCph

theorem execHmac512 {job : Nat} {fail : CphFail} (h : Onward s t) : Goes s (Machine.execHmac512 job fail t) :=
  .next h.runCph

theorem execDerive {job : Nat} {fail : CphFail} (h : Onward s t) : Goes s (Machine.execDerive job fail t) := .next h.runCph

theorem execUnwrap {job : Nat} {fail : CphFail} (h : Onward s t) : Goes s (Machine.execUnwrap job fail t) := .next h.runCph

theorem execSign {job : Nat} {fail : CphFail} (h : Onward s t) : Goes s (Machine.execSign job fail t) := .next h.runCph

theorem execVerify {job : Nat} {fail : CphFail} (h : Onward s t) : Goes s (Machine.execVerify job fail t) := .next h.runCph

theorem execPubkey {job : Nat} {fail : CphFail} (h : Onward s t) : Goes s (Machine.execPubkey job fail t) := .next h.runCph

theorem cphCancel {f : CphJob → Bool} (h : Onward s t) : Onward s (t.cphCancel f).1 := by
  unfold State.cphCancel
  extract_lets _
  exact .pair (.foldl h fun _ _ h1 => .ite h1.mapCipher h1.dropCphJob.cphReport)

theorem freeLocks {plot : Nat} {queue : Option Nat} (h : Onward s t) : Onward s (t.freeLocks plot queue) := by
  unfold State.freeLocks
  refine .foldl h fun _ _ h1 => ?_
  split
  exacts [.ite h1.releaseLock h1, h1]

theorem wipeVault (h : Onward s t) : Onward s t.wipeVault := by
  unfold State.wipeVault
  extract_lets _ s1 s2 s3
  have h1 : Onward s s1 := .foldl h fun _ _ h20 => h20.cphStopped
  have h2 : Onward s s2 := h1.mapCipher.settleLocks
  have h3 : Onward s s3 := h2.count.setBit
  exact .foldl h3 fun _ _ h4 => h4.cphReport

/-! ## Machine/Furrow -/

theorem startOp {plot block : Nat} {unit queue : Option Nat} (h : Onward s t) :
    Onward s (t.startOp plot block unit queue).1 := by
  unfold State.startOp
  extract_lets _ _ prog
  refine .ite1 (.pair h) ?_
  clear_value prog
  split
  exacts [.pair h, .ite1 (.pair h) (.ite1 (.pair h) (.ite1 (.pair h) (.ite1 (.pair h) (.ite1 (.pair h) (.ite1 (.pair h)
    (.pair h.addOp.engineWrite))))))]

theorem execStart {u : Nat} {f : ImmF} (h : Onward s t) : Goes s (Machine.execStart u f t) := by
  unfold Machine.execStart
  refine .next (h.execute fun _ h1 => ?_)
  extract_lets
  split
  exacts [.exc h1, .done (Onward.mapArch (.ite1 (.pair h1) h1.startOp))]

theorem frwSubmitAt {addr : Nat} (h : Onward s t) : Onward s (t.frwSubmitAt addr) := by
  unfold State.frwSubmitAt
  extract_lets p1
  have h1 : Onward s p1.1 := h.startOp
  exact .ite h.badw h1.setFld

theorem execFrwSubmit {m : Master} {addr : Nat} (h : Onward s t) : Goes s (Machine.execFrwSubmit m addr t) :=
  .next (.ite h.frwSubmitAt h)

theorem runChannel {op code : Nat} {f : State → FrwOp → List Byte → State} (h : Onward s t)
    (hf : ∀ r o b, Onward s r → Onward s (f r o b)) : Onward s (t.runChannel op code f) := by
  unfold State.runChannel
  split
  exacts [h, .ite (hf _ _ _ h.setOp) h]

theorem settleOp {id : Nat} (h : Onward s t) : Onward s (t.settleOp id) := by
  unfold State.settleOp
  split
  exacts [.ite h.opNext h, h]

theorem execChannelRead {op : Nat} (h : Onward s t) : Goes s (Machine.execChannelRead op t) := by
  unfold Machine.execChannelRead
  refine .next (h.runChannel (fun _ _ _ h1 => ?_))
  split
  exacts [h1.opEnd, Onward.settleOp (.foldl h1 fun _ _ h2 => h2.sendStorage)]

theorem execChannelWrite {op : Nat} (h : Onward s t) : Goes s (Machine.execChannelWrite op t) := by
  unfold Machine.execChannelWrite
  refine .next (h.runChannel (fun _ _ _ h1 => ?_))
  split
  exacts [h1.opEnd, .ite h1.opEnd (Onward.settleOp (.foldl h1 fun _ _ h2 => h2.sendStorage))]

theorem execChannelFlush {op : Nat} (h : Onward s t) : Goes s (Machine.execChannelFlush op t) :=
  .next (h.runChannel (fun _ _ _ h1 => h1.sendStorage))

theorem execPeerRead {op : Nat} (h : Onward s t) : Goes s (Machine.execPeerRead op t) := by
  unfold Machine.execPeerRead
  refine .next (h.runChannel (fun _ _ _ h1 => ?_))
  split
  exacts [h1.opEnd, .foldl h1 fun _ _ h2 => h2.sendStorage]

theorem execPeerWrite {op : Nat} (h : Onward s t) : Goes s (Machine.execPeerWrite op t) := by
  unfold Machine.execPeerWrite
  refine .next (h.runChannel (fun _ _ _ h1 => ?_))
  split
  exacts [h1.opEnd, .ite h1.opEnd (.foldl h1 fun _ _ h2 => h2.sendStorage)]

theorem execHostSend {op : Nat} (h : Onward s t) : Goes s (Machine.execHostSend op t) := by
  unfold Machine.execHostSend
  refine .next (h.runChannel (fun _ _ _ h1 => ?_))
  split
  exacts [h1.opEnd, .ite h1.opEnd (.ite h1.opEnd (.foldl h1.setOp fun _ _ h2 => h2.queuePacket))]

theorem useEntry {id e : Nat} (h : Onward s t) : Onward s (t.useEntry id e) := h.mapFurrow

theorem execThresh {op : Nat} (h : Onward s t) : Goes s (Machine.execThresh op t) := by
  unfold Machine.execThresh
  refine .next (h.runChannel (fun _ _ _ h1 => ?_))
  split
  exacts [h1.opEnd, h1.useEntry.thrAccept]

theorem execCipher {op : Nat} (h : Onward s t) : Goes s (Machine.execCipher op t) := by
  unfold Machine.execCipher
  refine .next (h.runChannel (fun _ _ _ h1 => ?_))
  split
  exacts [h1.opEnd, h1.cphAccept.useEntry]

theorem execEngAcquire {op : Nat} (h : Onward s t) : Goes s (Machine.execEngAcquire op t) := by
  unfold Machine.execEngAcquire
  refine .next (h.runChannel fun _ _ _ h1 => ?_)
  extract_lets
  split
  exacts [.ite h1.acquireLock.opNext h1.acquireLock.opEnd, h1.acquireLock.opEnd]

theorem execEngRelease {op : Nat} (h : Onward s t) : Goes s (Machine.execEngRelease op t) :=
  .next (h.runChannel (fun _ _ _ h1 => h1.releaseLock.opNext))

theorem writeSealed {o : FrwOp} {part : Bool} {runs : List (Nat × List Byte)} (h : Onward s t) :
    Onward s (t.writeSealed o part runs) := by
  unfold State.writeSealed
  extract_lets s1
  have h1 : Onward s s1 := .ite h.chargeSlot h
  exact h1.setOp.writeRuns

theorem issueInternal {o : FrwOp} (h : Onward s t) : Onward s (t.issueInternal o) := by
  unfold State.issueInternal
  refine .ite h ?_
  split
  exacts [h.writeSealed, .ite h.writeSealed h, h.setOp.writeRuns, h]

theorem beginWrite {k : FrwKind} {optag : Option Nat} {epoch lba : Nat} {bytes : List Byte} (h : Onward s t) :
    Onward s (t.beginWrite k optag epoch lba bytes) := by
  unfold State.beginWrite
  extract_lets _ p1
  have h1 : Onward s p1.1 := h.addOp
  exact h1.setOp.issueInternal

theorem destageOwn {x1 : Sheaf} (h : Onward s t) : Onward s (t.destageOwn x1) := by
  unfold State.destageOwn
  extract_lets _ _ _ _ s1
  have h1 : Onward s s1 := h.mapFurrow
  refine .ite h ?_
  split
  exacts [h.beginWrite, .ite h.setBit.mapFurrow h1.beginWrite]

theorem destagePart {x1 : Sheaf} (h : Onward s t) : Onward s (t.destagePart x1) := by
  unfold State.destagePart
  extract_lets _
  refine .ite h ?_
  split
  exacts [h.beginWrite, h.mapFurrow.beginWrite]

theorem execDestageExtent {x0 : Nat} (h : Onward s t) : Goes s (Machine.execDestageExtent x0 t) := by
  unfold Machine.execDestageExtent
  extract_lets s1
  have h1 : Onward s s1 := h.advance
  refine .next (.ite h1 ?_)
  split
  · exact .ite h1 h1.destageOwn
  · refine .ite h1 ?_
    split
    exacts [h1.destagePart, h1]

theorem reportExtents {part : Bool} {n : Nat} (h : Onward s t) : Onward s (t.reportExtents part n) := by
  induction n generalizing t with
  | zero => exact h
  | succ n ih =>
    unfold State.reportExtents
    extract_lets owed l first
    clear_value first
    split
    · extract_lets s1 s2 s3
      have h1 : Onward s s1 := h.closeOp
      have h2 : Onward s s2 := .ite h1.coverPartner.freeSheaves h1.reportDestaged
      exact .ite (ih h2.mapFurrow) h
    · exact h

theorem setSweep {x1 : Sweep} (h : Onward s t) : Onward s (t.setSweep x1) := h.mapFurrow

theorem startSweep {part : Bool} (h : Onward s t) : Onward s (t.startSweep part) := by
  unfold State.startSweep
  extract_lets _ _ s1 _ _ s2
  have h1 : Onward s s1 := .ite h.drawn h
  have h2 : Onward s s2 := h1.mapFurrow
  exact h2.beginWrite

theorem sweepStep {x1 : Sweep} (h : Onward s t) : Onward s (t.sweepStep x1) := by
  unfold State.sweepStep
  extract_lets _ _ s1
  have h1 : Onward s s1 := h.setSweep
  exact .ite h (.ite h (.ite (.ite h (.ite h (.ite h.setSweep h1.beginWrite))) (.ite h (.ite h h.setSweep.beginWrite))))

theorem sweepOn {part : Bool} (h : Onward s t) : Onward s (t.sweepOn part) := by
  unfold State.sweepOn
  split
  exacts [h.sweepStep, .ite h.startSweep h]

theorem execPloughChunk {x0 : Nat} (h : Onward s t) : Goes s (Machine.execPloughChunk x0 t) := by
  unfold Machine.execPloughChunk
  extract_lets s1 s2
  have h1 : Onward s s1 := h.advance
  have h2 : Onward s s2 := .foldl h1 fun _ _ h21 => h21.issueInternal
  exact .next (.ite h1 h2.sweepOn.sweepOn)

theorem ploughed {o : FrwOp} {part : Bool} {chunk : Option Nat} (h : Onward s t) : Onward s (t.ploughed o part chunk) := by
  unfold State.ploughed
  extract_lets s1
  have h1 : Onward s s1 := h.closeOp
  split
  exacts [.ite h1.setSweep h1.mapFurrow, h1]

theorem dropCmd {tag : Nat} (h : Onward s t) : Onward s (t.dropCmd tag) := h.mapFurrow.kick

theorem programCmd {o : FrwOp} {c : FrwCmd} {st sc : Nat} {bytes : List Byte} (h : Onward s t) :
    Onward s (t.programCmd o c st sc bytes) := by
  unfold State.programCmd
  extract_lets _ _ _ s1
  have h1 : Onward s s1 := .ite h.engineWrite h
  exact .ite (.ite (.ite h.opNext h) h.opStop) (.ite (.ite (.ite h.opNext h) h.opStop) (.ite h1.opNext h1))

theorem arbCmdDone {o : FrwOp} {what sc : Nat} {c : FrwCmd} {bytes : List Byte} (h : Onward s t) :
    Onward s (t.arbCmdDone o what c sc bytes) := by
  unfold State.arbCmdDone
  extract_lets _ s1
  have h1 : Onward s s1 := .ite h.setBit h
  exact .ite h (.ite (.ite h.sendStorage h) (.ite (.ite h.sendStorage (.ite h.setOp.preempt h)) (.ite h.sendStorage
    (.ite h1.dropOp (.ite h1.endArb.returnStored h1)))))

theorem cmdDone {c : FrwCmd} {st sc : Nat} {bytes : List Byte} (h : Onward s t) : Onward s (t.cmdDone c st sc bytes) := by
  unfold State.cmdDone
  extract_lets s1 s2
  have h1 : Onward s s1 := h.dropCmd
  have h2 : Onward s s2 := .ite h1.setBit h1
  split
  · exact h1
  · split
    exacts [h1.programCmd, h1.arbCmdDone, .ite h2.closeOp h1.reportExtents, .ite h2.dropOp.mapFurrow (.ite h1.ploughed h1),
      .ite h1.sendStorage h1.restoreData.bootRestored]

theorem execNvmeCompletion {x0 tag status : Nat} {bytes : List Byte} (h : Onward s t) :
    Goes s (Machine.execNvmeCompletion x0 tag status bytes t) := by
  unfold Machine.execNvmeCompletion
  extract_lets s1
  have h1 : Onward s s1 := h.advance
  refine .next ?_
  split
  · split
    exacts [h1.sample.cmdDone, h1]
  · exact h1

theorem recordAcked {op : Nat} (h : Onward s t) : Onward s (t.recordAcked op) := by
  unfold State.recordAcked
  split
  exacts [h, .ite h.dropOp h.setOp.issueInternal]

theorem execChannelRecordAck {op : Nat} (h : Onward s t) : Goes s (Machine.execChannelRecordAck op t) := .next h.recordAcked

theorem execFurrowLateCompletion {tag : Nat} (h : Onward s t) : Goes s (Machine.execFurrowLateCompletion tag t) :=
  .next (.ite h h.setBit.count)

theorem unissue {n : Nat} (h : Onward s t) : Onward s (t.unissue n) := h.mapFurrow

theorem failPath {p : Path} (h : Onward s t) : Onward s (t.failPath p) := by
  unfold State.failPath
  extract_lets s1 s2 _ s3
  have h1 : Onward s s1 := h.mapPath
  have h2 : Onward s s2 := h1.count.errEvent
  have h3 : Onward s s3 := .foldl h2 fun _ _ h22 => h22.cmdDone
  exact h3.unissue.kick

theorem execPathFail {x0 path : Nat} (h : Onward s t) : Goes s (Machine.execPathFail x0 path t) := by
  unfold Machine.execPathFail
  extract_lets s1
  have h1 : Onward s s1 := h.advance
  refine .next ?_
  split
  exacts [.ite h1.failPath h1, h1]

theorem execKeepAlive {x0 path : Nat} (h : Onward s t) : Goes s (Machine.execKeepAlive x0 path t) := by
  unfold Machine.execKeepAlive
  extract_lets s1 _ s2
  have h1 : Onward s s1 := h.advance
  have h2 : Onward s s2 := h1.mapFurrow.mapPath
  refine .next ?_
  split
  exacts [.ite h2.furrowFrame h1, h1]

theorem execPathReconnect {x0 path : Nat} (h : Onward s t) : Goes s (Machine.execPathReconnect x0 path t) := by
  unfold Machine.execPathReconnect
  extract_lets s1
  have h1 : Onward s s1 := h.advance
  refine .next ?_
  split
  exacts [.ite h1.mapPath h1, h1]

theorem execPathReady {x0 path : Nat} (h : Onward s t) : Goes s (Machine.execPathReady x0 path t) := by
  unfold Machine.execPathReady
  extract_lets s1 s2
  have h1 : Onward s s1 := h.advance
  have h2 : Onward s s2 := h1.mapPath
  refine .next ?_
  split
  exacts [.ite h2.mapFurrow.kick h1, h1]

theorem execFailedPathWriteHoldExpire {x0 path : Nat} (h : Onward s t) :
    Goes s (Machine.execFailedPathWriteHoldExpire x0 path t) := by
  unfold Machine.execFailedPathWriteHoldExpire
  extract_lets s1
  have h1 : Onward s s1 := h.advance
  exact .next h1.mapFurrow.kick

theorem execPathwaitExpire {x0 op : Nat} (h : Onward s t) : Goes s (Machine.execPathwaitExpire x0 op t) := by
  unfold Machine.execPathwaitExpire
  extract_lets s1
  have h1 : Onward s s1 := h.advance
  refine .next ?_
  split
  exacts [.ite h1.mapFurrow.opStop h1, h1]

theorem execCnpReceive {x0 path : Nat} (h : Onward s t) : Goes s (Machine.execCnpReceive x0 path t) := by
  unfold Machine.execCnpReceive
  extract_lets s1
  have h1 : Onward s s1 := h.advance
  exact .next h1.mapPath

/-! ## Machine/Weft -/

theorem linkTo {l : Nat} {st : WState} (h : Onward s t) : Onward s (t.linkTo l st) := h.mapLink

theorem enterIdent {l : Nat} (h : Onward s t) : Onward s (t.enterIdent l) := h.linkTo.sendFlit

theorem failLink {l : Nat} (h : Onward s t) : Onward s (t.failLink l) := by
  unfold State.failLink
  extract_lets s1
  have h1 : Onward s s1 := h.mapLink
  exact h1.errEvent

theorem writeWftCtrl {v : Word} (h : Onward s t) : Onward s (t.writeWftCtrl v) := by
  unfold State.writeWftCtrl
  extract_lets s1
  have h1 : Onward s s1 := h.writeFields
  exact .foldl h1 fun _ _ h2 => .ite (.ite h2 h2.linkTo) (.ite h2.linkTo (.ite h2.enterIdent h2))

theorem execWeftLinkAligned {link : Nat} (h : Onward s t) : Goes s (Machine.execWeftLinkAligned link t) :=
  .next (.ite (.ite h.enterIdent h.linkTo) h)

theorem identified {l peer peerLink rev : Nat} (h : Onward s t) : Onward s (t.identified l peer peerLink rev) := by
  unfold State.identified
  extract_lets s1 s2
  have h1 : Onward s s1 := h.linkTo.mapLink
  have h2 : Onward s s2 := .ite h1.mapWeft h1
  exact .ite h.setBit.failLink (.ite h.failLink h2.setFld.setFld)

theorem execLinkFlit {link peer peerLink rev : Nat} (h : Onward s t) :
    Goes s (Machine.execLinkFlit link peer peerLink rev t) :=
  .next (.ite h.identified h)

theorem execWeftLinkFail {x0 link : Nat} (h : Onward s t) : Goes s (Machine.execWeftLinkFail x0 link t) := by
  unfold Machine.execWeftLinkFail
  extract_lets s1
  have h1 : Onward s s1 := h.advance
  exact .next (.ite h1.failLink h1)

theorem execWeftRetrain {x0 link : Nat} (h : Onward s t) : Goes s (Machine.execWeftRetrain x0 link t) := by
  unfold Machine.execWeftRetrain
  extract_lets s1
  have h1 : Onward s s1 := h.advance
  exact .next (.ite h1.linkTo h1)

theorem replayFlit {l seq : Nat} (h : Onward s t) : Onward s (t.replayFlit l seq) := by
  unfold State.replayFlit
  extract_lets _ _ s1 s2 s3
  have h1 : Onward s s1 := h.mapLink
  have h2 : Onward s s2 := h1.mapAlmanac
  have h3 : Onward s s3 := h2.count.event
  exact .ite h3.failLink (.foldl h3 fun _ _ h4 => h4.emit)

theorem execWeftReplay {link seq : Nat} (h : Onward s t) : Goes s (Machine.execWeftReplay link seq t) :=
  .next (.ite h.replayFlit h)

theorem execWeftFlitError {link : Nat} {e : FlitError} (h : Onward s t) : Goes s (Machine.execWeftFlitError link e t) := by
  unfold Machine.execWeftFlitError
  refine .next (.ite h ?_)
  split
  exacts [h.count, h.count.sendFlit, h.sendFlit]

theorem forwardFrame {l : Nat} {b : List Byte} (h : Onward s t) : Onward s (t.forwardFrame l b) := by
  unfold State.forwardFrame
  extract_lets _
  refine .ite h.count (.ite h (.ite h.setBit ?_))
  split
  exacts [h.emit, h.setBit]

theorem execWeftFrameForward {link : Nat} {bytes : List Byte} (h : Onward s t) :
    Goes s (Machine.execWeftFrameForward link bytes t) :=
  .next (.ite h.forwardFrame h)

theorem confirmCopy {tag : Nat} (h : Onward s t) : Onward s (t.confirmCopy tag) := by
  unfold State.confirmCopy
  exact .ite h h.mirrorSend

theorem takePlotCopy {b : List Byte} (h : Onward s t) : Onward s (t.takePlotCopy b) := by
  unfold State.takePlotCopy
  exact .ite (.ite h.plotFromCopy h) h.mapTwin

theorem takeRecord {b : List Byte} (h : Onward s t) : Onward s (t.takeRecord b) := by
  unfold State.takeRecord
  extract_lets _ _ _ _ s1
  have h1 : Onward s s1 := h.mapFurrow
  exact h1.mirrorSend

theorem takeKeyBack {blob : List Byte} (h : Onward s t) : Onward s (t.takeKeyBack blob) := by
  unfold State.takeKeyBack
  split
  exacts [h.fillSlot, h]

theorem takeChain {b : List Byte} (h : Onward s t) : Onward s (t.takeChain b) := by
  unfold State.takeChain
  exact .ite h.mapJournal h

theorem takeState {b : List Byte} (h : Onward s t) : Onward s (t.takeState b) := by
  unfold State.takeState
  extract_lets _ _ _ s1
  have h1 : Onward s s1 := h.seen
  exact .ite h1.takePlotCopy.confirmCopy (.ite h1.mapTwin.confirmCopy (.ite h1.mapCipher.confirmCopy
    (.ite h1.mapCipher.confirmCopy (.ite h1.takeRecord (.ite h1.recordAcked (.ite h1.mirrorConfirmed (.ite h1.takeKeyBack
    (.ite h1.takeChain h1))))))))

theorem execStateFrame {bytes : List Byte} (h : Onward s t) : Goes s (Machine.execStateFrame bytes t) :=
  .next (.ite h h.takeState)

theorem execStakeReq {dev ns key : Nat} {who : Party} {excl inTree : Bool} (h : Onward s t) :
    Goes s (Machine.execStakeReq dev who ns key excl inTree t) := by
  unfold Machine.execStakeReq
  extract_lets s1
  have h1 : Onward s s1 := h.seen
  exact .next (.ite h (.ite h1.setBit.stakeRefusal.answerRequest h1.sendStakeOp))

theorem remoteAnswer {home ns key code : Nat} {who : Party} (h : Onward s t) :
    Onward s (t.remoteAnswer home who ns key code) := by
  unfold State.remoteAnswer
  extract_lets r
  refine .ite ?_ (.ite h.sendStakeOp h)
  clear_value r
  split
  exacts [.ite h.putStakeRec h.putStakeRec.mapStakes, h]

theorem execStakeRsp {x0 ns key code : Nat} {m : StakeMsg} (h : Onward s t) :
    Goes s (Machine.execStakeRsp x0 m ns key code t) := by
  unfold Machine.execStakeRsp
  extract_lets s1
  have h1 : Onward s s1 := h.advance
  exact .next (.ite h1 h1.seen.remoteAnswer)

theorem execStakeFwd {m : StakeMsg} {ns key : Nat} {kind : FwdKind} (h : Onward s t) :
    Goes s (Machine.execStakeFwd m ns key kind t) := by
  unfold Machine.execStakeFwd
  refine .next (.ite h ?_)
  split
  exacts [h.seen.sendStakeOp, h.seen.sendStakeOp, h.seen.remoteAnswer, h.seen.woundLocal, h.seen.woundByKey]

theorem answerRec {dev tag code epoch : Nat} {bytes : List Byte} (h : Onward s t) :
    Onward s (t.answerRec dev tag code epoch bytes) :=
  h.weftSend

theorem noteRemRead {dev epoch : Nat} {slot : Option Nat} (h : Onward s t) : Onward s (t.noteRemRead dev slot epoch) := by
  unfold State.noteRemRead
  split
  exacts [h.mapWeft, h]

theorem serveRead {dev tag plot off len : Nat} {slot : Option Nat} (h : Onward s t) :
    Onward s (t.serveRead dev tag plot slot off len) := by
  unfold State.serveRead
  split
  exacts [h.setBit.answerRec, .ite h.answerRec (Onward.answerRec (.ite h h.noteRemRead))]

theorem execRecRead {dev tag plot off len : Nat} {slot : Option Nat} (h : Onward s t) :
    Goes s (Machine.execRecRead dev tag plot slot off len t) :=
  .next (.ite h h.seen.serveRead)

theorem captureRemote {dev slot off : Nat} {b : List Byte} (h : Onward s t) :
    Onward s (t.captureRemote dev slot off b) := by
  unfold State.captureRemote
  extract_lets _
  exact .foldl h fun _ _ h1 => Onward.placeLine (.ite h1 h1.mapWeft)

theorem serveWrite {dev tag plot off : Nat} {slot : Option Nat} {b : List Byte} (h : Onward s t) :
    Onward s (t.serveWrite dev tag plot slot off b) := by
  unfold State.serveWrite
  extract_lets _
  split
  exacts [.ite h.answerRec h.captureRemote.answerRec, h.agentStore.answerRec, h.setBit.answerRec]

theorem execRecWrite {dev tag plot off : Nat} {slot : Option Nat} {bytes : List Byte} (h : Onward s t) :
    Goes s (Machine.execRecWrite dev tag plot slot off bytes t) :=
  .next (.ite h h.seen.serveWrite)

theorem giveAnswer {r : RemReq} {code : Nat} {bytes : List Byte} (h : Onward s t) :
    Onward s (t.giveAnswer r code bytes) := by
  unfold State.giveAnswer
  extract_lets s1
  have h1 : Onward s s1 := h.mapWeft
  exact h1.mapUnit

theorem storeOver {r : RemReq} {poison : Bool} (h : Onward s t) : Onward s (t.storeOver r poison) := by
  unfold State.storeOver
  extract_lets s1
  have h1 : Onward s s1 := h.mapWeft
  exact .ite h1.mapUnit h1

theorem recAnswered {r : RemReq} {a : RecAnswer} {bytes : List Byte} (h : Onward s t) :
    Onward s (t.recAnswered r a bytes) := by
  unfold State.recAnswered
  extract_lets s1
  have h1 : Onward s s1 := h.storeOver
  refine .ite (.ite h1.endInput h1) ?_
  split
  exacts [h.giveAnswer, h.giveAnswer, h.giveAnswer]

theorem execRecRsp {tag x3 : Nat} {a : RecAnswer} {bytes : List Byte} (h : Onward s t) :
    Goes s (Machine.execRecRsp tag a bytes x3 t) := by
  unfold Machine.execRecRsp
  refine .next (.ite h ?_)
  split
  exacts [h.seen.recAnswered, h]

theorem dropRemote {dev slot : Nat} (h : Onward s t) : Onward s (t.dropRemote dev slot) := h.mapWeft

theorem acceptSpan {dev slot epoch : Nat} (h : Onward s t) : Onward s (t.acceptSpan dev slot epoch) := h.dropRemote.weftSend

theorem spanCommit {dev slot reqid plot : Nat} (h : Onward s t) : Onward s (t.spanCommit dev slot reqid plot) := by
  unfold State.spanCommit
  split
  · extract_lets e
    exact .ite h.oweVote.acceptSpan h.acceptSpan
  · refine .ite h ?_
    split
    · exact h.setBit
    · extract_lets base rec s1
      have h1 : Onward s s1 := h.appendRecord
      exact h1.oweVote.acceptSpan.ringCheck

theorem spanUndo {dev slot : Nat} (h : Onward s t) : Onward s (t.spanUndo dev slot) := by
  unfold State.spanUndo
  extract_lets _ s1
  have h1 : Onward s s1 := .foldl h fun _ _ h20 => h20.placeLine
  exact h1.dropRemote

theorem execSpanNotice {dev slot : Nat} {bytes : List Byte} (h : Onward s t) :
    Goes s (Machine.execSpanNotice dev slot bytes t) := by
  unfold Machine.execSpanNotice
  extract_lets s1
  have h1 : Onward s s1 := h.seen
  exact .next (.ite h (.ite h1.spanCommit h1.spanUndo))

theorem execProbeSend {x0 dev : Nat} (h : Onward s t) : Goes s (Machine.execProbeSend x0 dev t) := by
  unfold Machine.execProbeSend
  extract_lets s1
  have h1 : Onward s s1 := h.advance
  exact .next (.ite h1.weftSend h1)

theorem execProbe {x0 dev : Nat} (h : Onward s t) : Goes s (Machine.execProbe x0 dev t) := by
  unfold Machine.execProbe
  extract_lets s1
  have h1 : Onward s s1 := h.advance
  exact .next (.ite h1 h1.seen.weftSend)

theorem execProbeRsp {x0 dev : Nat} (h : Onward s t) : Goes s (Machine.execProbeRsp x0 dev t) := by
  unfold Machine.execProbeRsp
  extract_lets s1
  have h1 : Onward s s1 := h.advance
  exact .next (.ite h1 h1.seen)

theorem loseDevice {dev : Nat} (h : Onward s t) : Onward s (t.loseDevice dev) := by
  unfold State.loseDevice
  extract_lets s1 s2 s3
  have h1 : Onward s s1 := h.loseStakes
  have h2 : Onward s s2 := .foldl h1 fun _ _ h21 => .ite h21.storeOver h21.giveAnswer
  have h3 : Onward s s3 := h2.mapWeft
  exact h3.count.errEvent.trySeal

theorem execDeviceLost {x0 dev : Nat} (h : Onward s t) : Goes s (Machine.execDeviceLost x0 dev t) := by
  unfold Machine.execDeviceLost
  extract_lets s1
  have h1 : Onward s s1 := h.advance
  exact .next (.ite h1.loseDevice h1)

theorem servePeer {dev tag : Nat} {write : Bool} {b : List Byte} (h : Onward s t) :
    Onward s (t.servePeer dev tag write b) := by
  unfold State.servePeer
  extract_lets _
  split
  exacts [h.weftSend, .ite h.engineWrite.weftSend (.ite h.strongRead.weftSend h.weftSend)]

theorem execPeerReq {dev tag : Nat} {write : Bool} {bytes : List Byte} (h : Onward s t) :
    Goes s (Machine.execPeerReq dev tag write bytes t) :=
  .next (.ite h h.seen.servePeer)

theorem execPeerRsp {x0 tag status : Nat} {bytes : List Byte} (h : Onward s t) :
    Goes s (Machine.execPeerRsp x0 tag status bytes t) := by
  unfold Machine.execPeerRsp
  extract_lets s1
  have h1 : Onward s s1 := h.advance
  refine .next ?_
  split
  · split
    exacts [h1.seen.sample.cmdDone, h1]
  · exact h1

/-! ## Machine/Power -/

theorem execRailSample {rail mv : Nat} (h : Onward s t) : Goes s (Machine.execRailSample rail mv t) :=
  .next (.ite h.setFld.sample h)

theorem execRailExcursion {rail : Nat} {fail : Bool} (h : Onward s t) : Goes s (Machine.execRailExcursion rail fail t) :=
  .next (.ite (.ite h.errEvent h.errEvent) h)

theorem throttleCluster {c value : Nat} (h : Onward s t) : Onward s (t.throttleCluster c value) := by
  unfold State.throttleCluster
  extract_lets _
  exact .ite h.mapPower (.ite h.mapPower h)

theorem readTemp {k value : Nat} (h : Onward s t) : Onward s (t.readTemp k value) := by
  unfold State.readTemp
  extract_lets s1 s2 s3
  have h1 : Onward s s1 := h.setReg.sample
  have h2 : Onward s s2 := .ite h1.throttleCluster h1
  have h3 : Onward s s3 := .ite h2.mapPower.errEvent (.ite h2.mapPower h2)
  exact .ite (.ite h3.errEvent h3.mapPower) h3.mapPower

theorem execTempSample {x0 sensor value : Nat} (h : Onward s t) : Goes s (Machine.execTempSample x0 sensor value t) := by
  unfold Machine.execTempSample
  extract_lets s1
  have h1 : Onward s s1 := h.advance
  exact .next (.ite h1.readTemp h1)

theorem clockStep {c : Nat} (h : Onward s t) : Onward s (t.clockStep c) := by
  unfold State.clockStep
  extract_lets _
  exact h.setFld

theorem execCclkStep {cluster : Nat} (h : Onward s t) : Goes s (Machine.execCclkStep cluster t) :=
  .next (.ite h.clockStep h)

theorem execCclkChange {m : Master} {cluster : Nat} {v : Word} (h : Onward s t) :
    Goes s (Machine.execCclkChange m cluster v t) :=
  .next (.ite h.writeFields h)

theorem thresherLost (h : Onward s t) : Onward s t.thresherLost := by
  unfold State.thresherLost
  extract_lets s1
  have h1 : Onward s s1 := .foldl h fun _ _ h20 => h20.stopThrJob
  exact h1.mapThresher

theorem monitorTrip {d : Nat} (h : Onward s t) : Onward s (t.monitorTrip d) := by
  unfold State.monitorTrip
  extract_lets s1 s2
  have h1 : Onward s s1 := .ite h.setBit h.setBit
  have h2 : Onward s s2 := h1.errEvent
  exact .ite h2.isolate (.ite h2.linkLost (.ite (.ite h2 h2.failLink) (.ite h2.thresherLost (.ite h2.setBit h2))))

theorem execClockMonitorTrip {domain : Nat} (h : Onward s t) : Goes s (Machine.execClockMonitorTrip domain t) :=
  .next (.ite h.monitorTrip h)

theorem startPowering {c : Nat} {up : Bool} (h : Onward s t) : Onward s (t.startPowering c up) := by
  unfold State.startPowering
  extract_lets s1
  have h1 : Onward s s1 := h.setBit.mapPower
  exact .foldl h1 fun _ _ h2 => h2.markerIn

theorem powerDown {c : Nat} (h : Onward s t) : Onward s (t.powerDown c) := by
  unfold State.powerDown
  extract_lets s1
  have h1 : Onward s s1 := h.setBit
  split
  exacts [.ite h1 h1.startPowering, h.setFld.setFld.errEvent]

theorem powerUp {c : Nat} (h : Onward s t) : Onward s (t.powerUp c) := by
  unfold State.powerUp
  extract_lets s1
  have h1 : Onward s s1 := h.setBit
  exact .ite h1.startPowering h1

theorem writeClsPwr {v : Word} (h : Onward s t) : Onward s (t.writeClsPwr v) := by
  unfold State.writeClsPwr
  exact .foldl h fun _ _ h1 => .ite h1 (.ite h1.powerDown h1.powerUp)

theorem execClusterPowerDown {m : Master} {v : Word} (h : Onward s t) : Goes s (Machine.execClusterPowerDown m v t) :=
  .next (.ite h.writeClsPwr h)

theorem execClusterPowerUp {m : Master} {v : Word} (h : Onward s t) : Goes s (Machine.execClusterPowerUp m v t) :=
  .next (.ite h.writeClsPwr h)

theorem zeroBanks {c : Nat} (h : Onward s t) : Onward s (t.zeroBanks c) := by
  unfold State.zeroBanks
  extract_lets lost
  exact h.filterMem

theorem poweredDown {c : Nat} (h : Onward s t) : Onward s (t.poweredDown c) := by
  unfold State.poweredDown
  extract_lets s1 s2 s3 s4 s5 s6
  have h1 : Onward s s1 := h.setCluster
  have h2 : Onward s s2 := .foldl h1 fun _ _ h21 => h21.mapPair.setUnit.setUnit
  have h3 : Onward s s3 := h2.zeroBanks
  have h4 : Onward s s4 := h3.setBit.setBit
  have h5 : Onward s s5 := h4.setBit.setReg
  have h6 : Onward s s6 := h5.mapPower
  exact .ite h6 h6.startPowering

theorem execClusterPowerDownDone {cluster : Nat} (h : Onward s t) : Goes s (Machine.execClusterPowerDownDone cluster t) :=
  .next (.ite h.poweredDown h)

theorem poweredUp {c : Nat} (h : Onward s t) : Onward s (t.poweredUp c) := by
  unfold State.poweredUp
  extract_lets s1 s2 s3 s4
  have h1 : Onward s s1 := h.zeroBanks
  have h2 : Onward s s2 := .foldl h1 fun _ _ h21 => h21.reloadPair
  have h3 : Onward s s3 := h2.setBit.setBit
  have h4 : Onward s s4 := h3.setBit.mapPower
  exact .ite h4.setBit.powerDown h4

theorem execClusterPowerUpDone {cluster : Nat} (h : Onward s t) : Goes s (Machine.execClusterPowerUpDone cluster t) :=
  .next (.ite h.poweredUp h)

theorem showGate {d : Nat} {off : Bool} (h : Onward s t) : Onward s (t.showGate d off) := h.setBit

theorem showGates {off : Nat} (h : Onward s t) : Onward s (t.showGates off) := by
  unfold State.showGates
  exact .ite h.showGate.showGate (.ite (.foldl h fun _ _ h1 => h1.showGate) (.ite h.showGate h))

theorem writeWdog {v : Word} (h : Onward s t) : Onward s (t.writeWdog v) := by
  unfold State.writeWdog
  extract_lets _ _ _ s1 s2 s3
  have h1 : Onward s s1 := .ite h.badw h
  have h2 : Onward s s2 := .ite h1.setFld h1
  have h3 : Onward s s3 := .ite h2.setBit h2
  exact .ite h3.mapPower h3

theorem execWdogEnable {m : Master} {v : Word} (h : Onward s t) : Goes s (Machine.execWdogEnable m v t) :=
  .next (.ite h.writeWdog h)

theorem execWdogKick {m : Master} {v : Word} (h : Onward s t) : Goes s (Machine.execWdogKick m v t) :=
  .next (.ite h.writeWdog h)

theorem execWdogExpire {x0 : Nat} (h : Onward s t) : Goes s (Machine.execWdogExpire x0 t) := by
  unfold Machine.execWdogExpire
  extract_lets s1
  have h1 : Onward s s1 := h.advance
  refine .next ?_
  split
  exacts [.ite h1.mapPower.errEvent h1, h1]

theorem settlePin {p : SharedPin} (h : Onward s t) : Onward s (t.settlePin p) := by
  unfold State.settlePin
  extract_lets _
  exact .ite h.setBit (.ite h.setBit.event h)

theorem settlePins {driver : Nat} (h : Onward s t) : Onward s (t.settlePins driver) := by
  unfold State.settlePins
  extract_lets s1
  have h1 : Onward s s1 := .ite h h.mapTick
  exact h1.settlePin.settlePin

theorem execResourceTake {pin : SharedPin} (h : Onward s t) : Goes s (Machine.execResourceTake pin t) :=
  .next (.ite h.setBit h)

theorem tamper {sensor : Nat} (h : Onward s t) : Onward s (t.tamper sensor) := by
  unfold State.tamper
  extract_lets s1 s2
  have h1 : Onward s s1 := h.startWipe.wipeVault
  have h2 : Onward s s2 := h1.mapMram
  exact .ite h.setBit h2.errEvent

theorem execTamperEvent {sensor : Nat} (h : Onward s t) : Goes s (Machine.execTamperEvent sensor t) :=
  .next (.ite h.tamper h)

/-! ## Machine/Control -/

theorem readSide {m : Master} {off : Nat} {x : State × Word} (h : Onward s t) (hx : t.readSide m off = some x) :
    Onward s x.1 := by
  unfold State.readSide at hx
  extract_lets of at hx
  have hof {y : State} (hy : Onward s y) (e : of y = some x) : Onward s x.1 := by
    cases e
    exact hy.keep
  split_ifs at hx
  case pos =>
    cases hx
    exact h.setReg
  case pos => exact hof h.readRec0 hx
  case pos => exact hof h.readWindow0 hx
  case pos => exact hof h.readWindow63 hx
  case pos => exact hof h.readTsInfo hx
  case pos => exact hof h.readTsHi hx
  case pos =>
    cases hx
    exact h.readRdata

theorem readPlain {m : Master} {off : Nat} (h : Onward s t) : Onward s (t.readPlain m off).1 := by
  unfold State.readPlain
  refine .ite1 (.pair h) ?_
  split
  · exact h
  · split
    case h_1 hr => exact h.readSide hr
    case h_2 =>
      split
      · exact .pair h.latchWord
      · exact h
      · exact .ite1 (.pair h.latchWords) (.pair h)
      · exact h

theorem writeUnless {off hi lo : Nat} {v : Word} {bad : Bool} (h : Onward s t) :
    Onward s (t.writeUnless off v bad hi lo) := by
  unfold State.writeUnless
  exact .ite h.writeFields.badw h.writeFields

theorem writeBudget {v : Word} (h : Onward s t) : Onward s (t.writeBudget v) := h.writeUnless

theorem writeRingCfg {v : Word} (h : Onward s t) : Onward s (t.writeRingCfg v) := by
  unfold State.writeRingCfg
  exact .ite h.badw h.writeFields

theorem writeTwnCtrl {v : Word} (h : Onward s t) : Onward s (t.writeTwnCtrl v) := by
  unfold State.writeTwnCtrl
  extract_lets s1
  have h1 : Onward s s1 := h.writeFields
  exact .ite h1.returnNowOp h1

theorem writeTwnCfg {off : Nat} {v : Word} (h : Onward s t) : Onward s (t.writeTwnCfg off v) := by
  unfold State.writeTwnCfg
  extract_lets _
  exact .ite h.badw h.writeFields

theorem writeHb {v : Word} (h : Onward s t) : Onward s (t.writeHb v) := by
  unfold State.writeHb
  exact .ite h.badw h.writeFields

theorem writeEthCtrl {v : Word} (h : Onward s t) : Onward s (t.writeEthCtrl v) := by
  unfold State.writeEthCtrl
  extract_lets s1 s2
  have h1 : Onward s s1 := h.writeFields
  have h2 : Onward s s2 := .foldl h1 fun _ _ h21 => .ite h21 h21.setBit.setFld
  exact h2.showGates

theorem writePairCfg {off : Nat} {v : Word} (h : Onward s t) : Onward s (t.writePairCfg off v) := by
  unfold State.writePairCfg
  extract_lets _
  exact .ite h.writeFields (.ite h.writeFields h.badw)

theorem writeUcCtrl {p : Nat} {v : Word} (h : Onward s t) : Onward s (t.writeUcCtrl p v) := by
  unfold State.writeUcCtrl
  extract_lets s1 s2
  have h1 : Onward s s1 := .ite h.clearUcode h
  have h2 : Onward s s2 := .ite h1.unlockUcode h1
  exact .ite h2.lockUcode h2

theorem writeUcPort {off : Nat} {v : Word} (h : Onward s t) : Onward s (t.writeUcPort off v) := by
  unfold State.writeUcPort
  extract_lets _
  exact .ite h.writeUcCtrl (.ite (.ite h.clsBadw (.ite h.writeFields h.setReg)) (.ite h.commitWord h.writeFields))

theorem writeWarpTime {off : Nat} {v : Word} (h : Onward s t) : Onward s (t.writeWarpTime off v) := by
  unfold State.writeWarpTime
  extract_lets _
  exact .ite h.badw h.writeFields

theorem writeRtCtrl {v : Word} (h : Onward s t) : Onward s (t.writeRtCtrl v) := by
  unfold State.writeRtCtrl
  extract_lets s1
  have h1 : Onward s s1 := .ite h.copyRoutes h
  exact .ite h1.flipRoutes h1

theorem writeLock {n : Nat} {v : Word} (h : Onward s t) : Onward s (t.writeLock n v) := by
  unfold State.writeLock
  split
  exacts [h.lockByD, h.unlockByD, h.badw, h]

theorem writeAllot {g : Nat} {v : Word} (h : Onward s t) : Onward s (t.writeAllot g v) := by
  unfold State.writeAllot
  extract_lets _
  exact .ite h (.ite h.badw h.writeFields)

theorem writeFrwCtrl {v : Word} (h : Onward s t) : Onward s (t.writeFrwCtrl v) := by
  unfold State.writeFrwCtrl
  extract_lets _ s1
  have h1 : Onward s s1 := h.writeFields
  exact .ite h1.mirrorKey h1

theorem writeGroup {g : Nat} {v : Word} (h : Onward s t) : Onward s (t.writeGroup g v) := by
  unfold State.writeGroup
  extract_lets _
  exact .ite h.badw h.writeFields

theorem writeWftRoute {v : Word} (h : Onward s t) : Onward s (t.writeWftRoute v) := by
  unfold State.writeWftRoute
  extract_lets _
  split
  exacts [h, .ite h.mapWeft.badw h.mapWeft]

theorem writeTherm {v : Word} (h : Onward s t) : Onward s (t.writeTherm v) := by
  unfold State.writeTherm
  extract_lets _
  exact h.writeUnless

theorem writeDbg {m : Master} {off : Nat} {v : Word} (h : Onward s t) : Onward s (t.writeDbg m off v) := by
  unfold State.writeDbg
  exact .ite h.writeAuthCtrl (.ite h.setReg (.ite h.writePctrl (.ite h.writeBp (.ite h.writeRsel
    (.ite h.writeRdata h.writeFields)))))

theorem writeSingle {m : Master} {off : Nat} {v : Word} (h : Onward s t) : Onward s (t.writeSingle m off v) := by
  unfold State.writeSingle
  extract_lets _
  exact .ite (.ite h.gleanClear (.ite (.ite h.callSnapshot h) h.writeFields)) (.ite (.ite h.writeBudget
    (.ite h.writeFields.settlePins h.writeFields)) (.ite (.ite h.writeSowPair h.writeFields) (.ite (.ite h.writeJnlCtrl
    (.ite h.writeRingCfg h.writeFields)) (.ite (.ite h.writeTwnCtrl (.ite h.writeTwnCfg (.ite h.writeHb h.writeFields)))
    (.ite (.ite h.writeStkCtrl h.writeFields) (.ite (.ite h.writeEthCtrl h.writeFields) (.ite
    (.ite h.writePltCtrl h.writeFields) (.ite (.ite h.writeUcPort (.ite h.writePairCfg (.ite (.foldl h fun _ _ h1 =>
    h1.retainBank) h.writeFields))) (.ite (.ite h.writeWarpTime (.ite h.writeRtData (.ite h.writeRtCtrl h.writeFields)))
    (.ite (.ite h.writeThrCtrl.showGates h.writeFields) (.ite (.ite h.writeLock (.ite h.writeAllot h.writeFields)) (.ite
    (.ite h.writeFrwCtrl (.ite h.writeGroup h.writeFields)) (.ite (.ite h.writeWftCtrl.showGates (.ite h.writeWftRoute
    (.ite h.writeUnless h.writeFields))) (.ite (.ite h.writeRstCtrl (.ite h.writeWdog (.ite h.writeTherm
    (.ite h.writeClsPwr h.writeFields)))) (.ite (.ite h.badw h.writeFields) (.ite h.writeDbg
    (.ite h.writeFields.settlePins h.writeFields)))))))))))))))))

theorem submitHi {off : Nat} {v : Word} (h : Onward s t) : Onward s (t.submitHi off v) := by
  unfold State.submitHi
  extract_lets _ s1
  have h1 : Onward s s1 := h.mapCtl
  exact .ite h1.thrSubmitAt (.ite h1.cphSubmitAt h1.frwSubmitAt)

theorem writePlain {m : Master} {off : Nat} {v : Word} (h : Onward s t) : Onward s (t.writePlain m off v) := by
  unfold State.writePlain
  refine .ite h ?_
  split
  · exact h.badw
  · split
    exacts [.ite h.holdLo h, .ite h.submitHi h.writeHi, h.writeSingle]

theorem createPlot {n : Nat} {d : Desc} (h : Onward s t) (hr : t.createPlot n d = some r) : Onward s r :=
  h.setPlot.placeTables hr

/-! ## Machine/Manage -/

theorem execPlotCreate {plot queue : Nat} (h : Onward s t) : Goes s (Machine.execPlotCreate plot queue t) := by
  unfold Machine.execPlotCreate
  refine .next (h.runCmd fun _ _ h1 => .ite (.err h1) (.ite (.err h1) (.ite (.err h1) (.ite (.err h1) ?_))))
  exact h1.changePlot fun _ h2 => h2.getD fun _ hr => h2.createPlot hr

theorem nextDesc {n : Nat} {f : Desc → Desc} (h : Onward s t) : Onward s (t.nextDesc n f) := h.mapPlot

theorem descNow {n : Nat} (h : Onward s t) : Onward s (t.descNow n) := h.mapPlot

theorem changeDesc {c : FwCmd} {f : Desc → Desc} {after : State → State} (h : Onward s t)
    (hf : ∀ r, Onward s r → Onward s (after r)) : Replies s (t.changeDesc c f after) := by
  unfold State.changeDesc
  extract_lets
  exact h.mirrored fun _ h1 => .ok (hf _ h1.nextDesc)

theorem execPlotSetShare {plot queue : Nat} (h : Onward s t) : Goes s (Machine.execPlotSetShare plot queue t) := by
  unfold Machine.execPlotSetShare
  refine .next (h.runChecked fun _ _ h1 => ?_)
  split
  exacts [.err h1, .ite (.err h1) (h1.changeDesc fun _ => id)]

theorem announceNext {n : Nat} (h : Onward s t) : Onward s (t.announceNext n) := by
  unfold State.announceNext
  extract_lets s1 s2
  have h1 : Onward s s1 := h.descNow
  have h2 : Onward s s2 := h1.moveAddresses
  exact h2.keep

theorem execPlotSetAddr {plot queue : Nat} (h : Onward s t) : Goes s (Machine.execPlotSetAddr plot queue t) := by
  unfold Machine.execPlotSetAddr
  refine .next (h.runCmd (fun _ _ h1 => ?_))
  split
  exacts [.err h1, h1.changeDesc (fun _ h2 => h2.announceNext)]

theorem execPlotGet {plot queue : Nat} (h : Onward s t) : Goes s (Machine.execPlotGet plot queue t) := by
  unfold Machine.execPlotGet
  refine .next (h.runCmd (fun _ _ h1 => ?_))
  split
  exacts [.err h1, .ok h1]

theorem execSpaceSet {plot queue : Nat} (h : Onward s t) : Goes s (Machine.execSpaceSet plot queue t) :=
  .next (h.runChecked (fun _ _ h1 => .ite (.err h1) (.ite (.err h1) (h1.changePlot (fun _ h2 => h2.setSpace)))))

theorem execQueueCreate {plot queue : Nat} (h : Onward s t) : Goes s (Machine.execQueueCreate plot queue t) := by
  unfold Machine.execQueueCreate
  refine .next (h.runCmd (fun _ _ h1 => ?_))
  split
  exacts [.err h1, .ite (.err h1) (.ite (.err h1) (h1.changePlot (fun _ h2 => h2.addQpair)))]

theorem execQueueGet {plot queue : Nat} (h : Onward s t) : Goes s (Machine.execQueueGet plot queue t) := by
  unfold Machine.execQueueGet
  refine .next (h.runCmd (fun _ _ h1 => ?_))
  split
  exacts [.err h1, .ok h1]

theorem notRun {r : ResetRun} {q : QPair} (h : Onward s t) : Onward s (t.notRun r q) := by
  unfold State.notRun
  extract_lets _ s1
  have h1 : Onward s s1 := h.mapQpair
  exact h1.mapPlots

theorem startReset {c : FwCmd} {only : Option Nat} {destroy : Bool} (h : Onward s t) :
    Onward s (t.startReset c only destroy) := by
  unfold State.startReset
  extract_lets _ _ s1 s2 _ s3 s4 s5 p6 p7 p8
  have h1 : Onward s s1 := h.mapPlots
  have h2 : Onward s s2 := .ite h1 h1.mapPlot
  have h3 : Onward s s3 := .foldl h2 fun _ _ h22 => h22.report
  have h4 : Onward s s4 := .foldl h3 fun _ _ h23 => h23.endInput
  have h5 : Onward s s5 := by
    refine .foldl h4 fun _ _ h24 => ?_
    split
    exacts [h24.notRun, h24]
  have h6 : Onward s p6.1 := h5.frwCancel
  have h7 : Onward s p7.1 := h6.thrCancel
  have h8 : Onward s p8.1 := h7.cphCancel
  exact h8.mapPlots

theorem resetCommand {c : FwCmd} {only : Option Nat} {destroy : Bool} (h : Onward s t) :
    Replies s (t.resetCommand c only destroy) := by
  unfold State.resetCommand
  extract_lets _ s1
  have h1 : Onward s s1 := by
    unfold s1
    split
    exacts [h.mapPlot, h.mapPlots]
  exact .ite (.wait h) (h.mirrored (fun _ h2 => h2.startReset.begin))

theorem execPlotReset {plot queue : Nat} (h : Onward s t) : Goes s (Machine.execPlotReset plot queue t) :=
  .next (h.runCmd (fun _ _ h1 => .ite (.err h1) h1.resetCommand))

theorem execPlotDestroy {plot queue : Nat} (h : Onward s t) : Goes s (Machine.execPlotDestroy plot queue t) :=
  .next (h.runCmd (fun _ _ h1 => .ite (.err h1) h1.resetCommand))

theorem execQueueDestroy {plot queue : Nat} (h : Onward s t) : Goes s (Machine.execQueueDestroy plot queue t) :=
  .next (h.runCmd (fun _ _ h1 => .ite (.err h1) (.ite (.err h1) h1.resetCommand)))

theorem endSessions {r : ResetRun} (h : Onward s t) : Onward s (t.endSessions r) := by
  unfold State.endSessions
  extract_lets _ s1
  have h1 : Onward s s1 := .foldl h fun _ _ h20 => h20.endGone
  exact h1.mapEth

theorem eraseGroups {plot : Nat} (h : Onward s t) : Onward s (t.eraseGroups plot) := by
  unfold State.eraseGroups
  extract_lets _ s1
  have h1 : Onward s s1 := h.mapCipher
  exact .foldl h1 fun _ _ h2 => h2.setBit

theorem resetObject {r : ResetRun} (h : Onward s t) : Onward s (t.resetObject r) := by
  unfold State.resetObject
  extract_lets s1 s2 s3 s4
  have h1 : Onward s s1 := h.count
  have h2 : Onward s s2 := h1.mapThresher
  have h3 : Onward s s3 := h2.invalidate
  have h4 : Onward s s4 := h3.mapPlots
  split
  exacts [h.mapPlots.mapSteward, .ite h2.eraseGroups.removePlot h4.mapPlot]

theorem resetCopy {r : ResetRun} {own : Bool} (h : Onward s t) : Onward s (t.resetCopy r own) := by
  unfold State.resetCopy
  refine .ite h ?_
  split
  exacts [h.mirrorSend, h.mirrorSend]

theorem endReset {r : ResetRun} (h : Onward s t) : Onward s (t.endReset r) := by
  unfold State.endReset
  extract_lets _ s1 _ _ s2 s3 s4
  have h1 : Onward s s1 := h.endSessions
  have h2 : Onward s s2 := h1.freeLocks
  have h3 : Onward s s3 := h2.mapPlots
  have h4 : Onward s s4 := h3.resetObject.resetCopy
  split
  exacts [h4.replyOk, h4]

theorem execPlotResetDrainDone {plot : Nat} (h : Onward s t) : Goes s (Machine.execPlotResetDrainDone plot t) := by
  unfold Machine.execPlotResetDrainDone
  refine .next ?_
  split
  exacts [.ite h h.endReset, h]

theorem loadAway {plot pa : Nat} {d : List Byte} (h : Onward s t) : Onward s (t.loadAway plot pa d) := by
  unfold State.loadAway
  exact .foldl h fun _ _ h1 => h1.sendRecord

theorem loadAnswered (h : Onward s t) : Replies s t.loadAnswered := by
  unfold State.loadAnswered
  exact .ite (.wait h) (.ite (.err h.mapUnit) (.ok h))

theorem execLibLoad {plot queue : Nat} (h : Onward s t) : Goes s (Machine.execLibLoad plot queue t) := by
  unfold Machine.execLibLoad
  refine .next (h.runChecked (fun _ _ h1 => ?_))
  split
  exacts [.err h1, .ite h1.loadAnswered (.ite (.err h1) (.ite h1.loadAway.begin (.ok h1.agentStore)))]

theorem execLibSetEntry {plot queue : Nat} (h : Onward s t) : Goes s (Machine.execLibSetEntry plot queue t) :=
  .next (h.runCmd (fun _ _ h1 => .ite (.err h1) (h1.changePlot (fun _ h2 => .foldl h2 fun _ _ h3 => h3.setLibEntry))))

theorem installExec {n : Nat} (h : Onward s t) (hr : t.installExec n = some r) : Onward s r := by
  obtain ⟨_, -, hm⟩ := Option.bind_eq_some_iff.mp hr
  obtain ⟨_, hp, rfl⟩ := Option.map_eq_some_iff.mp hm
  exact (h.mapPlot.placeImage hp).extendMeas

theorem execExecLoad {plot queue : Nat} (h : Onward s t) : Goes s (Machine.execExecLoad plot queue t) := by
  unfold Machine.execExecLoad
  refine .next (h.runCmd fun c _ h1 => .ite (.err h1) (.ite (.err h1) (.ite (.ok h1.mapPlot) (.ite (.err h1) ?_))))
  exact h1.changePlot fun _ h2 => h2.getD fun _ hr => h2.mapPlot.installExec hr

/-! ## Machine/DebugMem -/

theorem nextMaddr (h : Onward s t) : Onward s t.nextMaddr := h.setReg64

theorem mdataError (h : Onward s t) : Onward s t.mdataError := h.setBit.nextMaddr

theorem readMdata {m : Master} (h : Onward s t) : Onward s (t.readMdata m).1 := by
  unfold State.readMdata
  extract_lets _
  refine .ite1 (.pair h.setBit) (.ite1 (.pair h.logAnswer.mdataError) ?_)
  split
  · exact .pair h.strongDeny.mdataError
  · split
    exacts [.pair h.readPlain.nextMaddr, .ite1 (.pair h.mdataError) (.pair h.nextMaddr)]

theorem writeMdata {m : Master} {v : Word} (h : Onward s t) : Onward s (t.writeMdata m v) := by
  unfold State.writeMdata
  extract_lets _
  refine .ite h.setBit (.ite h.logAnswer.mdataError ?_)
  split
  · exact h.strongDeny.nextMaddr
  · split
    exacts [h.writePlain.nextMaddr, h.agentStore.nextMaddr]

theorem ctlRead {m : Master} {off : Nat} (h : Onward s t) : Onward s (t.ctlRead m off).1 := by
  unfold State.ctlRead
  exact .ite1 (.pair h) (.ite1 (.pair h.dbgRefuse) (.ite1 h.readMdata (.ite1 (.pair h.dbgRefuse) h.readPlain)))

theorem ctlWrite {m : Master} {off : Nat} {v : Word} (h : Onward s t) : Onward s (t.ctlWrite m off v) := by
  unfold State.ctlWrite
  exact .ite h (.ite h.dbgRefuse (.ite h.writeMdata (.ite h.dbgRefuse h.writePlain)))

theorem execRegisterWrite {m : Master} {off : Nat} {v : Word} (h : Onward s t) :
    Goes s (Machine.execRegisterWrite m off v t) :=
  .next h.ctlWrite

theorem answered {x : State × Word} (h : Onward s x.1) : Onward s (State.answered x) := h.answerRead

theorem execRegPairLoRead {m : Master} {off : Nat} (h : Onward s t) : Goes s (Machine.execRegPairLoRead m off t) :=
  .next h.ctlRead.answered

theorem execRegPairHiRead {m : Master} {off : Nat} (h : Onward s t) : Goes s (Machine.execRegPairHiRead m off t) := by
  unfold Machine.execRegPairHiRead
  extract_lets p1
  have h1 : Onward s p1.1 := h.ctlRead
  exact .next h1.answerRead

theorem execRegPairLoWrite {m : Master} {off : Nat} {v : Word} (h : Onward s t) :
    Goes s (Machine.execRegPairLoWrite m off v t) :=
  .next h.ctlWrite

theorem execRegPairHiWrite {m : Master} {off : Nat} {v : Word} (h : Onward s t) :
    Goes s (Machine.execRegPairHiWrite m off v t) :=
  .next h.ctlWrite

theorem execDbgMdataRead {m : Master} (h : Onward s t) : Goes s (Machine.execDbgMdataRead m t) := .next h.ctlRead.answered

theorem execDbgMdataWrite {m : Master} {v : Word} (h : Onward s t) : Goes s (Machine.execDbgMdataWrite m v t) :=
  .next h.ctlWrite

theorem evralMove {oper addr : Nat} {v : Word} {crcOk : Bool} (h : Onward s t) :
    Onward s (t.evralMove oper addr v crcOk) := by
  unfold State.evralMove
  extract_lets _ _ s1 p2
  have h1 : Onward s s1 := h.emit
  have h2 : Onward s p2.1 := .ite1 h.ctlRead (.pair h)
  refine .ite h.mapEvral.emit (.ite h.emit ?_)
  split
  exacts [h.setBit.emit, .ite (.ite h1.setBit.mapEvral (.ite h1.ctlWrite h1.badw)) h2.emit.emit]

theorem execEvralTransfer {sync dcrc : Nat} {head : EvralHead} {v : Word} (h : Onward s t) :
    Goes s (Machine.execEvralTransfer sync head v dcrc t) :=
  .next (.ite h h.evralMove)

/-! ## Machine/Admin -/

theorem execGetInfo {plot queue : Nat} (h : Onward s t) : Goes s (Machine.execGetInfo plot queue t) :=
  .next (h.runCmd (fun _ _ h1 => .ok h1))

theorem readRegs {offs : List Nat} (h : Onward s t) : Onward s (t.readRegs offs).1 := by
  unfold State.readRegs
  exact .foldl1 (.pair h) fun _ _ h1 => .pair h1.ctlRead

theorem execRegRead {plot queue : Nat} (h : Onward s t) : Goes s (Machine.execRegRead plot queue t) :=
  .next (h.runCmd (fun _ _ h1 => .ok h1.readRegs))

theorem execRegWrite {plot queue : Nat} (h : Onward s t) : Goes s (Machine.execRegWrite plot queue t) :=
  .next (h.runCmd (fun _ _ h1 => .ok h1.ctlWrite.readRegs))

theorem execAlmanacRead {plot queue : Nat} (h : Onward s t) : Goes s (Machine.execAlmanacRead plot queue t) :=
  .next (h.runCmd (fun _ _ h1 => .ite (.err h1) (.wait h1.replyParts)))

theorem execGleanerRead {plot queue : Nat} (h : Onward s t) : Goes s (Machine.execGleanerRead plot queue t) :=
  .next (h.runCmd (fun _ _ h1 => .ite (.err h1) (.ok h1)))

theorem execGleanerClear {plot queue : Nat} (h : Onward s t) : Goes s (Machine.execGleanerClear plot queue t) := by
  unfold Machine.execGleanerClear
  refine .next (h.runCmd fun _ _ h1 => ?_)
  split
  case h_1 he => exact .ok (h1.gleanClear.fst he)
  case h_2 he => exact .err (h1.gleanClear.fst he)
  case h_3 he => exact .err (h1.gleanClear.fst he)

theorem arbitrate (h : Onward s t) : Onward s t.arbitrate := by
  unfold State.arbitrate
  extract_lets p1 s2
  have h1 : Onward s p1.1 := h.newOp
  have h2 : Onward s s2 := .foldl h1 fun _ _ h21 => h21.arbCmd
  exact h2.issueAcquire.issueReport

theorem pairWith {c : FwCmd} {plain : List Byte} {k : KeySlot} (h : Onward s t) : Onward s (t.pairWith c plain k) := by
  unfold State.pairWith
  extract_lets _ _ s1 s2 s3 s4
  have h1 : Onward s s1 := h.forgetSheafKeys.fillSlot
  have h2 : Onward s s2 := h1.mapMram
  have h3 : Onward s s3 := h2.setReg.setReg
  have h4 : Onward s s4 := h3.mapTwin
  exact h4.rejoin.arbitrate

theorem execTwinPair {plot queue : Nat} {common : Bool} (h : Onward s t) :
    Goes s (Machine.execTwinPair plot queue common t) := by
  unfold Machine.execTwinPair
  refine .next (h.runChecked (fun _ _ h1 => .ite (.ite (.ok h1) (.wait h1)) (.ite (.err h1) (.ite (.err h1) ?_))))
  split
  · exact .err h1
  · split
    · exact .err h1
    · split
      exacts [.err h1, .ite (.err h1) h1.pairWith.begin]

theorem execTwinUnpair {plot queue : Nat} (h : Onward s t) : Goes s (Machine.execTwinUnpair plot queue t) :=
  .next (h.runCmd (fun _ _ h1 => .ite (.ite (.ok h1) (.ite (.wait h1) (.err h1))) (.ite h1.mapTwin.begin (.err h1))))

theorem execTwinReturn {plot queue : Nat} (h : Onward s t) : Goes s (Machine.execTwinReturn plot queue t) :=
  .next (h.runCmd (fun _ _ h1 => .ite (.ok h1.setBit) (.ite (.ok h1.returnNowOp) (.err h1))))

theorem execTwinStatus {plot queue : Nat} (h : Onward s t) : Goes s (Machine.execTwinStatus plot queue t) :=
  .next (h.runCmd (fun _ _ h1 => .ok h1))

theorem changeRole {c : FwCmd} {p before during after : Nat} (h : Onward s t) :
    Replies s (t.changeRole c p before during after) := by
  unfold State.changeRole
  extract_lets _
  exact .ite (.ite (.ok h) (.ite (.wait h) (.err h))) (.ite h.setRole.begin (.err h))

theorem execPairSplit {plot queue : Nat} (h : Onward s t) : Goes s (Machine.execPairSplit plot queue t) :=
  .next (h.runCmd (fun _ _ h1 => h1.changeRole))

theorem execPairRejoin {plot queue : Nat} (h : Onward s t) : Goes s (Machine.execPairRejoin plot queue t) :=
  .next (h.runCmd (fun _ _ h1 => h1.changeRole))

theorem spareActive {c : FwCmd} {p : Nat} (h : Onward s t) : Replies s (t.spareActive c p) := by
  unfold State.spareActive
  extract_lets _
  exact .ite (.ok h) (.ite (.ite (.wait h) h.mapPair.begin) (.err h))

theorem execSpareSet {plot queue : Nat} (h : Onward s t) : Goes s (Machine.execSpareSet plot queue t) :=
  .next (h.runCmd (fun _ _ h1 => .ite h1.spareActive (.ite (.ok h1) h1.changeRole)))

theorem execPairReserve {plot queue : Nat} (h : Onward s t) : Goes s (Machine.execPairReserve plot queue t) :=
  .next (h.runCmd (fun _ _ h1 => .ite (.err h1) (.ok h1.writeSowPair)))

theorem boundSlot (h : Onward s t) : Replies s t.boundSlot := .err h.setBit

theorem slotFrame {tag n plot : Nat} {k : Option KeySlot} (h : Onward s t) : Onward s (t.slotFrame tag n plot k) := by
  unfold State.slotFrame
  split
  exacts [h.sendKeyOf, h.mirrorSend]

theorem changeSlot {c : FwCmd} {n : Nat} {k : Option KeySlot} (h : Onward s t) : Replies s (t.changeSlot c n k) := by
  unfold State.changeSlot
  extract_lets _ s1
  have h1 : Onward s s1 := h.slotFrame.mapTwin
  refine .ite (.wait h1.setCmd) (.ok ?_)
  split
  exacts [h.fillSlot, h.eraseSlot]

theorem execKeyUnwrap {plot queue : Nat} (h : Onward s t) : Goes s (Machine.execKeyUnwrap plot queue t) := by
  unfold Machine.execKeyUnwrap
  refine .next (h.runCmd (fun _ _ h1 => .ite h1.boundSlot ?_))
  split
  · exact .err h1
  · split
    exacts [.err h1, h1.changeSlot]

theorem execKeyErase {plot queue : Nat} (h : Onward s t) : Goes s (Machine.execKeyErase plot queue t) :=
  .next (h.runCmd (fun _ _ h1 => .ite h1.boundSlot h1.changeSlot))

theorem execMacsecSaSet {plot queue : Nat} (h : Onward s t) : Goes s (Machine.execMacsecSaSet plot queue t) :=
  .next (h.runChecked (fun _ _ h1 => .ok h1.mapEth))

theorem execMacsecSaClear {plot queue : Nat} (h : Onward s t) : Goes s (Machine.execMacsecSaClear plot queue t) :=
  .next (h.runChecked (fun _ _ h1 => .ok h1.mapEth))

theorem setPath {v : List Byte} (h : Onward s t) : Onward s (t.setPath v) := by
  unfold State.setPath
  extract_lets _ _ s1
  have h1 : Onward s s1 := by
    unfold s1
    split
    exacts [.ite h.failPath h, h]
  exact .ite h h1.mapFurrow

theorem execPathSet {plot queue : Nat} (h : Onward s t) : Goes s (Machine.execPathSet plot queue t) :=
  .next (h.runChecked (fun _ _ h1 => .ok h1.setPath))

theorem execPathGet {plot queue : Nat} (h : Onward s t) : Goes s (Machine.execPathGet plot queue t) := by
  unfold Machine.execPathGet
  refine .next (h.runCmd (fun _ _ h1 => ?_))
  split
  · exact .ok h1
  · split
    exacts [.ok h1, .err h1]

theorem execTickSet {plot queue : Nat} (h : Onward s t) : Goes s (Machine.execTickSet plot queue t) :=
  .next (h.runChecked (fun _ _ h1 => .ok h1.ctlWrite.ctlWrite.readRegs))

/-! ## Machine/Loads -/

theorem loadControl {u sp ea off : Nat} {p : Place} (h : Onward s t) : Loads s (t.loadControl u sp ea off p) := by
  unfold State.loadControl
  extract_lets _ p1
  have h1 : Onward s p1.1 := h.ctlRead
  exact .ite (.of_wait h) (.ite h.loadFault (.of_got h1))

theorem loadBytes {u sp ea n : Nat} {p : Place} {pe : Bool} (h : Onward s t) : Loads s (t.loadBytes u sp ea n p pe) := by
  unfold State.loadBytes
  split
  exacts [h.loadControl, h.loadPlace]

theorem load {u sp ea n : Nat} {k : AccKind} {pe : Bool} {f : State → Place → List Byte → Eff} (h : Onward s t)
    (hf : ∀ r p b, Onward s r → Concludes s (f r p b)) : Concludes s (t.load u sp ea n k pe f) := by
  unfold State.load
  split
  case h_1 he => exact h.place he
  case h_2 =>
    split
    case h_1 hl => exact hf _ _ _ (h.loadBytes.got hl).useUp
    case h_2 hl => exact .hold (h.loadBytes.wait hl)
    case h_3 hl => exact .exc (h.loadBytes.exc hl)

theorem loadReg {u n : Nat} {f : MemF} {pe : Bool} {ext : Nat → Word} (h : Onward s t) :
    Onward s (t.loadReg u f n pe ext) :=
  h.execute fun _ h1 => h1.load fun _ _ _ h2 => .done h2.mapArch

theorem execLdb {u : Nat} {f : MemF} {pe : Bool} (h : Onward s t) : Goes s (Machine.execLdb u f pe t) := .next h.loadReg

theorem execLdbs {u : Nat} {f : MemF} {pe : Bool} (h : Onward s t) : Goes s (Machine.execLdbs u f pe t) := .next h.loadReg

theorem execLdh {u : Nat} {f : MemF} {pe : Bool} (h : Onward s t) : Goes s (Machine.execLdh u f pe t) := .next h.loadReg

theorem execLdhs {u : Nat} {f : MemF} {pe : Bool} (h : Onward s t) : Goes s (Machine.execLdhs u f pe t) := .next h.loadReg

theorem execLdw {u : Nat} {f : MemF} {pe : Bool} (h : Onward s t) : Goes s (Machine.execLdw u f pe t) := .next h.loadReg

theorem execFlds {u : Nat} {f : MemF} {pe : Bool} (h : Onward s t) : Goes s (Machine.execFlds u f pe t) :=
  .next (h.execute (fun _ h1 => h1.load (fun _ _ _ h2 => .done h2.mapArch)))

theorem execLdl {u : Nat} {f : MemF} {pe : Bool} (h : Onward s t) : Goes s (Machine.execLdl u f pe t) :=
  .next (h.execute (fun _ h1 => h1.load (fun _ _ _ h2 => .done h2.mapArch)))

theorem loadEight {u : Nat} {f : MemF} {pe : Bool} {g : Arch → List Byte → Arch} (h : Onward s t) :
    Concludes s (t.loadEight u f pe g) := by
  unfold State.loadEight
  extract_lets sp ea done
  have hdone {r : State} (b : List Byte) (hr : Onward s r) : Concludes s (done r b) := .done hr.useUp.mapArch
  split
  case h_1 he => exact h.place he
  case h_2 =>
    refine .ite ?_ ?_
    · split
      case h_1 hl => exact hdone _ (h.loadBytes.got hl)
      case h_2 hl => exact .hold (h.loadBytes.wait hl)
      case h_3 hl => exact .exc (h.loadBytes.exc hl)
    · split
      case h_1 hl => exact .hold (h.loadBytes.wait hl)
      case h_2 hl => exact .exc (h.loadBytes.exc hl)
      case h_3 hl =>
        have hfirst := h.loadBytes.got hl
        split
        case h_1 hl => exact hdone _ (hfirst.loadBytes.got hl)
        case h_2 hl => exact .hold (hfirst.loadBytes.wait hl)
        case h_3 hl => exact .exc (hfirst.loadBytes.exc hl)

theorem execLdp {u : Nat} {f : MemF} {pe : Bool} (h : Onward s t) : Goes s (Machine.execLdp u f pe t) :=
  .next (h.execute (fun _ h1 => h1.loadEight))

theorem execFldd {u : Nat} {f : MemF} {pe : Bool} (h : Onward s t) : Goes s (Machine.execFldd u f pe t) :=
  .next (h.execute (fun _ h1 => h1.loadEight))

theorem rangePlaces {u : Nat} {l : List StoreRange} {e : Eff} (h : Onward s t)
    (he : t.rangePlaces u l = .error e) : Concludes s e := by
  induction l with
  | nil => cases he
  | cons a l ih =>
    unfold State.rangePlaces at he
    split at he
    case h_1 hp =>
      cases he
      exact h.place hp
    case h_2 =>
      split at he
      · cases he
        exact .exc h
      · split at he
        case h_1 hl =>
          cases he
          exact ih hl
        case h_2 => cases he

theorem storeRanges {u : Nat} {l : List StoreRange} {f : State → Eff} (h : Onward s t)
    (hf : ∀ r, Onward s r → Concludes s (f r)) : Concludes s (t.storeRanges u l f) := by
  unfold State.storeRanges
  extract_lets l'
  split
  case h_1 he => exact h.rangePlaces he
  case h_2 =>
    extract_lets journal parts
    split
    exacts [.ite (.ended h.captureRefused) (.hold h),
      .ite (.hold h) (hf _ (.foldl h fun _ _ h1 => h1.pushStore))]

theorem dropStore {sc : Scope} {b : BufStore} (h : Onward s t) : Onward s (t.dropStore sc b) := by
  unfold State.dropStore
  split
  exacts [h.mapUnit, h.mapPair, h.mapCluster]

theorem storeError {sc : Scope} {b : BufStore} {st : WarpStatus} (h : Onward s t) : Onward s (t.storeError sc b st) := by
  unfold State.storeError
  extract_lets _ _ s1
  have h1 : Onward s s1 := h.logAnswer
  exact h1.dropStore.mapUnit

theorem storeToPair {u : Nat} (h : Onward s t) : Onward s (t.storeToPair u) := by
  unfold State.storeToPair
  split
  exacts [h, ((Onward.dropStore (.ite h.captureStore h)).mapPair).breakLinks]

theorem allocateLine {c pa : Nat} (h : Onward s t) : Onward s (t.allocateLine c pa) := by
  unfold State.allocateLine
  refine .ite h ?_
  split
  · exact h
  · extract_lets s1 s2
    have h1 : Onward s s1 := .ite h.setFld h
    have h2 : Onward s s2 := by
      unfold s2
      split
      exacts [h1.dropLine, h1]
    exact h2.putLine

theorem storeLines {c : Nat} {b : BufStore} (h : Onward s t) : Onward s (t.storeLines c b).1 := by
  unfold State.storeLines
  extract_lets _ s1
  have h1 : Onward s s1 := .foldl h fun _ _ h20 => h20.allocateLine
  split
  exacts [.pair (.ite h h.startFill), .ite1 (.pair h1.setBit) (.pair (.foldl h1 fun _ _ h2 => h2.dirtyLine))]

theorem storeToCluster {u : Nat} {b : BufStore} (h : Onward s t) : Onward s (t.storeToCluster u b) := by
  unfold State.storeToCluster
  extract_lets _ _ p1
  have h1 : Onward s p1.1 := h.storeLines
  exact .ite (.ite h1.dropStore.mapCluster.breakLinks h1) h.dropStore.mapCluster.breakLinks

theorem storeSeen {c : Nat} {b : BufStore} (h : Onward s t) : Onward s (t.storeSeen c b) := h.memStore.breakLinks

theorem storeScratch {c : Nat} {b : BufStore} (h : Onward s t) : Onward s (t.storeScratch c b) := by
  unfold State.storeScratch
  split
  exacts [h.storeSeen, .ite h.strongDeny (.ite h h.storeSeen)]

theorem storeRemote {b : BufStore} (h : Onward s t) : Onward s (t.storeRemote b) := by
  unfold State.storeRemote
  extract_lets s1
  have h1 : Onward s s1 := h.sendRecord
  exact .ite h1.mapUnit h1

theorem storeToDevice {u : Nat} {b : BufStore} (h : Onward s t) : Onward s (t.storeToDevice u b) := by
  unfold State.storeToDevice
  extract_lets _ p1
  have h1 : Onward s p1.1 := .ite1 (.pair h) h.storeLines
  split
  exacts [.ite h1.dropStore.storeSeen h1, .ite h1.dropStore.storeSeen h1, h.dropStore.storeScratch,
    h.dropStore.dropCopies.storeSeen, h.dropStore.ctlWrite, h.dropStore.storeRemote]

theorem execStoreDrain {u : Nat} {at_ : Scope} {r : WarpStatus} (h : Onward s t) :
    Goes s (Machine.execStoreDrain u at_ r t) := by
  unfold Machine.execStoreDrain
  extract_lets _
  refine .next ?_
  split
  · exact h.storeToPair
  · split
    exacts [h, .ite h (.ite h.storeError h.storeToCluster)]
  · split
    exacts [h, .ite h (.ite h.storeError h.storeToDevice)]

/-! ## Machine/Packed -/

theorem areaBytes_error {u sp : Nat} {l : List Area} {e : Eff} (h : Onward s t)
    (he : t.areaBytes u sp l = .error e) : Concludes s e := by
  induction l generalizing t with
  | nil => cases he
  | cons a l ih =>
    unfold State.areaBytes at he
    split at he
    case h_1 hp =>
      cases he
      exact h.place hp
    case h_2 =>
      split at he
      case h_1 hl =>
        cases he
        exact .hold (h.loadBytes.wait hl)
      case h_2 hl =>
        cases he
        exact .exc (h.loadBytes.exc hl)
      case h_3 hl =>
        split at he
        case h_1 hr =>
          cases he
          exact ih (h.loadBytes.got hl) hr
        case h_2 => cases he

theorem areaBytes_ok {u sp : Nat} {l : List Area} {x : State × List (List Byte)} (h : Onward s t)
    (hx : t.areaBytes u sp l = .ok x) : Onward s x.1 := by
  induction l generalizing t x with
  | nil =>
    cases hx
    exact h
  | cons a l ih =>
    unfold State.areaBytes at hx
    split at hx
    · cases hx
    · split at hx
      · cases hx
      · cases hx
      case h_3 hl =>
        split at hx
        · cases hx
        case h_2 hr =>
          cases hx
          have hrest := ih (h.loadBytes.got hl) hr
          exact hrest

theorem overAreas {u sp : Nat} {src : List Area} {f : State → List (List Byte) → Eff} (h : Onward s t)
    (hf : ∀ r b, Onward s r → Concludes s (f r b)) : Concludes s (t.overAreas u sp src f) := by
  unfold State.overAreas
  split
  case h_1 he => exact h.areaBytes_error he
  case h_2 hr => exact hf _ _ (h.areaBytes_ok hr).useUp

theorem endDec {u dcc : Nat} (h : Onward s t) : Concludes s (t.endDec u dcc) := .done h.mapArch

theorem decArith {u : Nat} {f : OpsF} {g : Dec → Dec → Dec} (h : Onward s t) : Onward s (t.decArith u f g) := by
  unfold State.decArith
  refine h.execute (fun _ h1 => h1.overAreas (fun _ _ h2 => ?_))
  split
  exacts [h2.storeRanges (fun _ h3 => h3.endDec), h2.endDec]

theorem execAddp {u : Nat} {f : OpsF} (h : Onward s t) : Goes s (Machine.execAddp u f t) := .next h.decArith

theorem execSubp {u : Nat} {f : OpsF} (h : Onward s t) : Goes s (Machine.execSubp u f t) := .next h.decArith

theorem execMulp {u : Nat} {f : OpsF} (h : Onward s t) : Goes s (Machine.execMulp u f t) := .next h.decArith

theorem execCmpp {u : Nat} {f : OpsF} (h : Onward s t) : Goes s (Machine.execCmpp u f t) := by
  unfold Machine.execCmpp
  refine .next (h.execute (fun _ h1 => h1.overAreas (fun _ _ h2 => ?_)))
  split
  exacts [h2.mapArch.endDec, h2.endDec]

theorem execCvtbp {u : Nat} {f : OpsF} (h : Onward s t) : Goes s (Machine.execCvtbp u f t) :=
  .next (h.execute (fun _ h1 => h1.storeRanges (fun _ h2 => h2.endDec)))

theorem execCvtpb {u : Nat} {f : OpsF} (h : Onward s t) : Goes s (Machine.execCvtpb u f t) := by
  unfold Machine.execCvtpb
  refine .next (h.execute (fun _ h1 => h1.overAreas (fun _ _ h2 => ?_)))
  split
  exacts [h2.mapArch.endDec, h2.endDec]

theorem execCvtpz {u : Nat} {f : OpsF} (h : Onward s t) : Goes s (Machine.execCvtpz u f t) := by
  unfold Machine.execCvtpz
  refine .next (h.execute (fun _ h1 => h1.overAreas (fun _ _ h2 => ?_)))
  split
  exacts [h2.storeRanges (fun _ h3 => h3.endDec), h2.endDec]

theorem execCvtzp {u : Nat} {f : OpsF} (h : Onward s t) : Goes s (Machine.execCvtzp u f t) := by
  unfold Machine.execCvtzp
  refine .next (h.execute (fun _ h1 => h1.overAreas (fun _ _ h2 => ?_)))
  split
  exacts [h2.storeRanges (fun _ h3 => h3.endDec), h2.endDec]

theorem divFirst {u sp : Nat} {d : DivAreas} {ba bb : List Byte} (h : Onward s t) :
    Concludes s (t.divFirst u sp d ba bb) := by
  unfold State.divFirst
  extract_lets _
  split
  exacts [.ite h.endDec (.ite (h.storeRanges (fun _ h1 => h1.endDec)) (.ite (h.storeRanges (fun _ h1 => h1.endDec))
    (h.storeRanges (fun _ h1 => .part h1.mapArch)))), h.endDec]

theorem divLater {u sp : Nat} {d : DivAreas} {ba bb bq : List Byte} (h : Onward s t) :
    Concludes s (t.divLater u sp d ba bb bq) := by
  unfold State.divLater
  extract_lets _
  split
  exacts [.ite (Onward.storeRanges (.ite h.drawn h) (fun _ h1 => .done h1)) (Onward.storeRanges (.ite h.drawn h)
    (fun _ h1 => .part h1)), h.endDec]

theorem execDivp {u : Nat} {f : OpsF} (h : Onward s t) : Goes s (Machine.execDivp u f t) := by
  unfold Machine.execDivp
  extract_lets _
  exact .next (h.execute (fun _ h1 => .ite (h1.overAreas (fun _ _ h2 => h2.divLater)) (h1.overAreas (fun _ _ h2 =>
    h2.divFirst))))

/-! ## Machine/Blocks -/

theorem unitOf {last : Bool} (h : Onward s t) : Concludes s (Eff.unitOf t last) := by
  unfold Eff.unitOf
  exact .ite (.done h) (.part h)

theorem readBlock {u sp ea n : Nat} {f : State → List Byte → Eff} (h : Onward s t)
    (hf : ∀ r b, Onward s r → Concludes s (f r b)) : Concludes s (t.readBlock u sp ea n f) := by
  unfold State.readBlock
  split
  case h_1 he => exact h.place he
  case h_2 =>
    split
    case h_1 hl => exact .hold (h.loadBytes.wait hl)
    case h_2 hl => exact .exc (h.loadBytes.exc hl)
    case h_3 hl => exact hf _ _ (h.loadBytes.got hl).useUp

theorem moveBlock {u : Nat} {f : OpsF} (h : Onward s t) : Concludes s (t.moveBlock u f) := by
  unfold State.moveBlock
  extract_lets _
  exact .ite (.done h) (h.readBlock (fun _ _ h1 => h1.storeRanges (fun _ h2 => h2.setRegs.unitOf)))

theorem execBmov {u : Nat} {f : OpsF} (h : Onward s t) : Goes s (Machine.execBmov u f t) :=
  .next (h.execute (fun _ h1 => h1.moveBlock))

theorem fillBlock {u : Nat} {f : OpsF} (h : Onward s t) : Concludes s (t.fillBlock u f) := by
  unfold State.fillBlock
  extract_lets _
  exact .ite (.done h) (h.storeRanges (fun _ h1 => h1.setRegs.unitOf))

theorem execBfill {u : Nat} {f : OpsF} (h : Onward s t) : Goes s (Machine.execBfill u f t) :=
  .next (h.execute (fun _ h1 => h1.fillBlock))

theorem compressUnit {u : Nat} {f : OpsF} (h : Onward s t) : Concludes s (t.compressUnit u f) := by
  unfold State.compressUnit
  extract_lets _
  exact .ite (h.storeRanges (fun _ h1 => h1.setRegs.unitOf)) (h.readBlock (fun _ _ h1 => h1.storeRanges (fun _ h2 =>
    h2.setRegs.unitOf)))

theorem execCblk {u : Nat} {f : OpsF} (h : Onward s t) : Goes s (Machine.execCblk u f t) :=
  .next (h.execute (fun _ h1 => h1.compressUnit))

/-! ## Machine/Boot -/

theorem fallBack {kind : Nat} (h : Onward s t) : Onward s (t.fallBack kind) := h.setBit.setBit

theorem pickImage {kind : Nat} {images : List (Nat × List Byte)} (h : Onward s t) :
    Onward s (t.pickImage kind images).1 := by
  unfold State.pickImage
  extract_lets _ a
  split
  exacts [.pair h, .pair h, .pair h.fallBack]

theorem accepted {kind : Nat} {b : List Byte} (h : Onward s t) : Onward s (t.accepted kind b) := h.extendMeas.mapBoot

theorem deriveAttest (h : Onward s t) : Onward s t.deriveAttest := h.fillSlot

theorem numberBoot (h : Onward s t) : Onward s t.numberBoot := by
  unfold State.numberBoot
  extract_lets _
  exact h.mapBoot.setReg64

theorem writeRecord {failed : Bool} (h : Onward s t) : Onward s (t.writeRecord failed) := by
  unfold State.writeRecord
  extract_lets s1 s2 _ _ s3 _ _ s4
  have h1 : Onward s s1 := .ite h.deriveAttest h
  have h2 : Onward s s2 := .ite h1.numberBoot h1
  have h3 : Onward s s3 := h2.chargeSlot
  have h4 : Onward s s4 := h3.mapMram
  exact h4.mapBoot

theorem atStage {n : Nat} (h : Onward s t) : Onward s (t.atStage n) := h.setFld

theorem bootFail {stage err : Nat} {mramOk : Bool} (h : Onward s t) : Onward s (t.bootFail stage err mramOk) := by
  unfold State.bootFail
  extract_lets s1 s2
  have h1 : Onward s s1 := h.atStage.setFld.setBit
  have h2 : Onward s s2 := .ite h1.writeRecord h1
  exact h2.mapBoot.event

theorem thenStage {n : Nat} (h : Onward s t) : Onward s (t.thenStage n) := h.mapBoot

theorem measureDevice (h : Onward s t) : Onward s t.measureDevice := by
  unfold State.measureDevice
  extract_lets s1 s2
  have h1 : Onward s s1 := h.mapBoot
  have h2 : Onward s s2 := h1.extendMeas
  exact .ite h2.extendMeas h2

theorem bootRom {i : StageInput} (h : Onward s t) : Onward s (t.bootRom i) := by
  unfold State.bootRom
  extract_lets s1
  have h1 : Onward s s1 := h.atStage.measureDevice
  exact .ite h1.bootFail h1.thenStage

theorem bootKeys (h : Onward s t) : Onward s t.bootKeys := by
  unfold State.bootKeys
  extract_lets s1 s2
  have h1 : Onward s s1 := h.deriveAttest.numberBoot
  have h2 : Onward s s2 := .ite h1 h1.setBit.mapBoot
  exact h2.thenStage

theorem stewardRuns (h : Onward s t) : Onward s t.stewardRuns := h.mapUnit

theorem bootFirmware {i : StageInput} (h : Onward s t) : Onward s (t.bootFirmware i) := by
  unfold State.bootFirmware
  extract_lets s1
  have h1 : Onward s s1 := h.atStage
  split
  case h_1 he => exact (h1.pickImage.fst he).accepted.stewardRuns.thenStage
  case h_2 he => exact (h1.pickImage.fst he).bootFail

theorem passedRole {p : Nat} (h : Onward s t) : Onward s (t.passedRole p) := by
  unfold State.passedRole
  exact .ite h.setRole.mapMram h.setRole

theorem testPair {bad : List (Nat × Nat)} {p : Nat} (h : Onward s t) : Onward s (t.testPair bad p) := by
  unfold State.testPair
  extract_lets s1
  have h1 : Onward s s1 := h.setBit
  split
  exacts [h1.setBit.setFld.setRetired.event, h1.passedRole]

theorem bootPairs {i : StageInput} (h : Onward s t) : Onward s (t.bootPairs i) :=
  Onward.thenStage (.foldl h fun _ _ h1 => h1.testPair)

theorem loadAtBoot {img : List Byte} {bad : List Nat} {p : Nat} (h : Onward s t) : Onward s (t.loadAtBoot img bad p) := by
  unfold State.loadAtBoot
  extract_lets s1
  have h1 : Onward s s1 := .ite h h.loadPair
  exact .ite h (.ite h1 h1.setRetired.event)

theorem enableThresher (h : Onward s t) : Onward s t.enableThresher := h.setBit.setBit

theorem bootTables {i : StageInput} (h : Onward s t) : Onward s (t.bootTables i) := by
  unfold State.bootTables
  extract_lets s1
  have h1 : Onward s s1 := h.atStage
  split
  case h_1 he => exact (h1.pickImage.fst he).accepted.enableThresher.thenStage
  case h_2 he => exact (h1.pickImage.fst he).bootFail

theorem bootMicrocode {i : StageInput} (h : Onward s t) : Onward s (t.bootMicrocode i) := by
  unfold State.bootMicrocode
  extract_lets s1
  have h1 : Onward s s1 := h.atStage
  split
  case h_1 he => exact Onward.bootTables (.foldl (h1.pickImage.fst he).accepted.mapBoot fun _ _ h2 => h2.loadAtBoot)
  case h_2 he => exact (h1.pickImage.fst he).bootFail

theorem applyWrites {l : List (Nat × Word)} (h : Onward s t) : Onward s (t.applyWrites l).1 := by
  induction l generalizing t with
  | nil => exact h
  | cons w l ih => exact .ite1 (.pair h) (ih h.ctlWrite)

theorem restoreCrk (h : Onward s t) : Onward s t.restoreCrk.1 := by
  unfold State.restoreCrk
  extract_lets _
  refine .ite1 (.pair h) ?_
  split
  exacts [.ite1 (.pair h.fillSlot) (.pair h), .pair h]

theorem restoreTwin (h : Onward s t) : Onward s t.restoreTwin.1 := by
  unfold State.restoreTwin
  extract_lets s1
  have h1 : Onward s s1 := Onward.setReg (.ite h h.setReg)
  refine .ite1 (.pair h1) ?_
  split
  exacts [.pair h1.fillSlot, .pair h1]

theorem bootSecrets {i : StageInput} (h : Onward s t) : Onward s (t.bootSecrets i) := by
  unfold State.bootSecrets
  extract_lets _ p1 p2 s3
  have h1 : Onward s p1.1 := .ite1 h.atStage.restoreCrk (.pair h)
  have h2 : Onward s p2.1 := .ite1 h1.restoreTwin h1
  have h3 : Onward s s3 := .ite h2 h2.setNoPartner
  exact .ite h1.bootFail (.ite h2.bootFail h3.thenStage)

theorem applyConfig {c : List Byte} {i : StageInput} (h : Onward s t) : Onward s (t.applyConfig c i) := by
  unfold State.applyConfig
  extract_lets s1 p2
  have h1 : Onward s s1 := h.mapBoot
  have h2 : Onward s p2.1 := h1.ctlWrite.applyWrites
  exact .ite h2.bootFail h2.ctlWrite.bootSecrets

theorem bootConfig {i : StageInput} (h : Onward s t) : Onward s (t.bootConfig i) := by
  unfold State.bootConfig
  extract_lets s1
  have h1 : Onward s s1 := h.atStage
  split
  case h_1 he => exact (h1.pickImage.fst he).accepted.applyConfig
  case h_2 he => exact .ite (h1.pickImage.fst he).bootSecrets (h1.pickImage.fst he).bootFail

theorem trainChannel {n : Nat} {w : Word} (h : Onward s t) : Onward s (t.trainChannel n w) := by
  unfold State.trainChannel
  extract_lets s1
  have h1 : Onward s s1 := h.setReg
  exact .ite h (.ite h1.setBit h1)

theorem zeroDevice (h : Onward s t) : Onward s t.zeroDevice := by
  unfold State.zeroDevice
  extract_lets s1 s2
  have h1 : Onward s s1 := h.filterMem
  have h2 : Onward s s2 := h1.mapMram
  exact h2.mapCipher.mapFurrow

theorem startBlocks (h : Onward s t) : Onward s t.startBlocks := by
  unfold State.startBlocks
  extract_lets _ s1 s2 _ _ s3
  have h1 : Onward s s1 := h.drawn.ctlWrite
  have h2 : Onward s s2 := .ite h1 h1.ctlWrite
  have h3 : Onward s s3 := .ite h2 h2.ctlWrite
  exact .ite h3 h3.ctlWrite

theorem bootMemory {i : StageInput} (h : Onward s t) : Onward s (t.bootMemory i) := by
  unfold State.bootMemory
  extract_lets s1 s2 s3 s4
  have h1 : Onward s s1 := .foldl h.atStage fun _ _ h20 => h20.trainChannel
  have h2 : Onward s s2 := .foldl h1 fun _ _ h21 => h21.setBit
  have h3 : Onward s s3 := h2.mapPower
  have h4 : Onward s s4 := .ite h3.zeroDevice h3
  exact h4.startBlocks.thenStage

theorem measurePlots (h : Onward s t) : Onward s t.measurePlots := by
  unfold State.measurePlots
  extract_lets _ s1
  have h1 : Onward s s1 := .foldl h fun _ _ h20 => h20.extendMeas
  exact h1.extendMeas

theorem restoreAlone (h : Onward s t) : Onward s t.restoreAlone := by
  unfold State.restoreAlone
  extract_lets s1
  have h1 : Onward s s1 := .ite h h.startRestore.mapBoot
  exact .ite h1 h1.setOwn.mapBoot

theorem bootPlots {i : StageInput} (h : Onward s t) : Onward s (t.bootPlots i) := by
  unfold State.bootPlots
  extract_lets s1 s2 s3
  have h1 : Onward s s1 := h.atStage
  have h2 : Onward s s2 := h1.installHeadland
  have h3 : Onward s s3 := .ite h2 h2.restoreAlone
  exact .ite h1.bootFail (.ite h1 (.ite h3 h3.mapJournal.measurePlots.thenStage))

theorem raiseMinVer (h : Onward s t) : Onward s t.raiseMinVer := by
  unfold State.raiseMinVer
  exact .ite h h.mapFuses

theorem bootRecord {i : StageInput} (h : Onward s t) : Onward s (t.bootRecord i) := by
  unfold State.bootRecord
  extract_lets s1
  have h1 : Onward s s1 := Onward.atStage (.ite h.installHeadland h)
  exact .ite h1.bootFail h1.writeRecord.raiseMinVer.mapBoot

theorem bootStage {n : Nat} {i : StageInput} (h : Onward s t) : Onward s (t.bootStage n i) := by
  unfold State.bootStage
  split
  exacts [h.bootRom, h.bootKeys, h.bootFirmware, h.bootPairs, h.bootMicrocode, h.bootConfig, h.bootMemory, h.bootPlots,
    h.bootRecord, h]

theorem gleanReady (h : Onward s t) : Onward s t.gleanReady := h.mapGleaner

theorem execBootStage {i : StageInput} (h : Onward s t) : Goes s (Machine.execBootStage i t) := by
  unfold Machine.execBootStage
  refine .next (.ite h ?_)
  split
  exacts [h.gleanReady.bootStage, h]

/-! ## Machine/Float -/

theorem fp2 {u : Nat} {dbl : Bool} {f : RegF} {g : FpFmt → Round → Nat → Nat → FpRes} (h : Onward s t) :
    Onward s (t.fp2 u dbl f g) :=
  h.pure

theorem fp1 {u : Nat} {dbl : Bool} {f : RegF} {g : FpFmt → Round → Nat → FpRes} (h : Onward s t) :
    Onward s (t.fp1 u dbl f g) :=
  h.pure

theorem fpTest {u : Nat} {dbl : Bool} {f : RegF} {g : FpFmt → Nat → Nat → FpRes} (h : Onward s t) :
    Onward s (t.fpTest u dbl f g) :=
  h.pure

theorem fpInt {u : Nat} {dbl : Bool} {f : RegF} {lo hi : ℤ} (h : Onward s t) : Onward s (t.fpInt u dbl f lo hi) := h.pure

theorem execFadd {u : Nat} {dbl : Bool} {f : RegF} (h : Onward s t) : Goes s (Machine.execFadd u dbl f t) := .next h.fp2

theorem execFsub {u : Nat} {dbl : Bool} {f : RegF} (h : Onward s t) : Goes s (Machine.execFsub u dbl f t) := .next h.fp2

theorem execFmul {u : Nat} {dbl : Bool} {f : RegF} (h : Onward s t) : Goes s (Machine.execFmul u dbl f t) := .next h.fp2

theorem execFdiv {u : Nat} {dbl : Bool} {f : RegF} (h : Onward s t) : Goes s (Machine.execFdiv u dbl f t) := .next h.fp2

theorem execFsqrt {u : Nat} {dbl : Bool} {f : RegF} (h : Onward s t) : Goes s (Machine.execFsqrt u dbl f t) := .next h.fp1

theorem execFma {u : Nat} {dbl : Bool} {f : RegF} (h : Onward s t) : Goes s (Machine.execFma u dbl f t) := .next h.pure

theorem execFmin {u : Nat} {dbl : Bool} {f : RegF} (h : Onward s t) : Goes s (Machine.execFmin u dbl f t) := .next h.fp2

theorem execFmax {u : Nat} {dbl : Bool} {f : RegF} (h : Onward s t) : Goes s (Machine.execFmax u dbl f t) := .next h.fp2

theorem execFneg {u : Nat} {dbl : Bool} {f : RegF} (h : Onward s t) : Goes s (Machine.execFneg u dbl f t) := .next h.fp1

theorem execFabs {u : Nat} {dbl : Bool} {f : RegF} (h : Onward s t) : Goes s (Machine.execFabs u dbl f t) := .next h.fp1

theorem execFeq {u : Nat} {dbl : Bool} {f : RegF} (h : Onward s t) : Goes s (Machine.execFeq u dbl f t) := .next h.fpTest

theorem execFlt {u : Nat} {dbl : Bool} {f : RegF} (h : Onward s t) : Goes s (Machine.execFlt u dbl f t) := .next h.fpTest

theorem execFle {u : Nat} {dbl : Bool} {f : RegF} (h : Onward s t) : Goes s (Machine.execFle u dbl f t) := .next h.fpTest

theorem execFclass {u : Nat} {dbl : Bool} {f : RegF} (h : Onward s t) : Goes s (Machine.execFclass u dbl f t) :=
  .next h.pure

theorem execFcvtSD {u : Nat} {f : RegF} (h : Onward s t) : Goes s (Machine.execFcvtSD u f t) := .next h.pure

theorem execFcvtDS {u : Nat} {f : RegF} (h : Onward s t) : Goes s (Machine.execFcvtDS u f t) := .next h.pure

theorem execFcvtW {u : Nat} {dbl : Bool} {f : RegF} (h : Onward s t) : Goes s (Machine.execFcvtW u dbl f t) := .next h.fpInt

theorem execFcvtWU {u : Nat} {dbl : Bool} {f : RegF} (h : Onward s t) : Goes s (Machine.execFcvtWU u dbl f t) :=
  .next h.fpInt

theorem execFcvtFW {u : Nat} {dbl : Bool} {f : RegF} (h : Onward s t) : Goes s (Machine.execFcvtFW u dbl f t) :=
  .next h.pure

theorem execFcvtFWU {u : Nat} {dbl : Bool} {f : RegF} (h : Onward s t) : Goes s (Machine.execFcvtFWU u dbl f t) :=
  .next h.pure

theorem execFmvfi {u : Nat} {f : RegF} (h : Onward s t) : Goes s (Machine.execFmvfi u f t) := .next h.pure

theorem execFmvfih {u : Nat} {f : RegF} (h : Onward s t) : Goes s (Machine.execFmvfih u f t) := .next h.pure

theorem execFmvif {u : Nat} {f : RegF} (h : Onward s t) : Goes s (Machine.execFmvif u f t) := .next h.pure

/-! ## Machine/Flow -/

theorem branch {u : Nat} {f : BrcF} {taken : Word → Word → Bool} (h : Onward s t) : Onward s (t.branch u f taken) :=
  h.execute (fun _ h1 => .ite (.jump h1) (.done h1))

theorem execBeq {u : Nat} {f : BrcF} (h : Onward s t) : Goes s (Machine.execBeq u f t) := .next h.branch

theorem execBne {u : Nat} {f : BrcF} (h : Onward s t) : Goes s (Machine.execBne u f t) := .next h.branch

theorem execBlt {u : Nat} {f : BrcF} (h : Onward s t) : Goes s (Machine.execBlt u f t) := .next h.branch

theorem execBge {u : Nat} {f : BrcF} (h : Onward s t) : Goes s (Machine.execBge u f t) := .next h.branch

theorem execBltu {u : Nat} {f : BrcF} (h : Onward s t) : Goes s (Machine.execBltu u f t) := .next h.branch

theorem execBgeu {u : Nat} {f : BrcF} (h : Onward s t) : Goes s (Machine.execBgeu u f t) := .next h.branch

theorem execBr {u : Nat} {f : JmpF} (h : Onward s t) : Goes s (Machine.execBr u f t) :=
  .next (h.execute (fun _ h1 => .jump h1))

theorem checkTarget {pc : Word} {go : Eff} (h : Onward s t) (hg : Concludes s go) :
    Concludes s (Machine.checkTarget t pc go) := by
  unfold Machine.checkTarget
  exact .ite hg (.exc h)

theorem execJmpr {u : Nat} {f : ImmF} (h : Onward s t) : Goes s (Machine.execJmpr u f t) :=
  .next (h.execute (fun _ h1 => h1.checkTarget (.jump h1)))

theorem callTo {u : Nat} {pc : Word} (h : Onward s t) : Concludes s (t.callTo u pc) := by
  unfold State.callTo
  extract_lets _
  exact .ite (.ite (.exc h) (.ite (.hold h) (.part h.spill))) (.jump h.mapArch)

theorem execCall {u : Nat} {f : JmpF} (h : Onward s t) : Goes s (Machine.execCall u f t) :=
  .next (h.execute (fun _ h1 => h1.callTo))

theorem execCallr {u : Nat} {f : ImmF} (h : Onward s t) : Goes s (Machine.execCallr u f t) :=
  .next (h.execute (fun _ h1 => h1.checkTarget h1.callTo))

theorem fillUnit {u : Nat} (h : Onward s t) : Concludes s (t.fillUnit u) := by
  unfold State.fillUnit
  extract_lets _
  refine .ite (.exc h) ?_
  split
  exacts [.ite (.exc h) (.part h.mapArch), .exc h, .exc h.logAnswer]

theorem execRet {u : Nat} {f : ImmF} (h : Onward s t) : Goes s (Machine.execRet u f t) :=
  .next (h.execute (fun _ h1 => .ite (.ite h1.fillUnit (.jump h1.mapArch)) (.ite (.exc h1) (h1.checkTarget (.ite h1.fillUnit
    (.jump h1.mapArch))))))

theorem execRdsr {u : Nat} {f : SysF} (h : Onward s t) : Goes s (Machine.execRdsr u f t) := by
  unfold Machine.execRdsr
  extract_lets _
  exact .next (h.execute (fun _ h1 => .done h1.mapArch))

theorem execWrsr {u : Nat} {f : SysF} (h : Onward s t) : Goes s (Machine.execWrsr u f t) := by
  unfold Machine.execWrsr
  extract_lets _ acc
  exact .next (h.execute (fun _ h1 => .done h1.mapArch))

theorem execRdfeat {u : Nat} {f : SysF} (h : Onward s t) : Goes s (Machine.execRdfeat u f t) :=
  .next (h.execute (fun _ h1 => .done h1.mapArch))

theorem execEcall {u : Nat} {f : SysF} (h : Onward s t) : Goes s (Machine.execEcall u f t) :=
  .next (h.execute (fun _ h1 => .exc h1))

theorem execDcall {u : Nat} {f : SysF} (h : Onward s t) : Goes s (Machine.execDcall u f t) :=
  .next (h.execute (fun _ h1 => .exc h1))

theorem execBrk {u : Nat} {f : SysF} (h : Onward s t) : Goes s (Machine.execBrk u f t) :=
  .next (h.execute (fun _ h1 => .ite .stop (.exc h1)))

theorem execEret {u : Nat} {f : SysF} (h : Onward s t) : Goes s (Machine.execEret u f t) :=
  .next (h.execute (fun _ h1 => .ite h1.fillUnit (.back h1.mapArch)))

theorem fence {u : Nat} {f : SysF} {sc : Scope} (h : Onward s t) : Onward s (t.fence u f sc) :=
  h.execute (fun _ h1 => .ite (.done h1) (.hold h1.mapUnit))

theorem execFenceCore {u : Nat} {f : SysF} (h : Onward s t) : Goes s (Machine.execFenceCore u f t) := .next h.fence

theorem execFenceCluster {u : Nat} {f : SysF} (h : Onward s t) : Goes s (Machine.execFenceCluster u f t) := .next h.fence

theorem execFenceDevice {u : Nat} {f : SysF} (h : Onward s t) : Goes s (Machine.execFenceDevice u f t) := .next h.fence

theorem execFenceComplete {u : Nat} {warpError : Bool} (h : Onward s t) :
    Goes s (Machine.execFenceComplete u warpError t) := by
  unfold Machine.execFenceComplete
  extract_lets s1
  have h1 : Onward s s1 := h.mapUnit
  refine .next ?_
  split
  exacts [.ite h1.retire h, h]

theorem execIfence {u : Nat} {f : SysF} (h : Onward s t) : Goes s (Machine.execIfence u f t) :=
  .next (h.execute (fun _ h1 => .done h1))

theorem execWaiti {u : Nat} {f : SysF} (h : Onward s t) : Goes s (Machine.execWaiti u f t) :=
  .next (h.execute (fun _ h1 => .done h1.mapUnit))

/-! ## Machine/Integer -/

theorem alu {u : Nat} {f : RegF} {g : Word → Word → Word} (h : Onward s t) : Onward s (t.alu u f g) := h.pure

theorem alu1 {u : Nat} {f : RegF} {g : Word → Word} (h : Onward s t) : Onward s (t.alu1 u f g) := h.pure

theorem aluI {u : Nat} {f : ImmF} {imm : Word} {g : Word → Word → Word} (h : Onward s t) : Onward s (t.aluI u f imm g) :=
  h.pure

theorem shiftI {u : Nat} {f : ShiF} {g : Word → Nat → Word} (h : Onward s t) : Onward s (t.shiftI u f g) := h.pure

theorem execAdd {u : Nat} {f : RegF} (h : Onward s t) : Goes s (Machine.execAdd u f t) := .next h.alu

theorem execSub {u : Nat} {f : RegF} (h : Onward s t) : Goes s (Machine.execSub u f t) := .next h.alu

theorem execAndd {u : Nat} {f : RegF} (h : Onward s t) : Goes s (Machine.execAndd u f t) := .next h.alu

theorem execOrr {u : Nat} {f : RegF} (h : Onward s t) : Goes s (Machine.execOrr u f t) := .next h.alu

theorem execXorr {u : Nat} {f : RegF} (h : Onward s t) : Goes s (Machine.execXorr u f t) := .next h.alu

theorem execAndn {u : Nat} {f : RegF} (h : Onward s t) : Goes s (Machine.execAndn u f t) := .next h.alu

theorem execNor {u : Nat} {f : RegF} (h : Onward s t) : Goes s (Machine.execNor u f t) := .next h.alu

theorem execSll {u : Nat} {f : RegF} (h : Onward s t) : Goes s (Machine.execSll u f t) := .next h.alu

theorem execSrl {u : Nat} {f : RegF} (h : Onward s t) : Goes s (Machine.execSrl u f t) := .next h.alu

theorem execSra {u : Nat} {f : RegF} (h : Onward s t) : Goes s (Machine.execSra u f t) := .next h.alu

theorem execSlt {u : Nat} {f : RegF} (h : Onward s t) : Goes s (Machine.execSlt u f t) := .next h.alu

theorem execSltu {u : Nat} {f : RegF} (h : Onward s t) : Goes s (Machine.execSltu u f t) := .next h.alu

theorem execMul {u : Nat} {f : RegF} (h : Onward s t) : Goes s (Machine.execMul u f t) := .next h.alu

theorem execMulh {u : Nat} {f : RegF} (h : Onward s t) : Goes s (Machine.execMulh u f t) := .next h.alu

theorem execMulhu {u : Nat} {f : RegF} (h : Onward s t) : Goes s (Machine.execMulhu u f t) := .next h.alu

theorem execDiv {u : Nat} {f : RegF} (h : Onward s t) : Goes s (Machine.execDiv u f t) := .next h.alu

theorem execDivu {u : Nat} {f : RegF} (h : Onward s t) : Goes s (Machine.execDivu u f t) := .next h.alu

theorem execRem {u : Nat} {f : RegF} (h : Onward s t) : Goes s (Machine.execRem u f t) := .next h.alu

theorem execRemu {u : Nat} {f : RegF} (h : Onward s t) : Goes s (Machine.execRemu u f t) := .next h.alu

theorem execClz {u : Nat} {f : RegF} (h : Onward s t) : Goes s (Machine.execClz u f t) := .next h.alu1

theorem execCtz {u : Nat} {f : RegF} (h : Onward s t) : Goes s (Machine.execCtz u f t) := .next h.alu1

theorem execPopc {u : Nat} {f : RegF} (h : Onward s t) : Goes s (Machine.execPopc u f t) := .next h.alu1

theorem execBswap {u : Nat} {f : RegF} (h : Onward s t) : Goes s (Machine.execBswap u f t) := .next h.alu1

theorem execAddi {u : Nat} {f : ImmF} (h : Onward s t) : Goes s (Machine.execAddi u f t) := .next h.aluI

theorem execAndi {u : Nat} {f : ImmF} (h : Onward s t) : Goes s (Machine.execAndi u f t) := .next h.aluI

theorem execOri {u : Nat} {f : ImmF} (h : Onward s t) : Goes s (Machine.execOri u f t) := .next h.aluI

theorem execXori {u : Nat} {f : ImmF} (h : Onward s t) : Goes s (Machine.execXori u f t) := .next h.aluI

theorem execSlti {u : Nat} {f : ImmF} (h : Onward s t) : Goes s (Machine.execSlti u f t) := .next h.aluI

theorem execSltiu {u : Nat} {f : ImmF} (h : Onward s t) : Goes s (Machine.execSltiu u f t) := .next h.aluI

theorem execLui {u : Nat} {f : ImmF} (h : Onward s t) : Goes s (Machine.execLui u f t) := .next h.pure

theorem execSlli {u : Nat} {f : ShiF} (h : Onward s t) : Goes s (Machine.execSlli u f t) := .next h.shiftI

theorem execSrli {u : Nat} {f : ShiF} (h : Onward s t) : Goes s (Machine.execSrli u f t) := .next h.shiftI

theorem execSrai {u : Nat} {f : ShiF} (h : Onward s t) : Goes s (Machine.execSrai u f t) := .next h.shiftI

/-! ## Machine/Ledger -/

theorem execGetBootRecord {plot queue : Nat} (h : Onward s t) : Goes s (Machine.execGetBootRecord plot queue t) := by
  unfold Machine.execGetBootRecord
  refine .next (h.runCmd (fun _ _ h1 => .ite (.err h1) ?_))
  split
  exacts [.ok h1, .err h1]

theorem execAttest {plot queue : Nat} (h : Onward s t) : Goes s (Machine.execAttest plot queue t) :=
  .next (h.runCmd (fun _ _ h1 => .ite (.err h1) (.ok h1.chargeSlot)))

theorem execDebugAuth {plot queue : Nat} (h : Onward s t) : Goes s (Machine.execDebugAuth plot queue t) :=
  .next (h.runCmd (fun _ _ h1 => .ite (.ok h1.authorise) (.err h1.authorise)))

theorem transition {target : Nat} (h : Onward s t) : Onward s (t.transition target) := by
  unfold State.transition
  extract_lets _ s1 s2
  have h1 : Onward s s1 := h.mapFuses
  have h2 : Onward s s2 := h1.startWipe.wipeVault
  exact h2.mapPower

theorem execLifecycleReq {plot queue : Nat} (h : Onward s t) : Goes s (Machine.execLifecycleReq plot queue t) := by
  unfold Machine.execLifecycleReq
  refine .next (h.runCmd fun _ _ h1 => ?_)
  extract_lets
  split
  exacts [.err h1, .ite (.ok h1.transition) (.err h1.setBit)]

/-! ## Machine/Dispatch -/

theorem exec {i : Instr} (h : Onward s t) : Goes s (Machine.exec i t) := by
  cases i
  case recRsp e => exact h.execRecRsp (x3 := e)
  exacts [h.execRegisterWrite, h.execRegPairLoRead, h.execRegPairHiRead, h.execRegPairLoWrite, h.execRegPairHiWrite,
    h.execResourceTake, h.execTickInEdge, h.execTickSymbol, h.execTick, h.execTickWindowClose, h.execTickOutEnd,
    h.execReservationWritten, h.execCloseMarker, h.execSealWritebackDone, h.execSealHashDone, h.execSealMacDone,
    h.execSheafAck, h.execSealFailLimit, h.execRollbackRestoreDone, h.execBudgetExpire, h.execLinkDelayMeasure,
    h.execAsyncInputAtBoundary, h.execSliceRequest, h.execSliceRelease, h.execStakeGrant, h.execWoundPresent,
    h.execRemoteStakeTimeout, h.execStkClear, h.execStakeTableCleared, h.execCaptureAccept, h.execSheafRetainExpire,
    h.execJnlInit, h.execJnlReady, h.execRequestIndexLookup, h.execSheafKeyDerive, h.execSheaf, h.execSealCompleteNotice,
    h.execSheafApplyDone, h.execRollbackNotice, h.execHandbackNotice, h.execHeartbeat, h.execJuniorDelayExpire,
    h.execTakeoverStepADone, h.execTakeoverStepBDone, h.execLeasewaitExpire, h.execAdoptComplete, h.execAddressAnnounce,
    h.execLeaseEnd, h.execReservationReportDone, h.execDescMirrorConfirm, h.execDescMirrorTimeout, h.execRebuildChunkRead,
    h.execRebuild, h.execHoldoffExpire, h.execReturnNow, h.execFrameReceive, h.execMacControlFrame, h.execTsinfoRead,
    h.execTsHiRead, h.execSwathOpen, h.execSwathCmd, h.execSwathAck, h.execSwathClose, h.execAckDelayExpire,
    h.execWindowAckRepeat, h.execRetransmitTimeout, h.execCoalesceTimeout, h.execHeldPacketExpire,
    h.execHeldCompletionExpire, h.execPortLinkDown, h.execDispatch, h.execCommandHandoff, h.execPlotResetDrainDone,
    h.execPltInit, h.execPltReady, h.execSowPairWrite, h.execTxnSubmit, h.execNop, h.execContCmd, h.execGetInfo,
    h.execPlotCreate, h.execPlotDestroy, h.execPlotReset, h.execPlotSetShare, h.execPlotSetAddr, h.execPlotGet,
    h.execSpaceSet, h.execQueueCreate, h.execQueueDestroy, h.execQueueGet, h.execLibLoad, h.execLibSetEntry, h.execExecLoad,
    h.execRegRead, h.execRegWrite, h.execGetBootRecord, h.execAttest, h.execAlmanacRead, h.execGleanerRead,
    h.execGleanerClear, h.execTwinPair, h.execTwinUnpair, h.execTwinReturn, h.execTwinStatus, h.execPairSplit,
    h.execPairRejoin, h.execPairReserve, h.execSpareSet, h.execKeyUnwrap, h.execKeyErase, h.execMacsecSaSet,
    h.execMacsecSaClear, h.execPathSet, h.execPathGet, h.execLifecycleReq, h.execLifecycleReset, h.execDebugAuth,
    h.execTickSet, h.execAdd, h.execSub, h.execAndd, h.execOrr, h.execXorr, h.execAndn, h.execNor, h.execSll, h.execSrl,
    h.execSra, h.execSlt, h.execSltu, h.execMul, h.execMulh, h.execMulhu, h.execDiv, h.execDivu, h.execRem, h.execRemu,
    h.execClz, h.execCtz, h.execPopc, h.execBswap, h.execAddi, h.execAndi, h.execOri, h.execXori, h.execSlti, h.execSltiu,
    h.execLui, h.execSlli, h.execSrli, h.execSrai, h.execLdb, h.execLdbs, h.execLdh, h.execLdhs, h.execLdw, h.execStb,
    h.execSth, h.execStw, h.execLdp, h.execStp, h.execLdl, h.execStc, h.execFlds, h.execFldd, h.execFsts, h.execFstd,
    h.execBeq, h.execBne, h.execBlt, h.execBge, h.execBltu, h.execBgeu, h.execBr, h.execCall, h.execJmpr, h.execCallr,
    h.execRet, h.execRdsr, h.execWrsr, h.execRdfeat, h.execEcall, h.execDcall, h.execEret, h.execBrk, h.execFenceCore,
    h.execFenceCluster, h.execFenceDevice, h.execFenceComplete, h.execIfence, h.execWaiti, h.execZline, h.execPreload,
    h.execClean, h.execInval, h.execFlush, h.execIinval, h.execPrefetch, h.execRclean, h.execRinval, h.execRflush,
    h.execStakeS, h.execStakeX, h.execUnstake, h.execCommit, h.execAbort, h.execAbortF, h.execFadd, h.execFsub, h.execFmul,
    h.execFdiv, h.execFsqrt, h.execFma, h.execFmin, h.execFmax, h.execFneg, h.execFabs, h.execFeq, h.execFlt, h.execFle,
    h.execFclass, h.execFcvtSD, h.execFcvtDS, h.execFcvtW, h.execFcvtWU, h.execFcvtFW, h.execFcvtFWU, h.execFmvfi,
    h.execFmvfih, h.execFmvif, h.execAddp, h.execSubp, h.execMulp, h.execDivp, h.execCmpp, h.execCvtbp, h.execCvtpb,
    h.execCvtpz, h.execCvtzp, h.execBmov, h.execBfill, h.execCblk, h.execStart, h.execUcClear, h.execUcWordCommit,
    h.execUcLock, h.execUcUnlock, h.execUcScrub, h.execInstructionRetry, h.execSpareResume, h.execLeaderDrainTimeout,
    h.execSplitCoreParity, h.execStoreDrain, h.execCacheFill, h.execL2Scrub, h.execScratchpadScrub,
    h.execScratchpadRetention, h.execBankWakeDone, h.execStrongroomWipeDone, h.execWarpLinkReplay, h.execWarpTimeout,
    h.execWarpLateResponse, h.execWarpIsolate, h.execRouteFlip, h.execRouteCopy, h.execRouteDrainDone, h.execThrSubmit,
    h.execThrEnable, h.execThresherJobStart, h.execCompress, h.execDecompress, h.execThresherParity, h.execCphSubmit,
    h.execLockAcquire, h.execLockRelease, h.execGcmEnc, h.execGcmDec, h.execXtsEnc, h.execXtsDec, h.execCmacGen,
    h.execCmacVer, h.execSha384, h.execSha512, h.execHmac384, h.execHmac512, h.execDerive, h.execUnwrap, h.execSign,
    h.execVerify, h.execPubkey, h.execFrwSubmit, h.execChannelRecordAck, h.execChannelRead, h.execChannelWrite,
    h.execChannelFlush, h.execPeerRead, h.execPeerWrite, h.execHostSend, h.execThresh, h.execCipher, h.execEngAcquire,
    h.execEngRelease, h.execNvmeCompletion, h.execDestageExtent, h.execPloughChunk, h.execPathFail, h.execKeepAlive,
    h.execPathReconnect, h.execPathReady, h.execFurrowLateCompletion, h.execPathwaitExpire, h.execCnpReceive,
    h.execWeftLinkAligned, h.execLinkFlit, h.execWeftLinkFail, h.execWeftRetrain, h.execWeftReplay, h.execWeftFrameForward,
    h.execStateFrame, h.execStakeReq, h.execStakeRsp, h.execStakeFwd, h.execRecRead, h.execRecWrite,
    h.execSpanNotice, h.execSpanAccept, h.execSpanAcceptTimeout, h.execVote, h.execProbeSend, h.execProbe, h.execProbeRsp,
    h.execDeviceLost, h.execPeerReq, h.execPeerRsp, h.execPowerOnReset, h.execResetNAssert, h.execResetNRelease,
    h.execSoftwareReset, h.execBootStage, h.execTamperEvent, h.execEvralTransfer, h.execAuthCommit, h.execAuthClear,
    h.execAuthCheckDone, h.execDebugHalt, h.execResume, h.execStep, h.execDbgRdataAccess, h.execDbgMdataRead,
    h.execDbgMdataWrite, h.execGleanerEvent, h.execGleanerSelfParity, h.execGlnClear, h.execGlnRec0Read,
    h.execAlmanacEarlyGather, h.execAlmanacInterval, h.execAlmanacSnap, h.execSnapshotWriteDone, h.execAlmWindow0Read,
    h.execAlmWindow63Read, h.execRailSample, h.execRailExcursion, h.execTempSample, h.execClockMonitorTrip,
    h.execClusterPowerDown, h.execClusterPowerDownDone, h.execClusterPowerUp, h.execClusterPowerUpDone, h.execCclkChange,
    h.execCclkStep, h.execWdogEnable, h.execWdogKick, h.execWdogExpire, h.execPpsOut, h.execTickSymbolSend,
    h.execPortLinkUp, h.execPfcPauseExpire, h.execCoreClockBranchLoss, h.execFailedPathWriteHoldExpire, h.execWeftFlitError,
    h.execPorstNAssert]

end Onward

end Sys2Proof.Machine
end

section
/-! OBLIGATIONS. What every step keeps (O58, O59). -/

namespace Sys2Proof.Machine

open Sys2Proof Sys2Proof.Stated

/-- A step leads to a state that comes after the state without the front of its queue. -/
theorem step_onward (s : State) : ∃ t, step s = .next t ∧ Onward { s with pending := s.pending.tail } t := by
  unfold step
  split
  case h_1 hp =>
    have h : Onward { s with pending := s.pending.tail } s := ⟨by simp only [hp, List.tail_nil], id⟩
    exact ⟨_, rfl, h.rest⟩
  case h_2 c rest hp =>
    have h := Onward.exec (i := c) (.refl { s with pending := rest })
    generalize exec c { s with pending := rest } = a at h
    obtain ⟨ht⟩ := h
    exact ⟨_, rfl, by simpa only [hp, List.tail_cons] using ht⟩

/-- Settles O58: whatever the command, its effect is an onward state. -/
theorem everyStepGoesOn : Obligations.EveryStepGoesOn := by
  intro s
  obtain ⟨t, ht, h⟩ := step_onward s
  exact ⟨t, ht, h.pending⟩

/-- Settles O59: an onward state is canonical where the state before it was, whatever its queue. -/
theorem everyStepKeepsCanonicalForm : Obligations.EveryStepKeepsCanonicalForm := by
  intro s t hs ht
  obtain ⟨r, hr, h⟩ := step_onward s
  cases ht.symm.trans hr
  exact h.canonical hs

end Sys2Proof.Machine
end

section
/-! OBLIGATIONS. Whether a step takes anything back (O60). -/

namespace Sys2Proof.Machine

open Sys2Proof

/-- A path to storage that is READY. -/
def readyPath : Path :=
  { num := 7, record := zeros 3 ++ [1] ++ zeros 60, state := .ready, failed := 0, lastKa := 0, rate := 1024, rateAt := 0 }

/-- A paired device that serves its own plots, with port 0 up, a READY path, and an arbitration namespace. -/
def armed : State :=
  (((((((State.reset.setBit Reg.TWN_CFG 31 true).setFld Reg.TWN_CFG 6 4 1).setOwn ownHolding).setReg Reg.FRW_NSARBO 1).setBit
    Reg.ETH_CTRL 0 true).setBit (portReg Reg.ETH_PSTAT 0) 0 true)).mapFurrow fun w => { w with paths := [readyPath] }

/-- The same device in the nanosecond in which it issues step A of a takeover; a valid heartbeat of the partner comes next. -/
def acquiring : State := { armed.enterAcquire with pending := [.heartbeat 0 1 (zeros 40)] }

/-- The state in which the heartbeat leaves it. -/
def recalled : State := ({ acquiring with pending := [] }.advance 0).heartbeat 1 (zeros 40)

/-- The Preempt of step A has left the device (R172). -/
theorem acquiring_out : acquiring.out = [.storage 7 0 nvAcquire [1, 1, 1, 0, 0] []] := by decide +kernel

/-- The heartbeat stops the takeover and recalls the command (R171). -/
theorem recalled_out : recalled.out = [] := by decide +kernel

/-- Refutes O60: a heartbeat in the nanosecond of step A's issue recalls the storage command that has left (R171), so what
left the device is taken back. -/
theorem not_noStepTakesBack : ¬ Obligations.NoStepTakesBack := by
  unfold Obligations.NoStepTakesBack
  intro h
  obtain ⟨-, ⟨l, hl⟩, -⟩ := h acquiring recalled rfl
  rw [recalled_out, acquiring_out] at hl
  simp at hl

end Sys2Proof.Machine
end

section
/-! OBLIGATIONS. The queue of commands (O1, O2), the clears of records (O55) and the state after reset (O57). -/

namespace Sys2Proof.Machine

open Sys2Proof Sys2Proof.Stated

/-! ## The queue -/

/-- Settles O1. -/
theorem stepRunsTheFrontCommand : Obligations.StepRunsTheFrontCommand := by
  intro c rest s hp
  rw [step, hp]

/-- Buffers drain from one state to another: only Ethernet, its registers and what is sent change, and no bit of a register is
set. -/
structure Drained (s t : State) : Prop where
  beside : t = { s with eth := t.eth, ctl := t.ctl, out := t.out }
  clears : ∀ o i, t.bit o i = true → s.bit o i = true

theorem Drained.refl (s : State) : Drained s s := ⟨rfl, fun _ _ => id⟩

theorem Drained.trans {s t r : State} (h : Drained s t) (g : Drained t r) : Drained s r :=
  ⟨by rw [g.beside, h.beside], fun o i hi => h.clears o i (g.clears o i hi)⟩

theorem Drained.foldl {α : Type} {f : State → α → State} (hf : ∀ s x, Drained s (f s x)) (l : List α) (s : State) :
    Drained s (l.foldl f s) := by
  induction l generalizing s with
  | nil => exact .refl s
  | cons x l ih => exact (hf s x).trans (ih _)

theorem bit_of_bit_setBit_false {s : State} {off b o i : Nat} (hb : b < 32) (h : (s.setBit off b false).bit o i = true) :
    s.bit o i = true := by
  by_cases ho : o = off
  case pos =>
    subst ho
    by_cases hi : i = b
    case pos =>
      rw [hi, bit_setBit_same s false hb] at h
      cases h
    case neg => rwa [bit_setBit_otherBit s false hb hi] at h
  case neg => rwa [bit_setBit_otherReg s b i false ho] at h

theorem bit_lt {s : State} {o i : Nat} (h : s.bit o i = true) : i < 32 := BitVec.lt_of_getLsbD h

/-- A priority whose buffer is empty goes on (R195). -/
theorem sendPauses_empty (s : State) (p q : Nat) : Drained s (s.sendPauses p q rxBuffer) ∧
    (s.sendPauses p q rxBuffer).bit (portReg Reg.ETH_PSTAT p) (8 + q) = false := by
  unfold State.sendPauses
  extract_lets on s1
  rw [if_neg (by simp [rxBuffer])]
  split
  case isTrue h =>
    have hb : 8 + q < 32 := bit_lt h.2
    exact ⟨⟨rfl, fun o i hi => bit_of_bit_setBit_false hb hi⟩, bit_setBit_same s1 false hb⟩
  case isFalse h =>
    have hoff : on = false := by simpa [rxBuffer] using h
    exact ⟨⟨rfl, fun _ _ hi => hi⟩, hoff⟩

theorem port_sendPauses_other (s : State) {p p' : Nat} (q room : Nat) (h : p' ≠ p) : (s.sendPauses p q room).port p' = s.port p' := by
  unfold State.sendPauses
  extract_lets on s1
  have h1 : s1.port p' = s.port p' := port_mapPort_other s _ h
  split
  · exact h1
  · split <;> exact h1

/-- The receive buffers of one port drain. -/
def State.drainPort (s : State) (p : Nat) : State :=
  ((s.port p).free.foldl (fun s f => s.sendPauses p f.1 rxBuffer) s).mapPort p fun x => { x with free := [] }

theorem drainBuffers_eq (s : State) : s.drainBuffers = (s.drainPort 0).drainPort 1 := rfl

theorem port_drainPort_same (s : State) (p : Nat) : ((s.drainPort p).port p).free = [] := by
  rw [State.drainPort, port_mapPort_same]

theorem port_drainPort_other (s : State) {p p' : Nat} (h : p' ≠ p) : (s.drainPort p).port p' = s.port p' := by
  rw [State.drainPort, port_mapPort_other _ _ h]
  exact foldl_keeps (fun t => t.port p') (fun t (f : Nat × Nat) => port_sendPauses_other t f.1 rxBuffer h) s _

theorem drainPort_drained (s : State) (p : Nat) : Drained s (s.drainPort p) := by
  have h : Drained s ((s.port p).free.foldl (fun s f => s.sendPauses p f.1 rxBuffer) s) :=
    .foldl (fun t (f : Nat × Nat) => (sendPauses_empty t p f.1).1) _ s
  exact h.trans ⟨rfl, fun _ _ => id⟩

theorem drainPort_nothing {s : State} {p : Nat} (h : (s.port p).free = []) :
    (s.drainPort p).out = s.out ∧ (s.drainPort p).ctl = s.ctl := by
  rw [State.drainPort, h]
  exact ⟨rfl, rfl⟩

/-- What a port has paused goes on when its buffers drain. -/
theorem bit_drainPort (s : State) (p : Nat) {q n : Nat} (h : (q, n) ∈ (s.port p).free) :
    (s.drainPort p).bit (portReg Reg.ETH_PSTAT p) (8 + q) = false := by
  rw [State.drainPort]
  generalize (s.port p).free = l at h
  show (l.foldl (fun s f => s.sendPauses p f.1 rxBuffer) s).bit (portReg Reg.ETH_PSTAT p) (8 + q) = false
  induction l generalizing s with
  | nil => cases h
  | cons x l ih =>
    rw [List.foldl_cons]
    rcases List.mem_cons.mp h with rfl | hl
    case inl =>
      have hd : Drained (s.sendPauses p q rxBuffer) _ := .foldl (fun t (f : Nat × Nat) => (sendPauses_empty t p f.1).1) l _
      exact Bool.eq_false_iff.mpr fun hb => Bool.eq_false_iff.mp (sendPauses_empty s p q).2 (hd.clears _ _ hb)
    case inr => exact ih _ hl

/-- Settles O2, port by port: what one port drains leaves the other's buffers alone and sets no bit. -/
theorem emptyQueueIdles : Obligations.EmptyQueueIdles := by
  intro s hp
  have h0 := drainPort_drained s.idle 0
  have h1 := drainPort_drained (s.idle.drainPort 0) 1
  have hrest : s.rest = (s.idle.drainPort 0).drainPort 1 := rfl
  refine ⟨s.rest, by rw [step, hp], ?_, ?_, fun hf0 hf1 => ?_, fun p hlt => ?_⟩
  case refine_1 => rw [hrest, h1.beside, h0.beside]; exact max_eq_right (Nat.le_succ _)
  case refine_2 => rw [hrest, h1.beside, h0.beside]; rfl
  case refine_3 =>
    obtain ⟨ho0, hc0⟩ := drainPort_nothing (s := s.idle) (p := 0) hf0
    obtain ⟨ho1, hc1⟩ := drainPort_nothing (s := s.idle.drainPort 0) (p := 1)
      (by rw [port_drainPort_other _ (by decide)]; exact hf1)
    exact ⟨ho1.trans ho0, hc1.trans hc0⟩
  case refine_4 =>
    obtain rfl | rfl : p = 0 ∨ p = 1 := by omega
    · refine ⟨?_, fun q n hq _ => ?_⟩
      · rw [hrest, port_drainPort_other _ (by decide)]
        exact port_drainPort_same _ 0
      · exact Bool.eq_false_iff.mpr fun hb => Bool.eq_false_iff.mp (bit_drainPort s.idle 0 hq) (h1.clears _ _ hb)
    · refine ⟨port_drainPort_same _ 1, fun q n hq _ => bit_drainPort _ 1 (n := n) ?_⟩
      exact port_drainPort_other s.idle (p := 0) (p' := 1) (by decide) ▸ hq

/-! ## Records cleared (R586) -/

theorem gleanClear_all (s : State) : (s.gleanClear 0) = (s.mapGleaner fun g =>
    { g with recs := g.recs.map fun r => if s.mayClear r then { r with cleared := true } else r }, .done) := rfl

theorem gleanClear_found {s : State} {seq : Nat} {r : GleanRec} (hseq : seq ≠ 0)
    (hr : s.gleaner.recs.find? (fun r => r.seq = seq) = some r) : s.gleanClear seq = if s.mayClear r then
      (s.mapGleaner fun g => { g with recs := g.recs.map fun r => if r.seq = seq then { r with cleared := true } else r }, .done)
    else (s.setBit Reg.GLN_ERR 3 true, .denied) := by
  rw [State.gleanClear, if_neg hseq, hr]
  simp only [decide_eq_true_eq]

theorem mayClear_iff (s : State) (r : GleanRec) : s.mayClear r = true ↔ r.cls ≠ 6 ∨ s.bit Reg.GLN_STATUS 31 = false := by
  simp [State.mayClear, State.safe]

theorem glnClear_eq {s : State} {m : Master} (v : Word) (hm : s.writesReg m Reg.GLN_CLEAR = true) :
    exec (.glnClear m v) s = .next (s.gleanClear v.toNat).1 := congrArg _ (if_pos hm)

/-- Settles O55. -/
theorem clearingRecords : Obligations.ClearingRecords := by
  intro s may every one
  refine ⟨fun m hm => ⟨⟨_, glnClear_eq 0 hm, rfl⟩, fun v r hv hr => ?_⟩, fun c hc hop => ⟨fun h0 => ?_, fun r h0 hr => ?_⟩⟩
  case refine_1 =>
    have hclear := gleanClear_found (fun h => hv (BitVec.eq_of_toNat_eq h)) hr
    refine ⟨fun hmay => ⟨_, glnClear_eq v hm, ?_⟩, fun hmay => ⟨_, glnClear_eq v hm, ?_⟩⟩
    · rw [hclear, if_pos ((mayClear_iff s r).mpr hmay)]
      rfl
    · rw [hclear, if_neg fun h => hmay ((mayClear_iff s r).mp h)]
  case refine_2 =>
    refine ends_runCmd rfl hc hop ?_
    dsimp only
    rw [show c.num pIndex = 0 from h0, gleanClear_all]
    rfl
  case refine_3 =>
    have hmay : s.mayClear r = true := by
      obtain ⟨-, hsafe, -⟩ := hc
      simp [State.mayClear, hsafe]
    refine ends_runCmd rfl hc hop ?_
    dsimp only
    rw [show c.num pIndex = c.num 0x15 from rfl, gleanClear_found h0 hr, if_pos hmay]
    rfl

/-! ## The state after reset -/

/-- Settles O57, field by field. -/
theorem resetState : Obligations.ResetState := by
  have hreg (off : Nat) (h : off ≠ Reg.SWD_BOOTSTAT) : State.reset.reg off = regReset off := by
    show sget regReset [(0x000004, 0x100)] off = regReset off
    rw [sget, if_neg (show off ≠ 4 from h), sget]
  exact ⟨rfl, by decide +kernel, by decide +kernel, rfl, rfl, fun _ => rfl, hreg, rfl, fun _ => rfl, rfl, rfl, rfl, rfl, rfl⟩

end Sys2Proof.Machine
end

section
/-! OBLIGATIONS. Fences and waits (O14). -/

namespace Sys2Proof.Machine

open Sys2Proof Sys2Proof.Stated

/-! ## What retirement leaves of a unit -/

/-- What a unit waits for, and its MCHECK input. -/
def CoreUnit.standing (x : CoreUnit) : Wait × Option Nat := (x.wait, x.latch.mcheck)

theorem standing_mapUnit (s : State) (u v : Nat) {g : CoreUnit → CoreUnit} (h : ∀ x, (g x).standing = x.standing) :
    ((s.mapUnit u g).unit v).standing = (s.unit v).standing := by
  rw [unit_mapUnit]
  split
  · next hv => rw [h, hv]
  · rfl

theorem standing_haltPair (s : State) (p v : Nat) (cause : HaltCause) (hits : Nat) :
    ((s.haltPair p cause hits).unit v).standing = (s.unit v).standing := by
  have h (x : CoreUnit) : CoreUnit.standing (if x.halted then x else
      { x with halted := true, haltFrom := s.timeBase, stepping := false, latch := { x.latch with tick := none } }) = x.standing := by
    split <;> rfl
  exact (standing_mapUnit _ _ v h).trans (standing_mapUnit s _ v h)

theorem standing_boundary (s : State) (u v : Nat) : ((s.boundary u).unit v).standing = (s.unit v).standing := by
  unfold State.boundary
  split
  exacts [standing_haltPair .., rfl]

theorem standing_counted (s : State) (u v : Nat) : ((s.counted u).unit v).standing = (s.unit v).standing := by
  rw [State.counted, unit_compared]
  exact standing_mapUnit s u v fun _ => rfl

theorem standing_startCore (s : State) (u v : Nat) : ((s.startCore u).unit v).standing = (s.unit v).standing :=
  standing_mapUnit s u v fun x => by split <;> rfl

theorem standing_retire (s : State) (u v : Nat) (pc : Word) : ((s.retire u pc).unit v).standing = (s.unit v).standing := by
  rw [State.retire, standing_boundary, standing_counted, standing_startCore]
  exact standing_mapUnit s u v fun _ => rfl

theorem wait_retire (s : State) (u v : Nat) (pc : Word) : ((s.retire u pc).unit v).wait = (s.unit v).wait :=
  congrArg Prod.fst (standing_retire s u v pc)

theorem mcheck_retire (s : State) (u v : Nat) (pc : Word) :
    ((s.retire u pc).unit v).latch.mcheck = (s.unit v).latch.mcheck := congrArg Prod.snd (standing_retire s u v pc)

/-- A change of a unit that leaves its architected state and its count alone, and then its retirement. -/
theorem retire_mapUnit_retires (s : State) (u : Nat) {g : CoreUnit → CoreUnit}
    (h : ∀ x, ((g x).arch, (g x).retired) = (x.arch, x.retired)) :
    Retires s ((s.mapUnit u g).retire u (pcNext s u)) u (archOf s u) (pcNext s u) := by
  have hx := h (s.unit u)
  have r := retire_retires (s.mapUnit u g) u (pcNext s u)
  have harch : ((s.mapUnit u g).unit u).arch = archOf s u := by rw [unit_mapUnit_same]; exact congrArg Prod.fst hx
  have hcount : ((s.mapUnit u g).unit u).retired = (s.unit u).retired := by rw [unit_mapUnit_same]; exact congrArg Prod.snd hx
  exact ⟨by rw [r.arch, harch], by rw [r.count, hcount], (mapUnit_only s u g).comp r.frame⟩

/-! ## The instructions -/

section

variable {s : State} {u : Nat} {f : SysF} {c : Instr} {sc : Scope}

/-- The conditions of a system instruction that names no register. -/
theorem sysOk_ok (hr : f.rsv = 0) (hd : f.rd = 0) (ha : f.ra = 0) (hs : f.sr = 0) {level n : Nat} (hl : n ≤ level) :
    Legal.ok { reserved := SysOk f false false false, level := n } level = true := by
  simp [Legal.ok, SysOk, hr, hd, ha, hs, hl]

theorem ends_fence (hf : s.fetches u = true) (hc : exec c s = .next (s.fence u f sc)) (hr : f.rsv = 0) (hd : f.rd = 0)
    (ha : f.ra = 0) (hs : f.sr = 0) (h : s.fenceDone u sc = true) :
    Ends c s fun t => Retires s t u (archOf s u) (pcNext s u) := by
  refine ends_execute hf hc (sysOk_ok hr hd ha hs (Nat.zero_le _)) ?_
  rw [if_pos h]
  exact retire_retires s u (pcNext s u)

theorem ends_fence_holds (hf : s.fetches u = true) (hc : exec c s = .next (s.fence u f sc)) (hr : f.rsv = 0) (hd : f.rd = 0)
    (ha : f.ra = 0) (hs : f.sr = 0) (h : s.fenceDone u sc = false) :
    Ends c s fun t => (t.unit u).wait = .fence sc ∧ archOf t u = archOf s u ∧ OnlyUnit s t u := by
  refine ends_execute hf hc (sysOk_ok hr hd ha hs (Nat.zero_le _)) ?_
  rw [if_neg (by simp [h]), State.conclude]
  refine ⟨?_, ?_, mapUnit_only s u _⟩
  · rw [unit_mapUnit_same]
  · rw [archOf, unit_mapUnit_same]

theorem ends_ifence (hf : s.fetches u = true) (hr : f.rsv = 0) (hd : f.rd = 0) (ha : f.ra = 0) (hs : f.sr = 0) :
    Ends (.ifence u f) s fun t => Retires s t u (archOf s u) (pcNext s u) :=
  ends_execute hf rfl (sysOk_ok hr hd ha hs (Nat.zero_le _)) (retire_retires s u (pcNext s u))

theorem ends_waiti (hf : s.fetches u = true) (hr : f.rsv = 0) (hd : f.rd = 0) (ha : f.ra = 0) (hs : f.sr = 0)
    (hl : 1 ≤ (archOf s u).level) : Ends (.waiti u f) s fun t =>
      Retires s t u (archOf s u) (pcNext s u) ∧ (t.unit u).wait = .waiti := by
  refine ends_execute hf rfl (sysOk_ok hr hd ha hs hl) ?_
  have hpc : (((s.mapUnit u fun x => { x with wait := .waiti }).unit u).arch.pc + 4) = pcNext s u := by
    rw [unit_mapUnit_same]
    rfl
  rw [State.conclude, hpc]
  refine ⟨retire_mapUnit_retires s u fun _ => rfl, ?_⟩
  rw [wait_retire, unit_mapUnit_same]

/-- A fence that a unit stands at ends (R392). -/
theorem ends_fenceComplete {err : Bool} (hw : (s.unit u).wait = .fence sc) (hdone : (err || s.fenceDone u sc) = true)
    (hh : (s.unit u).halted = false) (hs : s.safe = false) : Ends (.fenceComplete u err) s fun t =>
      Retires s t u (archOf s u) (pcNext s u) ∧ (t.unit u).wait = .none ∧
      (t.unit u).latch.mcheck = if err then some 2 else (s.unit u).latch.mcheck := by
  have hexec : exec (.fenceComplete u err) s = .next ((s.mapUnit u fun x =>
      { x with wait := .none, latch := if err then { x.latch with mcheck := some 2 } else x.latch }).retire u (pcNext s u)) := by
    show Host.Outcome.next _ = _
    rw [hw]
    simp only [hdone, hh, hs, Bool.not_false, Bool.and_self, if_true, unit_mapUnit_same]
    rfl
  refine ⟨_, hexec, retire_mapUnit_retires s u fun _ => rfl, ?_, ?_⟩
  · rw [wait_retire, unit_mapUnit_same]
  · rw [mcheck_retire, unit_mapUnit_same]
    cases err <;> rfl

end

/-- Settles O14: a fence is done where its stores have passed its scope, and then it retires as it stands. -/
theorem fencesAndWaits : Obligations.FencesAndWaits := by
  refine ⟨fun s u f hf hr hd ha hs => ⟨fun h => ?_, fun h => ?_, fun h hrem => ?_, ?_, fun hl => ?_, fun h => ?_⟩,
    fun s u sc err hw hdone hh hsafe => ends_fenceComplete hw hdone hh hsafe⟩
  · exact ends_fence hf rfl hr hd ha hs (by simp [State.fenceDone, h])
  · exact ends_fence hf rfl hr hd ha hs (by simp [State.fenceDone, h])
  · exact ends_fence hf rfl hr hd ha hs (by simp [State.fenceDone, h, hrem])
  · exact ends_ifence hf hr hd ha hs
  · exact ends_waiti hf hr hd ha hs hl
  · exact ends_fence_holds hf rfl hr hd ha hs (by simp [State.fenceDone, h])

end Sys2Proof.Machine
end

section
/-! OBLIGATIONS. STC (O18). -/

namespace Sys2Proof.Machine

open Sys2Proof Sys2Proof.Stated

/-! ## A space that begins in the middle of a line

The statement speaks of every state, and nothing in it keeps the base of a space at a multiple of 4,096. In the state below the
journaled space 1 begins at 62, so the word at EA 0 lies in two lines, and STC captures both. -/

/-- A plot whose space 0 holds code in the scratchpad and whose space 1, journaled and cacheable, begins at 62. -/
def skewPlot : Plot :=
  { strayPlot with spaces := [(0, { base := scratchBase, pages := 16, attr := 0x2F }), (1, { base := 62, pages := 1, attr := 0x77 })] }

/-- The transaction that unit 0 runs. -/
def skewSlot : TSlot :=
  { slot := 4, plot := 5, queue := 0, slotNo := 0, reqid := 1, cls := 0, account := 0, attempt := 1, stamp := 0, seq := 0, space := 0
    off := 0, arg := [], unit := some 0, redo := false, waitOn := none, result := none, span := false }

/-- Unit 0 runs the transaction at level T, linked to the line at 0, which its cluster holds. -/
def skewState : State :=
  (((((State.reset.setReg Reg.MEM_CHSTAT 0x80010000).setReg Reg.JNL_REGION 0x10000).setPlot 5 skewPlot).mapCluster 0 fun x =>
    { x with lines := [{ pa := 0, way := 0, mark := none, dirty := none }] }).mapSower fun x => { x with slots := [skewSlot] }).mapUnit 0
    fun x =>
      { x with run := true, execPlot := 5, txn := some 4
               arch := { Arch.reset with
                 link := some 0, sr := { SpecRegs.reset with spc := [0x501, 0, 0, 0, 0, 0, 0, 0], ispc := 0x500, psw := 0x10 } } }

/-- STC r0 to EA 0 through SP 0, and its place. -/
def skewStc : MemF := ⟨0, 0, 0, 0⟩
def skewPlace : Place := { pa := 62, cacheable := true, journaled := true, pairArea := false }

theorem skewState_fetches : skewState.fetches 0 = true ∧
    skewState.place 0 skewStc.sp.toNat (eaOf skewState 0 skewStc) 4 .write .atomic = .ok skewPlace ∧
    (skewState.txnOf 0).isSome = true := by
  decide +kernel

theorem skewState_stores : (archOf skewState 0).link = some (skewPlace.pa / 64 * 64) ∧ skewState.drained 0 = true ∧
    skewState.storesOver skewPlace.pa 4 = false ∧ skewState.captureFail 0 skewPlace.pa 4 = none ∧
    (skewState.line? (clusterOf (pairOf 0)) skewPlace.pa).isSome = true := by
  decide +kernel

theorem accessStatus_skewState : (skewState.accessStatus 0 skewPlace.pa 4).1 = .ok := by
  have hdram : ∀ x ∈ [62, 65], skewState.region x = .dram := by decide +kernel
  obtain ⟨hiso, hlink⟩ : skewState.reg Reg.WRP_ISO = 0 ∧ skewState.reg Reg.WRP_LINKDOWN = 0 := by decide +kernel
  exact accessStatus_dram (hdram _ (by decide)) (hdram _ (by decide)) hiso hlink

/-- A store conditional that meets every check stores its word. -/
theorem storeConditional_stores {s : State} {u : Nat} {f : MemF} {p : Place}
    (hgo : goesTo s u f.sp.toNat (eaOf s u f) 4 .write .atomic p) (hj : p.journaled = true → (s.txnOf u).isSome = true)
    (hc : p.cacheable = true) (hl : (archOf s u).link = some (p.pa / 64 * 64)) (hd : s.drained u = true)
    (ho : s.storesOver p.pa 4 = false) (hcap : p.journaled = true → s.captureFail u p.pa 4 = none)
    (hok : (s.accessStatus u p.pa 4).1 = .ok)
    (hline : p.pairArea = true ∨ (s.line? (clusterOf (pairOf u)) p.pa).isSome = true) : s.storeConditional u f =
      (s.stcStore u p.pa (leBytes 4 ((archOf s u).reg f.rd).toNat) (s.storeKind p)).stcResult u f.rd true := by
  have hcap' : (if p.journaled = true then s.captureFail u p.pa 4 else none) = none := by
    split
    next h => exact hcap h
    next => rfl
  have hplace : s.place u f.sp.toNat ((s.unit u).arch.ea f.ra f.disp) 4 .write .atomic = .ok p := hgo
  have htxn : ¬(p.journaled = true ∧ (s.txnOf u).isNone = true) := by
    intro ⟨h, hn⟩
    simp [Option.isSome_iff_ne_none.mp (hj h)] at hn
  have hthere : (!p.pairArea && (s.line? (clusterOf (pairOf u)) p.pa).isNone) = false := by
    obtain h | h := hline <;> simp [h]
  have hlink : (s.unit u).arch.link = some (p.pa / 64 * 64) := hl
  rw [State.storeConditional]
  simp only [hplace, if_neg htxn, hc, hlink, hd, ho, hcap', hok, hthere, beq_self_eq_true, Bool.and_self, Bool.not_true,
    Bool.false_eq_true, or_self, if_false, ne_eq, not_true_eq_false]

/-- The STC captures the second line as well, in the bytes after the first line's entry. -/
theorem byte_skewState : (skewState.stcStore 0 skewPlace.pa (leBytes 4 ((archOf skewState 0).reg skewStc.rd).toNat)
    (skewState.storeKind skewPlace)).byte (skewState.capEntry 0 0 + 136) = 64 ∧
  skewState.byte (skewState.capEntry 0 0 + 136) = 0 := by
  decide +kernel

/-- Refutes O18: where a space does not begin at a multiple of 4 bytes, the word of an STC lies in two lines, and the capture of
the second changes bytes beyond the one entry that the statement allows. -/
theorem not_storeConditional : ¬ Obligations.StoreConditional := by
  unfold Obligations.StoreConditional
  intro h
  obtain ⟨hf, hgo, htxn⟩ := skewState_fetches
  obtain ⟨hl, hd, ho, hcap, hline⟩ := skewState_stores
  obtain ⟨hbyte, hblank⟩ := byte_skewState
  obtain ⟨t, hexec, -, -, hframe⟩ := (h skewState 0 skewStc skewPlace hf hgo fun _ => htxn).2 rfl hl hd ho (fun _ => hcap)
    accessStatus_skewState (.inr hline)
  have ht : t = skewState.conclude 0 (skewState.storeConditional 0 skewStc) := by
    rw [← execute_body (fun y => y.storeConditional 0 skewStc) hf (Legal.ok_default _)]
    exact (Host.Outcome.next.inj hexec).symm
  have hsame := hframe (skewState.capEntry 0 0 + 136) (.inr (by decide +kernel)) fun _ => .inr (by decide +kernel)
  rw [ht, storeConditional_stores hgo (fun _ => htxn) rfl hl hd ho (fun _ => hcap) accessStatus_skewState (.inr hline),
    State.stcResult, byte_conclude_done, State.mapArch, byte_of_mapUnit, hbyte, hblank] at hsame
  exact absurd hsame (by decide)

end Sys2Proof.Machine
end

section
/-! SUPPORT. The way of a store: the buffer of its unit, its pair and its cluster, the lines that it captures and the links that
it breaks. -/

namespace Sys2Proof.Machine

open Sys2Proof Sys2Proof.Stated

/-! ## A store enters its unit's buffer -/

theorem seenByte_pushStore_same (s : State) (u pa : Nat) (d : List Byte) {k : StoreKind} (hk : k ≠ .control) (a : Nat) :
    (s.pushStore u pa d k).seenByte u a = if pa ≤ a ∧ a < pa + d.length then d.getD (a - pa) 0 else s.seenByte u a := by
  have hpair (p : Nat) : (s.pushStore u pa d k).pair p = s.pair p := rfl
  have hcluster (c : Nat) : (s.pushStore u pa d k).cluster c = s.cluster c := rfl
  simp only [State.seenByte, unit_pushStore_same, hpair, hcluster, byte_pushStore]
  by_cases h : pa ≤ a ∧ a < pa + d.length
  case pos => rw [pendingByte_concat_of_covers _ ⟨h.1, h.2, hk⟩, if_pos h]
  case neg => rw [pendingByte_concat_of_not_covers _ fun hc => h ⟨hc.1, hc.2.1⟩, if_neg h]

theorem seenByte_pushStore_other (s : State) {u v : Nat} (pa : Nat) (d : List Byte) (k : StoreKind) (a : Nat) (h : v ≠ u) :
    (s.pushStore u pa d k).seenByte v a = s.seenByte v a := by
  have hpair (p : Nat) : (s.pushStore u pa d k).pair p = s.pair p := rfl
  have hcluster (c : Nat) : (s.pushStore u pa d k).cluster c = s.cluster c := rfl
  simp only [State.seenByte, unit_pushStore_other _ _ _ _ h, hpair, hcluster, byte_pushStore]

theorem pushStore_stores (s : State) (u pa : Nat) (d : List Byte) {k : StoreKind} (hk : k ≠ .control) :
    Stores s (s.pushStore u pa d k) u pa d where
  seen i h := by
    rw [seenByte_pushStore_same s u pa d hk, if_pos (by omega), Nat.add_sub_cancel_left, List.getD_eq_getElem _ _ h]
  others a h := by rw [seenByte_pushStore_same s u pa d hk, if_neg (by omega)]
  cells _ := rfl
  arch v _ := arch_pushStore s u v pa d k

/-! ## Links that a store breaks (R400) -/

/-- Links change, and nothing else: a state with units of its own. -/
structure LinksOnly (us : List Nat) (s t : State) : Prop where
  beside : t = { s with units := t.units }
  unit   : ∀ v, ∃ l, t.unit v = { s.unit v with arch := { archOf s v with link := l } }
  others : ∀ v, v ∉ us → t.unit v = s.unit v

namespace LinksOnly

variable {us vs : List Nat} {s t r : State}

theorem refl (us : List Nat) (s : State) : LinksOnly us s s := ⟨rfl, fun _ => ⟨_, rfl⟩, fun _ _ => rfl⟩

theorem trans (h : LinksOnly us s t) (g : LinksOnly us t r) : LinksOnly us s r where
  beside := by rw [g.beside, h.beside]
  unit v := by
    obtain ⟨l, hl⟩ := h.unit v
    obtain ⟨m, hm⟩ := g.unit v
    exact ⟨m, by rw [hm, archOf, hl]⟩
  others v hv := (g.others v hv).trans (h.others v hv)

theorem stores (h : LinksOnly us s t) (v : Nat) : (t.unit v).stores = (s.unit v).stores := by
  obtain ⟨l, hl⟩ := h.unit v
  rw [hl]

theorem lines (h : LinksOnly us s t) (v : Nat) : (t.unit v).lines = (s.unit v).lines := by
  obtain ⟨l, hl⟩ := h.unit v
  rw [hl]

theorem arch (h : LinksOnly us s t) (v : Nat) : { archOf t v with link := none } = { archOf s v with link := none } := by
  obtain ⟨l, hl⟩ := h.unit v
  rw [archOf, hl]

theorem mem (h : LinksOnly us s t) : t.mem = s.mem := by rw [h.beside]

theorem cluster (h : LinksOnly us s t) (c : Nat) : t.cluster c = s.cluster c := by rw [h.beside]; rfl

theorem pair (h : LinksOnly us s t) (p : Nat) : t.pair p = s.pair p := by rw [h.beside]; rfl

end LinksOnly

theorem breakLink_linksOnly (s : State) {u : Nat} {us : List Nat} (pa n : Nat) (hu : u ∈ us) : LinksOnly us s (s.breakLink u pa n) := by
  unfold State.breakLink
  split
  · split
    · refine ⟨rfl, fun v => ?_, fun v hv => unit_mapUnit_other s _ fun h => hv (h ▸ hu)⟩
      obtain rfl | h := eq_or_ne v u
      · exact ⟨_, unit_mapUnit_same s v _⟩
      · exact ⟨_, unit_mapUnit_other s _ h⟩
    · exact .refl us s
  · exact .refl us s

theorem breakLinks_linksOnly (s : State) (us : List Nat) (w : Option Nat) (pa n : Nat) : LinksOnly us s (s.breakLinks us w pa n) := by
  have h (l : List Nat) (hl : l ⊆ us) (s : State) : LinksOnly us s (s.breakLinks l w pa n) := by
    induction l generalizing s with
    | nil => exact .refl us s
    | cons u l ih =>
      obtain ⟨hu, hl⟩ := List.cons_subset.mp hl
      refine .trans ?_ (ih hl _)
      dsimp only
      split
      exacts [.refl us s, breakLink_linksOnly s pa n hu]
  exact h us (List.Subset.refl us) s

/-! ## Lines that a store captures (R127) -/

/-- One line of a store is captured: the body of `State.captureStore`. -/
def State.captureOne (base u : Nat) (s : State) (l : Nat) : State :=
  if hasLine (s.unit u).lines (l - base) then s
  else
    let before := s.pairLine u l
    let at_ := s.capEntry u (s.unit u).lines.length
    ((s.clearPoison at_ 72).setBytes at_ (leBytes 8 (l - base) ++ fitTo 64 before)).mapUnit u fun x =>
      { x with lines := x.lines ++ [{ off := l - base, before := before, after := [] }] }

theorem captureStore_eq (s : State) (u : Nat) (b : BufStore) : s.captureStore u b =
    (linesOf b.pa b.data.length).foldl (State.captureOne (s.liveRegion (s.unit u).execPlot).1 u) s := rfl

/-- A unit captures n lines at most: its list grows, and memory changes in the entries of n lines after it. -/
structure Captures (u n : Nat) (s t : State) : Prop where
  beside : SameBeside s t
  unit   : ∃ l : List LineEntry, l.length ≤ n ∧ t.unit u = { s.unit u with lines := (s.unit u).lines ++ l }
  others : ∀ v, v ≠ u → t.unit v = s.unit v
  bytes  : ∀ a, (a < s.capEntry u (s.unit u).lines.length ∨ s.capEntry u (s.unit u).lines.length + 136 * n ≤ a) →
    t.byte a = s.byte a

namespace Captures

variable {u n m : Nat} {s t r : State}

theorem refl (u : Nat) (s : State) : Captures u 0 s s :=
  ⟨.refl s, ⟨[], Nat.le_refl 0, by rw [List.append_nil]⟩, fun _ _ => rfl, fun _ _ => rfl⟩

theorem capEntry_eq (h : SameBeside s t) (i k : Nat) : t.capEntry u (i + k) = s.capEntry u i + 136 * k := by
  obtain ⟨us, m, rfl⟩ := h
  simp only [State.capEntry, Nat.mul_add, Nat.add_assoc]
  rfl

theorem trans (h : Captures u n s t) (g : Captures u m t r) : Captures u (n + m) s r := by
  obtain ⟨l, hl, hu⟩ := h.unit
  obtain ⟨k, hk, hv⟩ := g.unit
  have hcap : t.capEntry u (t.unit u).lines.length = s.capEntry u (s.unit u).lines.length + 136 * l.length := by
    rw [hu, List.length_append]
    exact capEntry_eq h.beside _ _
  refine ⟨?_, ⟨l ++ k, ?_, ?_⟩, fun v hv => (g.others v hv).trans (h.others v hv), fun a ha => ?_⟩
  · obtain ⟨us, m, rfl⟩ := h.beside
    obtain ⟨us', m', rfl⟩ := g.beside
    exact ⟨us', m', rfl⟩
  · rw [List.length_append]
    omega
  · rw [hv, hu, List.append_assoc]
  · have := g.bytes a (by omega)
    exact this.trans (h.bytes a (by omega))

theorem hasLine (h : Captures u n s t) {off : Nat} (ho : hasLine (s.unit u).lines off = true) : hasLine (t.unit u).lines off = true := by
  obtain ⟨l, -, hu⟩ := h.unit
  rw [hu]
  simpa [Machine.hasLine] using .inl (by simpa [Machine.hasLine] using ho)

end Captures

theorem hasLine_concat (l : List LineEntry) (e : LineEntry) : hasLine (l ++ [e]) e.off = true := by simp [hasLine]

theorem setBytes_mem (s : State) (a : Nat) (l : List Byte) : ∃ m, s.setBytes a l = { s with mem := m } := by
  induction l generalizing s a with
  | nil => exact ⟨s.mem, rfl⟩
  | cons b l ih =>
    obtain ⟨m, hm⟩ := ih (s.setByte a b) (a + 1)
    exact ⟨m, hm⟩

theorem fitTo_self {n : Nat} {l : List Byte} (h : l.length = n) : fitTo n l = l := by
  rw [fitTo, h, Nat.sub_self, zeros, List.replicate_zero, List.append_nil, ← h, List.take_length]

@[simp] theorem length_pairLine (s : State) (u pa : Nat) : (s.pairLine u pa).length = 64 := length_seenBytes _ _ _ _

/-- The entry that captures a line. -/
def State.capturedEntry (s : State) (u base l : Nat) : LineEntry := { off := l - base, before := s.pairLine u l, after := [] }

/-- The line that is captured stands in its entry (R127). -/
theorem captureOne_new {s : State} {base u l : Nat} (h : hasLine (s.unit u).lines (l - base) = false) :
    Captures u 1 s (State.captureOne base u s l) ∧
    (State.captureOne base u s l).bytes (s.capEntry u (s.unit u).lines.length) 72 = leBytes 8 (l - base) ++ s.pairLine u l ∧
    ((State.captureOne base u s l).unit u).lines = (s.unit u).lines ++ [s.capturedEntry u base l] := by
  have hlen : (leBytes 8 (l - base) ++ s.pairLine u l).length = 72 := by simp
  rw [State.captureOne, if_neg (by simp [h])]
  dsimp only
  rw [fitTo_self (length_pairLine s u l)]
  generalize leBytes 8 (l - base) ++ s.pairLine u l = data at hlen
  generalize hat : s.capEntry u (s.unit u).lines.length = at_
  obtain ⟨m, hm⟩ := setBytes_mem (s.clearPoison at_ 72) at_ data
  have hunit (v : Nat) : ((s.clearPoison at_ 72).setBytes at_ data).unit v = s.unit v := by rw [hm]; rfl
  refine ⟨⟨?_, ⟨[s.capturedEntry u base l], Nat.le_refl 1, ?_⟩, fun v hv => ?_, fun a ha => ?_⟩, ?_, ?_⟩
  · rw [hm]
    exact ⟨_, _, rfl⟩
  · rw [unit_mapUnit_same, hunit]
    rfl
  · rw [unit_mapUnit_other _ _ hv, hunit]
  · rw [byte_of_mapUnit, byte_setBytes_other _ _ _ _ (by omega)]
    rfl
  · rw [bytes_of_mem (mapUnit_mem _ u _)]
    exact bytes_setBytes _ _ hlen
  · rw [unit_mapUnit_same, hunit]
    rfl

theorem captureOne_captures (s : State) (base u l : Nat) : Captures u 1 s (State.captureOne base u s l) ∧
    hasLine ((State.captureOne base u s l).unit u).lines (l - base) = true := by
  by_cases h : hasLine (s.unit u).lines (l - base) = true
  case pos =>
    rw [State.captureOne, if_pos h]
    refine ⟨⟨.refl s, ⟨[], Nat.zero_le 1, by rw [List.append_nil]⟩, fun _ _ => rfl, fun _ _ => rfl⟩, h⟩
  case neg =>
    obtain ⟨hcap, -, hlines⟩ := captureOne_new (by simpa using h)
    exact ⟨hcap, by rw [hlines]; exact hasLine_concat _ (s.capturedEntry u base l)⟩

theorem captureAll_captures (base u : Nat) (ls : List Nat) (s : State) : Captures u ls.length s (ls.foldl (State.captureOne base u) s) ∧
    ∀ l ∈ ls, hasLine ((ls.foldl (State.captureOne base u) s).unit u).lines (l - base) = true := by
  induction ls generalizing s with
  | nil => exact ⟨.refl u s, nofun⟩
  | cons l ls ih =>
    obtain ⟨hone, hhas⟩ := captureOne_captures s base u l
    obtain ⟨hrest, hall⟩ := ih (State.captureOne base u s l)
    rw [List.foldl_cons, List.length_cons, Nat.add_comm]
    refine ⟨hone.trans hrest, fun k hk => ?_⟩
    obtain rfl | hk := List.mem_cons.mp hk
    exacts [hrest.hasLine hhas, hall k hk]

end Sys2Proof.Machine
end

section
/-! OBLIGATIONS. A store on its way to memory (O17). -/

namespace Sys2Proof.Machine

open Sys2Proof Sys2Proof.Stated

/-! ## From the unit to its pair -/

/-- The lines of a journaled store are captured. -/
def State.capturing (s : State) (u : Nat) (b : BufStore) : State := if b.kind = .journal then s.captureStore u b else s

/-- A store as it stands at its pair. -/
def State.marked (s : State) (u : Nat) (b : BufStore) : BufStore :=
  { b with mark := if b.kind = .journal then some (s.epochAt u) else none }

theorem capturing_captures (s : State) (u : Nat) (b : BufStore) : Captures u (linesOf b.pa b.data.length).length s (s.capturing u b) := by
  unfold State.capturing
  split
  · exact (captureAll_captures _ u _ s).1
  · exact ⟨.refl s, ⟨[], Nat.zero_le _, by rw [List.append_nil]⟩, fun _ _ => rfl, fun _ _ => rfl⟩

theorem storeToPair_eq {s : State} {u : Nat} {b : BufStore} {rest : List BufStore} (h : (s.unit u).stores = b :: rest) (hu : b.unit = u) :
    s.storeToPair u = ((((s.capturing u b).mapUnit u fun x => { x with stores := x.stores.filter fun y => y.id ≠ b.id }).mapPair
      (pairOf u) fun x => { x with stores := x.stores ++ [s.marked u b] }).breakLinks (unitsOfPair (pairOf u)) (some u) b.pa
      b.data.length) := by
  have hepoch : (s.capturing u b).epochAt u = s.epochAt u := by
    obtain ⟨l, -, hl⟩ := (capturing_captures s u b).unit
    obtain ⟨us, m, hbeside⟩ := (capturing_captures s u b).beside
    rw [State.epochAt, hl, State.epochAt, hbeside]
    rfl
  rw [State.storeToPair, h]
  dsimp only
  rw [show (if b.kind = .journal then s.captureStore u b else s) = s.capturing u b from rfl, hepoch]
  subst hu
  rfl

/-- What the pair sees of a store that leaves its unit's buffer (R127, R390, R410). -/
theorem unitDrain_reaches {s : State} {u : Nat} {b : BufStore} {rest : List BufStore} (h : (s.unit u).stores = b :: rest)
    (hu : b.unit = u) (hrest : ∀ x ∈ rest, x.id ≠ b.id) :
    ((s.storeToPair u).unit u).stores = rest ∧
    ((s.storeToPair u).pair (pairOf u)).stores = (s.pair (pairOf u)).stores ++ [s.marked u b] ∧
    ((s.storeToPair u).unit u).lines = ((s.capturing u b).unit u).lines ∧ (s.storeToPair u).mem = (s.capturing u b).mem := by
  rw [storeToPair_eq h hu]
  obtain ⟨us, m, hbeside⟩ := (capturing_captures s u b).beside
  have hstores : ((s.capturing u b).unit u).stores = b :: rest := by
    obtain ⟨l, -, hl⟩ := (capturing_captures s u b).unit
    rw [hl, h]
  have hpair : (s.capturing u b).pair (pairOf u) = s.pair (pairOf u) := by rw [hbeside]; rfl
  generalize s.capturing u b = y at hstores hpair ⊢
  generalize hz : (y.mapUnit u fun x => { x with stores := x.stores.filter fun y => y.id ≠ b.id }).mapPair (pairOf u) (fun x =>
    { x with stores := x.stores ++ [s.marked u b] }) = z
  have hlinks := breakLinks_linksOnly z (unitsOfPair (pairOf u)) (some u) b.pa b.data.length
  have hunit : z.unit u = { y.unit u with stores := (y.unit u).stores.filter fun y => y.id ≠ b.id } := by
    rw [← hz, unit_of_mapPair, unit_mapUnit_same]
  refine ⟨?_, ?_, ?_, ?_⟩
  · rw [hlinks.stores, hunit, hstores]
    simpa using hrest
  · rw [hlinks.pair, ← hz, pair_mapPair_same]
    exact congrArg (·.stores ++ _) hpair
  · rw [hlinks.lines, hunit]
  · rw [hlinks.mem, ← hz]
    rfl

/-! ## From the cluster to a scratchpad -/

section

variable {s : State} {u : Nat} {b : BufStore} {rest : List BufStore}

/-- The oldest store of a cluster leaves for the scratchpad. -/
theorem clusterDrain_eq (h : (s.cluster (clusterOf (pairOf u))).stores = b :: rest) (hu : b.unit = u) (hk : b.kind = .scratch)
    (hok : (s.accessStatus u b.pa b.data.length).1 = .ok) (hcr : s.creditOut (clusterOf (pairOf u)) b.pa = false) :
    exec (.storeDrain u .cluster .ok) s = .next ((s.dropStore .cluster b).storeScratch (clusterOf (pairOf u)) b) := by
  have hstatus : s.storeStatus b .ok = .ok := by rw [State.storeStatus, hu]; exact hok
  show Host.Outcome.next _ = _
  simp only [h, List.find?_cons_of_pos (p := fun x : BufStore => decide (x.unit = u)) (decide_eq_true hu), List.takeWhile_cons,
    bne_self_eq_false, Bool.false_eq_true, if_false, List.any_nil, hcr, Bool.and_false, Bool.or_self, hstatus, ne_eq,
    not_true_eq_false, State.storeToDevice, hk]

theorem strongOf_dropStore : (s.dropStore .cluster b).strongOf b = s.strongOf b := rfl

theorem strongOf_lt {d : Nat} (h : s.strongOf b = some d) : d < 12 := by
  unfold State.strongOf at h
  split at h
  case h_1 c off hr =>
    obtain ⟨-, rfl⟩ : _ ∧ c = d := by simpa using h
    unfold State.region at hr
    split_ifs at hr
    simp only [Region.scratch.injEq] at hr
    omega
  case h_2 => cases h

theorem sperr_notin_gleanRegs : ∀ d < 12, clsReg Reg.CLS_SPERR d ∉ gleanRegs := by decide

/-- A store that may not reach the strongroom is discarded (R428). -/
theorem storeScratch_denied {d : Nat} (hd : s.strongOf b = some d) (hb : b.strong = false) (c : Nat) :
    let t := (s.dropStore .cluster b).storeScratch c b
    t.mem = s.mem ∧ t.units = s.units ∧ t.bit (clsReg Reg.CLS_SPERR d) 2 = true := by
  have hdrop : (s.dropStore .cluster b).strongOf b = some d := hd
  rw [State.storeScratch, hdrop]
  dsimp only
  rw [hb, Bool.not_false, if_pos rfl, State.strongDeny]
  have hcells := cells_of_inner (inner_errEvent (s.dropStore .cluster b) (clsReg Reg.CLS_SPERR d) 2 (Src.cluster d) 0 noPlot 0)
  exact ⟨mem_of_cells hcells, congrArg Prod.fst hcells,
    bit_errEvent _ _ _ _ (by decide) (by decide) (sperr_notin_gleanRegs d (strongOf_lt hd))⟩

/-- A store that a scratchpad takes is written and seen by the other clusters (R390, R400). -/
theorem storeScratch_taken (hd : ∀ d, s.strongOf b = some d → b.strong = true ∧ s.bit (clsReg Reg.CLS_SPSTAT d) 16 = false) (c : Nat) :
    (s.dropStore .cluster b).storeScratch c b = (s.dropStore .cluster b).storeSeen c b := by
  have hbit (d : Nat) : (s.dropStore .cluster b).bit (clsReg Reg.CLS_SPSTAT d) 16 = s.bit (clsReg Reg.CLS_SPSTAT d) 16 := rfl
  rw [State.storeScratch, strongOf_dropStore]
  split
  · rfl
  next d hs =>
    obtain ⟨hb, hw⟩ := hd d hs
    rw [hb, hbit, hw]
    rfl

end

/-- A store that other clusters see: memory takes its bytes, and of the units only the links of those clusters change. -/
theorem storeSeen_taken (s : State) (c : Nat) (b : BufStore) : let t := s.storeSeen c b
    (∀ i (h : i < b.data.length), t.byte (b.pa + i) = b.data[i]) ∧
    (∀ a, (a < b.pa ∨ b.pa + b.data.length ≤ a) → t.byte a = s.byte a) ∧
    (∀ v, { archOf t v with link := none } = { archOf s v with link := none }) ∧
    (∀ v, clusterOf (pairOf v) = c → archOf t v = archOf s v) ∧ ∀ d, t.cluster d = s.cluster d := by
  obtain ⟨m, hm⟩ := setBytes_mem s b.pa b.data
  have hlinks := breakLinks_linksOnly (s.memStore b.pa b.data) (allUnits.filter fun v => clusterOf (pairOf v) ≠ c) none b.pa
    b.data.length
  have hunit (v : Nat) : (s.memStore b.pa b.data).unit v = s.unit v := by rw [State.memStore, hm]; rfl
  have hbyte (a : Nat) : (s.storeSeen c b).byte a = (s.setBytes b.pa b.data).byte a := byte_of_mem hlinks.mem a
  refine ⟨fun i h => ?_, fun a ha => ?_, fun v => ?_, fun v hv => ?_, fun d => ?_⟩
  · rw [hbyte, byte_setBytes_in s b.pa i b.data h]
  · rw [hbyte, byte_setBytes_other s b.pa a b.data ha]
  · exact (hlinks.arch v).trans (by rw [archOf, hunit])
  · have hout : v ∉ allUnits.filter fun v => clusterOf (pairOf v) ≠ c := by simp [hv]
    exact congrArg CoreUnit.arch ((hlinks.others v hout).trans (hunit v))
  · exact (hlinks.cluster d).trans (by rw [State.memStore, hm]; rfl)

/-- Settles O17: a store enters its unit's buffer, moves to its pair with its lines captured, and is written where it leaves the
cluster. -/
theorem storeReachesMemory : Obligations.StoreReachesMemory := by
  refine ⟨fun s u v pa d k hk hv => ⟨pushStore_stores s u pa d hk, fun a => seenByte_pushStore_other s pa d k a hv⟩,
    fun s u b rest h hu hk hok hcr => ⟨fun d hd hb => ?_, fun hd => ?_⟩, fun s u b rest h hu hrest => ?_⟩
  case refine_1 => exact ⟨_, clusterDrain_eq h hu hk hok hcr, storeScratch_denied hd hb _⟩
  case refine_2 =>
    obtain ⟨hin, hout, harch, hsame, hcluster⟩ := storeSeen_taken (s.dropStore .cluster b) (clusterOf (pairOf u)) b
    refine ⟨_, clusterDrain_eq h hu hk hok hcr, ?_⟩
    rw [storeScratch_taken hd]
    refine ⟨hin, hout, harch, hsame, ?_⟩
    rw [hcluster, State.dropStore, hu, cluster_mapCluster_same, h]
  case refine_3 =>
    obtain ⟨hstores, hpair, hlines, hmem⟩ := unitDrain_reaches h hu hrest
    refine ⟨s.storeToPair u, rfl, hstores, hpair, fun hk l hl => ?_, fun l hk hone => ?_, fun a ha => ?_⟩
    · rw [hlines, State.capturing, if_pos hk, captureStore_eq]
      exact (captureAll_captures _ u _ s).2 l hl
    · intro off hnew
      rw [bytes_of_mem hmem, State.capturing, if_pos hk, captureStore_eq, hone]
      exact (captureOne_new hnew).2.1
    · rw [byte_of_mem hmem]
      obtain hk | ha := ha
      · rw [State.capturing, if_neg hk]
      · exact (capturing_captures s u b).bytes a ha

end Sys2Proof.Machine
end

section
/-! SUPPORT. The lines of the cluster caches: what each operation on a line finds, leaves and keeps. -/

namespace Sys2Proof.Machine

open Sys2Proof Sys2Proof.Stated

/-! ## One line of one cluster -/

theorem lineOf_of_line? {s : State} {c pa : Nat} {l : CLine} (h : s.line? c pa = some l) : l.pa = lineOf pa := by
  simpa using List.find?_some h

theorem line?_of_lineOf (s : State) (c : Nat) {pa pa' : Nat} (h : lineOf pa' = lineOf pa) : s.line? c pa' = s.line? c pa := by
  rw [State.line?, h, State.line?]

theorem line?_mapCluster_other (s : State) {c d : Nat} (f : Cluster → Cluster) (pa : Nat) (h : d ≠ c) :
    (s.mapCluster c f).line? d pa = s.line? d pa := by
  rw [State.line?, cluster_mapCluster_other s f h, State.line?]

theorem line?_putLine_same (s : State) (c : Nat) {l : CLine} {pa : Nat} (h : l.pa = lineOf pa) : (s.putLine c l).line? c pa = some l := by
  have hnone : ((s.cluster c).lines.filter fun y => y.pa ≠ l.pa).find? (fun y => y.pa = lineOf pa) = none := by
    rw [List.find?_eq_none]
    intro y hy
    simpa [h] using (List.mem_filter.mp hy).2
  rw [State.line?, State.putLine, cluster_mapCluster_same, List.find?_append, hnone]
  simp [h]

theorem find?_filter_line (l : List CLine) {a b : Nat} (h : a ≠ b) :
    (l.filter fun y => y.pa ≠ a).find? (fun y => y.pa = b) = l.find? (fun y => y.pa = b) := by
  rw [List.find?_filter]
  congr 1
  funext y
  by_cases hy : y.pa = b <;> simp [hy, Ne.symm h]

theorem line?_putLine_other (s : State) (c : Nat) {l : CLine} {pa : Nat} (h : l.pa ≠ lineOf pa) :
    (s.putLine c l).line? c pa = s.line? c pa := by
  rw [State.line?, State.putLine, cluster_mapCluster_same, List.find?_append, find?_filter_line _ h, State.line?]
  simp [h]

theorem line?_dropLine_same (s : State) (c pa : Nat) : (s.dropLine c pa).line? c pa = none := by
  rw [State.line?, State.dropLine, cluster_mapCluster_same, List.find?_eq_none]
  intro y hy
  simpa using (List.mem_filter.mp hy).2

theorem line?_dropLine_other (s : State) (c : Nat) {pa pa' : Nat} (h : lineOf pa' ≠ lineOf pa) :
    (s.dropLine c pa).line? c pa' = s.line? c pa' := by
  rw [State.line?, State.dropLine, cluster_mapCluster_same, find?_filter_line _ h.symm, State.line?]

theorem line?_doom (s : State) (c d pa pa' : Nat) : (s.doom c pa).line? d pa' = s.line? d pa' := by
  obtain rfl | h := eq_or_ne d c
  · rw [State.line?, State.doom, cluster_mapCluster_same, State.line?]
  · exact line?_mapCluster_other s _ pa' h

/-! ## CLEAN and the loss of a line -/

theorem line?_cleanLine_same (s : State) (c pa : Nat) : (s.cleanLine c pa).line? c pa =
    (s.line? c pa).map fun l => { l with dirty := none } := by
  unfold State.cleanLine
  split
  next l h =>
    have hpa : l.pa = lineOf pa := lineOf_of_line? h
    rw [h]
    exact line?_putLine_same s c hpa
  next h => rw [h]; rfl

theorem line?_cleanLine_other (s : State) {c d pa pa' : Nat} (h : d ≠ c ∨ lineOf pa' ≠ lineOf pa) :
    (s.cleanLine c pa).line? d pa' = s.line? d pa' := by
  unfold State.cleanLine
  split
  next l hl =>
    obtain rfl | hd := eq_or_ne d c
    · have hpa : l.pa = lineOf pa := lineOf_of_line? hl
      exact line?_putLine_other s d fun e => h.resolve_left (· rfl) (e.symm.trans hpa)
    · exact line?_mapCluster_other s _ pa' hd
  next => rfl

theorem cleanAt_iff {s : State} {c pa : Nat} : cleanAt s c pa = true ↔ ∀ l, s.line? c pa = some l → l.dirty = none := by
  cases h : s.line? c pa <;> simp [cleanAt, h]

theorem goneAt_iff {s : State} {c pa : Nat} : goneAt s c pa = true ↔
    ∀ l, s.line? c pa = some l → l.dirty = none ∧ l.mark.isSome = true := by
  cases h : s.line? c pa <;> simp [goneAt, h]

theorem cleanAt_cleanLine (s : State) (c pa : Nat) : cleanAt (s.cleanLine c pa) c pa = true := by
  rw [cleanAt_iff, line?_cleanLine_same]
  intro l hl
  obtain ⟨k, -, rfl⟩ := Option.map_eq_some_iff.mp hl
  rfl

/-- A line that is written back stays clean when any line is. -/
theorem cleanAt_cleanLine_keeps {s : State} {d pa : Nat} (c pa' : Nat) (h : cleanAt s d pa = true) :
    cleanAt (s.cleanLine c pa') d pa = true := by
  by_cases hsame : d = c ∧ lineOf pa = lineOf pa'
  case pos =>
    obtain ⟨rfl, hl⟩ := hsame
    rw [cleanAt, line?_of_lineOf _ d hl]
    exact cleanAt_cleanLine s d pa'
  case neg => rwa [cleanAt, line?_cleanLine_other s (by tauto)]

theorem line?_invalLine_same (s : State) (c pa : Nat) : (s.invalLine c pa).line? c pa =
    ((s.line? c pa).filter fun l => l.mark.isSome).map fun l => { l with dirty := none } := by
  rw [State.invalLine]
  rw [line?_doom, line?_cleanLine_same]
  cases h : s.line? c pa with
  | none => simp [line?_doom, line?_cleanLine_same, h]
  | some l =>
    by_cases hm : l.mark.isSome = true
    · simp [line?_doom, line?_cleanLine_same, h, hm]
    · simp [line?_dropLine_same, Option.not_isSome_iff_eq_none.mp hm]

theorem line?_invalLine_other (s : State) {c d pa pa' : Nat} (h : d ≠ c ∨ lineOf pa' ≠ lineOf pa) :
    (s.invalLine c pa).line? d pa' = s.line? d pa' := by
  have hbase : ((s.cleanLine c pa).doom c pa).line? d pa' = s.line? d pa' := by rw [line?_doom, line?_cleanLine_other s h]
  have hdrop (t : State) : (t.dropLine c pa).line? d pa' = t.line? d pa' := by
    obtain rfl | hd := eq_or_ne d c
    · exact line?_dropLine_other t d (h.resolve_left (· rfl))
    · exact line?_mapCluster_other t _ pa' hd
  rw [State.invalLine]
  split
  · split
    exacts [hbase, (hdrop _).trans hbase]
  · exact hbase

theorem goneAt_invalLine (s : State) (c pa : Nat) : goneAt (s.invalLine c pa) c pa = true := by
  rw [goneAt_iff, line?_invalLine_same]
  intro l hl
  obtain ⟨k, hk, rfl⟩ := Option.map_eq_some_iff.mp hl
  exact ⟨rfl, (Option.filter_eq_some_iff.mp hk).2⟩

theorem goneAt_invalLine_keeps {s : State} {d pa : Nat} (c pa' : Nat) (h : goneAt s d pa = true) :
    goneAt (s.invalLine c pa') d pa = true := by
  by_cases hsame : d = c ∧ lineOf pa = lineOf pa'
  case pos =>
    obtain ⟨rfl, hl⟩ := hsame
    rw [goneAt, line?_of_lineOf _ d hl]
    exact goneAt_invalLine s d pa'
  case neg => rwa [goneAt, line?_invalLine_other s (by tauto)]

/-! ## Every cluster, and every line of a range -/

/-- What a step establishes for its own item and every step keeps holds of every item after a fold. -/
theorem foldl_establishes {α β : Type} {f : α → β → α} {P : β → α → Prop} (hset : ∀ s x, P x (f s x))
    (hkeep : ∀ s x y, P x s → P x (f s y)) (l : List β) (s : α) : ∀ x ∈ l, P x (l.foldl f s) := by
  have hall (l : List β) (s : α) (x : β) (h : P x s) : P x (l.foldl f s) := by
    induction l generalizing s with
    | nil => exact h
    | cons y l ih => exact ih _ (hkeep s x y h)
  induction l generalizing s with
  | nil => exact nofun
  | cons y l ih =>
    intro x hx
    obtain rfl | hx := List.mem_cons.mp hx
    exacts [hall l _ x (hset s x), ih _ x hx]

theorem mem_allClusters {d : Nat} : d ∈ allClusters ↔ d < 12 := List.mem_range

theorem cleanAt_cleanAll (s : State) (pa : Nat) {d : Nat} (h : d < 12) : cleanAt (s.cleanAll pa) d pa = true :=
  foldl_establishes (P := fun c t => cleanAt t c pa = true) (fun s c => cleanAt_cleanLine s c pa)
    (fun _ _ c h => cleanAt_cleanLine_keeps c pa h) allClusters s d (mem_allClusters.mpr h)

theorem goneAt_flushAll (s : State) (pa : Nat) {d : Nat} (h : d < 12) : goneAt (s.flushAll pa) d pa = true :=
  foldl_establishes (P := fun c t => goneAt t c pa = true) (fun s c => goneAt_invalLine s c pa)
    (fun _ _ c h => goneAt_invalLine_keeps c pa h) allClusters s d (mem_allClusters.mpr h)

theorem foldl_preserves {α β : Type} {f : α → β → α} {P : α → Prop} (h : ∀ s x, P s → P (f s x)) (l : List β) {s : α} (hs : P s) :
    P (l.foldl f s) := by
  induction l generalizing s with
  | nil => exact hs
  | cons y l ih => exact ih (h s y hs)

theorem cleanAt_cleanAll_keeps {s : State} {d pa : Nat} (pa' : Nat) (h : cleanAt s d pa = true) : cleanAt (s.cleanAll pa') d pa = true :=
  foldl_preserves (P := fun t => cleanAt t d pa = true) (fun _ c => cleanAt_cleanLine_keeps c pa') allClusters h

theorem goneAt_flushAll_keeps {s : State} {d pa : Nat} (pa' : Nat) (h : goneAt s d pa = true) : goneAt (s.flushAll pa') d pa = true :=
  foldl_preserves (P := fun t => goneAt t d pa = true) (fun _ c => goneAt_invalLine_keeps c pa') allClusters h

/-! ## Nothing but caches changes -/

/-- Two states that differ in their clusters alone. -/
def CachesOnly (s t : State) : Prop := ∃ k, t = { s with clusters := k }

namespace CachesOnly

variable {s t r : State}

theorem refl (s : State) : CachesOnly s s := ⟨s.clusters, rfl⟩

theorem trans (h : CachesOnly s t) (g : CachesOnly t r) : CachesOnly s r := by
  obtain ⟨k, rfl⟩ := h
  obtain ⟨k', rfl⟩ := g
  exact ⟨k', rfl⟩

theorem foldl {β : Type} {f : State → β → State} (h : ∀ s x, CachesOnly s (f s x)) (l : List β) (s : State) :
    CachesOnly s (l.foldl f s) :=
  foldl_preserves (P := CachesOnly s) (fun t x ht => ht.trans (h t x)) l (.refl s)

theorem cleanLine (s : State) (c pa : Nat) : CachesOnly s (s.cleanLine c pa) := by
  unfold State.cleanLine
  split
  exacts [⟨_, rfl⟩, .refl s]

theorem invalLine (s : State) (c pa : Nat) : CachesOnly s (s.invalLine c pa) := by
  have h : CachesOnly s ((s.cleanLine c pa).doom c pa) := (cleanLine s c pa).trans ⟨_, rfl⟩
  unfold State.invalLine
  dsimp only
  split
  · split
    exacts [h, h.trans ⟨_, rfl⟩]
  · exact h

theorem cleanAll (s : State) (pa : Nat) : CachesOnly s (s.cleanAll pa) := .foldl (fun s c => cleanLine s c pa) allClusters s

theorem flushAll (s : State) (pa : Nat) : CachesOnly s (s.flushAll pa) := .foldl (fun s c => invalLine s c pa) allClusters s

theorem region (h : CachesOnly s t) (pa : Nat) : t.region pa = s.region pa := by
  obtain ⟨k, rfl⟩ := h
  rfl

end CachesOnly

theorem cluster_invalLine_other (s : State) {c d : Nat} (pa : Nat) (h : d ≠ c) : (s.invalLine c pa).cluster d = s.cluster d := by
  have hclean : (s.cleanLine c pa).cluster d = s.cluster d := by
    unfold State.cleanLine
    split
    exacts [cluster_mapCluster_other s _ h, rfl]
  have hdoom : ((s.cleanLine c pa).doom c pa).cluster d = s.cluster d := (cluster_mapCluster_other _ _ h).trans hclean
  unfold State.invalLine
  dsimp only
  split
  · split
    exacts [hdoom, (cluster_mapCluster_other _ _ h).trans hdoom]
  · exact hdoom

end Sys2Proof.Machine
end

section
/-! OBLIGATIONS. The cache operations by line and by range (O19). -/

namespace Sys2Proof.Machine

open Sys2Proof Sys2Proof.Stated

/-! ## A line operation retires -/

/-- What an instruction that touches caches leaves alone: every unit's architected state and memory. -/
structure CacheFrame (s t : State) : Prop where
  arch : ∀ v, archOf t v = archOf s v
  mem  : t.mem = s.mem

theorem CachesOnly.frame {s t : State} (h : CachesOnly s t) : CacheFrame s t := by
  obtain ⟨k, rfl⟩ := h
  exact ⟨fun _ => rfl, rfl⟩

/-- How an operation on a line ends: it retires, and no byte of memory and no other unit changes. -/
def LineDone (s t : State) (u : Nat) : Prop :=
  archOf t u = after (archOf s u) (pcNext s u) ∧ (∀ a, t.byte a = s.byte a) ∧ ∀ v, v ≠ u → archOf t v = archOf s v

/-- An instruction that has only touched caches retires. -/
theorem CacheFrame.done {s t : State} {u : Nat} (h : CacheFrame s t) :
    LineDone s (s.conclude u (.done t)) u ∧ (s.conclude u (.done t)).clusters = t.clusters := by
  have hpc : (t.unit u).arch.pc + 4 = pcNext s u := by rw [pcNext, ← h.arch u]
  have hr := retire_retires t u (pcNext s u)
  rw [State.conclude, hpc]
  refine ⟨⟨?_, fun a => byte_of_mem (hr.frame.mem.trans h.mem) a, fun v hv => (hr.frame.arch v hv).trans (h.arch v)⟩,
    hr.frame.clusters⟩
  rw [archOf, hr.arch, after, ← h.arch u]

theorem line?_of_clusters {s t : State} (h : t.clusters = s.clusters) (c pa : Nat) : t.line? c pa = s.line? c pa := by
  rw [State.line?, State.cluster, h, State.line?, State.cluster]

section

variable {s : State} {u : Nat} {f : CacF} {p : Place} {c : Instr} {op : State → Nat → Nat → Place → State}

/-- A line operation on DRAM ends with what it does to the line. -/
theorem ends_lineOp (hf : s.fetches u = true) (hc : exec c s = .next (s.lineOp u f op)) (hl : 1 ≤ (archOf s u).level)
    (hgo : goesTo s u f.sp.toNat (lineEa s u f) 1 .read .line p) (hd : s.region p.pa = .dram) :
    Ends c s fun t => t = s.conclude u (.done (op s (clusterOf (pairOf u)) p.pa p)) := by
  refine ends_execute hf hc (by simpa [Legal.ok] using hl) ?_
  have hplace : s.place u f.sp.toNat ((s.unit u).arch.ea f.ra f.disp) 1 .read .line = .ok p := hgo
  rw [hplace]
  dsimp only
  rw [if_pos hd]

/-- An operation that touches nothing but caches retires, and the caches are as it left them. -/
theorem ends_lineOp_done (hf : s.fetches u = true) (hc : exec c s = .next (s.lineOp u f op)) (hl : 1 ≤ (archOf s u).level)
    (hgo : goesTo s u f.sp.toNat (lineEa s u f) 1 .read .line p) (hd : s.region p.pa = .dram)
    (hframe : CacheFrame s (op s (clusterOf (pairOf u)) p.pa p)) :
    Ends c s fun t => LineDone s t u ∧ t.clusters = (op s (clusterOf (pairOf u)) p.pa p).clusters := by
  obtain ⟨t, ht, rfl⟩ := ends_lineOp hf hc hl hgo hd
  exact ⟨_, ht, hframe.done⟩

end

/-! ## Fills -/

theorem filling_append (s : State) (c pa : Nat) {x : Fill} (hpa : x.pa = lineOf pa) (hserved : x.served = false) :
    (s.mapCluster c fun k => { k with fills := k.fills ++ [x] }).filling c pa = true := by
  simp [State.filling, cluster_mapCluster_same, hpa, hserved]

theorem preloadLine_fills {s : State} {c pa : Nat} (u : Nat) (hno : (s.line? c pa).isNone = true) (hfill : s.filling c pa = false)
    (hway : (s.emptyLocked c pa).isSome = true) :
    CacheFrame s (s.preloadLine u c pa) ∧ (s.preloadLine u c pa).filling c pa = true := by
  obtain ⟨w, hw⟩ := Option.isSome_iff_exists.mp hway
  rw [State.preloadLine, hw, Option.isNone_iff_eq_none.mp hno]
  simp only [hfill, Bool.false_eq_true, if_false]
  exact ⟨⟨fun _ => rfl, rfl⟩, filling_append s c pa rfl rfl⟩

theorem prefetchLine_fills {s : State} {c pa : Nat} (u : Nat) (hfillable : s.fillable c pa = true)
    (hno : (s.line? c pa).isNone = true) (hfill : s.filling c pa = false) (hway : (s.chooseWay c pa).isSome = true) :
    CacheFrame s (s.prefetchLine u c pa) ∧ (s.prefetchLine u c pa).filling c pa = true := by
  obtain ⟨w, hw⟩ := Option.isSome_iff_exists.mp hway
  have hcredit : s.creditOut c pa = false := by
    simp only [State.fillable, Bool.and_eq_true, Bool.not_eq_true'] at hfillable
    exact hfillable.2
  rw [State.prefetchLine, if_neg (by simp [Option.isNone_iff_eq_none.mp hno, hfill, hw]), State.startFill,
    if_neg (by simp [hcredit]), hw]
  dsimp only
  refine ⟨?_, filling_append _ c pa rfl rfl⟩
  split <;> split <;> exact ⟨fun _ => rfl, rfl⟩

/-! ## A range operation -/

theorem setReg_setReg (a : Arch) (r : BitVec 5) (v w : Word) : (a.setReg r v).setReg r w = a.setReg r w := by
  have hincoming (x : Windows) (l m : List Word) : (x.setIncoming l).setIncoming m = x.setIncoming m := by
    obtain ⟨_ | ⟨_, _ | ⟨_, _⟩⟩, _⟩ := x <;> rfl
  have hincoming' (x : Windows) (l : List Word) : (x.setIncoming l).incoming = l := by
    obtain ⟨_ | ⟨_, _ | ⟨_, _⟩⟩, _⟩ := x <;> rfl
  have htop (x : Windows) (g h : Frame → Frame) : (x.mapTop g).mapTop h = x.mapTop (h ∘ g) := by
    obtain ⟨_ | ⟨_, _⟩, _⟩ := x <;> rfl
  simp only [Arch.setReg]
  split_ifs
  · rfl
  · simp
  · simp [hincoming, hincoming']
  · simp [htop, Function.comp_def]
  · simp [htop, Function.comp_def]

section

variable {s : State} {u : Nat}

theorem setRegs_keeps {α : Type} (p : State → α) (hm : ∀ (s : State) g, p (s.mapArch u g) = p s) (hd : ∀ s : State, p s.drawn = p s)
    (l : List (BitVec 5 × Word)) : p (s.setRegs u l) = p s := by
  refine foldl_keeps p (fun t x => ?_) s l
  split
  exacts [(hd _).trans (hm _ _), hm _ _]

/-- A write of one register, twice (log entry 33). -/
theorem arch_setRegs_twice (r : BitVec 5) (v w : Word) :
    ∃ x, archOf (s.setRegs u [(r, v), (r, w)]) u = (archOf s u).setReg r x := by
  have hone (t : State) (x : Word) (q : Prop) [Decidable q] :
      ∃ y, archOf (if q then (t.mapArch u fun a => a.setReg r (BitVec.ofNat 32 t.free)).drawn else
        t.mapArch u fun a => a.setReg r x) u = (archOf t u).setReg r y := by
    split
    · exact ⟨_, arch_mapArch_same t u fun a => a.setReg r (BitVec.ofNat 32 t.free)⟩
    · exact ⟨_, arch_mapArch_same t u _⟩
  rw [State.setRegs, List.foldl_cons, List.foldl_cons, List.foldl_nil]
  obtain ⟨y, hy⟩ := hone s v (r ≠ 0 ∧ [(r, v), (r, w)].any (fun y => y.1 == r && y.2 != v) = true)
  obtain ⟨z, hz⟩ := hone (if r ≠ 0 ∧ [(r, v), (r, w)].any (fun y => y.1 == r && y.2 != v) = true then
    (s.mapArch u fun a => a.setReg r (BitVec.ofNat 32 s.free)).drawn else s.mapArch u fun a => a.setReg r v) w
    (r ≠ 0 ∧ [(r, v), (r, w)].any (fun y => y.1 == r && y.2 != w) = true)
  exact ⟨z, hz.trans (by rw [hy, setReg_setReg])⟩

end

/-- What a range operation does to one line, which lies in DRAM or not. -/
def State.rangeLine (op : State → Nat → Nat → State) (c : Nat) (s : State) (l : Nat) : State :=
  if s.region l = .dram then op s c l else s

section

variable {op : State → Nat → Nat → State} (hop : ∀ s c l, CachesOnly s (op s c l)) (k : Nat)

include hop

theorem rangeLine_cachesOnly (s : State) (l : Nat) : CachesOnly s (s.rangeLine op k l) := by
  unfold State.rangeLine
  split
  exacts [hop s k l, .refl s]

/-- What the operation makes of one line and keeps of every line, a range operation makes of each line of DRAM. -/
theorem rangeLines_establish {P : Nat → State → Prop} (hset : ∀ s l, P l (op s k l)) (hkeep : ∀ s l m, P l s → P l (op s k m))
    (s : State) (ls : List Nat) : ∀ l ∈ ls, s.region l = .dram → P l (ls.foldl (State.rangeLine op k) s) := by
  have hone (t : State) (l : Nat) (hd : (t.rangeLine op k l).region l = .dram) : P l (t.rangeLine op k l) := by
    rw [(rangeLine_cachesOnly hop k t l).region] at hd
    rw [State.rangeLine, if_pos hd]
    exact hset t l
  have hother (t : State) (l m : Nat) (h : t.region l = .dram → P l t) (hd : (t.rangeLine op k m).region l = .dram) :
      P l (t.rangeLine op k m) := by
    rw [(rangeLine_cachesOnly hop k t m).region] at hd
    unfold State.rangeLine
    split
    exacts [hkeep t l m (h hd), h hd]
  intro l hl hd
  refine foldl_establishes (P := fun l t => t.region l = .dram → P l t) hone hother ls s l hl ?_
  rwa [(CachesOnly.foldl (rangeLine_cachesOnly hop k) ls s).region]

end

section

variable {s : State} {u : Nat} {f : CrgF} {p : Place} {c : Instr} {op : State → Nat → Nat → State}

/-- How a range operation ends: it retires with its two registers moved over the bytes that it covered (R417). -/
def RangeDone (s t : State) (u : Nat) (f : CrgF) (n : Nat) : Prop :=
  let a := archOf s u
  (f.ra ≠ f.rb → archOf t u = after ((a.setReg f.ra (BitVec.ofNat 32 ((a.reg f.ra).toNat + n))).setReg f.rb
    (BitVec.ofNat 32 ((a.reg f.rb).toNat - n))) (pcNext s u)) ∧
  (f.ra = f.rb → ∃ v, archOf t u = after (a.setReg f.ra v) (pcNext s u)) ∧
  (∀ b, t.byte b = s.byte b) ∧ ∀ v, v ≠ u → archOf t v = archOf s v

theorem rangeDone_of_frame {y : State} (h : CacheFrame s y) (n : Nat) : let a := archOf s u
    let z := y.setRegs u [(f.ra, BitVec.ofNat 32 ((a.reg f.ra).toNat + n)), (f.rb, BitVec.ofNat 32 ((a.reg f.rb).toNat - n))]
    RangeDone s (s.conclude u (.done z)) u f n ∧ (s.conclude u (.done z)).clusters = y.clusters := by
  intro a z
  have hmem : z.mem = y.mem := setRegs_keeps State.mem (fun _ _ => rfl) (fun _ => rfl) _
  have hclusters : z.clusters = y.clusters := setRegs_keeps State.clusters (fun _ _ => rfl) (fun _ => rfl) _
  have hothers (v : Nat) (hv : v ≠ u) : archOf z v = archOf s v :=
    (setRegs_keeps (fun t => archOf t v) (fun t g => arch_mapArch_other t g hv) (fun _ => rfl) _).trans (h.arch v)
  have hr := retire_retires z u ((z.unit u).arch.pc + 4)
  have hend (b : Arch) (hz : archOf z u = b) (hb : b.pc = (archOf s u).pc) :
      archOf (s.conclude u (.done z)) u = after b (pcNext s u) := by
    rw [pcNext, ← hb, ← hz]
    exact hr.arch
  refine ⟨⟨fun hne => ?_, fun he => ?_, fun b => byte_of_mem (hr.frame.mem.trans (hmem.trans h.mem)) b,
    fun v hv => (hr.frame.arch v hv).trans (hothers v hv)⟩, hr.frame.clusters.trans hclusters⟩
  · refine hend _ ?_ (by rw [setReg_pc, setReg_pc])
    rw [arch_setRegs_same (by simpa using hne), h.arch]
    rfl
  · obtain ⟨v, hv⟩ := arch_setRegs_twice (s := y) (u := u) f.ra (BitVec.ofNat 32 ((a.reg f.ra).toNat + n))
      (BitVec.ofNat 32 ((a.reg f.rb).toNat - n))
    refine ⟨v, hend _ ?_ (setReg_pc _ _ _)⟩
    rw [← h.arch, ← hv]
    simp only [z, he]

theorem ends_rangeOp (hf : s.fetches u = true) (hc : exec c s = .next (s.rangeOp u f op)) (hr : f.rsv = 0)
    (hl : 1 ≤ (archOf s u).level) (hop : ∀ s c l, CachesOnly s (op s c l))
    (hn : rangeCovered ((archOf s u).reg f.ra).toNat ((archOf s u).reg f.rb).toNat ≠ 0)
    (hgo : goesTo s u f.sp.toNat ((archOf s u).reg f.ra).toNat
      (rangeCovered ((archOf s u).reg f.ra).toNat ((archOf s u).reg f.rb).toNat) .read .line p) :
    let n := rangeCovered ((archOf s u).reg f.ra).toNat ((archOf s u).reg f.rb).toNat
    Ends c s fun t => RangeDone s t u f n ∧
      t.clusters = ((linesOf p.pa n).foldl (State.rangeLine op (clusterOf (pairOf u))) s).clusters := by
  intro n
  refine ends_execute hf hc (by simpa [Legal.ok, hr] using hl) ?_
  have hplace : s.place u f.sp.toNat ((s.unit u).arch.reg f.ra).toNat
    (rangeCovered ((s.unit u).arch.reg f.ra).toNat ((s.unit u).arch.reg f.rb).toNat) .read .line = .ok p := hgo
  have hnot : ¬rangeCovered ((s.unit u).arch.reg f.ra).toNat ((s.unit u).arch.reg f.rb).toNat = 0 := hn
  dsimp only
  rw [if_neg hnot, hplace]
  exact rangeDone_of_frame (CachesOnly.foldl (rangeLine_cachesOnly hop _) _ s).frame n

end

/-! ## The obligation -/

theorem filling_of_clusters {s t : State} (h : t.clusters = s.clusters) (c pa : Nat) : t.filling c pa = s.filling c pa := by
  rw [State.filling, State.cluster, h, State.filling, State.cluster]

theorem cleanAt_of_clusters {s t : State} (h : t.clusters = s.clusters) (c pa : Nat) : cleanAt t c pa = cleanAt s c pa := by
  rw [cleanAt, line?_of_clusters h, cleanAt]

theorem goneAt_of_clusters {s t : State} (h : t.clusters = s.clusters) (c pa : Nat) : goneAt t c pa = goneAt s c pa := by
  rw [goneAt, line?_of_clusters h, goneAt]

section

variable {s : State} {u : Nat} {f : CacF} {p : Place}

theorem clean_ends (hf : s.fetches u = true) (hl : 1 ≤ (archOf s u).level)
    (hgo : goesTo s u f.sp.toNat (lineEa s u f) 1 .read .line p) (hd : s.region p.pa = .dram) :
    Ends (.clean u f) s fun t => LineDone s t u ∧ ∀ d, d < 12 → cleanAt t d p.pa = true := by
  obtain ⟨t, ht, hdone, hk⟩ := ends_lineOp_done (c := .clean u f) (op := fun s _ pa _ => s.cleanAll pa) hf rfl hl hgo hd (CachesOnly.cleanAll s p.pa).frame
  exact ⟨t, ht, hdone, fun d h => (cleanAt_of_clusters hk d p.pa).trans (cleanAt_cleanAll s p.pa h)⟩

theorem inval_ends (hf : s.fetches u = true) (hl : 1 ≤ (archOf s u).level)
    (hgo : goesTo s u f.sp.toNat (lineEa s u f) 1 .read .line p) (hd : s.region p.pa = .dram) : let c := clusterOf (pairOf u)
    Ends (.inval u f) s fun t => LineDone s t u ∧ goneAt t c p.pa = true ∧ ∀ d, d ≠ c → t.cluster d = s.cluster d := by
  intro c
  obtain ⟨t, ht, hdone, hk⟩ := ends_lineOp_done (c := .inval u f) (op := fun s c pa _ => s.invalLine c pa) hf rfl hl hgo hd
    (CachesOnly.invalLine s c p.pa).frame
  refine ⟨t, ht, hdone, (goneAt_of_clusters hk c p.pa).trans (goneAt_invalLine s c p.pa), fun d h => ?_⟩
  rw [State.cluster, hk]
  exact cluster_invalLine_other s p.pa h

theorem flush_ends (hf : s.fetches u = true) (hl : 1 ≤ (archOf s u).level)
    (hgo : goesTo s u f.sp.toNat (lineEa s u f) 1 .read .line p) (hd : s.region p.pa = .dram) :
    Ends (.flush u f) s fun t => LineDone s t u ∧ ∀ d, d < 12 → goneAt t d p.pa = true := by
  obtain ⟨t, ht, hdone, hk⟩ := ends_lineOp_done (c := .flush u f) (op := fun s _ pa _ => s.flushAll pa) hf rfl hl hgo hd (CachesOnly.flushAll s p.pa).frame
  exact ⟨t, ht, hdone, fun d h => (goneAt_of_clusters hk d p.pa).trans (goneAt_flushAll s p.pa h)⟩

theorem iinval_ends (hf : s.fetches u = true) (hl : 1 ≤ (archOf s u).level)
    (hgo : goesTo s u f.sp.toNat (lineEa s u f) 1 .read .line p) (hd : s.region p.pa = .dram) :
    Ends (.iinval u f) s fun t => Retires s t u (archOf s u) (pcNext s u) := by
  obtain ⟨t, ht, rfl⟩ := ends_lineOp (c := .iinval u f) (op := fun s _ _ _ => s) hf rfl hl hgo hd
  exact ⟨_, ht, retire_retires s u (pcNext s u)⟩

theorem preload_ends (hf : s.fetches u = true) (hl : 1 ≤ (archOf s u).level)
    (hgo : goesTo s u f.sp.toNat (lineEa s u f) 1 .read .line p) (hd : s.region p.pa = .dram) (hc : p.cacheable = true)
    (hfi : s.fillable (clusterOf (pairOf u)) p.pa = true) (hno : (s.line? (clusterOf (pairOf u)) p.pa).isNone = true)
    (hnf : s.filling (clusterOf (pairOf u)) p.pa = false) (hway : (s.emptyLocked (clusterOf (pairOf u)) p.pa).isSome = true) :
    Ends (.preload u f) s fun t => LineDone s t u ∧ t.filling (clusterOf (pairOf u)) p.pa = true := by
  obtain ⟨hframe, hfill⟩ := preloadLine_fills u hno hnf hway
  obtain ⟨t, ht, heq⟩ := ends_lineOp (c := .preload u f) (op := fun s c pa p =>
    if p.cacheable && (s.fillable c pa || (s.line? c pa).isSome) then s.preloadLine u c pa else s) hf rfl hl hgo hd
  rw [if_pos (by rw [hc, hfi]; rfl)] at heq
  obtain ⟨hdone, hk⟩ := hframe.done (u := u)
  rw [heq] at ht
  exact ⟨_, ht, hdone, (filling_of_clusters hk _ p.pa).trans hfill⟩

theorem prefetch_ends (hf : s.fetches u = true)
    (hgo : goesTo s u f.sp.toNat (lineEa s u f) 1 .read .line p) (hd : s.region p.pa = .dram) (hc : p.cacheable = true)
    (hfi : s.fillable (clusterOf (pairOf u)) p.pa = true) (hno : (s.line? (clusterOf (pairOf u)) p.pa).isNone = true)
    (hnf : s.filling (clusterOf (pairOf u)) p.pa = false) (hway : (s.chooseWay (clusterOf (pairOf u)) p.pa).isSome = true) :
    Ends (.prefetch u f) s fun t => LineDone s t u ∧ t.filling (clusterOf (pairOf u)) p.pa = true := by
  obtain ⟨hframe, hfill⟩ := prefetchLine_fills u hfi hno hnf hway
  obtain ⟨hdone, hk⟩ := hframe.done (u := u)
  have hplace : s.place u f.sp.toNat ((s.unit u).arch.ea f.ra f.disp) 1 .read .line = .ok p := hgo
  refine ends_execute hf rfl (Legal.ok_default _) ?_
  dsimp only
  rw [hplace]
  dsimp only
  rw [if_pos ⟨hd, hc, hfi⟩]
  exact ⟨hdone, (filling_of_clusters hk _ p.pa).trans hfill⟩

end

section

variable {s : State} {u : Nat} {f : CrgF} {p : Place}

/-- The bytes that a range operation of `u` covers. -/
def coveredBy (s : State) (u : Nat) (f : CrgF) : Nat :=
  rangeCovered ((archOf s u).reg f.ra).toNat ((archOf s u).reg f.rb).toNat

theorem rclean_ends (hf : s.fetches u = true) (hr : f.rsv = 0) (hl : 1 ≤ (archOf s u).level) (hn : coveredBy s u f ≠ 0)
    (hgo : goesTo s u f.sp.toNat ((archOf s u).reg f.ra).toNat (coveredBy s u f) .read .line p) :
    Ends (.rclean u f) s fun t => RangeDone s t u f (coveredBy s u f) ∧
      ∀ l ∈ linesOf p.pa (coveredBy s u f), s.region l = .dram → ∀ d, d < 12 → cleanAt t d l = true := by
  have hop (s : State) (_ l : Nat) : CachesOnly s (s.cleanAll l) := .cleanAll s l
  obtain ⟨t, ht, hdone, hk⟩ := ends_rangeOp (c := .rclean u f) (op := fun s _ l => s.cleanAll l) hf rfl hr hl hop hn hgo
  refine ⟨t, ht, hdone, fun l hl hdram d h => (cleanAt_of_clusters hk d l).trans ?_⟩
  exact rangeLines_establish hop _ (P := fun l t => ∀ d, d < 12 → cleanAt t d l = true) (fun s l _ h => cleanAt_cleanAll s l h)
    (fun _ _ m h d hd => cleanAt_cleanAll_keeps m (h d hd)) s _ l hl hdram d h

theorem rinval_ends (hf : s.fetches u = true) (hr : f.rsv = 0) (hl : 1 ≤ (archOf s u).level) (hn : coveredBy s u f ≠ 0)
    (hgo : goesTo s u f.sp.toNat ((archOf s u).reg f.ra).toNat (coveredBy s u f) .read .line p) :
    Ends (.rinval u f) s fun t => RangeDone s t u f (coveredBy s u f) ∧
      ∀ l ∈ linesOf p.pa (coveredBy s u f), s.region l = .dram → goneAt t (clusterOf (pairOf u)) l = true := by
  have hop (s : State) (c l : Nat) : CachesOnly s (s.invalLine c l) := .invalLine s c l
  obtain ⟨t, ht, hdone, hk⟩ := ends_rangeOp (c := .rinval u f) (op := fun s c l => s.invalLine c l) hf rfl hr hl hop hn hgo
  refine ⟨t, ht, hdone, fun l hl hdram => (goneAt_of_clusters hk _ l).trans ?_⟩
  exact rangeLines_establish hop _ (P := fun l t => goneAt t (clusterOf (pairOf u)) l = true) (fun s l => goneAt_invalLine s _ l)
    (fun _ _ m h => goneAt_invalLine_keeps _ m h) s _ l hl hdram

theorem rflush_ends (hf : s.fetches u = true) (hr : f.rsv = 0) (hl : 1 ≤ (archOf s u).level) (hn : coveredBy s u f ≠ 0)
    (hgo : goesTo s u f.sp.toNat ((archOf s u).reg f.ra).toNat (coveredBy s u f) .read .line p) :
    Ends (.rflush u f) s fun t => RangeDone s t u f (coveredBy s u f) ∧
      ∀ l ∈ linesOf p.pa (coveredBy s u f), s.region l = .dram → ∀ d, d < 12 → goneAt t d l = true := by
  have hop (s : State) (_ l : Nat) : CachesOnly s (s.flushAll l) := .flushAll s l
  obtain ⟨t, ht, hdone, hk⟩ := ends_rangeOp (c := .rflush u f) (op := fun s _ l => s.flushAll l) hf rfl hr hl hop hn hgo
  refine ⟨t, ht, hdone, fun l hl hdram d h => (goneAt_of_clusters hk d l).trans ?_⟩
  exact rangeLines_establish hop _ (P := fun l t => ∀ d, d < 12 → goneAt t d l = true) (fun s l _ h => goneAt_flushAll s l h)
    (fun _ _ m h d hd => goneAt_flushAll_keeps m (h d hd)) s _ l hl hdram d h

end

/-- Settles O19: an operation on a line retires with what it made of the line, and one on a range with what it made of each. -/
theorem cacheOperations : Obligations.CacheOperations := by
  refine ⟨?line, ?range⟩
  case line =>
    intro s u f p hf _ hgo hd c done
    exact ⟨fun hl => ⟨clean_ends hf hl hgo hd, inval_ends hf hl hgo hd, flush_ends hf hl hgo hd, iinval_ends hf hl hgo hd,
      preload_ends hf hl hgo hd⟩, prefetch_ends hf hgo hd⟩
  case range =>
    intro s u f p hf _ hr hl a start len n hn hgo done
    exact ⟨rclean_ends hf hr hl hn hgo, rinval_ends hf hr hl hn hgo, rflush_ends hf hr hl hn hgo⟩

end Sys2Proof.Machine
end

section
/-! OBLIGATIONS. What each reset leaves (O50). -/

namespace Sys2Proof.Machine

open Sys2Proof Sys2Proof.Stated

/-! ## Registers and memory after a device reset -/

theorem reg_restartBase (s : State) (off : Nat) : s.restartBase.reg off = s.reg off := rfl

theorem reg_noteCause (s : State) (cause off : Nat) : (s.noteCause cause).reg off =
    if off = Reg.SWD_BOOTSTAT then setBits (s.reg off) 15 8 cause
    else if off = Reg.PCK_RSTCAUSE then BitVec.ofNat 32 cause else s.reg off := by
  have hne : Reg.SWD_BOOTSTAT ≠ Reg.PCK_RSTCAUSE := by decide
  unfold State.noteCause
  split
  case isTrue h => rw [h, reg_setFld_same, reg_setReg_other _ _ hne]
  case isFalse h => rw [reg_setFld_other _ _ _ _ h, reg_setReg]

theorem fld_noteCause (s : State) {cause : Nat} (h : cause < 256) : (s.noteCause cause).fld Reg.SWD_BOOTSTAT 15 8 = cause := by
  rw [State.fld, reg_noteCause, if_pos rfl, bits_setBits _ _ (by decide) (by decide)]
  exact Nat.mod_eq_of_lt h

/-- The reset cause leaves everything outside control space as it is. -/
theorem noteCause_ctl (s : State) (cause : Nat) : s.noteCause cause = { s with ctl := (s.noteCause cause).ctl } := rfl

/-- Each register after a device reset, before its cause is written. -/
theorem sget_ctlAfterReset (s : State) (off : Nat) : sget regReset s.ctlAfterReset.regs off =
    if off = Reg.LCT_ERR then s.reg off &&& 0x3C#32
    else if off = Reg.GLN_ERR then s.reg off &&& 0x4#32
    else if off = Reg.GLN_STATUS then s.reg off &&& 0x40000000#32
    else if survivesReset off then s.reg off else regReset off := by
  simp only [State.ctlAfterReset, sget_sset, sget_filter regReset s.ctl.regs survivesReset]
  split
  case isTrue h => rw [h]
  split
  case isTrue h => rw [h]
  split
  case isTrue h => rw [h]
  rfl

theorem byte_foldl_setBytes (l : List (Nat × List Byte)) (s : State) {a : Nat}
    (h : ∀ d ∈ l, a < d.1 ∨ d.1 + d.2.length ≤ a) : (l.foldl (fun s d => s.setBytes d.1 d.2) s).byte a = s.byte a := by
  induction l generalizing s with
  | nil => rfl
  | cons d l ih =>
    rw [List.foldl_cons, ih _ fun e he => h e (List.mem_cons_of_mem d he)]
    exact byte_setBytes_other s _ _ _ (h d List.mem_cons_self)

/-- What the dirty lines of the caches would hide of DRAM. -/
def State.dirtyLines (s : State) : List (Nat × List Byte) :=
  s.clusters.flatMap fun c => c.2.lines.filterMap fun l => l.dirty.map fun b => (l.pa, b)

theorem outside_dirtyLines {s : State} {a : Nat} (h : inDram s a) : ∀ d ∈ s.dirtyLines, a < d.1 ∨ d.1 + d.2.length ≤ a := by
  intro d hd
  simp only [State.dirtyLines, List.mem_flatMap, List.mem_filterMap, Option.map_eq_some_iff] at hd
  obtain ⟨c, hc, l, hl, b, hb, rfl⟩ := hd
  exact h c hc l hl b hb

theorem sget_memAfterReset (s : State) (a : Nat) : sget blankByte s.memAfterReset.cells a =
    if a < scratchBase then (s.dirtyLines.foldl (fun s d => s.setBytes d.1 d.2) s).byte a else 0 := by
  refine (sget_filter blankByte (s.dirtyLines.foldl (fun s d => s.setBytes d.1 d.2) s).mem.cells
    (fun k => decide (k < scratchBase)) a).trans ?_
  simp only [decide_eq_true_eq]
  rfl

/-! ## The device reset -/

theorem reg_deviceReset (s : State) (cause off : Nat) (hs : off ≠ Reg.SWD_BOOTSTAT) (hc : off ≠ Reg.PCK_RSTCAUSE) :
    (s.deviceReset cause).reg off = sget regReset s.ctlAfterReset.regs off := by
  unfold State.deviceReset
  rw [reg_restartBase, reg_noteCause, if_neg hs, if_neg hc]
  rfl

theorem byte_deviceReset (s : State) (cause a : Nat) :
    (s.deviceReset cause).byte a = sget blankByte s.memAfterReset.cells a := rfl

theorem deviceReset_leaves {s : State} {cause : Nat} (hcause : cause < 256) (hon : s.power.on = true) :
    AfterReset s (s.deviceReset cause) cause where
  state := rfl
  mram h := by
    change s.resvAfterReset = _
    rw [State.resvAfterReset, h]
  resv v h := by
    change s.resvAfterReset = _
    rw [State.resvAfterReset, h]
  held := ⟨show (!s.power.resetN || !s.power.on) = _ by simp [hon], hon, rfl⟩
  dram a ha hd := by
    rw [byte_deviceReset, sget_memAfterReset, if_pos ha, byte_foldl_setBytes _ _ (outside_dirtyLines hd)]
  pads a ha := by rw [byte_deviceReset, sget_memAfterReset, if_neg (by omega)]
  kept off h := by
    have hne {o : Nat} (ho : survivesReset o = false) : off ≠ o := by
      rintro rfl
      simp [h] at ho
    rw [reg_deviceReset s cause off (hne (by decide)) (hne (by decide)), sget_ctlAfterReset, if_neg (hne (by decide)),
      if_neg (hne (by decide)), if_neg (hne (by decide)), if_pos h]
  regs off h hout := by
    simp only [List.mem_cons, List.not_mem_nil, or_false, not_or] at hout
    obtain ⟨hstatus, herr, hlct, hrst, hboot⟩ := hout
    rw [reg_deviceReset s cause off hboot hrst, sget_ctlAfterReset, if_neg hlct, if_neg herr, if_neg hstatus, if_neg (by simp [h])]
  part := by
    refine ⟨?_, ?_, ?_⟩ <;> rw [reg_deviceReset _ _ _ (by decide) (by decide), sget_ctlAfterReset]
    · rw [if_neg (by decide), if_neg (by decide), if_pos rfl]
    · rw [if_neg (by decide), if_pos rfl]
    · rw [if_pos rfl]
  cause := by
    have hne : Reg.PCK_RSTCAUSE ≠ Reg.SWD_BOOTSTAT := by decide
    refine ⟨?_, fld_noteCause _ hcause⟩
    unfold State.deviceReset
    rw [reg_restartBase, reg_noteCause, if_neg hne, if_pos rfl]

theorem tryReset_leaves {s : State} {cause : Nat} (hcause : cause < 256) (hon : s.power.on = true) :
    AfterReset s (s.tryReset cause) cause := by
  rw [State.tryReset, if_pos hon]
  exact deviceReset_leaves hcause hon

/-! ## The pins and PCK_RSTCTRL -/

theorem softwareReset_resets {s : State} {m : Master} {v : Word} (hm : s.writesReg m Reg.PCK_RSTCTRL = true)
    (hkey : bits v 31 16 = 0xC0DE) (hrst : v.getLsbD 0 = true) (hon : s.power.on = true) :
    Ends (.softwareReset m v) s fun t => AfterReset s t (if m = .debugger then causeDebug else causeSoftware) := by
  refine ⟨s.tryReset (if m = .debugger then causeDebug else causeSoftware), ?_, tryReset_leaves (by split <;> decide) hon⟩
  change execSoftwareReset m v s = _
  rw [execSoftwareReset, if_pos hm, State.writeRstCtrl, if_pos ⟨hkey, hrst⟩]

theorem softwareReset_ignored {s : State} {m : Master} {v : Word} (hm : s.writesReg m Reg.PCK_RSTCTRL = true)
    (h : bits v 31 16 ≠ 0xC0DE ∨ v.getLsbD 0 = false) : Ends (.softwareReset m v) s fun t => t = s.badw Reg.PCK_RSTCTRL := by
  have hnot : ¬(bits v 31 16 = 0xC0DE ∧ v.getLsbD 0 = true) := by
    rintro ⟨hkey, hrst⟩
    exact h.elim (· hkey) fun hf => absurd (hrst.symm.trans hf) (by decide)
  refine ⟨_, ?_, rfl⟩
  change execSoftwareReset m v s = _
  rw [execSoftwareReset, if_pos hm, State.writeRstCtrl, if_neg hnot]

theorem resetNRelease_ends {s : State} (n : Nat) (hon : s.power.on = true) (hin : s.power.inReset = true) :
    Ends (.resetNRelease n) s fun t => t.held = false ∧ t.timeBase = 0 ∧ t.mem = s.mem ∧ t.ctl = s.ctl ∧ t.boot = s.boot := by
  refine ⟨(((s.advance n).mapPower fun p => { p with resetN := true }).mapPower fun p => { p with inReset := false }).restartBase,
    ?_, ?_, ?_, rfl, rfl, rfl⟩
  · change execResetNRelease n s = _
    exact congrArg _ (if_pos ⟨hon, hin⟩)
  · change (false || !s.power.on) = false
    simp [hon]
  · simp [State.timeBase, State.restartBase]

theorem lifecycleReset_resets {s : State} {n : Nat} (h : s.power.lcReset = some n) (hon : s.power.on = true) :
    Ends .lifecycleReset s fun t => AfterReset (s.advance n) t causeLifecycle := by
  refine ⟨(s.advance n).tryReset causeLifecycle, ?_, tryReset_leaves (by decide) hon⟩
  change execLifecycleReset s = _
  rw [execLifecycleReset, h]

theorem lifecycleReset_waits {s : State} (h : s.power.lcReset = none) : Ends .lifecycleReset s fun t => t = s := by
  refine ⟨_, ?_, rfl⟩
  change execLifecycleReset s = _
  rw [execLifecycleReset, h]

/-! ## A loss of power and the power-on reset -/

theorem resvTorn_idle {s : State} (h : s.tick.resvWrite = none) : s.resvTorn = s.mram := by
  rw [State.resvTorn, h]

theorem reg_losePower (s : State) (off : Nat) :
    s.losePower.reg off = if off = Reg.ALM_HEAD_LO ∨ off = Reg.ALM_HEAD_HI then s.reg off else regReset off := by
  refine (sget_filter regReset s.ctl.regs (fun k => decide (k = Reg.ALM_HEAD_LO ∨ k = Reg.ALM_HEAD_HI)) off).trans ?_
  simp only [decide_eq_true_eq]
  rfl

theorem porstNAssert_ends (s : State) : Ends .porstNAssert s fun t =>
    t.held = true ∧ t.fuses = s.fuses ∧ (s.tick.resvWrite = none → t.mram = s.mram) ∧ t.units = [] ∧ t.gleaner = State.reset.gleaner ∧
    t.mem = State.reset.mem ∧ t.out = s.out ∧ t.pending = s.pending :=
  ⟨s.losePower, rfl, rfl, rfl, resvTorn_idle, rfl, rfl, rfl, rfl, rfl⟩

/-- A power-on reset of a device whose power is off. -/
def State.startAfresh (s : State) : State :=
  (((s.mapPower fun p => { p with on := true, inReset := !p.resetN }).mapBoot fun b => { b with stage := some 1 }).noteCause
    causePowerOn).restartBase

theorem powerOnReset_ends (s : State) : exec .powerOnReset s = .next (if s.power.on then s.losePower else s).startAfresh := rfl

theorem reg_startAfresh_other (s : State) {off : Nat} (hs : off ≠ Reg.SWD_BOOTSTAT) (hc : off ≠ Reg.PCK_RSTCAUSE) :
    s.startAfresh.reg off = s.reg off := by
  rw [State.startAfresh, reg_restartBase, reg_noteCause, if_neg hs, if_neg hc]
  rfl

theorem held_startAfresh (s : State) : s.startAfresh.held = !s.power.resetN := by
  change (!s.power.resetN || !true) = _
  simp

theorem startAfresh_starts (s : State) : s.startAfresh.boot.stage = some 1 ∧ s.startAfresh.timeBase = 0 ∧
    s.startAfresh.reg Reg.PCK_RSTCAUSE = BitVec.ofNat 32 causePowerOn := by
  refine ⟨rfl, by simp [State.timeBase, State.restartBase, State.startAfresh], ?_⟩
  rw [State.startAfresh, reg_restartBase, reg_noteCause, if_neg (by decide), if_pos rfl]

theorem startAfresh_of_on {s : State} : let t := s.losePower.startAfresh
    (s.tick.resvWrite = none → t.mram = s.mram) ∧ t.mem = State.reset.mem ∧ t.units = [] ∧
    t.gleaner = State.reset.gleaner ∧ t.reg64 Reg.ALM_HEAD_LO = s.reg64 Reg.ALM_HEAD_LO ∧
    ∀ off, off ∉ [Reg.ALM_HEAD_LO, Reg.ALM_HEAD_HI, Reg.PCK_RSTCAUSE, Reg.SWD_BOOTSTAT] → t.reg off = regReset off := by
  refine ⟨resvTorn_idle, rfl, rfl, rfl, ?_, fun off h => ?_⟩
  · have hhi : Reg.ALM_HEAD_LO + 4 = Reg.ALM_HEAD_HI := by decide
    rw [State.reg64, hhi, reg_startAfresh_other _ (by decide) (by decide), reg_startAfresh_other _ (by decide) (by decide), reg_losePower,
      reg_losePower, if_pos (.inl rfl), if_pos (.inr rfl), State.reg64, hhi]
  · simp only [List.mem_cons, List.not_mem_nil, or_false, not_or] at h
    obtain ⟨hlo, hhi, hc, hs⟩ := h
    rw [reg_startAfresh_other _ hs hc, reg_losePower, if_neg (by simp [hlo, hhi])]

/-- Settles O50: each way into a device reset leaves the same state, and a loss of power nearly none. -/
theorem resets : Obligations.Resets := by
  intro s
  refine ⟨fun m v hm => ⟨softwareReset_resets hm, softwareReset_ignored hm⟩,
    fun n hon => ⟨_, rfl, tryReset_leaves (by decide) hon, ?pin⟩,
    fun n hon hin => resetNRelease_ends n hon hin, fun n h hon => lifecycleReset_resets h hon, lifecycleReset_waits,
    porstNAssert_ends s, _, powerOnReset_ends s, rfl, ?held, ?fuses, fun hon => ?on, startAfresh_starts _⟩
  case pin =>
    have hon' : ((s.advance n).mapPower fun p => { p with resetN := false }).power.on = true := hon
    rw [State.tryReset, if_pos hon']
    rfl
  case held =>
    rw [held_startAfresh]
    split <;> rfl
  case fuses => cases hon : s.power.on <;> rfl
  case on =>
    rw [if_pos hon]
    exact startAfresh_of_on

end Sys2Proof.Machine
end

section
/-! SUPPORT. What an event of class 6 and device safe state leave alone, for any observation of the state (R588). -/

namespace Sys2Proof.Machine

open Sys2Proof Sys2Proof.Stated

/-- What neither a frame nor a snapshot decides. -/
structure SnapshotFree {α : Type} (p : State → α) : Prop extends SendFree p where
  watch : ∀ (s : State) v, p (s.setReg Reg.ALM_CNT_WATCH v) = p s
  gen   : ∀ (s : State) v, p (s.setReg Reg.ALM_CFGGEN v) = p s

/-- The registers that the entry into device safe state may change. -/
def safeRegs : List Nat :=
  Reg.GLN_STATUS :: Reg.GLN_SAFECAUSE :: Reg.TCK_STATUS :: Reg.ALM_CNT_WATCH :: Reg.ALM_CFGGEN :: sendRegs

/-- What device safe state, the frames and the snapshot that announce it do not decide. -/
structure SafeFree {α : Type} (p : State → α) : Prop extends SnapshotFree p where
  power  : ∀ s : State, p (s.mapPower fun w => { w with refresh := true }) = p s
  status : ∀ (s : State) v, p (s.setReg Reg.GLN_STATUS v) = p s
  cause  : ∀ (s : State) v, p (s.setReg Reg.GLN_SAFECAUSE v) = p s
  tick   : ∀ (s : State) v, p (s.setReg Reg.TCK_STATUS v) = p s

/-- A register is no matter of a frame or a snapshot. -/
theorem snapshotFree_reg {o : Nat} (h : o ∉ Reg.ALM_CNT_WATCH :: Reg.ALM_CFGGEN :: sendRegs) : SnapshotFree (fun s => s.reg o) where
  gleaner _ _ := rfl
  almanac _ _ := rfl
  eth _ _ := rfl
  cipher _ _ := rfl
  emit _ _ := rfl
  regs s _ v hm := reg_setReg_other s v fun he => h (by simp [he, hm])
  watch s v := reg_setReg_other s v fun he => h (by simp [he])
  gen s v := reg_setReg_other s v fun he => h (by simp [he])

theorem safeFree_reg {o : Nat} (h : o ∉ safeRegs) : SafeFree (fun s => s.reg o) where
  toSnapshotFree := snapshotFree_reg fun hm => h (by
    simp only [safeRegs, List.mem_cons] at hm ⊢
    exact .inr (.inr (.inr hm)))
  power _ := rfl
  status s v := reg_setReg_other s v fun he => h (by simp [safeRegs, he])
  cause s v := reg_setReg_other s v fun he => h (by simp [safeRegs, he])
  tick s v := reg_setReg_other s v fun he => h (by simp [safeRegs, he])

/-- A snapshot changes the Almanac and two of its registers. -/
theorem callSnapshot_keeps {α : Type} {p : State → α} (halmanac : ∀ (s : State) f, p (s.mapAlmanac f) = p s)
    (hwatch : ∀ (s : State) v, p (s.setReg Reg.ALM_CNT_WATCH v) = p s) (hgen : ∀ (s : State) v, p (s.setReg Reg.ALM_CFGGEN v) = p s)
    (s : State) (l : List Trigger) : p (s.callSnapshot l) = p s := by
  have hstart (s : State) : p s.startInterval = p s := (hgen _ _).trans (halmanac _ _)
  unfold State.callSnapshot
  split
  · rfl
  split
  · unfold State.takeSnapshot
    extract_lets seq trig written counted
    have hw : p counted = p s := by
      unfold counted
      split
      · exact (hwatch _ _).trans (halmanac _ _)
      · exact halmanac _ _
    exact (hstart _).trans hw
  · exact halmanac _ _

namespace SnapshotFree

variable {α : Type} {p : State → α} (h : SnapshotFree p)

include h

theorem callSnapshot (s : State) (l : List Trigger) : p (s.callSnapshot l) = p s := callSnapshot_keeps h.almanac h.watch h.gen s l

theorem sendDowns (s : State) (source : Nat) : p (s.sendDowns source) = p s := by
  unfold State.sendDowns
  refine (h.eth _ _).trans (foldl_keeps p (fun s x => ?_) _ _)
  split
  · rfl
  · exact h.sendPacket ..

end SnapshotFree

namespace SafeFree

variable {α : Type} {p : State → α} (h : SafeFree p)

include h

theorem enterSafe (s : State) (source : Nat) : p (s.enterSafe source) = p s := by
  unfold State.enterSafe
  split
  · rfl
  · refine (h.power _).trans ((h.callSnapshot _ _).trans ((h.sendDowns _ _).trans ?_))
    exact (h.tick _ _).trans ((h.cause _ _).trans (h.status _ _))

theorem event (s : State) (source cls det : Nat) : p (s.event source cls det) = p s := by
  unfold State.event
  dsimp only
  split
  · exact (h.enterSafe _ _).trans (h.glean _ _ _ _)
  · exact h.glean ..

theorem errEvent (s : State) {err : Nat} (bit source cls plot inst : Nat) (he : ∀ (s : State) v, p (s.setReg err v) = p s) :
    p (s.errEvent err bit source cls plot inst) = p s :=
  (h.event _ _ _ _).trans (he _ _)

end SafeFree

/-! ## Events that are only logged -/

/-- A state with another log and other registers. -/
def State.relog (c : Ctl) (g : Gleaner) (a : Almanac) (s : State) : State := { s with ctl := c, gleaner := g, almanac := a }

theorem glean_relog (c : Ctl) (g : Gleaner) (a : Almanac) (s : State) (source cls det : Nat) :
    (s.glean source cls det).relog c g a = s.relog c g a :=
  glean_keeps (State.relog c g a) (fun _ _ => rfl) (fun _ _ => rfl) (fun _ _ _ _ => rfl) s source cls det

theorem event_onlyLogged (s : State) (source : Nat) {cls : Nat} (det : Nat) (hcls : cls ≠ 6) :
    OnlyLogged s (s.event source cls det) [] := by
  refine ⟨?_, fun o ho => reg_event _ _ _ hcls (by simpa [gleanRegs] using ho)⟩
  have h := glean_relog (s.glean source cls det).ctl (s.glean source cls det).gleaner (s.glean source cls det).almanac s source cls det
  rw [State.event, if_neg hcls]
  exact h

theorem errEvent_onlyLogged (s : State) {err : Nat} (bit source : Nat) {cls : Nat} (plot inst : Nat) (hcls : cls ≠ 6) :
    OnlyLogged s (s.errEvent err bit source cls plot inst) [err] := by
  obtain ⟨hstate, hregs⟩ := event_onlyLogged (s.setBit err bit true) source (detail bit plot inst) hcls
  refine ⟨hstate, fun o ho => ?_⟩
  simp only [List.cons_append, List.nil_append, List.mem_cons, not_or] at ho
  obtain ⟨herr, hglean⟩ := ho
  exact (hregs o (by simpa using hglean)).trans (reg_setBit_other _ _ _ herr)

/-! ## Safe state is entered -/

theorem safe_enterSafe (s : State) (source : Nat) : (s.enterSafe source).safe = true := by
  unfold State.enterSafe
  split
  case isTrue hs => exact hs
  case isFalse =>
    have hfree : SnapshotFree (fun s => s.reg Reg.GLN_STATUS) := snapshotFree_reg (by decide)
    have hcalled (s : State) (f : Power → Power) : ((s.sendDowns source).callSnapshot [.safe] |>.mapPower f).safe = s.safe :=
      congrArg (·.getLsbD 31) ((hfree.callSnapshot _ _).trans (hfree.sendDowns _ _))
    refine (hcalled _ _).trans ?_
    rw [State.safe, bit_setBit_otherReg _ _ _ _ (by decide), State.bit, reg_setReg_other _ _ (by decide)]
    exact bit_setBit_same s true (by decide)

theorem safe_event (s : State) (source det : Nat) : (s.event source 6 det).safe = true := by
  rw [State.event, if_pos rfl]
  exact safe_enterSafe ..

theorem safe_errEvent (s : State) (err bit source plot inst : Nat) : (s.errEvent err bit source 6 plot inst).safe = true :=
  safe_event ..

/-- A part of the state that is neither registers, records, frames, keys, nor power, is no matter of device safe state. -/
theorem safeFree_of {α : Type} {p : State → α} (hctl : ∀ (s : State) f, p (s.mapCtl f) = p s)
    (hgleaner : ∀ (s : State) f, p (s.mapGleaner f) = p s) (halmanac : ∀ (s : State) f, p (s.mapAlmanac f) = p s)
    (heth : ∀ (s : State) f, p (s.mapEth f) = p s) (hcipher : ∀ (s : State) f, p (s.mapCipher f) = p s)
    (hemit : ∀ (s : State) o, p (s.emit o) = p s) (hpower : ∀ s : State, p (s.mapPower fun w => { w with refresh := true }) = p s) : SafeFree p where
  gleaner := hgleaner
  almanac := halmanac
  eth := heth
  cipher := hcipher
  emit := hemit
  power := hpower
  regs _ _ _ _ := hctl ..
  watch _ _ := hctl ..
  gen _ _ := hctl ..
  status _ _ := hctl ..
  cause _ _ := hctl ..
  tick _ _ := hctl ..

theorem safeFree_mem : SafeFree State.mem :=
  safeFree_of (fun _ _ => rfl) (fun _ _ => rfl) (fun _ _ => rfl) (fun _ _ => rfl) (fun _ _ => rfl) (fun _ _ => rfl) fun _ => rfl

/-- An event of any class leaves the bit set that it stands for. -/
theorem bit_errEvent_set (s : State) {err bit : Nat} (source cls plot inst : Nat) (hbit : bit < 32) (h : err ∉ safeRegs) :
    (s.errEvent err bit source cls plot inst).bit err bit = true := by
  rw [State.bit, State.errEvent, (safeFree_reg h).event]
  exact bit_setBit_same s true hbit

end Sys2Proof.Machine
end

section
/-! SUPPORT. What the writes of engines, the end of a program of Furrow and the reports of engine jobs leave alone, whatever the
status (R458, R465, R477, R500). -/

namespace Sys2Proof.Machine

open Sys2Proof Sys2Proof.Stated

/-- The registers that the report of an engine's job, or of a program of Furrow, may change. -/
def reportRegs : List Nat :=
  [Reg.FRW_ERR, Reg.THR_ERR, Reg.THR_CNT_CANCEL, Reg.THR_CNT_VERIFY, Reg.THR_CNT_JOBS_LO, Reg.THR_CNT_JOBS_LO + 4, Reg.CPH_ERR,
    Reg.CPH_CNT_JOBS, Reg.CPH_CNT_AUTHFAIL] ++ gleanRegs

/-- A register of a report, or the error register of a scratchpad. -/
def ReportReg (o : Nat) : Prop := o ∈ reportRegs ∨ ∃ c, o = clsReg Reg.CLS_SPERR c

theorem not_reportReg {o : Nat} (h : o ∉ reportRegs) (hm : o % 0x10000 ≠ 0x128) : ¬ReportReg o := by
  rintro (hr | ⟨c, rfl⟩)
  · exact h hr
  · simp only [clsReg, Reg.CLS_SPERR] at hm
    omega

/-- What the report of an engine's job, or of a program of Furrow, does not decide. -/
structure JobFree {α : Type} (p : State → α) : Prop extends StoreFree p where
  gleaner : ∀ (s : State) f, p (s.mapGleaner f) = p s
  almanac : ∀ (s : State) f, p (s.mapAlmanac f) = p s
  furrow  : ∀ (s : State) f, p (s.mapFurrow f) = p s
  emit    : ∀ (s : State) o, p (s.emit o) = p s
  regs    : ∀ (s : State) o v, ReportReg o → p (s.setReg o v) = p s

namespace JobFree

variable {α : Type} {p : State → α} (h : JobFree p)

include h

theorem setReg (s : State) {o : Nat} (v : Word) (ho : o ∈ reportRegs) : p (s.setReg o v) = p s := h.regs s o v (.inl ho)

theorem setBit (s : State) {o : Nat} (b : Nat) (v : Bool) (ho : o ∈ reportRegs) : p (s.setBit o b v) = p s :=
  h.regs s o _ (.inl ho)

theorem count (s : State) {o : Nat} (n : Nat) (ho : o ∈ reportRegs) : p (s.count o n) = p s := h.regs s o _ (.inl ho)

theorem event (s : State) (source : Nat) {cls : Nat} (det : Nat) (hcls : cls ≠ 6) : p (s.event source cls det) = p s :=
  event_keeps p h.gleaner h.almanac (fun s o v ho => h.setReg s v (List.mem_append_right _ ho)) s source det hcls

theorem errEvent (s : State) {err : Nat} (bit source : Nat) {cls : Nat} (plot inst : Nat) (hcls : cls ≠ 6) (ho : ReportReg err) :
    p (s.errEvent err bit source cls plot inst) = p s :=
  (h.event _ _ _ hcls).trans (h.regs _ _ _ ho)

theorem engineWriteLine (s : State) (pa : Nat) (data : List Byte) (strong : Bool) : p (s.engineWriteLine pa data strong) = p s := by
  unfold State.engineWriteLine
  split
  · exact h.agentStore ..
  · split_ifs
    · exact h.errEvent _ _ _ _ _ (by decide) (.inr ⟨_, rfl⟩)
    · rfl
    · exact h.deviceStore ..
    · exact h.deviceStore ..
  · rfl

theorem engineWrite (s : State) (pa : Nat) (data : List Byte) (strong : Bool) : p (s.engineWrite pa data strong) = p s :=
  foldl_keeps p (fun _ _ => h.engineWriteLine _ _ _ _) _ _

theorem stewardEngine (s : State) : p s.stewardEngine = p s := h.unit ..

/-! ### Programs of Furrow -/

theorem closeOp (s : State) (o : FrwOp) (st : Nat) : p (s.closeOp o st) = p s := by
  unfold State.closeOp
  extract_lets without done
  have hw : p without = p s := h.furrow _ _
  split
  · exact (h.furrow _ _).trans hw
  · unfold State.mirrorOp
    split
    · exact (h.furrow _ _).trans hw
    · exact (mirrorSend_keeps h.emit _ _ _).trans ((h.furrow _ _).trans hw)

theorem opEnd (s : State) (o : FrwOp) (st sc resid : Nat) : p (s.opEnd o st sc resid) = p s := by
  have hbit (s : State) (c : Prop) [Decidable c] (b : Nat) : p (if c then s.setBit Reg.FRW_ERR b true else s) = p s := by
    split
    exacts [h.setBit _ _ _ (by decide), rfl]
  unfold State.opEnd
  extract_lets head left status paths conflict closed
  have hclosed : p closed = p s := by
    refine (h.closeOp _ _ _).trans ((hbit _ _ _).trans ((hbit _ _ _).trans ?_))
    exact (h.engineWrite _ _ _ _).trans ((h.engineWrite _ _ _ _).trans (h.engineWrite _ _ _ _))
  split
  · exact hclosed
  split
  · exact (h.unit _ _ _).trans hclosed
  · exact (h.stewardEngine _).trans hclosed

theorem opNext (s : State) (o : FrwOp) : p (s.opNext o) = p s := by
  unfold State.opNext
  split
  · exact h.opEnd ..
  · dsimp only
    split
    · exact h.opEnd ..
    · exact h.furrow ..

theorem jobDone (s : State) (id st : Nat) : p (s.jobDone id st) = p s := by
  unfold State.jobDone
  split
  · split
    · rfl
    split
    · exact h.opEnd ..
    split
    · exact h.opNext ..
    · exact h.opEnd ..
  · rfl

/-! ### Reports -/

theorem reported (s : State) (furrow : Option Nat) (st : Nat) (int : Bool) :
    p (match furrow with | some op => s.jobDone op st | none => if int then s.stewardEngine else s) = p s := by
  split
  · exact h.jobDone ..
  split
  · exact h.stewardEngine _
  · rfl

theorem thrReport (s : State) (desc : Nat) (b : List Byte) (furrow : Option Nat) (st nstored inUsed outLen check : Nat) :
    p (s.thrReport desc b furrow st nstored inUsed outLen check) = p s := by
  unfold State.thrReport State.thrStatus State.setReg64
  extract_lets stored used status jobs memory
  have hmemory : p memory = p s := by
    have hjobs : p jobs = p s := (h.setReg _ _ (by decide)).trans ((h.setReg _ _ (by decide)).trans
      ((h.engineWrite _ _ _ _).trans ((h.engineWrite _ _ _ _).trans (h.engineWrite _ _ _ _))))
    unfold memory
    split
    · exact (h.setBit _ _ _ (by decide)).trans hjobs
    · exact hjobs
  exact (h.reported _ _ _ _).trans hmemory

theorem cphReport (s : State) (desc : Nat) (b : List Byte) (plot : Nat) (furrow : Option Nat) (st outLen : Nat) :
    p (s.cphReport desc b plot furrow st outLen) = p s := by
  have hite (c : Prop) [Decidable c] {x y : State} (hx : p x = p y) : p (if c then x else y) = p y := by
    split
    exacts [hx, rfl]
  have hite' (c : Prop) [Decidable c] {x y : State} (hx : p x = p y) : p (if c then y else x) = p y := by
    split
    exacts [rfl, hx]
  unfold State.cphReport
  refine (h.reported _ _ _ _).trans ((hite _ (h.errEvent _ _ _ _ _ (by decide) (.inl (by decide)))).trans ?_)
  refine (hite _ (h.event _ _ _ (by decide))).trans ?_
  refine (hite _ ((h.setBit _ _ _ (by decide)).trans (h.count _ _ (by decide)))).trans ?_
  exact (hite' _ (h.count _ _ (by decide))).trans ((h.engineWrite _ _ _ _).trans (h.engineWrite _ _ _ _))

end JobFree

/-- What the end of a job of the Thresher does not decide either. -/
structure ThresherFree {α : Type} (p : State → α) : Prop extends JobFree p where
  thresher : ∀ (s : State) f, p (s.mapThresher f) = p s
  drawn    : ∀ s : State, p s.drawn = p s

namespace ThresherFree

variable {α : Type} {p : State → α} (h : ThresherFree p)

include h

theorem engineCheck (s : State) (engine : Nat) : p (s.engineCheck engine) = p s := by
  unfold State.engineCheck
  extract_lets v q
  split
  · rfl
  split
  · exact (h.errEvent _ _ _ _ _ (by decide) (.inl (by decide))).trans (h.thresher _ _)
  · rfl

theorem mismatches (s : State) (engine plot n : Nat) : p (s.mismatches engine plot n) = p s := by
  induction n generalizing s with
  | zero => rfl
  | succ n ih =>
    refine (ih _).trans ((h.errEvent _ _ _ _ _ (by decide) (.inl (by decide))).trans ?_)
    exact (h.thresher _ _).trans (h.count _ _ (by decide))

theorem endThrJob (s : State) (j : ThrJob) (engine st nstored inUsed outLen check : Nat) :
    p (s.endThrJob j engine st nstored inUsed outLen check) = p s := by
  unfold State.endThrJob
  extract_lets left counted
  have hcharged : p (s.chargeEngine j) = p s := by
    unfold State.chargeEngine
    exact h.thresher ..
  have hleft : p left = p s := (h.thresher _ _).trans hcharged
  refine (h.engineCheck _ _).trans ((h.thrReport _ _ _ _ _ _ _ _ _).trans ?_)
  unfold counted
  split
  · exact (h.count _ _ (by decide)).trans hleft
  · exact hleft

theorem stopThrJob (s : State) (j : ThrJob) (engine st : Nat) (bad : List Nat) : p (s.stopThrJob j engine st bad) = p s := by
  refine (h.endThrJob _ _ _ _ _ _ _ _).trans ((h.engineWrite _ _ _ _).trans ?_)
  exact (h.mismatches _ _ _ _).trans ((h.drawn _).trans (h.drawn _))

end ThresherFree

/-- A register that no report changes. -/
theorem thresherFree_reg {o : Nat} (h : ¬ReportReg o) : ThresherFree (fun s => s.reg o) where
  cluster _ _ _ := rfl
  unit _ _ _ := rfl
  mem _ _ := rfl
  gleaner _ _ := rfl
  almanac _ _ := rfl
  furrow _ _ := rfl
  emit _ _ := rfl
  thresher _ _ := rfl
  drawn _ := rfl
  regs s _ v ho := reg_setReg_other s v fun he => h (he ▸ ho)

end Sys2Proof.Machine
end

section
/-! OBLIGATIONS. Rails, temperature, clocks, clock monitors and tamper sensors (O51). -/

namespace Sys2Proof.Machine

open Sys2Proof Sys2Proof.Stated

/-! ## Rails -/

section

variable {s : State}

theorem not_held (hh : s.held = false) : (!s.held) = true := by rw [hh]; rfl

theorem railSample_ends (hh : s.held = false) {rail : Nat} (mv : Nat) (hr : rail < 8) : Ends (.railSample rail mv) s fun t =>
    t.fld (Reg.PCK_RAIL + 4 * rail) 11 0 = min 4095 mv ∧
    t = { s with ctl := t.ctl
                 almanac := { s.almanac with samples := s.almanac.samples ++ [⟨0x0C, rail, min 0xFFFFFFFF mv, s.reg64 Reg.TCK_EPOCH_LO⟩] } } ∧
    RegsBut s t [Reg.PCK_RAIL + 4 * rail] := by
  have hepoch : (s.setFld (Reg.PCK_RAIL + 4 * rail) 11 0 (min 4095 mv)).reg64 Reg.TCK_EPOCH_LO = s.reg64 Reg.TCK_EPOCH_LO := by
    have hlo : Reg.TCK_EPOCH_LO ≠ Reg.PCK_RAIL + 4 * rail := by simp only [Reg.TCK_EPOCH_LO, Reg.PCK_RAIL]; omega
    have hhi : Reg.TCK_EPOCH_LO + 4 ≠ Reg.PCK_RAIL + 4 * rail := by simp only [Reg.TCK_EPOCH_LO, Reg.PCK_RAIL]; omega
    rw [State.reg64, reg_setFld_other _ _ _ _ hlo, reg_setFld_other _ _ _ _ hhi, State.reg64]
  refine ⟨(s.setFld (Reg.PCK_RAIL + 4 * rail) 11 0 (min 4095 mv)).sample 0x0C rail mv, ?_, ?_, ?_, fun o ho => ?_⟩
  · change execRailSample rail mv s = _
    rw [execRailSample, if_pos ⟨hr, not_held hh⟩]
  · rw [State.fld, State.sample, reg_of_mapAlmanac, reg_setFld_same, bits_setBits _ _ (by decide) (by decide)]
    omega
  · rw [← hepoch]
    rfl
  · rw [State.sample, reg_of_mapAlmanac, reg_setFld_other _ _ _ _ (by simpa using ho)]

theorem railExcursion_warns (hh : s.held = false) {rail : Nat} (hr : rail < 8) : Ends (.railExcursion rail false) s fun t =>
    t.bit Reg.PCK_ERR 2 = true ∧ OnlyLogged s t [Reg.PCK_ERR] := by
  refine ⟨s.errEvent Reg.PCK_ERR 2 Src.rails 0 noPlot rail, ?_, bit_errEvent_set _ _ _ _ _ (by decide) (by decide),
    errEvent_onlyLogged s _ _ _ _ (by decide)⟩
  change execRailExcursion rail false s = _
  rw [execRailExcursion, if_pos ⟨hr, not_held hh⟩]
  rfl

theorem railExcursion_fails (hh : s.held = false) {rail : Nat} (hr : rail < 8) : Ends (.railExcursion rail true) s fun t =>
    t.bit Reg.PCK_ERR 3 = true ∧ t.safe = true ∧ t.mem = s.mem := by
  refine ⟨s.errEvent Reg.PCK_ERR 3 Src.rails 6 noPlot rail, ?_, bit_errEvent_set _ _ _ _ _ (by decide) (by decide),
    safe_errEvent .., safeFree_mem.errEvent _ _ _ _ _ _ fun _ _ => rfl⟩
  change execRailExcursion rail true s = _
  rw [execRailExcursion, if_pos ⟨hr, not_held hh⟩]
  rfl

end

/-! ## Temperature -/

theorem safeFree_throttle : SafeFree (fun s => s.power.throttle) :=
  safeFree_of (fun _ _ => rfl) (fun _ _ => rfl) (fun _ _ => rfl) (fun _ _ => rfl) (fun _ _ => rfl) (fun _ _ => rfl) fun _ => rfl

theorem safeFree_trips : SafeFree (fun s => s.power.trips) :=
  safeFree_of (fun _ _ => rfl) (fun _ _ => rfl) (fun _ _ => rfl) (fun _ _ => rfl) (fun _ _ => rfl) (fun _ _ => rfl) fun _ => rfl

theorem safeFree_time : SafeFree State.time :=
  safeFree_of (fun _ _ => rfl) (fun _ _ => rfl) (fun _ _ => rfl) (fun _ _ => rfl) (fun _ _ => rfl) (fun _ _ => rfl) fun _ => rfl

/-- What a reading leaves as it was, whatever it says. -/
structure ReadKeeps (s t : State) : Prop where
  regs  : ∀ o, o ∉ Reg.PCK_ERR :: safeRegs → t.reg o = s.reg o
  time  : t.time = s.time

theorem ReadKeeps.trans {s t r : State} (h : ReadKeeps s t) (g : ReadKeeps t r) : ReadKeeps s r :=
  ⟨fun o ho => (g.regs o ho).trans (h.regs o ho), g.time.trans h.time⟩

theorem readKeeps_mapPower (s : State) (f : Power → Power) : ReadKeeps s (s.mapPower f) := ⟨fun _ _ => rfl, rfl⟩

theorem readKeeps_errEvent (s : State) (bit source cls plot inst : Nat) :
    ReadKeeps s (s.errEvent Reg.PCK_ERR bit source cls plot inst) where
  regs o ho := by
    obtain ⟨herr, hsafe⟩ := not_or.mp (List.mem_cons.not.mp ho)
    exact (safeFree_reg hsafe).errEvent s bit source cls plot inst fun s v => reg_setReg_other s v herr
  time := safeFree_time.errEvent _ _ _ _ _ _ fun _ _ => rfl

theorem bit_errEvent_other (s : State) {err bit i : Nat} (source cls plot inst : Nat) (hbit : bit < 32) (hi : i ≠ bit) (h : err ∉ safeRegs) :
    (s.errEvent err bit source cls plot inst).bit err i = s.bit err i := by
  rw [State.bit, State.errEvent, (safeFree_reg h).event]
  exact bit_setBit_otherBit s true hbit hi

/-- The clock limit of a cluster after a reading of its sensor. -/
theorem throttleCluster_limits (s : State) (k value : Nat) (h : tempCode (s.fld Reg.PCK_THERM 7 0) ≤ value) :
    ((s.throttleCluster k value).clockLimit k).1 = max 12 ((s.clockLimit k).1 - 1) := by
  simp only [State.throttleCluster, if_pos h, State.clockLimit]
  exact congrArg (fun o => (Option.getD o (24, 0)).1) (lookup_sput_same _ _ _)

theorem throttleCluster_keeps (s : State) (k value : Nat) : ReadKeeps s (s.throttleCluster k value) ∧
    (s.throttleCluster k value).power.trips = s.power.trips := by
  unfold State.throttleCluster
  dsimp only
  split
  · exact ⟨readKeeps_mapPower .., rfl⟩
  split
  · exact ⟨readKeeps_mapPower .., rfl⟩
  · exact ⟨⟨fun _ _ => rfl, rfl⟩, rfl⟩

/-- A reading at or above THROT is recorded (R624). -/
def State.warmCheck (s : State) (k value : Nat) : State :=
  if tempCode (s.fld Reg.PCK_THERM 7 0) ≤ value then
    (s.mapPower fun p => { p with thermLow := true }).errEvent Reg.PCK_ERR 5 Src.rails 0 noPlot (0x100 + k)
  else if s.allCool then s.mapPower fun p => { p with thermLow := false }
  else s

/-- A reading at or above SHUT is remembered, and the second one in a row trips (R623). -/
def State.shutCheck (s : State) (k value : Nat) : State :=
  if tempCode (s.fld Reg.PCK_THERM 15 8) ≤ value then
    if k ∈ s.power.trips then s.errEvent Reg.PCK_ERR 6 Src.rails 6 noPlot (0x100 + k)
    else s.mapPower fun p => { p with trips := p.trips ++ [k] }
  else s.mapPower fun p => { p with trips := p.trips.erase k }

theorem readTemp_eq (s : State) (k value : Nat) :
    let y := (s.setReg (Reg.PCK_TEMP + 4 * k) (BitVec.ofNat 32 (2 ^ 31 + value))).sample 0x0B k value
    s.readTemp k value = ((if k < 12 then y.throttleCluster k value else y).warmCheck k value).shutCheck k value := rfl

theorem warmCheck_keeps (s : State) (k value : Nat) : ReadKeeps s (s.warmCheck k value) ∧
    (s.warmCheck k value).power.trips = s.power.trips ∧ (s.warmCheck k value).power.throttle = s.power.throttle := by
  unfold State.warmCheck
  split
  · refine ⟨(readKeeps_mapPower s _).trans (readKeeps_errEvent ..), ?_, ?_⟩
    · exact safeFree_trips.errEvent _ _ _ _ _ _ fun _ _ => rfl
    · exact safeFree_throttle.errEvent _ _ _ _ _ _ fun _ _ => rfl
  split
  · exact ⟨readKeeps_mapPower .., rfl, rfl⟩
  · exact ⟨⟨fun _ _ => rfl, rfl⟩, rfl, rfl⟩

theorem warmCheck_warns {s : State} (k : Nat) {value : Nat} (h : tempCode (s.fld Reg.PCK_THERM 7 0) ≤ value) :
    (s.warmCheck k value).bit Reg.PCK_ERR 5 = true := by
  rw [State.warmCheck, if_pos h]
  exact bit_errEvent_set _ _ _ _ _ (by decide) (by decide)

theorem shutCheck_keeps (s : State) (k value : Nat) : ReadKeeps s (s.shutCheck k value) ∧
    (s.shutCheck k value).power.throttle = s.power.throttle ∧ (s.shutCheck k value).bit Reg.PCK_ERR 5 = s.bit Reg.PCK_ERR 5 := by
  unfold State.shutCheck
  split
  · split
    · exact ⟨readKeeps_errEvent .., safeFree_throttle.errEvent _ _ _ _ _ _ fun _ _ => rfl,
        bit_errEvent_other _ _ _ _ _ (by decide) (by decide) (by decide)⟩
    · exact ⟨readKeeps_mapPower .., rfl, rfl⟩
  · exact ⟨readKeeps_mapPower .., rfl, rfl⟩

theorem shutCheck_trips {s : State} {k value : Nat} (h : tempCode (s.fld Reg.PCK_THERM 15 8) ≤ value) (hk : k ∈ s.power.trips) :
    (s.shutCheck k value).safe = true ∧ (s.shutCheck k value).bit Reg.PCK_ERR 6 = true := by
  rw [State.shutCheck, if_pos h, if_pos hk]
  exact ⟨safe_errEvent .., bit_errEvent_set _ _ _ _ _ (by decide) (by decide)⟩

theorem shutCheck_remembers {s : State} {k value : Nat} (h : tempCode (s.fld Reg.PCK_THERM 15 8) ≤ value) (hk : k ∉ s.power.trips) :
    k ∈ (s.shutCheck k value).power.trips := by
  rw [State.shutCheck, if_pos h, if_neg hk]
  exact List.mem_append_right _ (List.mem_singleton_self k)

/-- A reading that the device takes: it stands in its register, and what it crosses has its effect (R623, R624). -/
theorem readTemp_reads (s : State) {k value : Nat} (hk : k < 16) : let t := s.readTemp k value
    t.reg (Reg.PCK_TEMP + 4 * k) = BitVec.ofNat 32 (2 ^ 31 + value) ∧ t.time = s.time ∧
    (tempCode (s.fld Reg.PCK_THERM 7 0) ≤ value → t.bit Reg.PCK_ERR 5 = true ∧
      (k < 12 → (t.clockLimit k).1 = max 12 ((s.clockLimit k).1 - 1))) ∧
    (tempCode (s.fld Reg.PCK_THERM 15 8) ≤ value → k ∈ s.power.trips → t.safe = true ∧ t.bit Reg.PCK_ERR 6 = true) ∧
    (tempCode (s.fld Reg.PCK_THERM 15 8) ≤ value → k ∉ s.power.trips → k ∈ t.power.trips) := by
  intro t
  obtain ⟨y, hy⟩ : ∃ y, y = (s.setReg (Reg.PCK_TEMP + 4 * k) (BitVec.ofNat 32 (2 ^ 31 + value))).sample 0x0B k value := ⟨_, rfl⟩
  obtain ⟨z, hz⟩ : ∃ z, z = if k < 12 then y.throttleCluster k value else y := ⟨_, rfl⟩
  have ht : t = (z.warmCheck k value).shutCheck k value := by rw [hz, hy]; exact readTemp_eq s k value
  have htherm : y.reg Reg.PCK_THERM = s.reg Reg.PCK_THERM := by
    rw [hy]
    exact reg_setReg_other _ _ (by simp only [Reg.PCK_THERM, Reg.PCK_TEMP]; omega)
  have hpower : y.power = s.power := by rw [hy]; rfl
  obtain ⟨hzk, hztrips⟩ : ReadKeeps y z ∧ z.power.trips = s.power.trips := by
    rw [hz, ← hpower]
    split
    · exact throttleCluster_keeps y k value
    · exact ⟨⟨fun _ _ => rfl, rfl⟩, rfl⟩
  obtain ⟨hwk, hwtrips, hwthr⟩ := warmCheck_keeps z k value
  obtain ⟨hsk, hsthr, hsbit⟩ := shutCheck_keeps (z.warmCheck k value) k value
  have hkeep : ReadKeeps y t := ht ▸ (hzk.trans hwk).trans hsk
  have hz7 : z.fld Reg.PCK_THERM 7 0 = s.fld Reg.PCK_THERM 7 0 := by
    rw [State.fld, hzk.regs _ (by decide), htherm, State.fld]
  have hw15 : (z.warmCheck k value).fld Reg.PCK_THERM 15 8 = s.fld Reg.PCK_THERM 15 8 := by
    rw [State.fld, hwk.regs _ (by decide), hzk.regs _ (by decide), htherm, State.fld]
  have hmem : (z.warmCheck k value).power.trips = s.power.trips := hwtrips.trans hztrips
  have htemp : ∀ k < 16, Reg.PCK_TEMP + 4 * k ∉ Reg.PCK_ERR :: safeRegs := by decide
  refine ⟨?_, ?_, fun hle => ⟨?_, fun h12 => ?_⟩, fun hle hin => ?_, fun hle hin => ?_⟩
  · rw [hkeep.regs _ (htemp k hk), hy]
    exact reg_setReg_same ..
  · rw [hkeep.time, hy]
    rfl
  · rw [ht, hsbit]
    exact warmCheck_warns k (by rwa [hz7])
  · have hlimit : (t.clockLimit k).1 = (z.clockLimit k).1 := by
      rw [State.clockLimit, ht, hsthr, hwthr, State.clockLimit]
    rw [hlimit, hz, if_pos h12, throttleCluster_limits y k value (by rwa [State.fld, htherm]), State.clockLimit, hpower,
      State.clockLimit]
  · rw [ht]
    exact shutCheck_trips (by rwa [hw15]) (by rwa [hmem])
  · rw [ht]
    exact shutCheck_remembers (by rwa [hw15]) (by rwa [hmem])

theorem tempSample_ends {s : State} (hh : s.held = false) (n : Nat) {k value : Nat} (hk : k < 16) (hv : value < 1024)
    (hoff : k < 12 → s.domainOff k = false) : exec (.tempSample n k value) s = .next ((s.advance n).readTemp k value) := by
  have hon : (!(decide (k < 12) && (s.advance n).domainOff k)) = true := by
    have hsame : (s.advance n).domainOff k = s.domainOff k := rfl
    by_cases h : k < 12
    · rw [hsame, hoff h, Bool.and_false, Bool.not_false]
    · rw [decide_eq_false h, Bool.false_and, Bool.not_false]
  change execTempSample n k value s = _
  rw [execTempSample]
  exact congrArg _ (if_pos ⟨hk, hv, not_held hh, hon⟩)

/-! ## Clocks -/

theorem stepToward_lt {cur want b : Nat} (hcur : cur < b) (hwant : want < b) :
    (if cur < want then cur + 1 else if want < cur then cur - 1 else cur) < b := by
  split_ifs <;> omega

section

variable {s : State} (hh : s.held = false) {c : Nat} (hc : c < 12)

include hh hc

theorem cclkStep_ends : let r := Reg.PCK_CLKCFG + 4 * c
    Ends (.cclkStep c) s fun t =>
      let want := min (s.fld r 4 0) (s.clockLimit c).1
      let cur := s.fld r 12 8
      t.fld r 12 8 = (if cur < want then cur + 1 else if want < cur then cur - 1 else cur) ∧ t.fld r 4 0 = s.fld r 4 0 ∧
      OnlyCtl s t ∧ RegsBut s t [r] := by
  intro r
  refine ⟨s.clockStep c, ?_, ?_, ?_, rfl, fun o ho => reg_setFld_other _ _ _ _ (by simpa using ho)⟩
  · change execCclkStep c s = _
    rw [execCclkStep, if_pos ⟨hc, not_held hh⟩]
  · have hcur : s.fld r 12 8 < 2 ^ 5 := Nat.mod_lt _ (by decide)
    have hfreq : s.fld r 4 0 < 2 ^ 5 := Nat.mod_lt _ (by decide)
    rw [State.clockStep, State.fld, reg_setFld_same, bits_setBits _ _ (by decide) (by decide)]
    exact Nat.mod_eq_of_lt (stepToward_lt hcur (lt_of_le_of_lt (min_le_left _ _) hfreq))
  · rw [State.clockStep, State.fld, reg_setFld_same, bits_setBits_out _ _ (by decide) (by decide) (by decide), State.fld]

/-- The fields of PCK_CLKCFGn (R616). -/
def clkFields : List FieldDef := [⟨12, 8, .ro, []⟩, ⟨4, 0, .rw, [(12, 24)]⟩]

omit hh in
theorem clkReg_def : ∃ r, regDef? (Reg.PCK_CLKCFG + 4 * c) = some r ∧ r.fields = clkFields := by
  have hall : ∀ c < 12, (regDef? (Reg.PCK_CLKCFG + 4 * c)).map (·.fields) = some clkFields := by decide
  exact Option.map_eq_some_iff.mp (hall c hc)

omit hh in
theorem clkReg_err : errRegOf (Reg.PCK_CLKCFG + 4 * c) = some Reg.PCK_ERR := by
  have hall : ∀ c < 12, errRegOf (Reg.PCK_CLKCFG + 4 * c) = some Reg.PCK_ERR := by decide
  exact hall c hc

omit hh in
theorem clkReg_write_legal {v : Word} (hlo : 12 ≤ bits v 4 0) (hhi : bits v 4 0 ≤ 24) :
    s.writeFields (Reg.PCK_CLKCFG + 4 * c) v = s.setFld (Reg.PCK_CLKCFG + 4 * c) 4 0 (bits v 4 0) := by
  obtain ⟨r, hr, hf⟩ := clkReg_def hc
  simp [State.writeFields, hr, RegDef.write, hf, clkFields, FieldDef.write, FieldDef.legalValue, hlo, hhi, State.setFld]

omit hh in
theorem clkReg_write_illegal {v : Word} (h : bits v 4 0 < 12 ∨ 24 < bits v 4 0) : s.writeFields (Reg.PCK_CLKCFG + 4 * c) v =
    (s.setReg (Reg.PCK_CLKCFG + 4 * c) (s.reg (Reg.PCK_CLKCFG + 4 * c))).badw (Reg.PCK_CLKCFG + 4 * c) := by
  obtain ⟨r, hr, hf⟩ := clkReg_def hc
  have hnot : ¬(12 ≤ bits v 4 0 ∧ bits v 4 0 ≤ 24) := by omega
  simp [State.writeFields, hr, RegDef.write, hf, clkFields, FieldDef.write, FieldDef.legalValue, hnot]

theorem cclkChange_ends {m : Master} {v : Word} : let r := Reg.PCK_CLKCFG + 4 * c
    s.writesReg m r = true → Ends (.cclkChange m c v) s fun t =>
      t.fld r 12 8 = s.fld r 12 8 ∧ OnlyCtl s t ∧ RegsBut s t [r, Reg.PCK_ERR] ∧
      (12 ≤ bits v 4 0 → bits v 4 0 ≤ 24 → t.fld r 4 0 = bits v 4 0 ∧ t.reg Reg.PCK_ERR = s.reg Reg.PCK_ERR) ∧
      (bits v 4 0 < 12 ∨ 24 < bits v 4 0 → t.fld r 4 0 = s.fld r 4 0 ∧ t.bit Reg.PCK_ERR 0 = true) := by
  intro r hm
  have hne : Reg.PCK_ERR ≠ r := by simp only [r, Reg.PCK_ERR, Reg.PCK_CLKCFG]; omega
  have herr : errRegOf r = some Reg.PCK_ERR := clkReg_err hc
  refine ⟨s.writeFields r v, ?_, ?_⟩
  · change execCclkChange m c v s = _
    rw [execCclkChange, if_pos ⟨hc, not_held hh, hm⟩]
  by_cases h : 12 ≤ bits v 4 0 ∧ bits v 4 0 ≤ 24
  · obtain ⟨hlo, hhi⟩ := h
    have hw : s.writeFields r v = s.setFld r 4 0 (bits v 4 0) := clkReg_write_legal hc hlo hhi
    rw [hw]
    refine ⟨?_, rfl, fun o ho => reg_setFld_other _ _ _ _ fun he => ho (by simp [he]), fun _ _ => ⟨?_, reg_setFld_other _ _ _ _ hne⟩,
      fun hout => absurd hout (by omega)⟩
    · rw [State.fld, reg_setFld_same, bits_setBits_out _ _ (by decide) (by decide) (by decide), State.fld]
    · rw [State.fld, reg_setFld_same, bits_setBits_bits _ _ (by decide) (by decide)]
  · have hw : s.writeFields r v = (s.setReg r (s.reg r)).badw r := clkReg_write_illegal hc (by omega)
    obtain ⟨hbit, honly, hregs⟩ := badw_sets (s.setReg r (s.reg r)) herr
    rw [hw]
    have hr : ((s.setReg r (s.reg r)).badw r).reg r = s.reg r :=
      (hregs r (by simpa using hne.symm)).trans (reg_setReg_same ..)
    refine ⟨by rw [State.fld, hr, State.fld], honly, fun o ho => ?_, fun hlo hhi => absurd ⟨hlo, hhi⟩ h,
      fun _ => ⟨by rw [State.fld, hr, State.fld], hbit⟩⟩
    simp only [List.mem_cons, List.not_mem_nil, or_false, not_or] at ho
    rw [hregs o (by simpa using ho.2), reg_setReg_other _ _ ho.1]

end

/-! ## Clock monitors -/

/-- The registers that a clock monitor's trip sets. -/
def monitorRegs : List Nat := [Reg.PCK_MONSTAT_LO, Reg.PCK_MONSTAT_HI, Reg.PCK_ERR]

theorem isolate_reg (s : State) (stop : Nat) {o : Nat} (h : o ∉ Reg.WRP_ISO :: Reg.WRP_ERR :: safeRegs) :
    (s.isolate stop).reg o = s.reg o := by
  simp only [List.mem_cons, not_or] at h
  obtain ⟨hiso, herr, hsafe⟩ := h
  unfold State.isolate
  split
  · rfl
  · rw [(safeFree_reg hsafe).errEvent _ _ _ _ _ _ fun s v => reg_setReg_other s v herr, reg_setBit_other _ _ _ hiso]
    rfl

theorem isolate_safe {s : State} (stop : Nat) (h : s.safe = true) : (s.isolate stop).safe = true := by
  unfold State.isolate
  split
  · exact h
  · exact safe_errEvent ..

theorem linkLost_reg (s : State) (p : Nat) {o : Nat} (hp : o ≠ portReg Reg.ETH_PSTAT p) (he : o ≠ Reg.ETH_ERR) :
    (s.linkLost p).reg o = s.reg o := by
  unfold State.linkLost
  dsimp only
  rw [reg_setBit_other _ _ _ he]
  exact (reg_setFld_other _ _ _ _ hp).trans (reg_setBit_other _ _ _ hp)

theorem failLink_reg (s : State) (l : Nat) {o : Nat} (h : o ∉ Reg.WFT_ERR :: safeRegs) : (s.failLink l).reg o = s.reg o := by
  obtain ⟨herr, hsafe⟩ := not_or.mp (List.mem_cons.not.mp h)
  exact (safeFree_reg hsafe).errEvent _ _ _ _ _ _ fun s v => reg_setReg_other s v herr

theorem thresherLost_reg (s : State) {o : Nat} (h : ¬ReportReg o) : s.thresherLost.reg o = s.reg o :=
  foldl_keeps (fun s => s.reg o) (fun s j => (thresherFree_reg h).stopThrJob s j _ _ _) _ _

/-- What follows the record of a clock monitor's trip (R617). -/
def State.afterTrip (s : State) (d : Nat) : State :=
  if 14 ≤ d ∧ d ≤ 21 then s.isolate (16 + (d - 14))
  else if d = 22 ∨ d = 23 then s.linkLost (d - 22)
  else if 24 ≤ d ∧ d ≤ 29 then (if (s.link (d - 24)).state = .off then s else s.failLink (d - 24))
  else if d = 31 then s.thresherLost
  else if d = 36 then s.setBit Reg.GLN_STATUS 30 true
  else s

theorem afterTrip_reg (s : State) (d : Nat) {o : Nat} (ho : o ∈ monitorRegs) : (s.afterTrip d).reg o = s.reg o := by
  have hiso : ∀ o ∈ monitorRegs, o ∉ Reg.WRP_ISO :: Reg.WRP_ERR :: safeRegs := by decide
  have hport : ∀ o ∈ monitorRegs, o ≠ Reg.ETH_ERR ∧ o ≠ portReg Reg.ETH_PSTAT 0 ∧ o ≠ portReg Reg.ETH_PSTAT 1 := by decide
  have hlink : ∀ o ∈ monitorRegs, o ∉ Reg.WFT_ERR :: safeRegs := by decide
  have hrep : ∀ o ∈ monitorRegs, o ∉ reportRegs ∧ o % 0x10000 ≠ 0x128 := by decide
  have hstat : ∀ o ∈ monitorRegs, o ≠ Reg.GLN_STATUS := by decide
  obtain ⟨heth, hp0, hp1⟩ := hport o ho
  unfold State.afterTrip
  split
  · exact isolate_reg _ _ (hiso o ho)
  split
  case isTrue h =>
    rcases h with rfl | rfl
    · exact linkLost_reg _ _ hp0 heth
    · exact linkLost_reg _ _ hp1 heth
  split
  · split
    · rfl
    · exact failLink_reg _ _ (hlink o ho)
  split
  · exact thresherLost_reg _ (not_reportReg (hrep o ho).1 (hrep o ho).2)
  split
  · exact reg_setBit_other _ _ _ (hstat o ho)
  · rfl

theorem afterTrip_safe {s : State} {d : Nat} (hd : d < 22 ∨ d = 30 ∨ 32 ≤ d) (h : s.safe = true) : (s.afterTrip d).safe = true := by
  unfold State.afterTrip
  split
  · exact isolate_safe _ h
  rw [if_neg (by omega), if_neg (by omega), if_neg (by omega)]
  split
  · exact (bit_setBit_otherBit s true (by decide) (by decide)).trans h
  · exact h

/-- The bit of a domain in the registers of its monitor. -/
def State.tripBit (s : State) (d : Nat) : Bool :=
  if d < 32 then s.bit Reg.PCK_MONSTAT_LO d else s.bit Reg.PCK_MONSTAT_HI (d - 32)

/-- The record of a clock monitor's trip. -/
def State.tripNoted (s : State) (d : Nat) : State :=
  if d < 32 then s.setBit Reg.PCK_MONSTAT_LO d true else s.setBit Reg.PCK_MONSTAT_HI (d - 32) true

theorem tripNoted_bit (s : State) {d : Nat} (hd : d < 40) : (s.tripNoted d).tripBit d = true := by
  unfold State.tripNoted State.tripBit
  split
  · exact bit_setBit_same _ _ (by omega)
  · exact bit_setBit_same _ _ (by omega)

theorem tripBit_of_regs {s t : State} (h : ∀ o ∈ monitorRegs, t.reg o = s.reg o) (d : Nat) : t.tripBit d = s.tripBit d := by
  simp only [State.tripBit, State.bit, h Reg.PCK_MONSTAT_LO (by decide), h Reg.PCK_MONSTAT_HI (by decide)]

theorem monitorTrip_eq (s : State) (d : Nat) : s.monitorTrip d =
    ((s.tripNoted d).errEvent Reg.PCK_ERR 1 (Src.monitor d) (monitorClass d) noPlot 0).afterTrip d := rfl

theorem monitorTrip_trips (s : State) {d : Nat} (hd : d < 40) : let t := s.monitorTrip d
    t.tripBit d = true ∧ t.bit Reg.PCK_ERR 1 = true ∧ (d < 22 ∨ d = 30 ∨ 32 ≤ d → t.safe = true) ∧
    (d = 31 → t.thresher.offline = List.range 8) := by
  intro t
  obtain ⟨y, hy⟩ : ∃ y, y = (s.tripNoted d).errEvent Reg.PCK_ERR 1 (Src.monitor d) (monitorClass d) noPlot 0 := ⟨_, rfl⟩
  have ht : t = y.afterTrip d := hy ▸ monitorTrip_eq s d
  have hregs : ∀ o ∈ monitorRegs, t.reg o = y.reg o := fun o ho => ht ▸ afterTrip_reg y d ho
  have hnoted : y.tripBit d = true := by
    have hreg {o : Nat} (ho : o ∉ Reg.PCK_ERR :: safeRegs) : y.reg o = (s.tripNoted d).reg o :=
      hy ▸ (readKeeps_errEvent (s.tripNoted d) 1 (Src.monitor d) (monitorClass d) noPlot 0).regs o ho
    have hkeep : y.tripBit d = (s.tripNoted d).tripBit d := by
      simp only [State.tripBit, State.bit, hreg (o := Reg.PCK_MONSTAT_LO) (by decide), hreg (o := Reg.PCK_MONSTAT_HI) (by decide)]
    exact hkeep.trans (tripNoted_bit s hd)
  refine ⟨(tripBit_of_regs hregs d).trans hnoted, ?_, fun h => ?_, ?_⟩
  · rw [State.bit, hregs _ (by decide), hy]
    exact bit_errEvent_set _ _ _ _ _ (by decide) (by decide)
  · have hclass : monitorClass d = 6 := if_neg (by omega)
    rw [ht]
    refine afterTrip_safe h ?_
    rw [hy, hclass]
    exact safe_errEvent ..
  · rintro rfl
    rw [ht]
    rfl

theorem clockMonitorTrip_ends {s : State} (hh : s.held = false) {d : Nat} (hd : d < 40) (h38 : d ≠ 38) (hoff : s.domainOff d = false) :
    exec (.clockMonitorTrip d) s = .next (s.monitorTrip d) := by
  change execClockMonitorTrip d s = _
  rw [execClockMonitorTrip, if_pos ⟨hd, h38, not_held hh, by rw [hoff]; rfl⟩]

/-! ## Tamper sensors -/

/-- No key slot is filled. -/
def State.keyless (s : State) : Prop := s.cipher.slots = []

theorem keyless_of_cipher {s t : State} (h : t.cipher = s.cipher) (hs : s.keyless) : t.keyless := by
  rw [State.keyless, h]
  exact hs

theorem chargeSlot_keyless {s : State} (h : s.keyless) (n : Nat) : s.chargeSlot n = (s, false) := by
  have hnone : s.keySlot n = none := by
    rw [State.keySlot, h]
    rfl
  rw [State.chargeSlot, hnone]

theorem sendFrame_keyless {s : State} (h : s.keyless) (p pcp : Nat) (o : Out) : (s.sendFrame p pcp o).keyless := by
  have hsa (s : State) (a : Sa) (h : s.keyless) : (s.chargeSa p a).keyless := by
    simp only [State.chargeSa, chargeSlot_keyless h, Bool.false_eq_true, if_false]
    split
    exacts [h, h]
  unfold State.sendFrame
  split
  · exact h
  split
  · exact h
  · unfold State.putFrame
    split
    · split
      · split
        exacts [h, h]
      · exact hsa _ _ h
    · exact h

theorem sendPacket_keyless {s : State} (h : s.keyless) (x : Session) (pcp type psn : Nat) (b : List Byte) :
    (s.sendPacket x pcp type psn b).keyless := by
  have hset (y : Session) : (s.setSession y).keyless := h
  unfold State.sendPacket
  extract_lets w sent
  split
  · exact hset _
  · exact sendFrame_keyless (hset _) ..

theorem mapEth_keyless {s : State} (h : s.keyless) (f : Eth → Eth) : (s.mapEth f).keyless := h

theorem sendDowns_keyless {s : State} (h : s.keyless) (source : Nat) : (s.sendDowns source).keyless := by
  unfold State.sendDowns
  refine mapEth_keyless (foldl_preserves (P := State.keyless) (fun s x hs => ?_) _ h) _
  split
  · exact hs
  · exact sendPacket_keyless hs ..

theorem setReg_keyless {s : State} (h : s.keyless) (o : Nat) (v : Word) : (s.setReg o v).keyless := h

theorem mapPower_keyless {s : State} (h : s.keyless) (f : Power → Power) : (s.mapPower f).keyless := h

theorem callSnapshot_keyless {s : State} (h : s.keyless) (l : List Trigger) : (s.callSnapshot l).keyless :=
  keyless_of_cipher (callSnapshot_keeps (p := State.cipher) (fun _ _ => rfl) (fun _ _ => rfl) (fun _ _ => rfl) s l) h

theorem glean_keyless {s : State} (h : s.keyless) (source cls det : Nat) : (s.glean source cls det).keyless :=
  keyless_of_cipher (glean_keeps State.cipher (fun _ _ => rfl) (fun _ _ => rfl) (fun _ _ _ _ => rfl) s source cls det) h

theorem enterSafe_keyless {s : State} (h : s.keyless) (source : Nat) : (s.enterSafe source).keyless := by
  unfold State.enterSafe
  split
  · exact h
  · refine mapPower_keyless (callSnapshot_keyless (sendDowns_keyless ?_ source) _) _
    exact setReg_keyless (setReg_keyless (setReg_keyless h _ _) _ _) _ _

theorem errEvent_keyless {s : State} (h : s.keyless) (err bit source cls plot inst : Nat) :
    (s.errEvent err bit source cls plot inst).keyless := by
  have hglean := glean_keyless (setReg_keyless h err (setBits (s.reg err) bit bit 1)) source cls (detail bit plot inst)
  unfold State.errEvent State.event
  dsimp only
  split
  · exact enterSafe_keyless hglean source
  · exact hglean

theorem reportFree_mram : ReportFree State.mram where
  cluster _ _ _ := rfl
  unit _ _ _ := rfl
  mem _ _ := rfl
  gleaner _ _ := rfl
  almanac _ _ := rfl
  cipher _ _ := rfl
  furrow _ _ := rfl
  emit _ _ := rfl
  drawn _ := rfl
  regs _ _ _ _ := rfl

theorem safeFree_mram : SafeFree State.mram :=
  safeFree_of (fun _ _ => rfl) (fun _ _ => rfl) (fun _ _ => rfl) (fun _ _ => rfl) (fun _ _ => rfl) (fun _ _ => rfl) fun _ => rfl

theorem wipeVault_keyless (s : State) (h : s.cipher.jobs = []) : s.wipeVault.keyless := by
  simp only [State.wipeVault, h, List.foldl_nil]
  rfl

theorem tamperEvent_masked {s : State} {k : Nat} (hk : k < 4) (hon : s.power.on = true) (h : s.tamperMask.getLsbD k = true) :
    Ends (.tamperEvent k) s fun t => t = s.setBit Reg.LCT_ERR (2 + k) true := by
  refine ⟨_, ?_, rfl⟩
  change execTamperEvent k s = _
  rw [execTamperEvent, if_pos ⟨hk, hon⟩, State.tamper, if_pos h]

/-- What a tamper sensor that is not masked leaves before its event. -/
def State.tampered (s : State) : State :=
  s.startWipe.wipeVault.mapMram fun m => { m with tampers := min 0xFFFFFFFF (m.tampers + 1) }

theorem tamperEvent_trips {s : State} {k : Nat} (hk : k < 4) (hon : s.power.on = true) (h : s.tamperMask.getLsbD k = false) :
    exec (.tamperEvent k) s = .next (s.tampered.errEvent Reg.LCT_ERR (2 + k) Src.lifecycle 6 noPlot k) := by
  have hnot : ¬s.tamperMask.getLsbD k = true := by rw [h]; decide
  change execTamperEvent k s = _
  rw [execTamperEvent, if_pos ⟨hk, hon⟩, State.tamper, if_neg hnot, State.tampered]

theorem tampered_keyless {s : State} (hjobs : s.cipher.jobs = []) : s.tampered.keyless := by
  have hcipher : s.startWipe.cipher = s.cipher := startWipe_keeps (p := State.cipher) (fun _ _ _ => rfl) s
  exact keyless_of_cipher (by rw [State.tampered, mapMram_cipher]) (wipeVault_keyless s.startWipe (by rw [hcipher, hjobs]))

theorem tampered_mram (s : State) : s.tampered.mram.tampers = min 0xFFFFFFFF (s.mram.tampers + 1) := by
  rw [State.tampered, mapMram_mram, reportFree_mram.wipeVault, startWipe_keeps (p := State.mram) (fun _ _ _ => rfl)]

theorem tampered_wipes (s : State) {c : Nat} (hc : c < 12) : s.tampered.bit (clsReg Reg.CLS_SPSTAT c) 16 = true := by
  have hkept := (reportFree_wipeKept c).wipeVault s.startWipe
  simp only [State.wipeKept, Prod.mk.injEq] at hkept
  obtain ⟨_, _, _, hreg⟩ := hkept
  rw [State.bit, State.tampered, reg_of_mapMram, hreg]
  exact startWipe_sets s hc

theorem tamperEvent_wipes {s : State} {k : Nat} (hk : k < 4) (hon : s.power.on = true) (h : s.tamperMask.getLsbD k = false) :
    Ends (.tamperEvent k) s fun t => t.safe = true ∧ t.bit Reg.LCT_ERR (2 + k) = true ∧
      (s.cipher.jobs = [] → t.cipher.slots = [] ∧ t.mram.tampers = min 0xFFFFFFFF (s.mram.tampers + 1) ∧
        ∀ c, c < 12 → t.bit (clsReg Reg.CLS_SPSTAT c) 16 = true) := by
  refine ⟨_, tamperEvent_trips hk hon h, safe_errEvent .., bit_errEvent_set _ _ _ _ _ (by omega) (by decide),
    fun hjobs => ⟨errEvent_keyless (tampered_keyless hjobs) .., ?_, fun c hc => ?_⟩⟩
  · rw [safeFree_mram.errEvent _ _ _ _ _ _ fun _ _ => rfl, tampered_mram]
  · have hout : ∀ c < 12, clsReg Reg.CLS_SPSTAT c ∉ Reg.LCT_ERR :: safeRegs := by decide
    obtain ⟨herr, hsafe⟩ := not_or.mp (List.mem_cons.not.mp (hout c hc))
    rw [State.bit, (safeFree_reg hsafe).errEvent _ _ _ _ _ _ fun s v => reg_setReg_other s v herr]
    exact tampered_wipes s hc

/-- Settles O51: what each sensor's reading leaves, and what a trip brings. -/
theorem sensorsAndClocks : Obligations.SensorsAndClocks := fun s hh =>
  ⟨fun _ mv hr => railSample_ends hh mv hr,
    fun _ hr => ⟨railExcursion_warns hh hr, railExcursion_fails hh hr⟩,
    fun n _ _ hk hv hoff => ⟨_, tempSample_ends hh n hk hv hoff, readTemp_reads (s.advance n) hk⟩,
    fun _ hc => ⟨cclkStep_ends hh hc, fun _ _ hm => cclkChange_ends hh hc hm⟩,
    fun _ hd h38 hoff => ⟨_, clockMonitorTrip_ends hh hd h38 hoff, monitorTrip_trips s hd⟩,
    fun _ hk hon => ⟨tamperEvent_masked hk hon, tamperEvent_wipes hk hon⟩⟩

end Sys2Proof.Machine
end

section
/-! OBLIGATIONS. Cluster power and the watchdog (O52). -/

namespace Sys2Proof.Machine

open Sys2Proof Sys2Proof.Stated

/-! ## A power-down that an epoch's seal has waited for

The statement says that the start of a power-down changes no byte of memory. From its start a cluster's pairs owe no close marker
(R58), so it may bring the cut-off of the epoch that is being sealed, and the cut-off places that epoch's sheaf in memory. In the
state below the seal of epoch 1 waits for the marker of pair 0 alone. -/

/-- The seal of epoch 1, which pair 0 owes its marker. -/
def owedSeal : Seal :=
  { epoch := 1, openTime := 0, closeTime := 0, period := 20, owed := [0], cutoff := false, wbOwed := [], hashDone := false
    macDone := false, acked := false, solo := false, span := false, voted := false, late := false }

/-- Every pair of cluster 0 is SPARE, and the seal goes on. -/
def owingState : State :=
  ((pairsOfCluster 0).foldl (fun s p => s.setReg (pairReg Reg.CLS_PAIRSTAT p) 2#32) State.reset).mapTick fun t =>
    { t with sealing := some owedSeal }

theorem owingState_free : (∀ p ∈ pairsOfCluster 0, owingState.role p = roleSpare ∨ owingState.role p = roleRetired) ∧
    (owingState.cluster 0).stores = [] ∧ (∀ p ∈ pairsOfCluster 0, (owingState.pair p).stores = []) ∧
    (∀ u ∈ unitsOfCluster 0, (owingState.unit u).stores = []) ∧
    (∀ l ∈ (owingState.cluster 0).lines, l.mark = none) ∧ owingState.bit (clsReg Reg.CLS_SPSTAT 0) 16 = false := by
  decide +kernel

theorem owingState_writes : owingState.held = false ∧ owingState.writesReg .firmware Reg.PCK_CLSPWR = true ∧
    (∀ k, k < 12 → k ≠ 0 → (1#32).getLsbD k = owingState.bit Reg.PCK_CLSPWR k) ∧ owingState.bit Reg.PCK_CLSPWR 0 = false ∧
    owingState.power.powering.lookup 0 = none := by
  decide +kernel

/-- The sheaf of epoch 1 begins with its magic number. -/
theorem owingState_placesSheaf : (owingState.writeClsPwr 1#32).byte 0x40000001 ≠ owingState.byte 0x40000001 := by
  decide +kernel

/-- Refutes O52: the power-down of a cluster whose marker alone was owed brings the cut-off of the epoch, which writes its sheaf. -/
theorem not_clusterPowerAndWatchdog : ¬ Obligations.ClusterPowerAndWatchdog := by
  intro h
  obtain ⟨hheld, hwrites, hothers, hon, hidle⟩ := owingState_writes
  obtain ⟨hpower, _⟩ := h owingState hheld
  obtain ⟨hdown, _⟩ := hpower .firmware 1#32 0 (by decide) hwrites hothers
  obtain ⟨hfree, _⟩ := hdown (by decide) hon
  obtain ⟨t, ht, _, _, _, _, hmem⟩ := hfree owingState_free hidle
  have hrun : exec (.clusterPowerDown .firmware 1#32) owingState = .next (owingState.writeClsPwr 1#32) := by
    change execClusterPowerDown .firmware 1#32 owingState = _
    rw [execClusterPowerDown, if_pos ⟨hwrites, not_held hheld⟩]
  obtain rfl : owingState.writeClsPwr 1#32 = t := Host.Outcome.next.inj (hrun.symm.trans ht)
  exact owingState_placesSheaf (byte_of_mem hmem _)

end Sys2Proof.Machine
end

section
/-! OBLIGATIONS. The debug port (O53). -/

namespace Sys2Proof.Machine

open Sys2Proof Sys2Proof.Stated

variable {s : State} {m : Master}

/-! ## Control space alone -/

theorem onlyCtl_iff {s t : State} : OnlyCtl s t ↔ ∃ c, t = { s with ctl := c } :=
  ⟨fun h => ⟨_, h⟩, fun ⟨_, h⟩ => h ▸ rfl⟩

theorem OnlyCtl.trans {s t r : State} (h : OnlyCtl s t) (g : OnlyCtl t r) : OnlyCtl s r := by
  obtain ⟨c, rfl⟩ := onlyCtl_iff.mp h
  obtain ⟨d, rfl⟩ := onlyCtl_iff.mp g
  exact onlyCtl_iff.mpr ⟨d, rfl⟩

theorem onlyCtl_foldl {α : Type} {f : State → α → State} (h : ∀ s x, OnlyCtl s (f s x)) (l : List α) (s : State) :
    OnlyCtl s (l.foldl f s) := by
  induction l generalizing s with
  | nil => rfl
  | cons x l ih => exact OnlyCtl.trans (h s x) (ih (f s x))

/-! ## Authorisations -/

theorem portAccess_eq (s : State) : s.portAccess =
    if s.fuses.lifecycle ≤ 1 then 0 else if 4 ≤ s.fuses.lifecycle then 3 else if s.evral.scope = none then 1 else 2 := by
  unfold State.portAccess
  cases s.evral.scope <;> rfl

theorem authCommit_ends (hm : s.dbgReaches m true Reg.DBG_AUTHCTRL = true) :
    Ends (.authCommit m) s fun t => t = { s with evral := { s.evral with checking := true } } := by
  refine ⟨_, ?_, rfl⟩
  change execAuthCommit m s = _
  rw [execAuthCommit, if_pos hm]
  rfl

/-- Registers set to zero one after another. -/
theorem reg_foldl_zero (base : Nat) (l : List Nat) (s : State) (o : Nat) :
    (l.foldl (fun s k => s.setReg (base + 4 * k) 0) s).reg o = if o ∈ l.map (fun k => base + 4 * k) then 0 else s.reg o := by
  induction l generalizing s with
  | nil => simp
  | cons k l ih =>
    rw [List.foldl_cons, ih, List.map_cons, reg_setReg]
    by_cases hl : o ∈ l.map fun k => base + 4 * k
    · simp [hl]
    · by_cases hk : o = base + 4 * k <;> simp [hl, hk]

theorem authClear_ends (hm : s.dbgReaches m true Reg.DBG_AUTHCTRL = true) : Ends (.authClear m) s fun t =>
    (∀ k, k < 40 → t.reg (Reg.DBG_AUTHWIN + 4 * k) = 0) ∧ OnlyCtl s t ∧
    RegsBut s t ((List.range 40).map fun k => Reg.DBG_AUTHWIN + 4 * k) := by
  refine ⟨(List.range 40).foldl (fun s k => s.setReg (Reg.DBG_AUTHWIN + 4 * k) 0) s, ?_, fun k hk => ?_, ?_, fun o ho => ?_⟩
  · change execAuthClear m s = _
    rw [execAuthClear, if_pos hm]
    rfl
  · rw [reg_foldl_zero, if_pos (List.mem_map.mpr ⟨k, List.mem_range.mpr hk, rfl⟩)]
  · exact onlyCtl_foldl (f := fun s k => s.setReg (Reg.DBG_AUTHWIN + 4 * k) 0) (fun _ _ => rfl) _ s
  · rw [reg_foldl_zero, if_neg ho]

theorem authCheckDone_ends (hh : s.held = false) (hc : s.evral.checking = true) : Ends .authCheckDone s fun t =>
    t.evral.result = s.authResult s.authWindow ∧ t.evral.checking = false ∧
    (s.authResult s.authWindow = 1 → t.evral.scope = some (leAt s.authWindow 6 2) ∧
      t.meas 6 = sha384 (s.meas 6 ++ sha384 s.authWindow)) ∧
    (s.authResult s.authWindow ≠ 1 → t.evral.scope = s.evral.scope ∧ t.bit Reg.DBG_ERR 1 = true) := by
  refine ⟨(s.mapEvral fun e => { e with checking := false }).authorise s.authWindow, ?_, ?_⟩
  · change execAuthCheckDone s = _
    rw [execAuthCheckDone, if_pos ⟨hc, not_held hh⟩]
  generalize s.authWindow = b
  have hsame : (s.mapEvral fun e => { e with checking := false }).authResult b = s.authResult b := rfl
  unfold State.authorise
  rw [hsame]
  by_cases hr : s.authResult b = 1
  · rw [if_pos hr]
    have hevral := event_keeps State.evral (fun _ _ => rfl) (fun _ _ => rfl) (fun _ _ _ _ => rfl)
    have hboot := event_keeps State.boot (fun _ _ => rfl) (fun _ _ => rfl) (fun _ _ _ _ => rfl)
    refine ⟨?_, ?_, fun _ => ⟨?_, ?_⟩, fun hne => absurd hr hne⟩
    · rw [hevral _ _ _ (by decide)]
      rfl
    · rw [hevral _ _ _ (by decide)]
      rfl
    · rw [hevral _ _ _ (by decide)]
      rfl
    · rw [State.meas, hboot _ _ _ (by decide)]
      exact meas_extendMeas _ _ _
  · rw [if_neg hr]
    exact ⟨rfl, rfl, fun h => absurd h hr, fun _ => ⟨rfl, bit_setBit_same _ _ (by decide)⟩⟩

theorem authResult_accepts {b : List Byte} (h : s.authResult b = 1) :
    b.length = 160 ∧ slice b 8 16 = s.uid ∧ leAt b 24 8 = s.boot.seq ∧ leAt b 32 4 = s.fuses.lcCount ∧
    ((leAt b 36 1 = 1 ∧ s.fuses.lifecycle = 2 ∧ ecVerify (sha384 (b.take 64)) s.ownerPub (slice b 64 96) = true) ∨
     (leAt b 36 1 = 2 ∧ s.fuses.lifecycle = 3 ∧
      ecVerify (sha384 (b.take 64)) (romKey Config.debugKey) (slice b 64 96) = true)) := by
  unfold State.authResult at h
  extract_lets signer at h
  split_ifs at h with hformat hdevice hboot hone hverify hsigner hverify hsigner
  any_goals omega
  all_goals
    simp only [not_or, not_not] at hformat hdevice hboot
    refine ⟨hformat.1, hdevice, hboot.1, hboot.2, ?_⟩
  · obtain ⟨_, hlife⟩ := hsigner.resolve_right fun h => absurd (hone.symm.trans h.1) (by decide)
    exact .inl ⟨hone, hlife, by simpa using hverify⟩
  · obtain ⟨htwo, hlife⟩ := hsigner.resolve_left fun h => hone h.1
    exact .inr ⟨htwo, hlife, by simpa using hverify⟩

/-! ## Halt, resume and step -/

/-- A write of DBG_PCTRL that selects a pair of the device and gives it a command. -/
theorem writePctrl_eq (s : State) (m : Master) {v : Word} {p cmd : Nat} (hp : bits v 6 0 = p) (hlt : p < 96)
    (hcmd : bits v 31 29 = cmd) (hlo : 1 ≤ cmd) (hhi : cmd ≤ 3) : s.writePctrl m v =
    let y := s.setFld Reg.DBG_PCTRL 6 0 p
    if !y.mayRun m p then y.dbgRefuse m 2
    else
      let z := y.mapPair p fun x => { x with brkHalt := v.getLsbD 8 }
      if cmd = 1 then z.dbgHalt p else if cmd = 2 then z.dbgResume p else z.dbgStep p := by
  subst hp hcmd
  have hsel : bits v 6 0 ≤ 96 := by omega
  have hpair : (s.setFld Reg.DBG_PCTRL 6 0 (bits v 6 0)).dbgPair = bits v 6 0 := by
    rw [State.dbgPair, State.fld, reg_setFld_same, bits_setBits_bits _ _ (by decide) (by decide)]
  have hfour : ¬4 ≤ bits v 31 29 := by omega
  have hacts : (decide (1 ≤ bits v 31 29 ∧ bits v 31 29 ≤ 3)) = true := by simp [hlo, hhi]
  simp only [State.writePctrl, if_pos hsel, if_neg hfour, hpair, hacts, Bool.true_or, Bool.not_true, Bool.false_eq_true, if_false]
  split
  · rfl
  split
  · rfl
  split
  · rfl
  · rw [if_pos (by omega)]

section

variable {v : Word} {p : Nat} (hp : bits v 6 0 = p) (hlt : p < 96) (hm : s.dbgReaches m true Reg.DBG_PCTRL = true)

include hp in
theorem cmdWord_fields (cmd : Nat) (hcmd : cmd < 8) : bits (setBits v 31 29 cmd) 6 0 = p ∧ bits (setBits v 31 29 cmd) 31 29 = cmd ∧
    (setBits v 31 29 cmd).getLsbD 8 = v.getLsbD 8 := by
  refine ⟨?_, ?_, getLsbD_setBits_out _ _ (by decide) (by decide) (by decide)⟩
  · rw [bits_setBits_out _ _ (by decide) (by decide) (by decide), hp]
  · rw [bits_setBits _ _ (by decide) (by decide)]
    exact Nat.mod_eq_of_lt hcmd

/-- The state in which the command on a pair begins. -/
def State.commanded (s : State) (p : Nat) (brk : Bool) : State :=
  (s.setFld Reg.DBG_PCTRL 6 0 p).mapPair p fun x => { x with brkHalt := brk }

include hp hlt hm in
theorem pctrlBy_runs (hrun : s.mayRun m p = true) {cmd : Nat} (hlo : 1 ≤ cmd) (hhi : cmd ≤ 3) :
    s.pctrlBy m (setBits v 31 29 cmd) =
      let z := s.commanded p (v.getLsbD 8)
      if cmd = 1 then z.dbgHalt p else if cmd = 2 then z.dbgResume p else z.dbgStep p := by
  obtain ⟨hsel, hcmd, hbrk⟩ := cmdWord_fields hp cmd (by omega)
  have hrun' : (s.setFld Reg.DBG_PCTRL 6 0 p).mayRun m p = true := hrun
  rw [State.pctrlBy, if_pos hm, writePctrl_eq s m hsel hlt hcmd hlo hhi]
  dsimp only
  rw [hrun', hbrk]
  rfl

include hp hlt hm in
theorem pctrlBy_denied (hrun : s.mayRun m p = false) {cmd : Nat} (hlo : 1 ≤ cmd) (hhi : cmd ≤ 3) :
    s.pctrlBy m (setBits v 31 29 cmd) = (s.setFld Reg.DBG_PCTRL 6 0 p).setBit Reg.DBG_ERR 2 true := by
  obtain ⟨hsel, hcmd, _⟩ := cmdWord_fields hp cmd (by omega)
  have hrun' : (s.setFld Reg.DBG_PCTRL 6 0 p).mayRun m p = false := hrun
  have hdbg : m = .debugger := by
    by_contra hne
    simp [State.mayRun, State.hasScope, hne] at hrun
  rw [State.pctrlBy, if_pos hm, writePctrl_eq s m hsel hlt hcmd hlo hhi]
  dsimp only
  rw [hrun']
  exact if_pos hdbg

end

/-! ### What the commands do to the two units of a pair -/

/-- Both units of a pair changed in one way. -/
def State.mapBoth (s : State) (p : Nat) (f : CoreUnit → CoreUnit) : State := (s.mapUnit (2 * p) f).mapUnit (2 * p + 1) f

theorem unit_mapBoth (s : State) (p : Nat) (f : CoreUnit → CoreUnit) :
    (s.mapBoth p f).unit (2 * p) = f (s.unit (2 * p)) ∧ (s.mapBoth p f).unit (2 * p + 1) = f (s.unit (2 * p + 1)) := by
  have hne : 2 * p ≠ 2 * p + 1 := by omega
  refine ⟨?_, ?_⟩
  · rw [State.mapBoth, unit_mapUnit_other _ _ hne, unit_mapUnit_same]
  · rw [State.mapBoth, unit_mapUnit_same, unit_mapUnit_other _ _ hne.symm]

theorem commanded_begins (s : State) {p : Nat} (brk : Bool) (hlt : p < 96) : let z := s.commanded p brk
    z.dbgPair = p ∧ (z.pair p).brkHalt = brk ∧ RegsBut s z [Reg.DBG_PCTRL] ∧ ∀ u, z.unit u = s.unit u := by
  refine ⟨?_, ?_, fun o ho => reg_setFld_other _ _ _ _ (by simpa using ho), fun _ => rfl⟩
  · rw [State.dbgPair, State.fld, State.commanded]
    refine (congrArg (bits · 6 0) (reg_setFld_same s _ _ _ _)).trans ?_
    rw [bits_setBits _ _ (by decide) (by decide)]
    omega
  · rw [State.commanded, pair_mapPair_same]

section

variable {p : Nat} (hlt : p < 96)

include hlt

theorem dbgHalt_eq (h : s.pairHalted p = false) :
    s.dbgHalt p = s.mapBoth p fun x => { x with latch := { x.latch with halt := true } } := by
  rw [State.dbgHalt, h, if_neg (by decide), if_neg (by omega)]
  rfl

theorem dbgResume_eq (h : s.pairHalted p = true) :
    s.dbgResume p = (s.mapBoth p fun x => x.goOn s.timeBase false).mapPair p fun x => { x with stop := none } := by
  have hunits : dbgUnits p = [2 * p, 2 * p + 1] := if_neg (by omega)
  rw [State.dbgResume, h, if_neg (by decide), hunits]
  exact if_neg (by omega)

theorem dbgStep_eq (h : s.pairHalted p = true) : s.dbgStep p = s.mapBoth p fun x => x.goOn s.timeBase true := by
  have hunits : dbgUnits p = [2 * p, 2 * p + 1] := if_neg (by omega)
  rw [State.dbgStep, h, if_neg (by decide), if_neg (by omega), hunits]
  rfl

end

theorem goOn_halted {x : CoreUnit} (now : Nat) (step : Bool) (h : x.halted = true) : (x.goOn now step).halted = false ∧
    (x.goOn now step).stepping = step ∧ (x.goOn now step).arch = x.arch := by
  rw [CoreUnit.goOn, if_pos h]
  exact ⟨rfl, rfl, rfl⟩

section

variable {v : Word} {p : Nat} (hp : bits v 6 0 = p) (hlt : p < 96) (hm : s.dbgReaches m true Reg.DBG_PCTRL = true)

include hp hlt hm

theorem debugHalt_ends (hrun : s.mayRun m p = true) (hh : s.pairHalted p = false) : Ends (.debugHalt m v) s fun t =>
    t.dbgPair = p ∧ (t.unit (2 * p)).latch.halt = true ∧ (t.unit (2 * p + 1)).latch.halt = true ∧
    (t.pair p).brkHalt = v.getLsbD 8 ∧ RegsBut s t [Reg.DBG_PCTRL] := by
  obtain ⟨hpair, hbrk, hregs, _⟩ := commanded_begins s (v.getLsbD 8) hlt
  obtain ⟨hone, htwo⟩ := unit_mapBoth (s.commanded p (v.getLsbD 8)) p fun x => { x with latch := { x.latch with halt := true } }
  refine ⟨(s.commanded p (v.getLsbD 8)).mapBoth p fun x => { x with latch := { x.latch with halt := true } }, ?_, hpair,
    by rw [hone], by rw [htwo], hbrk, hregs⟩
  rw [← dbgHalt_eq (s := s.commanded p (v.getLsbD 8)) hlt hh]
  exact congrArg Host.Outcome.next (pctrlBy_runs hp hlt hm hrun (by decide) (by decide))

theorem debugHalt_denied (hrun : s.mayRun m p = false) : Ends (.debugHalt m v) s fun t =>
    t.bit Reg.DBG_ERR 2 = true ∧ OnlyCtl s t ∧ RegsBut s t [Reg.DBG_PCTRL, Reg.DBG_ERR] := by
  refine ⟨(s.setFld Reg.DBG_PCTRL 6 0 p).setBit Reg.DBG_ERR 2 true,
    congrArg Host.Outcome.next (pctrlBy_denied hp hlt hm hrun (by decide) (by decide)), bit_setBit_same _ _ (by decide), rfl,
    fun o ho => ?_⟩
  simp only [List.mem_cons, List.not_mem_nil, or_false, not_or] at ho
  rw [reg_setBit_other _ _ _ ho.2, reg_setFld_other _ _ _ _ ho.1]

theorem resume_ends (hrun : s.mayRun m p = true) (hone : (s.unit (2 * p)).halted = true) (htwo : (s.unit (2 * p + 1)).halted = true) :
    Ends (.resume m v) s fun t => (t.unit (2 * p)).halted = false ∧ (t.unit (2 * p + 1)).halted = false ∧
      (t.unit (2 * p)).stepping = false ∧ (t.pair p).stop = none ∧ archOf t (2 * p) = archOf s (2 * p) := by
  let z := s.commanded p (v.getLsbD 8)
  obtain ⟨hu, hw⟩ := unit_mapBoth z p fun x => x.goOn z.timeBase false
  obtain ⟨hgo, hstep, harch⟩ := goOn_halted z.timeBase false hone
  obtain ⟨hgo', _, _⟩ := goOn_halted z.timeBase false htwo
  refine ⟨(z.mapBoth p fun x => x.goOn z.timeBase false).mapPair p fun x => { x with stop := none }, ?_, ?_, ?_, ?_, ?_, ?_⟩
  · rw [← dbgResume_eq (s := z) hlt hone]
    exact congrArg Host.Outcome.next (pctrlBy_runs hp hlt hm hrun (by decide) (by decide))
  · rw [unit_of_mapPair, hu]
    exact hgo
  · rw [unit_of_mapPair, hw]
    exact hgo'
  · rw [unit_of_mapPair, hu]
    exact hstep
  · rw [pair_mapPair_same]
  · rw [archOf, unit_of_mapPair, hu]
    exact harch

theorem step_ends (hrun : s.mayRun m p = true) (hone : (s.unit (2 * p)).halted = true) (htwo : (s.unit (2 * p + 1)).halted = true) :
    Ends (.step m v) s fun t => (t.unit (2 * p)).halted = false ∧ (t.unit (2 * p + 1)).halted = false ∧
      (t.unit (2 * p)).stepping = true ∧ archOf t (2 * p) = archOf s (2 * p) := by
  let z := s.commanded p (v.getLsbD 8)
  obtain ⟨hu, hw⟩ := unit_mapBoth z p fun x => x.goOn z.timeBase true
  obtain ⟨hgo, hstep, harch⟩ := goOn_halted z.timeBase true hone
  obtain ⟨hgo', _, _⟩ := goOn_halted z.timeBase true htwo
  refine ⟨z.mapBoth p fun x => x.goOn z.timeBase true, ?_, ?_, ?_, ?_, ?_⟩
  · rw [← dbgStep_eq (s := z) hlt hone]
    exact congrArg Host.Outcome.next (pctrlBy_runs hp hlt hm hrun (by decide) (by decide))
  · rw [hu]
    exact hgo
  · rw [hw]
    exact hgo'
  · rw [hu]
    exact hstep
  · rw [archOf, hu]
    exact harch

end

/-! ## DBG_RDATA -/

section

variable {write : Bool} {r : BitVec 5} (v : Word) (hm : s.dbgReaches m write Reg.DBG_RDATA = true) (hscope : s.hasScope m 1 = true)

include hm hscope

theorem rdataAccess_denied (hh : s.pairHalted s.dbgPair = false) : Ends (.dbgRdataAccess m write v) s fun t =>
    t.bit Reg.DBG_ERR 3 = true ∧ OnlyCtl s t ∧ RegsBut s t [Reg.DBG_ERR] := by
  have href : s.rdataRefusal m = some 3 := by rw [State.rdataRefusal, hscope, hh]; rfl
  have hregs : RegsBut s (s.setBit Reg.DBG_ERR 3 true) [Reg.DBG_ERR] := setBit_regsBut _ _ _ _
  cases write with
  | true =>
    refine ⟨s.setBit Reg.DBG_ERR 3 true, ?_, bit_setBit_same _ _ (by decide), rfl, hregs⟩
    change execDbgRdataAccess m true v s = _
    rw [execDbgRdataAccess, hm, State.writeRdata, href]
    rfl
  | false =>
    refine ⟨(s.setBit Reg.DBG_ERR 3 true).answerRead 0, ?_, bit_setBit_same _ _ (by decide), rfl, hregs⟩
    change execDbgRdataAccess m false v s = _
    rw [execDbgRdataAccess, hm, State.readRdata, href]
    rfl

theorem rdataAccess_ends (hsel : s.fld Reg.DBG_RSEL 8 0 = r.toNat) (hlt : s.dbgPair < 96) (hh : s.pairHalted s.dbgPair = true) :
    Ends (.dbgRdataAccess m write v) s fun t =>
      if write then archOf t (2 * s.dbgPair) = (archOf s (2 * s.dbgPair)).setReg r v ∧
        archOf t (2 * s.dbgPair + 1) = (archOf s (2 * s.dbgPair + 1)).setReg r v ∧ t.ctl = s.ctl
      else t = s.answerRead ((archOf s (2 * s.dbgPair)).reg r) := by
  have href : s.rdataRefusal m = none := by rw [State.rdataRefusal, hscope, hh]; rfl
  have hr : r.toNat < 0x20 := r.isLt
  cases write with
  | true =>
    have hunits : dbgUnits s.dbgPair = [2 * s.dbgPair, 2 * s.dbgPair + 1] := if_neg (by omega)
    have hset (a : Arch) : a.dbgSet r.toNat v = a.setReg r v := by rw [Arch.dbgSet, if_pos hr, BitVec.ofNat_toNat, BitVec.setWidth_eq]
    have hboth : s.writeRdata m v = s.mapBoth s.dbgPair fun x => { x with arch := x.arch.setReg r v } := by
      have hsel' : (s.mapArch (2 * s.dbgPair) fun a => a.setReg r v).fld Reg.DBG_RSEL 8 0 = r.toNat := hsel
      simp only [State.writeRdata, href, hunits, List.foldl_cons, List.foldl_nil, hsel, hset, hsel']
      rfl
    obtain ⟨hone, htwo⟩ := unit_mapBoth s s.dbgPair fun x => { x with arch := x.arch.setReg r v }
    refine ⟨s.mapBoth s.dbgPair fun x => { x with arch := x.arch.setReg r v }, ?_, ?_⟩
    · rw [← hboth]
      change execDbgRdataAccess m true v s = _
      rw [execDbgRdataAccess, hm]
      rfl
    · dsimp only
      rw [if_pos rfl]
      exact ⟨by rw [archOf, hone], by rw [archOf, htwo], rfl⟩
  | false =>
    refine ⟨s.answerRead ((archOf s (2 * s.dbgPair)).reg r), ?_, by dsimp only; rw [if_neg Bool.false_ne_true]⟩
    have hread : s.dbgReg (2 * s.dbgPair) r.toNat = (archOf s (2 * s.dbgPair)).reg r := by
      rw [State.dbgReg]
      exact (if_pos hr).trans (by rw [BitVec.ofNat_toNat, BitVec.setWidth_eq])
    change execDbgRdataAccess m false v s = _
    rw [execDbgRdataAccess, hm, State.readRdata, href]
    simp only [hsel, hread]
    rfl

end

/-! ## DBG_MDATA -/

section

variable (hh : s.held = false)

include hh

theorem ctlRead_mdata (hm : s.dbgReaches m false Reg.DBG_MDATA = true) : s.ctlRead m Reg.DBG_MDATA = s.readMdata m := by
  have haligned : (s.held || Reg.DBG_MDATA % 4 != 0) = false := by rw [hh]; rfl
  have hreach : (inDbg Reg.DBG_MDATA && !s.dbgReaches m false Reg.DBG_MDATA) = false := by rw [hm, Bool.not_true, Bool.and_false]
  rw [State.ctlRead, haligned, hreach]
  rfl

theorem ctlWrite_mdata (v : Word) (hm : s.dbgReaches m true Reg.DBG_MDATA = true) :
    s.ctlWrite m Reg.DBG_MDATA v = s.writeMdata m v := by
  have haligned : (s.held || Reg.DBG_MDATA % 4 != 0) = false := by rw [hh]; rfl
  have hreach : (inDbg Reg.DBG_MDATA && !s.dbgReaches m true Reg.DBG_MDATA) = false := by rw [hm, Bool.not_true, Bool.and_false]
  rw [State.ctlWrite, haligned, hreach]
  rfl

theorem mdataRead_denied (hm : s.dbgReaches m false Reg.DBG_MDATA = true) (hd : s.mdataDenied m = true) :
    Ends (.dbgMdataRead m) s fun t =>
      t.bit Reg.DBG_ERR 2 = true ∧ t.ctl.rdata = 0 ∧ OnlyCtl s t ∧ RegsBut s t [Reg.DBG_ERR] := by
  refine ⟨(s.setBit Reg.DBG_ERR 2 true).answerRead 0, ?_, bit_setBit_same _ _ (by decide), rfl, rfl, setBit_regsBut s _ _ _⟩
  change execDbgMdataRead m s = _
  rw [execDbgMdataRead, ctlRead_mdata hh hm, State.readMdata, hd]
  rfl

theorem mdataWrite_denied (v : Word) (hm : s.dbgReaches m true Reg.DBG_MDATA = true) (hd : s.mdataDenied m = true) :
    Ends (.dbgMdataWrite m v) s fun t => t = s.setBit Reg.DBG_ERR 2 true := by
  refine ⟨_, ?_, rfl⟩
  change execDbgMdataWrite m v s = _
  rw [execDbgMdataWrite, ctlWrite_mdata hh v hm, State.writeMdata, hd]
  rfl

omit hh in
theorem readMdata_dram {pa : Nat} (hpa : s.reg64 Reg.DBG_MADDR_LO = pa) (hd : s.mdataDenied m = false) (hdram : s.region pa = .dram)
    (hok : (s.mdataAnswer pa).1 = .ok) (hpoison : s.poisonIn pa 4 = false) : s.readMdata m =
      (s.nextMaddr, BitVec.ofNat 32 (leNat ((List.range 4).map fun i => s.shownByte (pa + i)))) := by
  have hstrong : s.strongAt pa = none := by rw [State.strongAt, hdram]
  simp only [State.readMdata, hpa, hd, hok, hstrong, hdram, hpoison, ne_eq, not_true_eq_false, Bool.false_eq_true, if_false]

omit hh in
theorem writeMdata_dram {pa : Nat} (v : Word) (hpa : s.reg64 Reg.DBG_MADDR_LO = pa) (hd : s.mdataDenied m = false)
    (hdram : s.region pa = .dram) (hok : (s.mdataAnswer pa).1 = .ok) :
    s.writeMdata m v = (s.agentStore pa (leBytes 4 v.toNat)).nextMaddr := by
  have hstrong : s.strongAt pa = none := by rw [State.strongAt, hdram]
  simp only [State.writeMdata, hpa, hd, hok, hstrong, hdram, ne_eq, not_true_eq_false, Bool.false_eq_true, if_false]

theorem mdataRead_ends (hm : s.dbgReaches m false Reg.DBG_MDATA = true) (hd : s.mdataDenied m = false) {pa : Nat}
    (hpa : s.reg64 Reg.DBG_MADDR_LO = pa) (hdram : s.region pa = .dram) (hok : (s.mdataAnswer pa).1 = .ok)
    (hpoison : s.poisonIn pa 4 = false) : Ends (.dbgMdataRead m) s fun t =>
      t.ctl.rdata = BitVec.ofNat 32 (leNat ((List.range 4).map fun i => s.shownByte (pa + i))) ∧
      t.reg64 Reg.DBG_MADDR_LO = (pa + 4) % 2 ^ 46 ∧ t.mem = s.mem := by
  refine ⟨s.nextMaddr.answerRead (BitVec.ofNat 32 (leNat ((List.range 4).map fun i => s.shownByte (pa + i)))), ?_, rfl, ?_, rfl⟩
  · change execDbgMdataRead m s = _
    rw [execDbgMdataRead, ctlRead_mdata hh hm, readMdata_dram hpa hd hdram hok hpoison, State.answered]
  · have hlt : (pa + 4) % 2 ^ 46 < 2 ^ 64 := lt_trans (Nat.mod_lt _ (by decide)) (by decide)
    have hnext : s.nextMaddr = s.setReg64 Reg.DBG_MADDR_LO ((pa + 4) % 2 ^ 46) := by rw [State.nextMaddr, hpa]
    rw [hnext]
    exact reg64_setReg64_same s Reg.DBG_MADDR_LO hlt

theorem mdataWrite_ends (v : Word) (hm : s.dbgReaches m true Reg.DBG_MDATA = true) (hd : s.mdataDenied m = false) {pa : Nat}
    (hpa : s.reg64 Reg.DBG_MADDR_LO = pa) (hdram : s.region pa = .dram) (hok : (s.mdataAnswer pa).1 = .ok) :
    Ends (.dbgMdataWrite m v) s fun t => t = (s.agentStore pa (leBytes 4 v.toNat)).nextMaddr := by
  have hrun : exec (.dbgMdataWrite m v) s = .next (s.ctlWrite m Reg.DBG_MDATA v) := rfl
  rw [ctlWrite_mdata hh v hm, writeMdata_dram v hpa hd hdram hok] at hrun
  exact ⟨_, hrun, rfl⟩

end

theorem mdataDenied_of_barred {off : Nat} (hr : s.region (controlBase + off) = .control off) (hb : mdataBarred off = true)
    (ha : s.reg64 Reg.DBG_MADDR_LO = controlBase + off) : s.mdataDenied m = true := by
  rw [State.mdataDenied, ha, hr]
  simp [hb]

/-! ## Tables as the port shows them -/

theorem tableAt_entry (base : Nat) {n k j i : Nat} (entry : Nat → List Byte) (hj : j < k) (hi : i < n) :
    tableAt (base + n * j + i) base n k entry = some ((entry j).getD i 0) := by
  have hlt : n * j + i < n * k := calc
    n * j + i < n * j + n := Nat.add_lt_add_left hi _
    _ = n * (j + 1) := (Nat.mul_succ n j).symm
    _ ≤ n * k := Nat.mul_le_mul_left n hj
  have hoff : base + n * j + i - base = n * j + i := by omega
  rw [tableAt, if_pos (by omega), hoff, Nat.mul_add_div (by omega), Nat.div_eq_of_lt hi, Nat.add_zero, Nat.mul_add_mod,
    Nat.mod_eq_of_lt hi]

theorem shownByte_descriptor {n i : Nat} {x : Plot} (hready : s.bit Reg.PLT_STATUS 0 = true) (hn : n < 4096) (hx : s.plot n = some x)
    (hi : i < 1024) : s.shownByte (s.reg64 Reg.PLT_DESC_BASE_LO + 1024 * n + i) = (s.descBytes n x).getD i 0 := by
  have hdesc : s.descByte (s.reg64 Reg.PLT_DESC_BASE_LO + 1024 * n + i) = some ((s.descBytes n x).getD i 0) := by
    rw [State.descByte, tableAt_entry _ _ hn hi, hx, Option.map_some, Option.getD_some]
  simp only [State.shownByte, State.tableByte, hready, hdesc, Bool.not_true, Bool.false_eq_true, if_false, Option.some_or,
    Option.getD_some]

theorem shownByte_unready (hready : s.bit Reg.PLT_STATUS 0 = false) (a : Nat) : s.shownByte a = s.byte a := by
  rw [State.shownByte, State.tableByte, hready]
  rfl

/-! ## Transfers of the port -/

section

variable {oper addr hcrc : Nat} (v : Word) (dcrc : Nat) (hoper : oper < 4) (haddr : addr < 65536)

include hoper haddr

theorem transfer_ignored {sync : Nat} (h : sync ≠ 0b0110 ∨ hcrc ≠ (hcrcOf oper addr).toNat) :
    Ends (.evralTransfer sync ⟨oper, addr, hcrc⟩ v dcrc) s fun t => t = s := by
  refine ⟨_, ?_, rfl⟩
  change execEvralTransfer sync ⟨oper, addr, hcrc⟩ v dcrc s = _
  rw [execEvralTransfer]
  dsimp only
  rw [Nat.mod_eq_of_lt hoper, Nat.mod_eq_of_lt haddr, if_pos (.inr h)]

theorem transfer_moves (hh : s.held = false) (heq : hcrc = (hcrcOf oper addr).toNat) :
    exec (.evralTransfer 0b0110 ⟨oper, addr, hcrc⟩ v dcrc) s = .next (s.evralMove oper addr v (decide (dcrc = (crc8 v).toNat))) := by
  have hnot : ¬(s.held = true ∨ 0b0110 ≠ evralSync ∨ hcrc ≠ (hcrcOf oper addr).toNat) := by
    rintro (h | h | h)
    · rw [hh] at h
      cases h
    · exact h rfl
    · exact h heq
  change execEvralTransfer 0b0110 ⟨oper, addr, hcrc⟩ v dcrc s = _
  rw [execEvralTransfer]
  dsimp only
  rw [Nat.mod_eq_of_lt hoper, Nat.mod_eq_of_lt haddr, if_neg hnot]

end

section

variable (oper addr : Nat) (v : Word) (ok : Bool)

theorem evralMove_after_badData (hbad : s.evral.badData = true) : s.evralMove oper addr v ok =
    (s.mapEvral fun e => { e with badData := false }).emit (.evral 0b0011) := by
  rw [State.evralMove, if_pos hbad]
  rfl

variable {oper addr} (hbad : s.evral.badData = false)

include hbad

theorem evralMove_noOper (hoper : oper < 2) : s.evralMove oper addr v ok = s.emit (.evral 0b0011) := by
  rw [State.evralMove, hbad, if_neg Bool.false_ne_true, if_pos hoper]
  rfl

variable {write : Bool}

theorem evralMove_refused {b : Nat} (href : s.portRefusal write (Reg.DBG_ID + 4 * addr) = some b) :
    s.evralMove (if write then 3 else 2) addr v ok = (s.setBit Reg.DBG_ERR b true).emit (.evral 0b0011) := by
  cases write with
  | true => simp [State.evralMove, hbad, href, respRefused]
  | false => simp [State.evralMove, hbad, href, respRefused]

theorem evralMove_written (href : s.portRefusal true (Reg.DBG_ID + 4 * addr) = none) (hin : inDbg (Reg.DBG_ID + 4 * addr) = true) :
    s.evralMove 3 addr v true = (s.emit (.evral 0b1010)).ctlWrite .debugger (Reg.DBG_ID + 4 * addr) v := by
  simp [State.evralMove, hbad, href, hin, respDone]

theorem evralMove_badCrc (href : s.portRefusal true (Reg.DBG_ID + 4 * addr) = none) : s.evralMove 3 addr v false =
    (((s.emit (.evral 0b1010)).setBit Reg.DBG_ERR 5 true).mapEvral fun e => { e with badData := true }) := by
  simp [State.evralMove, hbad, href, respDone]

theorem evralMove_read (href : s.portRefusal false (Reg.DBG_ID + 4 * addr) = none) (hin : inDbg (Reg.DBG_ID + 4 * addr) = true) :
    let r := s.ctlRead .debugger (Reg.DBG_ID + 4 * addr)
    s.evralMove 2 addr v ok = (r.1.emit (.evral 0b1010)).emit (.evral (r.2.toNat * 256 + (crc8 r.2).toNat)) := by
  simp [State.evralMove, hbad, href, hin, respDone, evralData]

end

section

variable {write : Bool} {off : Nat} (v : Word) (dcrc : Nat) (hh : s.held = false) (hoff : off < 0x20000) (halign : off % 4 = 0)
  (hbad : s.evral.badData = false)

/-- A transfer to the DBG register at an offset, with a right header. -/
noncomputable def portTransfer (write : Bool) (off : Nat) (v : Word) (dcrc : Nat) : Instr :=
  .evralTransfer 0b0110 ⟨if write then 3 else 2, off / 4, (hcrcOf (if write then 3 else 2) (off / 4)).toNat⟩ v dcrc

include hh hoff in
theorem portTransfer_moves : exec (portTransfer write off v dcrc) s =
    .next (s.evralMove (if write then 3 else 2) (off / 4) v (decide (dcrc = (crc8 v).toNat))) :=
  transfer_moves v dcrc (by cases write <;> decide) (by omega) hh rfl

include halign in
theorem dbgOffset : Reg.DBG_ID + 4 * (off / 4) = Reg.DBG_ID + off := by omega

include hoff in
theorem inDbg_offset : inDbg (Reg.DBG_ID + off) = true := by
  have hlo : Reg.DBG_ID ≤ Reg.DBG_ID + off := Nat.le_add_right _ _
  have hhi : Reg.DBG_ID + off < 0x900000 := by
    have hid : Reg.DBG_ID = 0x8E0000 := rfl
    omega
  simp [inDbg, hlo, hhi]

include hh hoff halign hbad

theorem portTransfer_refused {b : Nat} (href : s.portRefusal write (Reg.DBG_ID + off) = some b) :
    Ends (portTransfer write off v dcrc) s fun t => t = (s.setBit Reg.DBG_ERR b true).emit (.evral 0b0011) := by
  refine ⟨_, portTransfer_moves v dcrc hh hoff, ?_⟩
  exact evralMove_refused v _ hbad (by rwa [dbgOffset halign])

theorem portTransfer_badCrc (href : s.portRefusal write (Reg.DBG_ID + off) = none) (hw : write = true)
    (hcrc : decide (dcrc = (crc8 v).toNat) = false) : Ends (portTransfer write off v dcrc) s fun t =>
      t.out = s.out ++ [.evral 0b1010] ∧ t.bit Reg.DBG_ERR 5 = true ∧ t.evral.badData = true ∧ RegsBut s t [Reg.DBG_ERR] := by
  subst hw
  refine ⟨(((s.emit (.evral 0b1010)).setBit Reg.DBG_ERR 5 true).mapEvral fun e => { e with badData := true }), ?_, rfl,
    bit_setBit_same _ _ (by decide), rfl, setBit_regsBut s Reg.DBG_ERR 5 true⟩
  rw [portTransfer_moves v dcrc hh hoff, hcrc]
  exact congrArg _ (evralMove_badCrc v hbad (by rwa [dbgOffset halign]))

theorem portTransfer_written (href : s.portRefusal write (Reg.DBG_ID + off) = none) (hw : write = true)
    (hcrc : decide (dcrc = (crc8 v).toNat) = true) : Ends (portTransfer write off v dcrc) s fun t =>
      t = (s.emit (.evral 0b1010)).ctlWrite .debugger (Reg.DBG_ID + off) v := by
  subst hw
  have ha := dbgOffset halign
  refine ⟨_, ?_, rfl⟩
  rw [portTransfer_moves v dcrc hh hoff, hcrc, ← ha]
  exact congrArg _ (evralMove_written v hbad (by rwa [ha]) (by rw [ha]; exact inDbg_offset hoff))

theorem portTransfer_read (href : s.portRefusal write (Reg.DBG_ID + off) = none) (hw : write = false) :
    Ends (portTransfer write off v dcrc) s fun t => t.out = (s.ctlRead .debugger (Reg.DBG_ID + off)).1.out ++ [.evral 0b1010,
      .evral ((s.ctlRead .debugger (Reg.DBG_ID + off)).2.toNat * 256 + (crc8 (s.ctlRead .debugger (Reg.DBG_ID + off)).2).toNat)] := by
  subst hw
  have ha := dbgOffset halign
  rw [← ha] at href ⊢
  refine ⟨_, portTransfer_moves v dcrc hh hoff, ?_⟩
  have hread := evralMove_read v (decide (dcrc = (crc8 v).toNat)) hbad href (by rw [ha]; exact inDbg_offset hoff)
  dsimp only at hread
  rw [if_neg Bool.false_ne_true, hread]
  exact List.append_assoc ..

end

/-- Settles O53: the rule for each access of the debug port. -/
theorem debugPort : Obligations.DebugPort := by
  intro s m hh
  refine ⟨portAccess_eq s, fun hm => ⟨authCommit_ends hm, authClear_ends hm⟩, authCheckDone_ends hh, fun b => authResult_accepts,
    fun v p hp hlt hm => ⟨fun hrun => ⟨debugHalt_ends hp hlt hm hrun, fun hone htwo =>
      ⟨resume_ends hp hlt hm hrun hone htwo, step_ends hp hlt hm hrun hone htwo⟩⟩, debugHalt_denied hp hlt hm⟩,
    fun v r write hm hscope hsel hlt => ⟨rdataAccess_ends v hm hscope hsel hlt, rdataAccess_denied v hm hscope⟩,
    fun v hread hwrite => ⟨fun hd => ⟨mdataRead_denied hh hread hd, mdataWrite_denied hh v hwrite hd⟩, fun hd hdram hok =>
      ⟨mdataRead_ends hh hread hd rfl hdram hok, mdataWrite_ends hh v hwrite hd rfl hdram hok⟩⟩,
    fun hready n x i hn hx hi => shownByte_descriptor hready hn hx hi, fun a hready => shownByte_unready hready a,
    fun off => mdataDenied_of_barred, fun sync oper addr hcrc dcrc v hoper haddr => ⟨transfer_ignored v dcrc hoper haddr, ?_, ?_⟩,
    fun write off dcrc v hoff halign hbad => ⟨fun b => portTransfer_refused v dcrc hh hoff halign hbad,
      portTransfer_badCrc v dcrc hh hoff halign hbad, portTransfer_written v dcrc hh hoff halign hbad,
      portTransfer_read v dcrc hh hoff halign hbad⟩⟩
  · rintro rfl hcrc htwo hbad
    exact ⟨_, transfer_moves v dcrc hoper haddr hh hcrc, evralMove_noOper v _ hbad htwo⟩
  · rintro rfl hcrc hbad
    refine ⟨_, transfer_moves v dcrc hoper haddr hh hcrc, ?_⟩
    rw [evralMove_after_badData oper addr v _ hbad]
    exact ⟨rfl, rfl, rfl⟩

end Sys2Proof.Machine
end

section
/-! OBLIGATIONS. The Gleaner and the Almanac (O54). -/

namespace Sys2Proof.Machine

open Sys2Proof Sys2Proof.Stated

/-! ## The record of an event -/

/-- An event is counted before its record is written. -/
def State.eventCounted (s : State) (source cls : Nat) : State :=
  let s := s.mapGleaner fun g => { g with counts := sset (fun _ => 0) g.counts source (sat32 (sget (fun _ => 0) g.counts source)) }
  if cls = 1 then s.mapAlmanac fun a => { a with corr := a.corr + 1 } else s

/-- The record that an event makes. -/
def State.eventRecord (s : State) (source cls det : Nat) : GleanRec :=
  { seq := (s.reg Reg.GLN_NEXTSEQ).toNat, source := source, cls := cls, cleared := false, pin := (s.actions source cls).2.1
    lostBefore := s.gleaner.lostBefore, preReset := false, time := s.timeBase, epoch := s.reg64 Reg.TCK_EPOCH_LO
    detail := det, rep := 0 }

section

variable (s : State) (source cls det : Nat)

theorem eventCounted_keeps : (s.eventCounted source cls).gleaner.recs = s.gleaner.recs ∧
    (s.eventCounted source cls).gleaner.lostBefore = s.gleaner.lostBefore ∧ (s.eventCounted source cls).ctl = s.ctl ∧
    (s.eventCounted source cls).time = s.time ∧ (s.eventCounted source cls).tick = s.tick := by
  unfold State.eventCounted
  dsimp only
  split
  · exact ⟨rfl, rfl, rfl, rfl, rfl⟩
  · exact ⟨rfl, rfl, rfl, rfl, rfl⟩

theorem eventCounted_record : (s.eventCounted source cls).eventRecord source cls det = s.eventRecord source cls det := by
  obtain ⟨_, hlost, hctl, htime, htick⟩ := eventCounted_keeps s source cls
  simp only [State.eventRecord, State.actions, State.bit, State.reg, State.timeBase, State.reg64, hlost, hctl, htime, htick]

/-- What follows the count of an event that is logged. -/
theorem glean_eq : s.glean source cls det =
    let y := s.eventCounted source cls
    if !(s.actions source cls).1 then y
    else if coalesces y.gleaner.recs source cls det then
      y.mapGleaner fun g =>
        { g with recs := g.recs.modifyLast (fun r => { r with rep := sat32 r.rep })
                 doorbells := g.doorbells + (s.actions source cls).2.2.toNat }
    else match (if y.gleaner.recs.length < 1024 then some y.gleaner.recs
        else (victim? y.gleaner.recs).map y.gleaner.recs.eraseIdx) with
      | some l => (y.mapGleaner fun g =>
          { g with recs := l ++ [y.eventRecord source cls det], lostBefore := false
                   doorbells := g.doorbells + (s.actions source cls).2.2.toNat }).setReg Reg.GLN_NEXTSEQ (y.reg Reg.GLN_NEXTSEQ + 1)
      | none => ((y.mapGleaner fun g => { g with lostBefore := true }).count Reg.GLN_CNT_LOST 1).setBit Reg.GLN_ERR 1 true := by
  have hacts : (s.eventCounted source cls).actions source cls = s.actions source cls := by
    simp only [State.actions, State.bit, State.reg, (eventCounted_keeps s source cls).2.2.1]
  simp only [State.eventRecord, hacts]
  rfl

end

section

variable {s : State} {source cls det : Nat}

theorem glean_unlogged (h : (s.actions source cls).1 = false) : s.glean source cls det = s.eventCounted source cls := by
  rw [glean_eq, h]
  rfl

theorem glean_repeats (h : (s.actions source cls).1 = true) (hc : coalesces s.gleaner.recs source cls det = true) :
    (s.glean source cls det).gleaner.recs = s.gleaner.recs.modifyLast fun r => { r with rep := sat32 r.rep } := by
  obtain ⟨hrecs, _⟩ := eventCounted_keeps s source cls
  rw [glean_eq, h]
  simp only [Bool.not_true, Bool.false_eq_true, if_false, hrecs, hc, if_true, mapGleaner_gleaner]

theorem glean_appends (h : (s.actions source cls).1 = true) (hc : coalesces s.gleaner.recs source cls det = false)
    (hlen : s.gleaner.recs.length < 1024) : let t := s.glean source cls det
    t.gleaner.recs = s.gleaner.recs ++ [s.eventRecord source cls det] ∧ t.reg Reg.GLN_NEXTSEQ = s.reg Reg.GLN_NEXTSEQ + 1 ∧
    t.gleaner.lostBefore = false := by
  obtain ⟨hrecs, _, hctl, _⟩ := eventCounted_keeps s source cls
  have hreg : (s.eventCounted source cls).reg Reg.GLN_NEXTSEQ = s.reg Reg.GLN_NEXTSEQ := by rw [State.reg, hctl, State.reg]
  intro t
  have ht : t = ((s.eventCounted source cls).mapGleaner fun g =>
      { g with recs := s.gleaner.recs ++ [s.eventRecord source cls det], lostBefore := false
               doorbells := g.doorbells + (s.actions source cls).2.2.toNat }).setReg Reg.GLN_NEXTSEQ (s.reg Reg.GLN_NEXTSEQ + 1) := by
    simp only [t, glean_eq, h, hrecs, hc, hlen, hreg, eventCounted_record, Bool.not_true, Bool.false_eq_true, if_false, if_true]
  rw [ht]
  exact ⟨rfl, reg_setReg_same .., rfl⟩

theorem glean_loses (h : (s.actions source cls).1 = true) (hc : coalesces s.gleaner.recs source cls det = false)
    (hlen : 1024 ≤ s.gleaner.recs.length) (hkept : ∀ r ∈ s.gleaner.recs, r.cleared = false ∧ 3 ≤ r.cls) : let t := s.glean source cls det
    t.gleaner.recs = s.gleaner.recs ∧ t.gleaner.lostBefore = true ∧ Counted s t Reg.GLN_CNT_LOST ∧ t.bit Reg.GLN_ERR 1 = true := by
  obtain ⟨hrecs, _, hctl, _⟩ := eventCounted_keeps s source cls
  have hvictim : victim? s.gleaner.recs = none := by
    have hcleared : s.gleaner.recs.findIdx? (fun r => r.cleared) = none := by
      rw [List.findIdx?_eq_none_iff]
      exact fun r hr => (hkept r hr).1
    have hlow : s.gleaner.recs.findIdx? (fun r => r.cls ≤ 2) = none := by
      rw [List.findIdx?_eq_none_iff]
      intro r hr
      have := (hkept r hr).2
      exact decide_eq_false (by omega)
    rw [victim?, hcleared, hlow]
  intro t
  have ht : t = (((s.eventCounted source cls).mapGleaner fun g => { g with lostBefore := true }).count Reg.GLN_CNT_LOST 1).setBit
      Reg.GLN_ERR 1 true := by
    simp only [t, glean_eq, h, hrecs, hc, if_neg (Nat.not_lt.mpr hlen), hvictim, Option.map_none, Bool.not_true, Bool.false_eq_true, if_false]
  have hcount : (s.eventCounted source cls).reg Reg.GLN_CNT_LOST = s.reg Reg.GLN_CNT_LOST := by rw [State.reg, hctl, State.reg]
  rw [ht]
  refine ⟨hrecs, rfl, ?_, bit_setBit_same _ _ (by decide)⟩
  rw [Counted, reg_setBit_other _ _ _ (by decide), reg_count_same, reg_of_mapGleaner, hcount]

end

/-! ## An event of class 6 where no frame leaves -/

/-- The registers of the Gleaner's store, and the store. -/
def State.gleanLog (s : State) : Gleaner × Word × Word × Word :=
  (s.gleaner, s.reg Reg.GLN_NEXTSEQ, s.reg Reg.GLN_CNT_LOST, s.reg Reg.GLN_ERR)

theorem gleanLog_setReg (s : State) {o : Nat} (v : Word) (h : o ∉ gleanRegs) : (s.setReg o v).gleanLog = s.gleanLog := by
  simp only [gleanRegs, List.mem_cons, List.not_mem_nil, or_false, not_or] at h
  obtain ⟨hseq, hlost, herr⟩ := h
  simp only [State.gleanLog, reg_setReg_other _ _ (Ne.symm hseq), reg_setReg_other _ _ (Ne.symm hlost),
    reg_setReg_other _ _ (Ne.symm herr)]
  rfl

/-- Where no session stands, device safe state sends no frame. -/
theorem enterSafe_silent {α : Type} {p : State → α} (halmanac : ∀ (s : State) f, p (s.mapAlmanac f) = p s)
    (heth : ∀ (s : State) f, p (s.mapEth f) = p s) (hpower : ∀ (s : State) f, p (s.mapPower f) = p s)
    (hregs : ∀ (s : State) o v, o ∈ [Reg.GLN_STATUS, Reg.GLN_SAFECAUSE, Reg.TCK_STATUS, Reg.ALM_CNT_WATCH, Reg.ALM_CFGGEN] →
      p (s.setReg o v) = p s) {s : State} (source : Nat) (h : s.eth.sessions = []) : p (s.enterSafe source) = p s := by
  have hdowns (y : State) (hy : y.eth.sessions = []) : p (y.sendDowns source) = p y := by
    unfold State.sendDowns
    rw [hy]
    exact heth _ _
  have hcall := callSnapshot_keeps halmanac (fun s v => hregs s _ v (by decide)) (fun s v => hregs s _ v (by decide))
  unfold State.enterSafe
  split
  · rfl
  · have hcut (y : State) (v : Word) (hy : y.eth = s.eth) : ((y.setReg Reg.GLN_SAFECAUSE v).setBit Reg.TCK_STATUS 2 false).eth.sessions = [] := by
      rw [setBit_eth, setReg_eth, hy, h]
    refine (hpower _ _).trans ((hcall _ _).trans ((hdowns _ (hcut _ _ (setBit_eth ..))).trans ?_))
    exact (hregs _ _ _ (by decide)).trans ((hregs _ _ _ (by decide)).trans (hregs _ _ _ (by decide)))

theorem gleanLog_enterSafe {s : State} (source : Nat) (h : s.safe = true ∨ s.eth.sessions = []) :
    (s.enterSafe source).gleanLog = s.gleanLog := by
  rcases h with h | h
  · rw [State.enterSafe, if_pos h]
  · exact enterSafe_silent (fun _ _ => rfl) (fun _ _ => rfl) (fun _ _ => rfl)
      (fun s o v ho => gleanLog_setReg s v (by revert o; decide)) source h

theorem glean_sends (s : State) (source cls det : Nat) : (s.glean source cls det).safe = s.safe ∧ (s.glean source cls det).eth = s.eth := by
  refine ⟨?_, glean_keeps State.eth (fun _ _ => rfl) (fun _ _ => rfl) (fun _ _ _ _ => rfl) s source cls det⟩
  have hreg := glean_keeps (fun s => s.reg Reg.GLN_STATUS) (fun _ _ => rfl) (fun _ _ => rfl)
    (fun s _ v ho => reg_setReg_other s v fun he => (by decide : Reg.GLN_STATUS ∉ gleanRegs) (he ▸ ho)) s source cls det
  exact congrArg (·.getLsbD 31) hreg

/-- Device safe state changes nothing of what the Gleaner notes of its event. -/
theorem gleanLog_event {s : State} {source cls : Nat} (det : Nat) (h : cls ≠ 6 ∨ s.safe = true ∨ s.eth.sessions = []) :
    (s.event source cls det).gleanLog = (s.glean source cls det).gleanLog := by
  unfold State.event
  dsimp only
  split
  case isTrue h6 =>
    obtain ⟨hsafe, heth⟩ := glean_sends s source cls det
    exact gleanLog_enterSafe source (by rw [hsafe, heth]; exact h.resolve_left (not_not_intro h6))
  case isFalse => rfl

theorem enterSafe_cause {s : State} (source : Nat) (hs : s.safe = false) :
    (s.enterSafe source).reg Reg.GLN_SAFECAUSE = BitVec.ofNat 32 (2 ^ 31 + source) := by
  have hfree : SnapshotFree (fun s => s.reg Reg.GLN_SAFECAUSE) := snapshotFree_reg (by decide)
  have hpower (y : State) (f : Power → Power) : (y.mapPower f).reg Reg.GLN_SAFECAUSE = y.reg Reg.GLN_SAFECAUSE := rfl
  unfold State.enterSafe
  rw [hs, if_neg Bool.false_ne_true]
  dsimp only
  rw [hpower, hfree.callSnapshot, hfree.sendDowns, reg_setBit_other _ _ _ (by decide), reg_setReg_same]

theorem event_cause {s : State} (source det : Nat) (hs : s.safe = false) :
    (s.event source 6 det).reg Reg.GLN_SAFECAUSE = BitVec.ofNat 32 (2 ^ 31 + source) := by
  rw [State.event, if_pos rfl]
  exact enterSafe_cause source ((glean_sends s source 6 det).1.trans hs)

theorem coalesces_newest {l : List GleanRec} {r : GleanRec} (hc : r.cleared = false) :
    coalesces (l ++ [r]) r.source r.cls r.detail = true := by
  simp [coalesces, hc]

/-- An event of the Gleaner (R580 to R588). -/
theorem gleanerEvent_ends (s : State) {source : Nat} (cls det : Nat) (hs : source < 512) :
    let acts := s.actions source cls
    Ends (.gleanerEvent source cls det) s fun t =>
      (cls ≠ 6 ∨ s.safe = true ∨ s.eth.sessions = [] →
        (acts.1 = false → t.gleaner.recs = s.gleaner.recs) ∧
        (acts.1 = true → coalesces s.gleaner.recs source cls det = false → s.gleaner.recs.length < 1024 →
          t.gleaner.recs = s.gleaner.recs ++ [s.eventRecord source cls det] ∧ t.reg Reg.GLN_NEXTSEQ = s.reg Reg.GLN_NEXTSEQ + 1 ∧
          t.gleaner.lostBefore = false) ∧
        (∀ l r, acts.1 = true → s.gleaner.recs = l ++ [r] → r.cleared = false → r.source = source → r.cls = cls → r.detail = det →
          t.gleaner.recs = l ++ [{ r with rep := min 0xFFFFFFFF (r.rep + 1) }]) ∧
        (acts.1 = true → coalesces s.gleaner.recs source cls det = false → 1024 ≤ s.gleaner.recs.length →
          (∀ r ∈ s.gleaner.recs, r.cleared = false ∧ 3 ≤ r.cls) →
          t.gleaner.recs = s.gleaner.recs ∧ t.gleaner.lostBefore = true ∧ Counted s t Reg.GLN_CNT_LOST ∧ t.bit Reg.GLN_ERR 1 = true)) ∧
      (cls = 6 → t.safe = true ∧ (s.safe = false → t.reg Reg.GLN_SAFECAUSE = BitVec.ofNat 32 (2 ^ 31 + source))) ∧
      (cls ≠ 6 → OnlyLogged s t []) := by
  intro acts
  refine ⟨s.event source cls det, ?_, fun hquiet => ?_, ?_, event_onlyLogged s source det⟩
  · change execGleanerEvent source cls det s = _
    rw [execGleanerEvent, Nat.mod_eq_of_lt hs]
  · have hlog := gleanLog_event (source := source) det hquiet
    simp only [State.gleanLog, Prod.mk.injEq] at hlog
    obtain ⟨hgleaner, hseq, hlost, herr⟩ := hlog
    rw [hgleaner, hseq, Counted, hlost, State.bit, herr]
    refine ⟨fun h => ?_, glean_appends, fun l r h hl hc hsrc hcls hdet => ?_, glean_loses⟩
    · rw [glean_unlogged h]
      exact (eventCounted_keeps s source cls).1
    · subst hsrc hcls hdet
      rw [glean_repeats h (by rw [hl]; exact coalesces_newest hc), hl, List.modifyLast_concat]
      rfl
  · rintro rfl
    exact ⟨safe_event .., event_cause source det⟩

/-! ## A parity error of the Gleaner -/

/-- The bit of a parity error in the Gleaner's own store. -/
def State.parityMark (s : State) : Bool := s.bit Reg.GLN_ERR 2

theorem parityMark_setReg (s : State) {o : Nat} (v : Word) (h : o ≠ Reg.GLN_ERR) : (s.setReg o v).parityMark = s.parityMark := by
  rw [State.parityMark, State.bit, reg_setReg_other _ _ (Ne.symm h)]
  rfl

theorem parityMark_lost (s : State) : (s.setBit Reg.GLN_ERR 1 true).parityMark = s.parityMark :=
  bit_setBit_otherBit s _ (by decide) (by decide)

theorem parityMark_glean (s : State) (source cls det : Nat) : (s.glean source cls det).parityMark = s.parityMark := by
  have hcounted : (s.eventCounted source cls).parityMark = s.parityMark := by
    rw [State.parityMark, State.bit, State.reg, (eventCounted_keeps s source cls).2.2.1]
    rfl
  rw [glean_eq]
  dsimp only
  split
  · exact hcounted
  split
  · exact hcounted
  split
  · exact (parityMark_setReg _ _ (by decide)).trans hcounted
  · exact (parityMark_lost _).trans ((parityMark_setReg _ _ (by decide)).trans hcounted)

theorem parityMark_chargeSlot (s : State) (n : Nat) : (s.chargeSlot n).1.parityMark = s.parityMark := by
  unfold State.chargeSlot
  split
  · rfl
  · extract_lets k' near charged mirrored
    have hm : mirrored.parityMark = s.parityMark := by
      unfold mirrored
      split
      · exact mirrorKey_keeps (p := State.parityMark) (fun _ _ => rfl) charged n
      · rfl
    split
    · exact (parityMark_glean ..).trans ((parityMark_setReg _ _ (by decide)).trans hm)
    · exact hm

theorem parityMark_chargeSa (s : State) (n : Nat) (a : Sa) : (s.chargeSa n a).parityMark = s.parityMark := by
  unfold State.chargeSa
  extract_lets r warned
  have hw : warned.parityMark = s.parityMark := by
    unfold warned
    split
    · exact (parityMark_glean ..).trans ((parityMark_setReg _ _ (by decide)).trans (parityMark_chargeSlot s _))
    · exact parityMark_chargeSlot s _
  split
  · exact (parityMark_setReg _ _ (by decide)).trans hw
  · exact hw

theorem parityMark_sendFrame (s : State) (n pcp : Nat) (o : Out) : (s.sendFrame n pcp o).parityMark = s.parityMark := by
  have heth (y : State) (f : Eth → Eth) : (y.mapEth f).parityMark = y.parityMark := rfl
  have hemit (y : State) (o : Out) : (y.emit o).parityMark = y.parityMark := rfl
  have hput : (s.putFrame n pcp o).parityMark = s.parityMark := by
    unfold State.putFrame
    split
    · split
      · split
        · exact parityMark_setReg _ _ (by decide)
        · rfl
      · exact (hemit ..).trans ((parityMark_chargeSa ..).trans (heth ..))
    · exact hemit ..
  unfold State.sendFrame
  split
  · rfl
  split
  · exact heth ..
  · exact hput

theorem parityMark_sendDowns (s : State) (source : Nat) : (s.sendDowns source).parityMark = s.parityMark := by
  have heth (y : State) (f : Eth → Eth) : (y.mapEth f).parityMark = y.parityMark := rfl
  unfold State.sendDowns
  refine (heth _ _).trans (foldl_keeps State.parityMark (fun s x => ?_) _ _)
  split
  · rfl
  · unfold State.sendPacket
    dsimp only
    split
    · exact heth ..
    · exact (parityMark_sendFrame ..).trans (heth ..)

theorem parityMark_enterSafe (s : State) (source : Nat) : (s.enterSafe source).parityMark = s.parityMark := by
  have hcall := callSnapshot_keeps (p := State.parityMark) (fun _ _ => rfl) (fun s v => parityMark_setReg s v (by decide))
    (fun s v => parityMark_setReg s v (by decide))
  have hpower (y : State) (f : Power → Power) : (y.mapPower f).parityMark = y.parityMark := rfl
  unfold State.enterSafe
  split
  · rfl
  · refine (hpower _ _).trans ((hcall _ _).trans ((parityMark_sendDowns _ _).trans ?_))
    exact (parityMark_setReg _ _ (by decide)).trans ((parityMark_setReg _ _ (by decide)).trans (parityMark_setReg _ _ (by decide)))

/-- The bit of a fault of the Gleaner itself stays through the entry into device safe state. -/
theorem faultBit_enterSafe (s : State) (source : Nat) : (s.enterSafe source).bit Reg.GLN_STATUS 30 = s.bit Reg.GLN_STATUS 30 := by
  have hfree : SnapshotFree (fun s => s.bit Reg.GLN_STATUS 30) :=
    have hreg : SnapshotFree (fun s => s.reg Reg.GLN_STATUS) := snapshotFree_reg (by decide)
    { gleaner := fun _ _ => rfl, almanac := fun _ _ => rfl, eth := fun _ _ => rfl, cipher := fun _ _ => rfl, emit := fun _ _ => rfl
      regs := fun s o v h => congrArg (·.getLsbD 30) (hreg.regs s o v h)
      watch := fun s v => congrArg (·.getLsbD 30) (hreg.watch s v)
      gen := fun s v => congrArg (·.getLsbD 30) (hreg.gen s v) }
  have hpower (y : State) (f : Power → Power) : (y.mapPower f).bit Reg.GLN_STATUS 30 = y.bit Reg.GLN_STATUS 30 := rfl
  unfold State.enterSafe
  split
  · rfl
  · refine (hpower _ _).trans ((hfree.callSnapshot _ _).trans ((hfree.sendDowns _ _).trans ?_))
    rw [bit_setBit_otherReg _ _ _ _ (by decide), State.bit, reg_setReg_other _ _ (by decide)]
    exact bit_setBit_otherBit s _ (by decide) (by decide)

/-- A parity error of the Gleaner's own store (R584, R604). -/
theorem gleanerSelfParity_ends (s : State) (b : Bool) : Ends (.gleanerSelfParity b) s fun t =>
    t.bit Reg.GLN_STATUS 30 = true ∧ t.bit Reg.GLN_ERR 2 = true ∧ t.safe = true ∧ t.faultLow = true ∧
    (b = false → s.eth.sessions = [] → t.gleaner = s.gleaner) := by
  let marked := (s.setBit Reg.GLN_STATUS 30 true).setBit Reg.GLN_ERR 2 true
  let logged := if b then marked.glean Src.gleaner 6 (detail 2 noPlot 0) else marked
  have hfault : logged.bit Reg.GLN_STATUS 30 = true := by
    have hm : marked.bit Reg.GLN_STATUS 30 = true := by
      unfold marked
      rw [bit_setBit_otherReg _ _ _ _ (by decide)]
      exact bit_setBit_same s true (by decide)
    unfold logged
    split
    · have hreg := glean_keeps (fun s => s.reg Reg.GLN_STATUS) (fun _ _ => rfl) (fun _ _ => rfl)
        (fun s _ v ho => reg_setReg_other s v fun he => (by decide : Reg.GLN_STATUS ∉ gleanRegs) (he ▸ ho)) marked Src.gleaner 6
        (detail 2 noPlot 0)
      exact (congrArg (·.getLsbD 30) hreg).trans hm
    · exact hm
  have hmark : logged.parityMark = true := by
    have hm : marked.parityMark = true := bit_setBit_same _ true (by decide)
    unfold logged
    split
    · exact (parityMark_glean ..).trans hm
    · exact hm
  refine ⟨logged.enterSafe Src.gleaner, rfl, (faultBit_enterSafe ..).trans hfault, (parityMark_enterSafe ..).trans hmark,
    safe_enterSafe .., ?_, fun hb hnone => ?_⟩
  · rw [State.faultLow, safe_enterSafe, Bool.or_true, Bool.true_or, Bool.true_or]
  · have hlogged : logged = marked := if_neg (by rw [hb]; decide)
    have hsilent : marked.eth.sessions = [] := (congrArg Eth.sessions (setBit_eth ..)).trans ((congrArg Eth.sessions (setBit_eth ..)).trans hnone)
    rw [hlogged]
    exact (enterSafe_silent (p := State.gleaner) (fun _ _ => rfl) (fun _ _ => rfl) (fun _ _ => rfl) (fun _ _ _ _ => rfl)
      Src.gleaner hsilent).trans ((setBit_gleaner ..).trans (setBit_gleaner ..))

/-! ## The registers of a record -/

theorem onlyCtl_latchWords (s : State) (off : Nat) (ws : List Word) : OnlyCtl s (s.latchWords off ws) ∧ RegsBut s (s.latchWords off ws) [] := by
  induction ws generalizing s off with
  | nil => exact ⟨rfl, fun _ _ => rfl⟩
  | cons w ws ih =>
    obtain ⟨hctl, hregs⟩ := ih (s.latchWord off w) (off + 4)
    exact ⟨OnlyCtl.trans (s := s) (t := s.latchWord off w) rfl hctl, hregs⟩

/-- An answer after steps that change only the control registers' buses. -/
theorem answerRead_of {s t : State} (v : Word) (hctl : OnlyCtl s t) (hregs : RegsBut s t []) :
    (t.answerRead v).ctl.rdata = v ∧ OnlyCtl s (t.answerRead v) ∧ RegsBut s (t.answerRead v) [] :=
  ⟨rfl, OnlyCtl.trans hctl rfl, hregs⟩

theorem headD_wordsOf_leBytes (v : Nat) (l : List Byte) : (wordsOf (leBytes 4 v ++ l)).headD 0 = BitVec.ofNat 32 v := by
  have hle : leNat (leBytes 4 v) = v % 2 ^ 32 := leNat_leBytes 4 v
  have hcut : (wordsOf (leBytes 4 v ++ l)).headD 0 = BitVec.ofNat 32 (leNat (leBytes 4 v)) := rfl
  rw [hcut, hle]
  exact BitVec.eq_of_toNat_eq (by simp)

/-- A read of the first word of the selected record latches the others (R604). -/
theorem glnRec0Read_ends {s : State} {m : Master} (h : s.readsReg m Reg.GLN_REC = true) {r : GleanRec}
    (hr : s.gleaner.recs.find? (fun r => r.seq = (s.reg Reg.GLN_RECSEL).toNat) = some r) :
    Ends (.glnRec0Read m) s fun t => t.ctl.rdata = BitVec.ofNat 32 r.seq ∧ OnlyCtl s t ∧ RegsBut s t [] := by
  have hrec : s.selectedRecord = r.bytes := by rw [State.selectedRecord, hr]
  obtain ⟨hctl, hregs⟩ := onlyCtl_latchWords s Reg.GLN_REC (wordsOf r.bytes)
  have hhead : (wordsOf r.bytes).headD 0 = BitVec.ofNat 32 r.seq := by
    rw [GleanRec.bytes]
    simp only [List.append_assoc]
    exact headD_wordsOf_leBytes r.seq _
  refine ⟨(s.latchWords Reg.GLN_REC (wordsOf r.bytes)).answerRead (BitVec.ofNat 32 r.seq), ?_, answerRead_of _ hctl hregs⟩
  change execGlnRec0Read m s = _
  rw [execGlnRec0Read, if_pos h, State.readRec0, hrec, hhead]

/-! ## Samples -/

/-- The count of a channel. -/
def State.total (s : State) (n : Nat) : Nat := (sget (fun _ => Channel.empty) s.almanac.chans n).total

theorem total_gatherChannel (s : State) (x : Sample) (k n : Nat) : (s.gatherChannel x k).total n =
    if n = k ∧ matchesSample (s.almCfg (Reg.ALM_HCFG + 4 * k)) x then sat40 (s.total n) else s.total n := by
  unfold State.gatherChannel
  dsimp only
  split
  case isTrue hm =>
    simp only [State.total, mapAlmanac_almanac, sget_sset, hm, and_true]
    split
    case isTrue hk => rw [hk, Channel.add]
    case isFalse => rfl
  case isFalse hm => rw [if_neg fun h => hm h.2]

theorem cfg_gatherChannel (s : State) (x : Sample) (k : Nat) : (s.gatherChannel x k).almanac.cfg = s.almanac.cfg := by
  unfold State.gatherChannel
  dsimp only
  split
  · rfl
  · rfl

/-- A sample is counted once in each channel that names it. -/
theorem total_gatherChannels (s : State) (x : Sample) (m n : Nat) :
    let t := (List.range m).foldl (fun s k => s.gatherChannel x k) s
    t.almanac.cfg = s.almanac.cfg ∧
    t.total n = if n < m ∧ matchesSample (s.almCfg (Reg.ALM_HCFG + 4 * n)) x then sat40 (s.total n) else s.total n := by
  induction m with
  | zero => simp
  | succ m ih =>
    obtain ⟨hcfg, htotal⟩ := ih
    simp only [List.range_succ, List.foldl_append, List.foldl_cons, List.foldl_nil]
    refine ⟨(cfg_gatherChannel _ _ _).trans hcfg, ?_⟩
    rw [total_gatherChannel, htotal, State.almCfg, hcfg, ← State.almCfg]
    by_cases hn : n = m
    · subst hn
      simp
    · have hlt : n < m + 1 ↔ n < m := by omega
      simp only [hn, false_and, if_false, hlt]

/-- Where no tracker's limit is exceeded, a sample calls for no snapshot. -/
theorem gatherTracker_quiet (s : State) {x : Sample} {k : Nat}
    (h : exceeds (s.almCfg (Reg.ALM_XCFG + 4 * k)) (s.almCfg (Reg.ALM_XLIM + 4 * k)) x = false) :
    (s.gatherTracker x k).2 = [] ∧ (s.gatherTracker x k).1.almanac.cfg = s.almanac.cfg ∧
    (s.gatherTracker x k).1.almanac.chans = s.almanac.chans := by
  unfold State.gatherTracker
  dsimp only
  split
  · rw [if_neg]
    · exact ⟨rfl, rfl, rfl⟩
    · exact ne_true_of_eq_false h
  · exact ⟨rfl, rfl, rfl⟩

theorem gatherTrackers_quiet (s : State) {x : Sample} (l : List Nat)
    (h : ∀ k ∈ l, exceeds (s.almCfg (Reg.ALM_XCFG + 4 * k)) (s.almCfg (Reg.ALM_XLIM + 4 * k)) x = false) :
    let r := l.foldl (fun (r : State × List Trigger) t =>
      let q := r.1.gatherTracker x t
      (q.1, r.2 ++ q.2)) (s, [])
    r.2 = [] ∧ r.1.almanac.cfg = s.almanac.cfg ∧ r.1.almanac.chans = s.almanac.chans := by
  induction l generalizing s with
  | nil => exact ⟨rfl, rfl, rfl⟩
  | cons k l ih =>
    obtain ⟨hnone, hcfg, hchans⟩ := gatherTracker_quiet s (h k (List.mem_cons_self ..))
    obtain ⟨htrig, hcfg', hchans'⟩ := ih (s.gatherTracker x k).1 fun j hj => by
      rw [State.almCfg, State.almCfg, hcfg]
      exact h j (List.mem_cons_of_mem _ hj)
    simp only [List.foldl_cons, hnone, List.append_nil]
    exact ⟨htrig, hcfg'.trans hcfg, hchans'.trans hchans⟩

/-- A sample that exceeds no limit is counted, and calls for no snapshot. -/
theorem gatherOne_quiet (s : State) {x : Sample}
    (h : ∀ k, k < 64 → exceeds (s.almCfg (Reg.ALM_XCFG + 4 * k)) (s.almCfg (Reg.ALM_XLIM + 4 * k)) x = false) :
    (s.gatherOne x).2 = [] ∧ (s.gatherOne x).1.almanac.cfg = s.almanac.cfg ∧ ∀ n, n < 64 → (s.gatherOne x).1.total n =
      if matchesSample (s.almCfg (Reg.ALM_HCFG + 4 * n)) x then sat40 (s.total n) else s.total n := by
  have hchannels := total_gatherChannels s x 64
  obtain ⟨htrig, hcfg, hchans⟩ := gatherTrackers_quiet ((List.range 64).foldl (fun s k => s.gatherChannel x k) s) (x := x) (List.range 64)
    fun k hk => by
      rw [State.almCfg, State.almCfg, (hchannels 0).1]
      exact h k (List.mem_range.mp hk)
  refine ⟨htrig, hcfg.trans (hchannels 0).1, fun n hn => ?_⟩
  have htotal := (hchannels n).2
  simp only [hn, true_and] at htotal
  rw [← htotal, State.total, State.gatherOne, hchans, State.total]

theorem gatherAll_quiet (l : List Sample) (s : State)
    (h : ∀ x ∈ l, ∀ k, k < 64 → exceeds (s.almCfg (Reg.ALM_XCFG + 4 * k)) (s.almCfg (Reg.ALM_XLIM + 4 * k)) x = false) :
    let r := l.foldl (fun (r : State × List Trigger) x =>
      let q := r.1.gatherOne x
      (q.1, r.2 ++ q.2)) (s, [])
    r.2 = [] ∧ ∀ n, n < 64 → s.total n ≤ 2 ^ 40 - 1 →
      r.1.total n = min (2 ^ 40 - 1) (s.total n + l.countP (matchesSample (s.almCfg (Reg.ALM_HCFG + 4 * n)))) := by
  induction l generalizing s with
  | nil =>
    refine ⟨rfl, fun n _ hcap => ?_⟩
    rw [List.foldl_nil, List.countP_nil, Nat.add_zero, min_eq_right hcap]
  | cons x l ih =>
    obtain ⟨hnone, hcfg, htotal⟩ := gatherOne_quiet s (h x (List.mem_cons_self ..))
    have hword (o : Nat) : (s.gatherOne x).1.almCfg o = s.almCfg o := by rw [State.almCfg, hcfg, State.almCfg]
    obtain ⟨htrig, hrest⟩ := ih (s.gatherOne x).1 fun y hy k hk => by
      rw [hword, hword]
      exact h y (List.mem_cons_of_mem _ hy) k hk
    simp only [List.foldl_cons, hnone, List.append_nil]
    refine ⟨htrig, fun n hn hcap => ?_⟩
    have hone := htotal n hn
    have hle : (s.gatherOne x).1.total n ≤ 2 ^ 40 - 1 := by
      rw [hone, sat40]
      split
      · exact min_le_left ..
      · exact hcap
    rw [hrest n hn hle, hword, hone, List.countP_cons, sat40]
    split
    · omega
    · rfl

theorem samples_gatherChannels (s : State) (x : Sample) (l : List Nat) :
    (l.foldl (fun s k => s.gatherChannel x k) s).almanac.samples = s.almanac.samples := by
  refine foldl_keeps (fun y : State => y.almanac.samples) (fun y k => ?_) _ _
  unfold State.gatherChannel
  dsimp only
  split
  · rfl
  · rfl

theorem samples_gatherTracker (s : State) (x : Sample) (k : Nat) : (s.gatherTracker x k).1.almanac.samples = s.almanac.samples := by
  unfold State.gatherTracker
  dsimp only
  split
  · split
    · rfl
    · rfl
  · rfl

theorem samples_gatherTrackers (x : Sample) (l : List Nat) (r : State × List Trigger) :
    (l.foldl (fun (r : State × List Trigger) t =>
      let q := r.1.gatherTracker x t
      (q.1, r.2 ++ q.2)) r).1.almanac.samples = r.1.almanac.samples := by
  induction l generalizing r with
  | nil => rfl
  | cons k l ih => exact (ih _).trans (samples_gatherTracker r.1 x k)

theorem samples_gatherOne (s : State) (x : Sample) : (s.gatherOne x).1.almanac.samples = s.almanac.samples := by
  rw [State.gatherOne, samples_gatherTrackers]
  exact samples_gatherChannels s x (List.range 64)

theorem samples_gatherAll (l : List Sample) (r : State × List Trigger) :
    (l.foldl (fun (r : State × List Trigger) x =>
      let q := r.1.gatherOne x
      (q.1, r.2 ++ q.2)) r).1.almanac.samples = r.1.almanac.samples := by
  induction l generalizing r with
  | nil => rfl
  | cons x l ih => exact (ih _).trans (samples_gatherOne r.1 x)

/-- What a snapshot takes over of the Almanac, and what it begins anew. -/
theorem takeSnapshot_almanac (s : State) (l : List Trigger) (b : Bool) : ∃ cfg image, (s.takeSnapshot l b).almanac =
    { s.almanac with
      writing := some { seq := s.reg64 Reg.ALM_HEAD_LO + 1, image := image }, triggers := [], chans := [], tracks := []
      watchMap := 0, cfg := cfg, start := s.time, resetSeen := false } := by
  have hstart (y : State) : ∃ cfg, y.startInterval.almanac =
      { y.almanac with chans := [], tracks := [], watchMap := 0, cfg := cfg, start := y.time, resetSeen := false } := ⟨_, rfl⟩
  unfold State.takeSnapshot
  extract_lets seq trig written counted
  have hcounted : counted.almanac = written.almanac ∧ counted.time = written.time := by
    unfold counted
    split
    · exact ⟨rfl, rfl⟩
    · exact ⟨rfl, rfl⟩
  obtain ⟨cfg, hcfg⟩ := hstart counted
  refine ⟨cfg, s.snapImage seq trig b, ?_⟩
  rw [hcfg, hcounted.1, hcounted.2]
  rfl

theorem reg_takeSnapshot (s : State) (l : List Trigger) (b : Bool) {o : Nat} (h : o ∉ [Reg.ALM_CNT_WATCH, Reg.ALM_CFGGEN]) :
    (s.takeSnapshot l b).reg o = s.reg o := by
  simp only [List.mem_cons, List.not_mem_nil, or_false, not_or] at h
  obtain ⟨hwatch, hgen⟩ := h
  unfold State.takeSnapshot
  extract_lets seq trig written counted
  refine (reg_setReg_other _ _ hgen).trans (show counted.reg o = s.reg o from ?_)
  unfold counted
  split
  · exact reg_count_other _ _ hwatch
  · rfl

theorem samples_callSnapshot (s : State) (l : List Trigger) : (s.callSnapshot l).almanac.samples = s.almanac.samples := by
  unfold State.callSnapshot
  split
  · rfl
  split
  · obtain ⟨cfg, image, htaken⟩ := takeSnapshot_almanac s l false
    rw [htaken]
  · rfl

/-- A gathering takes the samples that wait (R592 to R594). -/
theorem almanacEarlyGather_ends {s : State} (h : s.reg64 Reg.TCK_TICKCNT_LO = 0) : Ends .almanacEarlyGather s fun t =>
    t.almanac.samples = [] ∧
    ((∀ x ∈ s.almanac.samples, ∀ k, k < 64 → exceeds (s.almCfg (Reg.ALM_XCFG + 4 * k)) (s.almCfg (Reg.ALM_XLIM + 4 * k)) x = false) →
      ∀ n, n < 64 → s.total n ≤ 2 ^ 40 - 1 →
        t.total n = min (2 ^ 40 - 1) (s.total n + s.almanac.samples.countP (matchesSample (s.almCfg (Reg.ALM_HCFG + 4 * n))))) := by
  refine ⟨s.gather, ?_, ?_, fun hquiet n hn hcap => ?_⟩
  · change execAlmanacEarlyGather s = _
    rw [execAlmanacEarlyGather, if_pos h]
  · unfold State.gather
    exact (samples_callSnapshot _ _).trans (samples_gatherAll s.almanac.samples _)
  · obtain ⟨hnone, htotal⟩ := gatherAll_quiet s.almanac.samples (s.mapAlmanac fun a => { a with samples := [] }) hquiet
    rw [State.gather]
    dsimp only
    rw [hnone]
    exact htotal n hn hcap

/-! ## Snapshots -/

/-- A trigger while no snapshot is being written begins one. -/
theorem callSnapshot_begins {s : State} {x : Trigger} (h : s.almanac.writing = none) : let t := s.callSnapshot [x]
    t.almanac.start = s.time ∧ t.almanac.chans = [] ∧ t.almanac.writing.map (·.seq) = some (s.reg64 Reg.ALM_HEAD_LO + 1) := by
  obtain ⟨cfg, image, htaken⟩ := takeSnapshot_almanac s [x] false
  have ht : s.callSnapshot [x] = s.takeSnapshot [x] false := by rw [State.callSnapshot, h]; rfl
  simp only [ht, htaken, Option.map_some, and_self]

/-- A trigger while a snapshot is being written waits. -/
theorem callSnapshot_waits {s : State} {x : Trigger} {w : SnapWrite} (h : s.almanac.writing = some w) :
    s.callSnapshot [x] = s.mapAlmanac fun a => { a with triggers := a.triggers ++ [x] } := by
  rw [State.callSnapshot, h]
  rfl

/-- The end of an interval (R597). -/
theorem almanacInterval_due {s : State} (n : Nat) (hnone : s.almanac.writing = none)
    (h : s.almanac.start + (s.almCfg Reg.ALM_INTERVAL).toNat * 1000000000 ≤ max s.time n) : Ends (.almanacInterval n) s fun t =>
    t.almanac.start = max s.time n ∧ t.almanac.chans = [] ∧ t.almanac.writing.map (·.seq) = some (s.reg64 Reg.ALM_HEAD_LO + 1) := by
  refine ⟨(s.advance n).callSnapshot [.interval], ?_, callSnapshot_begins (s := s.advance n) hnone⟩
  change execAlmanacInterval n s = _
  rw [execAlmanacInterval]
  exact congrArg Host.Outcome.next (if_pos h)

theorem almanacInterval_early {s : State} (n : Nat)
    (h : max s.time n < s.almanac.start + (s.almCfg Reg.ALM_INTERVAL).toNat * 1000000000) : Ends (.almanacInterval n) s fun t =>
    t = s.advance n := by
  refine ⟨s.advance n, ?_, rfl⟩
  change execAlmanacInterval n s = _
  rw [execAlmanacInterval]
  exact congrArg Host.Outcome.next (if_neg (Nat.not_le.mpr h))

theorem almanacSnap_calls {s : State} {m : Master} (h : s.writesReg m Reg.ALM_CTRL = true) :
    exec (.almanacSnap m) s = .next (s.callSnapshot [.manual]) := by
  change execAlmanacSnap m s = _
  rw [execAlmanacSnap, if_pos h]

/-! ## The end of a write -/

/-- The image of a snapshot stands in its slots, and its number in ALM_HEAD. -/
def State.snapStored (s : State) (w : SnapWrite) (a b noise : Nat) : State :=
  (s.mapAlmanac fun x =>
    { x with writing := none
             circ := sput x.circ ((w.seq - 1) % 4096) (storedImage w.image b noise)
             perm := if w.seq ≤ 4096 then sput x.perm (w.seq - 1) (storedImage w.image a noise) else x.perm }).setReg64 Reg.ALM_HEAD_LO w.seq

/-- An event below class 6 of more than class 1 changes nothing of the Almanac. -/
theorem almanac_glean (s : State) (source : Nat) {cls : Nat} (det : Nat) (h : cls ≠ 1) : (s.glean source cls det).almanac = s.almanac := by
  have hcounted : (s.eventCounted source cls).almanac = s.almanac := by
    rw [State.eventCounted, if_neg h]
    rfl
  rw [glean_eq]
  dsimp only
  split
  · exact hcounted
  split
  · exact hcounted
  split
  · exact hcounted
  · exact hcounted

theorem storedImage_good {b : Nat} (h : b < 2) (image : List Byte) (noise : Nat) : storedImage image b noise = image := by
  rw [storedImage, if_pos h]

/-- What stands when a snapshot's write has ended and before another one begins. -/
structure SnapDone (s t : State) (w : SnapWrite) (a b : Nat) : Prop where
  head : t.reg64 Reg.ALM_HEAD_LO = w.seq
  circ : b < 2 → t.almanac.circ.lookup ((w.seq - 1) % 4096) = some w.image
  perm : w.seq ≤ 4096 → a < 2 → t.almanac.perm.lookup (w.seq - 1) = some w.image
  err  : 2 ≤ b → t.bit Reg.ALM_ERR 1 = true
  idle : t.almanac.writing = none
  triggers : t.almanac.triggers = s.almanac.triggers

theorem snapStored_done (s : State) {w : SnapWrite} {a b : Nat} (noise : Nat) (hw : w.seq < 2 ^ 64) (hb : b < 2) :
    SnapDone s (s.snapStored w a b noise) w a b where
  head := reg64_setReg64_same _ _ hw
  circ hb := by
    rw [← storedImage_good hb w.image noise]
    exact lookup_sput_same ..
  perm hseq ha := by
    have hperm : (s.snapStored w a b noise).almanac.perm =
        if w.seq ≤ 4096 then sput s.almanac.perm (w.seq - 1) (storedImage w.image a noise) else s.almanac.perm := rfl
    rw [hperm, if_pos hseq, storedImage_good ha]
    exact lookup_sput_same ..
  err h := absurd hb (Nat.not_lt.mpr h)
  idle := rfl
  triggers := rfl

/-- A write that failed is logged, and its slot keeps what stands in it. -/
theorem snapFailed_done (s : State) {w : SnapWrite} {a b : Nat} (noise : Nat) (hw : w.seq < 2 ^ 64) :
    SnapDone s ((s.snapStored w a b noise).errEvent Reg.ALM_ERR 1 Src.almanac 2 noPlot 0) w a b := by
  let y := s.snapStored w a b noise
  have halm : (y.errEvent Reg.ALM_ERR 1 Src.almanac 2 noPlot 0).almanac = y.almanac := by
    rw [State.errEvent, State.event, if_neg (by decide), almanac_glean _ _ _ (by decide)]
    rfl
  have hhead : (y.errEvent Reg.ALM_ERR 1 Src.almanac 2 noPlot 0).reg64 Reg.ALM_HEAD_LO = y.reg64 Reg.ALM_HEAD_LO := by
    rw [State.reg64, State.errEvent, reg_event _ _ _ (by decide) (by decide), reg_event _ _ _ (by decide) (by decide),
      reg_setBit_other _ _ _ (by decide), reg_setBit_other _ _ _ (by decide), State.reg64]
  have hperm : y.almanac.perm =
      if w.seq ≤ 4096 then sput s.almanac.perm (w.seq - 1) (storedImage w.image a noise) else s.almanac.perm := rfl
  refine ⟨hhead.trans (reg64_setReg64_same _ _ hw), fun hb => ?_, fun hseq ha => ?_, fun _ => bit_errEvent _ _ _ _ (by decide) (by decide) (by decide),
    (congrArg Almanac.writing halm).trans rfl, (congrArg Almanac.triggers halm).trans rfl⟩
  · rw [halm, ← storedImage_good hb w.image noise]
    exact lookup_sput_same ..
  · rw [halm, hperm, if_pos hseq, storedImage_good ha]
    exact lookup_sput_same ..

/-- The write of a snapshot ends (R597, R601). -/
theorem snapshotWriteDone_ends {s : State} {w : SnapWrite} (a b : Nat) (h : s.almanac.writing = some w) (hw : w.seq < 2 ^ 64) :
    Ends (.snapshotWriteDone a b) s fun t =>
      t.reg64 Reg.ALM_HEAD_LO = w.seq ∧
      (b < 2 → t.almanac.circ.lookup ((w.seq - 1) % 4096) = some w.image) ∧
      (2 ≤ b → t.bit Reg.ALM_ERR 1 = true) ∧
      (w.seq ≤ 4096 → a < 2 → t.almanac.perm.lookup (w.seq - 1) = some w.image) ∧
      (s.almanac.triggers = [] → t.almanac.writing = none) ∧
      (s.almanac.triggers ≠ [] → t.almanac.writing.map (·.seq) = some (w.seq + 1)) := by
  let bad := decide (2 ≤ b) || (decide (w.seq ≤ 4096) && decide (2 ≤ a))
  let stored := (if bad then s.drawn else s).snapStored w a b s.free
  let ended := if bad then stored.errEvent Reg.ALM_ERR 1 Src.almanac 2 noPlot 0 else stored
  have hended : SnapDone s ended w a b := by
    unfold ended
    cases hbad : bad with
    | true =>
      have hst : stored = s.drawn.snapStored w a b s.free := by unfold stored; rw [hbad]; rfl
      rw [if_pos rfl, hst]
      obtain ⟨hhead, hcirc, hperm, herr, hidle, htrig⟩ := snapFailed_done s.drawn (a := a) (b := b) s.free hw
      exact ⟨hhead, hcirc, hperm, herr, hidle, htrig⟩
    | false =>
      have hst : stored = s.snapStored w a b s.free := by unfold stored; rw [hbad]; rfl
      have hb : b < 2 := by
        simp only [bad, Bool.or_eq_false_iff, decide_eq_false_iff_not] at hbad
        exact Nat.not_le.mp hbad.1
      rw [if_neg (by decide), hst]
      exact snapStored_done s s.free hw hb
  obtain ⟨hhead, hcirc, hperm, herr, hidle, htrig⟩ := hended
  have hrun : exec (.snapshotWriteDone a b) s = .next (if ended.almanac.triggers.isEmpty then ended
      else ended.takeSnapshot ended.almanac.triggers (decide (2 ≤ ended.almanac.triggers.length))) := by
    change execSnapshotWriteDone a b s = _
    rw [execSnapshotWriteDone, State.snapshotDone, h]
    rfl
  by_cases hnone : s.almanac.triggers = []
  · refine ⟨ended, ?_, hhead, hcirc, herr, hperm, fun _ => hidle, fun hne => absurd hnone hne⟩
    rw [hrun, htrig, hnone, List.isEmpty_nil, if_pos rfl]
  · obtain ⟨cfg, image, htaken⟩ := takeSnapshot_almanac ended ended.almanac.triggers (decide (2 ≤ ended.almanac.triggers.length))
    refine ⟨ended.takeSnapshot ended.almanac.triggers (decide (2 ≤ ended.almanac.triggers.length)), ?_, ?_, ?_, ?_, ?_, fun he => absurd he hnone, fun _ => ?_⟩
    · rw [hrun, if_neg]
      rw [htrig, List.isEmpty_iff]
      exact hnone
    · rw [State.reg64, reg_takeSnapshot _ _ _ (by decide), reg_takeSnapshot _ _ _ (by decide)]
      exact hhead
    · rw [htaken]
      exact hcirc
    · intro hb
      rw [State.bit, reg_takeSnapshot _ _ _ (by decide)]
      exact herr hb
    · rw [htaken]
      exact hperm
    · rw [htaken, hhead]
      rfl

/-! ## The window of the Almanac -/

/-- A read of the window's first word reads the part that the cursor names (R602). -/
theorem almWindow0Read_ends {s : State} {m : Master} (h : s.readsReg m Reg.ALM_WINDOW = true) : Ends (.almWindow0Read m) s fun t =>
    t.almanac.window = s.almPart ∧ t.ctl.rdata = BitVec.ofNat 32 (leAt s.almPart 0 4) ∧ RegsBut s t [] := by
  refine ⟨s.readWindow0, ?_, rfl, rfl, fun _ _ => rfl⟩
  change execAlmWindow0Read m s = _
  rw [execAlmWindow0Read, if_pos h]

/-- The cursor moves to the next part, and after the last one to the next slot. -/
theorem almAdvance_cursor (s : State) : RegsBut s s.almAdvance [Reg.ALM_CURSOR] ∧
    s.almAdvance.fld Reg.ALM_CURSOR 2 0 = (s.fld Reg.ALM_CURSOR 2 0 + 1) % 8 ∧
    s.almAdvance.fld Reg.ALM_CURSOR 27 16 = (if s.fld Reg.ALM_CURSOR 2 0 = 7 then (s.fld Reg.ALM_CURSOR 27 16 + 1) % 4096
      else s.fld Reg.ALM_CURSOR 27 16) := by
  unfold State.almAdvance
  dsimp only
  split
  · refine ⟨fun o ho => ?_, ?_, ?_⟩
    · rw [reg_setFld_other _ _ _ _ (by simpa using ho), reg_setFld_other _ _ _ _ (by simpa using ho)]
    · rw [State.fld, reg_setFld_same, bits_setBits_out _ _ (by decide) (by decide) (by decide), reg_setFld_same,
        bits_setBits _ _ (by decide) (by decide)]
      exact Nat.mod_mod ..
    · rw [State.fld, reg_setFld_same, bits_setBits _ _ (by decide) (by decide)]
      exact Nat.mod_mod ..
  · refine ⟨fun o ho => reg_setFld_other _ _ _ _ (by simpa using ho), ?_, ?_⟩
    · rw [State.fld, reg_setFld_same, bits_setBits _ _ (by decide) (by decide)]
      exact Nat.mod_mod ..
    · rw [State.fld, reg_setFld_same, bits_setBits_out _ _ (by decide) (by decide) (by decide), State.fld]

theorem data_readWindow63 (s : State) : s.readWindow63.ctl.rdata = BitVec.ofNat 32 (leAt s.almanac.window 252 4) := by
  have hdata (y : State) : y.almAdvance.ctl.rdata = y.ctl.rdata := by
    have hfld (y : State) (off hi lo v : Nat) : (y.setFld off hi lo v).ctl.rdata = y.ctl.rdata := rfl
    unfold State.almAdvance
    dsimp only
    split
    · exact (hfld ..).trans (hfld ..)
    · exact hfld ..
  rw [State.readWindow63, hdata]
  rfl

/-- A read of the window's last word moves the cursor to the next part (R602). -/
theorem almWindow63Read_ends {s : State} {m : Master} (h : s.readsReg m (Reg.ALM_WINDOW + 252) = true) :
    Ends (.almWindow63Read m) s fun t =>
      t.ctl.rdata = BitVec.ofNat 32 (leAt s.almanac.window 252 4) ∧ RegsBut s t [Reg.ALM_CURSOR] ∧
      t.fld Reg.ALM_CURSOR 2 0 = (s.fld Reg.ALM_CURSOR 2 0 + 1) % 8 ∧
      t.fld Reg.ALM_CURSOR 27 16 = (if s.fld Reg.ALM_CURSOR 2 0 = 7 then (s.fld Reg.ALM_CURSOR 27 16 + 1) % 4096
        else s.fld Reg.ALM_CURSOR 27 16) := by
  refine ⟨s.readWindow63, ?_, ?_⟩
  · change execAlmWindow63Read m s = _
    rw [execAlmWindow63Read, if_pos h]
  · exact ⟨data_readWindow63 s, almAdvance_cursor (s.answerRead _)⟩

/-- Settles O54: an event is counted and its record written, repeated or lost; samples are counted in the channels that name
them; a snapshot is called for by the interval or by SNAP, waits for one that is being written, and ends in its slot. -/
theorem gleanerAndAlmanac : Obligations.GleanerAndAlmanac := by
  intro s m
  refine ⟨fun source cls det hsource _ => gleanerEvent_ends s cls det hsource, gleanerSelfParity_ends s,
    fun hread r hr => glnRec0Read_ends hread hr, almanacEarlyGather_ends, fun hnone => ⟨fun n => almanacInterval_due n hnone, fun hwrite => ?_⟩,
    almanacInterval_early, fun w hw hwrite => ?_, fun w a b => snapshotWriteDone_ends a b, almWindow0Read_ends, almWindow63Read_ends⟩
  · exact ⟨s.callSnapshot [.manual], almanacSnap_calls hwrite, callSnapshot_begins hnone⟩
  · refine ⟨s.callSnapshot [.manual], almanacSnap_calls hwrite, ?_⟩
    rw [callSnapshot_waits hw]
    exact ⟨rfl, rfl⟩

end Sys2Proof.Machine
end

section
/-! SUPPORT. What an engine sees of memory depends on the registers, the routes and memory only. -/

namespace Sys2Proof.Machine

open Sys2Proof Sys2Proof.Stated

section

variable {s t : State}

theorem reaches_of (hctl : t.ctl = s.ctl) (hwarp : t.warp = s.warp) (gen dest fuel r : Nat) :
    t.reaches gen dest fuel r = s.reaches gen dest fuel r := by
  have hroute (k : Nat) : t.routeEntry gen k dest = s.routeEntry gen k dest := by rw [State.routeEntry, hwarp, State.routeEntry]
  induction fuel generalizing r with
  | zero => simp only [State.reaches]
  | succ fuel ih => simp only [State.reaches, hroute, bit_of_ctl hctl, ih]

theorem answerOf_of (hctl : t.ctl = s.ctl) (hwarp : t.warp = s.warp) (init pa : Nat) : t.answerOf init pa = s.answerOf init pa := by
  have hroute (target : Nat) : t.unroutable init target = s.unroutable init target := by
    rw [State.unroutable, reg_of_ctl hctl, fld_of_ctl hctl, reaches_of hctl hwarp, State.unroutable]
  have hoff (d : Nat) : t.domainOff d = s.domainOff d := by simp only [State.domainOff, bit_of_ctl hctl]
  have hbank (c k : Nat) : t.bankAsleep c k = s.bankAsleep c k := by simp only [State.bankAsleep, bit_of_ctl hctl]
  simp only [State.answerOf, region_of_ctl hctl, bit_of_ctl hctl, hroute, hoff, hbank]

theorem poisonIn_of_mem (hmem : t.mem = s.mem) (pa n : Nat) : t.poisonIn pa n = s.poisonIn pa n := by
  simp only [State.poisonIn, State.poisonAt, hmem]

variable (hctl : t.ctl = s.ctl) (hwarp : t.warp = s.warp) (hmem : t.mem = s.mem)

include hctl hwarp hmem

theorem agentStatus_of (init pa n : Nat) : t.agentStatus init pa n = s.agentStatus init pa n := by
  simp only [State.agentStatus, answerOf_of hctl hwarp, poisonIn_of_mem hmem]

theorem engineSees_of (init pa n : Nat) (strong : Bool) : t.engineSees init pa n strong = s.engineSees init pa n strong := by
  simp only [State.engineSees, agentStatus_of hctl hwarp hmem, region_of_ctl hctl, bit_of_ctl hctl]

theorem goodPrefix_of (init pa n : Nat) (strong : Bool) : t.goodPrefix init pa n strong = s.goodPrefix init pa n strong := by
  simp only [State.goodPrefix, engineSees_of hctl hwarp hmem]

theorem sheafLost_of (h : Sheaf) : t.sheafLost h = s.sheafLost h := by
  simp only [State.sheafLost, goodPrefix_of hctl hwarp hmem, areaSize_of_ctl hctl, areaBase_of_ctl hctl]

end

end Sys2Proof.Machine
end

section
/-! OBLIGATIONS. Storage paths, destage and the plough (O47). -/

namespace Sys2Proof.Machine

open Sys2Proof Sys2Proof.Stated

/-! ## Logs -/

/-- What is logged after a counter has moved. -/
theorem OnlyLogged.of_count {s t : State} {o n : Nat} {l : List Nat} (h : OnlyLogged (s.count o n) t l) : OnlyLogged s t (o :: l) := by
  obtain ⟨hstate, hregs⟩ := h
  refine ⟨hstate, fun r hr => ?_⟩
  simp only [List.cons_append, List.mem_cons, not_or] at hr
  obtain ⟨ho, hrest⟩ := hr
  exact (hregs r hrest).trans (reg_count_other s n ho)

theorem OnlyLogged.furrow {s t : State} {l : List Nat} (h : OnlyLogged s t l) : t.furrow = s.furrow := by
  have hf := congrArg State.furrow h.1
  exact hf

theorem OnlyLogged.mem {s t : State} {l : List Nat} (h : OnlyLogged s t l) : t.mem = s.mem := by
  have hf := congrArg State.mem h.1
  exact hf

theorem OnlyLogged.units {s t : State} {l : List Nat} (h : OnlyLogged s t l) : t.units = s.units := by
  have hf := congrArg State.units h.1
  exact hf

/-- A counter, and then an event below class 6 in another register. -/
theorem countEvent_logged (s : State) {o err bit : Nat} (source : Nat) {cls : Nat} (plot inst : Nat) (hcls : cls ≠ 6) (hbit : bit < 32)
    (ho : o ∉ gleanRegs) (herr : err ∉ gleanRegs) (hne : o ≠ err) : let t := (s.count o 1).errEvent err bit source cls plot inst
    Counted s t o ∧ t.bit err bit = true ∧ OnlyLogged s t [o, err] := by
  refine ⟨?_, bit_errEvent _ _ _ _ hbit hcls herr, OnlyLogged.of_count (errEvent_onlyLogged (s.count o 1) bit source plot inst hcls)⟩
  rw [Counted, State.errEvent, reg_event _ _ _ hcls ho, reg_setBit_other _ _ _ hne]
  exact reg_count_same s o

/-! ## Paths -/

theorem mapFurrow_id {s : State} {f : Furrow → Furrow} (h : f s.furrow = s.furrow) : s.mapFurrow f = s := by
  rw [State.mapFurrow, h]

/-- Where no command is under way, none is sent anew. -/
theorem kick_idle {s : State} (h : s.furrow.cmds = []) : s.kick = s := by
  rw [State.kick, h]
  rfl

theorem unissue_idle {s : State} (n : Nat) (h : s.furrow.cmds = []) : s.unissue n = s := by
  refine mapFurrow_id ?_
  rw [h, List.filter_nil, List.map_nil, List.map_nil, List.append_nil, ← h]

theorem path_mapPath (s : State) (n k : Nat) {f : Path → Path} (hf : ∀ x, (f x).num = x.num) :
    (s.mapPath n f).path k = (s.path k).map fun x => if x.num = n then f x else x := by
  have hnum : (fun p : Path => decide (p.num = k)) ∘ (fun x => if x.num = n then f x else x) = fun p => decide (p.num = k) := by
    funext x
    simp only [Function.comp]
    split
    · rw [hf]
    · rfl
  simp only [State.path, State.mapPath, mapFurrow_furrow, List.find?_map, hnum]

section

variable {s : State} {k : Nat} {p : Path} (τ : Nat) (hp : s.path k = some p)

include hp

/-- A path that fails while no command is under way is counted and logged. -/
theorem pathFail_ends (hnum : p.num = k) (hstate : p.state = .ready ∨ p.state = .connecting) (hnone : s.furrow.cmds = []) :
    let n := s.advance τ
    let failed := n.mapPath k fun x => { x with state := .failed, failed := n.time }
    Ends (.pathFail τ k) s fun t => t.furrow = failed.furrow ∧ Counted s t Reg.FRW_CNT_PATHFAIL ∧ t.bit Reg.FRW_ERR 1 = true ∧
      OnlyLogged failed t [Reg.FRW_CNT_PATHFAIL, Reg.FRW_ERR] := by
  intro n failed
  let logged := (failed.count Reg.FRW_CNT_PATHFAIL 1).errEvent Reg.FRW_ERR 1 Src.furrow 1 noPlot p.num
  obtain ⟨hcount, hbit, hlogged⟩ : Counted failed logged Reg.FRW_CNT_PATHFAIL ∧ logged.bit Reg.FRW_ERR 1 = true ∧
      OnlyLogged failed logged [Reg.FRW_CNT_PATHFAIL, Reg.FRW_ERR] :=
    countEvent_logged failed Src.furrow noPlot p.num (by decide) (by decide) (by decide) (by decide) (by decide)
  have hfurrow : logged.furrow = failed.furrow := OnlyLogged.furrow hlogged
  have hcmds : logged.furrow.cmds = [] := (congrArg Furrow.cmds hfurrow).trans hnone
  refine ⟨logged, ?_, hfurrow, hcount, hbit, hlogged⟩
  have hn : n.path k = some p := hp
  have hfail : n.failPath p = logged := by
    rw [State.failPath, hnum]
    have hpeers (b : Prop) [Decidable b] : (if b then logged.furrow.cmds.filter fun c => c.path = some k else []) = [] := by
      rw [hcmds]
      split
      · rfl
      · rfl
    have hl : (failed.count Reg.FRW_CNT_PATHFAIL 1).errEvent Reg.FRW_ERR 1 Src.furrow 1 noPlot k = logged := by rw [← hnum]
    change ((List.foldl (fun s c => s.cmdDone c frwPeer 0 [])
      ((failed.count Reg.FRW_CNT_PATHFAIL 1).errEvent Reg.FRW_ERR 1 Src.furrow 1 noPlot k) _).unissue k).kick = logged
    rw [hl, hpeers, List.foldl_nil, unissue_idle k hcmds, kick_idle hcmds]
  change execPathFail τ k s = _
  rw [execPathFail]
  change Host.Outcome.next (match n.path k with
    | some p => if p.state = PathState.ready ∨ p.state = PathState.connecting then n.failPath p else n
    | none => n) = _
  rw [hn]
  exact congrArg _ ((if_pos hstate).trans hfail)

/-- A Keep Alive leaves on the path's port (R506). -/
theorem keepAlive_sends (hnum : p.num = k) (hkind : p.kind = 1) (hready : p.state = .ready) (hsafe : s.safe = false)
    (hdue : p.lastKa + 250000000 ≤ (s.advance τ).time) (hclear : clear s p.port (s.fld Reg.ETH_QOS 6 4)) :
    Ends (.keepAlive τ k) s fun t => t.out = s.out ++ [.storage k s.furrow.nextTag 0x18 [] []] ∧ t.furrow.nextTag = s.furrow.nextTag + 1 ∧
      t = { s.advance τ with furrow := t.furrow, out := t.out } := by
  let n := s.advance τ
  let marked := (n.mapFurrow fun w => { w with nextTag := s.furrow.nextTag + 1 }).mapPath k fun x => { x with lastKa := n.time }
  have hpath : marked.path k = some { p with lastKa := n.time } := by
    have hsame : (n.mapFurrow fun w => { w with nextTag := s.furrow.nextTag + 1 }).path k = some p := hp
    rw [path_mapPath _ k k (f := fun x => { x with lastKa := n.time }) (fun _ => rfl), hsame, Option.map_some, if_pos hnum]
  obtain ⟨hup, hdown, hpause, hplain⟩ := hclear
  have hsent : marked.furrowFrame k (.storage k s.furrow.nextTag 0x18 [] []) = marked.emit (.storage k s.furrow.nextTag 0x18 [] []) := by
    rw [State.furrowFrame, hpath]
    change marked.sendFrame p.port (s.fld Reg.ETH_QOS 6 4) _ = _
    have hcond : (marked.eth.down || !marked.portUp p.port) = false := by
      change (s.eth.down || !s.portUp p.port) = false
      rw [hdown, hup]
      rfl
    have hpaused : (marked.bit (portReg Reg.ETH_PCFG p.port) (16 + s.fld Reg.ETH_QOS 6 4) &&
        marked.bit (portReg Reg.ETH_PSTAT p.port) (16 + s.fld Reg.ETH_QOS 6 4)) = false := by
      change (s.bit _ _ && s.bit _ _) = false
      rw [hpause, Bool.and_false]
    have hplain' : marked.bit (portReg Reg.ETH_PCFG p.port) 8 = false := hplain
    rw [State.sendFrame, hcond, hpaused, if_neg Bool.false_ne_true, if_neg Bool.false_ne_true, State.putFrame, hplain',
      if_neg Bool.false_ne_true]
    rfl
  refine ⟨marked.emit (.storage k s.furrow.nextTag 0x18 [] []), ?_, rfl, rfl, rfl⟩
  have hn : n.path k = some p := hp
  change execKeepAlive τ k s = _
  rw [execKeepAlive]
  change Host.Outcome.next (match n.path k with
    | some p => if p.kind = 1 ∧ p.state = PathState.ready ∧ p.lastKa + kaEvery ≤ n.time ∧ !n.safe then
        marked.furrowFrame k (.storage k s.furrow.nextTag 0x18 [] []) else n
    | none => n) = _
  rw [hn]
  have hns : (!n.safe) = true := by
    change (!s.safe) = true
    rw [hsafe]
    rfl
  exact congrArg _ ((if_pos ⟨hkind, hready, hdue, hns⟩).trans hsent)

theorem keepAlive_early (hearly : (s.advance τ).time < p.lastKa + 250000000) : Ends (.keepAlive τ k) s fun t => t = s.advance τ := by
  refine ⟨s.advance τ, ?_, rfl⟩
  have hn : (s.advance τ).path k = some p := hp
  change execKeepAlive τ k s = _
  rw [execKeepAlive]
  dsimp only
  rw [hn]
  exact congrArg _ (if_neg fun h => Nat.not_le.mpr hearly h.2.2.1)

/-- A path that failed is tried again after 10 ms (R506). -/
theorem pathReconnect_due (hfailed : p.state = .failed) (hsafe : s.safe = false) (hdue : p.failed + 10000000 ≤ (s.advance τ).time) :
    Ends (.pathReconnect τ k) s fun t => t = (s.advance τ).mapPath k fun x => { x with state := .connecting } := by
  refine ⟨_, ?_, rfl⟩
  have hn : (s.advance τ).path k = some p := hp
  have hns : (!(s.advance τ).safe) = true := by
    change (!s.safe) = true
    rw [hsafe]
    rfl
  change execPathReconnect τ k s = _
  rw [execPathReconnect]
  rw [hn]
  exact congrArg _ (if_pos ⟨hfailed, hdue, hns⟩)

theorem pathReconnect_early (hearly : (s.advance τ).time < p.failed + 10000000) : Ends (.pathReconnect τ k) s fun t => t = s.advance τ := by
  refine ⟨s.advance τ, ?_, rfl⟩
  have hn : (s.advance τ).path k = some p := hp
  change execPathReconnect τ k s = _
  rw [execPathReconnect]
  rw [hn]
  exact congrArg _ (if_neg fun h => Nat.not_le.mpr hearly h.2.1)

/-- A path that is READY again ends its holds. -/
theorem pathReady_ends (hconnecting : p.state = .connecting) (hsafe : s.safe = false) (hkind : p.kind = 1) (hnone : s.furrow.cmds = []) :
    Ends (.pathReady τ k) s fun t => t = ((s.advance τ).mapPath k fun x => { x with state := .ready, lastKa := (s.advance τ).time }).mapFurrow
      fun w => { w with holds := w.holds.filter fun h => h.path ≠ k } := by
  refine ⟨_, ?_, rfl⟩
  have hn : (s.advance τ).path k = some p := hp
  have hns : (!(s.advance τ).safe) = true := by
    change (!s.safe) = true
    rw [hsafe]
    rfl
  change execPathReady τ k s = _
  rw [execPathReady]
  dsimp only
  rw [hn]
  exact congrArg _ ((if_pos ⟨hconnecting, hns, Or.inl hkind⟩).trans (kick_idle hnone))

omit hp in
/-- A hold ends after its time. -/
theorem holdExpire_ends (hnone : s.furrow.cmds = []) : Ends (.failedPathWriteHoldExpire τ k) s fun t =>
    t = (s.advance τ).mapFurrow fun w => { w with holds := w.holds.filter fun h => h.path ≠ k ∨ (s.advance τ).time < h.until_ } := by
  refine ⟨_, ?_, rfl⟩
  change execFailedPathWriteHoldExpire τ k s = _
  rw [execFailedPathWriteHoldExpire]
  exact congrArg _ (kick_idle hnone)

/-- A congestion notice halves the full rate. -/
theorem cnpReceive_halves (hnum : p.num = k) (hrate : p.rate = 1024) : Ends (.cnpReceive τ k) s fun t =>
    (∀ x, t.path k = some x → x = { p with rate := 512, rateAt := (s.advance τ).time }) ∧ t.path k ≠ none ∧
    t = { s.advance τ with furrow := t.furrow } := by
  let n := s.advance τ
  let f : Path → Path := fun p => { p with rate := min 1024 (p.rate + (n.time - p.rateAt) * (1024 - p.rate) / 50000) / 2, rateAt := n.time }
  have hpath : (n.mapPath k f).path k = some { p with rate := 512, rateAt := n.time } := by
    have hn : n.path k = some p := hp
    have hf : f p = { p with rate := 512, rateAt := n.time } := by
      simp only [f, hrate, Nat.sub_self, Nat.mul_zero, Nat.zero_div, Nat.add_zero, Nat.min_self]
    rw [path_mapPath n k k (f := f) (fun _ => rfl), hn, Option.map_some, if_pos hnum, hf]
  refine ⟨n.mapPath k f, rfl, fun x hx => ?_, ?_, rfl⟩
  · exact (Option.some.inj (hpath.symm.trans hx)).symm
  · rw [hpath]
    exact Option.some_ne_none _

end

/-! ## Internal writes -/

/-- A state without what has left the package. -/
def State.muted (s : State) : State := { s with out := [] }

theorem muted_mirrorOp (s : State) (o : FrwOp) : (s.mirrorOp o).muted = s.muted := by
  unfold State.mirrorOp
  split
  · rfl
  · exact mirrorSend_keeps (p := State.muted) (fun _ _ => rfl) s _ _

/-- The operation that an internal write makes. -/
def State.internalOp (s : State) (k : FrwKind) (epoch lba : Nat) (bytes : List Byte) : FrwOp :=
  { FrwOp.blank k with
    id := s.furrow.nextOp, optag := s.furrow.nextOp, epoch := epoch, lba := lba, blocks := bytes.length / 4096, bytes := bytes }

/-- While a partner has not acknowledged its record, an internal write waits. -/
theorem beginWrite_waits {s : State} (k : FrwKind) (epoch lba : Nat) (bytes : List Byte) (hpartner : s.noPartner = false)
    (hids : ∀ o ∈ s.furrow.ops, o.id < s.furrow.nextOp) : (s.beginWrite k none epoch lba bytes).muted =
      (s.mapFurrow fun w => { w with nextOp := w.nextOp + 1, ops := w.ops ++ [s.internalOp k epoch lba bytes] }).muted := by
  let o : FrwOp := s.internalOp k epoch lba bytes
  let blank : FrwOp := { FrwOp.blank k with epoch := epoch, lba := lba, blocks := bytes.length / 4096, bytes := bytes }
  have hfurrow : (s.addOp blank).1.muted =
      (s.mapFurrow fun w => { w with nextOp := w.nextOp + 1, ops := w.ops ++ [(s.addOp blank).2] }).muted := muted_mirrorOp _ _
  have hpart : ((s.addOp blank).1.setOp o).noPartner = false := by
    have hctl := congrArg State.ctl hfurrow
    change (sget regReset (s.addOp blank).1.muted.ctl.regs Reg.TWN_STATUS).getLsbD 5 = false
    rw [hctl]
    exact hpartner
  have hwaits : ((s.addOp blank).1.setOp o).issueInternal o = (s.addOp blank).1.setOp o := by
    rw [State.issueInternal]
    refine if_pos (.inr (.inr (.inl ?_)))
    rw [State.opReady, hpart]
    rfl
  have hops : (s.furrow.ops ++ [(s.addOp blank).2]).map (fun x => if x.id = o.id then o else x) = s.furrow.ops ++ [o] := by
    have hkept : s.furrow.ops.map (fun x => if x.id = o.id then o else x) = s.furrow.ops.map id :=
      List.map_congr_left fun x hx => if_neg (Nat.ne_of_lt (hids x hx))
    rw [List.map_append, List.map_cons, List.map_nil, if_pos (show (s.addOp blank).2.id = o.id from rfl), hkept, List.map_id]
  have hset : ((s.addOp blank).1.setOp o).muted = ((s.mapFurrow fun w =>
      { w with nextOp := w.nextOp + 1, ops := w.ops ++ [(s.addOp blank).2] }).setOp o).muted :=
    congrArg (fun y : State => y.setOp o) hfurrow
  change (((s.addOp blank).1.setOp o).issueInternal o).muted = _
  rw [hwaits, hset]
  have hmap : (s.mapFurrow fun w => { w with nextOp := w.nextOp + 1, ops := w.ops ++ [(s.addOp blank).2] }).setOp o =
      s.mapFurrow fun w => { w with
        nextOp := w.nextOp + 1, ops := (w.ops ++ [(s.addOp blank).2]).map fun x => if x.id = o.id then o else x } := rfl
  rw [hmap, State.mapFurrow, hops]
  rfl

/-! ## Destage -/

section

variable {s : State} (τ : Nat) {h : Sheaf} (hready : s.frwReady = true) (hsafe : s.safe = false) (hrestore : s.furrow.restore = none)
  (hown : s.ownToDestage = some h) (hname : s.fld Reg.FRW_NSDST 25 0 ≠ 0) (hlen : (s.destaging false).length < 8)

theorem furrow_advance (s : State) (τ : Nat) : (s.advance τ).furrow = s.furrow := rfl

theorem nsSize_advance (s : State) (τ off : Nat) : (s.advance τ).nsSize off = s.nsSize off := rfl

theorem extentOf_advance (s : State) (τ size lba : Nat) (h : Sheaf) : (s.advance τ).extentOf size lba h = s.extentOf size lba h := rfl

include hready hsafe hrestore hown hname hlen

theorem destageExtent_own : exec (.destageExtent τ) s = .next ((s.advance τ).destageOwn h) := by
  have hgo : ¬ ((!(s.advance τ).frwReady) = true ∨ (s.advance τ).safe = true ∨ (s.advance τ).furrow.restore.isSome = true) := by
    change ¬ ((!s.frwReady) = true ∨ s.safe = true ∨ s.furrow.restore.isSome = true)
    rw [hready, hsafe, hrestore]
    decide
  have hn : (s.advance τ).ownToDestage = some h := hown
  change execDestageExtent τ s = _
  rw [execDestageExtent]
  refine congrArg _ ((if_neg hgo).trans ?_)
  rw [hn]
  exact if_neg fun h => h.elim hname (Nat.not_le.mpr hlen)

variable (hkept : s.sheafLost h = false) (hplace : s.furrow.placed.lookup h.epoch = none)

include hkept hplace

/-- Without room in the extent ring nothing is placed (R510). -/
theorem destageExtent_full (hfull : s.nsSize Reg.FRW_NSDST - 16 ≤ (s.furrow.nextLba + (s.nsSize Reg.FRW_NSDST - 16) - s.furrow.keepLba) %
      max 1 (s.nsSize Reg.FRW_NSDST - 16) + (s.extentOf (s.nsSize Reg.FRW_NSDST) s.furrow.nextLba h).1.length / 4096) :
    Ends (.destageExtent τ) s fun t => t.bit Reg.FRW_ERR 5 = true ∧ t.furrow = { s.furrow with full := true } ∧
      t = { s.advance τ with ctl := t.ctl, furrow := t.furrow } := by
  refine ⟨((s.advance τ).setBit Reg.FRW_ERR 5 true).mapFurrow fun w => { w with full := true }, ?_,
    bit_setBit_same (s.advance τ) true (by decide), rfl, rfl⟩
  have hlost : (s.advance τ).sheafLost h = false := (sheafLost_of (s := s) (t := s.advance τ) rfl rfl rfl h).trans hkept
  have hfresh : (s.advance τ).furrow.placed.lookup h.epoch = none := hplace
  rw [destageExtent_own τ hready hsafe hrestore hown hname hlen, State.destageOwn, hlost, hfresh]
  simp only [Bool.false_eq_true, if_false, nsSize_advance, extentOf_advance, furrow_advance]
  exact congrArg _ (if_pos hfull)

/-- With room the sheaf is placed at the next LBA of the ring, and its write waits for its record (R497, R510). -/
theorem destageExtent_placed (hpartner : s.noPartner = false) (hids : ∀ o ∈ s.furrow.ops, o.id < s.furrow.nextOp)
    (hroom : (s.furrow.nextLba + (s.nsSize Reg.FRW_NSDST - 16) - s.furrow.keepLba) % max 1 (s.nsSize Reg.FRW_NSDST - 16) +
      (s.extentOf (s.nsSize Reg.FRW_NSDST) s.furrow.nextLba h).1.length / 4096 < s.nsSize Reg.FRW_NSDST - 16) :
    let x := s.extentOf (s.nsSize Reg.FRW_NSDST) s.furrow.nextLba h
    Ends (.destageExtent τ) s fun t =>
      (∃ o, t.furrow.ops = s.furrow.ops ++ [o] ∧ o.kind = .destage false ∧ o.epoch = h.epoch ∧ o.lba = s.furrow.nextLba ∧
        o.bytes = x.1 ∧ o.issued = false) ∧ t.furrow.cmds = s.furrow.cmds ∧ t.furrow.nextLba = x.2 ∧
      t.furrow.placed = s.furrow.placed ++ [(h.epoch, s.furrow.nextLba)] ∧ t.mem = s.mem := by
  intro x
  let placed := (s.advance τ).mapFurrow fun w =>
    { w with full := false, nextLba := x.2, placed := w.placed ++ [(h.epoch, s.furrow.nextLba)]
             sweeps := w.sweeps.map fun y =>
               if y.extLba.isNone ∧ y.baseEpoch < h.epoch then { y with extLba := some s.furrow.nextLba } else y }
  have hmuted := beginWrite_waits (s := placed) (.destage false) h.epoch s.furrow.nextLba x.1 hpartner hids
  have hfurrow := congrArg State.furrow hmuted
  have hmem := congrArg State.mem hmuted
  change (placed.beginWrite (.destage false) none h.epoch s.furrow.nextLba x.1).furrow = _ at hfurrow
  change (placed.beginWrite (.destage false) none h.epoch s.furrow.nextLba x.1).mem = _ at hmem
  refine ⟨placed.beginWrite (.destage false) none h.epoch s.furrow.nextLba x.1, ?_, ?_⟩
  · have hlost : (s.advance τ).sheafLost h = false := (sheafLost_of (s := s) (t := s.advance τ) rfl rfl rfl h).trans hkept
    have hfresh : (s.advance τ).furrow.placed.lookup h.epoch = none := hplace
    rw [destageExtent_own τ hready hsafe hrestore hown hname hlen, State.destageOwn, hlost, hfresh]
    simp only [Bool.false_eq_true, if_false, nsSize_advance, extentOf_advance, furrow_advance]
    exact congrArg _ (if_neg (Nat.not_le.mpr hroom))
  · beta_reduce
    rw [hfurrow, hmem]
    exact ⟨⟨placed.internalOp (.destage false) h.epoch s.furrow.nextLba x.1, rfl, rfl, rfl, rfl, rfl, rfl⟩, rfl, rfl, rfl, rfl⟩

end

/-! ## The plough -/

section

variable {s : State} (τ : Nat) (hready : s.frwReady = true) (hsafe : s.safe = false) (hrestore : s.furrow.restore = none)
  (hplough : s.bit Reg.FRW_PLOUGH 31 = true) (hops : s.furrow.ops = []) 

include hready hsafe hrestore hplough hops

theorem ploughChunk_sweeps : exec (.ploughChunk τ) s = .next (((s.advance τ).sweepOn false).sweepOn true) := by
  have hgo : ¬ ((!(s.advance τ).frwReady) = true ∨ (s.advance τ).safe = true ∨ (s.advance τ).furrow.restore.isSome = true ∨
      (!(s.advance τ).bit Reg.FRW_PLOUGH 31) = true) := by
    change ¬ ((!s.frwReady) = true ∨ s.safe = true ∨ s.furrow.restore.isSome = true ∨ (!s.bit Reg.FRW_PLOUGH 31) = true)
    rw [hready, hsafe, hrestore, hplough]
    decide
  have hnone (part : Bool) : (s.advance τ).chunksOut part = [] := by
    change s.furrow.ops.filter _ = []
    rw [hops]
    rfl
  change execPloughChunk τ s = _
  rw [execPloughChunk]
  refine congrArg _ ((if_neg hgo).trans ?_)
  rw [hnone, hnone]
  rfl

omit hready hsafe hrestore hplough hops in
/-- Where neither sweep of the partner's region goes on nor begins, the second turn changes nothing. -/
theorem sweepOn_part {y : State} (hpart : y.ploughsPart = false) (hown : ∀ x ∈ y.furrow.sweeps, x.part = false) : y.sweepOn true = y := by
  have hnone : (y.furrow.sweeps.find? fun x => x.part = true) = none := by
    rw [List.find?_eq_none]
    intro x hx
    simp [hown x hx]
  rw [State.sweepOn, hnone]
  exact if_neg (ne_true_of_eq_false hpart)

omit hready hsafe hrestore hplough hops in
theorem ploughsPart_of_ctl {y z : State} (hctl : y.ctl = z.ctl) : y.ploughsPart = z.ploughsPart := by
  simp only [State.ploughsPart, State.part, fld_of_ctl hctl]

variable (hpart : s.ploughsPart = false) (hpartner : s.noPartner = false)

include hpart hpartner

/-- One turn of the own sweep that writes a block: the operation waits, and the partner's sweep does nothing. -/
theorem ploughChunk_writes {y : State} (k : FrwKind) (epoch lba : Nat) (bytes : List Byte)
    (hturn : (s.advance τ).sweepOn false = y.beginWrite k none epoch lba bytes) (hctl : y.ctl = s.ctl) (hmem : y.mem = s.mem)
    (hyops : y.furrow.ops = []) (hown : ∀ x ∈ y.furrow.sweeps, x.part = false) : Ends (.ploughChunk τ) s fun t =>
      t.furrow.sweeps = y.furrow.sweeps ∧ t.furrow.ops = [y.internalOp k epoch lba bytes] ∧ t.mem = s.mem := by
  have hypartner : y.noPartner = false := (bit_of_ctl hctl _ _).trans hpartner
  have hmuted := beginWrite_waits k epoch lba bytes hypartner (by
    rw [hyops]
    exact fun _ h => absurd h List.not_mem_nil)
  let t := y.beginWrite k none epoch lba bytes
  have hfurrow := congrArg State.furrow hmuted
  have htmem := congrArg State.mem hmuted
  have htctl := congrArg State.ctl hmuted
  change t.furrow = _ at hfurrow
  change t.mem = y.mem at htmem
  change t.ctl = y.ctl at htctl
  have hsweeps : t.furrow.sweeps = y.furrow.sweeps := by rw [hfurrow]; rfl
  refine ⟨t, ?_, hsweeps, ?_, htmem.trans hmem⟩
  · rw [ploughChunk_sweeps τ hready hsafe hrestore hplough hops, hturn]
    refine congrArg _ (sweepOn_part ?_ ?_)
    · exact (ploughsPart_of_ctl (htctl.trans hctl)).trans hpart
    · exact hsweeps ▸ hown
  · rw [hfurrow]
    change y.furrow.ops ++ _ = _
    rw [hyops]
    rfl

/-- A sweep begins with the sealed epoch and its header (R512). -/
theorem ploughChunk_begins (hidle : s.furrow.sweeps = []) (hname : s.fld Reg.FRW_NSPLG 25 0 ≠ 0) : Ends (.ploughChunk τ) s fun t =>
      (∃ x, t.furrow.sweeps = [x] ∧ x.part = false ∧ x.baseEpoch = s.journal.prevEpoch ∧ x.baseChain = s.journal.prevChain ∧
        x.next = 0 ∧ x.stage = 0 ∧ ∀ k, s.furrow.ploughSeq = some k → x.seq = k + 1) ∧
      (∃ o, t.furrow.ops = [o] ∧ o.kind = .plough false none ∧ o.epoch = s.epoch) ∧ t.mem = s.mem := by
  let n := s.advance τ
  let seq := match s.furrow.ploughSeq with
    | some n => n + 1
    | none => n.free % 2 ^ 64
  let known := if s.furrow.ploughSeq.isNone then n.drawn else n
  let x : Sweep :=
    { part := false, seq := seq, area := areaLba (!known.furrow.areaB) (known.sweepSize false), baseEpoch := known.journal.prevEpoch
      baseChain := known.journal.prevChain, extLba := none, next := 0, last := known.time, stage := 0 }
  let y := known.mapFurrow fun w => { w with sweeps := w.sweeps ++ [x], ploughSeq := some seq, areaB := !known.furrow.areaB }
  have hknown : known.ctl = s.ctl ∧ known.mem = s.mem ∧ known.furrow = s.furrow ∧ known.journal = s.journal := by
    unfold known
    split
    · exact ⟨rfl, rfl, rfl, rfl⟩
    · exact ⟨rfl, rfl, rfl, rfl⟩
  obtain ⟨hctl, hmem, hfurrow, hjournal⟩ := hknown
  have hsweeps : y.furrow.sweeps = [x] := by
    change known.furrow.sweeps ++ [x] = [x]
    rw [hfurrow, hidle]
    rfl
  have hturn : n.sweepOn false = y.beginWrite (.plough false none) none y.epoch x.area (y.sweepHeader x false) := by
    have hnone : (n.furrow.sweeps.find? fun x => x.part = false) = none := by
      change s.furrow.sweeps.find? _ = none
      rw [hidle]
      rfl
    rw [State.sweepOn, hnone]
    exact if_pos (decide_eq_true hname)
  have hyctl : y.ctl = s.ctl := hctl
  obtain ⟨t, hrun, htsweeps, htops, htmem⟩ := ploughChunk_writes τ hready hsafe hrestore hplough hops hpart hpartner (y := y) _ _ _ _ hturn hyctl hmem
    (by
      change known.furrow.ops = []
      rw [hfurrow, hops]) (by
      rw [hsweeps]
      intro z hz
      rw [List.mem_singleton.mp hz])
  refine ⟨t, hrun, ⟨x, htsweeps.trans hsweeps, rfl, congrArg Journal.prevEpoch hjournal, congrArg Journal.prevChain hjournal, rfl, rfl, fun k hk => ?_⟩,
    ⟨_, htops, rfl, reg64_of_ctl hyctl _⟩, htmem⟩
  change (match s.furrow.ploughSeq with
    | some n => n + 1
    | none => n.free % 2 ^ 64) = k + 1
  rw [hk]

/-- A sweep reads its next chunk with the epoch that is open (R512). -/
theorem ploughChunk_reads {x : Sweep} (hsweep : s.furrow.sweeps = [x]) (hxpart : x.part = false) (hstage : x.stage = 1)
    (hmore : x.next < s.fld Reg.JNL_REGION 28 16 * 1024) (hroll : s.tick.rollback = none) (hdue : x.last + s.chunkNs ≤ (s.advance τ).time)
    (hgood : s.goodPrefix 28 (s.reg64 Reg.JNL_LIVE_BASE_LO + 2 ^ 20 * x.next) (2 ^ 20) false = 2 ^ 20) :
    Ends (.ploughChunk τ) s fun t =>
      t.furrow.sweeps = [{ x with next := x.next + 1, last := (s.advance τ).time }] ∧
      (∃ o, t.furrow.ops = [o] ∧ o.kind = .plough false (some x.next) ∧ o.epoch = s.epoch ∧
        o.bytes = s.bytes (s.reg64 Reg.JNL_LIVE_BASE_LO + 2 ^ 20 * x.next) (2 ^ 20) ∧ o.lba = x.area + 1 + 256 * x.next) ∧ t.mem = s.mem := by
  let n := s.advance τ
  let pa := s.reg64 Reg.JNL_LIVE_BASE_LO + 2 ^ 20 * x.next
  let y := n.setSweep { x with next := x.next + 1, last := n.time }
  have hsweeps : y.furrow.sweeps = [{ x with next := x.next + 1, last := n.time }] := by
    change s.furrow.sweeps.map _ = _
    rw [hsweep, List.map_singleton, if_pos rfl]
  have hgo : n.goodPrefix frwStop pa (2 ^ 20) false = 2 ^ 20 := (goodPrefix_of (s := s) (t := n) rfl rfl rfl _ _ _ _).trans hgood
  have hstep : n.sweepStep x = y.beginWrite (.plough x.part (some x.next)) none y.epoch (x.area + 1 + 256 * x.next) (y.bytes pa (2 ^ 20)) := by
    have hsize : x.next < n.sweepSize x.part * 1024 := by
      rw [hxpart]
      exact hmore
    have hbase : n.sweepBase x.part + 2 ^ 20 * x.next = pa := by rw [hxpart]; rfl
    have hlate : ¬ n.time < x.last + n.chunkNs := Nat.not_lt.mpr hdue
    have hforward : ¬ n.tick.rollback.isSome = true := by
      change ¬ s.tick.rollback.isSome = true
      rw [hroll]
      decide
    unfold State.sweepStep
    extract_lets m pb owed z
    have hpb : pb = pa := hbase
    rw [if_neg (by rw [hstage]; decide), if_neg (by rw [hstage]; decide), if_pos hsize, if_neg hlate, if_neg hforward, hpb, if_neg (by rw [hgo]; exact Nat.lt_irrefl _)]
  have hturn : n.sweepOn false = y.beginWrite (.plough x.part (some x.next)) none y.epoch (x.area + 1 + 256 * x.next) (y.bytes pa (2 ^ 20)) := by
    have hfound : (n.furrow.sweeps.find? fun x => x.part = false) = some x := by
      change s.furrow.sweeps.find? _ = some x
      rw [hsweep]
      simp [hxpart]
    rw [State.sweepOn, hfound]
    exact hstep
  obtain ⟨t, hrun, htsweeps, htops, htmem⟩ := ploughChunk_writes τ hready hsafe hrestore hplough hops hpart hpartner (y := y) _ _ _ _ hturn rfl rfl hops (by
      rw [hsweeps]
      intro z hz
      rw [List.mem_singleton.mp hz]
      exact hxpart)
  refine ⟨t, hrun, htsweeps.trans hsweeps, ⟨_, htops, ?_, rfl, bytes_of_mem (s := s) (t := y) rfl _ _, rfl⟩, htmem⟩
  rw [← hxpart]
  rfl

end

/-- Settles O47: the storage paths clause by clause; an internal write makes one operation that waits for its record
(`beginWrite_waits`), of a sheaf that is placed or of a block that a sweep reads. -/
theorem pathsAndDestage : Obligations.PathsAndDestage := by
  refine ⟨?_, ?_⟩
  · intro s τ k p n only hp hnum
    exact ⟨fun hstate hnone => pathFail_ends τ hp hnum hstate hnone,
      fun hkind hready hsafe => ⟨fun hdue hclear => keepAlive_sends τ hp hnum hkind hready hsafe hdue hclear, keepAlive_early τ hp⟩,
      fun hfailed hsafe => ⟨pathReconnect_due τ hp hfailed hsafe, pathReconnect_early τ hp⟩,
      fun hconnecting hsafe hkind hnone => pathReady_ends τ hp hconnecting hsafe hkind hnone, holdExpire_ends τ,
      fun hrate _ => cnpReceive_halves τ hp hnum hrate⟩
  · intro s τ n hready hsafe hrestore hpartner hids
    refine ⟨fun h hown hname hlen hkept hplace => ⟨destageExtent_full τ hready hsafe hrestore hown hname hlen hkept hplace,
      destageExtent_placed τ hready hsafe hrestore hown hname hlen hkept hplace hpartner hids⟩, fun hplough hops hpart =>
      ⟨ploughChunk_begins τ hready hsafe hrestore hplough hops hpart hpartner, ?_⟩⟩
    intro x hsweep hxpart hstage hmore hroll hdue pa
    exact ploughChunk_reads τ hready hsafe hrestore hplough hops hpart hpartner hsweep hxpart hstage hmore hroll hdue

end Sys2Proof.Machine
end

section
/-! OBLIGATIONS. Cache errors, scratchpads and the Warp network (O44). -/

namespace Sys2Proof.Machine

open Sys2Proof Sys2Proof.Stated

theorem OnlyLogged.cluster {s t : State} {l : List Nat} (h : OnlyLogged s t l) (c : Nat) : t.cluster c = s.cluster c := by
  have hf := congrArg (fun y : State => y.cluster c) h.1
  exact hf

theorem OnlyLogged.warp {s t : State} {l : List Nat} (h : OnlyLogged s t l) : t.warp = s.warp := by
  have hf := congrArg State.warp h.1
  exact hf

/-! ## Fills (R408 to R413) -/

theorem ends_cacheFill {s : State} {c pa : Nat} {f : FillFor} {x : Fill} {p : State → Prop}
    (hx : ((s.cluster c).fills.find? fun x => x.pa = lineOf pa ∧ x.cause = f ∧ !x.served) = some x)
    (h : p (if x.doomed then s.doomedFill c x
      else (s.endFill c x []).putLine c { pa := x.pa, way := x.way, mark := s.markOf pa, dirty := none })) :
    Ends (.cacheFill c pa f .ok) s p := by
  refine ⟨_, ?_, h⟩
  change execCacheFill c pa f .ok s = _
  rw [execCacheFill, hx]
  have hread (b : Prop) [Decidable b] : (if b then s else s.dramRead x.pa .ok) = s := ite_self s
  dsimp only
  rw [hread]

/-- A fill that arrives puts its line into its way, clean, with the mark that the line carries. -/
theorem cacheFill_arrives {s : State} {c pa : Nat} {f : FillFor} {x : Fill}
    (hx : ((s.cluster c).fills.find? fun x => x.pa = lineOf pa ∧ x.cause = f ∧ !x.served) = some x) (hdoom : x.doomed = false) :
    Ends (.cacheFill c pa f .ok) s fun t =>
      (t.cluster c).lines = ((s.cluster c).lines.filter fun y => y.pa ≠ x.pa) ++
        [{ pa := x.pa, way := x.way, mark := s.markOf pa, dirty := none }] ∧
      (t.cluster c).fills = (s.cluster c).fills.erase x ∧ (∀ d, d ≠ c → t.cluster d = s.cluster d) ∧
      t = { s with clusters := t.clusters } := by
  refine ends_cacheFill hx ?_
  rw [if_neg (ne_true_of_eq_false hdoom), State.putLine, State.endFill]
  refine ⟨?_, ?_, fun d hd => ?_, rfl⟩
  · rw [cluster_mapCluster_same, cluster_mapCluster_same]
  · rw [cluster_mapCluster_same, cluster_mapCluster_same, List.append_nil]
  · rw [cluster_mapCluster_other _ _ hd, cluster_mapCluster_other _ _ hd]

/-- A doomed fill puts no line and is counted. -/
theorem cacheFill_doomed {s : State} {c pa : Nat} {f : FillFor} {x : Fill}
    (hx : ((s.cluster c).fills.find? fun x => x.pa = lineOf pa ∧ x.cause = f ∧ !x.served) = some x) (hdoom : x.doomed = true) :
    Ends (.cacheFill c pa f .ok) s fun t => (t.cluster c).lines = (s.cluster c).lines ∧ Counted s t (clsReg Reg.CLS_CNT_DOOM c) ∧
      t = { s with clusters := t.clusters, ctl := t.ctl } := by
  refine ends_cacheFill hx ?_
  rw [if_pos hdoom]
  have hput (put : List Fill) : let t := (s.count (clsReg Reg.CLS_CNT_DOOM c) 1).endFill c x put
      (t.cluster c).lines = (s.cluster c).lines ∧ Counted s t (clsReg Reg.CLS_CNT_DOOM c) ∧ t = { s with clusters := t.clusters, ctl := t.ctl } := by
    refine ⟨?_, reg_count_same s _, rfl⟩
    rw [State.endFill, cluster_mapCluster_same]
    rfl
  unfold State.doomedFill
  split
  · exact hput _
  · exact hput _
  · exact hput _
  · exact hput _
  · exact hput _

/-! ## Errors of a line (R421 to R424) -/

section

variable (c : Nat)

theorem l2err_not_gleanReg : clsReg Reg.CLS_L2ERR c ∉ gleanRegs := by
  simp only [gleanRegs, clsReg, Reg.CLS_L2ERR, Reg.GLN_NEXTSEQ, Reg.GLN_CNT_LOST, Reg.GLN_ERR, List.mem_cons, List.not_mem_nil, or_false]
  omega

theorem l2corr_not_gleanReg : clsReg Reg.CLS_CNT_L2CORR c ∉ gleanRegs := by
  simp only [gleanRegs, clsReg, Reg.CLS_CNT_L2CORR, Reg.GLN_NEXTSEQ, Reg.GLN_CNT_LOST, Reg.GLN_ERR, List.mem_cons, List.not_mem_nil, or_false]
  omega

theorem sperr_not_gleanReg : clsReg Reg.CLS_SPERR c ∉ gleanRegs := by
  simp only [gleanRegs, clsReg, Reg.CLS_SPERR, Reg.GLN_NEXTSEQ, Reg.GLN_CNT_LOST, Reg.GLN_ERR, List.mem_cons, List.not_mem_nil, or_false]
  omega

theorem spcorr_not_gleanReg : clsReg Reg.CLS_CNT_SPCORR c ∉ gleanRegs := by
  simp only [gleanRegs, clsReg, Reg.CLS_CNT_SPCORR, Reg.GLN_NEXTSEQ, Reg.GLN_CNT_LOST, Reg.GLN_ERR, List.mem_cons, List.not_mem_nil, or_false]
  omega

theorem l2corr_ne_l2err : clsReg Reg.CLS_CNT_L2CORR c ≠ clsReg Reg.CLS_L2ERR c := by
  simp only [clsReg, Reg.CLS_CNT_L2CORR, Reg.CLS_L2ERR]
  omega

theorem spcorr_ne_sperr : clsReg Reg.CLS_CNT_SPCORR c ≠ clsReg Reg.CLS_SPERR c := by
  simp only [clsReg, Reg.CLS_CNT_SPCORR, Reg.CLS_SPERR]
  omega

end

/-- A corrected error is counted and logged. -/
theorem l2Corrected_logged (s : State) (c : Nat) {bit : Nat} (hbit : bit < 32) : let t := s.l2Corrected c bit
    Counted s t (clsReg Reg.CLS_CNT_L2CORR c) ∧ t.bit (clsReg Reg.CLS_L2ERR c) bit = true ∧
    OnlyLogged s t [clsReg Reg.CLS_CNT_L2CORR c, clsReg Reg.CLS_L2ERR c] :=
  countEvent_logged s _ _ _ (by decide) hbit (l2corr_not_gleanReg c) (l2err_not_gleanReg c) (l2corr_ne_l2err c)

/-- What an error of a line that stands in a cluster brings. -/
def State.scrubbed (s : State) (c pa : Nat) (l : CLine) : L2Error → State
  | .tag => s.tagLost c l
  | .state n =>
    if n = 0 then s
    else if n = 1 then s.l2Corrected c 0
    else s.errEvent (clsReg Reg.CLS_L2ERR c) 6 (Src.cluster c) 6 noPlot 0
  | .data n =>
    if n = 0 then s
    else if s.bit (clsReg Reg.CLS_L2CFG c) 0 then (if n = 1 then s.l2Corrected c 0 else s.dataLost c l)
    else if n % 2 = 0 then s.missedFlip pa
    else s.dataLost c l

/-- Three flips lose the data of a line. -/
theorem scrubbed_three (s : State) (c pa : Nat) (l : CLine) : s.scrubbed c pa l (.data 3) = s.dataLost c l := by
  simp [State.scrubbed]

section

variable {s : State} {c pa : Nat} {l : CLine} (hl : s.line? c pa = some l)

include hl

theorem ends_l2Scrub {e : L2Error} {p : State → Prop} (h : p (s.scrubbed c pa l e)) : Ends (.l2Scrub c pa e) s p := by
  refine ⟨_, ?_, h⟩
  change execL2Scrub c pa e s = _
  rw [execL2Scrub, hl]
  rfl

/-- One error of a clean line, or of one that the code corrects, is corrected. -/
theorem l2Scrub_corrects {e : L2Error}
    (he : e = .state 1 ∨ e = .data 1 ∧ s.bit (clsReg Reg.CLS_L2CFG c) 0 = true ∨ e = .data 1 ∧ l.dirty = none) :
    Ends (.l2Scrub c pa e) s fun t => Counted s t (clsReg Reg.CLS_CNT_L2CORR c) ∧ t.bit (clsReg Reg.CLS_L2ERR c) 0 = true ∧
      OnlyLogged s t [clsReg Reg.CLS_CNT_L2CORR c, clsReg Reg.CLS_L2ERR c] := by
  have hone : s.scrubbed c pa l e = s.l2Corrected c 0 := by
    rcases he with rfl | ⟨rfl, hserge⟩ | ⟨rfl, hd⟩
    · rfl
    · simp [State.scrubbed, hserge]
    · have hclean : s.dataLost c l = s.l2Corrected c 0 := by rw [State.dataLost, hd]
      simp [State.scrubbed, hclean]
  refine ends_l2Scrub hl ?_
  rw [hone]
  exact l2Corrected_logged s c (by decide)

/-- A line that is lost in its tag while it is clean and unmarked is fetched again. -/
theorem l2Scrub_tag (hd : l.dirty = none) (hm : l.mark = none) : Ends (.l2Scrub c pa .tag) s fun t =>
    (t.cluster c).lines = ((s.cluster c).lines.filter fun y => y.pa ≠ lineOf l.pa) ∧ Counted s t (clsReg Reg.CLS_CNT_L2CORR c) ∧
    t.mem = s.mem := by
  refine ends_l2Scrub hl ?_
  have hlost : s.tagLost c l = (s.dropLine c l.pa).l2Corrected c 4 := by rw [State.tagLost, hd, hm]
  rw [State.scrubbed, hlost]
  obtain ⟨hcount, _, hlogged⟩ := l2Corrected_logged (s.dropLine c l.pa) c (bit := 4) (by decide)
  have hmem : ((s.dropLine c l.pa).l2Corrected c 4).mem = (s.dropLine c l.pa).mem := OnlyLogged.mem hlogged
  refine ⟨?_, hcount, hmem⟩
  rw [OnlyLogged.cluster hlogged, State.dropLine, cluster_mapCluster_same]

/-- A marked dirty line that is lost fails the oldest unsealed epoch. -/
theorem l2Scrub_marked {d : List Byte} {e : Nat} (hd : l.dirty = some d) (hm : l.mark = some e) :
    Ends (.l2Scrub c pa (.data 3)) s fun t => t = (s.setBit (clsReg Reg.CLS_L2ERR c) 2 true).failOldest .other := by
  refine ends_l2Scrub hl ?_
  have hlost : s.dataLost c l = s.markedLost c 2 := by rw [State.dataLost, hd, hm]
  rw [scrubbed_three, hlost, State.markedLost]

/-- A dirty line that is lost is poisoned in DRAM. -/
theorem l2Scrub_dirty {d : List Byte} {p : Nat} (hd : l.dirty = some d) (hm : l.mark = none) (hp : s.mapsAddress l.pa = some p) :
    Ends (.l2Scrub c pa (.data 3)) s fun t =>
      (t.cluster c).lines = ((s.cluster c).lines.filter fun y => y.pa ≠ lineOf l.pa) ∧ t.bit (clsReg Reg.CLS_L2ERR c) 3 = true ∧
      t.mem = (s.setPoison (lineOf l.pa) 64).mem ∧ t.units = s.units := by
  let y := (s.setPoison (lineOf l.pa) 64).dropLine c l.pa
  have hlost : s.dataLost c l = y.errEvent (clsReg Reg.CLS_L2ERR c) 3 (Src.cluster c) 5 p 0 := by
    have hmaps : y.mapsAddress l.pa = some p := hp
    rw [State.dataLost, hd, hm]
    change s.dirtyLost c l.pa = _
    rw [State.dirtyLost]
    change (match y.mapsAddress l.pa with
      | some p => y.errEvent (clsReg Reg.CLS_L2ERR c) 3 (Src.cluster c) 5 p 0
      | none => y.errEvent (clsReg Reg.CLS_L2ERR c) 3 (Src.cluster c) 6 noPlot 0) = _
    rw [hmaps]
  have hlogged := errEvent_onlyLogged y (err := clsReg Reg.CLS_L2ERR c) 3 (Src.cluster c) p 0 (cls := 5) (by decide)
  refine ends_l2Scrub hl ?_
  rw [scrubbed_three, hlost]
  have hmem : (y.errEvent (clsReg Reg.CLS_L2ERR c) 3 (Src.cluster c) 5 p 0).mem = y.mem := OnlyLogged.mem hlogged
  have hunits : (y.errEvent (clsReg Reg.CLS_L2ERR c) 3 (Src.cluster c) 5 p 0).units = y.units := OnlyLogged.units hlogged
  refine ⟨?_, bit_errEvent _ _ _ _ (by decide) (by decide) (l2err_not_gleanReg c), hmem, hunits⟩
  rw [OnlyLogged.cluster hlogged]
  exact congrArg Cluster.lines (cluster_mapCluster_same ..)

theorem l2Scrub_nothing : Ends (.l2Scrub c pa (.data 0)) s fun t => t = s := ends_l2Scrub hl rfl

end

/-! ## Scratchpads (R426 to R430) -/

theorem scratchpadScrub_corrects (s : State) (c off : Nat) : Ends (.scratchpadScrub c off .corrected) s fun t =>
    Counted s t (clsReg Reg.CLS_CNT_SPCORR c) ∧ t.bit (clsReg Reg.CLS_SPERR c) 0 = true ∧
    OnlyLogged s t [clsReg Reg.CLS_CNT_SPCORR c, clsReg Reg.CLS_SPERR c] :=
  ⟨_, rfl, countEvent_logged s _ _ _ (by decide) (by decide) (spcorr_not_gleanReg c) (sperr_not_gleanReg c) (spcorr_ne_sperr c)⟩

theorem scratchpadScrub_poisons (s : State) (c off : Nat) : Ends (.scratchpadScrub c off .uncorrectable) s fun t =>
    t.bit (clsReg Reg.CLS_SPERR c) 1 = true ∧ t.units = s.units ∧
    t.mem = (s.setPoison (scratchBase + 0x400000 * c + off / 8 * 8) 8).mem := by
  have hlogged := errEvent_onlyLogged (s.setPoison (scratchBase + 0x400000 * c + off / 8 * 8) 8) (err := clsReg Reg.CLS_SPERR c) 1
    (Src.cluster c) noPlot 0 (cls := 2) (by decide)
  have hunits := OnlyLogged.units hlogged
  have hmem := OnlyLogged.mem hlogged
  exact ⟨_, rfl, bit_errEvent _ _ _ _ (by decide) (by decide) (sperr_not_gleanReg c), hunits, hmem⟩

/-- A bank that wakes. -/
theorem bankWakeDone_ends (s : State) (c : Nat) {b : Nat} (hb : b < 8) : Ends (.bankWakeDone c b) s fun t =>
    t.bit (clsReg Reg.CLS_SPSTAT c) (8 + b) = false ∧ OnlyCtl s t ∧ RegsBut s t [clsReg Reg.CLS_SPSTAT c] := by
  refine ⟨s.setSpstat c (8 + b) false, ?_, bit_setBit_same s false (by omega), rfl, setBit_regsBut s _ _ _⟩
  change execBankWakeDone c b s = _
  rw [execBankWakeDone, if_pos hb]

/-! ### Retention (R429) -/

/-- The registers of a cluster's banks. -/
def bankRegs (c : Nat) : List Nat := [clsReg Reg.CLS_SPRET c, clsReg Reg.CLS_SPSTAT c, clsReg Reg.CLS_SPERR c]

theorem spret_ne_spstat (c : Nat) : clsReg Reg.CLS_SPRET c ≠ clsReg Reg.CLS_SPSTAT c := by
  simp only [clsReg, Reg.CLS_SPRET, Reg.CLS_SPSTAT]
  omega

theorem spret_ne_sperr (c : Nat) : clsReg Reg.CLS_SPRET c ≠ clsReg Reg.CLS_SPERR c := by
  simp only [clsReg, Reg.CLS_SPRET, Reg.CLS_SPERR]
  omega

theorem spstat_ne_sperr (c : Nat) : clsReg Reg.CLS_SPSTAT c ≠ clsReg Reg.CLS_SPERR c := by
  simp only [clsReg, Reg.CLS_SPSTAT, Reg.CLS_SPERR]
  omega

theorem bit_setBit (s : State) {off b : Nat} (o i : Nat) (v : Bool) (hb : b < 32) :
    (s.setBit off b v).bit o i = if o = off ∧ i = b then v else s.bit o i := by
  by_cases ho : o = off
  · subst ho
    by_cases hi : i = b
    · subst hi
      rw [if_pos ⟨rfl, rfl⟩, bit_setBit_same _ _ hb]
    · rw [if_neg fun h => hi h.2, bit_setBit_otherBit _ _ hb hi]
  · rw [if_neg fun h => ho h.1, bit_setBit_otherReg _ _ _ _ ho]

/-- Whether a bank is busy does not hang on which banks are asleep. -/
theorem bankBusy_of {s y : State} {c : Nat} (hc : c < 12) (hctl : OnlyCtl s y) (hregs : RegsBut s y (bankRegs c))
    (hwipe : y.bit (clsReg Reg.CLS_SPSTAT c) 16 = s.bit (clsReg Reg.CLS_SPSTAT c) 16) (b : Nat) (busy : List Nat) :
    y.bankBusy c b busy = s.bankBusy c b busy := by
  have hpair (base : Nat) (p : Nat) (hbase : base = Reg.CLS_PAIRSTAT ∨ base = Reg.CLS_PAIRCFG) :
      y.reg (pairReg base p) = s.reg (pairReg base p) := by
    refine hregs _ ?_
    simp only [Reg.CLS_PAIRSTAT, Reg.CLS_PAIRCFG] at hbase
    simp only [bankRegs, clsReg, pairReg, Reg.CLS_SPRET, Reg.CLS_SPSTAT, Reg.CLS_SPERR, List.mem_cons, List.not_mem_nil, or_false]
    omega
  have hrole (p : Nat) : y.role p = s.role p := by rw [State.role, State.fld, hpair _ _ (.inl rfl), State.role, State.fld]
  have hbanks (i : Nat) (hi : i ∈ List.range 8) : y.pairBanks (8 * c + i) = s.pairBanks (8 * c + i) := by
    have hsplit : y.isSplit (8 * c + i) = s.isSplit (8 * c + i) := by
      have := List.mem_range.mp hi
      rw [State.isSplit, State.bit, hregs _ (by
        simp only [bankRegs, clsReg, Reg.CLS_SPRET, Reg.CLS_SPSTAT, Reg.CLS_SPERR, Reg.SOW_PAIR, List.mem_cons, List.not_mem_nil, or_false]
        omega)]
      rfl
    rw [State.pairBanks, hpair _ _ (.inr rfl), hsplit, State.pairBanks]
  have hregion (pa : Nat) : y.region pa = s.region pa := by
    have hch (k : Nat) (hk : k ∈ List.range 16) : y.reg (Reg.MEM_CHSTAT + 4 * k) = s.reg (Reg.MEM_CHSTAT + 4 * k) := by
      refine hregs _ ?_
      have := List.mem_range.mp hk
      simp only [bankRegs, clsReg, Reg.CLS_SPRET, Reg.CLS_SPSTAT, Reg.CLS_SPERR, Reg.MEM_CHSTAT, List.mem_cons, List.not_mem_nil, or_false]
      omega
    have hsize : y.dramSize = s.dramSize := by
      rw [State.dramSize, State.dramSize]
      refine congrArg List.sum (List.map_congr_left fun k hk => ?_)
      rw [State.bit, State.fld, hch k hk, State.bit, State.fld]
    simp only [State.region, hsize]
  have hunit (u : Nat) : y.unit u = s.unit u := by rw [hctl]; rfl
  have hpairs (p : Nat) : y.pair p = s.pair p := by rw [hctl]; rfl
  have hcluster (d : Nat) : y.cluster d = s.cluster d := by rw [hctl]; rfl
  have hany : ((List.range 8).any fun i =>
        let p := 8 * c + i
        let r := y.role p
        (r == roleActive || r == roleSplit || r == roleSplitting || r == roleRejoining || r == roleReleasing) && decide (b ∈ y.pairBanks p)) =
      (List.range 8).any fun i =>
        let p := 8 * c + i
        let r := s.role p
        (r == roleActive || r == roleSplit || r == roleSplitting || r == roleRejoining || r == roleReleasing) &&
          decide (b ∈ s.pairBanks p) := by
    rw [Bool.eq_iff_iff, List.any_eq_true, List.any_eq_true]
    refine exists_congr fun i => and_congr_right fun hi => ?_
    simp only [hrole, hbanks i hi]
  have hstore : y.storeInBank c b = s.storeInBank c b := by
    simp only [State.storeInBank, hregion, hunit, hpairs, hcluster]
  rw [State.bankBusy, hany, hstore, hwipe, State.bankBusy]

section

variable (s : State) (c : Nat) (busy : List Nat) (v : Word)

/-- A wish that is refused: retention of a bank in use. -/
def State.retainRefused (b : Nat) : Bool := v.getLsbD b && !s.bit (clsReg Reg.CLS_SPRET c) b && s.bankBusy c b busy

/-- A wish that changes its bank. -/
def State.retainChanges (b : Nat) : Bool := v.getLsbD b != s.bit (clsReg Reg.CLS_SPRET c) b && !s.retainRefused c busy v b

/-- A bank that goes into retention, or that begins to wake. -/
def State.moveBank (b : Nat) (w : Bool) : State :=
  ((s.setBit (clsReg Reg.CLS_SPRET c) b w).setSpstat c b w).setSpstat c (8 + b) !w

theorem moveBank_bits {b : Nat} (w : Bool) (hb : b < 8) : let t := s.moveBank c b w
    OnlyCtl s t ∧ RegsBut s t (bankRegs c) ∧
    (∀ i, t.bit (clsReg Reg.CLS_SPRET c) i = if i = b then w else s.bit (clsReg Reg.CLS_SPRET c) i) ∧
    (∀ i, t.bit (clsReg Reg.CLS_SPSTAT c) i = if i = b then w else if i = 8 + b then !w else s.bit (clsReg Reg.CLS_SPSTAT c) i) ∧
    t.bit (clsReg Reg.CLS_SPERR c) 3 = s.bit (clsReg Reg.CLS_SPERR c) 3 := by
  have h1 := spret_ne_spstat c
  have h2 := (spret_ne_sperr c).symm
  have h3 := (spstat_ne_sperr c).symm
  have hb8 : 8 + b < 32 := by omega
  have hb32 : b < 32 := by omega
  refine ⟨rfl, fun o ho => ?_, fun i => ?_, fun i => ?_, ?_⟩
  · obtain ⟨ho1, ho2, _⟩ : o ≠ clsReg Reg.CLS_SPRET c ∧ o ≠ clsReg Reg.CLS_SPSTAT c ∧ o ≠ clsReg Reg.CLS_SPERR c := by
      simpa [bankRegs] using ho
    rw [State.moveBank, State.setSpstat, State.setSpstat, reg_setBit_other _ _ _ ho2, reg_setBit_other _ _ _ ho2, reg_setBit_other _ _ _ ho1]
  · rw [State.moveBank, State.setSpstat, State.setSpstat, bit_setBit_otherReg _ _ _ _ h1, bit_setBit_otherReg _ _ _ _ h1,
      bit_setBit _ _ _ _ hb32]
    simp only [true_and]
  · rw [State.moveBank, State.setSpstat, State.setSpstat, bit_setBit _ _ _ _ hb8, bit_setBit _ _ _ _ hb32, bit_setBit_otherReg _ _ _ _ h1.symm]
    simp only [true_and]
    by_cases hi : i = b
    · rw [if_pos hi, if_neg (by omega), if_pos hi]
    · rw [if_neg hi, if_neg hi]
  · rw [State.moveBank, State.setSpstat, State.setSpstat, bit_setBit_otherReg _ _ _ _ h3, bit_setBit_otherReg _ _ _ _ h3,
      bit_setBit_otherReg _ _ _ _ h2]

/-- One bank follows its wish, or refuses it. -/
theorem retainBank_bits {b : Nat} (hb : b < 8) : let t := s.retainBank c b (v.getLsbD b) busy
    OnlyCtl s t ∧ RegsBut s t (bankRegs c) ∧
    (∀ i, t.bit (clsReg Reg.CLS_SPRET c) i = if i = b then (v.getLsbD b && !s.retainRefused c busy v b) else s.bit (clsReg Reg.CLS_SPRET c) i) ∧
    (∀ i, t.bit (clsReg Reg.CLS_SPSTAT c) i = if s.retainChanges c busy v b = true ∧ i = b then v.getLsbD b
      else if s.retainChanges c busy v b = true ∧ i = 8 + b then !v.getLsbD b else s.bit (clsReg Reg.CLS_SPSTAT c) i) ∧
    t.bit (clsReg Reg.CLS_SPERR c) 3 = (s.bit (clsReg Reg.CLS_SPERR c) 3 || s.retainRefused c busy v b) := by
  have h1 := spret_ne_spstat c
  have h2 := spret_ne_sperr c
  have h3 := spstat_ne_sperr c
  have hout (o : Nat) (ho : o ∉ bankRegs c) : o ≠ clsReg Reg.CLS_SPRET c ∧ o ≠ clsReg Reg.CLS_SPSTAT c ∧ o ≠ clsReg Reg.CLS_SPERR c := by
    simpa [bankRegs] using ho
  have hb8 : 8 + b < 32 := by omega
  have hb32 : b < 32 := by omega
  unfold State.retainBank
  dsimp only
  split
  case isTrue hsame =>
    refine ⟨rfl, fun _ _ => rfl, fun i => ?_, fun i => ?_, ?_⟩
    · split
      case isTrue hi => simp [hi, State.retainRefused, hsame]
      case isFalse => rfl
    · simp [State.retainChanges, hsame]
    · simp [State.retainRefused, hsame]
  case isFalse hdiff =>
    split
    case isTrue hwant =>
      have hnow : s.bit (clsReg Reg.CLS_SPRET c) b = false := by simpa [hwant] using hdiff
      split
      case isTrue hbusy =>
        have href : s.retainRefused c busy v b = true := by simp [State.retainRefused, hwant, hnow, hbusy]
        refine ⟨rfl, fun o ho => reg_setBit_other _ _ _ (hout o ho).2.2, fun i => ?_, fun i => ?_, ?_⟩
        · rw [bit_setBit _ _ _ _ (by decide), if_neg fun h => h2 h.1, href]
          split
          case isTrue hi => simp [hi, hnow]
          case isFalse => rfl
        · rw [bit_setBit _ _ _ _ (by decide), if_neg fun h => h3 h.1]
          simp [State.retainChanges, href]
        · rw [bit_setBit_same _ _ (by decide), href, Bool.or_true]
      case isFalse hfree =>
        have href : s.retainRefused c busy v b = false := by simp [State.retainRefused, hwant, hnow, hfree]
        have hchg : s.retainChanges c busy v b = true := by simp [State.retainChanges, hwant, hnow, href]
        obtain ⟨hctl, hregs, hret, hstat, herr⟩ := moveBank_bits s c true hb
        simp only [hwant, href, hchg, true_and, Bool.not_false, Bool.and_true, Bool.or_false]
        exact ⟨hctl, hregs, hret, hstat, herr⟩
    case isFalse hwant =>
      rw [Bool.not_eq_true] at hwant
      have hnow : s.bit (clsReg Reg.CLS_SPRET c) b = true := by
        rw [hwant] at hdiff
        exact (Bool.not_eq_false _).mp fun h => hdiff h.symm
      have href : s.retainRefused c busy v b = false := by simp [State.retainRefused, hwant]
      have hchg : s.retainChanges c busy v b = true := by simp [State.retainChanges, hwant, hnow, href]
      obtain ⟨hctl, hregs, hret, hstat, herr⟩ := moveBank_bits s c false hb
      simp only [hwant, href, hchg, true_and, Bool.not_false, Bool.and_true, Bool.or_false]
      exact ⟨hctl, hregs, hret, hstat, herr⟩

/-- The banks below `n` have followed their wishes. -/
def State.retained (n : Nat) : State := (List.range n).foldl (fun s b => s.retainBank c b (v.getLsbD b) busy) s

theorem retained_bits (hc : c < 12) {n : Nat} (hn : n ≤ 8) : let t := s.retained c busy v n
    OnlyCtl s t ∧ RegsBut s t (bankRegs c) ∧
    (∀ i, t.bit (clsReg Reg.CLS_SPRET c) i = if i < n then (v.getLsbD i && !s.retainRefused c busy v i) else s.bit (clsReg Reg.CLS_SPRET c) i) ∧
    (∀ i, i < 8 → t.bit (clsReg Reg.CLS_SPSTAT c) i = if i < n ∧ s.retainChanges c busy v i = true then v.getLsbD i
      else s.bit (clsReg Reg.CLS_SPSTAT c) i) ∧
    (∀ i, i < 8 → t.bit (clsReg Reg.CLS_SPSTAT c) (8 + i) = if i < n ∧ s.retainChanges c busy v i = true then !v.getLsbD i
      else s.bit (clsReg Reg.CLS_SPSTAT c) (8 + i)) ∧
    t.bit (clsReg Reg.CLS_SPSTAT c) 16 = s.bit (clsReg Reg.CLS_SPSTAT c) 16 ∧
    ((∃ b, b < n ∧ s.retainRefused c busy v b = true) → t.bit (clsReg Reg.CLS_SPERR c) 3 = true) := by
  induction n with
  | zero => simp [State.retained, OnlyCtl, RegsBut]
  | succ n ih =>
    obtain ⟨hctl, hregs, hret, hlow, hhigh, hwipe, herr⟩ := ih (by omega)
    have hbusy : (s.retained c busy v n).retainRefused c busy v n = s.retainRefused c busy v n := by
      rw [State.retainRefused, hret, if_neg (Nat.lt_irrefl n), bankBusy_of hc hctl hregs hwipe, State.retainRefused]
    have hchg : (s.retained c busy v n).retainChanges c busy v n = s.retainChanges c busy v n := by
      rw [State.retainChanges, hbusy, hret, if_neg (Nat.lt_irrefl n), State.retainChanges]
    obtain ⟨hctl', hregs', hret', hstat', herr'⟩ := retainBank_bits (s.retained c busy v n) c busy v (b := n) (by omega)
    have hnext : s.retained c busy v (n + 1) = (s.retained c busy v n).retainBank c n (v.getLsbD n) busy := by
      simp only [State.retained, List.range_succ, List.foldl_append, List.foldl_cons, List.foldl_nil]
    rw [hbusy] at hret' herr'
    simp only [hchg] at hstat'
    intro t
    have ht : t = (s.retained c busy v n).retainBank c n (v.getLsbD n) busy := hnext
    rw [ht]
    refine ⟨OnlyCtl.trans hctl hctl', fun o ho => (hregs' o ho).trans (hregs o ho), fun i => ?_, fun i hi => ?_, fun i hi => ?_, ?_, ?_⟩
    · rw [hret', hret]
      by_cases hin : i = n
      · subst hin
        rw [if_pos rfl, if_pos (Nat.lt_succ_self i)]
      · have hlt : i < n + 1 ↔ i < n := by omega
        simp only [hin, if_false, hlt]
    · rw [hstat', hlow i hi]
      by_cases hin : i = n
      · subst hin
        simp
      · have hlt : i < n + 1 ↔ i < n := by omega
        have hne : i ≠ 8 + n := by omega
        simp [hin, hlt, hne]
    · rw [hstat', hhigh i hi]
      by_cases hin : i = n
      · subst hin
        simp
      · have hlt : i < n + 1 ↔ i < n := by omega
        have hne : 8 + i ≠ n := by omega
        simp [hin, hlt, hne]
    · rw [hstat', hwipe]
      have hne : 16 ≠ n ∧ 16 ≠ 8 + n := by omega
      simp [hne]
    · rintro ⟨b, hb, href⟩
      rw [herr']
      by_cases hbn : b = n
      · rw [← hbn, href, Bool.or_true]
      · rw [herr ⟨b, by omega, href⟩, Bool.true_or]

variable {s c}

/-- A bank goes into retention unless it is in use, or begins to wake (R429). -/
theorem scratchpadRetention_ends {m : Master} (hc : c < 12) (hwrite : s.writesReg m (clsReg Reg.CLS_SPRET c) = true) :
    Ends (.scratchpadRetention m c v busy) s fun t => OnlyCtl s t ∧ ∀ b, b < 8 →
      t.bit (clsReg Reg.CLS_SPRET c) b = (v.getLsbD b && !s.retainRefused c busy v b) ∧
      (s.retainRefused c busy v b = true → t.bit (clsReg Reg.CLS_SPERR c) 3 = true) ∧
      (v.getLsbD b = s.bit (clsReg Reg.CLS_SPRET c) b ∨ s.retainRefused c busy v b = true →
        t.bit (clsReg Reg.CLS_SPSTAT c) (8 + b) = s.bit (clsReg Reg.CLS_SPSTAT c) (8 + b)) ∧
      (v.getLsbD b ≠ s.bit (clsReg Reg.CLS_SPRET c) b → s.retainRefused c busy v b = false →
        t.bit (clsReg Reg.CLS_SPSTAT c) (8 + b) = !v.getLsbD b ∧ t.bit (clsReg Reg.CLS_SPSTAT c) b = v.getLsbD b) := by
  obtain ⟨hctl, _, hret, hlow, hhigh, _, herr⟩ := retained_bits s c busy v hc le_rfl
  refine ⟨s.retained c busy v 8, ?_, hctl, fun b hb => ⟨?_, fun href => herr ⟨b, hb, href⟩, fun h => ?_, fun hdiff href => ?_⟩⟩
  · change execScratchpadRetention m c v busy s = _
    rw [execScratchpadRetention, if_pos hwrite, State.retained]
  · rw [hret, if_pos hb]
  · have hkept : s.retainChanges c busy v b = false := by
      rcases h with hsame | href
      · simp [State.retainChanges, hsame]
      · simp [State.retainChanges, href]
    rw [hhigh b hb, if_neg fun h => Bool.false_ne_true (hkept.symm.trans h.2)]
  · have hmoved : s.retainChanges c busy v b = true := by simp [State.retainChanges, hdiff, href]
    rw [hhigh b hb, hlow b hb, if_pos ⟨hb, hmoved⟩, if_pos ⟨hb, hmoved⟩]
    exact ⟨rfl, rfl⟩

end

/-- Memory with a range zeroed, of poison too. -/
def State.blanked (s : State) (base n : Nat) : State :=
  s.mapMem fun m =>
    { m with cells := m.cells.filter fun x => !(decide (base ≤ x.1 ∧ x.1 < base + n))
             poison := m.poison.filter fun g => !(decide (base ≤ 8 * g ∧ 8 * g < base + n)) }

theorem byte_blanked (s : State) (base n a : Nat) : (s.blanked base n).byte a = if base ≤ a ∧ a < base + n then 0 else s.byte a :=
  (show (s.blanked base n).byte a = (s.wipe base n).byte a from rfl).trans (byte_wipe s base n a)

/-- What the end of a wipe says in the cluster's registers. -/
def State.wipeNoted (s : State) (c : Nat) : State := (s.setSpstat c 16 false).setBit (clsReg Reg.CLS_SPERR c) 4 true

theorem wipeNoted_bits (s : State) (c : Nat) :
    (s.wipeNoted c).bit (clsReg Reg.CLS_SPSTAT c) 16 = false ∧ (s.wipeNoted c).bit (clsReg Reg.CLS_SPERR c) 4 = true :=
  ⟨(bit_setBit_otherReg _ _ _ _ (spstat_ne_sperr c)).trans (bit_setBit_same _ _ (by decide)), bit_setBit_same _ _ (by decide)⟩

theorem onlyCtl_wipeNoted (s : State) (c : Nat) : OnlyCtl s (s.wipeNoted c) :=
  OnlyCtl.trans (t := s.setSpstat c 16 false) rfl rfl

theorem byte_wipeNoted (s : State) (c a : Nat) : (s.wipeNoted c).byte a = s.byte a := by
  refine byte_of_mem ?_ a
  rw [State.wipeNoted, setBit_mem, State.setSpstat, setBit_mem]

theorem memCtl_of {s t : State} {f : Mem → Mem} (h : OnlyCtl (s.mapMem f) t) : t = { s with mem := t.mem, ctl := t.ctl } := by
  obtain ⟨c, rfl⟩ := onlyCtl_iff.mp h
  rfl

/-- A wiped strongroom reads zero (R430). -/
theorem strongroomWipeDone_ends {s : State} {c : Nat} (hwipe : s.bit (clsReg Reg.CLS_SPSTAT c) 16 = true) (hawake : s.bankAsleep c 7 = false) :
    Ends (.strongroomWipeDone c) s fun t => let base := scratchBase + 0x400000 * c + 0x380000
      (∀ a, base ≤ a → a < base + 0x40000 → t.byte a = 0) ∧ (∀ a, a < base ∨ base + 0x40000 ≤ a → t.byte a = s.byte a) ∧
      t.bit (clsReg Reg.CLS_SPSTAT c) 16 = false ∧ t.bit (clsReg Reg.CLS_SPERR c) 4 = true ∧
      t = { s with mem := t.mem, ctl := t.ctl } := by
  have hrun : exec (.strongroomWipeDone c) s = .next ((s.blanked (scratchBase + 0x400000 * c + 0x380000) 0x40000).wipeNoted c) := by
    change execStrongroomWipeDone c s = _
    rw [execStrongroomWipeDone, if_pos ⟨hwipe, by rw [hawake]; rfl⟩, State.wipeStrongroom, State.wipeNoted, State.blanked]
  obtain ⟨hstat, herr⟩ := wipeNoted_bits (s.blanked (scratchBase + 0x400000 * c + 0x380000) 0x40000) c
  refine ⟨_, hrun, fun a hlo hhi => ?_, fun a ha => ?_, hstat, herr, memCtl_of (onlyCtl_wipeNoted (s.blanked (scratchBase + 0x400000 * c + 0x380000) 0x40000) c)⟩
  · rw [byte_wipeNoted, byte_blanked, if_pos ⟨hlo, hhi⟩]
  · rw [byte_wipeNoted, byte_blanked, if_neg fun h => ?_]
    omega

end Sys2Proof.Machine
end

section
/-! OBLIGATIONS. The Warp network: replays, timeouts, isolation, routes (O44). -/

namespace Sys2Proof.Machine

open Sys2Proof Sys2Proof.Stated

/-! ## Replays of a link (R440, R441) -/

/-- A replay is counted and logged. -/
def State.replayNoted (s : State) (l : Nat) : State := (s.count Reg.WRP_CNT_REPLAY 1).errEvent Reg.WRP_ERR 3 Src.warp 1 noPlot l

theorem replayNoted_logged (s : State) (l : Nat) : Counted s (s.replayNoted l) Reg.WRP_CNT_REPLAY ∧
    (s.replayNoted l).bit Reg.WRP_ERR 3 = true ∧ OnlyLogged s (s.replayNoted l) [Reg.WRP_CNT_REPLAY, Reg.WRP_ERR] :=
  countEvent_logged s _ _ _ (by decide) (by decide) (by decide) (by decide) (by decide)

/-- A link taken down after too many replays. -/
def State.replayedOut (s : State) (l : Nat) : State :=
  ((s.mapWarp fun w => { w with replays := sdel w.replays l }).setBit Reg.WRP_LINKDOWN l true).errEvent Reg.WRP_ERR 4 Src.warp 2 noPlot l

theorem replayedOut_bits (s : State) {l : Nat} (hl : l < 30) : let t := s.replayedOut l
    t.bit Reg.WRP_LINKDOWN l = true ∧ t.bit Reg.WRP_ERR 4 = true ∧ t.bit Reg.WRP_ERR 3 = s.bit Reg.WRP_ERR 3 ∧
    t.reg Reg.WRP_CNT_REPLAY = s.reg Reg.WRP_CNT_REPLAY ∧ t.units = s.units ∧ t.mem = s.mem := by
  let down := (s.mapWarp fun w => { w with replays := sdel w.replays l }).setBit Reg.WRP_LINKDOWN l true
  have hlogged := errEvent_onlyLogged down (err := Reg.WRP_ERR) 4 Src.warp noPlot l (cls := 2) (by decide)
  have hunits : (s.replayedOut l).units = down.units := OnlyLogged.units hlogged
  have hmem : (s.replayedOut l).mem = down.mem := OnlyLogged.mem hlogged
  have hreg (o : Nat) (ho : o ∉ [Reg.WRP_ERR] ++ gleanRegs) : (s.replayedOut l).reg o = down.reg o := hlogged.2 o ho
  refine ⟨?_, bit_errEvent _ _ _ _ (by decide) (by decide) (by decide), ?_, ?_, hunits, hmem⟩
  · rw [State.bit, hreg _ (by decide)]
    exact bit_setBit_same _ true (by omega)
  · refine (bit_errEvent_other _ _ _ _ _ (by decide) (by decide) (by decide)).trans ?_
    rw [bit_setBit_otherReg _ _ _ _ (by decide)]
    rfl
  · rw [hreg _ (by decide), reg_setBit_other _ _ _ (by decide)]
    rfl

theorem warpLinkReplay_ends {s : State} {l : Nat} (again : Bool) (hl : l < 30) (hup : s.bit Reg.WRP_LINKDOWN l = false) :
    let n := if again then sget (fun _ => 0) s.warp.replays l + 1 else 1
    Ends (.warpLinkReplay l again) s fun t => Counted s t Reg.WRP_CNT_REPLAY ∧ t.bit Reg.WRP_ERR 3 = true ∧
      (n ≤ s.fld Reg.WRP_LINKCFG 4 0 → t.bit Reg.WRP_LINKDOWN l = false ∧ sget (fun _ => 0) t.warp.replays l = n) ∧
      (s.fld Reg.WRP_LINKCFG 4 0 < n → t.bit Reg.WRP_LINKDOWN l = true ∧ t.bit Reg.WRP_ERR 4 = true) ∧
      t.units = s.units ∧ t.mem = s.mem := by
  intro n
  obtain ⟨hcount, herr, hlogged⟩ := replayNoted_logged s l
  have hunits := OnlyLogged.units hlogged
  have hmem := OnlyLogged.mem hlogged
  have hcfg : (s.replayNoted l).fld Reg.WRP_LINKCFG 4 0 = s.fld Reg.WRP_LINKCFG 4 0 := by
    rw [State.fld, hlogged.2 _ (by decide), State.fld]
  have hdown : (s.replayNoted l).bit Reg.WRP_LINKDOWN l = false := by rw [State.bit, hlogged.2 _ (by decide)]; exact hup
  have hrun : exec (.warpLinkReplay l again) s = .next (if s.fld Reg.WRP_LINKCFG 4 0 < n then (s.replayNoted l).replayedOut l
      else (s.replayNoted l).mapWarp fun w => { w with replays := sset (fun _ => 0) w.replays l n }) := by
    change execWarpLinkReplay l again s = _
    rw [execWarpLinkReplay, if_pos ⟨hl, by rw [hup]; rfl⟩, State.warpReplay, ← hcfg]
    rfl
  by_cases hn : s.fld Reg.WRP_LINKCFG 4 0 < n
  · obtain ⟨hbit, hfour, hthree, hreg, hunits', hmem'⟩ := replayedOut_bits (s.replayNoted l) hl
    refine ⟨(s.replayNoted l).replayedOut l, by rw [hrun, if_pos hn], ?_, hthree.trans herr, fun h => absurd hn (Nat.not_lt.mpr h),
      fun _ => ⟨hbit, hfour⟩, hunits'.trans hunits, hmem'.trans hmem⟩
    rw [Counted, hreg]
    exact hcount
  · refine ⟨(s.replayNoted l).mapWarp fun w => { w with replays := sset (fun _ => 0) w.replays l n }, by rw [hrun, if_neg hn], hcount, herr, fun _ => ⟨hdown, sget_sset_same ..⟩, fun h => absurd h hn, hunits, hmem⟩

/-! ## Isolation (R447) -/

theorem safeFree_warp : SafeFree State.warp :=
  safeFree_of (fun _ _ => rfl) (fun _ _ => rfl) (fun _ _ => rfl) (fun _ _ => rfl) (fun _ _ => rfl) (fun _ _ => rfl) fun _ => rfl

/-- A privileged stop is isolated once, and its held reservations come back. -/
theorem warpIsolate_ends {s : State} {k : Nat} (hk : k < 24) (hpriv : privilegedStop k = true) (hiso : s.bit Reg.WRP_ISO k = false) :
    Ends (.warpIsolate k) s fun t => t.bit Reg.WRP_ISO k = true ∧ t.warp.held = (s.warp.held.filter fun h => h.target ≠ k) ∧ t.safe = true := by
  let cut := (s.mapWarp fun w => { w with held := w.held.filter fun h => h.target ≠ k }).setBit Reg.WRP_ISO k true
  have hwarp : (cut.errEvent Reg.WRP_ERR 6 Src.warp 6 noPlot k).warp = cut.warp := safeFree_warp.errEvent _ _ _ _ _ _ fun _ _ => rfl
  have hreg : (cut.errEvent Reg.WRP_ERR 6 Src.warp 6 noPlot k).reg Reg.WRP_ISO = cut.reg Reg.WRP_ISO :=
    (safeFree_reg (by decide)).errEvent _ _ _ _ _ _ fun s v => reg_setReg_other s v (by decide)
  refine ⟨cut.errEvent Reg.WRP_ERR 6 Src.warp 6 noPlot k, ?_, ?_, ?_, safe_errEvent ..⟩
  · change execWarpIsolate k s = _
    rw [execWarpIsolate, State.isolate, if_neg]
    simp [hpriv, hiso]
  · rw [State.bit, hreg]
    exact bit_setBit_same _ true (by omega)
  · rw [hwarp]
    rfl

theorem warpIsolate_idle {s : State} {k : Nat} (h : privilegedStop k = false ∨ s.bit Reg.WRP_ISO k = true) :
    Ends (.warpIsolate k) s fun t => t = s := by
  refine ⟨s, ?_, rfl⟩
  change execWarpIsolate k s = _
  rw [execWarpIsolate, State.isolate, if_pos]
  rcases h with h | h
  · exact .inl (by rw [h]; rfl)
  · exact .inr h

/-! ## Timeouts (R442, R443) -/

/-- The timeouts of the last millisecond. -/
def State.youngTimeouts (s : State) : List (Nat × Nat) := s.warp.timeouts.filter fun x => s.time ≤ x.2 + 1000000

/-- What a timeout leaves before the Gleaner hears of it. -/
def State.timeoutHeld (s : State) (ini target addr : Nat) : State :=
  (((s.sample 0x09 ini (s.fld Reg.WRP_TIMEOUT 7 0 * 1000)).logAnswer ini target .timeout 0 addr).count Reg.WRP_CNT_TIMEOUT 1).mapWarp fun w =>
    { w with held := w.held ++ [{ id := w.nextId, init := ini, target := target }], nextId := w.nextId + 1
             timeouts := (w.timeouts.filter fun x => s.time ≤ x.2 + 1000000) ++ [(target, s.time)] }

theorem logAnswer_timeout (s : State) (ini target addr : Nat) : s.logAnswer ini target .timeout 0 addr =
    (s.setReg Reg.WRP_ELOG (BitVec.ofNat 32 (2 ^ 31 + warpCode .timeout * 2 ^ 24 + 0 * 2 ^ 16 + target * 2 ^ 8 + ini))).setReg64
      Reg.WRP_ELOGADDR_LO (addr % 2 ^ 46) := rfl

/-- A timeout moves the counter and holds the reservation. -/
theorem timeoutHeld_facts (s : State) (ini target addr : Nat) : let t := s.timeoutHeld ini target addr
    t.warp = { s.warp with held := s.warp.held ++ [{ id := s.warp.nextId, init := ini, target := target }], nextId := s.warp.nextId + 1
                           timeouts := s.youngTimeouts ++ [(target, s.time)] } ∧
    Counted s t Reg.WRP_CNT_TIMEOUT ∧ t.time = s.time ∧ t.units = s.units ∧ t.pairs = s.pairs ∧ t.mem = s.mem ∧
    (∀ o, o ∉ [Reg.WRP_ELOG, Reg.WRP_ELOGADDR_LO, Reg.WRP_ELOGADDR_LO + 4, Reg.WRP_CNT_TIMEOUT] → t.reg o = s.reg o) := by
  let sampled := s.sample 0x09 ini (s.fld Reg.WRP_TIMEOUT 7 0 * 1000)
  have hanswer (y : State) : (y.logAnswer ini target .timeout 0 addr).warp = y.warp ∧ (y.logAnswer ini target .timeout 0 addr).time = y.time ∧
      (y.logAnswer ini target .timeout 0 addr).units = y.units ∧ (y.logAnswer ini target .timeout 0 addr).pairs = y.pairs ∧
      (y.logAnswer ini target .timeout 0 addr).mem = y.mem ∧
      ∀ o, o ∉ [Reg.WRP_ELOG, Reg.WRP_ELOGADDR_LO, Reg.WRP_ELOGADDR_LO + 4] → (y.logAnswer ini target .timeout 0 addr).reg o = y.reg o := by
    rw [logAnswer_timeout]
    refine ⟨rfl, rfl, rfl, rfl, rfl, fun o ho => ?_⟩
    simp only [List.mem_cons, List.not_mem_nil, or_false, not_or] at ho
    obtain ⟨hlog, hlo, hhi⟩ := ho
    rw [reg_setReg64, if_neg hhi, if_neg hlo, reg_setReg_other _ _ hlog]
  obtain ⟨hwarp, htime, hunits, hpairs, hmem, hregs⟩ := hanswer sampled
  have hheld (y : State) (f : Warp → Warp) : ((y.count Reg.WRP_CNT_TIMEOUT 1).mapWarp f).warp = f y.warp ∧
      ((y.count Reg.WRP_CNT_TIMEOUT 1).mapWarp f).reg Reg.WRP_CNT_TIMEOUT = (y.count Reg.WRP_CNT_TIMEOUT 1).reg Reg.WRP_CNT_TIMEOUT ∧
      ((y.count Reg.WRP_CNT_TIMEOUT 1).mapWarp f).time = y.time ∧ ((y.count Reg.WRP_CNT_TIMEOUT 1).mapWarp f).units = y.units ∧
      ((y.count Reg.WRP_CNT_TIMEOUT 1).mapWarp f).pairs = y.pairs ∧ ((y.count Reg.WRP_CNT_TIMEOUT 1).mapWarp f).mem = y.mem ∧
      ∀ o, o ≠ Reg.WRP_CNT_TIMEOUT → ((y.count Reg.WRP_CNT_TIMEOUT 1).mapWarp f).reg o = y.reg o :=
    ⟨rfl, rfl, rfl, rfl, rfl, rfl, fun o ho => reg_count_other y 1 ho⟩
  obtain ⟨hwarp', hcount, htime', hunits', hpairs', hmem', hregs'⟩ := hheld (sampled.logAnswer ini target .timeout 0 addr) fun w =>
    { w with held := w.held ++ [{ id := w.nextId, init := ini, target := target }], nextId := w.nextId + 1
             timeouts := (w.timeouts.filter fun x => sampled.time ≤ x.2 + 1000000) ++ [(target, sampled.time)] }
  have hreg : sampled.reg Reg.WRP_CNT_TIMEOUT = s.reg Reg.WRP_CNT_TIMEOUT := rfl
  refine ⟨?_, ?_, htime'.trans htime, hunits'.trans hunits, hpairs'.trans hpairs, hmem'.trans hmem, fun o ho => ?_⟩
  · refine Eq.trans hwarp' ?_
    rw [hwarp]
    rfl
  · have hval : (s.timeoutHeld ini target addr).reg Reg.WRP_CNT_TIMEOUT =
        ((sampled.logAnswer ini target .timeout 0 addr).count Reg.WRP_CNT_TIMEOUT 1).reg Reg.WRP_CNT_TIMEOUT := hcount
    rw [Counted, hval, reg_count_same, hregs _ (by decide), hreg]
  · simp only [List.mem_cons, List.not_mem_nil, or_false, not_or] at ho
    obtain ⟨hlog, hlo, hhi, hcnt⟩ := ho
    refine (hregs' o hcnt).trans ((hregs o ?_).trans rfl)
    simp only [List.mem_cons, List.not_mem_nil, or_false, not_or]
    exact ⟨hlog, hlo, hhi⟩

theorem recentTimeouts_append {y : State} {l : List (Nat × Nat)} {target now : Nat} (htime : y.time = now)
    (hl : y.warp.timeouts = (l.filter fun x => now ≤ x.2 + 1000000) ++ [(target, now)]) :
    y.recentTimeouts target = ((l.filter fun x => now ≤ x.2 + 1000000).filter fun x => x.1 = target).length + 1 := by
  rw [State.recentTimeouts, hl, htime]
  simp [List.filter_append, List.filter_filter]

section

variable {s : State} (τ ini target addr : Nat)

theorem warpTimeout_isolated (hiso : s.bit Reg.WRP_ISO target = true) (acc : Option UnitAccess) :
    Ends (.warpTimeout τ ini target addr acc) s fun t => t = s.advance τ := by
  refine ⟨s.advance τ, ?_, rfl⟩
  change execWarpTimeout τ ini target addr acc s = _
  rw [execWarpTimeout]
  exact congrArg _ (if_pos hiso)

/-- The access of a unit that timed out ends with an MCHECK, where the unit goes on. -/
def State.accessEnded (s : State) (acc : Option UnitAccess) : State :=
  match acc with
  | none => s
  | some a => if s.ready a.unit then (s.takeExc a.unit (Exc.at exMcheck 2 a.sp a.ea)).boundary a.unit else s

/-- A timeout that isolates no stop. -/
def State.timeoutLogged (s : State) (ini target addr : Nat) : State :=
  (s.timeoutHeld ini target addr).errEvent Reg.WRP_ERR 1 Src.warp 0 noPlot target

theorem timeoutLogged_facts (s : State) : let t := s.timeoutLogged ini target addr
    t.warp = { s.warp with held := s.warp.held ++ [{ id := s.warp.nextId, init := ini, target := target }], nextId := s.warp.nextId + 1
                           timeouts := s.youngTimeouts ++ [(target, s.time)] } ∧
    Counted s t Reg.WRP_CNT_TIMEOUT ∧ t.bit Reg.WRP_ERR 1 = true ∧ t.time = s.time ∧ t.units = s.units ∧ t.pairs = s.pairs ∧ t.mem = s.mem ∧
    t.fld Reg.WRP_DEADCFG 3 0 = s.fld Reg.WRP_DEADCFG 3 0 ∧ t.safe = s.safe := by
  obtain ⟨hwarp, hcount, htime, hunits, hpairs, hmem, hregs⟩ := timeoutHeld_facts s ini target addr
  let y := s.timeoutHeld ini target addr
  have hlogged := errEvent_onlyLogged y (err := Reg.WRP_ERR) 1 Src.warp noPlot target (cls := 0) (by decide)
  have hstate := hlogged.1
  have hreg (o : Nat) (ho : o ∉ [Reg.WRP_ERR] ++ gleanRegs) : (s.timeoutLogged ini target addr).reg o = y.reg o := hlogged.2 o ho
  refine ⟨(OnlyLogged.warp hlogged).trans hwarp, ?_, bit_errEvent _ _ _ _ (by decide) (by decide) (by decide), ?_,
    (OnlyLogged.units hlogged).trans hunits, ?_, (OnlyLogged.mem hlogged).trans hmem, ?_, ?_⟩
  · rw [Counted, hreg _ (by decide)]
    exact hcount
  · exact (congrArg State.time hstate).trans htime
  · exact (congrArg State.pairs hstate).trans hpairs
  · rw [State.fld, hreg _ (by decide), hregs _ (by decide), State.fld]
  · rw [State.safe, State.bit, hreg _ (by decide), hregs _ (by decide), State.safe, State.bit]

variable (hiso : s.bit Reg.WRP_ISO target = false)
  (hfew : ((s.warp.timeouts.filter fun x => (s.advance τ).time ≤ x.2 + 1000000).filter fun x => x.1 = target).length + 1 < s.fld Reg.WRP_DEADCFG 3 0)

include hiso hfew

/-- Few timeouts of a stop do not isolate it. -/
theorem exec_warpTimeout (acc : Option UnitAccess) : exec (.warpTimeout τ ini target addr acc) s =
    .next (((s.advance τ).timeoutLogged ini target addr).accessEnded acc) := by
  obtain ⟨hwarp, _, _, htime, _, _, _, hcfg, _⟩ := timeoutLogged_facts ini target addr (s.advance τ)
  have hrecent : ((s.advance τ).timeoutLogged ini target addr).recentTimeouts target =
      ((s.warp.timeouts.filter fun x => (s.advance τ).time ≤ x.2 + 1000000).filter fun x => x.1 = target).length + 1 :=
    recentTimeouts_append (l := s.warp.timeouts) htime (congrArg Warp.timeouts hwarp)
  have hstay : ((s.advance τ).warpTimedOut ini target addr) = (s.advance τ).timeoutLogged ini target addr := by
    have hno : ¬ ((s.advance τ).timeoutLogged ini target addr).fld Reg.WRP_DEADCFG 3 0 ≤
        ((s.advance τ).timeoutLogged ini target addr).recentTimeouts target := by
      rw [hcfg, hrecent]
      exact Nat.not_le.mpr hfew
    exact if_neg hno
  change execWarpTimeout τ ini target addr acc s = _
  rw [execWarpTimeout]
  refine congrArg _ ((if_neg (ne_true_of_eq_false hiso)).trans ?_)
  cases acc with
  | none => exact hstay
  | some a => exact congrArg (fun y : State => y.accessEnded (some a)) hstay

/-- A timeout is logged, counted, and holds its reservation. -/
theorem warpTimeout_holds : Ends (.warpTimeout τ ini target addr none) s fun t =>
    t.warp = { s.warp with held := s.warp.held ++ [{ id := s.warp.nextId, init := ini, target := target }], nextId := s.warp.nextId + 1
                           timeouts := (s.warp.timeouts.filter fun x => (s.advance τ).time ≤ x.2 + 1000000) ++ [(target, (s.advance τ).time)] } ∧
    Counted s t Reg.WRP_CNT_TIMEOUT ∧ t.bit Reg.WRP_ERR 1 = true ∧ t.units = s.units ∧ t.mem = s.mem := by
  obtain ⟨hwarp, hcount, hbit, _, hunits, _, hmem, _, _⟩ := timeoutLogged_facts ini target addr (s.advance τ)
  exact ⟨_, exec_warpTimeout τ ini target addr hiso hfew none, hwarp, hcount, hbit, hunits, hmem⟩

/-- The access of a unit that timed out ends as MCHECK. -/
theorem warpTimeout_traps {a : UnitAccess} (hready : (s.advance τ).ready a.unit = true) : Ends (.warpTimeout τ ini target addr (some a)) s fun t =>
    ∃ y : State, t = (y.takeExc a.unit (Exc.at exMcheck 2 a.sp a.ea)).boundary a.unit ∧ y.units = s.units ∧ y.mem = s.mem := by
  obtain ⟨_, _, _, _, hunits, hpairs, hmem, _, hsafe⟩ := timeoutLogged_facts ini target addr (s.advance τ)
  have hgo : ((s.advance τ).timeoutLogged ini target addr).ready a.unit = true := by
    rw [State.ready, State.unit, State.pair, hunits, hpairs, hsafe]
    exact hready
  refine ⟨_, exec_warpTimeout τ ini target addr hiso hfew (some a), (s.advance τ).timeoutLogged ini target addr, if_pos hgo, hunits, hmem⟩

end

/-- A late response frees its reservation (R443). -/
theorem warpLateResponse_frees {s : State} {i : Nat} (h : s.warp.held.any (fun h => h.id = i) = true) : Ends (.warpLateResponse i) s fun t =>
    t.warp = { s.warp with held := s.warp.held.filter fun h => h.id ≠ i } ∧ Counted s t Reg.WRP_CNT_LATE ∧
    t.bit Reg.WRP_ERR 2 = true ∧ RegsBut s t [Reg.WRP_CNT_LATE, Reg.WRP_ERR] ∧ t = { s with ctl := t.ctl, warp := t.warp } := by
  let freed := s.mapWarp fun w => { w with held := w.held.filter fun h => h.id ≠ i }
  have hstate (y : State) : OnlyCtl y ((y.count Reg.WRP_CNT_LATE 1).setBit Reg.WRP_ERR 2 true) :=
    OnlyCtl.trans (t := y.count Reg.WRP_CNT_LATE 1) rfl rfl
  have hmap (f : Warp → Warp) (t : State) (ht : OnlyCtl (s.mapWarp f) t) : t.warp = f s.warp ∧ t = { s with ctl := t.ctl, warp := t.warp } := by
    obtain ⟨c, rfl⟩ := onlyCtl_iff.mp ht
    exact ⟨rfl, rfl⟩
  obtain ⟨hwarp, hall⟩ := hmap _ _ (hstate freed)
  refine ⟨(freed.count Reg.WRP_CNT_LATE 1).setBit Reg.WRP_ERR 2 true, ?_, hwarp, ?_, bit_setBit_same _ _ (by decide), fun o ho => ?_, hall⟩
  · change execWarpLateResponse i s = _
    rw [execWarpLateResponse, if_pos h]
  · rw [Counted, reg_setBit_other _ _ _ (by decide), reg_count_same]
    rfl
  · simp only [List.mem_cons, List.not_mem_nil, or_false, not_or] at ho
    rw [reg_setBit_other _ _ _ ho.2, reg_count_other _ _ ho.1]
    rfl

/-! ## Route tables (R448) -/

theorem routeGen_le (s : State) : s.routeGen ≤ 1 := by
  rw [State.routeGen, State.fld, bits]
  exact Nat.le_of_lt_succ (Nat.mod_lt _ (by decide))

theorem routeFlip_flips {s : State} {m : Master} (hwrite : s.writesReg m Reg.WRP_RTCTRL = true) (hidle : s.routeDraining = false) :
    Ends (.routeFlip m) s fun t => t.routeGen = 1 - s.routeGen ∧ t.routeDraining = true ∧ OnlyCtl s t ∧ RegsBut s t [Reg.WRP_RTSTAT] := by
  refine ⟨(s.setFld Reg.WRP_RTSTAT 0 0 (1 - s.routeGen)).setBit Reg.WRP_RTSTAT 8 true, ?_, ?_, bit_setBit_same _ _ (by decide),
    OnlyCtl.trans (t := s.setFld Reg.WRP_RTSTAT 0 0 (1 - s.routeGen)) rfl rfl, fun o ho => ?_⟩
  · change execRouteFlip m s = _
    rw [execRouteFlip, if_pos hwrite, State.flipRoutes, if_neg (ne_true_of_eq_false hidle)]
  · rw [State.routeGen, State.fld, State.setBit, reg_setFld_same, bits_setBits_out _ _ (by decide) (by decide) (by decide), reg_setFld_same,
      bits_setBits _ _ (by decide) (by decide)]
    exact Nat.mod_eq_of_lt (by omega)
  · have hne : o ≠ Reg.WRP_RTSTAT := by simpa using ho
    rw [reg_setBit_other _ _ _ hne, reg_setFld_other _ _ _ _ hne]

/-- A flip while the old tables drain is refused. -/
theorem routeFlip_busy {s : State} {m : Master} (hwrite : s.writesReg m Reg.WRP_RTCTRL = true) (hbusy : s.routeDraining = true) :
    Ends (.routeFlip m) s fun t => t.routeGen = s.routeGen ∧ t.bit Reg.WRP_ERR 0 = true ∧ t.bit Reg.WRP_ERR 7 = true ∧ OnlyCtl s t ∧
      RegsBut s t [Reg.WRP_ERR] := by
  refine ⟨s.routeBusy, ?_, ?_, ?_, bit_setBit_same _ _ (by decide), OnlyCtl.trans (t := s.setBit Reg.WRP_ERR 0 true) rfl rfl, fun o ho => ?_⟩
  · change execRouteFlip m s = _
    rw [execRouteFlip, if_pos hwrite, State.flipRoutes, if_pos hbusy]
  · rw [State.routeGen, State.fld, State.routeBusy, reg_setBit_other _ _ _ (by decide), reg_setBit_other _ _ _ (by decide), State.routeGen, State.fld]
  · rw [State.routeBusy, bit_setBit_otherBit _ _ (by decide) (by decide), bit_setBit_same _ _ (by decide)]
  · have hne : o ≠ Reg.WRP_ERR := by simpa using ho
    rw [State.routeBusy, reg_setBit_other _ _ _ hne, reg_setBit_other _ _ _ hne]

theorem routeDrainDone_ends {s : State} (hbusy : s.routeDraining = true) : Ends .routeDrainDone s fun t => t.routeDraining = false ∧ OnlyCtl s t ∧
    RegsBut s t [Reg.WRP_RTSTAT] := by
  refine ⟨s.setBit Reg.WRP_RTSTAT 8 false, ?_, bit_setBit_same _ _ (by decide), rfl, setBit_regsBut s _ _ _⟩
  change execRouteDrainDone s = _
  rw [execRouteDrainDone, if_pos hbusy]

/-! ### COPY -/

theorem routeEntry_setRoute (s : State) {gen r d gen' r' d' : Nat} (v : Nat) (hd : d < 32) (hd' : d' < 32) (hr : r < 32) (hr' : r' < 32) :
    (s.setRoute gen r d v).routeEntry gen' r' d' = if gen' = gen ∧ r' = r ∧ d' = d then v % 64 else s.routeEntry gen' r' d' := by
  rw [State.routeEntry, State.setRoute, mapWarp_warp, sget_sset]
  have hiff : gen' * 1024 + r' * 32 + d' = gen * 1024 + r * 32 + d ↔ gen' = gen ∧ r' = r ∧ d' = d := by omega
  simp only [hiff]
  rfl

theorem warpOnly_trans {s t r : State} (h : t = { s with warp := t.warp }) (g : r = { t with warp := r.warp }) : r = { s with warp := r.warp } := by
  have hr : r = { (({ s with warp := t.warp } : State)) with warp := r.warp } := by rw [← h]; exact g
  exact hr

/-- One row of the inactive tables made equal to the active one's. -/
theorem copyRow_entries (s : State) {g r : Nat} (hg : g ≤ 1) (hr : r < 32) {n : Nat} (hn : n ≤ 32) :
    let t := (List.range n).foldl (fun s d => s.setRoute (1 - g) r d (s.routeEntry g r d)) s
    t = { s with warp := t.warp } ∧ ∀ gen r' d, r' < 32 → d < 32 →
      t.routeEntry gen r' d = if gen = 1 - g ∧ r' = r ∧ d < n then s.routeEntry g r d % 64 else s.routeEntry gen r' d := by
  induction n with
  | zero => simp
  | succ n ih =>
    obtain ⟨hstate, hentry⟩ := ih (by omega)
    simp only [List.range_succ, List.foldl_append, List.foldl_cons, List.foldl_nil]
    refine ⟨?_, fun gen r' d hr' hd => ?_⟩
    · rw [hstate]
      rfl
    · rw [routeEntry_setRoute _ _ (by omega) hd hr hr', hentry _ _ _ hr' hd, hentry g r n hr (by omega)]
      have hne : g ≠ 1 - g := by omega
      simp only [hne, false_and, if_false]
      by_cases hdn : d = n
      · subst hdn
        simp
      · have hlt : d < n + 1 ↔ d < n := by omega
        simp only [hdn, and_false, if_false, hlt]

/-- A row copied whole. -/
def State.copiedRow (s : State) (g r : Nat) : State := (List.range 32).foldl (fun s d => s.setRoute (1 - g) r d (s.routeEntry g r d)) s

theorem copyRows_entries (s : State) {g : Nat} (hg : g ≤ 1) {m : Nat} (hm : m ≤ 26) :
    let t := (List.range m).foldl (fun s r => s.copiedRow g r) s
    t = { s with warp := t.warp } ∧ ∀ gen r d, r < 32 → d < 32 →
      t.routeEntry gen r d = if gen = 1 - g ∧ r < m then s.routeEntry g r d % 64 else s.routeEntry gen r d := by
  induction m with
  | zero => simp
  | succ m ih =>
    obtain ⟨hstate, hentry⟩ := ih (by omega)
    rw [List.range_succ, List.foldl_append, List.foldl_cons, List.foldl_nil]
    obtain ⟨hrow, hcopied⟩ := copyRow_entries ((List.range m).foldl (fun s r => s.copiedRow g r) s) hg (r := m) (by omega) (le_refl 32)
    refine ⟨?_, fun gen r d hr hd => ?_⟩
    · exact warpOnly_trans hstate hrow
    · refine (hcopied gen r d hr hd).trans ?_
      rw [hentry g m d (by omega) hd, hentry gen r d hr hd]
      have hne : g ≠ 1 - g := by omega
      simp only [hne, false_and, if_false]
      by_cases hrm : r = m
      · subst hrm
        simp [hd]
      · have hlt : r < m + 1 ↔ r < m := by omega
        simp only [hrm, false_and, and_false, if_false, hlt]

/-- COPY makes the inactive tables equal to the active ones. -/
theorem routeCopy_ends {s : State} {m : Master} (hwrite : s.writesReg m Reg.WRP_RTCTRL = true) : Ends (.routeCopy m) s fun t =>
    (∀ r d, r < 26 → d < 32 → t.routeEntry (1 - s.routeGen) r d = s.routeEntry s.routeGen r d % 64) ∧
    (∀ r d, r < 26 → d < 32 → t.routeEntry s.routeGen r d = s.routeEntry s.routeGen r d) ∧ t = { s with warp := t.warp } := by
  have hg := routeGen_le s
  obtain ⟨hstate, hentry⟩ := copyRows_entries s hg (le_refl 26)
  have hne : s.routeGen ≠ 1 - s.routeGen := by omega
  refine ⟨s.copyRoutes, ?_, fun r d hr hd => ?_, fun r d hr hd => ?_, hstate⟩
  · change execRouteCopy m s = _
    rw [execRouteCopy, if_pos hwrite]
  · exact (hentry _ r d (by omega) hd).trans (if_pos ⟨rfl, hr⟩)
  · exact (hentry _ r d (by omega) hd).trans (if_neg fun h => hne h.1)

/-- Settles O44: caches, scratchpads and the Warp network, clause by clause. -/
theorem cachesAndWarp : Obligations.CachesAndWarp := by
  refine ⟨⟨?_, ?_, ?_, ?_, fun s c b hb => bankWakeDone_ends s c hb, fun s c => strongroomWipeDone_ends⟩,
    fun s l again hl hup => warpLinkReplay_ends again hl hup, ?_, fun s i => warpLateResponse_frees, ?_, ?_, fun s => routeDrainDone_ends⟩
  · rintro s c pa f r x hx
    exact ⟨fun hdoom hr => hr ▸ cacheFill_arrives hx hdoom, fun hdoom hr => hr ▸ cacheFill_doomed hx hdoom⟩
  · intro s c pa l hl
    exact ⟨fun e => l2Scrub_corrects hl, l2Scrub_tag hl, fun d e => l2Scrub_marked hl, fun d p => l2Scrub_dirty hl, l2Scrub_nothing hl⟩
  · exact fun s c off => ⟨scratchpadScrub_corrects s c off, scratchpadScrub_poisons s c off⟩
  · exact fun s m c v busy hc hwrite => scratchpadRetention_ends busy v hc hwrite
  · intro s τ ini target addr n old
    exact ⟨fun hiso acc => warpTimeout_isolated τ ini target addr hiso acc, fun hiso hfew =>
      ⟨warpTimeout_holds τ ini target addr hiso hfew, fun a => warpTimeout_traps τ ini target addr hiso hfew⟩⟩
  · exact fun s k hk => ⟨warpIsolate_ends hk, warpIsolate_idle⟩
  · exact fun s m hwrite => ⟨routeFlip_flips hwrite, routeFlip_busy hwrite, routeCopy_ends hwrite⟩

end Sys2Proof.Machine
end

section
/-! OBLIGATIONS. Jobs of the Thresher (O45). -/

namespace Sys2Proof.Machine

open Sys2Proof Sys2Proof.Stated

/-! ## What jobs leave alone -/

theorem jobFree_thresher : JobFree State.thresher where
  cluster _ _ _ := rfl
  unit _ _ _ := rfl
  mem _ _ := rfl
  gleaner _ _ := rfl
  almanac _ _ := rfl
  furrow _ _ := rfl
  emit _ _ := rfl
  regs _ _ _ _ := rfl

theorem jobFree_time : JobFree State.time where
  cluster _ _ _ := rfl
  unit _ _ _ := rfl
  mem _ _ := rfl
  gleaner _ _ := rfl
  almanac _ _ := rfl
  furrow _ _ := rfl
  emit _ _ := rfl
  regs _ _ _ _ := rfl

theorem jobFree_cipher : JobFree State.cipher where
  cluster _ _ _ := rfl
  unit _ _ _ := rfl
  mem _ _ := rfl
  gleaner _ _ := rfl
  almanac _ _ := rfl
  furrow _ _ := rfl
  emit _ _ := rfl
  regs _ _ _ _ := rfl

/-- Writes of an engine reach the registers of the Gleaner and the error registers of scratchpads only. -/
theorem reg_engineWrite (s : State) (pa : Nat) (data : List Byte) (strong : Bool) {o : Nat} (hg : o ∉ gleanRegs)
    (hm : o % 0x10000 ≠ 0x128) : (s.engineWrite pa data strong).reg o = s.reg o := by
  have hstore : StoreFree (fun s : State => s.reg o) :=
    { cluster := fun _ _ _ => rfl, unit := fun _ _ _ => rfl, mem := fun _ _ => rfl }
  have hsperr (c : Nat) : o ≠ clsReg Reg.CLS_SPERR c := by
    rintro rfl
    simp only [clsReg, Reg.CLS_SPERR] at hm
    omega
  have hline (s : State) (pa : Nat) (data : List Byte) : (s.engineWriteLine pa data strong).reg o = s.reg o := by
    unfold State.engineWriteLine
    split
    · exact hstore.agentStore ..
    · split_ifs
      · exact (reg_event _ _ _ (by decide) hg).trans (reg_setBit_other _ _ _ (hsperr _))
      · rfl
      · exact hstore.deviceStore ..
      · exact hstore.deviceStore ..
    · rfl
  exact foldl_keeps (fun s : State => s.reg o) (fun _ _ => hline _ _ _) _ _

/-! ## Submitting a job (R456 to R458) -/

section

variable {s : State} {m : Master} {a : Nat} (hwrite : s.writesReg m Reg.THR_SUBMIT_HI = true)

include hwrite

theorem thrSubmit_runs : exec (.thrSubmit m a) s = .next (s.thrSubmitAt a) := by
  change execThrSubmit m a s = _
  rw [execThrSubmit, if_pos hwrite]

/-- A misaligned address sets BADW. -/
theorem thrSubmit_misaligned (ha : a % 64 ≠ 0 ∨ 2 ^ 46 ≤ a) : Ends (.thrSubmit m a) s fun t => t = s.badw Reg.THR_SUBMIT_HI := by
  refine ⟨_, thrSubmit_runs hwrite, ?_⟩
  rw [State.thrSubmitAt, if_pos ha]

variable (halign : a % 64 = 0) (hlow : a < 2 ^ 46)

include halign hlow

/-- While EN is 0 no job is taken. -/
theorem thrSubmit_disabled (hen : s.bit Reg.THR_CTRL 0 = false) : Ends (.thrSubmit m a) s fun t => t = s := by
  refine ⟨_, thrSubmit_runs hwrite, ?_⟩
  rw [State.thrSubmitAt, if_neg (by omega), hen]
  rfl

variable (hen : s.bit Reg.THR_CTRL 0 = true) (hsafe : s.safe = false) (hok : s.agentStatus 13 a 64 = .ok)

include hen hsafe hok

omit hok in
theorem thrSubmit_accepts : exec (.thrSubmit m a) s = .next (s.thrAccept a (leAt (s.bytes a 64) 4 2 % 4096) none).1 := by
  have hns : (!s.safe) = true := by rw [hsafe]; rfl
  rw [thrSubmit_runs hwrite, State.thrSubmitAt, if_neg (by omega), if_pos ⟨hen, hns⟩]

omit hwrite halign hlow hen hsafe in
theorem readable : ¬ s.agentStatus thrStop a 64 ≠ .ok := not_not_intro hok

/-- Without a free entry a job ends with BUSY. -/
theorem thrSubmit_full (hfull : s.thrFull (leAt (s.bytes a 64) 4 2 % 4096) = true) : Ends (.thrSubmit m a) s fun t =>
    t = (s.thrStatus a 0x0403).setBit Reg.THR_ERR 1 true := by
  refine ⟨_, thrSubmit_accepts hwrite halign hlow hen hsafe, ?_⟩
  rw [State.thrAccept, if_neg (readable hok), if_pos ⟨rfl, hfull⟩]
  rfl

variable (hfull : s.thrFull (leAt (s.bytes a 64) 4 2 % 4096) = false)

include hfull

/-- A job that passes its checks joins the job store. -/
theorem thrSubmit_joins (hpass : (s.thrStatus a 0xFFFF).thrRefusal (s.bytes a 64) (leAt (s.bytes a 64) 4 2 % 4096) = none) :
    Ends (.thrSubmit m a) s fun t =>
      (∃ j, t.thresher.jobs = s.thresher.jobs ++ [j] ∧ j.desc = a ∧ j.plot = leAt (s.bytes a 64) 4 2 % 4096 ∧ j.bytes = s.bytes a 64 ∧
        j.engine = none ∧ j.furrow = none ∧ j.cancel = false) ∧ t = { s.thrStatus a 0xFFFF with thresher := t.thresher } := by
  let j : ThrJob :=
    { id := (s.thrStatus a 0xFFFF).thresher.nextId, desc := a, plot := leAt (s.bytes a 64) 4 2 % 4096, bytes := s.bytes a 64, stops := []
      furrow := none, arrival := (s.thrStatus a 0xFFFF).time, engine := none, started := 0, cancel := false }
  have hstore : (s.thrStatus a 0xFFFF).thresher = s.thresher := jobFree_thresher.engineWrite ..
  refine ⟨(s.thrStatus a 0xFFFF).mapThresher fun h => { h with jobs := h.jobs ++ [j], nextId := h.nextId + 1 }, ?_,
    ⟨j, congrArg (fun h : Thresher => h.jobs ++ [j]) hstore, rfl, rfl, rfl, rfl, rfl, rfl⟩, rfl⟩
  have hpass' : (s.thrStatus a thrRunning).thrRefusal (s.bytes a 64) (leAt (s.bytes a 64) 4 2 % 4096) = none := hpass
  rw [thrSubmit_accepts hwrite halign hlow hen hsafe, State.thrAccept, if_neg (readable hok),
    if_neg fun h => Bool.false_ne_true (hfull.symm.trans h.2)]
  dsimp only
  rw [hpass']
  rfl

/-- A job that a check refuses ends with its status. -/
theorem thrSubmit_refuses {st : Nat} (hfail : (s.thrStatus a 0xFFFF).thrRefusal (s.bytes a 64) (leAt (s.bytes a 64) 4 2 % 4096) = some st) :
    Ends (.thrSubmit m a) s fun t =>
      t = (s.thrStatus a 0xFFFF).thrReport a (s.bytes a 64) none st 0 0 0 0 ∧ t.thresher = s.thresher := by
  refine ⟨(s.thrStatus a 0xFFFF).thrReport a (s.bytes a 64) none st 0 0 0 0, ?_, rfl,
    (jobFree_thresher.thrReport ..).trans (jobFree_thresher.engineWrite ..)⟩
  have hfail' : (s.thrStatus a thrRunning).thrRefusal (s.bytes a 64) (leAt (s.bytes a 64) 4 2 % 4096) = some st := hfail
  rw [thrSubmit_accepts hwrite halign hlow hen hsafe, State.thrAccept, if_neg (readable hok),
    if_neg fun h => Bool.false_ne_true (hfull.symm.trans h.2)]
  dsimp only
  rw [hfail']
  rfl

end

/-! ## THR_CTRL (R466) -/

theorem thrEnable_ready {s : State} {m : Master} {v : Word} (hwrite : s.writesReg m Reg.THR_CTRL = true) (hready : s.bit Reg.THR_STATUS 0 = true) :
    Ends (.thrEnable m v) s fun t => t = s.writeFields Reg.THR_CTRL v := by
  refine ⟨s.writeThrCtrl v, ?_, if_neg fun h => ?_⟩
  · change execThrEnable m v s = _
    rw [execThrEnable, if_pos hwrite]
  · have hr : s.thrReady = true := hready
    rw [hr] at h
    exact Bool.false_ne_true h.2

/-- EN takes what is written into it. -/
theorem enable_writeFields (s : State) (v : Word) : (s.writeFields Reg.THR_CTRL v).bit Reg.THR_CTRL 0 = v.getLsbD 0 := by
  have hbad (y : State) : (y.badw Reg.THR_CTRL).bit Reg.THR_CTRL 0 = y.bit Reg.THR_CTRL 0 :=
    congrArg (·.getLsbD 0) ((badw_sets y (off := Reg.THR_CTRL) (e := Reg.THR_ERR) (by decide)).2.2 _ (by decide))
  have hdef : (regDef? Reg.THR_CTRL).map RegDef.fields = some [⟨31, 31, .lock, []⟩, ⟨0, 0, .rw, []⟩] := by decide +kernel
  obtain ⟨r, hr, hfields⟩ := Option.map_eq_some_iff.1 hdef
  have hset (w : Word) : (setBits w 0 0 (bits v 0 0)).getLsbD 0 = v.getLsbD 0 := by
    rw [getLsbD_setBits_one _ _ _ _ (by decide), if_pos rfl, testBit_bits]
    simp
  have hwrite (locked : Bool) (w : Word) : (r.write locked w v).1.getLsbD 0 = v.getLsbD 0 := by
    rw [RegDef.write, hfields]
    exact hset _
  rw [writeFields_eq s v hr]
  split
  · rw [hbad, State.bit, reg_setReg_same]
    exact hwrite _ _
  · rw [State.bit, reg_setReg_same]
    exact hwrite _ _

/-- EN cannot be set before the tables are there. -/
theorem thrEnable_early {s : State} {m : Master} {v : Word} (hwrite : s.writesReg m Reg.THR_CTRL = true)
    (hready : s.bit Reg.THR_STATUS 0 = false) (hv : v.getLsbD 0 = true) : Ends (.thrEnable m v) s fun t =>
      t.bit Reg.THR_CTRL 0 = s.bit Reg.THR_CTRL 0 ∧ t.bit Reg.THR_ERR 0 = true ∧ OnlyCtl s t := by
  have hr : (!s.thrReady) = true := congrArg (!·) hready
  obtain ⟨hbit, honly, hregs⟩ := badw_sets (s.writeFields Reg.THR_CTRL (v &&& 0x80000000#32 ||| (s.reg Reg.THR_CTRL &&& 1#32)))
    (off := Reg.THR_CTRL) (e := Reg.THR_ERR) (by decide)
  refine ⟨(s.writeFields Reg.THR_CTRL (v &&& 0x80000000#32 ||| (s.reg Reg.THR_CTRL &&& 1#32))).badw Reg.THR_CTRL, ?_, ?_, hbit,
    OnlyCtl.trans (writeFields_onlyCtl s _ (err := Reg.THR_ERR) (by decide)) honly⟩
  · change execThrEnable m v s = _
    rw [execThrEnable, if_pos hwrite, State.writeThrCtrl, if_pos ⟨hv, hr⟩]
  · refine (congrArg (·.getLsbD 0) (hregs Reg.THR_CTRL (by decide))).trans ((enable_writeFields s _).trans ?_)
    simp [State.bit]

/-! ## The jobs of the Thresher (R459 to R465) -/

/-- A free engine takes the next job. -/
theorem thresherJob_starts {s : State} {τ e : Nat} {j : ThrJob} {turn : Bool} (he : e < 8) (honline : e ∉ s.thresher.offline)
    (hfree : s.thrOn e = none) (hready : s.thrReady = true) (hsafe : s.safe = false) (hnext : s.nextThrJob e = some (j, turn)) :
    Ends (.thresherJobStart τ e) s fun t => t = { s.advance τ with thresher := { s.thresher with
       jobs := s.thresher.jobs.map fun x => if x.id = j.id then { j with engine := some e, started := (s.advance τ).time } else x
       rr := if turn then j.plot else s.thresher.rr } } := by
  have hfree' : ((s.advance τ).thrOn e).isSome = false := congrArg Option.isSome hfree
  have hready' : (!(s.advance τ).thrReady) = false := congrArg (!·) hready
  have hnone : ¬(8 ≤ e ∨ e ∈ (s.advance τ).thresher.offline ∨ ((s.advance τ).thrOn e).isSome = true ∨
      (!(s.advance τ).thrReady) = true ∨ (s.advance τ).safe = true) := by
    rw [hfree', hready', show (s.advance τ).safe = false from hsafe]
    have : ¬ e ∈ (s.advance τ).thresher.offline := honline
    simp only [Bool.false_eq_true, or_false, not_or]
    exact ⟨by omega, this⟩
  have hnext' : (s.advance τ).nextThrJob e = some (j, turn) := hnext
  refine ⟨_, ?_, rfl⟩
  change execThresherJobStart τ e s = _
  unfold execThresherJobStart
  dsimp only
  rw [if_neg hnone, hnext']
  cases turn <;> rfl

section

variable {s : State} {τ e : Nat} {j : ThrJob} (hon : s.thrOn e = some j)

include hon

theorem compress_runs (mem : Bool) (hop : dOp j.bytes = 1) :
    exec (.compress τ e [] mem) s = .next ((s.advance τ).runCompress j e [] mem) := by
  have hon' : (s.advance τ).thrOn e = some j := hon
  change execCompress τ e [] mem s = _
  unfold execCompress
  dsimp only
  rw [hon']
  dsimp only
  rw [if_pos hop]

theorem decompress_runs (mem : Bool) (hop : dOp j.bytes = 2) :
    exec (.decompress τ e mem) s = .next ((s.advance τ).runDecompress j e mem) := by
  have hon' : (s.advance τ).thrOn e = some j := hon
  change execDecompress τ e mem s = _
  unfold execDecompress
  dsimp only
  rw [hon']
  dsimp only
  rw [if_pos hop]

theorem compress_cancelled {mem : Bool} (hop : dOp j.bytes = 1) (hc : j.cancel = true) :
    Ends (.compress τ e [] mem) s fun t => t = (s.advance τ).stopThrJob j e 0x0101 [] := by
  refine ⟨_, compress_runs hon mem hop, ?_⟩
  rw [State.runCompress, if_pos hc]
  rfl

/-- A job ends with its output at its destination and DONE. -/
theorem compress_done {mem : Bool} {src : List Byte} (hop : dOp j.bytes = 1) (hc : j.cancel = false)
    (hsrc : (s.advance τ).thrSource j mem = (src, false)) : Ends (.compress τ e [] mem) s fun t =>
      t = ((s.advance τ).engineWrite ((s.advance τ).thrDest j) (compressAll (dWrap j.bytes) (dMode j.bytes) [] src) false).endThrJob j e
        0 0 src.length (compressAll (dWrap j.bytes) (dMode j.bytes) [] src).length (checkOf (dWrap j.bytes) src) := by
  refine ⟨_, compress_runs hon mem hop, ?_⟩
  rw [State.runCompress, hc, hsrc]
  rfl

theorem decompress_cancelled {mem : Bool} (hop : dOp j.bytes = 2) (hc : j.cancel = true) :
    Ends (.decompress τ e mem) s fun t => t = (s.advance τ).stopThrJob j e 0x0101 [] := by
  refine ⟨_, decompress_runs hon mem hop, ?_⟩
  rw [State.runDecompress, if_pos hc]
  rfl

theorem decompress_done {mem : Bool} {src out : List Byte} {used : Nat} (hop : dOp j.bytes = 2) (hc : j.cancel = false)
    (hsrc : (s.advance τ).thrSource j mem = (src, false))
    (hall : decompressAll (dWrap j.bytes) (dDlen j.bytes) src = (out, used, .done)) : Ends (.decompress τ e mem) s fun t =>
      t = ((s.advance τ).engineWrite ((s.advance τ).thrDest j) out false).endThrJob j e 0 0 used out.length
        (checkOf (dWrap j.bytes) out) := by
  refine ⟨_, decompress_runs hon mem hop, ?_⟩
  rw [State.runDecompress, hc, hsrc]
  dsimp only
  rw [hall]
  rfl

end

/-- An engine with few errors stays online. -/
theorem engineCheck_stays {s : State} {e : Nat} (hv : lastSecond s.thresher.verify e s.time < s.fld Reg.THR_CFG 3 0)
    (hp : lastSecond s.thresher.parity e s.time < 2) : s.engineCheck e = s := by
  unfold State.engineCheck
  split
  · rfl
  · exact if_neg (by omega)

theorem engineCheck_jobs (s : State) (e : Nat) : (s.engineCheck e).thresher.jobs = s.thresher.jobs := by
  unfold State.engineCheck
  extract_lets v q
  split
  · rfl
  split
  · have hevent (y : State) : (y.errEvent Reg.THR_ERR 3 (Src.thresher e) 2 noPlot e).thresher = y.thresher :=
      jobFree_thresher.errEvent y _ _ _ _ (by decide) (.inl (by decide))
    have hjobs := congrArg Thresher.jobs (hevent (s.mapThresher fun h => { h with offline := h.offline ++ [e] }))
    exact hjobs
  · rfl

/-- A job that ends leaves the store. -/
theorem endThrJob_jobs (s : State) (j : ThrJob) (e st n used out check : Nat) :
    (s.endThrJob j e st n used out check).thresher.jobs = s.thresher.jobs.filter fun x => x.id ≠ j.id := by
  unfold State.endThrJob
  extract_lets left counted
  refine (engineCheck_jobs _ _).trans ((congrArg Thresher.jobs (jobFree_thresher.thrReport ..)).trans ?_)
  unfold counted
  split <;> rfl

/-- A job without a verify mismatch stores no block raw. -/
theorem thrPart_nil (b src : List Byte) (n m : Nat) : (thrPart b src [] n m).1 = 0 := by
  unfold thrPart
  split <;> rfl

/-- A job that stops on its way writes a part of its output and draws how much. -/
theorem writePart_nil (s : State) (j : ThrJob) (e : Nat) : (s.writePart j e []).1 =
    s.drawn.drawn.engineWrite (s.thrDest j) (thrPart j.bytes (s.thrSource j false).1 [] s.free s.drawn.free).2.2.1 false := by
  unfold State.writePart
  dsimp only
  rw [thrPart_nil]
  rfl

theorem writePart_thresher (s : State) (j : ThrJob) (e : Nat) : (s.writePart j e []).1.thresher = s.thresher := by
  rw [writePart_nil]
  exact jobFree_thresher.engineWrite ..

theorem writePart_time (s : State) (j : ThrJob) (e : Nat) : (s.writePart j e []).1.time = s.time := by
  rw [writePart_nil]
  exact jobFree_time.engineWrite ..

theorem writePart_reg (s : State) (j : ThrJob) (e : Nat) {o : Nat} (hg : o ∉ gleanRegs) (hm : o % 0x10000 ≠ 0x128) :
    (s.writePart j e []).1.reg o = s.reg o := by
  rw [writePart_nil]
  exact reg_engineWrite _ _ _ _ hg hm

theorem stopThrJob_jobs (s : State) (j : ThrJob) (e st : Nat) :
    (s.stopThrJob j e st []).thresher.jobs = s.thresher.jobs.filter fun x => x.id ≠ j.id := by
  unfold State.stopThrJob
  exact (endThrJob_jobs ..).trans (congrArg (fun h : Thresher => h.jobs.filter fun x => x.id ≠ j.id) (writePart_thresher ..))

/-- A parity error noted and logged (R461). -/
def State.parityNoted (s : State) (j : ThrJob) (e : Nat) : State :=
  (s.mapThresher fun h => { h with parity := h.parity ++ [(e, s.time)] }).errEvent Reg.THR_ERR 4 (Src.thresher e) 2 j.plot e

theorem thrParityStop_eq (s : State) (j : ThrJob) (e : Nat) : s.thrParityStop j e =
    if j.cancel then (s.parityNoted j e).stopThrJob j e 0x0101 []
    else if !j.stops.isEmpty then (s.parityNoted j e).stopThrJob j e 0x0402 []
    else ((((s.parityNoted j e).writePart j e []).1.chargeEngine j).setThrJob
      { j with engine := none, stops := j.stops ++ [e] }).engineCheck e := rfl

theorem parityNoted_thresher {s : State} (j : ThrJob) (e : Nat) (h : s.thresher.parity = []) :
    (s.parityNoted j e).thresher = { s.thresher with parity := [(e, s.time)] } := by
  have hevent (y : State) : (y.errEvent Reg.THR_ERR 4 (Src.thresher e) 2 j.plot e).thresher = y.thresher :=
    jobFree_thresher.errEvent y _ _ _ _ (by decide) (.inl (by decide))
  exact (hevent _).trans (congrArg (fun l => { s.thresher with parity := l ++ [(e, s.time)] }) h)

theorem parityNoted_cfg (s : State) (j : ThrJob) (e : Nat) : (s.parityNoted j e).reg Reg.THR_CFG = s.reg Reg.THR_CFG :=
  ((thresherFree_reg (not_reportReg (by decide) (by decide))).errEvent _ _ _ _ _ (by decide) (.inl (by decide)))

theorem parityNoted_bit (s : State) (j : ThrJob) (e : Nat) : (s.parityNoted j e).bit Reg.THR_ERR 4 = true :=
  bit_errEvent_set _ _ _ _ _ (by decide) (by decide)

section

variable {s : State} {τ e : Nat} {j : ThrJob} (hon : s.thrOn e = some j) (hc : j.cancel = false)

include hon

theorem thresherParity_runs : exec (.thresherParity τ e) s = .next ((s.advance τ).thrParityStop j e) := by
  have hon' : (s.advance τ).thrOn e = some j := hon
  change execThresherParity τ e s = _
  unfold execThresherParity
  dsimp only
  rw [hon']

include hc

/-- The second parity error ends the job with ENGINE. -/
theorem thresherParity_again (hstops : j.stops ≠ []) :
    Ends (.thresherParity τ e) s fun t => ∃ y : State, t = y.stopThrJob j e 0x0402 [] := by
  refine ⟨_, thresherParity_runs hon, ?_⟩
  have hne : (!j.stops.isEmpty) = true := by rw [Bool.not_eq_true', List.isEmpty_eq_false_iff]; exact hstops
  unfold State.thrParityStop
  rw [hc]
  dsimp only
  rw [if_neg Bool.false_ne_true, if_pos hne]
  exact ⟨_, rfl⟩

omit hon in
/-- A parity error that stops a running job for the first time. -/
theorem thrParityStop_first (hstops : j.stops = []) (hcfg : 0 < (s.parityNoted j e).fld Reg.THR_CFG 3 0)
    (hverify : s.thresher.verify = []) (hparity : s.thresher.parity = []) :
    s.thrParityStop j e = (((s.parityNoted j e).writePart j e []).1.chargeEngine j).setThrJob
      { j with engine := none, stops := [e] } := by
  have hemp : ¬(!j.stops.isEmpty) = true := by rw [hstops]; exact Bool.false_ne_true
  have hstore : ((s.parityNoted j e).writePart j e []).1.thresher = { s.thresher with parity := [(e, s.time)] } :=
    (writePart_thresher ..).trans (parityNoted_thresher j e hparity)
  have hfld : ((s.parityNoted j e).writePart j e []).1.fld Reg.THR_CFG 3 0 = (s.parityNoted j e).fld Reg.THR_CFG 3 0 :=
    congrArg (bits · 3 0) (writePart_reg _ _ _ (by decide) (by decide))
  rw [thrParityStop_eq, hc, if_neg Bool.false_ne_true, if_neg hemp, hstops]
  generalize ((s.parityNoted j e).writePart j e []).1 = y at hstore hfld ⊢
  have hv : y.thresher.verify = [] := (congrArg Thresher.verify hstore).trans hverify
  have hp : y.thresher.parity = [(e, s.time)] := congrArg Thresher.parity hstore
  have hnone : lastSecond y.thresher.verify e y.time = 0 := by rw [hv]; rfl
  have hone : lastSecond y.thresher.parity e y.time ≤ 1 := by rw [hp]; exact List.length_filter_le ..
  refine engineCheck_stays ?_ (Nat.lt_succ_of_le hone)
  exact lt_of_eq_of_lt hnone (lt_of_lt_of_eq hcfg hfld.symm)

/-- The first one sends it to another engine. -/
theorem thresherParity_first (hstops : j.stops = []) (hparity : s.thresher.parity = []) (hverify : s.thresher.verify = [])
    (hcfg : 0 < s.fld Reg.THR_CFG 3 0) : Ends (.thresherParity τ e) s fun t => t.thresher.jobs =
      (s.thresher.jobs.map fun x => if x.id = j.id then { j with engine := none, stops := [e] } else x) ∧
      t.thresher.parity = [(e, (s.advance τ).time)] ∧ t.thresher.offline = s.thresher.offline ∧ t.bit Reg.THR_ERR 4 = true := by
  have hcfg' : 0 < ((s.advance τ).parityNoted j e).fld Reg.THR_CFG 3 0 :=
    lt_of_lt_of_eq hcfg (congrArg (bits · 3 0) (parityNoted_cfg (s.advance τ) j e)).symm
  have hstore : (((s.advance τ).parityNoted j e).writePart j e []).1.thresher = { s.thresher with parity := [(e, (s.advance τ).time)] } :=
    (writePart_thresher ..).trans (parityNoted_thresher j e hparity)
  have hbit : (((s.advance τ).parityNoted j e).writePart j e []).1.bit Reg.THR_ERR 4 = true :=
    (congrArg (·.getLsbD 4) (writePart_reg _ _ _ (by decide) (by decide))).trans (parityNoted_bit ..)
  refine ⟨_, (thresherParity_runs hon).trans (congrArg Host.Outcome.next (thrParityStop_first hc hstops hcfg' hverify hparity)), ?_⟩
  generalize (((s.advance τ).parityNoted j e).writePart j e []).1 = y at hstore hbit ⊢
  have hjobs := congrArg Thresher.jobs hstore
  have hnoted := congrArg Thresher.parity hstore
  have honline := congrArg Thresher.offline hstore
  exact ⟨congrArg (List.map _) hjobs, hnoted, honline, hbit⟩

end

end Sys2Proof.Machine
end

section
/-! OBLIGATIONS. Jobs of the cipher block, and its locks (O45). -/

namespace Sys2Proof.Machine

open Sys2Proof Sys2Proof.Stated

/-! ## Submitting a job (R474) -/

/-- A charge of a key slot leaves the queues as they are. -/
theorem chargeSlot_jobs (s : State) (n : Nat) : (s.chargeSlot n).1.cipher.jobs = s.cipher.jobs := by
  have hmirror (s : State) : (s.mirrorKey n).cipher = s.cipher := mirrorKey_keeps (p := State.cipher) (fun _ _ => rfl) s n
  have hwarn (s : State) : ((s.setBit Reg.CPH_ERR 3 true).glean Src.vault 0 (detail 3 noPlot n)).cipher = s.cipher :=
    glean_keeps State.cipher (fun _ _ => rfl) (fun _ _ => rfl) (fun _ _ _ _ => rfl) _ _ _ _
  unfold State.chargeSlot
  split
  · rfl
  · extract_lets k' near charged mirrored
    have hmirrored : mirrored.cipher.jobs = s.cipher.jobs := by
      unfold mirrored
      split
      · have hkept := congrArg Cipher.jobs (hmirror charged)
        exact hkept
      · rfl
    split
    · exact (congrArg Cipher.jobs (hwarn mirrored)).trans hmirrored
    · exact hmirrored

section

variable {s : State} {m : Master} {a : Nat} (hwrite : s.writesReg m Reg.CPH_SUBMIT_HI = true)

include hwrite

theorem cphSubmit_runs : exec (.cphSubmit m a) s = .next (s.cphSubmitAt a) := by
  change execCphSubmit m a s = _
  rw [execCphSubmit, if_pos hwrite]

theorem cphSubmit_misaligned (ha : a % 128 ≠ 0 ∨ 2 ^ 46 ≤ a) : Ends (.cphSubmit m a) s fun t => t = s.badw Reg.CPH_SUBMIT_HI := by
  refine ⟨_, cphSubmit_runs hwrite, ?_⟩
  rw [State.cphSubmitAt, if_pos ha]

variable (halign : a % 128 = 0) (hlow : a < 2 ^ 46) (hen : s.bit Reg.CPH_CTRL 0 = true) (hsafe : s.safe = false)

include halign hlow hen hsafe

theorem cphSubmit_accepts : exec (.cphSubmit m a) s = .next (s.cphAccept a (cPlot (s.bytes a 128)) true none).1 := by
  have hns : (!s.safe) = true := by rw [hsafe]; rfl
  rw [cphSubmit_runs hwrite, State.cphSubmitAt, if_neg (by omega), if_pos ⟨hen, hns⟩]

variable (hok : s.agentStatus 29 a 128 = .ok)

include hok

/-- A job that passes the checks joins the queue of its unit. -/
theorem cphSubmit_joins (hpass : s.cphRefusal (s.bytes a 128) (cPlot (s.bytes a 128)) true none = none) :
    Ends (.cphSubmit m a) s fun t => ∃ j, t.cipher.jobs = s.cipher.jobs ++ [j] ∧ j.desc = a ∧ j.engine = cEngine (s.bytes a 128) ∧
      j.plot = cPlot (s.bytes a 128) ∧ j.atD = true ∧ j.bytes = s.bytes a 128 ∧ j.cancel = false ∧ j.furrow = none := by
  have hread : ¬ s.agentStatus cphStop a 128 ≠ .ok := not_not_intro hok
  refine ⟨_, cphSubmit_accepts hwrite halign hlow hen hsafe, ?_⟩
  unfold State.cphAccept
  extract_lets b running charged j
  rw [if_neg hread, hpass]
  dsimp only
  have hrunning : running.cipher.jobs = s.cipher.jobs := congrArg Cipher.jobs (jobFree_cipher.engineWrite ..)
  have hcharged : charged.cipher.jobs = s.cipher.jobs := by
    unfold charged
    split
    · exact (chargeSlot_jobs ..).trans hrunning
    · exact hrunning
  exact ⟨j, congrArg (· ++ [j]) hcharged, rfl, rfl, rfl, rfl, rfl, rfl, rfl⟩

/-- One that fails ends with the status of the first failing check. -/
theorem cphSubmit_refuses {st : Nat} (hfail : s.cphRefusal (s.bytes a 128) (cPlot (s.bytes a 128)) true none = some st) :
    Ends (.cphSubmit m a) s fun t =>
      t = s.cphReport a (s.bytes a 128) (cPlot (s.bytes a 128)) none st 0 ∧ t.cipher = s.cipher := by
  have hread : ¬ s.agentStatus cphStop a 128 ≠ .ok := not_not_intro hok
  refine ⟨s.cphReport a (s.bytes a 128) (cPlot (s.bytes a 128)) none st 0, ?_, rfl, jobFree_cipher.cphReport ..⟩
  rw [cphSubmit_accepts hwrite halign hlow hen hsafe]
  unfold State.cphAccept
  dsimp only
  rw [if_neg hread, hfail]

end

/-! ## Locks (R470 to R472) -/

/-- An engine that is being given back is free once it holds no job. -/
theorem settleLocks_gone {s : State} {e : Nat} (hleaving : e ∈ s.cipher.leaving)
    (hidle : s.cipher.jobs.all (fun j => decide (j.engine ≠ e)) = true) : s.settleLocks.lockOf e = none := by
  have hnone : (!(s.cipher.jobs.any fun j => j.engine = e)) = true := by
    simpa [List.any_eq_false] using hidle
  refine List.lookup_eq_none_iff.2 fun x hx => ?_
  obtain ⟨-, hstays⟩ := List.mem_filter.1 hx
  rw [Bool.not_eq_true', ← Bool.not_eq_true, List.contains_iff_mem, List.mem_filter] at hstays
  rw [bne_iff_ne]
  rintro rfl
  exact hstays ⟨hleaving, hnone⟩

section

variable {s : State} {m : Master} {e : Nat} (he : e < 16) (hwrite : s.writesReg m (Reg.CPH_LOCK + 4 * e) = true)

include he hwrite

theorem lockAcquire_runs : exec (.lockAcquire m e) s = .next (s.lockByD e) := by
  change execLockAcquire m e s = _
  rw [execLockAcquire, if_pos ⟨he, hwrite⟩]

theorem lockRelease_runs : exec (.lockRelease m e) s = .next (s.unlockByD e) := by
  change execLockRelease m e s = _
  rw [execLockRelease, if_pos ⟨he, hwrite⟩]

/-- Engines 0 to 3 cannot be locked. -/
theorem lock_fixed (hfixed : e < 4) : (Ends (.lockAcquire m e) s fun t => t = s.badw Reg.CPH_LOCK) ∧
    Ends (.lockRelease m e) s fun t => t = s.badw Reg.CPH_LOCK :=
  ⟨⟨_, lockAcquire_runs he hwrite, if_pos hfixed⟩, ⟨_, lockRelease_runs he hwrite, if_pos hfixed⟩⟩

variable (h4 : 4 ≤ e)

include h4

/-- A free engine is taken, and none is given back. -/
theorem lock_free (hfree : s.lockOf e = none) : (Ends (.lockAcquire m e) s fun t => t.lockOf e = some .firmware ∧
    (∀ k, k ≠ e → t.lockOf k = s.lockOf k) ∧ t = { s with cipher := t.cipher }) ∧
    Ends (.lockRelease m e) s fun t => t = s.badw Reg.CPH_LOCK := by
  refine ⟨⟨s.mapCipher fun c => { c with locks := sput c.locks e .firmware }, ?_, lookup_sput_same .., fun k hk => lookup_sput_other _ _ hk,
    rfl⟩, ⟨_, lockRelease_runs he hwrite, ?_⟩⟩
  · rw [lockAcquire_runs he hwrite, State.lockByD, if_neg (by omega), State.acquireLock, hfree]
    rfl
  · rw [State.unlockByD, if_neg (by omega), State.releaseLock, hfree]

/-- An engine that is held is not taken. -/
theorem lock_held {o : EngLock} (hheld : s.lockOf e = some o) : Ends (.lockAcquire m e) s fun t => t = s := by
  refine ⟨_, lockAcquire_runs he hwrite, ?_⟩
  rw [State.lockByD, if_neg (by omega), State.acquireLock, hheld]
  rfl

/-- Firmware does not give back an engine that a plot holds. -/
theorem lock_ofPlot {p q : Nat} (hheld : s.lockOf e = some (.plot p q)) : Ends (.lockRelease m e) s fun t => t = s.badw Reg.CPH_LOCK := by
  refine ⟨_, lockRelease_runs he hwrite, ?_⟩
  rw [State.unlockByD, if_neg (by omega), State.releaseLock, hheld]
  rfl

/-- An engine without jobs is given back at once. -/
theorem lock_released (hheld : s.lockOf e = some .firmware) (hidle : s.cipher.jobs.all (fun j => decide (j.engine ≠ e)) = true) :
    Ends (.lockRelease m e) s fun t => t.lockOf e = none ∧ t.cipher.jobs = s.cipher.jobs ∧ t = { s with cipher := t.cipher } := by
  refine ⟨(s.mapCipher fun c => { c with leaving := if e ∈ c.leaving then c.leaving else c.leaving ++ [e] }).settleLocks, ?_, ?_, rfl, rfl⟩
  · rw [lockRelease_runs he hwrite, State.unlockByD, if_neg (by omega), State.releaseLock, hheld]
    rfl
  · refine settleLocks_gone ?_ hidle
    change e ∈ if e ∈ s.cipher.leaving then s.cipher.leaving else s.cipher.leaving ++ [e]
    split
    · assumption
    · exact List.mem_append_right _ (List.mem_singleton_self e)

end

/-! ## The operations (R468 to R476) -/

/-- The row of an operation runs the oldest job of its unit. -/
theorem cipherLaw_of {c : Nat → CphFail → Instr} {op : Nat} {f g : CphFn} (hfg : f = g)
    (hrow : ∀ s i e, exec (c i e) s = .next (s.runCph i op e g)) (haad : isGcm op = decide (op = 1 ∨ op = 2)) : cipherLaw c op f := by
  subst hfg
  intro s i j hjob hop hrun hstarted
  have hgo : ¬(cOp j.bytes ≠ op ∨ (s.cphOn j.engine).map (fun x => x.id) ≠ some i ∨ (!j.started) = true) := by
    rw [hstarted]
    simp [hop, hrun]
  have hrun' (e : CphFail) : exec (c i e) s = .next (s.runCph i op e f) := hrow s i e
  refine ⟨fun hc e => ⟨_, hrun' e, ?_⟩, fun hc => ⟨⟨_, hrun' .engine, ?_⟩, ⟨_, hrun' .memory, ?_⟩⟩, fun src aad hc hsrc haad' => ⟨_, hrun' .none, ?_⟩⟩
  · unfold State.runCph
    rw [hjob]
    dsimp only
    rw [if_neg hgo, hc, if_pos rfl]
    rfl
  · unfold State.runCph
    rw [hjob]
    dsimp only
    rw [if_neg hgo, hc, if_neg Bool.false_ne_true]
    rfl
  · unfold State.runCph
    rw [hjob]
    dsimp only
    rw [if_neg hgo, hc, if_neg Bool.false_ne_true]
    rfl
  · have hlen : (if isGcm op = true then cAadLen j.bytes else 0) = if op = 1 ∨ op = 2 then cAadLen j.bytes else 0 := by
      rw [haad]
      simp only [decide_eq_true_eq]
    unfold State.runCph
    rw [hjob]
    dsimp only
    rw [if_neg hgo, hc, if_neg Bool.false_ne_true, hsrc, hlen, haad']

/-- UNWRAP of a blob. -/
theorem unwrapOf_eq (s : State) (b : List Byte) (plot : Nat) (key src : List Byte) : s.unwrapOf b plot key src =
    match keyUnwrap (kdf key (ascii "kek") (beBytes 2 s.devId ++ beBytes 2 plot) 256) src with
      | none => cphEnd 0x0301
      | some p => match slotOfPlain p with
        | none => cphEnd 0x0502
        | some k => { status := 0, out := [], fill := some (cOutSlot b, k) } := by
  unfold State.unwrapOf State.unwrapBlob State.kekOf
  cases keyUnwrap (kdf key (ascii "kek") (beBytes 2 s.devId ++ beBytes 2 plot) 256) src with
  | none => rfl
  | some p =>
    dsimp only
    cases slotOfPlain p <;> rfl

/-- The operations of the engines. -/
theorem cipherLaws_engines :
    cipherLaw .gcmEnc 0x01 (fun _ b key aad src _ => gives ((gcmEnc key (slice b 48 12) aad src).1 ++ (gcmEnc key (slice b 48 12) aad src).2)) ∧
    cipherLaw .gcmDec 0x02 (fun _ b key aad src _ =>
      match gcmDec key (slice b 48 12) aad (src.take (cLen b)) (src.drop (cLen b)) with
      | some p => gives p
      | none => { status := 0x0301, out := zeros (cLen b), fill := none }) ∧
    cipherLaw .xtsEnc 0x03 (fun _ b key _ src _ => gives (xts true key (leAt b 48 16) (leAt b 64 4) src)) ∧
    cipherLaw .xtsDec 0x04 (fun _ b key _ src _ => gives (xts false key (leAt b 48 16) (leAt b 64 4) src)) ∧
    cipherLaw .cmacGen 0x05 (fun _ _ key _ src _ => gives (cmac key src)) ∧
    cipherLaw .cmacVer 0x06 (fun _ b key _ src _ =>
      if cmac key (src.take (cLen b)) = src.drop (cLen b) then gives [] else cphEnd 0x0301) ∧
    cipherLaw .sha384 0x07 (fun _ _ _ _ src _ => gives (Machine.sha384 src)) ∧
    cipherLaw .sha512 0x08 (fun _ _ _ _ src _ => gives (Machine.sha512 src)) ∧
    cipherLaw .hmac384 0x09 (fun _ _ key _ src _ => gives (Machine.hmac384 key src)) ∧
    cipherLaw .hmac512 0x0A (fun _ _ key _ src _ => gives (Machine.hmac512 key src)) := by
  refine ⟨cipherLaw_of rfl (fun _ _ _ => rfl) rfl, cipherLaw_of ?_ (fun _ _ _ => rfl) rfl, cipherLaw_of rfl (fun _ _ _ => rfl) rfl,
    cipherLaw_of rfl (fun _ _ _ => rfl) rfl, cipherLaw_of rfl (fun _ _ _ => rfl) rfl, cipherLaw_of rfl (fun _ _ _ => rfl) rfl,
    cipherLaw_of rfl (fun _ _ _ => rfl) rfl, cipherLaw_of rfl (fun _ _ _ => rfl) rfl, cipherLaw_of rfl (fun _ _ _ => rfl) rfl,
    cipherLaw_of rfl (fun _ _ _ => rfl) rfl⟩
  funext _ b key aad src _
  cases h : gcmDec key (slice b 48 12) aad (src.take (cLen b)) (src.drop (cLen b)) <;> simp only [gcmDecOf, h] <;> rfl

/-- The operations of the vault and of the helper. -/
theorem cipherLaws_vault :
    cipherLaw .derive 0x10 (fun s b key _ _ _ => s.deriveOf b key) ∧
    cipherLaw .unwrap 0x11 (fun s b key _ src plot =>
      match keyUnwrap (kdf key (ascii "kek") (beBytes 2 s.devId ++ beBytes 2 plot) 256) src with
      | none => cphEnd 0x0301
      | some p => match slotOfPlain p with
        | none => cphEnd 0x0502
        | some k => { status := 0, out := [], fill := some (cOutSlot b, k) }) ∧
    cipherLaw .sign 0x18 (fun _ _ key _ src _ => gives (ecSign (beNat key) src)) ∧
    cipherLaw .verify 0x19 (fun _ _ _ _ src _ =>
      if ecVerify (slice src 0 48) (slice src 48 96) (slice src 144 96) then gives [] else cphEnd 0x0301) ∧
    cipherLaw .pubkey 0x1A (fun _ _ key _ _ _ => gives (ecPublic (beNat key))) := by
  refine ⟨cipherLaw_of rfl (fun _ _ _ => rfl) rfl, cipherLaw_of ?_ (fun _ _ _ => rfl) rfl, cipherLaw_of rfl (fun _ _ _ => rfl) rfl,
    cipherLaw_of rfl (fun _ _ _ => rfl) rfl, cipherLaw_of rfl (fun _ _ _ => rfl) rfl⟩
  funext s b key _ src plot
  exact (unwrapOf_eq s b plot key src).symm

/-- A job that writes at its end only, or that has not begun, stops without a trace. -/
theorem stopped_idle {s : State} {j : CphJob} (f : CphFn) (h : streams (cOp j.bytes) = false ∨ j.started = false) : stopped s j f = s := by
  refine if_pos ?_
  rcases h with h | h
  · exact .inl (by rw [h]; rfl)
  · exact .inr (by rw [h]; rfl)

/-! ## The end of a job -/

/-- The start of the next job adds none to the queues. -/
theorem ids_startNext (s : State) (e : Nat) : (s.startNext e).cipher.jobs.map (·.id) = s.cipher.jobs.map (·.id) := by
  unfold State.startNext
  split
  · split
    · rfl
    · rename_i j _ _
      change (s.cipher.jobs.map fun x => if x.id = j.id then { x with started := true } else x).map (·.id) = _
      rw [List.map_map]
      refine List.map_congr_left fun x _ => ?_
      by_cases hx : x.id = j.id
      · simp [hx]
      · simp [hx]
  · rfl

theorem startNext_slots (s : State) (e : Nat) : (s.startNext e).cipher.slots = s.cipher.slots := by
  unfold State.startNext
  split
  · split <;> rfl
  · rfl

/-- A job that ends leaves its unit. -/
theorem endCphJob_ends (s : State) {j : CphJob} (r : CphResult) :
    (∀ x ∈ (s.endCphJob j r).cipher.jobs, x.id ≠ j.id) ∧ (∀ n k, r.fill = some (n, k) → (s.endCphJob j r).keySlot n = some k) ∧
      (r.fill = none → (s.endCphJob j r).cipher.slots = s.cipher.slots) := by
  unfold State.endCphJob
  extract_lets written filled n
  have hwritten : written.cipher = s.cipher := jobFree_cipher.engineWrite ..
  have hreport (y : State) (st : Nat) : (y.cphReport j.desc j.bytes j.plot j.furrow st n).cipher = y.cipher := jobFree_cipher.cphReport ..
  have hslots (y : State) : (y.dropCphJob j).cipher.slots = y.cipher.slots := startNext_slots ..
  refine ⟨fun x hx => ?_, fun k v hfill => ?_, fun hfill => ?_⟩
  · rw [hreport] at hx
    have hid : x.id ∈ (filled.cipher.jobs.filter fun x => x.id ≠ j.id).map (·.id) := by
      have := ids_startNext (filled.mapCipher fun c => { c with jobs := c.jobs.filter fun x => x.id ≠ j.id }) j.engine
      exact this ▸ List.mem_map_of_mem hx
    obtain ⟨y, hy, hyx⟩ := List.mem_map.1 hid
    obtain ⟨-, hne⟩ := List.mem_filter.1 hy
    rw [← hyx]
    exact of_decide_eq_true hne
  · have hfilled : filled = written.fillSlot k v := by
      unfold filled
      rw [hfill]
    rw [State.keySlot, hreport, hslots, hfilled]
    exact lookup_sput_same ..
  · have hfilled : filled = written := by
      unfold filled
      rw [hfill]
    rw [hreport, hslots, hfilled, hwritten]

/-! ## The obligation -/

/-- Settles O45: the checks of a submission and their refusals, the start, the run and the end of a job of the Thresher, the queues
and locks of the cipher block, and the operations by one lemma about the oldest job of a unit. -/
theorem engineJobs : Obligations.EngineJobs := by
  unfold Obligations.EngineJobs
  refine ⟨⟨fun s m a hw => ⟨thrSubmit_misaligned hw, thrSubmit_disabled hw, fun ha hlow hen hsafe hok =>
      ⟨thrSubmit_full hw ha hlow hen hsafe hok, thrSubmit_joins hw ha hlow hen hsafe hok,
        fun st hfull hfail => thrSubmit_refuses hw ha hlow hen hsafe hok hfull hfail⟩⟩,
    fun s m v hw => ⟨thrEnable_ready hw, thrEnable_early hw⟩,
    fun s τ e j turn => thresherJob_starts,
    fun s τ e j mem => ?_,
    fun s j e st n used out check _ => ⟨endThrJob_jobs .., stopThrJob_jobs ..⟩⟩,
    fun s m a hw => ⟨cphSubmit_misaligned hw, fun ha hlow hen hsafe hok =>
      ⟨cphSubmit_joins hw ha hlow hen hsafe hok, fun st hfail => cphSubmit_refuses hw ha hlow hen hsafe hok hfail⟩⟩,
    fun s m e he hw => ⟨lock_fixed he hw, lock_free he hw, fun o h4 => lock_held he hw h4, lock_released he hw,
      fun p q h4 => lock_ofPlot he hw h4⟩,
    ?_, fun s j f => stopped_idle f, fun s j r _ => endCphJob_ends s r⟩
  · intro n hon
    exact ⟨fun hop => ⟨compress_cancelled hon hop, fun src => compress_done hon hop⟩,
      fun hop => ⟨decompress_cancelled hon hop, fun src out used => decompress_done hon hop⟩,
      fun hc hstops hparity hverify hcfg => thresherParity_first hon hc hstops hparity hverify hcfg, thresherParity_again hon⟩
  · obtain ⟨h1, h2, h3, h4, h5, h6, h7, h8, h9, h10⟩ := cipherLaws_engines
    exact ⟨h1, h2, h3, h4, h5, h6, h7, h8, h9, h10, cipherLaws_vault⟩

end Sys2Proof.Machine
end

section
/-! SUPPORT. What a seal leaves alone, from the markers of the pairs to the release of the completions that waited for it (R20,
R22, R58 to R66), for any observation of the state. -/

namespace Sys2Proof.Machine

open Sys2Proof Sys2Proof.Stated

/-- The registers that a seal, a vote or a rollback may change. -/
def sealRegs : List Nat :=
  [Reg.TCK_STATUS, Reg.TCK_ERR, Reg.TCK_SEALED_LO, Reg.TCK_SEALED_LO + 4, Reg.TCK_SEALTIME, Reg.TCK_SEALMAX, Reg.JNL_HEAD_LO,
    Reg.JNL_HEAD_LO + 4, Reg.JNL_ERR, Reg.JNL_CNT_SHEAF, Reg.FRW_CNT_REDRIVE, Reg.WFT_ERR] ++
    (List.range 12).map fun n => Reg.JNL_CHAIN + 4 * n

/-- What a seal does not decide. -/
structure SealFree {α : Type} (p : State → α) : Prop extends SafeFree p, StoreFree p where
  ticks   : ∀ (s : State) f, p (s.mapTick f) = p s
  journal : ∀ (s : State) f, p (s.mapJournal f) = p s
  sower   : ∀ (s : State) f, p (s.mapSower f) = p s
  plots   : ∀ (s : State) f, p (s.mapPlots f) = p s
  twin    : ∀ (s : State) f, p (s.mapTwin f) = p s
  furrow  : ∀ (s : State) f, p (s.mapFurrow f) = p s
  weft    : ∀ (s : State) f, p (s.mapWeft f) = p s
  drawn   : ∀ s : State, p s.drawn = p s
  sealed  : ∀ (s : State) o v, o ∈ sealRegs → p (s.setReg o v) = p s

/-- A step that is taken or not. -/
theorem keeps_ite {α : Type} {p : State → α} {a : α} {c : Prop} [Decidable c] {x y : State} (hx : p x = a) (hy : p y = a) :
    p (if c then x else y) = a := by
  split
  exacts [hx, hy]

/-- A fold keeps what each of its steps keeps. -/
theorem foldl_keeps_of_mem {α β : Type} {p : State → α} {f : State → β → State} {l : List β} (h : ∀ s, ∀ x ∈ l, p (f s x) = p s)
    (s : State) : p (l.foldl f s) = p s := by
  induction l generalizing s with
  | nil => rfl
  | cons x l ih =>
    exact (ih (fun s y hy => h s y (List.mem_cons_of_mem _ hy)) _).trans (h s x List.mem_cons_self)

namespace SealFree

variable {α : Type} {p : State → α} (h : SealFree p)

include h

theorem put (s : State) {o : Nat} (v : Word) (ho : o ∈ sealRegs) : p (s.setReg o v) = p s := h.sealed s o v ho

theorem put64 (s : State) {o : Nat} (v : Nat) (ho : o ∈ sealRegs) (ho4 : o + 4 ∈ sealRegs) : p (s.setReg64 o v) = p s :=
  (h.put _ _ ho4).trans (h.put _ _ ho)

theorem putBit (s : State) {o : Nat} (b : Nat) (v : Bool) (ho : o ∈ sealRegs) : p (s.setBit o b v) = p s := h.put s _ ho

theorem counted (s : State) {o : Nat} (n : Nat) (ho : o ∈ sealRegs) : p (s.count o n) = p s := h.put s _ ho

/-! ## Sheaves in the journal area (R124 to R127) -/

theorem writeArea (s : State) (off : Nat) (b : List Byte) : p (s.writeArea off b) = p s := by
  unfold State.writeArea State.writeCircle
  exact keeps_ite (h.agentStore _ _ _) ((h.agentStore _ _ _).trans (h.agentStore _ _ _))

theorem layBodies (s : State) (off : Nat) (l : List Undo) : p (s.layBodies off l) = p s := by
  fun_induction State.layBodies s off l with
  | case1 => exact h.put64 _ _ (by decide) (by decide)
  | case2 => exact (h.put64 _ _ (by decide) (by decide)).trans (h.writeArea _ _ _)
  | case3 _ _ _ _ _ ih => exact ih.trans (h.writeArea _ _ _)

theorem placeSheaf (s : State) (x : Sheaf) : p (s.placeSheaf x) = p s :=
  (h.layBodies _ _ _).trans ((h.writeArea _ _ _).trans (h.journal _ _))

theorem cutOff (s : State) (z : Seal) : p (s.cutOff z) = p s := by
  unfold State.cutOff
  extract_lets z' g sampled begun room
  have hbegun : p begun = p s := (h.ticks _ _).trans (h.almanac _ _)
  exact keeps_ite hbegun ((h.placeSheaf _ _).trans hbegun)

/-! ## Votes and rollback (R58 to R62) -/

theorem weftSend (s : State) (dst kind : Nat) (b : List Byte) : p (s.weftSend dst kind b) = p s := by
  unfold State.weftSend
  refine keeps_ite rfl ?_
  split
  · exact h.emit ..
  · exact h.putBit s 4 true (by decide)

theorem voteCovers (s : State) (l : List VoteDue) : p (s.voteCovers l).1 = p s := by
  unfold State.voteCovers
  refine foldl_preserves (P := fun r : State × List Byte => p r.1 = p s) (fun r v hr => ?_) l rfl
  split
  · exact (h.drawn _).trans hr
  · exact hr

theorem sendVotes (s : State) (epoch : Nat) (done : Bool) : p (s.sendVotes epoch done) = p s :=
  foldl_keeps p (fun _ _ => (h.weftSend _ _ _ _).trans (h.voteCovers _ _)) _ _

theorem rollBack (s : State) (first next : Nat) (cause : RbCause) : p (s.rollBack first next cause) = p s := by
  unfold State.rollBack
  extract_lets stopped flagged again closed twin ended voted
  have htwin : p twin = p s := (h.twin _ _).trans ((h.ticks _ _).trans ((h.putBit _ _ _ (by decide)).trans
    ((h.putBit _ _ _ (by decide)).trans (h.putBit _ _ _ (by decide)))))
  have hended : p ended = p twin := foldl_keeps p (fun _ _ => keeps_ite (h.unit _ _ _) rfl) _ _
  have hvoted : p voted = p ended := foldl_keeps p (fun _ _ => h.sendVotes _ _ _) _ _
  have hall : p voted = p s := hvoted.trans (hended.trans htwin)
  exact keeps_ite ((h.event _ _ _ _).trans hall) hall

theorem failSeal (s : State) (cause : RbCause) : p (s.failSeal cause) = p s := by
  unfold State.failSeal
  split
  · rfl
  · exact keeps_ite (h.event _ _ _ _) (h.rollBack _ _ _ _)

/-! ## The commands that give back a namespace (R514) -/

theorem tryIssue (s : State) (c : FrwCmd) : p (s.tryIssue c) = p s := by
  have hissue (n : Nat) : p (s.issueCmd c n) = p s := by
    unfold State.issueCmd
    extract_lets sent counted
    have hcounted : p counted = p s := keeps_ite (h.furrow _ _) ((h.counted _ _ (by decide)).trans (h.furrow _ _))
    refine keeps_ite (Eq.trans ?_ hcounted) ((h.weftSend _ _ _ _).trans hcounted)
    unfold State.furrowFrame
    split
    · exact h.sendFrame ..
    · rfl
  unfold State.tryIssue
  refine keeps_ite rfl ?_
  split
  · exact hissue _
  · rfl

theorem arbCmd (s : State) (op reg what : Nat) (args : List Nat) : p (s.arbCmd op reg what args) = p s := by
  unfold State.arbCmd State.sendStorage
  exact keeps_ite rfl ((h.tryIssue _ _).trans (h.furrow _ _))

theorem issueRelease (s : State) : p s.issueRelease = p s := by
  refine (foldl_keeps p (fun _ _ => h.arbCmd _ _ _ _ _) _ _).trans ?_
  unfold State.newOp
  dsimp only
  exact h.furrow s _

/-! ## The end of a seal (R22, R63, R65) -/

theorem indexSheaf (s : State) (k : SheafKind) (x : Sheaf) : p (s.indexSheaf k x) = p s := by
  refine foldl_keeps p (fun s r => ?_) _ _
  unfold State.indexInsert
  extract_lets bucket w warned e add base added
  have hwarned : p warned = p s := by
    unfold warned
    split
    · exact keeps_ite (h.errEvent _ _ _ _ _ _ fun s v => h.put s v (by decide)) rfl
    · rfl
  exact (h.agentStore _ _ _).trans ((h.journal _ _).trans hwarned)

theorem sealSheaf (s : State) (x : Sheaf) : p (s.sealSheaf x) = p s := by
  have hchain (s : State) (b : List Byte) : p (s.setChain b) = p s := by
    refine foldl_keeps_of_mem (fun s n hn => h.put s _ ?_) _
    simp only [sealRegs, List.mem_append, List.mem_map]
    exact .inr ⟨n, hn, rfl⟩
  refine (h.indexSheaf _ _ _).trans ((h.journal _ _).trans ((h.almanac _ _).trans ?_))
  exact (h.counted _ _ (by decide)).trans ((hchain _ _).trans (h.journal _ _))

theorem handCompletion (s : State) (c : Completion) : p (s.handCompletion c) = p s := by
  unfold State.handCompletion
  split
  · rfl
  · exact (h.sower _ _).trans ((h.plots _ _).trans (h.almanac _ _))

theorem sealDone (s : State) (z : Seal) : p (s.sealDone z) = p s := by
  unfold State.sealDone
  extract_lets dur s1 ns s2 s3 s4 s5 s6 s7 s8 s9 s10
  have hcount : p (s3.countSeal z dur) = p s3 := by
    unfold State.countSeal
    exact keeps_ite ((h.putBit _ _ _ (by decide)).trans (h.ticks _ _)) (h.ticks _ _)
  have h4 : p s4 = p s := (h.almanac _ _).trans (hcount.trans
    ((h.put _ _ (by decide)).trans ((h.put _ _ (by decide)).trans (h.put64 _ _ (by decide) (by decide)))))
  have h5 : p s5 = p s := (foldl_keeps p (fun _ _ => keeps_ite (h.cluster _ _ _) rfl) _ _).trans h4
  have h6 : p s6 = p s := by
    unfold s6
    split
    · exact (h.sealSheaf _ _).trans h5
    · exact h5
  have h9 : p s9 = p s := (h.ticks _ _).trans ((h.weft _ _).trans ((h.journal _ _).trans h6))
  have h10 : p s10 = p s := keeps_ite h9 ((h.mirrorSend _ _ _).trans h9)
  have hback (y : State) : p (y.handBackSealed z.epoch) = p y := by
    unfold State.handBackSealed
    split
    · exact keeps_ite ((h.issueRelease _).trans (h.twin _ _)) rfl
    · rfl
  exact (hback _).trans ((h.handAll (fun _ _ => h.handCompletion _ _) _ _).trans h10)

theorem trySeal (s : State) : p s.trySeal = p s := by
  unfold State.trySeal
  split
  · rfl
  · refine keeps_ite rfl (keeps_ite (h.failSeal _ _) (keeps_ite rfl ?_))
    extract_lets due voted
    have hvoted : p voted = p s := keeps_ite ((h.sendVotes _ _ _).trans (h.ticks _ _)) rfl
    exact keeps_ite hvoted (keeps_ite ((h.sealDone _ _).trans hvoted) ((h.failSeal _ _).trans hvoted))

/-- The marker of a pair decides nothing else, even where it is the last one and the epoch seals. -/
theorem markerIn (s : State) (n : Nat) : p (s.markerIn n) = p s := by
  have htry (s : State) : p s.tryCutOff = p s := by
    unfold State.tryCutOff
    split
    · exact keeps_ite ((h.trySeal _).trans (h.cutOff _ _)) rfl
    · rfl
  exact (htry _).trans (h.ticks _ _)

end SealFree

theorem sealFree_mram : SealFree State.mram where
  gleaner _ _ := rfl
  almanac _ _ := rfl
  eth _ _ := rfl
  cipher _ _ := rfl
  emit _ _ := rfl
  regs _ _ _ _ := rfl
  watch _ _ := rfl
  gen _ _ := rfl
  power _ := rfl
  status _ _ := rfl
  cause _ _ := rfl
  tick _ _ := rfl
  cluster _ _ _ := rfl
  unit _ _ _ := rfl
  mem _ _ := rfl
  ticks _ _ := rfl
  journal _ _ := rfl
  sower _ _ := rfl
  plots _ _ := rfl
  twin _ _ := rfl
  furrow _ _ := rfl
  weft _ _ := rfl
  drawn _ := rfl
  sealed _ _ _ _ := rfl

theorem sealFree_reg {o : Nat} (hsafe : o ∉ safeRegs) (hseal : o ∉ sealRegs) : SealFree (fun s => s.reg o) where
  toSafeFree := safeFree_reg hsafe
  cluster _ _ _ := rfl
  unit _ _ _ := rfl
  mem _ _ := rfl
  ticks _ _ := rfl
  journal _ _ := rfl
  sower _ _ := rfl
  plots _ _ := rfl
  twin _ _ := rfl
  furrow _ _ := rfl
  weft _ _ := rfl
  drawn _ := rfl
  sealed s _ v ho := reg_setReg_other s v fun he => hseal (he ▸ ho)

end Sys2Proof.Machine
end

section
/-! OBLIGATIONS. The boot by its stages (O56). -/

namespace Sys2Proof.Machine

open Sys2Proof Sys2Proof.Stated

/-! ## Fields of SWD_BOOTSTAT -/

theorem fld_setFld_same (s : State) (off : Nat) {hi lo : Nat} (v : Nat) (hle : lo ≤ hi) (hhi : hi < 32) :
    (s.setFld off hi lo v).fld off hi lo = v % 2 ^ (hi + 1 - lo) := by
  rw [State.fld, reg_setFld_same, bits_setBits _ _ hle hhi]

theorem fld_setFld_outside (s : State) (off : Nat) {hi lo hi' lo' : Nat} (v : Nat) (hle : lo ≤ hi) (hhi : hi < 32) (h : hi' < lo ∨ hi < lo') :
    (s.setFld off hi lo v).fld off hi' lo' = s.fld off hi' lo' := by
  rw [State.fld, reg_setFld_same, bits_setBits_out _ _ hle hhi h, State.fld]

theorem fld_atStage (s : State) {n : Nat} (hn : n < 16) : (s.atStage n).fld Reg.SWD_BOOTSTAT 31 28 = n :=
  (fld_setFld_same _ _ _ (by decide) (by decide)).trans (Nat.mod_eq_of_lt hn)

theorem atStage_fuses (s : State) (n : Nat) : (s.atStage n).fuses = s.fuses := setFld_fuses ..

theorem atStage_mram (s : State) (n : Nat) : (s.atStage n).mram = s.mram := setFld_mram ..

theorem atStage_boot (s : State) (n : Nat) : (s.atStage n).boot = s.boot := setFld_boot ..

/-! ## Images (R544 to R546) -/

/-- An image is judged by its fields, by MINVER and by its keys. -/
theorem checkImage_of_fuses {s t : State} (h : t.fuses = s.fuses) (kind : Nat) (b : List Byte) : t.checkImage kind b = s.checkImage kind b := by
  unfold State.checkImage State.imgSigned State.ownerHash State.minVer
  rw [h]

/-- What an accepted image shows. -/
theorem checkImage_accepts {s : State} {kind : Nat} {b : List Byte} (h : s.checkImage kind b = 0) :
    leAt b 0 4 = imgMagic kind ∧ s.minVer kind ≤ imgVersion b / 2 ^ 24 ∧ s.imgSigned kind b = 0 := by
  unfold State.checkImage at h
  by_cases hformat : imgFormat kind b = true
  · by_cases hver : imgVersion b / 2 ^ 24 < s.minVer kind
    · rw [hformat, if_neg (by decide), if_pos hver] at h
      exact absurd h (by decide)
    · rw [hformat, if_neg (by decide), if_neg hver] at h
      refine ⟨?_, Nat.le_of_not_lt hver, h⟩
      simp only [imgFormat, Bool.and_eq_true, beq_iff_eq] at hformat
      exact hformat.1.1.1.1.1.2
  · rw [Bool.not_eq_true] at hformat
    rw [hformat, if_pos (by decide)] at h
    exact absurd h (by decide)

theorem checkImage_lt (s : State) (kind : Nat) (b : List Byte) : s.checkImage kind b < 16 := by
  have hsigned : s.imgSigned kind b < 16 := by
    unfold State.imgSigned
    extract_lets sig by_ key
    split_ifs <;> decide
  unfold State.checkImage
  split_ifs
  exacts [by decide, by decide, hsigned]

section

variable {s : State} {kind : Nat} {images : List (Nat × List Byte)} {a : List Byte} (hcopy : images.lookup (2 * kind) = some a)

include hcopy

theorem pickImage_first (hok : s.checkImage kind a = 0) : s.pickImage kind images = (s, .ok a) := by
  unfold State.pickImage
  extract_lets judge first
  have hfirst : first = .ok a := by
    unfold first
    rw [hcopy]
    exact if_pos hok
  rw [hfirst]

variable (hbad : s.checkImage kind a ≠ 0)

include hbad

theorem pickImage_judged : ((images.lookup (2 * kind)).map fun b =>
    let e := s.checkImage kind b
    if e = 0 then Except.ok b else .error e).getD (.error bootBadFormat) = (.error (s.checkImage kind a) : Except Nat (List Byte)) := by
  rw [hcopy]
  exact if_neg hbad

theorem pickImage_second {b : List Byte} (hsecond : images.lookup (2 * kind + 1) = some b) (hok : s.checkImage kind b = 0) :
    s.pickImage kind images = (s.fallBack kind, .ok b) := by
  unfold State.pickImage
  dsimp only
  rw [pickImage_judged hcopy hbad, hsecond]
  dsimp only
  rw [if_pos hok]

theorem pickImage_none (hsecond : images.lookup (2 * kind + 1) = none) : s.pickImage kind images = (s, .error (s.checkImage kind a)) := by
  unfold State.pickImage
  dsimp only
  rw [pickImage_judged hcopy hbad, hsecond]

end

/-! ## The record, and a stage that fails (R550, R552) -/

/-- A boot record changes MRAM, the number of the boot and the attestation key. -/
theorem writeRecord_reg (s : State) (failed : Bool) {o : Nat} (hsend : o ∉ sendRegs) (hlo : o ≠ Reg.SWD_SEQ_LO) (hhi : o ≠ Reg.SWD_SEQ_LO + 4) :
    (s.writeRecord failed).reg o = s.reg o := by
  have hsendFree : SendFree (fun s : State => s.reg o) :=
    { gleaner := fun _ _ => rfl, almanac := fun _ _ => rfl, eth := fun _ _ => rfl, cipher := fun _ _ => rfl, emit := fun _ _ => rfl
      regs := fun s _ v hm => reg_setReg_other s v fun he => hsend (he ▸ hm) }
  have hnumber (y : State) : y.numberBoot.reg o = y.reg o := (reg_setReg_other _ _ hhi).trans (reg_setReg_other _ _ hlo)
  unfold State.writeRecord
  extract_lets keyed numbered n body charged r hash written
  have hkeyed : keyed.reg o = s.reg o := keeps_ite (p := fun s : State => s.reg o) rfl rfl
  have hnumbered : numbered.reg o = s.reg o := keeps_ite (p := fun s : State => s.reg o) ((hnumber _).trans hkeyed) hkeyed
  have hctl : (written.mapBoot fun b => { b with rhash := hash }).ctl = charged.ctl := (mapBoot_ctl ..).trans (mapMram_ctl ..)
  exact (reg_of_ctl hctl o).trans ((hsendFree.chargeSlot numbered 0).trans hnumbered)

theorem safeFree_boot : SafeFree State.boot :=
  safeFree_of (fun _ _ => rfl) (fun _ _ => rfl) (fun _ _ => rfl) (fun _ _ => rfl) (fun _ _ => rfl) (fun _ _ => rfl) fun _ => rfl

/-- A stage that fails stops the boot in device safe state with its STAGE and ERR. -/
theorem bootFail_stops (s : State) {stage err : Nat} (hstage : stage < 16) (herr : err < 16) (ok : Bool) :
    (s.bootFail stage err ok).boot.stage = none ∧ (s.bootFail stage err ok).safe = true ∧
      (s.bootFail stage err ok).fld Reg.SWD_BOOTSTAT 31 28 = stage ∧ (s.bootFail stage err ok).fld Reg.SWD_BOOTSTAT 27 24 = err := by
  unfold State.bootFail
  extract_lets noted recorded
  have hnoted : noted.reg Reg.SWD_BOOTSTAT = ((s.atStage stage).setFld Reg.SWD_BOOTSTAT 27 24 err).reg Reg.SWD_BOOTSTAT :=
    reg_setBit_other _ _ _ (by decide)
  have hrecorded : recorded.reg Reg.SWD_BOOTSTAT = noted.reg Reg.SWD_BOOTSTAT :=
    keeps_ite (p := fun s : State => s.reg Reg.SWD_BOOTSTAT) (writeRecord_reg _ _ (by decide) (by decide) (by decide)) rfl
  have hevent (y : State) : (y.event Src.boot 6 (detail 1 noPlot 0)).reg Reg.SWD_BOOTSTAT = y.reg Reg.SWD_BOOTSTAT :=
    (safeFree_reg (by decide)).event ..
  have hreg := (hevent (recorded.mapBoot fun b => { b with stage := none })).trans (hrecorded.trans hnoted)
  refine ⟨?_, safe_event .., ?_, ?_⟩
  · have hboot := congrArg Boot.stage (safeFree_boot.event (recorded.mapBoot fun b => { b with stage := none }) Src.boot 6 (detail 1 noPlot 0))
    exact hboot
  · refine (congrArg (bits · 31 28) hreg).trans ?_
    exact (fld_setFld_outside _ _ _ (by decide) (by decide) (by decide)).trans (fld_atStage s hstage)
  · refine (congrArg (bits · 27 24) hreg).trans ?_
    exact (fld_setFld_same _ _ _ (by decide) (by decide)).trans (Nat.mod_eq_of_lt herr)

/-- STAGE and ERR of a stage that fails. -/
def State.failNoted (s : State) (stage err : Nat) : State :=
  ((s.atStage stage).setFld Reg.SWD_BOOTSTAT 27 24 err).setBit Reg.SWD_ERR 1 true

/-- Where MRAM takes no record, a stage that fails leaves it as it is. -/
theorem bootFail_keeps (s : State) (stage err : Nat) :
    (s.bootFail stage err false).boot.running = s.boot.running ∧ (s.bootFail stage err false).mram = s.mram := by
  have hfail : s.bootFail stage err false =
      ((s.failNoted stage err).mapBoot fun b => { b with stage := none }).event Src.boot 6 (detail 1 noPlot 0) := rfl
  have hevent (y : State) : ((y.mapBoot fun b => { b with stage := none }).event Src.boot 6 (detail 1 noPlot 0)).boot.running = y.boot.running ∧
      ((y.mapBoot fun b => { b with stage := none }).event Src.boot 6 (detail 1 noPlot 0)).mram = y.mram := by
    have hboot := congrArg Boot.running (safeFree_boot.event (y.mapBoot fun b => { b with stage := none }) Src.boot 6 (detail 1 noPlot 0))
    have hmram := safeFree_mram.event (y.mapBoot fun b => { b with stage := none }) Src.boot 6 (detail 1 noPlot 0)
    exact ⟨hboot, hmram⟩
  obtain ⟨hrunning, hmram⟩ := hevent (s.failNoted stage err)
  have hnoted : (s.failNoted stage err).boot = s.boot := (setBit_boot ..).trans ((setFld_boot ..).trans (atStage_boot ..))
  rw [hfail, hrunning, hmram, hnoted]
  exact ⟨rfl, (setBit_mram ..).trans ((setFld_mram ..).trans (atStage_mram ..))⟩

/-- Entries whose key passes a test stay in a map. -/
theorem lookup_filter_of_key {β : Type} (f : Nat → Bool) (l : List (Nat × β)) {k : Nat} (hk : f k = true) :
    (l.filter fun x => f x.1).lookup k = l.lookup k := by
  induction l with
  | nil => rfl
  | cons e l ih =>
    obtain ⟨j, w⟩ := e
    by_cases hj : k = j
    · subst hj
      simp [hk]
    · by_cases hf : f j = true
      · simp [hf, List.lookup_cons, beq_eq_false_iff_ne.2 hj, ih]
      · simp [hf, List.lookup_cons, beq_eq_false_iff_ne.2 hj, ih]

theorem sendFree_boot : SendFree State.boot :=
  ⟨fun _ _ => rfl, fun _ _ => rfl, fun _ _ => rfl, fun _ _ => rfl, fun _ _ => rfl, fun _ _ _ _ => rfl⟩

/-- The record that is written is the newest of the ledger. -/
theorem writeRecord_ledger (s : State) (failed : Bool) (hseq : s.boot.seq ≠ 0) :
    (s.writeRecord failed).mram.headSeq = s.boot.seq ∧ ((s.writeRecord failed).mram.ledger.lookup s.boot.seq).isSome = true := by
  unfold State.writeRecord
  extract_lets keyed numbered n body charged r hash written
  have hkeyed : keyed.boot = s.boot := keeps_ite (p := State.boot) rfl rfl
  have hnumbered : numbered.boot = s.boot := (congrArg State.boot (if_neg (hkeyed ▸ hseq))).trans hkeyed
  have hn : n = s.boot.seq := congrArg Boot.seq hnumbered
  refine ⟨hn, ?_⟩
  have hlookup : (((sput charged.mram.ledger n r).filter fun x => x.1 = 1 ∨ n < x.1 + 8192).lookup n).isSome = true := by
    rw [lookup_filter_of_key (fun k => decide (k = 1 ∨ n < k + 8192)) _ (decide_eq_true (.inr (by omega))), lookup_sput_same]
    rfl
  rw [← hn]
  exact hlookup

/-! ## The stages -/

theorem reg_measureDevice (y : State) (o : Nat) : y.measureDevice.reg o = y.reg o := by
  unfold State.measureDevice
  exact keeps_ite (p := fun s : State => s.reg o) rfl rfl

theorem meas_of_boot {s t : State} (h : t.boot = s.boot) (n : Nat) : t.meas n = s.meas n := by
  rw [State.meas, h, State.meas]

theorem fallBack_boot (s : State) (kind : Nat) : (s.fallBack kind).boot = s.boot := (setBit_boot ..).trans (setBit_boot ..)

/-- Firmware that is accepted is measured, and runs. -/
theorem firmware_accepted (y : State) (b : List Byte) : (((y.accepted imgFirmware b).stewardRuns).thenStage 4).boot.stage = some 4 ∧
    (((y.accepted imgFirmware b).stewardRuns).thenStage 4).meas 1 = sha384 (y.meas 1 ++ imgDigest b) ∧
    (((y.accepted imgFirmware b).stewardRuns).thenStage 4).ctl = y.ctl :=
  ⟨rfl, meas_extendMeas .., rfl⟩

theorem bootFirmware_takes {s z : State} {i : StageInput} {b : List Byte} (h : (s.atStage 1).pickImage imgFirmware i.images = (z, .ok b)) :
    s.bootFirmware i = ((z.accepted imgFirmware b).stewardRuns).thenStage 4 := by
  unfold State.bootFirmware
  dsimp only
  rw [h]

theorem bootFirmware_fails {s z : State} {i : StageInput} {e : Nat} (h : (s.atStage 1).pickImage imgFirmware i.images = (z, .error e)) :
    s.bootFirmware i = z.bootFail 1 e i.mramOk := by
  unfold State.bootFirmware
  dsimp only
  rw [h]

/-! ### The pairs (R375, R376, R382) -/

theorem pairstat_inj {p q : Nat} (h : pairReg Reg.CLS_PAIRSTAT p = pairReg Reg.CLS_PAIRSTAT q) : p = q := by
  simp only [pairReg] at h
  omega

/-- The status of a pair is no matter of a seal. -/
theorem sealFree_pairstat {p : Nat} (hp : p < 96) : SealFree (fun s => s.reg (pairReg Reg.CLS_PAIRSTAT p)) :=
  sealFree_reg ((by decide +kernel : ∀ p < 96, pairReg Reg.CLS_PAIRSTAT p ∉ safeRegs) p hp)
    ((by decide +kernel : ∀ p < 96, pairReg Reg.CLS_PAIRSTAT p ∉ sealRegs) p hp)

theorem pairstat_ne_sowPair {p q : Nat} (hp : p < 96) (hq : q < 96) : pairReg Reg.CLS_PAIRSTAT p ≠ Reg.SOW_PAIR + 4 * q := by
  simp only [pairReg, Reg.CLS_PAIRSTAT, Reg.SOW_PAIR]
  omega

/-- A retirement writes the status of its pair. -/
theorem setRetired_pairstat {p q : Nat} (hp : p < 96) (hq : q < 96) (s : State) (cause : Nat) :
    (s.setRetired p cause).reg (pairReg Reg.CLS_PAIRSTAT q) = if q = p then
      setBits (setBits (s.reg (pairReg Reg.CLS_PAIRSTAT p)) 3 0 roleRetired) 11 8 cause else s.reg (pairReg Reg.CLS_PAIRSTAT q) := by
  refine ((sealFree_pairstat hq).markerIn _ p).trans ((reg_setReg_other _ _ (pairstat_ne_sowPair hq hp)).trans ?_)
  split
  next h => rw [h, reg_setFld_same, State.setRole, reg_setFld_same]
  next h =>
    have hne : pairReg Reg.CLS_PAIRSTAT q ≠ pairReg Reg.CLS_PAIRSTAT p := fun he => h (pairstat_inj he)
    rw [reg_setFld_other _ _ _ _ hne, State.setRole, reg_setFld_other _ _ _ _ hne]

theorem setRetired_mram (s : State) (p cause : Nat) : (s.setRetired p cause).mram = s.mram := by
  refine (sealFree_mram.markerIn _ p).trans ?_
  rw [setReg_mram, setFld_mram, State.setRole, setFld_mram]

/-- The status of a pair whose comparator has been tested; one that failed carries its group. -/
def State.comparatorTested (s : State) (p : Nat) (failed : Option Nat) : State :=
  match failed with
  | some g => ((s.setBit (pairReg Reg.CLS_PAIRSTAT p) 22 true).setBit (pairReg Reg.CLS_PAIRSTAT p) 23 true).setFld
      (pairReg Reg.CLS_PAIRSTAT p) 29 24 (g % 64)
  | none => s.setBit (pairReg Reg.CLS_PAIRSTAT p) 22 true

theorem comparatorTested_mram (s : State) (p : Nat) (failed : Option Nat) : (s.comparatorTested p failed).mram = s.mram := by
  cases failed with
  | some g => exact (setFld_mram ..).trans ((setBit_mram ..).trans (setBit_mram ..))
  | none => exact setBit_mram ..

theorem comparatorTested_other (s : State) {p o : Nat} (failed : Option Nat) (h : o ≠ pairReg Reg.CLS_PAIRSTAT p) :
    (s.comparatorTested p failed).reg o = s.reg o := by
  cases failed with
  | some g => exact (reg_setFld_other _ _ _ _ h).trans ((reg_setBit_other _ _ _ h).trans (reg_setBit_other _ _ _ h))
  | none => exact reg_setBit_other _ _ _ h

theorem testPair_fails {bad : List (Nat × Nat)} {p g : Nat} (h : bad.lookup p = some g) (s : State) :
    s.testPair bad p = ((s.comparatorTested p (some g)).setRetired p 1).event p 3 (detail noKind noPlot 0) := by
  unfold State.testPair
  dsimp only
  rw [h]
  rfl

theorem testPair_passes {bad : List (Nat × Nat)} {p : Nat} (h : bad.lookup p = none) (s : State) :
    s.testPair bad p = (s.comparatorTested p none).passedRole p := by
  unfold State.testPair
  dsimp only
  rw [h]
  rfl

theorem reg_setRole_other (s : State) {p o : Nat} (r : Nat) (h : o ≠ pairReg Reg.CLS_PAIRSTAT p) : (s.setRole p r).reg o = s.reg o :=
  reg_setFld_other _ _ _ _ h

/-- The role that a pair takes is no matter of another. -/
theorem passedRole_other {p q : Nat} (h : q ≠ p) (s : State) : (s.passedRole p).role q = s.role q ∧
    (s.passedRole p).mram.retired.lookup q = s.mram.retired.lookup q := by
  have hne : pairReg Reg.CLS_PAIRSTAT q ≠ pairReg Reg.CLS_PAIRSTAT p := fun he => h (pairstat_inj he)
  unfold State.passedRole
  split
  · have hmram : (s.setRole p roleSpare).mram = s.mram := setFld_mram ..
    refine ⟨congrArg (bits · 3 0) (reg_setRole_other s roleSpare hne), ?_⟩
    exact (congrArg (fun m : Mram => (sdel m.retired p).lookup q) hmram).trans (lookup_sdel_other _ h)
  · exact ⟨congrArg (bits · 3 0) (reg_setRole_other s _ hne), congrArg (fun m : Mram => m.retired.lookup q) (setFld_mram ..)⟩

/-- The test of a pair is no matter of another. -/
theorem testPair_other {p q : Nat} (hp : p < 96) (hq : q < 96) (h : q ≠ p) (bad : List (Nat × Nat)) (s : State) :
    (s.testPair bad p).role q = s.role q ∧ (s.testPair bad p).mram.retired.lookup q = s.mram.retired.lookup q := by
  have hne : pairReg Reg.CLS_PAIRSTAT q ≠ pairReg Reg.CLS_PAIRSTAT p := fun he => h (pairstat_inj he)
  cases hbad : bad.lookup p with
  | some g =>
    rw [testPair_fails hbad]
    have hreg : (((s.comparatorTested p (some g)).setRetired p 1).event p 3 (detail noKind noPlot 0)).reg (pairReg Reg.CLS_PAIRSTAT q) =
        s.reg (pairReg Reg.CLS_PAIRSTAT q) := by
      refine ((sealFree_pairstat hq).event _ _ _ _).trans ((setRetired_pairstat hp hq _ _).trans ?_)
      rw [if_neg h]
      exact comparatorTested_other _ _ hne
    have hmram : (((s.comparatorTested p (some g)).setRetired p 1).event p 3 (detail noKind noPlot 0)).mram = s.mram :=
      (sealFree_mram.event _ _ _ _).trans ((setRetired_mram _ _ _).trans (comparatorTested_mram _ _ _))
    exact ⟨congrArg (bits · 3 0) hreg, congrArg (fun m : Mram => m.retired.lookup q) hmram⟩
  | none =>
    rw [testPair_passes hbad]
    obtain ⟨hrole, hretired⟩ := passedRole_other h (s.comparatorTested p none)
    exact ⟨hrole.trans (congrArg (bits · 3 0) (comparatorTested_other _ _ hne)),
      hretired.trans (congrArg (fun m : Mram => m.retired.lookup q) (comparatorTested_mram _ _ _))⟩

/-- A pair whose comparator fails is retired. -/
theorem testPair_retires {p : Nat} (hp : p < 96) {bad : List (Nat × Nat)} (h : bad.lookup p ≠ none) (s : State) :
    (s.testPair bad p).role p = roleRetired := by
  obtain ⟨g, hg⟩ := Option.ne_none_iff_exists'.1 h
  rw [testPair_fails hg, State.role, State.fld]
  have hreg := ((sealFree_pairstat hp).event ((s.comparatorTested p (some g)).setRetired p 1) p 3 (detail noKind noPlot 0)).trans
    (setRetired_pairstat hp hp (s.comparatorTested p (some g)) 1)
  rw [hreg, if_pos rfl, bits_setBits_out _ _ (by decide) (by decide) (by decide), bits_setBits _ _ (by decide) (by decide)]
  rfl

theorem role_setRole (s : State) (p : Nat) {r : Nat} (hr : r < 16) : (s.setRole p r).role p = r :=
  (fld_setFld_same _ _ _ (by decide) (by decide)).trans (Nat.mod_eq_of_lt hr)

/-- A pair that passes its test and was not retired takes its role by its place in the cluster. -/
theorem testPair_places {p : Nat} {bad : List (Nat × Nat)} (h : bad.lookup p = none) {s : State} (hr : s.mram.retired.lookup p = none) :
    (s.testPair bad p).role p = if p % 8 = 7 then roleSpare else roleActive := by
  have hnone : ¬((s.comparatorTested p none).mram.retired.lookup p).isSome = true := by
    rw [comparatorTested_mram, hr]
    exact Bool.false_ne_true
  rw [testPair_passes h, State.passedRole, if_neg hnone]
  exact role_setRole _ _ (by split <;> decide)

/-- The tests of all pairs settle the role of each by its own test. -/
theorem role_testPairs {p r : Nat} {bad : List (Nat × Nat)} {old : Option Nat}
    (htest : ∀ s : State, s.mram.retired.lookup p = old → (s.testPair bad p).role p = r) (l : List Nat) (hl : ∀ q ∈ l, q < 96) (hnd : l.Nodup)
    (hp : p ∈ l) (s : State) (hs : s.mram.retired.lookup p = old) : (l.foldl (fun s q => s.testPair bad q) s).role p = r := by
  induction l generalizing s with
  | nil => exact absurd hp List.not_mem_nil
  | cons q l ih =>
    obtain ⟨hq, hl'⟩ := List.forall_mem_cons.1 hl
    obtain ⟨hql, hnd'⟩ := List.nodup_cons.1 hnd
    have hp96 := hl p hp
    by_cases hpq : p = q
    · subst hpq
      have hkeep : (l.foldl (fun s q => s.testPair bad q) (s.testPair bad p)).role p = (s.testPair bad p).role p :=
        foldl_keeps_of_mem (p := fun s : State => s.role p)
          (fun s x hx => (testPair_other (hl' x hx) hp96 (fun he => hql (he ▸ hx)) bad s).1) _
      exact hkeep.trans (htest s hs)
    · obtain ⟨-, hretired⟩ := testPair_other hq hp96 hpq bad s
      exact ih hl' hnd' ((List.mem_cons.1 hp).resolve_left hpq) _ (hretired.trans hs)

/-! ### Memory, plots and the record (R549, R552) -/

theorem trainChannel_fuses (s : State) (n : Nat) (w : Word) : (s.trainChannel n w).fuses = s.fuses := by
  unfold State.trainChannel
  extract_lets trained
  exact keeps_ite (p := State.fuses) rfl (keeps_ite (p := State.fuses) (setBit_fuses ..) rfl)

theorem zeroDevice_fuses (s : State) : s.zeroDevice.fuses = s.fuses := rfl

theorem stage_thenStage (s : State) (n : Nat) : (s.thenStage n).boot.stage = some n := rfl

/-- The stage after memory is that of the lifecycle. -/
theorem bootMemory_stage (s : State) (i : StageInput) :
    (s.bootMemory i).boot.stage = some (if s.fuses.lifecycle = 1 ∨ s.fuses.lifecycle = 2 then 8 else 9) := by
  unfold State.bootMemory
  extract_lets trained gated powered zeroed
  have htrained : trained.fuses = s.fuses :=
    (foldl_keeps State.fuses (fun s (c : Nat × Word) => trainChannel_fuses s c.1 c.2) _ _).trans (atStage_fuses ..)
  have hgated : gated.fuses = trained.fuses := foldl_keeps State.fuses (fun s m => setBit_fuses ..) _ _
  have hpowered : powered.fuses = s.fuses := (mapPower_fuses gated _).trans (hgated.trans htrained)
  have hzeroed : zeroed.fuses = s.fuses := by
    unfold zeroed
    split
    · exact (zeroDevice_fuses powered).trans hpowered
    · exact hpowered
  rw [← hzeroed]
  exact stage_thenStage ..

/-- What the plot of the firmware leaves alone. -/
theorem installHeadland_keeps (s : State) : s.installHeadland.ctl = s.ctl ∧ s.installHeadland.boot = s.boot ∧ s.installHeadland.mram = s.mram := by
  have hadd (y : State) : (y.addQpair 0 0 3 64 0xFFFF).ctl = y.ctl ∧ (y.addQpair 0 0 3 64 0xFFFF).boot = y.boot ∧
      (y.addQpair 0 0 3 64 0xFFFF).mram = y.mram := by
    unfold State.addQpair
    split
    · simp only [mapPlots_ctl, mapPlots_boot, mapPlots_mram, drawn_ctl, drawn_boot, drawn_mram, and_self]
    · exact ⟨rfl, rfl, rfl⟩
  unfold State.installHeadland
  split
  · exact ⟨rfl, rfl, rfl⟩
  · exact hadd _

section

variable {s : State} {i : StageInput}

/-- A boot that stands does not move. -/
theorem bootStage_idle (h : s.held = true ∨ s.safe = true ∨ s.evral.stewHalt = true ∨ s.boot.stage = none) :
    Ends (.bootStage i) s fun t => t = s := by
  refine ⟨s, ?_, rfl⟩
  change execBootStage i s = _
  unfold execBootStage
  refine congrArg Host.Outcome.next ?_
  by_cases hstop : s.held = true ∨ s.safe = true ∨ s.evral.stewHalt = true
  · exact if_pos hstop
  · have hnone : s.boot.stage = none := by
      rcases h with h | h | h | h
      exacts [absurd (.inl h) hstop, absurd (.inr (.inl h)) hstop, absurd (.inr (.inr h)) hstop, h]
    rw [if_neg hstop, hnone]

variable (hheld : s.held = false) (hsafe : s.safe = false) (hhalt : s.evral.stewHalt = false)

include hheld hsafe hhalt

theorem bootStage_runs {n : Nat} (hn : s.boot.stage = some n) : exec (.bootStage i) s = .next (s.gleanReady.bootStage n i) := by
  change execBootStage i s = _
  unfold execBootStage
  have hgo : ¬(s.held = true ∨ s.safe = true ∨ s.evral.stewHalt = true) := by simp [hheld, hsafe, hhalt]
  rw [if_neg hgo, hn]

/-! ### The ROM (R548, R551) -/

theorem boot_rom (hstage : s.boot.stage = some 1) :
    ((∀ c ∈ i.badCmp, c.1 ≠ 96) → Ends (.bootStage i) s fun t => t.boot.stage = some 2 ∧ t.fld Reg.SWD_BOOTSTAT 31 28 = 0) ∧
      ((∃ c ∈ i.badCmp, c.1 = 96) → Ends (.bootStage i) s fun t => t.boot.stage = none ∧ t.safe = true ∧
        t.fld Reg.SWD_BOOTSTAT 31 28 = 0 ∧ t.fld Reg.SWD_BOOTSTAT 27 24 = 0) := by
  have hrun := bootStage_runs (i := i) hheld hsafe hhalt hstage
  refine ⟨fun hgood => ⟨((s.gleanReady.atStage 0).measureDevice).thenStage 2, ?_, rfl, ?_⟩,
    fun hbad => ⟨((s.gleanReady.atStage 0).measureDevice).bootFail 0 0 i.mramOk, ?_, bootFail_stops _ (by decide) (by decide) _⟩⟩
  · rw [hrun]
    refine congrArg Host.Outcome.next (if_neg ?_)
    rw [List.any_eq_true]
    rintro ⟨c, hc, hlogic⟩
    exact hgood c hc (of_decide_eq_true hlogic)
  · exact (congrArg (bits · 31 28) (reg_measureDevice _ _)).trans (fld_atStage _ (by decide))
  · rw [hrun]
    refine congrArg Host.Outcome.next (if_pos ?_)
    obtain ⟨c, hc, hlogic⟩ := hbad
    exact List.any_eq_true.2 ⟨c, hc, decide_eq_true hlogic⟩

theorem boot_keys (hstage : s.boot.stage = some 2) : Ends (.bootStage i) s fun t =>
    t.boot.stage = some 3 ∧ t.boot.seq = s.mram.headSeq + 1 ∧ (t.keySlot 0).isSome = true ∧
      (s.mram.ledgerAgrees = false → t.bit Reg.SWD_ERR 3 = true ∧ t.boot.ledgerBad = true) := by
  have hkey (y : State) : (y.deriveAttest.keySlot 0).isSome = true := congrArg Option.isSome (lookup_sput_same ..)
  refine ⟨_, bootStage_runs hheld hsafe hhalt hstage, ?_⟩
  cases hagrees : s.mram.ledgerAgrees with
  | true =>
    have hkeys : s.gleanReady.bootStage 2 i = s.gleanReady.deriveAttest.numberBoot.thenStage 3 :=
      congrArg (fun y : State => y.thenStage 3) (if_pos hagrees)
    rw [hkeys]
    exact ⟨rfl, rfl, hkey _, fun h => absurd h (by decide)⟩
  | false =>
    have hkeys : s.gleanReady.bootStage 2 i = ((s.gleanReady.deriveAttest.numberBoot.setBit Reg.SWD_ERR 3 true).mapBoot fun b =>
        { b with ledgerBad := true }).thenStage 3 :=
      congrArg (fun y : State => y.thenStage 3) (if_neg (ne_true_of_eq_false hagrees))
    rw [hkeys]
    exact ⟨rfl, rfl, hkey _, fun _ => ⟨bit_setBit_same _ true (by decide), rfl⟩⟩

/-- The ROM takes the firmware: copy A before copy B. -/
theorem boot_firmware (hstage : s.boot.stage = some 3) :
    (∀ a, i.images.lookup 0 = some a → s.checkImage 0 a = 0 → Ends (.bootStage i) s fun t =>
      t.boot.stage = some 4 ∧ t.meas 1 = sha384 (s.meas 1 ++ imgDigest a) ∧ t.fld Reg.SWD_BOOTSTAT 31 28 = 1) ∧
    (∀ a b, i.images.lookup 0 = some a → i.images.lookup 1 = some b → s.checkImage 0 a ≠ 0 → s.checkImage 0 b = 0 →
      Ends (.bootStage i) s fun t => t.boot.stage = some 4 ∧ t.meas 1 = sha384 (s.meas 1 ++ imgDigest b) ∧ t.bit Reg.SWD_ERR 2 = true) ∧
    (∀ a, i.images.lookup 0 = some a → i.images.lookup 1 = none → s.checkImage 0 a ≠ 0 → Ends (.bootStage i) s fun t =>
      t.boot.stage = none ∧ t.safe = true ∧ t.fld Reg.SWD_BOOTSTAT 31 28 = 1 ∧ t.fld Reg.SWD_BOOTSTAT 27 24 = s.checkImage 0 a) := by
  have hrun := bootStage_runs (i := i) hheld hsafe hhalt hstage
  have hcheck (b : List Byte) : (s.gleanReady.atStage 1).checkImage imgFirmware b = s.checkImage 0 b :=
    checkImage_of_fuses (atStage_fuses ..) imgFirmware b
  have hmeasured : (s.gleanReady.atStage 1).meas 1 = s.meas 1 := meas_of_boot (atStage_boot ..) 1
  refine ⟨fun a ha hok => ?_, fun a b ha hb hbad hok => ?_, fun a ha hb hbad => ?_⟩
  · obtain ⟨hnext, hmeas, hctl⟩ := firmware_accepted (s.gleanReady.atStage 1) a
    refine ⟨_, hrun.trans (congrArg _ (bootFirmware_takes (pickImage_first ha ((hcheck a).trans hok)))), hnext, ?_,
      (fld_of_ctl hctl _ _ _).trans (fld_atStage s.gleanReady (by decide))⟩
    rw [hmeas, hmeasured]
  · obtain ⟨hnext, hmeas, hctl⟩ := firmware_accepted ((s.gleanReady.atStage 1).fallBack imgFirmware) b
    refine ⟨_, hrun.trans (congrArg _ (bootFirmware_takes (pickImage_second ha ((hcheck a).trans_ne hbad) hb ((hcheck b).trans hok)))),
      hnext, ?_, ?_⟩
    · rw [hmeas, meas_of_boot (fallBack_boot ..) 1, hmeasured]
    · exact (bit_of_ctl hctl _ _).trans ((bit_setBit_otherReg _ _ _ _ (by decide)).trans (bit_setBit_same _ true (by decide)))
  · refine ⟨_, hrun.trans (congrArg _ (bootFirmware_fails (pickImage_none ha ((hcheck a).trans_ne hbad) hb))), ?_⟩
    rw [hcheck]
    exact bootFail_stops _ (by decide) (checkImage_lt ..) _

/-- Every pair is tested. -/
theorem boot_pairs (hstage : s.boot.stage = some 4) : Ends (.bootStage i) s fun t =>
    t.boot.stage = some 5 ∧ ∀ p, p < 96 →
      (i.badCmp.lookup p = none → s.mram.retired.lookup p = none → t.role p = if p % 8 = 7 then roleSpare else roleActive) ∧
      (i.badCmp.lookup p ≠ none → t.role p = roleRetired) := by
  refine ⟨_, bootStage_runs hheld hsafe hhalt hstage, rfl, fun p hp => ?_⟩
  have hall (r : Nat) (old : Option Nat) (htest : ∀ s : State, s.mram.retired.lookup p = old → (s.testPair i.badCmp p).role p = r)
      (hold : s.mram.retired.lookup p = old) : (s.gleanReady.bootPairs i).role p = r :=
    role_testPairs htest allPairs (fun q hq => List.mem_range.1 hq) List.nodup_range (List.mem_range.2 hp) s.gleanReady hold
  exact ⟨fun hgood => hall _ none fun y hy => testPair_places hgood hy, fun hbad => hall _ _ (fun y _ => testPair_retires hp hbad y) rfl⟩

/-- A microcode image that is refused. -/
theorem boot_microcode (hstage : s.boot.stage = some 5) {a : List Byte} (ha : i.images.lookup 2 = some a) (hb : i.images.lookup 3 = none)
    (hbad : s.checkImage 1 a ≠ 0) : Ends (.bootStage i) s fun t => t.boot.stage = none ∧ t.safe = true ∧ t.fld Reg.SWD_BOOTSTAT 31 28 = 2 ∧
      t.fld Reg.SWD_BOOTSTAT 27 24 = s.checkImage 1 a := by
  have hcheck : (s.gleanReady.atStage 2).checkImage imgMicrocode a = s.checkImage 1 a := checkImage_of_fuses (atStage_fuses ..) imgMicrocode a
  have hfails : s.gleanReady.bootMicrocode i = (s.gleanReady.atStage 2).bootFail 2 (s.checkImage 1 a) i.mramOk := by
    unfold State.bootMicrocode
    dsimp only
    rw [pickImage_none (kind := imgMicrocode) ha (hcheck.trans_ne hbad) hb, hcheck]
  exact ⟨_, (bootStage_runs hheld hsafe hhalt hstage).trans (congrArg _ hfails), bootFail_stops _ (by decide) (checkImage_lt ..) _⟩

/-- A configuration that is refused. -/
theorem boot_config (hstage : s.boot.stage = some 6) (hcycle : s.fuses.lifecycle ≠ 0) {a : List Byte} (ha : i.images.lookup 6 = some a)
    (hb : i.images.lookup 7 = none) (hbad : s.checkImage 3 a ≠ 0) : Ends (.bootStage i) s fun t => t.boot.stage = none ∧ t.safe = true ∧
      t.fld Reg.SWD_BOOTSTAT 31 28 = 4 ∧ t.fld Reg.SWD_BOOTSTAT 27 24 = s.checkImage 3 a := by
  have hcheck : (s.gleanReady.atStage 4).checkImage imgConfig a = s.checkImage 3 a := checkImage_of_fuses (atStage_fuses ..) imgConfig a
  have hblank : ¬(s.gleanReady.atStage 4).fuses.lifecycle = 0 := by rw [atStage_fuses]; exact hcycle
  have hfails : s.gleanReady.bootConfig i = (s.gleanReady.atStage 4).bootFail 4 (s.checkImage 3 a) i.mramOk := by
    unfold State.bootConfig
    dsimp only
    rw [pickImage_none (kind := imgConfig) ha (hcheck.trans_ne hbad) hb, hcheck]
    exact if_neg hblank
  exact ⟨_, (bootStage_runs hheld hsafe hhalt hstage).trans (congrArg _ hfails), bootFail_stops _ (by decide) (checkImage_lt ..) _⟩

theorem boot_memory (hstage : s.boot.stage = some 7) : Ends (.bootStage i) s fun t =>
    t.boot.stage = some (if s.fuses.lifecycle = 1 ∨ s.fuses.lifecycle = 2 then 8 else 9) :=
  ⟨_, bootStage_runs hheld hsafe hhalt hstage, bootMemory_stage s.gleanReady i⟩

/-- Without a stored reservation the plots cannot be taken. -/
theorem boot_plots_fails (hstage : s.boot.stage = some 8) (hnone : s.storedResv = none) : Ends (.bootStage i) s fun t =>
    t.boot.stage = none ∧ t.safe = true ∧ t.fld Reg.SWD_BOOTSTAT 31 28 = 7 ∧ t.fld Reg.SWD_BOOTSTAT 27 24 = bootBadFormat := by
  have hresv : (s.gleanReady.atStage 7).storedResv.isNone = true := by
    rw [State.storedResv, atStage_mram]
    exact congrArg Option.isNone hnone
  have hfails : s.gleanReady.bootPlots i = (s.gleanReady.atStage 7).bootFail 7 bootBadFormat i.mramOk := if_pos hresv
  exact ⟨_, (bootStage_runs hheld hsafe hhalt hstage).trans (congrArg _ hfails), bootFail_stops _ (by decide) (by decide) _⟩

theorem boot_plots (hstage : s.boot.stage = some 8) (hresv : s.storedResv ≠ none) (hjnl : s.bit Reg.JNL_STATUS 0 = true)
    (hplt : s.pltReady = true) (hpaired : s.paired = true) (hown : s.own ≠ ownStarting) :
    Ends (.bootStage i) s fun t => t.boot.stage = some 9 := by
  have hregs (o : Nat) (ho : o ≠ Reg.SWD_BOOTSTAT) : (s.gleanReady.atStage 7).reg o = s.reg o := reg_setFld_other _ _ _ _ ho
  have hstored : ¬(s.gleanReady.atStage 7).storedResv.isNone = true := by
    rw [State.storedResv, atStage_mram]
    exact fun h => hresv (Option.isNone_iff_eq_none.1 h)
  have hready : ¬((!(s.gleanReady.atStage 7).bit Reg.JNL_STATUS 0) = true ∨ (!(s.gleanReady.atStage 7).pltReady) = true) := by
    rw [State.pltReady, State.bit, State.bit, hregs _ (by decide), hregs _ (by decide)]
    simp only [State.pltReady, State.bit] at hjnl hplt
    rw [hjnl, hplt]
    decide
  obtain ⟨hctl, -, -⟩ := installHeadland_keeps (s.gleanReady.atStage 7)
  have hpaired' : (s.gleanReady.atStage 7).installHeadland.paired = true := by
    rw [State.paired, bit_of_ctl hctl, State.bit, hregs _ (by decide)]
    exact hpaired
  have hown' : ¬(s.gleanReady.atStage 7).installHeadland.own = ownStarting := by
    rw [State.own, fld_of_ctl hctl, State.fld, hregs _ (by decide)]
    exact hown
  have hplots : s.gleanReady.bootPlots i =
      (((s.gleanReady.atStage 7).installHeadland.mapJournal fun j => { j with gapBoot := true }).measurePlots).thenStage 9 := by
    unfold State.bootPlots
    dsimp only
    rw [if_neg hstored, if_neg hready, if_pos hpaired', if_neg hown']
  exact ⟨_, (bootStage_runs hheld hsafe hhalt hstage).trans (congrArg _ hplots), rfl⟩

omit hheld hsafe hhalt in
/-- The last stage begins with the plot of the firmware. -/
theorem recordStage_keeps (s : State) : ((if s.pltReady then s.installHeadland else s).atStage 8).boot = s.boot ∧
    ((if s.pltReady then s.installHeadland else s).atStage 8).mram = s.mram := by
  obtain ⟨-, hboot, hmram⟩ := installHeadland_keeps s
  exact ⟨(atStage_boot ..).trans (keeps_ite (p := State.boot) hboot rfl), (atStage_mram ..).trans (keeps_ite (p := State.mram) hmram rfl)⟩

omit hheld hsafe hhalt in
theorem raiseMinVer_mram (s : State) : s.raiseMinVer.mram = s.mram := by
  unfold State.raiseMinVer
  exact keeps_ite (p := State.mram) rfl rfl

/-- The last stage writes the boot record and starts the firmware. -/
theorem boot_record (hstage : s.boot.stage = some 9) (hok : i.mramOk = true) (hseq : s.boot.seq ≠ 0) : Ends (.bootStage i) s fun t =>
    t.boot.running = true ∧ t.boot.stage = none ∧ t.mram.headSeq = s.boot.seq ∧ (t.mram.ledger.lookup s.boot.seq).isSome = true := by
  obtain ⟨hboot, -⟩ := recordStage_keeps s.gleanReady
  generalize hy : (if s.gleanReady.pltReady then s.gleanReady.installHeadland else s.gleanReady).atStage 8 = y at hboot
  have hwrites : s.gleanReady.bootRecord i = (y.writeRecord false).raiseMinVer.mapBoot fun b => { b with running := true, stage := none } := by
    unfold State.bootRecord
    dsimp only
    rw [hy, hok]
    rfl
  have hnumber : y.boot.seq = s.boot.seq := congrArg Boot.seq hboot
  obtain ⟨hhead, hledger⟩ := writeRecord_ledger y false (hnumber ▸ hseq)
  have hmram := raiseMinVer_mram (y.writeRecord false)
  refine ⟨_, (bootStage_runs hheld hsafe hhalt hstage).trans (congrArg _ hwrites), rfl, rfl, ?_, ?_⟩
  · exact (congrArg Mram.headSeq hmram).trans (hhead.trans hnumber)
  · rw [← hnumber]
    exact (congrArg (fun m : Mram => (m.ledger.lookup y.boot.seq).isSome) hmram).trans hledger

/-- Where MRAM takes no record, the boot stops. -/
theorem boot_record_fails (hstage : s.boot.stage = some 9) (hok : i.mramOk = false) : Ends (.bootStage i) s fun t =>
    t.boot.running = s.boot.running ∧ t.safe = true ∧ t.fld Reg.SWD_BOOTSTAT 31 28 = 8 ∧ t.fld Reg.SWD_BOOTSTAT 27 24 = bootLedger ∧
      t.mram = s.mram := by
  obtain ⟨hboot, hmram⟩ := recordStage_keeps s.gleanReady
  generalize hy : (if s.gleanReady.pltReady then s.gleanReady.installHeadland else s.gleanReady).atStage 8 = y at hboot hmram
  have hfails : s.gleanReady.bootRecord i = y.bootFail 8 bootLedger false := by
    unfold State.bootRecord
    dsimp only
    rw [hy, hok]
    rfl
  obtain ⟨-, hsafe', hat, herr⟩ := bootFail_stops y (stage := 8) (err := bootLedger) (by decide) (by decide) false
  obtain ⟨hrunning, hkept⟩ := bootFail_keeps y 8 bootLedger
  exact ⟨_, (bootStage_runs hheld hsafe hhalt hstage).trans (congrArg _ hfails), hrunning.trans (congrArg Boot.running hboot), hsafe', hat,
    herr, hkept.trans hmram⟩

end

/-- Settles O56: the check of an image, and stage by stage what the boot takes, measures and refuses; a stage that fails is one lemma,
and so is what a pair's test leaves of the other pairs. -/
theorem bootStages : Obligations.BootStages := by
  intro s i
  refine ⟨fun kind b => checkImage_accepts, bootStage_idle, fun hheld hsafe hhalt => ⟨boot_rom hheld hsafe hhalt, boot_keys hheld hsafe hhalt,
    boot_firmware hheld hsafe hhalt, boot_pairs hheld hsafe hhalt, fun hstage a => boot_microcode hheld hsafe hhalt hstage,
    fun hstage hcycle a => boot_config hheld hsafe hhalt hstage hcycle, boot_memory hheld hsafe hhalt,
    fun hstage => ⟨boot_plots_fails hheld hsafe hhalt hstage, boot_plots hheld hsafe hhalt hstage⟩,
    fun hstage => ⟨boot_record hheld hsafe hhalt hstage, boot_record_fails hheld hsafe hhalt hstage⟩⟩⟩

end Sys2Proof.Machine
end

section
/-! OBLIGATIONS. START (O46). -/

namespace Sys2Proof.Machine

open Sys2Proof Sys2Proof.Stated Sys2Proof.Tests

/-! ## A unit with a load link to its own operation block

START writes RUNNING into STATUS of the block, as an engine writes, and a write to a line ends every load link to it (R400), that of
the unit itself too. The statement keeps every register of the unit but rd, its load link among them. -/

/-- The state of the witness of START, where unit 0 has linked the first granule of the block that it starts. -/
def linkedStart : State := (P21.stS 0 P21.prog1).mapArch 0 fun a => { a with link := some P21.blkpa }

/-- START r1, r1. -/
def linkedStartF : ImmF := ⟨1, 1, 0⟩

/-- The place of the block. -/
def linkedPlace : Place := pl P21.blkpa

def linkOf (r : Ans) : Option Nat :=
  match r with
  | .next t => (archOf t 0).link
  | _ => none

theorem linkedStart_unlinks : linkOf (exec (.start 0 linkedStartF) linkedStart) = none := by decide +kernel

/-- A unit is at a START whose operation block, at a place, meets every check, and so does its program, at a physical address
(R499, R500). -/
def Startable (s : State) (u : Nat) (f : ImmF) (p : Place) (pa : Nat) : Prop :=
  let a := archOf s u
  let ea := (a.reg f.ra).toNat
  let plot := (s.unit u).execPlot
  let b := s.bytes p.pa 64
  let n := leAt b 2 2
  let cs := (List.range n).map fun i => chanCmd (b ++ s.bytes pa (32 * n)) i
  s.fetches u = true ∧ f.imm = 0 ∧ 1 ≤ a.level ∧ s.xlat u (a.space 1) ea 64 .write = .ok p ∧ ea % 64 = 0 ∧ p.pa % 64 = 0 ∧
  s.agentStatus frwStop p.pa 64 = .ok ∧ blockOk b = true ∧ leAt b 16 8 % 32 = 0 ∧ engineAddrOk plot (leAt b 16 8) = true ∧
  s.engineXlat plot (leAt b 16 8) (32 * n) false = some pa ∧ s.agentStatus frwStop pa (32 * n) = .ok ∧
  (∀ c ∈ cs, s.channelOk plot c = true) ∧ (s.furrow.ops.filter fun o => o.unit.isSome).length < 3072 ∧ s.furrow.ops.length < 4096 ∧
  ((s.furrow.ops.filter fun o => o.unit.isSome).filter fun o => o.plot = plot).length < s.fld Reg.FRW_CFG 24 16 ∧
  s.entriesFree plot (cs.flatMap fun c => s.entryFor plot c) = true ∧ s.frwReady = true

/-- What the statement says of the registers of a unit that starts a block. -/
theorem Startable.registers {s : State} {u : Nat} {f : ImmF} {p : Place} {pa : Nat} (hs : Startable s u f p pa)
    (h : Obligations.Furrow) : ∃ t, exec (.start u f) s = .next t ∧ archOf t u = after ((archOf s u).setReg f.rd 0) (pcNext s u) := by
  obtain ⟨hfetch, himm, hlevel, hplace, halign, hpa, hblock, hok, hprog, haddr, hxlat, hread, hcmds, hunits, hops, hlimit, hfree, hready⟩ := hs
  obtain ⟨hstart, -⟩ := h
  obtain ⟨-, hstarts⟩ := hstart s u f p hfetch himm hlevel hplace
  obtain ⟨t, hrun, harch, -⟩ := hstarts halign hpa hblock hok hprog haddr _ hxlat hread hcmds hunits hops hlimit hfree hready
  exact ⟨t, hrun, harch⟩

theorem linkedStart_startable : Startable linkedStart 0 linkedStartF linkedPlace (P21.blkpa + 512) := by
  unfold Startable
  decide +kernel

theorem linkedStart_link : (after ((archOf linkedStart 0).setReg linkedStartF.rd 0) (pcNext linkedStart 0)).link = some P21.blkpa := by
  decide +kernel

/-- Refutes O46: the load link of the unit that starts a block ends where it covers the block, since START writes the block's STATUS;
the statement keeps it. -/
theorem not_furrow : ¬ Obligations.Furrow := by
  intro h
  obtain ⟨t, hrun, harch⟩ := linkedStart_startable.registers h
  have hnone := linkedStart_unlinks
  rw [hrun] at hnone
  have hkept : linkOf (.next t) = some P21.blkpa := (congrArg Arch.link harch).trans linkedStart_link
  rw [hkept] at hnone
  exact Option.some_ne_none _ hnone

end Sys2Proof.Machine
end

section
/-! OBLIGATIONS. Frames for other devices (O48). -/

namespace Sys2Proof.Machine

open Sys2Proof Sys2Proof.Stated

/-! ## A frame that arrives with more than 6 hops

By R527 a frame whose HOPS is already 6 is discarded, which sets HOPLIMIT, bit 3 of WFT_ERR. The model does so for 6 and above; the
statement speaks of 6 alone, and has a frame that comes with 7 sent on, or discarded for want of a route, which sets bit 4. -/

/-- A device whose link 0 is UP, without a route. -/
def farState : State := State.reset.mapLink 0 fun x => { x with state := .up }

/-- A STAKE_REQ frame for device 1 without a payload, after 7 hops. -/
def farFrame : List Byte := [0x10, 0, 0, 1, 0, 0, 7, 0, 0, 0, 0, 0, 0, 0, 0, 0]

theorem farFrame_ok : frameOk farFrame = true ∧ beAt farFrame 2 2 = 1 ∧ beAt farFrame 0 1 = 16 ∧ beAt farFrame 6 1 = 7 := by
  decide +kernel

theorem farState_stands : farState.linkUp 0 = true ∧ farState.devId ≠ 1 ∧ farState.safe = false ∧ farState.routeTo 1 = none ∧
    farState.bit Reg.WFT_ERR 3 = false := by
  decide +kernel

/-- A frame that has come too far is discarded for that. -/
theorem farFrame_discarded : exec (.weftFrameForward 0 farFrame) farState = .next (farState.setBit Reg.WFT_ERR 3 true) := by
  obtain ⟨hok, hdst, htype, hhops⟩ := farFrame_ok
  obtain ⟨hup, hdev, hsafe, -, -⟩ := farState_stands
  change execWeftFrameForward 0 farFrame farState = _
  have hother : ¬(beAt farFrame 2 2 = farState.devId ∨ beAt farFrame 0 1 ≤ wfRebuild ∨ farState.safe = true) := by
    rw [hdst, htype, hsafe]
    simp [hdev.symm, wfRebuild]
  have hfar : 6 ≤ beAt farFrame 6 1 := by omega
  rw [execWeftFrameForward, if_pos hup, State.forwardFrame, hok, Bool.not_true, if_neg Bool.false_ne_true]
  dsimp only
  rw [if_neg hother, if_pos hfar]

/-- Refutes O48: a frame for another device that arrives with 7 hops, and has no route, sets bit 3 of WFT_ERR and not bit 4. -/
theorem not_weft : ¬ Obligations.Weft := by
  unfold Obligations.Weft
  rintro ⟨-, hlinks, -⟩
  obtain ⟨hok, hdst, htype, hhops⟩ := farFrame_ok
  obtain ⟨hup, hdev, hsafe, hroute, hclear⟩ := farState_stands
  obtain ⟨-, -, -, -, -, -, -, hforward⟩ := hlinks farState 0 (by decide)
  obtain ⟨-, -, hnone⟩ := hforward farFrame hup hok (by rw [hdst]; exact hdev.symm) (by rw [htype]; decide) hsafe
  obtain ⟨t, hrun, ht⟩ := hnone (by rw [hhops]; decide) (by rw [hdst]; exact hroute)
  have hsame : farState.setBit Reg.WFT_ERR 3 true = farState.setBit Reg.WFT_ERR 4 true := by
    rw [farFrame_discarded] at hrun
    exact (Host.Outcome.next.inj hrun).trans ht
  have hbit := congrArg (fun s : State => s.bit Reg.WFT_ERR 3) hsame
  have hset : (farState.setBit Reg.WFT_ERR 3 true).bit Reg.WFT_ERR 3 = true := bit_setBit_same _ true (by decide)
  have hkept : (farState.setBit Reg.WFT_ERR 4 true).bit Reg.WFT_ERR 3 = false :=
    (bit_setBit_otherBit _ true (by decide) (by decide)).trans hclear
  exact Bool.false_ne_true (hkept.symm.trans (hbit.symm.trans hset))

end Sys2Proof.Machine
end
